-- ==== Sys2Proof/Word.lean ====
section
/-! DEFINITION. The word types of the KX8 (R4: fields are unsigned binary unless their description says signed) and
their plainest arithmetic. -/

namespace Sys2Proof

/-- A register, descriptor or record word (chapter 17: every register is 32 bits wide). -/
abbrev Word := BitVec 32

/-- A byte of the ring window or of a bus transaction. -/
abbrev Byte := BitVec 8

/-- A Reed-Solomon symbol, ten bits (R128). -/
abbrev Sym := BitVec 10

/-- Bits [hi:lo] of a number (chapter 00, notation of bit ranges). -/
def bitsOf (x hi lo : Nat) : Nat := (x / 2 ^ lo) % 2 ^ (hi + 1 - lo)

/-- One bit of a number. -/
def bitOf (x k : Nat) : Bool := x.testBit k

/-- A Boolean as the bit value 0 or 1. -/
def b2n (b : Bool) : Nat := if b then 1 else 0

/-- The two's complement reading of the low `w` bits of `x` (R4). -/
def toSigned (w x : Nat) : Int :=
  let y := x % 2 ^ w
  if y < 2 ^ (w - 1) then (y : Int) else (y : Int) - (2 ^ w : Nat)

/-- The low `w` bits of the two's complement form of `x` (R4). -/
def ofSigned (w : Nat) (x : Int) : Nat := (x % ((2 ^ w : Nat) : Int)).toNat

/-- `x` limited to the closed range from `lo` to `hi`. -/
def clampI (lo hi x : Int) : Int := max lo (min hi x)

/-- `x` limited to at most `hi`: a saturating count. -/
def satN (hi x : Nat) : Nat := min hi x

end Sys2Proof
end

