-- ==== Sys2Proof/Syntax.lean ====
section
/-! DEFINITION. The commands the block takes (spec/opcode_table.json) and the types of their operands. -/

namespace Sys2Proof

/-- A direction of a port: host-to-line, whose show clock is SC_TX, or line-to-host, whose show clock is SC_RX
(chapter 02; R40 bit 0 TX, 1 RX). -/
inductive Dir where
  | tx
  | rx
  deriving DecidableEq, Repr

/-- The direction's bit in registers, events and descriptors: 0 SC_TX, 1 SC_RX. -/
def Dir.bit : Dir → Nat
  | .tx => 0
  | .rx => 1

/-- An interface of the direct register file (R337, R353): its number is 0 I2C port A, 1 SPI, 2 management core. -/
inductive Iface where
  | i2cA
  | spi
  | core
  deriving DecidableEq, Repr

def Iface.num : Iface → Nat
  | .i2cA => 0
  | .spi => 1
  | .core => 2

/-- The calibration targets, by their bit in CAL_RUN's target set and CAL_STATE.TARGETS (R232). -/
inductive CalTarget where
  | lineSlices
  | dacSkew
  | hostSlices
  | biasDacs
  | senseChans
  deriving DecidableEq, Repr

/-- A receiving lane: a line lane or a host lane (R185: the line receiver's rules apply to host lanes). -/
inductive LaneId where
  | line (n : Fin 8)
  | host (n : Fin 16)
  deriving DecidableEq, Repr

def LaneId.num : LaneId → Nat
  | .line n => n.val
  | .host n => n.val

def LaneId.isLine : LaneId → Bool
  | .line _ => true
  | .host _ => false

/-- A command descriptor as the host wrote it (R325): tag, NOTIFY, the rest of word 1, and parameters w2 to w15. The
opcode is the row's own. -/
structure Cmd where
  tag : BitVec 16
  notify : Bool
  w1rest : BitVec 31
  params : Vector Word 14
  deriving DecidableEq, Repr

/-- Descriptor word k for k = 2..15 (R325). -/
def Cmd.w (c : Cmd) (k : Nat) : Nat := (c.params[k - 2]?.getD 0).toNat

/-- A frame as the flow observer's parser finds it (R299, R300): addresses in transmission order with the first byte in
the highest bits, the outer tag's VLAN ID, the first type field after the tags, the size from destination address
through FCS, and whether the FCS is good. -/
structure Frame where
  port : Fin 8
  dir : Dir
  da : BitVec 48
  sa : BitVec 48
  vlan : Option (BitVec 12)
  etherType : BitVec 16
  size : Nat
  fcsGood : Bool
  deriving DecidableEq, Repr

/-- What the assigned pool member does with a codeword (R132): its work, a wrong result reported as success, or a failure
reported for a codeword it should decode. -/
inductive MemberConduct where
  | good
  | wrong
  | failing
  deriving DecidableEq, Repr

/-- The two forms of a pool member's stored test codeword (R132): 15 symbol errors; 10 errors and 10 erasures. -/
inductive PoolTest where
  | errors
  | erasures
  deriving DecidableEq, Repr

/-- What the environment brings with a codeword: each parity error found in it on read-out of the deskew (0) or interleaver and
deinterleaver (1) buffers (R364); each found at the re-encoder's input: the place of the block among those that leave with this command,
and whether the rate-match FIFO's word fails or the block's own parity (R372); whether no pool member is free, which can happen below
NEED only (R131); the assigned member's conduct; and in ASYNC how many codewords the output forms meanwhile (R158, R160). -/
structure CodewordCond where
  parity : List (Fin 2)
  blocks : List (Nat × Bool)
  noFree : Bool
  member : MemberConduct
  outs : Nat
  deriving DecidableEq, Repr

/-- What the format's own lock procedure finds of a PCS lane on a host lane at a marker group (R147): the PCS lane's number, whether it
is locked, the place in the host lane's stream of symbols where its share of the group's first codeword begins, and the group's arrival
in host symbols on the port's common scale. -/
structure PcsMark where
  pcs : Nat
  locked : Bool
  place : Nat
  arrival : Nat
  deriving DecidableEq, Repr

/-- What a test engine comes to (R435): the expected count with a signature that matches or differs, or another count. -/
inductive TestVerdict where
  | pass
  | fail
  | miscount
  deriving DecidableEq, Repr

/-- What the start-up checker self-test finds (R365): a failing macro with the number of errors in the failing pattern, or a
triplet; or an OTP row that cannot be corrected (R412). -/
inductive CheckerFail where
  | code (macroNo : Fin 9) (errors : Fin 4)
  | triplet (macroNo : Fin 9)
  | otp
  deriving DecidableEq, Repr

/-- What checks 13 to 15 of R425 say of an image's bytes: none fails, or the first that does. -/
inductive ImageVerdict where
  | good
  | unwrap
  | signature
  | decrypt
  deriving DecidableEq, Repr

/-- E_IMAGE's sub-code of a verdict; 0 where none fails. -/
def ImageVerdict.sub : ImageVerdict → Nat
  | .good => 0
  | .unwrap => 13
  | .signature => 14
  | .decrypt => 15

/-- What the boot brings that the state does not hold: whether the images of slots A and B fail their read-back from the flash (R425,
check 16). -/
structure BootReads where
  a : Bool
  b : Bool
  deriving DecidableEq, Repr

/-- What a starting Mexis brings (R432): its settings format; the keys of the fields of an older block that it cannot
translate; whether the write of a migrated block verifies. -/
structure MexisStart where
  format : BitVec 16
  lost : List Nat
  verified : Bool
  deriving DecidableEq, Repr

/-- What Mexis makes of a CMIS write to page 10h it applies (R189, R321): a code of a lane's transmitter, or a lane's output disabled or
enabled; the lane is lane i of the bank. -/
inductive CmisAct where
  | pre (lane : Fin 8) (code : Fin 8)
  | post (lane : Fin 8) (code : Fin 8)
  | amp (lane : Fin 8) (code : Fin 4)
  | rxDisable (lane : Fin 8) (off : Bool)
  | txDisable (lane : Fin 8) (off : Bool)
  deriving DecidableEq, Repr

/-- What falls in the same register-file cycle as a register access (R344, R351): an access of another interface; a show clock that reaches
its triggers (R342); an uncorrectable word of a bank, found by the scrubber or not, that MEM_ERR_INFO may capture. -/
inductive Beside where
  | write (iface : Iface) (addr : BitVec 24) (data : Word)
  | read (iface : Iface) (addr : BitVec 24)
  | cue (port : Fin 8) (d : Dir)
  | lostWord (bank : Fin 64) (addr : Fin 32768) (scrub : Bool)
  deriving DecidableEq, Repr

/-- A bit held in three copies (R348, R358): of a voted register field, or a stored word's valid or poison mark. -/
inductive VotedBit where
  | field (addr : BitVec 24) (bit : Fin 32)
  | mark (bank : Fin 64) (word : Fin 32768) (poison : Bool)
  deriving DecidableEq, Repr

/-- The commands the block takes: one constructor per row of spec/opcode_table.json, in the table's order. What the
measuring hardware, a partner or a host brings with the command is an operand (log entry 2). -/
inductive Instr where
  /-- HOST_TO_LINE_CODEWORD, R6. A codeword of a port passes host-to-line through alignment, RS decode and re-encode or syndrome check, rate match, inner encoding and lane distribution, and SC_TX advances. -/
  | hostToLineCodeword (port : Fin 8) (codes : List (List Int)) (k : CodewordCond)
  /-- LINE_TO_HOST_CODEWORD, R128. A codeword received on the line lanes is deskewed, inner-decoded, RS-decoded by a pool member or syndrome-checked, rate-matched and re-encoded toward the host, and SC_RX advances. -/
  | lineToHostCodeword (port : Fin 8) (codes : List (List Int)) (k : CodewordCond)
  /-- PLL_LOCK_LOSS, R14. A line or host main PLL loses lock and the region switches to its understudy PLL, its lanes re-locking within 200 µs. -/
  | pllLockLoss (line : Bool) (region : Fin 2)
  /-- SYS_PLL_LOCK_LOSS, R22. The system PLL loses lock; management, loop engine and sense chain fall back to the crystal, loops take lost-feedback action and the aside channel stops. -/
  | sysPllLockLoss
  /-- SYS_PLL_RELOCK, R22. The system PLL relocks; the fall-backs end and the aside channel restarts. -/
  | sysPllRelock
  /-- LOCKSTEP_MISMATCH, R9. The lockstep comparator sees a mismatch and the management processor pair restarts. -/
  | lockstepMismatch
  /-- CUE_FIRE, R30. A watched show clock reaches a cue entry's trigger and the entry executes its action, GO actions first, then frees itself or re-arms. -/
  | cueFire (port : Fin 8) (d : Dir) (beside : List Beside)
  /-- CAL_DEFERRED_START, R31. Mexis starts the deferred calibration run named by a fired CAL_START cue within 100 µs. -/
  | calDeferredStart (handle : BitVec 16)
  /-- CUE_SET, R39. Command that arms a one-shot or periodic cue entry after range and state checks. -/
  | cueSet (c : Cmd)
  /-- CUE_CANCEL, R39. Command that cancels an armed cue entry. -/
  | cueCancel (c : Cmd)
  /-- CUE_READ, R39. Command that returns the state and next trigger of a cue entry. -/
  | cueRead (c : Cmd)
  /-- CUE_AGREE, R35. Command that checks local conditions, reserves an entry and sends CUE_PROPOSE to the partner to agree a codeword. -/
  | cueAgree (c : Cmd)
  /-- CUE_AGREE_TIMEOUT, R35. No CUE_ACK has arrived 0.5 ms before codeword N, so the reserved entry is freed and CUE_AGREE completes E_TIMEOUT. -/
  | cueAgreeTimeout (entry : Fin 64)
  /-- CUE_PROPOSE_RESEND, R223. The proposing side resends an unanswered CUE_PROPOSE every 200 µs. -/
  | cueProposeResend (entry : Fin 64)
  /-- HC_ADJUST, R41. Command that adds a non-negative offset to the house clock and clears HC_ESTIMATED. -/
  | hcAdjust (c : Cmd)
  /-- CUE_LATCH_WRITE, R39. A write to CUE_LATCH copies the house clock and the selected show clock into the latch registers on one crystal cycle. -/
  | cueLatchWrite (port : Fin 8) (d : Dir)
  /-- GO_FIRE, R342. A write of a mask to GO_FIRE fires the named GO groups, whose checks are evaluated and whose staged values become effective on acceptance. -/
  | goFire (mask : BitVec 16) (beside : List Beside)
  /-- GO_DISCARD, R346. A write of a mask to GO_DISCARD copies each named group's effective RS values back into staged. -/
  | goDiscard (mask : BitVec 16)
  /-- REGISTER_WRITE, R339. An interface writes one register or window word (R339). -/
  | registerWrite (iface : Iface) (addr : BitVec 24) (data : Word) (beside : List Beside)
  /-- REGIF_ERR_INFO_REARM, R340. A write of 0 to REGIF_ERR_INFO.VALID (R340), with what falls in its cycle (R351). -/
  | regifErrInfoRearm (iface : Iface) (beside : List Beside)
  /-- MEM_ERR_INFO_REARM, R340. A write of 0 to MEM_ERR_INFO.VALID (R340), with what falls in its cycle (R351). -/
  | memErrInfoRearm (iface : Iface) (beside : List Beside)
  /-- VOTED_FIELD_UPSET, R348. One copy of a voted bit is upset, of a field (R348) or of a stored word's mark (R358). -/
  | votedFieldUpset (b : VotedBit)
  /-- CTLE_DWELL_END, R56. A 64 µs CTLE search dwell ends; the ratio is measured, the next code is applied or the best code kept at the end of the search. -/
  | ctleDwellEnd (lane : LaneId) (codes : List Int)
  /-- VGA_MEASUREMENT, R57. Every 1 µs the lane's RMS level is measured and a gain step becomes due after four out-of-window measurements. -/
  | vgaMeasurement (lane : LaneId) (codes : List Int)
  /-- VGA_STEP, R58. A due VGA step is taken at a block boundary at which no aside reception or capture holds it and 64 µs have passed, and the FFE is rescaled. -/
  | vgaStep (lane : LaneId)
  /-- SLICE_MONITOR_WINDOW, R62. A 4,096-sample slice monitor window ends and each in-service slice is checked for stuck, out-of-range, offset and gain faults. -/
  | sliceMonitorWindow (lane : LaneId) (codes : List (List Int))
  /-- SLICE_FAULT_SWAP, R64. After the understudy has settled, the pending swap lands at a block boundary and the flagged slice becomes the FAILED understudy. -/
  | sliceFaultSwap (lane : LaneId)
  /-- LRX_SLICE_RETIRE, R76. Command that retires a slice by a swap under R64. -/
  | lrxSliceRetire (c : Cmd)
  /-- LRX_SLICE_RESTORE, R67. Command that starts a transparent 2.0 ms test of a FAILED understudy. -/
  | lrxSliceRestore (c : Cmd)
  /-- SLICE_RESTORE_TEST_END, R67. The restore test ends; FAILED clears on a pass, NOSPARE is resolved by a swap, and the command completes. -/
  | sliceRestoreTestEnd (lane : LaneId) (pass : Bool)
  /-- LOCK_WINDOW_END, R69. A timing-recovery lock window ends and LOL is set or cleared by the window count; on host lanes in FORWARDED this also ends training. -/
  | lockWindowEnd (lane : LaneId) (codes : List Int)
  /-- LOS_SET, R70. A loss-of-signal detector stays asserted for 1 µs, LOS sets, front-end state is held, and a lane of an UP port is lost. -/
  | losSet (lane : LaneId) (env : Option Nat)
  /-- LOS_CLEAR, R70. A lane's signal stays above the clearing threshold for 1 µs and LOS clears, the held blocks resuming. -/
  | losClear (lane : LaneId) (env : Option Nat)
  /-- SPOT_CTRL_START, R73. A write of START to LRX_SPOT_CTRL begins a capture at the next block boundary, or is refused. -/
  | spotCtrlStart (lane : Fin 8) (slice : BitVec 7) (source : BitVec 2)
  /-- LRX_SPOT_START, R76. Command that starts a spotlight capture with source and slice from the command. -/
  | lrxSpotStart (c : Cmd)
  /-- SPOT_CAPTURE_END, R74. A capture fills the buffer and its header is written and held. -/
  | spotCaptureEnd (lane : Fin 8) (codes : List Int) (parity : Bool)
  /-- LRX_SPOT_READ, R76. Command that copies part of a held capture image into the bulk area. -/
  | lrxSpotRead (c : Cmd)
  /-- EQ_UPDATE, R89. Every 2^UPDATE_DIV DSP clocks the equaliser updates its non-frozen taps, offsets, restorer gain and detector table. -/
  | eqUpdate (lane : LaneId) (codes : List Int)
  /-- OUTLIER_WINDOW_END, R88. A 65,536-symbol outlier window ends and the equaliser may enter DD, fall back to CMA or judge a warm resume. -/
  | outlierWindowEnd (lane : LaneId) (codes : List Int)
  /-- EQ_WARM_RESUME, R93. Once LOS and then LOL clear, the equaliser resumes DD from held values and sets WARM. -/
  | eqWarmResume (lane : LaneId)
  /-- METRIC_WINDOW_END, R94. A 2^20-symbol metric window ends and SNR, histogram and decision counts update. -/
  | metricWindowEnd (lane : LaneId) (codes : List Int)
  /-- LEQ_STATE_READ, R95. Command that copies a lane's equaliser state image into the bulk area. -/
  | leqStateRead (c : Cmd)
  /-- LEQ_STATE_LOAD, R95. Command that loads an equaliser state image into a lane and sets VALID. -/
  | leqStateLoad (c : Cmd)
  /-- SWING_STEP, R99. The swing in use moves one step toward the target at a block boundary at least 1 µs after the last step. -/
  | swingStep (lane : Fin 8)
  /-- TRAINING_BURST_END, R107. A training burst ends and data follows at the next block boundary. -/
  | trainingBurstEnd (lane : LaneId)
  /-- LTX_LUT_WRITE, R116. Command that writes entries of a lane's shadow lookup bank. -/
  | ltxLutWrite (c : Cmd)
  /-- LTX_LUT_READ, R116. Command that copies entries of the active or shadow bank to the bulk area. -/
  | ltxLutRead (c : Cmd)
  /-- LTX_LUT_CLEAR, R358. Command that clears the valid bits of the shadow bank so it reads zero. -/
  | ltxLutClear (c : Cmd)
  /-- XA_START, R111. Command that checks consent and starts cross-link adaptation on the named lanes. -/
  | xaStart (c : Cmd)
  /-- XA_STOP, R115. Command that stops adaptation, cancelling its swaps and optionally reverting the table. -/
  | xaStop (c : Cmd)
  /-- XA_STATS_TIMEOUT, R112. Fragments have not all arrived 20 ms after the window, so the request is repeated or adaptation stops NO_STATS. -/
  | xaStatsTimeout (lane : Fin 8)
  /-- XA_TRACK_TIMER, R114. In TRACK mode the XA_PERIOD wait ends and the next iteration starts. -/
  | xaTrackTimer (lane : Fin 8)
  /-- XA_GATHER_WINDOW_END, R109. The partner's gathering window closes and the statistics set is sent in 16 fragments. -/
  | xaGatherWindowEnd (lane : Fin 8)
  /-- POOL_IDLE_TEST, R132. An unfenced pool member is taken out of rotation and given a stored test codeword, and is fenced on a wrong result. -/
  | poolIdleTest (d : Dir) (member : Fin 16) (form : PoolTest) (conduct : MemberConduct)
  /-- FEC_FENCE, R133. Command that fences a pool member. -/
  | fecFence (c : Cmd)
  /-- FEC_UNFENCE, R133. Command that starts 256 stored test codewords on a fenced member. -/
  | fecUnfence (c : Cmd)
  /-- UNFENCE_TEST_END, R133. The unfence test ends and the member rejoins or stays fenced. -/
  | unfenceTestEnd (d : Dir) (pass : Bool)
  /-- SD_WINDOW_END, R142. A signal-degrade window ends and SD sets or clears from the corrected-symbol sum. -/
  | sdWindowEnd (port : Fin 8) (d : Dir)
  /-- HOST_MARKER_GROUP, R147. A marker group arrives on the host lanes and marker lock, reordering and deskew of the host side advance. -/
  | hostMarkerGroup (port : Fin 8) (marks : Vector (List PcsMark) 16)
  /-- LINE_MARKER_GROUP, R150. A candidate or expected marker position on a line lane is compared and the lock machine, deskew and ALIGN judgement advance. -/
  | lineMarkerGroup (lane : Fin 8) (pos : Nat) (arrival : Nat)
  /-- TPC_WINDOW_END, R156. A 1,024-bit checker window ends and LOCK sets or drops. -/
  | tpcWindowEnd (lane : LaneId) (codes : List Int)
  /-- TPC_SLIP, R157. Command that moves a checker's reference by bits or symbols at the next window boundary. -/
  | tpcSlip (c : Cmd)
  /-- ACQUIRE_COMPLETE, R167. Every lane of a port in ACQUIRE has LOS and LOL clear and its equaliser in DD, so the port enters ALIGN. -/
  | acquireComplete (port : Fin 8)
  /-- ACQ_TO_EXPIRY, R168. ACQ_TO runs out and the port returns to DOWN with back-off. -/
  | acqToExpiry (port : Fin 8)
  /-- ALIGN_TO_EXPIRY, R169. ALIGN_TO runs out and ALIGN fails. -/
  | alignToExpiry (port : Fin 8)
  /-- PROBE_TO_EXPIRY, R171. PROBE_TO runs out with an identity missing and the port goes DOWN with NO_LOCK. -/
  | probeToExpiry (port : Fin 8)
  /-- BACKOFF_EXPIRY, R167. The back-off of a DOWN port ends so that ADMIN_UP can restart it. -/
  | backoffExpiry (port : Fin 8)
  /-- LANE_REJOIN, R175. A lost lane that meets the rejoin conditions rejoins at the next codeword or superblock boundary and marking for it stops. -/
  | laneRejoin (lane : Fin 8)
  /-- REJOIN_TO_EXPIRY, R177. A lost lane's REJOIN_TO runs out and the port restarts at ACQUIRE. -/
  | rejoinToExpiry (port idx : Fin 8)
  /-- LINK_RESTART, R181. Command that sends a port into ACQUIRE and cancels back-off. -/
  | linkRestart (c : Cmd)
  /-- HSL_TRAIN_TIMEOUT, R187. A host lane not locked 200 µs into training restarts training. -/
  | hslTrainTimeout (lane : Fin 16)
  /-- HSL_TRACK_WINDOW, R187. A FORWARDED tracking window ends and PI_CODE may move by one code. -/
  | hslTrackWindow (lane : Fin 16) (codes : List Int)
  /-- REF_LOST, R192. A reference clock is declared lost and its PLLs enter holdover or take the other forwarded clock. -/
  | refLost (ref : Fin 3)
  /-- REF_PRESENT, R192. A reference clock has been in range for 1 ms and is declared present. -/
  | refPresent (ref : Fin 3)
  /-- REF_SLEW_DONE, R193. A region's phase slew to its new reference ends, holdover ends and its host lanes retrain. -/
  | refSlewDone (region : Fin 2)
  /-- REF_REVERT_TIMER, R193. With REF_REVERT, a region's own clock has been present 100 ms and the region changes back to it. -/
  | refRevertTimer (region : Fin 2)
  /-- WANDER_LIMIT, R194. Phase wander reaches a gearbox limit and the gearbox recentres, dropping or repeating a block. -/
  | wanderLimit (lane : LaneId) (transmit repeated : Bool)
  /-- FAILOVER_TIMER, R195. 10 µs after the followed lane fails or relocks, the interpolators take another locked lane or return. -/
  | failoverTimer (port : Fin 8) (rx : Bool)
  /-- CLK_MODE_PLL_LOCK, R196. After a CLK_MODE change the PLLs lock and CORE returns to its own clocks. -/
  | clkModePllLock
  /-- CLK_MODE_LOCK_TIMEOUT, R196. A PLL has not locked 5 ms after a CLK_MODE change and the lock failure is reported. -/
  | clkModeLockTimeout
  /-- HSL_RETRAIN, R199. Command that retrains the phase of the named host lanes in FORWARDED. -/
  | hslRetrain (c : Cmd)
  /-- HSL_SLICE_RETIRE, R199. Command that retires a host-lane slice. -/
  | hslSliceRetire (c : Cmd)
  /-- HSL_SLICE_RESTORE, R199. Command that tests and restores a FAILED host-lane understudy. -/
  | hslSliceRestore (c : Cmd)
  /-- CLK_REF_REVERT, R193. Command that returns a host region to its own forwarded clock. -/
  | clkRefRevert (c : Cmd)
  /-- HELLO_TIMER, R214. HELLO_PERIOD expires and a HELLO is queued on the lane. -/
  | helloTimer (lane : Fin 8)
  /-- HEALTH_TIMER, R214. HEALTH_PERIOD expires and a HEALTH packet is queued on the lane. -/
  | healthTimer (lane : Fin 8)
  /-- ASIDE_PACKET_START, R214. A queued aside packet starts on the lane's 3.6 µs grid in priority order. -/
  | asidePacketStart (lane : Fin 8)
  /-- ASIDE_PACKET_END, R210. An aside packet finishes sending and a waiting ASD_SEND may complete. -/
  | asidePacketEnd (lane : Fin 8)
  /-- PREAMBLE_DETECT, R217. The correlator detects a preamble, and a reception starts, captures over a weaker one, or the detection is counted as overlap or weak. -/
  | preambleDetect (lane : Fin 8) (codes : List Int) (m : Nat)
  /-- HELLO_RECEIVED, R222. An accepted HELLO updates partner state and pairs SC_RX, and feeds width and probe checks. -/
  | helloReceived (lane : Fin 8) (codes : List Int)
  /-- HEALTH_RECEIVED, R213. An accepted HEALTH packet is stored. -/
  | healthReceived (lane : Fin 8) (codes : List Int)
  /-- XADAPT_REQUEST_RECEIVED, R109. An XADAPT request arms the statistics gatherer on a COOPERATIVE lane. -/
  | xadaptRequestReceived (lane : Fin 8) (codes : List Int)
  /-- XADAPT_FRAGMENT_RECEIVED, R112. A statistics fragment is accepted; with all 16, Mexis computes the update, writes the shadow bank and agrees a swap. -/
  | xadaptFragmentReceived (lane : Fin 8) (codes : List Int)
  /-- CUE_PROPOSE_RECEIVED, R223. A partner's cue proposal is acted on by arming a cue or recording a boundary, and answered. -/
  | cueProposeReceived (lane : Fin 8) (codes : List Int)
  /-- CUE_ACK_RECEIVED, R35. A CUE_ACK arrives and CUE_AGREE arms its cue or frees the entry and completes. -/
  | cueAckReceived (lane : Fin 8) (codes : List Int)
  /-- LOADING_PROPOSE_RECEIVED, R227. The sending end stores the proposed table and answers CONFIRM. -/
  | loadingProposeReceived (lane : Fin 8) (codes : List Int)
  /-- LOADING_CONFIRM_RECEIVED, R227. The receiving end takes the confirmed loading into use. -/
  | loadingConfirmReceived (lane : Fin 8) (codes : List Int)
  /-- TAG_PACKET_RECEIVED, R213. An accepted TAG packet is stored. -/
  | tagPacketReceived (lane : Fin 8) (codes : List Int)
  /-- AUTH_CHALLENGE_RECEIVED, R226. An AUTH CHALLENGE is answered with a RESPONSE or NO_KEY. -/
  | authChallengeReceived (lane : Fin 8) (codes : List Int)
  /-- AUTH_RESPONSE_RECEIVED, R226. An AUTH RESPONSE sets AUTH_STATE to VERIFIED or NO_KEY. -/
  | authResponseReceived (lane : Fin 8) (codes : List Int)
  /-- PARTNER_TIMEOUT, R222. No HELLO has been accepted for PARTNER_TO and the partner ceases to be UP. -/
  | partnerTimeout (lane : Fin 8)
  /-- AUTH_CHALLENGE_TIMER, R226. Every 60 s a lane with AUTH on sends a fresh challenge. -/
  | authChallengeTimer (lane : Fin 8)
  /-- LOADING_EVALUATION, R227. Every 100 ms the receiving end computes a loading and proposes it when it differs enough. -/
  | loadingEvaluation (lane : Fin 8)
  /-- LOADING_GRACE_END, R227. 100 ms after CONFIRM the previous loading is no longer accepted. -/
  | loadingGraceEnd (lane : Fin 8)
  /-- ASD_BUF_SET, R230. Command that fills an aside packet buffer. -/
  | asdBufSet (c : Cmd)
  /-- ASD_SEND, R230. Command that sends a buffer on the named lanes. -/
  | asdSend (c : Cmd)
  /-- ASD_RX_READ, R230. Command that copies the last accepted packet of a type to the bulk area. -/
  | asdRxRead (c : Cmd)
  /-- ASD_KEY_SET, R225. The command ASD_KEY_SET (R230). -/
  | asdKeySet (c : Cmd)
  /-- ASD_KEY_CLEAR, R225. The command ASD_KEY_CLEAR (R230). -/
  | asdKeyClear (c : Cmd)
  /-- ASD_AUTH_START, R226. Command that sends AUTH CHALLENGE on the named lanes. -/
  | asdAuthStart (c : Cmd)
  /-- AUTH_START_TIMEOUT, R230. ASD_AUTH_START completes 100 ms after it started with the verified lanes. -/
  | authStartTimeout
  /-- ASD_LOAD_RESET, R230. Command that proposes loading 0 for the named lanes' receive directions. -/
  | asdLoadReset (c : Cmd)
  /-- CAL_RUN, R246. Command that starts a calibration run, or defers it under a handle. -/
  | calRun (c : Cmd)
  /-- CAL_ABORT, R248. Command that ends the run with every instance in progress ABORTED. -/
  | calAbort (c : Cmd)
  /-- CAL_RELEASE, R248. Command that frees a deferred-run handle. -/
  | calRelease (c : Cmd)
  /-- CAL_MEASUREMENT_END, R234. A 2.0 ms slice measurement ends, trims are computed and tested, and the lap continues or ends. -/
  | calMeasurementEnd (lane : LaneId) (skewNum : Int) (skewDen : Nat) (trim : Int) (pass : Bool) (inl : List Int)
  /-- CAL_HANDOVER, R235. A measured slice takes its position at the first block boundary free of aside reception, capture and VGA step. -/
  | calHandover (lane : LaneId)
  /-- CAL_CORRECTION_UPDATE, R236. Every 1 µs each correction in use moves one step toward its target at a block boundary. -/
  | calCorrectionUpdate
  /-- CAL_TEMP_RECOMPUTE, R244. Every 10 ms target values are interpolated from the temperature sets. -/
  | calTempRecompute
  /-- DAC_SKEW_MEASUREMENT_END, R240. A line DAC skew measurement ends and its trims are set. -/
  | dacSkewMeasurementEnd (lane : Fin 8) (skew0 skew1 skew2 skew3 : Int)
  /-- BDAC_CAL_MEASUREMENT_END, R241. A 1 ms bias DAC channel measurement ends and its trims are set. -/
  | bdacCalMeasurementEnd (c : Fin 32) (offset1 gain1 offset2 gain2 : Int)
  /-- SNS_CAL_MEASUREMENT_END, R242. A 2 ms sense channel measurement ends and its trims are set. -/
  | snsCalMeasurementEnd (n : Fin 24) (offset gain : Int)
  /-- LOOP_TICK, R249. On each 5 µs engine tick the due loops are computed, groups arbitrated, slew limits applied and codes delivered. -/
  | loopTick (mismatch parity : Bool)
  /-- LOOP_CLEAR_HISTORY, R254. Command that clears history flags of the named loops. -/
  | loopClearHistory (c : Cmd)
  /-- LOOP_RESUME, R259. Command that ends SAFE for a loop or ESCALATED for its group. -/
  | loopResume (c : Cmd)
  /-- LOOP_TARGET, R262. Command that sets a loop's set-point target. -/
  | loopTarget (c : Cmd)
  /-- LOOP_PRESET, R269. Command that sets the integrator of a loop in commanded HOLD. -/
  | loopPreset (c : Cmd)
  /-- LOOP_READ, R269. Command that returns a loop's integrator, set-point and last PV. -/
  | loopRead (c : Cmd)
  /-- LOOP_ENGINE_RESTART, R267. Command that reruns the engine's check patterns and returns loops to HOLD. -/
  | loopEngineRestart (c : Cmd) (pass : Bool)
  /-- BDAC_FIRST_CODE, R272. 2 µs after an enabling GO, a REG-sourced bias channel takes its code and becomes ACTIVE. -/
  | bdacFirstCode (c : Fin 32)
  /-- DITHER_UPDATE, R274. Every 1 µs each enabled generator delivers a new dither term to its channels. -/
  | ditherUpdate
  /-- BDAC_HOLD_END, R275. A 400 ns track-and-hold ends and the latest code is applied. -/
  | bdacHoldEnd (c : Fin 32)
  /-- BDAC_RANGE, R276. Command that changes a bias channel's range with rescaled codes. -/
  | bdacRange (c : Cmd)
  /-- SNS_SAMPLE, R279. A sense channel produces a decimated output sample and its detectors and lock-in update. -/
  | snsSample (chan : Fin 24) (bits : List Bool) (offset : Fin 20)
  /-- SNS_SYNC_WRITE, R282. A write to SNS_SYNC resynchronises the named channels at one modulator edge. -/
  | snsSyncWrite (mask : BitVec 24)
  /-- SNS_COEF_WRITE, R281. Command that loads a FIR coefficient set. -/
  | snsCoefWrite (c : Cmd)
  /-- SNS_COEF_READ, R286. Command that copies a coefficient set to the bulk area. -/
  | snsCoefRead (c : Cmd)
  /-- COUNTER_LO_READ, R289. A read of CNT_LO_i returns bits [31:0] and latches bits [47:32] for that interface. -/
  | counterLoRead (iface : Iface) (index : Fin 2048)
  /-- SNAP_CTRL_TAKE, R293. A write of TAKE to SNAP_CTRL starts a snapshot. -/
  | snapCtrlTake (flowImg ackReq ack1 ack0 : Bool)
  /-- SNAP_CTRL_ACK, R294. A write of ACK_0 or ACK_1 releases a FULL bank. -/
  | snapCtrlAck (flowImg ackReq ack1 ack0 : Bool)
  /-- SNAP_TAKE, R293. Command that takes a snapshot and completes when it is complete. -/
  | snapTake (c : Cmd)
  /-- SNAP_COPY_DONE, R293. A bank copy completes within 2 µs and COMPLETE sets. -/
  | snapCopyDone (bank : Fin 2)
  /-- SNAP_READ, R309. Command that copies a bank's header and counters to the bulk area. -/
  | snapRead (c : Cmd)
  /-- FLOW_IMAGE_COPY_DONE, R307. The flow table has been copied into the image within 200 µs of the snapshot. -/
  | flowImageCopyDone
  /-- FLOW_FRAME, R299. A parsed frame is hashed, looked up and counted in its context, or counted as untracked. -/
  | flowFrame (port : Fin 8) (d : Dir) (busy : Bool)
  /-- FLOW_REPLAY_LOOKUP, R302. A queued lookup gets its busy bank and is applied. -/
  | flowReplayLookup (d : Dir)
  /-- FLOW_AGER_VISIT, R305. The ager visits buckets, frees aged contexts and applies renumbering shifts. -/
  | flowAgerVisit (bucket : Fin 32768)
  /-- FLOW_DUMP, R307. Command that copies flow-image records, locking and unlocking the image. -/
  | flowDump (c : Cmd)
  /-- FLOW_RELEASE, R307. Command that unlocks the flow image. -/
  | flowRelease (c : Cmd)
  /-- FLOW_FLUSH, R306. Command that frees the contexts of a port's directions. -/
  | flowFlush (c : Cmd)
  /-- BER_WINDOW_CLOSE, R292. A lane's pre-FEC BER window closes and CNT_BER updates. -/
  | berWindowClose (lane : Fin 8)
  /-- SAMPLE_SLOT_RAISE, R297. A sampling slot raises its owed crossings, at most once per 10 µs. -/
  | sampleSlotRaise (slot : Fin 32)
  /-- I2C_A_WRITE, R314. A write transaction on I2C port A (R314, R315): the bytes after the address byte. -/
  | i2cAWrite (addr : BitVec 7) (data : List Byte)
  /-- I2C_A_READ, R314. A read transaction on I2C port A (R314, R315), with the register address where one is sent. -/
  | i2cARead (addr : BitVec 7) (reg : Option (BitVec 24)) (count : Nat)
  /-- SPI_WRITE, R316. An SPI WRITE (R316, R317): the bytes after the command byte. -/
  | spiWrite (data : List Byte)
  /-- SPI_READ, R316. An SPI READ (R316, R317). -/
  | spiRead (addr : BitVec 24) (count : Nat)
  /-- SPI_STATUS, R316. An SPI transaction of a command byte alone (R316): 0x05 STATUS, or any other byte. -/
  | spiStatus (cmd : Byte)
  /-- CMIS_PORT_B_READ, R320. A read on I2C port B (R320), with the byte address where one is sent. -/
  | cmisPortBRead (addr : BitVec 7) (reg : Option Byte) (count : Nat)
  /-- CMIS_PORT_B_WRITE, R320. A write on I2C port B (R320). -/
  | cmisPortBWrite (addr : BitVec 7) (reg : Byte) (data : List Byte)
  /-- CMIS_LOG_APPLY, R320. Mexis applies the oldest logged CMIS write (R320, R321). -/
  | cmisLogApply
  /-- RING_LAYOUT_WRITE, R322. A write of RING_LAYOUT (R322). -/
  | ringLayoutWrite (iface : Iface) (data : Word)
  /-- DB_CMD_WRITE, R323. A write of DB_CMD (R323). -/
  | dbCmdWrite (iface : Iface) (data : Word)
  /-- DB_CPL_ACK_WRITE, R323. A write of DB_CPL_ACK (R323). -/
  | dbCplAckWrite (iface : Iface) (data : Word)
  /-- DB_EVT_ACK_WRITE, R323. A write of DB_EVT_ACK (R323). -/
  | dbEvtAckWrite (iface : Iface) (data : Word)
  /-- UNDEFINED_OPCODE, R328. A command with an opcode that R333 does not define (R328). -/
  | undefinedOpcode (c : Cmd) (opcode : BitVec 16)
  /-- DEV_NOP, R334. The command DEV_NOP (R334). -/
  | devNop (c : Cmd)
  /-- CMIS_LOAD, R334. The command CMIS_LOAD (R334). -/
  | cmisLoad (c : Cmd)
  /-- EVENTS_LOST, R330. EVENTS_LOST is written (R330). -/
  | eventsLost
  /-- MGMT_READY, R312. Mexis serves the rings (R312), with what it brings to the settings (R432). -/
  | mgmtReady (m : MexisStart)
  /-- SCRUB_WORD, R359. The scrubber of a bank reads its next word, of which the bits of `upset` were struck since it was last written; in its cycles falls a functional write of the word, or none (R360). -/
  | scrubWord (bank : Fin 64) (upset : BitVec 79) (raced : Bool)
  /-- REMAP_INSTALL, R362. A remap entry is installed in two idle cycles of the macro. -/
  | remapInstall (bank : Fin 64)
  /-- MEM_REMAP, R362. Command that installs a remap of a named word. -/
  | memRemap (c : Cmd)
  /-- MEM_INJECT, R366. Command that inverts stored bits of a word for test. -/
  | memInject (c : Cmd)
  /-- WATCHDOG_EXPIRY, R368. 100 ms pass without service and management restarts. -/
  | watchdogExpiry
  /-- CRYSTAL_EDGE_LOSS, R369. No crystal edge for 200 ns; the crystal is declared failed and clocks hold over. -/
  | crystalEdgeLoss
  /-- CRYSTAL_RETURN, R369. The crystal has run in range for 1 ms and clocks pull back to it. -/
  | crystalReturn
  /-- SUPPLY_WARN_ASSERT, R370. A warning comparator asserts, opening or extending the brown-out window on data rails. -/
  | supplyWarnAssert (rail : Fin 7)
  /-- SUPPLY_WARN_RELEASE, R370. A warning comparator releases as its rail returns. -/
  | supplyWarnRelease (rail : Fin 7)
  /-- BROWNOUT_WINDOW_CLOSE, R370. 2 µs after the last data rail returns the window closes, loops resume and calibrations repeat. -/
  | brownoutWindowClose
  /-- PB_FLASH_COPY_START, R380. Mexis starts copying the prompt book to a flash slot after a frozen section. -/
  | pbFlashCopyStart
  /-- PB_FLASH_COPY_DONE, R380. A prompt-book flash copy completes. -/
  | pbFlashCopyDone
  /-- PB_READ, R381. Command that copies prompt-book records to the bulk area. -/
  | pbRead (c : Cmd)
  /-- PB_RELEASE, R378. Command that releases held sections. -/
  | pbRelease (c : Cmd)
  /-- PB_FLASH_READ, R381. Command that copies records from a flash slot. -/
  | pbFlashRead (c : Cmd)
  /-- PB_MARK, R377. Command that writes a host curtain marker. -/
  | pbMark (c : Cmd)
  /-- PWR_ENTER, R383. The command PWR_ENTER (R400), with the RC oscillator's frequency that Mexis measures for DARK. -/
  | pwrEnter (c : Cmd) (rcHz : BitVec 32)
  /-- PWR_EXIT, R389. The command PWR_EXIT (R400). -/
  | pwrExit (c : Cmd)
  /-- INTERMISSION_EXIT_DONE, R389. SHOW is reached again (R389). -/
  | intermissionExitDone
  /-- WAKE_ASSERT, R392. The level of the WAKE pin changes (R389, R392). -/
  | wakeAssert (level : Bool)
  /-- DARK_SEQUENCER_STEP, R390. One RC cycle of the DARK entry sequence (R390), with the stage door's latest RC measurement. -/
  | darkSequencerStep (rcHz : BitVec 32)
  /-- STAGE_DOOR_WRITE, R393. An I2C write while the device is down (R393). -/
  | stageDoorWrite (addr : BitVec 7) (data : List Byte)
  /-- STAGE_DOOR_READ, R393. An I2C read while the device is down (R393). -/
  | stageDoorRead (addr : BitVec 7) (count : Nat)
  /-- RC_TIMER_EXPIRY, R394. The RC wake timer reaches its count (R394). -/
  | rcTimerExpiry
  /-- WAKE_FROM_DARK, R395. The wake sequence ends (R395), with the RC count, the second RC measurement, and what the checker and the image checks say. -/
  | wakeFromDark (count : BitVec 40) (rcHz : BitVec 32) (checker : Option CheckerFail) (boot : BootReads)
  /-- THERMAL_READING, R397. The sensors are read (R398). -/
  | thermalReading (readings : Vector (BitVec 16) 12)
  /-- AVS_READBACK, R386. The regulator answers with voltage and current, or not at all (R386). -/
  | avsReadback (answer : Option (BitVec 10 × BitVec 16))
  /-- AVS_SLEW_STEP, R386. The commanded voltage moves one step (R386). -/
  | avsSlewStep
  /-- POWER_ON_RESET, R401. Power-on, or the rail VDD_AON (0) or VDD_RET (1) below its reset level (R401). -/
  | powerOnReset (rail : Option (Fin 2))
  /-- PIN_RESET, R402. RESET_N low (R402). -/
  | pinReset
  /-- SUPPLY_RESET, R401. A rail below its reset level: VDD_CORE, VDDA_HS, VDDA_PLL, VDDA_18, VDDIO_MG (R401). -/
  | supplyReset (rail : Fin 5)
  /-- RESET_N_RELEASE, R404. The start sequence after POR, PIN or SUPPLY (R404), with the strapped address bits, the checker's failure if any, and what the cryptographic checks say. -/
  | resetNRelease (straps : BitVec 3) (checker : Option CheckerFail) (boot : BootReads)
  /-- RST_WARM, R405. The command RST_WARM (R410). -/
  | rstWarm (c : Cmd)
  /-- WARM_RESET, R405. The WARM reset that follows (R405). -/
  | warmReset (boot : BootReads)
  /-- RST_MGMT, R410. The command RST_MGMT (R410). -/
  | rstMgmt (c : Cmd)
  /-- MGMT_RESTART, R407. A MGMT reset that is due (R9, R407). -/
  | mgmtRestart (boot : BootReads)
  /-- RST_PORT, R406. The command RST_PORT (R406, R410). -/
  | rstPort (c : Cmd)
  /-- AUTH_OPEN, R416. The command AUTH_OPEN (R416). -/
  | authOpen (c : Cmd)
  /-- AUTH_CHALLENGE_EXPIRY, R416. The challenge expires (R416). -/
  | authChallengeExpiry
  /-- AUTH_RESPOND, R416. The command AUTH_RESPOND (R416), with whether key hash and signature verify. -/
  | authRespond (c : Cmd)
  /-- AUTH_CLOSE, R416. The command AUTH_CLOSE (R416). -/
  | authClose (c : Cmd)
  /-- LC_ADVANCE, R414. The command LC_ADVANCE (R414). -/
  | lcAdvance (c : Cmd)
  /-- LC_DIAG_OPEN, R415. The command LC_DIAG_OPEN (R415). -/
  | lcDiagOpen (c : Cmd)
  /-- SEC_OTP_PROGRAM, R433. The command SEC_OTP_PROGRAM (R433), with whether the fuses read back. -/
  | secOtpProgram (c : Cmd) (burned : Bool)
  /-- SEC_KEY_REVOKE, R433. The command SEC_KEY_REVOKE (R433). -/
  | secKeyRevoke (c : Cmd)
  /-- VOLTAGE_GLITCH, R418. A fast VDD_CORE departure raises the VGLITCH alarm and its action. -/
  | voltageGlitch
  /-- CLOCK_GLITCH, R418. A short crystal or PLL period raises the CGLITCH alarm and its action. -/
  | clockGlitch
  /-- ALARM_N_PULSE_END, R419. 1 ms after a LOG alarm ALARM_N is released. -/
  | alarmNPulseEnd
  /-- FW_BEGIN, R426. The command FW_BEGIN (R426), with what the key unwrap says. -/
  | fwBegin (c : Cmd)
  /-- FW_CHUNK, R426. The command FW_CHUNK (R426). -/
  | fwChunk (c : Cmd)
  /-- FW_COMMIT, R426. The command FW_COMMIT (R426), with what signature, decryption and read-back say. -/
  | fwCommit (c : Cmd) (misread : Bool)
  /-- FW_ACTIVATE, R427. The command FW_ACTIVATE (R427). -/
  | fwActivate (c : Cmd)
  /-- FW_ABORT, R426. The command FW_ABORT (R426). -/
  | fwAbort (c : Cmd)
  /-- IMAGE_HEALTHY, R427. The trial image is healthy (R427). -/
  | imageHealthy
  /-- TRIAL_TIMEOUT, R427. A trial is not healthy in 5 s (R427). -/
  | trialTimeout
  /-- SET_SAVE, R432. The command SET_SAVE (R432), with whether the block reads back. -/
  | setSave (c : Cmd) (verified : Bool)
  /-- TST_REHEARSE, R438. Command that isolates a cluster and runs its rehearsal. -/
  | tstRehearse (c : Cmd)
  /-- REHEARSAL_END, R440. A rehearsal ends and the cluster is re-initialised by a BLOCK reset, or fenced on FAIL. -/
  | rehearsalEnd (v : TestVerdict) (patterns : Word) (unit : BitVec 12)
  /-- TST_ABORT, R441. Command that ends a rehearsal or memory test ABORTED. -/
  | tstAbort (c : Cmd)
  /-- TST_MEM_TEST, R437. Command that starts a transparent word-by-word test of a bank. -/
  | tstMemTest (c : Cmd)
  /-- MEM_TEST_END, R437. A memory test ends: the words that read back wrongly with a bit of each, whether the applied count is the expected one, and that count. -/
  | memTestEnd (fails : List (Fin 32768 × Fin 79)) (counted : Bool) (patterns : Word)
  /-- TST_DRESS, R443. Command that runs the full scan-based logic self-test. -/
  | tstDress (c : Cmd)
  /-- DRESS_REHEARSAL_END, R443. The dress rehearsal ends: failing partitions, with the ports and lanes in them. -/
  | dressRehearsalEnd (v : TestVerdict) (patterns : Word) (partitions : BitVec 4) (ports line : BitVec 8) (host : BitVec 16)
  /-- TEST_LIMIT_EXCEEDED, R434. A test's clock or voltage limit is exceeded, or a crystal, PLL or brown-out event intervenes, and the test aborts. -/
  | testLimitExceeded (clock : Bool) (patterns : Word)
  /-- JTAG_INSTRUCTION_UPDATE, R446. At Update-IR an instruction is selected, taking pins or raising the DEBUG alarm where gated. -/
  | jtagInstructionUpdate (code : BitVec 8)
  /-- JTAG_TAP_RESET, R444. TRST_N or Test-Logic-Reset resets the TAP to IDCODE and returns pins to the device. -/
  | jtagTapReset
  /-- PAYLOAD_CRC_FAIL, R219. An aside reception ends when its payload CRC-32 fails; the failure is counted, the reception ends and the receiver re-arms. -/
  | payloadCrcFail (lane : Fin 8) (codes : List Int)
  /-- WATCHDOG_SERVICE, R368. Mexis services the management watchdog, at least every 50 ms, restarting its 100 ms count. -/
  | watchdogService
  /-- CMIS_SHADOW_REFRESH, R321. Mexis refreshes the shadow (R321): bytes by their place in it, and the places the host may write. -/
  | cmisShadowRefresh (bytes : List (BitVec 16 × Byte)) (writable : List (BitVec 16))
  /-- INTERMISSION_ENTRY_DONE, R388. INTERMISSION is reached (R388). -/
  | intermissionEntryDone
  /-- FLASH_PROGRAM_DONE, R426. The first flash operation under way ends (R426). -/
  | flashProgramDone
  deriving DecidableEq, Repr

end Sys2Proof
end

