-- ==== Sys2Proof/Decode.lean ====
section
/-! DEFINITION. Words that spell commands: none do. The KX8 takes no instruction words, and spec/opcode_table.json gives its rows
neither bits nor fields. -/

namespace Sys2Proof

/-- The command that a word of so many bits spells: none. -/
def decodeTableWord (_nbits _w : Nat) : Option Instr := none

end Sys2Proof
end

