-- ==== Sys2Proof/Config.lean ====
section
/-! DEFINITION. What the spec leaves open: the free values (opaque, so that no proof can see what they are), and the
constants a part's OTP or its design fixes. -/

namespace Sys2Proof

/-- A value the spec does not state, by the number the model gives it (State.freeCount): see the assumption log for each
use. -/
opaque Config.freeNat : Nat → Nat

/-- A choice between two values that the spec leaves open. -/
opaque Config.freeBool : Nat → Bool

/-- A 256-bit random value: a challenge or a nonce (chapters 11 and 22). -/
opaque Config.freeBits256 : Nat → BitVec 256

/-- The OTP's secret fields (R411), fixed before the part is delivered: the device-unique secret, the device-class image key, and the two
signing-key hashes. -/
opaque Config.deviceSecret : BitVec 256
opaque Config.imageKey : BitVec 256
opaque Config.signingHash : Nat → BitVec 384

/-- The standards' functions that chapter 22 names (R416, R423), left uninterpreted as those of log entry 61 are: SHA-384; whether an ECDSA
P-384 signature over a digest fails under the key with a hash; the key unwrap under a key, whether it fails and what it gives; and whether a
GCM tag fails, by content key, IV, additional data, ciphertext and tag (log entry 176). -/
opaque Config.sha384 : List (BitVec 8) → BitVec 384
opaque Config.signatureFails : BitVec 384 → BitVec 384 → List (BitVec 8) → Bool
opaque Config.unwrapFails : BitVec 256 → List (BitVec 8) → Bool
opaque Config.unwrapped : BitVec 256 → List (BitVec 8) → BitVec 256
opaque Config.tagFails : BitVec 256 → List (BitVec 8) → List (BitVec 8) → List (BitVec 8) → List (BitVec 8) → Bool

/-- The bytes of a settings block's body, which Mexis alone reads and writes (R431): by format, layout mark, effective values and the other
fields. -/
opaque Config.settingsBody : Nat → Bool → List (Nat × Nat) → List (Nat × Nat) → List (BitVec 8)

/-- The first 64 bits of HMAC-SHA-256 under a key over words (R225), left uninterpreted: the standard's own function is not
part of the spec (log entry 61). -/
opaque Config.hmac64 : BitVec 256 → List (BitVec 32) → BitVec 64

/-- Whether a value the spec rounds without saying how goes up: by the place, the exact numerator and denominator (log entry 136). -/
opaque Config.roundUp : Nat → Int → Nat → Bool

/-- The coefficient with which the restorer's linear prediction takes the block mean that lies k blocks before the newest one it has: R80
states limits on the whole and no coefficients (log entry 52). -/
opaque Config.restoreTap : Nat → Rat

/-- The word of the calibration store that holds a temperature set's value, by the value's key: the spec gives the store no layout
(log entry 100). -/
opaque Config.storeWord : Nat → Nat

/-- The words of management memory that Mexis has written beside its image, by bank and address (log entry 100). -/
opaque Config.mexisWord : Nat → Nat → Bool

/-- The ratio rho where its denominator is 0, by the numerator (R56, log entry 136). -/
opaque Config.rhoAtZero : Nat → BitVec 16

/-- Bit k of IEEE 802.3's SSPRQ pattern, which R154 names only (log entry 142). -/
opaque Config.ssprqBit : Nat → Bool

/-- Where a generator's PRBS starts, by lane: IEEE 802.3's seeds are not in the spec (R107, R154, log entry 142). -/
opaque Config.prbsSeed : Nat → Nat

/-- The part's 64-bit device identity, from OTP (ID_DEV). -/
opaque Config.deviceId : BitVec 64

/-- The process bin of the part, 0 (fast) to 7 (slow), from OTP (R386). -/
opaque Config.processBin : BitVec 3

/-- The version of Mexis that DEV_NOP returns (R334). -/
opaque Config.mexisVersion : BitVec 32

/-- What Mexis makes of a byte written to page 10h, by its place among the page's 128; which byte of page 01h advertises what; and how a byte
of page 11h shows the states of the bank's eight lanes, HSL_STATUS and the state of the port of each: CMIS 5.2's fields are not in the
spec (R189, R321, log entry 117). -/
opaque Config.cmisActs : Nat → BitVec 8 → List CmisAct
opaque Config.cmisAdvert : Nat → BitVec 8
opaque Config.cmisLanes : Nat → List (Nat × Nat) → BitVec 8

/-! The IEEE 802.3 port formats of R145, by the model's number: 0 200GBASE-R, 1 400GBASE-R, 2 800GBASE-R, 3 1.6TBASE-R, 4 dual 1.6T. The
spec names them and gives nothing of their insides, so all of this is left open (log entry 150). -/

/-- An idle block: its four 64B/66B blocks are all idle control blocks (R159), as the block lies in a codeword. -/
opaque Config.isIdle : BitVec 257 → Bool

/-- The Ethernet frames that end in a run of blocks, each from destination address through FCS with the block that holds its last FCS byte
(R299; how frames lie in blocks is the line formats' own, log entry 189); and how many blocks at the run's start hold nothing of a frame that is still to end. -/
opaque Config.framesIn : List (BitVec 257) → List (List (BitVec 8) × Nat)
opaque Config.framesDone : List (BitVec 257) → Nat

/-- The idle block that the KX8 inserts (R159), and the block of four local fault ordered sets (R166). -/
opaque Config.idleBlock : BitVec 257
opaque Config.faultBlock : BitVec 257

/-- A quarter of the marker period beyond 4,096 codewords, by format (R146). -/
opaque Config.periodQuarter : Nat → Nat

/-- Bit b of symbol t of a group's first codeword, by format, where the format gives it a fixed value (R148). -/
opaque Config.markerBit : Nat → Nat → Nat → Option Bool

/-- Does block b of the n-th codeword of a group belong to the marker region, by format (R158)? -/
opaque Config.isMarker : Nat → Nat → Nat → Bool

/-- That block as the markers are generated, from the digest of the stream since the last group; and the digest after one more block
(R158: the BIP fields). -/
opaque Config.markerBlock : Nat → Nat → Nat → Nat → BitVec 257
opaque Config.bipStep : Nat → BitVec 257 → Nat

/-- The number of a format's PCS lanes (R147). -/
opaque Config.pcsLanes : Nat → Nat

/-- Symbol t of codeword q (0 to 3) of a window of four, by format, from each PCS lane's number and the bits of its host lane from its
own place on, in PCS-lane order (R145, R147). -/
opaque Config.hostSymbol : Nat → Nat → Nat → List (Nat × List Bool) → BitVec 10

/-- Bit k that host lane i of a format carries of a window of four codewords (R145). -/
opaque Config.hostBit : Nat → Nat → Nat → List (List (BitVec 10)) → Bool

/-! The aside channel's arithmetic, whose precision the spec leaves open (log entry 151). -/

/-- Is 2^15 cos(2 pi k / 128) rounded up, and 2^15 over the square root of a number? -/
opaque Config.cosineUp : Nat → Bool
opaque Config.rootUp : Nat → Bool

/-- The resampler of R204: the value at a time, in line symbols since the first of the 40 MS/s samples, at a symbol rate. -/
opaque Config.resample : List Int → Nat → Nat → Int

/-- The extractor's filter and decimation (R205): sample m at 40 MS/s, in 1/256 ADC LSB, from the sums and lengths of the lane's blocks,
oldest first, at a symbol rate. -/
opaque Config.decimate : List (Int × Nat) → Nat → Nat → Int

/-- The sample at which a packet's first preamble sample lies, from the samples up to the end of its long training (R218). -/
opaque Config.symbolTiming : List Int → Nat → Nat

/-- The phase and slope of the errors of decided points (index, received, decided), in turns of 2^16; what the arithmetic that turns a
point by an angle leaves it short of its exact place; whether a point's phase is rounded up, and the phase of no point at all (R218,
R228). -/
opaque Config.phaseFit : List (Nat × (Int × Int) × (Int × Int)) → Int × Int
opaque Config.turnShort : Int → Int × Int → Int × Int
opaque Config.phaseUp : Int × Int → Bool
opaque Config.zeroPhase : Int

/-- The AGC's gain, from the last microsecond's sum of squares, or in one step from a preamble's strength (R217, R220). -/
opaque Config.agcGain : Bool → Nat → Int

/-- D_TX in crystal cycles by profile, of which the spec says that it lies below 60 ns (R215). -/
opaque Config.sendDelay : Nat → Nat

/-- The decoder of the K = 7 code: from the received points and the hard decisions of the coded bits to the message's bits (R210). -/
opaque Config.convDecode : List (Int × Int) → List Bool → List Bool

end Sys2Proof
end

