-- ==== Sys2Proof/Machine/State.lean ====
section
/-! DEFINITION. The state of the KX8 as the spec gives it, as plain data: the fields of the direct register file (staged
or immediate values, and effective values), and the state that no register shows, chapter by chapter. -/

namespace Sys2Proof.Machine

open Sys2Proof

/-- Why the block stops with a fault. No command of this model raises one: every error the spec describes has an effect
on the state. Safe: a machine that never faults is refused nothing. -/
inductive Fault where
  /-- Raised by nothing; the interface wants the type. Safe. -/
  | none
  deriving DecidableEq, Repr

/-- Why a command is refused by the model. No meaning refuses. -/
inductive Refusal where
  /-- The command has no meaning yet; raised by exec's own arm. Safe: nothing is proved of it. -/
  | notModelled (mnemonic : String)
  deriving DecidableEq, Repr

/-! Registers (chapter 17). -/

/-- Where a register's instances lie: base address and two strides with their counts (the register's heading). -/
structure RegPlace where
  base : Nat
  stride1 : Nat
  count1 : Nat
  stride2 : Nat
  count2 : Nat
  deriving DecidableEq, Repr

/-- The access types of R339. -/
inductive Access where
  | rw | rs | ro | rl | rh | ws | w1 | lk
  deriving DecidableEq, Repr

/-- A register field: its register, lowest bit, width, access type, reset value, instances j whose reset value differs,
and whether it is held in triplicate (column V, R348). -/
structure Field where
  place : RegPlace
  lo : Nat
  width : Nat
  ty : Access
  rst : Nat
  rstAt : List (Nat × Nat)
  voted : Bool
  deriving DecidableEq, Repr

/-- A register: its place and its fields. Bits in no field are reserved (R3). -/
structure RegInfo where
  place : RegPlace
  fields : List Field
  deriving DecidableEq, Repr

/-- The values of register fields, by key (address times 32 plus lowest bit), keys strictly rising, no entry equal to
the field's reset value: an unlisted field holds its reset value. -/
abbrev FieldMap := List (Nat × Nat)

/-- The effective value of the fields of the show clocks' configuration and everything else a GO applies is held in a
second map of the same form. -/
abbrev EffMap := FieldMap

/-! Clocks (chapters 01 and 02). -/

/-- The main and understudy PLL of a line or host region (R14, R21). -/
structure PllPair where
  mainLocked : Bool
  understudyLocked : Bool
  onUnderstudy : Bool
  deriving DecidableEq, Repr

/-- A show clock: count, epoch, the freewheel accumulator's 8 fraction bits, and whether it freewheels (R24, R26). -/
structure ShowClock where
  count : BitVec 48
  epoch : BitVec 16
  frac : BitVec 8
  freewheel : Bool
  deriving DecidableEq, Repr

/-- Who armed a cue: the host, Mexis for cross-link adaptation (R112), or Mexis for a revert (R115). -/
inductive CueOwner where
  | host
  | adapt
  | revert
  deriving DecidableEq, Repr

/-- What a snapshot captures of its instant T_s besides its header's origin (R293, R295): the counters, house clock and HC_ESTIMATED, the
show clocks, and PAIRED. -/
structure SnapMoment where
  counters : List (Nat × Nat)
  hc : BitVec 64
  estimated : Bool
  tx : Vector ShowClock 8
  rx : Vector ShowClock 8
  paired : Vector Bool 8
  deriving DecidableEq, Repr

/-- An armed cue (R30, R31, R39): agree is the agreement identifier of a cue that CUE_AGREE or a partner's proposal
armed; of a SNAPSHOT cue whose trigger codeword has passed, the instant at which it did. -/
structure Cue where
  port : Fin 8
  dir : Dir
  periodic : Bool
  notify : Bool
  trigger : BitVec 48
  period : BitVec 48
  action : Nat
  arg : Nat
  agree : Option (BitVec 16)
  owner : CueOwner
  reached : Option SnapMoment := none
  deriving DecidableEq, Repr

/-- An entry of the cue table: free, reserved by CUE_AGREE until the partner answers (R35), or armed; a reserved entry holds
the cue it will arm, the epoch proposed, and the line lane the proposal was sent on. -/
inductive CueSlot where
  | free
  | reserved (c : Cue) (epoch : BitVec 16) (lane : Fin 8)
  | armed (c : Cue)
  deriving DecidableEq, Repr

/-- What Mexis holds of a port's show clocks across DARK (R38): the advanced values, and the WIDTH and LINE_RATE the
port had at DARK entry. -/
structure HeldClocks where
  tx : ShowClock
  rx : ShowClock
  width : Nat
  lineRate : Nat
  deriving DecidableEq, Repr

/-- Time: whether the crystal's cycles come (not before the first start, not in DARK), the house clock (R23), the count of crystal cycles since power-on (the model's own, against which the spacing
rules are measured), HC_ESTIMATED, the show clocks, pairing, the cue table and the clocks held over DARK. -/
structure TimeState where
  hc : BitVec 64
  tick : Nat
  estimated : Bool
  sysPllLocked : Bool
  crystalRuns : Bool
  crystalOk : Bool
  linePll : Vector PllPair 2
  hostPll : Vector PllPair 2
  tx : Vector ShowClock 8
  rx : Vector ShowClock 8
  paired : Vector Bool 8
  cues : Vector CueSlot 64
  held : Vector (Option HeldClocks) 8
  deriving DecidableEq, Repr

/-! Observability (chapter 15). -/

/-- A snapshot bank (R293-R295): counter values and header words of the snapshot last taken and of the one before it
(which of the two a read returns is open until COMPLETE), whether it was ever written, whether COMPLETE is set, and the
counters it marked INVALID. -/
structure SnapBank where
  values : List (Nat × Nat)
  header : List (Nat × Nat)
  oldValues : List (Nat × Nat)
  oldHeader : List (Nat × Nat)
  written : Bool
  complete : Bool
  invalid : List Nat
  deriving DecidableEq, Repr

/-- A sampling slot's debt and the time of its last event, in crystal cycles (R297). -/
structure SampleSlot where
  owed : Nat
  value : Nat
  lastRaise : Option Nat
  deriving DecidableEq, Repr

/-- A line lane's BER window (R292): where the four counters stood when it opened, when it opened, and whether a marked
codeword touched the lane in it. -/
structure BerWindow where
  bits : Nat
  inner : Nat
  rs : Nat
  opened : Nat
  undecoded : Bool
  deriving DecidableEq, Repr

/-- A flow bucket (R303). -/
structure FlowBucket where
  valid : Bool
  ctx : Nat
  uncorr : Bool
  key : BitVec 136
  firstSeen : Word
  lastSeen : Word
  fcsErr : BitVec 24
  runts : Nat
  giants : Nat
  deriving DecidableEq, Repr

/-- A flow context (R304): frames, bytes, SCALE and eight size bins; `used` while a bucket holds it. -/
structure FlowCtx where
  used : Bool
  frames : BitVec 40
  bytes : BitVec 48
  scale : Nat
  bins : Vector Nat 8
  deriving DecidableEq, Repr

/-- A lookup of a parsed frame (R300, R302): its key, size, FCS verdict, cue-tick stamp, and whether it crossed in PASS. -/
structure FlowWork where
  port : Fin 8
  dir : Dir
  key : BitVec 136
  size : Nat
  fcsGood : Bool
  stamp : Word
  pass : Bool
  deriving DecidableEq, Repr

/-- The flow image (R307): the SEQ of its snapshot and its records, bucket index with bucket and context as they stood
at T_s. -/
structure FlowImage where
  seq : BitVec 16
  records : List (Nat × FlowBucket × FlowCtx)
  deriving DecidableEq, Repr

/-- Observability: the counter array (an unlisted counter has never been written and reads 0), the per-interface latches
of R289, the counters the next snapshot marks INVALID, the snapshot banks with the bank written last, SEQ and the FULL
marks, the sampling slots, the threshold counters' fractions of a CORE clock (256ths), the BER windows, and the flow table:
buckets, contexts, replay queues, image, the last FULL reported, and the renumbering shifts not yet applied, by bucket. -/
structure ObsState where
  counters : List (Nat × Nat)
  hiLatch : Vector Nat 3
  invalid : List Nat
  banks : Vector SnapBank 2
  lastBank : Nat
  seq : BitVec 16
  full : Vector Bool 2
  slots : Vector SampleSlot 32
  thrFrac : Vector Nat 32
  ber : Vector BerWindow 8
  buckets : List (Nat × FlowBucket)
  contexts : List (Nat × FlowCtx)
  replay : Vector (List FlowWork) 2
  image : Option FlowImage
  imageCopying : Bool
  imageLocked : Bool
  flowFull : Bool
  shifts : List (Nat × Word)
  deriving DecidableEq, Repr

/-! Management, rings and the register interface (chapters 16 and 17). -/

/-- A command in progress (R324): its tag, opcode and NOTIFY, and what names its object (a lane, a port, an entry). -/
structure InProg where
  tag : BitVec 16
  opcode : Nat
  notify : Bool
  key : Nat
  aux : Nat
  deriving DecidableEq, Repr

/-- A completion that waits for room in the completion ring, which is never overwritten (R324). -/
structure Waiting where
  tag : BitVec 16
  opcode : Nat
  notify : Bool
  code : Nat
  sub : Nat
  r0 : Nat
  r1 : Nat
  deriving DecidableEq, Repr

/-- A CMIS write that waits for Mexis (R320): its byte of the shadow and the value. -/
structure CmisWrite where
  byteAt : Nat
  value : Byte
  deriving DecidableEq, Repr

/-- A rate limit of at most so many in one second: start of the second in crystal cycles, and the number raised in
it. -/
structure RateWindow where
  start : Nat
  raised : Nat
  deriving DecidableEq, Repr

/-- Management: the ring window's bytes, the commands in progress, the completions that wait for room, the event sequence, whether the ring engine still
waits for the first READY after a reset (R330), the cause of a management restart that is due, whether the next READY
ends one, whether RING_LAYOUT is spent (R349), port A's strapped address bits (R450), the interfaces' own memory with what each last
drove (bytes and acknowledgements), the CMIS service (page and bank selected, the next byte address, the write log, the bytes of
the shadow that Mexis marked writable), and the rate limits of R338 and R348. -/
structure MgmtState where
  window : List Host.Cell
  inProgress : List InProg
  waiting : List Waiting
  evtSeq : BitVec 8
  engineHeld : Bool
  restartCause : Option Nat
  afterRestart : Bool
  layoutSpent : Bool
  straps : BitVec 3
  i2cNext : Nat
  i2cOut : List Byte
  i2cAcks : List Bool
  spiOut : List Byte
  readOut : Word
  coreFault : Bool
  cmisOut : List Byte
  cmisAcks : List Bool
  spiCrcErr : Bool
  spiBusErr : Bool
  cmisPage : Nat
  cmisBank : Nat
  cmisLog : List CmisWrite
  cmisNext : Nat
  cmisWritable : List Nat
  busErrRate : RateWindow
  lockedRate : RateWindow
  tmrLast : Option Nat
  tmrSince : Nat
  deriving DecidableEq, Repr

/-! Stored-data memories (chapter 18). -/

/-- A remap entry (R362): the address it serves. -/
structure Remap where
  addr : Nat
  deriving DecidableEq, Repr

/-- A tracker entry of the scrubber (R361): word, bit position and consecutive passes; the list holds the least recently
confirmed entry first. -/
structure Tracked where
  addr : Nat
  bit : Nat
  passes : Nat
  deriving DecidableEq, Repr

/-- The code's state of one bank (R356-R362): the words whose valid bit is set, per word the stored bits in error (79
bits: 64 data, 15 check), the words whose poison bit is set, the remap entries, the tracker, and where the scrubber stands
and when its pass began. -/
structure MemBank where
  valid : List Nat
  errs : List (Nat × BitVec 79)
  poison : List Nat
  remaps : List Remap
  tracker : List Tracked
  scrubAt : Nat
  passStart : Nat
  deriving DecidableEq, Repr

/-- A datapath buffer's parity report (R364): the time of the last MEM_PARITY and the errors since. -/
structure ParityRate where
  last : Option Nat
  since : Nat
  deriving DecidableEq, Repr

/-- The stored-data memories' banks by device-wide index k, and the parity reports: three port buffers per port, one
spotlight buffer per line lane. -/
structure MemState where
  banks : Vector MemBank 64
  parity : Vector ParityRate 32
  candidates : List (Nat × Nat)
  retrain : List (Nat × Nat)
  deriving DecidableEq, Repr

/-! The prompt book and faults (chapter 19). -/

/-- A frozen section (R378): the section's first record and its marker by sequence, and the trigger. -/
structure Section where
  firstSeq : Nat
  markerSeq : Nat
  trigger : Nat
  deriving DecidableEq, Repr

/-- A prompt-book record as stored (R375): its sequence and eight words. -/
structure PbRecord where
  seq : Nat
  words : Vector Word 8
  deriving DecidableEq, Repr

/-- The prompt book: records by slot 0..4095, the next sequence number (R375), the slot the writer fills next, the two
held sections, the two flash copies and the slot the next one takes, the copy in progress (its trigger and
its last sequence), and the triggers whose copies wait. -/
structure BookState where
  records : List (Nat × PbRecord)
  nextSeq : Nat
  nextSlot : Nat
  sections : Vector (Option Section) 2
  flash : Vector (Option (List (Nat × PbRecord))) 2
  nextFlash : Fin 2
  copying : Option (Nat × Nat)
  queued : List Nat
  deriving DecidableEq, Repr

/-- Faults and supplies (R368-R371, R384): the watchdog's last service; which rails stand below warning; the brown-out window:
when it opened, and when its rails were last back above their levels; the rail that opened it, and whether it marked a codeword;
when every rail was last seen clear. -/
structure FaultState where
  watchdogAt : Nat
  below : Vector Bool 7
  window : Option (Nat × Nat)
  windowRail : Nat
  windowMarked : Bool
  clearSince : Vector Nat 7
  deriving DecidableEq, Repr

/-! Power and resets (chapters 20 and 21). -/

/-- The device states of R382, with the steps of the DARK entry sequence (R390: the next step is c0..c6), the wake from
DARK in progress, and the reset hold of R402 and R365. -/
inductive PowerMode where
  | show
  | enteringIntermission
  | intermission
  | leavingIntermission
  | enteringDark (step : Nat) (back : Nat) (forced : Bool)
  | dark
  | wakingDark
  | resetHold
  | checkerFailed
  deriving DecidableEq, Repr

/-- What RET holds of the clocks for the next wake (R38, R399): both show clocks of each port, its WIDTH and LINE_RATE, and
whether the sequencer wrote the record itself. -/
structure StoredClocks where
  ports : Vector HeldClocks 8
  forced : Bool
  deriving DecidableEq, Repr

/-- A device-wide reset (R401): its RST_CAUSE.KIND, 1 PIN or 2 SUPPLY, and its rail. -/
structure DueReset where
  kind : Nat
  rail : Nat
  deriving DecidableEq, Repr

/-- Power: the mode; WAKE's level; the wake configuration and timer latched at c2; the RC frequency measured at entry; the
clocks stored for wake; whether the RC timer has fired behind a trip's block, and that block (R399); the reset that fell due
in DARK (R403); PWR_EN; AVS: the consecutive mismatches, the time of the last step, and whether the
cold addition is in effect (R386); each sensor's consecutive readings at the trip level (R399); whether RST_WARM waits
(R405); and the PWR_STATE_CHANGE that the next READY raises (R395). -/
structure PowerState where
  mode : PowerMode
  wakePin : Bool
  latchedCfg : Nat
  latchedTimer : Nat
  rcHz : Nat
  stored : Option StoredClocks
  timerDue : Bool
  tripWait : Bool
  dueReset : Option DueReset
  pwrEn : Bool
  avsMisses : Nat
  avsLastStep : Option Nat
  coldComp : Bool
  tripRun : Vector Nat 12
  warmPending : Bool
  announce : Option Nat
  deriving DecidableEq, Repr


/-! Bias DACs, sense chain and loop engine (chapters 13 and 14). -/

/-- A bias DAC channel: the source in use (true: LOOP), the last code of each source, the code before dither, the value at
the output in steps of range ×1, which the track-and-hold keeps, the code that arrived during a hold, and the dither term (R272-R275). -/
structure BdacChan where
  fromLoop : Bool
  loopCode : Option Nat
  code : Nat
  out : Nat
  arrived : Option Nat
  dither : Int
  deriving DecidableEq, Repr

/-- A dither generator: 32-bit phase and the count of its wraps (R274, R284). -/
structure DitherGen where
  phase : Nat
  wraps : Nat
  deriving DecidableEq, Repr

/-- A sense channel's chain and detectors (R278-R284): the delay line, CIC integrators and combs (42-bit), the phase
counters, half-band and FIR delay lines (newest first), samples still unsettled, peak holds, RMS block, envelope, and the
lock-in's integration. -/
structure SenseChan where
  delay : List Int
  integ : Vector Int 5
  comb : Vector Int 5
  cicPhase : Nat
  hb1 : List Int
  hb1Phase : Nat
  hb2 : List Int
  hb2Phase : Nat
  fir : List Int
  firPhase : Nat
  unsettled : Nat
  pkStarted : Bool
  maxHold : Nat
  minHold : Nat
  rmsSum : Nat
  rmsCount : Nat
  envStarted : Bool
  env : Int
  liOn : Bool
  liSI : Int
  liSQ : Int
  liM : Nat
  liWraps : Nat
  liLast : Nat
  calibrating : Bool
  deriving DecidableEq, Repr

/-- How a loop's first computed period starts (R259, R263). -/
inductive FirstPeriod where
  | no
  | fromOff
  | bumpless
  deriving DecidableEq, Repr

/-- A loop's record (R250-R263): integrator, filtered derivative, last measurement, output, set-point in use and target,
profile state, the sequence its last period used, periods without a fresh sample, the freeze tests (the run of equal samples; of the block
in progress its count, sums, and whether a whole run ended in it), how the previous period was limited, the way the actuator was held back
since, the tick its RUN began, and whether it has produced a code. -/
structure LoopRec where
  integ : Int
  df : Int
  pv : Int
  u : Int
  sp : Int
  target : Int
  x : Int
  v : Int
  a : Int
  lastSeq : Option Nat
  misses : Nat
  eqRun : Nat
  blkN : Nat
  blkSum : Int
  blkSq : Int
  blkEq : Bool
  atTop : Bool
  atBottom : Bool
  slewDir : Int
  t0 : Nat
  first : FirstPeriod
  hasCode : Bool
  deriving DecidableEq, Repr

/-- The control region: bias DAC channels, dither generators, sense channels, the four coefficient sets (64 values; an
unlisted one has never been written), the loops, the engine's tick count, the codes that the next tick boundary
delivers, and the number of VGA level measurements per line lane (R255, metric 1). -/
structure CtlState where
  bdac : Vector BdacChan 32
  gens : Vector DitherGen 4
  sense : Vector SenseChan 24
  coefs : List (Nat × Int)
  loops : Vector LoopRec 32
  tick : Nat
  pendingCodes : List (Nat × Nat)
  levelSeq : Vector Nat 8
  deriving DecidableEq, Repr

/-! Test (chapter 23). -/

/-- A rehearsal in progress (R438-R441): the cluster's class and instance, the copy of its registers taken at acceptance,
and whether it was powered for the test. -/
structure Rehearsal where
  cls : Nat
  inst : Nat
  savedFld : FieldMap
  savedEff : EffMap
  deriving DecidableEq, Repr

/-- Tests: the rehearsal, memory test or dress rehearsal in progress, fences of loop groups, bias DAC and sense channels
(R442; those of ports and lanes are TST_FENCED), the results that wait for READY (location and data words of TST_RESULT), and the test
access port: instruction and whether it holds the pins (R444-R446). -/
structure TestState where
  rehearsal : Option Rehearsal
  memTest : Option Nat
  dress : Bool
  fencedGroups : Nat
  fencedBdac : Nat
  fencedSense : Nat
  jtagIr : Nat
  jtagPins : Bool
  results : List (Nat × Nat × Nat)
  deriving DecidableEq, Repr



/-! Calibration (chapter 12). -/

/-- A set of calibration targets and instances: masks of line lanes for slices and for DAC skew, which CAL_RUN names together (R248), of
host lanes, bias DACs and sense channels. -/
structure CalSet where
  targets : Nat
  line : Nat
  skew : Nat
  host : Nat
  bdac : Nat
  sense : Nat
  deriving DecidableEq, Repr

/-- A slice lap on a lane (R233): slices measured so far, the slice in the wings, whether its measurement has ended and it
waits for its handover (with the time it was set to its position), whether that handover was held back before, whether the
measurement repeats (0 no, 1 due, 2 it is being repeated), whether a correction ended at its range's end, and the sum of the measured
slices' INL at each of the 127 code transitions, in 2^-16 LSB. -/
structure Lap where
  done : Nat
  wings : Nat
  waiting : Bool
  setAt : Nat
  deferred : Bool
  again : Nat
  limit : Bool
  inl : List Int
  deriving DecidableEq, Repr

/-- The run in progress (R246): its handle (0 immediate), its targets, and the results so far: target bit, instance,
result. -/
structure CalRun where
  handle : Nat
  targets : Nat
  results : List (Nat × Nat × Nat)
  deriving DecidableEq, Repr

/-- Calibration: the run, the laps of line and host lanes, the lanes under DAC skew measurement, those of them that repeat it,
those that have, and those not at idle at some time in it (R240);
the bias DAC and sense channels still to measure and the one measured now with its repeat marks, the deferred runs by
handle, the handles whose cue has fired, and the corrections by key: temperature sets (key times 5 plus set), values in use
and targets; and each line lane's dTC targets (lane times 12 plus context times 3 plus threshold). -/
structure CalState where
  run : Option CalRun
  lineLaps : Vector (Option Lap) 8
  hostLaps : Vector (Option Lap) 16
  skewNow : Nat
  skewAgain : Nat
  skewRepeated : Nat
  skewLive : Nat
  bdacQueue : List Nat
  senseQueue : List Nat
  bdacNow : Option Nat
  senseNow : Option Nat
  repeatBdac : Bool
  repeatSense : Bool
  deferred : List (Nat × CalSet)
  fired : List Nat
  sets : List (Nat × Int)
  inUse : List (Nat × Int)
  targets : List (Nat × Int)
  dtcTarget : List (Nat × Int)
  deriving DecidableEq, Repr



/-! Receiving lanes, line and host (chapters 04, 05 and 10). -/

/-- The slices of one converter (R61-R67, R490): the slice at each position; runs of consecutive failing monitor windows
by key 4 times slice plus check; the windows still left out after LOS cleared (R63); the slices in service whose
samples are replaced by 0; those that took their position in the window in progress; the pending swap with its slice and cause; the slices flagged while it is pending; whether the
restore test runs. -/
structure Slices where
  place : List Nat
  runs : List (Nat × Nat)
  skip : Nat
  zeroed : List Nat
  fresh : List Nat
  pending : Option (Nat × Nat)
  second : List (Nat × Nat)
  testing : Bool
  deriving DecidableEq, Repr

/-- A CTLE search (R56): the code applied now, and the best code so far with its distance from HF_TARGET and its ratio. -/
structure CtleSearch where
  code : Nat
  best : Option (Nat × Nat × Nat)
  deriving DecidableEq, Repr

/-- The front end of a receiving lane: slices; the search in progress and whether one waits for LOS to clear (R71); whether
the equaliser start of R87 is due once the search ends; the last RMS level (Q8.8); the VGA's consecutive measurements low and
high, the due step, whether it was held back, and the time of the last step; F and PHI, and whether timing recovery has run since
the lane was powered (R68, R69); consecutive passing and failing lock windows and whether the short windows are in use (R69); the
two loss-of-signal detectors; and when phase training began (R187). -/
structure Front where
  slices : Slices
  search : Option CtleSearch
  searchDue : Bool
  startDue : Bool
  level : Nat
  vgaLow : Nat
  vgaHigh : Nat
  vgaDue : Int
  vgaHeld : Int
  vgaLast : Option Nat
  freq : Int
  phase : Nat
  timed : Bool
  pass : Nat
  fail : Nat
  short : Bool
  losEnv : Bool
  losRms : Bool
  trainSince : Option Nat
  deriving DecidableEq, Repr

/-- The equaliser of a receiving lane (R81-R93): FFE, DFE, offset and detector-table accumulators, G, whether it runs
decision-directed (else blind), whether it waits for the resumption of R93, whether it has run since the lane was powered,
whether the state is valid, consecutive good and bad outlier windows, the warm resume under judgement with the windows judged so far and those that exceeded, the place in the
lane's stream at which it resumed, and WARM. -/
structure EqRec where
  ffe : List Int
  dfe : List Int
  ofs : List Int
  table : List Int
  g : Nat
  dd : Bool
  held : Bool
  ran : Bool
  valid : Bool
  good : Nat
  bad : Nat
  judge : Option (Nat × Nat)
  judgeFrom : Nat
  warm : Bool
  deriving DecidableEq, Repr

/-- A detected symbol (R78-R89): its ADC code (0 where it is replaced, R64), y, the integer value of the level as received, the value
after the inversion of the map in use (R170), the value after precoding decode (R79), the reliabilities of its first and second bit
(R84, R85), the error of R89, whether its sample was replaced, and whether R91 skips it. -/
structure RxSym where
  x : Int
  y : Int
  level : Nat
  value : Nat
  dec : Nat
  r0 : Nat
  r1 : Nat
  err : Int
  zeroed : Bool
  skipped : Bool
  deriving DecidableEq, Repr

/-- A symbol at the slicer or the detector (R82): z, the level, and the four levels before it, newest first. -/
structure DetSym where
  z : Int
  d : Int
  prev : List Int
  deriving DecidableEq, Repr

/-- A block of a DSP clock in the chain (R80-R84): its ADC codes, which of them are replaced (R64), the restorer's output, y, the
slicer's symbols, and the two reliabilities that the slicer gave each. -/
structure RxBlock where
  x : List Int
  zeroed : List Bool
  xr : List Int
  y : List Int
  sl : List DetSym
  rel : List (Nat × Nat)
  deriving DecidableEq, Repr

/-- The block an update works on (R87, R89): the restorer's samples that the taps see, from the one tap T - 1 sees at the block's first
symbol; y; the slicer's symbols and the detector's; the sum of the residual in 1/1,024 LSB (R80); and whether R91 skips it. -/
structure UpdBlock where
  xr : List Int
  y : List Int
  sl : List DetSym
  det : List DetSym
  residual : Int
  skipped : Bool
  deriving DecidableEq, Repr

/-- A test-pattern checker (R156): its shift register (newest bit lowest) and the bits loaded into it, consecutive agreements, the bits
its reference has run, and of the window in progress the errors, and the bits compared and the errors found under LOCK. -/
structure Tpc where
  reg : Nat
  loaded : Nat
  agree : Nat
  run : Nat
  errors : Nat
  bits : Nat
  counted : Nat
  deriving DecidableEq, Repr

/-- A lane's receive stream (R61, R68-R94, R156): symbols since the lane was powered; the block in progress with its length (R68); the
last three blocks, newest first; the residuals of the blocks detected last, as sum and length; the slicer's and the detector's last four
levels; the trellis's path metrics (none while the detector is off); the last value and its lowest reliability for precoding decode; the
last y; the detected symbols, newest first, and how many there are; the last block detected; the lock window's counts and whether F
reached its clamp in it (R69), the tracking sum (R187); the outliers so far and the place at which their window began (R88), the metric window (R94); the checker; and for the
aside extractor the sum and the length of every block, newest first, the place in the stream at which the first of them began (R205), and
the first of the samples at 40 MS/s at which no preamble has been looked for (R217). -/
structure RxRec where
  count : Nat
  x : List Int
  zeroed : List Bool
  len : Nat
  blocks : List RxBlock
  residuals : List (Int × Nat)
  slPrev : List Int
  dPrev : List Int
  metrics : List Nat
  valuePrev : Nat
  relPrev : Nat
  yPrev : Int
  buf : List RxSym
  detected : Nat
  upd : UpdBlock
  plus : Nat
  minus : Nat
  clamped : Bool
  track : Int
  outliers : Nat
  outlierAt : Nat
  levels : Vector Nat 4
  squares : Vector Nat 4
  hist : Vector Nat 64
  tpc : Tpc
  sums : List (Int × Nat)
  sumsAt : Nat
  looked : Nat
  deriving DecidableEq, Repr

/-- A lane's spotlight buffer (R72-R75): source and slice, the header words at the start, the flags, the place in the lane's stream of
the next symbol it takes, the entries so far in symbol order, and whether an image is held. -/
structure Spot where
  source : Nat
  slice : Nat
  header : List Nat
  flags : Nat
  next : Nat
  entries : List Nat
  held : Bool
  deriving DecidableEq, Repr

/-- A physical line lane's lock machine (R150-R153): 0 SEARCH, 1 CONFIRM, 2 LOCKED; the reference and polarity recorded in
CONFIRM and those seen at LOCKED; consecutive misses; MISMATCH; the last group's place in the lane's stream of detected symbols and
when it arrived, in line symbols on the port's common scale; the place from which SEARCH resumes; and the delay deskew applies. -/
structure MarkerLock where
  state : Nat
  candRef : Nat
  candInv : Bool
  seen : Nat
  inverted : Bool
  misses : Nat
  mismatch : Bool
  pos : Nat
  arrival : Nat
  resume : Nat
  skew : Nat
  deriving DecidableEq, Repr

/-- A symbol on its way through a transmitter (R97, R106): the value sent, none at electrical idle; the lookup bank that serves it; the
aside sample it takes. -/
structure TxSym where
  value : Option Nat
  bank : Nat
  aside : Int
  deriving DecidableEq, Repr

/-- A lane's transmit stream (R97-R108, R154, R189, R190): the precoder state; the last seventeen symbols, newest first; the PRBS13
generator's register and another pattern's (0: not loaded yet), with the place in a pattern that has a pointer; the symbols sent of the
training burst, and since the lane was powered; the place at which its grid of blocks began (R485); the data symbols that a recentred gearbox still drops, or repeats where negative (R194); what the converter was given for the
symbols of the last command, in order: DAC codes on a line lane, u V_PP on a host lane. -/
structure TxRec where
  pre : Nat
  window : List TxSym
  prbs13 : Nat
  prbs : Nat
  pos : Nat
  burst : Nat
  count : Nat
  gridAt : Nat
  slip : Int
  out : List Int
  deriving DecidableEq, Repr

/-- A line transmitter's lookup and swing (R99-R101): the entries of the lookup banks that have been written (key 65,536 times bank plus
entry), and the time of the last swing step. -/
structure LineTx where
  lut : List (Nat × Int)
  swingLast : Option Nat
  deriving DecidableEq, Repr

/-- Where an adaptation stands (R112). -/
inductive XaPhase where
  | gather
  | expand
  | swap
  | trackWait
  deriving DecidableEq, Repr

/-- Cross-link adaptation running on a lane (R111-R115): the command's settings, the phase, swaps made, consecutive failures
of step 1, the squared RMS of the sets so far as fractions (latest first), consecutive sets at or below XA_DONE, the request's codeword, the last
swap, the fragments received (64 entries each by number) with the set's header, and the entry of the swap cue. -/
structure XaRun where
  track : Bool
  mu : Nat
  len : Nat
  done : Nat
  maxIter : Nat
  period : Nat
  phase : XaPhase
  swaps : Nat
  fails : Nat
  rms : List (Nat × Nat)
  good : Nat
  m : BitVec 48
  lastSwap : Option (BitVec 48)
  levelA : Nat
  flags : Nat
  frags : List (Nat × List Nat)
  deriving DecidableEq, Repr

/-- A statistics set (R110): M and its epoch, L, flags, the symbols gathered, LEVEL_A and DET, and the 1,024 entries. -/
structure StatSet where
  m : BitVec 48
  epoch : BitVec 16
  len : Nat
  flags : Nat
  total : Nat
  levelA : Nat
  det : Nat
  entries : List Nat
  deriving DecidableEq, Repr

/-- A lane's statistics gatherer (R109, R110): the request's start and length; per context that has occurred its sum of errors and its
count; the symbols gathered; the flags so far (LOS, LOL, not in DD); and the set once its window has closed. -/
structure Gatherer where
  m : BitVec 48
  epoch : BitVec 16
  len : Nat
  sums : List (Nat × Int × Nat)
  total : Nat
  flags : Nat
  set : Option StatSet
  deriving DecidableEq, Repr

/-- The lanes: front ends, equalisers, receive and transmit streams of line and host lanes, lookups, spotlights, marker locks by physical
line lane, adaptations, starting tables kept for a revert and the lanes whose revert waits for a cue entry (R115), gatherers, and the
boundary recorded for the partner's next swap (R112). -/
structure LaneState where
  lineFront : Vector Front 8
  hostFront : Vector Front 16
  lineEq : Vector EqRec 8
  hostEq : Vector EqRec 16
  lineRx : Vector RxRec 8
  hostRx : Vector RxRec 16
  tx : Vector LineTx 8
  lineOut : Vector TxRec 8
  hostOut : Vector TxRec 16
  spot : Vector Spot 8
  lock : Vector MarkerLock 8
  xa : Vector (Option XaRun) 8
  xaStart : Vector (Option (List (Nat × Int))) 8
  revertDue : Vector Bool 8
  gather : Vector (Option Gatherer) 8
  boundary : Vector (Option (BitVec 48)) 8
  deriving DecidableEq, Repr

/-- What the last HELLO on a physical lane of the port said, for a probe (R171): sender lane, polarity, partner's width. -/
structure HelloId where
  lane : Nat
  polarity : Nat
  width : Nat
  deriving DecidableEq, Repr

/-- A port's link machine (R165-R179): the state held (for HOLD), whether the host-to-line direction has been aligned since
DOWN (R165), whether an ALIGN has failed since the last entry to ACQUIRE,
when ACQUIRE was entered, since when each logical lane is lost (crystal cycles), whether deskew has been judged good, the
identity a HELLO gave each physical lane since ACQUIRE. -/
structure LinkPort where
  resume : Nat
  hostSeen : Bool
  failed : Bool
  entered : Nat
  lostAt : Vector (Option Nat) 8
  skewOk : Option Bool
  hello : Vector (Option HelloId) 8
  deriving DecidableEq, Repr



/-! The aside channel (chapter 11). -/

/-- What a lane has to send (R213, R214): a packet of a timer, a request or an answer, or a buffer on
command (with the command's tag) or cue; a proposal names its cue entry and agreement. -/
inductive AsideOut where
  | hello
  | health
  | tag (buf : Nat)
  | buffer (buf : Nat) (tag : Option (BitVec 16))
  | request (lane : Nat) (m : BitVec 48) (epoch : BitVec 16) (len : Nat)
  | fragment (x : Nat) (f : Nat)
  | propose (entry : Nat) (id : BitVec 16)
  | ack (id : BitVec 16) (refusal : Nat)
  | loadPropose (id : Nat) (table : BitVec 64)
  | loadConfirm (id : Nat) (table : BitVec 64)
  | challenge
  | response (nonce : BitVec 64) (noKey : Bool)
  deriving DecidableEq, Repr

/-- A packet on the line: its header and payload words (R209, R212). -/
structure AsidePacket where
  header : Word
  words : List Word
  deriving DecidableEq, Repr

/-- An accepted packet as ASD_RX_READ copies it: header, payload, house time of its preamble. -/
structure AsideHeld where
  packet : AsidePacket
  hc : BitVec 64
  deriving DecidableEq, Repr

/-- A reception in progress (R217): its header; the house time and strength of its preamble; the sample of the lane's 40 MS/s stream
that is its first, and that sample's instant in crystal cycles (R216); the channel estimate, bin by bin (R218); the sample at which it was
detected; and the AGC's frozen gain. -/
structure AsideRx where
  header : Word
  hc : BitVec 64
  strength : Nat
  start : Nat
  instant : Nat
  channel : List (Int × Int)
  detected : Nat
  gain : Int
  deriving DecidableEq, Repr

/-- A loading: identifier and table (R208). -/
structure Loading where
  id : Nat
  table : BitVec 64
  deriving DecidableEq, Repr

/-- A packet buffer (R230): TYPE, TAG length and text. -/
structure AsideBuf where
  kind : Nat
  len : Nat
  text : List Word
  deriving DecidableEq, Repr

/-- The aside channel of a line lane: packets waiting, the packet being sent with what it answers, packets sent, the
reception, the last accepted packet of each TYPE, the last accepted SEQ, the nonce outstanding, the last accepted stamp, the
receive loading proposed, the previous one still accepted, the last identifier used, payload results of the last packets at a
negotiated loading (true: failed), the proposals answered with their refusals, when a packet was last accepted, in crystal cycles; the
per-sub-carrier SNR of the last sixteen accepted packets, newest first, in 1/256 dB (R227); the samples of the packet last started at
40 MS/s and the symbols the lane had sent by then (R204); a point of its 3.6 us grid, and when its last packet ended, in crystal cycles
(R214); and the cues, by entry and trigger, whose packet has started ahead of the trigger (R214). -/
structure AsideLane where
  queue : List AsideOut
  sending : Option (AsideOut × AsidePacket)
  sent : BitVec 16
  rx : Option AsideRx
  held : List (Nat × AsideHeld)
  lastSeq : Option (BitVec 16)
  nonce : Option (BitVec 64)
  lastStamp : BitVec 64
  proposed : Option Loading
  previous : Option Loading
  lastId : Nat
  results : List Bool
  answered : List (BitVec 16 × Nat)
  lastOk : Option Nat
  snrs : List (List Nat)
  wave : List Int
  waveAt : Nat
  grid : Option Nat
  lastEnd : Option Nat
  early : List (Nat × BitVec 48)
  deriving DecidableEq, Repr

/-- The aside channel: lanes, the sixteen buffers, the key cache's four slots (identifier and key), and the count of
agreement identifiers given out. -/
structure AsideState where
  lanes : Vector AsideLane 8
  bufs : Vector (Option AsideBuf) 16
  keys : Vector (Option (BitVec 8 × BitVec 256)) 4
  agreeCount : BitVec 16
  deriving DecidableEq, Repr


/-! The datapath (chapters 07, 08 and 10). -/

/-- An entry of a rate-match FIFO (R158): a 257-bit block, whether it is an idle block, and its mark flag. -/
structure RmEntry where
  block : BitVec 257
  idle : Bool
  flag : Bool
  deriving DecidableEq, Repr

/-- A rate-match FIFO (R158-R162): entries oldest first, whether the output still waits for the fill of 910, whether the next
block written takes a mark flag, whether the last block seen at the input and the last sent at the output were idle, and the
output blocks since the last slip. -/
structure RateMatch where
  entries : List RmEntry
  priming : Bool
  flagNext : Bool
  inIdle : Bool
  outIdle : Bool
  sinceSlip : Option Nat
  deriving DecidableEq, Repr

/-- A frame that the flow observer has found in the stream (R299): its bytes from destination address through FCS, whether the codeword
that holds its last FCS byte is marked, and that codeword's cue tick. -/
structure TappedFrame where
  bytes : List Byte
  marked : Bool
  stamp : Word
  deriving DecidableEq, Repr

/-- One direction of a port: the codeword last delivered with the reasons of R135 it was marked for (bit r: reason r; bit 0: it
arrived with the mark); the symbols corrected in the codeword decoded last, where it decoded; the signal-degrade window (R142): codewords, sum, whether one was marked, whether one arrived marked;
the rate-match FIFO; codewords since the marker group began last, at the input and at the output (R146, R158); the digest of what has
left, from which the markers' BIP comes; ERASE_EN, EO_FALLBACK and SD_EN as they are in force, and whether a GO asks for a restart of the window
(R143); the codewords that wait until the host format's window is full (R145); what the flow observer has tapped of frames that are still to
end, and the frames that have ended and wait for the lookup (R299); and the last marker groups, newest first: the show-clock value (epoch and count) of each one's first codeword and its instant in crystal cycles (R215,
R216). -/
structure PortPath where
  out : List Sym
  reasons : Nat
  corrected : Option Nat
  sdCount : Nat
  sdSum : Nat
  sdMarked : Bool
  sdIn : Bool
  rm : RateMatch
  inAt : Nat
  outAt : Nat
  bip : Nat
  fec : Bool × Bool × Bool
  fecDue : Bool
  window : List (List Sym)
  tap : List (BitVec 257)
  frames : List TappedFrame
  groups : List (Nat × Nat)
  deriving DecidableEq, Repr

/-- The datapath: the two directions of each port; codewords of the line-to-host superblock still to leave the deinterleaver,
with erasure flags, and their number 0 to 3 in it; the codewords collected for the next host-to-line superblock and the inner
codewords of the last one; where in each lane's stream the next codeword
begins: on a line lane a place, on a host lane one for each of its PCS lanes (R147, R151); the pool member that takes the next codeword and
the one left out for its idle test (R132), and the codewords that entered each pool in this crystal cycle and in the last one (R130, R298), by
direction; when each line and host region last went to its understudy PLL (R14), and whether a host region took another
reference and has not retrained its lanes (R193); the moves that wait at the line and host
checkers, in bits (R157); the lanes the interpolators of each port follow while their designated one fails (R195); and whether
CORE runs on the system PLL during a change of CLK_MODE (R196). -/
structure PathState where
  tx : Vector PortPath 8
  rx : Vector PortPath 8
  superRx : Vector (List (List (Sym × Bool))) 8
  superTx : Vector (List (List Sym)) 8
  innerTx : Vector (List (List Bool)) 8
  lineAt : Vector Nat 8
  hostAt : Vector (List (Nat × Nat)) 16
  next : Vector Nat 2
  testing : Vector (Option Nat) 2
  poolNow : Vector Nat 2
  poolLast : Vector Nat 2
  lineSwitch : Vector (Option Nat) 2
  hostSwitch : Vector (Option Nat) 2
  refChanged : Vector Bool 2
  lineSlip : Vector Nat 8
  hostSlip : Vector Nat 16
  txFollow : Vector (Option Nat) 8
  rxFollow : Vector (Option Nat) 8
  modeChange : Bool
  deriving DecidableEq, Repr


/-! Security, life cycle and firmware (chapter 22). -/

/-- The OTP (R411): the life-cycle fuses burned, the signing slots programmed and revoked, the owner key hash, the alarm
policy minimum, the scorch fuse, and the anti-rollback count. What is fixed before delivery is Config's: the device identity, the process bin,
the device-unique secret, the image key and the signing-key hashes. -/
structure Otp where
  life : Nat
  slotProg : Nat
  slotRevoked : Nat
  owner : Option (BitVec 384)
  policy : Option (BitVec 10)
  scorched : Bool
  rollback : Nat
  deriving DecidableEq, Repr

/-- An image slot of the flash (R421, R423): the header's 64 words, what follows it, whether it was committed, and what checks 13 to 15 say
of these bytes. -/
structure FlashImage where
  header : List Nat
  body : List Byte
  committed : Bool
  verdict : ImageVerdict
  deriving DecidableEq, Repr

/-- A boot record (R422): sequence number, ACTIVE, PENDING, TRIAL, and the CRC-32 over them. -/
structure BootRecord where
  seq : Nat
  active : Fin 2
  pending : Option (Fin 2)
  trial : Bool
  crc : Word
  deriving DecidableEq, Repr

/-- A settings block (R431): magic, format version, sequence, body length and CRC-32, whether it is superseded, and its body: whether it
holds a ring layout, the effective values of the RS fields, and the write-once, locked and alarm fields (log entry 108). -/
structure SettingsBlock where
  magic : Word
  format : Nat
  seq : Nat
  length : Nat
  crc : Word
  superseded : Bool
  layout : Bool
  eff : FieldMap
  fld : FieldMap
  deriving DecidableEq, Repr

/-- An open update (R426): the slot it writes, its header, and the bytes received. -/
structure Update where
  slot : Fin 2
  header : List Nat
  body : List Byte
  deriving DecidableEq, Repr

/-- A flash operation that has not finished (R426): FW_BEGIN's erase and header, FW_CHUNK's program, FW_COMMIT's boot record,
SET_SAVE's block and whether its read-back verifies. -/
inductive FlashOp where
  | erase (slot : Fin 2) (header : List Nat)
  | program (bytes : List Byte)
  | commit (slot : Fin 2)
  | save (block : SettingsBlock) (verified : Bool)
  deriving DecidableEq, Repr

/-- A settings migration that waits for a healthy trial (R432): the old format, and whether the write verifies. -/
structure Migration where
  old : Nat
  written : Bool
  deriving DecidableEq, Repr

/-- Security: the OTP; the session, FIELD_DIAG, the outstanding challenge with the time of its issue; the alarm's latches in
HOUSE (whether any action is in force, LOCK, ZEROIZE), whether the secret is hidden for good, the end of a LOG alarm's pulse on
ALARM_N, whether a LOCK closed an update; the flash: image slots, the two boot records, settings slots; the settings cache of RET
and whether it is lost; the update and the flash operations under way; the slot of the running image, the format of its settings,
the activation flag, the house time a trial began, the revert to report at READY, the migration that waits, and whether the
settings are still to be applied at READY. -/
structure SecState where
  otp : Otp
  session : Bool
  fieldDiag : Bool
  challenge : Option (BitVec 256 × Nat)
  locked : Bool
  zeroized : Bool
  pulse : Option Nat
  lockClosed : Bool
  images : Vector (Option FlashImage) 2
  boot : Vector BootRecord 2
  settings : Vector (Option SettingsBlock) 2
  cache : Option SettingsBlock
  update : Option Update
  ops : List FlashOp
  running : Option (Fin 2)
  recovery : Bool
  format : Nat
  activate : Bool
  trialAt : Option (BitVec 64)
  reverted : Option Bool
  migration : Option Migration
  applyDue : Bool
  deriving DecidableEq, Repr


/-! The whole state. -/

/-- The state of the KX8. `fld` holds the register fields' values (staged values of RS fields), `eff` the effective
values of RS fields; the other components hold what no register shows. `freeCount` is the model's own: it numbers the
free values that Config's opaque functions deliver. `pending` is the queue of commands that wait. -/
structure State where
  fld : FieldMap
  eff : EffMap
  time : TimeState
  obs : ObsState
  lanes : LaneState
  link : Vector LinkPort 8
  path : PathState
  aside : AsideState
  ctl : CtlState
  cal : CalState
  mgmt : MgmtState
  mem : MemState
  book : BookState
  faults : FaultState
  power : PowerState
  test : TestState
  sec : SecState
  freeCount : Nat
  pending : List Instr
  deriving DecidableEq, Repr

/-! Reset: power-on with the start sequence still to run (R404). -/

def PllPair.reset : PllPair := ⟨false, false, false⟩
def ShowClock.reset : ShowClock := ⟨0, 0, 0, true⟩

def TimeState.reset : TimeState :=
  { hc := 0, tick := 0, estimated := false, sysPllLocked := false, crystalRuns := false, crystalOk := true,
    linePll := Vector.replicate 2 .reset, hostPll := Vector.replicate 2 .reset,
    tx := Vector.replicate 8 .reset, rx := Vector.replicate 8 .reset, paired := Vector.replicate 8 false,
    cues := Vector.replicate 64 .free, held := Vector.replicate 8 none }

def SnapBank.reset : SnapBank := ⟨[], [], [], [], false, false, []⟩
def SampleSlot.reset : SampleSlot := ⟨0, 0, none⟩
def BerWindow.reset : BerWindow := ⟨0, 0, 0, 0, false⟩

def ObsState.reset : ObsState :=
  { counters := [], hiLatch := Vector.replicate 3 0, invalid := [], banks := Vector.replicate 2 .reset,
    lastBank := 1, seq := 0, full := Vector.replicate 2 false,
    slots := Vector.replicate 32 .reset, thrFrac := Vector.replicate 32 0, ber := Vector.replicate 8 .reset,
    buckets := [], contexts := [], replay := Vector.replicate 2 [], image := none, imageCopying := false,
    imageLocked := false, flowFull := false, shifts := [] }

def MgmtState.reset : MgmtState :=
  { window := [], inProgress := [], waiting := [], evtSeq := 0, engineHeld := true, restartCause := none, afterRestart := false,
    layoutSpent := false, straps := 4, i2cNext := 0, i2cOut := [], i2cAcks := [], spiOut := [], readOut := 0, coreFault := false,
    cmisOut := [], cmisAcks := [], spiCrcErr := false, spiBusErr := false,
    cmisPage := 0, cmisBank := 0, cmisLog := [], cmisNext := 0, cmisWritable := [],
    busErrRate := ⟨0, 0⟩, lockedRate := ⟨0, 0⟩, tmrLast := none, tmrSince := 0 }

def MemBank.reset : MemBank := ⟨[], [], [], [], [], 0, 0⟩

def MemState.reset : MemState :=
  { banks := Vector.replicate 64 .reset, parity := Vector.replicate 32 ⟨none, 0⟩, candidates := [], retrain := [] }

def BookState.reset : BookState :=
  { records := [], nextSeq := 0, nextSlot := 0, sections := Vector.replicate 2 none, flash := Vector.replicate 2 none,
    nextFlash := 0, copying := none, queued := [] }

def FaultState.reset : FaultState :=
  { watchdogAt := 0, below := Vector.replicate 7 false, window := none, windowRail := 0, windowMarked := false,
    clearSince := Vector.replicate 7 0 }

def PowerState.reset : PowerState :=
  { mode := .resetHold, wakePin := false, latchedCfg := 0, latchedTimer := 0, rcHz := 0, stored := none, timerDue := false,
    tripWait := false, dueReset := none, pwrEn := false, avsMisses := 0, avsLastStep := none,
    coldComp := false, tripRun := Vector.replicate 12 0, warmPending := false, announce := none }

def BdacChan.reset : BdacChan := ⟨false, none, 0, 0, none, 0⟩

def SenseChan.reset : SenseChan :=
  { delay := [], integ := Vector.replicate 5 0, comb := Vector.replicate 5 0, cicPhase := 0, hb1 := [], hb1Phase := 0,
    hb2 := [], hb2Phase := 0, fir := [], firPhase := 0, unsettled := 0, pkStarted := false, maxHold := 0, minHold := 0,
    rmsSum := 0, rmsCount := 0, envStarted := false, env := 0, liOn := false, liSI := 0, liSQ := 0, liM := 0, liWraps := 0,
    liLast := 0, calibrating := false }

def LoopRec.reset : LoopRec :=
  { integ := 0, df := 0, pv := 0, u := 0, sp := 0, target := 0, x := 0, v := 0, a := 0, lastSeq := none, misses := 0,
    eqRun := 0, blkN := 0, blkSum := 0, blkSq := 0, blkEq := false, atTop := false, atBottom := false, slewDir := 0,
    t0 := 0, first := .no, hasCode := false }

def CtlState.reset : CtlState :=
  { bdac := Vector.replicate 32 .reset, gens := Vector.replicate 4 ⟨0, 0⟩, sense := Vector.replicate 24 .reset,
    coefs := [], loops := Vector.replicate 32 .reset, tick := 0, pendingCodes := [], levelSeq := Vector.replicate 8 0 }

def TestState.reset : TestState :=
  { rehearsal := none, memTest := none, dress := false, fencedGroups := 0, fencedBdac := 0, fencedSense := 0,
    jtagIr := 1, jtagPins := false, results := [] }

def CalState.reset : CalState :=
  { run := none, lineLaps := Vector.replicate 8 none, hostLaps := Vector.replicate 16 none, skewNow := 0, skewAgain := 0, skewRepeated := 0, skewLive := 0,
    bdacQueue := [], senseQueue := [], bdacNow := none, senseNow := none, repeatBdac := false, repeatSense := false,
    deferred := [], fired := [], sets := [], inUse := [], targets := [], dtcTarget := [] }

def Slices.reset (n : Nat) : Slices := ⟨List.range n, [], 0, [], [], none, [], false⟩

def Front.reset (n : Nat) : Front :=
  { slices := .reset n, search := none, searchDue := false, startDue := false, level := 0, vgaLow := 0, vgaHigh := 0,
    vgaDue := 0, vgaHeld := 0, vgaLast := none, freq := 0, phase := 0, timed := false, pass := 0, fail := 0, short := false,
    losEnv := true, losRms := true, trainSince := none }

/-- The blind-start values (R81, R87): every accumulator 0 but tap MAIN's, which is 1.0; not run since power-on. -/
def EqRec.reset (taps main dfes : Nat) : EqRec :=
  { ffe := (List.range taps).map fun j => if j = main then 2 ^ 20 else 0, dfe := List.replicate dfes 0,
    ofs := List.replicate 16 0, table := List.replicate 16 0, g := 0, dd := false, held := false, ran := false, valid := false, good := 0,
    bad := 0, judge := none, judgeFrom := 0, warm := false }

def Tpc.reset : Tpc := ⟨0, 0, 0, 0, 0, 0, 0⟩

/-- A lane's stream as it is powered: nothing received, both precoder states 0 (R79), levels before the first symbol -3 (log entry 137). -/
def RxRec.reset (block : Nat) : RxRec :=
  { count := 0, x := [], zeroed := [], len := block, blocks := [], residuals := [], slPrev := List.replicate 4 (-3),
    dPrev := List.replicate 4 (-3), metrics := [], valuePrev := 0, relPrev := 15, yPrev := 0, buf := [], detected := 0,
    upd := ⟨[], [], [], [], 0, true⟩, plus := 0, minus := 0, clamped := false, track := 0, outliers := 0, outlierAt := 0,
    levels := Vector.replicate 4 0, squares := Vector.replicate 4 0, hist := Vector.replicate 64 0, tpc := .reset, sums := [], sumsAt := 0,
    looked := 0 }

def MarkerLock.reset : MarkerLock := ⟨0, 0, false, 0, false, 0, false, 0, 0, 0, 0⟩

/-- A transmitter as its lane is powered: precoder state 0 (R79), nothing sent, no generator loaded yet. -/
def TxRec.reset : TxRec := ⟨0, [], 0, 0, 0, 0, 0, 0, 0, []⟩

def LaneState.reset : LaneState :=
  { lineFront := Vector.replicate 8 (.reset 64), hostFront := Vector.replicate 16 (.reset 32),
    lineEq := Vector.replicate 8 (.reset 41 10 4), hostEq := Vector.replicate 16 (.reset 16 3 3),
    lineRx := Vector.replicate 8 (.reset 256), hostRx := Vector.replicate 16 (.reset 128),
    tx := Vector.replicate 8 ⟨[], none⟩, lineOut := Vector.replicate 8 .reset,
    hostOut := Vector.replicate 16 .reset, spot := Vector.replicate 8 ⟨0, 0, [], 0, 0, [], false⟩,
    lock := Vector.replicate 8 .reset, xa := Vector.replicate 8 none, xaStart := Vector.replicate 8 none, revertDue := Vector.replicate 8 false,
    gather := Vector.replicate 8 none, boundary := Vector.replicate 8 none }

def LinkPort.reset : LinkPort := ⟨0, false, false, 0, Vector.replicate 8 none, none, Vector.replicate 8 none⟩

def AsideLane.reset : AsideLane :=
  { queue := [], sending := none, sent := 0, rx := none, held := [], lastSeq := none, nonce := none, lastStamp := 0,
    proposed := none, previous := none, lastId := 0, results := [], answered := [],
    lastOk := none, snrs := [], wave := [], waveAt := 0, grid := none, lastEnd := none, early := [] }

def AsideState.reset : AsideState :=
  { lanes := Vector.replicate 8 .reset, bufs := Vector.replicate 16 none, keys := Vector.replicate 4 none,
    agreeCount := 0 }

def RateMatch.reset : RateMatch := ⟨[], true, false, false, false, none⟩

def PortPath.reset : PortPath := ⟨[], 0, none, 0, 0, false, false, .reset, 0, 0, 0, (false, false, false), false, [], [], [], []⟩

def PathState.reset : PathState :=
  { tx := Vector.replicate 8 .reset, rx := Vector.replicate 8 .reset, superRx := Vector.replicate 8 [],
    superTx := Vector.replicate 8 [], innerTx := Vector.replicate 8 [],
    lineAt := Vector.replicate 8 0, hostAt := Vector.replicate 16 [], next := Vector.replicate 2 0, testing := Vector.replicate 2 none,
    poolNow := Vector.replicate 2 0, poolLast := Vector.replicate 2 0, lineSwitch := Vector.replicate 2 none, hostSwitch := Vector.replicate 2 none, refChanged := Vector.replicate 2 false,
    lineSlip := Vector.replicate 8 0, hostSlip := Vector.replicate 16 0, txFollow := Vector.replicate 8 none,
    rxFollow := Vector.replicate 8 none, modeChange := false }

/-- A part as it leaves Dvorelo (R412): in MANUFACTURE, both signing slots programmed, nothing of the owner's. -/
def Otp.reset : Otp :=
  { life := 1, slotProg := 3, slotRevoked := 0, owner := none, policy := none, scorched := false, rollback := 0 }

/-- The header of the image that the flash is fitted with (log entry 107): NORMAL, security version 0, 16 bytes, one section,
signing slot 0. -/
def shippedHeader : List Nat :=
  [0x4B583849, 0x00010100, 0x8320A100, 0x01000000, 0, 0x01000000, 16, 0x01000000, 0, 16, 0, 0x01000000] ++ List.replicate 52 0

/-- The flash as fitted (log entry 107): one committed image in slot A whose checks hold, boot records with their CRCs, no settings. -/
def SecState.reset : SecState :=
  { otp := .reset, session := false, fieldDiag := false, challenge := none, locked := false, zeroized := false, pulse := none,
    lockClosed := false, images := #v[some ⟨shippedHeader, List.replicate 112 0, true, .good⟩, none],
    boot := #v[⟨1, 0, none, false, 0x2B72306B#32⟩, ⟨0, 0, none, false, 0xC3D6666E#32⟩], settings := Vector.replicate 2 none, cache := none, update := none,
    ops := [], running := none, recovery := false, format := 0, activate := false, trialAt := none, reverted := none,
    migration := none, applyDue := true }

/-- The machine right after power-on reset: every register field at the value its table gives. -/
def State.reset : State :=
  { fld := [],
    eff := [],
    time := .reset,
    obs := .reset,
    lanes := .reset,
    link := Vector.replicate 8 .reset,
    path := .reset,
    aside := .reset,
    ctl := .reset,
    cal := .reset,
    mgmt := .reset,
    mem := .reset,
    book := .reset,
    faults := .reset,
    power := .reset,
    test := .reset,
    sec := .reset,
    freeCount := 0,
    pending := [] }

end Sys2Proof.Machine
end

