-- ==== Sys2Proof/Machine/Regs.lean ====
section
/-! DEFINITION. The direct register file's map (chapter 17, R335; every chapter's register tables): one constant per
field, named <register>_<field> as the spec names them, and the list of the registers by address that the register
interface searches. A field's place, width, access type and reset value are those of the spec's table. -/

namespace Sys2Proof.Machine


/-! Registers of spec/02_show_clock_and_cues.md. -/

/-- CUE_LATCH, 0x03_0100, device. -/
def Regs.CUE_LATCH : RegPlace := ⟨0x30100, 0x0, 1, 0x0, 1⟩
def F.CUE_LATCH_DIR : Field := ⟨Regs.CUE_LATCH, 3, 1, .ws, 0x0, [], false⟩
def F.CUE_LATCH_PORT : Field := ⟨Regs.CUE_LATCH, 0, 3, .ws, 0x0, [], false⟩
/-- CUE_HC_LO, 0x03_0104, device. -/
def Regs.CUE_HC_LO : RegPlace := ⟨0x30104, 0x0, 1, 0x0, 1⟩
def F.CUE_HC_LO_HC_LO : Field := ⟨Regs.CUE_HC_LO, 0, 32, .ro, 0x0, [], false⟩
/-- CUE_HC_HI, 0x03_0108, device. -/
def Regs.CUE_HC_HI : RegPlace := ⟨0x30108, 0x0, 1, 0x0, 1⟩
def F.CUE_HC_HI_HC_HI : Field := ⟨Regs.CUE_HC_HI, 0, 32, .ro, 0x0, [], false⟩
/-- CUE_SC_LO, 0x03_010C, device. -/
def Regs.CUE_SC_LO : RegPlace := ⟨0x3010c, 0x0, 1, 0x0, 1⟩
def F.CUE_SC_LO_COUNT_LO : Field := ⟨Regs.CUE_SC_LO, 0, 32, .ro, 0x0, [], false⟩
/-- CUE_SC_HI, 0x03_0110, device. -/
def Regs.CUE_SC_HI : RegPlace := ⟨0x30110, 0x0, 1, 0x0, 1⟩
def F.CUE_SC_HI_EPOCH : Field := ⟨Regs.CUE_SC_HI, 16, 16, .ro, 0x0, [], false⟩
def F.CUE_SC_HI_COUNT_HI : Field := ⟨Regs.CUE_SC_HI, 0, 16, .ro, 0x0, [], false⟩
/-- CUE_SC_STATE, 0x03_0114, device. -/
def Regs.CUE_SC_STATE : RegPlace := ⟨0x30114, 0x0, 1, 0x0, 1⟩
def F.CUE_SC_STATE_HC_ESTIMATED : Field := ⟨Regs.CUE_SC_STATE, 24, 1, .rl, 0x0, [], false⟩
def F.CUE_SC_STATE_PAIRED : Field := ⟨Regs.CUE_SC_STATE, 16, 8, .rl, 0x0, [], false⟩
def F.CUE_SC_STATE_FREEWHEEL : Field := ⟨Regs.CUE_SC_STATE, 0, 16, .rl, 0xffff, [], false⟩
/-- CUE_HC_UNCERT, 0x03_0118, device. -/
def Regs.CUE_HC_UNCERT : RegPlace := ⟨0x30118, 0x0, 1, 0x0, 1⟩
def F.CUE_HC_UNCERT_UNCERT : Field := ⟨Regs.CUE_HC_UNCERT, 0, 32, .ro, 0x0, [], false⟩

/-! Registers of spec/03_ports_and_profiles.md. -/

/-- PCS_PROFILE, 0x02_0100, device. -/
def Regs.PCS_PROFILE : RegPlace := ⟨0x20100, 0x0, 1, 0x0, 1⟩
def F.PCS_PROFILE_GO_GROUP : Field := ⟨Regs.PCS_PROFILE, 28, 4, .rw, 0xf, [], false⟩
def F.PCS_PROFILE_LINE_RATE : Field := ⟨Regs.PCS_PROFILE, 5, 1, .rs, 0x0, [], true⟩
def F.PCS_PROFILE_LINE_CODE : Field := ⟨Regs.PCS_PROFILE, 4, 1, .rs, 0x0, [], true⟩
def F.PCS_PROFILE_CLK_MODE : Field := ⟨Regs.PCS_PROFILE, 0, 2, .rs, 0x1, [], true⟩
/-- PCS_PORT_CTRL, 0x20_0000, per port, port p at +p × 0x1_0000. -/
def Regs.PCS_PORT_CTRL : RegPlace := ⟨0x200000, 0x10000, 8, 0x0, 1⟩
def F.PCS_PORT_CTRL_GO_GROUP : Field := ⟨Regs.PCS_PORT_CTRL, 28, 4, .rw, 0x0, [], false⟩
def F.PCS_PORT_CTRL_ADMIN_UP : Field := ⟨Regs.PCS_PORT_CTRL, 8, 1, .rs, 0x0, [], true⟩
def F.PCS_PORT_CTRL_MODE : Field := ⟨Regs.PCS_PORT_CTRL, 4, 1, .rs, 0x0, [], true⟩
def F.PCS_PORT_CTRL_WIDTH : Field := ⟨Regs.PCS_PORT_CTRL, 0, 3, .rs, 0x0, [], true⟩

/-! Registers of spec/04_line_receiver_front_end.md. -/

/-- LRX_GO, 0x08_0000, per line lane, lane n at +n × 0x1_0000. -/
def Regs.LRX_GO : RegPlace := ⟨0x80000, 0x10000, 8, 0x0, 1⟩
def F.LRX_GO_GO_GROUP : Field := ⟨Regs.LRX_GO, 0, 4, .rw, 0x0, [], false⟩
/-- LRX_CTLE_CTRL, 0x08_0100, per line lane, lane n at +n × 0x1_0000. -/
def Regs.LRX_CTLE_CTRL : RegPlace := ⟨0x80100, 0x10000, 8, 0x0, 1⟩
def F.LRX_CTLE_CTRL_HF_TARGET : Field := ⟨Regs.LRX_CTLE_CTRL, 16, 16, .rs, 0x1000, [], false⟩
def F.LRX_CTLE_CTRL_MODE : Field := ⟨Regs.LRX_CTLE_CTRL, 12, 1, .rs, 0x1, [], false⟩
def F.LRX_CTLE_CTRL_MAX : Field := ⟨Regs.LRX_CTLE_CTRL, 8, 4, .rs, 0xf, [], false⟩
def F.LRX_CTLE_CTRL_MIN : Field := ⟨Regs.LRX_CTLE_CTRL, 4, 4, .rs, 0x0, [], false⟩
def F.LRX_CTLE_CTRL_CODE : Field := ⟨Regs.LRX_CTLE_CTRL, 0, 4, .rs, 0x8, [], false⟩
/-- LRX_CTLE_STATUS, 0x08_0104, per line lane, lane n at +n × 0x1_0000. -/
def Regs.LRX_CTLE_STATUS : RegPlace := ⟨0x80104, 0x10000, 8, 0x0, 1⟩
def F.LRX_CTLE_STATUS_CODE : Field := ⟨Regs.LRX_CTLE_STATUS, 16, 4, .ro, 0x8, [], false⟩
def F.LRX_CTLE_STATUS_METRIC : Field := ⟨Regs.LRX_CTLE_STATUS, 0, 16, .ro, 0x0, [], false⟩
/-- LRX_VGA_CTRL, 0x08_0140, per line lane, lane n at +n × 0x1_0000. -/
def Regs.LRX_VGA_CTRL : RegPlace := ⟨0x80140, 0x10000, 8, 0x0, 1⟩
def F.LRX_VGA_CTRL_TARGET : Field := ⟨Regs.LRX_VGA_CTRL, 8, 6, .rs, 0x18, [], false⟩
def F.LRX_VGA_CTRL_MODE : Field := ⟨Regs.LRX_VGA_CTRL, 7, 1, .rs, 0x0, [], false⟩
def F.LRX_VGA_CTRL_CODE : Field := ⟨Regs.LRX_VGA_CTRL, 0, 5, .rs, 0xc, [], false⟩
/-- LRX_VGA_STATUS, 0x08_0144, per line lane, lane n at +n × 0x1_0000. -/
def Regs.LRX_VGA_STATUS : RegPlace := ⟨0x80144, 0x10000, 8, 0x0, 1⟩
def F.LRX_VGA_STATUS_DEFERRED : Field := ⟨Regs.LRX_VGA_STATUS, 25, 1, .rl, 0x0, [], false⟩
def F.LRX_VGA_STATUS_AT_LIMIT : Field := ⟨Regs.LRX_VGA_STATUS, 24, 1, .rl, 0x0, [], false⟩
def F.LRX_VGA_STATUS_CODE : Field := ⟨Regs.LRX_VGA_STATUS, 16, 5, .ro, 0xc, [], false⟩
def F.LRX_VGA_STATUS_LEVEL : Field := ⟨Regs.LRX_VGA_STATUS, 0, 16, .ro, 0x0, [], false⟩
/-- LRX_SLICE_MON, 0x08_0180, per line lane, lane n at +n × 0x1_0000. -/
def Regs.LRX_SLICE_MON : RegPlace := ⟨0x80180, 0x10000, 8, 0x0, 1⟩
def F.LRX_SLICE_MON_OOR_THR : Field := ⟨Regs.LRX_SLICE_MON, 24, 8, .rs, 0x20, [], false⟩
def F.LRX_SLICE_MON_GAIN_THR : Field := ⟨Regs.LRX_SLICE_MON, 20, 4, .rs, 0x6, [], false⟩
def F.LRX_SLICE_MON_OFS_THR : Field := ⟨Regs.LRX_SLICE_MON, 8, 8, .rs, 0x20, [], false⟩
def F.LRX_SLICE_MON_ENABLE : Field := ⟨Regs.LRX_SLICE_MON, 0, 1, .rs, 0x1, [], false⟩
/-- LRX_SLICE_STATUS, 0x08_0184, per line lane, lane n at +n × 0x1_0000. -/
def Regs.LRX_SLICE_STATUS : RegPlace := ⟨0x80184, 0x10000, 8, 0x0, 1⟩
def F.LRX_SLICE_STATUS_SWAP_COUNT : Field := ⟨Regs.LRX_SLICE_STATUS, 24, 8, .ro, 0x0, [], false⟩
def F.LRX_SLICE_STATUS_NOSPARE : Field := ⟨Regs.LRX_SLICE_STATUS, 9, 1, .rl, 0x0, [], false⟩
def F.LRX_SLICE_STATUS_WINGS : Field := ⟨Regs.LRX_SLICE_STATUS, 8, 1, .rl, 0x0, [], false⟩
def F.LRX_SLICE_STATUS_FAILED_64 : Field := ⟨Regs.LRX_SLICE_STATUS, 7, 1, .rl, 0x0, [], false⟩
def F.LRX_SLICE_STATUS_UNDERSTUDY : Field := ⟨Regs.LRX_SLICE_STATUS, 0, 7, .ro, 0x40, [], false⟩
/-- LRX_SLICE_FAILED_0, 0x08_0188, per line lane, lane n at +n × 0x1_0000. -/
def Regs.LRX_SLICE_FAILED_0 : RegPlace := ⟨0x80188, 0x10000, 8, 0x0, 1⟩
def F.LRX_SLICE_FAILED_0_FAILED : Field := ⟨Regs.LRX_SLICE_FAILED_0, 0, 32, .rl, 0x0, [], false⟩
/-- LRX_SLICE_FAILED_1, 0x08_018C, per line lane, lane n at +n × 0x1_0000. -/
def Regs.LRX_SLICE_FAILED_1 : RegPlace := ⟨0x8018c, 0x10000, 8, 0x0, 1⟩
def F.LRX_SLICE_FAILED_1_FAILED : Field := ⟨Regs.LRX_SLICE_FAILED_1, 0, 32, .rl, 0x0, [], false⟩
/-- LRX_TR_CTRL, 0x08_01C0, per line lane, lane n at +n × 0x1_0000. -/
def Regs.LRX_TR_CTRL : RegPlace := ⟨0x801c0, 0x10000, 8, 0x0, 1⟩
def F.LRX_TR_CTRL_KP : Field := ⟨Regs.LRX_TR_CTRL, 16, 5, .rs, 0xc, [], false⟩
def F.LRX_TR_CTRL_KI : Field := ⟨Regs.LRX_TR_CTRL, 8, 5, .rs, 0x2, [], false⟩
def F.LRX_TR_CTRL_LOCK_THR : Field := ⟨Regs.LRX_TR_CTRL, 0, 8, .rs, 0x40, [], false⟩
/-- LRX_TR_STATUS, 0x08_01C4, per line lane, lane n at +n × 0x1_0000. -/
def Regs.LRX_TR_STATUS : RegPlace := ⟨0x801c4, 0x10000, 8, 0x0, 1⟩
def F.LRX_TR_STATUS_PI_CODE : Field := ⟨Regs.LRX_TR_STATUS, 22, 6, .ro, 0x0, [], false⟩
def F.LRX_TR_STATUS_FREQ : Field := ⟨Regs.LRX_TR_STATUS, 0, 22, .ro, 0x0, [], false⟩
/-- LRX_LOS_CTRL, 0x08_0200, per line lane, lane n at +n × 0x1_0000. -/
def Regs.LRX_LOS_CTRL : RegPlace := ⟨0x80200, 0x10000, 8, 0x0, 1⟩
def F.LRX_LOS_CTRL_RMS_THR : Field := ⟨Regs.LRX_LOS_CTRL, 8, 6, .rs, 0x6, [], false⟩
def F.LRX_LOS_CTRL_RMS_EN : Field := ⟨Regs.LRX_LOS_CTRL, 5, 1, .rs, 0x1, [], false⟩
def F.LRX_LOS_CTRL_ENV_EN : Field := ⟨Regs.LRX_LOS_CTRL, 4, 1, .rs, 0x1, [], false⟩
def F.LRX_LOS_CTRL_ENV_THR : Field := ⟨Regs.LRX_LOS_CTRL, 0, 4, .rs, 0x4, [], false⟩
/-- LRX_STATUS, 0x08_0204, per line lane, lane n at +n × 0x1_0000. -/
def Regs.LRX_STATUS : RegPlace := ⟨0x80204, 0x10000, 8, 0x0, 1⟩
def F.LRX_STATUS_LOL : Field := ⟨Regs.LRX_STATUS, 4, 1, .rl, 0x1, [], false⟩
def F.LRX_STATUS_LOS : Field := ⟨Regs.LRX_STATUS, 3, 1, .rl, 0x1, [], false⟩
def F.LRX_STATUS_LOS_RMS : Field := ⟨Regs.LRX_STATUS, 2, 1, .rl, 0x1, [], false⟩
def F.LRX_STATUS_LOS_ENV : Field := ⟨Regs.LRX_STATUS, 1, 1, .rl, 0x1, [], false⟩
def F.LRX_STATUS_CTLE_SEARCH : Field := ⟨Regs.LRX_STATUS, 0, 1, .rl, 0x0, [], false⟩
/-- LRX_SPOT_CTRL, 0x08_0240, per line lane, lane n at +n × 0x1_0000. -/
def Regs.LRX_SPOT_CTRL : RegPlace := ⟨0x80240, 0x10000, 8, 0x0, 1⟩
def F.LRX_SPOT_CTRL_START : Field := ⟨Regs.LRX_SPOT_CTRL, 31, 1, .ws, 0x0, [], false⟩
def F.LRX_SPOT_CTRL_SLICE : Field := ⟨Regs.LRX_SPOT_CTRL, 8, 7, .rw, 0x0, [], false⟩
def F.LRX_SPOT_CTRL_SOURCE : Field := ⟨Regs.LRX_SPOT_CTRL, 0, 2, .rw, 0x0, [], false⟩
/-- LRX_SPOT_STATUS, 0x08_0244, per line lane, lane n at +n × 0x1_0000. -/
def Regs.LRX_SPOT_STATUS : RegPlace := ⟨0x80244, 0x10000, 8, 0x0, 1⟩
def F.LRX_SPOT_STATUS_LOS : Field := ⟨Regs.LRX_SPOT_STATUS, 7, 1, .ro, 0x0, [], false⟩
def F.LRX_SPOT_STATUS_FREEWHEEL : Field := ⟨Regs.LRX_SPOT_STATUS, 6, 1, .ro, 0x0, [], false⟩
def F.LRX_SPOT_STATUS_PARITY : Field := ⟨Regs.LRX_SPOT_STATUS, 5, 1, .ro, 0x0, [], false⟩
def F.LRX_SPOT_STATUS_SWAP : Field := ⟨Regs.LRX_SPOT_STATUS, 4, 1, .ro, 0x0, [], false⟩
def F.LRX_SPOT_STATUS_SOURCE : Field := ⟨Regs.LRX_SPOT_STATUS, 2, 2, .ro, 0x0, [], false⟩
def F.LRX_SPOT_STATUS_STATE : Field := ⟨Regs.LRX_SPOT_STATUS, 0, 2, .ro, 0x0, [], false⟩

/-! Registers of spec/05_line_equaliser.md. -/

/-- LEQ_CTRL, 0x08_0400, per line lane, lane n at +n × 0x1_0000. -/
def Regs.LEQ_CTRL : RegPlace := ⟨0x80400, 0x10000, 8, 0x0, 1⟩
def F.LEQ_CTRL_LEVEL_A : Field := ⟨Regs.LEQ_CTRL, 16, 8, .rs, 0xa0, [], false⟩
def F.LEQ_CTRL_MAIN : Field := ⟨Regs.LEQ_CTRL, 8, 6, .rs, 0xa, [], false⟩
def F.LEQ_CTRL_BLIND : Field := ⟨Regs.LEQ_CTRL, 5, 1, .rs, 0x1, [], false⟩
def F.LEQ_CTRL_LVL_EN : Field := ⟨Regs.LEQ_CTRL, 4, 1, .rs, 0x1, [], false⟩
def F.LEQ_CTRL_LFR_EN : Field := ⟨Regs.LEQ_CTRL, 3, 1, .rs, 0x1, [], false⟩
def F.LEQ_CTRL_PRECODE : Field := ⟨Regs.LEQ_CTRL, 2, 1, .rs, 0x0, [], false⟩
def F.LEQ_CTRL_DET : Field := ⟨Regs.LEQ_CTRL, 1, 1, .rs, 0x0, [], false⟩
def F.LEQ_CTRL_ADAPT_EN : Field := ⟨Regs.LEQ_CTRL, 0, 1, .rs, 0x1, [], false⟩
/-- LEQ_ADAPT, 0x08_0404, per line lane, lane n at +n × 0x1_0000. -/
def Regs.LEQ_ADAPT : RegPlace := ⟨0x80404, 0x10000, 8, 0x0, 1⟩
def F.LEQ_ADAPT_UPDATE_DIV : Field := ⟨Regs.LEQ_ADAPT, 28, 4, .rs, 0x2, [], false⟩
def F.LEQ_ADAPT_FFE_MU : Field := ⟨Regs.LEQ_ADAPT, 24, 4, .rs, 0x8, [], false⟩
def F.LEQ_ADAPT_CMA_MU : Field := ⟨Regs.LEQ_ADAPT, 20, 4, .rs, 0x6, [], false⟩
def F.LEQ_ADAPT_DFE_MU : Field := ⟨Regs.LEQ_ADAPT, 17, 3, .rs, 0x4, [], false⟩
def F.LEQ_ADAPT_OFS_MU : Field := ⟨Regs.LEQ_ADAPT, 14, 3, .rs, 0x6, [], false⟩
def F.LEQ_ADAPT_LEAK : Field := ⟨Regs.LEQ_ADAPT, 9, 5, .rs, 0x0, [], false⟩
/-- LEQ_FREEZE, 0x08_0408, per line lane, lane n at +n × 0x1_0000. -/
def Regs.LEQ_FREEZE : RegPlace := ⟨0x80408, 0x10000, 8, 0x0, 1⟩
def F.LEQ_FREEZE_TABLE : Field := ⟨Regs.LEQ_FREEZE, 7, 1, .rs, 0x0, [], false⟩
def F.LEQ_FREEZE_LFR_GAIN : Field := ⟨Regs.LEQ_FREEZE, 6, 1, .rs, 0x0, [], false⟩
def F.LEQ_FREEZE_OFFSETS : Field := ⟨Regs.LEQ_FREEZE, 5, 1, .rs, 0x0, [], false⟩
def F.LEQ_FREEZE_DFE_2_4 : Field := ⟨Regs.LEQ_FREEZE, 4, 1, .rs, 0x0, [], false⟩
def F.LEQ_FREEZE_DFE_1 : Field := ⟨Regs.LEQ_FREEZE, 3, 1, .rs, 0x0, [], false⟩
def F.LEQ_FREEZE_FFE_POST : Field := ⟨Regs.LEQ_FREEZE, 2, 1, .rs, 0x0, [], false⟩
def F.LEQ_FREEZE_FFE_MAIN : Field := ⟨Regs.LEQ_FREEZE, 1, 1, .rs, 0x0, [], false⟩
def F.LEQ_FREEZE_FFE_PRE : Field := ⟨Regs.LEQ_FREEZE, 0, 1, .rs, 0x0, [], false⟩
/-- LEQ_ACQ, 0x08_040C, per line lane, lane n at +n × 0x1_0000. -/
def Regs.LEQ_ACQ : RegPlace := ⟨0x8040c, 0x10000, 8, 0x0, 1⟩
def F.LEQ_ACQ_DD_WINDOWS : Field := ⟨Regs.LEQ_ACQ, 8, 8, .rs, 0x8, [], false⟩
def F.LEQ_ACQ_OUTLIER_THR : Field := ⟨Regs.LEQ_ACQ, 0, 8, .rs, 0x10, [], false⟩
/-- LEQ_STATUS, 0x08_0410, per line lane, lane n at +n × 0x1_0000. -/
def Regs.LEQ_STATUS : RegPlace := ⟨0x80410, 0x10000, 8, 0x0, 1⟩
def F.LEQ_STATUS_OUTLIERS : Field := ⟨Regs.LEQ_STATUS, 12, 20, .ro, 0x0, [], false⟩
def F.LEQ_STATUS_VALID : Field := ⟨Regs.LEQ_STATUS, 4, 1, .rl, 0x0, [], false⟩
def F.LEQ_STATUS_WARM : Field := ⟨Regs.LEQ_STATUS, 3, 1, .rl, 0x0, [], false⟩
def F.LEQ_STATUS_TAP_SAT : Field := ⟨Regs.LEQ_STATUS, 2, 1, .rl, 0x0, [], false⟩
def F.LEQ_STATUS_STATE : Field := ⟨Regs.LEQ_STATUS, 0, 2, .ro, 0x0, [], false⟩
/-- LEQ_SNR_0, 0x08_0414, per line lane, lane n at +n × 0x1_0000. -/
def Regs.LEQ_SNR_0 : RegPlace := ⟨0x80414, 0x10000, 8, 0x0, 1⟩
def F.LEQ_SNR_0_SNR_M1 : Field := ⟨Regs.LEQ_SNR_0, 16, 16, .ro, 0x0, [], false⟩
def F.LEQ_SNR_0_SNR_M3 : Field := ⟨Regs.LEQ_SNR_0, 0, 16, .ro, 0x0, [], false⟩
/-- LEQ_SNR_1, 0x08_0418, per line lane, lane n at +n × 0x1_0000. -/
def Regs.LEQ_SNR_1 : RegPlace := ⟨0x80418, 0x10000, 8, 0x0, 1⟩
def F.LEQ_SNR_1_SNR_P3 : Field := ⟨Regs.LEQ_SNR_1, 16, 16, .ro, 0x0, [], false⟩
def F.LEQ_SNR_1_SNR_P1 : Field := ⟨Regs.LEQ_SNR_1, 0, 16, .ro, 0x0, [], false⟩
/-- LEQ_SNR_ALL, 0x08_041C, per line lane, lane n at +n × 0x1_0000. -/
def Regs.LEQ_SNR_ALL : RegPlace := ⟨0x8041c, 0x10000, 8, 0x0, 1⟩
def F.LEQ_SNR_ALL_SNR : Field := ⟨Regs.LEQ_SNR_ALL, 0, 16, .ro, 0x0, [], false⟩
/-- LEQ_LFR_GAIN, 0x08_0420, per line lane, lane n at +n × 0x1_0000. -/
def Regs.LEQ_LFR_GAIN : RegPlace := ⟨0x80420, 0x10000, 8, 0x0, 1⟩
def F.LEQ_LFR_GAIN_G : Field := ⟨Regs.LEQ_LFR_GAIN, 0, 16, .ro, 0x0, [], false⟩
/-- LEQ_DFE_A, 0x08_0424, per line lane, lane n at +n × 0x1_0000. -/
def Regs.LEQ_DFE_A : RegPlace := ⟨0x80424, 0x10000, 8, 0x0, 1⟩
def F.LEQ_DFE_A_H2 : Field := ⟨Regs.LEQ_DFE_A, 16, 10, .ro, 0x0, [], false⟩
def F.LEQ_DFE_A_H1 : Field := ⟨Regs.LEQ_DFE_A, 0, 10, .ro, 0x0, [], false⟩
/-- LEQ_DFE_B, 0x08_0428, per line lane, lane n at +n × 0x1_0000. -/
def Regs.LEQ_DFE_B : RegPlace := ⟨0x80428, 0x10000, 8, 0x0, 1⟩
def F.LEQ_DFE_B_H4 : Field := ⟨Regs.LEQ_DFE_B, 16, 10, .ro, 0x0, [], false⟩
def F.LEQ_DFE_B_H3 : Field := ⟨Regs.LEQ_DFE_B, 0, 10, .ro, 0x0, [], false⟩
/-- LEQ_MET_CTRL, 0x08_0430, per line lane, lane n at +n × 0x1_0000. -/
def Regs.LEQ_MET_CTRL : RegPlace := ⟨0x80430, 0x10000, 8, 0x0, 1⟩
def F.LEQ_MET_CTRL_SEQ : Field := ⟨Regs.LEQ_MET_CTRL, 16, 16, .ro, 0x0, [], false⟩
def F.LEQ_MET_CTRL_HOLD : Field := ⟨Regs.LEQ_MET_CTRL, 0, 1, .rw, 0x0, [], false⟩
/-- LEQ_FFE_TAP_j, 0x08_0500 + 4j, per line lane, j = 0–40, lane n at +n × 0x1_0000. -/
def Regs.LEQ_FFE_TAP_j : RegPlace := ⟨0x80500, 0x10000, 8, 0x4, 41⟩
def F.LEQ_FFE_TAP_j_TAP : Field := ⟨Regs.LEQ_FFE_TAP_j, 0, 14, .ro, 0x0, [(10, 0x400)], false⟩
/-- LEQ_OFS_j, 0x08_0600 + 4j, per line lane, j = 0–7, lane n at +n × 0x1_0000. -/
def Regs.LEQ_OFS_j : RegPlace := ⟨0x80600, 0x10000, 8, 0x4, 8⟩
def F.LEQ_OFS_j_OFS_ODD : Field := ⟨Regs.LEQ_OFS_j, 16, 10, .ro, 0x0, [], false⟩
def F.LEQ_OFS_j_OFS_EVEN : Field := ⟨Regs.LEQ_OFS_j, 0, 10, .ro, 0x0, [], false⟩
/-- LEQ_THR_CAL_c, 0x08_0640 + 4c, per line lane, c = 0–3 (integer value of the previous level), lane n at +n × 0x1_0000. -/
def Regs.LEQ_THR_CAL_c : RegPlace := ⟨0x80640, 0x10000, 8, 0x4, 4⟩
def F.LEQ_THR_CAL_c_DTC_2 : Field := ⟨Regs.LEQ_THR_CAL_c, 16, 8, .ro, 0x0, [], false⟩
def F.LEQ_THR_CAL_c_DTC_1 : Field := ⟨Regs.LEQ_THR_CAL_c, 8, 8, .ro, 0x0, [], false⟩
def F.LEQ_THR_CAL_c_DTC_0 : Field := ⟨Regs.LEQ_THR_CAL_c, 0, 8, .ro, 0x0, [], false⟩
/-- LEQ_HIST_b, 0x08_0700 + 4b, per line lane, b = 0–63, lane n at +n × 0x1_0000. -/
def Regs.LEQ_HIST_b : RegPlace := ⟨0x80700, 0x10000, 8, 0x4, 64⟩
def F.LEQ_HIST_b_COUNT : Field := ⟨Regs.LEQ_HIST_b, 0, 21, .ro, 0x0, [], false⟩
/-- LEQ_DCOUNT_v, 0x08_0800 + 4v, per line lane, v = 0–3 (integer value of the level), lane n at +n × 0x1_0000. -/
def Regs.LEQ_DCOUNT_v : RegPlace := ⟨0x80800, 0x10000, 8, 0x4, 4⟩
def F.LEQ_DCOUNT_v_COUNT : Field := ⟨Regs.LEQ_DCOUNT_v, 0, 21, .ro, 0x0, [], false⟩

/-! Registers of spec/06_line_transmitter.md. -/

/-- LTX_CTRL, 0x08_0C00, per line lane, lane n at +n × 0x1_0000. -/
def Regs.LTX_CTRL : RegPlace := ⟨0x80c00, 0x10000, 8, 0x0, 1⟩
def F.LTX_CTRL_MAIN : Field := ⟨Regs.LTX_CTRL, 8, 4, .rs, 0x2, [], false⟩
def F.LTX_CTRL_IDLE : Field := ⟨Regs.LTX_CTRL, 1, 1, .rs, 0x0, [], false⟩
def F.LTX_CTRL_PRECODE : Field := ⟨Regs.LTX_CTRL, 0, 1, .rs, 0x0, [], false⟩
/-- LTX_SWING, 0x08_0C04, per line lane, lane n at +n × 0x1_0000. -/
def Regs.LTX_SWING : RegPlace := ⟨0x80c04, 0x10000, 8, 0x0, 1⟩
def F.LTX_SWING_NOW : Field := ⟨Regs.LTX_SWING, 8, 6, .ro, 0x20, [], false⟩
def F.LTX_SWING_SWING : Field := ⟨Regs.LTX_SWING, 0, 6, .rs, 0x20, [], false⟩
/-- LTX_STATUS, 0x08_0C08, per line lane, lane n at +n × 0x1_0000. -/
def Regs.LTX_STATUS : RegPlace := ⟨0x80c08, 0x10000, 8, 0x0, 1⟩
def F.LTX_STATUS_SWAP_COUNT : Field := ⟨Regs.LTX_STATUS, 16, 16, .ro, 0x0, [], false⟩
def F.LTX_STATUS_SEALED : Field := ⟨Regs.LTX_STATUS, 3, 1, .rl, 0x0, [], false⟩
def F.LTX_STATUS_ACTIVE : Field := ⟨Regs.LTX_STATUS, 2, 1, .ro, 0x0, [], false⟩
def F.LTX_STATUS_BURST : Field := ⟨Regs.LTX_STATUS, 1, 1, .rl, 0x0, [], false⟩
def F.LTX_STATUS_IDLE : Field := ⟨Regs.LTX_STATUS, 0, 1, .rl, 0x1, [], false⟩
/-- LTX_XA_STATUS, 0x08_0C0C, per line lane, lane n at +n × 0x1_0000. -/
def Regs.LTX_XA_STATUS : RegPlace := ⟨0x80c0c, 0x10000, 8, 0x0, 1⟩
def F.LTX_XA_STATUS_RMS : Field := ⟨Regs.LTX_XA_STATUS, 24, 8, .ro, 0x0, [], false⟩
def F.LTX_XA_STATUS_ITER : Field := ⟨Regs.LTX_XA_STATUS, 16, 8, .ro, 0x0, [], false⟩
def F.LTX_XA_STATUS_REASON : Field := ⟨Regs.LTX_XA_STATUS, 8, 4, .ro, 0x0, [], false⟩
def F.LTX_XA_STATUS_STATE : Field := ⟨Regs.LTX_XA_STATUS, 0, 3, .ro, 0x0, [], false⟩
/-- LTX_FIR_j, 0x08_0C40 + 4j, per line lane, j = 0–8, lane n at +n × 0x1_0000. -/
def Regs.LTX_FIR_j : RegPlace := ⟨0x80c40, 0x10000, 8, 0x4, 9⟩
def F.LTX_FIR_j_TAP : Field := ⟨Regs.LTX_FIR_j, 0, 10, .rs, 0x0, [(2, 0x140)], false⟩
/-- LEQ_XA_GATHER, 0x08_0880, per line lane, lane n at +n × 0x1_0000. -/
def Regs.LEQ_XA_GATHER : RegPlace := ⟨0x80880, 0x10000, 8, 0x0, 1⟩
def F.LEQ_XA_GATHER_SETS : Field := ⟨Regs.LEQ_XA_GATHER, 16, 16, .ro, 0x0, [], false⟩
def F.LEQ_XA_GATHER_INVALID : Field := ⟨Regs.LEQ_XA_GATHER, 3, 1, .ro, 0x0, [], false⟩
def F.LEQ_XA_GATHER_STATE : Field := ⟨Regs.LEQ_XA_GATHER, 0, 2, .ro, 0x0, [], false⟩

/-! Registers of spec/07_error_correction.md. -/

/-- FEC_CTRL, 0x20_0100, per port, port p at +p × 0x1_0000. -/
def Regs.FEC_CTRL : RegPlace := ⟨0x200100, 0x10000, 8, 0x0, 1⟩
def F.FEC_CTRL_SD_EN : Field := ⟨Regs.FEC_CTRL, 4, 1, .rs, 0x1, [], false⟩
def F.FEC_CTRL_EO_FALLBACK : Field := ⟨Regs.FEC_CTRL, 1, 1, .rs, 0x1, [], false⟩
def F.FEC_CTRL_ERASE_EN : Field := ⟨Regs.FEC_CTRL, 0, 1, .rs, 0x1, [], false⟩
/-- FEC_SD_CTRL, 0x20_0104, per port, port p at +p × 0x1_0000. -/
def Regs.FEC_SD_CTRL : RegPlace := ⟨0x200104, 0x10000, 8, 0x0, 1⟩
def F.FEC_SD_CTRL_WIN : Field := ⟨Regs.FEC_SD_CTRL, 0, 5, .rs, 0x18, [], false⟩
/-- FEC_SD_SET, 0x20_0108, per port, port p at +p × 0x1_0000. -/
def Regs.FEC_SD_SET : RegPlace := ⟨0x200108, 0x10000, 8, 0x0, 1⟩
def F.FEC_SD_SET_SD_SET : Field := ⟨Regs.FEC_SD_SET, 0, 32, .rs, 0x100000, [], false⟩
/-- FEC_SD_CLR, 0x20_010C, per port, port p at +p × 0x1_0000. -/
def Regs.FEC_SD_CLR : RegPlace := ⟨0x20010c, 0x10000, 8, 0x0, 1⟩
def F.FEC_SD_CLR_SD_CLR : Field := ⟨Regs.FEC_SD_CLR, 0, 32, .rs, 0x80000, [], false⟩
/-- FEC_STATUS, 0x20_0110, per port, port p at +p × 0x1_0000. -/
def Regs.FEC_STATUS : RegPlace := ⟨0x200110, 0x10000, 8, 0x0, 1⟩
def F.FEC_STATUS_RX_MARKED_IN : Field := ⟨Regs.FEC_STATUS, 5, 1, .rl, 0x0, [], false⟩
def F.FEC_STATUS_TX_MARKED_IN : Field := ⟨Regs.FEC_STATUS, 4, 1, .rl, 0x0, [], false⟩
def F.FEC_STATUS_RX_UNCORR : Field := ⟨Regs.FEC_STATUS, 3, 1, .rl, 0x0, [], false⟩
def F.FEC_STATUS_TX_UNCORR : Field := ⟨Regs.FEC_STATUS, 2, 1, .rl, 0x0, [], false⟩
def F.FEC_STATUS_RX_SD : Field := ⟨Regs.FEC_STATUS, 1, 1, .rl, 0x0, [], false⟩
def F.FEC_STATUS_TX_SD : Field := ⟨Regs.FEC_STATUS, 0, 1, .rl, 0x0, [], false⟩
/-- FEC_POOL_STATUS, 0x20_F000, device; the same offset in the windows of ports 1–7 is reserved. -/
def Regs.FEC_POOL_STATUS : RegPlace := ⟨0x20f000, 0x0, 1, 0x0, 1⟩
def F.FEC_POOL_STATUS_L2H_FENCED : Field := ⟨Regs.FEC_POOL_STATUS, 16, 16, .rl, 0x0, [], false⟩
def F.FEC_POOL_STATUS_H2L_FENCED : Field := ⟨Regs.FEC_POOL_STATUS, 0, 16, .rl, 0x0, [], false⟩
/-- FEC_POOL_AVAIL, 0x20_F004, device; the same offset in the windows of ports 1–7 is reserved. -/
def Regs.FEC_POOL_AVAIL : RegPlace := ⟨0x20f004, 0x0, 1, 0x0, 1⟩
def F.FEC_POOL_AVAIL_L2H_PAUSED : Field := ⟨Regs.FEC_POOL_AVAIL, 27, 1, .rl, 0x0, [], false⟩
def F.FEC_POOL_AVAIL_H2L_PAUSED : Field := ⟨Regs.FEC_POOL_AVAIL, 26, 1, .rl, 0x0, [], false⟩
def F.FEC_POOL_AVAIL_L2H_SHORT : Field := ⟨Regs.FEC_POOL_AVAIL, 25, 1, .rl, 0x0, [], false⟩
def F.FEC_POOL_AVAIL_H2L_SHORT : Field := ⟨Regs.FEC_POOL_AVAIL, 24, 1, .rl, 0x0, [], false⟩
def F.FEC_POOL_AVAIL_NEED : Field := ⟨Regs.FEC_POOL_AVAIL, 16, 5, .ro, 0x0, [], false⟩
def F.FEC_POOL_AVAIL_L2H_AVAIL : Field := ⟨Regs.FEC_POOL_AVAIL, 8, 5, .ro, 0x10, [], false⟩
def F.FEC_POOL_AVAIL_H2L_AVAIL : Field := ⟨Regs.FEC_POOL_AVAIL, 0, 5, .ro, 0x10, [], false⟩
/-- FEC_INNER_CTRL, 0x08_0D00, per line lane, lane n at +n × 0x1_0000. -/
def Regs.FEC_INNER_CTRL : RegPlace := ⟨0x80d00, 0x10000, 8, 0x0, 1⟩
def F.FEC_INNER_CTRL_ERASE_THR : Field := ⟨Regs.FEC_INNER_CTRL, 0, 7, .rs, 0x3c, [], false⟩

/-! Registers of spec/08_alignment_and_rate_matching.md. -/

/-- PCS_ALIGN_CTRL, 0x20_0200, per port, port p at +p × 0x1_0000. -/
def Regs.PCS_ALIGN_CTRL : RegPlace := ⟨0x200200, 0x10000, 8, 0x0, 1⟩
def F.PCS_ALIGN_CTRL_SKEW_LIMIT : Field := ⟨Regs.PCS_ALIGN_CTRL, 16, 7, .rs, 0x40, [], false⟩
def F.PCS_ALIGN_CTRL_MISS_LIMIT : Field := ⟨Regs.PCS_ALIGN_CTRL, 8, 4, .rs, 0x3, [], false⟩
def F.PCS_ALIGN_CTRL_MATCH_ERR : Field := ⟨Regs.PCS_ALIGN_CTRL, 0, 4, .rs, 0x4, [], false⟩
/-- PCS_ALIGN_STATUS, 0x20_0204, per port, port p at +p × 0x1_0000. -/
def Regs.PCS_ALIGN_STATUS : RegPlace := ⟨0x200204, 0x10000, 8, 0x0, 1⟩
def F.PCS_ALIGN_STATUS_PERIOD : Field := ⟨Regs.PCS_ALIGN_STATUS, 16, 16, .ro, 0x0, [], false⟩
def F.PCS_ALIGN_STATUS_LOCKED : Field := ⟨Regs.PCS_ALIGN_STATUS, 8, 8, .rl, 0x0, [], false⟩
def F.PCS_ALIGN_STATUS_RX_DESKEWED : Field := ⟨Regs.PCS_ALIGN_STATUS, 1, 1, .rl, 0x0, [], false⟩
def F.PCS_ALIGN_STATUS_TX_ALIGNED : Field := ⟨Regs.PCS_ALIGN_STATUS, 0, 1, .rl, 0x0, [], false⟩
/-- PCS_LANE_ALIGN_i, 0x20_0210 + 4i, per port, i = 0–7, port p at +p × 0x1_0000. -/
def Regs.PCS_LANE_ALIGN_i : RegPlace := ⟨0x200210, 0x10000, 8, 0x4, 8⟩
def F.PCS_LANE_ALIGN_i_SKEW : Field := ⟨Regs.PCS_LANE_ALIGN_i, 16, 16, .ro, 0x0, [], false⟩
def F.PCS_LANE_ALIGN_i_MISMATCH : Field := ⟨Regs.PCS_LANE_ALIGN_i, 12, 1, .rl, 0x0, [], false⟩
def F.PCS_LANE_ALIGN_i_INVERTED : Field := ⟨Regs.PCS_LANE_ALIGN_i, 11, 1, .ro, 0x0, [], false⟩
def F.PCS_LANE_ALIGN_i_SEEN_LANE : Field := ⟨Regs.PCS_LANE_ALIGN_i, 8, 3, .ro, 0x0, [], false⟩
def F.PCS_LANE_ALIGN_i_STATE : Field := ⟨Regs.PCS_LANE_ALIGN_i, 0, 2, .ro, 0x0, [], false⟩
/-- PCS_RM_CTRL, 0x20_0300, per port, port p at +p × 0x1_0000. -/
def Regs.PCS_RM_CTRL : RegPlace := ⟨0x200300, 0x10000, 8, 0x0, 1⟩
def F.PCS_RM_CTRL_HYST : Field := ⟨Regs.PCS_RM_CTRL, 0, 7, .rs, 0x20, [], false⟩
/-- PCS_RM_STATUS, 0x20_0304, per port, port p at +p × 0x1_0000. -/
def Regs.PCS_RM_STATUS : RegPlace := ⟨0x200304, 0x10000, 8, 0x0, 1⟩
def F.PCS_RM_STATUS_L2H_SLIP : Field := ⟨Regs.PCS_RM_STATUS, 31, 1, .rl, 0x0, [], false⟩
def F.PCS_RM_STATUS_L2H_FILL : Field := ⟨Regs.PCS_RM_STATUS, 16, 11, .ro, 0x0, [], false⟩
def F.PCS_RM_STATUS_H2L_SLIP : Field := ⟨Regs.PCS_RM_STATUS, 15, 1, .rl, 0x0, [], false⟩
def F.PCS_RM_STATUS_H2L_FILL : Field := ⟨Regs.PCS_RM_STATUS, 0, 11, .ro, 0x0, [], false⟩
/-- LTX_TPG_CTRL, 0x08_0C80, per line lane, lane n at +n × 0x1_0000. -/
def Regs.LTX_TPG_CTRL : RegPlace := ⟨0x80c80, 0x10000, 8, 0x0, 1⟩
def F.LTX_TPG_CTRL_EN : Field := ⟨Regs.LTX_TPG_CTRL, 3, 1, .rs, 0x0, [], false⟩
def F.LTX_TPG_CTRL_PATTERN : Field := ⟨Regs.LTX_TPG_CTRL, 0, 3, .rs, 0x1, [], false⟩
/-- LTX_TPG_USER_k, 0x08_0CA0 + 4k, per line lane, k = 0–7, lane n at +n × 0x1_0000. -/
def Regs.LTX_TPG_USER_k : RegPlace := ⟨0x80ca0, 0x10000, 8, 0x4, 8⟩
def F.LTX_TPG_USER_k_USER : Field := ⟨Regs.LTX_TPG_USER_k, 0, 32, .rs, 0x0, [], false⟩
/-- LRX_TPC_CTRL, 0x08_0280, per line lane, lane n at +n × 0x1_0000. -/
def Regs.LRX_TPC_CTRL : RegPlace := ⟨0x80280, 0x10000, 8, 0x0, 1⟩
def F.LRX_TPC_CTRL_EN : Field := ⟨Regs.LRX_TPC_CTRL, 3, 1, .rs, 0x0, [], false⟩
def F.LRX_TPC_CTRL_PATTERN : Field := ⟨Regs.LRX_TPC_CTRL, 0, 3, .rs, 0x1, [], false⟩
/-- LRX_TPC_STATUS, 0x08_0284, per line lane, lane n at +n × 0x1_0000. -/
def Regs.LRX_TPC_STATUS : RegPlace := ⟨0x80284, 0x10000, 8, 0x0, 1⟩
def F.LRX_TPC_STATUS_LOCK : Field := ⟨Regs.LRX_TPC_STATUS, 31, 1, .rl, 0x0, [], false⟩
def F.LRX_TPC_STATUS_POS : Field := ⟨Regs.LRX_TPC_STATUS, 0, 17, .ro, 0x0, [], false⟩

/-! Registers of spec/09_link_bring_up.md. -/

/-- PCS_LINK_CTRL, 0x20_0400, per port, port p at +p × 0x1_0000. -/
def Regs.PCS_LINK_CTRL : RegPlace := ⟨0x200400, 0x10000, 8, 0x0, 1⟩
def F.PCS_LINK_CTRL_MAP_MODE : Field := ⟨Regs.PCS_LINK_CTRL, 8, 1, .rs, 0x0, [], true⟩
def F.PCS_LINK_CTRL_PROBE_EN : Field := ⟨Regs.PCS_LINK_CTRL, 1, 1, .rs, 0x1, [], false⟩
def F.PCS_LINK_CTRL_HOLD : Field := ⟨Regs.PCS_LINK_CTRL, 0, 1, .rs, 0x0, [], false⟩
/-- PCS_LINK_TIMERS, 0x20_0404, per port, port p at +p × 0x1_0000. -/
def Regs.PCS_LINK_TIMERS : RegPlace := ⟨0x200404, 0x10000, 8, 0x0, 1⟩
def F.PCS_LINK_TIMERS_REJOIN_TO : Field := ⟨Regs.PCS_LINK_TIMERS, 22, 10, .rs, 0x32, [], false⟩
def F.PCS_LINK_TIMERS_ACQ_TO : Field := ⟨Regs.PCS_LINK_TIMERS, 16, 6, .rs, 0x1e, [], false⟩
def F.PCS_LINK_TIMERS_PROBE_TO : Field := ⟨Regs.PCS_LINK_TIMERS, 11, 5, .rs, 0x14, [], false⟩
def F.PCS_LINK_TIMERS_ALIGN_TO : Field := ⟨Regs.PCS_LINK_TIMERS, 7, 4, .rs, 0xa, [], false⟩
def F.PCS_LINK_TIMERS_BACKOFF : Field := ⟨Regs.PCS_LINK_TIMERS, 0, 7, .rs, 0xa, [], false⟩
/-- PCS_RX_MAP, 0x20_0408, per port, port p at +p × 0x1_0000. -/
def Regs.PCS_RX_MAP : RegPlace := ⟨0x200408, 0x10000, 8, 0x0, 1⟩
def F.PCS_RX_MAP_INV : Field := ⟨Regs.PCS_RX_MAP, 24, 8, .rs, 0x0, [], true⟩
def F.PCS_RX_MAP_PHYS : Field := ⟨Regs.PCS_RX_MAP, 0, 24, .rs, 0xfac688, [], true⟩
/-- PCS_RX_MAP_USE, 0x20_040C, per port, port p at +p × 0x1_0000. -/
def Regs.PCS_RX_MAP_USE : RegPlace := ⟨0x20040c, 0x10000, 8, 0x0, 1⟩
def F.PCS_RX_MAP_USE_INV : Field := ⟨Regs.PCS_RX_MAP_USE, 24, 8, .ro, 0x0, [], true⟩
def F.PCS_RX_MAP_USE_PHYS : Field := ⟨Regs.PCS_RX_MAP_USE, 0, 24, .ro, 0xfac688, [], true⟩
/-- PCS_LINK_STATUS, 0x20_0410, per port, port p at +p × 0x1_0000. -/
def Regs.PCS_LINK_STATUS : RegPlace := ⟨0x200410, 0x10000, 8, 0x0, 1⟩
def F.PCS_LINK_STATUS_LOST : Field := ⟨Regs.PCS_LINK_STATUS, 24, 8, .rl, 0x0, [], false⟩
def F.PCS_LINK_STATUS_REASON : Field := ⟨Regs.PCS_LINK_STATUS, 16, 8, .ro, 0x0, [], false⟩
def F.PCS_LINK_STATUS_BACKOFF : Field := ⟨Regs.PCS_LINK_STATUS, 11, 1, .rl, 0x0, [], false⟩
def F.PCS_LINK_STATUS_MAP_LEARNED : Field := ⟨Regs.PCS_LINK_STATUS, 10, 1, .rl, 0x0, [], false⟩
def F.PCS_LINK_STATUS_PROBED : Field := ⟨Regs.PCS_LINK_STATUS, 9, 1, .rl, 0x0, [], false⟩
def F.PCS_LINK_STATUS_STATE : Field := ⟨Regs.PCS_LINK_STATUS, 0, 3, .ro, 0x0, [], false⟩
/-- PCS_LINK_TIME, 0x20_0414, per port, port p at +p × 0x1_0000. -/
def Regs.PCS_LINK_TIME : RegPlace := ⟨0x200414, 0x10000, 8, 0x0, 1⟩
def F.PCS_LINK_TIME_RESTARTS : Field := ⟨Regs.PCS_LINK_TIME, 16, 16, .ro, 0x0, [], false⟩
def F.PCS_LINK_TIME_UP_TIME : Field := ⟨Regs.PCS_LINK_TIME, 0, 16, .ro, 0x0, [], false⟩

/-! Registers of spec/10_host_lanes_and_clocking.md. -/

/-- HSL_GO, 0x10_0000, per host lane, lane n at +n × 0x1_0000. -/
def Regs.HSL_GO : RegPlace := ⟨0x100000, 0x10000, 16, 0x0, 1⟩
def F.HSL_GO_GO_GROUP : Field := ⟨Regs.HSL_GO, 0, 4, .rw, 0x0, [], false⟩
/-- HSL_RX_CTRL, 0x10_0100, per host lane, lane n at +n × 0x1_0000. -/
def Regs.HSL_RX_CTRL : RegPlace := ⟨0x100100, 0x10000, 16, 0x0, 1⟩
def F.HSL_RX_CTRL_TARGET : Field := ⟨Regs.HSL_RX_CTRL, 24, 6, .rs, 0x18, [], false⟩
def F.HSL_RX_CTRL_VGA_MODE : Field := ⟨Regs.HSL_RX_CTRL, 23, 1, .rs, 0x0, [], false⟩
def F.HSL_RX_CTRL_VGA_CODE : Field := ⟨Regs.HSL_RX_CTRL, 16, 5, .rs, 0xc, [], false⟩
def F.HSL_RX_CTRL_CTLE_MODE : Field := ⟨Regs.HSL_RX_CTRL, 12, 1, .rs, 0x1, [], false⟩
def F.HSL_RX_CTRL_CTLE_CODE : Field := ⟨Regs.HSL_RX_CTRL, 8, 4, .rs, 0x6, [], false⟩
/-- HSL_EQ_CTRL, 0x10_0104, per host lane, lane n at +n × 0x1_0000. -/
def Regs.HSL_EQ_CTRL : RegPlace := ⟨0x100104, 0x10000, 16, 0x0, 1⟩
def F.HSL_EQ_CTRL_LEVEL_A : Field := ⟨Regs.HSL_EQ_CTRL, 24, 8, .rs, 0xa0, [], false⟩
def F.HSL_EQ_CTRL_FFE_MU : Field := ⟨Regs.HSL_EQ_CTRL, 20, 4, .rs, 0x8, [], false⟩
def F.HSL_EQ_CTRL_DFE_MU : Field := ⟨Regs.HSL_EQ_CTRL, 17, 3, .rs, 0x4, [], false⟩
def F.HSL_EQ_CTRL_MAIN : Field := ⟨Regs.HSL_EQ_CTRL, 8, 4, .rs, 0x3, [], false⟩
def F.HSL_EQ_CTRL_BLIND : Field := ⟨Regs.HSL_EQ_CTRL, 3, 1, .rs, 0x1, [], false⟩
def F.HSL_EQ_CTRL_PRECODE : Field := ⟨Regs.HSL_EQ_CTRL, 2, 1, .rs, 0x0, [], false⟩
def F.HSL_EQ_CTRL_ADAPT_EN : Field := ⟨Regs.HSL_EQ_CTRL, 0, 1, .rs, 0x1, [], false⟩
/-- HSL_TR_CTRL, 0x10_0108, per host lane, lane n at +n × 0x1_0000. -/
def Regs.HSL_TR_CTRL : RegPlace := ⟨0x100108, 0x10000, 16, 0x0, 1⟩
def F.HSL_TR_CTRL_TRACK_THR : Field := ⟨Regs.HSL_TR_CTRL, 24, 8, .rs, 0x10, [], false⟩
def F.HSL_TR_CTRL_KP : Field := ⟨Regs.HSL_TR_CTRL, 16, 5, .rs, 0xc, [], false⟩
def F.HSL_TR_CTRL_KI : Field := ⟨Regs.HSL_TR_CTRL, 8, 5, .rs, 0x2, [], false⟩
def F.HSL_TR_CTRL_LOCK_THR : Field := ⟨Regs.HSL_TR_CTRL, 0, 8, .rs, 0x40, [], false⟩
/-- HSL_STATUS, 0x10_0110, per host lane, lane n at +n × 0x1_0000. -/
def Regs.HSL_STATUS : RegPlace := ⟨0x100110, 0x10000, 16, 0x0, 1⟩
def F.HSL_STATUS_PI_CODE : Field := ⟨Regs.HSL_STATUS, 26, 6, .ro, 0x0, [], false⟩
def F.HSL_STATUS_CTLE_CODE : Field := ⟨Regs.HSL_STATUS, 22, 4, .ro, 0x6, [], false⟩
def F.HSL_STATUS_VGA_CODE : Field := ⟨Regs.HSL_STATUS, 17, 5, .ro, 0xc, [], false⟩
def F.HSL_STATUS_EQ_STATE : Field := ⟨Regs.HSL_STATUS, 15, 2, .ro, 0x0, [], false⟩
def F.HSL_STATUS_TX_BURST : Field := ⟨Regs.HSL_STATUS, 7, 1, .rl, 0x0, [], false⟩
def F.HSL_STATUS_TX_IDLE : Field := ⟨Regs.HSL_STATUS, 6, 1, .rl, 0x1, [], false⟩
def F.HSL_STATUS_TRAINING : Field := ⟨Regs.HSL_STATUS, 5, 1, .rl, 0x0, [], false⟩
def F.HSL_STATUS_TRAINED : Field := ⟨Regs.HSL_STATUS, 4, 1, .rl, 0x0, [], false⟩
def F.HSL_STATUS_VALID : Field := ⟨Regs.HSL_STATUS, 3, 1, .rl, 0x0, [], false⟩
def F.HSL_STATUS_LOL : Field := ⟨Regs.HSL_STATUS, 2, 1, .rl, 0x1, [], false⟩
def F.HSL_STATUS_LOS : Field := ⟨Regs.HSL_STATUS, 1, 1, .rl, 0x1, [], false⟩
/-- HSL_METRIC, 0x10_0114, per host lane, lane n at +n × 0x1_0000. -/
def Regs.HSL_METRIC : RegPlace := ⟨0x100114, 0x10000, 16, 0x0, 1⟩
def F.HSL_METRIC_TAP_SAT : Field := ⟨Regs.HSL_METRIC, 16, 1, .rl, 0x0, [], false⟩
def F.HSL_METRIC_SNR : Field := ⟨Regs.HSL_METRIC, 0, 16, .ro, 0x0, [], false⟩
/-- HSL_SLICE_STATUS, 0x10_0118, per host lane, lane n at +n × 0x1_0000. -/
def Regs.HSL_SLICE_STATUS : RegPlace := ⟨0x100118, 0x10000, 16, 0x0, 1⟩
def F.HSL_SLICE_STATUS_SWAP_COUNT : Field := ⟨Regs.HSL_SLICE_STATUS, 24, 8, .ro, 0x0, [], false⟩
def F.HSL_SLICE_STATUS_NOSPARE : Field := ⟨Regs.HSL_SLICE_STATUS, 8, 1, .rl, 0x0, [], false⟩
def F.HSL_SLICE_STATUS_WINGS : Field := ⟨Regs.HSL_SLICE_STATUS, 7, 1, .rl, 0x0, [], false⟩
def F.HSL_SLICE_STATUS_FAILED_32 : Field := ⟨Regs.HSL_SLICE_STATUS, 6, 1, .rl, 0x0, [], false⟩
def F.HSL_SLICE_STATUS_UNDERSTUDY : Field := ⟨Regs.HSL_SLICE_STATUS, 0, 6, .ro, 0x20, [], false⟩
/-- HSL_SLICE_FAILED, 0x10_011C, per host lane, lane n at +n × 0x1_0000. -/
def Regs.HSL_SLICE_FAILED : RegPlace := ⟨0x10011c, 0x10000, 16, 0x0, 1⟩
def F.HSL_SLICE_FAILED_FAILED : Field := ⟨Regs.HSL_SLICE_FAILED, 0, 32, .rl, 0x0, [], false⟩
/-- HSL_TX_CTRL, 0x10_0200, per host lane, lane n at +n × 0x1_0000. -/
def Regs.HSL_TX_CTRL : RegPlace := ⟨0x100200, 0x10000, 16, 0x0, 1⟩
def F.HSL_TX_CTRL_SOURCE : Field := ⟨Regs.HSL_TX_CTRL, 15, 1, .rs, 0x1, [], false⟩
def F.HSL_TX_CTRL_AMP : Field := ⟨Regs.HSL_TX_CTRL, 12, 2, .rs, 0x2, [], false⟩
def F.HSL_TX_CTRL_POST : Field := ⟨Regs.HSL_TX_CTRL, 8, 3, .rs, 0x0, [], false⟩
def F.HSL_TX_CTRL_PRE : Field := ⟨Regs.HSL_TX_CTRL, 4, 3, .rs, 0x0, [], false⟩
def F.HSL_TX_CTRL_IDLE : Field := ⟨Regs.HSL_TX_CTRL, 1, 1, .rs, 0x0, [], false⟩
def F.HSL_TX_CTRL_PRECODE : Field := ⟨Regs.HSL_TX_CTRL, 0, 1, .rs, 0x0, [], false⟩
/-- HSL_TX_TAP_j, 0x10_0210 + 4j, per host lane, j = 0–5, lane n at +n × 0x1_0000. -/
def Regs.HSL_TX_TAP_j : RegPlace := ⟨0x100210, 0x10000, 16, 0x4, 6⟩
def F.HSL_TX_TAP_j_TAP : Field := ⟨Regs.HSL_TX_TAP_j, 0, 9, .rs, 0x0, [(3, 0x80)], false⟩
/-- HSL_ALIGN_STATUS, 0x10_0300, per host lane, lane n at +n × 0x1_0000. -/
def Regs.HSL_ALIGN_STATUS : RegPlace := ⟨0x100300, 0x10000, 16, 0x0, 1⟩
def F.HSL_ALIGN_STATUS_SKEW : Field := ⟨Regs.HSL_ALIGN_STATUS, 16, 16, .ro, 0x0, [], false⟩
def F.HSL_ALIGN_STATUS_PCS_FIRST : Field := ⟨Regs.HSL_ALIGN_STATUS, 8, 5, .ro, 0x0, [], false⟩
def F.HSL_ALIGN_STATUS_LOCKED : Field := ⟨Regs.HSL_ALIGN_STATUS, 0, 1, .rl, 0x0, [], false⟩
/-- HSL_TP_CTRL, 0x10_0400, per host lane, lane n at +n × 0x1_0000. -/
def Regs.HSL_TP_CTRL : RegPlace := ⟨0x100400, 0x10000, 16, 0x0, 1⟩
def F.HSL_TP_CTRL_TPC_EN : Field := ⟨Regs.HSL_TP_CTRL, 7, 1, .rs, 0x0, [], false⟩
def F.HSL_TP_CTRL_TPC_PATTERN : Field := ⟨Regs.HSL_TP_CTRL, 4, 3, .rs, 0x1, [], false⟩
def F.HSL_TP_CTRL_TPG_EN : Field := ⟨Regs.HSL_TP_CTRL, 3, 1, .rs, 0x0, [], false⟩
def F.HSL_TP_CTRL_TPG_PATTERN : Field := ⟨Regs.HSL_TP_CTRL, 0, 3, .rs, 0x1, [], false⟩
/-- HSL_TPC_STATUS, 0x10_0404, per host lane, lane n at +n × 0x1_0000. -/
def Regs.HSL_TPC_STATUS : RegPlace := ⟨0x100404, 0x10000, 16, 0x0, 1⟩
def F.HSL_TPC_STATUS_LOCK : Field := ⟨Regs.HSL_TPC_STATUS, 31, 1, .rl, 0x0, [], false⟩
def F.HSL_TPC_STATUS_POS : Field := ⟨Regs.HSL_TPC_STATUS, 0, 17, .ro, 0x0, [], false⟩
/-- HSL_TPG_USER_k, 0x10_0420 + 4k, per host lane, k = 0–7, lane n at +n × 0x1_0000. -/
def Regs.HSL_TPG_USER_k : RegPlace := ⟨0x100420, 0x10000, 16, 0x4, 8⟩
def F.HSL_TPG_USER_k_USER : Field := ⟨Regs.HSL_TPG_USER_k, 0, 32, .rs, 0x0, [], false⟩
/-- HSL_CLK_SEL, 0x20_0500, per port, port p at +p × 0x1_0000. -/
def Regs.HSL_CLK_SEL : RegPlace := ⟨0x200500, 0x10000, 8, 0x0, 1⟩
def F.HSL_CLK_SEL_FAILOVER : Field := ⟨Regs.HSL_CLK_SEL, 16, 1, .rs, 0x1, [], false⟩
def F.HSL_CLK_SEL_RX_REF : Field := ⟨Regs.HSL_CLK_SEL, 8, 3, .rs, 0x0, [], false⟩
def F.HSL_CLK_SEL_TX_REF : Field := ⟨Regs.HSL_CLK_SEL, 0, 4, .rs, 0x0, [], false⟩
/-- HSL_REF_CTRL, 0x02_0114, device. -/
def Regs.HSL_REF_CTRL : RegPlace := ⟨0x20114, 0x0, 1, 0x0, 1⟩
def F.HSL_REF_CTRL_REF_REVERT : Field := ⟨Regs.HSL_REF_CTRL, 0, 1, .rs, 0x0, [], false⟩
/-- HSL_REF_STATUS, 0x02_0110, device. -/
def Regs.HSL_REF_STATUS : RegPlace := ⟨0x20110, 0x0, 1, 0x0, 1⟩
def F.HSL_REF_STATUS_HFCKO1_ON : Field := ⟨Regs.HSL_REF_STATUS, 13, 1, .rl, 0x0, [], false⟩
def F.HSL_REF_STATUS_HFCKO0_ON : Field := ⟨Regs.HSL_REF_STATUS, 12, 1, .rl, 0x0, [], false⟩
def F.HSL_REF_STATUS_B_REF : Field := ⟨Regs.HSL_REF_STATUS, 10, 2, .ro, 0x2, [], false⟩
def F.HSL_REF_STATUS_A_REF : Field := ⟨Regs.HSL_REF_STATUS, 8, 2, .ro, 0x2, [], false⟩
def F.HSL_REF_STATUS_B_HOLDOVER : Field := ⟨Regs.HSL_REF_STATUS, 7, 1, .rl, 0x0, [], false⟩
def F.HSL_REF_STATUS_A_HOLDOVER : Field := ⟨Regs.HSL_REF_STATUS, 6, 1, .rl, 0x0, [], false⟩
def F.HSL_REF_STATUS_B_LOCK : Field := ⟨Regs.HSL_REF_STATUS, 5, 1, .rl, 0x0, [], false⟩
def F.HSL_REF_STATUS_A_LOCK : Field := ⟨Regs.HSL_REF_STATUS, 4, 1, .rl, 0x0, [], false⟩
def F.HSL_REF_STATUS_REFCLK_OK : Field := ⟨Regs.HSL_REF_STATUS, 2, 1, .rl, 0x0, [], false⟩
def F.HSL_REF_STATUS_HFCK1_OK : Field := ⟨Regs.HSL_REF_STATUS, 1, 1, .rl, 0x0, [], false⟩
def F.HSL_REF_STATUS_HFCK0_OK : Field := ⟨Regs.HSL_REF_STATUS, 0, 1, .rl, 0x0, [], false⟩

/-! Registers of spec/11_aside_channel.md. -/

/-- ASD_CTRL, 0x28_0000, per line lane, lane n at +n × 0x1_0000. -/
def Regs.ASD_CTRL : RegPlace := ⟨0x280000, 0x10000, 8, 0x0, 1⟩
def F.ASD_CTRL_AMP : Field := ⟨Regs.ASD_CTRL, 16, 4, .rs, 0x3, [], false⟩
def F.ASD_CTRL_LOAD_EN : Field := ⟨Regs.ASD_CTRL, 12, 1, .rs, 0x1, [], false⟩
def F.ASD_CTRL_KEY_SLOT : Field := ⟨Regs.ASD_CTRL, 8, 2, .rs, 0x0, [], true⟩
def F.ASD_CTRL_AUTH : Field := ⟨Regs.ASD_CTRL, 4, 2, .rs, 0x0, [], true⟩
def F.ASD_CTRL_PROFILE : Field := ⟨Regs.ASD_CTRL, 0, 2, .rs, 0x1, [], true⟩
/-- ASD_TIMING, 0x28_0004, per line lane, lane n at +n × 0x1_0000. -/
def Regs.ASD_TIMING : RegPlace := ⟨0x280004, 0x10000, 8, 0x0, 1⟩
def F.ASD_TIMING_PARTNER_TO : Field := ⟨Regs.ASD_TIMING, 16, 8, .rs, 0x32, [], false⟩
def F.ASD_TIMING_HEALTH_PERIOD : Field := ⟨Regs.ASD_TIMING, 8, 8, .rs, 0xa, [], false⟩
def F.ASD_TIMING_HELLO_PERIOD : Field := ⟨Regs.ASD_TIMING, 0, 8, .rs, 0xa, [], false⟩
/-- ASD_DET, 0x28_0008, per line lane, lane n at +n × 0x1_0000. -/
def Regs.ASD_DET : RegPlace := ⟨0x280008, 0x10000, 8, 0x0, 1⟩
def F.ASD_DET_LOAD_MARGIN : Field := ⟨Regs.ASD_DET, 24, 4, .rs, 0x3, [], false⟩
def F.ASD_DET_WEAK_REJ : Field := ⟨Regs.ASD_DET, 16, 5, .rs, 0xf, [], false⟩
def F.ASD_DET_CAPTURE_MARGIN : Field := ⟨Regs.ASD_DET, 8, 4, .rs, 0x6, [], false⟩
def F.ASD_DET_DET_THR : Field := ⟨Regs.ASD_DET, 0, 8, .rs, 0x8d, [], false⟩
/-- ASD_STATUS, 0x28_0010, per line lane, lane n at +n × 0x1_0000. -/
def Regs.ASD_STATUS : RegPlace := ⟨0x280010, 0x10000, 8, 0x0, 1⟩
def F.ASD_STATUS_PARTNER_WIDTH : Field := ⟨Regs.ASD_STATUS, 28, 4, .ro, 0x0, [], false⟩
def F.ASD_STATUS_PARTNER_LANE : Field := ⟨Regs.ASD_STATUS, 24, 4, .ro, 0x0, [], false⟩
def F.ASD_STATUS_RX_LOAD : Field := ⟨Regs.ASD_STATUS, 20, 4, .ro, 0x0, [], false⟩
def F.ASD_STATUS_TX_LOAD : Field := ⟨Regs.ASD_STATUS, 16, 4, .ro, 0x0, [], false⟩
def F.ASD_STATUS_STAMP_SEEN : Field := ⟨Regs.ASD_STATUS, 11, 1, .rl, 0x0, [], false⟩
def F.ASD_STATUS_POLARITY : Field := ⟨Regs.ASD_STATUS, 10, 1, .ro, 0x0, [], false⟩
def F.ASD_STATUS_AUTH_STATE : Field := ⟨Regs.ASD_STATUS, 8, 2, .ro, 0x0, [], false⟩
def F.ASD_STATUS_GATHERER : Field := ⟨Regs.ASD_STATUS, 6, 1, .ro, 0x0, [], false⟩
def F.ASD_STATUS_PARTNER_PROFILE : Field := ⟨Regs.ASD_STATUS, 4, 2, .ro, 0x0, [], false⟩
def F.ASD_STATUS_TX_BUSY : Field := ⟨Regs.ASD_STATUS, 2, 1, .rl, 0x0, [], false⟩
def F.ASD_STATUS_RX_BUSY : Field := ⟨Regs.ASD_STATUS, 1, 1, .rl, 0x0, [], false⟩
def F.ASD_STATUS_UP : Field := ⟨Regs.ASD_STATUS, 0, 1, .rl, 0x0, [], false⟩
/-- ASD_LEVEL, 0x28_0014, per line lane, lane n at +n × 0x1_0000. -/
def Regs.ASD_LEVEL : RegPlace := ⟨0x280014, 0x10000, 8, 0x0, 1⟩
def F.ASD_LEVEL_REF : Field := ⟨Regs.ASD_LEVEL, 16, 16, .ro, 0x0, [], false⟩
def F.ASD_LEVEL_LAST : Field := ⟨Regs.ASD_LEVEL, 0, 16, .ro, 0x0, [], false⟩
/-- ASD_PARTNER_ID_0, 0x28_0018, per line lane, lane n at +n × 0x1_0000. -/
def Regs.ASD_PARTNER_ID_0 : RegPlace := ⟨0x280018, 0x10000, 8, 0x0, 1⟩
def F.ASD_PARTNER_ID_0_ID_LO : Field := ⟨Regs.ASD_PARTNER_ID_0, 0, 32, .ro, 0x0, [], false⟩
/-- ASD_PARTNER_ID_1, 0x28_001C, per line lane, lane n at +n × 0x1_0000. -/
def Regs.ASD_PARTNER_ID_1 : RegPlace := ⟨0x28001c, 0x10000, 8, 0x0, 1⟩
def F.ASD_PARTNER_ID_1_ID_HI : Field := ⟨Regs.ASD_PARTNER_ID_1, 0, 32, .ro, 0x0, [], false⟩
/-- ASD_PARTNER_INFO, 0x28_0020, per line lane, lane n at +n × 0x1_0000. -/
def Regs.ASD_PARTNER_INFO : RegPlace := ⟨0x280020, 0x10000, 8, 0x0, 1⟩
def F.ASD_PARTNER_INFO_PART : Field := ⟨Regs.ASD_PARTNER_INFO, 16, 16, .ro, 0x0, [], false⟩
def F.ASD_PARTNER_INFO_STEP : Field := ⟨Regs.ASD_PARTNER_INFO, 8, 8, .ro, 0x0, [], false⟩
def F.ASD_PARTNER_INFO_CAPS : Field := ⟨Regs.ASD_PARTNER_INFO, 0, 8, .ro, 0x0, [], false⟩
/-- ASD_RX_SNR_j, 0x28_0040 + 4j, per line lane, j = 0–7, lane n at +n × 0x1_0000. -/
def Regs.ASD_RX_SNR_j : RegPlace := ⟨0x280040, 0x10000, 8, 0x4, 8⟩
def F.ASD_RX_SNR_j_SNR_0 : Field := ⟨Regs.ASD_RX_SNR_j, 24, 8, .ro, 0x0, [], false⟩
def F.ASD_RX_SNR_j_SNR_1 : Field := ⟨Regs.ASD_RX_SNR_j, 16, 8, .ro, 0x0, [], false⟩
def F.ASD_RX_SNR_j_SNR_2 : Field := ⟨Regs.ASD_RX_SNR_j, 8, 8, .ro, 0x0, [], false⟩
def F.ASD_RX_SNR_j_SNR_3 : Field := ⟨Regs.ASD_RX_SNR_j, 0, 8, .ro, 0x0, [], false⟩
/-- ASD_TABLE_TX_k, 0x28_0060 + 4k, per line lane, k = 0–1, lane n at +n × 0x1_0000. -/
def Regs.ASD_TABLE_TX_k : RegPlace := ⟨0x280060, 0x10000, 8, 0x4, 2⟩
def F.ASD_TABLE_TX_k_TABLE : Field := ⟨Regs.ASD_TABLE_TX_k, 0, 32, .ro, 0xaaaaaaaa, [], false⟩
/-- ASD_TABLE_RX_k, 0x28_0068 + 4k, per line lane, k = 0–1, lane n at +n × 0x1_0000. -/
def Regs.ASD_TABLE_RX_k : RegPlace := ⟨0x280068, 0x10000, 8, 0x4, 2⟩
def F.ASD_TABLE_RX_k_TABLE : Field := ⟨Regs.ASD_TABLE_RX_k, 0, 32, .ro, 0xaaaaaaaa, [], false⟩

/-! Registers of spec/12_calibration.md. -/

/-- CAL_STATE, 0x02_0200, device. -/
def Regs.CAL_STATE : RegPlace := ⟨0x20200, 0x0, 1, 0x0, 1⟩
def F.CAL_STATE_TARGETS : Field := ⟨Regs.CAL_STATE, 16, 5, .rl, 0x0, [], false⟩
def F.CAL_STATE_HANDLE : Field := ⟨Regs.CAL_STATE, 0, 16, .ro, 0x0, [], false⟩

/-! Registers of spec/13_loop_engine.md. -/

/-- LOOP_ENGINE_STATUS, 0x30_0000, device. -/
def Regs.LOOP_ENGINE_STATUS : RegPlace := ⟨0x300000, 0x0, 1, 0x0, 1⟩
def F.LOOP_ENGINE_STATUS_FALLBACK : Field := ⟨Regs.LOOP_ENGINE_STATUS, 2, 1, .rl, 0x0, [], false⟩
def F.LOOP_ENGINE_STATUS_FAULT : Field := ⟨Regs.LOOP_ENGINE_STATUS, 1, 1, .rl, 0x0, [], false⟩
def F.LOOP_ENGINE_STATUS_RUNNING : Field := ⟨Regs.LOOP_ENGINE_STATUS, 0, 1, .rl, 0x0, [], false⟩
/-- LOOP_GRP_g, 0x30_0100 + 4g, device, g = 0–7. -/
def Regs.LOOP_GRP_g : RegPlace := ⟨0x300100, 0x4, 8, 0x0, 1⟩
def F.LOOP_GRP_g_GO_GROUP : Field := ⟨Regs.LOOP_GRP_g, 28, 4, .rw, 0x0, [], false⟩
def F.LOOP_GRP_g_COUPLE : Field := ⟨Regs.LOOP_GRP_g, 20, 8, .rs, 0x0, [], false⟩
def F.LOOP_GRP_g_STEP_LIM : Field := ⟨Regs.LOOP_GRP_g, 12, 8, .rs, 0x0, [], false⟩
def F.LOOP_GRP_g_ENABLE : Field := ⟨Regs.LOOP_GRP_g, 11, 1, .rs, 0x0, [], true⟩
def F.LOOP_GRP_g_SAFETY : Field := ⟨Regs.LOOP_GRP_g, 5, 5, .rs, 0x0, [], true⟩
def F.LOOP_GRP_g_ACTUATOR : Field := ⟨Regs.LOOP_GRP_g, 0, 5, .rs, 0x0, [], true⟩
/-- LOOP_GRP_STATUS_g, 0x30_0140 + 4g, device, g = 0–7. -/
def Regs.LOOP_GRP_STATUS_g : RegPlace := ⟨0x300140, 0x4, 8, 0x0, 1⟩
def F.LOOP_GRP_STATUS_g_SLEW : Field := ⟨Regs.LOOP_GRP_STATUS_g, 22, 1, .rl, 0x0, [], false⟩
def F.LOOP_GRP_STATUS_g_ESCALATED : Field := ⟨Regs.LOOP_GRP_STATUS_g, 21, 1, .rl, 0x0, [], false⟩
def F.LOOP_GRP_STATUS_g_WINNER : Field := ⟨Regs.LOOP_GRP_STATUS_g, 16, 5, .ro, 0x0, [], false⟩
def F.LOOP_GRP_STATUS_g_CODE : Field := ⟨Regs.LOOP_GRP_STATUS_g, 0, 16, .ro, 0x0, [], false⟩
/-- LOOP_CTRL, base + 0x00, per loop. -/
def Regs.LOOP_CTRL : RegPlace := ⟨0x301000, 0x80, 32, 0x0, 1⟩
def F.LOOP_CTRL_GO_GROUP : Field := ⟨Regs.LOOP_CTRL, 28, 4, .rw, 0x0, [], false⟩
def F.LOOP_CTRL_PERIOD : Field := ⟨Regs.LOOP_CTRL, 17, 11, .rs, 0x14, [], false⟩
def F.LOOP_CTRL_GROUP : Field := ⟨Regs.LOOP_CTRL, 14, 3, .rs, 0x0, [], false⟩
def F.LOOP_CTRL_GROUPED : Field := ⟨Regs.LOOP_CTRL, 13, 1, .rs, 0x0, [], true⟩
def F.LOOP_CTRL_PROF_EN : Field := ⟨Regs.LOOP_CTRL, 12, 1, .rs, 0x0, [], false⟩
def F.LOOP_CTRL_LOST_ACTION : Field := ⟨Regs.LOOP_CTRL, 10, 2, .rs, 0x0, [], true⟩
def F.LOOP_CTRL_HIST_EVT : Field := ⟨Regs.LOOP_CTRL, 2, 1, .rs, 0x0, [], false⟩
def F.LOOP_CTRL_MODE : Field := ⟨Regs.LOOP_CTRL, 0, 2, .rs, 0x0, [], false⟩
/-- LOOP_INPUT, base + 0x04, per loop. -/
def Regs.LOOP_INPUT : RegPlace := ⟨0x301004, 0x80, 32, 0x0, 1⟩
def F.LOOP_INPUT_KIND : Field := ⟨Regs.LOOP_INPUT, 30, 2, .rs, 0x3, [], false⟩
def F.LOOP_INPUT_FRZ_LEN : Field := ⟨Regs.LOOP_INPUT, 20, 4, .rs, 0x4, [], false⟩
def F.LOOP_INPUT_DETECTOR : Field := ⟨Regs.LOOP_INPUT, 16, 4, .rs, 0x0, [], false⟩
def F.LOOP_INPUT_INDEX : Field := ⟨Regs.LOOP_INPUT, 0, 8, .rs, 0x0, [], false⟩
/-- LOOP_INPUT_AUX, base + 0x08, per loop. -/
def Regs.LOOP_INPUT_AUX : RegPlace := ⟨0x301008, 0x80, 32, 0x0, 1⟩
def F.LOOP_INPUT_AUX_CONST : Field := ⟨Regs.LOOP_INPUT_AUX, 16, 16, .rs, 0x0, [], false⟩
def F.LOOP_INPUT_AUX_VAR_THR : Field := ⟨Regs.LOOP_INPUT_AUX, 0, 16, .rs, 0x0, [], false⟩
/-- LOOP_SP, base + 0x0C, per loop. -/
def Regs.LOOP_SP : RegPlace := ⟨0x30100c, 0x80, 32, 0x0, 1⟩
def F.LOOP_SP_SAFE_U : Field := ⟨Regs.LOOP_SP, 16, 16, .rs, 0x8000, [], true⟩
def F.LOOP_SP_TARGET : Field := ⟨Regs.LOOP_SP, 0, 16, .rs, 0x0, [], false⟩
/-- LOOP_GAIN_PI, base + 0x10, per loop. -/
def Regs.LOOP_GAIN_PI : RegPlace := ⟨0x301010, 0x80, 32, 0x0, 1⟩
def F.LOOP_GAIN_PI_KI : Field := ⟨Regs.LOOP_GAIN_PI, 16, 16, .rs, 0x0, [], false⟩
def F.LOOP_GAIN_PI_KP : Field := ⟨Regs.LOOP_GAIN_PI, 0, 16, .rs, 0x0, [], false⟩
/-- LOOP_GAIN_DF, base + 0x14, per loop. -/
def Regs.LOOP_GAIN_DF : RegPlace := ⟨0x301014, 0x80, 32, 0x0, 1⟩
def F.LOOP_GAIN_DF_KFF : Field := ⟨Regs.LOOP_GAIN_DF, 16, 16, .rs, 0x0, [], false⟩
def F.LOOP_GAIN_DF_KD : Field := ⟨Regs.LOOP_GAIN_DF, 0, 16, .rs, 0x0, [], false⟩
/-- LOOP_SHIFTS, base + 0x18, per loop. -/
def Regs.LOOP_SHIFTS : RegPlace := ⟨0x301018, 0x80, 32, 0x0, 1⟩
def F.LOOP_SHIFTS_ALPHA : Field := ⟨Regs.LOOP_SHIFTS, 16, 16, .rs, 0x0, [], false⟩
def F.LOOP_SHIFTS_FF_SHIFT : Field := ⟨Regs.LOOP_SHIFTS, 12, 4, .rs, 0x0, [], false⟩
def F.LOOP_SHIFTS_D_SHIFT : Field := ⟨Regs.LOOP_SHIFTS, 8, 4, .rs, 0x0, [], false⟩
def F.LOOP_SHIFTS_I_SHIFT : Field := ⟨Regs.LOOP_SHIFTS, 4, 4, .rs, 0x0, [], false⟩
def F.LOOP_SHIFTS_P_SHIFT : Field := ⟨Regs.LOOP_SHIFTS, 0, 4, .rs, 0x0, [], false⟩
/-- LOOP_ILIM_m, base + 0x1C + 4m, per loop, m = 0 (I_MIN), 1 (I_MAX). -/
def Regs.LOOP_ILIM_m : RegPlace := ⟨0x30101c, 0x80, 32, 0x4, 2⟩
def F.LOOP_ILIM_m_LIMIT : Field := ⟨Regs.LOOP_ILIM_m, 0, 32, .rs, 0x80000000, [(1, 0x7fffffff)], false⟩
/-- LOOP_OUT_MAP, base + 0x24, per loop. -/
def Regs.LOOP_OUT_MAP : RegPlace := ⟨0x301024, 0x80, 32, 0x0, 1⟩
def F.LOOP_OUT_MAP_OUT_SPAN : Field := ⟨Regs.LOOP_OUT_MAP, 16, 16, .rs, 0x0, [], false⟩
def F.LOOP_OUT_MAP_OUT_BIAS : Field := ⟨Regs.LOOP_OUT_MAP, 0, 16, .rs, 0x0, [], false⟩
/-- LOOP_OUT_LIM, base + 0x28, per loop. -/
def Regs.LOOP_OUT_LIM : RegPlace := ⟨0x301028, 0x80, 32, 0x0, 1⟩
def F.LOOP_OUT_LIM_OUT_MAX : Field := ⟨Regs.LOOP_OUT_LIM, 16, 16, .rs, 0x0, [], true⟩
def F.LOOP_OUT_LIM_OUT_MIN : Field := ⟨Regs.LOOP_OUT_LIM, 0, 16, .rs, 0x0, [], true⟩
/-- LOOP_OUT_DRV, base + 0x2C, per loop; ignored when GROUPED = 1. -/
def Regs.LOOP_OUT_DRV : RegPlace := ⟨0x30102c, 0x80, 32, 0x0, 1⟩
def F.LOOP_OUT_DRV_COUPLE : Field := ⟨Regs.LOOP_OUT_DRV, 24, 8, .rs, 0x0, [], false⟩
def F.LOOP_OUT_DRV_STEP_LIM : Field := ⟨Regs.LOOP_OUT_DRV, 16, 8, .rs, 0x0, [], false⟩
def F.LOOP_OUT_DRV_ACTUATOR : Field := ⟨Regs.LOOP_OUT_DRV, 0, 5, .rs, 0x0, [], true⟩
/-- LOOP_PROF_m, base + 0x30 + 4m, per loop, m = 0 (V_MAX), 1 (A_MAX), 2 (J_MAX). -/
def Regs.LOOP_PROF_m : RegPlace := ⟨0x301030, 0x80, 32, 0x4, 3⟩
def F.LOOP_PROF_m_LIMIT : Field := ⟨Regs.LOOP_PROF_m, 0, 32, .rs, 0x0, [], false⟩
/-- LOOP_STATUS, base + 0x40, per loop. -/
def Regs.LOOP_STATUS : RegPlace := ⟨0x301040, 0x80, 32, 0x0, 1⟩
def F.LOOP_STATUS_CODE : Field := ⟨Regs.LOOP_STATUS, 16, 16, .ro, 0x0, [], false⟩
def F.LOOP_STATUS_MOVING : Field := ⟨Regs.LOOP_STATUS, 9, 1, .rl, 0x0, [], false⟩
def F.LOOP_STATUS_LOST_ARB : Field := ⟨Regs.LOOP_STATUS, 8, 1, .rl, 0x0, [], false⟩
def F.LOOP_STATUS_CLAMP : Field := ⟨Regs.LOOP_STATUS, 7, 1, .rl, 0x0, [], false⟩
def F.LOOP_STATUS_FROZEN : Field := ⟨Regs.LOOP_STATUS, 6, 1, .rl, 0x0, [], false⟩
def F.LOOP_STATUS_STALE : Field := ⟨Regs.LOOP_STATUS, 5, 1, .rl, 0x0, [], false⟩
def F.LOOP_STATUS_SLEW : Field := ⟨Regs.LOOP_STATUS, 4, 1, .rl, 0x0, [], false⟩
def F.LOOP_STATUS_STATE : Field := ⟨Regs.LOOP_STATUS, 0, 3, .ro, 0x0, [], false⟩
/-- LOOP_HIST, base + 0x44, per loop. -/
def Regs.LOOP_HIST : RegPlace := ⟨0x301044, 0x80, 32, 0x0, 1⟩
def F.LOOP_HIST_FLAGS : Field := ⟨Regs.LOOP_HIST, 0, 8, .ro, 0x0, [], false⟩
/-- BDAC_CEIL_c, 0x31_0800 + 4c, per bias DAC channel, c = 0–31. -/
def Regs.BDAC_CEIL_c : RegPlace := ⟨0x310800, 0x4, 32, 0x0, 1⟩
def F.BDAC_CEIL_c_LOCK : Field := ⟨Regs.BDAC_CEIL_c, 31, 1, .lk, 0x0, [], true⟩
def F.BDAC_CEIL_c_CEIL_HIT : Field := ⟨Regs.BDAC_CEIL_c, 16, 1, .rl, 0x0, [], false⟩
def F.BDAC_CEIL_c_CODE_MAX : Field := ⟨Regs.BDAC_CEIL_c, 0, 16, .rw, 0xffff, [], true⟩

/-! Registers of spec/14_bias_dacs_and_sense_chain.md. -/

/-- BDAC_CTRL_c, 0x31_0000 + c × 0x10, per bias DAC channel, c = 0–31. -/
def Regs.BDAC_CTRL_c : RegPlace := ⟨0x310000, 0x10, 32, 0x0, 1⟩
def F.BDAC_CTRL_c_GO_GROUP : Field := ⟨Regs.BDAC_CTRL_c, 28, 4, .rw, 0x0, [], false⟩
def F.BDAC_CTRL_c_DAMP : Field := ⟨Regs.BDAC_CTRL_c, 16, 12, .rs, 0x0, [], false⟩
def F.BDAC_CTRL_c_DGEN : Field := ⟨Regs.BDAC_CTRL_c, 8, 2, .rs, 0x0, [], false⟩
def F.BDAC_CTRL_c_DITH_EN : Field := ⟨Regs.BDAC_CTRL_c, 7, 1, .rs, 0x0, [], false⟩
def F.BDAC_CTRL_c_SOURCE : Field := ⟨Regs.BDAC_CTRL_c, 4, 1, .rs, 0x0, [], true⟩
def F.BDAC_CTRL_c_EN : Field := ⟨Regs.BDAC_CTRL_c, 0, 1, .rs, 0x0, [], true⟩
/-- BDAC_CODE_c, 0x31_0004 + c × 0x10, per bias DAC channel, c = 0–31. -/
def Regs.BDAC_CODE_c : RegPlace := ⟨0x310004, 0x10, 32, 0x0, 1⟩
def F.BDAC_CODE_c_CODE : Field := ⟨Regs.BDAC_CODE_c, 0, 16, .rs, 0x0, [], false⟩
/-- BDAC_STATUS_c, 0x31_0008 + c × 0x10, per bias DAC channel, c = 0–31. -/
def Regs.BDAC_STATUS_c : RegPlace := ⟨0x310008, 0x10, 32, 0x0, 1⟩
def F.BDAC_STATUS_c_APPLIED : Field := ⟨Regs.BDAC_STATUS_c, 16, 16, .ro, 0x0, [], false⟩
def F.BDAC_STATUS_c_HOLDING : Field := ⟨Regs.BDAC_STATUS_c, 4, 1, .rl, 0x0, [], false⟩
def F.BDAC_STATUS_c_RANGE : Field := ⟨Regs.BDAC_STATUS_c, 3, 1, .ro, 0x0, [], true⟩
def F.BDAC_STATUS_c_STATE : Field := ⟨Regs.BDAC_STATUS_c, 0, 2, .ro, 0x0, [], false⟩
/-- BDAC_DGEN_g, 0x31_0400 + 4g, device, g = 0–3. -/
def Regs.BDAC_DGEN_g : RegPlace := ⟨0x310400, 0x4, 4, 0x0, 1⟩
def F.BDAC_DGEN_g_GO_GROUP : Field := ⟨Regs.BDAC_DGEN_g, 28, 4, .rw, 0x0, [], false⟩
def F.BDAC_DGEN_g_EN : Field := ⟨Regs.BDAC_DGEN_g, 25, 1, .rs, 0x0, [], false⟩
def F.BDAC_DGEN_g_FREQ : Field := ⟨Regs.BDAC_DGEN_g, 0, 25, .rs, 0x20c49c, [], false⟩
/-- SNS_CTRL_n, 0x32_0000 + n × 0x40, per sense channel, n = 0–23. -/
def Regs.SNS_CTRL_n : RegPlace := ⟨0x320000, 0x40, 24, 0x0, 1⟩
def F.SNS_CTRL_n_GO_GROUP : Field := ⟨Regs.SNS_CTRL_n, 28, 4, .rw, 0x0, [], false⟩
def F.SNS_CTRL_n_DELAY : Field := ⟨Regs.SNS_CTRL_n, 16, 10, .rs, 0x0, [], false⟩
def F.SNS_CTRL_n_EN : Field := ⟨Regs.SNS_CTRL_n, 0, 1, .rs, 0x0, [], false⟩
/-- SNS_DEC_n, 0x32_0004 + n × 0x40, per sense channel, n = 0–23. -/
def Regs.SNS_DEC_n : RegPlace := ⟨0x320004, 0x40, 24, 0x0, 1⟩
def F.SNS_DEC_n_CIC_R : Field := ⟨Regs.SNS_DEC_n, 16, 9, .rs, 0x20, [], false⟩
def F.SNS_DEC_n_HB : Field := ⟨Regs.SNS_DEC_n, 8, 2, .rs, 0x2, [], false⟩
def F.SNS_DEC_n_COEF : Field := ⟨Regs.SNS_DEC_n, 4, 2, .rs, 0x0, [], false⟩
def F.SNS_DEC_n_FIR_D : Field := ⟨Regs.SNS_DEC_n, 0, 3, .rs, 0x0, [], false⟩
/-- SNS_DET_n, 0x32_0008 + n × 0x40, per sense channel, n = 0–23. -/
def Regs.SNS_DET_n : RegPlace := ⟨0x320008, 0x40, 24, 0x0, 1⟩
def F.SNS_DET_n_ENV_COEF : Field := ⟨Regs.SNS_DET_n, 16, 16, .rs, 0x400, [], false⟩
def F.SNS_DET_n_RMS_K : Field := ⟨Regs.SNS_DET_n, 8, 5, .rs, 0x8, [], false⟩
def F.SNS_DET_n_PK_HOLD : Field := ⟨Regs.SNS_DET_n, 4, 4, .rs, 0x8, [], false⟩
def F.SNS_DET_n_PK_DECAY : Field := ⟨Regs.SNS_DET_n, 0, 4, .rs, 0x4, [], false⟩
/-- SNS_LOCKIN_n, 0x32_000C + n × 0x40, per sense channel, n = 0–23. -/
def Regs.SNS_LOCKIN_n : RegPlace := ⟨0x32000c, 0x40, 24, 0x0, 1⟩
def F.SNS_LOCKIN_n_GEN : Field := ⟨Regs.SNS_LOCKIN_n, 10, 2, .rs, 0x0, [], false⟩
def F.SNS_LOCKIN_n_LI_N : Field := ⟨Regs.SNS_LOCKIN_n, 0, 10, .rs, 0x10, [], false⟩
/-- SNS_OUT_n, 0x32_0010 + n × 0x40, per sense channel, n = 0–23. -/
def Regs.SNS_OUT_n : RegPlace := ⟨0x320010, 0x40, 24, 0x0, 1⟩
def F.SNS_OUT_n_SEQ : Field := ⟨Regs.SNS_OUT_n, 24, 8, .ro, 0x0, [], false⟩
def F.SNS_OUT_n_OVER : Field := ⟨Regs.SNS_OUT_n, 17, 1, .rl, 0x0, [], false⟩
def F.SNS_OUT_n_NOT_SETTLED : Field := ⟨Regs.SNS_OUT_n, 16, 1, .rl, 0x1, [], false⟩
def F.SNS_OUT_n_VALUE : Field := ⟨Regs.SNS_OUT_n, 0, 16, .ro, 0x0, [], false⟩
/-- SNS_RAW_n, 0x32_0014 + n × 0x40, per sense channel, n = 0–23. -/
def Regs.SNS_RAW_n : RegPlace := ⟨0x320014, 0x40, 24, 0x0, 1⟩
def F.SNS_RAW_n_SEQ : Field := ⟨Regs.SNS_RAW_n, 24, 8, .ro, 0x0, [], false⟩
def F.SNS_RAW_n_RAW : Field := ⟨Regs.SNS_RAW_n, 0, 24, .ro, 0x0, [], false⟩
/-- SNS_PEAK_n, 0x32_0018 + n × 0x40, per sense channel, n = 0–23. -/
def Regs.SNS_PEAK_n : RegPlace := ⟨0x320018, 0x40, 24, 0x0, 1⟩
def F.SNS_PEAK_n_MAX : Field := ⟨Regs.SNS_PEAK_n, 16, 16, .ro, 0x0, [], false⟩
def F.SNS_PEAK_n_MIN : Field := ⟨Regs.SNS_PEAK_n, 0, 16, .ro, 0x0, [], false⟩
/-- SNS_RMS_n, 0x32_001C + n × 0x40, per sense channel, n = 0–23. -/
def Regs.SNS_RMS_n : RegPlace := ⟨0x32001c, 0x40, 24, 0x0, 1⟩
def F.SNS_RMS_n_SEQ : Field := ⟨Regs.SNS_RMS_n, 24, 8, .ro, 0x0, [], false⟩
def F.SNS_RMS_n_NOT_SETTLED : Field := ⟨Regs.SNS_RMS_n, 16, 1, .rl, 0x1, [], false⟩
def F.SNS_RMS_n_RMS : Field := ⟨Regs.SNS_RMS_n, 0, 16, .ro, 0x0, [], false⟩
/-- SNS_ENV_n, 0x32_0020 + n × 0x40, per sense channel, n = 0–23. -/
def Regs.SNS_ENV_n : RegPlace := ⟨0x320020, 0x40, 24, 0x0, 1⟩
def F.SNS_ENV_n_SEQ : Field := ⟨Regs.SNS_ENV_n, 24, 8, .ro, 0x0, [], false⟩
def F.SNS_ENV_n_NOT_SETTLED : Field := ⟨Regs.SNS_ENV_n, 16, 1, .rl, 0x1, [], false⟩
def F.SNS_ENV_n_ENV : Field := ⟨Regs.SNS_ENV_n, 0, 16, .ro, 0x0, [], false⟩
/-- SNS_LI_n, 0x32_0024 + n × 0x40, per sense channel, n = 0–23. -/
def Regs.SNS_LI_n : RegPlace := ⟨0x320024, 0x40, 24, 0x0, 1⟩
def F.SNS_LI_n_I : Field := ⟨Regs.SNS_LI_n, 16, 16, .ro, 0x0, [], false⟩
def F.SNS_LI_n_Q : Field := ⟨Regs.SNS_LI_n, 0, 16, .ro, 0x0, [], false⟩
/-- SNS_LI_STATUS_n, 0x32_0028 + n × 0x40, per sense channel, n = 0–23. -/
def Regs.SNS_LI_STATUS_n : RegPlace := ⟨0x320028, 0x40, 24, 0x0, 1⟩
def F.SNS_LI_STATUS_n_SEQ : Field := ⟨Regs.SNS_LI_STATUS_n, 24, 8, .ro, 0x0, [], false⟩
def F.SNS_LI_STATUS_n_NOT_SETTLED : Field := ⟨Regs.SNS_LI_STATUS_n, 16, 1, .rl, 0x1, [], false⟩
/-- SNS_SYNC, 0x32_0F00, device. -/
def Regs.SNS_SYNC : RegPlace := ⟨0x320f00, 0x0, 1, 0x0, 1⟩
def F.SNS_SYNC_MASK : Field := ⟨Regs.SNS_SYNC, 0, 24, .ws, 0x0, [], false⟩

/-! Registers of spec/15_observability.md. -/

/-- CNT_LO_i, 0x38_0000 + 8i, device, i = 0–2,047. -/
def Regs.CNT_LO_i : RegPlace := ⟨0x380000, 0x8, 2048, 0x0, 1⟩
def F.CNT_LO_i_LO : Field := ⟨Regs.CNT_LO_i, 0, 32, .ro, 0x0, [], false⟩
/-- CNT_HI_i, 0x38_0004 + 8i, device, i = 0–2,047. -/
def Regs.CNT_HI_i : RegPlace := ⟨0x380004, 0x8, 2048, 0x0, 1⟩
def F.CNT_HI_i_HI : Field := ⟨Regs.CNT_HI_i, 0, 16, .ro, 0x0, [], false⟩
/-- CNT_SLOT_s, 0x38_4000 + 4s, device, s = 0–31. -/
def Regs.CNT_SLOT_s : RegPlace := ⟨0x384000, 0x4, 32, 0x0, 1⟩
def F.CNT_SLOT_s_EN : Field := ⟨Regs.CNT_SLOT_s, 31, 1, .rw, 0x0, [], false⟩
def F.CNT_SLOT_s_K : Field := ⟨Regs.CNT_SLOT_s, 24, 6, .rw, 0x10, [], false⟩
def F.CNT_SLOT_s_COUNTER : Field := ⟨Regs.CNT_SLOT_s, 0, 11, .rw, 0x0, [], false⟩
/-- CNT_THR_s, 0x38_4100 + 4s, device, s = 0–31. -/
def Regs.CNT_THR_s : RegPlace := ⟨0x384100, 0x4, 32, 0x0, 1⟩
def F.CNT_THR_s_EN : Field := ⟨Regs.CNT_THR_s, 31, 1, .rw, 0x0, [], false⟩
def F.CNT_THR_s_SOURCE : Field := ⟨Regs.CNT_THR_s, 24, 4, .rw, 0x0, [], false⟩
def F.CNT_THR_s_INSTANCE : Field := ⟨Regs.CNT_THR_s, 16, 5, .rw, 0x0, [], false⟩
def F.CNT_THR_s_N : Field := ⟨Regs.CNT_THR_s, 0, 16, .rw, 0x0, [], false⟩
/-- CNT_BER, 0x08_0E40, per line lane, lane n at +n × 0x1_0000. -/
def Regs.CNT_BER : RegPlace := ⟨0x80e40, 0x10000, 8, 0x0, 1⟩
def F.CNT_BER_SEQ : Field := ⟨Regs.CNT_BER, 24, 8, .ro, 0x0, [], false⟩
def F.CNT_BER_NA : Field := ⟨Regs.CNT_BER, 17, 1, .ro, 0x1, [], false⟩
def F.CNT_BER_UNDECODED : Field := ⟨Regs.CNT_BER, 16, 1, .ro, 0x0, [], false⟩
def F.CNT_BER_LOG : Field := ⟨Regs.CNT_BER, 0, 16, .ro, 0x0, [], false⟩
/-- SNAP_b_LO_i, 0x3C_0000 + b × 0x4000 + 8i, device, b = 0–1, i = 0–2,047. -/
def Regs.SNAP_b_LO_i : RegPlace := ⟨0x3c0000, 0x4000, 2, 0x8, 2048⟩
def F.SNAP_b_LO_i_LO : Field := ⟨Regs.SNAP_b_LO_i, 0, 32, .ro, 0x0, [], false⟩
/-- SNAP_b_HI_i, 0x3C_0004 + b × 0x4000 + 8i, device, b = 0–1, i = 0–2,047. -/
def Regs.SNAP_b_HI_i : RegPlace := ⟨0x3c0004, 0x4000, 2, 0x8, 2048⟩
def F.SNAP_b_HI_i_HI : Field := ⟨Regs.SNAP_b_HI_i, 0, 16, .ro, 0x0, [], false⟩
/-- SNAP_HDR_b_w, 0x3C_8000 + b × 0x200 + 4w, device, b = 0–1, w = 0–127. -/
def Regs.SNAP_HDR_b_w : RegPlace := ⟨0x3c8000, 0x200, 2, 0x4, 128⟩
def F.SNAP_HDR_b_w_WORD : Field := ⟨Regs.SNAP_HDR_b_w, 0, 32, .ro, 0x0, [], false⟩
/-- SNAP_CTRL, 0x3C_8400, device. -/
def Regs.SNAP_CTRL : RegPlace := ⟨0x3c8400, 0x0, 1, 0x0, 1⟩
def F.SNAP_CTRL_TAKE : Field := ⟨Regs.SNAP_CTRL, 4, 1, .ws, 0x0, [], false⟩
def F.SNAP_CTRL_FLOW_IMG : Field := ⟨Regs.SNAP_CTRL, 3, 1, .rw, 0x0, [], false⟩
def F.SNAP_CTRL_ACK_REQ : Field := ⟨Regs.SNAP_CTRL, 2, 1, .rw, 0x0, [], false⟩
def F.SNAP_CTRL_ACK_1 : Field := ⟨Regs.SNAP_CTRL, 1, 1, .ws, 0x0, [], false⟩
def F.SNAP_CTRL_ACK_0 : Field := ⟨Regs.SNAP_CTRL, 0, 1, .ws, 0x0, [], false⟩
/-- SNAP_STATUS, 0x3C_8404, device. -/
def Regs.SNAP_STATUS : RegPlace := ⟨0x3c8404, 0x0, 1, 0x0, 1⟩
def F.SNAP_STATUS_SEQ : Field := ⟨Regs.SNAP_STATUS, 16, 16, .ro, 0x0, [], false⟩
def F.SNAP_STATUS_FULL_1 : Field := ⟨Regs.SNAP_STATUS, 3, 1, .rl, 0x0, [], false⟩
def F.SNAP_STATUS_FULL_0 : Field := ⟨Regs.SNAP_STATUS, 2, 1, .rl, 0x0, [], false⟩
def F.SNAP_STATUS_COPYING : Field := ⟨Regs.SNAP_STATUS, 1, 1, .rl, 0x0, [], false⟩
def F.SNAP_STATUS_LAST : Field := ⟨Regs.SNAP_STATUS, 0, 1, .ro, 0x1, [], false⟩
/-- FLOW_GLOBAL, 0x34_0000, device. -/
def Regs.FLOW_GLOBAL : RegPlace := ⟨0x340000, 0x0, 1, 0x0, 1⟩
def F.FLOW_GLOBAL_GO_GROUP : Field := ⟨Regs.FLOW_GLOBAL, 28, 4, .rw, 0x0, [], false⟩
def F.FLOW_GLOBAL_GIANT_MAX : Field := ⟨Regs.FLOW_GLOBAL, 0, 16, .rs, 0x2400, [], false⟩
/-- FLOW_AGE, 0x34_0004, device. -/
def Regs.FLOW_AGE : RegPlace := ⟨0x340004, 0x0, 1, 0x0, 1⟩
def F.FLOW_AGE_AGE_LIMIT : Field := ⟨Regs.FLOW_AGE, 0, 15, .rs, 0x4000, [], false⟩
/-- FLOW_SEED, 0x34_0008, device. -/
def Regs.FLOW_SEED : RegPlace := ⟨0x340008, 0x0, 1, 0x0, 1⟩
def F.FLOW_SEED_SEED : Field := ⟨Regs.FLOW_SEED, 0, 32, .rs, 0x0, [], false⟩
/-- FLOW_STATUS, 0x34_0010, device. -/
def Regs.FLOW_STATUS : RegPlace := ⟨0x340010, 0x0, 1, 0x0, 1⟩
def F.FLOW_STATUS_FULL : Field := ⟨Regs.FLOW_STATUS, 31, 1, .rl, 0x0, [], false⟩
def F.FLOW_STATUS_IMAGE_LOCKED : Field := ⟨Regs.FLOW_STATUS, 30, 1, .rl, 0x0, [], false⟩
def F.FLOW_STATUS_IMAGE_VALID : Field := ⟨Regs.FLOW_STATUS, 29, 1, .rl, 0x0, [], false⟩
def F.FLOW_STATUS_FREE : Field := ⟨Regs.FLOW_STATUS, 0, 15, .ro, 0x4000, [], false⟩
/-- FLOW_IMAGE, 0x34_0014, device. -/
def Regs.FLOW_IMAGE : RegPlace := ⟨0x340014, 0x0, 1, 0x0, 1⟩
def F.FLOW_IMAGE_SEQ : Field := ⟨Regs.FLOW_IMAGE, 16, 16, .ro, 0x0, [], false⟩
def F.FLOW_IMAGE_RECORDS : Field := ⟨Regs.FLOW_IMAGE, 0, 15, .ro, 0x0, [], false⟩
/-- FLOW_CFG_p, 0x34_0100 + 4p, per port, p = 0–7; GO group of port p. -/
def Regs.FLOW_CFG_p : RegPlace := ⟨0x340100, 0x4, 8, 0x0, 1⟩
def F.FLOW_CFG_p_RX_EN : Field := ⟨Regs.FLOW_CFG_p, 12, 1, .rs, 0x1, [], false⟩
def F.FLOW_CFG_p_RX_KEY : Field := ⟨Regs.FLOW_CFG_p, 8, 4, .rs, 0xf, [], false⟩
def F.FLOW_CFG_p_TX_EN : Field := ⟨Regs.FLOW_CFG_p, 4, 1, .rs, 0x1, [], false⟩
def F.FLOW_CFG_p_TX_KEY : Field := ⟨Regs.FLOW_CFG_p, 0, 4, .rs, 0xf, [], false⟩

/-! Registers of spec/16_management_and_command_rings.md. -/

/-- REGIF_CTRL, 0x01_0000, device. -/
def Regs.REGIF_CTRL : RegPlace := ⟨0x10000, 0x0, 1, 0x0, 1⟩
def F.REGIF_CTRL_CRC_SPI : Field := ⟨Regs.REGIF_CTRL, 1, 1, .rw, 0x0, [], false⟩
def F.REGIF_CTRL_PEC_A : Field := ⟨Regs.REGIF_CTRL, 0, 1, .rw, 0x0, [], false⟩
/-- RING_LAYOUT, 0x01_0100, device. -/
def Regs.RING_LAYOUT : RegPlace := ⟨0x10100, 0x0, 1, 0x0, 1⟩
def F.RING_LAYOUT_CMIS_EN : Field := ⟨Regs.RING_LAYOUT, 31, 1, .w1, 0x0, [], false⟩
def F.RING_LAYOUT_EVT_SZ : Field := ⟨Regs.RING_LAYOUT, 28, 3, .w1, 0x6, [], false⟩
def F.RING_LAYOUT_CPL_SZ : Field := ⟨Regs.RING_LAYOUT, 24, 3, .w1, 0x4, [], false⟩
def F.RING_LAYOUT_CMD_SZ : Field := ⟨Regs.RING_LAYOUT, 20, 3, .w1, 0x4, [], false⟩
def F.RING_LAYOUT_EVT_BASE : Field := ⟨Regs.RING_LAYOUT, 12, 6, .w1, 0x34, [], false⟩
def F.RING_LAYOUT_CPL_BASE : Field := ⟨Regs.RING_LAYOUT, 6, 6, .w1, 0x3c, [], false⟩
def F.RING_LAYOUT_CMD_BASE : Field := ⟨Regs.RING_LAYOUT, 0, 6, .w1, 0x30, [], false⟩
/-- DB_CMD, 0x01_0200, device. -/
def Regs.DB_CMD : RegPlace := ⟨0x10200, 0x0, 1, 0x0, 1⟩
def F.DB_CMD_PROD : Field := ⟨Regs.DB_CMD, 0, 16, .rw, 0x0, [], false⟩
/-- DB_CPL_ACK, 0x01_0204, device. -/
def Regs.DB_CPL_ACK : RegPlace := ⟨0x10204, 0x0, 1, 0x0, 1⟩
def F.DB_CPL_ACK_ACK : Field := ⟨Regs.DB_CPL_ACK, 0, 16, .rw, 0x0, [], false⟩
/-- DB_EVT_ACK, 0x01_0208, device. -/
def Regs.DB_EVT_ACK : RegPlace := ⟨0x10208, 0x0, 1, 0x0, 1⟩
def F.DB_EVT_ACK_ACK : Field := ⟨Regs.DB_EVT_ACK, 0, 16, .rw, 0x0, [], false⟩
/-- RING_CMD_CONS, 0x01_0210, device. -/
def Regs.RING_CMD_CONS : RegPlace := ⟨0x10210, 0x0, 1, 0x0, 1⟩
def F.RING_CMD_CONS_CONS : Field := ⟨Regs.RING_CMD_CONS, 0, 16, .ro, 0x0, [], false⟩
/-- RING_CPL_PROD, 0x01_0214, device. -/
def Regs.RING_CPL_PROD : RegPlace := ⟨0x10214, 0x0, 1, 0x0, 1⟩
def F.RING_CPL_PROD_PROD : Field := ⟨Regs.RING_CPL_PROD, 0, 16, .ro, 0x0, [], false⟩
/-- RING_EVT_PROD, 0x01_0218, device. -/
def Regs.RING_EVT_PROD : RegPlace := ⟨0x10218, 0x0, 1, 0x0, 1⟩
def F.RING_EVT_PROD_PROD : Field := ⟨Regs.RING_EVT_PROD, 0, 16, .ro, 0x0, [], false⟩
/-- RING_STATUS, 0x01_0220, device. -/
def Regs.RING_STATUS : RegPlace := ⟨0x10220, 0x0, 1, 0x0, 1⟩
def F.RING_STATUS_EVT_LOST : Field := ⟨Regs.RING_STATUS, 16, 16, .ro, 0x0, [], false⟩
def F.RING_STATUS_IN_PROGRESS : Field := ⟨Regs.RING_STATUS, 8, 6, .ro, 0x0, [], false⟩
def F.RING_STATUS_RESTARTING : Field := ⟨Regs.RING_STATUS, 1, 1, .rl, 0x0, [], false⟩
def F.RING_STATUS_READY : Field := ⟨Regs.RING_STATUS, 0, 1, .rl, 0x0, [], false⟩
/-- RING_INT_STATUS, 0x01_0234, device. -/
def Regs.RING_INT_STATUS : RegPlace := ⟨0x10234, 0x0, 1, 0x0, 1⟩
def F.RING_INT_STATUS_CEIL : Field := ⟨Regs.RING_INT_STATUS, 16, 1, .rl, 0x0, [], false⟩
def F.RING_INT_STATUS_FLOW_FULL : Field := ⟨Regs.RING_INT_STATUS, 15, 1, .rl, 0x0, [], false⟩
def F.RING_INT_STATUS_LOOP_FAULT : Field := ⟨Regs.RING_INT_STATUS, 14, 1, .rl, 0x0, [], false⟩
def F.RING_INT_STATUS_SD : Field := ⟨Regs.RING_INT_STATUS, 13, 1, .rl, 0x0, [], false⟩
def F.RING_INT_STATUS_PORT_NOT_UP : Field := ⟨Regs.RING_INT_STATUS, 12, 1, .rl, 0x0, [], false⟩
def F.RING_INT_STATUS_HOST_LOS : Field := ⟨Regs.RING_INT_STATUS, 11, 1, .rl, 0x0, [], false⟩
def F.RING_INT_STATUS_LINE_LOS : Field := ⟨Regs.RING_INT_STATUS, 10, 1, .rl, 0x0, [], false⟩
def F.RING_INT_STATUS_THERMAL : Field := ⟨Regs.RING_INT_STATUS, 9, 1, .rl, 0x0, [], false⟩
def F.RING_INT_STATUS_SUPPLY : Field := ⟨Regs.RING_INT_STATUS, 8, 1, .rl, 0x0, [], false⟩
def F.RING_INT_STATUS_EVT_LOST : Field := ⟨Regs.RING_INT_STATUS, 2, 1, .rl, 0x0, [], false⟩
def F.RING_INT_STATUS_EVT : Field := ⟨Regs.RING_INT_STATUS, 1, 1, .rl, 0x0, [], false⟩
def F.RING_INT_STATUS_CPL : Field := ⟨Regs.RING_INT_STATUS, 0, 1, .rl, 0x0, [], false⟩
/-- RING_INT_EN, 0x01_0230, device. -/
def Regs.RING_INT_EN : RegPlace := ⟨0x10230, 0x0, 1, 0x0, 1⟩
def F.RING_INT_EN_MASK : Field := ⟨Regs.RING_INT_EN, 8, 9, .rw, 0x1ff, [], false⟩

/-! Registers of spec/17_register_interface.md. -/

/-- ID_PART, 0x00_0000, device. -/
def Regs.ID_PART : RegPlace := ⟨0x0, 0x0, 1, 0x0, 1⟩
def F.ID_PART_PART : Field := ⟨Regs.ID_PART, 0, 16, .ro, 0x8320, [], false⟩
/-- ID_STEP, 0x00_0004, device. -/
def Regs.ID_STEP : RegPlace := ⟨0x4, 0x0, 1, 0x0, 1⟩
def F.ID_STEP_ROM_VER : Field := ⟨Regs.ID_STEP, 16, 16, .ro, 0x100, [], false⟩
def F.ID_STEP_STEP : Field := ⟨Regs.ID_STEP, 0, 8, .ro, 0xa1, [], false⟩
/-- ID_DEV_LO, 0x00_0008, device. -/
def Regs.ID_DEV_LO : RegPlace := ⟨0x8, 0x0, 1, 0x0, 1⟩
def F.ID_DEV_LO_ID_LO : Field := ⟨Regs.ID_DEV_LO, 0, 32, .ro, 0x0, [], false⟩
/-- ID_DEV_HI, 0x00_000C, device. -/
def Regs.ID_DEV_HI : RegPlace := ⟨0xc, 0x0, 1, 0x0, 1⟩
def F.ID_DEV_HI_ID_HI : Field := ⟨Regs.ID_DEV_HI, 0, 32, .ro, 0x0, [], false⟩
/-- ID_CAPS, 0x00_0010, device. -/
def Regs.ID_CAPS : RegPlace := ⟨0x10, 0x0, 1, 0x0, 1⟩
def F.ID_CAPS_CMIS : Field := ⟨Regs.ID_CAPS, 7, 1, .ro, 0x1, [], false⟩
def F.ID_CAPS_FLOW : Field := ⟨Regs.ID_CAPS, 6, 1, .ro, 0x1, [], false⟩
def F.ID_CAPS_FORWARDED : Field := ⟨Regs.ID_CAPS, 5, 1, .ro, 0x1, [], false⟩
def F.ID_CAPS_INNER : Field := ⟨Regs.ID_CAPS, 4, 1, .ro, 0x1, [], false⟩
def F.ID_CAPS_LOADING : Field := ⟨Regs.ID_CAPS, 3, 1, .ro, 0x1, [], false⟩
def F.ID_CAPS_AUTH : Field := ⟨Regs.ID_CAPS, 2, 1, .ro, 0x1, [], false⟩
def F.ID_CAPS_CUE_AGREE : Field := ⟨Regs.ID_CAPS, 1, 1, .ro, 0x1, [], false⟩
def F.ID_CAPS_GATHERER : Field := ⟨Regs.ID_CAPS, 0, 1, .ro, 0x1, [], false⟩
/-- ID_COUNTS, 0x00_0014, device. -/
def Regs.ID_COUNTS : RegPlace := ⟨0x14, 0x0, 1, 0x0, 1⟩
def F.ID_COUNTS_LINE_LANES : Field := ⟨Regs.ID_COUNTS, 24, 8, .ro, 0x8, [], false⟩
def F.ID_COUNTS_HOST_LANES : Field := ⟨Regs.ID_COUNTS, 16, 8, .ro, 0x10, [], false⟩
def F.ID_COUNTS_LOOPS : Field := ⟨Regs.ID_COUNTS, 8, 8, .ro, 0x20, [], false⟩
def F.ID_COUNTS_CUES : Field := ⟨Regs.ID_COUNTS, 0, 8, .ro, 0x40, [], false⟩
/-- REGIF_ERR_COUNT, 0x00_0100, device. -/
def Regs.REGIF_ERR_COUNT : RegPlace := ⟨0x100, 0x0, 1, 0x0, 1⟩
def F.REGIF_ERR_COUNT_COUNT : Field := ⟨Regs.REGIF_ERR_COUNT, 0, 32, .ro, 0x0, [], false⟩
/-- REGIF_COLLIDE_COUNT, 0x00_0104, device. -/
def Regs.REGIF_COLLIDE_COUNT : RegPlace := ⟨0x104, 0x0, 1, 0x0, 1⟩
def F.REGIF_COLLIDE_COUNT_COUNT : Field := ⟨Regs.REGIF_COLLIDE_COUNT, 0, 32, .ro, 0x0, [], false⟩
/-- TMR_FIX_COUNT, 0x00_0108, device. -/
def Regs.TMR_FIX_COUNT : RegPlace := ⟨0x108, 0x0, 1, 0x0, 1⟩
def F.TMR_FIX_COUNT_COUNT : Field := ⟨Regs.TMR_FIX_COUNT, 0, 32, .ro, 0x0, [], false⟩
/-- REGIF_ERR_INFO, 0x00_0110, device. -/
def Regs.REGIF_ERR_INFO : RegPlace := ⟨0x110, 0x0, 1, 0x0, 1⟩
def F.REGIF_ERR_INFO_VALID : Field := ⟨Regs.REGIF_ERR_INFO, 31, 1, .rh, 0x0, [], false⟩
def F.REGIF_ERR_INFO_INTERFACE : Field := ⟨Regs.REGIF_ERR_INFO, 28, 3, .ro, 0x0, [], false⟩
def F.REGIF_ERR_INFO_CAUSE : Field := ⟨Regs.REGIF_ERR_INFO, 24, 4, .ro, 0x0, [], false⟩
def F.REGIF_ERR_INFO_ADDR : Field := ⟨Regs.REGIF_ERR_INFO, 0, 24, .ro, 0x0, [], false⟩
/-- GO_FIRE, 0x03_0000, device. -/
def Regs.GO_FIRE : RegPlace := ⟨0x30000, 0x0, 1, 0x0, 1⟩
def F.GO_FIRE_MASK : Field := ⟨Regs.GO_FIRE, 0, 16, .ws, 0x0, [], false⟩
/-- GO_DISCARD, 0x03_0004, device. -/
def Regs.GO_DISCARD : RegPlace := ⟨0x30004, 0x0, 1, 0x0, 1⟩
def F.GO_DISCARD_MASK : Field := ⟨Regs.GO_DISCARD, 0, 16, .ws, 0x0, [], false⟩
/-- GO_STATUS_g, 0x03_0040 + 4g, device, g = 0–15. -/
def Regs.GO_STATUS_g : RegPlace := ⟨0x30040, 0x4, 16, 0x0, 1⟩
def F.GO_STATUS_g_SUBCODE : Field := ⟨Regs.GO_STATUS_g, 16, 16, .ro, 0x0, [], false⟩
def F.GO_STATUS_g_CODE : Field := ⟨Regs.GO_STATUS_g, 0, 16, .ro, 0x0, [], false⟩
/-- GO_INFO_g, 0x03_0080 + 4g, device, g = 0–15. -/
def Regs.GO_INFO_g : RegPlace := ⟨0x30080, 0x4, 16, 0x0, 1⟩
def F.GO_INFO_g_FIRES : Field := ⟨Regs.GO_INFO_g, 16, 16, .ro, 0x0, [], false⟩
def F.GO_INFO_g_REJECTS : Field := ⟨Regs.GO_INFO_g, 8, 8, .ro, 0x0, [], false⟩
def F.GO_INFO_g_LAST_CUE : Field := ⟨Regs.GO_INFO_g, 0, 1, .ro, 0x0, [], false⟩
/-- GO_FAIL_ADDR_g, 0x03_00C0 + 4g, device, g = 0–15. -/
def Regs.GO_FAIL_ADDR_g : RegPlace := ⟨0x300c0, 0x4, 16, 0x0, 1⟩
def F.GO_FAIL_ADDR_g_ADDR : Field := ⟨Regs.GO_FAIL_ADDR_g, 0, 24, .ro, 0x0, [], false⟩

/-! Registers of spec/18_memories_and_ecc.md. -/

/-- MEM_CTRL, 0x40_0000, device. -/
def Regs.MEM_CTRL : RegPlace := ⟨0x400000, 0x0, 1, 0x0, 1⟩
def F.MEM_CTRL_AUTO_REMAP : Field := ⟨Regs.MEM_CTRL, 1, 1, .rw, 0x1, [], false⟩
def F.MEM_CTRL_SCRUB_EN : Field := ⟨Regs.MEM_CTRL, 0, 1, .rw, 0x1, [], false⟩
/-- MEM_ERR_INFO, 0x40_0010, device. -/
def Regs.MEM_ERR_INFO : RegPlace := ⟨0x400010, 0x0, 1, 0x0, 1⟩
def F.MEM_ERR_INFO_VALID : Field := ⟨Regs.MEM_ERR_INFO, 31, 1, .rh, 0x0, [], false⟩
def F.MEM_ERR_INFO_SCRUB : Field := ⟨Regs.MEM_ERR_INFO, 30, 1, .ro, 0x0, [], false⟩
def F.MEM_ERR_INFO_BANK : Field := ⟨Regs.MEM_ERR_INFO, 16, 6, .ro, 0x0, [], false⟩
def F.MEM_ERR_INFO_ADDR : Field := ⟨Regs.MEM_ERR_INFO, 0, 16, .ro, 0x0, [], false⟩
/-- MEM_LUT_STATUS, 0x40_0020, device. -/
def Regs.MEM_LUT_STATUS : RegPlace := ⟨0x400020, 0x0, 1, 0x0, 1⟩
def F.MEM_LUT_STATUS_RETRAIN : Field := ⟨Regs.MEM_LUT_STATUS, 0, 16, .rl, 0x0, [], false⟩
/-- MEM_BIST_STATUS, 0x40_0030, device. -/
def Regs.MEM_BIST_STATUS : RegPlace := ⟨0x400030, 0x0, 1, 0x0, 1⟩
def F.MEM_BIST_STATUS_PASS : Field := ⟨Regs.MEM_BIST_STATUS, 31, 1, .ro, 0x0, [], false⟩
def F.MEM_BIST_STATUS_MACRO : Field := ⟨Regs.MEM_BIST_STATUS, 8, 4, .ro, 0x0, [], false⟩
def F.MEM_BIST_STATUS_CASE : Field := ⟨Regs.MEM_BIST_STATUS, 4, 2, .ro, 0x0, [], false⟩
def F.MEM_BIST_STATUS_TRIPLET : Field := ⟨Regs.MEM_BIST_STATUS, 0, 1, .ro, 0x0, [], false⟩
/-- MEM_LAP_k, 0x40_0100 + 8k, device, k = 0–63. -/
def Regs.MEM_LAP_k : RegPlace := ⟨0x400100, 0x8, 64, 0x0, 1⟩
def F.MEM_LAP_k_LAP : Field := ⟨Regs.MEM_LAP_k, 0, 32, .ro, 0x0, [], false⟩
/-- MEM_BANK_STATUS_k, 0x40_0104 + 8k, device, k = 0–63. -/
def Regs.MEM_BANK_STATUS_k : RegPlace := ⟨0x400104, 0x8, 64, 0x0, 1⟩
def F.MEM_BANK_STATUS_k_REMAP_USED : Field := ⟨Regs.MEM_BANK_STATUS_k, 24, 4, .ro, 0x0, [], false⟩
def F.MEM_BANK_STATUS_k_REMAP_FULL : Field := ⟨Regs.MEM_BANK_STATUS_k, 16, 1, .rl, 0x0, [], false⟩
def F.MEM_BANK_STATUS_k_POISONED : Field := ⟨Regs.MEM_BANK_STATUS_k, 0, 16, .ro, 0x0, [], false⟩

/-! Registers of spec/19_faults_integrity_and_prompt_book.md. -/

/-- PB_CTRL, 0x44_0000, device. -/
def Regs.PB_CTRL : RegPlace := ⟨0x440000, 0x0, 1, 0x0, 1⟩
def F.PB_CTRL_GROUPS : Field := ⟨Regs.PB_CTRL, 1, 13, .rw, 0x1fdf, [], false⟩
def F.PB_CTRL_FLASH_COPY : Field := ⟨Regs.PB_CTRL, 0, 1, .rw, 0x1, [], false⟩
/-- PB_STATUS, 0x44_0004, device. -/
def Regs.PB_STATUS : RegPlace := ⟨0x440004, 0x0, 1, 0x0, 1⟩
def F.PB_STATUS_COPYING : Field := ⟨Regs.PB_STATUS, 26, 1, .rl, 0x0, [], false⟩
def F.PB_STATUS_HELD : Field := ⟨Regs.PB_STATUS, 24, 2, .ro, 0x0, [], false⟩
def F.PB_STATUS_NEXT_SEQ : Field := ⟨Regs.PB_STATUS, 0, 24, .ro, 0x0, [], false⟩
/-- PB_SECTION_s, 0x44_0010 + 4s, device, s = 0–1. -/
def Regs.PB_SECTION_s : RegPlace := ⟨0x440010, 0x4, 2, 0x0, 1⟩
def F.PB_SECTION_s_VALID : Field := ⟨Regs.PB_SECTION_s, 31, 1, .rl, 0x0, [], false⟩
def F.PB_SECTION_s_TRIGGER : Field := ⟨Regs.PB_SECTION_s, 27, 4, .ro, 0x0, [], false⟩
def F.PB_SECTION_s_MARKER_SEQ : Field := ⟨Regs.PB_SECTION_s, 0, 24, .ro, 0x0, [], false⟩
/-- PB_STATS, 0x44_0020, device. -/
def Regs.PB_STATS : RegPlace := ⟨0x440020, 0x0, 1, 0x0, 1⟩
def F.PB_STATS_MISSED : Field := ⟨Regs.PB_STATS, 16, 16, .ro, 0x0, [], false⟩
def F.PB_STATS_COPIES : Field := ⟨Regs.PB_STATS, 0, 16, .ro, 0x0, [], false⟩

/-! Registers of spec/20_power_states_and_supplies.md. -/

/-- PWR_STATE, 0x02_0000, device. -/
def Regs.PWR_STATE : RegPlace := ⟨0x20000, 0x0, 1, 0x0, 1⟩
def F.PWR_STATE_LAST_WAKE : Field := ⟨Regs.PWR_STATE, 8, 4, .ro, 0x0, [], false⟩
def F.PWR_STATE_THERMAL_DARK : Field := ⟨Regs.PWR_STATE, 7, 1, .ro, 0x0, [], false⟩
def F.PWR_STATE_ENTERING : Field := ⟨Regs.PWR_STATE, 3, 1, .rl, 0x0, [], false⟩
def F.PWR_STATE_STATE : Field := ⟨Regs.PWR_STATE, 0, 2, .ro, 0x0, [], false⟩
/-- PWR_WAKE_CFG, 0x02_0004, device. -/
def Regs.PWR_WAKE_CFG : RegPlace := ⟨0x20004, 0x0, 1, 0x0, 1⟩
def F.PWR_WAKE_CFG_TIMER_EN : Field := ⟨Regs.PWR_WAKE_CFG, 2, 1, .rw, 0x0, [], false⟩
def F.PWR_WAKE_CFG_WAKE_EN : Field := ⟨Regs.PWR_WAKE_CFG, 1, 1, .rw, 0x0, [], false⟩
def F.PWR_WAKE_CFG_STAGE_DOOR_EN : Field := ⟨Regs.PWR_WAKE_CFG, 0, 1, .rw, 0x1, [], false⟩
/-- PWR_TIMER, 0x02_0008, device. -/
def Regs.PWR_TIMER : RegPlace := ⟨0x20008, 0x0, 1, 0x0, 1⟩
def F.PWR_TIMER_SECONDS : Field := ⟨Regs.PWR_TIMER, 0, 24, .rw, 0xe10, [], false⟩
/-- PWR_MON_STATUS, 0x02_0010, device. -/
def Regs.PWR_MON_STATUS : RegPlace := ⟨0x20010, 0x0, 1, 0x0, 1⟩
def F.PWR_MON_STATUS_IGNORED : Field := ⟨Regs.PWR_MON_STATUS, 8, 7, .ro, 0x0, [], false⟩
def F.PWR_MON_STATUS_BELOW_WARN : Field := ⟨Regs.PWR_MON_STATUS, 0, 7, .rl, 0x0, [], false⟩
/-- AVS_CTRL, 0x02_0300, device. -/
def Regs.AVS_CTRL : RegPlace := ⟨0x20300, 0x0, 1, 0x0, 1⟩
def F.AVS_CTRL_TEMP_COMP : Field := ⟨Regs.AVS_CTRL, 8, 1, .rw, 0x1, [], false⟩
def F.AVS_CTRL_MARGIN : Field := ⟨Regs.AVS_CTRL, 0, 4, .rw, 0x0, [], false⟩
/-- AVS_STATUS, 0x02_0304, device. -/
def Regs.AVS_STATUS : RegPlace := ⟨0x20304, 0x0, 1, 0x0, 1⟩
def F.AVS_STATUS_BIN : Field := ⟨Regs.AVS_STATUS, 29, 3, .ro, 0x0, [], false⟩
def F.AVS_STATUS_FAULT : Field := ⟨Regs.AVS_STATUS, 28, 1, .rl, 0x0, [], false⟩
def F.AVS_STATUS_SLEWING : Field := ⟨Regs.AVS_STATUS, 27, 1, .rl, 0x0, [], false⟩
def F.AVS_STATUS_TARGET : Field := ⟨Regs.AVS_STATUS, 16, 10, .ro, 0x2ee, [], false⟩
def F.AVS_STATUS_READBACK : Field := ⟨Regs.AVS_STATUS, 0, 10, .ro, 0x0, [], false⟩
/-- AVS_CURRENT, 0x02_0308, device. -/
def Regs.AVS_CURRENT : RegPlace := ⟨0x20308, 0x0, 1, 0x0, 1⟩
def F.AVS_CURRENT_CURRENT : Field := ⟨Regs.AVS_CURRENT, 0, 16, .ro, 0x0, [], false⟩
/-- THERM_CTRL, 0x02_0400, device. -/
def Regs.THERM_CTRL : RegPlace := ⟨0x20400, 0x0, 1, 0x0, 1⟩
def F.THERM_CTRL_WARN : Field := ⟨Regs.THERM_CTRL, 0, 8, .rw, 0x69, [], false⟩
/-- THERM_STATUS, 0x02_0404, device. -/
def Regs.THERM_STATUS : RegPlace := ⟨0x20404, 0x0, 1, 0x0, 1⟩
def F.THERM_STATUS_HOTTEST : Field := ⟨Regs.THERM_STATUS, 28, 4, .ro, 0x0, [], false⟩
def F.THERM_STATUS_WARN : Field := ⟨Regs.THERM_STATUS, 16, 1, .rl, 0x0, [], false⟩
def F.THERM_STATUS_MAX : Field := ⟨Regs.THERM_STATUS, 0, 16, .ro, 0x0, [], false⟩
/-- THERM_TEMP_s, 0x02_0410 + 4s, device, s = 0–11. -/
def Regs.THERM_TEMP_s : RegPlace := ⟨0x20410, 0x4, 12, 0x0, 1⟩
def F.THERM_TEMP_s_TEMP : Field := ⟨Regs.THERM_TEMP_s, 0, 16, .ro, 0x0, [], false⟩

/-! Registers of spec/21_resets_and_retention.md. -/

/-- RST_CAUSE, 0x02_0500, device. -/
def Regs.RST_CAUSE : RegPlace := ⟨0x20500, 0x0, 1, 0x0, 1⟩
def F.RST_CAUSE_RAIL : Field := ⟨Regs.RST_CAUSE, 20, 3, .ro, 0x0, [], false⟩
def F.RST_CAUSE_MGMT_CAUSE : Field := ⟨Regs.RST_CAUSE, 12, 4, .ro, 0x0, [], false⟩
def F.RST_CAUSE_KIND : Field := ⟨Regs.RST_CAUSE, 0, 4, .ro, 0x0, [], false⟩
/-- RST_COUNTS, 0x02_0504, device. -/
def Regs.RST_COUNTS : RegPlace := ⟨0x20504, 0x0, 1, 0x0, 1⟩
def F.RST_COUNTS_MGMT : Field := ⟨Regs.RST_COUNTS, 16, 16, .ro, 0x0, [], false⟩
def F.RST_COUNTS_WARM : Field := ⟨Regs.RST_COUNTS, 0, 16, .ro, 0x0, [], false⟩

/-! Registers of spec/22_security_life_cycle_and_firmware.md. -/

/-- LC_STATE, 0x04_0000, device. -/
def Regs.LC_STATE : RegPlace := ⟨0x40000, 0x0, 1, 0x0, 1⟩
def F.LC_STATE_SESSION : Field := ⟨Regs.LC_STATE, 9, 1, .rl, 0x0, [], false⟩
def F.LC_STATE_FIELD_DIAG : Field := ⟨Regs.LC_STATE, 8, 1, .rl, 0x0, [], false⟩
def F.LC_STATE_STATE : Field := ⟨Regs.LC_STATE, 0, 3, .ro, 0x0, [], true⟩
/-- SEC_OTP_STATUS, 0x04_0004, device. -/
def Regs.SEC_OTP_STATUS : RegPlace := ⟨0x40004, 0x0, 1, 0x0, 1⟩
def F.SEC_OTP_STATUS_SCORCHED : Field := ⟨Regs.SEC_OTP_STATUS, 14, 1, .ro, 0x0, [], true⟩
def F.SEC_OTP_STATUS_OWNER_PROG : Field := ⟨Regs.SEC_OTP_STATUS, 13, 1, .ro, 0x0, [], false⟩
def F.SEC_OTP_STATUS_SLOT_PROG : Field := ⟨Regs.SEC_OTP_STATUS, 11, 2, .ro, 0x0, [], false⟩
def F.SEC_OTP_STATUS_SLOT_REVOKED : Field := ⟨Regs.SEC_OTP_STATUS, 9, 2, .ro, 0x0, [], true⟩
def F.SEC_OTP_STATUS_ROLLBACK : Field := ⟨Regs.SEC_OTP_STATUS, 0, 6, .ro, 0x0, [], true⟩
/-- SEC_ALARM_CFG, 0x04_0010, device. -/
def Regs.SEC_ALARM_CFG : RegPlace := ⟨0x40010, 0x0, 1, 0x0, 1⟩
def F.SEC_ALARM_CFG_LOCK : Field := ⟨Regs.SEC_ALARM_CFG, 31, 1, .lk, 0x0, [], true⟩
def F.SEC_ALARM_CFG_AUTH_FAIL : Field := ⟨Regs.SEC_ALARM_CFG, 8, 2, .rw, 0x0, [], true⟩
def F.SEC_ALARM_CFG_DEBUG : Field := ⟨Regs.SEC_ALARM_CFG, 6, 2, .rw, 0x0, [], true⟩
def F.SEC_ALARM_CFG_TEMP : Field := ⟨Regs.SEC_ALARM_CFG, 4, 2, .rw, 0x0, [], true⟩
def F.SEC_ALARM_CFG_CGLITCH : Field := ⟨Regs.SEC_ALARM_CFG, 2, 2, .rw, 0x0, [], true⟩
def F.SEC_ALARM_CFG_VGLITCH : Field := ⟨Regs.SEC_ALARM_CFG, 0, 2, .rw, 0x0, [], true⟩
/-- SEC_ALARM_STATUS, 0x04_0014, device. -/
def Regs.SEC_ALARM_STATUS : RegPlace := ⟨0x40014, 0x0, 1, 0x0, 1⟩
def F.SEC_ALARM_STATUS_AUTH_FAILS : Field := ⟨Regs.SEC_ALARM_STATUS, 24, 4, .ro, 0x0, [], false⟩
def F.SEC_ALARM_STATUS_SOURCES : Field := ⟨Regs.SEC_ALARM_STATUS, 16, 5, .ro, 0x0, [], false⟩
def F.SEC_ALARM_STATUS_IN_FORCE : Field := ⟨Regs.SEC_ALARM_STATUS, 8, 2, .ro, 0x0, [], true⟩
def F.SEC_ALARM_STATUS_SECRET_HIDDEN : Field := ⟨Regs.SEC_ALARM_STATUS, 2, 1, .rl, 0x0, [], false⟩
def F.SEC_ALARM_STATUS_DECRYPT_LOCKED : Field := ⟨Regs.SEC_ALARM_STATUS, 1, 1, .rl, 0x0, [], false⟩
def F.SEC_ALARM_STATUS_ALARM_ASSERTED : Field := ⟨Regs.SEC_ALARM_STATUS, 0, 1, .rl, 0x0, [], false⟩
/-- SEC_FW_STATUS, 0x04_0020, device. -/
def Regs.SEC_FW_STATUS : RegPlace := ⟨0x40020, 0x0, 1, 0x0, 1⟩
def F.SEC_FW_STATUS_SEC_VER : Field := ⟨Regs.SEC_FW_STATUS, 24, 8, .ro, 0x0, [], false⟩
def F.SEC_FW_STATUS_BOOT_FAIL : Field := ⟨Regs.SEC_FW_STATUS, 16, 5, .ro, 0x0, [], false⟩
def F.SEC_FW_STATUS_RECOVERY : Field := ⟨Regs.SEC_FW_STATUS, 7, 1, .rl, 0x0, [], false⟩
def F.SEC_FW_STATUS_UPDATE_OPEN : Field := ⟨Regs.SEC_FW_STATUS, 6, 1, .rl, 0x0, [], false⟩
def F.SEC_FW_STATUS_TRIAL : Field := ⟨Regs.SEC_FW_STATUS, 5, 1, .rl, 0x0, [], false⟩
def F.SEC_FW_STATUS_PENDING_VALID : Field := ⟨Regs.SEC_FW_STATUS, 4, 1, .rl, 0x0, [], false⟩
def F.SEC_FW_STATUS_PENDING : Field := ⟨Regs.SEC_FW_STATUS, 1, 1, .ro, 0x0, [], false⟩
def F.SEC_FW_STATUS_RUNNING : Field := ⟨Regs.SEC_FW_STATUS, 0, 1, .ro, 0x0, [], false⟩

/-! Registers of spec/23_self_test_and_boundary_scan.md. -/

/-- TST_STATUS, 0x48_0000, device; life-cycle gated under R413. -/
def Regs.TST_STATUS : RegPlace := ⟨0x480000, 0x0, 1, 0x0, 1⟩
def F.TST_STATUS_INSTANCE : Field := ⟨Regs.TST_STATUS, 24, 8, .ro, 0x0, [], false⟩
def F.TST_STATUS_CLASS : Field := ⟨Regs.TST_STATUS, 20, 4, .ro, 0x0, [], false⟩
def F.TST_STATUS_RESULT : Field := ⟨Regs.TST_STATUS, 16, 2, .ro, 0x0, [], false⟩
def F.TST_STATUS_CAUSE : Field := ⟨Regs.TST_STATUS, 13, 3, .ro, 0x0, [], false⟩
def F.TST_STATUS_TEST : Field := ⟨Regs.TST_STATUS, 8, 4, .ro, 0x0, [], false⟩
def F.TST_STATUS_LIMIT_OK : Field := ⟨Regs.TST_STATUS, 1, 1, .rl, 0x0, [], false⟩
def F.TST_STATUS_RUNNING : Field := ⟨Regs.TST_STATUS, 0, 1, .rl, 0x0, [], false⟩
/-- TST_FENCED, 0x48_0004, device; life-cycle gated under R413. -/
def Regs.TST_FENCED : RegPlace := ⟨0x480004, 0x0, 1, 0x0, 1⟩
def F.TST_FENCED_PORTS : Field := ⟨Regs.TST_FENCED, 24, 8, .rl, 0x0, [], false⟩
def F.TST_FENCED_LINE : Field := ⟨Regs.TST_FENCED, 16, 8, .rl, 0x0, [], false⟩
def F.TST_FENCED_HOST : Field := ⟨Regs.TST_FENCED, 0, 16, .rl, 0x0, [], false⟩

/-! The registers by chapter. -/
def regTable02_0 : List RegInfo :=
  [⟨Regs.CUE_LATCH, [F.CUE_LATCH_DIR, F.CUE_LATCH_PORT]⟩,
   ⟨Regs.CUE_HC_LO, [F.CUE_HC_LO_HC_LO]⟩,
   ⟨Regs.CUE_HC_HI, [F.CUE_HC_HI_HC_HI]⟩,
   ⟨Regs.CUE_SC_LO, [F.CUE_SC_LO_COUNT_LO]⟩,
   ⟨Regs.CUE_SC_HI, [F.CUE_SC_HI_EPOCH, F.CUE_SC_HI_COUNT_HI]⟩,
   ⟨Regs.CUE_SC_STATE, [F.CUE_SC_STATE_HC_ESTIMATED, F.CUE_SC_STATE_PAIRED, F.CUE_SC_STATE_FREEWHEEL]⟩,
   ⟨Regs.CUE_HC_UNCERT, [F.CUE_HC_UNCERT_UNCERT]⟩]
def regTable03_0 : List RegInfo :=
  [⟨Regs.PCS_PROFILE, [F.PCS_PROFILE_GO_GROUP, F.PCS_PROFILE_LINE_RATE, F.PCS_PROFILE_LINE_CODE, F.PCS_PROFILE_CLK_MODE]⟩,
   ⟨Regs.PCS_PORT_CTRL, [F.PCS_PORT_CTRL_GO_GROUP, F.PCS_PORT_CTRL_ADMIN_UP, F.PCS_PORT_CTRL_MODE, F.PCS_PORT_CTRL_WIDTH]⟩]
def regTable04_0 : List RegInfo :=
  [⟨Regs.LRX_GO, [F.LRX_GO_GO_GROUP]⟩,
   ⟨Regs.LRX_CTLE_CTRL, [F.LRX_CTLE_CTRL_HF_TARGET, F.LRX_CTLE_CTRL_MODE, F.LRX_CTLE_CTRL_MAX, F.LRX_CTLE_CTRL_MIN, F.LRX_CTLE_CTRL_CODE]⟩,
   ⟨Regs.LRX_CTLE_STATUS, [F.LRX_CTLE_STATUS_CODE, F.LRX_CTLE_STATUS_METRIC]⟩,
   ⟨Regs.LRX_VGA_CTRL, [F.LRX_VGA_CTRL_TARGET, F.LRX_VGA_CTRL_MODE, F.LRX_VGA_CTRL_CODE]⟩,
   ⟨Regs.LRX_VGA_STATUS, [F.LRX_VGA_STATUS_DEFERRED, F.LRX_VGA_STATUS_AT_LIMIT, F.LRX_VGA_STATUS_CODE, F.LRX_VGA_STATUS_LEVEL]⟩,
   ⟨Regs.LRX_SLICE_MON, [F.LRX_SLICE_MON_OOR_THR, F.LRX_SLICE_MON_GAIN_THR, F.LRX_SLICE_MON_OFS_THR, F.LRX_SLICE_MON_ENABLE]⟩,
   ⟨Regs.LRX_SLICE_STATUS, [F.LRX_SLICE_STATUS_SWAP_COUNT, F.LRX_SLICE_STATUS_NOSPARE, F.LRX_SLICE_STATUS_WINGS, F.LRX_SLICE_STATUS_FAILED_64, F.LRX_SLICE_STATUS_UNDERSTUDY]⟩,
   ⟨Regs.LRX_SLICE_FAILED_0, [F.LRX_SLICE_FAILED_0_FAILED]⟩,
   ⟨Regs.LRX_SLICE_FAILED_1, [F.LRX_SLICE_FAILED_1_FAILED]⟩,
   ⟨Regs.LRX_TR_CTRL, [F.LRX_TR_CTRL_KP, F.LRX_TR_CTRL_KI, F.LRX_TR_CTRL_LOCK_THR]⟩,
   ⟨Regs.LRX_TR_STATUS, [F.LRX_TR_STATUS_PI_CODE, F.LRX_TR_STATUS_FREQ]⟩,
   ⟨Regs.LRX_LOS_CTRL, [F.LRX_LOS_CTRL_RMS_THR, F.LRX_LOS_CTRL_RMS_EN, F.LRX_LOS_CTRL_ENV_EN, F.LRX_LOS_CTRL_ENV_THR]⟩]
def regTable04_1 : List RegInfo :=
  [⟨Regs.LRX_STATUS, [F.LRX_STATUS_LOL, F.LRX_STATUS_LOS, F.LRX_STATUS_LOS_RMS, F.LRX_STATUS_LOS_ENV, F.LRX_STATUS_CTLE_SEARCH]⟩,
   ⟨Regs.LRX_SPOT_CTRL, [F.LRX_SPOT_CTRL_START, F.LRX_SPOT_CTRL_SLICE, F.LRX_SPOT_CTRL_SOURCE]⟩,
   ⟨Regs.LRX_SPOT_STATUS, [F.LRX_SPOT_STATUS_LOS, F.LRX_SPOT_STATUS_FREEWHEEL, F.LRX_SPOT_STATUS_PARITY, F.LRX_SPOT_STATUS_SWAP, F.LRX_SPOT_STATUS_SOURCE, F.LRX_SPOT_STATUS_STATE]⟩]
def regTable05_0 : List RegInfo :=
  [⟨Regs.LEQ_CTRL, [F.LEQ_CTRL_LEVEL_A, F.LEQ_CTRL_MAIN, F.LEQ_CTRL_BLIND, F.LEQ_CTRL_LVL_EN, F.LEQ_CTRL_LFR_EN, F.LEQ_CTRL_PRECODE, F.LEQ_CTRL_DET, F.LEQ_CTRL_ADAPT_EN]⟩,
   ⟨Regs.LEQ_ADAPT, [F.LEQ_ADAPT_UPDATE_DIV, F.LEQ_ADAPT_FFE_MU, F.LEQ_ADAPT_CMA_MU, F.LEQ_ADAPT_DFE_MU, F.LEQ_ADAPT_OFS_MU, F.LEQ_ADAPT_LEAK]⟩,
   ⟨Regs.LEQ_FREEZE, [F.LEQ_FREEZE_TABLE, F.LEQ_FREEZE_LFR_GAIN, F.LEQ_FREEZE_OFFSETS, F.LEQ_FREEZE_DFE_2_4, F.LEQ_FREEZE_DFE_1, F.LEQ_FREEZE_FFE_POST, F.LEQ_FREEZE_FFE_MAIN, F.LEQ_FREEZE_FFE_PRE]⟩,
   ⟨Regs.LEQ_ACQ, [F.LEQ_ACQ_DD_WINDOWS, F.LEQ_ACQ_OUTLIER_THR]⟩,
   ⟨Regs.LEQ_STATUS, [F.LEQ_STATUS_OUTLIERS, F.LEQ_STATUS_VALID, F.LEQ_STATUS_WARM, F.LEQ_STATUS_TAP_SAT, F.LEQ_STATUS_STATE]⟩,
   ⟨Regs.LEQ_SNR_0, [F.LEQ_SNR_0_SNR_M1, F.LEQ_SNR_0_SNR_M3]⟩,
   ⟨Regs.LEQ_SNR_1, [F.LEQ_SNR_1_SNR_P3, F.LEQ_SNR_1_SNR_P1]⟩,
   ⟨Regs.LEQ_SNR_ALL, [F.LEQ_SNR_ALL_SNR]⟩,
   ⟨Regs.LEQ_LFR_GAIN, [F.LEQ_LFR_GAIN_G]⟩,
   ⟨Regs.LEQ_DFE_A, [F.LEQ_DFE_A_H2, F.LEQ_DFE_A_H1]⟩,
   ⟨Regs.LEQ_DFE_B, [F.LEQ_DFE_B_H4, F.LEQ_DFE_B_H3]⟩,
   ⟨Regs.LEQ_MET_CTRL, [F.LEQ_MET_CTRL_SEQ, F.LEQ_MET_CTRL_HOLD]⟩]
def regTable05_1 : List RegInfo :=
  [⟨Regs.LEQ_FFE_TAP_j, [F.LEQ_FFE_TAP_j_TAP]⟩,
   ⟨Regs.LEQ_OFS_j, [F.LEQ_OFS_j_OFS_ODD, F.LEQ_OFS_j_OFS_EVEN]⟩,
   ⟨Regs.LEQ_THR_CAL_c, [F.LEQ_THR_CAL_c_DTC_2, F.LEQ_THR_CAL_c_DTC_1, F.LEQ_THR_CAL_c_DTC_0]⟩,
   ⟨Regs.LEQ_HIST_b, [F.LEQ_HIST_b_COUNT]⟩,
   ⟨Regs.LEQ_DCOUNT_v, [F.LEQ_DCOUNT_v_COUNT]⟩]
def regTable06_0 : List RegInfo :=
  [⟨Regs.LTX_CTRL, [F.LTX_CTRL_MAIN, F.LTX_CTRL_IDLE, F.LTX_CTRL_PRECODE]⟩,
   ⟨Regs.LTX_SWING, [F.LTX_SWING_NOW, F.LTX_SWING_SWING]⟩,
   ⟨Regs.LTX_STATUS, [F.LTX_STATUS_SWAP_COUNT, F.LTX_STATUS_SEALED, F.LTX_STATUS_ACTIVE, F.LTX_STATUS_BURST, F.LTX_STATUS_IDLE]⟩,
   ⟨Regs.LTX_XA_STATUS, [F.LTX_XA_STATUS_RMS, F.LTX_XA_STATUS_ITER, F.LTX_XA_STATUS_REASON, F.LTX_XA_STATUS_STATE]⟩,
   ⟨Regs.LTX_FIR_j, [F.LTX_FIR_j_TAP]⟩,
   ⟨Regs.LEQ_XA_GATHER, [F.LEQ_XA_GATHER_SETS, F.LEQ_XA_GATHER_INVALID, F.LEQ_XA_GATHER_STATE]⟩]
def regTable07_0 : List RegInfo :=
  [⟨Regs.FEC_CTRL, [F.FEC_CTRL_SD_EN, F.FEC_CTRL_EO_FALLBACK, F.FEC_CTRL_ERASE_EN]⟩,
   ⟨Regs.FEC_SD_CTRL, [F.FEC_SD_CTRL_WIN]⟩,
   ⟨Regs.FEC_SD_SET, [F.FEC_SD_SET_SD_SET]⟩,
   ⟨Regs.FEC_SD_CLR, [F.FEC_SD_CLR_SD_CLR]⟩,
   ⟨Regs.FEC_STATUS, [F.FEC_STATUS_RX_MARKED_IN, F.FEC_STATUS_TX_MARKED_IN, F.FEC_STATUS_RX_UNCORR, F.FEC_STATUS_TX_UNCORR, F.FEC_STATUS_RX_SD, F.FEC_STATUS_TX_SD]⟩,
   ⟨Regs.FEC_POOL_STATUS, [F.FEC_POOL_STATUS_L2H_FENCED, F.FEC_POOL_STATUS_H2L_FENCED]⟩,
   ⟨Regs.FEC_POOL_AVAIL, [F.FEC_POOL_AVAIL_L2H_PAUSED, F.FEC_POOL_AVAIL_H2L_PAUSED, F.FEC_POOL_AVAIL_L2H_SHORT, F.FEC_POOL_AVAIL_H2L_SHORT, F.FEC_POOL_AVAIL_NEED, F.FEC_POOL_AVAIL_L2H_AVAIL, F.FEC_POOL_AVAIL_H2L_AVAIL]⟩,
   ⟨Regs.FEC_INNER_CTRL, [F.FEC_INNER_CTRL_ERASE_THR]⟩]
def regTable08_0 : List RegInfo :=
  [⟨Regs.PCS_ALIGN_CTRL, [F.PCS_ALIGN_CTRL_SKEW_LIMIT, F.PCS_ALIGN_CTRL_MISS_LIMIT, F.PCS_ALIGN_CTRL_MATCH_ERR]⟩,
   ⟨Regs.PCS_ALIGN_STATUS, [F.PCS_ALIGN_STATUS_PERIOD, F.PCS_ALIGN_STATUS_LOCKED, F.PCS_ALIGN_STATUS_RX_DESKEWED, F.PCS_ALIGN_STATUS_TX_ALIGNED]⟩,
   ⟨Regs.PCS_LANE_ALIGN_i, [F.PCS_LANE_ALIGN_i_SKEW, F.PCS_LANE_ALIGN_i_MISMATCH, F.PCS_LANE_ALIGN_i_INVERTED, F.PCS_LANE_ALIGN_i_SEEN_LANE, F.PCS_LANE_ALIGN_i_STATE]⟩,
   ⟨Regs.PCS_RM_CTRL, [F.PCS_RM_CTRL_HYST]⟩,
   ⟨Regs.PCS_RM_STATUS, [F.PCS_RM_STATUS_L2H_SLIP, F.PCS_RM_STATUS_L2H_FILL, F.PCS_RM_STATUS_H2L_SLIP, F.PCS_RM_STATUS_H2L_FILL]⟩,
   ⟨Regs.LTX_TPG_CTRL, [F.LTX_TPG_CTRL_EN, F.LTX_TPG_CTRL_PATTERN]⟩,
   ⟨Regs.LTX_TPG_USER_k, [F.LTX_TPG_USER_k_USER]⟩,
   ⟨Regs.LRX_TPC_CTRL, [F.LRX_TPC_CTRL_EN, F.LRX_TPC_CTRL_PATTERN]⟩,
   ⟨Regs.LRX_TPC_STATUS, [F.LRX_TPC_STATUS_LOCK, F.LRX_TPC_STATUS_POS]⟩]
def regTable09_0 : List RegInfo :=
  [⟨Regs.PCS_LINK_CTRL, [F.PCS_LINK_CTRL_MAP_MODE, F.PCS_LINK_CTRL_PROBE_EN, F.PCS_LINK_CTRL_HOLD]⟩,
   ⟨Regs.PCS_LINK_TIMERS, [F.PCS_LINK_TIMERS_REJOIN_TO, F.PCS_LINK_TIMERS_ACQ_TO, F.PCS_LINK_TIMERS_PROBE_TO, F.PCS_LINK_TIMERS_ALIGN_TO, F.PCS_LINK_TIMERS_BACKOFF]⟩,
   ⟨Regs.PCS_RX_MAP, [F.PCS_RX_MAP_INV, F.PCS_RX_MAP_PHYS]⟩,
   ⟨Regs.PCS_RX_MAP_USE, [F.PCS_RX_MAP_USE_INV, F.PCS_RX_MAP_USE_PHYS]⟩,
   ⟨Regs.PCS_LINK_STATUS, [F.PCS_LINK_STATUS_LOST, F.PCS_LINK_STATUS_REASON, F.PCS_LINK_STATUS_BACKOFF, F.PCS_LINK_STATUS_MAP_LEARNED, F.PCS_LINK_STATUS_PROBED, F.PCS_LINK_STATUS_STATE]⟩,
   ⟨Regs.PCS_LINK_TIME, [F.PCS_LINK_TIME_RESTARTS, F.PCS_LINK_TIME_UP_TIME]⟩]
def regTable10_0 : List RegInfo :=
  [⟨Regs.HSL_GO, [F.HSL_GO_GO_GROUP]⟩,
   ⟨Regs.HSL_RX_CTRL, [F.HSL_RX_CTRL_TARGET, F.HSL_RX_CTRL_VGA_MODE, F.HSL_RX_CTRL_VGA_CODE, F.HSL_RX_CTRL_CTLE_MODE, F.HSL_RX_CTRL_CTLE_CODE]⟩,
   ⟨Regs.HSL_EQ_CTRL, [F.HSL_EQ_CTRL_LEVEL_A, F.HSL_EQ_CTRL_FFE_MU, F.HSL_EQ_CTRL_DFE_MU, F.HSL_EQ_CTRL_MAIN, F.HSL_EQ_CTRL_BLIND, F.HSL_EQ_CTRL_PRECODE, F.HSL_EQ_CTRL_ADAPT_EN]⟩,
   ⟨Regs.HSL_TR_CTRL, [F.HSL_TR_CTRL_TRACK_THR, F.HSL_TR_CTRL_KP, F.HSL_TR_CTRL_KI, F.HSL_TR_CTRL_LOCK_THR]⟩,
   ⟨Regs.HSL_STATUS, [F.HSL_STATUS_PI_CODE, F.HSL_STATUS_CTLE_CODE, F.HSL_STATUS_VGA_CODE, F.HSL_STATUS_EQ_STATE, F.HSL_STATUS_TX_BURST, F.HSL_STATUS_TX_IDLE, F.HSL_STATUS_TRAINING, F.HSL_STATUS_TRAINED, F.HSL_STATUS_VALID, F.HSL_STATUS_LOL, F.HSL_STATUS_LOS]⟩,
   ⟨Regs.HSL_METRIC, [F.HSL_METRIC_TAP_SAT, F.HSL_METRIC_SNR]⟩,
   ⟨Regs.HSL_SLICE_STATUS, [F.HSL_SLICE_STATUS_SWAP_COUNT, F.HSL_SLICE_STATUS_NOSPARE, F.HSL_SLICE_STATUS_WINGS, F.HSL_SLICE_STATUS_FAILED_32, F.HSL_SLICE_STATUS_UNDERSTUDY]⟩,
   ⟨Regs.HSL_SLICE_FAILED, [F.HSL_SLICE_FAILED_FAILED]⟩,
   ⟨Regs.HSL_TX_CTRL, [F.HSL_TX_CTRL_SOURCE, F.HSL_TX_CTRL_AMP, F.HSL_TX_CTRL_POST, F.HSL_TX_CTRL_PRE, F.HSL_TX_CTRL_IDLE, F.HSL_TX_CTRL_PRECODE]⟩,
   ⟨Regs.HSL_TX_TAP_j, [F.HSL_TX_TAP_j_TAP]⟩,
   ⟨Regs.HSL_ALIGN_STATUS, [F.HSL_ALIGN_STATUS_SKEW, F.HSL_ALIGN_STATUS_PCS_FIRST, F.HSL_ALIGN_STATUS_LOCKED]⟩,
   ⟨Regs.HSL_TP_CTRL, [F.HSL_TP_CTRL_TPC_EN, F.HSL_TP_CTRL_TPC_PATTERN, F.HSL_TP_CTRL_TPG_EN, F.HSL_TP_CTRL_TPG_PATTERN]⟩]
def regTable10_1 : List RegInfo :=
  [⟨Regs.HSL_TPC_STATUS, [F.HSL_TPC_STATUS_LOCK, F.HSL_TPC_STATUS_POS]⟩,
   ⟨Regs.HSL_TPG_USER_k, [F.HSL_TPG_USER_k_USER]⟩,
   ⟨Regs.HSL_CLK_SEL, [F.HSL_CLK_SEL_FAILOVER, F.HSL_CLK_SEL_RX_REF, F.HSL_CLK_SEL_TX_REF]⟩,
   ⟨Regs.HSL_REF_CTRL, [F.HSL_REF_CTRL_REF_REVERT]⟩,
   ⟨Regs.HSL_REF_STATUS, [F.HSL_REF_STATUS_HFCKO1_ON, F.HSL_REF_STATUS_HFCKO0_ON, F.HSL_REF_STATUS_B_REF, F.HSL_REF_STATUS_A_REF, F.HSL_REF_STATUS_B_HOLDOVER, F.HSL_REF_STATUS_A_HOLDOVER, F.HSL_REF_STATUS_B_LOCK, F.HSL_REF_STATUS_A_LOCK, F.HSL_REF_STATUS_REFCLK_OK, F.HSL_REF_STATUS_HFCK1_OK, F.HSL_REF_STATUS_HFCK0_OK]⟩]
def regTable11_0 : List RegInfo :=
  [⟨Regs.ASD_CTRL, [F.ASD_CTRL_AMP, F.ASD_CTRL_LOAD_EN, F.ASD_CTRL_KEY_SLOT, F.ASD_CTRL_AUTH, F.ASD_CTRL_PROFILE]⟩,
   ⟨Regs.ASD_TIMING, [F.ASD_TIMING_PARTNER_TO, F.ASD_TIMING_HEALTH_PERIOD, F.ASD_TIMING_HELLO_PERIOD]⟩,
   ⟨Regs.ASD_DET, [F.ASD_DET_LOAD_MARGIN, F.ASD_DET_WEAK_REJ, F.ASD_DET_CAPTURE_MARGIN, F.ASD_DET_DET_THR]⟩,
   ⟨Regs.ASD_STATUS, [F.ASD_STATUS_PARTNER_WIDTH, F.ASD_STATUS_PARTNER_LANE, F.ASD_STATUS_RX_LOAD, F.ASD_STATUS_TX_LOAD, F.ASD_STATUS_STAMP_SEEN, F.ASD_STATUS_POLARITY, F.ASD_STATUS_AUTH_STATE, F.ASD_STATUS_GATHERER, F.ASD_STATUS_PARTNER_PROFILE, F.ASD_STATUS_TX_BUSY, F.ASD_STATUS_RX_BUSY, F.ASD_STATUS_UP]⟩,
   ⟨Regs.ASD_LEVEL, [F.ASD_LEVEL_REF, F.ASD_LEVEL_LAST]⟩,
   ⟨Regs.ASD_PARTNER_ID_0, [F.ASD_PARTNER_ID_0_ID_LO]⟩,
   ⟨Regs.ASD_PARTNER_ID_1, [F.ASD_PARTNER_ID_1_ID_HI]⟩,
   ⟨Regs.ASD_PARTNER_INFO, [F.ASD_PARTNER_INFO_PART, F.ASD_PARTNER_INFO_STEP, F.ASD_PARTNER_INFO_CAPS]⟩,
   ⟨Regs.ASD_RX_SNR_j, [F.ASD_RX_SNR_j_SNR_0, F.ASD_RX_SNR_j_SNR_1, F.ASD_RX_SNR_j_SNR_2, F.ASD_RX_SNR_j_SNR_3]⟩,
   ⟨Regs.ASD_TABLE_TX_k, [F.ASD_TABLE_TX_k_TABLE]⟩,
   ⟨Regs.ASD_TABLE_RX_k, [F.ASD_TABLE_RX_k_TABLE]⟩]
def regTable12_0 : List RegInfo :=
  [⟨Regs.CAL_STATE, [F.CAL_STATE_TARGETS, F.CAL_STATE_HANDLE]⟩]
def regTable13_0 : List RegInfo :=
  [⟨Regs.LOOP_ENGINE_STATUS, [F.LOOP_ENGINE_STATUS_FALLBACK, F.LOOP_ENGINE_STATUS_FAULT, F.LOOP_ENGINE_STATUS_RUNNING]⟩,
   ⟨Regs.LOOP_GRP_g, [F.LOOP_GRP_g_GO_GROUP, F.LOOP_GRP_g_COUPLE, F.LOOP_GRP_g_STEP_LIM, F.LOOP_GRP_g_ENABLE, F.LOOP_GRP_g_SAFETY, F.LOOP_GRP_g_ACTUATOR]⟩,
   ⟨Regs.LOOP_GRP_STATUS_g, [F.LOOP_GRP_STATUS_g_SLEW, F.LOOP_GRP_STATUS_g_ESCALATED, F.LOOP_GRP_STATUS_g_WINNER, F.LOOP_GRP_STATUS_g_CODE]⟩,
   ⟨Regs.LOOP_CTRL, [F.LOOP_CTRL_GO_GROUP, F.LOOP_CTRL_PERIOD, F.LOOP_CTRL_GROUP, F.LOOP_CTRL_GROUPED, F.LOOP_CTRL_PROF_EN, F.LOOP_CTRL_LOST_ACTION, F.LOOP_CTRL_HIST_EVT, F.LOOP_CTRL_MODE]⟩,
   ⟨Regs.LOOP_INPUT, [F.LOOP_INPUT_KIND, F.LOOP_INPUT_FRZ_LEN, F.LOOP_INPUT_DETECTOR, F.LOOP_INPUT_INDEX]⟩,
   ⟨Regs.LOOP_INPUT_AUX, [F.LOOP_INPUT_AUX_CONST, F.LOOP_INPUT_AUX_VAR_THR]⟩,
   ⟨Regs.LOOP_SP, [F.LOOP_SP_SAFE_U, F.LOOP_SP_TARGET]⟩,
   ⟨Regs.LOOP_GAIN_PI, [F.LOOP_GAIN_PI_KI, F.LOOP_GAIN_PI_KP]⟩,
   ⟨Regs.LOOP_GAIN_DF, [F.LOOP_GAIN_DF_KFF, F.LOOP_GAIN_DF_KD]⟩,
   ⟨Regs.LOOP_SHIFTS, [F.LOOP_SHIFTS_ALPHA, F.LOOP_SHIFTS_FF_SHIFT, F.LOOP_SHIFTS_D_SHIFT, F.LOOP_SHIFTS_I_SHIFT, F.LOOP_SHIFTS_P_SHIFT]⟩,
   ⟨Regs.LOOP_ILIM_m, [F.LOOP_ILIM_m_LIMIT]⟩,
   ⟨Regs.LOOP_OUT_MAP, [F.LOOP_OUT_MAP_OUT_SPAN, F.LOOP_OUT_MAP_OUT_BIAS]⟩]
def regTable13_1 : List RegInfo :=
  [⟨Regs.LOOP_OUT_LIM, [F.LOOP_OUT_LIM_OUT_MAX, F.LOOP_OUT_LIM_OUT_MIN]⟩,
   ⟨Regs.LOOP_OUT_DRV, [F.LOOP_OUT_DRV_COUPLE, F.LOOP_OUT_DRV_STEP_LIM, F.LOOP_OUT_DRV_ACTUATOR]⟩,
   ⟨Regs.LOOP_PROF_m, [F.LOOP_PROF_m_LIMIT]⟩,
   ⟨Regs.LOOP_STATUS, [F.LOOP_STATUS_CODE, F.LOOP_STATUS_MOVING, F.LOOP_STATUS_LOST_ARB, F.LOOP_STATUS_CLAMP, F.LOOP_STATUS_FROZEN, F.LOOP_STATUS_STALE, F.LOOP_STATUS_SLEW, F.LOOP_STATUS_STATE]⟩,
   ⟨Regs.LOOP_HIST, [F.LOOP_HIST_FLAGS]⟩,
   ⟨Regs.BDAC_CEIL_c, [F.BDAC_CEIL_c_LOCK, F.BDAC_CEIL_c_CEIL_HIT, F.BDAC_CEIL_c_CODE_MAX]⟩]
def regTable14_0 : List RegInfo :=
  [⟨Regs.BDAC_CTRL_c, [F.BDAC_CTRL_c_GO_GROUP, F.BDAC_CTRL_c_DAMP, F.BDAC_CTRL_c_DGEN, F.BDAC_CTRL_c_DITH_EN, F.BDAC_CTRL_c_SOURCE, F.BDAC_CTRL_c_EN]⟩,
   ⟨Regs.BDAC_CODE_c, [F.BDAC_CODE_c_CODE]⟩,
   ⟨Regs.BDAC_STATUS_c, [F.BDAC_STATUS_c_APPLIED, F.BDAC_STATUS_c_HOLDING, F.BDAC_STATUS_c_RANGE, F.BDAC_STATUS_c_STATE]⟩,
   ⟨Regs.BDAC_DGEN_g, [F.BDAC_DGEN_g_GO_GROUP, F.BDAC_DGEN_g_EN, F.BDAC_DGEN_g_FREQ]⟩,
   ⟨Regs.SNS_CTRL_n, [F.SNS_CTRL_n_GO_GROUP, F.SNS_CTRL_n_DELAY, F.SNS_CTRL_n_EN]⟩,
   ⟨Regs.SNS_DEC_n, [F.SNS_DEC_n_CIC_R, F.SNS_DEC_n_HB, F.SNS_DEC_n_COEF, F.SNS_DEC_n_FIR_D]⟩,
   ⟨Regs.SNS_DET_n, [F.SNS_DET_n_ENV_COEF, F.SNS_DET_n_RMS_K, F.SNS_DET_n_PK_HOLD, F.SNS_DET_n_PK_DECAY]⟩,
   ⟨Regs.SNS_LOCKIN_n, [F.SNS_LOCKIN_n_GEN, F.SNS_LOCKIN_n_LI_N]⟩,
   ⟨Regs.SNS_OUT_n, [F.SNS_OUT_n_SEQ, F.SNS_OUT_n_OVER, F.SNS_OUT_n_NOT_SETTLED, F.SNS_OUT_n_VALUE]⟩,
   ⟨Regs.SNS_RAW_n, [F.SNS_RAW_n_SEQ, F.SNS_RAW_n_RAW]⟩,
   ⟨Regs.SNS_PEAK_n, [F.SNS_PEAK_n_MAX, F.SNS_PEAK_n_MIN]⟩,
   ⟨Regs.SNS_RMS_n, [F.SNS_RMS_n_SEQ, F.SNS_RMS_n_NOT_SETTLED, F.SNS_RMS_n_RMS]⟩]
def regTable14_1 : List RegInfo :=
  [⟨Regs.SNS_ENV_n, [F.SNS_ENV_n_SEQ, F.SNS_ENV_n_NOT_SETTLED, F.SNS_ENV_n_ENV]⟩,
   ⟨Regs.SNS_LI_n, [F.SNS_LI_n_I, F.SNS_LI_n_Q]⟩,
   ⟨Regs.SNS_LI_STATUS_n, [F.SNS_LI_STATUS_n_SEQ, F.SNS_LI_STATUS_n_NOT_SETTLED]⟩,
   ⟨Regs.SNS_SYNC, [F.SNS_SYNC_MASK]⟩]
def regTable15_0 : List RegInfo :=
  [⟨Regs.CNT_LO_i, [F.CNT_LO_i_LO]⟩,
   ⟨Regs.CNT_HI_i, [F.CNT_HI_i_HI]⟩,
   ⟨Regs.CNT_SLOT_s, [F.CNT_SLOT_s_EN, F.CNT_SLOT_s_K, F.CNT_SLOT_s_COUNTER]⟩,
   ⟨Regs.CNT_THR_s, [F.CNT_THR_s_EN, F.CNT_THR_s_SOURCE, F.CNT_THR_s_INSTANCE, F.CNT_THR_s_N]⟩,
   ⟨Regs.CNT_BER, [F.CNT_BER_SEQ, F.CNT_BER_NA, F.CNT_BER_UNDECODED, F.CNT_BER_LOG]⟩,
   ⟨Regs.SNAP_b_LO_i, [F.SNAP_b_LO_i_LO]⟩,
   ⟨Regs.SNAP_b_HI_i, [F.SNAP_b_HI_i_HI]⟩,
   ⟨Regs.SNAP_HDR_b_w, [F.SNAP_HDR_b_w_WORD]⟩,
   ⟨Regs.SNAP_CTRL, [F.SNAP_CTRL_TAKE, F.SNAP_CTRL_FLOW_IMG, F.SNAP_CTRL_ACK_REQ, F.SNAP_CTRL_ACK_1, F.SNAP_CTRL_ACK_0]⟩,
   ⟨Regs.SNAP_STATUS, [F.SNAP_STATUS_SEQ, F.SNAP_STATUS_FULL_1, F.SNAP_STATUS_FULL_0, F.SNAP_STATUS_COPYING, F.SNAP_STATUS_LAST]⟩,
   ⟨Regs.FLOW_GLOBAL, [F.FLOW_GLOBAL_GO_GROUP, F.FLOW_GLOBAL_GIANT_MAX]⟩,
   ⟨Regs.FLOW_AGE, [F.FLOW_AGE_AGE_LIMIT]⟩]
def regTable15_1 : List RegInfo :=
  [⟨Regs.FLOW_SEED, [F.FLOW_SEED_SEED]⟩,
   ⟨Regs.FLOW_STATUS, [F.FLOW_STATUS_FULL, F.FLOW_STATUS_IMAGE_LOCKED, F.FLOW_STATUS_IMAGE_VALID, F.FLOW_STATUS_FREE]⟩,
   ⟨Regs.FLOW_IMAGE, [F.FLOW_IMAGE_SEQ, F.FLOW_IMAGE_RECORDS]⟩,
   ⟨Regs.FLOW_CFG_p, [F.FLOW_CFG_p_RX_EN, F.FLOW_CFG_p_RX_KEY, F.FLOW_CFG_p_TX_EN, F.FLOW_CFG_p_TX_KEY]⟩]
def regTable16_0 : List RegInfo :=
  [⟨Regs.REGIF_CTRL, [F.REGIF_CTRL_CRC_SPI, F.REGIF_CTRL_PEC_A]⟩,
   ⟨Regs.RING_LAYOUT, [F.RING_LAYOUT_CMIS_EN, F.RING_LAYOUT_EVT_SZ, F.RING_LAYOUT_CPL_SZ, F.RING_LAYOUT_CMD_SZ, F.RING_LAYOUT_EVT_BASE, F.RING_LAYOUT_CPL_BASE, F.RING_LAYOUT_CMD_BASE]⟩,
   ⟨Regs.DB_CMD, [F.DB_CMD_PROD]⟩,
   ⟨Regs.DB_CPL_ACK, [F.DB_CPL_ACK_ACK]⟩,
   ⟨Regs.DB_EVT_ACK, [F.DB_EVT_ACK_ACK]⟩,
   ⟨Regs.RING_CMD_CONS, [F.RING_CMD_CONS_CONS]⟩,
   ⟨Regs.RING_CPL_PROD, [F.RING_CPL_PROD_PROD]⟩,
   ⟨Regs.RING_EVT_PROD, [F.RING_EVT_PROD_PROD]⟩,
   ⟨Regs.RING_STATUS, [F.RING_STATUS_EVT_LOST, F.RING_STATUS_IN_PROGRESS, F.RING_STATUS_RESTARTING, F.RING_STATUS_READY]⟩,
   ⟨Regs.RING_INT_STATUS, [F.RING_INT_STATUS_CEIL, F.RING_INT_STATUS_FLOW_FULL, F.RING_INT_STATUS_LOOP_FAULT, F.RING_INT_STATUS_SD, F.RING_INT_STATUS_PORT_NOT_UP, F.RING_INT_STATUS_HOST_LOS, F.RING_INT_STATUS_LINE_LOS, F.RING_INT_STATUS_THERMAL, F.RING_INT_STATUS_SUPPLY, F.RING_INT_STATUS_EVT_LOST, F.RING_INT_STATUS_EVT, F.RING_INT_STATUS_CPL]⟩,
   ⟨Regs.RING_INT_EN, [F.RING_INT_EN_MASK]⟩]
def regTable17_0 : List RegInfo :=
  [⟨Regs.ID_PART, [F.ID_PART_PART]⟩,
   ⟨Regs.ID_STEP, [F.ID_STEP_ROM_VER, F.ID_STEP_STEP]⟩,
   ⟨Regs.ID_DEV_LO, [F.ID_DEV_LO_ID_LO]⟩,
   ⟨Regs.ID_DEV_HI, [F.ID_DEV_HI_ID_HI]⟩,
   ⟨Regs.ID_CAPS, [F.ID_CAPS_CMIS, F.ID_CAPS_FLOW, F.ID_CAPS_FORWARDED, F.ID_CAPS_INNER, F.ID_CAPS_LOADING, F.ID_CAPS_AUTH, F.ID_CAPS_CUE_AGREE, F.ID_CAPS_GATHERER]⟩,
   ⟨Regs.ID_COUNTS, [F.ID_COUNTS_LINE_LANES, F.ID_COUNTS_HOST_LANES, F.ID_COUNTS_LOOPS, F.ID_COUNTS_CUES]⟩,
   ⟨Regs.REGIF_ERR_COUNT, [F.REGIF_ERR_COUNT_COUNT]⟩,
   ⟨Regs.REGIF_COLLIDE_COUNT, [F.REGIF_COLLIDE_COUNT_COUNT]⟩,
   ⟨Regs.TMR_FIX_COUNT, [F.TMR_FIX_COUNT_COUNT]⟩,
   ⟨Regs.REGIF_ERR_INFO, [F.REGIF_ERR_INFO_VALID, F.REGIF_ERR_INFO_INTERFACE, F.REGIF_ERR_INFO_CAUSE, F.REGIF_ERR_INFO_ADDR]⟩,
   ⟨Regs.GO_FIRE, [F.GO_FIRE_MASK]⟩,
   ⟨Regs.GO_DISCARD, [F.GO_DISCARD_MASK]⟩]
def regTable17_1 : List RegInfo :=
  [⟨Regs.GO_STATUS_g, [F.GO_STATUS_g_SUBCODE, F.GO_STATUS_g_CODE]⟩,
   ⟨Regs.GO_INFO_g, [F.GO_INFO_g_FIRES, F.GO_INFO_g_REJECTS, F.GO_INFO_g_LAST_CUE]⟩,
   ⟨Regs.GO_FAIL_ADDR_g, [F.GO_FAIL_ADDR_g_ADDR]⟩]
def regTable18_0 : List RegInfo :=
  [⟨Regs.MEM_CTRL, [F.MEM_CTRL_AUTO_REMAP, F.MEM_CTRL_SCRUB_EN]⟩,
   ⟨Regs.MEM_ERR_INFO, [F.MEM_ERR_INFO_VALID, F.MEM_ERR_INFO_SCRUB, F.MEM_ERR_INFO_BANK, F.MEM_ERR_INFO_ADDR]⟩,
   ⟨Regs.MEM_LUT_STATUS, [F.MEM_LUT_STATUS_RETRAIN]⟩,
   ⟨Regs.MEM_BIST_STATUS, [F.MEM_BIST_STATUS_PASS, F.MEM_BIST_STATUS_MACRO, F.MEM_BIST_STATUS_CASE, F.MEM_BIST_STATUS_TRIPLET]⟩,
   ⟨Regs.MEM_LAP_k, [F.MEM_LAP_k_LAP]⟩,
   ⟨Regs.MEM_BANK_STATUS_k, [F.MEM_BANK_STATUS_k_REMAP_USED, F.MEM_BANK_STATUS_k_REMAP_FULL, F.MEM_BANK_STATUS_k_POISONED]⟩]
def regTable19_0 : List RegInfo :=
  [⟨Regs.PB_CTRL, [F.PB_CTRL_GROUPS, F.PB_CTRL_FLASH_COPY]⟩,
   ⟨Regs.PB_STATUS, [F.PB_STATUS_COPYING, F.PB_STATUS_HELD, F.PB_STATUS_NEXT_SEQ]⟩,
   ⟨Regs.PB_SECTION_s, [F.PB_SECTION_s_VALID, F.PB_SECTION_s_TRIGGER, F.PB_SECTION_s_MARKER_SEQ]⟩,
   ⟨Regs.PB_STATS, [F.PB_STATS_MISSED, F.PB_STATS_COPIES]⟩]
def regTable20_0 : List RegInfo :=
  [⟨Regs.PWR_STATE, [F.PWR_STATE_LAST_WAKE, F.PWR_STATE_THERMAL_DARK, F.PWR_STATE_ENTERING, F.PWR_STATE_STATE]⟩,
   ⟨Regs.PWR_WAKE_CFG, [F.PWR_WAKE_CFG_TIMER_EN, F.PWR_WAKE_CFG_WAKE_EN, F.PWR_WAKE_CFG_STAGE_DOOR_EN]⟩,
   ⟨Regs.PWR_TIMER, [F.PWR_TIMER_SECONDS]⟩,
   ⟨Regs.PWR_MON_STATUS, [F.PWR_MON_STATUS_IGNORED, F.PWR_MON_STATUS_BELOW_WARN]⟩,
   ⟨Regs.AVS_CTRL, [F.AVS_CTRL_TEMP_COMP, F.AVS_CTRL_MARGIN]⟩,
   ⟨Regs.AVS_STATUS, [F.AVS_STATUS_BIN, F.AVS_STATUS_FAULT, F.AVS_STATUS_SLEWING, F.AVS_STATUS_TARGET, F.AVS_STATUS_READBACK]⟩,
   ⟨Regs.AVS_CURRENT, [F.AVS_CURRENT_CURRENT]⟩,
   ⟨Regs.THERM_CTRL, [F.THERM_CTRL_WARN]⟩,
   ⟨Regs.THERM_STATUS, [F.THERM_STATUS_HOTTEST, F.THERM_STATUS_WARN, F.THERM_STATUS_MAX]⟩,
   ⟨Regs.THERM_TEMP_s, [F.THERM_TEMP_s_TEMP]⟩]
def regTable21_0 : List RegInfo :=
  [⟨Regs.RST_CAUSE, [F.RST_CAUSE_RAIL, F.RST_CAUSE_MGMT_CAUSE, F.RST_CAUSE_KIND]⟩,
   ⟨Regs.RST_COUNTS, [F.RST_COUNTS_MGMT, F.RST_COUNTS_WARM]⟩]
def regTable22_0 : List RegInfo :=
  [⟨Regs.LC_STATE, [F.LC_STATE_SESSION, F.LC_STATE_FIELD_DIAG, F.LC_STATE_STATE]⟩,
   ⟨Regs.SEC_OTP_STATUS, [F.SEC_OTP_STATUS_SCORCHED, F.SEC_OTP_STATUS_OWNER_PROG, F.SEC_OTP_STATUS_SLOT_PROG, F.SEC_OTP_STATUS_SLOT_REVOKED, F.SEC_OTP_STATUS_ROLLBACK]⟩,
   ⟨Regs.SEC_ALARM_CFG, [F.SEC_ALARM_CFG_LOCK, F.SEC_ALARM_CFG_AUTH_FAIL, F.SEC_ALARM_CFG_DEBUG, F.SEC_ALARM_CFG_TEMP, F.SEC_ALARM_CFG_CGLITCH, F.SEC_ALARM_CFG_VGLITCH]⟩,
   ⟨Regs.SEC_ALARM_STATUS, [F.SEC_ALARM_STATUS_AUTH_FAILS, F.SEC_ALARM_STATUS_SOURCES, F.SEC_ALARM_STATUS_IN_FORCE, F.SEC_ALARM_STATUS_SECRET_HIDDEN, F.SEC_ALARM_STATUS_DECRYPT_LOCKED, F.SEC_ALARM_STATUS_ALARM_ASSERTED]⟩,
   ⟨Regs.SEC_FW_STATUS, [F.SEC_FW_STATUS_SEC_VER, F.SEC_FW_STATUS_BOOT_FAIL, F.SEC_FW_STATUS_RECOVERY, F.SEC_FW_STATUS_UPDATE_OPEN, F.SEC_FW_STATUS_TRIAL, F.SEC_FW_STATUS_PENDING_VALID, F.SEC_FW_STATUS_PENDING, F.SEC_FW_STATUS_RUNNING]⟩]
def regTable23_0 : List RegInfo :=
  [⟨Regs.TST_STATUS, [F.TST_STATUS_INSTANCE, F.TST_STATUS_CLASS, F.TST_STATUS_RESULT, F.TST_STATUS_CAUSE, F.TST_STATUS_TEST, F.TST_STATUS_LIMIT_OK, F.TST_STATUS_RUNNING]⟩,
   ⟨Regs.TST_FENCED, [F.TST_FENCED_PORTS, F.TST_FENCED_LINE, F.TST_FENCED_HOST]⟩]

/-- The four words of one calibration record (chapter 12, R247): the record's place per target. -/
def Regs.CAL (t : CalTarget) (off : Nat) : RegPlace :=
  match t with
  | .lineSlices => ⟨0x080E00 + off, 0x10000, 8, 0, 1⟩
  | .dacSkew => ⟨0x080E10 + off, 0x10000, 8, 0, 1⟩
  | .hostSlices => ⟨0x100E00 + off, 0x10000, 16, 0, 1⟩
  | .biasDacs => ⟨0x314000 + off, 0x10, 32, 0, 1⟩
  | .senseChans => ⟨0x324000 + off, 0x10, 24, 0, 1⟩
def F.CAL_COUNT_COUNT (t : CalTarget) : Field := ⟨Regs.CAL t 0, 0, 32, .ro, 0, [], false⟩
def F.CAL_LAST_LO_HC_LO (t : CalTarget) : Field := ⟨Regs.CAL t 4, 0, 32, .ro, 0, [], false⟩
def F.CAL_LAST_HI_HC_HI (t : CalTarget) : Field := ⟨Regs.CAL t 8, 0, 32, .ro, 0, [], false⟩
def F.CAL_INFO_ESTIMATED (t : CalTarget) : Field := ⟨Regs.CAL t 12, 31, 1, .ro, 0, [], false⟩
def F.CAL_INFO_SETS (t : CalTarget) : Field := ⟨Regs.CAL t 12, 20, 5, .ro, 0, [], false⟩
def F.CAL_INFO_RESULT (t : CalTarget) : Field := ⟨Regs.CAL t 12, 16, 4, .ro, 0, [], false⟩
def F.CAL_INFO_TEMP (t : CalTarget) : Field := ⟨Regs.CAL t 12, 0, 16, .ro, 0, [], false⟩
def regTableCal (t : CalTarget) : List RegInfo :=
  [⟨Regs.CAL t 0, [F.CAL_COUNT_COUNT t]⟩, ⟨Regs.CAL t 4, [F.CAL_LAST_LO_HC_LO t]⟩,
   ⟨Regs.CAL t 8, [F.CAL_LAST_HI_HC_HI t]⟩,
   ⟨Regs.CAL t 12, [F.CAL_INFO_ESTIMATED t, F.CAL_INFO_SETS t, F.CAL_INFO_RESULT t, F.CAL_INFO_TEMP t]⟩]

/-- Every register that a chapter defines (R335); an address in none of them is a reserved location. -/
def regTable : List RegInfo :=
  regTable02_0 ++ regTable03_0 ++ regTable04_0 ++ regTable04_1 ++ regTable05_0 ++ regTable05_1 ++ regTable06_0 ++ regTable07_0 ++ regTable08_0 ++ regTable09_0 ++ regTable10_0 ++ regTable10_1 ++ regTable11_0 ++ regTable12_0 ++ regTable13_0 ++ regTable13_1 ++ regTable14_0 ++ regTable14_1 ++ regTable15_0 ++ regTable15_1 ++ regTable16_0 ++ regTable17_0 ++ regTable17_1 ++ regTable18_0 ++ regTable19_0 ++ regTable20_0 ++ regTable21_0 ++ regTable22_0 ++ regTable23_0 ++
  regTableCal .lineSlices ++ regTableCal .dacSkew ++ regTableCal .hostSlices ++ regTableCal .biasDacs ++ regTableCal .senseChans

end Sys2Proof.Machine
end

