-- ==== Sys2Proof/Machine/Ops.lean ====
section
/-! DEFINITION. The named operations on the state that every meaning is made of: register fields, the ring window, the
counters, events, the prompt book, completions, and a stored word's error handling. -/

namespace Sys2Proof.Machine

open Sys2Proof

/-! Association lists with keys strictly rising. -/

/-- The value listed under a key. -/
def aGet {α : Type} : List (Nat × α) → Nat → Option α
  | [], _ => none
  | (a, v) :: m, k => if a = k then some v else aGet m k

/-- Lists a value under a key, in place of any other. -/
def aSet {α : Type} : List (Nat × α) → Nat → α → List (Nat × α)
  | [], k, v => [(k, v)]
  | (a, w) :: m, k, v => if a = k then (k, v) :: m else if k < a then (k, v) :: (a, w) :: m else (a, w) :: aSet m k v

/-- Removes a key. -/
def aDel {α : Type} : List (Nat × α) → Nat → List (Nat × α)
  | [], _ => []
  | (a, w) :: m, k => if a = k then aDel m k else (a, w) :: aDel m k

/-- The keys rise strictly, all above a bound. -/
def aRising {α : Type} : List (Nat × α) → Nat → Bool
  | [], _ => true
  | (a, _) :: m, b => decide (b ≤ a) && aRising m (a + 1)

/-- Element i of a vector, or a value in its place when i lies outside it. -/
def vGet {α : Type} {n : Nat} (v : Vector α n) (i : Nat) (d : α) : α := v[i]?.getD d

/-- The vector with element i replaced; outside it, unchanged. -/
def vSet {α : Type} {n : Nat} (v : Vector α n) (i : Nat) (x : α) : Vector α n := v.setIfInBounds i x

/-- The vector with element i changed. -/
def vMod {α : Type} {n : Nat} (v : Vector α n) (i : Nat) (f : α → α) : Vector α n :=
  match v[i]? with
  | some x => v.setIfInBounds i (f x)
  | none => v

/-- The numbers below n at which p holds. -/
def whichBelow (n : Nat) (p : Nat → Bool) : List Nat := (List.range n).filter p

/-- The set bits of a mask, ascending, among the low n. -/
def bitsSet (n m : Nat) : List Nat := whichBelow n m.testBit

/-- A mask from a predicate on the low n bits. -/
def maskOf (n : Nat) (p : Nat → Bool) : Nat := (List.range n).foldl (fun a k => if p k then a + 2 ^ k else a) 0

/-! Register fields (R339, R345). -/

/-- A field instance's key: its register's address times 32 plus its lowest bit. -/
def Field.key (f : Field) (i j : Nat) : Nat :=
  (f.place.base + i * f.place.stride1 + j * f.place.stride2) * 32 + f.lo

/-- A field instance's reset value. -/
def Field.reset (f : Field) (j : Nat) : Nat := (aGet f.rstAt j).getD f.rst

/-- A field instance's value in a map, of the field's width: its reset value where none is listed. -/
def fGet (m : FieldMap) (f : Field) (i j : Nat) : Nat := (aGet m (f.key i j)).getD (f.reset j) % 2 ^ f.width

def fPut (m : FieldMap) (f : Field) (i j v : Nat) : FieldMap :=
  if v % 2 ^ f.width = f.reset j then aDel m (f.key i j) else aSet m (f.key i j) (v % 2 ^ f.width)

/-- A field's value at its main address: the staged value of an RS field, else the value. -/
def rd (s : State) (f : Field) (i : Nat := 0) (j : Nat := 0) : Nat := fGet s.fld f i j

/-- An RS field's effective value (R345). -/
def rdE (s : State) (f : Field) (i : Nat := 0) (j : Nat := 0) : Nat := fGet s.eff f i j

/-- A field's value read as two's complement (R4). -/
def rdI (s : State) (f : Field) (i : Nat := 0) (j : Nat := 0) : Int := toSigned f.width (rd s f i j)

def rdEI (s : State) (f : Field) (i : Nat := 0) (j : Nat := 0) : Int := toSigned f.width (rdE s f i j)

/-- Sets a field at its main address. -/
def wr (s : State) (f : Field) (v : Nat) (i : Nat := 0) (j : Nat := 0) : State :=
  { s with fld := fPut s.fld f i j v }

/-- Sets an RS field's effective value. -/
def wrE (s : State) (f : Field) (v : Nat) (i : Nat := 0) (j : Nat := 0) : State :=
  { s with eff := fPut s.eff f i j v }

/-- Sets a field from a Boolean. -/
def wrB (s : State) (f : Field) (b : Bool) (i : Nat := 0) (j : Nat := 0) : State := wr s f (b2n b) i j

/-- Sets a signed field. -/
def wrI (s : State) (f : Field) (v : Int) (i : Nat := 0) (j : Nat := 0) : State := wr s f (ofSigned f.width v) i j

/-- Adds to a field, modulo its width. -/
def inc (s : State) (f : Field) (n : Nat := 1) (i : Nat := 0) (j : Nat := 0) : State := wr s f (rd s f i j + n) i j

/-- Adds to a field, saturating at its width. -/
def incSat (s : State) (f : Field) (n : Nat := 1) (i : Nat := 0) (j : Nat := 0) : State :=
  wr s f (min (2 ^ f.width - 1) (rd s f i j + n)) i j

/-! Free values: the model's own counter, which numbers them. -/

/-- The state with the next free value's number taken; the number is the old count. -/
def takeFree (s : State) : State := { s with freeCount := s.freeCount + 1 }

/-! Time. -/

/-- Crystal cycles in a number of nanoseconds (R23: 20 ns each), rounded up. -/
def cyclesNs (ns : Nat) : Nat := (ns + 19) / 20

/-- At least so many nanoseconds have passed since a time in crystal cycles; `none` is never. -/
def sinceNs (s : State) (last : Option Nat) (ns : Nat) : Bool :=
  match last with
  | none => true
  | some t => decide (t + cyclesNs ns ≤ s.time.tick)

/-- A direction's show clock. -/
def showClock (s : State) (p : Nat) (d : Dir) : ShowClock :=
  match d with
  | .tx => vGet s.time.tx p .reset
  | .rx => vGet s.time.rx p .reset

/-- Replaces a direction's show clock. -/
def setShowClock (s : State) (p : Nat) (d : Dir) (c : ShowClock) : State :=
  match d with
  | .tx => { s with time := { s.time with tx := vSet s.time.tx p c } }
  | .rx => { s with time := { s.time with rx := vSet s.time.rx p c } }

/-- A show clock advanced by n codewords, carrying into the epoch (chapter 02). -/
def ShowClock.advance (c : ShowClock) (n : Nat) : ShowClock :=
  let t := c.count.toNat + n
  { c with count := BitVec.ofNat 48 t, epoch := BitVec.ofNat 16 (c.epoch.toNat + t / 2 ^ 48) }

/-! The ring window (R322): words of four bytes, the first byte in bits [31:24] (log entry 6). -/

/-- The address of the ring window. -/
def windowBase : Nat := 0x800000
def windowBytes : Nat := 0x40000

def winByte (m : List Host.Cell) (a : Nat) : Byte := (aGet m a).getD 0

/-- The canonical form: addresses strictly rising, and no entry equal to the 0 that an unlisted address reads as. -/
def Memory.wf (m : List Host.Cell) : Bool := aRising m 0 && m.all fun e => e.2 != 0

/-- Writes one byte; a byte of 0 is what an unlisted address reads as. -/
def winPut (m : List Host.Cell) (a : Nat) (b : Byte) : List Host.Cell := if b = 0 then aDel m a else aSet m a b

def winWord (m : List Host.Cell) (a : Nat) : Nat :=
  (winByte m a).toNat * 2 ^ 24 + (winByte m (a + 1)).toNat * 2 ^ 16 + (winByte m (a + 2)).toNat * 2 ^ 8 +
    (winByte m (a + 3)).toNat

def winPutWord (m : List Host.Cell) (a w : Nat) : List Host.Cell :=
  winPut (winPut (winPut (winPut m a (BitVec.ofNat 8 (w / 2 ^ 24))) (a + 1) (BitVec.ofNat 8 (w / 2 ^ 16)))
    (a + 2) (BitVec.ofNat 8 (w / 2 ^ 8))) (a + 3) (BitVec.ofNat 8 w)

/-- Writes consecutive words from an address on. -/
def winPutWords (m : List Host.Cell) (a : Nat) : List Nat → List Host.Cell
  | [] => m
  | w :: ws => winPutWords (winPutWord m a w) (a + 4) ws

/-- Writes consecutive bytes from an address on. -/
def winPutBytes (m : List Host.Cell) (a : Nat) : List Byte → List Host.Cell
  | [] => m
  | b :: bs => winPutBytes (winPut m a b) (a + 1) bs

/-- Reads n consecutive words. -/
def winWords (m : List Host.Cell) (a n : Nat) : List Nat := (List.range n).map fun k => winWord m (a + 4 * k)

/-- Reads n consecutive bytes. -/
def winBytes (m : List Host.Cell) (a n : Nat) : List Byte := (List.range n).map fun k => winByte m (a + k)

/-! A stored word's code state (R356, R358). -/

def bankOf (s : State) (k : Nat) : MemBank := vGet s.mem.banks k .reset

def setBank (s : State) (k : Nat) (b : MemBank) : State :=
  { s with mem := { s.mem with banks := vSet s.mem.banks k b } }

/-- The words of a bank are written anew by their owner (R358, R363). -/
def bankRenewed (s : State) (k : Nat) : State :=
  setBank s k { bankOf s k with
    errs := []
    poison := [] }

/-- A number joins a strictly rising list. -/
def natIns : List Nat → Nat → List Nat
  | [], a => [a]
  | b :: bs, a => if a < b then a :: b :: bs else if a = b then b :: bs else b :: natIns bs a

/-- Two rising lists joined, in at most as many steps as both have entries. -/
def natMerge : Nat → List Nat → List Nat → List Nat
  | _, [], bs => bs
  | _, as, [] => as
  | 0, as, _ => as
  | n + 1, a :: as, b :: bs =>
    if a < b then a :: natMerge n as (b :: bs) else if b < a then b :: natMerge n (a :: as) bs else a :: natMerge n as bs

/-- A write of a word stores fresh check bits, sets its valid bit and clears its poison bit (R358). -/
def bankWritten (s : State) (k a : Nat) : State :=
  setBank s k { bankOf s k with
    valid := natIns (bankOf s k).valid a
    errs := aDel (bankOf s k).errs a
    poison := (bankOf s k).poison.filter (· != a) }

/-- An owner clears a word's valid bit (R358, R363). -/
def bankInvalid (s : State) (k a : Nat) : State :=
  setBank s k { bankOf s k with valid := (bankOf s k).valid.filter (· != a) }

/-- Writes of several words, in ascending order. -/
def bankWrittenAll (s : State) (k : Nat) (as : List Nat) : State :=
  setBank s k { bankOf s k with
    valid := natMerge ((bankOf s k).valid.length + as.length) (bankOf s k).valid as
    errs := (bankOf s k).errs.filter fun e => !as.contains e.1
    poison := (bankOf s k).poison.filter fun a => !as.contains a }

/-- The window's 64-bit words that n bytes from window address a touch: bank 8, word address from the window's base. -/
def windowWords (a n : Nat) : List Nat :=
  if n = 0 then [] else
    (List.range ((a + n - 1 - windowBase) / 8 + 1 - (a - windowBase) / 8)).map fun k => (a - windowBase) / 8 + k

/-- Writes words into the ring window. -/
def putWords (s : State) (a : Nat) (ws : List Nat) : State :=
  bankWrittenAll { s with mgmt := { s.mgmt with window := winPutWords s.mgmt.window a ws } } 8
    (windowWords a (4 * ws.length))

/-- Writes bytes into the ring window. -/
def putBytes (s : State) (a : Nat) (bs : List Byte) : State :=
  bankWrittenAll { s with mgmt := { s.mgmt with window := winPutBytes s.mgmt.window a bs } } 8
    (windowWords a bs.length)

/-! Location codes (R18, R19, R484). -/

def loc (level region cls inst unit : Nat) : Nat :=
  level * 2 ^ 28 + region * 2 ^ 24 + cls * 2 ^ 20 + inst * 2 ^ 12 + unit

/-- The region code of a line lane: LINE_A for lanes 0-3, LINE_B for 4-7 (R5). -/
def lineRegion (n : Nat) : Nat := if n < 4 then 3 else 4

/-- The region code of a host lane: HOST_A for lanes 0-7, HOST_B for 8-15 (R5). -/
def hostRegion (n : Nat) : Nat := if n < 8 then 5 else 6

def locLine (n : Nat) : Nat := loc 2 (lineRegion n) 1 n 0xFFF
def locLineUnit (n u : Nat) : Nat := loc 1 (lineRegion n) 1 n u
def locHost (n : Nat) : Nat := loc 2 (hostRegion n) 2 n 0xFFF
def locHostUnit (n u : Nat) : Nat := loc 1 (hostRegion n) 2 n u
def locPort (p : Nat) : Nat := loc 2 2 3 p 0xFFF
def locPortUnit (p u : Nat) : Nat := loc 1 2 3 p u
def locPool (d : Nat) : Nat := loc 2 2 4 d 0xFFF
def locPoolMember (d m : Nat) : Nat := loc 1 2 4 d m
def locMgmt (f : Nat) : Nat := loc 2 1 9 f 0xFFF
def locCoreFn (i u : Nat) : Nat := loc (if u = 0xFFF then 2 else 1) 2 0xB i u
def locDie (i u : Nat) : Nat := loc 4 0xF 0xC i u
def locPackage (i : Nat) : Nat := loc 5 0xF 0xD i 0xFFF
def locRegion (r : Nat) : Nat := loc 3 r 0xF 0xFF 0xFFF
def locPll (r i : Nat) : Nat := loc 2 r 0xA i 0xFFF
def locSys (i u : Nat) : Nat := loc 6 0xF 0xE i u

/-- The macro and the bank within it of bank index k (R355). -/
def bankMacro (k : Nat) : Nat × Nat :=
  if k < 8 then (0, k) else if k = 8 then (1, 0) else if k < 12 then (2, k - 9) else if k < 28 then (3, k - 12)
  else if k < 44 then (4, k - 28) else if k < 60 then (5, k - 44) else if k = 60 then (6, 0)
  else if k < 63 then (7, k - 61) else (8, 0)

/-- The region of a bank: management SRAM in MGMT, sense coefficients in CONTROL, the others in MEMORY (R355). -/
def bankRegion (k : Nat) : Nat := if k < 8 then 1 else if k = 63 then 7 else 8

/-- Words per bank (R355). -/
def bankWords (k : Nat) : Nat :=
  if k < 9 then 32768 else if k = 9 then 16384 else if k = 10 then 12288 else if k = 11 then 4096
  else if k < 28 then 10923 else if k < 44 then 8192 else if k < 60 then 4096 else if k = 60 then 2048
  else if k < 63 then 2112 else 64

def locBank (k : Nat) : Nat := loc 1 (bankRegion k) 8 (bankMacro k).1 (bankMacro k).2

/-! Rings (R322, R323). -/

def cmdRingBase (s : State) : Nat := windowBase + rd s F.RING_LAYOUT_CMD_BASE * 4096
def cplRingBase (s : State) : Nat := windowBase + rd s F.RING_LAYOUT_CPL_BASE * 4096
def evtRingBase (s : State) : Nat := windowBase + rd s F.RING_LAYOUT_EVT_BASE * 4096
def cmdRingSize (s : State) : Nat := 16 * 2 ^ rd s F.RING_LAYOUT_CMD_SZ
def cplRingSize (s : State) : Nat := 16 * 2 ^ rd s F.RING_LAYOUT_CPL_SZ
def evtRingSize (s : State) : Nat := 16 * 2 ^ rd s F.RING_LAYOUT_EVT_SZ

/-- Entries a ring holds: (producer - consumer) mod 2^16 (R323). -/
def ringFill (prod cons : Nat) : Nat := (prod + 2 ^ 16 - cons) % 2 ^ 16

def cmdFill (s : State) : Nat := ringFill (rd s F.DB_CMD_PROD) (rd s F.RING_CMD_CONS_CONS)
def cplFill (s : State) : Nat := ringFill (rd s F.RING_CPL_PROD_PROD) (rd s F.DB_CPL_ACK_ACK)
def evtFill (s : State) : Nat := ringFill (rd s F.RING_EVT_PROD_PROD) (rd s F.DB_EVT_ACK_ACK)

/-- The bulk area's end, as an offset from the window's base (R322). -/
def bulkEnd (s : State) : Nat :=
  let lowest := min (rd s F.RING_LAYOUT_CMD_BASE) (min (rd s F.RING_LAYOUT_CPL_BASE) (rd s F.RING_LAYOUT_EVT_BASE)) * 4096
  if rd s F.RING_LAYOUT_CMIS_EN = 1 then min lowest 0x20000 else lowest

def ready (s : State) : Bool := rd s F.RING_STATUS_READY == 1

/-! Counters (R288, R290, R296, R297). -/

def counter (s : State) (i : Nat) : Nat := (aGet s.obs.counters i).getD 0

/-- The multiples of 2^K that an advance crosses (R297). -/
def crossings (old n k : Nat) : Nat := (old + n) / 2 ^ k - old / 2 ^ k

/-- Sampling slots that watch counter i take the crossings of its advance into their debt (R297). -/
def slotDebts (s : State) (i old n : Nat) : Vector SampleSlot 32 :=
  Vector.ofFn fun k : Fin 32 =>
    let q := s.obs.slots[k]
    if rd s F.CNT_SLOT_s_EN k = 1 ∧ rd s F.CNT_SLOT_s_COUNTER k = i ∧ 0 < crossings old n (rd s F.CNT_SLOT_s_K k) then
      { q with owed := min 255 (q.owed + crossings old n (rd s F.CNT_SLOT_s_K k)), value := (old + n) % 2 ^ 48 }
    else q

/-- Counter i advances by n and wraps at 2^48 (R288); its word is written (R358). -/
def bumpRaw (s : State) (i n : Nat) : State :=
  if n = 0 then s else
  let old := counter s i
  bankWritten { s with obs := { s.obs with
    slots := slotDebts s i old n
    counters := aSet s.obs.counters i ((old + n) % 2 ^ 48) } } 60 i

/-! Events and the prompt book (R329, R330, R375-R380). -/

/-- An event to raise: code, location, data words, and the show clock it carries, if any (R329). -/
structure Ev where
  code : Nat
  loc : Nat
  d0 : Nat := 0
  d1 : Nat := 0
  sc : Option (Nat × Dir × ShowClock) := none
  deriving DecidableEq, Repr

/-- An event without a show clock. -/
def ev (code l : Nat) (d0 : Nat := 0) (d1 : Nat := 0) : Ev := ⟨code, l, d0, d1, none⟩

/-- The eight words of an event record (R329). -/
def evWords (s : State) (e : Ev) : List Nat :=
  let (w0, c0, c1) := match e.sc with
    | none => (0, 0, 0)
    | some (p, d, c) => (2 ^ 20 + d.bit * 2 ^ 19 + p * 2 ^ 16, c.count.toNat % 2 ^ 32,
        c.epoch.toNat * 2 ^ 16 + c.count.toNat / 2 ^ 32)
  [s.mgmt.evtSeq.toNat * 2 ^ 24 + w0 + e.code, e.loc, s.time.hc.toNat % 2 ^ 32, s.time.hc.toNat / 2 ^ 32, c0, c1,
    e.d0 % 2 ^ 32, e.d1 % 2 ^ 32]

/-- Writes a record into the event ring and advances its producer (R323). -/
def pushEvent (s : State) (ws : List Nat) : State :=
  let i := rd s F.RING_EVT_PROD_PROD
  wr (putWords s (evtRingBase s + (i % evtRingSize s) * 32) ws) F.RING_EVT_PROD_PROD (i + 1)

/-- The next event's sequence number is taken (R329). -/
def nextEvtSeq (s : State) : State := { s with mgmt := { s.mgmt with evtSeq := s.mgmt.evtSeq + 1 } }

/-- Is the section's record with this sequence number held (R378)? -/
def Section.holds (sec : Section) (seq : Nat) : Bool :=
  decide ((sec.markerSeq + 2 ^ 24 - seq) % 2 ^ 24 ≤ (sec.markerSeq + 2 ^ 24 - sec.firstSeq) % 2 ^ 24)

def recordHeld (b : BookState) (seq : Nat) : Bool := b.sections.toList.any fun o => o.elim false (·.holds seq)

/-- The slot the writer fills: the first from `slot` on whose record is not held (R378). -/
def freeSlot (b : BookState) : Nat → Nat → Nat
  | 0, slot => slot
  | fuel + 1, slot =>
    match aGet b.records slot with
    | some r => if recordHeld b r.seq then freeSlot b fuel ((slot + 1) % 4096) else slot
    | none => slot

/-- A prompt-book record is written (R375): word 0 from the kind and the next sequence. -/
def bookWrite (s : State) (kind w1 l d0 d1 count : Nat) : State :=
  let slot := freeSlot s.book 2100 s.book.nextSlot
  let ws : Vector Word 8 := #v[BitVec.ofNat 32 (kind * 2 ^ 24 + s.book.nextSeq),
    BitVec.ofNat 32 (w1 + b2n s.time.estimated * 2 ^ 21), BitVec.ofNat 32 l,
    BitVec.ofNat 32 s.time.hc.toNat, BitVec.ofNat 32 (s.time.hc.toNat / 2 ^ 32), BitVec.ofNat 32 count,
    BitVec.ofNat 32 d0, BitVec.ofNat 32 d1]
  let s1 := { s with book := { s.book with
    records := aSet s.book.records slot ⟨s.book.nextSeq, ws⟩
    nextSeq := (s.book.nextSeq + 1) % 2 ^ 24
    nextSlot := (slot + 1) % 4096 } }
  bankWrittenAll s1 9 [4 * slot, 4 * slot + 1, 4 * slot + 2, 4 * slot + 3]

/-- An EVENT record, when the event's group byte is enabled (R376). -/
def bookEvent (s : State) (e : Ev) : State :=
  let g := bitsOf e.code 14 8
  if 1 ≤ g ∧ g ≤ 13 ∧ (rd s F.PB_CTRL_GROUPS).testBit (g - 1) then
    match e.sc with
    | none => bookWrite s 1 e.code e.loc e.d0 e.d1 0
    | some (p, d, c) =>
      bookWrite s 1 (2 ^ 20 + d.bit * 2 ^ 19 + p * 2 ^ 16 + e.code) e.loc e.d0 e.d1 (c.count.toNat % 2 ^ 32)
  else s

/-- May the ring engine write now: it has seen READY since the last reset that reached it (R330), and there is room. -/
def evtRoom (s : State) : Bool := !s.mgmt.engineHeld && decide (evtFill s < evtRingSize s)

/-- EVENTS_LOST is written first once the ring has space, and EVT_LOST clears (R330). -/
def drainLost (s : State) : State :=
  if rd s F.RING_STATUS_EVT_LOST ≠ 0 ∧ evtRoom s = true then
    let e : Ev := { code := 0x8101, loc := locMgmt 6, d0 := rd s F.RING_STATUS_EVT_LOST }
    wr (bookEvent (nextEvtSeq (pushEvent s (evWords s e))) e) F.RING_STATUS_EVT_LOST 0
  else s

/-- An event is raised: written to the event ring, or dropped and counted when it is full or the ring engine waits
(R330); the prompt book records it either way (R376). -/
def raiseEvent (s0 : State) (e : Ev) : State :=
  let s := drainLost s0
  let s1 := if evtRoom s then pushEvent s (evWords s e) else incSat s F.RING_STATUS_EVT_LOST
  bookEvent (nextEvtSeq s1) e

/-- The records before a new marker that its section takes: back to 1,024, or to an earlier held section's marker, or to
the first record ever written (R378). -/
def sectionReach (b : BookState) : Nat :=
  b.sections.toList.foldl (fun n o => match o with
    | some sec => min n ((b.nextSeq + 2 ^ 24 - sec.markerSeq - 1) % 2 ^ 24)
    | none => n) (min 1024 b.records.length)

/-- A failure trigger writes its curtain marker and freezes a section, or finds two held (R377, R378). `d1` replaces data
word 1 for PB_MARK. -/
def curtain (s : State) (trigger code l : Nat) (d1 : Option Nat := none) : State :=
  let reach := sectionReach s.book
  let seq := s.book.nextSeq
  let first := (seq + 2 ^ 24 - reach) % 2 ^ 24
  match (if (vGet s.book.sections 0 none).isNone then some 0
         else if (vGet s.book.sections 1 none).isNone then some 1 else none) with
  | some k =>
    let s1 := bookWrite s 2 code l (trigger + k * 2 ^ 5) (d1.getD first) 0
    let s2 := { s1 with book := { s1.book with sections := vSet s1.book.sections k (some ⟨first, seq, trigger⟩) } }
    let s3 := if rd s2 F.PB_CTRL_FLASH_COPY = 1 then
      { s2 with book := { s2.book with queued := s2.book.queued ++ [trigger] } } else s2
    raiseEvent s3 { code := 0x8B01, loc := locRegion 2, d0 := k + trigger * 2 ^ 4, d1 := seq }
  | none =>
    let s1 := bookWrite s 2 code l (trigger + 2 ^ 4) (d1.getD first) 0
    let s2 := incSat s1 F.PB_STATS_MISSED
    raiseEvent s2 { code := 0x8B02, loc := locRegion 2, d0 := trigger * 2 ^ 4, d1 := seq }

/-! Uncorrectable words (R363). -/

/-- The degree-7 field of R356: multiplication by alpha, a root of x^7 + x^3 + 1. -/
def bchTimesAlpha (x : Nat) : Nat := if x ≥ 64 then (x * 2 % 128) ^^^ 9 else x * 2

/-- Powers of alpha. -/
def bchPow : Nat → Nat
  | 0 => 1
  | n + 1 => bchTimesAlpha (bchPow n)

/-- The stored bit positions in error. -/
def errBits (m : BitVec 79) : List Nat := whichBelow 79 fun k => m.getLsbD k

/-- The code position of stored bit k < 78: data bits 0..63 at degrees 14..77, check bits 64..77 at degrees 0..13; bit 78
is the overall parity (log entry 7). -/
def bchDegree (k : Nat) : Nat := if k < 64 then k + 14 else k - 64

/-- The syndromes S1, S3 and the overall parity of an error pattern. -/
def bchSyndrome (bs : List Nat) : Nat × Nat × Bool :=
  let inner := bs.filter (· < 78)
  (inner.foldl (fun a k => a ^^^ bchPow (bchDegree k)) 0, inner.foldl (fun a k => a ^^^ bchPow (3 * bchDegree k)) 0,
    bs.length % 2 == 1)

/-- A read's outcome (R356). -/
inductive EccOutcome where
  | clean
  | corr1 (bit : Nat)
  | corr2 (bit1 bit2 : Nat)
  | uncorr
  deriving DecidableEq, Repr

/-- The pairs of positions below n, lower first. -/
def pairsBelow (n : Nat) : List (Nat × Nat) := (List.range n).flatMap fun b => (List.range b).map fun a => (a, b)

/-- The decoder of R356 on an error pattern: the pattern of at most two bits with its syndrome, if there is one. Patterns
of up to three bits decode by their number; a heavier one as its syndrome falls. -/
def eccDecode (m : BitVec 79) : EccOutcome :=
  match errBits m with
  | [] => .clean
  | [a] => .corr1 a
  | [a, b] => .corr2 a b
  | [_, _, _] => .uncorr
  | bs =>
    let sy := bchSyndrome bs
    if sy = bchSyndrome [] then .clean else
    match (List.range 79).find? fun k => bchSyndrome [k] == sy with
    | some k => .corr1 k
    | none =>
      match (pairsBelow 79).find? fun p => bchSyndrome [p.1, p.2] == sy with
      | some p => .corr2 p.1 p.2
      | none => .uncorr

/-- A word's stored error pattern; a remapped word is served by its spare, whose pattern is listed under the same
address once the remap is installed (R362). -/
def wordErrs (s : State) (k a : Nat) : BitVec 79 := (aGet (bankOf s k).errs a).getD 0

/-- The running image writes a word of management memory when it is loaded: the word lies in a section (R355, R424). -/
def inSection (h : List Nat) (k a : Nat) : Bool :=
  (List.range 8).any fun j =>
    let at0 := h[10 + 4 * j]?.getD 0
    decide (at0 < 0x40000 * k + 8 * a + 8) && decide (0x40000 * k + 8 * a < at0 + h[9 + 4 * j]?.getD 0)

/-- A word's valid bit (R358). In management memory, while an image is loaded: the words of the image, and those that Mexis has written
since, which the manual does not tell; in the settings cache, the words of the block (log entry 100). -/
def wordValid (s : State) (k a : Nat) : Bool :=
  if k < 8 then
    match s.sec.running with
    | some i => inSection ((s.sec.images[i].map (·.header)).getD []) k a || Config.mexisWord k a
    | none => false
  else if k = 11 then
    match s.sec.cache with
    | some b => decide (8 * a < 16 + b.length)
    | none => false
  else (bankOf s k).valid.contains a

/-- A word that reads as poisoned: the valid bit takes precedence (R358). -/
def isPoisoned (s : State) (k a : Nat) : Bool := (bankOf s k).poison.contains a && wordValid s k a

/-- A new uncorrectable word is counted in 0x755, captured where nothing is held, raised, and marked in the prompt book (R363). -/
def announceUncorr (count : State → State) (s : State) (k a : Nat) (scrub : Bool) : State :=
  let s2 := count s
  let s3 := if rd s2 F.MEM_ERR_INFO_VALID = 0 then
      wr (wr (wrB (wr s2 F.MEM_ERR_INFO_VALID 1) F.MEM_ERR_INFO_SCRUB scrub) F.MEM_ERR_INFO_BANK k) F.MEM_ERR_INFO_ADDR a
    else s2
  let s4 := raiseEvent s3 { code := 0x8A01, loc := locBank k, d0 := a, d1 := b2n scrub }
  curtain s4 1 0x8A01 (locBank k)

/-- What a counter's word reads as before it advances (R357, R358, R363). -/
inductive CounterRead where
  | clean
  | corrected
  | poisoned
  | lost
  deriving DecidableEq, Repr

def counterFound (s : State) (i : Nat) : CounterRead :=
  if isPoisoned s 60 i then .poisoned
  else match (if wordValid s 60 i then eccDecode (wordErrs s 60 i) else .clean) with
    | .clean => .clean
    | .corr1 _ => .corrected
    | .corr2 _ _ => .corrected
    | .uncorr => .lost

/-- A counter restarts at 0; found lost just now, it is marked for the next snapshot (R296). -/
def counterRestart (s : State) (i : Nat) (found : Bool) : State :=
  { s with obs := { s.obs with
    counters := aSet s.obs.counters i 0
    invalid := if found then s.obs.invalid ++ [i] else s.obs.invalid } }

/-- Counter i advances by n. Its word is read first: a correctable word is counted in 0x753 (R357), one already poisoned in 0x757 (R358);
an uncorrectable one restarts the counter at 0, marks it for the next snapshot, and is reported (R296, R363). Those counts are counters
with words of their own; each word on the way has been written anew before the next is read, so that the fuel never runs out. -/
def bumpBy : Nat → State → Nat → Nat → State
  | 0, s, i, n => bumpRaw s i n
  | k + 1, s, i, n =>
    match counterFound s i with
    | .clean => bumpRaw s i n
    | .corrected => bumpBy k (bumpRaw s i n) 0x753 1
    | .poisoned => bumpBy k (bumpRaw (counterRestart s i false) i n) 0x757 1
    | .lost => announceUncorr (fun t => bumpBy k t 0x755 1) (bumpRaw (counterRestart s i true) i n) 60 i false

def bump (s : State) (i n : Nat) : State := if n = 0 then s else bumpBy 6 s i n

/-- The first read that finds UNCORR poisons the word and reports it; a word of the ring window reads 0 from then on (R363). -/
def reportUncorr (s : State) (k a : Nat) (scrub : Bool) : State :=
  let s0 := setBank s k { bankOf s k with poison := (bankOf s k).poison ++ [a] }
  let s1 := if k = 8 then { s0 with mgmt := { s0.mgmt with
      window := winPutWords s0.mgmt.window (windowBase + 8 * a) [0, 0] } } else s0
  announceUncorr (fun t => bump t 0x755 1) s1 k a scrub

/-- A functional read of a word: one never written is clean (R358); else counts a correction (R357), reports a new uncorrectable word
(R363) or counts one already poisoned (R358); the answer says whether the word is lost. -/
def eccRead (s : State) (k a : Nat) : State × Bool :=
  if isPoisoned s k a then (bump s 0x757 1, true)
  else if !wordValid s k a then (s, false)
  else match eccDecode (wordErrs s k a) with
    | .clean => (s, false)
    | .corr1 _ => (bump s 0x753 1, false)
    | .corr2 _ _ => (bump s 0x753 1, false)
    | .uncorr => (reportUncorr s k a false, true)

/-- Reads of several words: the state after them, and whether any is lost. -/
def eccThrough (k : Nat) : List Nat → State → State
  | [], s => s
  | a :: as, s => eccThrough k as (eccRead s k a).1
def eccLost (k : Nat) : List Nat → State → Bool
  | [], _ => false
  | a :: as, s => (eccRead s k a).2 || eccLost k as (eccRead s k a).1
def eccReadAll (s : State) (k : Nat) (as : List Nat) : State × Bool := (eccThrough k as s, eccLost k as s)

/-- A window word as every interface reads it: 0 where its stored word is lost (R363, bank 8). -/
def winRead (s : State) (a : Nat) : Nat :=
  if isPoisoned s 8 ((a - windowBase) / 8) then 0 else winWord s.mgmt.window a

/-- A command's read of n words from a window address: the stored words are checked (R357, R363), then read. -/
def fetchWords (s : State) (a n : Nat) : State × List Nat :=
  let t := (eccReadAll s 8 (windowWords a (4 * n))).1
  (t, (List.range n).map fun k => winRead t (a + 4 * k))

/-- Counter indexes of R290. -/
def cntLine (n k : Nat) : Nat := 64 * n + k
def cntHost (n k : Nat) : Nat := 0x200 + 16 * n + k
def cntPort (p : Nat) (d : Dir) (k : Nat) : Nat := 0x300 + 128 * p + (match d with | .tx => 0 | .rx => 48) + k
def cntErasure (p f : Nat) : Nat := 0x300 + 128 * p + 96 + min f 31

/-! Commands of the command ring (R324-R328, R332). -/

/-- The status codes of R327. -/
def stOK : Nat := 0
def stOpcode : Nat := 1
def stParam : Nat := 2
def stRange : Nat := 3
def stState : Nat := 4
def stBusy : Nat := 5
def stLocked : Nat := 6
def stLifecycle : Nat := 7
def stAuth : Nat := 8
def stNoSpace : Nat := 9
def stConflict : Nat := 10
def stTimeout : Nat := 11
def stHwFault : Nat := 12
def stAborted : Nat := 13
def stImage : Nat := 14
def stUnsupported : Nat := 15

/-- Writes a completion and advances its producer; NOTIFY also raises CMD_DONE (R325, R326). -/
def writeCompletion (s : State) (w : Waiting) : State :=
  let i := rd s F.RING_CPL_PROD_PROD
  let s1 := putWords s (cplRingBase s + (i % cplRingSize s) * 16)
    [w.tag.toNat * 2 ^ 16 + w.opcode, w.sub * 2 ^ 16 + w.code, w.r0 % 2 ^ 32, w.r1 % 2 ^ 32]
  let s2 := wr s1 F.RING_CPL_PROD_PROD (i + 1)
  if w.notify then raiseEvent s2 { code := 0x8103, loc := locMgmt 6, d0 := w.tag.toNat * 2 ^ 16 + w.code } else s2

/-- Completions that waited are written while the ring has room (R324). -/
def drainWaiting : List Waiting → State → State
  | [], s => { s with mgmt := { s.mgmt with waiting := [] } }
  | w :: ws, s =>
    if cplFill s < cplRingSize s then drainWaiting ws (writeCompletion s w)
    else { s with mgmt := { s.mgmt with waiting := w :: ws } }

/-- A command completes: its completion is written, or waits while the ring is full: none is overwritten (R324). -/
def complete (s : State) (tag : BitVec 16) (opcode : Nat) (notify : Bool) (code sub r0 r1 : Nat) : State :=
  let w : Waiting := ⟨tag, opcode, notify, code, sub, r0, r1⟩
  if s.mgmt.waiting.isEmpty && decide (cplFill s < cplRingSize s) then writeCompletion s w
  else { s with mgmt := { s.mgmt with waiting := s.mgmt.waiting ++ [w] } }

/-- What a command's own part answers: done with a status and results, or still in progress under a key. -/
inductive Reply where
  | done (code sub r0 r1 : Nat)
  | later (key aux : Nat)
  deriving DecidableEq, Repr

/-- Among the conditions that fail, the one with the lowest status code (R328). -/
def firstFail (cs : List (Bool × Nat × Nat)) : Option (Nat × Nat) :=
  cs.foldl (fun o c => if c.1 then
      match o with
      | none => some c.2
      | some b => if c.2.1 < b.1 then some c.2 else some b
    else o) none

/-- The first descriptor word with a reserved bit set (R328 step 2): word 1 has only NOTIFY; each parameter word has the
bits of its mask. -/
def reservedWord (c : Cmd) (masks : List (Nat × Nat)) : Option Nat :=
  if c.w1rest ≠ 0 then some 1 else
    (List.range 14).map (· + 2) |>.find? fun k =>
      (c.w k) &&& (2 ^ 32 - 1 - ((aGet masks k).getD 0)) != 0

/-- The sixteen words of a descriptor (R325). -/
def cmdWords (c : Cmd) (opcode : Nat) : List Nat :=
  (c.tag.toNat * 2 ^ 16 + opcode) :: (c.w1rest.toNat * 2 + b2n c.notify) :: c.params.toList.map (·.toNat)

/-- The address of the slot consumed next. -/
def cmdSlot (s : State) : Nat := cmdRingBase s + (rd s F.RING_CMD_CONS_CONS % cmdRingSize s) * 64

/-- The words of the slot consumed next, as they were written (R325). -/
def slotData (s : State) : List Nat := (List.range 16).map fun k => winWord s.mgmt.window (cmdSlot s + 4 * k)

/-- The slot consumed next holds this command. -/
def frontIs (s : State) (opcode : Nat) (c : Cmd) : Bool := decide (0 < cmdFill s) && slotData s == cmdWords c opcode

/-- The host offers the command (log entry 3): unless it waits in the slot consumed next, its descriptor is written to the next free slot
and the doorbell advances; a full ring takes none (R323, R324). -/
def offer (s : State) (opcode : Nat) (c : Cmd) : State :=
  if frontIs s opcode c || decide (cmdRingSize s ≤ cmdFill s) then s
  else
    wr (putWords s (cmdRingBase s + (rd s F.DB_CMD_PROD % cmdRingSize s) * 64) (cmdWords c opcode)) F.DB_CMD_PROD
      (rd s F.DB_CMD_PROD + 1)

/-- Commands consumed and not completed (R324). -/
def inProgressCount (s : State) : Nat := s.mgmt.inProgress.length + s.mgmt.waiting.length

/-- The device is not held in reset and CORE has its supply. -/
def deviceUp (s : State) : Bool :=
  match s.power.mode with
  | .show => true
  | .enteringIntermission => true
  | .intermission => true
  | .leavingIntermission => true
  | _ => false

/-- INT_N and ALARM_N are driven: they are released in DARK, from step c3 of its entry on, and in reset hold (R390, R396, R402). -/
def pinsDriven (s : State) : Bool :=
  deviceUp s || match s.power.mode with
    | .enteringDark k _ _ => decide (k ≤ 3)
    | _ => false

/-- In INTERMISSION the lookups, flow buckets and flow contexts stand in retention bias, without access (R387); R387 gives no code for a
command that names them, and the model completes it with E_STATE (log entry 180). -/
def retained (s : State) (k : Nat) : Bool := s.power.mode == .intermission && decide (12 ≤ k) && decide (k < 60)

/-- Mexis consumes while READY, fewer than 32 commands in progress, and the completion ring not full (R324); in recovery the
boot ROM does (R428). -/
def canConsume (s : State) : Bool :=
  deviceUp s && (ready s || s.sec.recovery) && decide (inProgressCount s < 32) && decide (cplFill s < cplRingSize s)

/-- The opcodes that the boot ROM serves in recovery (R428): DEV_NOP, AUTH_OPEN, AUTH_RESPOND and the FW_ commands. -/
def bootRomServes (opcode : Nat) : Bool := [0x0101, 0x0C01, 0x0C02, 0x0C20, 0x0C21, 0x0C22, 0x0C23, 0x0C24].contains opcode

/-- Mexis consumes this command: it may consume, and the command is the next in ring order (R324). -/
def consumes (s : State) (opcode : Nat) (c : Cmd) : Bool := canConsume s && frontIs s opcode c

/-- The word addresses in bank 8 of the slot consumed next. -/
def slotWords (s : State) : List Nat := windowWords (cmdSlot s) 64

/-- The slot is freed. -/
def slotFreed (s : State) : State := wr s F.RING_CMD_CONS_CONS (rd s F.RING_CMD_CONS_CONS + 1)

/-- The slot is copied out and freed: its words are read (R357, R363, bank 8). -/
def slotRead (s : State) : State := eccThrough 8 (slotWords s) (slotFreed s)

/-- Some word of the slot cannot be read. -/
def slotUncorr (s : State) : Bool := eccLost 8 (slotWords s) (slotFreed s)

/-- The command ends with a reply: a completion, or an entry in the list of commands in progress. -/
def finish (opcode : Nat) (c : Cmd) (s : State) (r : Reply) : State :=
  match r with
  | .done code sub r0 r1 => complete s c.tag opcode c.notify code sub r0 r1
  | .later key aux =>
    { s with mgmt := { s.mgmt with inProgress := s.mgmt.inProgress ++ [⟨c.tag, opcode, c.notify, key, aux⟩] } }

/-- A ring command (R324, R328): offered, consumed when it is the next and Mexis may consume, checked for reserved bits, then for the life
cycle and the session, then by its own part, which answers the new state and the reply. In recovery every opcode that the boot
ROM does not serve completes with E_STATE (R428). -/
def hostCmd (opcode : Nat) (masks : List (Nat × Nat)) (gate : State → Option (Nat × Nat)) (c : Cmd)
    (body : State → State × Reply) (s0 : State) : State :=
  let s := offer s0 opcode c
  if consumes s opcode c then
    let t := slotRead s
    if slotUncorr s then finish opcode c t (.done stHwFault 0x0A01 0 0)
    else if s.sec.recovery && !bootRomServes opcode then finish opcode c t (.done stState 0 0 0)
    else match reservedWord c masks with
      | some k => finish opcode c t (.done stParam k 0 0)
      | none =>
        match gate t with
        | some (code, sub) => finish opcode c t (.done code sub 0 0)
        | none => finish opcode c (body t).1 (body t).2
  else s

/-- No life-cycle or session condition. -/
def noGate (_ : State) : Option (Nat × Nat) := none

/-- A command's own part that first tests its conditions (R328) and, when none fails, acts. -/
def withChecks (cs : State → List (Bool × Nat × Nat)) (act : State → State × Reply) (s : State) : State × Reply :=
  match firstFail (cs s) with
  | some (code, sub) => (s, .done code sub 0 0)
  | none => act s

/-- The first command in progress with an opcode and key, and the list without it. -/
def takeProg (opcode key : Nat) : List InProg → Option (InProg × List InProg)
  | [] => none
  | p :: ps => if p.opcode = opcode ∧ p.key = key then some (p, ps) else
      (takeProg opcode key ps).map fun q => (q.1, p :: q.2)

/-- Is a command of this opcode and key in progress? -/
def progHas (s : State) (opcode key : Nat) : Bool := s.mgmt.inProgress.any fun p => p.opcode == opcode && p.key == key

/-- Management restarts: from the reset until READY (R332). -/
def restarting (s : State) : Bool := rd s F.RING_STATUS_RESTARTING == 1

/-- The key of a command in progress whose end came while management restarted: READY completes it with E_ABORTED (R332). -/
def endedKey : Nat := 2 ^ 32

/-- An event that Mexis raises itself: only while Mexis runs (R330, log entry 174). -/
def raiseMexis (s : State) (e : Ev) : State := if restarting s then s else raiseEvent s e

/-- A command in progress completes (R324); with none of that opcode and key, nothing happens. While management restarts no completion is
written: the command stays in progress (R332). -/
def completeProg (s : State) (opcode key code sub r0 r1 : Nat) : State :=
  match takeProg opcode key s.mgmt.inProgress with
  | some (p, rest) =>
    if restarting s then { s with mgmt := { s.mgmt with inProgress := rest ++ [{ p with key := endedKey }] } }
    else complete { s with mgmt := { s.mgmt with inProgress := rest } } p.tag opcode p.notify code sub r0 r1
  | none => s

/-- The bulk area as a target: offset a multiple of 4 and the range inside it. -/
def bulkBad (s : State) (off len : Nat) : Bool := decide (bulkEnd s < off + len)

/-- Copies words into the bulk area at an offset. -/
def bulkWords (s : State) (off : Nat) (ws : List Nat) : State := putWords s (windowBase + off) ws

/-- A rate of at most n raises in one second (R338): the window after one more raise, and whether it is allowed. -/
def rateStep (s : State) (w : RateWindow) (n : Nat) : RateWindow × Bool :=
  if w.start + cyclesNs 1000000000 ≤ s.time.tick then (⟨s.time.tick, 1⟩, true)
  else if w.raised < n then (⟨w.start, w.raised + 1⟩, true) else (w, false)

end Sys2Proof.Machine
end

