-- ==== Sys2Proof/Machine/CommandTable.lean ====
section
/-! DEFINITION. The ring commands: each row's opcode, and the bits that its parameter words have (R325). Claims speak of this
table; the meanings carry their own. And the command that the ring itself brings. -/

namespace Sys2Proof.Machine

open Sys2Proof

/-- A ring command: its opcode, the masks of its parameter words by number, and its descriptor. -/
structure CommandRow where
  opcode : Nat
  masks : List (Nat × Nat)
  descriptor : Cmd
  deriving DecidableEq, Repr

/-- The row of a command that comes through the command ring with a defined opcode. -/
def commandRow (i : Instr) : Option CommandRow :=
  match i with
  | .devNop c => some ⟨0x0101, [], c⟩
  | .cmisLoad c => some ⟨0x0102, [(2, 0x3FF), (3, 0xFF), (4, 2 ^ 32 - 1), (5, 2 ^ 32 - 1)], c⟩
  | .linkRestart c => some ⟨0x0201, [(2, 7)], c⟩
  | .fecFence c => some ⟨0x0240, [(2, 1), (3, 15), (4, 1)], c⟩
  | .fecUnfence c => some ⟨0x0241, [(2, 1), (3, 15)], c⟩
  | .tpcSlip c => some ⟨0x0250, [(2, 0x1F), (3, 1), (4, 0xFFFF)], c⟩
  | .clkRefRevert c => some ⟨0x0260, [(2, 1)], c⟩
  | .lrxSpotStart c => some ⟨0x0301, [(2, 7), (3, 0x7F03)], c⟩
  | .lrxSpotRead c => some ⟨0x0302, [(2, 7), (3, 0xFFFFFFFF), (4, 0xFFFFFFFF), (5, 0xFFFFFFFF)], c⟩
  | .lrxSliceRetire c => some ⟨0x0303, [(2, 7), (3, 0x7F)], c⟩
  | .lrxSliceRestore c => some ⟨0x0304, [(2, 7), (3, 0x7F)], c⟩
  | .leqStateRead c => some ⟨0x0310, [(2, 7), (3, 0xFFFFFFFF)], c⟩
  | .leqStateLoad c => some ⟨0x0311, [(2, 7), (3, 0xFFFFFFFF)], c⟩
  | .ltxLutWrite c => some ⟨0x0320, [(2, 7), (3, 0xFFFF), (4, 0xFFFFFFFF), (5, 0xFFFFFFFF)], c⟩
  | .ltxLutRead c => some ⟨0x0321, [(2, 7), (3, 1), (4, 0xFFFF), (5, 0xFFFFFFFF), (6, 0xFFFFFFFF)], c⟩
  | .ltxLutClear c => some ⟨0x0322, [(2, 7)], c⟩
  | .xaStart c => some ⟨0x0323, [(2, 0xFF), (3, 0x71), (4, 0xFFFF), (5, 0xFFFF), (6, 0xFF), (7, 0xFFFF)], c⟩
  | .xaStop c => some ⟨0x0324, [(2, 0xFF), (3, 1)], c⟩
  | .hslRetrain c => some ⟨0x0330, [(2, 0xFFFF)], c⟩
  | .hslSliceRetire c => some ⟨0x0331, [(2, 0xF), (3, 0x3F)], c⟩
  | .hslSliceRestore c => some ⟨0x0332, [(2, 0xF), (3, 0x3F)], c⟩
  | .calRun c => some ⟨0x0401, [(2, 0x1F), (3, 0xFF), (4, 0xFFFF), (5, 0xFFFFFFFF), (6, 0xFFFFFF), (7, 1)], c⟩
  | .calAbort c => some ⟨0x0402, [], c⟩
  | .calRelease c => some ⟨0x0403, [(2, 0xFFFF)], c⟩
  | .loopClearHistory c => some ⟨0x0501, [(2, 0xFFFFFFFF)], c⟩
  | .loopResume c => some ⟨0x0502, [(2, 0x1F)], c⟩
  | .loopTarget c => some ⟨0x0503, [(2, 0x1F), (3, 0xFFFF)], c⟩
  | .loopPreset c => some ⟨0x0504, [(2, 0x1F), (3, 0xFFFFFFFF)], c⟩
  | .loopRead c => some ⟨0x0505, [(2, 0x1F)], c⟩
  | .loopEngineRestart c _ => some ⟨0x0506, [], c⟩
  | .bdacRange c => some ⟨0x0510, [(2, 0x1F), (3, 1)], c⟩
  | .snsCoefWrite c => some ⟨0x0511, [(2, 3), (3, 0xFFFFFFFF)], c⟩
  | .snsCoefRead c => some ⟨0x0512, [(2, 3), (3, 0xFFFFFFFF)], c⟩
  | .snapTake c => some ⟨0x0601, [], c⟩
  | .snapRead c => some ⟨0x0602, [(2, 1), (3, 0x7FF), (4, 0xFFFFFFFF), (5, 0xFFFFFFFF)], c⟩
  | .flowDump c => some ⟨0x0603, [(2, 0xFFFF), (3, 0xFFFFFFFF), (4, 0xFFFFFFFF)], c⟩
  | .flowRelease c => some ⟨0x0604, [], c⟩
  | .flowFlush c => some ⟨0x0605, [(2, 7), (3, 3)], c⟩
  | .asdBufSet c => some ⟨0x0701, ([(2, 15), (3, 15), (4, 0x3F)] ++ (List.range 8).map fun k => (5 + k, 0xFFFFFFFF)), c⟩
  | .asdSend c => some ⟨0x0702, [(2, 0xFF), (3, 15)], c⟩
  | .asdRxRead c => some ⟨0x0703, [(2, 7), (3, 15), (4, 0xFFFFFFFF)], c⟩
  | .asdKeySet c => some ⟨0x0704, ([(2, 3), (3, 0xFF)] ++ (List.range 8).map fun k => (4 + k, 2 ^ 32 - 1)), c⟩
  | .asdKeyClear c => some ⟨0x0705, [(2, 3)], c⟩
  | .asdAuthStart c => some ⟨0x0706, [(2, 0xFF)], c⟩
  | .asdLoadReset c => some ⟨0x0707, [(2, 0xFF)], c⟩
  | .cueSet c =>
    some ⟨0x0801, [(2, 0x7F), (3, 0x3F), (4, 0xFFFFFFFF), (5, 0xFFFF), (6, 0xFFFFFFFF), (7, if (c.w 3).testBit 4 then 0xFFFF else 0xFFFFFFFF), (8, 0xFF), (10, 0xFFFFFFFF)], c⟩
  | .cueCancel c => some ⟨0x0802, [(2, 0x3F)], c⟩
  | .cueRead c => some ⟨0x0803, [(2, 0x3F)], c⟩
  | .cueAgree c => some ⟨0x0804, [(2, 7), (4, 0xFFFFFFFF), (5, 0xFFFF), (6, 0xFFFF), (8, 0xFFFFFFFF), (10, 0xFFFFFFFF)], c⟩
  | .hcAdjust c => some ⟨0x0805, [(2, 0xFFFFFFFF), (3, 0xFFFFFFFF)], c⟩
  | .pwrEnter c _ => some ⟨0x0901, [(2, 3)], c⟩
  | .pwrExit c => some ⟨0x0902, [], c⟩
  | .rstWarm c => some ⟨0x0910, [], c⟩
  | .rstMgmt c => some ⟨0x0911, [], c⟩
  | .rstPort c => some ⟨0x0912, [(2, 7)], c⟩
  | .memRemap c => some ⟨0x0A01, [(2, 0x3F), (3, 0xFFFF)], c⟩
  | .memInject c => some ⟨0x0A02, [(2, 0x3F), (3, 0xFFFF), (4, 3), (5, 0x7F)], c⟩
  | .pbRead c => some ⟨0x0B01, [(2, 0xFFFFFF), (3, 0xFFFFFFFF), (4, 0xFFFFFFFF)], c⟩
  | .pbRelease c => some ⟨0x0B02, [(2, 3)], c⟩
  | .pbFlashRead c => some ⟨0x0B03, [(2, 1), (3, 0xFFFFFFFF), (4, 0xFFFFFFFF), (5, 0xFFFFFFFF)], c⟩
  | .pbMark c => some ⟨0x0B04, [(2, 0xFFFFFFFF)], c⟩
  | .authOpen c => some ⟨0x0C01, [(2, 2 ^ 32 - 1)], c⟩
  | .authRespond c => some ⟨0x0C02, [(2, 2 ^ 32 - 1)], c⟩
  | .authClose c => some ⟨0x0C03, [], c⟩
  | .lcAdvance c => some ⟨0x0C10, [(2, 7), (3, 2 ^ 32 - 1)], c⟩
  | .lcDiagOpen c => some ⟨0x0C11, [], c⟩
  | .secOtpProgram c _ => some ⟨0x0C12, [(2, 3), (3, 2 ^ 32 - 1)], c⟩
  | .secKeyRevoke c => some ⟨0x0C13, [(2, 1)], c⟩
  | .fwBegin c => some ⟨0x0C20, [(2, 2 ^ 32 - 1)], c⟩
  | .fwChunk c => some ⟨0x0C21, [(2, 2 ^ 32 - 1), (3, 2 ^ 32 - 1), (4, 2 ^ 32 - 1)], c⟩
  | .fwCommit c _ => some ⟨0x0C22, [], c⟩
  | .fwActivate c => some ⟨0x0C23, [], c⟩
  | .fwAbort c => some ⟨0x0C24, [], c⟩
  | .setSave c _ => some ⟨0x0C30, [], c⟩
  | .tstRehearse c => some ⟨0x0D01, [(2, 15), (3, 0xFF)], c⟩
  | .tstAbort c => some ⟨0x0D02, [], c⟩
  | .tstMemTest c => some ⟨0x0D03, [(2, 0x3F)], c⟩
  | .tstDress c => some ⟨0x0D04, [], c⟩
  | _ => none

/-- The commands whose row brings nothing beside the descriptor, by opcode. -/
def slotRows : List (Nat × (Cmd → Instr)) :=
  [(0x0101, .devNop), (0x0102, .cmisLoad)] ++
  [(0x0201, .linkRestart), (0x0240, .fecFence), (0x0241, .fecUnfence), (0x0250, .tpcSlip), (0x0260, .clkRefRevert)] ++
  [(0x0301, .lrxSpotStart), (0x0302, .lrxSpotRead), (0x0303, .lrxSliceRetire), (0x0304, .lrxSliceRestore), (0x0310, .leqStateRead), (0x0311, .leqStateLoad), (0x0320, .ltxLutWrite), (0x0321, .ltxLutRead), (0x0322, .ltxLutClear), (0x0323, .xaStart), (0x0324, .xaStop), (0x0330, .hslRetrain), (0x0331, .hslSliceRetire), (0x0332, .hslSliceRestore)] ++
  [(0x0401, .calRun), (0x0402, .calAbort), (0x0403, .calRelease)] ++
  [(0x0501, .loopClearHistory), (0x0502, .loopResume), (0x0503, .loopTarget), (0x0504, .loopPreset), (0x0505, .loopRead), (0x0510, .bdacRange), (0x0511, .snsCoefWrite), (0x0512, .snsCoefRead)] ++
  [(0x0601, .snapTake), (0x0602, .snapRead), (0x0603, .flowDump), (0x0604, .flowRelease), (0x0605, .flowFlush)] ++
  [(0x0701, .asdBufSet), (0x0702, .asdSend), (0x0703, .asdRxRead), (0x0704, .asdKeySet), (0x0705, .asdKeyClear), (0x0706, .asdAuthStart), (0x0707, .asdLoadReset)] ++
  [(0x0801, .cueSet), (0x0802, .cueCancel), (0x0803, .cueRead), (0x0804, .cueAgree), (0x0805, .hcAdjust)] ++
  [(0x0902, .pwrExit), (0x0910, .rstWarm), (0x0911, .rstMgmt), (0x0912, .rstPort)] ++
  [(0x0A01, .memRemap), (0x0A02, .memInject)] ++
  [(0x0B01, .pbRead), (0x0B02, .pbRelease), (0x0B03, .pbFlashRead), (0x0B04, .pbMark)] ++
  [(0x0C01, .authOpen), (0x0C02, .authRespond), (0x0C03, .authClose), (0x0C10, .lcAdvance), (0x0C11, .lcDiagOpen), (0x0C13, .secKeyRevoke), (0x0C20, .fwBegin), (0x0C21, .fwChunk), (0x0C23, .fwActivate), (0x0C24, .fwAbort)] ++
  [(0x0D01, .tstRehearse), (0x0D02, .tstAbort), (0x0D03, .tstMemTest), (0x0D04, .tstDress)]

/-- The opcodes whose row also brings what the state does not hold: such a command waits in its slot for its row (log entry 3). -/
def rowOpcodes : List Nat := [0x0506, 0x0901, 0x0C12, 0x0C22, 0x0C30]

/-- The command that the slot consumed next holds, read back from its words (R325). -/
def slotCmd (s : State) : Cmd :=
  let ws := slotData s
  let w := fun k => ws[k]?.getD 0
  { tag := BitVec.ofNat 16 (w 0 / 2 ^ 16)
    notify := (w 1).testBit 0
    w1rest := BitVec.ofNat 31 (w 1 / 2)
    params := Vector.ofFn fun k : Fin 14 => BitVec.ofNat 32 (w (k.val + 2)) }

/-- The opcode in that slot. -/
def slotOpcode (s : State) : Nat := ((slotData s)[0]?.getD 0) % 2 ^ 16

/-- The command that Mexis consumes by itself: the one in the slot consumed next, where it may consume; an opcode that no row has is one
too (R324, R328). -/
def slotInstr (s : State) : Option Instr :=
  if canConsume s && decide (0 < cmdFill s) then
    match aGet slotRows (slotOpcode s) with
    | some row => some (row (slotCmd s))
    | none =>
      if rowOpcodes.contains (slotOpcode s) then none
      else some (.undefinedOpcode (slotCmd s) (BitVec.ofNat 16 (slotOpcode s)))
  else none

end Sys2Proof.Machine
end

