-- ==== Sys2Proof/Machine/Arith.lean ====
section
/-! DEFINITION. The exact arithmetic of the control region (R250, R274, R279): saturation, convergent rounding, and the
tone generators' sine. -/

namespace Sys2Proof.Machine

open Sys2Proof

/-- num / den rounded to the nearest integer, ties to the even integer (R250), for den > 0. -/
def roundConv (num : Int) (den : Nat) : Int :=
  let q := num / (den : Int)
  let r := num % (den : Int)
  if 2 * r < den then q else if (den : Int) < 2 * r then q + 1 else if q % 2 = 0 then q else q + 1

/-- Clamped to the signed w-bit range (R250: sat16, sat40). -/
def satI (w : Nat) (x : Int) : Int := clampI (-((2 ^ (w - 1) : Nat) : Int)) (((2 ^ (w - 1) : Nat) : Int) - 1) x

/-- Did the saturation change the value? -/
def satHit (w : Nat) (x : Int) : Bool := satI w x != x

/-- A w-bit two's-complement value that wraps (R279). -/
def wrapI (w : Nat) (x : Int) : Int := toSigned w (ofSigned w x)

/-- An arithmetic value shifted left. -/
def shl (x : Int) (k : Nat) : Int := x * ((2 ^ k : Nat) : Int)

/-! The quarter wave of round_conv(32,767 sin(2 pi P / 1,024)) for P = 0..256, by R274's formula. -/

def sinTab0 : List Int :=
  [0, 201, 402, 603, 804, 1005, 1206, 1407, 1608, 1809, 2009, 2210, 2410, 2611, 2811, 3012,
   3212, 3412, 3612, 3811, 4011, 4210, 4410, 4609, 4808, 5007, 5205, 5404, 5602, 5800, 5998, 6195,
   6393, 6590, 6786, 6983, 7179, 7375, 7571, 7767, 7962, 8157, 8351, 8545, 8739, 8933, 9126, 9319,
   9512, 9704, 9896, 10087, 10278, 10469, 10659, 10849, 11039, 11228, 11417, 11605, 11793, 11980, 12167, 12353]
def sinTab1 : List Int :=
  [12539, 12725, 12910, 13094, 13279, 13462, 13645, 13828, 14010, 14191, 14372, 14553, 14732, 14912, 15090, 15269,
   15446, 15623, 15800, 15976, 16151, 16325, 16499, 16673, 16846, 17018, 17189, 17360, 17530, 17700, 17869, 18037,
   18204, 18371, 18537, 18703, 18868, 19032, 19195, 19357, 19519, 19680, 19841, 20000, 20159, 20317, 20475, 20631,
   20787, 20942, 21096, 21250, 21403, 21554, 21705, 21856, 22005, 22154, 22301, 22448, 22594, 22739, 22884, 23027]
def sinTab2 : List Int :=
  [23170, 23311, 23452, 23592, 23731, 23870, 24007, 24143, 24279, 24413, 24547, 24680, 24811, 24942, 25072, 25201,
   25329, 25456, 25582, 25708, 25832, 25955, 26077, 26198, 26319, 26438, 26556, 26674, 26790, 26905, 27019, 27133,
   27245, 27356, 27466, 27575, 27683, 27790, 27896, 28001, 28105, 28208, 28310, 28411, 28510, 28609, 28706, 28803,
   28898, 28992, 29085, 29177, 29268, 29358, 29447, 29534, 29621, 29706, 29791, 29874, 29956, 30037, 30117, 30195]
def sinTab3 : List Int :=
  [30273, 30349, 30424, 30498, 30571, 30643, 30714, 30783, 30852, 30919, 30985, 31050, 31113, 31176, 31237, 31297,
   31356, 31414, 31470, 31526, 31580, 31633, 31685, 31736, 31785, 31833, 31880, 31926, 31971, 32014, 32057, 32098,
   32137, 32176, 32213, 32250, 32285, 32318, 32351, 32382, 32412, 32441, 32469, 32495, 32521, 32545, 32567, 32589,
   32609, 32628, 32646, 32663, 32678, 32692, 32705, 32717, 32728, 32737, 32745, 32752, 32757, 32761, 32765, 32766]
def sinTab4 : List Int :=
  [32767]

def sinQuarter (p : Nat) : Int := (sinTab0 ++ sinTab1 ++ sinTab2 ++ sinTab3 ++ sinTab4)[p]?.getD 0

/-- sin and cos of a phase's bits [31:22], Q1.15 (R274). -/
def sinQ15 (p : Nat) : Int :=
  let q := p % 1024
  if q ≤ 256 then sinQuarter q else if q ≤ 512 then sinQuarter (512 - q) else if q ≤ 768 then - sinQuarter (q - 512)
  else - sinQuarter (1024 - q)

def cosQ15 (p : Nat) : Int := sinQ15 (p + 256)

end Sys2Proof.Machine
end

