-- ==== Sys2Proof/Machine/Chain.lean ====
section
/-! DEFINITION. The receive chain on numbers (chapter 05, R78-R94; chapter 04, R56, R57, R68): mapping and precoding, the restorer,
the FFE, the slicer, the sequence detector, the timing detector, and the windows' sums. -/

namespace Sys2Proof.Machine

open Sys2Proof

/-! Levels, pairs and precoding (R78, R79). -/

/-- The level of an integer value, and the value of a level (R78). -/
def levelOf (g : Nat) : Int := 2 * (g : Int) - 3
def valueOf (lvl : Int) : Nat := ((lvl + 3) / 2).toNat

/-- The Gray pair of an integer value, first bit high, and the value of a pair (R78). -/
def grayOf (g : Nat) : Nat := if g = 2 then 3 else if g = 3 then 2 else g
def valueOfPair (first second : Bool) : Nat := grayOf (2 * b2n first + b2n second)

/-- The two bits of an integer value, first bit first. -/
def pairBits (g : Nat) : List Bool := [(grayOf g).testBit 1, (grayOf g).testBit 0]

/-- Precoding (R79): what is sent for g after P, and what is recovered. -/
def precode (g prev : Nat) : Nat := (g + 4 - prev % 4) % 4
def deprecode (p prev : Nat) : Nat := (p + prev) % 4

/-- The value on an inverted lane: the first bit of the pair complemented (R170). -/
def invertValue (inv : Bool) (g : Nat) : Nat := if inv then 3 - g % 4 else g

/-- An arithmetic shift right: bits [.. : k] of an accumulator. -/
def sar (x : Int) (k : Nat) : Int := x / ((2 ^ k : Nat) : Int)

def atI (xs : List Int) (k : Nat) : Int := xs[k]?.getD 0

def sgn (x : Int) : Int := if 0 < x then 1 else if x < 0 then -1 else 0

/-! Level and ratio of ADC codes (R56, R57). -/

/-- num / den as an integer whose rounding the spec leaves open: up or down, by the place that rounds (log entry 136). -/
def freeRound (place : Nat) (num : Int) (den : Nat) : Int :=
  num / (den : Int) + (if num % (den : Int) = 0 then 0 else (b2n (Config.roundUp place num den) : Int))

/-- The square root of a / b in 1/256, its rounding open (R57, log entry 136), at most 16 bits. -/
def rootQ8 (a b : Nat) : Nat :=
  let r := Nat.sqrt (a * 65536 / b)
  min 0xFFFF (if r ^ 2 * b = a * 65536 then r else r + b2n (Config.roundUp 0 a b))

/-- The RMS of ADC codes, unsigned Q8.8 LSB (R57). -/
def rmsLevel (codes : List Int) : Nat :=
  if codes.isEmpty then 0 else rootQ8 ((codes.map fun x => (x ^ 2).toNat).sum) codes.length

/-- Consecutive pairs. -/
def pairsOf : List Int → List (Int × Int)
  | a :: b :: rest => (a, b) :: pairsOf (b :: rest)
  | _ => []

/-- rho's two sums (R56): of the squared differences, and of the squared sums of consecutive samples. -/
def rhoSums (codes : List Int) : Nat × Nat :=
  let ps := pairsOf codes
  ((ps.map fun e => ((e.2 - e.1) ^ 2).toNat).sum, (ps.map fun e => ((e.2 + e.1) ^ 2).toNat).sum)

/-- rho, unsigned Q4.12, its rounding open (log entry 136); at most 16 bits; over a denominator of 0 the spec
states none. -/
def rhoOf (codes : List Int) : Nat :=
  let q := rhoSums codes
  if q.2 = 0 then (Config.rhoAtZero q.1).toNat else min 0xFFFF (freeRound 2 (4096 * (q.1 : Int)) q.2).toNat

/-! The slice monitor's sums (R62). -/

/-- What the slice monitor finds of one in-service slice in a window of 4,096 samples (R62): all samples alike, the count of
-64 and +63 codes, the sum of the codes and the sum of their absolute values. -/
structure SliceStat where
  stuck : Bool
  oor : Nat
  sum : Int
  abs : Nat
  deriving DecidableEq, Repr

/-! The restorer (R80). -/

/-- The sum over a block of x - G l(d), in 1/1,024 LSB. -/
def residualSum (g : Nat) (x : List Int) (d : List Int) : Int :=
  ((x.zip d).map fun e => 1024 * e.1 - (g : Int) * e.2).sum

/-- The block mean that the restorer predicts three blocks on (R80), in LSB: a linear combination of the means it has, the newest first,
with the coefficients that the spec leaves open (log entry 52). -/
def predictedMean (residuals : List (Int × Nat)) : Rat :=
  ((residuals.zipIdx).map fun e => Config.restoreTap e.2 * ((e.1.1 : Rat) / (1024 * (e.1.2 : Rat)))).sum

/-- The block's x_r (R80): the predicted mean is taken from every sample, in 1/8 LSB, its rounding open (log entry 136), saturated to
ten bits; with the restorer off, 8 x. -/
def restore (on : Bool) (residuals : List (Int × Nat)) (x : List Int) : List Int :=
  if on then x.map fun (v : Int) =>
    let r : Rat := 8 * ((v : Rat) - predictedMean residuals)
    satI 10 (freeRound 1 r.num r.den)
  else x.map (8 * ·)

/-! The FFE (R81). -/

/-- y[k] for symbol n from the restorer output (R81): the list starts at the sample that tap T - 1 sees at symbol 0. -/
def ffeAt (taps xr : List Int) (n : Nat) : Int :=
  satI 12 (roundConv ((taps.zipIdx).foldl (fun a e => a + e.1 * atI xr (n + taps.length - 1 - e.2)) 0) (2 ^ 9))

/-- The samples the taps see over a block: the block with its neighbours, from the one tap T - 1 sees at its first symbol. -/
def ffeWindow (taps main : Nat) (prev cur next : List Int) : List Int :=
  (List.replicate (taps - 1) 0 ++ prev ++ cur ++ next).drop (prev.length + main)

/-! The slicer (R82-R84). -/

/-- The detector's settings: A, h_1 to h_4, the threshold table. -/
structure SlicerSet where
  a : Int
  h : List Int
  thr : List Int

/-- The level detected for z in context c (R82): a value equal to a threshold does not exceed it. -/
def sliceLevel (q : SlicerSet) (c : Nat) (z : Int) : Int :=
  2 * (((List.range 3).filter fun j => decide (atI q.thr (3 * c + j) < z)).length : Int) - 3

/-- The slicer over consecutive symbols (R82); a host lane has three taps. -/
def slicerRun (q : SlicerSet) : List Int → List Int → List DetSym
  | [], _ => []
  | y :: ys, prev =>
    let z := y - atI q.h 1 * atI prev 1 - atI q.h 2 * atI prev 2 - atI q.h 3 * atI prev 3
    let d := sliceLevel q (valueOf (atI prev 0)) z
    ⟨z, d, prev⟩ :: slicerRun q ys (d :: prev.take 3)

/-- The reliability of a sample against a threshold distance (R84): min(15, floor(|dist| / (A / 8))). -/
def relOf (a dist : Int) : Nat := if a = 0 then 15 else min 15 ((8 * dist.natAbs) / a.natAbs)

/-- The two reliabilities of a symbol (R84). -/
def slicerRel (q : SlicerSet) (x : DetSym) : Nat × Nat :=
  let t := fun j => atI q.thr (3 * valueOf (atI x.prev 0) + j)
  (relOf q.a (x.z - t 1), min (relOf q.a (x.z - t 0)) (relOf q.a (x.z - t 2)))

/-! The sequence detector (R85, R86). -/

/-- A symbol on a path: the level's value, the value its bits are taken from, and per bit the smallest path-metric difference at which a
discarded path carried the opposite bit. -/
structure PathSym where
  v : Nat
  g : Nat
  m0 : Option Nat
  m1 : Option Nat
  deriving DecidableEq, Repr

/-- A survivor: its metric and its path, newest first. -/
structure Survivor where
  metric : Nat
  path : List PathSym
  deriving DecidableEq, Repr

/-- The smaller of a difference and what stands. -/
def minDiff (x : Option Nat) (d : Nat) : Option Nat :=
  match x with
  | some k => some (min k d)
  | none => some d

/-- A symbol of the path kept meets the one of a path discarded by `d`. -/
def mergeSym (d : Nat) (w l : PathSym) : PathSym :=
  { w with
    m0 := if (grayOf w.g).testBit 1 = (grayOf l.g).testBit 1 then w.m0 else minDiff w.m0 d
    m1 := if (grayOf w.g).testBit 0 = (grayOf l.g).testBit 0 then w.m1 else minDiff w.m1 d }

/-- A survivor keeps its path against one it beats. -/
def beats (w l : Survivor) : Survivor := { w with path := (w.path.zip l.path).map fun e => mergeSym (l.metric - w.metric) e.1 e.2 }

/-- The place of the smallest of the metrics, the first on a tie (log entry 138). -/
def leastAt (ms : List Nat) : Nat := ms.findIdx fun m => ms.all (m ≤ ·)

/-- Of paths that meet, the best is kept, marked against every one it discards. -/
def keepBest (xs : List Survivor) : Survivor :=
  let k := leastAt (xs.map (·.metric))
  (xs.eraseIdx k).foldl beats (xs[k]?.getD ⟨0, []⟩)

/-- How a branch's bits are taken: by inversion and precoding decode (R79, R170). -/
structure BitsOf where
  inv : Bool
  precode : Bool

def BitsOf.value (k : BitsOf) (v prev : Nat) : Nat :=
  if k.precode then deprecode (invertValue k.inv v) (invertValue k.inv prev) else invertValue k.inv v

/-- One symbol (R85): state (a, b), 4 a + b, on level v leads to (v, a) with the metric (z - E[a][v])^2. -/
def seqStep (k : BitsOf) (e : List Int) (z : Int) (m : List Survivor) : List Survivor :=
  (List.range 16).map fun st =>
    let v := st / 4
    let a := st % 4
    let from_ := fun b =>
      let x := m[4 * a + b]?.getD ⟨0, []⟩
      (⟨x.metric + ((z - atI e (4 * a + v)) ^ 2).toNat, ⟨v, k.value v a, none, none⟩ :: x.path.take 32⟩ : Survivor)
    keepBest [from_ 0, from_ 1, from_ 2, from_ 3]

/-- The best survivor. -/
def seqBest : List Survivor → Survivor
  | [] => ⟨0, []⟩
  | x :: xs => xs.foldl (fun a b => if b.metric < a.metric then b else a) x

/-- The symbols that leave over a run of z, each after 32 further ones. -/
def seqRun (k : BitsOf) (e : List Int) : List Int → List Survivor → List PathSym
  | [], _ => []
  | z :: zs, m => ((seqBest (seqStep k e z m)).path[32]?).toList ++ seqRun k e zs (seqStep k e z m)

/-- The survivors after a run of z. -/
def seqAfter (k : BitsOf) (e : List Int) (zs : List Int) (m : List Survivor) : List Survivor :=
  zs.foldl (fun t z => seqStep k e z t) m

/-- Path metrics, the smallest taken as 0. -/
def seqMetrics (m : List Survivor) : List Nat := m.map fun x => x.metric - (seqBest m).metric

/-- The survivors a block starts from: the metrics held, or at the detector's start its state of the last two decisions (R86). -/
def seqStart (metrics : List Nat) (prev : List Int) : List Survivor :=
  if metrics.isEmpty then
    (List.range 16).map fun st =>
      ⟨if st = 4 * valueOf (atI prev 0) + valueOf (atI prev 1) then 0 else 2 ^ 40, []⟩
  else metrics.map (⟨·, []⟩)

/-- A bit's reliability (R85): min(15, floor(D / (A^2 / 2))). -/
def seqRel (a : Int) (d : Option Nat) : Nat :=
  match d with
  | some k => if a = 0 then 15 else min 15 (2 * k / (a ^ 2).toNat)
  | none => 15

/-- Levels replaced by the sequence detector's, each with the levels before it. -/
def withLevels : List DetSym → List PathSym → List Int → List DetSym
  | x :: xs, g :: gs, prev => ⟨x.z, levelOf g.v, prev⟩ :: withLevels xs gs (levelOf g.v :: prev.take 3)
  | _, _, _ => []

/-! The timing detector (R68). -/

/-- E_n over a block's symbols, from the y and the level before them. -/
def tedSum : Int → Int → List (Int × Int) → Int
  | _, _, [] => 0
  | yp, dp, (y, d) :: rest => (dp * y - d * yp) + tedSum y d rest

/-! Precoding decode and reliabilities of the slicer's symbols (R79, R84). -/

/-- Values and reliabilities of the bits: from the last value and its lowest reliability. -/
def decodeRun (precodeOn : Bool) : Nat → Nat → List (Nat × Nat × Nat) → List (Nat × Nat × Nat)
  | _, _, [] => []
  | vp, rp, (v, r0, r1) :: rest =>
    let lowest := min r0 r1
    (if precodeOn then (deprecode v vp, min lowest rp, min lowest rp) else (v, r0, r1)) ::
      decodeRun precodeOn v lowest rest

/-! Windows (R88, R94). -/

/-- z less what its level and context explain, by the offsets as they are used (R83, R88, R89, R94). -/
def offsetError (a h1 : Int) (ofs : List Int) (x : DetSym) : Int :=
  x.z - a * x.d - h1 * atI x.prev 0 - atI ofs (4 * valueOf (atI x.prev 0) + valueOf x.d)

/-- The symbols of a block that are outliers (R88). -/
def outliersIn (a h1 : Int) (ofs : List Int) (xs : List DetSym) : Nat :=
  (xs.filter fun x => decide (3 * a < 4 * ((offsetError a h1 ofs x).natAbs : Int))).length

/-- The histogram bin of a symbol: z - h_1 l(d[k-1]) in steps of 32 y-LSB about 32, the end bins open (R94). -/
def histBin (h1 : Int) (x : DetSym) : Nat := (clampI 0 63 ((x.z - h1 * atI x.prev 0) / 32 + 32)).toNat

end Sys2Proof.Machine
end

