-- ==== Sys2Proof/Machine/Obs.lean ====
section
/-! DEFINITION. Observability (chapter 15): snapshots, the BER windows, the sampling slots and the threshold counters. -/

namespace Sys2Proof.Machine

open Sys2Proof

/-! Snapshots (R293-R296). -/

/-- Who asks for a snapshot (R295 word 0): a register or command, or a cue, with its entry, direction, port and agreement
identifier, the clock it watches at its trigger, and the instant at which that passed where it is over. -/
structure SnapSource where
  source : Nat
  entry : Nat
  dirBit : Nat
  port : Nat
  agree : Nat
  clock : Option ShowClock
  moment : Option SnapMoment
  deriving DecidableEq, Repr

def SnapSource.plain : SnapSource := ⟨1, 0, 0, 0, 0, none, none⟩

/-- The bank the next snapshot takes: the one not written last (R294). -/
def nextBank (s : State) : Nat := if s.obs.lastBank = 0 then 1 else 0

def snapBank (s : State) (b : Nat) : SnapBank := vGet s.obs.banks b .reset

def setSnapBank (s : State) (b : Nat) (x : SnapBank) : State :=
  { s with obs := { s.obs with banks := vSet s.obs.banks b x } }

/-- A bank's copy has begun and not completed (R293). -/
def bankCopying (s : State) (b : Nat) : Bool := (snapBank s b).written && !(snapBank s b).complete

/-- A direction's show clock at an instant. -/
def SnapMoment.clock (m : SnapMoment) (p : Nat) (d : Dir) : ShowClock :=
  match d with
  | .tx => vGet m.tx p .reset
  | .rx => vGet m.rx p .reset

/-- FREEWHEEL as CUE_SC_STATE lays it out (R26): bit 2p SC_TX, bit 2p + 1 SC_RX. -/
def SnapMoment.freewheels (m : SnapMoment) : Nat :=
  maskOf 16 fun k => (m.clock (k / 2) (if k % 2 = 0 then .tx else .rx)).freewheel

def SnapMoment.pairs (m : SnapMoment) : Nat := maskOf 8 fun p => vGet m.paired p false

/-- The present instant. -/
def momentNow (s : State) : SnapMoment := ⟨s.obs.counters, s.time.hc, s.time.estimated, s.time.tx, s.time.rx, s.time.paired⟩

/-- A header under construction: words listed unless 0. -/
def headerPut (m : List (Nat × Nat)) (k w : Nat) : List (Nat × Nat) := if w % 2 ^ 32 = 0 then aDel m k else aSet m k (w % 2 ^ 32)

/-- A show clock as the header records it: the clock a cue watches stands at its trigger (R293). -/
def snapClock (m : SnapMoment) (src : SnapSource) (p : Nat) (d : Dir) : ShowClock :=
  match src.clock with
  | some k => if src.port = p ∧ src.dirBit = d.bit then k else m.clock p d
  | none => m.clock p d

/-- The snapshot header at T_s, COMPLETE still clear (R295). -/
def snapHeader (s : State) (m : SnapMoment) (src : SnapSource) (seq : Nat) (noImage : Bool) : List (Nat × Nat) :=
  let w0 := seq * 2 ^ 16 + src.source * 2 ^ 12 + src.entry * 2 ^ 6 + src.dirBit * 2 ^ 5 + src.port * 2 ^ 2 + b2n noImage * 2
  let base := [(0, w0), (1, src.agree * 2 ^ 16), (2, m.hc.toNat % 2 ^ 32), (3, m.hc.toNat / 2 ^ 32),
    (4, b2n m.estimated), (40, m.freewheels + m.pairs * 2 ^ 16)]
  let ports := (List.range 8).flatMap fun p =>
    let t := snapClock m src p .tx
    let r := snapClock m src p .rx
    [(8 + 4 * p, t.count.toNat % 2 ^ 32), (9 + 4 * p, t.epoch.toNat * 2 ^ 16 + t.count.toNat / 2 ^ 32),
     (10 + 4 * p, r.count.toNat % 2 ^ 32), (11 + 4 * p, r.epoch.toNat * 2 ^ 16 + r.count.toNat / 2 ^ 32)]
  let inv := (List.range 64).map fun k => (64 + k, maskOf 32 fun b => s.obs.invalid.contains (32 * k + b))
  (base ++ ports ++ inv).foldl (fun m e => headerPut m e.1 e.2) []

/-- The flow records of every valid bucket, a pending renumbering shift already added (R306, R307). -/
def shiftOf (s : State) (b : Nat) : Word := (aGet s.obs.shifts b).getD 0

def shifted (s : State) (b : Nat) (x : FlowBucket) : FlowBucket :=
  { x with firstSeen := x.firstSeen + shiftOf s b, lastSeen := x.lastSeen + shiftOf s b }

def flowRecords (s : State) : List (Nat × FlowBucket × FlowCtx) :=
  s.obs.buckets.filterMap fun e =>
    if e.2.valid then (aGet s.obs.contexts e.2.ctx).map fun c => (e.1, shifted s e.1 e.2, c) else none

/-- What a request for a snapshot comes to. -/
inductive SnapResult where
  | taken (bank : Nat)
  | skipped (bank : Nat)
  deriving DecidableEq, Repr

/-- The counters whose stored words a snapshot does not read clean, with what it finds (R357, R363). -/
def countersFound (s : State) : List (Nat × CounterRead) :=
  let b := bankOf s 60
  (((b.errs.map (·.1) ++ b.poison).eraseDups.filter (· < 2048)).map fun i => (i, counterFound s i)).filter (·.2 != .clean)

/-- The counters whose words a snapshot finds lost, and counters as it captures them: a lost one restarts at 0 (R296). -/
def countersLost (s : State) : List Nat := ((countersFound s).filter (·.2 == .lost)).map (·.1)
def countersCaptured (s : State) (m : List (Nat × Nat)) : List (Nat × Nat) := (countersLost s).foldl (fun c i => aSet c i 0) m

/-- The read of a counter's word as the snapshot reports it. -/
def counterReport (s : State) (f : Nat × CounterRead) : State :=
  match f.2 with
  | .clean => s
  | .corrected => bump s 0x753 1
  | .poisoned => bump s 0x757 1
  | .lost => reportUncorr s 60 f.1 false

/-- The flow table may be copied into the image: it has access (R387, log entry 180), and no image is locked (R307). -/
def imageTakes (s : State) : Bool := !s.obs.imageLocked && !retained s 28

/-- A snapshot, or its skip when its bank is FULL or still being filled (R293, R294, R307). The array's words are read with their code: a
lost counter is captured as it restarts, and marked (R296). What the snapshot itself counts comes after the capture. -/
def takeSnapshot (s : State) (src : SnapSource) : State × SnapResult :=
  let b := nextBank s
  if vGet s.obs.full b false || bankCopying s b then
    (raiseEvent (bump s 0x741 1) (ev 0x8602 (locCoreFn 2 b) (b + b2n (vGet s.obs.full b false) * 2)),
      .skipped b)
  else
    let seq := s.obs.seq + 1
    let wantImg := rd s F.SNAP_CTRL_FLOW_IMG = 1
    let found := countersFound s
    let s0 := (countersLost s).foldl (fun t i => counterRestart t i true) s
    let m := src.moment.getD (momentNow s)
    let old := snapBank s b
    let nb : SnapBank := ⟨countersCaptured s m.counters, snapHeader s0 m src seq.toNat (wantImg && !imageTakes s),
      old.values, old.header, true, false, s0.obs.invalid⟩
    let s1 := { s0 with obs := { s0.obs with
      banks := vSet s.obs.banks b nb
      lastBank := b
      seq := seq
      full := vSet s.obs.full b (rd s F.SNAP_CTRL_ACK_REQ == 1)
      invalid := []
      image := if wantImg && imageTakes s then some ⟨seq, flowRecords s⟩ else s.obs.image
      imageCopying := (wantImg && imageTakes s) || s.obs.imageCopying } }
    (bump (found.foldl counterReport (bankWrittenAll s1 (61 + b) (List.range 2112))) 0x740 1, .taken b)

/-- SNAP_COPY_DONE (R293): within 2 microseconds of T_s the bank is filled and COMPLETE sets; SNAP_DONE and one
CNT_INVALID per counter marked are raised, and a waiting SNAP_TAKE completes. -/
def snapCopyDone (b : Nat) (s : State) : State :=
  if bankCopying s b then
    let k := snapBank s b
    let s1 := setSnapBank s b { k with complete := true, header := headerPut k.header 0 ((aGet k.header 0).getD 0 + 1) }
    let seq := bitsOf ((aGet k.header 0).getD 0) 31 16
    let s2 := raiseEvent s1 (ev 0x8601 (locCoreFn 2 b) (b + seq * 2 ^ 16))
    let s3 := k.invalid.foldl (fun t i => raiseEvent t (ev 0x8604 (locCoreFn 1 i) (i))) s2
    completeProg s3 0x0601 b stOK 0 (b + seq * 2 ^ 16) 0
  else s

def execSnapCopyDone (bank : Fin 2) (s : State) : Host.Outcome State Fault Refusal := .next (snapCopyDone bank s)

/-- An acknowledgement frees a FULL bank; with ACK_REQ = 0 no bank is FULL (R294). -/
def snapAck (s : State) (ackReq ack1 ack0 : Bool) : State :=
  { s with obs := { s.obs with full := #v[ackReq && vGet s.obs.full 0 false && !ack0,
    ackReq && vGet s.obs.full 1 false && !ack1] } }

/-- A write of SNAP_CTRL: the acknowledgements and the new ACK_REQ act before the snapshot chooses its bank (R294). -/
def snapCtrlWrite (s : State) (take flowImg ackReq ack1 ack0 : Bool) : State :=
  let s1 := snapAck (wrB (wrB s F.SNAP_CTRL_FLOW_IMG flowImg) F.SNAP_CTRL_ACK_REQ ackReq) ackReq ack1 ack0
  if take then (takeSnapshot s1 .plain).1 else s1

def execSnapCtrlTake (flowImg ackReq ack1 ack0 : Bool) (s : State) : Host.Outcome State Fault Refusal :=
  .next (snapCtrlWrite s true flowImg ackReq ack1 ack0)

def execSnapCtrlAck (flowImg ackReq ack1 ack0 : Bool) (s : State) : Host.Outcome State Fault Refusal :=
  .next (snapCtrlWrite s false flowImg ackReq ack1 ack0)

/-- SNAP_TAKE's own part (R309): E_BUSY where R294 skips, else it completes with its bank's copy. -/
def snapTake (s : State) : State × Reply :=
  match takeSnapshot s .plain with
  | (t, .taken b) => (t, .later b 0)
  | (t, .skipped _) => (t, .done stBusy 0 0 0)

def execSnapTake (c : Cmd) (s : State) : Host.Outcome State Fault Refusal :=
  .next (hostCmd 0x0601 [] noGate c snapTake s)

/-- The 64-bit word of a bank that holds counter i or header words 2h, 2h + 1: counters first (R355: 2,112 words). -/
def snapWordAddr (header : Bool) (i : Nat) : Nat := if header then 2048 + i / 2 else i

/-- What a bank's counter reads: 0 where its stored word is lost (R363). -/
def bankCounter (s : State) (b i : Nat) : Nat :=
  if isPoisoned s (61 + b) (snapWordAddr false i) then 0 else (aGet (snapBank s b).values i).getD 0

/-- What a bank's header word reads; the INVALID bit of a counter whose word is lost is set (R363). -/
def bankHeader (s : State) (b w : Nat) : Nat :=
  if isPoisoned s (61 + b) (snapWordAddr true w) then 0 else
    let v := (aGet (snapBank s b).header w).getD 0
    if w < 64 then v else maskOf 32 fun k => v.testBit k || isPoisoned s (61 + b) (32 * (w - 64) + k)

/-- Reads of a bank's words: a new uncorrectable one is reported (R363). -/
def bankRead (s : State) (b : Nat) (as : List Nat) : State :=
  if (snapBank s b).written then (eccReadAll s (61 + b) as).1 else s

/-- SNAP_READ's own part (R309): the header's 128 words, then low and high word of each counter. -/
def snapRead (c : Cmd) : State → State × Reply :=
  withChecks (fun s =>
      let b := c.w 2
      [(c.w 5 % 4 != 0, stParam, 5),
       (decide (2048 < c.w 3 + c.w 4) || bulkBad s (c.w 5) (512 + 8 * c.w 4), stRange, 0),
       (!(snapBank s b).written || !(snapBank s b).complete, stState, 0)])
    fun s =>
      let b := c.w 2
      let is := (List.range (c.w 4)).map (c.w 3 + ·)
      let t := bankRead s b (is ++ (List.range 64).map (2048 + ·))
      let ws := (List.range 128).map (bankHeader t b) ++
        is.flatMap fun i => [bankCounter t b i % 2 ^ 32, bankCounter t b i / 2 ^ 32]
      (bulkWords t (c.w 5) ws, .done stOK 0 (512 + 8 * c.w 4) 0)

def execSnapRead (c : Cmd) (s : State) : Host.Outcome State Fault Refusal :=
  .next (hostCmd 0x0602 [(2, 1), (3, 0x7FF), (4, 0xFFFFFFFF), (5, 0xFFFFFFFF)] noGate c (snapRead c) s)

/-! Live counters and sampling slots (R289, R297). -/

/-- A read of CNT_LO_i returns bits [31:0] and latches bits [47:32] for the interface (R289); the word is read with its
code (R357). -/
def counterLoRead (iface : Iface) (i : Nat) (s : State) : State × Nat :=
  let r := if (aGet s.obs.counters i).isSome then eccRead s 60 i else (s, false)
  let s1 := if r.2 then { r.1 with obs := { r.1.obs with
      counters := aSet r.1.obs.counters i 0
      invalid := if isPoisoned s 60 i then r.1.obs.invalid else r.1.obs.invalid ++ [i] } } else r.1
  let v := counter s1 i
  ({ s1 with obs := { s1.obs with hiLatch := vSet s1.obs.hiLatch iface.num (v / 2 ^ 32) } }, v % 2 ^ 32)

/-- COUNTER_LO_READ: the word the interface reads is the counter's low half. -/
def execCounterLoRead (iface : Iface) (i : Fin 2048) (s : State) : Host.Outcome State Fault Refusal :=
  let r := counterLoRead iface i s
  .next { r.1 with mgmt := { r.1.mgmt with readOut := BitVec.ofNat 32 r.2 } }

/-- A sampling slot raises its debt, not within 10 microseconds of its last event (R297). -/
def sampleSlotRaise (k : Nat) (s : State) : State :=
  let q := vGet s.obs.slots k .reset
  if q.owed ≠ 0 ∧ sinceNs s q.lastRaise 10000 = true then
    let s1 := { s with obs := { s.obs with slots := vSet s.obs.slots k ⟨0, q.value, some s.time.tick⟩ } }
    let s2 := raiseEvent s1 (ev 0x8603 (locCoreFn 1 (rd s F.CNT_SLOT_s_COUNTER k)) (k + q.owed * 2 ^ 8)
      (q.value % 2 ^ 32))
    bump s2 (0x720 + k) 1
  else s

def execSampleSlotRaise (slot : Fin 32) (s : State) : Host.Outcome State Fault Refusal := .next (sampleSlotRaise slot s)

/-! The pre-FEC BER estimate (R292). -/

/-- Does 10^v * e^2560 ≤ b^2560 hold: is v at most 2560 log10(b/e), 256 times the decibel value. -/
def logAtMost (b e v : Nat) : Bool := decide (10 ^ v * e ^ 2560 ≤ b ^ 2560)

/-- The largest v below 2^bits, added to `acc`, that logAtMost admits. -/
def logSearch (b e : Nat) : Nat → Nat → Nat
  | 0, acc => acc
  | k + 1, acc => if logAtMost b e (acc + 2 ^ k) then logSearch b e k (acc + 2 ^ k) else logSearch b e k acc

/-- Floor of 256 * 10 * log10(b/e) (unsigned Q8.8), for b ≥ e. -/
def decibels (b e : Nat) : Nat := logSearch b e 16 0

/-- A BER window closes after 2^30 bits or 100 ms, and the next opens (R292). The register's value is the decibel figure
to the nearest step below or above: the spec does not state the rounding (log entry 11), nor a value where more bits were corrected
than the lane carried of codewords decoded successfully, which is free. -/
def berWindowClose (n : Nat) (s : State) : State :=
  let w := vGet s.obs.ber n .reset
  let bits := (counter s (cntLine n 15) + 2 ^ 48 - w.bits) % 2 ^ 48
  let errs := ((counter s (cntLine n 13) + 2 ^ 48 - w.inner) + (counter s (cntLine n 14) + 2 ^ 48 - w.rs)) % 2 ^ 48
  if 2 ^ 30 ≤ bits ∨ sinceNs s (some w.opened) 100000000 = true then
    let exact := 10 ^ decibels bits errs * errs ^ 2560 = bits ^ 2560
    let up := if exact then 0 else b2n (Config.freeBool s.freeCount)
    let v := if errs = 0 then 0xFFFF else if bits < errs then Config.freeNat s.freeCount % 0x10000 else min 0xFFFF (decibels bits errs + up)
    let s1 := takeFree s
    let s2 := inc s1 F.CNT_BER_SEQ 1 n
    let s3 := wrB s2 F.CNT_BER_UNDECODED w.undecoded n
    let s4 := wrB s3 F.CNT_BER_NA (bits == 0) n
    let s5 := wr s4 F.CNT_BER_LOG v n
    let next : BerWindow :=
      ⟨counter s (cntLine n 15), counter s (cntLine n 13), counter s (cntLine n 14), s.time.tick, false⟩
    { s5 with obs := { s5.obs with ber := vSet s5.obs.ber n next } }
  else s

def execBerWindowClose (lane : Fin 8) (s : State) : Host.Outcome State Fault Refusal := .next (berWindowClose lane s)

end Sys2Proof.Machine
end

