-- ==== Sys2Proof/Machine/Flow.lean ====
section
/-! DEFINITION. The flow observer (chapter 15, R299-R307): hash, lookup, ageing, flush, image and dump. -/

namespace Sys2Proof.Machine

open Sys2Proof

/-- One bit through a CRC register of w bits with a polynomial, most significant bit first, no reflection. -/
def crcBit (w poly crc : Nat) (b : Bool) : Nat :=
  let top := crc.testBit (w - 1) ^^ b
  let sh := crc * 2 % 2 ^ w
  if top then sh ^^^ poly else sh

/-- A CRC over n bits of x, from bit n - 1 down to bit 0. -/
def crcBits (w poly : Nat) (x : Nat) : Nat → Nat → Nat
  | 0, crc => crc
  | n + 1, crc => crcBits w poly x n (crcBit w poly crc (x.testBit n))

/-- The hash of a key (R300). -/
def flowHash (seed : Nat) (key : BitVec 136) : Nat :=
  (crcBits 32 0x04C11DB7 key.toNat 136 (0xFFFFFFFF ^^^ seed)) ^^^ 0xFFFFFFFF

/-- FLOW_CFG_p's enable and key selection for a direction. -/
def flowEn (s : State) (p : Nat) (d : Dir) : Bool :=
  match d with
  | .tx => rdE s F.FLOW_CFG_p_TX_EN p == 1
  | .rx => rdE s F.FLOW_CFG_p_RX_EN p == 1

def flowKeySel (s : State) (p : Nat) (d : Dir) : Nat :=
  match d with
  | .tx => rdE s F.FLOW_CFG_p_TX_KEY p
  | .rx => rdE s F.FLOW_CFG_p_RX_KEY p

/-- The 136-bit key of a frame (R300). A field not selected is 0. -/
def flowKey (sel : Nat) (f : Frame) : BitVec 136 :=
  let vlan := match f.vlan with
    | some id => 2 ^ 12 + id.toNat
    | none => 0
  BitVec.ofNat 136 (f.port.val + f.dir.bit * 2 ^ 3 + sel * 2 ^ 4 + (if sel.testBit 0 then f.da.toNat else 0) * 2 ^ 8 +
    (if sel.testBit 1 then f.sa.toNat else 0) * 2 ^ 56 + (if sel.testBit 2 then vlan else 0) * 2 ^ 104 +
    (if sel.testBit 3 then f.etherType.toNat else 0) * 2 ^ 117)

/-- The cue tick of a direction: bits [43:12] of the observing show clock's count (R36). -/
def cueTick (s : State) (p : Nat) (d : Dir) : Word := BitVec.ofNat 32 ((showClock s p d).count.toNat / 2 ^ 12)

/-- The lowest-numbered free context from k on, in a list of contexts by rising number. -/
def firstFreeCtx : List (Nat × FlowCtx) → Nat → Nat
  | [], k => k
  | (a, c) :: m, k => if a ≠ k ∨ c.used = false then k else firstFreeCtx m (k + 1)

def usedContexts (s : State) : Nat := (s.obs.contexts.filter fun e => e.2.used).length

def freeContexts (s : State) : Nat := 16384 - usedContexts s

/-- FULL follows the count of free contexts and raises FLOW_FULL at a change (R302, R309). -/
def flowFullCheck (s : State) : State :=
  let full := freeContexts s == 0
  if full = s.obs.flowFull then s else
    raiseEvent { s with obs := { s.obs with flowFull := full } } (ev 0x8605 (locCoreFn 3 0xFFF) (b2n full))

def setBucket (s : State) (b : Nat) (x : FlowBucket) : State :=
  { s with obs := { s.obs with buckets := aSet s.obs.buckets b x } }

def setCtx (s : State) (c : Nat) (x : FlowCtx) : State :=
  { s with obs := { s.obs with contexts := aSet s.obs.contexts c x } }

/-- The words of a bucket and of a context: four consecutive words of their banks (R355). -/
def bucketBank (b : Nat) : Nat := 28 + b % 16
def bucketWords (b : Nat) : List Nat := (List.range 4).map (4 * (b / 16) + ·)
def ctxBank (c : Nat) : Nat := 44 + c % 16
def ctxWords (c : Nat) : List Nat := (List.range 4).map (4 * (c / 16) + ·)

/-- A bucket and its context are freed; their words are written. -/
def freeBucket (s : State) (b : Nat) : State :=
  match aGet s.obs.buckets b with
  | none => s
  | some x =>
    let s1 := setBucket s b { x with valid := false }
    let s2 := match aGet s1.obs.contexts x.ctx with
      | some c => setCtx s1 x.ctx { c with used := false }
      | none => s1
    bankWrittenAll (bankWrittenAll { s2 with obs := { s2.obs with shifts := aDel s2.obs.shifts b } } (bucketBank b)
      (bucketWords b)) (ctxBank x.ctx) (ctxWords x.ctx)

/-- Frees every valid bucket of a port and direction, counting FLOW_FLUSHED (R306); answers how many. -/
def flowFlush (s : State) (sel : FlowBucket → Bool) : State × Nat :=
  let bs := (s.obs.buckets.filter fun e => e.2.valid && sel e.2).map (·.1)
  let s1 := bs.foldl freeBucket s
  (flowFullCheck (bump s1 0x744 bs.length), bs.length)

def keyPort (k : BitVec 136) : Nat := k.toNat % 8
def keyDir (k : BitVec 136) : Nat := k.toNat / 8 % 2

/-- Flushes a port's contexts in the directions of a mask (bit 0 host-to-line). -/
def flowFlushPort (s : State) (p mask : Nat) : State × Nat :=
  flowFlush s fun x => keyPort x.key == p && mask.testBit (keyDir x.key)

/-- The context found lost: freed and counted in FLOW_LOST (R363). -/
def flowLost (s : State) (b : Nat) : State := flowFullCheck (bump (freeBucket s b) 0x745 1)

/-- Reads a bucket and its context with their codes; a loss frees both. -/
def readBucket (s : State) (b : Nat) : State :=
  match aGet s.obs.buckets b with
  | none => s
  | some x =>
    if x.valid then
      let r := eccReadAll s (bucketBank b) (bucketWords b)
      if r.2 then flowLost r.1 b else
        let q := eccReadAll r.1 (ctxBank x.ctx) (ctxWords x.ctx)
        if q.2 then flowLost q.1 b else q.1
    else s

/-- The size class of a frame (R304). -/
def sizeBin (giantMax size : Nat) : Option Nat :=
  if size < 64 then none else if size = 64 then some 0 else if size ≤ 127 then some 1 else if size ≤ 255 then some 2
  else if size ≤ 511 then some 3 else if size ≤ 1023 then some 4 else if size ≤ 1518 then some 5
  else if size ≤ 2047 then some 6 else if size ≤ giantMax then some 7 else none

/-- A context takes a frame (R304): every bin is halved before an increment would bring one to 2^20. -/
def ctxCount (giantMax : Nat) (c : FlowCtx) (size : Nat) : FlowCtx :=
  let frames := c.frames + 1
  let c1 := { c with frames := frames, bytes := c.bytes + BitVec.ofNat 48 size }
  match sizeBin giantMax size with
  | none => c1
  | some b =>
    if frames.toNat % 2 ^ c.scale = 0 then
      let c2 := if vGet c1.bins b 0 + 1 = 2 ^ 20 then
        { c1 with scale := c1.scale + 1, bins := c1.bins.map (· / 2) } else c1
      { c2 with bins := vMod c2.bins b (· + 1) }
    else c1

/-- A bucket takes a frame: last-seen, FCS errors, runts, giants, UNCORR in PASS (R299, R303). -/
def bucketCount (giantMax : Nat) (x : FlowBucket) (w : FlowWork) : FlowBucket :=
  { x with
    lastSeen := w.stamp
    fcsErr := if w.fcsGood then x.fcsErr else x.fcsErr + 1
    runts := if w.size < 64 then min 255 (x.runts + 1) else x.runts
    giants := if giantMax < w.size then min 255 (x.giants + 1) else x.giants
    uncorr := x.uncorr || w.pass }

/-- The group of four buckets that a hash names, in the order a miss tries them (R301). -/
def bucketGroup (b : Nat) : List Nat :=
  (List.range 4).map fun k => b - (b / 16 % 4) * 16 + ((b / 16 + k) % 4) * 16

def bucketFree (s : State) (b : Nat) : Bool :=
  match aGet s.obs.buckets b with
  | some x => !x.valid
  | none => true

/-- The bucket of a group that holds a key. -/
def bucketHit (s : State) (g : List Nat) (key : BitVec 136) : Option Nat :=
  g.find? fun b => match aGet s.obs.buckets b with
    | some x => x.valid && x.key == key
    | none => false

def emptyCtx : FlowCtx := ⟨true, 0, 0, 0, Vector.replicate 8 0⟩

/-- A frame parsed but not entered in any context (R302). -/
def flowUntracked (s : State) (p : Nat) (d : Dir) (cause : Nat) : State := bump (bump s (cntPort p d 15) 1) cause 1

/-- A frame is counted in its bucket and context, whose words are written. -/
def flowUpdate (s : State) (b : Nat) (w : FlowWork) : State :=
  match aGet s.obs.buckets b with
  | none => s
  | some x =>
    let gm := rdE s F.FLOW_GLOBAL_GIANT_MAX
    let c := (aGet s.obs.contexts x.ctx).getD emptyCtx
    let s1 := setCtx (setBucket s b (bucketCount gm (shifted s b x) w)) x.ctx (ctxCount gm c w.size)
    bankWrittenAll (bankWrittenAll { s1 with obs := { s1.obs with shifts := aDel s1.obs.shifts b } } (bucketBank b)
      (bucketWords b)) (ctxBank x.ctx) (ctxWords x.ctx)

/-- A lookup gets its bank (R301, R302): a hit counts; a miss takes the first free bucket of the group and the
lowest-numbered free context. -/
def flowApply (s0 : State) (w : FlowWork) : State :=
  let g := bucketGroup (flowHash (rdE s0 F.FLOW_SEED_SEED) w.key % 2 ^ 15)
  let s := g.foldl readBucket s0
  match bucketHit s g w.key with
  | some b => flowUpdate s b w
  | none =>
    match g.find? (bucketFree s) with
    | none => flowUntracked s w.port w.dir 0x747
    | some b =>
      let c := firstFreeCtx s.obs.contexts 0
      if 16384 ≤ c then flowUntracked s w.port w.dir 0x746 else
        let s1 := setCtx (setBucket s b ⟨true, c, false, w.key, w.stamp, w.stamp, 0, 0, 0⟩) c emptyCtx
        flowFullCheck (flowUpdate (bump s1 0x742 1) b w)

/-! The parser (R299, R300). -/

/-- `n` bytes of a frame from place `o`, the first in the highest bits. -/
def frameField (bs : List Byte) (o n : Nat) : Nat := ((bs.drop o).take n).foldl (fun a b => a * 256 + b.toNat) 0

def isTag (v : Nat) : Bool := v == 0x8100 || v == 0x88A8

/-- The place of the first type field after all VLAN tags; the first argument bounds their number. -/
def typePlace (bs : List Byte) : Nat → Nat → Nat
  | 0, o => o
  | n + 1, o => if isTag (frameField bs o 2) then typePlace bs n (o + 4) else o

/-- Ethernet's frame check sequence (PRESUMED, log entry 162): CRC-32 over each byte from bit 0 up; a frame with a good FCS leaves one
residue. -/
def fcsRegister (bs : List Byte) : Nat :=
  bs.foldl (fun r b => (List.range 8).foldl (fun q k => crcBit 32 0x04C11DB7 q (b.toNat.testBit k)) r) 0xFFFFFFFF

def fcsGood (bs : List Byte) : Bool := fcsRegister bs == 0xC704DD7B

/-- A frame from destination address through FCS, parsed. Of a frame too short for its header the spec states no key: its fields are
free (log entry 162). -/
def parseFrame (s : State) (p : Fin 8) (d : Dir) (bs : List Byte) : Frame :=
  let o := typePlace bs bs.length 12
  if o + 6 ≤ bs.length then
    ⟨p, d, BitVec.ofNat 48 (frameField bs 0 6), BitVec.ofNat 48 (frameField bs 6 6),
      if o = 12 then none else some (BitVec.ofNat 12 (frameField bs 14 2)), BitVec.ofNat 16 (frameField bs o 2), bs.length, fcsGood bs⟩
  else
    let x := Config.freeNat s.freeCount
    ⟨p, d, BitVec.ofNat 48 x, BitVec.ofNat 48 (x / 2 ^ 48), if x.testBit 96 then some (BitVec.ofNat 12 (x / 2 ^ 97)) else none,
      BitVec.ofNat 16 (x / 2 ^ 109), bs.length, fcsGood bs⟩

/-- A parsed frame (R299-R302) is hashed and looked up, queued while its bank is busy or a frame of its key waits, or
counted untracked. `marked`: its codeword, of the cue tick `stamp`, is marked; `busy`: its bank serves another access in this clock. -/
def flowFrame (f : Frame) (marked : Bool) (stamp : Word) (busy : Bool) (s : State) : State :=
  let s1 := bump s (cntPort f.port f.dir 14) 1
  let w : FlowWork := ⟨f.port, f.dir, flowKey (flowKeySel s f.port f.dir) f, f.size, f.fcsGood, stamp,
    rdE s F.PCS_PORT_CTRL_MODE f.port == 1⟩
  let q := vGet s.obs.replay f.dir.bit []
  if marked then flowUntracked s1 f.port f.dir 0x749
  else if busy || q.any (·.key == w.key) then
    if q.length < 64 then { s1 with obs := { s1.obs with replay := vSet s1.obs.replay f.dir.bit (q ++ [w]) } }
    else flowUntracked s1 f.port f.dir 0x748
  else flowApply s1 w

/-- The frames that the observer of a direction has tapped and not yet looked up. -/
def tapped (s : State) (p : Fin 8) (d : Dir) : List TappedFrame :=
  match d with
  | .tx => s.path.tx[p].frames
  | .rx => s.path.rx[p].frames

def setTapped (s : State) (p : Fin 8) (d : Dir) (xs : List TappedFrame) : State :=
  match d with
  | .tx => { s with path := { s.path with tx := vMod s.path.tx p fun x => { x with frames := xs } } }
  | .rx => { s with path := { s.path with rx := vMod s.path.rx p fun x => { x with frames := xs } } }

/-- FLOW_FRAME: the first frame that waits is parsed and entered. -/
def flowNext (p : Fin 8) (d : Dir) (busy : Bool) (s : State) : State :=
  match tapped s p d with
  | [] => s
  | f :: rest => flowFrame (parseFrame s p d f.bytes) f.marked f.stamp busy (takeFree (setTapped s p d rest))

def execFlowFrame (port : Fin 8) (d : Dir) (busy : Bool) (s : State) : Host.Outcome State Fault Refusal :=
  .next (flowNext port d busy s)

/-- FLOW_REPLAY_LOOKUP (R302): the lookup at the front of a direction's replay queue gets its bank. -/
def flowReplayLookup (d : Dir) (s : State) : State :=
  match vGet s.obs.replay d.bit [] with
  | [] => s
  | w :: q => flowApply { s with obs := { s.obs with replay := vSet s.obs.replay d.bit q } } w

def execFlowReplayLookup (d : Dir) (s : State) : Host.Outcome State Fault Refusal := .next (flowReplayLookup d s)

/-- The ager visits a bucket (R305, R306): a pending renumbering shift is applied, then an aged context is freed. -/
def flowAgerVisit (b : Nat) (s0 : State) : State :=
  let s := readBucket s0 b
  match aGet s.obs.buckets b with
  | none => s
  | some x0 =>
    if x0.valid then
      let x := shifted s b x0
      let s1 := if (aGet s.obs.shifts b).isSome then
        bankWrittenAll (setBucket { s with obs := { s.obs with shifts := aDel s.obs.shifts b } } b x) (bucketBank b)
          (bucketWords b) else s
      let age := (cueTick s1 (keyPort x.key) (if keyDir x.key = 0 then .tx else .rx) - x.lastSeen).toNat
      let limit := rdE s1 F.FLOW_AGE_AGE_LIMIT
      if limit ≠ 0 ∧ limit * 2 ^ 16 ≤ age then flowFullCheck (bump (freeBucket s1 b) 0x743 1) else s1
    else s

def execFlowAgerVisit (bucket : Fin 32768) (s : State) : Host.Outcome State Fault Refusal :=
  .next (flowAgerVisit bucket s)

/-- A renumbering of a port's SC_RX shifts the time base of its line-to-host contexts (R306): the shift waits for the
ager's visit to each bucket. Frames in the replay queue, and those that wait for it, move with it. -/
def flowRenumber (s : State) (p : Nat) (ticks : Word) : State :=
  let bs := (s.obs.buckets.filter fun e => e.2.valid && keyPort e.2.key == p && keyDir e.2.key == 1).map (·.1)
  let moved := (vGet s.obs.replay Dir.rx.bit []).map fun w => if w.port.val = p then { w with stamp := w.stamp + ticks } else w
  let rx := vMod s.path.rx p fun x => { x with frames := x.frames.map fun f => { f with stamp := f.stamp + ticks } }
  { s with
    path := { s.path with rx := rx }
    obs := { s.obs with
      replay := vSet s.obs.replay Dir.rx.bit moved
      shifts := bs.foldl (fun m b => aSet m b ((aGet m b).getD 0 + ticks)) s.obs.shifts } }

/-- FLOW_IMAGE_COPY_DONE (R307): the table has been copied and the image is valid. -/
def execFlowImageCopyDone (s : State) : Host.Outcome State Fault Refusal :=
  .next { s with obs := { s.obs with imageCopying := false } }

def imageValid (s : State) : Bool := s.obs.image.isSome && !s.obs.imageCopying

/-- The 256 bits of a bucket (R303) and of a context (R304), as words, lowest bits first. -/
def words256 (x : Nat) : List Nat := (List.range 8).map fun k => x / 2 ^ (32 * k) % 2 ^ 32

def bucketBits (x : FlowBucket) : Nat :=
  b2n x.valid + x.ctx * 2 + b2n x.uncorr * 2 ^ 15 + x.key.toNat * 2 ^ 16 + x.firstSeen.toNat * 2 ^ 152 +
    x.lastSeen.toNat * 2 ^ 184 + x.fcsErr.toNat * 2 ^ 216 + x.runts * 2 ^ 240 + x.giants * 2 ^ 248

def ctxBits (c : FlowCtx) : Nat :=
  c.frames.toNat + c.bytes.toNat * 2 ^ 40 + c.scale * 2 ^ 88 +
    (List.range 8).foldl (fun a b => a + vGet c.bins b 0 * 2 ^ (96 + 20 * b)) 0

/-- FLOW_DUMP's own part (R307, R309). -/
def flowDump (c : Cmd) : State → State × Reply :=
  withChecks (fun s =>
      [(c.w 3 % 4 != 0, stParam, 3),
       (c.w 4 == 0 || decide (3072 < c.w 4) || bulkBad s (c.w 3) (64 * c.w 4), stRange, 0),
       (!imageValid s || (c.w 2 != 0 && !s.obs.imageLocked), stState, 0)])
    fun s =>
      match s.obs.image with
      | none => (s, .done stState 0 0 0)
      | some im =>
        let recs := (im.records.drop (c.w 2)).take (c.w 4)
        let last := decide (im.records.length ≤ c.w 2 + c.w 4)
        let s1 := bulkWords s (c.w 3) (recs.flatMap fun r => words256 (bucketBits r.2.1) ++ words256 (ctxBits r.2.2))
        ({ s1 with obs := { s1.obs with imageLocked := !last } },
          .done stOK 0 recs.length (im.seq.toNat * 2 ^ 16 + (if last then 0xFFFF else c.w 2 + c.w 4)))

def execFlowDump (c : Cmd) (s : State) : Host.Outcome State Fault Refusal :=
  .next (hostCmd 0x0603 [(2, 0xFFFF), (3, 0xFFFFFFFF), (4, 0xFFFFFFFF)] noGate c (flowDump c) s)

/-- FLOW_RELEASE's own part (R309). -/
def flowRelease : State → State × Reply :=
  withChecks (fun s => [(!s.obs.imageLocked, stState, 0)])
    fun s => ({ s with obs := { s.obs with imageLocked := false } }, .done stOK 0 0 0)

def execFlowRelease (c : Cmd) (s : State) : Host.Outcome State Fault Refusal :=
  .next (hostCmd 0x0604 [] noGate c flowRelease s)

/-- FLOW_FLUSH's own part (R306, R309). -/
def flowFlushCmd (c : Cmd) : State → State × Reply :=
  withChecks (fun s => [(c.w 3 == 0, stParam, 3), (retained s 28, stState, 0)])
    fun s => ((flowFlushPort s (c.w 2) (c.w 3)).1, .done stOK 0 (flowFlushPort s (c.w 2) (c.w 3)).2 0)

def execFlowFlush (c : Cmd) (s : State) : Host.Outcome State Fault Refusal :=
  .next (hostCmd 0x0605 [(2, 7), (3, 3)] noGate c (flowFlushCmd c) s)

end Sys2Proof.Machine
end

