-- ==== Sys2Proof/Machine/Ports.lean ====
section
/-! DEFINITION. Ports, lanes and profiles (chapter 03), and which cluster is under rehearsal (chapter 23). -/

namespace Sys2Proof.Machine

open Sys2Proof

/-- The width w of a WIDTH code (R42): 0 off, else 1, 2, 4 or 8 line lanes. -/
def widthLanes (code : Nat) : Nat := if code = 0 then 0 else if code ≤ 4 then 2 ^ (code - 1) else 0

/-- A layout: each port's WIDTH code and whether the rate is HALF. -/
structure Layout where
  width : Nat → Nat
  half : Bool

/-- The effective layout. -/
def layoutEff (s : State) : Layout :=
  ⟨fun p => rdE s F.PCS_PORT_CTRL_WIDTH p, rdE s F.PCS_PROFILE_LINE_RATE == 1⟩

/-- The line lanes of port p: p to p + w - 1 (R42), of the eight there are. -/
def Layout.lines (l : Layout) (p : Nat) : List Nat :=
  ((List.range (widthLanes (l.width p))).map (p + ·)).filter (· < 8)

/-- The host lanes of port p: 2p to 2p + 2w - 1 at FULL, p to p + w - 1 at HALF (R42), of the sixteen there are. -/
def Layout.hosts (l : Layout) (p : Nat) : List Nat :=
  let w := widthLanes (l.width p)
  (if l.half then (List.range w).map (p + ·) else (List.range (2 * w)).map (2 * p + ·)).filter (· < 16)

def portLines (s : State) (p : Nat) : List Nat := (layoutEff s).lines p
def portHosts (s : State) (p : Nat) : List Nat := (layoutEff s).hosts p

/-- The enabled port that line lane n belongs to. -/
def portOfLine (s : State) (n : Nat) : Option Nat := (List.range 8).find? fun p => (portLines s p).contains n

def portOfHost (s : State) (n : Nat) : Option Nat := (List.range 8).find? fun p => (portHosts s p).contains n

def portEnabled (s : State) (p : Nat) : Bool := rdE s F.PCS_PORT_CTRL_WIDTH p != 0

def innerCode (s : State) : Bool := rdE s F.PCS_PROFILE_LINE_CODE == 1
def halfRate (s : State) : Bool := rdE s F.PCS_PROFILE_LINE_RATE == 1
def passMode (s : State) (p : Nat) : Bool := rdE s F.PCS_PORT_CTRL_MODE p == 1
def forwarded (s : State) : Bool := rdE s F.PCS_PROFILE_CLK_MODE == 0
def asyncMode (s : State) : Bool := rdE s F.PCS_PROFILE_CLK_MODE == 2

/-- The port states of R165, by their code in PCS_LINK_STATUS.STATE. -/
def lsDown : Nat := 0

def linkState (s : State) (p : Nat) : Nat := rd s F.PCS_LINK_STATUS_STATE p

/-- The codewords per crystal cycle in 256ths: 12.5 at 3400 Gb/s (R26): 3,200 for w = 8 at FULL, halved per halving. -/
def freewheelStep (s : State) (p : Nat) : Nat :=
  let w := widthLanes (rdE s F.PCS_PORT_CTRL_WIDTH p)
  if halfRate s then 200 * w else 400 * w

/-- Codewords per second of a port (R25). -/
def codewordRate (s : State) (p : Nat) : Nat := 78125000 * widthLanes (rdE s F.PCS_PORT_CTRL_WIDTH p) / (if halfRate s then 2 else 1)

/-- The port's stream format by its rate (R145): 0 P200, 1 P400, 2 P800, 3 P1600, 4 P3200 (dual 1.6T). -/
def portFormat (s : State) (p : Nat) : Nat := Nat.log2 (widthLanes (rdE s F.PCS_PORT_CTRL_WIDTH p)) + (if halfRate s then 0 else 1)

/-- P_AM in codewords of a format (R146): a multiple of 4, at least 4,096, within PERIOD's 16 bits; 8,192 for dual 1.6T, which the bring-up
of chapter 09 reads, and half of that for 1.6TBASE-R; open for the others. -/
def markerPeriod (format : Nat) : Nat :=
  if format = 4 then 8192 else if format = 3 then 4096 else 4096 + 4 * (Config.periodQuarter format % 15360)

/-- Line symbols on a lane in n codewords of a port: 2,720 / w each, in INNER 17/16 of that (R120, R124, R150). -/
def lineSymbols (s : State) (p n : Nat) : Nat :=
  let w := widthLanes (rdE s F.PCS_PORT_CTRL_WIDTH p)
  if innerCode s then n * 2890 / w else n * 2720 / w

/-- Symbols per second on a line lane (R45). -/
def lineRate (s : State) : Nat := (if innerCode s then 225781250000 else 212500000000) / (if halfRate s then 2 else 1)

/-- L_AM of R150. -/
def markerSpan (s : State) (p : Nat) : Nat := lineSymbols s p (markerPeriod (portFormat s p))

/-- Is the cluster of this class and instance under rehearsal (R439)? -/
def rehearsing (s : State) (cls inst : Nat) : Bool :=
  match s.test.rehearsal with
  | some r => r.cls == cls && r.inst == inst
  | none => false

/-- A cluster of the port is under rehearsal: its slice or one of its lanes. -/
def portRehearsing (s : State) (p : Nat) : Bool :=
  rehearsing s 3 p || (portLines s p).any (rehearsing s 1) || (portHosts s p).any (rehearsing s 2)

/-- A datapath buffer's parity error is reported, at most once per millisecond and buffer (R364): buffers 1 to 3 of port p have
the numbers 3p to 3p + 2, the spotlight of lane n 24 + n. -/
def raiseParity (s : State) (k buffer inst l : Nat) : State :=
  let r := vGet s.mem.parity k ⟨none, 0⟩
  if sinceNs s r.last 1000000 then
    raiseEvent { s with mem := { s.mem with parity := vSet s.mem.parity k ⟨some s.time.tick, 0⟩ } }
      (ev 0x8A05 l (buffer + inst * 2 ^ 8) (r.since + 1))
  else { s with mem := { s.mem with parity := vSet s.mem.parity k ⟨r.last, r.since + 1⟩ } }

end Sys2Proof.Machine
end

