-- ==== Sys2Proof/Machine/Lanes.lean ====
section
/-! DEFINITION. What line and host receivers share (chapters 04, 05 and 10; R185): each lane's settings, its front end and
its equaliser, and the start, hold and resumption of both. -/

namespace Sys2Proof.Machine

open Sys2Proof

/-! Access. -/

def front (s : State) : LaneId → Front
  | .line n => vGet s.lanes.lineFront n (.reset 64)
  | .host n => vGet s.lanes.hostFront n (.reset 32)

def setFront (s : State) (l : LaneId) (x : Front) : State :=
  match l with
  | .line n => { s with lanes := { s.lanes with lineFront := vSet s.lanes.lineFront n x } }
  | .host n => { s with lanes := { s.lanes with hostFront := vSet s.lanes.hostFront n x } }

def eqRec (s : State) : LaneId → EqRec
  | .line n => vGet s.lanes.lineEq n (.reset 41 10 4)
  | .host n => vGet s.lanes.hostEq n (.reset 16 3 3)

def rxRec (s : State) : LaneId → RxRec
  | .line n => vGet s.lanes.lineRx n (.reset 256)
  | .host n => vGet s.lanes.hostRx n (.reset 128)

def setRxRec (s : State) (l : LaneId) (x : RxRec) : State :=
  match l with
  | .line n => { s with lanes := { s.lanes with lineRx := vSet s.lanes.lineRx n x } }
  | .host n => { s with lanes := { s.lanes with hostRx := vSet s.lanes.hostRx n x } }

def txRec (s : State) : LaneId → TxRec
  | .line n => vGet s.lanes.lineOut n .reset
  | .host n => vGet s.lanes.hostOut n .reset

def setTxRec (s : State) (l : LaneId) (x : TxRec) : State :=
  match l with
  | .line n => { s with lanes := { s.lanes with lineOut := vSet s.lanes.lineOut n x } }
  | .host n => { s with lanes := { s.lanes with hostOut := vSet s.lanes.hostOut n x } }

def setEqRec (s : State) (l : LaneId) (x : EqRec) : State :=
  match l with
  | .line n => { s with lanes := { s.lanes with lineEq := vSet s.lanes.lineEq n x } }
  | .host n => { s with lanes := { s.lanes with hostEq := vSet s.lanes.hostEq n x } }

/-- A field of a line lane's register or of the host lane's counterpart. -/
def rdL (s : State) (l : LaneId) (f h : Field) : Nat :=
  match l with
  | .line n => rd s f n
  | .host n => rd s h n

def rdLE (s : State) (l : LaneId) (f h : Field) : Nat :=
  match l with
  | .line n => rdE s f n
  | .host n => rdE s h n

def wrL (s : State) (l : LaneId) (f h : Field) (v : Nat) : State :=
  match l with
  | .line n => wr s f v n
  | .host n => wr s h v n

/-- A field that only line lanes have. -/
def wrLine (s : State) (l : LaneId) (f : Field) (v : Nat) : State :=
  match l with
  | .line n => wr s f v n
  | .host _ => s

/-- A setting of line lanes; host lanes have it fixed (R185). -/
def setL (s : State) (l : LaneId) (f : Field) (fixed : Nat) : Nat :=
  match l with
  | .line n => rdE s f n
  | .host _ => fixed

def laneLoc : LaneId → Nat
  | .line n => locLine n
  | .host n => locHost n

def laneLocUnit : LaneId → Nat → Nat
  | .line n, u => locLineUnit n u
  | .host n, u => locHostUnit n u

/-- A lane counter: its offset on line lanes and on host lanes (R290). -/
def bumpL (s : State) (l : LaneId) (kLine kHost : Nat) : State :=
  match l with
  | .line n => bump s (cntLine n kLine) 1
  | .host n => bump s (cntHost n kHost) 1

/-- A counter or an event that only line lanes have. -/
def bumpLine (s : State) (l : LaneId) (k : Nat) : State :=
  match l with
  | .line n => bump s (cntLine n k) 1
  | .host _ => s

def raiseLine (s : State) (l : LaneId) (e : Ev) : State :=
  match l with
  | .line _ => raiseEvent s e
  | .host _ => s

def lanePort (s : State) : LaneId → Option Nat
  | .line n => portOfLine s n
  | .host n => portOfHost s n

/-- A lane fenced by a rehearsal or dress rehearsal (R442). -/
def laneFenced (s : State) : LaneId → Bool
  | .line n => (rd s F.TST_FENCED_LINE).testBit n
  | .host n => (rd s F.TST_FENCED_HOST).testBit n

/-- A lane is powered when it belongs to an enabled port (R44), its region is, not in INTERMISSION or DARK, and it is not
fenced (R442). -/
def lanePowered (s : State) (l : LaneId) : Bool := (lanePort s l).isSome && s.power.mode == .show && !laneFenced s l

def laneRehearsing (s : State) : LaneId → Bool
  | .line n => rehearsing s 1 n
  | .host n => rehearsing s 2 n

def laneLos (s : State) (l : LaneId) : Bool := rdL s l F.LRX_STATUS_LOS F.HSL_STATUS_LOS == 1
def laneLol (s : State) (l : LaneId) : Bool := rdL s l F.LRX_STATUS_LOL F.HSL_STATUS_LOL == 1

/-- The lane runs: powered and not under rehearsal (R439). -/
def laneRuns (s : State) (l : LaneId) : Bool := lanePowered s l && !laneRehearsing s l

/-- The state of the port the lane belongs to; DOWN where it belongs to none. -/
def laneLinkState (s : State) (l : LaneId) : Nat :=
  match lanePort s l with
  | some p => linkState s p
  | none => 0

/-- The front end holds its state (R71, R165, R179): LOS, or the port in DOWN or HOLD. -/
def frontHeld (s : State) (l : LaneId) : Bool := laneLos s l || laneLinkState s l == 0 || laneLinkState s l == 6

/-! Settings (R185 for the host lanes' fixed values). -/

def ctleSearchMode (s : State) (l : LaneId) : Bool := rdLE s l F.LRX_CTLE_CTRL_MODE F.HSL_RX_CTRL_CTLE_MODE == 1
def ctleMin (s : State) (l : LaneId) : Nat := setL s l F.LRX_CTLE_CTRL_MIN 0
def ctleMax (s : State) (l : LaneId) : Nat := setL s l F.LRX_CTLE_CTRL_MAX 11
def ctleTarget (s : State) (l : LaneId) : Nat := setL s l F.LRX_CTLE_CTRL_HF_TARGET 0x1000
def ctleFixed (s : State) (l : LaneId) : Nat := rdLE s l F.LRX_CTLE_CTRL_CODE F.HSL_RX_CTRL_CTLE_CODE
def ctleInUse (s : State) (l : LaneId) : Nat := rdL s l F.LRX_CTLE_STATUS_CODE F.HSL_STATUS_CTLE_CODE
def setCtle (s : State) (l : LaneId) (k : Nat) : State := wrL s l F.LRX_CTLE_STATUS_CODE F.HSL_STATUS_CTLE_CODE k

def vgaTarget (s : State) (l : LaneId) : Nat := rdLE s l F.LRX_VGA_CTRL_TARGET F.HSL_RX_CTRL_TARGET
def vgaManual (s : State) (l : LaneId) : Bool := rdLE s l F.LRX_VGA_CTRL_MODE F.HSL_RX_CTRL_VGA_MODE == 1
def vgaManualCode (s : State) (l : LaneId) : Nat := rdLE s l F.LRX_VGA_CTRL_CODE F.HSL_RX_CTRL_VGA_CODE
def vgaCode (s : State) (l : LaneId) : Nat := rdL s l F.LRX_VGA_STATUS_CODE F.HSL_STATUS_VGA_CODE

def trKp (s : State) (l : LaneId) : Nat := rdLE s l F.LRX_TR_CTRL_KP F.HSL_TR_CTRL_KP
def trKi (s : State) (l : LaneId) : Nat := rdLE s l F.LRX_TR_CTRL_KI F.HSL_TR_CTRL_KI
def trLockThr (s : State) (l : LaneId) : Nat := rdLE s l F.LRX_TR_CTRL_LOCK_THR F.HSL_TR_CTRL_LOCK_THR

def eqBlind (s : State) (l : LaneId) : Bool := rdLE s l F.LEQ_CTRL_BLIND F.HSL_EQ_CTRL_BLIND == 1
def eqAdapt (s : State) (l : LaneId) : Bool := rdLE s l F.LEQ_CTRL_ADAPT_EN F.HSL_EQ_CTRL_ADAPT_EN == 1
def eqMain (s : State) (l : LaneId) : Nat := rdLE s l F.LEQ_CTRL_MAIN F.HSL_EQ_CTRL_MAIN
def eqLevelA (s : State) (l : LaneId) : Nat := rdLE s l F.LEQ_CTRL_LEVEL_A F.HSL_EQ_CTRL_LEVEL_A
def eqDet (s : State) (l : LaneId) : Bool := setL s l F.LEQ_CTRL_DET 0 == 1
def eqLvlEn (s : State) (l : LaneId) : Bool := setL s l F.LEQ_CTRL_LVL_EN 0 == 1
def eqPrecode (s : State) (l : LaneId) : Bool := rdLE s l F.LEQ_CTRL_PRECODE F.HSL_EQ_CTRL_PRECODE == 1
def eqFfeMu (s : State) (l : LaneId) : Nat := rdLE s l F.LEQ_ADAPT_FFE_MU F.HSL_EQ_CTRL_FFE_MU
def eqCmaMu (s : State) (l : LaneId) : Nat := setL s l F.LEQ_ADAPT_CMA_MU 6
def eqDfeMu (s : State) (l : LaneId) : Nat := rdLE s l F.LEQ_ADAPT_DFE_MU F.HSL_EQ_CTRL_DFE_MU
def eqOfsMu (s : State) (l : LaneId) : Nat := setL s l F.LEQ_ADAPT_OFS_MU 6
def eqLeak (s : State) (l : LaneId) : Nat := setL s l F.LEQ_ADAPT_LEAK 0
def eqDdWindows (s : State) (l : LaneId) : Nat := setL s l F.LEQ_ACQ_DD_WINDOWS 8
def eqOutlierThr (s : State) (l : LaneId) : Nat := setL s l F.LEQ_ACQ_OUTLIER_THR 16

/-- A freeze bit of LEQ_FREEZE; host lanes have none. -/
def eqFrozen (s : State) (l : LaneId) (f : Field) : Bool := setL s l f 0 == 1

/-- The equaliser's numbers of taps. -/
def ffeTaps (l : LaneId) : Nat := if l.isLine then 41 else 16
def dfeTaps (l : LaneId) : Nat := if l.isLine then 4 else 3

/-! The equaliser's registers (R81-R83, R89, R93). -/

/-- The registers that show a line lane's accumulators. -/
def eqShowTaps (s : State) (n : Nat) (e : EqRec) : State :=
  let s1 := (List.range 41).foldl (fun t j => wrI t F.LEQ_FFE_TAP_j_TAP (sar (atI e.ffe j) 10) n j) s
  let s2 := wrI (wrI s1 F.LEQ_DFE_A_H1 (sar (atI e.dfe 0) 6) n) F.LEQ_DFE_A_H2 (sar (atI e.dfe 1) 6) n
  let s3 := wrI (wrI s2 F.LEQ_DFE_B_H3 (sar (atI e.dfe 2) 6) n) F.LEQ_DFE_B_H4 (sar (atI e.dfe 3) 6) n
  let s4 := (List.range 8).foldl (fun t j => wrI (wrI t F.LEQ_OFS_j_OFS_EVEN (sar (atI e.ofs (2 * j)) 6) n j)
    F.LEQ_OFS_j_OFS_ODD (sar (atI e.ofs (2 * j + 1)) 6) n j) s3
  wr s4 F.LEQ_LFR_GAIN_G e.g n

/-- Adaptation pauses (R91, R165, R179, R486): the port in DOWN or HOLD, a search running or due, LOS, LOL in DD, or a
resumption still due. -/
def eqPaused (s : State) (l : LaneId) : Bool :=
  let x := front s l
  let e := eqRec s l
  laneLinkState s l == 0 || laneLinkState s l == 6 || x.search.isSome || x.startDue || laneLos s l ||
    (e.dd && (laneLol s l || e.held))

/-- STATE as it reads: 0 OFF, 1 CMA, 2 DD, 3 HELD. -/
def eqStateCode (s : State) (l : LaneId) : Nat :=
  if (eqRec s l).ran then if eqPaused s l then 3 else if (eqRec s l).dd then 2 else 1 else 0

/-- STATE, VALID and WARM follow the equaliser. -/
def eqRefresh (s : State) (l : LaneId) : State :=
  let e := eqRec s l
  wrLine (wrL (wrL s l F.LEQ_STATUS_STATE F.HSL_STATUS_EQ_STATE (eqStateCode s l)) l F.LEQ_STATUS_VALID F.HSL_STATUS_VALID
    (b2n e.valid)) l F.LEQ_STATUS_WARM (b2n e.warm)

/-- Replaces the equaliser and shows it. -/
def putEq (s : State) (l : LaneId) (e : EqRec) : State :=
  let s1 := setEqRec s l e
  eqRefresh (match l with
    | .line n => eqShowTaps s1 n e
    | .host _ => s1) l

/-- The blind-start values (R81, R87); R87 names taps, offsets and G, and the model starts the detector's table at 0 with them: a
table that DET loads later is loaded then (log entry 139). -/
def eqBlindRec (s : State) (l : LaneId) : EqRec :=
  { EqRec.reset (ffeTaps l) (eqMain s l) (dfeTaps l) with ran := true }

/-- LEQ_DD_ENTRY with the last window's outliers. -/
def raiseDdEntry (s : State) (l : LaneId) : State :=
  match l with
  | .line n => raiseEvent (bump s (cntLine n 20) 1) (ev 0x8310 (locLine n) (rd s F.LEQ_STATUS_OUTLIERS n))
  | .host _ => s

/-- The equaliser starts (R87, R486): blind, straight into DD without adaptation, or warm from a valid stored state. With
ADAPT_EN = 0 and BLIND = 1 a valid stored state is not used: DD starts from the blind-start values (log entry 184). -/
def eqStart (s : State) (l : LaneId) (blind : Bool) : State :=
  let e := eqRec s l
  if (blind || eqBlind s l || !e.valid) = true then
    if eqAdapt s l then putEq s l (eqBlindRec s l)
    else raiseDdEntry (putEq s l { eqBlindRec s l with dd := true, valid := true }) l
  else putEq s l { e with
    dd := true
    held := false
    ran := true
    good := 0
    bad := 0
    judge := some (0, 0)
    judgeFrom := (rxRec s l).detected
    warm := true }

/-! The front end (R56, R59, R68-R71). -/

/-- The search applies its first code (R56). -/
def searchStart (s : State) (l : LaneId) : State :=
  let x := front s l
  let s1 := setFront s l { x with search := some ⟨ctleMin s l, none⟩, searchDue := false }
  eqRefresh (wrLine (setCtle s1 l (ctleMin s l)) l F.LRX_STATUS_CTLE_SEARCH 1) l

/-- A lane at its port's entry to ACQUIRE (R56, R71, R87, R168): it searches, at once or when LOS clears, and then starts its
equaliser; with a fixed code it starts the equaliser. -/
def laneAcquire (s : State) (l : LaneId) : State :=
  if ctleSearchMode s l then
    let s1 := wrLine (setFront s l { front s l with search := none, searchDue := true, startDue := true }) l F.LRX_STATUS_CTLE_SEARCH 0
    if laneLos s l then eqRefresh s1 l else searchStart s1 l
  else
    eqStart (wrLine (setFront s l { front s l with search := none, searchDue := false, startDue := false }) l
      F.LRX_STATUS_CTLE_SEARCH 0) l false

/-! The statistics gatherer (R109). -/

/-- The gatherer on a receive lane. -/
def gatherOf (s : State) (n : Nat) : Option Gatherer := vGet s.lanes.gather n none

def setGather (s : State) (n : Nat) (x : Option Gatherer) : State :=
  { s with lanes := { s.lanes with gather := vSet s.lanes.gather n x } }

/-- What makes the window in progress INVALID: flag bits 1 LOS, 2 LOL, 3 not in DD (R109, R110). -/
def gatherMark (s : State) (l : LaneId) (bits : Nat) : State :=
  match l with
  | .host _ => s
  | .line n => match gatherOf s n with
    | some g => if rd s F.LEQ_XA_GATHER_STATE n = 2 ∧ bits ≠ 0 then setGather s n (some { g with flags := g.flags ||| bits ||| 1 }) else s
    | none => s

/-- LOL changes (R69): its event, its count on a rise, and what follows from it for the equaliser. -/
def setLol (s : State) (l : LaneId) (b : Bool) : State :=
  if laneLol s l = b then s
  else
    let s1 := wrL s l F.LRX_STATUS_LOL F.HSL_STATUS_LOL (b2n b)
    let s2 := gatherMark (raiseEvent s1 (ev (if l.isLine then 0x8304 else 0x8333) (laneLoc l) (b2n b))) l (b2n b * 4)
    eqRefresh (if b then bumpL s2 l 1 1 else s2) l

/-- A spotlight capture is in progress on a line lane. -/
def capturing (s : State) (l : LaneId) : Bool :=
  match l with
  | .line n => rd s F.LRX_SPOT_STATUS_STATE n == 1
  | .host _ => false

/-- An aside reception is in progress on a line lane, from detection to its end (R58). -/
def receiving (s : State) (l : LaneId) : Bool :=
  match l with
  | .line n => rd s F.ASD_STATUS_RX_BUSY n == 1
  | .host _ => false

end Sys2Proof.Machine
end

