-- ==== Sys2Proof/Machine/CueBase.lean ====
section
/-! DEFINITION. The cue table's entries and the show clocks as other chapters move them (chapter 02): cancelling, sealing,
freewheeling, renumbering and restarting. -/

namespace Sys2Proof.Machine

open Sys2Proof

/-- The location of the cue table, with the entry as unit (R40). -/
def locCue (e : Nat) : Nat := locCoreFn 0 e

def cueSlot (s : State) (e : Nat) : CueSlot := vGet s.time.cues e .free

/-- The cue armed in an entry. -/
def armedCue (s : State) (e : Nat) : Option Cue :=
  match cueSlot s e with
  | .armed c => some c
  | _ => none

/-- An armed LUT_SWAP cue that names line lane n seals its shadow bank (R102). -/
def sealsLane (s : State) (e n : Nat) : Bool :=
  match armedCue s e with
  | some c => c.action == 4 && c.arg.testBit n
  | none => false

def laneSealed (s : State) (n : Nat) : Bool := (List.range 64).any fun e => sealsLane s e n

/-- LTX_STATUS.SEALED follows the cue table. -/
def sealRefresh (s : State) : State := (List.range 8).foldl (fun t n => wrB t F.LTX_STATUS_SEALED (laneSealed t n) n) s

/-- Replaces an entry. -/
def setCue (s : State) (e : Nat) (x : CueSlot) : State :=
  sealRefresh { s with time := { s.time with cues := vSet s.time.cues e x } }

/-- Codewords since the trigger, when the count has reached it. -/
def overdue (k : ShowClock) (trigger : BitVec 48) : Option Nat :=
  let d := (k.count - trigger).toNat
  if d < 2 ^ 47 then some d else none

/-- An armed SNAPSHOT cue whose clock has reached its trigger keeps the instant (R293). -/
def cueReach (s : State) (c : Cue) : Cue :=
  if c.action == 2 && c.reached.isNone && (overdue (showClock s c.port c.dir) c.trigger).isSome then
    { c with reached := some (momentNow s) }
  else c

/-- Before a codeword passes, and as a cycle ends, the SNAPSHOT cues whose turn has come keep what a snapshot is to hold (R293): the codeword
itself counts in nothing that it captures, however late CUE_FIRE comes (log entry 190). -/
def cuesReach (s : State) : State :=
  { s with time := { s.time with cues := s.time.cues.map fun x => match x with
    | .armed c => .armed (cueReach s c)
    | _ => x } }

/-- The watched show clock as it stands, or will stand, at the trigger codeword. -/
def triggerClock (k : ShowClock) (trigger : BitVec 48) : ShowClock :=
  { k with count := trigger, epoch := if trigger.toNat < k.count.toNat then k.epoch + 1 else k.epoch }

def cueEventClock (s : State) (c : Cue) : Option (Nat × Dir × ShowClock) :=
  some (c.port, c.dir, triggerClock (showClock s c.port c.dir) c.trigger)

/-- Data word 1 of CUE_FIRED and CUE_SKIPPED (R40). -/
def cueData1 (c : Cue) : Nat :=
  (match c.agree with
    | some a => a.toNat
    | none => 0) + (if c.action = 8 then c.arg % 2 ^ 16 * 2 ^ 16 else 0)

/-- An armed entry is cancelled with a reason of R40. -/
def cancelCue (s : State) (e reason : Nat) : State :=
  match armedCue s e with
  | some c => raiseEvent (setCue s e .free)
      ⟨0x8803, locCue e, e + c.action * 2 ^ 8 + reason * 2 ^ 16, c.trigger.toNat % 2 ^ 32, cueEventClock s c⟩
  | none => s

/-- Cancels every armed entry that a test picks, in ascending order. An entry that CUE_AGREE has only reserved is no armed cue and stays:
R53 does not say so (log entry 168). -/
def cancelCues (s : State) (p : Cue → Bool) (reason : Nat) : State :=
  (List.range 64).foldl (fun t e =>
    match armedCue t e with
    | some c => if p c then cancelCue t e reason else t
    | none => t) s

/-- A direction freewheels or counts codewords (R26). -/
def setFreewheel (s : State) (p : Nat) (d : Dir) (b : Bool) : State :=
  setShowClock s p d { showClock s p d with freewheel := b }

def setPaired (s : State) (p : Nat) (b : Bool) : State :=
  { s with time := { s.time with paired := vSet s.time.paired p b } }

/-- SC_RX is set to another value: a renumbering cancels the port's cues on it (R29) and shifts the time base of its
flow contexts (R306). -/
def renumberRx (s : State) (p : Nat) (count : BitVec 48) (epoch : BitVec 16) : State :=
  let k := showClock s p .rx
  if k.count = count ∧ k.epoch = epoch then s
  else
    let old := cueTick s p .rx
    let s1 := setShowClock s p .rx { k with count := count, epoch := epoch }
    let s2 := flowRenumber s1 p (cueTick s1 p .rx - old)
    cancelCues s2 (fun c => c.port.val == p && c.dir == .rx) 2

/-- Both show clocks of a port restart at 0, freewheeling and unpaired (R53), or take given values. -/
def restartClocks (s : State) (p : Nat) (tx rx : ShowClock) : State :=
  setPaired (setShowClock (setShowClock s p .tx { tx with freewheel := true, frac := 0 }) p .rx
    { rx with freewheel := true, frac := 0 }) p false

end Sys2Proof.Machine
end

