-- ==== Sys2Proof/Machine/TxBase.lean ====
section
/-! DEFINITION. Electrical idle and the training burst on line and host transmitters (R106, R107, R165, R190), bank swaps
(R103, R104), and the end of a cross-link adaptation (R114, R115). -/

namespace Sys2Proof.Machine

open Sys2Proof

def linkPort (s : State) (p : Nat) : LinkPort := vGet s.link p .reset

def setLink (s : State) (p : Nat) (x : LinkPort) : State := { s with link := vSet s.link p x }

def txAligned (s : State) (p : Nat) : Bool := rd s F.PCS_ALIGN_STATUS_TX_ALIGNED p == 1

/-- Does the port's state ask its line transmitters for idle (R165)? -/
def portIdlesLine (s : State) (p : Nat) : Bool :=
  let st := linkState s p
  if st = 4 ∨ st = 5 then false
  else if 1 ≤ st ∧ st ≤ 3 then !(linkPort s p).hostSeen
  else true

/-- Does the port's state ask its host transmitters for idle (R165)? -/
def portIdlesHost (s : State) (p : Nat) : Bool := linkState s p == 0 || linkState s p == 6

/-- A line lane is to be at idle (R106, R155): a generator overrides the port's request, not LTX_CTRL.IDLE. -/
def lineIdleWanted (s : State) (n : Nat) : Bool :=
  match portOfLine s n with
  | none => true
  | some p => rdE s F.LTX_CTRL_IDLE n == 1 || (portIdlesLine s p && rdE s F.LTX_TPG_CTRL_EN n != 1)

/-- A host lane is to be at idle (R190, R198). -/
def hostIdleWanted (s : State) (n : Nat) : Bool :=
  match portOfHost s n with
  | none => true
  | some p => rdE s F.HSL_TX_CTRL_IDLE n == 1 || (portIdlesHost s p && rdE s F.HSL_TP_CTRL_TPG_EN n != 1)

/-- The transmitter's status fields and counters, line or host. -/
def txIdle (s : State) (l : LaneId) : Bool := rdL s l F.LTX_STATUS_IDLE F.HSL_STATUS_TX_IDLE == 1
def txBurst (s : State) (l : LaneId) : Bool := rdL s l F.LTX_STATUS_BURST F.HSL_STATUS_TX_BURST == 1
def idleWanted (s : State) : LaneId → Bool
  | .line n => lineIdleWanted s n
  | .host n => hostIdleWanted s n

/-- A line lane that is not at idle carries what a DAC skew measurement correlates with (R240). -/
def skewMark (s : State) : LaneId → State
  | .line n => if txIdle s (.line n) then s else { s with cal := { s.cal with skewLive := s.cal.skewLive ||| 2 ^ n.val } }
  | .host _ => s

def setTx (s : State) (l : LaneId) (idle burst : Bool) : State :=
  skewMark (wrL (wrL s l F.LTX_STATUS_IDLE F.HSL_STATUS_TX_IDLE (b2n idle)) l F.LTX_STATUS_BURST F.HSL_STATUS_TX_BURST (b2n burst)) l

/-- A transmitter follows what is asked of it: idle at the next block boundary, or out of idle through a training burst
(R106, R107, R190). A burst under way ends when idle is asked for. -/
def txFollow (s : State) (l : LaneId) : State :=
  if idleWanted s l then
    if txIdle s l then s else raiseEvent (setTx s l true false) (ev (if l.isLine then 0x8323 else 0x8335) (laneLoc l) 1)
  else if txIdle s l then bumpL (setTx (setTxRec s l { txRec s l with burst := 0 }) l false true) l 25 11
  else s

def allLine : List LaneId := (List.finRange 8).map .line
def allHost : List LaneId := (List.finRange 16).map .host

/-- The lanes of a port. -/
def portLaneIds (s : State) (p : Nat) : List LaneId :=
  (allLine.filter fun l => (portLines s p).contains l.num) ++ (allHost.filter fun l => (portHosts s p).contains l.num)

def txFollowPort (s : State) (p : Nat) : State := (portLaneIds s p).foldl txFollow s

/-! The two directions of a port (R147, R162). -/

def portPath (s : State) (p : Nat) (d : Dir) : PortPath :=
  match d with
  | .tx => vGet s.path.tx p .reset
  | .rx => vGet s.path.rx p .reset

def setPortPath (s : State) (p : Nat) (d : Dir) (x : PortPath) : State :=
  match d with
  | .tx => { s with path := { s.path with tx := vSet s.path.tx p x } }
  | .rx => { s with path := { s.path with rx := vSet s.path.rx p x } }

/-- PCS_RM_STATUS follows a rate-match FIFO. -/
def rmShow (s : State) (p : Nat) (d : Dir) : State :=
  let r := (portPath s p d).rm
  match d with
  | .tx => wrB (wr s F.PCS_RM_STATUS_H2L_FILL r.entries.length p) F.PCS_RM_STATUS_H2L_SLIP r.sinceSlip.isSome p
  | .rx => wrB (wr s F.PCS_RM_STATUS_L2H_FILL r.entries.length p) F.PCS_RM_STATUS_L2H_SLIP r.sinceSlip.isSome p

/-- The input side aligns: the FIFO discards its contents and waits for the fill of 910 (R162). -/
def rmReset (s : State) (p : Nat) (d : Dir) : State :=
  rmShow (setPortPath s p d { portPath s p d with
    rm := { RateMatch.reset with sinceSlip := (portPath s p d).rm.sinceSlip } }) p d

/-! Bank swaps. -/

def activeBank (s : State) (n : Nat) : Nat := rd s F.LTX_STATUS_ACTIVE n
def shadowBank (s : State) (n : Nat) : Nat := 1 - rd s F.LTX_STATUS_ACTIVE n

/-- A lane's banks are exchanged (R103, R104). -/
def swapLane (s : State) (n : Nat) (sc : Option (Nat × Dir × ShowClock)) (freewheel : Bool) : State :=
  let s1 := inc (wr s F.LTX_STATUS_ACTIVE (shadowBank s n) n) F.LTX_STATUS_SWAP_COUNT 1 n
  raiseEvent (bump s1 (cntLine n 19) 1)
    ⟨0x8320, locLine n, activeBank s1 n + b2n freewheel * 2 + rd s1 F.LTX_STATUS_IDLE n * 4, 0, sc⟩

/-- The lanes of a mask that a LUT_SWAP reaches: powered and not under rehearsal (R104). -/
def swappable (s : State) (mask : Nat) : List Nat :=
  (bitsSet 8 mask).filter fun n => lanePowered s (.line (Fin.ofNat 8 n)) && !rehearsing s 1 n

/-! The end of an adaptation (R114, R115). -/

def xaRun (s : State) (n : Nat) : Option XaRun := vGet s.lanes.xa n none

def setXa (s : State) (n : Nat) (x : Option XaRun) : State := { s with lanes := { s.lanes with xa := vSet s.lanes.xa n x } }

/-- Adaptation on lane n stops for a reason of R114: the swap Mexis armed for it is cancelled, the status and the event
follow. -/
def xaStop (s : State) (n reason : Nat) : State :=
  match xaRun s n with
  | none => s
  | some x =>
    let s1 := cancelCues s (fun c => c.action == 4 && c.owner == .adapt && c.arg == 2 ^ n) 5
    let s2 := (List.range 64).foldl (fun t e => match cueSlot t e with
      | .reserved c _ _ => if c.owner = .adapt ∧ c.arg = 2 ^ n then setCue t e .free else t
      | _ => t) s1
    let s3 := wr (wr (setXa s2 n none) F.LTX_XA_STATUS_STATE 0 n) F.LTX_XA_STATUS_REASON reason n
    raiseEvent s3 (ev 0x8322 (locLine n) (reason + min 255 x.swaps * 2 ^ 4))

/-- Adaptation stops on every lane of a port. -/
def xaStopPort (s : State) (p reason : Nat) : State := (portLines s p).foldl (fun t n => xaStop t n reason) s

end Sys2Proof.Machine
end

