-- ==== Sys2Proof/Machine/Link.lean ====
section
/-! DEFINITION. The port machine (chapter 09, R165-R182): states and transitions, the lane map, loss and rejoining of
lanes, the probe. -/

namespace Sys2Proof.Machine

open Sys2Proof

/-! The lane map (R170, R172). -/

/-- PHYS_i of a map word. -/
def mapPhys (phys i : Nat) : Nat := phys / 2 ^ (3 * i) % 8

/-- The physical line lane that the map in use places at logical lane i of port p. -/
def physOf (s : State) (p i : Nat) : Nat := p + mapPhys (rd s F.PCS_RX_MAP_USE_PHYS p) i

def portWidth (s : State) (p : Nat) : Nat := widthLanes (rdE s F.PCS_PORT_CTRL_WIDTH p)

/-- The logical lane at which physical lane x sits in port p. -/
def logicalOf (s : State) (p x : Nat) : Option Nat := (List.range (portWidth s p)).find? fun i => physOf s p i == x

/-- The inversion in use for logical lane i. -/
def invUse (s : State) (p i : Nat) : Bool := (rd s F.PCS_RX_MAP_USE_INV p).testBit i

/-! Lock machines as the port's registers show them (R150, R170). -/

def lockOf (s : State) (x : Nat) : MarkerLock := vGet s.lanes.lock x .reset

def setLock (s : State) (x : Nat) (m : MarkerLock) : State := { s with lanes := { s.lanes with lock := vSet s.lanes.lock x m } }

/-- Bit i: logical lane i is LOCKED. -/
def lockedMask (s : State) (p : Nat) : Nat :=
  maskOf 8 fun i => decide (i < portWidth s p) && (lockOf s (physOf s p i)).state == 2

/-- PCS_LANE_ALIGN_i and PCS_ALIGN_STATUS.LOCKED show the lock machines of the lanes the map in use places. -/
def lockShow (s : State) (p : Nat) : State :=
  let s1 := (List.range 8).foldl (fun t i =>
    let m := if i < portWidth t p then lockOf t (physOf t p i) else .reset
    wr (wrB (wrB (wr (wr t F.PCS_LANE_ALIGN_i_STATE m.state p i) F.PCS_LANE_ALIGN_i_SEEN_LANE m.seen p i)
      F.PCS_LANE_ALIGN_i_INVERTED m.inverted p i) F.PCS_LANE_ALIGN_i_MISMATCH m.mismatch p i)
      F.PCS_LANE_ALIGN_i_SKEW m.skew p i) s
  wr s1 F.PCS_ALIGN_STATUS_LOCKED (lockedMask s p) p

def lockShowLane (s : State) (x : Nat) : State :=
  match portOfLine s x with
  | some p => lockShow s p
  | none => s

/-- ALIGN_LANE_CHANGE (R488). -/
def raiseLockChange (s : State) (x : Nat) : State :=
  let m := lockOf s x
  raiseEvent s (ev 0x8250 (locLine x) (b2n (m.state == 2) + m.seen * 2 + b2n m.inverted * 16 + b2n m.mismatch * 32))

/-- A lane's lock machine returns to SEARCH; leaving LOCKED is counted and raised (R150, R488). -/
def lockSearch (s : State) (x : Nat) : State :=
  let m := lockOf s x
  let s1 := lockShowLane (setLock s x { m with
    state := 0
    misses := 0
    resume := 0 }) x
  if m.state = 2 then raiseLockChange (bump s1 (cntLine x 7) 1) x else s1

/-- Two maps, as PHYS and INV words, agree on the lanes below w; the fields of the others are ignored (PCS_RX_MAP). -/
def sameMap (w : Nat) (a b : Nat × Nat) : Bool :=
  (List.range w).all fun i => mapPhys a.1 i == mapPhys b.1 i && a.2.testBit i == b.2.testBit i

/-- MAP_LEARNED follows the comparison of the map in use with PCS_RX_MAP. -/
def mapLearnedRefresh (s : State) (p : Nat) : State :=
  wrB s F.PCS_LINK_STATUS_MAP_LEARNED (!sameMap (portWidth s p) (rd s F.PCS_RX_MAP_USE_PHYS p, rd s F.PCS_RX_MAP_USE_INV p)
    (rdE s F.PCS_RX_MAP_PHYS p, rdE s F.PCS_RX_MAP_INV p)) p

/-- Another map is taken into use (R170): a physical lane whose inversion changes searches again. -/
def useMap (s : State) (p phys inv : Nat) : State :=
  let xs := (List.range (portWidth s p)).map (p + ·)
  let oldInv := fun x => (logicalOf s p x).elim false (invUse s p)
  let s1 := wr (wr s F.PCS_RX_MAP_USE_PHYS phys p) F.PCS_RX_MAP_USE_INV inv p
  let s2 := xs.foldl (fun t x =>
    if oldInv x = (logicalOf t p x).elim false (invUse t p) then t else lockSearch t x) s1
  mapLearnedRefresh (lockShow s2 p) p

/-! Alignment of the two directions (R26). -/

/-- The line-to-host direction is aligned or not; SC_RX counts or freewheels; as it aligns its FIFO starts anew (R162). -/
def setRxAligned (s : State) (p : Nat) (b : Bool) : State :=
  let s1 := setFreewheel (wrB s F.PCS_ALIGN_STATUS_RX_DESKEWED b p) p .rx (!b)
  if b && rd s F.PCS_ALIGN_STATUS_RX_DESKEWED p == 0 then rmReset s1 p .rx else s1

/-- The host-to-line direction is aligned or not (R147, R180). -/
def setTxAligned (s : State) (p : Nat) (b : Bool) : State :=
  let s0 := if b && !txAligned s p then rmReset s p .tx else s
  let s1 := setFreewheel (wrB s0 F.PCS_ALIGN_STATUS_TX_ALIGNED b p) p .tx (!b)
  txFollowPort (if b then setLink s1 p { linkPort s1 p with hostSeen := true } else s1) p

/-- A host lane's markers are no longer locked (R290: host counter 5). -/
def hostUnlock (s : State) (n : Nat) : State :=
  if rd s F.HSL_ALIGN_STATUS_LOCKED n = 1 then bump (wr s F.HSL_ALIGN_STATUS_LOCKED 0 n) (cntHost n 5) 1 else s

/-! Transitions (R165, R167). -/

/-- What entering a state does to the port. -/
def enterState (s : State) (p new : Nat) : State :=
  let lanes := portLaneIds s p
  if new = 0 then
    let s1 := (portLines s p).foldl lockSearch s
    let s2 := (portHosts s1 p).foldl hostUnlock s1
    setPaired (setTxAligned (setRxAligned (setLink s2 p { linkPort s2 p with hostSeen := false }) p false) p false) p false
  else if new = 6 then setPaired (setTxAligned (setRxAligned s p false) p false) p false
  else if new = 1 then
    let s1 := setPaired (setRxAligned s p false) p false
    let s2 := setLink s1 p { linkPort s1 p with
      hostSeen := (linkPort s1 p).hostSeen || txAligned s1 p
      failed := false
      entered := s1.time.tick
      skewOk := none }
    lanes.foldl laneAcquire (inc (wr s2 F.PCS_LINK_STATUS_PROBED 0 p) F.PCS_LINK_TIME_RESTARTS 1 p)
  else if new = 3 then
    setLink (wr s F.PCS_LINK_STATUS_PROBED 1 p) p { linkPort s p with failed := true, hello := Vector.replicate 8 none }
  else s

/-- The lost lanes are forgotten (R177: a timer stops when its port restarts). -/
def clearLost (s : State) (p : Nat) : State :=
  setLink (wr s F.PCS_LINK_STATUS_LOST 0 p) p { linkPort s p with lostAt := Vector.replicate 8 none }

/-- A change of state (R167): status, event, leaving and entering, transmitters, and the equalisers' STATE. Leaving UP or
DEGRADED for ACQUIRE, DOWN or HOLD stops adaptation (R178). -/
def linkGo (s : State) (p new reason : Nat) : State :=
  let old := linkState s p
  let s1 := wr (wr s F.PCS_LINK_STATUS_STATE new p) F.PCS_LINK_STATUS_REASON reason p
  let s2 := raiseEvent s1 (ev 0x8201 (locPort p) (new + old * 2 ^ 4 + reason * 2 ^ 8))
  let s3 := if (old = 4 ∨ old = 5) ∧ (new = 0 ∨ new = 1 ∨ new = 6) then xaStopPort (clearLost s2 p) p 7 else s2
  let s4 := txFollowPort (enterState s3 p new) p
  (portLaneIds s4 p).foldl eqRefresh s4

/-- DOWN with back-off (R167). -/
def linkBackoff (s : State) (p reason : Nat) : State := linkGo (wr s F.PCS_LINK_STATUS_BACKOFF 1 p) p 0 reason

/-! ALIGN and the probe (R169, R171). -/

/-- Sixteenths of a line symbol in 4 ns, by profile (R45): 212.5, 225.78125, 106.25 or 112.890625 GBd. -/
def skewUnit (s : State) : Nat :=
  if halfRate s then (if innerCode s then 7225 else 6800) else (if innerCode s then 14450 else 13600)

/-- A skew in line symbols is within SKEW_LIMIT (R152). -/
def skewWithin (s : State) (p skew : Nat) : Bool := decide (skew * 16 ≤ rdE s F.PCS_ALIGN_CTRL_SKEW_LIMIT p * skewUnit s)

/-- The periods by which a lane's last group lies before (or after) the group that arrives nearest `ref` (R151: arrivals less than half a
period apart belong to the same group). -/
def groupShift (s : State) (p ref arrival : Nat) : Int :=
  let span : Int := markerSpan s p
  (2 * ((ref : Int) - arrival) + span) / (2 * span)

/-- A lane's arrival and place of that group. -/
def pairedArrival (s : State) (p ref x : Nat) : Int := (lockOf s x).arrival + groupShift s p ref (lockOf s x).arrival * markerSpan s p
def pairedPos (s : State) (p ref x : Nat) : Int := (lockOf s x).pos + groupShift s p ref (lockOf s x).arrival * markerSpan s p

/-- The latest arrival recorded among the port's lanes, of whatever group, and the latest of the group paired with it (R151). -/
def latestArrival (s : State) (p : Nat) : Nat := (portLines s p).foldl (fun a x => max a (lockOf s x).arrival) 0
def latestPaired (s : State) (p : Nat) : Int := (portLines s p).foldl (fun a x => max a (pairedArrival s p (latestArrival s p) x)) 0

/-- A lane's skew: the time by which its arrival precedes the latest lane's. -/
def laneSkew (s : State) (p x : Nat) : Nat := (latestPaired s p - pairedArrival s p (latestArrival s p) x).toNat

def deskewGood (s : State) (p : Nat) : Bool := (portLines s p).all fun x => skewWithin s p (laneSkew s p x)

def lineAt (s : State) (x : Nat) : Nat := vGet s.path.lineAt x 0
def setLineAt (s : State) (x v : Nat) : State := { s with path := { s.path with lineAt := vSet s.path.lineAt x v } }

def hostAt (s : State) (n : Nat) : List (Nat × Nat) := vGet s.path.hostAt n []

def setHostAt (s : State) (n : Nat) (x : List (Nat × Nat)) : State := { s with path := { s.path with hostAt := vSet s.path.hostAt n x } }

/-- Deskew delays each lane by its skew (R151), so that the next codeword taken from every lane is the first of the group they share. -/
def deskewApply (s : State) (p : Nat) : State :=
  let s1 := (portLines s p).foldl (fun t x =>
    setLineAt (setLock t x { lockOf t x with skew := laneSkew s p x }) x (pairedPos s p (latestArrival s p) x).toNat) s
  lockShow { s1 with path := { s1.path with superRx := vSet s1.path.superRx p [] } } p

/-- A logical lane is LOCKED on its own reference with normal polarity (R169, R175). -/
def laneRight (s : State) (p i : Nat) : Bool :=
  let m := lockOf s (physOf s p i)
  m.state == 2 && m.seen == i && !m.inverted

/-- A HELLO on a lane of the port reports another width (R167). -/
def widthMismatch (s : State) (p : Nat) : Bool :=
  (portLines s p).any fun x => rd s F.ASD_STATUS_UP x == 1 && rd s F.ASD_STATUS_PARTNER_WIDTH x != portWidth s p

/-- The identity and polarity of a physical lane for the probe: its markers, else its HELLO (R171). -/
def probeId (s : State) (p x : Nat) : Option (Nat × Bool) :=
  let m := lockOf s x
  if m.state = 2 then some (m.seen, m.inverted)
  else match vGet (linkPort s p).hello (x - p) none with
    | some h => some (h.lane, h.polarity == 1)
    | none => none

/-- The candidate map (R171 step 5) from the lanes' identities. -/
def candidateMap (s : State) (p : Nat) (ids : List (Nat × Nat × Bool)) : Nat × Nat :=
  let old := (rd s F.PCS_RX_MAP_USE_PHYS p, rd s F.PCS_RX_MAP_USE_INV p)
  ids.foldl (fun m e =>
    let i := e.2.1
    let bit := (logicalOf s p e.1).elim false (invUse s p) != e.2.2
    (m.1 - mapPhys m.1 i * 2 ^ (3 * i) + (e.1 - p) * 2 ^ (3 * i), m.2 - b2n (m.2.testBit i) * 2 ^ i + b2n bit * 2 ^ i)) old

/-- Each of 0 to w - 1 exactly once. -/
def isPermutation (w : Nat) (xs : List Nat) : Bool := xs.length == w && (List.range w).all xs.contains

/-- A failure of ALIGN that no probe follows (R167). -/
def alignEnd (s : State) (p : Nat) (deskew : Bool) : State :=
  if widthMismatch s p then linkBackoff s p 7
  else if deskew then linkBackoff s p 6
  else
    let contradicted := rdE s F.PCS_LINK_CTRL_MAP_MODE p == 1 && (List.range (portWidth s p)).any fun i =>
      (lockOf s (physOf s p i)).state == 2 && !laneRight s p i
    linkBackoff s p (if contradicted then 5 else 3)

/-- UP_TIME: from the entry to ACQUIRE, in units of 10 microseconds (500 crystal cycles), saturating. -/
def recordUpTime (s : State) (p : Nat) : State :=
  wr s F.PCS_LINK_TIME_UP_TIME (min 0xFFFF ((s.time.tick - (linkPort s p).entered) / 500)) p

/-- The direction's codeword counts start with the group it aligned on. -/
def groupStart (s : State) (p : Nat) (d : Dir) : State := setPortPath s p d { portPath s p d with inAt := 0 }

/-- ALIGN judged once every lane is LOCKED (R169): success, or one of its failures; a skew past the limit comes first in R167's table. -/
def alignTest (fail : State → Bool → State) (s : State) (p : Nat) : State :=
  if linkState s p = 2 ∧ (portLines s p).all (fun x => (lockOf s x).state == 2) then
    if !deskewGood s p then fail s true
    else if (List.range (portWidth s p)).all (laneRight s p) then
      recordUpTime (linkGo (setRxAligned (groupStart (deskewApply s p) p .rx) p true) p 4 0) p
    else fail s false
  else s

/-- The probe's outcome once every lane has an identity (R171 steps 4 to 7); an ALIGN that follows a probe is probed no more. -/
def probeJudge (s : State) (p : Nat) : State :=
  let w := portWidth s p
  let ids := (portLines s p).filterMap fun x => (probeId s p x).map fun e => (x, e.1, e.2)
  if linkState s p = 3 ∧ ids.length = w then
    if isPermutation w (ids.map (·.2.1)) then
      let c := candidateMap s p ids
      if sameMap w c (rd s F.PCS_RX_MAP_USE_PHYS p, rd s F.PCS_RX_MAP_USE_INV p) then linkBackoff s p 3
      else
        let s1 := useMap s p c.1 c.2
        alignTest (fun t d => alignEnd t p d) (linkGo (raiseEvent s1 (ev 0x8204 (locPort p) (c.1 + c.2 * 2 ^ 24))) p 2 0) p
    else linkBackoff s p 4
  else s

/-- ALIGN fails (R167, R169). -/
def alignFail (s : State) (p : Nat) (deskew : Bool) : State :=
  if !widthMismatch s p && !deskew && !(linkPort s p).failed && rdE s F.PCS_LINK_CTRL_PROBE_EN p == 1 &&
      rdE s F.PCS_LINK_CTRL_MAP_MODE p == 0 then probeJudge (linkGo s p 3 0) p
  else alignEnd s p deskew

/-- The lock machines of a port have moved: ALIGN or the probe is judged (R169, R171). -/
def alignJudge (s : State) (p : Nat) : State := probeJudge (alignTest (fun t d => alignFail t p d) s p) p

/-- The rows of R167 that the effective settings drive: ADMIN_UP, HOLD, and the start from DOWN. -/
def linkFollow (s : State) (p : Nat) : State :=
  let st := linkState s p
  if rdE s F.PCS_PORT_CTRL_ADMIN_UP p = 0 then
    let s1 := wr s F.PCS_LINK_STATUS_BACKOFF 0 p
    if st = 0 then s1 else linkGo s1 p 0 1
  else if 1 ≤ st ∧ st ≤ 5 ∧ rdE s F.PCS_LINK_CTRL_HOLD p = 1 then
    linkGo (setLink s p { linkPort s p with resume := st }) p 6 0
  else if st = 6 ∧ rdE s F.PCS_LINK_CTRL_HOLD p = 0 then
    if (linkPort s p).resume = 4 ∨ (linkPort s p).resume = 5 then alignJudge (linkGo s p 2 0) p else linkGo s p 1 0
  else if st = 0 ∧ rdE s F.PCS_LINK_CTRL_HOLD p = 0 ∧ rd s F.PCS_LINK_STATUS_BACKOFF p = 0 ∧ s.power.mode = .show then
    linkGo s p 1 0
  else s

/-! Loss of a lane (R174). -/

def lostMask (s : State) (p : Nat) : Nat := rd s F.PCS_LINK_STATUS_LOST p

/-- A physical line lane of a port in UP or DEGRADED is lost for a cause of R181. -/
def laneLost (s : State) (x cause : Nat) : State :=
  match portOfLine s x with
  | none => s
  | some p =>
    match logicalOf s p x with
    | none => s
    | some i =>
      if (linkState s p = 4 ∨ linkState s p = 5) ∧ (lostMask s p).testBit i = false then
        let s1 := wr s F.PCS_LINK_STATUS_LOST (lostMask s p + 2 ^ i) p
        let s2 := setLink s1 p { linkPort s1 p with lostAt := vSet (linkPort s1 p).lostAt i (some s.time.tick) }
        let s3 := raiseEvent (bump s2 (cntLine x 8) 1) (ev 0x8202 (locLine x) (i + x * 2 ^ 4 + cause * 2 ^ 8))
        if (List.range (portWidth s3 p)).all (lostMask s3 p).testBit then linkGo s3 p 1 8
        else if linkState s3 p = 4 then linkGo s3 p 5 0
        else s3
      else s

/-- A lane's lock machine leaves LOCKED by itself; in UP or DEGRADED the lane is lost (R174). -/
def lockLost (s : State) (x : Nat) : State := laneLost (lockSearch s x) x 3

/-! The commands of the port machine. -/

/-- ACQUIRE_COMPLETE (R167): every line lane has LOS and LOL clear and its equaliser in DD. While a change of CLK_MODE waits for its PLLs
the port waits in ACQUIRE (R196). -/
def acquireComplete (p : Nat) (s : State) : State :=
  if linkState s p = 1 ∧ s.path.modeChange = false ∧ (portLines s p).all (fun n =>
      rd s F.LRX_STATUS_LOS n == 0 && rd s F.LRX_STATUS_LOL n == 0 && rd s F.LEQ_STATUS_STATE n == 2) then
    alignJudge (linkGo s p 2 0) p
  else s

def execAcquireComplete (p : Fin 8) (s : State) : Host.Outcome State Fault Refusal := .next (acquireComplete p s)

/-- ACQ_TO_EXPIRY (R168): the timer runs while some lane has LOS clear. -/
def acqToExpiry (p : Nat) (s : State) : State :=
  if linkState s p = 1 ∧ (portLines s p).any (fun n => rd s F.LRX_STATUS_LOS n == 0) then linkBackoff s p 2 else s

def execAcqToExpiry (p : Fin 8) (s : State) : Host.Outcome State Fault Refusal := .next (acqToExpiry p s)

/-- ALIGN_TO_EXPIRY (R169). -/
def alignToExpiry (p : Nat) (s : State) : State := if linkState s p = 2 then alignFail s p false else s

def execAlignToExpiry (p : Fin 8) (s : State) : Host.Outcome State Fault Refusal := .next (alignToExpiry p s)

/-- PROBE_TO_EXPIRY (R171 step 3): an identity is still missing. -/
def probeToExpiry (p : Nat) (s : State) : State :=
  let s1 := probeJudge s p
  if linkState s1 p = 3 then linkBackoff s1 p 3 else s1

def execProbeToExpiry (p : Fin 8) (s : State) : Host.Outcome State Fault Refusal := .next (probeToExpiry p s)

/-- BACKOFF_EXPIRY (R167). -/
def backoffExpiry (p : Nat) (s : State) : State :=
  if rd s F.PCS_LINK_STATUS_BACKOFF p = 1 then linkFollow (wr s F.PCS_LINK_STATUS_BACKOFF 0 p) p else s

def execBackoffExpiry (p : Fin 8) (s : State) : Host.Outcome State Fault Refusal := .next (backoffExpiry p s)

/-- The lane that is not lost, and gives the port's scale to a lane that returns (R153). -/
def scaleLane (s : State) (p x : Nat) : Option Nat :=
  (portLines s p).find? fun y => y != x && !((logicalOf s p y).elim true (lostMask s p).testBit)

/-- The delay that lines a returned lane up with the others (R153), when it lies between 0 and the limit. -/
def rejoinDelay (s : State) (p x : Nat) : Option Nat :=
  match scaleLane s p x with
  | none => none
  | some y =>
    let d := pairedArrival s p (lockOf s x).arrival y + (lockOf s y).skew - (lockOf s x).arrival
    if 0 ≤ d ∧ skewWithin s p d.toNat = true then some d.toNat else none

/-- The place from which a lane that rejoins is read: as far behind its marker as the others are behind theirs (R153). -/
def rejoinAt (s : State) (p x : Nat) : Nat :=
  match scaleLane s p x with
  | none => lineAt s x
  | some y => ((lockOf s x).pos + lineAt s y - pairedPos s p (lockOf s x).arrival y : Int).toNat

/-- LANE_REJOIN (R175, R176): a lost lane meets the conditions at a codeword or superblock boundary. -/
def laneRejoin (x : Nat) (s : State) : State :=
  match portOfLine s x with
  | none => s
  | some p =>
    match logicalOf s p x with
    | none => s
    | some i =>
      match rejoinDelay s p x with
      | none => s
      | some d =>
        if linkState s p = 5 ∧ (lostMask s p).testBit i = true ∧ rd s F.LRX_STATUS_LOS x = 0 ∧ laneRight s p i = true ∧
            (eqRec s (.line (Fin.ofNat 8 x))).dd = true then
          let since := (vGet (linkPort s p).lostAt i none).getD s.time.tick
          let s1 := lockShow (setLineAt (setLock s x { lockOf s x with skew := d }) x (rejoinAt s p x)) p
          let s2 := wr s1 F.PCS_LINK_STATUS_LOST (lostMask s1 p - 2 ^ i) p
          let s3 := setLink s2 p { linkPort s2 p with lostAt := vSet (linkPort s2 p).lostAt i none }
          let s4 := raiseEvent s3 (ev 0x8203 (locLine x) (i + min 0xFFFFFF ((s.time.tick - since) / 50) * 2 ^ 8))
          if lostMask s4 p = 0 then linkGo s4 p 4 0 else s4
        else s

def execLaneRejoin (x : Fin 8) (s : State) : Host.Outcome State Fault Refusal := .next (laneRejoin x s)

/-- REJOIN_TO_EXPIRY (R177): the timer of a lost logical lane runs out. -/
def rejoinToExpiry (p i : Nat) (s : State) : State :=
  if linkState s p = 5 ∧ (lostMask s p).testBit i = true then linkGo s p 1 9 else s

def execRejoinToExpiry (p i : Fin 8) (s : State) : Host.Outcome State Fault Refusal := .next (rejoinToExpiry p i s)

/-- LINK_RESTART's own part (R167, R181): with HOLD effective the port enters ACQUIRE and, by the second row of R167, HOLD. -/
def linkRestart (c : Cmd) : State → State × Reply :=
  withChecks (fun s =>
      let p := c.w 2
      [(!portEnabled s p || rdE s F.PCS_PORT_CTRL_ADMIN_UP p == 0, stState, 0), (portRehearsing s p, stBusy, 0)])
    fun s => (linkFollow (linkGo (wr s F.PCS_LINK_STATUS_BACKOFF 0 (c.w 2)) (c.w 2) 1 10) (c.w 2), .done stOK 0 0 0)

def execLinkRestart (c : Cmd) (s : State) : Host.Outcome State Fault Refusal :=
  .next (hostCmd 0x0201 [(2, 7)] noGate c (linkRestart c) s)

end Sys2Proof.Machine
end

