-- ==== Sys2Proof/Machine/Bias.lean ====
section
/-! DEFINITION. Bias DAC channels and dither generators (chapter 14, R271-R276; the ceiling R266). -/

namespace Sys2Proof.Machine

open Sys2Proof

def locBdac (c : Nat) : Nat := loc 2 7 6 c 0xFFF

def bdacChan (s : State) (c : Nat) : BdacChan := vGet s.ctl.bdac c .reset

def setBdac (s : State) (c : Nat) (x : BdacChan) : State :=
  { s with ctl := { s.ctl with bdac := vSet s.ctl.bdac c x } }

/-- The output's state (R272): 0 HIZ, 1 ZERO, 2 ACTIVE. -/
def bdacState (s : State) (c : Nat) : Nat := rd s F.BDAC_STATUS_c_STATE c

/-- min(sat(code + dither, 0, 65535), CODE_MAX) (R266). -/
def ceilingCode (code : Nat) (dither : Int) (codeMax : Nat) : Nat :=
  min (clampI 0 65535 ((code : Int) + dither)).toNat codeMax

/-- Does the minimum take effect? -/
def ceilingHit (code : Nat) (dither : Int) (codeMax : Nat) : Bool :=
  decide (codeMax < (clampI 0 65535 ((code : Int) + dither)).toNat)

/-- CEIL_HIT follows the ceiling, and each change raises LOOP_CEILING (R266). -/
def setCeilHit (s : State) (c : Nat) (hit : Bool) : State :=
  if rd s F.BDAC_CEIL_c_CEIL_HIT c = b2n hit then s
  else raiseEvent (wrB s F.BDAC_CEIL_c_CEIL_HIT hit c) (ev 0x8505 (locBdac c) (b2n hit))

/-- The gain of the range in use (R271). -/
def rangeGain (s : State) (c : Nat) : Nat := rd s F.BDAC_STATUS_c_RANGE c + 1

/-- What a bias DAC's pin does (R272): it floats, is at high impedance with 200 kilohms to ground, or drives a voltage. -/
inductive BdacPin where
  | floating
  | hiz
  | volts (v : Rat)
  deriving DecidableEq, Repr

/-- CONTROL has no power: in DARK, from step c5 of its entry on, and until the device has woken (R396, R399). -/
def controlOff (s : State) : Bool :=
  match s.power.mode with
  | .enteringDark k _ _ => decide (5 < k)
  | .dark => true
  | .wakingDark => true
  | _ => false

/-- A channel's pin (R271, R272): the voltage is code times gain times 1.25 V / 65,536, of the code that the track-and-hold lets through. -/
def bdacPin (s : State) (c : Nat) : BdacPin :=
  if controlOff s then .floating
  else if bdacState s c = 0 then .hiz
  else .volts ((5 / 4 : Rat) * ((bdacChan s c).out : Rat) / 65536)

/-- A code reaches the converter (R275): during a hold it waits; a change of bits [15:10] starts a hold; other changes
pass. -/
def bdacArrive (s : State) (c n : Nat) : State :=
  if rd s F.BDAC_STATUS_c_HOLDING c = 1 then setBdac s c { bdacChan s c with arrived := some n }
  else
    let old := rd s F.BDAC_STATUS_c_APPLIED c
    let s1 := wr s F.BDAC_STATUS_c_APPLIED n c
    if n / 1024 ≠ old / 1024 then wr s1 F.BDAC_STATUS_c_HOLDING 1 c
    else setBdac s1 c { bdacChan s1 c with out := n * rangeGain s1 c }

/-- The code of a channel's source (R273). -/
def sourceCode (s : State) (c : Nat) : Nat :=
  let ch := bdacChan s c
  if ch.fromLoop then ch.loopCode.getD ch.code else rdE s F.BDAC_CODE_c_CODE c

/-- A code takes its place in the channel: dither is added and the ceiling applied (R266, R273). -/
def bdacTake (s : State) (c code : Nat) : State :=
  let ch := bdacChan s c
  let s1 := setBdac s c { ch with code := code }
  let cm := rd s F.BDAC_CEIL_c_CODE_MAX c
  setCeilHit (bdacArrive s1 c (ceilingCode code ch.dither cm)) c (ceilingHit code ch.dither cm)

/-- An ACTIVE channel takes the code of its source. Held while a brown-out window is open (R370); outside SHOW it keeps the code it holds,
which the ceiling limits as ever (R266, R388). -/
def bdacRefresh (s : State) (c : Nat) : State :=
  if bdacState s c = 2 ∧ s.faults.window.isNone then
    bdacTake s c (if s.power.mode = .show then sourceCode s c else (bdacChan s c).code)
  else s

/-- The engine delivers a code to a channel (R249, R272): the first one after the enabling GO makes a LOOP channel
ACTIVE. -/
def bdacDeliver (s : State) (c code : Nat) : State :=
  let s1 := setBdac s c { bdacChan s c with loopCode := some code }
  let s2 := if bdacState s1 c = 1 ∧ rdE s1 F.BDAC_CTRL_c_SOURCE c = 1 then wr s1 F.BDAC_STATUS_c_STATE 2 c else s1
  if (bdacChan s2 c).fromLoop then bdacRefresh s2 c else s2

/-- The output returns to high impedance: no code is applied. -/
def bdacOff (s : State) (c : Nat) : State :=
  let s1 := wr (wr (wr s F.BDAC_STATUS_c_STATE 0 c) F.BDAC_STATUS_c_APPLIED 0 c) F.BDAC_STATUS_c_HOLDING 0 c
  setCeilHit (setBdac s1 c { bdacChan s1 c with out := 0, arrived := none, loopCode := none }) c false

/-- A tick boundary (R272, R273): a channel whose EN a GO cleared goes to HIZ; a changed SOURCE is taken over, and where the code register
is the new source, its code is the first one. -/
def bdacBoundary (s : State) (c : Nat) : State :=
  if rdE s F.BDAC_CTRL_c_EN c = 0 then if bdacState s c = 0 then s else bdacOff s c
  else
    let src := rdE s F.BDAC_CTRL_c_SOURCE c == 1
    if (bdacChan s c).fromLoop = src then s
    else
      let s1 := setBdac s c { bdacChan s c with fromLoop := src }
      bdacRefresh (if bdacState s1 c = 1 ∧ src = false then wr s1 F.BDAC_STATUS_c_STATE 2 c else s1) c

/-- BDAC_FIRST_CODE (R272): 2 microseconds after the enabling GO a REG channel takes its effective code. -/
def bdacFirstCode (c : Nat) (s : State) : State :=
  if bdacState s c = 1 ∧ rdE s F.BDAC_CTRL_c_EN c = 1 ∧ rdE s F.BDAC_CTRL_c_SOURCE c = 0 then
    let s1 := setBdac (wr s F.BDAC_STATUS_c_STATE 2 c) c { bdacChan s c with fromLoop := false }
    if s.faults.window.isSome then s1 else bdacTake s1 c (sourceCode s1 c)
  else s

def execBdacFirstCode (c : Fin 32) (s : State) : Host.Outcome State Fault Refusal := .next (bdacFirstCode c s)

/-- BDAC_HOLD_END (R275): the output follows the applied code; the latest code that arrived is applied. -/
def bdacHoldEnd (c : Nat) (s : State) : State :=
  if rd s F.BDAC_STATUS_c_HOLDING c = 1 then
    let ch := bdacChan s c
    let s1 := wr s F.BDAC_STATUS_c_HOLDING 0 c
    let s2 := setBdac s1 c { ch with out := rd s F.BDAC_STATUS_c_APPLIED c * rangeGain s c, arrived := none }
    match ch.arrived with
    | some n => bdacArrive s2 c n
    | none => s2
  else s

def execBdacHoldEnd (c : Fin 32) (s : State) : Host.Outcome State Fault Refusal := .next (bdacHoldEnd c s)

/-! Dither (R274). -/

def genEnabled (s : State) (g : Nat) : Bool := rdE s F.BDAC_DGEN_g_EN g == 1

/-- A generator advances by n modulator cycles; a disabled one holds phase 0. -/
def genAdvance (s : State) (g n : Nat) : DitherGen :=
  let d := vGet s.ctl.gens g ⟨0, 0⟩
  if genEnabled s g then
    let t := d.phase + n * rdE s F.BDAC_DGEN_g_FREQ g
    ⟨t % 2 ^ 32, d.wraps + t / 2 ^ 32⟩
  else ⟨0, d.wraps⟩

/-- A channel's dither term: round_conv(DAMP sin / 2^15), or 0 (R273, R274). -/
def ditherTerm (s : State) (c : Nat) : Int :=
  let g := rdE s F.BDAC_CTRL_c_DGEN c
  if rdE s F.BDAC_CTRL_c_DITH_EN c = 1 ∧ genEnabled s g = true then
    roundConv ((rdE s F.BDAC_CTRL_c_DAMP c : Int) * sinQ15 ((vGet s.ctl.gens g ⟨0, 0⟩).phase / 2 ^ 22)) (2 ^ 15)
  else 0

/-- DITHER_UPDATE (R274): every microsecond the generators have advanced 20 modulator cycles and each channel takes its
new term. In INTERMISSION and DARK the generators stand (R388). -/
def ditherUpdate (s : State) : State :=
  if s.power.mode = .show then
    let s1 := { s with ctl := { s.ctl with gens := Vector.ofFn fun g : Fin 4 => genAdvance s g 20 } }
    (List.range 32).foldl (fun t c =>
      let d := ditherTerm t c
      if (bdacChan t c).dither = d then t else bdacRefresh (setBdac t c { bdacChan t c with dither := d }) c) s1
  else s

def execDitherUpdate (s : State) : Host.Outcome State Fault Refusal := .next (ditherUpdate s)

/-! Which loops drive which channel (R260, R263). -/

def loopState (s : State) (l : Nat) : Nat := rd s F.LOOP_STATUS_STATE l
def loopGrouped (s : State) (l : Nat) : Bool := rdE s F.LOOP_CTRL_GROUPED l == 1
def loopGroup (s : State) (l : Nat) : Nat := rdE s F.LOOP_CTRL_GROUP l

/-- The channel a loop drives, alone or through its enabled group. -/
def loopActuator (s : State) (l : Nat) : Option Nat :=
  if loopGrouped s l then
    if rdE s F.LOOP_GRP_g_ENABLE (loopGroup s l) = 1 then some (rdE s F.LOOP_GRP_g_ACTUATOR (loopGroup s l)) else none
  else some (rdE s F.LOOP_OUT_DRV_ACTUATOR l)

/-- The loops not OFF that drive channel c. -/
def driversOf (s : State) (c : Nat) : List Nat :=
  whichBelow 32 fun l => loopState s l != 0 && loopActuator s l == some c

/-- Scales a code for a change of range (R276): halved with convergent rounding, or doubled. -/
def rescaleCode (toX2 : Bool) (n : Nat) : Nat := if toX2 then (roundConv (n : Int) 2).toNat else 2 * n

/-- Where the loop engine holds a code for channel c, beside those delivered or about to be: the loops that drive it themselves, and the
groups whose actuator it is (R276, log entry 163). The field that holds it and its index. -/
def engineCodes (s : State) (c : Nat) : List (Field × Nat) :=
  ((whichBelow 32 fun l => !loopGrouped s l && loopActuator s l == some c) ++ (driversOf s c).filter (loopGrouped s ·)).map
      (F.LOOP_STATUS_CODE, ·) ++
    (whichBelow 8 fun g => rdE s F.LOOP_GRP_g_ACTUATOR g == c).map (F.LOOP_GRP_STATUS_g_CODE, ·)

/-- The codes that a range change scales: staged and effective CODE, and what the loop engine holds for the channel. -/
def rangeCodes (s : State) (c : Nat) : List Nat :=
  [rd s F.BDAC_CODE_c_CODE c, rdE s F.BDAC_CODE_c_CODE c] ++ (bdacChan s c).loopCode.toList ++
    (s.ctl.pendingCodes.filter fun p => p.1 == c).map (·.2) ++ (engineCodes s c).map fun e => rd s e.1 e.2

/-- The range change of R276 steps 1 and 2: codes scaled, gain switched, and in every state the hold engaged. The codes that the loops hold are scaled with the
channel's, so that a loop in HOLD goes on with the scaled code. -/
def changeRange (s : State) (c : Nat) (toX2 : Bool) : State :=
  let f := rescaleCode toX2
  let ch := bdacChan s c
  let s0 := (engineCodes s c).foldl (fun t e => wr t e.1 (f (rd s e.1 e.2)) e.2) s
  let s1 := wrE (wr s0 F.BDAC_CODE_c_CODE (f (rd s F.BDAC_CODE_c_CODE c)) c) F.BDAC_CODE_c_CODE
    (f (rdE s F.BDAC_CODE_c_CODE c)) c
  let s2 := { s1 with ctl := { s1.ctl with
    bdac := vSet s1.ctl.bdac c { ch with loopCode := ch.loopCode.map f, code := f ch.code, arrived := none }
    pendingCodes := s1.ctl.pendingCodes.map fun p => if p.1 = c then (p.1, f p.2) else p } }
  let s3 := wr (wrB s2 F.BDAC_STATUS_c_RANGE toX2 c) F.BDAC_STATUS_c_HOLDING 1 c
  if bdacState s3 c = 2 then
    let cm := rd s3 F.BDAC_CEIL_c_CODE_MAX c
    setCeilHit (wr s3 F.BDAC_STATUS_c_APPLIED (ceilingCode (f ch.code) ch.dither cm) c) c (ceilingHit (f ch.code) ch.dither cm)
  else s3

/-- BDAC_RANGE's own part (R276, R286). A request for the range in use changes nothing. -/
def bdacRange (c : Cmd) : State → State × Reply :=
  withChecks (fun s =>
      let ch := c.w 2
      let change := rd s F.BDAC_STATUS_c_RANGE ch != c.w 3
      [(change && c.w 3 == 0 && (rangeCodes s ch).any fun n => decide (0x7FFF < n), stRange, 0),
       (change && (driversOf s ch).any fun l => loopState s l != 2, stState, 0),
       (rehearsing s 6 ch, stBusy, 0),
       (change && rd s F.BDAC_CEIL_c_LOCK ch == 1, stLocked, 0)])
    fun s =>
      let ch := c.w 2
      if rd s F.BDAC_STATUS_c_RANGE ch = c.w 3 then (s, .done stOK 0 (rdE s F.BDAC_CODE_c_CODE ch) 0)
      else
        let s1 := changeRange s ch (c.w 3 == 1)
        let s2 := { s1 with cal := { s1.cal with repeatBdac := if s1.cal.bdacNow = some ch then true else s1.cal.repeatBdac } }
        (raiseEvent s2 (ev 0x8510 (locBdac ch) (c.w 3 + rdE s1 F.BDAC_CODE_c_CODE ch * 2 ^ 16)),
          .done stOK 0 (rdE s1 F.BDAC_CODE_c_CODE ch) 0)

def execBdacRange (c : Cmd) (s : State) : Host.Outcome State Fault Refusal :=
  .next (hostCmd 0x0510 [(2, 0x1F), (3, 1)] noGate c (bdacRange c) s)

end Sys2Proof.Machine
end

