-- ==== Sys2Proof/Machine/Sense.lean ====
section
/-! DEFINITION. The sense chain (chapter 14, R277-R285): the bit-true decimation chain, SYNC, detectors and lock-in. -/

namespace Sys2Proof.Machine

open Sys2Proof

def locSense (n : Nat) : Nat := loc 2 7 7 n 0xFFF

def senseChan (s : State) (n : Nat) : SenseChan := vGet s.ctl.sense n .reset

def setSense (s : State) (n : Nat) (x : SenseChan) : State :=
  { s with ctl := { s.ctl with sense := vSet s.ctl.sense n x } }

/-- L of R282: the output samples after a SYNC that carry NOT_SETTLED. -/
def settleSamples (delay r hb firD : Nat) : Nat :=
  let d := if firD = 0 then 1 else firD
  let f := if firD = 0 then 0 else 63
  let settle := 16 + delay + 5 * (r - 1) + 10 * r * (2 ^ hb - 1) + f * r * 2 ^ hb
  (settle + r * 2 ^ hb * d - 1) / (r * 2 ^ hb * d)

/-- A chain just synchronised (R282): every filter state, phase counter and detector reset. -/
def senseFresh (s : State) (n : Nat) : SenseChan :=
  { SenseChan.reset with
    delay := List.replicate (rdE s F.SNS_CTRL_n_DELAY n) 0
    hb1 := List.replicate 11 0
    hb2 := List.replicate 11 0
    fir := List.replicate 64 0
    unsettled := settleSamples (rdE s F.SNS_CTRL_n_DELAY n) (rdE s F.SNS_DEC_n_CIC_R n) (rdE s F.SNS_DEC_n_HB n)
      (rdE s F.SNS_DEC_n_FIR_D n)
    liLast := (genAdvance s (rdE s F.SNS_LOCKIN_n_GEN n) 0).wraps
    calibrating := (senseChan s n).calibrating }

/-- What the output and detector registers read until the first output after a SYNC (R280, R283). -/
def senseBlank (s : State) (n : Nat) : State :=
  let s1 := wr (wr (wr s F.SNS_OUT_n_NOT_SETTLED 1 n) F.SNS_OUT_n_VALUE 0 n) F.SNS_RAW_n_RAW 0 n
  let s2 := wr (wr (wr s1 F.SNS_PEAK_n_MAX 0 n) F.SNS_PEAK_n_MIN 0 n) F.SNS_RMS_n_RMS 0 n
  let s3 := wr (wr (wr s2 F.SNS_RMS_n_NOT_SETTLED 1 n) F.SNS_ENV_n_ENV 0 n) F.SNS_ENV_n_NOT_SETTLED 1 n
  wr (wr (wr s3 F.SNS_LI_n_I 0 n) F.SNS_LI_n_Q 0 n) F.SNS_LI_STATUS_n_NOT_SETTLED 1 n

/-- SYNC of one channel, if enabled and running (R282); a calibration measurement of it restarts once. -/
def senseSync (s : State) (n : Nat) : State :=
  if rdE s F.SNS_CTRL_n_EN n = 1 then
    let s1 := senseBlank (setSense s n (senseFresh s n)) n
    if s1.cal.senseNow = some n then { s1 with cal := { s1.cal with repeatSense := true } } else s1
  else s

/-- SYNC of every channel of a mask at one modulator edge; a channel under rehearsal is passed over (R439). -/
def senseSyncMask (s : State) (mask : Nat) : State :=
  ((bitsSet 24 mask).filter fun n => !rehearsing s 7 n).foldl senseSync s

/-- SNS_SYNC_WRITE (R282). -/
def execSnsSyncWrite (mask : BitVec 24) (s : State) : Host.Outcome State Fault Refusal :=
  .next (senseSyncMask s mask.toNat)

/-! The decimation chain (R279). -/

/-- Five cascaded 42-bit integrators take one input; the last one's value is the chain's. -/
def cicIntegrate (v : Vector Int 5) (x : Int) : Vector Int 5 :=
  let a0 := wrapI 42 (v[0] + x)
  let a1 := wrapI 42 (v[1] + a0)
  let a2 := wrapI 42 (v[2] + a1)
  let a3 := wrapI 42 (v[3] + a2)
  #v[a0, a1, a2, a3, wrapI 42 (v[4] + a3)]

/-- Five cascaded combs: the new delays and the output. -/
def cicComb (v : Vector Int 5) (x : Int) : Vector Int 5 × Int :=
  let b0 := wrapI 42 (x - v[0])
  let b1 := wrapI 42 (b0 - v[1])
  let b2 := wrapI 42 (b1 - v[2])
  let b3 := wrapI 42 (b2 - v[3])
  (#v[x, b0, b1, b2, b3], wrapI 42 (b3 - v[4]))

/-- The CIC gain: x = sat24(round_conv(c K_R / 2^B)), B = ceil(5 log2 R), K_R = round_conv(2^(23 + B) / R^5). -/
def cicGain (r : Nat) (c : Int) : Int :=
  let b := if r ≤ 1 then 0 else (r ^ 5 - 1).log2 + 1
  satI 24 (roundConv (c * roundConv ((2 ^ (23 + b) : Nat) : Int) (r ^ 5)) (2 ^ b))

/-- The half-band coefficients over 512. -/
def halfBand : List Int := [3, 0, -25, 0, 150, 256, 150, 0, -25, 0, 3]

def dot (a x : List Int) : Int := (a.zip x).foldl (fun t p => t + p.1 * p.2) 0

def halfBandOut (line : List Int) : Int := satI 24 (roundConv (dot halfBand line) 512)

/-- The 64 coefficients of a set, a_0 first; one never written reads 0 (R281). -/
def coefSet (s : State) (k : Nat) : List Int := (List.range 64).map fun i => (aGet s.ctl.coefs (64 * k + i)).getD 0

/-- The words of a set in bank 63 that hold data: four coefficients a word (R355). -/
def coefWords (s : State) (k : Nat) : List Nat :=
  ((List.range 16).map (16 * k + ·)).filter fun w => (List.range 4).any fun i => (aGet s.ctl.coefs (4 * w + i)).isSome

/-- A functional read of one coefficient word; a lost word's valid bit is cleared (R363, bank 63). -/
def coefReadWord (s : State) (w : Nat) : State :=
  let r := eccRead s 63 w
  if r.2 then bankInvalid ((List.range 4).foldl (fun t i => { t with ctl := { t.ctl with
    coefs := aDel t.ctl.coefs (4 * w + i) } }) r.1) 63 w
  else r.1

def coefRead (s : State) (k : Nat) : State := (coefWords s k).foldl coefReadWord s

/-! Detectors (R283, R284). -/

/-- The peak detector's rule for MAX; MIN is its mirror image. -/
def peakMax (started : Bool) (cur : Int) (hold : Nat) (pkHold pkDecay : Nat) (x : Int) : Int × Nat :=
  if !started then (x, 0)
  else if cur < x then (x, 2 ^ pkHold)
  else if 0 < hold then (cur, hold - 1)
  else (max x (satI 16 (cur - ((2 ^ pkDecay : Nat) : Int))), 0)

def peakMin (started : Bool) (cur : Int) (hold : Nat) (pkHold pkDecay : Nat) (x : Int) : Int × Nat :=
  if !started then (x, 0)
  else if x < cur then (x, 2 ^ pkHold)
  else if 0 < hold then (cur, hold - 1)
  else (min x (satI 16 (cur + ((2 ^ pkDecay : Nat) : Int))), 0)

def detectPeak (s : State) (n : Nat) (x : Int) : State :=
  let ch := senseChan s n
  let h := rdE s F.SNS_DET_n_PK_HOLD n
  let d := rdE s F.SNS_DET_n_PK_DECAY n
  let a := peakMax ch.pkStarted (rdI s F.SNS_PEAK_n_MAX n) ch.maxHold h d x
  let b := peakMin ch.pkStarted (rdI s F.SNS_PEAK_n_MIN n) ch.minHold h d x
  setSense (wrI (wrI s F.SNS_PEAK_n_MAX a.1 n) F.SNS_PEAK_n_MIN b.1 n) n
    { ch with pkStarted := true, maxHold := a.2, minHold := b.2 }

/-- The RMS of a block: r = floor(sqrt M), plus 1 if M - r^2 > r, at most 0x7FFF. -/
def rmsOf (sum count : Nat) : Nat :=
  let m := (roundConv (sum : Int) count).toNat
  let r := Nat.sqrt m
  min (if r < m - r * r then r + 1 else r) 0x7FFF

def detectRms (s : State) (n : Nat) (x : Int) : State :=
  let ch := senseChan s n
  let sum := ch.rmsSum + (x * x).toNat
  let block := 2 ^ rdE s F.SNS_DET_n_RMS_K n
  if block ≤ ch.rmsCount + 1 then
    let s1 := wr (wr (inc s F.SNS_RMS_n_SEQ 1 n) F.SNS_RMS_n_NOT_SETTLED 0 n) F.SNS_RMS_n_RMS (rmsOf sum block) n
    setSense s1 n { ch with rmsSum := 0, rmsCount := 0 }
  else setSense s n { ch with rmsSum := sum, rmsCount := ch.rmsCount + 1 }

def detectEnv (s : State) (n : Nat) (x : Int) : State :=
  let ch := senseChan s n
  let m : Int := (min x.natAbs 32767 : Nat) * 256
  let e := if ch.envStarted then satI 24 (ch.env + roundConv (rdEI s F.SNS_DET_n_ENV_COEF n * (m - ch.env)) (2 ^ 15)) else m
  let s1 := wrI (wr (inc s F.SNS_ENV_n_SEQ 1 n) F.SNS_ENV_n_NOT_SETTLED 0 n) F.SNS_ENV_n_ENV
    (satI 16 (roundConv e 256)) n
  setSense s1 n { ch with envStarted := true, env := e }

/-- The lock-in of a channel (R284). `off` is how many modulator cycles the sample lies after the generators' last
update. -/
def detectLockin (s : State) (n : Nat) (x : Int) (off : Nat) : State :=
  let ch := senseChan s n
  let g := rdE s F.SNS_LOCKIN_n_GEN n
  if genEnabled s g then
    let d := genAdvance s g off
    let p := d.phase / 2 ^ 22
    let passed := d.wraps - ch.liLast
    if ch.liOn then
      if rdE s F.SNS_LOCKIN_n_LI_N n ≤ ch.liWraps + passed then
        let i := satI 16 (roundConv (2 * ch.liSI) (ch.liM * 2 ^ 15))
        let q := satI 16 (roundConv (2 * ch.liSQ) (ch.liM * 2 ^ 15))
        let s1 := wr (inc (wrI (wrI s F.SNS_LI_n_I i n) F.SNS_LI_n_Q q n) F.SNS_LI_STATUS_n_SEQ 1 n)
          F.SNS_LI_STATUS_n_NOT_SETTLED 0 n
        setSense s1 n { ch with
          liSI := x * cosQ15 p
          liSQ := x * sinQ15 p
          liM := 1
          liWraps := 0
          liLast := d.wraps }
      else setSense s n { ch with
        liSI := ch.liSI + x * cosQ15 p
        liSQ := ch.liSQ + x * sinQ15 p
        liM := ch.liM + 1
        liWraps := ch.liWraps + passed
        liLast := d.wraps }
    else if 0 < passed then setSense s n { ch with
        liOn := true
        liSI := x * cosQ15 p
        liSQ := x * sinQ15 p
        liM := 1
        liWraps := 0
        liLast := d.wraps }
    else setSense s n { ch with liLast := d.wraps }
  else setSense s n { ch with liOn := false, liLast := (vGet s.ctl.gens g ⟨0, 0⟩).wraps }

/-- 0.85 of full scale in Q1.23, rounded down: a magnitude above it exceeds 0.85 (R277). -/
def overloadMag : Nat := 7130316

/-- An output sample is delivered (R280, R283): an unsettled one carries zeros; a settled one feeds the detectors and,
within 0.85, clears OVER (R277). -/
def senseSample (s : State) (n : Nat) (raw : Int) (off : Nat) : State :=
  let ch := senseChan s n
  let s1 := inc (inc s F.SNS_OUT_n_SEQ 1 n) F.SNS_RAW_n_SEQ 1 n
  if 0 < ch.unsettled ∨ ch.calibrating = true ∨ s.test.fencedSense.testBit n = true then
    setSense (wr (wr (wr s1 F.SNS_OUT_n_NOT_SETTLED 1 n) F.SNS_OUT_n_VALUE 0 n) F.SNS_RAW_n_RAW 0 n) n
      { ch with
        unsettled := ch.unsettled - 1
        liLast := (genAdvance s (rdE s F.SNS_LOCKIN_n_GEN n) off).wraps }
  else
    let v := satI 16 (roundConv raw 256)
    let s2 := wrI (wrI (wr s1 F.SNS_OUT_n_NOT_SETTLED 0 n) F.SNS_OUT_n_VALUE v n) F.SNS_RAW_n_RAW raw n
    let s3 := if rd s2 F.SNS_OUT_n_OVER n = 1 ∧ raw.natAbs ≤ overloadMag then
      raiseEvent (wr s2 F.SNS_OUT_n_OVER 0 n) (ev 0x8511 (locSense n) 0) else s2
    detectLockin (detectEnv (detectRms (detectPeak s3 n v) n v) n v) n v off

/-- The FIR stage (R279): bypassed, or one output per FIR_D inputs over the last 64. -/
def firStage (s : State) (n : Nat) (x : Int) (off : Nat) : State :=
  let d := rdE s F.SNS_DEC_n_FIR_D n
  if d = 0 then senseSample s n x off
  else
    let ch := senseChan s n
    let line := (x :: ch.fir).take 64
    if d ≤ ch.firPhase + 1 then
      let k := rdE s F.SNS_DEC_n_COEF n
      let s1 := coefRead (setSense s n { ch with fir := line, firPhase := 0 }) k
      senseSample s1 n (satI 24 (roundConv (dot (coefSet s1 k) line) (2 ^ 15))) off
    else setSense s n { ch with fir := line, firPhase := ch.firPhase + 1 }

/-- The second half-band stage, when HB = 2. -/
def hb2Stage (s : State) (n : Nat) (x : Int) (off : Nat) : State :=
  if rdE s F.SNS_DEC_n_HB n < 2 then firStage s n x off
  else
    let ch := senseChan s n
    let line := (x :: ch.hb2).take 11
    if ch.hb2Phase = 0 then setSense s n { ch with hb2 := line, hb2Phase := 1 }
    else firStage (setSense s n { ch with hb2 := line, hb2Phase := 0 }) n (halfBandOut line) off

/-- The first half-band stage, when HB is not 0. -/
def hb1Stage (s : State) (n : Nat) (x : Int) (off : Nat) : State :=
  if rdE s F.SNS_DEC_n_HB n < 1 then hb2Stage s n x off
  else
    let ch := senseChan s n
    let line := (x :: ch.hb1).take 11
    if ch.hb1Phase = 0 then setSense s n { ch with hb1 := line, hb1Phase := 1 }
    else hb2Stage (setSense s n { ch with hb1 := line, hb1Phase := 0 }) n (halfBandOut line) off

/-- The CIC output reaches the chain; a magnitude above 0.85 sets OVER and restarts the channel (R277). -/
def cicStage (s : State) (n : Nat) (c : Int) (off : Nat) : State :=
  let x := cicGain (rdE s F.SNS_DEC_n_CIC_R n) c
  if overloadMag < x.natAbs then
    let s1 := if rd s F.SNS_OUT_n_OVER n = 1 then s else
      raiseEvent (wr s F.SNS_OUT_n_OVER 1 n) (ev 0x8511 (locSense n) 1)
    senseSync s1 n
  else hb1Stage s n x off

/-- One modulator bit, +1 or -1 (R277-R279). -/
def senseBit (s : State) (n : Nat) (b : Bool) (off : Nat) : State :=
  let ch := senseChan s n
  let x0 : Int := if b then 1 else -1
  let line := x0 :: ch.delay
  let x := line.getLastD x0
  let iv := cicIntegrate ch.integ x
  if rdE s F.SNS_DEC_n_CIC_R n ≤ ch.cicPhase + 1 then
    let cv := cicComb ch.comb iv[4]
    cicStage (setSense s n { ch with delay := line.dropLast, integ := iv, comb := cv.1, cicPhase := 0 }) n cv.2 off
  else setSense s n { ch with delay := line.dropLast, integ := iv, cicPhase := ch.cicPhase + 1 }

/-- The modulator bits of one output sample pass the chain, the first at cycle `off` after the generators' update. -/
def senseBits (n : Nat) : List Bool → Nat → State → State
  | [], _, s => s
  | b :: bs, off, s => senseBits n bs (off + 1) (senseBit s n b off)

/-- SNS_SAMPLE (R277-R284): modulator bits of an enabled channel in SHOW. -/
def snsSample (n : Nat) (bits : List Bool) (off : Nat) (s : State) : State :=
  if rdE s F.SNS_CTRL_n_EN n = 1 ∧ s.power.mode = .show then senseBits n bits off s else s

def execSnsSample (chan : Fin 24) (bits : List Bool) (offset : Fin 20) (s : State) : Host.Outcome State Fault Refusal :=
  .next (snsSample chan bits offset s)

/-! Coefficient sets (R281, R286). -/

/-- Some enabled channel effectively uses the set. -/
def coefInUse (s : State) (k : Nat) : Bool :=
  (List.range 24).any fun n => rdE s F.SNS_CTRL_n_EN n == 1 && rdE s F.SNS_DEC_n_FIR_D n != 0 && rdE s F.SNS_DEC_n_COEF n == k

/-- A word is a Q1.15 value sign-extended to 32 bits. -/
def signExtended16 (w : Nat) : Bool := decide (ofSigned 32 (toSigned 16 w) = w)

/-- SNS_COEF_WRITE's own part. -/
def snsCoefWrite (c : Cmd) : State → State × Reply :=
  withChecks (fun s =>
      let ws := (fetchWords s (windowBase + c.w 3) 64).2
      [(c.w 3 % 4 != 0 || (!bulkBad s (c.w 3) 256 && ws.any fun w => !signExtended16 w), stParam, 3),
       (bulkBad s (c.w 3) 256, stRange, 0),
       (coefInUse s (c.w 2), stState, 0)])
    fun s0 =>
      let r := fetchWords s0 (windowBase + c.w 3) 64
      let s := r.1
      let ws := r.2
      let put := (ws.zipIdx).foldl (fun m e => aSet m (64 * c.w 2 + e.2) (toSigned 16 e.1)) s.ctl.coefs
      (bankWrittenAll { s with ctl := { s.ctl with coefs := put } } 63 ((List.range 16).map (16 * c.w 2 + ·)),
        .done stOK 0 0 0)

def execSnsCoefWrite (c : Cmd) (s : State) : Host.Outcome State Fault Refusal :=
  .next (hostCmd 0x0511 [(2, 3), (3, 0xFFFFFFFF)] noGate c (snsCoefWrite c) s)

/-- SNS_COEF_READ's own part. -/
def snsCoefRead (c : Cmd) : State → State × Reply :=
  withChecks (fun s => [(c.w 3 % 4 != 0, stParam, 3), (bulkBad s (c.w 3) 256, stRange, 0)])
    fun s =>
      let t := coefRead s (c.w 2)
      (bulkWords t (c.w 3) ((coefSet t (c.w 2)).map (ofSigned 32)), .done stOK 0 256 0)

def execSnsCoefRead (c : Cmd) (s : State) : Host.Outcome State Fault Refusal :=
  .next (hostCmd 0x0512 [(2, 3), (3, 0xFFFFFFFF)] noGate c (snsCoefRead c) s)

end Sys2Proof.Machine
end

