-- ==== Sys2Proof/Machine/Loop.lean ====
section
/-! DEFINITION. The loop engine (chapter 13, R249-R269): exact PID arithmetic, inputs and freshness, lost feedback, groups,
set-point profiles and delivery. -/

namespace Sys2Proof.Machine

open Sys2Proof

/-- The location of a loop: its group, or 0xFF ungrouped, and the loop as unit (R19). -/
def locLoop (s : State) (l : Nat) : Nat := loc 1 7 5 (if loopGrouped s l then loopGroup s l else 0xFF) l
def locGroup (g : Nat) : Nat := loc 2 7 5 g 0xFFF
def locEngine : Nat := loc 2 7 5 0xFE 0xFFF

def loopRec (s : State) (l : Nat) : LoopRec := vGet s.ctl.loops l .reset

def setLoop (s : State) (l : Nat) (x : LoopRec) : State :=
  { s with ctl := { s.ctl with loops := vSet s.ctl.loops l x } }

/-- A loop is under rehearsal when its group is (R438: class 0x5). -/
def loopRehearsing (s : State) (l : Nat) : Bool := loopGrouped s l && rehearsing s 5 (loopGroup s l)

/-! History flags (R254). -/

/-- Sets history flags of a loop; with HIST_EVT = 1 newly set ones raise LOOP_HISTORY. -/
def setHistory (s : State) (l flags : Nat) : State :=
  let old := rd s F.LOOP_HIST_FLAGS l
  let new := flags &&& (255 - old)
  if new = 0 then s
  else
    let s1 := wr s F.LOOP_HIST_FLAGS (old ||| flags) l
    if rdE s F.LOOP_CTRL_HIST_EVT l = 1 then raiseEvent s1 (ev 0x8506 (locLoop s l) new) else s1

/-! Inputs (R255). -/

/-- An input as a loop finds it at a tick: its sequence number (none when no sample may be taken) and its value. A constant
and the swing in use are new at every period. -/
structure LoopInput where
  seq : Option Nat
  always : Bool
  value : Int

/-- The latest sample of a loop's input (R255). -/
def loopInput (s : State) (l : Nat) : LoopInput :=
  let kind := rdE s F.LOOP_INPUT_KIND l
  let idx := rdE s F.LOOP_INPUT_INDEX l
  let det := rdE s F.LOOP_INPUT_DETECTOR l
  let ch := idx % 32
  if kind = 0 then
    if det = 0 then ⟨if rd s F.SNS_OUT_n_NOT_SETTLED ch = 1 then none else some (rd s F.SNS_OUT_n_SEQ ch), false,
      rdI s F.SNS_OUT_n_VALUE ch⟩
    else if det = 1 then ⟨if rd s F.SNS_RMS_n_NOT_SETTLED ch = 1 then none else some (rd s F.SNS_RMS_n_SEQ ch), false,
      rdI s F.SNS_RMS_n_RMS ch⟩
    else if det = 2 then ⟨if rd s F.SNS_ENV_n_NOT_SETTLED ch = 1 then none else some (rd s F.SNS_ENV_n_SEQ ch), false,
      rdI s F.SNS_ENV_n_ENV ch⟩
    else ⟨if rd s F.SNS_OUT_n_NOT_SETTLED ch = 1 then none else some (rd s F.SNS_OUT_n_SEQ ch), false,
      if det = 3 then rdI s F.SNS_PEAK_n_MAX ch else rdI s F.SNS_PEAK_n_MIN ch⟩
  else if kind = 1 then
    ⟨if rd s F.SNS_LI_STATUS_n_NOT_SETTLED ch = 1 then none else some (rd s F.SNS_LI_STATUS_n_SEQ ch), false,
      if det = 0 then rdI s F.SNS_LI_n_I ch else rdI s F.SNS_LI_n_Q ch⟩
  else if kind = 2 then
    let lane := idx % 8
    let metric := idx / 8 % 4
    if metric = 0 then ⟨some (rd s F.LEQ_MET_CTRL_SEQ lane), false, (rd s F.LEQ_SNR_ALL_SNR lane / 2 : Nat)⟩
    else if metric = 1 then ⟨some (vGet s.ctl.levelSeq lane 0), false, (rd s F.LRX_VGA_STATUS_LEVEL lane / 2 : Nat)⟩
    else ⟨none, true, ((rd s F.LTX_SWING_NOW lane) * 2 ^ 9 : Nat)⟩
  else ⟨none, true, rdEI s F.LOOP_INPUT_AUX_CONST l⟩

/-- Is the input fresh: its sequence differs from the one the loop used (R255)? -/
def inputFresh (r : LoopRec) (i : LoopInput) : Bool :=
  i.always || (match i.seq with
    | some q => r.lastSeq != some q
    | none => false)

/-- The freeze tests apply to sense, lock-in and the two windowed metrics (R257). -/
def freezable (s : State) (l : Nat) : Bool :=
  let kind := rdE s F.LOOP_INPUT_KIND l
  kind ≤ 1 || (kind == 2 && rdE s F.LOOP_INPUT_INDEX l / 8 % 4 ≤ 1)

def freezeN (s : State) (l : Nat) : Nat := 16 * 2 ^ rdE s F.LOOP_INPUT_FRZ_LEN l

/-! Lost feedback (R256-R259). -/

def setLoopState (s : State) (l st : Nat) : State := wr s F.LOOP_STATUS_STATE st l

/-- The loop belongs to a group that a rehearsal fenced (R442): it stays in FAULT. -/
def loopFenced (s : State) (l : Nat) : Bool := loopGrouped s l && s.test.fencedGroups.testBit (loopGroup s l)

/-- A loop enters SAFE (R258): the profile generator ramps U from its present value. -/
def enterSafe (s : State) (l : Nat) : State :=
  let r := loopRec s l
  setLoopState (setLoop s l { r with x := shl r.u 16, v := 0, a := 0 }) l 4

/-- The members of a group: grouped loops that are not OFF (R260). -/
def groupMembers (s : State) (g : Nat) : List Nat :=
  whichBelow 32 fun l => loopGrouped s l && loopGroup s l == g && loopState s l != 0

/-- A group is escalated on behalf of a loop (R261): its other members in RUN than the safety member read ESCALATED. If it is escalated
already, only the event is raised. -/
def escalate (s : State) (g l : Nat) : State :=
  let safety := rdE s F.LOOP_GRP_g_SAFETY g
  let s1 := if rd s F.LOOP_GRP_STATUS_g_ESCALATED g = 1 then s else
    (groupMembers s g).foldl (fun t m => if m ≠ safety ∧ loopState t m = 1 then setLoopState t m 5 else t)
      (wr s F.LOOP_GRP_STATUS_g_ESCALATED 1 g)
  raiseEvent s1 (ev 0x8503 (locLoop s l) (g + safety * 2 ^ 8 + l * 2 ^ 16))

/-- The group of a loop is escalated. -/
def inEscalated (s : State) (l : Nat) : Bool := loopGrouped s l && rd s F.LOOP_GRP_STATUS_g_ESCALATED (loopGroup s l) == 1

/-- A member that is in RUN while its group is escalated reads ESCALATED (R261). -/
def runState (u : State) (l : Nat) : Nat :=
  if inEscalated u l ∧ rdE u F.LOOP_GRP_g_SAFETY (loopGroup u l) ≠ l then 5 else 1

/-- Lost feedback stands on a loop. -/
def feedbackLost (s : State) (l : Nat) : Bool := rd s F.LOOP_STATUS_STALE l == 1 || rd s F.LOOP_STATUS_FROZEN l == 1

/-- The loop is the safety member of an escalated group: it takes SAFE (R261). -/
def safetyEscalated (s : State) (l : Nat) : Bool :=
  loopGrouped s l && rd s F.LOOP_GRP_STATUS_g_ESCALATED (loopGroup s l) == 1 && rdE s F.LOOP_GRP_g_SAFETY (loopGroup s l) == l

/-- A loop has lost its feedback (R258): LOOP_LOST_FEEDBACK, and in RUN or ESCALATED its action. -/
def loseFeedback (s : State) (l : Nat) : State :=
  let action := if safetyEscalated s l then 1 else rdE s F.LOOP_CTRL_LOST_ACTION l
  let s1 := raiseEvent s (ev 0x8501 (locLoop s l)
    (l + rd s F.LOOP_STATUS_STALE l * 2 ^ 5 + rd s F.LOOP_STATUS_FROZEN l * 2 ^ 6 + action * 2 ^ 8))
  let st := loopState s l
  if action = 2 ∧ (st = 1 ∨ st = 5) then escalate s1 (loopGroup s l) l
  else if st = 1 then if action = 1 then enterSafe s1 l else setLoopState s1 l 3
  else s1

/-- A level rises: its bit and history, and the action on a loop in RUN (R256-R258). -/
def staleSets (s : State) (l : Nat) : State :=
  if rd s F.LOOP_STATUS_STALE l = 1 then s
  else loseFeedback (setHistory (wr s F.LOOP_STATUS_STALE 1 l) l 0x20) l

def frozenSets (s : State) (l : Nat) : State :=
  if rd s F.LOOP_STATUS_FROZEN l = 1 then s
  else loseFeedback (setHistory (wr s F.LOOP_STATUS_FROZEN 1 l) l 0x40) l

/-- The freeze tests begin a new block (R257). -/
def blockAnew (r : LoopRec) : LoopRec :=
  { r with
    blkN := 0
    blkSum := 0
    blkSq := 0
    blkEq := false }

/-- A loop's return to RUN (R259): bumpless, unless its first sample since OFF is still to come (R263). -/
def comesBack (r : LoopRec) : LoopRec := { r with first := if r.first = .fromOff then .fromOff else .bumpless }

/-- The freeze tests take a fresh sample (R257). -/
def freezeTest (s : State) (l : Nat) (x : Int) : State :=
  if freezable s l then
    let r := loopRec s l
    let n := freezeN s l
    let run := if 0 < r.eqRun ∧ r.pv = x then r.eqRun + 1 else 1
    let cnt := r.blkN + 1
    let sum := r.blkSum + x
    let sq := r.blkSq + x * x
    let thr := rdE s F.LOOP_INPUT_AUX_VAR_THR l
    let atEnd := decide (n ≤ cnt)
    let varHit := atEnd && thr != 0 && decide ((n : Int) * sq - sum * sum < (thr : Int) * ((n * n : Nat) : Int))
    let eqHit := decide (n ≤ run)
    let blkEq := r.blkEq || eqHit
    let r1 := { r with
      eqRun := run
      blkN := if atEnd then 0 else cnt
      blkSum := if atEnd then 0 else sum
      blkSq := if atEnd then 0 else sq
      blkEq := blkEq && !atEnd }
    let s1 := setLoop s l r1
    if eqHit || varHit then frozenSets s1 l
    else if atEnd && !blkEq then wr s1 F.LOOP_STATUS_FROZEN 0 l
    else s1
  else s

/-! The profile generator (R262). -/

/-- One step of the S-curve toward T, all values in Q1.31: the new X, V, A. V and A are unbounded: the spec neither wraps nor saturates
them (log entry 188). -/
def profileStep (t x v a : Int) (vMax aMax jMax : Nat) : Int × Int × Int :=
  let dn := t - x
  let deff : Nat := dn.natAbs - v.natAbs * aMax / jMax
  let mag : Int := (min vMax (Nat.sqrt (min (2 * aMax * deff) (2 ^ 64 - 1))) : Nat)
  let vd : Int := if dn < 0 then -mag else if dn = 0 then 0 else mag
  let ad := clampI (-(aMax : Int)) (aMax : Int) (vd - v)
  let a1 := a + clampI (-(jMax : Int)) (jMax : Int) (ad - a)
  let v1 := clampI (-(vMax : Int)) (vMax : Int) (v + a1)
  let x1 := satI 32 (x + v1)
  if (t - x1).natAbs ≤ aMax ∧ v1.natAbs ≤ aMax ∧ a1.natAbs ≤ jMax then (t, 0, 0) else (x1, v1, a1)

def loopProfile (s : State) (l : Nat) (t x v a : Int) : Int × Int × Int :=
  profileStep t x v a (rdE s F.LOOP_PROF_m_LIMIT l 0) (rdE s F.LOOP_PROF_m_LIMIT l 1) (rdE s F.LOOP_PROF_m_LIMIT l 2)

/-- MOVING (R262): the generator has not arrived at its target, the set-point's or in SAFE the output's. -/
def movingShow (s : State) (l : Nat) : State :=
  let r := loopRec s l
  let t := if loopState s l = 4 then rdEI s F.LOOP_SP_SAFE_U l else r.target
  let runs := loopState s l == 4 || (rdE s F.LOOP_CTRL_PROF_EN l == 1 && loopState s l != 0 && r.first != .fromOff)
  wrB s F.LOOP_STATUS_MOVING (runs && (r.x != shl t 16 || r.v != 0)) l

/-- The record with its next set-point: one profile step, or the target (R262). SP can round up to 32,768, and is not saturated (log entry
188). -/
def setPoint (s : State) (l : Nat) (r : LoopRec) : LoopRec :=
  if rdE s F.LOOP_CTRL_PROF_EN l = 1 then
    let p := loopProfile s l (shl r.target 16) r.x r.v r.a
    { r with x := p.1, v := p.2.1, a := p.2.2, sp := roundConv p.1 (2 ^ 16) }
  else { r with sp := r.target }

/-! The arithmetic of one period (R251-R253). -/

/-- The output of the PID arithmetic: the new integrator, derivative and output before sat16 (R251), and the history flags it sets. -/
structure PidOut where
  integ : Int
  df : Int
  u0 : Int
  flags : Nat
  deriving DecidableEq, Repr

/-- The gains and limits of a loop, effective (R250). -/
structure PidGains where
  kp : Int
  ki : Int
  kd : Int
  kff : Int
  pShift : Nat
  iShift : Nat
  dShift : Nat
  ffShift : Nat
  alpha : Int
  iMin : Int
  iMax : Int
  deriving DecidableEq, Repr

def loopGains (s : State) (l : Nat) : PidGains :=
  ⟨rdEI s F.LOOP_GAIN_PI_KP l, rdEI s F.LOOP_GAIN_PI_KI l, rdEI s F.LOOP_GAIN_DF_KD l, rdEI s F.LOOP_GAIN_DF_KFF l,
    rdE s F.LOOP_SHIFTS_P_SHIFT l, rdE s F.LOOP_SHIFTS_I_SHIFT l, rdE s F.LOOP_SHIFTS_D_SHIFT l,
    rdE s F.LOOP_SHIFTS_FF_SHIFT l, rdEI s F.LOOP_SHIFTS_ALPHA l, rdEI s F.LOOP_ILIM_m_LIMIT l 0,
    rdEI s F.LOOP_ILIM_m_LIMIT l 1⟩

/-- A sum in Q10.30 from left to right, every addition saturating (R250, log entry 175), and whether one did. -/
def sumSat : List Int → Int → Int × Bool
  | [], a => (a, false)
  | x :: xs, a =>
    let q := sumSat xs (satI 40 (a + x))
    (q.1, satHit 40 (a + x) || q.2)

/-- One period, exactly (R251); every addition, subtraction and shift saturates (R250). -/
def pidPeriod (g : PidGains) (sp pv pvPrev integ df : Int) (integrate : Bool) : PidOut :=
  let e := satI 16 (sp - pv)
  let p := satI 40 (shl (g.kp * e) g.pShift)
  let pSat := satHit 16 (sp - pv) || satHit 40 (shl (g.kp * e) g.pShift)
  let step := satI 40 (shl (g.ki * e) g.iShift)
  let i1 := satI 40 (integ + step)
  let i2 := clampI (shl g.iMin 8) (shl g.iMax 8) i1
  let iSat := integrate && (satHit 40 (shl (g.ki * e) g.iShift) || satHit 40 (integ + step) || i2 != i1)
  let i := if integrate then i2 else integ
  let dpv := satI 16 (pvPrev - pv)
  let d := satI 40 (shl (g.kd * dpv) g.dShift)
  let dfRaw := if g.alpha = 0 then d else df + roundConv (g.alpha * satI 40 (d - df)) (2 ^ 15)
  let df1 := satI 40 dfRaw
  let dSat := satHit 16 (pvPrev - pv) || satHit 40 (shl (g.kd * dpv) g.dShift) || (g.alpha != 0 && satHit 40 (d - df)) || satHit 40 dfRaw
  let ff := satI 40 (shl (g.kff * sp) g.ffShift)
  let sum := sumSat [i, df1, ff] p
  let u0 := roundConv sum.1 (2 ^ 15)
  let sSat := satHit 40 (shl (g.kff * sp) g.ffShift) || sum.2 || satHit 16 u0
  ⟨i, df1, u0, b2n pSat + b2n iSat * 2 + b2n dSat * 4 + b2n sSat * 8⟩

/-- The integrator of a bumpless return (R259) before its limits: P + I + FF reproduces the present U. -/
def bumplessInteg (g : PidGains) (sp pv u : Int) : Int :=
  let e := satI 16 (sp - pv)
  let p := satI 40 (shl (g.kp * e) g.pShift)
  let ff := satI 40 (shl (g.kff * sp) g.ffShift)
  (sumSat [-p, -ff] (shl u 15)).1

/-- The code of an output (R253): raw value and code. -/
def outputRaw (s : State) (l : Nat) (u : Int) : Int :=
  (rdE s F.LOOP_OUT_MAP_OUT_BIAS l : Int) + roundConv (u * (rdE s F.LOOP_OUT_MAP_OUT_SPAN l : Int)) (2 ^ 15)

/-- A loop's output and code are set from U before sat16; clamping shows in the level and the history (R253, R254), and clamping and a
saturated U stop integration that way at the next period (R252). -/
def setOutput (s : State) (l : Nat) (r : LoopRec) (u0 : Int) : State :=
  let u := satI 16 u0
  let raw := outputRaw s l u
  let lo : Int := (rdE s F.LOOP_OUT_LIM_OUT_MIN l : Nat)
  let hi : Int := (rdE s F.LOOP_OUT_LIM_OUT_MAX l : Nat)
  let code := max lo (min hi raw)
  let top := decide (hi < raw)
  let bottom := decide (raw < lo)
  let s1 := setLoop s l { r with
    u := u
    atTop := top || decide (u < u0)
    atBottom := bottom || decide (u0 < u)
    slewDir := 0
    hasCode := true }
  let s2 := wrB (wr s1 F.LOOP_STATUS_CODE code.toNat l) F.LOOP_STATUS_CLAMP (top || bottom) l
  movingShow (if top || bottom then setHistory s2 l 0x10 else s2) l

/-- The channel that a loop drives: its own, or its group's where it won the latest arbitration (R252). -/
def drivenBy (s : State) (l : Nat) : Option Nat :=
  if loopGrouped s l && (rd s F.LOOP_STATUS_LOST_ARB l == 1 || rd s F.LOOP_GRP_STATUS_g_WINNER (loopGroup s l) != l) then none
  else loopActuator s l

/-- May the period integrate (R252)? For the driver of an actuator, the slew limit at some tick since the previous period and the
ceiling count as clamping. -/
def mayIntegrate (s : State) (l : Nat) (r : LoopRec) (kie : Int) : Bool :=
  let ceil := match drivenBy s l with
    | some c => rd s F.BDAC_CEIL_c_CEIL_HIT c == 1
    | none => false
  let top := r.atTop || r.slewDir == 1 || ceil
  let bottom := r.atBottom || r.slewDir == -1
  loopState s l == 1 && rd s F.LOOP_STATUS_LOST_ARB l == 0 && !(decide (0 < kie) && top) && !(decide (kie < 0) && bottom)

/-- A computed period of a loop with a fresh sample (R251, R259, R263). -/
def computePeriod (s : State) (l : Nat) (pv : Int) : State :=
  let r0 := loopRec s l
  let g := loopGains s l
  match r0.first with
  | .bumpless =>
    let q := setPoint s l r0
    let i0 := bumplessInteg g q.sp pv r0.u
    let i := clampI (shl g.iMin 8) (shl g.iMax 8) i0
    let o := pidPeriod g q.sp pv pv i 0 false
    setOutput (setHistory s l (o.flags + b2n (i != i0) * 2)) l { q with integ := i, df := 0, pv := pv, first := .no, misses := 0 } o.u0
  | f =>
    let r1 := if f = .fromOff then { r0 with integ := 0, df := 0, pv := pv, x := shl pv 16, v := 0, a := 0 } else r0
    let q := setPoint s l r1
    let kie := g.ki * satI 16 (q.sp - pv)
    let o := pidPeriod g q.sp pv r1.pv r1.integ r1.df (mayIntegrate s l r1 kie)
    setOutput (setHistory s l o.flags) l { q with integ := o.integ, df := o.df, pv := pv, first := .no, misses := 0 } o.u0

/-- A loop in SAFE steps its output toward SAFE_U (R258). -/
def safePeriod (s : State) (l : Nat) : State :=
  let r := loopRec s l
  let p := loopProfile s l (shl (rdEI s F.LOOP_SP_SAFE_U l) 16) r.x r.v r.a
  setOutput s l { r with x := p.1, v := p.2.1, a := p.2.2 } (roundConv p.1 (2 ^ 16))

/-- A loop leaves SAFE: the profile generator stands at the set-point again (R258, R259). -/
def safeLeft (r : LoopRec) : LoopRec := { r with x := shl r.sp 16, v := 0, a := 0 }

/-- A period of a loop: freshness, freeze tests, lost feedback and its return, and the computation its state calls for
(R249, R255-R259). On the crystal no sample counts as fresh, so that the loop stays as though STALE had set (R268). -/
def loopPeriod (s : State) (l : Nat) : State :=
  let i := loopInput s l
  let r := loopRec s l
  if inputFresh r i && rd s F.LOOP_ENGINE_STATUS_FALLBACK == 0 then
    let s1 := freezeTest (wr s F.LOOP_STATUS_STALE 0 l) l i.value
    let s2 := setLoop s1 l { loopRec s1 l with lastSeq := i.seq, misses := 0 }
    let clear := rd s2 F.LOOP_STATUS_STALE l == 0 && rd s2 F.LOOP_STATUS_FROZEN l == 0
    let st := loopState s2 l
    if st = 3 ∧ clear = true then
      let s3 := setLoopState (setLoop s2 l (comesBack (loopRec s2 l))) l (runState s2 l)
      computePeriod (raiseEvent s3 (ev 0x8502 (locLoop s l) l)) l i.value
    else if st = 4 then safePeriod (setLoop s2 l { loopRec s2 l with pv := i.value }) l
    else if st = 1 ∨ st = 5 then computePeriod s2 l i.value
    else setLoop s2 l { loopRec s2 l with pv := i.value }
  else
    let s1 := setLoop s l { r with misses := r.misses + 1 }
    let s2 := if 3 ≤ r.misses + 1 then staleSets s1 l else s1
    if loopState s2 l = 4 ∧ loopState s l = 4 then safePeriod s2 l else s2

/-- A loop is due at this tick (R249). -/
def loopDue (s : State) (l : Nat) : Bool :=
  let st := loopState s l
  (st == 1 || st == 3 || st == 4 || st == 5) &&
    (s.ctl.tick - (loopRec s l).t0) % max 1 (rdE s F.LOOP_CTRL_PERIOD l) == 0

/-! Arbitration, slew limit and delivery (R260, R261, R264, R265). -/

/-- Some lane of a COUPLE mask belongs to a port that is UP or DEGRADED (R264). -/
def coupledUp (s : State) (mask : Nat) : Bool :=
  (bitsSet 8 mask).any fun n => match portOfLine s n with
    | some p => linkState s p == 4 || linkState s p == 5
    | none => false

/-- The actuator's code before this tick: the last one delivered or about to be, else the channel's. -/
def actuatorCode (s : State) (c : Nat) : Nat := ((bdacChan s c).loopCode).getD (bdacChan s c).code

/-- The code after the slew limit and its direction when held back (R264): +1 upward, -1 downward. -/
def slewLimit (old want lim : Nat) : Nat × Int :=
  if lim = 0 then (want, 0)
  else if old + lim < want then (old + lim, 1)
  else if want + lim < old then (old - lim, -1)
  else (want, 0)

/-- The member with the lowest code, ties to the lower number (R260). -/
def lowestOf (s : State) : List Nat → Option Nat
  | [] => none
  | l :: ls => match lowestOf s ls with
    | none => some l
    | some m => if rd s F.LOOP_STATUS_CODE l ≤ rd s F.LOOP_STATUS_CODE m then some l else some m

/-- A loop's LOST_ARB level, with its history (R254, R260). -/
def setLostArb (s : State) (l : Nat) (lost : Bool) : State :=
  let s1 := wrB s F.LOOP_STATUS_LOST_ARB lost l
  if lost then setHistory s1 l 0x80 else s1

/-- What a driver's slew does: its direction is remembered until the loop's next period, with OUT_CLAMP in the history (R252, R254). -/
def markSlew (s : State) (l : Nat) (dir : Int) : State :=
  if dir = 0 then s else setHistory (setLoop s l { loopRec s l with slewDir := dir }) l 0x10

/-- A group arbitrates and hands its code on (R260, R261): the member with the lowest code, or while it is escalated the safety member
alone, and the other members lose. -/
def groupTick (s : State) (g : Nat) : State :=
  let all := groupMembers s g
  if rdE s F.LOOP_GRP_g_ENABLE g = 1 then
    let ms := all.filter fun l => (loopRec s l).hasCode && loopState s l != 6
    let esc := rd s F.LOOP_GRP_STATUS_g_ESCALATED g == 1
    let safety := rdE s F.LOOP_GRP_g_SAFETY g
    let win := if esc then (if ms.contains safety then some safety else none) else lowestOf s ms
    let s1 := all.foldl (fun t l => setLostArb t l (if esc then l != safety else ms.contains l && win != some l)) s
    match win with
    | none => wr s1 F.LOOP_GRP_STATUS_g_SLEW 0 g
    | some w =>
      let c := rdE s F.LOOP_GRP_g_ACTUATOR g
      let lim := if coupledUp s (rdE s F.LOOP_GRP_g_COUPLE g) then rdE s F.LOOP_GRP_g_STEP_LIM g else 0
      let q := slewLimit (actuatorCode s c) (rd s F.LOOP_STATUS_CODE w) lim
      let s2 := wr (wr (wrB s1 F.LOOP_GRP_STATUS_g_SLEW (q.2 != 0) g) F.LOOP_GRP_STATUS_g_WINNER w g)
        F.LOOP_GRP_STATUS_g_CODE q.1 g
      let s3 := markSlew s2 w q.2
      { s3 with ctl := { s3.ctl with pendingCodes := s3.ctl.pendingCodes ++ [(c, q.1)] } }
  else all.foldl (fun t l => setLostArb t l false) (wr s F.LOOP_GRP_STATUS_g_SLEW 0 g)

/-- The levels that a loop outside a group, or one that drives no actuator itself, cannot have (R254, R265): an ungrouped loop loses no
arbitration, and a grouped one is not slewed itself. -/
def levelsFollow (s : State) (l : Nat) : State :=
  if loopGrouped s l then wr s F.LOOP_STATUS_SLEW 0 l else setLostArb s l false

/-- An ungrouped loop drives its own channel (R263, R265). -/
def soloTick (s : State) (l : Nat) : State :=
  if loopState s l ≠ 0 ∧ loopState s l ≠ 6 ∧ loopGrouped s l = false ∧ (loopRec s l).hasCode = true then
    let c := rdE s F.LOOP_OUT_DRV_ACTUATOR l
    let lim := if coupledUp s (rdE s F.LOOP_OUT_DRV_COUPLE l) then rdE s F.LOOP_OUT_DRV_STEP_LIM l else 0
    let q := slewLimit (actuatorCode s c) (rd s F.LOOP_STATUS_CODE l) lim
    let s1 := markSlew (wrB s F.LOOP_STATUS_SLEW (q.2 != 0) l) l q.2
    { s1 with ctl := { s1.ctl with pendingCodes := s1.ctl.pendingCodes ++ [(c, q.1)] } }
  else s

/-- The tick boundary delivers the codes of the tick before, and the channels take EN and SOURCE changes (R249, R273). -/
def deliverCodes (s : State) : State :=
  let s1 := s.ctl.pendingCodes.foldl (fun t p => bdacDeliver t p.1 p.2)
    { s with ctl := { s.ctl with pendingCodes := [] } }
  (List.range 32).foldl bdacBoundary s1

/-- An engine fault (R267): actuators held, so that no limit holds a code back, every loop that is not OFF in FAULT, an event and a curtain
marker. -/
def engineFault (s : State) (mismatch parity : Bool) : State :=
  let s1 := (List.range 32).foldl (fun t l => wr (if loopState t l = 0 then t else setLoopState t l 6) F.LOOP_STATUS_SLEW 0 l)
    { s with ctl := { s.ctl with pendingCodes := [] } }
  let s2 := (List.range 8).foldl (fun t g => wr t F.LOOP_GRP_STATUS_g_SLEW 0 g) s1
  let s3 := raiseEvent (wr s2 F.LOOP_ENGINE_STATUS_FAULT 1) (ev 0x8504 locEngine (b2n mismatch + b2n parity * 2))
  curtain s3 7 0x8504 locEngine

/-- RUNNING reads 1 while a loop is not OFF. -/
def runningCheck (s : State) : State :=
  wrB s F.LOOP_ENGINE_STATUS_RUNNING ((List.range 32).any fun l => loopState s l != 0)

/-- LOOP_TICK (R249): deliver, compute the loops due, arbitrate and limit. While a brown-out window is open loops compute
nothing and channels keep their codes (R370); in INTERMISSION loops stay in their state (R388), and channels go on to take EN and SOURCE
changes (R272, R273); a fault holds every actuator. `mismatch` and `parity` are what the lockstep and parity checks find at this tick. -/
def loopTick (mismatch parity : Bool) (s : State) : State :=
  if s.power.mode = .show then
    let s1 := if s.faults.window.isSome then s else deliverCodes s
    let s2 :=
      if mismatch || parity then engineFault s1 mismatch parity
      else if s.faults.window.isSome || rd s1 F.LOOP_ENGINE_STATUS_FAULT == 1 then s1
      else
        let t := (List.range 32).foldl (fun t l => if loopDue t l then loopPeriod t l else t) s1
        (List.range 32).foldl soloTick ((List.range 8).foldl groupTick t)
    { s2 with ctl := { s2.ctl with tick := s2.ctl.tick + 1 } }
  else if deviceUp s then (List.range 32).foldl bdacBoundary s else s

def execLoopTick (mismatch parity : Bool) (s : State) : Host.Outcome State Fault Refusal := .next (loopTick mismatch parity s)

/-- The system PLL loses lock (R268): every loop that is not OFF acts as though STALE had set. -/
def loopsFallBack (s : State) : State :=
  (List.range 32).foldl (fun t l =>
    if loopState t l = 0 then t else loseFeedback (setHistory (wr t F.LOOP_STATUS_STALE 1 l) l 0x20) l)
    (wr s F.LOOP_ENGINE_STATUS_FALLBACK 1)

/-! Commands (R269). -/

/-- LOOP_CLEAR_HISTORY's own part. -/
def loopClearHistory (c : Cmd) : State → State × Reply :=
  withChecks (fun s => [(c.w 2 == 0, stParam, 2), ((bitsSet 32 (c.w 2)).any (loopRehearsing s), stBusy, 0)])
    fun s =>
      let ls := bitsSet 32 (c.w 2)
      (ls.foldl (fun t l => wr t F.LOOP_HIST_FLAGS 0 l) s,
        .done stOK 0 (ls.foldl (fun a l => a ||| rd s F.LOOP_HIST_FLAGS l) 0) 0)

def execLoopClearHistory (c : Cmd) (s : State) : Host.Outcome State Fault Refusal :=
  .next (hostCmd 0x0501 [(2, 0xFFFFFFFF)] noGate c (loopClearHistory c) s)

/-- May the escalation end: no member whose action is ESCALATE has lost its feedback (R261). -/
def escalationBlocked (s : State) (g : Nat) : Bool :=
  (groupMembers s g).any fun m => rdE s F.LOOP_CTRL_LOST_ACTION m == 2 && feedbackLost s m

/-- A held member as the escalation ends (R259, R261): it returns bumplessly; where its feedback is lost, it takes its own action. -/
def memberReturns (t : State) (m : Nat) : State :=
  if loopState t m = 5 then
    if feedbackLost t m then
      if rdE t F.LOOP_CTRL_LOST_ACTION m = 1 then enterSafe t m else setLoopState t m 3
    else setLoopState (setLoop t m (comesBack (loopRec t m))) m 1
  else t

/-- The escalation ends: each held member returns. -/
def endEscalation (s : State) (g l : Nat) : State :=
  let s1 := (groupMembers s g).foldl memberReturns (wr s F.LOOP_GRP_STATUS_g_ESCALATED 0 g)
  raiseEvent s1 (ev 0x8503 (locLoop s l) (g + rdE s F.LOOP_GRP_g_SAFETY g * 2 ^ 8 + l * 2 ^ 16 + 2 ^ 24))

/-- LOOP_RESUME's own part: it ends SAFE of the loop, and ESCALATED of its group (R259, R261); it fails where lost feedback blocks what it
would end. In an escalated group that stays so, the loop goes from SAFE to the state of the other members. -/
def loopResume (c : Cmd) : State → State × Reply :=
  withChecks (fun s =>
      let l := c.w 2
      let safe := loopState s l == 4
      [(!safe && !inEscalated s l, stState, 0), (safe && feedbackLost s l, stState, 0),
       (!safe && inEscalated s l && escalationBlocked s (loopGroup s l), stState, 0), (loopRehearsing s l, stBusy, 0)])
    fun s =>
      let l := c.w 2
      let s1 := if loopState s l = 4 then
          movingShow (setLoopState (setLoop s l (comesBack (safeLeft (loopRec s l)))) l (runState s l)) l else s
      (if inEscalated s l && !escalationBlocked s (loopGroup s l) then endEscalation s1 (loopGroup s l) l else s1, .done stOK 0 0 0)

def execLoopResume (c : Cmd) (s : State) : Host.Outcome State Fault Refusal :=
  .next (hostCmd 0x0502 [(2, 0x1F)] noGate c (loopResume c) s)

/-- LOOP_TARGET's own part (R262). -/
def loopTarget (c : Cmd) : State → State × Reply :=
  withChecks (fun s => [(loopState s (c.w 2) == 0, stState, 0), (loopRehearsing s (c.w 2), stBusy, 0)])
    fun s => (movingShow (setLoop s (c.w 2) { loopRec s (c.w 2) with target := toSigned 16 (c.w 3) }) (c.w 2), .done stOK 0 0 0)

def execLoopTarget (c : Cmd) (s : State) : Host.Outcome State Fault Refusal :=
  .next (hostCmd 0x0503 [(2, 0x1F), (3, 0xFFFF)] noGate c (loopTarget c) s)

/-- LOOP_PRESET's own part: only in commanded HOLD, within the limits. -/
def loopPreset (c : Cmd) : State → State × Reply :=
  withChecks (fun s =>
      let v := toSigned 32 (c.w 3)
      [(decide (v < rdEI s F.LOOP_ILIM_m_LIMIT (c.w 2) 0) || decide (rdEI s F.LOOP_ILIM_m_LIMIT (c.w 2) 1 < v), stRange, 0),
       (loopState s (c.w 2) != 2, stState, 0), (loopRehearsing s (c.w 2), stBusy, 0)])
    fun s => (setLoop s (c.w 2) { loopRec s (c.w 2) with integ := shl (toSigned 32 (c.w 3)) 8 }, .done stOK 0 0 0)

def execLoopPreset (c : Cmd) (s : State) : Host.Outcome State Fault Refusal :=
  .next (hostCmd 0x0504 [(2, 0x1F), (3, 0xFFFFFFFF)] noGate c (loopPreset c) s)

/-- LOOP_READ's own part: I [39:8], the set-point in use and the last PV. -/
def loopRead (c : Cmd) : State → State × Reply :=
  withChecks (fun s => [(loopRehearsing s (c.w 2), stBusy, 0)])
    fun s =>
      let r := loopRec s (c.w 2)
      (s, .done stOK 0 (ofSigned 32 (r.integ / 256)) (ofSigned 16 r.sp * 2 ^ 16 + ofSigned 16 r.pv))

def execLoopRead (c : Cmd) (s : State) : Host.Outcome State Fault Refusal :=
  .next (hostCmd 0x0505 [(2, 0x1F)] noGate c (loopRead c) s)

/-- LOOP_ENGINE_RESTART's own part (R267): `pass` is what the check patterns give. A pass returns every loop that is not
OFF to commanded HOLD with its history kept. -/
def loopEngineRestart (pass : Bool) : State → State × Reply :=
  withChecks (fun s => [(rd s F.LOOP_ENGINE_STATUS_FAULT == 0, stState, 0),
      ((List.range 8).any (rehearsing s 5), stBusy, 0)])
    fun s =>
      if pass then
        ((List.range 32).foldl (fun t l => if loopState t l = 0 ∨ loopFenced t l = true then t else
            wrE (setLoopState t l 2) F.LOOP_CTRL_MODE 2 l)
          (wr s F.LOOP_ENGINE_STATUS_FAULT 0), .done stOK 0 0 0)
      else (s, .done stHwFault 0 0 0)

def execLoopEngineRestart (c : Cmd) (pass : Bool) (s : State) : Host.Outcome State Fault Refusal :=
  .next (hostCmd 0x0506 [] noGate c (loopEngineRestart pass) s)

end Sys2Proof.Machine
end

