-- ==== Sys2Proof/Machine/Cal.lean ====
section
/-! DEFINITION. Slices and calibration (chapter 12, R232-R248; the slices' status of R61-R67). -/

namespace Sys2Proof.Machine

open Sys2Proof

/-! The slices' status (R61, R65, R67). -/

def sliceCount (l : LaneId) : Nat := if l.isLine then 65 else 33
def positionCount (l : LaneId) : Nat := if l.isLine then 64 else 32

def understudy (s : State) (l : LaneId) : Nat := rdL s l F.LRX_SLICE_STATUS_UNDERSTUDY F.HSL_SLICE_STATUS_UNDERSTUDY
def setUnderstudy (s : State) (l : LaneId) (k : Nat) : State :=
  wrL s l F.LRX_SLICE_STATUS_UNDERSTUDY F.HSL_SLICE_STATUS_UNDERSTUDY k
def noSpare (s : State) (l : LaneId) : Bool := rdL s l F.LRX_SLICE_STATUS_NOSPARE F.HSL_SLICE_STATUS_NOSPARE == 1
def setNoSpare (s : State) (l : LaneId) (b : Bool) : State :=
  wrL s l F.LRX_SLICE_STATUS_NOSPARE F.HSL_SLICE_STATUS_NOSPARE (b2n b)
def inWings (s : State) (l : LaneId) : Bool := rdL s l F.LRX_SLICE_STATUS_WINGS F.HSL_SLICE_STATUS_WINGS == 1
def setWings (s : State) (l : LaneId) (b : Bool) : State :=
  wrL s l F.LRX_SLICE_STATUS_WINGS F.HSL_SLICE_STATUS_WINGS (b2n b)

/-- The FAILED marks as one mask by slice number. -/
def failedMask (s : State) (l : LaneId) : Nat :=
  match l with
  | .line n => rd s F.LRX_SLICE_FAILED_0_FAILED n + rd s F.LRX_SLICE_FAILED_1_FAILED n * 2 ^ 32 +
      rd s F.LRX_SLICE_STATUS_FAILED_64 n * 2 ^ 64
  | .host n => rd s F.HSL_SLICE_FAILED_FAILED n + rd s F.HSL_SLICE_STATUS_FAILED_32 n * 2 ^ 32

def setFailedMask (s : State) (l : LaneId) (m : Nat) : State :=
  match l with
  | .line n => wr (wr (wr s F.LRX_SLICE_FAILED_0_FAILED (m % 2 ^ 32) n) F.LRX_SLICE_FAILED_1_FAILED (m / 2 ^ 32 % 2 ^ 32) n)
      F.LRX_SLICE_STATUS_FAILED_64 (m / 2 ^ 64) n
  | .host n => wr (wr s F.HSL_SLICE_FAILED_FAILED (m % 2 ^ 32) n) F.HSL_SLICE_STATUS_FAILED_32 (m / 2 ^ 32) n

def sliceFailed (s : State) (l : LaneId) (k : Nat) : Bool := (failedMask s l).testBit k

def markFailed (s : State) (l : LaneId) (k : Nat) : State :=
  if sliceFailed s l k then s else setFailedMask s l (failedMask s l + 2 ^ k)

def clearFailed (s : State) (l : LaneId) (k : Nat) : State :=
  if sliceFailed s l k then setFailedMask s l (failedMask s l - 2 ^ k) else s

def slicesOf (s : State) (l : LaneId) : Slices := (front s l).slices
def setSlices (s : State) (l : LaneId) (x : Slices) : State := setFront s l { front s l with slices := x }

/-- The position a slice in service holds. -/
def positionOf (s : State) (l : LaneId) (k : Nat) : Option Nat := (slicesOf s l).place.findIdx? (· == k)

/-! Corrections and temperature sets (R232, R236, R243, R244). -/

/-- The key of a correction: target, instance, unit within it, kind. -/
def corrKey (t : CalTarget) (inst unit kind : Nat) : Nat :=
  (((match t with
    | .lineSlices => 0
    | .dacSkew => 1
    | .hostSlices => 2
    | .biasDacs => 3
    | .senseChans => 4) * 32 + inst) * 128 + unit) * 4 + kind

/-- A target's bit in CAL_RUN and CAL_STATE (R232). -/
def targetBit : CalTarget → Nat
  | .lineSlices => 0
  | .hostSlices => 1
  | .dacSkew => 2
  | .biasDacs => 3
  | .senseChans => 4

/-- A correction's range and the value before any calibration: mid-range (R232). -/
structure CorrRange where
  lo : Int
  hi : Int
  mid : Int

def corrRange (t : CalTarget) (kind : Nat) : CorrRange :=
  match t with
  | .lineSlices => if kind = 0 then ⟨0, 255, 128⟩ else ⟨-32, 31, 0⟩
  | .hostSlices => if kind = 0 then ⟨0, 255, 128⟩ else ⟨-32, 31, 0⟩
  | .dacSkew => ⟨0, 63, 32⟩
  | .biasDacs => ⟨-128, 127, 0⟩
  | .senseChans => ⟨-128, 127, 0⟩

/-- A correction's target and kind from its key. -/
def keyTarget (key : Nat) : CalTarget :=
  match key / 4 / 128 / 32 with
  | 0 => .lineSlices
  | 1 => .dacSkew
  | 2 => .hostSlices
  | 3 => .biasDacs
  | _ => .senseChans

def keyInst (key : Nat) : Nat := key / 4 / 128 % 32
def keyKind (key : Nat) : Nat := key % 4

def corrInUse (s : State) (key : Nat) : Int := (aGet s.cal.inUse key).getD (corrRange (keyTarget key) (keyKind key)).mid

/-- The five temperatures of the sets in 1/16 degree (R243). -/
def setTemps : List Int := [-240, 240, 720, 1200, 1680]

def setTemp (k : Nat) : Int := setTemps[k]?.getD 0

/-- The set nearest a temperature, ties to the colder one. -/
def nearestSet (t : Int) : Nat :=
  (List.range 5).foldl (fun b k => if (setTemp k - t).natAbs < (setTemp b - t).natAbs then k else b) 0

def setValid (s : State) (key k : Nat) : Bool := (aGet s.cal.sets (key * 8 + k)).isSome

/-- The word of the calibration store that holds a set's value, by its key (log entry 100). -/
def storeWord (key : Nat) : Nat := Config.storeWord key % 12288

/-- A measured value is written into the nearest set and into every set not yet valid (R243), each in its word of the store. -/
def writeSets (s : State) (key : Nat) (t v : Int) : State :=
  let ks := ((List.range 5).filter fun k => k == nearestSet t || !setValid s key k).map (key * 8 + ·)
  ks.foldl (fun u k => bankWritten u 10 (storeWord k)) { s with cal := { s.cal with sets := ks.foldl (fun m k => aSet m k v) s.cal.sets } }

/-- The value of R244 at a temperature, from the valid sets. -/
def setsValue (s : State) (key : Nat) (t : Int) : Option Int :=
  let valid := (List.range 5).filterMap fun k => (aGet s.cal.sets (key * 8 + k)).map fun v => (setTemp k, v)
  let below := valid.foldl (fun (b : Option (Int × Int)) e => if e.1 ≤ t then some e else b) none
  let above := valid.find? fun e => t ≤ e.1
  match below, above with
  | some a, some b => if a.1 = b.1 then some a.2
      else some (roundConv (a.2 * (b.1 - a.1) + (b.2 - a.2) * (t - a.1)) (b.1 - a.1).toNat)
  | some a, none => some a.2
  | none, some b => some b.2
  | none, none => none

def setTarget (s : State) (key : Nat) (v : Int) : State :=
  { s with cal := { s.cal with targets := aSet s.cal.targets key v } }

/-- The sensors of a region (R397). -/
def regionSensors (r : Nat) : List Nat :=
  match r with
  | 3 => [4, 10]
  | 4 => [5, 11]
  | 5 => [6]
  | 6 => [7]
  | 7 => [8]
  | _ => []

/-- A region's junction temperature: the highest of its sensors. -/
def regionTemp (s : State) (r : Nat) : Int :=
  (regionSensors r).foldl (fun a k => max a (rdI s F.THERM_TEMP_s_TEMP k)) (-32768)

/-- The region an instance lies in. -/
def calRegion (t : CalTarget) (inst : Nat) : Nat :=
  match t with
  | .lineSlices => lineRegion inst
  | .dacSkew => lineRegion inst
  | .hostSlices => hostRegion inst
  | .biasDacs => 7
  | .senseChans => 7

/-- The units and kinds of correction of an instance. -/
def calUnits (t : CalTarget) : Nat :=
  match t with
  | .lineSlices => 65
  | .hostSlices => 33
  | .dacSkew => 4
  | .biasDacs => 2
  | .senseChans => 1

def calKinds (t : CalTarget) : Nat := if t = .dacSkew then 1 else 2

def instKeys (t : CalTarget) (inst : Nat) : List Nat :=
  (List.range (calUnits t)).flatMap fun u => (List.range (calKinds t)).map fun k => corrKey t inst u k

/-- SETS: bit k when set k is valid for every correction of the instance. -/
def setsMask (s : State) (t : CalTarget) (inst : Nat) : Nat :=
  maskOf 5 fun k => (instKeys t inst).all fun key => setValid s key k

/-- The temperature sets that hold a lost word of the store are marked not valid (R363, bank 10). -/
def calSetLost (s : State) (a : Nat) : State :=
  (s.cal.sets.filter fun e => storeWord e.1 == a).foldl (fun u e =>
    let t := keyTarget (e.1 / 8)
    let inst := keyInst (e.1 / 8)
    let s1 := { u with cal := { u.cal with sets := u.cal.sets.filter fun x =>
      !(x.1 % 8 == e.1 % 8 && keyTarget (x.1 / 8) == t && keyInst (x.1 / 8) == inst) } }
    wr s1 (F.CAL_INFO_SETS t) (setsMask s1 t inst) inst) s

/-- A correction's valid sets are read with their codes (R357). -/
def storeRead (s : State) (key : Nat) : State :=
  ((List.range 5).filter (setValid s key)).foldl (fun u k =>
    let r := eccRead u 10 (storeWord (key * 8 + k))
    if r.2 then calSetLost r.1 (storeWord (key * 8 + k)) else r.1) s

def calLoc (t : CalTarget) (inst : Nat) : Nat :=
  match t with
  | .lineSlices => locLine inst
  | .dacSkew => locLine inst
  | .hostSlices => locHost inst
  | .biasDacs => locBdac inst
  | .senseChans => locSense inst

/-! Runs (R246, R247). -/

/-- The lap of a lane. -/
def lapOf (s : State) : LaneId → Option Lap
  | .line n => vGet s.cal.lineLaps n none
  | .host n => vGet s.cal.hostLaps n none

def setLap (s : State) (l : LaneId) (x : Option Lap) : State :=
  match l with
  | .line n => { s with cal := { s.cal with lineLaps := vSet s.cal.lineLaps n x } }
  | .host n => { s with cal := { s.cal with hostLaps := vSet s.cal.hostLaps n x } }

/-- Nothing of the run is left to do. -/
def runIdle (s : State) : Bool :=
  s.cal.lineLaps.toList.all (·.isNone) && s.cal.hostLaps.toList.all (·.isNone) && s.cal.skewNow == 0 &&
    s.cal.bdacQueue.isEmpty && s.cal.senseQueue.isEmpty && s.cal.bdacNow.isNone && s.cal.senseNow.isNone

/-- The lowest result other than DONE or LIMIT; 0 if none. -/
def worstResult (rs : List (Nat × Nat × Nat)) : Nat :=
  rs.foldl (fun a r => if r.2.2 = 1 ∨ r.2.2 = 2 then a else if a = 0 then r.2.2 else min a r.2.2) 0

def badResult (r : Nat × Nat × Nat) : Bool := r.2.2 != 1 && r.2.2 != 2

/-- The run ends when its last instance has (R246, R248): CAL_DONE, and an immediate run's command completes. -/
def runCheck (s : State) : State :=
  match s.cal.run with
  | none => s
  | some r =>
    if runIdle s then
      let worst := worstResult r.results
      let bad := r.results.filter badResult
      let lanes := fun b => bad.foldl (fun m e => if e.1 = b then m ||| 2 ^ e.2.1 else m) 0
      let chans := (bad.filter fun e => e.1 = 3 ∨ e.1 = 4).length
      let s1 := { s with cal := { s.cal with run := none } }
      let s2 := wr (wr s1 F.CAL_STATE_TARGETS 0) F.CAL_STATE_HANDLE 0
      let s3 := raiseMexis s2 (ev 0x8401 (locRegion 2) (r.handle + worst * 2 ^ 16))
      if r.handle = 0 then
        completeProg s3 0x0401 0 (if worst = 0 then stOK else stAborted) worst
          ((lanes 0 ||| lanes 2) % 2 ^ 8 + lanes 1 * 2 ^ 8) chans
      else s3
    else s

/-- An instance ends with a result (R247): its record, its event, and the run's list. -/
def instanceEnd (s : State) (t : CalTarget) (inst result : Nat) : State :=
  let s1 := wr s (F.CAL_INFO_RESULT t) result inst
  let s2 := if result = 1 ∨ result = 2 then
      wrB (wrI (wr (wr (wr (incSat s1 (F.CAL_COUNT_COUNT t) 1 inst) (F.CAL_LAST_LO_HC_LO t) (s1.time.hc.toNat % 2 ^ 32) inst)
        (F.CAL_LAST_HI_HC_HI t) (s1.time.hc.toNat / 2 ^ 32) inst) (F.CAL_INFO_SETS t) (setsMask s1 t inst) inst)
        (F.CAL_INFO_TEMP t) (regionTemp s1 (calRegion t inst)) inst) (F.CAL_INFO_ESTIMATED t) s1.time.estimated inst
    else s1
  let s3 := raiseMexis s2 (ev 0x8402 (calLoc t inst) (result + targetBit t * 2 ^ 4))
  { s3 with cal := { s3.cal with
    run := s3.cal.run.map fun r => { r with results := r.results ++ [(targetBit t, inst, result)] } } }

def laneTarget (l : LaneId) : CalTarget := if l.isLine then .lineSlices else .hostSlices

/-- The lap on a lane stops with a result: the understudy leaves the wings. -/
def lapStop (s : State) (l : LaneId) (result : Nat) : State :=
  match lapOf s l with
  | none => s
  | some _ => runCheck (instanceEnd (setWings (setLap s l none) l false) (laneTarget l) l.num result)

/-- A step in the wings ends because the understudy is needed or the lane loses power (R66, R67, R237): a lap stops with the
result given, a restore test completes E_ABORTED with FAILED kept. -/
def endWings (s : State) (l : LaneId) (result : Nat) : State :=
  let s1 := lapStop s l result
  if (slicesOf s1 l).testing then
    completeProg (setWings (setSlices s1 l { slicesOf s1 l with testing := false }) l false)
      (if l.isLine then 0x0304 else 0x0332) l.num stAborted 0 0 0
  else s1

/-! Starting a run. -/

def lapFresh (k : Nat) : Lap := ⟨0, k, false, 0, false, 0, false, []⟩

/-- A slice lap starts on a lane, or its instance ends at once (R233, R238, R246). -/
def lapStart (s : State) (l : LaneId) : State :=
  if lanePowered s l = false ∨ laneRehearsing s l = true then instanceEnd s (laneTarget l) l.num 3
  else if sliceFailed s l (understudy s l) = true ∨ (slicesOf s l).pending.isSome = true then instanceEnd s (laneTarget l) l.num 5
  else setWings (setLap s l (some (lapFresh (understudy s l)))) l true

/-- A DAC skew measurement begins: whether the lane is at idle throughout is seen from here on (R240). -/
def skewBegin (s : State) (l : LaneId) : State :=
  skewMark { s with cal := { s.cal with skewLive := s.cal.skewLive - b2n (s.cal.skewLive.testBit l.num) * 2 ^ l.num } } l

/-- No repeat of a lane's DAC skew measurement is due or taken (R247). -/
def skewFresh (c : CalState) (n : Nat) : CalState :=
  { c with
    skewAgain := c.skewAgain - b2n (c.skewAgain.testBit n) * 2 ^ n
    skewRepeated := c.skewRepeated - b2n (c.skewRepeated.testBit n) * 2 ^ n }

/-- A DAC skew measurement starts on a line lane (R240). -/
def skewStart (s : State) (n : Nat) : State :=
  let l := LaneId.line (Fin.ofNat 8 n)
  if laneRuns s l = false then instanceEnd s .dacSkew n 3
  else skewBegin { s with cal := { skewFresh s.cal n with skewNow := s.cal.skewNow ||| 2 ^ n } } l

/-- A sense channel feeds a loop that is neither OFF nor in HOLD (R242). -/
def senseInUse (s : State) (n : Nat) : Bool :=
  (List.range 32).any fun l => rdE s F.LOOP_INPUT_KIND l ≤ 1 && rdE s F.LOOP_INPUT_INDEX l % 32 == n &&
    loopState s l != 0 && loopState s l != 2

/-- The next bias DAC channel, and after the last one the next sense channel, starts (R241, R242, R246); an instance that
cannot be measured ends at once. -/
def calNext : Nat → State → State
  | 0, s => s
  | n + 1, s =>
    if s.cal.bdacNow.isSome ∨ s.cal.senseNow.isSome then s
    else match s.cal.bdacQueue with
      | c :: q =>
        let s1 := { s with cal := { s.cal with bdacQueue := q } }
        if rehearsing s 6 c = true ∨ s.power.mode ≠ .show then calNext n (instanceEnd s1 .biasDacs c 3)
        else { s1 with cal := { s1.cal with bdacNow := some c, repeatBdac := false } }
      | [] =>
        match s.cal.senseQueue with
        | c :: q =>
          let s1 := { s with cal := { s.cal with senseQueue := q } }
          if rehearsing s 7 c = true ∨ s.power.mode ≠ .show then calNext n (instanceEnd s1 .senseChans c 3)
          else if senseInUse s c then calNext n (instanceEnd s1 .senseChans c 7)
          else
            let s2 := setSense s1 c { senseChan s1 c with calibrating := true }
            { s2 with cal := { s2.cal with senseNow := some c, repeatSense := false } }
        | [] => s

/-- A run begins (R246). -/
def calStart (s : State) (handle : Nat) (x : CalSet) : State :=
  let t := fun k => x.targets.testBit k
  let s1 := { s with cal := { s.cal with run := some ⟨handle, x.targets, []⟩ } }
  let s2 := wr (wr s1 F.CAL_STATE_TARGETS x.targets) F.CAL_STATE_HANDLE handle
  let s3 := if t 0 then (allLine.filter fun l => x.line.testBit l.num).foldl lapStart s2 else s2
  let s4 := if t 1 then (allHost.filter fun l => x.host.testBit l.num).foldl lapStart s3 else s3
  let s5 := if t 2 then (bitsSet 8 x.skew).foldl skewStart s4 else s4
  let s6 := { s5 with cal := { s5.cal with
    bdacQueue := if t 3 then bitsSet 32 x.bdac else []
    senseQueue := if t 4 then bitsSet 24 x.sense else [] } }
  runCheck (calNext 60 s6)

/-- Every instance in progress, and every one still to come, ends ABORTED (R247, R248). -/
def calAbortAll (s : State) : State :=
  match s.cal.run with
  | none => s
  | some _ =>
    let s1 := (allLine ++ allHost).foldl (fun t l => match lapOf t l with
      | some _ => instanceEnd (setWings (setLap t l none) l false) (laneTarget l) l.num 3
      | none => t) s
    let s2 := (bitsSet 8 s1.cal.skewNow).foldl (fun t n => instanceEnd t .dacSkew n 3) s1
    let s3 := (s2.cal.bdacNow.toList ++ s2.cal.bdacQueue).foldl (fun t c => instanceEnd t .biasDacs c 3) s2
    let s4 := s3.cal.senseNow.toList.foldl (fun t c => setSense t c { senseChan t c with
      calibrating := false
      unsettled := (senseFresh t c).unsettled }) s3
    let s5 := (s4.cal.senseNow.toList ++ s4.cal.senseQueue).foldl (fun t c => instanceEnd t .senseChans c 3) s4
    runCheck { s5 with cal := { s5.cal with
      skewNow := 0
      skewAgain := 0
      skewRepeated := 0
      bdacQueue := []
      senseQueue := []
      bdacNow := none
      senseNow := none } }

/-! Commands (R248). -/

def calSetOf (c : Cmd) : CalSet := ⟨c.w 2, c.w 3, c.w 3, c.w 4, c.w 5, c.w 6⟩

/-- The targets with an empty instance mask, by the word that holds it; line slices and DAC skew share the line mask. -/
def calEmpty (x : CalSet) : List (Bool × Nat) :=
  [((x.targets.testBit 0 && x.line == 0) || (x.targets.testBit 2 && x.skew == 0), 3), (x.targets.testBit 1 && x.host == 0, 4),
    (x.targets.testBit 3 && x.bdac == 0, 5), (x.targets.testBit 4 && x.sense == 0, 6)]

/-- A named instance is powered down. -/
def calUnpowered (s : State) (x : CalSet) : Bool :=
  s.power.mode != .show ||
    ((x.targets.testBit 0 || x.targets.testBit 2) && (bitsSet 8 (x.line ||| x.skew)).any fun n => !lanePowered s (.line (Fin.ofNat 8 n))) ||
    (x.targets.testBit 1 && (bitsSet 16 x.host).any fun n => !lanePowered s (.host (Fin.ofNat 16 n)))

def calRehearsed (s : State) (x : CalSet) : Bool :=
  ((x.targets.testBit 0 || x.targets.testBit 2) && (bitsSet 8 (x.line ||| x.skew)).any (rehearsing s 1)) ||
    (x.targets.testBit 1 && (bitsSet 16 x.host).any (rehearsing s 2)) ||
    (x.targets.testBit 3 && (bitsSet 32 x.bdac).any (rehearsing s 6)) ||
    (x.targets.testBit 4 && (bitsSet 24 x.sense).any (rehearsing s 7))

/-- The lowest handle not held. -/
def freeHandle (s : State) : Option Nat := ((List.range 8).map (· + 1)).find? fun h => (aGet s.cal.deferred h).isNone

/-- CAL_RUN's own part. -/
def calRun (c : Cmd) : State → State × Reply :=
  let defer := c.w 7 == 1
  withChecks (fun s =>
      let x := calSetOf c
      [(x.targets == 0, stParam, 2)] ++ ((calEmpty x).map fun e => (e.1, stParam, e.2)) ++
      [(calUnpowered s x, stState, 0), ((!defer && s.cal.run.isSome) || calRehearsed s x, stBusy, 0), (defer && (freeHandle s).isNone, stNoSpace, 0)])
    fun s =>
      if defer then
        let h := (freeHandle s).getD 0
        ({ s with cal := { s.cal with deferred := aSet s.cal.deferred h (calSetOf c) } }, .done stOK 0 h 0)
      else (s, .later 0 0)

/-- CAL_RUN (R246, R248): an accepted immediate run begins with its command in progress, since it may end at once. -/
def calRunRow (c : Cmd) (s : State) : State :=
  let t := hostCmd 0x0401 [(2, 0x1F), (3, 0xFF), (4, 0xFFFF), (5, 0xFFFFFFFF), (6, 0xFFFFFF), (7, 1)] noGate c (calRun c) s
  if progHas t 0x0401 0 = true ∧ t.cal.run.isNone = true then calStart t 0 (calSetOf c) else t

def execCalRun (c : Cmd) (s : State) : Host.Outcome State Fault Refusal := .next (calRunRow c s)

/-- CAL_ABORT's own part. -/
def calAbort : State → State × Reply :=
  withChecks (fun s => [(s.cal.run.isNone, stState, 0)]) fun s => (calAbortAll s, .done stOK 0 0 0)

def execCalAbort (c : Cmd) (s : State) : Host.Outcome State Fault Refusal := .next (hostCmd 0x0402 [] noGate c calAbort s)

/-- CAL_RELEASE's own part. -/
def calRelease (c : Cmd) : State → State × Reply :=
  withChecks (fun s => [((aGet s.cal.deferred (c.w 2)).isNone, stRange, 0)])
    fun s => ({ s with cal := { s.cal with deferred := aDel s.cal.deferred (c.w 2) } }, .done stOK 0 0 0)

def execCalRelease (c : Cmd) (s : State) : Host.Outcome State Fault Refusal :=
  .next (hostCmd 0x0403 [(2, 0xFFFF)] noGate c (calRelease c) s)

/-- CAL_DEFERRED_START (R31, R248): Mexis starts the run whose cue fired; one in progress by then has the cue's action
skipped where it fired, so none starts here. -/
def calDeferredStart (h : Nat) (s : State) : State :=
  match s.cal.fired with
  | [] => s
  | fs =>
    if fs.contains h = true ∧ s.cal.run.isNone = true then
      match aGet s.cal.deferred h with
      | some x => calStart { s with cal := { s.cal with fired := fs.filter (· != h) } } h x
      | none => { s with cal := { s.cal with fired := fs.filter (· != h) } }
    else s

def execCalDeferredStart (handle : BitVec 16) (s : State) : Host.Outcome State Fault Refusal :=
  .next (calDeferredStart handle.toNat s)

/-! The slice lap (R233-R235, R239). -/

/-- A measured value, limited to its range, and whether it lay beyond it. -/
def limited (t : CalTarget) (kind : Nat) (v : Int) : Int × Bool :=
  let r := corrRange t kind
  (clampI r.lo r.hi v, decide (v < r.lo) || decide (r.hi < v))

/-- New values of an instance's unit go into the sets and become targets (R236, R243). -/
def takeValues (s : State) (t : CalTarget) (inst unit : Nat) (vs : List Int) : State :=
  (vs.zipIdx).foldl (fun u e =>
    let v := (limited t e.2 e.1).1
    setTarget (writeSets u (corrKey t inst unit e.2) (regionTemp u (calRegion t inst)) v) (corrKey t inst unit e.2) v) s

def anyLimit (t : CalTarget) (vs : List Int) : Bool := (vs.zipIdx).any fun e => (limited t e.2 e.1).2

/-- INL at a / den ADC LSB, times 2^16 and den: interpolated linearly between its transitions (positions and values in 2^-16 LSB,
rising); numerator and denominator. Outside its transitions it states nothing. -/
def inlAt : List (Int × Int) → Int → Nat → Option (Int × Nat)
  | (x0, y0) :: (x1, y1) :: rest, num, den =>
    if x0 * den ≤ num ∧ num ≤ x1 * den ∧ x0 < x1 then
      some (y0 * (x1 - x0) * den + (y1 - y0) * (num - x0 * den), (x1 - x0).toNat * den)
    else inlAt ((x1, y1) :: rest) num den
  | _, _, _ => none

/-- Sums of INL by transition with their positions: transition i lies, without INL, between codes i - 64 and i - 63 (R234). -/
def inlTable (sums : List Int) : List (Int × Int) := (sums.zipIdx).map fun e => ((2 * (e.2 : Int) - 127) * 2 ^ 15, e.1)

/-- A slice's INL joins the lap's sums. -/
def inlAdd (sums inl : List Int) : List Int := if sums.isEmpty then inl else (sums.zip inl).map fun e => e.1 + e.2

/-- Effective threshold T[c][j] without dTC (R82, R83): c the integer value of the previous level. -/
def dTA (s : State) (l : LaneId) (c j : Nat) : Int :=
  if eqLvlEn s l then
    let o := fun v => sar (atI (eqRec s l).ofs (4 * c + v)) 6
    roundConv (o j + o (j + 1)) 2
  else 0

def threshold (s : State) (l : LaneId) (c j : Nat) : Int :=
  (2 * (j : Int) - 2) * eqLevelA s l + sar (atI (eqRec s l).dfe 0) 6 * levelOf c + dTA s l c j

/-- dTC of R239 from the lap's INL table, the mean of `n` slices; a main tap of 0 or a threshold outside the table states no value: it
is free (log entry 36). -/
def dtcValue (s : State) (l : LaneId) (sums : List Int) (n c j : Nat) : Option Int :=
  let main := sar (atI (eqRec s l).ffe (eqMain s l)) 10
  if main = 0 then none
  else (inlAt (inlTable sums) (main.sign * threshold s l c j * 64 * 2 ^ 16) main.natAbs).map fun q =>
    satI 8 (roundConv (main * q.1) (64 * 2 ^ 16 * q.2 * n))

/-- The twelve targets of dTC. -/
def dtcTargets (s : State) (x : Fin 8) (sums : List Int) (n : Nat) : State :=
  (List.range 12).foldl (fun t k =>
    match dtcValue s (.line x) sums n (k / 3) (k % 3) with
    | some v => { t with cal := { t.cal with dtcTarget := aSet t.cal.dtcTarget (x * 12 + k) v } }
    | none => takeFree { t with cal := { t.cal with
        dtcTarget := aSet t.cal.dtcTarget (x * 12 + k) (toSigned 8 (Config.freeNat t.freeCount)) } }) s

/-- The new delay (R234 step 2): the delay in use less the skew, `num / (den + 1)` taps, rounded convergently. -/
def newDelay (s : State) (l : LaneId) (slice : Nat) (num : Int) (den : Nat) : Int :=
  roundConv (corrInUse s (corrKey (laneTarget l) l.num slice 0) * ((den + 1 : Nat) : Int) - num) (den + 1)

/-- CAL_MEASUREMENT_END (R234): the slice in the wings has been measured: the timing skew num / (den + 1) in taps, the trim that brings its
mean nearest to 0, whether it passed the four checks, and on line lanes its INL at each transition. None ends while a brown-out window
suspends it (R370). -/
def calMeasurementEnd (l : LaneId) (num : Int) (den : Nat) (trim : Int) (pass : Bool) (inl : List Int) (s : State) : State :=
  match lapOf s l with
  | none => s
  | some x =>
    if x.waiting || s.faults.window.isSome then s
    else if x.again = 1 then setLap s l (some { x with again := 2 })
    else if pass = false then lapStop (markFailed s l x.wings) l 4
    else
      let t := laneTarget l
      let delay := newDelay s l x.wings num den
      let s1 := takeValues s t l.num x.wings [delay, trim]
      let lim := x.limit || anyLimit t [delay, trim]
      let sums := inlAdd x.inl inl
      if x.done + 1 = sliceCount l then
        let s2 := match l with
          | .line n => dtcTargets s1 n sums (sliceCount l)
          | .host _ => s1
        lapStop s2 l (if lim then 2 else 1)
      else setLap s1 l (some { x with
        done := x.done + 1
        waiting := true
        setAt := s.time.tick
        deferred := false
        again := 0
        limit := lim
        inl := sums })

def execCalMeasurementEnd (l : LaneId) (num : Int) (den : Nat) (trim : Int) (pass : Bool) (inl : List Int) (s : State) :
    Host.Outcome State Fault Refusal := .next (calMeasurementEnd l num den trim pass inl s)

/-! Movement of corrections (R236, R244). -/

def stepToward (v t : Int) : Int := if v < t then v + 1 else if t < v then v - 1 else v

/-- Is the instance of a correction powered? -/
def keyPowered (s : State) (key : Nat) : Bool :=
  match keyTarget key with
  | .lineSlices | .dacSkew => lanePowered s (.line (Fin.ofNat 8 (keyInst key)))
  | .hostSlices => lanePowered s (.host (Fin.ofNat 16 (keyInst key)))
  | .biasDacs | .senseChans => s.power.mode == .show

/-- CAL_CORRECTION_UPDATE (R236): every correction in use moves by at most one toward its target, and so does dTC. -/
def calCorrectionUpdate (s : State) : State :=
  let s1 := { s with cal := { s.cal with inUse := s.cal.targets.foldl (fun (m : List (Nat × Int)) (e : Nat × Int) =>
    if keyPowered s e.1 then aSet m e.1 (stepToward (corrInUse s e.1) e.2) else m) s.cal.inUse } }
  (s1.cal.dtcTarget.filter fun e => lanePowered s (.line (Fin.ofNat 8 (e.1 / 12)))).foldl (fun (t : State) (e : Nat × Int) =>
    let f := if e.1 % 3 = 0 then F.LEQ_THR_CAL_c_DTC_0 else if e.1 % 3 = 1 then F.LEQ_THR_CAL_c_DTC_1
      else F.LEQ_THR_CAL_c_DTC_2
    wrI t f (stepToward (rdI t f (e.1 / 12) (e.1 / 3 % 4)) e.2) (e.1 / 12) (e.1 / 3 % 4)) s1

def execCalCorrectionUpdate (s : State) : Host.Outcome State Fault Refusal := .next (calCorrectionUpdate s)

/-- The keys that have a valid set. -/
def setKeys (s : State) : List Nat := (s.cal.sets.map fun e => e.1 / 8).eraseDups

/-- CAL_TEMP_RECOMPUTE (R244): every 10 ms the targets follow the live temperature. -/
def calTempRecompute (s : State) : State :=
  (setKeys s).foldl (fun u key =>
    let t := storeRead u key
    match setsValue t key (regionTemp t (calRegion (keyTarget key) (keyInst key))) with
    | some v => setTarget t key v
    | none => t) s

def execCalTempRecompute (s : State) : Host.Outcome State Fault Refusal := .next (calTempRecompute s)

/-- An instance that is powered loads its corrections at once from the temperature sets (R236). -/
def loadCorrections (s : State) (t : CalTarget) (inst : Nat) : State :=
  (instKeys t inst).foldl (fun w key =>
    let u := storeRead w key
    match setsValue u key (regionTemp u (calRegion t inst)) with
    | some v => { setTarget u key v with cal := { (setTarget u key v).cal with inUse := aSet u.cal.inUse key v } }
    | none => u) s

/-! DAC skew, bias DACs and sense channels (R240-R242). -/

/-- DAC_SKEW_MEASUREMENT_END (R240): the four new skew trims before limiting. -/
def dacSkewEnd (n : Fin 8) (skews : List Int) (s : State) : State :=
  if s.cal.skewNow.testBit n && s.faults.window.isNone then
    if s.cal.skewAgain.testBit n then
      skewBegin { s with cal := { skewFresh s.cal n with skewRepeated := s.cal.skewRepeated ||| 2 ^ n.val } } (.line n)
    else
      let s1 := { s with cal := { skewFresh s.cal n with skewNow := s.cal.skewNow - 2 ^ n.val } }
      if s.cal.skewLive.testBit n = false then runCheck (instanceEnd s1 .dacSkew n 6)
      else
        let s2 := (skews.zipIdx).foldl (fun t e => takeValues t .dacSkew n e.2 [e.1]) s1
        runCheck (instanceEnd s2 .dacSkew n (if skews.any fun v => (limited .dacSkew 0 v).2 then 2 else 1))
  else s

def execDacSkewMeasurementEnd (lane : Fin 8) (skew0 skew1 skew2 skew3 : Int) (s : State) :
    Host.Outcome State Fault Refusal := .next (dacSkewEnd lane [skew0, skew1, skew2, skew3] s)

/-- BDAC_CAL_MEASUREMENT_END (R241): offset and gain of both ranges; a change of range in the meantime repeats it. -/
def bdacCalEnd (c : Nat) (x1 x2 : Int × Int) (s : State) : State :=
  if s.cal.bdacNow = some c ∧ s.faults.window.isNone = true then
    if s.cal.repeatBdac then { s with cal := { s.cal with repeatBdac := false } }
    else
      let s1 := takeValues (takeValues s .biasDacs c 0 [x1.1, x1.2]) .biasDacs c 1 [x2.1, x2.2]
      let lim := anyLimit .biasDacs [x1.1, x1.2] || anyLimit .biasDacs [x2.1, x2.2]
      runCheck (calNext 60 (instanceEnd { s1 with cal := { s1.cal with bdacNow := none } } .biasDacs c (if lim then 2 else 1)))
  else s

def execBdacCalMeasurementEnd (c : Fin 32) (offset1 gain1 offset2 gain2 : Int) (s : State) :
    Host.Outcome State Fault Refusal := .next (bdacCalEnd c (offset1, gain1) (offset2, gain2) s)

/-- SNS_CAL_MEASUREMENT_END (R242): the input returns and the channel settles. A SYNC in the meantime restarts it once
(R282). -/
def snsCalEnd (n : Nat) (offset gain : Int) (s : State) : State :=
  if s.cal.senseNow = some n ∧ s.faults.window.isNone = true then
    if s.cal.repeatSense then { s with cal := { s.cal with repeatSense := false } }
    else
      let s1 := takeValues s .senseChans n 0 [offset, gain]
      let s2 := setSense s1 n { senseChan s1 n with
        calibrating := false
        unsettled := (senseFresh s1 n).unsettled }
      runCheck (calNext 60 (instanceEnd { s2 with cal := { s2.cal with senseNow := none } } .senseChans n
        (if anyLimit .senseChans [offset, gain] then 2 else 1)))
  else s

def execSnsCalMeasurementEnd (n : Fin 24) (offset gain : Int) (s : State) : Host.Outcome State Fault Refusal :=
  .next (snsCalEnd n offset gain s)

/-- A line or host PLL switchover repeats the measurements of its region once (R247). -/
def calSwitchover (s : State) (line : Bool) (lo hi : Nat) : State :=
  let s1 := ((if line then allLine else allHost).filter fun l => decide (lo ≤ l.num) && decide (l.num < hi)).foldl (fun t l =>
    match lapOf t l with
    | some x => if x.waiting = false ∧ x.again = 0 then setLap t l (some { x with again := 1 }) else t
    | none => t) s
  if line then { s1 with cal := { s1.cal with
    skewAgain := s1.cal.skewAgain ||| maskOf 8 fun n => s1.cal.skewNow.testBit n && !s1.cal.skewRepeated.testBit n &&
      decide (lo ≤ n) && decide (n < hi) } }
  else s1

/-- A brown-out window closes (R370): each measurement in progress is taken anew, which is also the repeat that a switchover asked of
it. -/
def calResume (s : State) : State :=
  let s1 := (allLine ++ allHost).foldl (fun t l =>
    match lapOf t l with
    | some x => if x.waiting = false ∧ x.again = 1 then setLap t l (some { x with again := 2 }) else t
    | none => t) s
  let s2 := (bitsSet 8 s1.cal.skewNow).foldl (fun t n => skewBegin { t with cal := { t.cal with
    skewRepeated := t.cal.skewRepeated ||| b2n (t.cal.skewAgain.testBit n) * 2 ^ n
    skewAgain := t.cal.skewAgain - b2n (t.cal.skewAgain.testBit n) * 2 ^ n } } (.line (Fin.ofNat 8 n))) s1
  { s2 with cal := { s2.cal with
    repeatBdac := false
    repeatSense := false } }

end Sys2Proof.Machine
end

