-- ==== Sys2Proof/Machine/Stream.lean ====
section
/-! DEFINITION. The receive stream of line and host lanes: ADC codes in, through the chain of chapter 05 block by block, into timing
recovery (R68), the update's block (R87, R89), the windows (R69, R88, R94, R187), the checker (R156), the spotlight (R72) and the
detected symbols that codewords are taken from. -/

namespace Sys2Proof.Machine

open Sys2Proof

/-! Settings. -/

/-- Symbols in one DSP clock: 256 on line lanes, 128 on host lanes. -/
def blockSymbols (l : LaneId) : Nat := if l.isLine then 256 else 128

/-- The slicer's thresholds of a lane as they stand (R82, R83): blind, h_1 and dTA count as 0. -/
def slicerSet (s : State) (l : LaneId) : SlicerSet :=
  let e := eqRec s l
  let h1 := if e.dd then sar (atI e.dfe 0) 6 else 0
  let a : Int := eqLevelA s l
  let dtc := fun c j => match l with
    | .line n => rdI s (if j = 0 then F.LEQ_THR_CAL_c_DTC_0 else if j = 1 then F.LEQ_THR_CAL_c_DTC_1
        else F.LEQ_THR_CAL_c_DTC_2) n c
    | .host _ => 0
  ⟨a, h1 :: (e.dfe.drop 1).map (sar · 6), (List.range 12).map fun k =>
    (2 * ((k % 3 : Nat) : Int) - 2) * a + h1 * levelOf (k / 3) + (if e.dd then dTA s l (k / 3) (k % 3) else 0) + dtc (k / 3) (k % 3)⟩

/-- The adapted table as the detector uses it: bits [17:6] (R85). -/
def seqTable (e : EqRec) : List Int := e.table.map (sar · 6)

/-- The offsets as they are used: bits [15:6] (R83). -/
def offsets (e : EqRec) : List Int := e.ofs.map (sar · 6)

/-- The sequence detector decides: DET = 1 in DD (R85). -/
def seqOn (s : State) (l : LaneId) : Bool := (eqRec s l).dd && eqDet s l

/-- A physical line lane that the map in use inverts (R170). -/
def laneInverted (s : State) : LaneId → Bool
  | .line n => match portOfLine s n with
    | some p => (logicalOf s p n).elim false (invUse s p)
    | none => false
  | .host _ => false

def bitsOfLane (s : State) (l : LaneId) : BitsOf := ⟨laneInverted s l, eqPrecode s l⟩

/-- The restorer runs; host lanes have none (R80, R185). -/
def restorerOn (s : State) (l : LaneId) : Bool := setL s l F.LEQ_CTRL_LFR_EN 0 == 1

/-! One block (R80-R86). -/

/-- The block after the newest gets its y and the slicer's symbols (R81, R82). -/
def blockEqualise (s : State) (l : LaneId) (slPrev : List Int) (before : List Int) (b : RxBlock) (after : List Int) : RxBlock :=
  let taps := (eqRec s l).ffe.map (sar · 10)
  let w := ffeWindow (ffeTaps l) (eqMain s l) before b.xr after
  let y := (List.range b.x.length).map (ffeAt taps w)
  let q := slicerSet s l
  let sl := slicerRun q y slPrev
  { b with y := y, sl := sl, rel := (sl.zip b.zeroed).map fun e => if e.2 then (0, 0) else slicerRel q e.1 }

/-- The last levels of a run of symbols, newest first. -/
def lastLevels (xs : List DetSym) (prev : List Int) : List Int :=
  match xs.getLast? with
  | some x => (x.d :: x.prev).take 4
  | none => prev

/-- The survivors' paths through a block and 32 symbols beyond it (R85). -/
def blockPaths (s : State) (l : LaneId) (r : RxRec) (b c : RxBlock) : List PathSym :=
  seqRun (bitsOfLane s l) (seqTable (eqRec s l)) ((c.sl ++ b.sl.take 32).map (·.z)) (seqStart r.metrics r.dPrev)

/-- Per symbol the value after precoding decode and the reliabilities of its two bits (R79, R84, R85); a replaced sample has
reliability 0. -/
def blockBits (s : State) (l : LaneId) (r : RxRec) (c : RxBlock) (paths : List PathSym) : List (Nat × Nat × Nat) :=
  let a : Int := eqLevelA s l
  if seqOn s l then
    (paths.zip c.zeroed).map fun e => if e.2 then (e.1.g, 0, 0) else (e.1.g, seqRel a e.1.m0, seqRel a e.1.m1)
  else decodeRun (eqPrecode s l) r.valuePrev r.relPrev
    ((c.sl.zip c.rel).map fun e => (invertValue (laneInverted s l) (valueOf e.1.d), e.2.1, e.2.2))

/-- A block holds, or lies within 40 symbols of, a replaced sample (R91). -/
def nearZeroed (b c d : RxBlock) : Bool :=
  c.zeroed.any id || (b.zeroed.take 40).any id || (d.zeroed.reverse.take 40).any id

/-- e[k] of R89. -/
def ddError (a h1 : Int) (x : DetSym) : Int := x.z - a * x.d - h1 * atI x.prev 0

/-- The detected symbols of a block. -/
def blockSyms (s : State) (l : LaneId) (c : RxBlock) (det : List DetSym) (bits : List (Nat × Nat × Nat)) (skipped : Bool) : List RxSym :=
  let h1 := sar (atI (eqRec s l).dfe 0) 6
  ((c.x.zip c.zeroed).zip ((c.y.zip det).zip bits)).map fun e =>
    let d := e.2.1.2
    { x := e.1.1
      y := e.2.1.1
      level := valueOf d.d
      value := invertValue (laneInverted s l) (valueOf d.d)
      dec := e.2.2.1
      r0 := e.2.2.2.1
      r1 := e.2.2.2.2
      err := ddError (eqLevelA s l) h1 d
      zeroed := e.1.2
      skipped := skipped }

/-! Timing recovery (R68, R186, R187). -/

/-- The clamp of F. -/
def freqMax : Int := 2 ^ 21 - 1

/-- One DSP clock of R68 with KI and KP from F and PHI: F, and PHI before it wraps. -/
def trStep (ki kp : Nat) (holdF : Bool) (f : Int) (phase : Nat) (g : Int) : Int × Int :=
  let f' := if holdF then 0 else clampI (- freqMax) freqMax (f + shl g ki)
  (f', (phase : Int) + f' + shl g kp)

/-- A host lane in FORWARDED holds F at 0 (R187). -/
def laneForwarded (s : State) (l : LaneId) : Bool := !l.isLine && forwarded s

/-- A host lane trains its phase (R187). -/
def laneTraining (s : State) : LaneId → Bool
  | .line _ => false
  | .host n => rd s F.HSL_STATUS_TRAINING n == 1

/-- Timing recovery holds F and PHI (R56, R71, R165, R187): LOS; a CTLE search running or due; the port in DOWN or HOLD, but for a
host lane that trains, which a port in DOWN has too. -/
def timingHeld (s : State) (l : LaneId) : Bool :=
  laneLos s l || (front s l).search.isSome || (front s l).searchDue || (frontHeld s l && !laneTraining s l)

def showTiming (s : State) (l : LaneId) : State :=
  let x := front s l
  match l with
  | .line n => wr (wrI s F.LRX_TR_STATUS_FREQ x.freq n) F.LRX_TR_STATUS_PI_CODE (x.phase / 2 ^ 18) n
  | .host n => wr s F.HSL_STATUS_PI_CODE (x.phase / 2 ^ 18) n

/-- PHI takes a value; when it wraps upward through a whole UI the DSP clock that follows takes a symbol less, downward one more
(R68, log entry 141). -/
def setPhase (s : State) (l : LaneId) (f raw : Int) : State :=
  let s1 := setFront s l { front s l with freq := f, phase := (raw % 2 ^ 24).toNat, timed := true }
  showTiming (setRxRec s1 l { rxRec s1 l with len := ((blockSymbols l : Int) - raw / 2 ^ 24).toNat }) l

/-- s_n of a DSP clock counts in the lock window and moves F and PHI; a trained host lane in FORWARDED sums it instead (R187). -/
def timingClock (s : State) (l : LaneId) (g : Int) : State :=
  if timingHeld s l then setRxRec s l { rxRec s l with len := blockSymbols l }
  else
    let r := rxRec s l
    let s1 := setRxRec s l { r with plus := r.plus + b2n (g == 1), minus := r.minus + b2n (g == -1), len := blockSymbols l }
    if laneForwarded s l && !laneTraining s l then setRxRec s1 l { rxRec s1 l with track := r.track + g }
    else
      let x := front s1 l
      let t := trStep (if laneForwarded s l then 0 else trKi s l) (trKp s l) (laneForwarded s l) x.freq x.phase g
      let s2 := setPhase s1 l t.1 t.2
      setRxRec s2 l { rxRec s2 l with clamped := r.clamped || t.1 == freqMax || t.1 == - freqMax }

/-! Test patterns (R154, R156). -/

/-- The taps of a PRBS as bit numbers of its register (newest bit 0), its length, and whether its output is inverted: PRBS7 by R154; the
IEEE 802.3 polynomials of PRBS13 and PRBS31 are PRESUMED (log entry 142). -/
def prbsTaps (pattern : Nat) : List Nat :=
  if pattern = 0 then [6, 5] else if pattern = 1 then [12, 11, 1, 0] else [30, 27]
def prbsLength (pattern : Nat) : Nat := if pattern = 0 then 7 else if pattern = 1 then 13 else 31

/-- The bit that follows a register's contents. -/
def prbsNext (pattern reg : Nat) : Bool := (prbsTaps pattern).foldl (fun a k => a != reg.testBit k) false

def prbsShift (pattern reg : Nat) (b : Bool) : Nat := (2 * reg + b2n b) % 2 ^ prbsLength pattern

/-- PRBS31 is sent inverted (log entry 142). -/
def prbsInverted (pattern : Nat) : Bool := pattern == 2

/-- The length in bits of a pattern with a pointer: SSPRQ and USER; 0 for PRBS. -/
def patternBits (pattern : Nat) : Nat := if pattern = 3 then 131070 else if pattern = 4 then 256 else 0

/-- A lane's USER bit: bit 0 of USER_0 first. -/
def userBit (s : State) (l : LaneId) (k : Nat) : Bool :=
  (match l with
    | .line n => rdE s F.LTX_TPG_USER_k_USER n (k / 32 % 8)
    | .host n => rdE s F.HSL_TPG_USER_k_USER n (k / 32 % 8)).testBit (k % 32)

/-- Bit k of a pattern with a pointer (R154): SSPRQ is IEEE 802.3's, left open (log entry 142). -/
def storedBit (s : State) (l : LaneId) (pattern k : Nat) : Bool := if pattern = 3 then Config.ssprqBit (k % 131070) else userBit s l (k % 256)

def tpcEn (s : State) (l : LaneId) : Bool := rdLE s l F.LRX_TPC_CTRL_EN F.HSL_TP_CTRL_TPC_EN == 1
def tpcPattern (s : State) (l : LaneId) : Nat := rdLE s l F.LRX_TPC_CTRL_PATTERN F.HSL_TP_CTRL_TPC_PATTERN
def tpcLock (s : State) (l : LaneId) : Bool := rdL s l F.LRX_TPC_STATUS_LOCK F.HSL_TPC_STATUS_LOCK == 1
def tpcPos (s : State) (l : LaneId) : Nat := rdL s l F.LRX_TPC_STATUS_POS F.HSL_TPC_STATUS_POS

/-- LOCK changes (R156, R163). -/
def setTpcLock (s : State) (l : LaneId) (b : Bool) : State :=
  if tpcLock s l = b then s else
    let s1 := wrL s l F.LRX_TPC_STATUS_LOCK F.HSL_TPC_STATUS_LOCK (b2n b)
    let s2 := if b then s1 else bumpL s1 l 17 8
    raiseEvent s2 (ev 0x8252 (laneLoc l) (b2n b + tpcPattern s l * 2))

/-- A PRBS checker sets LOCK as soon as 128 bits in a row agreed (R156): at the end of the block that holds the last of them (log entry
146). -/
def tpcPrbsLock (s : State) (l : LaneId) : State :=
  if tpcEn s l = true ∧ tpcPattern s l ≤ 2 ∧ (rxRec s l).tpc.agree = 128 then setTpcLock s l true else s

/-- A bit is compared: right or wrong; 128 in a row lock a PRBS checker, and what is found under LOCK is counted (R156). -/
def tpcCompare (lock prbs ok : Bool) (t : Tpc) : Tpc :=
  let locked := lock || (prbs && t.agree == 128)
  { t with
    agree := if t.agree = 128 then 128 else if ok then t.agree + 1 else 0
    run := t.run + 1
    errors := t.errors + b2n (!ok)
    bits := t.bits + b2n locked
    counted := t.counted + b2n (locked && !ok) }

/-- One received bit at a PRBS checker: its register loads from received bits and then runs on its own. -/
def tpcPrbsBit (pattern : Nat) (lock b : Bool) (t : Tpc) : Tpc :=
  let v := b != prbsInverted pattern
  if t.loaded < prbsLength pattern then { t with reg := prbsShift pattern t.reg v, loaded := t.loaded + 1 }
  else tpcCompare lock true (v == prbsNext pattern t.reg) { t with reg := prbsShift pattern t.reg (prbsNext pattern t.reg) }

/-- A symbol's Gray pair, before precoding decode, at the lane's checker. -/
def tpcSymbol (s : State) (l : LaneId) (t : Tpc) (x : RxSym) : Tpc :=
  (pairBits x.value).foldl (fun u b =>
    if tpcPattern s l ≤ 2 then tpcPrbsBit (tpcPattern s l) (tpcLock s l) b u
    else tpcCompare (tpcLock s l) false (b == storedBit s l (tpcPattern s l) (tpcPos s l + u.run)) u) t

/-! The spotlight's entries (R72). -/

def spotOf (s : State) (n : Nat) : Spot := vGet s.lanes.spot n ⟨0, 0, [], 0, 0, [], false⟩

def setSpot (s : State) (n : Nat) (x : Spot) : State := { s with lanes := { s.lanes with spot := vSet s.lanes.spot n x } }

/-- Number of entries and their bytes in the image, by source (R72). -/
def spotEntries (source : Nat) : Nat := if source = 1 then 524288 else if source = 2 then 4194304 else 1048576
def spotBytes : Nat := 1048576

/-- What a symbol gives a capture: the code sign-extended to 8 bits, y to 16, or the Gray pair of the level. -/
def spotEntry (source : Nat) (x : RxSym) : Nat :=
  if source = 1 then ofSigned 16 x.y else if source = 2 then grayOf x.level else ofSigned 8 x.x

/-- The symbols of a run, from place `at0` of the stream on, that a capture takes; with source 0b11 those of its slice, of which none come
once a fault swap has taken it out of service: the capture then waits (the model's choice, log entry 178). -/
def spotTake (s : State) (n : Nat) (x : Spot) (at0 : Nat) (xs : List RxSym) : Spot :=
  let mine := (xs.zipIdx).filter fun e => decide (x.next ≤ at0 + e.2) &&
    (x.source != 3 || (slicesOf s (.line (Fin.ofNat 8 n))).place[(at0 + e.2) % 64]? == some x.slice)
  { x with
    entries := (x.entries ++ mine.map fun e => spotEntry x.source e.1).take (spotEntries x.source)
    next := max x.next (at0 + xs.length) }

/-- A capture in progress takes what has been detected. -/
def spotFollow (s : State) (l : LaneId) (at0 : Nat) (xs : List RxSym) : State :=
  match l with
  | .line n => if rd s F.LRX_SPOT_STATUS_STATE n = 1 then setSpot s n (spotTake s n (spotOf s n) at0 xs) else s
  | .host _ => s

/-! The windows (R88, R94) and the block's end. -/

/-- The metric window takes a block's symbols (R94). -/
def metricTake (a h1 : Int) (ofs : List Int) (r : RxRec) (xs : List DetSym) : RxRec :=
  xs.foldl (fun t x =>
    let v := valueOf x.d
    { t with
      levels := vMod t.levels v (· + 1)
      squares := vMod t.squares v (· + (offsetError a h1 ofs x ^ 2).toNat)
      hist := vMod t.hist (histBin h1 x) (· + 1) }) r

/-- The detected symbols join the stream. -/
def bufTake (r : RxRec) (xs : List RxSym) : RxRec := { r with buf := xs.reverse ++ r.buf, detected := r.detected + xs.length }

/-- The detected symbols from place `at0` of the stream on. -/
def symsFrom (r : RxRec) (at0 : Nat) : List RxSym := (r.buf.take (r.detected - at0)).reverse

/-- The `n` symbols from a place on; none where they have not all been detected. -/
def segment (r : RxRec) (at0 n : Nat) : Option (List RxSym) :=
  if at0 + n ≤ r.detected then some ((symsFrom r at0).take n) else none

/-- What a detected block leaves in the lane's record: residual, windows, update block, checker, symbols. -/
def blockRecord (s : State) (l : LaneId) (r : RxRec) (d b c a : RxBlock) : RxRec × List RxSym :=
  let paths := if seqOn s l then blockPaths s l r b c else []
  let det := if seqOn s l then withLevels c.sl paths r.dPrev else c.sl
  let bits := blockBits s l r c paths
  let skipped := nearZeroed b c d
  let e := eqRec s l
  let h1 := sar (atI e.dfe 0) 6
  let xs := blockSyms s l c det bits (skipped || laneLos s l || (e.dd && laneLol s l))
  let g := residualSum e.g c.x (det.map (·.d))
  let r1 := if skipped || laneLos s l then r else metricTake (eqLevelA s l) h1 (offsets e) r det
  let r2 := { r1 with
    blocks := [a, b, c]
    residuals := (g, c.x.length) :: r.residuals
    dPrev := lastLevels det r.dPrev
    metrics := if seqOn s l then seqMetrics (seqAfter (bitsOfLane s l) (seqTable e) (c.sl.map (·.z)) (seqStart r.metrics r.dPrev)) else []
    valuePrev := ((xs.getLast?).map (·.value)).getD r.valuePrev
    relPrev := (c.rel.getLast?.map fun q => min q.1 q.2).getD r.relPrev
    yPrev := (c.y.getLast?).getD r.yPrev
    upd := ⟨ffeWindow (ffeTaps l) (eqMain s l) d.xr c.xr b.xr, c.y, c.sl, det, g, skipped⟩
    outliers := if skipped || eqPaused s l then r.outliers else r.outliers + outliersIn (eqLevelA s l) h1 (offsets e) det
    tpc := if tpcEn s l then xs.foldl (tpcSymbol s l) r.tpc else .reset }
  (bufTake r2 xs, xs)

/-- s_n of a block (R68). -/
def blockSign (r : RxRec) (c : RxBlock) (det : List RxSym) : Int :=
  sgn (tedSum r.yPrev (atI r.dPrev 0) (c.y.zip (det.map fun x => levelOf x.level)))

/-- A block of raw codes is complete: it is restored, the one before it equalised, and the one before that decided. -/
def blockDone (s : State) (l : LaneId) : State :=
  let r0 := rxRec s l
  let a : RxBlock := ⟨r0.x, r0.zeroed, restore (restorerOn s l) r0.residuals r0.x, [], [], []⟩
  let r := { r0 with
    x := []
    zeroed := []
    sums := (r0.x.sum, r0.x.length) :: r0.sums }
  let before := fun k => (r.blocks[k]?).getD ⟨[], [], [], [], [], []⟩
  match r.blocks with
  | [] => setRxRec s l { r with blocks := [a] }
  | b0 :: rest =>
    let b := blockEqualise s l r.slPrev (before 1).xr b0 a.xr
    let r1 := { r with slPrev := lastLevels b.sl r.slPrev }
    match rest with
    | [] => setRxRec s l { r1 with blocks := [a, b] }
    | c :: _ =>
      let q := blockRecord s l r1 (before 2) b c a
      timingClock (tpcPrbsLock (spotFollow (setRxRec s l q.1) l r1.detected q.2) l) l (blockSign r1 c q.2)

/-- One ADC code (R60, R61, R64): the slice at its position takes it; a flagged slice's sample is replaced by 0. -/
def rxPush (s : State) (l : LaneId) (v : Int) : State :=
  let r := rxRec s l
  let z := ((slicesOf s l).place[r.count % positionCount l]?).elim false (slicesOf s l).zeroed.contains
  let s1 := setRxRec s l { r with
    count := r.count + 1
    x := r.x ++ [if z then 0 else satI 7 v]
    zeroed := r.zeroed ++ [z] }
  if r.len ≤ r.x.length + 1 then blockDone s1 l else s1

/-- A lane's block grids start afresh where its PLLs are tuned anew (R485): the blocks under way are lost, and the next symbol of either
side begins one. -/
def gridRestart (s : State) (l : LaneId) : State :=
  let r := rxRec s l
  let x := txRec s l
  setTxRec (setRxRec s l { r with count := r.detected, x := [], zeroed := [], len := blockSymbols l, blocks := [], sums := [], sumsAt := r.detected, looked := 0 }) l
    { x with gridAt := x.count }

/-- The lane's codes since the last command that brought some, in order. A lane that does not run receives none. -/
def rxStream (s : State) (l : LaneId) (xs : List Int) : State := if laneRuns s l then xs.foldl (fun t v => rxPush t l v) s else s

end Sys2Proof.Machine
end

