-- ==== Sys2Proof/Machine/LineRx.lean ====
section
/-! DEFINITION. The receiver front end of line and host lanes (chapter 04, R54-R77; R185-R187): CTLE search, VGA, slice
monitor and swaps, timing recovery and lock, loss of signal, spotlight. -/

namespace Sys2Proof.Machine

open Sys2Proof

/-! CTLE (R56). -/

/-- The search ends: the best code is applied and the equaliser starts (R87). -/
def searchEnd (s : State) (l : LaneId) (best ratio : Nat) : State :=
  let s1 := setFront s l { front s l with search := none, startDue := false }
  let s2 := wrLine (wrLine (setCtle s1 l best) l F.LRX_CTLE_STATUS_METRIC ratio) l F.LRX_STATUS_CTLE_SEARCH 0
  if (front s l).startDue then eqStart s2 l false else eqRefresh s2 l

/-- CTLE_DWELL_END: the codes of the dwell's last 32 microseconds give its ratio. While LOS is set, and in DOWN and HOLD, the code is
held (R71, R165, R179). -/
def ctleDwellEnd (l : LaneId) (codes : List Int) (s : State) : State :=
  match (front s l).search with
  | none => s
  | some q =>
    if frontHeld s l || !laneRuns s l then s
    else
      let ratio := rhoOf codes
      let dist := (Int.natAbs ((ratio : Int) - ctleTarget s l))
      let best := match q.best with
        | none => (q.code, dist, ratio)
        | some b => if dist < b.2.1 then (q.code, dist, ratio) else b
      if q.code < ctleMax s l then
        let s1 := setFront s l { front s l with search := some ⟨q.code + 1, some best⟩ }
        setCtle (wrLine s1 l F.LRX_CTLE_STATUS_METRIC ratio) l (q.code + 1)
      else searchEnd s l best.1 best.2.2

def execCtleDwellEnd (l : LaneId) (codes : List Int) (s : State) : Host.Outcome State Fault Refusal :=
  .next (ctleDwellEnd l codes s)

/-! VGA (R57-R59, R92). -/

/-- Out of window low: level / 256 below TARGET 10^(-1/20). -/
def levelLow (level target : Nat) : Bool := decide (level ^ 20 * 10 < (256 * target) ^ 20)

/-- Out of window high: level / 256 above TARGET 10^(+1/20). -/
def levelHigh (level target : Nat) : Bool := decide ((256 * target) ^ 20 * 10 < level ^ 20)

/-- The step that is due: from the measurements in AUTO, toward the staged code in MANUAL. -/
def vgaDueStep (s : State) (l : LaneId) : Int :=
  if vgaManual s l then
    if vgaCode s l < vgaManualCode s l then 1 else if vgaManualCode s l < vgaCode s l then -1 else 0
  else (front s l).vgaDue

/-- A due step lies beyond code 0 or 24. -/
def vgaAtLimit (s : State) (l : LaneId) (d : Int) : Bool :=
  (d == 1 && vgaCode s l == 24) || (d == -1 && vgaCode s l == 0)

/-- No step is due any more: none is held back, and DEFERRED clears (R58). -/
def vgaSettle (s : State) (l : LaneId) : State :=
  if vgaDueStep s l = 0 then wrLine (setFront s l { front s l with vgaHeld := 0 }) l F.LRX_VGA_STATUS_DEFERRED 0 else s

/-- VGA_MEASUREMENT (R57): the RMS of the preceding 65,536 codes, and the measurements in a row on either side of the window. -/
def vgaMeasurement (l : LaneId) (codes : List Int) (s : State) : State :=
  if laneRuns s l then
    let x := front s l
    let level := rmsLevel (codes.drop (codes.length - 65536))
    let low := if levelLow level (vgaTarget s l) then min 4 (x.vgaLow + 1) else 0
    let high := if levelHigh level (vgaTarget s l) then min 4 (x.vgaHigh + 1) else 0
    let s1 := setFront s l { x with
      level := level
      vgaLow := low
      vgaHigh := high
      vgaDue := if low = 4 then 1 else if high = 4 then -1 else 0 }
    let s2 := wrLine s1 l F.LRX_VGA_STATUS_LEVEL level
    let s3 := wrLine s2 l F.LRX_VGA_STATUS_AT_LIMIT (b2n (vgaAtLimit s2 l (vgaDueStep s2 l)))
    let s4 := vgaSettle s3 l
    match l with
    | .line n => { s4 with ctl := { s4.ctl with levelSeq := vMod s4.ctl.levelSeq n (· + 1) } }
    | .host _ => s4
  else s

def execVgaMeasurement (l : LaneId) (codes : List Int) (s : State) : Host.Outcome State Fault Refusal :=
  .next (vgaMeasurement l codes s)

/-- The FFE and G rescaled at a VGA step (R92). -/
def vgaRescale (e : EqRec) (up : Bool) : EqRec :=
  { e with
    ffe := e.ffe.map fun a => satI 24 (roundConv (a * (if up then 30935 else 34710)) (2 ^ 15))
    g := min 0xFFFF (roundConv ((e.g : Int) * (if up then 34710 else 30935)) (2 ^ 15)).toNat }

/-- The due step `d` is held back by a reception or a capture: DEFERRED, and its count at the first boundary (R58). -/
def vgaDefer (s : State) (l : LaneId) (d : Int) : State :=
  let s1 := wrLine s l F.LRX_VGA_STATUS_DEFERRED 1
  if (front s1 l).vgaHeld = d then s1 else bumpLine (setFront s1 l { front s1 l with vgaHeld := d }) l 4

/-- A step is taken: the gain, the spacing, the rescaled equaliser (R57, R58, R92). R57 does not say whether the measurements in a row
count on after a step; the model counts afresh (log entry 143). -/
def vgaMove (s : State) (l : LaneId) (d : Int) : State :=
  let s1 := wrL s l F.LRX_VGA_STATUS_CODE F.HSL_STATUS_VGA_CODE ((vgaCode s l : Int) + d).toNat
  let s2 := setFront s1 l { front s1 l with
    vgaLow := 0
    vgaHigh := 0
    vgaDue := 0
    vgaHeld := 0
    vgaLast := some s.time.tick }
  let s3 := putEq s2 l (vgaRescale (eqRec s2 l) (d == 1))
  bumpL (wrLine s3 l F.LRX_VGA_STATUS_AT_LIMIT (b2n (vgaAtLimit s3 l (vgaDueStep s3 l)))) l 3 3

/-- VGA_STEP (R58, R71): a block boundary; a due step is taken, or held back. -/
def vgaStep (l : LaneId) (s : State) : State :=
  let d := vgaDueStep s l
  if laneRuns s l = false then s
  else if d = 0 ∨ vgaAtLimit s l d = true then vgaSettle (wrLine s l F.LRX_VGA_STATUS_DEFERRED 0) l
  else if receiving s l || capturing s l then vgaDefer s l d
  else
    let s1 := wrLine s l F.LRX_VGA_STATUS_DEFERRED 0
    if frontHeld s l = false ∧ sinceNs s (front s l).vgaLast 64000 = true then vgaMove s1 l d else s1

def execVgaStep (l : LaneId) (s : State) : Host.Outcome State Fault Refusal := .next (vgaStep l s)

/-! Handovers (R235). -/

/-- A VGA step is taken at this block boundary (R58). -/
def vgaTakes (s : State) (l : LaneId) : Bool :=
  let d := vgaDueStep s l
  (front s l).vgaLast == some s.time.tick ||
    (d != 0 && !vgaAtLimit s l d && !frontHeld s l && !receiving s l && !capturing s l && sinceNs s (front s l).vgaLast 64000)

/-- The slice in the wings takes the next position and the one it relieves goes into the wings; a window in progress is whole for
neither. -/
def handOver (s : State) (l : LaneId) (x : Lap) : State :=
  let q := slicesOf s l
  let pos := x.done - 1
  let relieved := q.place[pos]?.getD 0
  let s1 := setSlices s l { q with
    place := q.place.set pos x.wings
    runs := q.runs.filter fun r => r.1 / 4 != x.wings && r.1 / 4 != relieved
    fresh := q.fresh ++ [x.wings] }
  setUnderstudy (setLap s1 l (some { x with
    wings := relieved
    waiting := false
    deferred := false })) l relieved

/-- CAL_HANDOVER (R235): a block boundary of a lane with a handover due. -/
def calHandover (l : LaneId) (s : State) : State :=
  match lapOf s l with
  | none => s
  | some x =>
    if x.waiting = true ∧ sinceNs s (some x.setAt) 500 = true then
      if receiving s l || capturing s l || vgaTakes s l then
        if x.deferred then s else bumpL (setLap s l (some { x with deferred := true })) l 5 4
      else handOver s l x
    else s

def execCalHandover (l : LaneId) (s : State) : Host.Outcome State Fault Refusal := .next (calHandover l s)

/-! Slices (R62-R67, R490). -/

/-- R65: with a FAILED understudy each waiting slice stays in service, FAILED, and NOSPARE is raised for it. -/
def raiseNoSpare (s : State) (l : LaneId) (k : Nat) : State :=
  raiseEvent (setNoSpare (markFailed s l k) l true) (ev (if l.isLine then 0x8302 else 0x8331) (laneLocUnit l k) k)

/-- A swap occurred during a capture on the lane: its SWAP flag (R73). -/
def spotFlag (s : State) (l : LaneId) (flag : Nat) : State :=
  match l with
  | .line n =>
    if rd s F.LRX_SPOT_STATUS_STATE n = 1 then
      { s with lanes := { s.lanes with spot := vMod s.lanes.spot n fun x => { x with flags := x.flags ||| flag } } }
    else s
  | .host _ => s

/-- The pending swap lands (R64): the understudy takes the position, the flagged slice becomes the FAILED understudy; slices
flagged meanwhile fall under R65 (R490). A retirement completes. -/
def landSwap (s : State) (l : LaneId) : State :=
  let x := slicesOf s l
  match x.pending with
  | none => s
  | some (k, cause) =>
    let u := understudy s l
    let s1 := setSlices s l { x with
      place := x.place.map fun j => if j = k then u else j
      zeroed := x.zeroed.filter (· != k)
      runs := x.runs.filter fun r => r.1 / 4 != k
      fresh := x.fresh ++ [u]
      pending := none }
    let s2 := markFailed (setUnderstudy s1 l k) l k
    let s3 := match l with
      | .line n => incSat s2 F.LRX_SLICE_STATUS_SWAP_COUNT 1 n
      | .host n => incSat s2 F.HSL_SLICE_STATUS_SWAP_COUNT 1 n
    let s4 := bumpL (spotFlag s3 l 2) l 2 2
    let s5 := raiseEvent s4 (ev (if l.isLine then 0x8301 else 0x8330) (laneLocUnit l k) (k + u * 2 ^ 8 + cause * 2 ^ 16))
    let s6 := x.second.foldl (fun t e => raiseNoSpare t l e.1) s5
    if cause = 5 then completeProg s6 (if l.isLine then 0x0303 else 0x0331) l.num stOK 0 0 0 else s6

/-- A slice in service is flagged for a cause of R76, or retired (R64-R67, R490): a step in the wings ends first, a restore test's
too. -/
def flagSlice (s : State) (l : LaneId) (k cause : Nat) : State :=
  let x := slicesOf s l
  if x.zeroed.contains k then s
  else
    let s1 := setSlices s l { x with zeroed := x.zeroed ++ [k] }
    if x.pending.isSome then setSlices s1 l { slicesOf s1 l with second := x.second ++ [(k, cause)] }
    else
      let s2 := endWings s1 l 4
      if sliceFailed s2 l (understudy s2 l) then
        raiseNoSpare (setSlices s2 l { slicesOf s2 l with second := x.second ++ [(k, cause)] }) l k
      else setSlices s2 l { slicesOf s2 l with pending := some (k, cause) }

/-- The slice monitor is on; on host lanes always (R185). -/
def monEnable (s : State) (l : LaneId) : Bool := setL s l F.LRX_SLICE_MON_ENABLE 1 == 1

/-- The four checks of R62 on one slice against all `n` in service, in the table's order: stuck, out of range, offset,
gain. -/
def sliceChecks (s : State) (l : LaneId) (all : List SliceStat) (x : SliceStat) : List Bool :=
  let n := (all.length : Int)
  let oor := all.foldl (fun a y => a + (y.oor : Int)) 0
  let sum := all.foldl (fun a y => a + y.sum) 0
  let abs := all.foldl (fun a y => a + (y.abs : Int)) 0
  [x.stuck, decide (setL s l F.LRX_SLICE_MON_OOR_THR 32 * n < x.oor * n - oor),
   decide (setL s l F.LRX_SLICE_MON_OFS_THR 32 * 4096 * n < 16 * ((x.sum * n - sum).natAbs : Int)),
   decide (setL s l F.LRX_SLICE_MON_GAIN_THR 6 * abs < 64 * (((x.abs : Int) * n - abs).natAbs : Int))]

/-- Consecutive failing windows of a slice's checks after this one. -/
def sliceRuns (old : List (Nat × Nat)) (k : Nat) (fails : List Bool) : List (Nat × Nat) :=
  (fails.zipIdx).foldl (fun m e => if e.1 then aSet m (4 * k + e.2) ((aGet m (4 * k + e.2)).getD 0 + 1)
    else aDel m (4 * k + e.2)) old

/-- The first check that flags the slice: stuck at its first failing window, the others at their second. -/
def flagCause (runs : List (Nat × Nat)) (k : Nat) : Option Nat :=
  (List.range 4).findSome? fun c => match aGet runs (4 * k + c) with
    | some r => if (if c = 0 then 1 else 2) ≤ r then some (c + 1) else none
    | none => none

/-- What the monitor sums of a slice's codes in a window. -/
def sliceStat (xs : List Int) : SliceStat :=
  { stuck := xs.all (· == atI xs 0)
    oor := (xs.filter fun v => v == -64 || v == 63).length
    sum := xs.sum
    abs := (xs.map Int.natAbs).sum }

/-- The windows' codes as the chain has them: a flagged slice's are 0 (R64). -/
def windowStats (x : Slices) (codes : List (List Int)) : List SliceStat :=
  (x.place.zip codes).map fun e => sliceStat (if x.zeroed.contains e.1 then e.2.map fun _ => 0 else e.2)

/-- SLICE_MONITOR_WINDOW (R62, R63): a window's codes by position. The monitor is suspended during LOS and for the first full window after
it; a window that is not checked breaks a row of failing ones; a slice that took its position in the window has no full one. -/
def sliceMonitorWindow (l : LaneId) (codes : List (List Int)) (s : State) : State :=
  let x := slicesOf s l
  if laneRuns s l = false then s
  else if monEnable s l = false ∨ frontHeld s l = true ∨ x.skip ≠ 0 then
    setSlices s l { x with skip := if laneLos s l then x.skip else x.skip - 1, runs := [], fresh := [] }
  else
    let stats := windowStats x codes
    let checked := (x.place.zip stats).filter fun e => !x.zeroed.contains e.1 && !x.fresh.contains e.1
    let runs := checked.foldl (fun m e => sliceRuns m e.1 (sliceChecks s l stats e.2)) x.runs
    checked.foldl (fun t e => match flagCause runs e.1 with
      | some cause => flagSlice t l e.1 cause
      | none => t) (setSlices s l { x with runs := runs, fresh := [] })

def execSliceMonitorWindow (l : LaneId) (codes : List (List Int)) (s : State) : Host.Outcome State Fault Refusal :=
  .next (sliceMonitorWindow l codes s)

/-- SLICE_FAULT_SWAP (R64): the block boundary after the understudy has settled. -/
def execSliceFaultSwap (l : LaneId) (s : State) : Host.Outcome State Fault Refusal := .next (landSwap s l)

/-- LRX_SLICE_RETIRE's and HSL_SLICE_RETIRE's own part (R76, R199). -/
def sliceRetire (l : LaneId) (k : Nat) : State → State × Reply :=
  withChecks (fun s =>
      [(decide (sliceCount l ≤ k), stRange, 0),
       ((lanePort s l).isNone || k == understudy s l || sliceFailed s l (understudy s l) || noSpare s l, stState, 0),
       ((slicesOf s l).pending.isSome || laneRehearsing s l, stBusy, 0)])
    fun s => (flagSlice s l k 5, .later l.num 0)

/-- LRX_SLICE_RESTORE's and HSL_SLICE_RESTORE's own part (R67, R76): the understudy goes into the wings for its test. A
test that already runs answers E_BUSY and a lane of no enabled port E_STATE: the table names no code (log entry 183). -/
def sliceRestore (l : LaneId) (k : Nat) : State → State × Reply :=
  withChecks (fun s =>
      [((lanePort s l).isNone || k != understudy s l || !sliceFailed s l k, stState, 0),
       ((slicesOf s l).testing || laneRehearsing s l, stBusy, 0)])
    fun s => (setWings (setSlices s l { slicesOf s l with testing := true }) l true, .later l.num 0)

def lineOf (w : Nat) : LaneId := .line (Fin.ofNat 8 w)
def hostOf (w : Nat) : LaneId := .host (Fin.ofNat 16 w)

def execLrxSliceRetire (c : Cmd) (s : State) : Host.Outcome State Fault Refusal :=
  .next (hostCmd 0x0303 [(2, 7), (3, 0x7F)] noGate c (sliceRetire (lineOf (c.w 2)) (c.w 3)) s)

def execLrxSliceRestore (c : Cmd) (s : State) : Host.Outcome State Fault Refusal :=
  .next (hostCmd 0x0304 [(2, 7), (3, 0x7F)] noGate c (sliceRestore (lineOf (c.w 2)) (c.w 3)) s)

def execHslSliceRetire (c : Cmd) (s : State) : Host.Outcome State Fault Refusal :=
  .next (hostCmd 0x0331 [(2, 0xF), (3, 0x3F)] noGate c (sliceRetire (hostOf (c.w 2)) (c.w 3)) s)

def execHslSliceRestore (c : Cmd) (s : State) : Host.Outcome State Fault Refusal :=
  .next (hostCmd 0x0332 [(2, 0xF), (3, 0x3F)] noGate c (sliceRestore (hostOf (c.w 2)) (c.w 3)) s)

/-- SLICE_RESTORE_TEST_END (R67): a pass clears FAILED, and with NOSPARE set the restored understudy at once replaces the
first slice that waits, by the swap of R64. -/
def sliceRestoreTestEnd (l : LaneId) (pass : Bool) (s : State) : State :=
  let x := slicesOf s l
  let op := if l.isLine then 0x0304 else 0x0332
  if x.testing then
    let s1 := setWings (setSlices s l { x with testing := false }) l false
    if pass then
      let s2 := clearFailed s1 l (understudy s1 l)
      let s3 := if noSpare s2 l then
          let s4 := setNoSpare s2 l false
          match x.second with
          | e :: rest => setSlices s4 l { slicesOf s4 l with pending := some e, second := rest }
          | [] => s4
        else s2
      completeProg s3 op l.num stOK 0 0 0
    else completeProg s1 op l.num stHwFault 0 0 0
  else s

def execSliceRestoreTestEnd (l : LaneId) (pass : Bool) (s : State) : Host.Outcome State Fault Refusal :=
  .next (sliceRestoreTestEnd l pass s)

/-! Timing recovery and lock (R68, R69, R186, R187). -/

/-- The window's balance (R69): |N+ - N-| at most 4 LOCK_THR, or LOCK_THR / 2 in a short window, and F off its clamp. -/
def windowPasses (s : State) (l : LaneId) (short : Bool) (r : RxRec) : Bool :=
  let d := ((r.plus : Int) - r.minus).natAbs
  !r.clamped && (if short then decide (2 * d ≤ trLockThr s l) else decide (d ≤ 4 * trLockThr s l))

/-- A new lock window begins. -/
def lockWindowClear (s : State) (l : LaneId) : State := setRxRec s l { rxRec s l with plus := 0, minus := 0, clamped := false }

/-- The host lane's region shows LOL while it is in FORWARDED holdover or slewing (R193). -/
def regionUnsettled (s : State) (n : Nat) : Bool :=
  forwarded s && (if n < 8 then rd s F.HSL_REF_STATUS_A_HOLDOVER == 1 else rd s F.HSL_REF_STATUS_B_HOLDOVER == 1)

def lolForced (s : State) : LaneId → Bool
  | .line _ => false
  | .host n => regionUnsettled s n

/-- What a host lane that loses signal, lock or timing does to its port while it is UP or DEGRADED (R185): the host-to-line
direction is no longer aligned. -/
def hostLaneDown (s : State) (n : Nat) : State :=
  let s1 := hostUnlock s n
  match portOfHost s1 n with
  | some p => if txAligned s1 p then setTxAligned s1 p false else s1
  | none => s1

/-- LOL sets: the lane of a port in UP or DEGRADED is lost (R174), or the host direction falls out of alignment. -/
def lolRises (s : State) (l : LaneId) : State :=
  let s1 := setLol s l true
  match l with
  | .line n => laneLost s1 n 2
  | .host n => hostLaneDown s1 n

/-- A lane of a command ASD_SEND, ASD_AUTH_START, HSL_RETRAIN or XA_STOP has finished: it completes with the last one. The mask of lanes
left is the entry's key; lanes gather in aux where `add` says so. -/
def maskStep (s : State) (p : InProg) (n : Nat) (add : Bool) (result : Nat → Nat) : State :=
  let key := p.key - 2 ^ n
  let aux := if add then p.aux ||| 2 ^ n else p.aux
  let s1 := { s with mgmt := { s.mgmt with
    inProgress := s.mgmt.inProgress.map fun q => if q = p then { q with key := key, aux := aux } else q } }
  if key = 0 then completeProg s1 p.opcode 0 stOK 0 (result aux) 0 else s1

/-- The commands in progress of an opcode that name the lane. -/
def maskProgress (s : State) (opcode n : Nat) (add : Bool) (result : Nat → Nat) : State :=
  (s.mgmt.inProgress.filter fun p => p.opcode == opcode && p.key.testBit n).foldl (fun t p => maskStep t p n add result) s

/-- A training ends (R187, R199): each HSL_RETRAIN that names the lane completes when the last lane it names has ended; failed lanes gather
in its result. -/
def retrainLaneDone (s : State) (n : Nat) (failed : Bool) : State := maskProgress s 0x0330 n failed id

/-- A training that finishes is reported (R187). -/
def trainDone (s : State) (l : LaneId) : State :=
  match l with
  | .line _ => s
  | .host n =>
    if rd s F.HSL_STATUS_TRAINING n = 1 then
      let s1 := wr (wr (setFront s l { front s l with trainSince := none }) F.HSL_STATUS_TRAINING 0 n) F.HSL_STATUS_TRAINED 1 n
      retrainLaneDone (raiseEvent s1 (ev 0x8334 (locHost n) (rd s1 F.HSL_STATUS_PI_CODE n * 2 ^ 8))) n false
    else s

/-- The window passes or fails (R69): LOL clears after 8 passing windows (4 short ones) and sets after 2 failing ones; the first failing
short window returns to the long ones. -/
def lockJudge (s : State) (l : LaneId) : State :=
  let x := front s l
  let ok := windowPasses s l x.short (rxRec s l)
  let pass := if ok then min 8 (x.pass + 1) else 0
  let fail := if ok then 0 else min 2 (x.fail + 1)
  let s1 := setFront s l { x with
    pass := pass
    fail := fail
    short := x.short && ok && !(x.short && pass == 4) }
  if ok = true ∧ laneLol s1 l = true ∧ (if x.short then 4 else 8) ≤ pass ∧ lolForced s1 l = false then
    trainDone (setLol s1 l false) l
  else if fail = 2 ∧ laneLol s1 l = false then lolRises s1 l
  else s1

/-- LOCK_WINDOW_END (R68, R69): the lane's codes run through the chain, and the window is judged where timing recovery ran in it. -/
def lockWindowEnd (l : LaneId) (xs : List Int) (s : State) : State :=
  let s1 := rxStream s l xs
  if laneRuns s1 l = false then s1
  else if timingHeld s1 l then lockWindowClear s1 l
  else lockWindowClear (lockJudge s1 l) l

def execLockWindowEnd (l : LaneId) (codes : List Int) (s : State) : Host.Outcome State Fault Refusal :=
  .next (lockWindowEnd l codes s)

/-! Loss of signal (R70, R71). -/

def losEnvOn (s : State) (l : LaneId) : Bool := setL s l F.LRX_LOS_CTRL_ENV_EN 1 == 1
def losRmsOn (s : State) (l : LaneId) : Bool := setL s l F.LRX_LOS_CTRL_RMS_EN 1 == 1

/-- A new metric window begins (R94). -/
def metricClear (s : State) (l : LaneId) : State :=
  setRxRec s l { rxRec s l with
    levels := Vector.replicate 4 0
    squares := Vector.replicate 4 0
    hist := Vector.replicate 64 0 }

/-- LOS changes: its event and count; what holds and resumes (R69, R71, R94, R150, R174, R221). The metric window in progress is
discarded. -/
def setLos (s : State) (l : LaneId) (b : Bool) : State :=
  if laneLos s l = b then s
  else
    let s1 := wrL s l F.LRX_STATUS_LOS F.HSL_STATUS_LOS (b2n b)
    let s2 := match l with
      | .line n => raiseEvent s1 (ev 0x8303 (locLine n) (b2n b + rd s1 F.LRX_STATUS_LOS_ENV n * 2 + rd s1 F.LRX_STATUS_LOS_RMS n * 4))
      | .host n => raiseEvent s1 (ev 0x8332 (locHost n) (b2n b))
    if b then
      let e := eqRec s2 l
      let s3 := spotFlag (setEqRec (gatherMark (metricClear (bumpL s2 l 0 0) l) l 2) l { e with held := e.held || e.dd }) l 8
      let s4 := setLol s3 l true
      let s5 := lockWindowClear (setFront s4 l { front s4 l with pass := 0, fail := 0, short := false }) l
      match l with
      | .line n => eqRefresh (laneLost (lockSearch (wr s5 F.ASD_LEVEL_REF 0 n) n) n 1) l
      | .host n => eqRefresh (hostLaneDown s5 n) l
    else
      let x := front s2 l
      let s3 := lockWindowClear (setFront s2 l { x with
        short := x.timed && !laneTraining s2 l
        pass := 0
        fail := 0
        slices := { x.slices with skip := 2, runs := [], fresh := [] } }) l
      if x.searchDue && !frontHeld s3 l then searchStart s3 l else eqRefresh s3 l

/-- LOS is the OR of the enabled detectors; a disabled one reads 0 (R70). One that is enabled again resumes the bit it held when it was
stopped (the model's choice, log entry 182). -/
def losFollow (s : State) (l : LaneId) : State :=
  let x := front s l
  let env := x.losEnv && losEnvOn s l
  let rms := x.losRms && losRmsOn s l
  setLos (wrLine (wrLine s l F.LRX_STATUS_LOS_ENV (b2n env)) l F.LRX_STATUS_LOS_RMS (b2n rms)) l (env || rms)

/-- The envelope detector's threshold in microvolts peak to peak (R70; R185: ENV_THR = 4 on host lanes). -/
def envThr (s : State) (l : LaneId) : Nat := (10 + 5 * setL s l F.LRX_LOS_CTRL_ENV_THR 4) * 1000

/-- The RMS detector's threshold in LSB (R70; R185: 6 on host lanes). -/
def rmsThr (s : State) (l : LaneId) : Nat := setL s l F.LRX_LOS_CTRL_RMS_THR 6

/-- LEVEL against RMS_THR 10^((CODE - 24) 0.5 / 20), both to the 40th power (R70). -/
def levelReferred (s : State) (l : LaneId) : Nat := (front s l).level ^ 40 * 10 ^ (24 - vgaCode s l)

/-- Has the detector grounds to assert: an envelope in microvolts below its threshold, or, with none given, LEVEL below its own? -/
def losGrounds (s : State) (l : LaneId) (env : Option Nat) : Bool :=
  match env with
  | some e => decide (e < envThr s l)
  | none => decide (levelReferred s l < (256 * rmsThr s l) ^ 40)

/-- Has it grounds to clear: 10^(2/20) above? -/
def losClearGrounds (s : State) (l : LaneId) (env : Option Nat) : Bool :=
  match env with
  | some e => decide (envThr s l ^ 10 * 10 < e ^ 10)
  | none => decide ((256 * rmsThr s l) ^ 40 * 10 ^ 4 < levelReferred s l)

/-- LOS_SET and LOS_CLEAR (R70): for 1 microsecond the envelope has been `env` microvolts at most or at least, or, with none given, LEVEL
has stood where it stands. A disabled detector is stopped. While a test instruction holds the pins, no signal comes back (R446). -/
def losDetector (l : LaneId) (env : Option Nat) (b : Bool) (s : State) : State :=
  let x := front s l
  if laneRuns s l = false ∨ (b = false ∧ s.test.jtagPins = true) ∨
      (if b then losGrounds s l env else losClearGrounds s l env) = false then s
  else if env.isNone then if losRmsOn s l then losFollow (setFront s l { x with losRms := b }) l else s
  else if losEnvOn s l then losFollow (setFront s l { x with losEnv := b }) l else s

/-- The pins are taken from a lane (R446): no signal comes in, and both its detectors assert. -/
def losPins (s : State) (l : LaneId) : State :=
  let x := front s l
  if laneRuns s l then
    losFollow (setFront s l { x with losEnv := x.losEnv || losEnvOn s l, losRms := x.losRms || losRmsOn s l }) l
  else s

def execLosSet (l : LaneId) (env : Option Nat) (s : State) : Host.Outcome State Fault Refusal := .next (losDetector l env true s)
def execLosClear (l : LaneId) (env : Option Nat) (s : State) : Host.Outcome State Fault Refusal := .next (losDetector l env false s)

/-! Spotlight (R72-R76). -/

/-- Is a slice in service on a line lane? -/
def inService (s : State) (n slice : Nat) : Bool := (slicesOf s (lineOf n)).place.contains slice

/-- A show clock a number of codewords on, or back (R24). -/
def clockShift (k : ShowClock) (d : Int) : ShowClock :=
  let t := (((k.epoch.toNat * 2 ^ 48 + k.count.toNat : Nat) : Int) + d) % 2 ^ 64
  { k with count := BitVec.ofInt 48 (t % 2 ^ 48), epoch := BitVec.ofInt 16 (t / 2 ^ 48) }

/-- SC_RX of the codeword that holds the symbol at place `at0` of a line lane's stream (R75): the lane is read up to the next codeword, and
in INNER a superblock's symbols count as its first codeword's. A lane that is not aligned, or in no port, has no codewords: its clock as
it stands (log entry 157). -/
def clockAtPlace (s : State) (n at0 : Nat) : ShowClock :=
  match portOfLine s n with
  | none => .reset
  | some p =>
    let k := showClock s p .rx
    let ahead : Int := at0 - lineAt s n
    if rd s F.PCS_ALIGN_STATUS_RX_DESKEWED p = 0 then k
    else if innerCode s then
      let left := (vGet s.path.superRx p []).length
      clockShift k (if left = 0 then 4 * (ahead / lineSymbols s p 4) else 4 * (ahead / lineSymbols s p 4 + 1) - (4 - left))
    else clockShift k (ahead / lineSymbols s p 1)

/-- A capture begins (R73, R75) at place `at0` of the lane's stream: the header's words at the first entry; symbols already detected are
taken at once. -/
def spotBegin (s : State) (n source slice flags at0 : Nat) : State :=
  let k := clockAtPlace s n at0
  let h := [2 ^ 24 + n * 2 ^ 21 + source * 2 ^ 19 + (if source = 3 then slice else 0x7F) * 2 ^ 12, spotEntries source,
    k.count.toNat % 2 ^ 32, k.epoch.toNat * 2 ^ 16 + k.count.toNat / 2 ^ 32, s.time.hc.toNat % 2 ^ 32,
    s.time.hc.toNat / 2 ^ 32, 0,
    rd s F.LRX_VGA_STATUS_CODE n * 2 ^ 16 + rd s F.LRX_CTLE_STATUS_CODE n * 2 ^ 12 + understudy s (lineOf n)]
  let r := rxRec s (lineOf n)
  let x : Spot := ⟨source, slice, h, flags + (if rd s F.LRX_STATUS_LOS n = 1 then 8 else 0), at0, [], false⟩
  wr (setSpot s n (spotTake s n x (min at0 r.detected) (symsFrom r at0))) F.LRX_SPOT_STATUS_STATE 1 n

/-- The next block boundary of a line lane's stream (R73). -/
def nextBlock (s : State) (n : Nat) : Nat :=
  let r := rxRec s (lineOf n)
  if r.x.isEmpty then r.count else r.count - r.x.length + r.len

/-- Why a capture cannot start (R74): 1 busy, 2 slice not in service. -/
def spotBlocked (s : State) (n source slice : Nat) : Option Nat :=
  if rd s F.LRX_SPOT_STATUS_STATE n = 1 then some 1
  else if source = 3 ∧ inService s n slice = false then some 2 else none

/-- Where on a line lane's stream the codeword begins that a cue's clock stood at, or in INNER its superblock (R73): the lane is read up to
the next codeword. A cue of another port's clock, of SC_TX or without alignment names no codeword of the lane: the next block (log entry
157). -/
def spotPlace (s : State) (n : Nat) (port : Nat) (d : Dir) (k : ShowClock) : Nat :=
  let ago := ((showClock s port d).count - k.count).toNat
  if portOfLine s n = some port ∧ d = .rx ∧ rd s F.PCS_ALIGN_STATUS_RX_DESKEWED port = 1 then
    if innerCode s then
      let left := (vGet s.path.superRx port []).length
      let idx := if left = 0 then 0 else 4 - left
      lineAt s n - lineSymbols s port 4 * (b2n (left != 0) + (ago - idx + 3) / 4)
    else lineAt s n - lineSymbols s port 1 * ago
  else nextBlock s n

/-- SPOT_CTRL_START (R73, R74): a write of LRX_SPOT_CTRL with START = 1. A lane that is not powered has no samples: it is
refused as a slice not in service. -/
def spotCtrlStart (n slice source : Nat) (s : State) : State :=
  let s1 := wr (wr s F.LRX_SPOT_CTRL_SLICE slice n) F.LRX_SPOT_CTRL_SOURCE source n
  match (if lanePowered s1 (lineOf n) = false then some 2
         else if laneRehearsing s1 (lineOf n) then some 1 else spotBlocked s1 n source slice) with
  | some r => raiseEvent (bump s1 (cntLine n 24) 1) (ev 0x8306 (locLine n) r)
  | none => spotBegin s1 n source slice 0 (nextBlock s1 n)

def execSpotCtrlStart (n : Fin 8) (slice : BitVec 7) (source : BitVec 2) (s : State) : Host.Outcome State Fault Refusal :=
  .next (spotCtrlStart n slice.toNat source.toNat s)

/-- LRX_SPOT_START's own part (R76). -/
def lrxSpotStart (c : Cmd) : State → State × Reply :=
  let n := c.w 2
  let source := c.w 3 % 4
  let slice := c.w 3 / 2 ^ 8
  withChecks (fun s =>
      [(decide (64 < slice), stRange, 0),
       ((portOfLine s n).isNone || (source == 3 && !inService s n slice), stState, 0),
       (rd s F.LRX_SPOT_STATUS_STATE n == 1 || rehearsing s 1 n, stBusy, 0)])
    fun s => (spotBegin s n source slice 0 (nextBlock s n), .later n 0)

def execLrxSpotStart (c : Cmd) (s : State) : Host.Outcome State Fault Refusal :=
  .next (hostCmd 0x0301 [(2, 7), (3, 0x7F03)] noGate c (lrxSpotStart c) s)

/-- The capture's buffer is full: its image is held (R72-R75). -/
def spotEnd (n : Nat) (parity : Bool) (s : State) : State :=
  let x := spotOf s n
  let flags := x.flags ||| (if parity then 4 else 0)
  let s1 := setSpot s n { x with flags := flags, header := x.header.set 6 flags, held := true }
  let s2 := wr (wr s1 F.LRX_SPOT_STATUS_STATE 2 n) F.LRX_SPOT_STATUS_SOURCE x.source n
  let s3 := wrB (wrB s2 F.LRX_SPOT_STATUS_LOS (flags.testBit 3) n) F.LRX_SPOT_STATUS_FREEWHEEL (flags.testBit 0) n
  let s4 := wrB (wrB s3 F.LRX_SPOT_STATUS_PARITY (flags.testBit 2) n) F.LRX_SPOT_STATUS_SWAP (flags.testBit 1) n
  let s5 := if parity then raiseParity s4 (24 + n) 4 n (locLineUnit n 0xC0) else s4
  let s6 := raiseEvent (bump s5 (cntLine n 23) 1) (ev 0x8305 (locLine n) (flags + x.source * 2 ^ 4))
  completeProg s6 0x0301 n stOK 0 (x.header[2]?.getD 0) flags

/-- SPOT_CAPTURE_END (R72-R75): the last codes of the capture, and whether the buffer's parity failed. -/
def spotCaptureEnd (n : Nat) (xs : List Int) (parity : Bool) (s : State) : State :=
  let s1 := rxStream s (lineOf n) xs
  if rd s1 F.LRX_SPOT_STATUS_STATE n = 1 then spotEnd n parity s1 else s1

def execSpotCaptureEnd (n : Fin 8) (codes : List Int) (parity : Bool) (s : State) : Host.Outcome State Fault Refusal :=
  .next (spotCaptureEnd n codes parity s)

/-- Byte k of the entries as they lie in the buffer (R72): one byte each, two with the most significant first (log entry 169), or four
decisions with the earliest in [7:6]. -/
def entryByte (x : Spot) (k : Nat) : Nat :=
  let e := fun j => x.entries[j]?.getD 0
  if x.source = 1 then (if k % 2 = 0 then e (k / 2) / 2 ^ 8 else e (k / 2) % 2 ^ 8)
  else if x.source = 2 then (e (4 * k) * 2 ^ 6 + e (4 * k + 1) * 2 ^ 4 + e (4 * k + 2) * 2 ^ 2 + e (4 * k + 3)) % 2 ^ 8
  else e k % 2 ^ 8

/-- Byte k of a held image: header words first, most significant byte first, then the entries (R75). -/
def imageByte (x : Spot) (k : Nat) : Byte :=
  BitVec.ofNat 8 (if k < 32 then (x.header[k / 4]?.getD 0) / 2 ^ (8 * (3 - k % 4)) else entryByte x (k - 32))

/-- LRX_SPOT_READ's own part (R75, R76). -/
def lrxSpotRead (c : Cmd) : State → State × Reply :=
  let n := c.w 2
  withChecks (fun s =>
      [(c.w 3 % 4 != 0, stParam, 3), (c.w 4 % 4 != 0, stParam, 4), (c.w 5 % 4 != 0, stParam, 5),
       (decide (c.w 4 < 4) || decide (196608 < c.w 4) || decide (32 + spotBytes < c.w 3 + c.w 4) ||
         bulkBad s (c.w 5) (c.w 4), stRange, 0),
       (!(spotOf s n).held && rd s F.LRX_SPOT_STATUS_STATE n != 1, stState, 0),
       (rd s F.LRX_SPOT_STATUS_STATE n == 1 || rehearsing s 1 n, stBusy, 0)])
    fun s =>
      let x := spotOf s n
      (putBytes s (windowBase + c.w 5) ((List.range (c.w 4)).map fun k => imageByte x (c.w 3 + k)),
        .done stOK 0 (c.w 4) 0)

def execLrxSpotRead (c : Cmd) (s : State) : Host.Outcome State Fault Refusal :=
  .next (hostCmd 0x0302 [(2, 7), (3, 0xFFFFFFFF), (4, 0xFFFFFFFF), (5, 0xFFFFFFFF)] noGate c (lrxSpotRead c) s)

/-! Power (R44, R59, R93, R490). -/

/-- The CTLE's held state is initialised (R93, R408): the metric, and the code, which MODE FIXED gives. -/
def ctleInit (s : State) (l : LaneId) : State :=
  setCtle (wrLine s l F.LRX_CTLE_STATUS_METRIC 0) l
    (if ctleSearchMode s l then (if l.isLine then F.LRX_CTLE_STATUS_CODE.rst else F.HSL_STATUS_CTLE_CODE.rst) else ctleFixed s l)

/-- A lane loses power: steps in the wings end, a pending swap is completed, the equaliser's and front end's held state goes,
the lock machine searches, a capture ends unfinished. Slice assignments and FAILED marks stay. -/
def lanePowerDown (s : State) (l : LaneId) : State :=
  let s1 := landSwap (endWings s l 3) l
  let s2 := match l with
    | .line n =>
      let a := lockSearch s1 n
      let b := if rd a F.LRX_SPOT_STATUS_STATE n = 1 then
          completeProg (wr (setSpot a n ⟨0, 0, [], 0, 0, [], false⟩) F.LRX_SPOT_STATUS_STATE 0 n) 0x0301 n stAborted 0 0 0
        else a
      if b.cal.skewNow.testBit n then
        runCheck (instanceEnd { b with cal := { skewFresh b.cal n with skewNow := b.cal.skewNow - 2 ^ n.val } } .dacSkew n 3) else b
    | .host n => retrainLaneDone (wr (wr (hostUnlock s1 n) F.HSL_STATUS_TRAINING 0 n) F.HSL_STATUS_TRAINED 0 n) n true
  let slices := slicesOf s2 l
  let s3 := setFront s2 l { Front.reset (positionCount l) with slices := { slices with skip := 0, runs := [], fresh := [] } }
  let s3 := setTxRec (setRxRec s3 l (.reset (blockSymbols l))) l .reset
  let s4 := putEq s3 l (EqRec.reset (ffeTaps l) (eqMain s3 l) (dfeTaps l))
  let s5 := wrL (wrL s4 l F.LRX_STATUS_LOS F.HSL_STATUS_LOS 1) l F.LRX_STATUS_LOL F.HSL_STATUS_LOL 1
  let s6 := wrLine (wrLine (wrLine s5 l F.LRX_STATUS_LOS_ENV 1) l F.LRX_STATUS_LOS_RMS 1) l F.LRX_STATUS_CTLE_SEARCH 0
  let s7 := wrL (wrLine (wrLine s6 l F.LRX_VGA_STATUS_DEFERRED 0) l F.LRX_VGA_STATUS_AT_LIMIT 0) l
    F.LRX_VGA_STATUS_CODE F.HSL_STATUS_VGA_CODE 12
  showTiming (setTx (ctleInit s7 l) l true false) l

/-- A lane is powered: its corrections are loaded from the temperature sets before it carries any signal (R236), its
transmitter follows its port, and in FORWARDED a host lane trains its phase (R187). -/
def lanePowerUp (s : State) (l : LaneId) : State :=
  let s1 := loadCorrections s (laneTarget l) l.num
  let s2 := losFollow (match l with
    | .line n => loadCorrections s1 .dacSkew n
    | .host _ => s1) l
  match l with
  | .line _ => txFollow s2 l
  | .host n =>
    let s3 := if forwarded s2 then
        wr (setFront s2 l { front s2 l with trainSince := some s2.time.tick }) F.HSL_STATUS_TRAINING 1 n else s2
    txFollow s3 l

end Sys2Proof.Machine
end

