-- ==== Sys2Proof/Machine/LineEq.lean ====
section
/-! DEFINITION. The equaliser and the detector (chapter 05, R78-R96; R185 for host lanes): the chain over one block, the
updates, the windows, the metrics and the state image. -/

namespace Sys2Proof.Machine

open Sys2Proof

/-! One update (R87-R91). -/

/-- Is FFE tap j frozen (LEQ_FREEZE)? -/
def ffeFrozen (s : State) (l : LaneId) (j : Nat) : Bool :=
  eqFrozen s l (if j < eqMain s l then F.LEQ_FREEZE_FFE_PRE else if j = eqMain s l then F.LEQ_FREEZE_FFE_MAIN
    else F.LEQ_FREEZE_FFE_POST)

/-- An FFE accumulator after its update by sum g and shift mu, and after leakage (R87, R89, R90). R90 gives no order: the model applies
the leakage after the update, to the updated accumulator (log entry 144). -/
def ffeUpdate (s : State) (l : LaneId) (j : Nat) (acc g : Int) (mu : Nat) : Int :=
  if ffeFrozen s l j then acc
  else
    let a := satI 24 (acc - roundConv g (2 ^ mu))
    if 8 ≤ eqLeak s l ∧ eqLeak s l ≤ 24 ∧ j ≠ eqMain s l then a - roundConv a (2 ^ eqLeak s l) else a

/-- Sum over the block of sign times the sample tap j sees. -/
def tapSum (taps : Nat) (xr : List Int) (signs : List Int) (j : Nat) : Int :=
  (signs.zipIdx).foldl (fun a e => a + e.1 * atI xr (e.2 + taps - 1 - j)) 0

/-- A blind update (R87, R486): constant modulus 41 A^2 / 5. -/
def cmaUpdate (s : State) (l : LaneId) (b : UpdBlock) : EqRec :=
  let e := eqRec s l
  let a : Int := eqLevelA s l
  let signs := b.y.map fun y => sgn y * sgn (5 * y ^ 2 - 41 * a ^ 2)
  { e with ffe := (e.ffe.zipIdx).map fun x => ffeUpdate s l x.2 x.1 (tapSum (ffeTaps l) b.xr signs x.2) (eqCmaMu s l) }

/-- The step of DFE and offset updates: 2^(6 - mu). -/
def muStep (mu : Nat) : Int := ((2 ^ (6 - mu) : Nat) : Int)

/-- A decision-directed update (R80, R85, R89); h_1 adapts from the slicer's decisions. -/
def ddUpdate (s : State) (l : LaneId) (b : UpdBlock) : EqRec :=
  let e := eqRec s l
  let a : Int := eqLevelA s l
  let h1 := sar (atI e.dfe 0) 6
  let err := fun (x : DetSym) => sgn (ddError a h1 x)
  let ctx := fun (x : DetSym) => 4 * valueOf (atI x.prev 0) + valueOf x.d
  let dfeSum := fun i => (if i = 0 then b.sl else b.det).foldl (fun t x => t + err x * sgn (atI x.prev i)) 0
  let ofsSum := fun k => b.det.foldl (fun t x => if ctx x = k then t + sgn (offsetError a h1 (offsets e) x) else t) 0
  let tabSum := fun k => b.det.foldl (fun t x => if ctx x = k then t + sgn (x.z - sar (atI e.table k) 6) else t) 0
  let mean := b.det.foldl (fun t x => t + x.d) 0
  { e with
    ffe := (e.ffe.zipIdx).map fun x => ffeUpdate s l x.2 x.1 (tapSum (ffeTaps l) b.xr (b.det.map err) x.2) (eqFfeMu s l)
    dfe := (e.dfe.zipIdx).map fun x =>
      if eqFrozen s l (if x.2 = 0 then F.LEQ_FREEZE_DFE_1 else F.LEQ_FREEZE_DFE_2_4) then x.1
      else satI 16 (x.1 + sgn (dfeSum x.2) * muStep (eqDfeMu s l))
    ofs := (e.ofs.zipIdx).map fun x =>
      if !eqLvlEn s l || eqFrozen s l F.LEQ_FREEZE_OFFSETS then x.1
      else satI 16 (x.1 + sgn (ofsSum x.2) * muStep (eqOfsMu s l))
    table := (e.table.zipIdx).map fun x =>
      if !eqDet s l || eqFrozen s l F.LEQ_FREEZE_TABLE then x.1
      else satI 18 (x.1 + tabSum x.2 * muStep (eqOfsMu s l))
    g := if !l.isLine || eqFrozen s l F.LEQ_FREEZE_LFR_GAIN || mean == 0 then e.g
      else (clampI 0 65535 ((e.g : Int) + sgn b.residual * sgn mean)).toNat }

/-- EQ_UPDATE (R87, R89, R91): the codes run through the chain, and the equaliser adapts on the last block decided; a block near a
replaced sample is skipped. -/
def eqUpdate (l : LaneId) (xs : List Int) (s0 : State) : State :=
  let s := rxStream s0 l xs
  let b := (rxRec s l).upd
  if laneRuns s l = false ∨ eqAdapt s l = false ∨ (eqRec s l).ran = false ∨ eqPaused s l = true ∨ b.skipped = true then s
  else putEq s l (if (eqRec s l).dd then ddUpdate s l b else cmaUpdate s l b)

def execEqUpdate (l : LaneId) (codes : List Int) (s : State) : Host.Outcome State Fault Refusal := .next (eqUpdate l codes s)

/-! Outlier windows, resumption (R88, R93, R176). -/

/-- LEQ_WARM_FAIL and what it does (R93, R168, R176): in UP or DEGRADED the lane is lost; the equaliser restarts as though
BLIND were 1. -/
def warmFail (s : State) (l : LaneId) (count : Nat) : State :=
  match l with
  | .line n => eqStart (laneLost (raiseEvent (bump s (cntLine n 22) 1) (ev 0x8312 (locLine n) count)) n 4) l true
  | .host _ => eqStart s l true

/-- A window of CMA (R88): at the last of DD_WINDOWS good ones in a row the equaliser passes to DD. -/
def cmaWindow (s : State) (l : LaneId) (beyond : Bool) : State :=
  let e := eqRec s l
  if beyond || laneLol s l then putEq s l { e with good := 0 }
  else if e.good + 1 < eqDdWindows s l then putEq s l { e with good := e.good + 1 }
  else raiseDdEntry (putEq s l { e with dd := true, valid := true, good := 0, bad := 0, judge := none }) l

/-- The equaliser returns to CMA with its FFE taps (R88). -/
def cmaFallback (s : State) (l : LaneId) (count : Nat) : State :=
  let e := eqRec s l
  let s1 := putEq s l { e with
    dd := false
    dfe := e.dfe.map fun _ => 0
    ofs := e.ofs.map fun _ => 0
    table := e.table.map fun _ => 0
    g := 0
    good := 0
    bad := 0 }
  raiseLine (bumpLine s1 l 21) l (ev 0x8311 (laneLoc l) count)

/-- A window of DD, which began at place `at0` (R88, R93): the first two complete ones after a warm resume are judged; 4 DD_WINDOWS bad
ones in a row while the port comes up return to CMA. -/
def ddWindow (s : State) (l : LaneId) (beyond : Bool) (count at0 : Nat) : State :=
  let e := eqRec s l
  let st := laneLinkState s l
  let bad := if beyond then min (4 * eqDdWindows s l) (e.bad + 1) else 0
  match e.judge with
  | some (n, x) =>
    let x' := if beyond then x + 1 else x
    if at0 < e.judgeFrom then putEq s l { e with bad := bad }
    else if n + 1 < 2 then putEq s l { e with judge := some (n + 1, x'), bad := bad }
    else if x' = 2 then warmFail (putEq s l { e with judge := none, bad := bad }) l count
    else putEq s l { e with judge := none, bad := bad }
  | none =>
    if 1 ≤ st ∧ st ≤ 3 ∧ beyond = true ∧ bad = 4 * eqDdWindows s l ∧ eqAdapt s l = true then cmaFallback s l count
    else putEq s l { e with bad := bad }

/-- OUTLIER_WINDOW_END (R88): a window of 65,536 symbols ends. R88 does not say what windows do while adaptation pauses: the model leaves
them out, and the rows of good and bad ones go on after them (log entry 145). -/
def outlierWindowEnd (l : LaneId) (xs : List Int) (s0 : State) : State :=
  let s1 := rxStream s0 l xs
  let count := (rxRec s1 l).outliers
  let at0 := (rxRec s1 l).outlierAt
  let s2 := setRxRec s1 l { rxRec s1 l with outliers := 0, outlierAt := (rxRec s1 l).detected }
  if laneRuns s2 l = false ∨ (eqRec s2 l).ran = false ∨ eqPaused s2 l = true then s2
  else
    let s := wrLine s2 l F.LEQ_STATUS_OUTLIERS (min 65536 count)
    let beyond := decide (16 * eqOutlierThr s l < count)
    if (eqRec s l).dd then ddWindow s l beyond count at0 else cmaWindow s l beyond

def execOutlierWindowEnd (l : LaneId) (codes : List Int) (s : State) : Host.Outcome State Fault Refusal :=
  .next (outlierWindowEnd l codes s)

/-- EQ_WARM_RESUME (R93): LOS and then LOL have cleared; in DOWN and HOLD the state stays held (R165, R179). -/
def eqWarmResume (l : LaneId) (s : State) : State :=
  let e := eqRec s l
  if laneLinkState s l ≠ 0 ∧ laneLinkState s l ≠ 6 ∧ e.held = true ∧ e.dd = true ∧ laneLos s l = false ∧ laneLol s l = false then
    putEq s l { e with
      held := false
      warm := true
      judge := some (0, 0)
      judgeFrom := (rxRec s l).detected
      good := 0
      bad := 0 }
  else s

def execEqWarmResume (l : LaneId) (s : State) : Host.Outcome State Fault Refusal := .next (eqWarmResume l s)

/-! Metrics (R94). -/

/-- 20 log10(A / sigma) of n samples with square sum q, unsigned Q8.8: 0 with no sample; a free value where the spec states
none (no error at all, or sigma above A); the rounding is free. -/
def snrValue (s : State) (a n q : Nat) : State × Nat :=
  if n = 0 then (s, 0)
  else if q = 0 ∨ a ^ 2 * n < q then (takeFree s, Config.freeNat s.freeCount % 2 ^ 16)
  else (takeFree s, min 0xFFFF (decibels (a ^ 2 * n) q + b2n (Config.freeBool s.freeCount)))

/-- Taps at an end of their range: DFE taps 1-4 in bits [3:0], an FFE tap in bit 4 (R94, R95). -/
def tapLimits (e : EqRec) : Nat :=
  let at_ := fun (w : Nat) (v : Int) => v == satI w (2 ^ 40) || v == satI w (-(2 ^ 40))
  maskOf 4 (fun i => (e.dfe[i]?).elim false fun a => at_ 10 (sar a 6)) +
    (if e.ffe.any fun a => at_ 14 (sar a 10) then 16 else 0)

/-- TAP_SAT follows the taps; LEQ_TAP_SAT is raised each time it sets. -/
def tapSatFollow (s : State) (l : LaneId) : State :=
  let lim := tapLimits (eqRec s l)
  let old := rdL s l F.LEQ_STATUS_TAP_SAT F.HSL_METRIC_TAP_SAT
  let s1 := wrL s l F.LEQ_STATUS_TAP_SAT F.HSL_METRIC_TAP_SAT (b2n (lim != 0))
  if lim ≠ 0 ∧ old = 0 then raiseLine s1 l (ev 0x8313 (laneLoc l) lim) else s1

/-- The registers of a line lane's window. -/
def metricShow (s : State) (n : Nat) (w : RxRec) : State :=
  let a := rdE s F.LEQ_CTRL_LEVEL_A n
  let r := fun (t : State) v => snrValue t a (vGet w.levels v 0) (vGet w.squares v 0)
  let x0 := r s 0
  let x1 := r x0.1 1
  let x2 := r x1.1 2
  let x3 := r x2.1 3
  let all := snrValue x3.1 a (w.levels.toList.foldl (· + ·) 0) (w.squares.toList.foldl (· + ·) 0)
  let s1 := wr (wr all.1 F.LEQ_SNR_0_SNR_M3 x0.2 n) F.LEQ_SNR_0_SNR_M1 x1.2 n
  let s2 := wr (wr s1 F.LEQ_SNR_1_SNR_P1 x2.2 n) F.LEQ_SNR_1_SNR_P3 x3.2 n
  let s3 := wr s2 F.LEQ_SNR_ALL_SNR all.2 n
  let s4 := (List.range 64).foldl (fun t b => wr t F.LEQ_HIST_b_COUNT (vGet w.hist b 0) n b) s3
  (List.range 4).foldl (fun t v => wr t F.LEQ_DCOUNT_v_COUNT (vGet w.levels v 0) n v) s4

/-- The window's results (R94): with HOLD only SEQ moves. -/
def metricClose (s : State) (l : LaneId) : State :=
  let w := rxRec s l
  match l with
  | .line n =>
    let s1 := inc s F.LEQ_MET_CTRL_SEQ 1 n
    if rd s F.LEQ_MET_CTRL_HOLD n = 1 then s1 else tapSatFollow (metricShow s1 n w) l
  | .host n =>
    let r := snrValue s (eqLevelA s l) (w.levels.toList.foldl (· + ·) 0) (w.squares.toList.foldl (· + ·) 0)
    tapSatFollow (wr r.1 F.HSL_METRIC_SNR r.2 n) l

/-- METRIC_WINDOW_END (R94): a window of 2^20 symbols ends; none closes while LOS is set. -/
def metricWindowEnd (l : LaneId) (xs : List Int) (s : State) : State :=
  let s1 := rxStream s l xs
  if laneLos s1 l = true ∨ laneRuns s1 l = false then metricClear s1 l else metricClear (metricClose s1 l) l

def execMetricWindowEnd (l : LaneId) (codes : List Int) (s : State) : Host.Outcome State Fault Refusal :=
  .next (metricWindowEnd l codes s)

/-! The state image (R95). -/

/-- The 80 words of a line lane's image. -/
def stateImage (s : State) (n : Fin 8) : List Nat :=
  let e := eqRec s (.line n)
  let w := ofSigned 32
  [2 ^ 24 + n * 2 ^ 21 + eqStateCode s (.line n) * 2 ^ 19 + rdE s F.LEQ_CTRL_DET n * 2 ^ 18 + eqMain s (.line n) * 2 ^ 12] ++
    e.ffe.map w ++ e.dfe.map w ++ e.ofs.map w ++ [e.g, eqLevelA s (.line n)] ++ e.table.map w

/-- LEQ_STATE_READ's own part. -/
def leqStateRead (c : Cmd) : State → State × Reply :=
  withChecks (fun s =>
      [(c.w 3 % 4 != 0, stParam, 3), (bulkBad s (c.w 3) 320, stRange, 0), ((portOfLine s (c.w 2)).isNone, stState, 0),
       (rehearsing s 1 (c.w 2), stBusy, 0)])
    fun s => (bulkWords s (c.w 3) (stateImage s (Fin.ofNat 8 (c.w 2))), .done stOK 0 320 0)

def execLeqStateRead (c : Cmd) (s : State) : Host.Outcome State Fault Refusal :=
  .next (hostCmd 0x0310 [(2, 7), (3, 0xFFFFFFFF)] noGate c (leqStateRead c) s)

/-- Word 0 of an image matches the lane: format, lane, MAIN, reserved bits. -/
def imageMatches (s : State) (n w0 : Nat) : Bool :=
  w0 / 2 ^ 24 == 1 && w0 / 2 ^ 21 % 8 == n && w0 / 2 ^ 12 % 64 == rdE s F.LEQ_CTRL_MAIN n && w0 % 2 ^ 12 == 0

/-- The equaliser an image holds. -/
def imageEq (e : EqRec) (ws : List Nat) : EqRec :=
  let x := fun k b => toSigned b (ws[k]?.getD 0)
  { e with
    ffe := (List.range 41).map fun j => x (1 + j) 24
    dfe := (List.range 4).map fun j => x (42 + j) 16
    ofs := (List.range 16).map fun j => x (46 + j) 16
    g := (ws[62]?.getD 0) % 2 ^ 16
    table := (List.range 16).map fun j => x (64 + j) 18
    dd := decide (2 ≤ (ws[0]?.getD 0) / 2 ^ 19 % 4)
    valid := true }

/-- LEQ_STATE_LOAD's own part. -/
def leqStateLoad (c : Cmd) : State → State × Reply :=
  let n := c.w 2
  withChecks (fun s =>
      let ws := (fetchWords s (windowBase + c.w 3) 80).2
      [(c.w 3 % 4 != 0 || (!bulkBad s (c.w 3) 320 && !imageMatches s n (ws[0]?.getD 0)), stParam, 3),
       (bulkBad s (c.w 3) 320, stRange, 0),
       (match portOfLine s n with
        | some p => rdE s F.PCS_PORT_CTRL_ADMIN_UP p == 1
        | none => true, stState, 0),
       (rehearsing s 1 n, stBusy, 0)])
    fun s =>
      let r := fetchWords s (windowBase + c.w 3) 80
      (putEq r.1 (lineOf n) (imageEq (eqRec r.1 (lineOf n)) r.2), .done stOK 0 0 0)

def execLeqStateLoad (c : Cmd) (s : State) : Host.Outcome State Fault Refusal :=
  .next (hostCmd 0x0311 [(2, 7), (3, 0xFFFFFFFF)] noGate c (leqStateLoad c) s)

/-- DET becomes 1 at a GO: the table is loaded (R85). -/
def eqDetOn (s : State) (n : Fin 8) : State :=
  let e := eqRec s (.line n)
  let h1 := sar (atI e.dfe 0) 6
  let load := fun (k : Nat) =>
    satI 18 (64 * ((eqLevelA s (.line n) : Int) * levelOf (k % 4) + h1 * levelOf (k / 4) + sar (atI e.ofs k) 6))
  putEq s (.line n) { e with table := (List.range 16).map load }

end Sys2Proof.Machine
end

