-- ==== Sys2Proof/Machine/Modem.lean ====
section
/-! DEFINITION. The aside channel's modulation and coding (chapter 11, R202-R210, R217, R218, R227, R228): packets to samples at 40 MS/s,
and samples back to bits. How cosines, square roots and
turned points are rounded is Config's: the spec gives no precision (log entry 151). -/

namespace Sys2Proof.Machine

open Sys2Proof

/-! Loadings (R208, R210). -/

/-- The code of sub-carrier i in a table: 0 off, 1 BPSK, 2 QPSK, 3 16-QAM. -/
def loadCode (table i : Nat) : Nat := table / 2 ^ (2 * i) % 4

/-- Coded bits of a sub-carrier by its code. -/
def codeBits (c : Nat) : Nat := if c = 3 then 4 else c

/-- B: coded bits per symbol. -/
def loadB (table : Nat) : Nat := ((List.range 32).map fun i => codeBits (loadCode table i)).sum

def loadValid (table : Nat) : Bool := loadB table % 8 == 0 && decide (64 ≤ loadB table) && decide (loadB table ≤ 128)

/-- Loading 0: every sub-carrier QPSK. -/
def loadZero : BitVec 64 := 0xAAAAAAAAAAAAAAAA

/-- Payload symbols of W words at B coded bits per symbol (R210). -/
def payloadSymbols (w b : Nat) : Nat := (2 * (32 * w + 38) + b - 1) / b

/-! Constellations (R206). -/

/-- A sub-carrier's point, (re + j im) over the square root of den. -/
structure Point where
  re : Int
  im : Int
  den : Nat
  deriving DecidableEq, Repr

def signOf (b : Bool) : Int := 1 - 2 * (b2n b : Int)

/-- The point for a sub-carrier's bits by its code. -/
def pointOf (code : Nat) (bits : List Bool) : Point :=
  let b := fun k => bits[k]?.getD false
  match code with
  | 1 => ⟨signOf (b 0), 0, 1⟩
  | 2 => ⟨signOf (b 0), signOf (b 1), 2⟩
  | 3 => ⟨levelOf (valueOfPair (b 0) (b 1)), levelOf (valueOfPair (b 2) (b 3)), 10⟩
  | _ => ⟨0, 0, 1⟩

/-- A symbol's points from its positions' bits: active sub-carriers in ascending order, b0 first (R210 step 7). -/
def mapPoints : List Nat → List Bool → List Point
  | [], _ => []
  | c :: cs, bits => pointOf c (bits.take (codeBits c)) :: mapPoints cs (bits.drop (codeBits c))

def tableCodes (table : Nat) : List Nat := (List.range 32).map (loadCode table)

/-! Preamble and header (R207, R209). -/

/-- Bins 8, 12, ... 36 with amplitude 2, bin 8 + 4i negative where bit i of 0x4B is 1. -/
def shortPoints : List Point :=
  (List.range 32).map fun i => if i % 4 = 0 then ⟨2 * signOf ((0x4B).testBit (i / 4)), 0, 1⟩ else ⟨0, 0, 1⟩

/-- All bins in BPSK, bin 8 + i negative where bit i of 0xD1B5_4A32 is 1. -/
def longPoints : List Point := (List.range 32).map fun i => ⟨signOf ((0xD1B54A32).testBit i), 0, 1⟩

/-- Header bit 31 - i on sub-carrier i, BPSK. -/
def headerPoints (h : Word) : List Point := (List.range 32).map fun i => ⟨signOf (h.getLsbD (31 - i)), 0, 1⟩

/-! Payload coding (R210). -/

/-- Words as bits, bit 31 first, and back. -/
def wordBits (w : Word) : List Bool := (List.range 32).map fun k => w.getLsbD (31 - k)
def bitsWord (bs : List Bool) : Word := BitVec.ofNat 32 (bs.foldl (fun a b => 2 * a + b2n b) 0)

/-- CRC-32 over bits, without reflection: from all ones, complemented. -/
def payloadCrc (bits : List Bool) : Word := BitVec.ofNat 32 (bits.foldl (crcBit 32 0x04C11DB7) 0xFFFFFFFF ^^^ 0xFFFFFFFF)

/-- The bits that are encoded: words, CRC-32, six zeros. -/
def payloadBits (words : List Word) : List Bool :=
  let bits := words.flatMap wordBits
  bits ++ wordBits (payloadCrc bits) ++ List.replicate 6 false

/-- An output of the encoder over the last seven bits, the newest highest (log entry 152). -/
def convOut (gen reg : Nat) : Bool := (List.range 7).foldl (fun a k => a != (gen &&& reg).testBit k) false

/-- The K = 7 code, the 133-octal output first. -/
def convEncode : Nat → List Bool → List Bool
  | _, [] => []
  | reg, b :: bs =>
    let r := reg / 2 + 64 * b2n b
    convOut 0o133 r :: convOut 0o171 r :: convEncode r bs

/-- A symbol's positions from its coded bits: bit j at (j mod 8) B/8 + j div 8; and the coded bits from the positions. -/
def interleave (b : Nat) (bits : List Bool) : List Bool :=
  (List.range b).map fun q => bits[8 * (q % (b / 8)) + q / (b / 8)]?.getD false
def deinterleave {α : Type} (b : Nat) (dflt : α) (xs : List α) : List α :=
  (List.range b).map fun j => xs[j % 8 * (b / 8) + j / 8]?.getD dflt

/-- The payload symbols' points: coded, padded with zeros, interleaved, mapped. -/
def payloadPoints (table : Nat) (words : List Word) : List (List Point) :=
  let b := loadB table
  let coded := convEncode 0 (payloadBits words)
  (List.range (payloadSymbols words.length b)).map fun q => mapPoints (tableCodes table) (interleave b ((coded.drop (b * q)).take b))

/-- All symbols of a packet. -/
def packetPoints (header : Word) (words : List Word) (table : Nat) : List (List Point) :=
  [shortPoints, shortPoints, longPoints, headerPoints header] ++ payloadPoints table words

/-! Transform (R202, R206). -/

/-- 2^15 cos(2 pi k / 128) for k from 0 to 32, rounded down. -/
def quarterWave : List Nat :=
  [32768, 32728, 32610, 32413, 32138, 31785, 31357, 30852, 30273, 29621, 28898, 28106, 27245, 26319, 25330, 24279, 23170,
   22005, 20787, 19519, 18204, 16846, 15446, 14010, 12539, 11039, 9512, 7961, 6392, 4808, 3211, 1607, 0]

/-- The same rounded either way, where it is not whole (log entry 151). -/
def quarterCos (k : Nat) : Int := ((quarterWave[k]?.getD 0 + b2n (k != 0 && k != 32 && Config.cosineUp k) : Nat) : Int)

/-- 2^15 cos(2 pi k / 128) and 2^15 sin(2 pi k / 128). -/
def cosAt (k : Nat) : Int :=
  let r := k % 128
  if r ≤ 32 then quarterCos r else if r ≤ 64 then - quarterCos (64 - r) else if r ≤ 96 then - quarterCos (r - 64) else quarterCos (128 - r)
def sinAt (k : Nat) : Int := cosAt (k + 96)

/-- 2^15 over the square root of 1, 2 or 10 (R206), rounded either way where it is not whole. -/
def rootInverse (den : Nat) : Int :=
  if den = 2 then (23170 + b2n (Config.rootUp 2) : Nat) else if den = 10 then (10362 + b2n (Config.rootUp 10) : Nat) else 32768

/-- Sample n of a symbol, times 2^30: every bin 8 + i with its conjugate at 120 - i. -/
def sampleAt (xs : List Point) (n : Nat) : Int :=
  ((xs.zipIdx).map fun e =>
    2 * (e.1.re * cosAt ((8 + e.2) * n) - e.1.im * sinAt ((8 + e.2) * n)) * rootInverse e.1.den).sum

/-- The 144 samples of a symbol: its last sixteen, then all 128. -/
def symbolSamples (xs : List Point) : List Int := (List.range 144).map fun q => sampleAt xs ((q + 112) % 128)

def packetWave (header : Word) (words : List Word) (table : Nat) : List Int := (packetPoints header words table).flatMap symbolSamples

/-- The RMS of a symbol with all 32 sub-carriers, in the samples' unit: 8 times 2^30. -/
def waveRms : Nat := 2 ^ 33

/-- Bins 8 to 39 of 128 samples. -/
def binsOf (r : List Int) : List (Int × Int) :=
  (List.range 32).map fun i => (((r.zipIdx).map fun e => e.1 * cosAt ((8 + i) * e.2)).sum, - ((r.zipIdx).map fun e => e.1 * sinAt ((8 + i) * e.2)).sum)

/-! The receiver (R217, R218). -/

/-- The short training against the last 128 samples: C, the sum of r^2 and the sum of s^2. -/
def correlate (r : List Int) : Int × Nat × Nat :=
  let s := (List.range 128).map (sampleAt shortPoints)
  (((r.zip s).map fun e => e.1 * e.2).sum, (r.map fun x => (x ^ 2).toNat).sum, (s.map fun x => (x ^ 2).toNat).sum)

/-- rho reaches the threshold, in 1/256; over a sum of 0 there is no correlation. -/
def rhoReaches (thr : Nat) (c : Int × Nat × Nat) : Bool :=
  decide (0 < c.2.1 * c.2.2) && decide (thr ^ 2 * (c.2.1 * c.2.2) ≤ 65536 * (c.1 ^ 2).toNat)

/-- A ratio in 1/256 dB, 0 below 1, its rounding open (log entry 136); over 0 the largest 16-bit value. -/
def ratioDb (place num den : Nat) : Nat :=
  if den = 0 then 0xFFFF else if num < den then 0
  else min 0xFFFF (decibels num den + b2n (10 ^ decibels num den * den ^ 2560 != num ^ 2560 && Config.roundUp place num den))

/-- The preamble's strength: |C|^2 over the sum of s^2, in 1/256 dB relative to 1 LSB^2; samples are in 1/256 LSB. -/
def preambleStrength (c : Int × Nat × Nat) : Nat := ratioDb 4 (c.1 ^ 2).toNat (65536 * c.2.2)

/-- The samples of symbol q of a packet that starts at `start`: the window begins eight samples into the prefix (R218). -/
def symbolWindow (r : Nat → Int) (start q : Nat) : List Int := (List.range 128).map fun k => r (start + 144 * q + 8 + k)

/-! Turning (R218, R228): angles in turns of 2^16, unit vectors in units of 2^30. -/

/-- The unit vectors at the angles 2^k, k from 0 to 15. -/
def bitTurns : List (Int × Int) :=
  [(1073741819, 102944), (1073741804, 205887), (1073741745, 411775), (1073741508, 823550),
   (1073740561, 1647099), (1073736771, 3294193), (1073721611, 6588356), (1073660973, 13176464),
   (1073418433, 26350943), (1072448455, 52686014), (1068571464, 105245103), (1053110176, 209476638),
   (992008094, 410903207), (759250125, 759250125), (0, 1073741824), (-1073741824, 0)]

/-- A vector turned on by a unit vector. -/
def turnOn (z u : Int × Int) : Int × Int := ((z.1 * u.1 - z.2 * u.2) / 2 ^ 30, (z.1 * u.2 + z.2 * u.1) / 2 ^ 30)

/-- The unit vector at an angle: the turns of its bits one after another. -/
def unitAt (a : Int) : Int × Int :=
  (bitTurns.zipIdx).foldl (fun z e => if (a % 65536).toNat.testBit e.2 then turnOn z e.1 else z) (2 ^ 30, 0)

/-- A point turned back by an angle; each part may fall short of its place by a 1,024th of the point's larger part (log entry 151). -/
def turn (a : Int) (z : Int × Int) : Int × Int :=
  let u := unitAt a
  let e := Config.turnShort a z
  let b : Int := (max z.1.natAbs z.2.natAbs / 1024 : Nat)
  ((z.1 * u.1 + z.2 * u.2) / 2 ^ 30 + max (-b) (min b e.1), (z.2 * u.1 - z.1 * u.2) / 2 ^ 30 + max (-b) (min b e.2))

/-- The point lies at or beyond an angle, both in the first quarter turn. -/
def pastAngle (z : Int × Int) (a : Nat) : Bool := decide (0 ≤ z.2 * (unitAt a).1 - z.1 * (unitAt a).2)

/-- The largest angle of 14 bits that a point of the first quarter turn reaches, bit by bit. -/
def quarterAngle (z : Int × Int) : Nat :=
  (List.range 14).foldl (fun a k => if pastAngle z (a + 2 ^ (13 - k)) then a + 2 ^ (13 - k) else a) 0

/-- A point's phase, rounded either way (log entry 151). -/
def phaseOf (z : Int × Int) : Int :=
  if z = (0, 0) then Config.zeroPhase else
  let q := if 0 < z.1 ∧ 0 ≤ z.2 then (0, z) else if z.1 ≤ 0 ∧ 0 < z.2 then (1, (z.2, - z.1))
    else if z.1 < 0 ∧ z.2 ≤ 0 then (2, (- z.1, - z.2)) else (3, (- z.2, z.1))
  ((16384 * q.1 + quarterAngle q.2 + b2n (Config.phaseUp z) : Nat) : Int)

/-- The channel estimate: the long training's bins less its signs. -/
def channelOf (r : Nat → Int) (start : Nat) : List (Int × Int) :=
  ((binsOf (symbolWindow r start 2)).zip longPoints).map fun e => (e.1.1 * e.2.re, e.1.2 * e.2.re)

/-- A bin times the conjugate of its channel. -/
def equalised (y h : Int × Int) : Int × Int := (y.1 * h.1 + y.2 * h.2, y.2 * h.1 - y.1 * h.2)

def power (h : Int × Int) : Int := h.1 ^ 2 + h.2 ^ 2

/-- The header's bits, by H alone. -/
def headerOf (r : Nat → Int) (start : Nat) (h : List (Int × Int)) : Word :=
  bitsWord (((binsOf (symbolWindow r start 3)).zip h).map fun e => decide ((equalised e.1 e.2).1 < 0))

/-- The bits of a 16-QAM axis: thresholds at 0 and at two over the square root of ten, in units of the channel's power. -/
def axisBits (v p : Int) : List Bool :=
  pairBits (if 0 ≤ v then (if 4 * p ^ 2 < 10 * v ^ 2 then 3 else 2) else if 4 * p ^ 2 < 10 * v ^ 2 then 0 else 1)

/-- The hard decision for a point. -/
def decideBits (code : Nat) (z : Int × Int) (p : Int) : List Bool :=
  match code with
  | 1 => [decide (z.1 < 0)]
  | 2 => [decide (z.1 < 0), decide (z.2 < 0)]
  | 3 => axisBits z.1 p ++ axisBits z.2 p
  | _ => []

/-- A sub-carrier of a received symbol: its index, code, equalised point, and channel power. -/
structure Tone where
  index : Nat
  code : Nat
  z : Int × Int
  power : Int

def Tone.bits (t : Tone) : List Bool := decideBits t.code t.z t.power
def Tone.point (t : Tone) : Point := pointOf t.code t.bits

/-- The tones of payload symbol q, turned back by the phase and slope accumulated so far. -/
def symbolTones (codes : List Nat) (r : Nat → Int) (start : Nat) (h : List (Int × Int)) (q : Nat) (fit : Int × Int) : List Tone :=
  (((binsOf (symbolWindow r start (4 + q))).zip h).zip codes).zipIdx.map fun e =>
    ⟨e.2, e.1.2, turn (fit.1 + fit.2 * (8 + e.2 : Nat)) (equalised e.1.1.1 e.1.1.2), power e.1.1.2⟩

/-- The payload's symbols: after each, the phase and slope of its decisions' errors add to the fit (R218). -/
def payloadTones (codes : List Nat) (r : Nat → Int) (start : Nat) (h : List (Int × Int)) : List Nat → Int × Int → List (List Tone)
  | [], _ => []
  | q :: qs, fit =>
    let ts := symbolTones codes r start h q fit
    let d := Config.phaseFit ((ts.filter fun t => t.code != 0).map fun t => (t.index, t.z, (t.point.re, t.point.im)))
    ts :: payloadTones codes r start h qs (fit.1 + d.1, fit.2 + d.2)

/-- The message bits of W words: hard decisions and points, deinterleaved, through the decoder. -/
def decodePayload (table w : Nat) (tones : List (List Tone)) : List Bool :=
  let b := loadB table
  let bits := tones.flatMap fun ts => deinterleave b false (ts.flatMap Tone.bits)
  let points := tones.flatMap fun ts => deinterleave b (0, 0) (ts.flatMap fun t => List.replicate (codeBits t.code) t.z)
  Config.convDecode (points.take (2 * (32 * w + 38))) (bits.take (2 * (32 * w + 38)))

/-- Bits in groups of 32 as words. -/
def bitsWords (n : Nat) (bits : List Bool) : List Word := (List.range n).map fun k => bitsWord ((bits.drop (32 * k)).take 32)

/-- The payload's words, and whether its CRC-32 is good. -/
def payloadOf (table w : Nat) (tones : List (List Tone)) : List Word × Bool :=
  let ws := bitsWords (w + 1) (decodePayload table w tones)
  (ws.take w, ws[w]? == some (payloadCrc ((ws.take w).flatMap wordBits)))

/-! SNR and polarity (R227, R228). -/

/-- Ten times a point's power, in whole units: den is 1, 2 or 10. -/
def tenPower (x : Point) : Nat := (x.re ^ 2 + x.im ^ 2).toNat * (10 / x.den)

/-- The square of a decision's error, times 2^30 and the channel's power squared. -/
def errorPower (t : Tone) : Nat :=
  let k := rootInverse t.point.den * t.power
  ((t.z.1 * 2 ^ 15 - t.point.re * k) ^ 2 + (t.z.2 * 2 ^ 15 - t.point.im * k) ^ 2).toNat

/-- The header symbol's tones, every sub-carrier in BPSK. -/
def headerTones (r : Nat → Int) (start : Nat) (h : List (Int × Int)) : List Tone :=
  ((binsOf (symbolWindow r start 3)).zip h).zipIdx.map fun e => ⟨e.2, 1, equalised e.1.1 e.1.2, power e.1.2⟩

/-- The decision-error SNR of sub-carrier i over a packet, in 1/256 dB (R227): header and payload symbols in which it is active. -/
def carrierSnrOf (tones : List (List Tone)) (i : Nat) : Nat :=
  let ts := tones.flatMap fun xs => xs.filter fun t => t.index == i && t.code != 0
  ratioDb 5 (2 ^ 30 * (ts.map fun t => tenPower t.point * (t.power ^ 2).toNat).sum) (10 * (ts.map errorPower).sum)

/-- Phases without jumps: each step taken as less than half a turn of 2^16. -/
def unwrap : Int → List Int → List Int
  | _, [] => []
  | prev, x :: xs =>
    let y := prev + toSigned 16 (ofSigned 16 (x - prev))
    y :: unwrap y xs

/-- A straight line through the unwrapped phases of bins 8 to 39, at 0 Hz: numerator and denominator, in turns of 2^16 (R228). -/
def phaseIntercept (h : List (Int × Int)) : Int × Nat :=
  let ph := (unwrap 0 (h.map phaseOf)).zipIdx
  let k := fun (e : Int × Nat) => ((8 + e.2 : Nat) : Int)
  let n : Int := ph.length
  let sk := (ph.map k).sum
  let skk := (ph.map fun e => k e ^ 2).sum
  (skk * (ph.map (·.1)).sum - sk * (ph.map fun e => k e * e.1).sum, (n * skk - sk ^ 2).toNat)

/-- Within a quarter turn of half a turn: the raw signal is inverted. -/
def rawInverted (h : List (Int × Int)) : Bool :=
  let q := phaseIntercept h
  let r := 4 * (q.1 % (65536 * (q.2 : Int)))
  decide (65536 * (q.2 : Int) ≤ r) && decide (r ≤ 3 * 65536 * (q.2 : Int))

end Sys2Proof.Machine
end

