-- ==== Sys2Proof/Machine/AsideBase.lean ====
section
/-! DEFINITION. What the aside channel's parts share (chapter 11): a lane's packets waiting, its partner, consent, loadings
and keys. -/

namespace Sys2Proof.Machine

open Sys2Proof

def asideLane (s : State) (n : Nat) : AsideLane := vGet s.aside.lanes n .reset

def setAside (s : State) (n : Nat) (x : AsideLane) : State :=
  { s with aside := { s.aside with lanes := vSet s.aside.lanes n x } }

def asideProfile (s : State) (n : Nat) : Nat := rdE s F.ASD_CTRL_PROFILE n
def asideAuth (s : State) (n : Nat) : Nat := rdE s F.ASD_CTRL_AUTH n

/-- The aside channel runs on a powered line lane whose PROFILE is not OFF (R203), while the system PLL is locked and the
crystal present (R22, R229, R369), and not under rehearsal. -/
def asideRuns (s : State) (n : Nat) : Bool :=
  lanePowered s (lineOf n) && asideProfile s n != 0 && s.time.sysPllLocked && s.time.crystalOk && !rehearsing s 1 n

def partnerUp (s : State) (n : Nat) : Bool := rd s F.ASD_STATUS_UP n == 1

/-- The partner is UP and its last HELLO reports COOPERATIVE (R222). -/
def partnerCoop (s : State) (n : Nat) : Bool := partnerUp s n && rd s F.ASD_STATUS_PARTNER_PROFILE n == 2

def bothCoop (s : State) (n : Nat) : Bool := asideProfile s n == 2 && partnerCoop s n

/-- A packet waits on a lane. -/
def enqueue (s : State) (n : Nat) (o : AsideOut) : State :=
  setAside s n { asideLane s n with queue := (asideLane s n).queue ++ [o] }

/-- A packet that already waits is not queued twice. -/
def enqueueOnce (s : State) (n : Nat) (o : AsideOut) : State :=
  if (asideLane s n).queue.contains o then s else enqueue s n o

/-! Loadings (R208, R210, R227). -/

def rxLoading (s : State) (n : Nat) : Loading :=
  ⟨rd s F.ASD_STATUS_RX_LOAD n, BitVec.ofNat 64 (rd s F.ASD_TABLE_RX_k_TABLE n 0 + rd s F.ASD_TABLE_RX_k_TABLE n 1 * 2 ^ 32)⟩

def txLoading (s : State) (n : Nat) : Loading :=
  ⟨rd s F.ASD_STATUS_TX_LOAD n, BitVec.ofNat 64 (rd s F.ASD_TABLE_TX_k_TABLE n 0 + rd s F.ASD_TABLE_TX_k_TABLE n 1 * 2 ^ 32)⟩

/-- ASD_LOADING_CHANGE (R230). -/
def raiseLoading (s : State) (n : Nat) (tx : Bool) (x : Loading) : State :=
  raiseEvent s (ev 0x8702 (locLine n) (b2n tx + x.id * 2 + loadB x.table.toNat * 2 ^ 5))

/-- Loadings are negotiated when both ends are COOPERATIVE with LOAD_EN = 1 (R223). -/
def negotiates (s : State) (n : Nat) : Bool := bothCoop s n && rdE s F.ASD_CTRL_LOAD_EN n == 1

/-- The receive direction takes a loading. -/
def setRxLoading (s : State) (n : Nat) (x : Loading) : State :=
  if rxLoading s n = x then s else
    let s1 := wr (wr s F.ASD_TABLE_RX_k_TABLE x.table.toNat n 0) F.ASD_TABLE_RX_k_TABLE (x.table.toNat / 2 ^ 32) n 1
    raiseLoading (wr s1 F.ASD_STATUS_RX_LOAD x.id n) n false x

/-- The transmit direction takes a loading. -/
def setTxLoading (s : State) (n : Nat) (x : Loading) : State :=
  if txLoading s n = x then s else
    let s1 := wr (wr s F.ASD_TABLE_TX_k_TABLE x.table.toNat n 0) F.ASD_TABLE_TX_k_TABLE (x.table.toNat / 2 ^ 32) n 1
    raiseLoading (wr s1 F.ASD_STATUS_TX_LOAD x.id n) n true x

/-- A loading is proposed for the receive direction: the proposal outstanding is replaced (R227). -/
def proposeLoading (s : State) (n : Nat) (x : Loading) : State :=
  enqueue (setAside s n { asideLane s n with
    proposed := some x
    lastId := if x.id = 0 then (asideLane s n).lastId else x.id }) n (.loadPropose x.id x.table)

/-! The received stream (R205, R216, R217). -/

/-- When symbol `at_` of a line lane's stream came, in crystal cycles (log entry 151). -/
def streamInstant (s : State) (n at_ : Nat) : Nat := s.time.tick - ((rxRec s (lineOf n)).count - at_) * 50000000 / lineRate s

/-- Sample m of the lane's 40 MS/s stream, in 1/256 ADC LSB before the AGC. -/
def rxSample (s : State) (n m : Nat) : Int := Config.decimate (rxRec s (lineOf n)).sums.reverse m (lineRate s)

/-- The symbol of the lane's stream at which sample m lies. -/
def sampleSymbol (s : State) (n m : Nat) : Nat := (rxRec s (lineOf n)).sumsAt + m * lineRate s / 40000000

/-- The samples of a lane's stream before sample m are not looked at again. -/
def lookFrom (s : State) (n m : Nat) : State :=
  setRxRec s (lineOf n) { rxRec s (lineOf n) with looked := max (rxRec s (lineOf n)).looked m }

/-- The receiver of a lane starts (R203, R229): it looks for preambles from the present sample on. -/
def asideListen (s : State) (n : Nat) : State :=
  lookFrom s n (((rxRec s (lineOf n)).count - (rxRec s (lineOf n)).sumsAt) * 40000000 / lineRate s)

/-! Keys and trailers (R225). -/

/-- The key slot a lane uses, when it is filled: identifier and key. -/
def laneKey (s : State) (n : Nat) : Option (BitVec 8 × BitVec 256) := vGet s.aside.keys (rdE s F.ASD_CTRL_KEY_SLOT n) none

/-- The tag over the header and payload words 0 to W - 3. -/
def packetTag (key : BitVec 256) (p : AsidePacket) : BitVec 64 :=
  Config.hmac64 key (p.header :: p.words.take (p.words.length - 2))

/-- An extended show-clock value (chapter 02). -/
def ShowClock.extended (k : ShowClock) : Nat := k.epoch.toNat * 2 ^ 48 + k.count.toNat

/-! Consent (R222, R224). -/

/-- The gatherer of a lane stops: no set is sent. -/
def stopGather (s : State) (n : Nat) : State :=
  let s1 := wr (setGather s n none) F.LEQ_XA_GATHER_STATE 0 n
  (List.range 8).foldl (fun t k => setAside t k { asideLane t k with
    queue := (asideLane t k).queue.filter fun o => match o with
      | .fragment x _ => x != n
      | _ => true }) s1

/-- This lane or its partner leaves COOPERATIVE (R224). -/
def leaveCoop (s : State) (n : Nat) : State :=
  let s1 := setTxLoading (setRxLoading s n ⟨0, loadZero⟩) n ⟨0, loadZero⟩
  let s2 := stopGather s1 n
  let ids := (asideLane s2 n).answered.map (·.1)
  let s3 := cancelCues s2 (fun c => c.dir == .rx && portOfLine s2 n == some c.port.val && match c.agree with
    | some a => ids.contains a
    | none => false) 4
  xaStop (setAside s3 n { asideLane s3 n with proposed := none, previous := none, results := [] }) n 5

/-- ASD_PARTNER_CHANGE (R230). -/
def raisePartner (s : State) (n : Nat) (idChanged : Bool) : State :=
  raiseEvent s (ev 0x8701 (locLine n) (rd s F.ASD_STATUS_UP n + rd s F.ASD_STATUS_PARTNER_PROFILE n * 2 +
    rd s F.ASD_STATUS_GATHERER n * 8 + b2n idChanged * 16))

/-- The partner ceases to be UP (R222). -/
def partnerDown (s : State) (n : Nat) : State :=
  if partnerUp s n then
    let s1 := if bothCoop s n then leaveCoop s n else s
    raisePartner (wr s1 F.ASD_STATUS_UP 0 n) n false
  else s

/-- No packet has been accepted for PARTNER_TO: the reference strength is forgotten (R221). -/
def refExpire (s : State) (n : Nat) : State :=
  if sinceNs s (asideLane s n).lastOk (rdE s F.ASD_TIMING_PARTNER_TO n * 1000000) then wr s F.ASD_LEVEL_REF 0 n else s

/-- A command in progress completes early with a code. -/
def completeEarly (s : State) (q : InProg) (code : Nat) : State :=
  complete { s with mgmt := { s.mgmt with inProgress := s.mgmt.inProgress.erase q } } q.tag q.opcode q.notify code 0 0 0

/-- The tag of the ASD_SEND whose packet is in flight on a lane. -/
def sendingTag (s : State) (n : Nat) : Option (BitVec 16) :=
  match (asideLane s n).sending with
  | some (.buffer _ tag, _) => tag
  | _ => none

/-- The ASD_SENDs in progress that wait for a lane and that `pick` names complete E_ABORTED (log entry 78). -/
def sendsAbort (s : State) (n : Nat) (pick : BitVec 16 → Bool) : State :=
  (s.mgmt.inProgress.filter fun q => q.opcode == 0x0702 && q.key.testBit n && pick q.tag).foldl
    (fun t q => completeEarly t q stAborted) s

/-- Reception and sending stop at once (R229): a packet in flight is cut, and what it would have answered stays undone. -/
def asideCut (s : State) (n : Nat) : State :=
  let s1 := setAside (wr (wr s F.ASD_STATUS_RX_BUSY 0 n) F.ASD_STATUS_TX_BUSY 0 n) n { asideLane s n with
    rx := none
    sending := none
    wave := [] }
  sendsAbort s1 n fun tag => sendingTag s n == some tag

/-- A lane of the aside channel loses power, or its PROFILE becomes OFF: the reception and what waits end, the partner is
not UP at once; a packet in flight is cut only with the power (R222, R224, R229). -/
def asideOff (s : State) (n : Nat) (cut : Bool) : State :=
  let s1 := partnerDown s n
  let s2 := if cut then asideCut s1 n else
    setAside (wr s1 F.ASD_STATUS_RX_BUSY 0 n) n { asideLane s1 n with rx := none }
  sendsAbort (setAside s2 n { asideLane s2 n with queue := [] }) n fun tag => sendingTag s2 n != some tag

/-- A challenge is sent with a fresh nonce (R226); AUTH_STATE is pending unless it already is VERIFIED. -/
def challenge (s : State) (n : Nat) : State :=
  let s1 := if rd s F.ASD_STATUS_AUTH_STATE n = 2 then s else wr s F.ASD_STATUS_AUTH_STATE 1 n
  enqueueOnce s1 n .challenge

/-- AUTH_STATE changes (R226, R230). -/
def setAuthState (s : State) (n v : Nat) : State :=
  raiseEvent (wr s F.ASD_STATUS_AUTH_STATE v n) (ev 0x8703 (locLine n) v)

end Sys2Proof.Machine
end

