-- ==== Sys2Proof/Machine/Cues.lean ====
section
/-! DEFINITION. The cue commands, agreeing a cue across the fibre, and the house clock's command and latch (R23-R41). -/

namespace Sys2Proof.Machine

open Sys2Proof

/-- The bits of word 10 that R31 gives an action. -/
def actionArg (action : Nat) : Nat :=
  match action with
  | 1 => 0xFFFF
  | 3 => 0x37
  | 4 => 0xFF
  | 5 => 0xF07
  | 6 => 0xFFFFFF
  | 7 => 0xFFFF
  | 8 => 0xFFFF
  | _ => 0

def actionDefined (action : Nat) : Bool := decide (1 ≤ action) && decide (action ≤ 8)

/-- The distance of R30. -/
def triggerAhead (k : ShowClock) (trigger : Nat) : Nat := (trigger + 2 ^ 48 - k.count.toNat) % 2 ^ 48

/-- R30: the trigger lies 1 to 2^47 codewords ahead. -/
def triggerOk (k : ShowClock) (trigger : Nat) : Bool :=
  decide (1 ≤ triggerAhead k trigger) && decide (triggerAhead k trigger ≤ 2 ^ 47)

def freeEntry (s : State) : Option Nat := (List.range 64).find? fun e => cueSlot s e == .free

/-- A LUT_SWAP names a sealed lane (R102). -/
def sealConflict (s : State) (action arg : Nat) : Bool := action == 4 && (bitsSet 8 arg).any (laneSealed s)

/-- CUE_SET's own part (R30, R31, R39, R102). -/
def cueSet (c : Cmd) : State → State × Reply :=
  let w3 := c.w 3
  let p := w3 % 8
  let d := if w3.testBit 3 then Dir.rx else Dir.tx
  let trigger := c.w 4 + c.w 5 * 2 ^ 32
  let period := c.w 6 + c.w 7 * 2 ^ 32
  let action := c.w 8
  let arg := c.w 10
  let named := c.w 2 != 0x7F
  withChecks (fun s =>
      [(!actionDefined action, stParam, 8), (arg &&& (2 ^ 32 - 1 - actionArg action) != 0, stParam, 10),
       (named && decide (63 < c.w 2), stRange, 0),
       (portEnabled s p && !triggerOk (showClock s p d) trigger, stRange, 0),
       (w3.testBit 4 && (period == 0 || decide (2 ^ 47 < period)), stRange, 0),
       (!portEnabled s p, stState, 0), (action == 4 && w3.testBit 3, stState, 0),
       (!named && (freeEntry s).isNone, stNoSpace, 0),
       (named && cueSlot s (c.w 2) != .free, stConflict, 0), (sealConflict s action arg, stConflict, 0)])
    fun s =>
      let e := if named then c.w 2 else (freeEntry s).getD 0
      (setCue s e (.armed
        { port := Fin.ofNat 8 p, dir := d, periodic := w3.testBit 4, notify := w3.testBit 5,
          trigger := BitVec.ofNat 48 trigger, period := BitVec.ofNat 48 period, action := action, arg := arg,
          agree := none, owner := .host }), .done stOK 0 e (showClock s p d).count.toNat)

/-- A one-shot entry ignores words 6 and 7, whatever they hold (R30). -/
def execCueSet (c : Cmd) (s : State) : Host.Outcome State Fault Refusal :=
  .next (hostCmd 0x0801
    [(2, 0x7F), (3, 0x3F), (4, 0xFFFFFFFF), (5, 0xFFFF), (6, 0xFFFFFFFF),
     (7, if (c.w 3).testBit 4 then 0xFFFF else 0xFFFFFFFF), (8, 0xFF), (10, 0xFFFFFFFF)] noGate c (cueSet c) s)

/-- CUE_CANCEL's own part (R39). -/
def cueCancel (c : Cmd) : State → State × Reply :=
  withChecks (fun s => [((armedCue s (c.w 2)).isNone, stState, 0)])
    fun s => (cancelCue s (c.w 2) 1, .done stOK 0 0 0)

def execCueCancel (c : Cmd) (s : State) : Host.Outcome State Fault Refusal :=
  .next (hostCmd 0x0802 [(2, 0x3F)] noGate c (cueCancel c) s)

/-- CUE_READ's own part (R39). -/
def cueRead (c : Cmd) (s : State) : State × Reply :=
  match armedCue s (c.w 2) with
  | some x => (s, .done stOK 0 (1 + x.action * 2 ^ 8 + x.port * 2 ^ 16 + x.dir.bit * 2 ^ 19) x.trigger.toNat)
  | none => (s, .done stOK 0 0 0)

def execCueRead (c : Cmd) (s : State) : Host.Outcome State Fault Refusal :=
  .next (hostCmd 0x0803 [(2, 0x3F)] noGate c (cueRead c) s)

/-! Agreeing (R35). -/

/-- The port's lowest line lane whose aside partner is UP. -/
def agreeLane (s : State) (p : Nat) : Option Nat := (portLines s p).find? (partnerUp s)

/-- The port is UP with a partner that is COOPERATIVE and advertises cue agreement. -/
def agreeReady (s : State) (p : Nat) : Bool :=
  linkState s p == 4 && match agreeLane s p with
    | some n => partnerCoop s n && (rd s F.ASD_PARTNER_INFO_CAPS n).testBit 1
    | none => false

/-- N lies between 2 ms and 2^47 codewords ahead of SC_TX. -/
def agreeRange (s : State) (p trigger : Nat) : Bool :=
  decide (codewordRate s p / 500 ≤ triggerAhead (showClock s p .tx) trigger) &&
    decide (triggerAhead (showClock s p .tx) trigger ≤ 2 ^ 47)

/-- The next agreement identifier, never 0 (log entry 67). -/
def nextAgree (s : State) : BitVec 16 := if s.aside.agreeCount + 1 = 0 then 1 else s.aside.agreeCount + 1

/-- An entry is reserved for a cue on SC_TX and its proposal queued on a lane. -/
def reserveCue (s : State) (e n p : Nat) (epoch : BitVec 16) (trigger : BitVec 48) (action arg : Nat) (owner : CueOwner) :
    State :=
  let id := nextAgree s
  let s1 := { s with aside := { s.aside with agreeCount := id } }
  enqueue (setCue s1 e (.reserved
    { port := Fin.ofNat 8 p, dir := .tx, periodic := false, notify := false, trigger := trigger, period := 0,
      action := action, arg := arg, agree := some id, owner := owner } epoch (Fin.ofNat 8 n))) n (.propose e id)

/-- CUE_AGREE's own part (R35). -/
def cueAgree (c : Cmd) : State → State × Reply :=
  let p := c.w 2
  let trigger := c.w 4 + c.w 5 * 2 ^ 32
  let action := c.w 8
  withChecks (fun s =>
      [(!actionDefined action, stParam, 8), (c.w 10 &&& (2 ^ 32 - 1 - actionArg action) != 0, stParam, 10),
       (portEnabled s p && !agreeRange s p trigger, stRange, 0), (!agreeReady s p, stState, 0),
       ((freeEntry s).isNone, stNoSpace, 0), (sealConflict s action (c.w 10), stConflict, 0)])
    fun s =>
      let e := (freeEntry s).getD 0
      (reserveCue s e ((agreeLane s p).getD 0) p (BitVec.ofNat 16 (c.w 6)) (BitVec.ofNat 48 trigger) action (c.w 10) .host,
        .later e 0)

def execCueAgree (c : Cmd) (s : State) : Host.Outcome State Fault Refusal :=
  .next (hostCmd 0x0804 [(2, 7), (4, 0xFFFFFFFF), (5, 0xFFFF), (6, 0xFFFF), (8, 0xFFFFFFFF), (10, 0xFFFFFFFF)] noGate c
    (cueAgree c) s)

/-- The completion of a refusal's reason (R35). -/
def refusalCode (reason : Nat) : Nat :=
  match reason with
  | 1 => stState
  | 2 => stRange
  | 3 => stNoSpace
  | 4 => stUnsupported
  | _ => stBusy

/-- The reserved entry is armed and a host's command completes; for an adaptation the swap is pending (R35, R112). -/
def agreeAccepted (s : State) (e : Nat) : State :=
  match cueSlot s e with
  | .reserved c _ _ =>
    completeProg (setCue s e (.armed c)) 0x0804 e stOK 0 (c.agree.getD 0).toNat 0
  | _ => s

/-- The reserved entry is freed; a host's command completes with a code, an adaptation stops with reason CONSENT. -/
def agreeFailed (s : State) (e code sub : Nat) : State :=
  match cueSlot s e with
  | .reserved c _ _ =>
    let s1 := setCue s e .free
    match c.owner with
    | .adapt => (bitsSet 8 c.arg).foldl (fun t n => xaStop t n 5) s1
    | _ => completeProg s1 0x0804 e code sub 0 0
  | _ => s

/-- CUE_AGREE_TIMEOUT (R35): 0.5 ms before codeword N no CUE_ACK has arrived. -/
def execCueAgreeTimeout (entry : Fin 64) (s : State) : Host.Outcome State Fault Refusal :=
  .next (agreeFailed s entry stTimeout 0)

/-- CUE_PROPOSE_RESEND (R223). -/
def cueProposeResend (e : Nat) (s : State) : State :=
  match cueSlot s e with
  | .reserved c _ n => enqueueOnce s n (.propose e (c.agree.getD 0))
  | _ => s

def execCueProposeResend (entry : Fin 64) (s : State) : Host.Outcome State Fault Refusal := .next (cueProposeResend entry s)

/-! The house clock (R23, R39, R41). -/

/-- HC_ADJUST's own part. -/
def hcAdjust (c : Cmd) : State → State × Reply :=
  let offset := c.w 2 + c.w 3 * 2 ^ 32
  withChecks (fun s => [(offset.testBit 63 || decide (2 ^ 64 ≤ s.time.hc.toNat + offset), stRange, 0)])
    fun s =>
      let hc := s.time.hc + BitVec.ofNat 64 offset
      (wr { s with time := { s.time with hc := hc, estimated := false } } F.CUE_SC_STATE_HC_ESTIMATED 0,
        .done stOK 0 (hc.toNat % 2 ^ 32) (hc.toNat / 2 ^ 32))

def execHcAdjust (c : Cmd) (s : State) : Host.Outcome State Fault Refusal :=
  .next (hostCmd 0x0805 [(2, 0xFFFFFFFF), (3, 0xFFFFFFFF)] noGate c (hcAdjust c) s)

/-- CUE_LATCH_WRITE: the house clock and the selected show clock are copied on one crystal cycle. -/
def cueLatchWrite (p : Nat) (d : Dir) (s : State) : State :=
  let k := showClock s p d
  let s1 := wr (wr s F.CUE_HC_LO_HC_LO s.time.hc.toNat) F.CUE_HC_HI_HC_HI (s.time.hc.toNat / 2 ^ 32)
  wr (wr (wr s1 F.CUE_SC_LO_COUNT_LO k.count.toNat) F.CUE_SC_HI_EPOCH k.epoch.toNat) F.CUE_SC_HI_COUNT_HI
    (k.count.toNat / 2 ^ 32)

def execCueLatchWrite (port : Fin 8) (d : Dir) (s : State) : Host.Outcome State Fault Refusal :=
  .next (cueLatchWrite port d s)

end Sys2Proof.Machine
end

