-- ==== Sys2Proof/Machine/LineTx.lean ====
section
/-! DEFINITION. The line transmitter (chapter 06): swing, training burst, lookup banks, and cross-link adaptation on both
sides of a fibre. -/

namespace Sys2Proof.Machine

open Sys2Proof

/-! Swing (R99). -/

def lineTx (s : State) (n : Nat) : LineTx := vGet s.lanes.tx n ⟨[], none⟩

def setLineTx (s : State) (n : Nat) (x : LineTx) : State := { s with lanes := { s.lanes with tx := vSet s.lanes.tx n x } }

/-- SWING_STEP (R99): NOW moves one step toward SWING, at least 1 microsecond after the step before. -/
def swingStep (n : Nat) (s : State) : State :=
  let now := rd s F.LTX_SWING_NOW n
  let goal := rdE s F.LTX_SWING_SWING n
  if laneRuns s (lineOf n) ∧ now ≠ goal ∧ sinceNs s (lineTx s n).swingLast 1000 then
    wr (setLineTx s n { lineTx s n with swingLast := some s.time.tick }) F.LTX_SWING_NOW
      (if now < goal then now + 1 else now - 1) n
  else s

def execSwingStep (lane : Fin 8) (s : State) : Host.Outcome State Fault Refusal := .next (swingStep lane s)

/-! Lookup banks (R101, R102, R116, R363). -/

/-- The bank index of lookup bank b of lane n (R355), and the word of an entry (R101). -/
def lutBank (n b : Nat) : Nat := 12 + 2 * n + b
def lutWord (e : Nat) : Nat := e / 6

/-- The words of entries first to first + count - 1. -/
def lutWords (first count : Nat) : List Nat :=
  if count = 0 then [] else (List.range (lutWord (first + count - 1) + 1 - lutWord first)).map (lutWord first + ·)

def lutGet (s : State) (n b e : Nat) : Int := (aGet (lineTx s n).lut (65536 * b + e)).getD 0

/-- MEM_LUT_STATUS.RETRAIN: the lookup banks with a word cleared and not written since. -/
def retrainShow (s : State) : State :=
  wr s F.MEM_LUT_STATUS_RETRAIN (maskOf 16 fun k => s.mem.retrain.any fun e => e.1 == 12 + k)

/-- Entries are written; their words' codes are fresh (R358). -/
def lutPut (s : State) (n b first : Nat) (vs : List Int) : State :=
  let x := lineTx s n
  let lut := (vs.zipIdx).foldl (fun m e => if e.1 = 0 then aDel m (65536 * b + first + e.2)
    else aSet m (65536 * b + first + e.2) e.1) x.lut
  let ws := lutWords first vs.length
  let s1 := bankWrittenAll (setLineTx s n { x with lut := lut }) (lutBank n b) ws
  retrainShow { s1 with mem := { s1.mem with retrain := s1.mem.retrain.filter fun e => !(e.1 == lutBank n b && ws.contains e.2) } }

/-- The whole bank gets new contents: every word is written. -/
def lutReplace (s : State) (n b : Nat) (val : Nat → Int) : State :=
  let x := lineTx s n
  let other := x.lut.filter fun e => e.1 / 65536 != b
  let mine := (List.range 65536).filterMap fun e => if val e = 0 then none else some (65536 * b + e, val e)
  let lut := if b = 0 then mine ++ other else other ++ mine
  let k := lutBank n b
  let s1 := setBank (setLineTx s n { x with lut := lut }) k { bankOf s k with
    valid := List.range 10923
    errs := []
    poison := [] }
  retrainShow { s1 with mem := { s1.mem with retrain := s1.mem.retrain.filter fun e => e.1 != k } }

/-- LTX_LUT_CLEAR clears the valid bits of a bank's words and writes nothing else (R358). -/
def lutClear (s : State) (n b : Nat) : State :=
  let x := lineTx s n
  let k := lutBank n b
  setBank (setLineTx s n { x with lut := x.lut.filter fun e => e.1 / 65536 != b }) k { bankOf s k with valid := [] }

/-- A lookup word is lost: its valid bit is cleared, so that its six entries read 0, and RETRAIN sets (R363). -/
def lutLost (s : State) (n b w : Nat) : State :=
  let x := lineTx s n
  let s1 := setLineTx s n { x with lut := x.lut.filter fun e => !(e.1 / 65536 == b && e.1 % 65536 / 6 == w) }
  retrainShow { bankInvalid s1 (lutBank n b) w with mem := { (bankInvalid s1 (lutBank n b) w).mem with
    retrain := s1.mem.retrain ++ [(lutBank n b, w)] } }

/-- A functional read of lookup words. -/
def lutRead (s : State) (n b : Nat) (ws : List Nat) : State :=
  ws.foldl (fun t w => let r := eccRead t (lutBank n b) w
    if r.2 then lutLost r.1 n b w else r.1) s

/-- A read of a whole bank: words whose stored bits stand as written read clean and change nothing. -/
def lutReadAll (s : State) (n b : Nat) : State :=
  let k := bankOf s (lutBank n b)
  lutRead s n b ((List.range 10923).filter fun w => (aGet k.errs w).isSome || k.poison.contains w)

/-- Two entries a word, the lower index in [31:16]. -/
def lutEntries (ws : List Nat) (count : Nat) : List Nat := (ws.flatMap fun w => [w / 2 ^ 16, w % 2 ^ 16]).take count

/-- An entry as the bulk area holds it: bits [15:10] repeat bit 9 (R116). -/
def entryOk (e : Nat) : Bool := e == ofSigned 16 (toSigned 10 e)

def lutPack : List Nat → List Nat
  | [] => []
  | [a] => [a * 2 ^ 16]
  | a :: b :: r => (a * 2 ^ 16 + b) :: lutPack r

/-- LTX_LUT_WRITE's own part. -/
def ltxLutWrite (c : Cmd) (s : State) : State × Reply :=
  let n := c.w 2
  let first := c.w 3
  let count := c.w 4
  let bad := count == 0 || decide (65536 < count) || decide (65536 < first + count) || bulkBad s (c.w 5) (2 * count)
  let r := if bad || c.w 5 % 4 != 0 then (s, []) else fetchWords s (windowBase + c.w 5) ((count + 1) / 2)
  let es := lutEntries r.2 count
  withChecks (fun t =>
      [(c.w 5 % 4 != 0 || !es.all entryOk, stParam, 5), (bad, stRange, 0), (retained t 12, stState, 0),
       (laneSealed t n || rehearsing t 1 n, stBusy, 0), ((xaRun t n).isSome, stConflict, 0)])
    (fun t => (lutPut t n (shadowBank t n) first (es.map (toSigned 10 ·)), .done stOK 0 0 0)) r.1

def execLtxLutWrite (c : Cmd) (s : State) : Host.Outcome State Fault Refusal :=
  .next (hostCmd 0x0320 [(2, 7), (3, 0xFFFF), (4, 0xFFFFFFFF), (5, 0xFFFFFFFF)] noGate c (ltxLutWrite c) s)

/-- LTX_LUT_READ's own part. -/
def ltxLutRead (c : Cmd) : State → State × Reply :=
  let n := c.w 2
  let first := c.w 4
  let count := c.w 5
  withChecks (fun s =>
      [(c.w 6 % 4 != 0, stParam, 6),
       (count == 0 || decide (65536 < count) || decide (65536 < first + count) || bulkBad s (c.w 6) (2 * count), stRange, 0),
       (retained s 12, stState, 0)])
    fun s =>
      let b := if c.w 3 = 0 then activeBank s n else shadowBank s n
      let t := lutRead s n b (lutWords first count)
      (bulkWords t (c.w 6) (lutPack ((List.range count).map fun k => ofSigned 16 (lutGet t n b (first + k)))),
        .done stOK 0 (2 * count) 0)

def execLtxLutRead (c : Cmd) (s : State) : Host.Outcome State Fault Refusal :=
  .next (hostCmd 0x0321 [(2, 7), (3, 1), (4, 0xFFFF), (5, 0xFFFFFFFF), (6, 0xFFFFFFFF)] noGate c (ltxLutRead c) s)

/-- LTX_LUT_CLEAR's own part (R358). -/
def ltxLutClear (c : Cmd) : State → State × Reply :=
  let n := c.w 2
  withChecks (fun s =>
      [(retained s 12, stState, 0), (laneSealed s n || rehearsing s 1 n, stBusy, 0), ((xaRun s n).isSome, stConflict, 0)])
    fun s => (lutClear s n (shadowBank s n), .done stOK 0 0 0)

def execLtxLutClear (c : Cmd) (s : State) : Host.Outcome State Fault Refusal :=
  .next (hostCmd 0x0322 [(2, 7)] noGate c (ltxLutClear c) s)

/-! Cross-link adaptation, the transmitting side (R111-R115). -/

/-- Codewords in 2 ms of a port. -/
def leadCodewords (s : State) (p : Nat) : Nat := codewordRate s p / 500

/-- The earliest M: 2 ms ahead of SC_TX, and 16 cue ticks after the last swap (R112 step 1). -/
def xaWindow (s : State) (p : Nat) (x : XaRun) : BitVec 48 :=
  let lead := (showClock s p .tx).count + BitVec.ofNat 48 (leadCodewords s p)
  match x.lastSwap with
  | none => lead
  | some w =>
    let guard := w + 65536
    if (guard - lead).toNat < 2 ^ 47 then guard else lead

/-- Mexis sends a request (R112 step 1). -/
def xaRequest (s : State) (n : Nat) (x : XaRun) : State :=
  match portOfLine s n with
  | none => s
  | some p =>
    let m := xaWindow s p x
    let s1 := wr (setXa s n (some { x with phase := .gather, m := m, frags := [] })) F.LTX_XA_STATUS_STATE 1 n
    enqueue s1 n (.request (n - p) m (triggerClock (showClock s p .tx) m).epoch x.len)

/-- A set did not come whole, or is INVALID (R112 step 2). -/
def xaFail (s : State) (n : Nat) (x : XaRun) : State :=
  if x.fails + 1 = 3 then xaStop s n 6 else xaRequest s n { x with fails := x.fails + 1 }

/-- A cue that swaps lane n on the port's SC_TX 2 ms ahead. -/
def swapTrigger (s : State) (p : Nat) : BitVec 48 := (showClock s p .tx).count + BitVec.ofNat 48 (leadCodewords s p)

def setRevertDue (s : State) (n : Nat) (b : Bool) : State := { s with lanes := { s.lanes with revertDue := vSet s.lanes.revertDue n b } }

/-- The table that was active at XA_START is written to the shadow bank and its swap armed (R115); while no cue entry is free or the bank
is sealed, the revert waits (log entry 155). -/
def xaRevert (s : State) (n : Nat) : State :=
  match portOfLine s n, vGet s.lanes.xaStart n none, freeEntry s with
  | some p, some table, some e =>
    if laneSealed s n then setRevertDue s n true
    else
      setCue (setRevertDue (lutReplace s n (shadowBank s n) fun k => (aGet table k).getD 0) n false) e (.armed
        { port := Fin.ofNat 8 p, dir := .tx, periodic := false, notify := false, trigger := swapTrigger s p, period := 0,
          action := 4, arg := 2 ^ n, agree := none, owner := .revert })
  | _, some _, _ => setRevertDue s n true
  | _, none, _ => s

/-- A revert that waits is tried again. -/
def revertRetry (s : State) (n : Nat) : State := if vGet s.lanes.revertDue n false then xaRevert s n else s

/-- CNT_LOG and mean of a set's entry (R110). -/
def entryLog (e : Nat) : Nat := e % 16
def entryWeight (e : Nat) : Nat := if 8 ≤ entryLog e then 2 ^ (entryLog e - 1) else 0

/-! The fit of R113 step 2, exact: determinants of integer matrices. -/

/-- A mean of the set, in 1/4 y-LSB. -/
def entryMean (e : Nat) : Int := toSigned 12 (e / 16)

/-- The regressors of a context: 1, and its five levels from i = -2 on. -/
def contextLevels (c : Nat) : List Int := 1 :: [c / 256 % 4, c / 64 % 4, c / 16 % 4, c / 4 % 4, c % 4].map levelOf

/-- The determinant of n rows, by the first. -/
def det : Nat → List (List Int) → Int
  | 0, _ => 1
  | _ + 1, [] => 1
  | n + 1, row :: rest =>
    (row.zipIdx.map fun e => (if e.2 % 2 = 0 then 1 else -1) * e.1 * det n (rest.map (·.eraseIdx e.2))).sum

/-- A weighted sum over the contexts. -/
def contextSum (entries : List Nat) (f : Nat → Nat → Int) : Int :=
  (entries.zipIdx.map fun e => if entryWeight e.1 = 0 then 0 else (entryWeight e.1 : Int) * f e.1 e.2).sum

/-- The normal equations' matrix and right side. -/
def fitMatrix (entries : List Nat) : List (List Int) :=
  (List.range 6).map fun i => (List.range 6).map fun j =>
    contextSum entries fun _ c => atI (contextLevels c) i * atI (contextLevels c) j
def fitRight (entries : List Nat) : List Int :=
  (List.range 6).map fun i => contextSum entries fun e c => atI (contextLevels c) i * entryMean e

/-- The fit's coefficients as numerators, and their denominator (Cramer's rule). -/
def fitOf (entries : List Nat) : List Int × Int :=
  let m := fitMatrix entries
  let b := fitRight entries
  ((List.range 6).map fun k => det 6 ((m.zip b).map fun e => e.1.set k e.2), det 6 m)

/-- num / den rounded convergently to an integer as a computation in double precision does: within 2^-20 of a tie its side is open (log
entry 147). -/
def doubleRound (free : Nat) (num : Int) (den : Nat) : Int :=
  let r := num % (den : Int)
  if (2 * r - den).natAbs * 2 ^ 20 < den then num / (den : Int) + b2n (Config.freeBool free) else roundConv num den

/-- The residuals of the 1,024 contexts, rounded to 1/4 y-LSB (R113 step 2); where the weights leave the fit undetermined the spec states
none (log entry 71). -/
def xaResidual (free : Nat) (entries : List Nat) : List Int :=
  let q := fitOf entries
  entries.zipIdx.map fun e =>
    if q.2 ≤ 0 then toSigned 13 (Config.freeNat (free + e.2))
    else doubleRound (free + e.2) (q.2 * entryMean e.1 - ((q.1.zip (contextLevels e.2)).map fun x => x.1 * x.2).sum) q.2.toNat

/-- The squared RMS as a fraction (R113); with no weight at all the spec states no value (log entry 71). -/
def xaRms (free : Nat) (entries : List Nat) (residual : List Int) : Nat × Nat :=
  let ws := entries.map entryWeight
  let num := (ws.zip residual).foldl (fun a e => a + e.1 * (e.2 * e.2).toNat) 0
  if ws.sum = 0 then (Config.freeNat free ^ 2, 1) else (num, ws.sum)

/-- a/b is at most c/d. -/
def fracLe (a b : Nat × Nat) : Bool := decide (a.1 * b.2 ≤ b.1 * a.2)

/-- Integer square root by descent from a bound. -/
def rootBelow (x : Nat) : Nat → Nat
  | 0 => 0
  | k + 1 => if (k + 1) * (k + 1) ≤ x then k + 1 else rootBelow x k

/-- The RMS as reported, saturating at 255: its rounding is open (log entry 71). -/
def rmsShown (free : Nat) (q : Nat × Nat) : Nat :=
  let r := rootBelow (q.1 / q.2) 255
  if 255 ≤ r ∨ r * r * q.2 = q.1 then r else r + b2n (Config.freeBool free)

/-- RMS rose over three consecutive sets: each of the last three stood above the one before it. -/
def rmsRising : List (Nat × Nat) → Bool
  | a :: b :: c :: d :: _ => !fracLe a b && !fracLe b c && !fracLe c d
  | _ => false

/-- Delta of a context (R113 step 3); with LEVEL_A = 0 the spec states no value. -/
def xaDelta (s : State) (free n levelA mu c : Nat) (r : Int) : Int :=
  if levelA = 0 then toSigned 11 (Config.freeNat (free + c))
  else - roundConv (r * toSigned 10 (rdE s F.LTX_FIR_j_TAP n (rdE s F.LTX_CTRL_MAIN n))) (4 * levelA * 2 ^ mu)

/-- The update of R113 step 3 is written to the shadow bank (R112 step 3): every entry of the active bank is read, and moves by the delta of
its context. -/
def xaWrite (s : State) (free n : Nat) (x : XaRun) (residual : List Int) : State :=
  let active := activeBank s n
  let s1 := lutReadAll s n active
  lutReplace s1 n (1 - active) fun k =>
    satI 10 (lutGet s1 n active k + xaDelta s1 free n x.levelA x.mu (k / 16 % 1024) (residual[k / 16 % 1024]?.getD 0))

/-- The swap of the update is agreed (R112 step 4). -/
def xaAgree (s : State) (n : Nat) (x : XaRun) : State :=
  match portOfLine s n, freeEntry s with
  | some p, some e =>
    if agreeReady s p then
      let s1 := wr (setXa s n (some { x with phase := .swap })) F.LTX_XA_STATUS_STATE 3 n
      reserveCue s1 e ((agreeLane s1 p).getD n) p (triggerClock (showClock s1 p .tx) (swapTrigger s1 p)).epoch
        (swapTrigger s1 p) 4 (2 ^ n) .adapt
    else xaStop s n 5
  | _, _ => xaStop s n 5

/-- The update is written and its swap agreed (R112 steps 3 and 4). A sealed shadow bank takes no write (R102), and its lane no swap. -/
def xaUpdate (s : State) (free n : Nat) (x : XaRun) (residual : List Int) : State :=
  if laneSealed s n then xaStop s n 5 else xaAgree (xaWrite s free n x residual) n x

/-- A whole set has arrived (R112 steps 2 to 4, R113, R114). XA_ITERATION comes with every valid set, also one that brings no update: R116
does not say when (log entry 186). -/
def xaSet (s0 : State) (n : Nat) (x0 : XaRun) : State :=
  if x0.flags % 2 = 1 then xaFail s0 n x0 else
  let free := s0.freeCount
  let s := { s0 with freeCount := free + 2049 }
  let entries := (List.range 16).flatMap fun f => (aGet x0.frags f).getD []
  let residual := xaResidual (free + 1) entries
  let rms := xaRms free entries residual
  let shown := rmsShown free rms
  let low := fracLe rms (x0.done ^ 2, 1)
  let x := { x0 with
    fails := 0
    rms := (rms :: x0.rms).take 4
    good := if low then x0.good + 1 else if x0.track && decide (2 ≤ x0.good) then x0.good else 0 }
  let s1 := raiseEvent (wr (setXa s n (some x)) F.LTX_XA_STATUS_RMS (min 255 shown) n)
    (ev 0x8321 (locLine n) (min 255 (x.swaps + 1) + min 255 shown * 2 ^ 8))
  if x.track = false ∧ 2 ≤ x.good then xaStop s1 n 1
  else if rmsRising x.rms = true ∧ low = false then xaRevert (xaStop s1 n 3) n
  else xaUpdate (wr s1 F.LTX_XA_STATUS_STATE 2 n) (free + 1025) n x residual

/-- The swap of an adaptation has landed at codeword N (R112 step 5, R114). -/
def xaLanded (s : State) (n : Nat) (trigger : BitVec 48) : State :=
  match xaRun s n with
  | none => s
  | some x0 =>
    let x := { x0 with swaps := x0.swaps + 1, lastSwap := some trigger }
    let s1 := wr (setXa s n (some x)) F.LTX_XA_STATUS_ITER (min 255 x.swaps) n
    if x.track = false ∧ x.maxIter ≤ x.swaps then xaStop s1 n 2
    else if x.track = true ∧ 2 ≤ x.good then
      wr (setXa s1 n (some { x with phase := .trackWait })) F.LTX_XA_STATUS_STATE 4 n
    else xaRequest s1 n x

/-- The lane of a command's mask that has finished its revert; XA_STOP completes with the last (R115). -/
def revertLanded (s : State) (n : Nat) : State := maskProgress s 0x0324 n false fun _ => 0

/-- The active table is kept as XA_START finds it, read entry by entry (R115, R357). -/
def xaKeep (s0 : State) (n : Nat) : State :=
  let b := activeBank s0 n
  let s := lutReadAll s0 n b
  let table := (lineTx s n).lut.filterMap fun e => if e.1 / 65536 = b then some (e.1 % 65536, e.2) else none
  { s with lanes := { s.lanes with xaStart := vSet s.lanes.xaStart n (some table) } }

/-- XA_START's own part (R111, R116). -/
def xaStartCmd (c : Cmd) : State → State × Reply :=
  let lanes := bitsSet 8 (c.w 2)
  let mu := c.w 3 / 16
  withChecks (fun s =>
      let blocked := fun n => match portOfLine s n with
        | none => true
        | some p => !agreeReady s p || asideProfile s n != 2 || !partnerCoop s n
      [(decide (4 < mu) || decide (c.w 4 < 16) || decide (4096 < c.w 4) || c.w 6 == 0 || c.w 7 == 0 || decide (3600 < c.w 7),
          stRange, 0),
       (lanes.any blocked || (!lanes.isEmpty && (freeEntry s).isNone), stState, 0), (lanes.any fun n => rehearsing s 1 n, stBusy, 0),
       (lanes.any fun n => (xaRun s n).isSome || laneSealed s n, stConflict, 0),
       (lanes.any fun n => rd s F.ASD_STATUS_GATHERER n == 0, stUnsupported, 0)])
    fun s => (lanes.foldl (fun t n =>
      let t1 := xaKeep t n
      let t2 := wr (wr (wr t1 F.LTX_XA_STATUS_ITER 0 n) F.LTX_XA_STATUS_REASON 0 n) F.LTX_XA_STATUS_RMS 0 n
      xaRequest t2 n { track := (c.w 3).testBit 0, mu := mu, len := c.w 4, done := c.w 5, maxIter := c.w 6, period := c.w 7,
                       phase := .gather, swaps := 0, fails := 0, rms := [], good := 0, m := 0, lastSwap := none, levelA := 0,
                       flags := 0, frags := [] }) s, .done stOK 0 0 0)

def execXaStart (c : Cmd) (s : State) : Host.Outcome State Fault Refusal :=
  .next (hostCmd 0x0323 [(2, 0xFF), (3, 0x71), (4, 0xFFFF), (5, 0xFFFF), (6, 0xFF), (7, 0xFFFF)] noGate c (xaStartCmd c) s)

/-- XA_STOP's own part (R114 code 4, R115): with REVERT it completes when the last lane's swap lands. -/
def xaStopCmd (c : Cmd) : State → State × Reply :=
  let lanes := bitsSet 8 (c.w 2)
  let revert := c.w 3 == 1
  withChecks (fun s =>
      [(lanes.any fun n => if revert then (vGet s.lanes.xaStart n none).isNone || (portOfLine s n).isNone else (xaRun s n).isNone,
          stState, 0)])
    fun s =>
      let s1 := lanes.foldl (fun t n => xaStop t n 4) s
      if revert && !lanes.isEmpty then (lanes.foldl xaRevert s1, .later (c.w 2) 0) else (s1, .done stOK 0 0 0)

def execXaStop (c : Cmd) (s : State) : Host.Outcome State Fault Refusal :=
  .next (hostCmd 0x0324 [(2, 0xFF), (3, 1)] noGate c (xaStopCmd c) s)

/-- XA_STATS_TIMEOUT (R112 step 2): 20 ms after M + L the fragments are not all there. -/
def xaStatsTimeout (n : Nat) (s : State) : State :=
  match xaRun s n with
  | some x => if x.phase = .gather then xaFail s n x else s
  | none => s

def execXaStatsTimeout (lane : Fin 8) (s : State) : Host.Outcome State Fault Refusal := .next (xaStatsTimeout lane s)

/-- XA_TRACK_TIMER (R114). -/
def xaTrackTimer (n : Nat) (s : State) : State :=
  match xaRun s n with
  | some x => if x.phase = .trackWait then xaRequest s n x else s
  | none => s

def execXaTrackTimer (lane : Fin 8) (s : State) : Host.Outcome State Fault Refusal := .next (xaTrackTimer lane s)

/-! The partner's side (R109, R110). -/

/-- An entry of the set from a sum and a count: signed 40 and unsigned 24 bits, saturating. -/
def statEntry (sum : Int) (count : Nat) : Nat :=
  let k := min (2 ^ 24 - 1) count
  if k = 0 then 0 else ofSigned 12 (satI 12 (roundConv (4 * satI 40 sum) k)) * 16 + min 15 (1 + Nat.log2 k)

/-- XA_GATHER_WINDOW_END (R109, R110): SC_RX has passed the request's window; the set is complete. The sixteen fragments go out on the
transmit lane of the same logical number. -/
def xaGatherWindowEnd (n : Nat) (s : State) : State :=
  match gatherOf s n, portOfLine s n with
  | some g, some p =>
    if g.set.isSome ∨ rd s F.LEQ_XA_GATHER_STATE n ≠ 2 ∨ ((showClock s p .rx).count - g.m).toNat < 4096 * g.len then s else
    let set : StatSet := { m := g.m, epoch := g.epoch, len := g.len, flags := g.flags, total := g.total,
                           levelA := eqLevelA s (lineOf n), det := b2n (eqDet s (lineOf n)),
                           entries := (List.range 1024).map fun c => let e := (aGet g.sums c).getD (0, 0)
                             statEntry e.1 e.2 }
    let s1 := setGather s n (some { g with set := some set })
    let s2 := wr (wr s1 F.LEQ_XA_GATHER_STATE 3 n) F.LEQ_XA_GATHER_INVALID (g.flags % 2) n
    let out := p + (logicalOf s2 p n).getD 0
    (List.range 16).foldl (fun t f => enqueue t out (.fragment n f)) s2
  | _, _ => s

def execXaGatherWindowEnd (lane : Fin 8) (s : State) : Host.Outcome State Fault Refusal := .next (xaGatherWindowEnd lane s)

/-- What makes a window INVALID by its level (R109). -/
def gatherLevels (s : State) (n : Nat) : State :=
  gatherMark s (lineOf n) (b2n (laneLos s (lineOf n)) * 2 + b2n (laneLol s (lineOf n)) * 4 + b2n (!(eqRec s (lineOf n)).dd) * 8)

/-- The gatherers of a port's lanes start as SC_RX reaches M, counted or freewheeling (R109). -/
def gatherFollow (s : State) (p : Nat) : State :=
  (portLines s p).foldl (fun t n => match gatherOf t n with
    | some g => if g.set.isNone ∧ rd t F.LEQ_XA_GATHER_STATE n = 1 ∧ ((showClock t p .rx).count - g.m).toNat < 4096 * g.len then
        gatherLevels (wr t F.LEQ_XA_GATHER_STATE 2 n) n else t
    | none => t) s

end Sys2Proof.Machine
end

