-- ==== Sys2Proof/Machine/MemOps.lean ====
section
/-! DEFINITION. Stored-data memories (chapter 18): the scrubber, hard-fault candidates, remaps, the owners' actions on
uncorrectable words, and the memory commands. -/

namespace Sys2Proof.Machine

open Sys2Proof

/-- A management reset falls due (R401, R407); one already due stands, and a WARM reset that is due takes its place (R403). -/
def requestMgmt (s : State) (cause : Nat) : State :=
  if s.power.warmPending || s.mgmt.restartCause.isSome then s
  else { s with mgmt := { s.mgmt with restartCause := some cause } }

/-! Owners' actions (R363). -/

/-- The words of a flow bank's bucket or context that a word belongs to. -/
def bucketOfWord (k a : Nat) : Nat := a / 4 * 16 + (k - 28)
def ctxOfWord (k a : Nat) : Nat := a / 4 * 16 + (k - 44)

/-- The bucket that holds a context. -/
def bucketOfCtx (s : State) (c : Nat) : Option Nat := (s.obs.buckets.find? fun e => e.2.valid && e.2.ctx == c).map (·.1)

/-- What the owner of an uncorrectable word does (R363). The ring window's zero and the snapshot's INVALID mark are part of the
reads (winRead, bankHeader); the prompt book's readers pass poisoned records over. -/
def ownerAction (s : State) (k a : Nat) : State :=
  if k < 8 then requestMgmt s 4
  else if k = 10 then calSetLost s a
  else if k = 11 then { s with sec := { s.sec with cache := none } }
  else if 12 ≤ k ∧ k < 28 then lutLost s ((k - 12) / 2) ((k - 12) % 2) a
  else if 28 ≤ k ∧ k < 44 then flowLost s (bucketOfWord k a)
  else if 44 ≤ k ∧ k < 60 then
    match bucketOfCtx s (ctxOfWord k a) with
    | some b => flowLost s b
    | none => s
  else if k = 60 then { s with obs := { s.obs with
    counters := aSet s.obs.counters a 0
    invalid := s.obs.invalid ++ [a] } }
  else if k = 63 then bankInvalid { s with ctl := { s.ctl with
    coefs := s.ctl.coefs.filter fun e => e.1 / 4 != a } } 63 a
  else s

/-! Remaps (R362). -/

def remapped (s : State) (k a : Nat) : Bool := (bankOf s k).remaps.any (·.addr == a)
def remapFull (s : State) (k : Nat) : Bool := decide (8 ≤ (bankOf s k).remaps.length)

/-- The read with correction that begins a remap (R357, R362): an uncorrectable word is found as by any other read. -/
def remapRead (s : State) (k a : Nat) : State :=
  let r := eccRead s k a
  if r.2 && !isPoisoned s k a then ownerAction r.1 k a else r.1

/-- A remap is installed: the spare takes the word as read with the valid and poison bits, so that the stored errors are gone;
the eighth entry raises REMAP_FULL. -/
def installRemap (s : State) (k a : Nat) (command : Bool) : State :=
  let b := bankOf s k
  let s1 := setBank s k { b with
    errs := aDel b.errs a
    remaps := b.remaps ++ [⟨a⟩]
    tracker := b.tracker.filter (·.addr != a) }
  let used := b.remaps.length + 1
  let s2 := raiseEvent s1 (ev 0x8A03 (locBank k) a (b2n command + used * 2 ^ 8))
  if used = 8 then raiseEvent s2 (ev 0x8A04 (locBank k) a) else s2

/-- A word becomes a hard-fault candidate (R361, R437): raised; with AUTO_REMAP, and a free entry, a remap waits for two idle
cycles. A word whose poison bit is set is not taken. -/
def hardCandidate (s : State) (k a bit : Nat) : State :=
  let auto := rd s F.MEM_CTRL_AUTO_REMAP == 1 && !remapFull s k && !remapped s k a && !(bankOf s k).poison.contains a &&
    !s.mem.candidates.contains (k, a)
  let s1 := raiseEvent s (ev 0x8A02 (locBank k) a (bit + b2n auto * 2 ^ 8))
  if auto then { s1 with mem := { s1.mem with candidates := s1.mem.candidates ++ [(k, a)] } } else s1

/-- REMAP_INSTALL: two idle cycles of the bank's macro; the first candidate of the bank is installed. -/
def remapInstall (k : Nat) (s : State) : State :=
  match s.mem.candidates.find? (·.1 == k) with
  | none => s
  | some c =>
    let s1 := remapRead { s with mem := { s.mem with candidates := s.mem.candidates.filter (· != c) } } k c.2
    if remapFull s1 k || remapped s1 k c.2 || (bankOf s1 k).poison.contains c.2 then s1 else installRemap s1 k c.2 false

def execRemapInstall (bank : Fin 64) (s : State) : Host.Outcome State Fault Refusal := .next (remapInstall bank s)

/-! The scrubber (R359-R361). -/

/-- The tracker after a CORR_1 at a bit: the word's entry is confirmed and moves to the end, or is freed and made anew; a new
one replaces the entry least recently confirmed of a full tracker. The answer gives the count of passes. -/
def trackCorr1 (ts : List Tracked) (a bit : Nat) : List Tracked × Nat :=
  let others := ts.filter (·.addr != a)
  match ts.find? fun t => t.addr == a && t.bit == bit with
  | some t => (others ++ [⟨a, bit, t.passes + 1⟩], t.passes + 1)
  | none => ((if others.length < 16 then others else others.drop 1) ++ [⟨a, bit, 1⟩], 1)

def setTracker (s : State) (k : Nat) (ts : List Tracked) : State := setBank s k { bankOf s k with tracker := ts }

/-- The tracker's entry of a word is freed. -/
def untrack (s : State) (k a : Nat) : State := setTracker s k ((bankOf s k).tracker.filter (·.addr != a))

/-- The scrubber's reading of one word: none, tracked, written back, or poisoned by outcome (R359). Where a functional write of the word
falls in a cycle of the write-back, the write-back is abandoned uncounted (R360); that write is a command of its own. -/
def scrubRead (s : State) (k a : Nat) (raced : Bool) : State :=
  if isPoisoned s k a then untrack (bump s 0x757 1) k a
  else match eccDecode (wordErrs s k a) with
    | .clean => untrack s k a
    | .corr1 bit =>
      let r := trackCorr1 (bankOf s k).tracker a bit
      let s1 := setTracker (bump s 0x753 1) k r.1
      if r.2 = 3 then hardCandidate s1 k a bit else s1
    | .corr2 _ _ =>
      let s1 := untrack s k a
      if raced then s1 else bump (setBank s1 k { bankOf s1 k with errs := aDel (bankOf s1 k).errs a }) 0x754 1
    | .uncorr => ownerAction (reportUncorr (untrack s k a) k a true) k a

/-- The first word from an address on whose valid bit is set. -/
def nextValid (s : State) (k a : Nat) : Option Nat :=
  if k < 8 ∨ k = 11 then ((List.range (bankWords k - a)).map (a + ·)).find? (wordValid s k)
  else (bankOf s k).valid.find? fun b => decide (a ≤ b)

/-- The scrubber goes on from an address: words passed over, whose valid bit is 0, show no error in this pass (R359, R361). -/
def passOver (s : State) (k a b : Nat) : State :=
  setTracker s k ((bankOf s k).tracker.filter fun t => decide (t.addr < a) || decide (b ≤ t.addr))

/-- The end of a pass: its time in microseconds (R359). -/
def scrubPassEnd (s : State) (k : Nat) : State :=
  let b := bankOf s k
  wr (setBank s k { b with
    scrubAt := 0
    passStart := s.time.tick }) F.MEM_LAP_k_LAP (min (2 ^ 32 - 1) ((s.time.tick - b.passStart) / 50)) k

/-! Bits of stored words are struck (R356, R373). -/

/-- A pattern with these stored bits. -/
def bitsMask (bs : List Nat) : BitVec 79 := BitVec.ofNat 79 (maskOf 79 bs.contains)

/-- What the decoder sees of a pattern: at most two bits, or a pattern it cannot place. Four bits or more can lie within two bits of another
codeword, whose data the word then holds. -/
def eccSeen (m : BitVec 79) : BitVec 79 :=
  match eccDecode m with
  | .clean => 0
  | .corr1 a => bitsMask [a]
  | .corr2 a b => bitsMask [a, b]
  | .uncorr => m

/-- Field bits lo to lo + w - 1 of a value whose word is turned by a mask. -/
def turnedNat (d lo w v : Nat) : Nat := v ^^^ (d / 2 ^ lo % 2 ^ w)

/-- A bucket whose 256 bits are turned by a mask (R303). -/
def bucketTurned (d : Nat) (x : FlowBucket) : FlowBucket :=
  { valid := x.valid ^^ d.testBit 0
    ctx := turnedNat d 1 14 x.ctx
    uncorr := x.uncorr ^^ d.testBit 15
    key := x.key ^^^ BitVec.ofNat 136 (d / 2 ^ 16)
    firstSeen := x.firstSeen ^^^ BitVec.ofNat 32 (d / 2 ^ 152)
    lastSeen := x.lastSeen ^^^ BitVec.ofNat 32 (d / 2 ^ 184)
    fcsErr := x.fcsErr ^^^ BitVec.ofNat 24 (d / 2 ^ 216)
    runts := turnedNat d 240 8 x.runts
    giants := turnedNat d 248 8 x.giants }

/-- A context whose 256 bits are turned by a mask (R304). -/
def ctxTurned (d : Nat) (x : FlowCtx) : FlowCtx :=
  { x with
    frames := x.frames ^^^ BitVec.ofNat 40 d
    bytes := x.bytes ^^^ BitVec.ofNat 48 (d / 2 ^ 40)
    scale := turnedNat d 88 5 x.scale
    bins := Vector.ofFn fun b : Fin 8 => turnedNat d (96 + 20 * b) 20 x.bins[b] }

/-- A bucket and a context of zeros. -/
def zeroBucket : FlowBucket := ⟨false, 0, false, 0, 0, 0, 0, 0, 0⟩
def zeroCtx : FlowCtx := ⟨false, 0, 0, 0, Vector.replicate 8 0⟩

/-- A listed value turned by a mask, where 0 is what an unlisted one reads. -/
def listTurned (m : List (Nat × Nat)) (k d : Nat) : List (Nat × Nat) := aSet m k ((aGet m k).getD 0 ^^^ d)

/-- A record of the prompt book, two words of which are turned. -/
def recordTurned (r : PbRecord) (j d : Nat) : PbRecord :=
  let ws := vMod (vMod r.words (2 * j) (· ^^^ BitVec.ofNat 32 d)) (2 * j + 1) (· ^^^ BitVec.ofNat 32 (d / 2 ^ 32))
  { seq := (vGet ws 0 0).toNat % 2 ^ 24, words := ws }

/-- One of a settings block's values, which one and by how much being open. -/
def blockTurned (s : State) (b : SettingsBlock) : SettingsBlock :=
  match b.eff[Config.freeNat s.freeCount % b.eff.length]? with
  | some e => { b with eff := aSet b.eff e.1 (Config.freeNat (s.freeCount + 1)) }
  | none => b

/-- The data of a stored word are turned by a mask: bit i of the word is data bit i (log entry 100). Words of 32 bits lie in a 64-bit word
with the lower address, or number, in bits [31:0]; coefficients and lookup entries rise with their number. -/
def dataTurned (s : State) (k a d : Nat) : State :=
  if k = 8 then
    let p := windowBase + 8 * a
    let m := s.mgmt.window
    { s with mgmt := { s.mgmt with window := winPutWords m p [winWord m p ^^^ (d % 2 ^ 32), winWord m (p + 4) ^^^ (d / 2 ^ 32)] } }
  else if k = 9 then
    match aGet s.book.records (a / 4) with
    | some r => { s with book := { s.book with records := aSet s.book.records (a / 4) (recordTurned r (a % 4) d) } }
    | none => s
  else if k = 10 then
    { takeFree s with cal := { s.cal with sets := s.cal.sets.map fun e => if storeWord e.1 = a then
      let r := corrRange (keyTarget (e.1 / 8)) (keyKind (e.1 / 8))
      (e.1, r.lo + (Config.freeNat s.freeCount % ((r.hi - r.lo).toNat + 1) : Nat)) else e } }
  else if k = 11 then { takeFree (takeFree s) with sec := { s.sec with cache := s.sec.cache.map (blockTurned s) } }
  else if 12 ≤ k ∧ k < 28 then
    let n := (k - 12) / 2
    let b := (k - 12) % 2
    let x := lineTx s n
    setLineTx s n { x with lut := ((List.range 6).filter fun r => decide (6 * a + r < 65536)).foldl (fun m r =>
      let e := 65536 * b + 6 * a + r
      let v := toSigned 10 (turnedNat d (10 * r) 10 (ofSigned 10 ((aGet m e).getD 0)))
      if v = 0 then aDel m e else aSet m e v) x.lut }
  else if 28 ≤ k ∧ k < 44 then
    let b := bucketOfWord k a
    let x := bucketTurned (d * 2 ^ (64 * (a % 4))) ((aGet s.obs.buckets b).getD zeroBucket)
    { s with obs := { s.obs with buckets := aSet s.obs.buckets b x } }
  else if 44 ≤ k ∧ k < 60 then
    let c := ctxOfWord k a
    let x := ctxTurned (d * 2 ^ (64 * (a % 4))) ((aGet s.obs.contexts c).getD zeroCtx)
    { s with obs := { s.obs with contexts := aSet s.obs.contexts c x } }
  else if k = 60 then { s with obs := { s.obs with counters := listTurned s.obs.counters a d } }
  else if k = 61 ∨ k = 62 then
    let x := snapBank s (k - 61)
    setSnapBank s (k - 61) (if a < 2048 then { x with values := listTurned x.values a d }
      else { x with header := listTurned (listTurned x.header (2 * (a - 2048)) (d % 2 ^ 32)) (2 * (a - 2048) + 1) (d / 2 ^ 32) })
  else if k = 63 then
    { s with ctl := { s.ctl with coefs := (List.range 4).foldl (fun m i =>
      aSet m (4 * a + i) (toSigned 16 (turnedNat d (16 * i) 16 (ofSigned 16 ((aGet m (4 * a + i)).getD 0))))) s.ctl.coefs } }
  else s

/-- Bits of a stored word are struck; a word never written holds none. Of a pattern that the decoder takes for another codeword, the data
become that codeword's (R356, R373); what struck code or data make of Mexis the spec does not say. -/
def strike (s : State) (k a : Nat) (upset : BitVec 79) : State :=
  let e := wordErrs s k a ^^^ upset
  let r := eccSeen e
  let s1 := setBank s k { bankOf s k with errs := if r = 0 then aDel (bankOf s k).errs a else aSet (bankOf s k).errs a r }
  if e = r then s1 else dataTurned s1 k a ((e ^^^ r).toNat % 2 ^ 64)

/-- The scrubbers run: SCRUB_EN, and neither INTERMISSION nor DARK (R360), nor a device held in reset. -/
def scrubs (s : State) : Bool :=
  rd s F.MEM_CTRL_SCRUB_EN == 1 && (match s.power.mode with
    | .show => true
    | .leavingIntermission => true
    | .enteringIntermission => true
    | _ => false)

/-- SCRUB_WORD: the scrubber reads the next word whose valid bit is set, which may have been struck since it was last read; `raced` says
that a functional write of the word falls in its cycles. Past the last word the pass ends. -/
def scrubWord (k : Nat) (upset : BitVec 79) (raced : Bool) (s : State) : State :=
  if scrubs s then
    let from0 := (bankOf s k).scrubAt
    match nextValid s k from0 with
    | none => scrubPassEnd (passOver s k from0 (bankWords k)) k
    | some a =>
      let s1 := scrubRead (strike (passOver s k from0 a) k a upset) k a raced
      let s2 := setBank s1 k { bankOf s1 k with scrubAt := a + 1 }
      if (nextValid s2 k (a + 1)).isNone then scrubPassEnd (passOver s2 k (a + 1) (bankWords k)) k else s2
  else s

def execScrubWord (bank : Fin 64) (upset : BitVec 79) (raced : Bool) (s : State) : Host.Outcome State Fault Refusal :=
  .next (scrubWord bank upset raced s)

/-! Commands (R366). -/

/-- MEM_REMAP's own part (R362). -/
def memRemap (c : Cmd) : State → State × Reply :=
  let k := c.w 2
  let a := c.w 3
  withChecks (fun s =>
      [(decide (bankWords k ≤ a), stRange, 0), (retained s k, stState, 0), (remapFull s k, stNoSpace, 0), (remapped s k a, stConflict, 0)])
    fun s => (installRemap (remapRead s k a) k a true, .done stOK 0 0 0)

def execMemRemap (c : Cmd) (s : State) : Host.Outcome State Fault Refusal :=
  .next (hostCmd 0x0A01 [(2, 0x3F), (3, 0xFFFF)] noGate c (memRemap c) s)

/-- A session-free test permission (R413): MANUFACTURE, DEPLOYED with FIELD_DIAG, RETURN. -/
def testAllowed (s : State) : Bool :=
  s.sec.otp.life == 1 || (s.sec.otp.life == 2 && s.sec.fieldDiag) || s.sec.otp.life == 3

def testGate (s : State) : Option (Nat × Nat) := if testAllowed s then none else some (stLifecycle, 0)

/-- MEM_INJECT's own part: adjacent stored bits are inverted. -/
def memInject (c : Cmd) : State → State × Reply :=
  let k := c.w 2
  let a := c.w 3
  withChecks (fun s =>
      [(decide (bankWords k ≤ a) || c.w 4 == 0 || decide (76 < c.w 5), stRange, 0),
       (decide (k < 12) || !wordValid s k a || retained s k, stState, 0)])
    fun s => (strike s k a (BitVec.ofNat 79 ((2 ^ c.w 4 - 1) * 2 ^ c.w 5)), .done stOK 0 0 0)

def execMemInject (c : Cmd) (s : State) : Host.Outcome State Fault Refusal :=
  .next (hostCmd 0x0A02 [(2, 0x3F), (3, 0xFFFF), (4, 3), (5, 0x7F)] testGate c (memInject c) s)

end Sys2Proof.Machine
end

