-- ==== Sys2Proof/Machine/Alarm.lean ====
section
/-! DEFINITION. The security alarm (chapter 22, R418-R420) and the end of a session. -/

namespace Sys2Proof.Machine

open Sys2Proof

/-- The action of a source in SEC_ALARM_CFG (R419): 0 LOG, 1 LOCK, 2 ZEROIZE, 3 SCORCH. -/
def alarmAction (s : State) (source : Nat) : Nat :=
  match source with
  | 0 => rd s F.SEC_ALARM_CFG_VGLITCH
  | 1 => rd s F.SEC_ALARM_CFG_CGLITCH
  | 2 => rd s F.SEC_ALARM_CFG_TEMP
  | 3 => rd s F.SEC_ALARM_CFG_DEBUG
  | _ => rd s F.SEC_ALARM_CFG_AUTH_FAIL

/-- AUTH_CHANGE (R433): located at the processor pair. -/
def authChange (s : State) (opened : Bool) : State :=
  raiseEvent s (ev 0x8C03 (locMgmt 0) (b2n opened) (rd s F.SEC_ALARM_STATUS_AUTH_FAILS))

/-- The session ends, if one is open (R416). -/
def endSession (s : State) : State :=
  if s.sec.session then authChange { s with sec := { s.sec with session := false } } false else s

/-- The volatile key cache is cleared. -/
def clearKeys (s : State) : State := { s with aside := { s.aside with keys := Vector.replicate 4 none } }

/-- A gated instruction (R444). -/
def jtagGated (code : Nat) : Bool := decide (0x80 ≤ code) && decide (code ≤ 0xFE)

/-- A gated instruction may be selected (R413, R419): in MANUFACTURE or RETURN, and not under LOCK. -/
def jtagAllowed (s : State) : Bool := (s.sec.otp.life == 1 || s.sec.otp.life == 3) && !s.sec.locked

/-- The instruction in force for a code: undefined ones and gated ones that are not allowed act as BYPASS. -/
def jtagEffective (s : State) (code : Nat) : Nat :=
  if 1 ≤ code ∧ code ≤ 7 then code
  else if jtagGated code && jtagAllowed s then code
  else 0xFF

/-- The instruction of the test access port that stays selected: a gated one that is no longer permitted acts as BYPASS. -/
def jtagFollow (s : State) : State :=
  { s with test := { s.test with
    jtagIr := if jtagGated s.test.jtagIr then jtagEffective s s.test.jtagIr else s.test.jtagIr } }

/-- LOCK (R419, R430): latched until POR; an open update closes, and the next FW_ command finds it so. -/
def alarmLock (s : State) : State :=
  jtagFollow { s with sec := { s.sec with
    locked := true
    lockClosed := s.sec.lockClosed || s.sec.update.isSome
    update := none
    ops := s.sec.ops.filter fun o => match o with
      | .save _ _ => true
      | _ => false } }

/-- The FW_ commands whose flash operation a LOCK gave up complete E_LOCKED. -/
def lockOps (s : State) : State :=
  s.sec.ops.foldl (fun t o => match o with
    | .erase _ _ => completeProg t 0x0C20 0 stLocked 0 0 0
    | .program _ => completeProg t 0x0C21 0 stLocked 0 0 0
    | .commit _ => completeProg t 0x0C22 0 stLocked 0 0 0
    | .save _ _ => t) s

/-- ZEROIZE (R419): the key cache with session and content keys goes; the secret is hidden until POR. -/
def alarmZeroize (s : State) : State := endSession (clearKeys { s with sec := { s.sec with zeroized := true } })

/-- SCORCH (R419): the scorch fuse is burned. -/
def alarmScorch (s : State) : State := { s with sec := { s.sec with otp := { s.sec.otp with scorched := true } } }

/-- An alarm source alarms (R418, R419): SEC_ALARM, a curtain marker, ALARM_N, and the effects of its action and of every one
below it. -/
def raiseAlarm (s : State) (source : Nat) : State :=
  let act := alarmAction s source
  let s1 := wr s F.SEC_ALARM_STATUS_SOURCES (rd s F.SEC_ALARM_STATUS_SOURCES ||| 2 ^ source)
  let s2 := wr s1 F.SEC_ALARM_STATUS_IN_FORCE (max act (rd s1 F.SEC_ALARM_STATUS_IN_FORCE))
  let s3 := curtain (raiseEvent s2 (ev 0x8C01 (locDie 3 0xFFF) (source + act * 2 ^ 4))) 5 0x8C01 (locDie 3 0xFFF)
  let s4 := { s3 with sec := { s3.sec with pulse := some s3.time.tick } }
  let s5 := if 1 ≤ act then alarmLock (lockOps s4) else s4
  let s6 := if 2 ≤ act then alarmZeroize s5 else s5
  if act = 3 then alarmScorch s6 else s6

/-- ALARM_N is asserted: a LOCK or higher action in force, or the pulse of an alarm (R419), where the pin is driven (R396, R402). -/
def alarmAsserted (s : State) : Bool := pinsDriven s && (s.sec.locked || s.sec.pulse.isSome)

/-- VOLTAGE_GLITCH (R418): a departure of more than 120 mV for 2 to 50 ns. -/
def execVoltageGlitch (s : State) : Host.Outcome State Fault Refusal := .next (if deviceUp s then raiseAlarm s 0 else s)

/-- CLOCK_GLITCH (R418): a crystal or system PLL period below 70 % of nominal. -/
def execClockGlitch (s : State) : Host.Outcome State Fault Refusal := .next (if deviceUp s then raiseAlarm s 1 else s)

/-- ALARM_N_PULSE_END (R419): 1 ms after the last alarm. -/
def alarmPulseEnd (s : State) : State :=
  if s.sec.pulse.isSome ∧ sinceNs s s.sec.pulse 1000000 = true then { s with sec := { s.sec with pulse := none } } else s

def execAlarmNPulseEnd (s : State) : Host.Outcome State Fault Refusal := .next (alarmPulseEnd s)

end Sys2Proof.Machine
end

