-- ==== Sys2Proof/Machine/Gf.lean ====
section
/-! DEFINITION. The codes of chapter 07: the field GF(2^10), RS(544,514) with its encoder, its decoding with errors and
erasures and the mark, and the inner (170,160) code with its Chase search. A codeword is the list of its 544 symbols in
the order of transmission: index t holds position 543 - t (R119). -/

namespace Sys2Proof.Machine

open Sys2Proof

/-! The field (R118). -/

/-- Multiplication by alpha, a root of x^10 + x^3 + 1. -/
def gfTimesAlpha (x : Nat) : Nat := if x ≥ 512 then (x * 2 % 1024) ^^^ 9 else x * 2

/-- Product, by the bits of the second factor from the top. -/
def gfMulBits (x y : Nat) : Nat → Nat
  | 0 => 0
  | k + 1 => gfMulBits (gfTimesAlpha x) y k ^^^ (if y.testBit (10 - (k + 1)) then x else 0)

def gfMul (x y : Nat) : Nat := gfMulBits x y 10

/-- x^(2^k - 1) by squaring and multiplying. -/
def gfPowOnes (x : Nat) : Nat → Nat
  | 0 => 1
  | k + 1 => let q := gfPowOnes x k
    gfMul (gfMul q q) x

/-- Inverse: x^(2^10 - 2), the square of x^(2^9 - 1). -/
def gfInv (x : Nat) : Nat := let q := gfPowOnes x 9
  gfMul q q

/-- Powers of alpha. -/
def gfPow : Nat → Nat
  | 0 => 1
  | n + 1 => gfTimesAlpha (gfPow n)

/-- alpha to a power between 0 and 1,022 from the table of powers. -/
def gfPowers : Nat → Nat → List Nat
  | 0, _ => []
  | n + 1, x => x :: gfPowers n (gfTimesAlpha x)

/-! Polynomials, lowest coefficient first. -/

def polyAdd : List Nat → List Nat → List Nat
  | [], b => b
  | a, [] => a
  | x :: a, y :: b => (x ^^^ y) :: polyAdd a b

def polyScale (c : Nat) (a : List Nat) : List Nat := a.map (gfMul c)

def polyMul : List Nat → List Nat → List Nat
  | [], _ => []
  | x :: a, b => polyAdd (polyScale x b) (0 :: polyMul a b)

def polyEval (a : List Nat) (x : Nat) : Nat := a.foldr (fun c v => c ^^^ gfMul v x) 0

/-- The formal derivative in characteristic 2: the odd coefficients, moved down. -/
def polyDerive (a : List Nat) : List Nat := (a.drop 1).zipIdx.map fun e => if e.2 % 2 = 0 then e.1 else 0

/-- The degree, 0 for a constant. -/
def polyDeg (a : List Nat) : Nat := (a.zipIdx).foldl (fun d e => if e.1 = 0 then d else e.2) 0

/-! RS(544,514). -/

/-- The generator's coefficients (R118). -/
def rsGen : List Nat := (gfPowers 30 1).foldl (fun g r => polyMul g [r, 1]) [1]

/-- The mark polynomial M(x) (R134). -/
def rsMark : List Nat := (gfPowers 29 1).foldl (fun g r => polyMul g [r, 1]) [1]

/-- The parity of a message: the remainder register, position 29 first. -/
def rsParity (message : List Nat) : List Nat :=
  let g := (rsGen.take 30).reverse
  message.foldl (fun reg m =>
    let f := m ^^^ reg.headD 0
    ((reg.drop 1 ++ [0]).zip g).map fun (e : Nat × Nat) => e.1 ^^^ gfMul f e.2) (List.replicate 30 0)

/-- A codeword with its parity computed from its message symbols. -/
def rsEncode (message : List Nat) : List Nat := message ++ rsParity message

/-- A word that no decoder takes for a codeword (R134): parity from the message symbols, with M added. -/
def rsMarked (w : List Nat) : List Nat :=
  let m := w.take 514
  m ++ ((rsParity m).zip rsMark.reverse).map fun e => e.1 ^^^ e.2

/-- Syndromes S_0 to S_29 of a word. -/
def rsSyndromes (w : List Nat) : List Nat :=
  (gfPowers 30 1).map fun r => w.foldl (fun v c => gfMul v r ^^^ c) 0

/-- The incoming mark's signature (R137). -/
def rsMarkedIn (syn : List Nat) : Bool := (syn.take 29).all (· == 0) && syn[29]?.getD 0 != 0

/-- One step of the search for the shortest register that generates a sequence: the register, the one before its last
change, its length, steps since that change, and the discrepancy then. -/
structure Register where
  c : List Nat
  b : List Nat
  len : Nat
  m : Nat
  bb : Nat

def registerStep (seq : List Nat) (q : Register) (n : Nat) : Register :=
  let d := (List.range (q.len + 1)).foldl (fun a i => a ^^^ gfMul (q.c[i]?.getD 0) (if i ≤ n then seq[n - i]?.getD 0 else 0)) 0
  if d = 0 then { q with m := q.m + 1 }
  else
    let c := polyAdd q.c (List.replicate q.m 0 ++ polyScale (gfMul d (gfInv q.bb)) q.b)
    if 2 * q.len ≤ n then ⟨c, q.c, n + 1 - q.len, 1, d⟩ else { q with c := c, m := q.m + 1 }

/-- The error locator of a syndrome sequence. -/
def errorLocator (seq : List Nat) : List Nat :=
  ((List.range seq.length).foldl (registerStep seq) ⟨[1], [1], 0, 1, 1⟩).c

/-- Decoding with erasures (R128): the corrected word and its count of changed symbols, or none. `erased` flags symbols by
transmission index. -/
def rsDecode (w : List Nat) (erased : List Bool) : Option (List Nat × Nat) :=
  let syn := rsSyndromes w
  let f := (erased.filter id).length
  if f > 30 then none else
  let powers := gfPowers 544 1
  let pos := powers.reverse
  let gamma := ((pos.zip erased).filter (·.2)).foldl (fun g e => polyMul g [1, e.1]) [1]
  let modified := (polyMul syn gamma).take 30
  let sigma := errorLocator (modified.drop f)
  let psi := polyMul sigma gamma
  let omega := (polyMul syn psi).take 30
  let deriv := polyDerive psi
  let fixed := ((w.zip pos).zip (erased ++ List.replicate 544 false)).map fun e =>
    let x := e.1.2
    let xi := gfInv x
    let located := polyEval sigma xi == 0
    let value := if located || e.2 then gfMul x (gfMul (polyEval omega xi) (gfInv (polyEval deriv xi))) else 0
    (e.1.1 ^^^ value, located, located && !e.2 && value == 0)
  let out := fixed.map (·.1)
  let e := (fixed.filter (·.2.1)).length
  if e = polyDeg sigma ∧ 2 * e + f ≤ 30 ∧ fixed.all (fun x => !x.2.2) ∧ (rsSyndromes out).all (· == 0) then
    some (out, ((w.zip out).filter fun x => x.1 != x.2).length)
  else none

/-- The decoder with its fallback (R128, R129): the result, and whether erasures were dropped. -/
def rsDecodeWith (w : List Nat) (erased : List Bool) (eraseEn fallback : Bool) : Option (List Nat × Nat) × Bool :=
  let es := if eraseEn then erased else []
  if 30 < (es.filter id).length then if fallback then (rsDecode w [], true) else (none, false)
  else (rsDecode w es, false)

/-! The inner code (R121-R127). -/

/-- The parity-check columns h_0 to h_159: 3 to 168 without the powers of two. -/
def innerColumns : List Nat :=
  ((List.range 169).drop 3).filter fun v => !(v == 4 || v == 8 || v == 16 || v == 32 || v == 64 || v == 128)

/-- The column of every bit of v: data, checks, parity. -/
def innerAllColumns : List Nat := innerColumns ++ (List.range 9).map (2 ^ ·) ++ [0]

def xorAll (xs : List Nat) : Nat := xs.foldl (· ^^^ ·) 0

/-- The inner codeword of 160 data bits (R121). -/
def innerEncode (data : List Bool) : List Bool :=
  let s := xorAll ((data.zip innerColumns).map fun e => if e.1 then e.2 else 0)
  let body := data ++ (List.range 9).map s.testBit
  body ++ [(body.filter id).length % 2 == 1]

/-- The bit that hard decision flips (R125): none for a failure, 170 for no flip. -/
def innerFlip (v : List Bool) : Option Nat :=
  let s := xorAll ((v.zip innerAllColumns).map fun e => if e.1 then e.2 else 0)
  let q := (v.filter id).length % 2 == 1
  if s = 0 then some (if q then 169 else 170)
  else if q = false then none
  else match innerAllColumns.findIdx? (· == s) with
    | some k => some k
    | none => none

def flipBits (v : List Bool) (ks : List Nat) : List Bool := v.zipIdx.map fun e => e.1 != ks.contains e.2

/-- The four least reliable bits, rank 0 first, ties to the lower index (R126). -/
def leastReliable (rel : List Nat) : Nat → List Nat → List Nat
  | 0, acc => acc
  | k + 1, acc =>
    match (rel.zipIdx.filter fun e => !acc.contains e.2).foldl (fun o e => match o with
      | none => some e
      | some b => if e.1 < b.1 then some e else some b) none with
    | some b => leastReliable rel k (acc ++ [b.2])
    | none => acc

/-- The outcomes of R127. -/
inductive InnerOutcome where
  | clean
  | hard
  | chase
  | failed
  deriving DecidableEq, Repr

/-- The bits that pattern p and the hard decision flip; none where p gives no valid candidate. -/
def chaseFlips (v : List Bool) (ranks : List Nat) (p : Nat) : Option (List Nat) :=
  let test := (ranks.zipIdx.filter fun e => p.testBit e.2).map (·.1)
  match innerFlip (flipBits v test) with
  | none => none
  | some 170 => some test
  | some k => some (if test.contains k then test.filter (· != k) else test ++ [k])

/-- The Chase search (R126, R127): outcome, data bits that go forward, bits changed. -/
def innerDecode (threshold : Nat) (v : List Bool) (rel : List Nat) : InnerOutcome × List Bool × Nat :=
  let ranks := leastReliable rel 4 []
  let best := (List.range 16).foldl (fun o p => match chaseFlips v ranks p with
    | none => o
    | some ks =>
      let w := (ks.map fun k => rel[k]?.getD 0).sum
      match o with
      | none => some (w, p, ks)
      | some b => if w < b.1 then some (w, p, ks) else some b) none
  match best with
  | none => (.failed, v.take 160, 0)
  | some (w, p, ks) =>
    if threshold ≠ 127 ∧ threshold < w then (.failed, v.take 160, 0)
    else (if ks = [] then .clean else if p = 0 then .hard else .chase, (flipBits v ks).take 160, ks.length)

/-- Bits of a symbol, bit 0 first. -/
def symBits (x : Nat) : List Bool := (List.range 10).map x.testBit

def bitsSym (bs : List Bool) : Nat := (bs.zipIdx).foldl (fun a e => if e.1 then a + 2 ^ e.2 else a) 0

/-- The data bits of inner codeword j of a superblock of four codewords (R123). -/
def superData (cws : List (List Nat)) (j : Nat) : List Bool :=
  cws.flatMap fun c => (List.range 4).flatMap fun q => symBits (c.getD (j + 136 * q) 0)

/-- The 136 inner codewords of a superblock. -/
def superEncode (cws : List (List Nat)) : List (List Bool) := (List.range 136).map fun j => innerEncode (superData cws j)

/-- Codeword a of a superblock from its 136 inner results: symbols with erasure flags (R123, R127). -/
def superCodeword (inner : List (InnerOutcome × List Bool × Nat)) (a : Nat) : List (Nat × Bool) :=
  (List.range 544).map fun t =>
    match inner[t % 136]? with
    | some x => (bitsSym ((x.2.1.drop (40 * a + 10 * (t / 136))).take 10), x.1 == .failed)
    | none => (0, true)

end Sys2Proof.Machine
end

