-- ==== Sys2Proof/Machine/TxChain.lean ====
section
/-! DEFINITION. The transmit chain of line and host lanes (chapter 06, R97-R108; R154, R155; chapter 10, R189, R190): what a lane sends for
a run of symbols, from the value to the converter. -/

namespace Sys2Proof.Machine

open Sys2Proof

/-! Sources (R107, R154, R155). -/

/-- The register a pattern's generator runs from: where it starts is open, and never 0 (log entry 142). -/
def prbsLoad (l : LaneId) (pattern reg : Nat) : Nat :=
  if reg = 0 then 1 + Config.prbsSeed (if l.isLine then l.num else 8 + l.num) % (2 ^ prbsLength pattern - 1) else reg

/-- The next n symbols of a PRBS, two bits each, the earlier first (R154), and the register after them. -/
def prbsRun (pattern : Nat) : Nat → Nat → List Nat × Nat
  | 0, reg => ([], reg)
  | n + 1, reg =>
    let r1 := prbsShift pattern reg (prbsNext pattern reg)
    let r2 := prbsShift pattern r1 (prbsNext pattern r1)
    let inv := prbsInverted pattern
    let rest := prbsRun pattern n r2
    (valueOfPair (prbsNext pattern reg != inv) (prbsNext pattern r1 != inv) :: rest.1, rest.2)

def tpgEn (s : State) (l : LaneId) : Bool := rdLE s l F.LTX_TPG_CTRL_EN F.HSL_TP_CTRL_TPG_EN == 1
def tpgPattern (s : State) (l : LaneId) : Nat := rdLE s l F.LTX_TPG_CTRL_PATTERN F.HSL_TP_CTRL_TPG_PATTERN

/-- n symbols of PRBS13Q: the training burst's, whatever PATTERN is (R107, R155). -/
def burstRun (l : LaneId) (x : TxRec) (n : Nat) : List Nat × TxRec :=
  let r := prbsRun 1 n (prbsLoad l 1 x.prbs13)
  (r.1, { x with prbs13 := r.2 })

/-- n symbols of the lane's generator (R154). -/
def patternRun (s : State) (l : LaneId) (x : TxRec) (n : Nat) : List Nat × TxRec :=
  let k := tpgPattern s l
  if k = 1 then burstRun l x n
  else if k ≤ 2 then
    let r := prbsRun k n (prbsLoad l k x.prbs)
    (r.1, { x with prbs := r.2 })
  else ((List.range n).map fun q => valueOfPair (storedBit s l k (x.pos + 2 * q)) (storedBit s l k (x.pos + 2 * q + 1)),
    { x with pos := (x.pos + 2 * n) % patternBits k })

/-- Symbols of a training burst: the blocks of R107 on a line lane, 1,661 of 128 on a host lane (R190). -/
def burstSymbols (s : State) (l : LaneId) : Nat :=
  (if !l.isLine then 1661
    else if halfRate s then (if innerCode s then 882 else 831) else if innerCode s then 1764 else 1661) * blockSymbols l

def txPrecode (s : State) (l : LaneId) : Bool := rdLE s l F.LTX_CTRL_PRECODE F.HSL_TX_CTRL_PRECODE == 1

/-- The values sent for data values (R79, R97): the precoder's state is the last value sent. -/
def precodeRun (on : Bool) : Nat → List Nat → List Nat
  | _, [] => []
  | prev, g :: gs =>
    let v := if on then precode g prev else g
    v :: precodeRun on v gs

/-! Line lanes (R97-R106). -/

/-- The level of a symbol in the FIR: 0 for one at electrical idle (R100). -/
def levelIn (w : List TxSym) (k : Nat) : Int := ((w[k]?).bind (·.value)).elim 0 levelOf

/-- u[k] of a window's middle symbol (R98); 0 where it is at electrical idle (R106). -/
def firOut (s : State) (n : Nat) (w : List TxSym) : Int :=
  if ((w[8]?).bind (·.value)).isNone then 0
  else ((List.range 9).map fun j => rdEI s F.LTX_FIR_j_TAP n j * levelIn w (8 + j - rdE s F.LTX_CTRL_MAIN n)).sum

/-- The lookup index of the middle symbol, s[k-3] highest (R100); none where the window holds a symbol at electrical idle. -/
def lutIndex (w : List TxSym) : Option Nat :=
  ((w.drop 4).take 8).reverse.foldl (fun a x => match a, x.value with
    | some i, some v => some (4 * i + v)
    | _, _ => none) (some 0)

/-- The middle symbol of a full window passes FIR, lookup, aside insertion and DAC (R97). -/
def lineConvert (s : State) (n : Fin 8) : State :=
  let x := txRec s (.line n)
  let mid := (x.window[8]?).getD ⟨none, 0, 0⟩
  let s1 := (lutIndex x.window).elim s fun e => lutRead s n mid.bank [lutWord e]
  let p := (lutIndex x.window).elim 0 (lutGet s1 n mid.bank)
  let c := roundConv (firOut s n x.window + p + mid.aside) 16
  let s2 := if satHit 7 c then bump s1 (cntLine n 6) 1 else s1
  setTxRec s2 (.line n) { x with out := x.out ++ [satI 7 c] }

/-! Host lanes (R189). -/

/-- Taps t_0 to t_5: by register, or from the CMIS codes. -/
def hostTaps (s : State) (n : Nat) : List Int :=
  if rdE s F.HSL_TX_CTRL_SOURCE n = 0 then (List.range 6).map fun j => rdEI s F.HSL_TX_TAP_j_TAP n j
  else
    let t2 : Int := - (([0, 4, 7, 10, 13, 16, 19, 21] : List Int)[rdE s F.HSL_TX_CTRL_PRE n]?.getD 0)
    let t4 : Int := - (([0, 7, 13, 19, 24, 28, 32, 35] : List Int)[rdE s F.HSL_TX_CTRL_POST n]?.getD 0)
    [0, 0, t2, 128 + t2 + t4, t4, 0]

/-- V_PP in millivolts. -/
def hostSwing (s : State) (n : Nat) : Int := ([300, 450, 600, 900] : List Int)[rdE s F.HSL_TX_CTRL_AMP n]?.getD 0

/-- u[k] V_PP of a window's middle symbol: 768 times the output in millivolts; 0 at electrical idle (R190). -/
def hostConvert (s : State) (n : Fin 16) : State :=
  let x := txRec s (.host n)
  let u := ((hostTaps s n).zipIdx.map fun e => e.1 * levelIn x.window (5 + e.2)).sum
  let v := if ((x.window[8]?).bind (·.value)).isNone then 0 else u * hostSwing s n
  setTxRec s (.host n) { x with out := x.out ++ [v] }

/-! A run of symbols. -/

/-- The aside sample of the lane's next symbol, one value for each 256-symbol block (R105, R204): the packet's wave from LAT_TX on,
scaled to AMP % of OUTER_REF and clipped at four times that RMS. -/
def asideSample (s : State) (n : Nat) : Int :=
  let a := asideLane s n
  let x := txRec s (lineOf n)
  let at0 := x.gridAt + (x.count - x.gridAt) / 256 * 256 - a.waveAt
  let amp : Int := rdE s F.ASD_CTRL_AMP n * (3 * rdEI s F.LTX_FIR_j_TAP n (rdE s F.LTX_CTRL_MAIN n))
  let v := Config.resample a.wave at0 (lineRate s)
  if a.wave.isEmpty || decide (10000000 * at0 < 8 * lineRate s) || decide ((a.wave.length / 4 + 8) * lineRate s ≤ 10000000 * at0) then 0
  else clampI (- (4 * amp / 100)) (4 * amp / 100) (freeRound 3 (v * amp) (100 * waveRms))

/-- A symbol enters the chain; from the seventeenth on one leaves it each time. -/
def txPush (s : State) (l : LaneId) (bank : Nat) (v : Option Nat) : State :=
  let x := txRec s l
  let y : TxSym := ⟨v, bank, match l with
    | .line n => asideSample s n
    | .host _ => 0⟩
  let s1 := setTxRec s l { x with
    window := (y :: x.window).take 17
    count := x.count + 1 }
  if x.window.length < 16 then s1 else match l with
    | .line n => lineConvert s1 n
    | .host n => hostConvert s1 n

/-- A run of values sent as they are; the precoder's state is the last of them (R108). -/
def txSend (s : State) (l : LaneId) (bank : Nat) (vs : List Nat) : State :=
  let s1 := vs.foldl (fun t v => txPush t l bank (some v)) s
  setTxRec s1 l { txRec s1 l with pre := (vs.getLast?).getD (txRec s1 l).pre }

/-- n symbols of the training burst, of those it still has. -/
def sendBurst (s : State) (l : LaneId) (bank n : Nat) : State :=
  let x := txRec s l
  let k := min n (burstSymbols s l - x.burst)
  let r := burstRun l x k
  txSend (setTxRec s l { r.2 with burst := x.burst + k }) l bank r.1

/-- Data values behind a gearbox that recentres (R194): the first are dropped, or come twice; what is left of the slip. -/
def slipData (k : Int) (vs : List Nat) : List Nat × Int :=
  if 0 ≤ k then (vs.drop k.toNat, max 0 (k - vs.length)) else (vs.take (-k).toNat ++ vs, min 0 (k + vs.length))

/-- What a lane sends in the time of n symbols (R97, R106, R155, R190): nothing at idle but aside samples; its burst; its generator's
pattern; else the data values it is given, encoded (none: nothing is due). -/
def laneSend (s : State) (l : LaneId) (bank n : Nat) (data : Option (List Nat)) : State :=
  if laneRuns s l then
    let s1 := setTxRec s l { txRec s l with out := [] }
    if txIdle s l then (List.range n).foldl (fun t _ => txPush t l bank none) s1
    else if txBurst s l then sendBurst s1 l bank n
    else if tpgEn s l then
      let r := patternRun s1 l (txRec s1 l) n
      txSend (setTxRec s1 l r.2) l bank r.1
    else match data with
      | some vs =>
        let x := txRec s1 l
        let r := slipData x.slip vs
        txSend (setTxRec s1 l { x with slip := r.2 }) l bank (precodeRun (txPrecode s l) x.pre r.1)
      | none => s1
  else s

/-- TRAINING_BURST_END (R107, R108, R190): the rest of the burst has gone; data follows at the next block boundary. -/
def trainingBurstEnd (l : LaneId) (s : State) : State :=
  if txBurst s l then
    let bank := if l.isLine then activeBank s l.num else 0
    let s1 := sendBurst s l bank (burstSymbols s l)
    raiseEvent (setTx s1 l false false) (ev (if l.isLine then 0x8323 else 0x8335) (laneLoc l) 2)
  else s

def execTrainingBurstEnd (lane : LaneId) (s : State) : Host.Outcome State Fault Refusal := .next (trainingBurstEnd lane s)

/-! What a port's lanes carry of its codewords (R78, R119-R124). -/

/-- Values from bits, the first bit of each pair first. -/
def valuesOfBits : List Bool → List Nat
  | a :: b :: rest => valueOfPair a b :: valuesOfBits rest
  | _ => []

/-- Every w-th element from the i-th on. -/
def everyNth {α : Type} (w i : Nat) (xs : List α) : List α := (xs.zipIdx.filter fun e => e.2 % w == i).map (·.1)

/-- Logical lane i's symbols of a codeword in PLAIN: symbol t on lane t mod w, bit 0 first (R119, R120). -/
def plainLane (w i : Nat) (word : List Nat) : List Nat := valuesOfBits ((everyNth w i word).flatMap symBits)

/-- Logical lane i's symbols of a superblock: inner codeword j on lane j mod w (R121, R124). -/
def innerLane (w i : Nat) (words : List (List Bool)) : List Nat := (everyNth w i words).flatMap valuesOfBits

/-- The bank that serves a line lane's symbols of codewords `first` to `first + 3 * inner` (R103, R491): a LUT_SWAP cue on SC_TX that is
armed for one of them has its swap at the first symbol, before it fires; a freewheeling clock swaps at the firing (R104).
A lane of the mask that lies in another port carries no such codeword: it is not refused, and swaps as the cue fires (log entry 185). -/
def bankFor (s : State) (p n : Nat) (first : BitVec 48) (count : Nat) : Nat :=
  let due := (List.range 64).filter fun e => match armedCue s e with
    | some c => c.action == 4 && c.port.val == p && c.arg.testBit n && decide ((c.trigger - first).toNat < count)
    | none => false
  if (showClock s p .tx).freewheel || !(swappable s (2 ^ n)).contains n || due.length % 2 == 0 then activeBank s n else shadowBank s n

end Sys2Proof.Machine
end

