-- ==== Sys2Proof/Machine/Fec.lean ====
section
/-! DEFINITION. Error correction (chapter 07) and rate matching (R158-R162): what a codeword meets on its way through a port,
the decoder pools, and signal degrade. -/

namespace Sys2Proof.Machine

open Sys2Proof

/-! The pools (R130-R133). -/

def poolNum : Dir → Nat
  | .tx => 0
  | .rx => 1

def fencedMask (s : State) : Dir → Nat
  | .tx => rd s F.FEC_POOL_STATUS_H2L_FENCED
  | .rx => rd s F.FEC_POOL_STATUS_L2H_FENCED

def unfenced (s : State) (d : Dir) : Nat := 16 - (bitsSet 16 (fencedMask s d)).length

/-- Members needed: the enabled TERMINATE ports' codeword rates over 48.828125 M (R130). -/
def poolNeed (s : State) : Nat :=
  let rate := (((List.range 8).filter fun p => portEnabled s p && !passMode s p).map (codewordRate s)).sum
  (rate + 48828124) / 48828125

/-- Does the direction run short (R131)? -/
def poolShort (s : State) (d : Dir) : Bool := decide (unfenced s d < poolNeed s)

/-- FEC_POOL_AVAIL follows; FEC_POOL_SHORT is raised at each change of SHORT (R131). -/
def poolShow (s : State) : State :=
  let s1 := wr (wr (wr s F.FEC_POOL_AVAIL_NEED (poolNeed s)) F.FEC_POOL_AVAIL_H2L_AVAIL (unfenced s .tx))
    F.FEC_POOL_AVAIL_L2H_AVAIL (unfenced s .rx)
  let s2 := wrB (wrB s1 F.FEC_POOL_AVAIL_H2L_PAUSED (unfenced s .tx == poolNeed s)) F.FEC_POOL_AVAIL_L2H_PAUSED
    (unfenced s .rx == poolNeed s)
  [Dir.tx, Dir.rx].foldl (fun t d =>
    let f := match d with
      | .tx => F.FEC_POOL_AVAIL_H2L_SHORT
      | .rx => F.FEC_POOL_AVAIL_L2H_SHORT
    if (rd t f == 1) = poolShort t d then t
    else raiseEvent (wrB t f (poolShort t d)) (ev 0x8242 (locPool (poolNum d))
      (poolNum d + b2n (poolShort t d) * 2 + unfenced t d * 2 ^ 8 + poolNeed t * 2 ^ 16))) s2

def setFenced (s : State) (d : Dir) (mask : Nat) : State :=
  match d with
  | .tx => wr s F.FEC_POOL_STATUS_H2L_FENCED mask
  | .rx => wr s F.FEC_POOL_STATUS_L2H_FENCED mask

/-- A member is fenced for a cause of R144: 1 output checker, 2 idle test, 3 command. -/
def fenceMember (s : State) (d : Dir) (m cause : Nat) : State :=
  if (fencedMask s d).testBit m then s else
    poolShow (raiseEvent (setFenced s d (fencedMask s d + 2 ^ m)) (ev 0x8240 (locPoolMember (poolNum d) m)
      (poolNum d + m * 2 ^ 4 + cause * 2 ^ 8)))

/-- The member out of rotation for its idle test (R132): none while the tests pause. -/
def underTest (s : State) (d : Dir) : Option Nat :=
  if poolNeed s < unfenced s d then vGet s.path.testing (poolNum d) none else none

/-- The member that takes the next codeword: the next in cyclic ascending order that is neither fenced nor under test (R130). -/
def nextMember (s : State) (d : Dir) : Option Nat :=
  ((List.range 16).map fun k => (vGet s.path.next (poolNum d) 0 + k) % 16).find? fun m =>
    !(fencedMask s d).testBit m && underTest s d != some m

/-- A stored test codeword in its two forms, with the symbols flagged as erasures (R132); which codeword and which places the spec leaves
open: the codeword of zeros, with errors and erasures from its first symbol on (log entry 153). -/
def poolTestWord : PoolTest → List Nat × List Bool
  | .errors => (List.replicate 15 1 ++ List.replicate 529 0, [])
  | .erasures => (List.replicate 20 1 ++ List.replicate 524 0, List.replicate 10 false ++ List.replicate 10 true ++ List.replicate 524 false)

/-- What a member makes of a word (R128): its decoding; another word; or a failure. -/
def memberDecodes (c : MemberConduct) (w : List Nat) (erased : List Bool) : Option (List Nat) :=
  match c with
  | .good => (rsDecode w erased).map (·.1)
  | .wrong => some w
  | .failing => none

/-- POOL_IDLE_TEST (R132): while more members are unfenced than needed, an unfenced member leaves the rotation and is given a test
codeword; a wrong result fences it. It stays out until the next test begins (log entry 153). -/
def poolIdleTest (d : Dir) (m : Nat) (form : PoolTest) (c : MemberConduct) (s : State) : State :=
  if poolNeed s < unfenced s d ∧ (fencedMask s d).testBit m = false then
    let s1 := { s with path := { s.path with testing := vSet s.path.testing (poolNum d) (some m) } }
    if memberDecodes c (poolTestWord form).1 (poolTestWord form).2 = some (List.replicate 544 0) then s1 else fenceMember s1 d m 2
  else s

def execPoolIdleTest (d : Dir) (member : Fin 16) (form : PoolTest) (conduct : MemberConduct) (s : State) :
    Host.Outcome State Fault Refusal :=
  .next (poolIdleTest d member form conduct s)

def dirOf (w : Nat) : Dir := if w % 2 = 0 then .tx else .rx

/-- FEC_FENCE's own part (R133, R144). -/
def fecFence (c : Cmd) : State → State × Reply :=
  let d := dirOf (c.w 2)
  let m := c.w 3
  withChecks (fun s =>
      [((fencedMask s d).testBit m || (c.w 4 == 0 && decide (unfenced s d - 1 < poolNeed s)), stState, 0)])
    fun s => (fenceMember s d m 3, .done stOK 0 0 0)

def execFecFence (c : Cmd) (s : State) : Host.Outcome State Fault Refusal :=
  .next (hostCmd 0x0240 [(2, 1), (3, 15), (4, 1)] noGate c (fecFence c) s)

/-- FEC_UNFENCE's own part: the tests begin. -/
def fecUnfence (c : Cmd) : State → State × Reply :=
  let d := dirOf (c.w 2)
  withChecks (fun s =>
      [(!(fencedMask s d).testBit (c.w 3), stState, 0),
       (s.mgmt.inProgress.any fun q => q.opcode == 0x0241 && q.key / 16 == poolNum d, stBusy, 0)])
    fun s => (s, .later (poolNum d * 16 + c.w 3) 0)

def execFecUnfence (c : Cmd) (s : State) : Host.Outcome State Fault Refusal :=
  .next (hostCmd 0x0241 [(2, 1), (3, 15)] noGate c (fecUnfence c) s)

/-- UNFENCE_TEST_END (R133): the 256 test codewords have passed, or one has failed. -/
def unfenceTestEnd (d : Dir) (pass : Bool) (s : State) : State :=
  match s.mgmt.inProgress.find? fun q => q.opcode == 0x0241 && q.key / 16 == poolNum d with
  | none => s
  | some q =>
    let m := q.key % 16
    if pass then
      let s1 := if (fencedMask s d).testBit m then setFenced s d (fencedMask s d - 2 ^ m) else s
      let s2 := raiseEvent s1 (ev 0x8241 (locPoolMember (poolNum d) m) (poolNum d + m * 2 ^ 4))
      completeProg (poolShow s2) 0x0241 q.key stOK 0 0 0
    else completeProg s 0x0241 q.key stHwFault 0 0 0

def execUnfenceTestEnd (d : Dir) (pass : Bool) (s : State) : Host.Outcome State Fault Refusal := .next (unfenceTestEnd d pass s)

/-! A codeword's judgement (R128-R138). -/

/-- What becomes of a codeword: the state, its symbols, the reasons of R135 (bit r), whether it arrived marked, and the count
of corrected symbols when it was decoded. -/
structure Judged where
  s : State
  word : List Nat
  reasons : Nat
  markedIn : Bool
  corrected : Option Nat

/-- The pool's part (R128-R132). -/
def poolDecode (s : State) (p : Nat) (d : Dir) (w : List Nat) (erased : List Bool) (k : CodewordCond) : Judged :=
  let markedIn := rsMarkedIn (rsSyndromes w)
  let eraseEn := d == .rx && (portPath s p d).fec.1
  match (if poolShort s d && k.noFree then none else nextMember s d) with
  | none => ⟨s, w, 2 ^ 3, markedIn, none⟩
  | some m =>
    let s1 := { s with path := { s.path with
      next := vSet s.path.next (poolNum d) ((m + 1) % 16)
      poolNow := vMod s.path.poolNow (poolNum d) (· + 1) } }
    let f := if eraseEn then (erased.filter id).length else 0
    let s2 := if d = .rx then bump s1 (cntErasure p f) 1 else s1
    match k.member with
    | .wrong => ⟨fenceMember s2 d m 1, w, 2 ^ 4, markedIn, none⟩
    | .failing => ⟨s2, w, 2, markedIn, none⟩
    | .good => match (rsDecodeWith w erased eraseEn (portPath s p d).fec.2.1).1 with
      | some (v, n) => ⟨s2, v, 0, markedIn, some n⟩
      | none => ⟨s2, w, 2, markedIn, none⟩

/-- The syndrome unit's part in PASS (R138): classes, and a symbol from a flagged slice (R64). -/
def passCheck (s : State) (p : Nat) (d : Dir) (w : List Nat) (slice : Bool) : Judged :=
  let syn := rsSyndromes w
  let markedIn := rsMarkedIn syn
  let s1 := if markedIn then s else bump s (cntPort p d (if syn.all (· == 0) then 11 else 12)) 1
  ⟨s1, w, b2n slice * 2 ^ 7, markedIn, none⟩

/-- A region went to its understudy PLL less than 200 microseconds ago (R14). -/
def switching (s : State) (at? : Option Nat) : Bool := at?.isSome && !sinceNs s at? 200000

/-- The lanes on which a direction of a port receives, that are in such a region. -/
def switchedLanes (s : State) (p : Nat) (d : Dir) : List LaneId :=
  match d with
  | .rx => ((portLines s p).filter fun n => switching s (vGet s.path.lineSwitch (n / 4) none)).map lineOf
  | .tx => ((portHosts s p).filter fun n => switching s (vGet s.path.hostSwitch (n / 8) none)).map hostOf

/-- The codeword was lost in a PLL switchover (R14, R135): it falls in one of its lanes' regions, and such a lane has LOL or the codeword
did not arrive correct (log entry 154). -/
def lostInSwitchover (s : State) (p : Nat) (d : Dir) (j : Judged) (w : List Nat) : Bool :=
  let ls := switchedLanes s p d
  !ls.isEmpty && (ls.any (laneLol s) || j.reasons.testBit 1 ||
    (passMode s p && !j.markedIn && !(rsSyndromes w).all (· == 0)))

/-- Bits that line lane x carried of a codeword: in INNER with its inner overhead; superblock codeword a of 0 to 3 takes its
share of a whole number. -/
def laneBits (s : State) (p a : Nat) : Nat :=
  if innerCode s then (a + 1) * (23120 / portWidth s p) / 4 - a * (23120 / portWidth s p) / 4 else 5440 / portWidth s p

/-- The lanes' statistics of a successful decoding (R141). -/
def creditLanes (s : State) (p a : Nat) (w v : List Nat) : State :=
  (List.range (portWidth s p)).foldl (fun t i =>
    let bits := (((w.zip v).zipIdx.filter fun e => e.2 % portWidth s p == i).map fun e =>
      ((symBits (e.1.1 ^^^ e.1.2)).filter id).length).sum
    bump (bump t (cntLine (physOf s p i) 14) bits) (cntLine (physOf s p i) 15) (laneBits s p a)) s

/-- A marked codeword flags the BER windows of the lanes that carried it (R292). -/
def flagBer (s : State) (p : Nat) : State :=
  { s with obs := { s.obs with ber := (portLines s p).foldl (fun v x => vMod v x fun b => { b with undecoded := true }) s.obs.ber } }

/-- At a superblock or codeword boundary the FEC settings come into force, and a window that a GO restarts starts anew (R143). -/
def fecTake (s : State) (p : Nat) (d : Dir) : State :=
  let x := portPath s p d
  let y := { x with
    fec := (rdE s F.FEC_CTRL_ERASE_EN p == 1, rdE s F.FEC_CTRL_EO_FALLBACK p == 1, rdE s F.FEC_CTRL_SD_EN p == 1)
    fecDue := false }
  setPortPath s p d (if x.fecDue then { y with
    sdCount := 0
    sdSum := 0
    sdMarked := false
    sdIn := false } else y)

/-- A judged codeword counts in the window of signal degrade, in TERMINATE (R142). -/
def sdCount (x : PortPath) (reasons : Nat) (markedIn : Bool) (corrected : Option Nat) : PortPath :=
  { x with
    sdCount := x.sdCount + 1
    sdSum := x.sdSum + (match reasons, corrected with
      | 0, some n => n
      | _, _ => 31)
    sdMarked := x.sdMarked || reasons != 0
    sdIn := x.sdIn || markedIn }

/-- The direction's blocks are framed anew behind a rate-match FIFO: in ASYNC, in TERMINATE (R157, R158). -/
def reframed (s : State) (p : Nat) : Bool := asyncMode s && !passMode s p

/-- A codeword of a TERMINATE direction counts in CORR_0 to CORR_UNC (R291): delivered unmarked with n symbols corrected, or marked. -/
def countCorr (s : State) (p : Nat) (d : Dir) (marked : Bool) (corrected : Option Nat) : State :=
  if passMode s p then s else bump s (cntPort p d (match marked, corrected with
    | false, some n => 16 + n
    | _, _ => 47)) 1

/-- Parity errors of the port's buffers are reported (R364). -/
def parityErrors (s : State) (p : Nat) (buffers : List Nat) : State :=
  buffers.foldl (fun t b => raiseParity t (3 * p + b) (b + 1) p (locPort p)) s

/-- A codeword passes the marking point in an open brown-out window (R370). -/
def windowMark (s : State) : State := { s with faults := { s.faults with windowMarked := true } }

/-- The whole judgement of a codeword at the decoder's output or the syndrome unit: reasons of R135 gathered, statistics counted (R141,
R290, R291). Where its blocks are framed anew, what belongs to the re-encoder's output is judged there: the brown-out window (R370), parity
at its input, and host-to-line the CORR counters, as SC_TX counts what leaves (log entry 170). -/
def judge (s : State) (p : Nat) (d : Dir) (a : Nat) (w : List Nat) (erased : List Bool) (slice : Bool) (k : CodewordCond) : Judged :=
  let lost := d == .rx && lostMask s p != 0
  let j := if passMode s p then passCheck s p d w slice
    else if lost then ⟨s, w, 0, rsMarkedIn (rsSyndromes w), none⟩ else poolDecode s p d w erased k
  let again := reframed s p
  let window := s.faults.window.isSome && !again
  let parity := !k.parity.isEmpty || (!again && !passMode s p && !k.blocks.isEmpty)
  let reasons := j.reasons + b2n lost * 2 ^ 2 + b2n parity * 2 ^ 5 + b2n window * 2 ^ 6 + b2n (lostInSwitchover s p d j w) * 2 ^ 8
  let s1 := parityErrors j.s p (k.parity.map (·.val))
  let s2 := if window then windowMark s1 else s1
  let s3 := if j.markedIn then bump s2 (cntPort p d 10) 1 else s2
  let s4 := (List.range 9).foldl (fun t r => if r ≠ 0 ∧ reasons.testBit r then bump t (cntPort p d r) 1 else t) s3
  let s5 := if again && d == .tx then s4 else countCorr s4 p d (reasons != 0) j.corrected
  let s6 := match d, j.corrected with
    | .rx, some _ => creditLanes s5 p a w j.word
    | _, _ => s5
  let s7 := if d = .rx ∧ reasons ≠ 0 then flagBer s6 p else s6
  let x := { portPath s7 p d with reasons := reasons + b2n j.markedIn, corrected := j.corrected }
  ⟨setPortPath s7 p d (if x.fec.2.2 && !passMode s7 p then sdCount x reasons j.markedIn j.corrected else x),
    j.word, reasons, j.markedIn, j.corrected⟩

/-- SD_WINDOW_END (R142): the window of 2^WIN codewords is full. -/
def sdWindowEnd (p : Nat) (d : Dir) (s : State) : State :=
  let x := portPath s p d
  if x.fecDue = true ∨ x.sdCount < 2 ^ rdE s F.FEC_SD_CTRL_WIN p ∨ rdE s F.FEC_CTRL_SD_EN p = 0 ∨ passMode s p then s else
    let (fSd, fUnc, fIn) := match d with
      | .tx => (F.FEC_STATUS_TX_SD, F.FEC_STATUS_TX_UNCORR, F.FEC_STATUS_TX_MARKED_IN)
      | .rx => (F.FEC_STATUS_RX_SD, F.FEC_STATUS_RX_UNCORR, F.FEC_STATUS_RX_MARKED_IN)
    let old := rd s fSd p == 1
    let new := if rdE s F.FEC_SD_SET_SD_SET p ≤ x.sdSum then true else if x.sdSum < rdE s F.FEC_SD_CLR_SD_CLR p then false else old
    let s1 := wrB (wrB (wrB s fSd new p) fUnc x.sdMarked p) fIn x.sdIn p
    let s2 := setPortPath s1 p d { x with sdCount := 0, sdSum := 0, sdMarked := false, sdIn := false }
    if old = new then s2 else raiseEvent s2 (ev 0x8243 (locPort p) (poolNum d + b2n new * 2))

def execSdWindowEnd (port : Fin 8) (d : Dir) (s : State) : Host.Outcome State Fault Refusal := .next (sdWindowEnd port d s)

/-! Rate matching (R158-R161). -/

/-- The twenty 257-bit blocks of a codeword's message, first block first, and the message of twenty blocks (R118). -/
def messageBlocks (w : List Nat) : List (BitVec 257) :=
  let bs := (w.take 514).flatMap symBits
  (List.range 20).map fun b => BitVec.ofNat 257 (bitsSym ((bs.drop (257 * b)).take 257))

def blocksMessage (bl : List (BitVec 257)) : List Nat :=
  let bs := bl.flatMap fun b => (List.range 257).map b.getLsbD
  (List.range 514).map fun t => bitsSym ((bs.drop (10 * t)).take 10)

/-- One block at the input: removed (marker region), deleted, discarded by an overflow, or stored. The answer says whether it
slipped. -/
def rmPush (hyst : Nat) (r : RateMatch) (b : BitVec 257) (marker : Bool) (flag : Bool) : RateMatch × Bool :=
  if marker then ({ r with inIdle := false }, false)
  else
    let idle := Config.isIdle b
    if idle && r.inIdle && decide (910 + hyst < r.entries.length) then (r, false)
    else if 1820 ≤ r.entries.length then ({ r with flagNext := true, inIdle := idle }, true)
    else ({ r with entries := r.entries ++ [⟨b, idle, flag || r.flagNext⟩], flagNext := false, inIdle := idle }, false)

/-- One block at the output: block, mark flag, and whether it slipped. An empty FIFO gives R161's flagged idle block also where R159 would
insert one (log entry 171). -/
def rmPull (hyst : Nat) (r0 : RateMatch) : RateMatch × BitVec 257 × Bool × Bool :=
  let r := if 910 ≤ r0.entries.length then { r0 with priming := false } else r0
  if r.priming then ({ r with outIdle := true }, Config.idleBlock, false, false)
  else if r.outIdle && decide (r.entries.length + hyst < 910) && !r.entries.isEmpty then
    (r, Config.idleBlock, false, false)
  else match r.entries with
    | [] => ({ r with outIdle := true }, Config.idleBlock, true, true)
    | e :: es => ({ r with entries := es, outIdle := e.idle }, e.block, e.flag, false)

/-- A slip is counted and raised (R161). -/
def rmSlipped (s : State) (p : Nat) (d : Dir) (under : Bool) : State :=
  let s1 := setPortPath s p d { portPath s p d with rm := { (portPath s p d).rm with sinceSlip := some 0 } }
  raiseEvent (bump s1 (cntPort p d 13) 1) (ev 0x8251 (locPort p) (poolNum d + b2n under * 2))

def rmHyst (s : State) (p : Nat) : Nat := rdE s F.PCS_RM_CTRL_HYST p

/-- Block b of the n-th codeword of a group belongs to the marker region of the port's format, which lies in the first four codewords
(R146, log entry 150). -/
def markerAt (s : State) (p n b : Nat) : Bool := decide (n < 4) && Config.isMarker (portFormat s p) n b

/-- The blocks of the n-th codeword of a group enter the FIFO. -/
def rmInput (s : State) (p : Nat) (d : Dir) (n : Nat) (w : List Nat) (flag : Bool) : State :=
  rmShow ((messageBlocks w).zipIdx.foldl (fun t e =>
    let r := rmPush (rmHyst t p) (portPath t p d).rm e.1 (markerAt t p n e.2) flag
    let t1 := setPortPath t p d { portPath t p d with rm := r.1 }
    if r.2 then rmSlipped t1 p d false else t1) s) p d

/-- A block goes out: a slip's age grows, markers' blocks included (R162, log entry 172). -/
def rmAge (r : RateMatch) : RateMatch :=
  { r with sinceSlip := r.sinceSlip.bind fun k => if k + 1 < 2 ^ 20 then some (k + 1) else none }

/-- What the blocks of an outgoing codeword bring to the re-encoder: whether one carries a flag, and whether one fails its parity. -/
structure ReEncoded where
  s : State
  blocks : List (BitVec 257)
  flagged : Bool
  failed : Bool

/-- The blocks at these places of a codeword: a marker where it is given, else one from the FIFO, with the parity errors found in it on the
way to the re-encoder (R364, R372): of the FIFO's words (true) or of the block. No idle block is inserted next to a marker region (R159). -/
def rmOutput (p : Nat) (d : Dir) : List (Option (BitVec 257) × List Bool) → State → ReEncoded
  | [], s => ⟨s, [], false, false⟩
  | (some b, _) :: more, s =>
    let x := portPath s p d
    let rest := rmOutput p d more (setPortPath s p d { x with rm := { rmAge x.rm with outIdle := false } })
    ⟨rest.s, b :: rest.blocks, rest.flagged, rest.failed⟩
  | (none, fails) :: more, s =>
    let x := portPath s p d
    let q := rmPull (rmHyst s p) x.rm
    let s1 := setPortPath s p d { x with rm := rmAge q.1 }
    let s2 := if q.2.2.2 then rmSlipped s1 p d true else s1
    let mine := if q.1.entries.length < x.rm.entries.length then fails else []
    let rest := rmOutput p d more (parityErrors s2 p ((mine.filter id).map fun _ => 2))
    ⟨rest.s, q.2.1 :: rest.blocks, q.2.2.1 || rest.flagged, !mine.isEmpty || rest.failed⟩

/-! What leaves toward the lanes (R120, R124, R145, R166). -/

/-- The marker blocks of a codeword that is the n-th of its group, by place in it: generated afresh, with the BIP of what has left
(R158). -/
def freshMarkers (s : State) (p : Nat) (d : Dir) (n : Nat) : List (Option (BitVec 257)) :=
  (List.range 20).map fun b =>
    if markerAt s p n b then some (Config.markerBlock (portFormat s p) n b (portPath s p d).bip) else none

/-- A codeword of fault fill, the next of its stream (R166): markers, and local fault ordered sets in every other block. -/
def fillWord (s : State) (p : Nat) (d : Dir) : List Nat :=
  rsEncode (blocksMessage ((freshMarkers s p d (portPath s p d).outAt).map fun b => b.getD Config.faultBlock))

/-- Marker groups kept: at 13.1 microseconds between two of them, the least, they reach further back than a HELLO is long (R216). -/
def groupsKept : Nat := 16

/-- A marker group's first codeword passes, sent or received at this instant (R215, R216). -/
def noteGroup (s : State) (p : Nat) (d : Dir) (instant : Nat) : State :=
  let x := portPath s p d
  setPortPath s p d { x with groups := (((showClock s p d).extended, instant) :: x.groups).take groupsKept }

/-- The n-th codeword of a group, unmarked or marked (R134), is what the direction sent last. -/
def putOut (s : State) (p : Nat) (d : Dir) (n : Nat) (w : List Nat) (marked : Bool) : State :=
  let out := if marked then rsMarked w else w
  let s1 := if marked then bump s (cntPort p d 9) 1 else s
  let x := portPath s1 p d
  setPortPath s1 p d { x with
    out := out.map (BitVec.ofNat 10)
    outAt := (n + 1) % markerPeriod (portFormat s p)
    bip := (messageBlocks out).foldl Config.bipStep x.bip }

/-- The port streams of a format: two in dual 1.6T, codewords alternating (R145). -/
def streamCount (format : Nat) : Nat := if format = 4 then 2 else 1

/-- The host lanes of a stream, and the format of each stream. -/
def streamHosts (s : State) (p k : Nat) : List Nat := if portFormat s p = 4 then ((portHosts s p).drop (8 * k)).take 8 else portHosts s p
def streamFormat (format : Nat) : Nat := if format = 4 then 3 else format

/-- Symbols on each host lane of four codewords of its stream. -/
def hostSpan (s : State) (p : Nat) : Nat := 10880 / (streamHosts s p 0).length

/-- A window of codewords goes out on the host lanes: each stream's four codewords, bit by bit by the format (R145). -/
def hostSend (s : State) (p : Nat) (ws : List (List Sym)) : State :=
  let fmt := portFormat s p
  (List.range (streamCount fmt)).foldl (fun t k =>
    let mine := everyNth (streamCount fmt) k ws
    (streamHosts s p k).zipIdx.foldl (fun u e =>
      laneSend u (hostOf e.1) 0 (hostSpan s p) (some (valuesOfBits ((List.range (2 * hostSpan s p)).map fun b =>
        Config.hostBit (streamFormat fmt) e.2 b mine)))) t) s

/-- A line-to-host codeword, the n-th of its group, joins the window of four codewords a stream; a full window goes out. -/
def toHost (s : State) (p n : Nat) : State :=
  let x := portPath s p .rx
  let size := 4 * streamCount (portFormat s p)
  let ws := (if n % size = 0 then [] else x.window) ++ [x.out]
  if ws.length = size then hostSend (setPortPath s p .rx { x with window := [] }) p ws
  else setPortPath s p .rx { x with window := ws }

/-- A host-to-line codeword, the n-th of its group, goes out on the line lanes (R120, R124): in PLAIN at once, in INNER with its
superblock, which a group begins (R122). -/
def toLine (s : State) (p n : Nat) : State :=
  let w := portWidth s p
  let now := (showClock s p .tx).count
  let out := (portPath s p .tx).out
  if innerCode s then
    let cws := (if n % 4 = 0 then [] else vGet s.path.superTx p []) ++ [out]
    if cws.length = 4 then
      let inner := superEncode (cws.map fun c => c.map (·.toNat))
      let s1 := { s with path := { s.path with
        superTx := vSet s.path.superTx p []
        innerTx := vSet s.path.innerTx p inner } }
      (List.range w).foldl (fun t i =>
        laneSend t (lineOf (p + i)) (bankFor t p (p + i) (now - 3) 4) (lineSymbols s p 4) (some (innerLane w i inner))) s1
    else { s with path := { s.path with superTx := vSet s.path.superTx p cws } }
  else (List.range w).foldl (fun t i =>
    laneSend t (lineOf (p + i)) (bankFor t p (p + i) now 1) (lineSymbols s p 1) (some (plainLane w i (out.map (·.toNat))))) s

/-- A codeword of the stream leaves, the n-th of its group. Between steps a show clock stands at the number of the codeword that passes
next (R24, R295, log entry 156): host-to-line, SC_TX moves on as this one has reached lane distribution. -/
def sendWord (p : Nat) (d : Dir) (n : Nat) (w : List Nat) (marked : Bool) (s : State) : State :=
  let s1 := putOut s p d n w marked
  match d with
  | .rx => toHost s1 p n
  | .tx =>
    let s2 := toLine (if n = 0 then noteGroup s1 p .tx s1.time.tick else s1) p n
    bump (setShowClock s2 p .tx ((showClock s2 p .tx).advance 1)) (cntPort p .tx 0) 1

/-- Where a direction is not aligned its transmitters' time passes: those not at idle, in their burst or with a generator carry fault
fill, whose groups go on from the last one sent (R165, R166, R180, log entry 148). -/
def sendFill (s : State) (p : Nat) (d : Dir) : State :=
  let n := (portPath s p d).outAt
  let s1 := putOut s p d n (fillWord s p d) false
  match d with
  | .rx => toHost s1 p n
  | .tx => toLine (if n = 0 then noteGroup s1 p .tx s1.time.tick else s1) p n

/-- An outgoing codeword is marked at the re-encoder: for parity at its input (R372) or in a brown-out window (R370), which count as reasons
here, or for a flagged block (R136, R161). -/
def rmMark (s : State) (p : Nat) (d : Dir) (flagged failed : Bool) : State :=
  let window := s.faults.window.isSome
  let s1 := if failed then bump s (cntPort p d 5) 1 else s
  let s2 := if window then bump (windowMark s1) (cntPort p d 6) 1 else s1
  if flagged || failed || window then
    let s3 := if d = .rx then flagBer s2 p else s2
    let x := portPath s3 p d
    setPortPath s3 p d { x with sdMarked := x.sdMarked || x.fec.2.2 }
  else s2

/-- The codewords that a rate-match output forms (R158): markers afresh, blocks from the FIFO, a mark for any flagged block; with each the
parity errors of its blocks, by place among the blocks still to leave. -/
def rmFrames (p : Nat) (d : Dir) : Nat → List (Nat × Bool) → State → State
  | 0, _, s => s
  | k + 1, fails, s0 =>
    let s := cuesReach s0
    let n := (portPath s p d).outAt
    let at_ := fun b => (fails.filter (·.1 == b)).map (·.2)
    let r := rmOutput p d ((freshMarkers s p d n).zipIdx.map fun e => (e.1, at_ e.2)) s
    let marked := r.flagged || r.failed || r.s.faults.window.isSome
    let s1 := rmMark (rmShow r.s p d) p d r.flagged r.failed
    let s2 := if d = .tx then countCorr s1 p d marked (portPath s1 p d).corrected else s1
    rmFrames p d k ((fails.filter (20 ≤ ·.1)).map fun e => (e.1 - 20, e.2)) (sendWord p d n (rsEncode (blocksMessage r.blocks)) marked s2)

/-- The flow observer taps the stream behind the decoder (host-to-line stage 4, line-to-host stage 6; R299): the blocks join what it has of
frames still to end, and the frames whose last FCS byte lies in this codeword wait for the lookup. -/
def flowTap (s : State) (p : Nat) (d : Dir) (w : List Nat) (marked : Bool) : State :=
  let x := portPath s p d
  if flowEn s p d then
    let bl := x.tap ++ messageBlocks w
    let ended := (Config.framesIn bl).filter fun f => decide (x.tap.length ≤ f.2) && decide (f.2 < bl.length)
    let number := if d = .rx then (showClock s p d).count - 1 else (showClock s p d).count
    setPortPath s p d { x with
      tap := bl.drop (Config.framesDone bl)
      frames := x.frames ++ ended.map fun f => ⟨f.1, marked, BitVec.ofNat 32 (number.toNat / 2 ^ 12)⟩ }
  else if x.tap.isEmpty then s else setPortPath s p d { x with tap := [] }

/-- From the judgement to the output (R134, R136): past the flow observer's tap, through the FIFO in ASYNC, else straight on; the input's count of its group goes on. -/
def pathOut (j : Judged) (p : Nat) (d : Dir) (k : CodewordCond) : State :=
  let s0 := flowTap j.s p d j.word (j.reasons != 0)
  let x := portPath s0 p d
  let s1 := setPortPath s0 p d { x with inAt := (x.inAt + 1) % markerPeriod (portFormat j.s p) }
  if asyncMode s1 then rmFrames p d k.outs k.blocks (rmInput s1 p d x.inAt j.word (j.reasons != 0))
  else sendWord p d x.inAt j.word (j.reasons != 0) s1

/-! Host to line. -/

/-- Codes reach the port's lanes, in the lanes' order. -/
def portStream (s : State) (ls : List LaneId) (codes : List (List Int)) : State :=
  (ls.zip codes).foldl (fun t e => rxStream t e.1 e.2) s

/-- What each PCS lane on these host lanes brought of the next four codewords: its number and its symbols; none while one is still to
come. -/
def pcsSegments (s : State) (ns : List Nat) (span : Nat) : Option (List (Nat × List RxSym)) :=
  (ns.flatMap fun n => (hostAt s n).map fun e => (e.1, segment (rxRec s (hostOf n)) e.2 span)).foldr
    (fun e acc => match e.2, acc with
      | some xs, some ys => some ((e.1, xs) :: ys)
      | _, _ => none) (some [])

/-- PCS lanes in the order of their numbers, as bits after precoding decode (R147, R185). -/
def pcsBits (xs : List (Nat × List RxSym)) : List (Nat × List Bool) :=
  (xs.mergeSort fun a b => decide (a.1 ≤ b.1)).map fun e => (e.1, e.2.flatMap fun x => pairBits x.dec)

/-- The host lanes have been read up to a window's end. -/
def hostAdvance (s : State) (ns : List Nat) (span : Nat) : State :=
  ns.foldl (fun t n => setHostAt t n ((hostAt t n).map fun e => (e.1, e.2 + span))) s

/-- The next codeword of an aligned host-to-line direction, rebuilt from the PCS lanes (R147), with whether a flagged slice gave any of
its window's samples; none while its lanes have not brought it. -/
def hostWord (s : State) (p : Nat) : Option (List Nat × Bool × State) :=
  let fmt := portFormat s p
  let q := (portPath s p .tx).inAt % (4 * streamCount fmt)
  let ns := streamHosts s p (q % streamCount fmt)
  match pcsSegments s ns (hostSpan s p) with
  | none => none
  | some segs =>
    let bits := pcsBits segs
    let w := (List.range 544).map fun t => (Config.hostSymbol (streamFormat fmt) (q / streamCount fmt) t bits).toNat
    some (w, segs.any fun e => e.2.any (·.zeroed), if q / streamCount fmt = 3 then hostAdvance s ns (hostSpan s p) else s)

/-- HOST_TO_LINE_CODEWORD (R6, R24, R128-R138, R145-R147, R158, R165, R180): the host lanes bring codes; the next codeword of an aligned
direction passes; else the line's time passes. -/
def hostToLine (p : Nat) (codes : List (List Int)) (k : CodewordCond) (s : State) : State :=
  if portEnabled s p && !rehearsing s 3 p then
    let s1 := portStream (cuesReach s) ((portHosts s p).map hostOf) codes
    if txAligned s1 p then
      match hostWord s1 p with
      | none => s1
      | some (w, slice, s2) =>
        let s3 := if (vGet s2.path.superTx p []).isEmpty || !innerCode s2 then fecTake s2 p .tx else s2
        pathOut (judge s3 p .tx 0 w [] slice k) p .tx k
    else sendFill s1 p .tx
  else s

def execHostToLineCodeword (port : Fin 8) (codes : List (List Int)) (k : CodewordCond) (s : State) : Host.Outcome State Fault Refusal :=
  .next (hostToLine port codes k s)

/-! Line to host. -/

/-- The segments of a codeword, or in INNER of a superblock, that the logical lanes bring from their places on; none while a lane's is
still to come. Two symbols more of each lane are waited for: the gatherer's context reaches so far (R109). -/
def lineSegments (s : State) (p span : Nat) : Option (List (List RxSym)) :=
  (List.range (portWidth s p)).foldr (fun i acc =>
    let x := physOf s p i
    match segment (rxRec s (lineOf x)) (lineAt s x) (span + 2), acc with
    | some xs, some ys => some (xs.take span :: ys)
    | _, _ => none) (some [])

/-- One symbol joins the statistics (R109): the error under its context. -/
def gatherOne (g : Gatherer) (ctx : Nat) (err : Int) : Gatherer :=
  let o := (aGet g.sums ctx).getD (0, 0)
  { g with
    sums := aSet g.sums ctx (satI 40 (o.1 + err), min (2 ^ 24 - 1) (o.2 + 1))
    total := min (2 ^ 32 - 1) (g.total + 1) }

/-- Symbols with their neighbours, from the third on. -/
def gatherRun : List RxSym → Gatherer → Gatherer
  | a :: b :: c :: d :: e :: rest, g =>
    gatherRun (b :: c :: d :: e :: rest) (if c.skipped then g else
      gatherOne g (256 * a.value + 64 * b.value + 16 * c.value + 4 * d.value + e.value) c.err)
  | _, g => g

/-- The gatherer of a lane takes the symbols at these places of its stream, while its window is open (R109). -/
def gatherTake (s : State) (n at0 span : Nat) : State :=
  match gatherOf s n with
  | some g =>
    if rd s F.LEQ_XA_GATHER_STATE n = 2 ∧ g.set.isNone then
      let r := rxRec s (lineOf n)
      let first : RxSym := ⟨0, 0, 0, 0, 0, 0, 0, 0, false, true⟩
      let xs := List.replicate (2 - at0) first ++ (symsFrom r (at0 - 2)).take (span + 2 + min 2 at0)
      gatherLevels (setGather s n (some (gatherRun xs g))) n
    else s
  | none => s

/-- The codeword's place in the gatherers' windows: they open as SC_RX reaches M, and a codeword beyond the last gives nothing. -/
def gatherLanes (s : State) (p span : Nat) (at_ : List (Nat × Nat)) : State :=
  at_.foldl (fun t e => match gatherOf t e.1 with
    | some g => if ((showClock t p .rx).count - g.m).toNat < 4096 * g.len then gatherTake t e.1 e.2 span else t
    | none => t) (gatherFollow s p)

/-- The lanes have been read up to the segments' end. -/
def lineAdvance (s : State) (p span : Nat) : State := (portLines s p).foldl (fun t x => setLineAt t x (lineAt t x + span)) s

/-- Element t of interleaved lists: t mod w, place t div w. -/
def interleaved {α : Type} (d : α) (xs : List (List α)) (n : Nat) : List α :=
  (List.range n).map fun t => ((xs[t % xs.length]?.getD [])[t / xs.length]?).getD d

/-- Runs of n elements. -/
def chunks {α : Type} (n : Nat) : Nat → List α → List (List α)
  | 0, _ => []
  | k + 1, xs => xs.take n :: chunks n k (xs.drop n)

/-- A codeword from the logical lanes' segments in PLAIN (R119, R120): values after precoding decode, ten bits a symbol. -/
def plainWord (w : Nat) (segs : List (List RxSym)) : List Nat :=
  interleaved 0 (segs.map fun xs => (chunks 5 (544 / w) xs).map fun c => bitsSym (c.flatMap fun x => pairBits x.dec)) 544

/-- The inner codewords of a superblock from the logical lanes' segments (R121, R124): bits with their reliabilities (R84, R85). -/
def innerWords (w : Nat) (segs : List (List RxSym)) : List (List (Bool × Nat)) :=
  interleaved [] (segs.map fun xs => (chunks 85 (136 / w) xs).map fun c => c.flatMap fun x => (pairBits x.dec).zip [x.r0, x.r1]) 136

/-- The inner codewords of a superblock are decoded on their lanes (R126, R127, R141). -/
def innerStage (s : State) (p : Nat) (words : List (List (Bool × Nat))) : State :=
  let w := portWidth s p
  let lane := fun j => physOf s p (j % w)
  let res := words.zipIdx.map fun e =>
    innerDecode (rdE s F.FEC_INNER_CTRL_ERASE_THR (lane e.2)) (e.1.map (·.1)) (e.1.map (·.2))
  let s1 := res.zipIdx.foldl (fun t e =>
    let n := lane e.2
    let t1 := bump t (cntLine n (match e.1.1 with
      | .clean => 9
      | .hard => 10
      | .chase => 11
      | .failed => 12)) 1
    bump t1 (cntLine n 13) e.1.2.2) s
  { s1 with path := { s1.path with superRx := vSet s1.path.superRx p ((List.range 4).map fun a =>
    (superCodeword res a).map fun x => (BitVec.ofNat 10 x.1, x.2)) } }

/-- A codeword leaves deskew: SC_RX advances (R24); a group's first has come when its first symbol came on logical lane 0 (R216, log
entry 151). -/
def rxClock (s : State) (p : Nat) (places : List (Nat × Nat)) : State :=
  let first := (places.find? (·.1 == physOf s p 0)).getD (p, 0)
  let s1 := if (portPath s p .rx).inAt = 0 then noteGroup s p .rx (streamInstant s first.1 first.2) else s
  bump (setShowClock s1 p .rx ((showClock s1 p .rx).advance 1)) (cntPort p .rx 0) 1

/-- A codeword of PLAIN. -/
def plainReceive (s : State) (p : Nat) (segs : List (List RxSym)) (k : CodewordCond) : State :=
  let span := lineSymbols s p 1
  let places := (portLines s p).map fun x => (x, lineAt s x)
  let s1 := fecTake (rxClock (gatherLanes (lineAdvance s p span) p span places) p places) p .rx
  pathOut (judge s1 p .rx 0 (plainWord (portWidth s p) segs) [] (segs.any fun xs => xs.any (·.zeroed)) k) p .rx k

/-- The next codeword of a superblock that has left the inner decoders. -/
def superReceive (s : State) (p : Nat) (k : CodewordCond) : State :=
  match vGet s.path.superRx p [] with
  | [] => s
  | c :: cs =>
    let s1 := { s with path := { s.path with superRx := vSet s.path.superRx p cs } }
    pathOut (judge s1 p .rx (3 - cs.length) (c.map (·.1.toNat)) (c.map (·.2)) false k) p .rx k

/-- LINE_TO_HOST_CODEWORD (R24, R64, R84, R109, R119-R138, R145, R165): the line lanes bring codes; the next codeword of an aligned
direction passes; else the host lanes' time passes. -/
def lineToHost (p : Nat) (codes : List (List Int)) (k : CodewordCond) (s : State) : State :=
  if portEnabled s p && !rehearsing s 3 p then
    let s1 := portStream (cuesReach s) ((portLines s p).map lineOf) codes
    if rd s1 F.PCS_ALIGN_STATUS_RX_DESKEWED p = 1 then
      if innerCode s1 then
        if (vGet s1.path.superRx p []).isEmpty then
          let span := lineSymbols s1 p 4
          match lineSegments s1 p span with
          | none => s1
          | some segs =>
            let places := (portLines s1 p).map fun x => (x, lineAt s1 x)
            let s2 := innerStage (lineAdvance s1 p span) p (innerWords (portWidth s1 p) segs)
            superReceive (fecTake (rxClock (gatherLanes s2 p span places) p places) p .rx) p k
        else superReceive (rxClock (gatherFollow s1 p) p []) p k
      else match lineSegments s1 p (lineSymbols s1 p 1) with
        | none => s1
        | some segs => plainReceive s1 p segs k
    else sendFill (gatherFollow s1 p) p .rx
  else s

def execLineToHostCodeword (port : Fin 8) (codes : List (List Int)) (k : CodewordCond) (s : State) : Host.Outcome State Fault Refusal :=
  .next (lineToHost port codes k s)

end Sys2Proof.Machine
end

