-- ==== Sys2Proof/Machine/Align.lean ====
section
/-! DEFINITION. Marker lock, deskew and test-pattern checkers (chapter 08). -/

namespace Sys2Proof.Machine

open Sys2Proof

/-! The host side (R145-R147, R152, R197). -/

/-- A host lane's markers are usable: every PCS lane found on it is locked, with signal and timing. -/
def hostMarked (s : State) (n : Nat) (m : List PcsMark) : Bool :=
  !m.isEmpty && m.all (·.locked) && rd s F.HSL_STATUS_LOS n == 0 && rd s F.HSL_STATUS_LOL n == 0

def markOf (ms : Vector (List PcsMark) 16) (n : Nat) : List PcsMark := vGet ms n []

/-- The lowest of numbers, 0 of none. -/
def least (xs : List Nat) : Nat := xs.foldl min (xs.headD 0)

/-- HSL_ALIGN_STATUS of a lane at a group. -/
def hostLaneMark (s : State) (n : Nat) (m : List PcsMark) : State :=
  if hostMarked s n m then
    wr (wr s F.HSL_ALIGN_STATUS_LOCKED 1 n) F.HSL_ALIGN_STATUS_PCS_FIRST (least (m.map (·.pcs))) n
  else hostUnlock s n

/-- Every PCS lane of each of the port's streams is found, once (R147). -/
def pcsComplete (s : State) (p : Nat) (ms : Vector (List PcsMark) 16) : Bool :=
  let fmt := portFormat s p
  (List.range (streamCount fmt)).all fun k =>
    isPermutation (Config.pcsLanes (streamFormat fmt)) ((streamHosts s p k).flatMap fun n => (markOf ms n).map (·.pcs))

/-- The direction aligns on a group, or keeps its alignment: each lane's delay is shown, the least of its PCS lanes' (log entry 150). -/
def hostAlign (s : State) (p latest : Nat) (ms : Vector (List PcsMark) 16) : State :=
  let s1 := (portHosts s p).foldl (fun t n => wr t F.HSL_ALIGN_STATUS_SKEW (latest - ((markOf ms n).map (·.arrival)).foldl max 0) n) s
  if txAligned s1 p then s1
  else
    let s2 := (portHosts s1 p).foldl (fun t n => setHostAt t n ((markOf ms n).map fun e => (e.pcs, e.place))) s1
    setTxAligned (groupStart s2 p .tx) p true

/-- HOST_MARKER_GROUP (R146, R147, R152): what the format's own lock procedure finds on each host lane. The direction aligns when every
PCS lane is locked within the skew limit, 425 host symbols to the unit of 4 ns. -/
def hostMarkerGroup (p : Nat) (ms : Vector (List PcsMark) 16) (s : State) : State :=
  let st := linkState s p
  if portEnabled s p = false ∨ st = 0 ∨ st = 6 ∨ s.power.mode ≠ .show ∨ portRehearsing s p then s else
  let xs := portHosts s p
  let s1 := xs.foldl (fun t n => hostLaneMark t n (markOf ms n)) s
  if xs.all (fun n => hostMarked s1 n (markOf ms n)) && pcsComplete s1 p ms then
    let arrivals := xs.flatMap fun n => (markOf ms n).map (·.arrival)
    let latest := arrivals.foldl max 0
    if arrivals.all fun a => decide (latest - a ≤ rdE s1 F.PCS_ALIGN_CTRL_SKEW_LIMIT p * 425) then hostAlign s1 p latest ms
    else if txAligned s1 p then setTxAligned s1 p false else s1
  else if txAligned s1 p then setTxAligned s1 p false else s1

def execHostMarkerGroup (port : Fin 8) (marks : Vector (List PcsMark) 16) (s : State) : Host.Outcome State Fault Refusal :=
  .next (hostMarkerGroup port marks s)

/-! The line side (R148-R150). -/

/-- Where the m-th symbol of a reference begins on the lane, from the group's start (R148). -/
def refPlace (s : State) (m : Nat) : Nat := if innerCode s then 85 * m else 5 * m

/-- The values compared at a position, five for each of the eight symbols: after the inversion of the map in use, and with PRECODE = 1
after precoding decode (R148); none where they are still to be detected. -/
def markerValues (s : State) (x pos : Nat) : Option (List (List Nat)) :=
  let r := rxRec s (lineOf x)
  if pos + refPlace s 7 + 5 ≤ r.detected then
    some ((List.range 8).map fun m => ((symsFrom r (pos + refPlace s m)).take 5).map fun e =>
      if eqPrecode s (lineOf x) then e.dec else e.value)
  else none

/-- The value under polarity inversion (R149): the first bit of the pair complemented; after precoding decode (2 - g) mod 4. -/
def polarImage (precoded : Bool) (g : Nat) : Nat := if precoded then (6 - g % 4) % 4 else 3 - g % 4

/-- The bits of values that differ from the reference of logical lane i: symbols i + w m, of the bits to which the format gives a fixed
value (R148, R149). -/
def refDiffers (format w i : Nat) (vals : List (List Nat)) : Nat :=
  (vals.zipIdx.map fun e => ((e.1.flatMap pairBits).zipIdx.filter fun b =>
    (Config.markerBit format (i + w * e.2) b.2).elim false (· != b.1)).length).sum

/-- The reference and polarity that values match (R149); values that match more than once match none. D- counts the image of what was
received, which is the same as the image of the reference where both bits of a pair are fixed (log entry 84). -/
def markerMatch (s : State) (p x : Nat) (vals : List (List Nat)) : Option (Nat × Bool) :=
  let lim := rdE s F.PCS_ALIGN_CTRL_MATCH_ERR p
  let w := portWidth s p
  let image := vals.map fun v => v.map (polarImage (eqPrecode s (lineOf x)))
  let hits := (List.range w).flatMap fun i =>
    (if refDiffers (portFormat s p) w i vals ≤ lim then [(i, false)] else []) ++
      (if refDiffers (portFormat s p) w i image ≤ lim then [(i, true)] else [])
  match hits with
  | [h] => some h
  | _ => none

/-- A lock machine meets a position in SEARCH (R150). -/
def lockSeek (s : State) (p x pos arrival : Nat) (hit : Option (Nat × Bool)) : State :=
  let m := lockOf s x
  match hit with
  | some (i, inv) =>
    if m.resume ≤ pos then lockShow (setLock s x { m with
      state := 1
      candRef := i
      candInv := inv
      pos := pos
      arrival := arrival }) p
    else s
  | none => s

/-- It meets the expected position in CONFIRM: LOCKED, or SEARCH from the symbol after the one it confirmed. -/
def lockConfirm (s : State) (p x pos arrival : Nat) (hit : Option (Nat × Bool)) : State :=
  let m := lockOf s x
  if hit = some (m.candRef, m.candInv) then
    alignJudge (raiseLockChange (lockShow (setLock s x { m with
      state := 2
      seen := m.candRef
      inverted := m.candInv
      misses := 0
      mismatch := false
      pos := pos
      arrival := arrival }) p) x) p
  else lockShow (setLock s x { m with
    state := 0
    resume := m.pos + 1 }) p

/-- It meets the expected position in LOCKED (R150, R174). -/
def lockKeep (s : State) (p x pos arrival : Nat) (hit : Option (Nat × Bool)) : State :=
  let m := { lockOf s x with pos := pos, arrival := arrival }
  if hit = some (m.seen, m.inverted) then lockShow (setLock s x { m with misses := 0, mismatch := false }) p
  else
    let s1 := lockShow (setLock s x { m with misses := m.misses + 1, mismatch := hit.isSome }) p
    if rdE s1 F.PCS_ALIGN_CTRL_MISS_LIMIT p ≤ m.misses + 1 then lockLost s1 x else s1

/-- LINE_MARKER_GROUP (R148-R150, R488): a position of the lane's stream, which in CONFIRM and LOCKED counts when it is the expected one;
its `arrival` in line symbols on the port's common scale. -/
def lineMarkerGroup (x pos arrival : Nat) (s : State) : State :=
  match portOfLine s x, markerValues s x pos with
  | some p, some vals =>
    if linkState s p = 0 ∨ laneRuns s (lineOf x) = false ∨ laneLos s (lineOf x) then s else
    let m := lockOf s x
    let hit := markerMatch s p x vals
    if m.state = 0 then lockSeek s p x pos arrival hit
    else if pos ≠ m.pos + markerSpan s p then s
    else if m.state = 1 then lockConfirm s p x pos arrival hit
    else lockKeep s p x pos arrival hit
  | _, _ => s

def execLineMarkerGroup (lane : Fin 8) (pos arrival : Nat) (s : State) : Host.Outcome State Fault Refusal :=
  .next (lineMarkerGroup lane pos arrival s)

/-! Checkers (R154-R157, R198). -/

def setTpcPos (s : State) (l : LaneId) (v : Nat) : State := wrL s l F.LRX_TPC_STATUS_POS F.HSL_TPC_STATUS_POS v

def bumpLBy (s : State) (l : LaneId) (kLine kHost n : Nat) : State :=
  match l with
  | .line x => bump s (cntLine x kLine) n
  | .host x => bump s (cntHost x kHost) n

def slipOf (s : State) : LaneId → Nat
  | .line n => vGet s.path.lineSlip n 0
  | .host n => vGet s.path.hostSlip n 0

def setSlip (s : State) (l : LaneId) (v : Nat) : State :=
  match l with
  | .line n => { s with path := { s.path with lineSlip := vSet s.path.lineSlip n v } }
  | .host n => { s with path := { s.path with hostSlip := vSet s.path.hostSlip n v } }

/-- The checker starts anew: its register reloads (R156, R157). -/
def tpcReload (s : State) (l : LaneId) : State :=
  setRxRec s l { rxRec s l with tpc := { (rxRec s l).tpc with reg := 0, loaded := 0, agree := 0 } }

/-- A move that waits is made at the window's boundary, and clears LOCK (R157). -/
def slipApply (s : State) (l : LaneId) : State :=
  let k := slipOf s l
  if k = 0 then s else
    let len := patternBits (tpcPattern s l)
    tpcReload (setTpcLock (setSlip (setTpcPos s l (if len = 0 then 0 else (tpcPos s l + k) % len)) l 0) l false) l

/-- The window's verdict (R156): 64 errors drop LOCK and reload; fewer than 16 lock a checker with a pointer. -/
def tpcJudge (s : State) (l : LaneId) : State :=
  let t := (rxRec s l).tpc
  let prbs := decide (tpcPattern s l ≤ 2)
  let s2 := bumpLBy (bumpLBy s l 16 7 t.counted) l 18 9 t.bits
  if 64 ≤ t.errors then tpcReload (setTpcLock s2 l false) l
  else if prbs = false ∧ t.errors < 16 then setTpcLock s2 l true else s2

/-- The next window's counts start at 0. -/
def tpcClear (s : State) (l : LaneId) : State :=
  setRxRec s l { rxRec s l with tpc := { (rxRec s l).tpc with errors := 0, bits := 0, counted := 0 } }

/-- TPC_WINDOW_END (R156): a window of 1,024 bits ends. -/
def tpcWindowEnd (l : LaneId) (xs : List Int) (s : State) : State :=
  let s1 := rxStream s l xs
  if tpcEn s1 l = false ∨ laneRuns s1 l = false then s1 else slipApply (tpcClear (tpcJudge s1 l) l) l

def execTpcWindowEnd (l : LaneId) (codes : List Int) (s : State) : Host.Outcome State Fault Refusal :=
  .next (tpcWindowEnd l codes s)

/-- TPC_SLIP's own part (R157, R163). -/
def tpcSlip (c : Cmd) : State → State × Reply :=
  let n := c.w 2 % 16
  let l := if (c.w 2).testBit 4 then hostOf n else lineOf n
  let moved := c.w 4 * (c.w 3 + 1)
  withChecks (fun s =>
      [((!(c.w 2).testBit 4 && decide (7 < n)) || c.w 4 == 0, stRange, 0), (!tpcEn s l, stState, 0),
       (laneRehearsing s l, stBusy, 0)])
    fun s =>
      let len := patternBits (tpcPattern s l)
      let k := slipOf s l + moved
      (setSlip s l k, .done stOK 0 (if len = 0 then 0 else (tpcPos s l + k) % len) 0)

def execTpcSlip (c : Cmd) (s : State) : Host.Outcome State Fault Refusal :=
  .next (hostCmd 0x0250 [(2, 0x1F), (3, 1), (4, 0xFFFF)] noGate c (tpcSlip c) s)

end Sys2Proof.Machine
end

