-- ==== Sys2Proof/Machine/Aside.lean ====
section
/-! DEFINITION. The aside channel (chapter 11): packets sent and received, the partner, pairing, consent, authentication and
loading negotiation. -/

namespace Sys2Proof.Machine

open Sys2Proof

/-! Packets (R209-R214). -/

/-- CRC-8 over bits [31:8] of a header, bit 31 first (R209). -/
def headerCrc (h : Nat) : Nat := crcBits 8 7 (h / 2 ^ 8) 24 0

def hdrType (h : Word) : Nat := bitsOf h.toNat 31 28
def hdrLane (h : Word) : Nat := bitsOf h.toNat 27 24
def hdrWidth (h : Word) : Nat := bitsOf h.toNat 23 20
def hdrLoading (h : Word) : Nat := bitsOf h.toNat 19 16
def hdrLength (h : Word) : Nat := bitsOf h.toNat 15 8

/-- A packet's TYPE (R211). -/
def outType (s : State) : AsideOut → Nat
  | .hello => 1
  | .health => 2
  | .request .. => 3
  | .fragment .. => 3
  | .propose .. => 4
  | .ack .. => 5
  | .loadPropose .. => 6
  | .loadConfirm .. => 6
  | .tag _ => 7
  | .challenge => 8
  | .response .. => 8
  | .buffer b _ => match vGet s.aside.bufs b none with
    | some x => x.kind
    | none => 7

/-- The order of priority of R214. -/
def outPriority (s : State) (o : AsideOut) : Nat :=
  match o with
  | .buffer _ none => 1
  | _ => match outType s o with
    | 8 => 2
    | 4 => 2
    | 5 => 2
    | 6 => 3
    | 1 => 4
    | 3 => 5
    | 2 => 6
    | _ => 7

/-- The types a profile's modulator sends (R223). -/
def profileSends (profile type : Nat) : Bool :=
  if profile = 2 then true else if profile = 1 then type == 1 || type == 2 || type == 7 || type == 8 else false

/-- Does the lane send marker groups: not at idle, in a burst, or under a pattern generator (R215)? -/
def sendsMarkers (s : State) (n : Nat) : Bool :=
  !txIdle s (lineOf n) && !txBurst s (lineOf n) && rdE s F.LTX_TPG_CTRL_EN n == 0

/-- When a packet that starts now has its first sample at the DAC, less D_TX: LAT_TX is 40 crystal cycles (R204, R215). -/
def preambleAt (s : State) : Nat :=
  s.time.tick + 40 - Config.sendDelay (b2n (innerCode s) + 2 * b2n (halfRate s)) % 3

/-- The stamp of a HELLO that starts now on a lane of port p: the last marker group sent before its preamble, groups following the last one
sent at P_AM; and whether a microsecond lies on either side to the next group (R215). None before the first group. -/
def stampNow (s : State) (p : Nat) : Option (Nat × Bool) :=
  match (portPath s p .tx).groups with
  | [] => none
  | g :: _ =>
    let step := freewheelStep s p
    let period := 256 * markerPeriod (portFormat s p)
    let d := (preambleAt s - g.2) * step
    some (g.1 + d / period * markerPeriod (portFormat s p),
      decide (50 * step ≤ d % period) && decide (50 * step ≤ period - d % period))

/-- The spacing of R215 holds for a HELLO that starts now. -/
def spaced (s : State) (p : Nat) : Bool := (stampNow s p).elim true (·.2)

/-- The words 1 onward of HELLO: one that breaks the spacing carries no stamp. -/
def helloWords (s : State) (n p : Nat) : List Nat :=
  let q := (stampNow s p).getD (0, false)
  let stamp := q.1 % 2 ^ 64
  let v := q.2 && sendsMarkers s n
  [rd s F.ID_PART_PART * 2 ^ 16 + rd s F.ID_STEP_STEP * 2 ^ 8 + 0x0F, rd s F.ID_DEV_HI_ID_HI, rd s F.ID_DEV_LO_ID_LO,
   p * 2 ^ 29 + b2n (innerCode s) * 2 ^ 28 + b2n (halfRate s) * 2 ^ 27 + linkState s p * 2 ^ 24 + b2n v * 2 ^ 23 +
     rdE s F.LTX_CTRL_PRECODE n * 2 ^ 22,
   if v then stamp % 2 ^ 32 else 0, if v then stamp / 2 ^ 48 * 2 ^ 16 + stamp / 2 ^ 32 % 2 ^ 16 else 0]

/-- The words 1 onward of HEALTH. -/
def healthWords (s : State) (n p : Nat) : List Nat :=
  let flags := rd s F.LRX_STATUS_LOS n + rd s F.LRX_STATUS_LOL n * 2 + b2n ((lockOf s n).state == 2) * 4 +
    b2n (rd s F.LEQ_STATUS_STATE n == 2) * 8
  [linkState s p * 2 ^ 24 + flags * 2 ^ 16 + rd s F.LEQ_SNR_ALL_SNR n,
   rd s F.LEQ_SNR_0_SNR_M1 n * 2 ^ F.LEQ_SNR_0_SNR_M1.lo + rd s F.LEQ_SNR_0_SNR_M3 n * 2 ^ F.LEQ_SNR_0_SNR_M3.lo,
   rd s F.LEQ_SNR_1_SNR_P3 n * 2 ^ F.LEQ_SNR_1_SNR_P3.lo + rd s F.LEQ_SNR_1_SNR_P1 n * 2 ^ F.LEQ_SNR_1_SNR_P1.lo,
   rd s F.CNT_BER_LOG n] ++
  ((List.range 8).map fun j => rd s F.ASD_RX_SNR_j_SNR_0 n j * 2 ^ 24 + rd s F.ASD_RX_SNR_j_SNR_1 n j * 2 ^ 16 +
    rd s F.ASD_RX_SNR_j_SNR_2 n j * 2 ^ 8 + rd s F.ASD_RX_SNR_j_SNR_3 n j) ++
  ((List.range 32).map fun j => min 65535 (rd s F.LEQ_HIST_b_COUNT n (2 * j) / 32) * 2 ^ 16 +
    min 65535 (rd s F.LEQ_HIST_b_COUNT n (2 * j + 1) / 32))

def tagWords (x : AsideBuf) : List Nat := x.len :: ((List.range 8).map fun k => (x.text[k]?.getD 0).toNat)

/-- A show-clock value in two words: count [31:0]; epoch and count [47:32]. -/
def stampWords (count : BitVec 48) (epoch : BitVec 16) : List Nat :=
  [count.toNat % 2 ^ 32, epoch.toNat * 2 ^ 16 + count.toNat / 2 ^ 32]

/-- One half of a 64-entry fragment's words (R213). -/
def fragmentWords (es : List Nat) (f : Nat) : List Nat :=
  (List.range 32).map fun k => (es[64 * f + 2 * k]?.getD 0) * 2 ^ 16 + es[64 * f + 2 * k + 1]?.getD 0

/-- A packet's words 1 onward, without trailer (R213). -/
def outWords (s : State) (n p : Nat) : AsideOut → List Nat
  | .hello => helloWords s n p
  | .health => healthWords s n p
  | .tag b => match vGet s.aside.bufs b none with
    | some x => tagWords x
    | none => tagWords ⟨7, 0, []⟩
  | .buffer b _ => match vGet s.aside.bufs b none with
    | some x => if x.kind = 1 then helloWords s n p else if x.kind = 2 then healthWords s n p else tagWords x
    | none => tagWords ⟨7, 0, []⟩
  | .request lane m epoch len => [lane * 2 ^ 17] ++ stampWords m epoch ++ [len]
  | .fragment x f => match (gatherOf s x).bind (·.set) with
    | some t => [2 ^ 28 + f * 2 ^ 24 + 2 ^ 20 + (n - p) * 2 ^ 17 + t.det * 2 ^ 16 + t.levelA * 2 ^ 8 + t.flags] ++
        stampWords t.m t.epoch ++ [t.len, t.total] ++ fragmentWords t.entries f
    | none => []
  | .propose e _ => match cueSlot s e with
    | .reserved c epoch _ => [(c.agree.getD 0).toNat * 2 ^ 16 + c.action] ++ stampWords c.trigger epoch ++ [c.arg]
    | _ => []
  | .ack id refusal => [id.toNat * 2 ^ 16 + refusal * 16 + b2n (refusal == 0)]
  | .loadPropose id table => [id, table.toNat / 2 ^ 32, table.toNat % 2 ^ 32]
  | .loadConfirm id _ => [2 ^ 28 + id]
  | .challenge =>
    let nonce := Config.freeNat s.freeCount % 2 ^ 64
    [(match laneKey s n with
      | some k => k.1.toNat
      | none => 0), nonce / 2 ^ 32, nonce % 2 ^ 32]
  | .response nonce noKey =>
    let mine := Config.freeNat s.freeCount % 2 ^ 64
    [2 ^ 28 + b2n noKey * 2 ^ 8 + (match laneKey s n with
      | some k => k.1.toNat
      | none => 0), mine / 2 ^ 32, mine % 2 ^ 32, nonce.toNat / 2 ^ 32, nonce.toNat % 2 ^ 32]

/-- Does the packet carry a trailer (R225, R226)? -/
def hasTrailer (s : State) (n : Nat) (o : AsideOut) : Bool :=
  (laneKey s n).isSome && match o with
    | .challenge => false
    | .response _ noKey => asideAuth s n != 0 || !noKey
    | _ => asideAuth s n != 0

/-- The packet as it goes on the line (R209, R212, R225). -/
def buildPacket (s : State) (n p : Nat) (o : AsideOut) : AsidePacket :=
  let trailer := hasTrailer s n o
  let body := outWords s n p o
  let w0 := (asideLane s n).sent.toNat * 2 ^ 16 + asideProfile s n * 2 ^ 14 + b2n trailer * 2 ^ 13
  let k := showClock s p .tx
  let words := (w0 :: body ++ if trailer then stampWords k.count k.epoch ++ [0, 0] else []).map (BitVec.ofNat 32)
  let type := outType s o
  let loading := if type = 1 ∨ type = 6 ∨ type = 8 then 0 else rd s F.ASD_STATUS_TX_LOAD n
  let h := type * 2 ^ 28 + (n - p) * 2 ^ 24 + portWidth s p % 16 * 2 ^ 20 + loading * 2 ^ 16 + words.length % 256 * 2 ^ 8
  let q : AsidePacket := ⟨BitVec.ofNat 32 (h + headerCrc h), words⟩
  match trailer, laneKey s n with
  | true, some key =>
    let t := packetTag key.2 q
    { q with words := words.take (words.length - 2) ++ [BitVec.ofNat 32 (t.toNat / 2 ^ 32), BitVec.ofNat 32 t.toNat] }
  | _, _ => q

/-! Sending. -/

/-- HELLO_TIMER (R214). -/
def helloTimer (n : Nat) (s : State) : State := if asideRuns s n then enqueueOnce s n .hello else s

def execHelloTimer (lane : Fin 8) (s : State) : Host.Outcome State Fault Refusal := .next (helloTimer lane s)

/-- HEALTH_TIMER (R214); HEALTH_PERIOD = 0 sends none. -/
def healthTimer (n : Nat) (s : State) : State :=
  if asideRuns s n ∧ rdE s F.ASD_TIMING_HEALTH_PERIOD n ≠ 0 then enqueueOnce s n .health else s

def execHealthTimer (lane : Fin 8) (s : State) : Host.Outcome State Fault Refusal := .next (healthTimer lane s)

/-- The proposal that waits still belongs to a reserved entry (R35, R223): one whose entry has been armed or freed is sent no more. -/
def liveOut (s : State) (o : AsideOut) : Bool :=
  match o with
  | .propose e id => match cueSlot s e with
    | .reserved c _ _ => c.agree == some id
    | _ => false
  | _ => true

/-- The armed ASIDE_SEND cue of an entry, for the lane. -/
def sendCue (s : State) (n e : Nat) : Option Cue :=
  (armedCue s e).filter fun c => c.action == 5 && c.arg % 8 == n

/-- A cue's trigger lies less than so many tenths of a microsecond ahead. -/
def cueWithin (s : State) (c : Cue) (tenths : Nat) : Bool :=
  decide (triggerAhead (showClock s c.port c.dir) c.trigger.toNat * 10000000 < tenths * codewordRate s c.port)

/-- An ASIDE_SEND cue on the lane falls due before a packet of so many payload symbols, with two idle symbols, would have ended: LAT_TX
ahead of its trigger (R214). -/
def cueNear (s : State) (n symbols : Nat) : Bool :=
  (List.range 64).any fun e => (sendCue s n e).elim false fun c =>
    !(asideLane s n).early.contains (e, c.trigger) && cueWithin s c ((6 + symbols) * 36 + 8)

/-- The ASIDE_SEND cue whose packet is to start now, ahead of the trigger by LAT_TX, 8 tenths of a microsecond, at most (R214): entry,
trigger and packet. -/
def cueEarly (s : State) (n : Nat) : Option ((Nat × BitVec 48) × AsideOut) :=
  (List.range 64).findSome? fun e => (sendCue s n e).bind fun c =>
    if !(asideLane s n).early.contains (e, c.trigger) && (vGet s.aside.bufs (c.arg / 256 % 16) none).isSome &&
        decide (triggerAhead (showClock s c.port c.dir) c.trigger.toNat * 10000000 ≤ 8 * codewordRate s c.port) then
      some ((e, c.trigger), .buffer (c.arg / 256 % 16) none)
    else none

/-- A packet that a cue sends. -/
def cuedOut : AsideOut → Bool
  | .buffer _ none => true
  | _ => false

/-- May a waiting packet start now: its profile sends it, an unscheduled HELLO is spaced from the marker groups (R215), and no
cued packet falls due before it would end. -/
def mayStart (s : State) (n p : Nat) (o : AsideOut) : Bool :=
  let q := buildPacket s n p o
  profileSends (asideProfile s n) (outType s o) && (cuedOut o || spaced s p || outType s o != 1) &&
    (cuedOut o || !cueNear s n (payloadSymbols q.words.length (loadB
      (if hdrLoading q.header = 0 then loadZero else (txLoading s n).table).toNat)))

/-- The first of the best priority among the packets that may start; a cue's whose trigger is near comes before what waits for no cue. -/
def pickOut (s : State) (n p : Nat) : Option AsideOut :=
  (((cueEarly s n).map (·.2)).toList ++ (asideLane s n).queue).filter (mayStart s n p) |>.foldl (fun o x => match o with
    | none => some x
    | some y => if outPriority s x < outPriority s y then some x else some y) none

/-- A grid point of the lane, at least two idle symbols after its last packet (R214): symbols of 180 crystal cycles. -/
def atGrid (s : State) (n : Nat) : Bool :=
  (asideLane s n).grid.elim true (fun g => (s.time.tick - g) % 180 == 0) &&
    (asideLane s n).lastEnd.elim true fun t => decide (t + 360 ≤ s.time.tick)

/-- The packet goes on the line: its samples, at 40 MS/s from now on (R204). The first packet sets the lane's grid (log entry 151). -/
def startPacket (s : State) (n p : Nat) (o : AsideOut) : State :=
  let q := buildPacket s n p o
  let x := asideLane s n
  let fresh := match o with
    | .challenge => some (BitVec.ofNat 64 (Config.freeNat s.freeCount))
    | _ => x.nonce
  let table := if hdrLoading q.header = 0 then loadZero else (txLoading s n).table
  let s1 := setAside s n { x with
    queue := x.queue.erase o
    sending := some (o, q)
    sent := x.sent + 1
    nonce := fresh
    wave := packetWave q.header q.words table.toNat
    waveAt := (txRec s (lineOf n)).count
    grid := some (x.grid.getD s.time.tick)
    early := x.early ++ (if cuedOut o && !x.queue.contains o then ((cueEarly s n).map (·.1)).toList else []) }
  wr { s1 with freeCount := s1.freeCount + 1 } F.ASD_STATUS_TX_BUSY 1 n

/-- ASIDE_PACKET_START (R204, R214, R215): at a grid point the first packet in order of priority starts. -/
def asidePacketStart (n : Nat) (s0 : State) : State :=
  match portOfLine s0 n with
  | none => s0
  | some p =>
    if asideRuns s0 n = false ∨ rd s0 F.ASD_STATUS_TX_BUSY n = 1 ∨ atGrid s0 n = false then s0 else
    let s := setAside s0 n { asideLane s0 n with queue := (asideLane s0 n).queue.filter (liveOut s0) }
    match pickOut s n p with
    | none => s
    | some o => startPacket s n p o

def execAsidePacketStart (lane : Fin 8) (s : State) : Host.Outcome State Fault Refusal := .next (asidePacketStart lane s)

/-- The sixteenth fragment has gone: the set is sent (R110). -/
def fragmentSent (s : State) (x : Nat) : State :=
  wr (inc (setGather s x none) F.LEQ_XA_GATHER_SETS 1 x) F.LEQ_XA_GATHER_STATE 0 x

/-- The lane has sent for the ASD_SEND with this tag (R230). -/
def sendDone (s : State) (n : Nat) (tag : BitVec 16) : State :=
  match s.mgmt.inProgress.find? fun q => q.opcode == 0x0702 && q.tag == tag && q.key.testBit n with
  | none => s
  | some q => maskStep s q n false fun _ => 0

/-- ASIDE_PACKET_END (R214, R227, R230): the packet is counted, and what waited for it follows. -/
def asidePacketEnd (n : Nat) (s : State) : State :=
  match (asideLane s n).sending with
  | none => s
  | some (o, q) =>
    let s1 := wr (setAside s n { asideLane s n with
      sending := none
      lastEnd := some s.time.tick }) F.ASD_STATUS_TX_BUSY 0 n
    let s2 := bump s1 (cntLine n (45 + hdrType q.header)) 1
    match o with
    | .buffer _ (some tag) => sendDone s2 n tag
    | .fragment x 15 => if ((gatherOf s2 x).bind (·.set)).isSome then fragmentSent s2 x else s2
    | .loadConfirm id table => if negotiates s2 n then setTxLoading s2 n ⟨id, table⟩ else s2
    | _ => s2

def execAsidePacketEnd (lane : Fin 8) (s : State) : Host.Outcome State Fault Refusal := .next (asidePacketEnd lane s)

/-! Reception (R217-R221). -/

/-- Which loadings a header may name (R219, R227): 0, the one in use, or the previous one in its grace. -/
def acceptedLoading (s : State) (n id : Nat) : Option Loading :=
  if id = 0 then some ⟨0, loadZero⟩
  else if (rxLoading s n).id = id then some (rxLoading s n)
  else match (asideLane s n).previous with
    | some x => if x.id = id then some x else none
    | none => none

/-- A header's verdict (R219): 0 accepted, 1 refused, 2 undefined TYPE. -/
def headerVerdict (s : State) (n : Nat) (h : Word) : Nat :=
  if headerCrc h.toNat ≠ h.toNat % 256 then 1
  else if hdrType h < 1 ∨ 8 < hdrType h then 2
  else if ¬ (hdrWidth h = 1 ∨ hdrWidth h = 2 ∨ hdrWidth h = 4 ∨ hdrWidth h = 8) then 1
  else match acceptedLoading s n (hdrLoading h) with
    | none => 1
    | some x => if 1 ≤ hdrLength h ∧ payloadSymbols (hdrLength h) (loadB x.table.toNat) ≤ 64 then 0 else 1

/-- The reception ends and the receiver re-arms for the samples after the packet's first `symbols` symbols. -/
def endReception (s : State) (n symbols : Nat) : State :=
  let s1 := match (asideLane s n).rx with
    | some r => lookFrom s n (r.start + 144 * symbols)
    | none => s
  setAside (wr s1 F.ASD_STATUS_RX_BUSY 0 n) n { asideLane s n with rx := none }

/-- The symbols of a packet whose header was accepted (R210). -/
def packetSymbols (s : State) (n : Nat) (h : Word) : Nat :=
  4 + payloadSymbols (hdrLength h) (loadB ((acceptedLoading s n (hdrLoading h)).getD ⟨0, loadZero⟩).table.toNat)

/-- A reception starts on a preamble and comes to its header. -/
def startReception (s : State) (n : Nat) (r : AsideRx) : State :=
  let s1 := bump (wr s F.ASD_STATUS_RX_BUSY 1 n) (cntLine n 26) 1
  let s2 := setAside s1 n { asideLane s1 n with rx := some r }
  match headerVerdict s2 n r.header with
  | 0 => s2
  | 1 => bump (endReception s2 n 4) (cntLine n 27) 1
  | _ => bump (endReception s2 n 4) (cntLine n 28) 1

/-- The last 128 samples up to sample m, before the AGC. -/
def lastSamples (s : State) (n m : Nat) : List Int := (List.range 128).map fun k => rxSample s n (m - 127 + k)

/-- The lane's samples under a gain. -/
def gained (s : State) (n : Nat) (gain : Int) (m : Nat) : Int := gain * rxSample s n m

/-- What a detection at sample m makes of the preamble and the header after it (R209, R217, R218), under the gain at which the AGC
freezes. -/
def receptionAt (s : State) (n m strength : Nat) (gain : Int) : AsideRx :=
  let r := gained s n gain
  let start := Config.symbolTiming ((List.range 688).map fun k => r (m - 127 + k)) m
  let h := channelOf r start
  let instant := streamInstant s n (sampleSymbol s n start)
  { header := headerOf r start h
    hc := s.time.hc - BitVec.ofNat 64 (20 * (s.time.tick - instant))
    strength := strength
    start := start
    instant := instant
    channel := h
    detected := m
    gain := gain }

/-- A preamble detected at sample m with this strength (R217, R220, R221): a reception starts, is captured, or the detection is counted. -/
def preambleFound (n m strength : Nat) (s : State) : State :=
  let ref := rd s F.ASD_LEVEL_REF n
  let rej := rdE s F.ASD_DET_WEAK_REJ n
  let weak := ref != 0 && rej != 0 && decide (strength + rej * 256 < ref)
  match (asideLane s n).rx with
  | none =>
    let s1 := wr s F.ASD_LEVEL_LAST strength n
    let energy := (((lastSamples s n m).drop 88).map fun x => (x ^ 2).toNat).sum
    if weak then bump s1 (cntLine n 33) 1 else startReception s1 n (receptionAt s1 n m strength (Config.agcGain false energy))
  | some r =>
    if m ≤ r.detected ∨ ((m - r.detected) % 32 = 0 ∧ m < r.start + 288) then s else
    let s1 := wr s F.ASD_LEVEL_LAST strength n
    if weak then bump s1 (cntLine n 33) 1
    else if r.strength + rdE s F.ASD_DET_CAPTURE_MARGIN n * 256 ≤ strength then
      startReception (bump (bump s1 (cntLine n 30) 1) (cntLine n 31) 1) n (receptionAt s1 n m strength (Config.agcGain true strength))
    else bump s1 (cntLine n 32) 1

/-- rho reaches DET_THR at sample m. -/
def rhoAt (s : State) (n m : Nat) : Bool := rhoReaches (rdE s F.ASD_DET_DET_THR n) (correlate (lastSamples s n m))

/-- Sample m is where the receiver detects a preamble (R217, R220): it has come and has not been looked at before, rho reaches the
threshold there, and, while no reception is in progress, at none of the samples before it that are still to be looked at. -/
def detectsAt (s : State) (n m : Nat) : Bool :=
  let k := max 127 (rxRec s (lineOf n)).looked
  asideRuns s n && decide (k ≤ m) && decide (sampleSymbol s n m ≤ (rxRec s (lineOf n)).count) && rhoAt s n m &&
    ((asideLane s n).rx.isSome || (List.range (m - k)).all fun j => !rhoAt s n (k + j))

/-- PREAMBLE_DETECT (R205, R217-R221): the lane's codes up to the end of a header, and the sample at which a correlator detects a
preamble. -/
def preambleDetect (n m : Nat) (s : State) : State :=
  if detectsAt s n m then
    preambleFound n m (preambleStrength (correlate (lastSamples s n m))) (lookFrom (refExpire s n) n (m + 1))
  else s

def execPreambleDetect (lane : Fin 8) (codes : List Int) (m : Nat) (s : State) : Host.Outcome State Fault Refusal :=
  .next (preambleDetect lane m (rxStream s (lineOf lane) codes))

/-- The result of a payload at a negotiated loading (R227 step 7): with four of eight failed, loading 0 is proposed. -/
def loadingResult (s : State) (n : Nat) (h : Word) (failed : Bool) : State :=
  if hdrLoading h = 0 then s else
    let rs := (failed :: (asideLane s n).results).take 8
    if 4 ≤ (rs.filter id).length then
      proposeLoading (setAside s n { asideLane s n with results := [] }) n ⟨0, loadZero⟩
    else setAside s n { asideLane s n with results := rs }

/-- The tones of a reception's header and payload symbols, the header's first (R218, R227). -/
def receptionTones (s : State) (n : Nat) (r : AsideRx) (table : Nat) : List (List Tone) :=
  let x := gained s n r.gain
  headerTones x r.start r.channel ::
    payloadTones (tableCodes table) x r.start r.channel (List.range (payloadSymbols (hdrLength r.header) (loadB table))) (0, 0)

/-- A reception whose payload has come, on a lane that runs: its record, the payload's words and whether their CRC-32 is good, and the SNR
of each sub-carrier in 1/256 dB (R210, R217, R227). -/
def received (s : State) (n : Nat) : Option (AsideRx × List Word × Bool × List Nat) :=
  if asideRuns s n then
    (asideLane s n).rx.map fun r =>
      let table := ((acceptedLoading s n (hdrLoading r.header)).getD ⟨0, loadZero⟩).table.toNat
      let tones := receptionTones s n r table
      let q := payloadOf table (hdrLength r.header) (tones.drop 1)
      (r, q.1, q.2, (List.range 32).map (carrierSnrOf tones))
  else none

/-- PAYLOAD_CRC_FAIL (R217, R219): the payload that has come fails its CRC-32. -/
def payloadCrcFail (n : Nat) (s : State) : State :=
  match received s n with
  | some (r, _, false, _) => loadingResult (bump (endReception s n (packetSymbols s n r.header)) (cntLine n 29) 1) n r.header true
  | _ => s

def execPayloadCrcFail (lane : Fin 8) (codes : List Int) (s : State) : Host.Outcome State Fault Refusal :=
  .next (payloadCrcFail lane (rxStream s (lineOf lane) codes))

/-- Payload word k of a packet. -/
def pw (ws : List Word) (k : Nat) : Nat := (ws[k]?.getD 0).toNat

/-- ASD_REQUEST_REFUSED (R230). -/
def raiseRefused (s : State) (n type reason : Nat) : State := raiseEvent s (ev 0x8705 (locLine n) (type + reason * 16))

/-- What the trailer and REQUIRE say of a packet (R225, R226): 0 accepted, 2 authentication, 3 replay; a RESPONSE that `answers` the nonce
outstanding sets the stamp, whatever it was. -/
def trailerVerdict (s : State) (n : Nat) (q : AsidePacket) (challenge answers noKey : Bool) : Nat :=
  let w := q.words.length
  if (pw q.words 0).testBit 13 then
    match laneKey s n with
    | none => 2
    | some key =>
      if w < 5 ∨ packetTag key.2 q ≠ BitVec.ofNat 64 (pw q.words (w - 2) * 2 ^ 32 + pw q.words (w - 1)) then 2
      else
        let stamp := pw q.words (w - 3) / 2 ^ 16 * 2 ^ 48 + pw q.words (w - 3) % 2 ^ 16 * 2 ^ 32 + pw q.words (w - 4)
        if answers = false ∧ stamp ≤ (asideLane s n).lastStamp.toNat then 3 else 0
  else if asideAuth s n = 2 ∧ challenge = false ∧ noKey = false then 2 else 0

/-- The extended stamp of a packet's trailer. -/
def trailerStamp (q : AsidePacket) : BitVec 64 :=
  let w := q.words.length
  BitVec.ofNat 64 (pw q.words (w - 3) / 2 ^ 16 * 2 ^ 48 + pw q.words (w - 3) % 2 ^ 16 * 2 ^ 32 + pw q.words (w - 4))

/-- ASD_RX_SNR shows each sub-carrier's SNR averaged over the last sixteen accepted packets, unsigned Q6.2 dB, saturating (R227; the mean
of the decibels, its rounding open: log entries 136 and 151). -/
def showSnr (s : State) (n : Nat) : State :=
  let xs := (asideLane s n).snrs
  let v := fun i => min 255 (freeRound 6 ((xs.map fun x => x[i]?.getD 0).sum : Nat) (64 * max 1 xs.length)).toNat
  (List.range 8).foldl (fun t j =>
    wr (wr (wr (wr t F.ASD_RX_SNR_j_SNR_0 (v (4 * j)) n j) F.ASD_RX_SNR_j_SNR_1 (v (4 * j + 1)) n j) F.ASD_RX_SNR_j_SNR_2
      (v (4 * j + 2)) n j) F.ASD_RX_SNR_j_SNR_3 (v (4 * j + 3)) n j) s

/-- What every accepted packet does: counts, SEQ gaps, the stamp, the copy for ASD_RX_READ, and the reported SNR. -/
def packetAccepted (s : State) (n : Nat) (r : AsideRx) (q : AsidePacket) (snr : List Nat) : State :=
  let type := hdrType r.header
  let seq := BitVec.ofNat 16 (pw q.words 0 / 2 ^ 16)
  let gap := match (asideLane s n).lastSeq with
    | some l => (seq - l - 1).toNat
    | none => 0
  let s1 := bump (bump s (cntLine n (37 + type)) 1) (cntLine n 34) gap
  let x := asideLane s1 n
  showSnr (setAside s1 n { x with
    held := aSet x.held type ⟨q, r.hc⟩
    lastSeq := some seq
    lastStamp := if (pw q.words 0).testBit 13 then trailerStamp q else x.lastStamp
    snrs := (snr :: x.snrs).take 16
    lastOk := some s1.time.tick }) n

/-- How a type is treated: whether it is a request (refused with an event), and, for AUTH, its kind. -/
structure PacketKind where
  request : Bool := false
  challenge : Bool := false
  response : Bool := false

/-- A RESPONSE that echoes the nonce outstanding (R226). -/
def answersNonce (s : State) (n : Nat) (words : List Word) : Bool :=
  (asideLane s n).nonce == some (BitVec.ofNat 64 (pw words 4 * 2 ^ 32 + pw words 5))

/-- A payload whose CRC is good (R219, R223, R225): the packet is accepted and acted on, or discarded. -/
def receive (s : State) (n type : Nat) (r : AsideRx) (words : List Word) (snr : List Nat) (k : PacketKind)
    (act : State → AsideRx → List Word → State) : State :=
  let s1 := loadingResult (endReception s n (packetSymbols s n r.header)) n r.header false
  let noKey := k.response && (pw words 1).testBit 8
  if asideProfile s1 n = 1 ∧ profileSends 1 type = false then
    if k.request || type == 6 then raiseRefused (bump s1 (cntLine n 37) 1) n type 1 else s1
  else
    match trailerVerdict s1 n ⟨r.header, words⟩ k.challenge (k.response && answersNonce s n words) noKey with
    | 0 =>
      let s2 := packetAccepted s1 n r ⟨r.header, words⟩ snr
      if k.request ∧ asideAuth s2 n = 2 ∧ rd s2 F.ASD_STATUS_AUTH_STATE n ≠ 2 then raiseRefused s2 n type 2 else act s2 r words
    | v =>
      let s2 := if (pw words 0).testBit 13 then bump s1 (cntLine n (33 + v)) 1 else s1
      if k.request then raiseRefused s2 n type v else s2

/-- A packet has come: where the reception's payload is good and it is of this type, and of this kind where the type has kinds. -/
def heard (n type : Nat) (kind : Option Nat) (k : PacketKind) (act : State → AsideRx → List Word → State) (s : State) : State :=
  match received s n with
  | some (r, words, true, snr) =>
    if hdrType r.header = type ∧ kind.elim true (fun v => pw words 1 / 2 ^ 28 == v) then receive s n type r words snr k act else s
  | _ => s

/-! HELLO (R26-R29, R215, R222, R228). -/

/-- SC_RX is set so that the group's first codeword carries the stamp (R27, R28); the groups kept are renumbered with it. -/
def pairAt (s : State) (n p group stamp : Nat) : State :=
  let old := showClock s p .rx
  let x := (stamp + (old.extended + 2 ^ 64 - group)) % 2 ^ 64
  let count := BitVec.ofNat 48 x
  let s0 := renumberRx s p count (BitVec.ofNat 16 (x / 2 ^ 48))
  let path := portPath s0 p .rx
  let s1 := setPortPath s0 p .rx { path with groups := path.groups.map fun g => ((g.1 + x + 2 ^ 64 - old.extended) % 2 ^ 64, g.2) }
  if vGet s.time.paired p false then
    if old.extended = x then s1
    else
      let diff := (count - old.count).toNat
      raiseEvent s1 (ev 0x8805 (locPort p) (diff % 2 ^ 32) (diff / 2 ^ 32 + p * 2 ^ 16 + n * 2 ^ 20))
  else raiseEvent (setPaired s1 p true) (ev 0x8804 (locPort p) (p + n * 16))

/-- The stamp belongs to the last group that came before the preamble (R216). -/
def pairStamp (s : State) (n p instant stamp : Nat) : State :=
  match (portPath s p .rx).groups.find? fun g => decide (g.2 ≤ instant) with
  | none => s
  | some g => pairAt s n p g.1 stamp

/-- An accepted HELLO (R222, R226-R228, R27, R171). -/
def helloAccepted (n : Nat) (s : State) (r : AsideRx) (words : List Word) : State :=
  match portOfLine s n with
  | none => s
  | some p =>
    let wasUp := partnerUp s n
    let wasCoop := bothCoop s n
    let profile := bitsOf (pw words 0) 15 14
    let idHi := pw words 2
    let idLo := pw words 3
    let idChanged := rd s F.ASD_PARTNER_ID_1_ID_HI n != idHi || rd s F.ASD_PARTNER_ID_0_ID_LO n != idLo
    let profileChanged := rd s F.ASD_STATUS_PARTNER_PROFILE n != profile
    let caps := pw words 1 % 256
    let polarity := rawInverted r.channel != ((logicalOf s p n).elim false (invUse s p))
    let valid := (pw words 4).testBit 23
    let s1 := wr (wr (wr s F.ASD_STATUS_PARTNER_WIDTH (hdrWidth r.header) n) F.ASD_STATUS_PARTNER_LANE (hdrLane r.header) n)
      F.ASD_STATUS_UP 1 n
    let s2 := wr (wrB (wrB s1 F.ASD_STATUS_STAMP_SEEN valid n) F.ASD_STATUS_POLARITY polarity n) F.ASD_STATUS_PARTNER_PROFILE
      profile n
    let s3 := wr (wr (wrB s2 F.ASD_STATUS_GATHERER (caps.testBit 0) n) F.ASD_PARTNER_ID_1_ID_HI idHi n)
      F.ASD_PARTNER_ID_0_ID_LO idLo n
    let s4 := wr (wr (wr s3 F.ASD_PARTNER_INFO_PART (pw words 1 / 2 ^ 16) n) F.ASD_PARTNER_INFO_STEP (pw words 1 / 2 ^ 8) n)
      F.ASD_PARTNER_INFO_CAPS caps n
    let s5 := if !idChanged || !wasUp then wr s4 F.ASD_LEVEL_REF r.strength n else s4
    let s6 := if !wasUp || profileChanged || idChanged then raisePartner s5 n idChanged else s5
    let s7 := if wasCoop && !bothCoop s6 n then leaveCoop s6 n else s6
    let s8 := if wasUp then s7 else
      (List.range 16).foldl (fun t b => match vGet t.aside.bufs b none with
        | some x => if x.kind = 7 then enqueueOnce t n (.tag b) else t
        | none => t) (if asideAuth s7 n = 0 then s7 else challenge s7 n)
    let s9 := if valid ∧ rd s8 F.PCS_ALIGN_STATUS_RX_DESKEWED p = 1 then
        pairStamp s8 n p r.instant (pw words 6 / 2 ^ 16 * 2 ^ 48 + pw words 6 % 2 ^ 16 * 2 ^ 32 + pw words 5)
      else s8
    let lp := linkPort s9 p
    let s10 := setLink s9 p { lp with hello := vSet lp.hello (n - p) (some ⟨hdrLane r.header, b2n polarity, hdrWidth r.header⟩) }
    if linkState s10 p = 3 then probeJudge s10 p else s10

def execHelloReceived (lane : Fin 8) (codes : List Int) (s : State) : Host.Outcome State Fault Refusal :=
  .next (heard lane 1 none {} (helloAccepted lane) (rxStream s (lineOf lane) codes))

def execHealthReceived (lane : Fin 8) (codes : List Int) (s : State) : Host.Outcome State Fault Refusal :=
  .next (heard lane 2 none {} (fun t _ _ => t) (rxStream s (lineOf lane) codes))

/-- An accepted TAG raises ASD_TAG_RECEIVED. -/
def tagAccepted (n : Nat) (s : State) (_ : AsideRx) (words : List Word) : State :=
  raiseEvent s (ev 0x8704 (locLine n) (pw words 1 % 64))

def execTagPacketReceived (lane : Fin 8) (codes : List Int) (s : State) : Host.Outcome State Fault Refusal :=
  .next (heard lane 7 none {} (tagAccepted lane) (rxStream s (lineOf lane) codes))

/-! XADAPT (R109, R112). -/

/-- A request arms the gatherer of the lane it names, when that lane is COOPERATIVE; it replaces one not yet answered. -/
def requestAccepted (n : Nat) (s : State) (_ : AsideRx) (words : List Word) : State :=
  match portOfLine s n with
  | none => s
  | some p =>
    let i := bitsOf (pw words 1) 19 17
    let x := physOf s p i
    if i < portWidth s p ∧ asideProfile s x = 2 then
      let m := BitVec.ofNat 48 (pw words 2 + pw words 3 % 2 ^ 16 * 2 ^ 32)
      wr (setGather (stopGather s x) x (some ⟨m, BitVec.ofNat 16 (pw words 3 / 2 ^ 16), pw words 4 % 2 ^ 13, [], 0, 0, none⟩))
        F.LEQ_XA_GATHER_STATE 1 x
    else s

/-- The kind in word 1 is REQUEST. -/
def execXadaptRequestReceived (lane : Fin 8) (codes : List Int) (s : State) : Host.Outcome State Fault Refusal :=
  .next (heard lane 3 (some 0) { request := true } (requestAccepted lane) (rxStream s (lineOf lane) codes))

/-- A fragment of the set that the transmit lane it names asked for is kept (R112, R213); with all sixteen the set is complete. -/
def fragmentAccepted (n : Nat) (s : State) (_ : AsideRx) (words : List Word) : State :=
  let w1 := pw words 1
  let own := (portOfLine s n).elim n (· + bitsOf w1 19 17)
  match xaRun s own with
  | none => s
  | some x =>
    let m := BitVec.ofNat 48 (pw words 2 + pw words 3 % 2 ^ 16 * 2 ^ 32)
    if x.phase ≠ .gather ∨ m ≠ x.m ∨ portOfLine s own ≠ portOfLine s n then s else
    let es := (List.range 64).map fun k => pw words (6 + k / 2) / 2 ^ (16 * (1 - k % 2)) % 2 ^ 16
    let x1 := { x with
      frags := aSet x.frags (bitsOf w1 27 24) es
      levelA := bitsOf w1 15 8
      flags := w1 % 16 }
    if x1.frags.length = 16 then xaSet (setXa s own (some x1)) own x1 else setXa s own (some x1)

def execXadaptFragmentReceived (lane : Fin 8) (codes : List Int) (s : State) : Host.Outcome State Fault Refusal :=
  .next (heard lane 3 (some 1) {} (fragmentAccepted lane) (rxStream s (lineOf lane) codes))

/-! Cues (R35, R223). -/

/-- Is the target of a proposed action busy? -/
def proposalBusy (s : State) (action arg : Nat) : Bool :=
  action == 3 && (rd s F.LRX_SPOT_STATUS_STATE (arg % 8) == 1 || rehearsing s 1 (arg % 8))

/-- The refusal a proposal meets (R213, R223), 0 for none. -/
def proposalRefusal (s : State) (p action trigger arg : Nat) : Nat :=
  if action = 4 then 0
  else if ¬ (action = 2 ∨ action = 3 ∨ action = 8) then 4
  else if vGet s.time.paired p false = false then 1
  else if triggerOk (showClock s p .rx) trigger = false then 2
  else if (freeEntry s).isNone then 3
  else if proposalBusy s action arg then 5 else 0

/-- A proposal is acted on and answered (R223); a repeated identifier gets the same answer. -/
def proposalAccepted (n : Nat) (s : State) (_ : AsideRx) (words : List Word) : State :=
  match portOfLine s n with
  | none => s
  | some p =>
    let id := BitVec.ofNat 16 (pw words 1 / 2 ^ 16)
    let action := pw words 1 % 256
    let trigger := pw words 2 + pw words 3 % 2 ^ 16 * 2 ^ 32
    match (asideLane s n).answered.find? (·.1 == id) with
    | some a => enqueue s n (.ack id a.2)
    | none =>
      let refusal := proposalRefusal s p action trigger (pw words 4)
      let s1 := if refusal ≠ 0 then s
        else if action = 4 then
          { s with lanes := { s.lanes with boundary := vSet s.lanes.boundary n (some (BitVec.ofNat 48 trigger)) } }
        else setCue s ((freeEntry s).getD 0) (.armed
          { port := Fin.ofNat 8 p, dir := .rx, periodic := false, notify := false, trigger := BitVec.ofNat 48 trigger,
            period := 0, action := action, arg := pw words 4, agree := some id, owner := .host })
      enqueue (setAside s1 n { asideLane s1 n with answered := (asideLane s1 n).answered ++ [(id, refusal)] }) n (.ack id refusal)

def execCueProposeReceived (lane : Fin 8) (codes : List Int) (s : State) : Host.Outcome State Fault Refusal :=
  .next (heard lane 4 none { request := true } (proposalAccepted lane) (rxStream s (lineOf lane) codes))

/-- The answer to a proposal (R35). -/
def ackAccepted (s : State) (_ : AsideRx) (words : List Word) : State :=
  let id := BitVec.ofNat 16 (pw words 1 / 2 ^ 16)
  match (List.range 64).find? (fun e => match cueSlot s e with
    | .reserved c _ _ => c.agree == some id
    | _ => false) with
  | none => s
  | some e =>
    if (pw words 1).testBit 0 then agreeAccepted s e
    else agreeFailed s e (refusalCode (bitsOf (pw words 1) 7 4)) (bitsOf (pw words 1) 7 4)

def execCueAckReceived (lane : Fin 8) (codes : List Int) (s : State) : Host.Outcome State Fault Refusal :=
  .next (heard lane 5 none {} ackAccepted (rxStream s (lineOf lane) codes))

/-! Loading negotiation (R227). -/

/-- The sending end stores a valid table and answers CONFIRM; the loading changes with that packet (R227 step 5). -/
def loadProposeAccepted (n : Nat) (s : State) (_ : AsideRx) (words : List Word) : State :=
  let id := pw words 1 % 16
  let table : BitVec 64 := if id = 0 then loadZero else BitVec.ofNat 64 (pw words 2 * 2 ^ 32 + pw words 3)
  if negotiates s n && loadValid table.toNat then enqueue s n (.loadConfirm id table) else s

def execLoadingProposeReceived (lane : Fin 8) (codes : List Int) (s : State) : Host.Outcome State Fault Refusal :=
  .next (heard lane 6 (some 0) { request := true } (loadProposeAccepted lane) (rxStream s (lineOf lane) codes))

/-- The receiving end takes the confirmed loading; the previous one stays accepted for 100 ms (R227 step 6). -/
def loadConfirmAccepted (n : Nat) (s : State) (_ : AsideRx) (words : List Word) : State :=
  match (asideLane s n).proposed with
  | none => s
  | some x =>
    if x.id = pw words 1 % 16 then
      let s1 := setAside s n { asideLane s n with proposed := none, previous := some (rxLoading s n), results := [] }
      setRxLoading s1 n x
    else s

def execLoadingConfirmReceived (lane : Fin 8) (codes : List Int) (s : State) : Host.Outcome State Fault Refusal :=
  .next (heard lane 6 (some 1) {} (loadConfirmAccepted lane) (rxStream s (lineOf lane) codes))

/-- The reported SNR of sub-carrier i, Q6.2 dB. -/
def carrierSnr (s : State) (n i : Nat) : Nat :=
  match i % 4 with
  | 0 => rd s F.ASD_RX_SNR_j_SNR_0 n (i / 4)
  | 1 => rd s F.ASD_RX_SNR_j_SNR_1 n (i / 4)
  | 2 => rd s F.ASD_RX_SNR_j_SNR_2 n (i / 4)
  | _ => rd s F.ASD_RX_SNR_j_SNR_3 n (i / 4)

/-- The code an SNR earns with a margin in dB: 16-QAM from 13 dB, QPSK from 7, BPSK from 4 (R227 step 2). -/
def snrCode (snr margin : Nat) : Nat :=
  if (13 + margin) * 4 ≤ snr then 3 else if (7 + margin) * 4 ≤ snr then 2 else if (4 + margin) * 4 ≤ snr then 1 else 0

/-- The loaded sub-carrier with the lowest SNR. -/
def lowestLoaded (codes snrs : List Nat) : Option Nat :=
  (codes.zip snrs).zipIdx.foldl (fun o e => if e.1.1 = 0 then o else match o with
    | none => some e.2
    | some k => if e.1.2 < snrs[k]?.getD 0 then some e.2 else some k) none

/-- One sub-carrier after another is demoted by one step until B is a multiple of 8 (R227 step 3). -/
def demote (snrs : List Nat) : Nat → List Nat → List Nat
  | 0, cs => cs
  | k + 1, cs =>
    if (cs.map codeBits).sum % 8 = 0 then cs else match lowestLoaded cs snrs with
      | none => cs
      | some i => demote snrs k (cs.modify i (· - 1))

/-- The table of 32 codes. -/
def packTable (cs : List Nat) : Nat := (cs.zipIdx).foldl (fun a e => a + e.1 * 4 ^ e.2) 0

/-- The loading the SNR earns, or loading 0 (R227 steps 2 and 3). -/
def earnedTable (s : State) (n : Nat) : Option Nat :=
  let snrs := (List.range 32).map (carrierSnr s n)
  let t := packTable (demote snrs 96 (snrs.map fun x => snrCode x (rdE s F.ASD_DET_LOAD_MARGIN n)))
  if loadValid t then some t else none

/-- LOADING_EVALUATION (R227 steps 1 to 4). -/
def loadingEvaluation (n : Nat) (s : State) : State :=
  if asideRuns s n = false ∨ negotiates s n = false then s else
  let now := rxLoading s n
  let new := match earnedTable s n with
    | some t => t
    | none => loadZero.toNat
  let b0 := loadB now.table.toNat
  let b1 := loadB new
  let fallen := (List.range 32).any fun i => decide (snrCode (carrierSnr s n i) 0 < loadCode now.table.toNat i)
  if new ≠ now.table.toNat ∧ (b0 + 16 ≤ b1 ∨ b1 + 16 ≤ b0 ∨ fallen) then
    proposeLoading s n (if (earnedTable s n).isSome then ⟨(asideLane s n).lastId % 15 + 1, BitVec.ofNat 64 new⟩ else ⟨0, loadZero⟩)
  else s

def execLoadingEvaluation (lane : Fin 8) (s : State) : Host.Outcome State Fault Refusal := .next (loadingEvaluation lane s)

/-- LOADING_GRACE_END (R227 step 6). -/
def execLoadingGraceEnd (lane : Fin 8) (s : State) : Host.Outcome State Fault Refusal :=
  .next (setAside s lane { asideLane s lane with previous := none })

/-! Authentication (R226). -/

/-- A challenge is answered: RESPONSE where the lane's slot holds the key identifier, else NO_KEY. -/
def challengeAccepted (n : Nat) (s : State) (_ : AsideRx) (words : List Word) : State :=
  let same := match laneKey s n with
    | some k => k.1.toNat == pw words 1 % 256
    | none => false
  enqueue s n (.response (BitVec.ofNat 64 (pw words 2 * 2 ^ 32 + pw words 3)) (!same))

def execAuthChallengeReceived (lane : Fin 8) (codes : List Int) (s : State) : Host.Outcome State Fault Refusal :=
  .next (heard lane 8 (some 0) { challenge := true } (challengeAccepted lane) (rxStream s (lineOf lane) codes))

/-- A RESPONSE to the nonce outstanding sets AUTH_STATE: VERIFIED with a verified trailer, or NO_KEY. -/
def responseAccepted (n : Nat) (s : State) (_ : AsideRx) (words : List Word) : State :=
  if (asideLane s n).nonce = some (BitVec.ofNat 64 (pw words 4 * 2 ^ 32 + pw words 5)) then
    let s1 := setAside s n { asideLane s n with nonce := none }
    if (pw words 1).testBit 8 then setAuthState s1 n 3
    else if (pw words 0).testBit 13 then
      maskProgress (setAuthState s1 n 2) 0x0706 n true fun aux => aux
    else s
  else s

def execAuthResponseReceived (lane : Fin 8) (codes : List Int) (s : State) : Host.Outcome State Fault Refusal :=
  .next (heard lane 8 (some 1) { response := true } (responseAccepted lane) (rxStream s (lineOf lane) codes))

/-- PARTNER_TIMEOUT (R222). -/
def execPartnerTimeout (lane : Fin 8) (s : State) : Host.Outcome State Fault Refusal := .next (refExpire (partnerDown s lane) lane)

/-- AUTH_CHALLENGE_TIMER (R226): every 60 s. -/
def execAuthChallengeTimer (lane : Fin 8) (s : State) : Host.Outcome State Fault Refusal :=
  .next (if asideRuns s lane && asideAuth s lane != 0 then challenge s lane else s)

/-! Commands (R230). -/

/-- ASD_BUF_SET's own part; a TAG goes out on every lane that runs (R214). -/
def asdBufSet (c : Cmd) : State → State × Reply :=
  let kind := c.w 3
  withChecks (fun _ => [(!(kind == 1 || kind == 2 || kind == 7), stParam, 3), (decide (32 < c.w 4), stRange, 0)])
    fun s =>
      let b := c.w 2
      let x : AsideBuf := ⟨kind, c.w 4, (List.range 8).map fun k => BitVec.ofNat 32 (c.w (5 + k))⟩
      let s1 := { s with aside := { s.aside with bufs := vSet s.aside.bufs b (some x) } }
      (if kind = 7 then (List.range 8).foldl (fun t n => if asideRuns t n then enqueueOnce t n (.tag b) else t) s1 else s1,
        .done stOK 0 0 0)

def execAsdBufSet (c : Cmd) (s : State) : Host.Outcome State Fault Refusal :=
  .next (hostCmd 0x0701 ([(2, 15), (3, 15), (4, 0x3F)] ++ (List.range 8).map fun k => (5 + k, 0xFFFFFFFF)) noGate c (asdBufSet c) s)

/-- ASD_SEND's own part. -/
def asdSend (c : Cmd) : State → State × Reply :=
  let lanes := bitsSet 8 (c.w 2)
  let b := c.w 3
  withChecks (fun s =>
      let kind := match vGet s.aside.bufs b none with
        | some x => x.kind
        | none => 0
      [(kind == 0 || lanes.any (fun n => !lanePowered s (lineOf n) || !profileSends (asideProfile s n) kind), stState, 0),
       (lanes.any fun n => rehearsing s 1 n, stBusy, 0)])
    fun s => if c.w 2 = 0 then (s, .done stOK 0 0 0) else
      (lanes.foldl (fun t n => enqueue t n (.buffer b (some c.tag))) s, .later (c.w 2) 0)

def execAsdSend (c : Cmd) (s : State) : Host.Outcome State Fault Refusal :=
  .next (hostCmd 0x0702 [(2, 0xFF), (3, 15)] noGate c (asdSend c) s)

/-- ASD_RX_READ's own part: header, payload, and house time, low word first (log entry 70). -/
def asdRxRead (c : Cmd) : State → State × Reply :=
  let n := c.w 2
  withChecks (fun s =>
      let len := match aGet (asideLane s n).held (c.w 3) with
        | some x => 12 + 4 * x.packet.words.length
        | none => 0
      [(c.w 4 % 4 != 0, stParam, 4), (bulkBad s (c.w 4) len, stRange, 0), (len == 0, stState, 0)])
    fun s => match aGet (asideLane s n).held (c.w 3) with
      | some x => (bulkWords s (c.w 4) ([x.packet.header.toNat] ++ x.packet.words.map (·.toNat) ++
          [x.hc.toNat % 2 ^ 32, x.hc.toNat / 2 ^ 32]), .done stOK 0 (12 + 4 * x.packet.words.length) 0)
      | none => (s, .done stState 0 0 0)

def execAsdRxRead (c : Cmd) (s : State) : Host.Outcome State Fault Refusal :=
  .next (hostCmd 0x0703 [(2, 7), (3, 15), (4, 0xFFFFFFFF)] noGate c (asdRxRead c) s)

/-- ASD_AUTH_START's own part (R226): completes at VERIFIED on every lane, or after 100 ms. -/
def asdAuthStart (c : Cmd) : State → State × Reply :=
  let lanes := bitsSet 8 (c.w 2)
  withChecks (fun s => [(lanes.any fun n => asideAuth s n == 0, stState, 0), (lanes.any fun n => rehearsing s 1 n, stBusy, 0)])
    fun s => if c.w 2 = 0 then (s, .done stOK 0 0 0) else (lanes.foldl challenge s, .later (c.w 2) 0)

def execAsdAuthStart (c : Cmd) (s : State) : Host.Outcome State Fault Refusal :=
  .next (hostCmd 0x0706 [(2, 0xFF)] noGate c (asdAuthStart c) s)

/-- AUTH_START_TIMEOUT (R230): the oldest ASD_AUTH_START in progress completes with the lanes verified. -/
def authStartTimeout (s : State) : State :=
  match s.mgmt.inProgress.find? fun p => p.opcode == 0x0706 with
  | some p => completeProg s 0x0706 p.key stOK 0 p.aux 0
  | none => s

def execAuthStartTimeout (s : State) : Host.Outcome State Fault Refusal := .next (authStartTimeout s)

/-- ASD_LOAD_RESET's own part. -/
def asdLoadReset (c : Cmd) : State → State × Reply :=
  let lanes := bitsSet 8 (c.w 2)
  withChecks (fun s => [(lanes.any fun n => !bothCoop s n, stState, 0), (lanes.any fun n => rehearsing s 1 n, stBusy, 0)])
    fun s => (lanes.foldl (fun t n => proposeLoading t n ⟨0, loadZero⟩) s, .done stOK 0 0 0)

def execAsdLoadReset (c : Cmd) (s : State) : Host.Outcome State Fault Refusal :=
  .next (hostCmd 0x0707 [(2, 0xFF)] noGate c (asdLoadReset c) s)

end Sys2Proof.Machine
end

