-- ==== Sys2Proof/Machine/Boot.lean ====
section
/-! DEFINITION. The flash's images and boot records, the image checks, and the boot ROM (chapter 22, R421-R428). -/

namespace Sys2Proof.Machine

open Sys2Proof

/-! The flash's layout (R421). -/

/-- What a part of the flash holds. -/
inductive FlashArea where
  | boot (copy : Fin 2)
  | image (slot : Fin 2)
  | settings (slot : Fin 2)
  | book (slot : Fin 2)
  deriving DecidableEq, Repr

/-- The areas with their first address and their length in bytes. -/
def flashLayout : List (FlashArea × Nat × Nat) :=
  [(.boot 0, 0, 0x1000), (.boot 1, 0x1000, 0x1000), (.image 0, 0x10000, 0x200000), (.image 1, 0x210000, 0x200000),
    (.settings 0, 0x410000, 0x10000), (.settings 1, 0x420000, 0x10000), (.book 0, 0x430000, 0x20000), (.book 1, 0x450000, 0x20000)]

/-- The area of a flash address and the offset within it; none where Mexis does not use the address. -/
def flashAt (a : Nat) : Option (FlashArea × Nat) :=
  (flashLayout.find? fun e => decide (e.2.1 ≤ a) && decide (a < e.2.1 + e.2.2)).map fun e => (e.1, a - e.2.1)

/-! Boot records (R422). -/

/-- A value of n bytes, most significant byte first. -/
def bytesOf (n v : Nat) : List Byte := (List.range n).map fun k => BitVec.ofNat 8 (v / 2 ^ (8 * (n - 1 - k)))

/-- The bytes of words, each most significant byte first. -/
def wordsBytes (ws : List Nat) : List Byte := ws.flatMap (bytesOf 4)

/-- The CRC-32 of bytes in the convention of R210. -/
def flashCrc (bs : List Byte) : Word := payloadCrc (bs.flatMap fun b => (List.range 8).map fun k => b.getLsbD (7 - k))

/-- A boot record's CRC over its fields, four bytes each; how they are laid out is open (log entry 177). -/
def recordCrc (r : BootRecord) : Word :=
  flashCrc (wordsBytes [r.seq, r.active.val, (match r.pending with
    | some k => k.val
    | none => 0xFFFFFFFF), b2n r.trial])

/-- The record's CRC is good. -/
def recordGood (r : BootRecord) : Bool := r.crc == recordCrc r

/-- A record with its CRC. -/
def recordOf (seq : Nat) (active : Fin 2) (pending : Option (Fin 2)) (trial : Bool) : BootRecord :=
  { seq := seq, active := active, pending := pending, trial := trial, crc := recordCrc ⟨seq, active, pending, trial, 0⟩ }

/-- The copy in force: of those with a good CRC, the one with the higher sequence number. -/
def bootCopy (s : State) : Fin 2 :=
  let a := s.sec.boot[0]
  let b := s.sec.boot[1]
  if recordGood b && (!recordGood a || decide (a.seq < b.seq)) then 1 else 0

def bootRecord (s : State) : BootRecord := s.sec.boot[bootCopy s]

/-- A boot record is written into the other copy with the next sequence number. -/
def writeBoot (s : State) (active : Fin 2) (pending : Option (Fin 2)) (trial : Bool) : State :=
  { s with sec := { s.sec with
    boot := s.sec.boot.set (bootCopy s + 1).val (recordOf ((bootRecord s).seq + 1) active pending trial) } }

/-- A write of a boot record is cut short: its copy's CRC is not good, so that the record before it stays in force. -/
def cutBoot (s : State) (pending : Option (Fin 2)) : State :=
  let r := recordOf ((bootRecord s).seq + 1) (bootRecord s).active pending false
  { s with sec := { s.sec with boot := s.sec.boot.set (bootCopy s + 1).val { r with crc := r.crc ^^^ 1 } } }

/-! The header (R424): 64 words, most significant byte first. -/

def imgWord (h : List Nat) (k : Nat) : Nat := h[k]?.getD 0

def imgKind (h : List Nat) : Nat := imgWord h 2 % 256
def imgSecVer (h : List Nat) : Nat := imgWord h 4
def imgVersion (h : List Nat) : Nat := imgWord h 5
def imgLength (h : List Nat) : Nat := imgWord h 6
def imgSections (h : List Nat) : Nat := bitsOf (imgWord h 7) 31 24
def imgSlot (h : List Nat) : Nat := bitsOf (imgWord h 7) 23 16

/-- Section k: plaintext offset, length, load address, type, reserved bytes. -/
structure ImageSection where
  offset : Nat
  length : Nat
  load : Nat
  type : Nat
  rest : Nat
  deriving DecidableEq, Repr

def imgSection (h : List Nat) (k : Nat) : ImageSection :=
  ⟨imgWord h (8 + 4 * k), imgWord h (9 + 4 * k), imgWord h (10 + 4 * k), imgWord h (11 + 4 * k) / 2 ^ 24, imgWord h (11 + 4 * k) % 2 ^ 24⟩

/-- Two ranges overlap. -/
def overlaps (a n b m : Nat) : Bool := decide (a < b + m) && decide (b < a + n)

/-- Check 10: the count, each used entry's length, place and type, overlaps in plaintext and in SRAM, and unused entries. -/
def sectionsBad (h : List Nat) : Bool :=
  let n := imgSections h
  let used := (List.range n).map (imgSection h)
  n == 0 || decide (8 < n) ||
    used.any (fun x => x.length == 0 || decide (imgLength h < x.offset + x.length) || decide (0x100000 < x.load + x.length) ||
      !(x.type == 1 || x.type == 2)) ||
    (pairsBelow n).any (fun p =>
      let x := imgSection h p.1
      let y := imgSection h p.2
      overlaps x.offset x.length y.offset y.length || overlaps x.load x.length y.load y.length) ||
    ((List.range 8).drop n).any fun k => imgSection h k != ⟨0, 0, 0, 0, 0⟩

/-- The image kind that a life-cycle state boots (R413, R419): NORMAL in MANUFACTURE and DEPLOYED, RETURN in RETURN, and in
DEPLOYED only RETURN once the scorch fuse is burned. -/
def kindAllowed (s : State) (kind : Nat) : Bool :=
  match s.sec.otp.life with
  | 1 => kind == 0 && !s.sec.otp.scorched
  | 2 => if s.sec.otp.scorched then kind == 1 else kind == 0
  | 3 => kind == 1
  | _ => false

/-- Checks 1 to 12 of R425: the sub-code of the first that fails, 0 where none does. -/
def headerFail (s : State) (h : List Nat) : Nat :=
  let checks : List (Bool × Nat) :=
    [(imgWord h 0 != 0x4B583849, 1), (imgWord h 1 != 0x00010100, 2), (bitsOf (imgWord h 2) 31 16 != rd s F.ID_PART_PART, 3),
     (bitsOf (imgWord h 2) 15 8 != rd s F.ID_STEP_STEP, 4), (!kindAllowed s (imgKind h), 5),
     (decide (rd s F.ID_STEP_ROM_VER < imgWord h 3 / 2 ^ 16), 6), (decide (imgSecVer h < s.sec.otp.rollback), 7),
     (decide (32 < imgSecVer h), 8),
     (decide (imgLength h < 16) || decide (1048576 < imgLength h) || imgLength h % 16 != 0, 9), (sectionsBad h, 10),
     (decide (1 < imgSlot h) || !s.sec.otp.slotProg.testBit (imgSlot h) || s.sec.otp.slotRevoked.testBit (imgSlot h), 11),
     (imgWord h 3 % 2 ^ 16 != 0 || imgWord h 7 % 2 ^ 16 != 0 || (List.range 8).any (fun k => (imgSection h k).rest != 0) ||
        (List.range 7).any (fun k => imgWord h (57 + k) != 0), 12)]
  match checks.find? (·.1) with
  | some c => c.2
  | none => 0

/-- Header bytes a to a + n - 1. -/
def imgBytes (h : List Nat) (a n : Nat) : List Byte := (((wordsBytes h).take 256).drop a).take n

/-- Check 13 on a header: the content key does not unwrap under the image key (R423). -/
def unwrapFails (h : List Nat) : Bool := Config.unwrapFails Config.imageKey (imgBytes h 0xA0 40)

/-- Checks 13 to 15 on an image's bytes (R423, R425): the wrapped key, the signature over SHA-384 of header and ciphertext under the key of
the header's signing slot, and the GCM tag over header bytes 0x00 to 0xD3 and the ciphertext. -/
def verdictOf (h : List Nat) (body : List Byte) : ImageVerdict :=
  let n := imgLength h
  let cipher := body.take n
  if unwrapFails h then .unwrap
  else if Config.signatureFails (Config.signingHash (imgSlot h)) (Config.sha384 (imgBytes h 0 256 ++ cipher)) ((body.drop n).take 96) then
    .signature
  else if Config.tagFails (Config.unwrapped Config.imageKey (imgBytes h 0xA0 40)) (imgBytes h 0xC8 12) (imgBytes h 0 0xD4) cipher
    (imgBytes h 0xD4 16) then .decrypt
  else .good

/-- Every check of R425 on an image; LOCK disables decryption (R419). -/
def imageFail (s : State) (x : FlashImage) (misread : Bool) : Nat :=
  let c := headerFail s x.header
  if c ≠ 0 then c
  else if x.verdict.sub = 13 ∨ x.verdict.sub = 14 then x.verdict.sub
  else if s.sec.locked then 15
  else if x.verdict.sub ≠ 0 then x.verdict.sub else if misread then 16 else 0

/-! The boot ROM (R428). -/

def slotImage (s : State) (k : Fin 2) : Option FlashImage := s.sec.images[k]

/-- The sub-code for which a slot's image is refused at boot, 0 where it boots; an erased slot has no magic. -/
def slotFail (s : State) (v : BootReads) (k : Fin 2) : Nat :=
  match slotImage s k with
  | some x => imageFail s x (if k = 0 then v.a else v.b)
  | none => 1

def slotCommitted (s : State) (k : Fin 2) : Bool :=
  match slotImage s k with
  | some x => x.committed
  | none => false

/-- The image of a slot runs: the watchdog starts. -/
def bootSlot (s : State) (k : Fin 2) : State :=
  { s with
    sec := { s.sec with running := some k }
    faults := { s.faults with watchdogAt := s.time.tick } }

/-- No image boots. -/
def enterRecovery (s : State) : State :=
  wr { s with sec := { s.sec with recovery := true } } F.RING_STATUS_RESTARTING 0

/-- A trial that did not become healthy (R427): PENDING none and TRIAL 0; the revert is reported at READY. -/
def trialFails (s : State) (timeout : Bool) : State :=
  let s1 := writeBoot s (bootRecord s).active none false
  { s1 with sec := { s1.sec with
    reverted := some timeout
    trialAt := none
    migration := none } }

/-- The slot to boot: PENDING with TRIAL and the activation flag, which is cleared first; else ACTIVE, after a trial that any
other reset interrupts. -/
def bootChoice (s : State) : State × Fin 2 :=
  let r := bootRecord s
  let s1 := { s with sec := { s.sec with
    activate := false
    trialAt := none } }
  if r.trial then
    match s.sec.activate, r.pending with
    | true, some k => ({ s1 with sec := { s1.sec with trialAt := some s.time.hc } }, k)
    | _, _ => (trialFails s1 false, r.active)
  else (s1, r.active)

/-- The boot ROM chooses an image, tries the other slot where it fails, and else enters recovery. -/
def bootRom (s : State) (v : BootReads) : State :=
  let s0 := wr { s with sec := { s.sec with
    recovery := false
    running := none } } F.SEC_FW_STATUS_BOOT_FAIL 0
  let r := bootChoice s0
  let k := r.2
  let f1 := slotFail r.1 v k
  if f1 = 0 then bootSlot r.1 k
  else
    let s1 := wr r.1 F.SEC_FW_STATUS_BOOT_FAIL f1
    if slotCommitted s1 (k + 1) then
      let f2 := slotFail s1 v (k + 1)
      if f2 = 0 then bootSlot s1 (k + 1) else enterRecovery (wr s1 F.SEC_FW_STATUS_BOOT_FAIL f2)
    else enterRecovery s1

/-! Settings blocks in the flash (R431). -/

/-- A block's body, of at most 32,752 bytes. -/
def blockBody (b : SettingsBlock) : List Byte := (Config.settingsBody b.format b.layout b.eff b.fld).take 32752

/-- A block's CRC: over the header, CRC and STATE taken as 0, then the body. The header's order is that of R431's list (log entry 177). -/
def blockCrc (b : SettingsBlock) : Word :=
  flashCrc (bytesOf 4 b.magic.toNat ++ bytesOf 2 b.format ++ bytesOf 2 0 ++ bytesOf 4 b.length ++ bytesOf 4 b.seq ++ bytesOf 4 0 ++ blockBody b)

/-- A block is valid: its magic, its length and its CRC are right. -/
def blockValid (b : SettingsBlock) : Bool :=
  b.magic == 0x4B583853#32 && b.length == (blockBody b).length && b.crc == blockCrc b

/-- A block with the header that its body asks for. -/
def blockSealed (b : SettingsBlock) : SettingsBlock :=
  let x := { b with
    magic := 0x4B583853#32
    length := (blockBody b).length }
  { x with crc := blockCrc x }

/-- The block in force: valid, unsuperseded, the higher sequence number. -/
def blockInForce (s : State) : Option (Fin 2 × SettingsBlock) :=
  let ok := fun (k : Fin 2) => match s.sec.settings[k] with
    | some b => if b.superseded || !blockValid b then none else some (k, b)
    | none => none
  match ok 0, ok 1 with
  | some x, some y => if x.2.seq < y.2.seq then some y else some x
  | some x, none => some x
  | none, o => o

/-- The slot that a new block takes and the sequence it carries: the other slot than the block in force. -/
def nextSettings (s : State) : Fin 2 × Nat :=
  match blockInForce s with
  | some (k, b) => (k + 1, b.seq + 1)
  | none => (0, 1)

/-- The write of a block is cut short: its slot holds a block whose CRC is not good. -/
def cutBlock (s : State) (k : Fin 2) (b : SettingsBlock) : State :=
  { s with sec := { s.sec with settings := s.sec.settings.set k.val (some { b with crc := b.crc ^^^ 1 }) } }

/-- Mexis ends with a flash write under way (R422, R431): the record or the block it was writing is no valid one, and an image's slot is
not committed. That such a write never comes out whole is the model's choice (log entry 177). -/
def flashCut (s : State) : State :=
  match s.sec.ops with
  | .commit k :: _ => cutBoot s (some k)
  | .save b _ :: _ => cutBlock s (nextSettings s).1 (blockSealed { b with seq := (nextSettings s).2 })
  | _ => s

/-- The alarm actions that the OTP's policy sets at power-up (R411, R420). -/
def otpPolicy (s : State) : State :=
  let m := (s.sec.otp.policy.getD 0).toNat
  wr (wr (wr (wr (wr s F.SEC_ALARM_CFG_VGLITCH (bitsOf m 1 0)) F.SEC_ALARM_CFG_CGLITCH (bitsOf m 3 2)) F.SEC_ALARM_CFG_TEMP
    (bitsOf m 5 4)) F.SEC_ALARM_CFG_DEBUG (bitsOf m 7 6)) F.SEC_ALARM_CFG_AUTH_FAIL (bitsOf m 9 8)

end Sys2Proof.Machine
end

