-- ==== Sys2Proof/Machine/RegMap.lean ====
section
/-! DEFINITION. The register file by address (R335): which register and field an address or a key names, and parts of the
field maps. -/

namespace Sys2Proof.Machine

open Sys2Proof

/-- The instance of a register that an address names. -/
def RegPlace.find (p : RegPlace) (a : Nat) : Option (Nat × Nat) :=
  if a < p.base then none else
    let d := a - p.base
    let i := if p.count1 ≤ 1 then 0 else d / p.stride1
    let j := if p.count2 ≤ 1 then 0 else (d - i * p.stride1) / p.stride2
    if i < p.count1 ∧ j < p.count2 ∧ i * p.stride1 + j * p.stride2 = d then some (i, j) else none

/-- The register at an address, with its instance. -/
def findReg (a : Nat) : Option (RegInfo × Nat × Nat) :=
  regTable.findSome? fun r => (r.place.find a).map fun ij => (r, ij)

/-- Does a key (address times 32 plus lowest bit) name an instance of the field? -/
def Field.hasKey (f : Field) (k : Nat) : Bool := k % 32 == f.lo && (f.place.find (k / 32)).isSome

/-- The field that a key names. -/
def keyField (k : Nat) : Option Field :=
  match findReg (k / 32) with
  | some (r, _) => r.fields.find? fun f => f.lo == k % 32
  | none => none

/-- The values of some fields. -/
def keepFields (m : FieldMap) (fs : List Field) : FieldMap := m.filter fun e => fs.any fun f => f.hasKey e.1

/-- One map's entries laid over another's. -/
def overlay (m : FieldMap) (above : FieldMap) : FieldMap := above.foldl (fun a e => aSet a e.1 e.2) m

/-- A field of type RO or RL shows status; the others hold settings. -/
def Field.isStatus (f : Field) : Bool := f.ty == .ro || f.ty == .rl

def keyIsStatus (k : Nat) : Bool := (keyField k).any Field.isStatus

/-- A field of type RS (R339). -/
def keyIsRs (k : Nat) : Bool := (keyField k).any fun f => f.ty == .rs

end Sys2Proof.Machine
end

