-- ==== Sys2Proof/Machine/Host.lean ====
section
/-! DEFINITION. PLLs, references and clocking modes, and the host lanes' phase (chapters 01 and 10: R14, R22, R183-R199). -/

namespace Sys2Proof.Machine

open Sys2Proof

/-! Regions and their PLLs (R14, R21). -/

/-- The powered lanes of region b (0 A, 1 B) on the line or host side. -/
def regionLanes (s : State) (line : Bool) (b : Nat) : List LaneId :=
  let half := if line then 4 else 8
  (if line then allLine else allHost).filter fun l => laneRuns s l && l.num / half == b

def pllPair (s : State) (line : Bool) (b : Nat) : PllPair :=
  vGet (if line then s.time.linePll else s.time.hostPll) b .reset

def setPllPair (s : State) (line : Bool) (b : Nat) (x : PllPair) : State :=
  if line then { s with time := { s.time with linePll := vSet s.time.linePll b x } }
  else { s with time := { s.time with hostPll := vSet s.time.hostPll b x } }

/-- The PLL in use of a region is locked. -/
def PllPair.inUseLocked (x : PllPair) : Bool := if x.onUnderstudy then x.understudyLocked else x.mainLocked

/-- HSL_REF_STATUS shows the host regions' lock. -/
def pllShow (s : State) : State :=
  wrB (wrB s F.HSL_REF_STATUS_A_LOCK (pllPair s false 0).inUseLocked) F.HSL_REF_STATUS_B_LOCK (pllPair s false 1).inUseLocked

/-- A region is powered when CORE is and, for B, when it has a lane of an enabled port (chapter 01); in FORWARDED the PLLs of
HOST_B also run for LINE_B, whose clock derives from them (R46). R44 keeps HOST_A and LINE_A powered whenever CORE is; R382 switches every
line and host region off in INTERMISSION, where CORE is powered too: the model follows R382 (log entry 159). -/
def regionPowered (s : State) (line : Bool) (b : Nat) : Bool :=
  let lineB := (List.range 4).any fun k => (portOfLine s (4 + k)).isSome
  s.power.mode == .show && (b == 0 || (if line then lineB
    else (forwarded s && lineB) || (List.range 8).any fun k => (portOfHost s (8 + k)).isSome))

/-- HFCKO[b] runs in FORWARDED while its region is powered, once a change of CLK_MODE has its PLLs locked (R191, R196). -/
def hfckoRuns (s : State) (b : Nat) : Bool := forwarded s && regionPowered s false b && !s.path.modeChange

/-- What the pair HFCKO[b] does (R191, R396). -/
inductive HfckoPin where
  | clock
  | zero
  | floating
  deriving DecidableEq, Repr

def hfckoPin (s : State) (b : Nat) : HfckoPin :=
  if regionPowered s false b = false then .floating else if hfckoRuns s b then .clock else .zero

def hfckoFollow (s : State) : State :=
  wrB (wrB s F.HSL_REF_STATUS_HFCKO0_ON (hfckoRuns s 0)) F.HSL_REF_STATUS_HFCKO1_ON (hfckoRuns s 1)

/-- Both PLLs of each powered region lock, the main one in use; those of a region without power are not locked. -/
def pllsLock (s : State) : State :=
  hfckoFollow (pllShow ([(true, 0), (true, 1), (false, 0), (false, 1)].foldl (fun t r =>
    setPllPair t r.1 r.2 (if regionPowered t r.1 r.2 then ⟨true, true, false⟩ else .reset)) s))

/-- When a region last went to its understudy (R14). -/
def noteSwitch (s : State) (line : Bool) (b : Nat) : State :=
  if line then { s with path := { s.path with lineSwitch := vSet s.path.lineSwitch b (some s.time.tick) } }
  else { s with path := { s.path with hostSwitch := vSet s.path.hostSwitch b (some s.time.tick) } }

/-- PLL_LOCK_LOSS (R14): the PLL in use of a region loses lock. From the main one the region moves to its understudy; its lanes
lose lock and re-lock, and measurements of its lanes repeat once (chapter 12). The understudy in use has none behind it: its loss leaves the
region's lanes without lock (log entry 160). -/
def pllLockLoss (line : Bool) (b : Nat) (s : State) : State :=
  let x := pllPair s line b
  if x.inUseLocked = false then s
  else if x.onUnderstudy then
    let s1 := pllShow (setPllPair s line b ⟨x.mainLocked, false, true⟩)
    (regionLanes s1 line b).foldl lolRises s1
  else
    let s1 := noteSwitch (pllShow (setPllPair s line b ⟨false, x.understudyLocked, x.understudyLocked⟩)) line b
    let half := if line then 4 else 8
    (regionLanes s1 line b).foldl lolRises (calSwitchover s1 line (half * b) (half * (b + 1)))

/-- The location of the system PLL's events (R22). -/
def locSysPll : Nat := loc 3 1 0xA 0 0xFFF

/-- SYS_PLL_LOCK_LOSS (R22, R229, R247, R268). -/
def sysPllLockLoss (s : State) : State :=
  if s.time.sysPllLocked then
    let s1 := raiseEvent { s with time := { s.time with sysPllLocked := false } } (ev 0x8263 locSysPll 1)
    (List.range 8).foldl asideCut (calAbortAll (loopsFallBack s1))
  else s

def execSysPllLockLoss (s : State) : Host.Outcome State Fault Refusal := .next (sysPllLockLoss s)

/-- SYS_PLL_RELOCK (R22, R268): the fall-backs end; loops recover by R259. -/
def sysPllRelock (s : State) : State :=
  if s.time.sysPllLocked = false ∧ (s.power.mode = .show ∨ s.power.mode = .leavingIntermission) then
    let s1 := raiseEvent { s with time := { s.time with sysPllLocked := true } } (ev 0x8263 locSysPll)
    wr ((List.range 8).foldl asideListen s1) F.LOOP_ENGINE_STATUS_FALLBACK 0
  else s

def execSysPllRelock (s : State) : Host.Outcome State Fault Refusal := .next (sysPllRelock s)

/-! References (R191-R193). -/

/-- A host region's reference: 0 HFCK[0], 1 HFCK[1], 2 REFCLK. -/
def hostRef (s : State) (b : Nat) : Nat := if b = 0 then rd s F.HSL_REF_STATUS_A_REF else rd s F.HSL_REF_STATUS_B_REF

def setHostRef (s : State) (b v : Nat) : State :=
  if b = 0 then wr s F.HSL_REF_STATUS_A_REF v else wr s F.HSL_REF_STATUS_B_REF v

def inHoldover (s : State) (b : Nat) : Bool :=
  if b = 0 then rd s F.HSL_REF_STATUS_A_HOLDOVER == 1 else rd s F.HSL_REF_STATUS_B_HOLDOVER == 1

def setHoldover (s : State) (b : Nat) (v : Bool) : State :=
  if b = 0 then wrB s F.HSL_REF_STATUS_A_HOLDOVER v else wrB s F.HSL_REF_STATUS_B_HOLDOVER v

def refOk (s : State) (r : Nat) : Bool :=
  if r = 0 then rd s F.HSL_REF_STATUS_HFCK0_OK == 1 else if r = 1 then rd s F.HSL_REF_STATUS_HFCK1_OK == 1
  else rd s F.HSL_REF_STATUS_REFCLK_OK == 1

def setRefOk (s : State) (r : Nat) (v : Bool) : State :=
  if r = 0 then wrB s F.HSL_REF_STATUS_HFCK0_OK v else if r = 1 then wrB s F.HSL_REF_STATUS_HFCK1_OK v
  else wrB s F.HSL_REF_STATUS_REFCLK_OK v

/-- CLK_REF_CHANGE with the host regions affected, bit 0 A (log entry 81): its location is the main PLL of the lowest one, or
where none is, of the region whose own clock changed. -/
def raiseRef (s : State) (regions own : Nat) (holdover failed : Bool) : State :=
  let b := if regions = 0 then own else if regions.testBit 0 then 0 else 1
  raiseEvent s (ev 0x8260 (locPll (5 + b) 0) (b2n (refOk s 0) + b2n (refOk s 1) * 2 + b2n (refOk s 2) * 4 + regions * 2 ^ 4 +
    b2n holdover * 2 ^ 6 + b2n failed * 2 ^ 7))

/-- Host lanes in a region that holds over or slews in FORWARDED show LOL (R193). -/
def regionLol (s : State) (b : Nat) : State :=
  if forwarded s then (regionLanes s false b).foldl lolRises s else s

/-- The powered regions that run from a reference. -/
def refUsers (s : State) (r : Nat) : List Nat := (List.range 2).filter fun b => hostRef s b == r && regionPowered s false b

/-- A region of FORWARDED takes another reference (R193 step 1): its lanes retrain once it has slewed. -/
def changeRef (s : State) (b r : Nat) : State :=
  let s1 := setHostRef s b r
  { s1 with path := { s1.path with refChanged := vSet s1.path.refChanged b true } }

/-- A region whose reference is absent is in holdover; in FORWARDED it takes the other forwarded clock, where that is present (R193). -/
def holdOver (s : State) (b : Nat) : State :=
  let r := hostRef s b
  if refOk s r then s
  else
    let s1 := setHoldover s b true
    if forwarded s1 && decide (r < 2) && refOk s1 (1 - r) then changeRef s1 b (1 - r) else s1

/-- A region takes the reference that the mode gives it: its own forwarded clock, else REFCLK (R183). -/
def takeRef (s : State) (b : Nat) : State :=
  holdOver (setHostRef (setHoldover { s with path := { s.path with refChanged := vSet s.path.refChanged b false } } b false) b
    (if forwarded s then b else 2)) b

/-- A region that loses power has no reference to hold or to change. -/
def dropRef (s : State) (b : Nat) : State :=
  setHoldover { s with path := { s.path with refChanged := vSet s.path.refChanged b false } } b false

/-- REF_LOST (R192, R193). -/
def refLost (r : Nat) (s : State) : State :=
  if refOk s r then
    let bs := refUsers s r
    let s1 := raiseRef (bs.foldl (fun t b => setHoldover t b true) (setRefOk s r false)) (maskOf 2 bs.contains) (r % 2) (!bs.isEmpty) false
    bs.foldl (fun t b => regionLol (holdOver t b) b) s1
  else s

def execRefLost (ref : Fin 3) (s : State) : Host.Outcome State Fault Refusal := .next (refLost ref s)

/-- REF_PRESENT (R192, R193): the regions that wait for it begin to pull back. -/
def refPresent (r : Nat) (s : State) : State :=
  if refOk s r then s else
    let bs := (refUsers s r).filter (inHoldover s)
    raiseRef (setRefOk s r true) (maskOf 2 bs.contains) (r % 2) (!bs.isEmpty) false

def execRefPresent (ref : Fin 3) (s : State) : Host.Outcome State Fault Refusal := .next (refPresent ref s)

/-- Phase training begins (R187): the lock indicator starts anew, so LOL stands until R69 declares lock. -/
def trainStart (s : State) (n : Fin 16) : State :=
  let s1 := if laneLol s (.host n) then s else lolRises s (.host n)
  let s2 := lockWindowClear (setFront s1 (.host n) { front s1 (.host n) with
    freq := 0
    pass := 0
    fail := 0
    short := false
    trainSince := some s1.time.tick }) (.host n)
  wr (wr s2 F.HSL_STATUS_TRAINING 1 n) F.HSL_STATUS_TRAINED 0 n

def trainLane (s : State) : LaneId → State
  | .host n => trainStart s n
  | .line _ => s

/-- REF_SLEW_DONE (R193): the region leaves holdover, and where it took another reference its host lanes retrain. -/
def refSlewDone (b : Nat) (s : State) : State :=
  if inHoldover s b && refOk s (hostRef s b) then
    let s1 := setHoldover s b false
    let s2 := { s1 with path := { s1.path with refChanged := vSet s1.path.refChanged b false } }
    if forwarded s2 && vGet s1.path.refChanged b false then (regionLanes s2 false b).foldl trainLane s2 else s2
  else s

def execRefSlewDone (region : Fin 2) (s : State) : Host.Outcome State Fault Refusal := .next (refSlewDone region s)

/-- A region of FORWARDED may return to its own forwarded clock: it does not use it, and the clock is present. -/
def revertable (s : State) (b : Nat) : Bool := forwarded s && hostRef s b != b && refOk s b

/-- The region changes back by the procedure of R193 step 1: its phase slews, its lanes show LOL until it is done. -/
def revertRegion (s : State) (b : Nat) : State := regionLol (setHoldover (changeRef s b b) b true) b

/-- REF_REVERT_TIMER (R193). -/
def refRevertTimer (b : Nat) (s : State) : State :=
  if revertable s b && rdE s F.HSL_REF_CTRL_REF_REVERT == 1 then revertRegion s b else s

def execRefRevertTimer (region : Fin 2) (s : State) : Host.Outcome State Fault Refusal := .next (refRevertTimer region s)

/-- CLK_REF_REVERT's own part (R193, R199). -/
def clkRefRevert (c : Cmd) : State → State × Reply :=
  withChecks (fun s => [(!revertable s (c.w 2), stState, 0)]) fun s => (revertRegion s (c.w 2), .done stOK 0 0 0)

def execClkRefRevert (c : Cmd) (s : State) : Host.Outcome State Fault Refusal :=
  .next (hostCmd 0x0260 [(2, 1)] noGate c (clkRefRevert c) s)

/-! Phase training and tracking (R187). -/

/-- HSL_TRAIN_TIMEOUT: 200 microseconds without lock; training restarts, and the failure is counted (R290). -/
def hslTrainTimeout (n : Fin 16) (s : State) : State :=
  if rd s F.HSL_STATUS_TRAINING n = 1 ∧ laneRuns s (.host n) = true then
    let s1 := bump (lockWindowClear (setFront s (.host n) { front s (.host n) with
      pass := 0
      fail := 0
      short := false
      trainSince := some s.time.tick }) (.host n)) (cntHost n 10) 1
    retrainLaneDone (raiseEvent s1 (ev 0x8334 (locHost n) (1 + rd s F.HSL_STATUS_PI_CODE n * 2 ^ 8))) n true
  else s

def execHslTrainTimeout (lane : Fin 16) (s : State) : Host.Outcome State Fault Refusal := .next (hslTrainTimeout lane s)

/-- HSL_TRACK_WINDOW: the window's last codes; the sum of s_n over its 65,536 DSP clocks moves PI_CODE by at most one code, 2^18 of PHI. -/
def hslTrackWindow (n : Fin 16) (xs : List Int) (s : State) : State :=
  let l := LaneId.host n
  let s1 := rxStream s l xs
  let r := rxRec s1 l
  let s2 := setRxRec s1 l { r with track := 0 }
  if forwarded s2 && rd s2 F.HSL_STATUS_TRAINED n == 1 && laneRuns s2 l && !timingHeld s2 l then
    let thr : Int := 256 * (rdE s2 F.HSL_TR_CTRL_TRACK_THR n : Nat)
    if thr < r.track then setPhase s2 l (front s2 l).freq ((front s2 l).phase + 2 ^ 18)
    else if r.track < -thr then setPhase s2 l (front s2 l).freq ((front s2 l).phase - 2 ^ 18) else s2
  else s2

def execHslTrackWindow (lane : Fin 16) (codes : List Int) (s : State) : Host.Outcome State Fault Refusal :=
  .next (hslTrackWindow lane codes s)

/-- HSL_RETRAIN's own part (R199). -/
def hslRetrain (c : Cmd) : State → State × Reply :=
  let lanes := allHost.filter fun l => (c.w 2).testBit l.num
  withChecks (fun s =>
      [(!forwarded s || lanes.any (fun l => !lanePowered s l), stState, 0), (lanes.any (laneRehearsing s), stBusy, 0)])
    fun s => if c.w 2 = 0 then (s, .done stOK 0 0 0) else (lanes.foldl trainLane s, .later (c.w 2) 0)

def execHslRetrain (c : Cmd) (s : State) : Host.Outcome State Fault Refusal :=
  .next (hostCmd 0x0330 [(2, 0xFFFF)] noGate c (hslRetrain c) s)

/-! Wander and failover (R194, R195). -/

/-- A lane's gearbox recentres (R194): the block at which CORE reads a receiving lane, or the next one it sends on a transmitting lane, is
dropped or comes twice. -/
def dropBlock (s : State) (l : LaneId) (transmit repeated : Bool) : State :=
  let k : Int := if repeated then - (blockSymbols l : Int) else blockSymbols l
  if transmit then setTxRec s l { txRec s l with slip := (txRec s l).slip + k }
  else match l with
    | .line n => setLock (setLineAt s n ((lineAt s n : Int) + k).toNat) n { lockOf s n with pos := ((lockOf s n).pos + k).toNat }
    | .host n => setHostAt s n ((hostAt s n).map fun e => (e.1, ((e.2 : Int) + k).toNat))

/-- WANDER_LIMIT: a gearbox recentres; its block is dropped or repeated. -/
def wanderLimit (l : LaneId) (transmit repeated : Bool) (s : State) : State :=
  match lanePort s l with
  | none => s
  | some p =>
    if laneRuns s l then
      let d : Dir := match l with
        | .line _ => if transmit then .tx else .rx
        | .host _ => if transmit then .rx else .tx
      let s1 := bump (dropBlock s l transmit repeated) (cntPort p d 13) 1
      let s2 := match l with
        | .line _ => s1
        | .host n => bump s1 (cntHost n 6) 1
      let s3 := raiseEvent s2 (ev 0x8261 (laneLoc l)
        (l.num + b2n (!l.isLine) * 2 ^ 5 + b2n transmit * 2 ^ 6 + b2n repeated * 2 ^ 7))
      if transmit then s3 else
        match l with
        | .line n => if linkState s3 p = 4 ∨ linkState s3 p = 5 then lockLost s3 n else s3
        | .host n => hostLaneDown s3 n
    else s

def execWanderLimit (lane : LaneId) (transmit repeated : Bool) (s : State) : Host.Outcome State Fault Refusal :=
  .next (wanderLimit lane transmit repeated s)

def recovered (s : State) : Bool := rdE s F.PCS_PROFILE_CLK_MODE == 1

/-- A source lane is locked: neither LOS nor LOL. -/
def sourceLocked (s : State) (l : LaneId) : Bool := !laneLos s l && !laneLol s l

/-- The designated source of a port's interpolators: host lane 2p + TX_REF, or p + TX_REF in HALF; logical line lane RX_REF. -/
def designated (s : State) (p : Nat) (rx : Bool) : LaneId :=
  if rx then lineOf (physOf s p (rdE s F.HSL_CLK_SEL_RX_REF p))
  else hostOf ((if halfRate s then p else 2 * p) + rdE s F.HSL_CLK_SEL_TX_REF p)

def setFollow (s : State) (p : Nat) (rx : Bool) (x : Option Nat) : State :=
  if rx then { s with path := { s.path with rxFollow := vSet s.path.rxFollow p x } }
  else { s with path := { s.path with txFollow := vSet s.path.txFollow p x } }

def followed (s : State) (p : Nat) (rx : Bool) : Option Nat :=
  if rx then vGet s.path.rxFollow p none else vGet s.path.txFollow p none

/-- FAILOVER_TIMER (R195): back to the designated lane once it is locked; else, with FAILOVER = 1, to the lowest-numbered
locked lane of the same kind in the port. Line lanes count by their physical numbers here, in the event too (log entry 187). -/
def failoverTimer (p : Nat) (rx : Bool) (s : State) : State :=
  if recovered s && portEnabled s p then
    if sourceLocked s (designated s p rx) then setFollow s p rx none
    else
      let mk := fun n => if rx then lineOf n else hostOf n
      let stay := match followed s p rx with
        | some n => sourceLocked s (mk n)
        | none => false
      if stay || rdE s F.HSL_CLK_SEL_FAILOVER p == 0 then s else
        match (if rx then portLines s p else portHosts s p).find? fun n => sourceLocked s (mk n) with
        | some n => raiseEvent (setFollow s p rx (some n)) (ev 0x8262 (locPort p) (b2n rx + n * 2))
        | none => s
  else s

def execFailoverTimer (port : Fin 8) (rx : Bool) (s : State) : Host.Outcome State Fault Refusal :=
  .next (failoverTimer port rx s)

/-! Changing the clocking mode (R191, R196). -/

/-- The references that a mode gives its host regions; a region without power has none to hold. -/
def takeRefs (s : State) : State :=
  (List.range 2).foldl (fun t b =>
    if regionPowered t false b then takeRef t b else dropRef (setHostRef t b (if forwarded t then b else 2)) b) s

/-- Training belongs to FORWARDED (R187): where the mode changes, one under way ends and the lane is not trained. -/
def trainEnd (s : State) (n : Nat) : State :=
  let s1 := wr (wr s F.HSL_STATUS_TRAINING 0 n) F.HSL_STATUS_TRAINED 0 n
  if rd s F.HSL_STATUS_TRAINING n = 1 then retrainLaneDone s1 n true else s1

/-- CLK_MODE becomes another value at a GO (R196): every line and host PLL takes its new reference, so that the lanes lose lock; a port brought
up before they have it waits in ACQUIRE. -/
def clkModeChange (s : State) : State :=
  let s0 := (List.range 16).foldl trainEnd s
  let s1 := [(true, 0), (true, 1), (false, 0), (false, 1)].foldl (fun t r => setPllPair t r.1 r.2 .reset) s0
  let s2 := hfckoFollow (pllShow (takeRefs { s1 with path := { s1.path with
    modeChange := true
    txFollow := Vector.replicate 8 none
    rxFollow := Vector.replicate 8 none } }))
  ((allLine ++ allHost).filter (laneRuns s2)).foldl lolRises s2

/-- CLK_MODE_PLL_LOCK (R196): CORE returns to its own clocks; in FORWARDED the host lanes train. -/
def clkModePllLock (s : State) : State :=
  if s.path.modeChange = true ∧ s.power.mode = .show then
    let s1 := pllsLock { s with path := { s.path with modeChange := false } }
    if forwarded s1 then (allHost.filter (laneRuns s1)).foldl trainLane s1 else s1
  else s

def execClkModePllLock (s : State) : Host.Outcome State Fault Refusal := .next (clkModePllLock s)

/-- CLK_MODE_LOCK_TIMEOUT (R196): the failure is reported for the host regions whose PLL is not locked, and the KX8 keeps
trying. -/
def clkModeLockTimeout (s : State) : State :=
  if s.path.modeChange then
    let bs := (List.range 2).filter fun b => regionPowered s false b && !(pllPair s false b).inUseLocked
    raiseRef s (maskOf 2 bs.contains) 0 (bs.any (inHoldover s)) true
  else s

def execClkModeLockTimeout (s : State) : Host.Outcome State Fault Refusal := .next (clkModeLockTimeout s)

end Sys2Proof.Machine
end

