-- ==== Sys2Proof/Machine/GoCheck.lean ====
section
/-! DEFINITION. GO groups and the checks of a firing (chapter 17, R341-R343; the check tables R51, R77, R96, R117, R143, R164,
R182, R200, R201, R231, R270, R287, R310, R439 and R442). -/

namespace Sys2Proof.Machine

open Sys2Proof

/-! Instances and their staged fields (R341). -/

/-- A block instance with RS fields, by class and number. -/
inductive GoInst where
  | profile
  | port (p : Nat)
  | line (n : Nat)
  | host (n : Nat)
  | loop (l : Nat)
  | group (g : Nat)
  | bdac (c : Nat)
  | dgen (g : Nat)
  | sense (n : Nat)
  | flow
  deriving DecidableEq, Repr

/-- The device profile and HSL_REF_CTRL: its RS fields, in address order. -/
def stagedProfile : List Field :=
  [F.PCS_PROFILE_LINE_RATE, F.PCS_PROFILE_LINE_CODE, F.PCS_PROFILE_CLK_MODE, F.HSL_REF_CTRL_REF_REVERT]

/-- A port's PCS/FEC slice: its RS fields, in address order. -/
def stagedPort : List Field :=
  [F.PCS_PORT_CTRL_ADMIN_UP, F.PCS_PORT_CTRL_MODE, F.PCS_PORT_CTRL_WIDTH, F.FEC_CTRL_SD_EN, F.FEC_CTRL_EO_FALLBACK,
   F.FEC_CTRL_ERASE_EN, F.FEC_SD_CTRL_WIN, F.FEC_SD_SET_SD_SET, F.FEC_SD_CLR_SD_CLR, F.PCS_ALIGN_CTRL_SKEW_LIMIT,
   F.PCS_ALIGN_CTRL_MISS_LIMIT, F.PCS_ALIGN_CTRL_MATCH_ERR, F.PCS_RM_CTRL_HYST, F.PCS_LINK_CTRL_MAP_MODE,
   F.PCS_LINK_CTRL_PROBE_EN, F.PCS_LINK_CTRL_HOLD, F.PCS_LINK_TIMERS_REJOIN_TO, F.PCS_LINK_TIMERS_ACQ_TO,
   F.PCS_LINK_TIMERS_PROBE_TO, F.PCS_LINK_TIMERS_ALIGN_TO, F.PCS_LINK_TIMERS_BACKOFF, F.PCS_RX_MAP_INV,
   F.PCS_RX_MAP_PHYS, F.HSL_CLK_SEL_FAILOVER, F.HSL_CLK_SEL_RX_REF, F.HSL_CLK_SEL_TX_REF, F.FLOW_CFG_p_RX_EN,
   F.FLOW_CFG_p_RX_KEY, F.FLOW_CFG_p_TX_EN, F.FLOW_CFG_p_TX_KEY]

/-- A line lane: its RS fields, in address order. -/
def stagedLine : List Field :=
  [F.LRX_CTLE_CTRL_HF_TARGET, F.LRX_CTLE_CTRL_MODE, F.LRX_CTLE_CTRL_MAX, F.LRX_CTLE_CTRL_MIN, F.LRX_CTLE_CTRL_CODE,
   F.LRX_VGA_CTRL_TARGET, F.LRX_VGA_CTRL_MODE, F.LRX_VGA_CTRL_CODE, F.LRX_SLICE_MON_OOR_THR, F.LRX_SLICE_MON_GAIN_THR,
   F.LRX_SLICE_MON_OFS_THR, F.LRX_SLICE_MON_ENABLE, F.LRX_TR_CTRL_KP, F.LRX_TR_CTRL_KI, F.LRX_TR_CTRL_LOCK_THR,
   F.LRX_LOS_CTRL_RMS_THR, F.LRX_LOS_CTRL_RMS_EN, F.LRX_LOS_CTRL_ENV_EN, F.LRX_LOS_CTRL_ENV_THR, F.LRX_TPC_CTRL_EN,
   F.LRX_TPC_CTRL_PATTERN, F.LEQ_CTRL_LEVEL_A, F.LEQ_CTRL_MAIN, F.LEQ_CTRL_BLIND, F.LEQ_CTRL_LVL_EN, F.LEQ_CTRL_LFR_EN,
   F.LEQ_CTRL_PRECODE, F.LEQ_CTRL_DET, F.LEQ_CTRL_ADAPT_EN, F.LEQ_ADAPT_UPDATE_DIV, F.LEQ_ADAPT_FFE_MU,
   F.LEQ_ADAPT_CMA_MU, F.LEQ_ADAPT_DFE_MU, F.LEQ_ADAPT_OFS_MU, F.LEQ_ADAPT_LEAK, F.LEQ_FREEZE_TABLE,
   F.LEQ_FREEZE_LFR_GAIN, F.LEQ_FREEZE_OFFSETS, F.LEQ_FREEZE_DFE_2_4, F.LEQ_FREEZE_DFE_1, F.LEQ_FREEZE_FFE_POST,
   F.LEQ_FREEZE_FFE_MAIN, F.LEQ_FREEZE_FFE_PRE, F.LEQ_ACQ_DD_WINDOWS, F.LEQ_ACQ_OUTLIER_THR, F.LTX_CTRL_MAIN,
   F.LTX_CTRL_IDLE, F.LTX_CTRL_PRECODE, F.LTX_SWING_SWING, F.LTX_FIR_j_TAP, F.LTX_TPG_CTRL_EN, F.LTX_TPG_CTRL_PATTERN,
   F.LTX_TPG_USER_k_USER, F.FEC_INNER_CTRL_ERASE_THR, F.ASD_CTRL_AMP, F.ASD_CTRL_LOAD_EN, F.ASD_CTRL_KEY_SLOT,
   F.ASD_CTRL_AUTH, F.ASD_CTRL_PROFILE, F.ASD_TIMING_PARTNER_TO, F.ASD_TIMING_HEALTH_PERIOD, F.ASD_TIMING_HELLO_PERIOD,
   F.ASD_DET_LOAD_MARGIN, F.ASD_DET_WEAK_REJ, F.ASD_DET_CAPTURE_MARGIN, F.ASD_DET_DET_THR]

/-- A host lane: its RS fields, in address order. -/
def stagedHost : List Field :=
  [F.HSL_RX_CTRL_TARGET, F.HSL_RX_CTRL_VGA_MODE, F.HSL_RX_CTRL_VGA_CODE, F.HSL_RX_CTRL_CTLE_MODE,
   F.HSL_RX_CTRL_CTLE_CODE, F.HSL_EQ_CTRL_LEVEL_A, F.HSL_EQ_CTRL_FFE_MU, F.HSL_EQ_CTRL_DFE_MU, F.HSL_EQ_CTRL_MAIN,
   F.HSL_EQ_CTRL_BLIND, F.HSL_EQ_CTRL_PRECODE, F.HSL_EQ_CTRL_ADAPT_EN, F.HSL_TR_CTRL_TRACK_THR, F.HSL_TR_CTRL_KP,
   F.HSL_TR_CTRL_KI, F.HSL_TR_CTRL_LOCK_THR, F.HSL_TX_CTRL_SOURCE, F.HSL_TX_CTRL_AMP, F.HSL_TX_CTRL_POST,
   F.HSL_TX_CTRL_PRE, F.HSL_TX_CTRL_IDLE, F.HSL_TX_CTRL_PRECODE, F.HSL_TX_TAP_j_TAP, F.HSL_TP_CTRL_TPC_EN,
   F.HSL_TP_CTRL_TPC_PATTERN, F.HSL_TP_CTRL_TPG_EN, F.HSL_TP_CTRL_TPG_PATTERN, F.HSL_TPG_USER_k_USER]

/-- A loop: its RS fields, in address order. -/
def stagedLoop : List Field :=
  [F.LOOP_CTRL_PERIOD, F.LOOP_CTRL_GROUP, F.LOOP_CTRL_GROUPED, F.LOOP_CTRL_PROF_EN, F.LOOP_CTRL_LOST_ACTION,
   F.LOOP_CTRL_HIST_EVT, F.LOOP_CTRL_MODE, F.LOOP_INPUT_KIND, F.LOOP_INPUT_FRZ_LEN, F.LOOP_INPUT_DETECTOR,
   F.LOOP_INPUT_INDEX, F.LOOP_INPUT_AUX_CONST, F.LOOP_INPUT_AUX_VAR_THR, F.LOOP_SP_SAFE_U, F.LOOP_SP_TARGET,
   F.LOOP_GAIN_PI_KI, F.LOOP_GAIN_PI_KP, F.LOOP_GAIN_DF_KFF, F.LOOP_GAIN_DF_KD, F.LOOP_SHIFTS_ALPHA,
   F.LOOP_SHIFTS_FF_SHIFT, F.LOOP_SHIFTS_D_SHIFT, F.LOOP_SHIFTS_I_SHIFT, F.LOOP_SHIFTS_P_SHIFT, F.LOOP_ILIM_m_LIMIT,
   F.LOOP_OUT_MAP_OUT_SPAN, F.LOOP_OUT_MAP_OUT_BIAS, F.LOOP_OUT_LIM_OUT_MAX, F.LOOP_OUT_LIM_OUT_MIN,
   F.LOOP_OUT_DRV_COUPLE, F.LOOP_OUT_DRV_STEP_LIM, F.LOOP_OUT_DRV_ACTUATOR, F.LOOP_PROF_m_LIMIT]

/-- A loop group: its RS fields, in address order. -/
def stagedGroup : List Field :=
  [F.LOOP_GRP_g_COUPLE, F.LOOP_GRP_g_STEP_LIM, F.LOOP_GRP_g_ENABLE, F.LOOP_GRP_g_SAFETY, F.LOOP_GRP_g_ACTUATOR]

/-- A bias DAC channel: its RS fields, in address order. -/
def stagedBdac : List Field :=
  [F.BDAC_CTRL_c_DAMP, F.BDAC_CTRL_c_DGEN, F.BDAC_CTRL_c_DITH_EN, F.BDAC_CTRL_c_SOURCE, F.BDAC_CTRL_c_EN,
   F.BDAC_CODE_c_CODE]

/-- A dither generator: its RS fields, in address order. -/
def stagedDgen : List Field :=
  [F.BDAC_DGEN_g_EN, F.BDAC_DGEN_g_FREQ]

/-- A sense channel: its RS fields, in address order. -/
def stagedSense : List Field :=
  [F.SNS_CTRL_n_DELAY, F.SNS_CTRL_n_EN, F.SNS_DEC_n_CIC_R, F.SNS_DEC_n_HB, F.SNS_DEC_n_COEF, F.SNS_DEC_n_FIR_D,
   F.SNS_DET_n_ENV_COEF, F.SNS_DET_n_RMS_K, F.SNS_DET_n_PK_HOLD, F.SNS_DET_n_PK_DECAY, F.SNS_LOCKIN_n_GEN,
   F.SNS_LOCKIN_n_LI_N]

/-- The flow observer: its RS fields, in address order. -/
def stagedFlow : List Field :=
  [F.FLOW_GLOBAL_GIANT_MAX, F.FLOW_AGE_AGE_LIMIT, F.FLOW_SEED_SEED]

def GoInst.num : GoInst → Nat
  | .profile | .flow => 0
  | .port k | .line k | .host k | .loop k | .group k | .bdac k | .dgen k | .sense k => k

def GoInst.fields : GoInst → List Field
  | .profile => stagedProfile
  | .port _ => stagedPort
  | .line _ => stagedLine
  | .host _ => stagedHost
  | .loop _ => stagedLoop
  | .group _ => stagedGroup
  | .bdac _ => stagedBdac
  | .dgen _ => stagedDgen
  | .sense _ => stagedSense
  | .flow => stagedFlow

/-- The field that names the instance's group. -/
def GoInst.groupField : GoInst → Field
  | .profile => F.PCS_PROFILE_GO_GROUP
  | .port _ => F.PCS_PORT_CTRL_GO_GROUP
  | .line _ => F.LRX_GO_GO_GROUP
  | .host _ => F.HSL_GO_GO_GROUP
  | .loop _ => F.LOOP_CTRL_GO_GROUP
  | .group _ => F.LOOP_GRP_g_GO_GROUP
  | .bdac _ => F.BDAC_CTRL_c_GO_GROUP
  | .dgen _ => F.BDAC_DGEN_g_GO_GROUP
  | .sense _ => F.SNS_CTRL_n_GO_GROUP
  | .flow => F.FLOW_GLOBAL_GO_GROUP

/-- Every instance, in the order of R343. -/
def goInsts : List GoInst :=
  .profile :: (List.range 8).map .port ++ (List.range 8).map .line ++ (List.range 16).map .host ++ (List.range 32).map .loop ++
    (List.range 8).map .group ++ (List.range 32).map .bdac ++ (List.range 4).map .dgen ++ (List.range 24).map .sense ++ [.flow]

/-- The group an instance is in. -/
def GoInst.groupOf (x : GoInst) (s : State) : Nat := rd s x.groupField x.num

/-- The instance is in a fired group. -/
def GoInst.fired (x : GoInst) (s : State) (mask : Nat) : Bool := mask.testBit (x.groupOf s)

/-- The address of the instance's first register with an RS field. -/
def GoInst.firstAddr (x : GoInst) : Nat :=
  match x.fields with
  | f :: _ => f.place.base + x.num * f.place.stride1
  | [] => 0

/-- Each RS field of an instance with its second index. -/
def GoInst.slots (x : GoInst) : List (Field × Nat) := x.fields.flatMap fun f => (List.range f.place.count2).map fun j => (f, j)

/-- The instance's effective values take its staged ones. -/
def GoInst.apply (x : GoInst) (s : State) : State := x.slots.foldl (fun t e => wrE t e.1 (rd t e.1 x.num e.2) x.num e.2) s

/-- The instance's staged values take its effective ones (R346). -/
def GoInst.discard (x : GoInst) (s : State) : State := x.slots.foldl (fun t e => wr t e.1 (rdE t e.1 x.num e.2) x.num e.2) s

/-- The state whose effective values are those of the firing: staged in the fired groups, effective elsewhere. -/
def goCandidate (s : State) (mask : Nat) : State :=
  (goInsts.filter (GoInst.fired · s mask)).foldl (fun t x => x.apply t) s

/-! Checks. In each, `s` holds the effective values before the firing and `t` those of the firing. -/

/-- An effective value changes. -/
def changes (s t : State) (f : Field) (i : Nat) (j : Nat := 0) : Bool := rdE s f i j != rdE t f i j

/-- The first condition that holds gives the code. -/
def firstCode (cs : List (Bool × Nat)) : Option Nat := (cs.find? (·.1)).map (·.2)

/-- A failed check: the instance, the code and the sub-code. -/
structure GoFail where
  inst : GoInst
  code : Nat
  sub : Nat
  deriving DecidableEq, Repr

def adminUp (s : State) (p : Nat) : Bool := rdE s F.PCS_PORT_CTRL_ADMIN_UP p == 1

/-- The lane's port has effective ADMIN_UP = 1. -/
def laneAdmin (s : State) (l : LaneId) : Bool := (lanePort s l).any (adminUp s)

/-- Two ports share a lane in a layout. -/
def portsClash (l : Layout) (p q : Nat) : Bool :=
  (l.lines p).any (l.lines q).contains || (l.hosts p).any (l.hosts q).contains

/-- The condition of R51 of an order that concerns ports. -/
def portCheck (s t : State) (order p : Nat) : Bool :=
  let w := rdE t F.PCS_PORT_CTRL_WIDTH p
  let on := portEnabled t p
  match order with
  | 1 => decide (4 < w)
  | 2 => adminUp t p && w == 0
  | 3 => on && p % widthLanes w != 0
  | 4 => on && (List.range 8).any fun q => q != p && portEnabled t q && portsClash (layoutEff t) p q
  | 5 => on && passMode t p && innerCode t
  | 6 => on && passMode t p && asyncMode t
  | 7 => adminUp s p && (changes s t F.PCS_PORT_CTRL_WIDTH p || changes s t F.PCS_PORT_CTRL_MODE p)
  | 9 => on && portRehearsing t p
  | _ => false

/-- The condition of R51 of an order that concerns PCS_PROFILE. -/
def profileCheck (s t : State) (order : Nat) : Bool :=
  match order with
  | 1 => rdE t F.PCS_PROFILE_CLK_MODE == 3
  | 8 => (List.range 8).any (adminUp s) && (changes s t F.PCS_PROFILE_LINE_RATE 0 || changes s t F.PCS_PROFILE_LINE_CODE 0 ||
      changes s t F.PCS_PROFILE_CLK_MODE 0)
  | _ => false

/-- The codes of R51's orders 1 to 9. -/
def layoutCodes : List (Nat × Nat) :=
  [(1, stParam), (2, stParam), (3, stRange), (4, stConflict), (5, stConflict), (6, stConflict), (7, stState), (8, stState),
   (9, stBusy)]

/-- R51: within each check PCS_PROFILE first, then the ports taken, ascending. -/
def layoutChecks (s t : State) (mask : Nat) : Option GoFail :=
  let prof := GoInst.profile.fired s mask
  let ports := (List.range 8).filter fun p => prof || (GoInst.port p).fired s mask
  layoutCodes.findSome? fun o =>
    if prof && profileCheck s t o.1 then some ⟨.profile, o.2, 0xFF⟩
    else (ports.find? (portCheck s t o.1)).map fun p => ⟨.port p, o.2, p⟩

/-- R201, orders 18 to 20. -/
def clockChecks (t : State) : Option Nat :=
  let upper := (List.range 8).any fun p => portEnabled t p && ((portHosts t p).any (8 ≤ ·) ||
    (halfRate t && (portLines t p).any (4 ≤ ·)))
  firstCode [(forwarded t && !refOk t 0, stState), (forwarded t && !refOk t 1 && upper, stState),
    (!forwarded t && !refOk t 2, stState)]

/-- PHYS_0 to PHYS_(w-1) are each of 0 to w - 1 once (R182). -/
def mapOk (t : State) (p : Nat) : Bool :=
  let w := portWidth t p
  isPermutation w ((List.range w).map (mapPhys (rdE t F.PCS_RX_MAP_PHYS p)))

/-- A lane or the slice of the port is fenced (R442). -/
def portFenced (t : State) (p : Nat) : Bool :=
  (rd t F.TST_FENCED_PORTS).testBit p || (portLines t p).any (fun n => laneFenced t (lineOf n)) ||
    (portHosts t p).any fun n => laneFenced t (hostOf n)

def outside (x lo hi : Nat) : Bool := decide (x < lo) || decide (hi < x)

/-- A port's checks from order 10 on (R143, R164, R182, R201, R310, R442). -/
def portChecks (s t : State) (p : Nat) : Option Nat :=
  let e := fun f => rdE t f p
  let w := portWidth t p
  firstCode
    [(outside (e F.FEC_SD_CTRL_WIN) 16 26, stRange),
     (decide (e F.FEC_SD_SET_SD_SET < e F.FEC_SD_CLR_SD_CLR), stRange),
     (decide (8 < e F.PCS_ALIGN_CTRL_MATCH_ERR) || e F.PCS_ALIGN_CTRL_MISS_LIMIT == 0 ||
       outside (e F.PCS_ALIGN_CTRL_SKEW_LIMIT) 1 64, stRange),
     (outside (e F.PCS_RM_CTRL_HYST) 4 64, stRange),
     (!mapOk t p, stParam),
     (decide (e F.PCS_LINK_TIMERS_ACQ_TO < 5) || decide (e F.PCS_LINK_TIMERS_ALIGN_TO < 2) ||
       decide (e F.PCS_LINK_TIMERS_PROBE_TO < 5) || outside (e F.PCS_LINK_TIMERS_REJOIN_TO) 1 1000 ||
       e F.PCS_LINK_TIMERS_BACKOFF == 0, stRange),
     (e F.PCS_LINK_CTRL_MAP_MODE == 1 && adminUp s p &&
       !sameMap w (e F.PCS_RX_MAP_PHYS, e F.PCS_RX_MAP_INV) (rd s F.PCS_RX_MAP_USE_PHYS p, rd s F.PCS_RX_MAP_USE_INV p), stState),
     (portEnabled t p && (decide ((if halfRate t then w else 2 * w) ≤ e F.HSL_CLK_SEL_TX_REF) ||
       decide (w ≤ e F.HSL_CLK_SEL_RX_REF)), stRange),
     ((e F.FLOW_CFG_p_RX_EN == 1 && e F.FLOW_CFG_p_RX_KEY == 0) ||
       (e F.FLOW_CFG_p_TX_EN == 1 && e F.FLOW_CFG_p_TX_KEY == 0), stParam),
     (adminUp t p && portFenced t p, stHwFault)]

/-- A generator is switched on where it may not run (R164, R200): no enabled port, or one with ADMIN_UP = 1. -/
def generatorBad (t : State) (l : LaneId) (on : Bool) : Bool := on && ((lanePort t l).isNone || laneAdmin t l)

/-- A line lane's checks, orders 1 to 18 (R77, R96, R117, R164, R231, R439). -/
def lineChecks (s t : State) (n : Nat) : Option Nat :=
  let e := fun f => rdE t f n
  let l := lineOf n
  let up := laneAdmin s l
  firstCode
    [(decide (24 < e F.LRX_VGA_CTRL_CODE) || outside (e F.LRX_VGA_CTRL_TARGET) 8 48, stRange),
     (decide (e F.LRX_CTLE_CTRL_MAX < e F.LRX_CTLE_CTRL_MIN), stRange),
     (e F.LRX_SLICE_MON_OOR_THR == 0 || e F.LRX_SLICE_MON_OFS_THR == 0 || e F.LRX_SLICE_MON_GAIN_THR == 0, stRange),
     (decide (20 < e F.LRX_TR_CTRL_KP) || decide (16 < e F.LRX_TR_CTRL_KI), stRange),
     (outside (e F.LEQ_CTRL_MAIN) 4 36, stRange),
     (decide (e F.LEQ_CTRL_LEVEL_A < 64), stRange),
     ((decide (1 ≤ e F.LEQ_ADAPT_LEAK) && decide (e F.LEQ_ADAPT_LEAK ≤ 7)) || decide (10 < e F.LEQ_ADAPT_UPDATE_DIV) ||
       decide (6 < e F.LEQ_ADAPT_DFE_MU) || decide (6 < e F.LEQ_ADAPT_OFS_MU), stRange),
     (e F.LEQ_ACQ_DD_WINDOWS == 0 || e F.LEQ_ACQ_OUTLIER_THR == 0, stRange),
     (up && (changes s t F.LEQ_CTRL_MAIN n || changes s t F.LEQ_CTRL_LEVEL_A n || changes s t F.LEQ_CTRL_PRECODE n ||
       changes s t F.LEQ_CTRL_BLIND n), stState),
     (decide (8 < e F.LTX_CTRL_MAIN), stRange),
     (decide (rdEI t F.LTX_FIR_j_TAP n (e F.LTX_CTRL_MAIN) < 32), stRange),
     (up && (changes s t F.LTX_CTRL_PRECODE n || changes s t F.LTX_CTRL_MAIN n), stState),
     (decide (5 ≤ e F.LTX_TPG_CTRL_PATTERN) || decide (5 ≤ e F.LRX_TPC_CTRL_PATTERN), stParam),
     (generatorBad t l (e F.LTX_TPG_CTRL_EN == 1), stState),
     (outside (e F.ASD_CTRL_AMP) 1 10 || e F.ASD_TIMING_HELLO_PERIOD == 0 || decide (e F.ASD_TIMING_PARTNER_TO < 5) ||
       outside (e F.ASD_DET_DET_THR) 77 230 || outside (e F.ASD_DET_CAPTURE_MARGIN) 3 12 ||
       (decide (1 ≤ e F.ASD_DET_WEAK_REJ) && decide (e F.ASD_DET_WEAK_REJ ≤ 5)), stRange),
     (e F.ASD_CTRL_PROFILE == 3 || e F.ASD_CTRL_AUTH == 3, stParam),
     (e F.ASD_CTRL_AUTH != 0 && (laneKey t n).isNone, stState),
     (rehearsing s 1 n, stBusy)]

/-- A host lane's checks, orders 1 to 7 (R200, R439). -/
def hostChecks (s t : State) (n : Nat) : Option Nat :=
  let e := fun f => rdE t f n
  let l := hostOf n
  let drive := ((List.range 6).map fun j => (rdEI t F.HSL_TX_TAP_j_TAP n j).natAbs).sum
  firstCode
    [(decide (24 < e F.HSL_RX_CTRL_VGA_CODE) || outside (e F.HSL_RX_CTRL_TARGET) 8 48 ||
       decide (11 < e F.HSL_RX_CTRL_CTLE_CODE), stRange),
     (outside (e F.HSL_EQ_CTRL_MAIN) 1 12 || decide (e F.HSL_EQ_CTRL_LEVEL_A < 64) || decide (6 < e F.HSL_EQ_CTRL_DFE_MU),
       stRange),
     (e F.HSL_TX_CTRL_SOURCE == 0 && decide (128 < drive), stRange),
     (decide (5 ≤ e F.HSL_TP_CTRL_TPG_PATTERN) || decide (5 ≤ e F.HSL_TP_CTRL_TPC_PATTERN), stParam),
     (generatorBad t l (e F.HSL_TP_CTRL_TPG_EN == 1), stState),
     (laneAdmin s l && (changes s t F.HSL_EQ_CTRL_MAIN n || changes s t F.HSL_EQ_CTRL_LEVEL_A n ||
       changes s t F.HSL_EQ_CTRL_BLIND n || changes s t F.HSL_EQ_CTRL_PRECODE n || changes s t F.HSL_TX_CTRL_PRECODE n), stState),
     (rehearsing s 2 n, stBusy)]

/-! Loops and groups (R270). The modes of the firing count, not the engine's states. -/

def loopMode (t : State) (l : Nat) : Nat := rdE t F.LOOP_CTRL_MODE l

/-- The members of a group by the values of the firing: grouped, in the group, not OFF. -/
def membersOf (t : State) (g : Nat) : List Nat :=
  whichBelow 32 fun l => loopGrouped t l && loopGroup t l == g && loopMode t l != 0

def groupEnabled (t : State) (g : Nat) : Bool := rdE t F.LOOP_GRP_g_ENABLE g == 1

/-- The enabled drivers of a channel: enabled groups and ungrouped loops that are not OFF. -/
def enabledDrivers (t : State) (c : Nat) : Nat :=
  (whichBelow 8 fun g => groupEnabled t g && rdE t F.LOOP_GRP_g_ACTUATOR g == c).length +
    (whichBelow 32 fun l => !loopGrouped t l && loopMode t l != 0 && rdE t F.LOOP_OUT_DRV_ACTUATOR l == c).length

/-- KIND, INDEX and DETECTOR name a source of R255. -/
def inputLegal (t : State) (l : Nat) : Bool :=
  let k := rdE t F.LOOP_INPUT_KIND l
  let i := rdE t F.LOOP_INPUT_INDEX l
  let d := rdE t F.LOOP_INPUT_DETECTOR l
  if k = 0 then decide (i < 24) && decide (d ≤ 4)
  else if k = 1 then decide (i < 24) && decide (d ≤ 1)
  else if k = 2 then decide (i < 24)
  else true

/-- The safety member of an enabled group is no member of it, or has the action ESCALATE. -/
def safetyBad (t : State) (g : Nat) : Bool :=
  groupEnabled t g && (!(membersOf t g).contains (rdE t F.LOOP_GRP_g_SAFETY g) ||
    rdE t F.LOOP_CTRL_LOST_ACTION (rdE t F.LOOP_GRP_g_SAFETY g) == 2)

/-- The profile limits are in order (R262). -/
def profileLimitsBad (t : State) (l : Nat) : Bool :=
  let v := rdE t F.LOOP_PROF_m_LIMIT l 0
  let a := rdE t F.LOOP_PROF_m_LIMIT l 1
  let j := rdE t F.LOOP_PROF_m_LIMIT l 2
  rdE t F.LOOP_CTRL_PROF_EN l == 1 && (v == 0 || !(decide (j ≤ a) && decide (a ≤ v)))

/-- The input of a loop is under rehearsal: its sense channel, or the line lane of its metric. -/
def inputRehearsing (t : State) (l : Nat) : Bool :=
  let k := rdE t F.LOOP_INPUT_KIND l
  let i := rdE t F.LOOP_INPUT_INDEX l
  (decide (k ≤ 1) && rehearsing t 7 (i % 32)) || (k == 2 && rehearsing t 1 (i % 8))

/-- A loop's checks, orders 1 to 5. -/
def loopChecks (s t : State) (l : Nat) : Option Nat :=
  let e := fun f => rdE t f l
  let running := loopMode s l == 1
  let group := loopGroup t l
  firstCode
    [(loopMode t l == 3 || e F.LOOP_CTRL_LOST_ACTION == 3 || !inputLegal t l ||
       (e F.LOOP_CTRL_LOST_ACTION == 2 && !loopGrouped t l) ||
       (List.range 8).any (fun g => rdE t F.LOOP_GRP_g_SAFETY g == l && safetyBad t g), stParam),
     (outside (e F.LOOP_CTRL_PERIOD) 1 2000 || decide (8 < e F.LOOP_INPUT_FRZ_LEN) ||
       decide (e F.LOOP_OUT_LIM_OUT_MAX < e F.LOOP_OUT_LIM_OUT_MIN) ||
       decide (rdEI t F.LOOP_ILIM_m_LIMIT l 1 < rdEI t F.LOOP_ILIM_m_LIMIT l 0) || profileLimitsBad t l, stRange),
     ((!loopGrouped t l && loopMode t l != 0 && decide (1 < enabledDrivers t (e F.LOOP_OUT_DRV_ACTUATOR))) ||
       (loopGrouped t l && loopMode t l != 0 && decide (4 < (membersOf t group).length)), stConflict),
     (running && (changes s t F.LOOP_OUT_DRV_ACTUATOR l || changes s t F.LOOP_CTRL_GROUPED l ||
       changes s t F.LOOP_CTRL_GROUP l || changes s t F.LOOP_INPUT_KIND l || changes s t F.LOOP_INPUT_INDEX l ||
       changes s t F.LOOP_INPUT_DETECTOR l), stState),
     ((!running && loopMode t l == 1 &&
       ((loopActuator t l).any (rehearsing t 6) || inputRehearsing t l)) || loopRehearsing t l || loopRehearsing s l, stBusy)]

/-- A loop group's checks. -/
def groupChecks (s t : State) (g : Nat) : Option Nat :=
  let ms := membersOf t g
  firstCode
    [(safetyBad t g, stParam),
     ((groupEnabled t g && decide (1 < enabledDrivers t (rdE t F.LOOP_GRP_g_ACTUATOR g))) || decide (4 < ms.length), stConflict),
     (changes s t F.LOOP_GRP_g_ACTUATOR g && (membersOf s g).any fun l => loopMode s l == 1, stState),
     (rehearsing t 5 g, stBusy)]

/-! Bias DACs, generators, sense channels, flow observer (R287, R310, R442). -/

/-- A loop with effective MODE RUN drives the channel. -/
def runDrives (s : State) (c : Nat) : Bool :=
  (List.range 32).any fun l => loopMode s l == 1 && loopActuator s l == some c

/-- A loop with effective MODE RUN reads the sense channel. -/
def runReads (s : State) (n : Nat) : Bool :=
  (List.range 32).any fun l => loopMode s l == 1 && decide (rdE s F.LOOP_INPUT_KIND l ≤ 1) && rdE s F.LOOP_INPUT_INDEX l % 32 == n

def bdacChecks (s t : State) (c : Nat) : Option Nat :=
  firstCode
    [(runDrives s c && (changes s t F.BDAC_CTRL_c_SOURCE c || changes s t F.BDAC_CTRL_c_EN c), stState),
     (rehearsing t 6 c, stBusy),
     (rdE t F.BDAC_CTRL_c_EN c == 1 && t.test.fencedBdac.testBit c, stHwFault)]

def dgenChecks (t : State) (g : Nat) : Option Nat :=
  firstCode [(genEnabled t g && outside (rdE t F.BDAC_DGEN_g_FREQ g) 214749 21474836, stRange)]

/-- The settings of a sense channel whose change is a SYNC (R285). -/
def senseSettings : List Field :=
  [F.SNS_CTRL_n_DELAY, F.SNS_DEC_n_CIC_R, F.SNS_DEC_n_HB, F.SNS_DEC_n_FIR_D, F.SNS_DEC_n_COEF]

def senseChecks (s t : State) (n : Nat) : Option Nat :=
  let e := fun f => rdE t f n
  let d := if e F.SNS_DEC_n_FIR_D = 0 then 1 else e F.SNS_DEC_n_FIR_D
  firstCode
    [(outside (e F.SNS_DEC_n_CIC_R) 8 256 || e F.SNS_DEC_n_HB == 3 || decide (4 < e F.SNS_DEC_n_FIR_D) ||
       outside (e F.SNS_DET_n_RMS_K) 4 16 || e F.SNS_LOCKIN_n_LI_N == 0, stRange),
     (decide (e F.SNS_DEC_n_CIC_R * 2 ^ e F.SNS_DEC_n_HB * d < 16), stRange),
     (runReads s n && (changes s t F.SNS_CTRL_n_EN n || senseSettings.any fun f => changes s t f n), stState),
     (rehearsing t 7 n, stBusy)]

/-- The instance's own checks, with the sub-code of its chapter. -/
def instChecks (s t : State) (x : GoInst) : Option GoFail :=
  let fail := fun (o : Option Nat) sub => o.map fun c => GoFail.mk x c sub
  match x with
  | .profile => fail (clockChecks t) 0xFF
  | .port p => fail (portChecks s t p) p
  | .line n => fail (lineChecks s t n) n
  | .host n => fail (hostChecks s t n) (0x100 + n)
  | .loop l => fail (loopChecks s t l) (0x200 + l)
  | .group g => fail (groupChecks s t g) (0x240 + g)
  | .bdac c => fail (bdacChecks s t c) (0x300 + c)
  | .dgen g => fail (dgenChecks t g) (0x320 + g)
  | .sense n => fail (senseChecks s t n) (0x340 + n)
  | .flow => fail (firstCode [(decide (rdE t F.FLOW_GLOBAL_GIANT_MAX < 2048), stRange)]) 0x400

/-- The first check of a firing that fails (R343). -/
def goChecks (s t : State) (mask : Nat) : Option GoFail :=
  match layoutChecks s t mask with
  | some f => some f
  | none => (goInsts.filter (GoInst.fired · s mask)).findSome? (instChecks s t)

end Sys2Proof.Machine
end

