-- ==== Sys2Proof/Machine/Go.lean ====
section
/-! DEFINITION. What an accepted GO does, and firings (chapter 17, R342-R347; R53, R59, R86, R142, R172, R195, R196, R263, R272,
R285, R306). -/

namespace Sys2Proof.Machine

open Sys2Proof

/-! Power of lanes and regions (R14, R44). -/

/-- A line lane's aside channel and gatherer end as it loses power. -/
def laneLeaves (s : State) : LaneId → State
  | .line n => asideOff (stopGather s n) n true
  | .host _ => s

/-- Lanes that a change leaves without power go down, lanes that it powers come up; `s` is the state before. -/
def lanesPower (s u : State) : State :=
  let downs := (allLine ++ allHost).filter fun l => lanePowered s l && !lanePowered u l
  let ups := (allLine ++ allHost).filter fun l => !lanePowered s l && lanePowered u l
  ups.foldl lanePowerUp (downs.foldl (fun t l => lanePowerDown (laneLeaves t l) l) u)

/-- Regions that a change powers lock their PLLs, one that it switches off loses them; nothing moves while a change of CLK_MODE
waits for its PLLs. -/
def regionsPower (s u : State) : State :=
  if u.path.modeChange then u else
    let u1 := [(true, 0), (true, 1), (false, 0), (false, 1)].foldl (fun t r =>
      if regionPowered s r.1 r.2 = regionPowered u r.1 r.2 then t
      else setPllPair t r.1 r.2 (if regionPowered u r.1 r.2 then ⟨true, true, false⟩ else .reset)) u
    let u2 := (List.range 2).foldl (fun t b =>
      if regionPowered s false b = regionPowered u false b then t
      else if regionPowered u false b then takeRef t b else dropRef t b) u1
    hfckoFollow (pllShow u2)

/-! Ports. -/

/-- The GO restarts the port's show clocks (R53). -/
def clocksRestart (s u : State) (p : Nat) : Bool :=
  changes s u F.PCS_PORT_CTRL_WIDTH p || (changes s u F.PCS_PROFILE_LINE_RATE 0 && portEnabled s p && portEnabled u p)

/-- The values held over DARK that this GO loads (R38, R53). -/
def heldLoad (s u : State) (p : Nat) : Option HeldClocks :=
  match vGet u.time.held p none with
  | some h => if portEnabled s p = false ∧ portEnabled u p = true ∧ h.width = rdE u F.PCS_PORT_CTRL_WIDTH p ∧
      h.lineRate = rdE u F.PCS_PROFILE_LINE_RATE then some h else none
  | none => none

def dropHeld (s : State) (p : Nat) : State := { s with time := { s.time with held := vSet s.time.held p none } }

/-- A challenge follows a restart of the lane's own SC_TX, whatever its partner (R226). -/
def challengeRestart (s : State) (n : Nat) : State :=
  if asideAuth s n ≠ 0 ∧ asideRuns s n = true then challenge s n else s

/-- The instants of marker groups on a clock that restarts say nothing any more (R215, R216). -/
def groupsForget (s : State) (p : Nat) : State :=
  [Dir.tx, Dir.rx].foldl (fun t d => setPortPath t p d { portPath t p d with groups := [] }) s

/-- The lanes whose block grids a GO restarts (R485): the line lanes where LINE_CODE or LINE_RATE changes, the host lanes where CLK_MODE
does. -/
def retunedLanes (s u : State) : List LaneId :=
  (if changes s u F.PCS_PROFILE_LINE_CODE 0 || changes s u F.PCS_PROFILE_LINE_RATE 0 then allLine else []) ++
    (if changes s u F.PCS_PROFILE_CLK_MODE 0 then allHost else [])

/-- The show clocks at a GO: restarted, or loaded with what Mexis holds; the port's flow contexts go (R306). Its cues go when the
codeword is over (R53). -/
def portClocks (s u : State) (p : Nat) : State :=
  if clocksRestart s u p then
    match heldLoad s u p with
    | some h => dropHeld (groupsForget (restartClocks u p h.tx h.rx) p) p
    | none =>
      let u1 := (flowFlushPort (groupsForget (restartClocks u p .reset .reset) p) p 3).1
      let u2 := if portEnabled u p then dropHeld u1 p else u1
      (portLines u2 p).foldl challengeRestart u2
  else u

/-- A GO that changes a FEC field, or MODE, has the signal-degrade window in progress start anew at the next boundary (R142, R143). -/
def sdRestart (s u : State) (p : Nat) : State :=
  if [F.PCS_PORT_CTRL_MODE, F.FEC_CTRL_SD_EN, F.FEC_CTRL_EO_FALLBACK, F.FEC_CTRL_ERASE_EN, F.FEC_SD_CTRL_WIN, F.FEC_SD_SET_SD_SET,
      F.FEC_SD_CLR_SD_CLR].any (fun f => changes s u f p) then
    [Dir.tx, Dir.rx].foldl (fun t d => setPortPath t p d { portPath t p d with fecDue := true }) u
  else u

/-- Superblocks under way are dropped when the line code or the width changes. -/
def superRestart (s u : State) (p : Nat) : State :=
  if changes s u F.PCS_PROFILE_LINE_CODE 0 || changes s u F.PCS_PORT_CTRL_WIDTH p then
    { u with path := { u.path with
      superRx := vSet u.path.superRx p []
      superTx := vSet u.path.superTx p []
      innerTx := vSet u.path.innerTx p [] } }
  else u

/-- The map in use at a GO (R172): PCS_RX_MAP when ADMIN_UP rises, and always with MAP_MODE = LOCKED. -/
def mapGo (s u : State) (p : Nat) : State :=
  if (adminUp u p && !adminUp s p) || rdE u F.PCS_LINK_CTRL_MAP_MODE p == 1 then
    useMap u p (rdE u F.PCS_RX_MAP_PHYS p) (rdE u F.PCS_RX_MAP_INV p)
  else mapLearnedRefresh (lockShow u p) p

/-- A change of a designated lane takes effect at once (R195). -/
def clkSelGo (s u : State) (p : Nat) : State :=
  let u1 := if changes s u F.HSL_CLK_SEL_TX_REF p then setFollow u p false none else u
  if changes s u F.HSL_CLK_SEL_RX_REF p then setFollow u1 p true none else u1

/-- ADMIN_UP becomes 0 in DOWN: the row of R167 applies, and its reason is recorded (no state changes, so no event is raised). -/
def adminDown (s u : State) (p : Nat) : State :=
  if adminUp s p && !adminUp u p && linkState u p == 0 then wr u F.PCS_LINK_STATUS_REASON 1 p else u

/-- No probe runs with MAP_MODE = LOCKED (R172): one under way has failed (log entry 149). -/
def probeLocked (u : State) (p : Nat) : State :=
  if linkState u p = 3 ∧ rdE u F.PCS_LINK_CTRL_MAP_MODE p = 1 then alignEnd u p false else u

/-- PERIOD is the effective P_AM, 0 of a port that is off (R146). -/
def periodShow (u : State) (p : Nat) : State :=
  wr u F.PCS_ALIGN_STATUS_PERIOD (if portEnabled u p then markerPeriod (portFormat u p) else 0) p

/-- What a GO does to a port, after its lanes have power. -/
def portGo (s u0 : State) (p : Nat) : State :=
  let u := periodShow u0 p
  let u1 := clkSelGo s (mapGo s (sdRestart s (superRestart s (portClocks s u p) p) p) p) p
  probeLocked (linkFollow (adminDown s u1 p) p) p

/-! Lanes. -/

/-- With MODE FIXED the lane takes CODE at once; a search that runs or waits is given up, and an equaliser that waits for it starts (R56),
but not in DOWN or HOLD (R165, R179). CODE is taken under LOS and there too: R71 has the code held and does not say so of a GO; the model's
choice, log entry 158. -/
def ctleGo (u : State) (l : LaneId) : State :=
  if lanePowered u l && !ctleSearchMode u l && !laneRehearsing u l then
    let x := front u l
    let u1 := wrLine (setCtle u l (ctleFixed u l)) l F.LRX_STATUS_CTLE_SEARCH 0
    let u2 := setFront u1 l { x with
      search := none
      searchDue := false
      startDue := false }
    if x.startDue && laneLinkState u l != 0 && laneLinkState u l != 6 then eqStart u2 l false else u2
  else u

/-- A checker that is switched off, or takes another pattern, starts anew: LOCK is clear and its reference at 0. -/
def checkerGo (s u : State) (l : LaneId) : State :=
  if tpcEn s l ≠ tpcEn u l ∨ tpcPattern s l ≠ tpcPattern u l then
    let u1 := setSlip (setTpcPos (wrL u l F.LRX_TPC_STATUS_LOCK F.HSL_TPC_STATUS_LOCK 0) l 0) l 0
    setRxRec u1 l { rxRec u1 l with tpc := .reset }
  else u

/-- A generator that is switched on, or takes another pattern, starts that pattern (R154; where a PRBS starts is open, log entry 142). -/
def generatorGo (s u : State) (l : LaneId) : State :=
  if tpgEn u l && (!tpgEn s l || tpgPattern s l != tpgPattern u l) then setTxRec u l { txRec u l with prbs := 0, pos := 0 } else u

/-- What a GO does to a lane's front end, equaliser, checker and transmitter. -/
def laneGo (s u : State) (l : LaneId) : State :=
  let u1 := generatorGo s (checkerGo s (ctleGo u l) l) l
  let u2 := if lanePowered u1 l then losFollow u1 l else u1
  let u3 := match l with
    | .line n => if rdE s F.LEQ_CTRL_DET n = 0 ∧ rdE u2 F.LEQ_CTRL_DET n = 1 then eqDetOn u2 n else u2
    | .host _ => u2
  if laneRehearsing u3 l then u3 else eqRefresh (txFollow u3 l) l

/-- A lane leaves COOPERATIVE, whatever its partner's profile, or its PROFILE becomes OFF (R222, R224, R229); AUTH OFF ends
AUTH_STATE. -/
def asideGo (s u : State) (n : Nat) : State :=
  let u1 := if asideProfile s n = 2 ∧ asideProfile u n ≠ 2 then leaveCoop u n else u
  let u2 := if asideProfile s n ≠ 0 ∧ asideProfile u n = 0 then asideOff u1 n false
    else if asideProfile s n = 0 ∧ asideProfile u n ≠ 0 then asideListen u1 n else u1
  if asideAuth s n ≠ 0 ∧ asideAuth u n = 0 then wr u2 F.ASD_STATUS_AUTH_STATE 0 n else u2

/-! Loops (R263). -/

/-- A loop's record at OFF: discarded; history is kept. -/
def loopOff (u : State) (l : Nat) : State :=
  let u1 := setLoopState (setLoop u l .reset) l 0
  let u2 := wr (wr (wr u1 F.LOOP_STATUS_STALE 0 l) F.LOOP_STATUS_FROZEN 0 l) F.LOOP_STATUS_MOVING 0 l
  wr (wr (wr u2 F.LOOP_STATUS_CLAMP 0 l) F.LOOP_STATUS_SLEW 0 l) F.LOOP_STATUS_LOST_ARB 0 l

/-- The record of a loop that leaves OFF. -/
def loopNew (u : State) (l : Nat) (first : FirstPeriod) : LoopRec :=
  { LoopRec.reset with target := rdEI u F.LOOP_SP_TARGET l, t0 := u.ctl.tick, first := first }

/-- The record of a loop that a GO takes from HOLD to RUN: bumpless, its blocks of R257 counted anew. -/
def loopAgain (u : State) (l : Nat) : LoopRec :=
  { comesBack (blockAnew (loopRec u l)) with
    t0 := u.ctl.tick
    misses := 0
    eqRun := 0 }

/-- MODE at a GO: OFF to RUN, OFF to HOLD, RUN to HOLD, HOLD to RUN, any to OFF. A loop in FAULT stays there (R267). -/
def loopModeGo (s u : State) (l : Nat) : State :=
  let old := loopMode s l
  let new := loopMode u l
  let fault := rd u F.LOOP_ENGINE_STATUS_FAULT == 1 || loopFenced u l
  if old = new then u
  else if new = 0 then loopOff u l
  else if old = 0 then
    setLoopState (setLoop u l (loopNew u l (if new = 1 then .fromOff else .bumpless))) l
      (if fault then 6 else if new = 1 then runState u l else 2)
  else if loopState u l = 6 then u
  else if new = 2 then setLoopState (if loopState u l = 4 then setLoop u l (safeLeft (loopRec u l)) else u) l 2
  else setLoopState (setLoop u l (loopAgain u l)) l (runState u l)

/-- A change of FRZ_LEN begins a new block, and an input that the tests do not apply to is not FROZEN (R257). -/
def freezeGo (s u : State) (l : Nat) : State :=
  let u1 := if changes s u F.LOOP_INPUT_FRZ_LEN l then setLoop u l (blockAnew (loopRec u l)) else u
  if freezable u1 l then u1 else wr u1 F.LOOP_STATUS_FROZEN 0 l

def loopGo (s u : State) (l : Nat) : State :=
  let u1 := levelsFollow (freezeGo s (loopModeGo s u l) l) l
  movingShow (if changes s u F.LOOP_SP_TARGET l then setLoop u1 l { loopRec u1 l with target := rdEI u1 F.LOOP_SP_TARGET l } else u1) l

/-! Bias DACs, generators, sense channels (R272-R274, R285). -/

/-- A GO that sets EN loads the channel's corrections (R236) and puts the output at zero-scale until its source's first code; an ACTIVE channel follows its new settings. -/
def bdacGo (s u : State) (c : Nat) : State :=
  if rdE s F.BDAC_CTRL_c_EN c = 0 ∧ rdE u F.BDAC_CTRL_c_EN c = 1 then
    let u1 := bdacOff (loadCorrections u .biasDacs c) c
    wr (setBdac u1 c { bdacChan u1 c with
      fromLoop := rdE u1 F.BDAC_CTRL_c_SOURCE c == 1
      code := 0 }) F.BDAC_STATUS_c_STATE 1 c
  else if changes s u F.BDAC_CODE_c_CODE c && !(bdacChan u c).fromLoop then bdacRefresh u c else u

/-- The lock-in's integration stops (R284). -/
def lockinStops (u : State) (n : Nat) : State :=
  setSense u n { senseChan u n with
    liOn := false
    liSI := 0
    liSQ := 0
    liM := 0
    liWraps := 0
    liLast := (genAdvance u (rdE u F.SNS_LOCKIN_n_GEN n) 0).wraps }

/-- A generator that a GO switches on starts at phase 0; one switched off stops the integrations that use it (R284). -/
def dgenGo (s u : State) (g : Nat) : State :=
  if genEnabled s g = genEnabled u g then u
  else (whichBelow 24 fun n => rdE u F.SNS_LOCKIN_n_GEN n == g).foldl lockinStops
    { u with ctl := { u.ctl with gens := vMod u.ctl.gens g fun d => { d with phase := 0 } } }

/-- The dither term is 0 from the GO on that disables it or its generator (R273). -/
def ditherGate (u : State) (c : Nat) : State :=
  let on := rdE u F.BDAC_CTRL_c_DITH_EN c == 1 && genEnabled u (rdE u F.BDAC_CTRL_c_DGEN c)
  if on || (bdacChan u c).dither == 0 then u else bdacRefresh (setBdac u c { bdacChan u c with dither := 0 }) c

/-- A detector whose settings change starts anew (R285). -/
def detectorsGo (s u : State) (n : Nat) : State :=
  let ch := fun f => changes s u f n
  let x0 := senseChan u n
  let x1 := if ch F.SNS_DET_n_PK_HOLD || ch F.SNS_DET_n_PK_DECAY then { x0 with
    pkStarted := false
    maxHold := 0
    minHold := 0 } else x0
  let x2 := if ch F.SNS_DET_n_RMS_K then { x1 with
    rmsSum := 0
    rmsCount := 0 } else x1
  let x3 := if ch F.SNS_DET_n_ENV_COEF then { x2 with
    envStarted := false
    env := 0 } else x2
  let u1 := setSense u n x3
  if ch F.SNS_LOCKIN_n_GEN || ch F.SNS_LOCKIN_n_LI_N then lockinStops u1 n else u1

def senseGo (s u : State) (n : Nat) : State :=
  let was := rdE s F.SNS_CTRL_n_EN n == 1
  let on := rdE u F.SNS_CTRL_n_EN n == 1
  if on && !was then senseSync (loadCorrections u .senseChans n) n
  else if on && (senseSettings.any fun f => changes s u f n) then senseSync u n
  else if was && !on then senseBlank (setSense u n { SenseChan.reset with calibrating := (senseChan u n).calibrating }) n
  else if on then detectorsGo s u n else u

/-! A firing. -/

/-- Everything that an accepted GO does beside its effective values: `s` before, `u` with them. -/
def goEffects (s u : State) : State :=
  let u1 := (List.range 8).foldl (asideGo s) u
  let u2 := if changes s u F.PCS_PROFILE_CLK_MODE 0 then clkModeChange u1 else u1
  let u3 := (retunedLanes s u2).foldl gridRestart (lanesPower s (regionsPower s u2))
  let u4 := (List.range 8).foldl (portGo s) u3
  let u5 := (allLine ++ allHost).foldl (laneGo s) u4
  let u6 := runningCheck ((List.range 32).foldl (loopGo s) u5)
  let u7 := (List.range 32).foldl ditherGate ((List.range 4).foldl (dgenGo s) ((List.range 32).foldl (bdacGo s) u6))
  let u8 := (List.range 24).foldl (senseGo s) u7
  let u9 := if changes s u F.FLOW_SEED_SEED 0 then (flowFlush u8 fun _ => true).1 else u8
  poolShow u9

/-- The ports whose cues go after the codeword of a GO (R53). -/
def reconfigured (s u : State) : List Nat := (List.range 8).filter fun p => clocksRestart s u p && (heldLoad s u p).isNone

/-- Cancels the cues that watch ports (R53). -/
def reconfigureCues (s : State) (ports : List Nat) : State := cancelCues s (fun c => ports.contains c.port.val) 3

/-- A firing's count and origin in GO_INFO (R343). -/
def goCount (s : State) (g : Nat) (byCue rejected : Bool) : State :=
  let s1 := wrB (inc s F.GO_INFO_g_FIRES 1 g) F.GO_INFO_g_LAST_CUE byCue g
  if rejected then inc s1 F.GO_INFO_g_REJECTS 1 g else s1

def goStatus (s : State) (g code sub : Nat) : State := wr (wr s F.GO_STATUS_g_CODE code g) F.GO_STATUS_g_SUBCODE sub g

/-- The group that receives the failing check's code: the instance's, or PCS_PROFILE's for a port that takes part only under
R51. -/
def failGroup (s : State) (mask : Nat) (x : GoInst) : Nat :=
  if x.fired s mask then x.groupOf s else GoInst.profile.groupOf s

/-- A firing (R342, R343, R347): the mask of GO_FIRE, and the GO cues by entry and mask. The answer names the ports whose cues go
after the codeword. -/
def goFire (s : State) (reg : Nat) (cues : List (Nat × Nat)) : State × List Nat :=
  let byCue := cues.foldl (fun m e => m ||| e.2) 0
  let mask := (reg ||| byCue) % 2 ^ 16
  let gs := bitsSet 16 mask
  if mask = 0 then (s, []) else
  let u := goCandidate s mask
  match goChecks s u mask with
  | none =>
    let u1 := goEffects s u
    (gs.foldl (fun t g => goCount (goStatus t g 0 0) g (byCue.testBit g) false) u1, reconfigured s u)
  | some f =>
    let fg := failGroup s mask f.inst
    let addr := f.inst.firstAddr
    let s1 := gs.foldl (fun t g =>
      let t1 := if g = fg then goStatus t g f.code f.sub else goStatus t g stAborted fg
      goCount (wr t1 F.GO_FAIL_ADDR_g_ADDR addr g) g (byCue.testBit g) true) s
    let origin := if reg % 2 ^ 16 = 0 then (cues.map (·.1)).foldl min 63 else 0xFF
    (raiseEvent s1 (ev 0x8113 (locCoreFn 4 fg) (f.sub * 2 ^ 16 + f.code) (origin * 2 ^ 24 + addr)), [])

/-- GO_FIRE (R342). -/
def goFireRow (mask : Nat) (s : State) : State :=
  let r := goFire s mask []
  reconfigureCues r.1 r.2

/-- GO_DISCARD (R346). -/
def goDiscard (mask : Nat) (s : State) : State :=
  (goInsts.filter (GoInst.fired · s mask)).foldl (fun t x => x.discard t) s

def execGoDiscard (mask : BitVec 16) (s : State) : Host.Outcome State Fault Refusal := .next (goDiscard mask.toNat s)

end Sys2Proof.Machine
end

