-- ==== Sys2Proof/Machine/Timeline.lean ====
section
/-! DEFINITION. Cues fire (chapter 02, R30-R34). -/

namespace Sys2Proof.Machine

open Sys2Proof

/-- A cue that is due: its entry, itself, and the watched show clock at its trigger codeword. -/
structure DueCue where
  entry : Nat
  cue : Cue
  clock : ShowClock
  deriving DecidableEq, Repr

/-- The watched clock as it stood at a trigger reached so many codewords ago. -/
def clockAt (k : ShowClock) (trigger : BitVec 48) : ShowClock :=
  { k with count := trigger, epoch := if k.count.toNat < trigger.toNat then k.epoch - 1 else k.epoch }

/-- The entries due on a port's direction at so many codewords ago. -/
def dueAt (s : State) (p : Nat) (d : Dir) (ago : Nat) : List DueCue :=
  (List.range 64).filterMap fun e =>
    match armedCue s e with
    | some c =>
      if c.port.val = p ∧ c.dir = d ∧ overdue (showClock s p d) c.trigger = some ago then
        some ⟨e, c, clockAt (showClock s p d) c.trigger⟩
      else none
    | none => none

/-- The distances at which entries are due, most overdue first. -/
def dueDistances (s : State) (p : Nat) (d : Dir) : List Nat :=
  let ks := ((List.range 64).filterMap fun e =>
    match armedCue s e with
    | some c => if c.port.val = p ∧ c.dir = d then overdue (showClock s p d) c.trigger else none
    | none => none).eraseDups
  ks.mergeSort fun a b => b ≤ a

def dueClock (x : DueCue) : Option (Nat × Dir × ShowClock) := some (x.cue.port, x.cue.dir, x.clock)

/-- CUE_FIRED with NOTIFY, and for EVENT always (R31, R40); every firing is counted. -/
def cueFired (s : State) (x : DueCue) : State :=
  let s1 := bump s 0x74A 1
  if x.cue.notify || x.cue.action == 8 then
    raiseEvent s1 ⟨0x8801, locCue x.entry, x.entry + x.cue.action * 2 ^ 8 + x.cue.port.val * 2 ^ 16 + x.cue.dir.bit * 2 ^ 19 +
      b2n x.clock.freewheel * 2 ^ 20 + b2n x.cue.periodic * 2 ^ 21, cueData1 x.cue, dueClock x⟩
  else s1

/-- CUE_SKIPPED with a reason of R40 (R33). Where several reasons apply, the spec names no order: power comes before rehearsal, and that
before what is not configured (log entry 167). -/
def cueSkipped (s : State) (x : DueCue) (reason : Nat) : State :=
  raiseEvent (bump s 0x74B 1)
    ⟨0x8802, locCue x.entry, x.entry + x.cue.action * 2 ^ 8 + reason * 2 ^ 16, cueData1 x.cue, dueClock x⟩

/-- A one-shot entry is freed, a periodic one takes its next trigger (R30). -/
def cueAdvance (s : State) (x : DueCue) : State :=
  match armedCue s x.entry with
  | some c =>
    if c.periodic then setCue s x.entry (.armed { c with trigger := c.trigger + c.period, reached := none }) else setCue s x.entry .free
  | none => s

/-- SNAPSHOT (R293, R294): it captures the instant at which the trigger codeword passed, and records the clock watched as it stood there; a
skip is one of R33, reason BUSY. -/
def actSnapshot (s : State) (x : DueCue) : State :=
  let r := takeSnapshot s
    { source := if x.cue.agree.isSome then 3 else 2, entry := x.entry, dirBit := x.cue.dir.bit, port := x.cue.port,
      agree := x.cue.agree.elim 0 (·.toNat), clock := some x.clock, moment := x.cue.reached }
  match r.2 with
  | .taken _ => r.1
  | .skipped _ => cueSkipped r.1 x 2

/-- SPOTLIGHT (R73, R74): the source from the argument, the slice from the register. -/
def actSpotlight (s : State) (x : DueCue) : State :=
  let n := x.cue.arg % 8
  let source := x.cue.arg / 16 % 4
  let slice := rd s F.LRX_SPOT_CTRL_SLICE n
  if lanePowered s (lineOf n) = false then cueSkipped s x 1
  else if rehearsing s 1 n then cueSkipped s x 2
  else match spotBlocked s n source slice with
    | some 1 => cueSkipped s x 2
    | some _ => cueSkipped s x 3
    | none => spotBegin s n source slice (b2n x.clock.freewheel) (spotPlace s n x.cue.port x.cue.dir x.clock)

/-- What a landed swap means to an adaptation or a revert that armed it (R112, R115). -/
def swapOwned (s : State) (x : DueCue) (n : Nat) : State :=
  match x.cue.owner with
  | .host => s
  | .adapt => xaLanded s n x.cue.trigger
  | .revert => revertLanded s n

/-- LUT_SWAP (R103, R104, R491). With no lane to swap the reason is 2 where one of the mask is rehearsed, else 1, also for a mask of 0
(log entry 167). -/
def actSwap (s : State) (x : DueCue) : State :=
  let lanes := swappable s x.cue.arg
  if lanes.isEmpty then
    cueSkipped s x (if (bitsSet 8 x.cue.arg).any (fun n => rehearsing s 1 n) then 2 else 1)
  else lanes.foldl (fun t n => swapOwned (swapLane t n (dueClock x) x.clock.freewheel) x n) s

/-- ASIDE_SEND (R214). -/
def actAside (s : State) (x : DueCue) : State :=
  let n := x.cue.arg % 8
  let buf := x.cue.arg / 256 % 16
  if lanePowered s (lineOf n) = false then cueSkipped s x 1
  else if rehearsing s 1 n then cueSkipped s x 2
  else if asideProfile s n = 0 ∨ (vGet s.aside.bufs buf none).isNone = true ∨ asideRuns s n = false then cueSkipped s x 3
  else
    let a := asideLane s n
    if a.early.contains (x.entry, x.cue.trigger) then setAside s n { a with early := a.early.erase (x.entry, x.cue.trigger) }
    else enqueue s n (.buffer buf none)

/-- SNS_SYNC (R282): the enabled channels of the mask. -/
def actSync (s : State) (x : DueCue) : State :=
  let on := (bitsSet 24 x.cue.arg).filter fun n => rdE s F.SNS_CTRL_n_EN n == 1
  if s.power.mode ≠ .show then cueSkipped s x 1
  else if on.isEmpty then cueSkipped s x 3
  else if on.all fun n => rehearsing s 7 n then cueSkipped s x 2
  else senseSyncMask s x.cue.arg

/-- CAL_START (R31, R248): the run that a handle names is to start. -/
def actCal (s : State) (x : DueCue) : State :=
  if (aGet s.cal.deferred x.cue.arg).isNone then cueSkipped s x 3
  else if s.power.mode ≠ .show then cueSkipped s x 1
  else if s.cal.run.isSome || !s.cal.fired.isEmpty then cueSkipped s x 2
  else { s with cal := { s.cal with fired := s.cal.fired ++ [x.cue.arg] } }

/-- An action other than GO. -/
def cueAct (s : State) (x : DueCue) : State :=
  match x.cue.action with
  | 2 => actSnapshot s x
  | 3 => actSpotlight s x
  | 4 => actSwap s x
  | 5 => actAside s x
  | 6 => actSync s x
  | 7 => actCal s x
  | _ => s

/-- One codeword's firings (R32), with the mask of GO_FIRE where a write of it falls in the cycle (R342): the GO actions as one firing,
then the others in ascending entry number; the cues that a GO cancels go after the codeword (R53). -/
def fireCodeword (mask : Nat) (s : State) (xs : List DueCue) : State :=
  let gos := xs.filter fun x => x.cue.action == 1
  let rest := xs.filter fun x => x.cue.action != 1
  let s1 := gos.foldl (fun t x => cueAdvance (cueFired t x) x) s
  let r := goFire s1 mask (gos.map fun x => (x.entry, x.cue.arg))
  let s2 := rest.foldl (fun t x => cueAct (cueAdvance (cueFired t x) x) x) r.1
  reconfigureCues s2 r.2

/-- A show clock's triggers that lie before the newest one it has reached fire on their own codewords. -/
def clockEarly (s : State) (c : Nat × Dir) : State :=
  (dueDistances s c.1 c.2).dropLast.foldl (fun t ago => fireCodeword 0 t (dueAt t c.1 c.2 ago)) s

/-- The entries of the newest trigger that a clock has reached: `s0` tells how many codewords ago. -/
def dueNow (s0 s : State) (c : Nat × Dir) : List DueCue :=
  match (dueDistances s0 c.1 c.2).getLast? with
  | some ago => dueAt s c.1 c.2 ago
  | none => []

/-- The firings of one register-file cycle (R342, R344): the masks of the writes to GO_FIRE, joined, and the cues of the clocks that reach
a trigger, in one. -/
def joinedFire (mask : Nat) (cues : List (Nat × Dir)) (s : State) : State :=
  let s1 := cues.foldl clockEarly s
  fireCodeword mask s1 ((cues.flatMap (dueNow s s1)).mergeSort fun a b => decide (a.entry ≤ b.entry))

end Sys2Proof.Machine
end

