-- ==== Sys2Proof/Machine/TestBase.lean ====
section
/-! DEFINITION. Self-test (chapter 23): clusters, the BLOCK reset, fences, and the end of a test. -/

namespace Sys2Proof.Machine

open Sys2Proof

/-! Clusters (R19, R438). -/

/-- The instances of a cluster class that can be rehearsed. -/
def clusterCount (cls : Nat) : Nat :=
  match cls with
  | 1 => 8
  | 2 => 16
  | 3 => 8
  | 5 => 8
  | 6 => 32
  | 7 => 24
  | _ => 0

/-- The location of a cluster, or of a unit of it. -/
def locCluster (cls inst unit : Nat) : Nat :=
  let u := if cls = 6 then 0xFFF else unit
  let region := match cls with
    | 1 => lineRegion inst
    | 2 => hostRegion inst
    | 3 => 2
    | _ => 7
  loc (if u = 0xFFF then 2 else 1) region cls inst u

/-- The loops of a group, whether enabled or not. -/
def groupLoops (s : State) (g : Nat) : List Nat := (List.range 32).filter fun l => loopGrouped s l && loopGroup s l == g

def within (a base size : Nat) : Bool := decide (base ≤ a) && decide (a < base + size)

/-- Does a register at an address belong to a cluster? -/
def clusterAddr (s : State) (cls inst a : Nat) : Bool :=
  decide (inst < clusterCount cls) && match cls with
  | 1 => within a (0x080000 + inst * 0x10000) 0x10000 || within a (0x280000 + inst * 0x10000) 0x10000
  | 2 => within a (0x100000 + inst * 0x10000) 0x10000
  | 3 => within a (0x200000 + inst * 0x10000) 0xF000 || a == 0x340100 + 4 * inst
  | 5 => a == 0x300100 + 4 * inst || a == 0x300140 + 4 * inst ||
      (groupLoops s inst).any fun l => within a (0x301000 + 128 * l) 128
  | 6 => within a (0x310000 + 16 * inst) 16 || (a == 0x310800 + 4 * inst && rd s F.BDAC_CEIL_c_LOCK inst == 0)
  | 7 => within a (0x320000 + 64 * inst) 64
  | _ => false

/-- Status that a BLOCK reset keeps (R408, R440): slice assignments, FAILED marks, the counts, history flags, calibration
records and the BER estimate. -/
def blockKeeps : List Field :=
  [F.LRX_SLICE_STATUS_SWAP_COUNT, F.LRX_SLICE_STATUS_FAILED_64, F.LRX_SLICE_STATUS_UNDERSTUDY, F.LRX_SLICE_STATUS_NOSPARE,
   F.LRX_SLICE_FAILED_0_FAILED, F.LRX_SLICE_FAILED_1_FAILED, F.HSL_SLICE_STATUS_SWAP_COUNT, F.HSL_SLICE_STATUS_FAILED_32,
   F.HSL_SLICE_STATUS_UNDERSTUDY, F.HSL_SLICE_STATUS_NOSPARE, F.HSL_SLICE_FAILED_FAILED, F.LTX_STATUS_SWAP_COUNT,
   F.PCS_LINK_TIME_RESTARTS, F.LOOP_HIST_FLAGS, F.CNT_BER_SEQ, F.CNT_BER_NA, F.CNT_BER_UNDECODED, F.CNT_BER_LOG] ++
  [CalTarget.lineSlices, .dacSkew, .hostSlices].flatMap fun t => [F.CAL_COUNT_COUNT t, F.CAL_LAST_LO_HC_LO t,
    F.CAL_LAST_HI_HC_HI t, F.CAL_INFO_ESTIMATED t, F.CAL_INFO_SETS t, F.CAL_INFO_RESULT t, F.CAL_INFO_TEMP t]

/-- The copy of the cluster's RW, RS and RH fields taken at acceptance (R439). -/
def clusterCopy (s : State) (cls inst : Nat) : Rehearsal :=
  ⟨cls, inst, s.fld.filter (fun e => clusterAddr s cls inst (e.1 / 32) && !keyIsStatus e.1),
    s.eff.filter fun e => clusterAddr s cls inst (e.1 / 32)⟩

/-- The cluster's registers after a BLOCK reset: settings as copied, status at its reset values (R440); a ceiling locked
since the copy stands (R349). -/
def clusterReload (s : State) (r : Rehearsal) : State :=
  let inside := fun (e : Nat × Nat) => clusterAddr s r.cls r.inst (e.1 / 32)
  { s with
    fld := overlay (s.fld.filter fun e => !inside e || blockKeeps.any (·.hasKey e.1)) (r.savedFld.filter inside)
    eff := overlay (s.eff.filter fun e => !inside e) r.savedEff }

/-! The BLOCK reset's operating state (R408, R440). -/

/-- A line lane: equaliser and front end as unpowered and powered again, both lookup banks empty with bank 0 active, the aside
channel's state gone. -/
def blockLine (s : State) (r : Rehearsal) (n : Fin 8) : State :=
  let s1 := clusterReload (asideOff (lanePowerDown s (.line n)) n true) r
  let s2 := lutClear (lutClear s1 n 0) n 1
  let s3 := sealRefresh { s2 with lanes := { s2.lanes with
    gather := vSet s2.lanes.gather n none
    xaStart := vSet s2.lanes.xaStart n none
    revertDue := vSet s2.lanes.revertDue n false } }
  if lanePowered s3 (.line n) then lanePowerUp s3 (.line n) else s3

def blockHost (s : State) (r : Rehearsal) (n : Fin 16) : State :=
  let s1 := clusterReload (lanePowerDown s (.host n)) r
  if lanePowered s1 (.host n) then lanePowerUp s1 (.host n) else s1

/-- A port's slice: its buffers and link machine, and its flow contexts, counted in FLOW_FLUSHED. -/
def blockPort (s : State) (r : Rehearsal) (p : Nat) : State :=
  let s1 := clusterReload s r
  let s2 := setLink s1 p .reset
  let s3 := setPortPath (setPortPath s2 p .tx .reset) p .rx .reset
  let s4 := { s3 with path := { s3.path with
    superRx := vSet s3.path.superRx p []
    superTx := vSet s3.path.superTx p []
    innerTx := vSet s3.path.innerTx p [] } }
  (flowFlushPort s4 p 3).1

/-- A loop group: its members' records restart as at OFF to RUN (R263). -/
def blockGroup (s : State) (r : Rehearsal) (g : Nat) : State :=
  (groupLoops s g).foldl (fun t l =>
    if loopMode t l = 0 then setLoopState (setLoop t l .reset) l 0
    else setLoopState (setLoop t l (loopNew t l .fromOff)) l 2) (clusterReload s r)

/-- The BLOCK reset of a cluster (R440); a RESET record is the first record after it (R376). -/
def blockReset (s0 : State) (r : Rehearsal) : State :=
  let s := bookWrite s0 3 0 (locCluster r.cls r.inst 0xFFF) 6 0 0
  match r.cls with
  | 1 => blockLine s r (Fin.ofNat 8 r.inst)
  | 2 => blockHost s r (Fin.ofNat 16 r.inst)
  | 3 => blockPort s r r.inst
  | 5 => blockGroup s r r.inst
  | 6 => bdacOff (clusterReload s r) r.inst
  | _ =>
    let u := clusterReload s r
    if rdE u F.SNS_CTRL_n_EN r.inst = 1 then senseSync u r.inst else senseBlank (setSense u r.inst .reset) r.inst

/-! Fences (R442). -/

def setBit (m k : Nat) (b : Bool) : Nat := if b then m ||| 2 ^ k else if m.testBit k then m - 2 ^ k else m

/-- A cluster is fenced in its safe state, or its fence is lifted. -/
def fenceCluster (s : State) (cls inst : Nat) (b : Bool) : State :=
  match cls with
  | 1 =>
    let l : LaneId := .line (Fin.ofNat 8 inst)
    let s1 := if b && lanePowered s l then lanePowerDown (laneLeaves s l) l else s
    let s2 := wr s1 F.TST_FENCED_LINE (setBit (rd s1 F.TST_FENCED_LINE) inst b)
    if !b && lanePowered s2 l && !lanePowered s l then lanePowerUp s2 l else s2
  | 2 =>
    let l : LaneId := .host (Fin.ofNat 16 inst)
    let s1 := if b && lanePowered s l then lanePowerDown s l else s
    let s2 := wr s1 F.TST_FENCED_HOST (setBit (rd s1 F.TST_FENCED_HOST) inst b)
    if !b && lanePowered s2 l && !lanePowered s l then lanePowerUp s2 l else s2
  | 3 => wr s F.TST_FENCED_PORTS (setBit (rd s F.TST_FENCED_PORTS) inst b)
  | 5 =>
    let s1 := { s with test := { s.test with fencedGroups := setBit s.test.fencedGroups inst b } }
    if b then (groupLoops s1 inst).foldl (fun t l => if loopState t l = 0 then t else setLoopState t l 6) s1 else s1
  | 6 => { s with test := { s.test with fencedBdac := setBit s.test.fencedBdac inst b } }
  | _ =>
    let s1 := { s with test := { s.test with fencedSense := setBit s.test.fencedSense inst b } }
    if b then senseBlank s1 inst else s1

/-! Tests and their end (R434, R435, R441, R447). -/

/-- A test is in progress. -/
def testRuns (s : State) : Bool := s.test.rehearsal.isSome || s.test.memTest.isSome || s.test.dress

/-- TST_STATUS at the start of a test: 1 rehearsal, 2 memory, 3 dress. -/
def testBegins (s : State) (test cls inst : Nat) : State :=
  let s1 := wr (wr (wr s F.TST_STATUS_TEST test) F.TST_STATUS_CLASS cls) F.TST_STATUS_INSTANCE inst
  wr (wr (wr s1 F.TST_STATUS_RESULT 3) F.TST_STATUS_CAUSE 0) F.TST_STATUS_RUNNING 1

/-- A test's result: 0 PASS, 1 FAIL, 2 ABORTED with its cause (R447). -/
structure TestEnd where
  result : Nat
  cause : Nat
  patterns : Nat
  deriving DecidableEq, Repr

/-- TST_STATUS at the end, and TST_RESULT, which waits for Mexis where it is not READY (R441). -/
def testEnds (s : State) (test : Nat) (e : TestEnd) (l partitions : Nat) : State :=
  let s1 := wr (wr (wr s F.TST_STATUS_RESULT e.result) F.TST_STATUS_CAUSE e.cause) F.TST_STATUS_RUNNING 0
  let d0 := e.result + e.cause * 2 ^ 4 + test * 2 ^ 8 + partitions * 2 ^ 12
  if ready s1 then raiseEvent s1 (ev 0x8D01 l d0 e.patterns)
  else { s1 with test := { s1.test with results := s1.test.results ++ [(l, d0, e.patterns)] } }

/-- The completion of a test command: OK, E_HW_FAULT or E_ABORTED with the cause (R447). -/
def testReply (s : State) (opcode : Nat) (e : TestEnd) (r0 r1 : Nat) : State :=
  completeProg s opcode 0 (if e.result = 0 then stOK else if e.result = 1 then stHwFault else stAborted) e.cause r0 r1

/-- A rehearsal ends: the cluster is re-initialised by a BLOCK reset, fenced on FAIL, its fence lifted on PASS (R440, R442). -/
def rehearsalEnds (s : State) (e : TestEnd) (unit : Nat) : State :=
  match s.test.rehearsal with
  | none => s
  | some r =>
    let s1 := blockReset { s with test := { s.test with rehearsal := none } } r
    let s2 := if e.result = 1 then fenceCluster s1 r.cls r.inst true
      else if e.result = 0 then fenceCluster s1 r.cls r.inst false else s1
    testEnds (testReply s2 0x0D01 e e.patterns unit) 1 e (locCluster r.cls r.inst (if e.result = 1 then unit else 0xFFF)) 0

/-- A memory test ends (R437). -/
def memTestEnds (s : State) (e : TestEnd) (failing : Nat) : State :=
  match s.test.memTest with
  | none => s
  | some k => testEnds (testReply { s with test := { s.test with memTest := none } } 0x0D03 e failing 0) 2 e (locBank k) 0

/-- The location of the die as a whole: level 4 and every field that does not apply all ones; R19 has no class for it, so that this word is
the model's choice (log entry 164). -/
def locWholeDie : Nat := loc 4 0xF 0xF 0xFF 0xFFF

/-- The dress rehearsal ends: its result goes into the prompt book, a WARM reset follows, and TST_RESULT waits for READY
(R443). -/
def dressEnds (s : State) (e : TestEnd) (partitions : Nat) : State :=
  if s.test.dress then
    let s1 := wr (wr (wr s F.TST_STATUS_RESULT e.result) F.TST_STATUS_CAUSE e.cause) F.TST_STATUS_RUNNING 0
    let d0 := e.result + e.cause * 2 ^ 4 + 3 * 2 ^ 8 + partitions * 2 ^ 12
    let s2 := bookWrite s1 1 0x8D01 locWholeDie d0 e.patterns 0
    { s2 with
      test := { s2.test with
        dress := false
        results := s2.test.results ++ [(locWholeDie, d0, e.patterns)] }
      mgmt := { s2.mgmt with restartCause := none }
      power := { s2.power with warmPending := true } }
  else s

/-- Every test in progress ends ABORTED with a cause (R434, R441). -/
def testsAbort (s : State) (cause patterns : Nat) : State :=
  let e : TestEnd := ⟨2, cause, patterns⟩
  dressEnds (memTestEnds (rehearsalEnds s e 0xFFF) e 0) e 0

/-- The same where the patterns applied are not known: a free value (log entry 103). -/
def testsStop (s : State) (cause : Nat) : State :=
  if testRuns s then testsAbort (takeFree s) cause (Config.freeNat s.freeCount) else s

end Sys2Proof.Machine
end

