-- ==== Sys2Proof/Machine/Test.lean ====
section
/-! DEFINITION. The test commands and the test access port (chapter 23). -/

namespace Sys2Proof.Machine

open Sys2Proof

/-! Rehearsal (R438). -/

/-- The actuator of a loop is coupled to line lane n (R264). -/
def loopCoupled (s : State) (l n : Nat) : Bool :=
  if loopGrouped s l then (rdE s F.LOOP_GRP_g_COUPLE (loopGroup s l)).testBit n
  else (rdE s F.LOOP_OUT_DRV_COUPLE l).testBit n

/-- The loop's input is a DSP metric of line lane n (R255). -/
def loopReadsLane (s : State) (l n : Nat) : Bool := rdE s F.LOOP_INPUT_KIND l == 2 && rdE s F.LOOP_INPUT_INDEX l % 8 == n

/-- The loop's input is sense channel c (R255). -/
def loopReadsSense (s : State) (l c : Nat) : Bool := decide (rdE s F.LOOP_INPUT_KIND l < 2) && rdE s F.LOOP_INPUT_INDEX l % 32 == c

/-- The port has effective ADMIN_UP = 0, if there is one. -/
def portQuiet (s : State) (o : Option Nat) : Bool := o.all fun p => rdE s F.PCS_PORT_CTRL_ADMIN_UP p == 0

/-- The preconditions of a cluster's rehearsal (R438); the regions are off outside SHOW. -/
def rehearsalReady (s : State) (cls inst : Nat) : Bool :=
  s.power.mode == .show && (match cls with
  | 1 => portQuiet s (portOfLine s inst) &&
      (List.range 32).all fun l => loopMode s l != 1 || !(loopReadsLane s l inst || loopCoupled s l inst)
  | 2 => portQuiet s (portOfHost s inst)
  | 3 => rdE s F.PCS_PORT_CTRL_ADMIN_UP inst == 0
  | 5 => (groupLoops s inst).all fun l => loopMode s l != 1
  | 6 => rdE s F.BDAC_CTRL_c_EN inst == 0 && (driversOf s inst).all fun l => loopMode s l != 1
  | _ => (List.range 32).all fun l => loopMode s l != 1 || !loopReadsSense s l inst)

/-- The cluster is part of the calibration run in progress. -/
def clusterCalibrating (s : State) (cls inst : Nat) : Bool :=
  match cls with
  | 1 => (lapOf s (.line (Fin.ofNat 8 inst))).isSome || s.cal.skewNow.testBit inst
  | 2 => (lapOf s (.host (Fin.ofNat 16 inst))).isSome
  | 6 => s.cal.bdacQueue.contains inst || s.cal.bdacNow == some inst
  | 7 => s.cal.senseQueue.contains inst || s.cal.senseNow == some inst
  | _ => false

/-- TST_REHEARSE's own part (R438, R439). -/
def tstRehearse (c : Cmd) : State → State × Reply :=
  let cls := c.w 2
  let inst := c.w 3
  withChecks (fun s =>
      [(decide (clusterCount cls ≤ inst), stRange, 0),
       (!rehearsalReady s cls inst, stState, 0),
       (testRuns s || clusterCalibrating s cls inst, stBusy, 0)])
    fun s => (testBegins { s with test := { s.test with rehearsal := some (clusterCopy s cls inst) } } 1 cls inst, .later 0 0)

/-- A SCRAPPED part tests nothing (chapter 23). -/
def rehearseGate (s : State) : Option (Nat × Nat) := if s.sec.otp.life = 4 then some (stLifecycle, 0) else none

def execTstRehearse (c : Cmd) (s : State) : Host.Outcome State Fault Refusal :=
  .next (hostCmd 0x0D01 [(2, 15), (3, 0xFF)] rehearseGate c (tstRehearse c) s)

/-- What the engine's count and compare say (R435): a wrong count is never judged. -/
def verdictEnd (v : TestVerdict) (patterns : Nat) : TestEnd :=
  match v with
  | .pass => ⟨0, 0, patterns⟩
  | .fail => ⟨1, 0, patterns⟩
  | .miscount => ⟨2, 3, patterns⟩

def execRehearsalEnd (v : TestVerdict) (patterns : Word) (unit : BitVec 12) (s : State) : Host.Outcome State Fault Refusal :=
  .next (rehearsalEnds s (verdictEnd v patterns.toNat) (match v with
    | .fail => unit.toNat
    | _ => 0xFFF))

/-- TST_ABORT's own part (R441). -/
def tstAbort : State → State × Reply :=
  withChecks (fun s => [(s.test.rehearsal.isNone && s.test.memTest.isNone, stState, 0)])
    fun s =>
      let e : TestEnd := ⟨2, 4, Config.freeNat s.freeCount⟩
      (memTestEnds (rehearsalEnds (takeFree s) e 0xFFF) e 0, .done stOK 0 0 0)

def execTstAbort (c : Cmd) (s : State) : Host.Outcome State Fault Refusal := .next (hostCmd 0x0D02 [] noGate c tstAbort s)

/-! Memory test (R437). -/

def tstMemTest (c : Cmd) : State → State × Reply :=
  withChecks (fun s => [(testRuns s, stBusy, 0)])
    fun s => (testBegins { s with test := { s.test with memTest := some (c.w 2) } } 2 0 (c.w 2), .later 0 0)

def execTstMemTest (c : Cmd) (s : State) : Host.Outcome State Fault Refusal :=
  .next (hostCmd 0x0D03 [(2, 0x3F)] noGate c (tstMemTest c) s)

/-- MEM_TEST_END (R437): the words that read back wrongly, with a bit of each, are hard-fault candidates. -/
def memTestEnd (fails : List (Nat × Nat)) (counted : Bool) (patterns : Nat) (s : State) : State :=
  match s.test.memTest with
  | none => s
  | some k =>
    let s1 := fails.foldl (fun t f => if wordValid t k f.1 then hardCandidate t k f.1 f.2 else t) s
    memTestEnds s1 (if !counted then ⟨2, 3, patterns⟩ else if fails.isEmpty then ⟨0, 0, patterns⟩ else ⟨1, 0, patterns⟩)
      fails.length

def execMemTestEnd (fails : List (Fin 32768 × Fin 79)) (counted : Bool) (patterns : Word) (s : State) :
    Host.Outcome State Fault Refusal :=
  .next (memTestEnd (fails.map fun f => (f.1.val, f.2.val)) counted patterns.toNat s)

/-! Dress rehearsal (R443). -/

def tstDress : State → State × Reply :=
  withChecks (fun s =>
      [((List.range 8).any (fun p => rdE s F.PCS_PORT_CTRL_ADMIN_UP p == 1) || (List.range 32).any (fun l => loopMode s l != 0) ||
          (List.range 32).any (fun c => rdE s F.BDAC_CTRL_c_EN c == 1), stState, 0),
       (testRuns s || s.cal.run.isSome || s.sec.update.isSome || !s.sec.ops.isEmpty, stBusy, 0)])
    fun s => (testBegins { s with test := { s.test with dress := true } } 3 0 0, .later 0 0)

def execTstDress (c : Cmd) (s : State) : Host.Outcome State Fault Refusal := .next (hostCmd 0x0D04 [] testGate c tstDress s)

/-- DRESS_REHEARSAL_END (R443): a FAIL fences the lanes and ports of the failing partitions. -/
def dressEnd (v : TestVerdict) (patterns partitions ports line host : Nat) (s : State) : State :=
  if s.test.dress then
    let e := verdictEnd v patterns
    if e.result = 1 then
      let s1 := (bitsSet 8 line).foldl (fun t n => fenceCluster t 1 n true) s
      let s2 := (bitsSet 16 host).foldl (fun t n => fenceCluster t 2 n true) s1
      dressEnds ((bitsSet 8 ports).foldl (fun t p => fenceCluster t 3 p true) s2) e partitions
    else dressEnds s e 0
  else s

def execDressRehearsalEnd (v : TestVerdict) (patterns : Word) (partitions : BitVec 4) (ports line : BitVec 8)
    (host : BitVec 16) (s : State) : Host.Outcome State Fault Refusal :=
  .next (dressEnd v patterns.toNat partitions.toNat ports.toNat line.toNat host.toNat s)

/-- TEST_LIMIT_EXCEEDED (R434): the test in progress ends ABORTED with cause LIMIT_CLOCK or LIMIT_VOLTAGE. -/
def execTestLimitExceeded (clock : Bool) (patterns : Word) (s : State) : Host.Outcome State Fault Refusal :=
  .next (if testRuns s then testsAbort s (if clock then 1 else 2) patterns.toNat else s)

/-- A test uses the clocks of a line or host region: a rehearsal of one of its lanes, or the dress rehearsal (R434). -/
def testUsesRegion (s : State) (line : Bool) (b : Nat) : Bool :=
  s.test.dress || (match s.test.rehearsal with
    | some r => if line then r.cls == 1 && r.inst / 4 == b else r.cls == 2 && r.inst / 8 == b
    | none => false)

/-- PLL_LOCK_LOSS (R14): a switchover to the understudy also ends a test that uses the region (R434). -/
def execPllLockLoss (line : Bool) (region : Fin 2) (s : State) : Host.Outcome State Fault Refusal :=
  let x := pllPair s line region
  let t := pllLockLoss line region s
  .next (if x.inUseLocked && !x.onUnderstudy && testUsesRegion s line region then testsStop t 1 else t)

/-! Boundary scan (R444-R446). -/

/-- The instructions that take the pins from the device (R446). -/
def jtagTakesPins (code : Nat) : Bool := decide (3 ≤ code) && decide (code ≤ 7)

/-- The pins go to the boundary cells: every powered lane loses its signal (R446). -/
def jtagPins (s : State) (take : Bool) : State :=
  if take && !s.test.jtagPins then
    (allLine ++ allHost).foldl losPins
      { s with test := { s.test with jtagPins := true } }
  else { s with test := { s.test with jtagPins := take } }

/-- JTAG_INSTRUCTION_UPDATE (R444, R446): at Update-IR; a gated instruction selected in DEPLOYED is a DEBUG alarm. -/
def jtagUpdate (code : Nat) (s : State) : State :=
  let s1 := jtagPins { s with test := { s.test with jtagIr := jtagEffective s code } } (jtagTakesPins code)
  if jtagGated code ∧ s.sec.otp.life = 2 then raiseAlarm s1 3 else s1

def execJtagInstructionUpdate (code : BitVec 8) (s : State) : Host.Outcome State Fault Refusal :=
  .next (jtagUpdate code.toNat s)

/-- JTAG_TAP_RESET (R444): IDCODE, and the pins return. -/
def execJtagTapReset (s : State) : Host.Outcome State Fault Refusal :=
  .next (jtagPins { s with test := { s.test with jtagIr := 1 } } false)

/-- IDCODE (R445). -/
def jtagIdcode : Nat := 0x183205CF

end Sys2Proof.Machine
end

