-- ==== Sys2Proof/Machine/Faults.lean ====
section
/-! DEFINITION. Faults, integrity and the prompt book (chapter 19). -/

namespace Sys2Proof.Machine

open Sys2Proof

/-! Management watchdog and lockstep (R368, R9). -/

/-- Mexis runs: an image is loaded and no restart is due. -/
def mexisRuns (s : State) : Bool := deviceUp s && s.sec.running.isSome && s.mgmt.restartCause.isNone

/-- WATCHDOG_SERVICE (R368). -/
def watchdogService (s : State) : State :=
  if mexisRuns s then { s with faults := { s.faults with watchdogAt := s.time.tick } } else s

def execWatchdogService (s : State) : Host.Outcome State Fault Refusal := .next (watchdogService s)

/-- WATCHDOG_EXPIRY (R368, R377): 100 ms without service. -/
def watchdogExpiry (s : State) : State :=
  if mexisRuns s ∧ sinceNs s (some s.faults.watchdogAt) 100000000 = true then
    requestMgmt (curtain (raiseEvent { s with faults := { s.faults with watchdogAt := s.time.tick } }
      (ev 0x8B05 (locMgmt 0))) 3 0x8B05 (locMgmt 0)) 3
  else s

def execWatchdogExpiry (s : State) : Host.Outcome State Fault Refusal := .next (watchdogExpiry s)

/-- LOCKSTEP_MISMATCH (R9, R377): no event of its own; the curtain marker carries event code 0 (log entry 104). -/
def lockstepMismatch (s : State) : State := if mexisRuns s then requestMgmt (curtain s 6 0 (locMgmt 0)) 2 else s

def execLockstepMismatch (s : State) : Host.Outcome State Fault Refusal := .next (lockstepMismatch s)

/-! The crystal (R369). -/

/-- CRYSTAL_EDGE_LOSS: the clocks hold over, the house clock is an estimate from now on, the aside channel stops, a test ends. -/
def crystalEdgeLoss (s : State) : State :=
  if s.time.crystalOk && deviceUp s then
    let s1 := wr { s with time := { s.time with
      crystalOk := false
      estimated := true } } F.CUE_SC_STATE_HC_ESTIMATED 1
    let s2 := (List.range 8).foldl asideCut s1
    testsStop (raiseEvent s2 (ev 0x8B06 (locDie 2 0xFFF) 1)) 1
  else s

def execCrystalEdgeLoss (s : State) : Host.Outcome State Fault Refusal := .next (crystalEdgeLoss s)

/-- CRYSTAL_RETURN: 1 ms of edges in range; HC_ESTIMATED stays. -/
def crystalReturn (s : State) : State :=
  if s.time.crystalOk = false ∧ deviceUp s = true then
    (List.range 8).foldl asideListen (raiseEvent { s with time := { s.time with crystalOk := true } } (ev 0x8B06 (locDie 2 0xFFF)))
  else s

def execCrystalReturn (s : State) : Host.Outcome State Fault Refusal := .next (crystalReturn s)

/-! Brown-out (R370, R371, R385). -/

/-- The monitor of a rail is evaluated in the present state (R385). The device leaves INTERMISSION, and DARK, once it is back in SHOW; a
DARK entry sequence runs in the state it began in. -/
def railMonitored (s : State) (r : Nat) : Bool :=
  match s.power.mode with
  | .intermission => r == 0 || decide (4 ≤ r)
  | .leavingIntermission => r == 0 || decide (4 ≤ r)
  | .enteringDark _ back _ => back == 0 || r == 0 || decide (4 ≤ r)
  | .dark => decide (4 ≤ r)
  | .wakingDark => decide (4 ≤ r)
  | _ => true

/-- The rail stands below its warning level, whether its monitor is evaluated or not. -/
def railLow (s : State) (r : Nat) : Bool := vGet s.faults.below r false

/-- A monitor that is evaluated finds its rail below the warning level: PWR_MON_STATUS.BELOW_WARN. -/
def below (s : State) (r : Nat) : Bool := railLow s r && railMonitored s r

/-- A rail crosses its warning level. -/
def setRail (s : State) (r : Nat) (low : Bool) : State :=
  { s with faults := { s.faults with
    below := vSet s.faults.below r low
    clearSince := if low then s.faults.clearSince else vSet s.faults.clearSince r s.time.tick } }

/-- A rail has stood above its warning level for so many nanoseconds. -/
def railClear (s : State) (ns r : Nat) : Bool := !railLow s r && sinceNs s (some (vGet s.faults.clearSince r 0)) ns

/-- A data rail, whose dip opens the window: VDD_CORE, VDDA_HS, VDDA_PLL, VDDA_18. -/
def dataRailBelow (s : State) : Bool := (List.range 4).any (below s)

/-- The window opens (R370): a test ends (R434). -/
def windowOpen (s : State) (r : Nat) : State :=
  if s.faults.window.isSome then s else
    testsStop { s with faults := { s.faults with
      window := some (s.time.tick, s.time.tick)
      windowRail := r
      windowMarked := false } } 2

/-- SUPPLY_WARN_ASSERT (R370, R371): counted; a data rail opens or extends the window, another rail raises BROWNOUT. A monitor that is
not evaluated does nothing (R385). -/
def supplyWarnAssert (r : Nat) (s : State) : State :=
  if railLow s r then s
  else
    let s0 := setRail s r true
    if below s0 r && deviceUp s0 then
      let s1 := bump s0 0x756 1
      if r < 4 then windowOpen s1 r else raiseEvent s1 (ev 0x8B04 (locDie 1 r) r)
    else s0

def execSupplyWarnAssert (rail : Fin 7) (s : State) : Host.Outcome State Fault Refusal := .next (supplyWarnAssert rail s)

/-- SUPPLY_WARN_RELEASE: the rail is back above its warning level. -/
def supplyWarnRelease (r : Nat) (s : State) : State :=
  if railLow s r then
    let s1 := setRail s r false
    match s1.faults.window with
    | some w =>
      if r < 4 && railMonitored s1 r then { s1 with faults := { s1.faults with window := some (w.1, s1.time.tick) } } else s1
    | none => s1
  else s

def execSupplyWarnRelease (rail : Fin 7) (s : State) : Host.Outcome State Fault Refusal := .next (supplyWarnRelease rail s)

/-- BROWNOUT_WINDOW_CLOSE (R370): 2 microseconds after the last data rail returned; loops in RUN return bumplessly, channels
take what arrived, measurements are taken anew, BROWNOUT is raised and the curtain marker written. -/
def brownoutClose (s : State) : State :=
  match s.faults.window with
  | none => s
  | some w =>
    if dataRailBelow s = true ∨ sinceNs s (some w.2) 2000 = false then s else
      let rail := s.faults.windowRail
      let d0 := rail + b2n s.faults.windowMarked * 2 ^ 4
      let s1 := { s with faults := { s.faults with
        window := none
        windowMarked := false } }
      let s2 := (List.range 32).foldl (fun t l =>
        if loopState t l = 1 then setLoop t l (comesBack (loopRec t l)) else t) s1
      let s3 := calResume ((List.range 32).foldl bdacRefresh s2)
      let s4 := raiseEvent s3 (ev 0x8B04 (locDie 1 rail) d0 (min (2 ^ 32 - 1) (20 * (s.time.tick - w.1))))
      curtain s4 2 0x8B04 (locDie 1 rail)

def execBrownoutWindowClose (s : State) : Host.Outcome State Fault Refusal := .next (brownoutClose s)

/-! The prompt book (R375-R381). -/

/-- The record in a slot with its code: lost where a word of it is uncorrectable (R379). -/
def bookRead (s : State) (slot : Nat) : State × Option PbRecord :=
  let r := eccReadAll s 9 ((List.range 4).map (4 * slot + ·))
  (r.1, if r.2 then none else aGet s.book.records slot)

/-- Several slots: the records read, in order, and how many were passed over. -/
def bookReadAll : List Nat → State → State × List (Nat × PbRecord) × Nat
  | [], s => (s, [], 0)
  | k :: ks, s =>
    let r := bookRead s k
    let q := bookReadAll ks r.1
    match r.2 with
    | some x => (q.1, (k, x) :: q.2.1, q.2.2)
    | none => (q.1, q.2.1, q.2.2 + 1)

/-- Slots by the distance of their records' sequence from one. -/
def slotInsert (s : State) (first : Nat) (slot : Nat) (ks : List Nat) : List Nat :=
  let d := fun k => match aGet s.book.records k with
    | some r => (r.seq + 2 ^ 24 - first) % 2 ^ 24
    | none => 0
  match ks with
  | [] => [slot]
  | k :: rest => if d slot < d k then slot :: k :: rest else k :: slotInsert s first slot rest

/-- The slots of the records from a sequence on, in sequence order. -/
def slotsFrom (s : State) (first : Nat) : List Nat :=
  let last := (s.book.nextSeq + 2 ^ 24 - 1 - first) % 2 ^ 24
  (s.book.records.filter fun e => decide ((e.2.seq + 2 ^ 24 - first) % 2 ^ 24 ≤ last)).foldl
    (fun ks e => slotInsert s first e.1 ks) []

def recordWords (r : PbRecord) : List Nat := r.words.toList.map (·.toNat)

/-- PB_READ's own part. -/
def pbRead (c : Cmd) : State → State × Reply :=
  let first := c.w 2
  let count := c.w 3
  withChecks (fun s =>
      let n := min count (slotsFrom s first).length
      [(c.w 4 % 4 != 0, stParam, 4),
       (count == 0 || decide (4096 < count) || !(s.book.records.any fun e => e.2.seq == first) || bulkBad s (c.w 4) (32 * n),
          stRange, 0)])
    fun s =>
      let r := bookReadAll ((slotsFrom s first).take count) s
      (bulkWords r.1 (c.w 4) (r.2.1.flatMap fun e => recordWords e.2), .done stOK 0 r.2.1.length r.2.2)

def execPbRead (c : Cmd) (s : State) : Host.Outcome State Fault Refusal :=
  .next (hostCmd 0x0B01 [(2, 0xFFFFFF), (3, 0xFFFFFFFF), (4, 0xFFFFFFFF)] noGate c (pbRead c) s)

def sectionHeld (s : State) (k : Nat) : Bool := (vGet s.book.sections k none).isSome

/-- PB_RELEASE's own part (R378): the RELEASE record is written, then the sections are free. -/
def pbRelease (c : Cmd) : State → State × Reply :=
  withChecks (fun s => [(c.w 2 == 0, stParam, 2), ((bitsSet 2 (c.w 2)).any (!sectionHeld s ·), stState, 0)])
    fun s =>
      let s1 := bookWrite s 6 0 (locRegion 2) (c.w 2) 0 0
      ({ s1 with book := { s1.book with
        sections := (bitsSet 2 (c.w 2)).foldl (fun v k => vSet v k none) s1.book.sections } }, .done stOK 0 0 0)

def execPbRelease (c : Cmd) (s : State) : Host.Outcome State Fault Refusal :=
  .next (hostCmd 0x0B02 [(2, 3)] noGate c (pbRelease c) s)

/-- PB_FLASH_READ's own part: a place of the copy that holds no record reads 0. -/
def pbFlashRead (c : Cmd) : State → State × Reply :=
  let first := c.w 3
  let count := c.w 4
  withChecks (fun s =>
      [(c.w 5 % 4 != 0, stParam, 5),
       (count == 0 || decide (4096 < first + count) || bulkBad s (c.w 5) (32 * count), stRange, 0),
       ((vGet s.book.flash (c.w 2) none).isNone, stState, 0)])
    fun s =>
      let copy := (vGet s.book.flash (c.w 2) none).getD []
      let ws := (List.range count).flatMap fun k => match aGet copy (first + k) with
        | some r => recordWords r
        | none => List.replicate 8 0
      (bulkWords s (c.w 5) ws, .done stOK 0 count 0)

def execPbFlashRead (c : Cmd) (s : State) : Host.Outcome State Fault Refusal :=
  .next (hostCmd 0x0B03 [(2, 1), (3, 0xFFFFFFFF), (4, 0xFFFFFFFF), (5, 0xFFFFFFFF)] noGate c (pbFlashRead c) s)

/-- PB_MARK's own part (R377): trigger 8, no event of its own. -/
def pbMark (c : Cmd) : State → State × Reply :=
  withChecks (fun s => [(sectionHeld s 0 && sectionHeld s 1, stNoSpace, 0)])
    fun s => (curtain s 8 0 (locRegion 2) (some (c.w 2)), .done stOK 0 s.book.nextSeq 0)

def execPbMark (c : Cmd) (s : State) : Host.Outcome State Fault Refusal :=
  .next (hostCmd 0x0B04 [(2, 0xFFFFFFFF)] noGate c (pbMark c) s)

/-- A waiting copy may start (R380): a brown-out's once every rail that is monitored has been clear for 100 ms; a watchdog's, a lockstep
mismatch's and one that management memory caused only after the restart. -/
def copyEligible (s : State) (trigger : Nat) : Bool :=
  match trigger with
  | 1 => s.mgmt.restartCause != some 4
  | 2 => (List.range 7).all fun r => !railMonitored s r || railClear s 100000000 r
  | 3 => s.mgmt.restartCause.isNone
  | 6 => s.mgmt.restartCause.isNone
  | _ => true

/-- PB_FLASH_COPY_START (R380): Mexis, READY and not copying, takes the first trigger whose copy may start. -/
def pbCopyStart (s : State) : State :=
  if ready s && s.book.copying.isNone then
    match s.book.queued.find? (copyEligible s) with
    | some t => { s with book := { s.book with
        copying := some (t, (s.book.nextSeq + 2 ^ 24 - 1) % 2 ^ 24)
        queued := s.book.queued.erase t } }
    | none => s
  else s

def execPbFlashCopyStart (s : State) : Host.Outcome State Fault Refusal := .next (pbCopyStart s)

/-- PB_FLASH_COPY_DONE (R380): the book up to the last sequence at the start is in the flash; the slots alternate. -/
def pbCopyDone (s : State) : State :=
  match s.book.copying with
  | none => s
  | some (_, last) =>
    let keys := (s.book.records.filter fun e => decide ((last + 2 ^ 24 - e.2.seq) % 2 ^ 24 < 2 ^ 23)).map (·.1)
    let r := bookReadAll keys s
    let slot := s.book.nextFlash
    let s1 := { r.1 with book := { r.1.book with
      flash := vSet r.1.book.flash slot (some r.2.1)
      nextFlash := slot + 1
      copying := none } }
    raiseEvent (inc s1 F.PB_STATS_COPIES) (ev 0x8B03 (locRegion 2) slot last)

def execPbFlashCopyDone (s : State) : Host.Outcome State Fault Refusal := .next (pbCopyDone s)

end Sys2Proof.Machine
end

