-- ==== Sys2Proof/Machine/Reset.lean ====
section
/-! DEFINITION. Resets and what survives them (chapter 21, R401-R410). -/

namespace Sys2Proof.Machine

open Sys2Proof

/-! What the survival table keeps (R408). -/

/-- Slice assignments, FAILED marks and SWAP_COUNT, pool fences, and the calibration records: held in RET. -/
def retFields : List Field :=
  [F.LRX_SLICE_STATUS_SWAP_COUNT, F.LRX_SLICE_STATUS_FAILED_64, F.LRX_SLICE_STATUS_UNDERSTUDY, F.LRX_SLICE_STATUS_NOSPARE,
   F.LRX_SLICE_FAILED_0_FAILED, F.LRX_SLICE_FAILED_1_FAILED, F.HSL_SLICE_STATUS_SWAP_COUNT, F.HSL_SLICE_STATUS_FAILED_32,
   F.HSL_SLICE_STATUS_UNDERSTUDY, F.HSL_SLICE_STATUS_NOSPARE, F.HSL_SLICE_FAILED_FAILED, F.FEC_POOL_STATUS_L2H_FENCED,
   F.FEC_POOL_STATUS_H2L_FENCED, F.LEQ_THR_CAL_c_DTC_0, F.LEQ_THR_CAL_c_DTC_1, F.LEQ_THR_CAL_c_DTC_2] ++
  [CalTarget.lineSlices, .hostSlices, .dacSkew, .biasDacs, .senseChans].flatMap fun t => [F.CAL_COUNT_COUNT t,
    F.CAL_LAST_LO_HC_LO t, F.CAL_LAST_HI_HC_HI t, F.CAL_INFO_ESTIMATED t, F.CAL_INFO_SETS t, F.CAL_INFO_RESULT t,
    F.CAL_INFO_TEMP t]

/-- What HOUSE latches until power-on: HC_ESTIMATED with its uncertainty, and the alarm's record (R419). -/
def houseFields : List Field :=
  [F.CUE_SC_STATE_HC_ESTIMATED, F.CUE_HC_UNCERT_UNCERT, F.SEC_ALARM_STATUS_SOURCES, F.SEC_ALARM_STATUS_IN_FORCE]

/-- Power, wake, thermal, AVS and reset registers, and the counts since the last POR, PIN or SUPPLY reset. -/
def powerFields : List Field :=
  [F.PWR_STATE_LAST_WAKE, F.PWR_STATE_THERMAL_DARK, F.PWR_WAKE_CFG_TIMER_EN, F.PWR_WAKE_CFG_WAKE_EN,
   F.PWR_WAKE_CFG_STAGE_DOOR_EN, F.PWR_TIMER_SECONDS, F.AVS_CTRL_TEMP_COMP, F.AVS_CTRL_MARGIN, F.AVS_STATUS_FAULT,
   F.AVS_STATUS_TARGET, F.AVS_STATUS_READBACK, F.AVS_CURRENT_CURRENT, F.THERM_CTRL_WARN, F.THERM_STATUS_HOTTEST,
   F.THERM_STATUS_WARN, F.THERM_STATUS_MAX, F.THERM_TEMP_s_TEMP, F.RST_CAUSE_RAIL, F.RST_CAUSE_MGMT_CAUSE, F.RST_CAUSE_KIND,
   F.RST_COUNTS_MGMT, F.RST_COUNTS_WARM, F.LTX_STATUS_SWAP_COUNT, F.PCS_LINK_TIME_RESTARTS]

/-- Fences of lanes and ports, which end at POR, PIN and SUPPLY only (R442). -/
def fenceFields : List Field := [F.TST_FENCED_PORTS, F.TST_FENCED_LINE, F.TST_FENCED_HOST]

/-- Beyond those, what WARM keeps: LK and W1 fields with what they lock, the supplies' and references' present levels, the
checker's result and the lookups' RETRAIN marks. -/
def warmFields : List Field :=
  [F.RING_LAYOUT_CMIS_EN, F.RING_LAYOUT_EVT_SZ, F.RING_LAYOUT_CPL_SZ, F.RING_LAYOUT_CMD_SZ, F.RING_LAYOUT_EVT_BASE,
   F.RING_LAYOUT_CPL_BASE, F.RING_LAYOUT_CMD_BASE, F.BDAC_CEIL_c_LOCK, F.BDAC_CEIL_c_CODE_MAX, F.SEC_ALARM_CFG_LOCK,
   F.SEC_ALARM_CFG_AUTH_FAIL, F.SEC_ALARM_CFG_DEBUG, F.SEC_ALARM_CFG_TEMP, F.SEC_ALARM_CFG_CGLITCH, F.SEC_ALARM_CFG_VGLITCH,
   F.PWR_STATE_STATE, F.HSL_REF_STATUS_REFCLK_OK, F.HSL_REF_STATUS_HFCK1_OK, F.HSL_REF_STATUS_HFCK0_OK,
   F.MEM_BIST_STATUS_PASS, F.MEM_BIST_STATUS_MACRO, F.MEM_BIST_STATUS_CASE, F.MEM_BIST_STATUS_TRIPLET,
   F.MEM_LUT_STATUS_RETRAIN]

/-- A converter's slices as RET holds them, with the flagged ones in service that wait for an understudy (R67). -/
def keptFront (n : Nat) (x : Front) : Front :=
  { Front.reset n with slices := { Slices.reset n with
    place := x.slices.place
    zeroed := x.slices.zeroed
    second := x.slices.second } }

/-- A test that a reset ends is ABORTED with cause RESET; Mexis reports it at READY (R441). -/
def testsAtReset (s : State) : State :=
  let d0 := fun (test : Nat) => 2 + 5 * 2 ^ 4 + test * 2 ^ 8
  let n := Config.freeNat s.freeCount
  let rs := (match s.test.rehearsal with
      | some r => [(locCluster r.cls r.inst 0xFFF, d0 1, n)]
      | none => []) ++
    (match s.test.memTest with
      | some k => [(locBank k, d0 2, n)]
      | none => []) ++
    (if s.test.dress then [(locWholeDie, d0 3, n)] else [])
  { takeFree s with test := { s.test with
    rehearsal := none
    memTest := none
    dress := false
    results := s.test.results ++ rs } }

/-- A flash copy that a restart of management cuts short is made again; its slot holds no whole copy (R380). -/
def copyCut (b : BookState) : BookState :=
  match b.copying with
  | none => b
  | some (t, _) => { b with
    copying := none
    queued := t :: b.queued
    flash := b.flash.set b.nextFlash none }

/-- What the OTP and the flash hold, and the alarm's latches in HOUSE (R419). -/
def keptSec (x : SecState) : SecState :=
  { SecState.reset with
    otp := x.otp
    locked := x.locked
    zeroized := x.zeroized
    images := x.images
    boot := x.boot
    settings := x.settings
    cache := x.cache
    applyDue := true }

/-- Every lane loses power: a swap that is pending is completed (R490). -/
def swapsLand (s : State) : State := (allLine ++ allHost).foldl landSwap s

/-- PIN, SUPPLY and what every deeper loss shares: RET, the house clock, the OTP and the flash stay, with the register fields
named; every other part of the state returns to its reset value. -/
def retReset (s0 : State) (keep : List Field) : State :=
  let s := testsAtReset (flashCut (swapsLand s0))
  { State.reset with
    fld := keepFields s.fld keep
    time := { TimeState.reset with
      hc := s.time.hc
      tick := s.time.tick
      estimated := s.time.estimated
      crystalRuns := s.time.crystalRuns
      crystalOk := s.time.crystalOk }
    lanes := { LaneState.reset with
      lineFront := s.lanes.lineFront.map (keptFront 64)
      hostFront := s.lanes.hostFront.map (keptFront 32) }
    cal := { CalState.reset with
      sets := s.cal.sets
      dtcTarget := s.cal.dtcTarget }
    mgmt := { MgmtState.reset with straps := s.mgmt.straps }
    mem := { MemState.reset with
      banks := Vector.ofFn fun k : Fin 64 => if 9 ≤ k.val ∧ k.val ≤ 11 then s.mem.banks[k] else .reset
      candidates := s.mem.candidates.filter fun c => decide (9 ≤ c.1 ∧ c.1 ≤ 11) }
    book := copyCut s.book
    faults := { FaultState.reset with
      below := s.faults.below
      clearSince := s.faults.clearSince
      watchdogAt := s.time.tick }
    power := { PowerState.reset with wakePin := s.power.wakePin }
    test := { TestState.reset with
      jtagIr := s.test.jtagIr
      jtagPins := s.test.jtagPins
      results := s.test.results }
    sec := keptSec s.sec
    freeCount := s.freeCount
    pending := s.pending }

/-- POR (R401): the OTP and the flash stay; the test access port is reset too. -/
def porReset (s0 : State) (rail : Option Nat) : State :=
  let s := flashCut s0
  let s1 := { State.reset with
    fld := []
    time := { TimeState.reset with tick := s.time.tick }
    book := { BookState.reset with
      flash := s.book.flash
      nextFlash := s.book.nextFlash }
    faults := { FaultState.reset with
      below := s.faults.below
      clearSince := s.faults.clearSince
      watchdogAt := s.time.tick }
    power := { PowerState.reset with wakePin := s.power.wakePin }
    sec := { keptSec s.sec with
      locked := false
      zeroized := false
      cache := none }
    freeCount := s.freeCount
    pending := s.pending }
  wr s1 F.RST_CAUSE_RAIL (rail.getD 0)

/-- A bank after WARM: kept, but for the flow table's contents and management's code and data, which are written anew; remaps
stay (R408). -/
def warmBank (k : Nat) (b : MemBank) : MemBank :=
  if k < 8 ∨ (28 ≤ k ∧ k < 60) then { MemBank.reset with remaps := b.remaps } else b

/-- The BER windows open anew at the counters as they stand (R292). -/
def berRestart (s : State) : Vector BerWindow 8 :=
  Vector.ofFn fun n : Fin 8 =>
    ⟨counter s (cntLine n 15), counter s (cntLine n 13), counter s (cntLine n 14), s.time.tick, false⟩

/-- A WARM reset ends the tests in progress and raises no event for them (R405); a dress rehearsal's result is due (R443). -/
def testsVoid (s : State) : State :=
  { s with test := { s.test with
    rehearsal := none
    memTest := none
    dress := false
    results := s.test.results.filter fun r => r.2.1 / 2 ^ 8 % 16 == 3 } }

/-- WARM (R401): everything but the house domain, RET, LK and W1 fields, security policy and life cycle, and what R408 keeps. -/
def warmReset (s0 : State) : State :=
  let s := testsVoid (flashCut (swapsLand s0))
  let t := retReset s (retFields ++ houseFields ++ powerFields ++ fenceFields ++ warmFields)
  { t with
    time := { t.time with sysPllLocked := s.time.sysPllLocked }
    obs := { ObsState.reset with
      counters := s.obs.counters
      invalid := s.obs.invalid
      banks := s.obs.banks
      lastBank := s.obs.lastBank
      seq := s.obs.seq
      ber := berRestart s }
    lanes := { t.lanes with tx := s.lanes.tx.map fun x => { x with swingLast := none } }
    aside := { AsideState.reset with keys := s.aside.keys }
    ctl := { CtlState.reset with coefs := s.ctl.coefs }
    mgmt := { t.mgmt with
      window := s.mgmt.window
      layoutSpent := s.mgmt.layoutSpent
      cmisWritable := s.mgmt.cmisWritable }
    mem := { s.mem with
      banks := Vector.ofFn fun k : Fin 64 => warmBank k s.mem.banks[k]
      parity := MemState.reset.parity }
    faults := { s.faults with watchdogAt := s.time.tick }
    power := { s.power with warmPending := false }
    test := { t.test with
      fencedGroups := s.test.fencedGroups
      fencedBdac := s.test.fencedBdac
      fencedSense := s.test.fencedSense }
    sec := { t.sec with
      pulse := s.sec.pulse
      activate := s.sec.activate } }

/-! Device-wide resets (R401-R403). -/

/-- A RESET record (R376). R376 names no location: the model gives one of the whole device the die's, one of management the processor
pair's (log entry 165). -/
def resetRecord (s : State) (kind l : Nat) : State := bookWrite s 3 0 l kind 0 0

/-- The kind and rail of a reset of the whole device (R487). -/
def rstCause (s : State) (kind rail : Nat) : State := wr (wr s F.RST_CAUSE_KIND kind) F.RST_CAUSE_RAIL rail

/-- A reset falls due while the device is DARK: it waits for the wake; of two, the one with the lower code stays (R403). -/
def resetDue (kind rail : Nat) (s : State) : State :=
  match s.power.dueReset with
  | some d => if d.kind ≤ kind then s else { s with power := { s.power with dueReset := some ⟨kind, rail⟩ } }
  | none => { s with power := { s.power with dueReset := some ⟨kind, rail⟩ } }

/-- POWER_ON_RESET: power-on, or VDD_AON (4) or VDD_RET (5) below its reset level, which in DARK waits for the wake (R403). A power-on
itself ends DARK with the supplies: it is the model's reading that it waits for nothing (log entry 179). -/
def powerOnReset (rail : Option (Fin 2)) (s : State) : State :=
  match s.power.mode, rail with
  | .dark, some r => resetDue 0 (4 + r.val) s
  | _, _ => porReset s (rail.map fun r => 4 + r.val)

def execPowerOnReset (rail : Option (Fin 2)) (s : State) : Host.Outcome State Fault Refusal := .next (powerOnReset rail s)

/-- PIN or SUPPLY: at once, but while the device is DARK only at wake (R403). -/
def deepReset (kind rail : Nat) (s : State) : State :=
  match s.power.mode with
  | .dark => resetDue kind rail s
  | .resetHold => if rd s F.RST_CAUSE_KIND ≤ kind then s else rstCause s kind rail
  | _ => rstCause (retReset s (retFields ++ houseFields)) kind rail

/-- PIN_RESET (R402). -/
def execPinReset (s : State) : Host.Outcome State Fault Refusal := .next (deepReset 1 0 s)

/-- A rail whose fall below its reset level is a SUPPLY reset: VDD_CORE, VDDA_HS, VDDA_PLL, VDDA_18 or VDDIO_MG (R401). -/
def supplyRail (k : Nat) : Nat := if k < 4 then k else 6

/-- SUPPLY_RESET: in a state that evaluates the rail's monitor (R385), or where a wake finds the rail below its reset level (R395). -/
def execSupplyReset (rail : Fin 5) (s : State) : Host.Outcome State Fault Refusal :=
  .next (if railMonitored s (supplyRail rail) || s.power.mode == .wakingDark then deepReset 2 (supplyRail rail) s else s)

/-- The start-up checker's failure as MEM_BIST_STATUS shows it (R365); an OTP row that cannot be corrected holds the device
in the same way (R412). -/
def checkerFails (s : State) (f : CheckerFail) : State :=
  let s1 := { s with power := { s.power with mode := .checkerFailed } }
  match f with
  | .code m e => wr (wr s1 F.MEM_BIST_STATUS_MACRO m) F.MEM_BIST_STATUS_CASE e
  | .triplet m => wr (wr s1 F.MEM_BIST_STATUS_MACRO m) F.MEM_BIST_STATUS_TRIPLET 1
  | .otp => s1

/-- The scrubbers start their first pass after a reset, with empty trackers (R359, R361). -/
def scrubsStart (s : State) : State :=
  { s with mem := { s.mem with banks := s.mem.banks.map fun b => { b with
    scrubAt := 0
    tracker := []
    passStart := s.time.tick } } }

/-- The sense channels load their corrections from the calibration store (R236). -/
def senseLoad (s : State) : State := (List.range 24).foldl (fun t n => loadCorrections t .senseChans n) s

/-- CONTROL is powered or starts anew: bias DAC and sense channels load their corrections before they carry any signal (R236). -/
def channelsLoad (s : State) : State := senseLoad ((List.range 32).foldl (fun t c => loadCorrections t .biasDacs c) s)

/-- The start sequence up to the boot ROM (R404, R395): the crystal and the system PLL run, the OTP is read, the checker passes,
the regions that are powered lock their PLLs, the channels take their corrections. -/
def startUp (s : State) : State :=
  let s1 := { s with
    time := { s.time with
      crystalRuns := true
      sysPllLocked := true }
    power := { s.power with mode := .show } }
  channelsLoad (scrubsStart (poolShow (pllsLock (wr (otpPolicy s1) F.MEM_BIST_STATUS_PASS 1))))

/-- RESET_N_RELEASE (R404): from the moment at which every rail stands above its reset level and RESET_N is high, and PWR_EN rises
(R396, R402, R489), to the boot ROM's choice of an image. A RESET record is the first record after any reset but power-on (R376). -/
def resetRelease (straps : BitVec 3) (checker : Option CheckerFail) (boot : BootReads) (s : State) : State :=
  match s.power.mode with
  | .resetHold =>
    let s1 := { s with
      mgmt := { s.mgmt with straps := straps }
      time := { s.time with crystalRuns := true }
      power := { s.power with pwrEn := true } }
    match checker with
    | some f => checkerFails s1 f
    | none =>
      let kind := rd s1 F.RST_CAUSE_KIND
      bootRom (startUp (if kind = 0 then s1 else resetRecord s1 kind locWholeDie)) boot
  | _ => s

def execResetNRelease (straps : BitVec 3) (checker : Option CheckerFail) (boot : BootReads) (s : State) :
    Host.Outcome State Fault Refusal := .next (resetRelease straps checker boot s)

/-! WARM (R405). -/

/-- RST_WARM's own part: completes OK; a WARM reset follows, and takes the place of a management reset that is due (R403). -/
def rstWarm : State → State × Reply :=
  withChecks (fun s => [(s.sec.update.isSome || (bootRecord s).trial || s.book.copying.isSome, stBusy, 0)])
    fun s => ({ s with
      power := { s.power with warmPending := true }
      mgmt := { s.mgmt with restartCause := none } }, .done stOK 0 0 0)

def execRstWarm (c : Cmd) (s : State) : Host.Outcome State Fault Refusal := .next (hostCmd 0x0910 [] noGate c rstWarm s)

/-- WARM_RESET: within 100 microseconds of RST_WARM, or at the end of a dress rehearsal. -/
def warmResetRow (boot : BootReads) (s : State) : State :=
  if s.power.warmPending && deviceUp s then
    let s1 := incSat (wr (wr (warmReset s) F.RST_CAUSE_KIND 3) F.RST_CAUSE_RAIL 0) F.RST_COUNTS_WARM
    bootRom (channelsLoad (scrubsStart (poolShow (pllsLock (resetRecord s1 3 locWholeDie))))) boot
  else s

def execWarmReset (boot : BootReads) (s : State) : Host.Outcome State Fault Refusal := .next (warmResetRow boot s)

/-! MGMT (R9, R332, R407). -/

/-- RST_MGMT's own part (R410). -/
def rstMgmt (s : State) : State × Reply := (requestMgmt s 1, .done stOK 0 0 0)

def execRstMgmt (c : Cmd) (s : State) : Host.Outcome State Fault Refusal := .next (hostCmd 0x0911 [] noGate c rstMgmt s)

/-- The code state of the management banks once the image is loaded again. -/
def reloadMgmtBanks (s : State) : State :=
  { s with mem := { s.mem with
    banks := Vector.ofFn fun k : Fin 64 => if k.val < 8 then warmBank k s.mem.banks[k] else s.mem.banks[k] } }

/-- A completion that waited for room was not written: its command counts as in progress (R332). -/
def unwaited (m : MgmtState) : MgmtState :=
  { m with
    inProgress := m.inProgress ++ m.waiting.map fun w => ⟨w.tag, w.opcode, w.notify, 0, 0⟩
    waiting := [] }

/-- MGMT_RESTART: the processor pair and its SRAM restart; session, FIELD_DIAG, an open update, adaptation's starting tables and
any flow image are lost; the register file, the datapath and the loops run on. The settings cache is not applied after it (R427). -/
def mgmtRestart (boot : BootReads) (s : State) : State :=
  match s.mgmt.restartCause with
  | none => s
  | some cause =>
    if deviceUp s = false then s else
      let s1 := incSat (wr (flashCut s) F.RST_CAUSE_MGMT_CAUSE cause) F.RST_COUNTS_MGMT
      let s2 := resetRecord (wr (wr s1 F.RING_STATUS_READY 0) F.RING_STATUS_RESTARTING 1) 4 (locMgmt 0)
      let s3 := { reloadMgmtBanks s2 with
        mgmt := { unwaited s2.mgmt with
          restartCause := none
          afterRestart := true }
        book := copyCut s2.book
        obs := { s2.obs with
          image := none
          imageCopying := false
          imageLocked := false }
        sec := { s2.sec with
          session := false
          fieldDiag := false
          challenge := none
          lockClosed := false
          update := none
          ops := []
          applyDue := false
          migration := none } }
      let s4 := (List.range 8).foldl (fun t n => xaStop t n 8) s3
      bootRom { s4 with lanes := { s4.lanes with xaStart := Vector.replicate 8 none, revertDue := Vector.replicate 8 false } } boot

def execMgmtRestart (boot : BootReads) (s : State) : Host.Outcome State Fault Refusal := .next (mgmtRestart boot s)

/-! PORT (R406). -/

/-- A lane's equaliser and front end are re-initialised (R93, R408): VALID and WARM clear, timing starts anew, so that LOL stands;
slices and the loss-of-signal detectors are kept. -/
def laneReinit (s : State) (l : LaneId) : State :=
  let x := front s l
  let s1 := setFront s l { Front.reset (positionCount l) with
    slices := x.slices
    level := x.level
    losEnv := x.losEnv
    losRms := x.losRms }
  let s2 := putEq s1 l (EqRec.reset (ffeTaps l) (eqMain s1 l) (dfeTaps l))
  let s3 := wrLine (wrLine (wrLine s2 l F.LRX_STATUS_CTLE_SEARCH 0) l F.LRX_VGA_STATUS_DEFERRED 0) l F.LRX_VGA_STATUS_AT_LIMIT 0
  let s4 := ctleInit (wrL s3 l F.LRX_VGA_STATUS_CODE F.HSL_STATUS_VGA_CODE 12) l
  setLol (showTiming s4 l) l true

/-- The port passes through DOWN and its datapath is re-initialised. -/
def rstPortAct (p : Nat) (s : State) : State :=
  let s1 := wr (resetRecord s 5 (locPort p)) F.PCS_LINK_STATUS_BACKOFF 0 p
  let s2 := if linkState s1 p = 0 then txFollowPort (enterState s1 p 0) p else linkGo s1 p 0 10
  let s3 := (portLaneIds s2 p).foldl laneReinit s2
  let s4 := setLink s3 p .reset
  let s5 := rmShow (rmShow (setPortPath (setPortPath s4 p .tx .reset) p .rx .reset) p .tx) p .rx
  let s6 := useMap { s5 with path := { s5.path with
    superRx := vSet s5.path.superRx p []
    superTx := vSet s5.path.superTx p []
    innerTx := vSet s5.path.innerTx p [] } } p (rdE s5 F.PCS_RX_MAP_PHYS p) (rdE s5 F.PCS_RX_MAP_INV p)
  let s7 := (flowFlushPort (restartClocks s6 p .reset .reset) p 3).1
  let s8 := (portLines s7 p).foldl challengeRestart s7
  let s9 := cancelCues s8 (fun c => c.port.val == p) 3
  if rdE s9 F.PCS_PORT_CTRL_ADMIN_UP p = 1 ∧ s9.power.mode = .show then linkFollow (linkGo s9 p 1 10) p else s9

/-- RST_PORT's own part (R406, R410). A PORT reset that falls due while WARM or MGMT is due is discarded (R403); its command is then in
progress as the other reset comes. -/
def rstPort (c : Cmd) : State → State × Reply :=
  let p := c.w 2
  withChecks (fun s => [(!portEnabled s p, stState, 0), (portRehearsing s p, stBusy, 0)])
    fun s => if s.power.warmPending || s.mgmt.restartCause.isSome then (s, .later 0 0) else (rstPortAct p s, .done stOK 0 0 0)

def execRstPort (c : Cmd) (s : State) : Host.Outcome State Fault Refusal :=
  .next (hostCmd 0x0912 [(2, 7)] noGate c (rstPort c) s)

end Sys2Proof.Machine
end

