-- ==== Sys2Proof/Machine/Security.lean ====
section
/-! DEFINITION. Sessions, keys, the life cycle and the OTP's commands (chapter 22, R411-R417, R433; R230 of chapter 11). -/

namespace Sys2Proof.Machine

open Sys2Proof

/-- The commands of R417 need an open session. -/
def sessionGate (s : State) : Option (Nat × Nat) := if s.sec.session then none else some (stAuth, 0)

/-- Words joined, the first in the highest bits. -/
def joinWords (ws : List Nat) : Nat := ws.foldl (fun a w => a * 2 ^ 32 + w) 0

/-! The key cache (R225, R230). -/

/-- A lane with AUTH not OFF uses the slot. -/
def keySlotUsed (s : State) (slot : Nat) : Bool :=
  (List.range 8).any fun n => asideAuth s n != 0 && rdE s F.ASD_CTRL_KEY_SLOT n == slot

def putKey (s : State) (slot : Nat) (k : Option (BitVec 8 × BitVec 256)) : State :=
  { s with aside := { s.aside with keys := vSet s.aside.keys slot k } }

/-- ASD_KEY_SET's own part: w4 holds the key's most significant word. -/
def asdKeySet (c : Cmd) : State → State × Reply :=
  withChecks (fun s => [(keySlotUsed s (c.w 2), stConflict, 0)])
    fun s => (putKey s (c.w 2) (some (BitVec.ofNat 8 (c.w 3),
      BitVec.ofNat 256 (joinWords ((List.range 8).map fun k => c.w (4 + k))))), .done stOK 0 0 0)

def execAsdKeySet (c : Cmd) (s : State) : Host.Outcome State Fault Refusal :=
  .next (hostCmd 0x0704 ([(2, 3), (3, 0xFF)] ++ (List.range 8).map fun k => (4 + k, 2 ^ 32 - 1)) sessionGate c (asdKeySet c) s)

/-- ASD_KEY_CLEAR's own part. -/
def asdKeyClear (c : Cmd) : State → State × Reply :=
  withChecks (fun s => [(keySlotUsed s (c.w 2), stConflict, 0)]) fun s => (putKey s (c.w 2) none, .done stOK 0 0 0)

def execAsdKeyClear (c : Cmd) (s : State) : Host.Outcome State Fault Refusal :=
  .next (hostCmd 0x0705 [(2, 3)] sessionGate c (asdKeyClear c) s)

/-! Sessions (R416, R417). -/

/-- AUTH_OPEN's own part: a fresh challenge replaces any other. -/
def authOpen (c : Cmd) : State → State × Reply :=
  withChecks (fun s => [(bulkBad s (c.w 2) 32, stRange, 0), (s.sec.otp.owner.isNone, stState, 0)])
    fun s =>
      let v := Config.freeBits256 s.freeCount
      let t := takeFree s
      (putBytes { t with sec := { t.sec with challenge := some (v, t.time.tick) } } (windowBase + c.w 2) (bytesOf 32 v.toNat),
        .done stOK 0 0 0)

def execAuthOpen (c : Cmd) (s : State) : Host.Outcome State Fault Refusal :=
  .next (hostCmd 0x0C01 [(2, 2 ^ 32 - 1)] noGate c (authOpen c) s)

/-- A challenge is outstanding and no older than 60 s. -/
def challengeOpen (s : State) : Bool :=
  match s.sec.challenge with
  | some (_, t) => !sinceNs s (some t) 60000000000
  | none => false

/-- AUTH_CHALLENGE_EXPIRY: 60 s after its issue. -/
def challengeExpiry (s : State) : State :=
  if challengeOpen s then s else { s with sec := { s.sec with challenge := none } }

def execAuthChallengeExpiry (s : State) : Host.Outcome State Fault Refusal := .next (challengeExpiry s)

/-- A response that fails: the eighth in a row is the AUTH_FAIL alarm. -/
def authFails (s : State) : State :=
  if 7 ≤ rd s F.SEC_ALARM_STATUS_AUTH_FAILS then raiseAlarm (wr s F.SEC_ALARM_STATUS_AUTH_FAILS 0) 4
  else inc s F.SEC_ALARM_STATUS_AUTH_FAILS

/-- A response that is accepted. -/
def authAccepted (s : State) : State :=
  let s1 := wr s F.SEC_ALARM_STATUS_AUTH_FAILS 0
  if s1.sec.session then s1 else authChange { s1 with sec := { s1.sec with session := true } } true

/-- A response is accepted (R416): SHA-384 of the key's 97 bytes is the owner key hash, and the signature verifies over SHA-384 of the
outstanding challenge and the device identity. -/
def responseGood (s : State) (bs : List Byte) : Bool :=
  match s.sec.otp.owner, s.sec.challenge with
  | some h, some (v, _) =>
    Config.sha384 (bs.take 97) == h &&
      !Config.signatureFails h (Config.sha384 (bytesOf 32 v.toNat ++ bytesOf 8 Config.deviceId.toNat)) ((bs.drop 100).take 96)
  | _, _ => false

/-- AUTH_RESPOND's own part. A word of the response that the window has lost reads 0, and the response fails. -/
def authRespond (c : Cmd) : State → State × Reply :=
  withChecks (fun s => [(bulkBad s (c.w 2) 196, stRange, 0), (!challengeOpen s, stState, 0)])
    fun s =>
      let r := eccReadAll s 8 (windowWords (windowBase + c.w 2) 196)
      let t := { r.1 with sec := { r.1.sec with challenge := none } }
      if responseGood s (winBytes s.mgmt.window (windowBase + c.w 2) 196) && !r.2 then (authAccepted t, .done stOK 0 0 0) else (authFails t, .done stAuth 0 0 0)

def execAuthRespond (c : Cmd) (s : State) : Host.Outcome State Fault Refusal :=
  .next (hostCmd 0x0C02 [(2, 2 ^ 32 - 1)] noGate c (authRespond c) s)

/-- AUTH_CLOSE's own part. -/
def authClose : State → State × Reply :=
  withChecks (fun s => [(!s.sec.session, stState, 0)]) fun s => (endSession s, .done stOK 0 0 0)

def execAuthClose (c : Cmd) (s : State) : Host.Outcome State Fault Refusal := .next (hostCmd 0x0C03 [] noGate c authClose s)

/-! The life cycle (R413-R415). -/

/-- The device-unique secret while it is usable (R413, R414, R419): not in RETURN or SCRAPPED, nor after ZEROIZE until POR. -/
def deviceSecret (s : State) : Option (BitVec 256) :=
  if (s.sec.otp.life = 1 ∨ s.sec.otp.life = 2) ∧ s.sec.zeroized = false then some Config.deviceSecret else none

/-- A signing slot is programmed and not revoked. -/
def slotUsable (o : Otp) (k : Nat) : Bool := o.slotProg.testBit k && !o.slotRevoked.testBit k

/-- The transitions of R414. -/
def lifeAllowed (o : Otp) (target : Nat) : Bool :=
  (o.life == 1 && target == 2 && o.owner.isSome && (slotUsable o 0 || slotUsable o 1)) ||
    (o.life == 2 && target == 3) || ((o.life == 2 || o.life == 3) && target == 4)

/-- A transition: the session, FIELD_DIAG and the key cache go. -/
def lifeAdvance (s : State) (target : Nat) : State :=
  let s1 := { s with sec := { s.sec with
    otp := { s.sec.otp with life := target }
    fieldDiag := false } }
  jtagFollow (raiseEvent (clearKeys (endSession s1)) (ev 0x8C02 (locDie 3 0xFFF) target))

/-- LC_ADVANCE's own part. -/
def lcAdvance (c : Cmd) : State → State × Reply :=
  withChecks (fun s =>
      [(c.w 3 != Config.deviceId.toNat % 2 ^ 32, stParam, 3), (!lifeAllowed s.sec.otp (c.w 2), stState, 0)])
    fun s => (lifeAdvance s (c.w 2), .done stOK 0 0 0)

def execLcAdvance (c : Cmd) (s : State) : Host.Outcome State Fault Refusal :=
  .next (hostCmd 0x0C10 [(2, 7), (3, 2 ^ 32 - 1)] sessionGate c (lcAdvance c) s)

/-- LC_DIAG_OPEN's life-cycle and session conditions. -/
def diagGate (s : State) : Option (Nat × Nat) := if s.sec.otp.life = 2 then sessionGate s else some (stLifecycle, 0)

/-- LC_DIAG_OPEN's own part. -/
def lcDiagOpen : State → State × Reply :=
  withChecks (fun s => [(s.sec.fieldDiag, stState, 0)])
    fun s => ({ s with sec := { s.sec with fieldDiag := true } }, .done stOK 0 0 0)

def execLcDiagOpen (c : Cmd) (s : State) : Host.Outcome State Fault Refusal := .next (hostCmd 0x0C11 [] diagGate c lcDiagOpen s)

/-! OTP fields (R411, R412). -/

/-- Programming is permitted in MANUFACTURE. -/
def manufactureGate (s : State) : Option (Nat × Nat) := if s.sec.otp.life = 1 then none else some (stLifecycle, 0)

/-- The bytes that a field of SEC_OTP_PROGRAM takes from the bulk area. -/
def otpFieldBytes (field : Nat) : Nat := if field = 1 then 48 else 4

def otpProgrammed (o : Otp) (field : Nat) : Bool := if field = 1 then o.owner.isSome else o.policy.isSome

/-- A field is burned from the words read. -/
def otpBurn (o : Otp) (field : Nat) (ws : List Nat) : Otp :=
  if field = 1 then { o with owner := some (BitVec.ofNat 384 (joinWords ws)) }
  else { o with policy := some (BitVec.ofNat 10 (joinWords ws)) }

/-- SEC_OTP_PROGRAM's own part: `burned` says whether the fuses read back as written. Where they do not, which fuses are burned
is open: the field stays unprogrammed or holds a value of which nothing is known (log entry 126). -/
def otpProgram (c : Cmd) (burned : Bool) : State → State × Reply :=
  let field := c.w 2
  withChecks (fun s =>
      [(!(field == 1 || field == 2) || bulkBad s (c.w 3) (otpFieldBytes field), stRange, 0),
       (otpProgrammed s.sec.otp field, stLocked, 0)])
    fun s =>
      let r := fetchWords s (windowBase + c.w 3) (otpFieldBytes field / 4)
      if burned then ({ r.1 with sec := { r.1.sec with otp := otpBurn r.1.sec.otp field r.2 } }, .done stOK 0 0 0)
      else
        let t := takeFree r.1
        let o := if Config.freeBool r.1.freeCount then otpBurn t.sec.otp field [Config.freeNat r.1.freeCount] else t.sec.otp
        ({ t with sec := { t.sec with otp := o } }, .done stHwFault 0 0 0)

/-- SEC_OTP_PROGRAM, with whether the fuses read back as written. -/
def execSecOtpProgram (c : Cmd) (burned : Bool) (s : State) : Host.Outcome State Fault Refusal :=
  .next (hostCmd 0x0C12 [(2, 3), (3, 2 ^ 32 - 1)] manufactureGate c (otpProgram c burned) s)

/-- The running image or a committed image is signed with the slot's key. -/
def keySigns (s : State) (slot : Nat) : Bool :=
  (List.range 2).any fun k =>
    match vGet s.sec.images k none with
    | some x => (x.committed || s.sec.running == some (Fin.ofNat 2 k)) && imgSlot x.header == slot
    | none => false

/-- SEC_KEY_REVOKE's own part. -/
def keyRevoke (c : Cmd) : State → State × Reply :=
  let slot := c.w 2
  withChecks (fun s =>
      [(s.sec.otp.slotRevoked.testBit slot || s.sec.otp.slotRevoked.testBit (1 - slot), stState, 0),
       (keySigns s slot, stConflict, 0)])
    fun s => ({ s with sec := { s.sec with
      otp := { s.sec.otp with slotRevoked := s.sec.otp.slotRevoked ||| 2 ^ slot } } }, .done stOK 0 0 0)

def execSecKeyRevoke (c : Cmd) (s : State) : Host.Outcome State Fault Refusal :=
  .next (hostCmd 0x0C13 [(2, 1)] sessionGate c (keyRevoke c) s)

end Sys2Proof.Machine
end

