-- ==== Sys2Proof/Machine/Firmware.lean ====
section
/-! DEFINITION. Updates, the trial boot, and settings blocks in the flash (chapter 22, R426-R433). -/

namespace Sys2Proof.Machine

open Sys2Proof

/-! Gates and what a LOCK leaves (R413, R417, R430). -/

/-- The life cycle and the session of the FW_ commands. -/
def fwGate (s : State) : Option (Nat × Nat) :=
  match s.sec.otp.life with
  | 1 => none
  | 4 => some (stLifecycle, 0)
  | _ => sessionGate s

/-- A LOCK closed an update: the next FW_ command completes with E_LOCKED, in place of its own part. -/
def fwCmd (body : State → State × Reply) (s : State) : State × Reply :=
  if s.sec.lockClosed then ({ s with sec := { s.sec with lockClosed := false } }, .done stLocked 0 0 0) else body s

/-- A trial boot is in progress (R427). -/
def trialRuns (s : State) : Bool := (bootRecord s).trial

/-- The committed slot that awaits activation. -/
def pendingSlot (s : State) : Option (Fin 2) :=
  match (bootRecord s).pending with
  | some k => if slotCommitted s k && !trialRuns s then some k else none
  | none => none

/-! The update (R426). -/

/-- The bytes an image has after its header: ciphertext and signature. -/
def updateLength (h : List Nat) : Nat := imgLength h + 96

def addOp (s : State) (o : FlashOp) : State := { s with sec := { s.sec with ops := s.sec.ops ++ [o] } }

/-- The header checks of FW_BEGIN, 1 to 13. -/
def beginFail (s : State) (h : List Nat) : Nat :=
  let c := headerFail s h
  if c ≠ 0 then c else if unwrapFails h then 13 else 0

/-- The header as the bulk area holds it. -/
def beginHeader (s : State) (c : Cmd) : State × List Nat :=
  if bulkBad s (c.w 2) 256 then (s, []) else fetchWords s (windowBase + c.w 2) 64

/-- FW_BEGIN's own part: the slot that is not ACTIVE is erased; the command completes once the header is written. -/
def fwBegin (c : Cmd) : State → State × Reply :=
  withChecks (fun s =>
      let f := beginFail s (beginHeader s c).2
      [(bulkBad s (c.w 2) 256, stRange, 0), (s.sec.update.isSome || trialRuns s, stBusy, 0), (s.sec.locked, stLocked, 0),
       (f != 0, stImage, f)])
    fun s =>
      let r := beginHeader s c
      let k := (bootRecord s).active + 1
      let t := { r.1 with sec := { r.1.sec with
        images := r.1.sec.images.set k.val none
        update := some ⟨k, r.2, []⟩ } }
      (addOp t (.erase k r.2), .later 0 0)

def execFwBegin (c : Cmd) (s : State) : Host.Outcome State Fault Refusal :=
  .next (hostCmd 0x0C20 [(2, 2 ^ 32 - 1)] fwGate c (fwCmd (fwBegin c)) s)

/-- The open update still takes bytes or a commit: no FW_COMMIT is under way. -/
def updateOpen (s : State) : Option Update :=
  if s.sec.ops.any fun o => match o with
    | .commit _ => true
    | _ => false
  then none else s.sec.update

/-- FW_CHUNK's conditions on offset and length against the update. -/
def chunkBad (c : Cmd) (u : Update) : Bool := c.w 2 != u.body.length || decide (updateLength u.header < c.w 2 + c.w 3)

/-- FW_CHUNK's own part: the bytes are taken now and programmed in their turn. -/
def fwChunk (c : Cmd) : State → State × Reply :=
  withChecks (fun s => [(c.w 3 % 16 != 0, stParam, 3),
      (decide (c.w 3 < 16) || decide (65536 < c.w 3) || bulkBad s (c.w 4) (c.w 3) || (match updateOpen s with
        | some u => chunkBad c u
        | none => false), stRange, 0),
      ((updateOpen s).isNone, stState, 0)])
    fun s =>
      match updateOpen s with
      | some u =>
        let r := fetchWords s (windowBase + c.w 4) (c.w 3 / 4)
        let bs := wordsBytes r.2
        let t := { r.1 with sec := { r.1.sec with update := some { u with body := u.body ++ bs } } }
        (addOp t (.program bs), .later 0 0)
      | none => (s, .done stState 0 0 0)

def execFwChunk (c : Cmd) (s : State) : Host.Outcome State Fault Refusal :=
  .next (hostCmd 0x0C21 [(2, 2 ^ 32 - 1), (3, 2 ^ 32 - 1), (4, 2 ^ 32 - 1)] fwGate c (fwCmd (fwChunk c)) s)

/-- Every byte of the open update has arrived. -/
def updateWhole (s : State) : Bool :=
  match updateOpen s with
  | some u => u.body.length == updateLength u.header
  | none => false

/-- Checks 14 to 16 on the open update's bytes; `misread` says that the slot does not read back as written. -/
def commitFail (u : Update) (misread : Bool) : Nat :=
  let v := (verdictOf u.header u.body).sub
  if 14 ≤ v then v else if misread then 16 else 0

/-- FW_COMMIT's own part: a failure closes the update. -/
def fwCommit (misread : Bool) : State → State × Reply :=
  withChecks (fun s => [(!updateWhole s, stState, 0)])
    fun s =>
      match s.sec.update with
      | some u =>
        if commitFail u misread = 0 then (addOp s (.commit u.slot), .later 0 0)
        else ({ s with sec := { s.sec with update := none } }, .done stImage (commitFail u misread) 0 0)
      | none => (s, .done stState 0 0 0)

/-- FW_COMMIT, with whether the slot fails its read-back. -/
def execFwCommit (c : Cmd) (misread : Bool) (s : State) : Host.Outcome State Fault Refusal :=
  .next (hostCmd 0x0C22 [] fwGate c (fwCmd (fwCommit misread)) s)

/-- FW_ACTIVATE's own part (R427): TRIAL = 1, the activation flag, and a MGMT reset. -/
def fwActivate : State → State × Reply :=
  withChecks (fun s => [((pendingSlot s).isNone, stState, 0), (s.cal.run.isSome || s.book.copying.isSome, stBusy, 0)])
    fun s =>
      let t := writeBoot s (bootRecord s).active (bootRecord s).pending true
      (requestMgmt { t with sec := { t.sec with activate := true } } 5, .done stOK 0 0 0)

def execFwActivate (c : Cmd) (s : State) : Host.Outcome State Fault Refusal := .next (hostCmd 0x0C23 [] fwGate c (fwCmd fwActivate) s)

/-- The update's flash operations are given up: their commands complete E_ABORTED. -/
def dropOps (s : State) : State :=
  let t := s.sec.ops.foldl (fun t o => match o with
    | .erase _ _ => completeProg t 0x0C20 0 stAborted 0 0 0
    | .program _ => completeProg t 0x0C21 0 stAborted 0 0 0
    | .commit _ => completeProg t 0x0C22 0 stAborted 0 0 0
    | .save _ _ => t) s
  { t with sec := { t.sec with ops := t.sec.ops.filter fun o => match o with
    | .save _ _ => true
    | _ => false } }

/-- FW_ABORT's own part. -/
def fwAbort : State → State × Reply :=
  withChecks (fun s => [(s.sec.update.isNone, stState, 0)])
    fun s => ({ dropOps s with sec := { (dropOps s).sec with update := none } }, .done stOK 0 0 0)

def execFwAbort (c : Cmd) (s : State) : Host.Outcome State Fault Refusal := .next (hostCmd 0x0C24 [] fwGate c (fwCmd fwAbort) s)

/-! Settings blocks (R431, R432). -/

/-- The fields beside the effective configuration that the settings hold: the write-once layout, the ceilings with their locks, the
alarm actions (log entry 108). -/
def settingsFields (s : State) : List Field :=
  [F.BDAC_CEIL_c_LOCK, F.BDAC_CEIL_c_CODE_MAX, F.SEC_ALARM_CFG_AUTH_FAIL, F.SEC_ALARM_CFG_DEBUG, F.SEC_ALARM_CFG_TEMP,
   F.SEC_ALARM_CFG_CGLITCH, F.SEC_ALARM_CFG_VGLITCH] ++
  (if s.mgmt.layoutSpent then [F.RING_LAYOUT_CMIS_EN, F.RING_LAYOUT_EVT_SZ, F.RING_LAYOUT_CPL_SZ, F.RING_LAYOUT_CMD_SZ,
    F.RING_LAYOUT_EVT_BASE, F.RING_LAYOUT_CPL_BASE, F.RING_LAYOUT_CMD_BASE] else [])

/-- The effective configuration as a block. -/
def settingsNow (s : State) (seq : Nat) : SettingsBlock :=
  blockSealed ⟨0, s.sec.format, seq, 0, 0, false, s.mgmt.layoutSpent, s.eff, keepFields s.fld (settingsFields s)⟩

/-- A block is written and verified, and the one in force before it is superseded. -/
def saveBlock (s : State) (k : Fin 2) (b : SettingsBlock) : State :=
  bankRenewed { s with sec := { s.sec with
    settings := (s.sec.settings.map fun o => o.map fun x => { x with superseded := true }).set k.val (some b)
    cache := some b } } 11

/-- The write of a block fails: its slot holds no valid block. -/
def spoilBlock (s : State) (k : Fin 2) : State :=
  { s with sec := { s.sec with settings := s.sec.settings.set k.val none } }

/-- A newer-format block is in force (R432). -/
def newerInForce (s : State) : Bool :=
  match blockInForce s with
  | some (_, b) => decide (s.sec.format < b.format)
  | none => false

/-- SET_SAVE's own part: `verified` says whether the block reads back as written. -/
def setSave (verified : Bool) : State → State × Reply :=
  withChecks (fun s => [(trialRuns s, stState, 0), (newerInForce s, stConflict, 0)])
    fun s => (addOp s (.save (settingsNow s 0) verified), .later 0 0)

/-- SET_SAVE, with whether the write verifies. -/
def execSetSave (c : Cmd) (verified : Bool) (s : State) : Host.Outcome State Fault Refusal :=
  .next (hostCmd 0x0C30 [] noGate c (setSave verified) s)

/-- The block in force is written in the running format to the other slot, or the write fails (R432): SET_MIGRATED or
SET_MIGRATE_FAILED. -/
def migrate (s : State) (m : Migration) : State :=
  match blockInForce s with
  | some (k, b) =>
    if m.written then
      raiseEvent (saveBlock s (k + 1) (blockSealed { b with
        format := s.sec.format
        seq := b.seq + 1 })) (ev 0x8C08 (locMgmt 0) (m.old + s.sec.format * 2 ^ 16))
    else raiseEvent (spoilBlock s (k + 1)) (ev 0x8C09 (locMgmt 0) 2)
  | none => s

/-! Flash operations end (R426, R430, R433). -/

/-- A slot's image with bytes appended. -/
def programSlot (s : State) (bs : List Byte) : State :=
  match s.sec.update with
  | some u => { s with sec := { s.sec with
      images := s.sec.images.set u.slot.val (match s.sec.images[u.slot] with
        | some x => some { x with body := x.body ++ bs }
        | none => some ⟨u.header, bs, false, .good⟩) } }
  | none => s

/-- The first operation under way ends; a chunk waits while a prompt-book copy is made. -/
def flashDone (s : State) : State :=
  match s.sec.ops with
  | [] => s
  | o :: rest =>
    let t := { s with sec := { s.sec with ops := rest } }
    match o with
    | .erase k h =>
      completeProg { t with sec := { t.sec with images := t.sec.images.set k.val (some ⟨h, [], false, .good⟩) } } 0x0C20 0 stOK 0 k.val 0
    | .program bs => if s.book.copying.isSome then s else completeProg (programSlot t bs) 0x0C21 0 stOK 0 0 0
    | .commit k =>
      let t1 := { t with sec := { t.sec with
        images := t.sec.images.set k.val (t.sec.images[k].map fun x => { x with
          committed := true
          verdict := verdictOf x.header x.body })
        update := none } }
      completeProg (writeBoot t1 (bootRecord t1).active (some k) false) 0x0C22 0 stOK 0 0 0
    | .save b verified =>
      let n := nextSettings t
      if verified then completeProg (saveBlock t n.1 (blockSealed { b with seq := n.2 })) 0x0C30 0 stOK 0 n.2 0
      else completeProg (spoilBlock t n.1) 0x0C30 0 stHwFault 0 0 0

def execFlashProgramDone (s : State) : Host.Outcome State Fault Refusal := .next (flashDone s)

/-! The trial's end (R427). -/

/-- Five seconds of the house clock since the trial's reset. -/
def trialLate (s : State) (t : BitVec 64) : Bool := decide (5000000000 ≤ (s.time.hc - t).toNat)

/-- Anti-rollback fuses are burned until the count equals the image's security version (R429). -/
def burnRollback (s : State) (version : Nat) : State :=
  if s.sec.otp.rollback < version then
    raiseEvent { s with sec := { s.sec with otp := { s.sec.otp with rollback := version } } } (ev 0x8C06 (locDie 3 0xFFF) version)
  else s

/-- The running image's header. -/
def runningHeader (s : State) : List Nat :=
  match s.sec.running with
  | some k =>
    match slotImage s k with
    | some x => x.header
    | none => []
  | none => []

/-- The migration that waited for the trial. -/
def migrateDue (s : State) : State :=
  match s.sec.migration with
  | some m => migrate { s with sec := { s.sec with migration := none } } m
  | none => s

/-- IMAGE_HEALTHY: READY, the settings adopted or migrated, the image's own checks passed, within 5 s. -/
def imageHealthy (s : State) : State :=
  match s.sec.trialAt, s.sec.running with
  | some t, some k =>
    if ready s && trialRuns s && (bootRecord s).pending == some k && !trialLate s t then
      let h := runningHeader s
      let s1 := writeBoot { s with sec := { s.sec with trialAt := none } } k none false
      raiseEvent (migrateDue (burnRollback s1 (imgSecVer h))) (ev 0x8C04 (locMgmt 0) k.val (imgVersion h))
    else s
  | _, _ => s

def execImageHealthy (s : State) : Host.Outcome State Fault Refusal := .next (imageHealthy s)

/-- TRIAL_TIMEOUT: 5 s without health; management restarts on ACTIVE. -/
def trialTimeout (s : State) : State :=
  match s.sec.trialAt with
  | some t => if trialRuns s && trialLate s t then requestMgmt (trialFails s true) 5 else s
  | none => s

def execTrialTimeout (s : State) : Host.Outcome State Fault Refusal := .next (trialTimeout s)

end Sys2Proof.Machine
end

