-- ==== Sys2Proof/Machine/Power.lean ====
section
/-! DEFINITION. Power states, wake, temperature and the core voltage (chapter 20, and R38 of chapter 02). -/

namespace Sys2Proof.Machine

open Sys2Proof

def setMode (s : State) (m : PowerMode) : State := { s with power := { s.power with mode := m } }

/-- PWR_STATE_CHANGE's data word 0: new state, old state, wake cause. -/
def pwrChange (new old cause : Nat) : Nat := new + old * 2 ^ 4 + cause * 2 ^ 8

def raisePwrChange (s : State) (new old cause : Nat) : State := raiseEvent s (ev 0x8901 locWholeDie (pwrChange new old cause))

/-! Entry (R383, R388, R390). -/

/-- PWR_WAKE_CFG as a word. -/
def wakeCfg (s : State) : Nat :=
  rd s F.PWR_WAKE_CFG_STAGE_DOOR_EN + rd s F.PWR_WAKE_CFG_WAKE_EN * 2 + rd s F.PWR_WAKE_CFG_TIMER_EN * 4

/-- The states that a PWR_ENTER for INTERMISSION, or for DARK, starts from. -/
def entryFrom (s : State) (dark : Bool) : Bool := s.power.mode == .show || (dark && s.power.mode == .intermission)

/-- The preconditions of R383 that give E_STATE. -/
def entryReady (s : State) (dark : Bool) : Bool :=
  entryFrom s dark &&
    ((List.range 8).all fun p => !portEnabled s p || rdE s F.PCS_PORT_CTRL_ADMIN_UP p == 0) &&
    ((List.range 32).all fun l => loopState s l == 0 || loopState s l == 2) &&
    (!dark || ((List.range 32).all (fun c => rdE s F.BDAC_CTRL_c_EN c == 0) && wakeCfg s != 0 &&
      !((wakeCfg s).testBit 1 && s.power.wakePin)))

/-- The activities that give E_BUSY (R383, R430). -/
def entryBusy (s : State) : Bool :=
  s.cal.run.isSome || s.test.rehearsal.isSome || s.book.copying.isSome || s.sec.update.isSome || (bootRecord s).trial

/-- The show clocks as RET holds them (R38, R399). -/
def storeClocks (s : State) (forced : Bool) : StoredClocks :=
  ⟨Vector.ofFn fun p : Fin 8 => ⟨showClock s p .tx, showClock s p .rx, rdE s F.PCS_PORT_CTRL_WIDTH p,
    rdE s F.PCS_PROFILE_LINE_RATE⟩, forced⟩

/-- DARK entry as far as Mexis takes part: the RC measurement and the clocks go into RET, the DARK_ENTRY record is written, and
the sequencer starts (R390). -/
def darkEntry (s : State) (rcHz : Nat) : State :=
  let s1 := { s with power := { s.power with
    rcHz := rcHz
    stored := some (storeClocks s false) } }
  let s2 := bookWrite s1 4 0 locWholeDie rcHz 0 0
  setMode s2 (.enteringDark 0 (if s.power.mode = .show then 0 else 1) false)

/-- Every powered lane and every region of line and host goes off as the mode changes; a change of CLK_MODE under way ends. -/
def regionsOff (s : State) (m : PowerMode) : State :=
  lanesPower s (regionsPower s (setMode { s with path := { s.path with modeChange := false } } m))

/-- Every bias DAC channel holds its applied code with dither 0, the generators stop (R388). -/
def ditherStop (s : State) : State :=
  let s1 := (List.range 32).foldl (fun t c => bdacRefresh (setBdac t c { bdacChan t c with dither := 0 }) c) s
  { s1 with ctl := { s1.ctl with gens := CtlState.reset.gens } }

/-- The sense modulators stop: every output reads NOT_SETTLED. -/
def senseStop (s : State) : State :=
  (List.range 24).foldl (fun t n =>
    senseBlank (setSense t n { SenseChan.reset with calibrating := (senseChan t n).calibrating }) n) s

/-- Both show clocks of every port freewheel (R37). -/
def clocksFreewheel (s : State) : State :=
  (List.range 8).foldl (fun t p => setFreewheel (setFreewheel t p .tx true) p .rx true) s

/-- INTERMISSION begins (R388, R22, R37): dither and modulators stop, the regions and every PLL go off, the engine runs from the crystal,
the show clocks freewheel. -/
def intermissionBegin (s : State) : State :=
  let s1 := regionsOff (senseStop (ditherStop s)) .enteringIntermission
  clocksFreewheel (wr { s1 with time := { s1.time with sysPllLocked := false } } F.LOOP_ENGINE_STATUS_FALLBACK 1)

/-- PWR_ENTER's own part (R400). -/
def pwrEnter (c : Cmd) (rcHz : Nat) : State → State × Reply :=
  let w := c.w 2
  withChecks (fun s =>
      [(!(w == 1 || w == 2), stParam, 2), (!entryReady s (w == 2), stState, 0), (entryBusy s, stBusy, 0)])
    fun s =>
      let s1 := wr s F.PWR_STATE_THERMAL_DARK 0
      if w = 1 then (intermissionBegin s1, .later 0 0) else (darkEntry s1 rcHz, .done stOK 0 0 0)

/-- PWR_ENTER, with the frequency in Hz of the RC oscillator that Mexis measures for DARK. -/
def execPwrEnter (c : Cmd) (rcHz : BitVec 32) (s : State) : Host.Outcome State Fault Refusal :=
  .next (hostCmd 0x0901 [(2, 3)] noGate c (pwrEnter c rcHz.toNat) s)

/-- Leaving INTERMISSION begins (R389): the cause goes into LAST_WAKE. -/
def leaveIntermission (s : State) (cause : Nat) : State := setMode (wr s F.PWR_STATE_LAST_WAKE cause) .leavingIntermission

/-- INTERMISSION_ENTRY_DONE (R388): the entry is done and PWR_ENTER completes; an enabled WAKE that is asserted ends the state again. -/
def intermissionEntered (s : State) : State :=
  if s.power.mode = .enteringIntermission then
    let s3 := completeProg (raisePwrChange (wr (setMode s .intermission) F.PWR_STATE_STATE 1) 1 0 0) 0x0901 0 stOK 0 0 0
    if s3.power.wakePin && (wakeCfg s3).testBit 1 then leaveIntermission s3 2 else s3
  else s

def execIntermissionEntryDone (s : State) : Host.Outcome State Fault Refusal := .next (intermissionEntered s)

/-- PWR_EXIT's own part (R389, R400). -/
def pwrExit : State → State × Reply :=
  withChecks (fun s => [(!(s.power.mode == .intermission), stState, 0)])
    fun s => (leaveIntermission s 4, .later 0 0)

def execPwrExit (c : Cmd) (s : State) : Host.Outcome State Fault Refusal := .next (hostCmd 0x0902 [] noGate c pwrExit s)

/-- Every rail that SHOW monitors has stood above its warning level for 100 microseconds (R385). -/
def railsSettled (s : State) : Bool := (List.range 7).all (railClear s 100000)

/-- INTERMISSION_EXIT_DONE (R389): the PLLs are locked, the regions are powered with their corrections, every enabled sense
channel takes its corrections and a SYNC, and the bias channels take the codes of their sources again (R273). -/
def intermissionLeft (s : State) : State :=
  if s.power.mode = .leavingIntermission ∧ railsSettled s = true then
    let u := setMode { s with time := { s.time with sysPllLocked := true } } .show
    let s1 := lanesPower s (pllsLock (takeRefs u))
    let s2 := wr (wr s1 F.LOOP_ENGINE_STATUS_FALLBACK 0) F.PWR_STATE_STATE 0
    let s3 := (List.range 32).foldl bdacRefresh ((List.range 24).foldl senseSync (senseLoad s2))
    completeProg (raisePwrChange s3 0 1 (rd s3 F.PWR_STATE_LAST_WAKE)) 0x0902 0 stOK 0 0 0
  else s

def execIntermissionExitDone (s : State) : Host.Outcome State Fault Refusal := .next (intermissionLeft s)

/-! DARK (R390-R394, R399). -/

/-- What DARK takes: every block but HOUSE and RET loses its state (R408); the crystal stops. -/
def darkLoss (s : State) : State :=
  let t := retReset s (retFields ++ houseFields ++ powerFields ++ fenceFields ++
    [F.MEM_BIST_STATUS_PASS, F.MEM_BIST_STATUS_MACRO, F.MEM_BIST_STATUS_CASE, F.MEM_BIST_STATUS_TRIPLET])
  { t with
    time := { t.time with crystalRuns := false }
    power := { s.power with
      mode := .dark
      warmPending := false
      tripRun := Vector.replicate 12 0
      avsMisses := 0
      avsLastStep := none }
    test := { t.test with
      fencedGroups := s.test.fencedGroups
      fencedBdac := s.test.fencedBdac
      fencedSense := s.test.fencedSense }
    sec := { t.sec with
      pulse := s.sec.pulse
      activate := s.sec.activate } }

/-- The device wakes (R395): PWR_EN rises. A reset that fell due in DARK is performed in place of the wake (R403). -/
def darkWake (s : State) (cause : Nat) : State :=
  match s.power.dueReset with
  | some d => if d.kind = 0 then porReset s (some d.rail) else rstCause (retReset s (retFields ++ houseFields)) d.kind d.rail
  | none =>
    let s1 := wr s F.PWR_STATE_LAST_WAKE cause
    { s1 with power := { s1.power with
      mode := .wakingDark
      pwrEn := true
      timerDue := false } }

/-- In DARK a source that waits wakes the device once no trip blocks it (R392, R399). -/
def darkSources (s : State) : State :=
  if s.power.mode = .dark ∧ s.power.tripWait = false then
    if s.power.wakePin && s.power.latchedCfg.testBit 1 then darkWake s 2
    else if s.power.timerDue then darkWake s 3 else s
  else s

/-- WAKE is sampled asserted at c5 and aborts the entry, unless it is forced (R392, R399). INTERMISSION, to which it may return, ends on the
same WAKE (R389). -/
def darkAbort (s : State) (back : Nat) : State :=
  let s1 := wr (setMode s (if back = 0 then .show else .intermission)) F.PWR_STATE_ENTERING 0
  let s2 := raiseEvent { s1 with power := { s1.power with stored := none } } (ev 0x8902 locWholeDie back)
  if back = 0 then s2 else leaveIntermission s2 2

/-- DARK_SEQUENCER_STEP (R390): one RC cycle. `rcHz` is the stage door's latest measurement, which a forced entry stores. -/
def darkStep (rcHz : Nat) (s : State) : State :=
  match s.power.mode with
  | .enteringDark k back forced =>
    let go := fun (t : State) => setMode t (.enteringDark (k + 1) back forced)
    if k = 0 then go (wr s F.PWR_STATE_ENTERING 1)
    else if k = 2 then go { s with power := { s.power with
      latchedCfg := wakeCfg s
      latchedTimer := rd s F.PWR_TIMER_SECONDS } }
    else if k = 4 then (if below s 4 || below s 5 then s else go s)
    else if k = 5 then
      if s.power.wakePin && s.power.latchedCfg.testBit 1 && !forced then darkAbort s back
      else go { s with power := { s.power with pwrEn := false } }
    else if k < 6 then go s
    else
      let s1 := if forced then { s with power := { s.power with
        rcHz := rcHz
        stored := some (storeClocks s true) } } else s
      darkSources (darkLoss s1)
  | _ => s

def execDarkSequencerStep (rcHz : BitVec 32) (s : State) : Host.Outcome State Fault Refusal := .next (darkStep rcHz.toNat s)

/-- WAKE_ASSERT: the level of WAKE changes; asserted and enabled, it ends INTERMISSION or DARK (R389, R392). -/
def wakeLevel (level : Bool) (s0 : State) : State :=
  let s := { s0 with power := { s0.power with wakePin := level } }
  if level = false then s
  else match s.power.mode with
    | .intermission => if (wakeCfg s).testBit 1 then leaveIntermission s 2 else s
    | _ => darkSources s

def execWakeAssert (level : Bool) (s : State) : Host.Outcome State Fault Refusal := .next (wakeLevel level s)

/-- RC_TIMER_EXPIRY (R394): a timer wake waits behind a trip's block (R399). -/
def rcTimerExpiry (s : State) : State :=
  if s.power.mode = .dark ∧ s.power.latchedCfg.testBit 2 = true then
    darkSources { s with power := { s.power with timerDue := true } }
  else s

def execRcTimerExpiry (s : State) : Host.Outcome State Fault Refusal := .next (rcTimerExpiry s)

/-! The stage door (R393). -/

/-- Port A's 7-bit address (R450). -/
def portAddress (s : State) : Nat := 0x58 + s.mgmt.straps.toNat

/-- What port A drives: its bytes and, for each byte it receives, whether it acknowledges. -/
def i2cDrive (s : State) (out : List Byte) (acks : List Bool) : State :=
  { s with mgmt := { s.mgmt with
    i2cOut := out
    i2cAcks := acks } }

/-- STAGE_DOOR_WRITE: an address with W. In DARK with STAGE_DOOR_EN it is acknowledged and wakes the device; data bytes are
NACKed. While the device wakes, the stage door still answers. -/
def stageDoorWrite (addr : Nat) (count : Nat) (s : State) : State :=
  let nack := List.replicate count false
  if deviceUp s then s
  else if addr = portAddress s ∧ s.power.mode = .dark ∧ s.power.latchedCfg.testBit 0 = true ∧ s.power.tripWait = false then
    i2cDrive (darkWake s 1) [] (true :: nack)
  else if addr = portAddress s ∧ s.power.mode = .wakingDark ∧ s.power.latchedCfg.testBit 0 = true then i2cDrive s [] (true :: nack)
  else i2cDrive s [] (false :: nack)

def execStageDoorWrite (addr : BitVec 7) (data : List Byte) (s : State) : Host.Outcome State Fault Refusal :=
  .next (stageDoorWrite addr.toNat data.length s)

/-- The stage door answers reads: in DARK, while the device wakes, and while a failed start-up check holds it in reset. -/
def stageDoorOpen (s : State) : Bool :=
  match s.power.mode with
  | .dark => true
  | .wakingDark => true
  | .checkerFailed => true
  | _ => false

/-- MEM_BIST_STATUS as a word. -/
def bistWord (s : State) : Nat :=
  rd s F.MEM_BIST_STATUS_PASS * 2 ^ 31 + rd s F.MEM_BIST_STATUS_MACRO * 2 ^ 8 + rd s F.MEM_BIST_STATUS_CASE * 2 ^ 4 +
    rd s F.MEM_BIST_STATUS_TRIPLET

/-- A wake waits or is under way. -/
def wakePending (s : State) : Bool :=
  s.power.mode == .wakingDark || s.power.timerDue || (s.power.wakePin && s.power.latchedCfg.testBit 1)

/-- The 16-byte record, most significant byte first. -/
def stageRecord (s : State) : List Nat :=
  let part := rd s F.ID_PART_PART
  let flags := (if s.power.mode = .checkerFailed then 0xC0 else 0x80) + rd s F.PWR_STATE_THERMAL_DARK * 2 ^ 5 +
    b2n (wakePending s) * 2 ^ 4
  [part / 256, part % 256, rd s F.ID_STEP_STEP, flags] ++ ((List.range 4).map fun k => bistWord s / 2 ^ (24 - 8 * k) % 256) ++
    (List.range 8).map fun k => Config.deviceId.toNat / 2 ^ (56 - 8 * k) % 256

/-- STAGE_DOOR_READ: the record without waking, 0xFF after byte 15. -/
def stageDoorRead (addr count : Nat) (s : State) : State :=
  if deviceUp s then s
  else if addr = portAddress s ∧ stageDoorOpen s = true then
    i2cDrive s ((List.range count).map fun k => BitVec.ofNat 8 ((stageRecord s)[k]?.getD 0xFF)) [true]
  else i2cDrive s [] [false]

def execStageDoorRead (addr : BitVec 7) (count : Nat) (s : State) : Host.Outcome State Fault Refusal :=
  .next (stageDoorRead addr.toNat count s)

/-! Wake (R38, R395). -/

/-- A clock held over DARK, advanced by n codewords, freewheeling. -/
def advanceHeld (k : ShowClock) (n : Nat) : ShowClock := { k.advance n with freewheel := true, frac := 0 }

/-- Codewords of a held port in an interval: its R25 rate at the width and line rate it had, rounded down to whole codewords, which R38
leaves open (log entry 166). -/
def heldCodewords (h : HeldClocks) (ns : Nat) : Nat :=
  78125000 * widthLanes h.width / (if h.lineRate = 1 then 2 else 1) * ns / 1000000000

/-- Mexis advances the house clock by the interval that the RC count covers at the mean of the two measurements, and holds the
show clocks advanced by the same interval; it records both (R38). The interval is rounded down to whole nanoseconds, which R38 leaves
open (log entry 166). -/
def clocksAdvance (s : State) (count rc2 : Nat) : State :=
  let ns := count * 2 * 1000000000 / (s.power.rcHz + rc2)
  let uncert := min (2 ^ 32 - 1) (ns * 5 / 1000000)
  let held := match s.power.stored with
    | some x => x.ports.map fun h =>
        some { h with
          tx := advanceHeld h.tx (heldCodewords h ns)
          rx := advanceHeld h.rx (heldCodewords h ns) }
    | none => s.time.held
  let s1 := { s with
    time := { s.time with
      hc := s.time.hc + BitVec.ofNat 64 ns
      estimated := true
      held := held }
    power := { s.power with stored := none } }
  let s2 := wr (wr s1 F.CUE_SC_STATE_HC_ESTIMATED 1) F.CUE_HC_UNCERT_UNCERT uncert
  let ms := min (2 ^ 32 - 1) (ns / 1000000)
  raiseEvent (bookWrite s2 5 0 locWholeDie ms uncert 0) (ev 0x8806 (locDie 2 0xFFF) ms uncert)

/-- WAKE_FROM_DARK (R395): the rails have been back for 100 microseconds (R385) and the crystal is stable after `count` RC cycles; the checker and the boot ROM
run; Mexis, where an image boots, advances the clocks. -/
def wakeFromDark (count rc2 : Nat) (checker : Option CheckerFail) (boot : BootReads) (s : State) : State :=
  if s.power.mode = .wakingDark ∧ railsSettled s = true then
    let s0 := { s with time := { s.time with crystalRuns := true } }
    match checker with
    | some f => checkerFails (wr s0 F.MEM_BIST_STATUS_PASS 0) f
    | none =>
      let s1 := bootRom (startUp (wr s0 F.AVS_STATUS_TARGET 750)) boot
      let s2 := { s1 with power := { s1.power with announce := some (pwrChange 0 2 (rd s1 F.PWR_STATE_LAST_WAKE)) } }
      if s2.sec.running.isSome then clocksAdvance s2 count rc2 else s2
  else s

def execWakeFromDark (count : BitVec 40) (rcHz : BitVec 32) (checker : Option CheckerFail) (boot : BootReads) (s : State) :
    Host.Outcome State Fault Refusal := .next (wakeFromDark count.toNat rcHz.toNat checker boot s)

/-! Temperature (R397-R399). -/

def sensorTemp (s : State) (k : Nat) : Int := rdI s F.THERM_TEMP_s_TEMP k

/-- The sensor with the highest of some readings, the lowest-numbered of equal ones. -/
def hottestOf (xs : List (Nat × Int)) : Nat × Int :=
  match xs with
  | [] => (0, 0)
  | x :: rest => rest.foldl (fun b e => if b.2 < e.2 then e else b) x

/-- Sensor 0 alarms (R418). -/
def tempAlarm (t : Int) : Bool := decide (135 * 16 ≤ t) || decide (t ≤ -45 * 16)

/-- The state from which a trip switches the regions off: a commanded DARK entry out of SHOW has them still powered (R390). -/
def tripFrom (s : State) : State :=
  match s.power.mode with
  | .enteringDark _ back _ => if back = 0 then setMode s .show else s
  | _ => s

/-- A trip (R399): raised and recorded, the regions go off, tests end, and the sequencer runs from c0. -/
def thermalTrip (s : State) (k : Nat) (t : Int) : State :=
  let s1 := curtain (raiseEvent s (ev 0x8904 (locDie 0 k) k (ofSigned 32 t))) 4 0x8904 (locDie 0 k)
  let s2 := regionsOff (tripFrom (testsStop s1 6)) (.enteringDark 0 (rd s F.PWR_STATE_STATE) true)
  wr { s2 with power := { s2.power with tripWait := true } } F.PWR_STATE_THERMAL_DARK 1

/-- The warning sets at WARN and clears when every sensor reads below WARN - 5 (R398). -/
def thermalWarn (s : State) : State :=
  let warn : Int := (rd s F.THERM_CTRL_WARN : Nat) * 16
  let hot := hottestOf ((List.range 12).map fun k => (k, sensorTemp s k))
  let raise := fun (t : State) (n : Nat) => raiseEvent t (ev 0x8903 (locDie 0 hot.1) (n + hot.1 * 2 ^ 8) (ofSigned 32 hot.2))
  if rd s F.THERM_STATUS_WARN = 0 ∧ warn ≤ hot.2 then raise (wr s F.THERM_STATUS_WARN 1) 1
  else if rd s F.THERM_STATUS_WARN = 1 ∧ hot.2 < warn - 80 then raise (wr s F.THERM_STATUS_WARN 0) 0
  else s

/-- Each sensor's consecutive readings at 120 degrees or more. -/
def tripRuns (s : State) : Vector Nat 12 :=
  Vector.ofFn fun k : Fin 12 => if 1920 ≤ sensorTemp s k then s.power.tripRun[k] + 1 else 0

/-- The cold addition follows the hottest of sensors 1 to 11 (R386). -/
def coldFollow (s : State) : Bool :=
  let hot := (hottestOf ((List.range 11).map fun k => (k + 1, sensorTemp s (k + 1)))).2
  if hot < 20 * 16 then true else if 23 * 16 < hot then false else s.power.coldComp

/-- Readings while the device runs. -/
def thermalUp (readings : Vector (BitVec 16) 12) (s : State) : State :=
  let was := tempAlarm (sensorTemp s 0)
  let s1 := (List.range 12).foldl (fun t k => wr t F.THERM_TEMP_s_TEMP (readings[k]?.getD 0).toNat k) s
  let hot := hottestOf ((List.range 12).map fun k => (k, sensorTemp s1 k))
  let s2 := wr (wrI s1 F.THERM_STATUS_MAX hot.2) F.THERM_STATUS_HOTTEST hot.1
  let s3 := { s2 with power := { s2.power with
    coldComp := coldFollow s2
    tripRun := tripRuns s2 } }
  let s4 := thermalWarn s3
  let s5 := if tempAlarm (sensorTemp s4 0) && !was then raiseAlarm s4 2 else s4
  match (List.range 12).find? fun k => decide (3 ≤ vGet s5.power.tripRun k 0) with
  | some k => thermalTrip { s5 with power := { s5.power with tripRun := Vector.replicate 12 0 } } k (sensorTemp s5 k)
  | none => s5

/-- Sensor 0 in DARK (R397): its alarm is raised as ever (R418); a trip's block ends below WARN - 5, and what waited wakes the device
(R399). -/
def thermalDark (reading : BitVec 16) (s : State) : State :=
  let was := tempAlarm (sensorTemp s 0)
  let s1 := wr s F.THERM_TEMP_s_TEMP reading.toNat 0
  let s2 := if tempAlarm reading.toInt && !was then raiseAlarm s1 2 else s1
  if s2.power.tripWait ∧ reading.toInt < ((rd s F.THERM_CTRL_WARN : Nat) : Int) * 16 - 80 then
    darkSources { s2 with power := { s2.power with tripWait := false } }
  else s2

/-- The sensors of every region run: while the device is up, and in a commanded DARK entry until VDD_CORE goes off (R397, R399). -/
def sensorsRun (s : State) : Bool :=
  deviceUp s || match s.power.mode with
    | .enteringDark k _ forced => !forced && decide (k ≤ 5)
    | _ => false

/-- THERMAL_READING: every 100 microseconds; in DARK only sensor 0, once a second. -/
def thermalReading (readings : Vector (BitVec 16) 12) (s : State) : State :=
  if sensorsRun s then thermalUp readings s
  else if s.power.mode = .dark then thermalDark readings[0] s else s

def execThermalReading (readings : Vector (BitVec 16) 12) (s : State) : Host.Outcome State Fault Refusal :=
  .next (thermalReading readings s)

/-! Core voltage (R386, R489). -/

/-- The target in mV of the present state. -/
def avsGoal (s : State) : Nat :=
  match s.power.mode with
  | .enteringIntermission => 650
  | .intermission => 650
  | _ =>
    let cold := if s.power.coldComp && rd s F.AVS_CTRL_TEMP_COMP == 1 then 15 else 0
    (clampI 650 820 (720 + 10 * (Config.processBin.toNat : Int) + cold + 5 * rdI s F.AVS_CTRL_MARGIN)).toNat

/-- A move is in progress: the commanded value differs from the target, and no AVS_FAULT stands. -/
def avsSlewing (s : State) : Bool := deviceUp s && rd s F.AVS_STATUS_FAULT == 0 && rd s F.AVS_STATUS_TARGET != avsGoal s

/-- AVS_SLEW_STEP: at most 5 mV per 50 microseconds. -/
def avsSlewStep (s : State) : State :=
  if avsSlewing s && sinceNs s s.power.avsLastStep 50000 then
    let now := rd s F.AVS_STATUS_TARGET
    let next := if now < avsGoal s then min (now + 5) (avsGoal s) else max (now - 5) (avsGoal s)
    wr { s with power := { s.power with avsLastStep := some s.time.tick } } F.AVS_STATUS_TARGET next
  else s

def execAvsSlewStep (s : State) : Host.Outcome State Fault Refusal := .next (avsSlewStep s)

/-- AVS_FAULT is raised once; from then on the target stands until the next reset. -/
def avsFault (s : State) (noResponse : Bool) : State :=
  if rd s F.AVS_STATUS_FAULT = 1 then s
  else raiseEvent (wr s F.AVS_STATUS_FAULT 1) (ev 0x8905 (locPackage 0) (b2n noResponse) (rd s F.AVS_STATUS_READBACK))

/-- AVS_READBACK: the regulator's voltage and current, or no answer; three reads in a row more than 20 mV off are a fault. -/
def avsReadback (answer : Option (BitVec 10 × BitVec 16)) (s : State) : State :=
  if deviceUp s && s.power.pwrEn then
    match answer with
    | none => avsFault s true
    | some (mv, ma) =>
      let s1 := wr (wr s F.AVS_STATUS_READBACK mv.toNat) F.AVS_CURRENT_CURRENT ma.toNat
      let target := rd s1 F.AVS_STATUS_TARGET
      let off := decide (target + 20 < mv.toNat) || decide (mv.toNat + 20 < target)
      let n := if off then s1.power.avsMisses + 1 else 0
      let s2 := { s1 with power := { s1.power with avsMisses := min 3 n } }
      if 3 ≤ n then avsFault s2 false else s2
  else s

def execAvsReadback (answer : Option (BitVec 10 × BitVec 16)) (s : State) : Host.Outcome State Fault Refusal :=
  .next (avsReadback answer s)

end Sys2Proof.Machine
end

