-- ==== Sys2Proof/Machine/RegIf.lean ====
section
/-! DEFINITION. The register interface (chapter 17): reads and writes of the address space, bus errors, the framing of I2C
port A and of the SPI slave (chapter 16, R313-R318), and the votes of R348. -/

namespace Sys2Proof.Machine

open Sys2Proof

/-! Status that follows conditions (R340). -/

/-- RING_INT_STATUS [31:8] (R331). -/
def intConditions (s : State) : Nat :=
  let line := (List.range 8).any fun n => rd s F.LRX_STATUS_LOS n == 1 && lanePowered s (lineOf n)
  let host := allHost.any fun l => rd s F.HSL_STATUS_LOS l.num == 1 && lanePowered s l
  let notUp := (List.range 8).any fun p => rdE s F.PCS_PORT_CTRL_ADMIN_UP p == 1 && linkState s p != 4
  let sd := (List.range 8).any fun p => rd s F.FEC_STATUS_TX_SD p == 1 || rd s F.FEC_STATUS_RX_SD p == 1
  b2n ((List.range 7).any (below s)) * 2 ^ 8 + rd s F.THERM_STATUS_WARN * 2 ^ 9 + b2n line * 2 ^ 10 + b2n host * 2 ^ 11 +
    b2n notUp * 2 ^ 12 + b2n sd * 2 ^ 13 + rd s F.LOOP_ENGINE_STATUS_FAULT * 2 ^ 14 +
    b2n (freeContexts s == 0) * 2 ^ 15 + b2n ((List.range 32).any fun c => rd s F.BDAC_CEIL_c_CEIL_HIT c == 1) * 2 ^ 16

/-- RING_INT_STATUS. -/
def intStatus (s : State) : Nat :=
  intConditions s + b2n (rd s F.RING_STATUS_EVT_LOST != 0) * 4 + b2n (evtFill s != 0) * 2 + b2n (cplFill s != 0)

/-- INT_N is asserted (R331). -/
def intAsserted (s : State) : Bool :=
  pinsDriven s && (cplFill s != 0 || evtFill s != 0 || intConditions s &&& (rd s F.RING_INT_EN_MASK * 2 ^ 8) != 0)

/-- Words of a bank that read as poisoned. -/
def poisonedCount (s : State) (k : Nat) : Nat := ((bankOf s k).poison.filter (isPoisoned s k)).length

/-- MEM_BANK_STATUS_k. -/
def bankStatus (s : State) (k : Nat) : Nat :=
  let n := (bankOf s k).remaps.length
  n * 2 ^ 24 + b2n (decide (8 ≤ n)) * 2 ^ 16 + min 65535 (poisonedCount s k)

/-- PB_SECTION_k. -/
def sectionStatus (s : State) (k : Nat) : Nat :=
  match vGet s.book.sections k none with
  | some x => 2 ^ 31 + x.trigger * 2 ^ 27 + x.markerSeq
  | none => 0

/-- FLOW_STATUS. -/
def flowStatus (s : State) : Nat :=
  b2n (freeContexts s == 0) * 2 ^ 31 + b2n s.obs.imageLocked * 2 ^ 30 + b2n (imageValid s) * 2 ^ 29 + freeContexts s

/-- FLOW_IMAGE. -/
def flowImageStatus (s : State) : Nat :=
  match s.obs.image with
  | some x => if imageValid s then x.seq.toNat * 2 ^ 16 + x.records.length else 0
  | none => 0

/-- SNAP_STATUS. -/
def snapStatus (s : State) : Nat :=
  s.obs.seq.toNat * 2 ^ 16 + b2n (vGet s.obs.full 1 false) * 8 + b2n (vGet s.obs.full 0 false) * 4 +
    b2n (bankCopying s 0 || bankCopying s 1) * 2 + s.obs.lastBank

/-- SEC_OTP_STATUS. -/
def otpStatus (o : Otp) : Nat :=
  b2n o.scorched * 2 ^ 14 + b2n o.owner.isSome * 2 ^ 13 + o.slotProg * 2 ^ 11 + o.slotRevoked * 2 ^ 9 + o.rollback

/-- SEC_ALARM_STATUS. -/
def alarmStatus (s : State) : Nat :=
  rd s F.SEC_ALARM_STATUS_AUTH_FAILS * 2 ^ 24 + rd s F.SEC_ALARM_STATUS_SOURCES * 2 ^ 16 +
    rd s F.SEC_ALARM_STATUS_IN_FORCE * 2 ^ 8 + b2n (s.sec.zeroized || decide (3 ≤ s.sec.otp.life)) * 4 +
    b2n s.sec.locked * 2 + b2n (alarmAsserted s)

/-- SEC_FW_STATUS. -/
def fwStatus (s : State) : Nat :=
  let secVer := if s.sec.running.isSome then imgSecVer (runningHeader s) else 0
  let pend := match pendingSlot s with
    | some k => 16 + k.val * 2
    | none => 0
  let run := match s.sec.running with
    | some k => k.val
    | none => 0
  secVer % 256 * 2 ^ 24 + rd s F.SEC_FW_STATUS_BOOT_FAIL * 2 ^ 16 + b2n s.sec.recovery * 2 ^ 7 + b2n s.sec.update.isSome * 2 ^ 6 +
    b2n (trialRuns s) * 2 ^ 5 + pend + run

/-- The words that show conditions rather than stored fields. -/
def liveWord (s : State) (base i : Nat) : Option Nat :=
  if base = Regs.CUE_SC_STATE.base then
    some (rd s F.CUE_SC_STATE_HC_ESTIMATED * 2 ^ 24 + (momentNow s).pairs * 2 ^ 16 + (momentNow s).freewheels)
  else if base = Regs.SNAP_STATUS.base then some (snapStatus s)
  else if base = Regs.FLOW_STATUS.base then some (flowStatus s)
  else if base = Regs.FLOW_IMAGE.base then some (flowImageStatus s)
  else if base = Regs.RING_STATUS.base then
    some (rd s F.RING_STATUS_EVT_LOST * 2 ^ 16 + inProgressCount s % 64 * 2 ^ 8 + rd s F.RING_STATUS_RESTARTING * 2 +
      rd s F.RING_STATUS_READY)
  else if base = Regs.RING_INT_STATUS.base then some (intStatus s)
  else if base = Regs.ID_DEV_LO.base then some (Config.deviceId.toNat % 2 ^ 32)
  else if base = Regs.ID_DEV_HI.base then some (Config.deviceId.toNat / 2 ^ 32)
  else if base = Regs.REGIF_ERR_COUNT.base then some (counter s 0x750 % 2 ^ 32)
  else if base = Regs.REGIF_COLLIDE_COUNT.base then some (counter s 0x751 % 2 ^ 32)
  else if base = Regs.TMR_FIX_COUNT.base then some (counter s 0x752 % 2 ^ 32)
  else if base = Regs.MEM_BANK_STATUS_k.base then some (bankStatus s i)
  else if base = Regs.PB_STATUS.base then
    some (b2n s.book.copying.isSome * 2 ^ 26 + (b2n (sectionHeld s 0) + b2n (sectionHeld s 1)) * 2 ^ 24 + s.book.nextSeq)
  else if base = Regs.PB_SECTION_s.base then some (sectionStatus s i)
  else if base = Regs.PWR_MON_STATUS.base then
    some (maskOf 7 (fun r => !railMonitored s r) * 2 ^ 8 + maskOf 7 (below s))
  else if base = Regs.AVS_STATUS.base then
    some (Config.processBin.toNat * 2 ^ 29 + rd s F.AVS_STATUS_FAULT * 2 ^ 28 + b2n (avsSlewing s) * 2 ^ 27 +
      rd s F.AVS_STATUS_TARGET * 2 ^ 16 + rd s F.AVS_STATUS_READBACK)
  else if base = Regs.LC_STATE.base then some (b2n s.sec.session * 2 ^ 9 + b2n s.sec.fieldDiag * 2 ^ 8 + s.sec.otp.life)
  else if base = Regs.SEC_OTP_STATUS.base then some (otpStatus s.sec.otp)
  else if base = Regs.SEC_ALARM_STATUS.base then some (alarmStatus s)
  else if base = Regs.SEC_FW_STATUS.base then some (fwStatus s)
  else none

/-- A register's word at its main address: each field's value; WS fields read 0 (R339). -/
def storedWord (s : State) (r : RegInfo) (i j : Nat) : Nat :=
  r.fields.foldl (fun a f => if f.ty = .ws then a else a + rd s f i j * 2 ^ f.lo) 0

/-- TST_STATUS adds LIMIT_OK, which holds while a test runs (R434). -/
def mainWord (s : State) (r : RegInfo) (i j : Nat) : Nat :=
  match liveWord s r.place.base i with
  | some w => w
  | none => storedWord s r i j + (if r.place.base = Regs.TST_STATUS.base then b2n (testRuns s) * 2 else 0)

/-- A register's word at its mirror: RS fields read their effective values (R345). -/
def mirrorWord (s : State) (r : RegInfo) (i j : Nat) : Nat :=
  r.fields.foldl (fun a f =>
    if f.ty = .ws then a else if f.ty = .rs then a + rdE s f i j * 2 ^ f.lo else a + rd s f i j * 2 ^ f.lo) 0

/-! The address space (R335, R336). -/

/-- What an address names. -/
inductive Target where
  | reserved
  | window
  | mainReg (r : RegInfo) (i j : Nat)
  | mirrorReg (r : RegInfo) (i j : Nat)
  deriving DecidableEq, Repr

def inWindow (a : Nat) : Bool := decide (windowBase ≤ a) && decide (a < windowBase + windowBytes)

/-- The register at an address; else the mirror of one with RS fields, at + 0x8000 in its 64 KiB block (R345). -/
def target (a : Nat) : Target :=
  if a % 4 ≠ 0 then .reserved
  else if inWindow a then .window
  else match findReg a with
    | some (r, i, j) => .mainReg r i j
    | none =>
      if a % 0x10000 < 0x8000 then .reserved
      else match findReg (a - 0x8000) with
        | some (r, i, j) => if r.fields.any (·.ty == .rs) then .mirrorReg r i j else .reserved
        | none => .reserved

def reservedAddr (a : Nat) : Bool := target a == .reserved

/-- A register of the test block outside the states that may reach it (R413). -/
def gatedAddr (s : State) (a : Nat) : Bool := within a 0x480000 0x10000 && !testAllowed s

/-- The blocks that the dress rehearsal tests (R443): lines, hosts, CORE and CONTROL with their registers (log entry 121). -/
def dressTested (s : State) (a : Nat) : Bool :=
  s.test.dress && (within a 0x30000 0x10000 || within a 0x80000 0x2B0000 || within a 0x340000 0x10000 || within a 0x380000 0x50000)

/-- A word of the window that the host may only read (R322). -/
def windowReadOnly (s : State) (a : Nat) : Bool :=
  within a (windowBase + 0x3F000) 0x1000 || (rd s F.RING_LAYOUT_CMIS_EN == 1 && within a (windowBase + 0x20000) 0x10000)

/-! Writes (R336, R339). -/

/-- A ring's first byte and length. -/
def ringsOf (d : Nat) : List (Nat × Nat) :=
  [(bitsOf d 5 0 * 4096, 16 * 2 ^ bitsOf d 22 20 * 64), (bitsOf d 11 6 * 4096, 16 * 2 ^ bitsOf d 26 24 * 16),
   (bitsOf d 17 12 * 4096, 16 * 2 ^ bitsOf d 30 28 * 32)]

/-- RING_LAYOUT's own rule (R322). -/
def layoutOk (s : State) (d : Nat) : Bool :=
  let rings := ringsOf d
  let kept := (0x3F000, 0x1000) :: (if d.testBit 31 then [(0x20000, 0x10000)] else [])
  rings.all (fun r => decide (0x10000 ≤ r.1) && decide (r.1 + r.2 ≤ windowBytes)) &&
    (rings.all fun r => kept.all fun k => !overlaps r.1 r.2 k.1 k.2) &&
    ((pairsBelow 3).all fun p => match rings[p.1]?, rings[p.2]? with
      | some x, some y => !overlaps x.1 x.2 y.1 y.2
      | _, _ => true) &&
    cmdFill s == 0 && cplFill s == 0 && evtFill s == 0

/-- A doorbell's own rule (R323): (old - c) mod 2^16 ≤ (v - c) mod 2^16 ≤ bound. -/
def doorbellOk (old c v bound : Nat) : Bool :=
  decide (ringFill old c ≤ ringFill v c) && decide (ringFill v c ≤ bound)

/-- The values that a register's own rule refuses (cause 6). -/
def valueRefused (s : State) (base d : Nat) : Bool :=
  if base = Regs.DB_CMD.base then
    !doorbellOk (rd s F.DB_CMD_PROD) (rd s F.RING_CMD_CONS_CONS) (d % 2 ^ 16) (cmdRingSize s)
  else if base = Regs.DB_CPL_ACK.base then !doorbellOk (rd s F.DB_CPL_ACK_ACK) (rd s F.DB_CPL_ACK_ACK) (d % 2 ^ 16) (cplFill s)
  else if base = Regs.DB_EVT_ACK.base then !doorbellOk (rd s F.DB_EVT_ACK_ACK) (rd s F.DB_EVT_ACK_ACK) (d % 2 ^ 16) (evtFill s)
  else if base = Regs.RING_LAYOUT.base then !layoutOk s d
  else if base = Regs.CNT_SLOT_s.base then d.testBit 31 && (decide (bitsOf d 29 24 < 4) || decide (40 < bitsOf d 29 24))
  else if base = Regs.CNT_THR_s.base then d.testBit 31 && (decide (bitsOf d 27 24 < 1) || decide (8 < bitsOf d 27 24))
  else if base = Regs.PWR_TIMER.base then bitsOf d 23 0 == 0
  else if base = Regs.AVS_CTRL.base then decide (6 < (toSigned 4 (bitsOf d 3 0)).natAbs)
  else if base = Regs.THERM_CTRL.base then decide (bitsOf d 7 0 < 85) || decide (115 < bitsOf d 7 0)
  else if base = Regs.SEC_ALARM_CFG.base then
    let m := (s.sec.otp.policy.getD 0).toNat
    (List.range 5).any fun k => decide (bitsOf d (2 * k + 1) (2 * k) < bitsOf m (2 * k + 1) (2 * k))
  else false

def Field.writable (f : Field) : Bool := !f.isStatus

/-- Why a write of a register is refused: its cause (R336), the first that applies in the table's order of 7, 2, 3, 4, 6. -/
def regRefusal (s : State) (r : RegInfo) (i j d : Nat) : Option Nat :=
  if r.fields.all fun f => !f.writable then some 2
  else if r.fields.any fun f => f.ty == .lk && rd s f i j == 1 then some 3
  else if s.mgmt.layoutSpent && r.fields.any (·.ty == .w1) then some 4
  else if valueRefused s r.place.base d then some 6
  else none

/-- Why a write is refused. -/
def writeRefusal (s : State) (a d : Nat) : Option Nat :=
  match target a with
  | .reserved => some 1
  | .window => if windowReadOnly s a then some 2 else none
  | .mirrorReg _ _ _ => if gatedAddr s a then some 7 else if dressTested s a then none else some 5
  | .mainReg r i j =>
    if gatedAddr s a then some 7 else if dressTested s a then none else regRefusal s r i j d

/-- A field takes its bits of a written word, by its access type. -/
def fieldWrite (s : State) (f : Field) (i j d : Nat) : State :=
  let v := d / 2 ^ f.lo % 2 ^ f.width
  match f.ty with
  | .rw => wr s f v i j
  | .rs => wr s f v i j
  | .w1 => wr s f v i j
  | .rh => if v = 0 then wr s f 0 i j else s
  | .lk => if v = 1 then wr s f 1 i j else s
  | _ => s

/-- Bits that lie in no field of the register. -/
def reservedBits (r : RegInfo) (d : Nat) : Bool :=
  d &&& (2 ^ 32 - 1 - r.fields.foldl (fun a f => a + (2 ^ f.width - 1) * 2 ^ f.lo) 0) != 0

/-- A sampling slot that is given other settings starts without debt (log entry 122). -/
def slotFresh (s0 s : State) (k : Nat) : State :=
  if rd s0 F.CNT_SLOT_s_EN k = rd s F.CNT_SLOT_s_EN k ∧ rd s0 F.CNT_SLOT_s_K k = rd s F.CNT_SLOT_s_K k ∧
      rd s0 F.CNT_SLOT_s_COUNTER k = rd s F.CNT_SLOT_s_COUNTER k then s
  else { s with obs := { s.obs with slots := vMod s.obs.slots k fun q => { q with owed := 0 } } }

/-- An accepted RING_LAYOUT spends the register and sets the six indexes to 0 (R322, R349). -/
def layoutTaken (s : State) : State :=
  let s1 := wr (wr (wr s F.DB_CMD_PROD 0) F.DB_CPL_ACK_ACK 0) F.DB_EVT_ACK_ACK 0
  let s2 := wr (wr (wr s1 F.RING_CMD_CONS_CONS 0) F.RING_CPL_PROD_PROD 0) F.RING_EVT_PROD_PROD 0
  { s2 with mgmt := { s2.mgmt with layoutSpent := true } }

/-- What a write does beside the values of its fields: `s0` stood before it. -/
def writeAction (s0 s : State) (base i d : Nat) : State :=
  if base = Regs.CUE_LATCH.base then cueLatchWrite (d % 8) (if d.testBit 3 then .rx else .tx) s
  else if base = Regs.LRX_SPOT_CTRL.base then
    if d.testBit 31 then spotCtrlStart i (rd s F.LRX_SPOT_CTRL_SLICE i) (rd s F.LRX_SPOT_CTRL_SOURCE i) s else s
  else if base = Regs.SNS_SYNC.base then senseSyncMask s (d % 2 ^ 24)
  else if base = Regs.SNAP_CTRL.base then snapCtrlWrite s (d.testBit 4) (d.testBit 3) (d.testBit 2) (d.testBit 1) (d.testBit 0)
  else if base = Regs.GO_FIRE.base then goFireRow (d % 2 ^ 16) s
  else if base = Regs.GO_DISCARD.base then goDiscard (d % 2 ^ 16) s
  else if base = Regs.BDAC_CEIL_c.base then bdacRefresh s i
  else if base = Regs.CNT_SLOT_s.base then slotFresh s0 s i
  else if base = Regs.RING_LAYOUT.base then layoutTaken s
  else if base = Regs.DB_CPL_ACK.base then drainWaiting s.mgmt.waiting s
  else if base = Regs.DB_EVT_ACK.base then drainLost s
  else if base = Regs.PWR_WAKE_CFG.base then
    if s.power.mode = .intermission ∧ s.power.wakePin = true ∧ (wakeCfg s).testBit 1 = true then leaveIntermission s 2 else s
  else s

/-- A write that is not refused. -/
def writeApply (s : State) (a d : Nat) : State :=
  match target a with
  | .window => putWords s a [d]
  | .mainReg r i j =>
    if dressTested s a then s
    else
      let s1 := if reservedBits r d then bump s 0x750 1 else s
      writeAction s1 (r.fields.foldl (fun t f => fieldWrite t f i j d) s1) r.place.base i d
  | _ => s

/-! Reads. -/

/-- Of a snapshot bank until COMPLETE, whether a read returns the new or the old value is open (R293); COMPLETE itself is clear from T_s on. -/
def snapPick (s : State) (b new old : Nat) : State × Nat :=
  if bankCopying s b then (takeFree s, if Config.freeBool s.freeCount then new else old) else (s, new)

/-- The registers whose reads read memory (R289, R293, R363): the live counters and the snapshot banks. -/
def memoryWord (s : State) (iface : Iface) (base i j : Nat) : Option (State × Nat) :=
  if base = Regs.CNT_LO_i.base then some (counterLoRead iface i s)
  else if base = Regs.CNT_HI_i.base then some (s, vGet s.obs.hiLatch iface.num 0)
  else if base = Regs.SNAP_b_LO_i.base then
    let t := bankRead s i [j]
    some (snapPick t i (bankCounter t i j % 2 ^ 32) ((aGet (snapBank t i).oldValues j).getD 0 % 2 ^ 32))
  else if base = Regs.SNAP_b_HI_i.base then
    let t := bankRead s i [j]
    some (snapPick t i (bankCounter t i j / 2 ^ 32) ((aGet (snapBank t i).oldValues j).getD 0 / 2 ^ 32))
  else if base = Regs.SNAP_HDR_b_w.base then
    let t := bankRead s i [2048 + j / 2]
    let q := snapPick t i (bankHeader t i j) ((aGet (snapBank t i).oldHeader j).getD 0)
    some (q.1, if j = 0 && bankCopying t i then q.2 / 2 * 2 else q.2)
  else none

/-- A word of the window as a host reads it: what Mexis keeps in its own area has no defined meaning (R322). -/
def windowWord (s : State) (a : Nat) : State × Nat :=
  if within a (windowBase + 0x3F000) 0x1000 then (takeFree s, Config.freeNat s.freeCount % 2 ^ 32)
  else
    let t := (eccRead s 8 ((a - windowBase) / 8)).1
    (t, winRead t a)

/-- A read of a register or of a word of the window: the state, the word, and the cause of a bus error, with which the
word is 0. -/
def regRead (iface : Iface) (s : State) (a : Nat) : State × Nat × Option Nat :=
  match target a with
  | .reserved => (s, 0, some 1)
  | .window => ((windowWord s a).1, (windowWord s a).2, none)
  | .mirrorReg r i j =>
    if gatedAddr s a then (s, 0, some 7) else if dressTested s a then (s, 0, none) else (s, mirrorWord s r i j, none)
  | .mainReg r i j =>
    if gatedAddr s a then (s, 0, some 7) else if dressTested s a then (s, 0, none)
    else match memoryWord s iface r.place.base i j with
      | some x => (x.1, x.2, none)
      | none => (s, mainWord s r i j, none)

/-! Bus errors (R337, R338, R349, R353). -/

/-- The bus errors of a transaction so far: cause and address of the first, and their number. -/
structure BusErrs where
  first : Option (Nat × Nat)
  count : Nat
  deriving DecidableEq, Repr

def BusErrs.none : BusErrs := ⟨Option.none, 0⟩

def BusErrs.add (e : BusErrs) (cause a : Nat) : BusErrs := ⟨some (e.first.getD (cause, a)), e.count + 1⟩

/-- Cause, interface and address as events and REGIF_ERR_INFO lay them out. -/
def errWord (iface cause a : Nat) : Nat := iface * 2 ^ 28 + cause * 2 ^ 24 + a

/-- REGIF_ERR_INFO captures an error. -/
def errCapture (s : State) (iface cause a : Nat) : State :=
  wr (wr (wr (wr s F.REGIF_ERR_INFO_VALID 1) F.REGIF_ERR_INFO_INTERFACE iface) F.REGIF_ERR_INFO_CAUSE cause)
    F.REGIF_ERR_INFO_ADDR a

/-- LOCKED_WRITE, at most 1,000 times in a second. -/
def lockedWrite (s : State) (iface cause a : Nat) : State :=
  let r := rateStep s s.mgmt.lockedRate 1000
  let t := { s with mgmt := { s.mgmt with lockedRate := r.1 } }
  if r.2 then raiseEvent t (ev 0x8111 (locMgmt 5) (errWord iface cause a)) else t

/-- One bus error: counted, captured where nothing is held, and LOCKED_WRITE under cause 3 or 4. -/
def busError (s : State) (iface cause a : Nat) : State :=
  let s1 := bump s 0x750 1
  let s2 := if rd s1 F.REGIF_ERR_INFO_VALID = 0 then errCapture s1 iface cause a else s1
  if cause = 3 ∨ cause = 4 then lockedWrite s2 iface cause a else s2

/-- The end of a transaction: REGIF_BUS_ERR once, at most 1,000 times in a second. -/
def busReport (s : State) (iface : Nat) (e : BusErrs) : State :=
  match e.first with
  | none => s
  | some (cause, a) =>
    let r := rateStep s s.mgmt.busErrRate 1000
    let t := { s with mgmt := { s.mgmt with busErrRate := r.1 } }
    if r.2 then raiseEvent t (ev 0x8110 (locMgmt 5) (errWord iface cause a) e.count) else t

/-- A write as an interface carries it: the state and the transaction's errors. A refused write that also carries a 1 in a reserved bit counts
once, as the bus error (log entry 173). -/
def ifaceWrite (iface : Iface) (s : State) (e : BusErrs) (a d : Nat) : State × BusErrs :=
  match writeRefusal s a d with
  | some cause => (busError s iface.num cause a, e.add cause a)
  | none => (writeApply s a d, e)

/-- A read as an interface carries it. -/
def ifaceRead (iface : Iface) (s : State) (e : BusErrs) (a : Nat) : State × BusErrs × Nat :=
  match regRead iface s a with
  | (t, w, none) => (t, e, w)
  | (t, w, some cause) => (busError t iface.num cause a, e.add cause a, w)

/-- What an interface signals of one register's write by the cause of its refusal (R337): port A's acknowledgements of the address byte,
the register address and the four data bytes; the SPI slave's BUS_ERR; the core's bus fault. -/
def signalWrite (iface : Iface) (s : State) (cause : Option Nat) : State :=
  match iface with
  | .i2cA => i2cDrive s [] (if cause = some 1 then [true, true, true, false, false, false, false, false]
      else List.replicate 7 true ++ [cause.isNone])
  | .spi => { s with mgmt := { s.mgmt with
      spiBusErr := cause.isSome
      spiCrcErr := false } }
  | .core => { s with mgmt := { s.mgmt with coreFault := cause.isSome } }

/-- A transaction of one register's write. -/
def oneWrite (iface : Iface) (a d : Nat) (s : State) : State :=
  if deviceUp s then
    let r := ifaceWrite iface s .none a d
    signalWrite iface (busReport r.1 iface.num r.2) (r.2.first.map (·.1))
  else s

/-- RING_LAYOUT_WRITE (R322). -/
def execRingLayoutWrite (iface : Iface) (data : Word) (s : State) : Host.Outcome State Fault Refusal :=
  .next (oneWrite iface Regs.RING_LAYOUT.base data.toNat s)

/-- DB_CMD_WRITE (R323). -/
def execDbCmdWrite (iface : Iface) (data : Word) (s : State) : Host.Outcome State Fault Refusal :=
  .next (oneWrite iface Regs.DB_CMD.base data.toNat s)

/-- DB_CPL_ACK_WRITE (R323): completions that waited for room follow. -/
def execDbCplAckWrite (iface : Iface) (data : Word) (s : State) : Host.Outcome State Fault Refusal :=
  .next (oneWrite iface Regs.DB_CPL_ACK.base data.toNat s)

/-- DB_EVT_ACK_WRITE (R323): EVENTS_LOST follows where events were dropped. -/
def execDbEvtAckWrite (iface : Iface) (data : Word) (s : State) : Host.Outcome State Fault Refusal :=
  .next (oneWrite iface Regs.DB_EVT_ACK.base data.toNat s)

/-! Voted fields (R348). -/

/-- The address and bit lie in a voted field, at its main address or at its mirror. -/
def votedAt (a bit : Nat) : Bool :=
  let hit := fun (r : RegInfo) => r.fields.any fun f => f.voted && decide (f.lo ≤ bit) && decide (bit < f.lo + f.width)
  match target a with
  | .mainReg r _ _ => hit r
  | .mirrorReg r _ _ => hit r
  | _ => false

/-- The bit is one that is voted. -/
def votedBit : VotedBit → Bool
  | .field a bit => votedAt a.toNat bit
  | .mark k a _ => decide (a.val < bankWords k)

/-- VOTED_FIELD_UPSET: the majority stands, so that the three copies agree again in the next cycle and the state keeps one value; the
correction is counted, and TMR_FIX raised at most once in a millisecond. -/
def votedUpset (b : VotedBit) (s : State) : State :=
  if deviceUp s && votedBit b then
    let s1 := bump s 0x752 1
    let n := min 65535 (s1.mgmt.tmrSince + 1)
    if sinceNs s1 s1.mgmt.tmrLast 1000000 then
      raiseEvent { s1 with mgmt := { s1.mgmt with
        tmrLast := some s1.time.tick
        tmrSince := 0 } } (ev 0x8112 (locMgmt 5) n)
    else { s1 with mgmt := { s1.mgmt with tmrSince := n } }
  else s

def execVotedFieldUpset (b : VotedBit) (s : State) : Host.Outcome State Fault Refusal := .next (votedUpset b s)

/-! CRC-8 (R315): x^8 + x^2 + x + 1, initial value 0. -/

def crc8Shift : Nat → Nat → Nat
  | 0, c => c
  | n + 1, c => crc8Shift n (if 128 ≤ c then (c * 2 % 256) ^^^ 7 else c * 2)

def crc8 (bs : List Byte) : Nat := bs.foldl (fun c b => crc8Shift 8 (c ^^^ b.toNat)) 0

def be (bs : List Byte) : Nat := bs.foldl (fun a b => a * 256 + b.toNat) 0

/-- The next register's address. -/
def addrNext (a : Nat) : Nat := (a + 4) % 2 ^ 24

/-! I2C port A (R314, R315). -/

/-- What a burst comes to: the state, the acknowledgements, the errors, the address after the last register accessed. -/
structure Burst where
  s : State
  acks : List Bool
  errs : BusErrs
  next : Nat
  deriving DecidableEq, Repr

/-- The data bytes of a write, from an address on: `seen` are the transaction's bytes so far. -/
def i2cWriteData (pec : Bool) : Nat → List Byte → List Byte → Nat → Burst → Burst
  | 0, _, _, _, b => b
  | n + 1, bytes, seen, a, b =>
    let nacks := fun (k : Nat) => List.replicate (bytes.length - k) false
    match bytes with
    | [] => b
    | _ :: _ =>
      if reservedAddr a then
        ⟨busError b.s 0 1 a, b.acks ++ nacks 0, b.errs.add 1 a, b.next⟩
      else if bytes.length < 4 then { b with acks := b.acks ++ List.replicate bytes.length true }
      else
        let d := be (bytes.take 4)
        match writeRefusal b.s a d with
        | some cause => ⟨busError b.s 0 cause a, b.acks ++ [true, true, true, false] ++ nacks 4, b.errs.add cause a, addrNext a⟩
        | none =>
          if pec then
            match bytes.drop 4 with
            | [] => { b with acks := b.acks ++ [true, true, true, true] }
            | p :: rest =>
              if crc8 (seen ++ bytes.take 4) = p.toNat then
                i2cWriteData pec n rest (seen ++ bytes.take 5) (addrNext a)
                  ⟨writeApply b.s a d, b.acks ++ List.replicate 5 true, b.errs, addrNext a⟩
              else ⟨busError b.s 0 8 a, b.acks ++ List.replicate 4 true ++ nacks 4, b.errs.add 8 a, b.next⟩
          else i2cWriteData pec n (bytes.drop 4) seen (addrNext a)
            ⟨writeApply b.s a d, b.acks ++ List.replicate 4 true, b.errs, addrNext a⟩

/-- An address byte: seven bits and R/W. -/
def addressByte (addr : Nat) (read : Bool) : Byte := BitVec.ofNat 8 (addr * 2 + b2n read)

/-- A burst's end. -/
def i2cEnd (b : Burst) (out : List Byte) : State :=
  let t := busReport b.s 0 b.errs
  i2cDrive { t with mgmt := { t.mgmt with i2cNext := b.next } } out b.acks

/-- A write transaction: the address byte, three register-address bytes and data bytes. -/
def i2cWrite (addr : Nat) (data : List Byte) (s : State) : State :=
  if deviceUp s = false then stageDoorWrite addr data.length s
  else if addr ≠ portAddress s then i2cDrive s [] (List.replicate (data.length + 1) false)
  else if data.length < 3 then i2cDrive s [] (List.replicate (data.length + 1) true)
  else
    let a := be (data.take 3)
    let rest := data.drop 3
    if reservedAddr a then
      i2cEnd ⟨busError s 0 1 a, [true, true, true, false] ++ List.replicate rest.length false, BusErrs.none.add 1 a, s.mgmt.i2cNext⟩ []
    else
      i2cEnd (i2cWriteData (rd s F.REGIF_CTRL_PEC_A == 1) rest.length rest (addressByte addr false :: data.take 3) a
        ⟨s, List.replicate 4 true, .none, s.mgmt.i2cNext⟩) []

/-- I2C_A_WRITE: the 7-bit address and the bytes after it. -/
def execI2cAWrite (addr : BitVec 7) (data : List Byte) (s : State) : Host.Outcome State Fault Refusal :=
  .next (i2cWrite addr.toNat data s)

/-- Registers read in a row: the state, the bytes with their check bytes, the errors. `seen` are the transaction's bytes so
far, which the check byte covers; on the SPI slave it covers the data bytes only. -/
def readRun (iface : Iface) (crc : Bool) : Nat → Nat → List Byte → State → BusErrs → State × List Byte × BusErrs
  | 0, _, _, s, e => (s, [], e)
  | n + 1, a, seen, s, e =>
    let r := ifaceRead iface s e a
    let four := bytesOf 4 r.2.2
    let p : Byte := BitVec.ofNat 8 (crc8 (seen ++ four))
    let unit := if crc then four ++ [p] else four
    let q := readRun iface crc n (addrNext a) (seen ++ (if iface = .spi then four else unit)) r.1 r.2.1
    (q.1, unit ++ q.2.1, q.2.2)

/-- Registers that so many data bytes reach. -/
def registersIn (count : Nat) (crc : Bool) : Nat := if crc then (count + 4) / 5 else (count + 3) / 4

/-- A read transaction: with `set`, the three register-address bytes and a repeated START; the master takes `count` bytes. -/
def i2cRead (addr : Nat) (set : Option (List Byte)) (count : Nat) (s : State) : State :=
  if deviceUp s = false then stageDoorRead addr count s
  else if addr ≠ portAddress s then i2cDrive s [] [false]
  else
    let pec := rd s F.REGIF_CTRL_PEC_A == 1
    let n := registersIn count pec
    let go := fun (a : Nat) (seen : List Byte) (acks : List Bool) =>
      let r := readRun .i2cA pec n a (seen ++ [addressByte addr true]) s .none
      i2cEnd ⟨r.1, acks ++ [true], r.2.2, (a + 4 * n) % 2 ^ 24⟩ (r.2.1.take count)
    match set with
    | none => go s.mgmt.i2cNext [] []
    | some bs =>
      let a := be bs
      if reservedAddr a then
        i2cEnd ⟨busError s 0 1 a, [true, true, true, false], BusErrs.none.add 1 a, s.mgmt.i2cNext⟩ []
      else go a (addressByte addr false :: bs) [true, true, true, true]

/-- I2C_A_READ. -/
def execI2cARead (addr : BitVec 7) (reg : Option (BitVec 24)) (count : Nat) (s : State) : Host.Outcome State Fault Refusal :=
  .next (i2cRead addr.toNat (reg.map fun a => bytesOf 3 a.toNat) count s)

/-! The SPI slave (R316, R317). -/

/-- The status byte. -/
def spiStatus (s : State) : Byte :=
  BitVec.ofNat 8 (rd s F.RING_STATUS_READY * 2 ^ 7 + b2n (intAsserted s) * 2 ^ 6 + b2n (alarmAsserted s) * 2 ^ 5 +
    b2n s.mgmt.spiCrcErr * 4 + b2n s.mgmt.spiBusErr * 2 + 1)

/-- A transaction's end: what SDO carried, and what the next status byte reports. -/
def spiEnd (s : State) (out : List Byte) (crcErr busErr : Bool) : State :=
  { s with mgmt := { s.mgmt with
    spiOut := out
    spiCrcErr := crcErr
    spiBusErr := busErr } }

/-- What the data of a WRITE come to: the state, the errors, a CRC mismatch. -/
structure SpiRun where
  s : State
  errs : BusErrs
  crcErr : Bool
  deriving DecidableEq, Repr

/-- The data bytes of a WRITE, register by register; a mismatch discards the rest. -/
def spiWriteData (crc : Bool) : Nat → List Byte → List Byte → Nat → SpiRun → SpiRun
  | 0, _, _, _, x => x
  | n + 1, bytes, seen, a, x =>
    let size := if crc then 5 else 4
    if bytes.length < size then x
    else
      let four := bytes.take 4
      if crc && decide (crc8 (seen ++ four) ≠ be ((bytes.drop 4).take 1)) then
        ⟨busError x.s 1 8 a, x.errs.add 8 a, true⟩
      else
        let r := ifaceWrite .spi x.s x.errs a (be four)
        spiWriteData crc n (bytes.drop size) (seen ++ four) (addrNext a) ⟨r.1, r.2, false⟩

/-- SPI_WRITE: the bytes after the command byte 0x02. -/
def spiWrite (data : List Byte) (s : State) : State :=
  if deviceUp s = false then spiEnd s [] false false
  else if data.length < 3 then spiEnd s [spiStatus s] false false
  else
    let x := spiWriteData (rd s F.REGIF_CTRL_CRC_SPI == 1) data.length (data.drop 3) (0x02 :: data.take 3) (be (data.take 3))
      ⟨s, .none, false⟩
    spiEnd (busReport x.s 1 x.errs) [spiStatus s] x.crcErr x.errs.first.isSome

def execSpiWrite (data : List Byte) (s : State) : Host.Outcome State Fault Refusal := .next (spiWrite data s)

/-- SPI_READ: the command byte 0x03, an address, and `count` bytes. -/
def spiRead (a count : Nat) (s : State) : State :=
  if deviceUp s = false then spiEnd s [] false false
  else
    let crc := rd s F.REGIF_CTRL_CRC_SPI == 1
    let r := readRun .spi crc (registersIn count crc) a (0x03 :: bytesOf 3 a) s .none
    spiEnd (busReport r.1 1 r.2.2) (spiStatus s :: r.2.1.take count) false r.2.2.first.isSome

def execSpiRead (addr : BitVec 24) (count : Nat) (s : State) : Host.Outcome State Fault Refusal :=
  .next (spiRead addr.toNat count s)

/-- SPI_STATUS: a transaction that ends with its command byte; any but WRITE, READ and STATUS reports BUS_ERR. -/
def spiStatusRow (cmd : Nat) (s : State) : State :=
  if deviceUp s = false then spiEnd s [] false false
  else spiEnd s [spiStatus s] false (!(cmd == 0x02 || cmd == 0x03 || cmd == 0x05))

def execSpiStatus (cmd : Byte) (s : State) : Host.Outcome State Fault Refusal := .next (spiStatusRow cmd.toNat s)

end Sys2Proof.Machine
end

