-- ==== Sys2Proof/Machine/Cycle.lean ====
section
/-! DEFINITION. One cycle of the register file (R342, R344, R351): at most one access of each interface, the firings joined, reads of what
stood before, writes in the interfaces' order, and the captures that collide with a write. -/

namespace Sys2Proof.Machine

open Sys2Proof

/-- An access of one interface in a cycle: a write of these data, or a read. -/
structure BusAccess where
  iface : Iface
  addr : Nat
  data : Option Nat
  deriving DecidableEq, Repr

/-- What an interface gets: the word read, and the cause of a bus error. -/
structure BusAnswer where
  acc : BusAccess
  word : Nat
  cause : Option Nat
  deriving DecidableEq, Repr

def Beside.access : Beside → Option BusAccess
  | .write i a d => some ⟨i, a.toNat, some d.toNat⟩
  | .read i a => some ⟨i, a.toNat, none⟩
  | _ => none

def Beside.clock : Beside → Option (Nat × Dir)
  | .cue p d => some (p.val, d)
  | _ => none

def Beside.found : Beside → Option (Nat × Nat × Bool)
  | .lostWord k a scrub => some (k.val, a.val, scrub)
  | _ => none

/-- The accesses of a cycle: one of each interface, in the order port A, SPI, core (R344). -/
def oneEach (xs : List BusAccess) : List BusAccess := [Iface.i2cA, .spi, .core].filterMap fun i => xs.find? (·.iface == i)

/-- The data that the cycle's accepted writes carry to a register. -/
def cycleData (s : State) (xs : List BusAccess) (base : Nat) : List Nat :=
  xs.filterMap fun x => match x.data, target x.addr with
    | some d, .mainReg r _ _ =>
      if r.place.base = base ∧ writeRefusal s x.addr d = none ∧ dressTested s x.addr = false then some d else none
    | _, _ => none

/-- The captures that the cycle's writes re-arm: a write of 0 to VALID (R340). -/
def rearm (s : State) (xs : List BusAccess) : State :=
  let hit := fun base => (cycleData s xs base).any fun d => !d.testBit 31
  let s1 := if hit Regs.REGIF_ERR_INFO.base then wr s F.REGIF_ERR_INFO_VALID 0 else s
  if hit Regs.MEM_ERR_INFO.base then wr s1 F.MEM_ERR_INFO_VALID 0 else s1

/-- A capture register, whose VALID the cycle's writes have re-armed before its reads take place here. -/
def isCapture (a : Nat) : Bool := a == Regs.REGIF_ERR_INFO.base || a == Regs.MEM_ERR_INFO.base

/-- A read of the cycle; `s0` stood before it, and captures read as they stood there. -/
def cycleRead (s0 : State) (q : State × List BusAnswer) (x : BusAccess) : State × List BusAnswer :=
  let r := ifaceRead x.iface q.1 .none x.addr
  let w := if isCapture x.addr then (regRead x.iface s0 x.addr).2.1 else r.2.2
  (r.1, q.2 ++ [⟨x, w, r.2.1.first.map (·.1)⟩])

/-- The data of a write whose firing or re-arming the cycle has done already: a mask of 0, a VALID of 1. -/
def dataDone (a d : Nat) : Nat :=
  if a = Regs.GO_FIRE.base then d / 2 ^ 16 * 2 ^ 16 else if isCapture a then d ||| 2 ^ 31 else d

/-- A write of the cycle. -/
def cycleWrite (q : State × List BusAnswer) (x : BusAccess) : State × List BusAnswer :=
  match x.data with
  | none => q
  | some d =>
    let cause := writeRefusal q.1 x.addr d
    (match cause with
      | some c => busError q.1 x.iface.num c x.addr
      | none => writeApply q.1 x.addr (dataDone x.addr d), q.2 ++ [⟨x, 0, cause⟩])

/-- An uncorrectable word is found in the cycle (R363). -/
def lostFound (s : State) (w : Nat × Nat × Bool) : State :=
  if deviceUp s && wordValid s w.1 w.2.1 && !isPoisoned s w.1 w.2.1 && eccDecode (wordErrs s w.1 w.2.1) == .uncorr then
    ownerAction (reportUncorr s w.1 w.2.1 w.2.2) w.1 w.2.1
  else s

/-- Collisions of R351: the writes that carried a VALID which a capture of the same cycle set. `s1` stood after the re-arming. -/
def collide (s0 s1 s : State) (xs : List BusAccess) : State :=
  let one := fun (t : State) (e : RegPlace × Field) =>
    if rd s1 e.2 = 0 ∧ rd t e.2 = 1 then bump t 0x751 (cycleData s0 xs e.1.base).length else t
  one (one s (Regs.REGIF_ERR_INFO, F.REGIF_ERR_INFO_VALID)) (Regs.MEM_ERR_INFO, F.MEM_ERR_INFO_VALID)

/-- What an interface signals of a read of one register (R314, R316, R337). -/
def signalRead (s : State) (a : BusAnswer) : State :=
  match a.acc.iface with
  | .i2cA => if a.cause = some 1 then i2cDrive s [] [true, true, true, false]
    else i2cDrive s (bytesOf 4 a.word) [true, true, true, true, true]
  | .spi => spiEnd s (spiStatus s :: bytesOf 4 a.word) false a.cause.isSome
  | .core => { s with mgmt := { s.mgmt with
      coreFault := a.cause.isSome
      readOut := BitVec.ofNat 32 a.word } }

/-- An access ends: REGIF_BUS_ERR, and what its interface signals. -/
def cycleEnd (s : State) (a : BusAnswer) : State :=
  let e := match a.cause with
    | some c => BusErrs.none.add c a.acc.addr
    | none => .none
  let t := busReport s a.acc.iface.num e
  if a.acc.data.isSome then signalWrite a.acc.iface t a.cause else signalRead t a

/-- A cycle: re-arming, reads, the joined firing, words found lost, writes, collisions, signals. -/
def cycle (mask : Nat) (accs : List BusAccess) (cues : List (Nat × Dir)) (words : List (Nat × Nat × Bool)) (s : State) : State :=
  let xs := if deviceUp s then oneEach accs else []
  let s1 := rearm s xs
  let q := (xs.filter (·.data.isNone)).foldl (cycleRead s) (s1, [])
  let s2 := joinedFire ((cycleData s xs Regs.GO_FIRE.base).foldl (fun m d => m ||| d % 2 ^ 16) mask) cues q.1
  let r := xs.foldl cycleWrite (words.foldl lostFound s2, q.2)
  r.2.foldl cycleEnd (collide s s1 r.1 xs)

/-- A cycle with an access of its own, or a mask of GO_FIRE, or a clock that reaches its triggers, and what falls beside it. -/
def cycleWith (mask : Nat) (own : List BusAccess) (cues : List (Nat × Dir)) (beside : List Beside) (s : State) : State :=
  cycle mask (own ++ beside.filterMap Beside.access) (cues ++ beside.filterMap Beside.clock).eraseDups (beside.filterMap Beside.found) s

/-- CUE_FIRE: a port's show clock has reached the trigger of one or more entries. -/
def execCueFire (port : Fin 8) (d : Dir) (beside : List Beside) (s : State) : Host.Outcome State Fault Refusal :=
  .next (cycleWith 0 [] [(port.val, d)] beside s)

/-- GO_FIRE (R342). -/
def execGoFire (mask : BitVec 16) (beside : List Beside) (s : State) : Host.Outcome State Fault Refusal :=
  .next (cycleWith mask.toNat [] [] beside s)

/-- A write of one register with what falls in its cycle. -/
def writeBeside (iface : Iface) (a d : Nat) (beside : List Beside) (s : State) : State :=
  if beside.isEmpty then oneWrite iface a d s else cycleWith 0 [⟨iface, a, some d⟩] [] beside s

/-- REGISTER_WRITE. -/
def execRegisterWrite (iface : Iface) (addr : BitVec 24) (data : Word) (beside : List Beside) (s : State) :
    Host.Outcome State Fault Refusal :=
  .next (writeBeside iface addr.toNat data.toNat beside s)

/-- REGIF_ERR_INFO_REARM: a write of 0 to VALID; a bus error of another interface in the same cycle is captured, and stands (R351). -/
def execRegifErrInfoRearm (iface : Iface) (beside : List Beside) (s : State) : Host.Outcome State Fault Refusal :=
  .next (cycleWith 0 [⟨iface, Regs.REGIF_ERR_INFO.base, some 0⟩] [] beside s)

/-- MEM_ERR_INFO_REARM: an uncorrectable word found in the same cycle is captured, and stands (R351). -/
def execMemErrInfoRearm (iface : Iface) (beside : List Beside) (s : State) : Host.Outcome State Fault Refusal :=
  .next (cycleWith 0 [⟨iface, Regs.MEM_ERR_INFO.base, some 0⟩] [] beside s)

end Sys2Proof.Machine
end

