-- ==== Sys2Proof/Machine/Mgmt.lean ====
section
/-! DEFINITION. Management (chapter 16): the device commands, the start of Mexis with the settings (R50, R431, R432), and the CMIS
service port (R320, R321). -/

namespace Sys2Proof.Machine

open Sys2Proof

/-! Device commands (R328, R333, R334). -/

/-- The opcodes that R333 defines. -/
def definedOpcodes : List Nat :=
  [0x0101, 0x0102, 0x0201, 0x0240, 0x0241, 0x0250, 0x0260, 0x0301, 0x0302, 0x0303, 0x0304, 0x0310, 0x0311, 0x0320, 0x0321,
   0x0322, 0x0323, 0x0324, 0x0330, 0x0331, 0x0332, 0x0401, 0x0402, 0x0403, 0x0501, 0x0502, 0x0503, 0x0504, 0x0505, 0x0506] ++
  [0x0510, 0x0511, 0x0512, 0x0601, 0x0602, 0x0603, 0x0604, 0x0605, 0x0701, 0x0702, 0x0703, 0x0704, 0x0705, 0x0706, 0x0707,
   0x0801, 0x0802, 0x0803, 0x0804, 0x0805, 0x0901, 0x0902, 0x0910, 0x0911, 0x0912, 0x0A01, 0x0A02, 0x0B01, 0x0B02, 0x0B03] ++
  [0x0B04, 0x0C01, 0x0C02, 0x0C03, 0x0C10, 0x0C11, 0x0C12, 0x0C13, 0x0C20, 0x0C21, 0x0C22, 0x0C23, 0x0C24, 0x0C30, 0x0D01,
   0x0D02, 0x0D03, 0x0D04]

/-- UNDEFINED_OPCODE (R328): E_OPCODE comes before any other check; in recovery, E_STATE (R428). -/
def undefinedOpcode (c : Cmd) (opcode : Nat) (s0 : State) : State :=
  if definedOpcodes.contains opcode then s0
  else
    let s := offer s0 opcode c
    if consumes s opcode c then
      let t := slotRead s
      if slotUncorr s then finish opcode c t (.done stHwFault 0x0A01 0 0)
      else finish opcode c t (.done (if s.sec.recovery then stState else stOpcode) 0 0 0)
    else s

def execUndefinedOpcode (c : Cmd) (opcode : BitVec 16) (s : State) : Host.Outcome State Fault Refusal :=
  .next (undefinedOpcode c opcode.toNat s)

/-- What DEV_NOP returns: the version of the running image, whose header has it in this layout (R424). -/
def mexisVersion (s : State) : Nat :=
  if s.sec.running.isSome then imgVersion (runningHeader s) else Config.mexisVersion.toNat

/-- DEV_NOP's own part. -/
def devNop (s : State) : State × Reply := (s, .done stOK 0 (mexisVersion s) 0)

def execDevNop (c : Cmd) (s : State) : Host.Outcome State Fault Refusal := .next (hostCmd 0x0101 [] noGate c devNop s)

/-- EVENTS_LOST (R330). -/
def execEventsLost (s : State) : Host.Outcome State Fault Refusal := .next (drainLost s)

/-! The CMIS shadow (R320, R321). -/

def shadowBase : Nat := windowBase + 0x20000

/-- The place of a page in the shadow, among those served: an unbanked page has bank 0 only (log entry 117). -/
def pagePlace (page bank : Nat) : Option Nat :=
  match page, bank with
  | 0x00, 0 => some 0
  | 0x01, 0 => some 1
  | 0x02, 0 => some 2
  | 0x10, 0 => some 3
  | 0x10, 1 => some 4
  | 0x11, 0 => some 5
  | 0x11, 1 => some 6
  | _, _ => none

/-- The shadow offset of a byte address under the selected page and bank. -/
def cmisOffset (page bank a : Nat) : Option Nat :=
  if a < 128 then some a else (pagePlace page bank).map fun k => 128 * (k + 1) + (a - 128)

/-- CMIS_LOAD's range: the first shadow offset, where page, bank and bytes are inside R321. -/
def loadOffset (c : Cmd) : Option Nat :=
  let w := c.w 2
  if c.w 4 = 0 ∨ 256 < c.w 4 then none
  else if w.testBit 9 then if c.w 3 + c.w 4 ≤ 128 then some (c.w 3) else none
  else if 128 ≤ c.w 3 ∧ c.w 3 + c.w 4 ≤ 256 then cmisOffset (w % 256) (w / 256 % 2) (c.w 3) else none

/-- CMIS_LOAD's own part. -/
def cmisLoad (c : Cmd) : State → State × Reply :=
  withChecks (fun s =>
      [(c.w 5 % 4 != 0, stParam, 5), ((loadOffset c).isNone || bulkBad s (c.w 5) (c.w 4), stRange, 0),
       (rd s F.RING_LAYOUT_CMIS_EN == 0, stState, 0)])
    fun s =>
      let r := fetchWords s (windowBase + c.w 5) ((c.w 4 + 3) / 4)
      (putBytes r.1 (shadowBase + (loadOffset c).getD 0) ((wordsBytes r.2).take (c.w 4)), .done stOK 0 0 0)

def execCmisLoad (c : Cmd) (s : State) : Host.Outcome State Fault Refusal :=
  .next (hostCmd 0x0102 [(2, 0x3FF), (3, 0xFF), (4, 2 ^ 32 - 1), (5, 2 ^ 32 - 1)] noGate c (cmisLoad c) s)

/-- Port B answers: CMIS_EN, the address 0x50, and a device that is up (R320). -/
def portBAnswers (s : State) (addr : Nat) : Bool := deviceUp s && rd s F.RING_LAYOUT_CMIS_EN == 1 && addr == 0x50

/-- What port B drives. -/
def cmisDrive (s : State) (out : List Byte) (acks : List Bool) : State :=
  { s with mgmt := { s.mgmt with
    cmisOut := out
    cmisAcks := acks } }

/-- The next byte address: each half of the 256 rolls over in itself (log entry 117). -/
def cmisAfter (a : Nat) : Nat := if a = 127 then 0 else if a = 255 then 128 else a + 1

/-- A byte as port B reads it: the selects, a byte of the shadow, or 0 outside the pages served. -/
def cmisByte (s : State) (a : Nat) : State × Byte :=
  if a = 126 then (s, BitVec.ofNat 8 s.mgmt.cmisBank)
  else if a = 127 then (s, BitVec.ofNat 8 s.mgmt.cmisPage)
  else match cmisOffset s.mgmt.cmisPage s.mgmt.cmisBank a with
    | none => (s, 0)
    | some o =>
      let r := eccRead s 8 ((0x20000 + o) / 8)
      (r.1, if r.2 then 0 else winByte r.1.mgmt.window (shadowBase + o))

/-- Bytes read in a row. -/
def cmisRun : Nat → Nat → State → State × List Byte × Nat
  | 0, a, s => (s, [], a)
  | n + 1, a, s =>
    let r := cmisByte s a
    let q := cmisRun n (cmisAfter a) r.1
    (q.1, r.2 :: q.2.1, q.2.2)

/-- CMIS_PORT_B_READ: with a byte address, or on from the last one. -/
def cmisRead (addr : Nat) (reg : Option Nat) (count : Nat) (s : State) : State :=
  if portBAnswers s addr then
    let r := cmisRun count (reg.getD s.mgmt.cmisNext) s
    cmisDrive { r.1 with mgmt := { r.1.mgmt with cmisNext := r.2.2 } } r.2.1
      (if reg.isSome then [true, true, true] else [true])
  else cmisDrive s [] [false]

def execCmisPortBRead (addr : BitVec 7) (reg : Option Byte) (count : Nat) (s : State) : Host.Outcome State Fault Refusal :=
  .next (cmisRead addr.toNat (reg.map (·.toNat)) count s)

/-- One byte written: a select acts at once; a writable byte is stored and logged, or NACKed while the log is full; any other is
discarded. Discards and NACKs are counted (R338). -/
def cmisPut (s : State) (a : Nat) (v : Byte) : State × Bool :=
  if a = 126 then ({ s with mgmt := { s.mgmt with cmisBank := v.toNat } }, true)
  else if a = 127 then ({ s with mgmt := { s.mgmt with cmisPage := v.toNat } }, true)
  else match cmisOffset s.mgmt.cmisPage s.mgmt.cmisBank a with
    | none => (bump s 0x750 1, true)
    | some o =>
      if s.mgmt.cmisWritable.contains o then
        if s.mgmt.cmisLog.length < 256 then
          let t := putBytes s (shadowBase + o) [v]
          ({ t with mgmt := { t.mgmt with cmisLog := t.mgmt.cmisLog ++ [⟨o, v⟩] } }, true)
        else (bump s 0x750 1, false)
      else (bump s 0x750 1, true)

/-- Bytes written in a row. -/
def cmisPuts : List Byte → Nat → State → State × List Bool × Nat
  | [], a, s => (s, [], a)
  | v :: vs, a, s =>
    let r := cmisPut s a v
    let q := cmisPuts vs (cmisAfter a) r.1
    (q.1, r.2 :: q.2.1, q.2.2)

/-- CMIS_PORT_B_WRITE. -/
def cmisWrite (addr reg : Nat) (data : List Byte) (s : State) : State :=
  if portBAnswers s addr then
    let r := cmisPuts data reg s
    cmisDrive { r.1 with mgmt := { r.1.mgmt with cmisNext := r.2.2 } } [] (true :: true :: r.2.1)
  else cmisDrive s [] (List.replicate (data.length + 2) false)

def execCmisPortBWrite (addr : BitVec 7) (reg : Byte) (data : List Byte) (s : State) : Host.Outcome State Fault Refusal :=
  .next (cmisWrite addr.toNat reg.toNat data s)

/-- A byte of page 10h: its bank and its place in the page (R321). -/
def controlPlace (o : Nat) : Option (Nat × Nat) :=
  [0, 1].findSome? fun b => (pagePlace 0x10 b).bind fun k =>
    if 128 * (k + 1) ≤ o ∧ o < 128 * (k + 2) then some (b, o - 128 * (k + 1)) else none

/-- A staged change that Mexis makes of a logged write to bank b, whose lane i is host lane 8b + i (R189, R321). Tx disable drives a line
lane; that it is line lane i of bank 0, and none of bank 1, is the model's choice (log entry 117). -/
def cmisStage (b : Nat) (s : State) (x : CmisAct) : State :=
  match x with
  | .pre i v => wr s F.HSL_TX_CTRL_PRE v (8 * b + i)
  | .post i v => wr s F.HSL_TX_CTRL_POST v (8 * b + i)
  | .amp i v => wr s F.HSL_TX_CTRL_AMP v (8 * b + i)
  | .rxDisable i off => wrB s F.HSL_TX_CTRL_IDLE off (8 * b + i)
  | .txDisable i off => if b = 0 then wrB s F.LTX_CTRL_IDLE off i else s

/-- The GO group of the lane that a change touches. -/
def cmisGroup (b : Nat) (s : State) (x : CmisAct) : Option Nat :=
  match x with
  | .pre i _ => some (rd s F.HSL_GO_GO_GROUP (8 * b + i))
  | .post i _ => some (rd s F.HSL_GO_GO_GROUP (8 * b + i))
  | .amp i _ => some (rd s F.HSL_GO_GO_GROUP (8 * b + i))
  | .rxDisable i _ => some (rd s F.HSL_GO_GO_GROUP (8 * b + i))
  | .txDisable i _ => if b = 0 then some (rd s F.LRX_GO_GO_GROUP i) else none

/-- The changes of a bank are staged and their lanes' groups fired. -/
def cmisAct (b : Nat) (acts : List CmisAct) (s : State) : State :=
  let t := acts.foldl (cmisStage b) s
  match acts.filterMap (cmisGroup b t) with
  | [] => t
  | gs => goFireRow (gs.foldl (fun m g => m ||| 2 ^ g) 0) t

/-- CMIS_LOG_APPLY: the oldest entry; of the pages served only 10h controls lanes (R189, R321). -/
def cmisApply (s : State) : State :=
  match s.mgmt.cmisLog with
  | [] => s
  | e :: rest =>
    if mexisRuns s && ready s then
      let t := { s with mgmt := { s.mgmt with cmisLog := rest } }
      match controlPlace e.byteAt with
      | some (b, k) => cmisAct b (Config.cmisActs k e.value) t
      | none => t
    else s

def execCmisLogApply (s : State) : Host.Outcome State Fault Refusal := .next (cmisApply s)

/-- HSL_STATUS of a host lane as a word. -/
def hslStatus (s : State) (n : Nat) : Nat :=
  [F.HSL_STATUS_PI_CODE, F.HSL_STATUS_CTLE_CODE, F.HSL_STATUS_VGA_CODE, F.HSL_STATUS_EQ_STATE, F.HSL_STATUS_TX_BURST, F.HSL_STATUS_TX_IDLE,
   F.HSL_STATUS_TRAINING, F.HSL_STATUS_TRAINED, F.HSL_STATUS_VALID, F.HSL_STATUS_LOL, F.HSL_STATUS_LOS].foldl
    (fun a f => a + rd s f n * 2 ^ f.lo) 0

/-- The eight host lanes of a bank: HSL_STATUS and the state of the lane's port, 0 of a lane in none. -/
def bankLanes (s : State) (b : Nat) : List (Nat × Nat) :=
  (List.range 8).map fun i => (hslStatus s (8 * b + i), match lanePort s (hostOf (8 * b + i)) with
    | some p => linkState s p
    | none => 0)

/-- The bytes that Mexis keeps in page 01h and in both banks of page 11h (R321), by shadow offset. -/
def keptBytes (s : State) : List (Nat × Byte) :=
  let page := fun (k : Option Nat) (f : Nat → Byte) => match k with
    | some k => (List.range 128).map fun a => (128 * (k + 1) + a, f a)
    | none => []
  page (pagePlace 0x01 0) Config.cmisAdvert ++
    [0, 1].flatMap fun b => page (pagePlace 0x11 b) fun a => Config.cmisLanes a (bankLanes s b)

/-- CMIS_SHADOW_REFRESH: the lower memory's bytes as Mexis finds them, the advertisement, and the lanes' states (R321). -/
def shadowRefresh (bytes : List (Nat × Byte)) (writable : List Nat) (s : State) : State :=
  if mexisRuns s && ready s && rd s F.RING_LAYOUT_CMIS_EN == 1 then
    let t := (keptBytes s ++ bytes.filter (·.1 < 128)).foldl (fun t e => putBytes t (shadowBase + e.1) [e.2]) s
    { t with mgmt := { t.mgmt with cmisWritable := writable } }
  else s

def execCmisShadowRefresh (bytes : List (BitVec 16 × Byte)) (writable : List (BitVec 16)) (s : State) :
    Host.Outcome State Fault Refusal :=
  .next (shadowRefresh (bytes.map fun e => (e.1.toNat, e.2)) (writable.map (·.toNat)) s)

/-! The start of Mexis (R50, R312, R332, R420, R431, R432). -/

/-- The settings cache is read with its codes (R357); where a word of it is lost, the block is reloaded from the flash (R363, bank 11). -/
def cacheRead (s : State) : State :=
  match s.sec.cache with
  | none => s
  | some b =>
    let struck := (List.range ((16 + b.length + 7) / 8)).filter fun a => (aGet (bankOf s 11).errs a).isSome || (bankOf s 11).poison.contains a
    let r := eccReadAll s 11 struck
    if r.2 then { r.1 with sec := { r.1.sec with cache := none } } else r.1

/-- The block that the settings cache holds, loaded from the flash where the cache is empty. -/
def cachedBlock (s : State) : Option SettingsBlock :=
  match s.sec.cache with
  | some b => some b
  | none => (blockInForce s).map (·.2)

/-- The fields that an older block gives up: those that cannot be translated take their defaults. -/
def translated (b : SettingsBlock) (lost : List Nat) : SettingsBlock :=
  { b with
    eff := b.eff.filter fun e => !lost.contains e.1
    fld := b.fld.filter fun e => !lost.contains e.1 }

/-- Some field of the block cannot be translated. -/
def someLost (b : SettingsBlock) (lost : List Nat) : Bool := (b.eff ++ b.fld).any fun e => lost.contains e.1

/-- RING_LAYOUT is written where the settings hold a layout and the register is unspent (R322, R349). -/
def layoutRestore (s : State) (b : SettingsBlock) : State :=
  if b.layout && !s.mgmt.layoutSpent then
    match findReg Regs.RING_LAYOUT.base with
    | some (r, _) =>
      let q := ifaceWrite .core s .none Regs.RING_LAYOUT.base (storedWord { s with fld := b.fld } r 0 0)
      busReport q.1 Iface.core.num q.2
    | none => s
  else s

/-- The ceilings that are not locked take the block's values and locks. -/
def ceilRestore (s : State) (b : SettingsBlock) : State :=
  (List.range 32).foldl (fun t c =>
    if rd t F.BDAC_CEIL_c_LOCK c = 1 then t
    else bdacRefresh (wr (wr t F.BDAC_CEIL_c_CODE_MAX (fGet b.fld F.BDAC_CEIL_c_CODE_MAX c 0) c) F.BDAC_CEIL_c_LOCK
      (fGet b.fld F.BDAC_CEIL_c_LOCK c 0) c) c) s

/-- Alarm actions are raised as the settings ask, and LOCK is set at the end of the start (R420). -/
def alarmRestore (s : State) (b : Option SettingsBlock) : State :=
  if rd s F.SEC_ALARM_CFG_LOCK = 1 then s
  else
    let up := fun (t : State) (f : Field) => match b with
      | some x => wr t f (max (rd t f) (fGet x.fld f 0 0))
      | none => t
    wr ([F.SEC_ALARM_CFG_VGLITCH, F.SEC_ALARM_CFG_CGLITCH, F.SEC_ALARM_CFG_TEMP, F.SEC_ALARM_CFG_DEBUG,
      F.SEC_ALARM_CFG_AUTH_FAIL].foldl up s) F.SEC_ALARM_CFG_LOCK 1

/-- The block's values are staged, each RS field the block holds at its reset value included (R50). -/
def settingsStage (s : State) (b : SettingsBlock) : State := { s with fld := overlay (s.fld.filter fun e => !keyIsRs e.1) b.eff }

/-- The GO groups of what is staged: those that hold a block instance. -/
def settingsGroups (s : State) : Nat := maskOf 16 fun g => goInsts.any fun x => x.groupOf s == g

/-- The block's configuration is staged and its GO groups fired (R50), all as one firing: whether Mexis fires them together or one by one is
open (log entry 161). -/
def settingsApply (s : State) (b : SettingsBlock) : State :=
  let s1 := settingsStage (ceilRestore (layoutRestore s b) b) b
  goFireRow (settingsGroups s1) s1

/-- What the start found of the settings, for the events that follow READY. -/
inductive SettingsFound where
  | same
  | newer (format : Nat)
  | older (m : Migration)
  | partly
  deriving DecidableEq, Repr

/-- The format of the block in force against Mexis's own (R432). -/
def settingsFound (b : Option SettingsBlock) (m : MexisStart) : SettingsFound :=
  match b with
  | none => .same
  | some x =>
    if x.format = m.format.toNat then .same
    else if m.format.toNat < x.format then .newer x.format
    else if someLost x m.lost then .partly else .older ⟨x.format, m.verified⟩

/-- The block as it is applied: none where it is newer. -/
def settingsUsed (b : Option SettingsBlock) (m : MexisStart) : Option SettingsBlock :=
  match settingsFound b m with
  | .newer _ => none
  | .same => b
  | _ => b.map fun x => translated x m.lost

/-- The start-up CAL_RUN (R245): the powered instances that have no valid set. -/
def startupCal (s : State) : State :=
  let none' := fun (t : CalTarget) (i : Nat) => setsMask s t i == 0
  let x : CalSet := ⟨0,
    maskOf 8 fun n => lanePowered s (lineOf n) && none' .lineSlices n,
    maskOf 8 fun n => lanePowered s (lineOf n) && none' .dacSkew n,
    maskOf 16 fun n => (allHost.any fun l => l.num == n && lanePowered s l) && none' .hostSlices n,
    maskOf 32 (none' .biasDacs), maskOf 24 (none' .senseChans)⟩
  let t := (if x.line = 0 then 0 else 1) + (if x.skew = 0 then 0 else 4) + (if x.host = 0 then 0 else 2) + (if x.bdac = 0 then 0 else 8) +
    (if x.sense = 0 then 0 else 16)
  if t = 0 ∨ s.cal.run.isSome = true then s else calStart s 0 { x with targets := t }

/-- Settings at a start that applies them: after every reset but MGMT. -/
def settingsStart (s0 : State) (m : MexisStart) : State :=
  if s0.sec.applyDue then
    let s := cacheRead s0
    let b := cachedBlock s
    let u := settingsUsed b m
    let s1 := bankRenewed { s with sec := { s.sec with
      cache := b
      applyDue := false } } 11
    let s2 := match u with
      | some x => settingsApply s1 x
      | none => s1
    startupCal (alarmRestore s2 u)
  else s0

/-- The commands in progress at a management restart complete E_ABORTED with sub-code 1 (R332). -/
def abortProgress (s : State) : State :=
  s.mgmt.inProgress.foldl (fun t p => complete t p.tag p.opcode p.notify stAborted 1 0 0)
    { s with mgmt := { s.mgmt with inProgress := [] } }

/-- What is reported once Mexis is READY: a revert, the settings, tests that a reset ended, the wake from DARK. -/
def readyReports (s : State) (found : SettingsFound) : State :=
  let s1 := match s.sec.reverted, s.sec.running with
    | some timeout, some k =>
      raiseEvent { s with sec := { s.sec with reverted := none } } (ev 0x8C05 (locMgmt 0) (k.val + b2n timeout * 2))
    | _, _ => s
  let s2 := match found with
    | .same => s1
    | .newer f => raiseEvent s1 (ev 0x8C07 (locMgmt 0) f)
    | .partly => raiseEvent s1 (ev 0x8C09 (locMgmt 0) 1)
    | .older m => if trialRuns s1 then { s1 with sec := { s1.sec with migration := some m } } else migrate s1 m
  let s3 := s2.test.results.foldl (fun t r => raiseEvent t (ev 0x8D01 r.1 r.2.1 r.2.2))
    { s2 with test := { s2.test with results := [] } }
  match s3.power.announce with
  | some d => raiseEvent { s3 with power := { s3.power with announce := none } } (ev 0x8901 locWholeDie d)
  | none => s3

/-- MGMT_READY (R312). -/
def mgmtReady (m : MexisStart) (s : State) : State :=
  if mexisRuns s && !ready s && !s.power.warmPending then
    let found := settingsFound (cachedBlock s) m
    let s1 := settingsStart { s with sec := { s.sec with format := m.format.toNat } } m
    let after := s1.mgmt.afterRestart
    let n := if after then s1.mgmt.inProgress.length else 0
    let s2 := wr (wr { s1 with mgmt := { s1.mgmt with
      engineHeld := false
      afterRestart := false } } F.RING_STATUS_READY 1) F.RING_STATUS_RESTARTING 0
    let s3 := if after then abortProgress s2 else s2
    readyReports (raiseEvent s3 (ev 0x8102 (locMgmt 0) (b2n after + n * 2 ^ 8))) found
  else s

/-- MGMT_READY, with what the starting Mexis brings. -/
def execMgmtReady (m : MexisStart) (s : State) : Host.Outcome State Fault Refusal := .next (mgmtReady m s)

end Sys2Proof.Machine
end

