-- ==== Sys2Proof/Machine/Dispatch.lean ====
section
/-! DEFINITION. Which meaning runs for which command: one arm per constructor of Instr. -/

namespace Sys2Proof.Machine

def exec (i : Instr) (s : State) : Host.Outcome State Fault Refusal :=
  match i with
  | .hostToLineCodeword port codes k => Sys2Proof.Machine.execHostToLineCodeword port codes k s
  | .lineToHostCodeword port codes k => Sys2Proof.Machine.execLineToHostCodeword port codes k s
  | .pllLockLoss line region => Sys2Proof.Machine.execPllLockLoss line region s
  | .sysPllLockLoss => Sys2Proof.Machine.execSysPllLockLoss s
  | .sysPllRelock => Sys2Proof.Machine.execSysPllRelock s
  | .lockstepMismatch => Sys2Proof.Machine.execLockstepMismatch s
  | .cueFire port d beside => Sys2Proof.Machine.execCueFire port d beside s
  | .calDeferredStart handle => Sys2Proof.Machine.execCalDeferredStart handle s
  | .cueSet c => Sys2Proof.Machine.execCueSet c s
  | .cueCancel c => Sys2Proof.Machine.execCueCancel c s
  | .cueRead c => Sys2Proof.Machine.execCueRead c s
  | .cueAgree c => Sys2Proof.Machine.execCueAgree c s
  | .cueAgreeTimeout entry => Sys2Proof.Machine.execCueAgreeTimeout entry s
  | .cueProposeResend entry => Sys2Proof.Machine.execCueProposeResend entry s
  | .hcAdjust c => Sys2Proof.Machine.execHcAdjust c s
  | .cueLatchWrite port d => Sys2Proof.Machine.execCueLatchWrite port d s
  | .goFire mask beside => Sys2Proof.Machine.execGoFire mask beside s
  | .goDiscard mask => Sys2Proof.Machine.execGoDiscard mask s
  | .registerWrite iface addr data beside => Sys2Proof.Machine.execRegisterWrite iface addr data beside s
  | .regifErrInfoRearm iface beside => Sys2Proof.Machine.execRegifErrInfoRearm iface beside s
  | .memErrInfoRearm iface beside => Sys2Proof.Machine.execMemErrInfoRearm iface beside s
  | .votedFieldUpset b => Sys2Proof.Machine.execVotedFieldUpset b s
  | .ctleDwellEnd lane codes => Sys2Proof.Machine.execCtleDwellEnd lane codes s
  | .vgaMeasurement lane codes => Sys2Proof.Machine.execVgaMeasurement lane codes s
  | .vgaStep lane => Sys2Proof.Machine.execVgaStep lane s
  | .sliceMonitorWindow lane codes => Sys2Proof.Machine.execSliceMonitorWindow lane codes s
  | .sliceFaultSwap lane => Sys2Proof.Machine.execSliceFaultSwap lane s
  | .lrxSliceRetire c => Sys2Proof.Machine.execLrxSliceRetire c s
  | .lrxSliceRestore c => Sys2Proof.Machine.execLrxSliceRestore c s
  | .sliceRestoreTestEnd lane pass => Sys2Proof.Machine.execSliceRestoreTestEnd lane pass s
  | .lockWindowEnd lane codes => Sys2Proof.Machine.execLockWindowEnd lane codes s
  | .losSet lane env => Sys2Proof.Machine.execLosSet lane env s
  | .losClear lane env => Sys2Proof.Machine.execLosClear lane env s
  | .spotCtrlStart lane slice source => Sys2Proof.Machine.execSpotCtrlStart lane slice source s
  | .lrxSpotStart c => Sys2Proof.Machine.execLrxSpotStart c s
  | .spotCaptureEnd lane codes parity => Sys2Proof.Machine.execSpotCaptureEnd lane codes parity s
  | .lrxSpotRead c => Sys2Proof.Machine.execLrxSpotRead c s
  | .eqUpdate lane codes => Sys2Proof.Machine.execEqUpdate lane codes s
  | .outlierWindowEnd lane codes => Sys2Proof.Machine.execOutlierWindowEnd lane codes s
  | .eqWarmResume lane => Sys2Proof.Machine.execEqWarmResume lane s
  | .metricWindowEnd lane codes => Sys2Proof.Machine.execMetricWindowEnd lane codes s
  | .leqStateRead c => Sys2Proof.Machine.execLeqStateRead c s
  | .leqStateLoad c => Sys2Proof.Machine.execLeqStateLoad c s
  | .swingStep lane => Sys2Proof.Machine.execSwingStep lane s
  | .trainingBurstEnd lane => Sys2Proof.Machine.execTrainingBurstEnd lane s
  | .ltxLutWrite c => Sys2Proof.Machine.execLtxLutWrite c s
  | .ltxLutRead c => Sys2Proof.Machine.execLtxLutRead c s
  | .ltxLutClear c => Sys2Proof.Machine.execLtxLutClear c s
  | .xaStart c => Sys2Proof.Machine.execXaStart c s
  | .xaStop c => Sys2Proof.Machine.execXaStop c s
  | .xaStatsTimeout lane => Sys2Proof.Machine.execXaStatsTimeout lane s
  | .xaTrackTimer lane => Sys2Proof.Machine.execXaTrackTimer lane s
  | .xaGatherWindowEnd lane => Sys2Proof.Machine.execXaGatherWindowEnd lane s
  | .poolIdleTest d member form conduct => Sys2Proof.Machine.execPoolIdleTest d member form conduct s
  | .fecFence c => Sys2Proof.Machine.execFecFence c s
  | .fecUnfence c => Sys2Proof.Machine.execFecUnfence c s
  | .unfenceTestEnd d pass => Sys2Proof.Machine.execUnfenceTestEnd d pass s
  | .sdWindowEnd port d => Sys2Proof.Machine.execSdWindowEnd port d s
  | .hostMarkerGroup port marks => Sys2Proof.Machine.execHostMarkerGroup port marks s
  | .lineMarkerGroup lane pos arrival => Sys2Proof.Machine.execLineMarkerGroup lane pos arrival s
  | .tpcWindowEnd lane codes => Sys2Proof.Machine.execTpcWindowEnd lane codes s
  | .tpcSlip c => Sys2Proof.Machine.execTpcSlip c s
  | .acquireComplete port => Sys2Proof.Machine.execAcquireComplete port s
  | .acqToExpiry port => Sys2Proof.Machine.execAcqToExpiry port s
  | .alignToExpiry port => Sys2Proof.Machine.execAlignToExpiry port s
  | .probeToExpiry port => Sys2Proof.Machine.execProbeToExpiry port s
  | .backoffExpiry port => Sys2Proof.Machine.execBackoffExpiry port s
  | .laneRejoin lane => Sys2Proof.Machine.execLaneRejoin lane s
  | .rejoinToExpiry port idx => Sys2Proof.Machine.execRejoinToExpiry port idx s
  | .linkRestart c => Sys2Proof.Machine.execLinkRestart c s
  | .hslTrainTimeout lane => Sys2Proof.Machine.execHslTrainTimeout lane s
  | .hslTrackWindow lane codes => Sys2Proof.Machine.execHslTrackWindow lane codes s
  | .refLost ref => Sys2Proof.Machine.execRefLost ref s
  | .refPresent ref => Sys2Proof.Machine.execRefPresent ref s
  | .refSlewDone region => Sys2Proof.Machine.execRefSlewDone region s
  | .refRevertTimer region => Sys2Proof.Machine.execRefRevertTimer region s
  | .wanderLimit lane transmit repeated => Sys2Proof.Machine.execWanderLimit lane transmit repeated s
  | .failoverTimer port rx => Sys2Proof.Machine.execFailoverTimer port rx s
  | .clkModePllLock => Sys2Proof.Machine.execClkModePllLock s
  | .clkModeLockTimeout => Sys2Proof.Machine.execClkModeLockTimeout s
  | .hslRetrain c => Sys2Proof.Machine.execHslRetrain c s
  | .hslSliceRetire c => Sys2Proof.Machine.execHslSliceRetire c s
  | .hslSliceRestore c => Sys2Proof.Machine.execHslSliceRestore c s
  | .clkRefRevert c => Sys2Proof.Machine.execClkRefRevert c s
  | .helloTimer lane => Sys2Proof.Machine.execHelloTimer lane s
  | .healthTimer lane => Sys2Proof.Machine.execHealthTimer lane s
  | .asidePacketStart lane => Sys2Proof.Machine.execAsidePacketStart lane s
  | .asidePacketEnd lane => Sys2Proof.Machine.execAsidePacketEnd lane s
  | .preambleDetect lane codes m => Sys2Proof.Machine.execPreambleDetect lane codes m s
  | .helloReceived lane codes => Sys2Proof.Machine.execHelloReceived lane codes s
  | .healthReceived lane codes => Sys2Proof.Machine.execHealthReceived lane codes s
  | .xadaptRequestReceived lane codes => Sys2Proof.Machine.execXadaptRequestReceived lane codes s
  | .xadaptFragmentReceived lane codes => Sys2Proof.Machine.execXadaptFragmentReceived lane codes s
  | .cueProposeReceived lane codes => Sys2Proof.Machine.execCueProposeReceived lane codes s
  | .cueAckReceived lane codes => Sys2Proof.Machine.execCueAckReceived lane codes s
  | .loadingProposeReceived lane codes => Sys2Proof.Machine.execLoadingProposeReceived lane codes s
  | .loadingConfirmReceived lane codes => Sys2Proof.Machine.execLoadingConfirmReceived lane codes s
  | .tagPacketReceived lane codes => Sys2Proof.Machine.execTagPacketReceived lane codes s
  | .authChallengeReceived lane codes => Sys2Proof.Machine.execAuthChallengeReceived lane codes s
  | .authResponseReceived lane codes => Sys2Proof.Machine.execAuthResponseReceived lane codes s
  | .partnerTimeout lane => Sys2Proof.Machine.execPartnerTimeout lane s
  | .authChallengeTimer lane => Sys2Proof.Machine.execAuthChallengeTimer lane s
  | .loadingEvaluation lane => Sys2Proof.Machine.execLoadingEvaluation lane s
  | .loadingGraceEnd lane => Sys2Proof.Machine.execLoadingGraceEnd lane s
  | .asdBufSet c => Sys2Proof.Machine.execAsdBufSet c s
  | .asdSend c => Sys2Proof.Machine.execAsdSend c s
  | .asdRxRead c => Sys2Proof.Machine.execAsdRxRead c s
  | .asdKeySet c => Sys2Proof.Machine.execAsdKeySet c s
  | .asdKeyClear c => Sys2Proof.Machine.execAsdKeyClear c s
  | .asdAuthStart c => Sys2Proof.Machine.execAsdAuthStart c s
  | .authStartTimeout => Sys2Proof.Machine.execAuthStartTimeout s
  | .asdLoadReset c => Sys2Proof.Machine.execAsdLoadReset c s
  | .calRun c => Sys2Proof.Machine.execCalRun c s
  | .calAbort c => Sys2Proof.Machine.execCalAbort c s
  | .calRelease c => Sys2Proof.Machine.execCalRelease c s
  | .calMeasurementEnd lane skewNum skewDen trim pass inl => Sys2Proof.Machine.execCalMeasurementEnd lane skewNum skewDen trim pass inl s
  | .calHandover lane => Sys2Proof.Machine.execCalHandover lane s
  | .calCorrectionUpdate => Sys2Proof.Machine.execCalCorrectionUpdate s
  | .calTempRecompute => Sys2Proof.Machine.execCalTempRecompute s
  | .dacSkewMeasurementEnd lane skew0 skew1 skew2 skew3 => Sys2Proof.Machine.execDacSkewMeasurementEnd lane skew0 skew1 skew2 skew3 s
  | .bdacCalMeasurementEnd c offset1 gain1 offset2 gain2 => Sys2Proof.Machine.execBdacCalMeasurementEnd c offset1 gain1 offset2 gain2 s
  | .snsCalMeasurementEnd n offset gain => Sys2Proof.Machine.execSnsCalMeasurementEnd n offset gain s
  | .loopTick mismatch parity => Sys2Proof.Machine.execLoopTick mismatch parity s
  | .loopClearHistory c => Sys2Proof.Machine.execLoopClearHistory c s
  | .loopResume c => Sys2Proof.Machine.execLoopResume c s
  | .loopTarget c => Sys2Proof.Machine.execLoopTarget c s
  | .loopPreset c => Sys2Proof.Machine.execLoopPreset c s
  | .loopRead c => Sys2Proof.Machine.execLoopRead c s
  | .loopEngineRestart c pass => Sys2Proof.Machine.execLoopEngineRestart c pass s
  | .bdacFirstCode c => Sys2Proof.Machine.execBdacFirstCode c s
  | .ditherUpdate => Sys2Proof.Machine.execDitherUpdate s
  | .bdacHoldEnd c => Sys2Proof.Machine.execBdacHoldEnd c s
  | .bdacRange c => Sys2Proof.Machine.execBdacRange c s
  | .snsSample chan bits offset => Sys2Proof.Machine.execSnsSample chan bits offset s
  | .snsSyncWrite mask => Sys2Proof.Machine.execSnsSyncWrite mask s
  | .snsCoefWrite c => Sys2Proof.Machine.execSnsCoefWrite c s
  | .snsCoefRead c => Sys2Proof.Machine.execSnsCoefRead c s
  | .counterLoRead iface index => Sys2Proof.Machine.execCounterLoRead iface index s
  | .snapCtrlTake flowImg ackReq ack1 ack0 => Sys2Proof.Machine.execSnapCtrlTake flowImg ackReq ack1 ack0 s
  | .snapCtrlAck flowImg ackReq ack1 ack0 => Sys2Proof.Machine.execSnapCtrlAck flowImg ackReq ack1 ack0 s
  | .snapTake c => Sys2Proof.Machine.execSnapTake c s
  | .snapCopyDone bank => Sys2Proof.Machine.execSnapCopyDone bank s
  | .snapRead c => Sys2Proof.Machine.execSnapRead c s
  | .flowImageCopyDone => Sys2Proof.Machine.execFlowImageCopyDone s
  | .flowFrame port d busy => Sys2Proof.Machine.execFlowFrame port d busy s
  | .flowReplayLookup d => Sys2Proof.Machine.execFlowReplayLookup d s
  | .flowAgerVisit bucket => Sys2Proof.Machine.execFlowAgerVisit bucket s
  | .flowDump c => Sys2Proof.Machine.execFlowDump c s
  | .flowRelease c => Sys2Proof.Machine.execFlowRelease c s
  | .flowFlush c => Sys2Proof.Machine.execFlowFlush c s
  | .berWindowClose lane => Sys2Proof.Machine.execBerWindowClose lane s
  | .sampleSlotRaise slot => Sys2Proof.Machine.execSampleSlotRaise slot s
  | .i2cAWrite addr data => Sys2Proof.Machine.execI2cAWrite addr data s
  | .i2cARead addr reg count => Sys2Proof.Machine.execI2cARead addr reg count s
  | .spiWrite data => Sys2Proof.Machine.execSpiWrite data s
  | .spiRead addr count => Sys2Proof.Machine.execSpiRead addr count s
  | .spiStatus cmd => Sys2Proof.Machine.execSpiStatus cmd s
  | .cmisPortBRead addr reg count => Sys2Proof.Machine.execCmisPortBRead addr reg count s
  | .cmisPortBWrite addr reg data => Sys2Proof.Machine.execCmisPortBWrite addr reg data s
  | .cmisLogApply => Sys2Proof.Machine.execCmisLogApply s
  | .ringLayoutWrite iface data => Sys2Proof.Machine.execRingLayoutWrite iface data s
  | .dbCmdWrite iface data => Sys2Proof.Machine.execDbCmdWrite iface data s
  | .dbCplAckWrite iface data => Sys2Proof.Machine.execDbCplAckWrite iface data s
  | .dbEvtAckWrite iface data => Sys2Proof.Machine.execDbEvtAckWrite iface data s
  | .undefinedOpcode c opcode => Sys2Proof.Machine.execUndefinedOpcode c opcode s
  | .devNop c => Sys2Proof.Machine.execDevNop c s
  | .cmisLoad c => Sys2Proof.Machine.execCmisLoad c s
  | .eventsLost => Sys2Proof.Machine.execEventsLost s
  | .mgmtReady m => Sys2Proof.Machine.execMgmtReady m s
  | .scrubWord bank upset raced => Sys2Proof.Machine.execScrubWord bank upset raced s
  | .remapInstall bank => Sys2Proof.Machine.execRemapInstall bank s
  | .memRemap c => Sys2Proof.Machine.execMemRemap c s
  | .memInject c => Sys2Proof.Machine.execMemInject c s
  | .watchdogExpiry => Sys2Proof.Machine.execWatchdogExpiry s
  | .crystalEdgeLoss => Sys2Proof.Machine.execCrystalEdgeLoss s
  | .crystalReturn => Sys2Proof.Machine.execCrystalReturn s
  | .supplyWarnAssert rail => Sys2Proof.Machine.execSupplyWarnAssert rail s
  | .supplyWarnRelease rail => Sys2Proof.Machine.execSupplyWarnRelease rail s
  | .brownoutWindowClose => Sys2Proof.Machine.execBrownoutWindowClose s
  | .pbFlashCopyStart => Sys2Proof.Machine.execPbFlashCopyStart s
  | .pbFlashCopyDone => Sys2Proof.Machine.execPbFlashCopyDone s
  | .pbRead c => Sys2Proof.Machine.execPbRead c s
  | .pbRelease c => Sys2Proof.Machine.execPbRelease c s
  | .pbFlashRead c => Sys2Proof.Machine.execPbFlashRead c s
  | .pbMark c => Sys2Proof.Machine.execPbMark c s
  | .pwrEnter c rcHz => Sys2Proof.Machine.execPwrEnter c rcHz s
  | .pwrExit c => Sys2Proof.Machine.execPwrExit c s
  | .intermissionExitDone => Sys2Proof.Machine.execIntermissionExitDone s
  | .wakeAssert level => Sys2Proof.Machine.execWakeAssert level s
  | .darkSequencerStep rcHz => Sys2Proof.Machine.execDarkSequencerStep rcHz s
  | .stageDoorWrite addr data => Sys2Proof.Machine.execStageDoorWrite addr data s
  | .stageDoorRead addr count => Sys2Proof.Machine.execStageDoorRead addr count s
  | .rcTimerExpiry => Sys2Proof.Machine.execRcTimerExpiry s
  | .wakeFromDark count rcHz checker boot => Sys2Proof.Machine.execWakeFromDark count rcHz checker boot s
  | .thermalReading readings => Sys2Proof.Machine.execThermalReading readings s
  | .avsReadback answer => Sys2Proof.Machine.execAvsReadback answer s
  | .avsSlewStep => Sys2Proof.Machine.execAvsSlewStep s
  | .powerOnReset rail => Sys2Proof.Machine.execPowerOnReset rail s
  | .pinReset => Sys2Proof.Machine.execPinReset s
  | .supplyReset rail => Sys2Proof.Machine.execSupplyReset rail s
  | .resetNRelease straps checker boot => Sys2Proof.Machine.execResetNRelease straps checker boot s
  | .rstWarm c => Sys2Proof.Machine.execRstWarm c s
  | .warmReset boot => Sys2Proof.Machine.execWarmReset boot s
  | .rstMgmt c => Sys2Proof.Machine.execRstMgmt c s
  | .mgmtRestart boot => Sys2Proof.Machine.execMgmtRestart boot s
  | .rstPort c => Sys2Proof.Machine.execRstPort c s
  | .authOpen c => Sys2Proof.Machine.execAuthOpen c s
  | .authChallengeExpiry => Sys2Proof.Machine.execAuthChallengeExpiry s
  | .authRespond c => Sys2Proof.Machine.execAuthRespond c s
  | .authClose c => Sys2Proof.Machine.execAuthClose c s
  | .lcAdvance c => Sys2Proof.Machine.execLcAdvance c s
  | .lcDiagOpen c => Sys2Proof.Machine.execLcDiagOpen c s
  | .secOtpProgram c burned => Sys2Proof.Machine.execSecOtpProgram c burned s
  | .secKeyRevoke c => Sys2Proof.Machine.execSecKeyRevoke c s
  | .voltageGlitch => Sys2Proof.Machine.execVoltageGlitch s
  | .clockGlitch => Sys2Proof.Machine.execClockGlitch s
  | .alarmNPulseEnd => Sys2Proof.Machine.execAlarmNPulseEnd s
  | .fwBegin c => Sys2Proof.Machine.execFwBegin c s
  | .fwChunk c => Sys2Proof.Machine.execFwChunk c s
  | .fwCommit c misread => Sys2Proof.Machine.execFwCommit c misread s
  | .fwActivate c => Sys2Proof.Machine.execFwActivate c s
  | .fwAbort c => Sys2Proof.Machine.execFwAbort c s
  | .imageHealthy => Sys2Proof.Machine.execImageHealthy s
  | .trialTimeout => Sys2Proof.Machine.execTrialTimeout s
  | .setSave c verified => Sys2Proof.Machine.execSetSave c verified s
  | .tstRehearse c => Sys2Proof.Machine.execTstRehearse c s
  | .rehearsalEnd v patterns unit => Sys2Proof.Machine.execRehearsalEnd v patterns unit s
  | .tstAbort c => Sys2Proof.Machine.execTstAbort c s
  | .tstMemTest c => Sys2Proof.Machine.execTstMemTest c s
  | .memTestEnd fails counted patterns => Sys2Proof.Machine.execMemTestEnd fails counted patterns s
  | .tstDress c => Sys2Proof.Machine.execTstDress c s
  | .dressRehearsalEnd v patterns partitions ports line host => Sys2Proof.Machine.execDressRehearsalEnd v patterns partitions ports line host s
  | .testLimitExceeded clock patterns => Sys2Proof.Machine.execTestLimitExceeded clock patterns s
  | .jtagInstructionUpdate code => Sys2Proof.Machine.execJtagInstructionUpdate code s
  | .jtagTapReset => Sys2Proof.Machine.execJtagTapReset s
  | .payloadCrcFail lane codes => Sys2Proof.Machine.execPayloadCrcFail lane codes s
  | .watchdogService => Sys2Proof.Machine.execWatchdogService s
  | .cmisShadowRefresh bytes writable => Sys2Proof.Machine.execCmisShadowRefresh bytes writable s
  | .intermissionEntryDone => Sys2Proof.Machine.execIntermissionEntryDone s
  | .flashProgramDone => Sys2Proof.Machine.execFlashProgramDone s

end Sys2Proof.Machine
end

