-- ==== Sys2Proof/Machine/Tick.lean ====
section
/-! DEFINITION. One cycle of the crystal (R23, R26, R298; log entry 4): what time alone moves. -/

namespace Sys2Proof.Machine

open Sys2Proof

/-- A freewheeling show clock advances through its phase accumulator (R26); an aligned one counts codewords instead, and that
of a port that is off stands still. -/
def clockCycle (s : State) (p : Nat) (c : ShowClock) : ShowClock :=
  if c.freewheel && portEnabled s p then
    let t := c.frac.toNat + freewheelStep s p
    { c.advance (t / 256) with frac := BitVec.ofNat 8 t }
  else c

/-- The occupancy that a threshold counter watches (R298), but for the RS pools'. -/
def occupancy (s : State) (source inst : Nat) : Nat :=
  match source with
  | 1 => (lockOf s (inst % 8)).skew / 256
  | 2 => rd s F.HSL_ALIGN_STATUS_SKEW (inst % 16) / 128
  | 3 => (portPath s (inst % 8) (if inst.testBit 3 then .rx else .tx)).rm.entries.length
  | 5 => (vGet s.obs.replay (inst % 2) []).length
  | 6 => cmdFill s
  | 7 => cplFill s
  | 8 => evtFill s
  | _ => 0

/-- The 256ths of a CK_CORE_H clock in a crystal cycle, 4,250, in which a source's occupancy exceeds N. A pool's member is busy for 17 clocks
(R130), 4,352 of them: the whole cycle in which its codeword came, taken at the cycle's start (log entry 181), and 102 of the next. -/
def thresholdParts (s : State) (source inst n : Nat) : Nat :=
  if source = 4 then
    let now := vGet s.path.poolNow (inst % 2) 0
    if n < min 16 now then 4250 else if n < min 16 (now + vGet s.path.poolLast (inst % 2) 0) then 102 else 0
  else if n < occupancy s source inst then 4250 else 0

/-- A threshold counter counts the cycles of CK_CORE_H in which the occupancy exceeds N; that clock comes from HOST_A's PLL (R44). -/
def thresholdCycle (s : State) (k : Nat) : State :=
  if rd s F.CNT_THR_s_EN k = 1 ∧ (pllPair s false 0).inUseLocked = true then
    let t := vGet s.obs.thrFrac k 0 + thresholdParts s (rd s F.CNT_THR_s_SOURCE k) (rd s F.CNT_THR_s_INSTANCE k) (rd s F.CNT_THR_s_N k)
    bump { s with obs := { s.obs with thrFrac := vSet s.obs.thrFrac k (t % 256) } } (0x700 + k) (t / 256)
  else s

/-- The codewords that entered the pools in this cycle become those of the last one. -/
def poolCycle (s : State) : State :=
  { s with path := { s.path with
    poolLast := s.path.poolNow
    poolNow := Vector.replicate 2 0 } }

/-- House clock, tick count and show clocks. -/
def timeCycle (s : State) : State :=
  { s with time := { s.time with
    hc := s.time.hc + 20
    tick := s.time.tick + 1
    tx := Vector.ofFn fun p : Fin 8 => clockCycle s p s.time.tx[p]
    rx := Vector.ofFn fun p : Fin 8 => clockCycle s p s.time.rx[p] } }

/-- What time alone moves on a device that is up: threshold counters, reference strengths (R221), reverts that wait (R115), and gatherers
whose window a freewheeling clock reaches (R109). -/
def deviceCycle (s : State) : State :=
  (List.range 8).foldl gatherFollow <| (List.range 8).foldl revertRetry <| (List.range 8).foldl refExpire <|
    poolCycle ((List.range 32).foldl thresholdCycle s)

/-- A cycle, where the crystal runs. While the device wakes from DARK the crystal only starts: time passes, and the house clock stands until
Mexis advances it by the interval counted (R38, R395). -/
def tick (s : State) : State :=
  if s.time.crystalRuns then if deviceUp s then cuesReach (deviceCycle (timeCycle s)) else timeCycle s
  else if s.power.mode = .wakingDark then { s with time := { s.time with tick := s.time.tick + 1 } } else s

end Sys2Proof.Machine
end

