-- ==== Sys2Proof/Machine/Idle.lean ====
section
/-! DEFINITION. What the block does by itself while no command waits. -/

namespace Sys2Proof.Machine

open Sys2Proof

/-- With no command waiting: Mexis consumes the ring's next slot where it may (R324), else one crystal cycle (log entry 4). -/
def idle (s : State) : Host.Outcome State Fault Refusal :=
  match slotInstr s with
  | some i => exec i s
  | none => .next (tick s)

end Sys2Proof.Machine
end

