-- ==== Sys2Proof/Machine/Step.lean ====
section
/-! DEFINITION. One step: the command at the front of the queue, or, with none waiting, the command in the ring's next slot, or a cycle of
the crystal. -/

namespace Sys2Proof.Machine

open Sys2Proof

/-- The front command's effect on the state with the queue's rest; with none waiting, what the block does by itself. -/
def step (s : State) : Host.Outcome State Fault Refusal :=
  match s.pending with
  | [] => idle s
  | i :: rest => exec i { s with pending := rest }

/-- The table gives its rows no bits, so that no word spells a command: nothing is put in the queue. -/
def State.withFetchWord (s : State) (nbits w : Nat) : State :=
  match decodeTableWord nbits w with
  | some i => { s with pending := i :: s.pending }
  | none => s

end Sys2Proof.Machine
end

