-- ==== Sys2Proof/Safety.lean ====
section
/-! DEFINITION. What counts as a safe run, and the invariants that claims are stated in. -/

namespace Sys2Proof.Machine

open Sys2Proof

/-- A step answers a next state: neither a fault nor a refusal. -/
def Completes (o : Host.Outcome State Fault Refusal) : Prop := ∃ t, o = .next t

/-- A run of n steps answers a next state. -/
def RunSafe (n : Nat) (s : State) : Prop := Completes (core.run n s)

/-- The ring window keeps the canonical form of a memory (log entry 6). -/
def WindowWf (s : State) : Prop := Memory.wf s.mgmt.window = true

/-- The register fields that the rings and reporting advance: the command producer and consumer, the completion and event
producers and EVT_LOST (R323, R330), the count of missed sections (R378), and the capture of an uncorrectable word (R363). -/
def reportKeys : List Nat :=
  [F.DB_CMD_PROD.key 0 0, F.RING_CMD_CONS_CONS.key 0 0, F.RING_CPL_PROD_PROD.key 0 0, F.RING_EVT_PROD_PROD.key 0 0, F.RING_STATUS_EVT_LOST.key 0 0, F.PB_STATS_MISSED.key 0 0,
    F.MEM_ERR_INFO_VALID.key 0 0, F.MEM_ERR_INFO_SCRUB.key 0 0, F.MEM_ERR_INFO_BANK.key 0 0, F.MEM_ERR_INFO_ADDR.key 0 0]

/-- Observability but for the counters, the sampling slots' debts and the marks of lost counters. -/
def ObsState.still (o : ObsState) : ObsState :=
  { o with counters := [], slots := Vector.replicate 32 .reset, invalid := [] }

/-- Management but for the ring window, the waiting completions and the event sequence. -/
def MgmtState.still (m : MgmtState) : MgmtState := { m with window := [], waiting := [], evtSeq := 0 }

/-- The memories but for their banks' code state. -/
def MemState.still (m : MemState) : MemState := { m with banks := Vector.replicate 64 .reset }

/-- From s to t only reporting happened: counters, the words of the three rings and the records of the prompt book, the
stored words behind them, and the register fields of `reportKeys`. -/
structure OnlyReports (s t : State) : Prop where
  eff : t.eff = s.eff
  time : t.time = s.time
  lanes : t.lanes = s.lanes
  link : t.link = s.link
  path : t.path = s.path
  aside : t.aside = s.aside
  ctl : t.ctl = s.ctl
  cal : t.cal = s.cal
  faults : t.faults = s.faults
  power : t.power = s.power
  test : t.test = s.test
  sec : t.sec = s.sec
  freeCount : t.freeCount = s.freeCount
  pending : t.pending = s.pending
  obs : t.obs.still = s.obs.still
  mgmt : t.mgmt.still = s.mgmt.still
  mem : t.mem.still = s.mem.still
  fld : ∀ k, k ∉ reportKeys → aGet t.fld k = aGet s.fld k
  window : WindowWf s → WindowWf t

/-- The parts of the state that frames speak of. `mgmt`, `obs` and `mem` leave out what reporting writes; the prompt book is
reporting's own. -/
inductive Part where
  | eff
  | time
  | obs
  | lanes
  | link
  | path
  | aside
  | ctl
  | cal
  | mgmt
  | mem
  | faults
  | power
  | test
  | sec
  | free
  deriving DecidableEq, Repr

/-- The part is the same in both states. -/
def Part.same (s t : State) : Part → Prop
  | .eff => t.eff = s.eff
  | .time => t.time = s.time
  | .obs => t.obs.still = s.obs.still
  | .lanes => t.lanes = s.lanes
  | .link => t.link = s.link
  | .path => t.path = s.path
  | .aside => t.aside = s.aside
  | .ctl => t.ctl = s.ctl
  | .cal => t.cal = s.cal
  | .mgmt => t.mgmt.still = s.mgmt.still
  | .mem => t.mem.still = s.mem.still
  | .faults => t.faults = s.faults
  | .power => t.power = s.power
  | .test => t.test = s.test
  | .sec => t.sec = s.sec
  | .free => t.freeCount = s.freeCount

/-- From s to t only the named parts change, only the named register fields change beside those that reporting writes, the
queue stays, and the window keeps its form. -/
def ChangesOnly (ps : List Part) (fs : List Field) (s t : State) : Prop :=
  (∀ p, p ∉ ps → p.same s t) ∧
    (∀ k, k ∉ reportKeys → (∀ f ∈ fs, f.hasKey k = false) → aGet t.fld k = aGet s.fld k) ∧
    t.pending = s.pending ∧ (WindowWf s → WindowWf t)

/-- Mexis takes the command (R324, R328): it may consume, the command is the next in ring order, its slot can be read, the boot ROM in
recovery serves the opcode (R428), and no descriptor word has a reserved bit set, where `masks` names the bits of the parameter words. -/
abbrev Taken (opcode : Nat) (masks : List (Nat × Nat)) (c : Cmd) (s : State) : Prop :=
  consumes (offer s opcode c) opcode c = true ∧ slotUncorr (offer s opcode c) = false ∧
    (s.sec.recovery = false ∨ bootRomServes opcode = true) ∧ reservedWord c masks = none

/-- The state in which a command's own part begins: its descriptor is in the ring, and its slot has been read out and freed. -/
def takenState (opcode : Nat) (c : Cmd) (s : State) : State := slotRead (offer s opcode c)

/-- The command completes with OK and its results (R326), and the state just before its completion is written has a
property. -/
def CompletesOk (i : Instr) (opcode : Nat) (c : Cmd) (s : State) (r0 r1 : Nat) (P : State → Prop) : Prop :=
  ∃ u, exec i s = .next (complete u c.tag opcode c.notify stOK 0 r0 r1) ∧ P u

/-- The command is in progress under a key (R324), and the state just before it is listed has a property. -/
def GoesOn (i : Instr) (opcode : Nat) (c : Cmd) (s : State) (key aux : Nat) (P : State → Prop) : Prop :=
  ∃ u, exec i s = .next (finish opcode c u (.later key aux)) ∧ P u

/-- The command answers a next state with a property. -/
def Runs (i : Instr) (s : State) (P : State → Prop) : Prop := ∃ t, exec i s = .next t ∧ P t

/-- A payload of these words is acted on (R219, R223, R225, R226): the reception is the lane's, the header has the type, the profile
answers it, the trailer is accepted, and a request comes from a verified partner where AUTH requires one. -/
abbrev Receivable (s : State) (n type : Nat) (words : List Word) (k : PacketKind) (r : AsideRx) : Prop :=
  (asideLane s n).rx = some r ∧ hdrType r.header = type ∧ words.length = hdrLength r.header ∧
    (asideProfile s n = 1 → profileSends 1 type = true) ∧
    trailerVerdict s n ⟨r.header, words⟩ k.challenge (k.response && answersNonce s n words) (k.response && (pw words 1).testBit 8) = 0 ∧
    (k.request = true → asideAuth s n = 2 → rd s F.ASD_STATUS_AUTH_STATE n = 2)

/-- The packet that a command of reception is given (R210, R219): after the lane's codes, where the reception's payload is good, of the
type, and of the kind where the type has kinds, it is received; else the codes are all that has come. -/
def receptionOf (s : State) (n : Fin 8) (codes : List Int) (type : Nat) (kind : Option Nat) (k : PacketKind)
    (act : State → AsideRx → List Word → State) : State :=
  let u := rxStream s (lineOf n) codes
  match received u n with
  | some (r, words, true, snr) =>
    if hdrType r.header = type ∧ (∀ v, kind = some v → pw words 1 / 2 ^ 28 = v) then receive u n type r words snr k act else u
  | _ => u

/-- Fuses only ever burned (R412): what the OTP of the first holds, that of the second holds too; the life cycle and the
anti-rollback count never step back (R413, R429). -/
def FusesKept (o o' : Otp) : Prop :=
  o.life ≤ o'.life ∧ o.rollback ≤ o'.rollback ∧ (o.scorched = true → o'.scorched = true) ∧
    (∀ k, o.slotProg.testBit k = true → o'.slotProg.testBit k = true) ∧
    (∀ k, o.slotRevoked.testBit k = true → o'.slotRevoked.testBit k = true) ∧
    (∀ h, o.owner = some h → o'.owner = some h) ∧ (∀ p, o.policy = some p → o'.policy = some p)

end Sys2Proof.Machine
end

