-- ==== Sys2Proof/Machine/Footprint.lean ====
section
/-! DEFINITION. What each command may change: the parts of the state and the register fields, family by family. The claims'
frames speak of this table; no meaning uses it. -/

namespace Sys2Proof.Machine

open Sys2Proof

/-- What a command may change beside what reporting writes (the rings, the counters and the prompt book): parts of the state;
register fields (none: any field); and `loose` fields, whose instance the state names by a number that a reachable state
keeps in range, and which may be written at any instance. -/
structure Footprint where
  parts : List Part
  fields : Option (List Field)
  loose : List Field := []
  deriving DecidableEq, Repr

/-- From s to t nothing changes but what the footprint and reporting allow. -/
def Footprint.holds (f : Footprint) (s t : State) : Prop :=
  (∀ p, p ∉ f.parts → p.same s t) ∧
    (∀ fs, f.fields = some fs → ∀ k, k ∉ reportKeys → (∀ g ∈ fs, g.hasKey k = false) →
      (∀ g ∈ f.loose, ∀ i j, g.key i j ≠ k) → aGet t.fld k = aGet s.fld k) ∧
    t.pending = s.pending ∧ (WindowWf s → WindowWf t)

/-- Every byte of the window's bulk area, below the rings and the CMIS shadow (R322), reads as before. -/
def BulkKept (s t : State) : Prop :=
  ∀ a, a < windowBase + bulkEnd s → winByte t.mgmt.window a = winByte s.mgmt.window a


/-- The slices' FAILED masks and NOSPARE. -/
def sliceShown : List Field :=
  [F.HSL_SLICE_FAILED_FAILED, F.HSL_SLICE_STATUS_FAILED_32, F.HSL_SLICE_STATUS_NOSPARE, F.LRX_SLICE_FAILED_0_FAILED, F.LRX_SLICE_FAILED_1_FAILED, F.LRX_SLICE_STATUS_FAILED_64, F.LRX_SLICE_STATUS_NOSPARE]

/-- What the equalisers show (R81-R93). -/
def eqShown : List Field :=
  [F.HSL_STATUS_EQ_STATE, F.HSL_STATUS_VALID, F.LEQ_DFE_A_H1, F.LEQ_DFE_A_H2, F.LEQ_DFE_B_H3, F.LEQ_DFE_B_H4, F.LEQ_FFE_TAP_j_TAP, F.LEQ_LFR_GAIN_G, F.LEQ_OFS_j_OFS_EVEN, F.LEQ_OFS_j_OFS_ODD, F.LEQ_STATUS_STATE, F.LEQ_STATUS_VALID, F.LEQ_STATUS_WARM]

/-- The pools' status (R131-R133). -/
def poolShown : List Field :=
  [F.FEC_POOL_AVAIL_H2L_AVAIL, F.FEC_POOL_AVAIL_H2L_PAUSED, F.FEC_POOL_AVAIL_H2L_SHORT, F.FEC_POOL_AVAIL_L2H_AVAIL, F.FEC_POOL_AVAIL_L2H_PAUSED, F.FEC_POOL_AVAIL_L2H_SHORT, F.FEC_POOL_AVAIL_NEED, F.FEC_POOL_STATUS_H2L_FENCED, F.FEC_POOL_STATUS_L2H_FENCED]

/-- The rate matchers' fill and slips. -/
def fillShown : List Field :=
  [F.PCS_RM_STATUS_H2L_FILL, F.PCS_RM_STATUS_H2L_SLIP, F.PCS_RM_STATUS_L2H_FILL, F.PCS_RM_STATUS_L2H_SLIP]

/-- The transmitters' idle and burst. -/
def idleShown : List Field :=
  [F.HSL_STATUS_TX_BURST, F.HSL_STATUS_TX_IDLE, F.LTX_STATUS_BURST, F.LTX_STATUS_IDLE]

/-- What an accepted aside packet shows (R217, R226). -/
def packetShown : List Field :=
  [F.ASD_RX_SNR_j_SNR_0, F.ASD_RX_SNR_j_SNR_1, F.ASD_RX_SNR_j_SNR_2, F.ASD_RX_SNR_j_SNR_3, F.ASD_STATUS_AUTH_STATE, F.ASD_STATUS_RX_BUSY]

/-- Where an adaptation stands, and the seal (R105, R115). -/
def xaShown : List Field :=
  [F.LTX_STATUS_SEALED, F.LTX_XA_STATUS_REASON, F.LTX_XA_STATUS_STATE]

/-- The slices in the wings (R233). -/
def wingsShown : List Field :=
  [F.HSL_SLICE_STATUS_WINGS, F.LRX_SLICE_STATUS_WINGS]

/-- What a bias DAC applies (R272, R273). -/
def outShown : List Field :=
  [F.BDAC_CEIL_c_CEIL_HIT, F.BDAC_STATUS_c_APPLIED, F.BDAC_STATUS_c_HOLDING]

/-- TST_STATUS (R437). -/
def testShown : List Field :=
  [F.TST_STATUS_CAUSE, F.TST_STATUS_CLASS, F.TST_STATUS_INSTANCE, F.TST_STATUS_RESULT, F.TST_STATUS_RUNNING, F.TST_STATUS_TEST]

/-- The alarm's sources and the response in force (R418). -/
def alarmShown : List Field :=
  [F.SEC_ALARM_STATUS_IN_FORCE, F.SEC_ALARM_STATUS_SOURCES]

/-- What a start of the device shows (R365, R402, R425, R428). -/
def startShown : List Field :=
  [F.HSL_REF_STATUS_A_LOCK, F.HSL_REF_STATUS_B_LOCK, F.MEM_BIST_STATUS_CASE, F.MEM_BIST_STATUS_MACRO, F.MEM_BIST_STATUS_PASS, F.MEM_BIST_STATUS_TRIPLET, F.RING_STATUS_RESTARTING, F.SEC_ALARM_CFG_AUTH_FAIL, F.SEC_ALARM_CFG_CGLITCH, F.SEC_ALARM_CFG_DEBUG, F.SEC_ALARM_CFG_TEMP, F.SEC_ALARM_CFG_VGLITCH, F.SEC_FW_STATUS_BOOT_FAIL]

/-- REGIF_ERR_INFO (R338). -/
def captureShown : List Field :=
  [F.REGIF_ERR_INFO_ADDR, F.REGIF_ERR_INFO_CAUSE, F.REGIF_ERR_INFO_INTERFACE, F.REGIF_ERR_INFO_VALID]

/-- What a calibrated instance shows (R236), for each target. -/
def calShown : List Field :=
  [CalTarget.lineSlices, .dacSkew, .hostSlices, .biasDacs, .senseChans].flatMap fun t =>
    [F.CAL_COUNT_COUNT t, F.CAL_LAST_LO_HC_LO t, F.CAL_LAST_HI_HC_HI t, F.CAL_INFO_ESTIMATED t, F.CAL_INFO_SETS t,
      F.CAL_INFO_RESULT t, F.CAL_INFO_TEMP t]

/-- The families of commands, by the chapters that give them. -/
inductive Family where
  | correction
  | clocking
  | cues
  | receiver
  | transmitter
  | link
  | aside
  | calibration
  | control
  | observability
  | management
  | storage
  | power
  | security
  | test
  deriving DecidableEq, Repr

def family (i : Instr) : Family :=
  match i with
  | .hostToLineCodeword .. | .lineToHostCodeword .. | .poolIdleTest .. | .fecFence .. | .fecUnfence .. | .unfenceTestEnd .. |
    .sdWindowEnd .. => .correction
  | .sysPllLockLoss .. | .sysPllRelock .. | .hslTrainTimeout .. | .hslTrackWindow .. | .refLost .. | .refPresent .. |
    .refSlewDone .. | .refRevertTimer .. | .wanderLimit .. | .failoverTimer .. | .clkModePllLock .. | .clkModeLockTimeout .. |
    .hslRetrain .. | .clkRefRevert .. => .clocking
  | .cueFire .. | .cueSet .. | .cueCancel .. | .cueRead .. | .cueAgree .. | .cueAgreeTimeout .. | .cueProposeResend .. |
    .hcAdjust .. | .cueLatchWrite .. | .goFire .. | .goDiscard .. => .cues
  | .ctleDwellEnd .. | .vgaMeasurement .. | .vgaStep .. | .sliceMonitorWindow .. | .sliceFaultSwap .. | .lrxSliceRetire .. |
    .lrxSliceRestore .. | .sliceRestoreTestEnd .. | .lockWindowEnd .. | .losSet .. | .losClear .. | .spotCtrlStart .. |
    .lrxSpotStart .. | .spotCaptureEnd .. | .lrxSpotRead .. | .eqUpdate .. | .outlierWindowEnd .. | .eqWarmResume .. |
    .metricWindowEnd .. | .leqStateRead .. | .leqStateLoad .. | .hslSliceRetire .. | .hslSliceRestore .. => .receiver
  | .swingStep .. | .trainingBurstEnd .. | .ltxLutWrite .. | .ltxLutRead .. | .ltxLutClear .. | .xaStart .. | .xaStop .. |
    .xaStatsTimeout .. | .xaTrackTimer .. | .xaGatherWindowEnd .. => .transmitter
  | .hostMarkerGroup .. | .lineMarkerGroup .. | .tpcWindowEnd .. | .tpcSlip .. | .acquireComplete .. | .acqToExpiry .. |
    .alignToExpiry .. | .probeToExpiry .. | .backoffExpiry .. | .laneRejoin .. | .rejoinToExpiry .. | .linkRestart .. => .link
  | .helloTimer .. | .healthTimer .. | .asidePacketStart .. | .asidePacketEnd .. | .preambleDetect .. | .helloReceived .. |
    .healthReceived .. | .xadaptRequestReceived .. | .xadaptFragmentReceived .. | .cueProposeReceived .. | .cueAckReceived ..
    | .loadingProposeReceived .. | .loadingConfirmReceived .. | .tagPacketReceived .. | .authChallengeReceived .. |
    .authResponseReceived .. | .partnerTimeout .. | .authChallengeTimer .. | .loadingEvaluation .. | .loadingGraceEnd .. |
    .asdBufSet .. | .asdSend .. | .asdRxRead .. | .asdAuthStart .. | .authStartTimeout .. | .asdLoadReset .. | .payloadCrcFail
    .. => .aside
  | .calDeferredStart .. | .calRun .. | .calAbort .. | .calRelease .. | .calMeasurementEnd .. | .calHandover .. |
    .calCorrectionUpdate .. | .calTempRecompute .. | .dacSkewMeasurementEnd .. | .bdacCalMeasurementEnd .. |
    .snsCalMeasurementEnd .. => .calibration
  | .loopTick .. | .loopClearHistory .. | .loopResume .. | .loopTarget .. | .loopPreset .. | .loopRead .. | .loopEngineRestart
    .. | .bdacFirstCode .. | .ditherUpdate .. | .bdacHoldEnd .. | .bdacRange .. | .snsSample .. | .snsSyncWrite .. |
    .snsCoefWrite .. | .snsCoefRead .. => .control
  | .counterLoRead .. | .snapCtrlTake .. | .snapCtrlAck .. | .snapTake .. | .snapCopyDone .. | .snapRead .. |
    .flowImageCopyDone .. | .flowFrame .. | .flowReplayLookup .. | .flowAgerVisit .. | .flowDump .. | .flowRelease .. |
    .flowFlush .. | .berWindowClose .. | .sampleSlotRaise .. => .observability
  | .registerWrite .. | .regifErrInfoRearm .. | .memErrInfoRearm .. | .votedFieldUpset .. | .i2cAWrite .. | .i2cARead .. |
    .spiWrite .. | .spiRead .. | .spiStatus .. | .cmisPortBRead .. | .cmisPortBWrite .. | .cmisLogApply .. | .ringLayoutWrite
    .. | .dbCmdWrite .. | .dbCplAckWrite .. | .dbEvtAckWrite .. | .undefinedOpcode .. | .devNop .. | .cmisLoad .. |
    .eventsLost .. | .mgmtReady .. | .cmisShadowRefresh .. => .management
  | .lockstepMismatch .. | .scrubWord .. | .remapInstall .. | .memRemap .. | .memInject .. | .watchdogExpiry .. |
    .crystalEdgeLoss .. | .crystalReturn .. | .supplyWarnAssert .. | .supplyWarnRelease .. | .brownoutWindowClose .. |
    .pbFlashCopyStart .. | .pbFlashCopyDone .. | .pbRead .. | .pbRelease .. | .pbFlashRead .. | .pbMark .. | .watchdogService
    .. => .storage
  | .pwrEnter .. | .pwrExit .. | .intermissionExitDone .. | .wakeAssert .. | .darkSequencerStep .. | .stageDoorWrite .. |
    .stageDoorRead .. | .rcTimerExpiry .. | .wakeFromDark .. | .thermalReading .. | .avsReadback .. | .avsSlewStep .. |
    .powerOnReset .. | .pinReset .. | .supplyReset .. | .resetNRelease .. | .rstWarm .. | .warmReset .. | .rstMgmt .. |
    .mgmtRestart .. | .rstPort .. | .intermissionEntryDone .. => .power
  | .asdKeySet .. | .asdKeyClear .. | .authOpen .. | .authChallengeExpiry .. | .authRespond .. | .authClose .. | .lcAdvance ..
    | .lcDiagOpen .. | .secOtpProgram .. | .secKeyRevoke .. | .voltageGlitch .. | .clockGlitch .. | .alarmNPulseEnd .. |
    .fwBegin .. | .fwChunk .. | .fwCommit .. | .fwActivate .. | .fwAbort .. | .imageHealthy .. | .trialTimeout .. | .setSave
    .. | .flashProgramDone .. => .security
  | .pllLockLoss .. | .tstRehearse .. | .rehearsalEnd .. | .tstAbort .. | .tstMemTest .. | .memTestEnd .. | .tstDress .. |
    .dressRehearsalEnd .. | .testLimitExceeded .. | .jtagInstructionUpdate .. | .jtagTapReset .. => .test

/-- Each command's frame. -/
def footprint (i : Instr) : Footprint :=
  match i with
  | .hostToLineCodeword .. => ⟨[.time, .obs, .lanes, .path, .mem, .faults], some (poolShown ++ fillShown ++
    [F.HSL_STATUS_PI_CODE, F.HSL_TPC_STATUS_LOCK, F.LRX_TPC_STATUS_LOCK, F.LRX_TR_STATUS_FREQ, F.LRX_TR_STATUS_PI_CODE,
    F.MEM_LUT_STATUS_RETRAIN]), []⟩
  | .lineToHostCodeword .. => ⟨[.time, .obs, .lanes, .path, .mem, .faults], some (poolShown ++ fillShown ++
    [F.HSL_STATUS_PI_CODE, F.HSL_TPC_STATUS_LOCK, F.LEQ_XA_GATHER_STATE, F.LRX_TPC_STATUS_LOCK, F.LRX_TR_STATUS_FREQ,
    F.LRX_TR_STATUS_PI_CODE, F.MEM_LUT_STATUS_RETRAIN]), []⟩
  | .poolIdleTest .. => ⟨[.path], some poolShown, []⟩
  | .fecFence .. => ⟨[], some poolShown, []⟩
  | .fecUnfence .. => ⟨[.mgmt], some [], []⟩
  | .unfenceTestEnd .. => ⟨[.mgmt], some poolShown, []⟩
  | .sdWindowEnd .. => ⟨[.path], some [F.FEC_STATUS_RX_MARKED_IN, F.FEC_STATUS_RX_SD, F.FEC_STATUS_RX_UNCORR,
    F.FEC_STATUS_TX_MARKED_IN, F.FEC_STATUS_TX_SD, F.FEC_STATUS_TX_UNCORR], []⟩
  | .sysPllLockLoss .. => ⟨[.time, .aside, .ctl, .cal, .mgmt], some (wingsShown ++ [F.ASD_STATUS_RX_BUSY,
    F.ASD_STATUS_TX_BUSY, F.CAL_STATE_HANDLE, F.CAL_STATE_TARGETS, F.LOOP_ENGINE_STATUS_FALLBACK,
    F.LOOP_GRP_STATUS_g_ESCALATED, F.LOOP_HIST_FLAGS, F.LOOP_STATUS_STALE, F.LOOP_STATUS_STATE]), calShown⟩
  | .sysPllRelock .. => ⟨[.time, .lanes], some [F.LOOP_ENGINE_STATUS_FALLBACK], []⟩
  | .hslTrainTimeout .. => ⟨[.lanes, .mgmt], some [], []⟩
  | .hslTrackWindow .. => ⟨[.lanes], some [F.HSL_STATUS_PI_CODE, F.HSL_TPC_STATUS_LOCK, F.LRX_TPC_STATUS_LOCK,
    F.LRX_TR_STATUS_FREQ, F.LRX_TR_STATUS_PI_CODE], []⟩
  | .refLost .. | .refSlewDone .. | .refRevertTimer .. | .wanderLimit .. | .clkModePllLock .. | .clkRefRevert .. => ⟨[.time,
    .lanes, .link, .path, .cal], none, []⟩
  | .refPresent .. => ⟨[], some [F.HSL_REF_STATUS_HFCK0_OK, F.HSL_REF_STATUS_HFCK1_OK, F.HSL_REF_STATUS_REFCLK_OK], []⟩
  | .failoverTimer .. => ⟨[.path], some [], []⟩
  | .clkModeLockTimeout .. => ⟨[], some [], []⟩
  | .hslRetrain .. => ⟨[.time, .lanes, .link, .path, .cal, .mgmt], none, []⟩
  | .cueFire .. | .goFire .. => ⟨[.eff, .time, .obs, .lanes, .link, .path, .aside, .ctl, .cal, .mgmt, .mem, .power, .sec,
    .free], none, []⟩
  | .cueSet .. | .cueCancel .. => ⟨[.time], some [F.LTX_STATUS_SEALED], []⟩
  | .cueRead .. => ⟨[], some [], []⟩
  | .cueAgree .. => ⟨[.time, .aside, .mgmt], some [F.LTX_STATUS_SEALED], []⟩
  | .cueAgreeTimeout .. => ⟨[.time, .lanes, .mgmt], some xaShown, []⟩
  | .cueProposeResend .. => ⟨[.aside], some [], []⟩
  | .hcAdjust .. => ⟨[.time], some [F.CUE_SC_STATE_HC_ESTIMATED], []⟩
  | .cueLatchWrite .. => ⟨[], some [F.CUE_HC_HI_HC_HI, F.CUE_HC_LO_HC_LO, F.CUE_SC_HI_COUNT_HI, F.CUE_SC_HI_EPOCH,
    F.CUE_SC_LO_COUNT_LO], []⟩
  | .goDiscard .. => ⟨[], none, []⟩
  | .ctleDwellEnd .. => ⟨[.lanes], some (eqShown ++ [F.HSL_STATUS_CTLE_CODE, F.LRX_CTLE_STATUS_CODE, F.LRX_CTLE_STATUS_METRIC,
    F.LRX_STATUS_CTLE_SEARCH]), []⟩
  | .vgaMeasurement .. => ⟨[.lanes, .ctl], some [F.LRX_VGA_STATUS_AT_LIMIT, F.LRX_VGA_STATUS_DEFERRED,
    F.LRX_VGA_STATUS_LEVEL], []⟩
  | .vgaStep .. => ⟨[.lanes], some (eqShown ++ [F.HSL_STATUS_VGA_CODE, F.LRX_VGA_STATUS_AT_LIMIT, F.LRX_VGA_STATUS_CODE,
    F.LRX_VGA_STATUS_DEFERRED]), []⟩
  | .sliceMonitorWindow .. | .lrxSliceRetire .. | .hslSliceRetire .. => ⟨[.lanes, .cal, .mgmt], some (sliceShown ++ wingsShown
    ++ [F.CAL_STATE_HANDLE, F.CAL_STATE_TARGETS]), calShown⟩
  | .sliceFaultSwap .. => ⟨[.lanes, .mgmt], some (sliceShown ++ [F.HSL_SLICE_STATUS_SWAP_COUNT, F.HSL_SLICE_STATUS_UNDERSTUDY,
    F.LRX_SLICE_STATUS_SWAP_COUNT, F.LRX_SLICE_STATUS_UNDERSTUDY]), []⟩
  | .lrxSliceRestore .. | .hslSliceRestore .. => ⟨[.lanes, .mgmt], some wingsShown, []⟩
  | .sliceRestoreTestEnd .. => ⟨[.lanes, .mgmt], some (sliceShown ++ wingsShown), []⟩
  | .lockWindowEnd .. => ⟨[.time, .lanes, .link, .path, .cal, .mgmt], none, []⟩
  | .losSet .. | .losClear .. | .outlierWindowEnd .. => ⟨[.time, .lanes, .link, .path, .cal], none, []⟩
  | .spotCtrlStart .. => ⟨[.lanes], some [F.LRX_SPOT_CTRL_SLICE, F.LRX_SPOT_CTRL_SOURCE, F.LRX_SPOT_STATUS_STATE], []⟩
  | .lrxSpotStart .. => ⟨[.lanes, .mgmt], some [F.LRX_SPOT_STATUS_STATE], []⟩
  | .spotCaptureEnd .. => ⟨[.lanes, .mgmt, .mem], some [F.HSL_STATUS_PI_CODE, F.HSL_TPC_STATUS_LOCK,
    F.LRX_SPOT_STATUS_FREEWHEEL, F.LRX_SPOT_STATUS_LOS, F.LRX_SPOT_STATUS_PARITY, F.LRX_SPOT_STATUS_SOURCE,
    F.LRX_SPOT_STATUS_STATE, F.LRX_SPOT_STATUS_SWAP, F.LRX_TPC_STATUS_LOCK, F.LRX_TR_STATUS_FREQ, F.LRX_TR_STATUS_PI_CODE],
    []⟩
  | .lrxSpotRead .. | .leqStateRead .. => ⟨[], some [], []⟩
  | .eqUpdate .. => ⟨[.lanes], some (eqShown ++ [F.HSL_STATUS_PI_CODE, F.HSL_TPC_STATUS_LOCK, F.LRX_TPC_STATUS_LOCK,
    F.LRX_TR_STATUS_FREQ, F.LRX_TR_STATUS_PI_CODE]), []⟩
  | .eqWarmResume .. | .leqStateLoad .. => ⟨[.lanes], some eqShown, []⟩
  | .metricWindowEnd .. => ⟨[.lanes, .free], some [F.HSL_METRIC_SNR, F.HSL_METRIC_TAP_SAT, F.HSL_STATUS_PI_CODE,
    F.HSL_TPC_STATUS_LOCK, F.LEQ_DCOUNT_v_COUNT, F.LEQ_HIST_b_COUNT, F.LEQ_MET_CTRL_SEQ, F.LEQ_SNR_0_SNR_M1,
    F.LEQ_SNR_0_SNR_M3, F.LEQ_SNR_1_SNR_P1, F.LEQ_SNR_1_SNR_P3, F.LEQ_SNR_ALL_SNR, F.LEQ_STATUS_TAP_SAT,
    F.LRX_TPC_STATUS_LOCK, F.LRX_TR_STATUS_FREQ, F.LRX_TR_STATUS_PI_CODE], []⟩
  | .swingStep .. => ⟨[.lanes], some [F.LTX_SWING_NOW], []⟩
  | .trainingBurstEnd .. => ⟨[.lanes, .cal, .mem], some (idleShown ++ [F.MEM_LUT_STATUS_RETRAIN]), []⟩
  | .ltxLutWrite .. | .ltxLutRead .. => ⟨[.lanes, .mem], some [F.MEM_LUT_STATUS_RETRAIN], []⟩
  | .ltxLutClear .. => ⟨[.lanes], some [], []⟩
  | .xaStart .. => ⟨[.lanes, .aside, .mem], some [F.LTX_XA_STATUS_ITER, F.LTX_XA_STATUS_REASON, F.LTX_XA_STATUS_RMS,
    F.LTX_XA_STATUS_STATE, F.MEM_LUT_STATUS_RETRAIN], []⟩
  | .xaStop .. => ⟨[.time, .lanes, .mgmt, .mem], some (xaShown ++ [F.MEM_LUT_STATUS_RETRAIN]), []⟩
  | .xaStatsTimeout .. => ⟨[.time, .lanes, .aside], some xaShown, []⟩
  | .xaTrackTimer .. => ⟨[.lanes, .aside], some [F.LTX_XA_STATUS_STATE], []⟩
  | .xaGatherWindowEnd .. => ⟨[.lanes, .aside], some [F.LEQ_XA_GATHER_INVALID, F.LEQ_XA_GATHER_STATE], []⟩
  | .hostMarkerGroup .. => ⟨[.time, .lanes, .link, .path, .cal], some (fillShown ++ idleShown ++ [F.HSL_ALIGN_STATUS_LOCKED,
    F.HSL_ALIGN_STATUS_PCS_FIRST, F.HSL_ALIGN_STATUS_SKEW, F.PCS_ALIGN_STATUS_TX_ALIGNED]), []⟩
  | .lineMarkerGroup .. | .acquireComplete .. | .acqToExpiry .. | .alignToExpiry .. | .probeToExpiry .. | .backoffExpiry .. |
    .laneRejoin .. | .rejoinToExpiry .. | .linkRestart .. => ⟨[.time, .lanes, .link, .path, .cal], none, []⟩
  | .tpcWindowEnd .. => ⟨[.lanes, .path], some [F.HSL_STATUS_PI_CODE, F.HSL_TPC_STATUS_LOCK, F.HSL_TPC_STATUS_POS,
    F.LRX_TPC_STATUS_LOCK, F.LRX_TPC_STATUS_POS, F.LRX_TR_STATUS_FREQ, F.LRX_TR_STATUS_PI_CODE], []⟩
  | .tpcSlip .. => ⟨[.path], some [], []⟩
  | .helloTimer .. | .healthTimer .. | .loadingEvaluation .. | .loadingGraceEnd .. | .asdBufSet .. | .asdLoadReset .. =>
    ⟨[.aside], some [], []⟩
  | .asidePacketStart .. => ⟨[.aside, .free], some [F.ASD_STATUS_AUTH_STATE, F.ASD_STATUS_TX_BUSY], []⟩
  | .asidePacketEnd .. => ⟨[.lanes, .aside, .mgmt], some [F.ASD_STATUS_TX_BUSY, F.ASD_STATUS_TX_LOAD, F.ASD_TABLE_TX_k_TABLE],
    [F.LEQ_XA_GATHER_SETS, F.LEQ_XA_GATHER_STATE]⟩
  | .preambleDetect .. => ⟨[.lanes, .aside], some [F.ASD_LEVEL_LAST, F.ASD_LEVEL_REF, F.ASD_STATUS_RX_BUSY,
    F.HSL_STATUS_PI_CODE, F.HSL_TPC_STATUS_LOCK, F.LRX_TPC_STATUS_LOCK, F.LRX_TR_STATUS_FREQ, F.LRX_TR_STATUS_PI_CODE], []⟩
  | .helloReceived .. => ⟨[.time, .obs, .lanes, .link, .path, .aside, .cal], none, []⟩
  | .healthReceived .. | .loadingProposeReceived .. | .tagPacketReceived .. | .authChallengeReceived .. => ⟨[.lanes, .aside],
    some (packetShown ++ [F.HSL_STATUS_PI_CODE, F.HSL_TPC_STATUS_LOCK, F.LRX_TPC_STATUS_LOCK, F.LRX_TR_STATUS_FREQ,
    F.LRX_TR_STATUS_PI_CODE]), []⟩
  | .xadaptRequestReceived .. => ⟨[.lanes, .aside], some (packetShown ++ [F.HSL_STATUS_PI_CODE, F.HSL_TPC_STATUS_LOCK,
    F.LEQ_XA_GATHER_STATE, F.LRX_TPC_STATUS_LOCK, F.LRX_TR_STATUS_FREQ, F.LRX_TR_STATUS_PI_CODE]), []⟩
  | .xadaptFragmentReceived .. => ⟨[.time, .lanes, .aside, .mem, .free], some (packetShown ++ xaShown ++
    [F.HSL_STATUS_PI_CODE, F.HSL_TPC_STATUS_LOCK, F.LRX_TPC_STATUS_LOCK, F.LRX_TR_STATUS_FREQ, F.LRX_TR_STATUS_PI_CODE,
    F.LTX_XA_STATUS_RMS, F.MEM_LUT_STATUS_RETRAIN]), []⟩
  | .cueProposeReceived .. => ⟨[.time, .lanes, .aside], some (packetShown ++ [F.HSL_STATUS_PI_CODE, F.HSL_TPC_STATUS_LOCK,
    F.LRX_TPC_STATUS_LOCK, F.LRX_TR_STATUS_FREQ, F.LRX_TR_STATUS_PI_CODE, F.LTX_STATUS_SEALED]), []⟩
  | .cueAckReceived .. => ⟨[.time, .lanes, .aside, .mgmt], some (packetShown ++ xaShown ++ [F.HSL_STATUS_PI_CODE,
    F.HSL_TPC_STATUS_LOCK, F.LRX_TPC_STATUS_LOCK, F.LRX_TR_STATUS_FREQ, F.LRX_TR_STATUS_PI_CODE]), []⟩
  | .loadingConfirmReceived .. => ⟨[.lanes, .aside], some (packetShown ++ [F.ASD_STATUS_RX_LOAD, F.ASD_TABLE_RX_k_TABLE,
    F.HSL_STATUS_PI_CODE, F.HSL_TPC_STATUS_LOCK, F.LRX_TPC_STATUS_LOCK, F.LRX_TR_STATUS_FREQ, F.LRX_TR_STATUS_PI_CODE]), []⟩
  | .authResponseReceived .. => ⟨[.lanes, .aside, .mgmt], some (packetShown ++ [F.HSL_STATUS_PI_CODE, F.HSL_TPC_STATUS_LOCK,
    F.LRX_TPC_STATUS_LOCK, F.LRX_TR_STATUS_FREQ, F.LRX_TR_STATUS_PI_CODE]), []⟩
  | .partnerTimeout .. => ⟨[.time, .lanes, .aside], some (xaShown ++ [F.ASD_LEVEL_REF, F.ASD_STATUS_RX_LOAD,
    F.ASD_STATUS_TX_LOAD, F.ASD_STATUS_UP, F.ASD_TABLE_RX_k_TABLE, F.ASD_TABLE_TX_k_TABLE, F.LEQ_XA_GATHER_STATE]), []⟩
  | .authChallengeTimer .. => ⟨[.aside], some [F.ASD_STATUS_AUTH_STATE], []⟩
  | .asdSend .. => ⟨[.aside, .mgmt], some [], []⟩
  | .asdRxRead .. => ⟨[], some [], []⟩
  | .asdAuthStart .. => ⟨[.aside, .mgmt], some [F.ASD_STATUS_AUTH_STATE], []⟩
  | .authStartTimeout .. => ⟨[.mgmt], some [], []⟩
  | .payloadCrcFail .. => ⟨[.lanes, .aside], some [F.ASD_STATUS_RX_BUSY, F.HSL_STATUS_PI_CODE, F.HSL_TPC_STATUS_LOCK,
    F.LRX_TPC_STATUS_LOCK, F.LRX_TR_STATUS_FREQ, F.LRX_TR_STATUS_PI_CODE], []⟩
  | .calDeferredStart .. | .calRun .. | .calAbort .. => ⟨[.ctl, .cal, .mgmt], some (wingsShown ++ [F.CAL_STATE_HANDLE,
    F.CAL_STATE_TARGETS]), calShown⟩
  | .calRelease .. => ⟨[.cal], some [], []⟩
  | .calMeasurementEnd .. => ⟨[.cal, .mgmt, .free], some (wingsShown ++ [F.CAL_STATE_HANDLE, F.CAL_STATE_TARGETS,
    F.HSL_SLICE_FAILED_FAILED, F.HSL_SLICE_STATUS_FAILED_32, F.LRX_SLICE_FAILED_0_FAILED, F.LRX_SLICE_FAILED_1_FAILED,
    F.LRX_SLICE_STATUS_FAILED_64]), calShown⟩
  | .calHandover .. => ⟨[.lanes, .cal], some [F.HSL_SLICE_STATUS_UNDERSTUDY, F.LRX_SLICE_STATUS_UNDERSTUDY], []⟩
  | .calCorrectionUpdate .. => ⟨[.cal], some [], [F.LEQ_THR_CAL_c_DTC_0, F.LEQ_THR_CAL_c_DTC_1, F.LEQ_THR_CAL_c_DTC_2]⟩
  | .calTempRecompute .. => ⟨[.cal], some [], calShown⟩
  | .dacSkewMeasurementEnd .. => ⟨[.cal, .mgmt], some [F.CAL_STATE_HANDLE, F.CAL_STATE_TARGETS], calShown⟩
  | .bdacCalMeasurementEnd .. | .snsCalMeasurementEnd .. => ⟨[.ctl, .cal, .mgmt], some [F.CAL_STATE_HANDLE,
    F.CAL_STATE_TARGETS], calShown⟩
  | .loopTick .. => ⟨[.ctl], some [F.LOOP_ENGINE_STATUS_FAULT, F.LOOP_GRP_STATUS_g_CODE, F.LOOP_GRP_STATUS_g_ESCALATED,
    F.LOOP_GRP_STATUS_g_SLEW, F.LOOP_GRP_STATUS_g_WINNER, F.LOOP_HIST_FLAGS, F.LOOP_STATUS_CLAMP, F.LOOP_STATUS_CODE,
    F.LOOP_STATUS_FROZEN, F.LOOP_STATUS_LOST_ARB, F.LOOP_STATUS_MOVING, F.LOOP_STATUS_SLEW, F.LOOP_STATUS_STALE,
    F.LOOP_STATUS_STATE], outShown ++ [F.BDAC_STATUS_c_STATE]⟩
  | .loopClearHistory .. => ⟨[], some [F.LOOP_HIST_FLAGS], []⟩
  | .loopResume .. => ⟨[.ctl], some [F.LOOP_GRP_STATUS_g_ESCALATED, F.LOOP_STATUS_MOVING, F.LOOP_STATUS_STATE], []⟩
  | .loopTarget .. => ⟨[.ctl], some [F.LOOP_STATUS_MOVING], []⟩
  | .loopPreset .. | .snsCoefWrite .. | .snsCoefRead .. => ⟨[.ctl], some [], []⟩
  | .loopRead .. => ⟨[], some [], []⟩
  | .loopEngineRestart .. => ⟨[.eff], some [F.LOOP_ENGINE_STATUS_FAULT, F.LOOP_STATUS_STATE], []⟩
  | .bdacFirstCode .. => ⟨[.ctl], some (outShown ++ [F.BDAC_STATUS_c_STATE]), []⟩
  | .ditherUpdate .. => ⟨[.ctl], some outShown, []⟩
  | .bdacHoldEnd .. => ⟨[.ctl], some [F.BDAC_STATUS_c_APPLIED, F.BDAC_STATUS_c_HOLDING], []⟩
  | .bdacRange .. => ⟨[.eff, .ctl, .cal], some (outShown ++ [F.BDAC_CODE_c_CODE, F.BDAC_STATUS_c_RANGE,
    F.LOOP_GRP_STATUS_g_CODE, F.LOOP_STATUS_CODE]), []⟩
  | .snsSample .. => ⟨[.ctl, .cal], some [F.SNS_ENV_n_ENV, F.SNS_ENV_n_NOT_SETTLED, F.SNS_ENV_n_SEQ,
    F.SNS_LI_STATUS_n_NOT_SETTLED, F.SNS_LI_STATUS_n_SEQ, F.SNS_LI_n_I, F.SNS_LI_n_Q, F.SNS_OUT_n_NOT_SETTLED,
    F.SNS_OUT_n_OVER, F.SNS_OUT_n_SEQ, F.SNS_OUT_n_VALUE, F.SNS_PEAK_n_MAX, F.SNS_PEAK_n_MIN, F.SNS_RAW_n_RAW,
    F.SNS_RAW_n_SEQ, F.SNS_RMS_n_NOT_SETTLED, F.SNS_RMS_n_RMS, F.SNS_RMS_n_SEQ], []⟩
  | .snsSyncWrite .. => ⟨[.ctl, .cal], some [F.SNS_ENV_n_ENV, F.SNS_ENV_n_NOT_SETTLED, F.SNS_LI_STATUS_n_NOT_SETTLED,
    F.SNS_LI_n_I, F.SNS_LI_n_Q, F.SNS_OUT_n_NOT_SETTLED, F.SNS_OUT_n_VALUE, F.SNS_PEAK_n_MAX, F.SNS_PEAK_n_MIN,
    F.SNS_RAW_n_RAW, F.SNS_RMS_n_NOT_SETTLED, F.SNS_RMS_n_RMS], []⟩
  | .counterLoRead .. | .snapTake .. | .snapCopyDone .. => ⟨[.obs, .mgmt], some [], []⟩
  | .snapCtrlTake .. | .snapCtrlAck .. => ⟨[.obs], some [F.SNAP_CTRL_ACK_REQ, F.SNAP_CTRL_FLOW_IMG], []⟩
  | .snapRead .. => ⟨[], some [], []⟩
  | .flowImageCopyDone .. | .flowReplayLookup .. | .flowAgerVisit .. | .flowDump .. | .flowRelease .. | .flowFlush .. |
    .sampleSlotRaise .. => ⟨[.obs], some [], []⟩
  | .flowFrame .. => ⟨[.obs, .path, .free], some [], []⟩
  | .berWindowClose .. => ⟨[.obs, .free], some [F.CNT_BER_LOG, F.CNT_BER_NA, F.CNT_BER_SEQ, F.CNT_BER_UNDECODED], []⟩
  | .registerWrite .. | .regifErrInfoRearm .. | .memErrInfoRearm .. => ⟨[.eff, .time, .obs, .lanes, .link, .path, .aside,
    .ctl, .cal, .mgmt, .mem, .power, .sec, .free], none, []⟩
  | .votedFieldUpset .. | .spiStatus .. | .cmisPortBRead .. | .cmisPortBWrite .. | .cmisShadowRefresh .. => ⟨[.mgmt], some [],
    []⟩
  | .i2cAWrite .. => ⟨[.eff, .time, .obs, .lanes, .link, .path, .aside, .ctl, .cal, .mgmt, .mem, .faults, .power, .test, .sec,
    .free], none, []⟩
  | .i2cARead .. | .spiRead .. => ⟨[.obs, .mgmt, .free], some captureShown, []⟩
  | .spiWrite .. | .ringLayoutWrite .. | .dbCmdWrite .. | .dbCplAckWrite .. | .dbEvtAckWrite .. => ⟨[.eff, .time, .obs,
    .lanes, .link, .path, .aside, .ctl, .cal, .mgmt, .power], none, []⟩
  | .cmisLogApply .. => ⟨[.eff, .time, .obs, .lanes, .link, .path, .aside, .ctl, .cal, .mgmt], none, []⟩
  | .undefinedOpcode .. | .devNop .. | .cmisLoad .. | .eventsLost .. => ⟨[], some [], []⟩
  | .mgmtReady .. => ⟨[.eff, .time, .obs, .lanes, .link, .path, .aside, .ctl, .cal, .mgmt, .power, .test, .sec], none, []⟩
  | .lockstepMismatch .. => ⟨[.mgmt], some [], []⟩
  | .scrubWord .. => ⟨[.obs, .lanes, .ctl, .cal, .mgmt, .mem, .sec, .free], some [F.MEM_LAP_k_LAP, F.MEM_LUT_STATUS_RETRAIN],
    calShown⟩
  | .remapInstall .. | .memRemap .. => ⟨[.obs, .lanes, .ctl, .cal, .mgmt, .mem, .sec], some [F.MEM_LUT_STATUS_RETRAIN],
    calShown⟩
  | .memInject .. => ⟨[.obs, .lanes, .ctl, .cal, .mgmt, .sec, .free], some [], []⟩
  | .watchdogExpiry .. => ⟨[.mgmt, .faults], some [], []⟩
  | .crystalEdgeLoss .. => ⟨[.eff, .time, .obs, .lanes, .link, .path, .aside, .ctl, .cal, .mgmt, .power, .test, .free], none,
    []⟩
  | .crystalReturn .. => ⟨[.time, .lanes], some [], []⟩
  | .supplyWarnAssert .. => ⟨[.eff, .time, .obs, .lanes, .link, .path, .aside, .ctl, .cal, .mgmt, .faults, .power, .test,
    .free], none, []⟩
  | .supplyWarnRelease .. | .watchdogService .. => ⟨[.faults], some [], []⟩
  | .brownoutWindowClose .. => ⟨[.ctl, .cal, .faults], some outShown, []⟩
  | .pbFlashCopyStart .. | .pbRead .. | .pbRelease .. | .pbFlashRead .. | .pbMark .. => ⟨[], some [], []⟩
  | .pbFlashCopyDone .. => ⟨[], some [F.PB_STATS_COPIES], []⟩
  | .pwrEnter .. | .intermissionExitDone .. => ⟨[.time, .lanes, .link, .path, .aside, .ctl, .cal, .mgmt, .power], none, []⟩
  | .pwrExit .. => ⟨[.mgmt, .power], some [F.PWR_STATE_LAST_WAKE], []⟩
  | .wakeAssert .. | .darkSequencerStep .. | .stageDoorWrite .. | .rcTimerExpiry .. | .thermalReading .. | .powerOnReset .. |
    .pinReset .. | .supplyReset .. | .warmReset .. => ⟨[.eff, .time, .obs, .lanes, .link, .path, .aside, .ctl, .cal, .mgmt,
    .mem, .faults, .power, .test, .sec, .free], none, []⟩
  | .stageDoorRead .. | .rstMgmt .. => ⟨[.mgmt], some [], []⟩
  | .wakeFromDark .. => ⟨[.time, .cal, .mem, .faults, .power, .sec], some (startShown ++ [F.AVS_STATUS_TARGET,
    F.CUE_HC_UNCERT_UNCERT, F.CUE_SC_STATE_HC_ESTIMATED, F.FEC_POOL_AVAIL_H2L_AVAIL, F.FEC_POOL_AVAIL_H2L_PAUSED,
    F.FEC_POOL_AVAIL_H2L_SHORT, F.FEC_POOL_AVAIL_L2H_AVAIL, F.FEC_POOL_AVAIL_L2H_PAUSED, F.FEC_POOL_AVAIL_L2H_SHORT,
    F.FEC_POOL_AVAIL_NEED, F.HSL_REF_STATUS_HFCKO0_ON, F.HSL_REF_STATUS_HFCKO1_ON]), calShown⟩
  | .avsReadback .. => ⟨[.power], some [F.AVS_CURRENT_CURRENT, F.AVS_STATUS_FAULT, F.AVS_STATUS_READBACK], []⟩
  | .avsSlewStep .. => ⟨[.power], some [F.AVS_STATUS_TARGET], []⟩
  | .resetNRelease .. => ⟨[.time, .cal, .mgmt, .mem, .faults, .power, .sec], some (startShown ++ [F.FEC_POOL_AVAIL_H2L_AVAIL,
    F.FEC_POOL_AVAIL_H2L_PAUSED, F.FEC_POOL_AVAIL_H2L_SHORT, F.FEC_POOL_AVAIL_L2H_AVAIL, F.FEC_POOL_AVAIL_L2H_PAUSED,
    F.FEC_POOL_AVAIL_L2H_SHORT, F.FEC_POOL_AVAIL_NEED, F.HSL_REF_STATUS_HFCKO0_ON, F.HSL_REF_STATUS_HFCKO1_ON]), calShown⟩
  | .rstWarm .. => ⟨[.mgmt, .power], some [], []⟩
  | .mgmtRestart .. => ⟨[.time, .obs, .lanes, .mgmt, .mem, .faults, .sec], some (xaShown ++ [F.RING_STATUS_READY,
    F.RING_STATUS_RESTARTING, F.RST_CAUSE_MGMT_CAUSE, F.RST_COUNTS_MGMT, F.SEC_FW_STATUS_BOOT_FAIL]), []⟩
  | .rstPort .. => ⟨[.time, .obs, .lanes, .link, .path, .aside, .cal, .mgmt], none, []⟩
  | .intermissionEntryDone .. => ⟨[.mgmt, .power], some [F.PWR_STATE_LAST_WAKE, F.PWR_STATE_STATE], []⟩
  | .asdKeySet .. | .asdKeyClear .. => ⟨[.aside], some [], []⟩
  | .authOpen .. | .secOtpProgram .. => ⟨[.sec, .free], some [], []⟩
  | .authChallengeExpiry .. | .authClose .. | .lcDiagOpen .. | .secKeyRevoke .. | .alarmNPulseEnd .. | .imageHealthy .. =>
    ⟨[.sec], some [], []⟩
  | .authRespond .. => ⟨[.aside, .mgmt, .test, .sec], some (alarmShown ++ [F.SEC_ALARM_STATUS_AUTH_FAILS]), []⟩
  | .lcAdvance .. => ⟨[.aside, .test, .sec], some [], []⟩
  | .voltageGlitch .. | .clockGlitch .. => ⟨[.aside, .mgmt, .test, .sec], some alarmShown, []⟩
  | .fwBegin .. | .fwChunk .. | .fwCommit .. | .fwActivate .. | .fwAbort .. | .trialTimeout .. | .setSave .. |
    .flashProgramDone .. => ⟨[.mgmt, .sec], some [], []⟩
  | .pllLockLoss .. => ⟨[.eff, .time, .obs, .lanes, .link, .path, .aside, .ctl, .cal, .mgmt, .power, .test, .free], none, []⟩
  | .tstRehearse .. | .tstMemTest .. | .tstDress .. => ⟨[.mgmt, .test], some testShown, []⟩
  | .rehearsalEnd .. => ⟨[.eff, .time, .obs, .lanes, .link, .path, .aside, .ctl, .cal, .mgmt, .test], none, []⟩
  | .tstAbort .. => ⟨[.eff, .time, .obs, .lanes, .link, .path, .aside, .ctl, .cal, .mgmt, .test, .free], none, []⟩
  | .memTestEnd .. => ⟨[.mgmt, .mem, .test], some [F.TST_STATUS_CAUSE, F.TST_STATUS_RESULT, F.TST_STATUS_RUNNING], []⟩
  | .dressRehearsalEnd .. => ⟨[.time, .lanes, .link, .path, .aside, .cal, .mgmt, .power, .test], none, []⟩
  | .testLimitExceeded .. => ⟨[.eff, .time, .obs, .lanes, .link, .path, .aside, .ctl, .cal, .mgmt, .power, .test], none, []⟩
  | .jtagInstructionUpdate .. => ⟨[.time, .lanes, .link, .path, .aside, .cal, .mgmt, .test, .sec], none, []⟩
  | .jtagTapReset .. => ⟨[.time, .lanes, .link, .path, .cal, .test], none, []⟩

/-- The commands that store to the bulk area, or read it, where a word found lost reads 0 from then on (R363), or that reset
it, or set a layout of the rings and write them. -/
def usesBulk (i : Instr) : Bool :=
  match i with
  | .cueFire .. | .goFire .. | .registerWrite .. | .regifErrInfoRearm .. | .memErrInfoRearm .. | .i2cAWrite .. | .i2cARead ..
    | .spiWrite .. | .spiRead .. | .cmisPortBRead .. | .cmisPortBWrite .. | .cmisLoad .. | .cmisShadowRefresh .. | .mgmtReady
    .. | .memInject .. | .lrxSpotRead .. | .leqStateRead .. | .leqStateLoad .. | .ltxLutWrite .. | .ltxLutRead .. | .asdRxRead
    .. | .snsCoefWrite .. | .snsCoefRead .. | .snapRead .. | .flowDump .. | .scrubWord .. | .remapInstall .. | .memRemap .. |
    .pbRead .. | .pbFlashRead .. | .authOpen .. | .authRespond .. | .secOtpProgram .. | .fwBegin .. | .fwChunk .. |
    .powerOnReset .. | .pinReset .. | .supplyReset .. | .warmReset .. | .wakeAssert .. | .darkSequencerStep .. |
    .stageDoorWrite .. | .rcTimerExpiry .. | .thermalReading .. => true
  | _ => false

/-- The command, wherever it answers a next state, changes only what its footprint allows, and the bulk area only where it uses
it. -/
def Framed (i : Instr) : Prop :=
  ∀ s t, exec i s = .next t → (footprint i).holds s t ∧ (usesBulk i = false → BulkKept s t)

end Sys2Proof.Machine
end

