-- ==== Sys2Proof/Certificates/Slice0/Obligations.lean ====
section
/-! DEFINITION. The claims about the model, for the provers. -/

open Sys2Proof Sys2Proof.Machine

/-- Every command answers a next state, in every state: none faults and none is refused (log entry 1). -/
def Obligations.EveryCommandAnswers : Prop :=
 ∀ (i : Instr) (s : State), ∃ t, exec i s = .next t

/-- A step runs the command at the front of the queue on the state with the queue's rest. -/
def Obligations.StepRunsFrontCommand : Prop :=
  ∀ (i : Instr) (s : State) (rest : List Instr),
    step { s with pending := i :: rest } = exec i { s with pending := rest }

/-- With no command waiting, a step runs the command that Mexis reads from the ring's next slot, where it may consume one (R324);
else it is one crystal cycle (log entry 4): the house clock advances by its 20 ns (R23), every aligned show clock stands, and
where the crystal does not run nothing changes, but that a device waking from DARK counts the time. -/
def Obligations.EmptyQueueTicks : Prop :=
  ∀ s : State, s.pending = [] → (∀ i, slotInstr s = some i → step s = exec i s) ∧ (slotInstr s = none → ∃ t, step s = .next t ∧
    t.pending = [] ∧
    (s.time.crystalRuns = false → s.power.mode ≠ .wakingDark → t = s) ∧
    (s.time.crystalRuns = true → t.time.hc = s.time.hc + 20 ∧ t.time.tick = s.time.tick + 1 ∧
      ∀ p : Fin 8, (s.time.tx[p].freewheel = false → t.time.tx[p] = s.time.tx[p]) ∧
        (s.time.rx[p].freewheel = false → t.time.rx[p] = s.time.rx[p])))

/-- After reset every register field, and every effective value, is the value its table gives (R345); the window lists nothing,
nothing is queued, in progress or waiting, the part is in MANUFACTURE (R412), and no port's link is up. The values that no
table gives are the model's choice (log entry 2). -/
def Obligations.ResetValues : Prop :=
  (∀ (f : Field) (i j : Nat), rd State.reset f i j = f.reset j % 2 ^ f.width ∧
    rdE State.reset f i j = f.reset j % 2 ^ f.width) ∧
  State.reset.pending = [] ∧ State.reset.mgmt.window = [] ∧ State.reset.mgmt.inProgress = [] ∧
  State.reset.mgmt.waiting = [] ∧ State.reset.sec.otp.life = 1 ∧ State.reset.sec.session = false ∧
  (∀ p, p < 8 → rd State.reset F.PCS_LINK_STATUS_STATE p = 0) ∧
  rd State.reset F.RING_STATUS_READY = 0 ∧ canConsume State.reset = false

/-- The frame of error correction, the clocks and the port machines: wherever a command of the correction, clocking and link
families answers a next state, it changes only the parts of the state and the register fields that its footprint names, beside
what reporting writes (the rings, the counters, the prompt book); it leaves the queue; the window keeps its form; and the bulk
area stays, byte for byte, unless the command is one that uses it. -/
def Obligations.CorrectionClockingAndLinkFrames : Prop :=
  ∀ i : Instr, family i = .correction ∨ family i = .clocking ∨ family i = .link → Framed i

/-- The frame of the line and host receivers and the line transmitters: wherever a command of the receiver and transmitter
families answers a next state, it changes only the parts of the state and the register fields that its footprint names, beside
what reporting writes (the rings, the counters, the prompt book); it leaves the queue; the window keeps its form; and the bulk
area stays, byte for byte, unless the command is one that uses it. -/
def Obligations.ReceiverAndTransmitterFrames : Prop :=
  ∀ i : Instr, family i = .receiver ∨ family i = .transmitter → Framed i

/-- The frame of the aside channel: wherever a command of the aside family answers a next state, it changes only the parts of the
state and the register fields that its footprint names, beside what reporting writes (the rings, the counters, the prompt
book); it leaves the queue; the window keeps its form; and the bulk area stays, byte for byte, unless the command is one that
uses it. -/
def Obligations.AsideFrames : Prop :=
  ∀ i : Instr, family i = .aside → Framed i

/-- The frame of calibration, the loop engine, the bias DACs and the sense chain: wherever a command of the calibration and
control families answers a next state, it changes only the parts of the state and the register fields that its footprint
names, beside what reporting writes (the rings, the counters, the prompt book); it leaves the queue; the window keeps its
form; and the bulk area stays, byte for byte, unless the command is one that uses it. -/
def Obligations.CalibrationAndControlFrames : Prop :=
  ∀ i : Instr, family i = .calibration ∨ family i = .control → Framed i

/-- The frame of cues, GO and observability: wherever a command of the cues and observability families answers a next state, it
changes only the parts of the state and the register fields that its footprint names, beside what reporting writes (the rings,
the counters, the prompt book); it leaves the queue; the window keeps its form; and the bulk area stays, byte for byte, unless
the command is one that uses it. -/
def Obligations.CueAndObservabilityFrames : Prop :=
  ∀ i : Instr, family i = .cues ∨ family i = .observability → Framed i

/-- The frame of management, the register interface, the memories and the prompt book: wherever a command of the management and
storage families answers a next state, it changes only the parts of the state and the register fields that its footprint
names, beside what reporting writes (the rings, the counters, the prompt book); it leaves the queue; the window keeps its
form; and the bulk area stays, byte for byte, unless the command is one that uses it. -/
def Obligations.ManagementAndStorageFrames : Prop :=
  ∀ i : Instr, family i = .management ∨ family i = .storage → Framed i

/-- The frame of power, resets, security, firmware and test: wherever a command of the power, security and test families answers a
next state, it changes only the parts of the state and the register fields that its footprint names, beside what reporting
writes (the rings, the counters, the prompt book); it leaves the queue; the window keeps its form; and the bulk area stays,
byte for byte, unless the command is one that uses it. -/
def Obligations.PowerSecurityAndTestFrames : Prop :=
  ∀ i : Instr, family i = .power ∨ family i = .security ∨ family i = .test → Framed i

/-- The ring window keeps the canonical form of a memory at reset (log entry 6). -/
def Obligations.WindowWfAtReset : Prop :=
 WindowWf State.reset

/-- Whatever a step does, the ring window keeps the canonical form of a memory (log entry 6): every write of it, by a command, by
an engine, by a host or by a reset, keeps the addresses rising and lists no byte of 0. -/
def Obligations.WindowWfKeptByStep : Prop :=
 ∀ s t : State, WindowWf s → step s = .next t → WindowWf t

/-- Fuses are only ever burned, never cleared, and a field that has been programmed is not programmed again (R412): across a step,
the life cycle (R413) and the anti-rollback count (R429) do not fall, and no programmed key, policy, revocation or scorch
changes. -/
def Obligations.FusesOnlyBurn : Prop :=
 ∀ s t : State, step s = .next t → FusesKept s.sec.otp t.sec.otp

/-- A ring command waits, or is turned away before its own part (R324, R328, R428): where it is not the command that Mexis
consumes next, its descriptor stands in the ring, or, with the ring full, nothing happens; in recovery, an opcode that the
boot ROM does not serve completes with E_STATE; a descriptor with a reserved bit set completes with E_PARAM and the number of
the first word that has one; neither changes anything but that the slot is consumed. -/
def Obligations.RingCommandRefusals : Prop :=
  ∀ (i : Instr) (s : State) (r : CommandRow), commandRow i = some r →
    (r.opcode = 0x0401 → progHas s 0x0401 0 = false) →
    let c := r.descriptor
    (consumes (offer s r.opcode c) r.opcode c = false → exec i s = .next (offer s r.opcode c)) ∧
    (consumes (offer s r.opcode c) r.opcode c = true → slotUncorr (offer s r.opcode c) = false →
      (s.sec.recovery = true → bootRomServes r.opcode = false →
        exec i s = .next (complete (takenState r.opcode c s) c.tag r.opcode c.notify stState 0 0 0)) ∧
      (s.sec.recovery = false ∨ bootRomServes r.opcode = true → ∀ k, reservedWord c r.masks = some k →
        exec i s = .next (complete (takenState r.opcode c s) c.tag r.opcode c.notify stParam k 0 0)))

/-- An event is written to the event ring and advances its producer, or, with the ring full or the ring engine waiting for READY,
is dropped and counted; once there is room, EVENTS_LOST is written first and EVT_LOST clears; the prompt book records an event
of an enabled group either way (R330, R376). -/
def Obligations.EventsWrittenOrCounted : Prop :=
  ∀ (s : State) (e : Ev),
    (evtRoom s = false →
      (raiseEvent s e).mgmt.window = s.mgmt.window ∧
      rd (raiseEvent s e) F.RING_EVT_PROD_PROD = rd s F.RING_EVT_PROD_PROD ∧
      rd (raiseEvent s e) F.RING_STATUS_EVT_LOST = min 65535 (rd s F.RING_STATUS_EVT_LOST + 1)) ∧
    (evtRoom s = true → rd s F.RING_STATUS_EVT_LOST = 0 →
      (raiseEvent s e).mgmt.window = winPutWords s.mgmt.window
        (evtRingBase s + (rd s F.RING_EVT_PROD_PROD % evtRingSize s) * 32) (evWords s e) ∧
      rd (raiseEvent s e) F.RING_EVT_PROD_PROD = (rd s F.RING_EVT_PROD_PROD + 1) % 65536 ∧
      rd (raiseEvent s e) F.RING_STATUS_EVT_LOST = 0) ∧
    (evtRoom s = true → rd s F.RING_STATUS_EVT_LOST ≠ 0 → evtFill s + 1 < evtRingSize s →
      rd (raiseEvent s e) F.RING_EVT_PROD_PROD = (rd s F.RING_EVT_PROD_PROD + 2) % 65536 ∧
      rd (raiseEvent s e) F.RING_STATUS_EVT_LOST = 0) ∧
    (rd s F.RING_STATUS_EVT_LOST = 0 ∨ evtRoom s = false → ∀ g, bitsOf e.code 14 8 = g + 1 → g < 13 →
      (rd s F.PB_CTRL_GROUPS).testBit g = true →
      (raiseEvent s e).book.nextSeq = (s.book.nextSeq + 1) % 2 ^ 24)

/-- A refused write leaves every field of the register unchanged (R336), is one bus error in REGIF_ERR_COUNT, and is captured
where no error is held (R338): beside what reporting writes, only the capture's fields change, and those only from VALID = 0. -/
def Obligations.RefusedWriteChangesNothing : Prop :=
  ∀ (s : State) (iface : Iface) (a : BitVec 24) (d : Word) (cause : Nat), deviceUp s = true →
    writeRefusal s a.toNat d.toNat = some cause →
    Runs (.registerWrite iface a d []) s fun t =>
      t.eff = s.eff ∧ BulkKept s t ∧
      (∀ k, k ∉ reportKeys → (∀ f ∈ captureShown, f.hasKey k = false) → aGet t.fld k = aGet s.fld k) ∧
      (rd s F.REGIF_ERR_INFO_VALID = 0 → rd t F.REGIF_ERR_INFO_VALID = 1 ∧ rd t F.REGIF_ERR_INFO_CAUSE = cause ∧
        rd t F.REGIF_ERR_INFO_ADDR = a.toNat ∧ rd t F.REGIF_ERR_INFO_INTERFACE = iface.num) ∧
      (rd s F.REGIF_ERR_INFO_VALID = 1 → ∀ f ∈ captureShown, rd t f = rd s f) ∧
      (isPoisoned s 60 0x750 = false → wordErrs s 60 0x750 = 0 → counter t 0x750 = (counter s 0x750 + 1) % 2 ^ 48)

/-- A write of a sampling slot or a threshold counter with EN = 1 and K outside 4-40, or SOURCE outside 1-8, is refused as a bus
error, and the register stays as it was (R311). While a dress rehearsal tests the block, its registers are not reached at all
(R443, log entry 121). -/
def Obligations.SlotAndThresholdWritesRefused : Prop :=
  ∀ (s : State) (iface : Iface) (k : Fin 32) (d : Word), deviceUp s = true →
    dressTested s Regs.CNT_SLOT_s.base = false → d.toNat.testBit 31 = true →
    (bitsOf d.toNat 29 24 < 4 ∨ 40 < bitsOf d.toNat 29 24 →
      let a := Regs.CNT_SLOT_s.base + 4 * k.val
      Runs (.registerWrite iface (BitVec.ofNat 24 a) d []) s fun t =>
        t = signalWrite iface (busReport (busError s iface.num 6 a) iface.num (BusErrs.none.add 6 a)) (some 6) ∧
        rd t F.CNT_SLOT_s_EN k = rd s F.CNT_SLOT_s_EN k ∧ rd t F.CNT_SLOT_s_K k = rd s F.CNT_SLOT_s_K k ∧
        rd t F.CNT_SLOT_s_COUNTER k = rd s F.CNT_SLOT_s_COUNTER k) ∧
    (bitsOf d.toNat 27 24 < 1 ∨ 8 < bitsOf d.toNat 27 24 →
      let a := Regs.CNT_THR_s.base + 4 * k.val
      Runs (.registerWrite iface (BitVec.ofNat 24 a) d []) s fun t =>
        t = signalWrite iface (busReport (busError s iface.num 6 a) iface.num (BusErrs.none.add 6 a)) (some 6) ∧
        rd t F.CNT_THR_s_EN k = rd s F.CNT_THR_s_EN k ∧ rd t F.CNT_THR_s_SOURCE k = rd s F.CNT_THR_s_SOURCE k ∧
        rd t F.CNT_THR_s_INSTANCE k = rd s F.CNT_THR_s_INSTANCE k ∧ rd t F.CNT_THR_s_N k = rd s F.CNT_THR_s_N k)

/-- Snapshots, counters and windows complete (R289, R292-R297, R309). Commands: snapCopyDone, snapCtrlTake, snapCtrlAck, snapTake,
snapRead, counterLoRead, sampleSlotRaise, berWindowClose. -/
def Obligations.SnapshotsAndCountersComplete : Prop :=
  (∀ (s : State) (bank : Fin 2), bankCopying s bank = true →
    Runs (.snapCopyDone bank) s fun t =>
      (snapBank t bank).complete = true ∧ (snapBank t bank).values = (snapBank s bank).values ∧ t.obs.seq = s.obs.seq) ∧
  (∀ (s : State) (flowImg ackReq ack1 ack0 : Bool),
    vGet (snapAck s ackReq ack1 ack0).obs.full (nextBank s) false = false → bankCopying s (nextBank s) = false →
    Runs (.snapCtrlTake flowImg ackReq ack1 ack0) s fun t =>
      t.obs.lastBank = nextBank s ∧ t.obs.seq = s.obs.seq + 1 ∧ (snapBank t (nextBank s)).values = countersCaptured s s.obs.counters ∧
        bankCopying t (nextBank s) = true ∧ vGet t.obs.full (nextBank s) false = ackReq) ∧
  (∀ (s : State) (flowImg ackReq ack1 ack0 : Bool),
    Runs (.snapCtrlAck flowImg ackReq ack1 ack0) s fun t =>
      (∀ b, vGet t.obs.full b false =
        (ackReq && vGet s.obs.full b false && !(if b = 0 then ack0 else ack1))) ∧
      rd t F.SNAP_CTRL_ACK_REQ = b2n ackReq ∧ rd t F.SNAP_CTRL_FLOW_IMG = b2n flowImg ∧ t.obs.banks = s.obs.banks) ∧
  (∀ (s : State) (c : Cmd), Taken 0x0601 [] c s → vGet s.obs.full (nextBank s) false = false →
    bankCopying s (nextBank s) = false →
    GoesOn (.snapTake c) 0x0601 c s (nextBank s) 0 fun u =>
      let v := takenState 0x0601 c s
      u.obs.lastBank = nextBank s ∧ u.obs.seq = s.obs.seq + 1 ∧ (snapBank u (nextBank s)).values = countersCaptured v v.obs.counters) ∧
  (∀ (s : State) (c : Cmd), Taken 0x0602 [(2, 1), (3, 0x7FF), (4, 0xFFFFFFFF), (5, 0xFFFFFFFF)] c s →
    c.w 5 % 4 = 0 → c.w 3 + c.w 4 ≤ 2048 → c.w 5 + (512 + 8 * c.w 4) ≤ bulkEnd s →
    (snapBank s (c.w 2)).written = true → (snapBank s (c.w 2)).complete = true →
    CompletesOk (.snapRead c) 0x0602 c s (512 + 8 * c.w 4) 0 fun u =>
      (∀ k, k < 128 → winWord u.mgmt.window (windowBase + c.w 5 + 4 * k) = bankHeader u (c.w 2) k % 2 ^ 32) ∧
      (∀ k, k < c.w 4 →
        winWord u.mgmt.window (windowBase + c.w 5 + 512 + 8 * k) = bankCounter u (c.w 2) (c.w 3 + k) % 2 ^ 32 ∧
        winWord u.mgmt.window (windowBase + c.w 5 + 516 + 8 * k) = bankCounter u (c.w 2) (c.w 3 + k) / 2 ^ 32 % 2 ^ 32) ∧
      u.obs.banks = s.obs.banks) ∧
  (∀ (s : State) (iface : Iface) (i : Fin 2048), isPoisoned s 60 i = false → wordErrs s 60 i = 0 →
    Runs (.counterLoRead iface i) s fun t =>
      t.mgmt.readOut = BitVec.ofNat 32 (counter s i) ∧ vGet t.obs.hiLatch iface.num 0 = counter s i / 2 ^ 32 ∧
        t.obs.counters = s.obs.counters) ∧
  (∀ (s : State) (slot : Fin 32), (vGet s.obs.slots slot .reset).owed ≠ 0 →
    sinceNs s (vGet s.obs.slots slot .reset).lastRaise 10000 = true →
    Runs (.sampleSlotRaise slot) s fun t => (vGet t.obs.slots slot .reset).lastRaise = some s.time.tick) ∧
  (∀ (s : State) (lane : Fin 8),
    (2 ^ 30 ≤ (counter s (cntLine lane 15) + 2 ^ 48 - (vGet s.obs.ber lane .reset).bits) % 2 ^ 48 ∨
      sinceNs s (some (vGet s.obs.ber lane .reset).opened) 100000000 = true) →
    Runs (.berWindowClose lane) s fun t =>
      rd t F.CNT_BER_SEQ lane = (rd s F.CNT_BER_SEQ lane + 1) % 2 ^ F.CNT_BER_SEQ.width ∧
      rd t F.CNT_BER_UNDECODED lane = b2n (vGet s.obs.ber lane .reset).undecoded ∧
      (vGet t.obs.ber lane .reset).opened = s.time.tick ∧
      (vGet t.obs.ber lane .reset).bits = counter s (cntLine lane 15))

/-- The flow observer's commands complete (R299-R307, R309). A frame is parsed from its bytes: addresses, the outer VLAN tag, the
first type field after all tags, size. The first frame that the observer has tapped and not looked up, where its codeword is
not marked, is queued while its bank is busy or its key waits; else it is counted in the bucket that holds its key, or takes
the first free bucket of its group with the lowest free context. Commands: flowFrame, flowReplayLookup, flowAgerVisit,
flowImageCopyDone, flowDump, flowRelease, flowFlush. -/
def Obligations.FlowCommandsComplete : Prop :=
  (∀ (s : State) (p : Fin 8) (d : Dir) (bs : List (BitVec 8)), 18 ≤ bs.length → isTag (frameField bs 12 2) = false →
    (parseFrame s p d bs).da.toNat = frameField bs 0 6 ∧ (parseFrame s p d bs).sa.toNat = frameField bs 6 6 ∧
      (parseFrame s p d bs).vlan = none ∧ (parseFrame s p d bs).etherType.toNat = frameField bs 12 2 ∧
      (parseFrame s p d bs).size = bs.length) ∧
  (∀ (s : State) (p : Fin 8) (d : Dir) (bs : List (BitVec 8)), 22 ≤ bs.length → isTag (frameField bs 12 2) = true →
    isTag (frameField bs 16 2) = false →
    (parseFrame s p d bs).vlan = some (BitVec.ofNat 12 (frameField bs 14 2)) ∧
      (parseFrame s p d bs).etherType.toNat = frameField bs 16 2 ∧ (parseFrame s p d bs).size = bs.length) ∧
  (∀ (s : State) (p : Fin 8) (d : Dir) (busy : Bool), tapped s p d = [] → Runs (.flowFrame p d busy) s fun t => t = s) ∧
  (∀ (s : State) (p : Fin 8) (d : Dir) (y : TappedFrame) (rest : List TappedFrame) (busy : Bool), tapped s p d = y :: rest →
    y.marked = true →
    Runs (.flowFrame p d busy) s fun t =>
      t = flowUntracked (bump (takeFree (setTapped s p d rest)) (cntPort p d 14) 1) p d 0x749 ∧ tapped t p d = rest ∧
        t.obs.buckets = s.obs.buckets ∧ t.obs.contexts = s.obs.contexts ∧ t.obs.replay = s.obs.replay) ∧
  (∀ (s : State) (p : Fin 8) (d : Dir) (y : TappedFrame) (rest : List TappedFrame), tapped s p d = y :: rest →
    y.marked = false → (vGet s.obs.replay d.bit []).length < 64 →
    let f := parseFrame s p d y.bytes
    Runs (.flowFrame p d true) s fun t =>
      vGet t.obs.replay d.bit [] = vGet s.obs.replay d.bit [] ++
        [⟨p, d, flowKey (flowKeySel s p d) f, f.size, f.fcsGood, y.stamp, rdE s F.PCS_PORT_CTRL_MODE p == 1⟩] ∧
      tapped t p d = rest ∧ t.obs.buckets = s.obs.buckets ∧ t.obs.contexts = s.obs.contexts) ∧
  (∀ (s : State) (p : Fin 8) (d : Dir) (y : TappedFrame) (rest : List TappedFrame) (b : Nat) (x : FlowBucket),
    tapped s p d = y :: rest → y.marked = false →
    let f := parseFrame s p d y.bytes
    (∀ w ∈ vGet s.obs.replay d.bit [], w.key ≠ flowKey (flowKeySel s p d) f) →
    let g := bucketGroup (flowHash (rdE s F.FLOW_SEED_SEED) (flowKey (flowKeySel s p d) f) % 2 ^ 15)
    let r := g.foldl readBucket (bump (takeFree (setTapped s p d rest)) (cntPort p d 14) 1)
    bucketHit r g (flowKey (flowKeySel s p d) f) = some b → aGet r.obs.buckets b = some x →
    Runs (.flowFrame p d false) s fun t =>
      aGet t.obs.buckets b = some { shifted r b x with
        lastSeen := y.stamp
        fcsErr := if f.fcsGood then x.fcsErr else x.fcsErr + 1
        runts := if f.size < 64 then min 255 (x.runts + 1) else x.runts
        giants := if rdE s F.FLOW_GLOBAL_GIANT_MAX < f.size then min 255 (x.giants + 1) else x.giants
        uncorr := x.uncorr || rdE s F.PCS_PORT_CTRL_MODE p == 1 }) ∧
  (∀ (s : State) (p : Fin 8) (d : Dir) (y : TappedFrame) (rest : List TappedFrame) (b : Nat), tapped s p d = y :: rest →
    y.marked = false →
    let f := parseFrame s p d y.bytes
    (∀ w ∈ vGet s.obs.replay d.bit [], w.key ≠ flowKey (flowKeySel s p d) f) →
    let g := bucketGroup (flowHash (rdE s F.FLOW_SEED_SEED) (flowKey (flowKeySel s p d) f) % 2 ^ 15)
    let r := g.foldl readBucket (bump (takeFree (setTapped s p d rest)) (cntPort p d 14) 1)
    bucketHit r g (flowKey (flowKeySel s p d) f) = none → g.find? (bucketFree r) = some b →
    firstFreeCtx r.obs.contexts 0 < 16384 →
    Runs (.flowFrame p d false) s fun t => ∃ x, aGet t.obs.buckets b = some x ∧ x.valid = true ∧
      x.key = flowKey (flowKeySel s p d) f ∧ x.ctx = firstFreeCtx r.obs.contexts 0 ∧ x.lastSeen = y.stamp) ∧
  (∀ (s : State) (d : Dir) (w : FlowWork) (q : List FlowWork), vGet s.obs.replay d.bit [] = w :: q →
    Runs (.flowReplayLookup d) s fun t => vGet t.obs.replay d.bit [] = q) ∧
  (∀ (s : State) (b : Fin 32768) (x : FlowBucket), readBucket s b = s → aGet s.obs.buckets b = some x → x.valid = true →
    rdE s F.FLOW_AGE_AGE_LIMIT ≠ 0 →
    rdE s F.FLOW_AGE_AGE_LIMIT * 2 ^ 16 ≤
      (cueTick s (keyPort x.key) (if keyDir x.key = 0 then .tx else .rx) - (x.lastSeen + shiftOf s b)).toNat →
    Runs (.flowAgerVisit b) s fun t => aGet t.obs.buckets b = some { shifted s b x with valid := false }) ∧
  (∀ s : State, Runs .flowImageCopyDone s fun t => t = { s with obs := { s.obs with imageCopying := false } }) ∧
  (∀ (s : State) (c : Cmd) (im : FlowImage), Taken 0x0603 [(2, 0xFFFF), (3, 0xFFFFFFFF), (4, 0xFFFFFFFF)] c s →
    c.w 3 % 4 = 0 → 0 < c.w 4 → c.w 4 ≤ 3072 → c.w 3 + 64 * c.w 4 ≤ bulkEnd s → s.obs.image = some im →
    s.obs.imageCopying = false → (c.w 2 = 0 ∨ s.obs.imageLocked = true) →
    CompletesOk (.flowDump c) 0x0603 c s ((im.records.drop (c.w 2)).take (c.w 4)).length
      (im.seq.toNat * 2 ^ 16 + (if im.records.length ≤ c.w 2 + c.w 4 then 0xFFFF else c.w 2 + c.w 4)) fun u =>
        u.obs.imageLocked = !decide (im.records.length ≤ c.w 2 + c.w 4) ∧
        u.mgmt.window = winPutWords (takenState 0x0603 c s).mgmt.window (windowBase + c.w 3)
          (((im.records.drop (c.w 2)).take (c.w 4)).flatMap fun r =>
            words256 (bucketBits r.2.1) ++ words256 (ctxBits r.2.2))) ∧
  (∀ (s : State) (c : Cmd), Taken 0x0604 [] c s → s.obs.imageLocked = true →
    CompletesOk (.flowRelease c) 0x0604 c s 0 0 fun u => u.obs.imageLocked = false ∧ u.obs.image = s.obs.image) ∧
  (∀ (s : State) (c : Cmd), Taken 0x0605 [(2, 7), (3, 3)] c s → c.w 3 ≠ 0 → retained s 28 = false →
    CompletesOk (.flowFlush c) 0x0605 c s
      (s.obs.buckets.filter fun e =>
        e.2.valid && (keyPort e.2.key == c.w 2 && (c.w 3).testBit (keyDir e.2.key))).length 0 fun u =>
      ∀ b x, aGet u.obs.buckets b = some x → x.valid = true →
        ¬ (keyPort x.key = c.w 2 ∧ (c.w 3).testBit (keyDir x.key) = true))

/-- The bias DAC's commands complete (R266, R272-R276, R286): a first code reaches the converter through dither and ceiling, a
hold ends, dither advances every generator by 20 modulator cycles, and a range change scales the code, or, with the ceiling
locked, completes with E_LOCKED and changes nothing (R350). Commands: bdacFirstCode, bdacHoldEnd, ditherUpdate, bdacRange. -/
def Obligations.BiasCommandsComplete : Prop :=
  (∀ (s : State) (c : Fin 32), bdacState s c = 1 → rdE s F.BDAC_CTRL_c_EN c = 1 → rdE s F.BDAC_CTRL_c_SOURCE c = 0 →
    s.faults.window = none → rd s F.BDAC_STATUS_c_HOLDING c = 0 →
    Runs (.bdacFirstCode c) s fun t =>
      rd t F.BDAC_STATUS_c_STATE c = 2 ∧
      rd t F.BDAC_STATUS_c_APPLIED c =
        min (clampI 0 65535 ((rdE s F.BDAC_CODE_c_CODE c : Int) + (bdacChan s c).dither)).toNat
          (rd s F.BDAC_CEIL_c_CODE_MAX c) ∧
      rd t F.BDAC_STATUS_c_HOLDING c =
        if rd t F.BDAC_STATUS_c_APPLIED c / 1024 = rd s F.BDAC_STATUS_c_APPLIED c / 1024 then 0 else 1) ∧
  (∀ (s : State) (c : Fin 32), rd s F.BDAC_STATUS_c_HOLDING c = 1 → (bdacChan s c).arrived = none →
    Runs (.bdacHoldEnd c) s fun t =>
      rd t F.BDAC_STATUS_c_HOLDING c = 0 ∧ (bdacChan t c).out = rd s F.BDAC_STATUS_c_APPLIED c * rangeGain s c ∧
        rd t F.BDAC_STATUS_c_APPLIED c = rd s F.BDAC_STATUS_c_APPLIED c) ∧
  (∀ (s : State) (c : Fin 32) (n : Nat), rd s F.BDAC_STATUS_c_HOLDING c = 1 → (bdacChan s c).arrived = some n → n < 65536 →
    Runs (.bdacHoldEnd c) s fun t =>
      rd t F.BDAC_STATUS_c_APPLIED c = n ∧ (bdacChan t c).arrived = none ∧
      rd t F.BDAC_STATUS_c_HOLDING c = (if n / 1024 = rd s F.BDAC_STATUS_c_APPLIED c / 1024 then 0 else 1) ∧
      (bdacChan t c).out =
        (if n / 1024 = rd s F.BDAC_STATUS_c_APPLIED c / 1024 then n else rd s F.BDAC_STATUS_c_APPLIED c) * rangeGain s c) ∧
  (∀ s : State, s.power.mode = .show → Runs .ditherUpdate s fun t =>
    (∀ g : Fin 4, t.ctl.gens[g].phase = if rdE s F.BDAC_DGEN_g_EN g = 1 then
      (s.ctl.gens[g].phase + 20 * rdE s F.BDAC_DGEN_g_FREQ g) % 2 ^ 32 else 0) ∧
    ∀ c : Fin 32, (bdacChan t c).dither = ditherTerm t c) ∧
  (∀ (s : State) (c : Cmd), Taken 0x0510 [(2, 0x1F), (3, 1)] c s → rd s F.BDAC_STATUS_c_RANGE (c.w 2) ≠ c.w 3 →
    (c.w 3 = 0 → ∀ n ∈ rangeCodes s (c.w 2), n ≤ 0x7FFF) → (∀ l ∈ driversOf s (c.w 2), loopState s l = 2) →
    rehearsing s 6 (c.w 2) = false → rd s F.BDAC_CEIL_c_LOCK (c.w 2) = 0 →
    let n := rdE s F.BDAC_CODE_c_CODE (c.w 2)
    CompletesOk (.bdacRange c) 0x0510 c s ((if c.w 3 = 1 then (roundConv (n : Int) 2).toNat else 2 * n) % 2 ^ 16) 0 fun u =>
      rd u F.BDAC_STATUS_c_RANGE (c.w 2) = c.w 3 ∧ rd u F.BDAC_STATUS_c_HOLDING (c.w 2) = 1 ∧
      rdE u F.BDAC_CODE_c_CODE (c.w 2) = (if c.w 3 = 1 then (roundConv (n : Int) 2).toNat else 2 * n) % 2 ^ 16) ∧
  (∀ (s : State) (c : Cmd), Taken 0x0510 [(2, 0x1F), (3, 1)] c s → rd s F.BDAC_STATUS_c_RANGE (c.w 2) ≠ c.w 3 →
    (c.w 3 = 0 → ∀ n ∈ rangeCodes s (c.w 2), n ≤ 0x7FFF) → (∀ l ∈ driversOf s (c.w 2), loopState s l = 2) →
    rehearsing s 6 (c.w 2) = false → rd s F.BDAC_CEIL_c_LOCK (c.w 2) = 1 →
    Runs (.bdacRange c) s fun t => t = complete (takenState 0x0510 c s) c.tag 0x0510 c.notify stLocked 0 0 0)

/-- The sense chain's commands complete (R277-R282, R286). Commands: snsSample, snsSyncWrite, snsCoefWrite, snsCoefRead. -/
def Obligations.SenseCommandsComplete : Prop :=
  (∀ (s : State) (n : Fin 24) (b : Bool) (off : Fin 20), rdE s F.SNS_CTRL_n_EN n = 1 → s.power.mode = .show →
    (senseChan s n).cicPhase + 1 < rdE s F.SNS_DEC_n_CIC_R n →
    Runs (.snsSample n [b] off) s fun t =>
      let line := (if b then 1 else -1) :: (senseChan s n).delay
      senseChan t n = { senseChan s n with
        delay := line.dropLast
        integ := cicIntegrate (senseChan s n).integ (line.getLastD (if b then 1 else -1))
        cicPhase := (senseChan s n).cicPhase + 1 }) ∧
  (∀ (s : State) (n : Fin 24) (b : Bool) (off : Fin 20), rdE s F.SNS_CTRL_n_EN n = 1 → s.power.mode = .show →
    rdE s F.SNS_DEC_n_CIC_R n ≤ (senseChan s n).cicPhase + 1 → rdE s F.SNS_DEC_n_HB n = 0 → rdE s F.SNS_DEC_n_FIR_D n = 0 →
    (senseChan s n).unsettled = 0 → (senseChan s n).calibrating = false → s.test.fencedSense.testBit n = false →
    let line := (if b then 1 else -1) :: (senseChan s n).delay
    let x := cicGain (rdE s F.SNS_DEC_n_CIC_R n)
      (cicComb (senseChan s n).comb (cicIntegrate (senseChan s n).integ (line.getLastD (if b then 1 else -1)))[4]).2
    x.natAbs ≤ overloadMag →
    Runs (.snsSample n [b] off) s fun t =>
      rdI t F.SNS_RAW_n_RAW n = x ∧ rdI t F.SNS_OUT_n_VALUE n = satI 16 (roundConv x 256) ∧
      rd t F.SNS_OUT_n_NOT_SETTLED n = 0 ∧ rd t F.SNS_OUT_n_OVER n = 0 ∧
      rd t F.SNS_OUT_n_SEQ n = (rd s F.SNS_OUT_n_SEQ n + 1) % 2 ^ F.SNS_OUT_n_SEQ.width) ∧
  (∀ (s : State) (n : Fin 24) (b : Bool) (off : Fin 20), rdE s F.SNS_CTRL_n_EN n = 1 → s.power.mode = .show →
    rdE s F.SNS_DEC_n_CIC_R n ≤ (senseChan s n).cicPhase + 1 →
    let line := (if b then 1 else -1) :: (senseChan s n).delay
    overloadMag < (cicGain (rdE s F.SNS_DEC_n_CIC_R n)
      (cicComb (senseChan s n).comb (cicIntegrate (senseChan s n).integ (line.getLastD (if b then 1 else -1)))[4]).2).natAbs →
    Runs (.snsSample n [b] off) s fun t => rd t F.SNS_OUT_n_OVER n = 1 ∧ rd t F.SNS_OUT_n_NOT_SETTLED n = 1) ∧
  (∀ (s : State) (mask : BitVec 24), Runs (.snsSyncWrite mask) s fun t =>
    ∀ n : Fin 24, if mask.toNat.testBit n = true ∧ rehearsing s 7 n = false ∧ rdE s F.SNS_CTRL_n_EN n = 1 then
        rd t F.SNS_OUT_n_NOT_SETTLED n = 1 ∧ (senseChan t n).unsettled =
          settleSamples (rdE s F.SNS_CTRL_n_DELAY n) (rdE s F.SNS_DEC_n_CIC_R n) (rdE s F.SNS_DEC_n_HB n)
            (rdE s F.SNS_DEC_n_FIR_D n)
      else senseChan t n = senseChan s n) ∧
  (∀ (s : State) (c : Cmd), Taken 0x0511 [(2, 3), (3, 0xFFFFFFFF)] c s → c.w 3 % 4 = 0 → c.w 3 + 256 ≤ bulkEnd s →
    (∀ w ∈ (fetchWords (takenState 0x0511 c s) (windowBase + c.w 3) 64).2, signExtended16 w = true) →
    coefInUse s (c.w 2) = false →
    CompletesOk (.snsCoefWrite c) 0x0511 c s 0 0 fun u =>
      ∀ i, i < 64 → aGet u.ctl.coefs (64 * c.w 2 + i) =
        some (toSigned 16 ((fetchWords (takenState 0x0511 c s) (windowBase + c.w 3) 64).2.getD i 0))) ∧
  (∀ (s : State) (c : Cmd), Taken 0x0512 [(2, 3), (3, 0xFFFFFFFF)] c s → c.w 3 % 4 = 0 → c.w 3 + 256 ≤ bulkEnd s →
    CompletesOk (.snsCoefRead c) 0x0512 c s 256 0 fun u =>
      ∀ i, i < 64 → winWord u.mgmt.window (windowBase + c.w 3 + 4 * i) = ofSigned 32 ((coefSet u (c.w 2)).getD i 0))

/-- The loop engine's commands complete (R249, R254, R258, R259, R261, R262, R267, R269). Commands: loopTick, loopClearHistory,
loopResume, loopTarget, loopPreset, loopRead, loopEngineRestart. -/
def Obligations.LoopCommandsComplete : Prop :=
  (∀ s : State, s.power.mode = .show → s.faults.window = none → Runs (.loopTick false false) s fun t =>
    t.ctl.tick = s.ctl.tick + 1 ∧
    ∀ c code, s.ctl.pendingCodes = [(c, code)] → c < 32 → rdE s F.BDAC_CTRL_c_EN c = 1 →
      (bdacChan t c).loopCode = some code) ∧
  (∀ (s : State) (mismatch parity : Bool), s.power.mode = .show → (mismatch || parity) = true →
    Runs (.loopTick mismatch parity) s fun t =>
      t.ctl.tick = s.ctl.tick + 1 ∧ rd t F.LOOP_ENGINE_STATUS_FAULT = 1 ∧ t.ctl.pendingCodes = [] ∧
      ∀ l : Fin 32, loopState t l = if loopState s l = 0 then 0 else 6) ∧
  (∀ (s : State) (c : Cmd), Taken 0x0501 [(2, 0xFFFFFFFF)] c s → c.w 2 ≠ 0 →
    (∀ l ∈ bitsSet 32 (c.w 2), loopRehearsing s l = false) →
    CompletesOk (.loopClearHistory c) 0x0501 c s
      ((bitsSet 32 (c.w 2)).foldl (fun a l => a ||| rd s F.LOOP_HIST_FLAGS l) 0) 0 fun u =>
        ∀ l : Fin 32, rd u F.LOOP_HIST_FLAGS l = if (c.w 2).testBit l then 0 else rd s F.LOOP_HIST_FLAGS l) ∧
  (∀ (s : State) (c : Cmd), Taken 0x0502 [(2, 0x1F)] c s → loopState s (c.w 2) = 4 → feedbackLost s (c.w 2) = false →
    loopRehearsing s (c.w 2) = false →
    CompletesOk (.loopResume c) 0x0502 c s 0 0 fun u =>
      loopState u (c.w 2) =
          (if inEscalated s (c.w 2) && escalationBlocked s (loopGroup s (c.w 2)) then runState s (c.w 2) else 1) ∧
        (c.w 2 < 32 → (loopRec u (c.w 2)).first = (comesBack (loopRec s (c.w 2))).first)) ∧
  (∀ (s : State) (c : Cmd), Taken 0x0502 [(2, 0x1F)] c s → (loopState s (c.w 2) = 4 → feedbackLost s (c.w 2) = false) →
    inEscalated s (c.w 2) = true →
    escalationBlocked s (loopGroup s (c.w 2)) = false → loopRehearsing s (c.w 2) = false →
    CompletesOk (.loopResume c) 0x0502 c s 0 0 fun u => rd u F.LOOP_GRP_STATUS_g_ESCALATED (loopGroup s (c.w 2)) = 0) ∧
  (∀ (s : State) (c : Cmd), Taken 0x0503 [(2, 0x1F), (3, 0xFFFF)] c s → loopState s (c.w 2) ≠ 0 →
    loopRehearsing s (c.w 2) = false →
    CompletesOk (.loopTarget c) 0x0503 c s 0 0 fun u =>
      c.w 2 < 32 → loopRec u (c.w 2) = { loopRec s (c.w 2) with target := toSigned 16 (c.w 3) }) ∧
  (∀ (s : State) (c : Cmd), Taken 0x0504 [(2, 0x1F), (3, 0xFFFFFFFF)] c s → loopState s (c.w 2) = 2 →
    rdEI s F.LOOP_ILIM_m_LIMIT (c.w 2) 0 ≤ toSigned 32 (c.w 3) → toSigned 32 (c.w 3) ≤ rdEI s F.LOOP_ILIM_m_LIMIT (c.w 2) 1 →
    loopRehearsing s (c.w 2) = false →
    CompletesOk (.loopPreset c) 0x0504 c s 0 0 fun u =>
      c.w 2 < 32 → loopRec u (c.w 2) = { loopRec s (c.w 2) with integ := toSigned 32 (c.w 3) * 256 }) ∧
  (∀ (s : State) (c : Cmd), Taken 0x0505 [(2, 0x1F)] c s → loopRehearsing s (c.w 2) = false →
    CompletesOk (.loopRead c) 0x0505 c s (ofSigned 32 ((loopRec s (c.w 2)).integ / 256))
      (ofSigned 16 (loopRec s (c.w 2)).sp * 2 ^ 16 + ofSigned 16 (loopRec s (c.w 2)).pv) fun u => u.ctl = s.ctl) ∧
  (∀ (s : State) (c : Cmd), Taken 0x0506 [] c s → rd s F.LOOP_ENGINE_STATUS_FAULT = 1 →
    (∀ g, g < 8 → rehearsing s 5 g = false) →
    CompletesOk (.loopEngineRestart c true) 0x0506 c s 0 0 fun u =>
      rd u F.LOOP_ENGINE_STATUS_FAULT = 0 ∧
      ∀ l : Fin 32, loopState s l ≠ 0 → loopFenced s l = false → loopState u l = 2 ∧ rdE u F.LOOP_CTRL_MODE l = 2)

/-- R256: STALE sets at the end of the third consecutive period without a fresh sample, and clears with the next fresh sample. -/
def Obligations.StaleFollowsFreshSamples : Prop :=
  ∀ (s : State) (l : Fin 32),
    (inputFresh (loopRec s l) (loopInput s l) = false →
      (loopRec (loopPeriod s l) l).misses = (loopRec s l).misses + 1 ∧
      (rd (loopPeriod s l) F.LOOP_STATUS_STALE l =
        if 3 ≤ (loopRec s l).misses + 1 then 1 else rd s F.LOOP_STATUS_STALE l)) ∧
    (inputFresh (loopRec s l) (loopInput s l) = true → rd s F.LOOP_ENGINE_STATUS_FALLBACK = 0 →
      (loopRec (loopPeriod s l) l).misses = 0 ∧ rd (loopPeriod s l) F.LOOP_STATUS_STALE l = 0)

/-- The port machine's commands complete (R165-R181). Commands: acquireComplete, acqToExpiry, alignToExpiry, probeToExpiry,
backoffExpiry, laneRejoin, rejoinToExpiry, linkRestart. -/
def Obligations.LinkCommandsComplete : Prop :=
  (∀ (s : State) (p : Fin 8), linkState s p = 1 → s.path.modeChange = false →
    (∀ n ∈ portLines s p, rd s F.LRX_STATUS_LOS n = 0 ∧ rd s F.LRX_STATUS_LOL n = 0 ∧ rd s F.LEQ_STATUS_STATE n = 2) →
    (∃ x ∈ portLines s p, (lockOf s x).state ≠ 2) →
    Runs (.acquireComplete p) s fun t => linkState t p = 2 ∧ rd t F.PCS_LINK_STATUS_REASON p = 0) ∧
  (∀ (s : State) (p : Fin 8), linkState s p = 1 → s.path.modeChange = false →
    (∀ n ∈ portLines s p, rd s F.LRX_STATUS_LOS n = 0 ∧ rd s F.LRX_STATUS_LOL n = 0 ∧ rd s F.LEQ_STATUS_STATE n = 2) →
    (∀ x ∈ portLines s p, (lockOf s x).state = 2) → (∀ i, i < portWidth s p → laneRight s p i = true) →
    deskewGood s p = true →
    Runs (.acquireComplete p) s fun t => linkState t p = 4 ∧ rd t F.PCS_ALIGN_STATUS_RX_DESKEWED p = 1) ∧
  (∀ (s : State) (p : Fin 8), linkState s p = 1 → (∃ n ∈ portLines s p, rd s F.LRX_STATUS_LOS n = 0) →
    Runs (.acqToExpiry p) s fun t =>
      linkState t p = 0 ∧ rd t F.PCS_LINK_STATUS_BACKOFF p = 1 ∧ rd t F.PCS_LINK_STATUS_REASON p = 2) ∧
  (∀ (s : State) (p : Fin 8), linkState s p = 2 → widthMismatch s p = false → rdE s F.PCS_LINK_CTRL_PROBE_EN p = 0 →
    rdE s F.PCS_LINK_CTRL_MAP_MODE p = 0 →
    Runs (.alignToExpiry p) s fun t =>
      linkState t p = 0 ∧ rd t F.PCS_LINK_STATUS_BACKOFF p = 1 ∧ rd t F.PCS_LINK_STATUS_REASON p = 3) ∧
  (∀ (s : State) (p : Fin 8), linkState s p = 2 → widthMismatch s p = false → rdE s F.PCS_LINK_CTRL_PROBE_EN p = 1 →
    rdE s F.PCS_LINK_CTRL_MAP_MODE p = 0 → (linkPort s p).failed = false → (portLines s p).length = portWidth s p →
    (∃ x ∈ portLines s p, (lockOf s x).state ≠ 2) →
    Runs (.alignToExpiry p) s fun t => linkState t p = 3 ∧ rd t F.PCS_LINK_STATUS_PROBED p = 1) ∧
  (∀ (s : State) (p : Fin 8), linkState s p = 3 → (portLines s p).length = portWidth s p →
    (∃ x ∈ portLines s p, probeId s p x = none) →
    Runs (.probeToExpiry p) s fun t =>
      linkState t p = 0 ∧ rd t F.PCS_LINK_STATUS_BACKOFF p = 1 ∧ rd t F.PCS_LINK_STATUS_REASON p = 3) ∧
  (∀ (s : State) (p : Fin 8), rd s F.PCS_LINK_STATUS_BACKOFF p = 1 → linkState s p = 0 →
    rdE s F.PCS_PORT_CTRL_ADMIN_UP p = 1 → rdE s F.PCS_LINK_CTRL_HOLD p = 0 → s.power.mode = .show →
    Runs (.backoffExpiry p) s fun t =>
      linkState t p = 1 ∧ rd t F.PCS_LINK_STATUS_BACKOFF p = 0 ∧
        rd t F.PCS_LINK_TIME_RESTARTS p = (rd s F.PCS_LINK_TIME_RESTARTS p + 1) % 2 ^ F.PCS_LINK_TIME_RESTARTS.width) ∧
  (∀ (s : State) (x : Fin 8) (p i d : Nat), portOfLine s x = some p → logicalOf s p x = some i →
    rejoinDelay s p x = some d → linkState s p = 5 → (lostMask s p).testBit i = true → rd s F.LRX_STATUS_LOS x = 0 →
    laneRight s p i = true → (eqRec s (.line x)).dd = true →
    Runs (.laneRejoin x) s fun t =>
      (lostMask t p).testBit i = false ∧ (lockOf t x).skew = d ∧ (lostMask s p = 2 ^ i → linkState t p = 4)) ∧
  (∀ (s : State) (p i : Fin 8), linkState s p = 5 → (lostMask s p).testBit i = true →
    Runs (.rejoinToExpiry p i) s fun t =>
      linkState t p = 1 ∧ rd t F.PCS_LINK_STATUS_REASON p = 9 ∧ lostMask t p = 0) ∧
  (∀ (s : State) (c : Cmd), Taken 0x0201 [(2, 7)] c s → portEnabled s (c.w 2) = true →
    rdE s F.PCS_PORT_CTRL_ADMIN_UP (c.w 2) = 1 → portRehearsing s (c.w 2) = false →
    CompletesOk (.linkRestart c) 0x0201 c s 0 0 fun u =>
      (rdE s F.PCS_LINK_CTRL_HOLD (c.w 2) = 0 →
        linkState u (c.w 2) = 1 ∧ rd u F.PCS_LINK_STATUS_REASON (c.w 2) = 10) ∧
      (rdE s F.PCS_LINK_CTRL_HOLD (c.w 2) = 1 → linkState u (c.w 2) = 6))

/-- The receiver's gain, CTLE and timing commands complete (R56-R58, R68-R71). Commands: ctleDwellEnd, vgaMeasurement, vgaStep,
lockWindowEnd, losSet, losClear. -/
def Obligations.ReceiverCommandsComplete : Prop :=
  (∀ (s : State) (l : LaneId) (codes : List Int) (q : CtleSearch), (front s l).search = some q → frontHeld s l = false →
    laneRuns s l = true → q.code < 16 →
    Runs (.ctleDwellEnd l codes) s fun t =>
      let dist := ((rhoOf codes : Int) - ctleTarget s l).natAbs
      let best := match q.best with
        | none => (q.code, dist, rhoOf codes)
        | some b => if dist < b.2.1 then (q.code, dist, rhoOf codes) else b
      if q.code < ctleMax s l then (front t l).search = some ⟨q.code + 1, some best⟩ ∧ ctleInUse t l = q.code + 1
      else (front t l).search = none ∧ ctleInUse t l = best.1 % 16) ∧
  (∀ (s : State) (l : LaneId) (codes : List Int), laneRuns s l = true →
    Runs (.vgaMeasurement l codes) s fun t =>
      let level := rmsLevel (codes.drop (codes.length - 65536))
      let low := if levelLow level (vgaTarget s l) then min 4 ((front s l).vgaLow + 1) else 0
      let high := if levelHigh level (vgaTarget s l) then min 4 ((front s l).vgaHigh + 1) else 0
      (front t l).level = level ∧ (front t l).vgaLow = low ∧ (front t l).vgaHigh = high ∧
        (front t l).vgaDue = if low = 4 then 1 else if high = 4 then -1 else 0) ∧
  (∀ (s : State) (l : LaneId), vgaDueStep s l ≠ 0 → vgaAtLimit s l (vgaDueStep s l) = false → frontHeld s l = false →
    laneRuns s l = true → receiving s l = false → capturing s l = false → sinceNs s (front s l).vgaLast 64000 = true →
    Runs (.vgaStep l) s fun t =>
      vgaCode t l = ((vgaCode s l : Int) + vgaDueStep s l).toNat % 32 ∧ (front t l).vgaLast = some s.time.tick ∧
        (eqRec t l).ffe = (vgaRescale (eqRec s l) (vgaDueStep s l == 1)).ffe) ∧
  (∀ (s : State) (n : Fin 8), vgaDueStep s (.line n) ≠ 0 → vgaAtLimit s (.line n) (vgaDueStep s (.line n)) = false →
    frontHeld s (.line n) = false → laneRuns s (.line n) = true →
    (receiving s (.line n) = true ∨ capturing s (.line n) = true) →
    Runs (.vgaStep (.line n)) s fun t =>
      vgaCode t (.line n) = vgaCode s (.line n) ∧ rd t F.LRX_VGA_STATUS_DEFERRED n = 1) ∧
  (∀ (s : State) (l : LaneId) (codes : List Int),
    let u := rxStream s l codes
    laneRuns u l = true → timingHeld u l = false →
    Runs (.lockWindowEnd l codes) s fun t =>
      let ok := windowPasses u l (front u l).short (rxRec u l)
      (front t l).freq = (front u l).freq ∧ (front t l).phase = (front u l).phase ∧ (rxRec t l).plus = 0 ∧ (rxRec t l).minus = 0 ∧
      (ok = true → (if (front u l).short then 4 else 8) ≤ min 8 ((front u l).pass + 1) → lolForced u l = false →
        laneLol t l = false) ∧
      (ok = false → 1 ≤ (front u l).fail → laneLol t l = true)) ∧
  (∀ (s : State) (l : LaneId) (env : Option Nat), laneRuns s l = true → losGrounds s l env = true →
    (if env.isNone then losRmsOn s l else losEnvOn s l) = true → Runs (.losSet l env) s fun t => laneLos t l = true) ∧
  (∀ (s : State) (l : LaneId) (env : Option Nat), laneRuns s l = true → s.test.jtagPins = false → losClearGrounds s l env = true →
    (if env.isNone then losRmsOn s l else losEnvOn s l) = true →
    (if env.isNone then (front s l).losEnv && losEnvOn s l else (front s l).losRms && losRmsOn s l) = false →
    Runs (.losClear l env) s fun t => laneLos t l = false)

/-- The slice monitor, the swaps and the slice commands complete (R62-R67, R76, R199, R490). Commands: sliceMonitorWindow,
sliceFaultSwap, lrxSliceRetire, hslSliceRetire, lrxSliceRestore, hslSliceRestore, sliceRestoreTestEnd. -/
def Obligations.SliceCommandsComplete : Prop :=
  (∀ (s : State) (l : LaneId) (codes : List (List Int)), laneRuns s l = true →
    (monEnable s l = false ∨ frontHeld s l = true ∨ (slicesOf s l).skip ≠ 0) →
    Runs (.sliceMonitorWindow l codes) s fun t =>
      slicesOf t l = { slicesOf s l with
        skip := if laneLos s l then (slicesOf s l).skip else (slicesOf s l).skip - 1, runs := [], fresh := [] }) ∧
  (∀ (s : State) (l : LaneId) (codes : List (List Int)), monEnable s l = true →
    laneRuns s l = true → frontHeld s l = false → (slicesOf s l).skip = 0 →
    let stats := windowStats (slicesOf s l) codes
    (∀ x ∈ stats, sliceChecks s l stats x = [false, false, false, false]) →
    Runs (.sliceMonitorWindow l codes) s fun t =>
      (slicesOf t l).zeroed = (slicesOf s l).zeroed ∧ (slicesOf t l).pending = (slicesOf s l).pending ∧
        (slicesOf t l).place = (slicesOf s l).place) ∧
  (∀ (s : State) (l : LaneId) (codes : List (List Int)) (k : Nat) (x : SliceStat),
    monEnable s l = true → laneRuns s l = true → frontHeld s l = false → (slicesOf s l).skip = 0 →
    (slicesOf s l).place.Nodup → k ∉ (slicesOf s l).fresh →
    (k, x) ∈ (slicesOf s l).place.zip (windowStats (slicesOf s l) codes) → x.stuck = true →
    Runs (.sliceMonitorWindow l codes) s fun t => k ∈ (slicesOf t l).zeroed) ∧
  (∀ (s : State) (l : LaneId) (k cause : Nat), (slicesOf s l).pending = some (k, cause) → k < sliceCount l →
    Runs (.sliceFaultSwap l) s fun t =>
      (slicesOf t l).pending = none ∧ understudy t l = k ∧ sliceFailed t l k = true ∧
        (slicesOf t l).place = (slicesOf s l).place.map fun j => if j = k then understudy s l else j) ∧
  (∀ (s : State) (c : Cmd), Taken 0x0303 [(2, 7), (3, 0x7F)] c s →
    let l := lineOf (c.w 2)
    c.w 3 ≤ 64 → (lanePort s l).isSome = true → c.w 3 ≠ understudy s l → sliceFailed s l (understudy s l) = false →
    noSpare s l = false → (slicesOf s l).pending = none → laneRehearsing s l = false → c.w 3 ∉ (slicesOf s l).zeroed →
    GoesOn (.lrxSliceRetire c) 0x0303 c s l.num 0 fun u => (slicesOf u l).pending = some (c.w 3, 5)) ∧
  (∀ (s : State) (c : Cmd), Taken 0x0331 [(2, 0xF), (3, 0x3F)] c s →
    let l := hostOf (c.w 2)
    c.w 3 ≤ 32 → (lanePort s l).isSome = true → c.w 3 ≠ understudy s l → sliceFailed s l (understudy s l) = false →
    noSpare s l = false → (slicesOf s l).pending = none → laneRehearsing s l = false → c.w 3 ∉ (slicesOf s l).zeroed →
    GoesOn (.hslSliceRetire c) 0x0331 c s l.num 0 fun u => (slicesOf u l).pending = some (c.w 3, 5)) ∧
  (∀ (s : State) (c : Cmd), Taken 0x0304 [(2, 7), (3, 0x7F)] c s →
    let l := lineOf (c.w 2)
    (lanePort s l).isSome = true → c.w 3 = understudy s l → sliceFailed s l (c.w 3) = true →
    (slicesOf s l).testing = false → laneRehearsing s l = false →
    GoesOn (.lrxSliceRestore c) 0x0304 c s l.num 0 fun u => (slicesOf u l).testing = true ∧ inWings u l = true) ∧
  (∀ (s : State) (c : Cmd), Taken 0x0332 [(2, 0xF), (3, 0x3F)] c s →
    let l := hostOf (c.w 2)
    (lanePort s l).isSome = true → c.w 3 = understudy s l → sliceFailed s l (c.w 3) = true →
    (slicesOf s l).testing = false → laneRehearsing s l = false →
    GoesOn (.hslSliceRestore c) 0x0332 c s l.num 0 fun u => (slicesOf u l).testing = true ∧ inWings u l = true) ∧
  (∀ (s : State) (l : LaneId) (pass : Bool), (slicesOf s l).testing = true →
    Runs (.sliceRestoreTestEnd l pass) s fun t =>
      (slicesOf t l).testing = false ∧ inWings t l = false ∧
      sliceFailed t l (understudy s l) = (!pass && sliceFailed s l (understudy s l)) ∧
      (pass = true → noSpare t l = false) ∧
      (pass = true → noSpare s l = true → ∀ e rest, (slicesOf s l).second = e :: rest → (slicesOf t l).pending = some e))

/-- The spotlight's commands complete (R72-R76). Commands: spotCtrlStart, lrxSpotStart, spotCaptureEnd, lrxSpotRead. -/
def Obligations.SpotlightCommandsComplete : Prop :=
  (∀ (s : State) (n : Fin 8) (slice : BitVec 7) (source : BitVec 2), lanePowered s (.line n) = true →
    laneRehearsing s (.line n) = false → rd s F.LRX_SPOT_STATUS_STATE n ≠ 1 →
    (source.toNat = 3 → inService s n slice.toNat = true) →
    Runs (.spotCtrlStart n slice source) s fun t =>
      rd t F.LRX_SPOT_STATUS_STATE n = 1 ∧ (spotOf t n).source = source.toNat ∧ (spotOf t n).slice = slice.toNat) ∧
  (∀ (s : State) (c : Cmd), Taken 0x0301 [(2, 7), (3, 0x7F03)] c s → c.w 3 / 2 ^ 8 ≤ 64 →
    (portOfLine s (c.w 2)).isSome = true → (c.w 3 % 4 = 3 → inService s (c.w 2) (c.w 3 / 2 ^ 8) = true) →
    rd s F.LRX_SPOT_STATUS_STATE (c.w 2) ≠ 1 → rehearsing s 1 (c.w 2) = false →
    GoesOn (.lrxSpotStart c) 0x0301 c s (c.w 2) 0 fun u => rd u F.LRX_SPOT_STATUS_STATE (c.w 2) = 1) ∧
  (∀ (s : State) (n : Fin 8) (codes : List Int) (parity : Bool),
    let u := rxStream s (lineOf n) codes
    rd u F.LRX_SPOT_STATUS_STATE n = 1 →
    Runs (.spotCaptureEnd n codes parity) s fun t =>
      rd t F.LRX_SPOT_STATUS_STATE n = 2 ∧ (spotOf t n).held = true ∧ (spotOf t n).entries = (spotOf u n).entries ∧
        (parity = true → rd t F.LRX_SPOT_STATUS_PARITY n = 1)) ∧
  (∀ (s : State) (c : Cmd), Taken 0x0302 [(2, 7), (3, 0xFFFFFFFF), (4, 0xFFFFFFFF), (5, 0xFFFFFFFF)] c s →
    c.w 3 % 4 = 0 → c.w 4 % 4 = 0 → c.w 5 % 4 = 0 → 4 ≤ c.w 4 → c.w 4 ≤ 196608 → c.w 3 + c.w 4 ≤ 32 + spotBytes →
    c.w 5 + c.w 4 ≤ bulkEnd s → (spotOf s (c.w 2)).held = true → rd s F.LRX_SPOT_STATUS_STATE (c.w 2) ≠ 1 →
    rehearsing s 1 (c.w 2) = false →
    CompletesOk (.lrxSpotRead c) 0x0302 c s (c.w 4) 0 fun u =>
      ∀ k, k < c.w 4 → winByte u.mgmt.window (windowBase + c.w 5 + k) = imageByte (spotOf s (c.w 2)) (c.w 3 + k))

/-- The calibration runs complete (R233, R243-R248): a run starts and measures, a deferred run is kept under its handle and starts
when its cue fires, an abort ends the run, a release gives the handle back. Commands: calRun, calAbort, calRelease,
calDeferredStart. -/
def Obligations.CalibrationRunsComplete : Prop :=
  (∀ (s : State) (c : Cmd) (n : Fin 8),
    Taken 0x0401 [(2, 0x1F), (3, 0xFF), (4, 0xFFFF), (5, 0xFFFFFFFF), (6, 0xFFFFFF), (7, 1)] c s →
    (calEmpty (calSetOf c)).any (·.1) = false → calUnpowered s (calSetOf c) = false → calRehearsed s (calSetOf c) = false →
    s.cal.run = none → c.w 7 = 0 → (c.w 2).testBit 0 = true → (c.w 3).testBit n = true → lanePowered s (.line n) = true →
    sliceFailed s (.line n) (understudy s (.line n)) = false → (slicesOf s (.line n)).pending = none →
    Runs (.calRun c) s fun t =>
      lapOf t (.line n) = some (lapFresh (understudy s (.line n))) ∧ ∃ r, t.cal.run = some r ∧ r.handle = 0) ∧
  (∀ (s : State) (c : Cmd) (h : Nat),
    Taken 0x0401 [(2, 0x1F), (3, 0xFF), (4, 0xFFFF), (5, 0xFFFFFFFF), (6, 0xFFFFFF), (7, 1)] c s → c.w 2 ≠ 0 →
    (calEmpty (calSetOf c)).any (·.1) = false → calUnpowered s (calSetOf c) = false → calRehearsed s (calSetOf c) = false →
    c.w 7 = 1 → freeHandle s = some h → (s.cal.run = none → progHas s 0x0401 0 = false) →
    CompletesOk (.calRun c) 0x0401 c s h 0 fun u =>
      aGet u.cal.deferred h = some (calSetOf c) ∧ u.cal.run = s.cal.run) ∧
  (∀ (s : State) (c : Cmd), Taken 0x0402 [] c s → s.cal.run.isSome = true →
    CompletesOk (.calAbort c) 0x0402 c s 0 0 fun u => u.cal.run = none ∧ runIdle u = true) ∧
  (∀ (s : State) (c : Cmd), Taken 0x0403 [(2, 0xFFFF)] c s → (aGet s.cal.deferred (c.w 2)).isSome = true →
    CompletesOk (.calRelease c) 0x0403 c s 0 0 fun u => aGet u.cal.deferred (c.w 2) = none) ∧
  (∀ (s : State) (h : BitVec 16) (x : CalSet) (n : Fin 8), s.cal.fired.contains h.toNat = true → s.cal.run = none →
    aGet s.cal.deferred h.toNat = some x → x.targets.testBit 0 = true → x.line.testBit n = true →
    lanePowered s (.line n) = true → laneRehearsing s (.line n) = false →
    sliceFailed s (.line n) (understudy s (.line n)) = false → (slicesOf s (.line n)).pending = none →
    Runs (.calDeferredStart h) s fun t =>
      t.cal.fired = s.cal.fired.filter (· != h.toNat) ∧ ∃ r, t.cal.run = some r ∧ r.handle = h.toNat)

/-- The calibration measurements complete (R233-R242): a slice measured goes on to its handover, a slice that fails ends its lap,
the last slice ends it with its result, and corrections step toward their targets. Commands: calMeasurementEnd, calHandover,
calCorrectionUpdate, calTempRecompute, dacSkewMeasurementEnd, bdacCalMeasurementEnd, snsCalMeasurementEnd. -/
def Obligations.CalibrationMeasurementsComplete : Prop :=
  (∀ (s : State) (l : LaneId) (num : Int) (den : Nat) (trim : Int) (inl : List Int) (x : Lap), lapOf s l = some x → x.waiting = false →
    s.faults.window = none → x.again ≠ 1 → x.done + 1 ≠ sliceCount l →
    Runs (.calMeasurementEnd l num den trim true inl) s fun t =>
      (∃ y, lapOf t l = some y ∧ y.done = x.done + 1 ∧ y.waiting = true ∧ y.setAt = s.time.tick ∧ y.wings = x.wings) ∧
      aGet t.cal.targets (corrKey (laneTarget l) l.num x.wings 0) = some (clampI 0 255 (newDelay s l x.wings num den)) ∧
      aGet t.cal.targets (corrKey (laneTarget l) l.num x.wings 1) = some (clampI (-32) 31 trim)) ∧
  (∀ (s : State) (l : LaneId) (num : Int) (den : Nat) (trim : Int) (inl : List Int) (x : Lap), lapOf s l = some x → x.waiting = false →
    s.faults.window = none → x.again ≠ 1 →
    Runs (.calMeasurementEnd l num den trim false inl) s fun t =>
      lapOf t l = none ∧ rd t (F.CAL_INFO_RESULT (laneTarget l)) l.num = 4 ∧
        (x.wings < sliceCount l → sliceFailed t l x.wings = true)) ∧
  (∀ (s : State) (l : LaneId) (num : Int) (den : Nat) (trim : Int) (inl : List Int) (x : Lap), lapOf s l = some x → x.waiting = false →
    s.faults.window = none → x.again ≠ 1 → x.done + 1 = sliceCount l →
    Runs (.calMeasurementEnd l num den trim true inl) s fun t =>
      lapOf t l = none ∧ rd t (F.CAL_INFO_RESULT (laneTarget l)) l.num =
        if x.limit || anyLimit (laneTarget l) [newDelay s l x.wings num den, trim] then 2 else 1) ∧
  (∀ (s : State) (l : LaneId) (x : Lap) (r : Nat), lapOf s l = some x → x.waiting = true →
    sinceNs s (some x.setAt) 500 = true → receiving s l = false → capturing s l = false →
    vgaTakes s l = false → (slicesOf s l).place[x.done - 1]? = some r → r < sliceCount l →
    Runs (.calHandover l) s fun t =>
      (slicesOf t l).place = (slicesOf s l).place.set (x.done - 1) x.wings ∧ understudy t l = r ∧
        lapOf t l = some { x with wings := r, waiting := false, deferred := false }) ∧
  (∀ s : State, (s.cal.targets.map (·.1)).Nodup → Runs .calCorrectionUpdate s fun t =>
    ∀ k v, (k, v) ∈ s.cal.targets → keyPowered s k = true → corrInUse t k = stepToward (corrInUse s k) v) ∧
  (∀ s : State, (bankOf s 10).errs = [] → (bankOf s 10).poison = [] → Runs .calTempRecompute s fun t =>
    ∀ key v, key ∈ setKeys s → setsValue s key (regionTemp s (calRegion (keyTarget key) (keyInst key))) = some v →
      aGet t.cal.targets key = some v) ∧
  (∀ (s : State) (n : Fin 8) (k0 k1 k2 k3 : Int), s.cal.skewNow.testBit n = true → s.cal.skewAgain.testBit n = false →
    s.cal.skewLive.testBit n = true → s.faults.window = none → Runs (.dacSkewMeasurementEnd n k0 k1 k2 k3) s fun t =>
      t.cal.skewNow.testBit n = false ∧ aGet t.cal.targets (corrKey .dacSkew n 0 0) = some (clampI 0 63 k0) ∧
        aGet t.cal.targets (corrKey .dacSkew n 3 0) = some (clampI 0 63 k3)) ∧
  (∀ (s : State) (c : Fin 32) (o1 g1 o2 g2 : Int), s.cal.bdacNow = some c.val → s.cal.repeatBdac = false →
    s.faults.window = none →
    Runs (.bdacCalMeasurementEnd c o1 g1 o2 g2) s fun t =>
      aGet t.cal.targets (corrKey .biasDacs c 0 0) = some (clampI (-128) 127 o1) ∧
        aGet t.cal.targets (corrKey .biasDacs c 1 1) = some (clampI (-128) 127 g2)) ∧
  (∀ (s : State) (n : Fin 24) (offset gain : Int), s.cal.senseNow = some n.val → s.cal.repeatSense = false →
    n.val ∉ s.cal.senseQueue → s.faults.window = none →
    Runs (.snsCalMeasurementEnd n offset gain) s fun t =>
      aGet t.cal.targets (corrKey .senseChans n 0 0) = some (clampI (-128) 127 offset) ∧
        aGet t.cal.targets (corrKey .senseChans n 0 1) = some (clampI (-128) 127 gain) ∧
        (senseChan t n).calibrating = false)

/-- The equaliser's commands complete (R87-R95): an update adapts and a frozen tap holds, a window of outliers moves the equaliser
toward DD, a held equaliser resumes warm, a metric window shows, and the state image goes out and in. Commands: eqUpdate,
outlierWindowEnd, eqWarmResume, metricWindowEnd, leqStateRead, leqStateLoad. -/
def Obligations.EqualiserCommandsComplete : Prop :=
  (∀ (s : State) (l : LaneId) (codes : List Int),
    let u := rxStream s l codes
    let b := (rxRec u l).upd
    laneRuns u l = true → eqAdapt u l = true → (eqRec u l).ran = true → eqPaused u l = false → b.skipped = false →
    Runs (.eqUpdate l codes) s fun t =>
      eqRec t l = (if (eqRec u l).dd then ddUpdate u l b else cmaUpdate u l b) ∧
      ∀ j, ffeFrozen u l j = true → (eqRec t l).ffe[j]? = (eqRec u l).ffe[j]?) ∧
  (∀ (s : State) (l : LaneId) (codes : List Int),
    let u := rxStream s l codes
    (eqPaused u l = true ∨ (rxRec u l).upd.skipped = true) → Runs (.eqUpdate l codes) s fun t => t = u) ∧
  (∀ (s : State) (l : LaneId) (codes : List Int),
    let u := rxStream s l codes
    laneRuns u l = true → (eqRec u l).ran = true → eqPaused u l = false → (eqRec u l).dd = false → laneLol u l = false →
    Runs (.outlierWindowEnd l codes) s fun t => (rxRec t l).outliers = 0 ∧
      if 16 * eqOutlierThr u l < (rxRec u l).outliers then (eqRec t l).good = 0 ∧ (eqRec t l).dd = false
      else if (eqRec u l).good + 1 < eqDdWindows u l then (eqRec t l).good = (eqRec u l).good + 1 ∧ (eqRec t l).dd = false
      else (eqRec t l).dd = true ∧ (eqRec t l).valid = true) ∧
  (∀ (s : State) (l : LaneId), laneLinkState s l ≠ 0 → laneLinkState s l ≠ 6 → (eqRec s l).held = true → (eqRec s l).dd = true → laneLos s l = false → laneLol s l = false →
    Runs (.eqWarmResume l) s fun t =>
      (eqRec t l).held = false ∧ (eqRec t l).warm = true ∧ (eqRec t l).judge = some (0, 0) ∧
        (eqRec t l).judgeFrom = (rxRec s l).detected ∧
        (eqRec t l).ffe = (eqRec s l).ffe) ∧
  (∀ (s : State) (n : Fin 8) (codes : List Int),
    let u := rxStream s (.line n) codes
    laneLos u (.line n) = false → laneRuns u (.line n) = true →
    Runs (.metricWindowEnd (.line n) codes) s fun t =>
      rd t F.LEQ_MET_CTRL_SEQ n = (rd u F.LEQ_MET_CTRL_SEQ n + 1) % 2 ^ F.LEQ_MET_CTRL_SEQ.width ∧
      (rd u F.LEQ_MET_CTRL_HOLD n = 0 → ∀ v : Fin 4, rd t F.LEQ_DCOUNT_v_COUNT n v =
        (rxRec u (.line n)).levels[v] % 2 ^ F.LEQ_DCOUNT_v_COUNT.width) ∧
      (rd u F.LEQ_MET_CTRL_HOLD n = 1 → ∀ v : Fin 4, rd t F.LEQ_DCOUNT_v_COUNT n v = rd u F.LEQ_DCOUNT_v_COUNT n v)) ∧
  (∀ (s : State) (n : Fin 16) (codes : List Int),
    let u := rxStream s (.host n) codes
    laneLos u (.host n) = false → laneRuns u (.host n) = true →
    (rxRec u (.host n)).levels.toList.foldl (· + ·) 0 = 0 →
    Runs (.metricWindowEnd (.host n) codes) s fun t => rd t F.HSL_METRIC_SNR n = 0) ∧
  (∀ (s : State) (c : Cmd), Taken 0x0310 [(2, 7), (3, 0xFFFFFFFF)] c s → c.w 3 % 4 = 0 → c.w 3 + 320 ≤ bulkEnd s →
    (portOfLine s (c.w 2)).isSome = true → rehearsing s 1 (c.w 2) = false →
    CompletesOk (.leqStateRead c) 0x0310 c s 320 0 fun u =>
      u.mgmt.window = winPutWords (takenState 0x0310 c s).mgmt.window (windowBase + c.w 3)
        (stateImage s (Fin.ofNat 8 (c.w 2)))) ∧
  (∀ (s : State) (c : Cmd) (p : Nat), Taken 0x0311 [(2, 7), (3, 0xFFFFFFFF)] c s → c.w 3 % 4 = 0 →
    c.w 3 + 320 ≤ bulkEnd s → portOfLine s (c.w 2) = some p → rdE s F.PCS_PORT_CTRL_ADMIN_UP p = 0 →
    rehearsing s 1 (c.w 2) = false →
    let ws := (fetchWords (takenState 0x0311 c s) (windowBase + c.w 3) 80).2
    imageMatches s (c.w 2) (ws.getD 0 0) = true →
    CompletesOk (.leqStateLoad c) 0x0311 c s 0 0 fun u =>
      eqRec u (lineOf (c.w 2)) = imageEq (eqRec s (lineOf (c.w 2))) ws)

/-- The cue and house-clock commands complete (R30, R35, R39, R41, R102, R223). Commands: cueSet, cueCancel, cueRead, cueAgree,
cueAgreeTimeout, cueProposeResend, hcAdjust, cueLatchWrite. -/
def Obligations.CueCommandsComplete : Prop :=
  (∀ (s : State) (c : Cmd) (e : Nat), Taken 0x0801
      [(2, 0x7F), (3, 0x3F), (4, 0xFFFFFFFF), (5, 0xFFFF), (6, 0xFFFFFFFF),
       (7, if (c.w 3).testBit 4 then 0xFFFF else 0xFFFFFFFF), (8, 0xFF), (10, 0xFFFFFFFF)] c s →
    let p := c.w 3 % 8
    let d := if (c.w 3).testBit 3 then Dir.rx else Dir.tx
    let trigger := c.w 4 + c.w 5 * 2 ^ 32
    let period := c.w 6 + c.w 7 * 2 ^ 32
    (c.w 2 = e ∧ e ≤ 63 ∧ cueSlot s e = .free ∨ c.w 2 = 0x7F ∧ freeEntry s = some e) → 1 ≤ c.w 8 → c.w 8 ≤ 8 →
    c.w 10 &&& (2 ^ 32 - 1 - actionArg (c.w 8)) = 0 → portEnabled s p = true → triggerOk (showClock s p d) trigger = true →
    ((c.w 3).testBit 4 = true → period ≠ 0 ∧ period ≤ 2 ^ 47) → (c.w 8 = 4 → (c.w 3).testBit 3 = false) →
    sealConflict s (c.w 8) (c.w 10) = false →
    CompletesOk (.cueSet c) 0x0801 c s e (showClock s p d).count.toNat fun u => ∃ x, cueSlot u e = .armed x ∧
      x.port.val = p ∧ x.dir = d ∧ x.trigger = BitVec.ofNat 48 trigger ∧ x.action = c.w 8 ∧ x.arg = c.w 10 ∧
      x.periodic = (c.w 3).testBit 4 ∧ x.owner = .host) ∧
  (∀ (s : State) (c : Cmd), Taken 0x0802 [(2, 0x3F)] c s → (armedCue s (c.w 2)).isSome = true →
    CompletesOk (.cueCancel c) 0x0802 c s 0 0 fun u => armedCue u (c.w 2) = none) ∧
  (∀ (s : State) (c : Cmd) (x : Cue), Taken 0x0803 [(2, 0x3F)] c s → armedCue s (c.w 2) = some x →
    CompletesOk (.cueRead c) 0x0803 c s (1 + x.action * 2 ^ 8 + x.port * 2 ^ 16 + x.dir.bit * 2 ^ 19) x.trigger.toNat
      fun u => u.time = s.time) ∧
  (∀ (s : State) (c : Cmd), Taken 0x0803 [(2, 0x3F)] c s → armedCue s (c.w 2) = none →
    CompletesOk (.cueRead c) 0x0803 c s 0 0 fun u => u.time = s.time) ∧
  (∀ (s : State) (c : Cmd) (e n : Nat), Taken 0x0804
      [(2, 7), (4, 0xFFFFFFFF), (5, 0xFFFF), (6, 0xFFFF), (8, 0xFFFFFFFF), (10, 0xFFFFFFFF)] c s →
    1 ≤ c.w 8 → c.w 8 ≤ 8 → c.w 10 &&& (2 ^ 32 - 1 - actionArg (c.w 8)) = 0 → portEnabled s (c.w 2) = true →
    agreeRange s (c.w 2) (c.w 4 + c.w 5 * 2 ^ 32) = true → agreeReady s (c.w 2) = true → freeEntry s = some e →
    agreeLane s (c.w 2) = some n → sealConflict s (c.w 8) (c.w 10) = false →
    GoesOn (.cueAgree c) 0x0804 c s e 0 fun u =>
      (∃ x, cueSlot u e = .reserved x (BitVec.ofNat 16 (c.w 6)) (Fin.ofNat 8 n) ∧ x.agree = some (nextAgree s) ∧
        x.action = c.w 8 ∧ x.dir = .tx) ∧ AsideOut.propose e (nextAgree s) ∈ (asideLane u n).queue) ∧
  (∀ (s : State) (e : Fin 64) (x : Cue) (epoch : BitVec 16) (n : Fin 8), cueSlot s e = .reserved x epoch n →
    Runs (.cueAgreeTimeout e) s fun t => cueSlot t e = .free) ∧
  (∀ (s : State) (e : Fin 64) (x : Cue) (epoch : BitVec 16) (n : Fin 8), cueSlot s e = .reserved x epoch n →
    Runs (.cueProposeResend e) s fun t =>
      AsideOut.propose e.val (x.agree.getD 0) ∈ (asideLane t n).queue ∧ cueSlot t e = .reserved x epoch n) ∧
  (∀ (s : State) (c : Cmd), Taken 0x0805 [(2, 0xFFFFFFFF), (3, 0xFFFFFFFF)] c s →
    let offset := c.w 2 + c.w 3 * 2 ^ 32
    offset < 2 ^ 63 → s.time.hc.toNat + offset < 2 ^ 64 →
    CompletesOk (.hcAdjust c) 0x0805 c s ((s.time.hc.toNat + offset) % 2 ^ 32) ((s.time.hc.toNat + offset) / 2 ^ 32)
      fun u => u.time.hc.toNat = s.time.hc.toNat + offset ∧ u.time.estimated = false) ∧
  (∀ (s : State) (p : Fin 8) (d : Dir), Runs (.cueLatchWrite p d) s fun t =>
    rd t F.CUE_HC_LO_HC_LO + rd t F.CUE_HC_HI_HC_HI * 2 ^ 32 = s.time.hc.toNat ∧
    rd t F.CUE_SC_LO_COUNT_LO + rd t F.CUE_SC_HI_COUNT_HI * 2 ^ 32 = (showClock s p d).count.toNat ∧
    rd t F.CUE_SC_HI_EPOCH = (showClock s p d).epoch.toNat)

/-- R41: HC_ADJUST with a negative offset is refused with E_RANGE, and so is an offset that would carry the house clock past 2^64
- 1; nothing but the report of it changes. Commands: hcAdjust. -/
def Obligations.HouseClockOffsetRefused : Prop :=
  ∀ (s : State) (c : Cmd), Taken 0x0805 [(2, 0xFFFFFFFF), (3, 0xFFFFFFFF)] c s →
    (2 ^ 63 ≤ c.w 2 + c.w 3 * 2 ^ 32 ∨ 2 ^ 64 ≤ s.time.hc.toNat + (c.w 2 + c.w 3 * 2 ^ 32)) →
    exec (.hcAdjust c) s = .next (complete (takenState 0x0805 c s) c.tag 0x0805 c.notify stRange 0 0 0)

/-- The line transmitter's commands complete (R99, R101, R102, R107, R116). Commands: swingStep, trainingBurstEnd, ltxLutWrite,
ltxLutRead, ltxLutClear. -/
def Obligations.TransmitterCommandsComplete : Prop :=
  (∀ (s : State) (n : Fin 8), laneRuns s (.line n) = true → rd s F.LTX_SWING_NOW n ≠ rdE s F.LTX_SWING_SWING n →
    sinceNs s (lineTx s n).swingLast 1000 = true →
    Runs (.swingStep n) s fun t =>
      rd t F.LTX_SWING_NOW n = (if rd s F.LTX_SWING_NOW n < rdE s F.LTX_SWING_SWING n then rd s F.LTX_SWING_NOW n + 1
        else rd s F.LTX_SWING_NOW n - 1) ∧ (lineTx t n).swingLast = some s.time.tick) ∧
  (∀ (s : State) (l : LaneId), txBurst s l = true → Runs (.trainingBurstEnd l) s fun t =>
    txBurst t l = false ∧ txIdle t l = false) ∧
  (∀ (s : State) (c : Cmd), Taken 0x0320 [(2, 7), (3, 0xFFFF), (4, 0xFFFFFFFF), (5, 0xFFFFFFFF)] c s →
    c.w 5 % 4 = 0 → 0 < c.w 4 → c.w 3 + c.w 4 ≤ 65536 → c.w 5 + 2 * c.w 4 ≤ bulkEnd s → retained s 12 = false → laneSealed s (c.w 2) = false →
    rehearsing s 1 (c.w 2) = false → xaRun s (c.w 2) = none →
    let es := lutEntries (fetchWords (takenState 0x0320 c s) (windowBase + c.w 5) ((c.w 4 + 1) / 2)).2 (c.w 4)
    (∀ x ∈ es, entryOk x = true) →
    CompletesOk (.ltxLutWrite c) 0x0320 c s 0 0 fun u =>
      (∀ k, k < c.w 4 → lutGet u (c.w 2) (shadowBank s (c.w 2)) (c.w 3 + k) = toSigned 10 (es.getD k 0)) ∧
      ∀ e, e < 65536 → lutGet u (c.w 2) (activeBank s (c.w 2)) e = lutGet s (c.w 2) (activeBank s (c.w 2)) e) ∧
  (∀ (s : State) (c : Cmd), Taken 0x0321 [(2, 7), (3, 1), (4, 0xFFFF), (5, 0xFFFFFFFF), (6, 0xFFFFFFFF)] c s →
    c.w 6 % 4 = 0 → 0 < c.w 5 → c.w 4 + c.w 5 ≤ 65536 → c.w 6 + 2 * c.w 5 ≤ bulkEnd s → retained s 12 = false →
    let b := if c.w 3 = 0 then activeBank s (c.w 2) else shadowBank s (c.w 2)
    CompletesOk (.ltxLutRead c) 0x0321 c s (2 * c.w 5) 0 fun u => ∃ m,
      u.mgmt.window = winPutWords m (windowBase + c.w 6)
        (lutPack ((List.range (c.w 5)).map fun k => ofSigned 16 (lutGet u (c.w 2) b (c.w 4 + k))))) ∧
  (∀ (s : State) (c : Cmd), Taken 0x0322 [(2, 7)] c s → retained s 12 = false → laneSealed s (c.w 2) = false → rehearsing s 1 (c.w 2) = false →
    xaRun s (c.w 2) = none →
    CompletesOk (.ltxLutClear c) 0x0322 c s 0 0 fun u => ∀ e, e < 65536 →
      lutGet u (c.w 2) (shadowBank s (c.w 2)) e = 0 ∧
      lutGet u (c.w 2) (activeBank s (c.w 2)) e = lutGet s (c.w 2) (activeBank s (c.w 2)) e)

/-- The cross-link adaptation's commands complete (R109-R116). Commands: xaStart, xaStop, xaStatsTimeout, xaTrackTimer,
xaGatherWindowEnd. -/
def Obligations.AdaptationCommandsComplete : Prop :=
  (∀ (s : State) (c : Cmd), Taken 0x0323 [(2, 0xFF), (3, 0x71), (4, 0xFFFF), (5, 0xFFFF), (6, 0xFF), (7, 0xFFFF)] c s →
    c.w 3 / 16 ≤ 4 → 16 ≤ c.w 4 → c.w 4 ≤ 4096 → c.w 6 ≠ 0 → c.w 7 ≠ 0 → c.w 7 ≤ 3600 →
    (freeEntry s).isSome = true →
    (∀ n ∈ bitsSet 8 (c.w 2), (portOfLine s n).any (agreeReady s) = true ∧ asideProfile s n = 2 ∧
      partnerCoop s n = true ∧ rehearsing s 1 n = false ∧ xaRun s n = none ∧ laneSealed s n = false ∧
      rd s F.ASD_STATUS_GATHERER n = 1) →
    CompletesOk (.xaStart c) 0x0323 c s 0 0 fun u => ∀ n ∈ bitsSet 8 (c.w 2),
      rd u F.LTX_XA_STATUS_STATE n = 1 ∧ rd u F.LTX_XA_STATUS_ITER n = 0 ∧
      ∃ x, xaRun u n = some x ∧ x.phase = .gather ∧ x.mu = c.w 3 / 16 ∧ x.len = c.w 4 ∧ x.maxIter = c.w 6) ∧
  (∀ (s : State) (c : Cmd), Taken 0x0324 [(2, 0xFF), (3, 1)] c s → c.w 3 = 0 →
    (∀ n ∈ bitsSet 8 (c.w 2), (xaRun s n).isSome = true) →
    CompletesOk (.xaStop c) 0x0324 c s 0 0 fun u => ∀ n ∈ bitsSet 8 (c.w 2),
      xaRun u n = none ∧ rd u F.LTX_XA_STATUS_STATE n = 0 ∧ rd u F.LTX_XA_STATUS_REASON n = 4) ∧
  (∀ (s : State) (c : Cmd), Taken 0x0324 [(2, 0xFF), (3, 1)] c s → c.w 3 = 1 → bitsSet 8 (c.w 2) ≠ [] →
    (∀ n ∈ bitsSet 8 (c.w 2), (vGet s.lanes.xaStart n none).isSome = true ∧ (portOfLine s n).isSome = true) →
    GoesOn (.xaStop c) 0x0324 c s (c.w 2) 0 fun u => ∀ n ∈ bitsSet 8 (c.w 2), xaRun u n = none) ∧
  (∀ (s : State) (n : Fin 8) (x : XaRun) (p : Nat), xaRun s n = some x → x.phase = .gather → portOfLine s n = some p →
    Runs (.xaStatsTimeout n) s fun t =>
      if x.fails + 1 = 3 then xaRun t n = none ∧ rd t F.LTX_XA_STATUS_REASON n = 6
      else ∃ y, xaRun t n = some y ∧ y.fails = x.fails + 1 ∧ y.phase = .gather ∧ y.frags = []) ∧
  (∀ (s : State) (n : Fin 8) (x : XaRun) (p : Nat), xaRun s n = some x → x.phase = .trackWait → portOfLine s n = some p →
    Runs (.xaTrackTimer n) s fun t =>
      rd t F.LTX_XA_STATUS_STATE n = 1 ∧ ∃ y, xaRun t n = some y ∧ y.phase = .gather ∧ y.swaps = x.swaps) ∧
  (∀ (s : State) (n : Fin 8) (g : Gatherer) (p : Nat),
    gatherOf s n = some g → g.set = none → portOfLine s n = some p → rd s F.LEQ_XA_GATHER_STATE n = 2 →
    4096 * g.len ≤ ((showClock s p .rx).count - g.m).toNat →
    Runs (.xaGatherWindowEnd n) s fun t =>
      rd t F.LEQ_XA_GATHER_STATE n = 3 ∧ rd t F.LEQ_XA_GATHER_INVALID n = g.flags % 2 ∧
      (∃ q, (gatherOf t n).bind (·.set) = some q ∧ q.m = g.m ∧ q.total = g.total ∧
        ∀ c, c < 1024 → q.entries[c]? = some (statEntry ((aGet g.sums c).getD (0, 0)).1 ((aGet g.sums c).getD (0, 0)).2)) ∧
      ∀ f, f < 16 → p + (logicalOf s p n).getD 0 < 8 →
        AsideOut.fragment n f ∈ (asideLane t (p + (logicalOf s p n).getD 0)).queue)

/-- The aside channel's timers and packets complete (R214, R215, R222, R225-R227): what falls due is queued, a packet starts and
ends, and loadings are proposed. Commands: helloTimer, healthTimer, asidePacketStart, asidePacketEnd, partnerTimeout,
authChallengeTimer, loadingEvaluation, loadingGraceEnd. -/
def Obligations.AsideTimersComplete : Prop :=
  (∀ (s : State) (n : Fin 8), asideRuns s n = true → Runs (.helloTimer n) s fun t => AsideOut.hello ∈ (asideLane t n).queue) ∧
  (∀ (s : State) (n : Fin 8), asideRuns s n = true → rdE s F.ASD_TIMING_HEALTH_PERIOD n ≠ 0 →
    Runs (.healthTimer n) s fun t => AsideOut.health ∈ (asideLane t n).queue) ∧
  (∀ (s : State) (n : Fin 8), rdE s F.ASD_TIMING_HEALTH_PERIOD n = 0 → Runs (.healthTimer n) s fun t => t = s) ∧
  (∀ (s : State) (n : Fin 8) (p : Nat) (o : AsideOut), portOfLine s n = some p → asideRuns s n = true →
    rd s F.ASD_STATUS_TX_BUSY n = 0 → atGrid s n = true →
    let u := setAside s n { asideLane s n with queue := (asideLane s n).queue.filter (liveOut s) }
    pickOut u n p = some o →
    Runs (.asidePacketStart n) s fun t =>
      rd t F.ASD_STATUS_TX_BUSY n = 1 ∧ (asideLane t n).queue = (asideLane u n).queue.erase o ∧
      (asideLane t n).sent = (asideLane s n).sent + 1 ∧ (asideLane t n).sending = some (o, buildPacket u n p o) ∧
      (asideLane t n).waveAt = (txRec s (lineOf n)).count) ∧
  (∀ (s : State) (n : Fin 8) (o : AsideOut) (q : AsidePacket), (asideLane s n).sending = some (o, q) →
    Runs (.asidePacketEnd n) s fun t =>
      rd t F.ASD_STATUS_TX_BUSY n = 0 ∧ (asideLane t n).sending = none ∧ (asideLane t n).lastEnd = some s.time.tick ∧
      (∀ id table, o = .loadConfirm id table → negotiates s n = true → (txLoading t n).table = table) ∧
      ∀ x : Fin 8, o = .fragment x 15 → ((gatherOf s x).bind (·.set)).isSome = true → gatherOf t x = none) ∧
  (∀ (s : State) (n : Fin 8), Runs (.partnerTimeout n) s fun t => rd t F.ASD_STATUS_UP n = 0) ∧
  (∀ (s : State) (n : Fin 8), asideRuns s n = true → asideAuth s n ≠ 0 → Runs (.authChallengeTimer n) s fun t =>
    AsideOut.challenge ∈ (asideLane t n).queue ∧
    rd t F.ASD_STATUS_AUTH_STATE n = (if rd s F.ASD_STATUS_AUTH_STATE n = 2 then 2 else 1)) ∧
  (∀ (s : State) (n : Fin 8) (table : Nat), asideRuns s n = true → negotiates s n = true → earnedTable s n = some table →
    table ≠ (rxLoading s n).table.toNat →
    (loadB (rxLoading s n).table.toNat + 16 ≤ loadB table ∨ loadB table + 16 ≤ loadB (rxLoading s n).table.toNat) →
    Runs (.loadingEvaluation n) s fun t =>
      (asideLane t n).proposed = some ⟨(asideLane s n).lastId % 15 + 1, BitVec.ofNat 64 table⟩ ∧
      AsideOut.loadPropose ((asideLane s n).lastId % 15 + 1) (BitVec.ofNat 64 table) ∈ (asideLane t n).queue) ∧
  (∀ (s : State) (n : Fin 8), Runs (.loadingGraceEnd n) s fun t => (asideLane t n).previous = none)

/-- The aside channel's commands complete (R218, R230): buffers are set and sent, held packets read, partners authenticated,
loadings reset. Commands: asdBufSet, asdSend, asdRxRead, asdAuthStart, authStartTimeout, asdLoadReset. -/
def Obligations.AsideCommandsComplete : Prop :=
  (∀ (s : State) (c : Cmd), Taken 0x0701 ([(2, 15), (3, 15), (4, 0x3F)] ++ (List.range 8).map fun k => (5 + k, 0xFFFFFFFF)) c s →
    (c.w 3 = 1 ∨ c.w 3 = 2 ∨ c.w 3 = 7) → c.w 4 ≤ 32 →
    CompletesOk (.asdBufSet c) 0x0701 c s 0 0 fun u =>
      vGet u.aside.bufs (c.w 2) none =
        some ⟨c.w 3, c.w 4, (List.range 8).map fun k => BitVec.ofNat 32 (c.w (5 + k))⟩ ∧
      (c.w 3 = 7 → ∀ n, n < 8 → asideRuns s n = true → AsideOut.tag (c.w 2) ∈ (asideLane u n).queue)) ∧
  (∀ (s : State) (c : Cmd) (x : AsideBuf), Taken 0x0702 [(2, 0xFF), (3, 15)] c s → vGet s.aside.bufs (c.w 3) none = some x →
    x.kind ≠ 0 → c.w 2 ≠ 0 →
    (∀ n ∈ bitsSet 8 (c.w 2), lanePowered s (lineOf n) = true ∧ profileSends (asideProfile s n) x.kind = true ∧
      rehearsing s 1 n = false) →
    GoesOn (.asdSend c) 0x0702 c s (c.w 2) 0 fun u =>
      ∀ n ∈ bitsSet 8 (c.w 2), AsideOut.buffer (c.w 3) (some c.tag) ∈ (asideLane u n).queue) ∧
  (∀ (s : State) (c : Cmd) (x : AsideHeld), Taken 0x0703 [(2, 7), (3, 15), (4, 0xFFFFFFFF)] c s → c.w 4 % 4 = 0 →
    aGet (asideLane s (c.w 2)).held (c.w 3) = some x → c.w 4 + (12 + 4 * x.packet.words.length) ≤ bulkEnd s →
    CompletesOk (.asdRxRead c) 0x0703 c s (12 + 4 * x.packet.words.length) 0 fun u =>
      u.mgmt.window = winPutWords (takenState 0x0703 c s).mgmt.window (windowBase + c.w 4)
        ([x.packet.header.toNat] ++ x.packet.words.map (·.toNat) ++ [x.hc.toNat % 2 ^ 32, x.hc.toNat / 2 ^ 32])) ∧
  (∀ (s : State) (c : Cmd), Taken 0x0706 [(2, 0xFF)] c s → c.w 2 ≠ 0 →
    (∀ n ∈ bitsSet 8 (c.w 2), asideAuth s n ≠ 0 ∧ rehearsing s 1 n = false) →
    GoesOn (.asdAuthStart c) 0x0706 c s (c.w 2) 0 fun u =>
      ∀ n ∈ bitsSet 8 (c.w 2), AsideOut.challenge ∈ (asideLane u n).queue) ∧
  (∀ (s : State), (s.mgmt.inProgress.filter (·.opcode == 0x0706)) ≠ [] → Runs .authStartTimeout s fun t =>
    (t.mgmt.inProgress.filter (·.opcode == 0x0706)).length + 1 =
      (s.mgmt.inProgress.filter (·.opcode == 0x0706)).length) ∧
  (∀ (s : State) (c : Cmd), Taken 0x0707 [(2, 0xFF)] c s →
    (∀ n ∈ bitsSet 8 (c.w 2), bothCoop s n = true ∧ rehearsing s 1 n = false) →
    CompletesOk (.asdLoadReset c) 0x0707 c s 0 0 fun u =>
      ∀ n ∈ bitsSet 8 (c.w 2), (asideLane u n).proposed = some ⟨0, loadZero⟩ ∧
        AsideOut.loadPropose 0 loadZero ∈ (asideLane u n).queue)

/-- The aside channel receives (R217-R221, R226): a preamble begins a reception, a bad payload ends it, HELLO, HEALTH and TAG
packets are shown and held. Commands: preambleDetect, payloadCrcFail, helloReceived, healthReceived, tagPacketReceived. -/
def Obligations.AsideReceptionComplete : Prop :=
  (∀ (s : State) (n : Fin 8) (codes : List Int) (m : Nat), Runs (.preambleDetect n codes m) s fun t =>
    let u := rxStream s (lineOf n) codes
    let rho := fun j => rhoReaches (rdE u F.ASD_DET_DET_THR n) (correlate (lastSamples u n j))
    t = if asideRuns u n = true ∧ 127 ≤ m ∧ (rxRec u (lineOf n)).looked ≤ m ∧
          sampleSymbol u n m ≤ (rxRec u (lineOf n)).count ∧ rho m = true ∧
          ((asideLane u n).rx = none → ∀ j, j < m → 127 ≤ j → (rxRec u (lineOf n)).looked ≤ j → rho j = false) then
        preambleFound n m (preambleStrength (correlate (lastSamples u n m))) (lookFrom (refExpire u n) n (m + 1))
      else u) ∧
  (∀ (s : State) (n : Fin 8) (m strength : Nat), (asideLane s n).rx = none →
    (rd s F.ASD_LEVEL_REF n = 0 ∨ rdE s F.ASD_DET_WEAK_REJ n = 0 ∨
      rd s F.ASD_LEVEL_REF n ≤ strength + rdE s F.ASD_DET_WEAK_REJ n * 256) →
    let t := preambleFound n m strength s
    rd t F.ASD_LEVEL_LAST n = strength % 2 ^ F.ASD_LEVEL_LAST.width ∧
      (rd t F.ASD_STATUS_RX_BUSY n = 1 ↔ (asideLane t n).rx.isSome = true) ∧
      (∀ r, (asideLane t n).rx = some r → headerVerdict s n r.header = 0 ∧ r.strength = strength ∧ r.detected = m)) ∧
  (∀ (s : State) (n : Fin 8) (codes : List Int), Runs (.payloadCrcFail n codes) s fun t =>
    let u := rxStream s (lineOf n) codes
    match received u n with
    | some (_, _, false, _) => (asideLane t n).rx = none ∧ rd t F.ASD_STATUS_RX_BUSY n = 0 ∧ (asideLane t n).held = (asideLane u n).held
    | _ => t = u) ∧
  (∀ (s : State) (n : Fin 8) (codes : List Int), Runs (.helloReceived n codes) s fun t =>
    t = receptionOf s n codes 1 none {} (helloAccepted n)) ∧
  (∀ (s : State) (n : Fin 8) (words : List Word) (snr : List Nat) (r : AsideRx) (p : Nat), Receivable s n 1 words {} r →
    portOfLine s n = some p →
    let t := receive s n 1 r words snr {} (helloAccepted n)
    rd t F.ASD_STATUS_UP n = 1 ∧ rd t F.ASD_STATUS_PARTNER_PROFILE n = bitsOf (pw words 0) 15 14 ∧
      rd t F.ASD_PARTNER_ID_1_ID_HI n = pw words 2 ∧ rd t F.ASD_PARTNER_ID_0_ID_LO n = pw words 3) ∧
  (∀ (s : State) (n : Fin 8) (codes : List Int), Runs (.healthReceived n codes) s fun t =>
    t = receptionOf s n codes 2 none {} fun u _ _ => u) ∧
  (∀ (s : State) (n : Fin 8) (words : List Word) (snr : List Nat) (r : AsideRx), Receivable s n 2 words {} r →
    let t := receive s n 2 r words snr {} fun u _ _ => u
    aGet (asideLane t n).held 2 = some ⟨⟨r.header, words⟩, r.hc⟩ ∧ (asideLane t n).rx = none ∧
      (asideLane t n).lastOk = some s.time.tick ∧ rd t F.ASD_STATUS_RX_BUSY n = 0 ∧
      (asideLane t n).snrs = (snr :: (asideLane s n).snrs).take 16) ∧
  (∀ (s : State) (n : Fin 8) (codes : List Int), Runs (.tagPacketReceived n codes) s fun t =>
    t = receptionOf s n codes 7 none {} (tagAccepted n)) ∧
  (∀ (s : State) (n : Fin 8) (words : List Word) (snr : List Nat) (r : AsideRx), Receivable s n 7 words {} r →
    let t := receive s n 7 r words snr {} (tagAccepted n)
    aGet (asideLane t n).held 7 = some ⟨⟨r.header, words⟩, r.hc⟩ ∧ (asideLane t n).rx = none)

/-- Requests and answers on the aside channel act (R35, R109, R112, R223-R228): adaptation, cue agreement, loading and
authentication. Commands: xadaptRequestReceived, xadaptFragmentReceived, cueProposeReceived, cueAckReceived,
loadingProposeReceived, loadingConfirmReceived, authChallengeReceived, authResponseReceived. -/
def Obligations.AsideRequestsComplete : Prop :=
  (∀ (s : State) (n : Fin 8) (codes : List Int), Runs (.xadaptRequestReceived n codes) s fun t =>
    t = receptionOf s n codes 3 (some 0) { request := true } (requestAccepted n)) ∧
  (∀ (s : State) (n x : Fin 8) (words : List Word) (snr : List Nat) (r : AsideRx) (p : Nat),
    Receivable s n 3 words { request := true } r → portOfLine s n = some p →
    bitsOf (pw words 1) 19 17 < portWidth s p → physOf s p (bitsOf (pw words 1) 19 17) = x → asideProfile s x = 2 →
    let t := receive s n 3 r words snr { request := true } (requestAccepted n)
    rd t F.LEQ_XA_GATHER_STATE x = 1 ∧
      gatherOf t x = some ⟨BitVec.ofNat 48 (pw words 2 + pw words 3 % 2 ^ 16 * 2 ^ 32),
        BitVec.ofNat 16 (pw words 3 / 2 ^ 16), pw words 4 % 2 ^ 13, [], 0, 0, none⟩) ∧
  (∀ (s : State) (n : Fin 8) (codes : List Int), Runs (.xadaptFragmentReceived n codes) s fun t =>
    t = receptionOf s n codes 3 (some 1) {} (fragmentAccepted n)) ∧
  (∀ (s : State) (n : Fin 8) (words : List Word) (snr : List Nat) (r : AsideRx) (x : XaRun) (p : Nat),
    Receivable s n 3 words {} r → portOfLine s n = some p →
    let own := p + bitsOf (pw words 1) 19 17
    xaRun s own = some x → portOfLine s own = some p → x.phase = .gather →
    x.m = BitVec.ofNat 48 (pw words 2 + pw words 3 % 2 ^ 16 * 2 ^ 32) →
    let es := (List.range 64).map fun k => pw words (6 + k / 2) / 2 ^ (16 * (1 - k % 2)) % 2 ^ 16
    (aSet x.frags (bitsOf (pw words 1) 27 24) es).length ≠ 16 →
    ∃ y, xaRun (receive s n 3 r words snr {} (fragmentAccepted n)) own = some y ∧ y.phase = .gather ∧
      aGet y.frags (bitsOf (pw words 1) 27 24) = some es) ∧
  (∀ (s : State) (n : Fin 8) (codes : List Int), Runs (.cueProposeReceived n codes) s fun t =>
    t = receptionOf s n codes 4 none { request := true } (proposalAccepted n)) ∧
  (∀ (s : State) (n : Fin 8) (words : List Word) (snr : List Nat) (r : AsideRx) (p : Nat),
    Receivable s n 4 words { request := true } r → portOfLine s n = some p →
    let id := BitVec.ofNat 16 (pw words 1 / 2 ^ 16)
    let trigger := pw words 2 + pw words 3 % 2 ^ 16 * 2 ^ 32
    let refusal := proposalRefusal s p (pw words 1 % 256) trigger (pw words 4)
    (asideLane s n).answered.find? (·.1 == id) = none →
    let t := receive s n 4 r words snr { request := true } (proposalAccepted n)
    AsideOut.ack id refusal ∈ (asideLane t n).queue ∧ (id, refusal) ∈ (asideLane t n).answered ∧
      (refusal = 0 → pw words 1 % 256 = 4 → vGet t.lanes.boundary n none = some (BitVec.ofNat 48 trigger)) ∧
      (refusal = 0 → pw words 1 % 256 ≠ 4 → ∃ e x, cueSlot t e = .armed x ∧ x.agree = some id ∧ x.dir = .rx ∧
        x.trigger = BitVec.ofNat 48 trigger ∧ x.action = pw words 1 % 256 ∧ x.arg = pw words 4)) ∧
  (∀ (s : State) (n : Fin 8) (codes : List Int), Runs (.cueAckReceived n codes) s fun t =>
    t = receptionOf s n codes 5 none {} ackAccepted) ∧
  (∀ (s : State) (n : Fin 8) (e : Fin 64) (words : List Word) (snr : List Nat) (r : AsideRx) (x : Cue) (epoch : BitVec 16)
      (m : Fin 8), Receivable s n 5 words {} r →
    (List.range 64).find? (fun k => match cueSlot s k with
      | .reserved c _ _ => c.agree == some (BitVec.ofNat 16 (pw words 1 / 2 ^ 16))
      | _ => false) = some e.val → cueSlot s e = .reserved x epoch m →
    cueSlot (receive s n 5 r words snr {} ackAccepted) e = (if (pw words 1).testBit 0 then .armed x else .free)) ∧
  (∀ (s : State) (n : Fin 8) (codes : List Int), Runs (.loadingProposeReceived n codes) s fun t =>
    t = receptionOf s n codes 6 (some 0) { request := true } (loadProposeAccepted n)) ∧
  (∀ (s : State) (n : Fin 8) (words : List Word) (snr : List Nat) (r : AsideRx),
    Receivable s n 6 words { request := true } r → negotiates s n = true →
    let id := pw words 1 % 16
    let table : BitVec 64 := if id = 0 then loadZero else BitVec.ofNat 64 (pw words 2 * 2 ^ 32 + pw words 3)
    loadValid table.toNat = true →
    AsideOut.loadConfirm id table ∈
      (asideLane (receive s n 6 r words snr { request := true } (loadProposeAccepted n)) n).queue) ∧
  (∀ (s : State) (n : Fin 8) (codes : List Int), Runs (.loadingConfirmReceived n codes) s fun t =>
    t = receptionOf s n codes 6 (some 1) {} (loadConfirmAccepted n)) ∧
  (∀ (s : State) (n : Fin 8) (words : List Word) (snr : List Nat) (r : AsideRx) (x : Loading),
    Receivable s n 6 words {} r → (asideLane s n).proposed = some x → x.id = pw words 1 % 16 → x.id < 2 ^ 4 →
    (hdrLoading r.header = 0 ∨ (((false :: (asideLane s n).results).take 8).filter id).length < 4) →
    let t := receive s n 6 r words snr {} (loadConfirmAccepted n)
    (rxLoading t n) = x ∧ (asideLane t n).proposed = none ∧ (asideLane t n).previous = some (rxLoading s n)) ∧
  (∀ (s : State) (n : Fin 8) (codes : List Int), Runs (.authChallengeReceived n codes) s fun t =>
    t = receptionOf s n codes 8 (some 0) { challenge := true } (challengeAccepted n)) ∧
  (∀ (s : State) (n : Fin 8) (words : List Word) (snr : List Nat) (r : AsideRx),
    Receivable s n 8 words { challenge := true } r → ∃ noKey,
      AsideOut.response (BitVec.ofNat 64 (pw words 2 * 2 ^ 32 + pw words 3)) noKey ∈
        (asideLane (receive s n 8 r words snr { challenge := true } (challengeAccepted n)) n).queue ∧
      (noKey = false ↔ ∃ k, laneKey s n = some k ∧ k.1.toNat = pw words 1 % 256)) ∧
  (∀ (s : State) (n : Fin 8) (codes : List Int), Runs (.authResponseReceived n codes) s fun t =>
    t = receptionOf s n codes 8 (some 1) { response := true } (responseAccepted n)) ∧
  (∀ (s : State) (n : Fin 8) (words : List Word) (snr : List Nat) (r : AsideRx),
    Receivable s n 8 words { response := true } r →
    (asideLane s n).nonce = some (BitVec.ofNat 64 (pw words 4 * 2 ^ 32 + pw words 5)) →
    ((pw words 1).testBit 8 = true ∨ (pw words 0).testBit 13 = true) →
    let t := receive s n 8 r words snr { response := true } (responseAccepted n)
    (asideLane t n).nonce = none ∧ rd t F.ASD_STATUS_AUTH_STATE n = (if (pw words 1).testBit 8 then 3 else 2))

/-- The error-correction pools' commands complete (R130-R133, R142, R144). Commands: poolIdleTest, fecFence, fecUnfence,
unfenceTestEnd, sdWindowEnd. -/
def Obligations.PoolCommandsComplete : Prop :=
  (∀ (s : State) (d : Dir) (m : Fin 16) (form : PoolTest) (conduct : MemberConduct), poolNeed s < unfenced s d →
    (fencedMask s d).testBit m = false →
    Runs (.poolIdleTest d m form conduct) s fun t =>
      vGet t.path.testing (poolNum d) none = some m.val ∧
      (fencedMask t d).testBit m =
        !(memberDecodes conduct (poolTestWord form).1 (poolTestWord form).2 == some (List.replicate 544 0)) ∧
      ∀ k, k ≠ m.val → (fencedMask t d).testBit k = (fencedMask s d).testBit k) ∧
  (∀ (s : State) (d : Dir) (m : Fin 16) (form : PoolTest) (conduct : MemberConduct),
    (unfenced s d ≤ poolNeed s ∨ (fencedMask s d).testBit m = true) → Runs (.poolIdleTest d m form conduct) s fun t => t = s) ∧
  (∀ (s : State) (c : Cmd), Taken 0x0240 [(2, 1), (3, 15), (4, 1)] c s →
    (fencedMask s (dirOf (c.w 2))).testBit (c.w 3) = false →
    (c.w 4 = 1 ∨ poolNeed s ≤ unfenced s (dirOf (c.w 2)) - 1) →
    CompletesOk (.fecFence c) 0x0240 c s 0 0 fun u =>
      ∀ k, (fencedMask u (dirOf (c.w 2))).testBit k = true ↔
        ((fencedMask s (dirOf (c.w 2))).testBit k = true ∨ k = c.w 3)) ∧
  (∀ (s : State) (c : Cmd), Taken 0x0241 [(2, 1), (3, 15)] c s → (fencedMask s (dirOf (c.w 2))).testBit (c.w 3) = true →
    (∀ q ∈ s.mgmt.inProgress, q.opcode = 0x0241 → q.key / 16 ≠ poolNum (dirOf (c.w 2))) →
    GoesOn (.fecUnfence c) 0x0241 c s (poolNum (dirOf (c.w 2)) * 16 + c.w 3) 0 fun u => u = takenState 0x0241 c s) ∧
  (∀ (s : State) (d : Dir) (q : InProg),
    (s.mgmt.inProgress.find? fun q => q.opcode == 0x0241 && q.key / 16 == poolNum d) = some q →
    (Runs (.unfenceTestEnd d true) s fun t => (fencedMask t d).testBit (q.key % 16) = false ∧
      t.mgmt.inProgress.length + 1 = s.mgmt.inProgress.length) ∧
    Runs (.unfenceTestEnd d false) s fun t => fencedMask t d = fencedMask s d ∧
      t.mgmt.inProgress.length + 1 = s.mgmt.inProgress.length) ∧
  (∀ (s : State) (p : Fin 8), (portPath s p .rx).fecDue = false → 2 ^ rdE s F.FEC_SD_CTRL_WIN p ≤ (portPath s p .rx).sdCount → rdE s F.FEC_CTRL_SD_EN p ≠ 0 →
    passMode s p = false → Runs (.sdWindowEnd p .rx) s fun t =>
      rd t F.FEC_STATUS_RX_SD p = (if rdE s F.FEC_SD_SET_SD_SET p ≤ (portPath s p .rx).sdSum then 1
        else if (portPath s p .rx).sdSum < rdE s F.FEC_SD_CLR_SD_CLR p then 0 else rd s F.FEC_STATUS_RX_SD p) ∧
      rd t F.FEC_STATUS_RX_UNCORR p = b2n (portPath s p .rx).sdMarked ∧
      (portPath t p .rx).sdCount = 0 ∧ (portPath t p .rx).sdSum = 0) ∧
  (∀ (s : State) (p : Fin 8), (portPath s p .tx).fecDue = false → 2 ^ rdE s F.FEC_SD_CTRL_WIN p ≤ (portPath s p .tx).sdCount → rdE s F.FEC_CTRL_SD_EN p ≠ 0 →
    passMode s p = false → Runs (.sdWindowEnd p .tx) s fun t =>
      rd t F.FEC_STATUS_TX_SD p = (if rdE s F.FEC_SD_SET_SD_SET p ≤ (portPath s p .tx).sdSum then 1
        else if (portPath s p .tx).sdSum < rdE s F.FEC_SD_CLR_SD_CLR p then 0 else rd s F.FEC_STATUS_TX_SD p) ∧
      (portPath t p .tx).sdCount = 0 ∧ (portPath t p .tx).sdSum = 0)

/-- A codeword's time passes a port (R24, R122, R128, R134, R135, R138, R147, R166): where its lanes have brought the next
codeword of an aligned direction, its show clock advances, in PASS it leaves as it came, and with a lane lost it leaves
marked; while they have not, only their codes have come; and where the direction is not aligned its clock stands. Commands:
hostToLineCodeword, lineToHostCodeword. -/
def Obligations.CodewordsPass : Prop :=
  (∀ (s : State) (p : Fin 8) (codes : List (List Int)) (k : CodewordCond), portEnabled s p = true → rehearsing s 3 p = false →
    Runs (.hostToLineCodeword p codes k) s fun t =>
      let u := portStream (cuesReach s) ((portHosts s p).map hostOf) codes
      if txAligned u p then match hostWord u p with
        | none => t = u
        | some (w, slice, _) =>
          (asyncMode u = false → showClock t p .tx = (showClock u p .tx).advance 1) ∧
          (asyncMode u = true → showClock t p .tx = (List.range k.outs).foldl (fun c _ => c.advance 1) (showClock u p .tx)) ∧
          (asyncMode u = false → passMode u p = true → slice = false → k.parity = [] → u.faults.window = none →
            switchedLanes u p .tx = [] → (portPath t p .tx).out = w.map (BitVec.ofNat 10))
      else showClock t p .tx = showClock u p .tx ∧
        (portPath t p .tx).outAt = ((portPath u p .tx).outAt + 1) % markerPeriod (portFormat u p)) ∧
  (∀ (s : State) (p : Fin 8) (codes : List (List Int)) (k : CodewordCond), portEnabled s p = true → rehearsing s 3 p = false →
    Runs (.lineToHostCodeword p codes k) s fun t =>
      let u := portStream (cuesReach s) ((portLines s p).map lineOf) codes
      if rd u F.PCS_ALIGN_STATUS_RX_DESKEWED p = 1 then
        if innerCode u then match vGet u.path.superRx p [] with
          | [] => match lineSegments u p (lineSymbols u p 4) with
            | none => t = u
            | some _ => showClock t p .rx = (showClock u p .rx).advance 1 ∧ (vGet t.path.superRx p []).length = 3
          | _ :: rest => showClock t p .rx = (showClock u p .rx).advance 1 ∧ vGet t.path.superRx p [] = rest
        else match lineSegments u p (lineSymbols u p 1) with
          | none => t = u
          | some segs =>
            showClock t p .rx = (showClock u p .rx).advance 1 ∧
            (asyncMode u = false → lostMask u p ≠ 0 →
              (portPath t p .rx).out = (rsMarked (plainWord (portWidth u p) segs)).map (BitVec.ofNat 10)) ∧
            (asyncMode u = false → lostMask u p = 0 → passMode u p = true → k.parity = [] → u.faults.window = none →
              switchedLanes u p .rx = [] → (∀ xs ∈ segs, ∀ x ∈ xs, x.zeroed = false) →
              (portPath t p .rx).out = (plainWord (portWidth u p) segs).map (BitVec.ofNat 10))
      else showClock t p .rx = showClock u p .rx)

/-- Marker lock, host alignment and the pattern checkers complete (R146-R157, R488). Commands: hostMarkerGroup, lineMarkerGroup,
tpcWindowEnd, tpcSlip. -/
def Obligations.AlignmentCommandsComplete : Prop :=
  (∀ (s : State) (p : Fin 8) (ms : Vector (List PcsMark) 16), portEnabled s p = true →
    linkState s p ≠ 0 → linkState s p ≠ 6 → s.power.mode = .show → portRehearsing s p = false →
    Runs (.hostMarkerGroup p ms) s fun t =>
      let arrivals := (portHosts s p).flatMap fun n => (markOf ms n).map (·.arrival)
      ((∀ n ∈ portHosts s p, hostMarked s n (markOf ms n) = true) → pcsComplete s p ms = true →
        (∀ a ∈ arrivals, arrivals.foldl max 0 - a ≤ rdE s F.PCS_ALIGN_CTRL_SKEW_LIMIT p * 425) →
        txAligned t p = true ∧
          ∀ n ∈ portHosts s p, rd t F.HSL_ALIGN_STATUS_LOCKED n = 1) ∧
      (((∃ n ∈ portHosts s p, hostMarked s n (markOf ms n) = false) ∨ pcsComplete s p ms = false) → txAligned t p = false)) ∧
  (∀ (s : State) (x : Fin 8) (pos arrival p : Nat) (vals : List (List Nat)), portOfLine s x = some p →
    linkState s p ≠ 0 → laneRuns s (lineOf x) = true → laneLos s (lineOf x) = false → markerValues s x pos = some vals →
    Runs (.lineMarkerGroup x pos arrival) s fun t =>
      let hit := markerMatch s p x vals
      let due := (lockOf s x).pos + markerSpan s p
      ((lockOf s x).state = 0 → (lockOf s x).resume ≤ pos → ∀ i inv, hit = some (i, inv) →
        (lockOf t x).state = 1 ∧ (lockOf t x).candRef = i ∧ (lockOf t x).candInv = inv ∧ (lockOf t x).pos = pos) ∧
      ((lockOf s x).state = 0 → hit = none → t = s) ∧
      ((lockOf s x).state ≠ 0 → pos ≠ due → t = s) ∧
      ((lockOf s x).state = 1 → pos = due → hit = some ((lockOf s x).candRef, (lockOf s x).candInv) →
        (lockOf t x).seen = (lockOf s x).candRef ∧ (lockOf t x).inverted = (lockOf s x).candInv ∧
        (linkState s p ≠ 2 → linkState s p ≠ 3 → (lockOf t x).state = 2)) ∧
      ((lockOf s x).state = 1 → pos = due → hit ≠ some ((lockOf s x).candRef, (lockOf s x).candInv) →
        (lockOf t x).state = 0 ∧ (lockOf t x).resume = (lockOf s x).pos + 1) ∧
      ((lockOf s x).state = 2 → pos = due → hit = some ((lockOf s x).seen, (lockOf s x).inverted) →
        (lockOf t x).state = 2 ∧ (lockOf t x).misses = 0) ∧
      ((lockOf s x).state = 2 → pos = due → hit ≠ some ((lockOf s x).seen, (lockOf s x).inverted) →
        if rdE s F.PCS_ALIGN_CTRL_MISS_LIMIT p ≤ (lockOf s x).misses + 1 then (lockOf t x).state = 0
        else (lockOf t x).state = 2 ∧ (lockOf t x).misses = (lockOf s x).misses + 1)) ∧
  (∀ (s : State) (l : LaneId) (codes : List Int),
    let u := rxStream s l codes
    tpcEn u l = true → laneRuns u l = true →
    Runs (.tpcWindowEnd l codes) s fun t =>
      let w := (rxRec u l).tpc
      (rxRec t l).tpc.errors = 0 ∧ (64 ≤ w.errors → tpcLock t l = false) ∧
      (slipOf u l = 0 → w.errors < 64 → tpcPattern u l ≤ 2 → tpcLock t l = tpcLock u l) ∧
      (slipOf u l = 0 → w.errors < 16 → 2 < tpcPattern u l → tpcLock t l = true)) ∧
  (∀ (s : State) (l : LaneId) (codes : List Int),
    let u := rxStream s l codes
    tpcEn u l = false → Runs (.tpcWindowEnd l codes) s fun t => t = u) ∧
  (∀ (s : State) (l : LaneId), tpcEn s l = true → tpcPattern s l ≤ 2 →
    (rxRec s l).tpc.agree = 128 → tpcLock (tpcPrbsLock s l) l = true) ∧
  (∀ (s : State) (c : Cmd), Taken 0x0250 [(2, 0x1F), (3, 1), (4, 0xFFFF)] c s →
    let l := if (c.w 2).testBit 4 then hostOf (c.w 2 % 16) else lineOf (c.w 2 % 16)
    ((c.w 2).testBit 4 = true ∨ c.w 2 % 16 ≤ 7) → c.w 4 ≠ 0 → tpcEn s l = true → laneRehearsing s l = false →
    let moved := slipOf s l + c.w 4 * (c.w 3 + 1)
    CompletesOk (.tpcSlip c) 0x0250 c s
      (if patternBits (tpcPattern s l) = 0 then 0 else (tpcPos s l + moved) % patternBits (tpcPattern s l)) 0
      fun u => slipOf u l = moved)

/-- The PLLs' and host training's commands complete (R14, R22, R187-R191, R229, R268). Commands: sysPllLockLoss, sysPllRelock,
pllLockLoss, hslTrainTimeout, hslTrackWindow, wanderLimit, hslRetrain. -/
def Obligations.LockAndTrainingCommandsComplete : Prop :=
  (∀ (s : State), s.time.sysPllLocked = true → Runs .sysPllLockLoss s fun t =>
    t.time.sysPllLocked = false ∧ rd t F.LOOP_ENGINE_STATUS_FALLBACK = 1 ∧
    ∀ n : Fin 8, rd t F.ASD_STATUS_RX_BUSY n = 0 ∧ rd t F.ASD_STATUS_TX_BUSY n = 0) ∧
  (∀ (s : State), s.time.sysPllLocked = false → (s.power.mode = .show ∨ s.power.mode = .leavingIntermission) →
    Runs .sysPllRelock s fun t => t.time.sysPllLocked = true ∧ rd t F.LOOP_ENGINE_STATUS_FALLBACK = 0) ∧
  (∀ (s : State) (line : Bool) (b : Fin 2), (pllPair s line b).inUseLocked = true → Runs (.pllLockLoss line b) s fun t =>
    pllPair t line b = (if (pllPair s line b).onUnderstudy then ⟨(pllPair s line b).mainLocked, false, true⟩
      else ⟨false, (pllPair s line b).understudyLocked, (pllPair s line b).understudyLocked⟩) ∧
    ∀ l ∈ regionLanes s line b, laneLol t l = true) ∧
  (∀ (s : State) (n : Fin 16), rd s F.HSL_STATUS_TRAINING n = 1 → laneRuns s (.host n) = true →
    Runs (.hslTrainTimeout n) s fun t =>
      (front t (.host n)).trainSince = some s.time.tick ∧ (front t (.host n)).pass = 0 ∧
      rd t F.HSL_STATUS_TRAINING n = 1) ∧
  (∀ (s : State) (n : Fin 16) (codes : List Int),
    let u := rxStream s (.host n) codes
    forwarded u = true → rd u F.HSL_STATUS_TRAINED n = 1 → laneRuns u (.host n) = true → timingHeld u (.host n) = false →
    Runs (.hslTrackWindow n codes) s fun t =>
      let thr : Int := 256 * (rdE u F.HSL_TR_CTRL_TRACK_THR n : Nat)
      let sum := (rxRec u (.host n)).track
      (rxRec t (.host n)).track = 0 ∧ (front t (.host n)).phase =
        if thr < sum then ((front u (.host n)).phase + 2 ^ 18) % 2 ^ 24
        else if sum < -thr then ((front u (.host n)).phase + (2 ^ 24 - 2 ^ 18)) % 2 ^ 24 else (front u (.host n)).phase) ∧
  (∀ (s : State) (l : LaneId) (repeated : Bool) (p : Nat), lanePort s l = some p → laneRuns s l = true →
    let i := cntPort p (if l.isLine then .tx else .rx) 13
    isPoisoned s 60 i = false → wordErrs s 60 i = 0 →
    Runs (.wanderLimit l true repeated) s fun t => counter t i = (counter s i + 1) % 2 ^ 48 ∧
      (txRec t l).slip = (txRec s l).slip + (if repeated then -(blockSymbols l : Int) else blockSymbols l)) ∧
  (∀ (s : State) (n : Fin 8) (repeated : Bool) (p : Nat), lanePort s (.line n) = some p → laneRuns s (.line n) = true →
    (linkState s p = 4 ∨ linkState s p = 5) → Runs (.wanderLimit (.line n) false repeated) s fun t => (lockOf t n).state = 0) ∧
  (∀ (s : State) (n : Fin 16) (repeated : Bool) (p : Nat), lanePort s (.host n) = some p → laneRuns s (.host n) = true →
    Runs (.wanderLimit (.host n) false repeated) s fun t => rd t F.HSL_ALIGN_STATUS_LOCKED n = 0) ∧
  (∀ (s : State) (c : Cmd), Taken 0x0330 [(2, 0xFFFF)] c s → c.w 2 ≠ 0 → forwarded s = true →
    (∀ l ∈ allHost, (c.w 2).testBit l.num = true → lanePowered s l = true ∧ laneRehearsing s l = false) →
    GoesOn (.hslRetrain c) 0x0330 c s (c.w 2) 0 fun u =>
      ∀ n : Fin 16, (c.w 2).testBit n = true → rd u F.HSL_STATUS_TRAINING n = 1)

/-- The references' and clock sources' commands complete (R192-R199). Commands: refLost, refPresent, refSlewDone, refRevertTimer,
clkRefRevert, failoverTimer, clkModePllLock, clkModeLockTimeout. -/
def Obligations.ReferenceCommandsComplete : Prop :=
  (∀ (s : State) (r : Fin 3), refOk s r = true → Runs (.refLost r) s fun t => refOk t r = false ∧
    ∀ b ∈ refUsers s r, inHoldover t b = true ∧
      (forwarded s = true → r.val < 2 → refOk s (1 - r.val) = true → hostRef t b = 1 - r.val)) ∧
  (∀ (s : State) (r : Fin 3), refOk s r = false → Runs (.refPresent r) s fun t =>
    refOk t r = true ∧ ∀ b : Fin 2, inHoldover t b = inHoldover s b) ∧
  (∀ (s : State) (b : Fin 2), inHoldover s b = true → refOk s (hostRef s b) = true → Runs (.refSlewDone b) s fun t =>
    inHoldover t b = false ∧
    (forwarded s = true → vGet s.path.refChanged b false = true → ∀ n : Fin 16, LaneId.host n ∈ regionLanes s false b → rd t F.HSL_STATUS_TRAINING n = 1)) ∧
  (∀ (s : State) (b : Fin 2), revertable s b = true → rdE s F.HSL_REF_CTRL_REF_REVERT = 1 →
    Runs (.refRevertTimer b) s fun t => hostRef t b = b ∧ inHoldover t b = true) ∧
  (∀ (s : State) (c : Cmd), Taken 0x0260 [(2, 1)] c s → revertable s (c.w 2) = true →
    CompletesOk (.clkRefRevert c) 0x0260 c s 0 0 fun u => hostRef u (c.w 2) = c.w 2 ∧ inHoldover u (c.w 2) = true) ∧
  (∀ (s : State) (p : Fin 8) (rx : Bool), recovered s = true → portEnabled s p = true →
    Runs (.failoverTimer p rx) s fun t =>
      (sourceLocked s (designated s p rx) = true → followed t p rx = none) ∧
      (sourceLocked s (designated s p rx) = false → followed s p rx = none → rdE s F.HSL_CLK_SEL_FAILOVER p ≠ 0 → ∀ n,
        ((if rx then portLines s p else portHosts s p).find? fun n =>
          sourceLocked s (if rx then lineOf n else hostOf n)) = some n → followed t p rx = some n)) ∧
  (∀ (s : State), s.path.modeChange = true → s.power.mode = .show → Runs .clkModePllLock s fun t =>
    t.path.modeChange = false ∧
    ∀ (line : Bool) (b : Fin 2), regionPowered s line b = true → pllPair t line b = ⟨true, true, false⟩) ∧
  (∀ (s : State), s.path.modeChange = true → Runs .clkModeLockTimeout s fun t =>
    ∃ b d, b < 2 ∧ t = raiseEvent s (ev 0x8260 (locPll (5 + b) 0) d) ∧ d.testBit 7 = true)

/-- A GO fires or is rejected as a whole, staged values come back, and cues fire (R30, R31, R342, R343, R346). Commands: goFire,
goDiscard, cueFire. -/
def Obligations.GoAndCueFiringComplete : Prop :=
  (∀ (s : State) (mask : BitVec 16), goChecks s (goCandidate s mask.toNat) mask.toNat = none →
    Runs (.goFire mask []) s fun t =>
      (∀ x ∈ goInsts, ∀ e ∈ x.slots, rdE t e.1 x.num e.2 =
        if x.fired s mask.toNat then rd s e.1 x.num e.2 else rdE s e.1 x.num e.2) ∧
      (mask ≠ 0 → ∀ p : Fin 8, rd t F.PCS_ALIGN_STATUS_PERIOD p =
        if portEnabled t p then markerPeriod (portFormat t p) % 2 ^ F.PCS_ALIGN_STATUS_PERIOD.width else 0) ∧
      ∀ g : Fin 16, mask.toNat.testBit g = true → rd t F.GO_STATUS_g_CODE g = 0 ∧ rd t F.GO_STATUS_g_SUBCODE g = 0 ∧
        rd t F.GO_INFO_g_LAST_CUE g = 0) ∧
  (∀ (s : State) (mask : BitVec 16) (f : GoFail), mask ≠ 0 → goChecks s (goCandidate s mask.toNat) mask.toNat = some f →
    let fg := failGroup s mask.toNat f.inst
    Runs (.goFire mask []) s fun t => t.eff = s.eff ∧
      (∀ g : Fin 16, mask.toNat.testBit g = true → g.val ≠ fg → rd t F.GO_STATUS_g_CODE g = stAborted ∧
        rd t F.GO_STATUS_g_SUBCODE g = fg) ∧
      ∀ g : Fin 16, mask.toNat.testBit g = true → g.val = fg →
        rd t F.GO_STATUS_g_CODE g = f.code % 2 ^ F.GO_STATUS_g_CODE.width) ∧
  (∀ (s : State) (mask : BitVec 16), Runs (.goDiscard mask) s fun t =>
    t = { s with fld := t.fld } ∧
    (∀ x ∈ goInsts, x.fired s mask.toNat = true → ∀ e ∈ x.slots, rd t e.1 x.num e.2 = rdE s e.1 x.num e.2) ∧
    ∀ k, (∀ x ∈ goInsts, x.fired s mask.toNat = true → ∀ e ∈ x.slots, e.1.key x.num e.2 ≠ k) →
      aGet t.fld k = aGet s.fld k) ∧
  (∀ (s : State) (p : Fin 8) (d : Dir), dueDistances s p d = [] → Runs (.cueFire p d []) s fun t => t = s) ∧
  (∀ (s : State) (p : Fin 8) (d : Dir) (ago : Nat) (x : DueCue), dueDistances s p d = [ago] → dueAt s p d ago = [x] →
    x.cue.action = 8 → Runs (.cueFire p d []) s fun t =>
      cueSlot t x.entry = (if x.cue.periodic then .armed { x.cue with
          trigger := x.cue.trigger + x.cue.period
          reached := none }
        else .free) ∧
      t.eff = s.eff) ∧
  (∀ (s : State) (p : Fin 8) (d : Dir) (ago : Nat) (x : DueCue), dueDistances s p d = [ago] → dueAt s p d ago = [x] →
    x.cue.action = 5 → lanePowered s (lineOf (x.cue.arg % 8)) = true → rehearsing s 1 (x.cue.arg % 8) = false →
    asideRuns s (x.cue.arg % 8) = true → (vGet s.aside.bufs (x.cue.arg / 256 % 16) none).isSome = true →
    (asideLane s (x.cue.arg % 8)).early.contains (x.entry, x.cue.trigger) = false →
    Runs (.cueFire p d []) s fun t =>
      AsideOut.buffer (x.cue.arg / 256 % 16) none ∈ (asideLane t (x.cue.arg % 8)).queue) ∧
  (∀ (s : State) (p : Fin 8) (d : Dir) (ago : Nat) (x : DueCue), dueDistances s p d = [ago] → dueAt s p d ago = [x] →
    x.cue.action = 1 → let s1 := cueAdvance (cueFired s x) x
    goChecks s1 (goCandidate s1 (x.cue.arg % 2 ^ 16)) (x.cue.arg % 2 ^ 16) = none →
    Runs (.cueFire p d []) s fun t => ∀ i ∈ goInsts, ∀ e ∈ i.slots, rdE t e.1 i.num e.2 =
      if i.fired s (x.cue.arg % 2 ^ 16) then rd s e.1 i.num e.2 else rdE s e.1 i.num e.2) ∧
  (∀ (s : State) (mask : BitVec 16) (p : Fin 8) (d : Dir) (ago : Nat) (x : DueCue), dueDistances s p d = [ago] →
    dueAt s p d ago = [x] → x.cue.action = 1 → let s1 := cueAdvance (cueFired s x) x
    let m := (mask.toNat ||| x.cue.arg) % 2 ^ 16
    goChecks s1 (goCandidate s1 m) m = none →
    Runs (.goFire mask [.cue p d]) s fun t =>
      (∀ i ∈ goInsts, ∀ e ∈ i.slots, rdE t e.1 i.num e.2 =
        if i.fired s m then rd s e.1 i.num e.2 else rdE s e.1 i.num e.2) ∧
      ∀ g : Fin 16, m.testBit g = true → rd t F.GO_STATUS_g_CODE g = 0 ∧
        rd t F.GO_INFO_g_LAST_CUE g = b2n (x.cue.arg.testBit g))

/-- R346: a write of a mask to GO_DISCARD copies every effective RS value of each named group back into its staged value.
Commands: goDiscard. -/
def Obligations.GoDiscardCopiesEffective : Prop :=
  ∀ (s : State) (mask : BitVec 16), ∃ t, exec (.goDiscard mask) s = .next t ∧
    ∀ x ∈ goInsts, mask.toNat.testBit (rd s x.groupField x.num) = true → ∀ e ∈ x.slots,
      rd t e.1 x.num e.2 = rdE s e.1 x.num e.2

/-- The test commands and the test access port complete (R434-R447). Commands: tstRehearse, rehearsalEnd, tstAbort, tstMemTest,
memTestEnd, tstDress, dressRehearsalEnd, testLimitExceeded, jtagInstructionUpdate, jtagTapReset. -/
def Obligations.TestCommandsComplete : Prop :=
  (∀ (s : State) (c : Cmd), Taken 0x0D01 [(2, 15), (3, 0xFF)] c s → s.sec.otp.life ≠ 4 → c.w 3 < clusterCount (c.w 2) →
    rehearsalReady s (c.w 2) (c.w 3) = true → testRuns s = false → clusterCalibrating s (c.w 2) (c.w 3) = false →
    GoesOn (.tstRehearse c) 0x0D01 c s 0 0 fun u =>
      rehearsing u (c.w 2) (c.w 3) = true ∧ rd u F.TST_STATUS_RUNNING = 1 ∧ rd u F.TST_STATUS_TEST = 1 ∧
      rd u F.TST_STATUS_CLASS = c.w 2 ∧ rd u F.TST_STATUS_INSTANCE = c.w 3) ∧
  (∀ (s : State) (r : Rehearsal) (v : TestVerdict) (patterns : Word) (unit : BitVec 12), s.test.rehearsal = some r →
    Runs (.rehearsalEnd v patterns unit) s fun t =>
      t.test.rehearsal = none ∧ rd t F.TST_STATUS_RUNNING = 0 ∧
      rd t F.TST_STATUS_RESULT = (verdictEnd v patterns.toNat).result) ∧
  (∀ (s : State) (c : Cmd), Taken 0x0D02 [] c s → (s.test.rehearsal.isSome = true ∨ s.test.memTest.isSome = true) →
    CompletesOk (.tstAbort c) 0x0D02 c s 0 0 fun u =>
      u.test.rehearsal = none ∧ u.test.memTest = none ∧ rd u F.TST_STATUS_RUNNING = 0 ∧ rd u F.TST_STATUS_RESULT = 2) ∧
  (∀ (s : State) (c : Cmd), Taken 0x0D03 [(2, 0x3F)] c s → testRuns s = false →
    GoesOn (.tstMemTest c) 0x0D03 c s 0 0 fun u =>
      u.test.memTest = some (c.w 2) ∧ rd u F.TST_STATUS_RUNNING = 1 ∧ rd u F.TST_STATUS_TEST = 2) ∧
  (∀ (s : State) (k : Nat) (fails : List (Fin 32768 × Fin 79)) (counted : Bool) (patterns : Word), s.test.memTest = some k →
    Runs (.memTestEnd fails counted patterns) s fun t =>
      t.test.memTest = none ∧ rd t F.TST_STATUS_RUNNING = 0 ∧
      rd t F.TST_STATUS_RESULT = if counted then (if fails = [] then 0 else 1) else 2) ∧
  (∀ (s : State) (c : Cmd), Taken 0x0D04 [] c s → testAllowed s = true → testRuns s = false → s.cal.run = none →
    s.sec.update = none → s.sec.ops = [] → (∀ p : Fin 8, rdE s F.PCS_PORT_CTRL_ADMIN_UP p = 0) →
    (∀ k : Fin 32, loopMode s k = 0 ∧ rdE s F.BDAC_CTRL_c_EN k = 0) →
    GoesOn (.tstDress c) 0x0D04 c s 0 0 fun u =>
      u.test.dress = true ∧ rd u F.TST_STATUS_RUNNING = 1 ∧ rd u F.TST_STATUS_TEST = 3) ∧
  (∀ (s : State) (v : TestVerdict) (patterns : Word) (partitions : BitVec 4) (ports line : BitVec 8) (host : BitVec 16),
    s.test.dress = true → Runs (.dressRehearsalEnd v patterns partitions ports line host) s fun t =>
      t.test.dress = false ∧ t.power.warmPending = true ∧ rd t F.TST_STATUS_RUNNING = 0 ∧
      rd t F.TST_STATUS_RESULT = (verdictEnd v patterns.toNat).result) ∧
  (∀ (s : State) (clock : Bool) (patterns : Word), testRuns s = true →
    Runs (.testLimitExceeded clock patterns) s fun t => testRuns t = false ∧ rd t F.TST_STATUS_RUNNING = 0 ∧
      rd t F.TST_STATUS_RESULT = 2 ∧ rd t F.TST_STATUS_CAUSE = if clock then 1 else 2) ∧
  (∀ (s : State) (clock : Bool) (patterns : Word), testRuns s = false →
    Runs (.testLimitExceeded clock patterns) s fun t => t = s) ∧
  (∀ (s : State) (code : BitVec 8), Runs (.jtagInstructionUpdate code) s fun t =>
    t.test.jtagIr = jtagEffective s code.toNat ∧ t.test.jtagPins = jtagTakesPins code.toNat ∧
    (jtagGated code.toNat = true → s.sec.otp.life = 2 → (rd t F.SEC_ALARM_STATUS_SOURCES).testBit 3 = true)) ∧
  (∀ (s : State), Runs .jtagTapReset s fun t => t = { s with test := { s.test with jtagIr := 1, jtagPins := false } })

/-- The memories' and the security alarm's commands complete (R359, R361, R362, R366, R418-R420). Commands: remapInstall,
scrubWord, memRemap, memInject, alarmNPulseEnd. -/
def Obligations.MemoryAndAlarmCommandsComplete : Prop :=
  (∀ (s : State) (k : Fin 64) (c : Nat × Nat), s.mem.candidates.find? (·.1 == k.val) = some c → remapFull s k = false →
    remapped s k c.2 = false → c.2 ∉ (bankOf s k).poison → eccDecode (wordErrs s k c.2) ≠ .uncorr →
    Runs (.remapInstall k) s fun t => remapped t k c.2 = true ∧ wordErrs t k c.2 = 0 ∧ c ∉ t.mem.candidates) ∧
  (∀ (s : State) (k : Fin 64) (upset : BitVec 79) (raced : Bool), scrubs s = false → Runs (.scrubWord k upset raced) s fun t => t = s) ∧
  (∀ (s : State) (k : Fin 64) (upset : BitVec 79) (raced : Bool), scrubs s = true →
    nextValid s k (bankOf s k).scrubAt = none → Runs (.scrubWord k upset raced) s fun t => (bankOf t k).scrubAt = 0 ∧ (bankOf t k).passStart = s.time.tick) ∧
  (∀ (s : State) (k : Fin 64) (upset : BitVec 79) (raced : Bool) (a : Nat), scrubs s = true →
    nextValid s k (bankOf s k).scrubAt = some a → Runs (.scrubWord k upset raced) s fun t =>
      ((bankOf t k).scrubAt = a + 1 ∨ (bankOf t k).scrubAt = 0) ∧
      (isPoisoned s k a = false → ∀ i j, eccDecode (wordErrs s k a ^^^ upset) = .corr2 i j →
        wordErrs t k a = if raced then bitsMask [i, j] else 0)) ∧
  (∀ (s : State) (c : Cmd), Taken 0x0A01 [(2, 0x3F), (3, 0xFFFF)] c s → c.w 3 < bankWords (c.w 2) → retained s (c.w 2) = false →
    remapFull s (c.w 2) = false → remapped s (c.w 2) (c.w 3) = false →
    CompletesOk (.memRemap c) 0x0A01 c s 0 0 fun u =>
      remapped u (c.w 2) (c.w 3) = true ∧ wordErrs u (c.w 2) (c.w 3) = 0) ∧
  (∀ (s : State) (c : Cmd), Taken 0x0A02 [(2, 0x3F), (3, 0xFFFF), (4, 3), (5, 0x7F)] c s → testAllowed s = true →
    c.w 3 < bankWords (c.w 2) → c.w 4 ≠ 0 → c.w 5 ≤ 76 → 12 ≤ c.w 2 → wordValid s (c.w 2) (c.w 3) = true →
    retained s (c.w 2) = false → let v := takenState 0x0A02 c s
    CompletesOk (.memInject c) 0x0A02 c s 0 0 fun u =>
      wordErrs u (c.w 2) (c.w 3) =
        eccSeen (wordErrs v (c.w 2) (c.w 3) ^^^ BitVec.ofNat 79 ((2 ^ c.w 4 - 1) * 2 ^ c.w 5))) ∧
  (∀ (s : State) (i : Instr) (source : Nat), (i = .voltageGlitch ∧ source = 0 ∨ i = .clockGlitch ∧ source = 1) →
    deviceUp s = true → let act := alarmAction s source
    Runs i s fun t =>
      (rd t F.SEC_ALARM_STATUS_SOURCES).testBit source = true ∧
      rd t F.SEC_ALARM_STATUS_IN_FORCE = max act (rd s F.SEC_ALARM_STATUS_IN_FORCE) ∧ t.sec.pulse = some s.time.tick ∧
      (1 ≤ act → t.sec.locked = true ∧ t.sec.update = none) ∧
      (2 ≤ act → t.sec.zeroized = true ∧ t.sec.session = false ∧ ∀ k : Fin 4, vGet t.aside.keys k none = none) ∧
      (act = 3 → t.sec.otp.scorched = true)) ∧
  (∀ (s : State), s.sec.pulse.isSome = true → sinceNs s s.sec.pulse 1000000 = true → Runs .alarmNPulseEnd s fun t =>
    t = { s with sec := { s.sec with pulse := none } })

/-- Faults, supplies and the prompt book's commands complete (R9, R368-R371, R375-R381). Commands: watchdogService,
watchdogExpiry, lockstepMismatch, crystalEdgeLoss, crystalReturn, supplyWarnAssert, supplyWarnRelease, brownoutWindowClose,
pbFlashCopyStart, pbFlashCopyDone, pbRead, pbRelease, pbFlashRead, pbMark. -/
def Obligations.FaultAndBookCommandsComplete : Prop :=
  (∀ (s : State), mexisRuns s = true → Runs .watchdogService s fun t => t.faults.watchdogAt = s.time.tick) ∧
  (∀ (s : State), mexisRuns s = true → sinceNs s (some s.faults.watchdogAt) 100000000 = true →
    Runs .watchdogExpiry s fun t => t.mgmt.restartCause = if s.power.warmPending then none else some 3) ∧
  (∀ (s : State), mexisRuns s = true → Runs .lockstepMismatch s fun t =>
    t.mgmt.restartCause = if s.power.warmPending then none else some 2) ∧
  (∀ (s : State), s.time.crystalOk = true → deviceUp s = true → Runs .crystalEdgeLoss s fun t =>
    t.time.crystalOk = false ∧ t.time.estimated = true ∧ rd t F.CUE_SC_STATE_HC_ESTIMATED = 1 ∧ testRuns t = false) ∧
  (∀ (s : State), s.time.crystalOk = false → deviceUp s = true → Runs .crystalReturn s fun t =>
    t.time = { s.time with crystalOk := true }) ∧
  (∀ (s : State) (r : Fin 7), below s r = false → railMonitored s r = true → Runs (.supplyWarnAssert r) s fun t =>
    below t r = true ∧ (∀ q : Fin 7, q ≠ r → below t q = below s q) ∧
    (deviceUp s = true → r.val < 4 → t.faults.window.isSome = true ∧ testRuns t = false ∨ s.faults.window.isSome = true)) ∧
  (∀ (s : State) (r : Fin 7), railLow s r = true → Runs (.supplyWarnRelease r) s fun t =>
    railLow t r = false ∧ (∀ q : Fin 7, q ≠ r → railLow t q = railLow s q) ∧
    vGet t.faults.clearSince r 0 = s.time.tick) ∧
  (∀ (s : State) (w : Nat × Nat), s.faults.window = some w → dataRailBelow s = false → sinceNs s (some w.2) 2000 = true →
    Runs .brownoutWindowClose s fun t => t.faults.window = none ∧
      ∀ l : Fin 32, loopState s l = 1 → loopRec t l = comesBack (loopRec s l)) ∧
  (∀ (s : State) (n : Nat), ready s = true → s.book.copying = none → s.book.queued.find? (copyEligible s) = some n →
    Runs .pbFlashCopyStart s fun t => t.book.copying = some (n, (s.book.nextSeq + 2 ^ 24 - 1) % 2 ^ 24) ∧
      t.book.queued = s.book.queued.erase n) ∧
  (∀ (s : State) (x : Nat × Nat), s.book.copying = some x → Runs .pbFlashCopyDone s fun t =>
    t.book.copying = none ∧ t.book.nextFlash = s.book.nextFlash + 1 ∧
    (vGet t.book.flash s.book.nextFlash none).isSome = true ∧
    vGet t.book.flash (s.book.nextFlash + 1) none = vGet s.book.flash (s.book.nextFlash + 1) none) ∧
  (∀ (s : State) (c : Cmd), Taken 0x0B01 [(2, 0xFFFFFF), (3, 0xFFFFFFFF), (4, 0xFFFFFFFF)] c s → c.w 4 % 4 = 0 →
    c.w 3 ≠ 0 → c.w 3 ≤ 4096 → let v := takenState 0x0B01 c s
    (∃ e ∈ v.book.records, e.2.seq = c.w 2) → c.w 4 + 32 * min (c.w 3) (slotsFrom v (c.w 2)).length ≤ bulkEnd s →
    ∃ n lost, n + lost = min (c.w 3) (slotsFrom v (c.w 2)).length ∧
      CompletesOk (.pbRead c) 0x0B01 c s n lost fun u => u.book.flash = s.book.flash) ∧
  (∀ (s : State) (c : Cmd), Taken 0x0B02 [(2, 3)] c s → c.w 2 ≠ 0 → let v := takenState 0x0B02 c s
    (∀ k ∈ bitsSet 2 (c.w 2), sectionHeld v k = true) →
    CompletesOk (.pbRelease c) 0x0B02 c s 0 0 fun u => ∀ k : Fin 2,
      sectionHeld u k = (sectionHeld v k && !(c.w 2).testBit k)) ∧
  (∀ (s : State) (c : Cmd) (copy : List (Nat × PbRecord)),
    Taken 0x0B03 [(2, 1), (3, 0xFFFFFFFF), (4, 0xFFFFFFFF), (5, 0xFFFFFFFF)] c s → c.w 5 % 4 = 0 → c.w 4 ≠ 0 →
    c.w 3 + c.w 4 ≤ 4096 → c.w 5 + 32 * c.w 4 ≤ bulkEnd s → vGet s.book.flash (c.w 2) none = some copy →
    CompletesOk (.pbFlashRead c) 0x0B03 c s (c.w 4) 0 fun u =>
      u.mgmt.window = winPutWords (takenState 0x0B03 c s).mgmt.window (windowBase + c.w 5)
        ((List.range (c.w 4)).flatMap fun k => match aGet copy (c.w 3 + k) with
          | some r => recordWords r
          | none => List.replicate 8 0)) ∧
  (∀ (s : State) (c : Cmd), Taken 0x0B04 [(2, 0xFFFFFFFF)] c s → let v := takenState 0x0B04 c s
    (sectionHeld v 0 = false ∨ sectionHeld v 1 = false) →
    CompletesOk (.pbMark c) 0x0B04 c s v.book.nextSeq 0 fun u => ∃ k x, sectionHeld v k = false ∧
      vGet u.book.sections k none = some x ∧ x.trigger = 8 ∧ x.markerSeq = v.book.nextSeq)

/-- Register writes complete (R314, R336-R340, R348): an accepted write applies, the window takes words, fields take their bits,
of two writes in one cycle the later interface's stands (R344), and the error captures rearm. Commands: registerWrite,
regifErrInfoRearm, memErrInfoRearm, votedFieldUpset. -/
def Obligations.RegisterWritesComplete : Prop :=
  (∀ (s : State) (iface : Iface) (a : BitVec 24) (d : Word), deviceUp s = true → writeRefusal s a.toNat d.toNat = none →
    Runs (.registerWrite iface a d []) s fun t => t = signalWrite iface (writeApply s a.toNat d.toNat) none) ∧
  (∀ (s : State) (iface : Iface) (a : BitVec 24) (d : Word), deviceUp s = true → a.toNat % 4 = 0 → inWindow a.toNat = true →
    windowReadOnly s a.toNat = false →
    Runs (.registerWrite iface a d []) s fun t => winWord t.mgmt.window a.toNat = d.toNat ∧
      (∀ c, c < a.toNat ∨ a.toNat + 4 ≤ c → winByte t.mgmt.window c = winByte s.mgmt.window c)) ∧
  (∀ (s : State) (iface : Iface) (a : BitVec 24) (d : Word) (r : RegInfo) (i j : Nat), deviceUp s = true →
    target a.toNat = .mainReg r i j → writeRefusal s a.toNat d.toNat = none → dressTested s a.toNat = false →
    r.place.base ∉ [Regs.CUE_LATCH.base, Regs.LRX_SPOT_CTRL.base, Regs.SNS_SYNC.base, Regs.SNAP_CTRL.base, Regs.GO_FIRE.base,
      Regs.GO_DISCARD.base, Regs.BDAC_CEIL_c.base, Regs.CNT_SLOT_s.base, Regs.RING_LAYOUT.base, Regs.DB_CPL_ACK.base,
      Regs.DB_EVT_ACK.base, Regs.PWR_WAKE_CFG.base] →
    Runs (.registerWrite iface a d []) s fun t => t.eff = s.eff ∧
      ∀ f ∈ r.fields, (f.ty = .rw ∨ f.ty = .rs) → rd t f i j = d.toNat / 2 ^ f.lo % 2 ^ f.width) ∧
  (∀ (s : State) (iface who : Iface) (a : BitVec 24) (d e : Word), deviceUp s = true → iface.num < who.num →
    a.toNat % 4 = 0 → inWindow a.toNat = true → windowReadOnly s a.toNat = false →
    Runs (.registerWrite iface a d [.write who a e]) s fun t => winWord t.mgmt.window a.toNat = e.toNat ∧
      (∀ c, c < a.toNat ∨ a.toNat + 4 ≤ c → winByte t.mgmt.window c = winByte s.mgmt.window c)) ∧
  (∀ (s : State) (iface : Iface), deviceUp s = true → Runs (.regifErrInfoRearm iface []) s fun t =>
    rd t F.REGIF_ERR_INFO_VALID = 0) ∧
  (∀ (s : State) (iface who : Iface) (a : BitVec 24) (d : Word) (cause : Nat), deviceUp s = true → who ≠ iface →
    writeRefusal s a.toNat d.toNat = some cause →
    Runs (.regifErrInfoRearm iface [.write who a d]) s fun t => rd t F.REGIF_ERR_INFO_VALID = 1 ∧
      rd t F.REGIF_ERR_INFO_INTERFACE = who.num ∧ rd t F.REGIF_ERR_INFO_CAUSE = cause ∧
      rd t F.REGIF_ERR_INFO_ADDR = a.toNat) ∧
  (∀ (s : State) (iface : Iface), deviceUp s = true → Runs (.memErrInfoRearm iface []) s fun t =>
    rd t F.MEM_ERR_INFO_VALID = 0) ∧
  (∀ (s : State) (iface : Iface) (k : Fin 64) (a : Fin 32768) (scrub : Bool), deviceUp s = true →
    wordValid s k a = true → isPoisoned s k a = false → eccDecode (wordErrs s k a) = .uncorr →
    (∀ i ∈ [0x753, 0x755, 0x757], (k.val, a.val) ≠ (60, i) → eccDecode (wordErrs s 60 i) ≠ .uncorr) →
    Runs (.memErrInfoRearm iface [.lostWord k a scrub]) s fun t =>
      rd t F.MEM_ERR_INFO_VALID = 1 ∧ rd t F.MEM_ERR_INFO_BANK = k.val ∧ rd t F.MEM_ERR_INFO_ADDR = a.val ∧
      rd t F.MEM_ERR_INFO_SCRUB = b2n scrub) ∧
  (∀ (s : State) (b : VotedBit), deviceUp s = true → votedBit b = true →
    Runs (.votedFieldUpset b) s fun t =>
      if sinceNs s s.mgmt.tmrLast 1000000 then t.mgmt.tmrLast = some s.time.tick ∧ t.mgmt.tmrSince = 0
      else t.mgmt.tmrLast = s.mgmt.tmrLast ∧ t.mgmt.tmrSince = min 65535 (s.mgmt.tmrSince + 1))

/-- Port A's and the SPI slave's accesses, RING_LAYOUT and the doorbells complete (R315-R317, R322, R323, R349, R450). Commands:
i2cAWrite, i2cARead, spiWrite, spiRead, spiStatus, ringLayoutWrite, dbCmdWrite, dbCplAckWrite, dbEvtAckWrite. -/
def Obligations.PortAccessesComplete : Prop :=
  (∀ (s : State) (addr : BitVec 7) (data : List Byte), deviceUp s = true → addr.toNat ≠ portAddress s →
    Runs (.i2cAWrite addr data) s fun t => t = i2cDrive s [] (List.replicate (data.length + 1) false)) ∧
  (∀ (s : State) (addr : BitVec 7) (data : List Byte), deviceUp s = true → addr.toNat = portAddress s → data.length = 7 →
    rd s F.REGIF_CTRL_PEC_A = 0 → reservedAddr (be (data.take 3)) = false →
    writeRefusal s (be (data.take 3)) (be (data.drop 3)) = none →
    Runs (.i2cAWrite addr data) s fun t =>
      let u := writeApply s (be (data.take 3)) (be (data.drop 3))
      t = i2cDrive { u with mgmt := { u.mgmt with i2cNext := addrNext (be (data.take 3)) } } [] (List.replicate 8 true)) ∧
  (∀ (s : State) (addr : BitVec 7) (a : BitVec 24), deviceUp s = true → addr.toNat = portAddress s →
    rd s F.REGIF_CTRL_PEC_A = 0 → (regRead .i2cA s a.toNat).2.2 = none →
    Runs (.i2cARead addr (some a) 4) s fun t =>
      t.mgmt.i2cOut = bytesOf 4 (regRead .i2cA s a.toNat).2.1 ∧ t.mgmt.i2cNext = (a.toNat + 4) % 2 ^ 24 ∧
      t.mgmt.i2cAcks = List.replicate 5 true) ∧
  (∀ (s : State) (addr : BitVec 7), deviceUp s = true → addr.toNat = portAddress s →
    rd s F.REGIF_CTRL_PEC_A = 0 → (regRead .i2cA s s.mgmt.i2cNext).2.2 = none →
    Runs (.i2cARead addr none 4) s fun t =>
      t.mgmt.i2cOut = bytesOf 4 (regRead .i2cA s s.mgmt.i2cNext).2.1 ∧ t.mgmt.i2cAcks = [true]) ∧
  (∀ (s : State) (data : List Byte), deviceUp s = true → data.length = 7 → rd s F.REGIF_CTRL_CRC_SPI = 0 →
    writeRefusal s (be (data.take 3)) (be (data.drop 3)) = none →
    Runs (.spiWrite data) s fun t =>
      t = spiEnd (writeApply s (be (data.take 3)) (be (data.drop 3))) [spiStatus s] false false) ∧
  (∀ (s : State) (a : BitVec 24), deviceUp s = true → rd s F.REGIF_CTRL_CRC_SPI = 0 →
    (regRead .spi s a.toNat).2.2 = none →
    Runs (.spiRead a 4) s fun t =>
      t = spiEnd (regRead .spi s a.toNat).1 (spiStatus s :: bytesOf 4 (regRead .spi s a.toNat).2.1) false false) ∧
  (∀ (s : State) (cmd : Byte), deviceUp s = true → Runs (.spiStatus cmd) s fun t =>
    t.mgmt.spiOut = [spiStatus s] ∧ t.mgmt.spiCrcErr = false ∧
    (t.mgmt.spiBusErr = false ↔ cmd = 0x02 ∨ cmd = 0x03 ∨ cmd = 0x05)) ∧
  (∀ (s : State) (iface : Iface) (d : Word), deviceUp s = true → s.mgmt.layoutSpent = false → layoutOk s d.toNat = true →
    Runs (.ringLayoutWrite iface d) s fun t => t.mgmt.layoutSpent = true ∧
      rd t F.RING_LAYOUT_CMD_BASE = bitsOf d.toNat 5 0 ∧ rd t F.RING_LAYOUT_CPL_BASE = bitsOf d.toNat 11 6 ∧
      rd t F.RING_LAYOUT_EVT_BASE = bitsOf d.toNat 17 12 ∧
      rd t F.DB_CMD_PROD = 0 ∧ rd t F.DB_CPL_ACK_ACK = 0 ∧ rd t F.DB_EVT_ACK_ACK = 0 ∧
      rd t F.RING_CMD_CONS_CONS = 0 ∧ rd t F.RING_CPL_PROD_PROD = 0 ∧ rd t F.RING_EVT_PROD_PROD = 0) ∧
  (∀ (s : State) (iface : Iface) (d : Word), deviceUp s = true →
    doorbellOk (rd s F.DB_CMD_PROD) (rd s F.RING_CMD_CONS_CONS) (d.toNat % 2 ^ 16) (cmdRingSize s) = true →
    Runs (.dbCmdWrite iface d) s fun t => rd t F.DB_CMD_PROD = d.toNat % 2 ^ 16) ∧
  (∀ (s : State) (iface : Iface) (d : Word), deviceUp s = true →
    doorbellOk (rd s F.DB_CPL_ACK_ACK) (rd s F.DB_CPL_ACK_ACK) (d.toNat % 2 ^ 16) (cplFill s) = true →
    Runs (.dbCplAckWrite iface d) s fun t => rd t F.DB_CPL_ACK_ACK = d.toNat % 2 ^ 16 ∧
      (t.mgmt.waiting = [] ∨ cplRingSize t ≤ cplFill t)) ∧
  (∀ (s : State) (iface : Iface) (d : Word), deviceUp s = true →
    doorbellOk (rd s F.DB_EVT_ACK_ACK) (rd s F.DB_EVT_ACK_ACK) (d.toNat % 2 ^ 16) (evtFill s) = true →
    Runs (.dbEvtAckWrite iface d) s fun t => rd t F.DB_EVT_ACK_ACK = d.toNat % 2 ^ 16)

/-- Management's commands complete (R312, R320, R321, R328, R330, R332). Commands: undefinedOpcode, devNop, eventsLost, cmisLoad,
cmisPortBRead, cmisPortBWrite, cmisLogApply, cmisShadowRefresh, mgmtReady. -/
def Obligations.ManagementCommandsComplete : Prop :=
  (∀ (s : State) (c : Cmd) (opcode : BitVec 16), definedOpcodes.contains opcode.toNat = false →
    consumes (offer s opcode.toNat c) opcode.toNat c = true → slotUncorr (offer s opcode.toNat c) = false →
    Runs (.undefinedOpcode c opcode) s fun t =>
      t = complete (takenState opcode.toNat c s) c.tag opcode.toNat c.notify
        (if s.sec.recovery then stState else stOpcode) 0 0 0) ∧
  (∀ (s : State) (c : Cmd), Taken 0x0101 [] c s →
    CompletesOk (.devNop c) 0x0101 c s (mexisVersion s) 0 fun u => u = takenState 0x0101 c s) ∧
  (∀ (s : State), rd s F.RING_STATUS_EVT_LOST ≠ 0 → evtRoom s = true → Runs .eventsLost s fun t =>
    rd t F.RING_STATUS_EVT_LOST = 0 ∧ t.mgmt.evtSeq = s.mgmt.evtSeq + 1) ∧
  (∀ (s : State), rd s F.RING_STATUS_EVT_LOST = 0 → Runs .eventsLost s fun t => t = s) ∧
  (∀ (s : State) (c : Cmd) (o : Nat), Taken 0x0102 [(2, 0x3FF), (3, 0xFF), (4, 2 ^ 32 - 1), (5, 2 ^ 32 - 1)] c s →
    c.w 5 % 4 = 0 → loadOffset c = some o → c.w 5 + c.w 4 ≤ bulkEnd s → rd s F.RING_LAYOUT_CMIS_EN = 1 →
    CompletesOk (.cmisLoad c) 0x0102 c s 0 0 fun u => ∀ k, k < c.w 4 →
      winByte u.mgmt.window (shadowBase + o + k) =
        (wordsBytes (fetchWords (takenState 0x0102 c s) (windowBase + c.w 5) ((c.w 4 + 3) / 4)).2).getD k 0) ∧
  (∀ (s : State) (addr : BitVec 7) (reg : Option Byte) (count : Nat), portBAnswers s addr.toNat = true →
    Runs (.cmisPortBRead addr reg count) s fun t => t.mgmt.cmisOut.length = count ∧ t.mgmt.cmisAcks ≠ [] ∧
      (∀ x ∈ t.mgmt.cmisAcks, x = true) ∧ t.mgmt.cmisPage = s.mgmt.cmisPage) ∧
  (∀ (s : State) (addr : BitVec 7) (a : Byte) (o : Nat), portBAnswers s addr.toNat = true → a.toNat ≠ 126 → a.toNat ≠ 127 →
    cmisOffset s.mgmt.cmisPage s.mgmt.cmisBank a.toNat = some o → isPoisoned s 8 ((0x20000 + o) / 8) = false →
    wordErrs s 8 ((0x20000 + o) / 8) = 0 →
    Runs (.cmisPortBRead addr (some a) 1) s fun t => t.mgmt.cmisOut = [winByte s.mgmt.window (shadowBase + o)]) ∧
  (∀ (s : State) (addr : BitVec 7) (a v : Byte), portBAnswers s addr.toNat = true →
    Runs (.cmisPortBWrite addr a [v]) s fun t =>
      (a.toNat = 126 → t.mgmt.cmisBank = v.toNat ∧ t.mgmt.window = s.mgmt.window) ∧
      (a.toNat = 127 → t.mgmt.cmisPage = v.toNat ∧ t.mgmt.window = s.mgmt.window) ∧
      (a.toNat ≠ 126 → a.toNat ≠ 127 → ∀ o, cmisOffset s.mgmt.cmisPage s.mgmt.cmisBank a.toNat = some o →
        s.mgmt.cmisWritable.contains o = true → s.mgmt.cmisLog.length < 256 →
        t.mgmt.cmisLog = s.mgmt.cmisLog ++ [⟨o, v⟩] ∧ winByte t.mgmt.window (shadowBase + o) = v ∧
        t.mgmt.cmisAcks = [true, true, true])) ∧
  (∀ (s : State) (e : CmisWrite) (rest : List CmisWrite), s.mgmt.cmisLog = e :: rest →
    mexisRuns s = true → ready s = true → Runs .cmisLogApply s fun t => t.mgmt.cmisLog = rest) ∧
  (∀ (s : State) (o : BitVec 16) (v : Byte) (writable : List (BitVec 16)), mexisRuns s = true → ready s = true →
    o.toNat < 128 → rd s F.RING_LAYOUT_CMIS_EN = 1 → Runs (.cmisShadowRefresh [(o, v)] writable) s fun t =>
      winByte t.mgmt.window (shadowBase + o.toNat) = v ∧ t.mgmt.cmisWritable = writable.map (·.toNat)) ∧
  (∀ (s : State) (m : MexisStart), mexisRuns s = true → ready s = false → s.power.warmPending = false →
    Runs (.mgmtReady m) s fun t => ready t = true ∧ rd t F.RING_STATUS_RESTARTING = 0 ∧ t.mgmt.engineHeld = false ∧
      t.sec.applyDue = false ∧ t.mgmt.afterRestart = false ∧
      (s.mgmt.afterRestart = true → s.sec.applyDue = false → t.mgmt.inProgress = []))

/-- Security's commands complete: keys, sessions, the life cycle and the fuses (R225, R411-R417, R433). Commands: asdKeySet,
asdKeyClear, authOpen, authChallengeExpiry, authRespond, authClose, lcAdvance, lcDiagOpen, secOtpProgram, secKeyRevoke. -/
def Obligations.SecurityCommandsComplete : Prop :=
  (∀ (s : State) (c : Cmd), Taken 0x0704 ([(2, 3), (3, 0xFF)] ++ (List.range 8).map fun k => (4 + k, 2 ^ 32 - 1)) c s →
    s.sec.session = true → keySlotUsed s (c.w 2) = false →
    CompletesOk (.asdKeySet c) 0x0704 c s 0 0 fun u => vGet u.aside.keys (c.w 2) none =
      some (BitVec.ofNat 8 (c.w 3), BitVec.ofNat 256 (joinWords ((List.range 8).map fun k => c.w (4 + k))))) ∧
  (∀ (s : State) (c : Cmd), Taken 0x0705 [(2, 3)] c s → s.sec.session = true → keySlotUsed s (c.w 2) = false →
    CompletesOk (.asdKeyClear c) 0x0705 c s 0 0 fun u => vGet u.aside.keys (c.w 2) none = none) ∧
  (∀ (s : State) (c : Cmd), Taken 0x0C01 [(2, 2 ^ 32 - 1)] c s → c.w 2 + 32 ≤ bulkEnd s → s.sec.otp.owner.isSome = true →
    CompletesOk (.authOpen c) 0x0C01 c s 0 0 fun u => ∃ v, u.sec.challenge = some (v, s.time.tick) ∧
      ∀ k, k < 32 → winByte u.mgmt.window (windowBase + c.w 2 + k) = (bytesOf 32 v.toNat).getD k 0) ∧
  (∀ (s : State), challengeOpen s = false → Runs .authChallengeExpiry s fun t => t.sec.challenge = none) ∧
  (∀ (s : State), challengeOpen s = true → Runs .authChallengeExpiry s fun t => t = s) ∧
  (∀ (s : State) (c : Cmd), Taken 0x0C02 [(2, 2 ^ 32 - 1)] c s → c.w 2 + 196 ≤ bulkEnd s → challengeOpen s = true →
    let v := takenState 0x0C02 c s
    (eccReadAll v 8 (windowWords (windowBase + c.w 2) 196)).2 = false →
    (responseGood v (winBytes v.mgmt.window (windowBase + c.w 2) 196) = true →
      CompletesOk (.authRespond c) 0x0C02 c s 0 0 fun u =>
        u.sec.session = true ∧ u.sec.challenge = none ∧ rd u F.SEC_ALARM_STATUS_AUTH_FAILS = 0) ∧
    (responseGood v (winBytes v.mgmt.window (windowBase + c.w 2) 196) = false →
      ∃ u, exec (.authRespond c) s = .next (complete u c.tag 0x0C02 c.notify stAuth 0 0 0) ∧ u.sec.challenge = none ∧
        rd u F.SEC_ALARM_STATUS_AUTH_FAILS =
          if 7 ≤ rd s F.SEC_ALARM_STATUS_AUTH_FAILS then 0 else rd s F.SEC_ALARM_STATUS_AUTH_FAILS + 1)) ∧
  (∀ (s : State) (c : Cmd), Taken 0x0C02 [(2, 2 ^ 32 - 1)] c s → c.w 2 + 196 ≤ bulkEnd s → challengeOpen s = true →
    (eccReadAll (takenState 0x0C02 c s) 8 (windowWords (windowBase + c.w 2) 196)).2 = true →
    ∃ u, exec (.authRespond c) s = .next (complete u c.tag 0x0C02 c.notify stAuth 0 0 0) ∧ u.sec.challenge = none ∧
      rd u F.SEC_ALARM_STATUS_AUTH_FAILS =
        if 7 ≤ rd s F.SEC_ALARM_STATUS_AUTH_FAILS then 0 else rd s F.SEC_ALARM_STATUS_AUTH_FAILS + 1) ∧
  (∀ (s : State) (c : Cmd), Taken 0x0C03 [] c s → s.sec.session = true →
    CompletesOk (.authClose c) 0x0C03 c s 0 0 fun u => u.sec.session = false) ∧
  (∀ (s : State) (c : Cmd), Taken 0x0C10 [(2, 7), (3, 2 ^ 32 - 1)] c s → s.sec.session = true →
    c.w 3 = Config.deviceId.toNat % 2 ^ 32 → lifeAllowed s.sec.otp (c.w 2) = true →
    CompletesOk (.lcAdvance c) 0x0C10 c s 0 0 fun u => u.sec.otp = { s.sec.otp with life := c.w 2 } ∧
      u.sec.session = false ∧ u.sec.fieldDiag = false ∧ ∀ k : Fin 4, vGet u.aside.keys k none = none) ∧
  (∀ (s : State) (c : Cmd), Taken 0x0C11 [] c s → s.sec.otp.life = 2 → s.sec.session = true → s.sec.fieldDiag = false →
    CompletesOk (.lcDiagOpen c) 0x0C11 c s 0 0 fun u => u.sec = { s.sec with fieldDiag := true }) ∧
  (∀ (s : State) (c : Cmd), Taken 0x0C12 [(2, 3), (3, 2 ^ 32 - 1)] c s → s.sec.otp.life = 1 → (c.w 2 = 1 ∨ c.w 2 = 2) →
    c.w 3 + otpFieldBytes (c.w 2) ≤ bulkEnd s → otpProgrammed s.sec.otp (c.w 2) = false →
    CompletesOk (.secOtpProgram c true) 0x0C12 c s 0 0 (fun u => u.sec.otp = otpBurn s.sec.otp (c.w 2)
      (fetchWords (takenState 0x0C12 c s) (windowBase + c.w 3) (otpFieldBytes (c.w 2) / 4)).2) ∧
    ∃ u, exec (.secOtpProgram c false) s = .next (complete u c.tag 0x0C12 c.notify stHwFault 0 0 0) ∧
      (u.sec.otp = s.sec.otp ∨ ∃ ws, u.sec.otp = otpBurn s.sec.otp (c.w 2) ws)) ∧
  (∀ (s : State) (c : Cmd), Taken 0x0C13 [(2, 1)] c s → s.sec.session = true →
    s.sec.otp.slotRevoked.testBit 0 = false → s.sec.otp.slotRevoked.testBit 1 = false → keySigns s (c.w 2) = false →
    CompletesOk (.secKeyRevoke c) 0x0C13 c s 0 0 fun u =>
      u.sec.otp = { s.sec.otp with slotRevoked := s.sec.otp.slotRevoked ||| 2 ^ c.w 2 })

/-- The firmware's and the settings' commands complete (R422-R433). Commands: fwBegin, fwChunk, fwCommit, fwActivate, fwAbort,
imageHealthy, trialTimeout, setSave, flashProgramDone. -/
def Obligations.FirmwareCommandsComplete : Prop :=
  (∀ (s : State) (c : Cmd), Taken 0x0C20 [(2, 2 ^ 32 - 1)] c s → fwGate s = none →
    s.sec.lockClosed = false → s.sec.update = none → trialRuns s = false → s.sec.locked = false →
    c.w 2 + 256 ≤ bulkEnd s →
    let h := (fetchWords (takenState 0x0C20 c s) (windowBase + c.w 2) 64).2
    headerFail (takenState 0x0C20 c s) h = 0 →
    (unwrapFails h = false → GoesOn (.fwBegin c) 0x0C20 c s 0 0 fun u =>
      u.sec.update = some ⟨(bootRecord s).active + 1, h, []⟩ ∧
      u.sec.ops = s.sec.ops ++ [.erase ((bootRecord s).active + 1) h] ∧
      u.sec.images[(bootRecord s).active] = s.sec.images[(bootRecord s).active]) ∧
    (unwrapFails h = true → ∃ u, exec (.fwBegin c) s = .next (complete u c.tag 0x0C20 c.notify stImage 13 0 0) ∧
      u.sec.update = none ∧ u.sec.images = s.sec.images)) ∧
  (∀ (s : State) (c : Cmd) (x : Update), Taken 0x0C21 [(2, 2 ^ 32 - 1), (3, 2 ^ 32 - 1), (4, 2 ^ 32 - 1)] c s →
    fwGate s = none → s.sec.lockClosed = false → updateOpen s = some x → c.w 3 % 16 = 0 → 16 ≤ c.w 3 → c.w 3 ≤ 65536 →
    c.w 4 + c.w 3 ≤ bulkEnd s → chunkBad c x = false →
    GoesOn (.fwChunk c) 0x0C21 c s 0 0 fun u =>
      let bs := wordsBytes (fetchWords (takenState 0x0C21 c s) (windowBase + c.w 4) (c.w 3 / 4)).2
      u.sec.update = some { x with body := x.body ++ bs } ∧ u.sec.ops = s.sec.ops ++ [.program bs]) ∧
  (∀ (s : State) (c : Cmd) (misread : Bool) (x : Update), Taken 0x0C22 [] c s → fwGate s = none → s.sec.lockClosed = false →
    updateWhole s = true → s.sec.update = some x →
    (commitFail x misread = 0 → GoesOn (.fwCommit c misread) 0x0C22 c s 0 0 fun u =>
      u.sec.ops = s.sec.ops ++ [.commit x.slot] ∧ u.sec.update = some x) ∧
    (commitFail x misread ≠ 0 →
      ∃ u, exec (.fwCommit c misread) s = .next (complete u c.tag 0x0C22 c.notify stImage (commitFail x misread) 0 0) ∧
        u.sec.update = none ∧ u.sec.ops = s.sec.ops)) ∧
  (∀ (s : State) (c : Cmd) (x : Update), Taken 0x0C22 [] c s → fwGate s = none → s.sec.lockClosed = false →
    updateWhole s = true → s.sec.update = some x →
    ∃ u, exec (.fwCommit c true) s = .next (complete u c.tag 0x0C22 c.notify stImage (commitFail x true) 0 0) ∧
      14 ≤ commitFail x true ∧ commitFail x true ≤ 16 ∧ u.sec.update = none) ∧
  (∀ (s : State) (c : Cmd) (k : Fin 2), Taken 0x0C23 [] c s → fwGate s = none → s.sec.lockClosed = false →
    pendingSlot s = some k → s.cal.run = none → s.book.copying = none →
    CompletesOk (.fwActivate c) 0x0C23 c s 0 0 fun u =>
      (bootRecord u).trial = true ∧ (bootRecord u).pending = some k ∧ (bootRecord u).active = (bootRecord s).active ∧
      u.sec.activate = true ∧
      (s.power.warmPending = false → s.mgmt.restartCause = none → u.mgmt.restartCause = some 5)) ∧
  (∀ (s : State) (c : Cmd), Taken 0x0C24 [] c s → fwGate s = none → s.sec.lockClosed = false → s.sec.update.isSome = true →
    CompletesOk (.fwAbort c) 0x0C24 c s 0 0 fun u => u.sec.update = none ∧
      ∀ o ∈ u.sec.ops, ∃ b verified, o = .save b verified) ∧
  (∀ (s : State) (x : BitVec 64) (k : Fin 2), s.sec.trialAt = some x → s.sec.running = some k → ready s = true →
    trialRuns s = true → (bootRecord s).pending = some k → trialLate s x = false →
    Runs .imageHealthy s fun t => t.sec.trialAt = none ∧ (bootRecord t).active = k ∧ (bootRecord t).pending = none ∧
      (bootRecord t).trial = false ∧ t.sec.otp.rollback = max s.sec.otp.rollback (imgSecVer (runningHeader s))) ∧
  (∀ (s : State) (x : BitVec 64), s.sec.trialAt = some x → trialRuns s = true → trialLate s x = true →
    Runs .trialTimeout s fun t => trialRuns t = false ∧ (bootRecord t).pending = none ∧
      (bootRecord t).active = (bootRecord s).active ∧ t.sec.reverted = some true ∧
      (s.power.warmPending = false → s.mgmt.restartCause = none → t.mgmt.restartCause = some 5)) ∧
  (∀ (s : State) (c : Cmd) (verified : Bool), Taken 0x0C30 [] c s → trialRuns s = false → newerInForce s = false →
    GoesOn (.setSave c verified) 0x0C30 c s 0 0 fun u => ∃ b, u.sec.ops = s.sec.ops ++ [.save b verified] ∧ b.eff = s.eff) ∧
  (∀ (s : State) (o : FlashOp) (rest : List FlashOp), s.sec.ops = o :: rest → s.book.copying = none →
    Runs .flashProgramDone s fun t => t.sec.ops = rest ∧
      (∀ k h, o = .erase k h → t.sec.images[k] = some ⟨h, [], false, .good⟩) ∧
      (∀ k, o = .commit k → t.sec.update = none ∧ (bootRecord t).pending = some k ∧ (bootRecord t).trial = false) ∧
      (∀ b, o = .save b true → t.sec.cache = some (blockSealed { b with seq := (nextSettings s).2 })) ∧
      (∀ b, o = .save b false → t.sec.cache = s.sec.cache ∧ t.sec.settings[(nextSettings s).1] = none)) ∧
  (∀ (s : State) (o : FlashOp) (rest : List FlashOp), s.sec.ops = o :: rest → s.book.copying.isSome = true →
    ((∃ bs, o = .program bs) → Runs .flashProgramDone s fun t => t = s) ∧
    ((∀ bs, o ≠ .program bs) → Runs .flashProgramDone s fun t => t.sec.ops = rest))

/-- The power states' commands complete (R383, R388-R397): entry, exit, the DARK sequence, wake. Commands: pwrEnter, pwrExit,
intermissionEntryDone, intermissionExitDone, darkSequencerStep, wakeAssert, rcTimerExpiry, stageDoorWrite, stageDoorRead,
wakeFromDark. -/
def Obligations.PowerStatesComplete : Prop :=
  (∀ (s : State) (c : Cmd) (rc : BitVec 32), Taken 0x0901 [(2, 3)] c s → c.w 2 = 1 → entryReady s false = true →
    entryBusy s = false → GoesOn (.pwrEnter c rc) 0x0901 c s 0 0 fun u =>
      u.power.mode = .enteringIntermission ∧ rd u F.PWR_STATE_THERMAL_DARK = 0 ∧ u.time.sysPllLocked = false ∧
      rd u F.LOOP_ENGINE_STATUS_FALLBACK = 1 ∧
      ∀ p : Fin 8, (showClock u p .tx).freewheel = true ∧ (showClock u p .rx).freewheel = true) ∧
  (∀ (s : State) (c : Cmd) (rc : BitVec 32), Taken 0x0901 [(2, 3)] c s → c.w 2 = 2 → entryReady s true = true →
    entryBusy s = false → CompletesOk (.pwrEnter c rc) 0x0901 c s 0 0 fun u =>
      u.power.mode = .enteringDark 0 (if s.power.mode = .show then 0 else 1) false ∧ u.power.rcHz = rc.toNat ∧
      u.power.stored.isSome = true ∧ rd u F.PWR_STATE_THERMAL_DARK = 0) ∧
  (∀ (s : State) (c : Cmd), Taken 0x0902 [] c s → s.power.mode = .intermission →
    GoesOn (.pwrExit c) 0x0902 c s 0 0 fun u => u.power.mode = .leavingIntermission ∧ rd u F.PWR_STATE_LAST_WAKE = 4) ∧
  (∀ (s : State), s.power.mode = .enteringIntermission → Runs .intermissionEntryDone s fun t =>
    t.power.mode = (if s.power.wakePin && (wakeCfg s).testBit 1 then .leavingIntermission else .intermission) ∧
    rd t F.PWR_STATE_STATE = 1 ∧
    (restarting s = false → ∀ p rest, takeProg 0x0901 0 s.mgmt.inProgress = some (p, rest) → t.mgmt.inProgress = rest)) ∧
  (∀ (s : State), s.power.mode = .leavingIntermission → railsSettled s = true → Runs .intermissionExitDone s fun t =>
    t.power.mode = .show ∧ t.time.sysPllLocked = true ∧ rd t F.PWR_STATE_STATE = 0 ∧
    rd t F.LOOP_ENGINE_STATUS_FALLBACK = 0) ∧
  (∀ (s : State) (rc : BitVec 32) (k back : Nat) (forced : Bool), s.power.mode = .enteringDark k back forced →
    Runs (.darkSequencerStep rc) s fun t =>
      (k = 0 → t.power.mode = .enteringDark 1 back forced ∧ rd t F.PWR_STATE_ENTERING = 1) ∧
      (k = 2 → t.power.mode = .enteringDark 3 back forced ∧ t.power.latchedCfg = wakeCfg s ∧
        t.power.latchedTimer = rd s F.PWR_TIMER_SECONDS) ∧
      (k = 4 → t.power.mode = if below s 4 || below s 5 then .enteringDark 4 back forced else .enteringDark 5 back forced) ∧
      (k = 5 → if s.power.wakePin && s.power.latchedCfg.testBit 1 && !forced then
          t.power.mode = (if back = 0 then .show else .leavingIntermission) ∧ rd t F.PWR_STATE_ENTERING = 0
        else t.power.mode = .enteringDark 6 back forced ∧ t.power.pwrEn = false) ∧
      (6 ≤ k → (s.power.wakePin && s.power.latchedCfg.testBit 1) = false → s.power.timerDue = false →
        t.power.mode = .dark ∧ t.time.crystalRuns = false ∧ t.time.hc = s.time.hc)) ∧
  (∀ (s : State) (level : Bool), Runs (.wakeAssert level) s fun t => t.power.wakePin = level ∧
    (level = true → s.power.mode = .intermission → (wakeCfg s).testBit 1 = true →
      t.power.mode = .leavingIntermission ∧ rd t F.PWR_STATE_LAST_WAKE = 2) ∧
    (level = true → s.power.mode = .dark → s.power.tripWait = false → s.power.latchedCfg.testBit 1 = true →
      s.power.dueReset = none → t.power.mode = .wakingDark ∧ t.power.pwrEn = true ∧ rd t F.PWR_STATE_LAST_WAKE = 2)) ∧
  (∀ (s : State), s.power.mode = .dark → s.power.latchedCfg.testBit 2 = true → s.power.tripWait = false →
    (s.power.wakePin && s.power.latchedCfg.testBit 1) = false → s.power.dueReset = none → Runs .rcTimerExpiry s fun t =>
      t.power.mode = .wakingDark ∧ rd t F.PWR_STATE_LAST_WAKE = 3) ∧
  (∀ (s : State), s.power.mode = .dark → s.power.latchedCfg.testBit 2 = true → s.power.tripWait = true →
    Runs .rcTimerExpiry s fun t => t.power = { s.power with timerDue := true }) ∧
  (∀ (s : State) (addr : BitVec 7) (data : List Byte), addr.toNat = portAddress s → s.power.mode = .dark →
    s.power.latchedCfg.testBit 0 = true → s.power.tripWait = false → s.power.dueReset = none →
    Runs (.stageDoorWrite addr data) s fun t => t.power.mode = .wakingDark ∧ rd t F.PWR_STATE_LAST_WAKE = 1 ∧
      t.mgmt.i2cAcks = true :: List.replicate data.length false) ∧
  (∀ (s : State) (addr : BitVec 7) (count : Nat), deviceUp s = false → addr.toNat = portAddress s → stageDoorOpen s = true →
    Runs (.stageDoorRead addr count) s fun t => t = i2cDrive s ((List.range count).map fun k =>
      BitVec.ofNat 8 ((stageRecord s)[k]?.getD 0xFF)) [true]) ∧
  (∀ (s : State) (count : BitVec 40) (rc : BitVec 32) (f : CheckerFail) (boot : BootReads), s.power.mode = .wakingDark →
    railsSettled s = true → Runs (.wakeFromDark count rc (some f) boot) s fun t =>
      t.power.mode = .checkerFailed ∧ rd t F.MEM_BIST_STATUS_PASS = 0 ∧ t.sec = s.sec) ∧
  (∀ (s : State) (count : BitVec 40) (rc : BitVec 32) (boot : BootReads), s.power.mode = .wakingDark →
    railsSettled s = true → Runs (.wakeFromDark count rc none boot) s fun t =>
      t.power.mode = .show ∧ t.time.crystalRuns = true ∧ rd t F.MEM_BIST_STATUS_PASS = 1 ∧
      (t.sec.running.isSome = true ∧ t.time.estimated = true ∧
          t.time.hc = s.time.hc + BitVec.ofNat 64 (count.toNat * 2 * 1000000000 / (s.power.rcHz + rc.toNat)) ∨
        t.sec.recovery = true ∧ t.time.hc = s.time.hc))

/-- Temperature and core voltage: the commands complete (R384-R387, R398-R400). Commands: thermalReading, avsSlewStep,
avsReadback. -/
def Obligations.SupplyAndThermalCommandsComplete : Prop :=
  (∀ (s : State) (readings : Vector (BitVec 16) 12), sensorsRun s = true → Runs (.thermalReading readings) s fun t =>
    (∀ k : Fin 12, rd t F.THERM_TEMP_s_TEMP k = readings[k].toNat % 2 ^ F.THERM_TEMP_s_TEMP.width) ∧
    ((∃ k : Fin 12, 1920 ≤ sensorTemp t k ∧ 2 ≤ s.power.tripRun[k]) →
      t.power.mode = .enteringDark 0 (rd s F.PWR_STATE_STATE) true ∧ rd t F.PWR_STATE_THERMAL_DARK = 1 ∧ t.power.tripWait = true)) ∧
  (∀ (s : State) (readings : Vector (BitVec 16) 12), s.power.mode = .dark →
    (readings[(0 : Fin 12)]).toInt < ((rd s F.THERM_CTRL_WARN : Nat) : Int) * 16 - 80 →
    Runs (.thermalReading readings) s fun t => t.power.tripWait = false) ∧
  (∀ (s : State), avsSlewing s = true → sinceNs s s.power.avsLastStep 50000 = true → Runs .avsSlewStep s fun t =>
    rd t F.AVS_STATUS_TARGET = (if rd s F.AVS_STATUS_TARGET < avsGoal s then min (rd s F.AVS_STATUS_TARGET + 5) (avsGoal s)
      else max (rd s F.AVS_STATUS_TARGET - 5) (avsGoal s)) ∧ t.power.avsLastStep = some s.time.tick) ∧
  (∀ (s : State), deviceUp s = true → s.power.pwrEn = true → Runs (.avsReadback none) s fun t => rd t F.AVS_STATUS_FAULT = 1) ∧
  (∀ (s : State) (mv : BitVec 10) (ma : BitVec 16), deviceUp s = true → s.power.pwrEn = true →
    Runs (.avsReadback (some (mv, ma))) s fun t =>
      rd t F.AVS_STATUS_READBACK = mv.toNat ∧ rd t F.AVS_CURRENT_CURRENT = ma.toNat ∧
      (s.power.avsMisses = 2 → rd s F.AVS_STATUS_TARGET + 20 < mv.toNat → rd t F.AVS_STATUS_FAULT = 1))

/-- The resets complete: what each leaves and keeps (R401-R410). Commands: powerOnReset, resetNRelease, rstWarm, warmReset,
rstMgmt, mgmtRestart, rstPort. -/
def Obligations.ResetCommandsComplete : Prop :=
  (∀ (s : State) (rail : Option (Fin 2)), (s.power.mode = .dark → rail = none) → Runs (.powerOnReset rail) s fun t =>
    t.power.mode = .resetHold ∧ t.eff = [] ∧ t.sec.otp = s.sec.otp ∧ t.sec.images = s.sec.images ∧
    t.sec.boot = (flashCut s).sec.boot ∧ t.sec.settings = (flashCut s).sec.settings ∧ t.sec.locked = false ∧ t.book.records = [] ∧ t.book.flash = s.book.flash ∧
    t.pending = s.pending ∧ rd t F.RST_CAUSE_KIND = 0 ∧ rd t F.RST_CAUSE_RAIL = (rail.map fun r => 4 + r.val).getD 0) ∧
  (∀ (s : State) (i : Instr) (kind rail : Nat),
    (i = .pinReset ∧ kind = 1 ∧ rail = 0 ∨
      ∃ r : Fin 5, i = .supplyReset r ∧ (railMonitored s (supplyRail r) = true ∨ s.power.mode = .wakingDark) ∧ kind = 2 ∧ rail = supplyRail r) →
    s.power.mode ≠ .dark → s.power.mode ≠ .resetHold → Runs i s fun t =>
      t.power.mode = .resetHold ∧ t.eff = [] ∧ t.time.hc = s.time.hc ∧ t.sec.otp = s.sec.otp ∧ t.sec.images = s.sec.images ∧
      t.sec.locked = s.sec.locked ∧ t.cal.sets = s.cal.sets ∧ t.book.records = (swapsLand s).book.records ∧ t.pending = s.pending ∧
      rd t F.RST_CAUSE_KIND = kind ∧ rd t F.RST_CAUSE_RAIL = rail) ∧
  (∀ (s : State) (i : Instr) (kind rail : Nat),
    (i = .pinReset ∧ kind = 1 ∧ rail = 0 ∨ (∃ r : Fin 2, i = .powerOnReset (some r) ∧ kind = 0 ∧ rail = 4 + r) ∨
      i = .supplyReset 4 ∧ kind = 2 ∧ rail = 6) →
    s.power.mode = .dark → (∀ d, s.power.dueReset = some d → kind < d.kind) → Runs i s fun t =>
      t = { s with power := { s.power with dueReset := some ⟨kind, rail⟩ } }) ∧
  (∀ (s : State) (straps : BitVec 3) (f : CheckerFail) (boot : BootReads), s.power.mode = .resetHold →
    Runs (.resetNRelease straps (some f) boot) s fun t => t.power.mode = .checkerFailed ∧ t.mgmt.straps = straps ∧
      t.sec = s.sec) ∧
  (∀ (s : State) (straps : BitVec 3) (boot : BootReads), s.power.mode = .resetHold →
    Runs (.resetNRelease straps none boot) s fun t => t.power.mode = .show ∧ t.mgmt.straps = straps ∧
      t.time.crystalRuns = true ∧ t.time.sysPllLocked = true ∧ rd t F.MEM_BIST_STATUS_PASS = 1 ∧
      (t.sec.running.isSome = true ∨ t.sec.recovery = true)) ∧
  (∀ (s : State) (c : Cmd), Taken 0x0910 [] c s → s.sec.update = none → (bootRecord s).trial = false →
    s.book.copying = none → CompletesOk (.rstWarm c) 0x0910 c s 0 0 fun u =>
      u.power.warmPending = true ∧ u.mgmt.restartCause = none) ∧
  (∀ (s : State) (boot : BootReads), s.power.warmPending = true → deviceUp s = true → Runs (.warmReset boot) s fun t =>
    t.power.warmPending = false ∧ t.eff = [] ∧ t.time.hc = s.time.hc ∧ t.sec.otp = s.sec.otp ∧
    t.mgmt.layoutSpent = s.mgmt.layoutSpent ∧ t.aside.keys = s.aside.keys ∧ t.sec.session = false ∧
    rd t F.RST_CAUSE_KIND = 3 ∧ rd t F.RING_STATUS_READY = 0 ∧
    ∀ x : Fin 32, rd t F.BDAC_CEIL_c_LOCK x = rd s F.BDAC_CEIL_c_LOCK x ∧
      rd t F.BDAC_CEIL_c_CODE_MAX x = rd s F.BDAC_CEIL_c_CODE_MAX x) ∧
  (∀ (s : State) (c : Cmd), Taken 0x0911 [] c s → CompletesOk (.rstMgmt c) 0x0911 c s 0 0 fun u =>
    u.mgmt.restartCause = if s.power.warmPending || s.mgmt.restartCause.isSome then s.mgmt.restartCause else some 1) ∧
  (∀ (s : State) (boot : BootReads) (cause : Nat), s.mgmt.restartCause = some cause → deviceUp s = true →
    Runs (.mgmtRestart boot) s fun t => t.mgmt.restartCause = none ∧ rd t F.RING_STATUS_READY = 0 ∧
      t.mgmt.afterRestart = true ∧ t.sec.session = false ∧ t.sec.update = none ∧ t.eff = s.eff ∧
      t.time.hc = s.time.hc ∧ (t.sec.running.isSome = true ∨ t.sec.recovery = true)) ∧
  (∀ (s : State) (c : Cmd), Taken 0x0912 [(2, 7)] c s → portEnabled s (c.w 2) = true → portRehearsing s (c.w 2) = false →
    s.power.warmPending = false → s.mgmt.restartCause = none →
    CompletesOk (.rstPort c) 0x0912 c s 0 0 fun u => vGet u.path.superRx (c.w 2) [] = [] ∧ u.eff = s.eff ∧
      (rdE s F.PCS_PORT_CTRL_ADMIN_UP (c.w 2) = 0 → linkState u (c.w 2) = 0) ∧
      (rdE s F.PCS_PORT_CTRL_ADMIN_UP (c.w 2) = 1 → s.power.mode = .show → rdE s F.PCS_LINK_CTRL_HOLD (c.w 2) = 0 →
        linkState u (c.w 2) = 1)) ∧
  (∀ (s : State) (c : Cmd), Taken 0x0912 [(2, 7)] c s → portEnabled s (c.w 2) = true → portRehearsing s (c.w 2) = false →
    (s.power.warmPending = true ∨ s.mgmt.restartCause.isSome = true) →
    GoesOn (.rstPort c) 0x0912 c s 0 0 fun u => u = takenState 0x0912 c s)

/-- What one end of a link sends as symbols the other end reads back, where the channel changes nothing: R78's Gray pairs and
levels, an inverted lane's complement (R170), R79's precoding over a run of symbols from any state, the lanes' shares of a
codeword (R120), and on the aside channel R210's interleaving, the constellations of R206 at any gain, header (R209) and
payload words. -/
def Obligations.SymbolsReadBack : Prop :=
  (∀ (a b : Bool), pairBits (valueOfPair a b) = [a, b] ∧ valueOfPair a b < 4 ∧
    pairBits (invertValue true (valueOfPair a b)) = [!a, b]) ∧
  (∀ g : Nat, g < 4 → valueOf (levelOf g) = g ∧ -3 ≤ levelOf g ∧ levelOf g ≤ 3) ∧
  (∀ bs : List Bool, bs.length % 2 = 0 → (valuesOfBits bs).flatMap pairBits = bs) ∧
  (∀ (on : Bool) (prev rel : Nat) (vs : List Nat), (∀ v ∈ vs, v < 4) →
    (decodeRun on prev rel ((precodeRun on prev vs).map fun v => (v, 15, 15))).map (·.1) = vs) ∧
  (∀ (w i k : Nat) (word : List Nat), i < w → (everyNth w i word)[k]? = word[w * k + i]?) ∧
  (∀ (b : Nat) (bits : List Bool), b % 8 = 0 → bits.length = b → deinterleave b false (interleave b bits) = bits) ∧
  (∀ (code : Nat) (bits : List Bool) (m p : Int), code < 4 → bits.length = codeBits code → 0 < m → 10 * m ^ 2 ≤ 4 * p ^ 2 →
    4 * p ^ 2 < 90 * m ^ 2 → decideBits code ((pointOf code bits).re * m, (pointOf code bits).im * m) p = bits) ∧
  (∀ h : Word, bitsWord ((headerPoints h).map fun x => decide (x.re < 0)) = h ∧ bitsWord (wordBits h) = h)

/-- An ADC code enters its lane's receive stream as a 7-bit value, or as 0 where its slice is flagged (R60, R64), in whatever
block it falls; and at each DSP clock a lane that is not held moves F and PHI by R68, shows PI_CODE, and takes a symbol fewer
or more in the next clock where PHI wraps, while a lane that is held (R71) keeps both. -/
def Obligations.SamplesAndTimingFollow : Prop :=
  (∀ (s : State) (l : LaneId) (v : Int), (rxRec s l).x.length + 1 < (rxRec s l).len →
    let z := ((slicesOf s l).place[(rxRec s l).count % positionCount l]?).elim false (slicesOf s l).zeroed.contains
    let u := rxRec (rxPush s l v) l
    u.count = (rxRec s l).count + 1 ∧ u.x = (rxRec s l).x ++ [if z then 0 else clampI (-64) 63 v] ∧
      u.zeroed = (rxRec s l).zeroed ++ [z] ∧ u.detected = (rxRec s l).detected) ∧
  (∀ (s : State) (l : LaneId) (v : Int), (rxRec s l).len ≤ (rxRec s l).x.length + 1 → (rxRec (rxPush s l v) l).x = []) ∧
  (∀ (s : State) (l : LaneId) (g : Int), timingHeld s l = false → laneForwarded s l = false →
    let f := clampI (-(2 ^ 21 - 1)) (2 ^ 21 - 1) ((front s l).freq + g * 2 ^ trKi s l)
    let raw := ((front s l).phase : Int) + f + g * 2 ^ trKp s l
    let t := timingClock s l g
    (front t l).freq = f ∧ (front t l).phase = (raw % 2 ^ 24).toNat ∧
      rdL t l F.LRX_TR_STATUS_PI_CODE F.HSL_STATUS_PI_CODE = (raw % 2 ^ 24).toNat / 2 ^ 18 ∧
      (0 ≤ raw → raw < 2 ^ 24 → (rxRec t l).len = blockSymbols l) ∧
      (2 ^ 24 ≤ raw → raw < 2 ^ 25 → (rxRec t l).len = blockSymbols l - 1) ∧
      (-2 ^ 24 ≤ raw → raw < 0 → (rxRec t l).len = blockSymbols l + 1)) ∧
  (∀ (s : State) (l : LaneId) (g : Int), timingHeld s l = true →
    front (timingClock s l g) l = front s l ∧ (rxRec (timingClock s l g) l).len = blockSymbols l)

/-- The transmit chain of a line lane (R97-R101, R106-R108): a symbol leaves stage 13 as the saturated, convergently rounded sum
of FIR, lookup entry and aside sample over 16, and a code that saturates counts; at electrical idle it leaves as the aside
sample alone; every code is a 7-bit one; the precoder's state after what is sent is the last value sent, a burst's included,
and stays over idle; and the burst has R107's lengths. Commands: trainingBurstEnd. -/
def Obligations.TransmitChainConverts : Prop :=
  (∀ (s : State) (n : Fin 8) (v : Nat → Nat) (b : Nat) (a : Nat → Int), (∀ k, v k < 4) → rdE s F.LTX_CTRL_MAIN n ≤ 8 →
    (txRec s (.line n)).window = (List.range 17).map (fun k => ⟨some (v k), b, a k⟩) →
    let u := ((List.range 9).map fun j => rdEI s F.LTX_FIR_j_TAP n j * levelOf (v (8 + j - rdE s F.LTX_CTRL_MAIN n))).sum
    let e := (List.range 8).foldl (fun x k => 4 * x + v (11 - k)) 0
    let p := lutGet (lutRead s n b [lutWord e]) n b e
    let c := roundConv (u + p + a 8) 16
    (txRec (lineConvert s n) (.line n)).out = (txRec s (.line n)).out ++ [clampI (-64) 63 c] ∧
      ((c < -64 ∨ 63 < c) → lineConvert s n = setTxRec (bump (lutRead s n b [lutWord e]) (cntLine n 6) 1) (.line n)
        { txRec s (.line n) with out := (txRec s (.line n)).out ++ [clampI (-64) 63 c] })) ∧
  (∀ (s : State) (n : Fin 8) (b : Nat) (a : Int), (txRec s (.line n)).window[8]? = some ⟨none, b, a⟩ →
    (txRec (lineConvert s n) (.line n)).out = (txRec s (.line n)).out ++ [clampI (-64) 63 (roundConv a 16)]) ∧
  (∀ (s : State) (n : Fin 8) (b k : Nat) (d : Option (List Nat)), laneRuns s (.line n) = true →
    ∀ c ∈ (txRec (laneSend s (.line n) b k d) (.line n)).out, -64 ≤ c ∧ c ≤ 63) ∧
  (∀ (s : State) (l : LaneId) (b k : Nat) (d : Option (List Nat)), laneRuns s l = true → txIdle s l = true →
    (txRec (laneSend s l b k d) l).pre = (txRec s l).pre ∧
    (∀ q, q < k → q < 17 → ((txRec (laneSend s l b k d) l).window[q]?).bind (·.value) = none)) ∧
  (∀ (s : State) (l : LaneId) (b k v : Nat) (vs : List Nat), laneRuns s l = true → txIdle s l = false → txBurst s l = false →
    tpgEn s l = false → (precodeRun (txPrecode s l) (txRec s l).pre (slipData (txRec s l).slip vs).1).getLast? = some v →
    (txRec (laneSend s l b k (some vs)) l).pre = v ∧
    ((txRec (laneSend s l b k (some vs)) l).window[0]?).bind (·.value) = some v) ∧
  (∀ (s : State) (l : LaneId) (v : Nat), txBurst s l = true →
    (burstRun l (txRec s l) (burstSymbols s l - (txRec s l).burst)).1.getLast? = some v →
    Runs (.trainingBurstEnd l) s fun t => (txRec t l).pre = v ∧ txBurst t l = false ∧ txIdle t l = false) ∧
  (∀ (s : State) (n : Fin 8), burstSymbols s (.line n) =
    if halfRate s then (if innerCode s then 225792 else 212736) else if innerCode s then 451584 else 425216)
end

