-- ==== Sys2Proof/Laws/Maps.lean ====
section
/-! SUPPORT. The association lists and the ring window: what a read gives after a write, and that writes keep the canonical
form. -/

namespace Sys2Proof.Machine

open Sys2Proof

/-! Reads after writes. -/

theorem aGet_aSet_same {α : Type} (m : List (Nat × α)) (k : Nat) (v : α) : aGet (aSet m k v) k = some v := by
  induction m with
  | nil => simp [aSet, aGet]
  | cons e m ih =>
    obtain ⟨a, w⟩ := e
    simp only [aSet]
    split
    · simp [aGet]
    · split
      · simp [aGet]
      · rename_i h _
        simp [aGet, h, ih]

theorem aGet_aSet_other {α : Type} (m : List (Nat × α)) {k j : Nat} (v : α) (h : j ≠ k) :
    aGet (aSet m k v) j = aGet m j := by
  induction m with
  | nil => simp [aSet, aGet, Ne.symm h]
  | cons e m ih =>
    obtain ⟨a, w⟩ := e
    simp only [aSet]
    split
    · rename_i h1
      subst h1
      simp [aGet, Ne.symm h]
    · split
      · simp [aGet, Ne.symm h]
      · simp [aGet, ih]

theorem aGet_aDel_same {α : Type} (m : List (Nat × α)) (k : Nat) : aGet (aDel m k) k = none := by
  induction m with
  | nil => rfl
  | cons e m ih =>
    obtain ⟨a, w⟩ := e
    simp only [aDel]
    split
    · exact ih
    · rename_i h
      simp [aGet, h, ih]

theorem aGet_aDel_other {α : Type} (m : List (Nat × α)) {k j : Nat} (h : j ≠ k) : aGet (aDel m k) j = aGet m j := by
  induction m with
  | nil => rfl
  | cons e m ih =>
    obtain ⟨a, w⟩ := e
    simp only [aDel]
    split
    · rename_i h1
      subst h1
      simp [aGet, Ne.symm h, ih]
    · simp [aGet, ih]

/-! Rising keys. -/

theorem aRising_mono {α : Type} (m : List (Nat × α)) {b c : Nat} (h : aRising m b = true) (hc : c ≤ b) : aRising m c = true := by
  cases m with
  | nil => rfl
  | cons e m =>
    simp only [aRising, Bool.and_eq_true, decide_eq_true_eq] at *
    exact ⟨by omega, h.2⟩

theorem aRising_aSet {α : Type} (m : List (Nat × α)) (b k : Nat) (v : α) (h : aRising m b = true) (hk : b ≤ k) :
    aRising (aSet m k v) b = true := by
  induction m generalizing b with
  | nil => simp [aSet, aRising, hk]
  | cons e m ih =>
    obtain ⟨a, w⟩ := e
    simp only [aRising, Bool.and_eq_true, decide_eq_true_eq] at h
    simp only [aSet]
    split
    · rename_i hak
      subst hak
      simp only [aRising, Bool.and_eq_true, decide_eq_true_eq]
      exact ⟨hk, h.2⟩
    · split
      · simp only [aRising, Bool.and_eq_true, decide_eq_true_eq]
        exact ⟨hk, by omega, h.2⟩
      · simp only [aRising, Bool.and_eq_true, decide_eq_true_eq]
        exact ⟨h.1, ih (a + 1) h.2 (by omega)⟩

theorem aRising_aDel {α : Type} (m : List (Nat × α)) (b k : Nat) (h : aRising m b = true) : aRising (aDel m k) b = true := by
  induction m generalizing b with
  | nil => rfl
  | cons e m ih =>
    obtain ⟨a, w⟩ := e
    simp only [aRising, Bool.and_eq_true, decide_eq_true_eq] at h
    simp only [aDel]
    split
    · exact ih b (aRising_mono m h.2 (by omega))
    · simp only [aRising, Bool.and_eq_true, decide_eq_true_eq]
      exact ⟨h.1, ih (a + 1) h.2⟩

theorem mem_aSet {α : Type} (m : List (Nat × α)) (k : Nat) (v : α) (e : Nat × α) (h : e ∈ aSet m k v) : e = (k, v) ∨ e ∈ m := by
  induction m with
  | nil => simpa [aSet] using h
  | cons x m ih =>
    obtain ⟨a, w⟩ := x
    simp only [aSet] at h
    split at h
    · rcases List.mem_cons.1 h with h | h
      · exact .inl h
      · exact .inr (List.mem_cons_of_mem _ h)
    · split at h
      · rcases List.mem_cons.1 h with h | h
        · exact .inl h
        · exact .inr h
      · rcases List.mem_cons.1 h with h | h
        · exact .inr (h ▸ List.mem_cons_self ..)
        · exact (ih h).imp id (List.mem_cons_of_mem _)

theorem mem_aDel {α : Type} (m : List (Nat × α)) (k : Nat) (e : Nat × α) (h : e ∈ aDel m k) : e ∈ m := by
  induction m with
  | nil => exact h
  | cons x m ih =>
    obtain ⟨a, w⟩ := x
    simp only [aDel] at h
    split at h
    · exact List.mem_cons_of_mem _ (ih h)
    · rcases List.mem_cons.1 h with h | h
      · exact h ▸ List.mem_cons_self ..
      · exact List.mem_cons_of_mem _ (ih h)

/-! The ring window. -/

theorem winPut_wf (m : List Host.Cell) (a : Nat) (b : Byte) (h : Memory.wf m = true) : Memory.wf (winPut m a b) = true := by
  simp only [Memory.wf, Bool.and_eq_true, List.all_eq_true, winPut] at *
  split
  · exact ⟨aRising_aDel m 0 a h.1, fun e he => h.2 e (mem_aDel m a e he)⟩
  · rename_i hb
    refine ⟨aRising_aSet m 0 a b h.1 (Nat.zero_le _), fun e he => ?_⟩
    rcases mem_aSet m a b e he with rfl | he
    · simpa using hb
    · exact h.2 e he

theorem winPutWord_wf (m : List Host.Cell) (a w : Nat) (h : Memory.wf m = true) : Memory.wf (winPutWord m a w) = true :=
  winPut_wf _ _ _ (winPut_wf _ _ _ (winPut_wf _ _ _ (winPut_wf _ _ _ h)))

theorem winPutWords_wf (ws : List Nat) (m : List Host.Cell) (a : Nat) (h : Memory.wf m = true) :
    Memory.wf (winPutWords m a ws) = true := by
  induction ws generalizing m a with
  | nil => exact h
  | cons w ws ih => exact ih _ _ (winPutWord_wf m a w h)

theorem winPutBytes_wf (bs : List Byte) (m : List Host.Cell) (a : Nat) (h : Memory.wf m = true) :
    Memory.wf (winPutBytes m a bs) = true := by
  induction bs generalizing m a with
  | nil => exact h
  | cons b bs ih => exact ih _ _ (winPut_wf m a b h)

theorem winByte_winPut_same (m : List Host.Cell) (a : Nat) (b : Byte) : winByte (winPut m a b) a = b := by
  unfold winByte winPut
  split
  · rename_i h
    simp [aGet_aDel_same, h]
  · simp [aGet_aSet_same]

theorem winByte_winPut_other (m : List Host.Cell) {a c : Nat} (b : Byte) (h : c ≠ a) : winByte (winPut m a b) c = winByte m c := by
  unfold winByte winPut
  split
  · rw [aGet_aDel_other m h]
  · rw [aGet_aSet_other m b h]

theorem winByte_winPutWord_other (m : List Host.Cell) {a c : Nat} (w : Nat) (h : c < a ∨ a + 4 ≤ c) :
    winByte (winPutWord m a w) c = winByte m c := by
  unfold winPutWord
  rw [winByte_winPut_other _ _ (by omega), winByte_winPut_other _ _ (by omega), winByte_winPut_other _ _ (by omega),
    winByte_winPut_other _ _ (by omega)]

theorem winByte_winPutWords_other (ws : List Nat) (m : List Host.Cell) {a c : Nat} (h : c < a ∨ a + 4 * ws.length ≤ c) :
    winByte (winPutWords m a ws) c = winByte m c := by
  induction ws generalizing m a with
  | nil => rfl
  | cons w ws ih =>
    simp only [List.length_cons] at h
    simp only [winPutWords]
    rw [ih _ (by omega), winByte_winPutWord_other _ _ (by omega)]

theorem winWord_winPutWord_same (m : List Host.Cell) (a w : Nat) : winWord (winPutWord m a w) a = w % 2 ^ 32 := by
  unfold winWord winPutWord
  rw [winByte_winPut_other _ _ (by omega), winByte_winPut_other _ _ (by omega), winByte_winPut_other _ _ (by omega),
    winByte_winPut_same, winByte_winPut_other _ _ (by omega), winByte_winPut_other _ _ (by omega), winByte_winPut_same,
    winByte_winPut_other _ _ (by omega), winByte_winPut_same, winByte_winPut_same]
  simp only [BitVec.toNat_ofNat]
  omega

/-- Words written in a row read back as they were written. -/
theorem winWord_winPutWords (ws : List Nat) (m : List Host.Cell) (a : Nat) {k : Nat} (h : k < ws.length) :
    winWord (winPutWords m a ws) (a + 4 * k) = ws[k] % 2 ^ 32 := by
  induction ws generalizing m a k with
  | nil => cases h
  | cons w ws ih =>
    cases k with
    | zero =>
      have hb : ∀ c, a ≤ c → c < a + 4 → winByte (winPutWords (winPutWord m a w) (a + 4) ws) c = winByte (winPutWord m a w) c :=
        fun c _ _ => winByte_winPutWords_other ws _ (by omega)
      rw [List.getElem_cons_zero, ← winWord_winPutWord_same m a w]
      simp only [winPutWords, winWord, Nat.mul_zero, Nat.add_zero]
      rw [hb a (by omega) (by omega), hb (a + 1) (by omega) (by omega), hb (a + 2) (by omega) (by omega), hb (a + 3) (by omega) (by omega)]
    | succ k =>
      rw [List.getElem_cons_succ, ← ih (winPutWord m a w) (a + 4) (by simpa using h)]
      simp only [winPutWords]
      congr 1
      omega

/-! Register fields. -/

theorem fGet_fPut_same (m : FieldMap) (f : Field) (i j v : Nat) : fGet (fPut m f i j v) f i j = v % 2 ^ f.width := by
  unfold fGet fPut
  split
  · rename_i h
    rw [aGet_aDel_same, Option.getD_none, ← h, Nat.mod_mod]
  · rw [aGet_aSet_same, Option.getD_some, Nat.mod_mod]

theorem fGet_lt (m : FieldMap) (f : Field) (i j : Nat) : fGet m f i j < 2 ^ f.width := Nat.mod_lt _ (Nat.two_pow_pos _)

/-- A field's value fits its width. -/
theorem rd_lt (s : State) (f : Field) (i j : Nat) : rd s f i j < 2 ^ f.width := fGet_lt ..

theorem rdE_lt (s : State) (f : Field) (i j : Nat) : rdE s f i j < 2 ^ f.width := fGet_lt ..

theorem fGet_fPut_other (m : FieldMap) (f g : Field) (i j v i' j' : Nat) (h : g.key i' j' ≠ f.key i j) :
    fGet (fPut m f i j v) g i' j' = fGet m g i' j' := by
  unfold fGet fPut
  split
  · rw [aGet_aDel_other m h]
  · rw [aGet_aSet_other m _ h]

/-- A field reads what was last written to it (R339), in its width. -/
theorem rd_wr_same (s : State) (f : Field) (v i j : Nat) : rd (wr s f v i j) f i j = v % 2 ^ f.width := fGet_fPut_same ..

/-- Another field instance reads as before. -/
theorem rd_wr_other (s : State) (f g : Field) (v i j i' j' : Nat) (h : g.key i' j' ≠ f.key i j) :
    rd (wr s f v i j) g i' j' = rd s g i' j' := fGet_fPut_other _ _ _ _ _ _ _ _ h

theorem rdE_wr (s : State) (f g : Field) (v i j i' j' : Nat) : rdE (wr s f v i j) g i' j' = rdE s g i' j' := rfl

theorem rdE_wrE_same (s : State) (f : Field) (v i j : Nat) : rdE (wrE s f v i j) f i j = v % 2 ^ f.width := fGet_fPut_same ..

theorem rdE_wrE_other (s : State) (f g : Field) (v i j i' j' : Nat) (h : g.key i' j' ≠ f.key i j) :
    rdE (wrE s f v i j) g i' j' = rdE s g i' j' := fGet_fPut_other _ _ _ _ _ _ _ _ h

end Sys2Proof.Machine
end

