-- ==== Sys2Proof/Laws/State.lean ====
section
/-! SUPPORT. What each update of the state leaves as it was: one lemma per component, by definition. -/

namespace Sys2Proof.Machine

open Sys2Proof

/-! wr -/

@[simp] theorem wr_eff (s : State) (f : Field) (v i j : Nat) : (wr s f v i j).eff = s.eff := rfl
@[simp] theorem wr_time (s : State) (f : Field) (v i j : Nat) : (wr s f v i j).time = s.time := rfl
@[simp] theorem wr_obs (s : State) (f : Field) (v i j : Nat) : (wr s f v i j).obs = s.obs := rfl
@[simp] theorem wr_lanes (s : State) (f : Field) (v i j : Nat) : (wr s f v i j).lanes = s.lanes := rfl
@[simp] theorem wr_link (s : State) (f : Field) (v i j : Nat) : (wr s f v i j).link = s.link := rfl
@[simp] theorem wr_path (s : State) (f : Field) (v i j : Nat) : (wr s f v i j).path = s.path := rfl
@[simp] theorem wr_aside (s : State) (f : Field) (v i j : Nat) : (wr s f v i j).aside = s.aside := rfl
@[simp] theorem wr_ctl (s : State) (f : Field) (v i j : Nat) : (wr s f v i j).ctl = s.ctl := rfl
@[simp] theorem wr_cal (s : State) (f : Field) (v i j : Nat) : (wr s f v i j).cal = s.cal := rfl
@[simp] theorem wr_mgmt (s : State) (f : Field) (v i j : Nat) : (wr s f v i j).mgmt = s.mgmt := rfl
@[simp] theorem wr_mem (s : State) (f : Field) (v i j : Nat) : (wr s f v i j).mem = s.mem := rfl
@[simp] theorem wr_book (s : State) (f : Field) (v i j : Nat) : (wr s f v i j).book = s.book := rfl
@[simp] theorem wr_faults (s : State) (f : Field) (v i j : Nat) : (wr s f v i j).faults = s.faults := rfl
@[simp] theorem wr_power (s : State) (f : Field) (v i j : Nat) : (wr s f v i j).power = s.power := rfl
@[simp] theorem wr_test (s : State) (f : Field) (v i j : Nat) : (wr s f v i j).test = s.test := rfl
@[simp] theorem wr_sec (s : State) (f : Field) (v i j : Nat) : (wr s f v i j).sec = s.sec := rfl
@[simp] theorem wr_freeCount (s : State) (f : Field) (v i j : Nat) : (wr s f v i j).freeCount = s.freeCount := rfl
@[simp] theorem wr_pending (s : State) (f : Field) (v i j : Nat) : (wr s f v i j).pending = s.pending := rfl

/-! wrE -/

@[simp] theorem wrE_fld (s : State) (f : Field) (v i j : Nat) : (wrE s f v i j).fld = s.fld := rfl
@[simp] theorem wrE_time (s : State) (f : Field) (v i j : Nat) : (wrE s f v i j).time = s.time := rfl
@[simp] theorem wrE_obs (s : State) (f : Field) (v i j : Nat) : (wrE s f v i j).obs = s.obs := rfl
@[simp] theorem wrE_lanes (s : State) (f : Field) (v i j : Nat) : (wrE s f v i j).lanes = s.lanes := rfl
@[simp] theorem wrE_link (s : State) (f : Field) (v i j : Nat) : (wrE s f v i j).link = s.link := rfl
@[simp] theorem wrE_path (s : State) (f : Field) (v i j : Nat) : (wrE s f v i j).path = s.path := rfl
@[simp] theorem wrE_aside (s : State) (f : Field) (v i j : Nat) : (wrE s f v i j).aside = s.aside := rfl
@[simp] theorem wrE_ctl (s : State) (f : Field) (v i j : Nat) : (wrE s f v i j).ctl = s.ctl := rfl
@[simp] theorem wrE_cal (s : State) (f : Field) (v i j : Nat) : (wrE s f v i j).cal = s.cal := rfl
@[simp] theorem wrE_mgmt (s : State) (f : Field) (v i j : Nat) : (wrE s f v i j).mgmt = s.mgmt := rfl
@[simp] theorem wrE_mem (s : State) (f : Field) (v i j : Nat) : (wrE s f v i j).mem = s.mem := rfl
@[simp] theorem wrE_book (s : State) (f : Field) (v i j : Nat) : (wrE s f v i j).book = s.book := rfl
@[simp] theorem wrE_faults (s : State) (f : Field) (v i j : Nat) : (wrE s f v i j).faults = s.faults := rfl
@[simp] theorem wrE_power (s : State) (f : Field) (v i j : Nat) : (wrE s f v i j).power = s.power := rfl
@[simp] theorem wrE_test (s : State) (f : Field) (v i j : Nat) : (wrE s f v i j).test = s.test := rfl
@[simp] theorem wrE_sec (s : State) (f : Field) (v i j : Nat) : (wrE s f v i j).sec = s.sec := rfl
@[simp] theorem wrE_freeCount (s : State) (f : Field) (v i j : Nat) : (wrE s f v i j).freeCount = s.freeCount := rfl
@[simp] theorem wrE_pending (s : State) (f : Field) (v i j : Nat) : (wrE s f v i j).pending = s.pending := rfl

/-! wrB -/

@[simp] theorem wrB_eff (s : State) (f : Field) (b : Bool) (i j : Nat) : (wrB s f b i j).eff = s.eff := rfl
@[simp] theorem wrB_time (s : State) (f : Field) (b : Bool) (i j : Nat) : (wrB s f b i j).time = s.time := rfl
@[simp] theorem wrB_obs (s : State) (f : Field) (b : Bool) (i j : Nat) : (wrB s f b i j).obs = s.obs := rfl
@[simp] theorem wrB_lanes (s : State) (f : Field) (b : Bool) (i j : Nat) : (wrB s f b i j).lanes = s.lanes := rfl
@[simp] theorem wrB_link (s : State) (f : Field) (b : Bool) (i j : Nat) : (wrB s f b i j).link = s.link := rfl
@[simp] theorem wrB_path (s : State) (f : Field) (b : Bool) (i j : Nat) : (wrB s f b i j).path = s.path := rfl
@[simp] theorem wrB_aside (s : State) (f : Field) (b : Bool) (i j : Nat) : (wrB s f b i j).aside = s.aside := rfl
@[simp] theorem wrB_ctl (s : State) (f : Field) (b : Bool) (i j : Nat) : (wrB s f b i j).ctl = s.ctl := rfl
@[simp] theorem wrB_cal (s : State) (f : Field) (b : Bool) (i j : Nat) : (wrB s f b i j).cal = s.cal := rfl
@[simp] theorem wrB_mgmt (s : State) (f : Field) (b : Bool) (i j : Nat) : (wrB s f b i j).mgmt = s.mgmt := rfl
@[simp] theorem wrB_mem (s : State) (f : Field) (b : Bool) (i j : Nat) : (wrB s f b i j).mem = s.mem := rfl
@[simp] theorem wrB_book (s : State) (f : Field) (b : Bool) (i j : Nat) : (wrB s f b i j).book = s.book := rfl
@[simp] theorem wrB_faults (s : State) (f : Field) (b : Bool) (i j : Nat) : (wrB s f b i j).faults = s.faults := rfl
@[simp] theorem wrB_power (s : State) (f : Field) (b : Bool) (i j : Nat) : (wrB s f b i j).power = s.power := rfl
@[simp] theorem wrB_test (s : State) (f : Field) (b : Bool) (i j : Nat) : (wrB s f b i j).test = s.test := rfl
@[simp] theorem wrB_sec (s : State) (f : Field) (b : Bool) (i j : Nat) : (wrB s f b i j).sec = s.sec := rfl
@[simp] theorem wrB_freeCount (s : State) (f : Field) (b : Bool) (i j : Nat) : (wrB s f b i j).freeCount = s.freeCount := rfl
@[simp] theorem wrB_pending (s : State) (f : Field) (b : Bool) (i j : Nat) : (wrB s f b i j).pending = s.pending := rfl

/-! wrI -/

@[simp] theorem wrI_eff (s : State) (f : Field) (v : Int) (i j : Nat) : (wrI s f v i j).eff = s.eff := rfl
@[simp] theorem wrI_time (s : State) (f : Field) (v : Int) (i j : Nat) : (wrI s f v i j).time = s.time := rfl
@[simp] theorem wrI_obs (s : State) (f : Field) (v : Int) (i j : Nat) : (wrI s f v i j).obs = s.obs := rfl
@[simp] theorem wrI_lanes (s : State) (f : Field) (v : Int) (i j : Nat) : (wrI s f v i j).lanes = s.lanes := rfl
@[simp] theorem wrI_link (s : State) (f : Field) (v : Int) (i j : Nat) : (wrI s f v i j).link = s.link := rfl
@[simp] theorem wrI_path (s : State) (f : Field) (v : Int) (i j : Nat) : (wrI s f v i j).path = s.path := rfl
@[simp] theorem wrI_aside (s : State) (f : Field) (v : Int) (i j : Nat) : (wrI s f v i j).aside = s.aside := rfl
@[simp] theorem wrI_ctl (s : State) (f : Field) (v : Int) (i j : Nat) : (wrI s f v i j).ctl = s.ctl := rfl
@[simp] theorem wrI_cal (s : State) (f : Field) (v : Int) (i j : Nat) : (wrI s f v i j).cal = s.cal := rfl
@[simp] theorem wrI_mgmt (s : State) (f : Field) (v : Int) (i j : Nat) : (wrI s f v i j).mgmt = s.mgmt := rfl
@[simp] theorem wrI_mem (s : State) (f : Field) (v : Int) (i j : Nat) : (wrI s f v i j).mem = s.mem := rfl
@[simp] theorem wrI_book (s : State) (f : Field) (v : Int) (i j : Nat) : (wrI s f v i j).book = s.book := rfl
@[simp] theorem wrI_faults (s : State) (f : Field) (v : Int) (i j : Nat) : (wrI s f v i j).faults = s.faults := rfl
@[simp] theorem wrI_power (s : State) (f : Field) (v : Int) (i j : Nat) : (wrI s f v i j).power = s.power := rfl
@[simp] theorem wrI_test (s : State) (f : Field) (v : Int) (i j : Nat) : (wrI s f v i j).test = s.test := rfl
@[simp] theorem wrI_sec (s : State) (f : Field) (v : Int) (i j : Nat) : (wrI s f v i j).sec = s.sec := rfl
@[simp] theorem wrI_freeCount (s : State) (f : Field) (v : Int) (i j : Nat) : (wrI s f v i j).freeCount = s.freeCount := rfl
@[simp] theorem wrI_pending (s : State) (f : Field) (v : Int) (i j : Nat) : (wrI s f v i j).pending = s.pending := rfl

/-! inc -/

@[simp] theorem inc_eff (s : State) (f : Field) (n i j : Nat) : (inc s f n i j).eff = s.eff := rfl
@[simp] theorem inc_time (s : State) (f : Field) (n i j : Nat) : (inc s f n i j).time = s.time := rfl
@[simp] theorem inc_obs (s : State) (f : Field) (n i j : Nat) : (inc s f n i j).obs = s.obs := rfl
@[simp] theorem inc_lanes (s : State) (f : Field) (n i j : Nat) : (inc s f n i j).lanes = s.lanes := rfl
@[simp] theorem inc_link (s : State) (f : Field) (n i j : Nat) : (inc s f n i j).link = s.link := rfl
@[simp] theorem inc_path (s : State) (f : Field) (n i j : Nat) : (inc s f n i j).path = s.path := rfl
@[simp] theorem inc_aside (s : State) (f : Field) (n i j : Nat) : (inc s f n i j).aside = s.aside := rfl
@[simp] theorem inc_ctl (s : State) (f : Field) (n i j : Nat) : (inc s f n i j).ctl = s.ctl := rfl
@[simp] theorem inc_cal (s : State) (f : Field) (n i j : Nat) : (inc s f n i j).cal = s.cal := rfl
@[simp] theorem inc_mgmt (s : State) (f : Field) (n i j : Nat) : (inc s f n i j).mgmt = s.mgmt := rfl
@[simp] theorem inc_mem (s : State) (f : Field) (n i j : Nat) : (inc s f n i j).mem = s.mem := rfl
@[simp] theorem inc_book (s : State) (f : Field) (n i j : Nat) : (inc s f n i j).book = s.book := rfl
@[simp] theorem inc_faults (s : State) (f : Field) (n i j : Nat) : (inc s f n i j).faults = s.faults := rfl
@[simp] theorem inc_power (s : State) (f : Field) (n i j : Nat) : (inc s f n i j).power = s.power := rfl
@[simp] theorem inc_test (s : State) (f : Field) (n i j : Nat) : (inc s f n i j).test = s.test := rfl
@[simp] theorem inc_sec (s : State) (f : Field) (n i j : Nat) : (inc s f n i j).sec = s.sec := rfl
@[simp] theorem inc_freeCount (s : State) (f : Field) (n i j : Nat) : (inc s f n i j).freeCount = s.freeCount := rfl
@[simp] theorem inc_pending (s : State) (f : Field) (n i j : Nat) : (inc s f n i j).pending = s.pending := rfl

/-! incSat -/

@[simp] theorem incSat_eff (s : State) (f : Field) (n i j : Nat) : (incSat s f n i j).eff = s.eff := rfl
@[simp] theorem incSat_time (s : State) (f : Field) (n i j : Nat) : (incSat s f n i j).time = s.time := rfl
@[simp] theorem incSat_obs (s : State) (f : Field) (n i j : Nat) : (incSat s f n i j).obs = s.obs := rfl
@[simp] theorem incSat_lanes (s : State) (f : Field) (n i j : Nat) : (incSat s f n i j).lanes = s.lanes := rfl
@[simp] theorem incSat_link (s : State) (f : Field) (n i j : Nat) : (incSat s f n i j).link = s.link := rfl
@[simp] theorem incSat_path (s : State) (f : Field) (n i j : Nat) : (incSat s f n i j).path = s.path := rfl
@[simp] theorem incSat_aside (s : State) (f : Field) (n i j : Nat) : (incSat s f n i j).aside = s.aside := rfl
@[simp] theorem incSat_ctl (s : State) (f : Field) (n i j : Nat) : (incSat s f n i j).ctl = s.ctl := rfl
@[simp] theorem incSat_cal (s : State) (f : Field) (n i j : Nat) : (incSat s f n i j).cal = s.cal := rfl
@[simp] theorem incSat_mgmt (s : State) (f : Field) (n i j : Nat) : (incSat s f n i j).mgmt = s.mgmt := rfl
@[simp] theorem incSat_mem (s : State) (f : Field) (n i j : Nat) : (incSat s f n i j).mem = s.mem := rfl
@[simp] theorem incSat_book (s : State) (f : Field) (n i j : Nat) : (incSat s f n i j).book = s.book := rfl
@[simp] theorem incSat_faults (s : State) (f : Field) (n i j : Nat) : (incSat s f n i j).faults = s.faults := rfl
@[simp] theorem incSat_power (s : State) (f : Field) (n i j : Nat) : (incSat s f n i j).power = s.power := rfl
@[simp] theorem incSat_test (s : State) (f : Field) (n i j : Nat) : (incSat s f n i j).test = s.test := rfl
@[simp] theorem incSat_sec (s : State) (f : Field) (n i j : Nat) : (incSat s f n i j).sec = s.sec := rfl
@[simp] theorem incSat_freeCount (s : State) (f : Field) (n i j : Nat) : (incSat s f n i j).freeCount = s.freeCount := rfl
@[simp] theorem incSat_pending (s : State) (f : Field) (n i j : Nat) : (incSat s f n i j).pending = s.pending := rfl

/-! takeFree -/

@[simp] theorem takeFree_fld (s : State) : (takeFree s).fld = s.fld := rfl
@[simp] theorem takeFree_eff (s : State) : (takeFree s).eff = s.eff := rfl
@[simp] theorem takeFree_time (s : State) : (takeFree s).time = s.time := rfl
@[simp] theorem takeFree_obs (s : State) : (takeFree s).obs = s.obs := rfl
@[simp] theorem takeFree_lanes (s : State) : (takeFree s).lanes = s.lanes := rfl
@[simp] theorem takeFree_link (s : State) : (takeFree s).link = s.link := rfl
@[simp] theorem takeFree_path (s : State) : (takeFree s).path = s.path := rfl
@[simp] theorem takeFree_aside (s : State) : (takeFree s).aside = s.aside := rfl
@[simp] theorem takeFree_ctl (s : State) : (takeFree s).ctl = s.ctl := rfl
@[simp] theorem takeFree_cal (s : State) : (takeFree s).cal = s.cal := rfl
@[simp] theorem takeFree_mgmt (s : State) : (takeFree s).mgmt = s.mgmt := rfl
@[simp] theorem takeFree_mem (s : State) : (takeFree s).mem = s.mem := rfl
@[simp] theorem takeFree_book (s : State) : (takeFree s).book = s.book := rfl
@[simp] theorem takeFree_faults (s : State) : (takeFree s).faults = s.faults := rfl
@[simp] theorem takeFree_power (s : State) : (takeFree s).power = s.power := rfl
@[simp] theorem takeFree_test (s : State) : (takeFree s).test = s.test := rfl
@[simp] theorem takeFree_sec (s : State) : (takeFree s).sec = s.sec := rfl
@[simp] theorem takeFree_pending (s : State) : (takeFree s).pending = s.pending := rfl

/-! setBank -/

@[simp] theorem setBank_fld (s : State) (k : Nat) (b : MemBank) : (setBank s k b).fld = s.fld := rfl
@[simp] theorem setBank_eff (s : State) (k : Nat) (b : MemBank) : (setBank s k b).eff = s.eff := rfl
@[simp] theorem setBank_time (s : State) (k : Nat) (b : MemBank) : (setBank s k b).time = s.time := rfl
@[simp] theorem setBank_obs (s : State) (k : Nat) (b : MemBank) : (setBank s k b).obs = s.obs := rfl
@[simp] theorem setBank_lanes (s : State) (k : Nat) (b : MemBank) : (setBank s k b).lanes = s.lanes := rfl
@[simp] theorem setBank_link (s : State) (k : Nat) (b : MemBank) : (setBank s k b).link = s.link := rfl
@[simp] theorem setBank_path (s : State) (k : Nat) (b : MemBank) : (setBank s k b).path = s.path := rfl
@[simp] theorem setBank_aside (s : State) (k : Nat) (b : MemBank) : (setBank s k b).aside = s.aside := rfl
@[simp] theorem setBank_ctl (s : State) (k : Nat) (b : MemBank) : (setBank s k b).ctl = s.ctl := rfl
@[simp] theorem setBank_cal (s : State) (k : Nat) (b : MemBank) : (setBank s k b).cal = s.cal := rfl
@[simp] theorem setBank_mgmt (s : State) (k : Nat) (b : MemBank) : (setBank s k b).mgmt = s.mgmt := rfl
@[simp] theorem setBank_book (s : State) (k : Nat) (b : MemBank) : (setBank s k b).book = s.book := rfl
@[simp] theorem setBank_faults (s : State) (k : Nat) (b : MemBank) : (setBank s k b).faults = s.faults := rfl
@[simp] theorem setBank_power (s : State) (k : Nat) (b : MemBank) : (setBank s k b).power = s.power := rfl
@[simp] theorem setBank_test (s : State) (k : Nat) (b : MemBank) : (setBank s k b).test = s.test := rfl
@[simp] theorem setBank_sec (s : State) (k : Nat) (b : MemBank) : (setBank s k b).sec = s.sec := rfl
@[simp] theorem setBank_freeCount (s : State) (k : Nat) (b : MemBank) : (setBank s k b).freeCount = s.freeCount := rfl
@[simp] theorem setBank_pending (s : State) (k : Nat) (b : MemBank) : (setBank s k b).pending = s.pending := rfl

/-! bankWritten -/

@[simp] theorem bankWritten_fld (s : State) (k a : Nat) : (bankWritten s k a).fld = s.fld := rfl
@[simp] theorem bankWritten_eff (s : State) (k a : Nat) : (bankWritten s k a).eff = s.eff := rfl
@[simp] theorem bankWritten_time (s : State) (k a : Nat) : (bankWritten s k a).time = s.time := rfl
@[simp] theorem bankWritten_obs (s : State) (k a : Nat) : (bankWritten s k a).obs = s.obs := rfl
@[simp] theorem bankWritten_lanes (s : State) (k a : Nat) : (bankWritten s k a).lanes = s.lanes := rfl
@[simp] theorem bankWritten_link (s : State) (k a : Nat) : (bankWritten s k a).link = s.link := rfl
@[simp] theorem bankWritten_path (s : State) (k a : Nat) : (bankWritten s k a).path = s.path := rfl
@[simp] theorem bankWritten_aside (s : State) (k a : Nat) : (bankWritten s k a).aside = s.aside := rfl
@[simp] theorem bankWritten_ctl (s : State) (k a : Nat) : (bankWritten s k a).ctl = s.ctl := rfl
@[simp] theorem bankWritten_cal (s : State) (k a : Nat) : (bankWritten s k a).cal = s.cal := rfl
@[simp] theorem bankWritten_mgmt (s : State) (k a : Nat) : (bankWritten s k a).mgmt = s.mgmt := rfl
@[simp] theorem bankWritten_book (s : State) (k a : Nat) : (bankWritten s k a).book = s.book := rfl
@[simp] theorem bankWritten_faults (s : State) (k a : Nat) : (bankWritten s k a).faults = s.faults := rfl
@[simp] theorem bankWritten_power (s : State) (k a : Nat) : (bankWritten s k a).power = s.power := rfl
@[simp] theorem bankWritten_test (s : State) (k a : Nat) : (bankWritten s k a).test = s.test := rfl
@[simp] theorem bankWritten_sec (s : State) (k a : Nat) : (bankWritten s k a).sec = s.sec := rfl
@[simp] theorem bankWritten_freeCount (s : State) (k a : Nat) : (bankWritten s k a).freeCount = s.freeCount := rfl
@[simp] theorem bankWritten_pending (s : State) (k a : Nat) : (bankWritten s k a).pending = s.pending := rfl

/-! bankWrittenAll -/

@[simp] theorem bankWrittenAll_fld (s : State) (k : Nat) (as : List Nat) : (bankWrittenAll s k as).fld = s.fld := rfl
@[simp] theorem bankWrittenAll_eff (s : State) (k : Nat) (as : List Nat) : (bankWrittenAll s k as).eff = s.eff := rfl
@[simp] theorem bankWrittenAll_time (s : State) (k : Nat) (as : List Nat) : (bankWrittenAll s k as).time = s.time := rfl
@[simp] theorem bankWrittenAll_obs (s : State) (k : Nat) (as : List Nat) : (bankWrittenAll s k as).obs = s.obs := rfl
@[simp] theorem bankWrittenAll_lanes (s : State) (k : Nat) (as : List Nat) : (bankWrittenAll s k as).lanes = s.lanes := rfl
@[simp] theorem bankWrittenAll_link (s : State) (k : Nat) (as : List Nat) : (bankWrittenAll s k as).link = s.link := rfl
@[simp] theorem bankWrittenAll_path (s : State) (k : Nat) (as : List Nat) : (bankWrittenAll s k as).path = s.path := rfl
@[simp] theorem bankWrittenAll_aside (s : State) (k : Nat) (as : List Nat) : (bankWrittenAll s k as).aside = s.aside := rfl
@[simp] theorem bankWrittenAll_ctl (s : State) (k : Nat) (as : List Nat) : (bankWrittenAll s k as).ctl = s.ctl := rfl
@[simp] theorem bankWrittenAll_cal (s : State) (k : Nat) (as : List Nat) : (bankWrittenAll s k as).cal = s.cal := rfl
@[simp] theorem bankWrittenAll_mgmt (s : State) (k : Nat) (as : List Nat) : (bankWrittenAll s k as).mgmt = s.mgmt := rfl
@[simp] theorem bankWrittenAll_book (s : State) (k : Nat) (as : List Nat) : (bankWrittenAll s k as).book = s.book := rfl
@[simp] theorem bankWrittenAll_faults (s : State) (k : Nat) (as : List Nat) : (bankWrittenAll s k as).faults = s.faults := rfl
@[simp] theorem bankWrittenAll_power (s : State) (k : Nat) (as : List Nat) : (bankWrittenAll s k as).power = s.power := rfl
@[simp] theorem bankWrittenAll_test (s : State) (k : Nat) (as : List Nat) : (bankWrittenAll s k as).test = s.test := rfl
@[simp] theorem bankWrittenAll_sec (s : State) (k : Nat) (as : List Nat) : (bankWrittenAll s k as).sec = s.sec := rfl
@[simp] theorem bankWrittenAll_freeCount (s : State) (k : Nat) (as : List Nat) : (bankWrittenAll s k as).freeCount = s.freeCount := rfl
@[simp] theorem bankWrittenAll_pending (s : State) (k : Nat) (as : List Nat) : (bankWrittenAll s k as).pending = s.pending := rfl

/-! putWords -/

@[simp] theorem putWords_fld (s : State) (a : Nat) (ws : List Nat) : (putWords s a ws).fld = s.fld := rfl
@[simp] theorem putWords_eff (s : State) (a : Nat) (ws : List Nat) : (putWords s a ws).eff = s.eff := rfl
@[simp] theorem putWords_time (s : State) (a : Nat) (ws : List Nat) : (putWords s a ws).time = s.time := rfl
@[simp] theorem putWords_obs (s : State) (a : Nat) (ws : List Nat) : (putWords s a ws).obs = s.obs := rfl
@[simp] theorem putWords_lanes (s : State) (a : Nat) (ws : List Nat) : (putWords s a ws).lanes = s.lanes := rfl
@[simp] theorem putWords_link (s : State) (a : Nat) (ws : List Nat) : (putWords s a ws).link = s.link := rfl
@[simp] theorem putWords_path (s : State) (a : Nat) (ws : List Nat) : (putWords s a ws).path = s.path := rfl
@[simp] theorem putWords_aside (s : State) (a : Nat) (ws : List Nat) : (putWords s a ws).aside = s.aside := rfl
@[simp] theorem putWords_ctl (s : State) (a : Nat) (ws : List Nat) : (putWords s a ws).ctl = s.ctl := rfl
@[simp] theorem putWords_cal (s : State) (a : Nat) (ws : List Nat) : (putWords s a ws).cal = s.cal := rfl
@[simp] theorem putWords_book (s : State) (a : Nat) (ws : List Nat) : (putWords s a ws).book = s.book := rfl
@[simp] theorem putWords_faults (s : State) (a : Nat) (ws : List Nat) : (putWords s a ws).faults = s.faults := rfl
@[simp] theorem putWords_power (s : State) (a : Nat) (ws : List Nat) : (putWords s a ws).power = s.power := rfl
@[simp] theorem putWords_test (s : State) (a : Nat) (ws : List Nat) : (putWords s a ws).test = s.test := rfl
@[simp] theorem putWords_sec (s : State) (a : Nat) (ws : List Nat) : (putWords s a ws).sec = s.sec := rfl
@[simp] theorem putWords_freeCount (s : State) (a : Nat) (ws : List Nat) : (putWords s a ws).freeCount = s.freeCount := rfl
@[simp] theorem putWords_pending (s : State) (a : Nat) (ws : List Nat) : (putWords s a ws).pending = s.pending := rfl

/-! putBytes -/

@[simp] theorem putBytes_fld (s : State) (a : Nat) (bs : List Byte) : (putBytes s a bs).fld = s.fld := rfl
@[simp] theorem putBytes_eff (s : State) (a : Nat) (bs : List Byte) : (putBytes s a bs).eff = s.eff := rfl
@[simp] theorem putBytes_time (s : State) (a : Nat) (bs : List Byte) : (putBytes s a bs).time = s.time := rfl
@[simp] theorem putBytes_obs (s : State) (a : Nat) (bs : List Byte) : (putBytes s a bs).obs = s.obs := rfl
@[simp] theorem putBytes_lanes (s : State) (a : Nat) (bs : List Byte) : (putBytes s a bs).lanes = s.lanes := rfl
@[simp] theorem putBytes_link (s : State) (a : Nat) (bs : List Byte) : (putBytes s a bs).link = s.link := rfl
@[simp] theorem putBytes_path (s : State) (a : Nat) (bs : List Byte) : (putBytes s a bs).path = s.path := rfl
@[simp] theorem putBytes_aside (s : State) (a : Nat) (bs : List Byte) : (putBytes s a bs).aside = s.aside := rfl
@[simp] theorem putBytes_ctl (s : State) (a : Nat) (bs : List Byte) : (putBytes s a bs).ctl = s.ctl := rfl
@[simp] theorem putBytes_cal (s : State) (a : Nat) (bs : List Byte) : (putBytes s a bs).cal = s.cal := rfl
@[simp] theorem putBytes_book (s : State) (a : Nat) (bs : List Byte) : (putBytes s a bs).book = s.book := rfl
@[simp] theorem putBytes_faults (s : State) (a : Nat) (bs : List Byte) : (putBytes s a bs).faults = s.faults := rfl
@[simp] theorem putBytes_power (s : State) (a : Nat) (bs : List Byte) : (putBytes s a bs).power = s.power := rfl
@[simp] theorem putBytes_test (s : State) (a : Nat) (bs : List Byte) : (putBytes s a bs).test = s.test := rfl
@[simp] theorem putBytes_sec (s : State) (a : Nat) (bs : List Byte) : (putBytes s a bs).sec = s.sec := rfl
@[simp] theorem putBytes_freeCount (s : State) (a : Nat) (bs : List Byte) : (putBytes s a bs).freeCount = s.freeCount := rfl
@[simp] theorem putBytes_pending (s : State) (a : Nat) (bs : List Byte) : (putBytes s a bs).pending = s.pending := rfl

/-! setMode -/

@[simp] theorem setMode_fld (s : State) (m : PowerMode) : (setMode s m).fld = s.fld := rfl
@[simp] theorem setMode_eff (s : State) (m : PowerMode) : (setMode s m).eff = s.eff := rfl
@[simp] theorem setMode_time (s : State) (m : PowerMode) : (setMode s m).time = s.time := rfl
@[simp] theorem setMode_obs (s : State) (m : PowerMode) : (setMode s m).obs = s.obs := rfl
@[simp] theorem setMode_lanes (s : State) (m : PowerMode) : (setMode s m).lanes = s.lanes := rfl
@[simp] theorem setMode_link (s : State) (m : PowerMode) : (setMode s m).link = s.link := rfl
@[simp] theorem setMode_path (s : State) (m : PowerMode) : (setMode s m).path = s.path := rfl
@[simp] theorem setMode_aside (s : State) (m : PowerMode) : (setMode s m).aside = s.aside := rfl
@[simp] theorem setMode_ctl (s : State) (m : PowerMode) : (setMode s m).ctl = s.ctl := rfl
@[simp] theorem setMode_cal (s : State) (m : PowerMode) : (setMode s m).cal = s.cal := rfl
@[simp] theorem setMode_mgmt (s : State) (m : PowerMode) : (setMode s m).mgmt = s.mgmt := rfl
@[simp] theorem setMode_mem (s : State) (m : PowerMode) : (setMode s m).mem = s.mem := rfl
@[simp] theorem setMode_book (s : State) (m : PowerMode) : (setMode s m).book = s.book := rfl
@[simp] theorem setMode_faults (s : State) (m : PowerMode) : (setMode s m).faults = s.faults := rfl
@[simp] theorem setMode_test (s : State) (m : PowerMode) : (setMode s m).test = s.test := rfl
@[simp] theorem setMode_sec (s : State) (m : PowerMode) : (setMode s m).sec = s.sec := rfl
@[simp] theorem setMode_freeCount (s : State) (m : PowerMode) : (setMode s m).freeCount = s.freeCount := rfl
@[simp] theorem setMode_pending (s : State) (m : PowerMode) : (setMode s m).pending = s.pending := rfl

/-! Show clocks -/

theorem setShowClock_frame (s : State) (p : Nat) (d : Dir) (c : ShowClock) :
    { setShowClock s p d c with time := s.time } = s := by cases d <;> rfl

theorem setShowClock_hc (s : State) (p : Nat) (d : Dir) (c : ShowClock) :
    (setShowClock s p d c).time.hc = s.time.hc ∧ (setShowClock s p d c).time.tick = s.time.tick := by
  cases d <;> exact ⟨rfl, rfl⟩

end Sys2Proof.Machine
end

