-- ==== Sys2Proof/Laws/Report.lean ====
section
/-! SUPPORT. What the shared reporting operations can do: counters, events, the prompt book, completions and checked reads
change only what reporting writes (OnlyReports). -/

namespace Sys2Proof.Machine

open Sys2Proof

namespace OnlyReports

theorem rfl' (s : State) : OnlyReports s s :=
  ⟨rfl, rfl, rfl, rfl, rfl, rfl, rfl, rfl, rfl, rfl, rfl, rfl, rfl, rfl, rfl, rfl, rfl, fun _ _ => rfl, id⟩

theorem trans {s t u : State} (h : OnlyReports s t) (g : OnlyReports t u) : OnlyReports s u :=
  ⟨g.eff.trans h.eff, g.time.trans h.time, g.lanes.trans h.lanes, g.link.trans h.link, g.path.trans h.path,
    g.aside.trans h.aside, g.ctl.trans h.ctl, g.cal.trans h.cal, g.faults.trans h.faults, g.power.trans h.power,
    g.test.trans h.test, g.sec.trans h.sec, g.freeCount.trans h.freeCount, g.pending.trans h.pending, g.obs.trans h.obs,
    g.mgmt.trans h.mgmt, g.mem.trans h.mem, fun k hk => (g.fld k hk).trans (h.fld k hk), fun hw => g.window (h.window hw)⟩

/-- A field that reporting does not write reads as before. -/
theorem rd {s t : State} (h : OnlyReports s t) (f : Field) (i j : Nat) (hk : f.key i j ∉ reportKeys) :
    rd t f i j = Machine.rd s f i j := by
  simp only [Machine.rd, fGet, h.fld _ hk]

theorem rdE {s t : State} (h : OnlyReports s t) (f : Field) (i j : Nat) : rdE t f i j = Machine.rdE s f i j := by
  simp only [Machine.rdE, h.eff]

theorem ite {c : Prop} [Decidable c] {s a b : State} (ha : OnlyReports s a) (hb : OnlyReports s b) :
    OnlyReports s (if c then a else b) := by
  split
  · exact ha
  · exact hb

end OnlyReports

theorem aGet_fPut_other (m : FieldMap) (f : Field) (i j v k : Nat) (h : k ≠ f.key i j) : aGet (fPut m f i j v) k = aGet m k := by
  unfold fPut
  split
  · exact aGet_aDel_other m h
  · exact aGet_aSet_other m _ h

/-- A write of a reporting field only reports. -/
theorem wr_reports (s : State) (f : Field) (v i j : Nat) (h : f.key i j ∈ reportKeys) : OnlyReports s (wr s f v i j) :=
  { OnlyReports.rfl' s with
    fld := fun k hk => aGet_fPut_other s.fld f i j v k fun e => hk (e ▸ h)
    eff := rfl, time := rfl, lanes := rfl, link := rfl, path := rfl, aside := rfl, ctl := rfl, cal := rfl, faults := rfl
    power := rfl, test := rfl, sec := rfl, freeCount := rfl, pending := rfl, obs := rfl, mgmt := rfl, mem := rfl
    window := id }

theorem incSat_reports (s : State) (f : Field) (n i j : Nat) (h : f.key i j ∈ reportKeys) :
    OnlyReports s (incSat s f n i j) := wr_reports s f _ i j h

theorem setBank_reports (s : State) (k : Nat) (b : MemBank) : OnlyReports s (setBank s k b) :=
  ⟨rfl, rfl, rfl, rfl, rfl, rfl, rfl, rfl, rfl, rfl, rfl, rfl, rfl, rfl, rfl, rfl, rfl, fun _ _ => rfl, id⟩

theorem bankWritten_reports (s : State) (k a : Nat) : OnlyReports s (bankWritten s k a) := setBank_reports ..

theorem bankWrittenAll_reports (s : State) (k : Nat) (as : List Nat) : OnlyReports s (bankWrittenAll s k as) :=
  setBank_reports ..

/-- A change of the window alone that keeps its form only reports. -/
theorem window_reports (s : State) (m : List Host.Cell) (h : WindowWf s → Memory.wf m = true) :
    OnlyReports s { s with mgmt := { s.mgmt with window := m } } :=
  ⟨rfl, rfl, rfl, rfl, rfl, rfl, rfl, rfl, rfl, rfl, rfl, rfl, rfl, rfl, rfl, rfl, rfl, fun _ _ => rfl, h⟩

theorem putWords_reports (s : State) (a : Nat) (ws : List Nat) : OnlyReports s (putWords s a ws) :=
  (window_reports s _ (winPutWords_wf ws _ a)).trans (bankWrittenAll_reports ..)

theorem putBytes_reports (s : State) (a : Nat) (bs : List Byte) : OnlyReports s (putBytes s a bs) :=
  (window_reports s _ (winPutBytes_wf bs _ a)).trans (bankWrittenAll_reports ..)

theorem bumpRaw_reports (s : State) (i n : Nat) : OnlyReports s (bumpRaw s i n) := by
  unfold bumpRaw
  split
  · exact .rfl' s
  · exact OnlyReports.trans (t := { s with obs := { s.obs with
      slots := slotDebts s i (counter s i) n
      counters := aSet s.obs.counters i ((counter s i + n) % 2 ^ 48) } })
      ⟨rfl, rfl, rfl, rfl, rfl, rfl, rfl, rfl, rfl, rfl, rfl, rfl, rfl, rfl, rfl, rfl, rfl, fun _ _ => rfl, id⟩
      (bankWritten_reports ..)

theorem pushEvent_reports (s : State) (ws : List Nat) : OnlyReports s (pushEvent s ws) :=
  (putWords_reports ..).trans (wr_reports _ _ _ _ _ (by decide))

theorem nextEvtSeq_reports (s : State) : OnlyReports s (nextEvtSeq s) :=
  ⟨rfl, rfl, rfl, rfl, rfl, rfl, rfl, rfl, rfl, rfl, rfl, rfl, rfl, rfl, rfl, rfl, rfl, fun _ _ => rfl, id⟩

theorem book_reports (s : State) (b : BookState) : OnlyReports s { s with book := b } :=
  ⟨rfl, rfl, rfl, rfl, rfl, rfl, rfl, rfl, rfl, rfl, rfl, rfl, rfl, rfl, rfl, rfl, rfl, fun _ _ => rfl, id⟩

theorem bookWrite_reports (s : State) (kind w1 l d0 d1 count : Nat) : OnlyReports s (bookWrite s kind w1 l d0 d1 count) :=
  (book_reports s _).trans (bankWrittenAll_reports ..)

theorem bookEvent_reports (s : State) (e : Ev) : OnlyReports s (bookEvent s e) := by
  unfold bookEvent
  refine OnlyReports.ite ?_ (.rfl' s)
  split
  · exact bookWrite_reports ..
  · exact bookWrite_reports ..

theorem drainLost_reports (s : State) : OnlyReports s (drainLost s) := by
  unfold drainLost
  split
  · exact (((pushEvent_reports ..).trans (nextEvtSeq_reports _)).trans (bookEvent_reports ..)).trans
      (wr_reports _ _ _ _ _ (by decide))
  · exact .rfl' s

theorem raiseEvent_reports (s : State) (e : Ev) : OnlyReports s (raiseEvent s e) := by
  unfold raiseEvent
  refine (drainLost_reports s).trans (OnlyReports.trans ?_ ((nextEvtSeq_reports _).trans (bookEvent_reports ..)))
  split
  · exact pushEvent_reports ..
  · exact incSat_reports _ _ _ _ _ (by decide)

theorem curtain_reports (s : State) (trigger code l : Nat) (d1 : Option Nat) : OnlyReports s (curtain s trigger code l d1) := by
  unfold curtain
  simp only
  generalize (if (vGet s.book.sections 0 none).isNone = true then some 0 else _ : Option Nat) = o
  cases o with
  | some k =>
    exact ((bookWrite_reports ..).trans ((book_reports _ _).trans (OnlyReports.ite (book_reports _ _) (.rfl' _)))).trans
      (raiseEvent_reports ..)
  | none => exact (bookWrite_reports ..).trans ((incSat_reports _ _ _ _ _ (by decide)).trans (raiseEvent_reports ..))

/-- A lost word's report, whose count only reports, only reports. -/
theorem announceUncorr_reports {count : State → State} (h : ∀ s, OnlyReports s (count s)) (s : State) (k a : Nat) (scrub : Bool) :
    OnlyReports s (announceUncorr count s k a scrub) := by
  unfold announceUncorr
  exact (((h s).trans (OnlyReports.ite
    ((((wr_reports _ _ _ _ _ (by decide)).trans (wr_reports _ _ _ _ _ (by decide))).trans
      (wr_reports _ _ _ _ _ (by decide))).trans (wr_reports _ _ _ _ _ (by decide))) (.rfl' _))).trans
    (raiseEvent_reports ..)).trans (curtain_reports ..)

theorem counterRestart_reports (s : State) (i : Nat) (found : Bool) : OnlyReports s (counterRestart s i found) :=
  ⟨rfl, rfl, rfl, rfl, rfl, rfl, rfl, rfl, rfl, rfl, rfl, rfl, rfl, rfl, rfl, rfl, rfl, fun _ _ => rfl, id⟩

theorem bumpBy_reports (k : Nat) (s : State) (i n : Nat) : OnlyReports s (bumpBy k s i n) := by
  induction k generalizing s i n with
  | zero => exact bumpRaw_reports s i n
  | succ k ih =>
    unfold bumpBy
    split
    · exact bumpRaw_reports ..
    · exact (bumpRaw_reports ..).trans (ih _ _ _)
    · exact ((counterRestart_reports ..).trans (bumpRaw_reports ..)).trans (ih _ _ _)
    · exact ((counterRestart_reports ..).trans (bumpRaw_reports ..)).trans (announceUncorr_reports (fun t => ih t _ _) _ _ _ _)

theorem bump_reports (s : State) (i n : Nat) : OnlyReports s (bump s i n) :=
  OnlyReports.ite (.rfl' s) (bumpBy_reports ..)

theorem reportUncorr_reports (s : State) (k a : Nat) (scrub : Bool) : OnlyReports s (reportUncorr s k a scrub) := by
  unfold reportUncorr
  exact ((setBank_reports s k _).trans (OnlyReports.ite (window_reports _ _ (winPutWords_wf _ _ _)) (.rfl' _))).trans
    (announceUncorr_reports (fun t => bump_reports t 0x755 1) _ _ _ _)

theorem eccRead_reports (s : State) (k a : Nat) : OnlyReports s (eccRead s k a).1 := by
  unfold eccRead
  split
  · exact bump_reports s 0x757 1
  · split
    · exact .rfl' s
    · split
      · exact .rfl' s
      · exact bump_reports s 0x753 1
      · exact bump_reports s 0x753 1
      · exact reportUncorr_reports s _ _ _

theorem eccThrough_reports (k : Nat) (as : List Nat) (s : State) : OnlyReports s (eccThrough k as s) := by
  induction as generalizing s with
  | nil => exact .rfl' s
  | cons a as ih => exact (eccRead_reports s k a).trans (ih _)

theorem fetchWords_reports (s : State) (a n : Nat) : OnlyReports s (fetchWords s a n).1 := eccThrough_reports ..

theorem writeCompletion_reports (s : State) (w : Waiting) : OnlyReports s (writeCompletion s w) := by
  unfold writeCompletion
  have h : OnlyReports s (wr (putWords s (cplRingBase s + (rd s F.RING_CPL_PROD_PROD % cplRingSize s) * 16)
      [w.tag.toNat * 2 ^ 16 + w.opcode, w.sub * 2 ^ 16 + w.code, w.r0 % 2 ^ 32, w.r1 % 2 ^ 32]) F.RING_CPL_PROD_PROD
      (rd s F.RING_CPL_PROD_PROD + 1)) := (putWords_reports s _ _).trans (wr_reports _ _ _ _ _ (by decide))
  exact h.trans (OnlyReports.ite (raiseEvent_reports ..) (.rfl' _))

theorem waiting_reports (s : State) (l : List Waiting) : OnlyReports s { s with mgmt := { s.mgmt with waiting := l } } :=
  ⟨rfl, rfl, rfl, rfl, rfl, rfl, rfl, rfl, rfl, rfl, rfl, rfl, rfl, rfl, rfl, rfl, rfl, fun _ _ => rfl, id⟩

/-- Completing a command only reports (R324). -/
theorem complete_reports (s : State) (tag : BitVec 16) (opcode : Nat) (notify : Bool) (code sub r0 r1 : Nat) :
    OnlyReports s (complete s tag opcode notify code sub r0 r1) := by
  unfold complete
  simp only
  split
  · exact writeCompletion_reports ..
  · exact waiting_reports ..

theorem drainWaiting_reports (ws : List Waiting) (s : State) : OnlyReports s (drainWaiting ws s) := by
  induction ws generalizing s with
  | nil => exact waiting_reports ..
  | cons w ws ih =>
    simp only [drainWaiting]
    split
    · exact (writeCompletion_reports s w).trans (ih _)
    · exact waiting_reports ..

theorem bulkWords_reports (s : State) (off : Nat) (ws : List Nat) : OnlyReports s (bulkWords s off ws) := putWords_reports ..

/-- Steps over a list that each only report do so together. -/
theorem foldl_reports {α : Type} (f : State → α → State) (h : ∀ s a, OnlyReports s (f s a)) (l : List α) (s : State) :
    OnlyReports s (l.foldl f s) := by
  induction l generalizing s with
  | nil => exact .rfl' s
  | cons a l ih => exact (h s a).trans (ih _)

theorem slotRead_reports (s : State) : OnlyReports s (slotRead s) :=
  (wr_reports _ _ _ _ _ (by decide)).trans (eccThrough_reports ..)

end Sys2Proof.Machine
end

