-- ==== Sys2Proof/Laws/Ring.lean ====
section
/-! SUPPORT. A ring command: what it comes to when Mexis takes it, and when it is turned away. -/

namespace Sys2Proof.Machine

open Sys2Proof

theorem offer_reports (s : State) (opcode : Nat) (c : Cmd) : OnlyReports s (offer s opcode c) :=
  OnlyReports.ite (.rfl' s) ((putWords_reports ..).trans (wr_reports _ _ _ _ _ (by decide)))

theorem taken_reports (opcode : Nat) (c : Cmd) (s : State) : OnlyReports s (takenState opcode c s) :=
  (offer_reports ..).trans (slotRead_reports _)

/-- An offer moves no field but the doorbell's. -/
theorem offer_rd (s : State) (opcode : Nat) (c : Cmd) (f : Field) (h : f.key 0 0 ≠ F.DB_CMD_PROD.key 0 0) :
    rd (offer s opcode c) f = rd s f := by
  unfold offer
  split
  · rfl
  · rw [rd_wr_other _ _ _ _ _ _ _ _ h]
    rfl

/-- Whether Mexis may consume does not hang on what the host offers (R324). -/
theorem canConsume_offer (s : State) (opcode : Nat) (c : Cmd) : canConsume (offer s opcode c) = canConsume s := by
  have e := offer_rd s opcode c
  have hs : deviceUp (offer s opcode c) = deviceUp s ∧ (offer s opcode c).sec = s.sec ∧
      inProgressCount (offer s opcode c) = inProgressCount s := by
    unfold offer
    split <;> exact ⟨rfl, rfl, rfl⟩
  have hr : ready (offer s opcode c) = ready s := by rw [ready, e _ (by decide)]; rfl
  have hf : cplFill (offer s opcode c) = cplFill s := by rw [cplFill, e _ (by decide), e _ (by decide)]; rfl
  have hz : cplRingSize (offer s opcode c) = cplRingSize s := by rw [cplRingSize, e _ (by decide)]; rfl
  unfold canConsume
  rw [hs.1, hs.2.1, hs.2.2, hr, hf, hz]

theorem cmdWords_length (c : Cmd) (opcode : Nat) : (cmdWords c opcode).length = 16 := by simp [cmdWords]

/-- A descriptor's words have 32 bits. -/
theorem cmdWords_lt (c : Cmd) (opcode : Nat) (ho : opcode < 2 ^ 16) : ∀ w ∈ cmdWords c opcode, w < 2 ^ 32 := by
  intro w h
  simp only [cmdWords, List.mem_cons, List.mem_map] at h
  rcases h with rfl | rfl | ⟨x, _, rfl⟩
  · have := c.tag.isLt
    omega
  · have := c.w1rest.isLt
    cases c.notify <;> simp only [b2n, if_true, if_false, Bool.false_eq_true] <;> omega
  · exact x.isLt

/-- With the ring empty, a command offered waits in the slot consumed next (R324). -/
theorem frontIs_offer {s : State} {opcode : Nat} {c : Cmd} (h : cmdFill s = 0) (ho : opcode < 2 ^ 16) :
    frontIs (offer s opcode c) opcode c = true := by
  have hp := rd_lt s F.DB_CMD_PROD 0 0
  have hc := rd_lt s F.RING_CMD_CONS_CONS 0 0
  have hpc : rd s F.DB_CMD_PROD = rd s F.RING_CMD_CONS_CONS := by
    simp only [cmdFill, ringFill] at h
    simp only [show F.DB_CMD_PROD.width = 16 from rfl, show F.RING_CMD_CONS_CONS.width = 16 from rfl] at hp hc
    omega
  have hs : 0 < cmdRingSize s := by
    have := Nat.two_pow_pos (rd s F.RING_LAYOUT_CMD_SZ)
    simp only [cmdRingSize]
    omega
  have hf : frontIs s opcode c = false := by simp [frontIs, h]
  have e : offer s opcode c = wr (putWords s (cmdRingBase s + (rd s F.DB_CMD_PROD % cmdRingSize s) * 64) (cmdWords c opcode)) F.DB_CMD_PROD
      (rd s F.DB_CMD_PROD + 1) := by
    unfold offer
    rw [if_neg]
    simp only [hf, h, Bool.false_or, decide_eq_true_eq]
    omega
  have keep := offer_rd s opcode c
  have hslot : cmdSlot (offer s opcode c) = cmdRingBase s + (rd s F.DB_CMD_PROD % cmdRingSize s) * 64 := by
    rw [cmdSlot, cmdRingBase, cmdRingSize, keep _ (by decide), keep _ (by decide), keep _ (by decide), ← hpc]
    rfl
  have hw : (offer s opcode c).mgmt.window = winPutWords s.mgmt.window
      (cmdRingBase s + (rd s F.DB_CMD_PROD % cmdRingSize s) * 64) (cmdWords c opcode) := by
    rw [e]
    rfl
  have hfill : 0 < cmdFill (offer s opcode c) := by
    rw [cmdFill, keep F.RING_CMD_CONS_CONS (by decide), e, rd_wr_same, ringFill, hpc]
    simp only [show F.DB_CMD_PROD.width = 16 from rfl, show F.RING_CMD_CONS_CONS.width = 16 from rfl] at hp hc ⊢
    omega
  have hd : slotData (offer s opcode c) = cmdWords c opcode := by
    rw [slotData, hslot, hw]
    refine List.ext_getElem (by simp [cmdWords_length]) fun k h1 h2 => ?_
    rw [List.getElem_map, List.getElem_range, winWord_winPutWords _ _ _ h2]
    exact Nat.mod_eq_of_lt (cmdWords_lt c opcode ho _ (List.getElem_mem h2))
  simp [frontIs, hfill, hd]

/-- A command that Mexis takes and no life-cycle or session condition refuses does its own part and replies. -/
theorem hostCmd_taken {opcode : Nat} {masks : List (Nat × Nat)} {c : Cmd} {s : State} (gate : State → Option (Nat × Nat))
    (body : State → State × Reply) (h : Taken opcode masks c s) (hg : gate (takenState opcode c s) = none) :
    hostCmd opcode masks gate c body s =
      finish opcode c (body (takenState opcode c s)).1 (body (takenState opcode c s)).2 := by
  obtain ⟨h1, h2, h3, h4⟩ := h
  have hr : ((offer s opcode c).sec.recovery && !bootRomServes opcode) = false := by
    rw [(offer_reports s opcode c).sec]
    rcases h3 with h3 | h3 <;> simp [h3]
  simp only [hostCmd, h1, h2, hr, h4, if_true, Bool.false_eq_true, if_false]
  rw [takenState] at hg
  simp only [hg]
  rfl

/-- A command that meets a life-cycle or session condition does nothing but report it. -/
theorem hostCmd_gated {opcode : Nat} {masks : List (Nat × Nat)} {c : Cmd} {s : State} {code sub : Nat}
    (gate : State → Option (Nat × Nat)) (body : State → State × Reply) (h : Taken opcode masks c s)
    (hg : gate (takenState opcode c s) = some (code, sub)) :
    hostCmd opcode masks gate c body s = complete (takenState opcode c s) c.tag opcode c.notify code sub 0 0 := by
  obtain ⟨h1, h2, h3, h4⟩ := h
  have hr : ((offer s opcode c).sec.recovery && !bootRomServes opcode) = false := by
    rw [(offer_reports s opcode c).sec]
    rcases h3 with h3 | h3 <;> simp [h3]
  simp only [hostCmd, h1, h2, hr, h4, if_true, Bool.false_eq_true, if_false]
  rw [takenState] at hg
  simp only [hg]
  rfl

theorem withChecks_pass {cs : State → List (Bool × Nat × Nat)} {act : State → State × Reply} {s : State}
    (h : firstFail (cs s) = none) : withChecks cs act s = act s := by
  simp only [withChecks, h]

theorem withChecks_fail {cs : State → List (Bool × Nat × Nat)} {act : State → State × Reply} {s : State} {code sub : Nat}
    (h : firstFail (cs s) = some (code, sub)) : withChecks cs act s = (s, .done code sub 0 0) := by
  simp only [withChecks, h]

/-- No condition fails: none is refused. -/
theorem firstFail_none (cs : List (Bool × Nat × Nat)) (h : ∀ c ∈ cs, c.1 = false) : firstFail cs = none := by
  unfold firstFail
  suffices ∀ cs : List (Bool × Nat × Nat), (∀ c ∈ cs, c.1 = false) → ∀ o : Option (Nat × Nat),
      cs.foldl (fun o c => if c.1 then
        match o with
        | none => some c.2
        | some b => if c.2.1 < b.1 then some c.2 else some b
      else o) o = o from this cs h none
  intro cs
  induction cs with
  | nil => intro _ o; rfl
  | cons c cs ih =>
    intro h o
    simp only [List.foldl_cons, h c (List.mem_cons_self ..), Bool.false_eq_true, if_false]
    exact ih (fun d hd => h d (List.mem_cons_of_mem _ hd)) o

theorem finish_done (opcode : Nat) (c : Cmd) (s : State) (code sub r0 r1 : Nat) :
    finish opcode c s (.done code sub r0 r1) = complete s c.tag opcode c.notify code sub r0 r1 := rfl

end Sys2Proof.Machine
end

