-- ==== Sys2Proof/Laws/Keep.lean ====
section
/-! SUPPORT. The components of the state that reporting leaves alone, one lemma per operation and component. -/

namespace Sys2Proof.Machine

open Sys2Proof

/-! From OnlyReports. -/

theorem OnlyReports.obs_hiLatch {s t : State} (h : OnlyReports s t) : t.obs.hiLatch = s.obs.hiLatch :=
  (congrArg ObsState.hiLatch h.obs :)
theorem OnlyReports.obs_banks {s t : State} (h : OnlyReports s t) : t.obs.banks = s.obs.banks :=
  (congrArg ObsState.banks h.obs :)
theorem OnlyReports.obs_lastBank {s t : State} (h : OnlyReports s t) : t.obs.lastBank = s.obs.lastBank :=
  (congrArg ObsState.lastBank h.obs :)
theorem OnlyReports.obs_seq {s t : State} (h : OnlyReports s t) : t.obs.seq = s.obs.seq :=
  (congrArg ObsState.seq h.obs :)
theorem OnlyReports.obs_full {s t : State} (h : OnlyReports s t) : t.obs.full = s.obs.full :=
  (congrArg ObsState.full h.obs :)
theorem OnlyReports.obs_thrFrac {s t : State} (h : OnlyReports s t) : t.obs.thrFrac = s.obs.thrFrac :=
  (congrArg ObsState.thrFrac h.obs :)
theorem OnlyReports.obs_ber {s t : State} (h : OnlyReports s t) : t.obs.ber = s.obs.ber :=
  (congrArg ObsState.ber h.obs :)
theorem OnlyReports.obs_buckets {s t : State} (h : OnlyReports s t) : t.obs.buckets = s.obs.buckets :=
  (congrArg ObsState.buckets h.obs :)
theorem OnlyReports.obs_contexts {s t : State} (h : OnlyReports s t) : t.obs.contexts = s.obs.contexts :=
  (congrArg ObsState.contexts h.obs :)
theorem OnlyReports.obs_replay {s t : State} (h : OnlyReports s t) : t.obs.replay = s.obs.replay :=
  (congrArg ObsState.replay h.obs :)
theorem OnlyReports.obs_image {s t : State} (h : OnlyReports s t) : t.obs.image = s.obs.image :=
  (congrArg ObsState.image h.obs :)
theorem OnlyReports.obs_imageCopying {s t : State} (h : OnlyReports s t) : t.obs.imageCopying = s.obs.imageCopying :=
  (congrArg ObsState.imageCopying h.obs :)
theorem OnlyReports.obs_imageLocked {s t : State} (h : OnlyReports s t) : t.obs.imageLocked = s.obs.imageLocked :=
  (congrArg ObsState.imageLocked h.obs :)
theorem OnlyReports.obs_flowFull {s t : State} (h : OnlyReports s t) : t.obs.flowFull = s.obs.flowFull :=
  (congrArg ObsState.flowFull h.obs :)
theorem OnlyReports.obs_shifts {s t : State} (h : OnlyReports s t) : t.obs.shifts = s.obs.shifts :=
  (congrArg ObsState.shifts h.obs :)
theorem OnlyReports.mgmt_inProgress {s t : State} (h : OnlyReports s t) : t.mgmt.inProgress = s.mgmt.inProgress :=
  (congrArg MgmtState.inProgress h.mgmt :)
theorem OnlyReports.mgmt_engineHeld {s t : State} (h : OnlyReports s t) : t.mgmt.engineHeld = s.mgmt.engineHeld :=
  (congrArg MgmtState.engineHeld h.mgmt :)
theorem OnlyReports.mgmt_restartCause {s t : State} (h : OnlyReports s t) : t.mgmt.restartCause = s.mgmt.restartCause :=
  (congrArg MgmtState.restartCause h.mgmt :)
theorem OnlyReports.mgmt_afterRestart {s t : State} (h : OnlyReports s t) : t.mgmt.afterRestart = s.mgmt.afterRestart :=
  (congrArg MgmtState.afterRestart h.mgmt :)
theorem OnlyReports.mgmt_layoutSpent {s t : State} (h : OnlyReports s t) : t.mgmt.layoutSpent = s.mgmt.layoutSpent :=
  (congrArg MgmtState.layoutSpent h.mgmt :)
theorem OnlyReports.mgmt_straps {s t : State} (h : OnlyReports s t) : t.mgmt.straps = s.mgmt.straps :=
  (congrArg MgmtState.straps h.mgmt :)
theorem OnlyReports.mgmt_i2cNext {s t : State} (h : OnlyReports s t) : t.mgmt.i2cNext = s.mgmt.i2cNext :=
  (congrArg MgmtState.i2cNext h.mgmt :)
theorem OnlyReports.mgmt_i2cOut {s t : State} (h : OnlyReports s t) : t.mgmt.i2cOut = s.mgmt.i2cOut :=
  (congrArg MgmtState.i2cOut h.mgmt :)
theorem OnlyReports.mgmt_i2cAcks {s t : State} (h : OnlyReports s t) : t.mgmt.i2cAcks = s.mgmt.i2cAcks :=
  (congrArg MgmtState.i2cAcks h.mgmt :)
theorem OnlyReports.mgmt_spiOut {s t : State} (h : OnlyReports s t) : t.mgmt.spiOut = s.mgmt.spiOut :=
  (congrArg MgmtState.spiOut h.mgmt :)
theorem OnlyReports.mgmt_readOut {s t : State} (h : OnlyReports s t) : t.mgmt.readOut = s.mgmt.readOut :=
  (congrArg MgmtState.readOut h.mgmt :)
theorem OnlyReports.mgmt_coreFault {s t : State} (h : OnlyReports s t) : t.mgmt.coreFault = s.mgmt.coreFault :=
  (congrArg MgmtState.coreFault h.mgmt :)
theorem OnlyReports.mgmt_cmisOut {s t : State} (h : OnlyReports s t) : t.mgmt.cmisOut = s.mgmt.cmisOut :=
  (congrArg MgmtState.cmisOut h.mgmt :)
theorem OnlyReports.mgmt_cmisAcks {s t : State} (h : OnlyReports s t) : t.mgmt.cmisAcks = s.mgmt.cmisAcks :=
  (congrArg MgmtState.cmisAcks h.mgmt :)
theorem OnlyReports.mgmt_spiCrcErr {s t : State} (h : OnlyReports s t) : t.mgmt.spiCrcErr = s.mgmt.spiCrcErr :=
  (congrArg MgmtState.spiCrcErr h.mgmt :)
theorem OnlyReports.mgmt_spiBusErr {s t : State} (h : OnlyReports s t) : t.mgmt.spiBusErr = s.mgmt.spiBusErr :=
  (congrArg MgmtState.spiBusErr h.mgmt :)
theorem OnlyReports.mgmt_cmisPage {s t : State} (h : OnlyReports s t) : t.mgmt.cmisPage = s.mgmt.cmisPage :=
  (congrArg MgmtState.cmisPage h.mgmt :)
theorem OnlyReports.mgmt_cmisBank {s t : State} (h : OnlyReports s t) : t.mgmt.cmisBank = s.mgmt.cmisBank :=
  (congrArg MgmtState.cmisBank h.mgmt :)
theorem OnlyReports.mgmt_cmisLog {s t : State} (h : OnlyReports s t) : t.mgmt.cmisLog = s.mgmt.cmisLog :=
  (congrArg MgmtState.cmisLog h.mgmt :)
theorem OnlyReports.mgmt_cmisNext {s t : State} (h : OnlyReports s t) : t.mgmt.cmisNext = s.mgmt.cmisNext :=
  (congrArg MgmtState.cmisNext h.mgmt :)
theorem OnlyReports.mgmt_cmisWritable {s t : State} (h : OnlyReports s t) : t.mgmt.cmisWritable = s.mgmt.cmisWritable :=
  (congrArg MgmtState.cmisWritable h.mgmt :)
theorem OnlyReports.mgmt_busErrRate {s t : State} (h : OnlyReports s t) : t.mgmt.busErrRate = s.mgmt.busErrRate :=
  (congrArg MgmtState.busErrRate h.mgmt :)
theorem OnlyReports.mgmt_lockedRate {s t : State} (h : OnlyReports s t) : t.mgmt.lockedRate = s.mgmt.lockedRate :=
  (congrArg MgmtState.lockedRate h.mgmt :)
theorem OnlyReports.mgmt_tmrLast {s t : State} (h : OnlyReports s t) : t.mgmt.tmrLast = s.mgmt.tmrLast :=
  (congrArg MgmtState.tmrLast h.mgmt :)
theorem OnlyReports.mgmt_tmrSince {s t : State} (h : OnlyReports s t) : t.mgmt.tmrSince = s.mgmt.tmrSince :=
  (congrArg MgmtState.tmrSince h.mgmt :)
theorem OnlyReports.mem_parity {s t : State} (h : OnlyReports s t) : t.mem.parity = s.mem.parity :=
  (congrArg MemState.parity h.mem :)
theorem OnlyReports.mem_candidates {s t : State} (h : OnlyReports s t) : t.mem.candidates = s.mem.candidates :=
  (congrArg MemState.candidates h.mem :)
theorem OnlyReports.mem_retrain {s t : State} (h : OnlyReports s t) : t.mem.retrain = s.mem.retrain :=
  (congrArg MemState.retrain h.mem :)

/-! bumpRaw -/

@[simp] theorem bumpRaw_eff (s : State) (i n : Nat) : (bumpRaw s i n).eff = s.eff := (bumpRaw_reports s i n).eff
@[simp] theorem bumpRaw_time (s : State) (i n : Nat) : (bumpRaw s i n).time = s.time := (bumpRaw_reports s i n).time
@[simp] theorem bumpRaw_lanes (s : State) (i n : Nat) : (bumpRaw s i n).lanes = s.lanes := (bumpRaw_reports s i n).lanes
@[simp] theorem bumpRaw_link (s : State) (i n : Nat) : (bumpRaw s i n).link = s.link := (bumpRaw_reports s i n).link
@[simp] theorem bumpRaw_path (s : State) (i n : Nat) : (bumpRaw s i n).path = s.path := (bumpRaw_reports s i n).path
@[simp] theorem bumpRaw_aside (s : State) (i n : Nat) : (bumpRaw s i n).aside = s.aside := (bumpRaw_reports s i n).aside
@[simp] theorem bumpRaw_ctl (s : State) (i n : Nat) : (bumpRaw s i n).ctl = s.ctl := (bumpRaw_reports s i n).ctl
@[simp] theorem bumpRaw_cal (s : State) (i n : Nat) : (bumpRaw s i n).cal = s.cal := (bumpRaw_reports s i n).cal
@[simp] theorem bumpRaw_faults (s : State) (i n : Nat) : (bumpRaw s i n).faults = s.faults := (bumpRaw_reports s i n).faults
@[simp] theorem bumpRaw_power (s : State) (i n : Nat) : (bumpRaw s i n).power = s.power := (bumpRaw_reports s i n).power
@[simp] theorem bumpRaw_test (s : State) (i n : Nat) : (bumpRaw s i n).test = s.test := (bumpRaw_reports s i n).test
@[simp] theorem bumpRaw_sec (s : State) (i n : Nat) : (bumpRaw s i n).sec = s.sec := (bumpRaw_reports s i n).sec
@[simp] theorem bumpRaw_freeCount (s : State) (i n : Nat) : (bumpRaw s i n).freeCount = s.freeCount := (bumpRaw_reports s i n).freeCount
@[simp] theorem bumpRaw_pending (s : State) (i n : Nat) : (bumpRaw s i n).pending = s.pending := (bumpRaw_reports s i n).pending
@[simp] theorem bumpRaw_obs_hiLatch (s : State) (i n : Nat) : (bumpRaw s i n).obs.hiLatch = s.obs.hiLatch := (bumpRaw_reports s i n).obs_hiLatch
@[simp] theorem bumpRaw_obs_banks (s : State) (i n : Nat) : (bumpRaw s i n).obs.banks = s.obs.banks := (bumpRaw_reports s i n).obs_banks
@[simp] theorem bumpRaw_obs_lastBank (s : State) (i n : Nat) : (bumpRaw s i n).obs.lastBank = s.obs.lastBank := (bumpRaw_reports s i n).obs_lastBank
@[simp] theorem bumpRaw_obs_seq (s : State) (i n : Nat) : (bumpRaw s i n).obs.seq = s.obs.seq := (bumpRaw_reports s i n).obs_seq
@[simp] theorem bumpRaw_obs_full (s : State) (i n : Nat) : (bumpRaw s i n).obs.full = s.obs.full := (bumpRaw_reports s i n).obs_full
@[simp] theorem bumpRaw_obs_thrFrac (s : State) (i n : Nat) : (bumpRaw s i n).obs.thrFrac = s.obs.thrFrac := (bumpRaw_reports s i n).obs_thrFrac
@[simp] theorem bumpRaw_obs_ber (s : State) (i n : Nat) : (bumpRaw s i n).obs.ber = s.obs.ber := (bumpRaw_reports s i n).obs_ber
@[simp] theorem bumpRaw_obs_buckets (s : State) (i n : Nat) : (bumpRaw s i n).obs.buckets = s.obs.buckets := (bumpRaw_reports s i n).obs_buckets
@[simp] theorem bumpRaw_obs_contexts (s : State) (i n : Nat) : (bumpRaw s i n).obs.contexts = s.obs.contexts := (bumpRaw_reports s i n).obs_contexts
@[simp] theorem bumpRaw_obs_replay (s : State) (i n : Nat) : (bumpRaw s i n).obs.replay = s.obs.replay := (bumpRaw_reports s i n).obs_replay
@[simp] theorem bumpRaw_obs_image (s : State) (i n : Nat) : (bumpRaw s i n).obs.image = s.obs.image := (bumpRaw_reports s i n).obs_image
@[simp] theorem bumpRaw_obs_imageCopying (s : State) (i n : Nat) : (bumpRaw s i n).obs.imageCopying = s.obs.imageCopying := (bumpRaw_reports s i n).obs_imageCopying
@[simp] theorem bumpRaw_obs_imageLocked (s : State) (i n : Nat) : (bumpRaw s i n).obs.imageLocked = s.obs.imageLocked := (bumpRaw_reports s i n).obs_imageLocked
@[simp] theorem bumpRaw_obs_flowFull (s : State) (i n : Nat) : (bumpRaw s i n).obs.flowFull = s.obs.flowFull := (bumpRaw_reports s i n).obs_flowFull
@[simp] theorem bumpRaw_obs_shifts (s : State) (i n : Nat) : (bumpRaw s i n).obs.shifts = s.obs.shifts := (bumpRaw_reports s i n).obs_shifts
@[simp] theorem bumpRaw_mgmt_inProgress (s : State) (i n : Nat) : (bumpRaw s i n).mgmt.inProgress = s.mgmt.inProgress := (bumpRaw_reports s i n).mgmt_inProgress
@[simp] theorem bumpRaw_mgmt_engineHeld (s : State) (i n : Nat) : (bumpRaw s i n).mgmt.engineHeld = s.mgmt.engineHeld := (bumpRaw_reports s i n).mgmt_engineHeld
@[simp] theorem bumpRaw_mgmt_restartCause (s : State) (i n : Nat) : (bumpRaw s i n).mgmt.restartCause = s.mgmt.restartCause := (bumpRaw_reports s i n).mgmt_restartCause
@[simp] theorem bumpRaw_mgmt_afterRestart (s : State) (i n : Nat) : (bumpRaw s i n).mgmt.afterRestart = s.mgmt.afterRestart := (bumpRaw_reports s i n).mgmt_afterRestart
@[simp] theorem bumpRaw_mgmt_layoutSpent (s : State) (i n : Nat) : (bumpRaw s i n).mgmt.layoutSpent = s.mgmt.layoutSpent := (bumpRaw_reports s i n).mgmt_layoutSpent
@[simp] theorem bumpRaw_mgmt_straps (s : State) (i n : Nat) : (bumpRaw s i n).mgmt.straps = s.mgmt.straps := (bumpRaw_reports s i n).mgmt_straps
@[simp] theorem bumpRaw_mgmt_i2cNext (s : State) (i n : Nat) : (bumpRaw s i n).mgmt.i2cNext = s.mgmt.i2cNext := (bumpRaw_reports s i n).mgmt_i2cNext
@[simp] theorem bumpRaw_mgmt_i2cOut (s : State) (i n : Nat) : (bumpRaw s i n).mgmt.i2cOut = s.mgmt.i2cOut := (bumpRaw_reports s i n).mgmt_i2cOut
@[simp] theorem bumpRaw_mgmt_i2cAcks (s : State) (i n : Nat) : (bumpRaw s i n).mgmt.i2cAcks = s.mgmt.i2cAcks := (bumpRaw_reports s i n).mgmt_i2cAcks
@[simp] theorem bumpRaw_mgmt_spiOut (s : State) (i n : Nat) : (bumpRaw s i n).mgmt.spiOut = s.mgmt.spiOut := (bumpRaw_reports s i n).mgmt_spiOut
@[simp] theorem bumpRaw_mgmt_readOut (s : State) (i n : Nat) : (bumpRaw s i n).mgmt.readOut = s.mgmt.readOut := (bumpRaw_reports s i n).mgmt_readOut
@[simp] theorem bumpRaw_mgmt_coreFault (s : State) (i n : Nat) : (bumpRaw s i n).mgmt.coreFault = s.mgmt.coreFault := (bumpRaw_reports s i n).mgmt_coreFault
@[simp] theorem bumpRaw_mgmt_cmisOut (s : State) (i n : Nat) : (bumpRaw s i n).mgmt.cmisOut = s.mgmt.cmisOut := (bumpRaw_reports s i n).mgmt_cmisOut
@[simp] theorem bumpRaw_mgmt_cmisAcks (s : State) (i n : Nat) : (bumpRaw s i n).mgmt.cmisAcks = s.mgmt.cmisAcks := (bumpRaw_reports s i n).mgmt_cmisAcks
@[simp] theorem bumpRaw_mgmt_spiCrcErr (s : State) (i n : Nat) : (bumpRaw s i n).mgmt.spiCrcErr = s.mgmt.spiCrcErr := (bumpRaw_reports s i n).mgmt_spiCrcErr
@[simp] theorem bumpRaw_mgmt_spiBusErr (s : State) (i n : Nat) : (bumpRaw s i n).mgmt.spiBusErr = s.mgmt.spiBusErr := (bumpRaw_reports s i n).mgmt_spiBusErr
@[simp] theorem bumpRaw_mgmt_cmisPage (s : State) (i n : Nat) : (bumpRaw s i n).mgmt.cmisPage = s.mgmt.cmisPage := (bumpRaw_reports s i n).mgmt_cmisPage
@[simp] theorem bumpRaw_mgmt_cmisBank (s : State) (i n : Nat) : (bumpRaw s i n).mgmt.cmisBank = s.mgmt.cmisBank := (bumpRaw_reports s i n).mgmt_cmisBank
@[simp] theorem bumpRaw_mgmt_cmisLog (s : State) (i n : Nat) : (bumpRaw s i n).mgmt.cmisLog = s.mgmt.cmisLog := (bumpRaw_reports s i n).mgmt_cmisLog
@[simp] theorem bumpRaw_mgmt_cmisNext (s : State) (i n : Nat) : (bumpRaw s i n).mgmt.cmisNext = s.mgmt.cmisNext := (bumpRaw_reports s i n).mgmt_cmisNext
@[simp] theorem bumpRaw_mgmt_cmisWritable (s : State) (i n : Nat) : (bumpRaw s i n).mgmt.cmisWritable = s.mgmt.cmisWritable := (bumpRaw_reports s i n).mgmt_cmisWritable
@[simp] theorem bumpRaw_mgmt_busErrRate (s : State) (i n : Nat) : (bumpRaw s i n).mgmt.busErrRate = s.mgmt.busErrRate := (bumpRaw_reports s i n).mgmt_busErrRate
@[simp] theorem bumpRaw_mgmt_lockedRate (s : State) (i n : Nat) : (bumpRaw s i n).mgmt.lockedRate = s.mgmt.lockedRate := (bumpRaw_reports s i n).mgmt_lockedRate
@[simp] theorem bumpRaw_mgmt_tmrLast (s : State) (i n : Nat) : (bumpRaw s i n).mgmt.tmrLast = s.mgmt.tmrLast := (bumpRaw_reports s i n).mgmt_tmrLast
@[simp] theorem bumpRaw_mgmt_tmrSince (s : State) (i n : Nat) : (bumpRaw s i n).mgmt.tmrSince = s.mgmt.tmrSince := (bumpRaw_reports s i n).mgmt_tmrSince
@[simp] theorem bumpRaw_mem_parity (s : State) (i n : Nat) : (bumpRaw s i n).mem.parity = s.mem.parity := (bumpRaw_reports s i n).mem_parity
@[simp] theorem bumpRaw_mem_candidates (s : State) (i n : Nat) : (bumpRaw s i n).mem.candidates = s.mem.candidates := (bumpRaw_reports s i n).mem_candidates
@[simp] theorem bumpRaw_mem_retrain (s : State) (i n : Nat) : (bumpRaw s i n).mem.retrain = s.mem.retrain := (bumpRaw_reports s i n).mem_retrain

theorem bumpRaw_rd (s : State) (k n : Nat) (f : Field) (i j : Nat) (h : f.key i j ∉ reportKeys) : rd (bumpRaw s k n) f i j = rd s f i j :=
  (bumpRaw_reports s k n).rd f i j h

@[simp] theorem bumpRaw_rdE (s : State) (k n : Nat) (f : Field) (i j : Nat) : rdE (bumpRaw s k n) f i j = rdE s f i j :=
  (bumpRaw_reports s k n).rdE f i j

/-! bump -/

@[simp] theorem bump_eff (s : State) (i n : Nat) : (bump s i n).eff = s.eff := (bump_reports s i n).eff
@[simp] theorem bump_time (s : State) (i n : Nat) : (bump s i n).time = s.time := (bump_reports s i n).time
@[simp] theorem bump_lanes (s : State) (i n : Nat) : (bump s i n).lanes = s.lanes := (bump_reports s i n).lanes
@[simp] theorem bump_link (s : State) (i n : Nat) : (bump s i n).link = s.link := (bump_reports s i n).link
@[simp] theorem bump_path (s : State) (i n : Nat) : (bump s i n).path = s.path := (bump_reports s i n).path
@[simp] theorem bump_aside (s : State) (i n : Nat) : (bump s i n).aside = s.aside := (bump_reports s i n).aside
@[simp] theorem bump_ctl (s : State) (i n : Nat) : (bump s i n).ctl = s.ctl := (bump_reports s i n).ctl
@[simp] theorem bump_cal (s : State) (i n : Nat) : (bump s i n).cal = s.cal := (bump_reports s i n).cal
@[simp] theorem bump_faults (s : State) (i n : Nat) : (bump s i n).faults = s.faults := (bump_reports s i n).faults
@[simp] theorem bump_power (s : State) (i n : Nat) : (bump s i n).power = s.power := (bump_reports s i n).power
@[simp] theorem bump_test (s : State) (i n : Nat) : (bump s i n).test = s.test := (bump_reports s i n).test
@[simp] theorem bump_sec (s : State) (i n : Nat) : (bump s i n).sec = s.sec := (bump_reports s i n).sec
@[simp] theorem bump_freeCount (s : State) (i n : Nat) : (bump s i n).freeCount = s.freeCount := (bump_reports s i n).freeCount
@[simp] theorem bump_pending (s : State) (i n : Nat) : (bump s i n).pending = s.pending := (bump_reports s i n).pending
@[simp] theorem bump_obs_hiLatch (s : State) (i n : Nat) : (bump s i n).obs.hiLatch = s.obs.hiLatch := (bump_reports s i n).obs_hiLatch
@[simp] theorem bump_obs_banks (s : State) (i n : Nat) : (bump s i n).obs.banks = s.obs.banks := (bump_reports s i n).obs_banks
@[simp] theorem bump_obs_lastBank (s : State) (i n : Nat) : (bump s i n).obs.lastBank = s.obs.lastBank := (bump_reports s i n).obs_lastBank
@[simp] theorem bump_obs_seq (s : State) (i n : Nat) : (bump s i n).obs.seq = s.obs.seq := (bump_reports s i n).obs_seq
@[simp] theorem bump_obs_full (s : State) (i n : Nat) : (bump s i n).obs.full = s.obs.full := (bump_reports s i n).obs_full
@[simp] theorem bump_obs_thrFrac (s : State) (i n : Nat) : (bump s i n).obs.thrFrac = s.obs.thrFrac := (bump_reports s i n).obs_thrFrac
@[simp] theorem bump_obs_ber (s : State) (i n : Nat) : (bump s i n).obs.ber = s.obs.ber := (bump_reports s i n).obs_ber
@[simp] theorem bump_obs_buckets (s : State) (i n : Nat) : (bump s i n).obs.buckets = s.obs.buckets := (bump_reports s i n).obs_buckets
@[simp] theorem bump_obs_contexts (s : State) (i n : Nat) : (bump s i n).obs.contexts = s.obs.contexts := (bump_reports s i n).obs_contexts
@[simp] theorem bump_obs_replay (s : State) (i n : Nat) : (bump s i n).obs.replay = s.obs.replay := (bump_reports s i n).obs_replay
@[simp] theorem bump_obs_image (s : State) (i n : Nat) : (bump s i n).obs.image = s.obs.image := (bump_reports s i n).obs_image
@[simp] theorem bump_obs_imageCopying (s : State) (i n : Nat) : (bump s i n).obs.imageCopying = s.obs.imageCopying := (bump_reports s i n).obs_imageCopying
@[simp] theorem bump_obs_imageLocked (s : State) (i n : Nat) : (bump s i n).obs.imageLocked = s.obs.imageLocked := (bump_reports s i n).obs_imageLocked
@[simp] theorem bump_obs_flowFull (s : State) (i n : Nat) : (bump s i n).obs.flowFull = s.obs.flowFull := (bump_reports s i n).obs_flowFull
@[simp] theorem bump_obs_shifts (s : State) (i n : Nat) : (bump s i n).obs.shifts = s.obs.shifts := (bump_reports s i n).obs_shifts
@[simp] theorem bump_mgmt_inProgress (s : State) (i n : Nat) : (bump s i n).mgmt.inProgress = s.mgmt.inProgress := (bump_reports s i n).mgmt_inProgress
@[simp] theorem bump_mgmt_engineHeld (s : State) (i n : Nat) : (bump s i n).mgmt.engineHeld = s.mgmt.engineHeld := (bump_reports s i n).mgmt_engineHeld
@[simp] theorem bump_mgmt_restartCause (s : State) (i n : Nat) : (bump s i n).mgmt.restartCause = s.mgmt.restartCause := (bump_reports s i n).mgmt_restartCause
@[simp] theorem bump_mgmt_afterRestart (s : State) (i n : Nat) : (bump s i n).mgmt.afterRestart = s.mgmt.afterRestart := (bump_reports s i n).mgmt_afterRestart
@[simp] theorem bump_mgmt_layoutSpent (s : State) (i n : Nat) : (bump s i n).mgmt.layoutSpent = s.mgmt.layoutSpent := (bump_reports s i n).mgmt_layoutSpent
@[simp] theorem bump_mgmt_straps (s : State) (i n : Nat) : (bump s i n).mgmt.straps = s.mgmt.straps := (bump_reports s i n).mgmt_straps
@[simp] theorem bump_mgmt_i2cNext (s : State) (i n : Nat) : (bump s i n).mgmt.i2cNext = s.mgmt.i2cNext := (bump_reports s i n).mgmt_i2cNext
@[simp] theorem bump_mgmt_i2cOut (s : State) (i n : Nat) : (bump s i n).mgmt.i2cOut = s.mgmt.i2cOut := (bump_reports s i n).mgmt_i2cOut
@[simp] theorem bump_mgmt_i2cAcks (s : State) (i n : Nat) : (bump s i n).mgmt.i2cAcks = s.mgmt.i2cAcks := (bump_reports s i n).mgmt_i2cAcks
@[simp] theorem bump_mgmt_spiOut (s : State) (i n : Nat) : (bump s i n).mgmt.spiOut = s.mgmt.spiOut := (bump_reports s i n).mgmt_spiOut
@[simp] theorem bump_mgmt_readOut (s : State) (i n : Nat) : (bump s i n).mgmt.readOut = s.mgmt.readOut := (bump_reports s i n).mgmt_readOut
@[simp] theorem bump_mgmt_coreFault (s : State) (i n : Nat) : (bump s i n).mgmt.coreFault = s.mgmt.coreFault := (bump_reports s i n).mgmt_coreFault
@[simp] theorem bump_mgmt_cmisOut (s : State) (i n : Nat) : (bump s i n).mgmt.cmisOut = s.mgmt.cmisOut := (bump_reports s i n).mgmt_cmisOut
@[simp] theorem bump_mgmt_cmisAcks (s : State) (i n : Nat) : (bump s i n).mgmt.cmisAcks = s.mgmt.cmisAcks := (bump_reports s i n).mgmt_cmisAcks
@[simp] theorem bump_mgmt_spiCrcErr (s : State) (i n : Nat) : (bump s i n).mgmt.spiCrcErr = s.mgmt.spiCrcErr := (bump_reports s i n).mgmt_spiCrcErr
@[simp] theorem bump_mgmt_spiBusErr (s : State) (i n : Nat) : (bump s i n).mgmt.spiBusErr = s.mgmt.spiBusErr := (bump_reports s i n).mgmt_spiBusErr
@[simp] theorem bump_mgmt_cmisPage (s : State) (i n : Nat) : (bump s i n).mgmt.cmisPage = s.mgmt.cmisPage := (bump_reports s i n).mgmt_cmisPage
@[simp] theorem bump_mgmt_cmisBank (s : State) (i n : Nat) : (bump s i n).mgmt.cmisBank = s.mgmt.cmisBank := (bump_reports s i n).mgmt_cmisBank
@[simp] theorem bump_mgmt_cmisLog (s : State) (i n : Nat) : (bump s i n).mgmt.cmisLog = s.mgmt.cmisLog := (bump_reports s i n).mgmt_cmisLog
@[simp] theorem bump_mgmt_cmisNext (s : State) (i n : Nat) : (bump s i n).mgmt.cmisNext = s.mgmt.cmisNext := (bump_reports s i n).mgmt_cmisNext
@[simp] theorem bump_mgmt_cmisWritable (s : State) (i n : Nat) : (bump s i n).mgmt.cmisWritable = s.mgmt.cmisWritable := (bump_reports s i n).mgmt_cmisWritable
@[simp] theorem bump_mgmt_busErrRate (s : State) (i n : Nat) : (bump s i n).mgmt.busErrRate = s.mgmt.busErrRate := (bump_reports s i n).mgmt_busErrRate
@[simp] theorem bump_mgmt_lockedRate (s : State) (i n : Nat) : (bump s i n).mgmt.lockedRate = s.mgmt.lockedRate := (bump_reports s i n).mgmt_lockedRate
@[simp] theorem bump_mgmt_tmrLast (s : State) (i n : Nat) : (bump s i n).mgmt.tmrLast = s.mgmt.tmrLast := (bump_reports s i n).mgmt_tmrLast
@[simp] theorem bump_mgmt_tmrSince (s : State) (i n : Nat) : (bump s i n).mgmt.tmrSince = s.mgmt.tmrSince := (bump_reports s i n).mgmt_tmrSince
@[simp] theorem bump_mem_parity (s : State) (i n : Nat) : (bump s i n).mem.parity = s.mem.parity := (bump_reports s i n).mem_parity
@[simp] theorem bump_mem_candidates (s : State) (i n : Nat) : (bump s i n).mem.candidates = s.mem.candidates := (bump_reports s i n).mem_candidates
@[simp] theorem bump_mem_retrain (s : State) (i n : Nat) : (bump s i n).mem.retrain = s.mem.retrain := (bump_reports s i n).mem_retrain

theorem bump_rd (s : State) (k n : Nat) (f : Field) (i j : Nat) (h : f.key i j ∉ reportKeys) : rd (bump s k n) f i j = rd s f i j :=
  (bump_reports s k n).rd f i j h

@[simp] theorem bump_rdE (s : State) (k n : Nat) (f : Field) (i j : Nat) : rdE (bump s k n) f i j = rdE s f i j :=
  (bump_reports s k n).rdE f i j

/-! raiseEvent -/

@[simp] theorem raiseEvent_eff (s : State) (e : Ev) : (raiseEvent s e).eff = s.eff := (raiseEvent_reports s e).eff
@[simp] theorem raiseEvent_time (s : State) (e : Ev) : (raiseEvent s e).time = s.time := (raiseEvent_reports s e).time
@[simp] theorem raiseEvent_lanes (s : State) (e : Ev) : (raiseEvent s e).lanes = s.lanes := (raiseEvent_reports s e).lanes
@[simp] theorem raiseEvent_link (s : State) (e : Ev) : (raiseEvent s e).link = s.link := (raiseEvent_reports s e).link
@[simp] theorem raiseEvent_path (s : State) (e : Ev) : (raiseEvent s e).path = s.path := (raiseEvent_reports s e).path
@[simp] theorem raiseEvent_aside (s : State) (e : Ev) : (raiseEvent s e).aside = s.aside := (raiseEvent_reports s e).aside
@[simp] theorem raiseEvent_ctl (s : State) (e : Ev) : (raiseEvent s e).ctl = s.ctl := (raiseEvent_reports s e).ctl
@[simp] theorem raiseEvent_cal (s : State) (e : Ev) : (raiseEvent s e).cal = s.cal := (raiseEvent_reports s e).cal
@[simp] theorem raiseEvent_faults (s : State) (e : Ev) : (raiseEvent s e).faults = s.faults := (raiseEvent_reports s e).faults
@[simp] theorem raiseEvent_power (s : State) (e : Ev) : (raiseEvent s e).power = s.power := (raiseEvent_reports s e).power
@[simp] theorem raiseEvent_test (s : State) (e : Ev) : (raiseEvent s e).test = s.test := (raiseEvent_reports s e).test
@[simp] theorem raiseEvent_sec (s : State) (e : Ev) : (raiseEvent s e).sec = s.sec := (raiseEvent_reports s e).sec
@[simp] theorem raiseEvent_freeCount (s : State) (e : Ev) : (raiseEvent s e).freeCount = s.freeCount := (raiseEvent_reports s e).freeCount
@[simp] theorem raiseEvent_pending (s : State) (e : Ev) : (raiseEvent s e).pending = s.pending := (raiseEvent_reports s e).pending
@[simp] theorem raiseEvent_obs_hiLatch (s : State) (e : Ev) : (raiseEvent s e).obs.hiLatch = s.obs.hiLatch := (raiseEvent_reports s e).obs_hiLatch
@[simp] theorem raiseEvent_obs_banks (s : State) (e : Ev) : (raiseEvent s e).obs.banks = s.obs.banks := (raiseEvent_reports s e).obs_banks
@[simp] theorem raiseEvent_obs_lastBank (s : State) (e : Ev) : (raiseEvent s e).obs.lastBank = s.obs.lastBank := (raiseEvent_reports s e).obs_lastBank
@[simp] theorem raiseEvent_obs_seq (s : State) (e : Ev) : (raiseEvent s e).obs.seq = s.obs.seq := (raiseEvent_reports s e).obs_seq
@[simp] theorem raiseEvent_obs_full (s : State) (e : Ev) : (raiseEvent s e).obs.full = s.obs.full := (raiseEvent_reports s e).obs_full
@[simp] theorem raiseEvent_obs_thrFrac (s : State) (e : Ev) : (raiseEvent s e).obs.thrFrac = s.obs.thrFrac := (raiseEvent_reports s e).obs_thrFrac
@[simp] theorem raiseEvent_obs_ber (s : State) (e : Ev) : (raiseEvent s e).obs.ber = s.obs.ber := (raiseEvent_reports s e).obs_ber
@[simp] theorem raiseEvent_obs_buckets (s : State) (e : Ev) : (raiseEvent s e).obs.buckets = s.obs.buckets := (raiseEvent_reports s e).obs_buckets
@[simp] theorem raiseEvent_obs_contexts (s : State) (e : Ev) : (raiseEvent s e).obs.contexts = s.obs.contexts := (raiseEvent_reports s e).obs_contexts
@[simp] theorem raiseEvent_obs_replay (s : State) (e : Ev) : (raiseEvent s e).obs.replay = s.obs.replay := (raiseEvent_reports s e).obs_replay
@[simp] theorem raiseEvent_obs_image (s : State) (e : Ev) : (raiseEvent s e).obs.image = s.obs.image := (raiseEvent_reports s e).obs_image
@[simp] theorem raiseEvent_obs_imageCopying (s : State) (e : Ev) : (raiseEvent s e).obs.imageCopying = s.obs.imageCopying := (raiseEvent_reports s e).obs_imageCopying
@[simp] theorem raiseEvent_obs_imageLocked (s : State) (e : Ev) : (raiseEvent s e).obs.imageLocked = s.obs.imageLocked := (raiseEvent_reports s e).obs_imageLocked
@[simp] theorem raiseEvent_obs_flowFull (s : State) (e : Ev) : (raiseEvent s e).obs.flowFull = s.obs.flowFull := (raiseEvent_reports s e).obs_flowFull
@[simp] theorem raiseEvent_obs_shifts (s : State) (e : Ev) : (raiseEvent s e).obs.shifts = s.obs.shifts := (raiseEvent_reports s e).obs_shifts
@[simp] theorem raiseEvent_mgmt_inProgress (s : State) (e : Ev) : (raiseEvent s e).mgmt.inProgress = s.mgmt.inProgress := (raiseEvent_reports s e).mgmt_inProgress
@[simp] theorem raiseEvent_mgmt_engineHeld (s : State) (e : Ev) : (raiseEvent s e).mgmt.engineHeld = s.mgmt.engineHeld := (raiseEvent_reports s e).mgmt_engineHeld
@[simp] theorem raiseEvent_mgmt_restartCause (s : State) (e : Ev) : (raiseEvent s e).mgmt.restartCause = s.mgmt.restartCause := (raiseEvent_reports s e).mgmt_restartCause
@[simp] theorem raiseEvent_mgmt_afterRestart (s : State) (e : Ev) : (raiseEvent s e).mgmt.afterRestart = s.mgmt.afterRestart := (raiseEvent_reports s e).mgmt_afterRestart
@[simp] theorem raiseEvent_mgmt_layoutSpent (s : State) (e : Ev) : (raiseEvent s e).mgmt.layoutSpent = s.mgmt.layoutSpent := (raiseEvent_reports s e).mgmt_layoutSpent
@[simp] theorem raiseEvent_mgmt_straps (s : State) (e : Ev) : (raiseEvent s e).mgmt.straps = s.mgmt.straps := (raiseEvent_reports s e).mgmt_straps
@[simp] theorem raiseEvent_mgmt_i2cNext (s : State) (e : Ev) : (raiseEvent s e).mgmt.i2cNext = s.mgmt.i2cNext := (raiseEvent_reports s e).mgmt_i2cNext
@[simp] theorem raiseEvent_mgmt_i2cOut (s : State) (e : Ev) : (raiseEvent s e).mgmt.i2cOut = s.mgmt.i2cOut := (raiseEvent_reports s e).mgmt_i2cOut
@[simp] theorem raiseEvent_mgmt_i2cAcks (s : State) (e : Ev) : (raiseEvent s e).mgmt.i2cAcks = s.mgmt.i2cAcks := (raiseEvent_reports s e).mgmt_i2cAcks
@[simp] theorem raiseEvent_mgmt_spiOut (s : State) (e : Ev) : (raiseEvent s e).mgmt.spiOut = s.mgmt.spiOut := (raiseEvent_reports s e).mgmt_spiOut
@[simp] theorem raiseEvent_mgmt_readOut (s : State) (e : Ev) : (raiseEvent s e).mgmt.readOut = s.mgmt.readOut := (raiseEvent_reports s e).mgmt_readOut
@[simp] theorem raiseEvent_mgmt_coreFault (s : State) (e : Ev) : (raiseEvent s e).mgmt.coreFault = s.mgmt.coreFault := (raiseEvent_reports s e).mgmt_coreFault
@[simp] theorem raiseEvent_mgmt_cmisOut (s : State) (e : Ev) : (raiseEvent s e).mgmt.cmisOut = s.mgmt.cmisOut := (raiseEvent_reports s e).mgmt_cmisOut
@[simp] theorem raiseEvent_mgmt_cmisAcks (s : State) (e : Ev) : (raiseEvent s e).mgmt.cmisAcks = s.mgmt.cmisAcks := (raiseEvent_reports s e).mgmt_cmisAcks
@[simp] theorem raiseEvent_mgmt_spiCrcErr (s : State) (e : Ev) : (raiseEvent s e).mgmt.spiCrcErr = s.mgmt.spiCrcErr := (raiseEvent_reports s e).mgmt_spiCrcErr
@[simp] theorem raiseEvent_mgmt_spiBusErr (s : State) (e : Ev) : (raiseEvent s e).mgmt.spiBusErr = s.mgmt.spiBusErr := (raiseEvent_reports s e).mgmt_spiBusErr
@[simp] theorem raiseEvent_mgmt_cmisPage (s : State) (e : Ev) : (raiseEvent s e).mgmt.cmisPage = s.mgmt.cmisPage := (raiseEvent_reports s e).mgmt_cmisPage
@[simp] theorem raiseEvent_mgmt_cmisBank (s : State) (e : Ev) : (raiseEvent s e).mgmt.cmisBank = s.mgmt.cmisBank := (raiseEvent_reports s e).mgmt_cmisBank
@[simp] theorem raiseEvent_mgmt_cmisLog (s : State) (e : Ev) : (raiseEvent s e).mgmt.cmisLog = s.mgmt.cmisLog := (raiseEvent_reports s e).mgmt_cmisLog
@[simp] theorem raiseEvent_mgmt_cmisNext (s : State) (e : Ev) : (raiseEvent s e).mgmt.cmisNext = s.mgmt.cmisNext := (raiseEvent_reports s e).mgmt_cmisNext
@[simp] theorem raiseEvent_mgmt_cmisWritable (s : State) (e : Ev) : (raiseEvent s e).mgmt.cmisWritable = s.mgmt.cmisWritable := (raiseEvent_reports s e).mgmt_cmisWritable
@[simp] theorem raiseEvent_mgmt_busErrRate (s : State) (e : Ev) : (raiseEvent s e).mgmt.busErrRate = s.mgmt.busErrRate := (raiseEvent_reports s e).mgmt_busErrRate
@[simp] theorem raiseEvent_mgmt_lockedRate (s : State) (e : Ev) : (raiseEvent s e).mgmt.lockedRate = s.mgmt.lockedRate := (raiseEvent_reports s e).mgmt_lockedRate
@[simp] theorem raiseEvent_mgmt_tmrLast (s : State) (e : Ev) : (raiseEvent s e).mgmt.tmrLast = s.mgmt.tmrLast := (raiseEvent_reports s e).mgmt_tmrLast
@[simp] theorem raiseEvent_mgmt_tmrSince (s : State) (e : Ev) : (raiseEvent s e).mgmt.tmrSince = s.mgmt.tmrSince := (raiseEvent_reports s e).mgmt_tmrSince
@[simp] theorem raiseEvent_mem_parity (s : State) (e : Ev) : (raiseEvent s e).mem.parity = s.mem.parity := (raiseEvent_reports s e).mem_parity
@[simp] theorem raiseEvent_mem_candidates (s : State) (e : Ev) : (raiseEvent s e).mem.candidates = s.mem.candidates := (raiseEvent_reports s e).mem_candidates
@[simp] theorem raiseEvent_mem_retrain (s : State) (e : Ev) : (raiseEvent s e).mem.retrain = s.mem.retrain := (raiseEvent_reports s e).mem_retrain

theorem raiseEvent_rd (s : State) (e : Ev) (f : Field) (i j : Nat) (h : f.key i j ∉ reportKeys) : rd (raiseEvent s e) f i j = rd s f i j :=
  (raiseEvent_reports s e).rd f i j h

@[simp] theorem raiseEvent_rdE (s : State) (e : Ev) (f : Field) (i j : Nat) : rdE (raiseEvent s e) f i j = rdE s f i j :=
  (raiseEvent_reports s e).rdE f i j

/-! curtain -/

@[simp] theorem curtain_eff (s : State) (trigger code l : Nat) (d1 : Option Nat) : (curtain s trigger code l d1).eff = s.eff := (curtain_reports s trigger code l d1).eff
@[simp] theorem curtain_time (s : State) (trigger code l : Nat) (d1 : Option Nat) : (curtain s trigger code l d1).time = s.time := (curtain_reports s trigger code l d1).time
@[simp] theorem curtain_lanes (s : State) (trigger code l : Nat) (d1 : Option Nat) : (curtain s trigger code l d1).lanes = s.lanes := (curtain_reports s trigger code l d1).lanes
@[simp] theorem curtain_link (s : State) (trigger code l : Nat) (d1 : Option Nat) : (curtain s trigger code l d1).link = s.link := (curtain_reports s trigger code l d1).link
@[simp] theorem curtain_path (s : State) (trigger code l : Nat) (d1 : Option Nat) : (curtain s trigger code l d1).path = s.path := (curtain_reports s trigger code l d1).path
@[simp] theorem curtain_aside (s : State) (trigger code l : Nat) (d1 : Option Nat) : (curtain s trigger code l d1).aside = s.aside := (curtain_reports s trigger code l d1).aside
@[simp] theorem curtain_ctl (s : State) (trigger code l : Nat) (d1 : Option Nat) : (curtain s trigger code l d1).ctl = s.ctl := (curtain_reports s trigger code l d1).ctl
@[simp] theorem curtain_cal (s : State) (trigger code l : Nat) (d1 : Option Nat) : (curtain s trigger code l d1).cal = s.cal := (curtain_reports s trigger code l d1).cal
@[simp] theorem curtain_faults (s : State) (trigger code l : Nat) (d1 : Option Nat) : (curtain s trigger code l d1).faults = s.faults := (curtain_reports s trigger code l d1).faults
@[simp] theorem curtain_power (s : State) (trigger code l : Nat) (d1 : Option Nat) : (curtain s trigger code l d1).power = s.power := (curtain_reports s trigger code l d1).power
@[simp] theorem curtain_test (s : State) (trigger code l : Nat) (d1 : Option Nat) : (curtain s trigger code l d1).test = s.test := (curtain_reports s trigger code l d1).test
@[simp] theorem curtain_sec (s : State) (trigger code l : Nat) (d1 : Option Nat) : (curtain s trigger code l d1).sec = s.sec := (curtain_reports s trigger code l d1).sec
@[simp] theorem curtain_freeCount (s : State) (trigger code l : Nat) (d1 : Option Nat) : (curtain s trigger code l d1).freeCount = s.freeCount := (curtain_reports s trigger code l d1).freeCount
@[simp] theorem curtain_pending (s : State) (trigger code l : Nat) (d1 : Option Nat) : (curtain s trigger code l d1).pending = s.pending := (curtain_reports s trigger code l d1).pending
@[simp] theorem curtain_obs_hiLatch (s : State) (trigger code l : Nat) (d1 : Option Nat) : (curtain s trigger code l d1).obs.hiLatch = s.obs.hiLatch := (curtain_reports s trigger code l d1).obs_hiLatch
@[simp] theorem curtain_obs_banks (s : State) (trigger code l : Nat) (d1 : Option Nat) : (curtain s trigger code l d1).obs.banks = s.obs.banks := (curtain_reports s trigger code l d1).obs_banks
@[simp] theorem curtain_obs_lastBank (s : State) (trigger code l : Nat) (d1 : Option Nat) : (curtain s trigger code l d1).obs.lastBank = s.obs.lastBank := (curtain_reports s trigger code l d1).obs_lastBank
@[simp] theorem curtain_obs_seq (s : State) (trigger code l : Nat) (d1 : Option Nat) : (curtain s trigger code l d1).obs.seq = s.obs.seq := (curtain_reports s trigger code l d1).obs_seq
@[simp] theorem curtain_obs_full (s : State) (trigger code l : Nat) (d1 : Option Nat) : (curtain s trigger code l d1).obs.full = s.obs.full := (curtain_reports s trigger code l d1).obs_full
@[simp] theorem curtain_obs_thrFrac (s : State) (trigger code l : Nat) (d1 : Option Nat) : (curtain s trigger code l d1).obs.thrFrac = s.obs.thrFrac := (curtain_reports s trigger code l d1).obs_thrFrac
@[simp] theorem curtain_obs_ber (s : State) (trigger code l : Nat) (d1 : Option Nat) : (curtain s trigger code l d1).obs.ber = s.obs.ber := (curtain_reports s trigger code l d1).obs_ber
@[simp] theorem curtain_obs_buckets (s : State) (trigger code l : Nat) (d1 : Option Nat) : (curtain s trigger code l d1).obs.buckets = s.obs.buckets := (curtain_reports s trigger code l d1).obs_buckets
@[simp] theorem curtain_obs_contexts (s : State) (trigger code l : Nat) (d1 : Option Nat) : (curtain s trigger code l d1).obs.contexts = s.obs.contexts := (curtain_reports s trigger code l d1).obs_contexts
@[simp] theorem curtain_obs_replay (s : State) (trigger code l : Nat) (d1 : Option Nat) : (curtain s trigger code l d1).obs.replay = s.obs.replay := (curtain_reports s trigger code l d1).obs_replay
@[simp] theorem curtain_obs_image (s : State) (trigger code l : Nat) (d1 : Option Nat) : (curtain s trigger code l d1).obs.image = s.obs.image := (curtain_reports s trigger code l d1).obs_image
@[simp] theorem curtain_obs_imageCopying (s : State) (trigger code l : Nat) (d1 : Option Nat) : (curtain s trigger code l d1).obs.imageCopying = s.obs.imageCopying := (curtain_reports s trigger code l d1).obs_imageCopying
@[simp] theorem curtain_obs_imageLocked (s : State) (trigger code l : Nat) (d1 : Option Nat) : (curtain s trigger code l d1).obs.imageLocked = s.obs.imageLocked := (curtain_reports s trigger code l d1).obs_imageLocked
@[simp] theorem curtain_obs_flowFull (s : State) (trigger code l : Nat) (d1 : Option Nat) : (curtain s trigger code l d1).obs.flowFull = s.obs.flowFull := (curtain_reports s trigger code l d1).obs_flowFull
@[simp] theorem curtain_obs_shifts (s : State) (trigger code l : Nat) (d1 : Option Nat) : (curtain s trigger code l d1).obs.shifts = s.obs.shifts := (curtain_reports s trigger code l d1).obs_shifts
@[simp] theorem curtain_mgmt_inProgress (s : State) (trigger code l : Nat) (d1 : Option Nat) : (curtain s trigger code l d1).mgmt.inProgress = s.mgmt.inProgress := (curtain_reports s trigger code l d1).mgmt_inProgress
@[simp] theorem curtain_mgmt_engineHeld (s : State) (trigger code l : Nat) (d1 : Option Nat) : (curtain s trigger code l d1).mgmt.engineHeld = s.mgmt.engineHeld := (curtain_reports s trigger code l d1).mgmt_engineHeld
@[simp] theorem curtain_mgmt_restartCause (s : State) (trigger code l : Nat) (d1 : Option Nat) : (curtain s trigger code l d1).mgmt.restartCause = s.mgmt.restartCause := (curtain_reports s trigger code l d1).mgmt_restartCause
@[simp] theorem curtain_mgmt_afterRestart (s : State) (trigger code l : Nat) (d1 : Option Nat) : (curtain s trigger code l d1).mgmt.afterRestart = s.mgmt.afterRestart := (curtain_reports s trigger code l d1).mgmt_afterRestart
@[simp] theorem curtain_mgmt_layoutSpent (s : State) (trigger code l : Nat) (d1 : Option Nat) : (curtain s trigger code l d1).mgmt.layoutSpent = s.mgmt.layoutSpent := (curtain_reports s trigger code l d1).mgmt_layoutSpent
@[simp] theorem curtain_mgmt_straps (s : State) (trigger code l : Nat) (d1 : Option Nat) : (curtain s trigger code l d1).mgmt.straps = s.mgmt.straps := (curtain_reports s trigger code l d1).mgmt_straps
@[simp] theorem curtain_mgmt_i2cNext (s : State) (trigger code l : Nat) (d1 : Option Nat) : (curtain s trigger code l d1).mgmt.i2cNext = s.mgmt.i2cNext := (curtain_reports s trigger code l d1).mgmt_i2cNext
@[simp] theorem curtain_mgmt_i2cOut (s : State) (trigger code l : Nat) (d1 : Option Nat) : (curtain s trigger code l d1).mgmt.i2cOut = s.mgmt.i2cOut := (curtain_reports s trigger code l d1).mgmt_i2cOut
@[simp] theorem curtain_mgmt_i2cAcks (s : State) (trigger code l : Nat) (d1 : Option Nat) : (curtain s trigger code l d1).mgmt.i2cAcks = s.mgmt.i2cAcks := (curtain_reports s trigger code l d1).mgmt_i2cAcks
@[simp] theorem curtain_mgmt_spiOut (s : State) (trigger code l : Nat) (d1 : Option Nat) : (curtain s trigger code l d1).mgmt.spiOut = s.mgmt.spiOut := (curtain_reports s trigger code l d1).mgmt_spiOut
@[simp] theorem curtain_mgmt_readOut (s : State) (trigger code l : Nat) (d1 : Option Nat) : (curtain s trigger code l d1).mgmt.readOut = s.mgmt.readOut := (curtain_reports s trigger code l d1).mgmt_readOut
@[simp] theorem curtain_mgmt_coreFault (s : State) (trigger code l : Nat) (d1 : Option Nat) : (curtain s trigger code l d1).mgmt.coreFault = s.mgmt.coreFault := (curtain_reports s trigger code l d1).mgmt_coreFault
@[simp] theorem curtain_mgmt_cmisOut (s : State) (trigger code l : Nat) (d1 : Option Nat) : (curtain s trigger code l d1).mgmt.cmisOut = s.mgmt.cmisOut := (curtain_reports s trigger code l d1).mgmt_cmisOut
@[simp] theorem curtain_mgmt_cmisAcks (s : State) (trigger code l : Nat) (d1 : Option Nat) : (curtain s trigger code l d1).mgmt.cmisAcks = s.mgmt.cmisAcks := (curtain_reports s trigger code l d1).mgmt_cmisAcks
@[simp] theorem curtain_mgmt_spiCrcErr (s : State) (trigger code l : Nat) (d1 : Option Nat) : (curtain s trigger code l d1).mgmt.spiCrcErr = s.mgmt.spiCrcErr := (curtain_reports s trigger code l d1).mgmt_spiCrcErr
@[simp] theorem curtain_mgmt_spiBusErr (s : State) (trigger code l : Nat) (d1 : Option Nat) : (curtain s trigger code l d1).mgmt.spiBusErr = s.mgmt.spiBusErr := (curtain_reports s trigger code l d1).mgmt_spiBusErr
@[simp] theorem curtain_mgmt_cmisPage (s : State) (trigger code l : Nat) (d1 : Option Nat) : (curtain s trigger code l d1).mgmt.cmisPage = s.mgmt.cmisPage := (curtain_reports s trigger code l d1).mgmt_cmisPage
@[simp] theorem curtain_mgmt_cmisBank (s : State) (trigger code l : Nat) (d1 : Option Nat) : (curtain s trigger code l d1).mgmt.cmisBank = s.mgmt.cmisBank := (curtain_reports s trigger code l d1).mgmt_cmisBank
@[simp] theorem curtain_mgmt_cmisLog (s : State) (trigger code l : Nat) (d1 : Option Nat) : (curtain s trigger code l d1).mgmt.cmisLog = s.mgmt.cmisLog := (curtain_reports s trigger code l d1).mgmt_cmisLog
@[simp] theorem curtain_mgmt_cmisNext (s : State) (trigger code l : Nat) (d1 : Option Nat) : (curtain s trigger code l d1).mgmt.cmisNext = s.mgmt.cmisNext := (curtain_reports s trigger code l d1).mgmt_cmisNext
@[simp] theorem curtain_mgmt_cmisWritable (s : State) (trigger code l : Nat) (d1 : Option Nat) : (curtain s trigger code l d1).mgmt.cmisWritable = s.mgmt.cmisWritable := (curtain_reports s trigger code l d1).mgmt_cmisWritable
@[simp] theorem curtain_mgmt_busErrRate (s : State) (trigger code l : Nat) (d1 : Option Nat) : (curtain s trigger code l d1).mgmt.busErrRate = s.mgmt.busErrRate := (curtain_reports s trigger code l d1).mgmt_busErrRate
@[simp] theorem curtain_mgmt_lockedRate (s : State) (trigger code l : Nat) (d1 : Option Nat) : (curtain s trigger code l d1).mgmt.lockedRate = s.mgmt.lockedRate := (curtain_reports s trigger code l d1).mgmt_lockedRate
@[simp] theorem curtain_mgmt_tmrLast (s : State) (trigger code l : Nat) (d1 : Option Nat) : (curtain s trigger code l d1).mgmt.tmrLast = s.mgmt.tmrLast := (curtain_reports s trigger code l d1).mgmt_tmrLast
@[simp] theorem curtain_mgmt_tmrSince (s : State) (trigger code l : Nat) (d1 : Option Nat) : (curtain s trigger code l d1).mgmt.tmrSince = s.mgmt.tmrSince := (curtain_reports s trigger code l d1).mgmt_tmrSince
@[simp] theorem curtain_mem_parity (s : State) (trigger code l : Nat) (d1 : Option Nat) : (curtain s trigger code l d1).mem.parity = s.mem.parity := (curtain_reports s trigger code l d1).mem_parity
@[simp] theorem curtain_mem_candidates (s : State) (trigger code l : Nat) (d1 : Option Nat) : (curtain s trigger code l d1).mem.candidates = s.mem.candidates := (curtain_reports s trigger code l d1).mem_candidates
@[simp] theorem curtain_mem_retrain (s : State) (trigger code l : Nat) (d1 : Option Nat) : (curtain s trigger code l d1).mem.retrain = s.mem.retrain := (curtain_reports s trigger code l d1).mem_retrain

theorem curtain_rd (s : State) (trigger code l : Nat) (d1 : Option Nat) (f : Field) (i j : Nat) (h : f.key i j ∉ reportKeys) : rd (curtain s trigger code l d1) f i j = rd s f i j :=
  (curtain_reports s trigger code l d1).rd f i j h

@[simp] theorem curtain_rdE (s : State) (trigger code l : Nat) (d1 : Option Nat) (f : Field) (i j : Nat) : rdE (curtain s trigger code l d1) f i j = rdE s f i j :=
  (curtain_reports s trigger code l d1).rdE f i j

/-! reportUncorr -/

@[simp] theorem reportUncorr_eff (s : State) (k a : Nat) (scrub : Bool) : (reportUncorr s k a scrub).eff = s.eff := (reportUncorr_reports s k a scrub).eff
@[simp] theorem reportUncorr_time (s : State) (k a : Nat) (scrub : Bool) : (reportUncorr s k a scrub).time = s.time := (reportUncorr_reports s k a scrub).time
@[simp] theorem reportUncorr_lanes (s : State) (k a : Nat) (scrub : Bool) : (reportUncorr s k a scrub).lanes = s.lanes := (reportUncorr_reports s k a scrub).lanes
@[simp] theorem reportUncorr_link (s : State) (k a : Nat) (scrub : Bool) : (reportUncorr s k a scrub).link = s.link := (reportUncorr_reports s k a scrub).link
@[simp] theorem reportUncorr_path (s : State) (k a : Nat) (scrub : Bool) : (reportUncorr s k a scrub).path = s.path := (reportUncorr_reports s k a scrub).path
@[simp] theorem reportUncorr_aside (s : State) (k a : Nat) (scrub : Bool) : (reportUncorr s k a scrub).aside = s.aside := (reportUncorr_reports s k a scrub).aside
@[simp] theorem reportUncorr_ctl (s : State) (k a : Nat) (scrub : Bool) : (reportUncorr s k a scrub).ctl = s.ctl := (reportUncorr_reports s k a scrub).ctl
@[simp] theorem reportUncorr_cal (s : State) (k a : Nat) (scrub : Bool) : (reportUncorr s k a scrub).cal = s.cal := (reportUncorr_reports s k a scrub).cal
@[simp] theorem reportUncorr_faults (s : State) (k a : Nat) (scrub : Bool) : (reportUncorr s k a scrub).faults = s.faults := (reportUncorr_reports s k a scrub).faults
@[simp] theorem reportUncorr_power (s : State) (k a : Nat) (scrub : Bool) : (reportUncorr s k a scrub).power = s.power := (reportUncorr_reports s k a scrub).power
@[simp] theorem reportUncorr_test (s : State) (k a : Nat) (scrub : Bool) : (reportUncorr s k a scrub).test = s.test := (reportUncorr_reports s k a scrub).test
@[simp] theorem reportUncorr_sec (s : State) (k a : Nat) (scrub : Bool) : (reportUncorr s k a scrub).sec = s.sec := (reportUncorr_reports s k a scrub).sec
@[simp] theorem reportUncorr_freeCount (s : State) (k a : Nat) (scrub : Bool) : (reportUncorr s k a scrub).freeCount = s.freeCount := (reportUncorr_reports s k a scrub).freeCount
@[simp] theorem reportUncorr_pending (s : State) (k a : Nat) (scrub : Bool) : (reportUncorr s k a scrub).pending = s.pending := (reportUncorr_reports s k a scrub).pending
@[simp] theorem reportUncorr_obs_hiLatch (s : State) (k a : Nat) (scrub : Bool) : (reportUncorr s k a scrub).obs.hiLatch = s.obs.hiLatch := (reportUncorr_reports s k a scrub).obs_hiLatch
@[simp] theorem reportUncorr_obs_banks (s : State) (k a : Nat) (scrub : Bool) : (reportUncorr s k a scrub).obs.banks = s.obs.banks := (reportUncorr_reports s k a scrub).obs_banks
@[simp] theorem reportUncorr_obs_lastBank (s : State) (k a : Nat) (scrub : Bool) : (reportUncorr s k a scrub).obs.lastBank = s.obs.lastBank := (reportUncorr_reports s k a scrub).obs_lastBank
@[simp] theorem reportUncorr_obs_seq (s : State) (k a : Nat) (scrub : Bool) : (reportUncorr s k a scrub).obs.seq = s.obs.seq := (reportUncorr_reports s k a scrub).obs_seq
@[simp] theorem reportUncorr_obs_full (s : State) (k a : Nat) (scrub : Bool) : (reportUncorr s k a scrub).obs.full = s.obs.full := (reportUncorr_reports s k a scrub).obs_full
@[simp] theorem reportUncorr_obs_thrFrac (s : State) (k a : Nat) (scrub : Bool) : (reportUncorr s k a scrub).obs.thrFrac = s.obs.thrFrac := (reportUncorr_reports s k a scrub).obs_thrFrac
@[simp] theorem reportUncorr_obs_ber (s : State) (k a : Nat) (scrub : Bool) : (reportUncorr s k a scrub).obs.ber = s.obs.ber := (reportUncorr_reports s k a scrub).obs_ber
@[simp] theorem reportUncorr_obs_buckets (s : State) (k a : Nat) (scrub : Bool) : (reportUncorr s k a scrub).obs.buckets = s.obs.buckets := (reportUncorr_reports s k a scrub).obs_buckets
@[simp] theorem reportUncorr_obs_contexts (s : State) (k a : Nat) (scrub : Bool) : (reportUncorr s k a scrub).obs.contexts = s.obs.contexts := (reportUncorr_reports s k a scrub).obs_contexts
@[simp] theorem reportUncorr_obs_replay (s : State) (k a : Nat) (scrub : Bool) : (reportUncorr s k a scrub).obs.replay = s.obs.replay := (reportUncorr_reports s k a scrub).obs_replay
@[simp] theorem reportUncorr_obs_image (s : State) (k a : Nat) (scrub : Bool) : (reportUncorr s k a scrub).obs.image = s.obs.image := (reportUncorr_reports s k a scrub).obs_image
@[simp] theorem reportUncorr_obs_imageCopying (s : State) (k a : Nat) (scrub : Bool) : (reportUncorr s k a scrub).obs.imageCopying = s.obs.imageCopying := (reportUncorr_reports s k a scrub).obs_imageCopying
@[simp] theorem reportUncorr_obs_imageLocked (s : State) (k a : Nat) (scrub : Bool) : (reportUncorr s k a scrub).obs.imageLocked = s.obs.imageLocked := (reportUncorr_reports s k a scrub).obs_imageLocked
@[simp] theorem reportUncorr_obs_flowFull (s : State) (k a : Nat) (scrub : Bool) : (reportUncorr s k a scrub).obs.flowFull = s.obs.flowFull := (reportUncorr_reports s k a scrub).obs_flowFull
@[simp] theorem reportUncorr_obs_shifts (s : State) (k a : Nat) (scrub : Bool) : (reportUncorr s k a scrub).obs.shifts = s.obs.shifts := (reportUncorr_reports s k a scrub).obs_shifts
@[simp] theorem reportUncorr_mgmt_inProgress (s : State) (k a : Nat) (scrub : Bool) : (reportUncorr s k a scrub).mgmt.inProgress = s.mgmt.inProgress := (reportUncorr_reports s k a scrub).mgmt_inProgress
@[simp] theorem reportUncorr_mgmt_engineHeld (s : State) (k a : Nat) (scrub : Bool) : (reportUncorr s k a scrub).mgmt.engineHeld = s.mgmt.engineHeld := (reportUncorr_reports s k a scrub).mgmt_engineHeld
@[simp] theorem reportUncorr_mgmt_restartCause (s : State) (k a : Nat) (scrub : Bool) : (reportUncorr s k a scrub).mgmt.restartCause = s.mgmt.restartCause := (reportUncorr_reports s k a scrub).mgmt_restartCause
@[simp] theorem reportUncorr_mgmt_afterRestart (s : State) (k a : Nat) (scrub : Bool) : (reportUncorr s k a scrub).mgmt.afterRestart = s.mgmt.afterRestart := (reportUncorr_reports s k a scrub).mgmt_afterRestart
@[simp] theorem reportUncorr_mgmt_layoutSpent (s : State) (k a : Nat) (scrub : Bool) : (reportUncorr s k a scrub).mgmt.layoutSpent = s.mgmt.layoutSpent := (reportUncorr_reports s k a scrub).mgmt_layoutSpent
@[simp] theorem reportUncorr_mgmt_straps (s : State) (k a : Nat) (scrub : Bool) : (reportUncorr s k a scrub).mgmt.straps = s.mgmt.straps := (reportUncorr_reports s k a scrub).mgmt_straps
@[simp] theorem reportUncorr_mgmt_i2cNext (s : State) (k a : Nat) (scrub : Bool) : (reportUncorr s k a scrub).mgmt.i2cNext = s.mgmt.i2cNext := (reportUncorr_reports s k a scrub).mgmt_i2cNext
@[simp] theorem reportUncorr_mgmt_i2cOut (s : State) (k a : Nat) (scrub : Bool) : (reportUncorr s k a scrub).mgmt.i2cOut = s.mgmt.i2cOut := (reportUncorr_reports s k a scrub).mgmt_i2cOut
@[simp] theorem reportUncorr_mgmt_i2cAcks (s : State) (k a : Nat) (scrub : Bool) : (reportUncorr s k a scrub).mgmt.i2cAcks = s.mgmt.i2cAcks := (reportUncorr_reports s k a scrub).mgmt_i2cAcks
@[simp] theorem reportUncorr_mgmt_spiOut (s : State) (k a : Nat) (scrub : Bool) : (reportUncorr s k a scrub).mgmt.spiOut = s.mgmt.spiOut := (reportUncorr_reports s k a scrub).mgmt_spiOut
@[simp] theorem reportUncorr_mgmt_readOut (s : State) (k a : Nat) (scrub : Bool) : (reportUncorr s k a scrub).mgmt.readOut = s.mgmt.readOut := (reportUncorr_reports s k a scrub).mgmt_readOut
@[simp] theorem reportUncorr_mgmt_coreFault (s : State) (k a : Nat) (scrub : Bool) : (reportUncorr s k a scrub).mgmt.coreFault = s.mgmt.coreFault := (reportUncorr_reports s k a scrub).mgmt_coreFault
@[simp] theorem reportUncorr_mgmt_cmisOut (s : State) (k a : Nat) (scrub : Bool) : (reportUncorr s k a scrub).mgmt.cmisOut = s.mgmt.cmisOut := (reportUncorr_reports s k a scrub).mgmt_cmisOut
@[simp] theorem reportUncorr_mgmt_cmisAcks (s : State) (k a : Nat) (scrub : Bool) : (reportUncorr s k a scrub).mgmt.cmisAcks = s.mgmt.cmisAcks := (reportUncorr_reports s k a scrub).mgmt_cmisAcks
@[simp] theorem reportUncorr_mgmt_spiCrcErr (s : State) (k a : Nat) (scrub : Bool) : (reportUncorr s k a scrub).mgmt.spiCrcErr = s.mgmt.spiCrcErr := (reportUncorr_reports s k a scrub).mgmt_spiCrcErr
@[simp] theorem reportUncorr_mgmt_spiBusErr (s : State) (k a : Nat) (scrub : Bool) : (reportUncorr s k a scrub).mgmt.spiBusErr = s.mgmt.spiBusErr := (reportUncorr_reports s k a scrub).mgmt_spiBusErr
@[simp] theorem reportUncorr_mgmt_cmisPage (s : State) (k a : Nat) (scrub : Bool) : (reportUncorr s k a scrub).mgmt.cmisPage = s.mgmt.cmisPage := (reportUncorr_reports s k a scrub).mgmt_cmisPage
@[simp] theorem reportUncorr_mgmt_cmisBank (s : State) (k a : Nat) (scrub : Bool) : (reportUncorr s k a scrub).mgmt.cmisBank = s.mgmt.cmisBank := (reportUncorr_reports s k a scrub).mgmt_cmisBank
@[simp] theorem reportUncorr_mgmt_cmisLog (s : State) (k a : Nat) (scrub : Bool) : (reportUncorr s k a scrub).mgmt.cmisLog = s.mgmt.cmisLog := (reportUncorr_reports s k a scrub).mgmt_cmisLog
@[simp] theorem reportUncorr_mgmt_cmisNext (s : State) (k a : Nat) (scrub : Bool) : (reportUncorr s k a scrub).mgmt.cmisNext = s.mgmt.cmisNext := (reportUncorr_reports s k a scrub).mgmt_cmisNext
@[simp] theorem reportUncorr_mgmt_cmisWritable (s : State) (k a : Nat) (scrub : Bool) : (reportUncorr s k a scrub).mgmt.cmisWritable = s.mgmt.cmisWritable := (reportUncorr_reports s k a scrub).mgmt_cmisWritable
@[simp] theorem reportUncorr_mgmt_busErrRate (s : State) (k a : Nat) (scrub : Bool) : (reportUncorr s k a scrub).mgmt.busErrRate = s.mgmt.busErrRate := (reportUncorr_reports s k a scrub).mgmt_busErrRate
@[simp] theorem reportUncorr_mgmt_lockedRate (s : State) (k a : Nat) (scrub : Bool) : (reportUncorr s k a scrub).mgmt.lockedRate = s.mgmt.lockedRate := (reportUncorr_reports s k a scrub).mgmt_lockedRate
@[simp] theorem reportUncorr_mgmt_tmrLast (s : State) (k a : Nat) (scrub : Bool) : (reportUncorr s k a scrub).mgmt.tmrLast = s.mgmt.tmrLast := (reportUncorr_reports s k a scrub).mgmt_tmrLast
@[simp] theorem reportUncorr_mgmt_tmrSince (s : State) (k a : Nat) (scrub : Bool) : (reportUncorr s k a scrub).mgmt.tmrSince = s.mgmt.tmrSince := (reportUncorr_reports s k a scrub).mgmt_tmrSince
@[simp] theorem reportUncorr_mem_parity (s : State) (k a : Nat) (scrub : Bool) : (reportUncorr s k a scrub).mem.parity = s.mem.parity := (reportUncorr_reports s k a scrub).mem_parity
@[simp] theorem reportUncorr_mem_candidates (s : State) (k a : Nat) (scrub : Bool) : (reportUncorr s k a scrub).mem.candidates = s.mem.candidates := (reportUncorr_reports s k a scrub).mem_candidates
@[simp] theorem reportUncorr_mem_retrain (s : State) (k a : Nat) (scrub : Bool) : (reportUncorr s k a scrub).mem.retrain = s.mem.retrain := (reportUncorr_reports s k a scrub).mem_retrain

theorem reportUncorr_rd (s : State) (k a : Nat) (scrub : Bool) (f : Field) (i j : Nat) (h : f.key i j ∉ reportKeys) : rd (reportUncorr s k a scrub) f i j = rd s f i j :=
  (reportUncorr_reports s k a scrub).rd f i j h

@[simp] theorem reportUncorr_rdE (s : State) (k a : Nat) (scrub : Bool) (f : Field) (i j : Nat) : rdE (reportUncorr s k a scrub) f i j = rdE s f i j :=
  (reportUncorr_reports s k a scrub).rdE f i j

/-! bookWrite -/

@[simp] theorem bookWrite_eff (s : State) (kind w1 l d0 d1 count : Nat) : (bookWrite s kind w1 l d0 d1 count).eff = s.eff := (bookWrite_reports s kind w1 l d0 d1 count).eff
@[simp] theorem bookWrite_time (s : State) (kind w1 l d0 d1 count : Nat) : (bookWrite s kind w1 l d0 d1 count).time = s.time := (bookWrite_reports s kind w1 l d0 d1 count).time
@[simp] theorem bookWrite_lanes (s : State) (kind w1 l d0 d1 count : Nat) : (bookWrite s kind w1 l d0 d1 count).lanes = s.lanes := (bookWrite_reports s kind w1 l d0 d1 count).lanes
@[simp] theorem bookWrite_link (s : State) (kind w1 l d0 d1 count : Nat) : (bookWrite s kind w1 l d0 d1 count).link = s.link := (bookWrite_reports s kind w1 l d0 d1 count).link
@[simp] theorem bookWrite_path (s : State) (kind w1 l d0 d1 count : Nat) : (bookWrite s kind w1 l d0 d1 count).path = s.path := (bookWrite_reports s kind w1 l d0 d1 count).path
@[simp] theorem bookWrite_aside (s : State) (kind w1 l d0 d1 count : Nat) : (bookWrite s kind w1 l d0 d1 count).aside = s.aside := (bookWrite_reports s kind w1 l d0 d1 count).aside
@[simp] theorem bookWrite_ctl (s : State) (kind w1 l d0 d1 count : Nat) : (bookWrite s kind w1 l d0 d1 count).ctl = s.ctl := (bookWrite_reports s kind w1 l d0 d1 count).ctl
@[simp] theorem bookWrite_cal (s : State) (kind w1 l d0 d1 count : Nat) : (bookWrite s kind w1 l d0 d1 count).cal = s.cal := (bookWrite_reports s kind w1 l d0 d1 count).cal
@[simp] theorem bookWrite_faults (s : State) (kind w1 l d0 d1 count : Nat) : (bookWrite s kind w1 l d0 d1 count).faults = s.faults := (bookWrite_reports s kind w1 l d0 d1 count).faults
@[simp] theorem bookWrite_power (s : State) (kind w1 l d0 d1 count : Nat) : (bookWrite s kind w1 l d0 d1 count).power = s.power := (bookWrite_reports s kind w1 l d0 d1 count).power
@[simp] theorem bookWrite_test (s : State) (kind w1 l d0 d1 count : Nat) : (bookWrite s kind w1 l d0 d1 count).test = s.test := (bookWrite_reports s kind w1 l d0 d1 count).test
@[simp] theorem bookWrite_sec (s : State) (kind w1 l d0 d1 count : Nat) : (bookWrite s kind w1 l d0 d1 count).sec = s.sec := (bookWrite_reports s kind w1 l d0 d1 count).sec
@[simp] theorem bookWrite_freeCount (s : State) (kind w1 l d0 d1 count : Nat) : (bookWrite s kind w1 l d0 d1 count).freeCount = s.freeCount := (bookWrite_reports s kind w1 l d0 d1 count).freeCount
@[simp] theorem bookWrite_pending (s : State) (kind w1 l d0 d1 count : Nat) : (bookWrite s kind w1 l d0 d1 count).pending = s.pending := (bookWrite_reports s kind w1 l d0 d1 count).pending
@[simp] theorem bookWrite_obs_hiLatch (s : State) (kind w1 l d0 d1 count : Nat) : (bookWrite s kind w1 l d0 d1 count).obs.hiLatch = s.obs.hiLatch := (bookWrite_reports s kind w1 l d0 d1 count).obs_hiLatch
@[simp] theorem bookWrite_obs_banks (s : State) (kind w1 l d0 d1 count : Nat) : (bookWrite s kind w1 l d0 d1 count).obs.banks = s.obs.banks := (bookWrite_reports s kind w1 l d0 d1 count).obs_banks
@[simp] theorem bookWrite_obs_lastBank (s : State) (kind w1 l d0 d1 count : Nat) : (bookWrite s kind w1 l d0 d1 count).obs.lastBank = s.obs.lastBank := (bookWrite_reports s kind w1 l d0 d1 count).obs_lastBank
@[simp] theorem bookWrite_obs_seq (s : State) (kind w1 l d0 d1 count : Nat) : (bookWrite s kind w1 l d0 d1 count).obs.seq = s.obs.seq := (bookWrite_reports s kind w1 l d0 d1 count).obs_seq
@[simp] theorem bookWrite_obs_full (s : State) (kind w1 l d0 d1 count : Nat) : (bookWrite s kind w1 l d0 d1 count).obs.full = s.obs.full := (bookWrite_reports s kind w1 l d0 d1 count).obs_full
@[simp] theorem bookWrite_obs_thrFrac (s : State) (kind w1 l d0 d1 count : Nat) : (bookWrite s kind w1 l d0 d1 count).obs.thrFrac = s.obs.thrFrac := (bookWrite_reports s kind w1 l d0 d1 count).obs_thrFrac
@[simp] theorem bookWrite_obs_ber (s : State) (kind w1 l d0 d1 count : Nat) : (bookWrite s kind w1 l d0 d1 count).obs.ber = s.obs.ber := (bookWrite_reports s kind w1 l d0 d1 count).obs_ber
@[simp] theorem bookWrite_obs_buckets (s : State) (kind w1 l d0 d1 count : Nat) : (bookWrite s kind w1 l d0 d1 count).obs.buckets = s.obs.buckets := (bookWrite_reports s kind w1 l d0 d1 count).obs_buckets
@[simp] theorem bookWrite_obs_contexts (s : State) (kind w1 l d0 d1 count : Nat) : (bookWrite s kind w1 l d0 d1 count).obs.contexts = s.obs.contexts := (bookWrite_reports s kind w1 l d0 d1 count).obs_contexts
@[simp] theorem bookWrite_obs_replay (s : State) (kind w1 l d0 d1 count : Nat) : (bookWrite s kind w1 l d0 d1 count).obs.replay = s.obs.replay := (bookWrite_reports s kind w1 l d0 d1 count).obs_replay
@[simp] theorem bookWrite_obs_image (s : State) (kind w1 l d0 d1 count : Nat) : (bookWrite s kind w1 l d0 d1 count).obs.image = s.obs.image := (bookWrite_reports s kind w1 l d0 d1 count).obs_image
@[simp] theorem bookWrite_obs_imageCopying (s : State) (kind w1 l d0 d1 count : Nat) : (bookWrite s kind w1 l d0 d1 count).obs.imageCopying = s.obs.imageCopying := (bookWrite_reports s kind w1 l d0 d1 count).obs_imageCopying
@[simp] theorem bookWrite_obs_imageLocked (s : State) (kind w1 l d0 d1 count : Nat) : (bookWrite s kind w1 l d0 d1 count).obs.imageLocked = s.obs.imageLocked := (bookWrite_reports s kind w1 l d0 d1 count).obs_imageLocked
@[simp] theorem bookWrite_obs_flowFull (s : State) (kind w1 l d0 d1 count : Nat) : (bookWrite s kind w1 l d0 d1 count).obs.flowFull = s.obs.flowFull := (bookWrite_reports s kind w1 l d0 d1 count).obs_flowFull
@[simp] theorem bookWrite_obs_shifts (s : State) (kind w1 l d0 d1 count : Nat) : (bookWrite s kind w1 l d0 d1 count).obs.shifts = s.obs.shifts := (bookWrite_reports s kind w1 l d0 d1 count).obs_shifts
@[simp] theorem bookWrite_mgmt_inProgress (s : State) (kind w1 l d0 d1 count : Nat) : (bookWrite s kind w1 l d0 d1 count).mgmt.inProgress = s.mgmt.inProgress := (bookWrite_reports s kind w1 l d0 d1 count).mgmt_inProgress
@[simp] theorem bookWrite_mgmt_engineHeld (s : State) (kind w1 l d0 d1 count : Nat) : (bookWrite s kind w1 l d0 d1 count).mgmt.engineHeld = s.mgmt.engineHeld := (bookWrite_reports s kind w1 l d0 d1 count).mgmt_engineHeld
@[simp] theorem bookWrite_mgmt_restartCause (s : State) (kind w1 l d0 d1 count : Nat) : (bookWrite s kind w1 l d0 d1 count).mgmt.restartCause = s.mgmt.restartCause := (bookWrite_reports s kind w1 l d0 d1 count).mgmt_restartCause
@[simp] theorem bookWrite_mgmt_afterRestart (s : State) (kind w1 l d0 d1 count : Nat) : (bookWrite s kind w1 l d0 d1 count).mgmt.afterRestart = s.mgmt.afterRestart := (bookWrite_reports s kind w1 l d0 d1 count).mgmt_afterRestart
@[simp] theorem bookWrite_mgmt_layoutSpent (s : State) (kind w1 l d0 d1 count : Nat) : (bookWrite s kind w1 l d0 d1 count).mgmt.layoutSpent = s.mgmt.layoutSpent := (bookWrite_reports s kind w1 l d0 d1 count).mgmt_layoutSpent
@[simp] theorem bookWrite_mgmt_straps (s : State) (kind w1 l d0 d1 count : Nat) : (bookWrite s kind w1 l d0 d1 count).mgmt.straps = s.mgmt.straps := (bookWrite_reports s kind w1 l d0 d1 count).mgmt_straps
@[simp] theorem bookWrite_mgmt_i2cNext (s : State) (kind w1 l d0 d1 count : Nat) : (bookWrite s kind w1 l d0 d1 count).mgmt.i2cNext = s.mgmt.i2cNext := (bookWrite_reports s kind w1 l d0 d1 count).mgmt_i2cNext
@[simp] theorem bookWrite_mgmt_i2cOut (s : State) (kind w1 l d0 d1 count : Nat) : (bookWrite s kind w1 l d0 d1 count).mgmt.i2cOut = s.mgmt.i2cOut := (bookWrite_reports s kind w1 l d0 d1 count).mgmt_i2cOut
@[simp] theorem bookWrite_mgmt_i2cAcks (s : State) (kind w1 l d0 d1 count : Nat) : (bookWrite s kind w1 l d0 d1 count).mgmt.i2cAcks = s.mgmt.i2cAcks := (bookWrite_reports s kind w1 l d0 d1 count).mgmt_i2cAcks
@[simp] theorem bookWrite_mgmt_spiOut (s : State) (kind w1 l d0 d1 count : Nat) : (bookWrite s kind w1 l d0 d1 count).mgmt.spiOut = s.mgmt.spiOut := (bookWrite_reports s kind w1 l d0 d1 count).mgmt_spiOut
@[simp] theorem bookWrite_mgmt_readOut (s : State) (kind w1 l d0 d1 count : Nat) : (bookWrite s kind w1 l d0 d1 count).mgmt.readOut = s.mgmt.readOut := (bookWrite_reports s kind w1 l d0 d1 count).mgmt_readOut
@[simp] theorem bookWrite_mgmt_coreFault (s : State) (kind w1 l d0 d1 count : Nat) : (bookWrite s kind w1 l d0 d1 count).mgmt.coreFault = s.mgmt.coreFault := (bookWrite_reports s kind w1 l d0 d1 count).mgmt_coreFault
@[simp] theorem bookWrite_mgmt_cmisOut (s : State) (kind w1 l d0 d1 count : Nat) : (bookWrite s kind w1 l d0 d1 count).mgmt.cmisOut = s.mgmt.cmisOut := (bookWrite_reports s kind w1 l d0 d1 count).mgmt_cmisOut
@[simp] theorem bookWrite_mgmt_cmisAcks (s : State) (kind w1 l d0 d1 count : Nat) : (bookWrite s kind w1 l d0 d1 count).mgmt.cmisAcks = s.mgmt.cmisAcks := (bookWrite_reports s kind w1 l d0 d1 count).mgmt_cmisAcks
@[simp] theorem bookWrite_mgmt_spiCrcErr (s : State) (kind w1 l d0 d1 count : Nat) : (bookWrite s kind w1 l d0 d1 count).mgmt.spiCrcErr = s.mgmt.spiCrcErr := (bookWrite_reports s kind w1 l d0 d1 count).mgmt_spiCrcErr
@[simp] theorem bookWrite_mgmt_spiBusErr (s : State) (kind w1 l d0 d1 count : Nat) : (bookWrite s kind w1 l d0 d1 count).mgmt.spiBusErr = s.mgmt.spiBusErr := (bookWrite_reports s kind w1 l d0 d1 count).mgmt_spiBusErr
@[simp] theorem bookWrite_mgmt_cmisPage (s : State) (kind w1 l d0 d1 count : Nat) : (bookWrite s kind w1 l d0 d1 count).mgmt.cmisPage = s.mgmt.cmisPage := (bookWrite_reports s kind w1 l d0 d1 count).mgmt_cmisPage
@[simp] theorem bookWrite_mgmt_cmisBank (s : State) (kind w1 l d0 d1 count : Nat) : (bookWrite s kind w1 l d0 d1 count).mgmt.cmisBank = s.mgmt.cmisBank := (bookWrite_reports s kind w1 l d0 d1 count).mgmt_cmisBank
@[simp] theorem bookWrite_mgmt_cmisLog (s : State) (kind w1 l d0 d1 count : Nat) : (bookWrite s kind w1 l d0 d1 count).mgmt.cmisLog = s.mgmt.cmisLog := (bookWrite_reports s kind w1 l d0 d1 count).mgmt_cmisLog
@[simp] theorem bookWrite_mgmt_cmisNext (s : State) (kind w1 l d0 d1 count : Nat) : (bookWrite s kind w1 l d0 d1 count).mgmt.cmisNext = s.mgmt.cmisNext := (bookWrite_reports s kind w1 l d0 d1 count).mgmt_cmisNext
@[simp] theorem bookWrite_mgmt_cmisWritable (s : State) (kind w1 l d0 d1 count : Nat) : (bookWrite s kind w1 l d0 d1 count).mgmt.cmisWritable = s.mgmt.cmisWritable := (bookWrite_reports s kind w1 l d0 d1 count).mgmt_cmisWritable
@[simp] theorem bookWrite_mgmt_busErrRate (s : State) (kind w1 l d0 d1 count : Nat) : (bookWrite s kind w1 l d0 d1 count).mgmt.busErrRate = s.mgmt.busErrRate := (bookWrite_reports s kind w1 l d0 d1 count).mgmt_busErrRate
@[simp] theorem bookWrite_mgmt_lockedRate (s : State) (kind w1 l d0 d1 count : Nat) : (bookWrite s kind w1 l d0 d1 count).mgmt.lockedRate = s.mgmt.lockedRate := (bookWrite_reports s kind w1 l d0 d1 count).mgmt_lockedRate
@[simp] theorem bookWrite_mgmt_tmrLast (s : State) (kind w1 l d0 d1 count : Nat) : (bookWrite s kind w1 l d0 d1 count).mgmt.tmrLast = s.mgmt.tmrLast := (bookWrite_reports s kind w1 l d0 d1 count).mgmt_tmrLast
@[simp] theorem bookWrite_mgmt_tmrSince (s : State) (kind w1 l d0 d1 count : Nat) : (bookWrite s kind w1 l d0 d1 count).mgmt.tmrSince = s.mgmt.tmrSince := (bookWrite_reports s kind w1 l d0 d1 count).mgmt_tmrSince
@[simp] theorem bookWrite_mem_parity (s : State) (kind w1 l d0 d1 count : Nat) : (bookWrite s kind w1 l d0 d1 count).mem.parity = s.mem.parity := (bookWrite_reports s kind w1 l d0 d1 count).mem_parity
@[simp] theorem bookWrite_mem_candidates (s : State) (kind w1 l d0 d1 count : Nat) : (bookWrite s kind w1 l d0 d1 count).mem.candidates = s.mem.candidates := (bookWrite_reports s kind w1 l d0 d1 count).mem_candidates
@[simp] theorem bookWrite_mem_retrain (s : State) (kind w1 l d0 d1 count : Nat) : (bookWrite s kind w1 l d0 d1 count).mem.retrain = s.mem.retrain := (bookWrite_reports s kind w1 l d0 d1 count).mem_retrain

theorem bookWrite_rd (s : State) (kind w1 l d0 d1 count : Nat) (f : Field) (i j : Nat) (h : f.key i j ∉ reportKeys) : rd (bookWrite s kind w1 l d0 d1 count) f i j = rd s f i j :=
  (bookWrite_reports s kind w1 l d0 d1 count).rd f i j h

@[simp] theorem bookWrite_rdE (s : State) (kind w1 l d0 d1 count : Nat) (f : Field) (i j : Nat) : rdE (bookWrite s kind w1 l d0 d1 count) f i j = rdE s f i j :=
  (bookWrite_reports s kind w1 l d0 d1 count).rdE f i j

/-! eccRead -/

@[simp] theorem eccRead_eff (s : State) (k a : Nat) : (eccRead s k a).1.eff = s.eff := (eccRead_reports s k a).eff
@[simp] theorem eccRead_time (s : State) (k a : Nat) : (eccRead s k a).1.time = s.time := (eccRead_reports s k a).time
@[simp] theorem eccRead_lanes (s : State) (k a : Nat) : (eccRead s k a).1.lanes = s.lanes := (eccRead_reports s k a).lanes
@[simp] theorem eccRead_link (s : State) (k a : Nat) : (eccRead s k a).1.link = s.link := (eccRead_reports s k a).link
@[simp] theorem eccRead_path (s : State) (k a : Nat) : (eccRead s k a).1.path = s.path := (eccRead_reports s k a).path
@[simp] theorem eccRead_aside (s : State) (k a : Nat) : (eccRead s k a).1.aside = s.aside := (eccRead_reports s k a).aside
@[simp] theorem eccRead_ctl (s : State) (k a : Nat) : (eccRead s k a).1.ctl = s.ctl := (eccRead_reports s k a).ctl
@[simp] theorem eccRead_cal (s : State) (k a : Nat) : (eccRead s k a).1.cal = s.cal := (eccRead_reports s k a).cal
@[simp] theorem eccRead_faults (s : State) (k a : Nat) : (eccRead s k a).1.faults = s.faults := (eccRead_reports s k a).faults
@[simp] theorem eccRead_power (s : State) (k a : Nat) : (eccRead s k a).1.power = s.power := (eccRead_reports s k a).power
@[simp] theorem eccRead_test (s : State) (k a : Nat) : (eccRead s k a).1.test = s.test := (eccRead_reports s k a).test
@[simp] theorem eccRead_sec (s : State) (k a : Nat) : (eccRead s k a).1.sec = s.sec := (eccRead_reports s k a).sec
@[simp] theorem eccRead_freeCount (s : State) (k a : Nat) : (eccRead s k a).1.freeCount = s.freeCount := (eccRead_reports s k a).freeCount
@[simp] theorem eccRead_pending (s : State) (k a : Nat) : (eccRead s k a).1.pending = s.pending := (eccRead_reports s k a).pending
@[simp] theorem eccRead_obs_hiLatch (s : State) (k a : Nat) : (eccRead s k a).1.obs.hiLatch = s.obs.hiLatch := (eccRead_reports s k a).obs_hiLatch
@[simp] theorem eccRead_obs_banks (s : State) (k a : Nat) : (eccRead s k a).1.obs.banks = s.obs.banks := (eccRead_reports s k a).obs_banks
@[simp] theorem eccRead_obs_lastBank (s : State) (k a : Nat) : (eccRead s k a).1.obs.lastBank = s.obs.lastBank := (eccRead_reports s k a).obs_lastBank
@[simp] theorem eccRead_obs_seq (s : State) (k a : Nat) : (eccRead s k a).1.obs.seq = s.obs.seq := (eccRead_reports s k a).obs_seq
@[simp] theorem eccRead_obs_full (s : State) (k a : Nat) : (eccRead s k a).1.obs.full = s.obs.full := (eccRead_reports s k a).obs_full
@[simp] theorem eccRead_obs_thrFrac (s : State) (k a : Nat) : (eccRead s k a).1.obs.thrFrac = s.obs.thrFrac := (eccRead_reports s k a).obs_thrFrac
@[simp] theorem eccRead_obs_ber (s : State) (k a : Nat) : (eccRead s k a).1.obs.ber = s.obs.ber := (eccRead_reports s k a).obs_ber
@[simp] theorem eccRead_obs_buckets (s : State) (k a : Nat) : (eccRead s k a).1.obs.buckets = s.obs.buckets := (eccRead_reports s k a).obs_buckets
@[simp] theorem eccRead_obs_contexts (s : State) (k a : Nat) : (eccRead s k a).1.obs.contexts = s.obs.contexts := (eccRead_reports s k a).obs_contexts
@[simp] theorem eccRead_obs_replay (s : State) (k a : Nat) : (eccRead s k a).1.obs.replay = s.obs.replay := (eccRead_reports s k a).obs_replay
@[simp] theorem eccRead_obs_image (s : State) (k a : Nat) : (eccRead s k a).1.obs.image = s.obs.image := (eccRead_reports s k a).obs_image
@[simp] theorem eccRead_obs_imageCopying (s : State) (k a : Nat) : (eccRead s k a).1.obs.imageCopying = s.obs.imageCopying := (eccRead_reports s k a).obs_imageCopying
@[simp] theorem eccRead_obs_imageLocked (s : State) (k a : Nat) : (eccRead s k a).1.obs.imageLocked = s.obs.imageLocked := (eccRead_reports s k a).obs_imageLocked
@[simp] theorem eccRead_obs_flowFull (s : State) (k a : Nat) : (eccRead s k a).1.obs.flowFull = s.obs.flowFull := (eccRead_reports s k a).obs_flowFull
@[simp] theorem eccRead_obs_shifts (s : State) (k a : Nat) : (eccRead s k a).1.obs.shifts = s.obs.shifts := (eccRead_reports s k a).obs_shifts
@[simp] theorem eccRead_mgmt_inProgress (s : State) (k a : Nat) : (eccRead s k a).1.mgmt.inProgress = s.mgmt.inProgress := (eccRead_reports s k a).mgmt_inProgress
@[simp] theorem eccRead_mgmt_engineHeld (s : State) (k a : Nat) : (eccRead s k a).1.mgmt.engineHeld = s.mgmt.engineHeld := (eccRead_reports s k a).mgmt_engineHeld
@[simp] theorem eccRead_mgmt_restartCause (s : State) (k a : Nat) : (eccRead s k a).1.mgmt.restartCause = s.mgmt.restartCause := (eccRead_reports s k a).mgmt_restartCause
@[simp] theorem eccRead_mgmt_afterRestart (s : State) (k a : Nat) : (eccRead s k a).1.mgmt.afterRestart = s.mgmt.afterRestart := (eccRead_reports s k a).mgmt_afterRestart
@[simp] theorem eccRead_mgmt_layoutSpent (s : State) (k a : Nat) : (eccRead s k a).1.mgmt.layoutSpent = s.mgmt.layoutSpent := (eccRead_reports s k a).mgmt_layoutSpent
@[simp] theorem eccRead_mgmt_straps (s : State) (k a : Nat) : (eccRead s k a).1.mgmt.straps = s.mgmt.straps := (eccRead_reports s k a).mgmt_straps
@[simp] theorem eccRead_mgmt_i2cNext (s : State) (k a : Nat) : (eccRead s k a).1.mgmt.i2cNext = s.mgmt.i2cNext := (eccRead_reports s k a).mgmt_i2cNext
@[simp] theorem eccRead_mgmt_i2cOut (s : State) (k a : Nat) : (eccRead s k a).1.mgmt.i2cOut = s.mgmt.i2cOut := (eccRead_reports s k a).mgmt_i2cOut
@[simp] theorem eccRead_mgmt_i2cAcks (s : State) (k a : Nat) : (eccRead s k a).1.mgmt.i2cAcks = s.mgmt.i2cAcks := (eccRead_reports s k a).mgmt_i2cAcks
@[simp] theorem eccRead_mgmt_spiOut (s : State) (k a : Nat) : (eccRead s k a).1.mgmt.spiOut = s.mgmt.spiOut := (eccRead_reports s k a).mgmt_spiOut
@[simp] theorem eccRead_mgmt_readOut (s : State) (k a : Nat) : (eccRead s k a).1.mgmt.readOut = s.mgmt.readOut := (eccRead_reports s k a).mgmt_readOut
@[simp] theorem eccRead_mgmt_coreFault (s : State) (k a : Nat) : (eccRead s k a).1.mgmt.coreFault = s.mgmt.coreFault := (eccRead_reports s k a).mgmt_coreFault
@[simp] theorem eccRead_mgmt_cmisOut (s : State) (k a : Nat) : (eccRead s k a).1.mgmt.cmisOut = s.mgmt.cmisOut := (eccRead_reports s k a).mgmt_cmisOut
@[simp] theorem eccRead_mgmt_cmisAcks (s : State) (k a : Nat) : (eccRead s k a).1.mgmt.cmisAcks = s.mgmt.cmisAcks := (eccRead_reports s k a).mgmt_cmisAcks
@[simp] theorem eccRead_mgmt_spiCrcErr (s : State) (k a : Nat) : (eccRead s k a).1.mgmt.spiCrcErr = s.mgmt.spiCrcErr := (eccRead_reports s k a).mgmt_spiCrcErr
@[simp] theorem eccRead_mgmt_spiBusErr (s : State) (k a : Nat) : (eccRead s k a).1.mgmt.spiBusErr = s.mgmt.spiBusErr := (eccRead_reports s k a).mgmt_spiBusErr
@[simp] theorem eccRead_mgmt_cmisPage (s : State) (k a : Nat) : (eccRead s k a).1.mgmt.cmisPage = s.mgmt.cmisPage := (eccRead_reports s k a).mgmt_cmisPage
@[simp] theorem eccRead_mgmt_cmisBank (s : State) (k a : Nat) : (eccRead s k a).1.mgmt.cmisBank = s.mgmt.cmisBank := (eccRead_reports s k a).mgmt_cmisBank
@[simp] theorem eccRead_mgmt_cmisLog (s : State) (k a : Nat) : (eccRead s k a).1.mgmt.cmisLog = s.mgmt.cmisLog := (eccRead_reports s k a).mgmt_cmisLog
@[simp] theorem eccRead_mgmt_cmisNext (s : State) (k a : Nat) : (eccRead s k a).1.mgmt.cmisNext = s.mgmt.cmisNext := (eccRead_reports s k a).mgmt_cmisNext
@[simp] theorem eccRead_mgmt_cmisWritable (s : State) (k a : Nat) : (eccRead s k a).1.mgmt.cmisWritable = s.mgmt.cmisWritable := (eccRead_reports s k a).mgmt_cmisWritable
@[simp] theorem eccRead_mgmt_busErrRate (s : State) (k a : Nat) : (eccRead s k a).1.mgmt.busErrRate = s.mgmt.busErrRate := (eccRead_reports s k a).mgmt_busErrRate
@[simp] theorem eccRead_mgmt_lockedRate (s : State) (k a : Nat) : (eccRead s k a).1.mgmt.lockedRate = s.mgmt.lockedRate := (eccRead_reports s k a).mgmt_lockedRate
@[simp] theorem eccRead_mgmt_tmrLast (s : State) (k a : Nat) : (eccRead s k a).1.mgmt.tmrLast = s.mgmt.tmrLast := (eccRead_reports s k a).mgmt_tmrLast
@[simp] theorem eccRead_mgmt_tmrSince (s : State) (k a : Nat) : (eccRead s k a).1.mgmt.tmrSince = s.mgmt.tmrSince := (eccRead_reports s k a).mgmt_tmrSince
@[simp] theorem eccRead_mem_parity (s : State) (k a : Nat) : (eccRead s k a).1.mem.parity = s.mem.parity := (eccRead_reports s k a).mem_parity
@[simp] theorem eccRead_mem_candidates (s : State) (k a : Nat) : (eccRead s k a).1.mem.candidates = s.mem.candidates := (eccRead_reports s k a).mem_candidates
@[simp] theorem eccRead_mem_retrain (s : State) (k a : Nat) : (eccRead s k a).1.mem.retrain = s.mem.retrain := (eccRead_reports s k a).mem_retrain

theorem eccRead_rd (s : State) (k a : Nat) (f : Field) (i j : Nat) (h : f.key i j ∉ reportKeys) : rd (eccRead s k a).1 f i j = rd s f i j :=
  (eccRead_reports s k a).rd f i j h

@[simp] theorem eccRead_rdE (s : State) (k a : Nat) (f : Field) (i j : Nat) : rdE (eccRead s k a).1 f i j = rdE s f i j :=
  (eccRead_reports s k a).rdE f i j

/-! eccReadAll -/

@[simp] theorem eccReadAll_eff (s : State) (k : Nat) (as : List Nat) : (eccReadAll s k as).1.eff = s.eff := (eccThrough_reports k as s).eff
@[simp] theorem eccReadAll_time (s : State) (k : Nat) (as : List Nat) : (eccReadAll s k as).1.time = s.time := (eccThrough_reports k as s).time
@[simp] theorem eccReadAll_lanes (s : State) (k : Nat) (as : List Nat) : (eccReadAll s k as).1.lanes = s.lanes := (eccThrough_reports k as s).lanes
@[simp] theorem eccReadAll_link (s : State) (k : Nat) (as : List Nat) : (eccReadAll s k as).1.link = s.link := (eccThrough_reports k as s).link
@[simp] theorem eccReadAll_path (s : State) (k : Nat) (as : List Nat) : (eccReadAll s k as).1.path = s.path := (eccThrough_reports k as s).path
@[simp] theorem eccReadAll_aside (s : State) (k : Nat) (as : List Nat) : (eccReadAll s k as).1.aside = s.aside := (eccThrough_reports k as s).aside
@[simp] theorem eccReadAll_ctl (s : State) (k : Nat) (as : List Nat) : (eccReadAll s k as).1.ctl = s.ctl := (eccThrough_reports k as s).ctl
@[simp] theorem eccReadAll_cal (s : State) (k : Nat) (as : List Nat) : (eccReadAll s k as).1.cal = s.cal := (eccThrough_reports k as s).cal
@[simp] theorem eccReadAll_faults (s : State) (k : Nat) (as : List Nat) : (eccReadAll s k as).1.faults = s.faults := (eccThrough_reports k as s).faults
@[simp] theorem eccReadAll_power (s : State) (k : Nat) (as : List Nat) : (eccReadAll s k as).1.power = s.power := (eccThrough_reports k as s).power
@[simp] theorem eccReadAll_test (s : State) (k : Nat) (as : List Nat) : (eccReadAll s k as).1.test = s.test := (eccThrough_reports k as s).test
@[simp] theorem eccReadAll_sec (s : State) (k : Nat) (as : List Nat) : (eccReadAll s k as).1.sec = s.sec := (eccThrough_reports k as s).sec
@[simp] theorem eccReadAll_freeCount (s : State) (k : Nat) (as : List Nat) : (eccReadAll s k as).1.freeCount = s.freeCount := (eccThrough_reports k as s).freeCount
@[simp] theorem eccReadAll_pending (s : State) (k : Nat) (as : List Nat) : (eccReadAll s k as).1.pending = s.pending := (eccThrough_reports k as s).pending
@[simp] theorem eccReadAll_obs_hiLatch (s : State) (k : Nat) (as : List Nat) : (eccReadAll s k as).1.obs.hiLatch = s.obs.hiLatch := (eccThrough_reports k as s).obs_hiLatch
@[simp] theorem eccReadAll_obs_banks (s : State) (k : Nat) (as : List Nat) : (eccReadAll s k as).1.obs.banks = s.obs.banks := (eccThrough_reports k as s).obs_banks
@[simp] theorem eccReadAll_obs_lastBank (s : State) (k : Nat) (as : List Nat) : (eccReadAll s k as).1.obs.lastBank = s.obs.lastBank := (eccThrough_reports k as s).obs_lastBank
@[simp] theorem eccReadAll_obs_seq (s : State) (k : Nat) (as : List Nat) : (eccReadAll s k as).1.obs.seq = s.obs.seq := (eccThrough_reports k as s).obs_seq
@[simp] theorem eccReadAll_obs_full (s : State) (k : Nat) (as : List Nat) : (eccReadAll s k as).1.obs.full = s.obs.full := (eccThrough_reports k as s).obs_full
@[simp] theorem eccReadAll_obs_thrFrac (s : State) (k : Nat) (as : List Nat) : (eccReadAll s k as).1.obs.thrFrac = s.obs.thrFrac := (eccThrough_reports k as s).obs_thrFrac
@[simp] theorem eccReadAll_obs_ber (s : State) (k : Nat) (as : List Nat) : (eccReadAll s k as).1.obs.ber = s.obs.ber := (eccThrough_reports k as s).obs_ber
@[simp] theorem eccReadAll_obs_buckets (s : State) (k : Nat) (as : List Nat) : (eccReadAll s k as).1.obs.buckets = s.obs.buckets := (eccThrough_reports k as s).obs_buckets
@[simp] theorem eccReadAll_obs_contexts (s : State) (k : Nat) (as : List Nat) : (eccReadAll s k as).1.obs.contexts = s.obs.contexts := (eccThrough_reports k as s).obs_contexts
@[simp] theorem eccReadAll_obs_replay (s : State) (k : Nat) (as : List Nat) : (eccReadAll s k as).1.obs.replay = s.obs.replay := (eccThrough_reports k as s).obs_replay
@[simp] theorem eccReadAll_obs_image (s : State) (k : Nat) (as : List Nat) : (eccReadAll s k as).1.obs.image = s.obs.image := (eccThrough_reports k as s).obs_image
@[simp] theorem eccReadAll_obs_imageCopying (s : State) (k : Nat) (as : List Nat) : (eccReadAll s k as).1.obs.imageCopying = s.obs.imageCopying := (eccThrough_reports k as s).obs_imageCopying
@[simp] theorem eccReadAll_obs_imageLocked (s : State) (k : Nat) (as : List Nat) : (eccReadAll s k as).1.obs.imageLocked = s.obs.imageLocked := (eccThrough_reports k as s).obs_imageLocked
@[simp] theorem eccReadAll_obs_flowFull (s : State) (k : Nat) (as : List Nat) : (eccReadAll s k as).1.obs.flowFull = s.obs.flowFull := (eccThrough_reports k as s).obs_flowFull
@[simp] theorem eccReadAll_obs_shifts (s : State) (k : Nat) (as : List Nat) : (eccReadAll s k as).1.obs.shifts = s.obs.shifts := (eccThrough_reports k as s).obs_shifts
@[simp] theorem eccReadAll_mgmt_inProgress (s : State) (k : Nat) (as : List Nat) : (eccReadAll s k as).1.mgmt.inProgress = s.mgmt.inProgress := (eccThrough_reports k as s).mgmt_inProgress
@[simp] theorem eccReadAll_mgmt_engineHeld (s : State) (k : Nat) (as : List Nat) : (eccReadAll s k as).1.mgmt.engineHeld = s.mgmt.engineHeld := (eccThrough_reports k as s).mgmt_engineHeld
@[simp] theorem eccReadAll_mgmt_restartCause (s : State) (k : Nat) (as : List Nat) : (eccReadAll s k as).1.mgmt.restartCause = s.mgmt.restartCause := (eccThrough_reports k as s).mgmt_restartCause
@[simp] theorem eccReadAll_mgmt_afterRestart (s : State) (k : Nat) (as : List Nat) : (eccReadAll s k as).1.mgmt.afterRestart = s.mgmt.afterRestart := (eccThrough_reports k as s).mgmt_afterRestart
@[simp] theorem eccReadAll_mgmt_layoutSpent (s : State) (k : Nat) (as : List Nat) : (eccReadAll s k as).1.mgmt.layoutSpent = s.mgmt.layoutSpent := (eccThrough_reports k as s).mgmt_layoutSpent
@[simp] theorem eccReadAll_mgmt_straps (s : State) (k : Nat) (as : List Nat) : (eccReadAll s k as).1.mgmt.straps = s.mgmt.straps := (eccThrough_reports k as s).mgmt_straps
@[simp] theorem eccReadAll_mgmt_i2cNext (s : State) (k : Nat) (as : List Nat) : (eccReadAll s k as).1.mgmt.i2cNext = s.mgmt.i2cNext := (eccThrough_reports k as s).mgmt_i2cNext
@[simp] theorem eccReadAll_mgmt_i2cOut (s : State) (k : Nat) (as : List Nat) : (eccReadAll s k as).1.mgmt.i2cOut = s.mgmt.i2cOut := (eccThrough_reports k as s).mgmt_i2cOut
@[simp] theorem eccReadAll_mgmt_i2cAcks (s : State) (k : Nat) (as : List Nat) : (eccReadAll s k as).1.mgmt.i2cAcks = s.mgmt.i2cAcks := (eccThrough_reports k as s).mgmt_i2cAcks
@[simp] theorem eccReadAll_mgmt_spiOut (s : State) (k : Nat) (as : List Nat) : (eccReadAll s k as).1.mgmt.spiOut = s.mgmt.spiOut := (eccThrough_reports k as s).mgmt_spiOut
@[simp] theorem eccReadAll_mgmt_readOut (s : State) (k : Nat) (as : List Nat) : (eccReadAll s k as).1.mgmt.readOut = s.mgmt.readOut := (eccThrough_reports k as s).mgmt_readOut
@[simp] theorem eccReadAll_mgmt_coreFault (s : State) (k : Nat) (as : List Nat) : (eccReadAll s k as).1.mgmt.coreFault = s.mgmt.coreFault := (eccThrough_reports k as s).mgmt_coreFault
@[simp] theorem eccReadAll_mgmt_cmisOut (s : State) (k : Nat) (as : List Nat) : (eccReadAll s k as).1.mgmt.cmisOut = s.mgmt.cmisOut := (eccThrough_reports k as s).mgmt_cmisOut
@[simp] theorem eccReadAll_mgmt_cmisAcks (s : State) (k : Nat) (as : List Nat) : (eccReadAll s k as).1.mgmt.cmisAcks = s.mgmt.cmisAcks := (eccThrough_reports k as s).mgmt_cmisAcks
@[simp] theorem eccReadAll_mgmt_spiCrcErr (s : State) (k : Nat) (as : List Nat) : (eccReadAll s k as).1.mgmt.spiCrcErr = s.mgmt.spiCrcErr := (eccThrough_reports k as s).mgmt_spiCrcErr
@[simp] theorem eccReadAll_mgmt_spiBusErr (s : State) (k : Nat) (as : List Nat) : (eccReadAll s k as).1.mgmt.spiBusErr = s.mgmt.spiBusErr := (eccThrough_reports k as s).mgmt_spiBusErr
@[simp] theorem eccReadAll_mgmt_cmisPage (s : State) (k : Nat) (as : List Nat) : (eccReadAll s k as).1.mgmt.cmisPage = s.mgmt.cmisPage := (eccThrough_reports k as s).mgmt_cmisPage
@[simp] theorem eccReadAll_mgmt_cmisBank (s : State) (k : Nat) (as : List Nat) : (eccReadAll s k as).1.mgmt.cmisBank = s.mgmt.cmisBank := (eccThrough_reports k as s).mgmt_cmisBank
@[simp] theorem eccReadAll_mgmt_cmisLog (s : State) (k : Nat) (as : List Nat) : (eccReadAll s k as).1.mgmt.cmisLog = s.mgmt.cmisLog := (eccThrough_reports k as s).mgmt_cmisLog
@[simp] theorem eccReadAll_mgmt_cmisNext (s : State) (k : Nat) (as : List Nat) : (eccReadAll s k as).1.mgmt.cmisNext = s.mgmt.cmisNext := (eccThrough_reports k as s).mgmt_cmisNext
@[simp] theorem eccReadAll_mgmt_cmisWritable (s : State) (k : Nat) (as : List Nat) : (eccReadAll s k as).1.mgmt.cmisWritable = s.mgmt.cmisWritable := (eccThrough_reports k as s).mgmt_cmisWritable
@[simp] theorem eccReadAll_mgmt_busErrRate (s : State) (k : Nat) (as : List Nat) : (eccReadAll s k as).1.mgmt.busErrRate = s.mgmt.busErrRate := (eccThrough_reports k as s).mgmt_busErrRate
@[simp] theorem eccReadAll_mgmt_lockedRate (s : State) (k : Nat) (as : List Nat) : (eccReadAll s k as).1.mgmt.lockedRate = s.mgmt.lockedRate := (eccThrough_reports k as s).mgmt_lockedRate
@[simp] theorem eccReadAll_mgmt_tmrLast (s : State) (k : Nat) (as : List Nat) : (eccReadAll s k as).1.mgmt.tmrLast = s.mgmt.tmrLast := (eccThrough_reports k as s).mgmt_tmrLast
@[simp] theorem eccReadAll_mgmt_tmrSince (s : State) (k : Nat) (as : List Nat) : (eccReadAll s k as).1.mgmt.tmrSince = s.mgmt.tmrSince := (eccThrough_reports k as s).mgmt_tmrSince
@[simp] theorem eccReadAll_mem_parity (s : State) (k : Nat) (as : List Nat) : (eccReadAll s k as).1.mem.parity = s.mem.parity := (eccThrough_reports k as s).mem_parity
@[simp] theorem eccReadAll_mem_candidates (s : State) (k : Nat) (as : List Nat) : (eccReadAll s k as).1.mem.candidates = s.mem.candidates := (eccThrough_reports k as s).mem_candidates
@[simp] theorem eccReadAll_mem_retrain (s : State) (k : Nat) (as : List Nat) : (eccReadAll s k as).1.mem.retrain = s.mem.retrain := (eccThrough_reports k as s).mem_retrain

theorem eccReadAll_rd (s : State) (k : Nat) (as : List Nat) (f : Field) (i j : Nat) (h : f.key i j ∉ reportKeys) : rd (eccReadAll s k as).1 f i j = rd s f i j :=
  (eccThrough_reports k as s).rd f i j h

@[simp] theorem eccReadAll_rdE (s : State) (k : Nat) (as : List Nat) (f : Field) (i j : Nat) : rdE (eccReadAll s k as).1 f i j = rdE s f i j :=
  (eccThrough_reports k as s).rdE f i j

/-! fetchWords -/

@[simp] theorem fetchWords_eff (s : State) (a n : Nat) : (fetchWords s a n).1.eff = s.eff := (fetchWords_reports s a n).eff
@[simp] theorem fetchWords_time (s : State) (a n : Nat) : (fetchWords s a n).1.time = s.time := (fetchWords_reports s a n).time
@[simp] theorem fetchWords_lanes (s : State) (a n : Nat) : (fetchWords s a n).1.lanes = s.lanes := (fetchWords_reports s a n).lanes
@[simp] theorem fetchWords_link (s : State) (a n : Nat) : (fetchWords s a n).1.link = s.link := (fetchWords_reports s a n).link
@[simp] theorem fetchWords_path (s : State) (a n : Nat) : (fetchWords s a n).1.path = s.path := (fetchWords_reports s a n).path
@[simp] theorem fetchWords_aside (s : State) (a n : Nat) : (fetchWords s a n).1.aside = s.aside := (fetchWords_reports s a n).aside
@[simp] theorem fetchWords_ctl (s : State) (a n : Nat) : (fetchWords s a n).1.ctl = s.ctl := (fetchWords_reports s a n).ctl
@[simp] theorem fetchWords_cal (s : State) (a n : Nat) : (fetchWords s a n).1.cal = s.cal := (fetchWords_reports s a n).cal
@[simp] theorem fetchWords_faults (s : State) (a n : Nat) : (fetchWords s a n).1.faults = s.faults := (fetchWords_reports s a n).faults
@[simp] theorem fetchWords_power (s : State) (a n : Nat) : (fetchWords s a n).1.power = s.power := (fetchWords_reports s a n).power
@[simp] theorem fetchWords_test (s : State) (a n : Nat) : (fetchWords s a n).1.test = s.test := (fetchWords_reports s a n).test
@[simp] theorem fetchWords_sec (s : State) (a n : Nat) : (fetchWords s a n).1.sec = s.sec := (fetchWords_reports s a n).sec
@[simp] theorem fetchWords_freeCount (s : State) (a n : Nat) : (fetchWords s a n).1.freeCount = s.freeCount := (fetchWords_reports s a n).freeCount
@[simp] theorem fetchWords_pending (s : State) (a n : Nat) : (fetchWords s a n).1.pending = s.pending := (fetchWords_reports s a n).pending
@[simp] theorem fetchWords_obs_hiLatch (s : State) (a n : Nat) : (fetchWords s a n).1.obs.hiLatch = s.obs.hiLatch := (fetchWords_reports s a n).obs_hiLatch
@[simp] theorem fetchWords_obs_banks (s : State) (a n : Nat) : (fetchWords s a n).1.obs.banks = s.obs.banks := (fetchWords_reports s a n).obs_banks
@[simp] theorem fetchWords_obs_lastBank (s : State) (a n : Nat) : (fetchWords s a n).1.obs.lastBank = s.obs.lastBank := (fetchWords_reports s a n).obs_lastBank
@[simp] theorem fetchWords_obs_seq (s : State) (a n : Nat) : (fetchWords s a n).1.obs.seq = s.obs.seq := (fetchWords_reports s a n).obs_seq
@[simp] theorem fetchWords_obs_full (s : State) (a n : Nat) : (fetchWords s a n).1.obs.full = s.obs.full := (fetchWords_reports s a n).obs_full
@[simp] theorem fetchWords_obs_thrFrac (s : State) (a n : Nat) : (fetchWords s a n).1.obs.thrFrac = s.obs.thrFrac := (fetchWords_reports s a n).obs_thrFrac
@[simp] theorem fetchWords_obs_ber (s : State) (a n : Nat) : (fetchWords s a n).1.obs.ber = s.obs.ber := (fetchWords_reports s a n).obs_ber
@[simp] theorem fetchWords_obs_buckets (s : State) (a n : Nat) : (fetchWords s a n).1.obs.buckets = s.obs.buckets := (fetchWords_reports s a n).obs_buckets
@[simp] theorem fetchWords_obs_contexts (s : State) (a n : Nat) : (fetchWords s a n).1.obs.contexts = s.obs.contexts := (fetchWords_reports s a n).obs_contexts
@[simp] theorem fetchWords_obs_replay (s : State) (a n : Nat) : (fetchWords s a n).1.obs.replay = s.obs.replay := (fetchWords_reports s a n).obs_replay
@[simp] theorem fetchWords_obs_image (s : State) (a n : Nat) : (fetchWords s a n).1.obs.image = s.obs.image := (fetchWords_reports s a n).obs_image
@[simp] theorem fetchWords_obs_imageCopying (s : State) (a n : Nat) : (fetchWords s a n).1.obs.imageCopying = s.obs.imageCopying := (fetchWords_reports s a n).obs_imageCopying
@[simp] theorem fetchWords_obs_imageLocked (s : State) (a n : Nat) : (fetchWords s a n).1.obs.imageLocked = s.obs.imageLocked := (fetchWords_reports s a n).obs_imageLocked
@[simp] theorem fetchWords_obs_flowFull (s : State) (a n : Nat) : (fetchWords s a n).1.obs.flowFull = s.obs.flowFull := (fetchWords_reports s a n).obs_flowFull
@[simp] theorem fetchWords_obs_shifts (s : State) (a n : Nat) : (fetchWords s a n).1.obs.shifts = s.obs.shifts := (fetchWords_reports s a n).obs_shifts
@[simp] theorem fetchWords_mgmt_inProgress (s : State) (a n : Nat) : (fetchWords s a n).1.mgmt.inProgress = s.mgmt.inProgress := (fetchWords_reports s a n).mgmt_inProgress
@[simp] theorem fetchWords_mgmt_engineHeld (s : State) (a n : Nat) : (fetchWords s a n).1.mgmt.engineHeld = s.mgmt.engineHeld := (fetchWords_reports s a n).mgmt_engineHeld
@[simp] theorem fetchWords_mgmt_restartCause (s : State) (a n : Nat) : (fetchWords s a n).1.mgmt.restartCause = s.mgmt.restartCause := (fetchWords_reports s a n).mgmt_restartCause
@[simp] theorem fetchWords_mgmt_afterRestart (s : State) (a n : Nat) : (fetchWords s a n).1.mgmt.afterRestart = s.mgmt.afterRestart := (fetchWords_reports s a n).mgmt_afterRestart
@[simp] theorem fetchWords_mgmt_layoutSpent (s : State) (a n : Nat) : (fetchWords s a n).1.mgmt.layoutSpent = s.mgmt.layoutSpent := (fetchWords_reports s a n).mgmt_layoutSpent
@[simp] theorem fetchWords_mgmt_straps (s : State) (a n : Nat) : (fetchWords s a n).1.mgmt.straps = s.mgmt.straps := (fetchWords_reports s a n).mgmt_straps
@[simp] theorem fetchWords_mgmt_i2cNext (s : State) (a n : Nat) : (fetchWords s a n).1.mgmt.i2cNext = s.mgmt.i2cNext := (fetchWords_reports s a n).mgmt_i2cNext
@[simp] theorem fetchWords_mgmt_i2cOut (s : State) (a n : Nat) : (fetchWords s a n).1.mgmt.i2cOut = s.mgmt.i2cOut := (fetchWords_reports s a n).mgmt_i2cOut
@[simp] theorem fetchWords_mgmt_i2cAcks (s : State) (a n : Nat) : (fetchWords s a n).1.mgmt.i2cAcks = s.mgmt.i2cAcks := (fetchWords_reports s a n).mgmt_i2cAcks
@[simp] theorem fetchWords_mgmt_spiOut (s : State) (a n : Nat) : (fetchWords s a n).1.mgmt.spiOut = s.mgmt.spiOut := (fetchWords_reports s a n).mgmt_spiOut
@[simp] theorem fetchWords_mgmt_readOut (s : State) (a n : Nat) : (fetchWords s a n).1.mgmt.readOut = s.mgmt.readOut := (fetchWords_reports s a n).mgmt_readOut
@[simp] theorem fetchWords_mgmt_coreFault (s : State) (a n : Nat) : (fetchWords s a n).1.mgmt.coreFault = s.mgmt.coreFault := (fetchWords_reports s a n).mgmt_coreFault
@[simp] theorem fetchWords_mgmt_cmisOut (s : State) (a n : Nat) : (fetchWords s a n).1.mgmt.cmisOut = s.mgmt.cmisOut := (fetchWords_reports s a n).mgmt_cmisOut
@[simp] theorem fetchWords_mgmt_cmisAcks (s : State) (a n : Nat) : (fetchWords s a n).1.mgmt.cmisAcks = s.mgmt.cmisAcks := (fetchWords_reports s a n).mgmt_cmisAcks
@[simp] theorem fetchWords_mgmt_spiCrcErr (s : State) (a n : Nat) : (fetchWords s a n).1.mgmt.spiCrcErr = s.mgmt.spiCrcErr := (fetchWords_reports s a n).mgmt_spiCrcErr
@[simp] theorem fetchWords_mgmt_spiBusErr (s : State) (a n : Nat) : (fetchWords s a n).1.mgmt.spiBusErr = s.mgmt.spiBusErr := (fetchWords_reports s a n).mgmt_spiBusErr
@[simp] theorem fetchWords_mgmt_cmisPage (s : State) (a n : Nat) : (fetchWords s a n).1.mgmt.cmisPage = s.mgmt.cmisPage := (fetchWords_reports s a n).mgmt_cmisPage
@[simp] theorem fetchWords_mgmt_cmisBank (s : State) (a n : Nat) : (fetchWords s a n).1.mgmt.cmisBank = s.mgmt.cmisBank := (fetchWords_reports s a n).mgmt_cmisBank
@[simp] theorem fetchWords_mgmt_cmisLog (s : State) (a n : Nat) : (fetchWords s a n).1.mgmt.cmisLog = s.mgmt.cmisLog := (fetchWords_reports s a n).mgmt_cmisLog
@[simp] theorem fetchWords_mgmt_cmisNext (s : State) (a n : Nat) : (fetchWords s a n).1.mgmt.cmisNext = s.mgmt.cmisNext := (fetchWords_reports s a n).mgmt_cmisNext
@[simp] theorem fetchWords_mgmt_cmisWritable (s : State) (a n : Nat) : (fetchWords s a n).1.mgmt.cmisWritable = s.mgmt.cmisWritable := (fetchWords_reports s a n).mgmt_cmisWritable
@[simp] theorem fetchWords_mgmt_busErrRate (s : State) (a n : Nat) : (fetchWords s a n).1.mgmt.busErrRate = s.mgmt.busErrRate := (fetchWords_reports s a n).mgmt_busErrRate
@[simp] theorem fetchWords_mgmt_lockedRate (s : State) (a n : Nat) : (fetchWords s a n).1.mgmt.lockedRate = s.mgmt.lockedRate := (fetchWords_reports s a n).mgmt_lockedRate
@[simp] theorem fetchWords_mgmt_tmrLast (s : State) (a n : Nat) : (fetchWords s a n).1.mgmt.tmrLast = s.mgmt.tmrLast := (fetchWords_reports s a n).mgmt_tmrLast
@[simp] theorem fetchWords_mgmt_tmrSince (s : State) (a n : Nat) : (fetchWords s a n).1.mgmt.tmrSince = s.mgmt.tmrSince := (fetchWords_reports s a n).mgmt_tmrSince
@[simp] theorem fetchWords_mem_parity (s : State) (a n : Nat) : (fetchWords s a n).1.mem.parity = s.mem.parity := (fetchWords_reports s a n).mem_parity
@[simp] theorem fetchWords_mem_candidates (s : State) (a n : Nat) : (fetchWords s a n).1.mem.candidates = s.mem.candidates := (fetchWords_reports s a n).mem_candidates
@[simp] theorem fetchWords_mem_retrain (s : State) (a n : Nat) : (fetchWords s a n).1.mem.retrain = s.mem.retrain := (fetchWords_reports s a n).mem_retrain

theorem fetchWords_rd (s : State) (a n : Nat) (f : Field) (i j : Nat) (h : f.key i j ∉ reportKeys) : rd (fetchWords s a n).1 f i j = rd s f i j :=
  (fetchWords_reports s a n).rd f i j h

@[simp] theorem fetchWords_rdE (s : State) (a n : Nat) (f : Field) (i j : Nat) : rdE (fetchWords s a n).1 f i j = rdE s f i j :=
  (fetchWords_reports s a n).rdE f i j

/-! complete -/

@[simp] theorem complete_eff (s : State) (tag : BitVec 16) (opcode : Nat) (notify : Bool) (code sub r0 r1 : Nat) : (complete s tag opcode notify code sub r0 r1).eff = s.eff := (complete_reports s tag opcode notify code sub r0 r1).eff
@[simp] theorem complete_time (s : State) (tag : BitVec 16) (opcode : Nat) (notify : Bool) (code sub r0 r1 : Nat) : (complete s tag opcode notify code sub r0 r1).time = s.time := (complete_reports s tag opcode notify code sub r0 r1).time
@[simp] theorem complete_lanes (s : State) (tag : BitVec 16) (opcode : Nat) (notify : Bool) (code sub r0 r1 : Nat) : (complete s tag opcode notify code sub r0 r1).lanes = s.lanes := (complete_reports s tag opcode notify code sub r0 r1).lanes
@[simp] theorem complete_link (s : State) (tag : BitVec 16) (opcode : Nat) (notify : Bool) (code sub r0 r1 : Nat) : (complete s tag opcode notify code sub r0 r1).link = s.link := (complete_reports s tag opcode notify code sub r0 r1).link
@[simp] theorem complete_path (s : State) (tag : BitVec 16) (opcode : Nat) (notify : Bool) (code sub r0 r1 : Nat) : (complete s tag opcode notify code sub r0 r1).path = s.path := (complete_reports s tag opcode notify code sub r0 r1).path
@[simp] theorem complete_aside (s : State) (tag : BitVec 16) (opcode : Nat) (notify : Bool) (code sub r0 r1 : Nat) : (complete s tag opcode notify code sub r0 r1).aside = s.aside := (complete_reports s tag opcode notify code sub r0 r1).aside
@[simp] theorem complete_ctl (s : State) (tag : BitVec 16) (opcode : Nat) (notify : Bool) (code sub r0 r1 : Nat) : (complete s tag opcode notify code sub r0 r1).ctl = s.ctl := (complete_reports s tag opcode notify code sub r0 r1).ctl
@[simp] theorem complete_cal (s : State) (tag : BitVec 16) (opcode : Nat) (notify : Bool) (code sub r0 r1 : Nat) : (complete s tag opcode notify code sub r0 r1).cal = s.cal := (complete_reports s tag opcode notify code sub r0 r1).cal
@[simp] theorem complete_faults (s : State) (tag : BitVec 16) (opcode : Nat) (notify : Bool) (code sub r0 r1 : Nat) : (complete s tag opcode notify code sub r0 r1).faults = s.faults := (complete_reports s tag opcode notify code sub r0 r1).faults
@[simp] theorem complete_power (s : State) (tag : BitVec 16) (opcode : Nat) (notify : Bool) (code sub r0 r1 : Nat) : (complete s tag opcode notify code sub r0 r1).power = s.power := (complete_reports s tag opcode notify code sub r0 r1).power
@[simp] theorem complete_test (s : State) (tag : BitVec 16) (opcode : Nat) (notify : Bool) (code sub r0 r1 : Nat) : (complete s tag opcode notify code sub r0 r1).test = s.test := (complete_reports s tag opcode notify code sub r0 r1).test
@[simp] theorem complete_sec (s : State) (tag : BitVec 16) (opcode : Nat) (notify : Bool) (code sub r0 r1 : Nat) : (complete s tag opcode notify code sub r0 r1).sec = s.sec := (complete_reports s tag opcode notify code sub r0 r1).sec
@[simp] theorem complete_freeCount (s : State) (tag : BitVec 16) (opcode : Nat) (notify : Bool) (code sub r0 r1 : Nat) : (complete s tag opcode notify code sub r0 r1).freeCount = s.freeCount := (complete_reports s tag opcode notify code sub r0 r1).freeCount
@[simp] theorem complete_pending (s : State) (tag : BitVec 16) (opcode : Nat) (notify : Bool) (code sub r0 r1 : Nat) : (complete s tag opcode notify code sub r0 r1).pending = s.pending := (complete_reports s tag opcode notify code sub r0 r1).pending
@[simp] theorem complete_obs_hiLatch (s : State) (tag : BitVec 16) (opcode : Nat) (notify : Bool) (code sub r0 r1 : Nat) : (complete s tag opcode notify code sub r0 r1).obs.hiLatch = s.obs.hiLatch := (complete_reports s tag opcode notify code sub r0 r1).obs_hiLatch
@[simp] theorem complete_obs_banks (s : State) (tag : BitVec 16) (opcode : Nat) (notify : Bool) (code sub r0 r1 : Nat) : (complete s tag opcode notify code sub r0 r1).obs.banks = s.obs.banks := (complete_reports s tag opcode notify code sub r0 r1).obs_banks
@[simp] theorem complete_obs_lastBank (s : State) (tag : BitVec 16) (opcode : Nat) (notify : Bool) (code sub r0 r1 : Nat) : (complete s tag opcode notify code sub r0 r1).obs.lastBank = s.obs.lastBank := (complete_reports s tag opcode notify code sub r0 r1).obs_lastBank
@[simp] theorem complete_obs_seq (s : State) (tag : BitVec 16) (opcode : Nat) (notify : Bool) (code sub r0 r1 : Nat) : (complete s tag opcode notify code sub r0 r1).obs.seq = s.obs.seq := (complete_reports s tag opcode notify code sub r0 r1).obs_seq
@[simp] theorem complete_obs_full (s : State) (tag : BitVec 16) (opcode : Nat) (notify : Bool) (code sub r0 r1 : Nat) : (complete s tag opcode notify code sub r0 r1).obs.full = s.obs.full := (complete_reports s tag opcode notify code sub r0 r1).obs_full
@[simp] theorem complete_obs_thrFrac (s : State) (tag : BitVec 16) (opcode : Nat) (notify : Bool) (code sub r0 r1 : Nat) : (complete s tag opcode notify code sub r0 r1).obs.thrFrac = s.obs.thrFrac := (complete_reports s tag opcode notify code sub r0 r1).obs_thrFrac
@[simp] theorem complete_obs_ber (s : State) (tag : BitVec 16) (opcode : Nat) (notify : Bool) (code sub r0 r1 : Nat) : (complete s tag opcode notify code sub r0 r1).obs.ber = s.obs.ber := (complete_reports s tag opcode notify code sub r0 r1).obs_ber
@[simp] theorem complete_obs_buckets (s : State) (tag : BitVec 16) (opcode : Nat) (notify : Bool) (code sub r0 r1 : Nat) : (complete s tag opcode notify code sub r0 r1).obs.buckets = s.obs.buckets := (complete_reports s tag opcode notify code sub r0 r1).obs_buckets
@[simp] theorem complete_obs_contexts (s : State) (tag : BitVec 16) (opcode : Nat) (notify : Bool) (code sub r0 r1 : Nat) : (complete s tag opcode notify code sub r0 r1).obs.contexts = s.obs.contexts := (complete_reports s tag opcode notify code sub r0 r1).obs_contexts
@[simp] theorem complete_obs_replay (s : State) (tag : BitVec 16) (opcode : Nat) (notify : Bool) (code sub r0 r1 : Nat) : (complete s tag opcode notify code sub r0 r1).obs.replay = s.obs.replay := (complete_reports s tag opcode notify code sub r0 r1).obs_replay
@[simp] theorem complete_obs_image (s : State) (tag : BitVec 16) (opcode : Nat) (notify : Bool) (code sub r0 r1 : Nat) : (complete s tag opcode notify code sub r0 r1).obs.image = s.obs.image := (complete_reports s tag opcode notify code sub r0 r1).obs_image
@[simp] theorem complete_obs_imageCopying (s : State) (tag : BitVec 16) (opcode : Nat) (notify : Bool) (code sub r0 r1 : Nat) : (complete s tag opcode notify code sub r0 r1).obs.imageCopying = s.obs.imageCopying := (complete_reports s tag opcode notify code sub r0 r1).obs_imageCopying
@[simp] theorem complete_obs_imageLocked (s : State) (tag : BitVec 16) (opcode : Nat) (notify : Bool) (code sub r0 r1 : Nat) : (complete s tag opcode notify code sub r0 r1).obs.imageLocked = s.obs.imageLocked := (complete_reports s tag opcode notify code sub r0 r1).obs_imageLocked
@[simp] theorem complete_obs_flowFull (s : State) (tag : BitVec 16) (opcode : Nat) (notify : Bool) (code sub r0 r1 : Nat) : (complete s tag opcode notify code sub r0 r1).obs.flowFull = s.obs.flowFull := (complete_reports s tag opcode notify code sub r0 r1).obs_flowFull
@[simp] theorem complete_obs_shifts (s : State) (tag : BitVec 16) (opcode : Nat) (notify : Bool) (code sub r0 r1 : Nat) : (complete s tag opcode notify code sub r0 r1).obs.shifts = s.obs.shifts := (complete_reports s tag opcode notify code sub r0 r1).obs_shifts
@[simp] theorem complete_mgmt_inProgress (s : State) (tag : BitVec 16) (opcode : Nat) (notify : Bool) (code sub r0 r1 : Nat) : (complete s tag opcode notify code sub r0 r1).mgmt.inProgress = s.mgmt.inProgress := (complete_reports s tag opcode notify code sub r0 r1).mgmt_inProgress
@[simp] theorem complete_mgmt_engineHeld (s : State) (tag : BitVec 16) (opcode : Nat) (notify : Bool) (code sub r0 r1 : Nat) : (complete s tag opcode notify code sub r0 r1).mgmt.engineHeld = s.mgmt.engineHeld := (complete_reports s tag opcode notify code sub r0 r1).mgmt_engineHeld
@[simp] theorem complete_mgmt_restartCause (s : State) (tag : BitVec 16) (opcode : Nat) (notify : Bool) (code sub r0 r1 : Nat) : (complete s tag opcode notify code sub r0 r1).mgmt.restartCause = s.mgmt.restartCause := (complete_reports s tag opcode notify code sub r0 r1).mgmt_restartCause
@[simp] theorem complete_mgmt_afterRestart (s : State) (tag : BitVec 16) (opcode : Nat) (notify : Bool) (code sub r0 r1 : Nat) : (complete s tag opcode notify code sub r0 r1).mgmt.afterRestart = s.mgmt.afterRestart := (complete_reports s tag opcode notify code sub r0 r1).mgmt_afterRestart
@[simp] theorem complete_mgmt_layoutSpent (s : State) (tag : BitVec 16) (opcode : Nat) (notify : Bool) (code sub r0 r1 : Nat) : (complete s tag opcode notify code sub r0 r1).mgmt.layoutSpent = s.mgmt.layoutSpent := (complete_reports s tag opcode notify code sub r0 r1).mgmt_layoutSpent
@[simp] theorem complete_mgmt_straps (s : State) (tag : BitVec 16) (opcode : Nat) (notify : Bool) (code sub r0 r1 : Nat) : (complete s tag opcode notify code sub r0 r1).mgmt.straps = s.mgmt.straps := (complete_reports s tag opcode notify code sub r0 r1).mgmt_straps
@[simp] theorem complete_mgmt_i2cNext (s : State) (tag : BitVec 16) (opcode : Nat) (notify : Bool) (code sub r0 r1 : Nat) : (complete s tag opcode notify code sub r0 r1).mgmt.i2cNext = s.mgmt.i2cNext := (complete_reports s tag opcode notify code sub r0 r1).mgmt_i2cNext
@[simp] theorem complete_mgmt_i2cOut (s : State) (tag : BitVec 16) (opcode : Nat) (notify : Bool) (code sub r0 r1 : Nat) : (complete s tag opcode notify code sub r0 r1).mgmt.i2cOut = s.mgmt.i2cOut := (complete_reports s tag opcode notify code sub r0 r1).mgmt_i2cOut
@[simp] theorem complete_mgmt_i2cAcks (s : State) (tag : BitVec 16) (opcode : Nat) (notify : Bool) (code sub r0 r1 : Nat) : (complete s tag opcode notify code sub r0 r1).mgmt.i2cAcks = s.mgmt.i2cAcks := (complete_reports s tag opcode notify code sub r0 r1).mgmt_i2cAcks
@[simp] theorem complete_mgmt_spiOut (s : State) (tag : BitVec 16) (opcode : Nat) (notify : Bool) (code sub r0 r1 : Nat) : (complete s tag opcode notify code sub r0 r1).mgmt.spiOut = s.mgmt.spiOut := (complete_reports s tag opcode notify code sub r0 r1).mgmt_spiOut
@[simp] theorem complete_mgmt_readOut (s : State) (tag : BitVec 16) (opcode : Nat) (notify : Bool) (code sub r0 r1 : Nat) : (complete s tag opcode notify code sub r0 r1).mgmt.readOut = s.mgmt.readOut := (complete_reports s tag opcode notify code sub r0 r1).mgmt_readOut
@[simp] theorem complete_mgmt_coreFault (s : State) (tag : BitVec 16) (opcode : Nat) (notify : Bool) (code sub r0 r1 : Nat) : (complete s tag opcode notify code sub r0 r1).mgmt.coreFault = s.mgmt.coreFault := (complete_reports s tag opcode notify code sub r0 r1).mgmt_coreFault
@[simp] theorem complete_mgmt_cmisOut (s : State) (tag : BitVec 16) (opcode : Nat) (notify : Bool) (code sub r0 r1 : Nat) : (complete s tag opcode notify code sub r0 r1).mgmt.cmisOut = s.mgmt.cmisOut := (complete_reports s tag opcode notify code sub r0 r1).mgmt_cmisOut
@[simp] theorem complete_mgmt_cmisAcks (s : State) (tag : BitVec 16) (opcode : Nat) (notify : Bool) (code sub r0 r1 : Nat) : (complete s tag opcode notify code sub r0 r1).mgmt.cmisAcks = s.mgmt.cmisAcks := (complete_reports s tag opcode notify code sub r0 r1).mgmt_cmisAcks
@[simp] theorem complete_mgmt_spiCrcErr (s : State) (tag : BitVec 16) (opcode : Nat) (notify : Bool) (code sub r0 r1 : Nat) : (complete s tag opcode notify code sub r0 r1).mgmt.spiCrcErr = s.mgmt.spiCrcErr := (complete_reports s tag opcode notify code sub r0 r1).mgmt_spiCrcErr
@[simp] theorem complete_mgmt_spiBusErr (s : State) (tag : BitVec 16) (opcode : Nat) (notify : Bool) (code sub r0 r1 : Nat) : (complete s tag opcode notify code sub r0 r1).mgmt.spiBusErr = s.mgmt.spiBusErr := (complete_reports s tag opcode notify code sub r0 r1).mgmt_spiBusErr
@[simp] theorem complete_mgmt_cmisPage (s : State) (tag : BitVec 16) (opcode : Nat) (notify : Bool) (code sub r0 r1 : Nat) : (complete s tag opcode notify code sub r0 r1).mgmt.cmisPage = s.mgmt.cmisPage := (complete_reports s tag opcode notify code sub r0 r1).mgmt_cmisPage
@[simp] theorem complete_mgmt_cmisBank (s : State) (tag : BitVec 16) (opcode : Nat) (notify : Bool) (code sub r0 r1 : Nat) : (complete s tag opcode notify code sub r0 r1).mgmt.cmisBank = s.mgmt.cmisBank := (complete_reports s tag opcode notify code sub r0 r1).mgmt_cmisBank
@[simp] theorem complete_mgmt_cmisLog (s : State) (tag : BitVec 16) (opcode : Nat) (notify : Bool) (code sub r0 r1 : Nat) : (complete s tag opcode notify code sub r0 r1).mgmt.cmisLog = s.mgmt.cmisLog := (complete_reports s tag opcode notify code sub r0 r1).mgmt_cmisLog
@[simp] theorem complete_mgmt_cmisNext (s : State) (tag : BitVec 16) (opcode : Nat) (notify : Bool) (code sub r0 r1 : Nat) : (complete s tag opcode notify code sub r0 r1).mgmt.cmisNext = s.mgmt.cmisNext := (complete_reports s tag opcode notify code sub r0 r1).mgmt_cmisNext
@[simp] theorem complete_mgmt_cmisWritable (s : State) (tag : BitVec 16) (opcode : Nat) (notify : Bool) (code sub r0 r1 : Nat) : (complete s tag opcode notify code sub r0 r1).mgmt.cmisWritable = s.mgmt.cmisWritable := (complete_reports s tag opcode notify code sub r0 r1).mgmt_cmisWritable
@[simp] theorem complete_mgmt_busErrRate (s : State) (tag : BitVec 16) (opcode : Nat) (notify : Bool) (code sub r0 r1 : Nat) : (complete s tag opcode notify code sub r0 r1).mgmt.busErrRate = s.mgmt.busErrRate := (complete_reports s tag opcode notify code sub r0 r1).mgmt_busErrRate
@[simp] theorem complete_mgmt_lockedRate (s : State) (tag : BitVec 16) (opcode : Nat) (notify : Bool) (code sub r0 r1 : Nat) : (complete s tag opcode notify code sub r0 r1).mgmt.lockedRate = s.mgmt.lockedRate := (complete_reports s tag opcode notify code sub r0 r1).mgmt_lockedRate
@[simp] theorem complete_mgmt_tmrLast (s : State) (tag : BitVec 16) (opcode : Nat) (notify : Bool) (code sub r0 r1 : Nat) : (complete s tag opcode notify code sub r0 r1).mgmt.tmrLast = s.mgmt.tmrLast := (complete_reports s tag opcode notify code sub r0 r1).mgmt_tmrLast
@[simp] theorem complete_mgmt_tmrSince (s : State) (tag : BitVec 16) (opcode : Nat) (notify : Bool) (code sub r0 r1 : Nat) : (complete s tag opcode notify code sub r0 r1).mgmt.tmrSince = s.mgmt.tmrSince := (complete_reports s tag opcode notify code sub r0 r1).mgmt_tmrSince
@[simp] theorem complete_mem_parity (s : State) (tag : BitVec 16) (opcode : Nat) (notify : Bool) (code sub r0 r1 : Nat) : (complete s tag opcode notify code sub r0 r1).mem.parity = s.mem.parity := (complete_reports s tag opcode notify code sub r0 r1).mem_parity
@[simp] theorem complete_mem_candidates (s : State) (tag : BitVec 16) (opcode : Nat) (notify : Bool) (code sub r0 r1 : Nat) : (complete s tag opcode notify code sub r0 r1).mem.candidates = s.mem.candidates := (complete_reports s tag opcode notify code sub r0 r1).mem_candidates
@[simp] theorem complete_mem_retrain (s : State) (tag : BitVec 16) (opcode : Nat) (notify : Bool) (code sub r0 r1 : Nat) : (complete s tag opcode notify code sub r0 r1).mem.retrain = s.mem.retrain := (complete_reports s tag opcode notify code sub r0 r1).mem_retrain

theorem complete_rd (s : State) (tag : BitVec 16) (opcode : Nat) (notify : Bool) (code sub r0 r1 : Nat) (f : Field) (i j : Nat) (h : f.key i j ∉ reportKeys) : rd (complete s tag opcode notify code sub r0 r1) f i j = rd s f i j :=
  (complete_reports s tag opcode notify code sub r0 r1).rd f i j h

@[simp] theorem complete_rdE (s : State) (tag : BitVec 16) (opcode : Nat) (notify : Bool) (code sub r0 r1 : Nat) (f : Field) (i j : Nat) : rdE (complete s tag opcode notify code sub r0 r1) f i j = rdE s f i j :=
  (complete_reports s tag opcode notify code sub r0 r1).rdE f i j

/-! takenState -/

@[simp] theorem takenState_eff (opcode : Nat) (c : Cmd) (s : State) : (takenState opcode c s).eff = s.eff := (taken_reports opcode c s).eff
@[simp] theorem takenState_time (opcode : Nat) (c : Cmd) (s : State) : (takenState opcode c s).time = s.time := (taken_reports opcode c s).time
@[simp] theorem takenState_lanes (opcode : Nat) (c : Cmd) (s : State) : (takenState opcode c s).lanes = s.lanes := (taken_reports opcode c s).lanes
@[simp] theorem takenState_link (opcode : Nat) (c : Cmd) (s : State) : (takenState opcode c s).link = s.link := (taken_reports opcode c s).link
@[simp] theorem takenState_path (opcode : Nat) (c : Cmd) (s : State) : (takenState opcode c s).path = s.path := (taken_reports opcode c s).path
@[simp] theorem takenState_aside (opcode : Nat) (c : Cmd) (s : State) : (takenState opcode c s).aside = s.aside := (taken_reports opcode c s).aside
@[simp] theorem takenState_ctl (opcode : Nat) (c : Cmd) (s : State) : (takenState opcode c s).ctl = s.ctl := (taken_reports opcode c s).ctl
@[simp] theorem takenState_cal (opcode : Nat) (c : Cmd) (s : State) : (takenState opcode c s).cal = s.cal := (taken_reports opcode c s).cal
@[simp] theorem takenState_faults (opcode : Nat) (c : Cmd) (s : State) : (takenState opcode c s).faults = s.faults := (taken_reports opcode c s).faults
@[simp] theorem takenState_power (opcode : Nat) (c : Cmd) (s : State) : (takenState opcode c s).power = s.power := (taken_reports opcode c s).power
@[simp] theorem takenState_test (opcode : Nat) (c : Cmd) (s : State) : (takenState opcode c s).test = s.test := (taken_reports opcode c s).test
@[simp] theorem takenState_sec (opcode : Nat) (c : Cmd) (s : State) : (takenState opcode c s).sec = s.sec := (taken_reports opcode c s).sec
@[simp] theorem takenState_freeCount (opcode : Nat) (c : Cmd) (s : State) : (takenState opcode c s).freeCount = s.freeCount := (taken_reports opcode c s).freeCount
@[simp] theorem takenState_pending (opcode : Nat) (c : Cmd) (s : State) : (takenState opcode c s).pending = s.pending := (taken_reports opcode c s).pending
@[simp] theorem takenState_obs_hiLatch (opcode : Nat) (c : Cmd) (s : State) : (takenState opcode c s).obs.hiLatch = s.obs.hiLatch := (taken_reports opcode c s).obs_hiLatch
@[simp] theorem takenState_obs_banks (opcode : Nat) (c : Cmd) (s : State) : (takenState opcode c s).obs.banks = s.obs.banks := (taken_reports opcode c s).obs_banks
@[simp] theorem takenState_obs_lastBank (opcode : Nat) (c : Cmd) (s : State) : (takenState opcode c s).obs.lastBank = s.obs.lastBank := (taken_reports opcode c s).obs_lastBank
@[simp] theorem takenState_obs_seq (opcode : Nat) (c : Cmd) (s : State) : (takenState opcode c s).obs.seq = s.obs.seq := (taken_reports opcode c s).obs_seq
@[simp] theorem takenState_obs_full (opcode : Nat) (c : Cmd) (s : State) : (takenState opcode c s).obs.full = s.obs.full := (taken_reports opcode c s).obs_full
@[simp] theorem takenState_obs_thrFrac (opcode : Nat) (c : Cmd) (s : State) : (takenState opcode c s).obs.thrFrac = s.obs.thrFrac := (taken_reports opcode c s).obs_thrFrac
@[simp] theorem takenState_obs_ber (opcode : Nat) (c : Cmd) (s : State) : (takenState opcode c s).obs.ber = s.obs.ber := (taken_reports opcode c s).obs_ber
@[simp] theorem takenState_obs_buckets (opcode : Nat) (c : Cmd) (s : State) : (takenState opcode c s).obs.buckets = s.obs.buckets := (taken_reports opcode c s).obs_buckets
@[simp] theorem takenState_obs_contexts (opcode : Nat) (c : Cmd) (s : State) : (takenState opcode c s).obs.contexts = s.obs.contexts := (taken_reports opcode c s).obs_contexts
@[simp] theorem takenState_obs_replay (opcode : Nat) (c : Cmd) (s : State) : (takenState opcode c s).obs.replay = s.obs.replay := (taken_reports opcode c s).obs_replay
@[simp] theorem takenState_obs_image (opcode : Nat) (c : Cmd) (s : State) : (takenState opcode c s).obs.image = s.obs.image := (taken_reports opcode c s).obs_image
@[simp] theorem takenState_obs_imageCopying (opcode : Nat) (c : Cmd) (s : State) : (takenState opcode c s).obs.imageCopying = s.obs.imageCopying := (taken_reports opcode c s).obs_imageCopying
@[simp] theorem takenState_obs_imageLocked (opcode : Nat) (c : Cmd) (s : State) : (takenState opcode c s).obs.imageLocked = s.obs.imageLocked := (taken_reports opcode c s).obs_imageLocked
@[simp] theorem takenState_obs_flowFull (opcode : Nat) (c : Cmd) (s : State) : (takenState opcode c s).obs.flowFull = s.obs.flowFull := (taken_reports opcode c s).obs_flowFull
@[simp] theorem takenState_obs_shifts (opcode : Nat) (c : Cmd) (s : State) : (takenState opcode c s).obs.shifts = s.obs.shifts := (taken_reports opcode c s).obs_shifts
@[simp] theorem takenState_mgmt_inProgress (opcode : Nat) (c : Cmd) (s : State) : (takenState opcode c s).mgmt.inProgress = s.mgmt.inProgress := (taken_reports opcode c s).mgmt_inProgress
@[simp] theorem takenState_mgmt_engineHeld (opcode : Nat) (c : Cmd) (s : State) : (takenState opcode c s).mgmt.engineHeld = s.mgmt.engineHeld := (taken_reports opcode c s).mgmt_engineHeld
@[simp] theorem takenState_mgmt_restartCause (opcode : Nat) (c : Cmd) (s : State) : (takenState opcode c s).mgmt.restartCause = s.mgmt.restartCause := (taken_reports opcode c s).mgmt_restartCause
@[simp] theorem takenState_mgmt_afterRestart (opcode : Nat) (c : Cmd) (s : State) : (takenState opcode c s).mgmt.afterRestart = s.mgmt.afterRestart := (taken_reports opcode c s).mgmt_afterRestart
@[simp] theorem takenState_mgmt_layoutSpent (opcode : Nat) (c : Cmd) (s : State) : (takenState opcode c s).mgmt.layoutSpent = s.mgmt.layoutSpent := (taken_reports opcode c s).mgmt_layoutSpent
@[simp] theorem takenState_mgmt_straps (opcode : Nat) (c : Cmd) (s : State) : (takenState opcode c s).mgmt.straps = s.mgmt.straps := (taken_reports opcode c s).mgmt_straps
@[simp] theorem takenState_mgmt_i2cNext (opcode : Nat) (c : Cmd) (s : State) : (takenState opcode c s).mgmt.i2cNext = s.mgmt.i2cNext := (taken_reports opcode c s).mgmt_i2cNext
@[simp] theorem takenState_mgmt_i2cOut (opcode : Nat) (c : Cmd) (s : State) : (takenState opcode c s).mgmt.i2cOut = s.mgmt.i2cOut := (taken_reports opcode c s).mgmt_i2cOut
@[simp] theorem takenState_mgmt_i2cAcks (opcode : Nat) (c : Cmd) (s : State) : (takenState opcode c s).mgmt.i2cAcks = s.mgmt.i2cAcks := (taken_reports opcode c s).mgmt_i2cAcks
@[simp] theorem takenState_mgmt_spiOut (opcode : Nat) (c : Cmd) (s : State) : (takenState opcode c s).mgmt.spiOut = s.mgmt.spiOut := (taken_reports opcode c s).mgmt_spiOut
@[simp] theorem takenState_mgmt_readOut (opcode : Nat) (c : Cmd) (s : State) : (takenState opcode c s).mgmt.readOut = s.mgmt.readOut := (taken_reports opcode c s).mgmt_readOut
@[simp] theorem takenState_mgmt_coreFault (opcode : Nat) (c : Cmd) (s : State) : (takenState opcode c s).mgmt.coreFault = s.mgmt.coreFault := (taken_reports opcode c s).mgmt_coreFault
@[simp] theorem takenState_mgmt_cmisOut (opcode : Nat) (c : Cmd) (s : State) : (takenState opcode c s).mgmt.cmisOut = s.mgmt.cmisOut := (taken_reports opcode c s).mgmt_cmisOut
@[simp] theorem takenState_mgmt_cmisAcks (opcode : Nat) (c : Cmd) (s : State) : (takenState opcode c s).mgmt.cmisAcks = s.mgmt.cmisAcks := (taken_reports opcode c s).mgmt_cmisAcks
@[simp] theorem takenState_mgmt_spiCrcErr (opcode : Nat) (c : Cmd) (s : State) : (takenState opcode c s).mgmt.spiCrcErr = s.mgmt.spiCrcErr := (taken_reports opcode c s).mgmt_spiCrcErr
@[simp] theorem takenState_mgmt_spiBusErr (opcode : Nat) (c : Cmd) (s : State) : (takenState opcode c s).mgmt.spiBusErr = s.mgmt.spiBusErr := (taken_reports opcode c s).mgmt_spiBusErr
@[simp] theorem takenState_mgmt_cmisPage (opcode : Nat) (c : Cmd) (s : State) : (takenState opcode c s).mgmt.cmisPage = s.mgmt.cmisPage := (taken_reports opcode c s).mgmt_cmisPage
@[simp] theorem takenState_mgmt_cmisBank (opcode : Nat) (c : Cmd) (s : State) : (takenState opcode c s).mgmt.cmisBank = s.mgmt.cmisBank := (taken_reports opcode c s).mgmt_cmisBank
@[simp] theorem takenState_mgmt_cmisLog (opcode : Nat) (c : Cmd) (s : State) : (takenState opcode c s).mgmt.cmisLog = s.mgmt.cmisLog := (taken_reports opcode c s).mgmt_cmisLog
@[simp] theorem takenState_mgmt_cmisNext (opcode : Nat) (c : Cmd) (s : State) : (takenState opcode c s).mgmt.cmisNext = s.mgmt.cmisNext := (taken_reports opcode c s).mgmt_cmisNext
@[simp] theorem takenState_mgmt_cmisWritable (opcode : Nat) (c : Cmd) (s : State) : (takenState opcode c s).mgmt.cmisWritable = s.mgmt.cmisWritable := (taken_reports opcode c s).mgmt_cmisWritable
@[simp] theorem takenState_mgmt_busErrRate (opcode : Nat) (c : Cmd) (s : State) : (takenState opcode c s).mgmt.busErrRate = s.mgmt.busErrRate := (taken_reports opcode c s).mgmt_busErrRate
@[simp] theorem takenState_mgmt_lockedRate (opcode : Nat) (c : Cmd) (s : State) : (takenState opcode c s).mgmt.lockedRate = s.mgmt.lockedRate := (taken_reports opcode c s).mgmt_lockedRate
@[simp] theorem takenState_mgmt_tmrLast (opcode : Nat) (c : Cmd) (s : State) : (takenState opcode c s).mgmt.tmrLast = s.mgmt.tmrLast := (taken_reports opcode c s).mgmt_tmrLast
@[simp] theorem takenState_mgmt_tmrSince (opcode : Nat) (c : Cmd) (s : State) : (takenState opcode c s).mgmt.tmrSince = s.mgmt.tmrSince := (taken_reports opcode c s).mgmt_tmrSince
@[simp] theorem takenState_mem_parity (opcode : Nat) (c : Cmd) (s : State) : (takenState opcode c s).mem.parity = s.mem.parity := (taken_reports opcode c s).mem_parity
@[simp] theorem takenState_mem_candidates (opcode : Nat) (c : Cmd) (s : State) : (takenState opcode c s).mem.candidates = s.mem.candidates := (taken_reports opcode c s).mem_candidates
@[simp] theorem takenState_mem_retrain (opcode : Nat) (c : Cmd) (s : State) : (takenState opcode c s).mem.retrain = s.mem.retrain := (taken_reports opcode c s).mem_retrain

theorem takenState_rd (opcode : Nat) (c : Cmd) (s : State) (f : Field) (i j : Nat) (h : f.key i j ∉ reportKeys) : rd (takenState opcode c s) f i j = rd s f i j :=
  (taken_reports opcode c s).rd f i j h

@[simp] theorem takenState_rdE (opcode : Nat) (c : Cmd) (s : State) (f : Field) (i j : Nat) : rdE (takenState opcode c s) f i j = rdE s f i j :=
  (taken_reports opcode c s).rdE f i j

end Sys2Proof.Machine
end

