-- ==== Sys2Proof/Laws/Link.lean ====
section
/-! SUPPORT. What deskew and rejoining come to when the lanes' groups arrive together (R151, R153). -/

namespace Sys2Proof.Laws

open Sys2Proof Sys2Proof.Machine

/-- A group is paired with itself, whatever the marker period. -/
@[simp] theorem groupShift_self (s : State) (p a : Nat) : groupShift s p a a = 0 := by
  unfold groupShift
  simp only [Int.sub_self, Int.mul_zero, Int.zero_add]
  rcases Nat.eq_zero_or_pos (markerSpan s p) with h | h
  · simp [h]
  · exact Int.ediv_eq_zero_of_lt (by omega) (by omega)

theorem pairedArrival_self (s : State) (p x : Nat) : pairedArrival s p (lockOf s x).arrival x = (lockOf s x).arrival := by
  simp [pairedArrival]

/-- Lanes whose groups arrive together have no skew, so deskew succeeds at every limit. -/
theorem deskewGood_of_same {s : State} {p a : Nat} (h : ∀ x ∈ portLines s p, (lockOf s x).arrival = a) :
    deskewGood s p = true := by
  have foldN : ∀ (xs : List Nat) (k : Nat), (∀ x ∈ xs, (lockOf s x).arrival = a) → k ≤ a → xs ≠ [] →
      xs.foldl (fun b x => max b (lockOf s x).arrival) k = a := by
    intro xs
    induction xs with
    | nil => intro _ _ _ h; exact absurd rfl h
    | cons x xs ih =>
      intro k hx hk _
      have e := hx x (by simp)
      cases xs with
      | nil => simp only [List.foldl]; omega
      | cons y ys => exact ih (max k (lockOf s x).arrival) (fun z hz => hx z (by simp [hz])) (by omega) (by simp)
  by_cases hn : portLines s p = []
  · simp [deskewGood, hn]
  have hl : latestArrival s p = a := foldN _ 0 h (Nat.zero_le _) hn
  have hp : ∀ x ∈ portLines s p, pairedArrival s p a x = a := fun x hx => by
    have e := pairedArrival_self s p x
    rw [h x hx] at e
    exact e
  have foldI : ∀ (xs : List Nat) (k : Int), (∀ x ∈ xs, pairedArrival s p a x = a) → k ≤ a →
      xs.foldl (fun b x => max b (pairedArrival s p a x)) k ≤ a := by
    intro xs
    induction xs with
    | nil => intro k _ hk; simpa using hk
    | cons x xs ih =>
      intro k hx hk
      have e := hx x (by simp)
      exact ih (max k (pairedArrival s p a x)) (fun z hz => hx z (by simp [hz])) (by omega)
  have hle : latestPaired s p ≤ a := by rw [latestPaired, hl]; exact foldI _ 0 hp (by omega)
  refine List.all_eq_true.mpr fun x hx => ?_
  have h0 : laneSkew s p x = 0 := by rw [laneSkew, hl, hp x hx]; omega
  simp [skewWithin, h0]

/-- A lane whose group arrives with that of the lane it is lined up with rejoins at that lane's delay. -/
theorem rejoinDelay_of_same {s : State} {p x y : Nat} (hy : scaleLane s p x = some y)
    (h : (lockOf s y).arrival = (lockOf s x).arrival) (hs : skewWithin s p (lockOf s y).skew = true) :
    rejoinDelay s p x = some (lockOf s y).skew := by
  have e : pairedArrival s p (lockOf s x).arrival y = (lockOf s x).arrival := by
    have e := pairedArrival_self s p y
    rw [h] at e
    exact e
  have d : ((lockOf s x).arrival : Int) + (lockOf s y).skew - (lockOf s x).arrival = (lockOf s y).skew := by omega
  simp [rejoinDelay, hy, e, d, hs]

end Sys2Proof.Laws
end

