-- ==== Sys2Proof/Laws/Setters.lean ====
section
/-! SUPPORT. What each setter of a record of the state leaves as it was, one lemma per component; and what a record reads after it is
set. -/

namespace Sys2Proof.Machine

open Sys2Proof

/-! setRxRec -/

@[simp] theorem setRxRec_fld (s : State) (l : LaneId) (x : RxRec) : (setRxRec s l x).fld = s.fld := by cases l <;> rfl
@[simp] theorem setRxRec_eff (s : State) (l : LaneId) (x : RxRec) : (setRxRec s l x).eff = s.eff := by cases l <;> rfl
@[simp] theorem setRxRec_time (s : State) (l : LaneId) (x : RxRec) : (setRxRec s l x).time = s.time := by cases l <;> rfl
@[simp] theorem setRxRec_obs (s : State) (l : LaneId) (x : RxRec) : (setRxRec s l x).obs = s.obs := by cases l <;> rfl
@[simp] theorem setRxRec_link (s : State) (l : LaneId) (x : RxRec) : (setRxRec s l x).link = s.link := by cases l <;> rfl
@[simp] theorem setRxRec_path (s : State) (l : LaneId) (x : RxRec) : (setRxRec s l x).path = s.path := by cases l <;> rfl
@[simp] theorem setRxRec_aside (s : State) (l : LaneId) (x : RxRec) : (setRxRec s l x).aside = s.aside := by cases l <;> rfl
@[simp] theorem setRxRec_ctl (s : State) (l : LaneId) (x : RxRec) : (setRxRec s l x).ctl = s.ctl := by cases l <;> rfl
@[simp] theorem setRxRec_cal (s : State) (l : LaneId) (x : RxRec) : (setRxRec s l x).cal = s.cal := by cases l <;> rfl
@[simp] theorem setRxRec_mgmt (s : State) (l : LaneId) (x : RxRec) : (setRxRec s l x).mgmt = s.mgmt := by cases l <;> rfl
@[simp] theorem setRxRec_mem (s : State) (l : LaneId) (x : RxRec) : (setRxRec s l x).mem = s.mem := by cases l <;> rfl
@[simp] theorem setRxRec_book (s : State) (l : LaneId) (x : RxRec) : (setRxRec s l x).book = s.book := by cases l <;> rfl
@[simp] theorem setRxRec_faults (s : State) (l : LaneId) (x : RxRec) : (setRxRec s l x).faults = s.faults := by cases l <;> rfl
@[simp] theorem setRxRec_power (s : State) (l : LaneId) (x : RxRec) : (setRxRec s l x).power = s.power := by cases l <;> rfl
@[simp] theorem setRxRec_test (s : State) (l : LaneId) (x : RxRec) : (setRxRec s l x).test = s.test := by cases l <;> rfl
@[simp] theorem setRxRec_sec (s : State) (l : LaneId) (x : RxRec) : (setRxRec s l x).sec = s.sec := by cases l <;> rfl
@[simp] theorem setRxRec_freeCount (s : State) (l : LaneId) (x : RxRec) : (setRxRec s l x).freeCount = s.freeCount := by cases l <;> rfl
@[simp] theorem setRxRec_pending (s : State) (l : LaneId) (x : RxRec) : (setRxRec s l x).pending = s.pending := by cases l <;> rfl
@[simp] theorem setRxRec_rd (s : State) (l : LaneId) (x : RxRec) (f : Field) (i j : Nat) : rd (setRxRec s l x) f i j = rd s f i j := by cases l <;> rfl
@[simp] theorem setRxRec_rdE (s : State) (l : LaneId) (x : RxRec) (f : Field) (i j : Nat) : rdE (setRxRec s l x) f i j = rdE s f i j := by cases l <;> rfl

/-! setTxRec -/

@[simp] theorem setTxRec_fld (s : State) (l : LaneId) (x : TxRec) : (setTxRec s l x).fld = s.fld := by cases l <;> rfl
@[simp] theorem setTxRec_eff (s : State) (l : LaneId) (x : TxRec) : (setTxRec s l x).eff = s.eff := by cases l <;> rfl
@[simp] theorem setTxRec_time (s : State) (l : LaneId) (x : TxRec) : (setTxRec s l x).time = s.time := by cases l <;> rfl
@[simp] theorem setTxRec_obs (s : State) (l : LaneId) (x : TxRec) : (setTxRec s l x).obs = s.obs := by cases l <;> rfl
@[simp] theorem setTxRec_link (s : State) (l : LaneId) (x : TxRec) : (setTxRec s l x).link = s.link := by cases l <;> rfl
@[simp] theorem setTxRec_path (s : State) (l : LaneId) (x : TxRec) : (setTxRec s l x).path = s.path := by cases l <;> rfl
@[simp] theorem setTxRec_aside (s : State) (l : LaneId) (x : TxRec) : (setTxRec s l x).aside = s.aside := by cases l <;> rfl
@[simp] theorem setTxRec_ctl (s : State) (l : LaneId) (x : TxRec) : (setTxRec s l x).ctl = s.ctl := by cases l <;> rfl
@[simp] theorem setTxRec_cal (s : State) (l : LaneId) (x : TxRec) : (setTxRec s l x).cal = s.cal := by cases l <;> rfl
@[simp] theorem setTxRec_mgmt (s : State) (l : LaneId) (x : TxRec) : (setTxRec s l x).mgmt = s.mgmt := by cases l <;> rfl
@[simp] theorem setTxRec_mem (s : State) (l : LaneId) (x : TxRec) : (setTxRec s l x).mem = s.mem := by cases l <;> rfl
@[simp] theorem setTxRec_book (s : State) (l : LaneId) (x : TxRec) : (setTxRec s l x).book = s.book := by cases l <;> rfl
@[simp] theorem setTxRec_faults (s : State) (l : LaneId) (x : TxRec) : (setTxRec s l x).faults = s.faults := by cases l <;> rfl
@[simp] theorem setTxRec_power (s : State) (l : LaneId) (x : TxRec) : (setTxRec s l x).power = s.power := by cases l <;> rfl
@[simp] theorem setTxRec_test (s : State) (l : LaneId) (x : TxRec) : (setTxRec s l x).test = s.test := by cases l <;> rfl
@[simp] theorem setTxRec_sec (s : State) (l : LaneId) (x : TxRec) : (setTxRec s l x).sec = s.sec := by cases l <;> rfl
@[simp] theorem setTxRec_freeCount (s : State) (l : LaneId) (x : TxRec) : (setTxRec s l x).freeCount = s.freeCount := by cases l <;> rfl
@[simp] theorem setTxRec_pending (s : State) (l : LaneId) (x : TxRec) : (setTxRec s l x).pending = s.pending := by cases l <;> rfl
@[simp] theorem setTxRec_rd (s : State) (l : LaneId) (x : TxRec) (f : Field) (i j : Nat) : rd (setTxRec s l x) f i j = rd s f i j := by cases l <;> rfl
@[simp] theorem setTxRec_rdE (s : State) (l : LaneId) (x : TxRec) (f : Field) (i j : Nat) : rdE (setTxRec s l x) f i j = rdE s f i j := by cases l <;> rfl

/-! setFront -/

@[simp] theorem setFront_fld (s : State) (l : LaneId) (x : Front) : (setFront s l x).fld = s.fld := by cases l <;> rfl
@[simp] theorem setFront_eff (s : State) (l : LaneId) (x : Front) : (setFront s l x).eff = s.eff := by cases l <;> rfl
@[simp] theorem setFront_time (s : State) (l : LaneId) (x : Front) : (setFront s l x).time = s.time := by cases l <;> rfl
@[simp] theorem setFront_obs (s : State) (l : LaneId) (x : Front) : (setFront s l x).obs = s.obs := by cases l <;> rfl
@[simp] theorem setFront_link (s : State) (l : LaneId) (x : Front) : (setFront s l x).link = s.link := by cases l <;> rfl
@[simp] theorem setFront_path (s : State) (l : LaneId) (x : Front) : (setFront s l x).path = s.path := by cases l <;> rfl
@[simp] theorem setFront_aside (s : State) (l : LaneId) (x : Front) : (setFront s l x).aside = s.aside := by cases l <;> rfl
@[simp] theorem setFront_ctl (s : State) (l : LaneId) (x : Front) : (setFront s l x).ctl = s.ctl := by cases l <;> rfl
@[simp] theorem setFront_cal (s : State) (l : LaneId) (x : Front) : (setFront s l x).cal = s.cal := by cases l <;> rfl
@[simp] theorem setFront_mgmt (s : State) (l : LaneId) (x : Front) : (setFront s l x).mgmt = s.mgmt := by cases l <;> rfl
@[simp] theorem setFront_mem (s : State) (l : LaneId) (x : Front) : (setFront s l x).mem = s.mem := by cases l <;> rfl
@[simp] theorem setFront_book (s : State) (l : LaneId) (x : Front) : (setFront s l x).book = s.book := by cases l <;> rfl
@[simp] theorem setFront_faults (s : State) (l : LaneId) (x : Front) : (setFront s l x).faults = s.faults := by cases l <;> rfl
@[simp] theorem setFront_power (s : State) (l : LaneId) (x : Front) : (setFront s l x).power = s.power := by cases l <;> rfl
@[simp] theorem setFront_test (s : State) (l : LaneId) (x : Front) : (setFront s l x).test = s.test := by cases l <;> rfl
@[simp] theorem setFront_sec (s : State) (l : LaneId) (x : Front) : (setFront s l x).sec = s.sec := by cases l <;> rfl
@[simp] theorem setFront_freeCount (s : State) (l : LaneId) (x : Front) : (setFront s l x).freeCount = s.freeCount := by cases l <;> rfl
@[simp] theorem setFront_pending (s : State) (l : LaneId) (x : Front) : (setFront s l x).pending = s.pending := by cases l <;> rfl
@[simp] theorem setFront_rd (s : State) (l : LaneId) (x : Front) (f : Field) (i j : Nat) : rd (setFront s l x) f i j = rd s f i j := by cases l <;> rfl
@[simp] theorem setFront_rdE (s : State) (l : LaneId) (x : Front) (f : Field) (i j : Nat) : rdE (setFront s l x) f i j = rdE s f i j := by cases l <;> rfl

/-! setEqRec -/

@[simp] theorem setEqRec_fld (s : State) (l : LaneId) (x : EqRec) : (setEqRec s l x).fld = s.fld := by cases l <;> rfl
@[simp] theorem setEqRec_eff (s : State) (l : LaneId) (x : EqRec) : (setEqRec s l x).eff = s.eff := by cases l <;> rfl
@[simp] theorem setEqRec_time (s : State) (l : LaneId) (x : EqRec) : (setEqRec s l x).time = s.time := by cases l <;> rfl
@[simp] theorem setEqRec_obs (s : State) (l : LaneId) (x : EqRec) : (setEqRec s l x).obs = s.obs := by cases l <;> rfl
@[simp] theorem setEqRec_link (s : State) (l : LaneId) (x : EqRec) : (setEqRec s l x).link = s.link := by cases l <;> rfl
@[simp] theorem setEqRec_path (s : State) (l : LaneId) (x : EqRec) : (setEqRec s l x).path = s.path := by cases l <;> rfl
@[simp] theorem setEqRec_aside (s : State) (l : LaneId) (x : EqRec) : (setEqRec s l x).aside = s.aside := by cases l <;> rfl
@[simp] theorem setEqRec_ctl (s : State) (l : LaneId) (x : EqRec) : (setEqRec s l x).ctl = s.ctl := by cases l <;> rfl
@[simp] theorem setEqRec_cal (s : State) (l : LaneId) (x : EqRec) : (setEqRec s l x).cal = s.cal := by cases l <;> rfl
@[simp] theorem setEqRec_mgmt (s : State) (l : LaneId) (x : EqRec) : (setEqRec s l x).mgmt = s.mgmt := by cases l <;> rfl
@[simp] theorem setEqRec_mem (s : State) (l : LaneId) (x : EqRec) : (setEqRec s l x).mem = s.mem := by cases l <;> rfl
@[simp] theorem setEqRec_book (s : State) (l : LaneId) (x : EqRec) : (setEqRec s l x).book = s.book := by cases l <;> rfl
@[simp] theorem setEqRec_faults (s : State) (l : LaneId) (x : EqRec) : (setEqRec s l x).faults = s.faults := by cases l <;> rfl
@[simp] theorem setEqRec_power (s : State) (l : LaneId) (x : EqRec) : (setEqRec s l x).power = s.power := by cases l <;> rfl
@[simp] theorem setEqRec_test (s : State) (l : LaneId) (x : EqRec) : (setEqRec s l x).test = s.test := by cases l <;> rfl
@[simp] theorem setEqRec_sec (s : State) (l : LaneId) (x : EqRec) : (setEqRec s l x).sec = s.sec := by cases l <;> rfl
@[simp] theorem setEqRec_freeCount (s : State) (l : LaneId) (x : EqRec) : (setEqRec s l x).freeCount = s.freeCount := by cases l <;> rfl
@[simp] theorem setEqRec_pending (s : State) (l : LaneId) (x : EqRec) : (setEqRec s l x).pending = s.pending := by cases l <;> rfl
@[simp] theorem setEqRec_rd (s : State) (l : LaneId) (x : EqRec) (f : Field) (i j : Nat) : rd (setEqRec s l x) f i j = rd s f i j := by cases l <;> rfl
@[simp] theorem setEqRec_rdE (s : State) (l : LaneId) (x : EqRec) (f : Field) (i j : Nat) : rdE (setEqRec s l x) f i j = rdE s f i j := by cases l <;> rfl

/-! setSlices -/

@[simp] theorem setSlices_fld (s : State) (l : LaneId) (x : Slices) : (setSlices s l x).fld = s.fld := by cases l <;> rfl
@[simp] theorem setSlices_eff (s : State) (l : LaneId) (x : Slices) : (setSlices s l x).eff = s.eff := by cases l <;> rfl
@[simp] theorem setSlices_time (s : State) (l : LaneId) (x : Slices) : (setSlices s l x).time = s.time := by cases l <;> rfl
@[simp] theorem setSlices_obs (s : State) (l : LaneId) (x : Slices) : (setSlices s l x).obs = s.obs := by cases l <;> rfl
@[simp] theorem setSlices_link (s : State) (l : LaneId) (x : Slices) : (setSlices s l x).link = s.link := by cases l <;> rfl
@[simp] theorem setSlices_path (s : State) (l : LaneId) (x : Slices) : (setSlices s l x).path = s.path := by cases l <;> rfl
@[simp] theorem setSlices_aside (s : State) (l : LaneId) (x : Slices) : (setSlices s l x).aside = s.aside := by cases l <;> rfl
@[simp] theorem setSlices_ctl (s : State) (l : LaneId) (x : Slices) : (setSlices s l x).ctl = s.ctl := by cases l <;> rfl
@[simp] theorem setSlices_cal (s : State) (l : LaneId) (x : Slices) : (setSlices s l x).cal = s.cal := by cases l <;> rfl
@[simp] theorem setSlices_mgmt (s : State) (l : LaneId) (x : Slices) : (setSlices s l x).mgmt = s.mgmt := by cases l <;> rfl
@[simp] theorem setSlices_mem (s : State) (l : LaneId) (x : Slices) : (setSlices s l x).mem = s.mem := by cases l <;> rfl
@[simp] theorem setSlices_book (s : State) (l : LaneId) (x : Slices) : (setSlices s l x).book = s.book := by cases l <;> rfl
@[simp] theorem setSlices_faults (s : State) (l : LaneId) (x : Slices) : (setSlices s l x).faults = s.faults := by cases l <;> rfl
@[simp] theorem setSlices_power (s : State) (l : LaneId) (x : Slices) : (setSlices s l x).power = s.power := by cases l <;> rfl
@[simp] theorem setSlices_test (s : State) (l : LaneId) (x : Slices) : (setSlices s l x).test = s.test := by cases l <;> rfl
@[simp] theorem setSlices_sec (s : State) (l : LaneId) (x : Slices) : (setSlices s l x).sec = s.sec := by cases l <;> rfl
@[simp] theorem setSlices_freeCount (s : State) (l : LaneId) (x : Slices) : (setSlices s l x).freeCount = s.freeCount := by cases l <;> rfl
@[simp] theorem setSlices_pending (s : State) (l : LaneId) (x : Slices) : (setSlices s l x).pending = s.pending := by cases l <;> rfl
@[simp] theorem setSlices_rd (s : State) (l : LaneId) (x : Slices) (f : Field) (i j : Nat) : rd (setSlices s l x) f i j = rd s f i j := by cases l <;> rfl
@[simp] theorem setSlices_rdE (s : State) (l : LaneId) (x : Slices) (f : Field) (i j : Nat) : rdE (setSlices s l x) f i j = rdE s f i j := by cases l <;> rfl

/-! setGather -/

@[simp] theorem setGather_fld (s : State) (n : Nat) (x : Option Gatherer) : (setGather s n x).fld = s.fld := rfl
@[simp] theorem setGather_eff (s : State) (n : Nat) (x : Option Gatherer) : (setGather s n x).eff = s.eff := rfl
@[simp] theorem setGather_time (s : State) (n : Nat) (x : Option Gatherer) : (setGather s n x).time = s.time := rfl
@[simp] theorem setGather_obs (s : State) (n : Nat) (x : Option Gatherer) : (setGather s n x).obs = s.obs := rfl
@[simp] theorem setGather_link (s : State) (n : Nat) (x : Option Gatherer) : (setGather s n x).link = s.link := rfl
@[simp] theorem setGather_path (s : State) (n : Nat) (x : Option Gatherer) : (setGather s n x).path = s.path := rfl
@[simp] theorem setGather_aside (s : State) (n : Nat) (x : Option Gatherer) : (setGather s n x).aside = s.aside := rfl
@[simp] theorem setGather_ctl (s : State) (n : Nat) (x : Option Gatherer) : (setGather s n x).ctl = s.ctl := rfl
@[simp] theorem setGather_cal (s : State) (n : Nat) (x : Option Gatherer) : (setGather s n x).cal = s.cal := rfl
@[simp] theorem setGather_mgmt (s : State) (n : Nat) (x : Option Gatherer) : (setGather s n x).mgmt = s.mgmt := rfl
@[simp] theorem setGather_mem (s : State) (n : Nat) (x : Option Gatherer) : (setGather s n x).mem = s.mem := rfl
@[simp] theorem setGather_book (s : State) (n : Nat) (x : Option Gatherer) : (setGather s n x).book = s.book := rfl
@[simp] theorem setGather_faults (s : State) (n : Nat) (x : Option Gatherer) : (setGather s n x).faults = s.faults := rfl
@[simp] theorem setGather_power (s : State) (n : Nat) (x : Option Gatherer) : (setGather s n x).power = s.power := rfl
@[simp] theorem setGather_test (s : State) (n : Nat) (x : Option Gatherer) : (setGather s n x).test = s.test := rfl
@[simp] theorem setGather_sec (s : State) (n : Nat) (x : Option Gatherer) : (setGather s n x).sec = s.sec := rfl
@[simp] theorem setGather_freeCount (s : State) (n : Nat) (x : Option Gatherer) : (setGather s n x).freeCount = s.freeCount := rfl
@[simp] theorem setGather_pending (s : State) (n : Nat) (x : Option Gatherer) : (setGather s n x).pending = s.pending := rfl
@[simp] theorem setGather_rd (s : State) (n : Nat) (x : Option Gatherer) (f : Field) (i j : Nat) : rd (setGather s n x) f i j = rd s f i j := rfl
@[simp] theorem setGather_rdE (s : State) (n : Nat) (x : Option Gatherer) (f : Field) (i j : Nat) : rdE (setGather s n x) f i j = rdE s f i j := rfl

/-! setXa -/

@[simp] theorem setXa_fld (s : State) (n : Nat) (x : Option XaRun) : (setXa s n x).fld = s.fld := rfl
@[simp] theorem setXa_eff (s : State) (n : Nat) (x : Option XaRun) : (setXa s n x).eff = s.eff := rfl
@[simp] theorem setXa_time (s : State) (n : Nat) (x : Option XaRun) : (setXa s n x).time = s.time := rfl
@[simp] theorem setXa_obs (s : State) (n : Nat) (x : Option XaRun) : (setXa s n x).obs = s.obs := rfl
@[simp] theorem setXa_link (s : State) (n : Nat) (x : Option XaRun) : (setXa s n x).link = s.link := rfl
@[simp] theorem setXa_path (s : State) (n : Nat) (x : Option XaRun) : (setXa s n x).path = s.path := rfl
@[simp] theorem setXa_aside (s : State) (n : Nat) (x : Option XaRun) : (setXa s n x).aside = s.aside := rfl
@[simp] theorem setXa_ctl (s : State) (n : Nat) (x : Option XaRun) : (setXa s n x).ctl = s.ctl := rfl
@[simp] theorem setXa_cal (s : State) (n : Nat) (x : Option XaRun) : (setXa s n x).cal = s.cal := rfl
@[simp] theorem setXa_mgmt (s : State) (n : Nat) (x : Option XaRun) : (setXa s n x).mgmt = s.mgmt := rfl
@[simp] theorem setXa_mem (s : State) (n : Nat) (x : Option XaRun) : (setXa s n x).mem = s.mem := rfl
@[simp] theorem setXa_book (s : State) (n : Nat) (x : Option XaRun) : (setXa s n x).book = s.book := rfl
@[simp] theorem setXa_faults (s : State) (n : Nat) (x : Option XaRun) : (setXa s n x).faults = s.faults := rfl
@[simp] theorem setXa_power (s : State) (n : Nat) (x : Option XaRun) : (setXa s n x).power = s.power := rfl
@[simp] theorem setXa_test (s : State) (n : Nat) (x : Option XaRun) : (setXa s n x).test = s.test := rfl
@[simp] theorem setXa_sec (s : State) (n : Nat) (x : Option XaRun) : (setXa s n x).sec = s.sec := rfl
@[simp] theorem setXa_freeCount (s : State) (n : Nat) (x : Option XaRun) : (setXa s n x).freeCount = s.freeCount := rfl
@[simp] theorem setXa_pending (s : State) (n : Nat) (x : Option XaRun) : (setXa s n x).pending = s.pending := rfl
@[simp] theorem setXa_rd (s : State) (n : Nat) (x : Option XaRun) (f : Field) (i j : Nat) : rd (setXa s n x) f i j = rd s f i j := rfl
@[simp] theorem setXa_rdE (s : State) (n : Nat) (x : Option XaRun) (f : Field) (i j : Nat) : rdE (setXa s n x) f i j = rdE s f i j := rfl

/-! setLock -/

@[simp] theorem setLock_fld (s : State) (n : Nat) (x : MarkerLock) : (setLock s n x).fld = s.fld := rfl
@[simp] theorem setLock_eff (s : State) (n : Nat) (x : MarkerLock) : (setLock s n x).eff = s.eff := rfl
@[simp] theorem setLock_time (s : State) (n : Nat) (x : MarkerLock) : (setLock s n x).time = s.time := rfl
@[simp] theorem setLock_obs (s : State) (n : Nat) (x : MarkerLock) : (setLock s n x).obs = s.obs := rfl
@[simp] theorem setLock_link (s : State) (n : Nat) (x : MarkerLock) : (setLock s n x).link = s.link := rfl
@[simp] theorem setLock_path (s : State) (n : Nat) (x : MarkerLock) : (setLock s n x).path = s.path := rfl
@[simp] theorem setLock_aside (s : State) (n : Nat) (x : MarkerLock) : (setLock s n x).aside = s.aside := rfl
@[simp] theorem setLock_ctl (s : State) (n : Nat) (x : MarkerLock) : (setLock s n x).ctl = s.ctl := rfl
@[simp] theorem setLock_cal (s : State) (n : Nat) (x : MarkerLock) : (setLock s n x).cal = s.cal := rfl
@[simp] theorem setLock_mgmt (s : State) (n : Nat) (x : MarkerLock) : (setLock s n x).mgmt = s.mgmt := rfl
@[simp] theorem setLock_mem (s : State) (n : Nat) (x : MarkerLock) : (setLock s n x).mem = s.mem := rfl
@[simp] theorem setLock_book (s : State) (n : Nat) (x : MarkerLock) : (setLock s n x).book = s.book := rfl
@[simp] theorem setLock_faults (s : State) (n : Nat) (x : MarkerLock) : (setLock s n x).faults = s.faults := rfl
@[simp] theorem setLock_power (s : State) (n : Nat) (x : MarkerLock) : (setLock s n x).power = s.power := rfl
@[simp] theorem setLock_test (s : State) (n : Nat) (x : MarkerLock) : (setLock s n x).test = s.test := rfl
@[simp] theorem setLock_sec (s : State) (n : Nat) (x : MarkerLock) : (setLock s n x).sec = s.sec := rfl
@[simp] theorem setLock_freeCount (s : State) (n : Nat) (x : MarkerLock) : (setLock s n x).freeCount = s.freeCount := rfl
@[simp] theorem setLock_pending (s : State) (n : Nat) (x : MarkerLock) : (setLock s n x).pending = s.pending := rfl
@[simp] theorem setLock_rd (s : State) (n : Nat) (x : MarkerLock) (f : Field) (i j : Nat) : rd (setLock s n x) f i j = rd s f i j := rfl
@[simp] theorem setLock_rdE (s : State) (n : Nat) (x : MarkerLock) (f : Field) (i j : Nat) : rdE (setLock s n x) f i j = rdE s f i j := rfl

/-! setSpot -/

@[simp] theorem setSpot_fld (s : State) (n : Nat) (x : Spot) : (setSpot s n x).fld = s.fld := rfl
@[simp] theorem setSpot_eff (s : State) (n : Nat) (x : Spot) : (setSpot s n x).eff = s.eff := rfl
@[simp] theorem setSpot_time (s : State) (n : Nat) (x : Spot) : (setSpot s n x).time = s.time := rfl
@[simp] theorem setSpot_obs (s : State) (n : Nat) (x : Spot) : (setSpot s n x).obs = s.obs := rfl
@[simp] theorem setSpot_link (s : State) (n : Nat) (x : Spot) : (setSpot s n x).link = s.link := rfl
@[simp] theorem setSpot_path (s : State) (n : Nat) (x : Spot) : (setSpot s n x).path = s.path := rfl
@[simp] theorem setSpot_aside (s : State) (n : Nat) (x : Spot) : (setSpot s n x).aside = s.aside := rfl
@[simp] theorem setSpot_ctl (s : State) (n : Nat) (x : Spot) : (setSpot s n x).ctl = s.ctl := rfl
@[simp] theorem setSpot_cal (s : State) (n : Nat) (x : Spot) : (setSpot s n x).cal = s.cal := rfl
@[simp] theorem setSpot_mgmt (s : State) (n : Nat) (x : Spot) : (setSpot s n x).mgmt = s.mgmt := rfl
@[simp] theorem setSpot_mem (s : State) (n : Nat) (x : Spot) : (setSpot s n x).mem = s.mem := rfl
@[simp] theorem setSpot_book (s : State) (n : Nat) (x : Spot) : (setSpot s n x).book = s.book := rfl
@[simp] theorem setSpot_faults (s : State) (n : Nat) (x : Spot) : (setSpot s n x).faults = s.faults := rfl
@[simp] theorem setSpot_power (s : State) (n : Nat) (x : Spot) : (setSpot s n x).power = s.power := rfl
@[simp] theorem setSpot_test (s : State) (n : Nat) (x : Spot) : (setSpot s n x).test = s.test := rfl
@[simp] theorem setSpot_sec (s : State) (n : Nat) (x : Spot) : (setSpot s n x).sec = s.sec := rfl
@[simp] theorem setSpot_freeCount (s : State) (n : Nat) (x : Spot) : (setSpot s n x).freeCount = s.freeCount := rfl
@[simp] theorem setSpot_pending (s : State) (n : Nat) (x : Spot) : (setSpot s n x).pending = s.pending := rfl
@[simp] theorem setSpot_rd (s : State) (n : Nat) (x : Spot) (f : Field) (i j : Nat) : rd (setSpot s n x) f i j = rd s f i j := rfl
@[simp] theorem setSpot_rdE (s : State) (n : Nat) (x : Spot) (f : Field) (i j : Nat) : rdE (setSpot s n x) f i j = rdE s f i j := rfl

/-! setLineTx -/

@[simp] theorem setLineTx_fld (s : State) (n : Nat) (x : LineTx) : (setLineTx s n x).fld = s.fld := rfl
@[simp] theorem setLineTx_eff (s : State) (n : Nat) (x : LineTx) : (setLineTx s n x).eff = s.eff := rfl
@[simp] theorem setLineTx_time (s : State) (n : Nat) (x : LineTx) : (setLineTx s n x).time = s.time := rfl
@[simp] theorem setLineTx_obs (s : State) (n : Nat) (x : LineTx) : (setLineTx s n x).obs = s.obs := rfl
@[simp] theorem setLineTx_link (s : State) (n : Nat) (x : LineTx) : (setLineTx s n x).link = s.link := rfl
@[simp] theorem setLineTx_path (s : State) (n : Nat) (x : LineTx) : (setLineTx s n x).path = s.path := rfl
@[simp] theorem setLineTx_aside (s : State) (n : Nat) (x : LineTx) : (setLineTx s n x).aside = s.aside := rfl
@[simp] theorem setLineTx_ctl (s : State) (n : Nat) (x : LineTx) : (setLineTx s n x).ctl = s.ctl := rfl
@[simp] theorem setLineTx_cal (s : State) (n : Nat) (x : LineTx) : (setLineTx s n x).cal = s.cal := rfl
@[simp] theorem setLineTx_mgmt (s : State) (n : Nat) (x : LineTx) : (setLineTx s n x).mgmt = s.mgmt := rfl
@[simp] theorem setLineTx_mem (s : State) (n : Nat) (x : LineTx) : (setLineTx s n x).mem = s.mem := rfl
@[simp] theorem setLineTx_book (s : State) (n : Nat) (x : LineTx) : (setLineTx s n x).book = s.book := rfl
@[simp] theorem setLineTx_faults (s : State) (n : Nat) (x : LineTx) : (setLineTx s n x).faults = s.faults := rfl
@[simp] theorem setLineTx_power (s : State) (n : Nat) (x : LineTx) : (setLineTx s n x).power = s.power := rfl
@[simp] theorem setLineTx_test (s : State) (n : Nat) (x : LineTx) : (setLineTx s n x).test = s.test := rfl
@[simp] theorem setLineTx_sec (s : State) (n : Nat) (x : LineTx) : (setLineTx s n x).sec = s.sec := rfl
@[simp] theorem setLineTx_freeCount (s : State) (n : Nat) (x : LineTx) : (setLineTx s n x).freeCount = s.freeCount := rfl
@[simp] theorem setLineTx_pending (s : State) (n : Nat) (x : LineTx) : (setLineTx s n x).pending = s.pending := rfl
@[simp] theorem setLineTx_rd (s : State) (n : Nat) (x : LineTx) (f : Field) (i j : Nat) : rd (setLineTx s n x) f i j = rd s f i j := rfl
@[simp] theorem setLineTx_rdE (s : State) (n : Nat) (x : LineTx) (f : Field) (i j : Nat) : rdE (setLineTx s n x) f i j = rdE s f i j := rfl

/-! setRevertDue -/

@[simp] theorem setRevertDue_fld (s : State) (n : Nat) (b : Bool) : (setRevertDue s n b).fld = s.fld := rfl
@[simp] theorem setRevertDue_eff (s : State) (n : Nat) (b : Bool) : (setRevertDue s n b).eff = s.eff := rfl
@[simp] theorem setRevertDue_time (s : State) (n : Nat) (b : Bool) : (setRevertDue s n b).time = s.time := rfl
@[simp] theorem setRevertDue_obs (s : State) (n : Nat) (b : Bool) : (setRevertDue s n b).obs = s.obs := rfl
@[simp] theorem setRevertDue_link (s : State) (n : Nat) (b : Bool) : (setRevertDue s n b).link = s.link := rfl
@[simp] theorem setRevertDue_path (s : State) (n : Nat) (b : Bool) : (setRevertDue s n b).path = s.path := rfl
@[simp] theorem setRevertDue_aside (s : State) (n : Nat) (b : Bool) : (setRevertDue s n b).aside = s.aside := rfl
@[simp] theorem setRevertDue_ctl (s : State) (n : Nat) (b : Bool) : (setRevertDue s n b).ctl = s.ctl := rfl
@[simp] theorem setRevertDue_cal (s : State) (n : Nat) (b : Bool) : (setRevertDue s n b).cal = s.cal := rfl
@[simp] theorem setRevertDue_mgmt (s : State) (n : Nat) (b : Bool) : (setRevertDue s n b).mgmt = s.mgmt := rfl
@[simp] theorem setRevertDue_mem (s : State) (n : Nat) (b : Bool) : (setRevertDue s n b).mem = s.mem := rfl
@[simp] theorem setRevertDue_book (s : State) (n : Nat) (b : Bool) : (setRevertDue s n b).book = s.book := rfl
@[simp] theorem setRevertDue_faults (s : State) (n : Nat) (b : Bool) : (setRevertDue s n b).faults = s.faults := rfl
@[simp] theorem setRevertDue_power (s : State) (n : Nat) (b : Bool) : (setRevertDue s n b).power = s.power := rfl
@[simp] theorem setRevertDue_test (s : State) (n : Nat) (b : Bool) : (setRevertDue s n b).test = s.test := rfl
@[simp] theorem setRevertDue_sec (s : State) (n : Nat) (b : Bool) : (setRevertDue s n b).sec = s.sec := rfl
@[simp] theorem setRevertDue_freeCount (s : State) (n : Nat) (b : Bool) : (setRevertDue s n b).freeCount = s.freeCount := rfl
@[simp] theorem setRevertDue_pending (s : State) (n : Nat) (b : Bool) : (setRevertDue s n b).pending = s.pending := rfl
@[simp] theorem setRevertDue_rd (s : State) (n : Nat) (b : Bool) (f : Field) (i j : Nat) : rd (setRevertDue s n b) f i j = rd s f i j := rfl
@[simp] theorem setRevertDue_rdE (s : State) (n : Nat) (b : Bool) (f : Field) (i j : Nat) : rdE (setRevertDue s n b) f i j = rdE s f i j := rfl

/-! setAside -/

@[simp] theorem setAside_fld (s : State) (n : Nat) (x : AsideLane) : (setAside s n x).fld = s.fld := rfl
@[simp] theorem setAside_eff (s : State) (n : Nat) (x : AsideLane) : (setAside s n x).eff = s.eff := rfl
@[simp] theorem setAside_time (s : State) (n : Nat) (x : AsideLane) : (setAside s n x).time = s.time := rfl
@[simp] theorem setAside_obs (s : State) (n : Nat) (x : AsideLane) : (setAside s n x).obs = s.obs := rfl
@[simp] theorem setAside_lanes (s : State) (n : Nat) (x : AsideLane) : (setAside s n x).lanes = s.lanes := rfl
@[simp] theorem setAside_link (s : State) (n : Nat) (x : AsideLane) : (setAside s n x).link = s.link := rfl
@[simp] theorem setAside_path (s : State) (n : Nat) (x : AsideLane) : (setAside s n x).path = s.path := rfl
@[simp] theorem setAside_ctl (s : State) (n : Nat) (x : AsideLane) : (setAside s n x).ctl = s.ctl := rfl
@[simp] theorem setAside_cal (s : State) (n : Nat) (x : AsideLane) : (setAside s n x).cal = s.cal := rfl
@[simp] theorem setAside_mgmt (s : State) (n : Nat) (x : AsideLane) : (setAside s n x).mgmt = s.mgmt := rfl
@[simp] theorem setAside_mem (s : State) (n : Nat) (x : AsideLane) : (setAside s n x).mem = s.mem := rfl
@[simp] theorem setAside_book (s : State) (n : Nat) (x : AsideLane) : (setAside s n x).book = s.book := rfl
@[simp] theorem setAside_faults (s : State) (n : Nat) (x : AsideLane) : (setAside s n x).faults = s.faults := rfl
@[simp] theorem setAside_power (s : State) (n : Nat) (x : AsideLane) : (setAside s n x).power = s.power := rfl
@[simp] theorem setAside_test (s : State) (n : Nat) (x : AsideLane) : (setAside s n x).test = s.test := rfl
@[simp] theorem setAside_sec (s : State) (n : Nat) (x : AsideLane) : (setAside s n x).sec = s.sec := rfl
@[simp] theorem setAside_freeCount (s : State) (n : Nat) (x : AsideLane) : (setAside s n x).freeCount = s.freeCount := rfl
@[simp] theorem setAside_pending (s : State) (n : Nat) (x : AsideLane) : (setAside s n x).pending = s.pending := rfl
@[simp] theorem setAside_rd (s : State) (n : Nat) (x : AsideLane) (f : Field) (i j : Nat) : rd (setAside s n x) f i j = rd s f i j := rfl
@[simp] theorem setAside_rdE (s : State) (n : Nat) (x : AsideLane) (f : Field) (i j : Nat) : rdE (setAside s n x) f i j = rdE s f i j := rfl

/-! setPortPath -/

@[simp] theorem setPortPath_fld (s : State) (p : Nat) (d : Dir) (x : PortPath) : (setPortPath s p d x).fld = s.fld := by cases d <;> rfl
@[simp] theorem setPortPath_eff (s : State) (p : Nat) (d : Dir) (x : PortPath) : (setPortPath s p d x).eff = s.eff := by cases d <;> rfl
@[simp] theorem setPortPath_time (s : State) (p : Nat) (d : Dir) (x : PortPath) : (setPortPath s p d x).time = s.time := by cases d <;> rfl
@[simp] theorem setPortPath_obs (s : State) (p : Nat) (d : Dir) (x : PortPath) : (setPortPath s p d x).obs = s.obs := by cases d <;> rfl
@[simp] theorem setPortPath_lanes (s : State) (p : Nat) (d : Dir) (x : PortPath) : (setPortPath s p d x).lanes = s.lanes := by cases d <;> rfl
@[simp] theorem setPortPath_link (s : State) (p : Nat) (d : Dir) (x : PortPath) : (setPortPath s p d x).link = s.link := by cases d <;> rfl
@[simp] theorem setPortPath_aside (s : State) (p : Nat) (d : Dir) (x : PortPath) : (setPortPath s p d x).aside = s.aside := by cases d <;> rfl
@[simp] theorem setPortPath_ctl (s : State) (p : Nat) (d : Dir) (x : PortPath) : (setPortPath s p d x).ctl = s.ctl := by cases d <;> rfl
@[simp] theorem setPortPath_cal (s : State) (p : Nat) (d : Dir) (x : PortPath) : (setPortPath s p d x).cal = s.cal := by cases d <;> rfl
@[simp] theorem setPortPath_mgmt (s : State) (p : Nat) (d : Dir) (x : PortPath) : (setPortPath s p d x).mgmt = s.mgmt := by cases d <;> rfl
@[simp] theorem setPortPath_mem (s : State) (p : Nat) (d : Dir) (x : PortPath) : (setPortPath s p d x).mem = s.mem := by cases d <;> rfl
@[simp] theorem setPortPath_book (s : State) (p : Nat) (d : Dir) (x : PortPath) : (setPortPath s p d x).book = s.book := by cases d <;> rfl
@[simp] theorem setPortPath_faults (s : State) (p : Nat) (d : Dir) (x : PortPath) : (setPortPath s p d x).faults = s.faults := by cases d <;> rfl
@[simp] theorem setPortPath_power (s : State) (p : Nat) (d : Dir) (x : PortPath) : (setPortPath s p d x).power = s.power := by cases d <;> rfl
@[simp] theorem setPortPath_test (s : State) (p : Nat) (d : Dir) (x : PortPath) : (setPortPath s p d x).test = s.test := by cases d <;> rfl
@[simp] theorem setPortPath_sec (s : State) (p : Nat) (d : Dir) (x : PortPath) : (setPortPath s p d x).sec = s.sec := by cases d <;> rfl
@[simp] theorem setPortPath_freeCount (s : State) (p : Nat) (d : Dir) (x : PortPath) : (setPortPath s p d x).freeCount = s.freeCount := by cases d <;> rfl
@[simp] theorem setPortPath_pending (s : State) (p : Nat) (d : Dir) (x : PortPath) : (setPortPath s p d x).pending = s.pending := by cases d <;> rfl
@[simp] theorem setPortPath_rd (s : State) (p : Nat) (d : Dir) (x : PortPath) (f : Field) (i j : Nat) : rd (setPortPath s p d x) f i j = rd s f i j := by cases d <;> rfl
@[simp] theorem setPortPath_rdE (s : State) (p : Nat) (d : Dir) (x : PortPath) (f : Field) (i j : Nat) : rdE (setPortPath s p d x) f i j = rdE s f i j := by cases d <;> rfl

/-! setHostAt -/

@[simp] theorem setHostAt_fld (s : State) (n : Nat) (x : List (Nat × Nat)) : (setHostAt s n x).fld = s.fld := rfl
@[simp] theorem setHostAt_eff (s : State) (n : Nat) (x : List (Nat × Nat)) : (setHostAt s n x).eff = s.eff := rfl
@[simp] theorem setHostAt_time (s : State) (n : Nat) (x : List (Nat × Nat)) : (setHostAt s n x).time = s.time := rfl
@[simp] theorem setHostAt_obs (s : State) (n : Nat) (x : List (Nat × Nat)) : (setHostAt s n x).obs = s.obs := rfl
@[simp] theorem setHostAt_lanes (s : State) (n : Nat) (x : List (Nat × Nat)) : (setHostAt s n x).lanes = s.lanes := rfl
@[simp] theorem setHostAt_link (s : State) (n : Nat) (x : List (Nat × Nat)) : (setHostAt s n x).link = s.link := rfl
@[simp] theorem setHostAt_aside (s : State) (n : Nat) (x : List (Nat × Nat)) : (setHostAt s n x).aside = s.aside := rfl
@[simp] theorem setHostAt_ctl (s : State) (n : Nat) (x : List (Nat × Nat)) : (setHostAt s n x).ctl = s.ctl := rfl
@[simp] theorem setHostAt_cal (s : State) (n : Nat) (x : List (Nat × Nat)) : (setHostAt s n x).cal = s.cal := rfl
@[simp] theorem setHostAt_mgmt (s : State) (n : Nat) (x : List (Nat × Nat)) : (setHostAt s n x).mgmt = s.mgmt := rfl
@[simp] theorem setHostAt_mem (s : State) (n : Nat) (x : List (Nat × Nat)) : (setHostAt s n x).mem = s.mem := rfl
@[simp] theorem setHostAt_book (s : State) (n : Nat) (x : List (Nat × Nat)) : (setHostAt s n x).book = s.book := rfl
@[simp] theorem setHostAt_faults (s : State) (n : Nat) (x : List (Nat × Nat)) : (setHostAt s n x).faults = s.faults := rfl
@[simp] theorem setHostAt_power (s : State) (n : Nat) (x : List (Nat × Nat)) : (setHostAt s n x).power = s.power := rfl
@[simp] theorem setHostAt_test (s : State) (n : Nat) (x : List (Nat × Nat)) : (setHostAt s n x).test = s.test := rfl
@[simp] theorem setHostAt_sec (s : State) (n : Nat) (x : List (Nat × Nat)) : (setHostAt s n x).sec = s.sec := rfl
@[simp] theorem setHostAt_freeCount (s : State) (n : Nat) (x : List (Nat × Nat)) : (setHostAt s n x).freeCount = s.freeCount := rfl
@[simp] theorem setHostAt_pending (s : State) (n : Nat) (x : List (Nat × Nat)) : (setHostAt s n x).pending = s.pending := rfl
@[simp] theorem setHostAt_rd (s : State) (n : Nat) (x : List (Nat × Nat)) (f : Field) (i j : Nat) : rd (setHostAt s n x) f i j = rd s f i j := rfl
@[simp] theorem setHostAt_rdE (s : State) (n : Nat) (x : List (Nat × Nat)) (f : Field) (i j : Nat) : rdE (setHostAt s n x) f i j = rdE s f i j := rfl

/-! setLineAt -/

@[simp] theorem setLineAt_fld (s : State) (n v : Nat) : (setLineAt s n v).fld = s.fld := rfl
@[simp] theorem setLineAt_eff (s : State) (n v : Nat) : (setLineAt s n v).eff = s.eff := rfl
@[simp] theorem setLineAt_time (s : State) (n v : Nat) : (setLineAt s n v).time = s.time := rfl
@[simp] theorem setLineAt_obs (s : State) (n v : Nat) : (setLineAt s n v).obs = s.obs := rfl
@[simp] theorem setLineAt_lanes (s : State) (n v : Nat) : (setLineAt s n v).lanes = s.lanes := rfl
@[simp] theorem setLineAt_link (s : State) (n v : Nat) : (setLineAt s n v).link = s.link := rfl
@[simp] theorem setLineAt_aside (s : State) (n v : Nat) : (setLineAt s n v).aside = s.aside := rfl
@[simp] theorem setLineAt_ctl (s : State) (n v : Nat) : (setLineAt s n v).ctl = s.ctl := rfl
@[simp] theorem setLineAt_cal (s : State) (n v : Nat) : (setLineAt s n v).cal = s.cal := rfl
@[simp] theorem setLineAt_mgmt (s : State) (n v : Nat) : (setLineAt s n v).mgmt = s.mgmt := rfl
@[simp] theorem setLineAt_mem (s : State) (n v : Nat) : (setLineAt s n v).mem = s.mem := rfl
@[simp] theorem setLineAt_book (s : State) (n v : Nat) : (setLineAt s n v).book = s.book := rfl
@[simp] theorem setLineAt_faults (s : State) (n v : Nat) : (setLineAt s n v).faults = s.faults := rfl
@[simp] theorem setLineAt_power (s : State) (n v : Nat) : (setLineAt s n v).power = s.power := rfl
@[simp] theorem setLineAt_test (s : State) (n v : Nat) : (setLineAt s n v).test = s.test := rfl
@[simp] theorem setLineAt_sec (s : State) (n v : Nat) : (setLineAt s n v).sec = s.sec := rfl
@[simp] theorem setLineAt_freeCount (s : State) (n v : Nat) : (setLineAt s n v).freeCount = s.freeCount := rfl
@[simp] theorem setLineAt_pending (s : State) (n v : Nat) : (setLineAt s n v).pending = s.pending := rfl
@[simp] theorem setLineAt_rd (s : State) (n v : Nat) (f : Field) (i j : Nat) : rd (setLineAt s n v) f i j = rd s f i j := rfl
@[simp] theorem setLineAt_rdE (s : State) (n v : Nat) (f : Field) (i j : Nat) : rdE (setLineAt s n v) f i j = rdE s f i j := rfl

/-! setSlip -/

@[simp] theorem setSlip_fld (s : State) (l : LaneId) (v : Nat) : (setSlip s l v).fld = s.fld := by cases l <;> rfl
@[simp] theorem setSlip_eff (s : State) (l : LaneId) (v : Nat) : (setSlip s l v).eff = s.eff := by cases l <;> rfl
@[simp] theorem setSlip_time (s : State) (l : LaneId) (v : Nat) : (setSlip s l v).time = s.time := by cases l <;> rfl
@[simp] theorem setSlip_obs (s : State) (l : LaneId) (v : Nat) : (setSlip s l v).obs = s.obs := by cases l <;> rfl
@[simp] theorem setSlip_lanes (s : State) (l : LaneId) (v : Nat) : (setSlip s l v).lanes = s.lanes := by cases l <;> rfl
@[simp] theorem setSlip_link (s : State) (l : LaneId) (v : Nat) : (setSlip s l v).link = s.link := by cases l <;> rfl
@[simp] theorem setSlip_aside (s : State) (l : LaneId) (v : Nat) : (setSlip s l v).aside = s.aside := by cases l <;> rfl
@[simp] theorem setSlip_ctl (s : State) (l : LaneId) (v : Nat) : (setSlip s l v).ctl = s.ctl := by cases l <;> rfl
@[simp] theorem setSlip_cal (s : State) (l : LaneId) (v : Nat) : (setSlip s l v).cal = s.cal := by cases l <;> rfl
@[simp] theorem setSlip_mgmt (s : State) (l : LaneId) (v : Nat) : (setSlip s l v).mgmt = s.mgmt := by cases l <;> rfl
@[simp] theorem setSlip_mem (s : State) (l : LaneId) (v : Nat) : (setSlip s l v).mem = s.mem := by cases l <;> rfl
@[simp] theorem setSlip_book (s : State) (l : LaneId) (v : Nat) : (setSlip s l v).book = s.book := by cases l <;> rfl
@[simp] theorem setSlip_faults (s : State) (l : LaneId) (v : Nat) : (setSlip s l v).faults = s.faults := by cases l <;> rfl
@[simp] theorem setSlip_power (s : State) (l : LaneId) (v : Nat) : (setSlip s l v).power = s.power := by cases l <;> rfl
@[simp] theorem setSlip_test (s : State) (l : LaneId) (v : Nat) : (setSlip s l v).test = s.test := by cases l <;> rfl
@[simp] theorem setSlip_sec (s : State) (l : LaneId) (v : Nat) : (setSlip s l v).sec = s.sec := by cases l <;> rfl
@[simp] theorem setSlip_freeCount (s : State) (l : LaneId) (v : Nat) : (setSlip s l v).freeCount = s.freeCount := by cases l <;> rfl
@[simp] theorem setSlip_pending (s : State) (l : LaneId) (v : Nat) : (setSlip s l v).pending = s.pending := by cases l <;> rfl
@[simp] theorem setSlip_rd (s : State) (l : LaneId) (v : Nat) (f : Field) (i j : Nat) : rd (setSlip s l v) f i j = rd s f i j := by cases l <;> rfl
@[simp] theorem setSlip_rdE (s : State) (l : LaneId) (v : Nat) (f : Field) (i j : Nat) : rdE (setSlip s l v) f i j = rdE s f i j := by cases l <;> rfl

/-! setLink -/

@[simp] theorem setLink_fld (s : State) (p : Nat) (x : LinkPort) : (setLink s p x).fld = s.fld := rfl
@[simp] theorem setLink_eff (s : State) (p : Nat) (x : LinkPort) : (setLink s p x).eff = s.eff := rfl
@[simp] theorem setLink_time (s : State) (p : Nat) (x : LinkPort) : (setLink s p x).time = s.time := rfl
@[simp] theorem setLink_obs (s : State) (p : Nat) (x : LinkPort) : (setLink s p x).obs = s.obs := rfl
@[simp] theorem setLink_lanes (s : State) (p : Nat) (x : LinkPort) : (setLink s p x).lanes = s.lanes := rfl
@[simp] theorem setLink_path (s : State) (p : Nat) (x : LinkPort) : (setLink s p x).path = s.path := rfl
@[simp] theorem setLink_aside (s : State) (p : Nat) (x : LinkPort) : (setLink s p x).aside = s.aside := rfl
@[simp] theorem setLink_ctl (s : State) (p : Nat) (x : LinkPort) : (setLink s p x).ctl = s.ctl := rfl
@[simp] theorem setLink_cal (s : State) (p : Nat) (x : LinkPort) : (setLink s p x).cal = s.cal := rfl
@[simp] theorem setLink_mgmt (s : State) (p : Nat) (x : LinkPort) : (setLink s p x).mgmt = s.mgmt := rfl
@[simp] theorem setLink_mem (s : State) (p : Nat) (x : LinkPort) : (setLink s p x).mem = s.mem := rfl
@[simp] theorem setLink_book (s : State) (p : Nat) (x : LinkPort) : (setLink s p x).book = s.book := rfl
@[simp] theorem setLink_faults (s : State) (p : Nat) (x : LinkPort) : (setLink s p x).faults = s.faults := rfl
@[simp] theorem setLink_power (s : State) (p : Nat) (x : LinkPort) : (setLink s p x).power = s.power := rfl
@[simp] theorem setLink_test (s : State) (p : Nat) (x : LinkPort) : (setLink s p x).test = s.test := rfl
@[simp] theorem setLink_sec (s : State) (p : Nat) (x : LinkPort) : (setLink s p x).sec = s.sec := rfl
@[simp] theorem setLink_freeCount (s : State) (p : Nat) (x : LinkPort) : (setLink s p x).freeCount = s.freeCount := rfl
@[simp] theorem setLink_pending (s : State) (p : Nat) (x : LinkPort) : (setLink s p x).pending = s.pending := rfl
@[simp] theorem setLink_rd (s : State) (p : Nat) (x : LinkPort) (f : Field) (i j : Nat) : rd (setLink s p x) f i j = rd s f i j := rfl
@[simp] theorem setLink_rdE (s : State) (p : Nat) (x : LinkPort) (f : Field) (i j : Nat) : rdE (setLink s p x) f i j = rdE s f i j := rfl

/-! setShowClock -/

@[simp] theorem setShowClock_fld (s : State) (p : Nat) (d : Dir) (x : ShowClock) : (setShowClock s p d x).fld = s.fld := by cases d <;> rfl
@[simp] theorem setShowClock_eff (s : State) (p : Nat) (d : Dir) (x : ShowClock) : (setShowClock s p d x).eff = s.eff := by cases d <;> rfl
@[simp] theorem setShowClock_obs (s : State) (p : Nat) (d : Dir) (x : ShowClock) : (setShowClock s p d x).obs = s.obs := by cases d <;> rfl
@[simp] theorem setShowClock_lanes (s : State) (p : Nat) (d : Dir) (x : ShowClock) : (setShowClock s p d x).lanes = s.lanes := by cases d <;> rfl
@[simp] theorem setShowClock_link (s : State) (p : Nat) (d : Dir) (x : ShowClock) : (setShowClock s p d x).link = s.link := by cases d <;> rfl
@[simp] theorem setShowClock_path (s : State) (p : Nat) (d : Dir) (x : ShowClock) : (setShowClock s p d x).path = s.path := by cases d <;> rfl
@[simp] theorem setShowClock_aside (s : State) (p : Nat) (d : Dir) (x : ShowClock) : (setShowClock s p d x).aside = s.aside := by cases d <;> rfl
@[simp] theorem setShowClock_ctl (s : State) (p : Nat) (d : Dir) (x : ShowClock) : (setShowClock s p d x).ctl = s.ctl := by cases d <;> rfl
@[simp] theorem setShowClock_cal (s : State) (p : Nat) (d : Dir) (x : ShowClock) : (setShowClock s p d x).cal = s.cal := by cases d <;> rfl
@[simp] theorem setShowClock_mgmt (s : State) (p : Nat) (d : Dir) (x : ShowClock) : (setShowClock s p d x).mgmt = s.mgmt := by cases d <;> rfl
@[simp] theorem setShowClock_mem (s : State) (p : Nat) (d : Dir) (x : ShowClock) : (setShowClock s p d x).mem = s.mem := by cases d <;> rfl
@[simp] theorem setShowClock_book (s : State) (p : Nat) (d : Dir) (x : ShowClock) : (setShowClock s p d x).book = s.book := by cases d <;> rfl
@[simp] theorem setShowClock_faults (s : State) (p : Nat) (d : Dir) (x : ShowClock) : (setShowClock s p d x).faults = s.faults := by cases d <;> rfl
@[simp] theorem setShowClock_power (s : State) (p : Nat) (d : Dir) (x : ShowClock) : (setShowClock s p d x).power = s.power := by cases d <;> rfl
@[simp] theorem setShowClock_test (s : State) (p : Nat) (d : Dir) (x : ShowClock) : (setShowClock s p d x).test = s.test := by cases d <;> rfl
@[simp] theorem setShowClock_sec (s : State) (p : Nat) (d : Dir) (x : ShowClock) : (setShowClock s p d x).sec = s.sec := by cases d <;> rfl
@[simp] theorem setShowClock_freeCount (s : State) (p : Nat) (d : Dir) (x : ShowClock) : (setShowClock s p d x).freeCount = s.freeCount := by cases d <;> rfl
@[simp] theorem setShowClock_pending (s : State) (p : Nat) (d : Dir) (x : ShowClock) : (setShowClock s p d x).pending = s.pending := by cases d <;> rfl
@[simp] theorem setShowClock_rd (s : State) (p : Nat) (d : Dir) (x : ShowClock) (f : Field) (i j : Nat) : rd (setShowClock s p d x) f i j = rd s f i j := by cases d <;> rfl
@[simp] theorem setShowClock_rdE (s : State) (p : Nat) (d : Dir) (x : ShowClock) (f : Field) (i j : Nat) : rdE (setShowClock s p d x) f i j = rdE s f i j := by cases d <;> rfl

/-! setFreewheel -/

@[simp] theorem setFreewheel_fld (s : State) (p : Nat) (d : Dir) (b : Bool) : (setFreewheel s p d b).fld = s.fld := by cases d <;> rfl
@[simp] theorem setFreewheel_eff (s : State) (p : Nat) (d : Dir) (b : Bool) : (setFreewheel s p d b).eff = s.eff := by cases d <;> rfl
@[simp] theorem setFreewheel_obs (s : State) (p : Nat) (d : Dir) (b : Bool) : (setFreewheel s p d b).obs = s.obs := by cases d <;> rfl
@[simp] theorem setFreewheel_lanes (s : State) (p : Nat) (d : Dir) (b : Bool) : (setFreewheel s p d b).lanes = s.lanes := by cases d <;> rfl
@[simp] theorem setFreewheel_link (s : State) (p : Nat) (d : Dir) (b : Bool) : (setFreewheel s p d b).link = s.link := by cases d <;> rfl
@[simp] theorem setFreewheel_path (s : State) (p : Nat) (d : Dir) (b : Bool) : (setFreewheel s p d b).path = s.path := by cases d <;> rfl
@[simp] theorem setFreewheel_aside (s : State) (p : Nat) (d : Dir) (b : Bool) : (setFreewheel s p d b).aside = s.aside := by cases d <;> rfl
@[simp] theorem setFreewheel_ctl (s : State) (p : Nat) (d : Dir) (b : Bool) : (setFreewheel s p d b).ctl = s.ctl := by cases d <;> rfl
@[simp] theorem setFreewheel_cal (s : State) (p : Nat) (d : Dir) (b : Bool) : (setFreewheel s p d b).cal = s.cal := by cases d <;> rfl
@[simp] theorem setFreewheel_mgmt (s : State) (p : Nat) (d : Dir) (b : Bool) : (setFreewheel s p d b).mgmt = s.mgmt := by cases d <;> rfl
@[simp] theorem setFreewheel_mem (s : State) (p : Nat) (d : Dir) (b : Bool) : (setFreewheel s p d b).mem = s.mem := by cases d <;> rfl
@[simp] theorem setFreewheel_book (s : State) (p : Nat) (d : Dir) (b : Bool) : (setFreewheel s p d b).book = s.book := by cases d <;> rfl
@[simp] theorem setFreewheel_faults (s : State) (p : Nat) (d : Dir) (b : Bool) : (setFreewheel s p d b).faults = s.faults := by cases d <;> rfl
@[simp] theorem setFreewheel_power (s : State) (p : Nat) (d : Dir) (b : Bool) : (setFreewheel s p d b).power = s.power := by cases d <;> rfl
@[simp] theorem setFreewheel_test (s : State) (p : Nat) (d : Dir) (b : Bool) : (setFreewheel s p d b).test = s.test := by cases d <;> rfl
@[simp] theorem setFreewheel_sec (s : State) (p : Nat) (d : Dir) (b : Bool) : (setFreewheel s p d b).sec = s.sec := by cases d <;> rfl
@[simp] theorem setFreewheel_freeCount (s : State) (p : Nat) (d : Dir) (b : Bool) : (setFreewheel s p d b).freeCount = s.freeCount := by cases d <;> rfl
@[simp] theorem setFreewheel_pending (s : State) (p : Nat) (d : Dir) (b : Bool) : (setFreewheel s p d b).pending = s.pending := by cases d <;> rfl
@[simp] theorem setFreewheel_rd (s : State) (p : Nat) (d : Dir) (b : Bool) (f : Field) (i j : Nat) : rd (setFreewheel s p d b) f i j = rd s f i j := by cases d <;> rfl
@[simp] theorem setFreewheel_rdE (s : State) (p : Nat) (d : Dir) (b : Bool) (f : Field) (i j : Nat) : rdE (setFreewheel s p d b) f i j = rdE s f i j := by cases d <;> rfl

/-! setPaired -/

@[simp] theorem setPaired_fld (s : State) (p : Nat) (b : Bool) : (setPaired s p b).fld = s.fld := rfl
@[simp] theorem setPaired_eff (s : State) (p : Nat) (b : Bool) : (setPaired s p b).eff = s.eff := rfl
@[simp] theorem setPaired_obs (s : State) (p : Nat) (b : Bool) : (setPaired s p b).obs = s.obs := rfl
@[simp] theorem setPaired_lanes (s : State) (p : Nat) (b : Bool) : (setPaired s p b).lanes = s.lanes := rfl
@[simp] theorem setPaired_link (s : State) (p : Nat) (b : Bool) : (setPaired s p b).link = s.link := rfl
@[simp] theorem setPaired_path (s : State) (p : Nat) (b : Bool) : (setPaired s p b).path = s.path := rfl
@[simp] theorem setPaired_aside (s : State) (p : Nat) (b : Bool) : (setPaired s p b).aside = s.aside := rfl
@[simp] theorem setPaired_ctl (s : State) (p : Nat) (b : Bool) : (setPaired s p b).ctl = s.ctl := rfl
@[simp] theorem setPaired_cal (s : State) (p : Nat) (b : Bool) : (setPaired s p b).cal = s.cal := rfl
@[simp] theorem setPaired_mgmt (s : State) (p : Nat) (b : Bool) : (setPaired s p b).mgmt = s.mgmt := rfl
@[simp] theorem setPaired_mem (s : State) (p : Nat) (b : Bool) : (setPaired s p b).mem = s.mem := rfl
@[simp] theorem setPaired_book (s : State) (p : Nat) (b : Bool) : (setPaired s p b).book = s.book := rfl
@[simp] theorem setPaired_faults (s : State) (p : Nat) (b : Bool) : (setPaired s p b).faults = s.faults := rfl
@[simp] theorem setPaired_power (s : State) (p : Nat) (b : Bool) : (setPaired s p b).power = s.power := rfl
@[simp] theorem setPaired_test (s : State) (p : Nat) (b : Bool) : (setPaired s p b).test = s.test := rfl
@[simp] theorem setPaired_sec (s : State) (p : Nat) (b : Bool) : (setPaired s p b).sec = s.sec := rfl
@[simp] theorem setPaired_freeCount (s : State) (p : Nat) (b : Bool) : (setPaired s p b).freeCount = s.freeCount := rfl
@[simp] theorem setPaired_pending (s : State) (p : Nat) (b : Bool) : (setPaired s p b).pending = s.pending := rfl
@[simp] theorem setPaired_rd (s : State) (p : Nat) (b : Bool) (f : Field) (i j : Nat) : rd (setPaired s p b) f i j = rd s f i j := rfl
@[simp] theorem setPaired_rdE (s : State) (p : Nat) (b : Bool) (f : Field) (i j : Nat) : rdE (setPaired s p b) f i j = rdE s f i j := rfl

/-! setLap -/

@[simp] theorem setLap_fld (s : State) (l : LaneId) (x : Option Lap) : (setLap s l x).fld = s.fld := by cases l <;> rfl
@[simp] theorem setLap_eff (s : State) (l : LaneId) (x : Option Lap) : (setLap s l x).eff = s.eff := by cases l <;> rfl
@[simp] theorem setLap_time (s : State) (l : LaneId) (x : Option Lap) : (setLap s l x).time = s.time := by cases l <;> rfl
@[simp] theorem setLap_obs (s : State) (l : LaneId) (x : Option Lap) : (setLap s l x).obs = s.obs := by cases l <;> rfl
@[simp] theorem setLap_lanes (s : State) (l : LaneId) (x : Option Lap) : (setLap s l x).lanes = s.lanes := by cases l <;> rfl
@[simp] theorem setLap_link (s : State) (l : LaneId) (x : Option Lap) : (setLap s l x).link = s.link := by cases l <;> rfl
@[simp] theorem setLap_path (s : State) (l : LaneId) (x : Option Lap) : (setLap s l x).path = s.path := by cases l <;> rfl
@[simp] theorem setLap_aside (s : State) (l : LaneId) (x : Option Lap) : (setLap s l x).aside = s.aside := by cases l <;> rfl
@[simp] theorem setLap_ctl (s : State) (l : LaneId) (x : Option Lap) : (setLap s l x).ctl = s.ctl := by cases l <;> rfl
@[simp] theorem setLap_mgmt (s : State) (l : LaneId) (x : Option Lap) : (setLap s l x).mgmt = s.mgmt := by cases l <;> rfl
@[simp] theorem setLap_mem (s : State) (l : LaneId) (x : Option Lap) : (setLap s l x).mem = s.mem := by cases l <;> rfl
@[simp] theorem setLap_book (s : State) (l : LaneId) (x : Option Lap) : (setLap s l x).book = s.book := by cases l <;> rfl
@[simp] theorem setLap_faults (s : State) (l : LaneId) (x : Option Lap) : (setLap s l x).faults = s.faults := by cases l <;> rfl
@[simp] theorem setLap_power (s : State) (l : LaneId) (x : Option Lap) : (setLap s l x).power = s.power := by cases l <;> rfl
@[simp] theorem setLap_test (s : State) (l : LaneId) (x : Option Lap) : (setLap s l x).test = s.test := by cases l <;> rfl
@[simp] theorem setLap_sec (s : State) (l : LaneId) (x : Option Lap) : (setLap s l x).sec = s.sec := by cases l <;> rfl
@[simp] theorem setLap_freeCount (s : State) (l : LaneId) (x : Option Lap) : (setLap s l x).freeCount = s.freeCount := by cases l <;> rfl
@[simp] theorem setLap_pending (s : State) (l : LaneId) (x : Option Lap) : (setLap s l x).pending = s.pending := by cases l <;> rfl
@[simp] theorem setLap_rd (s : State) (l : LaneId) (x : Option Lap) (f : Field) (i j : Nat) : rd (setLap s l x) f i j = rd s f i j := by cases l <;> rfl
@[simp] theorem setLap_rdE (s : State) (l : LaneId) (x : Option Lap) (f : Field) (i j : Nat) : rdE (setLap s l x) f i j = rdE s f i j := by cases l <;> rfl

/-! setBdac -/

@[simp] theorem setBdac_fld (s : State) (c : Nat) (x : BdacChan) : (setBdac s c x).fld = s.fld := rfl
@[simp] theorem setBdac_eff (s : State) (c : Nat) (x : BdacChan) : (setBdac s c x).eff = s.eff := rfl
@[simp] theorem setBdac_time (s : State) (c : Nat) (x : BdacChan) : (setBdac s c x).time = s.time := rfl
@[simp] theorem setBdac_obs (s : State) (c : Nat) (x : BdacChan) : (setBdac s c x).obs = s.obs := rfl
@[simp] theorem setBdac_lanes (s : State) (c : Nat) (x : BdacChan) : (setBdac s c x).lanes = s.lanes := rfl
@[simp] theorem setBdac_link (s : State) (c : Nat) (x : BdacChan) : (setBdac s c x).link = s.link := rfl
@[simp] theorem setBdac_path (s : State) (c : Nat) (x : BdacChan) : (setBdac s c x).path = s.path := rfl
@[simp] theorem setBdac_aside (s : State) (c : Nat) (x : BdacChan) : (setBdac s c x).aside = s.aside := rfl
@[simp] theorem setBdac_cal (s : State) (c : Nat) (x : BdacChan) : (setBdac s c x).cal = s.cal := rfl
@[simp] theorem setBdac_mgmt (s : State) (c : Nat) (x : BdacChan) : (setBdac s c x).mgmt = s.mgmt := rfl
@[simp] theorem setBdac_mem (s : State) (c : Nat) (x : BdacChan) : (setBdac s c x).mem = s.mem := rfl
@[simp] theorem setBdac_book (s : State) (c : Nat) (x : BdacChan) : (setBdac s c x).book = s.book := rfl
@[simp] theorem setBdac_faults (s : State) (c : Nat) (x : BdacChan) : (setBdac s c x).faults = s.faults := rfl
@[simp] theorem setBdac_power (s : State) (c : Nat) (x : BdacChan) : (setBdac s c x).power = s.power := rfl
@[simp] theorem setBdac_test (s : State) (c : Nat) (x : BdacChan) : (setBdac s c x).test = s.test := rfl
@[simp] theorem setBdac_sec (s : State) (c : Nat) (x : BdacChan) : (setBdac s c x).sec = s.sec := rfl
@[simp] theorem setBdac_freeCount (s : State) (c : Nat) (x : BdacChan) : (setBdac s c x).freeCount = s.freeCount := rfl
@[simp] theorem setBdac_pending (s : State) (c : Nat) (x : BdacChan) : (setBdac s c x).pending = s.pending := rfl
@[simp] theorem setBdac_rd (s : State) (c : Nat) (x : BdacChan) (f : Field) (i j : Nat) : rd (setBdac s c x) f i j = rd s f i j := rfl
@[simp] theorem setBdac_rdE (s : State) (c : Nat) (x : BdacChan) (f : Field) (i j : Nat) : rdE (setBdac s c x) f i j = rdE s f i j := rfl

/-! setSense -/

@[simp] theorem setSense_fld (s : State) (n : Nat) (x : SenseChan) : (setSense s n x).fld = s.fld := rfl
@[simp] theorem setSense_eff (s : State) (n : Nat) (x : SenseChan) : (setSense s n x).eff = s.eff := rfl
@[simp] theorem setSense_time (s : State) (n : Nat) (x : SenseChan) : (setSense s n x).time = s.time := rfl
@[simp] theorem setSense_obs (s : State) (n : Nat) (x : SenseChan) : (setSense s n x).obs = s.obs := rfl
@[simp] theorem setSense_lanes (s : State) (n : Nat) (x : SenseChan) : (setSense s n x).lanes = s.lanes := rfl
@[simp] theorem setSense_link (s : State) (n : Nat) (x : SenseChan) : (setSense s n x).link = s.link := rfl
@[simp] theorem setSense_path (s : State) (n : Nat) (x : SenseChan) : (setSense s n x).path = s.path := rfl
@[simp] theorem setSense_aside (s : State) (n : Nat) (x : SenseChan) : (setSense s n x).aside = s.aside := rfl
@[simp] theorem setSense_cal (s : State) (n : Nat) (x : SenseChan) : (setSense s n x).cal = s.cal := rfl
@[simp] theorem setSense_mgmt (s : State) (n : Nat) (x : SenseChan) : (setSense s n x).mgmt = s.mgmt := rfl
@[simp] theorem setSense_mem (s : State) (n : Nat) (x : SenseChan) : (setSense s n x).mem = s.mem := rfl
@[simp] theorem setSense_book (s : State) (n : Nat) (x : SenseChan) : (setSense s n x).book = s.book := rfl
@[simp] theorem setSense_faults (s : State) (n : Nat) (x : SenseChan) : (setSense s n x).faults = s.faults := rfl
@[simp] theorem setSense_power (s : State) (n : Nat) (x : SenseChan) : (setSense s n x).power = s.power := rfl
@[simp] theorem setSense_test (s : State) (n : Nat) (x : SenseChan) : (setSense s n x).test = s.test := rfl
@[simp] theorem setSense_sec (s : State) (n : Nat) (x : SenseChan) : (setSense s n x).sec = s.sec := rfl
@[simp] theorem setSense_freeCount (s : State) (n : Nat) (x : SenseChan) : (setSense s n x).freeCount = s.freeCount := rfl
@[simp] theorem setSense_pending (s : State) (n : Nat) (x : SenseChan) : (setSense s n x).pending = s.pending := rfl
@[simp] theorem setSense_rd (s : State) (n : Nat) (x : SenseChan) (f : Field) (i j : Nat) : rd (setSense s n x) f i j = rd s f i j := rfl
@[simp] theorem setSense_rdE (s : State) (n : Nat) (x : SenseChan) (f : Field) (i j : Nat) : rdE (setSense s n x) f i j = rdE s f i j := rfl

/-! setLoop -/

@[simp] theorem setLoop_fld (s : State) (l : Nat) (x : LoopRec) : (setLoop s l x).fld = s.fld := rfl
@[simp] theorem setLoop_eff (s : State) (l : Nat) (x : LoopRec) : (setLoop s l x).eff = s.eff := rfl
@[simp] theorem setLoop_time (s : State) (l : Nat) (x : LoopRec) : (setLoop s l x).time = s.time := rfl
@[simp] theorem setLoop_obs (s : State) (l : Nat) (x : LoopRec) : (setLoop s l x).obs = s.obs := rfl
@[simp] theorem setLoop_lanes (s : State) (l : Nat) (x : LoopRec) : (setLoop s l x).lanes = s.lanes := rfl
@[simp] theorem setLoop_link (s : State) (l : Nat) (x : LoopRec) : (setLoop s l x).link = s.link := rfl
@[simp] theorem setLoop_path (s : State) (l : Nat) (x : LoopRec) : (setLoop s l x).path = s.path := rfl
@[simp] theorem setLoop_aside (s : State) (l : Nat) (x : LoopRec) : (setLoop s l x).aside = s.aside := rfl
@[simp] theorem setLoop_cal (s : State) (l : Nat) (x : LoopRec) : (setLoop s l x).cal = s.cal := rfl
@[simp] theorem setLoop_mgmt (s : State) (l : Nat) (x : LoopRec) : (setLoop s l x).mgmt = s.mgmt := rfl
@[simp] theorem setLoop_mem (s : State) (l : Nat) (x : LoopRec) : (setLoop s l x).mem = s.mem := rfl
@[simp] theorem setLoop_book (s : State) (l : Nat) (x : LoopRec) : (setLoop s l x).book = s.book := rfl
@[simp] theorem setLoop_faults (s : State) (l : Nat) (x : LoopRec) : (setLoop s l x).faults = s.faults := rfl
@[simp] theorem setLoop_power (s : State) (l : Nat) (x : LoopRec) : (setLoop s l x).power = s.power := rfl
@[simp] theorem setLoop_test (s : State) (l : Nat) (x : LoopRec) : (setLoop s l x).test = s.test := rfl
@[simp] theorem setLoop_sec (s : State) (l : Nat) (x : LoopRec) : (setLoop s l x).sec = s.sec := rfl
@[simp] theorem setLoop_freeCount (s : State) (l : Nat) (x : LoopRec) : (setLoop s l x).freeCount = s.freeCount := rfl
@[simp] theorem setLoop_pending (s : State) (l : Nat) (x : LoopRec) : (setLoop s l x).pending = s.pending := rfl
@[simp] theorem setLoop_rd (s : State) (l : Nat) (x : LoopRec) (f : Field) (i j : Nat) : rd (setLoop s l x) f i j = rd s f i j := rfl
@[simp] theorem setLoop_rdE (s : State) (l : Nat) (x : LoopRec) (f : Field) (i j : Nat) : rdE (setLoop s l x) f i j = rdE s f i j := rfl

/-! setSnapBank -/

@[simp] theorem setSnapBank_fld (s : State) (b : Nat) (x : SnapBank) : (setSnapBank s b x).fld = s.fld := rfl
@[simp] theorem setSnapBank_eff (s : State) (b : Nat) (x : SnapBank) : (setSnapBank s b x).eff = s.eff := rfl
@[simp] theorem setSnapBank_time (s : State) (b : Nat) (x : SnapBank) : (setSnapBank s b x).time = s.time := rfl
@[simp] theorem setSnapBank_lanes (s : State) (b : Nat) (x : SnapBank) : (setSnapBank s b x).lanes = s.lanes := rfl
@[simp] theorem setSnapBank_link (s : State) (b : Nat) (x : SnapBank) : (setSnapBank s b x).link = s.link := rfl
@[simp] theorem setSnapBank_path (s : State) (b : Nat) (x : SnapBank) : (setSnapBank s b x).path = s.path := rfl
@[simp] theorem setSnapBank_aside (s : State) (b : Nat) (x : SnapBank) : (setSnapBank s b x).aside = s.aside := rfl
@[simp] theorem setSnapBank_ctl (s : State) (b : Nat) (x : SnapBank) : (setSnapBank s b x).ctl = s.ctl := rfl
@[simp] theorem setSnapBank_cal (s : State) (b : Nat) (x : SnapBank) : (setSnapBank s b x).cal = s.cal := rfl
@[simp] theorem setSnapBank_mgmt (s : State) (b : Nat) (x : SnapBank) : (setSnapBank s b x).mgmt = s.mgmt := rfl
@[simp] theorem setSnapBank_mem (s : State) (b : Nat) (x : SnapBank) : (setSnapBank s b x).mem = s.mem := rfl
@[simp] theorem setSnapBank_book (s : State) (b : Nat) (x : SnapBank) : (setSnapBank s b x).book = s.book := rfl
@[simp] theorem setSnapBank_faults (s : State) (b : Nat) (x : SnapBank) : (setSnapBank s b x).faults = s.faults := rfl
@[simp] theorem setSnapBank_power (s : State) (b : Nat) (x : SnapBank) : (setSnapBank s b x).power = s.power := rfl
@[simp] theorem setSnapBank_test (s : State) (b : Nat) (x : SnapBank) : (setSnapBank s b x).test = s.test := rfl
@[simp] theorem setSnapBank_sec (s : State) (b : Nat) (x : SnapBank) : (setSnapBank s b x).sec = s.sec := rfl
@[simp] theorem setSnapBank_freeCount (s : State) (b : Nat) (x : SnapBank) : (setSnapBank s b x).freeCount = s.freeCount := rfl
@[simp] theorem setSnapBank_pending (s : State) (b : Nat) (x : SnapBank) : (setSnapBank s b x).pending = s.pending := rfl
@[simp] theorem setSnapBank_rd (s : State) (b : Nat) (x : SnapBank) (f : Field) (i j : Nat) : rd (setSnapBank s b x) f i j = rd s f i j := rfl
@[simp] theorem setSnapBank_rdE (s : State) (b : Nat) (x : SnapBank) (f : Field) (i j : Nat) : rdE (setSnapBank s b x) f i j = rdE s f i j := rfl

/-! setBucket -/

@[simp] theorem setBucket_fld (s : State) (b : Nat) (x : FlowBucket) : (setBucket s b x).fld = s.fld := rfl
@[simp] theorem setBucket_eff (s : State) (b : Nat) (x : FlowBucket) : (setBucket s b x).eff = s.eff := rfl
@[simp] theorem setBucket_time (s : State) (b : Nat) (x : FlowBucket) : (setBucket s b x).time = s.time := rfl
@[simp] theorem setBucket_lanes (s : State) (b : Nat) (x : FlowBucket) : (setBucket s b x).lanes = s.lanes := rfl
@[simp] theorem setBucket_link (s : State) (b : Nat) (x : FlowBucket) : (setBucket s b x).link = s.link := rfl
@[simp] theorem setBucket_path (s : State) (b : Nat) (x : FlowBucket) : (setBucket s b x).path = s.path := rfl
@[simp] theorem setBucket_aside (s : State) (b : Nat) (x : FlowBucket) : (setBucket s b x).aside = s.aside := rfl
@[simp] theorem setBucket_ctl (s : State) (b : Nat) (x : FlowBucket) : (setBucket s b x).ctl = s.ctl := rfl
@[simp] theorem setBucket_cal (s : State) (b : Nat) (x : FlowBucket) : (setBucket s b x).cal = s.cal := rfl
@[simp] theorem setBucket_mgmt (s : State) (b : Nat) (x : FlowBucket) : (setBucket s b x).mgmt = s.mgmt := rfl
@[simp] theorem setBucket_mem (s : State) (b : Nat) (x : FlowBucket) : (setBucket s b x).mem = s.mem := rfl
@[simp] theorem setBucket_book (s : State) (b : Nat) (x : FlowBucket) : (setBucket s b x).book = s.book := rfl
@[simp] theorem setBucket_faults (s : State) (b : Nat) (x : FlowBucket) : (setBucket s b x).faults = s.faults := rfl
@[simp] theorem setBucket_power (s : State) (b : Nat) (x : FlowBucket) : (setBucket s b x).power = s.power := rfl
@[simp] theorem setBucket_test (s : State) (b : Nat) (x : FlowBucket) : (setBucket s b x).test = s.test := rfl
@[simp] theorem setBucket_sec (s : State) (b : Nat) (x : FlowBucket) : (setBucket s b x).sec = s.sec := rfl
@[simp] theorem setBucket_freeCount (s : State) (b : Nat) (x : FlowBucket) : (setBucket s b x).freeCount = s.freeCount := rfl
@[simp] theorem setBucket_pending (s : State) (b : Nat) (x : FlowBucket) : (setBucket s b x).pending = s.pending := rfl
@[simp] theorem setBucket_rd (s : State) (b : Nat) (x : FlowBucket) (f : Field) (i j : Nat) : rd (setBucket s b x) f i j = rd s f i j := rfl
@[simp] theorem setBucket_rdE (s : State) (b : Nat) (x : FlowBucket) (f : Field) (i j : Nat) : rdE (setBucket s b x) f i j = rdE s f i j := rfl

/-! setCtx -/

@[simp] theorem setCtx_fld (s : State) (c : Nat) (x : FlowCtx) : (setCtx s c x).fld = s.fld := rfl
@[simp] theorem setCtx_eff (s : State) (c : Nat) (x : FlowCtx) : (setCtx s c x).eff = s.eff := rfl
@[simp] theorem setCtx_time (s : State) (c : Nat) (x : FlowCtx) : (setCtx s c x).time = s.time := rfl
@[simp] theorem setCtx_lanes (s : State) (c : Nat) (x : FlowCtx) : (setCtx s c x).lanes = s.lanes := rfl
@[simp] theorem setCtx_link (s : State) (c : Nat) (x : FlowCtx) : (setCtx s c x).link = s.link := rfl
@[simp] theorem setCtx_path (s : State) (c : Nat) (x : FlowCtx) : (setCtx s c x).path = s.path := rfl
@[simp] theorem setCtx_aside (s : State) (c : Nat) (x : FlowCtx) : (setCtx s c x).aside = s.aside := rfl
@[simp] theorem setCtx_ctl (s : State) (c : Nat) (x : FlowCtx) : (setCtx s c x).ctl = s.ctl := rfl
@[simp] theorem setCtx_cal (s : State) (c : Nat) (x : FlowCtx) : (setCtx s c x).cal = s.cal := rfl
@[simp] theorem setCtx_mgmt (s : State) (c : Nat) (x : FlowCtx) : (setCtx s c x).mgmt = s.mgmt := rfl
@[simp] theorem setCtx_mem (s : State) (c : Nat) (x : FlowCtx) : (setCtx s c x).mem = s.mem := rfl
@[simp] theorem setCtx_book (s : State) (c : Nat) (x : FlowCtx) : (setCtx s c x).book = s.book := rfl
@[simp] theorem setCtx_faults (s : State) (c : Nat) (x : FlowCtx) : (setCtx s c x).faults = s.faults := rfl
@[simp] theorem setCtx_power (s : State) (c : Nat) (x : FlowCtx) : (setCtx s c x).power = s.power := rfl
@[simp] theorem setCtx_test (s : State) (c : Nat) (x : FlowCtx) : (setCtx s c x).test = s.test := rfl
@[simp] theorem setCtx_sec (s : State) (c : Nat) (x : FlowCtx) : (setCtx s c x).sec = s.sec := rfl
@[simp] theorem setCtx_freeCount (s : State) (c : Nat) (x : FlowCtx) : (setCtx s c x).freeCount = s.freeCount := rfl
@[simp] theorem setCtx_pending (s : State) (c : Nat) (x : FlowCtx) : (setCtx s c x).pending = s.pending := rfl
@[simp] theorem setCtx_rd (s : State) (c : Nat) (x : FlowCtx) (f : Field) (i j : Nat) : rd (setCtx s c x) f i j = rd s f i j := rfl
@[simp] theorem setCtx_rdE (s : State) (c : Nat) (x : FlowCtx) (f : Field) (i j : Nat) : rdE (setCtx s c x) f i j = rdE s f i j := rfl

/-! Reads back. -/

theorem vGet_vSet_same {α : Type} {k : Nat} (v : Vector α k) (n : Nat) (x d : α) (h : n < k) : vGet (vSet v n x) n d = x := by
  simp [vGet, vSet, h]

theorem vGet_vSet_other {α : Type} {k : Nat} (v : Vector α k) {n m : Nat} (x d : α) (h : m ≠ n) :
    vGet (vSet v n x) m d = vGet v m d := by
  simp [vGet, vSet, Ne.symm h]

@[simp] theorem rxRec_setRxRec (s : State) (l : LaneId) (x : RxRec) : rxRec (setRxRec s l x) l = x := by
  cases l <;> exact vGet_vSet_same _ _ _ _ (Fin.isLt _)
@[simp] theorem txRec_setTxRec (s : State) (l : LaneId) (x : TxRec) : txRec (setTxRec s l x) l = x := by
  cases l <;> exact vGet_vSet_same _ _ _ _ (Fin.isLt _)
@[simp] theorem front_setFront (s : State) (l : LaneId) (x : Front) : front (setFront s l x) l = x := by
  cases l <;> exact vGet_vSet_same _ _ _ _ (Fin.isLt _)
@[simp] theorem eqRec_setEqRec (s : State) (l : LaneId) (x : EqRec) : eqRec (setEqRec s l x) l = x := by
  cases l <;> exact vGet_vSet_same _ _ _ _ (Fin.isLt _)
@[simp] theorem front_setRxRec (s : State) (l k : LaneId) (x : RxRec) : front (setRxRec s l x) k = front s k := by
  cases l <;> cases k <;> rfl
@[simp] theorem eqRec_setRxRec (s : State) (l k : LaneId) (x : RxRec) : eqRec (setRxRec s l x) k = eqRec s k := by
  cases l <;> cases k <;> rfl
@[simp] theorem rxRec_setFront (s : State) (l k : LaneId) (x : Front) : rxRec (setFront s l x) k = rxRec s k := by
  cases l <;> cases k <;> rfl
@[simp] theorem rxRec_setEqRec (s : State) (l k : LaneId) (x : EqRec) : rxRec (setEqRec s l x) k = rxRec s k := by
  cases l <;> cases k <;> rfl
@[simp] theorem rxRec_setTxRec (s : State) (l k : LaneId) (x : TxRec) : rxRec (setTxRec s l x) k = rxRec s k := by
  cases l <;> cases k <;> rfl

end Sys2Proof.Machine
end

