-- ==== Sys2Proof/WellFormed.lean ====
section
/-! DEFINITION. Which commands are well formed: the checks on operands whose type admits more than a command can carry. An ill-formed
operand names nothing that can reach the block (log entry 127). -/

namespace Sys2Proof

/-- Codes of an ADC: seven bits, two's complement (R60, R183). -/
def codesWf (xs : List Int) : Bool := xs.all fun x => decide (-64 ≤ x) && decide (x ≤ 63)

/-- The lanes of a port bring codes: at most so many lanes. -/
def portCodesWf (lanes : Nat) (xs : List (List Int)) : Bool := decide (xs.length ≤ lanes) && xs.all codesWf

/-- The slices that a converter has in service (R61, R183). -/
def statCount (l : LaneId) : Nat := if l.isLine then 64 else 32

/-- A monitor window: 4,096 codes of each slice in service (R62). -/
def windowWfStatic (l : LaneId) (xs : List (List Int)) : Bool :=
  xs.length == statCount l && xs.all fun x => x.length == 4096 && codesWf x

/-- A command is well formed. -/
def Instr.wf : Instr → Bool
  | .ctleDwellEnd _ codes => codesWf codes
  | .vgaMeasurement _ codes => codesWf codes
  | .sliceMonitorWindow l codes => windowWfStatic l codes
  | .lockWindowEnd _ codes => codesWf codes
  | .spotCaptureEnd _ codes _ => codesWf codes
  | .eqUpdate _ codes => codesWf codes
  | .outlierWindowEnd _ codes => codesWf codes
  | .metricWindowEnd _ codes => codesWf codes
  | .tpcWindowEnd _ codes => codesWf codes
  | .hslTrackWindow _ codes => codesWf codes
  | .hostToLineCodeword _ codes _ => portCodesWf 16 codes
  | .lineToHostCodeword _ codes _ => portCodesWf 8 codes
  | .preambleDetect _ codes _ => codesWf codes
  | .payloadCrcFail _ codes => codesWf codes
  | .helloReceived _ codes => codesWf codes
  | .healthReceived _ codes => codesWf codes
  | .xadaptRequestReceived _ codes => codesWf codes
  | .xadaptFragmentReceived _ codes => codesWf codes
  | .cueProposeReceived _ codes => codesWf codes
  | .cueAckReceived _ codes => codesWf codes
  | .loadingProposeReceived _ codes => codesWf codes
  | .loadingConfirmReceived _ codes => codesWf codes
  | .tagPacketReceived _ codes => codesWf codes
  | .authChallengeReceived _ codes => codesWf codes
  | .authResponseReceived _ codes => codesWf codes
  | _ => true

end Sys2Proof
end

