-- ==== Sys2Proof/Tests/Slice0.lean ====
section
/-! SUPPORT. Tests: the checks of WellFormed refuse an ill-formed operand, a step runs the queue's front, some commands have
the effect that the manual's text or tables give, and every claim's hypotheses can be met (`meets_…`), clause by clause. -/

namespace Sys2Proof.Tests

open Sys2Proof Sys2Proof.Machine

/- One declaration at a time: the evaluations below are large. -/
set_option Elab.async false

/-! States that the tests start from. -/

/-- A state in which the device is up and Mexis serves its rings. -/
def up : State :=
  wr { State.reset with
    time := { State.reset.time with
      crystalRuns := true
      sysPllLocked := true }
    mgmt := { State.reset.mgmt with engineHeld := false }
    power := { State.reset.power with mode := .show, pwrEn := true }
    sec := { State.reset.sec with running := some 0 } } F.RING_STATUS_READY 1

/-- And port 0 has one line lane. -/
def ported : State := wrE up F.PCS_PORT_CTRL_WIDTH 1 0

/-- A descriptor whose words from the second on are these. -/
def cmd (ws : List Nat) : Cmd := ⟨7, false, 0, Vector.ofFn fun k : Fin 14 => BitVec.ofNat 32 (ws.getD k 0)⟩

/-- The state after a command. -/
def after (i : Instr) (s : State) : State :=
  match exec i s with
  | .next t => t
  | _ => s

/-- And 100 seconds later. -/
def late (s : State) : State := { s with time := { s.time with tick := s.time.tick + 5000000000 } }

/-- A short frame: addresses 1 and 2, type 0x0800. -/
def frame0 : List (BitVec 8) := [0, 0, 0, 0, 0, 1, 0, 0, 0, 0, 0, 2, 8, 0, 0, 0, 0, 0]

/-- The same with a VLAN tag. -/
def tagged0 : List (BitVec 8) := [0, 0, 0, 0, 0, 1, 0, 0, 0, 0, 0, 2, 0x81, 0, 0x31, 0x23, 8, 0, 0, 0, 0, 0]

/-- The flow table takes port 0's frames. -/
def flowing : State := wrE up F.FLOW_CFG_p_TX_EN 1 0

/-- And a frame of port 0 waits there. -/
def tapping (bs : List (BitVec 8)) : State := setTapped flowing 0 .tx [⟨bs, false, 9⟩]

/-- A snapshot taken and copied: bank 0. -/
def snapped : State := after (.snapCopyDone 0) (after (.snapCtrlTake false false false false) up)

/-- Bias DAC 0 enabled and driven by its code. -/
def biased : State := wr (wrE (wrE up F.BDAC_CTRL_c_EN 1 0) F.BDAC_CODE_c_CODE 1000 0) F.BDAC_STATUS_c_STATE 1 0

/-- Sense channel 0 enabled, with its filters off and its CIC at the end of a period. -/
def sensing : State := wrE (wrE (wrE (wrE up F.SNS_CTRL_n_EN 1 0) F.SNS_DEC_n_CIC_R 64 0) F.SNS_DEC_n_HB 0 0) F.SNS_DEC_n_FIR_D 0 0

/-- The line lane has its signal, its timing and a running equaliser. -/
def signal (s : State) (n : Nat) : State :=
  wr (wr (wr s F.LRX_STATUS_LOS 0 n) F.LRX_STATUS_LOL 0 n) F.LEQ_STATUS_STATE 2 n

/-- A marker lock that has found its logical lane. -/
def locked (i : Nat) : MarkerLock := ⟨2, i, false, i, false, 0, false, 100, 100, 0, 0⟩

/-- Port 0 with one lane, its link in a state and its lane in signal. -/
def linked (st : Nat) : State := wr (wrE (signal ported 0) F.PCS_PORT_CTRL_ADMIN_UP 1 0) F.PCS_LINK_STATUS_STATE st 0

/-- Port 0 with two lanes, DEGRADED: lane 1 is lost, and rejoins. -/
def degraded : State :=
  let s := wrE (linked 5) F.PCS_PORT_CTRL_WIDTH 2 0
  let t := wr (wr (signal s 1) F.PCS_LINK_STATUS_LOST 2 0) F.PCS_RX_MAP_USE_PHYS 0xFAC688 0
  setEqRec (setLock (setLock t 0 (locked 0)) 1 (locked 1)) (.line 1) { eqRec t (.line 1) with dd := true }

/-- Port 0 is UP, and the partner on its lane is cooperative. -/
def partnered : State :=
  let s := wr (wr (wr (linked 4) F.ASD_STATUS_UP 1 0) F.ASD_STATUS_PARTNER_PROFILE 2 0) F.ASD_PARTNER_INFO_CAPS 2 0
  wr (wrE s F.ASD_CTRL_PROFILE 2 0) F.ASD_STATUS_GATHERER 1 0

/-- The lane's lap over its slices. -/
def lapped (l : LaneId) (x : Lap) : State := setLap (linked 4) l (some x)

/-- A cue of port 0, host-to-line, that notifies. -/
def cue0 (action arg trigger : Nat) : Cue :=
  ⟨0, .tx, false, false, BitVec.ofNat 48 trigger, 0, action, arg, none, .host, none⟩

/-- An adaptation in a phase. -/
def xa0 (phase : XaPhase) (fails : Nat) : XaRun :=
  ⟨true, 2, 64, 10, 5, 60, phase, 1, fails, [], 0, 7, none, 0, 0, []⟩

/-- A reception with a header of this type and length under way on port 0's lane. -/
def rx0 (type len : Nat) : AsideRx :=
  ⟨BitVec.ofNat 32 (type * 2 ^ 28 + 2 ^ 20 + len * 2 ^ 8), 5, 100, 0, 0, List.replicate 128 (1, 0), 127, 1⟩

/-- The reception under way. -/
def rxing (type len : Nat) : State := setAside partnered 0 { asideLane partnered 0 with rx := some (rx0 type len) }

/-- Carriers that read alike. -/
def flat (v : Nat) : List Nat := List.replicate 32 v

/-- A payload of so many words that begins with these. -/
def payload (len : Nat) (ws : List Nat) : List Word := (List.range len).map fun k => BitVec.ofNat 32 (ws.getD k 0)

/-- Port 0 aligned both ways: clock mode, line code and port mode are given. -/
def aligned (clk code mode : Nat) : State :=
  let s := wrE (wrE (wrE (linked 4) F.PCS_PROFILE_CLK_MODE clk) F.PCS_PROFILE_LINE_CODE code) F.PCS_PORT_CTRL_MODE mode 0
  wr (wr s F.PCS_ALIGN_STATUS_TX_ALIGNED 1 0) F.PCS_ALIGN_STATUS_RX_DESKEWED 1 0

/-- A codeword's conditions with nothing amiss. -/
def calm : CodewordCond := ⟨[], [], false, .good, 1⟩

/-- Every host reference is there, and clocking is forwarded. -/
def clocked (mode : Nat) : State :=
  let s := wrE ported F.PCS_PROFILE_CLK_MODE mode
  wr (wr (wr s F.HSL_REF_STATUS_HFCK0_OK 1) F.HSL_REF_STATUS_HFCK1_OK 1) F.HSL_REF_STATUS_REFCLK_OK 1

/-- Bias DAC 31 alone in group 7, with a staged code. -/
def staged : State := wr (wr up F.BDAC_CTRL_c_GO_GROUP 7 31) F.BDAC_CODE_c_CODE 77 31

/-- Port 1 alone in group 7, staged with a width it cannot have. -/
def misstaged : State := wr (wr up F.PCS_PORT_CTRL_GO_GROUP 7 1) F.PCS_PORT_CTRL_WIDTH 4 1

/-- Mexis runs, and the parts are provisioned: the life cycle is MANUFACTURE. -/
def making : State := { up with sec := { up.sec with otp := { up.sec.otp with life := 1 } } }

/-- The CMIS service is on. -/
def cmis : State := wr up F.RING_LAYOUT_CMIS_EN 1

/-- A prompt-book record. -/
def record0 : PbRecord := ⟨5, Vector.replicate 8 9⟩

/-- An owner's session is open in PRODUCTION. -/
def owned : State :=
  { up with sec := { up.sec with
    otp := { up.sec.otp with life := 2, owner := some 5 }
    session := true } }

/-- An update under way in slot B: the header is the shipped image's. -/
def updating (body : List Byte) : State :=
  { owned with sec := { owned.sec with update := some ⟨1, shippedHeader, body⟩ } }

/-- A trial of slot B runs. -/
def trying : State :=
  { owned with sec := { owned.sec with
    running := some 1
    images := #v[owned.sec.images[0], some ⟨shippedHeader, [], true, .good⟩]
    boot := #v[recordOf 1 0 (some 1) true, recordOf 0 0 none false]
    trialAt := some 0 } }

/-- The device in a power mode. -/
def inMode (m : PowerMode) : State := setMode up m

/-- In DARK with this wake configuration latched. -/
def dark (cfg : Nat) : State := { up with power := { up.power with mode := .dark, latchedCfg := cfg } }

/-! The well-formedness checks. -/

/-- A codeword's conditions. -/
def cond : CodewordCond := ⟨[], [], false, .good, 0⟩

/-- Codes are seven bits wide: -64 to 63 (R60). -/
theorem test_wf_code_bounds : Instr.wf (.vgaMeasurement (.line 0) [-64, 63]) = true ∧
    Instr.wf (.vgaMeasurement (.line 0) [64]) = false ∧ Instr.wf (.losSet (.line 0) none) = true := by decide
theorem test_wf_code_low : Instr.wf (.helloReceived 0 [-65]) = false := by decide

/-- A codeword brings codes for at most 16 host lanes, or 8 line lanes. -/
theorem test_wf_host_lanes : Instr.wf (.hostToLineCodeword 0 (List.replicate 17 []) cond) = false := by decide
theorem test_wf_line_lanes : Instr.wf (.lineToHostCodeword 0 (List.replicate 9 []) cond) = false ∧
    Instr.wf (.lineToHostCodeword 0 [[0], [64]] cond) = false := by decide

/-- A monitor window has 4,096 codes of each of its slices (R62). -/
theorem test_wf_window_slices : Instr.wf (.sliceMonitorWindow (.line 0) (List.replicate 32 [])) = false := by decide
theorem test_wf_window_codes : Instr.wf (.sliceMonitorWindow (.host 0) (List.replicate 32 [0])) = false := by decide

/-- CRC-32 over "123456789" is 0xCBF43926, its published check value; a frame ends with it, low byte first (log entry 162). -/
theorem test_fcs : fcsGood [0x31, 0x32, 0x33, 0x34, 0x35, 0x36, 0x37, 0x38, 0x39, 0x26, 0x39, 0xF4, 0xCB] = true ∧
    fcsGood [0x31, 0x32, 0x33, 0x34, 0x35, 0x36, 0x37, 0x38, 0x39, 0x26, 0x39, 0xF4, 0xCA] = false := by decide +kernel

/-! Steps. -/

/-- No word spells a command, so that a fetch word leaves the queue as it is. -/
theorem test_no_word_spells_a_command : decodeTableWord 16 0xFFFF = none ∧ up.withFetchWord 32 5 = up := by decide +kernel

/-- The front command runs; the second waits. -/
theorem test_front_command_runs :
    (match step { up with pending := [.jtagTapReset, .ditherUpdate] } with
      | .next t => t.pending
      | _ => []) = [.ditherUpdate] := by decide +kernel

/-- An empty queue lets the crystal tick: 20 ns (R23). -/
theorem test_idle_cycle :
    (match step up with
      | .next t => t.time.hc.toNat
      | _ => 0) = 20 := by decide +kernel

/-- An undefined opcode completes with E_OPCODE (R327, R328): completion word 1 is 1. -/
theorem test_undefined_opcode :
    winWord (after (.undefinedOpcode (cmd []) 0xFFFF) up).mgmt.window (cplRingBase up + 4) = 1 := by decide +kernel

/-- A reserved bit in parameter word 2 of a command without parameters: E_PARAM, sub-code 2 (R327, R328). -/
theorem test_reserved_bit :
    winWord (after (.calAbort (cmd [1])) up).mgmt.window (cplRingBase up + 4) = 2 * 65536 + 2 := by decide +kernel

/-- A write of CNT_SLOT_0 with EN = 1 and K = 3 is refused under cause 6 (R311, R336). -/
theorem test_slot_refused :
    rd (after (.registerWrite .spi 0x384000 0x83000000 []) up) F.REGIF_ERR_INFO_CAUSE = 6 := by decide +kernel

/-- And with K = 4 it is taken. -/
theorem test_slot_taken : rd (after (.registerWrite .spi 0x384000 0x84000000 []) up) F.CNT_SLOT_s_K 0 = 4 := by decide +kernel

/-- RS fields reach only the staged value until a GO (R339). -/
theorem test_staged :
    let t := after (.registerWrite .i2cA (BitVec.ofNat 24 Regs.BDAC_CODE_c.base) 77 []) up
    rd t F.BDAC_CODE_c_CODE 0 = 77 ∧ rdE t F.BDAC_CODE_c_CODE 0 = 0 := by decide +kernel

/-- Of two writes of one cycle to the same window word the later interface's stands (R344). -/
theorem test_two_writes :
    winWord (after (.registerWrite .core 0x820000 5 [.write .i2cA 0x820000 6]) up).mgmt.window 0x820000 = 5 := by decide +kernel

/-- A command that stands in the ring runs by itself (R324): DEV_NOP with tag 9. -/
theorem test_slot_runs :
    let s := wr (putWords up (cmdRingBase up) [0x00090101]) F.DB_CMD_PROD 1
    (match step s with
      | .next t => winWord t.mgmt.window (cplRingBase t)
      | _ => 0) = 0x00090101 := by decide +kernel

/-- The boot records of a new part have good CRCs (R422). -/
theorem test_boot_records : recordGood State.reset.sec.boot[0] = true ∧ recordGood State.reset.sec.boot[1] = true := by decide +kernel

/-! Every claim's hypotheses can be met. -/

theorem meets_EmptyQueueTicks :
    (∃ (s : State) (i : Instr), s.pending = [] ∧ slotInstr s = some i) ∧
    (∃ s : State, s.pending = [] ∧ slotInstr s = none ∧ s.time.crystalRuns = false ∧ s.power.mode ≠ .wakingDark) ∧
    (∃ (s : State) (p : Fin 8), s.pending = [] ∧ slotInstr s = none ∧ s.time.crystalRuns = true ∧ s.time.tx[p].freewheel = false ∧
      s.time.rx[p].freewheel = false) :=
  ⟨⟨wr up F.DB_CMD_PROD 1, .undefinedOpcode (slotCmd (wr up F.DB_CMD_PROD 1)) 0, by decide +kernel⟩, ⟨.reset, by decide +kernel⟩, ⟨setShowClock (setShowClock up 7 .tx { ShowClock.reset with freewheel := false }) 7 .rx
      { ShowClock.reset with freewheel := false }, 7, by decide +kernel⟩⟩

theorem meets_CorrectionClockingAndLinkFrames :
    (∃ (i : Instr) (t : State), family i = .correction ∧ exec i up = .next t) ∧
    (∃ (i : Instr) (t : State), family i = .clocking ∧ exec i up = .next t) ∧
    (∃ (i : Instr) (t : State), family i = .link ∧ exec i up = .next t) :=
  ⟨⟨.poolIdleTest .tx 3 .errors .good, _, by decide, rfl⟩, ⟨.sysPllRelock, _, by decide, rfl⟩, ⟨.acquireComplete 7, _, by decide, rfl⟩⟩

theorem meets_ReceiverAndTransmitterFrames :
    (∃ (i : Instr) (t : State), family i = .receiver ∧ exec i up = .next t) ∧
    (∃ (i : Instr) (t : State), family i = .transmitter ∧ exec i up = .next t) :=
  ⟨⟨.losSet (.line 7) none, _, by decide, rfl⟩, ⟨.swingStep 7, _, by decide, rfl⟩⟩

theorem meets_AsideFrames :
    (∃ (i : Instr) (t : State), family i = .aside ∧ exec i up = .next t) :=
  ⟨.helloTimer 7, _, by decide, rfl⟩

theorem meets_CalibrationAndControlFrames :
    (∃ (i : Instr) (t : State), family i = .calibration ∧ exec i up = .next t) ∧
    (∃ (i : Instr) (t : State), family i = .control ∧ exec i up = .next t) :=
  ⟨⟨.calTempRecompute, _, by decide, rfl⟩, ⟨.ditherUpdate, _, by decide, rfl⟩⟩

theorem meets_CueAndObservabilityFrames :
    (∃ (i : Instr) (t : State), family i = .cues ∧ exec i up = .next t) ∧
    (∃ (i : Instr) (t : State), family i = .observability ∧ exec i up = .next t) :=
  ⟨⟨.cueRead (cmd []), _, by decide, rfl⟩, ⟨.snapCopyDone 1, _, by decide, rfl⟩⟩

theorem meets_ManagementAndStorageFrames :
    (∃ (i : Instr) (t : State), family i = .management ∧ exec i up = .next t) ∧
    (∃ (i : Instr) (t : State), family i = .storage ∧ exec i up = .next t) :=
  ⟨⟨.eventsLost, _, by decide, rfl⟩, ⟨.crystalEdgeLoss, _, by decide, rfl⟩⟩

theorem meets_PowerSecurityAndTestFrames :
    (∃ (i : Instr) (t : State), family i = .power ∧ exec i up = .next t) ∧
    (∃ (i : Instr) (t : State), family i = .security ∧ exec i up = .next t) ∧
    (∃ (i : Instr) (t : State), family i = .test ∧ exec i up = .next t) :=
  ⟨⟨.wakeAssert true, _, by decide, rfl⟩, ⟨.alarmNPulseEnd, _, by decide, rfl⟩, ⟨.jtagTapReset, _, by decide, rfl⟩⟩

theorem meets_WindowWfKeptByStep : ∃ s t : State, WindowWf s ∧ step s = .next t :=
  ⟨{ State.reset with pending := [.jtagTapReset] }, _, rfl, rfl⟩

theorem meets_FusesOnlyBurn : ∃ s t : State, step s = .next t := ⟨{ State.reset with pending := [.jtagTapReset] }, _, rfl⟩

theorem meets_RingCommandRefusals :
    (∃ (i : Instr) (s : State) (r : CommandRow), commandRow i = some r ∧
      (r.opcode = 0x0401 → progHas s 0x0401 0 = false) ∧ consumes (offer s r.opcode r.descriptor) r.opcode r.descriptor = false) ∧
    (∃ (i : Instr) (s : State) (r : CommandRow), commandRow i = some r ∧
      (r.opcode = 0x0401 → progHas s 0x0401 0 = false) ∧ consumes (offer s r.opcode r.descriptor) r.opcode r.descriptor = true ∧
      slotUncorr (offer s r.opcode r.descriptor) = false ∧ s.sec.recovery = true ∧ bootRomServes r.opcode = false) ∧
    (∃ (i : Instr) (s : State) (r : CommandRow), commandRow i = some r ∧
      (r.opcode = 0x0401 → progHas s 0x0401 0 = false) ∧ consumes (offer s r.opcode r.descriptor) r.opcode r.descriptor = true ∧
      slotUncorr (offer s r.opcode r.descriptor) = false ∧ (s.sec.recovery = false ∨ bootRomServes r.opcode = true) ∧
      reservedWord r.descriptor r.masks = some 15) :=
  ⟨⟨.calAbort (cmd []), .reset, ⟨0x0402, [], cmd []⟩, by decide +kernel⟩,
    ⟨.calAbort (cmd []), { up with sec := { up.sec with recovery := true } }, ⟨0x0402, [], cmd []⟩, by decide +kernel⟩,
    ⟨.calAbort (cmd [0, 0, 0, 0, 0, 0, 0, 0, 0, 0, 0, 0, 0, 1]), up,
      ⟨0x0402, [], cmd [0, 0, 0, 0, 0, 0, 0, 0, 0, 0, 0, 0, 0, 1]⟩, by decide +kernel⟩⟩

theorem meets_EventsWrittenOrCounted :
    (∃ s : State, evtRoom s = false) ∧
    (∃ s : State, evtRoom s = true ∧ rd s F.RING_STATUS_EVT_LOST = 0) ∧
    (∃ s : State, evtRoom s = true ∧ rd s F.RING_STATUS_EVT_LOST ≠ 0 ∧ evtFill s + 1 < evtRingSize s) ∧
    (∃ (s : State) (e : Ev) (g : Nat), (rd s F.RING_STATUS_EVT_LOST = 0 ∨ evtRoom s = false) ∧
      bitsOf e.code 14 8 = g + 1 ∧ g < 13 ∧ (rd s F.PB_CTRL_GROUPS).testBit g = true) :=
  ⟨⟨.reset, by decide +kernel⟩, ⟨up, by decide +kernel⟩, ⟨wr up F.RING_STATUS_EVT_LOST 65535, by decide +kernel⟩,
    ⟨wr up F.PB_CTRL_GROUPS 0x1FFF, ev 0x8D01 0, 12, by decide +kernel⟩⟩

theorem meets_RefusedWriteChangesNothing :
    (∃ (s : State) (a : BitVec 24) (d : Word) (cause : Nat), deviceUp s = true ∧
      writeRefusal s a.toNat d.toNat = some cause ∧ rd s F.REGIF_ERR_INFO_VALID = 0 ∧ isPoisoned s 60 0x750 = false ∧
      wordErrs s 60 0x750 = 0) ∧
    (∃ (s : State) (a : BitVec 24) (d : Word) (cause : Nat), deviceUp s = true ∧
      writeRefusal s a.toNat d.toNat = some cause ∧ rd s F.REGIF_ERR_INFO_VALID = 1) :=
  ⟨⟨up, 0xFFFFFF, 0, 1, by decide +kernel⟩, ⟨wr up F.REGIF_ERR_INFO_VALID 1, 0x384000, 0xFF000000, 6, by decide +kernel⟩⟩

theorem meets_SlotAndThresholdWritesRefused :
    (∃ (s : State) (d : Word), deviceUp s = true ∧ dressTested s Regs.CNT_SLOT_s.base = false ∧ d.toNat.testBit 31 = true ∧
      (bitsOf d.toNat 29 24 < 4 ∨ 40 < bitsOf d.toNat 29 24)) ∧
    (∃ (s : State) (d : Word), deviceUp s = true ∧ dressTested s Regs.CNT_SLOT_s.base = false ∧ d.toNat.testBit 31 = true ∧
      (bitsOf d.toNat 27 24 < 1 ∨ 8 < bitsOf d.toNat 27 24)) :=
  ⟨⟨up, 0xA9000000, by decide +kernel⟩, ⟨up, 0x89000000, by decide +kernel⟩⟩

theorem meets_SnapshotsAndCountersComplete :
    (∃ (s : State) (bank : Fin 2), bankCopying s bank = true) ∧
    (∃ (s : State) (flowImg : Bool) (ackReq : Bool) (ack1 : Bool) (ack0 : Bool), vGet (snapAck s ackReq ack1 ack0).obs.full (nextBank s) false = false ∧ bankCopying s (nextBank s) = false) ∧
    (∃ (s : State) (c : Cmd), Taken 0x0601 [] c s ∧ vGet s.obs.full (nextBank s) false = false ∧ bankCopying s (nextBank s) = false) ∧
    (∃ (s : State) (c : Cmd), Taken 0x0602 [(2, 1), (3, 0x7FF), (4, 0xFFFFFFFF), (5, 0xFFFFFFFF)] c s ∧ c.w 5 % 4 = 0 ∧ c.w 3 + c.w 4 ≤ 2048 ∧ c.w 5 + (512 + 8 * c.w 4) ≤ bulkEnd s ∧ (snapBank s (c.w 2)).written = true ∧ (snapBank s (c.w 2)).complete = true) ∧
    (∃ (s : State) (iface : Iface) (i : Fin 2048), isPoisoned s 60 i = false ∧ wordErrs s 60 i = 0) ∧
    (∃ (s : State) (slot : Fin 32), (vGet s.obs.slots slot .reset).owed ≠ 0 ∧ sinceNs s (vGet s.obs.slots slot .reset).lastRaise 10000 = true) ∧
    (∃ (s : State) (lane : Fin 8), (2 ^ 30 ≤ (counter s (cntLine lane 15) + 2 ^ 48 - (vGet s.obs.ber lane .reset).bits) % 2 ^ 48 ∨ sinceNs s (some (vGet s.obs.ber lane .reset).opened) 100000000 = true)) :=
  ⟨⟨after (.snapCtrlTake false false false false) up, 0, by decide +kernel⟩,
    ⟨up, true, true, false, false, by decide +kernel⟩,
    ⟨up, cmd [], by decide +kernel⟩,
    ⟨snapped, cmd [0, 2046, 2, 16], by decide +kernel⟩,
    ⟨up, .spi, 2047, by decide +kernel⟩,
    ⟨{ up with obs := { up.obs with slots := vSet up.obs.slots 31 ⟨1, 5, none⟩ } }, 31, by decide +kernel⟩,
    ⟨late up, 7, by decide +kernel⟩⟩

theorem meets_FlowCommandsComplete :
    (∃ (s : State) (p : Fin 8) (d : Dir) (bs : List (BitVec 8)), 18 ≤ bs.length ∧ isTag (frameField bs 12 2) = false) ∧
    (∃ (s : State) (p : Fin 8) (d : Dir) (bs : List (BitVec 8)), 22 ≤ bs.length ∧ isTag (frameField bs 12 2) = true ∧ isTag (frameField bs 16 2) = false) ∧
    (∃ (s : State) (p : Fin 8) (d : Dir) (busy : Bool), tapped s p d = []) ∧
    (∃ (s : State) (p : Fin 8) (d : Dir) (y : TappedFrame) (rest : List TappedFrame) (busy : Bool), tapped s p d = y :: rest ∧ y.marked = true) ∧
    (∃ (s : State) (p : Fin 8) (d : Dir) (y : TappedFrame) (rest : List TappedFrame), tapped s p d = y :: rest ∧ y.marked = false ∧ (vGet s.obs.replay d.bit []).length < 64) ∧
    (∃ (s : State) (p : Fin 8) (d : Dir) (y : TappedFrame) (rest : List TappedFrame) (b : Nat) (x : FlowBucket), tapped s p d = y :: rest ∧ y.marked = false ∧ 
      let f := parseFrame s p d y.bytes
      (∀ w ∈ vGet s.obs.replay d.bit [], w.key ≠ flowKey (flowKeySel s p d) f) ∧ 
      let g := bucketGroup (flowHash (rdE s F.FLOW_SEED_SEED) (flowKey (flowKeySel s p d) f) % 2 ^ 15)
      
      let r := g.foldl readBucket (bump (takeFree (setTapped s p d rest)) (cntPort p d 14) 1)
      bucketHit r g (flowKey (flowKeySel s p d) f) = some b ∧ aGet r.obs.buckets b = some x) ∧
    (∃ (s : State) (p : Fin 8) (d : Dir) (y : TappedFrame) (rest : List TappedFrame) (b : Nat), tapped s p d = y :: rest ∧ y.marked = false ∧ 
      let f := parseFrame s p d y.bytes
      (∀ w ∈ vGet s.obs.replay d.bit [], w.key ≠ flowKey (flowKeySel s p d) f) ∧ 
      let g := bucketGroup (flowHash (rdE s F.FLOW_SEED_SEED) (flowKey (flowKeySel s p d) f) % 2 ^ 15)
      
      let r := g.foldl readBucket (bump (takeFree (setTapped s p d rest)) (cntPort p d 14) 1)
      bucketHit r g (flowKey (flowKeySel s p d) f) = none ∧ g.find? (bucketFree r) = some b ∧ firstFreeCtx r.obs.contexts 0 < 16384) ∧
    (∃ (s : State) (d : Dir) (w : FlowWork) (q : List FlowWork), vGet s.obs.replay d.bit [] = w :: q) ∧
    (∃ (s : State) (b : Fin 32768) (x : FlowBucket), readBucket s b = s ∧ aGet s.obs.buckets b = some x ∧ x.valid = true ∧ rdE s F.FLOW_AGE_AGE_LIMIT ≠ 0 ∧ rdE s F.FLOW_AGE_AGE_LIMIT * 2 ^ 16 ≤ (cueTick s (keyPort x.key) (if keyDir x.key = 0 then .tx else .rx) - (x.lastSeen + shiftOf s b)).toNat) ∧
    (∃ (s : State) (c : Cmd) (im : FlowImage), Taken 0x0603 [(2, 0xFFFF), (3, 0xFFFFFFFF), (4, 0xFFFFFFFF)] c s ∧ c.w 3 % 4 = 0 ∧ 0 < c.w 4 ∧ c.w 4 ≤ 3072 ∧ c.w 3 + 64 * c.w 4 ≤ bulkEnd s ∧ s.obs.image = some im ∧ s.obs.imageCopying = false ∧ (c.w 2 = 0 ∨ s.obs.imageLocked = true)) ∧
    (∃ (s : State) (c : Cmd), Taken 0x0604 [] c s ∧ s.obs.imageLocked = true) ∧
    (∃ (s : State) (c : Cmd), Taken 0x0605 [(2, 7), (3, 3)] c s ∧ c.w 3 ≠ 0 ∧ retained s 28 = false) :=
  ⟨⟨up, 0, .tx, frame0, by decide +kernel⟩,
    ⟨up, 7, .rx, tagged0, by decide +kernel⟩,
    ⟨up, 7, .rx, true, by decide +kernel⟩,
    ⟨setTapped flowing 7 .rx [⟨tagged0, true, 9⟩], 7, .rx, ⟨tagged0, true, 9⟩, [], false, by decide +kernel⟩,
    ⟨tapping frame0, 0, .tx, ⟨frame0, false, 9⟩, [], by decide +kernel⟩,
    ⟨setTapped (after (.flowFrame 0 .tx false) (tapping frame0)) 0 .tx [⟨frame0, false, 10⟩], 0, .tx, ⟨frame0, false, 10⟩, [], ((after (.flowFrame 0 .tx false) (tapping frame0)).obs.buckets.map (·.1)).headD 0, ((after (.flowFrame 0 .tx false) (tapping frame0)).obs.buckets.map (·.2)).headD ⟨false, 0, false, 0, 0, 0, 0, 0, 0⟩, by decide +kernel⟩,
    ⟨tapping frame0, 0, .tx, ⟨frame0, false, 9⟩, [], ((after (.flowFrame 0 .tx false) (tapping frame0)).obs.buckets.map (·.1)).headD 0, by decide +kernel⟩,
    ⟨after (.flowFrame 0 .tx true) (tapping frame0), .tx, ⟨0, .tx, flowKey (flowKeySel flowing 0 .tx) (parseFrame flowing 0 .tx frame0), 18, fcsGood frame0, 9, false⟩, [], by decide +kernel⟩,
    ⟨{ wrE up F.FLOW_AGE_AGE_LIMIT 1 with obs := { up.obs with buckets := [(5, ⟨true, 0, false, 0, 0, 0, 0, 0, 0⟩)] }, time := { up.time with tx := vSet up.time.tx 0 ⟨0x400000000, 0, 0, false⟩ } }, 5, ⟨true, 0, false, 0, 0, 0, 0, 0, 0⟩, by decide +kernel⟩,
    ⟨{ up with obs := { up.obs with image := some ⟨3, []⟩ } }, cmd [0, 0, 3072], ⟨3, []⟩, by decide +kernel⟩,
    ⟨{ up with obs := { up.obs with imageLocked := true } }, cmd [], by decide +kernel⟩,
    ⟨{ up with obs := { up.obs with buckets := [(5, ⟨true, 0, false, 7, 0, 0, 0, 0, 0⟩)] } }, cmd [7, 3], by decide +kernel⟩⟩

theorem meets_BiasCommandsComplete :
    (∃ (s : State) (c : Fin 32), bdacState s c = 1 ∧ rdE s F.BDAC_CTRL_c_EN c = 1 ∧ rdE s F.BDAC_CTRL_c_SOURCE c = 0 ∧ s.faults.window = none ∧ rd s F.BDAC_STATUS_c_HOLDING c = 0) ∧
    (∃ (s : State) (c : Fin 32), rd s F.BDAC_STATUS_c_HOLDING c = 1 ∧ (bdacChan s c).arrived = none) ∧
    (∃ (s : State) (c : Fin 32) (n : Nat), rd s F.BDAC_STATUS_c_HOLDING c = 1 ∧ (bdacChan s c).arrived = some n ∧ n < 65536) ∧
    (∃ (s : State), s.power.mode = .show) ∧
    (∃ (s : State) (c : Cmd), Taken 0x0510 [(2, 0x1F), (3, 1)] c s ∧ rd s F.BDAC_STATUS_c_RANGE (c.w 2) ≠ c.w 3 ∧ (c.w 3 = 0 → ∀ n ∈ rangeCodes s (c.w 2), n ≤ 0x7FFF) ∧ (∀ l ∈ driversOf s (c.w 2), loopState s l = 2) ∧ rehearsing s 6 (c.w 2) = false ∧ rd s F.BDAC_CEIL_c_LOCK (c.w 2) = 0) ∧
    (∃ (s : State) (c : Cmd), Taken 0x0510 [(2, 0x1F), (3, 1)] c s ∧ rd s F.BDAC_STATUS_c_RANGE (c.w 2) ≠ c.w 3 ∧ (c.w 3 = 0 → ∀ n ∈ rangeCodes s (c.w 2), n ≤ 0x7FFF) ∧ (∀ l ∈ driversOf s (c.w 2), loopState s l = 2) ∧ rehearsing s 6 (c.w 2) = false ∧ rd s F.BDAC_CEIL_c_LOCK (c.w 2) = 1) :=
  ⟨⟨biased, 0, by decide +kernel⟩,
    ⟨wr (wr up F.BDAC_STATUS_c_HOLDING 1 31) F.BDAC_STATUS_c_APPLIED 77 31, 31, by decide +kernel⟩,
    ⟨setBdac (wr (wr up F.BDAC_STATUS_c_HOLDING 1 31) F.BDAC_STATUS_c_APPLIED 1023 31) 31 { BdacChan.reset with arrived := some 1024 }, 31, 1024, by decide +kernel⟩,
    ⟨wrE (wrE up F.BDAC_DGEN_g_EN 1 3) F.BDAC_DGEN_g_FREQ 3 3, by decide +kernel⟩,
    ⟨wrE up F.BDAC_CODE_c_CODE 0x7FFF 0, cmd [0, 1], by decide +kernel⟩,
    ⟨wr up F.BDAC_CEIL_c_LOCK 1 31, cmd [31, 1], by decide +kernel⟩⟩

theorem meets_SenseCommandsComplete :
    (∃ (s : State) (n : Fin 24) (b : Bool) (off : Fin 20), rdE s F.SNS_CTRL_n_EN n = 1 ∧ s.power.mode = .show ∧ (senseChan s n).cicPhase + 1 < rdE s F.SNS_DEC_n_CIC_R n) ∧
    (∃ (s : State) (n : Fin 24) (b : Bool) (off : Fin 20), rdE s F.SNS_CTRL_n_EN n = 1 ∧ s.power.mode = .show ∧ rdE s F.SNS_DEC_n_CIC_R n ≤ (senseChan s n).cicPhase + 1 ∧ rdE s F.SNS_DEC_n_HB n = 0 ∧ rdE s F.SNS_DEC_n_FIR_D n = 0 ∧ (senseChan s n).unsettled = 0 ∧ (senseChan s n).calibrating = false ∧ s.test.fencedSense.testBit n = false ∧ 
      let line := (if b then 1 else -1) :: (senseChan s n).delay
      
      let x := cicGain (rdE s F.SNS_DEC_n_CIC_R n) (cicComb (senseChan s n).comb (cicIntegrate (senseChan s n).integ (line.getLastD (if b then 1 else -1)))[4]).2
      x.natAbs ≤ overloadMag) ∧
    (∃ (s : State) (n : Fin 24) (b : Bool) (off : Fin 20), rdE s F.SNS_CTRL_n_EN n = 1 ∧ s.power.mode = .show ∧ rdE s F.SNS_DEC_n_CIC_R n ≤ (senseChan s n).cicPhase + 1 ∧ 
      let line := (if b then 1 else -1) :: (senseChan s n).delay
      overloadMag < (cicGain (rdE s F.SNS_DEC_n_CIC_R n) (cicComb (senseChan s n).comb (cicIntegrate (senseChan s n).integ (line.getLastD (if b then 1 else -1)))[4]).2).natAbs) ∧
    (∃ (s : State) (c : Cmd), Taken 0x0511 [(2, 3), (3, 0xFFFFFFFF)] c s ∧ c.w 3 % 4 = 0 ∧ c.w 3 + 256 ≤ bulkEnd s ∧ (∀ w ∈ (fetchWords (takenState 0x0511 c s) (windowBase + c.w 3) 64).2, signExtended16 w = true) ∧ coefInUse s (c.w 2) = false) ∧
    (∃ (s : State) (c : Cmd), Taken 0x0512 [(2, 3), (3, 0xFFFFFFFF)] c s ∧ c.w 3 % 4 = 0 ∧ c.w 3 + 256 ≤ bulkEnd s) :=
  ⟨⟨sensing, 0, true, 0, by decide +kernel⟩,
    ⟨setSense sensing 0 { SenseChan.reset with cicPhase := 63, delay := [1] }, 0, true, 19, by decide +kernel⟩,
    ⟨setSense sensing 0 { SenseChan.reset with cicPhase := 63, integ := #v[0, 0, 0, 0, 2 ^ 40] }, 0, true, 0, by decide +kernel⟩,
    ⟨up, cmd [3, 0x1000], by decide +kernel⟩,
    ⟨up, cmd [3, 0x1000], by decide +kernel⟩⟩

theorem meets_LoopCommandsComplete :
    (∃ (s : State), s.power.mode = .show ∧ s.faults.window = none) ∧
    (∃ (s : State) (mismatch : Bool) (parity : Bool), s.power.mode = .show ∧ (mismatch || parity) = true) ∧
    (∃ (s : State) (c : Cmd), Taken 0x0501 [(2, 0xFFFFFFFF)] c s ∧ c.w 2 ≠ 0 ∧ (∀ l ∈ bitsSet 32 (c.w 2), loopRehearsing s l = false)) ∧
    (∃ (s : State) (c : Cmd), Taken 0x0502 [(2, 0x1F)] c s ∧ loopState s (c.w 2) = 4 ∧ feedbackLost s (c.w 2) = false ∧ loopRehearsing s (c.w 2) = false) ∧
    (∃ (s : State) (c : Cmd), Taken 0x0502 [(2, 0x1F)] c s ∧ (loopState s (c.w 2) = 4 → feedbackLost s (c.w 2) = false) ∧ inEscalated s (c.w 2) = true ∧ escalationBlocked s (loopGroup s (c.w 2)) = false ∧ loopRehearsing s (c.w 2) = false) ∧
    (∃ (s : State) (c : Cmd), Taken 0x0503 [(2, 0x1F), (3, 0xFFFF)] c s ∧ loopState s (c.w 2) ≠ 0 ∧ loopRehearsing s (c.w 2) = false) ∧
    (∃ (s : State) (c : Cmd), Taken 0x0504 [(2, 0x1F), (3, 0xFFFFFFFF)] c s ∧ loopState s (c.w 2) = 2 ∧ rdEI s F.LOOP_ILIM_m_LIMIT (c.w 2) 0 ≤ toSigned 32 (c.w 3) ∧ toSigned 32 (c.w 3) ≤ rdEI s F.LOOP_ILIM_m_LIMIT (c.w 2) 1 ∧ loopRehearsing s (c.w 2) = false) ∧
    (∃ (s : State) (c : Cmd), Taken 0x0505 [(2, 0x1F)] c s ∧ loopRehearsing s (c.w 2) = false) ∧
    (∃ (s : State) (c : Cmd), Taken 0x0506 [] c s ∧ rd s F.LOOP_ENGINE_STATUS_FAULT = 1 ∧ (∀ g, g < 8 → rehearsing s 5 g = false)) :=
  ⟨⟨{ up with ctl := { up.ctl with pendingCodes := [(31, 5)] } }, by decide +kernel⟩,
    ⟨wr up F.LOOP_STATUS_STATE 1 5, true, true, by decide +kernel⟩,
    ⟨wr up F.LOOP_HIST_FLAGS 5 31, cmd [2 ^ 31], by decide +kernel⟩,
    ⟨wr up F.LOOP_STATUS_STATE 4 31, cmd [31], by decide +kernel⟩,
    ⟨wr (wrE (wr up F.LOOP_GRP_STATUS_g_ESCALATED 1 0) F.LOOP_CTRL_GROUPED 1 3) F.LOOP_STATUS_STATE 5 3, cmd [3], by decide +kernel⟩,
    ⟨wr up F.LOOP_STATUS_STATE 1 31, cmd [31, 0x8000], by decide +kernel⟩,
    ⟨wrE (wr up F.LOOP_STATUS_STATE 2 31) F.LOOP_ILIM_m_LIMIT 100 31 1, cmd [31, 100], by decide +kernel⟩,
    ⟨up, cmd [31], by decide +kernel⟩,
    ⟨wr (wr up F.LOOP_ENGINE_STATUS_FAULT 1) F.LOOP_STATUS_STATE 6 31, cmd [], by decide +kernel⟩⟩

theorem meets_LinkCommandsComplete :
    (∃ (s : State) (p : Fin 8), linkState s p = 1 ∧ s.path.modeChange = false ∧ (∀ n ∈ portLines s p, rd s F.LRX_STATUS_LOS n = 0 ∧ rd s F.LRX_STATUS_LOL n = 0 ∧ rd s F.LEQ_STATUS_STATE n = 2) ∧ (∃ x ∈ portLines s p, (lockOf s x).state ≠ 2)) ∧
    (∃ (s : State) (p : Fin 8), linkState s p = 1 ∧ s.path.modeChange = false ∧ (∀ n ∈ portLines s p, rd s F.LRX_STATUS_LOS n = 0 ∧ rd s F.LRX_STATUS_LOL n = 0 ∧ rd s F.LEQ_STATUS_STATE n = 2) ∧ (∀ x ∈ portLines s p, (lockOf s x).state = 2) ∧ (∀ i, i < portWidth s p → laneRight s p i = true) ∧ deskewGood s p = true) ∧
    (∃ (s : State) (p : Fin 8), linkState s p = 1 ∧ (∃ n ∈ portLines s p, rd s F.LRX_STATUS_LOS n = 0)) ∧
    (∃ (s : State) (p : Fin 8), linkState s p = 2 ∧ widthMismatch s p = false ∧ rdE s F.PCS_LINK_CTRL_PROBE_EN p = 0 ∧ rdE s F.PCS_LINK_CTRL_MAP_MODE p = 0) ∧
    (∃ (s : State) (p : Fin 8), linkState s p = 2 ∧ widthMismatch s p = false ∧ rdE s F.PCS_LINK_CTRL_PROBE_EN p = 1 ∧ rdE s F.PCS_LINK_CTRL_MAP_MODE p = 0 ∧ (linkPort s p).failed = false ∧ (portLines s p).length = portWidth s p ∧ (∃ x ∈ portLines s p, (lockOf s x).state ≠ 2)) ∧
    (∃ (s : State) (p : Fin 8), linkState s p = 3 ∧ (portLines s p).length = portWidth s p ∧ (∃ x ∈ portLines s p, probeId s p x = none)) ∧
    (∃ (s : State) (p : Fin 8), rd s F.PCS_LINK_STATUS_BACKOFF p = 1 ∧ linkState s p = 0 ∧ rdE s F.PCS_PORT_CTRL_ADMIN_UP p = 1 ∧ rdE s F.PCS_LINK_CTRL_HOLD p = 0 ∧ s.power.mode = .show) ∧
    (∃ (s : State) (x : Fin 8) (p : Nat) (i : Nat) (d : Nat), portOfLine s x = some p ∧ logicalOf s p x = some i ∧ rejoinDelay s p x = some d ∧ linkState s p = 5 ∧ (lostMask s p).testBit i = true ∧ rd s F.LRX_STATUS_LOS x = 0 ∧ laneRight s p i = true ∧ (eqRec s (.line x)).dd = true) ∧
    (∃ (s : State) (p : Fin 8) (i : Fin 8), linkState s p = 5 ∧ (lostMask s p).testBit i = true) ∧
    (∃ (s : State) (c : Cmd), Taken 0x0201 [(2, 7)] c s ∧ portEnabled s (c.w 2) = true ∧ rdE s F.PCS_PORT_CTRL_ADMIN_UP (c.w 2) = 1 ∧ portRehearsing s (c.w 2) = false) :=
  ⟨⟨linked 1, 0, by decide +kernel⟩,
    ⟨setLock (linked 1) 0 (locked 0), 0, by decide +kernel, by decide +kernel, by decide +kernel, by decide +kernel, by decide +kernel, Laws.deskewGood_of_same (a := 100) (by decide +kernel)⟩,
    ⟨linked 1, 0, by decide +kernel⟩,
    ⟨wrE (linked 2) F.PCS_LINK_CTRL_PROBE_EN 0 0, 0, by decide +kernel⟩,
    ⟨wrE (linked 2) F.PCS_LINK_CTRL_PROBE_EN 1 0, 0, by decide +kernel⟩,
    ⟨linked 3, 0, by decide +kernel⟩,
    ⟨wr (linked 0) F.PCS_LINK_STATUS_BACKOFF 1 0, 0, by decide +kernel⟩,
    ⟨degraded, 1, 0, 1, 0, by decide +kernel, by decide +kernel, Laws.rejoinDelay_of_same (y := 0) (by decide +kernel) (by decide +kernel) (by decide +kernel), by decide +kernel⟩,
    ⟨degraded, 0, 1, by decide +kernel⟩,
    ⟨wrE (linked 0) F.PCS_LINK_CTRL_HOLD 1 0, cmd [0], by decide +kernel⟩⟩

theorem meets_ReceiverCommandsComplete :
    (∃ (s : State) (l : LaneId) (codes : List Int) (q : CtleSearch), (front s l).search = some q ∧ frontHeld s l = false ∧ laneRuns s l = true ∧ q.code < 16) ∧
    (∃ (s : State) (l : LaneId) (codes : List Int), laneRuns s l = true) ∧
    (∃ (s : State) (l : LaneId), vgaDueStep s l ≠ 0 ∧ vgaAtLimit s l (vgaDueStep s l) = false ∧ frontHeld s l = false ∧ laneRuns s l = true ∧ receiving s l = false ∧ capturing s l = false ∧ sinceNs s (front s l).vgaLast 64000 = true) ∧
    (∃ (s : State) (n : Fin 8), vgaDueStep s (.line n) ≠ 0 ∧ vgaAtLimit s (.line n) (vgaDueStep s (.line n)) = false ∧ frontHeld s (.line n) = false ∧ laneRuns s (.line n) = true ∧ (receiving s (.line n) = true ∨ capturing s (.line n) = true)) ∧
    (∃ (s : State) (l : LaneId) (codes : List Int), 
      let u := rxStream s l codes
      laneRuns u l = true ∧ timingHeld u l = false) ∧
    (∃ (s : State) (l : LaneId) (env : Option Nat), laneRuns s l = true ∧ losGrounds s l env = true ∧ (if env.isNone then losRmsOn s l else losEnvOn s l) = true) ∧
    (∃ (s : State) (l : LaneId) (env : Option Nat), laneRuns s l = true ∧ s.test.jtagPins = false ∧ losClearGrounds s l env = true ∧ (if env.isNone then losRmsOn s l else losEnvOn s l) = true ∧ (if env.isNone then (front s l).losEnv && losEnvOn s l else (front s l).losRms && losRmsOn s l) = false) :=
  ⟨⟨setFront (linked 1) (.line 0) { front (linked 1) (.line 0) with search := some ⟨15, some (3, 10, 4000)⟩ }, .line 0, [1, 2, 4], ⟨15, some (3, 10, 4000)⟩, by decide +kernel⟩,
    ⟨linked 1, .host 0, [3, -4], by decide +kernel⟩,
    ⟨setFront (linked 1) (.line 0) { front (linked 1) (.line 0) with vgaDue := -1 }, .line 0, by decide +kernel⟩,
    ⟨wr (setFront (linked 1) (.line 0) { front (linked 1) (.line 0) with vgaDue := 1 }) F.ASD_STATUS_RX_BUSY 1 0, 0, by decide +kernel⟩,
    ⟨linked 1, .line 0, [], by decide +kernel⟩,
    ⟨linked 1, .line 0, some 0, by decide +kernel⟩,
    ⟨setFront ported (.line 0) { front ported (.line 0) with losEnv := false, level := 0x1000 }, .line 0, none, by decide +kernel⟩⟩

theorem meets_SliceCommandsComplete :
    (∃ (s : State) (l : LaneId) (codes : List (List Int)), laneRuns s l = true ∧ (monEnable s l = false ∨ frontHeld s l = true ∨ (slicesOf s l).skip ≠ 0)) ∧
    (∃ (s : State) (l : LaneId) (codes : List (List Int)), monEnable s l = true ∧ laneRuns s l = true ∧ frontHeld s l = false ∧ (slicesOf s l).skip = 0 ∧ 
      let stats := windowStats (slicesOf s l) codes
      (∀ x ∈ stats, sliceChecks s l stats x = [false, false, false, false])) ∧
    (∃ (s : State) (l : LaneId) (codes : List (List Int)) (k : Nat) (x : SliceStat), monEnable s l = true ∧ laneRuns s l = true ∧ frontHeld s l = false ∧ (slicesOf s l).skip = 0 ∧ (slicesOf s l).place.Nodup ∧ k ∉ (slicesOf s l).fresh ∧ (k, x) ∈ (slicesOf s l).place.zip (windowStats (slicesOf s l) codes) ∧ x.stuck = true) ∧
    (∃ (s : State) (l : LaneId) (k : Nat) (cause : Nat), (slicesOf s l).pending = some (k, cause) ∧ k < sliceCount l) ∧
    (∃ (s : State) (c : Cmd), Taken 0x0303 [(2, 7), (3, 0x7F)] c s ∧ 
      let l := lineOf (c.w 2)
      c.w 3 ≤ 64 ∧ (lanePort s l).isSome = true ∧ c.w 3 ≠ understudy s l ∧ sliceFailed s l (understudy s l) = false ∧ noSpare s l = false ∧ (slicesOf s l).pending = none ∧ laneRehearsing s l = false ∧ c.w 3 ∉ (slicesOf s l).zeroed) ∧
    (∃ (s : State) (c : Cmd), Taken 0x0331 [(2, 0xF), (3, 0x3F)] c s ∧ 
      let l := hostOf (c.w 2)
      c.w 3 ≤ 32 ∧ (lanePort s l).isSome = true ∧ c.w 3 ≠ understudy s l ∧ sliceFailed s l (understudy s l) = false ∧ noSpare s l = false ∧ (slicesOf s l).pending = none ∧ laneRehearsing s l = false ∧ c.w 3 ∉ (slicesOf s l).zeroed) ∧
    (∃ (s : State) (c : Cmd), Taken 0x0304 [(2, 7), (3, 0x7F)] c s ∧ 
      let l := lineOf (c.w 2)
      (lanePort s l).isSome = true ∧ c.w 3 = understudy s l ∧ sliceFailed s l (c.w 3) = true ∧ (slicesOf s l).testing = false ∧ laneRehearsing s l = false) ∧
    (∃ (s : State) (c : Cmd), Taken 0x0332 [(2, 0xF), (3, 0x3F)] c s ∧ 
      let l := hostOf (c.w 2)
      (lanePort s l).isSome = true ∧ c.w 3 = understudy s l ∧ sliceFailed s l (c.w 3) = true ∧ (slicesOf s l).testing = false ∧ laneRehearsing s l = false) ∧
    (∃ (s : State) (l : LaneId) (pass : Bool), (slicesOf s l).testing = true) :=
  ⟨⟨setSlices (linked 4) (.line 0) { slicesOf (linked 4) (.line 0) with skip := 2 }, .line 0, [], by decide +kernel⟩,
    ⟨linked 4, .line 0, List.replicate 64 [10, -10], by decide +kernel⟩,
    ⟨linked 4, .line 0, List.replicate 64 [1, 1], 63, ⟨true, 0, 2, 2⟩, by decide +kernel⟩,
    ⟨setSlices ported (.line 0) { slicesOf ported (.line 0) with pending := some (63, 5) }, .line 0, 63, 5, by decide +kernel⟩,
    ⟨ported, cmd [0, 63], by decide +kernel⟩,
    ⟨ported, cmd [0, 31], by decide +kernel⟩,
    ⟨setFailedMask ported (.line 0) (2 ^ 64), cmd [0, 64], by decide +kernel⟩,
    ⟨setFailedMask ported (.host 0) (2 ^ 32), cmd [0, 32], by decide +kernel⟩,
    ⟨setSlices ported (.line 0) { slicesOf ported (.line 0) with testing := true }, .line 0, false, by decide +kernel⟩⟩

theorem meets_SpotlightCommandsComplete :
    (∃ (s : State) (n : Fin 8) (slice : BitVec 7) (source : BitVec 2), lanePowered s (.line n) = true ∧ laneRehearsing s (.line n) = false ∧ rd s F.LRX_SPOT_STATUS_STATE n ≠ 1 ∧ (source.toNat = 3 → inService s n slice.toNat = true)) ∧
    (∃ (s : State) (c : Cmd), Taken 0x0301 [(2, 7), (3, 0x7F03)] c s ∧ c.w 3 / 2 ^ 8 ≤ 64 ∧ (portOfLine s (c.w 2)).isSome = true ∧ (c.w 3 % 4 = 3 → inService s (c.w 2) (c.w 3 / 2 ^ 8) = true) ∧ rd s F.LRX_SPOT_STATUS_STATE (c.w 2) ≠ 1 ∧ rehearsing s 1 (c.w 2) = false) ∧
    (∃ (s : State) (n : Fin 8) (codes : List Int) (parity : Bool), 
      let u := rxStream s (lineOf n) codes
      rd u F.LRX_SPOT_STATUS_STATE n = 1) ∧
    (∃ (s : State) (c : Cmd), Taken 0x0302 [(2, 7), (3, 0xFFFFFFFF), (4, 0xFFFFFFFF), (5, 0xFFFFFFFF)] c s ∧ c.w 3 % 4 = 0 ∧ c.w 4 % 4 = 0 ∧ c.w 5 % 4 = 0 ∧ 4 ≤ c.w 4 ∧ c.w 4 ≤ 196608 ∧ c.w 3 + c.w 4 ≤ 32 + spotBytes ∧ c.w 5 + c.w 4 ≤ bulkEnd s ∧ (spotOf s (c.w 2)).held = true ∧ rd s F.LRX_SPOT_STATUS_STATE (c.w 2) ≠ 1 ∧ rehearsing s 1 (c.w 2) = false) :=
  ⟨⟨ported, 0, 63, 3, by decide +kernel⟩,
    ⟨ported, cmd [0, 63 * 2 ^ 8 + 3], by decide +kernel⟩,
    ⟨wr ported F.LRX_SPOT_STATUS_STATE 1 7, 7, [1, 2], true, by decide +kernel⟩,
    ⟨setSpot up 7 { spotOf up 7 with held := true }, cmd [7, 28, 4, 0], by decide +kernel⟩⟩

theorem meets_CalibrationRunsComplete :
    (∃ (s : State) (c : Cmd) (n : Fin 8), Taken 0x0401 [(2, 0x1F), (3, 0xFF), (4, 0xFFFF), (5, 0xFFFFFFFF), (6, 0xFFFFFF), (7, 1)] c s ∧ (calEmpty (calSetOf c)).any (·.1) = false ∧ calUnpowered s (calSetOf c) = false ∧ calRehearsed s (calSetOf c) = false ∧ s.cal.run = none ∧ c.w 7 = 0 ∧ (c.w 2).testBit 0 = true ∧ (c.w 3).testBit n = true ∧ lanePowered s (.line n) = true ∧ sliceFailed s (.line n) (understudy s (.line n)) = false ∧ (slicesOf s (.line n)).pending = none) ∧
    (∃ (s : State) (c : Cmd) (h : Nat), Taken 0x0401 [(2, 0x1F), (3, 0xFF), (4, 0xFFFF), (5, 0xFFFFFFFF), (6, 0xFFFFFF), (7, 1)] c s ∧ c.w 2 ≠ 0 ∧ (calEmpty (calSetOf c)).any (·.1) = false ∧ calUnpowered s (calSetOf c) = false ∧ calRehearsed s (calSetOf c) = false ∧ c.w 7 = 1 ∧ freeHandle s = some h ∧ (s.cal.run = none → progHas s 0x0401 0 = false)) ∧
    (∃ (s : State) (c : Cmd), Taken 0x0402 [] c s ∧ s.cal.run.isSome = true) ∧
    (∃ (s : State) (c : Cmd), Taken 0x0403 [(2, 0xFFFF)] c s ∧ (aGet s.cal.deferred (c.w 2)).isSome = true) ∧
    (∃ (s : State) (h : BitVec 16) (x : CalSet) (n : Fin 8), s.cal.fired.contains h.toNat = true ∧ s.cal.run = none ∧ aGet s.cal.deferred h.toNat = some x ∧ x.targets.testBit 0 = true ∧ x.line.testBit n = true ∧ lanePowered s (.line n) = true ∧ laneRehearsing s (.line n) = false ∧ sliceFailed s (.line n) (understudy s (.line n)) = false ∧ (slicesOf s (.line n)).pending = none) :=
  ⟨⟨ported, cmd [1, 1], 0, by decide +kernel⟩,
    ⟨ported, cmd [1, 1, 0, 0, 0, 1], 1, by decide +kernel⟩,
    ⟨{ up with cal := { up.cal with run := some ⟨0, 1, []⟩ } }, cmd [], by decide +kernel⟩,
    ⟨{ up with cal := { up.cal with deferred := [(8, ⟨1, 1, 1, 0, 0, 0⟩)] } }, cmd [8], by decide +kernel⟩,
    ⟨{ ported with cal := { ported.cal with deferred := [(8, ⟨1, 1, 1, 0, 0, 0⟩)], fired := [8] } }, 8, ⟨1, 1, 1, 0, 0, 0⟩, 0, by decide +kernel⟩⟩

theorem meets_CalibrationMeasurementsComplete :
    (∃ (s : State) (l : LaneId) (num : Int) (den : Nat) (trim : Int) (inl : List Int) (x : Lap), lapOf s l = some x ∧ x.waiting = false ∧ s.faults.window = none ∧ x.again ≠ 1 ∧ x.done + 1 ≠ sliceCount l) ∧
    (∃ (s : State) (l : LaneId) (num : Int) (den : Nat) (trim : Int) (inl : List Int) (x : Lap), lapOf s l = some x ∧ x.waiting = false ∧ s.faults.window = none ∧ x.again ≠ 1) ∧
    (∃ (s : State) (l : LaneId) (num : Int) (den : Nat) (trim : Int) (inl : List Int) (x : Lap), lapOf s l = some x ∧ x.waiting = false ∧ s.faults.window = none ∧ x.again ≠ 1 ∧ x.done + 1 = sliceCount l) ∧
    (∃ (s : State) (l : LaneId) (x : Lap) (r : Nat), lapOf s l = some x ∧ x.waiting = true ∧ sinceNs s (some x.setAt) 500 = true ∧ receiving s l = false ∧ capturing s l = false ∧ vgaTakes s l = false ∧ (slicesOf s l).place[x.done - 1]? = some r ∧ r < sliceCount l) ∧
    (∃ (s : State), (s.cal.targets.map (·.1)).Nodup) ∧
    (∃ (s : State), (bankOf s 10).errs = [] ∧ (bankOf s 10).poison = []) ∧
    (∃ (s : State) (n : Fin 8) (k0 : Int) (k1 : Int) (k2 : Int) (k3 : Int), s.cal.skewNow.testBit n = true ∧ s.cal.skewAgain.testBit n = false ∧ s.cal.skewLive.testBit n = true ∧ s.faults.window = none) ∧
    (∃ (s : State) (c : Fin 32) (o1 : Int) (g1 : Int) (o2 : Int) (g2 : Int), s.cal.bdacNow = some c.val ∧ s.cal.repeatBdac = false ∧ s.faults.window = none) ∧
    (∃ (s : State) (n : Fin 24) (offset : Int) (gain : Int), s.cal.senseNow = some n.val ∧ s.cal.repeatSense = false ∧ n.val ∉ s.cal.senseQueue ∧ s.faults.window = none) :=
  ⟨⟨lapped (.line 0) ⟨0, 64, false, 0, false, 0, false, []⟩, .line 0, 300, 0, -40, [], ⟨0, 64, false, 0, false, 0, false, []⟩, by decide +kernel⟩,
    ⟨lapped (.line 0) ⟨3, 64, false, 0, false, 0, false, []⟩, .line 0, 300, 1, -40, [], ⟨3, 64, false, 0, false, 0, false, []⟩, by decide +kernel⟩,
    ⟨lapped (.host 1) ⟨32, 5, false, 0, false, 0, false, []⟩, .host 1, 3, 0, 4, [], ⟨32, 5, false, 0, false, 0, false, []⟩, by decide +kernel⟩,
    ⟨late (lapped (.line 0) ⟨64, 64, true, 0, false, 0, false, []⟩), .line 0, ⟨64, 64, true, 0, false, 0, false, []⟩, 63, by decide +kernel⟩,
    ⟨{ ported with cal := { ported.cal with targets := [(corrKey .biasDacs 31 1 1, 5)] } }, by decide +kernel⟩,
    ⟨{ ported with cal := { ported.cal with sets := [(corrKey .biasDacs 31 1 1 * 8, 5)] } }, by decide +kernel⟩,
    ⟨{ ported with cal := { ported.cal with skewNow := 1, skewLive := 1 } }, 0, -1, 63, 64, 5, by decide +kernel⟩,
    ⟨{ up with cal := { up.cal with bdacNow := some 31 } }, 31, -128, 0, 0, 128, by decide +kernel⟩,
    ⟨{ up with cal := { up.cal with senseNow := some 23 } }, 23, -128, 128, by decide +kernel⟩⟩

theorem meets_EqualiserCommandsComplete :
    (∃ (s : State) (l : LaneId) (codes : List Int), 
      let u := rxStream s l codes
      
      let b := (rxRec u l).upd
      laneRuns u l = true ∧ eqAdapt u l = true ∧ (eqRec u l).ran = true ∧ eqPaused u l = false ∧ b.skipped = false) ∧
    (∃ (s : State) (l : LaneId) (codes : List Int), 
      let u := rxStream s l codes
      (eqPaused u l = true ∨ (rxRec u l).upd.skipped = true)) ∧
    (∃ (s : State) (l : LaneId) (codes : List Int), 
      let u := rxStream s l codes
      laneRuns u l = true ∧ (eqRec u l).ran = true ∧ eqPaused u l = false ∧ (eqRec u l).dd = false ∧ laneLol u l = false) ∧
    (∃ (s : State) (l : LaneId), laneLinkState s l ≠ 0 ∧ laneLinkState s l ≠ 6 ∧ (eqRec s l).held = true ∧ (eqRec s l).dd = true ∧ laneLos s l = false ∧ laneLol s l = false) ∧
    (∃ (s : State) (n : Fin 8) (codes : List Int), 
      let u := rxStream s (.line n) codes
      laneLos u (.line n) = false ∧ laneRuns u (.line n) = true) ∧
    (∃ (s : State) (n : Fin 16) (codes : List Int), 
      let u := rxStream s (.host n) codes
      laneLos u (.host n) = false ∧ laneRuns u (.host n) = true ∧ (rxRec u (.host n)).levels.toList.foldl (· + ·) 0 = 0) ∧
    (∃ (s : State) (c : Cmd), Taken 0x0310 [(2, 7), (3, 0xFFFFFFFF)] c s ∧ c.w 3 % 4 = 0 ∧ c.w 3 + 320 ≤ bulkEnd s ∧ (portOfLine s (c.w 2)).isSome = true ∧ rehearsing s 1 (c.w 2) = false) ∧
    (∃ (s : State) (c : Cmd) (p : Nat), Taken 0x0311 [(2, 7), (3, 0xFFFFFFFF)] c s ∧ c.w 3 % 4 = 0 ∧ c.w 3 + 320 ≤ bulkEnd s ∧ portOfLine s (c.w 2) = some p ∧ rdE s F.PCS_PORT_CTRL_ADMIN_UP p = 0 ∧ rehearsing s 1 (c.w 2) = false ∧ 
      let ws := (fetchWords (takenState 0x0311 c s) (windowBase + c.w 3) 80).2
      imageMatches s (c.w 2) (ws.getD 0 0) = true) :=
  ⟨⟨setRxRec (setEqRec (linked 4) (.line 0) { eqRec (linked 4) (.line 0) with ran := true }) (.line 0) { rxRec (linked 4) (.line 0) with upd := ⟨[], [], [], [], 0, false⟩ }, .line 0, [], by decide +kernel⟩,
    ⟨linked 0, .line 0, [], by decide +kernel⟩,
    ⟨setEqRec (linked 4) (.line 0) { eqRec (linked 4) (.line 0) with ran := true, good := 7 }, .line 0, [], by decide +kernel⟩,
    ⟨setEqRec (linked 4) (.line 0) { eqRec (linked 4) (.line 0) with dd := true, held := true }, .line 0, by decide +kernel⟩,
    ⟨linked 4, 0, [], by decide +kernel⟩,
    ⟨wr (linked 4) F.HSL_STATUS_LOS 0 0, 0, [], by decide +kernel⟩,
    ⟨ported, cmd [0, 4], by decide +kernel⟩,
    ⟨putWords ported (windowBase + 4) [2 ^ 24 + rdE ported F.LEQ_CTRL_MAIN 0 * 2 ^ 12], cmd [0, 4], 0, by decide +kernel⟩⟩

theorem meets_CueCommandsComplete :
    (∃ (s : State) (c : Cmd) (e : Nat), Taken 0x0801 [(2, 0x7F), (3, 0x3F), (4, 0xFFFFFFFF), (5, 0xFFFF), (6, 0xFFFFFFFF), (7, if (c.w 3).testBit 4 then 0xFFFF else 0xFFFFFFFF), (8, 0xFF), (10, 0xFFFFFFFF)] c s ∧ 
      let p := c.w 3 % 8
      
      let d := if (c.w 3).testBit 3 then Dir.rx else Dir.tx
      
      let trigger := c.w 4 + c.w 5 * 2 ^ 32
      
      let period := c.w 6 + c.w 7 * 2 ^ 32
      (c.w 2 = e ∧ e ≤ 63 ∧ cueSlot s e = .free ∨ c.w 2 = 0x7F ∧ freeEntry s = some e) ∧ 1 ≤ c.w 8 ∧ c.w 8 ≤ 8 ∧ c.w 10 &&& (2 ^ 32 - 1 - actionArg (c.w 8)) = 0 ∧ portEnabled s p = true ∧ triggerOk (showClock s p d) trigger = true ∧ ((c.w 3).testBit 4 = true → period ≠ 0 ∧ period ≤ 2 ^ 47) ∧ (c.w 8 = 4 → (c.w 3).testBit 3 = false) ∧ sealConflict s (c.w 8) (c.w 10) = false) ∧
    (∃ (s : State) (c : Cmd), Taken 0x0802 [(2, 0x3F)] c s ∧ (armedCue s (c.w 2)).isSome = true) ∧
    (∃ (s : State) (c : Cmd) (x : Cue), Taken 0x0803 [(2, 0x3F)] c s ∧ armedCue s (c.w 2) = some x) ∧
    (∃ (s : State) (c : Cmd), Taken 0x0803 [(2, 0x3F)] c s ∧ armedCue s (c.w 2) = none) ∧
    (∃ (s : State) (c : Cmd) (e : Nat) (n : Nat), Taken 0x0804 [(2, 7), (4, 0xFFFFFFFF), (5, 0xFFFF), (6, 0xFFFF), (8, 0xFFFFFFFF), (10, 0xFFFFFFFF)] c s ∧ 1 ≤ c.w 8 ∧ c.w 8 ≤ 8 ∧ c.w 10 &&& (2 ^ 32 - 1 - actionArg (c.w 8)) = 0 ∧ portEnabled s (c.w 2) = true ∧ agreeRange s (c.w 2) (c.w 4 + c.w 5 * 2 ^ 32) = true ∧ agreeReady s (c.w 2) = true ∧ freeEntry s = some e ∧ agreeLane s (c.w 2) = some n ∧ sealConflict s (c.w 8) (c.w 10) = false) ∧
    (∃ (s : State) (e : Fin 64) (x : Cue) (epoch : BitVec 16) (n : Fin 8), cueSlot s e = .reserved x epoch n) ∧
    (∃ (s : State) (e : Fin 64) (x : Cue) (epoch : BitVec 16) (n : Fin 8), cueSlot s e = .reserved x epoch n) ∧
    (∃ (s : State) (c : Cmd), Taken 0x0805 [(2, 0xFFFFFFFF), (3, 0xFFFFFFFF)] c s ∧ 
      let offset := c.w 2 + c.w 3 * 2 ^ 32
      offset < 2 ^ 63 ∧ s.time.hc.toNat + offset < 2 ^ 64) :=
  ⟨⟨ported, cmd [0x7F, 0x10, 1, 0, 1, 0, 8, 0, 0xFFFF], 0, by decide +kernel⟩,
    ⟨setCue up 63 (.armed (cue0 8 1 9)), cmd [63], by decide +kernel⟩,
    ⟨setCue up 63 (.armed (cue0 8 1 9)), cmd [63], cue0 8 1 9, by decide +kernel⟩,
    ⟨up, cmd [63], by decide +kernel⟩,
    ⟨partnered, cmd [0, 0, 1000000000, 0, 5, 0, 8, 0, 0xFFFF], 0, 0, by decide +kernel⟩,
    ⟨setCue up 63 (.reserved (cue0 8 1 9) 5 7), 63, cue0 8 1 9, 5, 7, by decide +kernel⟩,
    ⟨setCue up 63 (.reserved (cue0 8 1 9) 5 7), 63, cue0 8 1 9, 5, 7, by decide +kernel⟩,
    ⟨up, cmd [5, 0x7FFFFFFF], by decide +kernel⟩⟩

theorem meets_HouseClockOffsetRefused :
    (∃ (s : State) (c : Cmd), Taken 0x0805 [(2, 0xFFFFFFFF), (3, 0xFFFFFFFF)] c s ∧ (2 ^ 63 ≤ c.w 2 + c.w 3 * 2 ^ 32 ∨ 2 ^ 64 ≤ s.time.hc.toNat + (c.w 2 + c.w 3 * 2 ^ 32))) :=
  ⟨up, cmd [0, 0x80000000], by decide +kernel⟩

theorem meets_TransmitterCommandsComplete :
    (∃ (s : State) (n : Fin 8), laneRuns s (.line n) = true ∧ rd s F.LTX_SWING_NOW n ≠ rdE s F.LTX_SWING_SWING n ∧ sinceNs s (lineTx s n).swingLast 1000 = true) ∧
    (∃ (s : State) (l : LaneId), txBurst s l = true) ∧
    (∃ (s : State) (c : Cmd), Taken 0x0320 [(2, 7), (3, 0xFFFF), (4, 0xFFFFFFFF), (5, 0xFFFFFFFF)] c s ∧ c.w 5 % 4 = 0 ∧ 0 < c.w 4 ∧ c.w 3 + c.w 4 ≤ 65536 ∧ c.w 5 + 2 * c.w 4 ≤ bulkEnd s ∧ retained s 12 = false ∧ laneSealed s (c.w 2) = false ∧ rehearsing s 1 (c.w 2) = false ∧ xaRun s (c.w 2) = none ∧ 
      let es := lutEntries (fetchWords (takenState 0x0320 c s) (windowBase + c.w 5) ((c.w 4 + 1) / 2)).2 (c.w 4)
      (∀ x ∈ es, entryOk x = true)) ∧
    (∃ (s : State) (c : Cmd), Taken 0x0321 [(2, 7), (3, 1), (4, 0xFFFF), (5, 0xFFFFFFFF), (6, 0xFFFFFFFF)] c s ∧ c.w 6 % 4 = 0 ∧ 0 < c.w 5 ∧ c.w 4 + c.w 5 ≤ 65536 ∧ c.w 6 + 2 * c.w 5 ≤ bulkEnd s ∧ retained s 12 = false) ∧
    (∃ (s : State) (c : Cmd), Taken 0x0322 [(2, 7)] c s ∧ retained s 12 = false ∧ laneSealed s (c.w 2) = false ∧ rehearsing s 1 (c.w 2) = false ∧ xaRun s (c.w 2) = none) :=
  ⟨⟨wr ported F.LTX_SWING_NOW 5 0, 0, by decide +kernel⟩,
    ⟨setTxRec (wr ported F.LTX_STATUS_BURST 1 7) (.line 7) { txRec ported (.line 7) with burst := 425210, prbs13 := 1 }, .line 7, by decide +kernel⟩,
    ⟨putWords up windowBase [0x01FFFE00], cmd [7, 65534, 2, 0], by decide +kernel⟩,
    ⟨up, cmd [7, 1, 65535, 1, 4], by decide +kernel⟩,
    ⟨setLineTx up 7 { lineTx up 7 with lut := [(65536 + 65535, 5), (5, 6)] }, cmd [7], by decide +kernel⟩⟩

theorem meets_AdaptationCommandsComplete :
    (∃ (s : State) (c : Cmd), Taken 0x0323 [(2, 0xFF), (3, 0x71), (4, 0xFFFF), (5, 0xFFFF), (6, 0xFF), (7, 0xFFFF)] c s ∧ c.w 3 / 16 ≤ 4 ∧ 16 ≤ c.w 4 ∧ c.w 4 ≤ 4096 ∧ c.w 6 ≠ 0 ∧ c.w 7 ≠ 0 ∧ c.w 7 ≤ 3600 ∧ (freeEntry s).isSome = true ∧ (∀ n ∈ bitsSet 8 (c.w 2), (portOfLine s n).any (agreeReady s) = true ∧ asideProfile s n = 2 ∧ partnerCoop s n = true ∧ rehearsing s 1 n = false ∧ xaRun s n = none ∧ laneSealed s n = false ∧ rd s F.ASD_STATUS_GATHERER n = 1)) ∧
    (∃ (s : State) (c : Cmd), Taken 0x0324 [(2, 0xFF), (3, 1)] c s ∧ c.w 3 = 0 ∧ (∀ n ∈ bitsSet 8 (c.w 2), (xaRun s n).isSome = true)) ∧
    (∃ (s : State) (c : Cmd), Taken 0x0324 [(2, 0xFF), (3, 1)] c s ∧ c.w 3 = 1 ∧ bitsSet 8 (c.w 2) ≠ [] ∧ (∀ n ∈ bitsSet 8 (c.w 2), (vGet s.lanes.xaStart n none).isSome = true ∧ (portOfLine s n).isSome = true)) ∧
    (∃ (s : State) (n : Fin 8) (x : XaRun) (p : Nat), xaRun s n = some x ∧ x.phase = .gather ∧ portOfLine s n = some p) ∧
    (∃ (s : State) (n : Fin 8) (x : XaRun) (p : Nat), xaRun s n = some x ∧ x.phase = .trackWait ∧ portOfLine s n = some p) ∧
    (∃ (s : State) (n : Fin 8) (g : Gatherer) (p : Nat), gatherOf s n = some g ∧ g.set = none ∧ portOfLine s n = some p ∧ rd s F.LEQ_XA_GATHER_STATE n = 2 ∧ 4096 * g.len ≤ ((showClock s p .rx).count - g.m).toNat) :=
  ⟨⟨partnered, cmd [1, 64, 16, 0, 255, 3600], by decide +kernel⟩,
    ⟨setXa ported 0 (some (xa0 .gather 0)), cmd [1, 0], by decide +kernel⟩,
    ⟨{ ported with lanes := { ported.lanes with xaStart := vSet ported.lanes.xaStart 0 (some []) } }, cmd [1, 1], by decide +kernel⟩,
    ⟨setXa ported 0 (some (xa0 .gather 2)), 0, xa0 .gather 2, 0, by decide +kernel⟩,
    ⟨setXa ported 0 (some (xa0 .trackWait 0)), 0, xa0 .trackWait 0, 0, by decide +kernel⟩,
    ⟨wr (setGather partnered 0 (some ⟨7, 0, 0, [(5, -9, 8)], 8, 2, none⟩)) F.LEQ_XA_GATHER_STATE 2 0, 0, ⟨7, 0, 0, [(5, -9, 8)], 8, 2, none⟩, 0, by decide +kernel⟩⟩

theorem meets_AsideTimersComplete :
    (∃ (s : State) (n : Fin 8), asideRuns s n = true) ∧
    (∃ (s : State) (n : Fin 8), asideRuns s n = true ∧ rdE s F.ASD_TIMING_HEALTH_PERIOD n ≠ 0) ∧
    (∃ (s : State) (n : Fin 8), rdE s F.ASD_TIMING_HEALTH_PERIOD n = 0) ∧
    (∃ (s : State) (n : Fin 8) (p : Nat) (o : AsideOut), portOfLine s n = some p ∧ asideRuns s n = true ∧ rd s F.ASD_STATUS_TX_BUSY n = 0 ∧ atGrid s n = true ∧ 
      let u := setAside s n { asideLane s n with queue := (asideLane s n).queue.filter (liveOut s) }
      pickOut u n p = some o) ∧
    (∃ (s : State) (n : Fin 8) (o : AsideOut) (q : AsidePacket), (asideLane s n).sending = some (o, q)) ∧
    (∃ (s : State) (n : Fin 8), asideRuns s n = true ∧ asideAuth s n ≠ 0) ∧
    (∃ (s : State) (n : Fin 8) (table : Nat), asideRuns s n = true ∧ negotiates s n = true ∧ earnedTable s n = some table ∧ table ≠ (rxLoading s n).table.toNat ∧ (loadB (rxLoading s n).table.toNat + 16 ≤ loadB table ∨ loadB table + 16 ≤ loadB (rxLoading s n).table.toNat)) :=
  ⟨⟨partnered, 0, by decide +kernel⟩,
    ⟨wrE partnered F.ASD_TIMING_HEALTH_PERIOD 1 0, 0, by decide +kernel⟩,
    ⟨wrE partnered F.ASD_TIMING_HEALTH_PERIOD 0 7, 7, by decide +kernel⟩,
    ⟨after (.helloTimer 0) partnered, 0, 0, .hello, by decide +kernel⟩,
    ⟨setAside partnered 7 { asideLane partnered 7 with sending := some (.fragment 3 15, ⟨0, []⟩) }, 7, .fragment 3 15, ⟨0, []⟩, by decide +kernel⟩,
    ⟨wrE partnered F.ASD_CTRL_AUTH 1 0, 0, by decide +kernel⟩,
    ⟨(List.range 8).foldl (fun t j => wr (wr (wr (wr t F.ASD_RX_SNR_j_SNR_0 200 0 j) F.ASD_RX_SNR_j_SNR_1 200 0 j) F.ASD_RX_SNR_j_SNR_2 200 0 j) F.ASD_RX_SNR_j_SNR_3 200 0 j) (wrE partnered F.ASD_CTRL_LOAD_EN 1 0), 0, 18446744073709551615, by decide +kernel⟩⟩

theorem meets_AsideCommandsComplete :
    (∃ (s : State) (c : Cmd), Taken 0x0701 ([(2, 15), (3, 15), (4, 0x3F)] ++ (List.range 8).map fun k => (5 + k, 0xFFFFFFFF)) c s ∧ (c.w 3 = 1 ∨ c.w 3 = 2 ∨ c.w 3 = 7) ∧ c.w 4 ≤ 32) ∧
    (∃ (s : State) (c : Cmd) (x : AsideBuf), Taken 0x0702 [(2, 0xFF), (3, 15)] c s ∧ vGet s.aside.bufs (c.w 3) none = some x ∧ x.kind ≠ 0 ∧ c.w 2 ≠ 0 ∧ (∀ n ∈ bitsSet 8 (c.w 2), lanePowered s (lineOf n) = true ∧ profileSends (asideProfile s n) x.kind = true ∧ rehearsing s 1 n = false)) ∧
    (∃ (s : State) (c : Cmd) (x : AsideHeld), Taken 0x0703 [(2, 7), (3, 15), (4, 0xFFFFFFFF)] c s ∧ c.w 4 % 4 = 0 ∧ aGet (asideLane s (c.w 2)).held (c.w 3) = some x ∧ c.w 4 + (12 + 4 * x.packet.words.length) ≤ bulkEnd s) ∧
    (∃ (s : State) (c : Cmd), Taken 0x0706 [(2, 0xFF)] c s ∧ c.w 2 ≠ 0 ∧ (∀ n ∈ bitsSet 8 (c.w 2), asideAuth s n ≠ 0 ∧ rehearsing s 1 n = false)) ∧
    (∃ (s : State), (s.mgmt.inProgress.filter (·.opcode == 0x0706)) ≠ []) ∧
    (∃ (s : State) (c : Cmd), Taken 0x0707 [(2, 0xFF)] c s ∧ (∀ n ∈ bitsSet 8 (c.w 2), bothCoop s n = true ∧ rehearsing s 1 n = false)) :=
  ⟨⟨partnered, cmd [15, 7, 32, 1, 2, 3], by decide +kernel⟩,
    ⟨{ partnered with aside := { partnered.aside with bufs := vSet partnered.aside.bufs 15 (some ⟨7, 3, [1]⟩) } }, cmd [1, 15], ⟨7, 3, [1]⟩, by decide +kernel⟩,
    ⟨setAside up 7 { asideLane up 7 with held := [(7, ⟨⟨5, [1, 2]⟩, 9⟩)] }, cmd [7, 7, 8], ⟨⟨5, [1, 2]⟩, 9⟩, by decide +kernel⟩,
    ⟨wrE partnered F.ASD_CTRL_AUTH 1 0, cmd [1], by decide +kernel⟩,
    ⟨{ up with mgmt := { up.mgmt with inProgress := [⟨5, 0x0706, false, 1, 0⟩] } }, by decide +kernel⟩,
    ⟨partnered, cmd [1], by decide +kernel⟩⟩

theorem meets_AsideReceptionComplete :
    (∃ (s : State) (n : Fin 8) (m : Nat) (strength : Nat), (asideLane s n).rx = none ∧ (rd s F.ASD_LEVEL_REF n = 0 ∨ rdE s F.ASD_DET_WEAK_REJ n = 0 ∨ rd s F.ASD_LEVEL_REF n ≤ strength + rdE s F.ASD_DET_WEAK_REJ n * 256)) ∧
    (∃ (s : State) (n : Fin 8) (words : List Word) (snr : List Nat) (r : AsideRx) (p : Nat), Receivable s n 1 words {} r ∧ portOfLine s n = some p) ∧
    (∃ (s : State) (n : Fin 8) (words : List Word) (snr : List Nat) (r : AsideRx), Receivable s n 2 words {} r) ∧
    (∃ (s : State) (n : Fin 8) (words : List Word) (snr : List Nat) (r : AsideRx), Receivable s n 7 words {} r) :=
  ⟨⟨partnered, 0, 200, 300, by decide +kernel⟩,
    ⟨rxing 1 8, 0, payload 8 [0x4000, 0, 5, 6], flat 100, rx0 1 8, 0, by decide +kernel⟩,
    ⟨rxing 2 8, 0, payload 8 [0], flat 100, rx0 2 8, by decide +kernel⟩,
    ⟨rxing 7 8, 0, payload 8 [0], flat 100, rx0 7 8, by decide +kernel⟩⟩

theorem meets_AsideRequestsComplete :
    (∃ (s : State) (n : Fin 8) (x : Fin 8) (words : List Word) (snr : List Nat) (r : AsideRx) (p : Nat), Receivable s n 3 words { request := true } r ∧ portOfLine s n = some p ∧ bitsOf (pw words 1) 19 17 < portWidth s p ∧ physOf s p (bitsOf (pw words 1) 19 17) = x ∧ asideProfile s x = 2) ∧
    (∃ (s : State) (n : Fin 8) (words : List Word) (snr : List Nat) (r : AsideRx) (x : XaRun) (p : Nat), Receivable s n 3 words {} r ∧ portOfLine s n = some p ∧ 
      let own := p + bitsOf (pw words 1) 19 17
      xaRun s own = some x ∧ portOfLine s own = some p ∧ x.phase = .gather ∧ x.m = BitVec.ofNat 48 (pw words 2 + pw words 3 % 2 ^ 16 * 2 ^ 32) ∧ 
      let es := (List.range 64).map fun k => pw words (6 + k / 2) / 2 ^ (16 * (1 - k % 2)) % 2 ^ 16
      (aSet x.frags (bitsOf (pw words 1) 27 24) es).length ≠ 16) ∧
    (∃ (s : State) (n : Fin 8) (words : List Word) (snr : List Nat) (r : AsideRx) (p : Nat), Receivable s n 4 words { request := true } r ∧ portOfLine s n = some p ∧ 
      let id := BitVec.ofNat 16 (pw words 1 / 2 ^ 16)
      
      let trigger := pw words 2 + pw words 3 % 2 ^ 16 * 2 ^ 32
      
      let refusal := proposalRefusal s p (pw words 1 % 256) trigger (pw words 4)
      (asideLane s n).answered.find? (·.1 == id) = none) ∧
    (∃ (s : State) (n : Fin 8) (e : Fin 64) (words : List Word) (snr : List Nat) (r : AsideRx) (x : Cue) (epoch : BitVec 16) (m : Fin 8), Receivable s n 5 words {} r ∧ (List.range 64).find? (fun k => match cueSlot s k with | .reserved c _ _ => c.agree == some (BitVec.ofNat 16 (pw words 1 / 2 ^ 16)) | _ => false) = some e.val ∧ cueSlot s e = .reserved x epoch m) ∧
    (∃ (s : State) (n : Fin 8) (words : List Word) (snr : List Nat) (r : AsideRx), Receivable s n 6 words { request := true } r ∧ negotiates s n = true ∧ 
      let id := pw words 1 % 16
      
      let table : BitVec 64 := if id = 0 then loadZero else BitVec.ofNat 64 (pw words 2 * 2 ^ 32 + pw words 3)
      loadValid table.toNat = true) ∧
    (∃ (s : State) (n : Fin 8) (words : List Word) (snr : List Nat) (r : AsideRx) (x : Loading), Receivable s n 6 words {} r ∧ (asideLane s n).proposed = some x ∧ x.id = pw words 1 % 16 ∧ x.id < 2 ^ 4 ∧ (hdrLoading r.header = 0 ∨ (((false :: (asideLane s n).results).take 8).filter id).length < 4)) ∧
    (∃ (s : State) (n : Fin 8) (words : List Word) (snr : List Nat) (r : AsideRx), Receivable s n 8 words { challenge := true } r) ∧
    (∃ (s : State) (n : Fin 8) (words : List Word) (snr : List Nat) (r : AsideRx), Receivable s n 8 words { response := true } r ∧ (asideLane s n).nonce = some (BitVec.ofNat 64 (pw words 4 * 2 ^ 32 + pw words 5)) ∧ ((pw words 1).testBit 8 = true ∨ (pw words 0).testBit 13 = true)) :=
  ⟨⟨rxing 3 8, 0, 0, payload 8 [0, 0, 9, 0, 64], flat 100, rx0 3 8, 0, by decide +kernel⟩,
    ⟨setXa (rxing 3 40) 0 (some (xa0 .gather 0)), 0, payload 40 [0, 0x1F000000, 7], flat 100, rx0 3 40, xa0 .gather 0, 0, by decide +kernel⟩,
    ⟨setPaired (rxing 4 8) 0 true, 0, payload 8 [0, 0x50000 + 8, 1000, 0, 9], flat 100, rx0 4 8, 0, by decide +kernel⟩,
    ⟨setCue (rxing 5 8) 63 (.reserved { cue0 8 1 9 with agree := some 5 } 5 0), 0, 63, payload 8 [0, 0x50000], flat 100, rx0 5 8, { cue0 8 1 9 with agree := some 5 }, 5, 0, by decide +kernel⟩,
    ⟨wrE (rxing 6 8) F.ASD_CTRL_LOAD_EN 1 0, 0, payload 8 [0, 3, 0xAAAAAAAA, 0xAAAAAAAA], flat 100, rx0 6 8, by decide +kernel⟩,
    ⟨setAside (rxing 6 8) 0 { asideLane (rxing 6 8) 0 with proposed := some ⟨3, 5⟩ }, 0, payload 8 [0, 0x10000003], flat 100, rx0 6 8, ⟨3, 5⟩, by decide +kernel⟩,
    ⟨rxing 8 8, 0, payload 8 [0, 0, 1, 2], flat 100, rx0 8 8, by decide +kernel⟩,
    ⟨setAside (rxing 8 8) 0 { asideLane (rxing 8 8) 0 with nonce := some 0x100000002 }, 0, payload 8 [0, 0x10000100, 0, 0, 1, 2], flat 100, rx0 8 8, by decide +kernel⟩⟩

theorem meets_PoolCommandsComplete :
    (∃ (s : State) (d : Dir) (m : Fin 16) (form : PoolTest) (conduct : MemberConduct), poolNeed s < unfenced s d ∧ (fencedMask s d).testBit m = false) ∧
    (∃ (s : State) (d : Dir) (m : Fin 16) (form : PoolTest) (conduct : MemberConduct), (unfenced s d ≤ poolNeed s ∨ (fencedMask s d).testBit m = true)) ∧
    (∃ (s : State) (c : Cmd), Taken 0x0240 [(2, 1), (3, 15), (4, 1)] c s ∧ (fencedMask s (dirOf (c.w 2))).testBit (c.w 3) = false ∧ (c.w 4 = 1 ∨ poolNeed s ≤ unfenced s (dirOf (c.w 2)) - 1)) ∧
    (∃ (s : State) (c : Cmd), Taken 0x0241 [(2, 1), (3, 15)] c s ∧ (fencedMask s (dirOf (c.w 2))).testBit (c.w 3) = true ∧ (∀ q ∈ s.mgmt.inProgress, q.opcode = 0x0241 → q.key / 16 ≠ poolNum (dirOf (c.w 2)))) ∧
    (∃ (s : State) (d : Dir) (q : InProg), (s.mgmt.inProgress.find? fun q => q.opcode == 0x0241 && q.key / 16 == poolNum d) = some q) ∧
    (∃ (s : State) (p : Fin 8), (portPath s p .rx).fecDue = false ∧ 2 ^ rdE s F.FEC_SD_CTRL_WIN p ≤ (portPath s p .rx).sdCount ∧ rdE s F.FEC_CTRL_SD_EN p ≠ 0 ∧ passMode s p = false) ∧
    (∃ (s : State) (p : Fin 8), (portPath s p .tx).fecDue = false ∧ 2 ^ rdE s F.FEC_SD_CTRL_WIN p ≤ (portPath s p .tx).sdCount ∧ rdE s F.FEC_CTRL_SD_EN p ≠ 0 ∧ passMode s p = false) :=
  ⟨⟨up, .rx, 15, .errors, .failing, by decide +kernel⟩,
    ⟨wr up F.FEC_POOL_STATUS_L2H_FENCED 0x8000, .rx, 15, .errors, .good, by decide +kernel⟩,
    ⟨up, cmd [1, 15, 0], by decide +kernel⟩,
    ⟨wr up F.FEC_POOL_STATUS_L2H_FENCED 0x8000, cmd [1, 15], by decide +kernel⟩,
    ⟨{ wr up F.FEC_POOL_STATUS_L2H_FENCED 0x8000 with mgmt := { up.mgmt with inProgress := [⟨5, 0x0241, false, 31, 0⟩] } }, .rx, ⟨5, 0x0241, false, 31, 0⟩, by decide +kernel⟩,
    ⟨setPortPath (wrE ported F.FEC_CTRL_SD_EN 1 0) 0 .rx { portPath ported 0 .rx with sdCount := 2 ^ 31 }, 0, by decide +kernel⟩,
    ⟨setPortPath (wrE ported F.FEC_CTRL_SD_EN 1 0) 0 .tx { portPath ported 0 .tx with sdCount := 2 ^ 31, sdSum := 10 ^ 9 }, 0, by decide +kernel⟩⟩

theorem meets_CodewordsPass :
    (∃ (s : State) (p : Fin 8) (codes : List (List Int)) (k : CodewordCond), portEnabled s p = true ∧ rehearsing s 3 p = false) ∧
    (∃ (s : State) (p : Fin 8) (codes : List (List Int)) (k : CodewordCond), portEnabled s p = true ∧ rehearsing s 3 p = false) :=
  ⟨⟨aligned 0 0 1, 0, [], calm, by decide +kernel⟩,
    ⟨aligned 0 1 1, 0, [], calm, by decide +kernel⟩⟩

theorem meets_AlignmentCommandsComplete :
    (∃ (s : State) (p : Fin 8) (ms : Vector (List PcsMark) 16), portEnabled s p = true ∧ linkState s p ≠ 0 ∧ linkState s p ≠ 6 ∧ s.power.mode = .show ∧ portRehearsing s p = false) ∧
    (∃ (s : State) (x : Fin 8) (pos : Nat) (arrival : Nat) (p : Nat) (vals : List (List Nat)), portOfLine s x = some p ∧ linkState s p ≠ 0 ∧ laneRuns s (lineOf x) = true ∧ laneLos s (lineOf x) = false ∧ markerValues s x pos = some vals) ∧
    (∃ (s : State) (l : LaneId) (codes : List Int), 
      let u := rxStream s l codes
      tpcEn u l = true ∧ laneRuns u l = true) ∧
    (∃ (s : State) (l : LaneId) (codes : List Int), 
      let u := rxStream s l codes
      tpcEn u l = false) ∧
    (∃ (s : State) (l : LaneId), tpcEn s l = true ∧ tpcPattern s l ≤ 2 ∧ (rxRec s l).tpc.agree = 128) ∧
    (∃ (s : State) (c : Cmd), Taken 0x0250 [(2, 0x1F), (3, 1), (4, 0xFFFF)] c s ∧ 
      let l := if (c.w 2).testBit 4 then hostOf (c.w 2 % 16) else lineOf (c.w 2 % 16)
      ((c.w 2).testBit 4 = true ∨ c.w 2 % 16 ≤ 7) ∧ c.w 4 ≠ 0 ∧ tpcEn s l = true ∧ laneRehearsing s l = false) :=
  ⟨⟨linked 2, 0, Vector.replicate 16 [⟨0, true, 0, 0⟩], by decide +kernel⟩,
    ⟨setRxRec (linked 2) (.line 0) { rxRec (linked 2) (.line 0) with detected := 100 }, 0, 1, 5, 0, List.replicate 8 [], by decide +kernel⟩,
    ⟨wrE (linked 4) F.LRX_TPC_CTRL_EN 1 0, .line 0, [], by decide +kernel⟩,
    ⟨linked 4, .line 0, [], by decide +kernel⟩,
    ⟨let s := wrE (linked 4) F.LRX_TPC_CTRL_EN 1 0; setRxRec s (.line 0) { rxRec s (.line 0) with tpc := { (rxRec s (.line 0)).tpc with agree := 128 } }, .line 0, by decide +kernel⟩,
    ⟨wrE (wrE ported F.HSL_TP_CTRL_TPC_EN 1 15) F.HSL_TP_CTRL_TPC_PATTERN 4 15, cmd [31, 1, 300], by decide +kernel⟩⟩

theorem meets_LockAndTrainingCommandsComplete :
    (∃ (s : State), s.time.sysPllLocked = true) ∧
    (∃ (s : State), s.time.sysPllLocked = false ∧ (s.power.mode = .show ∨ s.power.mode = .leavingIntermission)) ∧
    (∃ (s : State) (line : Bool) (b : Fin 2), (pllPair s line b).inUseLocked = true) ∧
    (∃ (s : State) (n : Fin 16), rd s F.HSL_STATUS_TRAINING n = 1 ∧ laneRuns s (.host n) = true) ∧
    (∃ (s : State) (n : Fin 16) (codes : List Int), 
      let u := rxStream s (.host n) codes
      forwarded u = true ∧ rd u F.HSL_STATUS_TRAINED n = 1 ∧ laneRuns u (.host n) = true ∧ timingHeld u (.host n) = false) ∧
    (∃ (s : State) (l : LaneId) (repeated : Bool) (p : Nat), lanePort s l = some p ∧ laneRuns s l = true ∧ 
      let i := cntPort p (if l.isLine then .tx else .rx) 13
      isPoisoned s 60 i = false ∧ wordErrs s 60 i = 0) ∧
    (∃ (s : State) (n : Fin 8) (repeated : Bool) (p : Nat), lanePort s (.line n) = some p ∧ laneRuns s (.line n) = true ∧ (linkState s p = 4 ∨ linkState s p = 5)) ∧
    (∃ (s : State) (n : Fin 16) (repeated : Bool) (p : Nat), lanePort s (.host n) = some p ∧ laneRuns s (.host n) = true) ∧
    (∃ (s : State) (c : Cmd), Taken 0x0330 [(2, 0xFFFF)] c s ∧ c.w 2 ≠ 0 ∧ forwarded s = true ∧ (∀ l ∈ allHost, (c.w 2).testBit l.num = true → lanePowered s l = true ∧ laneRehearsing s l = false)) :=
  ⟨⟨up, by decide +kernel⟩,
    ⟨{ up with time := { up.time with sysPllLocked := false } }, by decide +kernel⟩,
    ⟨setPllPair up false 1 ⟨true, true, false⟩, false, 1, by decide +kernel⟩,
    ⟨wr ported F.HSL_STATUS_TRAINING 1 1, 1, by decide +kernel⟩,
    ⟨wr (wr (wr (wrE (linked 4) F.PCS_PROFILE_CLK_MODE 0) F.HSL_STATUS_TRAINED 1 1) F.HSL_STATUS_LOS 0 1) F.HSL_STATUS_LOL 0 1, 1, [], by decide +kernel⟩,
    ⟨linked 4, .host 1, true, 0, by decide +kernel⟩,
    ⟨linked 4, 0, true, 0, by decide +kernel⟩,
    ⟨linked 4, 1, true, 0, by decide +kernel⟩,
    ⟨clocked 0, cmd [3], by decide +kernel⟩⟩

theorem meets_ReferenceCommandsComplete :
    (∃ (s : State) (r : Fin 3), refOk s r = true) ∧
    (∃ (s : State) (r : Fin 3), refOk s r = false) ∧
    (∃ (s : State) (b : Fin 2), inHoldover s b = true ∧ refOk s (hostRef s b) = true) ∧
    (∃ (s : State) (b : Fin 2), revertable s b = true ∧ rdE s F.HSL_REF_CTRL_REF_REVERT = 1) ∧
    (∃ (s : State) (c : Cmd), Taken 0x0260 [(2, 1)] c s ∧ revertable s (c.w 2) = true) ∧
    (∃ (s : State) (p : Fin 8) (rx : Bool), recovered s = true ∧ portEnabled s p = true) ∧
    (∃ (s : State), s.path.modeChange = true ∧ s.power.mode = .show) ∧
    (∃ (s : State), s.path.modeChange = true) :=
  ⟨⟨clocked 0, 1, by decide +kernel⟩,
    ⟨up, 2, by decide +kernel⟩,
    ⟨setHoldover (clocked 0) 1 true, 1, by decide +kernel⟩,
    ⟨wrE (setHostRef (clocked 0) 1 0) F.HSL_REF_CTRL_REF_REVERT 1, 1, by decide +kernel⟩,
    ⟨setHostRef (clocked 0) 1 0, cmd [1], by decide +kernel⟩,
    ⟨wrE (clocked 1) F.HSL_CLK_SEL_FAILOVER 1 0, 0, false, by decide +kernel⟩,
    ⟨{ clocked 1 with path := { (clocked 1).path with modeChange := true } }, by decide +kernel⟩,
    ⟨{ clocked 1 with path := { (clocked 1).path with modeChange := true } }, by decide +kernel⟩⟩

theorem meets_GoAndCueFiringComplete :
    (∃ (s : State) (mask : BitVec 16), goChecks s (goCandidate s mask.toNat) mask.toNat = none) ∧
    (∃ (s : State) (mask : BitVec 16) (f : GoFail), mask ≠ 0 ∧ goChecks s (goCandidate s mask.toNat) mask.toNat = some f) ∧
    (∃ (s : State) (p : Fin 8) (d : Dir), dueDistances s p d = []) ∧
    (∃ (s : State) (p : Fin 8) (d : Dir) (ago : Nat) (x : DueCue), dueDistances s p d = [ago] ∧ dueAt s p d ago = [x] ∧ x.cue.action = 8) ∧
    (∃ (s : State) (p : Fin 8) (d : Dir) (ago : Nat) (x : DueCue), dueDistances s p d = [ago] ∧ dueAt s p d ago = [x] ∧ x.cue.action = 5 ∧ lanePowered s (lineOf (x.cue.arg % 8)) = true ∧ rehearsing s 1 (x.cue.arg % 8) = false ∧ asideRuns s (x.cue.arg % 8) = true ∧ (vGet s.aside.bufs (x.cue.arg / 256 % 16) none).isSome = true ∧ (asideLane s (x.cue.arg % 8)).early.contains (x.entry, x.cue.trigger) = false) ∧
    (∃ (s : State) (p : Fin 8) (d : Dir) (ago : Nat) (x : DueCue), dueDistances s p d = [ago] ∧ dueAt s p d ago = [x] ∧ x.cue.action = 1 ∧ 
      let s1 := cueAdvance (cueFired s x) x
      goChecks s1 (goCandidate s1 (x.cue.arg % 2 ^ 16)) (x.cue.arg % 2 ^ 16) = none) ∧
    (∃ (s : State) (mask : BitVec 16) (p : Fin 8) (d : Dir) (ago : Nat) (x : DueCue), dueDistances s p d = [ago] ∧ dueAt s p d ago = [x] ∧ x.cue.action = 1 ∧ 
      let s1 := cueAdvance (cueFired s x) x
      
      let m := (mask.toNat ||| x.cue.arg) % 2 ^ 16
      goChecks s1 (goCandidate s1 m) m = none) :=
  ⟨⟨staged, 0x80, by decide +kernel⟩,
    ⟨misstaged, 0x80, (goChecks misstaged (goCandidate misstaged 0x80) 0x80).getD ⟨.profile, 0, 0⟩, by decide +kernel⟩,
    ⟨ported, 7, .rx, by decide +kernel⟩,
    ⟨setCue ported 63 (.armed (cue0 8 5 0)), 0, .tx, 0, ⟨63, cue0 8 5 0, ShowClock.reset⟩, by decide +kernel⟩,
    ⟨{ setCue partnered 63 (.armed (cue0 5 0xF00 0)) with aside := { partnered.aside with bufs := vSet partnered.aside.bufs 15 (some ⟨7, 3, [1]⟩) } }, 0, .tx, 0, ⟨63, cue0 5 0xF00 0, ShowClock.reset⟩, by decide +kernel⟩,
    ⟨wrE (setCue staged 63 (.armed (cue0 1 0x80 0))) F.PCS_PORT_CTRL_WIDTH 1 0, 0, .tx, 0, ⟨63, cue0 1 0x80 0, ShowClock.reset⟩, by decide +kernel⟩,
    ⟨wrE (setCue staged 63 (.armed (cue0 1 0x80 0))) F.PCS_PORT_CTRL_WIDTH 1 0, 0x4000, 0, .tx, 0, ⟨63, cue0 1 0x80 0, ShowClock.reset⟩, by decide +kernel⟩⟩

theorem meets_TestCommandsComplete :
    (∃ (s : State) (c : Cmd), Taken 0x0D01 [(2, 15), (3, 0xFF)] c s ∧ s.sec.otp.life ≠ 4 ∧ c.w 3 < clusterCount (c.w 2) ∧ rehearsalReady s (c.w 2) (c.w 3) = true ∧ testRuns s = false ∧ clusterCalibrating s (c.w 2) (c.w 3) = false) ∧
    (∃ (s : State) (r : Rehearsal) (v : TestVerdict) (patterns : Word) (unit : BitVec 12), s.test.rehearsal = some r) ∧
    (∃ (s : State) (c : Cmd), Taken 0x0D02 [] c s ∧ (s.test.rehearsal.isSome = true ∨ s.test.memTest.isSome = true)) ∧
    (∃ (s : State) (c : Cmd), Taken 0x0D03 [(2, 0x3F)] c s ∧ testRuns s = false) ∧
    (∃ (s : State) (k : Nat) (fails : List (Fin 32768 × Fin 79)) (counted : Bool) (patterns : Word), s.test.memTest = some k) ∧
    (∃ (s : State) (c : Cmd), Taken 0x0D04 [] c s ∧ testAllowed s = true ∧ testRuns s = false ∧ s.cal.run = none ∧ s.sec.update = none ∧ s.sec.ops = [] ∧ (∀ p : Fin 8, rdE s F.PCS_PORT_CTRL_ADMIN_UP p = 0) ∧ (∀ k : Fin 32, loopMode s k = 0 ∧ rdE s F.BDAC_CTRL_c_EN k = 0)) ∧
    (∃ (s : State) (v : TestVerdict) (patterns : Word) (partitions : BitVec 4) (ports : BitVec 8) (line : BitVec 8) (host : BitVec 16), s.test.dress = true) ∧
    (∃ (s : State) (clock : Bool) (patterns : Word), testRuns s = true) ∧
    (∃ (s : State) (clock : Bool) (patterns : Word), testRuns s = false) :=
  ⟨⟨up, cmd [7, 23], by decide +kernel⟩,
    ⟨{ up with test := { up.test with rehearsal := some ⟨7, 23, [], []⟩ } }, ⟨7, 23, [], []⟩, .pass, 5, 0xFFF, by decide +kernel⟩,
    ⟨{ up with test := { up.test with rehearsal := some ⟨7, 23, [], []⟩ } }, cmd [], by decide +kernel⟩,
    ⟨up, cmd [63], by decide +kernel⟩,
    ⟨{ up with test := { up.test with memTest := some 63 } }, 63, [(5, 3)], true, 7, by decide +kernel⟩,
    ⟨making, cmd [], by decide +kernel⟩,
    ⟨{ making with test := { making.test with dress := true } }, .fail, 9, 1, 2, 3, 4, by decide +kernel⟩,
    ⟨{ up with test := { up.test with memTest := some 63 } }, false, 5, by decide +kernel⟩,
    ⟨up, true, 5, by decide +kernel⟩⟩

theorem meets_MemoryAndAlarmCommandsComplete :
    (∃ (s : State) (k : Fin 64) (c : Nat × Nat), s.mem.candidates.find? (·.1 == k.val) = some c ∧ remapFull s k = false ∧ remapped s k c.2 = false ∧ c.2 ∉ (bankOf s k).poison ∧ eccDecode (wordErrs s k c.2) ≠ .uncorr) ∧
    (∃ (s : State) (k : Fin 64) (upset : BitVec 79) (raced : Bool), scrubs s = false) ∧
    (∃ (s : State) (k : Fin 64) (upset : BitVec 79) (raced : Bool), scrubs s = true ∧ nextValid s k (bankOf s k).scrubAt = none) ∧
    (∃ (s : State) (k : Fin 64) (upset : BitVec 79) (raced : Bool) (a : Nat), scrubs s = true ∧ nextValid s k (bankOf s k).scrubAt = some a) ∧
    (∃ (s : State) (c : Cmd), Taken 0x0A01 [(2, 0x3F), (3, 0xFFFF)] c s ∧ c.w 3 < bankWords (c.w 2) ∧ retained s (c.w 2) = false ∧ remapFull s (c.w 2) = false ∧ remapped s (c.w 2) (c.w 3) = false) ∧
    (∃ (s : State) (c : Cmd), Taken 0x0A02 [(2, 0x3F), (3, 0xFFFF), (4, 3), (5, 0x7F)] c s ∧ testAllowed s = true ∧ c.w 3 < bankWords (c.w 2) ∧ c.w 4 ≠ 0 ∧ c.w 5 ≤ 76 ∧ 12 ≤ c.w 2 ∧ wordValid s (c.w 2) (c.w 3) = true ∧ retained s (c.w 2) = false) ∧
    (∃ (s : State) (i : Instr) (source : Nat), (i = .voltageGlitch ∧ source = 0 ∨ i = .clockGlitch ∧ source = 1) ∧ deviceUp s = true) ∧
    (∃ (s : State), s.sec.pulse.isSome = true ∧ sinceNs s s.sec.pulse 1000000 = true) :=
  ⟨⟨{ up with mem := { up.mem with candidates := [(60, 2047)] } }, 60, (60, 2047), by decide +kernel⟩,
    ⟨wr up F.MEM_CTRL_SCRUB_EN 0, 0, 1, true, by decide +kernel⟩,
    ⟨wr up F.MEM_CTRL_SCRUB_EN 1, 60, 0, false, by decide +kernel⟩,
    ⟨wr (setBank up 60 { MemBank.reset with valid := [2047], errs := [(2047, 1)] }) F.MEM_CTRL_SCRUB_EN 1, 60, 4, false, 2047, by decide +kernel⟩,
    ⟨up, cmd [63, 63], by decide +kernel⟩,
    ⟨setBank making 60 { MemBank.reset with valid := [2047] }, cmd [60, 2047, 3, 76], by decide +kernel⟩,
    ⟨wr up F.SEC_ALARM_CFG_CGLITCH 3, .clockGlitch, 1, by decide +kernel⟩,
    ⟨late { up with sec := { up.sec with pulse := some 0 } }, by decide +kernel⟩⟩

theorem meets_FaultAndBookCommandsComplete :
    (∃ (s : State), mexisRuns s = true) ∧
    (∃ (s : State), mexisRuns s = true ∧ sinceNs s (some s.faults.watchdogAt) 100000000 = true) ∧
    (∃ (s : State), mexisRuns s = true) ∧
    (∃ (s : State), s.time.crystalOk = true ∧ deviceUp s = true) ∧
    (∃ (s : State), s.time.crystalOk = false ∧ deviceUp s = true) ∧
    (∃ (s : State) (r : Fin 7), below s r = false ∧ railMonitored s r = true) ∧
    (∃ (s : State) (r : Fin 7), railLow s r = true) ∧
    (∃ (s : State) (w : Nat × Nat), s.faults.window = some w ∧ dataRailBelow s = false ∧ sinceNs s (some w.2) 2000 = true) ∧
    (∃ (s : State) (n : Nat), ready s = true ∧ s.book.copying = none ∧ s.book.queued.find? (copyEligible s) = some n) ∧
    (∃ (s : State) (x : Nat × Nat), s.book.copying = some x) ∧
    (∃ (s : State) (c : Cmd), Taken 0x0B01 [(2, 0xFFFFFF), (3, 0xFFFFFFFF), (4, 0xFFFFFFFF)] c s ∧ c.w 4 % 4 = 0 ∧ c.w 3 ≠ 0 ∧ c.w 3 ≤ 4096 ∧ 
      let v := takenState 0x0B01 c s
      (∃ e ∈ v.book.records, e.2.seq = c.w 2) ∧ c.w 4 + 32 * min (c.w 3) (slotsFrom v (c.w 2)).length ≤ bulkEnd s) ∧
    (∃ (s : State) (c : Cmd), Taken 0x0B02 [(2, 3)] c s ∧ c.w 2 ≠ 0 ∧ 
      let v := takenState 0x0B02 c s
      (∀ k ∈ bitsSet 2 (c.w 2), sectionHeld v k = true)) ∧
    (∃ (s : State) (c : Cmd) (copy : List (Nat × PbRecord)), Taken 0x0B03 [(2, 1), (3, 0xFFFFFFFF), (4, 0xFFFFFFFF), (5, 0xFFFFFFFF)] c s ∧ c.w 5 % 4 = 0 ∧ c.w 4 ≠ 0 ∧ c.w 3 + c.w 4 ≤ 4096 ∧ c.w 5 + 32 * c.w 4 ≤ bulkEnd s ∧ vGet s.book.flash (c.w 2) none = some copy) ∧
    (∃ (s : State) (c : Cmd), Taken 0x0B04 [(2, 0xFFFFFFFF)] c s ∧ 
      let v := takenState 0x0B04 c s
      (sectionHeld v 0 = false ∨ sectionHeld v 1 = false)) :=
  ⟨⟨up, by decide +kernel⟩,
    ⟨late up, by decide +kernel⟩,
    ⟨up, by decide +kernel⟩,
    ⟨up, by decide +kernel⟩,
    ⟨{ up with time := { up.time with crystalOk := false } }, by decide +kernel⟩,
    ⟨up, 3, by decide +kernel⟩,
    ⟨{ up with faults := { up.faults with below := vSet up.faults.below 6 true } }, 6, by decide +kernel⟩,
    ⟨late { wr up F.LOOP_STATUS_STATE 1 31 with faults := { up.faults with window := some (0, 0) } }, (0, 0), by decide +kernel⟩,
    ⟨{ up with book := { up.book with queued := [1, 2] } }, 1, by decide +kernel⟩,
    ⟨{ up with book := { up.book with copying := some (1, 5), records := [(0, record0)] } }, (1, 5), by decide +kernel⟩,
    ⟨{ up with book := { up.book with records := [(0, record0)], nextSeq := 6 } }, cmd [5, 4096, 0], by decide +kernel⟩,
    ⟨{ up with book := { up.book with sections := vSet up.book.sections 1 (some ⟨1, 5, 8⟩) } }, cmd [2], by decide +kernel⟩,
    ⟨{ up with book := { up.book with flash := vSet up.book.flash 1 (some [(4095, record0)]) } }, cmd [1, 4095, 1, 4], [(4095, record0)], by decide +kernel⟩,
    ⟨up, cmd [5], by decide +kernel⟩⟩

theorem meets_RegisterWritesComplete :
    (∃ (s : State) (iface : Iface) (a : BitVec 24) (d : Word), deviceUp s = true ∧ writeRefusal s a.toNat d.toNat = none) ∧
    (∃ (s : State) (iface : Iface) (a : BitVec 24) (d : Word), deviceUp s = true ∧ a.toNat % 4 = 0 ∧ inWindow a.toNat = true ∧ windowReadOnly s a.toNat = false) ∧
    (∃ (s : State) (iface : Iface) (a : BitVec 24) (d : Word) (r : RegInfo) (i : Nat) (j : Nat), deviceUp s = true ∧ target a.toNat = .mainReg r i j ∧ writeRefusal s a.toNat d.toNat = none ∧ dressTested s a.toNat = false ∧ r.place.base ∉ [Regs.CUE_LATCH.base, Regs.LRX_SPOT_CTRL.base, Regs.SNS_SYNC.base, Regs.SNAP_CTRL.base, Regs.GO_FIRE.base, Regs.GO_DISCARD.base, Regs.BDAC_CEIL_c.base, Regs.CNT_SLOT_s.base, Regs.RING_LAYOUT.base, Regs.DB_CPL_ACK.base, Regs.DB_EVT_ACK.base, Regs.PWR_WAKE_CFG.base]) ∧
    (∃ (s : State) (iface : Iface) (who : Iface) (a : BitVec 24) (d : Word) (e : Word), deviceUp s = true ∧ iface.num < who.num ∧ a.toNat % 4 = 0 ∧ inWindow a.toNat = true ∧ windowReadOnly s a.toNat = false) ∧
    (∃ (s : State) (iface : Iface), deviceUp s = true) ∧
    (∃ (s : State) (iface : Iface) (who : Iface) (a : BitVec 24) (d : Word) (cause : Nat), deviceUp s = true ∧ who ≠ iface ∧ writeRefusal s a.toNat d.toNat = some cause) ∧
    (∃ (s : State) (iface : Iface), deviceUp s = true) ∧
    (∃ (s : State) (iface : Iface) (k : Fin 64) (a : Fin 32768) (scrub : Bool), deviceUp s = true ∧ wordValid s k a = true ∧ isPoisoned s k a = false ∧ eccDecode (wordErrs s k a) = .uncorr ∧ (∀ i ∈ [0x753, 0x755, 0x757], (k.val, a.val) ≠ (60, i) → eccDecode (wordErrs s 60 i) ≠ .uncorr)) ∧
    (∃ (s : State) (b : VotedBit), deviceUp s = true ∧ votedBit b = true) :=
  ⟨⟨up, .core, 0x310004, 5, by decide +kernel⟩,
    ⟨up, .core, 0x82FFFC, 5, by decide +kernel⟩,
    ⟨up, .spi, 0x310004, 0xFFFFF, ((findReg 0x310004).map (·.1)).getD ⟨Regs.BDAC_CODE_c, []⟩, 0, 0, by decide +kernel⟩,
    ⟨up, .i2cA, .core, 0x82FFFC, 5, 6, by decide +kernel⟩,
    ⟨wr up F.REGIF_ERR_INFO_VALID 1, .spi, by decide +kernel⟩,
    ⟨up, .spi, .i2cA, 0xFFFFFF, 0, 1, by decide +kernel⟩,
    ⟨wr up F.MEM_ERR_INFO_VALID 1, .spi, by decide +kernel⟩,
    ⟨setBank up 60 { MemBank.reset with valid := [2047], errs := [(2047, 7)] }, .spi, 60, 2047, true, by decide +kernel⟩,
    ⟨up, .field 0x20100 0, by decide +kernel⟩⟩

theorem meets_PortAccessesComplete :
    (∃ (s : State) (addr : BitVec 7) (data : List Byte), deviceUp s = true ∧ addr.toNat ≠ portAddress s) ∧
    (∃ (s : State) (addr : BitVec 7) (data : List Byte), deviceUp s = true ∧ addr.toNat = portAddress s ∧ data.length = 7 ∧ rd s F.REGIF_CTRL_PEC_A = 0 ∧ reservedAddr (be (data.take 3)) = false ∧ writeRefusal s (be (data.take 3)) (be (data.drop 3)) = none) ∧
    (∃ (s : State) (addr : BitVec 7) (a : BitVec 24), deviceUp s = true ∧ addr.toNat = portAddress s ∧ rd s F.REGIF_CTRL_PEC_A = 0 ∧ (regRead .i2cA s a.toNat).2.2 = none) ∧
    (∃ (s : State) (addr : BitVec 7), deviceUp s = true ∧ addr.toNat = portAddress s ∧ rd s F.REGIF_CTRL_PEC_A = 0 ∧ (regRead .i2cA s s.mgmt.i2cNext).2.2 = none) ∧
    (∃ (s : State) (data : List Byte), deviceUp s = true ∧ data.length = 7 ∧ rd s F.REGIF_CTRL_CRC_SPI = 0 ∧ writeRefusal s (be (data.take 3)) (be (data.drop 3)) = none) ∧
    (∃ (s : State) (a : BitVec 24), deviceUp s = true ∧ rd s F.REGIF_CTRL_CRC_SPI = 0 ∧ (regRead .spi s a.toNat).2.2 = none) ∧
    (∃ (s : State) (cmd : Byte), deviceUp s = true) ∧
    (∃ (s : State) (iface : Iface) (d : Word), deviceUp s = true ∧ s.mgmt.layoutSpent = false ∧ layoutOk s d.toNat = true) ∧
    (∃ (s : State) (iface : Iface) (d : Word), deviceUp s = true ∧ doorbellOk (rd s F.DB_CMD_PROD) (rd s F.RING_CMD_CONS_CONS) (d.toNat % 2 ^ 16) (cmdRingSize s) = true) ∧
    (∃ (s : State) (iface : Iface) (d : Word), deviceUp s = true ∧ doorbellOk (rd s F.DB_CPL_ACK_ACK) (rd s F.DB_CPL_ACK_ACK) (d.toNat % 2 ^ 16) (cplFill s) = true) ∧
    (∃ (s : State) (iface : Iface) (d : Word), deviceUp s = true ∧ doorbellOk (rd s F.DB_EVT_ACK_ACK) (rd s F.DB_EVT_ACK_ACK) (d.toNat % 2 ^ 16) (evtFill s) = true) :=
  ⟨⟨up, 0x59, [1, 2], by decide +kernel⟩,
    ⟨wr up F.REGIF_CTRL_PEC_A 0, BitVec.ofNat 7 (portAddress up), [0x31, 0, 4, 0, 0, 0, 9], by decide +kernel⟩,
    ⟨wr up F.REGIF_CTRL_PEC_A 0, BitVec.ofNat 7 (portAddress up), 0x310004, by decide +kernel⟩,
    ⟨{ wr up F.REGIF_CTRL_PEC_A 0 with mgmt := { up.mgmt with i2cNext := 0x310004 } }, BitVec.ofNat 7 (portAddress up), by decide +kernel⟩,
    ⟨wr up F.REGIF_CTRL_CRC_SPI 0, [0x31, 0, 4, 0, 0, 0, 9], by decide +kernel⟩,
    ⟨wr up F.REGIF_CTRL_CRC_SPI 0, 0x310004, by decide +kernel⟩,
    ⟨up, 4, by decide +kernel⟩,
    ⟨up, .core, 1682132784, by decide +kernel⟩,
    ⟨up, .core, 256, by decide +kernel⟩,
    ⟨wr up F.RING_CPL_PROD_PROD 3, .core, 3, by decide +kernel⟩,
    ⟨wr up F.RING_EVT_PROD_PROD 0xFFFF, .spi, 5, by decide +kernel⟩⟩

theorem meets_ManagementCommandsComplete :
    (∃ (s : State) (c : Cmd) (opcode : BitVec 16), definedOpcodes.contains opcode.toNat = false ∧ consumes (offer s opcode.toNat c) opcode.toNat c = true ∧ slotUncorr (offer s opcode.toNat c) = false) ∧
    (∃ (s : State) (c : Cmd), Taken 0x0101 [] c s) ∧
    (∃ (s : State), rd s F.RING_STATUS_EVT_LOST ≠ 0 ∧ evtRoom s = true) ∧
    (∃ (s : State), rd s F.RING_STATUS_EVT_LOST = 0) ∧
    (∃ (s : State) (c : Cmd) (o : Nat), Taken 0x0102 [(2, 0x3FF), (3, 0xFF), (4, 2 ^ 32 - 1), (5, 2 ^ 32 - 1)] c s ∧ c.w 5 % 4 = 0 ∧ loadOffset c = some o ∧ c.w 5 + c.w 4 ≤ bulkEnd s ∧ rd s F.RING_LAYOUT_CMIS_EN = 1) ∧
    (∃ (s : State) (addr : BitVec 7) (reg : Option Byte) (count : Nat), portBAnswers s addr.toNat = true) ∧
    (∃ (s : State) (addr : BitVec 7) (a : Byte) (o : Nat), portBAnswers s addr.toNat = true ∧ a.toNat ≠ 126 ∧ a.toNat ≠ 127 ∧ cmisOffset s.mgmt.cmisPage s.mgmt.cmisBank a.toNat = some o ∧ isPoisoned s 8 ((0x20000 + o) / 8) = false ∧ wordErrs s 8 ((0x20000 + o) / 8) = 0) ∧
    (∃ (s : State) (addr : BitVec 7) (a : Byte) (v : Byte), portBAnswers s addr.toNat = true) ∧
    (∃ (s : State) (e : CmisWrite) (rest : List CmisWrite), s.mgmt.cmisLog = e :: rest ∧ mexisRuns s = true ∧ ready s = true) ∧
    (∃ (s : State) (o : BitVec 16) (v : Byte) (writable : List (BitVec 16)), mexisRuns s = true ∧ ready s = true ∧ o.toNat < 128 ∧ rd s F.RING_LAYOUT_CMIS_EN = 1) ∧
    (∃ (s : State) (m : MexisStart), mexisRuns s = true ∧ ready s = false ∧ s.power.warmPending = false) :=
  ⟨⟨up, cmd [], 0xFFFF, by decide +kernel⟩,
    ⟨up, cmd [], by decide +kernel⟩,
    ⟨wr up F.RING_STATUS_EVT_LOST 9, by decide +kernel⟩,
    ⟨up, by decide +kernel⟩,
    ⟨cmis, cmd [512, 127, 1, 4], 127, by decide +kernel⟩,
    ⟨cmis, 0x50, some 255, 5, by decide +kernel⟩,
    ⟨cmis, 0x50, 125, 125, by decide +kernel⟩,
    ⟨{ cmis with mgmt := { cmis.mgmt with cmisWritable := [5] } }, 0x50, 5, 9, by decide +kernel⟩,
    ⟨{ cmis with mgmt := { cmis.mgmt with cmisLog := [⟨5, 9⟩] } }, ⟨5, 9⟩, [], by decide +kernel⟩,
    ⟨cmis, 5, 9, [5, 6], by decide +kernel⟩,
    ⟨{ wr up F.RING_STATUS_READY 0 with mgmt := { up.mgmt with engineHeld := true, afterRestart := true, inProgress := [⟨5, 0x0706, false, 1, 0⟩] } }, ⟨1, [], true⟩, by decide +kernel⟩⟩

/-- LC_ADVANCE to RETURN with any word for the device identity has no reserved bit set. -/
theorem target_words_defined (v : Nat) : reservedWord (cmd [3, v]) [(2, 7), (3, 2 ^ 32 - 1)] = none := by
  simp [reservedWord, cmd, Cmd.w, aGet, List.range, List.range.loop, List.find?]

/-- LC_ADVANCE to RETURN is consumed at once, whatever that word is. -/
theorem target_consumed (v : Nat) : consumes (offer owned 0x0C10 (cmd [3, v])) 0x0C10 (cmd [3, v]) = true := by
  rw [consumes, frontIs_offer (by decide +kernel) (by decide), Bool.and_true, canConsume_offer]
  decide +kernel

theorem meets_SecurityCommandsComplete :
    (∃ (s : State) (c : Cmd), Taken 0x0704 ([(2, 3), (3, 0xFF)] ++ (List.range 8).map fun k => (4 + k, 2 ^ 32 - 1)) c s ∧ s.sec.session = true ∧ keySlotUsed s (c.w 2) = false) ∧
    (∃ (s : State) (c : Cmd), Taken 0x0705 [(2, 3)] c s ∧ s.sec.session = true ∧ keySlotUsed s (c.w 2) = false) ∧
    (∃ (s : State) (c : Cmd), Taken 0x0C01 [(2, 2 ^ 32 - 1)] c s ∧ c.w 2 + 32 ≤ bulkEnd s ∧ s.sec.otp.owner.isSome = true) ∧
    (∃ (s : State), challengeOpen s = false) ∧
    (∃ (s : State), challengeOpen s = true) ∧
    (∃ (s : State) (c : Cmd), Taken 0x0C02 [(2, 2 ^ 32 - 1)] c s ∧ c.w 2 + 196 ≤ bulkEnd s ∧ challengeOpen s = true ∧ 
      let v := takenState 0x0C02 c s
      (eccReadAll v 8 (windowWords (windowBase + c.w 2) 196)).2 = false) ∧
    (∃ (s : State) (c : Cmd), Taken 0x0C02 [(2, 2 ^ 32 - 1)] c s ∧ c.w 2 + 196 ≤ bulkEnd s ∧ challengeOpen s = true ∧ (eccReadAll (takenState 0x0C02 c s) 8 (windowWords (windowBase + c.w 2) 196)).2 = true) ∧
    (∃ (s : State) (c : Cmd), Taken 0x0C03 [] c s ∧ s.sec.session = true) ∧
    (∃ (s : State) (c : Cmd), Taken 0x0C10 [(2, 7), (3, 2 ^ 32 - 1)] c s ∧ s.sec.session = true ∧ c.w 3 = Config.deviceId.toNat % 2 ^ 32 ∧ lifeAllowed s.sec.otp (c.w 2) = true) ∧
    (∃ (s : State) (c : Cmd), Taken 0x0C11 [] c s ∧ s.sec.otp.life = 2 ∧ s.sec.session = true ∧ s.sec.fieldDiag = false) ∧
    (∃ (s : State) (c : Cmd), Taken 0x0C12 [(2, 3), (3, 2 ^ 32 - 1)] c s ∧ s.sec.otp.life = 1 ∧ (c.w 2 = 1 ∨ c.w 2 = 2) ∧ c.w 3 + otpFieldBytes (c.w 2) ≤ bulkEnd s ∧ otpProgrammed s.sec.otp (c.w 2) = false) ∧
    (∃ (s : State) (c : Cmd), Taken 0x0C13 [(2, 1)] c s ∧ s.sec.session = true ∧ s.sec.otp.slotRevoked.testBit 0 = false ∧ s.sec.otp.slotRevoked.testBit 1 = false ∧ keySigns s (c.w 2) = false) :=
  ⟨⟨owned, cmd [3, 255, 1, 2, 3, 4, 5, 6, 7, 8], by decide +kernel⟩,
    ⟨owned, cmd [3], by decide +kernel⟩,
    ⟨owned, cmd [0], by decide +kernel⟩,
    ⟨late { owned with sec := { owned.sec with challenge := some (5, 0) } }, by decide +kernel⟩,
    ⟨{ owned with sec := { owned.sec with challenge := some (5, 0) } }, by decide +kernel⟩,
    ⟨{ owned with sec := { owned.sec with challenge := some (5, 0) } }, cmd [0], by decide +kernel⟩,
    ⟨{ wr { owned with sec := { owned.sec with challenge := some (5, 0) } } F.SEC_ALARM_STATUS_AUTH_FAILS 7 with mem := (setBank owned 8 { MemBank.reset with valid := [24], errs := [(24, 7)] }).mem }, cmd [0], by decide +kernel⟩,
    ⟨owned, cmd [], by decide +kernel⟩,
    ⟨owned, cmd [3, Config.deviceId.toNat % 2 ^ 32],
      ⟨target_consumed _, by decide +kernel, by decide +kernel, target_words_defined _⟩, by decide +kernel,
      by simp [cmd, Cmd.w], by decide +kernel⟩,
    ⟨owned, cmd [], by decide +kernel⟩,
    ⟨making, cmd [2, 0], by decide +kernel⟩,
    ⟨owned, cmd [1], by decide +kernel⟩⟩

theorem meets_FirmwareCommandsComplete :
    (∃ (s : State) (c : Cmd), Taken 0x0C20 [(2, 2 ^ 32 - 1)] c s ∧ fwGate s = none ∧ s.sec.lockClosed = false ∧ s.sec.update = none ∧ trialRuns s = false ∧ s.sec.locked = false ∧ c.w 2 + 256 ≤ bulkEnd s ∧ 
      let h := (fetchWords (takenState 0x0C20 c s) (windowBase + c.w 2) 64).2
      headerFail (takenState 0x0C20 c s) h = 0) ∧
    (∃ (s : State) (c : Cmd) (x : Update), Taken 0x0C21 [(2, 2 ^ 32 - 1), (3, 2 ^ 32 - 1), (4, 2 ^ 32 - 1)] c s ∧ fwGate s = none ∧ s.sec.lockClosed = false ∧ updateOpen s = some x ∧ c.w 3 % 16 = 0 ∧ 16 ≤ c.w 3 ∧ c.w 3 ≤ 65536 ∧ c.w 4 + c.w 3 ≤ bulkEnd s ∧ chunkBad c x = false) ∧
    (∃ (s : State) (c : Cmd) (misread : Bool) (x : Update), Taken 0x0C22 [] c s ∧ fwGate s = none ∧ s.sec.lockClosed = false ∧ updateWhole s = true ∧ s.sec.update = some x) ∧
    (∃ (s : State) (c : Cmd) (x : Update), Taken 0x0C22 [] c s ∧ fwGate s = none ∧ s.sec.lockClosed = false ∧ updateWhole s = true ∧ s.sec.update = some x) ∧
    (∃ (s : State) (c : Cmd) (k : Fin 2), Taken 0x0C23 [] c s ∧ fwGate s = none ∧ s.sec.lockClosed = false ∧ pendingSlot s = some k ∧ s.cal.run = none ∧ s.book.copying = none) ∧
    (∃ (s : State) (c : Cmd), Taken 0x0C24 [] c s ∧ fwGate s = none ∧ s.sec.lockClosed = false ∧ s.sec.update.isSome = true) ∧
    (∃ (s : State) (x : BitVec 64) (k : Fin 2), s.sec.trialAt = some x ∧ s.sec.running = some k ∧ ready s = true ∧ trialRuns s = true ∧ (bootRecord s).pending = some k ∧ trialLate s x = false) ∧
    (∃ (s : State) (x : BitVec 64), s.sec.trialAt = some x ∧ trialRuns s = true ∧ trialLate s x = true) ∧
    (∃ (s : State) (c : Cmd) (verified : Bool), Taken 0x0C30 [] c s ∧ trialRuns s = false ∧ newerInForce s = false) ∧
    (∃ (s : State) (o : FlashOp) (rest : List FlashOp), s.sec.ops = o :: rest ∧ s.book.copying = none) ∧
    (∃ (s : State) (o : FlashOp) (rest : List FlashOp), s.sec.ops = o :: rest ∧ s.book.copying.isSome = true) :=
  ⟨⟨putWords owned windowBase shippedHeader, cmd [0], by decide +kernel⟩,
    ⟨updating [], cmd [0, 16, 4], ⟨1, shippedHeader, []⟩, by decide +kernel⟩,
    ⟨updating (List.replicate (updateLength shippedHeader) 0), cmd [], false, ⟨1, shippedHeader, List.replicate (updateLength shippedHeader) 0⟩, by decide +kernel⟩,
    ⟨updating (List.replicate (updateLength shippedHeader) 0), cmd [], ⟨1, shippedHeader, List.replicate (updateLength shippedHeader) 0⟩, by decide +kernel⟩,
    ⟨{ trying with sec := { trying.sec with boot := #v[recordOf 1 0 (some 1) false, recordOf 0 0 none false] } }, cmd [], 1, by decide +kernel⟩,
    ⟨updating [5], cmd [], by decide +kernel⟩,
    ⟨trying, 0, 1, by decide +kernel⟩,
    ⟨{ trying with time := { trying.time with hc := 5000000000 } }, 0, by decide +kernel⟩,
    ⟨owned, cmd [], true, by decide +kernel⟩,
    ⟨{ trying with sec := { trying.sec with ops := [.commit 1] } }, .commit 1, [], by decide +kernel⟩,
    ⟨{ trying with sec := { trying.sec with ops := [.commit 1] }, book := { trying.book with copying := some (1, 5) } }, .commit 1, [], by decide +kernel⟩⟩

theorem meets_PowerStatesComplete :
    (∃ (s : State) (c : Cmd) (rc : BitVec 32), Taken 0x0901 [(2, 3)] c s ∧ c.w 2 = 1 ∧ entryReady s false = true ∧ entryBusy s = false) ∧
    (∃ (s : State) (c : Cmd) (rc : BitVec 32), Taken 0x0901 [(2, 3)] c s ∧ c.w 2 = 2 ∧ entryReady s true = true ∧ entryBusy s = false) ∧
    (∃ (s : State) (c : Cmd), Taken 0x0902 [] c s ∧ s.power.mode = .intermission) ∧
    (∃ (s : State), s.power.mode = .enteringIntermission) ∧
    (∃ (s : State), s.power.mode = .leavingIntermission ∧ railsSettled s = true) ∧
    (∃ (s : State) (rc : BitVec 32) (k : Nat) (back : Nat) (forced : Bool), s.power.mode = .enteringDark k back forced) ∧
    (∃ (s : State), s.power.mode = .dark ∧ s.power.latchedCfg.testBit 2 = true ∧ s.power.tripWait = false ∧ (s.power.wakePin && s.power.latchedCfg.testBit 1) = false ∧ s.power.dueReset = none) ∧
    (∃ (s : State), s.power.mode = .dark ∧ s.power.latchedCfg.testBit 2 = true ∧ s.power.tripWait = true) ∧
    (∃ (s : State) (addr : BitVec 7) (data : List Byte), addr.toNat = portAddress s ∧ s.power.mode = .dark ∧ s.power.latchedCfg.testBit 0 = true ∧ s.power.tripWait = false ∧ s.power.dueReset = none) ∧
    (∃ (s : State) (addr : BitVec 7) (count : Nat), deviceUp s = false ∧ addr.toNat = portAddress s ∧ stageDoorOpen s = true) ∧
    (∃ (s : State) (count : BitVec 40) (rc : BitVec 32) (f : CheckerFail) (boot : BootReads), s.power.mode = .wakingDark ∧ railsSettled s = true) ∧
    (∃ (s : State) (count : BitVec 40) (rc : BitVec 32) (boot : BootReads), s.power.mode = .wakingDark ∧ railsSettled s = true) :=
  ⟨⟨up, cmd [1], 32768, by decide +kernel⟩,
    ⟨wr up F.PWR_WAKE_CFG_TIMER_EN 1, cmd [2], 32768, by decide +kernel⟩,
    ⟨inMode .intermission, cmd [], by decide +kernel⟩,
    ⟨inMode .enteringIntermission, by decide +kernel⟩,
    ⟨late (inMode .leavingIntermission), by decide +kernel⟩,
    ⟨inMode (.enteringDark 5 0 false), 32768, 5, 0, false, by decide +kernel⟩,
    ⟨dark 4, by decide +kernel⟩,
    ⟨{ dark 4 with power := { (dark 4).power with tripWait := true } }, by decide +kernel⟩,
    ⟨dark 1, BitVec.ofNat 7 (portAddress up), [1, 2], by decide +kernel⟩,
    ⟨dark 1, BitVec.ofNat 7 (portAddress up), 20, by decide +kernel⟩,
    ⟨late (inMode .wakingDark), 5, 32768, .triplet 8, ⟨false, false⟩, by decide +kernel⟩,
    ⟨late (inMode .wakingDark), 5, 32768, ⟨false, true⟩, by decide +kernel⟩⟩

theorem meets_SupplyAndThermalCommandsComplete :
    (∃ (s : State) (readings : Vector (BitVec 16) 12), sensorsRun s = true) ∧
    (∃ (s : State) (readings : Vector (BitVec 16) 12), s.power.mode = .dark ∧ (readings[(0 : Fin 12)]).toInt < ((rd s F.THERM_CTRL_WARN : Nat) : Int) * 16 - 80) ∧
    (∃ (s : State), avsSlewing s = true ∧ sinceNs s s.power.avsLastStep 50000 = true) ∧
    (∃ (s : State), deviceUp s = true ∧ s.power.pwrEn = true) ∧
    (∃ (s : State) (mv : BitVec 10) (ma : BitVec 16), deviceUp s = true ∧ s.power.pwrEn = true) :=
  ⟨⟨{ up with power := { up.power with tripRun := Vector.replicate 12 2 } }, Vector.replicate 12 1920, by decide +kernel⟩,
    ⟨{ dark 4 with power := { (dark 4).power with tripWait := true } }, Vector.replicate 12 0, by decide +kernel⟩,
    ⟨wr (inMode .intermission) F.AVS_STATUS_TARGET 900, by decide +kernel⟩,
    ⟨up, by decide +kernel⟩,
    ⟨{ up with power := { up.power with avsMisses := 2 } }, 1000, 5, by decide +kernel⟩⟩

theorem meets_ResetCommandsComplete :
    (∃ (s : State) (rail : Option (Fin 2)), (s.power.mode = .dark → rail = none)) ∧
    (∃ (s : State) (i : Instr) (kind : Nat) (rail : Nat), (i = .pinReset ∧ kind = 1 ∧ rail = 0 ∨ ∃ r : Fin 5, i = .supplyReset r ∧ (railMonitored s (supplyRail r) = true ∨ s.power.mode = .wakingDark) ∧ kind = 2 ∧ rail = supplyRail r) ∧ s.power.mode ≠ .dark ∧ s.power.mode ≠ .resetHold) ∧
    (∃ (s : State) (i : Instr) (kind : Nat) (rail : Nat), (i = .pinReset ∧ kind = 1 ∧ rail = 0 ∨ (∃ r : Fin 2, i = .powerOnReset (some r) ∧ kind = 0 ∧ rail = 4 + r) ∨ i = .supplyReset 4 ∧ kind = 2 ∧ rail = 6) ∧ s.power.mode = .dark ∧ (∀ d, s.power.dueReset = some d → kind < d.kind)) ∧
    (∃ (s : State) (straps : BitVec 3) (f : CheckerFail) (boot : BootReads), s.power.mode = .resetHold) ∧
    (∃ (s : State) (straps : BitVec 3) (boot : BootReads), s.power.mode = .resetHold) ∧
    (∃ (s : State) (c : Cmd), Taken 0x0910 [] c s ∧ s.sec.update = none ∧ (bootRecord s).trial = false ∧ s.book.copying = none) ∧
    (∃ (s : State) (boot : BootReads), s.power.warmPending = true ∧ deviceUp s = true) ∧
    (∃ (s : State) (c : Cmd), Taken 0x0911 [] c s) ∧
    (∃ (s : State) (boot : BootReads) (cause : Nat), s.mgmt.restartCause = some cause ∧ deviceUp s = true) ∧
    (∃ (s : State) (c : Cmd), Taken 0x0912 [(2, 7)] c s ∧ portEnabled s (c.w 2) = true ∧ portRehearsing s (c.w 2) = false ∧ s.power.warmPending = false ∧ s.mgmt.restartCause = none) ∧
    (∃ (s : State) (c : Cmd), Taken 0x0912 [(2, 7)] c s ∧ portEnabled s (c.w 2) = true ∧ portRehearsing s (c.w 2) = false ∧ (s.power.warmPending = true ∨ s.mgmt.restartCause.isSome = true)) :=
  ⟨⟨up, some 1, by decide +kernel⟩,
    ⟨up, .supplyReset 4, 2, 6, by decide +kernel⟩,
    ⟨dark 1, .powerOnReset (some 1), 0, 5, by decide +kernel⟩,
    ⟨inMode .resetHold, 4, .otp, ⟨false, false⟩, by decide +kernel⟩,
    ⟨inMode .resetHold, 7, ⟨false, true⟩, by decide +kernel⟩,
    ⟨up, cmd [], by decide +kernel⟩,
    ⟨{ up with power := { up.power with warmPending := true } }, ⟨false, false⟩, by decide +kernel⟩,
    ⟨up, cmd [], by decide +kernel⟩,
    ⟨{ up with mgmt := { up.mgmt with restartCause := some 2 } }, ⟨true, false⟩, 2, by decide +kernel⟩,
    ⟨linked 4, cmd [0], by decide +kernel⟩,
    ⟨{ linked 4 with mgmt := { up.mgmt with restartCause := some 2 } }, cmd [0], by decide +kernel⟩⟩

theorem meets_SymbolsReadBack :
    (∃ (g : Nat), g < 4) ∧
    (∃ (bs : List Bool), bs.length % 2 = 0) ∧
    (∃ (on : Bool) (prev : Nat) (rel : Nat) (vs : List Nat), (∀ v ∈ vs, v < 4)) ∧
    (∃ (w : Nat) (i : Nat) (k : Nat) (word : List Nat), i < w) ∧
    (∃ (b : Nat) (bits : List Bool), b % 8 = 0 ∧ bits.length = b) ∧
    (∃ (code : Nat) (bits : List Bool) (m : Int) (p : Int), code < 4 ∧ bits.length = codeBits code ∧ 0 < m ∧ 10 * m ^ 2 ≤ 4 * p ^ 2 ∧ 4 * p ^ 2 < 90 * m ^ 2) :=
  ⟨⟨3, by decide +kernel⟩,
    ⟨[true, false, false, true], by decide +kernel⟩,
    ⟨true, 3, 0, [0, 1, 2, 3], by decide +kernel⟩,
    ⟨4, 3, 1, [0, 1, 2, 3, 4, 5, 6, 7], by decide +kernel⟩,
    ⟨8, [true, false, true, true, false, false, true, false], by decide +kernel⟩,
    ⟨3, [true, false, true, true], 2, 4, by decide +kernel⟩⟩

theorem meets_SamplesAndTimingFollow :
    (∃ (s : State) (l : LaneId) (v : Int), (rxRec s l).x.length + 1 < (rxRec s l).len) ∧
    (∃ (s : State) (l : LaneId) (v : Int), (rxRec s l).len ≤ (rxRec s l).x.length + 1) ∧
    (∃ (s : State) (l : LaneId) (g : Int), timingHeld s l = false ∧ laneForwarded s l = false) ∧
    (∃ (s : State) (l : LaneId) (g : Int), timingHeld s l = true) :=
  ⟨⟨up, .line 7, 100, by decide +kernel⟩,
    ⟨setRxRec up (.host 15) { rxRec up (.host 15) with x := List.replicate 127 0 }, .host 15, -64, by decide +kernel⟩,
    ⟨linked 4, .line 0, -1, by decide +kernel⟩,
    ⟨up, .line 7, 1, by decide +kernel⟩⟩

theorem meets_TransmitChainConverts :
    (∃ (s : State) (n : Fin 8) (v : Nat → Nat) (b : Nat) (a : Nat → Int), (∀ k, v k < 4) ∧ rdE s F.LTX_CTRL_MAIN n ≤ 8 ∧ (txRec s (.line n)).window = (List.range 17).map (fun k => ⟨some (v k), b, a k⟩)) ∧
    (∃ (s : State) (n : Fin 8) (b : Nat) (a : Int), (txRec s (.line n)).window[8]? = some ⟨none, b, a⟩) ∧
    (∃ (s : State) (n : Fin 8) (b : Nat) (k : Nat) (d : Option (List Nat)), laneRuns s (.line n) = true) ∧
    (∃ (s : State) (l : LaneId) (b : Nat) (k : Nat) (d : Option (List Nat)), laneRuns s l = true ∧ txIdle s l = true) ∧
    (∃ (s : State) (l : LaneId) (b : Nat) (k : Nat) (v : Nat) (vs : List Nat), laneRuns s l = true ∧ txIdle s l = false ∧ txBurst s l = false ∧ tpgEn s l = false ∧ (precodeRun (txPrecode s l) (txRec s l).pre (slipData (txRec s l).slip vs).1).getLast? = some v) ∧
    (∃ (s : State) (l : LaneId) (v : Nat), txBurst s l = true ∧ (burstRun l (txRec s l) (burstSymbols s l - (txRec s l).burst)).1.getLast? = some v) :=
  ⟨⟨setTxRec ported (.line 7) { txRec ported (.line 7) with window := (List.range 17).map fun k => ⟨some (k % 4), 1, 500⟩ }, 7, fun k => k % 4, 1, fun _ => 500, fun k => Nat.mod_lt k (by decide), by decide +kernel, by decide +kernel⟩,
    ⟨setTxRec ported (.line 7) { txRec ported (.line 7) with window := List.replicate 17 ⟨none, 1, 40⟩ }, 7, 1, 40, by decide +kernel⟩,
    ⟨linked 4, 0, 1, 3, some [3, 0, 3], by decide +kernel⟩,
    ⟨wr (linked 4) F.LTX_STATUS_IDLE 1 0, .line 0, 1, 3, none, by decide +kernel⟩,
    ⟨wr (wr (linked 4) F.LTX_STATUS_IDLE 0 0) F.LTX_STATUS_BURST 0 0, .line 0, 0, 3, 2, [3, 0, 2], by decide +kernel⟩,
    ⟨setTxRec (wr (linked 4) F.LTX_STATUS_BURST 1 0) (.line 0) { txRec up (.line 0) with burst := 425215, prbs13 := 1 }, .line 0, 3, by decide +kernel⟩⟩

end Sys2Proof.Tests
end

section
/-! PROOFS. HC_ADJUST's own part, where it refuses its offset (R41), and what the command then comes to. -/

namespace Sys2Proof.Machine

open Sys2Proof

/-- A word of a descriptor has 32 bits (R325). -/
theorem cmd_w_lt (c : Cmd) (k : Nat) : c.w k < 2 ^ 32 := BitVec.isLt _

/-- The offset in words 2 and 3 is negative, as a signed number of 64 bits, exactly where its bit 63 is set. -/
theorem offset_testBit_63 (c : Cmd) :
    (c.w 2 + c.w 3 * 2 ^ 32).testBit 63 = decide (2 ^ 63 ≤ c.w 2 + c.w 3 * 2 ^ 32) := by
  have h2 := cmd_w_lt c 2
  have h3 := cmd_w_lt c 3
  rw [Nat.testBit_eq_decide_div_mod_eq, decide_eq_decide]
  omega

/-- HC_ADJUST's own part leaves the state and answers E_RANGE where the offset is negative or carries the clock past its end. -/
theorem hcAdjust_refused {c : Cmd} {s : State}
    (h : 2 ^ 63 ≤ c.w 2 + c.w 3 * 2 ^ 32 ∨ 2 ^ 64 ≤ s.time.hc.toNat + (c.w 2 + c.w 3 * 2 ^ 32)) :
    hcAdjust c s = (s, .done stRange 0 0 0) := by
  have hfail : ((c.w 2 + c.w 3 * 2 ^ 32).testBit 63 ||
      decide (2 ^ 64 ≤ s.time.hc.toNat + (c.w 2 + c.w 3 * 2 ^ 32))) = true := by
    rw [offset_testBit_63, Bool.or_eq_true, decide_eq_true_iff, decide_eq_true_iff]
    exact h
  unfold hcAdjust
  exact withChecks_fail (by rw [hfail]; rfl)

/-- Settles O33: Mexis takes the command, and its own part refuses the offset in the state it was taken in. -/
theorem houseClockOffsetRefused : Obligations.HouseClockOffsetRefused := by
  unfold Obligations.HouseClockOffsetRefused
  intro s c htaken hoffset
  have hbody : hcAdjust c (takenState 0x0805 c s) = (takenState 0x0805 c s, .done stRange 0 0 0) :=
    hcAdjust_refused (by rwa [takenState_time])
  have hrun : exec (.hcAdjust c) s =
      .next (hostCmd 0x0805 [(2, 0xFFFFFFFF), (3, 0xFFFFFFFF)] noGate c (hcAdjust c) s) := rfl
  rw [hrun, hostCmd_taken noGate (hcAdjust c) htaken rfl, hbody, finish_done]

/-- The device serves its rings, and its house clock stands at its last value. -/
def houseClockAtEnd : State :=
  wr { State.reset with
    time := { State.reset.time with hc := BitVec.allOnes 64 }
    mgmt := { State.reset.mgmt with engineHeld := false }
    power := { State.reset.power with mode := .show }
    sec := { State.reset.sec with running := some 0 } } F.RING_STATUS_READY 1

/-- HC_ADJUST's descriptor with the offset 1. -/
def offsetOne : Cmd := ⟨7, false, 0, (Vector.replicate 14 0).set 0 1⟩

theorem offsetOne_taken : Taken 0x0805 [(2, 0xFFFFFFFF), (3, 0xFFFFFFFF)] offsetOne houseClockAtEnd := by decide +kernel

/-- R41's second case has a concrete run: an offset of 1 is not negative, and the clock at its last value cannot take it. -/
theorem offsetOne_refused_at_end :
    exec (.hcAdjust offsetOne) houseClockAtEnd =
      .next (complete (takenState 0x0805 offsetOne houseClockAtEnd) 7 0x0805 false stRange 0 0 0) :=
  houseClockOffsetRefused houseClockAtEnd offsetOne offsetOne_taken (.inr (by decide +kernel))

end Sys2Proof.Machine
end

section
/-! PROOFS. A loop's STALE level and its count of periods without a fresh sample (R256): the loop engine's operations leave
both alone, apart from the period's own entries about its sample. -/

namespace Sys2Proof.Machine

open Sys2Proof

/-- From s to t the loop's STALE level and its count of periods without a fresh sample stay as they were. -/
structure StalenessKept (l : Fin 32) (s t : State) : Prop where
  misses : (loopRec t l).misses = (loopRec s l).misses
  stale : rd t F.LOOP_STATUS_STALE l = rd s F.LOOP_STATUS_STALE l

/-- A loop's record reads as it was last set. -/
theorem loopRec_setLoop_same (s : State) (l : Fin 32) (x : LoopRec) : loopRec (setLoop s l x) l = x :=
  vGet_vSet_same _ _ _ _ l.isLt

/-- Keys of fields at different bit positions differ. -/
theorem key_ne_of_lo_ne {f g : Field} (i j i' j' : Nat) (h : f.lo % 32 ≠ g.lo % 32) : f.key i j ≠ g.key i' j' := by
  intro hk
  have hmod := congrArg (· % 32) hk
  simp only [Field.key, Nat.mul_add_mod_self_right] at hmod
  exact h hmod

/-- Reporting does not write a loop's STALE level. -/
theorem stale_notReported : ∀ l : Fin 32, F.LOOP_STATUS_STALE.key l 0 ∉ reportKeys := by decide

section Period

variable {l : Fin 32} {s t u : State}

namespace StalenessKept

theorem refl (l : Fin 32) (s : State) : StalenessKept l s s := ⟨rfl, rfl⟩

theorem trans (h : StalenessKept l s t) (g : StalenessKept l t u) : StalenessKept l s u :=
  ⟨g.misses.trans h.misses, g.stale.trans h.stale⟩

theorem ite {c : Prop} [Decidable c] (ht : StalenessKept l s t) (hu : StalenessKept l s u) :
    StalenessKept l s (if c then t else u) := by
  split
  · exact ht
  · exact hu

/-- Steps over a list that each keep them do so together. -/
theorem foldl {α : Type} (f : State → α → State) (h : ∀ s a, StalenessKept l s (f s a)) (as : List α) (s : State) :
    StalenessKept l s (as.foldl f s) := by
  induction as generalizing s with
  | nil => exact refl l s
  | cons a as ih => exact (h s a).trans (ih _)

/-- So does a write of a field at another bit position than STALE's. -/
theorem wr (s : State) (f : Field) (v i j : Nat) (h : f.lo % 32 ≠ 5) : StalenessKept l s (Machine.wr s f v i j) :=
  ⟨rfl, rd_wr_other _ _ _ _ _ _ _ _ (key_ne_of_lo_ne _ _ _ _ h.symm)⟩

theorem wrB (s : State) (f : Field) (b : Bool) (i j : Nat) (h : f.lo % 32 ≠ 5) :
    StalenessKept l s (Machine.wrB s f b i j) := wr _ _ _ _ _ h

/-- So does a new record of the loop with its count as before. -/
theorem setLoop {x : LoopRec} (h : x.misses = (loopRec s l).misses) : StalenessKept l s (Machine.setLoop s l x) :=
  ⟨by rw [loopRec_setLoop_same, h], rfl⟩

theorem raiseEvent (s : State) (e : Ev) : StalenessKept l s (Machine.raiseEvent s e) :=
  ⟨by rw [loopRec, raiseEvent_ctl, loopRec], raiseEvent_rd _ _ _ _ _ (stale_notReported l)⟩

theorem setHistory (s : State) (m flags : Nat) : StalenessKept l s (Machine.setHistory s m flags) := by
  have hwrite := fun v => wr (l := l) s F.LOOP_HIST_FLAGS v m 0 (by decide)
  unfold Machine.setHistory
  exact ite (refl l s) (ite ((hwrite _).trans (raiseEvent ..)) (hwrite _))

theorem setLoopState (s : State) (m st : Nat) : StalenessKept l s (Machine.setLoopState s m st) :=
  wr _ _ _ _ _ (by decide)

theorem enterSafe (s : State) : StalenessKept l s (Machine.enterSafe s l) :=
  trans (setLoop (by rfl)) (setLoopState ..)

theorem escalate (s : State) (g m : Nat) : StalenessKept l s (Machine.escalate s g m) := by
  unfold Machine.escalate
  refine trans (ite (refl l s) (trans (wr _ _ _ _ _ (by decide)) (foldl _ (fun t n => ?_) _ _))) (raiseEvent ..)
  exact ite (setLoopState ..) (refl l t)

theorem loseFeedback (s : State) : StalenessKept l s (Machine.loseFeedback s l) := by
  unfold Machine.loseFeedback
  exact (raiseEvent ..).trans (ite (escalate ..) (ite (ite (enterSafe _) (setLoopState ..)) (refl l _)))

theorem frozenSets (s : State) : StalenessKept l s (Machine.frozenSets s l) := by
  unfold Machine.frozenSets
  exact ite (refl l s) (trans (trans (wr _ _ _ _ _ (by decide)) (setHistory ..)) (loseFeedback _))

theorem freezeTest (s : State) (x : Int) : StalenessKept l s (Machine.freezeTest s l x) := by
  unfold Machine.freezeTest
  exact ite (trans (setLoop (by rfl)) (ite (frozenSets _) (ite (wr _ _ _ _ _ (by decide)) (refl l _)))) (refl l s)

theorem movingShow (s : State) : StalenessKept l s (Machine.movingShow s l) :=
  wrB s F.LOOP_STATUS_MOVING _ l 0 (by decide)

theorem setOutput {r : LoopRec} (u0 : Int) (h : r.misses = (loopRec s l).misses) :
    StalenessKept l s (Machine.setOutput s l r u0) := by
  unfold Machine.setOutput
  have hcode := fun t v => wr (l := l) t F.LOOP_STATUS_CODE v l 0 (by decide)
  have hclamp := fun t b => wrB (l := l) t F.LOOP_STATUS_CLAMP b l 0 (by decide)
  refine trans (trans ?_ (ite (setHistory ..) (refl l _))) (movingShow _)
  exact trans (trans (setLoop (by exact h)) (hcode _ _)) (hclamp _ _)

/-- A computed period takes the count to 0, where its fresh sample has it already. -/
theorem computePeriod (pv : Int) (h : (loopRec s l).misses = 0) : StalenessKept l s (Machine.computePeriod s l pv) := by
  have hist := fun flags => setHistory (l := l) s l flags
  simp only [Machine.computePeriod]
  split
  · exact (hist _).trans (setOutput _ ((hist _).misses.trans h).symm)
  · exact (hist _).trans (setOutput _ ((hist _).misses.trans h).symm)

theorem safePeriod (s : State) : StalenessKept l s (Machine.safePeriod s l) := setOutput _ rfl

end StalenessKept

/-- A loop's period takes its fresh sample (R255-R257): STALE clears, the freeze tests run, and the count begins anew. -/
def freshTaken (s : State) (l : Nat) : State :=
  let s1 := freezeTest (wr s F.LOOP_STATUS_STALE 0 l) l (loopInput s l).value
  setLoop s1 l { loopRec s1 l with lastSeq := (loopInput s l).seq, misses := 0 }

/-- A loop's period counts that it found no fresh sample (R256). -/
def missCounted (s : State) (l : Nat) : State := setLoop s l { loopRec s l with misses := (loopRec s l).misses + 1 }

theorem freshTaken_misses (s : State) (l : Fin 32) : (loopRec (freshTaken s l) l).misses = 0 := by
  rw [freshTaken, loopRec_setLoop_same]

theorem freshTaken_stale (s : State) (l : Fin 32) : rd (freshTaken s l) F.LOOP_STATUS_STALE l = 0 := by
  rw [freshTaken, setLoop_rd, (StalenessKept.freezeTest ..).stale, rd_wr_same, Nat.zero_mod]

/-- What a period does after its fresh sample leaves the staleness as the sample made it. -/
theorem loopPeriod_of_fresh (hfresh : inputFresh (loopRec s l) (loopInput s l) = true)
    (hpll : rd s F.LOOP_ENGINE_STATUS_FALLBACK = 0) : StalenessKept l (freshTaken s l) (loopPeriod s l) := by
  have hpath : (inputFresh (loopRec s l) (loopInput s l) && rd s F.LOOP_ENGINE_STATUS_FALLBACK == 0) = true := by
    rw [hfresh, hpll]
    rfl
  have hzero := freshTaken_misses s l
  unfold loopPeriod
  simp only [if_pos hpath]
  refine .ite ?returns (.ite ?safe (.ite ?computes ?waits))
  case returns =>
    have hback := ((StalenessKept.setLoop (s := freshTaken s l) (l := l) (x := comesBack (loopRec (freshTaken s l) l)) rfl).trans
      (.setLoopState _ l (runState (freshTaken s l) l))).trans (.raiseEvent _ (ev 0x8502 (locLoop s l) l))
    exact hback.trans (.computePeriod _ (hback.misses.trans hzero))
  case safe => exact .trans (.setLoop (by rfl)) (.safePeriod _)
  case computes => exact .computePeriod _ hzero
  case waits => exact .setLoop (by rfl)

/-- A period without a fresh sample comes to its count, and STALE from the third on. -/
theorem loopPeriod_of_not_fresh (hfresh : inputFresh (loopRec s l) (loopInput s l) = false) :
    StalenessKept l (if 3 ≤ (loopRec s l).misses + 1 then staleSets (missCounted s l) l else missCounted s l)
      (loopPeriod s l) := by
  have hpath : ¬ (inputFresh (loopRec s l) (loopInput s l) && rd s F.LOOP_ENGINE_STATUS_FALLBACK == 0) = true := by
    rw [hfresh]
    exact Bool.false_ne_true
  unfold loopPeriod
  simp only [if_neg hpath]
  exact .ite (.safePeriod _) (.refl l _)

theorem missCounted_misses (s : State) (l : Fin 32) : (loopRec (missCounted s l) l).misses = (loopRec s l).misses + 1 := by
  rw [missCounted, loopRec_setLoop_same]

/-- What follows the rise of STALE leaves the count and the level alone. -/
theorem staleSets_of_clear (h : rd s F.LOOP_STATUS_STALE l ≠ 1) :
    StalenessKept l (wr s F.LOOP_STATUS_STALE 1 l) (staleSets s l) := by
  rw [staleSets, if_neg h]
  exact (StalenessKept.setHistory ..).trans (.loseFeedback _)

theorem staleSets_misses (s : State) (l : Fin 32) : (loopRec (staleSets s l) l).misses = (loopRec s l).misses := by
  by_cases h : rd s F.LOOP_STATUS_STALE l = 1
  · rw [staleSets, if_pos h]
  · exact (staleSets_of_clear h).misses

theorem staleSets_stale (s : State) (l : Fin 32) : rd (staleSets s l) F.LOOP_STATUS_STALE l = 1 := by
  by_cases h : rd s F.LOOP_STATUS_STALE l = 1
  · rw [staleSets, if_pos h, h]
  · rw [(staleSets_of_clear h).stale, rd_wr_same]
    rfl

end Period

/-- Settles O24: a period without a fresh sample counts itself and sets STALE from the third on, a period with one clears
both, and the rest of the period touches neither. -/
theorem staleFollowsFreshSamples : Obligations.StaleFollowsFreshSamples := by
  unfold Obligations.StaleFollowsFreshSamples
  refine fun s l => ⟨fun hfresh => ?missed, fun hfresh hpll => ?fresh⟩
  case fresh =>
    have hkept := loopPeriod_of_fresh hfresh hpll
    exact ⟨hkept.misses.trans (freshTaken_misses s l), hkept.stale.trans (freshTaken_stale s l)⟩
  case missed =>
    have hkept := loopPeriod_of_not_fresh hfresh
    rw [hkept.misses, hkept.stale]
    split
    · exact ⟨(staleSets_misses ..).trans (missCounted_misses s l), staleSets_stale ..⟩
    · exact ⟨missCounted_misses s l, rfl⟩

/-- Loop 0 is in RUN on the SNR of line lane 0, has used its latest sample, and has missed two periods since. -/
def loopMissedTwo : State :=
  setLoop (setLoopState (wrE State.reset F.LOOP_INPUT_KIND 2 0) 0 1) 0 { LoopRec.reset with lastSeq := some 0, misses := 2 }

/-- R256's first sentence has a concrete run: STALE is clear before the third period without a fresh sample and set after it. -/
theorem loopMissedTwo_turns_stale :
    rd loopMissedTwo F.LOOP_STATUS_STALE 0 = 0 ∧ rd (loopPeriod loopMissedTwo 0) F.LOOP_STATUS_STALE 0 = 1 :=
  ⟨by decide +kernel, ((staleFollowsFreshSamples loopMissedTwo 0).1 (by decide +kernel)).2⟩

/-- Loop 0 has turned stale, and its input has brought a new sample since. -/
def loopStaleSampled : State := wr (wr loopMissedTwo F.LOOP_STATUS_STALE 1 0) F.LEQ_MET_CTRL_SEQ 1 0

/-- R256's second sentence has a concrete run: STALE is set before the period with the fresh sample and clear after it. -/
theorem loopStaleSampled_clears :
    rd loopStaleSampled F.LOOP_STATUS_STALE 0 = 1 ∧ rd (loopPeriod loopStaleSampled 0) F.LOOP_STATUS_STALE 0 = 0 :=
  ⟨by decide +kernel, ((staleFollowsFreshSamples loopStaleSampled 0).2 (by decide +kernel) (by decide +kernel)).2⟩

end Sys2Proof.Machine
end

section
/-! PROOFS. A refused write of one register: what it comes to and what it leaves (R336-R338), a register whose own rule alone
refuses a value, and the ranges of the sampling slots and the threshold counters (R311). -/

namespace Sys2Proof.Machine

open Sys2Proof

/-! A refused write. -/

/-- A refused write is one bus error, reported and signalled to its interface (R337, R338). -/
def refusedWrite (iface : Iface) (s : State) (cause a : Nat) : State :=
  signalWrite iface (busReport (busError s iface.num cause a) iface.num (BusErrs.none.add cause a)) (some cause)

theorem oneWrite_of_refused {iface : Iface} {a d cause : Nat} {s : State} (hup : deviceUp s = true)
    (h : writeRefusal s a d = some cause) : oneWrite iface a d s = refusedWrite iface s cause a := by
  simp only [oneWrite, hup, if_true, ifaceWrite, h]
  rfl

/-- REGISTER_WRITE with nothing beside it in its cycle, where the write is refused. -/
theorem exec_registerWrite_of_refused {iface : Iface} {a : BitVec 24} {d : Word} {cause : Nat} {s : State}
    (hup : deviceUp s = true) (h : writeRefusal s a.toNat d.toNat = some cause) :
    exec (.registerWrite iface a d []) s = .next (refusedWrite iface s cause a.toNat) :=
  congrArg Host.Outcome.next (oneWrite_of_refused hup h)

/-- The keys of the fields that a refused write can change: what reporting writes, and the capture (R338). -/
def refusalKeys : List Nat := reportKeys ++ captureShown.map (·.key 0 0)

section Kept

variable {f : Field} {i j : Nat}

theorem errCapture_rd (s : State) (iface cause a : Nat) (h : f.key i j ∉ refusalKeys) :
    rd (errCapture s iface cause a) f i j = rd s f i j := by
  have hother : ∀ g ∈ captureShown, f.key i j ≠ g.key 0 0 := fun g hg hk =>
    h (List.mem_append_right _ (hk ▸ List.mem_map_of_mem hg))
  simp only [captureShown, List.forall_mem_cons] at hother
  obtain ⟨haddr, hcause, hiface, hvalid, -⟩ := hother
  rw [errCapture, rd_wr_other _ _ _ _ _ _ _ _ haddr, rd_wr_other _ _ _ _ _ _ _ _ hcause,
    rd_wr_other _ _ _ _ _ _ _ _ hiface, rd_wr_other _ _ _ _ _ _ _ _ hvalid]

/-- Management holds no register field. -/
theorem rd_with_mgmt (s : State) (m : MgmtState) : rd { s with mgmt := m } f i j = rd s f i j := rfl

theorem lockedWrite_rd (s : State) (iface cause a : Nat) (h : f.key i j ∉ reportKeys) :
    rd (lockedWrite s iface cause a) f i j = rd s f i j := by
  simp only [lockedWrite]
  split
  · rw [raiseEvent_rd _ _ _ _ _ h, rd_with_mgmt]
  · rw [rd_with_mgmt]

theorem busError_rd (s : State) (iface cause a : Nat) (h : f.key i j ∉ refusalKeys) :
    rd (busError s iface cause a) f i j = rd s f i j := by
  have hreport : f.key i j ∉ reportKeys := fun hk => h (List.mem_append_left _ hk)
  have hcounted := bump_rd s 0x750 1 f i j hreport
  have hcaptured := (errCapture_rd (bump s 0x750 1) iface cause a h).trans hcounted
  simp only [busError]
  split_ifs
  · exact (lockedWrite_rd _ _ _ _ hreport).trans hcaptured
  · exact (lockedWrite_rd _ _ _ _ hreport).trans hcounted
  · exact hcaptured
  · exact hcounted

theorem busReport_rd (s : State) (iface : Nat) (e : BusErrs) (h : f.key i j ∉ reportKeys) :
    rd (busReport s iface e) f i j = rd s f i j := by
  simp only [busReport]
  split
  · rfl
  · split
    · rw [raiseEvent_rd _ _ _ _ _ h, rd_with_mgmt]
    · rw [rd_with_mgmt]

theorem signalWrite_rd (iface : Iface) (s : State) (cause : Option Nat) :
    rd (signalWrite iface s cause) f i j = rd s f i j := by
  cases iface <;> rfl

/-- A refused write leaves every field that neither reporting nor the capture writes (R336). -/
theorem refusedWrite_rd (iface : Iface) (s : State) (cause a : Nat) (h : f.key i j ∉ refusalKeys) :
    rd (refusedWrite iface s cause a) f i j = rd s f i j := by
  rw [refusedWrite, signalWrite_rd, busReport_rd _ _ _ fun hk => h (List.mem_append_left _ hk), busError_rd _ _ _ _ h]

end Kept

/-! Blocks of 64 KiB: the gates on an address ask for its block alone. -/

theorem within_of_same_block {a b base size : Nat} (h : a / 0x10000 = b / 0x10000) (hbase : 0x10000 ∣ base)
    (hsize : 0x10000 ∣ size) : within a base size = within b base size := by
  obtain ⟨m, rfl⟩ := hbase
  obtain ⟨n, rfl⟩ := hsize
  have hlow : 0x10000 * m ≤ a ↔ 0x10000 * m ≤ b := by omega
  have hhigh : a < 0x10000 * m + 0x10000 * n ↔ b < 0x10000 * m + 0x10000 * n := by omega
  simp only [within, hlow, hhigh]

theorem gatedAddr_of_same_block (s : State) {a b : Nat} (h : a / 0x10000 = b / 0x10000) : gatedAddr s a = gatedAddr s b := by
  rw [gatedAddr, within_of_same_block h (by decide) (by decide), ← gatedAddr]

theorem dressTested_of_same_block (s : State) {a b : Nat} (h : a / 0x10000 = b / 0x10000) :
    dressTested s a = dressTested s b := by
  have hw := fun base size => within_of_same_block (base := base) (size := size) h
  rw [dressTested, hw 0x30000 _ (by decide) (by decide), hw 0x80000 _ (by decide) (by decide),
    hw 0x340000 _ (by decide) (by decide), hw 0x380000 _ (by decide) (by decide), ← dressTested]

/-! A register of RW fields alone. -/

/-- Of the reasons to refuse a write (R336), only the register's own rule about the value remains. -/
theorem regRefusal_of_rw (s : State) {r : RegInfo} (i j d : Nat) (hne : r.fields ≠ []) (hrw : ∀ f ∈ r.fields, f.ty = .rw) :
    regRefusal s r i j d = if valueRefused s r.place.base d then some 6 else none := by
  have hwritable : (r.fields.all fun f => !f.writable) = false := by
    obtain ⟨f, hf⟩ := List.exists_mem_of_ne_nil _ hne
    exact List.all_eq_false.2 ⟨f, hf, by simp [Field.writable, Field.isStatus, hrw f hf]⟩
  have hlock : (r.fields.any fun f => f.ty == .lk && rd s f i j == 1) = false :=
    List.any_eq_false.2 fun f hf => by simp [hrw f hf]
  have honce : (r.fields.any (·.ty == .w1)) = false := List.any_eq_false.2 fun f hf => by simp [hrw f hf]
  simp [regRefusal, hwritable, hlock, honce]

/-- CNT_SLOT_s as the register file holds it. -/
def slotReg : RegInfo := ⟨Regs.CNT_SLOT_s, [F.CNT_SLOT_s_EN, F.CNT_SLOT_s_K, F.CNT_SLOT_s_COUNTER]⟩

/-- CNT_THR_s as the register file holds it. -/
def thresholdReg : RegInfo :=
  ⟨Regs.CNT_THR_s, [F.CNT_THR_s_EN, F.CNT_THR_s_SOURCE, F.CNT_THR_s_INSTANCE, F.CNT_THR_s_N]⟩

/-- The two registers of R311. -/
def rangedRegs : List RegInfo := [slotReg, thresholdReg]

theorem target_rangedReg : ∀ r ∈ rangedRegs, ∀ k : Fin 32, target (r.place.base + 4 * k.val) = .mainReg r k 0 := by
  decide +kernel

/-- All of the 64 registers stand in one block of 64 KiB. -/
theorem rangedReg_block : ∀ r ∈ rangedRegs, ∀ k : Fin 32,
    (r.place.base + 4 * k.val) / 0x10000 = Regs.CNT_SLOT_s.base / 0x10000 := by decide

theorem rangedReg_rw : ∀ r ∈ rangedRegs, r.fields ≠ [] ∧ ∀ f ∈ r.fields, f.ty = .rw := by decide

theorem rangedReg_keys : ∀ r ∈ rangedRegs, ∀ f ∈ r.fields, ∀ k : Fin 32, f.key k 0 ∉ refusalKeys := by decide

theorem writeRefusal_rangedReg {s : State} {r : RegInfo} (hr : r ∈ rangedRegs) (k : Fin 32) (d : Nat)
    (hdress : dressTested s Regs.CNT_SLOT_s.base = false) :
    writeRefusal s (r.place.base + 4 * k.val) d = if valueRefused s r.place.base d then some 6 else none := by
  have hblock := rangedReg_block r hr k
  obtain ⟨hne, hrw⟩ := rangedReg_rw r hr
  have hgate : gatedAddr s Regs.CNT_SLOT_s.base = false := rfl
  simp [writeRefusal, target_rangedReg r hr k, gatedAddr_of_same_block s hblock, dressTested_of_same_block s hblock, hgate,
    hdress, regRefusal_of_rw s _ _ d hne hrw]

/-- A write of such a register with a value outside its range is refused under cause 6, and the register stays as it was. -/
theorem rangedReg_refused {s : State} {r : RegInfo} (hr : r ∈ rangedRegs) (iface : Iface) (k : Fin 32) (d : Word)
    (hup : deviceUp s = true) (hdress : dressTested s Regs.CNT_SLOT_s.base = false)
    (hvalue : valueRefused s r.place.base d.toNat = true) :
    Runs (.registerWrite iface (BitVec.ofNat 24 (r.place.base + 4 * k.val)) d []) s fun t =>
      t = refusedWrite iface s 6 (r.place.base + 4 * k.val) ∧ ∀ f ∈ r.fields, rd t f k = rd s f k := by
  have haddr : (BitVec.ofNat 24 (r.place.base + 4 * k.val)).toNat = r.place.base + 4 * k.val := by
    have hblock := rangedReg_block r hr k
    rw [BitVec.toNat_ofNat, Nat.mod_eq_of_lt]
    simp only [Regs.CNT_SLOT_s] at hblock
    omega
  have hrefused := writeRefusal_rangedReg hr k d.toNat hdress
  rw [hvalue, if_pos rfl, ← haddr] at hrefused
  refine ⟨_, exec_registerWrite_of_refused hup hrefused, by rw [haddr], fun f hf => ?_⟩
  exact refusedWrite_rd _ _ _ _ (rangedReg_keys r hr f hf k)

/-! The ranges (R311). -/

theorem valueRefused_slot (s : State) (d : Nat) :
    valueRefused s slotReg.place.base d = true ↔ d.testBit 31 = true ∧ (bitsOf d 29 24 < 4 ∨ 40 < bitsOf d 29 24) := by
  have hrule : valueRefused s slotReg.place.base d =
    (d.testBit 31 && (decide (bitsOf d 29 24 < 4) || decide (40 < bitsOf d 29 24))) := rfl
  rw [hrule]
  simp

theorem valueRefused_threshold (s : State) (d : Nat) :
    valueRefused s thresholdReg.place.base d = true ↔
      d.testBit 31 = true ∧ (bitsOf d 27 24 < 1 ∨ 8 < bitsOf d 27 24) := by
  have hrule : valueRefused s thresholdReg.place.base d =
    (d.testBit 31 && (decide (bitsOf d 27 24 < 1) || decide (8 < bitsOf d 27 24))) := rfl
  rw [hrule]
  simp

/-- Settles O18: both registers hold RW fields alone, so outside its range the value is the one reason to refuse the write. -/
theorem slotAndThresholdWritesRefused : Obligations.SlotAndThresholdWritesRefused := by
  unfold Obligations.SlotAndThresholdWritesRefused
  refine fun s iface k d hup hdress hen => ⟨fun hrange => ?slot, fun hrange => ?threshold⟩
  case slot =>
    obtain ⟨t, hrun, heq, hkept⟩ := rangedReg_refused (r := slotReg) (by decide) iface k d hup hdress
      ((valueRefused_slot s _).2 ⟨hen, hrange⟩)
    simp only [slotReg, List.forall_mem_cons] at hkept
    obtain ⟨hEN, hK, hCOUNTER, -⟩ := hkept
    exact ⟨t, hrun, heq, hEN, hK, hCOUNTER⟩
  case threshold =>
    obtain ⟨t, hrun, heq, hkept⟩ := rangedReg_refused (r := thresholdReg) (by decide) iface k d hup hdress
      ((valueRefused_threshold s _).2 ⟨hen, hrange⟩)
    simp only [thresholdReg, List.forall_mem_cons] at hkept
    obtain ⟨hEN, hSOURCE, hINSTANCE, hN, -⟩ := hkept
    exact ⟨t, hrun, heq, hEN, hSOURCE, hINSTANCE, hN⟩

/-- The device is up, sampling slot 5 raises at K = 16, and threshold counter 31 counts source 2. -/
def slotAndThresholdSet : State :=
  wr (wr (wr { State.reset with power := { State.reset.power with mode := .show } } F.CNT_SLOT_s_EN 1 5) F.CNT_THR_s_EN 1 31)
    F.CNT_THR_s_SOURCE 2 31

/-- R311's lower bounds have a concrete run: K = 3 and SOURCE = 0 are refused, and the registers keep K = 16 and SOURCE = 2. -/
theorem slotAndThresholdSet_keeps_values :
    Runs (.registerWrite .spi 0x384014 0x83000000 []) slotAndThresholdSet (fun t => rd t F.CNT_SLOT_s_K 5 = 16) ∧
    Runs (.registerWrite .core 0x38417C 0x80000000 []) slotAndThresholdSet (fun t => rd t F.CNT_THR_s_SOURCE 31 = 2) := by
  have hup : deviceUp slotAndThresholdSet = true := by decide +kernel
  have hdress : dressTested slotAndThresholdSet Regs.CNT_SLOT_s.base = false := by decide +kernel
  constructor
  · obtain ⟨t, hrun, -, -, hK, -⟩ :=
      (slotAndThresholdWritesRefused slotAndThresholdSet .spi 5 0x83000000 hup hdress (by decide)).1 (by decide)
    exact ⟨t, hrun, hK.trans (by decide +kernel)⟩
  · obtain ⟨t, hrun, -, -, hSOURCE, -⟩ :=
      (slotAndThresholdWritesRefused slotAndThresholdSet .core 31 0x80000000 hup hdress (by decide)).2 (by decide)
    exact ⟨t, hrun, hSOURCE.trans (by decide +kernel)⟩

end Sys2Proof.Machine
end

section
/-! PROOFS. GO_DISCARD (R346): the staged fields of the GO groups have a key each, so copying one back leaves the others as
they were copied. -/

namespace Sys2Proof.Machine

open Sys2Proof

/-! The keys of the staged fields. -/

/-- The first block of a block's class. -/
def GoInst.first : GoInst → GoInst
  | .profile => .profile
  | .port _ => .port 0
  | .line _ => .line 0
  | .host _ => .host 0
  | .loop _ => .loop 0
  | .group _ => .group 0
  | .bdac _ => .bdac 0
  | .dgen _ => .dgen 0
  | .sense _ => .sense 0
  | .flow => .flow

/-- Each RS field of each class, with its second index. -/
def goSlots : List (Field × Nat) :=
  [GoInst.profile, .port 0, .line 0, .host 0, .loop 0, .group 0, .bdac 0, .dgen 0, .sense 0, .flow].flatMap GoInst.slots

/-- Two fields' keys do not meet, whatever blocks they are of: one's all lie below the other's, or the two repeat at the same
distance from different remainders. -/
def keysApart (d e : Field × Nat) : Bool :=
  decide (d.1.key (d.1.place.count1 - 1) d.2 < e.1.key 0 e.2) || decide (e.1.key (e.1.place.count1 - 1) e.2 < d.1.key 0 d.2) ||
    (d.1.place.stride1 == e.1.place.stride1 &&
      d.1.key 0 d.2 % (d.1.place.stride1 * 32) != e.1.key 0 e.2 % (e.1.place.stride1 * 32))

theorem goSlots_keysApart : goSlots.Pairwise fun d e => keysApart d e = true := by decide +kernel

/-- Where two fields have the same key in some of their blocks, they are one field at one second index. -/
def SameKeySameSlot (d e : Field × Nat) : Prop :=
  ∀ i k, i < d.1.place.count1 → k < e.1.place.count1 → d.1.key i d.2 = e.1.key k e.2 → d = e

/-- A field's keys stand at a fixed distance from one block to the next. -/
theorem key_eq_add (f : Field) (i j : Nat) : f.key i j = f.key 0 j + i * (f.place.stride1 * 32) := by
  simp only [Field.key]
  ring

theorem key_le_last (f : Field) {i : Nat} (j : Nat) (h : i < f.place.count1) : f.key i j ≤ f.key (f.place.count1 - 1) j := by
  rw [key_eq_add f i, key_eq_add f (_ - 1)]
  exact Nat.add_le_add_left (Nat.mul_le_mul_right _ (Nat.le_sub_one_of_lt h)) _

theorem sameKeySameSlot_of_apart {d e : Field × Nat} (h : keysApart d e = true) : SameKeySameSlot d e := by
  intro i k hi hk heq
  have hd := key_eq_add d.1 i d.2
  have he := key_eq_add e.1 k e.2
  have hdlast := key_le_last d.1 d.2 hi
  have helast := key_le_last e.1 e.2 hk
  simp only [keysApart, Bool.or_eq_true, Bool.and_eq_true, decide_eq_true_eq, beq_iff_eq, bne_iff_ne] at h
  rcases h with (hbelow | habove) | ⟨hstride, hrem⟩
  · omega
  · omega
  · have hmod := congrArg (· % (e.1.place.stride1 * 32)) heq
    rw [hd, he, hstride, Nat.add_mul_mod_self_right, Nat.add_mul_mod_self_right] at hmod
    exact absurd hmod (hstride ▸ hrem)

theorem goSlots_sameKeySameSlot : ∀ d ∈ goSlots, ∀ e ∈ goSlots, SameKeySameSlot d e := by
  have hsymm : Std.Symm SameKeySameSlot := ⟨fun _ _ h i k hi hk heq => (h k i hk hi heq.symm).symm⟩
  intro d hd e he
  exact (goSlots_keysApart.imp sameKeySameSlot_of_apart).forall_of_forall (fun _ _ _ _ _ _ _ => rfl) hd he

/-- Every block's staged fields are those of its class. -/
theorem mem_goSlots {x : GoInst} {e : Field × Nat} (h : e ∈ x.slots) : e ∈ goSlots := by
  have hfirst : e ∈ x.first.slots := by cases x <;> exact h
  exact List.mem_flatMap.2 ⟨x.first, by cases x <;> simp [GoInst.first], hfirst⟩

theorem goInsts_num_lt : ∀ x ∈ goInsts, ∀ f ∈ x.fields, x.num < f.place.count1 := by decide +kernel

theorem num_lt_of_mem_slots {x : GoInst} {e : Field × Nat} (hx : x ∈ goInsts) (he : e ∈ x.slots) : x.num < e.1.place.count1 := by
  obtain ⟨f, hf, hmap⟩ := List.mem_flatMap.1 he
  obtain ⟨j, -, rfl⟩ := List.mem_map.1 hmap
  exact goInsts_num_lt x hx f hf

/-- Staged fields with the same key are one field at one second index. -/
theorem slot_eq_of_key_eq {x y : GoInst} {d e : Field × Nat} (hx : x ∈ goInsts) (hy : y ∈ goInsts) (hd : d ∈ x.slots)
    (he : e ∈ y.slots) (h : d.1.key x.num d.2 = e.1.key y.num e.2) : d = e :=
  goSlots_sameKeySameSlot d (mem_goSlots hd) e (mem_goSlots he) _ _ (num_lt_of_mem_slots hx hd) (num_lt_of_mem_slots hy he) h

/-! Copying back. -/

/-- A field's staged value is its effective one. -/
def StagedIsEff (f : Field) (i j : Nat) (s : State) : Prop := rd s f i j = rdE s f i j

/-- Copying a field's effective value back makes them equal. -/
theorem copyBack_stagedIsEff (s : State) (f : Field) (i j : Nat) : StagedIsEff f i j (wr s f (rdE s f i j) i j) := by
  rw [StagedIsEff, rd_wr_same, rdE_wr, Nat.mod_eq_of_lt (rdE_lt s f i j)]

/-- Copying another field back, or the same one under its key, keeps them equal. -/
theorem StagedIsEff.copyBack {s : State} {f g : Field} {i j i' j' : Nat} (h : StagedIsEff f i j s)
    (hkey : f.key i j = g.key i' j' → (f, j) = (g, j')) : StagedIsEff f i j (wr s g (rdE s g i' j') i' j') := by
  by_cases hk : f.key i j = g.key i' j'
  · obtain ⟨rfl, rfl⟩ := Prod.mk.inj (hkey hk)
    have hsame := copyBack_stagedIsEff s f i' j
    simpa only [StagedIsEff, rd, rdE, fGet, hk] using hsame
  · rw [StagedIsEff, rd_wr_other _ _ _ _ _ _ _ _ hk, rdE_wr]
    exact h

/-- What one of a list's steps brings about and the others keep holds after all of them. -/
theorem foldl_of_mem {α σ : Type} {P : σ → Prop} {f : σ → α → σ} {l : List α} {a : α} (ha : a ∈ l) (hmake : ∀ s, P (f s a))
    (hkeep : ∀ s, P s → ∀ b ∈ l, P (f s b)) (s : σ) : P (l.foldl f s) := by
  obtain ⟨before, after, rfl⟩ := List.append_of_mem ha
  rw [List.foldl_append, List.foldl_cons]
  exact List.foldlRecOn after f (hmake _) fun t ht b hb => hkeep t ht b (by simp [hb])

section Blocks

variable {x y : GoInst} {e : Field × Nat}

/-- Discarding a block's staged values makes them its effective ones. -/
theorem discard_stagedIsEff (hx : x ∈ goInsts) (he : e ∈ x.slots) (s : State) :
    StagedIsEff e.1 x.num e.2 (x.discard s) :=
  foldl_of_mem he (fun t => copyBack_stagedIsEff t ..)
    (fun _ ht _ hd => ht.copyBack (slot_eq_of_key_eq hx hx he hd)) s

/-- Discarding any block's keeps them so. -/
theorem StagedIsEff.discard {s : State} (h : StagedIsEff e.1 x.num e.2 s) (hx : x ∈ goInsts) (he : e ∈ x.slots)
    (hy : y ∈ goInsts) : StagedIsEff e.1 x.num e.2 (y.discard s) :=
  List.foldlRecOn y.slots _ h fun _ ht _ hd => ht.copyBack (slot_eq_of_key_eq hx hy he hd)

end Blocks

theorem discard_eff (x : GoInst) (s : State) : (x.discard s).eff = s.eff :=
  List.foldlRecOn (motive := fun t : State => t.eff = s.eff) x.slots _ rfl fun _ ht _ _ => ht

/-- GO_DISCARD leaves every effective value as it was (R346). -/
theorem goDiscard_eff (mask : Nat) (s : State) : (goDiscard mask s).eff = s.eff :=
  List.foldlRecOn (motive := fun t : State => t.eff = s.eff) (goInsts.filter (GoInst.fired · s mask)) _ rfl
    fun t ht x _ => (discard_eff x t).trans ht

/-- GO_DISCARD makes the staged values of every block of a named group its effective ones (R346). -/
theorem goDiscard_stagedIsEff {mask : Nat} {s : State} {x : GoInst} {e : Field × Nat} (hx : x ∈ goInsts)
    (hfired : x.fired s mask = true) (he : e ∈ x.slots) : StagedIsEff e.1 x.num e.2 (goDiscard mask s) :=
  foldl_of_mem (List.mem_filter.2 ⟨hx, hfired⟩) (discard_stagedIsEff hx he)
    (fun _ ht _ hy => ht.discard hx he (List.mem_of_mem_filter hy)) s

/-- Settles O46: the copy makes each staged value the effective one, which no copy changes. -/
theorem goDiscardCopiesEffective : Obligations.GoDiscardCopiesEffective := by
  unfold Obligations.GoDiscardCopiesEffective
  refine fun s mask => ⟨goDiscard mask.toNat s, rfl, fun x hx hgroup e he => ?_⟩
  have hcopied := goDiscard_stagedIsEff (mask := mask.toNat) hx hgroup he
  rwa [StagedIsEff, rdE, goDiscard_eff, ← rdE] at hcopied

/-- Bias DAC 3 is in group 5; its effective code is 0x1234, and 0x8000 is staged. -/
def biasCodeStaged : State :=
  wr (wrE (wr State.reset F.BDAC_CTRL_c_GO_GROUP 5 3) F.BDAC_CODE_c_CODE 0x1234 3) F.BDAC_CODE_c_CODE 0x8000 3

/-- R346 has a concrete run: the staged code is 0x8000 before group 5 is discarded and the effective 0x1234 after. -/
theorem biasCodeStaged_discarded :
    rd biasCodeStaged F.BDAC_CODE_c_CODE 3 = 0x8000 ∧
    Runs (.goDiscard 0x20) biasCodeStaged fun t => rd t F.BDAC_CODE_c_CODE 3 = 0x1234 := by
  obtain ⟨t, hrun, hcopied⟩ := goDiscardCopiesEffective biasCodeStaged 0x20
  have hcode := hcopied (.bdac 3) (by decide) (by decide +kernel) (F.BDAC_CODE_c_CODE, 0) (by decide)
  exact ⟨by decide +kernel, t, hrun, hcode.trans (by decide +kernel)⟩

end Sys2Proof.Machine
end

section
/-! PROOFS. What every command and every step comes to, and the values at reset. -/

namespace Sys2Proof.Machine

open Sys2Proof

set_option Elab.async false

/-- Settles O1: the meaning of each command is a next state by its form. -/
theorem everyCommandAnswers : Obligations.EveryCommandAnswers := by
  unfold Obligations.EveryCommandAnswers
  intro i s
  cases i <;> exact ⟨_, rfl⟩

/-- Settles O2: a step takes the front of the queue by its definition. -/
theorem stepRunsFrontCommand : Obligations.StepRunsFrontCommand := by
  unfold Obligations.StepRunsFrontCommand
  exact fun _ _ _ => rfl

/-- Settles O4: at reset no field is listed, so that each reads the value of its table. -/
theorem resetValues : Obligations.ResetValues := by
  unfold Obligations.ResetValues
  have hfield : ∀ (f : Field) (i j : Nat), rd State.reset f i j = f.reset j % 2 ^ f.width := fun _ _ _ => rfl
  exact ⟨fun f i j => ⟨hfield f i j, rfl⟩, rfl, rfl, rfl, rfl, rfl, rfl, fun _ _ => rfl, rfl, rfl⟩

/-- Settles O12: the window lists nothing at reset. -/
theorem windowWfAtReset : Obligations.WindowWfAtReset := by
  unfold Obligations.WindowWfAtReset
  rfl

end Sys2Proof.Machine
end

section
/-! PROOFS. A ring command that waits, or is turned away before its own part (R324, R328, R428). -/

namespace Sys2Proof.Machine

open Sys2Proof

section HostCmd

variable {opcode : Nat} {masks : List (Nat × Nat)} {c : Cmd} {s : State} (gate : State → Option (Nat × Nat))
  (body : State → State × Reply)

/-- A command that Mexis does not consume next is offered, and no more. -/
theorem hostCmd_waits (h : consumes (offer s opcode c) opcode c = false) :
    hostCmd opcode masks gate c body s = offer s opcode c := by
  simp only [hostCmd, h, Bool.false_eq_true, if_false]

theorem hostCmd_recovery (h : consumes (offer s opcode c) opcode c = true) (hslot : slotUncorr (offer s opcode c) = false)
    (hrec : s.sec.recovery = true) (hrom : bootRomServes opcode = false) :
    hostCmd opcode masks gate c body s = complete (takenState opcode c s) c.tag opcode c.notify stState 0 0 0 := by
  have hoff : (offer s opcode c).sec.recovery = true := by rw [(offer_reports s opcode c).sec, hrec]
  simp only [hostCmd, h, hslot, hoff, hrom, if_true, Bool.false_eq_true, if_false, Bool.not_false, Bool.and_true]
  rfl

theorem hostCmd_reserved {k : Nat} (h : consumes (offer s opcode c) opcode c = true)
    (hslot : slotUncorr (offer s opcode c) = false) (hserved : s.sec.recovery = false ∨ bootRomServes opcode = true)
    (hk : reservedWord c masks = some k) :
    hostCmd opcode masks gate c body s = complete (takenState opcode c s) c.tag opcode c.notify stParam k 0 0 := by
  have hoff : ((offer s opcode c).sec.recovery && !bootRomServes opcode) = false := by
    rw [(offer_reports s opcode c).sec]
    rcases hserved with hrec | hrom
    · rw [hrec, Bool.false_and]
    · rw [hrom, Bool.not_true, Bool.and_false]
  simp only [hostCmd, h, hslot, hoff, hk, if_true, Bool.false_eq_true, if_false]
  rfl

end HostCmd

theorem inProgress_of_reports {s t : State} (h : OnlyReports s t) : t.mgmt.inProgress = s.mgmt.inProgress :=
  (congrArg MgmtState.inProgress h.mgmt :)

/-- A command with a row of its own comes to what a ring command of that row comes to, where that only reports: CAL_RUN then starts
no run, with none in progress before. -/
theorem exec_of_commandRow {i : Instr} {s : State} {r : CommandRow} (h : commandRow i = some r)
    (hcal : r.opcode = 0x0401 → progHas s 0x0401 0 = false) :
    ∃ gate body, ∀ t, hostCmd r.opcode r.masks gate r.descriptor body s = t → OnlyReports s t → exec i s = .next t := by
  cases i <;> cases h
  case calRun c =>
    refine ⟨noGate, calRun c, fun t ht hreports => congrArg Host.Outcome.next ?_⟩
    have hnone : progHas t 0x0401 0 = false := by
      rw [progHas, inProgress_of_reports hreports]
      exact hcal rfl
    have hrow : calRunRow c s = if progHas t 0x0401 0 = true ∧ t.cal.run.isNone = true then calStart t 0 (calSetOf c) else t := by
      rw [← ht]
      rfl
    rw [hrow, hnone]
    exact if_neg fun hand => Bool.false_ne_true hand.1
  all_goals exact ⟨_, _, fun _ ht _ => congrArg Host.Outcome.next ht⟩

/-- Settles O15: whatever its own part is, a ring command that is not next, that recovery does not serve or that has a reserved bit
set comes to its offer, or to the completion that says so. -/
theorem ringCommandRefusals : Obligations.RingCommandRefusals := by
  unfold Obligations.RingCommandRefusals
  intro i s r hrow hcal
  obtain ⟨gate, body, hexec⟩ := exec_of_commandRow hrow hcal
  have hcompletes := fun code sub =>
    (taken_reports r.opcode r.descriptor s).trans (complete_reports _ r.descriptor.tag r.opcode r.descriptor.notify code sub 0 0)
  refine ⟨fun h => hexec _ (hostCmd_waits gate body h) (offer_reports ..), fun h hslot => ⟨?recovery, ?reserved⟩⟩
  case recovery => exact fun hrec hrom => hexec _ (hostCmd_recovery gate body h hslot hrec hrom) (hcompletes _ _)
  case reserved => exact fun hserved k hk => hexec _ (hostCmd_reserved gate body h hslot hserved hk) (hcompletes _ _)

end Sys2Proof.Machine
end

section
/-! PROOFS. What an event writes and counts (R330, R376). -/

namespace Sys2Proof.Machine

open Sys2Proof

set_option Elab.async false

/-! The fields of the event ring, step by step. -/

theorem rd_eq_of_fld {s t : State} (h : t.fld = s.fld) (f : Field) (i j : Nat) : rd t f i j = rd s f i j := by
  rw [rd, h, rd]

@[simp] theorem bookWrite_fld (s : State) (kind w1 l d0 d1 count : Nat) : (bookWrite s kind w1 l d0 d1 count).fld = s.fld := rfl

@[simp] theorem bookWrite_mgmt (s : State) (kind w1 l d0 d1 count : Nat) : (bookWrite s kind w1 l d0 d1 count).mgmt = s.mgmt := rfl

@[simp] theorem bookWrite_nextSeq (s : State) (kind w1 l d0 d1 count : Nat) :
    (bookWrite s kind w1 l d0 d1 count).book.nextSeq = (s.book.nextSeq + 1) % 2 ^ 24 := rfl

@[simp] theorem bookEvent_fld (s : State) (e : Ev) : (bookEvent s e).fld = s.fld := by
  simp only [bookEvent]
  split
  · split <;> rfl
  · rfl

@[simp] theorem bookEvent_mgmt (s : State) (e : Ev) : (bookEvent s e).mgmt = s.mgmt := by
  simp only [bookEvent]
  split
  · split <;> rfl
  · rfl

@[simp] theorem nextEvtSeq_fld (s : State) : (nextEvtSeq s).fld = s.fld := rfl

@[simp] theorem nextEvtSeq_window (s : State) : (nextEvtSeq s).mgmt.window = s.mgmt.window := rfl

/-- A record of an enabled group takes the book's next sequence number (R376). -/
theorem bookEvent_nextSeq {s : State} {e : Ev} {g : Nat} (hg : bitsOf e.code 14 8 = g + 1) (hlt : g < 13)
    (hon : (rd s F.PB_CTRL_GROUPS).testBit g = true) : (bookEvent s e).book.nextSeq = (s.book.nextSeq + 1) % 2 ^ 24 := by
  have hgroup : 1 ≤ bitsOf e.code 14 8 ∧ bitsOf e.code 14 8 ≤ 13 ∧
      (rd s F.PB_CTRL_GROUPS).testBit (bitsOf e.code 14 8 - 1) = true := by
    rw [hg]
    exact ⟨by omega, by omega, hon⟩
  unfold bookEvent
  simp only [if_pos hgroup]
  split <;> rfl

/-- What remains of a raise once lost events have been reported: the event's own record, or its count. -/
def eventWritten (s : State) (e : Ev) : State :=
  if evtRoom s then pushEvent s (evWords s e) else incSat s F.RING_STATUS_EVT_LOST

theorem raiseEvent_fld (s : State) (e : Ev) : (raiseEvent s e).fld = (eventWritten (drainLost s) e).fld := bookEvent_fld ..

theorem raiseEvent_window (s : State) (e : Ev) :
    (raiseEvent s e).mgmt.window = (eventWritten (drainLost s) e).mgmt.window := by
  show (bookEvent (nextEvtSeq (eventWritten (drainLost s) e)) e).mgmt.window = _
  rw [bookEvent_mgmt, nextEvtSeq_window]

/-- With no event lost, or no room, nothing is reported first. -/
theorem drainLost_eq_self {s : State} (h : rd s F.RING_STATUS_EVT_LOST = 0 ∨ evtRoom s = false) : drainLost s = s := by
  unfold drainLost
  refine if_neg fun hand => ?_
  obtain ⟨hlost, hroom⟩ := hand
  rcases h with h | h
  · exact hlost h
  · rw [h] at hroom
    exact Bool.false_ne_true hroom

section Push

variable (s : State) (ws : List Nat)

theorem pushEvent_prod : rd (pushEvent s ws) F.RING_EVT_PROD_PROD = (rd s F.RING_EVT_PROD_PROD + 1) % 65536 := rd_wr_same ..

theorem pushEvent_rd (f : Field) (h : f.key 0 0 ≠ F.RING_EVT_PROD_PROD.key 0 0) : rd (pushEvent s ws) f = rd s f :=
  rd_wr_other _ _ _ _ _ _ _ _ h

end Push

/-- EVENTS_LOST advances the producer, and clears the count (R330). -/
theorem drainLost_of_lost {s : State} (hlost : rd s F.RING_STATUS_EVT_LOST ≠ 0) (hroom : evtRoom s = true) :
    rd (drainLost s) F.RING_EVT_PROD_PROD = (rd s F.RING_EVT_PROD_PROD + 1) % 65536 ∧
      rd (drainLost s) F.RING_STATUS_EVT_LOST = 0 ∧
      (∀ f : Field, f.key 0 0 ≠ F.RING_EVT_PROD_PROD.key 0 0 → f.key 0 0 ≠ F.RING_STATUS_EVT_LOST.key 0 0 →
        rd (drainLost s) f = rd s f) ∧
      (drainLost s).mgmt.engineHeld = s.mgmt.engineHeld := by
  have hother : ∀ (e : Ev) (ws : List Nat) (f : Field), f.key 0 0 ≠ F.RING_STATUS_EVT_LOST.key 0 0 →
      rd (wr (bookEvent (nextEvtSeq (pushEvent s ws)) e) F.RING_STATUS_EVT_LOST 0) f = rd (pushEvent s ws) f := fun e ws f hf => by
    rw [rd_wr_other _ _ _ _ _ _ _ _ hf]
    exact rd_eq_of_fld (bookEvent_fld ..) f 0 0
  unfold drainLost
  rw [if_pos ⟨hlost, hroom⟩]
  refine ⟨?_, rd_wr_same .., fun f hprod hlostf => ?_, ?_⟩
  · rw [hother _ _ _ (by decide), pushEvent_prod]
  · rw [hother _ _ _ hlostf, pushEvent_rd _ _ _ hprod]
  · rw [wr_mgmt, bookEvent_mgmt]
    rfl

/-- One more record fits after EVENTS_LOST where there were two free slots. -/
theorem evtRoom_drainLost {s : State} (hlost : rd s F.RING_STATUS_EVT_LOST ≠ 0) (hroom : evtRoom s = true)
    (hfill : evtFill s + 1 < evtRingSize s) : evtRoom (drainLost s) = true := by
  obtain ⟨hprod, -, hother, hheld⟩ := drainLost_of_lost hlost hroom
  have hsize : evtRingSize (drainLost s) = evtRingSize s := by rw [evtRingSize, hother _ (by decide) (by decide), evtRingSize]
  have hmore : evtFill (drainLost s) ≤ evtFill s + 1 := by
    simp only [evtFill, ringFill, hprod, hother F.DB_EVT_ACK_ACK (by decide) (by decide)]
    omega
  simp only [evtRoom, Bool.and_eq_true, decide_eq_true_eq, hheld, hsize] at hroom ⊢
  exact ⟨hroom.1, by omega⟩

/-- Settles O16: a raise without room counts, one with room writes its record, behind EVENTS_LOST where events were lost, and
each passes the prompt book. -/
theorem eventsWrittenOrCounted : Obligations.EventsWrittenOrCounted := by
  unfold Obligations.EventsWrittenOrCounted
  refine fun s e => ⟨fun hroom => ?counted, fun hroom hlost => ?written, fun hroom hlost hfill => ?drained,
    fun hplain g hg hlt hon => ?booked⟩
  case counted =>
    have hwritten : eventWritten (drainLost s) e = incSat s F.RING_STATUS_EVT_LOST := by
      rw [drainLost_eq_self (.inr hroom), eventWritten, hroom]
      rfl
    refine ⟨?_, ?_, ?_⟩
    · rw [raiseEvent_window, hwritten]
      rfl
    · rw [rd_eq_of_fld (raiseEvent_fld s e), hwritten, incSat, rd_wr_other _ _ _ _ _ _ _ _ (by decide)]
    · rw [rd_eq_of_fld (raiseEvent_fld s e), hwritten, incSat, rd_wr_same]
      show min 65535 (rd s F.RING_STATUS_EVT_LOST + 1) % 65536 = _
      omega
  case written =>
    have hwritten : eventWritten (drainLost s) e = pushEvent s (evWords s e) := by
      rw [drainLost_eq_self (.inl hlost), eventWritten, if_pos hroom]
    refine ⟨?_, ?_, ?_⟩
    · rw [raiseEvent_window, hwritten]
      rfl
    · rw [rd_eq_of_fld (raiseEvent_fld s e), hwritten, pushEvent_prod]
    · rw [rd_eq_of_fld (raiseEvent_fld s e), hwritten, pushEvent_rd _ _ _ (by decide), hlost]
  case drained =>
    obtain ⟨hprod, hzero, -, -⟩ := drainLost_of_lost hlost hroom
    have hwritten : eventWritten (drainLost s) e = pushEvent (drainLost s) (evWords (drainLost s) e) := by
      rw [eventWritten, if_pos (evtRoom_drainLost hlost hroom hfill)]
    refine ⟨?_, ?_⟩
    · rw [rd_eq_of_fld (raiseEvent_fld s e), hwritten, pushEvent_prod, hprod]
      omega
    · rw [rd_eq_of_fld (raiseEvent_fld s e), hwritten, pushEvent_rd _ _ _ (by decide), hzero]
  case booked =>
    have hwritten : (eventWritten s e).book = s.book ∧ rd (eventWritten s e) F.PB_CTRL_GROUPS = rd s F.PB_CTRL_GROUPS := by
      unfold eventWritten
      split_ifs
      · exact ⟨rfl, pushEvent_rd _ _ _ (by decide)⟩
      · exact ⟨rfl, rd_wr_other _ _ _ _ _ _ _ _ (by decide)⟩
    have hraise : raiseEvent s e = bookEvent (nextEvtSeq (eventWritten s e)) e := by
      unfold raiseEvent
      rw [drainLost_eq_self hplain]
      rfl
    have hgroups : (rd (nextEvtSeq (eventWritten s e)) F.PB_CTRL_GROUPS).testBit g = true := by
      rw [rd_eq_of_fld (nextEvtSeq_fld _), hwritten.2, hon]
    rw [hraise, bookEvent_nextSeq hg hlt hgroups]
    exact congrArg (fun b : BookState => (b.nextSeq + 1) % 2 ^ 24) hwritten.1

end Sys2Proof.Machine
end

section
/-! PROOFS. Frames: what may change between two states (Scope), that no more than that does (Within), and that reporting stays
within every scope. -/

namespace Sys2Proof.Machine

open Sys2Proof

set_option Elab.async false

/-! Fuses. -/

theorem FusesKept.rfl' (o : Otp) : FusesKept o o :=
  ⟨le_rfl, le_rfl, id, fun _ h => h, fun _ h => h, fun _ h => h, fun _ h => h⟩

theorem FusesKept.trans {a b c : Otp} (h : FusesKept a b) (g : FusesKept b c) : FusesKept a c := by
  obtain ⟨hlife, hroll, hscorch, hprog, hrev, howner, hpolicy⟩ := h
  obtain ⟨glife, groll, gscorch, gprog, grev, gowner, gpolicy⟩ := g
  exact ⟨hlife.trans glife, hroll.trans groll, gscorch ∘ hscorch, fun k hk => gprog k (hprog k hk),
    fun k hk => grev k (hrev k hk), fun v hv => gowner v (howner v hv), fun v hv => gpolicy v (hpolicy v hv)⟩

/-! The bulk area. -/

/-- The fields of RING_LAYOUT that the bulk area's end is read from (R322). -/
def layoutFields : List Field :=
  [F.RING_LAYOUT_CMD_BASE, F.RING_LAYOUT_CPL_BASE, F.RING_LAYOUT_EVT_BASE, F.RING_LAYOUT_CMIS_EN]

def layoutKeys : List Nat := layoutFields.map fun f => f.key 0 0

theorem rd_eq_of_aGet {s t : State} {f : Field} {i j : Nat} (h : aGet t.fld (f.key i j) = aGet s.fld (f.key i j)) :
    rd t f i j = rd s f i j := by
  simp only [rd, fGet, h]

/-- The bulk area's end hangs on the layout's fields alone. -/
theorem bulkEnd_of_layout {s t : State} (h : ∀ k ∈ layoutKeys, aGet t.fld k = aGet s.fld k) : bulkEnd t = bulkEnd s := by
  have hrd : ∀ f ∈ layoutFields, rd t f = rd s f := fun f hf => rd_eq_of_aGet (h _ (List.mem_map_of_mem hf))
  simp only [layoutFields, List.forall_mem_cons] at hrd
  obtain ⟨hcmd, hcpl, hevt, hcmis, -⟩ := hrd
  simp only [bulkEnd, hcmd, hcpl, hevt, hcmis]

theorem layoutKeys_not_report : ∀ k ∈ layoutKeys, k ∉ reportKeys := by decide

theorem OnlyReports.bulkEnd {s t : State} (h : OnlyReports s t) : Machine.bulkEnd t = Machine.bulkEnd s :=
  bulkEnd_of_layout fun k hk => h.fld k (layoutKeys_not_report k hk)

theorem BulkKept.rfl' (s : State) : BulkKept s s := fun _ _ => rfl

theorem BulkKept.of_window {s t : State} (h : t.mgmt.window = s.mgmt.window) : BulkKept s t := fun _ _ => by rw [h]

theorem BulkKept.trans {s t u : State} (h : BulkKept s t) (g : BulkKept t u) (he : bulkEnd t = bulkEnd s) : BulkKept s u :=
  fun a ha => (g a (he ▸ ha)).trans (h a ha)

theorem bulkKept_putWords {s : State} {a : Nat} (ws : List Nat) (h : windowBase + bulkEnd s ≤ a) :
    BulkKept s (putWords s a ws) :=
  fun _ hc => winByte_winPutWords_other ws _ (.inl (by omega))

theorem bulkEnd_le (s : State) : bulkEnd s ≤ rd s F.RING_LAYOUT_CMD_BASE * 4096 ∧
    bulkEnd s ≤ rd s F.RING_LAYOUT_CPL_BASE * 4096 ∧ bulkEnd s ≤ rd s F.RING_LAYOUT_EVT_BASE * 4096 := by
  have hcmd : bulkEnd s ≤ min (rd s F.RING_LAYOUT_CMD_BASE)
      (min (rd s F.RING_LAYOUT_CPL_BASE) (rd s F.RING_LAYOUT_EVT_BASE)) * 4096 := by
    unfold bulkEnd
    split
    · exact Nat.min_le_left ..
    · exact le_rfl
  omega

theorem bulk_le_cmdRing (s : State) : windowBase + bulkEnd s ≤ cmdRingBase s := Nat.add_le_add_left (bulkEnd_le s).1 _
theorem bulk_le_cplRing (s : State) : windowBase + bulkEnd s ≤ cplRingBase s := Nat.add_le_add_left (bulkEnd_le s).2.1 _
theorem bulk_le_evtRing (s : State) : windowBase + bulkEnd s ≤ evtRingBase s := Nat.add_le_add_left (bulkEnd_le s).2.2 _

/-- From s to t only reporting happened, and that outside the bulk area. -/
structure ReportsAbove (s t : State) : Prop where
  only : OnlyReports s t
  bulk : BulkKept s t

namespace ReportsAbove

theorem rfl' (s : State) : ReportsAbove s s := ⟨.rfl' s, .rfl' s⟩

theorem trans {s t u : State} (h : ReportsAbove s t) (g : ReportsAbove t u) : ReportsAbove s u :=
  ⟨h.only.trans g.only, h.bulk.trans g.bulk h.only.bulkEnd⟩

theorem of_window {s t : State} (h : OnlyReports s t) (hw : t.mgmt.window = s.mgmt.window) : ReportsAbove s t :=
  ⟨h, .of_window hw⟩

theorem ite {c : Prop} [Decidable c] {s a b : State} (ha : ReportsAbove s a) (hb : ReportsAbove s b) :
    ReportsAbove s (if c then a else b) := by
  split
  · exact ha
  · exact hb

theorem wr (s : State) (f : Field) (v : Nat) {i j : Nat} (h : f.key i j ∈ reportKeys) : ReportsAbove s (wr s f v i j) :=
  of_window (wr_reports s f v i j h) rfl

theorem putWords (s : State) {a : Nat} (ws : List Nat) (h : windowBase + bulkEnd s ≤ a) :
    ReportsAbove s (putWords s a ws) :=
  ⟨putWords_reports s a ws, bulkKept_putWords ws h⟩

end ReportsAbove

theorem bumpRaw_above (s : State) (i n : Nat) : ReportsAbove s (bumpRaw s i n) :=
  .of_window (bumpRaw_reports s i n) (by unfold bumpRaw; split <;> rfl)

theorem bookWrite_above (s : State) (kind w1 l d0 d1 count : Nat) : ReportsAbove s (bookWrite s kind w1 l d0 d1 count) :=
  .of_window (bookWrite_reports ..) rfl

theorem bookEvent_above (s : State) (e : Ev) : ReportsAbove s (bookEvent s e) := by
  unfold bookEvent
  refine .ite ?_ (.rfl' s)
  split
  · exact bookWrite_above ..
  · exact bookWrite_above ..

theorem nextEvtSeq_above (s : State) : ReportsAbove s (nextEvtSeq s) := .of_window (nextEvtSeq_reports s) rfl

theorem pushEvent_above (s : State) (ws : List Nat) : ReportsAbove s (pushEvent s ws) :=
  .trans (.putWords s ws ((bulk_le_evtRing s).trans (Nat.le_add_right ..))) (.wr _ _ _ (by decide))

theorem drainLost_above (s : State) : ReportsAbove s (drainLost s) := by
  unfold drainLost
  exact .ite ((((pushEvent_above ..).trans (nextEvtSeq_above _)).trans (bookEvent_above ..)).trans (.wr _ _ _ (by decide)))
    (.rfl' s)

theorem raiseEvent_above (s : State) (e : Ev) : ReportsAbove s (raiseEvent s e) := by
  unfold raiseEvent
  have hwrite : ReportsAbove (drainLost s) (if evtRoom (drainLost s) then pushEvent (drainLost s) (evWords (drainLost s) e)
      else incSat (drainLost s) F.RING_STATUS_EVT_LOST) := .ite (pushEvent_above ..) (.wr _ _ _ (by decide))
  exact (((drainLost_above s).trans hwrite).trans (nextEvtSeq_above _)).trans (bookEvent_above ..)

theorem book_above (s : State) (b : BookState) : ReportsAbove s { s with book := b } := .of_window (book_reports s b) rfl

theorem curtain_above (s : State) (trigger code l : Nat) (d1 : Option Nat) : ReportsAbove s (curtain s trigger code l d1) := by
  unfold curtain
  simp only
  generalize (if (vGet s.book.sections 0 none).isNone = true then some 0 else _ : Option Nat) = o
  cases o with
  | some k =>
    exact ((bookWrite_above ..).trans ((book_above _ _).trans (.ite (book_above _ _) (.rfl' _)))).trans (raiseEvent_above ..)
  | none => exact (bookWrite_above ..).trans (.trans (.wr _ _ _ (by decide)) (raiseEvent_above ..))

/-- A lost word's report stays out of the bulk area where its count does. -/
theorem announceUncorr_above {count : State → State} (h : ∀ s, ReportsAbove s (count s)) (s : State) (k a : Nat)
    (scrub : Bool) : ReportsAbove s (announceUncorr count s k a scrub) := by
  unfold announceUncorr
  exact (((h s).trans (.ite
    ((((ReportsAbove.wr _ _ _ (by decide)).trans (.wr _ _ _ (by decide))).trans (.wr _ _ _ (by decide))).trans
      (.wr _ _ _ (by decide))) (.rfl' _))).trans (raiseEvent_above ..)).trans (curtain_above ..)

theorem counterRestart_above (s : State) (i : Nat) (found : Bool) : ReportsAbove s (counterRestart s i found) :=
  .of_window (counterRestart_reports s i found) rfl

theorem bumpBy_above (k : Nat) (s : State) (i n : Nat) : ReportsAbove s (bumpBy k s i n) := by
  induction k generalizing s i n with
  | zero => exact bumpRaw_above s i n
  | succ k ih =>
    unfold bumpBy
    split
    · exact bumpRaw_above ..
    · exact (bumpRaw_above ..).trans (ih ..)
    · exact ((counterRestart_above ..).trans (bumpRaw_above ..)).trans (ih ..)
    · exact ((counterRestart_above ..).trans (bumpRaw_above ..)).trans (announceUncorr_above (fun t => ih t _ _) ..)

theorem bump_above (s : State) (i n : Nat) : ReportsAbove s (bump s i n) := .ite (.rfl' s) (bumpBy_above ..)

/-- A word found lost (R363): in the ring window it reads 0, so it must lie above the bulk area. -/
theorem reportUncorr_above (s : State) (k a : Nat) (scrub : Bool) (h : k = 8 → bulkEnd s ≤ 8 * a) :
    ReportsAbove s (reportUncorr s k a scrub) := by
  unfold reportUncorr
  refine .trans ⟨(setBank_reports s k _).trans (.ite (window_reports _ _ (winPutWords_wf _ _ _)) (.rfl' _)), ?_⟩
    (announceUncorr_above (fun t => bump_above t 0x755 1) ..)
  split
  · next hk => exact fun c hc => winByte_winPutWords_other _ _ (.inl (by have := h hk; omega))
  · exact .rfl' _

theorem eccRead_above (s : State) (k a : Nat) (h : k = 8 → bulkEnd s ≤ 8 * a) : ReportsAbove s (eccRead s k a).1 := by
  unfold eccRead
  split
  · exact bump_above s 0x757 1
  · split
    · exact .rfl' s
    · split
      · exact .rfl' s
      · exact bump_above s 0x753 1
      · exact bump_above s 0x753 1
      · exact reportUncorr_above s _ _ _ h

theorem eccThrough_above (k : Nat) (as : List Nat) (s : State) (h : k = 8 → ∀ a ∈ as, bulkEnd s ≤ 8 * a) :
    ReportsAbove s (eccThrough k as s) := by
  induction as generalizing s with
  | nil => exact .rfl' s
  | cons a as ih =>
    have hread := eccRead_above s k a fun hk => h hk a (List.mem_cons_self ..)
    exact hread.trans (ih _ fun hk b hb => hread.only.bulkEnd ▸ h hk b (List.mem_cons_of_mem _ hb))

theorem writeCompletion_above (s : State) (w : Waiting) : ReportsAbove s (writeCompletion s w) := by
  unfold writeCompletion
  exact ((ReportsAbove.putWords s _ ((bulk_le_cplRing s).trans (Nat.le_add_right ..))).trans (.wr _ _ _ (by decide))).trans
    (.ite (raiseEvent_above ..) (.rfl' _))

theorem waiting_above (s : State) (l : List Waiting) : ReportsAbove s { s with mgmt := { s.mgmt with waiting := l } } :=
  .of_window (waiting_reports s l) rfl

theorem complete_above (s : State) (tag : BitVec 16) (opcode : Nat) (notify : Bool) (code sub r0 r1 : Nat) :
    ReportsAbove s (complete s tag opcode notify code sub r0 r1) := by
  unfold complete
  simp only
  split
  · exact writeCompletion_above ..
  · exact waiting_above ..

theorem drainWaiting_above (ws : List Waiting) (s : State) : ReportsAbove s (drainWaiting ws s) := by
  induction ws generalizing s with
  | nil => exact waiting_above ..
  | cons w ws ih =>
    simp only [drainWaiting]
    split
    · exact (writeCompletion_above s w).trans (ih _)
    · exact waiting_above ..

theorem offer_above (s : State) (opcode : Nat) (c : Cmd) : ReportsAbove s (offer s opcode c) :=
  .ite (.rfl' s) ((ReportsAbove.putWords s _ ((bulk_le_cmdRing s).trans (Nat.le_add_right ..))).trans (.wr _ _ _ (by decide)))

/-- The words of a range that begins above the bulk area, at a multiple of 8, lie above it. -/
theorem windowWords_above {s : State} {a n w : Nat} (ha : windowBase + bulkEnd s ≤ a) (h8 : 8 ∣ a - windowBase)
    (hw : w ∈ windowWords a n) : bulkEnd s ≤ 8 * w := by
  unfold windowWords at hw
  split at hw
  · cases hw
  · obtain ⟨k, -, rfl⟩ := List.mem_map.1 hw
    omega

theorem slotRead_above (s : State) : ReportsAbove s (slotRead s) := by
  have hfreed : ReportsAbove s (slotFreed s) := .wr _ _ _ (by decide)
  refine hfreed.trans (eccThrough_above 8 _ _ fun _ w hw => ?_)
  rw [hfreed.only.bulkEnd]
  refine windowWords_above ((bulk_le_cmdRing s).trans (Nat.le_add_right ..)) ?_ hw
  simp only [cmdRingBase, windowBase]
  omega

end Sys2Proof.Machine
end

section
/-! PROOFS. What a refused write leaves, counts and captures (R336, R338). -/

namespace Sys2Proof.Machine

open Sys2Proof

set_option Elab.async false

/-! Counters under reporting. -/

@[simp] theorem bookWrite_obs (s : State) (kind w1 l d0 d1 count : Nat) : (bookWrite s kind w1 l d0 d1 count).obs = s.obs := rfl

@[simp] theorem bookEvent_obs (s : State) (e : Ev) : (bookEvent s e).obs = s.obs := by
  simp only [bookEvent]
  split
  · split <;> rfl
  · rfl

@[simp] theorem drainLost_obs (s : State) : (drainLost s).obs = s.obs := by
  unfold drainLost
  simp only
  split
  · rw [wr_obs, bookEvent_obs]
    rfl
  · rfl

/-- An event advances no counter. -/
@[simp] theorem raiseEvent_obs (s : State) (e : Ev) : (raiseEvent s e).obs = s.obs := by
  have hwritten : (eventWritten (drainLost s) e).obs = (drainLost s).obs := by
    unfold eventWritten
    split <;> rfl
  show (bookEvent (nextEvtSeq (eventWritten (drainLost s) e)) e).obs = s.obs
  rw [bookEvent_obs, ← drainLost_obs s, ← hwritten]
  rfl

/-- A counter's word without errors reads clean. -/
theorem counterFound_clean {s : State} {i : Nat} (hpoison : isPoisoned s 60 i = false) (herrs : wordErrs s 60 i = 0) :
    counterFound s i = .clean := by
  have hdecode : eccDecode 0 = .clean := by decide
  unfold counterFound
  rw [hpoison, herrs, hdecode, ite_self]
  rfl

/-- A counter whose word reads clean advances by n, modulo 2^48 (R288). -/
theorem counter_bump_clean {s : State} {i n : Nat} (h : counterFound s i = .clean) (hn : n ≠ 0) :
    counter (bump s i n) i = (counter s i + n) % 2 ^ 48 := by
  simp only [bump, hn, if_false, bumpBy, h, bumpRaw, counter, bankWritten_obs, aGet_aSet_same, Option.getD_some]

/-! Reports of management. -/

/-- From s to t what is reported of a bus error besides its count and capture: rates, events and signals. -/
structure Signals (s t : State) : Prop where
  eff : t.eff = s.eff
  bulk : BulkKept s t
  fld : ∀ k, k ∉ reportKeys → aGet t.fld k = aGet s.fld k
  obs : t.obs = s.obs

namespace Signals

variable {s t u : State}

theorem trans (h : Signals s t) (g : Signals t u) : Signals s u :=
  { eff := g.eff.trans h.eff
    bulk := h.bulk.trans g.bulk (bulkEnd_of_layout fun k hk => h.fld k (layoutKeys_not_report k hk))
    fld := fun k hk => (g.fld k hk).trans (h.fld k hk)
    obs := g.obs.trans h.obs }

theorem raiseEvent (s : State) (e : Ev) : Signals s (raiseEvent s e) :=
  ⟨(raiseEvent_above s e).only.eff, (raiseEvent_above s e).bulk, (raiseEvent_above s e).only.fld, raiseEvent_obs s e⟩

theorem withMgmt (s : State) (m : MgmtState) (h : m.window = s.mgmt.window) : Signals s { s with mgmt := m } :=
  ⟨rfl, .of_window h, fun _ _ => rfl, rfl⟩

theorem lockedWrite (s : State) (iface cause a : Nat) : Signals s (lockedWrite s iface cause a) := by
  have hrate := withMgmt s { s.mgmt with lockedRate := (rateStep s s.mgmt.lockedRate 1000).1 } rfl
  simp only [Machine.lockedWrite]
  split
  · exact hrate.trans (raiseEvent ..)
  · exact hrate

theorem busReport (s : State) (iface : Nat) (e : BusErrs) : Signals s (busReport s iface e) := by
  have hrate := withMgmt s { s.mgmt with busErrRate := (rateStep s s.mgmt.busErrRate 1000).1 } rfl
  simp only [Machine.busReport]
  split
  · exact ⟨rfl, .rfl' s, fun _ _ => rfl, rfl⟩
  · split
    · exact hrate.trans (raiseEvent ..)
    · exact hrate

theorem signalWrite (iface : Iface) (s : State) (cause : Option Nat) : Signals s (signalWrite iface s cause) := by
  cases iface
  · exact withMgmt s _ rfl
  · exact withMgmt s _ rfl
  · exact withMgmt s _ rfl

end Signals

/-- The error is captured where none is held (R338). -/
def captureTaken (s : State) (iface cause a : Nat) : State :=
  if rd s F.REGIF_ERR_INFO_VALID = 0 then errCapture s iface cause a else s

/-- A refused write counts, captures where nothing is held, and signals. -/
theorem refusedWrite_signals (iface : Iface) (s : State) (cause a : Nat) :
    Signals (captureTaken (bump s 0x750 1) iface.num cause a) (refusedWrite iface s cause a) := by
  have hlocked : Signals (captureTaken (bump s 0x750 1) iface.num cause a) (busError s iface.num cause a) := by
    simp only [busError]
    split
    · exact Signals.lockedWrite ..
    · exact ⟨rfl, .rfl' _, fun _ _ => rfl, rfl⟩
  exact (hlocked.trans (Signals.busReport ..)).trans (Signals.signalWrite ..)

theorem captureTaken_other (s : State) (iface cause a : Nat) {k : Nat} (h : ∀ f ∈ captureShown, k ≠ f.key 0 0) :
    aGet (captureTaken s iface cause a).fld k = aGet s.fld k := by
  simp only [captureShown, List.forall_mem_cons] at h
  obtain ⟨haddr, hcause, hiface, hvalid, -⟩ := h
  unfold captureTaken
  split
  · simp only [errCapture, wr]
    rw [aGet_fPut_other _ _ _ _ _ _ haddr, aGet_fPut_other _ _ _ _ _ _ hcause, aGet_fPut_other _ _ _ _ _ _ hiface,
      aGet_fPut_other _ _ _ _ _ _ hvalid]
  · rfl

theorem captureTaken_bulk (s : State) (iface cause a : Nat) : BulkKept s (captureTaken s iface cause a) := by
  unfold captureTaken
  split
  · exact .of_window rfl
  · exact .rfl' s

theorem captureTaken_eff_obs (s : State) (iface cause a : Nat) :
    (captureTaken s iface cause a).eff = s.eff ∧ (captureTaken s iface cause a).obs = s.obs := by
  unfold captureTaken
  split
  · exact ⟨rfl, rfl⟩
  · exact ⟨rfl, rfl⟩

/-- The fields of REGIF_ERR_INFO as a capture leaves them. -/
theorem errCapture_shows (s : State) (iface cause a : Nat) :
    rd (errCapture s iface cause a) F.REGIF_ERR_INFO_VALID = 1 ∧
      rd (errCapture s iface cause a) F.REGIF_ERR_INFO_CAUSE = cause % 16 ∧
      rd (errCapture s iface cause a) F.REGIF_ERR_INFO_ADDR = a % 2 ^ 24 ∧
      rd (errCapture s iface cause a) F.REGIF_ERR_INFO_INTERFACE = iface % 8 := by
  unfold errCapture
  refine ⟨?_, ?_, ?_, ?_⟩
  · rw [rd_wr_other _ _ _ _ _ _ _ _ (by decide), rd_wr_other _ _ _ _ _ _ _ _ (by decide),
      rd_wr_other _ _ _ _ _ _ _ _ (by decide), rd_wr_same]
    rfl
  · rw [rd_wr_other _ _ _ _ _ _ _ _ (by decide), rd_wr_same]
    rfl
  · rw [rd_wr_same]
    rfl
  · rw [rd_wr_other _ _ _ _ _ _ _ _ (by decide), rd_wr_other _ _ _ _ _ _ _ _ (by decide), rd_wr_same]
    rfl

theorem regRefusal_lt {s : State} {r : RegInfo} {i j d cause : Nat} (h : regRefusal s r i j d = some cause) : cause < 16 := by
  simp only [regRefusal] at h
  split_ifs at h <;> cases h <;> decide

/-- The causes of R336 fit the capture. -/
theorem writeRefusal_lt {s : State} {a d cause : Nat} (h : writeRefusal s a d = some cause) : cause < 16 := by
  unfold writeRefusal at h
  split at h
  · cases h
    decide
  · split_ifs at h
    cases h
    decide
  · split_ifs at h <;> cases h <;> decide
  · split_ifs at h
    · cases h
      decide
    · exact regRefusal_lt h

theorem captureShown_not_report : ∀ f ∈ captureShown, f.key 0 0 ∉ reportKeys := by decide

theorem layoutKeys_not_capture : ∀ k ∈ layoutKeys, ∀ f ∈ captureShown, k ≠ f.key 0 0 := by decide

theorem captureShown_hasKey : ∀ f ∈ captureShown, f.hasKey (f.key 0 0) = true := by decide +kernel

theorem ifaceNum_lt (iface : Iface) : iface.num < 8 := by cases iface <;> decide

/-- Settles O17: the count, the capture where nothing is held, and the signals are all that a refused write brings. -/
theorem refusedWriteChangesNothing : Obligations.RefusedWriteChangesNothing := by
  unfold Obligations.RefusedWriteChangesNothing
  intro s iface a d cause hup hcause
  refine ⟨_, exec_registerWrite_of_refused hup hcause, ?_⟩
  have hcount := bump_above s 0x750 1
  have hsig := refusedWrite_signals iface s cause a.toNat
  obtain ⟨heff, hobs⟩ := captureTaken_eff_obs (bump s 0x750 1) iface.num cause a.toNat
  have hvalid : rd (bump s 0x750 1) F.REGIF_ERR_INFO_VALID = rd s F.REGIF_ERR_INFO_VALID := hcount.only.rd _ _ _ (by decide)
  have hshown : ∀ f ∈ captureShown, rd (refusedWrite iface s cause a.toNat) f =
      rd (captureTaken (bump s 0x750 1) iface.num cause a.toNat) f := fun f hf =>
    rd_eq_of_aGet (hsig.fld _ (captureShown_not_report f hf))
  refine ⟨?eff, ?bulk, fun k hk hother => ?fields, fun hzero => ?captured, fun hone f hf => ?held, fun hpoison herrs => ?counted⟩
  case eff => exact hsig.eff.trans (heff.trans hcount.only.eff)
  case bulk =>
    have hcapture := captureTaken_bulk (bump s 0x750 1) iface.num cause a.toNat
    have hlayout : bulkEnd (captureTaken (bump s 0x750 1) iface.num cause a.toNat) = bulkEnd (bump s 0x750 1) :=
      bulkEnd_of_layout fun k hk => captureTaken_other _ _ _ _ fun f hf hkey => absurd hkey (layoutKeys_not_capture k hk f hf)
    exact hcount.bulk.trans (hcapture.trans hsig.bulk hlayout) hcount.only.bulkEnd
  case fields =>
    have hne : ∀ f ∈ captureShown, k ≠ f.key 0 0 := fun f hf hkey =>
      Bool.false_ne_true ((hother f hf).symm.trans (hkey ▸ captureShown_hasKey f hf))
    rw [hsig.fld k hk, captureTaken_other _ _ _ _ hne, hcount.only.fld k hk]
  case captured =>
    have hcapture : captureTaken (bump s 0x750 1) iface.num cause a.toNat = errCapture (bump s 0x750 1) iface.num cause a.toNat :=
      if_pos (hvalid.trans hzero)
    obtain ⟨hv, hc, ha, hi⟩ := errCapture_shows (bump s 0x750 1) iface.num cause a.toNat
    rw [← hcapture] at hv hc ha hi
    refine ⟨(hshown _ (by decide)).trans hv, ?_, ?_, ?_⟩
    · rw [hshown _ (by decide), hc, Nat.mod_eq_of_lt (writeRefusal_lt hcause)]
    · rw [hshown _ (by decide), ha, Nat.mod_eq_of_lt a.isLt]
    · rw [hshown _ (by decide), hi, Nat.mod_eq_of_lt (ifaceNum_lt iface)]
  case held =>
    have hcapture : captureTaken (bump s 0x750 1) iface.num cause a.toNat = bump s 0x750 1 :=
      if_neg (by rw [hvalid, hone]; decide)
    rw [hshown f hf, hcapture]
    exact hcount.only.rd _ _ _ (captureShown_not_report f hf)
  case counted =>
    rw [counter, hsig.obs, hobs]
    exact counter_bump_clean (counterFound_clean hpoison herrs) (by decide)

end Sys2Proof.Machine
end

section
/-! PROOFS. The scope of a change and the steps that stay within it. -/

namespace Sys2Proof.Machine

open Sys2Proof

set_option Elab.async false

/-! The state's pieces: what the lemmas on a change's scope tell apart, finer than the frames' parts. -/

/-- The pieces of clocks that a scope may hold apart. -/
inductive TimePiece where
  | hc | tick | estimated | sysPllLocked | crystalRuns | crystalOk | linePll | hostPll | tx | rx | paired | cues | held
  deriving DecidableEq

def TimePiece.same (x y : TimeState) : TimePiece → Prop
  | .hc => y.hc = x.hc
  | .tick => y.tick = x.tick
  | .estimated => y.estimated = x.estimated
  | .sysPllLocked => y.sysPllLocked = x.sysPllLocked
  | .crystalRuns => y.crystalRuns = x.crystalRuns
  | .crystalOk => y.crystalOk = x.crystalOk
  | .linePll => y.linePll = x.linePll
  | .hostPll => y.hostPll = x.hostPll
  | .tx => y.tx = x.tx
  | .rx => y.rx = x.rx
  | .paired => y.paired = x.paired
  | .cues => y.cues = x.cues
  | .held => y.held = x.held

/-- The pieces of observability that a scope may hold apart. -/
inductive ObsPiece where
  | hiLatch | banks | lastBank | seq | full | thrFrac | ber | buckets | contexts | replay | image | imageCopying | imageLocked
    | flowFull | shifts
  deriving DecidableEq

def ObsPiece.same (x y : ObsState) : ObsPiece → Prop
  | .hiLatch => y.hiLatch = x.hiLatch
  | .banks => y.banks = x.banks
  | .lastBank => y.lastBank = x.lastBank
  | .seq => y.seq = x.seq
  | .full => y.full = x.full
  | .thrFrac => y.thrFrac = x.thrFrac
  | .ber => y.ber = x.ber
  | .buckets => y.buckets = x.buckets
  | .contexts => y.contexts = x.contexts
  | .replay => y.replay = x.replay
  | .image => y.image = x.image
  | .imageCopying => y.imageCopying = x.imageCopying
  | .imageLocked => y.imageLocked = x.imageLocked
  | .flowFull => y.flowFull = x.flowFull
  | .shifts => y.shifts = x.shifts

/-- The pieces of the lanes that a scope may hold apart. -/
inductive LanesPiece where
  | lineFront | hostFront | lineEq | hostEq | lineRx | hostRx | tx | lineOut | hostOut | spot | lock | xa | xaStart | revertDue
    | gather | boundary
  deriving DecidableEq

def LanesPiece.same (x y : LaneState) : LanesPiece → Prop
  | .lineFront => y.lineFront = x.lineFront
  | .hostFront => y.hostFront = x.hostFront
  | .lineEq => y.lineEq = x.lineEq
  | .hostEq => y.hostEq = x.hostEq
  | .lineRx => y.lineRx = x.lineRx
  | .hostRx => y.hostRx = x.hostRx
  | .tx => y.tx = x.tx
  | .lineOut => y.lineOut = x.lineOut
  | .hostOut => y.hostOut = x.hostOut
  | .spot => y.spot = x.spot
  | .lock => y.lock = x.lock
  | .xa => y.xa = x.xa
  | .xaStart => y.xaStart = x.xaStart
  | .revertDue => y.revertDue = x.revertDue
  | .gather => y.gather = x.gather
  | .boundary => y.boundary = x.boundary

/-- The pieces of the data path that a scope may hold apart. -/
inductive PathPiece where
  | tx | rx | superRx | superTx | innerTx | lineAt | hostAt | next | testing | poolNow | poolLast | lineSwitch | hostSwitch
    | refChanged | lineSlip | hostSlip | txFollow | rxFollow | modeChange
  deriving DecidableEq

def PathPiece.same (x y : PathState) : PathPiece → Prop
  | .tx => y.tx = x.tx
  | .rx => y.rx = x.rx
  | .superRx => y.superRx = x.superRx
  | .superTx => y.superTx = x.superTx
  | .innerTx => y.innerTx = x.innerTx
  | .lineAt => y.lineAt = x.lineAt
  | .hostAt => y.hostAt = x.hostAt
  | .next => y.next = x.next
  | .testing => y.testing = x.testing
  | .poolNow => y.poolNow = x.poolNow
  | .poolLast => y.poolLast = x.poolLast
  | .lineSwitch => y.lineSwitch = x.lineSwitch
  | .hostSwitch => y.hostSwitch = x.hostSwitch
  | .refChanged => y.refChanged = x.refChanged
  | .lineSlip => y.lineSlip = x.lineSlip
  | .hostSlip => y.hostSlip = x.hostSlip
  | .txFollow => y.txFollow = x.txFollow
  | .rxFollow => y.rxFollow = x.rxFollow
  | .modeChange => y.modeChange = x.modeChange

/-- The pieces of the aside channel that a scope may hold apart. -/
inductive AsidePiece where
  | lanes | bufs | keys | agreeCount
  deriving DecidableEq

def AsidePiece.same (x y : AsideState) : AsidePiece → Prop
  | .lanes => y.lanes = x.lanes
  | .bufs => y.bufs = x.bufs
  | .keys => y.keys = x.keys
  | .agreeCount => y.agreeCount = x.agreeCount

/-- The pieces of control that a scope may hold apart. -/
inductive CtlPiece where
  | bdac | gens | sense | coefs | loops | tick | pendingCodes | levelSeq
  deriving DecidableEq

def CtlPiece.same (x y : CtlState) : CtlPiece → Prop
  | .bdac => y.bdac = x.bdac
  | .gens => y.gens = x.gens
  | .sense => y.sense = x.sense
  | .coefs => y.coefs = x.coefs
  | .loops => y.loops = x.loops
  | .tick => y.tick = x.tick
  | .pendingCodes => y.pendingCodes = x.pendingCodes
  | .levelSeq => y.levelSeq = x.levelSeq

/-- The pieces of calibration that a scope may hold apart. -/
inductive CalPiece where
  | run | lineLaps | hostLaps | skewNow | skewAgain | skewRepeated | skewLive | bdacQueue | senseQueue | bdacNow | senseNow
    | repeatBdac | repeatSense | deferred | fired | sets | inUse | targets | dtcTarget
  deriving DecidableEq

def CalPiece.same (x y : CalState) : CalPiece → Prop
  | .run => y.run = x.run
  | .lineLaps => y.lineLaps = x.lineLaps
  | .hostLaps => y.hostLaps = x.hostLaps
  | .skewNow => y.skewNow = x.skewNow
  | .skewAgain => y.skewAgain = x.skewAgain
  | .skewRepeated => y.skewRepeated = x.skewRepeated
  | .skewLive => y.skewLive = x.skewLive
  | .bdacQueue => y.bdacQueue = x.bdacQueue
  | .senseQueue => y.senseQueue = x.senseQueue
  | .bdacNow => y.bdacNow = x.bdacNow
  | .senseNow => y.senseNow = x.senseNow
  | .repeatBdac => y.repeatBdac = x.repeatBdac
  | .repeatSense => y.repeatSense = x.repeatSense
  | .deferred => y.deferred = x.deferred
  | .fired => y.fired = x.fired
  | .sets => y.sets = x.sets
  | .inUse => y.inUse = x.inUse
  | .targets => y.targets = x.targets
  | .dtcTarget => y.dtcTarget = x.dtcTarget

/-- The pieces of management that a scope may hold apart. -/
inductive MgmtPiece where
  | inProgress | engineHeld | restartCause | afterRestart | layoutSpent | straps | i2cNext | i2cOut | i2cAcks | spiOut | readOut
    | coreFault | cmisOut | cmisAcks | spiCrcErr | spiBusErr | cmisPage | cmisBank | cmisLog | cmisNext | cmisWritable
    | busErrRate | lockedRate | tmrLast | tmrSince
  deriving DecidableEq

def MgmtPiece.same (x y : MgmtState) : MgmtPiece → Prop
  | .inProgress => y.inProgress = x.inProgress
  | .engineHeld => y.engineHeld = x.engineHeld
  | .restartCause => y.restartCause = x.restartCause
  | .afterRestart => y.afterRestart = x.afterRestart
  | .layoutSpent => y.layoutSpent = x.layoutSpent
  | .straps => y.straps = x.straps
  | .i2cNext => y.i2cNext = x.i2cNext
  | .i2cOut => y.i2cOut = x.i2cOut
  | .i2cAcks => y.i2cAcks = x.i2cAcks
  | .spiOut => y.spiOut = x.spiOut
  | .readOut => y.readOut = x.readOut
  | .coreFault => y.coreFault = x.coreFault
  | .cmisOut => y.cmisOut = x.cmisOut
  | .cmisAcks => y.cmisAcks = x.cmisAcks
  | .spiCrcErr => y.spiCrcErr = x.spiCrcErr
  | .spiBusErr => y.spiBusErr = x.spiBusErr
  | .cmisPage => y.cmisPage = x.cmisPage
  | .cmisBank => y.cmisBank = x.cmisBank
  | .cmisLog => y.cmisLog = x.cmisLog
  | .cmisNext => y.cmisNext = x.cmisNext
  | .cmisWritable => y.cmisWritable = x.cmisWritable
  | .busErrRate => y.busErrRate = x.busErrRate
  | .lockedRate => y.lockedRate = x.lockedRate
  | .tmrLast => y.tmrLast = x.tmrLast
  | .tmrSince => y.tmrSince = x.tmrSince

/-- The pieces of the memories that a scope may hold apart. -/
inductive MemPiece where
  | parity | candidates | retrain
  deriving DecidableEq

def MemPiece.same (x y : MemState) : MemPiece → Prop
  | .parity => y.parity = x.parity
  | .candidates => y.candidates = x.candidates
  | .retrain => y.retrain = x.retrain

/-- The pieces of faults that a scope may hold apart. -/
inductive FaultsPiece where
  | watchdogAt | below | window | windowRail | windowMarked | clearSince
  deriving DecidableEq

def FaultsPiece.same (x y : FaultState) : FaultsPiece → Prop
  | .watchdogAt => y.watchdogAt = x.watchdogAt
  | .below => y.below = x.below
  | .window => y.window = x.window
  | .windowRail => y.windowRail = x.windowRail
  | .windowMarked => y.windowMarked = x.windowMarked
  | .clearSince => y.clearSince = x.clearSince

/-- The pieces of power that a scope may hold apart. -/
inductive PowerPiece where
  | mode | wakePin | latchedCfg | latchedTimer | rcHz | stored | timerDue | tripWait | dueReset | pwrEn | avsMisses | avsLastStep
    | coldComp | tripRun | warmPending | announce
  deriving DecidableEq

def PowerPiece.same (x y : PowerState) : PowerPiece → Prop
  | .mode => y.mode = x.mode
  | .wakePin => y.wakePin = x.wakePin
  | .latchedCfg => y.latchedCfg = x.latchedCfg
  | .latchedTimer => y.latchedTimer = x.latchedTimer
  | .rcHz => y.rcHz = x.rcHz
  | .stored => y.stored = x.stored
  | .timerDue => y.timerDue = x.timerDue
  | .tripWait => y.tripWait = x.tripWait
  | .dueReset => y.dueReset = x.dueReset
  | .pwrEn => y.pwrEn = x.pwrEn
  | .avsMisses => y.avsMisses = x.avsMisses
  | .avsLastStep => y.avsLastStep = x.avsLastStep
  | .coldComp => y.coldComp = x.coldComp
  | .tripRun => y.tripRun = x.tripRun
  | .warmPending => y.warmPending = x.warmPending
  | .announce => y.announce = x.announce

/-- The pieces of test that a scope may hold apart. -/
inductive TestPiece where
  | rehearsal | memTest | dress | fencedGroups | fencedBdac | fencedSense | jtagIr | jtagPins | results
  deriving DecidableEq

def TestPiece.same (x y : TestState) : TestPiece → Prop
  | .rehearsal => y.rehearsal = x.rehearsal
  | .memTest => y.memTest = x.memTest
  | .dress => y.dress = x.dress
  | .fencedGroups => y.fencedGroups = x.fencedGroups
  | .fencedBdac => y.fencedBdac = x.fencedBdac
  | .fencedSense => y.fencedSense = x.fencedSense
  | .jtagIr => y.jtagIr = x.jtagIr
  | .jtagPins => y.jtagPins = x.jtagPins
  | .results => y.results = x.results

/-- The pieces of security that a scope may hold apart. -/
inductive SecPiece where
  | otp | session | fieldDiag | challenge | locked | zeroized | pulse | lockClosed | images | boot | settings | cache | update
    | ops | running | recovery | format | activate | trialAt | reverted | migration | applyDue
  deriving DecidableEq

def SecPiece.same (x y : SecState) : SecPiece → Prop
  | .otp => y.otp = x.otp
  | .session => y.session = x.session
  | .fieldDiag => y.fieldDiag = x.fieldDiag
  | .challenge => y.challenge = x.challenge
  | .locked => y.locked = x.locked
  | .zeroized => y.zeroized = x.zeroized
  | .pulse => y.pulse = x.pulse
  | .lockClosed => y.lockClosed = x.lockClosed
  | .images => y.images = x.images
  | .boot => y.boot = x.boot
  | .settings => y.settings = x.settings
  | .cache => y.cache = x.cache
  | .update => y.update = x.update
  | .ops => y.ops = x.ops
  | .running => y.running = x.running
  | .recovery => y.recovery = x.recovery
  | .format => y.format = x.format
  | .activate => y.activate = x.activate
  | .trialAt => y.trialAt = x.trialAt
  | .reverted => y.reverted = x.reverted
  | .migration => y.migration = x.migration
  | .applyDue => y.applyDue = x.applyDue

/-- A piece of the state, finer than a frame's parts. -/
inductive Piece where
  | eff
  | time (q : TimePiece)
  | obs (q : ObsPiece)
  | lanes (q : LanesPiece)
  | link
  | path (q : PathPiece)
  | aside (q : AsidePiece)
  | ctl (q : CtlPiece)
  | cal (q : CalPiece)
  | mgmt (q : MgmtPiece)
  | mem (q : MemPiece)
  | faults (q : FaultsPiece)
  | power (q : PowerPiece)
  | test (q : TestPiece)
  | sec (q : SecPiece)
  | free
  deriving DecidableEq

/-- The frame's part that the piece belongs to. -/
def Piece.part : Piece → Part
  | .eff => .eff
  | .time _ => .time
  | .obs _ => .obs
  | .lanes _ => .lanes
  | .link => .link
  | .path _ => .path
  | .aside _ => .aside
  | .ctl _ => .ctl
  | .cal _ => .cal
  | .mgmt _ => .mgmt
  | .mem _ => .mem
  | .faults _ => .faults
  | .power _ => .power
  | .test _ => .test
  | .sec _ => .sec
  | .free => .free

def Piece.same (s t : State) : Piece → Prop
  | .eff => t.eff = s.eff
  | .time q => q.same s.time t.time
  | .obs q => q.same s.obs t.obs
  | .lanes q => q.same s.lanes t.lanes
  | .link => t.link = s.link
  | .path q => q.same s.path t.path
  | .aside q => q.same s.aside t.aside
  | .ctl q => q.same s.ctl t.ctl
  | .cal q => q.same s.cal t.cal
  | .mgmt q => q.same s.mgmt t.mgmt
  | .mem q => q.same s.mem t.mem
  | .faults q => q.same s.faults t.faults
  | .power q => q.same s.power t.power
  | .test q => q.same s.test t.test
  | .sec q => q.same s.sec t.sec
  | .free => t.freeCount = s.freeCount

/-- All pieces of a part. -/
def Part.pieces : Part → List Piece
  | .eff => [.eff]
  | .time =>
    [.time .hc, .time .tick, .time .estimated, .time .sysPllLocked, .time .crystalRuns, .time .crystalOk, .time .linePll,
      .time .hostPll, .time .tx, .time .rx, .time .paired, .time .cues, .time .held]
  | .obs =>
    [.obs .hiLatch, .obs .banks, .obs .lastBank, .obs .seq, .obs .full, .obs .thrFrac, .obs .ber, .obs .buckets, .obs .contexts,
      .obs .replay, .obs .image, .obs .imageCopying, .obs .imageLocked, .obs .flowFull, .obs .shifts]
  | .lanes =>
    [.lanes .lineFront, .lanes .hostFront, .lanes .lineEq, .lanes .hostEq, .lanes .lineRx, .lanes .hostRx, .lanes .tx,
      .lanes .lineOut, .lanes .hostOut, .lanes .spot, .lanes .lock, .lanes .xa, .lanes .xaStart, .lanes .revertDue,
      .lanes .gather, .lanes .boundary]
  | .link => [.link]
  | .path =>
    [.path .tx, .path .rx, .path .superRx, .path .superTx, .path .innerTx, .path .lineAt, .path .hostAt, .path .next,
      .path .testing, .path .poolNow, .path .poolLast, .path .lineSwitch, .path .hostSwitch, .path .refChanged, .path .lineSlip,
      .path .hostSlip, .path .txFollow, .path .rxFollow, .path .modeChange]
  | .aside =>
    [.aside .lanes, .aside .bufs, .aside .keys, .aside .agreeCount]
  | .ctl =>
    [.ctl .bdac, .ctl .gens, .ctl .sense, .ctl .coefs, .ctl .loops, .ctl .tick, .ctl .pendingCodes, .ctl .levelSeq]
  | .cal =>
    [.cal .run, .cal .lineLaps, .cal .hostLaps, .cal .skewNow, .cal .skewAgain, .cal .skewRepeated, .cal .skewLive,
      .cal .bdacQueue, .cal .senseQueue, .cal .bdacNow, .cal .senseNow, .cal .repeatBdac, .cal .repeatSense, .cal .deferred,
      .cal .fired, .cal .sets, .cal .inUse, .cal .targets, .cal .dtcTarget]
  | .mgmt =>
    [.mgmt .inProgress, .mgmt .engineHeld, .mgmt .restartCause, .mgmt .afterRestart, .mgmt .layoutSpent, .mgmt .straps,
      .mgmt .i2cNext, .mgmt .i2cOut, .mgmt .i2cAcks, .mgmt .spiOut, .mgmt .readOut, .mgmt .coreFault, .mgmt .cmisOut,
      .mgmt .cmisAcks, .mgmt .spiCrcErr, .mgmt .spiBusErr, .mgmt .cmisPage, .mgmt .cmisBank, .mgmt .cmisLog, .mgmt .cmisNext,
      .mgmt .cmisWritable, .mgmt .busErrRate, .mgmt .lockedRate, .mgmt .tmrLast, .mgmt .tmrSince]
  | .mem =>
    [.mem .parity, .mem .candidates, .mem .retrain]
  | .faults =>
    [.faults .watchdogAt, .faults .below, .faults .window, .faults .windowRail, .faults .windowMarked, .faults .clearSince]
  | .power =>
    [.power .mode, .power .wakePin, .power .latchedCfg, .power .latchedTimer, .power .rcHz, .power .stored, .power .timerDue,
      .power .tripWait, .power .dueReset, .power .pwrEn, .power .avsMisses, .power .avsLastStep, .power .coldComp,
      .power .tripRun, .power .warmPending, .power .announce]
  | .test =>
    [.test .rehearsal, .test .memTest, .test .dress, .test .fencedGroups, .test .fencedBdac, .test .fencedSense, .test .jtagIr,
      .test .jtagPins, .test .results]
  | .sec =>
    [.sec .otp, .sec .session, .sec .fieldDiag, .sec .challenge, .sec .locked, .sec .zeroized, .sec .pulse, .sec .lockClosed,
      .sec .images, .sec .boot, .sec .settings, .sec .cache, .sec .update, .sec .ops, .sec .running, .sec .recovery,
      .sec .format, .sec .activate, .sec .trialAt, .sec .reverted, .sec .migration, .sec .applyDue]
  | .free => [.free]

theorem Piece.mem_pieces (q : Piece) : q ∈ q.part.pieces := by
  rcases q with _ | q | q | q | _ | q | q | q | q | q | q | q | q | q | q | _
  case eff | link | free => exact List.mem_singleton_self _
  all_goals cases q <;> decide

theorem TimePiece.same_rfl (x : TimeState) (q : TimePiece) : q.same x x := by cases q <;> rfl

theorem TimePiece.same_trans {x y z : TimeState} {q : TimePiece} (h : q.same x y) (g : q.same y z) : q.same x z := by
  cases q <;> exact Eq.trans g h

theorem TimePiece.same_of_eq {x y : TimeState} (h : y = x) (q : TimePiece) : q.same x y := h ▸ q.same_rfl x

theorem TimePiece.eq_of_same {x y : TimeState} (h : ∀ q : TimePiece, q.same x y) : y = x := by
  cases x
  cases y
  exact TimeState.mk.injEq .. ▸ ⟨h .hc, h .tick, h .estimated, h .sysPllLocked, h .crystalRuns, h .crystalOk, h .linePll,
      h .hostPll, h .tx, h .rx, h .paired, h .cues, h .held⟩

theorem ObsPiece.same_rfl (x : ObsState) (q : ObsPiece) : q.same x x := by cases q <;> rfl

theorem ObsPiece.same_trans {x y z : ObsState} {q : ObsPiece} (h : q.same x y) (g : q.same y z) : q.same x z := by
  cases q <;> exact Eq.trans g h

theorem ObsPiece.still_of_same {x y : ObsState} (h : ∀ q : ObsPiece, q.same x y) : y.still = x.still := by
  cases x
  cases y
  exact ObsState.mk.injEq .. ▸ ⟨rfl, h .hiLatch, rfl, h .banks, h .lastBank, h .seq, h .full, rfl, h .thrFrac, h .ber,
      h .buckets, h .contexts, h .replay, h .image, h .imageCopying, h .imageLocked, h .flowFull, h .shifts⟩

theorem ObsPiece.same_of_still {x y : ObsState} (h : y.still = x.still) (q : ObsPiece) : q.same x y := by
  cases q
  exacts [congrArg (·.hiLatch) h, congrArg (·.banks) h, congrArg (·.lastBank) h, congrArg (·.seq) h, congrArg (·.full) h,
      congrArg (·.thrFrac) h, congrArg (·.ber) h, congrArg (·.buckets) h, congrArg (·.contexts) h, congrArg (·.replay) h,
      congrArg (·.image) h, congrArg (·.imageCopying) h, congrArg (·.imageLocked) h, congrArg (·.flowFull) h, congrArg (·.shifts)
      h]

theorem LanesPiece.same_rfl (x : LaneState) (q : LanesPiece) : q.same x x := by cases q <;> rfl

theorem LanesPiece.same_trans {x y z : LaneState} {q : LanesPiece} (h : q.same x y) (g : q.same y z) : q.same x z := by
  cases q <;> exact Eq.trans g h

theorem LanesPiece.same_of_eq {x y : LaneState} (h : y = x) (q : LanesPiece) : q.same x y := h ▸ q.same_rfl x

theorem LanesPiece.eq_of_same {x y : LaneState} (h : ∀ q : LanesPiece, q.same x y) : y = x := by
  cases x
  cases y
  exact LaneState.mk.injEq .. ▸ ⟨h .lineFront, h .hostFront, h .lineEq, h .hostEq, h .lineRx, h .hostRx, h .tx, h .lineOut,
      h .hostOut, h .spot, h .lock, h .xa, h .xaStart, h .revertDue, h .gather, h .boundary⟩

theorem PathPiece.same_rfl (x : PathState) (q : PathPiece) : q.same x x := by cases q <;> rfl

theorem PathPiece.same_trans {x y z : PathState} {q : PathPiece} (h : q.same x y) (g : q.same y z) : q.same x z := by
  cases q <;> exact Eq.trans g h

theorem PathPiece.same_of_eq {x y : PathState} (h : y = x) (q : PathPiece) : q.same x y := h ▸ q.same_rfl x

theorem PathPiece.eq_of_same {x y : PathState} (h : ∀ q : PathPiece, q.same x y) : y = x := by
  cases x
  cases y
  exact PathState.mk.injEq .. ▸ ⟨h .tx, h .rx, h .superRx, h .superTx, h .innerTx, h .lineAt, h .hostAt, h .next, h .testing,
      h .poolNow, h .poolLast, h .lineSwitch, h .hostSwitch, h .refChanged, h .lineSlip, h .hostSlip, h .txFollow, h .rxFollow,
      h .modeChange⟩

theorem AsidePiece.same_rfl (x : AsideState) (q : AsidePiece) : q.same x x := by cases q <;> rfl

theorem AsidePiece.same_trans {x y z : AsideState} {q : AsidePiece} (h : q.same x y) (g : q.same y z) : q.same x z := by
  cases q <;> exact Eq.trans g h

theorem AsidePiece.same_of_eq {x y : AsideState} (h : y = x) (q : AsidePiece) : q.same x y := h ▸ q.same_rfl x

theorem AsidePiece.eq_of_same {x y : AsideState} (h : ∀ q : AsidePiece, q.same x y) : y = x := by
  cases x
  cases y
  exact AsideState.mk.injEq .. ▸ ⟨h .lanes, h .bufs, h .keys, h .agreeCount⟩

theorem CtlPiece.same_rfl (x : CtlState) (q : CtlPiece) : q.same x x := by cases q <;> rfl

theorem CtlPiece.same_trans {x y z : CtlState} {q : CtlPiece} (h : q.same x y) (g : q.same y z) : q.same x z := by
  cases q <;> exact Eq.trans g h

theorem CtlPiece.same_of_eq {x y : CtlState} (h : y = x) (q : CtlPiece) : q.same x y := h ▸ q.same_rfl x

theorem CtlPiece.eq_of_same {x y : CtlState} (h : ∀ q : CtlPiece, q.same x y) : y = x := by
  cases x
  cases y
  exact CtlState.mk.injEq .. ▸ ⟨h .bdac, h .gens, h .sense, h .coefs, h .loops, h .tick, h .pendingCodes, h .levelSeq⟩

theorem CalPiece.same_rfl (x : CalState) (q : CalPiece) : q.same x x := by cases q <;> rfl

theorem CalPiece.same_trans {x y z : CalState} {q : CalPiece} (h : q.same x y) (g : q.same y z) : q.same x z := by
  cases q <;> exact Eq.trans g h

theorem CalPiece.same_of_eq {x y : CalState} (h : y = x) (q : CalPiece) : q.same x y := h ▸ q.same_rfl x

theorem CalPiece.eq_of_same {x y : CalState} (h : ∀ q : CalPiece, q.same x y) : y = x := by
  cases x
  cases y
  exact CalState.mk.injEq .. ▸ ⟨h .run, h .lineLaps, h .hostLaps, h .skewNow, h .skewAgain, h .skewRepeated, h .skewLive,
      h .bdacQueue, h .senseQueue, h .bdacNow, h .senseNow, h .repeatBdac, h .repeatSense, h .deferred, h .fired, h .sets,
      h .inUse, h .targets, h .dtcTarget⟩

theorem MgmtPiece.same_rfl (x : MgmtState) (q : MgmtPiece) : q.same x x := by cases q <;> rfl

theorem MgmtPiece.same_trans {x y z : MgmtState} {q : MgmtPiece} (h : q.same x y) (g : q.same y z) : q.same x z := by
  cases q <;> exact Eq.trans g h

theorem MgmtPiece.still_of_same {x y : MgmtState} (h : ∀ q : MgmtPiece, q.same x y) : y.still = x.still := by
  cases x
  cases y
  exact MgmtState.mk.injEq .. ▸ ⟨rfl, h .inProgress, rfl, rfl, h .engineHeld, h .restartCause, h .afterRestart, h .layoutSpent,
      h .straps, h .i2cNext, h .i2cOut, h .i2cAcks, h .spiOut, h .readOut, h .coreFault, h .cmisOut, h .cmisAcks, h .spiCrcErr,
      h .spiBusErr, h .cmisPage, h .cmisBank, h .cmisLog, h .cmisNext, h .cmisWritable, h .busErrRate, h .lockedRate, h .tmrLast,
      h .tmrSince⟩

theorem MgmtPiece.same_of_still {x y : MgmtState} (h : y.still = x.still) (q : MgmtPiece) : q.same x y := by
  cases q
  exacts [congrArg (·.inProgress) h, congrArg (·.engineHeld) h, congrArg (·.restartCause) h, congrArg (·.afterRestart) h,
      congrArg (·.layoutSpent) h, congrArg (·.straps) h, congrArg (·.i2cNext) h, congrArg (·.i2cOut) h, congrArg (·.i2cAcks) h,
      congrArg (·.spiOut) h, congrArg (·.readOut) h, congrArg (·.coreFault) h, congrArg (·.cmisOut) h, congrArg (·.cmisAcks) h,
      congrArg (·.spiCrcErr) h, congrArg (·.spiBusErr) h, congrArg (·.cmisPage) h, congrArg (·.cmisBank) h, congrArg (·.cmisLog)
      h, congrArg (·.cmisNext) h, congrArg (·.cmisWritable) h, congrArg (·.busErrRate) h, congrArg (·.lockedRate) h, congrArg
      (·.tmrLast) h, congrArg (·.tmrSince) h]

theorem MemPiece.same_rfl (x : MemState) (q : MemPiece) : q.same x x := by cases q <;> rfl

theorem MemPiece.same_trans {x y z : MemState} {q : MemPiece} (h : q.same x y) (g : q.same y z) : q.same x z := by
  cases q <;> exact Eq.trans g h

theorem MemPiece.still_of_same {x y : MemState} (h : ∀ q : MemPiece, q.same x y) : y.still = x.still := by
  cases x
  cases y
  exact MemState.mk.injEq .. ▸ ⟨rfl, h .parity, h .candidates, h .retrain⟩

theorem MemPiece.same_of_still {x y : MemState} (h : y.still = x.still) (q : MemPiece) : q.same x y := by
  cases q
  exacts [congrArg (·.parity) h, congrArg (·.candidates) h, congrArg (·.retrain) h]

theorem FaultsPiece.same_rfl (x : FaultState) (q : FaultsPiece) : q.same x x := by cases q <;> rfl

theorem FaultsPiece.same_trans {x y z : FaultState} {q : FaultsPiece} (h : q.same x y) (g : q.same y z) : q.same x z := by
  cases q <;> exact Eq.trans g h

theorem FaultsPiece.same_of_eq {x y : FaultState} (h : y = x) (q : FaultsPiece) : q.same x y := h ▸ q.same_rfl x

theorem FaultsPiece.eq_of_same {x y : FaultState} (h : ∀ q : FaultsPiece, q.same x y) : y = x := by
  cases x
  cases y
  exact FaultState.mk.injEq .. ▸ ⟨h .watchdogAt, h .below, h .window, h .windowRail, h .windowMarked, h .clearSince⟩

theorem PowerPiece.same_rfl (x : PowerState) (q : PowerPiece) : q.same x x := by cases q <;> rfl

theorem PowerPiece.same_trans {x y z : PowerState} {q : PowerPiece} (h : q.same x y) (g : q.same y z) : q.same x z := by
  cases q <;> exact Eq.trans g h

theorem PowerPiece.same_of_eq {x y : PowerState} (h : y = x) (q : PowerPiece) : q.same x y := h ▸ q.same_rfl x

theorem PowerPiece.eq_of_same {x y : PowerState} (h : ∀ q : PowerPiece, q.same x y) : y = x := by
  cases x
  cases y
  exact PowerState.mk.injEq .. ▸ ⟨h .mode, h .wakePin, h .latchedCfg, h .latchedTimer, h .rcHz, h .stored, h .timerDue,
      h .tripWait, h .dueReset, h .pwrEn, h .avsMisses, h .avsLastStep, h .coldComp, h .tripRun, h .warmPending, h .announce⟩

theorem TestPiece.same_rfl (x : TestState) (q : TestPiece) : q.same x x := by cases q <;> rfl

theorem TestPiece.same_trans {x y z : TestState} {q : TestPiece} (h : q.same x y) (g : q.same y z) : q.same x z := by
  cases q <;> exact Eq.trans g h

theorem TestPiece.same_of_eq {x y : TestState} (h : y = x) (q : TestPiece) : q.same x y := h ▸ q.same_rfl x

theorem TestPiece.eq_of_same {x y : TestState} (h : ∀ q : TestPiece, q.same x y) : y = x := by
  cases x
  cases y
  exact TestState.mk.injEq .. ▸ ⟨h .rehearsal, h .memTest, h .dress, h .fencedGroups, h .fencedBdac, h .fencedSense, h .jtagIr,
      h .jtagPins, h .results⟩

theorem SecPiece.same_rfl (x : SecState) (q : SecPiece) : q.same x x := by cases q <;> rfl

theorem SecPiece.same_trans {x y z : SecState} {q : SecPiece} (h : q.same x y) (g : q.same y z) : q.same x z := by
  cases q <;> exact Eq.trans g h

theorem SecPiece.same_of_eq {x y : SecState} (h : y = x) (q : SecPiece) : q.same x y := h ▸ q.same_rfl x

theorem SecPiece.eq_of_same {x y : SecState} (h : ∀ q : SecPiece, q.same x y) : y = x := by
  cases x
  cases y
  exact SecState.mk.injEq .. ▸ ⟨h .otp, h .session, h .fieldDiag, h .challenge, h .locked, h .zeroized, h .pulse, h .lockClosed,
      h .images, h .boot, h .settings, h .cache, h .update, h .ops, h .running, h .recovery, h .format, h .activate, h .trialAt,
      h .reverted, h .migration, h .applyDue⟩

theorem Piece.same_rfl (s : State) (q : Piece) : q.same s s := by
  cases q
  exacts [rfl, TimePiece.same_rfl .., ObsPiece.same_rfl .., LanesPiece.same_rfl .., rfl, PathPiece.same_rfl ..,
      AsidePiece.same_rfl .., CtlPiece.same_rfl .., CalPiece.same_rfl .., MgmtPiece.same_rfl .., MemPiece.same_rfl ..,
      FaultsPiece.same_rfl .., PowerPiece.same_rfl .., TestPiece.same_rfl .., SecPiece.same_rfl .., rfl]

theorem Piece.same_trans {s t u : State} (q : Piece) (h : q.same s t) (g : q.same t u) : q.same s u := by
  cases q
  exacts [Eq.trans g h, TimePiece.same_trans h g, ObsPiece.same_trans h g, LanesPiece.same_trans h g, Eq.trans g h,
      PathPiece.same_trans h g, AsidePiece.same_trans h g, CtlPiece.same_trans h g, CalPiece.same_trans h g, MgmtPiece.same_trans
      h g, MemPiece.same_trans h g, FaultsPiece.same_trans h g, PowerPiece.same_trans h g, TestPiece.same_trans h g,
      SecPiece.same_trans h g, Eq.trans g h]

/-- A part stays where its pieces do. -/
theorem Part.same_of_pieces {s t : State} {p : Part} (h : ∀ q : Piece, q.part = p → q.same s t) : p.same s t := by
  cases p
  exacts [h .eff rfl, TimePiece.eq_of_same fun q => h (.time q) rfl, ObsPiece.still_of_same fun q => h (.obs q) rfl,
      LanesPiece.eq_of_same fun q => h (.lanes q) rfl, h .link rfl, PathPiece.eq_of_same fun q => h (.path q) rfl,
      AsidePiece.eq_of_same fun q => h (.aside q) rfl, CtlPiece.eq_of_same fun q => h (.ctl q) rfl, CalPiece.eq_of_same fun q =>
      h (.cal q) rfl, MgmtPiece.still_of_same fun q => h (.mgmt q) rfl, MemPiece.still_of_same fun q => h (.mem q) rfl,
      FaultsPiece.eq_of_same fun q => h (.faults q) rfl, PowerPiece.eq_of_same fun q => h (.power q) rfl, TestPiece.eq_of_same
      fun q => h (.test q) rfl, SecPiece.eq_of_same fun q => h (.sec q) rfl, h .free rfl]

theorem Piece.same_of_part {s t : State} (q : Piece) (h : q.part.same s t) : q.same s t := by
  rcases q with _ | q | q | q | _ | q | q | q | q | q | q | q | q | q | q | _
  exacts [h, TimePiece.same_of_eq h q, ObsPiece.same_of_still h q, LanesPiece.same_of_eq h q, h, PathPiece.same_of_eq h q,
      AsidePiece.same_of_eq h q, CtlPiece.same_of_eq h q, CalPiece.same_of_eq h q, MgmtPiece.same_of_still h q,
      MemPiece.same_of_still h q, FaultsPiece.same_of_eq h q, PowerPiece.same_of_eq h q, TestPiece.same_of_eq h q,
      SecPiece.same_of_eq h q, h]

/-- What may change beside what reporting writes: pieces of the state, register fields by their keys, and whether the bulk area
may; where it may not, the rings' layout stays too. -/
structure Scope where
  parts : Piece → Prop
  keys : Nat → Prop
  bulk : Prop
  layout : ∀ k ∈ layoutKeys, keys k → bulk

/-- The scope has these pieces. -/
def Scope.Allows (R : Scope) (ps : List Piece) : Prop := ∀ p ∈ ps, R.parts p

/-- The scope has these fields at first index i. -/
def Scope.OpenAt (R : Scope) (fs : List Field) (i : Nat) : Prop :=
  ∀ f ∈ fs, ∀ j, j = 0 ∨ j < f.place.count2 → R.keys (f.key i j)

/-- The scope has these fields at every first index below n. -/
def Scope.Opens (R : Scope) (fs : List Field) (n : Nat) : Prop := ∀ i < n, R.OpenAt fs i

/-- From s to t nothing changes outside the scope but what reporting writes; the queue stays, the window keeps its form, and fuses are
only burned. -/
structure Within (R : Scope) (s t : State) : Prop where
  piece : ∀ q, ¬R.parts q → q.same s t
  fld : ∀ k, k ∉ reportKeys → ¬R.keys k → aGet t.fld k = aGet s.fld k
  pending : t.pending = s.pending
  window : WindowWf s → WindowWf t
  fuses : FusesKept s.sec.otp t.sec.otp
  bulk : ¬R.bulk → BulkKept s t

section Scopes

variable {R : Scope} {ps qs : List Piece} {fs gs : List Field} {i n m : Nat}

theorem Scope.Allows.mono (h : R.Allows ps) (hs : qs.isSublist ps = true := by decide +kernel) : R.Allows qs :=
  fun p hp => h p ((List.isSublist_iff_sublist.1 hs).subset hp)

theorem Scope.OpenAt.mono (h : R.OpenAt fs i) (hs : ∀ f ∈ gs, f ∈ fs) : R.OpenAt gs i := fun f hf => h f (hs f hf)

theorem Scope.Opens.mono (h : R.Opens fs n) (hs : ∀ f ∈ gs, f ∈ fs) : R.Opens gs n := fun i hi => (h i hi).mono hs

theorem Scope.Opens.at (h : R.Opens fs n) (hi : i < n) (hs : ∀ f ∈ gs, f ∈ fs) : R.OpenAt gs i := (h i hi).mono hs

end Scopes

/-! Wide scopes: for the commands whose frame names no register fields (R336's fields all open), the rings' layout aside. -/

/-- None of the field's keys is one of the layout's. -/
abbrev Field.OffLayout (f : Field) : Prop :=
  Regs.RING_LAYOUT.base < f.place.base ∨ f.place.stride1 = 0 ∧ f.place.stride2 = 0 ∧ f.key 0 0 ∉ layoutKeys

/-- The scope has every field, but the layout's only with the bulk area. -/
def Scope.Wide (R : Scope) : Prop := ∀ k, (k ∈ layoutKeys → R.bulk) → R.keys k

/-- The scope has everything. -/
structure Scope.Full (R : Scope) : Prop where
  parts : ∀ p, R.parts p
  keys : ∀ k, R.keys k
  bulk : R.bulk

theorem layoutKeys_range : ∀ k ∈ layoutKeys, k < (Regs.RING_LAYOUT.base + 1) * 32 := by decide

theorem Field.OffLayout.key {f : Field} (h : f.OffLayout) (i j : Nat) : f.key i j ∉ layoutKeys := by
  rcases h with hbase | ⟨hi, hj, hkey⟩
  · intro hmem
    have hrange := layoutKeys_range _ hmem
    have hle : f.place.base ≤ f.place.base + i * f.place.stride1 + j * f.place.stride2 := by omega
    have := Nat.mul_le_mul_right 32 (hbase.trans_le hle)
    simp only [Field.key] at hrange
    omega
  · have hsame : f.key i j = f.key 0 0 := by simp only [Field.key, hi, hj, Nat.mul_zero]
    rwa [hsame]

section WideScopes

variable {R : Scope} {fs : List Field} {i n : Nat}

theorem Scope.Wide.openAt (hw : R.Wide) (hf : ∀ f ∈ fs, f.OffLayout := by decide) : R.OpenAt fs i :=
  fun f hm j _ => hw _ fun hk => absurd hk ((hf f hm).key i j)

theorem Scope.Wide.opens (hw : R.Wide) (hf : ∀ f ∈ fs, f.OffLayout := by decide) : R.Opens fs n := fun _ _ => hw.openAt hf

theorem Scope.Wide.any (hw : R.Wide) (hf : ∀ f ∈ fs, f.OffLayout := by decide) : ∀ i, R.OpenAt fs i := fun _ => hw.openAt hf

theorem Scope.Wide.cal (hw : R.Wide) : ∀ i, R.OpenAt calShown i := hw.any

theorem Scope.Full.wide (hR : R.Full) : R.Wide := fun k _ => hR.keys k

theorem Scope.Full.allows {ps : List Piece} (hR : R.Full) : R.Allows ps := fun p _ => hR.parts p

end WideScopes

theorem OnlyReports.same {s t : State} (h : OnlyReports s t) (p : Part) : p.same s t := by
  cases p
  exacts [h.eff, h.time, h.obs, h.lanes, h.link, h.path, h.aside, h.ctl, h.cal, h.mgmt, h.mem, h.faults, h.power, h.test, h.sec,
    h.freeCount]

namespace Within

variable {R : Scope} {s t u : State}

theorem rfl' (R : Scope) (s : State) : Within R s s :=
  ⟨fun q _ => q.same_rfl s, fun _ _ _ => rfl, rfl, id, .rfl' _, fun _ => .rfl' s⟩

theorem layoutKept (h : Within R s t) (hb : ¬R.bulk) : ∀ k ∈ layoutKeys, aGet t.fld k = aGet s.fld k :=
  fun k hk => h.fld k (layoutKeys_not_report k hk) fun hkeys => hb (R.layout k hk hkeys)

theorem trans (h : Within R s t) (g : Within R t u) : Within R s u :=
  { piece := fun q hq => q.same_trans (h.piece q hq) (g.piece q hq)
    fld := fun k hk hR => (g.fld k hk hR).trans (h.fld k hk hR)
    pending := g.pending.trans h.pending
    window := g.window ∘ h.window
    fuses := h.fuses.trans g.fuses
    bulk := fun hb => (h.bulk hb).trans (g.bulk hb) (bulkEnd_of_layout (h.layoutKept hb)) }

/-- Reporting outside the bulk area stays within every scope. -/
theorem reports (h : Within R s t) (g : ReportsAbove t u) : Within R s u :=
  h.trans
    { piece := fun q _ => q.same_of_part (g.only.same q.part)
      fld := fun k hk _ => g.only.fld k hk
      pending := g.only.pending
      window := g.only.window
      fuses := g.only.sec ▸ .rfl' _
      bulk := fun _ => g.bulk }

/-- Reporting stays within a scope that has the bulk area. -/
theorem reportsBulk (h : Within R s t) (hb : R.bulk) (g : OnlyReports t u) : Within R s u :=
  h.trans
    { piece := fun q _ => q.same_of_part (g.same q.part)
      fld := fun k hk _ => g.fld k hk
      pending := g.pending
      window := g.window
      fuses := g.sec ▸ .rfl' _
      bulk := fun hn => absurd hb hn }

/-- A part stays where the scope has none of its pieces. -/
theorem part {p : Part} (h : Within R s t) (hp : ∀ q, q.part = p → ¬R.parts q) : p.same s t :=
  Part.same_of_pieces fun q hq => h.piece q (hp q hq)

/-- A change of the scope's pieces, part by part, which leaves registers, queue and window. -/
theorem alter {ps : List Piece} (h : Within R s t) (hp : R.Allows ps)
    (heff : .eff ∈ ps ∨ u.eff = t.eff := by exact .inr rfl)
    (htime : ∀ q : TimePiece, .time q ∈ ps ∨ q.same t.time u.time := by exact fun q => .inr (q.same_rfl _))
    (hobs : ∀ q : ObsPiece, .obs q ∈ ps ∨ q.same t.obs u.obs := by exact fun q => .inr (q.same_rfl _))
    (hlanes : ∀ q : LanesPiece, .lanes q ∈ ps ∨ q.same t.lanes u.lanes := by exact fun q => .inr (q.same_rfl _))
    (hlink : .link ∈ ps ∨ u.link = t.link := by exact .inr rfl)
    (hpath : ∀ q : PathPiece, .path q ∈ ps ∨ q.same t.path u.path := by exact fun q => .inr (q.same_rfl _))
    (haside : ∀ q : AsidePiece, .aside q ∈ ps ∨ q.same t.aside u.aside := by exact fun q => .inr (q.same_rfl _))
    (hctl : ∀ q : CtlPiece, .ctl q ∈ ps ∨ q.same t.ctl u.ctl := by exact fun q => .inr (q.same_rfl _))
    (hcal : ∀ q : CalPiece, .cal q ∈ ps ∨ q.same t.cal u.cal := by exact fun q => .inr (q.same_rfl _))
    (hmgmt : ∀ q : MgmtPiece, .mgmt q ∈ ps ∨ q.same t.mgmt u.mgmt := by exact fun q => .inr (q.same_rfl _))
    (hmem : ∀ q : MemPiece, .mem q ∈ ps ∨ q.same t.mem u.mem := by exact fun q => .inr (q.same_rfl _))
    (hfaults : ∀ q : FaultsPiece, .faults q ∈ ps ∨ q.same t.faults u.faults := by exact fun q => .inr (q.same_rfl _))
    (hpower : ∀ q : PowerPiece, .power q ∈ ps ∨ q.same t.power u.power := by exact fun q => .inr (q.same_rfl _))
    (htest : ∀ q : TestPiece, .test q ∈ ps ∨ q.same t.test u.test := by exact fun q => .inr (q.same_rfl _))
    (hsec : ∀ q : SecPiece, .sec q ∈ ps ∨ q.same t.sec u.sec := by exact fun q => .inr (q.same_rfl _))
    (hfree : .free ∈ ps ∨ u.freeCount = t.freeCount := by exact .inr rfl)
    (hotp : FusesKept t.sec.otp u.sec.otp := by exact .rfl' _) (hfld : u.fld = t.fld := by rfl)
    (hpend : u.pending = t.pending := by rfl) (hwin : u.mgmt.window = t.mgmt.window := by rfl) : Within R s u :=
  have hsame : ∀ q : Piece, q ∈ ps ∨ q.same t u := by
    rintro (_|q|q|q|_|q|q|q|q|q|q|q|q|q|q|_)
    exacts [heff, htime q, hobs q, hlanes q, hlink, hpath q, haside q, hctl q, hcal q, hmgmt q, hmem q, hfaults q, hpower q,
        htest q, hsec q, hfree]
  h.trans
    { piece := fun q hn => (hsame q).resolve_left fun hm => hn (hp q hm)
      fld := fun _ _ _ => by rw [hfld]
      pending := hpend
      window := fun hw => by rwa [WindowWf, hwin]
      fuses := hotp
      bulk := fun _ => .of_window hwin }

/-- A change of what no part of a frame holds. -/
theorem still (h : Within R s t) (hsame : ∀ p : Part, p.same t u := by rintro ⟨⟩ <;> rfl)
    (hotp : FusesKept t.sec.otp u.sec.otp := by exact .rfl' _)
    (hfld : u.fld = t.fld := by rfl) (hpend : u.pending = t.pending := by rfl)
    (hwin : u.mgmt.window = t.mgmt.window := by rfl) : Within R s u :=
  h.trans
    { piece := fun q _ => q.same_of_part (hsame q.part)
      fld := fun _ _ _ => by rw [hfld]
      pending := hpend
      window := fun hw => by rwa [WindowWf, hwin]
      fuses := hotp
      bulk := fun _ => .of_window hwin }

/-! One part of the state is replaced. -/

theorem withEff {x : EffMap} (h : Within R s t) (hp : R.Allows [.eff]) : Within R s { t with eff := x } :=
  h.alter hp (heff := .inl (List.mem_singleton_self _))

theorem withLink {x : Vector LinkPort 8} (h : Within R s t) (hp : R.Allows [.link]) : Within R s { t with link := x } :=
  h.alter hp (hlink := .inl (List.mem_singleton_self _))

theorem withFree {x : Nat} (h : Within R s t) (hp : R.Allows [.free]) : Within R s { t with freeCount := x } :=
  h.alter hp (hfree := .inl (List.mem_singleton_self _))

theorem changeTime {x : TimeState} {ps : List Piece} (h : Within R s t) (hp : R.Allows ps)
    (hsame : ∀ q : TimePiece, .time q ∈ ps ∨ q.same t.time x := by rintro ⟨⟩ <;> simp [TimePiece.same]) : Within R s
        { t with time := x } :=
  h.alter hp (htime := hsame)

theorem withTime {x : TimeState} (h : Within R s t) (hp : R.Allows Part.time.pieces) :
    Within R s { t with time := x } :=
  h.changeTime hp (fun q => .inl (Piece.mem_pieces (.time q)))

theorem changeObs {x : ObsState} {ps : List Piece} (h : Within R s t) (hp : R.Allows ps)
    (hsame : ∀ q : ObsPiece, .obs q ∈ ps ∨ q.same t.obs x := by rintro ⟨⟩ <;> simp [ObsPiece.same]) : Within R s
        { t with obs := x } :=
  h.alter hp (hobs := hsame)

theorem withObs {x : ObsState} (h : Within R s t) (hp : R.Allows Part.obs.pieces) :
    Within R s { t with obs := x } :=
  h.changeObs hp (fun q => .inl (Piece.mem_pieces (.obs q)))

theorem changeLanes {x : LaneState} {ps : List Piece} (h : Within R s t) (hp : R.Allows ps)
    (hsame : ∀ q : LanesPiece, .lanes q ∈ ps ∨ q.same t.lanes x := by rintro ⟨⟩ <;> simp [LanesPiece.same]) : Within R s
        { t with lanes := x } :=
  h.alter hp (hlanes := hsame)

theorem withLanes {x : LaneState} (h : Within R s t) (hp : R.Allows Part.lanes.pieces) :
    Within R s { t with lanes := x } :=
  h.changeLanes hp (fun q => .inl (Piece.mem_pieces (.lanes q)))

theorem changePath {x : PathState} {ps : List Piece} (h : Within R s t) (hp : R.Allows ps)
    (hsame : ∀ q : PathPiece, .path q ∈ ps ∨ q.same t.path x := by rintro ⟨⟩ <;> simp [PathPiece.same]) : Within R s
        { t with path := x } :=
  h.alter hp (hpath := hsame)

theorem withPath {x : PathState} (h : Within R s t) (hp : R.Allows Part.path.pieces) :
    Within R s { t with path := x } :=
  h.changePath hp (fun q => .inl (Piece.mem_pieces (.path q)))

theorem changeAside {x : AsideState} {ps : List Piece} (h : Within R s t) (hp : R.Allows ps)
    (hsame : ∀ q : AsidePiece, .aside q ∈ ps ∨ q.same t.aside x := by rintro ⟨⟩ <;> simp [AsidePiece.same]) : Within R s
        { t with aside := x } :=
  h.alter hp (haside := hsame)

theorem withAside {x : AsideState} (h : Within R s t) (hp : R.Allows Part.aside.pieces) :
    Within R s { t with aside := x } :=
  h.changeAside hp (fun q => .inl (Piece.mem_pieces (.aside q)))

theorem changeCtl {x : CtlState} {ps : List Piece} (h : Within R s t) (hp : R.Allows ps)
    (hsame : ∀ q : CtlPiece, .ctl q ∈ ps ∨ q.same t.ctl x := by rintro ⟨⟩ <;> simp [CtlPiece.same]) : Within R s
        { t with ctl := x } :=
  h.alter hp (hctl := hsame)

theorem withCtl {x : CtlState} (h : Within R s t) (hp : R.Allows Part.ctl.pieces) :
    Within R s { t with ctl := x } :=
  h.changeCtl hp (fun q => .inl (Piece.mem_pieces (.ctl q)))

theorem changeCal {x : CalState} {ps : List Piece} (h : Within R s t) (hp : R.Allows ps)
    (hsame : ∀ q : CalPiece, .cal q ∈ ps ∨ q.same t.cal x := by rintro ⟨⟩ <;> simp [CalPiece.same]) : Within R s
        { t with cal := x } :=
  h.alter hp (hcal := hsame)

theorem withCal {x : CalState} (h : Within R s t) (hp : R.Allows Part.cal.pieces) :
    Within R s { t with cal := x } :=
  h.changeCal hp (fun q => .inl (Piece.mem_pieces (.cal q)))

theorem changeMgmt {x : MgmtState} {ps : List Piece} (h : Within R s t) (hp : R.Allows ps)
    (hsame : ∀ q : MgmtPiece, .mgmt q ∈ ps ∨ q.same t.mgmt x := by rintro ⟨⟩ <;> simp [MgmtPiece.same])
        (hwin : x.window = t.mgmt.window := by rfl) : Within R s { t with mgmt := x } :=
  h.alter hp (hmgmt := hsame) (hwin := hwin)

theorem withMgmt {x : MgmtState} (h : Within R s t) (hp : R.Allows Part.mgmt.pieces) (hwin : x.window = t.mgmt.window := by rfl) :
    Within R s { t with mgmt := x } :=
  h.changeMgmt hp (fun q => .inl (Piece.mem_pieces (.mgmt q))) hwin

theorem changeMem {x : MemState} {ps : List Piece} (h : Within R s t) (hp : R.Allows ps)
    (hsame : ∀ q : MemPiece, .mem q ∈ ps ∨ q.same t.mem x := by rintro ⟨⟩ <;> simp [MemPiece.same]) : Within R s
        { t with mem := x } :=
  h.alter hp (hmem := hsame)

theorem withMem {x : MemState} (h : Within R s t) (hp : R.Allows Part.mem.pieces) :
    Within R s { t with mem := x } :=
  h.changeMem hp (fun q => .inl (Piece.mem_pieces (.mem q)))

theorem changeFaults {x : FaultState} {ps : List Piece} (h : Within R s t) (hp : R.Allows ps)
    (hsame : ∀ q : FaultsPiece, .faults q ∈ ps ∨ q.same t.faults x := by rintro ⟨⟩ <;> simp [FaultsPiece.same]) : Within R s
        { t with faults := x } :=
  h.alter hp (hfaults := hsame)

theorem withFaults {x : FaultState} (h : Within R s t) (hp : R.Allows Part.faults.pieces) :
    Within R s { t with faults := x } :=
  h.changeFaults hp (fun q => .inl (Piece.mem_pieces (.faults q)))

theorem changePower {x : PowerState} {ps : List Piece} (h : Within R s t) (hp : R.Allows ps)
    (hsame : ∀ q : PowerPiece, .power q ∈ ps ∨ q.same t.power x := by rintro ⟨⟩ <;> simp [PowerPiece.same]) : Within R s
        { t with power := x } :=
  h.alter hp (hpower := hsame)

theorem withPower {x : PowerState} (h : Within R s t) (hp : R.Allows Part.power.pieces) :
    Within R s { t with power := x } :=
  h.changePower hp (fun q => .inl (Piece.mem_pieces (.power q)))

theorem changeTest {x : TestState} {ps : List Piece} (h : Within R s t) (hp : R.Allows ps)
    (hsame : ∀ q : TestPiece, .test q ∈ ps ∨ q.same t.test x := by rintro ⟨⟩ <;> simp [TestPiece.same]) : Within R s
        { t with test := x } :=
  h.alter hp (htest := hsame)

theorem withTest {x : TestState} (h : Within R s t) (hp : R.Allows Part.test.pieces) :
    Within R s { t with test := x } :=
  h.changeTest hp (fun q => .inl (Piece.mem_pieces (.test q)))

theorem changeSec {x : SecState} {ps : List Piece} (h : Within R s t) (hp : R.Allows ps)
    (hsame : ∀ q : SecPiece, .sec q ∈ ps ∨ q.same t.sec x := by rintro ⟨⟩ <;> simp [SecPiece.same])
        (hotp : FusesKept t.sec.otp x.otp := by exact .rfl' _) : Within R s { t with sec := x } :=
  h.alter hp (hsec := hsame) (hotp := hotp)

theorem withSec {x : SecState} (h : Within R s t) (hp : R.Allows Part.sec.pieces)
    (hotp : FusesKept t.sec.otp x.otp := by exact .rfl' _) :
    Within R s { t with sec := x } :=
  h.changeSec hp (fun q => .inl (Piece.mem_pieces (.sec q))) hotp

/-! One piece of the state is replaced. -/

theorem withTimeCrystalOk {x : Bool} (h : Within R s t) (hp : R.Allows [.time .crystalOk]) :
    Within R s { t with time := { t.time with crystalOk := x } } :=
  h.alter hp (htime := by rintro ⟨⟩ <;> simp [TimePiece.same])

theorem withTimeCrystalRuns {x : Bool} (h : Within R s t) (hp : R.Allows [.time .crystalRuns]) :
    Within R s { t with time := { t.time with crystalRuns := x } } :=
  h.alter hp (htime := by rintro ⟨⟩ <;> simp [TimePiece.same])

theorem withTimeCrystalRunsMgmtStrapsPowerPwrEn {x : Bool} {y : BitVec 3} {z : Bool} (h : Within R s t)
    (hp : R.Allows [.time .crystalRuns, .mgmt .straps, .power .pwrEn]) :
    Within R s { t with
      time := { t.time with
        crystalRuns := x }
      mgmt := { t.mgmt with
        straps := y }
      power := { t.power with
        pwrEn := z } } :=
  h.alter hp (htime := by rintro ⟨⟩ <;> simp [TimePiece.same]) (hmgmt := by rintro ⟨⟩ <;> simp [MgmtPiece.same])
      (hpower := by rintro ⟨⟩ <;> simp [PowerPiece.same])

theorem withTimeCues {x : Vector CueSlot 64} (h : Within R s t) (hp : R.Allows [.time .cues]) :
    Within R s { t with time := { t.time with cues := x } } :=
  h.alter hp (htime := by rintro ⟨⟩ <;> simp [TimePiece.same])

theorem withTimeEstimatedCrystalOk {x : Bool} {y : Bool} (h : Within R s t) (hp : R.Allows [.time .estimated, .time .crystalOk]) :
    Within R s { t with time := { t.time with estimated := x, crystalOk := y } } :=
  h.alter hp (htime := by rintro ⟨⟩ <;> simp [TimePiece.same])

theorem withTimeHcEstimated {x : BitVec 64} {y : Bool} (h : Within R s t) (hp : R.Allows [.time .hc, .time .estimated]) :
    Within R s { t with time := { t.time with hc := x, estimated := y } } :=
  h.alter hp (htime := by rintro ⟨⟩ <;> simp [TimePiece.same])

theorem withTimeHcEstimatedHeldPowerStored {x : BitVec 64} {y : Bool} {z : Vector (Option HeldClocks) 8}
    {w : Option StoredClocks} (h : Within R s t) (hp : R.Allows [.time .hc, .time .estimated, .time .held, .power .stored]) :
    Within R s { t with time := { t.time with hc := x, estimated := y, held := z }, power := { t.power with stored := w } } :=
  h.alter hp (htime := by rintro ⟨⟩ <;> simp [TimePiece.same]) (hpower := by rintro ⟨⟩ <;> simp [PowerPiece.same])

theorem withTimeHcTickTxRx {x : BitVec 64} {y : Nat} {z : Vector ShowClock 8} {w : Vector ShowClock 8} (h : Within R s t)
    (hp : R.Allows [.time .hc, .time .tick, .time .tx, .time .rx]) :
    Within R s { t with time := { t.time with hc := x, tick := y, tx := z, rx := w } } :=
  h.alter hp (htime := by rintro ⟨⟩ <;> simp [TimePiece.same])

theorem withTimeHeld {x : Vector (Option HeldClocks) 8} (h : Within R s t) (hp : R.Allows [.time .held]) :
    Within R s { t with time := { t.time with held := x } } :=
  h.alter hp (htime := by rintro ⟨⟩ <;> simp [TimePiece.same])

theorem withTimeHostPll {x : Vector PllPair 2} (h : Within R s t) (hp : R.Allows [.time .hostPll]) :
    Within R s { t with time := { t.time with hostPll := x } } :=
  h.alter hp (htime := by rintro ⟨⟩ <;> simp [TimePiece.same])

theorem withTimeLinePll {x : Vector PllPair 2} (h : Within R s t) (hp : R.Allows [.time .linePll]) :
    Within R s { t with time := { t.time with linePll := x } } :=
  h.alter hp (htime := by rintro ⟨⟩ <;> simp [TimePiece.same])

theorem withTimePaired {x : Vector Bool 8} (h : Within R s t) (hp : R.Allows [.time .paired]) :
    Within R s { t with time := { t.time with paired := x } } :=
  h.alter hp (htime := by rintro ⟨⟩ <;> simp [TimePiece.same])

theorem withTimeRx {x : Vector ShowClock 8} (h : Within R s t) (hp : R.Allows [.time .rx]) :
    Within R s { t with time := { t.time with rx := x } } :=
  h.alter hp (htime := by rintro ⟨⟩ <;> simp [TimePiece.same])

theorem withTimeSysPllLocked {x : Bool} (h : Within R s t) (hp : R.Allows [.time .sysPllLocked]) :
    Within R s { t with time := { t.time with sysPllLocked := x } } :=
  h.alter hp (htime := by rintro ⟨⟩ <;> simp [TimePiece.same])

theorem withTimeSysPllLockedCrystalRunsPowerMode {x : Bool} {y : Bool} {z : PowerMode} (h : Within R s t)
    (hp : R.Allows [.time .sysPllLocked, .time .crystalRuns, .power .mode]) :
    Within R s { t with time := { t.time with sysPllLocked := x, crystalRuns := y }, power := { t.power with mode := z } } :=
  h.alter hp (htime := by rintro ⟨⟩ <;> simp [TimePiece.same]) (hpower := by rintro ⟨⟩ <;> simp [PowerPiece.same])

theorem withTimeTx {x : Vector ShowClock 8} (h : Within R s t) (hp : R.Allows [.time .tx]) :
    Within R s { t with time := { t.time with tx := x } } :=
  h.alter hp (htime := by rintro ⟨⟩ <;> simp [TimePiece.same])

theorem withObsBanks {x : Vector SnapBank 2} (h : Within R s t) (hp : R.Allows [.obs .banks]) :
    Within R s { t with obs := { t.obs with banks := x } } :=
  h.alter hp (hobs := by rintro ⟨⟩ <;> simp [ObsPiece.same])

theorem withObsSnapshot {x : Vector SnapBank 2} {y : Nat} {z : BitVec 16} {w : Vector Bool 2} {a : List Nat}
    {b : Option FlowImage} {c : Bool} (h : Within R s t) (hp : R.Allows [.obs .banks, .obs .lastBank, .obs .seq, .obs .full,
    .obs .image, .obs .imageCopying]) :
    Within R s { t with
      obs := { t.obs with
        banks := x
        lastBank := y
        seq := z
        full := w
        invalid := a
        image := b
        imageCopying := c } } :=
  h.alter hp (hobs := by rintro ⟨⟩ <;> simp [ObsPiece.same])

theorem withObsBer {x : Vector BerWindow 8} (h : Within R s t) (hp : R.Allows [.obs .ber]) :
    Within R s { t with obs := { t.obs with ber := x } } :=
  h.alter hp (hobs := by rintro ⟨⟩ <;> simp [ObsPiece.same])

theorem withObsBuckets {x : List (Nat × FlowBucket)} (h : Within R s t) (hp : R.Allows [.obs .buckets]) :
    Within R s { t with obs := { t.obs with buckets := x } } :=
  h.alter hp (hobs := by rintro ⟨⟩ <;> simp [ObsPiece.same])

theorem withObsContexts {x : List (Nat × FlowCtx)} (h : Within R s t) (hp : R.Allows [.obs .contexts]) :
    Within R s { t with obs := { t.obs with contexts := x } } :=
  h.alter hp (hobs := by rintro ⟨⟩ <;> simp [ObsPiece.same])

theorem withObsFlowFull {x : Bool} (h : Within R s t) (hp : R.Allows [.obs .flowFull]) :
    Within R s { t with obs := { t.obs with flowFull := x } } :=
  h.alter hp (hobs := by rintro ⟨⟩ <;> simp [ObsPiece.same])

theorem withObsFull {x : Vector Bool 2} (h : Within R s t) (hp : R.Allows [.obs .full]) :
    Within R s { t with obs := { t.obs with full := x } } :=
  h.alter hp (hobs := by rintro ⟨⟩ <;> simp [ObsPiece.same])

theorem withObsHiLatch {x : Vector Nat 3} (h : Within R s t) (hp : R.Allows [.obs .hiLatch]) :
    Within R s { t with obs := { t.obs with hiLatch := x } } :=
  h.alter hp (hobs := by rintro ⟨⟩ <;> simp [ObsPiece.same])

theorem withMgmtRestarted {x : Option FlowImage} {y : Bool} {z : Bool} {w : List InProg} {a : List Waiting} {b : Option Nat}
    {c : Bool} {d : Vector MemBank 64} {e : BookState} {f : Bool} {g : Bool} {i : Option (BitVec 256 × Nat)} {j : Bool}
    {k : Option Update} {l : List FlashOp} {m : Option Migration} {n : Bool} (h : Within R s t)
    (hp : R.Allows [.obs .image, .obs .imageCopying, .obs .imageLocked, .mgmt .inProgress, .mgmt .restartCause,
    .mgmt .afterRestart, .sec .session, .sec .fieldDiag, .sec .challenge, .sec .lockClosed, .sec .update, .sec .ops,
    .sec .migration, .sec .applyDue]) :
    Within R s { t with
      obs := { t.obs with
        image := x
        imageCopying := y
        imageLocked := z }
      mgmt := { t.mgmt with
        inProgress := w
        waiting := a
        restartCause := b
        afterRestart := c }
      mem := { t.mem with
        banks := d }
      book := e
      sec := { t.sec with
        session := f
        fieldDiag := g
        challenge := i
        lockClosed := j
        update := k
        ops := l
        migration := m
        applyDue := n } } :=
  h.alter hp (hobs := by rintro ⟨⟩ <;> simp [ObsPiece.same]) (hmgmt := by rintro ⟨⟩ <;> simp [MgmtPiece.same])
      (hsec := by rintro ⟨⟩ <;> simp [SecPiece.same])

theorem withObsImageLocked {x : Bool} (h : Within R s t) (hp : R.Allows [.obs .imageLocked]) :
    Within R s { t with obs := { t.obs with imageLocked := x } } :=
  h.alter hp (hobs := by rintro ⟨⟩ <;> simp [ObsPiece.same])

theorem withObsReplay {x : Vector (List FlowWork) 2} (h : Within R s t) (hp : R.Allows [.obs .replay]) :
    Within R s { t with obs := { t.obs with replay := x } } :=
  h.alter hp (hobs := by rintro ⟨⟩ <;> simp [ObsPiece.same])

theorem withObsReplayShiftsPathRx {x : Vector (List FlowWork) 2} {y : List (Nat × Word)} {z : Vector PortPath 8}
    (h : Within R s t) (hp : R.Allows [.obs .replay, .obs .shifts, .path .rx]) :
    Within R s { t with obs := { t.obs with replay := x, shifts := y }, path := { t.path with rx := z } } :=
  h.alter hp (hobs := by rintro ⟨⟩ <;> simp [ObsPiece.same]) (hpath := by rintro ⟨⟩ <;> simp [PathPiece.same])

theorem withObsShifts {x : List (Nat × Word)} (h : Within R s t) (hp : R.Allows [.obs .shifts]) :
    Within R s { t with obs := { t.obs with shifts := x } } :=
  h.alter hp (hobs := by rintro ⟨⟩ <;> simp [ObsPiece.same])

theorem withObsSlots {x : Vector SampleSlot 32} (h : Within R s t) : Within R s { t with obs := { t.obs with slots := x } } :=
    h.still

theorem withObsThrFrac {x : Vector Nat 32} (h : Within R s t) (hp : R.Allows [.obs .thrFrac]) :
    Within R s { t with obs := { t.obs with thrFrac := x } } :=
  h.alter hp (hobs := by rintro ⟨⟩ <;> simp [ObsPiece.same])

theorem withLanesBoundary {x : Vector (Option (BitVec 48)) 8} (h : Within R s t) (hp : R.Allows [.lanes .boundary]) :
    Within R s { t with lanes := { t.lanes with boundary := x } } :=
  h.alter hp (hlanes := by rintro ⟨⟩ <;> simp [LanesPiece.same])

theorem withLanesGather {x : Vector (Option Gatherer) 8} (h : Within R s t) (hp : R.Allows [.lanes .gather]) :
    Within R s { t with lanes := { t.lanes with gather := x } } :=
  h.alter hp (hlanes := by rintro ⟨⟩ <;> simp [LanesPiece.same])

theorem withLanesHostEq {x : Vector EqRec 16} (h : Within R s t) (hp : R.Allows [.lanes .hostEq]) :
    Within R s { t with lanes := { t.lanes with hostEq := x } } :=
  h.alter hp (hlanes := by rintro ⟨⟩ <;> simp [LanesPiece.same])

theorem withLanesHostFront {x : Vector Front 16} (h : Within R s t) (hp : R.Allows [.lanes .hostFront]) :
    Within R s { t with lanes := { t.lanes with hostFront := x } } :=
  h.alter hp (hlanes := by rintro ⟨⟩ <;> simp [LanesPiece.same])

theorem withLanesHostOut {x : Vector TxRec 16} (h : Within R s t) (hp : R.Allows [.lanes .hostOut]) :
    Within R s { t with lanes := { t.lanes with hostOut := x } } :=
  h.alter hp (hlanes := by rintro ⟨⟩ <;> simp [LanesPiece.same])

theorem withLanesHostRx {x : Vector RxRec 16} (h : Within R s t) (hp : R.Allows [.lanes .hostRx]) :
    Within R s { t with lanes := { t.lanes with hostRx := x } } :=
  h.alter hp (hlanes := by rintro ⟨⟩ <;> simp [LanesPiece.same])

theorem withLanesLineEq {x : Vector EqRec 8} (h : Within R s t) (hp : R.Allows [.lanes .lineEq]) :
    Within R s { t with lanes := { t.lanes with lineEq := x } } :=
  h.alter hp (hlanes := by rintro ⟨⟩ <;> simp [LanesPiece.same])

theorem withLanesLineFront {x : Vector Front 8} (h : Within R s t) (hp : R.Allows [.lanes .lineFront]) :
    Within R s { t with lanes := { t.lanes with lineFront := x } } :=
  h.alter hp (hlanes := by rintro ⟨⟩ <;> simp [LanesPiece.same])

theorem withLanesLineOut {x : Vector TxRec 8} (h : Within R s t) (hp : R.Allows [.lanes .lineOut]) :
    Within R s { t with lanes := { t.lanes with lineOut := x } } :=
  h.alter hp (hlanes := by rintro ⟨⟩ <;> simp [LanesPiece.same])

theorem withLanesLineRx {x : Vector RxRec 8} (h : Within R s t) (hp : R.Allows [.lanes .lineRx]) :
    Within R s { t with lanes := { t.lanes with lineRx := x } } :=
  h.alter hp (hlanes := by rintro ⟨⟩ <;> simp [LanesPiece.same])

theorem withLanesLock {x : Vector MarkerLock 8} (h : Within R s t) (hp : R.Allows [.lanes .lock]) :
    Within R s { t with lanes := { t.lanes with lock := x } } :=
  h.alter hp (hlanes := by rintro ⟨⟩ <;> simp [LanesPiece.same])

theorem withLanesRevertDue {x : Vector Bool 8} (h : Within R s t) (hp : R.Allows [.lanes .revertDue]) :
    Within R s { t with lanes := { t.lanes with revertDue := x } } :=
  h.alter hp (hlanes := by rintro ⟨⟩ <;> simp [LanesPiece.same])

theorem withLanesSpot {x : Vector Spot 8} (h : Within R s t) (hp : R.Allows [.lanes .spot]) :
    Within R s { t with lanes := { t.lanes with spot := x } } :=
  h.alter hp (hlanes := by rintro ⟨⟩ <;> simp [LanesPiece.same])

theorem withLanesTx {x : Vector LineTx 8} (h : Within R s t) (hp : R.Allows [.lanes .tx]) :
    Within R s { t with lanes := { t.lanes with tx := x } } :=
  h.alter hp (hlanes := by rintro ⟨⟩ <;> simp [LanesPiece.same])

theorem withLanesXa {x : Vector (Option XaRun) 8} (h : Within R s t) (hp : R.Allows [.lanes .xa]) :
    Within R s { t with lanes := { t.lanes with xa := x } } :=
  h.alter hp (hlanes := by rintro ⟨⟩ <;> simp [LanesPiece.same])

theorem withLanesXaStart {x : Vector (Option (List (Nat × Int))) 8} (h : Within R s t) (hp : R.Allows [.lanes .xaStart]) :
    Within R s { t with lanes := { t.lanes with xaStart := x } } :=
  h.alter hp (hlanes := by rintro ⟨⟩ <;> simp [LanesPiece.same])

theorem withLanesXaStartRevertDue {x : Vector (Option (List (Nat × Int))) 8} {y : Vector Bool 8} (h : Within R s t)
    (hp : R.Allows [.lanes .xaStart, .lanes .revertDue]) :
    Within R s { t with lanes := { t.lanes with xaStart := x, revertDue := y } } :=
  h.alter hp (hlanes := by rintro ⟨⟩ <;> simp [LanesPiece.same])

theorem withLanesXaStartRevertDueGather {x : Vector (Option (List (Nat × Int))) 8} {y : Vector Bool 8}
    {z : Vector (Option Gatherer) 8} (h : Within R s t) (hp : R.Allows [.lanes .xaStart, .lanes .revertDue, .lanes .gather]) :
    Within R s { t with lanes := { t.lanes with xaStart := x, revertDue := y, gather := z } } :=
  h.alter hp (hlanes := by rintro ⟨⟩ <;> simp [LanesPiece.same])

theorem withPathHostAt {x : Vector (List (Nat × Nat)) 16} (h : Within R s t) (hp : R.Allows [.path .hostAt]) :
    Within R s { t with path := { t.path with hostAt := x } } :=
  h.alter hp (hpath := by rintro ⟨⟩ <;> simp [PathPiece.same])

theorem withPathHostSlip {x : Vector Nat 16} (h : Within R s t) (hp : R.Allows [.path .hostSlip]) :
    Within R s { t with path := { t.path with hostSlip := x } } :=
  h.alter hp (hpath := by rintro ⟨⟩ <;> simp [PathPiece.same])

theorem withPathHostSwitch {x : Vector (Option Nat) 2} (h : Within R s t) (hp : R.Allows [.path .hostSwitch]) :
    Within R s { t with path := { t.path with hostSwitch := x } } :=
  h.alter hp (hpath := by rintro ⟨⟩ <;> simp [PathPiece.same])

theorem withPathLineAt {x : Vector Nat 8} (h : Within R s t) (hp : R.Allows [.path .lineAt]) :
    Within R s { t with path := { t.path with lineAt := x } } :=
  h.alter hp (hpath := by rintro ⟨⟩ <;> simp [PathPiece.same])

theorem withPathLineSlip {x : Vector Nat 8} (h : Within R s t) (hp : R.Allows [.path .lineSlip]) :
    Within R s { t with path := { t.path with lineSlip := x } } :=
  h.alter hp (hpath := by rintro ⟨⟩ <;> simp [PathPiece.same])

theorem withPathLineSwitch {x : Vector (Option Nat) 2} (h : Within R s t) (hp : R.Allows [.path .lineSwitch]) :
    Within R s { t with path := { t.path with lineSwitch := x } } :=
  h.alter hp (hpath := by rintro ⟨⟩ <;> simp [PathPiece.same])

theorem withPathModeChange {x : Bool} (h : Within R s t) (hp : R.Allows [.path .modeChange]) :
    Within R s { t with path := { t.path with modeChange := x } } :=
  h.alter hp (hpath := by rintro ⟨⟩ <;> simp [PathPiece.same])

theorem withPathNextPoolNow {x : Vector Nat 2} {y : Vector Nat 2} (h : Within R s t)
    (hp : R.Allows [.path .next, .path .poolNow]) :
    Within R s { t with path := { t.path with next := x, poolNow := y } } :=
  h.alter hp (hpath := by rintro ⟨⟩ <;> simp [PathPiece.same])

theorem withPathPoolNowPoolLast {x : Vector Nat 2} {y : Vector Nat 2} (h : Within R s t)
    (hp : R.Allows [.path .poolNow, .path .poolLast]) :
    Within R s { t with path := { t.path with poolNow := x, poolLast := y } } :=
  h.alter hp (hpath := by rintro ⟨⟩ <;> simp [PathPiece.same])

theorem withPathRefChanged {x : Vector Bool 2} (h : Within R s t) (hp : R.Allows [.path .refChanged]) :
    Within R s { t with path := { t.path with refChanged := x } } :=
  h.alter hp (hpath := by rintro ⟨⟩ <;> simp [PathPiece.same])

theorem withPathRx {x : Vector PortPath 8} (h : Within R s t) (hp : R.Allows [.path .rx]) :
    Within R s { t with path := { t.path with rx := x } } :=
  h.alter hp (hpath := by rintro ⟨⟩ <;> simp [PathPiece.same])

theorem withPathRxFollow {x : Vector (Option Nat) 8} (h : Within R s t) (hp : R.Allows [.path .rxFollow]) :
    Within R s { t with path := { t.path with rxFollow := x } } :=
  h.alter hp (hpath := by rintro ⟨⟩ <;> simp [PathPiece.same])

theorem withPathSuperRx {x : Vector (List (List (Sym × Bool))) 8} (h : Within R s t) (hp : R.Allows [.path .superRx]) :
    Within R s { t with path := { t.path with superRx := x } } :=
  h.alter hp (hpath := by rintro ⟨⟩ <;> simp [PathPiece.same])

theorem withPathSuperRxSuperTxInnerTx {x : Vector (List (List (Sym × Bool))) 8} {y : Vector (List (List Sym)) 8}
    {z : Vector (List (List Bool)) 8} (h : Within R s t) (hp : R.Allows [.path .superRx, .path .superTx, .path .innerTx]) :
    Within R s { t with path := { t.path with superRx := x, superTx := y, innerTx := z } } :=
  h.alter hp (hpath := by rintro ⟨⟩ <;> simp [PathPiece.same])

theorem withPathSuperTx {x : Vector (List (List Sym)) 8} (h : Within R s t) (hp : R.Allows [.path .superTx]) :
    Within R s { t with path := { t.path with superTx := x } } :=
  h.alter hp (hpath := by rintro ⟨⟩ <;> simp [PathPiece.same])

theorem withPathSuperTxInnerTx {x : Vector (List (List Sym)) 8} {y : Vector (List (List Bool)) 8} (h : Within R s t)
    (hp : R.Allows [.path .superTx, .path .innerTx]) :
    Within R s { t with path := { t.path with superTx := x, innerTx := y } } :=
  h.alter hp (hpath := by rintro ⟨⟩ <;> simp [PathPiece.same])

theorem withPathTesting {x : Vector (Option Nat) 2} (h : Within R s t) (hp : R.Allows [.path .testing]) :
    Within R s { t with path := { t.path with testing := x } } :=
  h.alter hp (hpath := by rintro ⟨⟩ <;> simp [PathPiece.same])

theorem withPathTx {x : Vector PortPath 8} (h : Within R s t) (hp : R.Allows [.path .tx]) :
    Within R s { t with path := { t.path with tx := x } } :=
  h.alter hp (hpath := by rintro ⟨⟩ <;> simp [PathPiece.same])

theorem withPathTxFollow {x : Vector (Option Nat) 8} (h : Within R s t) (hp : R.Allows [.path .txFollow]) :
    Within R s { t with path := { t.path with txFollow := x } } :=
  h.alter hp (hpath := by rintro ⟨⟩ <;> simp [PathPiece.same])

theorem withPathTxFollowRxFollowModeChange {x : Vector (Option Nat) 8} {y : Vector (Option Nat) 8} {z : Bool} (h : Within R s t)
    (hp : R.Allows [.path .txFollow, .path .rxFollow, .path .modeChange]) :
    Within R s { t with path := { t.path with txFollow := x, rxFollow := y, modeChange := z } } :=
  h.alter hp (hpath := by rintro ⟨⟩ <;> simp [PathPiece.same])

theorem withAsideAgreeCount {x : BitVec 16} (h : Within R s t) (hp : R.Allows [.aside .agreeCount]) :
    Within R s { t with aside := { t.aside with agreeCount := x } } :=
  h.alter hp (haside := by rintro ⟨⟩ <;> simp [AsidePiece.same])

theorem withAsideBufs {x : Vector (Option AsideBuf) 16} (h : Within R s t) (hp : R.Allows [.aside .bufs]) :
    Within R s { t with aside := { t.aside with bufs := x } } :=
  h.alter hp (haside := by rintro ⟨⟩ <;> simp [AsidePiece.same])

theorem withAsideKeys {x : Vector (Option (BitVec 8 × BitVec 256)) 4} (h : Within R s t) (hp : R.Allows [.aside .keys]) :
    Within R s { t with aside := { t.aside with keys := x } } :=
  h.alter hp (haside := by rintro ⟨⟩ <;> simp [AsidePiece.same])

theorem withAsideLanes {x : Vector AsideLane 8} (h : Within R s t) (hp : R.Allows [.aside .lanes]) :
    Within R s { t with aside := { t.aside with lanes := x } } :=
  h.alter hp (haside := by rintro ⟨⟩ <;> simp [AsidePiece.same])

theorem withCtlBdac {x : Vector BdacChan 32} (h : Within R s t) (hp : R.Allows [.ctl .bdac]) :
    Within R s { t with ctl := { t.ctl with bdac := x } } :=
  h.alter hp (hctl := by rintro ⟨⟩ <;> simp [CtlPiece.same])

theorem withCtlBdacPendingCodes {x : Vector BdacChan 32} {y : List (Nat × Nat)} (h : Within R s t)
    (hp : R.Allows [.ctl .bdac, .ctl .pendingCodes]) :
    Within R s { t with ctl := { t.ctl with bdac := x, pendingCodes := y } } :=
  h.alter hp (hctl := by rintro ⟨⟩ <;> simp [CtlPiece.same])

theorem withCtlCoefs {x : List (Nat × Int)} (h : Within R s t) (hp : R.Allows [.ctl .coefs]) :
    Within R s { t with ctl := { t.ctl with coefs := x } } :=
  h.alter hp (hctl := by rintro ⟨⟩ <;> simp [CtlPiece.same])

theorem withCtlGens {x : Vector DitherGen 4} (h : Within R s t) (hp : R.Allows [.ctl .gens]) :
    Within R s { t with ctl := { t.ctl with gens := x } } :=
  h.alter hp (hctl := by rintro ⟨⟩ <;> simp [CtlPiece.same])

theorem withCtlLevelSeq {x : Vector Nat 8} (h : Within R s t) (hp : R.Allows [.ctl .levelSeq]) :
    Within R s { t with ctl := { t.ctl with levelSeq := x } } :=
  h.alter hp (hctl := by rintro ⟨⟩ <;> simp [CtlPiece.same])

theorem withCtlLoops {x : Vector LoopRec 32} (h : Within R s t) (hp : R.Allows [.ctl .loops]) :
    Within R s { t with ctl := { t.ctl with loops := x } } :=
  h.alter hp (hctl := by rintro ⟨⟩ <;> simp [CtlPiece.same])

theorem withCtlPendingCodes {x : List (Nat × Nat)} (h : Within R s t) (hp : R.Allows [.ctl .pendingCodes]) :
    Within R s { t with ctl := { t.ctl with pendingCodes := x } } :=
  h.alter hp (hctl := by rintro ⟨⟩ <;> simp [CtlPiece.same])

theorem withCtlSense {x : Vector SenseChan 24} (h : Within R s t) (hp : R.Allows [.ctl .sense]) :
    Within R s { t with ctl := { t.ctl with sense := x } } :=
  h.alter hp (hctl := by rintro ⟨⟩ <;> simp [CtlPiece.same])

theorem withCtlTick {x : Nat} (h : Within R s t) (hp : R.Allows [.ctl .tick]) :
    Within R s { t with ctl := { t.ctl with tick := x } } :=
  h.alter hp (hctl := by rintro ⟨⟩ <;> simp [CtlPiece.same])

theorem withCalBdacNow {x : Option Nat} (h : Within R s t) (hp : R.Allows [.cal .bdacNow]) :
    Within R s { t with cal := { t.cal with bdacNow := x } } :=
  h.alter hp (hcal := by rintro ⟨⟩ <;> simp [CalPiece.same])

theorem withCalBdacNowRepeatBdac {x : Option Nat} {y : Bool} (h : Within R s t) (hp : R.Allows [.cal .bdacNow, .cal .repeatBdac])
    :
    Within R s { t with cal := { t.cal with bdacNow := x, repeatBdac := y } } :=
  h.alter hp (hcal := by rintro ⟨⟩ <;> simp [CalPiece.same])

theorem withCalBdacQueue {x : List Nat} (h : Within R s t) (hp : R.Allows [.cal .bdacQueue]) :
    Within R s { t with cal := { t.cal with bdacQueue := x } } :=
  h.alter hp (hcal := by rintro ⟨⟩ <;> simp [CalPiece.same])

theorem withCalBdacQueueSenseQueue {x : List Nat} {y : List Nat} (h : Within R s t)
    (hp : R.Allows [.cal .bdacQueue, .cal .senseQueue]) :
    Within R s { t with cal := { t.cal with bdacQueue := x, senseQueue := y } } :=
  h.alter hp (hcal := by rintro ⟨⟩ <;> simp [CalPiece.same])

theorem withCalDeferred {x : List (Nat × CalSet)} (h : Within R s t) (hp : R.Allows [.cal .deferred]) :
    Within R s { t with cal := { t.cal with deferred := x } } :=
  h.alter hp (hcal := by rintro ⟨⟩ <;> simp [CalPiece.same])

theorem withCalDtcTarget {x : List (Nat × Int)} (h : Within R s t) (hp : R.Allows [.cal .dtcTarget]) :
    Within R s { t with cal := { t.cal with dtcTarget := x } } :=
  h.alter hp (hcal := by rintro ⟨⟩ <;> simp [CalPiece.same])

theorem withCalFired {x : List Nat} (h : Within R s t) (hp : R.Allows [.cal .fired]) :
    Within R s { t with cal := { t.cal with fired := x } } :=
  h.alter hp (hcal := by rintro ⟨⟩ <;> simp [CalPiece.same])

theorem withCalHostLaps {x : Vector (Option Lap) 16} (h : Within R s t) (hp : R.Allows [.cal .hostLaps]) :
    Within R s { t with cal := { t.cal with hostLaps := x } } :=
  h.alter hp (hcal := by rintro ⟨⟩ <;> simp [CalPiece.same])

theorem withCalInUse {x : List (Nat × Int)} (h : Within R s t) (hp : R.Allows [.cal .inUse]) :
    Within R s { t with cal := { t.cal with inUse := x } } :=
  h.alter hp (hcal := by rintro ⟨⟩ <;> simp [CalPiece.same])

theorem withCalLineLaps {x : Vector (Option Lap) 8} (h : Within R s t) (hp : R.Allows [.cal .lineLaps]) :
    Within R s { t with cal := { t.cal with lineLaps := x } } :=
  h.alter hp (hcal := by rintro ⟨⟩ <;> simp [CalPiece.same])

theorem withCalRepeatBdac {x : Bool} (h : Within R s t) (hp : R.Allows [.cal .repeatBdac]) :
    Within R s { t with cal := { t.cal with repeatBdac := x } } :=
  h.alter hp (hcal := by rintro ⟨⟩ <;> simp [CalPiece.same])

theorem withCalRepeatBdacRepeatSense {x : Bool} {y : Bool} (h : Within R s t)
    (hp : R.Allows [.cal .repeatBdac, .cal .repeatSense]) :
    Within R s { t with cal := { t.cal with repeatBdac := x, repeatSense := y } } :=
  h.alter hp (hcal := by rintro ⟨⟩ <;> simp [CalPiece.same])

theorem withCalRepeatSense {x : Bool} (h : Within R s t) (hp : R.Allows [.cal .repeatSense]) :
    Within R s { t with cal := { t.cal with repeatSense := x } } :=
  h.alter hp (hcal := by rintro ⟨⟩ <;> simp [CalPiece.same])

theorem withCalRun {x : Option CalRun} (h : Within R s t) (hp : R.Allows [.cal .run]) :
    Within R s { t with cal := { t.cal with run := x } } :=
  h.alter hp (hcal := by rintro ⟨⟩ <;> simp [CalPiece.same])

theorem withCalSenseNow {x : Option Nat} (h : Within R s t) (hp : R.Allows [.cal .senseNow]) :
    Within R s { t with cal := { t.cal with senseNow := x } } :=
  h.alter hp (hcal := by rintro ⟨⟩ <;> simp [CalPiece.same])

theorem withCalSenseNowRepeatSense {x : Option Nat} {y : Bool} (h : Within R s t)
    (hp : R.Allows [.cal .senseNow, .cal .repeatSense]) :
    Within R s { t with cal := { t.cal with senseNow := x, repeatSense := y } } :=
  h.alter hp (hcal := by rintro ⟨⟩ <;> simp [CalPiece.same])

theorem withCalSenseQueue {x : List Nat} (h : Within R s t) (hp : R.Allows [.cal .senseQueue]) :
    Within R s { t with cal := { t.cal with senseQueue := x } } :=
  h.alter hp (hcal := by rintro ⟨⟩ <;> simp [CalPiece.same])

theorem withCalSets {x : List (Nat × Int)} (h : Within R s t) (hp : R.Allows [.cal .sets]) :
    Within R s { t with cal := { t.cal with sets := x } } :=
  h.alter hp (hcal := by rintro ⟨⟩ <;> simp [CalPiece.same])

theorem withCalSkewAgain {x : Nat} (h : Within R s t) (hp : R.Allows [.cal .skewAgain]) :
    Within R s { t with cal := { t.cal with skewAgain := x } } :=
  h.alter hp (hcal := by rintro ⟨⟩ <;> simp [CalPiece.same])

theorem withCalSkewAgainSkewRepeated {x : Nat} {y : Nat} (h : Within R s t) (hp : R.Allows [.cal .skewAgain, .cal .skewRepeated])
    :
    Within R s { t with cal := { t.cal with skewAgain := x, skewRepeated := y } } :=
  h.alter hp (hcal := by rintro ⟨⟩ <;> simp [CalPiece.same])

theorem withCalSkewLive {x : Nat} (h : Within R s t) (hp : R.Allows [.cal .skewLive]) :
    Within R s { t with cal := { t.cal with skewLive := x } } :=
  h.alter hp (hcal := by rintro ⟨⟩ <;> simp [CalPiece.same])

theorem withCalSkewNowSkewAgainSkewRepeatedBdacQueueSenseQueueBdacNowSenseNow {x : Nat} {y : Nat} {z : Nat} {w : List Nat}
    {a : List Nat} {b : Option Nat} {c : Option Nat} (h : Within R s t) (hp : R.Allows
    [.cal .skewNow, .cal .skewAgain, .cal .skewRepeated, .cal .bdacQueue, .cal .senseQueue, .cal .bdacNow, .cal .senseNow]) :
    Within R s { t with
      cal := { t.cal with
        skewNow := x
        skewAgain := y
        skewRepeated := z
        bdacQueue := w
        senseQueue := a
        bdacNow := b
        senseNow := c } } :=
  h.alter hp (hcal := by rintro ⟨⟩ <;> simp [CalPiece.same])

theorem withCalTargets {x : List (Nat × Int)} (h : Within R s t) (hp : R.Allows [.cal .targets]) :
    Within R s { t with cal := { t.cal with targets := x } } :=
  h.alter hp (hcal := by rintro ⟨⟩ <;> simp [CalPiece.same])

theorem withMgmtBusErrRate {x : RateWindow} (h : Within R s t) (hp : R.Allows [.mgmt .busErrRate]) :
    Within R s { t with mgmt := { t.mgmt with busErrRate := x } } :=
  h.alter hp (hmgmt := by rintro ⟨⟩ <;> simp [MgmtPiece.same])

theorem withMgmtCmisBank {x : Nat} (h : Within R s t) (hp : R.Allows [.mgmt .cmisBank]) :
    Within R s { t with mgmt := { t.mgmt with cmisBank := x } } :=
  h.alter hp (hmgmt := by rintro ⟨⟩ <;> simp [MgmtPiece.same])

theorem withMgmtCmisLog {x : List CmisWrite} (h : Within R s t) (hp : R.Allows [.mgmt .cmisLog]) :
    Within R s { t with mgmt := { t.mgmt with cmisLog := x } } :=
  h.alter hp (hmgmt := by rintro ⟨⟩ <;> simp [MgmtPiece.same])

theorem withMgmtCmisNext {x : Nat} (h : Within R s t) (hp : R.Allows [.mgmt .cmisNext]) :
    Within R s { t with mgmt := { t.mgmt with cmisNext := x } } :=
  h.alter hp (hmgmt := by rintro ⟨⟩ <;> simp [MgmtPiece.same])

theorem withMgmtCmisOutCmisAcks {x : List Byte} {y : List Bool} (h : Within R s t)
    (hp : R.Allows [.mgmt .cmisOut, .mgmt .cmisAcks]) :
    Within R s { t with mgmt := { t.mgmt with cmisOut := x, cmisAcks := y } } :=
  h.alter hp (hmgmt := by rintro ⟨⟩ <;> simp [MgmtPiece.same])

theorem withMgmtCmisPage {x : Nat} (h : Within R s t) (hp : R.Allows [.mgmt .cmisPage]) :
    Within R s { t with mgmt := { t.mgmt with cmisPage := x } } :=
  h.alter hp (hmgmt := by rintro ⟨⟩ <;> simp [MgmtPiece.same])

theorem withMgmtCmisWritable {x : List Nat} (h : Within R s t) (hp : R.Allows [.mgmt .cmisWritable]) :
    Within R s { t with mgmt := { t.mgmt with cmisWritable := x } } :=
  h.alter hp (hmgmt := by rintro ⟨⟩ <;> simp [MgmtPiece.same])

theorem withMgmtCoreFault {x : Bool} (h : Within R s t) (hp : R.Allows [.mgmt .coreFault]) :
    Within R s { t with mgmt := { t.mgmt with coreFault := x } } :=
  h.alter hp (hmgmt := by rintro ⟨⟩ <;> simp [MgmtPiece.same])

theorem withMgmtEngineHeldAfterRestart {x : Bool} {y : Bool} (h : Within R s t)
    (hp : R.Allows [.mgmt .engineHeld, .mgmt .afterRestart]) :
    Within R s { t with mgmt := { t.mgmt with engineHeld := x, afterRestart := y } } :=
  h.alter hp (hmgmt := by rintro ⟨⟩ <;> simp [MgmtPiece.same])

theorem withMgmtI2cNext {x : Nat} (h : Within R s t) (hp : R.Allows [.mgmt .i2cNext]) :
    Within R s { t with mgmt := { t.mgmt with i2cNext := x } } :=
  h.alter hp (hmgmt := by rintro ⟨⟩ <;> simp [MgmtPiece.same])

theorem withMgmtI2cOutI2cAcks {x : List Byte} {y : List Bool} (h : Within R s t) (hp : R.Allows [.mgmt .i2cOut, .mgmt .i2cAcks]) :
    Within R s { t with mgmt := { t.mgmt with i2cOut := x, i2cAcks := y } } :=
  h.alter hp (hmgmt := by rintro ⟨⟩ <;> simp [MgmtPiece.same])

theorem withMgmtInProgress {x : List InProg} (h : Within R s t) (hp : R.Allows [.mgmt .inProgress]) :
    Within R s { t with mgmt := { t.mgmt with inProgress := x } } :=
  h.alter hp (hmgmt := by rintro ⟨⟩ <;> simp [MgmtPiece.same])

theorem withMgmtLayoutSpent {x : Bool} (h : Within R s t) (hp : R.Allows [.mgmt .layoutSpent]) :
    Within R s { t with mgmt := { t.mgmt with layoutSpent := x } } :=
  h.alter hp (hmgmt := by rintro ⟨⟩ <;> simp [MgmtPiece.same])

theorem withMgmtLockedRate {x : RateWindow} (h : Within R s t) (hp : R.Allows [.mgmt .lockedRate]) :
    Within R s { t with mgmt := { t.mgmt with lockedRate := x } } :=
  h.alter hp (hmgmt := by rintro ⟨⟩ <;> simp [MgmtPiece.same])

theorem withMgmtReadOutCoreFault {x : Word} {y : Bool} (h : Within R s t) (hp : R.Allows [.mgmt .readOut, .mgmt .coreFault]) :
    Within R s { t with mgmt := { t.mgmt with readOut := x, coreFault := y } } :=
  h.alter hp (hmgmt := by rintro ⟨⟩ <;> simp [MgmtPiece.same])

theorem withMgmtRestartCause {x : Option Nat} (h : Within R s t) (hp : R.Allows [.mgmt .restartCause]) :
    Within R s { t with mgmt := { t.mgmt with restartCause := x } } :=
  h.alter hp (hmgmt := by rintro ⟨⟩ <;> simp [MgmtPiece.same])

theorem withMgmtRestartCausePowerWarmPending {x : Option Nat} {y : Bool} (h : Within R s t)
    (hp : R.Allows [.mgmt .restartCause, .power .warmPending]) :
    Within R s { t with mgmt := { t.mgmt with restartCause := x }, power := { t.power with warmPending := y } } :=
  h.alter hp (hmgmt := by rintro ⟨⟩ <;> simp [MgmtPiece.same]) (hpower := by rintro ⟨⟩ <;> simp [PowerPiece.same])

theorem withMgmtRestartCausePowerWarmPendingTestDressResults {x : Option Nat} {y : Bool} {z : Bool} {w : List (Nat × Nat × Nat)}
    (h : Within R s t) (hp : R.Allows [.mgmt .restartCause, .power .warmPending, .test .dress, .test .results]) :
    Within R s { t with
      mgmt := { t.mgmt with
        restartCause := x }
      power := { t.power with
        warmPending := y }
      test := { t.test with
        dress := z
        results := w } } :=
  h.alter hp (hmgmt := by rintro ⟨⟩ <;> simp [MgmtPiece.same]) (hpower := by rintro ⟨⟩ <;> simp [PowerPiece.same])
      (htest := by rintro ⟨⟩ <;> simp [TestPiece.same])

theorem withMgmtSpiCrcErrSpiBusErr {x : Bool} {y : Bool} (h : Within R s t) (hp : R.Allows [.mgmt .spiCrcErr, .mgmt .spiBusErr]) :
    Within R s { t with mgmt := { t.mgmt with spiCrcErr := x, spiBusErr := y } } :=
  h.alter hp (hmgmt := by rintro ⟨⟩ <;> simp [MgmtPiece.same])

theorem withMgmtSpiOutSpiCrcErrSpiBusErr {x : List Byte} {y : Bool} {z : Bool} (h : Within R s t)
    (hp : R.Allows [.mgmt .spiOut, .mgmt .spiCrcErr, .mgmt .spiBusErr]) :
    Within R s { t with mgmt := { t.mgmt with spiOut := x, spiCrcErr := y, spiBusErr := z } } :=
  h.alter hp (hmgmt := by rintro ⟨⟩ <;> simp [MgmtPiece.same])

theorem withMgmtTmrLastTmrSince {x : Option Nat} {y : Nat} (h : Within R s t) (hp : R.Allows [.mgmt .tmrLast, .mgmt .tmrSince]) :
    Within R s { t with mgmt := { t.mgmt with tmrLast := x, tmrSince := y } } :=
  h.alter hp (hmgmt := by rintro ⟨⟩ <;> simp [MgmtPiece.same])

theorem withMgmtTmrSince {x : Nat} (h : Within R s t) (hp : R.Allows [.mgmt .tmrSince]) :
    Within R s { t with mgmt := { t.mgmt with tmrSince := x } } :=
  h.alter hp (hmgmt := by rintro ⟨⟩ <;> simp [MgmtPiece.same])

theorem withMemBanks {x : Vector MemBank 64} (h : Within R s t) : Within R s { t with mem := { t.mem with banks := x } } :=
    h.still

theorem withMemCandidates {x : List (Nat × Nat)} (h : Within R s t) (hp : R.Allows [.mem .candidates]) :
    Within R s { t with mem := { t.mem with candidates := x } } :=
  h.alter hp (hmem := by rintro ⟨⟩ <;> simp [MemPiece.same])

theorem withMemParity {x : Vector ParityRate 32} (h : Within R s t) (hp : R.Allows [.mem .parity]) :
    Within R s { t with mem := { t.mem with parity := x } } :=
  h.alter hp (hmem := by rintro ⟨⟩ <;> simp [MemPiece.same])

theorem withMemRetrain {x : List (Nat × Nat)} (h : Within R s t) (hp : R.Allows [.mem .retrain]) :
    Within R s { t with mem := { t.mem with retrain := x } } :=
  h.alter hp (hmem := by rintro ⟨⟩ <;> simp [MemPiece.same])

theorem withFaultsBelowClearSince {x : Vector Bool 7} {y : Vector Nat 7} (h : Within R s t)
    (hp : R.Allows [.faults .below, .faults .clearSince]) :
    Within R s { t with faults := { t.faults with below := x, clearSince := y } } :=
  h.alter hp (hfaults := by rintro ⟨⟩ <;> simp [FaultsPiece.same])

theorem withFaultsWatchdogAt {x : Nat} (h : Within R s t) (hp : R.Allows [.faults .watchdogAt]) :
    Within R s { t with faults := { t.faults with watchdogAt := x } } :=
  h.alter hp (hfaults := by rintro ⟨⟩ <;> simp [FaultsPiece.same])

theorem withFaultsWatchdogAtSecRunning {x : Nat} {y : Option (Fin 2)} (h : Within R s t)
    (hp : R.Allows [.faults .watchdogAt, .sec .running]) :
    Within R s { t with faults := { t.faults with watchdogAt := x }, sec := { t.sec with running := y } } :=
  h.alter hp (hfaults := by rintro ⟨⟩ <;> simp [FaultsPiece.same]) (hsec := by rintro ⟨⟩ <;> simp [SecPiece.same])

theorem withFaultsWindow {x : Option (Nat × Nat)} (h : Within R s t) (hp : R.Allows [.faults .window]) :
    Within R s { t with faults := { t.faults with window := x } } :=
  h.alter hp (hfaults := by rintro ⟨⟩ <;> simp [FaultsPiece.same])

theorem withFaultsWindowWindowMarked {x : Option (Nat × Nat)} {y : Bool} (h : Within R s t)
    (hp : R.Allows [.faults .window, .faults .windowMarked]) :
    Within R s { t with faults := { t.faults with window := x, windowMarked := y } } :=
  h.alter hp (hfaults := by rintro ⟨⟩ <;> simp [FaultsPiece.same])

theorem withFaultsWindowWindowRailWindowMarked {x : Option (Nat × Nat)} {y : Nat} {z : Bool} (h : Within R s t)
    (hp : R.Allows [.faults .window, .faults .windowRail, .faults .windowMarked]) :
    Within R s { t with faults := { t.faults with window := x, windowRail := y, windowMarked := z } } :=
  h.alter hp (hfaults := by rintro ⟨⟩ <;> simp [FaultsPiece.same])

theorem withFaultsWindowMarked {x : Bool} (h : Within R s t) (hp : R.Allows [.faults .windowMarked]) :
    Within R s { t with faults := { t.faults with windowMarked := x } } :=
  h.alter hp (hfaults := by rintro ⟨⟩ <;> simp [FaultsPiece.same])

theorem withPowerAnnounce {x : Option Nat} (h : Within R s t) (hp : R.Allows [.power .announce]) :
    Within R s { t with power := { t.power with announce := x } } :=
  h.alter hp (hpower := by rintro ⟨⟩ <;> simp [PowerPiece.same])

theorem withPowerAvsLastStep {x : Option Nat} (h : Within R s t) (hp : R.Allows [.power .avsLastStep]) :
    Within R s { t with power := { t.power with avsLastStep := x } } :=
  h.alter hp (hpower := by rintro ⟨⟩ <;> simp [PowerPiece.same])

theorem withPowerAvsMisses {x : Nat} (h : Within R s t) (hp : R.Allows [.power .avsMisses]) :
    Within R s { t with power := { t.power with avsMisses := x } } :=
  h.alter hp (hpower := by rintro ⟨⟩ <;> simp [PowerPiece.same])

theorem withPowerColdCompTripRun {x : Bool} {y : Vector Nat 12} (h : Within R s t)
    (hp : R.Allows [.power .coldComp, .power .tripRun]) :
    Within R s { t with power := { t.power with coldComp := x, tripRun := y } } :=
  h.alter hp (hpower := by rintro ⟨⟩ <;> simp [PowerPiece.same])

theorem withPowerDueReset {x : Option DueReset} (h : Within R s t) (hp : R.Allows [.power .dueReset]) :
    Within R s { t with power := { t.power with dueReset := x } } :=
  h.alter hp (hpower := by rintro ⟨⟩ <;> simp [PowerPiece.same])

theorem withPowerLatchedCfgLatchedTimer {x : Nat} {y : Nat} (h : Within R s t)
    (hp : R.Allows [.power .latchedCfg, .power .latchedTimer]) :
    Within R s { t with power := { t.power with latchedCfg := x, latchedTimer := y } } :=
  h.alter hp (hpower := by rintro ⟨⟩ <;> simp [PowerPiece.same])

theorem withPowerMode {x : PowerMode} (h : Within R s t) (hp : R.Allows [.power .mode]) :
    Within R s { t with power := { t.power with mode := x } } :=
  h.alter hp (hpower := by rintro ⟨⟩ <;> simp [PowerPiece.same])

theorem withPowerModeTimerDuePwrEn {x : PowerMode} {y : Bool} {z : Bool} (h : Within R s t)
    (hp : R.Allows [.power .mode, .power .timerDue, .power .pwrEn]) :
    Within R s { t with power := { t.power with mode := x, timerDue := y, pwrEn := z } } :=
  h.alter hp (hpower := by rintro ⟨⟩ <;> simp [PowerPiece.same])

theorem withPowerPwrEn {x : Bool} (h : Within R s t) (hp : R.Allows [.power .pwrEn]) :
    Within R s { t with power := { t.power with pwrEn := x } } :=
  h.alter hp (hpower := by rintro ⟨⟩ <;> simp [PowerPiece.same])

theorem withPowerRcHzStored {x : Nat} {y : Option StoredClocks} (h : Within R s t) (hp : R.Allows [.power .rcHz, .power .stored])
    :
    Within R s { t with power := { t.power with rcHz := x, stored := y } } :=
  h.alter hp (hpower := by rintro ⟨⟩ <;> simp [PowerPiece.same])

theorem withPowerStored {x : Option StoredClocks} (h : Within R s t) (hp : R.Allows [.power .stored]) :
    Within R s { t with power := { t.power with stored := x } } :=
  h.alter hp (hpower := by rintro ⟨⟩ <;> simp [PowerPiece.same])

theorem withPowerTimerDue {x : Bool} (h : Within R s t) (hp : R.Allows [.power .timerDue]) :
    Within R s { t with power := { t.power with timerDue := x } } :=
  h.alter hp (hpower := by rintro ⟨⟩ <;> simp [PowerPiece.same])

theorem withPowerTripRun {x : Vector Nat 12} (h : Within R s t) (hp : R.Allows [.power .tripRun]) :
    Within R s { t with power := { t.power with tripRun := x } } :=
  h.alter hp (hpower := by rintro ⟨⟩ <;> simp [PowerPiece.same])

theorem withPowerTripWait {x : Bool} (h : Within R s t) (hp : R.Allows [.power .tripWait]) :
    Within R s { t with power := { t.power with tripWait := x } } :=
  h.alter hp (hpower := by rintro ⟨⟩ <;> simp [PowerPiece.same])

theorem withPowerWakePin {x : Bool} (h : Within R s t) (hp : R.Allows [.power .wakePin]) :
    Within R s { t with power := { t.power with wakePin := x } } :=
  h.alter hp (hpower := by rintro ⟨⟩ <;> simp [PowerPiece.same])

theorem withTestDress {x : Bool} (h : Within R s t) (hp : R.Allows [.test .dress]) :
    Within R s { t with test := { t.test with dress := x } } :=
  h.alter hp (htest := by rintro ⟨⟩ <;> simp [TestPiece.same])

theorem withTestFencedBdac {x : Nat} (h : Within R s t) (hp : R.Allows [.test .fencedBdac]) :
    Within R s { t with test := { t.test with fencedBdac := x } } :=
  h.alter hp (htest := by rintro ⟨⟩ <;> simp [TestPiece.same])

theorem withTestFencedGroups {x : Nat} (h : Within R s t) (hp : R.Allows [.test .fencedGroups]) :
    Within R s { t with test := { t.test with fencedGroups := x } } :=
  h.alter hp (htest := by rintro ⟨⟩ <;> simp [TestPiece.same])

theorem withTestFencedSense {x : Nat} (h : Within R s t) (hp : R.Allows [.test .fencedSense]) :
    Within R s { t with test := { t.test with fencedSense := x } } :=
  h.alter hp (htest := by rintro ⟨⟩ <;> simp [TestPiece.same])

theorem withTestJtagIr {x : Nat} (h : Within R s t) (hp : R.Allows [.test .jtagIr]) :
    Within R s { t with test := { t.test with jtagIr := x } } :=
  h.alter hp (htest := by rintro ⟨⟩ <;> simp [TestPiece.same])

theorem withTestJtagPins {x : Bool} (h : Within R s t) (hp : R.Allows [.test .jtagPins]) :
    Within R s { t with test := { t.test with jtagPins := x } } :=
  h.alter hp (htest := by rintro ⟨⟩ <;> simp [TestPiece.same])

theorem withTestMemTest {x : Option Nat} (h : Within R s t) (hp : R.Allows [.test .memTest]) :
    Within R s { t with test := { t.test with memTest := x } } :=
  h.alter hp (htest := by rintro ⟨⟩ <;> simp [TestPiece.same])

theorem withTestRehearsal {x : Option Rehearsal} (h : Within R s t) (hp : R.Allows [.test .rehearsal]) :
    Within R s { t with test := { t.test with rehearsal := x } } :=
  h.alter hp (htest := by rintro ⟨⟩ <;> simp [TestPiece.same])

theorem withTestRehearsalMemTestDressResults {x : Option Rehearsal} {y : Option Nat} {z : Bool} {w : List (Nat × Nat × Nat)}
    (h : Within R s t) (hp : R.Allows [.test .rehearsal, .test .memTest, .test .dress, .test .results]) :
    Within R s { t with test := { t.test with rehearsal := x, memTest := y, dress := z, results := w } } :=
  h.alter hp (htest := by rintro ⟨⟩ <;> simp [TestPiece.same])

theorem withTestResults {x : List (Nat × Nat × Nat)} (h : Within R s t) (hp : R.Allows [.test .results]) :
    Within R s { t with test := { t.test with results := x } } :=
  h.alter hp (htest := by rintro ⟨⟩ <;> simp [TestPiece.same])

theorem withSecActivate {x : Bool} (h : Within R s t) (hp : R.Allows [.sec .activate]) :
    Within R s { t with sec := { t.sec with activate := x } } :=
  h.alter hp (hsec := by rintro ⟨⟩ <;> simp [SecPiece.same])

theorem withSecActivateTrialAt {x : Bool} {y : Option (BitVec 64)} (h : Within R s t)
    (hp : R.Allows [.sec .activate, .sec .trialAt]) :
    Within R s { t with sec := { t.sec with activate := x, trialAt := y } } :=
  h.alter hp (hsec := by rintro ⟨⟩ <;> simp [SecPiece.same])

theorem withSecBoot {x : Vector BootRecord 2} (h : Within R s t) (hp : R.Allows [.sec .boot]) :
    Within R s { t with sec := { t.sec with boot := x } } :=
  h.alter hp (hsec := by rintro ⟨⟩ <;> simp [SecPiece.same])

theorem withSecCache {x : Option SettingsBlock} (h : Within R s t) (hp : R.Allows [.sec .cache]) :
    Within R s { t with sec := { t.sec with cache := x } } :=
  h.alter hp (hsec := by rintro ⟨⟩ <;> simp [SecPiece.same])

theorem withSecCacheApplyDue {x : Option SettingsBlock} {y : Bool} (h : Within R s t)
    (hp : R.Allows [.sec .cache, .sec .applyDue]) :
    Within R s { t with sec := { t.sec with cache := x, applyDue := y } } :=
  h.alter hp (hsec := by rintro ⟨⟩ <;> simp [SecPiece.same])

theorem withSecChallenge {x : Option (BitVec 256 × Nat)} (h : Within R s t) (hp : R.Allows [.sec .challenge]) :
    Within R s { t with sec := { t.sec with challenge := x } } :=
  h.alter hp (hsec := by rintro ⟨⟩ <;> simp [SecPiece.same])

theorem withSecFieldDiag {x : Bool} (h : Within R s t) (hp : R.Allows [.sec .fieldDiag]) :
    Within R s { t with sec := { t.sec with fieldDiag := x } } :=
  h.alter hp (hsec := by rintro ⟨⟩ <;> simp [SecPiece.same])

theorem withSecFormat {x : Nat} (h : Within R s t) (hp : R.Allows [.sec .format]) :
    Within R s { t with sec := { t.sec with format := x } } :=
  h.alter hp (hsec := by rintro ⟨⟩ <;> simp [SecPiece.same])

theorem withSecImages {x : Vector (Option FlashImage) 2} (h : Within R s t) (hp : R.Allows [.sec .images]) :
    Within R s { t with sec := { t.sec with images := x } } :=
  h.alter hp (hsec := by rintro ⟨⟩ <;> simp [SecPiece.same])

theorem withSecImagesUpdate {x : Vector (Option FlashImage) 2} {y : Option Update} (h : Within R s t)
    (hp : R.Allows [.sec .images, .sec .update]) :
    Within R s { t with sec := { t.sec with images := x, update := y } } :=
  h.alter hp (hsec := by rintro ⟨⟩ <;> simp [SecPiece.same])

theorem withSecLockClosed {x : Bool} (h : Within R s t) (hp : R.Allows [.sec .lockClosed]) :
    Within R s { t with sec := { t.sec with lockClosed := x } } :=
  h.alter hp (hsec := by rintro ⟨⟩ <;> simp [SecPiece.same])

theorem withSecLockedLockClosedUpdateOps {x : Bool} {y : Bool} {z : Option Update} {w : List FlashOp} (h : Within R s t)
    (hp : R.Allows [.sec .locked, .sec .lockClosed, .sec .update, .sec .ops]) :
    Within R s { t with sec := { t.sec with locked := x, lockClosed := y, update := z, ops := w } } :=
  h.alter hp (hsec := by rintro ⟨⟩ <;> simp [SecPiece.same])

theorem withSecMigration {x : Option Migration} (h : Within R s t) (hp : R.Allows [.sec .migration]) :
    Within R s { t with sec := { t.sec with migration := x } } :=
  h.alter hp (hsec := by rintro ⟨⟩ <;> simp [SecPiece.same])

theorem withSecOps {x : List FlashOp} (h : Within R s t) (hp : R.Allows [.sec .ops]) :
    Within R s { t with sec := { t.sec with ops := x } } :=
  h.alter hp (hsec := by rintro ⟨⟩ <;> simp [SecPiece.same])

theorem withSecPulse {x : Option Nat} (h : Within R s t) (hp : R.Allows [.sec .pulse]) :
    Within R s { t with sec := { t.sec with pulse := x } } :=
  h.alter hp (hsec := by rintro ⟨⟩ <;> simp [SecPiece.same])

theorem withSecRecovery {x : Bool} (h : Within R s t) (hp : R.Allows [.sec .recovery]) :
    Within R s { t with sec := { t.sec with recovery := x } } :=
  h.alter hp (hsec := by rintro ⟨⟩ <;> simp [SecPiece.same])

theorem withSecReverted {x : Option Bool} (h : Within R s t) (hp : R.Allows [.sec .reverted]) :
    Within R s { t with sec := { t.sec with reverted := x } } :=
  h.alter hp (hsec := by rintro ⟨⟩ <;> simp [SecPiece.same])

theorem withSecRunningRecovery {x : Option (Fin 2)} {y : Bool} (h : Within R s t) (hp : R.Allows [.sec .running, .sec .recovery])
    :
    Within R s { t with sec := { t.sec with running := x, recovery := y } } :=
  h.alter hp (hsec := by rintro ⟨⟩ <;> simp [SecPiece.same])

theorem withSecSession {x : Bool} (h : Within R s t) (hp : R.Allows [.sec .session]) :
    Within R s { t with sec := { t.sec with session := x } } :=
  h.alter hp (hsec := by rintro ⟨⟩ <;> simp [SecPiece.same])

theorem withSecSettings {x : Vector (Option SettingsBlock) 2} (h : Within R s t) (hp : R.Allows [.sec .settings]) :
    Within R s { t with sec := { t.sec with settings := x } } :=
  h.alter hp (hsec := by rintro ⟨⟩ <;> simp [SecPiece.same])

theorem withSecSettingsCache {x : Vector (Option SettingsBlock) 2} {y : Option SettingsBlock} (h : Within R s t)
    (hp : R.Allows [.sec .settings, .sec .cache]) :
    Within R s { t with sec := { t.sec with settings := x, cache := y } } :=
  h.alter hp (hsec := by rintro ⟨⟩ <;> simp [SecPiece.same])

theorem withSecTrialAt {x : Option (BitVec 64)} (h : Within R s t) (hp : R.Allows [.sec .trialAt]) :
    Within R s { t with sec := { t.sec with trialAt := x } } :=
  h.alter hp (hsec := by rintro ⟨⟩ <;> simp [SecPiece.same])

theorem withSecTrialAtRevertedMigration {x : Option (BitVec 64)} {y : Option Bool} {z : Option Migration} (h : Within R s t)
    (hp : R.Allows [.sec .trialAt, .sec .reverted, .sec .migration]) :
    Within R s { t with sec := { t.sec with trialAt := x, reverted := y, migration := z } } :=
  h.alter hp (hsec := by rintro ⟨⟩ <;> simp [SecPiece.same])

theorem withSecUpdate {x : Option Update} (h : Within R s t) (hp : R.Allows [.sec .update]) :
    Within R s { t with sec := { t.sec with update := x } } :=
  h.alter hp (hsec := by rintro ⟨⟩ <;> simp [SecPiece.same])

theorem withSecZeroized {x : Bool} (h : Within R s t) (hp : R.Allows [.sec .zeroized]) :
    Within R s { t with sec := { t.sec with zeroized := x } } :=
  h.alter hp (hsec := by rintro ⟨⟩ <;> simp [SecPiece.same])

/-- The prompt book is reporting's own. -/
theorem withBook {b : BookState} (h : Within R s t) : Within R s { t with book := b } := h.still

/-- So are the counters and their marks. -/
theorem counted {c : List (Nat × Nat)} {l : List Nat} (h : Within R s t) :
    Within R s { t with obs := { t.obs with counters := c, invalid := l } } := h.still

/-- Fuses are burned. -/
theorem burn {o : Otp} (h : Within R s t) (hp : R.Allows [.sec .otp]) (ho : FusesKept t.sec.otp o) :
    Within R s { t with sec := { t.sec with otp := o } } :=
  h.alter hp (hsec := by rintro ⟨⟩ <;> simp [SecPiece.same]) (hotp := ho)

theorem ite {c : Prop} [Decidable c] {a b : State} (ha : Within R s a) (hb : Within R s b) :
    Within R s (if c then a else b) := by
  split
  · exact ha
  · exact hb

theorem ite_fst {c : Prop} [Decidable c] {α : Type} {a b : State × α} (ha : Within R s a.1) (hb : Within R s b.1) :
    Within R s (if c then a else b).1 := by
  split
  · exact ha
  · exact hb

theorem foldl {α : Type} {f : State → α → State} {l : List α} (h : Within R s t)
    (hf : ∀ u, ∀ a ∈ l, Within R s u → Within R s (f u a)) : Within R s (l.foldl f t) :=
  List.foldlRecOn l f h fun u hu a ha => hf u a ha hu

/-- The state of a pair. -/
theorem mk_fst {α : Type} {b : α} (h : Within R s t) : Within R s (t, b).1 := h

/-- Steps over a list that carry something beside the state. -/
theorem foldlFst {α β : Type} {f : State × β → α → State × β} {l : List α} {x : State × β} (h : Within R s x.1)
    (hf : ∀ y, ∀ a ∈ l, Within R s y.1 → Within R s (f y a).1) : Within R s (l.foldl f x).1 :=
  List.foldlRecOn (motive := fun y => Within R s y.1) l f h fun y hy a ha => hf y a ha hy

/-- The state of a pair, after the pair was taken apart. -/
theorem fst {α : Type} {x : State × α} {a : State} {b : α} (h : Within R s x.1) (he : x = (a, b)) : Within R s a := by
  rw [he] at h
  exact h

/-! Register fields. -/

theorem wrKey {f : Field} {v i j : Nat} (h : Within R s t) (hk : f.key i j ∉ reportKeys → R.keys (f.key i j)) :
    Within R s (wr t f v i j) :=
  h.trans
    { piece := fun q _ => Piece.same_rfl t q
      fld := fun k hr hn => aGet_fPut_other t.fld f i j v k fun e => hn (e ▸ hk (e ▸ hr))
      pending := rfl
      window := id
      fuses := .rfl' _
      bulk := fun _ => .of_window rfl }

section Fields

variable {f : Field} {fs : List Field} {i j : Nat} (h : Within R s t) (hk : R.OpenAt fs i)

include h hk

theorem wr {v : Nat} (hf : f ∈ fs := by decide) (hj : j = 0 ∨ j < f.place.count2 := by exact .inl rfl) : Within R s
    (wr t f v i j) :=
  h.wrKey fun _ => hk f hf j hj

theorem wrB {b : Bool} (hf : f ∈ fs := by decide) (hj : j = 0 ∨ j < f.place.count2 := by exact .inl rfl) : Within R s
    (wrB t f b i j) :=
  h.wr hk hf hj

theorem wrI {v : Int} (hf : f ∈ fs := by decide) (hj : j = 0 ∨ j < f.place.count2 := by exact .inl rfl) : Within R s
    (wrI t f v i j) :=
  h.wr hk hf hj

theorem inc {n : Nat} (hf : f ∈ fs := by decide) (hj : j = 0 ∨ j < f.place.count2 := by exact .inl rfl) : Within R s
    (inc t f n i j) :=
  h.wr hk hf hj

theorem incSat {n : Nat} (hf : f ∈ fs := by decide) (hj : j = 0 ∨ j < f.place.count2 := by exact .inl rfl) :
    Within R s (incSat t f n i j) :=
  h.wr hk hf hj

end Fields

/-- A change of register fields alone. -/
theorem withFld {m : FieldMap} (h : Within R s t) (hm : ∀ k, ¬R.keys k → aGet m k = aGet t.fld k) :
    Within R s { t with fld := m } :=
  h.trans
    { piece := fun q _ => Piece.same_rfl t q
      fld := fun k _ hn => hm k hn
      pending := rfl
      window := id
      fuses := .rfl' _
      bulk := fun _ => .of_window rfl }

/-- In a full scope anything may follow that keeps the queue and burns fuses only, with a window in form. -/
theorem anything (h : Within R s t) (hR : R.Full) (hpend : u.pending = t.pending)
    (hwin : Memory.wf t.mgmt.window = true → Memory.wf u.mgmt.window = true) (hotp : FusesKept t.sec.otp u.sec.otp) : Within R s
        u :=
  h.trans
    { piece := fun q hq => absurd (hR.parts q) hq
      fld := fun k _ hk => absurd (hR.keys k) hk
      pending := hpend
      window := hwin
      fuses := hotp
      bulk := fun hb => absurd hR.bulk hb }

section WideFields

variable {f : Field} {i j : Nat} (h : Within R s t) (hw : R.Wide)

include h hw

theorem wrWide {v : Nat} (hf : f.OffLayout := by decide) : Within R s (Machine.wr t f v i j) := h.wrKey fun _ => hw _ fun hk =>
    absurd hk (hf.key i j)

theorem wrBWide {b : Bool} (hf : f.OffLayout := by decide) : Within R s (Machine.wrB t f b i j) := h.wrWide hw hf

theorem wrIWide {v : Int} (hf : f.OffLayout := by decide) : Within R s (Machine.wrI t f v i j) := h.wrWide hw hf

theorem incWide {n : Nat} (hf : f.OffLayout := by decide) : Within R s (Machine.inc t f n i j) := h.wrWide hw hf

theorem incSatWide {n : Nat} (hf : f.OffLayout := by decide) : Within R s (Machine.incSat t f n i j) := h.wrWide hw hf

end WideFields

theorem wrE {f : Field} {v i j : Nat} (h : Within R s t) (hp : R.Allows [.eff]) : Within R s (wrE t f v i j) := h.withEff hp

/-! Reporting. -/

theorem wrReport {f : Field} {v i j : Nat} (h : Within R s t) (hk : f.key i j ∈ reportKeys := by decide) :
    Within R s (Machine.wr t f v i j) :=
  h.reports (.wr t f v hk)

theorem raiseEvent {e : Ev} (h : Within R s t) : Within R s (raiseEvent t e) := h.reports (raiseEvent_above t e)

theorem raiseMexis {e : Ev} (h : Within R s t) : Within R s (raiseMexis t e) := h.ite h.raiseEvent

theorem bump {i n : Nat} (h : Within R s t) : Within R s (bump t i n) := h.reports (bump_above t i n)

theorem counterRestart {i : Nat} {found : Bool} (h : Within R s t) : Within R s (counterRestart t i found) :=
  h.reports (counterRestart_above ..)

theorem drainLost (h : Within R s t) : Within R s (drainLost t) := h.reports (drainLost_above t)

theorem offer {opcode : Nat} {c : Cmd} (h : Within R s t) : Within R s (offer t opcode c) := h.reports (offer_above ..)

theorem slotRead (h : Within R s t) : Within R s (slotRead t) := h.reports (slotRead_above t)

theorem bookWrite {kind w1 l d0 d1 count : Nat} (h : Within R s t) : Within R s (bookWrite t kind w1 l d0 d1 count) :=
  h.reports (bookWrite_above ..)

theorem curtain {trigger code l : Nat} {d1 : Option Nat} (h : Within R s t) : Within R s (curtain t trigger code l d1) :=
  h.reports (curtain_above ..)

theorem complete {tag : BitVec 16} {opcode : Nat} {notify : Bool} {code sub r0 r1 : Nat} (h : Within R s t) :
    Within R s (complete t tag opcode notify code sub r0 r1) :=
  h.reports (complete_above ..)

theorem drainWaiting {ws : List Waiting} (h : Within R s t) : Within R s (drainWaiting ws t) := h.reports
    (drainWaiting_above ws t)

theorem setBank {k : Nat} {b : MemBank} (h : Within R s t) : Within R s (setBank t k b) :=
  h.reports (.of_window (setBank_reports t k b) rfl)

theorem bankRenewed {k : Nat} (h : Within R s t) : Within R s (bankRenewed t k) := h.setBank

theorem bankWritten {k a : Nat} (h : Within R s t) : Within R s (bankWritten t k a) := h.setBank

theorem bankWrittenAll {k : Nat} {as : List Nat} (h : Within R s t) : Within R s (bankWrittenAll t k as) := h.setBank

theorem bankInvalid {k a : Nat} (h : Within R s t) : Within R s (bankInvalid t k a) := h.setBank

theorem eccRead {k a : Nat} (h : Within R s t) (hk : k ≠ 8 := by omega) : Within R s (eccRead t k a).1 :=
  h.reports (eccRead_above t k a fun e => absurd e hk)

theorem eccReadAll {k : Nat} {as : List Nat} (h : Within R s t) (hk : k ≠ 8 := by omega) : Within R s (eccReadAll t k as).1 :=
  h.reports (eccThrough_above k as t fun e => absurd e hk)

/-- A word of the ring window is read. -/
theorem eccReadWindow {a : Nat} (h : Within R s t) (hb : R.bulk) : Within R s (Machine.eccRead t 8 a).1 :=
  h.reportsBulk hb (eccRead_reports ..)

theorem eccReadAllWindow {as : List Nat} (h : Within R s t) (hb : R.bulk) : Within R s (Machine.eccReadAll t 8 as).1 :=
  h.reportsBulk hb (eccThrough_reports ..)

/-- Words of the bulk area are read, or written. -/
theorem fetchWords {a n : Nat} (h : Within R s t) (hb : R.bulk) : Within R s (fetchWords t a n).1 :=
  h.reportsBulk hb (fetchWords_reports ..)

theorem putWords {a : Nat} {ws : List Nat} (h : Within R s t) (hb : R.bulk) : Within R s (putWords t a ws) :=
  h.reportsBulk hb (putWords_reports ..)

theorem putBytes {a : Nat} {bs : List Byte} (h : Within R s t) (hb : R.bulk) : Within R s (putBytes t a bs) :=
  h.reportsBulk hb (putBytes_reports ..)

theorem bulkWords {off : Nat} {ws : List Nat} (h : Within R s t) (hb : R.bulk) : Within R s (bulkWords t off ws) :=
  h.putWords hb

/-- A word of another bank than the window's is found lost. -/
theorem reportUncorrOther {k a : Nat} {scrub : Bool} (h : Within R s t) (hk : k ≠ 8) : Within R s
    (Machine.reportUncorr t k a scrub) :=
  h.reports (reportUncorr_above t k a scrub fun e => absurd e hk)

theorem reportUncorr {k a : Nat} {scrub : Bool} (h : Within R s t) (hb : R.bulk) : Within R s (reportUncorr t k a scrub) :=
  h.reportsBulk hb (reportUncorr_reports ..)

theorem completeProg {opcode key code sub r0 r1 : Nat} (h : Within R s t) (hp : R.Allows [.mgmt .inProgress]) :
    Within R s (completeProg t opcode key code sub r0 r1) := by
  unfold Machine.completeProg
  split
  · exact .ite (h.withMgmtInProgress hp) (h.withMgmtInProgress hp).complete
  · exact h

end Within

/-! Ring commands. -/

/-- A command's own part stays within the scope, and answers that it goes on only where the scope has management, which lists
it. -/
def Answers (R : Scope) (s : State) (x : State × Reply) : Prop :=
  Within R s x.1 ∧ (R.Allows [.mgmt .inProgress] ∨ ∃ code sub r0 r1, x.2 = .done code sub r0 r1)

namespace Within

variable {R : Scope} {s t : State}

theorem done {code sub r0 r1 : Nat} (h : Within R s t) : Answers R s (t, .done code sub r0 r1) := ⟨h, .inr ⟨_, _, _, _, rfl⟩⟩

theorem later {key aux : Nat} (h : Within R s t) (hp : R.Allows [.mgmt .inProgress]) : Answers R s (t, .later key aux) :=
    ⟨h, .inl hp⟩

theorem finish {opcode : Nat} {c : Cmd} {x : State × Reply} (h : Answers R s x) : Within R s (finish opcode c x.1 x.2) := by
  obtain ⟨hwithin, hreply⟩ := h
  rcases x with ⟨u, _ | ⟨key, aux⟩⟩
  · exact hwithin.complete
  · obtain hp | ⟨_, _, _, _, hdone⟩ := hreply
    · simp only [Machine.finish]
      exact hwithin.withMgmtInProgress hp
    · cases hdone

/-- A ring command (R324, R328) stays within what its own part does. -/
theorem hostCmd {opcode : Nat} {masks : List (Nat × Nat)} {gate : State → Option (Nat × Nat)} {c : Cmd}
    {body : State → State × Reply} (h : Within R s t)
    (hbody : ∀ u, reservedWord c masks = none → gate u = none → Within R s u → Answers R s (body u)) :
    Within R s (hostCmd opcode masks gate c body t) := by
  have hoffer := h.reports (offer_above t opcode c)
  have htaken := hoffer.reports (slotRead_above _)
  unfold Machine.hostCmd
  simp only
  split
  · refine .ite htaken.complete (.ite htaken.complete ?_)
    split
    · exact htaken.complete
    · next hmasks =>
      split
      · exact htaken.complete
      · next hgate => exact finish (hbody _ hmasks hgate htaken)
  · exact hoffer

end Within

namespace Answers

variable {R : Scope} {s t : State}

theorem withChecks {cs : State → List (Bool × Nat × Nat)} {act : State → State × Reply} (h : Within R s t)
    (hact : firstFail (cs t) = none → Answers R s (act t)) : Answers R s (withChecks cs act t) := by
  unfold Machine.withChecks
  split
  · exact h.done
  · next hpass => exact hact hpass

theorem ite {c : Prop} [Decidable c] {a b : State × Reply} (ha : Answers R s a) (hb : Answers R s b) :
    Answers R s (if c then a else b) := by
  split
  · exact ha
  · exact hb

end Answers

end Sys2Proof.Machine
end


section
/-! PROOFS. What every operation of the model may change. -/

namespace Sys2Proof.Machine

open Sys2Proof

set_option Elab.async false

theorem lt_of_mem_portLines {s : State} {p n : Nat} (h : n ∈ portLines s p) : n < 8 := by
  simpa using (List.mem_filter.1 h).2

theorem lt_of_mem_portHosts {s : State} {p n : Nat} (h : n ∈ portHosts s p) : n < 16 := by
  simpa using (List.mem_filter.1 h).2

theorem lt_of_mem_whichBelow {n k : Nat} {p : Nat → Bool} (h : k ∈ whichBelow n p) : k < n :=
  List.mem_range.1 (List.mem_of_mem_filter h)

theorem loopGroup_lt (s : State) (l : Nat) : loopGroup s l < 8 := rdE_lt s F.LOOP_CTRL_GROUP l 0

theorem mem_calShown_COUNT_COUNT (t : CalTarget) : F.CAL_COUNT_COUNT t ∈ calShown := by cases t <;> decide
theorem mem_calShown_LAST_LO_HC_LO (t : CalTarget) : F.CAL_LAST_LO_HC_LO t ∈ calShown := by cases t <;> decide
theorem mem_calShown_LAST_HI_HC_HI (t : CalTarget) : F.CAL_LAST_HI_HC_HI t ∈ calShown := by cases t <;> decide
theorem mem_calShown_INFO_ESTIMATED (t : CalTarget) : F.CAL_INFO_ESTIMATED t ∈ calShown := by cases t <;> decide
theorem mem_calShown_INFO_SETS (t : CalTarget) : F.CAL_INFO_SETS t ∈ calShown := by cases t <;> decide
theorem mem_calShown_INFO_RESULT (t : CalTarget) : F.CAL_INFO_RESULT t ∈ calShown := by cases t <;> decide
theorem mem_calShown_INFO_TEMP (t : CalTarget) : F.CAL_INFO_TEMP t ∈ calShown := by cases t <;> decide

theorem lt_of_mem_groupMembers {s : State} {g l : Nat} (h : l ∈ groupMembers s g) : l < 32 := lt_of_mem_whichBelow h

theorem lowestOf_mem {s : State} {ls : List Nat} {w : Nat} (h : lowestOf s ls = some w) : w ∈ ls := by
  induction ls generalizing w with
  | nil => cases h
  | cons l ls ih =>
    unfold lowestOf at h
    split at h
    · cases h
      exact List.mem_cons_self ..
    · next m hm =>
      split at h
      · cases h
        exact List.mem_cons_self ..
      · cases h
        exact List.mem_cons_of_mem _ (ih hm)

/-- Only a lane that there is holds an adaptation's run. -/
theorem xaRun_lt {s : State} {n : Nat} {x : XaRun} (h : xaRun s n = some x) : n < 8 := by
  by_contra hn
  simp [xaRun, vGet, Vector.getElem?_eq_none (not_lt.1 hn)] at h

/-- The member that a group's actuator follows is one of the 32 loops (R263, R264). -/
theorem groupWinner_lt {s : State} {g w : Nat} {esc : Bool} {q : Nat → Bool}
    (h : (if esc then (if ((groupMembers s g).filter q).contains (rdE s F.LOOP_GRP_g_SAFETY g) then
        some (rdE s F.LOOP_GRP_g_SAFETY g) else none) else lowestOf s ((groupMembers s g).filter q)) = some w) : w < 32 := by
  split at h
  · split at h
    · cases h
      exact rdE_lt s F.LOOP_GRP_g_SAFETY g 0
    · cases h
  · exact lt_of_mem_groupMembers (List.mem_of_mem_filter (lowestOf_mem h))

theorem lutBank_ne_window (n b : Nat) : lutBank n b ≠ 8 := by
  unfold lutBank
  omega

theorem bucketBank_ne_window (b : Nat) : bucketBank b ≠ 8 := by
  unfold bucketBank
  omega

theorem ctxBank_ne_window (c : Nat) : ctxBank c ≠ 8 := by
  unfold ctxBank
  omega

theorem GoInst.slots_offLayout {x : GoInst} {e : Field × Nat} (h : e ∈ x.slots) : e.1.OffLayout := by
  obtain ⟨f, hf, he⟩ := List.mem_flatMap.1 h
  obtain ⟨j, -, rfl⟩ := List.mem_map.1 he
  have hstaged : ∀ f ∈ stagedProfile ++ stagedPort ++ stagedLine ++ stagedHost ++ stagedLoop ++ stagedGroup ++ stagedBdac ++
      stagedDgen ++ stagedSense ++ stagedFlow, f.OffLayout := by decide +kernel
  refine hstaged f ?_
  cases x <;> simp only [GoInst.fields] at hf <;> simp only [List.mem_append, hf, true_or, or_true]

/-! Maps of register fields. -/

theorem aGet_filter_of {α : Type} {m : List (Nat × α)} {p : Nat × α → Bool} {k : Nat} (h : ∀ v, p (k, v) = true) :
    aGet (m.filter p) k = aGet m k := by
  induction m with
  | nil => rfl
  | cons e m ih =>
    obtain ⟨a, v⟩ := e
    by_cases ha : a = k
    · subst ha
      simp [List.filter, h v, aGet]
    · by_cases hp : p (a, v) = true
      · simp [List.filter, hp, aGet, ha, ih]
      · simp [List.filter, hp, aGet, ha, ih]

theorem aGet_overlay_other {m above : FieldMap} {k : Nat} (h : ∀ e ∈ above, e.1 ≠ k) : aGet (overlay m above) k = aGet m k := by
  unfold overlay
  induction above generalizing m with
  | nil => rfl
  | cons e above ih =>
    rw [List.foldl_cons, ih fun d hd => h d (List.mem_cons_of_mem _ hd)]
    exact aGet_aSet_other _ _ (h e (List.mem_cons_self ..)).symm

theorem layoutKeys_addr : ∀ k ∈ layoutKeys, k / 32 = Regs.RING_LAYOUT.base := by decide

/-- An address below a block is not in it. -/
theorem within_of_lt {a base size : Nat} (h : a < base) : within a base size = false := by
  simp [within, Nat.not_le.mpr h]

/-- RING_LAYOUT lies below every cluster's registers. -/
theorem clusterAddr_layout (s : State) (cls inst : Nat) : clusterAddr s cls inst Regs.RING_LAYOUT.base = false := by
  have hin : ∀ base size, 0x10100 < base → within Regs.RING_LAYOUT.base base size = false := fun _ _ h => within_of_lt h
  have hat : ∀ base, 0x10100 < base → (Regs.RING_LAYOUT.base == base) = false := fun _ h => beq_false_of_ne (Nat.ne_of_lt h)
  unfold clusterAddr
  split <;> simp (disch := omega) [hin, hat]

/-- The fields that hold a bias DAC's code in the engine: a loop's own, or its group's (R263). -/
theorem mem_engineCodes {s : State} {c : Nat} {e : Field × Nat} (h : e ∈ engineCodes s c) :
    e.1 = F.LOOP_STATUS_CODE ∧ e.2 < 32 ∨ e.1 = F.LOOP_GRP_STATUS_g_CODE ∧ e.2 < 8 := by
  obtain hl | hg := List.mem_append.1 h
  · obtain ⟨l, hmem, rfl⟩ := List.mem_map.1 hl
    obtain hsolo | hdriver := List.mem_append.1 hmem
    · exact .inl ⟨rfl, lt_of_mem_whichBelow hsolo⟩
    · exact .inl ⟨rfl, lt_of_mem_whichBelow (List.mem_of_mem_filter hdriver)⟩
  · obtain ⟨g, hmem, rfl⟩ := List.mem_map.1 hg
    exact .inr ⟨rfl, lt_of_mem_whichBelow hmem⟩

/-! Fuses. -/

/-- One condition of several, as firstFail folds them. -/
def failOf (o : Option (Nat × Nat)) (c : Bool × Nat × Nat) : Option (Nat × Nat) :=
  if c.1 then
    match o with
    | none => some c.2
    | some b => if c.2.1 < b.1 then some c.2 else some b
  else o

theorem failOf_eq_none {o : Option (Nat × Nat)} {c : Bool × Nat × Nat} (h : failOf o c = none) : o = none ∧ c.1 = false := by
  unfold failOf at h
  split at h
  · split at h
    · cases h
    · split at h <;> cases h
  · next hc => exact ⟨h, Bool.not_eq_true _ ▸ hc⟩

theorem foldl_failOf_eq_none {cs : List (Bool × Nat × Nat)} {o : Option (Nat × Nat)} (h : cs.foldl failOf o = none) :
    o = none ∧ ∀ c ∈ cs, c.1 = false := by
  induction cs generalizing o with
  | nil => exact ⟨h, fun _ hc => nomatch hc⟩
  | cons c cs ih =>
    obtain ⟨hnone, hcs⟩ := ih h
    obtain ⟨ho, hc⟩ := failOf_eq_none hnone
    exact ⟨ho, List.forall_mem_cons.2 ⟨hc, hcs⟩⟩

/-- No condition fails where none is reported. -/
theorem of_firstFail_none {cs : List (Bool × Nat × Nat)} (h : firstFail cs = none) : ∀ c ∈ cs, c.1 = false :=
  (foldl_failOf_eq_none h).2

theorem life_le_of_allowed {o : Otp} {target : Nat} (h : lifeAllowed o target = true) : o.life ≤ target := by
  simp only [lifeAllowed, Bool.or_eq_true, Bool.and_eq_true, beq_iff_eq] at h
  omega

/-- A field that is not programmed is burned. -/
theorem FusesKept.otpBurn {o : Otp} {field : Nat} {ws : List Nat} (h : otpProgrammed o field = false) :
    FusesKept o (otpBurn o field ws) := by
  unfold otpProgrammed at h
  unfold Machine.otpBurn
  split at h
  · next hf =>
    rw [if_pos hf]
    have howner : ∀ k, o.owner ≠ some k := fun k ho => by rw [ho] at h; cases h
    exact ⟨le_rfl, le_rfl, id, fun _ hk => hk, fun _ hk => hk, fun k ho => absurd ho (howner k), fun _ hp => hp⟩
  · next hf =>
    rw [if_neg hf]
    have hpolicy : ∀ p, o.policy ≠ some p := fun p hp => by rw [hp] at h; cases h
    exact ⟨le_rfl, le_rfl, id, fun _ hk => hk, fun _ hk => hk, fun _ ho => ho, fun p hp => absurd hp (hpolicy p)⟩

variable {R : Scope} {s t : State}

/-- The fields that show an equaliser's taps (R90). -/
def eqTapFields : List Field := [F.LEQ_DFE_A_H1, F.LEQ_DFE_A_H2, F.LEQ_DFE_B_H3, F.LEQ_DFE_B_H4, F.LEQ_FFE_TAP_j_TAP,
    F.LEQ_LFR_GAIN_G, F.LEQ_OFS_j_OFS_EVEN, F.LEQ_OFS_j_OFS_ODD]

/-- The fields that show a port's marker locks (R149). -/
def alignFields : List Field := [F.PCS_ALIGN_STATUS_LOCKED, F.PCS_LANE_ALIGN_i_INVERTED, F.PCS_LANE_ALIGN_i_MISMATCH,
    F.PCS_LANE_ALIGN_i_SEEN_LANE, F.PCS_LANE_ALIGN_i_SKEW, F.PCS_LANE_ALIGN_i_STATE]

/-- The fields that show a port's rate matching. -/
def rmFields : List Field := [F.PCS_RM_STATUS_H2L_FILL, F.PCS_RM_STATUS_H2L_SLIP, F.PCS_RM_STATUS_L2H_FILL,
    F.PCS_RM_STATUS_L2H_SLIP]

/-- The fields that show a line equaliser's state. -/
def eqStateFields : List Field := [F.LEQ_STATUS_STATE, F.LEQ_STATUS_VALID, F.LEQ_STATUS_WARM]

/-- The fields that show the error-correction pools. -/
def poolFields : List Field := [F.FEC_POOL_AVAIL_H2L_AVAIL, F.FEC_POOL_AVAIL_H2L_PAUSED, F.FEC_POOL_AVAIL_H2L_SHORT,
    F.FEC_POOL_AVAIL_L2H_AVAIL, F.FEC_POOL_AVAIL_L2H_PAUSED, F.FEC_POOL_AVAIL_L2H_SHORT, F.FEC_POOL_AVAIL_NEED]

/-- The fields that show a sense channel's lock-in. -/
def lockinFields : List Field := [F.SNS_LI_STATUS_n_NOT_SETTLED, F.SNS_LI_n_I, F.SNS_LI_n_Q]

/-- The fields that show a sense channel's value. -/
def senseFields : List Field := [F.SNS_OUT_n_NOT_SETTLED, F.SNS_OUT_n_VALUE, F.SNS_RAW_n_RAW]

/-- The fields that show a line lane's failed slices. -/
def sliceFailedFields : List Field := [F.LRX_SLICE_FAILED_0_FAILED, F.LRX_SLICE_FAILED_1_FAILED, F.LRX_SLICE_STATUS_FAILED_64]

/-- The fields that show a host equaliser's state. -/
def hostEqFields : List Field := [F.HSL_STATUS_EQ_STATE, F.HSL_STATUS_VALID]

/-- The fields that show a line transmitter's state. -/
def lineTxFields : List Field := [F.LTX_STATUS_BURST, F.LTX_STATUS_IDLE]

/-- The fields that show a host transmitter's state. -/
def hostTxFields : List Field := [F.HSL_STATUS_TX_BURST, F.HSL_STATUS_TX_IDLE]

/-- The pieces of the state that hostToLine may change. -/
def hostToLinePieces : List Piece := [.time .tx, .time .rx, .time .cues, .obs .ber, .lanes .lineFront, .lanes .hostFront,
    .lanes .lineRx, .lanes .hostRx, .lanes .tx, .lanes .lineOut, .lanes .hostOut, .lanes .spot, .path .tx, .path .rx,
    .path .superTx, .path .innerTx, .path .hostAt, .path .next, .path .poolNow, .mem .parity, .mem .retrain,
    .faults .windowMarked]

/-- The pieces of the state that superReceive may change. -/
def superReceivePieces : List Piece := [.time .tx, .time .rx, .time .cues, .obs .ber, .lanes .tx, .lanes .lineOut,
    .lanes .hostOut, .path .tx, .path .rx, .path .superRx, .path .superTx, .path .innerTx, .path .next, .path .poolNow,
    .mem .parity, .mem .retrain, .faults .windowMarked]

/-- The pieces of the state that plainReceive may change. -/
def plainReceivePieces : List Piece := [.time .tx, .time .rx, .time .cues, .obs .ber, .lanes .tx, .lanes .lineOut,
    .lanes .hostOut, .lanes .gather, .path .tx, .path .rx, .path .superTx, .path .innerTx, .path .lineAt, .path .next,
    .path .poolNow, .mem .parity, .mem .retrain, .faults .windowMarked]

/-- The pieces of the state that lineToHost may change. -/
def lineToHostPieces : List Piece := [.time .tx, .time .rx, .time .cues, .obs .ber, .lanes .lineFront, .lanes .hostFront,
    .lanes .lineRx, .lanes .hostRx, .lanes .tx, .lanes .lineOut, .lanes .hostOut, .lanes .spot, .lanes .gather, .path .tx,
    .path .rx, .path .superRx, .path .superTx, .path .innerTx, .path .lineAt, .path .next, .path .poolNow, .mem .parity,
    .mem .retrain, .faults .windowMarked]

/-- The pieces of the state that lolRises may change. -/
def lolRisesPieces : List Piece := [.time .tx, .time .rx, .time .paired, .time .cues, .lanes .lineFront, .lanes .hostFront,
    .lanes .lineEq, .lanes .hostEq, .lanes .lineOut, .lanes .hostOut, .lanes .lock, .lanes .xa, .lanes .gather, .link, .path .tx,
    .path .rx, .cal .skewLive]

/-- The pieces of the state that pllLockLoss may change. -/
def pllLockLossPieces : List Piece := [.time .linePll, .time .hostPll, .time .tx, .time .rx, .time .paired, .time .cues,
    .lanes .lineFront, .lanes .hostFront, .lanes .lineEq, .lanes .hostEq, .lanes .lineOut, .lanes .hostOut, .lanes .lock,
    .lanes .xa, .lanes .gather, .link, .path .tx, .path .rx, .path .lineSwitch, .path .hostSwitch, .cal .lineLaps,
    .cal .hostLaps, .cal .skewAgain, .cal .skewLive]

/-- The pieces of the state that setLos may change. -/
def setLosPieces : List Piece := [.time .tx, .time .rx, .time .paired, .time .cues, .lanes .lineFront, .lanes .hostFront,
    .lanes .lineEq, .lanes .hostEq, .lanes .lineRx, .lanes .hostRx, .lanes .lineOut, .lanes .hostOut, .lanes .spot, .lanes .lock,
    .lanes .xa, .lanes .gather, .link, .path .tx, .path .rx, .cal .skewLive]

/-- The pieces of the state that lanePowerUp may change. -/
def lanePowerUpPieces : List Piece := [.time .tx, .time .rx, .time .paired, .time .cues, .lanes .lineFront, .lanes .hostFront,
    .lanes .lineEq, .lanes .hostEq, .lanes .lineRx, .lanes .hostRx, .lanes .lineOut, .lanes .hostOut, .lanes .spot, .lanes .lock,
    .lanes .xa, .lanes .gather, .link, .path .tx, .path .rx, .cal .skewLive, .cal .sets, .cal .inUse, .cal .targets]

/-- The pieces of the state that blockLine may change. -/
def blockLinePieces : List Piece := ([.eff, .time .tx, .time .rx, .time .paired, .time .cues, .lanes .lineFront,
    .lanes .hostFront, .lanes .lineEq, .lanes .hostEq, .lanes .lineRx, .lanes .hostRx, .lanes .tx, .lanes .lineOut,
    .lanes .hostOut, .lanes .spot, .lanes .lock, .lanes .xa, .lanes .xaStart, .lanes .revertDue, .lanes .gather, .link,
    .path .tx, .path .rx, .aside .lanes] : List Piece) ++ Part.cal.pieces ++ ([.mgmt .inProgress] : List Piece)

/-- The pieces of the state that blockHost may change. -/
def blockHostPieces : List Piece := ([.eff, .time .tx, .time .rx, .time .paired, .time .cues, .lanes .lineFront,
    .lanes .hostFront, .lanes .lineEq, .lanes .hostEq, .lanes .lineRx, .lanes .hostRx, .lanes .lineOut, .lanes .hostOut,
    .lanes .spot, .lanes .lock, .lanes .xa, .lanes .gather, .link, .path .tx, .path .rx] : List Piece) ++ Part.cal.pieces ++
    ([.mgmt .inProgress] : List Piece)

/-- The pieces of the state that blockReset may change. -/
def blockResetPieces : List Piece := ([.eff, .time .tx, .time .rx, .time .paired, .time .cues, .obs .buckets, .obs .contexts,
    .obs .flowFull, .obs .shifts, .lanes .lineFront, .lanes .hostFront, .lanes .lineEq, .lanes .hostEq, .lanes .lineRx,
    .lanes .hostRx, .lanes .tx, .lanes .lineOut, .lanes .hostOut, .lanes .spot, .lanes .lock, .lanes .xa, .lanes .xaStart,
    .lanes .revertDue, .lanes .gather, .link, .path .tx, .path .rx, .path .superRx, .path .superTx, .path .innerTx,
    .aside .lanes, .ctl .bdac, .ctl .sense, .ctl .loops] : List Piece) ++ Part.cal.pieces ++ ([.mgmt .inProgress] : List Piece)

/-- The pieces of the state that fenceCluster may change. -/
def fenceClusterPieces : List Piece := ([.time .tx, .time .rx, .time .paired, .time .cues, .lanes .lineFront, .lanes .hostFront,
    .lanes .lineEq, .lanes .hostEq, .lanes .lineRx, .lanes .hostRx, .lanes .lineOut, .lanes .hostOut, .lanes .spot, .lanes .lock,
    .lanes .xa, .lanes .gather, .link, .path .tx, .path .rx, .aside .lanes] : List Piece) ++ Part.cal.pieces ++
    ([.mgmt .inProgress, .test .fencedGroups, .test .fencedBdac, .test .fencedSense] : List Piece)

/-- The pieces of the state that rehearsalEnds may change. -/
def rehearsalEndsPieces : List Piece := ([.eff, .time .tx, .time .rx, .time .paired, .time .cues, .obs .buckets, .obs .contexts,
    .obs .flowFull, .obs .shifts, .lanes .lineFront, .lanes .hostFront, .lanes .lineEq, .lanes .hostEq, .lanes .lineRx,
    .lanes .hostRx, .lanes .tx, .lanes .lineOut, .lanes .hostOut, .lanes .spot, .lanes .lock, .lanes .xa, .lanes .xaStart,
    .lanes .revertDue, .lanes .gather, .link, .path .tx, .path .rx, .path .superRx, .path .superTx, .path .innerTx,
    .aside .lanes, .ctl .bdac, .ctl .sense, .ctl .loops] : List Piece) ++ Part.cal.pieces ++
    ([.mgmt .inProgress, .test .rehearsal, .test .fencedGroups, .test .fencedBdac, .test .fencedSense, .test .results] : List
    Piece)

/-- The pieces of the state that testsAbort may change. -/
def testsAbortPieces : List Piece := ([.eff, .time .tx, .time .rx, .time .paired, .time .cues, .obs .buckets, .obs .contexts,
    .obs .flowFull, .obs .shifts, .lanes .lineFront, .lanes .hostFront, .lanes .lineEq, .lanes .hostEq, .lanes .lineRx,
    .lanes .hostRx, .lanes .tx, .lanes .lineOut, .lanes .hostOut, .lanes .spot, .lanes .lock, .lanes .xa, .lanes .xaStart,
    .lanes .revertDue, .lanes .gather, .link, .path .tx, .path .rx, .path .superRx, .path .superTx, .path .innerTx,
    .aside .lanes, .ctl .bdac, .ctl .sense, .ctl .loops] : List Piece) ++ Part.cal.pieces ++
    ([.mgmt .inProgress, .mgmt .restartCause, .power .warmPending, .test .rehearsal, .test .memTest, .test .dress,
    .test .fencedGroups, .test .fencedBdac, .test .fencedSense, .test .results] : List Piece)

/-- The pieces of the state that testsStop may change. -/
def testsStopPieces : List Piece := ([.eff, .time .tx, .time .rx, .time .paired, .time .cues, .obs .buckets, .obs .contexts,
    .obs .flowFull, .obs .shifts, .lanes .lineFront, .lanes .hostFront, .lanes .lineEq, .lanes .hostEq, .lanes .lineRx,
    .lanes .hostRx, .lanes .tx, .lanes .lineOut, .lanes .hostOut, .lanes .spot, .lanes .lock, .lanes .xa, .lanes .xaStart,
    .lanes .revertDue, .lanes .gather, .link, .path .tx, .path .rx, .path .superRx, .path .superTx, .path .innerTx,
    .aside .lanes, .ctl .bdac, .ctl .sense, .ctl .loops] : List Piece) ++ Part.cal.pieces ++
    ([.mgmt .inProgress, .mgmt .restartCause, .power .warmPending, .test .rehearsal, .test .memTest, .test .dress,
    .test .fencedGroups, .test .fencedBdac, .test .fencedSense, .test .results, .free] : List Piece)

/-- The pieces of the state that sysPllLockLoss may change. -/
def sysPllLockLossPieces : List Piece := [.time .sysPllLocked, .aside .lanes, .ctl .sense, .ctl .loops, .cal .run,
    .cal .lineLaps, .cal .hostLaps, .cal .skewNow, .cal .skewAgain, .cal .skewRepeated, .cal .bdacQueue, .cal .senseQueue,
    .cal .bdacNow, .cal .senseNow, .mgmt .inProgress]

/-- The pieces of the state that clkModeChange may change. -/
def clkModeChangePieces : List Piece := [.time .linePll, .time .hostPll, .time .tx, .time .rx, .time .paired, .time .cues,
    .lanes .lineFront, .lanes .hostFront, .lanes .lineEq, .lanes .hostEq, .lanes .lineOut, .lanes .hostOut, .lanes .lock,
    .lanes .xa, .lanes .gather, .link, .path .tx, .path .rx, .path .refChanged, .path .txFollow, .path .rxFollow,
    .path .modeChange, .cal .skewLive, .mgmt .inProgress]

/-- The pieces of the state that lanesPower may change. -/
def lanesPowerPieces : List Piece := ([.time .tx, .time .rx, .time .paired, .time .cues, .lanes .lineFront, .lanes .hostFront,
    .lanes .lineEq, .lanes .hostEq, .lanes .lineRx, .lanes .hostRx, .lanes .lineOut, .lanes .hostOut, .lanes .spot, .lanes .lock,
    .lanes .xa, .lanes .gather, .link, .path .tx, .path .rx, .aside .lanes] : List Piece) ++ Part.cal.pieces ++
    ([.mgmt .inProgress] : List Piece)

/-- The pieces of the state that alignTest may change. -/
def alignTestPieces : List Piece := [.time .tx, .time .rx, .time .paired, .time .cues, .lanes .lineFront, .lanes .hostFront,
    .lanes .lineEq, .lanes .hostEq, .lanes .lineOut, .lanes .hostOut, .lanes .lock, .lanes .xa, .link, .path .tx, .path .rx,
    .path .superRx, .path .lineAt, .cal .skewLive]

/-- The pieces of the state that portGo may change. -/
def portGoPieces : List Piece := [.time .tx, .time .rx, .time .paired, .time .cues, .time .held, .obs .buckets, .obs .contexts,
    .obs .flowFull, .obs .shifts, .lanes .lineFront, .lanes .hostFront, .lanes .lineEq, .lanes .hostEq, .lanes .lineOut,
    .lanes .hostOut, .lanes .lock, .lanes .xa, .link, .path .tx, .path .rx, .path .superRx, .path .superTx, .path .innerTx,
    .path .lineAt, .path .txFollow, .path .rxFollow, .aside .lanes, .cal .skewLive]

/-- The pieces of the state that laneGo may change. -/
def laneGoPieces : List Piece := [.time .tx, .time .rx, .time .paired, .time .cues, .lanes .lineFront, .lanes .hostFront,
    .lanes .lineEq, .lanes .hostEq, .lanes .lineRx, .lanes .hostRx, .lanes .lineOut, .lanes .hostOut, .lanes .spot, .lanes .lock,
    .lanes .xa, .lanes .gather, .link, .path .tx, .path .rx, .path .lineSlip, .path .hostSlip, .cal .skewLive]

/-- The pieces of the state that goEffects may change. -/
def goEffectsPieces : List Piece := ([.time .linePll, .time .hostPll, .time .tx, .time .rx, .time .paired, .time .cues,
    .time .held, .obs .buckets, .obs .contexts, .obs .flowFull, .obs .shifts, .lanes .lineFront, .lanes .hostFront,
    .lanes .lineEq, .lanes .hostEq, .lanes .lineRx, .lanes .hostRx, .lanes .lineOut, .lanes .hostOut, .lanes .spot, .lanes .lock,
    .lanes .xa, .lanes .gather, .link, .path .tx, .path .rx, .path .superRx, .path .superTx, .path .innerTx, .path .lineAt,
    .path .refChanged, .path .lineSlip, .path .hostSlip, .path .txFollow, .path .rxFollow, .path .modeChange, .aside .lanes,
    .ctl .bdac, .ctl .gens, .ctl .sense, .ctl .loops] : List Piece) ++ Part.cal.pieces ++ ([.mgmt .inProgress] : List Piece)

/-- The pieces of the state that goFire may change. -/
def goFirePieces : List Piece := ([.eff, .time .linePll, .time .hostPll, .time .tx, .time .rx, .time .paired, .time .cues,
    .time .held, .obs .buckets, .obs .contexts, .obs .flowFull, .obs .shifts, .lanes .lineFront, .lanes .hostFront,
    .lanes .lineEq, .lanes .hostEq, .lanes .lineRx, .lanes .hostRx, .lanes .lineOut, .lanes .hostOut, .lanes .spot, .lanes .lock,
    .lanes .xa, .lanes .gather, .link, .path .tx, .path .rx, .path .superRx, .path .superTx, .path .innerTx, .path .lineAt,
    .path .refChanged, .path .lineSlip, .path .hostSlip, .path .txFollow, .path .rxFollow, .path .modeChange, .aside .lanes,
    .ctl .bdac, .ctl .gens, .ctl .sense, .ctl .loops] : List Piece) ++ Part.cal.pieces ++ ([.mgmt .inProgress] : List Piece)

/-- The pieces of the state that fireCodeword may change. -/
def fireCodewordPieces : List Piece := ([.eff, .time .linePll, .time .hostPll, .time .tx, .time .rx, .time .paired, .time .cues,
    .time .held, .obs .banks, .obs .lastBank, .obs .seq, .obs .full, .obs .buckets, .obs .contexts, .obs .image,
    .obs .imageCopying, .obs .flowFull, .obs .shifts, .lanes .lineFront, .lanes .hostFront, .lanes .lineEq, .lanes .hostEq,
    .lanes .lineRx, .lanes .hostRx, .lanes .lineOut, .lanes .hostOut, .lanes .spot, .lanes .lock, .lanes .xa, .lanes .gather,
    .link, .path .tx, .path .rx, .path .superRx, .path .superTx, .path .innerTx, .path .lineAt, .path .refChanged,
    .path .lineSlip, .path .hostSlip, .path .txFollow, .path .rxFollow, .path .modeChange, .aside .lanes, .ctl .bdac, .ctl .gens,
    .ctl .sense, .ctl .loops] : List Piece) ++ Part.cal.pieces ++ ([.mgmt .inProgress] : List Piece)

/-- The pieces of the state that writeAction may change. -/
def writeActionPieces : List Piece := ([.eff, .time .linePll, .time .hostPll, .time .tx, .time .rx, .time .paired, .time .cues,
    .time .held, .obs .banks, .obs .lastBank, .obs .seq, .obs .full, .obs .buckets, .obs .contexts, .obs .image,
    .obs .imageCopying, .obs .flowFull, .obs .shifts, .lanes .lineFront, .lanes .hostFront, .lanes .lineEq, .lanes .hostEq,
    .lanes .lineRx, .lanes .hostRx, .lanes .lineOut, .lanes .hostOut, .lanes .spot, .lanes .lock, .lanes .xa, .lanes .gather,
    .link, .path .tx, .path .rx, .path .superRx, .path .superTx, .path .innerTx, .path .lineAt, .path .refChanged,
    .path .lineSlip, .path .hostSlip, .path .txFollow, .path .rxFollow, .path .modeChange, .aside .lanes, .ctl .bdac, .ctl .gens,
    .ctl .sense, .ctl .loops] : List Piece) ++ Part.cal.pieces ++ ([.mgmt .inProgress, .mgmt .layoutSpent, .power .mode] : List
    Piece)

/-- The pieces of the state that cycleWrite may change. -/
def cycleWritePieces : List Piece := ([.eff, .time .linePll, .time .hostPll, .time .tx, .time .rx, .time .paired, .time .cues,
    .time .held, .obs .banks, .obs .lastBank, .obs .seq, .obs .full, .obs .buckets, .obs .contexts, .obs .image,
    .obs .imageCopying, .obs .flowFull, .obs .shifts, .lanes .lineFront, .lanes .hostFront, .lanes .lineEq, .lanes .hostEq,
    .lanes .lineRx, .lanes .hostRx, .lanes .lineOut, .lanes .hostOut, .lanes .spot, .lanes .lock, .lanes .xa, .lanes .gather,
    .link, .path .tx, .path .rx, .path .superRx, .path .superTx, .path .innerTx, .path .lineAt, .path .refChanged,
    .path .lineSlip, .path .hostSlip, .path .txFollow, .path .rxFollow, .path .modeChange, .aside .lanes, .ctl .bdac, .ctl .gens,
    .ctl .sense, .ctl .loops] : List Piece) ++ Part.cal.pieces ++ ([.mgmt .inProgress, .mgmt .layoutSpent, .mgmt .lockedRate,
    .power .mode] : List Piece)

/-- The pieces of the state that cycle may change. -/
def cyclePieces : List Piece := ([.eff, .time .linePll, .time .hostPll, .time .tx, .time .rx, .time .paired, .time .cues,
    .time .held, .obs .hiLatch, .obs .banks, .obs .lastBank, .obs .seq, .obs .full, .obs .buckets, .obs .contexts, .obs .image,
    .obs .imageCopying, .obs .flowFull, .obs .shifts, .lanes .lineFront, .lanes .hostFront, .lanes .lineEq, .lanes .hostEq,
    .lanes .lineRx, .lanes .hostRx, .lanes .tx, .lanes .lineOut, .lanes .hostOut, .lanes .spot, .lanes .lock, .lanes .xa,
    .lanes .gather, .link, .path .tx, .path .rx, .path .superRx, .path .superTx, .path .innerTx, .path .lineAt,
    .path .refChanged, .path .lineSlip, .path .hostSlip, .path .txFollow, .path .rxFollow, .path .modeChange, .aside .lanes,
    .ctl .bdac, .ctl .gens, .ctl .sense, .ctl .coefs, .ctl .loops] : List Piece) ++ Part.cal.pieces ++
    ([.mgmt .inProgress, .mgmt .restartCause, .mgmt .layoutSpent, .mgmt .i2cOut, .mgmt .i2cAcks, .mgmt .spiOut, .mgmt .readOut,
    .mgmt .coreFault, .mgmt .spiCrcErr, .mgmt .spiBusErr, .mgmt .busErrRate, .mgmt .lockedRate, .mem .retrain, .power .mode,
    .sec .cache, .free] : List Piece)

/-- The pieces of the state that oneWrite may change. -/
def oneWritePieces : List Piece := ([.eff, .time .linePll, .time .hostPll, .time .tx, .time .rx, .time .paired, .time .cues,
    .time .held, .obs .banks, .obs .lastBank, .obs .seq, .obs .full, .obs .buckets, .obs .contexts, .obs .image,
    .obs .imageCopying, .obs .flowFull, .obs .shifts, .lanes .lineFront, .lanes .hostFront, .lanes .lineEq, .lanes .hostEq,
    .lanes .lineRx, .lanes .hostRx, .lanes .lineOut, .lanes .hostOut, .lanes .spot, .lanes .lock, .lanes .xa, .lanes .gather,
    .link, .path .tx, .path .rx, .path .superRx, .path .superTx, .path .innerTx, .path .lineAt, .path .refChanged,
    .path .lineSlip, .path .hostSlip, .path .txFollow, .path .rxFollow, .path .modeChange, .aside .lanes, .ctl .bdac, .ctl .gens,
    .ctl .sense, .ctl .loops] : List Piece) ++ Part.cal.pieces ++ ([.mgmt .inProgress, .mgmt .layoutSpent, .mgmt .i2cOut,
    .mgmt .i2cAcks, .mgmt .coreFault, .mgmt .spiCrcErr, .mgmt .spiBusErr, .mgmt .busErrRate, .mgmt .lockedRate, .power .mode] :
    List Piece)

/-- The pieces of the state that lockJudge may change. -/
def lockJudgePieces : List Piece := [.time .tx, .time .rx, .time .paired, .time .cues, .lanes .lineFront, .lanes .hostFront,
    .lanes .lineEq, .lanes .hostEq, .lanes .lineOut, .lanes .hostOut, .lanes .lock, .lanes .xa, .lanes .gather, .link, .path .tx,
    .path .rx, .cal .skewLive, .mgmt .inProgress]

/-- The pieces of the state that lockWindowEnd may change. -/
def lockWindowEndPieces : List Piece := [.time .tx, .time .rx, .time .paired, .time .cues, .lanes .lineFront, .lanes .hostFront,
    .lanes .lineEq, .lanes .hostEq, .lanes .lineRx, .lanes .hostRx, .lanes .lineOut, .lanes .hostOut, .lanes .spot, .lanes .lock,
    .lanes .xa, .lanes .gather, .link, .path .tx, .path .rx, .cal .skewLive, .mgmt .inProgress]

/-- The pieces of the state that outlierWindowEnd may change. -/
def outlierWindowEndPieces : List Piece := [.time .tx, .time .rx, .time .paired, .time .cues, .lanes .lineFront,
    .lanes .hostFront, .lanes .lineEq, .lanes .hostEq, .lanes .lineRx, .lanes .hostRx, .lanes .lineOut, .lanes .hostOut,
    .lanes .spot, .lanes .lock, .lanes .xa, .link, .path .tx, .path .rx, .cal .skewLive]

/-- The pieces of the state that laneRejoin may change. -/
def laneRejoinPieces : List Piece := [.time .tx, .time .rx, .time .paired, .time .cues, .lanes .lineFront, .lanes .hostFront,
    .lanes .lineEq, .lanes .hostEq, .lanes .lineOut, .lanes .hostOut, .lanes .lock, .lanes .xa, .link, .path .tx, .path .rx,
    .path .lineAt, .cal .skewLive]

/-- The pieces of the state that refLost may change. -/
def refLostPieces : List Piece := [.time .tx, .time .rx, .time .paired, .time .cues, .lanes .lineFront, .lanes .hostFront,
    .lanes .lineEq, .lanes .hostEq, .lanes .lineOut, .lanes .hostOut, .lanes .lock, .lanes .xa, .lanes .gather, .link, .path .tx,
    .path .rx, .path .refChanged, .cal .skewLive]

/-- The pieces of the state that trainStart may change. -/
def trainStartPieces : List Piece := [.time .tx, .time .rx, .time .paired, .time .cues, .lanes .lineFront, .lanes .hostFront,
    .lanes .lineEq, .lanes .hostEq, .lanes .lineRx, .lanes .hostRx, .lanes .lineOut, .lanes .hostOut, .lanes .lock, .lanes .xa,
    .lanes .gather, .link, .path .tx, .path .rx, .cal .skewLive]

/-- The pieces of the state that refSlewDone may change. -/
def refSlewDonePieces : List Piece := [.time .tx, .time .rx, .time .paired, .time .cues, .lanes .lineFront, .lanes .hostFront,
    .lanes .lineEq, .lanes .hostEq, .lanes .lineRx, .lanes .hostRx, .lanes .lineOut, .lanes .hostOut, .lanes .lock, .lanes .xa,
    .lanes .gather, .link, .path .tx, .path .rx, .path .refChanged, .cal .skewLive]

/-- The pieces of the state that wanderLimit may change. -/
def wanderLimitPieces : List Piece := [.time .tx, .time .rx, .time .paired, .time .cues, .lanes .lineFront, .lanes .hostFront,
    .lanes .lineEq, .lanes .hostEq, .lanes .lineOut, .lanes .hostOut, .lanes .lock, .lanes .xa, .link, .path .tx, .path .rx,
    .path .lineAt, .path .hostAt, .cal .skewLive]

/-- The pieces of the state that clkModePllLock may change. -/
def clkModePllLockPieces : List Piece := [.time .linePll, .time .hostPll, .time .tx, .time .rx, .time .paired, .time .cues,
    .lanes .lineFront, .lanes .hostFront, .lanes .lineEq, .lanes .hostEq, .lanes .lineRx, .lanes .hostRx, .lanes .lineOut,
    .lanes .hostOut, .lanes .lock, .lanes .xa, .lanes .gather, .link, .path .tx, .path .rx, .path .modeChange, .cal .skewLive]

/-- The pieces of the state that hslRetrain may change. -/
def hslRetrainPieces : List Piece := [.time .tx, .time .rx, .time .paired, .time .cues, .lanes .lineFront, .lanes .hostFront,
    .lanes .lineEq, .lanes .hostEq, .lanes .lineRx, .lanes .hostRx, .lanes .lineOut, .lanes .hostOut, .lanes .lock, .lanes .xa,
    .lanes .gather, .link, .path .tx, .path .rx, .cal .skewLive, .mgmt .inProgress]

/-- The pieces of the state that helloAccepted may change. -/
def helloAcceptedPieces : List Piece := [.time .tx, .time .rx, .time .paired, .time .cues, .obs .replay, .obs .shifts,
    .lanes .lineFront, .lanes .hostFront, .lanes .lineEq, .lanes .hostEq, .lanes .lineOut, .lanes .hostOut, .lanes .lock,
    .lanes .xa, .lanes .gather, .link, .path .tx, .path .rx, .path .superRx, .path .lineAt, .aside .lanes, .cal .skewLive]

/-- The pieces of the state that spiWrite may change. -/
def spiWritePieces : List Piece := ([.eff, .time .linePll, .time .hostPll, .time .tx, .time .rx, .time .paired, .time .cues,
    .time .held, .obs .banks, .obs .lastBank, .obs .seq, .obs .full, .obs .buckets, .obs .contexts, .obs .image,
    .obs .imageCopying, .obs .flowFull, .obs .shifts, .lanes .lineFront, .lanes .hostFront, .lanes .lineEq, .lanes .hostEq,
    .lanes .lineRx, .lanes .hostRx, .lanes .lineOut, .lanes .hostOut, .lanes .spot, .lanes .lock, .lanes .xa, .lanes .gather,
    .link, .path .tx, .path .rx, .path .superRx, .path .superTx, .path .innerTx, .path .lineAt, .path .refChanged,
    .path .lineSlip, .path .hostSlip, .path .txFollow, .path .rxFollow, .path .modeChange, .aside .lanes, .ctl .bdac, .ctl .gens,
    .ctl .sense, .ctl .loops] : List Piece) ++ Part.cal.pieces ++ ([.mgmt .inProgress, .mgmt .layoutSpent, .mgmt .spiOut,
    .mgmt .spiCrcErr, .mgmt .spiBusErr, .mgmt .busErrRate, .mgmt .lockedRate, .power .mode] : List Piece)

/-- The pieces of the state that cmisApply may change. -/
def cmisApplyPieces : List Piece := ([.eff, .time .linePll, .time .hostPll, .time .tx, .time .rx, .time .paired, .time .cues,
    .time .held, .obs .buckets, .obs .contexts, .obs .flowFull, .obs .shifts, .lanes .lineFront, .lanes .hostFront,
    .lanes .lineEq, .lanes .hostEq, .lanes .lineRx, .lanes .hostRx, .lanes .lineOut, .lanes .hostOut, .lanes .spot, .lanes .lock,
    .lanes .xa, .lanes .gather, .link, .path .tx, .path .rx, .path .superRx, .path .superTx, .path .innerTx, .path .lineAt,
    .path .refChanged, .path .lineSlip, .path .hostSlip, .path .txFollow, .path .rxFollow, .path .modeChange, .aside .lanes,
    .ctl .bdac, .ctl .gens, .ctl .sense, .ctl .loops] : List Piece) ++ Part.cal.pieces ++
    ([.mgmt .inProgress, .mgmt .cmisLog] : List Piece)

/-- The pieces of the state that layoutRestore may change. -/
def layoutRestorePieces : List Piece := ([.eff, .time .linePll, .time .hostPll, .time .tx, .time .rx, .time .paired, .time .cues,
    .time .held, .obs .banks, .obs .lastBank, .obs .seq, .obs .full, .obs .buckets, .obs .contexts, .obs .image,
    .obs .imageCopying, .obs .flowFull, .obs .shifts, .lanes .lineFront, .lanes .hostFront, .lanes .lineEq, .lanes .hostEq,
    .lanes .lineRx, .lanes .hostRx, .lanes .lineOut, .lanes .hostOut, .lanes .spot, .lanes .lock, .lanes .xa, .lanes .gather,
    .link, .path .tx, .path .rx, .path .superRx, .path .superTx, .path .innerTx, .path .lineAt, .path .refChanged,
    .path .lineSlip, .path .hostSlip, .path .txFollow, .path .rxFollow, .path .modeChange, .aside .lanes, .ctl .bdac, .ctl .gens,
    .ctl .sense, .ctl .loops] : List Piece) ++ Part.cal.pieces ++ ([.mgmt .inProgress, .mgmt .layoutSpent, .mgmt .busErrRate,
    .mgmt .lockedRate, .power .mode] : List Piece)

/-- The pieces of the state that settingsStart may change. -/
def settingsStartPieces : List Piece := ([.eff, .time .linePll, .time .hostPll, .time .tx, .time .rx, .time .paired, .time .cues,
    .time .held, .obs .banks, .obs .lastBank, .obs .seq, .obs .full, .obs .buckets, .obs .contexts, .obs .image,
    .obs .imageCopying, .obs .flowFull, .obs .shifts, .lanes .lineFront, .lanes .hostFront, .lanes .lineEq, .lanes .hostEq,
    .lanes .lineRx, .lanes .hostRx, .lanes .lineOut, .lanes .hostOut, .lanes .spot, .lanes .lock, .lanes .xa, .lanes .gather,
    .link, .path .tx, .path .rx, .path .superRx, .path .superTx, .path .innerTx, .path .lineAt, .path .refChanged,
    .path .lineSlip, .path .hostSlip, .path .txFollow, .path .rxFollow, .path .modeChange, .aside .lanes, .ctl .bdac, .ctl .gens,
    .ctl .sense, .ctl .loops] : List Piece) ++ Part.cal.pieces ++ ([.mgmt .inProgress, .mgmt .layoutSpent, .mgmt .busErrRate,
    .mgmt .lockedRate, .power .mode, .sec .cache, .sec .applyDue] : List Piece)

/-- The pieces of the state that mgmtReady may change. -/
def mgmtReadyPieces : List Piece := ([.eff, .time .linePll, .time .hostPll, .time .tx, .time .rx, .time .paired, .time .cues,
    .time .held, .obs .banks, .obs .lastBank, .obs .seq, .obs .full, .obs .buckets, .obs .contexts, .obs .image,
    .obs .imageCopying, .obs .flowFull, .obs .shifts, .lanes .lineFront, .lanes .hostFront, .lanes .lineEq, .lanes .hostEq,
    .lanes .lineRx, .lanes .hostRx, .lanes .lineOut, .lanes .hostOut, .lanes .spot, .lanes .lock, .lanes .xa, .lanes .gather,
    .link, .path .tx, .path .rx, .path .superRx, .path .superTx, .path .innerTx, .path .lineAt, .path .refChanged,
    .path .lineSlip, .path .hostSlip, .path .txFollow, .path .rxFollow, .path .modeChange, .aside .lanes, .ctl .bdac, .ctl .gens,
    .ctl .sense, .ctl .loops] : List Piece) ++ Part.cal.pieces ++ ([.mgmt .inProgress, .mgmt .engineHeld, .mgmt .afterRestart,
    .mgmt .layoutSpent, .mgmt .busErrRate, .mgmt .lockedRate, .power .mode, .power .announce, .test .results, .sec .settings,
    .sec .cache, .sec .format, .sec .reverted, .sec .migration, .sec .applyDue] : List Piece)

/-- The pieces of the state that crystalEdgeLoss may change. -/
def crystalEdgeLossPieces : List Piece := ([.eff, .time .estimated, .time .crystalOk, .time .tx, .time .rx, .time .paired,
    .time .cues, .obs .buckets, .obs .contexts, .obs .flowFull, .obs .shifts, .lanes .lineFront, .lanes .hostFront,
    .lanes .lineEq, .lanes .hostEq, .lanes .lineRx, .lanes .hostRx, .lanes .tx, .lanes .lineOut, .lanes .hostOut, .lanes .spot,
    .lanes .lock, .lanes .xa, .lanes .xaStart, .lanes .revertDue, .lanes .gather, .link, .path .tx, .path .rx, .path .superRx,
    .path .superTx, .path .innerTx, .aside .lanes, .ctl .bdac, .ctl .sense, .ctl .loops] : List Piece) ++ Part.cal.pieces ++
    ([.mgmt .inProgress, .mgmt .restartCause, .power .warmPending, .test .rehearsal, .test .memTest, .test .dress,
    .test .fencedGroups, .test .fencedBdac, .test .fencedSense, .test .results, .free] : List Piece)

/-- The pieces of the state that windowOpen may change. -/
def windowOpenPieces : List Piece := ([.eff, .time .tx, .time .rx, .time .paired, .time .cues, .obs .buckets, .obs .contexts,
    .obs .flowFull, .obs .shifts, .lanes .lineFront, .lanes .hostFront, .lanes .lineEq, .lanes .hostEq, .lanes .lineRx,
    .lanes .hostRx, .lanes .tx, .lanes .lineOut, .lanes .hostOut, .lanes .spot, .lanes .lock, .lanes .xa, .lanes .xaStart,
    .lanes .revertDue, .lanes .gather, .link, .path .tx, .path .rx, .path .superRx, .path .superTx, .path .innerTx,
    .aside .lanes, .ctl .bdac, .ctl .sense, .ctl .loops] : List Piece) ++ Part.cal.pieces ++
    ([.mgmt .inProgress, .mgmt .restartCause, .faults .window, .faults .windowRail, .faults .windowMarked, .power .warmPending,
    .test .rehearsal, .test .memTest, .test .dress, .test .fencedGroups, .test .fencedBdac, .test .fencedSense, .test .results,
    .free] : List Piece)

/-- The pieces of the state that supplyWarnAssert may change. -/
def supplyWarnAssertPieces : List Piece := ([.eff, .time .tx, .time .rx, .time .paired, .time .cues, .obs .buckets,
    .obs .contexts, .obs .flowFull, .obs .shifts, .lanes .lineFront, .lanes .hostFront, .lanes .lineEq, .lanes .hostEq,
    .lanes .lineRx, .lanes .hostRx, .lanes .tx, .lanes .lineOut, .lanes .hostOut, .lanes .spot, .lanes .lock, .lanes .xa,
    .lanes .xaStart, .lanes .revertDue, .lanes .gather, .link, .path .tx, .path .rx, .path .superRx, .path .superTx,
    .path .innerTx, .aside .lanes, .ctl .bdac, .ctl .sense, .ctl .loops] : List Piece) ++ Part.cal.pieces ++
    ([.mgmt .inProgress, .mgmt .restartCause, .faults .below, .faults .window, .faults .windowRail, .faults .windowMarked,
    .faults .clearSince, .power .warmPending, .test .rehearsal, .test .memTest, .test .dress, .test .fencedGroups,
    .test .fencedBdac, .test .fencedSense, .test .results, .free] : List Piece)

/-- The pieces of the state that regionsOff may change. -/
def regionsOffPieces : List Piece := ([.time .linePll, .time .hostPll, .time .tx, .time .rx, .time .paired, .time .cues,
    .lanes .lineFront, .lanes .hostFront, .lanes .lineEq, .lanes .hostEq, .lanes .lineRx, .lanes .hostRx, .lanes .lineOut,
    .lanes .hostOut, .lanes .spot, .lanes .lock, .lanes .xa, .lanes .gather, .link, .path .tx, .path .rx, .path .refChanged,
    .path .modeChange, .aside .lanes] : List Piece) ++ Part.cal.pieces ++ ([.mgmt .inProgress, .power .mode] : List Piece)

/-- The pieces of the state that intermissionBegin may change. -/
def intermissionBeginPieces : List Piece := ([.time .sysPllLocked, .time .linePll, .time .hostPll, .time .tx, .time .rx,
    .time .paired, .time .cues, .lanes .lineFront, .lanes .hostFront, .lanes .lineEq, .lanes .hostEq, .lanes .lineRx,
    .lanes .hostRx, .lanes .lineOut, .lanes .hostOut, .lanes .spot, .lanes .lock, .lanes .xa, .lanes .gather, .link, .path .tx,
    .path .rx, .path .refChanged, .path .modeChange, .aside .lanes, .ctl .bdac, .ctl .gens, .ctl .sense] : List Piece) ++
    Part.cal.pieces ++ ([.mgmt .inProgress, .power .mode] : List Piece)

/-- The pieces of the state that pwrEnter may change. -/
def pwrEnterPieces : List Piece := ([.time .sysPllLocked, .time .linePll, .time .hostPll, .time .tx, .time .rx, .time .paired,
    .time .cues, .lanes .lineFront, .lanes .hostFront, .lanes .lineEq, .lanes .hostEq, .lanes .lineRx, .lanes .hostRx,
    .lanes .lineOut, .lanes .hostOut, .lanes .spot, .lanes .lock, .lanes .xa, .lanes .gather, .link, .path .tx, .path .rx,
    .path .refChanged, .path .modeChange, .aside .lanes, .ctl .bdac, .ctl .gens, .ctl .sense] : List Piece) ++ Part.cal.pieces ++
    ([.mgmt .inProgress, .power .mode, .power .rcHz, .power .stored] : List Piece)

/-- The pieces of the state that intermissionLeft may change. -/
def intermissionLeftPieces : List Piece := ([.time .sysPllLocked, .time .linePll, .time .hostPll, .time .tx, .time .rx,
    .time .paired, .time .cues, .lanes .lineFront, .lanes .hostFront, .lanes .lineEq, .lanes .hostEq, .lanes .lineRx,
    .lanes .hostRx, .lanes .lineOut, .lanes .hostOut, .lanes .spot, .lanes .lock, .lanes .xa, .lanes .gather, .link, .path .tx,
    .path .rx, .path .refChanged, .aside .lanes, .ctl .bdac, .ctl .sense] : List Piece) ++ Part.cal.pieces ++
    ([.mgmt .inProgress, .power .mode] : List Piece)

/-- The pieces of the state that wakeFromDark may change. -/
def wakeFromDarkPieces : List Piece := [.time .hc, .time .estimated, .time .sysPllLocked, .time .crystalRuns, .time .linePll,
    .time .hostPll, .time .held, .cal .sets, .cal .inUse, .cal .targets, .faults .watchdogAt, .power .mode, .power .stored,
    .power .announce, .sec .boot, .sec .running, .sec .recovery, .sec .activate, .sec .trialAt, .sec .reverted, .sec .migration]

/-- The pieces of the state that thermalTrip may change. -/
def thermalTripPieces : List Piece := ([.eff, .time .linePll, .time .hostPll, .time .tx, .time .rx, .time .paired, .time .cues,
    .obs .buckets, .obs .contexts, .obs .flowFull, .obs .shifts, .lanes .lineFront, .lanes .hostFront, .lanes .lineEq,
    .lanes .hostEq, .lanes .lineRx, .lanes .hostRx, .lanes .tx, .lanes .lineOut, .lanes .hostOut, .lanes .spot, .lanes .lock,
    .lanes .xa, .lanes .xaStart, .lanes .revertDue, .lanes .gather, .link, .path .tx, .path .rx, .path .superRx, .path .superTx,
    .path .innerTx, .path .refChanged, .path .modeChange, .aside .lanes, .ctl .bdac, .ctl .sense, .ctl .loops] : List Piece) ++
    Part.cal.pieces ++ ([.mgmt .inProgress, .mgmt .restartCause, .power .mode, .power .tripWait, .power .warmPending,
    .test .rehearsal, .test .memTest, .test .dress, .test .fencedGroups, .test .fencedBdac, .test .fencedSense, .test .results,
    .free] : List Piece)

/-- The pieces of the state that thermalUp may change. -/
def thermalUpPieces : List Piece := ([.eff, .time .linePll, .time .hostPll, .time .tx, .time .rx, .time .paired, .time .cues,
    .obs .buckets, .obs .contexts, .obs .flowFull, .obs .shifts, .lanes .lineFront, .lanes .hostFront, .lanes .lineEq,
    .lanes .hostEq, .lanes .lineRx, .lanes .hostRx, .lanes .tx, .lanes .lineOut, .lanes .hostOut, .lanes .spot, .lanes .lock,
    .lanes .xa, .lanes .xaStart, .lanes .revertDue, .lanes .gather, .link, .path .tx, .path .rx, .path .superRx, .path .superTx,
    .path .innerTx, .path .refChanged, .path .modeChange, .aside .lanes, .aside .keys, .ctl .bdac, .ctl .sense, .ctl .loops] :
    List Piece) ++ Part.cal.pieces ++ ([.mgmt .inProgress, .mgmt .restartCause, .power .mode, .power .tripWait, .power .coldComp,
    .power .tripRun, .power .warmPending, .test .rehearsal, .test .memTest, .test .dress, .test .fencedGroups, .test .fencedBdac,
    .test .fencedSense, .test .jtagIr, .test .results, .sec .otp, .sec .session, .sec .locked, .sec .zeroized, .sec .pulse,
    .sec .lockClosed, .sec .update, .sec .ops, .free] : List Piece)

/-- The pieces of the state that resetRelease may change. -/
def resetReleasePieces : List Piece := [.time .sysPllLocked, .time .crystalRuns, .time .linePll, .time .hostPll, .cal .sets,
    .cal .inUse, .cal .targets, .mgmt .straps, .faults .watchdogAt, .power .mode, .power .pwrEn, .sec .boot, .sec .running,
    .sec .recovery, .sec .activate, .sec .trialAt, .sec .reverted, .sec .migration]

/-- The pieces of the state that mgmtRestart may change. -/
def mgmtRestartPieces : List Piece := ([.time .cues, .obs .image, .obs .imageCopying, .obs .imageLocked, .lanes .xa,
    .lanes .xaStart, .lanes .revertDue] : List Piece) ++ Part.mgmt.pieces ++
    ([.faults .watchdogAt, .sec .session, .sec .fieldDiag, .sec .challenge, .sec .lockClosed, .sec .boot, .sec .settings,
    .sec .update, .sec .ops, .sec .running, .sec .recovery, .sec .activate, .sec .trialAt, .sec .reverted, .sec .migration,
    .sec .applyDue] : List Piece)

/-- The pieces of the state that rstPortAct may change. -/
def rstPortActPieces : List Piece := [.time .tx, .time .rx, .time .paired, .time .cues, .obs .buckets, .obs .contexts,
    .obs .flowFull, .obs .shifts, .lanes .lineFront, .lanes .hostFront, .lanes .lineEq, .lanes .hostEq, .lanes .lineOut,
    .lanes .hostOut, .lanes .lock, .lanes .xa, .lanes .gather, .link, .path .tx, .path .rx, .path .superRx, .path .superTx,
    .path .innerTx, .path .lineAt, .aside .lanes, .cal .skewLive]

/-- The pieces of the state that rstPort may change. -/
def rstPortPieces : List Piece := [.time .tx, .time .rx, .time .paired, .time .cues, .obs .buckets, .obs .contexts,
    .obs .flowFull, .obs .shifts, .lanes .lineFront, .lanes .hostFront, .lanes .lineEq, .lanes .hostEq, .lanes .lineOut,
    .lanes .hostOut, .lanes .lock, .lanes .xa, .lanes .gather, .link, .path .tx, .path .rx, .path .superRx, .path .superTx,
    .path .innerTx, .path .lineAt, .aside .lanes, .cal .skewLive, .mgmt .inProgress]

/-- The pieces of the state that tstAbort may change. -/
def tstAbortPieces : List Piece := ([.eff, .time .tx, .time .rx, .time .paired, .time .cues, .obs .buckets, .obs .contexts,
    .obs .flowFull, .obs .shifts, .lanes .lineFront, .lanes .hostFront, .lanes .lineEq, .lanes .hostEq, .lanes .lineRx,
    .lanes .hostRx, .lanes .tx, .lanes .lineOut, .lanes .hostOut, .lanes .spot, .lanes .lock, .lanes .xa, .lanes .xaStart,
    .lanes .revertDue, .lanes .gather, .link, .path .tx, .path .rx, .path .superRx, .path .superTx, .path .innerTx,
    .aside .lanes, .ctl .bdac, .ctl .sense, .ctl .loops] : List Piece) ++ Part.cal.pieces ++
    ([.mgmt .inProgress, .test .rehearsal, .test .memTest, .test .fencedGroups, .test .fencedBdac, .test .fencedSense,
    .test .results, .free] : List Piece)

/-- The pieces of the state that dressEnd may change. -/
def dressEndPieces : List Piece := ([.time .tx, .time .rx, .time .paired, .time .cues, .lanes .lineFront, .lanes .hostFront,
    .lanes .lineEq, .lanes .hostEq, .lanes .lineRx, .lanes .hostRx, .lanes .lineOut, .lanes .hostOut, .lanes .spot, .lanes .lock,
    .lanes .xa, .lanes .gather, .link, .path .tx, .path .rx, .aside .lanes] : List Piece) ++ Part.cal.pieces ++
    ([.mgmt .inProgress, .mgmt .restartCause, .power .warmPending, .test .dress, .test .fencedGroups, .test .fencedBdac,
    .test .fencedSense, .test .results] : List Piece)

/-- The pieces of the state that jtagPins may change. -/
def jtagPinsPieces : List Piece := [.time .tx, .time .rx, .time .paired, .time .cues, .lanes .lineFront, .lanes .hostFront,
    .lanes .lineEq, .lanes .hostEq, .lanes .lineRx, .lanes .hostRx, .lanes .lineOut, .lanes .hostOut, .lanes .spot, .lanes .lock,
    .lanes .xa, .lanes .gather, .link, .path .tx, .path .rx, .cal .skewLive, .test .jtagPins]

/-- The pieces of the state that jtagUpdate may change. -/
def jtagUpdatePieces : List Piece := [.time .tx, .time .rx, .time .paired, .time .cues, .lanes .lineFront, .lanes .hostFront,
    .lanes .lineEq, .lanes .hostEq, .lanes .lineRx, .lanes .hostRx, .lanes .lineOut, .lanes .hostOut, .lanes .spot, .lanes .lock,
    .lanes .xa, .lanes .gather, .link, .path .tx, .path .rx, .aside .keys, .cal .skewLive, .mgmt .inProgress, .test .jtagIr,
    .test .jtagPins, .sec .otp, .sec .session, .sec .locked, .sec .zeroized, .sec .pulse, .sec .lockClosed, .sec .update,
    .sec .ops]

/-- The scope has every field in a cluster (R442). -/
def Scope.Clusters (R : Scope) : Prop := ∀ u cls inst k, clusterAddr u cls inst (k / 32) = true → R.keys k

theorem Scope.Wide.clusters {R : Scope} (hw : R.Wide) : R.Clusters := fun u cls inst k hin => hw k fun hk => by
  rw [layoutKeys_addr k hk, clusterAddr_layout] at hin
  exact absurd hin Bool.false_ne_true

theorem lt_of_mem_bitsSet {n m g : Nat} (h : g ∈ bitsSet n m) : g < n := lt_of_mem_whichBelow h

theorem Within.setRxRec {l : LaneId} {x : RxRec} (h : Within R s t) (hp : R.Allows [.lanes .lineRx, .lanes .hostRx]) :
    Within R s (setRxRec t l x) := by
  unfold Machine.setRxRec
  split
  · exact (h.withLanesLineRx hp.mono)
  · exact (h.withLanesHostRx hp.mono)

theorem Within.setFront {l : LaneId} {x : Front} (h : Within R s t) (hp : R.Allows [.lanes .lineFront, .lanes .hostFront]) :
    Within R s (setFront t l x) := by
  unfold Machine.setFront
  split
  · exact (h.withLanesLineFront hp.mono)
  · exact (h.withLanesHostFront hp.mono)

theorem Within.showTiming {l : LaneId} (h : Within R s t) (hk8 : R.Opens [F.LRX_TR_STATUS_FREQ, F.LRX_TR_STATUS_PI_CODE] 8)
    (hk16 : R.Opens [F.HSL_STATUS_PI_CODE] 16) :
    Within R s (showTiming t l) := by
  unfold Machine.showTiming
  extract_lets +onlyGivenNames x
  split
  · next n =>
      exact ((h.wrI (hk8 _ (Fin.isLt _))).wr (hk8 _ (Fin.isLt _)))
  · next n =>
      exact (h.wr (hk16 _ (Fin.isLt _)))

theorem Within.setPhase {l : LaneId} {f : ℤ} {raw : ℤ} (h : Within R s t)
    (hp : R.Allows [.lanes .lineFront, .lanes .hostFront, .lanes .lineRx, .lanes .hostRx])
    (hk8 : R.Opens [F.LRX_TR_STATUS_FREQ, F.LRX_TR_STATUS_PI_CODE] 8) (hk16 : R.Opens [F.HSL_STATUS_PI_CODE] 16) :
    Within R s (setPhase t l f raw) := by
  unfold Machine.setPhase
  extract_lets +onlyGivenNames _ s1
  have hs1 : Within R s s1 := (h.setFront hp.mono)
  exact ((hs1.setRxRec hp.mono).showTiming hk8 hk16)

theorem Within.timingClock {l : LaneId} {g : ℤ} (h : Within R s t) (hp : R.Allows
    [.lanes .lineFront, .lanes .hostFront, .lanes .lineRx, .lanes .hostRx])
    (hk8 : R.Opens [F.LRX_TR_STATUS_FREQ, F.LRX_TR_STATUS_PI_CODE] 8) (hk16 : R.Opens [F.HSL_STATUS_PI_CODE] 16) :
    Within R s (timingClock t l g) := by
  unfold Machine.timingClock
  refine Within.ite ?_ ?_
  · exact (h.setRxRec hp.mono)
  · extract_lets +onlyGivenNames r s1
    have hs1 : Within R s s1 := (h.setRxRec hp.mono)
    refine Within.ite ?_ ?_
    · exact (hs1.setRxRec hp.mono)
    · extract_lets +onlyGivenNames x t' s2
      have hs2 : Within R s s2 := (hs1.setPhase hp hk8 hk16)
      exact (hs2.setRxRec hp.mono)

theorem Within.wrL {l : LaneId} {f : Field} {h' : Field} {v : ℕ} (h : Within R s t) (hk8 : R.Opens [f] 8)
    (hk16 : R.Opens [h'] 16) :
    Within R s (wrL t l f h' v) := by
  unfold Machine.wrL
  split
  · next n =>
      exact (h.wr (hk8 _ (Fin.isLt _)) (hf := by simp))
  · next n =>
      exact (h.wr (hk16 _ (Fin.isLt _)) (hf := by simp))

theorem Within.bumpL {l : LaneId} {kLine : ℕ} {kHost : ℕ} (h : Within R s t) :
    Within R s (bumpL t l kLine kHost) := by
  unfold Machine.bumpL
  split
  · exact h.bump
  · exact h.bump

theorem Within.setTpcLock {l : LaneId} {b : Bool} (h : Within R s t) (hk8 : R.Opens [F.LRX_TPC_STATUS_LOCK] 8)
    (hk16 : R.Opens [F.HSL_TPC_STATUS_LOCK] 16) :
    Within R s (setTpcLock t l b) := by
  unfold Machine.setTpcLock
  refine Within.ite ?_ ?_
  · exact h
  · extract_lets +onlyGivenNames s1 s2
    have hs1 : Within R s s1 := (h.wrL hk8 hk16)
    have hs2 : Within R s s2 := (Within.ite hs1 hs1.bumpL)
    exact hs2.raiseEvent

theorem Within.tpcPrbsLock {l : LaneId} (h : Within R s t) (hk8 : R.Opens [F.LRX_TPC_STATUS_LOCK] 8)
    (hk16 : R.Opens [F.HSL_TPC_STATUS_LOCK] 16) :
    Within R s (tpcPrbsLock t l) := by
  unfold Machine.tpcPrbsLock
  exact (Within.ite (h.setTpcLock hk8 hk16) h)

theorem Within.setSpot {n : ℕ} {x : Spot} (h : Within R s t) (hp : R.Allows [.lanes .spot]) :
    Within R s (setSpot t n x) := by
  unfold Machine.setSpot
  exact (h.withLanesSpot hp)

theorem Within.spotFollow {l : LaneId} {at0 : ℕ} {xs : List RxSym} (h : Within R s t) (hp : R.Allows [.lanes .spot]) :
    Within R s (spotFollow t l at0 xs) := by
  unfold Machine.spotFollow
  split
  · exact (Within.ite (h.setSpot hp) h)
  · exact h

theorem Within.blockDone {l : LaneId} (h : Within R s t) (hp : R.Allows [.lanes .lineFront, .lanes .hostFront, .lanes .lineRx,
    .lanes .hostRx, .lanes .spot]) (hk8 : R.Opens [F.LRX_TPC_STATUS_LOCK, F.LRX_TR_STATUS_FREQ, F.LRX_TR_STATUS_PI_CODE] 8)
    (hk16 : R.Opens [F.HSL_STATUS_PI_CODE, F.HSL_TPC_STATUS_LOCK] 16) :
    Within R s (blockDone t l) := by
  unfold Machine.blockDone
  extract_lets +onlyGivenNames r0 a r before
  split
  · exact (h.setRxRec hp.mono)
  · extract_lets +onlyGivenNames b r1
    split
    · exact (h.setRxRec hp.mono)
    · exact ((((h.setRxRec hp.mono).spotFollow hp.mono).tpcPrbsLock (hk8.mono (by decide)) (hk16.mono (by decide))).timingClock
        hp.mono (hk8.mono (by decide)) (hk16.mono (by decide)))

theorem Within.rxPush {l : LaneId} {v : ℤ} (h : Within R s t) (hp : R.Allows
    [.lanes .lineFront, .lanes .hostFront, .lanes .lineRx, .lanes .hostRx, .lanes .spot])
    (hk8 : R.Opens [F.LRX_TPC_STATUS_LOCK, F.LRX_TR_STATUS_FREQ, F.LRX_TR_STATUS_PI_CODE] 8)
    (hk16 : R.Opens [F.HSL_STATUS_PI_CODE, F.HSL_TPC_STATUS_LOCK] 16) :
    Within R s (rxPush t l v) := by
  unfold Machine.rxPush
  extract_lets +onlyGivenNames r z s1
  have hs1 : Within R s s1 := (h.setRxRec hp.mono)
  exact (Within.ite (hs1.blockDone hp hk8 hk16) hs1)

theorem Within.rxStream {l : LaneId} {xs : List ℤ} (h : Within R s t) (hp : R.Allows
    [.lanes .lineFront, .lanes .hostFront, .lanes .lineRx, .lanes .hostRx, .lanes .spot])
    (hk8 : R.Opens [F.LRX_TPC_STATUS_LOCK, F.LRX_TR_STATUS_FREQ, F.LRX_TR_STATUS_PI_CODE] 8)
    (hk16 : R.Opens [F.HSL_STATUS_PI_CODE, F.HSL_TPC_STATUS_LOCK] 16) :
    Within R s (rxStream t l xs) := by
  unfold Machine.rxStream
  exact (Within.ite (h.foldl fun _ _ _ h4 => (h4.rxPush hp hk8 hk16)) h)

theorem Within.portStream {ls : List LaneId} {codes : List (List ℤ)} (h : Within R s t)
    (hp : R.Allows [.lanes .lineFront, .lanes .hostFront, .lanes .lineRx, .lanes .hostRx, .lanes .spot])
    (hk8 : R.Opens [F.LRX_TPC_STATUS_LOCK, F.LRX_TR_STATUS_FREQ, F.LRX_TR_STATUS_PI_CODE] 8)
    (hk16 : R.Opens [F.HSL_STATUS_PI_CODE, F.HSL_TPC_STATUS_LOCK] 16) :
    Within R s (portStream t ls codes) := by
  unfold Machine.portStream
  exact (h.foldl fun _ _ _ h4 => (h4.rxStream hp hk8 hk16))

theorem Within.cuesReach (h : Within R s t) (hp : R.Allows [.time .cues]) :
    Within R s (cuesReach t) := by
  unfold Machine.cuesReach
  exact (h.withTimeCues hp)

theorem Within.setHostAt {n : ℕ} {x : List (ℕ × ℕ)} (h : Within R s t) (hp : R.Allows [.path .hostAt]) :
    Within R s (setHostAt t n x) := by
  unfold Machine.setHostAt
  exact (h.withPathHostAt hp)

theorem Within.hostAdvance {ns : List ℕ} {span : ℕ} (h : Within R s t) (hp : R.Allows [.path .hostAt]) :
    Within R s (hostAdvance t ns span) := by
  unfold Machine.hostAdvance
  exact (h.foldl fun _ _ _ h4 => (h4.setHostAt hp))

theorem Within.hostWord {p : Nat} {w : List Nat} {slice : Bool} {u : State} (h : Within R s t) (hp : R.Allows [.path .hostAt])
    (hword : Machine.hostWord t p = some (w, slice, u)) : Within R s u := by
  unfold Machine.hostWord at hword
  extract_lets +onlyGivenNames fmt q ns at hword
  generalize 544 = n at hword
  split at hword
  · cases hword
  · simp only [Option.some.injEq, Prod.mk.injEq] at hword
    obtain ⟨-, -, rfl⟩ := hword
    exact .ite (h.hostAdvance hp.mono) h

theorem Within.setPortPath {p : ℕ} {d : Dir} {x : PortPath} (h : Within R s t) (hp : R.Allows [.path .tx, .path .rx]) :
    Within R s (setPortPath t p d x) := by
  unfold Machine.setPortPath
  split
  · exact (h.withPathTx hp.mono)
  · exact (h.withPathRx hp.mono)

theorem Within.fecTake {p : ℕ} {d : Dir} (h : Within R s t) (hp : R.Allows [.path .tx, .path .rx]) :
    Within R s (fecTake t p d) := by
  unfold Machine.fecTake
  exact (h.setPortPath hp)

theorem Within.flowTap {p : ℕ} {d : Dir} {w : List ℕ} {marked : Bool} (h : Within R s t) (hp : R.Allows [.path .tx, .path .rx]) :
    Within R s (flowTap t p d w marked) := by
  unfold Machine.flowTap
  exact (Within.ite (h.setPortPath hp) (Within.ite h (h.setPortPath hp)))

theorem Within.rmSlipped {p : ℕ} {d : Dir} {under : Bool} (h : Within R s t) (hp : R.Allows [.path .tx, .path .rx]) :
    Within R s (rmSlipped t p d under) := by
  unfold Machine.rmSlipped
  extract_lets +onlyGivenNames _ _ s1
  have hs1 : Within R s s1 := (h.setPortPath hp)
  exact hs1.bump.raiseEvent

theorem Within.raiseParity {k : ℕ} {buffer : ℕ} {inst : ℕ} {l : ℕ} (h : Within R s t) (hp : R.Allows [.mem .parity]) :
    Within R s (raiseParity t k buffer inst l) := by
  unfold Machine.raiseParity
  exact (Within.ite ((h.withMemParity hp).raiseEvent) (h.withMemParity hp))

theorem Within.parityErrors {p : ℕ} {buffers : List ℕ} (h : Within R s t) (hp : R.Allows [.mem .parity]) :
    Within R s (parityErrors t p buffers) := by
  unfold Machine.parityErrors
  exact (h.foldl fun _ _ _ h4 => (h4.raiseParity hp))

theorem Within.rmOutput {p : Nat} {d : Dir} {bl : List (Option (BitVec 257) × List Bool)} (h : Within R s t)
    (hp : R.Allows [.path .tx, .path .rx, .mem .parity]) :
    Within R s (rmOutput p d bl t).s := by
  induction bl generalizing t with
  | nil => exact h
  | cons b more ih =>
    obtain ⟨_ | b, fails⟩ := b
    · unfold Machine.rmOutput
      extract_lets +onlyGivenNames x q s1 s2
      have hs1 : Within R s s1 := h.setPortPath hp.mono
      have hs2 : Within R s s2 := .ite (hs1.rmSlipped hp.mono) hs1
      exact ih (hs2.parityErrors hp.mono)
    · exact ih (h.setPortPath hp.mono)

theorem Within.windowMark (h : Within R s t) (hp : R.Allows [.faults .windowMarked]) :
    Within R s (windowMark t) := by
  unfold Machine.windowMark
  exact (h.withFaultsWindowMarked hp)

theorem Within.flagBer {p : ℕ} (h : Within R s t) (hp : R.Allows [.obs .ber]) :
    Within R s (flagBer t p) := by
  unfold Machine.flagBer
  exact (h.withObsBer hp)

theorem Within.rmMark {p : ℕ} {d : Dir} {flagged : Bool} {failed : Bool} (h : Within R s t)
    (hp : R.Allows [.obs .ber, .path .tx, .path .rx, .faults .windowMarked]) :
    Within R s (rmMark t p d flagged failed) := by
  unfold Machine.rmMark
  extract_lets +onlyGivenNames window s1 s2
  have hs1 : Within R s s1 := (Within.ite h.bump h)
  have hs2 : Within R s s2 := (Within.ite ((hs1.windowMark hp.mono).bump) hs1)
  refine Within.ite ?_ ?_
  · extract_lets +onlyGivenNames s3 x
    have hs3 : Within R s s3 := (Within.ite (hs2.flagBer hp.mono) hs2)
    exact (hs3.setPortPath hp.mono)
  · exact hs2

theorem Within.rmShow {p : ℕ} {d : Dir} (h : Within R s t) (hk : R.OpenAt rmFields p) :
    Within R s (rmShow t p d) := by
  unfold Machine.rmShow
  extract_lets +onlyGivenNames r
  split
  · exact ((h.wr hk).wrB hk)
  · exact ((h.wr hk).wrB hk)

theorem Within.countCorr {p : ℕ} {d : Dir} {marked : Bool} {corrected : Option ℕ} (h : Within R s t) :
    Within R s (countCorr t p d marked corrected) := by
  unfold Machine.countCorr
  exact (Within.ite h h.bump)

theorem Within.putOut {p : ℕ} {d : Dir} {n : ℕ} {w : List ℕ} {marked : Bool} (h : Within R s t)
    (hp : R.Allows [.path .tx, .path .rx]) :
    Within R s (putOut t p d n w marked) := by
  unfold Machine.putOut
  extract_lets +onlyGivenNames out s1 x
  have hs1 : Within R s s1 := (Within.ite h.bump h)
  exact (hs1.setPortPath hp)

theorem Within.setTxRec {l : LaneId} {x : TxRec} (h : Within R s t) (hp : R.Allows [.lanes .lineOut, .lanes .hostOut]) :
    Within R s (setTxRec t l x) := by
  unfold Machine.setTxRec
  split
  · exact (h.withLanesLineOut hp.mono)
  · exact (h.withLanesHostOut hp.mono)

theorem Within.setLineTx {n : ℕ} {x : LineTx} (h : Within R s t) (hp : R.Allows [.lanes .tx]) :
    Within R s (setLineTx t n x) := by
  unfold Machine.setLineTx
  exact (h.withLanesTx hp)

theorem Within.retrainShow (h : Within R s t) (hk : R.OpenAt [F.MEM_LUT_STATUS_RETRAIN] 0) :
    Within R s (retrainShow t) := by
  unfold Machine.retrainShow
  exact (h.wr hk)

theorem Within.lutLost {n : ℕ} {b : ℕ} {w : ℕ} (h : Within R s t) (hp : R.Allows [.lanes .tx, .mem .retrain])
    (hk : R.OpenAt [F.MEM_LUT_STATUS_RETRAIN] 0) :
    Within R s (lutLost t n b w) := by
  unfold Machine.lutLost
  extract_lets +onlyGivenNames x s1
  have hs1 : Within R s s1 := (h.setLineTx hp.mono)
  refine Within.retrainShow ?_ hk
  extract_lets +onlyGivenNames src
  have hsrc : Within R s src := hs1.bankInvalid
  exact (hsrc.withMemRetrain hp.mono)

theorem Within.lutRead {n : ℕ} {b : ℕ} {ws : List ℕ} (h : Within R s t) (hp : R.Allows [.lanes .tx, .mem .retrain])
    (hk : R.OpenAt [F.MEM_LUT_STATUS_RETRAIN] 0) :
    Within R s (lutRead t n b ws) := by
  unfold Machine.lutRead
  refine h.foldl fun u1 x2 m3 h4 => ?_
  extract_lets +onlyGivenNames r
  have hr : Within R s r.1 := (h4.eccRead (hk := lutBank_ne_window _ _))
  exact (Within.ite (hr.lutLost hp hk) hr)

theorem Within.lineConvert {n : Fin 8} (h : Within R s t) (hp : R.Allows
    [.lanes .tx, .lanes .lineOut, .lanes .hostOut, .mem .retrain]) (hk : R.OpenAt [F.MEM_LUT_STATUS_RETRAIN] 0) :
    Within R s (lineConvert t n) := by
  unfold Machine.lineConvert
  extract_lets +onlyGivenNames x mid s1 p c s2
  have hs1 : Within R s s1 := by
    unfold s1
    cases lutIndex x.window with
    | none => exact h
    | some e => exact h.lutRead hp.mono hk
  have hs2 : Within R s s2 := .ite hs1.bump hs1
  exact hs2.setTxRec hp.mono

theorem Within.hostConvert {n : Fin 16} (h : Within R s t) (hp : R.Allows [.lanes .lineOut, .lanes .hostOut]) :
    Within R s (hostConvert t n) := by
  unfold Machine.hostConvert
  exact (h.setTxRec hp)

theorem Within.txPush {l : LaneId} {bank : ℕ} {v : Option ℕ} (h : Within R s t)
    (hp : R.Allows [.lanes .tx, .lanes .lineOut, .lanes .hostOut, .mem .retrain]) (hk : R.OpenAt [F.MEM_LUT_STATUS_RETRAIN] 0) :
    Within R s (txPush t l bank v) := by
  unfold Machine.txPush
  extract_lets +onlyGivenNames x y s1
  have hs1 : Within R s s1 := (h.setTxRec hp.mono)
  refine Within.ite ?_ ?_
  · exact hs1
  · split
    · exact (hs1.lineConvert hp hk)
    · exact (hs1.hostConvert hp.mono)

theorem Within.txSend {l : LaneId} {bank : ℕ} {vs : List ℕ} (h : Within R s t)
    (hp : R.Allows [.lanes .tx, .lanes .lineOut, .lanes .hostOut, .mem .retrain]) (hk : R.OpenAt [F.MEM_LUT_STATUS_RETRAIN] 0) :
    Within R s (txSend t l bank vs) := by
  unfold Machine.txSend
  extract_lets +onlyGivenNames s1
  have hs1 : Within R s s1 := (h.foldl fun _ _ _ h4 => (h4.txPush hp hk))
  exact (hs1.setTxRec hp.mono)

theorem Within.sendBurst {l : LaneId} {bank : ℕ} {n : ℕ} (h : Within R s t)
    (hp : R.Allows [.lanes .tx, .lanes .lineOut, .lanes .hostOut, .mem .retrain]) (hk : R.OpenAt [F.MEM_LUT_STATUS_RETRAIN] 0) :
    Within R s (sendBurst t l bank n) := by
  unfold Machine.sendBurst
  exact ((h.setTxRec hp.mono).txSend hp hk)

theorem Within.laneSend {l : LaneId} {bank : ℕ} {n : ℕ} {data : Option (List ℕ)} (h : Within R s t)
    (hp : R.Allows [.lanes .tx, .lanes .lineOut, .lanes .hostOut, .mem .retrain]) (hk : R.OpenAt [F.MEM_LUT_STATUS_RETRAIN] 0) :
    Within R s (laneSend t l bank n data) := by
  unfold Machine.laneSend
  refine Within.ite ?_ ?_
  · extract_lets +onlyGivenNames _ s1
    have hs1 : Within R s s1 := (h.setTxRec hp.mono)
    refine Within.ite ?_ ?_
    · exact (hs1.foldl fun _ _ _ h4 => (h4.txPush hp hk))
    · refine Within.ite ?_ ?_
      · exact (hs1.sendBurst hp hk)
      · refine Within.ite ?_ ?_
        · exact ((hs1.setTxRec hp.mono).txSend hp hk)
        · split
          · exact ((hs1.setTxRec hp.mono).txSend hp hk)
          · exact hs1
  · exact h

theorem Within.hostSend {p : ℕ} {ws : List (List Sym)} (h : Within R s t)
    (hp : R.Allows [.lanes .tx, .lanes .lineOut, .lanes .hostOut, .mem .retrain]) (hk : R.OpenAt [F.MEM_LUT_STATUS_RETRAIN] 0) :
    Within R s (hostSend t p ws) := by
  unfold Machine.hostSend
  exact (h.foldl fun _ _ _ h4 => (h4.foldl fun _ _ _ h8 => (h8.laneSend hp hk)))

theorem Within.toHost {p : ℕ} {n : ℕ} (h : Within R s t) (hp : R.Allows [.lanes .tx, .lanes .lineOut, .lanes .hostOut, .path .tx,
    .path .rx, .mem .retrain]) (hk : R.OpenAt [F.MEM_LUT_STATUS_RETRAIN] 0) :
    Within R s (toHost t p n) := by
  unfold Machine.toHost
  exact (Within.ite ((h.setPortPath hp.mono).hostSend hp.mono hk) (h.setPortPath hp.mono))

theorem Within.toLine {p : ℕ} {n : ℕ} (h : Within R s t) (hp : R.Allows [.lanes .tx, .lanes .lineOut, .lanes .hostOut,
    .path .superTx, .path .innerTx, .mem .retrain]) (hk : R.OpenAt [F.MEM_LUT_STATUS_RETRAIN] 0) :
    Within R s (toLine t p n) := by
  unfold Machine.toLine
  extract_lets +onlyGivenNames w now out
  refine Within.ite ?_ ?_
  · extract_lets +onlyGivenNames cws
    refine Within.ite ?_ ?_
    · extract_lets +onlyGivenNames inner _ s1
      have hs1 : Within R s s1 := (h.withPathSuperTxInnerTx hp.mono)
      exact (hs1.foldl fun _ _ _ h4 => (h4.laneSend hp.mono hk))
    · exact (h.withPathSuperTx hp.mono)
  · exact (h.foldl fun _ _ _ h8 => (h8.laneSend hp.mono hk))

theorem Within.noteGroup {p : ℕ} {d : Dir} {instant : ℕ} (h : Within R s t) (hp : R.Allows [.path .tx, .path .rx]) :
    Within R s (noteGroup t p d instant) := by
  unfold Machine.noteGroup
  exact (h.setPortPath hp)

theorem Within.setShowClock {p : ℕ} {d : Dir} {c : ShowClock} (h : Within R s t) (hp : R.Allows [.time .tx, .time .rx]) :
    Within R s (setShowClock t p d c) := by
  unfold Machine.setShowClock
  split
  · exact (h.withTimeTx hp.mono)
  · exact (h.withTimeRx hp.mono)

theorem Within.sendWord {p : ℕ} {d : Dir} {n : ℕ} {w : List ℕ} {marked : Bool} (h : Within R s t)
    (hp : R.Allows [.time .tx, .time .rx, .lanes .tx, .lanes .lineOut, .lanes .hostOut, .path .tx, .path .rx, .path .superTx,
    .path .innerTx, .mem .retrain]) (hk : R.OpenAt [F.MEM_LUT_STATUS_RETRAIN] 0) :
    Within R s (sendWord p d n w marked t) := by
  unfold Machine.sendWord
  extract_lets +onlyGivenNames s1
  have hs1 : Within R s s1 := (h.putOut hp.mono)
  split
  · exact (hs1.toHost hp.mono hk)
  · extract_lets +onlyGivenNames s2
    have hs2 : Within R s s2 := ((Within.ite (hs1.noteGroup hp.mono) hs1).toLine hp.mono hk)
    exact ((hs2.setShowClock hp.mono).bump)

theorem Within.rmFrames {p : Nat} {d : Dir} {k : Nat} {fails : List (Nat × Bool)} (h : Within R s t)
    (hp : R.Allows [.time .tx, .time .rx, .time .cues, .obs .ber, .lanes .tx, .lanes .lineOut, .lanes .hostOut, .path .tx,
        .path .rx, .path .superTx, .path .innerTx, .mem .parity, .mem .retrain, .faults .windowMarked])
        (hk : R.OpenAt [F.MEM_LUT_STATUS_RETRAIN] 0)
    (hk' : R.OpenAt fillShown p) : Within R s (rmFrames p d k fails t) := by
  induction k generalizing fails t with
  | zero => exact h
  | succ k ih =>
    unfold Machine.rmFrames
    extract_lets +onlyGivenNames s0 n at_ r marked s1 s2
    have hs0 : Within R s s0 := h.cuesReach hp.mono
    have hr : Within R s r.s := hs0.rmOutput hp.mono
    have hs1 : Within R s s1 := (hr.rmShow hk').rmMark hp.mono
    have hs2 : Within R s s2 := .ite hs1.countCorr hs1
    exact ih (hs2.sendWord hp.mono hk)

theorem Within.rmInput {p : ℕ} {d : Dir} {n : ℕ} {w : List ℕ} {flag : Bool} (h : Within R s t)
    (hp : R.Allows [.path .tx, .path .rx]) (hk : R.OpenAt rmFields p) :
    Within R s (rmInput t p d n w flag) := by
  unfold Machine.rmInput
  refine Within.rmShow ?_ hk
  refine h.foldl fun u1 x2 m3 h4 => ?_
  extract_lets +onlyGivenNames r _ t1
  have ht1 : Within R s t1 := (h4.setPortPath hp)
  exact (Within.ite (ht1.rmSlipped hp) ht1)

theorem Within.pathOut {j : Judged} {p : Nat} {d : Dir} {k : CodewordCond} (h : Within R s j.s)
    (hp : R.Allows [.time .tx, .time .rx, .time .cues, .obs .ber, .lanes .tx, .lanes .lineOut, .lanes .hostOut, .path .tx,
        .path .rx, .path .superTx, .path .innerTx, .mem .parity, .mem .retrain, .faults .windowMarked])
        (hk : R.OpenAt [F.MEM_LUT_STATUS_RETRAIN] 0)
    (hk' : R.OpenAt fillShown p) : Within R s (pathOut j p d k) := by
  unfold Machine.pathOut
  extract_lets +onlyGivenNames s0 x s1
  have hs0 : Within R s s0 := h.flowTap hp.mono
  have hs1 : Within R s s1 := hs0.setPortPath hp.mono
  exact .ite ((hs1.rmInput hp.mono hk').rmFrames hp.mono hk hk') (hs1.sendWord hp.mono hk)

theorem Within.passCheck {p : Nat} {d : Dir} {w : List Nat} {slice : Bool} (h : Within R s t) :
    Within R s (passCheck t p d w slice).s := .ite h h.bump

theorem Within.poolShow (h : Within R s t) (hk : R.OpenAt poolFields 0) :
    Within R s (poolShow t) := by
  unfold Machine.poolShow
  extract_lets +onlyGivenNames s1 s2
  have hs1 : Within R s s1 := (((h.wr hk).wr hk).wr hk)
  have hs2 : Within R s s2 := ((hs1.wrB hk).wrB hk)
  exact (hs2.foldl fun _ _ _ h4 => (Within.ite h4 ((h4.wrB hk (hf := by split <;> decide)).raiseEvent)))

theorem Within.setFenced {d : Dir} {mask : ℕ} (h : Within R s t) (hk : R.OpenAt
    [F.FEC_POOL_STATUS_H2L_FENCED, F.FEC_POOL_STATUS_L2H_FENCED] 0) :
    Within R s (setFenced t d mask) := by
  unfold Machine.setFenced
  split
  · exact (h.wr hk)
  · exact (h.wr hk)

theorem Within.fenceMember {d : Dir} {m : ℕ} {cause : ℕ} (h : Within R s t)
    (hk : R.OpenAt ([F.FEC_POOL_STATUS_H2L_FENCED, F.FEC_POOL_STATUS_L2H_FENCED] ++ poolFields) 0) :
    Within R s (fenceMember t d m cause) := by
  unfold Machine.fenceMember
  exact (Within.ite h (((h.setFenced (hk.mono (by decide))).raiseEvent).poolShow (hk.mono (by decide))))

theorem Within.poolDecode {p : Nat} {d : Dir} {w : List Nat} {erased : List Bool} {k : CodewordCond} (h : Within R s t)
    (hp : R.Allows [.path .next, .path .poolNow]) (hk : R.OpenAt poolShown 0) : Within R s (poolDecode t p d w erased k).s := by
  have hs1 : ∀ x y, Within R s { t with path := { t.path with next := x, poolNow := y } } := fun x y =>
    h.withPathNextPoolNow hp.mono
  have hs2 : ∀ (c n : Nat) x y, Within R s (if d = .rx then Machine.bump
      { t with path := { t.path with next := x, poolNow := y } } c n
      else { t with path := { t.path with next := x, poolNow := y } }) := fun c n x y => .ite (hs1 x y).bump (hs1 x y)
  generalize hfun : Machine.poolDecode = f
  delta Machine.poolDecode at hfun
  subst hfun
  beta_reduce
  generalize (if poolShort t d && k.noFree then none else nextMember t d) = o
  cases o with
  | none => exact h
  | some m =>
    generalize k.member = conduct
    cases conduct with
    | wrong =>
      dsimp only
      exact (hs2 ..).fenceMember (hk.mono (by decide))
    | failing =>
      dsimp only
      exact hs2 ..
    | good =>
      dsimp only
      generalize (rsDecodeWith w erased (d == Dir.rx && (portPath t p d).fec.1) (portPath t p d).fec.2.1).1 = v
      cases v <;> exact hs2 ..

theorem Within.creditLanes {p : ℕ} {a : ℕ} {w : List ℕ} {v : List ℕ} (h : Within R s t) :
    Within R s (creditLanes t p a w v) := by
  unfold Machine.creditLanes
  exact (h.foldl fun _ _ _ h4 => h4.bump.bump)

theorem Within.judge {p : Nat} {d : Dir} {a : Nat} {w : List Nat} {erased : List Bool} {slice : Bool} {k : CodewordCond}
    (h : Within R s t) (hp : R.Allows [.obs .ber, .path .tx, .path .rx, .path .next, .path .poolNow, .mem .parity,
        .faults .windowMarked]) (hk : R.OpenAt poolShown 0) :
    Within R s (judge t p d a w erased slice k).s := by
  unfold Machine.judge
  extract_lets +onlyGivenNames lost j again window parity reasons s1 s2 s3 s4 s5 s6 s7 x
  have hj : Within R s j.s := by
    unfold j
    split
    · exact h.passCheck
    · split
      · exact h
      · exact h.poolDecode hp.mono hk
  have hs1 : Within R s s1 := hj.parityErrors hp.mono
  have hs2 : Within R s s2 := .ite (hs1.windowMark hp.mono) hs1
  have hs3 : Within R s s3 := .ite hs2.bump hs2
  have hs4 : Within R s s4 := hs3.foldl fun _ _ _ hu => .ite hu.bump hu
  have hs5 : Within R s s5 := .ite hs4 hs4.countCorr
  have hs6 : Within R s s6 := by
    unfold s6
    split
    · exact hs5.creditLanes
    · exact hs5
  have hs7 : Within R s s7 := .ite (hs6.flagBer hp.mono) hs6
  exact hs7.setPortPath hp.mono

theorem Within.sendFill {p : ℕ} {d : Dir} (h : Within R s t) (hp : R.Allows
    [.lanes .tx, .lanes .lineOut, .lanes .hostOut, .path .tx, .path .rx, .path .superTx, .path .innerTx, .mem .retrain])
    (hk : R.OpenAt [F.MEM_LUT_STATUS_RETRAIN] 0) :
    Within R s (sendFill t p d) := by
  unfold Machine.sendFill
  extract_lets +onlyGivenNames n s1
  have hs1 : Within R s s1 := (h.putOut hp.mono)
  split
  · exact (hs1.toHost hp.mono hk)
  · exact ((Within.ite (hs1.noteGroup hp.mono) hs1).toLine hp.mono hk)

theorem Within.hostToLine {p : ℕ} {codes : List (List ℤ)} {k : CodewordCond} (h : Within R s t) (hp : R.Allows hostToLinePieces)
    (hk : R.OpenAt ([F.FEC_POOL_STATUS_H2L_FENCED, F.FEC_POOL_STATUS_L2H_FENCED, F.MEM_LUT_STATUS_RETRAIN] ++ poolFields) 0)
    (hk'1 : R.OpenAt rmFields p) (hk8 : R.Opens [F.LRX_TPC_STATUS_LOCK, F.LRX_TR_STATUS_FREQ, F.LRX_TR_STATUS_PI_CODE] 8)
    (hk16 : R.Opens [F.HSL_STATUS_PI_CODE, F.HSL_TPC_STATUS_LOCK] 16) :
    Within R s (hostToLine p codes k t) := by
  unfold Machine.hostToLine
  refine Within.ite ?_ h
  extract_lets +onlyGivenNames s1
  have hs1 : Within R s s1 := (h.cuesReach hp.mono).portStream hp.mono hk8 hk16
  refine Within.ite ?_ (hs1.sendFill hp.mono (hk.mono (by decide)))
  split
  · exact hs1
  · next w slice s2 hword =>
    extract_lets +onlyGivenNames s3
    have hs2 := hs1.hostWord hp.mono hword
    have hs3 : Within R s s3 := .ite (hs2.fecTake hp.mono) hs2
    exact (hs3.judge hp.mono (hk.mono (by decide))).pathOut hp.mono (hk.mono (by decide)) hk'1

theorem Within.innerStage {p : ℕ} {words : List (List (Bool × ℕ))} (h : Within R s t) (hp : R.Allows [.path .superRx]) :
    Within R s (innerStage t p words) := by
  unfold Machine.innerStage
  extract_lets +onlyGivenNames w lane res s1
  have hs1 : Within R s s1 := by
    unfold s1
    refine h.foldl fun u1 x2 m3 h4 => ?_
    extract_lets +onlyGivenNames n t1
    have ht1 : Within R s t1 := h4.bump
    exact ht1.bump
  exact (hs1.withPathSuperRx hp)

theorem Within.setLineAt {x : ℕ} {v : ℕ} (h : Within R s t) (hp : R.Allows [.path .lineAt]) :
    Within R s (setLineAt t x v) := by
  unfold Machine.setLineAt
  exact (h.withPathLineAt hp)

theorem Within.lineAdvance {p : ℕ} {span : ℕ} (h : Within R s t) (hp : R.Allows [.path .lineAt]) :
    Within R s (lineAdvance t p span) := by
  unfold Machine.lineAdvance
  exact (h.foldl fun _ _ _ h4 => (h4.setLineAt hp))

theorem Within.superReceive {p : ℕ} {k : CodewordCond} (h : Within R s t) (hp : R.Allows superReceivePieces)
    (hk : R.OpenAt ([F.FEC_POOL_STATUS_H2L_FENCED, F.FEC_POOL_STATUS_L2H_FENCED, F.MEM_LUT_STATUS_RETRAIN] ++ poolFields) 0)
    (hk'1 : R.OpenAt rmFields p) :
    Within R s (superReceive t p k) := by
  unfold Machine.superReceive
  split
  · exact h
  · extract_lets +onlyGivenNames _ s1
    have hs1 : Within R s s1 := h.withPathSuperRx hp.mono
    exact (hs1.judge hp.mono (hk.mono (by decide))).pathOut hp.mono (hk.mono (by decide)) hk'1

theorem Within.rxClock {p : ℕ} {places : List (ℕ × ℕ)} (h : Within R s t)
    (hp : R.Allows [.time .tx, .time .rx, .path .tx, .path .rx]) :
    Within R s (rxClock t p places) := by
  unfold Machine.rxClock
  extract_lets +onlyGivenNames first s1
  have hs1 : Within R s s1 := (Within.ite (h.noteGroup hp.mono) h)
  exact ((hs1.setShowClock hp.mono).bump)

theorem Within.setGather {n : ℕ} {x : Option Gatherer} (h : Within R s t) (hp : R.Allows [.lanes .gather]) :
    Within R s (setGather t n x) := by
  unfold Machine.setGather
  exact (h.withLanesGather hp)

theorem Within.gatherMark {l : LaneId} {bits : ℕ} (h : Within R s t) (hp : R.Allows [.lanes .gather]) :
    Within R s (gatherMark t l bits) := by
  unfold Machine.gatherMark
  split
  · exact h
  · split
    · exact (Within.ite (h.setGather hp) h)
    · exact h

theorem Within.gatherLevels {n : ℕ} (h : Within R s t) (hp : R.Allows [.lanes .gather]) :
    Within R s (gatherLevels t n) := by
  unfold Machine.gatherLevels
  exact (h.gatherMark hp)

theorem Within.gatherTake {n : ℕ} {at0 : ℕ} {span : ℕ} (h : Within R s t) (hp : R.Allows [.lanes .gather]) :
    Within R s (gatherTake t n at0 span) := by
  unfold Machine.gatherTake
  split
  · exact (Within.ite ((h.setGather hp).gatherLevels hp) h)
  · exact h

theorem Within.gatherFollow {p : ℕ} (h : Within R s t) (hp : R.Allows [.lanes .gather]) (hk8 : R.Opens [F.LEQ_XA_GATHER_STATE] 8)
    :
    Within R s (gatherFollow t p) := by
  unfold Machine.gatherFollow
  refine h.foldl fun u1 x2 m3 h4 => ?_
  split
  · exact (Within.ite ((h4.wr (hk8 _ (lt_of_mem_portLines m3))).gatherLevels hp) h4)
  · exact h4

theorem Within.gatherLanes {p : ℕ} {span : ℕ} {at_ : List (ℕ × ℕ)} (h : Within R s t) (hp : R.Allows [.lanes .gather])
    (hk8 : R.Opens [F.LEQ_XA_GATHER_STATE] 8) :
    Within R s (gatherLanes t p span at_) := by
  unfold Machine.gatherLanes
  refine (h.gatherFollow hp hk8).foldl fun u1 x2 m3 h4 => ?_
  split
  · exact (Within.ite (h4.gatherTake hp) h4)
  · exact h4

theorem Within.plainReceive {p : ℕ} {segs : List (List RxSym)} {k : CodewordCond} (h : Within R s t)
    (hp : R.Allows plainReceivePieces) (hk : R.OpenAt ([F.FEC_POOL_STATUS_H2L_FENCED, F.FEC_POOL_STATUS_L2H_FENCED,
    F.MEM_LUT_STATUS_RETRAIN] ++ poolFields) 0) (hk'1 : R.OpenAt rmFields p) (hk8 : R.Opens [F.LEQ_XA_GATHER_STATE] 8) :
    Within R s (plainReceive t p segs k) := by
  unfold Machine.plainReceive
  extract_lets +onlyGivenNames span places s1
  have hs1 : Within R s s1 := (((h.lineAdvance hp.mono).gatherLanes hp.mono hk8).rxClock
    hp.mono).fecTake hp.mono
  exact (hs1.judge hp.mono (hk.mono (by decide))).pathOut hp.mono (hk.mono (by decide)) hk'1

theorem Within.lineToHost {p : ℕ} {codes : List (List ℤ)} {k : CodewordCond} (h : Within R s t) (hp : R.Allows lineToHostPieces)
    (hk : R.OpenAt ([F.FEC_POOL_STATUS_H2L_FENCED, F.FEC_POOL_STATUS_L2H_FENCED, F.MEM_LUT_STATUS_RETRAIN] ++ poolFields) 0)
    (hk'1 : R.OpenAt rmFields p) (hk8 : R.Opens [F.LEQ_XA_GATHER_STATE, F.LRX_TPC_STATUS_LOCK, F.LRX_TR_STATUS_FREQ,
    F.LRX_TR_STATUS_PI_CODE] 8) (hk16 : R.Opens [F.HSL_STATUS_PI_CODE, F.HSL_TPC_STATUS_LOCK] 16) :
    Within R s (lineToHost p codes k t) := by
  unfold Machine.lineToHost
  refine Within.ite ?_ h
  extract_lets +onlyGivenNames s1
  have hs1 : Within R s s1 := (h.cuesReach hp.mono).portStream hp.mono (hk8.mono (by decide)) hk16
  have hfollow := hs1.gatherFollow (p := p) hp.mono (hk8.mono (by decide))
  refine Within.ite (.ite (.ite ?_ ?_) ?_) (hfollow.sendFill hp.mono (hk.mono (by decide)))
  · extract_lets +onlyGivenNames span
    split
    · exact hs1
    · extract_lets +onlyGivenNames places s2
      have hs2 : Within R s s2 := (hs1.lineAdvance hp.mono).innerStage hp.mono
      refine Within.superReceive ?_ hp.mono hk hk'1
      exact ((hs2.gatherLanes hp.mono (hk8.mono (by decide))).rxClock hp.mono).fecTake hp.mono
  · exact (hfollow.rxClock hp.mono).superReceive hp.mono hk hk'1
  · split
    · exact hs1
    · exact hs1.plainReceive hp.mono hk hk'1 (hk8.mono (by decide))

theorem Within.pllShow (h : Within R s t) (hk : R.OpenAt [F.HSL_REF_STATUS_A_LOCK, F.HSL_REF_STATUS_B_LOCK] 0) :
    Within R s (pllShow t) := by
  unfold Machine.pllShow
  exact ((h.wrB hk).wrB hk)

theorem Within.setPllPair {line : Bool} {b : ℕ} {x : PllPair} (h : Within R s t) (hp : R.Allows [.time .linePll, .time .hostPll])
    :
    Within R s (setPllPair t line b x) := by
  unfold Machine.setPllPair
  exact (Within.ite (h.withTimeLinePll hp.mono) (h.withTimeHostPll hp.mono))

theorem Within.wrLine {l : LaneId} {f : Field} {v : ℕ} (h : Within R s t) (hk8 : R.Opens [f] 8) :
    Within R s (wrLine t l f v) := by
  unfold Machine.wrLine
  split
  · next n =>
      exact (h.wr (hk8 _ (Fin.isLt _)) (hf := by simp))
  · exact h

theorem Within.eqRefresh {l : LaneId} (h : Within R s t) (hk8 : R.Opens eqStateFields 8) (hk16 : R.Opens hostEqFields 16) :
    Within R s (eqRefresh t l) := by
  unfold Machine.eqRefresh
  exact (((h.wrL (hk8.mono (by decide)) (hk16.mono (by decide))).wrL (hk8.mono (by decide)) (hk16.mono (by decide))).wrLine
      (hk8.mono (by decide)))

theorem Within.setLol {l : LaneId} {b : Bool} (h : Within R s t) (hp : R.Allows [.lanes .gather])
    (hk8 : R.Opens ([F.LRX_STATUS_LOL] ++ eqStateFields) 8) (hk16 : R.Opens ([F.HSL_STATUS_LOL] ++ hostEqFields) 16) :
    Within R s (setLol t l b) := by
  unfold Machine.setLol
  refine Within.ite ?_ ?_
  · exact h
  · extract_lets +onlyGivenNames s1 s2
    have hs1 : Within R s s1 := (h.wrL (hk8.mono (by decide)) (hk16.mono (by decide)))
    have hs2 : Within R s s2 := (hs1.raiseEvent.gatherMark hp)
    exact ((Within.ite hs2.bumpL hs2).eqRefresh (hk8.mono (by decide)) (hk16.mono (by decide)))

theorem Within.setLink {p : ℕ} {x : LinkPort} (h : Within R s t) (hp : R.Allows [.link]) :
    Within R s (setLink t p x) := by
  unfold Machine.setLink
  exact (h.withLink hp)

theorem Within.sealRefresh (h : Within R s t) (hk8 : R.Opens [F.LTX_STATUS_SEALED] 8) :
    Within R s (sealRefresh t) := by
  unfold Machine.sealRefresh
  exact (h.foldl fun _ _ m3 h4 => (h4.wrB (hk8 _ (List.mem_range.1 m3))))

theorem Within.setCue {e : ℕ} {x : CueSlot} (h : Within R s t) (hp : R.Allows [.time .cues])
    (hk8 : R.Opens [F.LTX_STATUS_SEALED] 8) :
    Within R s (setCue t e x) := by
  unfold Machine.setCue
  exact ((h.withTimeCues hp).sealRefresh hk8)

theorem Within.cancelCue {e : ℕ} {reason : ℕ} (h : Within R s t) (hp : R.Allows [.time .cues])
    (hk8 : R.Opens [F.LTX_STATUS_SEALED] 8) :
    Within R s (cancelCue t e reason) := by
  unfold Machine.cancelCue
  split
  · exact ((h.setCue hp hk8).raiseEvent)
  · exact h

theorem Within.cancelCues {p : Cue → Bool} {reason : ℕ} (h : Within R s t) (hp : R.Allows [.time .cues])
    (hk8 : R.Opens [F.LTX_STATUS_SEALED] 8) :
    Within R s (cancelCues t p reason) := by
  unfold Machine.cancelCues
  refine h.foldl fun u1 x2 m3 h4 => ?_
  split
  · exact (Within.ite (h4.cancelCue hp hk8) h4)
  · exact h4

theorem Within.setXa {n : ℕ} {x : Option XaRun} (h : Within R s t) (hp : R.Allows [.lanes .xa]) :
    Within R s (setXa t n x) := by
  unfold Machine.setXa
  exact (h.withLanesXa hp)

theorem Within.xaStop {n : ℕ} {reason : ℕ} (h : Within R s t) (hp : R.Allows [.time .cues, .lanes .xa])
    (hk8 : R.Opens [F.LTX_STATUS_SEALED] 8) (hk : R.OpenAt [F.LTX_XA_STATUS_REASON, F.LTX_XA_STATUS_STATE] n) :
    Within R s (xaStop t n reason) := by
  unfold Machine.xaStop
  split
  · exact h
  · extract_lets +onlyGivenNames s1 s2 s3
    have hs1 : Within R s s1 := (h.cancelCues hp.mono hk8)
    have hs2 : Within R s s2 := by
      unfold s2
      refine hs1.foldl fun u1 x2 m3 h4 => ?_
      split
      · exact (Within.ite (h4.setCue hp.mono hk8) h4)
      · exact h4
    have hs3 : Within R s s3 := (((hs2.setXa hp.mono).wr hk).wr hk)
    exact hs3.raiseEvent

theorem Within.xaStopPort {p : ℕ} {reason : ℕ} (h : Within R s t) (hp : R.Allows [.time .cues, .lanes .xa])
    (hk8 : R.Opens [F.LTX_STATUS_SEALED, F.LTX_XA_STATUS_REASON, F.LTX_XA_STATUS_STATE] 8) :
    Within R s (xaStopPort t p reason) := by
  unfold Machine.xaStopPort
  exact (h.foldl fun _ _ m3 h4 => (h4.xaStop hp (hk8.mono (by decide)) (hk8.at (lt_of_mem_portLines m3) (by decide))))

theorem Within.clearLost {p : ℕ} (h : Within R s t) (hp : R.Allows [.link]) (hk : R.OpenAt [F.PCS_LINK_STATUS_LOST] p) :
    Within R s (clearLost t p) := by
  unfold Machine.clearLost
  exact ((h.wr hk).setLink hp)

theorem Within.skewMark {a : LaneId} (h : Within R s t) (hp : R.Allows [.cal .skewLive]) :
    Within R s (skewMark t a) := by
  unfold Machine.skewMark
  split
  · exact (Within.ite h (h.withCalSkewLive hp))
  · exact h

theorem Within.setTx {l : LaneId} {idle : Bool} {burst : Bool} (h : Within R s t) (hp : R.Allows [.cal .skewLive])
    (hk8 : R.Opens lineTxFields 8) (hk16 : R.Opens hostTxFields 16) :
    Within R s (setTx t l idle burst) := by
  unfold Machine.setTx
  exact (((h.wrL (hk8.mono (by decide)) (hk16.mono (by decide))).wrL (hk8.mono (by decide)) (hk16.mono (by decide))).skewMark hp)

theorem Within.txFollow {l : LaneId} (h : Within R s t) (hp : R.Allows [.lanes .lineOut, .lanes .hostOut, .cal .skewLive])
    (hk8 : R.Opens lineTxFields 8) (hk16 : R.Opens hostTxFields 16) :
    Within R s (txFollow t l) := by
  unfold Machine.txFollow
  exact (Within.ite (Within.ite h ((h.setTx hp.mono hk8 hk16).raiseEvent))
      (Within.ite (((h.setTxRec hp.mono).setTx hp.mono hk8 hk16).bumpL) h))

theorem Within.txFollowPort {p : ℕ} (h : Within R s t) (hp : R.Allows [.lanes .lineOut, .lanes .hostOut, .cal .skewLive])
    (hk8 : R.Opens lineTxFields 8) (hk16 : R.Opens hostTxFields 16) :
    Within R s (txFollowPort t p) := by
  unfold Machine.txFollowPort
  exact (h.foldl fun _ _ _ h4 => (h4.txFollow hp hk8 hk16))

theorem Within.lockShow {p : ℕ} (h : Within R s t) (hk : R.OpenAt alignFields p) :
    Within R s (lockShow t p) := by
  unfold Machine.lockShow
  extract_lets +onlyGivenNames s1
  have hs1 : Within R s s1 := (h.foldl fun _ _ m3 h4 => (((((h4.wr hk (hj := .inr (List.mem_range.1 m3))).wr hk
      (hj := .inr (List.mem_range.1 m3))).wrB hk (hj := .inr (List.mem_range.1 m3))).wrB hk
      (hj := .inr (List.mem_range.1 m3))).wr hk (hj := .inr (List.mem_range.1 m3))))
  exact (hs1.wr hk)

theorem Within.lockShowLane {x : ℕ} (h : Within R s t) (hka : ∀ i, R.OpenAt alignFields i) :
    Within R s (lockShowLane t x) := by
  unfold Machine.lockShowLane
  split
  · exact (h.lockShow (hka _))
  · exact h

theorem Within.setLock {x : ℕ} {m : MarkerLock} (h : Within R s t) (hp : R.Allows [.lanes .lock]) :
    Within R s (setLock t x m) := by
  unfold Machine.setLock
  exact (h.withLanesLock hp)

theorem Within.raiseLockChange {x : ℕ} (h : Within R s t) :
    Within R s (raiseLockChange t x) := by
  unfold Machine.raiseLockChange
  exact h.raiseEvent

theorem Within.lockSearch {x : ℕ} (h : Within R s t) (hp : R.Allows [.lanes .lock]) (hka : ∀ i, R.OpenAt alignFields i) :
    Within R s (lockSearch t x) := by
  unfold Machine.lockSearch
  extract_lets +onlyGivenNames m s1
  have hs1 : Within R s s1 := ((h.setLock hp).lockShowLane hka)
  exact (Within.ite hs1.bump.raiseLockChange hs1)

theorem Within.hostUnlock {n : ℕ} (h : Within R s t) (hk : R.OpenAt [F.HSL_ALIGN_STATUS_LOCKED] n) :
    Within R s (hostUnlock t n) := by
  unfold Machine.hostUnlock
  exact (Within.ite ((h.wr hk).bump) h)

theorem Within.setPaired {p : ℕ} {b : Bool} (h : Within R s t) (hp : R.Allows [.time .paired]) :
    Within R s (setPaired t p b) := by
  unfold Machine.setPaired
  exact (h.withTimePaired hp)

theorem Within.rmReset {p : ℕ} {d : Dir} (h : Within R s t) (hp : R.Allows [.path .tx, .path .rx]) (hk : R.OpenAt rmFields p) :
    Within R s (rmReset t p d) := by
  unfold Machine.rmReset
  exact ((h.setPortPath hp).rmShow hk)

theorem Within.setFreewheel {p : ℕ} {d : Dir} {b : Bool} (h : Within R s t) (hp : R.Allows [.time .tx, .time .rx]) :
    Within R s (setFreewheel t p d b) := by
  unfold Machine.setFreewheel
  exact (h.setShowClock hp)

theorem Within.setTxAligned {p : ℕ} {b : Bool} (h : Within R s t) (hp : R.Allows
    [.time .tx, .time .rx, .lanes .lineOut, .lanes .hostOut, .link, .path .tx, .path .rx, .cal .skewLive])
    (hk : R.OpenAt ([F.PCS_ALIGN_STATUS_TX_ALIGNED] ++ rmFields) p) (hk8 : R.Opens lineTxFields 8)
    (hk16 : R.Opens hostTxFields 16) :
    Within R s (setTxAligned t p b) := by
  unfold Machine.setTxAligned
  extract_lets +onlyGivenNames s0 s1
  have hs0 : Within R s s0 := (Within.ite (h.rmReset hp.mono (hk.mono (by decide))) h)
  have hs1 : Within R s s1 := ((hs0.wrB hk).setFreewheel hp.mono)
  exact ((Within.ite (hs1.setLink hp.mono) hs1).txFollowPort hp.mono hk8 hk16)

theorem Within.setRxAligned {p : ℕ} {b : Bool} (h : Within R s t) (hp : R.Allows [.time .tx, .time .rx, .path .tx, .path .rx])
    (hk : R.OpenAt ([F.PCS_ALIGN_STATUS_RX_DESKEWED] ++ rmFields) p) :
    Within R s (setRxAligned t p b) := by
  unfold Machine.setRxAligned
  extract_lets +onlyGivenNames s1
  have hs1 : Within R s s1 := ((h.wrB hk).setFreewheel hp.mono)
  exact (Within.ite (hs1.rmReset hp.mono (hk.mono (by decide))) hs1)

theorem Within.setCtle {l : LaneId} {k : ℕ} (h : Within R s t) (hk8 : R.Opens [F.LRX_CTLE_STATUS_CODE] 8)
    (hk16 : R.Opens [F.HSL_STATUS_CTLE_CODE] 16) :
    Within R s (setCtle t l k) := by
  unfold Machine.setCtle
  exact (h.wrL hk8 hk16)

theorem Within.searchStart {l : LaneId} (h : Within R s t) (hp : R.Allows [.lanes .lineFront, .lanes .hostFront])
    (hk8 : R.Opens ([F.LRX_CTLE_STATUS_CODE, F.LRX_STATUS_CTLE_SEARCH] ++ eqStateFields) 8)
    (hk16 : R.Opens ([F.HSL_STATUS_CTLE_CODE] ++ hostEqFields) 16) :
    Within R s (searchStart t l) := by
  unfold Machine.searchStart
  extract_lets +onlyGivenNames x s1
  have hs1 : Within R s s1 := (h.setFront hp)
  exact (((hs1.setCtle (hk8.mono (by decide)) (hk16.mono (by decide))).wrLine (hk8.mono (by decide))).eqRefresh
      (hk8.mono (by decide)) (hk16.mono (by decide)))

theorem Within.setEqRec {l : LaneId} {x : EqRec} (h : Within R s t) (hp : R.Allows [.lanes .lineEq, .lanes .hostEq]) :
    Within R s (setEqRec t l x) := by
  unfold Machine.setEqRec
  split
  · exact (h.withLanesLineEq hp.mono)
  · exact (h.withLanesHostEq hp.mono)

theorem Within.eqShowTaps {n : ℕ} {e : EqRec} (h : Within R s t) (hk : R.OpenAt eqTapFields n) :
    Within R s (eqShowTaps t n e) := by
  unfold Machine.eqShowTaps
  extract_lets +onlyGivenNames s1 s2 s3 s4
  have hs1 : Within R s s1 := (h.foldl fun _ _ m3 h4 => (h4.wrI hk (hj := .inr (List.mem_range.1 m3))))
  have hs2 : Within R s s2 := ((hs1.wrI hk).wrI hk)
  have hs3 : Within R s s3 := ((hs2.wrI hk).wrI hk)
  have hs4 : Within R s s4 := (hs3.foldl fun _ _ m7 h8 => ((h8.wrI hk (hj := .inr (List.mem_range.1 m7))).wrI hk
      (hj := .inr (List.mem_range.1 m7))))
  exact (hs4.wr hk)

theorem Within.putEq {l : LaneId} {e : EqRec} (h : Within R s t) (hp : R.Allows [.lanes .lineEq, .lanes .hostEq])
    (hk8 : R.Opens (eqTapFields ++ eqStateFields) 8) (hk16 : R.Opens hostEqFields 16) :
    Within R s (putEq t l e) := by
  unfold Machine.putEq
  extract_lets +onlyGivenNames s1
  have hs1 : Within R s s1 := (h.setEqRec hp)
  refine Within.eqRefresh ?_ (hk8.mono (by decide)) hk16
  split
  · next n =>
      exact (hs1.eqShowTaps (hk8.at (Fin.isLt _) (by decide)))
  · exact hs1

theorem Within.raiseDdEntry {l : LaneId} (h : Within R s t) :
    Within R s (raiseDdEntry t l) := by
  unfold Machine.raiseDdEntry
  split
  · exact h.bump.raiseEvent
  · exact h

theorem Within.eqStart {l : LaneId} {blind : Bool} (h : Within R s t) (hp : R.Allows [.lanes .lineEq, .lanes .hostEq])
    (hk8 : R.Opens (eqTapFields ++ eqStateFields) 8) (hk16 : R.Opens hostEqFields 16) :
    Within R s (eqStart t l blind) := by
  unfold Machine.eqStart
  exact (Within.ite (Within.ite (h.putEq hp hk8 hk16) ((h.putEq hp hk8 hk16).raiseDdEntry)) (h.putEq hp hk8 hk16))

theorem Within.laneAcquire {l : LaneId} (h : Within R s t) (hp : R.Allows
    [.lanes .lineFront, .lanes .hostFront, .lanes .lineEq, .lanes .hostEq])
    (hk8 : R.Opens ([F.LRX_CTLE_STATUS_CODE, F.LRX_STATUS_CTLE_SEARCH] ++ eqTapFields ++ eqStateFields) 8)
    (hk16 : R.Opens ([F.HSL_STATUS_CTLE_CODE] ++ hostEqFields) 16) :
    Within R s (laneAcquire t l) := by
  unfold Machine.laneAcquire
  refine Within.ite ?_ ?_
  · extract_lets +onlyGivenNames _ s1
    have hs1 : Within R s s1 := ((h.setFront hp.mono).wrLine (hk8.mono (by decide)))
    exact (Within.ite (hs1.eqRefresh (hk8.mono (by decide)) (hk16.mono (by decide)))
        (hs1.searchStart hp.mono (hk8.mono (by decide)) hk16))
  · exact (((h.setFront hp.mono).wrLine (hk8.mono (by decide))).eqStart hp.mono (hk8.mono (by decide)) (hk16.mono (by decide)))

theorem Within.enterState {p : ℕ} {new : ℕ} (h : Within R s t) (hp : R.Allows
    [.time .tx, .time .rx, .time .paired, .lanes .lineFront, .lanes .hostFront, .lanes .lineEq, .lanes .hostEq, .lanes .lineOut,
    .lanes .hostOut, .lanes .lock, .link, .path .tx, .path .rx, .cal .skewLive]) (hka : ∀ i, R.OpenAt alignFields i)
    (hk16 : R.Opens ([F.HSL_ALIGN_STATUS_LOCKED, F.HSL_STATUS_CTLE_CODE] ++ hostEqFields ++ hostTxFields) 16)
    (hk : R.OpenAt ([F.PCS_ALIGN_STATUS_RX_DESKEWED, F.PCS_ALIGN_STATUS_TX_ALIGNED, F.PCS_LINK_STATUS_PROBED,
    F.PCS_LINK_TIME_RESTARTS] ++ rmFields) p) (hk8 : R.Opens ([F.LRX_CTLE_STATUS_CODE, F.LRX_STATUS_CTLE_SEARCH] ++ eqTapFields
    ++ eqStateFields ++ lineTxFields) 8) :
    Within R s (enterState t p new) := by
  unfold Machine.enterState
  extract_lets +onlyGivenNames lanes
  refine Within.ite ?_ ?_
  · extract_lets +onlyGivenNames s1 s2
    have hs1 : Within R s s1 := (h.foldl fun _ _ _ h4 => (h4.lockSearch hp.mono hka))
    have hs2 : Within R s s2 := (hs1.foldl fun _ _ m7 h8 => (h8.hostUnlock (hk16.at (lt_of_mem_portHosts m7) (by decide))))
    exact ((((hs2.setLink hp.mono).setRxAligned hp.mono (hk.mono (by decide))).setTxAligned hp.mono (hk.mono (by decide))
        (hk8.mono (by decide)) (hk16.mono (by decide))).setPaired hp.mono)
  · refine Within.ite ?_ ?_
    · exact (((h.setRxAligned hp.mono (hk.mono (by decide))).setTxAligned hp.mono (hk.mono (by decide)) (hk8.mono (by decide))
        (hk16.mono (by decide))).setPaired hp.mono)
    · refine Within.ite ?_ ?_
      · extract_lets +onlyGivenNames s1 _ s2
        have hs1 : Within R s s1 := ((h.setRxAligned hp.mono (hk.mono (by decide))).setPaired hp.mono)
        have hs2 : Within R s s2 := (hs1.setLink hp.mono)
        exact (((hs2.wr hk).inc hk).foldl fun _ _ _ h12 => (h12.laneAcquire hp.mono (hk8.mono (by decide))
            (hk16.mono (by decide))))
      · exact (Within.ite ((h.wr hk).setLink hp.mono) h)

theorem Within.linkGo {p : ℕ} {new : ℕ} {reason : ℕ} (h : Within R s t) (hp : R.Allows
    [.time .tx, .time .rx, .time .paired, .time .cues, .lanes .lineFront, .lanes .hostFront, .lanes .lineEq, .lanes .hostEq,
    .lanes .lineOut, .lanes .hostOut, .lanes .lock, .lanes .xa, .link, .path .tx, .path .rx, .cal .skewLive])
    (hk : R.OpenAt ([F.PCS_ALIGN_STATUS_RX_DESKEWED, F.PCS_ALIGN_STATUS_TX_ALIGNED, F.PCS_LINK_STATUS_LOST,
    F.PCS_LINK_STATUS_PROBED, F.PCS_LINK_STATUS_REASON, F.PCS_LINK_STATUS_STATE, F.PCS_LINK_TIME_RESTARTS] ++ rmFields) p)
    (hk8 : R.Opens ([F.LRX_CTLE_STATUS_CODE, F.LRX_STATUS_CTLE_SEARCH, F.LTX_STATUS_SEALED, F.LTX_XA_STATUS_REASON,
    F.LTX_XA_STATUS_STATE] ++ eqTapFields ++ eqStateFields ++ lineTxFields) 8) (hka : ∀ i, R.OpenAt alignFields i)
    (hk16 : R.Opens ([F.HSL_ALIGN_STATUS_LOCKED, F.HSL_STATUS_CTLE_CODE] ++ hostEqFields ++ hostTxFields) 16) :
    Within R s (linkGo t p new reason) := by
  unfold Machine.linkGo
  extract_lets +onlyGivenNames old s1 s2 s3 s4
  have hs1 : Within R s s1 := ((h.wr hk).wr hk)
  have hs2 : Within R s s2 := hs1.raiseEvent
  have hs3 : Within R s s3 := (Within.ite ((hs2.clearLost hp.mono (hk.mono (by decide))).xaStopPort hp.mono
      (hk8.mono (by decide))) hs2)
  have hs4 : Within R s s4 := ((hs3.enterState hp.mono hka hk16 (hk.mono (by decide)) (hk8.mono (by decide))).txFollowPort
      hp.mono (hk8.mono (by decide)) (hk16.mono (by decide)))
  exact (hs4.foldl fun _ _ _ h4 => (h4.eqRefresh (hk8.mono (by decide)) (hk16.mono (by decide))))

theorem Within.laneLost {x : ℕ} {cause : ℕ} (h : Within R s t) (hp : R.Allows
    [.time .tx, .time .rx, .time .paired, .time .cues, .lanes .lineFront, .lanes .hostFront, .lanes .lineEq, .lanes .hostEq,
    .lanes .lineOut, .lanes .hostOut, .lanes .lock, .lanes .xa, .link, .path .tx, .path .rx, .cal .skewLive])
    (hka : ∀ i, R.OpenAt ([F.PCS_ALIGN_STATUS_RX_DESKEWED, F.PCS_ALIGN_STATUS_TX_ALIGNED, F.PCS_LINK_STATUS_LOST,
    F.PCS_LINK_STATUS_PROBED, F.PCS_LINK_STATUS_REASON, F.PCS_LINK_STATUS_STATE, F.PCS_LINK_TIME_RESTARTS] ++ alignFields ++
    rmFields) i) (hk8 : R.Opens ([F.LRX_CTLE_STATUS_CODE, F.LRX_STATUS_CTLE_SEARCH, F.LTX_STATUS_SEALED, F.LTX_XA_STATUS_REASON,
    F.LTX_XA_STATUS_STATE] ++ eqTapFields ++ eqStateFields ++ lineTxFields) 8)
    (hk16 : R.Opens ([F.HSL_ALIGN_STATUS_LOCKED, F.HSL_STATUS_CTLE_CODE] ++ hostEqFields ++ hostTxFields) 16) :
    Within R s (laneLost t x cause) := by
  unfold Machine.laneLost
  split
  · exact h
  · split
    · exact h
    · refine Within.ite ?_ ?_
      · extract_lets +onlyGivenNames s1 _ s2 s3
        have hs1 : Within R s s1 := (h.wr (hka _))
        have hs2 : Within R s s2 := (hs1.setLink hp.mono)
        have hs3 : Within R s s3 := hs2.bump.raiseEvent
        exact (Within.ite (hs3.linkGo hp ((hka _).mono (by decide)) hk8 (fun i => (hka i).mono (by decide)) hk16)
            (Within.ite (hs3.linkGo hp ((hka _).mono (by decide)) hk8 (fun i => (hka i).mono (by decide)) hk16) hs3))
      · exact h

theorem Within.hostLaneDown {n : ℕ} (h : Within R s t) (hp : R.Allows [.time .tx, .time .rx, .lanes .lineOut, .lanes .hostOut,
    .link, .path .tx, .path .rx, .cal .skewLive]) (hk : R.OpenAt [F.HSL_ALIGN_STATUS_LOCKED] n)
    (hka : ∀ i, R.OpenAt ([F.PCS_ALIGN_STATUS_TX_ALIGNED] ++ rmFields) i) (hk8 : R.Opens lineTxFields 8)
    (hk16 : R.Opens hostTxFields 16) :
    Within R s (hostLaneDown t n) := by
  unfold Machine.hostLaneDown
  extract_lets +onlyGivenNames s1
  have hs1 : Within R s s1 := (h.hostUnlock hk)
  split
  · exact (Within.ite (hs1.setTxAligned hp (hka _) hk8 hk16) hs1)
  · exact hs1

theorem Within.lolRises {l : LaneId} (h : Within R s t) (hp : R.Allows lolRisesPieces)
    (hk8 : R.Opens ([F.LRX_CTLE_STATUS_CODE, F.LRX_STATUS_CTLE_SEARCH, F.LRX_STATUS_LOL, F.LTX_STATUS_SEALED,
    F.LTX_XA_STATUS_REASON, F.LTX_XA_STATUS_STATE] ++ eqTapFields ++ eqStateFields ++ lineTxFields) 8)
    (hk16 : R.Opens ([F.HSL_ALIGN_STATUS_LOCKED, F.HSL_STATUS_CTLE_CODE, F.HSL_STATUS_LOL] ++ hostEqFields ++ hostTxFields) 16)
    (hka : ∀ i, R.OpenAt ([F.PCS_ALIGN_STATUS_RX_DESKEWED, F.PCS_ALIGN_STATUS_TX_ALIGNED, F.PCS_LINK_STATUS_LOST,
    F.PCS_LINK_STATUS_PROBED, F.PCS_LINK_STATUS_REASON, F.PCS_LINK_STATUS_STATE, F.PCS_LINK_TIME_RESTARTS] ++ alignFields ++
    rmFields) i) :
    Within R s (lolRises t l) := by
  unfold Machine.lolRises
  extract_lets +onlyGivenNames s1
  have hs1 : Within R s s1 := (h.setLol hp.mono (hk8.mono (by decide)) (hk16.mono (by decide)))
  split
  · exact (hs1.laneLost hp.mono hka (hk8.mono (by decide)) (hk16.mono (by decide)))
  · next n =>
      exact (hs1.hostLaneDown hp.mono (hk16.at (Fin.isLt _) (by decide)) (fun i => (hka i).mono (by decide))
          (hk8.mono (by decide)) (hk16.mono (by decide)))

theorem Within.noteSwitch {line : Bool} {b : ℕ} (h : Within R s t) (hp : R.Allows [.path .lineSwitch, .path .hostSwitch]) :
    Within R s (noteSwitch t line b) := by
  unfold Machine.noteSwitch
  exact (Within.ite (h.withPathLineSwitch hp.mono) (h.withPathHostSwitch hp.mono))

theorem Within.setLap {l : LaneId} {x : Option Lap} (h : Within R s t) (hp : R.Allows [.cal .lineLaps, .cal .hostLaps]) :
    Within R s (setLap t l x) := by
  unfold Machine.setLap
  split
  · exact (h.withCalLineLaps hp.mono)
  · exact (h.withCalHostLaps hp.mono)

theorem Within.calSwitchover {line : Bool} {lo : ℕ} {hi : ℕ} (h : Within R s t)
    (hp : R.Allows [.cal .lineLaps, .cal .hostLaps, .cal .skewAgain]) :
    Within R s (calSwitchover t line lo hi) := by
  unfold Machine.calSwitchover
  extract_lets +onlyGivenNames s1
  have hs1 : Within R s s1 := by
    unfold s1
    refine h.foldl fun u1 x2 m3 h4 => ?_
    split
    · exact (Within.ite (h4.setLap hp.mono) h4)
    · exact h4
  exact (Within.ite (hs1.withCalSkewAgain hp.mono) hs1)

theorem Within.pllLockLoss {line : Bool} {b : ℕ} (h : Within R s t) (hp : R.Allows pllLockLossPieces)
    (hk : R.OpenAt [F.HSL_REF_STATUS_A_LOCK, F.HSL_REF_STATUS_B_LOCK] 0)
    (hk8 : R.Opens ([F.LRX_CTLE_STATUS_CODE, F.LRX_STATUS_CTLE_SEARCH, F.LRX_STATUS_LOL, F.LTX_STATUS_SEALED,
    F.LTX_XA_STATUS_REASON, F.LTX_XA_STATUS_STATE] ++ eqTapFields ++ eqStateFields ++ lineTxFields) 8)
    (hk16 : R.Opens ([F.HSL_ALIGN_STATUS_LOCKED, F.HSL_STATUS_CTLE_CODE, F.HSL_STATUS_LOL] ++ hostEqFields ++ hostTxFields) 16)
    (hka : ∀ i, R.OpenAt ([F.PCS_ALIGN_STATUS_RX_DESKEWED, F.PCS_ALIGN_STATUS_TX_ALIGNED, F.PCS_LINK_STATUS_LOST,
    F.PCS_LINK_STATUS_PROBED, F.PCS_LINK_STATUS_REASON, F.PCS_LINK_STATUS_STATE, F.PCS_LINK_TIME_RESTARTS] ++ alignFields ++
    rmFields) i) :
    Within R s (pllLockLoss line b t) := by
  unfold Machine.pllLockLoss
  extract_lets +onlyGivenNames x
  refine Within.ite ?_ ?_
  · exact h
  · refine Within.ite ?_ ?_
    · extract_lets +onlyGivenNames s1
      have hs1 : Within R s s1 := ((h.setPllPair hp.mono).pllShow hk)
      exact (hs1.foldl fun _ _ _ h4 => (h4.lolRises hp.mono hk8 hk16 hka))
    · extract_lets +onlyGivenNames s1 half
      have hs1 : Within R s s1 := (((h.setPllPair hp.mono).pllShow hk).noteSwitch hp.mono)
      exact ((hs1.calSwitchover hp.mono).foldl fun _ _ _ h8 => (h8.lolRises hp.mono hk8 hk16 hka))

theorem Within.dressEnds {e : TestEnd} {partitions : ℕ} (h : Within R s t)
    (hp : R.Allows [.mgmt .restartCause, .power .warmPending, .test .dress, .test .results])
    (hk : R.OpenAt [F.TST_STATUS_CAUSE, F.TST_STATUS_RESULT, F.TST_STATUS_RUNNING] 0) :
    Within R s (dressEnds t e partitions) := by
  unfold Machine.dressEnds
  refine Within.ite ?_ ?_
  · extract_lets +onlyGivenNames s1 d0 s2
    have hs1 : Within R s s1 := (((h.wr hk).wr hk).wr hk)
    have hs2 : Within R s s2 := hs1.bookWrite
    exact (hs2.withMgmtRestartCausePowerWarmPendingTestDressResults hp)
  · exact h

theorem Within.testEnds {test : ℕ} {e : TestEnd} {l : ℕ} {partitions : ℕ} (h : Within R s t) (hp : R.Allows [.test .results])
    (hk : R.OpenAt [F.TST_STATUS_CAUSE, F.TST_STATUS_RESULT, F.TST_STATUS_RUNNING] 0) :
    Within R s (testEnds t test e l partitions) := by
  unfold Machine.testEnds
  extract_lets +onlyGivenNames s1 d0
  have hs1 : Within R s s1 := (((h.wr hk).wr hk).wr hk)
  exact (Within.ite hs1.raiseEvent (hs1.withTestResults hp))

theorem Within.testReply {opcode : ℕ} {e : TestEnd} {r0 : ℕ} {r1 : ℕ} (h : Within R s t) (hp : R.Allows [.mgmt .inProgress]) :
    Within R s (testReply t opcode e r0 r1) := by
  unfold Machine.testReply
  exact (h.completeProg hp)

theorem Within.memTestEnds {e : TestEnd} {failing : ℕ} (h : Within R s t)
    (hp : R.Allows [.mgmt .inProgress, .test .memTest, .test .results]) (hk : R.OpenAt
    [F.TST_STATUS_CAUSE, F.TST_STATUS_RESULT, F.TST_STATUS_RUNNING] 0) :
    Within R s (memTestEnds t e failing) := by
  unfold Machine.memTestEnds
  split
  · exact h
  · exact (((h.withTestMemTest hp.mono).testReply hp.mono).testEnds hp.mono hk)

theorem Within.clusterReload {r : Rehearsal} (h : Within R s t) (hp : R.Allows [.eff]) (hclu : R.Clusters) :
    Within R s (clusterReload t r) := by
  have heff : ∀ e, Within R s { t with eff := e } := fun e => h.withEff hp.mono
  refine (heff _).withFld fun k hn => ?_
  have hout : clusterAddr t r.cls r.inst (k / 32) = false := Bool.eq_false_iff.2 fun hin => hn (hclu t r.cls r.inst k hin)
  rw [aGet_overlay_other fun e he hek => ?_, aGet_filter_of fun v => ?_]
  · simp only [hout, Bool.not_false, Bool.true_or]
  · have hin := (List.mem_filter.1 he).2
    rw [hek, hout] at hin
    exact Bool.false_ne_true hin

theorem Within.raiseLoading {n : ℕ} {tx : Bool} {x : Loading} (h : Within R s t) :
    Within R s (raiseLoading t n tx x) := by
  unfold Machine.raiseLoading
  exact h.raiseEvent

theorem Within.setTxLoading {n : ℕ} {x : Loading} (h : Within R s t) (hk : R.OpenAt
    [F.ASD_STATUS_TX_LOAD, F.ASD_TABLE_TX_k_TABLE] n) :
    Within R s (setTxLoading t n x) := by
  unfold Machine.setTxLoading
  refine Within.ite ?_ ?_
  · exact h
  · extract_lets +onlyGivenNames s1
    have hs1 : Within R s s1 := (h.wr hk).wr hk (hj := .inr (by decide))
    exact (hs1.wr hk).raiseLoading

theorem Within.setRxLoading {n : ℕ} {x : Loading} (h : Within R s t) (hk : R.OpenAt
    [F.ASD_STATUS_RX_LOAD, F.ASD_TABLE_RX_k_TABLE] n) :
    Within R s (setRxLoading t n x) := by
  unfold Machine.setRxLoading
  refine Within.ite ?_ ?_
  · exact h
  · extract_lets +onlyGivenNames s1
    have hs1 : Within R s s1 := (h.wr hk).wr hk (hj := .inr (by decide))
    exact (hs1.wr hk).raiseLoading

theorem Within.setAside {n : ℕ} {x : AsideLane} (h : Within R s t) (hp : R.Allows [.aside .lanes]) :
    Within R s (setAside t n x) := by
  unfold Machine.setAside
  exact (h.withAsideLanes hp)

theorem Within.stopGather {n : ℕ} (h : Within R s t) (hp : R.Allows [.lanes .gather, .aside .lanes])
    (hk : R.OpenAt [F.LEQ_XA_GATHER_STATE] n) :
    Within R s (stopGather t n) := by
  unfold Machine.stopGather
  extract_lets +onlyGivenNames s1
  have hs1 : Within R s s1 := ((h.setGather hp.mono).wr hk)
  exact (hs1.foldl fun _ _ _ h4 => (h4.setAside hp.mono))

theorem Within.leaveCoop {n : ℕ} (h : Within R s t) (hp : R.Allows [.time .cues, .lanes .xa, .lanes .gather, .aside .lanes])
    (hk : R.OpenAt [F.ASD_STATUS_RX_LOAD, F.ASD_STATUS_TX_LOAD, F.ASD_TABLE_RX_k_TABLE, F.ASD_TABLE_TX_k_TABLE,
    F.LEQ_XA_GATHER_STATE, F.LTX_XA_STATUS_REASON, F.LTX_XA_STATUS_STATE] n) (hk8 : R.Opens [F.LTX_STATUS_SEALED] 8) :
    Within R s (leaveCoop t n) := by
  unfold Machine.leaveCoop
  extract_lets +onlyGivenNames s1 s2 ids s3
  have hs1 : Within R s s1 := ((h.setRxLoading (hk.mono (by decide))).setTxLoading (hk.mono (by decide)))
  have hs2 : Within R s s2 := (hs1.stopGather hp.mono (hk.mono (by decide)))
  have hs3 : Within R s s3 := (hs2.cancelCues hp.mono hk8)
  exact ((hs3.setAside hp.mono).xaStop hp.mono hk8 (hk.mono (by decide)))

theorem Within.raisePartner {n : ℕ} {idChanged : Bool} (h : Within R s t) :
    Within R s (raisePartner t n idChanged) := by
  unfold Machine.raisePartner
  exact h.raiseEvent

theorem Within.partnerDown {n : ℕ} (h : Within R s t) (hp : R.Allows [.time .cues, .lanes .xa, .lanes .gather, .aside .lanes])
    (hk : R.OpenAt [F.ASD_STATUS_RX_LOAD, F.ASD_STATUS_TX_LOAD, F.ASD_STATUS_UP, F.ASD_TABLE_RX_k_TABLE, F.ASD_TABLE_TX_k_TABLE,
    F.LEQ_XA_GATHER_STATE, F.LTX_XA_STATUS_REASON, F.LTX_XA_STATUS_STATE] n) (hk8 : R.Opens [F.LTX_STATUS_SEALED] 8) :
    Within R s (partnerDown t n) := by
  unfold Machine.partnerDown
  refine Within.ite ?_ ?_
  · extract_lets +onlyGivenNames s1
    have hs1 : Within R s s1 := (Within.ite (h.leaveCoop hp (hk.mono (by decide)) hk8) h)
    exact ((hs1.wr hk).raisePartner)
  · exact h

theorem Within.completeEarly {q : InProg} {code : ℕ} (h : Within R s t) (hp : R.Allows [.mgmt .inProgress]) :
    Within R s (completeEarly t q code) := by
  unfold Machine.completeEarly
  exact ((h.withMgmtInProgress hp).complete)

theorem Within.sendsAbort {n : ℕ} {pick : BitVec 16 → Bool} (h : Within R s t) (hp : R.Allows [.mgmt .inProgress]) :
    Within R s (sendsAbort t n pick) := by
  unfold Machine.sendsAbort
  exact (h.foldl fun _ _ _ h4 => (h4.completeEarly hp))

theorem Within.asideCut {n : ℕ} (h : Within R s t) (hp : R.Allows [.aside .lanes, .mgmt .inProgress])
    (hk : R.OpenAt [F.ASD_STATUS_RX_BUSY, F.ASD_STATUS_TX_BUSY] n) :
    Within R s (asideCut t n) := by
  unfold Machine.asideCut
  extract_lets +onlyGivenNames _ s1
  have hs1 : Within R s s1 := (((h.wr hk).wr hk).setAside hp.mono)
  exact (hs1.sendsAbort hp.mono)

theorem Within.asideOff {n : ℕ} {cut : Bool} (h : Within R s t) (hp : R.Allows
    [.time .cues, .lanes .xa, .lanes .gather, .aside .lanes, .mgmt .inProgress])
    (hk : R.OpenAt [F.ASD_STATUS_RX_BUSY, F.ASD_STATUS_RX_LOAD, F.ASD_STATUS_TX_BUSY, F.ASD_STATUS_TX_LOAD, F.ASD_STATUS_UP,
    F.ASD_TABLE_RX_k_TABLE, F.ASD_TABLE_TX_k_TABLE, F.LEQ_XA_GATHER_STATE, F.LTX_XA_STATUS_REASON, F.LTX_XA_STATUS_STATE] n)
    (hk8 : R.Opens [F.LTX_STATUS_SEALED] 8) :
    Within R s (asideOff t n cut) := by
  unfold Machine.asideOff
  extract_lets +onlyGivenNames s1 _ s2
  have hs1 : Within R s s1 := (h.partnerDown hp.mono (hk.mono (by decide)) hk8)
  have hs2 : Within R s s2 := (Within.ite (hs1.asideCut hp.mono (hk.mono (by decide))) ((hs1.wr hk).setAside hp.mono))
  exact ((hs2.setAside hp.mono).sendsAbort hp.mono)

theorem Within.setSlices {l : LaneId} {x : Slices} (h : Within R s t) (hp : R.Allows [.lanes .lineFront, .lanes .hostFront]) :
    Within R s (setSlices t l x) := by
  unfold Machine.setSlices
  exact (h.setFront hp)

theorem Within.setFailedMask {l : LaneId} {m : ℕ} (h : Within R s t) (hk8 : R.Opens sliceFailedFields 8)
    (hk16 : R.Opens [F.HSL_SLICE_FAILED_FAILED, F.HSL_SLICE_STATUS_FAILED_32] 16) :
    Within R s (setFailedMask t l m) := by
  unfold Machine.setFailedMask
  split
  · next n =>
      exact (((h.wr (hk8 _ (Fin.isLt _))).wr (hk8 _ (Fin.isLt _))).wr (hk8 _ (Fin.isLt _)))
  · next n =>
      exact ((h.wr (hk16 _ (Fin.isLt _))).wr (hk16 _ (Fin.isLt _)))

theorem Within.markFailed {l : LaneId} {k : ℕ} (h : Within R s t) (hk8 : R.Opens sliceFailedFields 8)
    (hk16 : R.Opens [F.HSL_SLICE_FAILED_FAILED, F.HSL_SLICE_STATUS_FAILED_32] 16) :
    Within R s (markFailed t l k) := by
  unfold Machine.markFailed
  exact (Within.ite h (h.setFailedMask hk8 hk16))

theorem Within.setUnderstudy {l : LaneId} {k : ℕ} (h : Within R s t) (hk8 : R.Opens [F.LRX_SLICE_STATUS_UNDERSTUDY] 8)
    (hk16 : R.Opens [F.HSL_SLICE_STATUS_UNDERSTUDY] 16) :
    Within R s (setUnderstudy t l k) := by
  unfold Machine.setUnderstudy
  exact (h.wrL hk8 hk16)

theorem Within.spotFlag {l : LaneId} {flag : ℕ} (h : Within R s t) (hp : R.Allows [.lanes .spot]) :
    Within R s (spotFlag t l flag) := by
  unfold Machine.spotFlag
  split
  · exact (Within.ite (h.withLanesSpot hp) h)
  · exact h

theorem Within.setNoSpare {l : LaneId} {b : Bool} (h : Within R s t) (hk8 : R.Opens [F.LRX_SLICE_STATUS_NOSPARE] 8)
    (hk16 : R.Opens [F.HSL_SLICE_STATUS_NOSPARE] 16) :
    Within R s (setNoSpare t l b) := by
  unfold Machine.setNoSpare
  exact (h.wrL hk8 hk16)

theorem Within.raiseNoSpare {l : LaneId} {k : ℕ} (h : Within R s t) (hk8 : R.Opens
    ([F.LRX_SLICE_STATUS_NOSPARE] ++ sliceFailedFields) 8) (hk16 : R.Opens
    [F.HSL_SLICE_FAILED_FAILED, F.HSL_SLICE_STATUS_FAILED_32, F.HSL_SLICE_STATUS_NOSPARE] 16) :
    Within R s (raiseNoSpare t l k) := by
  unfold Machine.raiseNoSpare
  exact (((h.markFailed (hk8.mono (by decide)) (hk16.mono (by decide))).setNoSpare (hk8.mono (by decide))
      (hk16.mono (by decide))).raiseEvent)

theorem Within.landSwap {l : LaneId} (h : Within R s t) (hp : R.Allows [.lanes .lineFront, .lanes .hostFront, .lanes .spot,
    .mgmt .inProgress]) (hk8 : R.Opens ([F.LRX_SLICE_STATUS_NOSPARE, F.LRX_SLICE_STATUS_SWAP_COUNT,
    F.LRX_SLICE_STATUS_UNDERSTUDY] ++ sliceFailedFields) 8) (hk16 : R.Opens
    [F.HSL_SLICE_FAILED_FAILED, F.HSL_SLICE_STATUS_FAILED_32, F.HSL_SLICE_STATUS_NOSPARE, F.HSL_SLICE_STATUS_SWAP_COUNT,
    F.HSL_SLICE_STATUS_UNDERSTUDY] 16) :
    Within R s (landSwap t l) := by
  unfold Machine.landSwap
  extract_lets +onlyGivenNames x
  split
  · exact h
  · extract_lets +onlyGivenNames u s1 s2 s3 s4 s5 s6
    have hs1 : Within R s s1 := h.setSlices hp.mono
    have hs2 : Within R s s2 :=
      (hs1.setUnderstudy (hk8.mono (by decide)) (hk16.mono (by decide))).markFailed (hk8.mono (by decide)) (hk16.mono (by decide))
    have hs3 : Within R s s3 := by
      cases l with
      | line n => exact hs2.incSat (hk8 _ n.isLt)
      | host n => exact hs2.incSat (hk16 _ n.isLt)
    have hs4 : Within R s s4 := (hs3.spotFlag hp.mono).bumpL
    have hs6 : Within R s s6 :=
      hs4.raiseEvent.foldl fun _ _ _ h4 => h4.raiseNoSpare (hk8.mono (by decide)) (hk16.mono (by decide))
    exact .ite (hs6.completeProg hp.mono) hs6

theorem Within.runCheck (h : Within R s t) (hp : R.Allows [.cal .run, .mgmt .inProgress])
    (hk : R.OpenAt [F.CAL_STATE_HANDLE, F.CAL_STATE_TARGETS] 0) :
    Within R s (runCheck t) := by
  unfold Machine.runCheck
  split
  · exact h
  · refine Within.ite ?_ ?_
    · extract_lets +onlyGivenNames worst bad lanes chans _ s1 s2 s3
      have hs1 : Within R s s1 := (h.withCalRun hp.mono)
      have hs2 : Within R s s2 := ((hs1.wr hk).wr hk)
      have hs3 : Within R s s3 := hs2.raiseMexis
      exact (Within.ite (hs3.completeProg hp.mono) hs3)
    · exact h

theorem Within.instanceEnd {t' : CalTarget} {inst : ℕ} {result : ℕ} (h : Within R s t) (hp : R.Allows [.cal .run])
    (hcal : ∀ i, R.OpenAt calShown i) :
    Within R s (instanceEnd t t' inst result) := by
  unfold Machine.instanceEnd
  extract_lets +onlyGivenNames s1 s2 s3
  have hs1 : Within R s s1 := (h.wr (hcal _) (hf := mem_calShown_INFO_RESULT _))
  have hs2 : Within R s s2 := (Within.ite ((((((hs1.incSat (hcal _) (hf := mem_calShown_COUNT_COUNT _)).wr (hcal _)
      (hf := mem_calShown_LAST_LO_HC_LO _)).wr (hcal _) (hf := mem_calShown_LAST_HI_HC_HI _)).wr (hcal _)
      (hf := mem_calShown_INFO_SETS _)).wrI (hcal _) (hf := mem_calShown_INFO_TEMP _)).wrB (hcal _)
      (hf := mem_calShown_INFO_ESTIMATED _)) hs1)
  have hs3 : Within R s s3 := hs2.raiseMexis
  exact (hs3.withCalRun hp)

theorem Within.setWings {l : LaneId} {b : Bool} (h : Within R s t) (hk8 : R.Opens [F.LRX_SLICE_STATUS_WINGS] 8)
    (hk16 : R.Opens [F.HSL_SLICE_STATUS_WINGS] 16) :
    Within R s (setWings t l b) := by
  unfold Machine.setWings
  exact (h.wrL hk8 hk16)

theorem Within.lapStop {l : LaneId} {result : ℕ} (h : Within R s t) (hp : R.Allows
    [.cal .run, .cal .lineLaps, .cal .hostLaps, .mgmt .inProgress]) (hk8 : R.Opens [F.LRX_SLICE_STATUS_WINGS] 8)
    (hk16 : R.Opens [F.HSL_SLICE_STATUS_WINGS] 16) (hk : R.OpenAt [F.CAL_STATE_HANDLE, F.CAL_STATE_TARGETS] 0)
    (hcal : ∀ i, R.OpenAt calShown i) :
    Within R s (lapStop t l result) := by
  unfold Machine.lapStop
  split
  · exact h
  · exact ((((h.setLap hp.mono).setWings hk8 hk16).instanceEnd hp.mono hcal).runCheck hp.mono hk)

theorem Within.endWings {l : LaneId} {result : ℕ} (h : Within R s t) (hp : R.Allows
    [.lanes .lineFront, .lanes .hostFront, .cal .run, .cal .lineLaps, .cal .hostLaps, .mgmt .inProgress])
    (hk8 : R.Opens [F.LRX_SLICE_STATUS_WINGS] 8) (hk16 : R.Opens [F.HSL_SLICE_STATUS_WINGS] 16)
    (hk : R.OpenAt [F.CAL_STATE_HANDLE, F.CAL_STATE_TARGETS] 0) (hcal : ∀ i, R.OpenAt calShown i) :
    Within R s (endWings t l result) := by
  unfold Machine.endWings
  extract_lets +onlyGivenNames s1
  have hs1 : Within R s s1 := (h.lapStop hp.mono hk8 hk16 hk hcal)
  exact (Within.ite (((hs1.setSlices hp.mono).setWings hk8 hk16).completeProg hp.mono) hs1)

theorem Within.maskStep {p : InProg} {n : ℕ} {add : Bool} {result : ℕ → ℕ} (h : Within R s t) (hp : R.Allows [.mgmt .inProgress])
    :
    Within R s (maskStep t p n add result) := by
  unfold Machine.maskStep
  extract_lets +onlyGivenNames key aux _ s1
  have hs1 : Within R s s1 := (h.withMgmtInProgress hp)
  exact (Within.ite (hs1.completeProg hp) hs1)

theorem Within.maskProgress {opcode : ℕ} {n : ℕ} {add : Bool} {result : ℕ → ℕ} (h : Within R s t)
    (hp : R.Allows [.mgmt .inProgress]) :
    Within R s (maskProgress t opcode n add result) := by
  unfold Machine.maskProgress
  exact (h.foldl fun _ _ _ h4 => (h4.maskStep hp))

theorem Within.retrainLaneDone {n : ℕ} {failed : Bool} (h : Within R s t) (hp : R.Allows [.mgmt .inProgress]) :
    Within R s (retrainLaneDone t n failed) := by
  unfold Machine.retrainLaneDone
  exact (h.maskProgress hp)

theorem Within.ctleInit {l : LaneId} (h : Within R s t) (hk8 : R.Opens [F.LRX_CTLE_STATUS_CODE, F.LRX_CTLE_STATUS_METRIC] 8)
    (hk16 : R.Opens [F.HSL_STATUS_CTLE_CODE] 16) :
    Within R s (ctleInit t l) := by
  unfold Machine.ctleInit
  exact ((h.wrLine (hk8.mono (by decide))).setCtle (hk8.mono (by decide)) hk16)

theorem Within.lanePowerDown {l : LaneId} (h : Within R s t) (hp : R.Allows
    (([.lanes .lineFront, .lanes .hostFront, .lanes .lineEq, .lanes .hostEq, .lanes .lineRx, .lanes .hostRx, .lanes .lineOut,
    .lanes .hostOut, .lanes .spot, .lanes .lock] : List Piece) ++ Part.cal.pieces ++ ([.mgmt .inProgress] : List Piece)))
    (hk8 : R.Opens ([F.LRX_CTLE_STATUS_CODE, F.LRX_CTLE_STATUS_METRIC, F.LRX_SLICE_STATUS_NOSPARE, F.LRX_SLICE_STATUS_SWAP_COUNT,
    F.LRX_SLICE_STATUS_UNDERSTUDY, F.LRX_SLICE_STATUS_WINGS, F.LRX_SPOT_STATUS_STATE, F.LRX_STATUS_CTLE_SEARCH, F.LRX_STATUS_LOL,
    F.LRX_STATUS_LOS, F.LRX_STATUS_LOS_ENV, F.LRX_STATUS_LOS_RMS, F.LRX_TR_STATUS_FREQ, F.LRX_TR_STATUS_PI_CODE,
    F.LRX_VGA_STATUS_AT_LIMIT, F.LRX_VGA_STATUS_CODE, F.LRX_VGA_STATUS_DEFERRED] ++ eqTapFields ++ eqStateFields ++
    sliceFailedFields ++ lineTxFields) 8) (hk16 : R.Opens ([F.HSL_ALIGN_STATUS_LOCKED, F.HSL_SLICE_FAILED_FAILED,
    F.HSL_SLICE_STATUS_FAILED_32, F.HSL_SLICE_STATUS_NOSPARE, F.HSL_SLICE_STATUS_SWAP_COUNT, F.HSL_SLICE_STATUS_UNDERSTUDY,
    F.HSL_SLICE_STATUS_WINGS, F.HSL_STATUS_CTLE_CODE, F.HSL_STATUS_LOL, F.HSL_STATUS_LOS, F.HSL_STATUS_PI_CODE,
    F.HSL_STATUS_TRAINED, F.HSL_STATUS_TRAINING, F.HSL_STATUS_VGA_CODE] ++ hostEqFields ++ hostTxFields) 16)
    (hk : R.OpenAt [F.CAL_STATE_HANDLE, F.CAL_STATE_TARGETS] 0) (hka : ∀ i, R.OpenAt alignFields i)
    (hcal : ∀ i, R.OpenAt calShown i) :
    Within R s (lanePowerDown t l) := by
  unfold Machine.lanePowerDown
  extract_lets +onlyGivenNames s1 s2 slices _ s3 s3' s4 s5 s6 s7
  have hs1 : Within R s s1 := ((h.endWings hp.mono (hk8.mono (by decide)) (hk16.mono (by decide)) hk hcal).landSwap hp.mono
      (hk8.mono (by decide)) (hk16.mono (by decide)))
  have hs2 : Within R s s2 := by
    unfold s2
    split
    · next n =>
        extract_lets +onlyGivenNames a b
        have ha : Within R s a := (hs1.lockSearch hp.mono hka)
        have hb : Within R s b := (Within.ite (((ha.setSpot hp.mono).wr (hk8 _ (Fin.isLt _))).completeProg hp.mono) ha)
        exact (Within.ite (((hb.withCal hp.mono).instanceEnd hp.mono hcal).runCheck hp.mono hk) hb)
    · next n =>
        exact ((((hs1.hostUnlock (hk16.at (Fin.isLt _) (by decide))).wr (hk16 _ (Fin.isLt _))).wr
            (hk16 _ (Fin.isLt _))).retrainLaneDone hp.mono)
  have hs3 : Within R s s3 := (hs2.setFront hp.mono)
  have hs3' : Within R s s3' := ((hs3.setRxRec hp.mono).setTxRec hp.mono)
  have hs4 : Within R s s4 := (hs3'.putEq hp.mono (hk8.mono (by decide)) (hk16.mono (by decide)))
  have hs5 : Within R s s5 := ((hs4.wrL (hk8.mono (by decide)) (hk16.mono (by decide))).wrL (hk8.mono (by decide))
      (hk16.mono (by decide)))
  have hs6 : Within R s s6 := (((hs5.wrLine (hk8.mono (by decide))).wrLine (hk8.mono (by decide))).wrLine (hk8.mono (by decide)))
  have hs7 : Within R s s7 := (((hs6.wrLine (hk8.mono (by decide))).wrLine (hk8.mono (by decide))).wrL (hk8.mono (by decide))
      (hk16.mono (by decide)))
  exact (((hs7.ctleInit (hk8.mono (by decide)) (hk16.mono (by decide))).setTx hp.mono (hk8.mono (by decide))
      (hk16.mono (by decide))).showTiming (hk8.mono (by decide)) (hk16.mono (by decide)))

theorem Within.lutClear {n : ℕ} {b : ℕ} (h : Within R s t) (hp : R.Allows [.lanes .tx]) :
    Within R s (lutClear t n b) := by
  unfold Machine.lutClear
  exact ((h.setLineTx hp).setBank)

theorem Within.calSetLost {a : ℕ} (h : Within R s t) (hp : R.Allows [.cal .sets]) (hcal : ∀ i, R.OpenAt calShown i) :
    Within R s (calSetLost t a) := by
  unfold Machine.calSetLost
  refine h.foldl fun u1 x2 m3 h4 => ?_
  extract_lets +onlyGivenNames t' inst _ s1
  have hs1 : Within R s s1 := (h4.withCalSets hp)
  exact (hs1.wr (hcal _) (hf := mem_calShown_INFO_SETS _))

theorem Within.storeRead {key : ℕ} (h : Within R s t) (hp : R.Allows [.cal .sets]) (hcal : ∀ i, R.OpenAt calShown i) :
    Within R s (storeRead t key) := by
  unfold Machine.storeRead
  refine h.foldl fun u1 x2 m3 h4 => ?_
  extract_lets +onlyGivenNames r
  have hr : Within R s r.1 := h4.eccRead
  exact (Within.ite (hr.calSetLost hp hcal) hr)

theorem Within.setTarget {key : ℕ} {v : ℤ} (h : Within R s t) (hp : R.Allows [.cal .targets]) :
    Within R s (setTarget t key v) := by
  unfold Machine.setTarget
  exact (h.withCalTargets hp)

theorem Within.loadCorrections {t' : CalTarget} {inst : ℕ} (h : Within R s t)
    (hp : R.Allows [.cal .sets, .cal .inUse, .cal .targets]) (hcal : ∀ i, R.OpenAt calShown i) :
    Within R s (loadCorrections t t' inst) := by
  unfold Machine.loadCorrections
  refine h.foldl fun u1 x2 m3 h4 => ?_
  extract_lets +onlyGivenNames u
  have hu : Within R s u := (h4.storeRead hp.mono hcal)
  split
  · extract_lets +onlyGivenNames src
    have hsrc : Within R s src := (hu.setTarget hp.mono)
    exact (hsrc.withCalInUse hp.mono)
  · exact hu

theorem Within.metricClear {l : LaneId} (h : Within R s t) (hp : R.Allows [.lanes .lineRx, .lanes .hostRx]) :
    Within R s (metricClear t l) := by
  unfold Machine.metricClear
  exact (h.setRxRec hp)

theorem Within.lockWindowClear {l : LaneId} (h : Within R s t) (hp : R.Allows [.lanes .lineRx, .lanes .hostRx]) :
    Within R s (lockWindowClear t l) := by
  unfold Machine.lockWindowClear
  exact (h.setRxRec hp)

theorem Within.setLos {l : LaneId} {b : Bool} (h : Within R s t) (hp : R.Allows setLosPieces)
    (hk8 : R.Opens ([F.ASD_LEVEL_REF, F.LRX_CTLE_STATUS_CODE, F.LRX_STATUS_CTLE_SEARCH, F.LRX_STATUS_LOL, F.LRX_STATUS_LOS,
    F.LTX_STATUS_SEALED, F.LTX_XA_STATUS_REASON, F.LTX_XA_STATUS_STATE] ++ eqTapFields ++ eqStateFields ++ lineTxFields) 8)
    (hk16 : R.Opens ([F.HSL_ALIGN_STATUS_LOCKED, F.HSL_STATUS_CTLE_CODE, F.HSL_STATUS_LOL, F.HSL_STATUS_LOS] ++ hostEqFields ++
    hostTxFields) 16) (hka : ∀ i, R.OpenAt ([F.PCS_ALIGN_STATUS_RX_DESKEWED, F.PCS_ALIGN_STATUS_TX_ALIGNED,
    F.PCS_LINK_STATUS_LOST, F.PCS_LINK_STATUS_PROBED, F.PCS_LINK_STATUS_REASON, F.PCS_LINK_STATUS_STATE,
    F.PCS_LINK_TIME_RESTARTS] ++ alignFields ++ rmFields) i) :
    Within R s (setLos t l b) := by
  unfold Machine.setLos
  refine Within.ite ?_ ?_
  · exact h
  · extract_lets +onlyGivenNames s1 s2
    have hs1 : Within R s s1 := (h.wrL (hk8.mono (by decide)) (hk16.mono (by decide)))
    have hs2 : Within R s s2 := by
      unfold s2
      split
      · exact hs1.raiseEvent
      · exact hs1.raiseEvent
    refine Within.ite ?_ ?_
    · extract_lets +onlyGivenNames e s3 s4 _ s5
      have hs3 : Within R s s3 := ((((hs2.bumpL.metricClear hp.mono).gatherMark hp.mono).setEqRec hp.mono).spotFlag hp.mono)
      have hs4 : Within R s s4 := (hs3.setLol hp.mono (hk8.mono (by decide)) (hk16.mono (by decide)))
      have hs5 : Within R s s5 := ((hs4.setFront hp.mono).lockWindowClear hp.mono)
      split
      · next n =>
          exact ((((hs5.wr (hk8 _ (Fin.isLt _))).lockSearch hp.mono (fun i => (hka i).mono (by decide))).laneLost hp.mono hka
              (hk8.mono (by decide)) (hk16.mono (by decide))).eqRefresh (hk8.mono (by decide)) (hk16.mono (by decide)))
      · next n =>
          exact ((hs5.hostLaneDown hp.mono (hk16.at (Fin.isLt _) (by decide)) (fun i => (hka i).mono (by decide))
              (hk8.mono (by decide)) (hk16.mono (by decide))).eqRefresh (hk8.mono (by decide)) (hk16.mono (by decide)))
    · extract_lets +onlyGivenNames x _ s3
      have hs3 : Within R s s3 := ((hs2.setFront hp.mono).lockWindowClear hp.mono)
      exact (Within.ite (hs3.searchStart hp.mono (hk8.mono (by decide)) (hk16.mono (by decide)))
          (hs3.eqRefresh (hk8.mono (by decide)) (hk16.mono (by decide))))

theorem Within.losFollow {l : LaneId} (h : Within R s t) (hp : R.Allows setLosPieces)
    (hk8 : R.Opens ([F.ASD_LEVEL_REF, F.LRX_CTLE_STATUS_CODE, F.LRX_STATUS_CTLE_SEARCH, F.LRX_STATUS_LOL, F.LRX_STATUS_LOS,
    F.LRX_STATUS_LOS_ENV, F.LRX_STATUS_LOS_RMS, F.LTX_STATUS_SEALED, F.LTX_XA_STATUS_REASON, F.LTX_XA_STATUS_STATE] ++
    eqTapFields ++ eqStateFields ++ lineTxFields) 8) (hk16 : R.Opens ([F.HSL_ALIGN_STATUS_LOCKED, F.HSL_STATUS_CTLE_CODE,
    F.HSL_STATUS_LOL, F.HSL_STATUS_LOS] ++ hostEqFields ++ hostTxFields) 16)
    (hka : ∀ i, R.OpenAt ([F.PCS_ALIGN_STATUS_RX_DESKEWED, F.PCS_ALIGN_STATUS_TX_ALIGNED, F.PCS_LINK_STATUS_LOST,
    F.PCS_LINK_STATUS_PROBED, F.PCS_LINK_STATUS_REASON, F.PCS_LINK_STATUS_STATE, F.PCS_LINK_TIME_RESTARTS] ++ alignFields ++
    rmFields) i) :
    Within R s (losFollow t l) := by
  unfold Machine.losFollow
  exact (((h.wrLine (hk8.mono (by decide))).wrLine (hk8.mono (by decide))).setLos hp (hk8.mono (by decide)) hk16 hka)

theorem Within.lanePowerUp {l : LaneId} (h : Within R s t) (hp : R.Allows lanePowerUpPieces)
    (hk8 : R.Opens ([F.ASD_LEVEL_REF, F.LRX_CTLE_STATUS_CODE, F.LRX_STATUS_CTLE_SEARCH, F.LRX_STATUS_LOL, F.LRX_STATUS_LOS,
    F.LRX_STATUS_LOS_ENV, F.LRX_STATUS_LOS_RMS, F.LTX_STATUS_SEALED, F.LTX_XA_STATUS_REASON, F.LTX_XA_STATUS_STATE] ++
    eqTapFields ++ eqStateFields ++ lineTxFields) 8) (hk16 : R.Opens ([F.HSL_ALIGN_STATUS_LOCKED, F.HSL_STATUS_CTLE_CODE,
    F.HSL_STATUS_LOL, F.HSL_STATUS_LOS, F.HSL_STATUS_TRAINING] ++ hostEqFields ++ hostTxFields) 16)
    (hka : ∀ i, R.OpenAt ([F.PCS_ALIGN_STATUS_RX_DESKEWED, F.PCS_ALIGN_STATUS_TX_ALIGNED, F.PCS_LINK_STATUS_LOST,
    F.PCS_LINK_STATUS_PROBED, F.PCS_LINK_STATUS_REASON, F.PCS_LINK_STATUS_STATE, F.PCS_LINK_TIME_RESTARTS] ++ alignFields ++
    rmFields) i) (hcal : ∀ i, R.OpenAt calShown i) :
    Within R s (lanePowerUp t l) := by
  unfold Machine.lanePowerUp
  extract_lets +onlyGivenNames s1 s2
  have hs1 : Within R s s1 := (h.loadCorrections hp.mono hcal)
  have hs2 : Within R s s2 := by
    unfold s2
    refine Within.losFollow ?_ hp.mono hk8 (hk16.mono (by decide)) hka
    split
    · exact (hs1.loadCorrections hp.mono hcal)
    · exact hs1
  split
  · exact (hs2.txFollow hp.mono (hk8.mono (by decide)) (hk16.mono (by decide)))
  · next n =>
      extract_lets +onlyGivenNames _ s3
      have hs3 : Within R s s3 := (Within.ite ((hs2.setFront hp.mono).wr (hk16 _ (Fin.isLt _))) hs2)
      exact (hs3.txFollow hp.mono (hk8.mono (by decide)) (hk16.mono (by decide)))

theorem Within.blockLine {r : Rehearsal} {n : Fin 8} (h : Within R s t) (hp : R.Allows blockLinePieces)
    (hk8 : R.Opens ([F.ASD_LEVEL_REF, F.LRX_CTLE_STATUS_CODE, F.LRX_CTLE_STATUS_METRIC, F.LRX_SLICE_STATUS_NOSPARE,
    F.LRX_SLICE_STATUS_SWAP_COUNT, F.LRX_SLICE_STATUS_UNDERSTUDY, F.LRX_SLICE_STATUS_WINGS, F.LRX_SPOT_STATUS_STATE,
    F.LRX_STATUS_CTLE_SEARCH, F.LRX_STATUS_LOL, F.LRX_STATUS_LOS, F.LRX_STATUS_LOS_ENV, F.LRX_STATUS_LOS_RMS,
    F.LRX_TR_STATUS_FREQ, F.LRX_TR_STATUS_PI_CODE, F.LRX_VGA_STATUS_AT_LIMIT, F.LRX_VGA_STATUS_CODE, F.LRX_VGA_STATUS_DEFERRED,
    F.LTX_STATUS_SEALED, F.LTX_XA_STATUS_REASON, F.LTX_XA_STATUS_STATE] ++ eqTapFields ++ eqStateFields ++ sliceFailedFields ++
    lineTxFields) 8) (hk16 : R.Opens ([F.HSL_ALIGN_STATUS_LOCKED, F.HSL_SLICE_FAILED_FAILED, F.HSL_SLICE_STATUS_FAILED_32,
    F.HSL_SLICE_STATUS_NOSPARE, F.HSL_SLICE_STATUS_SWAP_COUNT, F.HSL_SLICE_STATUS_UNDERSTUDY, F.HSL_SLICE_STATUS_WINGS,
    F.HSL_STATUS_CTLE_CODE, F.HSL_STATUS_LOL, F.HSL_STATUS_LOS, F.HSL_STATUS_PI_CODE, F.HSL_STATUS_TRAINED,
    F.HSL_STATUS_TRAINING, F.HSL_STATUS_VGA_CODE] ++ hostEqFields ++ hostTxFields) 16)
    (hk : R.OpenAt [F.CAL_STATE_HANDLE, F.CAL_STATE_TARGETS] 0) (hka : ∀ i, R.OpenAt
    ([F.PCS_ALIGN_STATUS_RX_DESKEWED, F.PCS_ALIGN_STATUS_TX_ALIGNED, F.PCS_LINK_STATUS_LOST, F.PCS_LINK_STATUS_PROBED,
    F.PCS_LINK_STATUS_REASON, F.PCS_LINK_STATUS_STATE, F.PCS_LINK_TIME_RESTARTS] ++ alignFields ++ rmFields) i)
    (hk'4 : R.OpenAt [F.ASD_STATUS_RX_BUSY, F.ASD_STATUS_RX_LOAD, F.ASD_STATUS_TX_BUSY, F.ASD_STATUS_TX_LOAD, F.ASD_STATUS_UP,
    F.ASD_TABLE_RX_k_TABLE, F.ASD_TABLE_TX_k_TABLE, F.LEQ_XA_GATHER_STATE, F.LTX_XA_STATUS_REASON, F.LTX_XA_STATUS_STATE] ↑n)
    (hcal : ∀ i, R.OpenAt calShown i) (hclu : R.Clusters) :
    Within R s (blockLine t r n) := by
  unfold Machine.blockLine
  extract_lets +onlyGivenNames s1 s2 _ s3
  have hs1 : Within R s s1 := (((h.lanePowerDown hp.mono (hk8.mono (by decide)) hk16 hk (fun i => (hka i).mono (by decide))
      hcal).asideOff hp.mono hk'4 (hk8.mono (by decide))).clusterReload hp.mono hclu)
  have hs2 : Within R s s2 := ((hs1.lutClear hp.mono).lutClear hp.mono)
  have hs3 : Within R s s3 := ((hs2.withLanesXaStartRevertDueGather hp.mono).sealRefresh (hk8.mono (by decide)))
  exact (Within.ite (hs3.lanePowerUp hp.mono (hk8.mono (by decide)) (hk16.mono (by decide)) hka hcal) hs3)

theorem Within.blockHost {r : Rehearsal} {n : Fin 16} (h : Within R s t) (hp : R.Allows blockHostPieces)
    (hk8 : R.Opens ([F.ASD_LEVEL_REF, F.LRX_CTLE_STATUS_CODE, F.LRX_CTLE_STATUS_METRIC, F.LRX_SLICE_STATUS_NOSPARE,
    F.LRX_SLICE_STATUS_SWAP_COUNT, F.LRX_SLICE_STATUS_UNDERSTUDY, F.LRX_SLICE_STATUS_WINGS, F.LRX_SPOT_STATUS_STATE,
    F.LRX_STATUS_CTLE_SEARCH, F.LRX_STATUS_LOL, F.LRX_STATUS_LOS, F.LRX_STATUS_LOS_ENV, F.LRX_STATUS_LOS_RMS,
    F.LRX_TR_STATUS_FREQ, F.LRX_TR_STATUS_PI_CODE, F.LRX_VGA_STATUS_AT_LIMIT, F.LRX_VGA_STATUS_CODE, F.LRX_VGA_STATUS_DEFERRED,
    F.LTX_STATUS_SEALED, F.LTX_XA_STATUS_REASON, F.LTX_XA_STATUS_STATE] ++ eqTapFields ++ eqStateFields ++ sliceFailedFields ++
    lineTxFields) 8) (hk16 : R.Opens ([F.HSL_ALIGN_STATUS_LOCKED, F.HSL_SLICE_FAILED_FAILED, F.HSL_SLICE_STATUS_FAILED_32,
    F.HSL_SLICE_STATUS_NOSPARE, F.HSL_SLICE_STATUS_SWAP_COUNT, F.HSL_SLICE_STATUS_UNDERSTUDY, F.HSL_SLICE_STATUS_WINGS,
    F.HSL_STATUS_CTLE_CODE, F.HSL_STATUS_LOL, F.HSL_STATUS_LOS, F.HSL_STATUS_PI_CODE, F.HSL_STATUS_TRAINED,
    F.HSL_STATUS_TRAINING, F.HSL_STATUS_VGA_CODE] ++ hostEqFields ++ hostTxFields) 16)
    (hk : R.OpenAt [F.CAL_STATE_HANDLE, F.CAL_STATE_TARGETS] 0) (hka : ∀ i, R.OpenAt
    ([F.PCS_ALIGN_STATUS_RX_DESKEWED, F.PCS_ALIGN_STATUS_TX_ALIGNED, F.PCS_LINK_STATUS_LOST, F.PCS_LINK_STATUS_PROBED,
    F.PCS_LINK_STATUS_REASON, F.PCS_LINK_STATUS_STATE, F.PCS_LINK_TIME_RESTARTS] ++ alignFields ++ rmFields) i)
    (hcal : ∀ i, R.OpenAt calShown i) (hclu : R.Clusters) :
    Within R s (blockHost t r n) := by
  unfold Machine.blockHost
  extract_lets +onlyGivenNames s1
  have hs1 : Within R s s1 := ((h.lanePowerDown hp.mono (hk8.mono (by decide)) hk16 hk (fun i => (hka i).mono (by decide))
      hcal).clusterReload hp.mono hclu)
  exact (Within.ite (hs1.lanePowerUp hp.mono (hk8.mono (by decide)) (hk16.mono (by decide)) hka hcal) hs1)

theorem Within.setBucket {b : ℕ} {x : FlowBucket} (h : Within R s t) (hp : R.Allows [.obs .buckets]) :
    Within R s (setBucket t b x) := by
  unfold Machine.setBucket
  exact (h.withObsBuckets hp)

theorem Within.setCtx {c : ℕ} {x : FlowCtx} (h : Within R s t) (hp : R.Allows [.obs .contexts]) :
    Within R s (setCtx t c x) := by
  unfold Machine.setCtx
  exact (h.withObsContexts hp)

theorem Within.freeBucket {b : ℕ} (h : Within R s t) (hp : R.Allows [.obs .buckets, .obs .contexts, .obs .shifts]) :
    Within R s (freeBucket t b) := by
  unfold Machine.freeBucket
  split
  · exact h
  · extract_lets +onlyGivenNames s1 s2
    have hs1 : Within R s s1 := (h.setBucket hp.mono)
    have hs2 : Within R s s2 := by
      unfold s2
      split
      · exact (hs1.setCtx hp.mono)
      · exact hs1
    exact (((hs2.withObsShifts hp.mono).bankWrittenAll).bankWrittenAll)

theorem Within.flowFullCheck (h : Within R s t) (hp : R.Allows [.obs .flowFull]) :
    Within R s (flowFullCheck t) := by
  unfold Machine.flowFullCheck
  exact (Within.ite h ((h.withObsFlowFull hp).raiseEvent))

theorem Within.flowFlush {sel : FlowBucket → Bool} (h : Within R s t) (hp : R.Allows
    [.obs .buckets, .obs .contexts, .obs .flowFull, .obs .shifts]) :
    Within R s (flowFlush t sel).1 := by
  unfold Machine.flowFlush
  extract_lets +onlyGivenNames bs s1
  have hs1 : Within R s s1 := (h.foldl fun _ _ _ h4 => (h4.freeBucket hp.mono))
  exact (hs1.bump.flowFullCheck hp.mono)

theorem Within.flowFlushPort {p : ℕ} {mask : ℕ} (h : Within R s t) (hp : R.Allows
    [.obs .buckets, .obs .contexts, .obs .flowFull, .obs .shifts]) :
    Within R s (flowFlushPort t p mask).1 := by
  unfold Machine.flowFlushPort
  exact (h.flowFlush hp)

theorem Within.blockPort {r : Rehearsal} {p : ℕ} (h : Within R s t) (hp : R.Allows
    [.eff, .obs .buckets, .obs .contexts, .obs .flowFull, .obs .shifts, .link, .path .tx, .path .rx, .path .superRx,
    .path .superTx, .path .innerTx]) (hclu : R.Clusters) :
    Within R s (blockPort t r p) := by
  unfold Machine.blockPort
  extract_lets +onlyGivenNames s1 s2 s3 _ s4
  have hs1 : Within R s s1 := (h.clusterReload hp.mono hclu)
  have hs2 : Within R s s2 := (hs1.setLink hp.mono)
  have hs3 : Within R s s3 := ((hs2.setPortPath hp.mono).setPortPath hp.mono)
  have hs4 : Within R s s4 := (hs3.withPathSuperRxSuperTxInnerTx hp.mono)
  exact (hs4.flowFlushPort hp.mono)

theorem Within.setLoopState {l : ℕ} {st : ℕ} (h : Within R s t) (hk : R.OpenAt [F.LOOP_STATUS_STATE] l) :
    Within R s (setLoopState t l st) := by
  unfold Machine.setLoopState
  exact (h.wr hk)

theorem Within.setLoop {l : ℕ} {x : LoopRec} (h : Within R s t) (hp : R.Allows [.ctl .loops]) :
    Within R s (setLoop t l x) := by
  unfold Machine.setLoop
  exact (h.withCtlLoops hp)

theorem Within.blockGroup {r : Rehearsal} {g : ℕ} (h : Within R s t) (hp : R.Allows [.eff, .ctl .loops])
    (hka : ∀ i, R.OpenAt [F.LOOP_STATUS_STATE] i) (hclu : R.Clusters) :
    Within R s (blockGroup t r g) := by
  unfold Machine.blockGroup
  exact ((h.clusterReload hp.mono hclu).foldl fun _ _ _ h4 => (Within.ite ((h4.setLoop hp.mono).setLoopState (hka _))
      ((h4.setLoop hp.mono).setLoopState (hka _))))

theorem Within.setCeilHit {c : ℕ} {hit : Bool} (h : Within R s t) (hk : R.OpenAt [F.BDAC_CEIL_c_CEIL_HIT] c) :
    Within R s (setCeilHit t c hit) := by
  unfold Machine.setCeilHit
  exact (Within.ite h ((h.wrB hk).raiseEvent))

theorem Within.setBdac {c : ℕ} {x : BdacChan} (h : Within R s t) (hp : R.Allows [.ctl .bdac]) :
    Within R s (setBdac t c x) := by
  unfold Machine.setBdac
  exact (h.withCtlBdac hp)

theorem Within.bdacOff {c : ℕ} (h : Within R s t) (hp : R.Allows [.ctl .bdac])
    (hk : R.OpenAt [F.BDAC_CEIL_c_CEIL_HIT, F.BDAC_STATUS_c_APPLIED, F.BDAC_STATUS_c_HOLDING, F.BDAC_STATUS_c_STATE] c) :
    Within R s (bdacOff t c) := by
  unfold Machine.bdacOff
  extract_lets +onlyGivenNames s1
  have hs1 : Within R s s1 := (((h.wr hk).wr hk).wr hk)
  exact ((hs1.setBdac hp).setCeilHit (hk.mono (by decide)))

theorem Within.senseBlank {n : ℕ} (h : Within R s t) (hk : R.OpenAt ([F.SNS_ENV_n_ENV, F.SNS_ENV_n_NOT_SETTLED, F.SNS_PEAK_n_MAX,
    F.SNS_PEAK_n_MIN, F.SNS_RMS_n_NOT_SETTLED, F.SNS_RMS_n_RMS] ++ lockinFields ++ senseFields) n) :
    Within R s (senseBlank t n) := by
  unfold Machine.senseBlank
  extract_lets +onlyGivenNames s1 s2 s3
  have hs1 : Within R s s1 := (((h.wr hk).wr hk).wr hk)
  have hs2 : Within R s s2 := (((hs1.wr hk).wr hk).wr hk)
  have hs3 : Within R s s3 := (((hs2.wr hk).wr hk).wr hk)
  exact (((hs3.wr hk).wr hk).wr hk)

theorem Within.setSense {n : ℕ} {x : SenseChan} (h : Within R s t) (hp : R.Allows [.ctl .sense]) :
    Within R s (setSense t n x) := by
  unfold Machine.setSense
  exact (h.withCtlSense hp)

theorem Within.senseSync {n : ℕ} (h : Within R s t) (hp : R.Allows [.ctl .sense, .cal .repeatSense])
    (hk : R.OpenAt ([F.SNS_ENV_n_ENV, F.SNS_ENV_n_NOT_SETTLED, F.SNS_PEAK_n_MAX, F.SNS_PEAK_n_MIN, F.SNS_RMS_n_NOT_SETTLED,
    F.SNS_RMS_n_RMS] ++ lockinFields ++ senseFields) n) :
    Within R s (senseSync t n) := by
  unfold Machine.senseSync
  refine Within.ite ?_ ?_
  · extract_lets +onlyGivenNames s1
    have hs1 : Within R s s1 := ((h.setSense hp.mono).senseBlank hk)
    exact (Within.ite (hs1.withCalRepeatSense hp.mono) hs1)
  · exact h

theorem Within.blockReset {r : Rehearsal} (h : Within R s t) (hp : R.Allows blockResetPieces)
    (hk8 : R.Opens ([F.ASD_LEVEL_REF, F.LRX_CTLE_STATUS_CODE, F.LRX_CTLE_STATUS_METRIC, F.LRX_SLICE_STATUS_NOSPARE,
    F.LRX_SLICE_STATUS_SWAP_COUNT, F.LRX_SLICE_STATUS_UNDERSTUDY, F.LRX_SLICE_STATUS_WINGS, F.LRX_SPOT_STATUS_STATE,
    F.LRX_STATUS_CTLE_SEARCH, F.LRX_STATUS_LOL, F.LRX_STATUS_LOS, F.LRX_STATUS_LOS_ENV, F.LRX_STATUS_LOS_RMS,
    F.LRX_TR_STATUS_FREQ, F.LRX_TR_STATUS_PI_CODE, F.LRX_VGA_STATUS_AT_LIMIT, F.LRX_VGA_STATUS_CODE, F.LRX_VGA_STATUS_DEFERRED,
    F.LTX_STATUS_SEALED, F.LTX_XA_STATUS_REASON, F.LTX_XA_STATUS_STATE] ++ eqTapFields ++ eqStateFields ++ sliceFailedFields ++
    lineTxFields) 8) (hk16 : R.Opens ([F.HSL_ALIGN_STATUS_LOCKED, F.HSL_SLICE_FAILED_FAILED, F.HSL_SLICE_STATUS_FAILED_32,
    F.HSL_SLICE_STATUS_NOSPARE, F.HSL_SLICE_STATUS_SWAP_COUNT, F.HSL_SLICE_STATUS_UNDERSTUDY, F.HSL_SLICE_STATUS_WINGS,
    F.HSL_STATUS_CTLE_CODE, F.HSL_STATUS_LOL, F.HSL_STATUS_LOS, F.HSL_STATUS_PI_CODE, F.HSL_STATUS_TRAINED,
    F.HSL_STATUS_TRAINING, F.HSL_STATUS_VGA_CODE] ++ hostEqFields ++ hostTxFields) 16)
    (hk : R.OpenAt [F.CAL_STATE_HANDLE, F.CAL_STATE_TARGETS] 0) (hka : ∀ i, R.OpenAt
    ([F.LOOP_STATUS_STATE, F.PCS_ALIGN_STATUS_RX_DESKEWED, F.PCS_ALIGN_STATUS_TX_ALIGNED, F.PCS_LINK_STATUS_LOST,
    F.PCS_LINK_STATUS_PROBED, F.PCS_LINK_STATUS_REASON, F.PCS_LINK_STATUS_STATE, F.PCS_LINK_TIME_RESTARTS] ++ alignFields ++
    rmFields) i) (hk'4 : R.OpenAt [F.ASD_STATUS_RX_BUSY, F.ASD_STATUS_RX_LOAD, F.ASD_STATUS_TX_BUSY, F.ASD_STATUS_TX_LOAD,
    F.ASD_STATUS_UP, F.ASD_TABLE_RX_k_TABLE, F.ASD_TABLE_TX_k_TABLE, F.LEQ_XA_GATHER_STATE, F.LTX_XA_STATUS_REASON,
    F.LTX_XA_STATUS_STATE] (↑(Fin.ofNat 8 r.inst))) (hk'5 : R.OpenAt ([F.BDAC_CEIL_c_CEIL_HIT, F.BDAC_STATUS_c_APPLIED,
    F.BDAC_STATUS_c_HOLDING, F.BDAC_STATUS_c_STATE, F.SNS_ENV_n_ENV, F.SNS_ENV_n_NOT_SETTLED, F.SNS_PEAK_n_MAX, F.SNS_PEAK_n_MIN,
    F.SNS_RMS_n_NOT_SETTLED, F.SNS_RMS_n_RMS] ++ lockinFields ++ senseFields) r.inst) (hcal : ∀ i, R.OpenAt calShown i)
    (hclu : R.Clusters) :
    Within R s (blockReset t r) := by
  unfold Machine.blockReset
  extract_lets +onlyGivenNames s'
  have hs' : Within R s s' := h.bookWrite
  split
  · exact (hs'.blockLine hp.mono hk8 hk16 hk (fun i => (hka i).mono (by decide)) hk'4 hcal hclu)
  · exact (hs'.blockHost hp.mono hk8 hk16 hk (fun i => (hka i).mono (by decide)) hcal hclu)
  · exact (hs'.blockPort hp.mono hclu)
  · exact (hs'.blockGroup hp.mono (fun i => (hka i).mono (by decide)) hclu)
  · exact ((hs'.clusterReload hp.mono hclu).bdacOff hp.mono (hk'5.mono (by decide)))
  · extract_lets +onlyGivenNames u
    have hu : Within R s u := (hs'.clusterReload hp.mono hclu)
    exact (Within.ite (hu.senseSync hp.mono (hk'5.mono (by decide))) ((hu.setSense hp.mono).senseBlank (hk'5.mono (by decide))))

theorem Within.laneLeaves {a : LaneId} (h : Within R s t) (hp : R.Allows
    [.time .cues, .lanes .xa, .lanes .gather, .aside .lanes, .mgmt .inProgress])
    (hk8 : R.Opens [F.ASD_STATUS_RX_BUSY, F.ASD_STATUS_RX_LOAD, F.ASD_STATUS_TX_BUSY, F.ASD_STATUS_TX_LOAD, F.ASD_STATUS_UP,
    F.ASD_TABLE_RX_k_TABLE, F.ASD_TABLE_TX_k_TABLE, F.LEQ_XA_GATHER_STATE, F.LTX_STATUS_SEALED, F.LTX_XA_STATUS_REASON,
    F.LTX_XA_STATUS_STATE] 8) :
    Within R s (laneLeaves t a) := by
  unfold Machine.laneLeaves
  split
  · next n =>
      exact ((h.stopGather hp.mono (hk8.at (Fin.isLt _) (by decide))).asideOff hp (hk8.at (Fin.isLt _) (by decide))
          (hk8.mono (by decide)))
  · exact h

theorem Within.fenceCluster {cls : ℕ} {inst : ℕ} {b : Bool} (h : Within R s t) (hp : R.Allows fenceClusterPieces)
    (hk8 : R.Opens ([F.ASD_LEVEL_REF, F.ASD_STATUS_RX_BUSY, F.ASD_STATUS_RX_LOAD, F.ASD_STATUS_TX_BUSY, F.ASD_STATUS_TX_LOAD,
    F.ASD_STATUS_UP, F.ASD_TABLE_RX_k_TABLE, F.ASD_TABLE_TX_k_TABLE, F.LEQ_XA_GATHER_STATE, F.LRX_CTLE_STATUS_CODE,
    F.LRX_CTLE_STATUS_METRIC, F.LRX_SLICE_STATUS_NOSPARE, F.LRX_SLICE_STATUS_SWAP_COUNT, F.LRX_SLICE_STATUS_UNDERSTUDY,
    F.LRX_SLICE_STATUS_WINGS, F.LRX_SPOT_STATUS_STATE, F.LRX_STATUS_CTLE_SEARCH, F.LRX_STATUS_LOL, F.LRX_STATUS_LOS,
    F.LRX_STATUS_LOS_ENV, F.LRX_STATUS_LOS_RMS, F.LRX_TR_STATUS_FREQ, F.LRX_TR_STATUS_PI_CODE, F.LRX_VGA_STATUS_AT_LIMIT,
    F.LRX_VGA_STATUS_CODE, F.LRX_VGA_STATUS_DEFERRED, F.LTX_STATUS_SEALED, F.LTX_XA_STATUS_REASON, F.LTX_XA_STATUS_STATE] ++
    eqTapFields ++ eqStateFields ++ sliceFailedFields ++ lineTxFields) 8)
    (hk16 : R.Opens ([F.HSL_ALIGN_STATUS_LOCKED, F.HSL_SLICE_FAILED_FAILED, F.HSL_SLICE_STATUS_FAILED_32,
    F.HSL_SLICE_STATUS_NOSPARE, F.HSL_SLICE_STATUS_SWAP_COUNT, F.HSL_SLICE_STATUS_UNDERSTUDY, F.HSL_SLICE_STATUS_WINGS,
    F.HSL_STATUS_CTLE_CODE, F.HSL_STATUS_LOL, F.HSL_STATUS_LOS, F.HSL_STATUS_PI_CODE, F.HSL_STATUS_TRAINED,
    F.HSL_STATUS_TRAINING, F.HSL_STATUS_VGA_CODE] ++ hostEqFields ++ hostTxFields) 16)
    (hk : R.OpenAt [F.CAL_STATE_HANDLE, F.CAL_STATE_TARGETS, F.TST_FENCED_HOST, F.TST_FENCED_LINE, F.TST_FENCED_PORTS] 0)
    (hka : ∀ i, R.OpenAt ([F.LOOP_STATUS_STATE, F.PCS_ALIGN_STATUS_RX_DESKEWED, F.PCS_ALIGN_STATUS_TX_ALIGNED,
    F.PCS_LINK_STATUS_LOST, F.PCS_LINK_STATUS_PROBED, F.PCS_LINK_STATUS_REASON, F.PCS_LINK_STATUS_STATE,
    F.PCS_LINK_TIME_RESTARTS] ++ alignFields ++ rmFields) i) (hk'4 : R.OpenAt
    ([F.SNS_ENV_n_ENV, F.SNS_ENV_n_NOT_SETTLED, F.SNS_PEAK_n_MAX, F.SNS_PEAK_n_MIN, F.SNS_RMS_n_NOT_SETTLED, F.SNS_RMS_n_RMS] ++
    lockinFields ++ senseFields) inst) (hcal : ∀ i, R.OpenAt calShown i) :
    Within R s (fenceCluster t cls inst b) := by
  unfold Machine.fenceCluster
  split
  · extract_lets +onlyGivenNames l s1 s2
    have hs1 : Within R s s1 := (Within.ite ((h.laneLeaves hp.mono (hk8.mono (by decide))).lanePowerDown hp.mono
        (hk8.mono (by decide)) hk16 (hk.mono (by decide)) (fun i => (hka i).mono (by decide)) hcal) h)
    have hs2 : Within R s s2 := (hs1.wr hk)
    exact (Within.ite (hs2.lanePowerUp hp.mono (hk8.mono (by decide)) (hk16.mono (by decide)) (fun i => (hka i).mono (by decide))
        hcal) hs2)
  · extract_lets +onlyGivenNames l s1 s2
    have hs1 : Within R s s1 := (Within.ite (h.lanePowerDown hp.mono (hk8.mono (by decide)) hk16 (hk.mono (by decide))
        (fun i => (hka i).mono (by decide)) hcal) h)
    have hs2 : Within R s s2 := (hs1.wr hk)
    exact (Within.ite (hs2.lanePowerUp hp.mono (hk8.mono (by decide)) (hk16.mono (by decide)) (fun i => (hka i).mono (by decide))
        hcal) hs2)
  · exact (h.wr hk)
  · extract_lets +onlyGivenNames _ s1
    have hs1 : Within R s s1 := (h.withTestFencedGroups hp.mono)
    exact (Within.ite (hs1.foldl fun _ _ _ h4 => (Within.ite h4 (h4.setLoopState ((hka _).mono (by decide))))) hs1)
  · exact (h.withTestFencedBdac hp.mono)
  · extract_lets +onlyGivenNames _ s1
    have hs1 : Within R s s1 := (h.withTestFencedSense hp.mono)
    exact (Within.ite (hs1.senseBlank hk'4) hs1)

theorem Within.rehearsalEnds {e : TestEnd} {unit : ℕ} (h : Within R s t) (hp : R.Allows rehearsalEndsPieces)
    (hk8 : R.Opens ([F.ASD_LEVEL_REF, F.ASD_STATUS_RX_BUSY, F.ASD_STATUS_RX_LOAD, F.ASD_STATUS_TX_BUSY, F.ASD_STATUS_TX_LOAD,
    F.ASD_STATUS_UP, F.ASD_TABLE_RX_k_TABLE, F.ASD_TABLE_TX_k_TABLE, F.LEQ_XA_GATHER_STATE, F.LRX_CTLE_STATUS_CODE,
    F.LRX_CTLE_STATUS_METRIC, F.LRX_SLICE_STATUS_NOSPARE, F.LRX_SLICE_STATUS_SWAP_COUNT, F.LRX_SLICE_STATUS_UNDERSTUDY,
    F.LRX_SLICE_STATUS_WINGS, F.LRX_SPOT_STATUS_STATE, F.LRX_STATUS_CTLE_SEARCH, F.LRX_STATUS_LOL, F.LRX_STATUS_LOS,
    F.LRX_STATUS_LOS_ENV, F.LRX_STATUS_LOS_RMS, F.LRX_TR_STATUS_FREQ, F.LRX_TR_STATUS_PI_CODE, F.LRX_VGA_STATUS_AT_LIMIT,
    F.LRX_VGA_STATUS_CODE, F.LRX_VGA_STATUS_DEFERRED, F.LTX_STATUS_SEALED, F.LTX_XA_STATUS_REASON, F.LTX_XA_STATUS_STATE] ++
    eqTapFields ++ eqStateFields ++ sliceFailedFields ++ lineTxFields) 8)
    (hk16 : R.Opens ([F.HSL_ALIGN_STATUS_LOCKED, F.HSL_SLICE_FAILED_FAILED, F.HSL_SLICE_STATUS_FAILED_32,
    F.HSL_SLICE_STATUS_NOSPARE, F.HSL_SLICE_STATUS_SWAP_COUNT, F.HSL_SLICE_STATUS_UNDERSTUDY, F.HSL_SLICE_STATUS_WINGS,
    F.HSL_STATUS_CTLE_CODE, F.HSL_STATUS_LOL, F.HSL_STATUS_LOS, F.HSL_STATUS_PI_CODE, F.HSL_STATUS_TRAINED,
    F.HSL_STATUS_TRAINING, F.HSL_STATUS_VGA_CODE] ++ hostEqFields ++ hostTxFields) 16)
    (hk : R.OpenAt [F.CAL_STATE_HANDLE, F.CAL_STATE_TARGETS, F.TST_FENCED_HOST, F.TST_FENCED_LINE, F.TST_FENCED_PORTS,
    F.TST_STATUS_CAUSE, F.TST_STATUS_RESULT, F.TST_STATUS_RUNNING] 0) (hka : ∀ i, R.OpenAt
    ([F.BDAC_CEIL_c_CEIL_HIT, F.BDAC_STATUS_c_APPLIED, F.BDAC_STATUS_c_HOLDING, F.BDAC_STATUS_c_STATE, F.LOOP_STATUS_STATE,
    F.PCS_ALIGN_STATUS_RX_DESKEWED, F.PCS_ALIGN_STATUS_TX_ALIGNED, F.PCS_LINK_STATUS_LOST, F.PCS_LINK_STATUS_PROBED,
    F.PCS_LINK_STATUS_REASON, F.PCS_LINK_STATUS_STATE, F.PCS_LINK_TIME_RESTARTS, F.SNS_ENV_n_ENV, F.SNS_ENV_n_NOT_SETTLED,
    F.SNS_PEAK_n_MAX, F.SNS_PEAK_n_MIN, F.SNS_RMS_n_NOT_SETTLED, F.SNS_RMS_n_RMS] ++ alignFields ++ rmFields ++ lockinFields ++
    senseFields) i) (hcal : ∀ i, R.OpenAt calShown i) (hclu : R.Clusters) :
    Within R s (rehearsalEnds t e unit) := by
  unfold Machine.rehearsalEnds
  split
  · exact h
  · extract_lets +onlyGivenNames _ s1 s2
    have hs1 : Within R s s1 := ((h.withTestRehearsal hp.mono).blockReset hp.mono (hk8.mono (by decide)) hk16
        (hk.mono (by decide)) (fun i => (hka i).mono (by decide)) (hk8.at (Fin.isLt _) (by decide)) ((hka _).mono (by decide))
        hcal hclu)
    have hs2 : Within R s s2 := (Within.ite (hs1.fenceCluster hp.mono hk8 hk16 (hk.mono (by decide))
        (fun i => (hka i).mono (by decide)) ((hka _).mono (by decide)) hcal)
        (Within.ite (hs1.fenceCluster hp.mono hk8 hk16 (hk.mono (by decide)) (fun i => (hka i).mono (by decide))
        ((hka _).mono (by decide)) hcal) hs1))
    exact ((hs2.testReply hp.mono).testEnds hp.mono (hk.mono (by decide)))

theorem Within.testsAbort {cause : ℕ} {patterns : ℕ} (h : Within R s t) (hp : R.Allows testsAbortPieces)
    (hk8 : R.Opens ([F.ASD_LEVEL_REF, F.ASD_STATUS_RX_BUSY, F.ASD_STATUS_RX_LOAD, F.ASD_STATUS_TX_BUSY, F.ASD_STATUS_TX_LOAD,
    F.ASD_STATUS_UP, F.ASD_TABLE_RX_k_TABLE, F.ASD_TABLE_TX_k_TABLE, F.LEQ_XA_GATHER_STATE, F.LRX_CTLE_STATUS_CODE,
    F.LRX_CTLE_STATUS_METRIC, F.LRX_SLICE_STATUS_NOSPARE, F.LRX_SLICE_STATUS_SWAP_COUNT, F.LRX_SLICE_STATUS_UNDERSTUDY,
    F.LRX_SLICE_STATUS_WINGS, F.LRX_SPOT_STATUS_STATE, F.LRX_STATUS_CTLE_SEARCH, F.LRX_STATUS_LOL, F.LRX_STATUS_LOS,
    F.LRX_STATUS_LOS_ENV, F.LRX_STATUS_LOS_RMS, F.LRX_TR_STATUS_FREQ, F.LRX_TR_STATUS_PI_CODE, F.LRX_VGA_STATUS_AT_LIMIT,
    F.LRX_VGA_STATUS_CODE, F.LRX_VGA_STATUS_DEFERRED, F.LTX_STATUS_SEALED, F.LTX_XA_STATUS_REASON, F.LTX_XA_STATUS_STATE] ++
    eqTapFields ++ eqStateFields ++ sliceFailedFields ++ lineTxFields) 8)
    (hk16 : R.Opens ([F.HSL_ALIGN_STATUS_LOCKED, F.HSL_SLICE_FAILED_FAILED, F.HSL_SLICE_STATUS_FAILED_32,
    F.HSL_SLICE_STATUS_NOSPARE, F.HSL_SLICE_STATUS_SWAP_COUNT, F.HSL_SLICE_STATUS_UNDERSTUDY, F.HSL_SLICE_STATUS_WINGS,
    F.HSL_STATUS_CTLE_CODE, F.HSL_STATUS_LOL, F.HSL_STATUS_LOS, F.HSL_STATUS_PI_CODE, F.HSL_STATUS_TRAINED,
    F.HSL_STATUS_TRAINING, F.HSL_STATUS_VGA_CODE] ++ hostEqFields ++ hostTxFields) 16)
    (hk : R.OpenAt [F.CAL_STATE_HANDLE, F.CAL_STATE_TARGETS, F.TST_FENCED_HOST, F.TST_FENCED_LINE, F.TST_FENCED_PORTS,
    F.TST_STATUS_CAUSE, F.TST_STATUS_RESULT, F.TST_STATUS_RUNNING] 0) (hka : ∀ i, R.OpenAt
    ([F.BDAC_CEIL_c_CEIL_HIT, F.BDAC_STATUS_c_APPLIED, F.BDAC_STATUS_c_HOLDING, F.BDAC_STATUS_c_STATE, F.LOOP_STATUS_STATE,
    F.PCS_ALIGN_STATUS_RX_DESKEWED, F.PCS_ALIGN_STATUS_TX_ALIGNED, F.PCS_LINK_STATUS_LOST, F.PCS_LINK_STATUS_PROBED,
    F.PCS_LINK_STATUS_REASON, F.PCS_LINK_STATUS_STATE, F.PCS_LINK_TIME_RESTARTS, F.SNS_ENV_n_ENV, F.SNS_ENV_n_NOT_SETTLED,
    F.SNS_PEAK_n_MAX, F.SNS_PEAK_n_MIN, F.SNS_RMS_n_NOT_SETTLED, F.SNS_RMS_n_RMS] ++ alignFields ++ rmFields ++ lockinFields ++
    senseFields) i) (hcal : ∀ i, R.OpenAt calShown i) (hclu : R.Clusters) :
    Within R s (testsAbort t cause patterns) := by
  unfold Machine.testsAbort
  exact (((h.rehearsalEnds hp.mono hk8 hk16 hk hka hcal hclu).memTestEnds hp.mono (hk.mono (by decide))).dressEnds hp.mono
      (hk.mono (by decide)))

theorem Within.takeFree (h : Within R s t) (hp : R.Allows [.free]) :
    Within R s (takeFree t) := by
  unfold Machine.takeFree
  exact (h.withFree hp)

theorem Within.testsStop {cause : ℕ} (h : Within R s t) (hp : R.Allows testsStopPieces)
    (hk8 : R.Opens ([F.ASD_LEVEL_REF, F.ASD_STATUS_RX_BUSY, F.ASD_STATUS_RX_LOAD, F.ASD_STATUS_TX_BUSY, F.ASD_STATUS_TX_LOAD,
    F.ASD_STATUS_UP, F.ASD_TABLE_RX_k_TABLE, F.ASD_TABLE_TX_k_TABLE, F.LEQ_XA_GATHER_STATE, F.LRX_CTLE_STATUS_CODE,
    F.LRX_CTLE_STATUS_METRIC, F.LRX_SLICE_STATUS_NOSPARE, F.LRX_SLICE_STATUS_SWAP_COUNT, F.LRX_SLICE_STATUS_UNDERSTUDY,
    F.LRX_SLICE_STATUS_WINGS, F.LRX_SPOT_STATUS_STATE, F.LRX_STATUS_CTLE_SEARCH, F.LRX_STATUS_LOL, F.LRX_STATUS_LOS,
    F.LRX_STATUS_LOS_ENV, F.LRX_STATUS_LOS_RMS, F.LRX_TR_STATUS_FREQ, F.LRX_TR_STATUS_PI_CODE, F.LRX_VGA_STATUS_AT_LIMIT,
    F.LRX_VGA_STATUS_CODE, F.LRX_VGA_STATUS_DEFERRED, F.LTX_STATUS_SEALED, F.LTX_XA_STATUS_REASON, F.LTX_XA_STATUS_STATE] ++
    eqTapFields ++ eqStateFields ++ sliceFailedFields ++ lineTxFields) 8)
    (hk16 : R.Opens ([F.HSL_ALIGN_STATUS_LOCKED, F.HSL_SLICE_FAILED_FAILED, F.HSL_SLICE_STATUS_FAILED_32,
    F.HSL_SLICE_STATUS_NOSPARE, F.HSL_SLICE_STATUS_SWAP_COUNT, F.HSL_SLICE_STATUS_UNDERSTUDY, F.HSL_SLICE_STATUS_WINGS,
    F.HSL_STATUS_CTLE_CODE, F.HSL_STATUS_LOL, F.HSL_STATUS_LOS, F.HSL_STATUS_PI_CODE, F.HSL_STATUS_TRAINED,
    F.HSL_STATUS_TRAINING, F.HSL_STATUS_VGA_CODE] ++ hostEqFields ++ hostTxFields) 16)
    (hk : R.OpenAt [F.CAL_STATE_HANDLE, F.CAL_STATE_TARGETS, F.TST_FENCED_HOST, F.TST_FENCED_LINE, F.TST_FENCED_PORTS,
    F.TST_STATUS_CAUSE, F.TST_STATUS_RESULT, F.TST_STATUS_RUNNING] 0) (hka : ∀ i, R.OpenAt
    ([F.BDAC_CEIL_c_CEIL_HIT, F.BDAC_STATUS_c_APPLIED, F.BDAC_STATUS_c_HOLDING, F.BDAC_STATUS_c_STATE, F.LOOP_STATUS_STATE,
    F.PCS_ALIGN_STATUS_RX_DESKEWED, F.PCS_ALIGN_STATUS_TX_ALIGNED, F.PCS_LINK_STATUS_LOST, F.PCS_LINK_STATUS_PROBED,
    F.PCS_LINK_STATUS_REASON, F.PCS_LINK_STATUS_STATE, F.PCS_LINK_TIME_RESTARTS, F.SNS_ENV_n_ENV, F.SNS_ENV_n_NOT_SETTLED,
    F.SNS_PEAK_n_MAX, F.SNS_PEAK_n_MIN, F.SNS_RMS_n_NOT_SETTLED, F.SNS_RMS_n_RMS] ++ alignFields ++ rmFields ++ lockinFields ++
    senseFields) i) (hcal : ∀ i, R.OpenAt calShown i) (hclu : R.Clusters) :
    Within R s (testsStop t cause) := by
  unfold Machine.testsStop
  exact (Within.ite ((h.takeFree hp.mono).testsAbort hp.mono hk8 hk16 hk hka hcal hclu) h)

theorem Within.calAbortAll (h : Within R s t) (hp : R.Allows [.ctl .sense, .cal .run, .cal .lineLaps, .cal .hostLaps,
    .cal .skewNow, .cal .skewAgain, .cal .skewRepeated, .cal .bdacQueue, .cal .senseQueue, .cal .bdacNow, .cal .senseNow,
    .mgmt .inProgress]) (hk8 : R.Opens [F.LRX_SLICE_STATUS_WINGS] 8) (hk16 : R.Opens [F.HSL_SLICE_STATUS_WINGS] 16)
    (hk : R.OpenAt [F.CAL_STATE_HANDLE, F.CAL_STATE_TARGETS] 0) (hcal : ∀ i, R.OpenAt calShown i) :
    Within R s (calAbortAll t) := by
  unfold Machine.calAbortAll
  split
  · exact h
  · extract_lets +onlyGivenNames s1 s2 s3 s4 s5
    have hs1 : Within R s s1 := by
      unfold s1
      refine h.foldl fun u1 x2 m3 h4 => ?_
      split
      · exact (((h4.setLap hp.mono).setWings hk8 hk16).instanceEnd hp.mono hcal)
      · exact h4
    have hs2 : Within R s s2 := (hs1.foldl fun _ _ _ h8 => (h8.instanceEnd hp.mono hcal))
    have hs3 : Within R s s3 := (hs2.foldl fun _ _ _ h12 => (h12.instanceEnd hp.mono hcal))
    have hs4 : Within R s s4 := (hs3.foldl fun _ _ _ h16 => (h16.setSense hp.mono))
    have hs5 : Within R s s5 := (hs4.foldl fun _ _ _ h20 => (h20.instanceEnd hp.mono hcal))
    exact ((hs5.withCalSkewNowSkewAgainSkewRepeatedBdacQueueSenseQueueBdacNowSenseNow hp.mono).runCheck hp.mono hk)

theorem Within.escalate {g : ℕ} {l : ℕ} (h : Within R s t) (hk : R.OpenAt [F.LOOP_GRP_STATUS_g_ESCALATED] g)
    (hk32 : R.Opens [F.LOOP_STATUS_STATE] 32) :
    Within R s (escalate t g l) := by
  unfold Machine.escalate
  extract_lets +onlyGivenNames safety s1
  have hs1 : Within R s s1 := (Within.ite h ((h.wr hk).foldl fun _ _ m3 h4 =>
      (Within.ite (h4.setLoopState (hk32.at (lt_of_mem_groupMembers m3) (by decide))) h4)))
  exact hs1.raiseEvent

theorem Within.enterSafe {l : ℕ} (h : Within R s t) (hp : R.Allows [.ctl .loops]) (hk : R.OpenAt [F.LOOP_STATUS_STATE] l) :
    Within R s (enterSafe t l) := by
  unfold Machine.enterSafe
  exact ((h.setLoop hp).setLoopState hk)

theorem Within.loseFeedback {l : ℕ} (h : Within R s t) (hp : R.Allows [.ctl .loops])
    (hk8 : R.Opens [F.LOOP_GRP_STATUS_g_ESCALATED] 8) (hk32 : R.Opens [F.LOOP_STATUS_STATE] 32)
    (hk : R.OpenAt [F.LOOP_STATUS_STATE] l) :
    Within R s (loseFeedback t l) := by
  unfold Machine.loseFeedback
  extract_lets +onlyGivenNames action s1 st
  have hs1 : Within R s s1 := h.raiseEvent
  exact (Within.ite (hs1.escalate (hk8.at (loopGroup_lt ..) (by decide)) hk32)
      (Within.ite (Within.ite (hs1.enterSafe hp hk) (hs1.setLoopState hk)) hs1))

theorem Within.setHistory {l : ℕ} {flags : ℕ} (h : Within R s t) (hk : R.OpenAt [F.LOOP_HIST_FLAGS] l) :
    Within R s (setHistory t l flags) := by
  unfold Machine.setHistory
  extract_lets +onlyGivenNames old new
  refine Within.ite ?_ ?_
  · exact h
  · extract_lets +onlyGivenNames s1
    have hs1 : Within R s s1 := (h.wr hk)
    exact (Within.ite hs1.raiseEvent hs1)

theorem Within.loopsFallBack (h : Within R s t) (hp : R.Allows [.ctl .loops]) (hk : R.OpenAt [F.LOOP_ENGINE_STATUS_FALLBACK] 0)
    (hk32 : R.Opens [F.LOOP_HIST_FLAGS, F.LOOP_STATUS_STALE, F.LOOP_STATUS_STATE] 32)
    (hk8 : R.Opens [F.LOOP_GRP_STATUS_g_ESCALATED] 8) :
    Within R s (loopsFallBack t) := by
  unfold Machine.loopsFallBack
  exact ((h.wr hk).foldl fun _ _ m3 h4 => (Within.ite h4 (((h4.wr (hk32 _ (List.mem_range.1 m3))).setHistory
      (hk32.at (List.mem_range.1 m3) (by decide))).loseFeedback hp hk8 (hk32.mono (by decide))
      (hk32.at (List.mem_range.1 m3) (by decide)))))

theorem Within.sysPllLockLoss (h : Within R s t) (hp : R.Allows sysPllLockLossPieces)
    (hk : R.OpenAt [F.CAL_STATE_HANDLE, F.CAL_STATE_TARGETS, F.LOOP_ENGINE_STATUS_FALLBACK] 0)
    (hk32 : R.Opens [F.LOOP_HIST_FLAGS, F.LOOP_STATUS_STALE, F.LOOP_STATUS_STATE] 32)
    (hk8 : R.Opens [F.ASD_STATUS_RX_BUSY, F.ASD_STATUS_TX_BUSY, F.LOOP_GRP_STATUS_g_ESCALATED, F.LRX_SLICE_STATUS_WINGS] 8)
    (hk16 : R.Opens [F.HSL_SLICE_STATUS_WINGS] 16) (hcal : ∀ i, R.OpenAt calShown i) :
    Within R s (sysPllLockLoss t) := by
  unfold Machine.sysPllLockLoss
  refine Within.ite ?_ ?_
  · extract_lets +onlyGivenNames _ s1
    have hs1 : Within R s s1 := ((h.withTimeSysPllLocked hp.mono).raiseEvent)
    exact (((hs1.loopsFallBack hp.mono (hk.mono (by decide)) hk32 (hk8.mono (by decide))).calAbortAll hp.mono
        (hk8.mono (by decide)) hk16 (hk.mono (by decide)) hcal).foldl fun _ _ m3 h4 =>
        (h4.asideCut hp.mono (hk8.at (List.mem_range.1 m3) (by decide))))
  · exact h

theorem Within.lookFrom {n : ℕ} {m : ℕ} (h : Within R s t) (hp : R.Allows [.lanes .lineRx, .lanes .hostRx]) :
    Within R s (lookFrom t n m) := by
  unfold Machine.lookFrom
  exact (h.setRxRec hp)

theorem Within.asideListen {n : ℕ} (h : Within R s t) (hp : R.Allows [.lanes .lineRx, .lanes .hostRx]) :
    Within R s (asideListen t n) := by
  unfold Machine.asideListen
  exact (h.lookFrom hp)

theorem Within.sysPllRelock (h : Within R s t) (hp : R.Allows [.time .sysPllLocked, .lanes .lineRx, .lanes .hostRx])
    (hk : R.OpenAt [F.LOOP_ENGINE_STATUS_FALLBACK] 0) :
    Within R s (sysPllRelock t) := by
  unfold Machine.sysPllRelock
  refine Within.ite ?_ ?_
  · extract_lets +onlyGivenNames _ s1
    have hs1 : Within R s s1 := ((h.withTimeSysPllLocked hp.mono).raiseEvent)
    exact ((hs1.foldl fun _ _ _ h4 => (h4.asideListen hp.mono)).wr hk)
  · exact h

theorem Within.requestMgmt {cause : ℕ} (h : Within R s t) (hp : R.Allows [.mgmt .restartCause]) :
    Within R s (requestMgmt t cause) := by
  unfold Machine.requestMgmt
  exact (Within.ite h (h.withMgmtRestartCause hp))

theorem Within.lockstepMismatch (h : Within R s t) (hp : R.Allows [.mgmt .restartCause]) :
    Within R s (lockstepMismatch t) := by
  unfold Machine.lockstepMismatch
  exact (Within.ite (h.curtain.requestMgmt hp) h)

theorem Within.rearm {xs : List BusAccess} (h : Within R s t) (hk : R.OpenAt [F.MEM_ERR_INFO_VALID, F.REGIF_ERR_INFO_VALID] 0) :
    Within R s (rearm t xs) := by
  unfold Machine.rearm
  extract_lets +onlyGivenNames hit s1
  have hs1 : Within R s s1 := (Within.ite (h.wr hk) h)
  exact (Within.ite (hs1.wr hk) hs1)

theorem Within.windowWord {a : ℕ} (h : Within R s t) (hp : R.Allows [.free]) (hb : R.bulk) :
    Within R s (windowWord t a).1 := by
  unfold Machine.windowWord
  refine .ite_fst (h.takeFree hp.mono) (h.eccReadWindow hb)

theorem Within.counterLoRead {iface : Iface} {i : ℕ} (h : Within R s t) (hp : R.Allows [.obs .hiLatch]) :
    Within R s (counterLoRead iface i t).1 := by
  unfold Machine.counterLoRead
  extract_lets +onlyGivenNames r _ _ s1 v
  have hr : Within R s r.1 := .ite_fst h.eccRead h
  have hs1 : Within R s s1 := .ite hr.counted hr
  exact hs1.withObsHiLatch hp.mono

theorem Within.bankRead {b : ℕ} {as : List ℕ} (h : Within R s t) :
    Within R s (bankRead t b as) := by
  unfold Machine.bankRead
  exact (Within.ite h.eccReadAll h)

theorem Within.snapPick {b : ℕ} {new : ℕ} {old : ℕ} (h : Within R s t) (hp : R.Allows [.free]) :
    Within R s (snapPick t b new old).1 := by
  unfold Machine.snapPick
  exact (Within.ite_fst (h.takeFree hp) h)

theorem Within.memoryWord {iface : Iface} {base i j : Nat} {x : State × Nat} (h : Within R s t)
    (hp : R.Allows [.obs .hiLatch, .free])
    (hx : memoryWord t iface base i j = some x) : Within R s x.1 := by
  unfold Machine.memoryWord at hx
  simp only at hx
  split_ifs at hx <;> cases hx
  · exact h.counterLoRead hp.mono
  · exact h
  · exact h.bankRead.snapPick hp.mono
  · exact h.bankRead.snapPick hp.mono
  · exact h.bankRead.snapPick hp.mono
  · exact h.bankRead.snapPick hp.mono

theorem Within.regRead {iface : Iface} {a : ℕ} (h : Within R s t) (hp : R.Allows [.obs .hiLatch, .free]) (hb : R.bulk) :
    Within R s (regRead iface t a).1 := by
  unfold Machine.regRead
  split
  · exact h
  · exact h.windowWord hp.mono hb
  · exact .ite_fst h (.ite_fst h h)
  · refine .ite_fst h (.ite_fst h ?_)
    split
    · next hx => exact h.memoryWord hp.mono hx
    · exact h

theorem Within.errCapture {iface : ℕ} {cause : ℕ} {a : ℕ} (h : Within R s t)
    (hk : R.OpenAt [F.REGIF_ERR_INFO_ADDR, F.REGIF_ERR_INFO_CAUSE, F.REGIF_ERR_INFO_INTERFACE, F.REGIF_ERR_INFO_VALID] 0) :
    Within R s (errCapture t iface cause a) := by
  unfold Machine.errCapture
  exact ((((h.wr hk).wr hk).wr hk).wr hk)

theorem Within.lockedWrite {iface : ℕ} {cause : ℕ} {a : ℕ} (h : Within R s t) (hp : R.Allows [.mgmt .lockedRate]) :
    Within R s (lockedWrite t iface cause a) := by
  have hrate : ∀ r, Within R s { t with mgmt := { t.mgmt with lockedRate := r } } := fun r => h.withMgmtLockedRate hp.mono
  simp only [Machine.lockedWrite]
  split
  · exact (hrate _).raiseEvent
  · exact hrate _

theorem Within.busError {iface : ℕ} {cause : ℕ} {a : ℕ} (h : Within R s t) (hp : R.Allows [.mgmt .lockedRate])
    (hk : R.OpenAt [F.REGIF_ERR_INFO_ADDR, F.REGIF_ERR_INFO_CAUSE, F.REGIF_ERR_INFO_INTERFACE, F.REGIF_ERR_INFO_VALID] 0) :
    Within R s (busError t iface cause a) := by
  unfold Machine.busError
  extract_lets +onlyGivenNames s1 s2
  have hs1 : Within R s s1 := h.bump
  have hs2 : Within R s s2 := (Within.ite (hs1.errCapture hk) hs1)
  exact (Within.ite (hs2.lockedWrite hp) hs2)

theorem Within.ifaceRead {iface : Iface} {e : BusErrs} {a : ℕ} (h : Within R s t)
    (hp : R.Allows [.obs .hiLatch, .mgmt .lockedRate, .free]) (hk : R.OpenAt
    [F.REGIF_ERR_INFO_ADDR, F.REGIF_ERR_INFO_CAUSE, F.REGIF_ERR_INFO_INTERFACE, F.REGIF_ERR_INFO_VALID] 0) (hb : R.bulk) :
    Within R s (ifaceRead iface t e a).1 := by
  have hread := h.regRead (iface := iface) (a := a) hp.mono hb
  unfold Machine.ifaceRead
  split
  · next hr => exact hread.fst hr
  · next hr => exact (hread.fst hr).busError hp.mono hk

theorem Within.cycleRead {s0 : State} {q : State × List BusAnswer} {x : BusAccess} (h : Within R s q.1)
    (hp : R.Allows [.obs .hiLatch, .mgmt .lockedRate, .free]) (hw : R.Wide) (hb : R.bulk) : Within R s (cycleRead s0 q x).1 :=
  h.ifaceRead hp.mono hw.openAt hb

theorem Within.cueAdvance {x : DueCue} (h : Within R s t) (hp : R.Allows [.time .cues]) (hk8 : R.Opens [F.LTX_STATUS_SEALED] 8) :
    Within R s (cueAdvance t x) := by
  unfold Machine.cueAdvance
  split
  · exact (Within.ite (h.setCue hp hk8) (h.setCue hp hk8))
  · exact h

theorem Within.cueFired {x : DueCue} (h : Within R s t) :
    Within R s (cueFired t x) := by
  unfold Machine.cueFired
  extract_lets +onlyGivenNames s1
  have hs1 : Within R s s1 := h.bump
  exact (Within.ite hs1.raiseEvent hs1)

theorem Within.goInstApply {x : GoInst} (h : Within R s t) (hp : R.Allows [.eff]) :
    Within R s (GoInst.apply x t) := by
  unfold Machine.GoInst.apply
  exact (h.foldl fun _ _ _ h4 => (h4.wrE hp))

theorem Within.goCandidate {mask : ℕ} (h : Within R s t) (hp : R.Allows [.eff]) :
    Within R s (goCandidate t mask) := by
  unfold Machine.goCandidate
  exact (h.foldl fun _ _ _ h4 => (h4.goInstApply hp))

theorem Within.asideGo {s' : State} {n : ℕ} (h : Within R s t) (hp : R.Allows
    [.time .cues, .lanes .lineRx, .lanes .hostRx, .lanes .xa, .lanes .gather, .aside .lanes, .mgmt .inProgress])
    (hk : R.OpenAt [F.ASD_STATUS_AUTH_STATE, F.ASD_STATUS_RX_BUSY, F.ASD_STATUS_RX_LOAD, F.ASD_STATUS_TX_BUSY,
    F.ASD_STATUS_TX_LOAD, F.ASD_STATUS_UP, F.ASD_TABLE_RX_k_TABLE, F.ASD_TABLE_TX_k_TABLE, F.LEQ_XA_GATHER_STATE,
    F.LTX_XA_STATUS_REASON, F.LTX_XA_STATUS_STATE] n) (hk8 : R.Opens [F.LTX_STATUS_SEALED] 8) :
    Within R s (asideGo s' t n) := by
  unfold Machine.asideGo
  extract_lets +onlyGivenNames u1 u2
  have hu1 : Within R s u1 := (Within.ite (h.leaveCoop hp.mono (hk.mono (by decide)) hk8) h)
  have hu2 : Within R s u2 := (Within.ite (hu1.asideOff hp.mono (hk.mono (by decide)) hk8)
      (Within.ite (hu1.asideListen hp.mono) hu1))
  exact (Within.ite (hu2.wr hk) hu2)

theorem Within.trainEnd {n : ℕ} (h : Within R s t) (hp : R.Allows [.mgmt .inProgress])
    (hk : R.OpenAt [F.HSL_STATUS_TRAINED, F.HSL_STATUS_TRAINING] n) :
    Within R s (trainEnd t n) := by
  unfold Machine.trainEnd
  extract_lets +onlyGivenNames s1
  have hs1 : Within R s s1 := ((h.wr hk).wr hk)
  exact (Within.ite (hs1.retrainLaneDone hp) hs1)

theorem Within.hfckoFollow (h : Within R s t) (hk : R.OpenAt [F.HSL_REF_STATUS_HFCKO0_ON, F.HSL_REF_STATUS_HFCKO1_ON] 0) :
    Within R s (hfckoFollow t) := by
  unfold Machine.hfckoFollow
  exact ((h.wrB hk).wrB hk)

theorem Within.setHoldover {b : ℕ} {v : Bool} (h : Within R s t) (hk : R.OpenAt
    [F.HSL_REF_STATUS_A_HOLDOVER, F.HSL_REF_STATUS_B_HOLDOVER] 0) :
    Within R s (setHoldover t b v) := by
  unfold Machine.setHoldover
  exact (Within.ite (h.wrB hk) (h.wrB hk))

theorem Within.setHostRef {b : ℕ} {v : ℕ} (h : Within R s t) (hk : R.OpenAt [F.HSL_REF_STATUS_A_REF, F.HSL_REF_STATUS_B_REF] 0) :
    Within R s (setHostRef t b v) := by
  unfold Machine.setHostRef
  exact (Within.ite (h.wr hk) (h.wr hk))

theorem Within.changeRef {b : ℕ} {r : ℕ} (h : Within R s t) (hp : R.Allows [.path .refChanged])
    (hk : R.OpenAt [F.HSL_REF_STATUS_A_REF, F.HSL_REF_STATUS_B_REF] 0) :
    Within R s (changeRef t b r) := by
  unfold Machine.changeRef
  extract_lets +onlyGivenNames s1
  have hs1 : Within R s s1 := (h.setHostRef hk)
  exact (hs1.withPathRefChanged hp)

theorem Within.holdOver {b : ℕ} (h : Within R s t) (hp : R.Allows [.path .refChanged])
    (hk : R.OpenAt [F.HSL_REF_STATUS_A_HOLDOVER, F.HSL_REF_STATUS_A_REF, F.HSL_REF_STATUS_B_HOLDOVER, F.HSL_REF_STATUS_B_REF] 0) :
    Within R s (holdOver t b) := by
  unfold Machine.holdOver
  extract_lets +onlyGivenNames r
  refine Within.ite ?_ ?_
  · exact h
  · extract_lets +onlyGivenNames s1
    have hs1 : Within R s s1 := (h.setHoldover (hk.mono (by decide)))
    exact (Within.ite (hs1.changeRef hp (hk.mono (by decide))) hs1)

theorem Within.takeRef {b : ℕ} (h : Within R s t) (hp : R.Allows [.path .refChanged])
    (hk : R.OpenAt [F.HSL_REF_STATUS_A_HOLDOVER, F.HSL_REF_STATUS_A_REF, F.HSL_REF_STATUS_B_HOLDOVER, F.HSL_REF_STATUS_B_REF] 0) :
    Within R s (takeRef t b) := by
  unfold Machine.takeRef
  exact ((((h.withPathRefChanged hp).setHoldover (hk.mono (by decide))).setHostRef (hk.mono (by decide))).holdOver hp hk)

theorem Within.dropRef {b : ℕ} (h : Within R s t) (hp : R.Allows [.path .refChanged])
    (hk : R.OpenAt [F.HSL_REF_STATUS_A_HOLDOVER, F.HSL_REF_STATUS_B_HOLDOVER] 0) :
    Within R s (dropRef t b) := by
  unfold Machine.dropRef
  exact ((h.withPathRefChanged hp).setHoldover hk)

theorem Within.takeRefs (h : Within R s t) (hp : R.Allows [.path .refChanged])
    (hk : R.OpenAt [F.HSL_REF_STATUS_A_HOLDOVER, F.HSL_REF_STATUS_A_REF, F.HSL_REF_STATUS_B_HOLDOVER, F.HSL_REF_STATUS_B_REF] 0) :
    Within R s (takeRefs t) := by
  unfold Machine.takeRefs
  exact (h.foldl fun _ _ _ h4 => (Within.ite (h4.takeRef hp hk) ((h4.setHostRef (hk.mono (by decide))).dropRef hp
      (hk.mono (by decide)))))

theorem Within.clkModeChange (h : Within R s t) (hp : R.Allows clkModeChangePieces)
    (hk16 : R.Opens ([F.HSL_ALIGN_STATUS_LOCKED, F.HSL_STATUS_CTLE_CODE, F.HSL_STATUS_LOL, F.HSL_STATUS_TRAINED,
    F.HSL_STATUS_TRAINING] ++ hostEqFields ++ hostTxFields) 16) (hk : R.OpenAt
    [F.HSL_REF_STATUS_A_HOLDOVER, F.HSL_REF_STATUS_A_LOCK, F.HSL_REF_STATUS_A_REF, F.HSL_REF_STATUS_B_HOLDOVER,
    F.HSL_REF_STATUS_B_LOCK, F.HSL_REF_STATUS_B_REF, F.HSL_REF_STATUS_HFCKO0_ON, F.HSL_REF_STATUS_HFCKO1_ON] 0)
    (hk8 : R.Opens ([F.LRX_CTLE_STATUS_CODE, F.LRX_STATUS_CTLE_SEARCH, F.LRX_STATUS_LOL, F.LTX_STATUS_SEALED,
    F.LTX_XA_STATUS_REASON, F.LTX_XA_STATUS_STATE] ++ eqTapFields ++ eqStateFields ++ lineTxFields) 8)
    (hka : ∀ i, R.OpenAt ([F.PCS_ALIGN_STATUS_RX_DESKEWED, F.PCS_ALIGN_STATUS_TX_ALIGNED, F.PCS_LINK_STATUS_LOST,
    F.PCS_LINK_STATUS_PROBED, F.PCS_LINK_STATUS_REASON, F.PCS_LINK_STATUS_STATE, F.PCS_LINK_TIME_RESTARTS] ++ alignFields ++
    rmFields) i) :
    Within R s (clkModeChange t) := by
  unfold Machine.clkModeChange
  extract_lets +onlyGivenNames s0 s1 _ s2
  have hs0 : Within R s s0 := (h.foldl fun _ _ m3 h4 => (h4.trainEnd hp.mono (hk16.at (List.mem_range.1 m3) (by decide))))
  clear_value s0
  have hs1 : Within R s s1 := (hs0.foldl fun _ _ _ h8 => (h8.setPllPair hp.mono))
  clear_value s1
  have hs2 : Within R s s2 := ((((hs1.withPathTxFollowRxFollowModeChange hp.mono).takeRefs hp.mono (hk.mono (by decide))).pllShow
      (hk.mono (by decide))).hfckoFollow (hk.mono (by decide)))
  clear_value s2
  exact (hs2.foldl fun _ _ _ h12 => (h12.lolRises hp.mono hk8 (hk16.mono (by decide)) hka))

theorem Within.gridRestart {l : LaneId} (h : Within R s t) (hp : R.Allows
    [.lanes .lineRx, .lanes .hostRx, .lanes .lineOut, .lanes .hostOut]) :
    Within R s (gridRestart t l) := by
  unfold Machine.gridRestart
  exact ((h.setRxRec hp.mono).setTxRec hp.mono)

theorem Within.lanesPower {s' : State} (h : Within R s t) (hp : R.Allows lanesPowerPieces)
    (hk8 : R.Opens ([F.ASD_LEVEL_REF, F.ASD_STATUS_RX_BUSY, F.ASD_STATUS_RX_LOAD, F.ASD_STATUS_TX_BUSY, F.ASD_STATUS_TX_LOAD,
    F.ASD_STATUS_UP, F.ASD_TABLE_RX_k_TABLE, F.ASD_TABLE_TX_k_TABLE, F.LEQ_XA_GATHER_STATE, F.LRX_CTLE_STATUS_CODE,
    F.LRX_CTLE_STATUS_METRIC, F.LRX_SLICE_STATUS_NOSPARE, F.LRX_SLICE_STATUS_SWAP_COUNT, F.LRX_SLICE_STATUS_UNDERSTUDY,
    F.LRX_SLICE_STATUS_WINGS, F.LRX_SPOT_STATUS_STATE, F.LRX_STATUS_CTLE_SEARCH, F.LRX_STATUS_LOL, F.LRX_STATUS_LOS,
    F.LRX_STATUS_LOS_ENV, F.LRX_STATUS_LOS_RMS, F.LRX_TR_STATUS_FREQ, F.LRX_TR_STATUS_PI_CODE, F.LRX_VGA_STATUS_AT_LIMIT,
    F.LRX_VGA_STATUS_CODE, F.LRX_VGA_STATUS_DEFERRED, F.LTX_STATUS_SEALED, F.LTX_XA_STATUS_REASON, F.LTX_XA_STATUS_STATE] ++
    eqTapFields ++ eqStateFields ++ sliceFailedFields ++ lineTxFields) 8)
    (hk16 : R.Opens ([F.HSL_ALIGN_STATUS_LOCKED, F.HSL_SLICE_FAILED_FAILED, F.HSL_SLICE_STATUS_FAILED_32,
    F.HSL_SLICE_STATUS_NOSPARE, F.HSL_SLICE_STATUS_SWAP_COUNT, F.HSL_SLICE_STATUS_UNDERSTUDY, F.HSL_SLICE_STATUS_WINGS,
    F.HSL_STATUS_CTLE_CODE, F.HSL_STATUS_LOL, F.HSL_STATUS_LOS, F.HSL_STATUS_PI_CODE, F.HSL_STATUS_TRAINED,
    F.HSL_STATUS_TRAINING, F.HSL_STATUS_VGA_CODE] ++ hostEqFields ++ hostTxFields) 16)
    (hk : R.OpenAt [F.CAL_STATE_HANDLE, F.CAL_STATE_TARGETS] 0) (hka : ∀ i, R.OpenAt
    ([F.PCS_ALIGN_STATUS_RX_DESKEWED, F.PCS_ALIGN_STATUS_TX_ALIGNED, F.PCS_LINK_STATUS_LOST, F.PCS_LINK_STATUS_PROBED,
    F.PCS_LINK_STATUS_REASON, F.PCS_LINK_STATUS_STATE, F.PCS_LINK_TIME_RESTARTS] ++ alignFields ++ rmFields) i)
    (hcal : ∀ i, R.OpenAt calShown i) :
    Within R s (lanesPower s' t) := by
  unfold Machine.lanesPower
  exact ((h.foldl fun _ _ _ h4 => ((h4.laneLeaves hp.mono (hk8.mono (by decide))).lanePowerDown hp.mono (hk8.mono (by decide))
      hk16 hk (fun i => (hka i).mono (by decide)) hcal)).foldl fun _ _ _ h8 =>
      (h8.lanePowerUp hp.mono (hk8.mono (by decide)) (hk16.mono (by decide)) hka hcal))

theorem Within.regionsPower {s' : State} (h : Within R s t) (hp : R.Allows [.time .linePll, .time .hostPll, .path .refChanged])
    (hk : R.OpenAt [F.HSL_REF_STATUS_A_HOLDOVER, F.HSL_REF_STATUS_A_LOCK, F.HSL_REF_STATUS_A_REF, F.HSL_REF_STATUS_B_HOLDOVER,
    F.HSL_REF_STATUS_B_LOCK, F.HSL_REF_STATUS_B_REF, F.HSL_REF_STATUS_HFCKO0_ON, F.HSL_REF_STATUS_HFCKO1_ON] 0) :
    Within R s (regionsPower s' t) := by
  unfold Machine.regionsPower
  refine Within.ite ?_ ?_
  · exact h
  · extract_lets +onlyGivenNames u1 u2
    have hu1 : Within R s u1 := (h.foldl fun _ _ _ h4 => (Within.ite h4 (h4.setPllPair hp.mono)))
    have hu2 : Within R s u2 := (hu1.foldl fun _ _ _ h8 => (Within.ite h8
        (Within.ite (h8.takeRef hp.mono (hk.mono (by decide))) (h8.dropRef hp.mono (hk.mono (by decide))))))
    exact ((hu2.pllShow (hk.mono (by decide))).hfckoFollow (hk.mono (by decide)))

theorem Within.periodShow {p : ℕ} (h : Within R s t) (hk : R.OpenAt [F.PCS_ALIGN_STATUS_PERIOD] p) :
    Within R s (periodShow t p) := by
  unfold Machine.periodShow
  exact (h.wr hk)

theorem Within.setFollow {p : ℕ} {rx : Bool} {x : Option ℕ} (h : Within R s t) (hp : R.Allows [.path .txFollow, .path .rxFollow])
    :
    Within R s (setFollow t p rx x) := by
  unfold Machine.setFollow
  exact (Within.ite (h.withPathRxFollow hp.mono) (h.withPathTxFollow hp.mono))

theorem Within.clkSelGo {s' : State} {p : ℕ} (h : Within R s t) (hp : R.Allows [.path .txFollow, .path .rxFollow]) :
    Within R s (clkSelGo s' t p) := by
  unfold Machine.clkSelGo
  extract_lets +onlyGivenNames u1
  have hu1 : Within R s u1 := (Within.ite (h.setFollow hp) h)
  exact (Within.ite (hu1.setFollow hp) hu1)

theorem Within.mapLearnedRefresh {p : ℕ} (h : Within R s t) (hk : R.OpenAt [F.PCS_LINK_STATUS_MAP_LEARNED] p) :
    Within R s (mapLearnedRefresh t p) := by
  unfold Machine.mapLearnedRefresh
  exact (h.wrB hk)

theorem Within.useMap {p : ℕ} {phys : ℕ} {inv : ℕ} (h : Within R s t) (hp : R.Allows [.lanes .lock])
    (hk : R.OpenAt ([F.PCS_LINK_STATUS_MAP_LEARNED, F.PCS_RX_MAP_USE_INV, F.PCS_RX_MAP_USE_PHYS] ++ alignFields) p)
    (hka : ∀ i, R.OpenAt alignFields i) :
    Within R s (useMap t p phys inv) := by
  unfold Machine.useMap
  extract_lets +onlyGivenNames xs oldInv s1 s2
  have hs1 : Within R s s1 := ((h.wr hk).wr hk)
  have hs2 : Within R s s2 := (hs1.foldl fun _ _ _ h4 => (Within.ite h4 (h4.lockSearch hp hka)))
  exact ((hs2.lockShow (hk.mono (by decide))).mapLearnedRefresh (hk.mono (by decide)))

theorem Within.mapGo {s' : State} {p : ℕ} (h : Within R s t) (hp : R.Allows [.lanes .lock])
    (hk : R.OpenAt ([F.PCS_LINK_STATUS_MAP_LEARNED, F.PCS_RX_MAP_USE_INV, F.PCS_RX_MAP_USE_PHYS] ++ alignFields) p)
    (hka : ∀ i, R.OpenAt alignFields i) :
    Within R s (mapGo s' t p) := by
  unfold Machine.mapGo
  exact (Within.ite (h.useMap hp hk hka) ((h.lockShow (hk.mono (by decide))).mapLearnedRefresh (hk.mono (by decide))))

theorem Within.sdRestart {s' : State} {p : ℕ} (h : Within R s t) (hp : R.Allows [.path .tx, .path .rx]) :
    Within R s (sdRestart s' t p) := by
  unfold Machine.sdRestart
  exact (Within.ite (h.foldl fun _ _ _ h4 => (h4.setPortPath hp)) h)

theorem Within.superRestart {s' : State} {p : ℕ} (h : Within R s t) (hp : R.Allows
    [.path .superRx, .path .superTx, .path .innerTx]) :
    Within R s (superRestart s' t p) := by
  unfold Machine.superRestart
  exact (Within.ite (h.withPathSuperRxSuperTxInnerTx hp) h)

theorem Within.dropHeld {p : ℕ} (h : Within R s t) (hp : R.Allows [.time .held]) :
    Within R s (dropHeld t p) := by
  unfold Machine.dropHeld
  exact (h.withTimeHeld hp)

theorem Within.groupsForget {p : ℕ} (h : Within R s t) (hp : R.Allows [.path .tx, .path .rx]) :
    Within R s (groupsForget t p) := by
  unfold Machine.groupsForget
  exact (h.foldl fun _ _ _ h4 => (h4.setPortPath hp))

theorem Within.restartClocks {p : ℕ} {tx : ShowClock} {rx : ShowClock} (h : Within R s t)
    (hp : R.Allows [.time .tx, .time .rx, .time .paired]) :
    Within R s (restartClocks t p tx rx) := by
  unfold Machine.restartClocks
  exact (((h.setShowClock hp.mono).setShowClock hp.mono).setPaired hp.mono)

theorem Within.enqueue {n : ℕ} {o : AsideOut} (h : Within R s t) (hp : R.Allows [.aside .lanes]) :
    Within R s (enqueue t n o) := by
  unfold Machine.enqueue
  exact (h.setAside hp)

theorem Within.enqueueOnce {n : ℕ} {o : AsideOut} (h : Within R s t) (hp : R.Allows [.aside .lanes]) :
    Within R s (enqueueOnce t n o) := by
  unfold Machine.enqueueOnce
  exact (Within.ite h (h.enqueue hp))

theorem Within.challenge {n : ℕ} (h : Within R s t) (hp : R.Allows [.aside .lanes]) (hk : R.OpenAt [F.ASD_STATUS_AUTH_STATE] n) :
    Within R s (challenge t n) := by
  unfold Machine.challenge
  extract_lets +onlyGivenNames s1
  have hs1 : Within R s s1 := (Within.ite h (h.wr hk))
  exact (hs1.enqueueOnce hp)

theorem Within.challengeRestart {n : ℕ} (h : Within R s t) (hp : R.Allows [.aside .lanes])
    (hk : R.OpenAt [F.ASD_STATUS_AUTH_STATE] n) :
    Within R s (challengeRestart t n) := by
  unfold Machine.challengeRestart
  exact (Within.ite (h.challenge hp hk) h)

theorem Within.portClocks {s' : State} {p : ℕ} (h : Within R s t) (hp : R.Allows
    [.time .tx, .time .rx, .time .paired, .time .held, .obs .buckets, .obs .contexts, .obs .flowFull, .obs .shifts, .path .tx,
    .path .rx, .aside .lanes]) (hk8 : R.Opens [F.ASD_STATUS_AUTH_STATE] 8) :
    Within R s (portClocks s' t p) := by
  unfold Machine.portClocks
  refine Within.ite ?_ ?_
  · split
    · exact (((h.restartClocks hp.mono).groupsForget hp.mono).dropHeld hp.mono)
    · extract_lets +onlyGivenNames u1 u2
      have hu1 : Within R s u1 := (((h.restartClocks hp.mono).groupsForget hp.mono).flowFlushPort hp.mono)
      have hu2 : Within R s u2 := (Within.ite (hu1.dropHeld hp.mono) hu1)
      exact (hu2.foldl fun _ _ m3 h4 => (h4.challengeRestart hp.mono (hk8.at (lt_of_mem_portLines m3) (by decide))))
  · exact h

theorem Within.linkBackoff {p : ℕ} {reason : ℕ} (h : Within R s t) (hp : R.Allows
    [.time .tx, .time .rx, .time .paired, .time .cues, .lanes .lineFront, .lanes .hostFront, .lanes .lineEq, .lanes .hostEq,
    .lanes .lineOut, .lanes .hostOut, .lanes .lock, .lanes .xa, .link, .path .tx, .path .rx, .cal .skewLive])
    (hk : R.OpenAt ([F.PCS_ALIGN_STATUS_RX_DESKEWED, F.PCS_ALIGN_STATUS_TX_ALIGNED, F.PCS_LINK_STATUS_BACKOFF,
    F.PCS_LINK_STATUS_LOST, F.PCS_LINK_STATUS_PROBED, F.PCS_LINK_STATUS_REASON, F.PCS_LINK_STATUS_STATE,
    F.PCS_LINK_TIME_RESTARTS] ++ rmFields) p) (hk8 : R.Opens ([F.LRX_CTLE_STATUS_CODE, F.LRX_STATUS_CTLE_SEARCH,
    F.LTX_STATUS_SEALED, F.LTX_XA_STATUS_REASON, F.LTX_XA_STATUS_STATE] ++ eqTapFields ++ eqStateFields ++ lineTxFields) 8)
    (hka : ∀ i, R.OpenAt alignFields i) (hk16 : R.Opens ([F.HSL_ALIGN_STATUS_LOCKED, F.HSL_STATUS_CTLE_CODE] ++ hostEqFields ++
    hostTxFields) 16) :
    Within R s (linkBackoff t p reason) := by
  unfold Machine.linkBackoff
  exact ((h.wr hk).linkGo hp (hk.mono (by decide)) hk8 hka hk16)

theorem Within.alignEnd {p : ℕ} {deskew : Bool} (h : Within R s t) (hp : R.Allows
    [.time .tx, .time .rx, .time .paired, .time .cues, .lanes .lineFront, .lanes .hostFront, .lanes .lineEq, .lanes .hostEq,
    .lanes .lineOut, .lanes .hostOut, .lanes .lock, .lanes .xa, .link, .path .tx, .path .rx, .cal .skewLive])
    (hk : R.OpenAt ([F.PCS_ALIGN_STATUS_RX_DESKEWED, F.PCS_ALIGN_STATUS_TX_ALIGNED, F.PCS_LINK_STATUS_BACKOFF,
    F.PCS_LINK_STATUS_LOST, F.PCS_LINK_STATUS_PROBED, F.PCS_LINK_STATUS_REASON, F.PCS_LINK_STATUS_STATE,
    F.PCS_LINK_TIME_RESTARTS] ++ rmFields) p) (hk8 : R.Opens ([F.LRX_CTLE_STATUS_CODE, F.LRX_STATUS_CTLE_SEARCH,
    F.LTX_STATUS_SEALED, F.LTX_XA_STATUS_REASON, F.LTX_XA_STATUS_STATE] ++ eqTapFields ++ eqStateFields ++ lineTxFields) 8)
    (hka : ∀ i, R.OpenAt alignFields i) (hk16 : R.Opens ([F.HSL_ALIGN_STATUS_LOCKED, F.HSL_STATUS_CTLE_CODE] ++ hostEqFields ++
    hostTxFields) 16) :
    Within R s (alignEnd t p deskew) := by
  unfold Machine.alignEnd
  exact (Within.ite (h.linkBackoff hp hk hk8 hka hk16) (Within.ite (h.linkBackoff hp hk hk8 hka hk16)
      (h.linkBackoff hp hk hk8 hka hk16)))

theorem Within.probeLocked {p : ℕ} (h : Within R s t) (hp : R.Allows [.time .tx, .time .rx, .time .paired, .time .cues,
    .lanes .lineFront, .lanes .hostFront, .lanes .lineEq, .lanes .hostEq, .lanes .lineOut, .lanes .hostOut, .lanes .lock,
    .lanes .xa, .link, .path .tx, .path .rx, .cal .skewLive]) (hk : R.OpenAt
    ([F.PCS_ALIGN_STATUS_RX_DESKEWED, F.PCS_ALIGN_STATUS_TX_ALIGNED, F.PCS_LINK_STATUS_BACKOFF, F.PCS_LINK_STATUS_LOST,
    F.PCS_LINK_STATUS_PROBED, F.PCS_LINK_STATUS_REASON, F.PCS_LINK_STATUS_STATE, F.PCS_LINK_TIME_RESTARTS] ++ rmFields) p)
    (hk8 : R.Opens ([F.LRX_CTLE_STATUS_CODE, F.LRX_STATUS_CTLE_SEARCH, F.LTX_STATUS_SEALED, F.LTX_XA_STATUS_REASON,
    F.LTX_XA_STATUS_STATE] ++ eqTapFields ++ eqStateFields ++ lineTxFields) 8) (hka : ∀ i, R.OpenAt alignFields i)
    (hk16 : R.Opens ([F.HSL_ALIGN_STATUS_LOCKED, F.HSL_STATUS_CTLE_CODE] ++ hostEqFields ++ hostTxFields) 16) :
    Within R s (probeLocked t p) := by
  unfold Machine.probeLocked
  exact (Within.ite (h.alignEnd hp hk hk8 hka hk16) h)

theorem Within.recordUpTime {p : ℕ} (h : Within R s t) (hk : R.OpenAt [F.PCS_LINK_TIME_UP_TIME] p) :
    Within R s (recordUpTime t p) := by
  unfold Machine.recordUpTime
  exact (h.wr hk)

theorem Within.groupStart {p : ℕ} {d : Dir} (h : Within R s t) (hp : R.Allows [.path .tx, .path .rx]) :
    Within R s (groupStart t p d) := by
  unfold Machine.groupStart
  exact (h.setPortPath hp)

theorem Within.deskewApply {p : ℕ} (h : Within R s t) (hp : R.Allows [.lanes .lock, .path .superRx, .path .lineAt])
    (hk : R.OpenAt alignFields p) :
    Within R s (deskewApply t p) := by
  unfold Machine.deskewApply
  extract_lets +onlyGivenNames s1
  have hs1 : Within R s s1 := (h.foldl fun _ _ _ h4 => ((h4.setLock hp.mono).setLineAt hp.mono))
  exact ((hs1.withPathSuperRx hp.mono).lockShow hk)

theorem Within.alignTest {fail : State → Bool → State} {p : ℕ} (h : Within R s t) (hp : R.Allows alignTestPieces)
    (hk : R.OpenAt ([F.PCS_ALIGN_STATUS_RX_DESKEWED, F.PCS_ALIGN_STATUS_TX_ALIGNED, F.PCS_LINK_STATUS_LOST,
    F.PCS_LINK_STATUS_PROBED, F.PCS_LINK_STATUS_REASON, F.PCS_LINK_STATUS_STATE, F.PCS_LINK_TIME_RESTARTS,
    F.PCS_LINK_TIME_UP_TIME] ++ alignFields ++ rmFields) p) (hk8 : R.Opens
    ([F.LRX_CTLE_STATUS_CODE, F.LRX_STATUS_CTLE_SEARCH, F.LTX_STATUS_SEALED, F.LTX_XA_STATUS_REASON, F.LTX_XA_STATUS_STATE] ++
    eqTapFields ++ eqStateFields ++ lineTxFields) 8) (hka : ∀ i, R.OpenAt alignFields i)
    (hk16 : R.Opens ([F.HSL_ALIGN_STATUS_LOCKED, F.HSL_STATUS_CTLE_CODE] ++ hostEqFields ++ hostTxFields) 16)
    (hfail : ∀ u, ∀ y0, Within R s u → Within R s (fail u y0)) :
    Within R s (alignTest fail t p) := by
  unfold Machine.alignTest
  exact (Within.ite (Within.ite (hfail _ _ h) (Within.ite (((((h.deskewApply hp.mono (hk.mono (by decide))).groupStart
      hp.mono).setRxAligned hp.mono (hk.mono (by decide))).linkGo hp.mono (hk.mono (by decide)) hk8 hka hk16).recordUpTime
      (hk.mono (by decide))) (hfail _ _ h))) h)

theorem Within.probeJudge {p : ℕ} (h : Within R s t) (hp : R.Allows alignTestPieces)
    (hk : R.OpenAt ([F.PCS_ALIGN_STATUS_RX_DESKEWED, F.PCS_ALIGN_STATUS_TX_ALIGNED, F.PCS_LINK_STATUS_BACKOFF,
    F.PCS_LINK_STATUS_LOST, F.PCS_LINK_STATUS_MAP_LEARNED, F.PCS_LINK_STATUS_PROBED, F.PCS_LINK_STATUS_REASON,
    F.PCS_LINK_STATUS_STATE, F.PCS_LINK_TIME_RESTARTS, F.PCS_LINK_TIME_UP_TIME, F.PCS_RX_MAP_USE_INV, F.PCS_RX_MAP_USE_PHYS] ++
    alignFields ++ rmFields) p) (hk8 : R.Opens ([F.LRX_CTLE_STATUS_CODE, F.LRX_STATUS_CTLE_SEARCH, F.LTX_STATUS_SEALED,
    F.LTX_XA_STATUS_REASON, F.LTX_XA_STATUS_STATE] ++ eqTapFields ++ eqStateFields ++ lineTxFields) 8)
    (hka : ∀ i, R.OpenAt alignFields i) (hk16 : R.Opens ([F.HSL_ALIGN_STATUS_LOCKED, F.HSL_STATUS_CTLE_CODE] ++ hostEqFields ++
    hostTxFields) 16) :
    Within R s (probeJudge t p) := by
  unfold Machine.probeJudge
  extract_lets +onlyGivenNames w ids
  refine Within.ite ?_ ?_
  · refine Within.ite ?_ ?_
    · extract_lets +onlyGivenNames c
      refine Within.ite ?_ ?_
      · exact (h.linkBackoff hp.mono (hk.mono (by decide)) hk8 hka hk16)
      · extract_lets +onlyGivenNames s1
        have hs1 : Within R s s1 := (h.useMap hp.mono (hk.mono (by decide)) hka)
        exact ((hs1.raiseEvent.linkGo hp.mono (hk.mono (by decide)) hk8 hka hk16).alignTest hp (hk.mono (by decide)) hk8 hka hk16
            (fun _ _ h1 => (h1.alignEnd hp.mono (hk.mono (by decide)) hk8 hka hk16)))
    · exact (h.linkBackoff hp.mono (hk.mono (by decide)) hk8 hka hk16)
  · exact h

theorem Within.alignFail {p : ℕ} {deskew : Bool} (h : Within R s t) (hp : R.Allows alignTestPieces)
    (hk : R.OpenAt ([F.PCS_ALIGN_STATUS_RX_DESKEWED, F.PCS_ALIGN_STATUS_TX_ALIGNED, F.PCS_LINK_STATUS_BACKOFF,
    F.PCS_LINK_STATUS_LOST, F.PCS_LINK_STATUS_MAP_LEARNED, F.PCS_LINK_STATUS_PROBED, F.PCS_LINK_STATUS_REASON,
    F.PCS_LINK_STATUS_STATE, F.PCS_LINK_TIME_RESTARTS, F.PCS_LINK_TIME_UP_TIME, F.PCS_RX_MAP_USE_INV, F.PCS_RX_MAP_USE_PHYS] ++
    alignFields ++ rmFields) p) (hk8 : R.Opens ([F.LRX_CTLE_STATUS_CODE, F.LRX_STATUS_CTLE_SEARCH, F.LTX_STATUS_SEALED,
    F.LTX_XA_STATUS_REASON, F.LTX_XA_STATUS_STATE] ++ eqTapFields ++ eqStateFields ++ lineTxFields) 8)
    (hka : ∀ i, R.OpenAt alignFields i) (hk16 : R.Opens ([F.HSL_ALIGN_STATUS_LOCKED, F.HSL_STATUS_CTLE_CODE] ++ hostEqFields ++
    hostTxFields) 16) :
    Within R s (alignFail t p deskew) := by
  unfold Machine.alignFail
  exact (Within.ite ((h.linkGo hp.mono (hk.mono (by decide)) hk8 hka hk16).probeJudge hp hk hk8 hka hk16)
      (h.alignEnd hp.mono (hk.mono (by decide)) hk8 hka hk16))

theorem Within.alignJudge {p : ℕ} (h : Within R s t) (hp : R.Allows alignTestPieces)
    (hk : R.OpenAt ([F.PCS_ALIGN_STATUS_RX_DESKEWED, F.PCS_ALIGN_STATUS_TX_ALIGNED, F.PCS_LINK_STATUS_BACKOFF,
    F.PCS_LINK_STATUS_LOST, F.PCS_LINK_STATUS_MAP_LEARNED, F.PCS_LINK_STATUS_PROBED, F.PCS_LINK_STATUS_REASON,
    F.PCS_LINK_STATUS_STATE, F.PCS_LINK_TIME_RESTARTS, F.PCS_LINK_TIME_UP_TIME, F.PCS_RX_MAP_USE_INV, F.PCS_RX_MAP_USE_PHYS] ++
    alignFields ++ rmFields) p) (hk8 : R.Opens ([F.LRX_CTLE_STATUS_CODE, F.LRX_STATUS_CTLE_SEARCH, F.LTX_STATUS_SEALED,
    F.LTX_XA_STATUS_REASON, F.LTX_XA_STATUS_STATE] ++ eqTapFields ++ eqStateFields ++ lineTxFields) 8)
    (hka : ∀ i, R.OpenAt alignFields i) (hk16 : R.Opens ([F.HSL_ALIGN_STATUS_LOCKED, F.HSL_STATUS_CTLE_CODE] ++ hostEqFields ++
    hostTxFields) 16) :
    Within R s (alignJudge t p) := by
  unfold Machine.alignJudge
  exact ((h.alignTest hp (hk.mono (by decide)) hk8 hka hk16 (fun _ _ h1 => (h1.alignFail hp hk hk8 hka hk16))).probeJudge hp hk
      hk8 hka hk16)

theorem Within.linkFollow {p : ℕ} (h : Within R s t) (hp : R.Allows alignTestPieces)
    (hk : R.OpenAt ([F.PCS_ALIGN_STATUS_RX_DESKEWED, F.PCS_ALIGN_STATUS_TX_ALIGNED, F.PCS_LINK_STATUS_BACKOFF,
    F.PCS_LINK_STATUS_LOST, F.PCS_LINK_STATUS_MAP_LEARNED, F.PCS_LINK_STATUS_PROBED, F.PCS_LINK_STATUS_REASON,
    F.PCS_LINK_STATUS_STATE, F.PCS_LINK_TIME_RESTARTS, F.PCS_LINK_TIME_UP_TIME, F.PCS_RX_MAP_USE_INV, F.PCS_RX_MAP_USE_PHYS] ++
    alignFields ++ rmFields) p) (hk8 : R.Opens ([F.LRX_CTLE_STATUS_CODE, F.LRX_STATUS_CTLE_SEARCH, F.LTX_STATUS_SEALED,
    F.LTX_XA_STATUS_REASON, F.LTX_XA_STATUS_STATE] ++ eqTapFields ++ eqStateFields ++ lineTxFields) 8)
    (hka : ∀ i, R.OpenAt alignFields i) (hk16 : R.Opens ([F.HSL_ALIGN_STATUS_LOCKED, F.HSL_STATUS_CTLE_CODE] ++ hostEqFields ++
    hostTxFields) 16) :
    Within R s (linkFollow t p) := by
  unfold Machine.linkFollow
  extract_lets +onlyGivenNames st
  refine Within.ite ?_ ?_
  · extract_lets +onlyGivenNames s1
    have hs1 : Within R s s1 := (h.wr hk)
    exact (Within.ite hs1 (hs1.linkGo hp.mono (hk.mono (by decide)) hk8 hka hk16))
  · exact (Within.ite ((h.setLink hp.mono).linkGo hp.mono (hk.mono (by decide)) hk8 hka hk16)
      (Within.ite (Within.ite ((h.linkGo hp.mono (hk.mono (by decide)) hk8 hka hk16).alignJudge hp hk hk8 hka hk16)
      (h.linkGo hp.mono (hk.mono (by decide)) hk8 hka hk16)) (Within.ite (h.linkGo hp.mono (hk.mono (by decide)) hk8 hka hk16)
      h)))

theorem Within.adminDown {s' : State} {p : ℕ} (h : Within R s t) (hk : R.OpenAt [F.PCS_LINK_STATUS_REASON] p) :
    Within R s (adminDown s' t p) := by
  unfold Machine.adminDown
  exact (Within.ite (h.wr hk) h)

theorem Within.portGo {s' : State} {p : ℕ} (h : Within R s t) (hp : R.Allows portGoPieces)
    (hk : R.OpenAt ([F.PCS_ALIGN_STATUS_PERIOD, F.PCS_ALIGN_STATUS_RX_DESKEWED, F.PCS_ALIGN_STATUS_TX_ALIGNED,
    F.PCS_LINK_STATUS_BACKOFF, F.PCS_LINK_STATUS_LOST, F.PCS_LINK_STATUS_MAP_LEARNED, F.PCS_LINK_STATUS_PROBED,
    F.PCS_LINK_STATUS_REASON, F.PCS_LINK_STATUS_STATE, F.PCS_LINK_TIME_RESTARTS, F.PCS_LINK_TIME_UP_TIME, F.PCS_RX_MAP_USE_INV,
    F.PCS_RX_MAP_USE_PHYS] ++ alignFields ++ rmFields) p) (hk8 : R.Opens
    ([F.ASD_STATUS_AUTH_STATE, F.LRX_CTLE_STATUS_CODE, F.LRX_STATUS_CTLE_SEARCH, F.LTX_STATUS_SEALED, F.LTX_XA_STATUS_REASON,
    F.LTX_XA_STATUS_STATE] ++ eqTapFields ++ eqStateFields ++ lineTxFields) 8) (hka : ∀ i, R.OpenAt alignFields i)
    (hk16 : R.Opens ([F.HSL_ALIGN_STATUS_LOCKED, F.HSL_STATUS_CTLE_CODE] ++ hostEqFields ++ hostTxFields) 16) :
    Within R s (portGo s' t p) := by
  unfold Machine.portGo
  extract_lets +onlyGivenNames u u1
  have hu : Within R s u := (h.periodShow (hk.mono (by decide)))
  have hu1 : Within R s u1 := (((((hu.portClocks hp.mono (hk8.mono (by decide))).superRestart hp.mono).sdRestart hp.mono).mapGo
      hp.mono (hk.mono (by decide)) hka).clkSelGo hp.mono)
  exact (((hu1.adminDown (hk.mono (by decide))).linkFollow hp.mono (hk.mono (by decide)) (hk8.mono (by decide)) hka
      hk16).probeLocked hp.mono (hk.mono (by decide)) (hk8.mono (by decide)) hka hk16)

theorem Within.generatorGo {s' : State} {l : LaneId} (h : Within R s t) (hp : R.Allows [.lanes .lineOut, .lanes .hostOut]) :
    Within R s (generatorGo s' t l) := by
  unfold Machine.generatorGo
  exact (Within.ite (h.setTxRec hp) h)

theorem Within.setSlip {l : LaneId} {v : ℕ} (h : Within R s t) (hp : R.Allows [.path .lineSlip, .path .hostSlip]) :
    Within R s (setSlip t l v) := by
  unfold Machine.setSlip
  split
  · exact (h.withPathLineSlip hp.mono)
  · exact (h.withPathHostSlip hp.mono)

theorem Within.setTpcPos {l : LaneId} {v : ℕ} (h : Within R s t) (hk8 : R.Opens [F.LRX_TPC_STATUS_POS] 8)
    (hk16 : R.Opens [F.HSL_TPC_STATUS_POS] 16) :
    Within R s (setTpcPos t l v) := by
  unfold Machine.setTpcPos
  exact (h.wrL hk8 hk16)

theorem Within.checkerGo {s' : State} {l : LaneId} (h : Within R s t) (hp : R.Allows
    [.lanes .lineRx, .lanes .hostRx, .path .lineSlip, .path .hostSlip]) (hk8 : R.Opens
    [F.LRX_TPC_STATUS_LOCK, F.LRX_TPC_STATUS_POS] 8) (hk16 : R.Opens [F.HSL_TPC_STATUS_LOCK, F.HSL_TPC_STATUS_POS] 16) :
    Within R s (checkerGo s' t l) := by
  unfold Machine.checkerGo
  refine Within.ite ?_ ?_
  · extract_lets +onlyGivenNames u1
    have hu1 : Within R s u1 := (((h.wrL (hk8.mono (by decide)) (hk16.mono (by decide))).setTpcPos (hk8.mono (by decide))
        (hk16.mono (by decide))).setSlip hp.mono)
    exact (hu1.setRxRec hp.mono)
  · exact h

theorem Within.ctleGo {l : LaneId} (h : Within R s t) (hp : R.Allows [.lanes .lineFront, .lanes .hostFront, .lanes .lineEq,
    .lanes .hostEq]) (hk8 : R.Opens ([F.LRX_CTLE_STATUS_CODE, F.LRX_STATUS_CTLE_SEARCH] ++ eqTapFields ++ eqStateFields) 8)
    (hk16 : R.Opens ([F.HSL_STATUS_CTLE_CODE] ++ hostEqFields) 16) :
    Within R s (ctleGo t l) := by
  unfold Machine.ctleGo
  refine Within.ite ?_ ?_
  · extract_lets +onlyGivenNames x u1 u2
    have hu1 : Within R s u1 := ((h.setCtle (hk8.mono (by decide)) (hk16.mono (by decide))).wrLine (hk8.mono (by decide)))
    have hu2 : Within R s u2 := (hu1.setFront hp.mono)
    exact (Within.ite (hu2.eqStart hp.mono (hk8.mono (by decide)) (hk16.mono (by decide))) hu2)
  · exact h

theorem Within.eqDetOn {n : Fin 8} (h : Within R s t) (hp : R.Allows [.lanes .lineEq, .lanes .hostEq])
    (hk8 : R.Opens (eqTapFields ++ eqStateFields) 8) (hk16 : R.Opens hostEqFields 16) :
    Within R s (eqDetOn t n) := by
  unfold Machine.eqDetOn
  exact (h.putEq hp hk8 hk16)

theorem Within.laneGo {s' : State} {l : LaneId} (h : Within R s t) (hp : R.Allows laneGoPieces)
    (hk8 : R.Opens ([F.ASD_LEVEL_REF, F.LRX_CTLE_STATUS_CODE, F.LRX_STATUS_CTLE_SEARCH, F.LRX_STATUS_LOL, F.LRX_STATUS_LOS,
    F.LRX_STATUS_LOS_ENV, F.LRX_STATUS_LOS_RMS, F.LRX_TPC_STATUS_LOCK, F.LRX_TPC_STATUS_POS, F.LTX_STATUS_SEALED,
    F.LTX_XA_STATUS_REASON, F.LTX_XA_STATUS_STATE] ++ eqTapFields ++ eqStateFields ++ lineTxFields) 8)
    (hk16 : R.Opens ([F.HSL_ALIGN_STATUS_LOCKED, F.HSL_STATUS_CTLE_CODE, F.HSL_STATUS_LOL, F.HSL_STATUS_LOS,
    F.HSL_TPC_STATUS_LOCK, F.HSL_TPC_STATUS_POS] ++ hostEqFields ++ hostTxFields) 16)
    (hka : ∀ i, R.OpenAt ([F.PCS_ALIGN_STATUS_RX_DESKEWED, F.PCS_ALIGN_STATUS_TX_ALIGNED, F.PCS_LINK_STATUS_LOST,
    F.PCS_LINK_STATUS_PROBED, F.PCS_LINK_STATUS_REASON, F.PCS_LINK_STATUS_STATE, F.PCS_LINK_TIME_RESTARTS] ++ alignFields ++
    rmFields) i) :
    Within R s (laneGo s' t l) := by
  unfold Machine.laneGo
  extract_lets +onlyGivenNames u1 u2 u3
  have hu1 : Within R s u1 := (((h.ctleGo hp.mono (hk8.mono (by decide)) (hk16.mono (by decide))).checkerGo hp.mono
      (hk8.mono (by decide)) (hk16.mono (by decide))).generatorGo hp.mono)
  have hu2 : Within R s u2 := (Within.ite (hu1.losFollow hp.mono (hk8.mono (by decide)) (hk16.mono (by decide)) hka) hu1)
  have hu3 : Within R s u3 := by
    unfold u3
    split
    · exact (Within.ite (hu2.eqDetOn hp.mono (hk8.mono (by decide)) (hk16.mono (by decide))) hu2)
    · exact hu2
  exact (Within.ite hu3 ((hu3.txFollow hp.mono (hk8.mono (by decide)) (hk16.mono (by decide))).eqRefresh (hk8.mono (by decide))
      (hk16.mono (by decide))))

theorem Within.runningCheck (h : Within R s t) (hk : R.OpenAt [F.LOOP_ENGINE_STATUS_RUNNING] 0) :
    Within R s (runningCheck t) := by
  unfold Machine.runningCheck
  exact (h.wrB hk)

theorem Within.setLostArb {l : ℕ} {lost : Bool} (h : Within R s t) (hk : R.OpenAt [F.LOOP_HIST_FLAGS, F.LOOP_STATUS_LOST_ARB] l) :
    Within R s (setLostArb t l lost) := by
  unfold Machine.setLostArb
  extract_lets +onlyGivenNames s1
  have hs1 : Within R s s1 := (h.wrB hk)
  exact (Within.ite (hs1.setHistory (hk.mono (by decide))) hs1)

theorem Within.levelsFollow {l : ℕ} (h : Within R s t) (hk : R.OpenAt [F.LOOP_HIST_FLAGS, F.LOOP_STATUS_LOST_ARB,
    F.LOOP_STATUS_SLEW] l) :
    Within R s (levelsFollow t l) := by
  unfold Machine.levelsFollow
  exact (Within.ite (h.wr hk) (h.setLostArb (hk.mono (by decide))))

theorem Within.freezeGo {s' : State} {l : ℕ} (h : Within R s t) (hp : R.Allows [.ctl .loops])
    (hk : R.OpenAt [F.LOOP_STATUS_FROZEN] l) :
    Within R s (freezeGo s' t l) := by
  unfold Machine.freezeGo
  extract_lets +onlyGivenNames u1
  have hu1 : Within R s u1 := (Within.ite (h.setLoop hp) h)
  exact (Within.ite hu1 (hu1.wr hk))

theorem Within.loopOff {l : ℕ} (h : Within R s t) (hp : R.Allows [.ctl .loops])
    (hk : R.OpenAt [F.LOOP_STATUS_CLAMP, F.LOOP_STATUS_FROZEN, F.LOOP_STATUS_LOST_ARB, F.LOOP_STATUS_MOVING, F.LOOP_STATUS_SLEW,
    F.LOOP_STATUS_STALE, F.LOOP_STATUS_STATE] l) :
    Within R s (loopOff t l) := by
  unfold Machine.loopOff
  extract_lets +onlyGivenNames u1 u2
  have hu1 : Within R s u1 := ((h.setLoop hp).setLoopState (hk.mono (by decide)))
  have hu2 : Within R s u2 := (((hu1.wr hk).wr hk).wr hk)
  exact (((hu2.wr hk).wr hk).wr hk)

theorem Within.loopModeGo {s' : State} {l : ℕ} (h : Within R s t) (hp : R.Allows [.ctl .loops])
    (hk : R.OpenAt [F.LOOP_STATUS_CLAMP, F.LOOP_STATUS_FROZEN, F.LOOP_STATUS_LOST_ARB, F.LOOP_STATUS_MOVING, F.LOOP_STATUS_SLEW,
    F.LOOP_STATUS_STALE, F.LOOP_STATUS_STATE] l) :
    Within R s (loopModeGo s' t l) := by
  unfold Machine.loopModeGo
  exact (Within.ite h (Within.ite (h.loopOff hp hk) (Within.ite ((h.setLoop hp).setLoopState (hk.mono (by decide)))
      (Within.ite h (Within.ite ((Within.ite (h.setLoop hp) h).setLoopState (hk.mono (by decide)))
      ((h.setLoop hp).setLoopState (hk.mono (by decide))))))))

theorem Within.movingShow {l : ℕ} (h : Within R s t) (hk : R.OpenAt [F.LOOP_STATUS_MOVING] l) :
    Within R s (movingShow t l) := by
  unfold Machine.movingShow
  exact (h.wrB hk)

theorem Within.loopGo {s' : State} {l : ℕ} (h : Within R s t) (hp : R.Allows [.ctl .loops])
    (hk : R.OpenAt [F.LOOP_HIST_FLAGS, F.LOOP_STATUS_CLAMP, F.LOOP_STATUS_FROZEN, F.LOOP_STATUS_LOST_ARB, F.LOOP_STATUS_MOVING,
    F.LOOP_STATUS_SLEW, F.LOOP_STATUS_STALE, F.LOOP_STATUS_STATE] l) :
    Within R s (loopGo s' t l) := by
  unfold Machine.loopGo
  extract_lets +onlyGivenNames u1
  have hu1 : Within R s u1 := (((h.loopModeGo hp (hk.mono (by decide))).freezeGo hp (hk.mono (by decide))).levelsFollow
      (hk.mono (by decide)))
  exact ((Within.ite (hu1.setLoop hp) hu1).movingShow (hk.mono (by decide)))

theorem Within.bdacArrive {c : ℕ} {n : ℕ} (h : Within R s t) (hp : R.Allows [.ctl .bdac])
    (hk : R.OpenAt [F.BDAC_STATUS_c_APPLIED, F.BDAC_STATUS_c_HOLDING] c) :
    Within R s (bdacArrive t c n) := by
  unfold Machine.bdacArrive
  refine Within.ite ?_ ?_
  · exact (h.setBdac hp)
  · extract_lets +onlyGivenNames old s1
    have hs1 : Within R s s1 := (h.wr hk)
    exact (Within.ite (hs1.wr hk) (hs1.setBdac hp))

theorem Within.bdacTake {c : ℕ} {code : ℕ} (h : Within R s t) (hp : R.Allows [.ctl .bdac])
    (hk : R.OpenAt [F.BDAC_CEIL_c_CEIL_HIT, F.BDAC_STATUS_c_APPLIED, F.BDAC_STATUS_c_HOLDING] c) :
    Within R s (bdacTake t c code) := by
  unfold Machine.bdacTake
  extract_lets +onlyGivenNames ch s1 cm
  have hs1 : Within R s s1 := (h.setBdac hp)
  exact ((hs1.bdacArrive hp (hk.mono (by decide))).setCeilHit (hk.mono (by decide)))

theorem Within.bdacRefresh {c : ℕ} (h : Within R s t) (hp : R.Allows [.ctl .bdac])
    (hk : R.OpenAt [F.BDAC_CEIL_c_CEIL_HIT, F.BDAC_STATUS_c_APPLIED, F.BDAC_STATUS_c_HOLDING] c) :
    Within R s (bdacRefresh t c) := by
  unfold Machine.bdacRefresh
  exact (Within.ite (h.bdacTake hp hk) h)

theorem Within.ditherGate {c : ℕ} (h : Within R s t) (hp : R.Allows [.ctl .bdac])
    (hk : R.OpenAt [F.BDAC_CEIL_c_CEIL_HIT, F.BDAC_STATUS_c_APPLIED, F.BDAC_STATUS_c_HOLDING] c) :
    Within R s (ditherGate t c) := by
  unfold Machine.ditherGate
  exact (Within.ite h ((h.setBdac hp).bdacRefresh hp hk))

theorem Within.lockinStops {n : ℕ} (h : Within R s t) (hp : R.Allows [.ctl .sense]) :
    Within R s (lockinStops t n) := by
  unfold Machine.lockinStops
  exact (h.setSense hp)

theorem Within.dgenGo {s' : State} {g : ℕ} (h : Within R s t) (hp : R.Allows [.ctl .gens, .ctl .sense]) :
    Within R s (dgenGo s' t g) := by
  unfold Machine.dgenGo
  exact (Within.ite h ((h.withCtlGens hp.mono).foldl fun _ _ _ h4 => (h4.lockinStops hp.mono)))

theorem Within.bdacGo {s' : State} {c : ℕ} (h : Within R s t) (hp : R.Allows
    [.ctl .bdac, .cal .sets, .cal .inUse, .cal .targets]) (hk : R.OpenAt
    [F.BDAC_CEIL_c_CEIL_HIT, F.BDAC_STATUS_c_APPLIED, F.BDAC_STATUS_c_HOLDING, F.BDAC_STATUS_c_STATE] c)
    (hcal : ∀ i, R.OpenAt calShown i) :
    Within R s (bdacGo s' t c) := by
  unfold Machine.bdacGo
  refine Within.ite ?_ ?_
  · extract_lets +onlyGivenNames u1
    have hu1 : Within R s u1 := ((h.loadCorrections hp.mono hcal).bdacOff hp.mono hk)
    exact ((hu1.setBdac hp.mono).wr hk)
  · exact (Within.ite (h.bdacRefresh hp.mono (hk.mono (by decide))) h)

theorem Within.detectorsGo {s' : State} {n : ℕ} (h : Within R s t) (hp : R.Allows [.ctl .sense]) :
    Within R s (detectorsGo s' t n) := by
  unfold Machine.detectorsGo
  extract_lets +onlyGivenNames ch x0 x1 x2 x3 u1
  have hu1 : Within R s u1 := (h.setSense hp)
  exact (Within.ite (hu1.lockinStops hp) hu1)

theorem Within.senseGo {s' : State} {n : ℕ} (h : Within R s t) (hp : R.Allows
    [.ctl .sense, .cal .repeatSense, .cal .sets, .cal .inUse, .cal .targets])
    (hk : R.OpenAt ([F.SNS_ENV_n_ENV, F.SNS_ENV_n_NOT_SETTLED, F.SNS_PEAK_n_MAX, F.SNS_PEAK_n_MIN, F.SNS_RMS_n_NOT_SETTLED,
    F.SNS_RMS_n_RMS] ++ lockinFields ++ senseFields) n) (hcal : ∀ i, R.OpenAt calShown i) :
    Within R s (senseGo s' t n) := by
  unfold Machine.senseGo
  exact (Within.ite ((h.loadCorrections hp.mono hcal).senseSync hp.mono hk)
      (Within.ite (h.senseSync hp.mono hk) (Within.ite ((h.setSense hp.mono).senseBlank hk)
      (Within.ite (h.detectorsGo hp.mono) h))))

theorem Within.goEffects {s' : State} (h : Within R s t) (hp : R.Allows goEffectsPieces)
    (hk8 : R.Opens ([F.ASD_LEVEL_REF, F.ASD_STATUS_AUTH_STATE, F.ASD_STATUS_RX_BUSY, F.ASD_STATUS_RX_LOAD, F.ASD_STATUS_TX_BUSY,
    F.ASD_STATUS_TX_LOAD, F.ASD_STATUS_UP, F.ASD_TABLE_RX_k_TABLE, F.ASD_TABLE_TX_k_TABLE, F.LEQ_XA_GATHER_STATE,
    F.LRX_CTLE_STATUS_CODE, F.LRX_CTLE_STATUS_METRIC, F.LRX_SLICE_STATUS_NOSPARE, F.LRX_SLICE_STATUS_SWAP_COUNT,
    F.LRX_SLICE_STATUS_UNDERSTUDY, F.LRX_SLICE_STATUS_WINGS, F.LRX_SPOT_STATUS_STATE, F.LRX_STATUS_CTLE_SEARCH, F.LRX_STATUS_LOL,
    F.LRX_STATUS_LOS, F.LRX_STATUS_LOS_ENV, F.LRX_STATUS_LOS_RMS, F.LRX_TPC_STATUS_LOCK, F.LRX_TPC_STATUS_POS,
    F.LRX_TR_STATUS_FREQ, F.LRX_TR_STATUS_PI_CODE, F.LRX_VGA_STATUS_AT_LIMIT, F.LRX_VGA_STATUS_CODE, F.LRX_VGA_STATUS_DEFERRED,
    F.LTX_STATUS_SEALED, F.LTX_XA_STATUS_REASON, F.LTX_XA_STATUS_STATE, F.PCS_ALIGN_STATUS_PERIOD,
    F.PCS_ALIGN_STATUS_RX_DESKEWED, F.PCS_ALIGN_STATUS_TX_ALIGNED, F.PCS_LINK_STATUS_BACKOFF, F.PCS_LINK_STATUS_LOST,
    F.PCS_LINK_STATUS_MAP_LEARNED, F.PCS_LINK_STATUS_PROBED, F.PCS_LINK_STATUS_REASON, F.PCS_LINK_STATUS_STATE,
    F.PCS_LINK_TIME_RESTARTS, F.PCS_LINK_TIME_UP_TIME, F.PCS_RX_MAP_USE_INV, F.PCS_RX_MAP_USE_PHYS] ++ eqTapFields ++ alignFields
    ++ rmFields ++ eqStateFields ++ sliceFailedFields ++ lineTxFields) 8)
    (hk16 : R.Opens ([F.HSL_ALIGN_STATUS_LOCKED, F.HSL_SLICE_FAILED_FAILED, F.HSL_SLICE_STATUS_FAILED_32,
    F.HSL_SLICE_STATUS_NOSPARE, F.HSL_SLICE_STATUS_SWAP_COUNT, F.HSL_SLICE_STATUS_UNDERSTUDY, F.HSL_SLICE_STATUS_WINGS,
    F.HSL_STATUS_CTLE_CODE, F.HSL_STATUS_LOL, F.HSL_STATUS_LOS, F.HSL_STATUS_PI_CODE, F.HSL_STATUS_TRAINED,
    F.HSL_STATUS_TRAINING, F.HSL_STATUS_VGA_CODE, F.HSL_TPC_STATUS_LOCK, F.HSL_TPC_STATUS_POS] ++ hostEqFields ++ hostTxFields)
    16) (hk : R.OpenAt ([F.CAL_STATE_HANDLE, F.CAL_STATE_TARGETS, F.HSL_REF_STATUS_A_HOLDOVER, F.HSL_REF_STATUS_A_LOCK,
    F.HSL_REF_STATUS_A_REF, F.HSL_REF_STATUS_B_HOLDOVER, F.HSL_REF_STATUS_B_LOCK, F.HSL_REF_STATUS_B_REF,
    F.HSL_REF_STATUS_HFCKO0_ON, F.HSL_REF_STATUS_HFCKO1_ON, F.LOOP_ENGINE_STATUS_RUNNING] ++ poolFields) 0)
    (hka : ∀ i, R.OpenAt ([F.PCS_ALIGN_STATUS_RX_DESKEWED, F.PCS_ALIGN_STATUS_TX_ALIGNED, F.PCS_LINK_STATUS_LOST,
    F.PCS_LINK_STATUS_PROBED, F.PCS_LINK_STATUS_REASON, F.PCS_LINK_STATUS_STATE, F.PCS_LINK_TIME_RESTARTS] ++ alignFields ++
    rmFields) i) (hk32 : R.Opens [F.BDAC_CEIL_c_CEIL_HIT, F.BDAC_STATUS_c_APPLIED, F.BDAC_STATUS_c_HOLDING,
    F.BDAC_STATUS_c_STATE, F.LOOP_HIST_FLAGS, F.LOOP_STATUS_CLAMP, F.LOOP_STATUS_FROZEN, F.LOOP_STATUS_LOST_ARB,
    F.LOOP_STATUS_MOVING, F.LOOP_STATUS_SLEW, F.LOOP_STATUS_STALE, F.LOOP_STATUS_STATE] 32)
    (hk24 : R.Opens ([F.SNS_ENV_n_ENV, F.SNS_ENV_n_NOT_SETTLED, F.SNS_PEAK_n_MAX, F.SNS_PEAK_n_MIN, F.SNS_RMS_n_NOT_SETTLED,
    F.SNS_RMS_n_RMS] ++ lockinFields ++ senseFields) 24) (hcal : ∀ i, R.OpenAt calShown i) :
    Within R s (goEffects s' t) := by
  unfold Machine.goEffects
  extract_lets +onlyGivenNames u1 u2 u3 u4 u5 u6 u7 u8 u9
  have hu1 : Within R s u1 := (h.foldl fun _ _ m3 h4 => (h4.asideGo hp.mono (hk8.at (List.mem_range.1 m3) (by decide))
      (hk8.mono (by decide))))
  have hu2 : Within R s u2 := (Within.ite (hu1.clkModeChange hp.mono (hk16.mono (by decide)) (hk.mono (by decide))
      (hk8.mono (by decide)) hka) hu1)
  have hu3 : Within R s u3 := (((hu2.regionsPower hp.mono (hk.mono (by decide))).lanesPower hp.mono (hk8.mono (by decide))
      (hk16.mono (by decide)) (hk.mono (by decide)) hka hcal).foldl fun _ _ _ h8 => (h8.gridRestart hp.mono))
  have hu4 : Within R s u4 := (hu3.foldl fun _ _ m11 h12 => (h12.portGo hp.mono (hk8.at (List.mem_range.1 m11) (by decide))
      (hk8.mono (by decide)) (fun i => (hka i).mono (by decide)) (hk16.mono (by decide))))
  have hu5 : Within R s u5 := (hu4.foldl fun _ _ _ h16 => (h16.laneGo hp.mono (hk8.mono (by decide)) (hk16.mono (by decide)) hka))
  have hu6 : Within R s u6 := ((hu5.foldl fun _ _ m19 h20 => (h20.loopGo hp.mono
      (hk32.at (List.mem_range.1 m19) (by decide)))).runningCheck (hk.mono (by decide)))
  have hu7 : Within R s u7 := (((hu6.foldl fun _ _ m23 h24 => (h24.bdacGo hp.mono (hk32.at (List.mem_range.1 m23) (by decide))
      hcal)).foldl fun _ _ _ h28 => (h28.dgenGo hp.mono)).foldl fun _ _ m31 h32 =>
      (h32.ditherGate hp.mono (hk32.at (List.mem_range.1 m31) (by decide))))
  have hu8 : Within R s u8 := (hu7.foldl fun _ _ m35 h36 => (h36.senseGo hp.mono (hk24.at (List.mem_range.1 m35) (by decide))
      hcal))
  have hu9 : Within R s u9 := (Within.ite (hu8.flowFlush hp.mono) hu8)
  exact (hu9.poolShow (hk.mono (by decide)))

theorem Within.goCount {g : ℕ} {byCue : Bool} {rejected : Bool} (h : Within R s t)
    (hk : R.OpenAt [F.GO_INFO_g_FIRES, F.GO_INFO_g_LAST_CUE, F.GO_INFO_g_REJECTS] g) :
    Within R s (goCount t g byCue rejected) := by
  unfold Machine.goCount
  extract_lets +onlyGivenNames s1
  have hs1 : Within R s s1 := ((h.inc hk).wrB hk)
  exact (Within.ite (hs1.inc hk) hs1)

theorem Within.goStatus {g : ℕ} {code : ℕ} {sub : ℕ} (h : Within R s t) (hk : R.OpenAt
    [F.GO_STATUS_g_CODE, F.GO_STATUS_g_SUBCODE] g) :
    Within R s (goStatus t g code sub) := by
  unfold Machine.goStatus
  exact ((h.wr hk).wr hk)

theorem Within.goFire {reg : ℕ} {cues : List (ℕ × ℕ)} (h : Within R s t) (hp : R.Allows goFirePieces)
    (hk8 : R.Opens ([F.ASD_LEVEL_REF, F.ASD_STATUS_AUTH_STATE, F.ASD_STATUS_RX_BUSY, F.ASD_STATUS_RX_LOAD, F.ASD_STATUS_TX_BUSY,
    F.ASD_STATUS_TX_LOAD, F.ASD_STATUS_UP, F.ASD_TABLE_RX_k_TABLE, F.ASD_TABLE_TX_k_TABLE, F.LEQ_XA_GATHER_STATE,
    F.LRX_CTLE_STATUS_CODE, F.LRX_CTLE_STATUS_METRIC, F.LRX_SLICE_STATUS_NOSPARE, F.LRX_SLICE_STATUS_SWAP_COUNT,
    F.LRX_SLICE_STATUS_UNDERSTUDY, F.LRX_SLICE_STATUS_WINGS, F.LRX_SPOT_STATUS_STATE, F.LRX_STATUS_CTLE_SEARCH, F.LRX_STATUS_LOL,
    F.LRX_STATUS_LOS, F.LRX_STATUS_LOS_ENV, F.LRX_STATUS_LOS_RMS, F.LRX_TPC_STATUS_LOCK, F.LRX_TPC_STATUS_POS,
    F.LRX_TR_STATUS_FREQ, F.LRX_TR_STATUS_PI_CODE, F.LRX_VGA_STATUS_AT_LIMIT, F.LRX_VGA_STATUS_CODE, F.LRX_VGA_STATUS_DEFERRED,
    F.LTX_STATUS_SEALED, F.LTX_XA_STATUS_REASON, F.LTX_XA_STATUS_STATE, F.PCS_ALIGN_STATUS_PERIOD,
    F.PCS_ALIGN_STATUS_RX_DESKEWED, F.PCS_ALIGN_STATUS_TX_ALIGNED, F.PCS_LINK_STATUS_BACKOFF, F.PCS_LINK_STATUS_LOST,
    F.PCS_LINK_STATUS_MAP_LEARNED, F.PCS_LINK_STATUS_PROBED, F.PCS_LINK_STATUS_REASON, F.PCS_LINK_STATUS_STATE,
    F.PCS_LINK_TIME_RESTARTS, F.PCS_LINK_TIME_UP_TIME, F.PCS_RX_MAP_USE_INV, F.PCS_RX_MAP_USE_PHYS] ++ eqTapFields ++ alignFields
    ++ rmFields ++ eqStateFields ++ sliceFailedFields ++ lineTxFields) 8)
    (hk16 : R.Opens ([F.GO_FAIL_ADDR_g_ADDR, F.GO_INFO_g_FIRES, F.GO_INFO_g_LAST_CUE, F.GO_INFO_g_REJECTS, F.GO_STATUS_g_CODE,
    F.GO_STATUS_g_SUBCODE, F.HSL_ALIGN_STATUS_LOCKED, F.HSL_SLICE_FAILED_FAILED, F.HSL_SLICE_STATUS_FAILED_32,
    F.HSL_SLICE_STATUS_NOSPARE, F.HSL_SLICE_STATUS_SWAP_COUNT, F.HSL_SLICE_STATUS_UNDERSTUDY, F.HSL_SLICE_STATUS_WINGS,
    F.HSL_STATUS_CTLE_CODE, F.HSL_STATUS_LOL, F.HSL_STATUS_LOS, F.HSL_STATUS_PI_CODE, F.HSL_STATUS_TRAINED,
    F.HSL_STATUS_TRAINING, F.HSL_STATUS_VGA_CODE, F.HSL_TPC_STATUS_LOCK, F.HSL_TPC_STATUS_POS] ++ hostEqFields ++ hostTxFields)
    16) (hk : R.OpenAt ([F.CAL_STATE_HANDLE, F.CAL_STATE_TARGETS, F.HSL_REF_STATUS_A_HOLDOVER, F.HSL_REF_STATUS_A_LOCK,
    F.HSL_REF_STATUS_A_REF, F.HSL_REF_STATUS_B_HOLDOVER, F.HSL_REF_STATUS_B_LOCK, F.HSL_REF_STATUS_B_REF,
    F.HSL_REF_STATUS_HFCKO0_ON, F.HSL_REF_STATUS_HFCKO1_ON, F.LOOP_ENGINE_STATUS_RUNNING] ++ poolFields) 0)
    (hka : ∀ i, R.OpenAt ([F.PCS_ALIGN_STATUS_RX_DESKEWED, F.PCS_ALIGN_STATUS_TX_ALIGNED, F.PCS_LINK_STATUS_LOST,
    F.PCS_LINK_STATUS_PROBED, F.PCS_LINK_STATUS_REASON, F.PCS_LINK_STATUS_STATE, F.PCS_LINK_TIME_RESTARTS] ++ alignFields ++
    rmFields) i) (hk32 : R.Opens [F.BDAC_CEIL_c_CEIL_HIT, F.BDAC_STATUS_c_APPLIED, F.BDAC_STATUS_c_HOLDING,
    F.BDAC_STATUS_c_STATE, F.LOOP_HIST_FLAGS, F.LOOP_STATUS_CLAMP, F.LOOP_STATUS_FROZEN, F.LOOP_STATUS_LOST_ARB,
    F.LOOP_STATUS_MOVING, F.LOOP_STATUS_SLEW, F.LOOP_STATUS_STALE, F.LOOP_STATUS_STATE] 32)
    (hk24 : R.Opens ([F.SNS_ENV_n_ENV, F.SNS_ENV_n_NOT_SETTLED, F.SNS_PEAK_n_MAX, F.SNS_PEAK_n_MIN, F.SNS_RMS_n_NOT_SETTLED,
    F.SNS_RMS_n_RMS] ++ lockinFields ++ senseFields) 24) (hcal : ∀ i, R.OpenAt calShown i) :
    Within R s (goFire t reg cues).1 := by
  unfold Machine.goFire
  extract_lets +onlyGivenNames byCue mask gs
  refine .ite_fst h ?_
  extract_lets +onlyGivenNames u
  have hu : Within R s u := h.goCandidate hp.mono
  split
  · exact (hu.goEffects hp.mono hk8 (hk16.mono (by decide)) hk hka hk32 hk24 hcal).foldl fun _ g hg h4 =>
      (h4.goStatus (hk16.at (lt_of_mem_bitsSet hg) (by decide))).goCount (hk16.at (lt_of_mem_bitsSet hg) (by decide))
  · refine Within.raiseEvent (h.foldl fun u g hg h4 => ?_)
    have hg16 := hk16 g (lt_of_mem_bitsSet hg)
    exact (Within.wr (.ite (h4.goStatus (hg16.mono (by decide))) (h4.goStatus (hg16.mono (by decide)))) hg16).goCount
      (hg16.mono (by decide))

theorem Within.counterReport {f : ℕ × CounterRead} (h : Within R s t) :
    Within R s (counterReport t f) := by
  unfold Machine.counterReport
  split
  · exact h
  · exact h.bump
  · exact h.bump
  · exact h.reportUncorrOther (by decide)

theorem Within.takeSnapshot {src : SnapSource} (h : Within R s t) (hp : R.Allows
    [.obs .banks, .obs .lastBank, .obs .seq, .obs .full, .obs .image, .obs .imageCopying]) :
    Within R s (takeSnapshot t src).1 := by
  unfold Machine.takeSnapshot
  extract_lets +onlyGivenNames b seq wantImg found s0 m old nb _ s1
  refine .ite_fst h.bump.raiseEvent ?_
  have hs0 : Within R s s0 := h.foldl fun _ _ _ h4 => h4.counterRestart
  clear_value s0
  have hs1 : Within R s s1 := hs0.withObsSnapshot hp.mono
  have hfound : Within R s (found.foldl Machine.counterReport (Machine.bankWrittenAll s1 (61 + b) (List.range 2112))) :=
    hs1.bankWrittenAll.foldl fun _ _ _ h4 => h4.counterReport
  exact .mk_fst hfound.bump

theorem Within.cueSkipped {x : DueCue} {reason : ℕ} (h : Within R s t) :
    Within R s (cueSkipped t x reason) := by
  unfold Machine.cueSkipped
  exact h.bump.raiseEvent

theorem Within.actSnapshot {x : DueCue} (h : Within R s t) (hp : R.Allows
    [.obs .banks, .obs .lastBank, .obs .seq, .obs .full, .obs .image, .obs .imageCopying]) :
    Within R s (actSnapshot t x) := by
  unfold Machine.actSnapshot
  extract_lets +onlyGivenNames r
  have hr : Within R s r.1 := (h.takeSnapshot hp)
  split
  · exact hr
  · exact hr.cueSkipped

theorem Within.spotBegin {n : ℕ} {source : ℕ} {slice : ℕ} {flags : ℕ} {at0 : ℕ} (h : Within R s t) (hp : R.Allows [.lanes .spot])
    (hk : R.OpenAt [F.LRX_SPOT_STATUS_STATE] n) :
    Within R s (spotBegin t n source slice flags at0) := by
  unfold Machine.spotBegin
  exact ((h.setSpot hp).wr hk)

theorem Within.actSpotlight {x : DueCue} (h : Within R s t) (hp : R.Allows [.lanes .spot])
    (hk : R.OpenAt [F.LRX_SPOT_STATUS_STATE] (x.cue.arg % 8)) :
    Within R s (actSpotlight t x) := by
  unfold Machine.actSpotlight
  extract_lets +onlyGivenNames n source slice
  refine Within.ite ?_ ?_
  · exact h.cueSkipped
  · refine Within.ite ?_ ?_
    · exact h.cueSkipped
    · split
      · exact h.cueSkipped
      · exact h.cueSkipped
      · exact (h.spotBegin hp hk)

theorem Within.xaRequest {n : ℕ} {x : XaRun} (h : Within R s t) (hp : R.Allows [.lanes .xa, .aside .lanes])
    (hk : R.OpenAt [F.LTX_XA_STATUS_STATE] n) :
    Within R s (xaRequest t n x) := by
  unfold Machine.xaRequest
  split
  · exact h
  · extract_lets +onlyGivenNames m s1
    have hs1 : Within R s s1 := ((h.setXa hp.mono).wr hk)
    exact (hs1.enqueue hp.mono)

theorem Within.xaLanded {n : ℕ} {trigger : BitVec 48} (h : Within R s t) (hp : R.Allows [.time .cues, .lanes .xa, .aside .lanes])
    (hk : R.OpenAt [F.LTX_XA_STATUS_ITER, F.LTX_XA_STATUS_REASON, F.LTX_XA_STATUS_STATE] n)
    (hk8 : R.Opens [F.LTX_STATUS_SEALED] 8) :
    Within R s (xaLanded t n trigger) := by
  unfold Machine.xaLanded
  split
  · exact h
  · extract_lets +onlyGivenNames x s1
    have hs1 : Within R s s1 := ((h.setXa hp.mono).wr hk)
    exact (Within.ite (hs1.xaStop hp.mono hk8 (hk.mono (by decide))) (Within.ite ((hs1.setXa hp.mono).wr hk)
        (hs1.xaRequest hp.mono (hk.mono (by decide)))))

theorem Within.revertLanded {n : ℕ} (h : Within R s t) (hp : R.Allows [.mgmt .inProgress]) :
    Within R s (revertLanded t n) := by
  unfold Machine.revertLanded
  exact (h.maskProgress hp)

theorem Within.swapOwned {x : DueCue} {n : ℕ} (h : Within R s t) (hp : R.Allows
    [.time .cues, .lanes .xa, .aside .lanes, .mgmt .inProgress]) (hk : R.OpenAt
    [F.LTX_XA_STATUS_ITER, F.LTX_XA_STATUS_REASON, F.LTX_XA_STATUS_STATE] n) (hk8 : R.Opens [F.LTX_STATUS_SEALED] 8) :
    Within R s (swapOwned t x n) := by
  unfold Machine.swapOwned
  split
  · exact h
  · exact (h.xaLanded hp.mono hk hk8)
  · exact (h.revertLanded hp.mono)

theorem Within.swapLane {n : ℕ} {sc : Option (ℕ × Dir × ShowClock)} {freewheel : Bool} (h : Within R s t)
    (hk : R.OpenAt [F.LTX_STATUS_ACTIVE, F.LTX_STATUS_SWAP_COUNT] n) :
    Within R s (swapLane t n sc freewheel) := by
  unfold Machine.swapLane
  extract_lets +onlyGivenNames s1
  have hs1 : Within R s s1 := ((h.wr hk).inc hk)
  exact hs1.bump.raiseEvent

theorem Within.actSwap {x : DueCue} (h : Within R s t) (hp : R.Allows [.time .cues, .lanes .xa, .aside .lanes,
    .mgmt .inProgress]) (hka : ∀ i, R.OpenAt [F.LTX_STATUS_ACTIVE, F.LTX_STATUS_SWAP_COUNT, F.LTX_XA_STATUS_ITER,
    F.LTX_XA_STATUS_REASON, F.LTX_XA_STATUS_STATE] i) (hk8 : R.Opens [F.LTX_STATUS_SEALED] 8) :
    Within R s (actSwap t x) := by
  unfold Machine.actSwap
  exact (Within.ite h.cueSkipped (h.foldl fun _ _ _ h4 => ((h4.swapLane ((hka _).mono (by decide))).swapOwned hp
      ((hka _).mono (by decide)) hk8)))

theorem Within.actAside {x : DueCue} (h : Within R s t) (hp : R.Allows [.aside .lanes]) :
    Within R s (actAside t x) := by
  unfold Machine.actAside
  exact (Within.ite h.cueSkipped (Within.ite h.cueSkipped (Within.ite h.cueSkipped (Within.ite (h.setAside hp) (h.enqueue hp)))))

theorem Within.senseSyncMask {mask : ℕ} (h : Within R s t) (hp : R.Allows [.ctl .sense, .cal .repeatSense])
    (hk24 : R.Opens ([F.SNS_ENV_n_ENV, F.SNS_ENV_n_NOT_SETTLED, F.SNS_PEAK_n_MAX, F.SNS_PEAK_n_MIN, F.SNS_RMS_n_NOT_SETTLED,
    F.SNS_RMS_n_RMS] ++ lockinFields ++ senseFields) 24) :
    Within R s (senseSyncMask t mask) := by
  unfold Machine.senseSyncMask
  exact (h.foldl fun _ _ m3 h4 => (h4.senseSync hp (hk24.at (lt_of_mem_whichBelow (List.mem_of_mem_filter m3)) (by decide))))

theorem Within.actSync {x : DueCue} (h : Within R s t) (hp : R.Allows [.ctl .sense, .cal .repeatSense])
    (hk24 : R.Opens ([F.SNS_ENV_n_ENV, F.SNS_ENV_n_NOT_SETTLED, F.SNS_PEAK_n_MAX, F.SNS_PEAK_n_MIN, F.SNS_RMS_n_NOT_SETTLED,
    F.SNS_RMS_n_RMS] ++ lockinFields ++ senseFields) 24) :
    Within R s (actSync t x) := by
  unfold Machine.actSync
  exact (Within.ite h.cueSkipped (Within.ite h.cueSkipped (Within.ite h.cueSkipped (h.senseSyncMask hp hk24))))

theorem Within.actCal {x : DueCue} (h : Within R s t) (hp : R.Allows [.cal .fired]) :
    Within R s (actCal t x) := by
  unfold Machine.actCal
  exact (Within.ite h.cueSkipped (Within.ite h.cueSkipped (Within.ite h.cueSkipped (h.withCalFired hp))))

theorem Within.cueAct {x : DueCue} (h : Within R s t) (hp : R.Allows [.time .cues, .obs .banks, .obs .lastBank, .obs .seq,
    .obs .full, .obs .image, .obs .imageCopying, .lanes .spot, .lanes .xa, .aside .lanes, .ctl .sense, .cal .repeatSense,
    .cal .fired, .mgmt .inProgress]) (hk : R.OpenAt [F.LRX_SPOT_STATUS_STATE] (x.cue.arg % 8))
    (hka : ∀ i, R.OpenAt [F.LTX_STATUS_ACTIVE, F.LTX_STATUS_SWAP_COUNT, F.LTX_XA_STATUS_ITER, F.LTX_XA_STATUS_REASON,
    F.LTX_XA_STATUS_STATE] i) (hk8 : R.Opens [F.LTX_STATUS_SEALED] 8) (hk24 : R.Opens
    ([F.SNS_ENV_n_ENV, F.SNS_ENV_n_NOT_SETTLED, F.SNS_PEAK_n_MAX, F.SNS_PEAK_n_MIN, F.SNS_RMS_n_NOT_SETTLED, F.SNS_RMS_n_RMS] ++
    lockinFields ++ senseFields) 24) :
    Within R s (cueAct t x) := by
  unfold Machine.cueAct
  split
  · exact (h.actSnapshot hp.mono)
  · exact (h.actSpotlight hp.mono hk)
  · exact (h.actSwap hp.mono hka hk8)
  · exact (h.actAside hp.mono)
  · exact (h.actSync hp.mono hk24)
  · exact (h.actCal hp.mono)
  · exact h

theorem Within.reconfigureCues {ports : List ℕ} (h : Within R s t) (hp : R.Allows [.time .cues])
    (hk8 : R.Opens [F.LTX_STATUS_SEALED] 8) :
    Within R s (reconfigureCues t ports) := by
  unfold Machine.reconfigureCues
  exact (h.cancelCues hp hk8)

theorem Within.fireCodeword {mask : ℕ} {xs : List DueCue} (h : Within R s t) (hp : R.Allows fireCodewordPieces)
    (hk8 : R.Opens ([F.ASD_LEVEL_REF, F.ASD_STATUS_AUTH_STATE, F.ASD_STATUS_RX_BUSY, F.ASD_STATUS_RX_LOAD, F.ASD_STATUS_TX_BUSY,
    F.ASD_STATUS_TX_LOAD, F.ASD_STATUS_UP, F.ASD_TABLE_RX_k_TABLE, F.ASD_TABLE_TX_k_TABLE, F.LEQ_XA_GATHER_STATE,
    F.LRX_CTLE_STATUS_CODE, F.LRX_CTLE_STATUS_METRIC, F.LRX_SLICE_STATUS_NOSPARE, F.LRX_SLICE_STATUS_SWAP_COUNT,
    F.LRX_SLICE_STATUS_UNDERSTUDY, F.LRX_SLICE_STATUS_WINGS, F.LRX_SPOT_STATUS_STATE, F.LRX_STATUS_CTLE_SEARCH, F.LRX_STATUS_LOL,
    F.LRX_STATUS_LOS, F.LRX_STATUS_LOS_ENV, F.LRX_STATUS_LOS_RMS, F.LRX_TPC_STATUS_LOCK, F.LRX_TPC_STATUS_POS,
    F.LRX_TR_STATUS_FREQ, F.LRX_TR_STATUS_PI_CODE, F.LRX_VGA_STATUS_AT_LIMIT, F.LRX_VGA_STATUS_CODE, F.LRX_VGA_STATUS_DEFERRED,
    F.LTX_STATUS_SEALED, F.LTX_XA_STATUS_REASON, F.LTX_XA_STATUS_STATE, F.PCS_ALIGN_STATUS_PERIOD,
    F.PCS_ALIGN_STATUS_RX_DESKEWED, F.PCS_ALIGN_STATUS_TX_ALIGNED, F.PCS_LINK_STATUS_BACKOFF, F.PCS_LINK_STATUS_LOST,
    F.PCS_LINK_STATUS_MAP_LEARNED, F.PCS_LINK_STATUS_PROBED, F.PCS_LINK_STATUS_REASON, F.PCS_LINK_STATUS_STATE,
    F.PCS_LINK_TIME_RESTARTS, F.PCS_LINK_TIME_UP_TIME, F.PCS_RX_MAP_USE_INV, F.PCS_RX_MAP_USE_PHYS] ++ eqTapFields ++ alignFields
    ++ rmFields ++ eqStateFields ++ sliceFailedFields ++ lineTxFields) 8)
    (hk16 : R.Opens ([F.GO_FAIL_ADDR_g_ADDR, F.GO_INFO_g_FIRES, F.GO_INFO_g_LAST_CUE, F.GO_INFO_g_REJECTS, F.GO_STATUS_g_CODE,
    F.GO_STATUS_g_SUBCODE, F.HSL_ALIGN_STATUS_LOCKED, F.HSL_SLICE_FAILED_FAILED, F.HSL_SLICE_STATUS_FAILED_32,
    F.HSL_SLICE_STATUS_NOSPARE, F.HSL_SLICE_STATUS_SWAP_COUNT, F.HSL_SLICE_STATUS_UNDERSTUDY, F.HSL_SLICE_STATUS_WINGS,
    F.HSL_STATUS_CTLE_CODE, F.HSL_STATUS_LOL, F.HSL_STATUS_LOS, F.HSL_STATUS_PI_CODE, F.HSL_STATUS_TRAINED,
    F.HSL_STATUS_TRAINING, F.HSL_STATUS_VGA_CODE, F.HSL_TPC_STATUS_LOCK, F.HSL_TPC_STATUS_POS] ++ hostEqFields ++ hostTxFields)
    16) (hk : R.OpenAt ([F.CAL_STATE_HANDLE, F.CAL_STATE_TARGETS, F.HSL_REF_STATUS_A_HOLDOVER, F.HSL_REF_STATUS_A_LOCK,
    F.HSL_REF_STATUS_A_REF, F.HSL_REF_STATUS_B_HOLDOVER, F.HSL_REF_STATUS_B_LOCK, F.HSL_REF_STATUS_B_REF,
    F.HSL_REF_STATUS_HFCKO0_ON, F.HSL_REF_STATUS_HFCKO1_ON, F.LOOP_ENGINE_STATUS_RUNNING] ++ poolFields) 0)
    (hka : ∀ i, R.OpenAt ([F.LRX_SPOT_STATUS_STATE, F.LTX_STATUS_ACTIVE, F.LTX_STATUS_SWAP_COUNT, F.LTX_XA_STATUS_ITER,
    F.LTX_XA_STATUS_REASON, F.LTX_XA_STATUS_STATE, F.PCS_ALIGN_STATUS_RX_DESKEWED, F.PCS_ALIGN_STATUS_TX_ALIGNED,
    F.PCS_LINK_STATUS_LOST, F.PCS_LINK_STATUS_PROBED, F.PCS_LINK_STATUS_REASON, F.PCS_LINK_STATUS_STATE,
    F.PCS_LINK_TIME_RESTARTS] ++ alignFields ++ rmFields) i) (hk32 : R.Opens
    [F.BDAC_CEIL_c_CEIL_HIT, F.BDAC_STATUS_c_APPLIED, F.BDAC_STATUS_c_HOLDING, F.BDAC_STATUS_c_STATE, F.LOOP_HIST_FLAGS,
    F.LOOP_STATUS_CLAMP, F.LOOP_STATUS_FROZEN, F.LOOP_STATUS_LOST_ARB, F.LOOP_STATUS_MOVING, F.LOOP_STATUS_SLEW,
    F.LOOP_STATUS_STALE, F.LOOP_STATUS_STATE] 32) (hk24 : R.Opens ([F.SNS_ENV_n_ENV, F.SNS_ENV_n_NOT_SETTLED, F.SNS_PEAK_n_MAX,
    F.SNS_PEAK_n_MIN, F.SNS_RMS_n_NOT_SETTLED, F.SNS_RMS_n_RMS] ++ lockinFields ++ senseFields) 24)
    (hcal : ∀ i, R.OpenAt calShown i) :
    Within R s (fireCodeword mask t xs) := by
  unfold Machine.fireCodeword
  extract_lets +onlyGivenNames gos rest s1 r s2
  have hs1 : Within R s s1 := (h.foldl fun _ _ _ h4 => (h4.cueFired.cueAdvance hp.mono (hk8.mono (by decide))))
  have hr : Within R s r.1 := (hs1.goFire hp.mono hk8 hk16 hk (fun i => (hka i).mono (by decide)) hk32 hk24 hcal)
  have hs2 : Within R s s2 := (hr.foldl fun _ _ _ h8 => ((h8.cueFired.cueAdvance hp.mono (hk8.mono (by decide))).cueAct hp.mono
      ((hka _).mono (by decide)) (fun i => (hka i).mono (by decide)) (hk8.mono (by decide)) hk24))
  exact (hs2.reconfigureCues hp.mono (hk8.mono (by decide)))

theorem Within.clockEarly {c : ℕ × Dir} (h : Within R s t) (hp : R.Allows fireCodewordPieces)
    (hk8 : R.Opens ([F.ASD_LEVEL_REF, F.ASD_STATUS_AUTH_STATE, F.ASD_STATUS_RX_BUSY, F.ASD_STATUS_RX_LOAD, F.ASD_STATUS_TX_BUSY,
    F.ASD_STATUS_TX_LOAD, F.ASD_STATUS_UP, F.ASD_TABLE_RX_k_TABLE, F.ASD_TABLE_TX_k_TABLE, F.LEQ_XA_GATHER_STATE,
    F.LRX_CTLE_STATUS_CODE, F.LRX_CTLE_STATUS_METRIC, F.LRX_SLICE_STATUS_NOSPARE, F.LRX_SLICE_STATUS_SWAP_COUNT,
    F.LRX_SLICE_STATUS_UNDERSTUDY, F.LRX_SLICE_STATUS_WINGS, F.LRX_SPOT_STATUS_STATE, F.LRX_STATUS_CTLE_SEARCH, F.LRX_STATUS_LOL,
    F.LRX_STATUS_LOS, F.LRX_STATUS_LOS_ENV, F.LRX_STATUS_LOS_RMS, F.LRX_TPC_STATUS_LOCK, F.LRX_TPC_STATUS_POS,
    F.LRX_TR_STATUS_FREQ, F.LRX_TR_STATUS_PI_CODE, F.LRX_VGA_STATUS_AT_LIMIT, F.LRX_VGA_STATUS_CODE, F.LRX_VGA_STATUS_DEFERRED,
    F.LTX_STATUS_SEALED, F.LTX_XA_STATUS_REASON, F.LTX_XA_STATUS_STATE, F.PCS_ALIGN_STATUS_PERIOD,
    F.PCS_ALIGN_STATUS_RX_DESKEWED, F.PCS_ALIGN_STATUS_TX_ALIGNED, F.PCS_LINK_STATUS_BACKOFF, F.PCS_LINK_STATUS_LOST,
    F.PCS_LINK_STATUS_MAP_LEARNED, F.PCS_LINK_STATUS_PROBED, F.PCS_LINK_STATUS_REASON, F.PCS_LINK_STATUS_STATE,
    F.PCS_LINK_TIME_RESTARTS, F.PCS_LINK_TIME_UP_TIME, F.PCS_RX_MAP_USE_INV, F.PCS_RX_MAP_USE_PHYS] ++ eqTapFields ++ alignFields
    ++ rmFields ++ eqStateFields ++ sliceFailedFields ++ lineTxFields) 8)
    (hk16 : R.Opens ([F.GO_FAIL_ADDR_g_ADDR, F.GO_INFO_g_FIRES, F.GO_INFO_g_LAST_CUE, F.GO_INFO_g_REJECTS, F.GO_STATUS_g_CODE,
    F.GO_STATUS_g_SUBCODE, F.HSL_ALIGN_STATUS_LOCKED, F.HSL_SLICE_FAILED_FAILED, F.HSL_SLICE_STATUS_FAILED_32,
    F.HSL_SLICE_STATUS_NOSPARE, F.HSL_SLICE_STATUS_SWAP_COUNT, F.HSL_SLICE_STATUS_UNDERSTUDY, F.HSL_SLICE_STATUS_WINGS,
    F.HSL_STATUS_CTLE_CODE, F.HSL_STATUS_LOL, F.HSL_STATUS_LOS, F.HSL_STATUS_PI_CODE, F.HSL_STATUS_TRAINED,
    F.HSL_STATUS_TRAINING, F.HSL_STATUS_VGA_CODE, F.HSL_TPC_STATUS_LOCK, F.HSL_TPC_STATUS_POS] ++ hostEqFields ++ hostTxFields)
    16) (hk : R.OpenAt ([F.CAL_STATE_HANDLE, F.CAL_STATE_TARGETS, F.HSL_REF_STATUS_A_HOLDOVER, F.HSL_REF_STATUS_A_LOCK,
    F.HSL_REF_STATUS_A_REF, F.HSL_REF_STATUS_B_HOLDOVER, F.HSL_REF_STATUS_B_LOCK, F.HSL_REF_STATUS_B_REF,
    F.HSL_REF_STATUS_HFCKO0_ON, F.HSL_REF_STATUS_HFCKO1_ON, F.LOOP_ENGINE_STATUS_RUNNING] ++ poolFields) 0)
    (hka : ∀ i, R.OpenAt ([F.LRX_SPOT_STATUS_STATE, F.LTX_STATUS_ACTIVE, F.LTX_STATUS_SWAP_COUNT, F.LTX_XA_STATUS_ITER,
    F.LTX_XA_STATUS_REASON, F.LTX_XA_STATUS_STATE, F.PCS_ALIGN_STATUS_RX_DESKEWED, F.PCS_ALIGN_STATUS_TX_ALIGNED,
    F.PCS_LINK_STATUS_LOST, F.PCS_LINK_STATUS_PROBED, F.PCS_LINK_STATUS_REASON, F.PCS_LINK_STATUS_STATE,
    F.PCS_LINK_TIME_RESTARTS] ++ alignFields ++ rmFields) i) (hk32 : R.Opens
    [F.BDAC_CEIL_c_CEIL_HIT, F.BDAC_STATUS_c_APPLIED, F.BDAC_STATUS_c_HOLDING, F.BDAC_STATUS_c_STATE, F.LOOP_HIST_FLAGS,
    F.LOOP_STATUS_CLAMP, F.LOOP_STATUS_FROZEN, F.LOOP_STATUS_LOST_ARB, F.LOOP_STATUS_MOVING, F.LOOP_STATUS_SLEW,
    F.LOOP_STATUS_STALE, F.LOOP_STATUS_STATE] 32) (hk24 : R.Opens ([F.SNS_ENV_n_ENV, F.SNS_ENV_n_NOT_SETTLED, F.SNS_PEAK_n_MAX,
    F.SNS_PEAK_n_MIN, F.SNS_RMS_n_NOT_SETTLED, F.SNS_RMS_n_RMS] ++ lockinFields ++ senseFields) 24)
    (hcal : ∀ i, R.OpenAt calShown i) :
    Within R s (clockEarly t c) := by
  unfold Machine.clockEarly
  exact (h.foldl fun _ _ _ h4 => (h4.fireCodeword hp hk8 hk16 hk hka hk32 hk24 hcal))

theorem Within.joinedFire {mask : ℕ} {cues : List (ℕ × Dir)} (h : Within R s t) (hp : R.Allows fireCodewordPieces)
    (hk8 : R.Opens ([F.ASD_LEVEL_REF, F.ASD_STATUS_AUTH_STATE, F.ASD_STATUS_RX_BUSY, F.ASD_STATUS_RX_LOAD, F.ASD_STATUS_TX_BUSY,
    F.ASD_STATUS_TX_LOAD, F.ASD_STATUS_UP, F.ASD_TABLE_RX_k_TABLE, F.ASD_TABLE_TX_k_TABLE, F.LEQ_XA_GATHER_STATE,
    F.LRX_CTLE_STATUS_CODE, F.LRX_CTLE_STATUS_METRIC, F.LRX_SLICE_STATUS_NOSPARE, F.LRX_SLICE_STATUS_SWAP_COUNT,
    F.LRX_SLICE_STATUS_UNDERSTUDY, F.LRX_SLICE_STATUS_WINGS, F.LRX_SPOT_STATUS_STATE, F.LRX_STATUS_CTLE_SEARCH, F.LRX_STATUS_LOL,
    F.LRX_STATUS_LOS, F.LRX_STATUS_LOS_ENV, F.LRX_STATUS_LOS_RMS, F.LRX_TPC_STATUS_LOCK, F.LRX_TPC_STATUS_POS,
    F.LRX_TR_STATUS_FREQ, F.LRX_TR_STATUS_PI_CODE, F.LRX_VGA_STATUS_AT_LIMIT, F.LRX_VGA_STATUS_CODE, F.LRX_VGA_STATUS_DEFERRED,
    F.LTX_STATUS_SEALED, F.LTX_XA_STATUS_REASON, F.LTX_XA_STATUS_STATE, F.PCS_ALIGN_STATUS_PERIOD,
    F.PCS_ALIGN_STATUS_RX_DESKEWED, F.PCS_ALIGN_STATUS_TX_ALIGNED, F.PCS_LINK_STATUS_BACKOFF, F.PCS_LINK_STATUS_LOST,
    F.PCS_LINK_STATUS_MAP_LEARNED, F.PCS_LINK_STATUS_PROBED, F.PCS_LINK_STATUS_REASON, F.PCS_LINK_STATUS_STATE,
    F.PCS_LINK_TIME_RESTARTS, F.PCS_LINK_TIME_UP_TIME, F.PCS_RX_MAP_USE_INV, F.PCS_RX_MAP_USE_PHYS] ++ eqTapFields ++ alignFields
    ++ rmFields ++ eqStateFields ++ sliceFailedFields ++ lineTxFields) 8)
    (hk16 : R.Opens ([F.GO_FAIL_ADDR_g_ADDR, F.GO_INFO_g_FIRES, F.GO_INFO_g_LAST_CUE, F.GO_INFO_g_REJECTS, F.GO_STATUS_g_CODE,
    F.GO_STATUS_g_SUBCODE, F.HSL_ALIGN_STATUS_LOCKED, F.HSL_SLICE_FAILED_FAILED, F.HSL_SLICE_STATUS_FAILED_32,
    F.HSL_SLICE_STATUS_NOSPARE, F.HSL_SLICE_STATUS_SWAP_COUNT, F.HSL_SLICE_STATUS_UNDERSTUDY, F.HSL_SLICE_STATUS_WINGS,
    F.HSL_STATUS_CTLE_CODE, F.HSL_STATUS_LOL, F.HSL_STATUS_LOS, F.HSL_STATUS_PI_CODE, F.HSL_STATUS_TRAINED,
    F.HSL_STATUS_TRAINING, F.HSL_STATUS_VGA_CODE, F.HSL_TPC_STATUS_LOCK, F.HSL_TPC_STATUS_POS] ++ hostEqFields ++ hostTxFields)
    16) (hk : R.OpenAt ([F.CAL_STATE_HANDLE, F.CAL_STATE_TARGETS, F.HSL_REF_STATUS_A_HOLDOVER, F.HSL_REF_STATUS_A_LOCK,
    F.HSL_REF_STATUS_A_REF, F.HSL_REF_STATUS_B_HOLDOVER, F.HSL_REF_STATUS_B_LOCK, F.HSL_REF_STATUS_B_REF,
    F.HSL_REF_STATUS_HFCKO0_ON, F.HSL_REF_STATUS_HFCKO1_ON, F.LOOP_ENGINE_STATUS_RUNNING] ++ poolFields) 0)
    (hka : ∀ i, R.OpenAt ([F.LRX_SPOT_STATUS_STATE, F.LTX_STATUS_ACTIVE, F.LTX_STATUS_SWAP_COUNT, F.LTX_XA_STATUS_ITER,
    F.LTX_XA_STATUS_REASON, F.LTX_XA_STATUS_STATE, F.PCS_ALIGN_STATUS_RX_DESKEWED, F.PCS_ALIGN_STATUS_TX_ALIGNED,
    F.PCS_LINK_STATUS_LOST, F.PCS_LINK_STATUS_PROBED, F.PCS_LINK_STATUS_REASON, F.PCS_LINK_STATUS_STATE,
    F.PCS_LINK_TIME_RESTARTS] ++ alignFields ++ rmFields) i) (hk32 : R.Opens
    [F.BDAC_CEIL_c_CEIL_HIT, F.BDAC_STATUS_c_APPLIED, F.BDAC_STATUS_c_HOLDING, F.BDAC_STATUS_c_STATE, F.LOOP_HIST_FLAGS,
    F.LOOP_STATUS_CLAMP, F.LOOP_STATUS_FROZEN, F.LOOP_STATUS_LOST_ARB, F.LOOP_STATUS_MOVING, F.LOOP_STATUS_SLEW,
    F.LOOP_STATUS_STALE, F.LOOP_STATUS_STATE] 32) (hk24 : R.Opens ([F.SNS_ENV_n_ENV, F.SNS_ENV_n_NOT_SETTLED, F.SNS_PEAK_n_MAX,
    F.SNS_PEAK_n_MIN, F.SNS_RMS_n_NOT_SETTLED, F.SNS_RMS_n_RMS] ++ lockinFields ++ senseFields) 24)
    (hcal : ∀ i, R.OpenAt calShown i) :
    Within R s (joinedFire mask cues t) := by
  unfold Machine.joinedFire
  extract_lets +onlyGivenNames s1
  have hs1 : Within R s s1 := (h.foldl fun _ _ _ h4 => (h4.clockEarly hp hk8 hk16 hk hka hk32 hk24 hcal))
  exact (hs1.fireCodeword hp hk8 hk16 hk hka hk32 hk24 hcal)

theorem Within.cueLatchWrite {p : ℕ} {d : Dir} (h : Within R s t) (hk : R.OpenAt
    [F.CUE_HC_HI_HC_HI, F.CUE_HC_LO_HC_LO, F.CUE_SC_HI_COUNT_HI, F.CUE_SC_HI_EPOCH, F.CUE_SC_LO_COUNT_LO] 0) :
    Within R s (cueLatchWrite p d t) := by
  unfold Machine.cueLatchWrite
  extract_lets +onlyGivenNames k s1
  have hs1 : Within R s s1 := ((h.wr hk).wr hk)
  exact (((hs1.wr hk).wr hk).wr hk)

theorem Within.spotCtrlStart {n : ℕ} {slice : ℕ} {source : ℕ} (h : Within R s t) (hp : R.Allows [.lanes .spot])
    (hk : R.OpenAt [F.LRX_SPOT_CTRL_SLICE, F.LRX_SPOT_CTRL_SOURCE, F.LRX_SPOT_STATUS_STATE] n) :
    Within R s (spotCtrlStart n slice source t) := by
  unfold Machine.spotCtrlStart
  extract_lets +onlyGivenNames s1
  have hs1 : Within R s s1 := ((h.wr hk).wr hk)
  split
  · exact hs1.bump.raiseEvent
  · exact (hs1.spotBegin hp (hk.mono (by decide)))

theorem Within.snapAck {ackReq : Bool} {ack1 : Bool} {ack0 : Bool} (h : Within R s t) (hp : R.Allows [.obs .full]) :
    Within R s (snapAck t ackReq ack1 ack0) := by
  unfold Machine.snapAck
  exact (h.withObsFull hp)

theorem Within.snapCtrlWrite {take : Bool} {flowImg : Bool} {ackReq : Bool} {ack1 : Bool} {ack0 : Bool} (h : Within R s t)
    (hp : R.Allows [.obs .banks, .obs .lastBank, .obs .seq, .obs .full, .obs .image, .obs .imageCopying])
    (hk : R.OpenAt [F.SNAP_CTRL_ACK_REQ, F.SNAP_CTRL_FLOW_IMG] 0) :
    Within R s (snapCtrlWrite t take flowImg ackReq ack1 ack0) := by
  unfold Machine.snapCtrlWrite
  extract_lets +onlyGivenNames s1
  have hs1 : Within R s s1 := (((h.wrB hk).wrB hk).snapAck hp.mono)
  exact (Within.ite (hs1.takeSnapshot hp) hs1)

theorem Within.goFireRow {mask : ℕ} (h : Within R s t) (hp : R.Allows goFirePieces)
    (hk8 : R.Opens ([F.ASD_LEVEL_REF, F.ASD_STATUS_AUTH_STATE, F.ASD_STATUS_RX_BUSY, F.ASD_STATUS_RX_LOAD, F.ASD_STATUS_TX_BUSY,
    F.ASD_STATUS_TX_LOAD, F.ASD_STATUS_UP, F.ASD_TABLE_RX_k_TABLE, F.ASD_TABLE_TX_k_TABLE, F.LEQ_XA_GATHER_STATE,
    F.LRX_CTLE_STATUS_CODE, F.LRX_CTLE_STATUS_METRIC, F.LRX_SLICE_STATUS_NOSPARE, F.LRX_SLICE_STATUS_SWAP_COUNT,
    F.LRX_SLICE_STATUS_UNDERSTUDY, F.LRX_SLICE_STATUS_WINGS, F.LRX_SPOT_STATUS_STATE, F.LRX_STATUS_CTLE_SEARCH, F.LRX_STATUS_LOL,
    F.LRX_STATUS_LOS, F.LRX_STATUS_LOS_ENV, F.LRX_STATUS_LOS_RMS, F.LRX_TPC_STATUS_LOCK, F.LRX_TPC_STATUS_POS,
    F.LRX_TR_STATUS_FREQ, F.LRX_TR_STATUS_PI_CODE, F.LRX_VGA_STATUS_AT_LIMIT, F.LRX_VGA_STATUS_CODE, F.LRX_VGA_STATUS_DEFERRED,
    F.LTX_STATUS_SEALED, F.LTX_XA_STATUS_REASON, F.LTX_XA_STATUS_STATE, F.PCS_ALIGN_STATUS_PERIOD,
    F.PCS_ALIGN_STATUS_RX_DESKEWED, F.PCS_ALIGN_STATUS_TX_ALIGNED, F.PCS_LINK_STATUS_BACKOFF, F.PCS_LINK_STATUS_LOST,
    F.PCS_LINK_STATUS_MAP_LEARNED, F.PCS_LINK_STATUS_PROBED, F.PCS_LINK_STATUS_REASON, F.PCS_LINK_STATUS_STATE,
    F.PCS_LINK_TIME_RESTARTS, F.PCS_LINK_TIME_UP_TIME, F.PCS_RX_MAP_USE_INV, F.PCS_RX_MAP_USE_PHYS] ++ eqTapFields ++ alignFields
    ++ rmFields ++ eqStateFields ++ sliceFailedFields ++ lineTxFields) 8)
    (hk16 : R.Opens ([F.GO_FAIL_ADDR_g_ADDR, F.GO_INFO_g_FIRES, F.GO_INFO_g_LAST_CUE, F.GO_INFO_g_REJECTS, F.GO_STATUS_g_CODE,
    F.GO_STATUS_g_SUBCODE, F.HSL_ALIGN_STATUS_LOCKED, F.HSL_SLICE_FAILED_FAILED, F.HSL_SLICE_STATUS_FAILED_32,
    F.HSL_SLICE_STATUS_NOSPARE, F.HSL_SLICE_STATUS_SWAP_COUNT, F.HSL_SLICE_STATUS_UNDERSTUDY, F.HSL_SLICE_STATUS_WINGS,
    F.HSL_STATUS_CTLE_CODE, F.HSL_STATUS_LOL, F.HSL_STATUS_LOS, F.HSL_STATUS_PI_CODE, F.HSL_STATUS_TRAINED,
    F.HSL_STATUS_TRAINING, F.HSL_STATUS_VGA_CODE, F.HSL_TPC_STATUS_LOCK, F.HSL_TPC_STATUS_POS] ++ hostEqFields ++ hostTxFields)
    16) (hk : R.OpenAt ([F.CAL_STATE_HANDLE, F.CAL_STATE_TARGETS, F.HSL_REF_STATUS_A_HOLDOVER, F.HSL_REF_STATUS_A_LOCK,
    F.HSL_REF_STATUS_A_REF, F.HSL_REF_STATUS_B_HOLDOVER, F.HSL_REF_STATUS_B_LOCK, F.HSL_REF_STATUS_B_REF,
    F.HSL_REF_STATUS_HFCKO0_ON, F.HSL_REF_STATUS_HFCKO1_ON, F.LOOP_ENGINE_STATUS_RUNNING] ++ poolFields) 0)
    (hka : ∀ i, R.OpenAt ([F.PCS_ALIGN_STATUS_RX_DESKEWED, F.PCS_ALIGN_STATUS_TX_ALIGNED, F.PCS_LINK_STATUS_LOST,
    F.PCS_LINK_STATUS_PROBED, F.PCS_LINK_STATUS_REASON, F.PCS_LINK_STATUS_STATE, F.PCS_LINK_TIME_RESTARTS] ++ alignFields ++
    rmFields) i) (hk32 : R.Opens [F.BDAC_CEIL_c_CEIL_HIT, F.BDAC_STATUS_c_APPLIED, F.BDAC_STATUS_c_HOLDING,
    F.BDAC_STATUS_c_STATE, F.LOOP_HIST_FLAGS, F.LOOP_STATUS_CLAMP, F.LOOP_STATUS_FROZEN, F.LOOP_STATUS_LOST_ARB,
    F.LOOP_STATUS_MOVING, F.LOOP_STATUS_SLEW, F.LOOP_STATUS_STALE, F.LOOP_STATUS_STATE] 32)
    (hk24 : R.Opens ([F.SNS_ENV_n_ENV, F.SNS_ENV_n_NOT_SETTLED, F.SNS_PEAK_n_MAX, F.SNS_PEAK_n_MIN, F.SNS_RMS_n_NOT_SETTLED,
    F.SNS_RMS_n_RMS] ++ lockinFields ++ senseFields) 24) (hcal : ∀ i, R.OpenAt calShown i) :
    Within R s (goFireRow mask t) := by
  unfold Machine.goFireRow
  extract_lets +onlyGivenNames r
  have hr : Within R s r.1 := (h.goFire hp hk8 hk16 hk hka hk32 hk24 hcal)
  exact (hr.reconfigureCues hp.mono (hk8.mono (by decide)))

theorem Within.goInstDiscard {x : GoInst} (h : Within R s t) (hw : R.Wide) :
    Within R s (GoInst.discard x t) := by
  unfold GoInst.discard
  exact h.foldl fun _ e he h4 => h4.wrWide hw (GoInst.slots_offLayout he)

theorem Within.goDiscard {mask : ℕ} (h : Within R s t) (hw : R.Wide) :
    Within R s (goDiscard mask t) := by
  unfold Machine.goDiscard
  exact (h.foldl fun _ _ _ h4 => (h4.goInstDiscard hw))

theorem Within.slotFresh {s0 : State} {k : ℕ} (h : Within R s t) :
    Within R s (slotFresh s0 t k) := by
  unfold Machine.slotFresh
  exact (Within.ite h h.withObsSlots)

theorem Within.layoutTaken (h : Within R s t) (hp : R.Allows [.mgmt .layoutSpent])
    (hk : R.OpenAt [F.DB_CMD_PROD, F.DB_CPL_ACK_ACK, F.DB_EVT_ACK_ACK, F.RING_CMD_CONS_CONS, F.RING_CPL_PROD_PROD,
    F.RING_EVT_PROD_PROD] 0) :
    Within R s (layoutTaken t) := by
  unfold Machine.layoutTaken
  extract_lets +onlyGivenNames s1 s2
  have hs1 : Within R s s1 := (((h.wr hk).wr hk).wr hk)
  have hs2 : Within R s s2 := (((hs1.wr hk).wr hk).wr hk)
  exact (hs2.withMgmtLayoutSpent hp)

theorem Within.setMode {m : PowerMode} (h : Within R s t) (hp : R.Allows [.power .mode]) :
    Within R s (setMode t m) := by
  unfold Machine.setMode
  exact (h.withPowerMode hp)

theorem Within.leaveIntermission {cause : ℕ} (h : Within R s t) (hp : R.Allows [.power .mode])
    (hk : R.OpenAt [F.PWR_STATE_LAST_WAKE] 0) :
    Within R s (leaveIntermission t cause) := by
  unfold Machine.leaveIntermission
  exact ((h.wr hk).setMode hp)

theorem Within.writeAction {s0 : State} {base : ℕ} {i : ℕ} {d : ℕ} (h : Within R s t) (hp : R.Allows writeActionPieces)
    (hw : R.Wide) :
    Within R s (writeAction s0 t base i d) := by
  unfold Machine.writeAction
  exact (Within.ite (h.cueLatchWrite hw.openAt) (Within.ite (Within.ite (h.spotCtrlStart hp.mono hw.openAt) h)
      (Within.ite (h.senseSyncMask hp.mono hw.opens) (Within.ite (h.snapCtrlWrite hp.mono hw.openAt)
      (Within.ite (h.goFireRow hp.mono hw.opens hw.opens hw.openAt hw.any hw.opens hw.opens hw.cal)
      (Within.ite (h.goDiscard hw) (Within.ite (h.bdacRefresh hp.mono hw.openAt)
      (Within.ite h.slotFresh (Within.ite (h.layoutTaken hp.mono hw.openAt)
      (Within.ite h.drainWaiting (Within.ite h.drainLost (Within.ite (Within.ite (h.leaveIntermission hp.mono hw.openAt) h)
      h))))))))))))

theorem Within.fieldWrite {f : Field} {i j d : Nat} (h : Within R s t) (hk : R.keys (f.key i j)) :
    Within R s (fieldWrite t f i j d) := by
  have hwrite := fun v => h.wrKey (v := v) fun _ => hk
  unfold Machine.fieldWrite
  extract_lets +onlyGivenNames v
  split
  · exact hwrite _
  · exact hwrite _
  · exact hwrite _
  · exact .ite (hwrite _) h
  · exact .ite (hwrite _) h
  · exact h

theorem Within.writeApply {a : ℕ} {d : ℕ} (h : Within R s t) (hp : R.Allows writeActionPieces) (hw : R.Wide) (hb : R.bulk) :
    Within R s (writeApply t a d) := by
  unfold Machine.writeApply
  split
  · exact h.putWords hb
  · refine .ite h ?_
    extract_lets +onlyGivenNames s1
    have hs1 : Within R s s1 := .ite h.bump h
    exact (hs1.foldl fun _ f _ h4 => h4.fieldWrite (hw _ fun _ => hb)).writeAction hp.mono hw
  · exact h

theorem Within.cycleWrite {q : State × List BusAnswer} {x : BusAccess} (h : Within R s q.1) (hp : R.Allows cycleWritePieces)
    (hw : R.Wide) (hb : R.bulk) : Within R s (cycleWrite q x).1 := by
  unfold Machine.cycleWrite
  split
  · exact h
  · simp only
    split
    · exact h.busError hp.mono hw.openAt
    · exact h.writeApply hp.mono hw hb

theorem Within.flowLost {b : ℕ} (h : Within R s t) (hp : R.Allows [.obs .buckets, .obs .contexts, .obs .flowFull, .obs .shifts]) :
    Within R s (flowLost t b) := by
  unfold Machine.flowLost
  exact (((h.freeBucket hp.mono).bump).flowFullCheck hp.mono)

theorem Within.ownerAction {k : ℕ} {a : ℕ} (h : Within R s t) (hp : R.Allows
    [.obs .buckets, .obs .contexts, .obs .flowFull, .obs .shifts, .lanes .tx, .ctl .coefs, .cal .sets, .mgmt .restartCause,
    .mem .retrain, .sec .cache]) (hk : R.OpenAt [F.MEM_LUT_STATUS_RETRAIN] 0) (hcal : ∀ i, R.OpenAt calShown i) :
    Within R s (ownerAction t k a) := by
  unfold Machine.ownerAction
  refine Within.ite ?_ ?_
  · exact (h.requestMgmt hp.mono)
  · refine Within.ite ?_ ?_
    · exact (h.calSetLost hp.mono hcal)
    · refine Within.ite ?_ ?_
      · exact (h.withSecCache hp.mono)
      · refine Within.ite ?_ ?_
        · exact (h.lutLost hp.mono hk)
        · refine Within.ite ?_ ?_
          · exact (h.flowLost hp.mono)
          · refine Within.ite ?_ ?_
            · split
              · exact (h.flowLost hp.mono)
              · exact h
            · exact (Within.ite h.still (Within.ite ((h.withCtlCoefs hp.mono).bankInvalid) h))

theorem Within.lostFound {w : ℕ × ℕ × Bool} (h : Within R s t) (hp : R.Allows
    [.obs .buckets, .obs .contexts, .obs .flowFull, .obs .shifts, .lanes .tx, .ctl .coefs, .cal .sets, .mgmt .restartCause,
    .mem .retrain, .sec .cache]) (hk : R.OpenAt [F.MEM_LUT_STATUS_RETRAIN] 0) (hcal : ∀ i, R.OpenAt calShown i) (hb : R.bulk) :
    Within R s (lostFound t w) := by
  unfold Machine.lostFound
  exact (Within.ite ((h.reportUncorr hb).ownerAction hp hk hcal) h)

theorem Within.busReport {iface : ℕ} {e : BusErrs} (h : Within R s t) (hp : R.Allows [.mgmt .busErrRate]) :
    Within R s (busReport t iface e) := by
  have hrate : ∀ r, Within R s { t with mgmt := { t.mgmt with busErrRate := r } } := fun r => h.withMgmtBusErrRate hp.mono
  simp only [Machine.busReport]
  split
  · exact h
  · split
    · exact (hrate _).raiseEvent
    · exact hrate _

theorem Within.i2cDrive {out : List Byte} {acks : List Bool} (h : Within R s t) (hp : R.Allows [.mgmt .i2cOut, .mgmt .i2cAcks]) :
    Within R s (i2cDrive t out acks) := by
  unfold Machine.i2cDrive
  exact (h.withMgmtI2cOutI2cAcks hp)

theorem Within.signalWrite {iface : Iface} {cause : Option ℕ} (h : Within R s t)
    (hp : R.Allows [.mgmt .i2cOut, .mgmt .i2cAcks, .mgmt .coreFault, .mgmt .spiCrcErr, .mgmt .spiBusErr]) :
    Within R s (signalWrite iface t cause) := by
  unfold Machine.signalWrite
  split
  · exact (h.i2cDrive hp.mono)
  · exact (h.withMgmtSpiCrcErrSpiBusErr hp.mono)
  · exact (h.withMgmtCoreFault hp.mono)

theorem Within.spiEnd {out : List Byte} {crcErr : Bool} {busErr : Bool} (h : Within R s t)
    (hp : R.Allows [.mgmt .spiOut, .mgmt .spiCrcErr, .mgmt .spiBusErr]) :
    Within R s (spiEnd t out crcErr busErr) := by
  unfold Machine.spiEnd
  exact (h.withMgmtSpiOutSpiCrcErrSpiBusErr hp)

theorem Within.signalRead {a : BusAnswer} (h : Within R s t) (hp : R.Allows
    [.mgmt .i2cOut, .mgmt .i2cAcks, .mgmt .spiOut, .mgmt .readOut, .mgmt .coreFault, .mgmt .spiCrcErr, .mgmt .spiBusErr]) :
    Within R s (signalRead t a) := by
  unfold Machine.signalRead
  split
  · exact (Within.ite (h.i2cDrive hp.mono) (h.i2cDrive hp.mono))
  · exact (h.spiEnd hp.mono)
  · exact (h.withMgmtReadOutCoreFault hp.mono)

theorem Within.cycleEnd {a : BusAnswer} (h : Within R s t) (hp : R.Allows
    [.mgmt .i2cOut, .mgmt .i2cAcks, .mgmt .spiOut, .mgmt .readOut, .mgmt .coreFault, .mgmt .spiCrcErr, .mgmt .spiBusErr,
    .mgmt .busErrRate]) :
    Within R s (cycleEnd t a) := by
  unfold Machine.cycleEnd
  extract_lets +onlyGivenNames e t'
  have ht' : Within R s t' := (h.busReport hp.mono)
  exact (Within.ite (ht'.signalWrite hp.mono) (ht'.signalRead hp.mono))

theorem Within.collide {s0 : State} {s1 : State} {xs : List BusAccess} (h : Within R s t) :
    Within R s (collide s0 s1 t xs) := by
  unfold Machine.collide
  extract_lets +onlyGivenNames one
  exact (Within.ite ((Within.ite h.bump h).bump) (Within.ite h.bump h))

theorem Within.cycle {mask : ℕ} {accs : List BusAccess} {cues : List (ℕ × Dir)} {words : List (ℕ × ℕ × Bool)} (h : Within R s t)
    (hp : R.Allows cyclePieces) (hw : R.Wide) (hb : R.bulk) :
    Within R s (cycle mask accs cues words t) := by
  unfold Machine.cycle
  extract_lets +onlyGivenNames xs s1 q s2 r
  have hq : Within R s q.1 := .foldlFst (h.rearm hw.openAt) fun _ _ _ h4 => h4.cycleRead hp.mono hw hb
  have hs2 : Within R s s2 := hq.joinedFire hp.mono hw.opens hw.opens hw.openAt hw.any hw.opens hw.opens hw.cal
  have hr : Within R s r.1 :=
    .foldlFst (hs2.foldl fun _ _ _ h4 => h4.lostFound hp.mono hw.openAt hw.cal hb) fun _ _ _ h4 => h4.cycleWrite hp.mono hw hb
  exact (hr.collide).foldl fun _ _ _ h4 => h4.cycleEnd hp.mono

theorem Within.cycleWith {mask : ℕ} {own : List BusAccess} {cues : List (ℕ × Dir)} {beside : List Beside} (h : Within R s t)
    (hp : R.Allows cyclePieces) (hw : R.Wide) (hb : R.bulk) :
    Within R s (cycleWith mask own cues beside t) := by
  unfold Machine.cycleWith
  exact (h.cycle hp hw hb)

theorem Within.lapStart {l : LaneId} (h : Within R s t) (hp : R.Allows [.cal .run, .cal .lineLaps, .cal .hostLaps])
    (hk8 : R.Opens [F.LRX_SLICE_STATUS_WINGS] 8) (hk16 : R.Opens [F.HSL_SLICE_STATUS_WINGS] 16) (hcal : ∀ i, R.OpenAt calShown i)
    :
    Within R s (lapStart t l) := by
  unfold Machine.lapStart
  exact (Within.ite (h.instanceEnd hp.mono hcal) (Within.ite (h.instanceEnd hp.mono hcal) ((h.setLap hp.mono).setWings hk8 hk16)))

theorem Within.skewBegin {l : LaneId} (h : Within R s t) (hp : R.Allows [.cal .skewLive]) :
    Within R s (skewBegin t l) := by
  unfold Machine.skewBegin
  exact ((h.withCalSkewLive hp).skewMark hp)

theorem Within.skewStart {n : ℕ} (h : Within R s t) (hp : R.Allows Part.cal.pieces) (hcal : ∀ i, R.OpenAt calShown i) :
    Within R s (skewStart t n) := by
  unfold Machine.skewStart
  exact (Within.ite (h.instanceEnd hp.mono hcal) ((h.withCal hp).skewBegin hp.mono))

theorem Within.calNext {n : Nat} (h : Within R s t) (hp : R.Allows [.ctl .sense, .cal .run, .cal .bdacQueue, .cal .senseQueue,
    .cal .bdacNow, .cal .senseNow, .cal .repeatBdac, .cal .repeatSense]) (hcal : ∀ i, R.OpenAt calShown i) :
    Within R s (calNext n t) := by
  induction n generalizing t with
  | zero => exact h
  | succ n ih =>
    have hbdac : ∀ q, Within R s { t with cal := { t.cal with bdacQueue := q } } := fun q => h.withCalBdacQueue hp.mono
    have hsense : ∀ q, Within R s { t with cal := { t.cal with senseQueue := q } } := fun q => h.withCalSenseQueue hp.mono
    simp only [Machine.calNext]
    refine Within.ite h ?_
    split
    · next c q _ =>
      exact .ite (ih ((hbdac _).instanceEnd hp.mono hcal)) ((hbdac q).withCalBdacNowRepeatBdac hp.mono)
    · split
      · refine Within.ite (ih ((hsense _).instanceEnd hp.mono hcal))
          (.ite (ih ((hsense _).instanceEnd hp.mono hcal)) ?_)
        exact ((hsense _).setSense hp.mono).withCalSenseNowRepeatSense hp.mono
      · exact h

theorem Within.calStart {handle : ℕ} {x : CalSet} (h : Within R s t) (hp : R.Allows
    (([.ctl .sense] : List Piece) ++ Part.cal.pieces ++ ([.mgmt .inProgress] : List Piece)))
    (hk : R.OpenAt [F.CAL_STATE_HANDLE, F.CAL_STATE_TARGETS] 0) (hk8 : R.Opens [F.LRX_SLICE_STATUS_WINGS] 8)
    (hk16 : R.Opens [F.HSL_SLICE_STATUS_WINGS] 16) (hcal : ∀ i, R.OpenAt calShown i) :
    Within R s (calStart t handle x) := by
  unfold Machine.calStart
  extract_lets +onlyGivenNames t' _ s1 s2 s3 s4 s5 _ s6
  have hs1 : Within R s s1 := (h.withCalRun hp.mono)
  have hs2 : Within R s s2 := ((hs1.wr hk).wr hk)
  have hs3 : Within R s s3 := (Within.ite (hs2.foldl fun _ _ _ h4 => (h4.lapStart hp.mono hk8 hk16 hcal)) hs2)
  have hs4 : Within R s s4 := (Within.ite (hs3.foldl fun _ _ _ h8 => (h8.lapStart hp.mono hk8 hk16 hcal)) hs3)
  have hs5 : Within R s s5 := (Within.ite (hs4.foldl fun _ _ _ h12 => (h12.skewStart hp.mono hcal)) hs4)
  have hs6 : Within R s s6 := (hs5.withCalBdacQueueSenseQueue hp.mono)
  exact ((hs6.calNext hp.mono hcal).runCheck hp.mono hk)

theorem Within.calDeferredStart {h' : ℕ} (h : Within R s t) (hp : R.Allows
    (([.ctl .sense] : List Piece) ++ Part.cal.pieces ++ ([.mgmt .inProgress] : List Piece)))
    (hk : R.OpenAt [F.CAL_STATE_HANDLE, F.CAL_STATE_TARGETS] 0) (hk8 : R.Opens [F.LRX_SLICE_STATUS_WINGS] 8)
    (hk16 : R.Opens [F.HSL_SLICE_STATUS_WINGS] 16) (hcal : ∀ i, R.OpenAt calShown i) :
    Within R s (calDeferredStart h' t) := by
  unfold Machine.calDeferredStart
  split
  · exact h
  · refine Within.ite ?_ ?_
    · split
      · exact ((h.withCalFired hp.mono).calStart hp hk hk8 hk16 hcal)
      · exact (h.withCalFired hp.mono)
    · exact h

theorem Within.cueSet {c : Cmd} (h : Within R s t) (hp : R.Allows [.time .cues]) (hk8 : R.Opens [F.LTX_STATUS_SEALED] 8) :
    Answers R s (cueSet c t) := by
  unfold Machine.cueSet
  exact (Answers.withChecks h fun _ => (h.setCue hp hk8).done)

theorem Within.cueCancel {c : Cmd} (h : Within R s t) (hp : R.Allows [.time .cues]) (hk8 : R.Opens [F.LTX_STATUS_SEALED] 8) :
    Answers R s (cueCancel c t) := by
  unfold Machine.cueCancel
  exact (Answers.withChecks h fun _ => (h.cancelCue hp hk8).done)

theorem Within.cueRead {c : Cmd} (h : Within R s t) :
    Answers R s (cueRead c t) := by
  unfold Machine.cueRead
  split
  · exact h.done
  · exact h.done

theorem Within.reserveCue {e : ℕ} {n : ℕ} {p : ℕ} {epoch : BitVec 16} {trigger : BitVec 48} {action : ℕ} {arg : ℕ}
    {owner : CueOwner} (h : Within R s t) (hp : R.Allows [.time .cues, .aside .lanes, .aside .agreeCount])
    (hk8 : R.Opens [F.LTX_STATUS_SEALED] 8) :
    Within R s (reserveCue t e n p epoch trigger action arg owner) := by
  unfold Machine.reserveCue
  extract_lets +onlyGivenNames id _ s1
  have hs1 : Within R s s1 := (h.withAsideAgreeCount hp.mono)
  exact ((hs1.setCue hp.mono hk8).enqueue hp.mono)

theorem Within.cueAgree {c : Cmd} (h : Within R s t) (hp : R.Allows [.time .cues, .aside .lanes, .aside .agreeCount,
    .mgmt .inProgress]) (hk8 : R.Opens [F.LTX_STATUS_SEALED] 8) :
    Answers R s (cueAgree c t) := by
  unfold Machine.cueAgree
  exact (Answers.withChecks h fun _ => ((h.reserveCue hp.mono hk8).later hp.mono))

theorem Within.agreeFailed {e : ℕ} {code : ℕ} {sub : ℕ} (h : Within R s t)
    (hp : R.Allows [.time .cues, .lanes .xa, .mgmt .inProgress]) (hk8 : R.Opens
    [F.LTX_STATUS_SEALED, F.LTX_XA_STATUS_REASON, F.LTX_XA_STATUS_STATE] 8) :
    Within R s (agreeFailed t e code sub) := by
  unfold Machine.agreeFailed
  split
  · extract_lets +onlyGivenNames s1
    have hs1 : Within R s s1 := (h.setCue hp.mono (hk8.mono (by decide)))
    split
    · exact (hs1.foldl fun _ _ m3 h4 => (h4.xaStop hp.mono (hk8.mono (by decide)) (hk8.at (lt_of_mem_whichBelow m3) (by decide))))
    · exact (hs1.completeProg hp.mono)
  · exact h

theorem Within.cueProposeResend {e : ℕ} (h : Within R s t) (hp : R.Allows [.aside .lanes]) :
    Within R s (cueProposeResend e t) := by
  unfold Machine.cueProposeResend
  split
  · exact (h.enqueueOnce hp)
  · exact h

theorem Within.hcAdjust {c : Cmd} (h : Within R s t) (hp : R.Allows [.time .hc, .time .estimated])
    (hk : R.OpenAt [F.CUE_SC_STATE_HC_ESTIMATED] 0) :
    Answers R s (hcAdjust c t) := by
  unfold Machine.hcAdjust
  exact (Answers.withChecks h fun _ => ((h.withTimeHcEstimated hp).wr hk).done)

theorem Within.ifaceWrite {iface : Iface} {e : BusErrs} {a : ℕ} {d : ℕ} (h : Within R s t) (hp : R.Allows cycleWritePieces)
    (hw : R.Wide) (hb : R.bulk) :
    Within R s (ifaceWrite iface t e a d).1 := by
  unfold Machine.ifaceWrite
  split
  · exact (h.busError hp.mono hw.openAt)
  · exact (h.writeApply hp.mono hw hb)

theorem Within.oneWrite {iface : Iface} {a : ℕ} {d : ℕ} (h : Within R s t) (hp : R.Allows oneWritePieces) (hw : R.Wide)
    (hb : R.bulk) :
    Within R s (oneWrite iface a d t) := by
  unfold Machine.oneWrite
  refine Within.ite ?_ ?_
  · extract_lets +onlyGivenNames r
    have hr : Within R s r.1 := (h.ifaceWrite hp.mono hw hb)
    exact ((hr.busReport hp.mono).signalWrite hp.mono)
  · exact h

theorem Within.writeBeside {iface : Iface} {a : ℕ} {d : ℕ} {beside : List Beside} (h : Within R s t) (hp : R.Allows cyclePieces)
    (hw : R.Wide) (hb : R.bulk) :
    Within R s (writeBeside iface a d beside t) := by
  unfold Machine.writeBeside
  exact (Within.ite (h.oneWrite hp.mono hw hb) (h.cycleWith hp hw hb))

theorem Within.votedUpset {b : VotedBit} (h : Within R s t) (hp : R.Allows [.mgmt .tmrLast, .mgmt .tmrSince]) :
    Within R s (votedUpset b t) := by
  unfold Machine.votedUpset
  refine Within.ite ?_ ?_
  · extract_lets +onlyGivenNames s1 n
    have hs1 : Within R s s1 := h.bump
    exact (Within.ite ((hs1.withMgmtTmrLastTmrSince hp).raiseEvent) (hs1.withMgmtTmrSince hp.mono))
  · exact h

theorem Within.searchEnd {l : LaneId} {best : ℕ} {ratio : ℕ} (h : Within R s t)
    (hp : R.Allows [.lanes .lineFront, .lanes .hostFront, .lanes .lineEq, .lanes .hostEq])
    (hk8 : R.Opens ([F.LRX_CTLE_STATUS_CODE, F.LRX_CTLE_STATUS_METRIC, F.LRX_STATUS_CTLE_SEARCH] ++ eqTapFields ++ eqStateFields)
    8) (hk16 : R.Opens ([F.HSL_STATUS_CTLE_CODE] ++ hostEqFields) 16) :
    Within R s (searchEnd t l best ratio) := by
  unfold Machine.searchEnd
  extract_lets +onlyGivenNames _ s1 s2
  have hs1 : Within R s s1 := (h.setFront hp.mono)
  have hs2 : Within R s s2 := (((hs1.setCtle (hk8.mono (by decide)) (hk16.mono (by decide))).wrLine
      (hk8.mono (by decide))).wrLine (hk8.mono (by decide)))
  exact (Within.ite (hs2.eqStart hp.mono (hk8.mono (by decide)) (hk16.mono (by decide)))
      (hs2.eqRefresh (hk8.mono (by decide)) (hk16.mono (by decide))))

theorem Within.ctleDwellEnd {l : LaneId} {codes : List ℤ} (h : Within R s t)
    (hp : R.Allows [.lanes .lineFront, .lanes .hostFront, .lanes .lineEq, .lanes .hostEq])
    (hk8 : R.Opens ([F.LRX_CTLE_STATUS_CODE, F.LRX_CTLE_STATUS_METRIC, F.LRX_STATUS_CTLE_SEARCH] ++ eqTapFields ++ eqStateFields)
    8) (hk16 : R.Opens ([F.HSL_STATUS_CTLE_CODE] ++ hostEqFields) 16) :
    Within R s (ctleDwellEnd l codes t) := by
  unfold Machine.ctleDwellEnd
  split
  · exact h
  · refine Within.ite ?_ ?_
    · exact h
    · extract_lets +onlyGivenNames ratio dist best
      refine Within.ite ?_ ?_
      · extract_lets +onlyGivenNames _ s1
        have hs1 : Within R s s1 := (h.setFront hp.mono)
        exact ((hs1.wrLine (hk8.mono (by decide))).setCtle (hk8.mono (by decide)) (hk16.mono (by decide)))
      · exact (h.searchEnd hp hk8 hk16)

theorem Within.vgaSettle {l : LaneId} (h : Within R s t) (hp : R.Allows [.lanes .lineFront, .lanes .hostFront])
    (hk8 : R.Opens [F.LRX_VGA_STATUS_DEFERRED] 8) :
    Within R s (vgaSettle t l) := by
  unfold Machine.vgaSettle
  exact (Within.ite ((h.setFront hp).wrLine hk8) h)

theorem Within.vgaMeasurement {l : LaneId} {codes : List ℤ} (h : Within R s t)
    (hp : R.Allows [.lanes .lineFront, .lanes .hostFront, .ctl .levelSeq])
    (hk8 : R.Opens [F.LRX_VGA_STATUS_AT_LIMIT, F.LRX_VGA_STATUS_DEFERRED, F.LRX_VGA_STATUS_LEVEL] 8) :
    Within R s (vgaMeasurement l codes t) := by
  unfold Machine.vgaMeasurement
  refine Within.ite ?_ ?_
  · extract_lets +onlyGivenNames x level low high s1 s2 s3 s4
    have hs1 : Within R s s1 := (h.setFront hp.mono)
    have hs2 : Within R s s2 := (hs1.wrLine (hk8.mono (by decide)))
    have hs3 : Within R s s3 := (hs2.wrLine (hk8.mono (by decide)))
    have hs4 : Within R s s4 := (hs3.vgaSettle hp.mono (hk8.mono (by decide)))
    split
    · exact (hs4.withCtlLevelSeq hp.mono)
    · exact hs4
  · exact h

theorem Within.bumpLine {l : LaneId} {k : ℕ} (h : Within R s t) :
    Within R s (bumpLine t l k) := by
  unfold Machine.bumpLine
  split
  · exact h.bump
  · exact h

theorem Within.vgaDefer {l : LaneId} {d : ℤ} (h : Within R s t) (hp : R.Allows [.lanes .lineFront, .lanes .hostFront])
    (hk8 : R.Opens [F.LRX_VGA_STATUS_DEFERRED] 8) :
    Within R s (vgaDefer t l d) := by
  unfold Machine.vgaDefer
  extract_lets +onlyGivenNames s1
  have hs1 : Within R s s1 := (h.wrLine hk8)
  exact (Within.ite hs1 ((hs1.setFront hp).bumpLine))

theorem Within.vgaMove {l : LaneId} {d : ℤ} (h : Within R s t) (hp : R.Allows
    [.lanes .lineFront, .lanes .hostFront, .lanes .lineEq, .lanes .hostEq])
    (hk8 : R.Opens ([F.LRX_VGA_STATUS_AT_LIMIT, F.LRX_VGA_STATUS_CODE] ++ eqTapFields ++ eqStateFields) 8)
    (hk16 : R.Opens ([F.HSL_STATUS_VGA_CODE] ++ hostEqFields) 16) :
    Within R s (vgaMove t l d) := by
  unfold Machine.vgaMove
  extract_lets +onlyGivenNames s1 _ s2 s3
  have hs1 : Within R s s1 := (h.wrL (hk8.mono (by decide)) (hk16.mono (by decide)))
  have hs2 : Within R s s2 := (hs1.setFront hp.mono)
  have hs3 : Within R s s3 := (hs2.putEq hp.mono (hk8.mono (by decide)) (hk16.mono (by decide)))
  exact ((hs3.wrLine (hk8.mono (by decide))).bumpL)

theorem Within.vgaStep {l : LaneId} (h : Within R s t) (hp : R.Allows [.lanes .lineFront, .lanes .hostFront, .lanes .lineEq,
    .lanes .hostEq]) (hk8 : R.Opens ([F.LRX_VGA_STATUS_AT_LIMIT, F.LRX_VGA_STATUS_CODE, F.LRX_VGA_STATUS_DEFERRED] ++ eqTapFields
    ++ eqStateFields) 8) (hk16 : R.Opens ([F.HSL_STATUS_VGA_CODE] ++ hostEqFields) 16) :
    Within R s (vgaStep l t) := by
  unfold Machine.vgaStep
  extract_lets +onlyGivenNames d
  refine Within.ite ?_ ?_
  · exact h
  · refine Within.ite ?_ ?_
    · exact ((h.wrLine (hk8.mono (by decide))).vgaSettle hp.mono (hk8.mono (by decide)))
    · refine Within.ite ?_ ?_
      · exact (h.vgaDefer hp.mono (hk8.mono (by decide)))
      · extract_lets +onlyGivenNames s1
        have hs1 : Within R s s1 := (h.wrLine (hk8.mono (by decide)))
        exact (Within.ite (hs1.vgaMove hp (hk8.mono (by decide)) hk16) hs1)

theorem Within.flagSlice {l : LaneId} {k : ℕ} {cause : ℕ} (h : Within R s t)
    (hp : R.Allows [.lanes .lineFront, .lanes .hostFront, .cal .run, .cal .lineLaps, .cal .hostLaps, .mgmt .inProgress])
    (hk8 : R.Opens ([F.LRX_SLICE_STATUS_NOSPARE, F.LRX_SLICE_STATUS_WINGS] ++ sliceFailedFields) 8)
    (hk16 : R.Opens [F.HSL_SLICE_FAILED_FAILED, F.HSL_SLICE_STATUS_FAILED_32, F.HSL_SLICE_STATUS_NOSPARE,
    F.HSL_SLICE_STATUS_WINGS] 16) (hk : R.OpenAt [F.CAL_STATE_HANDLE, F.CAL_STATE_TARGETS] 0) (hcal : ∀ i, R.OpenAt calShown i) :
    Within R s (flagSlice t l k cause) := by
  unfold Machine.flagSlice
  extract_lets +onlyGivenNames x
  refine Within.ite ?_ ?_
  · exact h
  · extract_lets +onlyGivenNames s1
    have hs1 : Within R s s1 := (h.setSlices hp.mono)
    refine Within.ite ?_ ?_
    · exact (hs1.setSlices hp.mono)
    · extract_lets +onlyGivenNames s2
      have hs2 : Within R s s2 := (hs1.endWings hp (hk8.mono (by decide)) (hk16.mono (by decide)) hk hcal)
      exact (Within.ite ((hs2.setSlices hp.mono).raiseNoSpare (hk8.mono (by decide)) (hk16.mono (by decide)))
          (hs2.setSlices hp.mono))

theorem Within.sliceMonitorWindow {l : LaneId} {codes : List (List ℤ)} (h : Within R s t)
    (hp : R.Allows [.lanes .lineFront, .lanes .hostFront, .cal .run, .cal .lineLaps, .cal .hostLaps, .mgmt .inProgress])
    (hk8 : R.Opens ([F.LRX_SLICE_STATUS_NOSPARE, F.LRX_SLICE_STATUS_WINGS] ++ sliceFailedFields) 8)
    (hk16 : R.Opens [F.HSL_SLICE_FAILED_FAILED, F.HSL_SLICE_STATUS_FAILED_32, F.HSL_SLICE_STATUS_NOSPARE,
    F.HSL_SLICE_STATUS_WINGS] 16) (hk : R.OpenAt [F.CAL_STATE_HANDLE, F.CAL_STATE_TARGETS] 0) (hcal : ∀ i, R.OpenAt calShown i) :
    Within R s (sliceMonitorWindow l codes t) := by
  unfold Machine.sliceMonitorWindow
  extract_lets +onlyGivenNames x
  refine Within.ite ?_ ?_
  · exact h
  · refine Within.ite ?_ ?_
    · exact (h.setSlices hp.mono)
    · extract_lets +onlyGivenNames stats checked runs
      refine (h.setSlices hp.mono).foldl fun u1 x2 m3 h4 => ?_
      split
      · exact (h4.flagSlice hp hk8 hk16 hk hcal)
      · exact h4

theorem Within.sliceRetire {l : LaneId} {k : ℕ} (h : Within R s t) (hp : R.Allows
    [.lanes .lineFront, .lanes .hostFront, .cal .run, .cal .lineLaps, .cal .hostLaps, .mgmt .inProgress])
    (hk8 : R.Opens ([F.LRX_SLICE_STATUS_NOSPARE, F.LRX_SLICE_STATUS_WINGS] ++ sliceFailedFields) 8)
    (hk16 : R.Opens [F.HSL_SLICE_FAILED_FAILED, F.HSL_SLICE_STATUS_FAILED_32, F.HSL_SLICE_STATUS_NOSPARE,
    F.HSL_SLICE_STATUS_WINGS] 16) (hk : R.OpenAt [F.CAL_STATE_HANDLE, F.CAL_STATE_TARGETS] 0) (hcal : ∀ i, R.OpenAt calShown i) :
    Answers R s (sliceRetire l k t) := by
  unfold Machine.sliceRetire
  exact (Answers.withChecks h fun _ => ((h.flagSlice hp hk8 hk16 hk hcal).later hp.mono))

theorem Within.sliceRestore {l : LaneId} {k : ℕ} (h : Within R s t) (hp : R.Allows
    [.lanes .lineFront, .lanes .hostFront, .mgmt .inProgress]) (hk8 : R.Opens [F.LRX_SLICE_STATUS_WINGS] 8)
    (hk16 : R.Opens [F.HSL_SLICE_STATUS_WINGS] 16) :
    Answers R s (sliceRestore l k t) := by
  unfold Machine.sliceRestore
  exact (Answers.withChecks h fun _ => (((h.setSlices hp.mono).setWings hk8 hk16).later hp.mono))

theorem Within.clearFailed {l : LaneId} {k : ℕ} (h : Within R s t) (hk8 : R.Opens sliceFailedFields 8)
    (hk16 : R.Opens [F.HSL_SLICE_FAILED_FAILED, F.HSL_SLICE_STATUS_FAILED_32] 16) :
    Within R s (clearFailed t l k) := by
  unfold Machine.clearFailed
  exact (Within.ite (h.setFailedMask hk8 hk16) h)

theorem Within.sliceRestoreTestEnd {l : LaneId} {pass : Bool} (h : Within R s t)
    (hp : R.Allows [.lanes .lineFront, .lanes .hostFront, .mgmt .inProgress])
    (hk8 : R.Opens ([F.LRX_SLICE_STATUS_NOSPARE, F.LRX_SLICE_STATUS_WINGS] ++ sliceFailedFields) 8)
    (hk16 : R.Opens [F.HSL_SLICE_FAILED_FAILED, F.HSL_SLICE_STATUS_FAILED_32, F.HSL_SLICE_STATUS_NOSPARE,
    F.HSL_SLICE_STATUS_WINGS] 16) :
    Within R s (sliceRestoreTestEnd l pass t) := by
  unfold Machine.sliceRestoreTestEnd
  extract_lets +onlyGivenNames x op
  refine Within.ite ?_ h
  extract_lets +onlyGivenNames s1
  have hs1 : Within R s s1 := (h.setSlices hp.mono).setWings (hk8.mono (by decide)) (hk16.mono (by decide))
  refine Within.ite ?_ (hs1.completeProg hp.mono)
  have hs2 := hs1.clearFailed (l := l) (k := Machine.understudy s1 l) (hk8.mono (by decide)) (hk16.mono (by decide))
  have hs4 := hs2.setNoSpare (l := l) (b := false) (hk8.mono (by decide)) (hk16.mono (by decide))
  refine Within.completeProg (.ite ?_ hs2) hp.mono
  split
  · exact hs4.setSlices hp.mono
  · exact hs4

theorem Within.trainDone {l : LaneId} (h : Within R s t) (hp : R.Allows [.lanes .lineFront, .lanes .hostFront,
    .mgmt .inProgress]) (hk16 : R.Opens [F.HSL_STATUS_TRAINED, F.HSL_STATUS_TRAINING] 16) :
    Within R s (trainDone t l) := by
  unfold Machine.trainDone
  split
  · exact h
  · next n =>
      refine Within.ite ?_ ?_
      · extract_lets +onlyGivenNames _ s1
        have hs1 : Within R s s1 := (((h.setFront hp.mono).wr (hk16 _ (Fin.isLt _))).wr (hk16 _ (Fin.isLt _)))
        exact (hs1.raiseEvent.retrainLaneDone hp.mono)
      · exact h

theorem Within.lockJudge {l : LaneId} (h : Within R s t) (hp : R.Allows lockJudgePieces)
    (hk8 : R.Opens ([F.LRX_CTLE_STATUS_CODE, F.LRX_STATUS_CTLE_SEARCH, F.LRX_STATUS_LOL, F.LTX_STATUS_SEALED,
    F.LTX_XA_STATUS_REASON, F.LTX_XA_STATUS_STATE] ++ eqTapFields ++ eqStateFields ++ lineTxFields) 8)
    (hk16 : R.Opens ([F.HSL_ALIGN_STATUS_LOCKED, F.HSL_STATUS_CTLE_CODE, F.HSL_STATUS_LOL, F.HSL_STATUS_TRAINED,
    F.HSL_STATUS_TRAINING] ++ hostEqFields ++ hostTxFields) 16) (hka : ∀ i, R.OpenAt
    ([F.PCS_ALIGN_STATUS_RX_DESKEWED, F.PCS_ALIGN_STATUS_TX_ALIGNED, F.PCS_LINK_STATUS_LOST, F.PCS_LINK_STATUS_PROBED,
    F.PCS_LINK_STATUS_REASON, F.PCS_LINK_STATUS_STATE, F.PCS_LINK_TIME_RESTARTS] ++ alignFields ++ rmFields) i) :
    Within R s (lockJudge t l) := by
  unfold Machine.lockJudge
  extract_lets +onlyGivenNames x ok pass fail s1
  have hs1 : Within R s s1 := (h.setFront hp.mono)
  exact (Within.ite ((hs1.setLol hp.mono (hk8.mono (by decide)) (hk16.mono (by decide))).trainDone hp.mono
      (hk16.mono (by decide))) (Within.ite (hs1.lolRises hp.mono hk8 (hk16.mono (by decide)) hka) hs1))

theorem Within.lockWindowEnd {l : LaneId} {xs : List ℤ} (h : Within R s t) (hp : R.Allows lockWindowEndPieces)
    (hk8 : R.Opens ([F.LRX_CTLE_STATUS_CODE, F.LRX_STATUS_CTLE_SEARCH, F.LRX_STATUS_LOL, F.LRX_TPC_STATUS_LOCK,
    F.LRX_TR_STATUS_FREQ, F.LRX_TR_STATUS_PI_CODE, F.LTX_STATUS_SEALED, F.LTX_XA_STATUS_REASON, F.LTX_XA_STATUS_STATE] ++
    eqTapFields ++ eqStateFields ++ lineTxFields) 8) (hk16 : R.Opens ([F.HSL_ALIGN_STATUS_LOCKED, F.HSL_STATUS_CTLE_CODE,
    F.HSL_STATUS_LOL, F.HSL_STATUS_PI_CODE, F.HSL_STATUS_TRAINED, F.HSL_STATUS_TRAINING, F.HSL_TPC_STATUS_LOCK] ++ hostEqFields
    ++ hostTxFields) 16) (hka : ∀ i, R.OpenAt ([F.PCS_ALIGN_STATUS_RX_DESKEWED, F.PCS_ALIGN_STATUS_TX_ALIGNED,
    F.PCS_LINK_STATUS_LOST, F.PCS_LINK_STATUS_PROBED, F.PCS_LINK_STATUS_REASON, F.PCS_LINK_STATUS_STATE,
    F.PCS_LINK_TIME_RESTARTS] ++ alignFields ++ rmFields) i) :
    Within R s (lockWindowEnd l xs t) := by
  unfold Machine.lockWindowEnd
  extract_lets +onlyGivenNames s1
  have hs1 : Within R s s1 := (h.rxStream hp.mono (hk8.mono (by decide)) (hk16.mono (by decide)))
  exact (Within.ite hs1 (Within.ite (hs1.lockWindowClear hp.mono) ((hs1.lockJudge hp.mono (hk8.mono (by decide))
      (hk16.mono (by decide)) hka).lockWindowClear hp.mono)))

theorem Within.losDetector {l : LaneId} {env : Option ℕ} {b : Bool} (h : Within R s t) (hp : R.Allows setLosPieces)
    (hk8 : R.Opens ([F.ASD_LEVEL_REF, F.LRX_CTLE_STATUS_CODE, F.LRX_STATUS_CTLE_SEARCH, F.LRX_STATUS_LOL, F.LRX_STATUS_LOS,
    F.LRX_STATUS_LOS_ENV, F.LRX_STATUS_LOS_RMS, F.LTX_STATUS_SEALED, F.LTX_XA_STATUS_REASON, F.LTX_XA_STATUS_STATE] ++
    eqTapFields ++ eqStateFields ++ lineTxFields) 8) (hk16 : R.Opens ([F.HSL_ALIGN_STATUS_LOCKED, F.HSL_STATUS_CTLE_CODE,
    F.HSL_STATUS_LOL, F.HSL_STATUS_LOS] ++ hostEqFields ++ hostTxFields) 16)
    (hka : ∀ i, R.OpenAt ([F.PCS_ALIGN_STATUS_RX_DESKEWED, F.PCS_ALIGN_STATUS_TX_ALIGNED, F.PCS_LINK_STATUS_LOST,
    F.PCS_LINK_STATUS_PROBED, F.PCS_LINK_STATUS_REASON, F.PCS_LINK_STATUS_STATE, F.PCS_LINK_TIME_RESTARTS] ++ alignFields ++
    rmFields) i) :
    Within R s (losDetector l env b t) := by
  unfold Machine.losDetector
  exact (Within.ite h (Within.ite (Within.ite ((h.setFront hp.mono).losFollow hp hk8 hk16 hka) h)
      (Within.ite ((h.setFront hp.mono).losFollow hp hk8 hk16 hka) h)))

theorem Within.lrxSpotStart {c : Cmd} (h : Within R s t) (hp : R.Allows [.lanes .spot, .mgmt .inProgress])
    (hk : R.OpenAt [F.LRX_SPOT_STATUS_STATE] (c.w 2)) :
    Answers R s (lrxSpotStart c t) := by
  unfold Machine.lrxSpotStart
  exact (Answers.withChecks h fun _ => ((h.spotBegin hp.mono hk).later hp.mono))

theorem Within.spotEnd {n : ℕ} {parity : Bool} (h : Within R s t) (hp : R.Allows [.lanes .spot, .mgmt .inProgress, .mem .parity])
    (hk : R.OpenAt [F.LRX_SPOT_STATUS_FREEWHEEL, F.LRX_SPOT_STATUS_LOS, F.LRX_SPOT_STATUS_PARITY, F.LRX_SPOT_STATUS_SOURCE,
    F.LRX_SPOT_STATUS_STATE, F.LRX_SPOT_STATUS_SWAP] n) :
    Within R s (spotEnd n parity t) := by
  unfold Machine.spotEnd
  extract_lets +onlyGivenNames x flags s1 s2 s3 s4 s5 s6
  have hs1 : Within R s s1 := (h.setSpot hp.mono)
  have hs2 : Within R s s2 := ((hs1.wr hk).wr hk)
  have hs3 : Within R s s3 := ((hs2.wrB hk).wrB hk)
  have hs4 : Within R s s4 := ((hs3.wrB hk).wrB hk)
  have hs5 : Within R s s5 := (Within.ite (hs4.raiseParity hp.mono) hs4)
  have hs6 : Within R s s6 := hs5.bump.raiseEvent
  exact (hs6.completeProg hp.mono)

theorem Within.spotCaptureEnd {n : ℕ} {xs : List ℤ} {parity : Bool} (h : Within R s t)
    (hp : R.Allows [.lanes .lineFront, .lanes .hostFront, .lanes .lineRx, .lanes .hostRx, .lanes .spot, .mgmt .inProgress,
    .mem .parity]) (hk8 : R.Opens [F.LRX_TPC_STATUS_LOCK, F.LRX_TR_STATUS_FREQ, F.LRX_TR_STATUS_PI_CODE] 8)
    (hk16 : R.Opens [F.HSL_STATUS_PI_CODE, F.HSL_TPC_STATUS_LOCK] 16) (hk : R.OpenAt
    [F.LRX_SPOT_STATUS_FREEWHEEL, F.LRX_SPOT_STATUS_LOS, F.LRX_SPOT_STATUS_PARITY, F.LRX_SPOT_STATUS_SOURCE,
    F.LRX_SPOT_STATUS_STATE, F.LRX_SPOT_STATUS_SWAP] n) :
    Within R s (spotCaptureEnd n xs parity t) := by
  unfold Machine.spotCaptureEnd
  extract_lets +onlyGivenNames s1
  have hs1 : Within R s s1 := (h.rxStream hp.mono hk8 hk16)
  exact (Within.ite (hs1.spotEnd hp.mono hk) hs1)

theorem Within.lrxSpotRead {c : Cmd} (h : Within R s t) (hb : R.bulk) :
    Answers R s (lrxSpotRead c t) := by
  unfold Machine.lrxSpotRead
  exact (Answers.withChecks h fun _ => (h.putBytes hb).done)

theorem Within.eqUpdate {l : LaneId} {xs : List ℤ} (h : Within R s t) (hp : R.Allows
    [.lanes .lineFront, .lanes .hostFront, .lanes .lineEq, .lanes .hostEq, .lanes .lineRx, .lanes .hostRx, .lanes .spot])
    (hk8 : R.Opens ([F.LRX_TPC_STATUS_LOCK, F.LRX_TR_STATUS_FREQ, F.LRX_TR_STATUS_PI_CODE] ++ eqTapFields ++ eqStateFields) 8)
    (hk16 : R.Opens ([F.HSL_STATUS_PI_CODE, F.HSL_TPC_STATUS_LOCK] ++ hostEqFields) 16) :
    Within R s (eqUpdate l xs t) := by
  unfold Machine.eqUpdate
  extract_lets +onlyGivenNames s' b
  have hs' : Within R s s' := (h.rxStream hp.mono (hk8.mono (by decide)) (hk16.mono (by decide)))
  exact (Within.ite hs' (hs'.putEq hp.mono (hk8.mono (by decide)) (hk16.mono (by decide))))

theorem Within.warmFail {l : LaneId} {count : ℕ} (h : Within R s t) (hp : R.Allows
    [.time .tx, .time .rx, .time .paired, .time .cues, .lanes .lineFront, .lanes .hostFront, .lanes .lineEq, .lanes .hostEq,
    .lanes .lineOut, .lanes .hostOut, .lanes .lock, .lanes .xa, .link, .path .tx, .path .rx, .cal .skewLive])
    (hka : ∀ i, R.OpenAt ([F.PCS_ALIGN_STATUS_RX_DESKEWED, F.PCS_ALIGN_STATUS_TX_ALIGNED, F.PCS_LINK_STATUS_LOST,
    F.PCS_LINK_STATUS_PROBED, F.PCS_LINK_STATUS_REASON, F.PCS_LINK_STATUS_STATE, F.PCS_LINK_TIME_RESTARTS] ++ alignFields ++
    rmFields) i) (hk8 : R.Opens ([F.LRX_CTLE_STATUS_CODE, F.LRX_STATUS_CTLE_SEARCH, F.LTX_STATUS_SEALED, F.LTX_XA_STATUS_REASON,
    F.LTX_XA_STATUS_STATE] ++ eqTapFields ++ eqStateFields ++ lineTxFields) 8)
    (hk16 : R.Opens ([F.HSL_ALIGN_STATUS_LOCKED, F.HSL_STATUS_CTLE_CODE] ++ hostEqFields ++ hostTxFields) 16) :
    Within R s (warmFail t l count) := by
  unfold Machine.warmFail
  split
  · exact ((h.bump.raiseEvent.laneLost hp hka hk8 hk16).eqStart hp.mono (hk8.mono (by decide)) (hk16.mono (by decide)))
  · exact (h.eqStart hp.mono (hk8.mono (by decide)) (hk16.mono (by decide)))

theorem Within.raiseLine {l : LaneId} {e : Ev} (h : Within R s t) :
    Within R s (raiseLine t l e) := by
  unfold Machine.raiseLine
  split
  · exact h.raiseEvent
  · exact h

theorem Within.cmaFallback {l : LaneId} {count : ℕ} (h : Within R s t) (hp : R.Allows [.lanes .lineEq, .lanes .hostEq])
    (hk8 : R.Opens (eqTapFields ++ eqStateFields) 8) (hk16 : R.Opens hostEqFields 16) :
    Within R s (cmaFallback t l count) := by
  unfold Machine.cmaFallback
  extract_lets +onlyGivenNames e s1
  have hs1 : Within R s s1 := (h.putEq hp hk8 hk16)
  exact hs1.bumpLine.raiseLine

theorem Within.ddWindow {l : LaneId} {beyond : Bool} {count : ℕ} {at0 : ℕ} (h : Within R s t)
    (hp : R.Allows [.time .tx, .time .rx, .time .paired, .time .cues, .lanes .lineFront, .lanes .hostFront, .lanes .lineEq,
    .lanes .hostEq, .lanes .lineOut, .lanes .hostOut, .lanes .lock, .lanes .xa, .link, .path .tx, .path .rx, .cal .skewLive])
    (hk8 : R.Opens ([F.LRX_CTLE_STATUS_CODE, F.LRX_STATUS_CTLE_SEARCH, F.LTX_STATUS_SEALED, F.LTX_XA_STATUS_REASON,
    F.LTX_XA_STATUS_STATE] ++ eqTapFields ++ eqStateFields ++ lineTxFields) 8)
    (hk16 : R.Opens ([F.HSL_ALIGN_STATUS_LOCKED, F.HSL_STATUS_CTLE_CODE] ++ hostEqFields ++ hostTxFields) 16)
    (hka : ∀ i, R.OpenAt ([F.PCS_ALIGN_STATUS_RX_DESKEWED, F.PCS_ALIGN_STATUS_TX_ALIGNED, F.PCS_LINK_STATUS_LOST,
    F.PCS_LINK_STATUS_PROBED, F.PCS_LINK_STATUS_REASON, F.PCS_LINK_STATUS_STATE, F.PCS_LINK_TIME_RESTARTS] ++ alignFields ++
    rmFields) i) :
    Within R s (ddWindow t l beyond count at0) := by
  unfold Machine.ddWindow
  extract_lets +onlyGivenNames e st bad
  split
  · exact (Within.ite (h.putEq hp.mono (hk8.mono (by decide)) (hk16.mono (by decide)))
      (Within.ite (h.putEq hp.mono (hk8.mono (by decide)) (hk16.mono (by decide)))
      (Within.ite ((h.putEq hp.mono (hk8.mono (by decide)) (hk16.mono (by decide))).warmFail hp hka hk8 hk16)
      (h.putEq hp.mono (hk8.mono (by decide)) (hk16.mono (by decide))))))
  · exact (Within.ite (h.cmaFallback hp.mono (hk8.mono (by decide)) (hk16.mono (by decide)))
      (h.putEq hp.mono (hk8.mono (by decide)) (hk16.mono (by decide))))

theorem Within.cmaWindow {l : LaneId} {beyond : Bool} (h : Within R s t) (hp : R.Allows [.lanes .lineEq, .lanes .hostEq])
    (hk8 : R.Opens (eqTapFields ++ eqStateFields) 8) (hk16 : R.Opens hostEqFields 16) :
    Within R s (cmaWindow t l beyond) := by
  unfold Machine.cmaWindow
  exact (Within.ite (h.putEq hp hk8 hk16) (Within.ite (h.putEq hp hk8 hk16) ((h.putEq hp hk8 hk16).raiseDdEntry)))

theorem Within.outlierWindowEnd {l : LaneId} {xs : List ℤ} (h : Within R s t) (hp : R.Allows outlierWindowEndPieces)
    (hk8 : R.Opens ([F.LEQ_STATUS_OUTLIERS, F.LRX_CTLE_STATUS_CODE, F.LRX_STATUS_CTLE_SEARCH, F.LRX_TPC_STATUS_LOCK,
    F.LRX_TR_STATUS_FREQ, F.LRX_TR_STATUS_PI_CODE, F.LTX_STATUS_SEALED, F.LTX_XA_STATUS_REASON, F.LTX_XA_STATUS_STATE] ++
    eqTapFields ++ eqStateFields ++ lineTxFields) 8) (hk16 : R.Opens ([F.HSL_ALIGN_STATUS_LOCKED, F.HSL_STATUS_CTLE_CODE,
    F.HSL_STATUS_PI_CODE, F.HSL_TPC_STATUS_LOCK] ++ hostEqFields ++ hostTxFields) 16)
    (hka : ∀ i, R.OpenAt ([F.PCS_ALIGN_STATUS_RX_DESKEWED, F.PCS_ALIGN_STATUS_TX_ALIGNED, F.PCS_LINK_STATUS_LOST,
    F.PCS_LINK_STATUS_PROBED, F.PCS_LINK_STATUS_REASON, F.PCS_LINK_STATUS_STATE, F.PCS_LINK_TIME_RESTARTS] ++ alignFields ++
    rmFields) i) :
    Within R s (outlierWindowEnd l xs t) := by
  unfold Machine.outlierWindowEnd
  extract_lets +onlyGivenNames s1 count at0 _ s2
  have hs1 : Within R s s1 := (h.rxStream hp.mono (hk8.mono (by decide)) (hk16.mono (by decide)))
  have hs2 : Within R s s2 := (hs1.setRxRec hp.mono)
  refine Within.ite ?_ ?_
  · exact hs2
  · extract_lets +onlyGivenNames s' beyond
    have hs' : Within R s s' := (hs2.wrLine (hk8.mono (by decide)))
    exact (Within.ite (hs'.ddWindow hp.mono (hk8.mono (by decide)) (hk16.mono (by decide)) hka)
        (hs'.cmaWindow hp.mono (hk8.mono (by decide)) (hk16.mono (by decide))))

theorem Within.eqWarmResume {l : LaneId} (h : Within R s t) (hp : R.Allows [.lanes .lineEq, .lanes .hostEq])
    (hk8 : R.Opens (eqTapFields ++ eqStateFields) 8) (hk16 : R.Opens hostEqFields 16) :
    Within R s (eqWarmResume l t) := by
  unfold Machine.eqWarmResume
  exact (Within.ite (h.putEq hp hk8 hk16) h)

theorem Within.tapSatFollow {l : LaneId} (h : Within R s t) (hk8 : R.Opens [F.LEQ_STATUS_TAP_SAT] 8)
    (hk16 : R.Opens [F.HSL_METRIC_TAP_SAT] 16) :
    Within R s (tapSatFollow t l) := by
  unfold Machine.tapSatFollow
  extract_lets +onlyGivenNames lim old s1
  have hs1 : Within R s s1 := (h.wrL hk8 hk16)
  exact (Within.ite hs1.raiseLine hs1)

theorem Within.snrValue {a : ℕ} {n : ℕ} {q : ℕ} (h : Within R s t) (hp : R.Allows [.free]) :
    Within R s (snrValue t a n q).1 := by
  unfold Machine.snrValue
  exact (Within.ite_fst h (Within.ite_fst (h.takeFree hp) (h.takeFree hp)))

theorem Within.metricShow {n : ℕ} {w : RxRec} (h : Within R s t) (hp : R.Allows [.free])
    (hk : R.OpenAt [F.LEQ_DCOUNT_v_COUNT, F.LEQ_HIST_b_COUNT, F.LEQ_SNR_0_SNR_M1, F.LEQ_SNR_0_SNR_M3, F.LEQ_SNR_1_SNR_P1,
    F.LEQ_SNR_1_SNR_P3, F.LEQ_SNR_ALL_SNR] n) :
    Within R s (metricShow t n w) := by
  unfold Machine.metricShow
  extract_lets +onlyGivenNames a r x0 x1 x2 x3 all s1 s2 s3 s4
  have hx3 : Within R s x3.1 := (((h.snrValue hp.mono).snrValue hp.mono).snrValue hp.mono).snrValue hp.mono
  have hs1 : Within R s s1 := ((hx3.snrValue hp.mono).wr hk).wr hk
  have hs3 : Within R s s3 := ((hs1.wr hk).wr hk).wr hk
  have hs4 : Within R s s4 := hs3.foldl fun _ _ m h4 => h4.wr hk (hj := .inr (List.mem_range.1 m))
  exact hs4.foldl fun _ _ m h4 => h4.wr hk (hj := .inr (List.mem_range.1 m))

theorem Within.metricClose {l : LaneId} (h : Within R s t) (hp : R.Allows [.free])
    (hk8 : R.Opens [F.LEQ_DCOUNT_v_COUNT, F.LEQ_HIST_b_COUNT, F.LEQ_MET_CTRL_SEQ, F.LEQ_SNR_0_SNR_M1, F.LEQ_SNR_0_SNR_M3,
    F.LEQ_SNR_1_SNR_P1, F.LEQ_SNR_1_SNR_P3, F.LEQ_SNR_ALL_SNR, F.LEQ_STATUS_TAP_SAT] 8)
    (hk16 : R.Opens [F.HSL_METRIC_SNR, F.HSL_METRIC_TAP_SAT] 16) :
    Within R s (metricClose t l) := by
  unfold Machine.metricClose
  extract_lets +onlyGivenNames w
  split
  · next n =>
      extract_lets +onlyGivenNames s1
      have hs1 : Within R s s1 := (h.inc (hk8 _ (Fin.isLt _)))
      exact (Within.ite hs1 ((hs1.metricShow hp (hk8.at (Fin.isLt _) (by decide))).tapSatFollow (hk8.mono (by decide))
          (hk16.mono (by decide))))
  · next n =>
      extract_lets +onlyGivenNames r
      have hr : Within R s r.1 := (h.snrValue hp)
      exact ((hr.wr (hk16 _ (Fin.isLt _))).tapSatFollow (hk8.mono (by decide)) (hk16.mono (by decide)))

theorem Within.metricWindowEnd {l : LaneId} {xs : List ℤ} (h : Within R s t)
    (hp : R.Allows [.lanes .lineFront, .lanes .hostFront, .lanes .lineRx, .lanes .hostRx, .lanes .spot, .free])
    (hk8 : R.Opens [F.LEQ_DCOUNT_v_COUNT, F.LEQ_HIST_b_COUNT, F.LEQ_MET_CTRL_SEQ, F.LEQ_SNR_0_SNR_M1, F.LEQ_SNR_0_SNR_M3,
    F.LEQ_SNR_1_SNR_P1, F.LEQ_SNR_1_SNR_P3, F.LEQ_SNR_ALL_SNR, F.LEQ_STATUS_TAP_SAT, F.LRX_TPC_STATUS_LOCK, F.LRX_TR_STATUS_FREQ,
    F.LRX_TR_STATUS_PI_CODE] 8) (hk16 : R.Opens [F.HSL_METRIC_SNR, F.HSL_METRIC_TAP_SAT, F.HSL_STATUS_PI_CODE,
    F.HSL_TPC_STATUS_LOCK] 16) :
    Within R s (metricWindowEnd l xs t) := by
  unfold Machine.metricWindowEnd
  extract_lets +onlyGivenNames s1
  have hs1 : Within R s s1 := (h.rxStream hp.mono (hk8.mono (by decide)) (hk16.mono (by decide)))
  exact (Within.ite (hs1.metricClear hp.mono) ((hs1.metricClose hp.mono (hk8.mono (by decide))
      (hk16.mono (by decide))).metricClear hp.mono))

theorem Within.leqStateRead {c : Cmd} (h : Within R s t) (hb : R.bulk) :
    Answers R s (leqStateRead c t) := by
  unfold Machine.leqStateRead
  exact (Answers.withChecks h fun _ => (h.bulkWords hb).done)

theorem Within.leqStateLoad {c : Cmd} (h : Within R s t) (hp : R.Allows [.lanes .lineEq, .lanes .hostEq])
    (hk8 : R.Opens (eqTapFields ++ eqStateFields) 8) (hk16 : R.Opens hostEqFields 16) (hb : R.bulk) :
    Answers R s (leqStateLoad c t) := by
  unfold Machine.leqStateLoad
  refine Answers.withChecks h fun _ => ?_
  extract_lets +onlyGivenNames r
  have hr : Within R s r.1 := (h.fetchWords hb)
  exact (hr.putEq hp hk8 hk16).done

theorem Within.swingStep {n : ℕ} (h : Within R s t) (hp : R.Allows [.lanes .tx]) (hk : R.OpenAt [F.LTX_SWING_NOW] n) :
    Within R s (swingStep n t) := by
  unfold Machine.swingStep
  exact (Within.ite ((h.setLineTx hp).wr hk) h)

theorem Within.trainingBurstEnd {l : LaneId} (h : Within R s t) (hp : R.Allows
    [.lanes .tx, .lanes .lineOut, .lanes .hostOut, .cal .skewLive, .mem .retrain]) (hk : R.OpenAt [F.MEM_LUT_STATUS_RETRAIN] 0)
    (hk8 : R.Opens lineTxFields 8) (hk16 : R.Opens hostTxFields 16) :
    Within R s (trainingBurstEnd l t) := by
  unfold Machine.trainingBurstEnd
  refine Within.ite ?_ ?_
  · extract_lets +onlyGivenNames bank s1
    have hs1 : Within R s s1 := (h.sendBurst hp.mono hk)
    exact ((hs1.setTx hp.mono hk8 hk16).raiseEvent)
  · exact h

theorem Within.lutPut {n : ℕ} {b : ℕ} {first : ℕ} {vs : List ℤ} (h : Within R s t) (hp : R.Allows [.lanes .tx, .mem .retrain])
    (hk : R.OpenAt [F.MEM_LUT_STATUS_RETRAIN] 0) :
    Within R s (lutPut t n b first vs) := by
  unfold Machine.lutPut
  extract_lets +onlyGivenNames x lut ws s1
  have hs1 : Within R s s1 := ((h.setLineTx hp.mono).bankWrittenAll)
  exact ((hs1.withMemRetrain hp.mono).retrainShow hk)

theorem Within.ltxLutWrite {c : Cmd} (h : Within R s t) (hp : R.Allows [.lanes .tx, .mem .retrain])
    (hk : R.OpenAt [F.MEM_LUT_STATUS_RETRAIN] 0) (hb : R.bulk) :
    Answers R s (ltxLutWrite c t) := by
  unfold Machine.ltxLutWrite
  extract_lets +onlyGivenNames n first count bad r es
  have hr : Within R s r.1 := (Within.ite_fst h (h.fetchWords hb))
  exact (Answers.withChecks hr fun _ => (hr.lutPut hp hk).done)

theorem Within.ltxLutRead {c : Cmd} (h : Within R s t) (hp : R.Allows [.lanes .tx, .mem .retrain])
    (hk : R.OpenAt [F.MEM_LUT_STATUS_RETRAIN] 0) (hb : R.bulk) :
    Answers R s (ltxLutRead c t) := by
  unfold Machine.ltxLutRead
  refine Answers.withChecks h fun _ => ?_
  extract_lets +onlyGivenNames b t'
  have ht' : Within R s t' := (h.lutRead hp hk)
  exact (ht'.bulkWords hb).done

theorem Within.ltxLutClear {c : Cmd} (h : Within R s t) (hp : R.Allows [.lanes .tx]) :
    Answers R s (ltxLutClear c t) := by
  unfold Machine.ltxLutClear
  exact (Answers.withChecks h fun _ => (h.lutClear hp).done)

theorem Within.lutReadAll {n : ℕ} {b : ℕ} (h : Within R s t) (hp : R.Allows [.lanes .tx, .mem .retrain])
    (hk : R.OpenAt [F.MEM_LUT_STATUS_RETRAIN] 0) :
    Within R s (lutReadAll t n b) := by
  unfold Machine.lutReadAll
  exact (h.lutRead hp hk)

theorem Within.xaKeep {n : ℕ} (h : Within R s t) (hp : R.Allows [.lanes .tx, .lanes .xaStart, .mem .retrain])
    (hk : R.OpenAt [F.MEM_LUT_STATUS_RETRAIN] 0) :
    Within R s (xaKeep t n) := by
  unfold Machine.xaKeep
  extract_lets +onlyGivenNames b s' table
  have hs' : Within R s s' := (h.lutReadAll hp.mono hk)
  clear_value s'
  exact (hs'.withLanesXaStart hp.mono)

theorem Within.xaStartCmd {c : Cmd} (h : Within R s t) (hp : R.Allows [.lanes .tx, .lanes .xa, .lanes .xaStart, .aside .lanes,
    .mem .retrain]) (hk : R.OpenAt [F.MEM_LUT_STATUS_RETRAIN] 0) (hk8 : R.Opens
    [F.LTX_XA_STATUS_ITER, F.LTX_XA_STATUS_REASON, F.LTX_XA_STATUS_RMS, F.LTX_XA_STATUS_STATE] 8) :
    Answers R s (xaStartCmd c t) := by
  unfold Machine.xaStartCmd
  refine Answers.withChecks h fun _ => ?_
  refine Within.done ?_
  refine h.foldl fun u1 x2 m3 h4 => ?_
  extract_lets +onlyGivenNames t1 t2
  have ht1 : Within R s t1 := (h4.xaKeep hp.mono hk)
  have ht2 : Within R s t2 := (((ht1.wr (hk8 _ (lt_of_mem_whichBelow m3))).wr (hk8 _ (lt_of_mem_whichBelow m3))).wr
      (hk8 _ (lt_of_mem_whichBelow m3)))
  exact (ht2.xaRequest hp.mono (hk8.at (lt_of_mem_whichBelow m3) (by decide)))

theorem Within.setRevertDue {n : ℕ} {b : Bool} (h : Within R s t) (hp : R.Allows [.lanes .revertDue]) :
    Within R s (setRevertDue t n b) := by
  unfold Machine.setRevertDue
  exact (h.withLanesRevertDue hp)

theorem Within.lutReplace {n : ℕ} {b : ℕ} {val : ℕ → ℤ} (h : Within R s t) (hp : R.Allows [.lanes .tx, .mem .retrain])
    (hk : R.OpenAt [F.MEM_LUT_STATUS_RETRAIN] 0) :
    Within R s (lutReplace t n b val) := by
  unfold Machine.lutReplace
  extract_lets +onlyGivenNames x other mine lut k _ s1
  have hs1 : Within R s s1 := ((h.setLineTx hp.mono).setBank)
  exact ((hs1.withMemRetrain hp.mono).retrainShow hk)

theorem Within.xaRevert {n : ℕ} (h : Within R s t) (hp : R.Allows [.time .cues, .lanes .tx, .lanes .revertDue, .mem .retrain])
    (hk : R.OpenAt [F.MEM_LUT_STATUS_RETRAIN] 0) (hk8 : R.Opens [F.LTX_STATUS_SEALED] 8) :
    Within R s (xaRevert t n) := by
  unfold Machine.xaRevert
  split
  · exact (Within.ite (h.setRevertDue hp.mono) (((h.lutReplace hp.mono hk).setRevertDue hp.mono).setCue hp.mono hk8))
  · exact (h.setRevertDue hp.mono)
  · exact h

theorem Within.xaStopCmd {c : Cmd} (h : Within R s t) (hp : R.Allows [.time .cues, .lanes .tx, .lanes .xa, .lanes .revertDue,
    .mgmt .inProgress, .mem .retrain]) (hk8 : R.Opens [F.LTX_STATUS_SEALED, F.LTX_XA_STATUS_REASON, F.LTX_XA_STATUS_STATE] 8)
    (hk : R.OpenAt [F.MEM_LUT_STATUS_RETRAIN] 0) :
    Answers R s (xaStopCmd c t) := by
  unfold Machine.xaStopCmd
  refine Answers.withChecks h fun _ => ?_
  extract_lets +onlyGivenNames s1
  have hs1 : Within R s s1 := (h.foldl fun _ _ m3 h4 => (h4.xaStop hp.mono (hk8.mono (by decide))
      (hk8.at (lt_of_mem_whichBelow m3) (by decide))))
  exact (Answers.ite ((hs1.foldl fun _ _ _ h8 => (h8.xaRevert hp.mono hk (hk8.mono (by decide)))).later hp.mono) hs1.done)

theorem Within.xaFail {n : ℕ} {x : XaRun} (h : Within R s t) (hp : R.Allows [.time .cues, .lanes .xa, .aside .lanes])
    (hk8 : R.Opens [F.LTX_STATUS_SEALED] 8) (hk : R.OpenAt [F.LTX_XA_STATUS_REASON, F.LTX_XA_STATUS_STATE] n) :
    Within R s (xaFail t n x) := by
  unfold Machine.xaFail
  exact (Within.ite (h.xaStop hp.mono hk8 hk) (h.xaRequest hp.mono (hk.mono (by decide))))

theorem Within.xaStatsTimeout {n : ℕ} (h : Within R s t) (hp : R.Allows [.time .cues, .lanes .xa, .aside .lanes])
    (hk8 : R.Opens [F.LTX_STATUS_SEALED] 8) (hk : R.OpenAt [F.LTX_XA_STATUS_REASON, F.LTX_XA_STATUS_STATE] n) :
    Within R s (xaStatsTimeout n t) := by
  unfold Machine.xaStatsTimeout
  split
  · exact (Within.ite (h.xaFail hp hk8 hk) h)
  · exact h

theorem Within.xaTrackTimer {n : ℕ} (h : Within R s t) (hp : R.Allows [.lanes .xa, .aside .lanes])
    (hk : R.OpenAt [F.LTX_XA_STATUS_STATE] n) :
    Within R s (xaTrackTimer n t) := by
  unfold Machine.xaTrackTimer
  split
  · exact (Within.ite (h.xaRequest hp hk) h)
  · exact h

theorem Within.xaGatherWindowEnd {n : ℕ} (h : Within R s t) (hp : R.Allows [.lanes .gather, .aside .lanes])
    (hk : R.OpenAt [F.LEQ_XA_GATHER_INVALID, F.LEQ_XA_GATHER_STATE] n) :
    Within R s (xaGatherWindowEnd n t) := by
  unfold Machine.xaGatherWindowEnd
  split
  · refine Within.ite ?_ ?_
    · exact h
    · extract_lets +onlyGivenNames set s1 s2 out
      have hs1 : Within R s s1 := (h.setGather hp.mono)
      have hs2 : Within R s s2 := ((hs1.wr hk).wr hk)
      exact (hs2.foldl fun _ _ _ h4 => (h4.enqueue hp.mono))
  · exact h

theorem Within.poolIdleTest {d : Dir} {m : ℕ} {form : PoolTest} {c : MemberConduct} (h : Within R s t)
    (hp : R.Allows [.path .testing]) (hk : R.OpenAt ([F.FEC_POOL_STATUS_H2L_FENCED, F.FEC_POOL_STATUS_L2H_FENCED] ++ poolFields)
    0) :
    Within R s (poolIdleTest d m form c t) := by
  unfold Machine.poolIdleTest
  refine Within.ite ?_ ?_
  · extract_lets +onlyGivenNames _ s1
    have hs1 : Within R s s1 := (h.withPathTesting hp)
    exact (Within.ite hs1 (hs1.fenceMember hk))
  · exact h

theorem Within.fecFence {c : Cmd} (h : Within R s t) (hk : R.OpenAt ([F.FEC_POOL_STATUS_H2L_FENCED, F.FEC_POOL_STATUS_L2H_FENCED]
    ++ poolFields) 0) :
    Answers R s (fecFence c t) := by
  unfold Machine.fecFence
  exact (Answers.withChecks h fun _ => (h.fenceMember hk).done)

theorem Within.fecUnfence {c : Cmd} (h : Within R s t) (hp : R.Allows [.mgmt .inProgress]) :
    Answers R s (fecUnfence c t) := by
  unfold Machine.fecUnfence
  exact (Answers.withChecks h fun _ => (h.later hp))

theorem Within.unfenceTestEnd {d : Dir} {pass : Bool} (h : Within R s t) (hp : R.Allows [.mgmt .inProgress])
    (hk : R.OpenAt ([F.FEC_POOL_STATUS_H2L_FENCED, F.FEC_POOL_STATUS_L2H_FENCED] ++ poolFields) 0) :
    Within R s (unfenceTestEnd d pass t) := by
  unfold Machine.unfenceTestEnd
  split
  · exact h
  · extract_lets +onlyGivenNames m
    refine Within.ite ?_ ?_
    · extract_lets +onlyGivenNames s1 s2
      have hs1 : Within R s s1 := (Within.ite (h.setFenced (hk.mono (by decide))) h)
      have hs2 : Within R s s2 := hs1.raiseEvent
      exact ((hs2.poolShow (hk.mono (by decide))).completeProg hp)
    · exact (h.completeProg hp)

theorem Within.sdWindowEnd {p : ℕ} {d : Dir} (h : Within R s t) (hp : R.Allows [.path .tx, .path .rx])
    (hk : R.OpenAt [F.FEC_STATUS_RX_MARKED_IN, F.FEC_STATUS_RX_SD, F.FEC_STATUS_RX_UNCORR, F.FEC_STATUS_TX_MARKED_IN,
    F.FEC_STATUS_TX_SD, F.FEC_STATUS_TX_UNCORR] p) :
    Within R s (sdWindowEnd p d t) := by
  unfold Machine.sdWindowEnd
  cases d with
  | tx =>
    refine Within.ite h ?_
    have hshown : ∀ a b c x, Within R s (Machine.setPortPath (Machine.wrB (Machine.wrB (Machine.wrB t F.FEC_STATUS_TX_SD a p)
        F.FEC_STATUS_TX_UNCORR b p) F.FEC_STATUS_TX_MARKED_IN c p) p .tx x) := fun _ _ _ _ =>
            (((h.wrB hk).wrB hk).wrB hk).setPortPath hp.mono
    exact .ite (hshown ..) (hshown ..).raiseEvent
  | rx =>
    refine Within.ite h ?_
    have hshown : ∀ a b c x, Within R s (Machine.setPortPath (Machine.wrB (Machine.wrB (Machine.wrB t F.FEC_STATUS_RX_SD a p)
        F.FEC_STATUS_RX_UNCORR b p) F.FEC_STATUS_RX_MARKED_IN c p) p .rx x) := fun _ _ _ _ =>
            (((h.wrB hk).wrB hk).wrB hk).setPortPath hp.mono
    exact .ite (hshown ..) (hshown ..).raiseEvent

theorem Within.hostLaneMark {n : ℕ} {m : List PcsMark} (h : Within R s t)
    (hk : R.OpenAt [F.HSL_ALIGN_STATUS_LOCKED, F.HSL_ALIGN_STATUS_PCS_FIRST] n) :
    Within R s (hostLaneMark t n m) := by
  unfold Machine.hostLaneMark
  exact (Within.ite ((h.wr hk).wr hk) (h.hostUnlock (hk.mono (by decide))))

theorem Within.hostAlign {p : ℕ} {latest : ℕ} {ms : Vector (List PcsMark) 16} (h : Within R s t)
    (hp : R.Allows [.time .tx, .time .rx, .lanes .lineOut, .lanes .hostOut, .link, .path .tx, .path .rx, .path .hostAt,
    .cal .skewLive]) (hk16 : R.Opens ([F.HSL_ALIGN_STATUS_SKEW] ++ hostTxFields) 16)
    (hk : R.OpenAt ([F.PCS_ALIGN_STATUS_TX_ALIGNED] ++ rmFields) p) (hk8 : R.Opens lineTxFields 8) :
    Within R s (hostAlign t p latest ms) := by
  unfold Machine.hostAlign
  extract_lets +onlyGivenNames s1
  have hs1 : Within R s s1 := (h.foldl fun _ _ m3 h4 => (h4.wr (hk16 _ (lt_of_mem_portHosts m3))))
  refine Within.ite ?_ ?_
  · exact hs1
  · extract_lets +onlyGivenNames s2
    have hs2 : Within R s s2 := (hs1.foldl fun _ _ _ h8 => (h8.setHostAt hp.mono))
    exact ((hs2.groupStart hp.mono).setTxAligned hp.mono hk hk8 (hk16.mono (by decide)))

theorem Within.hostMarkerGroup {p : ℕ} {ms : Vector (List PcsMark) 16} (h : Within R s t)
    (hp : R.Allows [.time .tx, .time .rx, .lanes .lineOut, .lanes .hostOut, .link, .path .tx, .path .rx, .path .hostAt,
    .cal .skewLive]) (hk16 : R.Opens ([F.HSL_ALIGN_STATUS_LOCKED, F.HSL_ALIGN_STATUS_PCS_FIRST, F.HSL_ALIGN_STATUS_SKEW] ++
    hostTxFields) 16) (hk : R.OpenAt ([F.PCS_ALIGN_STATUS_TX_ALIGNED] ++ rmFields) p) (hk8 : R.Opens lineTxFields 8) :
    Within R s (hostMarkerGroup p ms t) := by
  unfold Machine.hostMarkerGroup
  extract_lets +onlyGivenNames st
  refine Within.ite ?_ ?_
  · exact h
  · extract_lets +onlyGivenNames xs s1
    have hs1 : Within R s s1 := (h.foldl fun _ _ m3 h4 => (h4.hostLaneMark (hk16.at (lt_of_mem_portHosts m3) (by decide))))
    exact (Within.ite (Within.ite (hs1.hostAlign hp (hk16.mono (by decide)) hk hk8)
        (Within.ite (hs1.setTxAligned hp.mono hk hk8 (hk16.mono (by decide))) hs1))
        (Within.ite (hs1.setTxAligned hp.mono hk hk8 (hk16.mono (by decide))) hs1))

theorem Within.lockSeek {p : ℕ} {x : ℕ} {pos : ℕ} {arrival : ℕ} {hit : Option (ℕ × Bool)} (h : Within R s t)
    (hp : R.Allows [.lanes .lock]) (hk : R.OpenAt alignFields p) :
    Within R s (lockSeek t p x pos arrival hit) := by
  unfold Machine.lockSeek
  extract_lets +onlyGivenNames m
  split
  · exact (Within.ite ((h.setLock hp).lockShow hk) h)
  · exact h

theorem Within.lockConfirm {p : ℕ} {x : ℕ} {pos : ℕ} {arrival : ℕ} {hit : Option (ℕ × Bool)} (h : Within R s t)
    (hp : R.Allows alignTestPieces) (hk : R.OpenAt ([F.PCS_ALIGN_STATUS_RX_DESKEWED, F.PCS_ALIGN_STATUS_TX_ALIGNED,
    F.PCS_LINK_STATUS_BACKOFF, F.PCS_LINK_STATUS_LOST, F.PCS_LINK_STATUS_MAP_LEARNED, F.PCS_LINK_STATUS_PROBED,
    F.PCS_LINK_STATUS_REASON, F.PCS_LINK_STATUS_STATE, F.PCS_LINK_TIME_RESTARTS, F.PCS_LINK_TIME_UP_TIME, F.PCS_RX_MAP_USE_INV,
    F.PCS_RX_MAP_USE_PHYS] ++ alignFields ++ rmFields) p) (hk8 : R.Opens
    ([F.LRX_CTLE_STATUS_CODE, F.LRX_STATUS_CTLE_SEARCH, F.LTX_STATUS_SEALED, F.LTX_XA_STATUS_REASON, F.LTX_XA_STATUS_STATE] ++
    eqTapFields ++ eqStateFields ++ lineTxFields) 8) (hka : ∀ i, R.OpenAt alignFields i)
    (hk16 : R.Opens ([F.HSL_ALIGN_STATUS_LOCKED, F.HSL_STATUS_CTLE_CODE] ++ hostEqFields ++ hostTxFields) 16) :
    Within R s (lockConfirm t p x pos arrival hit) := by
  unfold Machine.lockConfirm
  exact (Within.ite ((((h.setLock hp.mono).lockShow (hk.mono (by decide))).raiseLockChange).alignJudge hp hk hk8 hka hk16)
      ((h.setLock hp.mono).lockShow (hk.mono (by decide))))

theorem Within.lockLost {x : ℕ} (h : Within R s t) (hp : R.Allows [.time .tx, .time .rx, .time .paired, .time .cues,
    .lanes .lineFront, .lanes .hostFront, .lanes .lineEq, .lanes .hostEq, .lanes .lineOut, .lanes .hostOut, .lanes .lock,
    .lanes .xa, .link, .path .tx, .path .rx, .cal .skewLive]) (hka : ∀ i, R.OpenAt
    ([F.PCS_ALIGN_STATUS_RX_DESKEWED, F.PCS_ALIGN_STATUS_TX_ALIGNED, F.PCS_LINK_STATUS_LOST, F.PCS_LINK_STATUS_PROBED,
    F.PCS_LINK_STATUS_REASON, F.PCS_LINK_STATUS_STATE, F.PCS_LINK_TIME_RESTARTS] ++ alignFields ++ rmFields) i)
    (hk8 : R.Opens ([F.LRX_CTLE_STATUS_CODE, F.LRX_STATUS_CTLE_SEARCH, F.LTX_STATUS_SEALED, F.LTX_XA_STATUS_REASON,
    F.LTX_XA_STATUS_STATE] ++ eqTapFields ++ eqStateFields ++ lineTxFields) 8)
    (hk16 : R.Opens ([F.HSL_ALIGN_STATUS_LOCKED, F.HSL_STATUS_CTLE_CODE] ++ hostEqFields ++ hostTxFields) 16) :
    Within R s (lockLost t x) := by
  unfold Machine.lockLost
  exact ((h.lockSearch hp.mono (fun i => (hka i).mono (by decide))).laneLost hp hka hk8 hk16)

theorem Within.lockKeep {p : ℕ} {x : ℕ} {pos : ℕ} {arrival : ℕ} {hit : Option (ℕ × Bool)} (h : Within R s t)
    (hp : R.Allows [.time .tx, .time .rx, .time .paired, .time .cues, .lanes .lineFront, .lanes .hostFront, .lanes .lineEq,
    .lanes .hostEq, .lanes .lineOut, .lanes .hostOut, .lanes .lock, .lanes .xa, .link, .path .tx, .path .rx, .cal .skewLive])
    (hk : R.OpenAt alignFields p) (hka : ∀ i, R.OpenAt ([F.PCS_ALIGN_STATUS_RX_DESKEWED, F.PCS_ALIGN_STATUS_TX_ALIGNED,
    F.PCS_LINK_STATUS_LOST, F.PCS_LINK_STATUS_PROBED, F.PCS_LINK_STATUS_REASON, F.PCS_LINK_STATUS_STATE,
    F.PCS_LINK_TIME_RESTARTS] ++ alignFields ++ rmFields) i) (hk8 : R.Opens
    ([F.LRX_CTLE_STATUS_CODE, F.LRX_STATUS_CTLE_SEARCH, F.LTX_STATUS_SEALED, F.LTX_XA_STATUS_REASON, F.LTX_XA_STATUS_STATE] ++
    eqTapFields ++ eqStateFields ++ lineTxFields) 8) (hk16 : R.Opens ([F.HSL_ALIGN_STATUS_LOCKED, F.HSL_STATUS_CTLE_CODE] ++
    hostEqFields ++ hostTxFields) 16) :
    Within R s (lockKeep t p x pos arrival hit) := by
  unfold Machine.lockKeep
  extract_lets +onlyGivenNames _ m
  have hshown := fun x' m' => (h.setLock (x := x') (m := m') hp.mono).lockShow (p := p) ((hka p).mono (by decide))
  exact .ite (hshown ..) (.ite ((hshown ..).lockLost hp.mono hka hk8 hk16) (hshown ..))

theorem Within.lineMarkerGroup {x : ℕ} {pos : ℕ} {arrival : ℕ} (h : Within R s t) (hp : R.Allows alignTestPieces)
    (hka : ∀ i, R.OpenAt ([F.PCS_ALIGN_STATUS_RX_DESKEWED, F.PCS_ALIGN_STATUS_TX_ALIGNED, F.PCS_LINK_STATUS_BACKOFF,
    F.PCS_LINK_STATUS_LOST, F.PCS_LINK_STATUS_MAP_LEARNED, F.PCS_LINK_STATUS_PROBED, F.PCS_LINK_STATUS_REASON,
    F.PCS_LINK_STATUS_STATE, F.PCS_LINK_TIME_RESTARTS, F.PCS_LINK_TIME_UP_TIME, F.PCS_RX_MAP_USE_INV, F.PCS_RX_MAP_USE_PHYS] ++
    alignFields ++ rmFields) i) (hk8 : R.Opens ([F.LRX_CTLE_STATUS_CODE, F.LRX_STATUS_CTLE_SEARCH, F.LTX_STATUS_SEALED,
    F.LTX_XA_STATUS_REASON, F.LTX_XA_STATUS_STATE] ++ eqTapFields ++ eqStateFields ++ lineTxFields) 8)
    (hk16 : R.Opens ([F.HSL_ALIGN_STATUS_LOCKED, F.HSL_STATUS_CTLE_CODE] ++ hostEqFields ++ hostTxFields) 16) :
    Within R s (lineMarkerGroup x pos arrival t) := by
  unfold Machine.lineMarkerGroup
  split
  · exact (Within.ite h (Within.ite (h.lockSeek hp.mono ((hka _).mono (by decide)))
      (Within.ite h (Within.ite (h.lockConfirm hp (hka _) hk8 (fun i => (hka i).mono (by decide)) hk16)
      (h.lockKeep hp.mono ((hka _).mono (by decide)) (fun i => (hka i).mono (by decide)) hk8 hk16)))))
  · exact h

theorem Within.tpcReload {l : LaneId} (h : Within R s t) (hp : R.Allows [.lanes .lineRx, .lanes .hostRx]) :
    Within R s (tpcReload t l) := by
  unfold Machine.tpcReload
  exact (h.setRxRec hp)

theorem Within.slipApply {l : LaneId} (h : Within R s t) (hp : R.Allows [.lanes .lineRx, .lanes .hostRx, .path .lineSlip,
    .path .hostSlip]) (hk8 : R.Opens [F.LRX_TPC_STATUS_LOCK, F.LRX_TPC_STATUS_POS] 8)
    (hk16 : R.Opens [F.HSL_TPC_STATUS_LOCK, F.HSL_TPC_STATUS_POS] 16) :
    Within R s (slipApply t l) := by
  unfold Machine.slipApply
  exact (Within.ite h ((((h.setTpcPos (hk8.mono (by decide)) (hk16.mono (by decide))).setSlip hp.mono).setTpcLock
      (hk8.mono (by decide)) (hk16.mono (by decide))).tpcReload hp.mono))

theorem Within.tpcClear {l : LaneId} (h : Within R s t) (hp : R.Allows [.lanes .lineRx, .lanes .hostRx]) :
    Within R s (tpcClear t l) := by
  unfold Machine.tpcClear
  exact (h.setRxRec hp)

theorem Within.bumpLBy {l : LaneId} {kLine : ℕ} {kHost : ℕ} {n : ℕ} (h : Within R s t) :
    Within R s (bumpLBy t l kLine kHost n) := by
  unfold Machine.bumpLBy
  split
  · exact h.bump
  · exact h.bump

theorem Within.tpcJudge {l : LaneId} (h : Within R s t) (hp : R.Allows [.lanes .lineRx, .lanes .hostRx])
    (hk8 : R.Opens [F.LRX_TPC_STATUS_LOCK] 8) (hk16 : R.Opens [F.HSL_TPC_STATUS_LOCK] 16) :
    Within R s (tpcJudge t l) := by
  unfold Machine.tpcJudge
  extract_lets +onlyGivenNames t' prbs s2
  have hs2 : Within R s s2 := h.bumpLBy.bumpLBy
  exact (Within.ite ((hs2.setTpcLock hk8 hk16).tpcReload hp) (Within.ite (hs2.setTpcLock hk8 hk16) hs2))

theorem Within.tpcWindowEnd {l : LaneId} {xs : List ℤ} (h : Within R s t)
    (hp : R.Allows [.lanes .lineFront, .lanes .hostFront, .lanes .lineRx, .lanes .hostRx, .lanes .spot, .path .lineSlip,
    .path .hostSlip]) (hk8 : R.Opens [F.LRX_TPC_STATUS_LOCK, F.LRX_TPC_STATUS_POS, F.LRX_TR_STATUS_FREQ, F.LRX_TR_STATUS_PI_CODE]
    8) (hk16 : R.Opens [F.HSL_STATUS_PI_CODE, F.HSL_TPC_STATUS_LOCK, F.HSL_TPC_STATUS_POS] 16) :
    Within R s (tpcWindowEnd l xs t) := by
  unfold Machine.tpcWindowEnd
  extract_lets +onlyGivenNames s1
  have hs1 : Within R s s1 := (h.rxStream hp.mono (hk8.mono (by decide)) (hk16.mono (by decide)))
  exact (Within.ite hs1 (((hs1.tpcJudge hp.mono (hk8.mono (by decide)) (hk16.mono (by decide))).tpcClear hp.mono).slipApply
      hp.mono (hk8.mono (by decide)) (hk16.mono (by decide))))

theorem Within.tpcSlip {c : Cmd} (h : Within R s t) (hp : R.Allows [.path .lineSlip, .path .hostSlip]) :
    Answers R s (tpcSlip c t) := by
  unfold Machine.tpcSlip
  exact (Answers.withChecks h fun _ => (h.setSlip hp).done)

theorem Within.acquireComplete {p : ℕ} (h : Within R s t) (hp : R.Allows alignTestPieces)
    (hk : R.OpenAt ([F.PCS_ALIGN_STATUS_RX_DESKEWED, F.PCS_ALIGN_STATUS_TX_ALIGNED, F.PCS_LINK_STATUS_BACKOFF,
    F.PCS_LINK_STATUS_LOST, F.PCS_LINK_STATUS_MAP_LEARNED, F.PCS_LINK_STATUS_PROBED, F.PCS_LINK_STATUS_REASON,
    F.PCS_LINK_STATUS_STATE, F.PCS_LINK_TIME_RESTARTS, F.PCS_LINK_TIME_UP_TIME, F.PCS_RX_MAP_USE_INV, F.PCS_RX_MAP_USE_PHYS] ++
    alignFields ++ rmFields) p) (hk8 : R.Opens ([F.LRX_CTLE_STATUS_CODE, F.LRX_STATUS_CTLE_SEARCH, F.LTX_STATUS_SEALED,
    F.LTX_XA_STATUS_REASON, F.LTX_XA_STATUS_STATE] ++ eqTapFields ++ eqStateFields ++ lineTxFields) 8)
    (hka : ∀ i, R.OpenAt alignFields i) (hk16 : R.Opens ([F.HSL_ALIGN_STATUS_LOCKED, F.HSL_STATUS_CTLE_CODE] ++ hostEqFields ++
    hostTxFields) 16) :
    Within R s (acquireComplete p t) := by
  unfold Machine.acquireComplete
  exact (Within.ite ((h.linkGo hp.mono (hk.mono (by decide)) hk8 hka hk16).alignJudge hp hk hk8 hka hk16) h)

theorem Within.acqToExpiry {p : ℕ} (h : Within R s t) (hp : R.Allows [.time .tx, .time .rx, .time .paired, .time .cues,
    .lanes .lineFront, .lanes .hostFront, .lanes .lineEq, .lanes .hostEq, .lanes .lineOut, .lanes .hostOut, .lanes .lock,
    .lanes .xa, .link, .path .tx, .path .rx, .cal .skewLive]) (hk : R.OpenAt
    ([F.PCS_ALIGN_STATUS_RX_DESKEWED, F.PCS_ALIGN_STATUS_TX_ALIGNED, F.PCS_LINK_STATUS_BACKOFF, F.PCS_LINK_STATUS_LOST,
    F.PCS_LINK_STATUS_PROBED, F.PCS_LINK_STATUS_REASON, F.PCS_LINK_STATUS_STATE, F.PCS_LINK_TIME_RESTARTS] ++ rmFields) p)
    (hk8 : R.Opens ([F.LRX_CTLE_STATUS_CODE, F.LRX_STATUS_CTLE_SEARCH, F.LTX_STATUS_SEALED, F.LTX_XA_STATUS_REASON,
    F.LTX_XA_STATUS_STATE] ++ eqTapFields ++ eqStateFields ++ lineTxFields) 8) (hka : ∀ i, R.OpenAt alignFields i)
    (hk16 : R.Opens ([F.HSL_ALIGN_STATUS_LOCKED, F.HSL_STATUS_CTLE_CODE] ++ hostEqFields ++ hostTxFields) 16) :
    Within R s (acqToExpiry p t) := by
  unfold Machine.acqToExpiry
  exact (Within.ite (h.linkBackoff hp hk hk8 hka hk16) h)

theorem Within.alignToExpiry {p : ℕ} (h : Within R s t) (hp : R.Allows alignTestPieces)
    (hk : R.OpenAt ([F.PCS_ALIGN_STATUS_RX_DESKEWED, F.PCS_ALIGN_STATUS_TX_ALIGNED, F.PCS_LINK_STATUS_BACKOFF,
    F.PCS_LINK_STATUS_LOST, F.PCS_LINK_STATUS_MAP_LEARNED, F.PCS_LINK_STATUS_PROBED, F.PCS_LINK_STATUS_REASON,
    F.PCS_LINK_STATUS_STATE, F.PCS_LINK_TIME_RESTARTS, F.PCS_LINK_TIME_UP_TIME, F.PCS_RX_MAP_USE_INV, F.PCS_RX_MAP_USE_PHYS] ++
    alignFields ++ rmFields) p) (hk8 : R.Opens ([F.LRX_CTLE_STATUS_CODE, F.LRX_STATUS_CTLE_SEARCH, F.LTX_STATUS_SEALED,
    F.LTX_XA_STATUS_REASON, F.LTX_XA_STATUS_STATE] ++ eqTapFields ++ eqStateFields ++ lineTxFields) 8)
    (hka : ∀ i, R.OpenAt alignFields i) (hk16 : R.Opens ([F.HSL_ALIGN_STATUS_LOCKED, F.HSL_STATUS_CTLE_CODE] ++ hostEqFields ++
    hostTxFields) 16) :
    Within R s (alignToExpiry p t) := by
  unfold Machine.alignToExpiry
  exact (Within.ite (h.alignFail hp hk hk8 hka hk16) h)

theorem Within.probeToExpiry {p : ℕ} (h : Within R s t) (hp : R.Allows alignTestPieces)
    (hk : R.OpenAt ([F.PCS_ALIGN_STATUS_RX_DESKEWED, F.PCS_ALIGN_STATUS_TX_ALIGNED, F.PCS_LINK_STATUS_BACKOFF,
    F.PCS_LINK_STATUS_LOST, F.PCS_LINK_STATUS_MAP_LEARNED, F.PCS_LINK_STATUS_PROBED, F.PCS_LINK_STATUS_REASON,
    F.PCS_LINK_STATUS_STATE, F.PCS_LINK_TIME_RESTARTS, F.PCS_LINK_TIME_UP_TIME, F.PCS_RX_MAP_USE_INV, F.PCS_RX_MAP_USE_PHYS] ++
    alignFields ++ rmFields) p) (hk8 : R.Opens ([F.LRX_CTLE_STATUS_CODE, F.LRX_STATUS_CTLE_SEARCH, F.LTX_STATUS_SEALED,
    F.LTX_XA_STATUS_REASON, F.LTX_XA_STATUS_STATE] ++ eqTapFields ++ eqStateFields ++ lineTxFields) 8)
    (hka : ∀ i, R.OpenAt alignFields i) (hk16 : R.Opens ([F.HSL_ALIGN_STATUS_LOCKED, F.HSL_STATUS_CTLE_CODE] ++ hostEqFields ++
    hostTxFields) 16) :
    Within R s (probeToExpiry p t) := by
  unfold Machine.probeToExpiry
  extract_lets +onlyGivenNames s1
  have hs1 : Within R s s1 := (h.probeJudge hp hk hk8 hka hk16)
  exact (Within.ite (hs1.linkBackoff hp.mono (hk.mono (by decide)) hk8 hka hk16) hs1)

theorem Within.backoffExpiry {p : ℕ} (h : Within R s t) (hp : R.Allows alignTestPieces)
    (hk : R.OpenAt ([F.PCS_ALIGN_STATUS_RX_DESKEWED, F.PCS_ALIGN_STATUS_TX_ALIGNED, F.PCS_LINK_STATUS_BACKOFF,
    F.PCS_LINK_STATUS_LOST, F.PCS_LINK_STATUS_MAP_LEARNED, F.PCS_LINK_STATUS_PROBED, F.PCS_LINK_STATUS_REASON,
    F.PCS_LINK_STATUS_STATE, F.PCS_LINK_TIME_RESTARTS, F.PCS_LINK_TIME_UP_TIME, F.PCS_RX_MAP_USE_INV, F.PCS_RX_MAP_USE_PHYS] ++
    alignFields ++ rmFields) p) (hk8 : R.Opens ([F.LRX_CTLE_STATUS_CODE, F.LRX_STATUS_CTLE_SEARCH, F.LTX_STATUS_SEALED,
    F.LTX_XA_STATUS_REASON, F.LTX_XA_STATUS_STATE] ++ eqTapFields ++ eqStateFields ++ lineTxFields) 8)
    (hka : ∀ i, R.OpenAt alignFields i) (hk16 : R.Opens ([F.HSL_ALIGN_STATUS_LOCKED, F.HSL_STATUS_CTLE_CODE] ++ hostEqFields ++
    hostTxFields) 16) :
    Within R s (backoffExpiry p t) := by
  unfold Machine.backoffExpiry
  exact (Within.ite ((h.wr hk).linkFollow hp hk hk8 hka hk16) h)

theorem Within.laneRejoin {x : ℕ} (h : Within R s t) (hp : R.Allows laneRejoinPieces)
    (hka : ∀ i, R.OpenAt ([F.PCS_ALIGN_STATUS_RX_DESKEWED, F.PCS_ALIGN_STATUS_TX_ALIGNED, F.PCS_LINK_STATUS_LOST,
    F.PCS_LINK_STATUS_PROBED, F.PCS_LINK_STATUS_REASON, F.PCS_LINK_STATUS_STATE, F.PCS_LINK_TIME_RESTARTS] ++ alignFields ++
    rmFields) i) (hk8 : R.Opens ([F.LRX_CTLE_STATUS_CODE, F.LRX_STATUS_CTLE_SEARCH, F.LTX_STATUS_SEALED, F.LTX_XA_STATUS_REASON,
    F.LTX_XA_STATUS_STATE] ++ eqTapFields ++ eqStateFields ++ lineTxFields) 8)
    (hk16 : R.Opens ([F.HSL_ALIGN_STATUS_LOCKED, F.HSL_STATUS_CTLE_CODE] ++ hostEqFields ++ hostTxFields) 16) :
    Within R s (laneRejoin x t) := by
  unfold Machine.laneRejoin
  split
  · exact h
  · split
    · exact h
    · split
      · exact h
      · refine Within.ite ?_ ?_
        · extract_lets +onlyGivenNames since _ s1 s2 _ s3 s4
          have hs1 : Within R s s1 := (((h.setLock hp.mono).setLineAt hp.mono).lockShow ((hka _).mono (by decide)))
          have hs2 : Within R s s2 := (hs1.wr (hka _))
          have hs3 : Within R s s3 := (hs2.setLink hp.mono)
          have hs4 : Within R s s4 := hs3.raiseEvent
          exact (Within.ite (hs4.linkGo hp.mono ((hka _).mono (by decide)) hk8 (fun i => (hka i).mono (by decide)) hk16) hs4)
        · exact h

theorem Within.rejoinToExpiry {p : ℕ} {i : ℕ} (h : Within R s t) (hp : R.Allows
    [.time .tx, .time .rx, .time .paired, .time .cues, .lanes .lineFront, .lanes .hostFront, .lanes .lineEq, .lanes .hostEq,
    .lanes .lineOut, .lanes .hostOut, .lanes .lock, .lanes .xa, .link, .path .tx, .path .rx, .cal .skewLive])
    (hk : R.OpenAt ([F.PCS_ALIGN_STATUS_RX_DESKEWED, F.PCS_ALIGN_STATUS_TX_ALIGNED, F.PCS_LINK_STATUS_LOST,
    F.PCS_LINK_STATUS_PROBED, F.PCS_LINK_STATUS_REASON, F.PCS_LINK_STATUS_STATE, F.PCS_LINK_TIME_RESTARTS] ++ rmFields) p)
    (hk8 : R.Opens ([F.LRX_CTLE_STATUS_CODE, F.LRX_STATUS_CTLE_SEARCH, F.LTX_STATUS_SEALED, F.LTX_XA_STATUS_REASON,
    F.LTX_XA_STATUS_STATE] ++ eqTapFields ++ eqStateFields ++ lineTxFields) 8) (hka : ∀ i, R.OpenAt alignFields i)
    (hk16 : R.Opens ([F.HSL_ALIGN_STATUS_LOCKED, F.HSL_STATUS_CTLE_CODE] ++ hostEqFields ++ hostTxFields) 16) :
    Within R s (rejoinToExpiry p i t) := by
  unfold Machine.rejoinToExpiry
  exact (Within.ite (h.linkGo hp hk hk8 hka hk16) h)

theorem Within.linkRestart {c : Cmd} (h : Within R s t) (hp : R.Allows alignTestPieces)
    (hk : R.OpenAt ([F.PCS_ALIGN_STATUS_RX_DESKEWED, F.PCS_ALIGN_STATUS_TX_ALIGNED, F.PCS_LINK_STATUS_BACKOFF,
    F.PCS_LINK_STATUS_LOST, F.PCS_LINK_STATUS_MAP_LEARNED, F.PCS_LINK_STATUS_PROBED, F.PCS_LINK_STATUS_REASON,
    F.PCS_LINK_STATUS_STATE, F.PCS_LINK_TIME_RESTARTS, F.PCS_LINK_TIME_UP_TIME, F.PCS_RX_MAP_USE_INV, F.PCS_RX_MAP_USE_PHYS] ++
    alignFields ++ rmFields) (c.w 2)) (hk8 : R.Opens ([F.LRX_CTLE_STATUS_CODE, F.LRX_STATUS_CTLE_SEARCH, F.LTX_STATUS_SEALED,
    F.LTX_XA_STATUS_REASON, F.LTX_XA_STATUS_STATE] ++ eqTapFields ++ eqStateFields ++ lineTxFields) 8)
    (hka : ∀ i, R.OpenAt alignFields i) (hk16 : R.Opens ([F.HSL_ALIGN_STATUS_LOCKED, F.HSL_STATUS_CTLE_CODE] ++ hostEqFields ++
    hostTxFields) 16) :
    Answers R s (linkRestart c t) := by
  unfold Machine.linkRestart
  exact (Answers.withChecks h fun _ => (((h.wr hk).linkGo hp.mono (hk.mono (by decide)) hk8 hka hk16).linkFollow hp hk hk8 hka
      hk16).done)

theorem Within.hslTrainTimeout {n : Fin 16} (h : Within R s t) (hp : R.Allows
    [.lanes .lineFront, .lanes .hostFront, .lanes .lineRx, .lanes .hostRx, .mgmt .inProgress]) :
    Within R s (hslTrainTimeout n t) := by
  unfold Machine.hslTrainTimeout
  refine Within.ite ?_ ?_
  · extract_lets +onlyGivenNames _ s1
    have hs1 : Within R s s1 := (((h.setFront hp.mono).lockWindowClear hp.mono).bump)
    exact (hs1.raiseEvent.retrainLaneDone hp.mono)
  · exact h

theorem Within.hslTrackWindow {n : Fin 16} {xs : List ℤ} (h : Within R s t)
    (hp : R.Allows [.lanes .lineFront, .lanes .hostFront, .lanes .lineRx, .lanes .hostRx, .lanes .spot])
    (hk8 : R.Opens [F.LRX_TPC_STATUS_LOCK, F.LRX_TR_STATUS_FREQ, F.LRX_TR_STATUS_PI_CODE] 8)
    (hk16 : R.Opens [F.HSL_STATUS_PI_CODE, F.HSL_TPC_STATUS_LOCK] 16) :
    Within R s (hslTrackWindow n xs t) := by
  unfold Machine.hslTrackWindow
  extract_lets +onlyGivenNames l s1 r s2
  have hs1 : Within R s s1 := (h.rxStream hp hk8 hk16)
  have hs2 : Within R s s2 := (hs1.setRxRec hp.mono)
  exact (Within.ite (Within.ite (hs2.setPhase hp.mono (hk8.mono (by decide)) (hk16.mono (by decide)))
      (Within.ite (hs2.setPhase hp.mono (hk8.mono (by decide)) (hk16.mono (by decide))) hs2)) hs2)

theorem Within.raiseRef {regions : ℕ} {own : ℕ} {holdover : Bool} {failed : Bool} (h : Within R s t) :
    Within R s (raiseRef t regions own holdover failed) := by
  unfold Machine.raiseRef
  exact h.raiseEvent

theorem Within.setRefOk {r : ℕ} {v : Bool} (h : Within R s t) (hk : R.OpenAt
    [F.HSL_REF_STATUS_HFCK0_OK, F.HSL_REF_STATUS_HFCK1_OK, F.HSL_REF_STATUS_REFCLK_OK] 0) :
    Within R s (setRefOk t r v) := by
  unfold Machine.setRefOk
  exact (Within.ite (h.wrB hk) (Within.ite (h.wrB hk) (h.wrB hk)))

theorem Within.regionLol {b : ℕ} (h : Within R s t) (hp : R.Allows lolRisesPieces)
    (hk8 : R.Opens ([F.LRX_CTLE_STATUS_CODE, F.LRX_STATUS_CTLE_SEARCH, F.LRX_STATUS_LOL, F.LTX_STATUS_SEALED,
    F.LTX_XA_STATUS_REASON, F.LTX_XA_STATUS_STATE] ++ eqTapFields ++ eqStateFields ++ lineTxFields) 8)
    (hk16 : R.Opens ([F.HSL_ALIGN_STATUS_LOCKED, F.HSL_STATUS_CTLE_CODE, F.HSL_STATUS_LOL] ++ hostEqFields ++ hostTxFields) 16)
    (hka : ∀ i, R.OpenAt ([F.PCS_ALIGN_STATUS_RX_DESKEWED, F.PCS_ALIGN_STATUS_TX_ALIGNED, F.PCS_LINK_STATUS_LOST,
    F.PCS_LINK_STATUS_PROBED, F.PCS_LINK_STATUS_REASON, F.PCS_LINK_STATUS_STATE, F.PCS_LINK_TIME_RESTARTS] ++ alignFields ++
    rmFields) i) :
    Within R s (regionLol t b) := by
  unfold Machine.regionLol
  exact (Within.ite (h.foldl fun _ _ _ h4 => (h4.lolRises hp hk8 hk16 hka)) h)

theorem Within.refLost {r : ℕ} (h : Within R s t) (hp : R.Allows refLostPieces)
    (hk : R.OpenAt [F.HSL_REF_STATUS_A_HOLDOVER, F.HSL_REF_STATUS_A_REF, F.HSL_REF_STATUS_B_HOLDOVER, F.HSL_REF_STATUS_B_REF,
    F.HSL_REF_STATUS_HFCK0_OK, F.HSL_REF_STATUS_HFCK1_OK, F.HSL_REF_STATUS_REFCLK_OK] 0)
    (hk8 : R.Opens ([F.LRX_CTLE_STATUS_CODE, F.LRX_STATUS_CTLE_SEARCH, F.LRX_STATUS_LOL, F.LTX_STATUS_SEALED,
    F.LTX_XA_STATUS_REASON, F.LTX_XA_STATUS_STATE] ++ eqTapFields ++ eqStateFields ++ lineTxFields) 8)
    (hk16 : R.Opens ([F.HSL_ALIGN_STATUS_LOCKED, F.HSL_STATUS_CTLE_CODE, F.HSL_STATUS_LOL] ++ hostEqFields ++ hostTxFields) 16)
    (hka : ∀ i, R.OpenAt ([F.PCS_ALIGN_STATUS_RX_DESKEWED, F.PCS_ALIGN_STATUS_TX_ALIGNED, F.PCS_LINK_STATUS_LOST,
    F.PCS_LINK_STATUS_PROBED, F.PCS_LINK_STATUS_REASON, F.PCS_LINK_STATUS_STATE, F.PCS_LINK_TIME_RESTARTS] ++ alignFields ++
    rmFields) i) :
    Within R s (refLost r t) := by
  unfold Machine.refLost
  refine Within.ite ?_ ?_
  · extract_lets +onlyGivenNames bs s1
    have hs1 : Within R s s1 := (((h.setRefOk (hk.mono (by decide))).foldl fun _ _ _ h4 =>
        (h4.setHoldover (hk.mono (by decide)))).raiseRef)
    exact (hs1.foldl fun _ _ _ h8 => ((h8.holdOver hp.mono (hk.mono (by decide))).regionLol hp.mono hk8 hk16 hka))
  · exact h

theorem Within.refPresent {r : ℕ} (h : Within R s t) (hk : R.OpenAt [F.HSL_REF_STATUS_HFCK0_OK, F.HSL_REF_STATUS_HFCK1_OK,
    F.HSL_REF_STATUS_REFCLK_OK] 0) :
    Within R s (refPresent r t) := by
  unfold Machine.refPresent
  exact (Within.ite h ((h.setRefOk hk).raiseRef))

theorem Within.trainStart {n : Fin 16} (h : Within R s t) (hp : R.Allows trainStartPieces)
    (hk8 : R.Opens ([F.LRX_CTLE_STATUS_CODE, F.LRX_STATUS_CTLE_SEARCH, F.LRX_STATUS_LOL, F.LTX_STATUS_SEALED,
    F.LTX_XA_STATUS_REASON, F.LTX_XA_STATUS_STATE] ++ eqTapFields ++ eqStateFields ++ lineTxFields) 8)
    (hk16 : R.Opens ([F.HSL_ALIGN_STATUS_LOCKED, F.HSL_STATUS_CTLE_CODE, F.HSL_STATUS_LOL] ++ hostEqFields ++ hostTxFields) 16)
    (hka : ∀ i, R.OpenAt ([F.PCS_ALIGN_STATUS_RX_DESKEWED, F.PCS_ALIGN_STATUS_TX_ALIGNED, F.PCS_LINK_STATUS_LOST,
    F.PCS_LINK_STATUS_PROBED, F.PCS_LINK_STATUS_REASON, F.PCS_LINK_STATUS_STATE, F.PCS_LINK_TIME_RESTARTS] ++ alignFields ++
    rmFields) i) (hk : R.OpenAt [F.HSL_STATUS_TRAINED, F.HSL_STATUS_TRAINING] ↑n) :
    Within R s (trainStart t n) := by
  unfold Machine.trainStart
  extract_lets +onlyGivenNames s1 _ s2
  have hs1 : Within R s s1 := (Within.ite h (h.lolRises hp.mono hk8 hk16 hka))
  have hs2 : Within R s s2 := ((hs1.setFront hp.mono).lockWindowClear hp.mono)
  exact ((hs2.wr hk).wr hk)

theorem Within.trainLane {a : LaneId} (h : Within R s t) (hp : R.Allows trainStartPieces)
    (hk8 : R.Opens ([F.LRX_CTLE_STATUS_CODE, F.LRX_STATUS_CTLE_SEARCH, F.LRX_STATUS_LOL, F.LTX_STATUS_SEALED,
    F.LTX_XA_STATUS_REASON, F.LTX_XA_STATUS_STATE] ++ eqTapFields ++ eqStateFields ++ lineTxFields) 8)
    (hk16 : R.Opens ([F.HSL_ALIGN_STATUS_LOCKED, F.HSL_STATUS_CTLE_CODE, F.HSL_STATUS_LOL, F.HSL_STATUS_TRAINED,
    F.HSL_STATUS_TRAINING] ++ hostEqFields ++ hostTxFields) 16) (hka : ∀ i, R.OpenAt
    ([F.PCS_ALIGN_STATUS_RX_DESKEWED, F.PCS_ALIGN_STATUS_TX_ALIGNED, F.PCS_LINK_STATUS_LOST, F.PCS_LINK_STATUS_PROBED,
    F.PCS_LINK_STATUS_REASON, F.PCS_LINK_STATUS_STATE, F.PCS_LINK_TIME_RESTARTS] ++ alignFields ++ rmFields) i) :
    Within R s (trainLane t a) := by
  unfold Machine.trainLane
  split
  · next n =>
      exact (h.trainStart hp hk8 (hk16.mono (by decide)) hka (hk16.at (Fin.isLt _) (by decide)))
  · exact h

theorem Within.refSlewDone {b : ℕ} (h : Within R s t) (hp : R.Allows refSlewDonePieces)
    (hk : R.OpenAt [F.HSL_REF_STATUS_A_HOLDOVER, F.HSL_REF_STATUS_B_HOLDOVER] 0)
    (hk8 : R.Opens ([F.LRX_CTLE_STATUS_CODE, F.LRX_STATUS_CTLE_SEARCH, F.LRX_STATUS_LOL, F.LTX_STATUS_SEALED,
    F.LTX_XA_STATUS_REASON, F.LTX_XA_STATUS_STATE] ++ eqTapFields ++ eqStateFields ++ lineTxFields) 8)
    (hk16 : R.Opens ([F.HSL_ALIGN_STATUS_LOCKED, F.HSL_STATUS_CTLE_CODE, F.HSL_STATUS_LOL, F.HSL_STATUS_TRAINED,
    F.HSL_STATUS_TRAINING] ++ hostEqFields ++ hostTxFields) 16) (hka : ∀ i, R.OpenAt
    ([F.PCS_ALIGN_STATUS_RX_DESKEWED, F.PCS_ALIGN_STATUS_TX_ALIGNED, F.PCS_LINK_STATUS_LOST, F.PCS_LINK_STATUS_PROBED,
    F.PCS_LINK_STATUS_REASON, F.PCS_LINK_STATUS_STATE, F.PCS_LINK_TIME_RESTARTS] ++ alignFields ++ rmFields) i) :
    Within R s (refSlewDone b t) := by
  unfold Machine.refSlewDone
  refine Within.ite ?_ ?_
  · extract_lets +onlyGivenNames s1 _ s2
    have hs1 : Within R s s1 := (h.setHoldover hk)
    have hs2 : Within R s s2 := (hs1.withPathRefChanged hp.mono)
    exact (Within.ite (hs2.foldl fun _ _ _ h4 => (h4.trainLane hp.mono hk8 hk16 hka)) hs2)
  · exact h

theorem Within.revertRegion {b : ℕ} (h : Within R s t) (hp : R.Allows refLostPieces)
    (hk : R.OpenAt [F.HSL_REF_STATUS_A_HOLDOVER, F.HSL_REF_STATUS_A_REF, F.HSL_REF_STATUS_B_HOLDOVER, F.HSL_REF_STATUS_B_REF] 0)
    (hk8 : R.Opens ([F.LRX_CTLE_STATUS_CODE, F.LRX_STATUS_CTLE_SEARCH, F.LRX_STATUS_LOL, F.LTX_STATUS_SEALED,
    F.LTX_XA_STATUS_REASON, F.LTX_XA_STATUS_STATE] ++ eqTapFields ++ eqStateFields ++ lineTxFields) 8)
    (hk16 : R.Opens ([F.HSL_ALIGN_STATUS_LOCKED, F.HSL_STATUS_CTLE_CODE, F.HSL_STATUS_LOL] ++ hostEqFields ++ hostTxFields) 16)
    (hka : ∀ i, R.OpenAt ([F.PCS_ALIGN_STATUS_RX_DESKEWED, F.PCS_ALIGN_STATUS_TX_ALIGNED, F.PCS_LINK_STATUS_LOST,
    F.PCS_LINK_STATUS_PROBED, F.PCS_LINK_STATUS_REASON, F.PCS_LINK_STATUS_STATE, F.PCS_LINK_TIME_RESTARTS] ++ alignFields ++
    rmFields) i) :
    Within R s (revertRegion t b) := by
  unfold Machine.revertRegion
  exact (((h.changeRef hp.mono (hk.mono (by decide))).setHoldover (hk.mono (by decide))).regionLol hp.mono hk8 hk16 hka)

theorem Within.refRevertTimer {b : ℕ} (h : Within R s t) (hp : R.Allows refLostPieces)
    (hk : R.OpenAt [F.HSL_REF_STATUS_A_HOLDOVER, F.HSL_REF_STATUS_A_REF, F.HSL_REF_STATUS_B_HOLDOVER, F.HSL_REF_STATUS_B_REF] 0)
    (hk8 : R.Opens ([F.LRX_CTLE_STATUS_CODE, F.LRX_STATUS_CTLE_SEARCH, F.LRX_STATUS_LOL, F.LTX_STATUS_SEALED,
    F.LTX_XA_STATUS_REASON, F.LTX_XA_STATUS_STATE] ++ eqTapFields ++ eqStateFields ++ lineTxFields) 8)
    (hk16 : R.Opens ([F.HSL_ALIGN_STATUS_LOCKED, F.HSL_STATUS_CTLE_CODE, F.HSL_STATUS_LOL] ++ hostEqFields ++ hostTxFields) 16)
    (hka : ∀ i, R.OpenAt ([F.PCS_ALIGN_STATUS_RX_DESKEWED, F.PCS_ALIGN_STATUS_TX_ALIGNED, F.PCS_LINK_STATUS_LOST,
    F.PCS_LINK_STATUS_PROBED, F.PCS_LINK_STATUS_REASON, F.PCS_LINK_STATUS_STATE, F.PCS_LINK_TIME_RESTARTS] ++ alignFields ++
    rmFields) i) :
    Within R s (refRevertTimer b t) := by
  unfold Machine.refRevertTimer
  exact (Within.ite (h.revertRegion hp hk hk8 hk16 hka) h)

theorem Within.dropBlock {l : LaneId} {transmit : Bool} {repeated : Bool} (h : Within R s t)
    (hp : R.Allows [.lanes .lineOut, .lanes .hostOut, .lanes .lock, .path .lineAt, .path .hostAt]) :
    Within R s (dropBlock t l transmit repeated) := by
  unfold Machine.dropBlock
  extract_lets +onlyGivenNames k
  refine Within.ite ?_ ?_
  · exact (h.setTxRec hp.mono)
  · split
    · exact ((h.setLineAt hp.mono).setLock hp.mono)
    · exact (h.setHostAt hp.mono)

theorem Within.wanderLimit {l : LaneId} {transmit : Bool} {repeated : Bool} (h : Within R s t) (hp : R.Allows wanderLimitPieces)
    (hka : ∀ i, R.OpenAt ([F.PCS_ALIGN_STATUS_RX_DESKEWED, F.PCS_ALIGN_STATUS_TX_ALIGNED, F.PCS_LINK_STATUS_LOST,
    F.PCS_LINK_STATUS_PROBED, F.PCS_LINK_STATUS_REASON, F.PCS_LINK_STATUS_STATE, F.PCS_LINK_TIME_RESTARTS] ++ alignFields ++
    rmFields) i) (hk8 : R.Opens ([F.LRX_CTLE_STATUS_CODE, F.LRX_STATUS_CTLE_SEARCH, F.LTX_STATUS_SEALED, F.LTX_XA_STATUS_REASON,
    F.LTX_XA_STATUS_STATE] ++ eqTapFields ++ eqStateFields ++ lineTxFields) 8)
    (hk16 : R.Opens ([F.HSL_ALIGN_STATUS_LOCKED, F.HSL_STATUS_CTLE_CODE] ++ hostEqFields ++ hostTxFields) 16) :
    Within R s (wanderLimit l transmit repeated t) := by
  unfold Machine.wanderLimit
  split
  · exact h
  · refine Within.ite ?_ ?_
    · extract_lets +onlyGivenNames d s1 s2 s3
      have hs1 : Within R s s1 := ((h.dropBlock hp.mono).bump)
      have hs2 : Within R s s2 := by
        unfold s2
        split
        · exact hs1
        · exact hs1.bump
      have hs3 : Within R s s3 := hs2.raiseEvent
      refine Within.ite ?_ ?_
      · exact hs3
      · split
        · exact (Within.ite (hs3.lockLost hp.mono hka hk8 hk16) hs3)
        · next n =>
            exact (hs3.hostLaneDown hp.mono (hk16.at (Fin.isLt _) (by decide)) (fun i => (hka i).mono (by decide))
                (hk8.mono (by decide)) (hk16.mono (by decide)))
    · exact h

theorem Within.failoverTimer {p : ℕ} {rx : Bool} (h : Within R s t) (hp : R.Allows [.path .txFollow, .path .rxFollow]) :
    Within R s (failoverTimer p rx t) := by
  unfold Machine.failoverTimer
  refine Within.ite ?_ ?_
  · refine Within.ite ?_ ?_
    · exact (h.setFollow hp)
    · extract_lets +onlyGivenNames mk stay
      refine Within.ite ?_ ?_
      · exact h
      · split
        · exact ((h.setFollow hp).raiseEvent)
        · exact h
  · exact h

theorem Within.pllsLock (h : Within R s t) (hp : R.Allows [.time .linePll, .time .hostPll])
    (hk : R.OpenAt [F.HSL_REF_STATUS_A_LOCK, F.HSL_REF_STATUS_B_LOCK, F.HSL_REF_STATUS_HFCKO0_ON, F.HSL_REF_STATUS_HFCKO1_ON] 0) :
    Within R s (pllsLock t) := by
  unfold Machine.pllsLock
  exact (((h.foldl fun _ _ _ h4 => (h4.setPllPair hp)).pllShow (hk.mono (by decide))).hfckoFollow (hk.mono (by decide)))

theorem Within.clkModePllLock (h : Within R s t) (hp : R.Allows clkModePllLockPieces)
    (hk : R.OpenAt [F.HSL_REF_STATUS_A_LOCK, F.HSL_REF_STATUS_B_LOCK, F.HSL_REF_STATUS_HFCKO0_ON, F.HSL_REF_STATUS_HFCKO1_ON] 0)
    (hk8 : R.Opens ([F.LRX_CTLE_STATUS_CODE, F.LRX_STATUS_CTLE_SEARCH, F.LRX_STATUS_LOL, F.LTX_STATUS_SEALED,
    F.LTX_XA_STATUS_REASON, F.LTX_XA_STATUS_STATE] ++ eqTapFields ++ eqStateFields ++ lineTxFields) 8)
    (hk16 : R.Opens ([F.HSL_ALIGN_STATUS_LOCKED, F.HSL_STATUS_CTLE_CODE, F.HSL_STATUS_LOL, F.HSL_STATUS_TRAINED,
    F.HSL_STATUS_TRAINING] ++ hostEqFields ++ hostTxFields) 16) (hka : ∀ i, R.OpenAt
    ([F.PCS_ALIGN_STATUS_RX_DESKEWED, F.PCS_ALIGN_STATUS_TX_ALIGNED, F.PCS_LINK_STATUS_LOST, F.PCS_LINK_STATUS_PROBED,
    F.PCS_LINK_STATUS_REASON, F.PCS_LINK_STATUS_STATE, F.PCS_LINK_TIME_RESTARTS] ++ alignFields ++ rmFields) i) :
    Within R s (clkModePllLock t) := by
  unfold Machine.clkModePllLock
  refine Within.ite ?_ ?_
  · extract_lets +onlyGivenNames _ s1
    have hs1 : Within R s s1 := ((h.withPathModeChange hp.mono).pllsLock hp.mono hk)
    exact (Within.ite (hs1.foldl fun _ _ _ h4 => (h4.trainLane hp.mono hk8 hk16 hka)) hs1)
  · exact h

theorem Within.clkModeLockTimeout (h : Within R s t) :
    Within R s (clkModeLockTimeout t) := by
  unfold Machine.clkModeLockTimeout
  exact (Within.ite h.raiseRef h)

theorem Within.hslRetrain {c : Cmd} (h : Within R s t) (hp : R.Allows hslRetrainPieces)
    (hk8 : R.Opens ([F.LRX_CTLE_STATUS_CODE, F.LRX_STATUS_CTLE_SEARCH, F.LRX_STATUS_LOL, F.LTX_STATUS_SEALED,
    F.LTX_XA_STATUS_REASON, F.LTX_XA_STATUS_STATE] ++ eqTapFields ++ eqStateFields ++ lineTxFields) 8)
    (hk16 : R.Opens ([F.HSL_ALIGN_STATUS_LOCKED, F.HSL_STATUS_CTLE_CODE, F.HSL_STATUS_LOL, F.HSL_STATUS_TRAINED,
    F.HSL_STATUS_TRAINING] ++ hostEqFields ++ hostTxFields) 16) (hka : ∀ i, R.OpenAt
    ([F.PCS_ALIGN_STATUS_RX_DESKEWED, F.PCS_ALIGN_STATUS_TX_ALIGNED, F.PCS_LINK_STATUS_LOST, F.PCS_LINK_STATUS_PROBED,
    F.PCS_LINK_STATUS_REASON, F.PCS_LINK_STATUS_STATE, F.PCS_LINK_TIME_RESTARTS] ++ alignFields ++ rmFields) i) :
    Answers R s (hslRetrain c t) := by
  unfold Machine.hslRetrain
  exact (Answers.withChecks h fun _ => (Answers.ite h.done ((h.foldl fun _ _ _ h4 => (h4.trainLane hp.mono hk8 hk16 hka)).later
      hp.mono)))

theorem Within.clkRefRevert {c : Cmd} (h : Within R s t) (hp : R.Allows refLostPieces)
    (hk : R.OpenAt [F.HSL_REF_STATUS_A_HOLDOVER, F.HSL_REF_STATUS_A_REF, F.HSL_REF_STATUS_B_HOLDOVER, F.HSL_REF_STATUS_B_REF] 0)
    (hk8 : R.Opens ([F.LRX_CTLE_STATUS_CODE, F.LRX_STATUS_CTLE_SEARCH, F.LRX_STATUS_LOL, F.LTX_STATUS_SEALED,
    F.LTX_XA_STATUS_REASON, F.LTX_XA_STATUS_STATE] ++ eqTapFields ++ eqStateFields ++ lineTxFields) 8)
    (hk16 : R.Opens ([F.HSL_ALIGN_STATUS_LOCKED, F.HSL_STATUS_CTLE_CODE, F.HSL_STATUS_LOL] ++ hostEqFields ++ hostTxFields) 16)
    (hka : ∀ i, R.OpenAt ([F.PCS_ALIGN_STATUS_RX_DESKEWED, F.PCS_ALIGN_STATUS_TX_ALIGNED, F.PCS_LINK_STATUS_LOST,
    F.PCS_LINK_STATUS_PROBED, F.PCS_LINK_STATUS_REASON, F.PCS_LINK_STATUS_STATE, F.PCS_LINK_TIME_RESTARTS] ++ alignFields ++
    rmFields) i) :
    Answers R s (clkRefRevert c t) := by
  unfold Machine.clkRefRevert
  exact (Answers.withChecks h fun _ => (h.revertRegion hp hk hk8 hk16 hka).done)

theorem Within.helloTimer {n : ℕ} (h : Within R s t) (hp : R.Allows [.aside .lanes]) :
    Within R s (helloTimer n t) := by
  unfold Machine.helloTimer
  exact (Within.ite (h.enqueueOnce hp) h)

theorem Within.healthTimer {n : ℕ} (h : Within R s t) (hp : R.Allows [.aside .lanes]) :
    Within R s (healthTimer n t) := by
  unfold Machine.healthTimer
  exact (Within.ite (h.enqueueOnce hp) h)

theorem Within.startPacket {n : ℕ} {p : ℕ} {o : AsideOut} (h : Within R s t) (hp : R.Allows [.aside .lanes, .free])
    (hk : R.OpenAt [F.ASD_STATUS_TX_BUSY] n) :
    Within R s (startPacket t n p o) := by
  unfold Machine.startPacket
  extract_lets +onlyGivenNames q x fresh table s1
  have hs1 : Within R s s1 := (h.setAside hp.mono)
  exact ((hs1.withFree hp.mono).wr hk)

theorem Within.asidePacketStart {n : ℕ} (h : Within R s t) (hp : R.Allows [.aside .lanes, .free])
    (hk : R.OpenAt [F.ASD_STATUS_TX_BUSY] n) :
    Within R s (asidePacketStart n t) := by
  unfold Machine.asidePacketStart
  split
  · exact h
  · refine Within.ite ?_ ?_
    · exact h
    · extract_lets +onlyGivenNames _ s'
      have hs' : Within R s s' := (h.setAside hp.mono)
      split
      · exact hs'
      · exact (hs'.startPacket hp hk)

theorem Within.sendDone {n : ℕ} {tag : BitVec 16} (h : Within R s t) (hp : R.Allows [.mgmt .inProgress]) :
    Within R s (sendDone t n tag) := by
  unfold Machine.sendDone
  split
  · exact h
  · exact (h.maskStep hp)

theorem Within.fragmentSent {x : ℕ} (h : Within R s t) (hp : R.Allows [.lanes .gather])
    (hk : R.OpenAt [F.LEQ_XA_GATHER_SETS, F.LEQ_XA_GATHER_STATE] x) :
    Within R s (fragmentSent t x) := by
  unfold Machine.fragmentSent
  exact (((h.setGather hp).inc hk).wr hk)

theorem Within.asidePacketEnd {n : ℕ} (h : Within R s t) (hp : R.Allows [.lanes .gather, .aside .lanes, .mgmt .inProgress])
    (hk : R.OpenAt [F.ASD_STATUS_TX_BUSY, F.ASD_STATUS_TX_LOAD, F.ASD_TABLE_TX_k_TABLE] n)
    (hka : ∀ i, R.OpenAt [F.LEQ_XA_GATHER_SETS, F.LEQ_XA_GATHER_STATE] i) :
    Within R s (asidePacketEnd n t) := by
  unfold Machine.asidePacketEnd
  split
  · exact h
  · extract_lets +onlyGivenNames _ s1 s2
    have hs1 : Within R s s1 := ((h.setAside hp.mono).wr hk)
    have hs2 : Within R s s2 := hs1.bump
    split
    · exact (hs2.sendDone hp.mono)
    · exact (Within.ite (hs2.fragmentSent hp.mono (hka _)) hs2)
    · exact (Within.ite (hs2.setTxLoading (hk.mono (by decide))) hs2)
    · exact hs2

theorem Within.endReception {n : ℕ} {symbols : ℕ} (h : Within R s t) (hp : R.Allows
    [.lanes .lineRx, .lanes .hostRx, .aside .lanes]) (hk : R.OpenAt [F.ASD_STATUS_RX_BUSY] n) :
    Within R s (endReception t n symbols) := by
  unfold Machine.endReception
  extract_lets +onlyGivenNames s1
  have hs1 : Within R s s1 := by
    unfold s1
    split
    · exact (h.lookFrom hp.mono)
    · exact h
  exact ((hs1.wr hk).setAside hp.mono)

theorem Within.startReception {n : ℕ} {r : AsideRx} (h : Within R s t) (hp : R.Allows
    [.lanes .lineRx, .lanes .hostRx, .aside .lanes]) (hk : R.OpenAt [F.ASD_STATUS_RX_BUSY] n) :
    Within R s (startReception t n r) := by
  unfold Machine.startReception
  extract_lets +onlyGivenNames s1 _ s2
  have hs1 : Within R s s1 := ((h.wr hk).bump)
  have hs2 : Within R s s2 := (hs1.setAside hp.mono)
  split
  · exact hs2
  · exact ((hs2.endReception hp hk).bump)
  · exact ((hs2.endReception hp hk).bump)

theorem Within.preambleFound {n : ℕ} {m : ℕ} {strength : ℕ} (h : Within R s t)
    (hp : R.Allows [.lanes .lineRx, .lanes .hostRx, .aside .lanes]) (hk : R.OpenAt [F.ASD_LEVEL_LAST, F.ASD_STATUS_RX_BUSY] n) :
    Within R s (preambleFound n m strength t) := by
  unfold Machine.preambleFound
  extract_lets +onlyGivenNames ref rej weak
  split
  · extract_lets +onlyGivenNames s1 energy
    have hs1 : Within R s s1 := (h.wr hk)
    exact (Within.ite hs1.bump (hs1.startReception hp (hk.mono (by decide))))
  · refine Within.ite ?_ ?_
    · exact h
    · extract_lets +onlyGivenNames s1
      have hs1 : Within R s s1 := (h.wr hk)
      exact (Within.ite hs1.bump (Within.ite (hs1.bump.bump.startReception hp (hk.mono (by decide))) hs1.bump))

theorem Within.refExpire {n : ℕ} (h : Within R s t) (hk : R.OpenAt [F.ASD_LEVEL_REF] n) :
    Within R s (refExpire t n) := by
  unfold Machine.refExpire
  exact (Within.ite (h.wr hk) h)

theorem Within.preambleDetect {n : ℕ} {m : ℕ} (h : Within R s t) (hp : R.Allows [.lanes .lineRx, .lanes .hostRx, .aside .lanes])
    (hk : R.OpenAt [F.ASD_LEVEL_LAST, F.ASD_LEVEL_REF, F.ASD_STATUS_RX_BUSY] n) :
    Within R s (preambleDetect n m t) := by
  unfold Machine.preambleDetect
  exact (Within.ite (((h.refExpire (hk.mono (by decide))).lookFrom hp.mono).preambleFound hp (hk.mono (by decide))) h)

theorem Within.proposeLoading {n : ℕ} {x : Loading} (h : Within R s t) (hp : R.Allows [.aside .lanes]) :
    Within R s (proposeLoading t n x) := by
  unfold Machine.proposeLoading
  exact ((h.setAside hp).enqueue hp)

theorem Within.loadingResult {n : ℕ} {h' : Word} {failed : Bool} (h : Within R s t) (hp : R.Allows [.aside .lanes]) :
    Within R s (loadingResult t n h' failed) := by
  unfold Machine.loadingResult
  exact (Within.ite h (Within.ite ((h.setAside hp).proposeLoading hp) (h.setAside hp)))

theorem Within.raiseRefused {n : ℕ} {type : ℕ} {reason : ℕ} (h : Within R s t) :
    Within R s (raiseRefused t n type reason) := by
  unfold Machine.raiseRefused
  exact h.raiseEvent

theorem Within.showSnr {n : ℕ} (h : Within R s t) (hk : R.OpenAt [F.ASD_RX_SNR_j_SNR_0, F.ASD_RX_SNR_j_SNR_1,
    F.ASD_RX_SNR_j_SNR_2, F.ASD_RX_SNR_j_SNR_3] n) :
    Within R s (showSnr t n) := by
  unfold Machine.showSnr
  exact (h.foldl fun _ _ m3 h4 => ((((h4.wr hk (hj := .inr (List.mem_range.1 m3))).wr hk (hj := .inr (List.mem_range.1 m3))).wr
      hk (hj := .inr (List.mem_range.1 m3))).wr hk (hj := .inr (List.mem_range.1 m3))))

theorem Within.packetAccepted {n : ℕ} {r : AsideRx} {q : AsidePacket} {snr : List ℕ} (h : Within R s t)
    (hp : R.Allows [.aside .lanes]) (hk : R.OpenAt [F.ASD_RX_SNR_j_SNR_0, F.ASD_RX_SNR_j_SNR_1, F.ASD_RX_SNR_j_SNR_2,
    F.ASD_RX_SNR_j_SNR_3] n) :
    Within R s (packetAccepted t n r q snr) := by
  unfold Machine.packetAccepted
  extract_lets +onlyGivenNames type seq gap s1 x
  have hs1 : Within R s s1 := h.bump.bump
  exact ((hs1.setAside hp).showSnr hk)

theorem Within.receive {n : ℕ} {type : ℕ} {r : AsideRx} {words : List Word} {snr : List ℕ} {k : PacketKind}
    {act : State → AsideRx → List Word → State} (h : Within R s t) (hp : R.Allows
    [.lanes .lineRx, .lanes .hostRx, .aside .lanes]) (hk : R.OpenAt [F.ASD_RX_SNR_j_SNR_0, F.ASD_RX_SNR_j_SNR_1,
    F.ASD_RX_SNR_j_SNR_2, F.ASD_RX_SNR_j_SNR_3, F.ASD_STATUS_RX_BUSY] n)
    (hact : ∀ u, ∀ y0 y1, Within R s u → Within R s (act u y0 y1)) :
    Within R s (receive t n type r words snr k act) := by
  unfold Machine.receive
  extract_lets +onlyGivenNames s1 noKey
  have hs1 : Within R s s1 := ((h.endReception hp (hk.mono (by decide))).loadingResult hp.mono)
  refine Within.ite ?_ ?_
  · exact (Within.ite hs1.bump.raiseRefused hs1)
  · split
    · extract_lets +onlyGivenNames s2
      have hs2 : Within R s s2 := (hs1.packetAccepted hp.mono (hk.mono (by decide)))
      exact (Within.ite hs2.raiseRefused (hact _ _ _ hs2))
    · extract_lets +onlyGivenNames s2
      have hs2 : Within R s s2 := (Within.ite hs1.bump hs1)
      exact (Within.ite hs2.raiseRefused hs2)

theorem Within.heard {n : ℕ} {type : ℕ} {kind : Option ℕ} {k : PacketKind} {act : State → AsideRx → List Word → State}
    (h : Within R s t) (hp : R.Allows [.lanes .lineRx, .lanes .hostRx, .aside .lanes])
    (hk : R.OpenAt [F.ASD_RX_SNR_j_SNR_0, F.ASD_RX_SNR_j_SNR_1, F.ASD_RX_SNR_j_SNR_2, F.ASD_RX_SNR_j_SNR_3, F.ASD_STATUS_RX_BUSY]
    n) (hact : ∀ u, ∀ y0 y1, Within R s u → Within R s (act u y0 y1)) :
    Within R s (heard n type kind k act t) := by
  unfold Machine.heard
  split
  · exact (Within.ite (h.receive hp hk hact) h)
  · exact h

theorem Within.flowRenumber {p : ℕ} {ticks : Word} (h : Within R s t) (hp : R.Allows [.obs .replay, .obs .shifts, .path .rx]) :
    Within R s (flowRenumber t p ticks) := by
  unfold Machine.flowRenumber
  exact (h.withObsReplayShiftsPathRx hp)

theorem Within.renumberRx {p : ℕ} {count : BitVec 48} {epoch : BitVec 16} (h : Within R s t)
    (hp : R.Allows [.time .tx, .time .rx, .time .cues, .obs .replay, .obs .shifts, .path .rx])
    (hk8 : R.Opens [F.LTX_STATUS_SEALED] 8) :
    Within R s (renumberRx t p count epoch) := by
  unfold Machine.renumberRx
  extract_lets +onlyGivenNames k
  refine Within.ite ?_ ?_
  · exact h
  · extract_lets +onlyGivenNames old s1 s2
    have hs1 : Within R s s1 := (h.setShowClock hp.mono)
    have hs2 : Within R s s2 := (hs1.flowRenumber hp.mono)
    exact (hs2.cancelCues hp.mono hk8)

theorem Within.pairAt {n : ℕ} {p : ℕ} {group : ℕ} {stamp : ℕ} (h : Within R s t)
    (hp : R.Allows [.time .tx, .time .rx, .time .paired, .time .cues, .obs .replay, .obs .shifts, .path .tx, .path .rx])
    (hk8 : R.Opens [F.LTX_STATUS_SEALED] 8) :
    Within R s (pairAt t n p group stamp) := by
  unfold Machine.pairAt
  extract_lets +onlyGivenNames old x count s0 path s1
  have hs0 : Within R s s0 := (h.renumberRx hp.mono hk8)
  have hs1 : Within R s s1 := (hs0.setPortPath hp.mono)
  exact (Within.ite (Within.ite hs1 hs1.raiseEvent) ((hs1.setPaired hp.mono).raiseEvent))

theorem Within.pairStamp {n : ℕ} {p : ℕ} {instant : ℕ} {stamp : ℕ} (h : Within R s t)
    (hp : R.Allows [.time .tx, .time .rx, .time .paired, .time .cues, .obs .replay, .obs .shifts, .path .tx, .path .rx])
    (hk8 : R.Opens [F.LTX_STATUS_SEALED] 8) :
    Within R s (pairStamp t n p instant stamp) := by
  unfold Machine.pairStamp
  split
  · exact h
  · exact (h.pairAt hp hk8)

theorem Within.helloAccepted {n : ℕ} {r : AsideRx} {words : List Word} (h : Within R s t) (hp : R.Allows helloAcceptedPieces)
    (hk : R.OpenAt [F.ASD_LEVEL_REF, F.ASD_PARTNER_ID_0_ID_LO, F.ASD_PARTNER_ID_1_ID_HI, F.ASD_PARTNER_INFO_CAPS,
    F.ASD_PARTNER_INFO_PART, F.ASD_PARTNER_INFO_STEP, F.ASD_STATUS_AUTH_STATE, F.ASD_STATUS_GATHERER, F.ASD_STATUS_PARTNER_LANE,
    F.ASD_STATUS_PARTNER_PROFILE, F.ASD_STATUS_PARTNER_WIDTH, F.ASD_STATUS_POLARITY, F.ASD_STATUS_RX_LOAD,
    F.ASD_STATUS_STAMP_SEEN, F.ASD_STATUS_TX_LOAD, F.ASD_STATUS_UP, F.ASD_TABLE_RX_k_TABLE, F.ASD_TABLE_TX_k_TABLE,
    F.LEQ_XA_GATHER_STATE, F.LTX_XA_STATUS_REASON, F.LTX_XA_STATUS_STATE] n)
    (hk8 : R.Opens ([F.LRX_CTLE_STATUS_CODE, F.LRX_STATUS_CTLE_SEARCH, F.LTX_STATUS_SEALED, F.LTX_XA_STATUS_REASON,
    F.LTX_XA_STATUS_STATE] ++ eqTapFields ++ eqStateFields ++ lineTxFields) 8)
    (hka : ∀ i, R.OpenAt ([F.PCS_ALIGN_STATUS_RX_DESKEWED, F.PCS_ALIGN_STATUS_TX_ALIGNED, F.PCS_LINK_STATUS_BACKOFF,
    F.PCS_LINK_STATUS_LOST, F.PCS_LINK_STATUS_MAP_LEARNED, F.PCS_LINK_STATUS_PROBED, F.PCS_LINK_STATUS_REASON,
    F.PCS_LINK_STATUS_STATE, F.PCS_LINK_TIME_RESTARTS, F.PCS_LINK_TIME_UP_TIME, F.PCS_RX_MAP_USE_INV, F.PCS_RX_MAP_USE_PHYS] ++
    alignFields ++ rmFields) i) (hk16 : R.Opens ([F.HSL_ALIGN_STATUS_LOCKED, F.HSL_STATUS_CTLE_CODE] ++ hostEqFields ++
    hostTxFields) 16) :
    Within R s (helloAccepted n t r words) := by
  unfold Machine.helloAccepted
  split
  · exact h
  · extract_lets +onlyGivenNames wasUp wasCoop profile idHi idLo idChanged profileChanged caps polarity valid s1 s2 s3 s4 s5 s6
      s7 s8 s9 lp s10
    have hs1 : Within R s s1 := (((h.wr hk).wr hk).wr hk)
    have hs2 : Within R s s2 := (((hs1.wrB hk).wrB hk).wr hk)
    have hs3 : Within R s s3 := (((hs2.wrB hk).wr hk).wr hk)
    have hs4 : Within R s s4 := (((hs3.wr hk).wr hk).wr hk)
    have hs5 : Within R s s5 := (Within.ite (hs4.wr hk) hs4)
    have hs6 : Within R s s6 := (Within.ite hs5.raisePartner hs5)
    have hs7 : Within R s s7 := (Within.ite (hs6.leaveCoop hp.mono (hk.mono (by decide)) (hk8.mono (by decide))) hs6)
    have hs8 : Within R s s8 := by
      unfold s8
      refine Within.ite ?_ ?_
      · exact hs7
      · refine (Within.ite hs7 (hs7.challenge hp.mono (hk.mono (by decide)))).foldl fun u1 x2 m3 h4 => ?_
        split
        · exact (Within.ite (h4.enqueueOnce hp.mono) h4)
        · exact h4
    have hs9 : Within R s s9 := (Within.ite (hs8.pairStamp hp.mono (hk8.mono (by decide))) hs8)
    have hs10 : Within R s s10 := (hs9.setLink hp.mono)
    exact (Within.ite (hs10.probeJudge hp.mono (hka _) hk8 (fun i => (hka i).mono (by decide)) hk16) hs10)

theorem Within.requestAccepted {n : ℕ} {x : AsideRx} {words : List Word} (h : Within R s t)
    (hp : R.Allows [.lanes .gather, .aside .lanes]) (hka : ∀ i, R.OpenAt [F.LEQ_XA_GATHER_STATE] i) :
    Within R s (requestAccepted n t x words) := by
  unfold Machine.requestAccepted
  split
  · exact h
  · exact (Within.ite (((h.stopGather hp (hka _)).setGather hp.mono).wr (hka _)) h)

theorem Within.xaAgree {n : ℕ} {x : XaRun} (h : Within R s t) (hp : R.Allows
    [.time .cues, .lanes .xa, .aside .lanes, .aside .agreeCount]) (hk : R.OpenAt [F.LTX_XA_STATUS_REASON, F.LTX_XA_STATUS_STATE]
    n) (hk8 : R.Opens [F.LTX_STATUS_SEALED] 8) :
    Within R s (xaAgree t n x) := by
  unfold Machine.xaAgree
  split
  · refine Within.ite ?_ ?_
    · extract_lets +onlyGivenNames s1
      have hs1 : Within R s s1 := ((h.setXa hp.mono).wr hk)
      exact (hs1.reserveCue hp.mono hk8)
    · exact (h.xaStop hp.mono hk8 hk)
  · exact (h.xaStop hp.mono hk8 hk)

theorem Within.xaWrite {free : ℕ} {n : ℕ} {x : XaRun} {residual : List ℤ} (h : Within R s t)
    (hp : R.Allows [.lanes .tx, .mem .retrain]) (hk : R.OpenAt [F.MEM_LUT_STATUS_RETRAIN] 0) :
    Within R s (xaWrite t free n x residual) := by
  unfold Machine.xaWrite
  extract_lets +onlyGivenNames active s1
  have hs1 : Within R s s1 := (h.lutReadAll hp hk)
  exact (hs1.lutReplace hp hk)

theorem Within.xaUpdate {free : ℕ} {n : ℕ} {x : XaRun} {residual : List ℤ} (h : Within R s t)
    (hp : R.Allows [.time .cues, .lanes .tx, .lanes .xa, .aside .lanes, .aside .agreeCount, .mem .retrain])
    (hk8 : R.Opens [F.LTX_STATUS_SEALED] 8) (hk : R.OpenAt [F.LTX_XA_STATUS_REASON, F.LTX_XA_STATUS_STATE] n)
    (hk'2 : R.OpenAt [F.MEM_LUT_STATUS_RETRAIN] 0) :
    Within R s (xaUpdate t free n x residual) := by
  unfold Machine.xaUpdate
  exact (Within.ite (h.xaStop hp.mono hk8 hk) ((h.xaWrite hp.mono hk'2).xaAgree hp.mono hk hk8))

theorem Within.xaSet {n : ℕ} {x0 : XaRun} (h : Within R s t) (hp : R.Allows
    [.time .cues, .lanes .tx, .lanes .xa, .lanes .revertDue, .aside .lanes, .aside .agreeCount, .mem .retrain, .free])
    (hk8 : R.Opens [F.LTX_STATUS_SEALED] 8) (hk : R.OpenAt [F.LTX_XA_STATUS_REASON, F.LTX_XA_STATUS_RMS, F.LTX_XA_STATUS_STATE]
    n) (hk'2 : R.OpenAt [F.MEM_LUT_STATUS_RETRAIN] 0) :
    Within R s (xaSet t n x0) := by
  unfold Machine.xaSet
  refine Within.ite ?_ ?_
  · exact (h.xaFail hp.mono hk8 (hk.mono (by decide)))
  · extract_lets +onlyGivenNames free s' entries residual rms shown low x s1
    have hs' : Within R s s' := (h.withFree hp.mono)
    have hs1 : Within R s s1 := (((hs'.setXa hp.mono).wr hk).raiseEvent)
    exact (Within.ite (hs1.xaStop hp.mono hk8 (hk.mono (by decide))) (Within.ite
        ((hs1.xaStop hp.mono hk8 (hk.mono (by decide))).xaRevert hp.mono hk'2 hk8)
        ((hs1.wr hk).xaUpdate hp.mono hk8 (hk.mono (by decide)) hk'2)))

theorem Within.fragmentAccepted {n : ℕ} {x : AsideRx} {words : List Word} (h : Within R s t)
    (hp : R.Allows [.time .cues, .lanes .tx, .lanes .xa, .lanes .revertDue, .aside .lanes, .aside .agreeCount, .mem .retrain,
    .free]) (hk8 : R.Opens [F.LTX_STATUS_SEALED, F.LTX_XA_STATUS_REASON, F.LTX_XA_STATUS_RMS, F.LTX_XA_STATUS_STATE] 8)
    (hk : R.OpenAt [F.MEM_LUT_STATUS_RETRAIN] 0) :
    Within R s (fragmentAccepted n t x words) := by
  unfold Machine.fragmentAccepted
  extract_lets +onlyGivenNames w1 own
  split
  · exact h
  · next x hrun =>
    have hown : own < 8 := xaRun_lt hrun
    have hset := fun x' => h.setXa (n := own) (x := x') hp.mono
    exact .ite h (.ite ((hset _).xaSet hp.mono (hk8.mono (by decide)) (hk8.at hown (by decide)) (hk.mono (by decide))) (hset _))

theorem Within.proposalAccepted {n : ℕ} {x : AsideRx} {words : List Word} (h : Within R s t)
    (hp : R.Allows [.time .cues, .lanes .boundary, .aside .lanes]) (hk8 : R.Opens [F.LTX_STATUS_SEALED] 8) :
    Within R s (proposalAccepted n t x words) := by
  unfold Machine.proposalAccepted
  split
  · exact h
  · extract_lets +onlyGivenNames id action trigger
    split
    · exact (h.enqueue hp.mono)
    · extract_lets +onlyGivenNames refusal _ s1
      have hs1 : Within R s s1 := (Within.ite h (Within.ite (h.withLanesBoundary hp.mono) (h.setCue hp.mono hk8)))
      exact ((hs1.setAside hp.mono).enqueue hp.mono)

theorem Within.agreeAccepted {e : ℕ} (h : Within R s t) (hp : R.Allows [.time .cues, .mgmt .inProgress])
    (hk8 : R.Opens [F.LTX_STATUS_SEALED] 8) :
    Within R s (agreeAccepted t e) := by
  unfold Machine.agreeAccepted
  split
  · exact ((h.setCue hp.mono hk8).completeProg hp.mono)
  · exact h

theorem Within.ackAccepted {x : AsideRx} {words : List Word} (h : Within R s t)
    (hp : R.Allows [.time .cues, .lanes .xa, .mgmt .inProgress]) (hk8 : R.Opens
    [F.LTX_STATUS_SEALED, F.LTX_XA_STATUS_REASON, F.LTX_XA_STATUS_STATE] 8) :
    Within R s (ackAccepted t x words) := by
  unfold Machine.ackAccepted
  extract_lets +onlyGivenNames id
  split
  · exact h
  · exact (Within.ite (h.agreeAccepted hp.mono (hk8.mono (by decide))) (h.agreeFailed hp hk8))

theorem Within.loadProposeAccepted {n : ℕ} {x : AsideRx} {words : List Word} (h : Within R s t) (hp : R.Allows [.aside .lanes]) :
    Within R s (loadProposeAccepted n t x words) := by
  unfold Machine.loadProposeAccepted
  exact (Within.ite (h.enqueue hp) h)

theorem Within.loadConfirmAccepted {n : ℕ} {x : AsideRx} {words : List Word} (h : Within R s t) (hp : R.Allows [.aside .lanes])
    (hk : R.OpenAt [F.ASD_STATUS_RX_LOAD, F.ASD_TABLE_RX_k_TABLE] n) :
    Within R s (loadConfirmAccepted n t x words) := by
  unfold Machine.loadConfirmAccepted
  split
  · exact h
  · refine Within.ite ?_ ?_
    · extract_lets +onlyGivenNames _ s1
      have hs1 : Within R s s1 := (h.setAside hp)
      exact (hs1.setRxLoading hk)
    · exact h

theorem Within.tagAccepted {n : ℕ} {x : AsideRx} {words : List Word} (h : Within R s t) :
    Within R s (tagAccepted n t x words) := by
  unfold Machine.tagAccepted
  exact h.raiseEvent

theorem Within.challengeAccepted {n : ℕ} {x : AsideRx} {words : List Word} (h : Within R s t) (hp : R.Allows [.aside .lanes]) :
    Within R s (challengeAccepted n t x words) := by
  unfold Machine.challengeAccepted
  exact (h.enqueue hp)

theorem Within.setAuthState {n : ℕ} {v : ℕ} (h : Within R s t) (hk : R.OpenAt [F.ASD_STATUS_AUTH_STATE] n) :
    Within R s (setAuthState t n v) := by
  unfold Machine.setAuthState
  exact ((h.wr hk).raiseEvent)

theorem Within.responseAccepted {n : ℕ} {x : AsideRx} {words : List Word} (h : Within R s t)
    (hp : R.Allows [.aside .lanes, .mgmt .inProgress]) (hk : R.OpenAt [F.ASD_STATUS_AUTH_STATE] n) :
    Within R s (responseAccepted n t x words) := by
  unfold Machine.responseAccepted
  refine Within.ite ?_ ?_
  · extract_lets +onlyGivenNames _ s1
    have hs1 : Within R s s1 := (h.setAside hp.mono)
    exact (Within.ite (hs1.setAuthState hk) (Within.ite ((hs1.setAuthState hk).maskProgress hp.mono) h))
  · exact h

theorem Within.loadingEvaluation {n : ℕ} (h : Within R s t) (hp : R.Allows [.aside .lanes]) :
    Within R s (loadingEvaluation n t) := by
  unfold Machine.loadingEvaluation
  exact (Within.ite h (Within.ite (h.proposeLoading hp) h))

theorem Within.asdBufSet {c : Cmd} (h : Within R s t) (hp : R.Allows [.aside .lanes, .aside .bufs]) :
    Answers R s (asdBufSet c t) := by
  unfold Machine.asdBufSet
  refine Answers.withChecks h fun _ => Within.done ?_
  have hs1 : ∀ v, Within R s { t with aside := { t.aside with bufs := v } } := fun v => h.withAsideBufs hp.mono
  exact .ite ((hs1 _).foldl fun _ _ _ h4 => .ite (h4.enqueueOnce hp.mono) h4) (hs1 _)

theorem Within.asdSend {c : Cmd} (h : Within R s t) (hp : R.Allows [.aside .lanes, .mgmt .inProgress]) :
    Answers R s (asdSend c t) := by
  unfold Machine.asdSend
  exact (Answers.withChecks h fun _ => (Answers.ite h.done ((h.foldl fun _ _ _ h4 => (h4.enqueue hp.mono)).later hp.mono)))

theorem Within.asdRxRead {c : Cmd} (h : Within R s t) (hb : R.bulk) :
    Answers R s (asdRxRead c t) := by
  unfold Machine.asdRxRead
  refine Answers.withChecks h fun _ => ?_
  split
  · exact (h.bulkWords hb).done
  · exact h.done

theorem Within.putKey {slot : ℕ} {k : Option (BitVec 8 × BitVec 256)} (h : Within R s t) (hp : R.Allows [.aside .keys]) :
    Within R s (putKey t slot k) := by
  unfold Machine.putKey
  exact (h.withAsideKeys hp)

theorem Within.asdKeySet {c : Cmd} (h : Within R s t) (hp : R.Allows [.aside .keys]) :
    Answers R s (asdKeySet c t) := by
  unfold Machine.asdKeySet
  exact (Answers.withChecks h fun _ => (h.putKey hp).done)

theorem Within.asdKeyClear {c : Cmd} (h : Within R s t) (hp : R.Allows [.aside .keys]) :
    Answers R s (asdKeyClear c t) := by
  unfold Machine.asdKeyClear
  exact (Answers.withChecks h fun _ => (h.putKey hp).done)

theorem Within.asdAuthStart {c : Cmd} (h : Within R s t) (hp : R.Allows [.aside .lanes, .mgmt .inProgress])
    (hk8 : R.Opens [F.ASD_STATUS_AUTH_STATE] 8) :
    Answers R s (asdAuthStart c t) := by
  unfold Machine.asdAuthStart
  exact (Answers.withChecks h fun _ => (Answers.ite h.done ((h.foldl fun _ _ m3 h4 =>
      (h4.challenge hp.mono (hk8.at (lt_of_mem_whichBelow m3) (by decide)))).later hp.mono)))

theorem Within.authStartTimeout (h : Within R s t) (hp : R.Allows [.mgmt .inProgress]) :
    Within R s (authStartTimeout t) := by
  unfold Machine.authStartTimeout
  split
  · exact (h.completeProg hp)
  · exact h

theorem Within.asdLoadReset {c : Cmd} (h : Within R s t) (hp : R.Allows [.aside .lanes]) :
    Answers R s (asdLoadReset c t) := by
  unfold Machine.asdLoadReset
  exact (Answers.withChecks h fun _ => (h.foldl fun _ _ _ h4 => (h4.proposeLoading hp)).done)

theorem Within.calRun {c : Cmd} (h : Within R s t) (hp : R.Allows [.cal .deferred, .mgmt .inProgress]) :
    Answers R s (calRun c t) := by
  unfold Machine.calRun
  exact (Answers.withChecks h fun _ => (Answers.ite ((h.withCalDeferred hp.mono).done) (h.later hp.mono)))

theorem Within.calRunRow {c : Cmd} (h : Within R s t) (hp : R.Allows (([.ctl .sense] : List Piece) ++ Part.cal.pieces ++
    ([.mgmt .inProgress] : List Piece))) (hk : R.OpenAt [F.CAL_STATE_HANDLE, F.CAL_STATE_TARGETS] 0)
    (hk8 : R.Opens [F.LRX_SLICE_STATUS_WINGS] 8) (hk16 : R.Opens [F.HSL_SLICE_STATUS_WINGS] 16) (hcal : ∀ i, R.OpenAt calShown i)
    :
    Within R s (calRunRow c t) := by
  unfold Machine.calRunRow
  extract_lets +onlyGivenNames t'
  have ht' : Within R s t' := h.hostCmd fun _ _ _ hu => hu.calRun hp.mono
  exact .ite (ht'.calStart hp.mono hk hk8 hk16 hcal) ht'

theorem Within.calAbort (h : Within R s t) (hp : R.Allows [.ctl .sense, .cal .run, .cal .lineLaps, .cal .hostLaps, .cal .skewNow,
    .cal .skewAgain, .cal .skewRepeated, .cal .bdacQueue, .cal .senseQueue, .cal .bdacNow, .cal .senseNow, .mgmt .inProgress])
    (hk8 : R.Opens [F.LRX_SLICE_STATUS_WINGS] 8) (hk16 : R.Opens [F.HSL_SLICE_STATUS_WINGS] 16)
    (hk : R.OpenAt [F.CAL_STATE_HANDLE, F.CAL_STATE_TARGETS] 0) (hcal : ∀ i, R.OpenAt calShown i) :
    Answers R s (calAbort t) := by
  unfold Machine.calAbort
  exact (Answers.withChecks h fun _ => (h.calAbortAll hp hk8 hk16 hk hcal).done)

theorem Within.calRelease {c : Cmd} (h : Within R s t) (hp : R.Allows [.cal .deferred]) :
    Answers R s (calRelease c t) := by
  unfold Machine.calRelease
  exact (Answers.withChecks h fun _ => (h.withCalDeferred hp).done)

theorem Within.writeSets {key : ℕ} {t' : ℤ} {v : ℤ} (h : Within R s t) (hp : R.Allows [.cal .sets]) :
    Within R s (writeSets t key t' v) := by
  unfold Machine.writeSets
  exact ((h.withCalSets hp).foldl fun _ _ _ h4 => h4.bankWritten)

theorem Within.takeValues {t' : CalTarget} {inst : ℕ} {unit : ℕ} {vs : List ℤ} (h : Within R s t)
    (hp : R.Allows [.cal .sets, .cal .targets]) :
    Within R s (takeValues t t' inst unit vs) := by
  unfold Machine.takeValues
  exact (h.foldl fun _ _ _ h4 => ((h4.writeSets hp.mono).setTarget hp.mono))

theorem Within.dtcTargets {x : Fin 8} {sums : List ℤ} {n : ℕ} (h : Within R s t) (hp : R.Allows [.cal .dtcTarget, .free]) :
    Within R s (dtcTargets t x sums n) := by
  unfold Machine.dtcTargets
  refine h.foldl fun u1 x2 m3 h4 => ?_
  split
  · exact (h4.withCalDtcTarget hp.mono)
  · exact ((h4.withCalDtcTarget hp.mono).takeFree hp.mono)

theorem Within.calMeasurementEnd {l : LaneId} {num : ℤ} {den : ℕ} {trim : ℤ} {pass : Bool} {inl : List ℤ} (h : Within R s t)
    (hp : R.Allows [.cal .run, .cal .lineLaps, .cal .hostLaps, .cal .sets, .cal .targets, .cal .dtcTarget, .mgmt .inProgress,
    .free]) (hk8 : R.Opens ([F.LRX_SLICE_STATUS_WINGS] ++ sliceFailedFields) 8)
    (hk16 : R.Opens [F.HSL_SLICE_FAILED_FAILED, F.HSL_SLICE_STATUS_FAILED_32, F.HSL_SLICE_STATUS_WINGS] 16)
    (hk : R.OpenAt [F.CAL_STATE_HANDLE, F.CAL_STATE_TARGETS] 0) (hcal : ∀ i, R.OpenAt calShown i) :
    Within R s (calMeasurementEnd l num den trim pass inl t) := by
  unfold Machine.calMeasurementEnd
  split
  · exact h
  · refine Within.ite ?_ ?_
    · exact h
    · refine Within.ite ?_ ?_
      · exact (h.setLap hp.mono)
      · refine Within.ite ?_ ?_
        · exact ((h.markFailed (hk8.mono (by decide)) (hk16.mono (by decide))).lapStop hp.mono (hk8.mono (by decide))
            (hk16.mono (by decide)) hk hcal)
        · extract_lets +onlyGivenNames t' delay s1 lim sums
          have hs1 : Within R s s1 := (h.takeValues hp.mono)
          refine Within.ite ?_ ?_
          · extract_lets +onlyGivenNames s2
            have hs2 : Within R s s2 := by
              unfold s2
              split
              · exact (hs1.dtcTargets hp.mono)
              · exact hs1
            exact (hs2.lapStop hp.mono (hk8.mono (by decide)) (hk16.mono (by decide)) hk hcal)
          · exact (hs1.setLap hp.mono)

theorem Within.handOver {l : LaneId} {x : Lap} (h : Within R s t) (hp : R.Allows
    [.lanes .lineFront, .lanes .hostFront, .cal .lineLaps, .cal .hostLaps]) (hk8 : R.Opens [F.LRX_SLICE_STATUS_UNDERSTUDY] 8)
    (hk16 : R.Opens [F.HSL_SLICE_STATUS_UNDERSTUDY] 16) :
    Within R s (handOver t l x) := by
  unfold Machine.handOver
  extract_lets +onlyGivenNames q pos relieved s1
  have hs1 : Within R s s1 := (h.setSlices hp.mono)
  exact ((hs1.setLap hp.mono).setUnderstudy hk8 hk16)

theorem Within.calHandover {l : LaneId} (h : Within R s t) (hp : R.Allows
    [.lanes .lineFront, .lanes .hostFront, .cal .lineLaps, .cal .hostLaps]) (hk8 : R.Opens [F.LRX_SLICE_STATUS_UNDERSTUDY] 8)
    (hk16 : R.Opens [F.HSL_SLICE_STATUS_UNDERSTUDY] 16) :
    Within R s (calHandover l t) := by
  unfold Machine.calHandover
  split
  · exact h
  · exact (Within.ite (Within.ite (Within.ite h ((h.setLap hp.mono).bumpL)) (h.handOver hp hk8 hk16)) h)

theorem Within.calCorrectionUpdate (h : Within R s t) (hp : R.Allows [.cal .inUse])
    (hka : ∀ i, R.OpenAt [F.LEQ_THR_CAL_c_DTC_0, F.LEQ_THR_CAL_c_DTC_1, F.LEQ_THR_CAL_c_DTC_2] i) :
    Within R s (calCorrectionUpdate t) := by
  unfold Machine.calCorrectionUpdate
  extract_lets +onlyGivenNames _ s1
  have hs1 : Within R s s1 := h.withCalInUse hp.mono
  refine hs1.foldl fun u e _ hu => hu.wrI (hka _) ?_ (.inr ?_)
  · split
    · decide
    · split <;> decide
  · split
    · exact Nat.mod_lt _ (by decide)
    · split <;> exact Nat.mod_lt _ (by decide)

theorem Within.calTempRecompute (h : Within R s t) (hp : R.Allows [.cal .sets, .cal .targets]) (hcal : ∀ i, R.OpenAt calShown i) :
    Within R s (calTempRecompute t) := by
  unfold Machine.calTempRecompute
  refine h.foldl fun u1 x2 m3 h4 => ?_
  extract_lets +onlyGivenNames t'
  have ht' : Within R s t' := (h4.storeRead hp.mono hcal)
  split
  · exact (ht'.setTarget hp.mono)
  · exact ht'

theorem Within.dacSkewEnd {n : Fin 8} {skews : List ℤ} (h : Within R s t)
    (hp : R.Allows (Part.cal.pieces ++ ([.mgmt .inProgress] : List Piece)))
    (hk : R.OpenAt [F.CAL_STATE_HANDLE, F.CAL_STATE_TARGETS] 0) (hcal : ∀ i, R.OpenAt calShown i) :
    Within R s (dacSkewEnd n skews t) := by
  unfold Machine.dacSkewEnd
  refine Within.ite ?_ ?_
  · refine Within.ite ?_ ?_
    · exact ((h.withCal hp.mono).skewBegin hp.mono)
    · extract_lets +onlyGivenNames _ s1
      have hs1 : Within R s s1 := (h.withCal hp.mono)
      refine Within.ite ?_ ?_
      · exact ((hs1.instanceEnd hp.mono hcal).runCheck hp.mono hk)
      · extract_lets +onlyGivenNames s2
        have hs2 : Within R s s2 := (hs1.foldl fun _ _ _ h4 => (h4.takeValues hp.mono))
        exact ((hs2.instanceEnd hp.mono hcal).runCheck hp.mono hk)
  · exact h

theorem Within.bdacCalEnd {c : ℕ} {x1 : ℤ × ℤ} {x2 : ℤ × ℤ} (h : Within R s t)
    (hp : R.Allows [.ctl .sense, .cal .run, .cal .bdacQueue, .cal .senseQueue, .cal .bdacNow, .cal .senseNow, .cal .repeatBdac,
    .cal .repeatSense, .cal .sets, .cal .targets, .mgmt .inProgress]) (hk : R.OpenAt [F.CAL_STATE_HANDLE, F.CAL_STATE_TARGETS] 0)
    (hcal : ∀ i, R.OpenAt calShown i) :
    Within R s (bdacCalEnd c x1 x2 t) := by
  unfold Machine.bdacCalEnd
  refine Within.ite ?_ ?_
  · refine Within.ite ?_ ?_
    · exact (h.withCalRepeatBdac hp.mono)
    · extract_lets +onlyGivenNames s1 lim
      have hs1 : Within R s s1 := ((h.takeValues hp.mono).takeValues hp.mono)
      exact ((((hs1.withCalBdacNow hp.mono).instanceEnd hp.mono hcal).calNext hp.mono hcal).runCheck hp.mono hk)
  · exact h

theorem Within.snsCalEnd {n : ℕ} {offset : ℤ} {gain : ℤ} (h : Within R s t)
    (hp : R.Allows [.ctl .sense, .cal .run, .cal .bdacQueue, .cal .senseQueue, .cal .bdacNow, .cal .senseNow, .cal .repeatBdac,
    .cal .repeatSense, .cal .sets, .cal .targets, .mgmt .inProgress]) (hk : R.OpenAt [F.CAL_STATE_HANDLE, F.CAL_STATE_TARGETS] 0)
    (hcal : ∀ i, R.OpenAt calShown i) :
    Within R s (snsCalEnd n offset gain t) := by
  unfold Machine.snsCalEnd
  refine Within.ite ?_ ?_
  · refine Within.ite ?_ ?_
    · exact (h.withCalRepeatSense hp.mono)
    · extract_lets +onlyGivenNames s1 _ s2
      have hs1 : Within R s s1 := (h.takeValues hp.mono)
      have hs2 : Within R s s2 := (hs1.setSense hp.mono)
      exact ((((hs2.withCalSenseNow hp.mono).instanceEnd hp.mono hcal).calNext hp.mono hcal).runCheck hp.mono hk)
  · exact h

theorem Within.bdacDeliver {c : ℕ} {code : ℕ} (h : Within R s t) (hp : R.Allows [.ctl .bdac])
    (hk : R.OpenAt [F.BDAC_CEIL_c_CEIL_HIT, F.BDAC_STATUS_c_APPLIED, F.BDAC_STATUS_c_HOLDING, F.BDAC_STATUS_c_STATE] c) :
    Within R s (bdacDeliver t c code) := by
  unfold Machine.bdacDeliver
  extract_lets +onlyGivenNames _ s1 s2
  have hs1 : Within R s s1 := (h.setBdac hp)
  have hs2 : Within R s s2 := (Within.ite (hs1.wr hk) hs1)
  exact (Within.ite (hs2.bdacRefresh hp (hk.mono (by decide))) hs2)

theorem Within.bdacBoundary {c : ℕ} (h : Within R s t) (hp : R.Allows [.ctl .bdac])
    (hk : R.OpenAt [F.BDAC_CEIL_c_CEIL_HIT, F.BDAC_STATUS_c_APPLIED, F.BDAC_STATUS_c_HOLDING, F.BDAC_STATUS_c_STATE] c) :
    Within R s (bdacBoundary t c) := by
  unfold Machine.bdacBoundary
  refine Within.ite ?_ ?_
  · exact (Within.ite h (h.bdacOff hp hk))
  · extract_lets +onlyGivenNames src
    refine Within.ite ?_ ?_
    · exact h
    · extract_lets +onlyGivenNames _ s1
      have hs1 : Within R s s1 := (h.setBdac hp)
      exact ((Within.ite (hs1.wr hk) hs1).bdacRefresh hp (hk.mono (by decide)))

theorem Within.deliverCodes (h : Within R s t) (hp : R.Allows [.ctl .bdac, .ctl .pendingCodes])
    (hka : ∀ i, R.OpenAt [F.BDAC_CEIL_c_CEIL_HIT, F.BDAC_STATUS_c_APPLIED, F.BDAC_STATUS_c_HOLDING, F.BDAC_STATUS_c_STATE] i) :
    Within R s (deliverCodes t) := by
  unfold Machine.deliverCodes
  extract_lets +onlyGivenNames _ s1
  have hs1 : Within R s s1 := (h.withCtlPendingCodes hp.mono).foldl fun _ _ _ h4 => h4.bdacDeliver hp.mono (hka _)
  exact hs1.foldl fun _ _ _ h8 => h8.bdacBoundary hp.mono (hka _)

theorem Within.engineFault {mismatch : Bool} {parity : Bool} (h : Within R s t) (hp : R.Allows [.ctl .pendingCodes])
    (hk32 : R.Opens [F.LOOP_STATUS_SLEW, F.LOOP_STATUS_STATE] 32) (hk8 : R.Opens [F.LOOP_GRP_STATUS_g_SLEW] 8)
    (hk : R.OpenAt [F.LOOP_ENGINE_STATUS_FAULT] 0) :
    Within R s (engineFault t mismatch parity) := by
  unfold Machine.engineFault
  extract_lets +onlyGivenNames _ s1 s2 s3
  have hs1 : Within R s s1 := ((h.withCtlPendingCodes hp).foldl fun _ _ m3 h4 =>
      ((Within.ite h4 (h4.setLoopState (hk32.at (List.mem_range.1 m3) (by decide)))).wr (hk32 _ (List.mem_range.1 m3))))
  have hs2 : Within R s s2 := (hs1.foldl fun _ _ m7 h8 => (h8.wr (hk8 _ (List.mem_range.1 m7))))
  have hs3 : Within R s s3 := ((hs2.wr hk).raiseEvent)
  exact hs3.curtain

theorem Within.frozenSets {l : ℕ} (h : Within R s t) (hp : R.Allows [.ctl .loops])
    (hk : R.OpenAt [F.LOOP_HIST_FLAGS, F.LOOP_STATUS_FROZEN, F.LOOP_STATUS_STATE] l)
    (hk8 : R.Opens [F.LOOP_GRP_STATUS_g_ESCALATED] 8) (hk32 : R.Opens [F.LOOP_STATUS_STATE] 32) :
    Within R s (frozenSets t l) := by
  unfold Machine.frozenSets
  exact (Within.ite h (((h.wr hk).setHistory (hk.mono (by decide))).loseFeedback hp hk8 hk32 (hk.mono (by decide))))

theorem Within.freezeTest {l : ℕ} {x : ℤ} (h : Within R s t) (hp : R.Allows [.ctl .loops])
    (hk : R.OpenAt [F.LOOP_HIST_FLAGS, F.LOOP_STATUS_FROZEN, F.LOOP_STATUS_STATE] l)
    (hk8 : R.Opens [F.LOOP_GRP_STATUS_g_ESCALATED] 8) (hk32 : R.Opens [F.LOOP_STATUS_STATE] 32) :
    Within R s (freezeTest t l x) := by
  unfold Machine.freezeTest
  refine Within.ite ?_ ?_
  · extract_lets +onlyGivenNames r n run cnt sum sq thr atEnd varHit eqHit blkEq r1 s1
    have hs1 : Within R s s1 := (h.setLoop hp)
    exact (Within.ite (hs1.frozenSets hp hk hk8 hk32) (Within.ite (hs1.wr hk) hs1))
  · exact h

theorem Within.setOutput {l : ℕ} {r : LoopRec} {u0 : ℤ} (h : Within R s t) (hp : R.Allows [.ctl .loops])
    (hk : R.OpenAt [F.LOOP_HIST_FLAGS, F.LOOP_STATUS_CLAMP, F.LOOP_STATUS_CODE, F.LOOP_STATUS_MOVING] l) :
    Within R s (setOutput t l r u0) := by
  unfold Machine.setOutput
  extract_lets +onlyGivenNames u raw lo hi code top bottom s1 s2
  have hs1 : Within R s s1 := (h.setLoop hp)
  have hs2 : Within R s s2 := ((hs1.wr hk).wrB hk)
  exact ((Within.ite (hs2.setHistory (hk.mono (by decide))) hs2).movingShow (hk.mono (by decide)))

theorem Within.computePeriod {l : ℕ} {pv : ℤ} (h : Within R s t) (hp : R.Allows [.ctl .loops])
    (hk : R.OpenAt [F.LOOP_HIST_FLAGS, F.LOOP_STATUS_CLAMP, F.LOOP_STATUS_CODE, F.LOOP_STATUS_MOVING] l) :
    Within R s (computePeriod t l pv) := by
  unfold Machine.computePeriod
  extract_lets +onlyGivenNames r0 g
  split
  · exact ((h.setHistory (hk.mono (by decide))).setOutput hp hk)
  · exact ((h.setHistory (hk.mono (by decide))).setOutput hp hk)

theorem Within.safePeriod {l : ℕ} (h : Within R s t) (hp : R.Allows [.ctl .loops])
    (hk : R.OpenAt [F.LOOP_HIST_FLAGS, F.LOOP_STATUS_CLAMP, F.LOOP_STATUS_CODE, F.LOOP_STATUS_MOVING] l) :
    Within R s (safePeriod t l) := by
  unfold Machine.safePeriod
  exact (h.setOutput hp hk)

theorem Within.staleSets {l : ℕ} (h : Within R s t) (hp : R.Allows [.ctl .loops])
    (hk : R.OpenAt [F.LOOP_HIST_FLAGS, F.LOOP_STATUS_STALE, F.LOOP_STATUS_STATE] l)
    (hk8 : R.Opens [F.LOOP_GRP_STATUS_g_ESCALATED] 8) (hk32 : R.Opens [F.LOOP_STATUS_STATE] 32) :
    Within R s (staleSets t l) := by
  unfold Machine.staleSets
  exact (Within.ite h (((h.wr hk).setHistory (hk.mono (by decide))).loseFeedback hp hk8 hk32 (hk.mono (by decide))))

theorem Within.loopPeriod {l : ℕ} (h : Within R s t) (hp : R.Allows [.ctl .loops])
    (hk : R.OpenAt [F.LOOP_HIST_FLAGS, F.LOOP_STATUS_CLAMP, F.LOOP_STATUS_CODE, F.LOOP_STATUS_FROZEN, F.LOOP_STATUS_MOVING,
    F.LOOP_STATUS_STALE, F.LOOP_STATUS_STATE] l) (hk8 : R.Opens [F.LOOP_GRP_STATUS_g_ESCALATED] 8)
    (hk32 : R.Opens [F.LOOP_STATUS_STATE] 32) :
    Within R s (loopPeriod t l) := by
  unfold Machine.loopPeriod
  extract_lets +onlyGivenNames i r
  refine Within.ite ?_ ?_
  · extract_lets +onlyGivenNames s1 _ s2 clear st
    have hs1 : Within R s s1 := ((h.wr hk).freezeTest hp (hk.mono (by decide)) hk8 hk32)
    have hs2 : Within R s s2 := (hs1.setLoop hp)
    refine Within.ite ?_ ?_
    · extract_lets +onlyGivenNames s3
      have hs3 : Within R s s3 := ((hs2.setLoop hp).setLoopState (hk.mono (by decide)))
      exact (hs3.raiseEvent.computePeriod hp (hk.mono (by decide)))
    · exact (Within.ite ((hs2.setLoop hp).safePeriod hp (hk.mono (by decide)))
        (Within.ite (hs2.computePeriod hp (hk.mono (by decide))) (hs2.setLoop hp)))
  · extract_lets +onlyGivenNames s1 s2
    have hs1 : Within R s s1 := (h.setLoop hp)
    have hs2 : Within R s s2 := (Within.ite (hs1.staleSets hp (hk.mono (by decide)) hk8 hk32) hs1)
    exact (Within.ite (hs2.safePeriod hp (hk.mono (by decide))) hs2)

theorem Within.markSlew {l : ℕ} {dir : ℤ} (h : Within R s t) (hp : R.Allows [.ctl .loops]) (hk : R.OpenAt [F.LOOP_HIST_FLAGS] l) :
    Within R s (markSlew t l dir) := by
  unfold Machine.markSlew
  exact (Within.ite h ((h.setLoop hp).setHistory hk))

theorem Within.soloTick {l : ℕ} (h : Within R s t) (hp : R.Allows [.ctl .loops, .ctl .pendingCodes])
    (hk : R.OpenAt [F.LOOP_HIST_FLAGS, F.LOOP_STATUS_SLEW] l) :
    Within R s (soloTick t l) := by
  unfold Machine.soloTick
  refine Within.ite ?_ ?_
  · extract_lets +onlyGivenNames c lim q s1
    have hs1 : Within R s s1 := ((h.wrB hk).markSlew hp.mono (hk.mono (by decide)))
    exact (hs1.withCtlPendingCodes hp.mono)
  · exact h

theorem Within.groupTick {g : ℕ} (h : Within R s t) (hp : R.Allows [.ctl .loops, .ctl .pendingCodes])
    (hk32 : R.Opens [F.LOOP_HIST_FLAGS, F.LOOP_STATUS_LOST_ARB] 32) (hk : R.OpenAt
    [F.LOOP_GRP_STATUS_g_CODE, F.LOOP_GRP_STATUS_g_SLEW, F.LOOP_GRP_STATUS_g_WINNER] g) :
    Within R s (groupTick t g) := by
  unfold Machine.groupTick
  extract_lets +onlyGivenNames all
  refine Within.ite ?_ ((h.wr hk).foldl fun _ _ m h8 => h8.setLostArb (hk32.at (lt_of_mem_groupMembers m) (by decide)))
  extract_lets +onlyGivenNames ms esc safety win s1
  have hs1 : Within R s s1 := h.foldl fun _ _ m h4 => h4.setLostArb (hk32.at (lt_of_mem_groupMembers m) (by decide))
  have hwin : ∀ w, win = some w → w < 32 := fun w hw => groupWinner_lt hw
  clear_value win s1
  cases win with
  | none => exact hs1.wr hk
  | some w =>
    refine Within.withCtlPendingCodes (Within.markSlew ?_ hp.mono (hk32.at (hwin w rfl) (by decide))) hp.mono
    exact ((hs1.wrB hk).wr hk).wr hk

theorem Within.loopTick {mismatch : Bool} {parity : Bool} (h : Within R s t)
    (hp : R.Allows [.ctl .bdac, .ctl .loops, .ctl .tick, .ctl .pendingCodes])
    (hka : ∀ i, R.OpenAt [F.BDAC_CEIL_c_CEIL_HIT, F.BDAC_STATUS_c_APPLIED, F.BDAC_STATUS_c_HOLDING, F.BDAC_STATUS_c_STATE] i)
    (hk32 : R.Opens [F.LOOP_HIST_FLAGS, F.LOOP_STATUS_CLAMP, F.LOOP_STATUS_CODE, F.LOOP_STATUS_FROZEN, F.LOOP_STATUS_LOST_ARB,
    F.LOOP_STATUS_MOVING, F.LOOP_STATUS_SLEW, F.LOOP_STATUS_STALE, F.LOOP_STATUS_STATE] 32)
    (hk8 : R.Opens [F.LOOP_GRP_STATUS_g_CODE, F.LOOP_GRP_STATUS_g_ESCALATED, F.LOOP_GRP_STATUS_g_SLEW,
    F.LOOP_GRP_STATUS_g_WINNER] 8) (hk : R.OpenAt [F.LOOP_ENGINE_STATUS_FAULT] 0) :
    Within R s (loopTick mismatch parity t) := by
  unfold Machine.loopTick
  refine Within.ite ?_ (.ite (h.foldl fun _ _ _ h4 => h4.bdacBoundary hp.mono (hka _)) h)
  extract_lets +onlyGivenNames s1 _ s2
  have hs1 : Within R s s1 := .ite h (h.deliverCodes hp.mono fun i => (hka i).mono (by decide))
  have hs2 : Within R s s2 := by
    refine Within.ite (hs1.engineFault hp.mono (hk32.mono (by decide)) (hk8.mono (by decide)) hk) (.ite hs1 ?_)
    have hperiods := hs1.foldl (l := List.range 32) (f := fun t l => if loopDue t l then Machine.loopPeriod t l else t) fun _ _ m
        h4 =>
      .ite (h4.loopPeriod hp.mono (hk32.at (List.mem_range.1 m) (by decide)) (hk8.mono (by decide)) (hk32.mono (by decide))) h4
    have hgroups := hperiods.foldl (l := List.range 8) (f := Machine.groupTick) fun _ _ m h4 =>
      h4.groupTick hp.mono (hk32.mono (by decide)) (hk8.at (List.mem_range.1 m) (by decide))
    exact hgroups.foldl fun _ _ m h4 => h4.soloTick hp.mono (hk32.at (List.mem_range.1 m) (by decide))
  clear_value s2
  exact hs2.withCtlTick hp.mono

theorem Within.loopClearHistory {c : Cmd} (h : Within R s t) (hk32 : R.Opens [F.LOOP_HIST_FLAGS] 32) :
    Answers R s (loopClearHistory c t) := by
  unfold Machine.loopClearHistory
  exact (Answers.withChecks h fun _ => (h.foldl fun _ _ m3 h4 => (h4.wr (hk32 _ (lt_of_mem_whichBelow m3)))).done)

theorem Within.memberReturns {m : ℕ} (h : Within R s t) (hp : R.Allows [.ctl .loops]) (hk : R.OpenAt [F.LOOP_STATUS_STATE] m) :
    Within R s (memberReturns t m) := by
  unfold Machine.memberReturns
  exact (Within.ite (Within.ite (Within.ite (h.enterSafe hp hk) (h.setLoopState hk)) ((h.setLoop hp).setLoopState hk)) h)

theorem Within.endEscalation {g : ℕ} {l : ℕ} (h : Within R s t) (hp : R.Allows [.ctl .loops])
    (hk : R.OpenAt [F.LOOP_GRP_STATUS_g_ESCALATED] g) (hk32 : R.Opens [F.LOOP_STATUS_STATE] 32) :
    Within R s (endEscalation t g l) := by
  unfold Machine.endEscalation
  extract_lets +onlyGivenNames s1
  have hs1 : Within R s s1 := ((h.wr hk).foldl fun _ _ m3 h4 => (h4.memberReturns hp
      (hk32.at (lt_of_mem_groupMembers m3) (by decide))))
  exact hs1.raiseEvent

theorem Within.loopResume {c : Cmd} (h : Within R s t) (hp : R.Allows [.ctl .loops])
    (hk : R.OpenAt [F.LOOP_STATUS_MOVING, F.LOOP_STATUS_STATE] (c.w 2)) (hk8 : R.Opens [F.LOOP_GRP_STATUS_g_ESCALATED] 8)
    (hk32 : R.Opens [F.LOOP_STATUS_STATE] 32) :
    Answers R s (loopResume c t) := by
  unfold Machine.loopResume
  refine Answers.withChecks h fun _ => ?_
  extract_lets +onlyGivenNames l s1
  have hs1 : Within R s s1 := (Within.ite (((h.setLoop hp).setLoopState (hk.mono (by decide))).movingShow (hk.mono (by decide)))
      h)
  exact (Within.ite (hs1.endEscalation hp (hk8.at (loopGroup_lt ..) (by decide)) hk32) hs1).done

theorem Within.loopTarget {c : Cmd} (h : Within R s t) (hp : R.Allows [.ctl .loops])
    (hk : R.OpenAt [F.LOOP_STATUS_MOVING] (c.w 2)) :
    Answers R s (loopTarget c t) := by
  unfold Machine.loopTarget
  exact (Answers.withChecks h fun _ => ((h.setLoop hp).movingShow hk).done)

theorem Within.loopPreset {c : Cmd} (h : Within R s t) (hp : R.Allows [.ctl .loops]) :
    Answers R s (loopPreset c t) := by
  unfold Machine.loopPreset
  exact (Answers.withChecks h fun _ => (h.setLoop hp).done)

theorem Within.loopRead {c : Cmd} (h : Within R s t) :
    Answers R s (loopRead c t) := by
  unfold Machine.loopRead
  exact (Answers.withChecks h fun _ => h.done)

theorem Within.loopEngineRestart {pass : Bool} (h : Within R s t) (hp : R.Allows [.eff])
    (hk : R.OpenAt [F.LOOP_ENGINE_STATUS_FAULT] 0) (hk32 : R.Opens [F.LOOP_STATUS_STATE] 32) :
    Answers R s (loopEngineRestart pass t) := by
  unfold Machine.loopEngineRestart
  exact (Answers.withChecks h fun _ => (Answers.ite (((h.wr hk).foldl fun _ _ m3 h4 =>
      (Within.ite h4 ((h4.setLoopState (hk32.at (List.mem_range.1 m3) (by decide))).wrE hp))).done) h.done))

theorem Within.bdacFirstCode {c : ℕ} (h : Within R s t) (hp : R.Allows [.ctl .bdac])
    (hk : R.OpenAt [F.BDAC_CEIL_c_CEIL_HIT, F.BDAC_STATUS_c_APPLIED, F.BDAC_STATUS_c_HOLDING, F.BDAC_STATUS_c_STATE] c) :
    Within R s (bdacFirstCode c t) := by
  unfold Machine.bdacFirstCode
  refine Within.ite ?_ ?_
  · extract_lets +onlyGivenNames _ s1
    have hs1 : Within R s s1 := ((h.wr hk).setBdac hp)
    exact (Within.ite hs1 (hs1.bdacTake hp (hk.mono (by decide))))
  · exact h

theorem Within.ditherUpdate (h : Within R s t) (hp : R.Allows [.ctl .bdac, .ctl .gens])
    (hk32 : R.Opens [F.BDAC_CEIL_c_CEIL_HIT, F.BDAC_STATUS_c_APPLIED, F.BDAC_STATUS_c_HOLDING] 32) :
    Within R s (ditherUpdate t) := by
  unfold Machine.ditherUpdate
  refine Within.ite ?_ ?_
  · extract_lets +onlyGivenNames _ s1
    have hs1 : Within R s s1 := (h.withCtlGens hp.mono)
    exact (hs1.foldl fun _ _ m3 h4 => (Within.ite h4 ((h4.setBdac hp.mono).bdacRefresh hp.mono
        (hk32.at (List.mem_range.1 m3) (by decide)))))
  · exact h

theorem Within.bdacHoldEnd {c : ℕ} (h : Within R s t) (hp : R.Allows [.ctl .bdac])
    (hk : R.OpenAt [F.BDAC_STATUS_c_APPLIED, F.BDAC_STATUS_c_HOLDING] c) :
    Within R s (bdacHoldEnd c t) := by
  unfold Machine.bdacHoldEnd
  refine Within.ite ?_ ?_
  · extract_lets +onlyGivenNames ch s1 s2
    have hs1 : Within R s s1 := (h.wr hk)
    have hs2 : Within R s s2 := (hs1.setBdac hp)
    split
    · exact (hs2.bdacArrive hp hk)
    · exact hs2
  · exact h

theorem Within.changeRange {c : ℕ} {toX2 : Bool} (h : Within R s t) (hp : R.Allows [.eff, .ctl .bdac, .ctl .pendingCodes])
    (hk : R.OpenAt [F.BDAC_CEIL_c_CEIL_HIT, F.BDAC_CODE_c_CODE, F.BDAC_STATUS_c_APPLIED, F.BDAC_STATUS_c_HOLDING,
    F.BDAC_STATUS_c_RANGE] c) (hk32 : R.Opens [F.LOOP_STATUS_CODE] 32) (hk8 : R.Opens [F.LOOP_GRP_STATUS_g_CODE] 8) :
    Within R s (changeRange t c toX2) := by
  unfold Machine.changeRange
  extract_lets +onlyGivenNames f ch s0 s1 _ s2 s3
  have hs0 : Within R s s0 := h.foldl fun u e he hu => hu.wrKey fun _ => ?_
  · have hs1 : Within R s s1 := (hs0.wr hk).wrE hp.mono
    clear_value s1
    have hs2 : Within R s s2 := hs1.withCtlBdacPendingCodes hp.mono
    have hs3 : Within R s s3 := (hs2.wrB hk).wr hk
    exact .ite ((hs3.wr hk).setCeilHit (hk.mono (by decide))) hs3
  · obtain ⟨hf, hi⟩ | ⟨hf, hi⟩ := mem_engineCodes he
    · exact hf ▸ hk32 _ hi _ (List.mem_singleton_self _) 0 (.inl rfl)
    · exact hf ▸ hk8 _ hi _ (List.mem_singleton_self _) 0 (.inl rfl)

theorem Within.bdacRange {c : Cmd} (h : Within R s t) (hp : R.Allows [.eff, .ctl .bdac, .ctl .pendingCodes, .cal .repeatBdac])
    (hk : R.OpenAt [F.BDAC_CEIL_c_CEIL_HIT, F.BDAC_CODE_c_CODE, F.BDAC_STATUS_c_APPLIED, F.BDAC_STATUS_c_HOLDING,
    F.BDAC_STATUS_c_RANGE] (c.w 2)) (hk32 : R.Opens [F.LOOP_STATUS_CODE] 32) (hk8 : R.Opens [F.LOOP_GRP_STATUS_g_CODE] 8) :
    Answers R s (bdacRange c t) := by
  unfold Machine.bdacRange
  refine Answers.withChecks h fun _ => ?_
  extract_lets +onlyGivenNames ch
  refine Answers.ite ?_ ?_
  · exact h.done
  · extract_lets +onlyGivenNames s1 _ s2
    have hs1 : Within R s s1 := (h.changeRange hp.mono hk hk32 hk8)
    have hs2 : Within R s s2 := (hs1.withCalRepeatBdac hp.mono)
    exact hs2.raiseEvent.done

theorem Within.detectLockin {n : ℕ} {x : ℤ} {off : ℕ} (h : Within R s t) (hp : R.Allows [.ctl .sense])
    (hk : R.OpenAt ([F.SNS_LI_STATUS_n_SEQ] ++ lockinFields) n) :
    Within R s (detectLockin t n x off) := by
  unfold Machine.detectLockin
  extract_lets +onlyGivenNames ch g
  refine Within.ite ?_ ?_
  · extract_lets +onlyGivenNames d p passed
    refine Within.ite ?_ ?_
    · refine Within.ite ?_ ?_
      · extract_lets +onlyGivenNames i q s1
        have hs1 : Within R s s1 := ((((h.wrI hk).wrI hk).inc hk).wr hk)
        exact (hs1.setSense hp)
      · exact (h.setSense hp)
    · exact (Within.ite (h.setSense hp) (h.setSense hp))
  · exact (h.setSense hp)

theorem Within.detectEnv {n : ℕ} {x : ℤ} (h : Within R s t) (hp : R.Allows [.ctl .sense])
    (hk : R.OpenAt [F.SNS_ENV_n_ENV, F.SNS_ENV_n_NOT_SETTLED, F.SNS_ENV_n_SEQ] n) :
    Within R s (detectEnv t n x) := by
  unfold Machine.detectEnv
  extract_lets +onlyGivenNames ch m e s1
  have hs1 : Within R s s1 := (((h.inc hk).wr hk).wrI hk)
  exact (hs1.setSense hp)

theorem Within.detectRms {n : ℕ} {x : ℤ} (h : Within R s t) (hp : R.Allows [.ctl .sense])
    (hk : R.OpenAt [F.SNS_RMS_n_NOT_SETTLED, F.SNS_RMS_n_RMS, F.SNS_RMS_n_SEQ] n) :
    Within R s (detectRms t n x) := by
  unfold Machine.detectRms
  extract_lets +onlyGivenNames ch sum block
  refine Within.ite ?_ ?_
  · extract_lets +onlyGivenNames s1
    have hs1 : Within R s s1 := (((h.inc hk).wr hk).wr hk)
    exact (hs1.setSense hp)
  · exact (h.setSense hp)

theorem Within.detectPeak {n : ℕ} {x : ℤ} (h : Within R s t) (hp : R.Allows [.ctl .sense])
    (hk : R.OpenAt [F.SNS_PEAK_n_MAX, F.SNS_PEAK_n_MIN] n) :
    Within R s (detectPeak t n x) := by
  unfold Machine.detectPeak
  exact (((h.wrI hk).wrI hk).setSense hp)

theorem Within.senseSample {n : ℕ} {raw : ℤ} {off : ℕ} (h : Within R s t) (hp : R.Allows [.ctl .sense])
    (hk : R.OpenAt ([F.SNS_ENV_n_ENV, F.SNS_ENV_n_NOT_SETTLED, F.SNS_ENV_n_SEQ, F.SNS_LI_STATUS_n_SEQ, F.SNS_OUT_n_OVER,
    F.SNS_OUT_n_SEQ, F.SNS_PEAK_n_MAX, F.SNS_PEAK_n_MIN, F.SNS_RAW_n_SEQ, F.SNS_RMS_n_NOT_SETTLED, F.SNS_RMS_n_RMS,
    F.SNS_RMS_n_SEQ] ++ lockinFields ++ senseFields) n) :
    Within R s (senseSample t n raw off) := by
  unfold Machine.senseSample
  extract_lets +onlyGivenNames ch s1
  have hs1 : Within R s s1 := ((h.inc hk).inc hk)
  refine Within.ite ?_ ?_
  · exact ((((hs1.wr hk).wr hk).wr hk).setSense hp)
  · extract_lets +onlyGivenNames v s2 s3
    have hs2 : Within R s s2 := (((hs1.wr hk).wrI hk).wrI hk)
    have hs3 : Within R s s3 := (Within.ite ((hs2.wr hk).raiseEvent) hs2)
    exact ((((hs3.detectPeak hp (hk.mono (by decide))).detectRms hp (hk.mono (by decide))).detectEnv hp
        (hk.mono (by decide))).detectLockin hp (hk.mono (by decide)))

theorem Within.coefReadWord {w : ℕ} (h : Within R s t) (hp : R.Allows [.ctl .coefs]) :
    Within R s (coefReadWord t w) := by
  unfold Machine.coefReadWord
  extract_lets +onlyGivenNames r
  have hr : Within R s r.1 := h.eccRead
  exact (Within.ite ((hr.foldl fun _ _ _ h4 => (h4.withCtlCoefs hp)).bankInvalid) hr)

theorem Within.coefRead {k : ℕ} (h : Within R s t) (hp : R.Allows [.ctl .coefs]) :
    Within R s (coefRead t k) := by
  unfold Machine.coefRead
  exact (h.foldl fun _ _ _ h4 => (h4.coefReadWord hp))

theorem Within.firStage {n : ℕ} {x : ℤ} {off : ℕ} (h : Within R s t) (hp : R.Allows [.ctl .sense, .ctl .coefs])
    (hk : R.OpenAt ([F.SNS_ENV_n_ENV, F.SNS_ENV_n_NOT_SETTLED, F.SNS_ENV_n_SEQ, F.SNS_LI_STATUS_n_SEQ, F.SNS_OUT_n_OVER,
    F.SNS_OUT_n_SEQ, F.SNS_PEAK_n_MAX, F.SNS_PEAK_n_MIN, F.SNS_RAW_n_SEQ, F.SNS_RMS_n_NOT_SETTLED, F.SNS_RMS_n_RMS,
    F.SNS_RMS_n_SEQ] ++ lockinFields ++ senseFields) n) :
    Within R s (firStage t n x off) := by
  unfold Machine.firStage
  extract_lets +onlyGivenNames d
  refine Within.ite ?_ ?_
  · exact (h.senseSample hp.mono hk)
  · extract_lets +onlyGivenNames ch line
    refine Within.ite ?_ ?_
    · extract_lets +onlyGivenNames k s1
      have hs1 : Within R s s1 := ((h.setSense hp.mono).coefRead hp.mono)
      exact (hs1.senseSample hp.mono hk)
    · exact (h.setSense hp.mono)

theorem Within.hb2Stage {n : ℕ} {x : ℤ} {off : ℕ} (h : Within R s t) (hp : R.Allows [.ctl .sense, .ctl .coefs])
    (hk : R.OpenAt ([F.SNS_ENV_n_ENV, F.SNS_ENV_n_NOT_SETTLED, F.SNS_ENV_n_SEQ, F.SNS_LI_STATUS_n_SEQ, F.SNS_OUT_n_OVER,
    F.SNS_OUT_n_SEQ, F.SNS_PEAK_n_MAX, F.SNS_PEAK_n_MIN, F.SNS_RAW_n_SEQ, F.SNS_RMS_n_NOT_SETTLED, F.SNS_RMS_n_RMS,
    F.SNS_RMS_n_SEQ] ++ lockinFields ++ senseFields) n) :
    Within R s (hb2Stage t n x off) := by
  unfold Machine.hb2Stage
  exact (Within.ite (h.firStage hp hk) (Within.ite (h.setSense hp.mono) ((h.setSense hp.mono).firStage hp hk)))

theorem Within.hb1Stage {n : ℕ} {x : ℤ} {off : ℕ} (h : Within R s t) (hp : R.Allows [.ctl .sense, .ctl .coefs])
    (hk : R.OpenAt ([F.SNS_ENV_n_ENV, F.SNS_ENV_n_NOT_SETTLED, F.SNS_ENV_n_SEQ, F.SNS_LI_STATUS_n_SEQ, F.SNS_OUT_n_OVER,
    F.SNS_OUT_n_SEQ, F.SNS_PEAK_n_MAX, F.SNS_PEAK_n_MIN, F.SNS_RAW_n_SEQ, F.SNS_RMS_n_NOT_SETTLED, F.SNS_RMS_n_RMS,
    F.SNS_RMS_n_SEQ] ++ lockinFields ++ senseFields) n) :
    Within R s (hb1Stage t n x off) := by
  unfold Machine.hb1Stage
  exact (Within.ite (h.hb2Stage hp hk) (Within.ite (h.setSense hp.mono) ((h.setSense hp.mono).hb2Stage hp hk)))

theorem Within.cicStage {n : ℕ} {c : ℤ} {off : ℕ} (h : Within R s t) (hp : R.Allows
    [.ctl .sense, .ctl .coefs, .cal .repeatSense]) (hk : R.OpenAt ([F.SNS_ENV_n_ENV, F.SNS_ENV_n_NOT_SETTLED, F.SNS_ENV_n_SEQ,
    F.SNS_LI_STATUS_n_SEQ, F.SNS_OUT_n_OVER, F.SNS_OUT_n_SEQ, F.SNS_PEAK_n_MAX, F.SNS_PEAK_n_MIN, F.SNS_RAW_n_SEQ,
    F.SNS_RMS_n_NOT_SETTLED, F.SNS_RMS_n_RMS, F.SNS_RMS_n_SEQ] ++ lockinFields ++ senseFields) n) :
    Within R s (cicStage t n c off) := by
  unfold Machine.cicStage
  extract_lets +onlyGivenNames x
  refine Within.ite ?_ ?_
  · extract_lets +onlyGivenNames s1
    have hs1 : Within R s s1 := (Within.ite h ((h.wr hk).raiseEvent))
    exact (hs1.senseSync hp.mono (hk.mono (by decide)))
  · exact (h.hb1Stage hp.mono hk)

theorem Within.senseBit {n : ℕ} {b : Bool} {off : ℕ} (h : Within R s t) (hp : R.Allows
    [.ctl .sense, .ctl .coefs, .cal .repeatSense]) (hk : R.OpenAt ([F.SNS_ENV_n_ENV, F.SNS_ENV_n_NOT_SETTLED, F.SNS_ENV_n_SEQ,
    F.SNS_LI_STATUS_n_SEQ, F.SNS_OUT_n_OVER, F.SNS_OUT_n_SEQ, F.SNS_PEAK_n_MAX, F.SNS_PEAK_n_MIN, F.SNS_RAW_n_SEQ,
    F.SNS_RMS_n_NOT_SETTLED, F.SNS_RMS_n_RMS, F.SNS_RMS_n_SEQ] ++ lockinFields ++ senseFields) n) :
    Within R s (senseBit t n b off) := by
  unfold Machine.senseBit
  exact (Within.ite ((h.setSense hp.mono).cicStage hp hk) (h.setSense hp.mono))

theorem Within.senseBits {n : Nat} {bs : List Bool} {off : Nat} (h : Within R s t)
    (hp : R.Allows [.ctl .sense, .ctl .coefs, .cal .repeatSense])
    (hk : R.OpenAt ([F.SNS_ENV_n_ENV, F.SNS_ENV_n_NOT_SETTLED, F.SNS_ENV_n_SEQ, F.SNS_LI_STATUS_n_SEQ, F.SNS_OUT_n_OVER,
        F.SNS_OUT_n_SEQ, F.SNS_PEAK_n_MAX, F.SNS_PEAK_n_MIN, F.SNS_RAW_n_SEQ, F.SNS_RMS_n_NOT_SETTLED, F.SNS_RMS_n_RMS,
        F.SNS_RMS_n_SEQ] ++ lockinFields ++ senseFields) n) :
    Within R s (senseBits n bs off t) := by
  induction bs generalizing off t with
  | nil => exact h
  | cons b bs ih => exact ih (h.senseBit hp.mono hk)

theorem Within.snsSample {n : ℕ} {bits : List Bool} {off : ℕ} (h : Within R s t)
    (hp : R.Allows [.ctl .sense, .ctl .coefs, .cal .repeatSense]) (hk : R.OpenAt
    ([F.SNS_ENV_n_ENV, F.SNS_ENV_n_NOT_SETTLED, F.SNS_ENV_n_SEQ, F.SNS_LI_STATUS_n_SEQ, F.SNS_OUT_n_OVER, F.SNS_OUT_n_SEQ,
    F.SNS_PEAK_n_MAX, F.SNS_PEAK_n_MIN, F.SNS_RAW_n_SEQ, F.SNS_RMS_n_NOT_SETTLED, F.SNS_RMS_n_RMS, F.SNS_RMS_n_SEQ] ++
    lockinFields ++ senseFields) n) :
    Within R s (snsSample n bits off t) := by
  unfold Machine.snsSample
  exact (Within.ite (h.senseBits hp hk) h)

theorem Within.snsCoefWrite {c : Cmd} (h : Within R s t) (hp : R.Allows [.ctl .coefs]) (hb : R.bulk) :
    Answers R s (snsCoefWrite c t) := by
  unfold Machine.snsCoefWrite
  refine .withChecks h fun _ => ?_
  have hfetched := h.fetchWords (a := windowBase + c.w 3) (n := 64) hb
  generalize Machine.fetchWords t (windowBase + c.w 3) 64 = r at hfetched ⊢
  have hput : ∀ x, Within R s { r.1 with ctl := { r.1.ctl with coefs := x } } := fun x => hfetched.withCtlCoefs hp.mono
  exact (hput _).bankWrittenAll.done

theorem Within.snsCoefRead {c : Cmd} (h : Within R s t) (hp : R.Allows [.ctl .coefs]) (hb : R.bulk) :
    Answers R s (snsCoefRead c t) := by
  unfold Machine.snsCoefRead
  refine Answers.withChecks h fun _ => ?_
  extract_lets +onlyGivenNames t'
  have ht' : Within R s t' := (h.coefRead hp)
  exact (ht'.bulkWords hb).done

theorem Within.snapTake (h : Within R s t) (hp : R.Allows [.obs .banks, .obs .lastBank, .obs .seq, .obs .full, .obs .image,
    .obs .imageCopying, .mgmt .inProgress]) :
    Answers R s (snapTake t) := by
  have htaken := h.takeSnapshot (src := .plain) hp.mono
  unfold Machine.snapTake
  split
  · next heq => exact (htaken.fst heq).later hp.mono
  · next heq => exact (htaken.fst heq).done

theorem Within.setSnapBank {b : ℕ} {x : SnapBank} (h : Within R s t) (hp : R.Allows [.obs .banks]) :
    Within R s (setSnapBank t b x) := by
  unfold Machine.setSnapBank
  exact (h.withObsBanks hp)

theorem Within.snapCopyDone {b : ℕ} (h : Within R s t) (hp : R.Allows [.obs .banks, .mgmt .inProgress]) :
    Within R s (snapCopyDone b t) := by
  unfold Machine.snapCopyDone
  refine Within.ite ?_ ?_
  · extract_lets +onlyGivenNames k s1 seq s2 s3
    have hs1 : Within R s s1 := (h.setSnapBank hp.mono)
    have hs2 : Within R s s2 := hs1.raiseEvent
    have hs3 : Within R s s3 := (hs2.foldl fun _ _ _ h4 => h4.raiseEvent)
    exact (hs3.completeProg hp.mono)
  · exact h

theorem Within.snapRead {c : Cmd} (h : Within R s t) (hb : R.bulk) :
    Answers R s (snapRead c t) := by
  unfold Machine.snapRead
  refine Answers.withChecks h fun _ => ?_
  extract_lets +onlyGivenNames b is t' ws
  have ht' : Within R s t' := h.bankRead
  exact (ht'.bulkWords hb).done

theorem Within.flowUntracked {p : ℕ} {d : Dir} {cause : ℕ} (h : Within R s t) :
    Within R s (flowUntracked t p d cause) := by
  unfold Machine.flowUntracked
  exact h.bump.bump

theorem Within.readBucket {b : ℕ} (h : Within R s t) (hp : R.Allows [.obs .buckets, .obs .contexts, .obs .flowFull,
    .obs .shifts]) :
    Within R s (readBucket t b) := by
  unfold Machine.readBucket
  split
  · exact h
  · refine Within.ite ?_ ?_
    · extract_lets +onlyGivenNames r
      have hr : Within R s r.1 := (h.eccReadAll (hk := bucketBank_ne_window _))
      refine Within.ite ?_ ?_
      · exact (hr.flowLost hp)
      · extract_lets +onlyGivenNames q
        have hq : Within R s q.1 := (hr.eccReadAll (hk := ctxBank_ne_window _))
        exact (Within.ite (hq.flowLost hp) hq)
    · exact h

theorem Within.flowUpdate {b : ℕ} {w : FlowWork} (h : Within R s t) (hp : R.Allows [.obs .buckets, .obs .contexts, .obs .shifts])
    :
    Within R s (flowUpdate t b w) := by
  unfold Machine.flowUpdate
  split
  · exact h
  · extract_lets +onlyGivenNames gm c s1
    have hs1 : Within R s s1 := ((h.setBucket hp.mono).setCtx hp.mono)
    exact (((hs1.withObsShifts hp.mono).bankWrittenAll).bankWrittenAll)

theorem Within.flowApply {w : FlowWork} (h : Within R s t) (hp : R.Allows
    [.obs .buckets, .obs .contexts, .obs .flowFull, .obs .shifts]) :
    Within R s (flowApply t w) := by
  unfold Machine.flowApply
  extract_lets +onlyGivenNames g s'
  have hs' : Within R s s' := (h.foldl fun _ _ _ h4 => (h4.readBucket hp))
  split
  · exact (hs'.flowUpdate hp.mono)
  · split
    · exact hs'.flowUntracked
    · extract_lets +onlyGivenNames c
      refine Within.ite ?_ ?_
      · exact hs'.flowUntracked
      · extract_lets +onlyGivenNames s1
        have hs1 : Within R s s1 := ((hs'.setBucket hp.mono).setCtx hp.mono)
        exact ((hs1.bump.flowUpdate hp.mono).flowFullCheck hp.mono)

theorem Within.flowFrame {f : Frame} {marked : Bool} {stamp : Word} {busy : Bool} (h : Within R s t)
    (hp : R.Allows [.obs .buckets, .obs .contexts, .obs .replay, .obs .flowFull, .obs .shifts]) :
    Within R s (flowFrame f marked stamp busy t) := by
  unfold Machine.flowFrame
  extract_lets +onlyGivenNames s1 w q
  have hs1 : Within R s s1 := h.bump
  exact (Within.ite hs1.flowUntracked (Within.ite (Within.ite (hs1.withObsReplay hp.mono) hs1.flowUntracked)
      (hs1.flowApply hp.mono)))

theorem Within.setTapped {p : Fin 8} {d : Dir} {xs : List TappedFrame} (h : Within R s t) (hp : R.Allows [.path .tx, .path .rx]) :
    Within R s (setTapped t p d xs) := by
  unfold Machine.setTapped
  split
  · exact (h.withPathTx hp.mono)
  · exact (h.withPathRx hp.mono)

theorem Within.flowNext {p : Fin 8} {d : Dir} {busy : Bool} (h : Within R s t)
    (hp : R.Allows [.obs .buckets, .obs .contexts, .obs .replay, .obs .flowFull, .obs .shifts, .path .tx, .path .rx, .free]) :
    Within R s (flowNext p d busy t) := by
  unfold Machine.flowNext
  split
  · exact h
  · exact (((h.setTapped hp.mono).takeFree hp.mono).flowFrame hp.mono)

theorem Within.flowReplayLookup {d : Dir} (h : Within R s t) (hp : R.Allows
    [.obs .buckets, .obs .contexts, .obs .replay, .obs .flowFull, .obs .shifts]) :
    Within R s (flowReplayLookup d t) := by
  unfold Machine.flowReplayLookup
  split
  · exact h
  · exact ((h.withObsReplay hp.mono).flowApply hp.mono)

theorem Within.flowAgerVisit {b : ℕ} (h : Within R s t) (hp : R.Allows [.obs .buckets, .obs .contexts, .obs .flowFull,
    .obs .shifts]) :
    Within R s (flowAgerVisit b t) := by
  unfold Machine.flowAgerVisit
  extract_lets +onlyGivenNames s'
  have hs' : Within R s s' := (h.readBucket hp)
  split
  · exact hs'
  · refine Within.ite ?_ ?_
    · extract_lets +onlyGivenNames x _ s1 age limit
      have hs1 : Within R s s1 := (Within.ite (((hs'.withObsShifts hp.mono).setBucket hp.mono).bankWrittenAll) hs')
      exact (Within.ite (((hs1.freeBucket hp.mono).bump).flowFullCheck hp.mono) hs1)
    · exact hs'

theorem Within.flowDump {c : Cmd} (h : Within R s t) (hp : R.Allows [.obs .imageLocked]) (hb : R.bulk) :
    Answers R s (flowDump c t) := by
  unfold Machine.flowDump
  refine Answers.withChecks h fun _ => ?_
  split
  · exact h.done
  · extract_lets +onlyGivenNames recs last s1
    have hs1 : Within R s s1 := (h.bulkWords hb)
    exact (hs1.withObsImageLocked hp).done

theorem Within.flowRelease (h : Within R s t) (hp : R.Allows [.obs .imageLocked]) :
    Answers R s (flowRelease t) := by
  unfold Machine.flowRelease
  exact (Answers.withChecks h fun _ => (h.withObsImageLocked hp).done)

theorem Within.flowFlushCmd {c : Cmd} (h : Within R s t) (hp : R.Allows [.obs .buckets, .obs .contexts, .obs .flowFull,
    .obs .shifts]) :
    Answers R s (flowFlushCmd c t) := by
  unfold Machine.flowFlushCmd
  exact (Answers.withChecks h fun _ => (h.flowFlushPort hp).done)

theorem Within.berWindowClose {n : ℕ} (h : Within R s t) (hp : R.Allows [.obs .ber, .free])
    (hk : R.OpenAt [F.CNT_BER_LOG, F.CNT_BER_NA, F.CNT_BER_SEQ, F.CNT_BER_UNDECODED] n) :
    Within R s (berWindowClose n t) := by
  unfold Machine.berWindowClose
  extract_lets +onlyGivenNames w bits errs
  refine Within.ite ?_ ?_
  · extract_lets +onlyGivenNames exact up v s1 s2 s3 s4 s5 next
    have hs1 : Within R s s1 := (h.takeFree hp.mono)
    have hs2 : Within R s s2 := (hs1.inc hk)
    have hs3 : Within R s s3 := (hs2.wrB hk)
    have hs4 : Within R s s4 := (hs3.wrB hk)
    have hs5 : Within R s s5 := (hs4.wr hk)
    exact (hs5.withObsBer hp.mono)
  · exact h

theorem Within.sampleSlotRaise {k : ℕ} (h : Within R s t) :
    Within R s (sampleSlotRaise k t) := by
  unfold Machine.sampleSlotRaise
  extract_lets +onlyGivenNames q
  refine Within.ite ?_ ?_
  · extract_lets +onlyGivenNames _ s1 s2
    have hs1 : Within R s s1 := h.withObsSlots
    have hs2 : Within R s s2 := hs1.raiseEvent
    exact hs2.bump
  · exact h

theorem Within.cutBoot {pending : Option (Fin 2)} (h : Within R s t) (hp : R.Allows [.sec .boot]) :
    Within R s (cutBoot t pending) := by
  unfold Machine.cutBoot
  exact (h.withSecBoot hp)

theorem Within.cutBlock {k : Fin 2} {b : SettingsBlock} (h : Within R s t) (hp : R.Allows [.sec .settings]) :
    Within R s (cutBlock t k b) := by
  unfold Machine.cutBlock
  exact (h.withSecSettings hp)

theorem Within.flashCut (h : Within R s t) (hp : R.Allows [.sec .boot, .sec .settings]) :
    Within R s (flashCut t) := by
  unfold Machine.flashCut
  split
  · exact (h.cutBoot hp.mono)
  · exact (h.cutBlock hp.mono)
  · exact h

theorem Within.porReset {rail : Option ℕ} (h : Within R s t) (hR : R.Full) :
    Within R s (porReset t rail) := by
  unfold Machine.porReset
  extract_lets +onlyGivenNames s' _ _ _ _ _ _ s1
  have hs' : Within R s s' := h.flashCut hR.allows
  clear_value s'
  have hs1 : Within R s s1 := hs'.anything hR rfl (fun _ => rfl) (.rfl' _)
  exact hs1.wrWide hR.wide

theorem Within.rstCause {kind : ℕ} {rail : ℕ} (h : Within R s t) (hk : R.OpenAt [F.RST_CAUSE_KIND, F.RST_CAUSE_RAIL] 0) :
    Within R s (rstCause t kind rail) := by
  unfold Machine.rstCause
  exact ((h.wr hk).wr hk)

theorem Within.testsAtReset (h : Within R s t) (hp : R.Allows [.test .rehearsal, .test .memTest, .test .dress, .test .results,
    .free]) :
    Within R s (testsAtReset t) := by
  unfold Machine.testsAtReset
  extract_lets +onlyGivenNames d0 n rs src
  have hsrc : Within R s src := (h.takeFree hp.mono)
  exact (hsrc.withTestRehearsalMemTestDressResults hp.mono)

theorem Within.swapsLand (h : Within R s t) (hp : R.Allows [.lanes .lineFront, .lanes .hostFront, .lanes .spot,
    .mgmt .inProgress]) (hk8 : R.Opens ([F.LRX_SLICE_STATUS_NOSPARE, F.LRX_SLICE_STATUS_SWAP_COUNT,
    F.LRX_SLICE_STATUS_UNDERSTUDY] ++ sliceFailedFields) 8) (hk16 : R.Opens
    [F.HSL_SLICE_FAILED_FAILED, F.HSL_SLICE_STATUS_FAILED_32, F.HSL_SLICE_STATUS_NOSPARE, F.HSL_SLICE_STATUS_SWAP_COUNT,
    F.HSL_SLICE_STATUS_UNDERSTUDY] 16) :
    Within R s (swapsLand t) := by
  unfold Machine.swapsLand
  exact (h.foldl fun _ _ _ h4 => (h4.landSwap hp hk8 hk16))

theorem Within.retReset {keep : List Field} (h : Within R s t) (hR : R.Full) :
    Within R s (retReset t keep) := by
  unfold Machine.retReset
  extract_lets +onlyGivenNames s'
  have hs' : Within R s s' := ((h.swapsLand hR.allows hR.wide.opens hR.wide.opens).flashCut hR.allows).testsAtReset hR.allows
  clear_value s'
  refine hs'.anything hR ?_ ?_ ?_
  · rfl
  · exact fun _ => rfl
  · exact .rfl' _

theorem Within.darkWake {cause : ℕ} (h : Within R s t) (hR : R.Full) :
    Within R s (darkWake t cause) := by
  unfold Machine.darkWake
  have hp : R.Allows [.power .mode, .power .timerDue, .power .pwrEn] := hR.allows
  have hw := hR.wide
  split
  · exact (Within.ite (h.porReset hR) ((h.retReset hR).rstCause hw.openAt))
  · extract_lets +onlyGivenNames s1
    have hs1 : Within R s s1 := (h.wrWide hw)
    exact (hs1.withPowerModeTimerDuePwrEn hp)

theorem Within.stageDoorWrite {addr : ℕ} {count : ℕ} (h : Within R s t) (hR : R.Full) :
    Within R s (stageDoorWrite addr count t) := by
  unfold Machine.stageDoorWrite
  have hp : R.Allows [.mgmt .i2cOut, .mgmt .i2cAcks] := hR.allows
  exact (Within.ite h (Within.ite ((h.darkWake hR).i2cDrive hp) (Within.ite (h.i2cDrive hp) (h.i2cDrive hp))))

theorem Within.i2cEnd {b : Burst} {out : List Byte} (h : Within R s b.s)
    (hp : R.Allows [.mgmt .i2cNext, .mgmt .i2cOut, .mgmt .i2cAcks, .mgmt .busErrRate]) :
    Within R s (i2cEnd b out) :=
  ((h.busReport hp.mono).withMgmtI2cNext hp.mono).i2cDrive hp.mono

theorem Within.i2cWriteData {pec : Bool} {n a : Nat} {bytes seen : List Byte} {b : Burst} (h : Within R s b.s) (hR : R.Full) :
    Within R s (i2cWriteData pec n bytes seen a b).s := by
  have herr := fun iface cause a => h.busError (iface := iface) (cause := cause) (a := a) hR.allows hR.wide.openAt
  have happly := fun a d => h.writeApply (a := a) (d := d) hR.allows hR.wide hR.bulk
  induction n generalizing bytes seen a b with
  | zero => exact h
  | succ n ih =>
    unfold Machine.i2cWriteData
    extract_lets +onlyGivenNames nacks
    split
    · exact h
    · split
      · dsimp only
        exact herr ..
      · split
        · exact h
        · simp only
          split
          · dsimp only
            exact herr ..
          · split
            · split
              · exact h
              · split
                · refine ih (happly ..) (fun _ _ _ => ?_) (fun _ _ => ?_)
                  · exact (happly ..).busError hR.allows hR.wide.openAt
                  · exact (happly ..).writeApply hR.allows hR.wide hR.bulk
                · dsimp only
                  exact herr ..
            · refine ih (happly ..) (fun _ _ _ => ?_) (fun _ _ => ?_)
              · exact (happly ..).busError hR.allows hR.wide.openAt
              · exact (happly ..).writeApply hR.allows hR.wide hR.bulk

theorem Within.i2cWrite {addr : ℕ} {data : List Byte} (h : Within R s t) (hR : R.Full) :
    Within R s (i2cWrite addr data t) := by
  unfold Machine.i2cWrite
  refine .ite (h.stageDoorWrite hR) (.ite (h.i2cDrive hR.allows) (.ite (h.i2cDrive hR.allows) ?_))
  refine .ite (Within.i2cEnd (b := ⟨_, _, _, _⟩) ?_ hR.allows) (Within.i2cEnd ?_ hR.allows)
  · dsimp only
    exact h.busError hR.allows hR.wide.openAt
  · exact Within.i2cWriteData (b := ⟨t, _, _, _⟩) h hR

theorem Within.stageDoorRead {addr : ℕ} {count : ℕ} (h : Within R s t) (hp : R.Allows [.mgmt .i2cOut, .mgmt .i2cAcks]) :
    Within R s (stageDoorRead addr count t) := by
  unfold Machine.stageDoorRead
  exact (Within.ite h (Within.ite (h.i2cDrive hp) (h.i2cDrive hp)))

theorem Within.readRun {iface : Iface} {crc : Bool} {n a : Nat} {seen : List Byte} {e : BusErrs} (h : Within R s t)
    (hp : R.Allows [.obs .hiLatch, .mgmt .lockedRate, .free]) (hk : R.OpenAt
        [F.REGIF_ERR_INFO_ADDR, F.REGIF_ERR_INFO_CAUSE, F.REGIF_ERR_INFO_INTERFACE, F.REGIF_ERR_INFO_VALID] 0) (hb : R.bulk) :
    Within R s (readRun iface crc n a seen t e).1 := by
  induction n generalizing a seen t e with
  | zero => exact h
  | succ n ih => exact ih (h.ifaceRead hp.mono hk hb)

theorem Within.i2cRead {addr : ℕ} {set : Option (List Byte)} {count : ℕ} (h : Within R s t)
    (hp : R.Allows [.obs .hiLatch, .mgmt .i2cNext, .mgmt .i2cOut, .mgmt .i2cAcks, .mgmt .busErrRate, .mgmt .lockedRate, .free])
    (hk : R.OpenAt [F.REGIF_ERR_INFO_ADDR, F.REGIF_ERR_INFO_CAUSE, F.REGIF_ERR_INFO_INTERFACE, F.REGIF_ERR_INFO_VALID] 0)
    (hb : R.bulk) :
    Within R s (i2cRead addr set count t) := by
  have hgo : ∀ pec n a seen acks next, Within R s (Machine.i2cEnd ⟨(Machine.readRun .i2cA pec n a seen t .none).1, acks ++ [true],
      (Machine.readRun .i2cA pec n a seen t .none).2.2, next⟩ ((Machine.readRun .i2cA pec n a seen t .none).2.1.take count)) :=
    fun _ _ _ _ _ _ => Within.i2cEnd (b := ⟨_, _, _, _⟩) (h.readRun hp.mono hk hb) hp.mono
  unfold Machine.i2cRead
  refine .ite (h.stageDoorRead hp.mono) (.ite (h.i2cDrive hp.mono) ?_)
  extract_lets +onlyGivenNames pec n go
  split
  · exact hgo ..
  · refine .ite (Within.i2cEnd ?_ hp.mono) (hgo ..)
    dsimp only
    exact h.busError hp.mono hk

theorem Within.spiWriteData {crc : Bool} {n a : Nat} {bytes seen : List Byte} {x : SpiRun} (h : Within R s x.s)
    (hp : R.Allows cycleWritePieces) (hw : R.Wide) (hb : R.bulk) :
    Within R s (spiWriteData crc n bytes seen a x).s := by
  induction n generalizing bytes seen a x with
  | zero => exact h
  | succ n ih =>
    unfold Machine.spiWriteData
    extract_lets +onlyGivenNames size four r
    split
    · exact h
    · split
      · dsimp only
        exact h.busError hp.mono hw.openAt
      · exact ih (h.ifaceWrite hp.mono hw hb)

theorem Within.spiWrite {data : List Byte} (h : Within R s t) (hp : R.Allows spiWritePieces) (hw : R.Wide) (hb : R.bulk) :
    Within R s (spiWrite data t) := by
  unfold Machine.spiWrite
  refine .ite (h.spiEnd hp.mono) (.ite (h.spiEnd hp.mono) ?_)
  have hdata := fun crc n bytes seen a => Within.spiWriteData (crc := crc) (n := n) (a := a) (bytes := bytes) (seen := seen)
    (x := ⟨t, .none, false⟩) h hp.mono hw hb
  exact ((hdata ..).busReport hp.mono).spiEnd hp.mono

theorem Within.spiRead {a : ℕ} {count : ℕ} (h : Within R s t) (hp : R.Allows
    [.obs .hiLatch, .mgmt .spiOut, .mgmt .spiCrcErr, .mgmt .spiBusErr, .mgmt .busErrRate, .mgmt .lockedRate, .free])
    (hk : R.OpenAt [F.REGIF_ERR_INFO_ADDR, F.REGIF_ERR_INFO_CAUSE, F.REGIF_ERR_INFO_INTERFACE, F.REGIF_ERR_INFO_VALID] 0)
    (hb : R.bulk) :
    Within R s (spiRead a count t) := by
  unfold Machine.spiRead
  refine Within.ite ?_ ?_
  · exact (h.spiEnd hp.mono)
  · extract_lets +onlyGivenNames crc r
    have hr : Within R s r.1 := (h.readRun hp.mono hk hb)
    exact ((hr.busReport hp.mono).spiEnd hp.mono)

theorem Within.spiStatusRow {cmd : ℕ} (h : Within R s t) (hp : R.Allows [.mgmt .spiOut, .mgmt .spiCrcErr, .mgmt .spiBusErr]) :
    Within R s (spiStatusRow cmd t) := by
  unfold Machine.spiStatusRow
  exact (Within.ite (h.spiEnd hp) (h.spiEnd hp))

theorem Within.cmisByte {a : ℕ} (h : Within R s t) (hb : R.bulk) :
    Within R s (cmisByte t a).1 := by
  unfold Machine.cmisByte
  refine .ite_fst h (.ite_fst h ?_)
  split
  · exact h
  · exact h.eccReadWindow hb

theorem Within.cmisRun {n a : Nat} (h : Within R s t) (hb : R.bulk) : Within R s (cmisRun n a t).1 := by
  induction n generalizing a t with
  | zero => exact h
  | succ n ih => exact ih (h.cmisByte hb)

theorem Within.cmisDrive {out : List Byte} {acks : List Bool} (h : Within R s t)
    (hp : R.Allows [.mgmt .cmisOut, .mgmt .cmisAcks]) :
    Within R s (cmisDrive t out acks) := by
  unfold Machine.cmisDrive
  exact (h.withMgmtCmisOutCmisAcks hp)

theorem Within.cmisRead {addr : ℕ} {reg : Option ℕ} {count : ℕ} (h : Within R s t)
    (hp : R.Allows [.mgmt .cmisOut, .mgmt .cmisAcks, .mgmt .cmisNext]) (hb : R.bulk) :
    Within R s (cmisRead addr reg count t) := by
  unfold Machine.cmisRead
  refine Within.ite ?_ ?_
  · extract_lets +onlyGivenNames r
    have hr : Within R s r.1 := (h.cmisRun hb)
    refine Within.cmisDrive ?_ hp.mono
    extract_lets +onlyGivenNames src
    have hsrc : Within R s src := hr
    exact (hsrc.withMgmtCmisNext hp.mono)
  · exact (h.cmisDrive hp.mono)

theorem Within.cmisPut {a : ℕ} {v : Byte} (h : Within R s t) (hp : R.Allows [.mgmt .cmisPage, .mgmt .cmisBank, .mgmt .cmisLog])
    (hb : R.bulk) :
    Within R s (cmisPut t a v).1 := by
  have hput := fun o => h.putBytes (a := shadowBase + o) (bs := [v]) hb
  unfold Machine.cmisPut
  refine .ite_fst (h.withMgmtCmisBank hp.mono) (.ite_fst (h.withMgmtCmisPage hp.mono) ?_)
  split
  · exact .mk_fst h.bump
  · exact .ite_fst (.ite_fst ((hput _).withMgmtCmisLog hp.mono) (.mk_fst h.bump)) (.mk_fst h.bump)

theorem Within.cmisPuts {vs : List Byte} {a : Nat} (h : Within R s t) (hp : R.Allows
    [.mgmt .cmisPage, .mgmt .cmisBank, .mgmt .cmisLog]) (hb : R.bulk) :
    Within R s (cmisPuts vs a t).1 := by
  induction vs generalizing a t with
  | nil => exact h
  | cons v vs ih => exact ih (h.cmisPut hp.mono hb)

theorem Within.cmisWrite {addr : ℕ} {reg : ℕ} {data : List Byte} (h : Within R s t)
    (hp : R.Allows [.mgmt .cmisOut, .mgmt .cmisAcks, .mgmt .cmisPage, .mgmt .cmisBank, .mgmt .cmisLog, .mgmt .cmisNext])
    (hb : R.bulk) :
    Within R s (cmisWrite addr reg data t) := by
  unfold Machine.cmisWrite
  refine Within.ite ?_ ?_
  · extract_lets +onlyGivenNames r
    have hr : Within R s r.1 := (h.cmisPuts hp.mono hb)
    refine Within.cmisDrive ?_ hp.mono
    extract_lets +onlyGivenNames src
    have hsrc : Within R s src := hr
    exact (hsrc.withMgmtCmisNext hp.mono)
  · exact (h.cmisDrive hp.mono)

theorem Within.cmisStage {b : ℕ} {x : CmisAct} (h : Within R s t) (hka : ∀ i, R.OpenAt
    [F.HSL_TX_CTRL_AMP, F.HSL_TX_CTRL_IDLE, F.HSL_TX_CTRL_POST, F.HSL_TX_CTRL_PRE] i) (hk8 : R.Opens [F.LTX_CTRL_IDLE] 8) :
    Within R s (cmisStage b t x) := by
  unfold Machine.cmisStage
  split
  · exact (h.wr (hka _))
  · exact (h.wr (hka _))
  · exact (h.wr (hka _))
  · exact (h.wrB (hka _))
  · next i off =>
      exact (Within.ite (h.wrB (hk8 _ (Fin.isLt _))) h)

theorem Within.cmisAct {b : ℕ} {acts : List CmisAct} (h : Within R s t) (hp : R.Allows goFirePieces)
    (hka : ∀ i, R.OpenAt ([F.HSL_TX_CTRL_AMP, F.HSL_TX_CTRL_IDLE, F.HSL_TX_CTRL_POST, F.HSL_TX_CTRL_PRE,
    F.PCS_ALIGN_STATUS_RX_DESKEWED, F.PCS_ALIGN_STATUS_TX_ALIGNED, F.PCS_LINK_STATUS_LOST, F.PCS_LINK_STATUS_PROBED,
    F.PCS_LINK_STATUS_REASON, F.PCS_LINK_STATUS_STATE, F.PCS_LINK_TIME_RESTARTS] ++ alignFields ++ rmFields) i)
    (hk8 : R.Opens ([F.ASD_LEVEL_REF, F.ASD_STATUS_AUTH_STATE, F.ASD_STATUS_RX_BUSY, F.ASD_STATUS_RX_LOAD, F.ASD_STATUS_TX_BUSY,
    F.ASD_STATUS_TX_LOAD, F.ASD_STATUS_UP, F.ASD_TABLE_RX_k_TABLE, F.ASD_TABLE_TX_k_TABLE, F.LEQ_XA_GATHER_STATE,
    F.LRX_CTLE_STATUS_CODE, F.LRX_CTLE_STATUS_METRIC, F.LRX_SLICE_STATUS_NOSPARE, F.LRX_SLICE_STATUS_SWAP_COUNT,
    F.LRX_SLICE_STATUS_UNDERSTUDY, F.LRX_SLICE_STATUS_WINGS, F.LRX_SPOT_STATUS_STATE, F.LRX_STATUS_CTLE_SEARCH, F.LRX_STATUS_LOL,
    F.LRX_STATUS_LOS, F.LRX_STATUS_LOS_ENV, F.LRX_STATUS_LOS_RMS, F.LRX_TPC_STATUS_LOCK, F.LRX_TPC_STATUS_POS,
    F.LRX_TR_STATUS_FREQ, F.LRX_TR_STATUS_PI_CODE, F.LRX_VGA_STATUS_AT_LIMIT, F.LRX_VGA_STATUS_CODE, F.LRX_VGA_STATUS_DEFERRED,
    F.LTX_CTRL_IDLE, F.LTX_STATUS_SEALED, F.LTX_XA_STATUS_REASON, F.LTX_XA_STATUS_STATE, F.PCS_ALIGN_STATUS_PERIOD,
    F.PCS_ALIGN_STATUS_RX_DESKEWED, F.PCS_ALIGN_STATUS_TX_ALIGNED, F.PCS_LINK_STATUS_BACKOFF, F.PCS_LINK_STATUS_LOST,
    F.PCS_LINK_STATUS_MAP_LEARNED, F.PCS_LINK_STATUS_PROBED, F.PCS_LINK_STATUS_REASON, F.PCS_LINK_STATUS_STATE,
    F.PCS_LINK_TIME_RESTARTS, F.PCS_LINK_TIME_UP_TIME, F.PCS_RX_MAP_USE_INV, F.PCS_RX_MAP_USE_PHYS] ++ eqTapFields ++ alignFields
    ++ rmFields ++ eqStateFields ++ sliceFailedFields ++ lineTxFields) 8)
    (hk16 : R.Opens ([F.GO_FAIL_ADDR_g_ADDR, F.GO_INFO_g_FIRES, F.GO_INFO_g_LAST_CUE, F.GO_INFO_g_REJECTS, F.GO_STATUS_g_CODE,
    F.GO_STATUS_g_SUBCODE, F.HSL_ALIGN_STATUS_LOCKED, F.HSL_SLICE_FAILED_FAILED, F.HSL_SLICE_STATUS_FAILED_32,
    F.HSL_SLICE_STATUS_NOSPARE, F.HSL_SLICE_STATUS_SWAP_COUNT, F.HSL_SLICE_STATUS_UNDERSTUDY, F.HSL_SLICE_STATUS_WINGS,
    F.HSL_STATUS_CTLE_CODE, F.HSL_STATUS_LOL, F.HSL_STATUS_LOS, F.HSL_STATUS_PI_CODE, F.HSL_STATUS_TRAINED,
    F.HSL_STATUS_TRAINING, F.HSL_STATUS_VGA_CODE, F.HSL_TPC_STATUS_LOCK, F.HSL_TPC_STATUS_POS] ++ hostEqFields ++ hostTxFields)
    16) (hk : R.OpenAt ([F.CAL_STATE_HANDLE, F.CAL_STATE_TARGETS, F.HSL_REF_STATUS_A_HOLDOVER, F.HSL_REF_STATUS_A_LOCK,
    F.HSL_REF_STATUS_A_REF, F.HSL_REF_STATUS_B_HOLDOVER, F.HSL_REF_STATUS_B_LOCK, F.HSL_REF_STATUS_B_REF,
    F.HSL_REF_STATUS_HFCKO0_ON, F.HSL_REF_STATUS_HFCKO1_ON, F.LOOP_ENGINE_STATUS_RUNNING] ++ poolFields) 0)
    (hk32 : R.Opens [F.BDAC_CEIL_c_CEIL_HIT, F.BDAC_STATUS_c_APPLIED, F.BDAC_STATUS_c_HOLDING, F.BDAC_STATUS_c_STATE,
    F.LOOP_HIST_FLAGS, F.LOOP_STATUS_CLAMP, F.LOOP_STATUS_FROZEN, F.LOOP_STATUS_LOST_ARB, F.LOOP_STATUS_MOVING,
    F.LOOP_STATUS_SLEW, F.LOOP_STATUS_STALE, F.LOOP_STATUS_STATE] 32) (hk24 : R.Opens
    ([F.SNS_ENV_n_ENV, F.SNS_ENV_n_NOT_SETTLED, F.SNS_PEAK_n_MAX, F.SNS_PEAK_n_MIN, F.SNS_RMS_n_NOT_SETTLED, F.SNS_RMS_n_RMS] ++
    lockinFields ++ senseFields) 24) (hcal : ∀ i, R.OpenAt calShown i) :
    Within R s (cmisAct b acts t) := by
  unfold Machine.cmisAct
  extract_lets +onlyGivenNames t'
  have ht' : Within R s t' := (h.foldl fun _ _ _ h4 => (h4.cmisStage (fun i => (hka i).mono (by decide)) (hk8.mono (by decide))))
  split
  · exact ht'
  · exact (ht'.goFireRow hp (hk8.mono (by decide)) hk16 hk (fun i => (hka i).mono (by decide)) hk32 hk24 hcal)

theorem Within.cmisApply (h : Within R s t) (hp : R.Allows cmisApplyPieces)
    (hka : ∀ i, R.OpenAt ([F.HSL_TX_CTRL_AMP, F.HSL_TX_CTRL_IDLE, F.HSL_TX_CTRL_POST, F.HSL_TX_CTRL_PRE,
    F.PCS_ALIGN_STATUS_RX_DESKEWED, F.PCS_ALIGN_STATUS_TX_ALIGNED, F.PCS_LINK_STATUS_LOST, F.PCS_LINK_STATUS_PROBED,
    F.PCS_LINK_STATUS_REASON, F.PCS_LINK_STATUS_STATE, F.PCS_LINK_TIME_RESTARTS] ++ alignFields ++ rmFields) i)
    (hk8 : R.Opens ([F.ASD_LEVEL_REF, F.ASD_STATUS_AUTH_STATE, F.ASD_STATUS_RX_BUSY, F.ASD_STATUS_RX_LOAD, F.ASD_STATUS_TX_BUSY,
    F.ASD_STATUS_TX_LOAD, F.ASD_STATUS_UP, F.ASD_TABLE_RX_k_TABLE, F.ASD_TABLE_TX_k_TABLE, F.LEQ_XA_GATHER_STATE,
    F.LRX_CTLE_STATUS_CODE, F.LRX_CTLE_STATUS_METRIC, F.LRX_SLICE_STATUS_NOSPARE, F.LRX_SLICE_STATUS_SWAP_COUNT,
    F.LRX_SLICE_STATUS_UNDERSTUDY, F.LRX_SLICE_STATUS_WINGS, F.LRX_SPOT_STATUS_STATE, F.LRX_STATUS_CTLE_SEARCH, F.LRX_STATUS_LOL,
    F.LRX_STATUS_LOS, F.LRX_STATUS_LOS_ENV, F.LRX_STATUS_LOS_RMS, F.LRX_TPC_STATUS_LOCK, F.LRX_TPC_STATUS_POS,
    F.LRX_TR_STATUS_FREQ, F.LRX_TR_STATUS_PI_CODE, F.LRX_VGA_STATUS_AT_LIMIT, F.LRX_VGA_STATUS_CODE, F.LRX_VGA_STATUS_DEFERRED,
    F.LTX_CTRL_IDLE, F.LTX_STATUS_SEALED, F.LTX_XA_STATUS_REASON, F.LTX_XA_STATUS_STATE, F.PCS_ALIGN_STATUS_PERIOD,
    F.PCS_ALIGN_STATUS_RX_DESKEWED, F.PCS_ALIGN_STATUS_TX_ALIGNED, F.PCS_LINK_STATUS_BACKOFF, F.PCS_LINK_STATUS_LOST,
    F.PCS_LINK_STATUS_MAP_LEARNED, F.PCS_LINK_STATUS_PROBED, F.PCS_LINK_STATUS_REASON, F.PCS_LINK_STATUS_STATE,
    F.PCS_LINK_TIME_RESTARTS, F.PCS_LINK_TIME_UP_TIME, F.PCS_RX_MAP_USE_INV, F.PCS_RX_MAP_USE_PHYS] ++ eqTapFields ++ alignFields
    ++ rmFields ++ eqStateFields ++ sliceFailedFields ++ lineTxFields) 8)
    (hk16 : R.Opens ([F.GO_FAIL_ADDR_g_ADDR, F.GO_INFO_g_FIRES, F.GO_INFO_g_LAST_CUE, F.GO_INFO_g_REJECTS, F.GO_STATUS_g_CODE,
    F.GO_STATUS_g_SUBCODE, F.HSL_ALIGN_STATUS_LOCKED, F.HSL_SLICE_FAILED_FAILED, F.HSL_SLICE_STATUS_FAILED_32,
    F.HSL_SLICE_STATUS_NOSPARE, F.HSL_SLICE_STATUS_SWAP_COUNT, F.HSL_SLICE_STATUS_UNDERSTUDY, F.HSL_SLICE_STATUS_WINGS,
    F.HSL_STATUS_CTLE_CODE, F.HSL_STATUS_LOL, F.HSL_STATUS_LOS, F.HSL_STATUS_PI_CODE, F.HSL_STATUS_TRAINED,
    F.HSL_STATUS_TRAINING, F.HSL_STATUS_VGA_CODE, F.HSL_TPC_STATUS_LOCK, F.HSL_TPC_STATUS_POS] ++ hostEqFields ++ hostTxFields)
    16) (hk : R.OpenAt ([F.CAL_STATE_HANDLE, F.CAL_STATE_TARGETS, F.HSL_REF_STATUS_A_HOLDOVER, F.HSL_REF_STATUS_A_LOCK,
    F.HSL_REF_STATUS_A_REF, F.HSL_REF_STATUS_B_HOLDOVER, F.HSL_REF_STATUS_B_LOCK, F.HSL_REF_STATUS_B_REF,
    F.HSL_REF_STATUS_HFCKO0_ON, F.HSL_REF_STATUS_HFCKO1_ON, F.LOOP_ENGINE_STATUS_RUNNING] ++ poolFields) 0)
    (hk32 : R.Opens [F.BDAC_CEIL_c_CEIL_HIT, F.BDAC_STATUS_c_APPLIED, F.BDAC_STATUS_c_HOLDING, F.BDAC_STATUS_c_STATE,
    F.LOOP_HIST_FLAGS, F.LOOP_STATUS_CLAMP, F.LOOP_STATUS_FROZEN, F.LOOP_STATUS_LOST_ARB, F.LOOP_STATUS_MOVING,
    F.LOOP_STATUS_SLEW, F.LOOP_STATUS_STALE, F.LOOP_STATUS_STATE] 32) (hk24 : R.Opens
    ([F.SNS_ENV_n_ENV, F.SNS_ENV_n_NOT_SETTLED, F.SNS_PEAK_n_MAX, F.SNS_PEAK_n_MIN, F.SNS_RMS_n_NOT_SETTLED, F.SNS_RMS_n_RMS] ++
    lockinFields ++ senseFields) 24) (hcal : ∀ i, R.OpenAt calShown i) :
    Within R s (cmisApply t) := by
  unfold Machine.cmisApply
  split
  · exact h
  · refine Within.ite ?_ ?_
    · extract_lets +onlyGivenNames _ t'
      have ht' : Within R s t' := (h.withMgmtCmisLog hp.mono)
      split
      · exact (ht'.cmisAct hp.mono hka hk8 hk16 hk hk32 hk24 hcal)
      · exact ht'
    · exact h

theorem Within.undefinedOpcode {c : Cmd} {opcode : ℕ} (h : Within R s t) :
    Within R s (undefinedOpcode c opcode t) := by
  unfold Machine.undefinedOpcode
  exact .ite h (.ite (.ite h.offer.slotRead.complete h.offer.slotRead.complete) h.offer)

theorem Within.devNop (h : Within R s t) :
    Answers R s (devNop t) := by
  unfold Machine.devNop
  exact h.done

theorem Within.cmisLoad {c : Cmd} (h : Within R s t) (hb : R.bulk) :
    Answers R s (cmisLoad c t) := by
  unfold Machine.cmisLoad
  refine Answers.withChecks h fun _ => ?_
  extract_lets +onlyGivenNames r
  have hr : Within R s r.1 := (h.fetchWords hb)
  exact (hr.putBytes hb).done

theorem Within.cacheRead (h : Within R s t) (hp : R.Allows [.sec .cache]) :
    Within R s (cacheRead t) := by
  unfold Machine.cacheRead
  split
  · exact h
  · extract_lets +onlyGivenNames struck r
    have hr : Within R s r.1 := h.eccReadAll
    refine Within.ite ?_ ?_
    · extract_lets +onlyGivenNames src
      have hsrc : Within R s src := hr
      exact (hsrc.withSecCache hp)
    · exact hr

theorem Within.settingsStage {b : SettingsBlock} (h : Within R s t) (hw : R.Wide) (hb : R.bulk) :
    Within R s (settingsStage t b) := by
  exact h.withFld fun k hn => absurd (hw k fun _ => hb) hn

theorem Within.ceilRestore {b : SettingsBlock} (h : Within R s t) (hp : R.Allows [.ctl .bdac])
    (hk32 : R.Opens [F.BDAC_CEIL_c_CEIL_HIT, F.BDAC_CEIL_c_CODE_MAX, F.BDAC_CEIL_c_LOCK, F.BDAC_STATUS_c_APPLIED,
    F.BDAC_STATUS_c_HOLDING] 32) :
    Within R s (ceilRestore t b) := by
  unfold Machine.ceilRestore
  exact (h.foldl fun _ _ m3 h4 => (Within.ite h4 (((h4.wr (hk32 _ (List.mem_range.1 m3))).wr
      (hk32 _ (List.mem_range.1 m3))).bdacRefresh hp (hk32.at (List.mem_range.1 m3) (by decide)))))

theorem Within.layoutRestore {b : SettingsBlock} (h : Within R s t) (hp : R.Allows layoutRestorePieces) (hw : R.Wide)
    (hb : R.bulk) :
    Within R s (layoutRestore t b) := by
  unfold Machine.layoutRestore
  refine Within.ite ?_ ?_
  · split
    · extract_lets +onlyGivenNames q
      have hq : Within R s q.1 := (h.ifaceWrite hp.mono hw hb)
      exact (hq.busReport hp.mono)
    · exact h
  · exact h

theorem Within.settingsApply {b : SettingsBlock} (h : Within R s t) (hp : R.Allows layoutRestorePieces) (hw : R.Wide)
    (hb : R.bulk) :
    Within R s (settingsApply t b) := by
  unfold Machine.settingsApply
  extract_lets +onlyGivenNames s1
  have hs1 : Within R s s1 := (((h.layoutRestore hp hw hb).ceilRestore hp.mono hw.opens).settingsStage hw hb)
  exact (hs1.goFireRow hp.mono hw.opens hw.opens hw.openAt hw.any hw.opens hw.opens hw.cal)

theorem Within.startupCal (h : Within R s t) (hp : R.Allows (([.ctl .sense] : List Piece) ++ Part.cal.pieces ++
    ([.mgmt .inProgress] : List Piece))) (hk : R.OpenAt [F.CAL_STATE_HANDLE, F.CAL_STATE_TARGETS] 0)
    (hk8 : R.Opens [F.LRX_SLICE_STATUS_WINGS] 8) (hk16 : R.Opens [F.HSL_SLICE_STATUS_WINGS] 16) (hcal : ∀ i, R.OpenAt calShown i)
    :
    Within R s (startupCal t) := by
  unfold Machine.startupCal
  exact (Within.ite h (h.calStart hp hk hk8 hk16 hcal))

theorem Within.alarmRestore {b : Option SettingsBlock} (h : Within R s t)
    (hk : R.OpenAt [F.SEC_ALARM_CFG_AUTH_FAIL, F.SEC_ALARM_CFG_CGLITCH, F.SEC_ALARM_CFG_DEBUG, F.SEC_ALARM_CFG_LOCK,
    F.SEC_ALARM_CFG_TEMP, F.SEC_ALARM_CFG_VGLITCH] 0) :
    Within R s (alarmRestore t b) := by
  unfold Machine.alarmRestore
  refine .ite h ?_
  extract_lets +onlyGivenNames up
  refine Within.wr (h.foldl fun u f hf hu => ?_) hk
  cases b with
  | none => exact hu
  | some x => exact hu.wr hk (hf := (by decide : ∀ f ∈ [F.SEC_ALARM_CFG_VGLITCH, F.SEC_ALARM_CFG_CGLITCH, F.SEC_ALARM_CFG_TEMP,
      F.SEC_ALARM_CFG_DEBUG, F.SEC_ALARM_CFG_AUTH_FAIL], f ∈ _) f hf)

theorem Within.settingsStart {m : MexisStart} (h : Within R s t) (hp : R.Allows settingsStartPieces) (hw : R.Wide) (hb : R.bulk) :
    Within R s (settingsStart t m) := by
  unfold Machine.settingsStart
  refine Within.ite ?_ h
  extract_lets +onlyGivenNames s' b u _ s1 s2
  have hs' : Within R s s' := h.cacheRead hp.mono
  have hs1 : Within R s s1 := (hs'.withSecCacheApplyDue hp.mono).bankRenewed
  have hs2 : Within R s s2 := by
    unfold s2
    cases u with
    | none => exact hs1
    | some x => exact hs1.settingsApply hp.mono hw hb
  exact (hs2.alarmRestore hw.openAt).startupCal hp.mono hw.openAt hw.opens hw.opens hw.cal

theorem Within.abortProgress (h : Within R s t) (hp : R.Allows [.mgmt .inProgress]) :
    Within R s (abortProgress t) := by
  unfold Machine.abortProgress
  exact ((h.withMgmtInProgress hp).foldl fun _ _ _ h4 => h4.complete)

theorem Within.saveBlock {k : Fin 2} {b : SettingsBlock} (h : Within R s t) (hp : R.Allows [.sec .settings, .sec .cache]) :
    Within R s (saveBlock t k b) := by
  unfold Machine.saveBlock
  exact ((h.withSecSettingsCache hp).bankRenewed)

theorem Within.spoilBlock {k : Fin 2} (h : Within R s t) (hp : R.Allows [.sec .settings]) :
    Within R s (spoilBlock t k) := by
  unfold Machine.spoilBlock
  exact (h.withSecSettings hp)

theorem Within.migrate {m : Migration} (h : Within R s t) (hp : R.Allows [.sec .settings, .sec .cache]) :
    Within R s (migrate t m) := by
  unfold Machine.migrate
  split
  · exact (Within.ite ((h.saveBlock hp).raiseEvent) ((h.spoilBlock hp.mono).raiseEvent))
  · exact h

theorem Within.readyReports {found : SettingsFound} (h : Within R s t) (hp : R.Allows
    [.power .announce, .test .results, .sec .settings, .sec .cache, .sec .reverted, .sec .migration]) :
    Within R s (readyReports t found) := by
  unfold Machine.readyReports
  extract_lets +onlyGivenNames _ s1 _ s2 _ s3
  have hs1 : Within R s s1 := by
    unfold s1
    split
    · exact ((h.withSecReverted hp.mono).raiseEvent)
    · exact h
  have hs2 : Within R s s2 := by
    unfold s2
    split
    · exact hs1
    · exact hs1.raiseEvent
    · exact hs1.raiseEvent
    · exact (Within.ite (hs1.withSecMigration hp.mono) (hs1.migrate hp.mono))
  have hs3 : Within R s s3 := ((hs2.withTestResults hp.mono).foldl fun _ _ _ h4 => h4.raiseEvent)
  split
  · exact ((hs3.withPowerAnnounce hp.mono).raiseEvent)
  · exact hs3

theorem Within.mgmtReady {m : MexisStart} (h : Within R s t) (hp : R.Allows mgmtReadyPieces) (hw : R.Wide) (hb : R.bulk) :
    Within R s (mgmtReady m t) := by
  unfold Machine.mgmtReady
  refine Within.ite ?_ ?_
  · extract_lets +onlyGivenNames found _ s1 after n _ s2 s3
    have hs1 : Within R s s1 := ((h.withSecFormat hp.mono).settingsStart hp.mono hw hb)
    have hs2 : Within R s s2 := (((hs1.withMgmtEngineHeldAfterRestart hp.mono).wrWide hw).wrWide hw)
    have hs3 : Within R s s3 := (Within.ite (hs2.abortProgress hp.mono) hs2)
    exact (hs3.raiseEvent.readyReports hp.mono)
  · exact h

theorem Within.scrubPassEnd {k : ℕ} (h : Within R s t) (hk : R.OpenAt [F.MEM_LAP_k_LAP] k) :
    Within R s (scrubPassEnd t k) := by
  unfold Machine.scrubPassEnd
  exact (h.setBank.wr hk)

theorem Within.setTracker {k : ℕ} {ts : List Tracked} (h : Within R s t) :
    Within R s (setTracker t k ts) := by
  unfold Machine.setTracker
  exact h.setBank

theorem Within.passOver {k : ℕ} {a : ℕ} {b : ℕ} (h : Within R s t) :
    Within R s (passOver t k a b) := by
  unfold Machine.passOver
  exact h.setTracker

theorem Within.untrack {k : ℕ} {a : ℕ} (h : Within R s t) :
    Within R s (untrack t k a) := by
  unfold Machine.untrack
  exact h.setTracker

theorem Within.hardCandidate {k : ℕ} {a : ℕ} {bit : ℕ} (h : Within R s t) (hp : R.Allows [.mem .candidates]) :
    Within R s (hardCandidate t k a bit) := by
  unfold Machine.hardCandidate
  extract_lets +onlyGivenNames auto s1
  have hs1 : Within R s s1 := h.raiseEvent
  exact (Within.ite (hs1.withMemCandidates hp) hs1)

theorem Within.scrubRead {k : ℕ} {a : ℕ} {raced : Bool} (h : Within R s t)
    (hp : R.Allows [.obs .buckets, .obs .contexts, .obs .flowFull, .obs .shifts, .lanes .tx, .ctl .coefs, .cal .sets,
    .mgmt .restartCause, .mem .candidates, .mem .retrain, .sec .cache]) (hk : R.OpenAt [F.MEM_LUT_STATUS_RETRAIN] 0)
    (hcal : ∀ i, R.OpenAt calShown i) (hb : R.bulk) :
    Within R s (scrubRead t k a raced) := by
  unfold Machine.scrubRead
  refine Within.ite ?_ ?_
  · exact h.bump.untrack
  · split
    · exact h.untrack
    · extract_lets +onlyGivenNames r s1
      have hs1 : Within R s s1 := h.bump.setTracker
      exact (Within.ite (hs1.hardCandidate hp.mono) hs1)
    · extract_lets +onlyGivenNames s1
      have hs1 : Within R s s1 := h.untrack
      exact (Within.ite hs1 hs1.setBank.bump)
    · exact ((h.untrack.reportUncorr hb).ownerAction hp.mono hk hcal)

theorem Within.dataTurned {k : ℕ} {a : ℕ} {d : ℕ} (h : Within R s t) (hp : R.Allows
    [.obs .banks, .obs .buckets, .obs .contexts, .lanes .tx, .ctl .coefs, .cal .sets, .sec .cache, .free]) (hb : R.bulk) :
    Within R s (dataTurned t k a d) := by
  unfold Machine.dataTurned
  refine .ite (h.reportsBulk hb (window_reports t _ (winPutWords_wf _ _ _))) (.ite ?_ (.ite ?_ (.ite ?_ (.ite ?_ (.ite ?_ (.ite ?_
    (.ite ?_ (.ite ?_ (.ite ?_ h)))))))))
  · split
    · exact h.still
    · exact h
  · exact (h.takeFree hp.mono).withCalSets hp.mono
  · exact ((h.takeFree hp.mono).takeFree hp.mono).withSecCache hp.mono
  · exact h.setLineTx hp.mono
  · exact h.withObsBuckets hp.mono
  · exact h.withObsContexts hp.mono
  · exact h.still
  · exact h.setSnapBank hp.mono
  · exact h.withCtlCoefs hp.mono

theorem Within.strike {k : ℕ} {a : ℕ} {upset : BitVec 79} (h : Within R s t)
    (hp : R.Allows [.obs .banks, .obs .buckets, .obs .contexts, .lanes .tx, .ctl .coefs, .cal .sets, .sec .cache, .free])
    (hb : R.bulk) :
    Within R s (strike t k a upset) := by
  unfold Machine.strike
  extract_lets +onlyGivenNames e r _ s1
  have hs1 : Within R s s1 := h.setBank
  exact (Within.ite hs1 (hs1.dataTurned hp hb))

theorem Within.scrubWord {k : ℕ} {upset : BitVec 79} {raced : Bool} (h : Within R s t)
    (hp : R.Allows [.obs .banks, .obs .buckets, .obs .contexts, .obs .flowFull, .obs .shifts, .lanes .tx, .ctl .coefs,
    .cal .sets, .mgmt .restartCause, .mem .candidates, .mem .retrain, .sec .cache, .free]) (hk : R.OpenAt [F.MEM_LAP_k_LAP] k)
    (hk'1 : R.OpenAt [F.MEM_LUT_STATUS_RETRAIN] 0) (hcal : ∀ i, R.OpenAt calShown i) (hb : R.bulk) :
    Within R s (scrubWord k upset raced t) := by
  unfold Machine.scrubWord
  refine Within.ite ?_ ?_
  · extract_lets +onlyGivenNames from0
    split
    · exact (h.passOver.scrubPassEnd hk)
    · extract_lets +onlyGivenNames s1 _ s2
      have hs1 : Within R s s1 := ((h.passOver.strike hp.mono hb).scrubRead hp.mono hk'1 hcal hb)
      have hs2 : Within R s s2 := hs1.setBank
      exact (Within.ite (hs2.passOver.scrubPassEnd hk) hs2)
  · exact h

theorem Within.remapRead {k : ℕ} {a : ℕ} (h : Within R s t) (hp : R.Allows
    [.obs .buckets, .obs .contexts, .obs .flowFull, .obs .shifts, .lanes .tx, .ctl .coefs, .cal .sets, .mgmt .restartCause,
    .mem .retrain, .sec .cache]) (hk : R.OpenAt [F.MEM_LUT_STATUS_RETRAIN] 0) (hcal : ∀ i, R.OpenAt calShown i) (hb : R.bulk) :
    Within R s (remapRead t k a) := by
  unfold Machine.remapRead
  have hread : Within R s (Machine.eccRead t k a).1 := h.reportsBulk hb (eccRead_reports ..)
  exact .ite (hread.ownerAction hp.mono hk hcal) hread

theorem Within.installRemap {k : ℕ} {a : ℕ} {command : Bool} (h : Within R s t) :
    Within R s (installRemap t k a command) := by
  unfold Machine.installRemap
  extract_lets +onlyGivenNames b s1 used s2
  have hs1 : Within R s s1 := h.setBank
  have hs2 : Within R s s2 := hs1.raiseEvent
  exact (Within.ite hs2.raiseEvent hs2)

theorem Within.remapInstall {k : ℕ} (h : Within R s t) (hp : R.Allows [.obs .buckets, .obs .contexts, .obs .flowFull,
    .obs .shifts, .lanes .tx, .ctl .coefs, .cal .sets, .mgmt .restartCause, .mem .candidates, .mem .retrain, .sec .cache])
    (hk : R.OpenAt [F.MEM_LUT_STATUS_RETRAIN] 0) (hcal : ∀ i, R.OpenAt calShown i) (hb : R.bulk) :
    Within R s (remapInstall k t) := by
  unfold Machine.remapInstall
  split
  · exact h
  · extract_lets +onlyGivenNames _ s1
    have hs1 : Within R s s1 := ((h.withMemCandidates hp.mono).remapRead hp.mono hk hcal hb)
    exact (Within.ite hs1 hs1.installRemap)

theorem Within.memRemap {c : Cmd} (h : Within R s t) (hp : R.Allows [.obs .buckets, .obs .contexts, .obs .flowFull, .obs .shifts,
    .lanes .tx, .ctl .coefs, .cal .sets, .mgmt .restartCause, .mem .retrain, .sec .cache])
    (hk : R.OpenAt [F.MEM_LUT_STATUS_RETRAIN] 0) (hcal : ∀ i, R.OpenAt calShown i) (hb : R.bulk) :
    Answers R s (memRemap c t) := by
  unfold Machine.memRemap
  exact (Answers.withChecks h fun _ => ((h.remapRead hp hk hcal hb).installRemap).done)

theorem Within.memInject {c : Cmd} (h : Within R s t) (hp : R.Allows [.obs .banks, .obs .buckets, .obs .contexts, .lanes .tx,
    .ctl .coefs, .cal .sets, .sec .cache, .free]) (hb : R.bulk) :
    Answers R s (memInject c t) := by
  unfold Machine.memInject
  exact (Answers.withChecks h fun _ => (h.strike hp hb).done)

theorem Within.watchdogExpiry (h : Within R s t) (hp : R.Allows [.mgmt .restartCause, .faults .watchdogAt]) :
    Within R s (watchdogExpiry t) := by
  unfold Machine.watchdogExpiry
  exact (Within.ite ((((h.withFaultsWatchdogAt hp.mono).raiseEvent).curtain).requestMgmt hp.mono) h)

theorem Within.crystalEdgeLoss (h : Within R s t) (hp : R.Allows crystalEdgeLossPieces)
    (hk : R.OpenAt [F.CAL_STATE_HANDLE, F.CAL_STATE_TARGETS, F.CUE_SC_STATE_HC_ESTIMATED, F.TST_FENCED_HOST, F.TST_FENCED_LINE,
    F.TST_FENCED_PORTS, F.TST_STATUS_CAUSE, F.TST_STATUS_RESULT, F.TST_STATUS_RUNNING] 0)
    (hk8 : R.Opens ([F.ASD_LEVEL_REF, F.ASD_STATUS_RX_BUSY, F.ASD_STATUS_RX_LOAD, F.ASD_STATUS_TX_BUSY, F.ASD_STATUS_TX_LOAD,
    F.ASD_STATUS_UP, F.ASD_TABLE_RX_k_TABLE, F.ASD_TABLE_TX_k_TABLE, F.LEQ_XA_GATHER_STATE, F.LRX_CTLE_STATUS_CODE,
    F.LRX_CTLE_STATUS_METRIC, F.LRX_SLICE_STATUS_NOSPARE, F.LRX_SLICE_STATUS_SWAP_COUNT, F.LRX_SLICE_STATUS_UNDERSTUDY,
    F.LRX_SLICE_STATUS_WINGS, F.LRX_SPOT_STATUS_STATE, F.LRX_STATUS_CTLE_SEARCH, F.LRX_STATUS_LOL, F.LRX_STATUS_LOS,
    F.LRX_STATUS_LOS_ENV, F.LRX_STATUS_LOS_RMS, F.LRX_TR_STATUS_FREQ, F.LRX_TR_STATUS_PI_CODE, F.LRX_VGA_STATUS_AT_LIMIT,
    F.LRX_VGA_STATUS_CODE, F.LRX_VGA_STATUS_DEFERRED, F.LTX_STATUS_SEALED, F.LTX_XA_STATUS_REASON, F.LTX_XA_STATUS_STATE] ++
    eqTapFields ++ eqStateFields ++ sliceFailedFields ++ lineTxFields) 8)
    (hk16 : R.Opens ([F.HSL_ALIGN_STATUS_LOCKED, F.HSL_SLICE_FAILED_FAILED, F.HSL_SLICE_STATUS_FAILED_32,
    F.HSL_SLICE_STATUS_NOSPARE, F.HSL_SLICE_STATUS_SWAP_COUNT, F.HSL_SLICE_STATUS_UNDERSTUDY, F.HSL_SLICE_STATUS_WINGS,
    F.HSL_STATUS_CTLE_CODE, F.HSL_STATUS_LOL, F.HSL_STATUS_LOS, F.HSL_STATUS_PI_CODE, F.HSL_STATUS_TRAINED,
    F.HSL_STATUS_TRAINING, F.HSL_STATUS_VGA_CODE] ++ hostEqFields ++ hostTxFields) 16)
    (hka : ∀ i, R.OpenAt ([F.BDAC_CEIL_c_CEIL_HIT, F.BDAC_STATUS_c_APPLIED, F.BDAC_STATUS_c_HOLDING, F.BDAC_STATUS_c_STATE,
    F.LOOP_STATUS_STATE, F.PCS_ALIGN_STATUS_RX_DESKEWED, F.PCS_ALIGN_STATUS_TX_ALIGNED, F.PCS_LINK_STATUS_LOST,
    F.PCS_LINK_STATUS_PROBED, F.PCS_LINK_STATUS_REASON, F.PCS_LINK_STATUS_STATE, F.PCS_LINK_TIME_RESTARTS, F.SNS_ENV_n_ENV,
    F.SNS_ENV_n_NOT_SETTLED, F.SNS_PEAK_n_MAX, F.SNS_PEAK_n_MIN, F.SNS_RMS_n_NOT_SETTLED, F.SNS_RMS_n_RMS] ++ alignFields ++
    rmFields ++ lockinFields ++ senseFields) i) (hcal : ∀ i, R.OpenAt calShown i) (hclu : R.Clusters) :
    Within R s (crystalEdgeLoss t) := by
  unfold Machine.crystalEdgeLoss
  refine Within.ite ?_ ?_
  · extract_lets +onlyGivenNames _ s1 s2
    have hs1 : Within R s s1 := ((h.withTimeEstimatedCrystalOk hp.mono).wr hk)
    have hs2 : Within R s s2 := (hs1.foldl fun _ _ m3 h4 => (h4.asideCut hp.mono (hk8.at (List.mem_range.1 m3) (by decide))))
    exact (hs2.raiseEvent.testsStop hp.mono hk8 hk16 (hk.mono (by decide)) hka hcal hclu)
  · exact h

theorem Within.crystalReturn (h : Within R s t) (hp : R.Allows [.time .crystalOk, .lanes .lineRx, .lanes .hostRx]) :
    Within R s (crystalReturn t) := by
  unfold Machine.crystalReturn
  exact (Within.ite (((h.withTimeCrystalOk hp.mono).raiseEvent).foldl fun _ _ _ h4 => (h4.asideListen hp.mono)) h)

theorem Within.setRail {r : ℕ} {low : Bool} (h : Within R s t) (hp : R.Allows [.faults .below, .faults .clearSince]) :
    Within R s (setRail t r low) := by
  unfold Machine.setRail
  exact (h.withFaultsBelowClearSince hp)

theorem Within.windowOpen {r : ℕ} (h : Within R s t) (hp : R.Allows windowOpenPieces)
    (hk8 : R.Opens ([F.ASD_LEVEL_REF, F.ASD_STATUS_RX_BUSY, F.ASD_STATUS_RX_LOAD, F.ASD_STATUS_TX_BUSY, F.ASD_STATUS_TX_LOAD,
    F.ASD_STATUS_UP, F.ASD_TABLE_RX_k_TABLE, F.ASD_TABLE_TX_k_TABLE, F.LEQ_XA_GATHER_STATE, F.LRX_CTLE_STATUS_CODE,
    F.LRX_CTLE_STATUS_METRIC, F.LRX_SLICE_STATUS_NOSPARE, F.LRX_SLICE_STATUS_SWAP_COUNT, F.LRX_SLICE_STATUS_UNDERSTUDY,
    F.LRX_SLICE_STATUS_WINGS, F.LRX_SPOT_STATUS_STATE, F.LRX_STATUS_CTLE_SEARCH, F.LRX_STATUS_LOL, F.LRX_STATUS_LOS,
    F.LRX_STATUS_LOS_ENV, F.LRX_STATUS_LOS_RMS, F.LRX_TR_STATUS_FREQ, F.LRX_TR_STATUS_PI_CODE, F.LRX_VGA_STATUS_AT_LIMIT,
    F.LRX_VGA_STATUS_CODE, F.LRX_VGA_STATUS_DEFERRED, F.LTX_STATUS_SEALED, F.LTX_XA_STATUS_REASON, F.LTX_XA_STATUS_STATE] ++
    eqTapFields ++ eqStateFields ++ sliceFailedFields ++ lineTxFields) 8)
    (hk16 : R.Opens ([F.HSL_ALIGN_STATUS_LOCKED, F.HSL_SLICE_FAILED_FAILED, F.HSL_SLICE_STATUS_FAILED_32,
    F.HSL_SLICE_STATUS_NOSPARE, F.HSL_SLICE_STATUS_SWAP_COUNT, F.HSL_SLICE_STATUS_UNDERSTUDY, F.HSL_SLICE_STATUS_WINGS,
    F.HSL_STATUS_CTLE_CODE, F.HSL_STATUS_LOL, F.HSL_STATUS_LOS, F.HSL_STATUS_PI_CODE, F.HSL_STATUS_TRAINED,
    F.HSL_STATUS_TRAINING, F.HSL_STATUS_VGA_CODE] ++ hostEqFields ++ hostTxFields) 16)
    (hk : R.OpenAt [F.CAL_STATE_HANDLE, F.CAL_STATE_TARGETS, F.TST_FENCED_HOST, F.TST_FENCED_LINE, F.TST_FENCED_PORTS,
    F.TST_STATUS_CAUSE, F.TST_STATUS_RESULT, F.TST_STATUS_RUNNING] 0) (hka : ∀ i, R.OpenAt
    ([F.BDAC_CEIL_c_CEIL_HIT, F.BDAC_STATUS_c_APPLIED, F.BDAC_STATUS_c_HOLDING, F.BDAC_STATUS_c_STATE, F.LOOP_STATUS_STATE,
    F.PCS_ALIGN_STATUS_RX_DESKEWED, F.PCS_ALIGN_STATUS_TX_ALIGNED, F.PCS_LINK_STATUS_LOST, F.PCS_LINK_STATUS_PROBED,
    F.PCS_LINK_STATUS_REASON, F.PCS_LINK_STATUS_STATE, F.PCS_LINK_TIME_RESTARTS, F.SNS_ENV_n_ENV, F.SNS_ENV_n_NOT_SETTLED,
    F.SNS_PEAK_n_MAX, F.SNS_PEAK_n_MIN, F.SNS_RMS_n_NOT_SETTLED, F.SNS_RMS_n_RMS] ++ alignFields ++ rmFields ++ lockinFields ++
    senseFields) i) (hcal : ∀ i, R.OpenAt calShown i) (hclu : R.Clusters) :
    Within R s (windowOpen t r) := by
  unfold Machine.windowOpen
  exact (Within.ite h ((h.withFaultsWindowWindowRailWindowMarked hp.mono).testsStop hp.mono hk8 hk16 hk hka hcal hclu))

theorem Within.supplyWarnAssert {r : ℕ} (h : Within R s t) (hp : R.Allows supplyWarnAssertPieces)
    (hk8 : R.Opens ([F.ASD_LEVEL_REF, F.ASD_STATUS_RX_BUSY, F.ASD_STATUS_RX_LOAD, F.ASD_STATUS_TX_BUSY, F.ASD_STATUS_TX_LOAD,
    F.ASD_STATUS_UP, F.ASD_TABLE_RX_k_TABLE, F.ASD_TABLE_TX_k_TABLE, F.LEQ_XA_GATHER_STATE, F.LRX_CTLE_STATUS_CODE,
    F.LRX_CTLE_STATUS_METRIC, F.LRX_SLICE_STATUS_NOSPARE, F.LRX_SLICE_STATUS_SWAP_COUNT, F.LRX_SLICE_STATUS_UNDERSTUDY,
    F.LRX_SLICE_STATUS_WINGS, F.LRX_SPOT_STATUS_STATE, F.LRX_STATUS_CTLE_SEARCH, F.LRX_STATUS_LOL, F.LRX_STATUS_LOS,
    F.LRX_STATUS_LOS_ENV, F.LRX_STATUS_LOS_RMS, F.LRX_TR_STATUS_FREQ, F.LRX_TR_STATUS_PI_CODE, F.LRX_VGA_STATUS_AT_LIMIT,
    F.LRX_VGA_STATUS_CODE, F.LRX_VGA_STATUS_DEFERRED, F.LTX_STATUS_SEALED, F.LTX_XA_STATUS_REASON, F.LTX_XA_STATUS_STATE] ++
    eqTapFields ++ eqStateFields ++ sliceFailedFields ++ lineTxFields) 8)
    (hk16 : R.Opens ([F.HSL_ALIGN_STATUS_LOCKED, F.HSL_SLICE_FAILED_FAILED, F.HSL_SLICE_STATUS_FAILED_32,
    F.HSL_SLICE_STATUS_NOSPARE, F.HSL_SLICE_STATUS_SWAP_COUNT, F.HSL_SLICE_STATUS_UNDERSTUDY, F.HSL_SLICE_STATUS_WINGS,
    F.HSL_STATUS_CTLE_CODE, F.HSL_STATUS_LOL, F.HSL_STATUS_LOS, F.HSL_STATUS_PI_CODE, F.HSL_STATUS_TRAINED,
    F.HSL_STATUS_TRAINING, F.HSL_STATUS_VGA_CODE] ++ hostEqFields ++ hostTxFields) 16)
    (hk : R.OpenAt [F.CAL_STATE_HANDLE, F.CAL_STATE_TARGETS, F.TST_FENCED_HOST, F.TST_FENCED_LINE, F.TST_FENCED_PORTS,
    F.TST_STATUS_CAUSE, F.TST_STATUS_RESULT, F.TST_STATUS_RUNNING] 0) (hka : ∀ i, R.OpenAt
    ([F.BDAC_CEIL_c_CEIL_HIT, F.BDAC_STATUS_c_APPLIED, F.BDAC_STATUS_c_HOLDING, F.BDAC_STATUS_c_STATE, F.LOOP_STATUS_STATE,
    F.PCS_ALIGN_STATUS_RX_DESKEWED, F.PCS_ALIGN_STATUS_TX_ALIGNED, F.PCS_LINK_STATUS_LOST, F.PCS_LINK_STATUS_PROBED,
    F.PCS_LINK_STATUS_REASON, F.PCS_LINK_STATUS_STATE, F.PCS_LINK_TIME_RESTARTS, F.SNS_ENV_n_ENV, F.SNS_ENV_n_NOT_SETTLED,
    F.SNS_PEAK_n_MAX, F.SNS_PEAK_n_MIN, F.SNS_RMS_n_NOT_SETTLED, F.SNS_RMS_n_RMS] ++ alignFields ++ rmFields ++ lockinFields ++
    senseFields) i) (hcal : ∀ i, R.OpenAt calShown i) (hclu : R.Clusters) :
    Within R s (supplyWarnAssert r t) := by
  unfold Machine.supplyWarnAssert
  refine Within.ite ?_ ?_
  · exact h
  · extract_lets +onlyGivenNames s0
    have hs0 : Within R s s0 := (h.setRail hp.mono)
    refine Within.ite ?_ ?_
    · extract_lets +onlyGivenNames s1
      have hs1 : Within R s s1 := hs0.bump
      exact (Within.ite (hs1.windowOpen hp.mono hk8 hk16 hk hka hcal hclu) hs1.raiseEvent)
    · exact hs0

theorem Within.supplyWarnRelease {r : ℕ} (h : Within R s t) (hp : R.Allows
    [.faults .below, .faults .window, .faults .clearSince]) :
    Within R s (supplyWarnRelease r t) := by
  unfold Machine.supplyWarnRelease
  refine Within.ite ?_ ?_
  · extract_lets +onlyGivenNames s1
    have hs1 : Within R s s1 := (h.setRail hp.mono)
    split
    · exact (Within.ite (hs1.withFaultsWindow hp.mono) hs1)
    · exact hs1
  · exact h

theorem Within.calResume (h : Within R s t) (hp : R.Allows [.cal .lineLaps, .cal .hostLaps, .cal .skewAgain, .cal .skewRepeated,
    .cal .skewLive, .cal .repeatBdac, .cal .repeatSense]) :
    Within R s (calResume t) := by
  unfold Machine.calResume
  extract_lets +onlyGivenNames s1 s2
  have hs1 : Within R s s1 := by
    unfold s1
    refine h.foldl fun u1 x2 m3 h4 => ?_
    split
    · exact (Within.ite (h4.setLap hp.mono) h4)
    · exact h4
  have hs2 : Within R s s2 := (hs1.foldl fun _ _ _ h8 => ((h8.withCalSkewAgainSkewRepeated hp.mono).skewBegin hp.mono))
  exact (hs2.withCalRepeatBdacRepeatSense hp.mono)

theorem Within.brownoutClose (h : Within R s t) (hp : R.Allows [.ctl .bdac, .ctl .loops, .cal .lineLaps, .cal .hostLaps,
    .cal .skewAgain, .cal .skewRepeated, .cal .skewLive, .cal .repeatBdac, .cal .repeatSense, .faults .window,
    .faults .windowMarked]) (hk32 : R.Opens [F.BDAC_CEIL_c_CEIL_HIT, F.BDAC_STATUS_c_APPLIED, F.BDAC_STATUS_c_HOLDING] 32) :
    Within R s (brownoutClose t) := by
  unfold Machine.brownoutClose
  split
  · exact h
  · refine Within.ite ?_ ?_
    · exact h
    · extract_lets +onlyGivenNames rail d0 _ s1 s2 s3 s4
      have hs1 : Within R s s1 := (h.withFaultsWindowWindowMarked hp.mono)
      have hs2 : Within R s s2 := (hs1.foldl fun _ _ _ h4 => (Within.ite (h4.setLoop hp.mono) h4))
      have hs3 : Within R s s3 := ((hs2.foldl fun _ _ m7 h8 => (h8.bdacRefresh hp.mono
          (hk32.at (List.mem_range.1 m7) (by decide)))).calResume hp.mono)
      have hs4 : Within R s s4 := hs3.raiseEvent
      exact hs4.curtain

theorem Within.pbCopyStart (h : Within R s t) :
    Within R s (pbCopyStart t) := by
  unfold Machine.pbCopyStart
  refine Within.ite ?_ ?_
  · split
    · exact h.withBook
    · exact h
  · exact h

theorem Within.bookRead {slot : ℕ} (h : Within R s t) :
    Within R s (bookRead t slot).1 := by
  unfold Machine.bookRead
  dsimp only
  exact h.eccReadAll

theorem Within.bookReadAll {ks : List Nat} (h : Within R s t) : Within R s (bookReadAll ks t).1 := by
  induction ks generalizing t with
  | nil => exact h
  | cons k ks ih =>
    unfold Machine.bookReadAll
    extract_lets +onlyGivenNames r q
    have hq : Within R s q.1 := ih h.bookRead
    split
    · exact hq
    · exact hq

theorem Within.pbCopyDone (h : Within R s t) (hk : R.OpenAt [F.PB_STATS_COPIES] 0) :
    Within R s (pbCopyDone t) := by
  unfold Machine.pbCopyDone
  split
  · exact h
  · extract_lets +onlyGivenNames keys r slot _ _ s1
    have hr : Within R s r.1 := h.bookReadAll
    have hs1 : Within R s s1 := by
      unfold s1
      exact hr.withBook
    exact ((hs1.inc hk).raiseEvent)

theorem Within.pbRead {c : Cmd} (h : Within R s t) (hb : R.bulk) :
    Answers R s (pbRead c t) := by
  unfold Machine.pbRead
  refine Answers.withChecks h fun _ => ?_
  exact (h.bookReadAll.bulkWords hb).done

theorem Within.pbRelease {c : Cmd} (h : Within R s t) :
    Answers R s (pbRelease c t) := by
  unfold Machine.pbRelease
  refine Answers.withChecks h fun _ => ?_
  extract_lets +onlyGivenNames s1
  have hs1 : Within R s s1 := h.bookWrite
  exact hs1.withBook.done

theorem Within.pbFlashRead {c : Cmd} (h : Within R s t) (hb : R.bulk) :
    Answers R s (pbFlashRead c t) := by
  unfold Machine.pbFlashRead
  exact (Answers.withChecks h fun _ => (h.bulkWords hb).done)

theorem Within.pbMark {c : Cmd} (h : Within R s t) :
    Answers R s (pbMark c t) := by
  unfold Machine.pbMark
  exact (Answers.withChecks h fun _ => h.curtain.done)

theorem Within.regionsOff {m : PowerMode} (h : Within R s t) (hp : R.Allows regionsOffPieces)
    (hk : R.OpenAt [F.CAL_STATE_HANDLE, F.CAL_STATE_TARGETS, F.HSL_REF_STATUS_A_HOLDOVER, F.HSL_REF_STATUS_A_LOCK,
    F.HSL_REF_STATUS_A_REF, F.HSL_REF_STATUS_B_HOLDOVER, F.HSL_REF_STATUS_B_LOCK, F.HSL_REF_STATUS_B_REF,
    F.HSL_REF_STATUS_HFCKO0_ON, F.HSL_REF_STATUS_HFCKO1_ON] 0) (hk8 : R.Opens
    ([F.ASD_LEVEL_REF, F.ASD_STATUS_RX_BUSY, F.ASD_STATUS_RX_LOAD, F.ASD_STATUS_TX_BUSY, F.ASD_STATUS_TX_LOAD, F.ASD_STATUS_UP,
    F.ASD_TABLE_RX_k_TABLE, F.ASD_TABLE_TX_k_TABLE, F.LEQ_XA_GATHER_STATE, F.LRX_CTLE_STATUS_CODE, F.LRX_CTLE_STATUS_METRIC,
    F.LRX_SLICE_STATUS_NOSPARE, F.LRX_SLICE_STATUS_SWAP_COUNT, F.LRX_SLICE_STATUS_UNDERSTUDY, F.LRX_SLICE_STATUS_WINGS,
    F.LRX_SPOT_STATUS_STATE, F.LRX_STATUS_CTLE_SEARCH, F.LRX_STATUS_LOL, F.LRX_STATUS_LOS, F.LRX_STATUS_LOS_ENV,
    F.LRX_STATUS_LOS_RMS, F.LRX_TR_STATUS_FREQ, F.LRX_TR_STATUS_PI_CODE, F.LRX_VGA_STATUS_AT_LIMIT, F.LRX_VGA_STATUS_CODE,
    F.LRX_VGA_STATUS_DEFERRED, F.LTX_STATUS_SEALED, F.LTX_XA_STATUS_REASON, F.LTX_XA_STATUS_STATE] ++ eqTapFields ++
    eqStateFields ++ sliceFailedFields ++ lineTxFields) 8) (hk16 : R.Opens
    ([F.HSL_ALIGN_STATUS_LOCKED, F.HSL_SLICE_FAILED_FAILED, F.HSL_SLICE_STATUS_FAILED_32, F.HSL_SLICE_STATUS_NOSPARE,
    F.HSL_SLICE_STATUS_SWAP_COUNT, F.HSL_SLICE_STATUS_UNDERSTUDY, F.HSL_SLICE_STATUS_WINGS, F.HSL_STATUS_CTLE_CODE,
    F.HSL_STATUS_LOL, F.HSL_STATUS_LOS, F.HSL_STATUS_PI_CODE, F.HSL_STATUS_TRAINED, F.HSL_STATUS_TRAINING, F.HSL_STATUS_VGA_CODE]
    ++ hostEqFields ++ hostTxFields) 16) (hka : ∀ i, R.OpenAt ([F.PCS_ALIGN_STATUS_RX_DESKEWED, F.PCS_ALIGN_STATUS_TX_ALIGNED,
    F.PCS_LINK_STATUS_LOST, F.PCS_LINK_STATUS_PROBED, F.PCS_LINK_STATUS_REASON, F.PCS_LINK_STATUS_STATE,
    F.PCS_LINK_TIME_RESTARTS] ++ alignFields ++ rmFields) i) (hcal : ∀ i, R.OpenAt calShown i) :
    Within R s (regionsOff t m) := by
  unfold Machine.regionsOff
  exact ((((h.withPathModeChange hp.mono).setMode hp.mono).regionsPower hp.mono (hk.mono (by decide))).lanesPower hp.mono hk8
      hk16 (hk.mono (by decide)) hka hcal)

theorem Within.senseStop (h : Within R s t) (hp : R.Allows [.ctl .sense])
    (hk24 : R.Opens ([F.SNS_ENV_n_ENV, F.SNS_ENV_n_NOT_SETTLED, F.SNS_PEAK_n_MAX, F.SNS_PEAK_n_MIN, F.SNS_RMS_n_NOT_SETTLED,
    F.SNS_RMS_n_RMS] ++ lockinFields ++ senseFields) 24) :
    Within R s (senseStop t) := by
  unfold Machine.senseStop
  exact (h.foldl fun _ _ m3 h4 => ((h4.setSense hp).senseBlank (hk24.at (List.mem_range.1 m3) (by decide))))

theorem Within.ditherStop (h : Within R s t) (hp : R.Allows [.ctl .bdac, .ctl .gens])
    (hk32 : R.Opens [F.BDAC_CEIL_c_CEIL_HIT, F.BDAC_STATUS_c_APPLIED, F.BDAC_STATUS_c_HOLDING] 32) :
    Within R s (ditherStop t) := by
  unfold Machine.ditherStop
  extract_lets +onlyGivenNames s1
  have hs1 : Within R s s1 := (h.foldl fun _ _ m3 h4 => ((h4.setBdac hp.mono).bdacRefresh hp.mono
      (hk32.at (List.mem_range.1 m3) (by decide))))
  clear_value s1
  exact (hs1.withCtlGens hp.mono)

theorem Within.clocksFreewheel (h : Within R s t) (hp : R.Allows [.time .tx, .time .rx]) :
    Within R s (clocksFreewheel t) := by
  unfold Machine.clocksFreewheel
  exact (h.foldl fun _ _ _ h4 => ((h4.setFreewheel hp).setFreewheel hp))

theorem Within.intermissionBegin (h : Within R s t) (hp : R.Allows intermissionBeginPieces)
    (hk32 : R.Opens [F.BDAC_CEIL_c_CEIL_HIT, F.BDAC_STATUS_c_APPLIED, F.BDAC_STATUS_c_HOLDING] 32)
    (hk24 : R.Opens ([F.SNS_ENV_n_ENV, F.SNS_ENV_n_NOT_SETTLED, F.SNS_PEAK_n_MAX, F.SNS_PEAK_n_MIN, F.SNS_RMS_n_NOT_SETTLED,
    F.SNS_RMS_n_RMS] ++ lockinFields ++ senseFields) 24) (hk : R.OpenAt [F.CAL_STATE_HANDLE, F.CAL_STATE_TARGETS,
    F.HSL_REF_STATUS_A_HOLDOVER, F.HSL_REF_STATUS_A_LOCK, F.HSL_REF_STATUS_A_REF, F.HSL_REF_STATUS_B_HOLDOVER,
    F.HSL_REF_STATUS_B_LOCK, F.HSL_REF_STATUS_B_REF, F.HSL_REF_STATUS_HFCKO0_ON, F.HSL_REF_STATUS_HFCKO1_ON,
    F.LOOP_ENGINE_STATUS_FALLBACK] 0) (hk8 : R.Opens ([F.ASD_LEVEL_REF, F.ASD_STATUS_RX_BUSY, F.ASD_STATUS_RX_LOAD,
    F.ASD_STATUS_TX_BUSY, F.ASD_STATUS_TX_LOAD, F.ASD_STATUS_UP, F.ASD_TABLE_RX_k_TABLE, F.ASD_TABLE_TX_k_TABLE,
    F.LEQ_XA_GATHER_STATE, F.LRX_CTLE_STATUS_CODE, F.LRX_CTLE_STATUS_METRIC, F.LRX_SLICE_STATUS_NOSPARE,
    F.LRX_SLICE_STATUS_SWAP_COUNT, F.LRX_SLICE_STATUS_UNDERSTUDY, F.LRX_SLICE_STATUS_WINGS, F.LRX_SPOT_STATUS_STATE,
    F.LRX_STATUS_CTLE_SEARCH, F.LRX_STATUS_LOL, F.LRX_STATUS_LOS, F.LRX_STATUS_LOS_ENV, F.LRX_STATUS_LOS_RMS,
    F.LRX_TR_STATUS_FREQ, F.LRX_TR_STATUS_PI_CODE, F.LRX_VGA_STATUS_AT_LIMIT, F.LRX_VGA_STATUS_CODE, F.LRX_VGA_STATUS_DEFERRED,
    F.LTX_STATUS_SEALED, F.LTX_XA_STATUS_REASON, F.LTX_XA_STATUS_STATE] ++ eqTapFields ++ eqStateFields ++ sliceFailedFields ++
    lineTxFields) 8) (hk16 : R.Opens ([F.HSL_ALIGN_STATUS_LOCKED, F.HSL_SLICE_FAILED_FAILED, F.HSL_SLICE_STATUS_FAILED_32,
    F.HSL_SLICE_STATUS_NOSPARE, F.HSL_SLICE_STATUS_SWAP_COUNT, F.HSL_SLICE_STATUS_UNDERSTUDY, F.HSL_SLICE_STATUS_WINGS,
    F.HSL_STATUS_CTLE_CODE, F.HSL_STATUS_LOL, F.HSL_STATUS_LOS, F.HSL_STATUS_PI_CODE, F.HSL_STATUS_TRAINED,
    F.HSL_STATUS_TRAINING, F.HSL_STATUS_VGA_CODE] ++ hostEqFields ++ hostTxFields) 16)
    (hka : ∀ i, R.OpenAt ([F.PCS_ALIGN_STATUS_RX_DESKEWED, F.PCS_ALIGN_STATUS_TX_ALIGNED, F.PCS_LINK_STATUS_LOST,
    F.PCS_LINK_STATUS_PROBED, F.PCS_LINK_STATUS_REASON, F.PCS_LINK_STATUS_STATE, F.PCS_LINK_TIME_RESTARTS] ++ alignFields ++
    rmFields) i) (hcal : ∀ i, R.OpenAt calShown i) :
    Within R s (intermissionBegin t) := by
  unfold Machine.intermissionBegin
  extract_lets +onlyGivenNames s1
  have hs1 : Within R s s1 := (((h.ditherStop hp.mono hk32).senseStop hp.mono hk24).regionsOff hp.mono (hk.mono (by decide)) hk8
      hk16 hka hcal)
  clear_value s1
  exact (((hs1.withTimeSysPllLocked hp.mono).wr hk).clocksFreewheel hp.mono)

theorem Within.darkEntry {rcHz : ℕ} (h : Within R s t) (hp : R.Allows [.power .mode, .power .rcHz, .power .stored]) :
    Within R s (darkEntry t rcHz) := by
  unfold Machine.darkEntry
  extract_lets +onlyGivenNames _ s1 s2
  have hs1 : Within R s s1 := (h.withPowerRcHzStored hp.mono)
  have hs2 : Within R s s2 := hs1.bookWrite
  exact (hs2.setMode hp.mono)

theorem Within.pwrEnter {c : Cmd} {rcHz : ℕ} (h : Within R s t) (hp : R.Allows pwrEnterPieces)
    (hk : R.OpenAt [F.CAL_STATE_HANDLE, F.CAL_STATE_TARGETS, F.HSL_REF_STATUS_A_HOLDOVER, F.HSL_REF_STATUS_A_LOCK,
    F.HSL_REF_STATUS_A_REF, F.HSL_REF_STATUS_B_HOLDOVER, F.HSL_REF_STATUS_B_LOCK, F.HSL_REF_STATUS_B_REF,
    F.HSL_REF_STATUS_HFCKO0_ON, F.HSL_REF_STATUS_HFCKO1_ON, F.LOOP_ENGINE_STATUS_FALLBACK, F.PWR_STATE_THERMAL_DARK] 0)
    (hk32 : R.Opens [F.BDAC_CEIL_c_CEIL_HIT, F.BDAC_STATUS_c_APPLIED, F.BDAC_STATUS_c_HOLDING] 32)
    (hk24 : R.Opens ([F.SNS_ENV_n_ENV, F.SNS_ENV_n_NOT_SETTLED, F.SNS_PEAK_n_MAX, F.SNS_PEAK_n_MIN, F.SNS_RMS_n_NOT_SETTLED,
    F.SNS_RMS_n_RMS] ++ lockinFields ++ senseFields) 24) (hk8 : R.Opens ([F.ASD_LEVEL_REF, F.ASD_STATUS_RX_BUSY,
    F.ASD_STATUS_RX_LOAD, F.ASD_STATUS_TX_BUSY, F.ASD_STATUS_TX_LOAD, F.ASD_STATUS_UP, F.ASD_TABLE_RX_k_TABLE,
    F.ASD_TABLE_TX_k_TABLE, F.LEQ_XA_GATHER_STATE, F.LRX_CTLE_STATUS_CODE, F.LRX_CTLE_STATUS_METRIC, F.LRX_SLICE_STATUS_NOSPARE,
    F.LRX_SLICE_STATUS_SWAP_COUNT, F.LRX_SLICE_STATUS_UNDERSTUDY, F.LRX_SLICE_STATUS_WINGS, F.LRX_SPOT_STATUS_STATE,
    F.LRX_STATUS_CTLE_SEARCH, F.LRX_STATUS_LOL, F.LRX_STATUS_LOS, F.LRX_STATUS_LOS_ENV, F.LRX_STATUS_LOS_RMS,
    F.LRX_TR_STATUS_FREQ, F.LRX_TR_STATUS_PI_CODE, F.LRX_VGA_STATUS_AT_LIMIT, F.LRX_VGA_STATUS_CODE, F.LRX_VGA_STATUS_DEFERRED,
    F.LTX_STATUS_SEALED, F.LTX_XA_STATUS_REASON, F.LTX_XA_STATUS_STATE] ++ eqTapFields ++ eqStateFields ++ sliceFailedFields ++
    lineTxFields) 8) (hk16 : R.Opens ([F.HSL_ALIGN_STATUS_LOCKED, F.HSL_SLICE_FAILED_FAILED, F.HSL_SLICE_STATUS_FAILED_32,
    F.HSL_SLICE_STATUS_NOSPARE, F.HSL_SLICE_STATUS_SWAP_COUNT, F.HSL_SLICE_STATUS_UNDERSTUDY, F.HSL_SLICE_STATUS_WINGS,
    F.HSL_STATUS_CTLE_CODE, F.HSL_STATUS_LOL, F.HSL_STATUS_LOS, F.HSL_STATUS_PI_CODE, F.HSL_STATUS_TRAINED,
    F.HSL_STATUS_TRAINING, F.HSL_STATUS_VGA_CODE] ++ hostEqFields ++ hostTxFields) 16)
    (hka : ∀ i, R.OpenAt ([F.PCS_ALIGN_STATUS_RX_DESKEWED, F.PCS_ALIGN_STATUS_TX_ALIGNED, F.PCS_LINK_STATUS_LOST,
    F.PCS_LINK_STATUS_PROBED, F.PCS_LINK_STATUS_REASON, F.PCS_LINK_STATUS_STATE, F.PCS_LINK_TIME_RESTARTS] ++ alignFields ++
    rmFields) i) (hcal : ∀ i, R.OpenAt calShown i) :
    Answers R s (pwrEnter c rcHz t) := by
  unfold Machine.pwrEnter
  refine Answers.withChecks h fun _ => ?_
  extract_lets +onlyGivenNames s1
  have hs1 : Within R s s1 := (h.wr hk)
  exact (Answers.ite ((hs1.intermissionBegin hp.mono hk32 hk24 (hk.mono (by decide)) hk8 hk16 hka hcal).later hp.mono)
      ((hs1.darkEntry hp.mono).done))

theorem Within.pwrExit (h : Within R s t) (hp : R.Allows [.mgmt .inProgress, .power .mode])
    (hk : R.OpenAt [F.PWR_STATE_LAST_WAKE] 0) :
    Answers R s (pwrExit t) := by
  unfold Machine.pwrExit
  exact (Answers.withChecks h fun _ => ((h.leaveIntermission hp.mono hk).later hp.mono))

theorem Within.senseLoad (h : Within R s t) (hp : R.Allows [.cal .sets, .cal .inUse, .cal .targets])
    (hcal : ∀ i, R.OpenAt calShown i) :
    Within R s (senseLoad t) := by
  unfold Machine.senseLoad
  exact (h.foldl fun _ _ _ h4 => (h4.loadCorrections hp hcal))

theorem Within.raisePwrChange {new : ℕ} {old : ℕ} {cause : ℕ} (h : Within R s t) :
    Within R s (raisePwrChange t new old cause) := by
  unfold Machine.raisePwrChange
  exact h.raiseEvent

theorem Within.intermissionLeft (h : Within R s t) (hp : R.Allows intermissionLeftPieces)
    (hk : R.OpenAt [F.CAL_STATE_HANDLE, F.CAL_STATE_TARGETS, F.HSL_REF_STATUS_A_HOLDOVER, F.HSL_REF_STATUS_A_LOCK,
    F.HSL_REF_STATUS_A_REF, F.HSL_REF_STATUS_B_HOLDOVER, F.HSL_REF_STATUS_B_LOCK, F.HSL_REF_STATUS_B_REF,
    F.HSL_REF_STATUS_HFCKO0_ON, F.HSL_REF_STATUS_HFCKO1_ON, F.LOOP_ENGINE_STATUS_FALLBACK, F.PWR_STATE_STATE] 0)
    (hk8 : R.Opens ([F.ASD_LEVEL_REF, F.ASD_STATUS_RX_BUSY, F.ASD_STATUS_RX_LOAD, F.ASD_STATUS_TX_BUSY, F.ASD_STATUS_TX_LOAD,
    F.ASD_STATUS_UP, F.ASD_TABLE_RX_k_TABLE, F.ASD_TABLE_TX_k_TABLE, F.LEQ_XA_GATHER_STATE, F.LRX_CTLE_STATUS_CODE,
    F.LRX_CTLE_STATUS_METRIC, F.LRX_SLICE_STATUS_NOSPARE, F.LRX_SLICE_STATUS_SWAP_COUNT, F.LRX_SLICE_STATUS_UNDERSTUDY,
    F.LRX_SLICE_STATUS_WINGS, F.LRX_SPOT_STATUS_STATE, F.LRX_STATUS_CTLE_SEARCH, F.LRX_STATUS_LOL, F.LRX_STATUS_LOS,
    F.LRX_STATUS_LOS_ENV, F.LRX_STATUS_LOS_RMS, F.LRX_TR_STATUS_FREQ, F.LRX_TR_STATUS_PI_CODE, F.LRX_VGA_STATUS_AT_LIMIT,
    F.LRX_VGA_STATUS_CODE, F.LRX_VGA_STATUS_DEFERRED, F.LTX_STATUS_SEALED, F.LTX_XA_STATUS_REASON, F.LTX_XA_STATUS_STATE] ++
    eqTapFields ++ eqStateFields ++ sliceFailedFields ++ lineTxFields) 8)
    (hk16 : R.Opens ([F.HSL_ALIGN_STATUS_LOCKED, F.HSL_SLICE_FAILED_FAILED, F.HSL_SLICE_STATUS_FAILED_32,
    F.HSL_SLICE_STATUS_NOSPARE, F.HSL_SLICE_STATUS_SWAP_COUNT, F.HSL_SLICE_STATUS_UNDERSTUDY, F.HSL_SLICE_STATUS_WINGS,
    F.HSL_STATUS_CTLE_CODE, F.HSL_STATUS_LOL, F.HSL_STATUS_LOS, F.HSL_STATUS_PI_CODE, F.HSL_STATUS_TRAINED,
    F.HSL_STATUS_TRAINING, F.HSL_STATUS_VGA_CODE] ++ hostEqFields ++ hostTxFields) 16)
    (hka : ∀ i, R.OpenAt ([F.PCS_ALIGN_STATUS_RX_DESKEWED, F.PCS_ALIGN_STATUS_TX_ALIGNED, F.PCS_LINK_STATUS_LOST,
    F.PCS_LINK_STATUS_PROBED, F.PCS_LINK_STATUS_REASON, F.PCS_LINK_STATUS_STATE, F.PCS_LINK_TIME_RESTARTS] ++ alignFields ++
    rmFields) i) (hk24 : R.Opens ([F.SNS_ENV_n_ENV, F.SNS_ENV_n_NOT_SETTLED, F.SNS_PEAK_n_MAX, F.SNS_PEAK_n_MIN,
    F.SNS_RMS_n_NOT_SETTLED, F.SNS_RMS_n_RMS] ++ lockinFields ++ senseFields) 24)
    (hk32 : R.Opens [F.BDAC_CEIL_c_CEIL_HIT, F.BDAC_STATUS_c_APPLIED, F.BDAC_STATUS_c_HOLDING] 32)
    (hcal : ∀ i, R.OpenAt calShown i) :
    Within R s (intermissionLeft t) := by
  unfold Machine.intermissionLeft
  refine Within.ite ?_ ?_
  · extract_lets +onlyGivenNames _ u s1 s2 s3
    have hu : Within R s u := ((h.withTimeSysPllLocked hp.mono).setMode hp.mono)
    have hs1 : Within R s s1 := (((hu.takeRefs hp.mono (hk.mono (by decide))).pllsLock hp.mono (hk.mono (by decide))).lanesPower
        hp.mono hk8 hk16 (hk.mono (by decide)) hka hcal)
    have hs2 : Within R s s2 := ((hs1.wr hk).wr hk)
    have hs3 : Within R s s3 := (((hs2.senseLoad hp.mono hcal).foldl fun _ _ m3 h4 =>
        (h4.senseSync hp.mono (hk24.at (List.mem_range.1 m3) (by decide)))).foldl fun _ _ m7 h8 =>
        (h8.bdacRefresh hp.mono (hk32.at (List.mem_range.1 m7) (by decide))))
    exact (hs3.raisePwrChange.completeProg hp.mono)
  · exact h

theorem Within.darkSources (h : Within R s t) (hR : R.Full) :
    Within R s (darkSources t) := by
  unfold Machine.darkSources
  exact (Within.ite (Within.ite (h.darkWake hR) (Within.ite (h.darkWake hR) h)) h)

theorem Within.wakeLevel {level : Bool} (h : Within R s t) (hR : R.Full) :
    Within R s (wakeLevel level t) := by
  unfold Machine.wakeLevel
  have hp : R.Allows [.power .mode, .power .wakePin] := hR.allows
  have hw := hR.wide
  extract_lets +onlyGivenNames _ s'
  have hs' : Within R s s' := (h.withPowerWakePin hp.mono)
  refine Within.ite ?_ ?_
  · exact hs'
  · split
    · exact (Within.ite (hs'.leaveIntermission hp.mono hw.openAt) hs')
    · exact (hs'.darkSources hR)

theorem Within.darkAbort {back : ℕ} (h : Within R s t) (hp : R.Allows [.power .mode, .power .stored])
    (hk : R.OpenAt [F.PWR_STATE_ENTERING, F.PWR_STATE_LAST_WAKE] 0) :
    Within R s (darkAbort t back) := by
  unfold Machine.darkAbort
  extract_lets +onlyGivenNames s1 _ s2
  have hs1 : Within R s s1 := ((h.setMode hp.mono).wr hk)
  have hs2 : Within R s s2 := ((hs1.withPowerStored hp.mono).raiseEvent)
  exact (Within.ite hs2 (hs2.leaveIntermission hp.mono (hk.mono (by decide))))

theorem Within.darkLoss (h : Within R s t) (hR : R.Full) :
    Within R s (darkLoss t) := by
  unfold Machine.darkLoss
  extract_lets +onlyGivenNames t'
  have ht' : Within R s t' := h.retReset hR
  clear_value t'
  exact ht'.anything hR rfl id (.rfl' _)

theorem Within.darkStep {rcHz : ℕ} (h : Within R s t) (hR : R.Full) :
    Within R s (darkStep rcHz t) := by
  unfold Machine.darkStep
  have hp : R.Allows [.power .mode, .power .latchedCfg, .power .latchedTimer, .power .rcHz, .power .stored, .power .pwrEn] :=
      hR.allows
  have hw := hR.wide
  split
  · extract_lets +onlyGivenNames go
    refine Within.ite ?_ ?_
    · exact ((h.wrWide hw).setMode hp.mono)
    · refine Within.ite ?_ ?_
      · exact ((h.withPowerLatchedCfgLatchedTimer hp.mono).setMode hp.mono)
      · refine Within.ite ?_ ?_
        · exact (Within.ite h (h.setMode hp.mono))
        · refine Within.ite ?_ ?_
          · exact (Within.ite (h.darkAbort hp.mono hw.openAt) ((h.withPowerPwrEn hp.mono).setMode hp.mono))
          · refine Within.ite ?_ ?_
            · exact (h.setMode hp.mono)
            · extract_lets +onlyGivenNames _ s1
              have hs1 : Within R s s1 := (Within.ite (h.withPowerRcHzStored hp.mono) h)
              exact ((hs1.darkLoss hR).darkSources hR)
  · exact h

theorem Within.rcTimerExpiry (h : Within R s t) (hR : R.Full) :
    Within R s (rcTimerExpiry t) := by
  unfold Machine.rcTimerExpiry
  have hp : R.Allows [.power .timerDue] := hR.allows
  exact (Within.ite ((h.withPowerTimerDue hp).darkSources hR) h)

theorem Within.checkerFails {f : CheckerFail} (h : Within R s t) (hp : R.Allows [.power .mode])
    (hk : R.OpenAt [F.MEM_BIST_STATUS_CASE, F.MEM_BIST_STATUS_MACRO, F.MEM_BIST_STATUS_TRIPLET] 0) :
    Within R s (checkerFails t f) := by
  unfold Machine.checkerFails
  extract_lets +onlyGivenNames _ s1
  have hs1 : Within R s s1 := (h.withPowerMode hp)
  split
  · exact ((hs1.wr hk).wr hk)
  · exact ((hs1.wr hk).wr hk)
  · exact hs1

theorem Within.writeBoot {active : Fin 2} {pending : Option (Fin 2)} {trial : Bool} (h : Within R s t)
    (hp : R.Allows [.sec .boot]) :
    Within R s (writeBoot t active pending trial) := by
  unfold Machine.writeBoot
  exact (h.withSecBoot hp)

theorem Within.trialFails {timeout : Bool} (h : Within R s t) (hp : R.Allows
    [.sec .boot, .sec .trialAt, .sec .reverted, .sec .migration]) :
    Within R s (trialFails t timeout) := by
  unfold Machine.trialFails
  extract_lets +onlyGivenNames s1
  have hs1 : Within R s s1 := (h.writeBoot hp.mono)
  exact (hs1.withSecTrialAtRevertedMigration hp.mono)

theorem Within.bootChoice (h : Within R s t) (hp : R.Allows [.sec .boot, .sec .activate, .sec .trialAt, .sec .reverted,
    .sec .migration]) :
    Within R s (bootChoice t).1 := by
  unfold Machine.bootChoice
  extract_lets +onlyGivenNames r _ s1
  have hs1 : Within R s s1 := h.withSecActivateTrialAt hp.mono
  refine .ite_fst ?_ hs1
  split
  · exact hs1.withSecTrialAt hp.mono
  · exact hs1.trialFails hp.mono

theorem Within.bootSlot {k : Fin 2} (h : Within R s t) (hp : R.Allows [.faults .watchdogAt, .sec .running]) :
    Within R s (bootSlot t k) := by
  unfold Machine.bootSlot
  exact (h.withFaultsWatchdogAtSecRunning hp)

theorem Within.enterRecovery (h : Within R s t) (hp : R.Allows [.sec .recovery]) (hk : R.OpenAt [F.RING_STATUS_RESTARTING] 0) :
    Within R s (enterRecovery t) := by
  unfold Machine.enterRecovery
  exact ((h.withSecRecovery hp).wr hk)

theorem Within.bootRom {v : BootReads} (h : Within R s t) (hp : R.Allows
    [.faults .watchdogAt, .sec .boot, .sec .running, .sec .recovery, .sec .activate, .sec .trialAt, .sec .reverted,
    .sec .migration]) (hk : R.OpenAt [F.RING_STATUS_RESTARTING, F.SEC_FW_STATUS_BOOT_FAIL] 0) :
    Within R s (bootRom t v) := by
  unfold Machine.bootRom
  extract_lets +onlyGivenNames _ s0 r k f1
  have hs0 : Within R s s0 := ((h.withSecRunningRecovery hp.mono).wr hk)
  have hr : Within R s r.1 := (hs0.bootChoice hp.mono)
  refine Within.ite ?_ ?_
  · exact (hr.bootSlot hp.mono)
  · extract_lets +onlyGivenNames s1
    have hs1 : Within R s s1 := (hr.wr hk)
    exact (Within.ite (Within.ite (hs1.bootSlot hp.mono) ((hs1.wr hk).enterRecovery hp.mono (hk.mono (by decide))))
        (hs1.enterRecovery hp.mono (hk.mono (by decide))))

theorem Within.channelsLoad (h : Within R s t) (hp : R.Allows [.cal .sets, .cal .inUse, .cal .targets])
    (hcal : ∀ i, R.OpenAt calShown i) :
    Within R s (channelsLoad t) := by
  unfold Machine.channelsLoad
  exact ((h.foldl fun _ _ _ h4 => (h4.loadCorrections hp hcal)).senseLoad hp hcal)

theorem Within.scrubsStart (h : Within R s t) :
    Within R s (scrubsStart t) := by
  unfold Machine.scrubsStart
  exact h.withMemBanks

theorem Within.otpPolicy (h : Within R s t) (hk : R.OpenAt [F.SEC_ALARM_CFG_AUTH_FAIL, F.SEC_ALARM_CFG_CGLITCH,
    F.SEC_ALARM_CFG_DEBUG, F.SEC_ALARM_CFG_TEMP, F.SEC_ALARM_CFG_VGLITCH] 0) :
    Within R s (otpPolicy t) := by
  unfold Machine.otpPolicy
  exact (((((h.wr hk).wr hk).wr hk).wr hk).wr hk)

theorem Within.startUp (h : Within R s t) (hp : R.Allows [.time .sysPllLocked, .time .crystalRuns, .time .linePll,
    .time .hostPll, .cal .sets, .cal .inUse, .cal .targets, .power .mode])
    (hk : R.OpenAt ([F.HSL_REF_STATUS_A_LOCK, F.HSL_REF_STATUS_B_LOCK, F.HSL_REF_STATUS_HFCKO0_ON, F.HSL_REF_STATUS_HFCKO1_ON,
    F.MEM_BIST_STATUS_PASS, F.SEC_ALARM_CFG_AUTH_FAIL, F.SEC_ALARM_CFG_CGLITCH, F.SEC_ALARM_CFG_DEBUG, F.SEC_ALARM_CFG_TEMP,
    F.SEC_ALARM_CFG_VGLITCH] ++ poolFields) 0) (hcal : ∀ i, R.OpenAt calShown i) :
    Within R s (startUp t) := by
  unfold Machine.startUp
  extract_lets +onlyGivenNames _ _ s1
  have hs1 : Within R s s1 := (h.withTimeSysPllLockedCrystalRunsPowerMode hp.mono)
  exact ((((((hs1.otpPolicy (hk.mono (by decide))).wr hk).pllsLock hp.mono (hk.mono (by decide))).poolShow
      (hk.mono (by decide))).scrubsStart).channelsLoad hp.mono hcal)

theorem Within.clocksAdvance {count : ℕ} {rc2 : ℕ} (h : Within R s t) (hp : R.Allows
    [.time .hc, .time .estimated, .time .held, .power .stored]) (hk : R.OpenAt
    [F.CUE_HC_UNCERT_UNCERT, F.CUE_SC_STATE_HC_ESTIMATED] 0) :
    Within R s (clocksAdvance t count rc2) := by
  unfold Machine.clocksAdvance
  extract_lets +onlyGivenNames ns uncert held _ _ s1 s2 ms
  have hs1 : Within R s s1 := (h.withTimeHcEstimatedHeldPowerStored hp)
  have hs2 : Within R s s2 := ((hs1.wr hk).wr hk)
  exact hs2.bookWrite.raiseEvent

theorem Within.wakeFromDark {count : ℕ} {rc2 : ℕ} {checker : Option CheckerFail} {boot : BootReads} (h : Within R s t)
    (hp : R.Allows wakeFromDarkPieces) (hk : R.OpenAt ([F.AVS_STATUS_TARGET, F.CUE_HC_UNCERT_UNCERT, F.CUE_SC_STATE_HC_ESTIMATED,
    F.HSL_REF_STATUS_A_LOCK, F.HSL_REF_STATUS_B_LOCK, F.HSL_REF_STATUS_HFCKO0_ON, F.HSL_REF_STATUS_HFCKO1_ON,
    F.MEM_BIST_STATUS_CASE, F.MEM_BIST_STATUS_MACRO, F.MEM_BIST_STATUS_PASS, F.MEM_BIST_STATUS_TRIPLET, F.RING_STATUS_RESTARTING,
    F.SEC_ALARM_CFG_AUTH_FAIL, F.SEC_ALARM_CFG_CGLITCH, F.SEC_ALARM_CFG_DEBUG, F.SEC_ALARM_CFG_TEMP, F.SEC_ALARM_CFG_VGLITCH,
    F.SEC_FW_STATUS_BOOT_FAIL] ++ poolFields) 0) (hcal : ∀ i, R.OpenAt calShown i) :
    Within R s (wakeFromDark count rc2 checker boot t) := by
  unfold Machine.wakeFromDark
  refine Within.ite ?_ ?_
  · extract_lets +onlyGivenNames _ s0
    have hs0 : Within R s s0 := (h.withTimeCrystalRuns hp.mono)
    clear_value s0
    split
    · exact ((hs0.wr hk).checkerFails hp.mono (hk.mono (by decide)))
    · extract_lets +onlyGivenNames s1 _ s2
      have hs1 : Within R s s1 := (((hs0.wr hk).startUp hp.mono (hk.mono (by decide)) hcal).bootRom hp.mono (hk.mono (by decide)))
      clear_value s1
      have hs2 : Within R s s2 := (hs1.withPowerAnnounce hp.mono)
      clear_value s2
      exact (Within.ite (hs2.clocksAdvance hp.mono (hk.mono (by decide))) hs2)
  · exact h

theorem Within.thermalWarn (h : Within R s t) (hk : R.OpenAt [F.THERM_STATUS_WARN] 0) :
    Within R s (thermalWarn t) := by
  unfold Machine.thermalWarn
  extract_lets +onlyGivenNames warn hot raise
  exact (Within.ite ((h.wr hk).raiseEvent) (Within.ite ((h.wr hk).raiseEvent) h))

theorem Within.jtagFollow (h : Within R s t) (hp : R.Allows [.test .jtagIr]) :
    Within R s (jtagFollow t) := by
  unfold Machine.jtagFollow
  exact (h.withTestJtagIr hp)

theorem Within.alarmLock (h : Within R s t) (hp : R.Allows [.test .jtagIr, .sec .locked, .sec .lockClosed, .sec .update,
    .sec .ops]) :
    Within R s (alarmLock t) := by
  unfold Machine.alarmLock
  exact ((h.withSecLockedLockClosedUpdateOps hp.mono).jtagFollow hp.mono)

theorem Within.lockOps (h : Within R s t) (hp : R.Allows [.mgmt .inProgress]) :
    Within R s (lockOps t) := by
  unfold Machine.lockOps
  refine h.foldl fun u1 x2 m3 h4 => ?_
  split
  · exact (h4.completeProg hp)
  · exact (h4.completeProg hp)
  · exact (h4.completeProg hp)
  · exact h4

theorem Within.authChange {opened : Bool} (h : Within R s t) :
    Within R s (authChange t opened) := by
  unfold Machine.authChange
  exact h.raiseEvent

theorem Within.endSession (h : Within R s t) (hp : R.Allows [.sec .session]) :
    Within R s (endSession t) := by
  unfold Machine.endSession
  exact (Within.ite ((h.withSecSession hp).authChange) h)

theorem Within.clearKeys (h : Within R s t) (hp : R.Allows [.aside .keys]) :
    Within R s (clearKeys t) := by
  unfold Machine.clearKeys
  exact (h.withAsideKeys hp)

theorem Within.alarmZeroize (h : Within R s t) (hp : R.Allows [.aside .keys, .sec .session, .sec .zeroized]) :
    Within R s (alarmZeroize t) := by
  unfold Machine.alarmZeroize
  exact (((h.withSecZeroized hp.mono).clearKeys hp.mono).endSession hp.mono)

theorem Within.alarmScorch (h : Within R s t) (hp : R.Allows [.sec .otp]) :
    Within R s (alarmScorch t) := by
  exact h.burn hp.mono ⟨le_rfl, le_rfl, fun _ => rfl, fun _ hk => hk, fun _ hk => hk, fun _ ho => ho, fun _ ho => ho⟩

theorem Within.raiseAlarm {source : ℕ} (h : Within R s t) (hp : R.Allows
    [.aside .keys, .mgmt .inProgress, .test .jtagIr, .sec .otp, .sec .session, .sec .locked, .sec .zeroized, .sec .pulse,
    .sec .lockClosed, .sec .update, .sec .ops]) (hk : R.OpenAt [F.SEC_ALARM_STATUS_IN_FORCE, F.SEC_ALARM_STATUS_SOURCES] 0) :
    Within R s (raiseAlarm t source) := by
  unfold Machine.raiseAlarm
  extract_lets +onlyGivenNames act s1 s2 s3 _ s4 s5 s6
  have hs1 : Within R s s1 := (h.wr hk)
  have hs2 : Within R s s2 := (hs1.wr hk)
  have hs3 : Within R s s3 := hs2.raiseEvent.curtain
  have hs4 : Within R s s4 := (hs3.withSecPulse hp.mono)
  have hs5 : Within R s s5 := (Within.ite ((hs4.lockOps hp.mono).alarmLock hp.mono) hs4)
  have hs6 : Within R s s6 := (Within.ite (hs5.alarmZeroize hp.mono) hs5)
  exact (Within.ite (hs6.alarmScorch hp.mono) hs6)

theorem Within.tripFrom (h : Within R s t) (hp : R.Allows [.power .mode]) :
    Within R s (tripFrom t) := by
  unfold Machine.tripFrom
  split
  · exact (Within.ite (h.setMode hp) h)
  · exact h

theorem Within.thermalTrip {k : ℕ} {t' : ℤ} (h : Within R s t) (hp : R.Allows thermalTripPieces)
    (hk8 : R.Opens ([F.ASD_LEVEL_REF, F.ASD_STATUS_RX_BUSY, F.ASD_STATUS_RX_LOAD, F.ASD_STATUS_TX_BUSY, F.ASD_STATUS_TX_LOAD,
    F.ASD_STATUS_UP, F.ASD_TABLE_RX_k_TABLE, F.ASD_TABLE_TX_k_TABLE, F.LEQ_XA_GATHER_STATE, F.LRX_CTLE_STATUS_CODE,
    F.LRX_CTLE_STATUS_METRIC, F.LRX_SLICE_STATUS_NOSPARE, F.LRX_SLICE_STATUS_SWAP_COUNT, F.LRX_SLICE_STATUS_UNDERSTUDY,
    F.LRX_SLICE_STATUS_WINGS, F.LRX_SPOT_STATUS_STATE, F.LRX_STATUS_CTLE_SEARCH, F.LRX_STATUS_LOL, F.LRX_STATUS_LOS,
    F.LRX_STATUS_LOS_ENV, F.LRX_STATUS_LOS_RMS, F.LRX_TR_STATUS_FREQ, F.LRX_TR_STATUS_PI_CODE, F.LRX_VGA_STATUS_AT_LIMIT,
    F.LRX_VGA_STATUS_CODE, F.LRX_VGA_STATUS_DEFERRED, F.LTX_STATUS_SEALED, F.LTX_XA_STATUS_REASON, F.LTX_XA_STATUS_STATE] ++
    eqTapFields ++ eqStateFields ++ sliceFailedFields ++ lineTxFields) 8)
    (hk16 : R.Opens ([F.HSL_ALIGN_STATUS_LOCKED, F.HSL_SLICE_FAILED_FAILED, F.HSL_SLICE_STATUS_FAILED_32,
    F.HSL_SLICE_STATUS_NOSPARE, F.HSL_SLICE_STATUS_SWAP_COUNT, F.HSL_SLICE_STATUS_UNDERSTUDY, F.HSL_SLICE_STATUS_WINGS,
    F.HSL_STATUS_CTLE_CODE, F.HSL_STATUS_LOL, F.HSL_STATUS_LOS, F.HSL_STATUS_PI_CODE, F.HSL_STATUS_TRAINED,
    F.HSL_STATUS_TRAINING, F.HSL_STATUS_VGA_CODE] ++ hostEqFields ++ hostTxFields) 16)
    (hk : R.OpenAt [F.CAL_STATE_HANDLE, F.CAL_STATE_TARGETS, F.HSL_REF_STATUS_A_HOLDOVER, F.HSL_REF_STATUS_A_LOCK,
    F.HSL_REF_STATUS_A_REF, F.HSL_REF_STATUS_B_HOLDOVER, F.HSL_REF_STATUS_B_LOCK, F.HSL_REF_STATUS_B_REF,
    F.HSL_REF_STATUS_HFCKO0_ON, F.HSL_REF_STATUS_HFCKO1_ON, F.PWR_STATE_THERMAL_DARK, F.TST_FENCED_HOST, F.TST_FENCED_LINE,
    F.TST_FENCED_PORTS, F.TST_STATUS_CAUSE, F.TST_STATUS_RESULT, F.TST_STATUS_RUNNING] 0)
    (hka : ∀ i, R.OpenAt ([F.BDAC_CEIL_c_CEIL_HIT, F.BDAC_STATUS_c_APPLIED, F.BDAC_STATUS_c_HOLDING, F.BDAC_STATUS_c_STATE,
    F.LOOP_STATUS_STATE, F.PCS_ALIGN_STATUS_RX_DESKEWED, F.PCS_ALIGN_STATUS_TX_ALIGNED, F.PCS_LINK_STATUS_LOST,
    F.PCS_LINK_STATUS_PROBED, F.PCS_LINK_STATUS_REASON, F.PCS_LINK_STATUS_STATE, F.PCS_LINK_TIME_RESTARTS, F.SNS_ENV_n_ENV,
    F.SNS_ENV_n_NOT_SETTLED, F.SNS_PEAK_n_MAX, F.SNS_PEAK_n_MIN, F.SNS_RMS_n_NOT_SETTLED, F.SNS_RMS_n_RMS] ++ alignFields ++
    rmFields ++ lockinFields ++ senseFields) i) (hcal : ∀ i, R.OpenAt calShown i) (hclu : R.Clusters) :
    Within R s (thermalTrip t k t') := by
  unfold Machine.thermalTrip
  extract_lets +onlyGivenNames s1 s2
  have hs1 : Within R s s1 := h.raiseEvent.curtain
  have hs2 : Within R s s2 := (((hs1.testsStop hp.mono hk8 hk16 (hk.mono (by decide)) hka hcal hclu).tripFrom hp.mono).regionsOff
      hp.mono (hk.mono (by decide)) hk8 hk16 (fun i => (hka i).mono (by decide)) hcal)
  exact ((hs2.withPowerTripWait hp.mono).wr hk)

theorem Within.thermalUp {readings : Vector (BitVec 16) 12} (h : Within R s t) (hp : R.Allows thermalUpPieces)
    (hk12 : R.Opens [F.THERM_TEMP_s_TEMP] 12) (hk : R.OpenAt [F.CAL_STATE_HANDLE, F.CAL_STATE_TARGETS,
    F.HSL_REF_STATUS_A_HOLDOVER, F.HSL_REF_STATUS_A_LOCK, F.HSL_REF_STATUS_A_REF, F.HSL_REF_STATUS_B_HOLDOVER,
    F.HSL_REF_STATUS_B_LOCK, F.HSL_REF_STATUS_B_REF, F.HSL_REF_STATUS_HFCKO0_ON, F.HSL_REF_STATUS_HFCKO1_ON,
    F.PWR_STATE_THERMAL_DARK, F.SEC_ALARM_STATUS_IN_FORCE, F.SEC_ALARM_STATUS_SOURCES, F.THERM_STATUS_HOTTEST,
    F.THERM_STATUS_MAX, F.THERM_STATUS_WARN, F.TST_FENCED_HOST, F.TST_FENCED_LINE, F.TST_FENCED_PORTS, F.TST_STATUS_CAUSE,
    F.TST_STATUS_RESULT, F.TST_STATUS_RUNNING] 0) (hk8 : R.Opens ([F.ASD_LEVEL_REF, F.ASD_STATUS_RX_BUSY, F.ASD_STATUS_RX_LOAD,
    F.ASD_STATUS_TX_BUSY, F.ASD_STATUS_TX_LOAD, F.ASD_STATUS_UP, F.ASD_TABLE_RX_k_TABLE, F.ASD_TABLE_TX_k_TABLE,
    F.LEQ_XA_GATHER_STATE, F.LRX_CTLE_STATUS_CODE, F.LRX_CTLE_STATUS_METRIC, F.LRX_SLICE_STATUS_NOSPARE,
    F.LRX_SLICE_STATUS_SWAP_COUNT, F.LRX_SLICE_STATUS_UNDERSTUDY, F.LRX_SLICE_STATUS_WINGS, F.LRX_SPOT_STATUS_STATE,
    F.LRX_STATUS_CTLE_SEARCH, F.LRX_STATUS_LOL, F.LRX_STATUS_LOS, F.LRX_STATUS_LOS_ENV, F.LRX_STATUS_LOS_RMS,
    F.LRX_TR_STATUS_FREQ, F.LRX_TR_STATUS_PI_CODE, F.LRX_VGA_STATUS_AT_LIMIT, F.LRX_VGA_STATUS_CODE, F.LRX_VGA_STATUS_DEFERRED,
    F.LTX_STATUS_SEALED, F.LTX_XA_STATUS_REASON, F.LTX_XA_STATUS_STATE] ++ eqTapFields ++ eqStateFields ++ sliceFailedFields ++
    lineTxFields) 8) (hk16 : R.Opens ([F.HSL_ALIGN_STATUS_LOCKED, F.HSL_SLICE_FAILED_FAILED, F.HSL_SLICE_STATUS_FAILED_32,
    F.HSL_SLICE_STATUS_NOSPARE, F.HSL_SLICE_STATUS_SWAP_COUNT, F.HSL_SLICE_STATUS_UNDERSTUDY, F.HSL_SLICE_STATUS_WINGS,
    F.HSL_STATUS_CTLE_CODE, F.HSL_STATUS_LOL, F.HSL_STATUS_LOS, F.HSL_STATUS_PI_CODE, F.HSL_STATUS_TRAINED,
    F.HSL_STATUS_TRAINING, F.HSL_STATUS_VGA_CODE] ++ hostEqFields ++ hostTxFields) 16)
    (hka : ∀ i, R.OpenAt ([F.BDAC_CEIL_c_CEIL_HIT, F.BDAC_STATUS_c_APPLIED, F.BDAC_STATUS_c_HOLDING, F.BDAC_STATUS_c_STATE,
    F.LOOP_STATUS_STATE, F.PCS_ALIGN_STATUS_RX_DESKEWED, F.PCS_ALIGN_STATUS_TX_ALIGNED, F.PCS_LINK_STATUS_LOST,
    F.PCS_LINK_STATUS_PROBED, F.PCS_LINK_STATUS_REASON, F.PCS_LINK_STATUS_STATE, F.PCS_LINK_TIME_RESTARTS, F.SNS_ENV_n_ENV,
    F.SNS_ENV_n_NOT_SETTLED, F.SNS_PEAK_n_MAX, F.SNS_PEAK_n_MIN, F.SNS_RMS_n_NOT_SETTLED, F.SNS_RMS_n_RMS] ++ alignFields ++
    rmFields ++ lockinFields ++ senseFields) i) (hcal : ∀ i, R.OpenAt calShown i) (hclu : R.Clusters) :
    Within R s (thermalUp readings t) := by
  unfold Machine.thermalUp
  extract_lets +onlyGivenNames was s1 hot s2 _ s3 s4 s5
  have hs1 : Within R s s1 := (h.foldl fun _ _ m3 h4 => (h4.wr (hk12 _ (List.mem_range.1 m3))))
  clear_value s1
  have hs2 : Within R s s2 := ((hs1.wrI hk).wr hk)
  clear_value s2
  have hs3 : Within R s s3 := (hs2.withPowerColdCompTripRun hp.mono)
  clear_value s3
  have hs4 : Within R s s4 := (hs3.thermalWarn (hk.mono (by decide)))
  clear_value s4
  have hs5 : Within R s s5 := (Within.ite (hs4.raiseAlarm hp.mono (hk.mono (by decide))) hs4)
  clear_value s5
  split
  · exact ((hs5.withPowerTripRun hp.mono).thermalTrip hp.mono hk8 hk16 (hk.mono (by decide)) hka hcal hclu)
  · exact hs5

theorem Within.thermalDark {reading : BitVec 16} (h : Within R s t) (hR : R.Full) :
    Within R s (thermalDark reading t) := by
  unfold Machine.thermalDark
  have hp : R.Allows [.aside .keys, .mgmt .inProgress, .power .tripWait, .test .jtagIr, .sec .otp, .sec .session, .sec .locked,
      .sec .zeroized, .sec .pulse, .sec .lockClosed, .sec .update, .sec .ops] := hR.allows
  have hw := hR.wide
  extract_lets +onlyGivenNames was s1 s2
  have hs1 : Within R s s1 := (h.wrWide hw)
  have hs2 : Within R s s2 := (Within.ite (hs1.raiseAlarm hp.mono hw.openAt) hs1)
  exact (Within.ite ((hs2.withPowerTripWait hp.mono).darkSources hR) hs2)

theorem Within.thermalReading {readings : Vector (BitVec 16) 12} (h : Within R s t) (hR : R.Full) :
    Within R s (thermalReading readings t) := by
  unfold Machine.thermalReading
  have hp : R.Allows thermalUpPieces := hR.allows
  have hw := hR.wide
  exact (Within.ite (h.thermalUp hp hw.opens hw.openAt hw.opens hw.opens hw.any hw.cal hw.clusters)
      (Within.ite (h.thermalDark hR) h))

theorem Within.avsFault {noResponse : Bool} (h : Within R s t) (hk : R.OpenAt [F.AVS_STATUS_FAULT] 0) :
    Within R s (avsFault t noResponse) := by
  unfold Machine.avsFault
  exact (Within.ite h ((h.wr hk).raiseEvent))

theorem Within.avsReadback {answer : Option (BitVec 10 × BitVec 16)} (h : Within R s t) (hp : R.Allows [.power .avsMisses])
    (hk : R.OpenAt [F.AVS_CURRENT_CURRENT, F.AVS_STATUS_FAULT, F.AVS_STATUS_READBACK] 0) :
    Within R s (avsReadback answer t) := by
  unfold Machine.avsReadback
  refine Within.ite ?_ ?_
  · split
    · exact (h.avsFault (hk.mono (by decide)))
    · extract_lets +onlyGivenNames s1 target off n _ s2
      have hs1 : Within R s s1 := ((h.wr hk).wr hk)
      have hs2 : Within R s s2 := (hs1.withPowerAvsMisses hp)
      exact (Within.ite (hs2.avsFault (hk.mono (by decide))) hs2)
  · exact h

theorem Within.avsSlewStep (h : Within R s t) (hp : R.Allows [.power .avsLastStep]) (hk : R.OpenAt [F.AVS_STATUS_TARGET] 0) :
    Within R s (avsSlewStep t) := by
  unfold Machine.avsSlewStep
  exact (Within.ite ((h.withPowerAvsLastStep hp).wr hk) h)

theorem Within.resetDue {kind : ℕ} {rail : ℕ} (h : Within R s t) (hp : R.Allows [.power .dueReset]) :
    Within R s (resetDue kind rail t) := by
  unfold Machine.resetDue
  split
  · exact (Within.ite h (h.withPowerDueReset hp))
  · exact (h.withPowerDueReset hp)

theorem Within.powerOnReset {rail : Option (Fin 2)} (h : Within R s t) (hR : R.Full) :
    Within R s (powerOnReset rail t) := by
  unfold Machine.powerOnReset
  have hp : R.Allows [.power .dueReset] := hR.allows
  split
  · exact (h.resetDue hp)
  · exact (h.porReset hR)

theorem Within.deepReset {kind : ℕ} {rail : ℕ} (h : Within R s t) (hR : R.Full) :
    Within R s (deepReset kind rail t) := by
  unfold Machine.deepReset
  have hp : R.Allows [.power .dueReset] := hR.allows
  have hw := hR.wide
  split
  · exact (h.resetDue hp)
  · exact (Within.ite h (h.rstCause hw.openAt))
  · exact ((h.retReset hR).rstCause hw.openAt)

theorem Within.resetRecord {kind : ℕ} {l : ℕ} (h : Within R s t) :
    Within R s (resetRecord t kind l) := by
  unfold Machine.resetRecord
  exact h.bookWrite

theorem Within.resetRelease {straps : BitVec 3} {checker : Option CheckerFail} {boot : BootReads} (h : Within R s t)
    (hp : R.Allows resetReleasePieces) (hk : R.OpenAt ([F.HSL_REF_STATUS_A_LOCK, F.HSL_REF_STATUS_B_LOCK,
    F.HSL_REF_STATUS_HFCKO0_ON, F.HSL_REF_STATUS_HFCKO1_ON, F.MEM_BIST_STATUS_CASE, F.MEM_BIST_STATUS_MACRO,
    F.MEM_BIST_STATUS_PASS, F.MEM_BIST_STATUS_TRIPLET, F.RING_STATUS_RESTARTING, F.SEC_ALARM_CFG_AUTH_FAIL,
    F.SEC_ALARM_CFG_CGLITCH, F.SEC_ALARM_CFG_DEBUG, F.SEC_ALARM_CFG_TEMP, F.SEC_ALARM_CFG_VGLITCH, F.SEC_FW_STATUS_BOOT_FAIL] ++
    poolFields) 0) (hcal : ∀ i, R.OpenAt calShown i) :
    Within R s (resetRelease straps checker boot t) := by
  unfold Machine.resetRelease
  split
  · extract_lets +onlyGivenNames _ _ _ s1
    have hs1 : Within R s s1 := (h.withTimeCrystalRunsMgmtStrapsPowerPwrEn hp.mono)
    split
    · exact (hs1.checkerFails hp.mono (hk.mono (by decide)))
    · exact (((Within.ite hs1 hs1.resetRecord).startUp hp.mono (hk.mono (by decide)) hcal).bootRom hp.mono (hk.mono (by decide)))
  · exact h

theorem Within.rstWarm (h : Within R s t) (hp : R.Allows [.mgmt .restartCause, .power .warmPending]) :
    Answers R s (rstWarm t) := by
  unfold Machine.rstWarm
  exact (Answers.withChecks h fun _ => (h.withMgmtRestartCausePowerWarmPending hp).done)

theorem Within.testsVoid (h : Within R s t) (hp : R.Allows [.test .rehearsal, .test .memTest, .test .dress, .test .results]) :
    Within R s (testsVoid t) := by
  unfold Machine.testsVoid
  exact (h.withTestRehearsalMemTestDressResults hp)

theorem Within.warmReset (h : Within R s t) (hR : R.Full) :
    Within R s (warmReset t) := by
  unfold Machine.warmReset
  extract_lets +onlyGivenNames s' t'
  have hs' : Within R s s' := ((h.swapsLand hR.allows hR.wide.opens hR.wide.opens).flashCut hR.allows).testsVoid hR.allows
  have ht' : Within R s' t' := (Within.rfl' R s').retReset hR
  clear_value t' s'
  refine hs'.anything hR ?_ ?_ ?_
  · exact ht'.pending
  · exact id
  · exact ht'.fuses

theorem Within.warmResetRow {boot : BootReads} (h : Within R s t) (hR : R.Full) :
    Within R s (warmResetRow boot t) := by
  unfold Machine.warmResetRow
  have hp : R.Allows [.time .linePll, .time .hostPll, .cal .sets, .cal .inUse, .cal .targets, .faults .watchdogAt, .sec .boot,
      .sec .running, .sec .recovery, .sec .activate, .sec .trialAt, .sec .reverted, .sec .migration] := hR.allows
  have hw := hR.wide
  refine Within.ite ?_ ?_
  · extract_lets +onlyGivenNames s1
    have hs1 : Within R s s1 := ((((h.warmReset hR).wrWide hw).wrWide hw).incSatWide hw)
    exact (((((hs1.resetRecord.pllsLock hp.mono hw.openAt).poolShow hw.openAt).scrubsStart).channelsLoad hp.mono hw.cal).bootRom
        hp.mono hw.openAt)
  · exact h

theorem Within.rstMgmt (h : Within R s t) (hp : R.Allows [.mgmt .restartCause]) :
    Answers R s (rstMgmt t) := by
  unfold Machine.rstMgmt
  exact (h.requestMgmt hp).done

theorem Within.reloadMgmtBanks (h : Within R s t) :
    Within R s (reloadMgmtBanks t) := by
  exact h.withMemBanks

theorem Within.mgmtRestart {boot : BootReads} (h : Within R s t) (hp : R.Allows mgmtRestartPieces)
    (hk : R.OpenAt [F.RING_STATUS_READY, F.RING_STATUS_RESTARTING, F.RST_CAUSE_MGMT_CAUSE, F.RST_COUNTS_MGMT,
    F.SEC_FW_STATUS_BOOT_FAIL] 0) (hk8 : R.Opens [F.LTX_STATUS_SEALED, F.LTX_XA_STATUS_REASON, F.LTX_XA_STATUS_STATE] 8) :
    Within R s (mgmtRestart boot t) := by
  unfold Machine.mgmtRestart
  split
  · exact h
  · refine Within.ite h ?_
    extract_lets +onlyGivenNames s1 s2 src _ _ _ s3 s4
    have hs1 : Within R s s1 := ((h.flashCut hp.mono).wr hk).incSat hk
    have hs2 : Within R s s2 := ((hs1.wr hk).wr hk).resetRecord
    clear_value s2
    have hs3 : Within R s s3 := by
      obtain ⟨v, hsrc⟩ : ∃ v, src = { s2 with mem := { s2.mem with banks := v } } := ⟨_, rfl⟩
      unfold s3
      clear_value src
      subst hsrc
      exact hs2.withMgmtRestarted hp.mono
    have hs4 : Within R s s4 :=
      hs3.foldl fun _ _ m h4 => h4.xaStop hp.mono (hk8.mono (by decide)) (hk8.at (List.mem_range.1 m) (by decide))
    clear_value s4
    exact (hs4.withLanesXaStartRevertDue hp.mono).bootRom hp.mono (hk.mono (by decide))

theorem Within.laneReinit {l : LaneId} (h : Within R s t) (hp : R.Allows
    [.lanes .lineFront, .lanes .hostFront, .lanes .lineEq, .lanes .hostEq, .lanes .gather])
    (hk8 : R.Opens ([F.LRX_CTLE_STATUS_CODE, F.LRX_CTLE_STATUS_METRIC, F.LRX_STATUS_CTLE_SEARCH, F.LRX_STATUS_LOL,
    F.LRX_TR_STATUS_FREQ, F.LRX_TR_STATUS_PI_CODE, F.LRX_VGA_STATUS_AT_LIMIT, F.LRX_VGA_STATUS_CODE, F.LRX_VGA_STATUS_DEFERRED]
    ++ eqTapFields ++ eqStateFields) 8) (hk16 : R.Opens ([F.HSL_STATUS_CTLE_CODE, F.HSL_STATUS_LOL, F.HSL_STATUS_PI_CODE,
    F.HSL_STATUS_VGA_CODE] ++ hostEqFields) 16) :
    Within R s (laneReinit t l) := by
  unfold Machine.laneReinit
  extract_lets +onlyGivenNames x _ s1 s2 s3 s4
  have hs1 : Within R s s1 := (h.setFront hp.mono)
  have hs2 : Within R s s2 := (hs1.putEq hp.mono (hk8.mono (by decide)) (hk16.mono (by decide)))
  have hs3 : Within R s s3 := (((hs2.wrLine (hk8.mono (by decide))).wrLine (hk8.mono (by decide))).wrLine (hk8.mono (by decide)))
  have hs4 : Within R s s4 := ((hs3.wrL (hk8.mono (by decide)) (hk16.mono (by decide))).ctleInit (hk8.mono (by decide))
      (hk16.mono (by decide)))
  exact ((hs4.showTiming (hk8.mono (by decide)) (hk16.mono (by decide))).setLol hp.mono (hk8.mono (by decide))
      (hk16.mono (by decide)))

theorem Within.rstPortAct {p : ℕ} (h : Within R s t) (hp : R.Allows rstPortActPieces)
    (hk : R.OpenAt ([F.PCS_ALIGN_STATUS_RX_DESKEWED, F.PCS_ALIGN_STATUS_TX_ALIGNED, F.PCS_LINK_STATUS_BACKOFF,
    F.PCS_LINK_STATUS_LOST, F.PCS_LINK_STATUS_MAP_LEARNED, F.PCS_LINK_STATUS_PROBED, F.PCS_LINK_STATUS_REASON,
    F.PCS_LINK_STATUS_STATE, F.PCS_LINK_TIME_RESTARTS, F.PCS_LINK_TIME_UP_TIME, F.PCS_RX_MAP_USE_INV, F.PCS_RX_MAP_USE_PHYS] ++
    alignFields ++ rmFields) p) (hka : ∀ i, R.OpenAt alignFields i) (hk16 : R.Opens
    ([F.HSL_ALIGN_STATUS_LOCKED, F.HSL_STATUS_CTLE_CODE, F.HSL_STATUS_LOL, F.HSL_STATUS_PI_CODE, F.HSL_STATUS_VGA_CODE] ++
    hostEqFields ++ hostTxFields) 16) (hk8 : R.Opens ([F.ASD_STATUS_AUTH_STATE, F.LRX_CTLE_STATUS_CODE, F.LRX_CTLE_STATUS_METRIC,
    F.LRX_STATUS_CTLE_SEARCH, F.LRX_STATUS_LOL, F.LRX_TR_STATUS_FREQ, F.LRX_TR_STATUS_PI_CODE, F.LRX_VGA_STATUS_AT_LIMIT,
    F.LRX_VGA_STATUS_CODE, F.LRX_VGA_STATUS_DEFERRED, F.LTX_STATUS_SEALED, F.LTX_XA_STATUS_REASON, F.LTX_XA_STATUS_STATE] ++
    eqTapFields ++ eqStateFields ++ lineTxFields) 8) :
    Within R s (rstPortAct p t) := by
  unfold Machine.rstPortAct
  extract_lets +onlyGivenNames s1 s2 s3 s4 s5 _ s6 s7 s8 s9
  have hs1 : Within R s s1 := (h.resetRecord.wr hk)
  clear_value s1
  have hs2 : Within R s s2 := (Within.ite ((hs1.enterState hp.mono hka (hk16.mono (by decide)) (hk.mono (by decide))
      (hk8.mono (by decide))).txFollowPort hp.mono (hk8.mono (by decide)) (hk16.mono (by decide)))
      (hs1.linkGo hp.mono (hk.mono (by decide)) (hk8.mono (by decide)) hka (hk16.mono (by decide))))
  clear_value s2
  have hs3 : Within R s s3 := (hs2.foldl fun _ _ _ h4 => (h4.laneReinit hp.mono (hk8.mono (by decide)) (hk16.mono (by decide))))
  clear_value s3
  have hs4 : Within R s s4 := (hs3.setLink hp.mono)
  clear_value s4
  have hs5 : Within R s s5 := ((((hs4.setPortPath hp.mono).setPortPath hp.mono).rmShow (hk.mono (by decide))).rmShow
      (hk.mono (by decide)))
  clear_value s5
  have hs6 : Within R s s6 := ((hs5.withPathSuperRxSuperTxInnerTx hp.mono).useMap hp.mono (hk.mono (by decide)) hka)
  clear_value s6
  have hs7 : Within R s s7 := ((hs6.restartClocks hp.mono).flowFlushPort hp.mono)
  clear_value s7
  have hs8 : Within R s s8 := (hs7.foldl fun _ _ m7 h8 => (h8.challengeRestart hp.mono
      (hk8.at (lt_of_mem_portLines m7) (by decide))))
  clear_value s8
  have hs9 : Within R s s9 := (hs8.cancelCues hp.mono (hk8.mono (by decide)))
  clear_value s9
  exact (Within.ite ((hs9.linkGo hp.mono (hk.mono (by decide)) (hk8.mono (by decide)) hka (hk16.mono (by decide))).linkFollow
      hp.mono hk (hk8.mono (by decide)) hka (hk16.mono (by decide))) hs9)

theorem Within.rstPort {c : Cmd} (h : Within R s t) (hp : R.Allows rstPortPieces)
    (hk : R.OpenAt ([F.PCS_ALIGN_STATUS_RX_DESKEWED, F.PCS_ALIGN_STATUS_TX_ALIGNED, F.PCS_LINK_STATUS_BACKOFF,
    F.PCS_LINK_STATUS_LOST, F.PCS_LINK_STATUS_MAP_LEARNED, F.PCS_LINK_STATUS_PROBED, F.PCS_LINK_STATUS_REASON,
    F.PCS_LINK_STATUS_STATE, F.PCS_LINK_TIME_RESTARTS, F.PCS_LINK_TIME_UP_TIME, F.PCS_RX_MAP_USE_INV, F.PCS_RX_MAP_USE_PHYS] ++
    alignFields ++ rmFields) (c.w 2)) (hka : ∀ i, R.OpenAt alignFields i)
    (hk16 : R.Opens ([F.HSL_ALIGN_STATUS_LOCKED, F.HSL_STATUS_CTLE_CODE, F.HSL_STATUS_LOL, F.HSL_STATUS_PI_CODE,
    F.HSL_STATUS_VGA_CODE] ++ hostEqFields ++ hostTxFields) 16) (hk8 : R.Opens
    ([F.ASD_STATUS_AUTH_STATE, F.LRX_CTLE_STATUS_CODE, F.LRX_CTLE_STATUS_METRIC, F.LRX_STATUS_CTLE_SEARCH, F.LRX_STATUS_LOL,
    F.LRX_TR_STATUS_FREQ, F.LRX_TR_STATUS_PI_CODE, F.LRX_VGA_STATUS_AT_LIMIT, F.LRX_VGA_STATUS_CODE, F.LRX_VGA_STATUS_DEFERRED,
    F.LTX_STATUS_SEALED, F.LTX_XA_STATUS_REASON, F.LTX_XA_STATUS_STATE] ++ eqTapFields ++ eqStateFields ++ lineTxFields) 8) :
    Answers R s (rstPort c t) := by
  unfold Machine.rstPort
  exact (Answers.withChecks h fun _ => (Answers.ite (h.later hp.mono) ((h.rstPortAct hp.mono hk hka hk16 hk8).done)))

theorem Within.authOpen {c : Cmd} (h : Within R s t) (hp : R.Allows [.sec .challenge, .free]) (hb : R.bulk) :
    Answers R s (authOpen c t) := by
  unfold Machine.authOpen
  refine Answers.withChecks h fun _ => ?_
  extract_lets +onlyGivenNames v t'
  have ht' : Within R s t' := (h.takeFree hp.mono)
  exact ((ht'.withSecChallenge hp.mono).putBytes hb).done

theorem Within.challengeExpiry (h : Within R s t) (hp : R.Allows [.sec .challenge]) :
    Within R s (challengeExpiry t) := by
  unfold Machine.challengeExpiry
  exact (Within.ite h (h.withSecChallenge hp))

theorem Within.authAccepted (h : Within R s t) (hp : R.Allows [.sec .session]) (hk : R.OpenAt [F.SEC_ALARM_STATUS_AUTH_FAILS] 0) :
    Within R s (authAccepted t) := by
  unfold Machine.authAccepted
  extract_lets +onlyGivenNames s1
  have hs1 : Within R s s1 := (h.wr hk)
  exact (Within.ite hs1 ((hs1.withSecSession hp).authChange))

theorem Within.authFails (h : Within R s t) (hp : R.Allows [.aside .keys, .mgmt .inProgress, .test .jtagIr, .sec .otp,
    .sec .session, .sec .locked, .sec .zeroized, .sec .pulse, .sec .lockClosed, .sec .update, .sec .ops])
    (hk : R.OpenAt [F.SEC_ALARM_STATUS_AUTH_FAILS, F.SEC_ALARM_STATUS_IN_FORCE, F.SEC_ALARM_STATUS_SOURCES] 0) :
    Within R s (authFails t) := by
  unfold Machine.authFails
  exact (Within.ite ((h.wr hk).raiseAlarm hp (hk.mono (by decide))) (h.inc hk))

theorem Within.authRespond {c : Cmd} (h : Within R s t) (hp : R.Allows [.aside .keys, .mgmt .inProgress, .test .jtagIr,
    .sec .otp, .sec .session, .sec .challenge, .sec .locked, .sec .zeroized, .sec .pulse, .sec .lockClosed, .sec .update,
    .sec .ops]) (hk : R.OpenAt [F.SEC_ALARM_STATUS_AUTH_FAILS, F.SEC_ALARM_STATUS_IN_FORCE, F.SEC_ALARM_STATUS_SOURCES] 0)
    (hb : R.bulk) :
    Answers R s (authRespond c t) := by
  unfold Machine.authRespond
  refine Answers.withChecks h fun _ => ?_
  obtain ⟨r, hr⟩ : ∃ r, r = Machine.eccReadAll t 8 (windowWords (windowBase + c.w 2) 196) := ⟨_, rfl⟩
  have hread : Within R s r.1 := by
    rw [hr]
    exact h.eccReadAllWindow hb
  rw [← hr]
  have hclosed : Within R s { r.1 with sec := { r.1.sec with challenge := none } } := hread.withSecChallenge hp.mono
  exact .ite (hclosed.authAccepted hp.mono (hk.mono (by decide))).done (hclosed.authFails hp.mono hk).done

theorem Within.authClose (h : Within R s t) (hp : R.Allows [.sec .session]) :
    Answers R s (authClose t) := by
  unfold Machine.authClose
  exact (Answers.withChecks h fun _ => (h.endSession hp).done)

theorem Within.lifeAdvance {target : Nat} (h : Within R s t) (hp : R.Allows
    [.aside .keys, .test .jtagIr, .sec .otp, .sec .session, .sec .fieldDiag]) (hlife : t.sec.otp.life ≤ target) :
    Within R s (lifeAdvance t target) := by
  unfold Machine.lifeAdvance
  have hs1 := (h.burn (o := { t.sec.otp with life := target }) hp.mono
    ⟨hlife, le_rfl, id, fun _ hk => hk, fun _ hk => hk, fun _ ho => ho, fun _ ho => ho⟩).withSecFieldDiag (x := false) hp.mono
  exact (((hs1.endSession hp.mono).clearKeys hp.mono).raiseEvent).jtagFollow hp.mono

theorem Within.lcAdvance {c : Cmd} (h : Within R s t) (hp : R.Allows [.aside .keys, .test .jtagIr, .sec .otp, .sec .session,
    .sec .fieldDiag]) :
    Answers R s (lcAdvance c t) := by
  unfold Machine.lcAdvance
  refine .withChecks h fun hpass => Within.done (h.lifeAdvance hp.mono (life_le_of_allowed ?_))
  have hallowed := of_firstFail_none hpass (!lifeAllowed t.sec.otp (c.w 2), stState, 0) (by simp)
  simpa using hallowed

theorem Within.lcDiagOpen (h : Within R s t) (hp : R.Allows [.sec .fieldDiag]) :
    Answers R s (lcDiagOpen t) := by
  unfold Machine.lcDiagOpen
  exact (Answers.withChecks h fun _ => (h.withSecFieldDiag hp).done)

theorem Within.otpProgram {c : Cmd} {burned : Bool} (h : Within R s t) (hp : R.Allows [.sec .otp, .free]) (hb : R.bulk) :
    Answers R s (otpProgram c burned t) := by
  unfold Machine.otpProgram
  refine .withChecks h fun hpass => ?_
  have hopen : otpProgrammed t.sec.otp (c.w 2) = false :=
    of_firstFail_none hpass (otpProgrammed t.sec.otp (c.w 2), stLocked, 0) (by simp)
  have hfetched := h.fetchWords (a := windowBase + c.w 3) (n := otpFieldBytes (c.w 2) / 4) hb
  have hsec := (fetchWords_reports t (windowBase + c.w 3) (otpFieldBytes (c.w 2) / 4)).sec
  generalize Machine.fetchWords t (windowBase + c.w 3) (otpFieldBytes (c.w 2) / 4) = r at hfetched hsec ⊢
  rw [← hsec] at hopen
  refine .ite (Within.done (hfetched.burn hp.mono (.otpBurn hopen))) (Within.done ?_)
  refine (hfetched.takeFree hp.mono).burn hp.mono ?_
  split
  · exact .otpBurn hopen
  · exact .rfl' _

theorem Within.keyRevoke {c : Cmd} (h : Within R s t) (hp : R.Allows [.sec .otp]) :
    Answers R s (keyRevoke c t) := by
  unfold Machine.keyRevoke
  refine .withChecks h fun _ => Within.done (h.burn hp.mono ?_)
  exact ⟨le_rfl, le_rfl, id, fun _ hk => hk, fun k hk => by rw [Nat.testBit_or, hk, Bool.true_or], fun _ ho => ho, fun _ ho => ho⟩

theorem Within.alarmPulseEnd (h : Within R s t) (hp : R.Allows [.sec .pulse]) :
    Within R s (alarmPulseEnd t) := by
  unfold Machine.alarmPulseEnd
  exact (Within.ite (h.withSecPulse hp) h)

theorem Within.fwCmd {body : State → State × Reply} (h : Within R s t) (hp : R.Allows [.sec .lockClosed])
    (hbody : Answers R s (body t)) : Answers R s (fwCmd body t) :=
  .ite (h.withSecLockClosed hp.mono).done hbody

theorem Within.beginHeader {c : Cmd} (h : Within R s t) (hb : R.bulk) :
    Within R s (beginHeader t c).1 := by
  unfold Machine.beginHeader
  exact (Within.ite_fst h (h.fetchWords hb))

theorem Within.addOp {o : FlashOp} (h : Within R s t) (hp : R.Allows [.sec .ops]) :
    Within R s (addOp t o) := by
  unfold Machine.addOp
  exact (h.withSecOps hp)

theorem Within.fwBegin {c : Cmd} (h : Within R s t) (hp : R.Allows [.mgmt .inProgress, .sec .images, .sec .update, .sec .ops])
    (hb : R.bulk) :
    Answers R s (fwBegin c t) := by
  unfold Machine.fwBegin
  refine Answers.withChecks h fun _ => ?_
  extract_lets +onlyGivenNames r k _ _ t'
  have hr : Within R s r.1 := (h.beginHeader hb)
  have ht' : Within R s t' := by
    unfold t'
    exact (hr.withSecImagesUpdate hp.mono)
  exact ((ht'.addOp hp.mono).later hp.mono)

theorem Within.fwChunk {c : Cmd} (h : Within R s t) (hp : R.Allows [.mgmt .inProgress, .sec .update, .sec .ops]) (hb : R.bulk) :
    Answers R s (fwChunk c t) := by
  unfold Machine.fwChunk
  refine Answers.withChecks h fun _ => ?_
  split
  · extract_lets +onlyGivenNames r bs _ _ t'
    have hr : Within R s r.1 := (h.fetchWords hb)
    have ht' : Within R s t' := by
      unfold t'
      exact (hr.withSecUpdate hp.mono)
    exact ((ht'.addOp hp.mono).later hp.mono)
  · exact h.done

theorem Within.fwCommit {misread : Bool} (h : Within R s t) (hp : R.Allows [.mgmt .inProgress, .sec .update, .sec .ops]) :
    Answers R s (fwCommit misread t) := by
  unfold Machine.fwCommit
  refine Answers.withChecks h fun _ => ?_
  split
  · exact (Answers.ite ((h.addOp hp.mono).later hp.mono) ((h.withSecUpdate hp.mono).done))
  · exact h.done

theorem Within.fwActivate (h : Within R s t) (hp : R.Allows [.mgmt .restartCause, .sec .boot, .sec .activate]) :
    Answers R s (fwActivate t) := by
  unfold Machine.fwActivate
  refine Answers.withChecks h fun _ => ?_
  extract_lets +onlyGivenNames t'
  have ht' : Within R s t' := (h.writeBoot hp.mono)
  exact ((ht'.withSecActivate hp.mono).requestMgmt hp.mono).done

theorem Within.dropOps (h : Within R s t) (hp : R.Allows [.mgmt .inProgress, .sec .ops]) :
    Within R s (dropOps t) := by
  unfold Machine.dropOps
  extract_lets +onlyGivenNames t'
  have ht' : Within R s t' := by
    unfold t'
    refine h.foldl fun u1 x2 m3 h4 => ?_
    split
    · exact (h4.completeProg hp.mono)
    · exact (h4.completeProg hp.mono)
    · exact (h4.completeProg hp.mono)
    · exact h4
  exact (ht'.withSecOps hp.mono)

theorem Within.fwAbort (h : Within R s t) (hp : R.Allows [.mgmt .inProgress, .sec .update, .sec .ops]) :
    Answers R s (fwAbort t) := by
  unfold Machine.fwAbort
  refine Answers.withChecks h fun _ => ?_
  refine Within.done ?_
  extract_lets +onlyGivenNames src
  have hsrc : Within R s src := (h.dropOps hp.mono)
  exact (hsrc.withSecUpdate hp.mono)

theorem Within.migrateDue (h : Within R s t) (hp : R.Allows [.sec .settings, .sec .cache, .sec .migration]) :
    Within R s (migrateDue t) := by
  unfold Machine.migrateDue
  split
  · exact ((h.withSecMigration hp.mono).migrate hp.mono)
  · exact h

theorem Within.burnRollback {version : ℕ} (h : Within R s t) (hp : R.Allows [.sec .otp]) :
    Within R s (burnRollback t version) := by
  unfold Machine.burnRollback
  split
  · next hlt =>
    refine Within.raiseEvent (h.burn hp.mono ⟨le_rfl, Nat.le_of_lt hlt, id, fun _ hk => hk, fun _ hk => hk, fun _ ho => ho, fun _
        ho => ho⟩)
  · exact h

theorem Within.imageHealthy (h : Within R s t) (hp : R.Allows [.sec .otp, .sec .boot, .sec .settings, .sec .cache, .sec .trialAt,
    .sec .migration]) :
    Within R s (imageHealthy t) := by
  unfold Machine.imageHealthy
  split
  · refine Within.ite ?_ ?_
    · extract_lets +onlyGivenNames h' _ s1
      have hs1 : Within R s s1 := ((h.withSecTrialAt hp.mono).writeBoot hp.mono)
      exact (((hs1.burnRollback hp.mono).migrateDue hp.mono).raiseEvent)
    · exact h
  · exact h

theorem Within.trialTimeout (h : Within R s t) (hp : R.Allows [.mgmt .restartCause, .sec .boot, .sec .trialAt, .sec .reverted,
    .sec .migration]) :
    Within R s (trialTimeout t) := by
  unfold Machine.trialTimeout
  split
  · exact (Within.ite ((h.trialFails hp.mono).requestMgmt hp.mono) h)
  · exact h

theorem Within.setSave {verified : Bool} (h : Within R s t) (hp : R.Allows [.mgmt .inProgress, .sec .ops]) :
    Answers R s (setSave verified t) := by
  unfold Machine.setSave
  exact (Answers.withChecks h fun _ => ((h.addOp hp.mono).later hp.mono))

theorem Within.testBegins {test : ℕ} {cls : ℕ} {inst : ℕ} (h : Within R s t)
    (hk : R.OpenAt [F.TST_STATUS_CAUSE, F.TST_STATUS_CLASS, F.TST_STATUS_INSTANCE, F.TST_STATUS_RESULT, F.TST_STATUS_RUNNING,
    F.TST_STATUS_TEST] 0) :
    Within R s (testBegins t test cls inst) := by
  unfold Machine.testBegins
  extract_lets +onlyGivenNames s1
  have hs1 : Within R s s1 := (((h.wr hk).wr hk).wr hk)
  exact (((hs1.wr hk).wr hk).wr hk)

theorem Within.tstRehearse {c : Cmd} (h : Within R s t) (hp : R.Allows [.mgmt .inProgress, .test .rehearsal])
    (hk : R.OpenAt [F.TST_STATUS_CAUSE, F.TST_STATUS_CLASS, F.TST_STATUS_INSTANCE, F.TST_STATUS_RESULT, F.TST_STATUS_RUNNING,
    F.TST_STATUS_TEST] 0) :
    Answers R s (tstRehearse c t) := by
  unfold Machine.tstRehearse
  exact (Answers.withChecks h fun _ => (((h.withTestRehearsal hp.mono).testBegins hk).later hp.mono))

theorem Within.tstAbort (h : Within R s t) (hp : R.Allows tstAbortPieces)
    (hk8 : R.Opens ([F.ASD_LEVEL_REF, F.ASD_STATUS_RX_BUSY, F.ASD_STATUS_RX_LOAD, F.ASD_STATUS_TX_BUSY, F.ASD_STATUS_TX_LOAD,
    F.ASD_STATUS_UP, F.ASD_TABLE_RX_k_TABLE, F.ASD_TABLE_TX_k_TABLE, F.LEQ_XA_GATHER_STATE, F.LRX_CTLE_STATUS_CODE,
    F.LRX_CTLE_STATUS_METRIC, F.LRX_SLICE_STATUS_NOSPARE, F.LRX_SLICE_STATUS_SWAP_COUNT, F.LRX_SLICE_STATUS_UNDERSTUDY,
    F.LRX_SLICE_STATUS_WINGS, F.LRX_SPOT_STATUS_STATE, F.LRX_STATUS_CTLE_SEARCH, F.LRX_STATUS_LOL, F.LRX_STATUS_LOS,
    F.LRX_STATUS_LOS_ENV, F.LRX_STATUS_LOS_RMS, F.LRX_TR_STATUS_FREQ, F.LRX_TR_STATUS_PI_CODE, F.LRX_VGA_STATUS_AT_LIMIT,
    F.LRX_VGA_STATUS_CODE, F.LRX_VGA_STATUS_DEFERRED, F.LTX_STATUS_SEALED, F.LTX_XA_STATUS_REASON, F.LTX_XA_STATUS_STATE] ++
    eqTapFields ++ eqStateFields ++ sliceFailedFields ++ lineTxFields) 8)
    (hk16 : R.Opens ([F.HSL_ALIGN_STATUS_LOCKED, F.HSL_SLICE_FAILED_FAILED, F.HSL_SLICE_STATUS_FAILED_32,
    F.HSL_SLICE_STATUS_NOSPARE, F.HSL_SLICE_STATUS_SWAP_COUNT, F.HSL_SLICE_STATUS_UNDERSTUDY, F.HSL_SLICE_STATUS_WINGS,
    F.HSL_STATUS_CTLE_CODE, F.HSL_STATUS_LOL, F.HSL_STATUS_LOS, F.HSL_STATUS_PI_CODE, F.HSL_STATUS_TRAINED,
    F.HSL_STATUS_TRAINING, F.HSL_STATUS_VGA_CODE] ++ hostEqFields ++ hostTxFields) 16)
    (hk : R.OpenAt [F.CAL_STATE_HANDLE, F.CAL_STATE_TARGETS, F.TST_FENCED_HOST, F.TST_FENCED_LINE, F.TST_FENCED_PORTS,
    F.TST_STATUS_CAUSE, F.TST_STATUS_RESULT, F.TST_STATUS_RUNNING] 0) (hka : ∀ i, R.OpenAt
    ([F.BDAC_CEIL_c_CEIL_HIT, F.BDAC_STATUS_c_APPLIED, F.BDAC_STATUS_c_HOLDING, F.BDAC_STATUS_c_STATE, F.LOOP_STATUS_STATE,
    F.PCS_ALIGN_STATUS_RX_DESKEWED, F.PCS_ALIGN_STATUS_TX_ALIGNED, F.PCS_LINK_STATUS_LOST, F.PCS_LINK_STATUS_PROBED,
    F.PCS_LINK_STATUS_REASON, F.PCS_LINK_STATUS_STATE, F.PCS_LINK_TIME_RESTARTS, F.SNS_ENV_n_ENV, F.SNS_ENV_n_NOT_SETTLED,
    F.SNS_PEAK_n_MAX, F.SNS_PEAK_n_MIN, F.SNS_RMS_n_NOT_SETTLED, F.SNS_RMS_n_RMS] ++ alignFields ++ rmFields ++ lockinFields ++
    senseFields) i) (hcal : ∀ i, R.OpenAt calShown i) (hclu : R.Clusters) :
    Answers R s (tstAbort t) := by
  unfold Machine.tstAbort
  exact (Answers.withChecks h fun _ => (((h.takeFree hp.mono).rehearsalEnds hp.mono hk8 hk16 hk hka hcal hclu).memTestEnds
      hp.mono (hk.mono (by decide))).done)

theorem Within.tstMemTest {c : Cmd} (h : Within R s t) (hp : R.Allows [.mgmt .inProgress, .test .memTest])
    (hk : R.OpenAt [F.TST_STATUS_CAUSE, F.TST_STATUS_CLASS, F.TST_STATUS_INSTANCE, F.TST_STATUS_RESULT, F.TST_STATUS_RUNNING,
    F.TST_STATUS_TEST] 0) :
    Answers R s (tstMemTest c t) := by
  unfold Machine.tstMemTest
  exact (Answers.withChecks h fun _ => (((h.withTestMemTest hp.mono).testBegins hk).later hp.mono))

theorem Within.memTestEnd {fails : List (ℕ × ℕ)} {counted : Bool} {patterns : ℕ} (h : Within R s t)
    (hp : R.Allows [.mgmt .inProgress, .mem .candidates, .test .memTest, .test .results])
    (hk : R.OpenAt [F.TST_STATUS_CAUSE, F.TST_STATUS_RESULT, F.TST_STATUS_RUNNING] 0) :
    Within R s (memTestEnd fails counted patterns t) := by
  unfold Machine.memTestEnd
  split
  · exact h
  · extract_lets +onlyGivenNames s1
    have hs1 : Within R s s1 := (h.foldl fun _ _ _ h4 => (Within.ite (h4.hardCandidate hp.mono) h4))
    exact (hs1.memTestEnds hp.mono hk)

theorem Within.tstDress (h : Within R s t) (hp : R.Allows [.mgmt .inProgress, .test .dress])
    (hk : R.OpenAt [F.TST_STATUS_CAUSE, F.TST_STATUS_CLASS, F.TST_STATUS_INSTANCE, F.TST_STATUS_RESULT, F.TST_STATUS_RUNNING,
    F.TST_STATUS_TEST] 0) :
    Answers R s (tstDress t) := by
  unfold Machine.tstDress
  exact (Answers.withChecks h fun _ => (((h.withTestDress hp.mono).testBegins hk).later hp.mono))

theorem Within.dressEnd {v : TestVerdict} {patterns : ℕ} {partitions : ℕ} {ports : ℕ} {line : ℕ} {host : ℕ} (h : Within R s t)
    (hp : R.Allows dressEndPieces) (hk8 : R.Opens ([F.ASD_LEVEL_REF, F.ASD_STATUS_RX_BUSY, F.ASD_STATUS_RX_LOAD,
    F.ASD_STATUS_TX_BUSY, F.ASD_STATUS_TX_LOAD, F.ASD_STATUS_UP, F.ASD_TABLE_RX_k_TABLE, F.ASD_TABLE_TX_k_TABLE,
    F.LEQ_XA_GATHER_STATE, F.LRX_CTLE_STATUS_CODE, F.LRX_CTLE_STATUS_METRIC, F.LRX_SLICE_STATUS_NOSPARE,
    F.LRX_SLICE_STATUS_SWAP_COUNT, F.LRX_SLICE_STATUS_UNDERSTUDY, F.LRX_SLICE_STATUS_WINGS, F.LRX_SPOT_STATUS_STATE,
    F.LRX_STATUS_CTLE_SEARCH, F.LRX_STATUS_LOL, F.LRX_STATUS_LOS, F.LRX_STATUS_LOS_ENV, F.LRX_STATUS_LOS_RMS,
    F.LRX_TR_STATUS_FREQ, F.LRX_TR_STATUS_PI_CODE, F.LRX_VGA_STATUS_AT_LIMIT, F.LRX_VGA_STATUS_CODE, F.LRX_VGA_STATUS_DEFERRED,
    F.LTX_STATUS_SEALED, F.LTX_XA_STATUS_REASON, F.LTX_XA_STATUS_STATE, F.SNS_ENV_n_ENV, F.SNS_ENV_n_NOT_SETTLED,
    F.SNS_PEAK_n_MAX, F.SNS_PEAK_n_MIN, F.SNS_RMS_n_NOT_SETTLED, F.SNS_RMS_n_RMS] ++ eqTapFields ++ eqStateFields ++ lockinFields
    ++ senseFields ++ sliceFailedFields ++ lineTxFields) 8) (hk16 : R.Opens
    ([F.HSL_ALIGN_STATUS_LOCKED, F.HSL_SLICE_FAILED_FAILED, F.HSL_SLICE_STATUS_FAILED_32, F.HSL_SLICE_STATUS_NOSPARE,
    F.HSL_SLICE_STATUS_SWAP_COUNT, F.HSL_SLICE_STATUS_UNDERSTUDY, F.HSL_SLICE_STATUS_WINGS, F.HSL_STATUS_CTLE_CODE,
    F.HSL_STATUS_LOL, F.HSL_STATUS_LOS, F.HSL_STATUS_PI_CODE, F.HSL_STATUS_TRAINED, F.HSL_STATUS_TRAINING, F.HSL_STATUS_VGA_CODE,
    F.SNS_ENV_n_ENV, F.SNS_ENV_n_NOT_SETTLED, F.SNS_PEAK_n_MAX, F.SNS_PEAK_n_MIN, F.SNS_RMS_n_NOT_SETTLED, F.SNS_RMS_n_RMS] ++
    lockinFields ++ senseFields ++ hostEqFields ++ hostTxFields) 16) (hk : R.OpenAt
    [F.CAL_STATE_HANDLE, F.CAL_STATE_TARGETS, F.TST_FENCED_HOST, F.TST_FENCED_LINE, F.TST_FENCED_PORTS, F.TST_STATUS_CAUSE,
    F.TST_STATUS_RESULT, F.TST_STATUS_RUNNING] 0) (hka : ∀ i, R.OpenAt ([F.LOOP_STATUS_STATE, F.PCS_ALIGN_STATUS_RX_DESKEWED,
    F.PCS_ALIGN_STATUS_TX_ALIGNED, F.PCS_LINK_STATUS_LOST, F.PCS_LINK_STATUS_PROBED, F.PCS_LINK_STATUS_REASON,
    F.PCS_LINK_STATUS_STATE, F.PCS_LINK_TIME_RESTARTS] ++ alignFields ++ rmFields) i) (hcal : ∀ i, R.OpenAt calShown i) :
    Within R s (dressEnd v patterns partitions ports line host t) := by
  unfold Machine.dressEnd
  refine Within.ite ?_ ?_
  · extract_lets +onlyGivenNames e
    refine Within.ite ?_ ?_
    · extract_lets +onlyGivenNames s1 s2
      have hs1 : Within R s s1 := (h.foldl fun _ _ m3 h4 => (h4.fenceCluster hp.mono (hk8.mono (by decide))
          (hk16.mono (by decide)) (hk.mono (by decide)) hka (hk8.at (lt_of_mem_whichBelow m3) (by decide)) hcal))
      have hs2 : Within R s s2 := (hs1.foldl fun _ _ m7 h8 => (h8.fenceCluster hp.mono (hk8.mono (by decide))
          (hk16.mono (by decide)) (hk.mono (by decide)) hka (hk16.at (lt_of_mem_whichBelow m7) (by decide)) hcal))
      exact ((hs2.foldl fun _ _ m11 h12 => (h12.fenceCluster hp.mono (hk8.mono (by decide)) (hk16.mono (by decide))
          (hk.mono (by decide)) hka (hk8.at (lt_of_mem_whichBelow m11) (by decide)) hcal)).dressEnds hp.mono
          (hk.mono (by decide)))
    · exact (h.dressEnds hp.mono (hk.mono (by decide)))
  · exact h

theorem Within.losPins {l : LaneId} (h : Within R s t) (hp : R.Allows setLosPieces)
    (hk8 : R.Opens ([F.ASD_LEVEL_REF, F.LRX_CTLE_STATUS_CODE, F.LRX_STATUS_CTLE_SEARCH, F.LRX_STATUS_LOL, F.LRX_STATUS_LOS,
    F.LRX_STATUS_LOS_ENV, F.LRX_STATUS_LOS_RMS, F.LTX_STATUS_SEALED, F.LTX_XA_STATUS_REASON, F.LTX_XA_STATUS_STATE] ++
    eqTapFields ++ eqStateFields ++ lineTxFields) 8) (hk16 : R.Opens ([F.HSL_ALIGN_STATUS_LOCKED, F.HSL_STATUS_CTLE_CODE,
    F.HSL_STATUS_LOL, F.HSL_STATUS_LOS] ++ hostEqFields ++ hostTxFields) 16)
    (hka : ∀ i, R.OpenAt ([F.PCS_ALIGN_STATUS_RX_DESKEWED, F.PCS_ALIGN_STATUS_TX_ALIGNED, F.PCS_LINK_STATUS_LOST,
    F.PCS_LINK_STATUS_PROBED, F.PCS_LINK_STATUS_REASON, F.PCS_LINK_STATUS_STATE, F.PCS_LINK_TIME_RESTARTS] ++ alignFields ++
    rmFields) i) :
    Within R s (losPins t l) := by
  unfold Machine.losPins
  exact (Within.ite ((h.setFront hp.mono).losFollow hp hk8 hk16 hka) h)

theorem Within.jtagPins {take : Bool} (h : Within R s t) (hp : R.Allows jtagPinsPieces)
    (hk8 : R.Opens ([F.ASD_LEVEL_REF, F.LRX_CTLE_STATUS_CODE, F.LRX_STATUS_CTLE_SEARCH, F.LRX_STATUS_LOL, F.LRX_STATUS_LOS,
    F.LRX_STATUS_LOS_ENV, F.LRX_STATUS_LOS_RMS, F.LTX_STATUS_SEALED, F.LTX_XA_STATUS_REASON, F.LTX_XA_STATUS_STATE] ++
    eqTapFields ++ eqStateFields ++ lineTxFields) 8) (hk16 : R.Opens ([F.HSL_ALIGN_STATUS_LOCKED, F.HSL_STATUS_CTLE_CODE,
    F.HSL_STATUS_LOL, F.HSL_STATUS_LOS] ++ hostEqFields ++ hostTxFields) 16)
    (hka : ∀ i, R.OpenAt ([F.PCS_ALIGN_STATUS_RX_DESKEWED, F.PCS_ALIGN_STATUS_TX_ALIGNED, F.PCS_LINK_STATUS_LOST,
    F.PCS_LINK_STATUS_PROBED, F.PCS_LINK_STATUS_REASON, F.PCS_LINK_STATUS_STATE, F.PCS_LINK_TIME_RESTARTS] ++ alignFields ++
    rmFields) i) :
    Within R s (jtagPins t take) := by
  unfold Machine.jtagPins
  exact (Within.ite ((h.withTestJtagPins hp.mono).foldl fun _ _ _ h4 => (h4.losPins hp.mono hk8 hk16 hka))
      (h.withTestJtagPins hp.mono))

theorem Within.jtagUpdate {code : ℕ} (h : Within R s t) (hp : R.Allows jtagUpdatePieces)
    (hk8 : R.Opens ([F.ASD_LEVEL_REF, F.LRX_CTLE_STATUS_CODE, F.LRX_STATUS_CTLE_SEARCH, F.LRX_STATUS_LOL, F.LRX_STATUS_LOS,
    F.LRX_STATUS_LOS_ENV, F.LRX_STATUS_LOS_RMS, F.LTX_STATUS_SEALED, F.LTX_XA_STATUS_REASON, F.LTX_XA_STATUS_STATE] ++
    eqTapFields ++ eqStateFields ++ lineTxFields) 8) (hk16 : R.Opens ([F.HSL_ALIGN_STATUS_LOCKED, F.HSL_STATUS_CTLE_CODE,
    F.HSL_STATUS_LOL, F.HSL_STATUS_LOS] ++ hostEqFields ++ hostTxFields) 16)
    (hka : ∀ i, R.OpenAt ([F.PCS_ALIGN_STATUS_RX_DESKEWED, F.PCS_ALIGN_STATUS_TX_ALIGNED, F.PCS_LINK_STATUS_LOST,
    F.PCS_LINK_STATUS_PROBED, F.PCS_LINK_STATUS_REASON, F.PCS_LINK_STATUS_STATE, F.PCS_LINK_TIME_RESTARTS] ++ alignFields ++
    rmFields) i) (hk : R.OpenAt [F.SEC_ALARM_STATUS_IN_FORCE, F.SEC_ALARM_STATUS_SOURCES] 0) :
    Within R s (jtagUpdate code t) := by
  unfold Machine.jtagUpdate
  extract_lets +onlyGivenNames _ s1
  have hs1 : Within R s s1 := ((h.withTestJtagIr hp.mono).jtagPins hp.mono hk8 hk16 hka)
  exact (Within.ite (hs1.raiseAlarm hp.mono hk) hs1)

theorem Within.payloadCrcFail {n : ℕ} (h : Within R s t) (hp : R.Allows [.lanes .lineRx, .lanes .hostRx, .aside .lanes])
    (hk : R.OpenAt [F.ASD_STATUS_RX_BUSY] n) :
    Within R s (payloadCrcFail n t) := by
  unfold Machine.payloadCrcFail
  split
  · exact (((h.endReception hp hk).bump).loadingResult hp.mono)
  · exact h

theorem Within.watchdogService (h : Within R s t) (hp : R.Allows [.faults .watchdogAt]) :
    Within R s (watchdogService t) := by
  unfold Machine.watchdogService
  exact (Within.ite (h.withFaultsWatchdogAt hp) h)

theorem Within.shadowRefresh {bytes : List (ℕ × Byte)} {writable : List ℕ} (h : Within R s t)
    (hp : R.Allows [.mgmt .cmisWritable]) (hb : R.bulk) :
    Within R s (shadowRefresh bytes writable t) := by
  unfold Machine.shadowRefresh
  refine Within.ite ?_ ?_
  · extract_lets +onlyGivenNames t'
    have ht' : Within R s t' := (h.foldl fun _ _ _ h4 => (h4.putBytes hb))
    exact (ht'.withMgmtCmisWritable hp)
  · exact h

theorem Within.intermissionEntered (h : Within R s t) (hp : R.Allows [.mgmt .inProgress, .power .mode])
    (hk : R.OpenAt [F.PWR_STATE_LAST_WAKE, F.PWR_STATE_STATE] 0) :
    Within R s (intermissionEntered t) := by
  unfold Machine.intermissionEntered
  refine Within.ite ?_ ?_
  · extract_lets +onlyGivenNames s3
    have hs3 : Within R s s3 := ((((h.setMode hp.mono).wr hk).raisePwrChange).completeProg hp.mono)
    exact (Within.ite (hs3.leaveIntermission hp.mono (hk.mono (by decide))) hs3)
  · exact h

theorem Within.programSlot {bs : List Byte} (h : Within R s t) (hp : R.Allows [.sec .images]) :
    Within R s (programSlot t bs) := by
  unfold Machine.programSlot
  split
  · exact (h.withSecImages hp)
  · exact h

theorem Within.flashDone (h : Within R s t) (hp : R.Allows [.mgmt .inProgress, .sec .images, .sec .boot, .sec .settings,
    .sec .cache, .sec .update, .sec .ops]) :
    Within R s (flashDone t) := by
  unfold Machine.flashDone
  split
  · exact h
  · extract_lets +onlyGivenNames _ t'
    have ht' : Within R s t' := (h.withSecOps hp.mono)
    split
    · exact ((ht'.withSecImages hp.mono).completeProg hp.mono)
    · exact (Within.ite h ((ht'.programSlot hp.mono).completeProg hp.mono))
    · extract_lets +onlyGivenNames _ t1
      have ht1 : Within R s t1 := (ht'.withSecImagesUpdate hp.mono)
      exact ((ht1.writeBoot hp.mono).completeProg hp.mono)
    · exact (Within.ite ((ht'.saveBlock hp.mono).completeProg hp.mono) ((ht'.spoilBlock hp.mono).completeProg hp.mono))

theorem Within.revertRetry {n : ℕ} (h : Within R s t) (hp : R.Allows [.time .cues, .lanes .tx, .lanes .revertDue, .mem .retrain])
    (hk : R.OpenAt [F.MEM_LUT_STATUS_RETRAIN] 0) (hk8 : R.Opens [F.LTX_STATUS_SEALED] 8) :
    Within R s (revertRetry t n) := by
  unfold Machine.revertRetry
  exact (Within.ite (h.xaRevert hp hk hk8) h)

theorem Within.poolCycle (h : Within R s t) (hp : R.Allows [.path .poolNow, .path .poolLast]) :
    Within R s (poolCycle t) := by
  unfold Machine.poolCycle
  exact (h.withPathPoolNowPoolLast hp)

theorem Within.thresholdCycle {k : ℕ} (h : Within R s t) (hp : R.Allows [.obs .thrFrac]) :
    Within R s (thresholdCycle t k) := by
  unfold Machine.thresholdCycle
  exact (Within.ite ((h.withObsThrFrac hp).bump) h)

theorem Within.deviceCycle (h : Within R s t) (hp : R.Allows [.time .cues, .obs .thrFrac, .lanes .tx, .lanes .revertDue,
    .lanes .gather, .path .poolNow, .path .poolLast, .mem .retrain]) (hk8 : R.Opens
    [F.ASD_LEVEL_REF, F.LEQ_XA_GATHER_STATE, F.LTX_STATUS_SEALED] 8) (hk : R.OpenAt [F.MEM_LUT_STATUS_RETRAIN] 0) :
    Within R s (deviceCycle t) := by
  unfold Machine.deviceCycle
  exact (((((h.foldl fun _ _ _ h4 => (h4.thresholdCycle hp.mono)).poolCycle hp.mono).foldl fun _ _ m7 h8 =>
      (h8.refExpire (hk8.at (List.mem_range.1 m7) (by decide)))).foldl fun _ _ _ h12 =>
      (h12.revertRetry hp.mono hk (hk8.mono (by decide)))).foldl fun _ _ _ h16 =>
      (h16.gatherFollow hp.mono (hk8.mono (by decide))))

theorem Within.timeCycle (h : Within R s t) (hp : R.Allows [.time .hc, .time .tick, .time .tx, .time .rx]) :
    Within R s (timeCycle t) := by
  unfold Machine.timeCycle
  exact (h.withTimeHcTickTxRx hp)

end Sys2Proof.Machine
end


section
/-! PROOFS. The scope of each command's frame. -/

namespace Sys2Proof.Machine

open Sys2Proof

set_option Elab.async false

/-! The places of a register field. -/

/-- A register's instances do not overlap: its second index stays within a stride of its first. -/
abbrev RegPlace.Regular (p : RegPlace) : Prop :=
  0 < p.count1 ∧ 0 < p.count2 ∧ (p.count1 ≤ 1 ∨ (p.count2 - 1) * p.stride2 < p.stride1) ∧ (p.count2 ≤ 1 ∨ 0 < p.stride2)

theorem RegPlace.find_place {p : RegPlace} {i j : Nat} (hp : p.Regular) (hi : i < p.count1) (hj : j < p.count2) :
    p.find (p.base + i * p.stride1 + j * p.stride2) = some (i, j) := by
  obtain ⟨-, -, hfirst, hsecond⟩ := hp
  have hd : p.base + i * p.stride1 + j * p.stride2 - p.base = i * p.stride1 + j * p.stride2 := by omega
  have hi' : (if p.count1 ≤ 1 then 0 else (i * p.stride1 + j * p.stride2) / p.stride1) = i := by
    split
    · omega
    · have hle : j * p.stride2 ≤ (p.count2 - 1) * p.stride2 := Nat.mul_le_mul_right _ (by omega)
      rw [Nat.mul_comm i, Nat.mul_add_div (by omega), Nat.div_eq_of_lt (by omega), Nat.add_zero]
  have hj' : (if p.count2 ≤ 1 then 0 else (i * p.stride1 + j * p.stride2 - i * p.stride1) / p.stride2) = j := by
    split
    · omega
    · rw [Nat.add_sub_cancel_left, Nat.mul_div_cancel _ (by omega)]
  unfold RegPlace.find
  rw [if_neg (by omega)]
  simp only [hd, hi', hj', hi, hj, and_self, if_true]

/-- The first n instances of the field stand where its keys say, and none is one of the layout's. -/
abbrev Field.Stands (f : Field) (n : Nat) : Prop := f.place.Regular ∧ n ≤ f.place.count1 ∧ f.lo < 32 ∧ f.OffLayout

theorem Field.Stands.hasKey {f : Field} {n i j : Nat} (h : f.Stands n) (hi : i < n) (hj : j = 0 ∨ j < f.place.count2) :
    f.hasKey (f.key i j) = true := by
  obtain ⟨hplace, hn, hlo, -⟩ := h
  have hj' : j < f.place.count2 := hj.elim (fun h0 => h0 ▸ hplace.2.1) id
  have hfind := RegPlace.find_place hplace (hi.trans_le hn) hj'
  have hmod : f.key i j % 32 = f.lo := by
    simp only [Field.key]
    omega
  have hdiv : f.key i j / 32 = f.place.base + i * f.place.stride1 + j * f.place.stride2 := by
    simp only [Field.key]
    omega
  simp only [Field.hasKey, hmod, hdiv, hfind, beq_self_eq_true, Option.isSome_some, Bool.and_self]

/-! The operands that a mask bounds. -/

/-- Bits that a mask leaves out are 0 in a word within it. -/
theorem le_of_and_mask {x m : Nat} (hx : x < 2 ^ 32) (hm : m < 2 ^ 32) (h : x &&& (2 ^ 32 - 1 - m) = 0) : x ≤ m := by
  have hbits : x &&& m = x := by
    apply Nat.eq_of_testBit_eq
    intro k
    have hk := congrArg (Nat.testBit · k) h
    simp only [Nat.testBit_and, Nat.zero_testBit, show 2 ^ 32 - 1 - m = 2 ^ 32 - (m + 1) from by omega,
      Nat.testBit_two_pow_sub_succ hm] at hk ⊢
    by_cases hlt : k < 32
    · revert hk
      cases x.testBit k <;> cases m.testBit k <;> simp [hlt]
    · have hhigh : x.testBit k = false :=
        Nat.testBit_lt_two_pow (hx.trans_le (Nat.pow_le_pow_right (by decide) (Nat.not_lt.1 hlt)))
      simp [hhigh]
  exact hbits ▸ Nat.and_le_right

theorem cmdWord_lt (c : Cmd) (k : Nat) : c.w k < 2 ^ 32 := BitVec.isLt _

/-- A word of a descriptor with no reserved bit set is below its mask's end. -/
theorem cmdWord_lt_of_masked {c : Cmd} {masks : List (Nat × Nat)} {k m : Nat} (h : reservedWord c masks = none)
    (hm : aGet masks k = some m) (hrange : (decide (2 ≤ k) && decide (k < 16) && decide (m < 2 ^ 32)) = true := by rfl) :
    c.w k < m + 1 := by
  obtain ⟨⟨hlow, hhigh⟩, hmask⟩ : (2 ≤ k ∧ k < 16) ∧ m < 2 ^ 32 := by simpa using hrange
  unfold reservedWord at h
  split at h
  · cases h
  · have hword := List.find?_eq_none.1 h k (List.mem_map.2 ⟨k - 2, by simp; omega, by omega⟩)
    rw [hm] at hword
    refine Nat.lt_succ_of_le (le_of_and_mask (cmdWord_lt c k) hmask ?_)
    simpa using hword

/-! What a command's footprint opens. -/

/-- What the command may change. -/
def scopeOf (i : Instr) : Scope where
  parts q := q.part ∈ (footprint i).parts
  keys k := (k ∈ layoutKeys → usesBulk i = true) ∧ ∀ fs, (footprint i).fields = some fs →
    (∃ g ∈ fs, g.hasKey k = true) ∨ ∃ g ∈ (footprint i).loose, ∃ a b, g.key a b = k
  bulk := usesBulk i = true
  layout := fun _ hk h => h.1 hk

section Opening

variable {i : Instr} {ps : List Piece} {fs : List Field} {n a : Nat}

/-- The footprint names the parts of these pieces. -/
def Footprint.names (f : Footprint) (ps : List Piece) : Bool := ps.all fun p => f.parts.contains p.part

/-- The footprint names these fields, whose first n instances stand where their keys say. -/
def Footprint.opens (f : Footprint) (fs : List Field) (n : Nat) : Bool :=
  match f.fields with
  | some gs => fs.all fun g => gs.contains g && decide (g.Stands n)
  | none => false

/-- The footprint has these fields loose. -/
def Footprint.frees (f : Footprint) (fs : List Field) : Bool := fs.all fun g => f.loose.contains g && decide g.OffLayout

theorem scopeOf_allows (h : (footprint i).names ps = true) : (scopeOf i).Allows ps := fun p hp =>
  List.contains_iff_mem.1 (List.all_eq_true.1 h p hp)

theorem scopeOf_opens (h : (footprint i).opens fs n = true) : (scopeOf i).Opens fs n := by
  unfold Footprint.opens at h
  split at h
  · next gs hgs =>
    intro a ha g hg j hj
    have hboth := List.all_eq_true.1 h g hg
    simp only [Bool.and_eq_true, List.contains_iff_mem, decide_eq_true_eq] at hboth
    obtain ⟨hmem, hstands⟩ := hboth
    refine ⟨fun hk => absurd hk (hstands.2.2.2.key a j), fun gs' hgs' => .inl ⟨g, ?_, hstands.hasKey ha hj⟩⟩
    rw [hgs, Option.some.injEq] at hgs'
    exact hgs' ▸ hmem
  · cases h

theorem scopeOf_at (ha : a < n) (h : (footprint i).opens fs n = true) : (scopeOf i).OpenAt fs a := scopeOf_opens h a ha

theorem scopeOf_openAt (h : (footprint i).opens fs 1 = true) : (scopeOf i).OpenAt fs 0 := scopeOf_opens h 0 Nat.one_pos

theorem scopeOf_frees (h : (footprint i).frees fs = true) (a : Nat) : (scopeOf i).OpenAt fs a := by
  intro g hg j _
  have hboth := List.all_eq_true.1 h g hg
  simp only [Bool.and_eq_true, List.contains_iff_mem, decide_eq_true_eq] at hboth
  obtain ⟨hmem, hoff⟩ := hboth
  exact ⟨fun hk => absurd hk (hoff.key a j), fun _ _ => .inr ⟨g, hmem, a, j, rfl⟩⟩

theorem scopeOf_wide (h : (footprint i).fields = none) : (scopeOf i).Wide := fun _ hk =>
  ⟨hk, fun _ hgs => nomatch h.symm.trans hgs⟩

/-- All parts of the state. -/
def everyPart : List Part :=
  [.eff, .time, .obs, .lanes, .link, .path, .aside, .ctl, .cal, .mgmt, .mem, .faults, .power, .test, .sec, .free]

theorem mem_everyPart (p : Part) : p ∈ everyPart := by cases p <;> decide

theorem scopeOf_full (hp : (everyPart.all fun p => (footprint i).parts.contains p) = true) (hf : (footprint i).fields = none)
    (hb : usesBulk i = true) : (scopeOf i).Full :=
  ⟨fun q => List.contains_iff_mem.1 (List.all_eq_true.1 hp q.part (mem_everyPart _)),
    fun _ => ⟨fun _ => hb, fun _ hgs => nomatch hf.symm.trans hgs⟩, hb⟩

end Opening

/-- What a step keeps whatever it changes: the window's form, the fuses that are burned, and the queue. -/
structure Keeps (s t : State) : Prop where
  window : WindowWf s → WindowWf t
  fuses : FusesKept s.sec.otp t.sec.otp
  pending : t.pending = s.pending

theorem Within.keeps {R : Scope} {s t : State} (h : Within R s t) : Keeps s t := ⟨h.window, h.fuses, h.pending⟩

/-- What is proved of each command: its frame, and what it keeps. -/
structure Frames (i : Instr) : Prop where
  framed : Framed i
  keeps : ∀ s t, exec i s = .next t → Keeps s t

/-- What a change within the scope means for a command that is the scope's. -/
theorem Within.footprint {i : Instr} {s t : State} (h : Within (scopeOf i) s t) :
    (footprint i).holds s t ∧ (usesBulk i = false → BulkKept s t) := by
  refine ⟨⟨fun p hp => h.part fun q hq hr => hp (hq ▸ hr), fun fs hfs k hk hno hloose => h.fld k hk fun hopen => ?_, h.pending, h.window⟩,
    fun hb => h.bulk fun hbulk => Bool.false_ne_true (hb.symm.trans hbulk)⟩
  obtain ⟨g, hg, hkey⟩ | ⟨g, hg, a, b, hkey⟩ := hopen.2 fs hfs
  · exact Bool.false_ne_true ((hno g hg).symm.trans hkey)
  · exact hloose g hg a b hkey

/-- A command that stays within its footprint's scope. -/
theorem Frames.of_within {i : Instr} {u : State → State} (hexec : ∀ s, exec i s = .next (u s))
    (h : ∀ s, Within (scopeOf i) s (u s)) : Frames i := by
  have hwithin : ∀ s t, exec i s = .next t → Within (scopeOf i) s t := fun s t ht => by
    rw [hexec] at ht
    cases ht
    exact h s
  exact ⟨fun s t ht => (hwithin s t ht).footprint, fun s t ht => (hwithin s t ht).keeps⟩

/-! Commands whose own scope does not bound what they keep: a write of RING_LAYOUT moves the bulk area's end, and a request for
an adaptation (R109) names a lane by a map that only a reachable state keeps in range. -/

/-- Everything but the parts that the command's footprint leaves out may change. -/
def partsScope (i : Instr) : Scope where
  parts q := q.part ∈ (footprint i).parts
  keys _ := True
  bulk := True
  layout := fun _ _ _ => trivial

theorem partsScope_wide (i : Instr) : (partsScope i).Wide := fun _ _ => trivial

theorem partsScope_allows {i : Instr} {ps : List Piece} (h : (footprint i).names ps = true) : (partsScope i).Allows ps :=
  fun p hp => scopeOf_allows h p hp

/-- A command with all register fields in its footprint, whose bulk area is shown to stay otherwise. -/
theorem Frames.of_parts {i : Instr} {u : State → State} (hexec : ∀ s, exec i s = .next (u s)) (hf : (footprint i).fields = none)
    (h : ∀ s, Within (partsScope i) s (u s)) (hb : ∀ s, BulkKept s (u s)) : Frames i := by
  have hnext : ∀ s t, exec i s = .next t → t = u s := fun s t ht => by
    rw [hexec] at ht
    cases ht
    rfl
  refine ⟨fun s t ht => ?_, fun s t ht => hnext s t ht ▸ (h s).keeps⟩
  obtain rfl := hnext s t ht
  exact ⟨⟨fun p hp => (h s).part fun q hq hr => hp (hq ▸ hr), (fun _ hfs => nomatch hf.symm.trans hfs), (h s).pending, (h s).window⟩, fun _ => hb s⟩

section PortWrites

variable {R : Scope} {s t : State} {iface : Iface} {a d : Nat} {r : RegInfo}

/-- A register that is written, none of whose fields is one of the layout's. -/
theorem Within.writeRegister {ri ij : Nat} (h : Within R s t)
    (hp : R.Allows writeActionPieces) (hw : R.Wide)
    (htarget : target a = .mainReg r ri ij) (hf : ∀ f ∈ r.fields, f.OffLayout) : Within R s (Machine.writeApply t a d) := by
  simp only [Machine.writeApply, htarget]
  refine .ite h ?_
  exact (Within.foldl (.ite h.bump h) fun _ f hm ht => ht.fieldWrite (hw _ fun hk => absurd hk ((hf f hm).key _ _))).writeAction
      hp hw

/-- A transaction of one register's write does at most what its refusal or the write does. -/
theorem Within.oneWriteTo (h : Within R s t)
    (hp : R.Allows [.mgmt .i2cOut, .mgmt .i2cAcks, .mgmt .coreFault, .mgmt .spiCrcErr, .mgmt .spiBusErr, .mgmt .busErrRate,
      .mgmt .lockedRate]) (hw : R.Wide)
    (hwrite : Within R s (Machine.writeApply t a d)) : Within R s (Machine.oneWrite iface a d t) := by
  have hr : Within R s (Machine.ifaceWrite iface t .none a d).1 := by
    unfold Machine.ifaceWrite
    split
    · exact h.busError hp.mono hw.openAt
    · exact hwrite
  exact .ite ((hr.busReport hp.mono).signalWrite hp.mono) h

theorem signalWrite_window (iface : Iface) (s : State) (cause : Option Nat) :
    (signalWrite iface s cause).mgmt.window = s.mgmt.window := by cases iface <;> rfl

theorem fieldWrite_window (s : State) (f : Field) (i j d : Nat) : (fieldWrite s f i j d).mgmt.window = s.mgmt.window := by
  unfold fieldWrite
  simp only
  split
  · rfl
  · rfl
  · rfl
  · split <;> rfl
  · split <;> rfl
  · rfl

theorem fieldWrites_window (fs : List Field) (i j d : Nat) (s : State) :
    (fs.foldl (fun t f => fieldWrite t f i j d) s).mgmt.window = s.mgmt.window := by
  induction fs generalizing s with
  | nil => rfl
  | cons f fs ih => exact (ih _).trans (fieldWrite_window ..)

theorem target_dbCmd : target Regs.DB_CMD.base = .mainReg ⟨Regs.DB_CMD, [F.DB_CMD_PROD]⟩ 0 0 := rfl

theorem target_dbCplAck : target Regs.DB_CPL_ACK.base = .mainReg ⟨Regs.DB_CPL_ACK, [F.DB_CPL_ACK_ACK]⟩ 0 0 := rfl

theorem target_dbEvtAck : target Regs.DB_EVT_ACK.base = .mainReg ⟨Regs.DB_EVT_ACK, [F.DB_EVT_ACK_ACK]⟩ 0 0 := rfl

theorem target_ringLayout : ∃ fs, target Regs.RING_LAYOUT.base = .mainReg ⟨Regs.RING_LAYOUT, fs⟩ 0 0 := ⟨_, rfl⟩

/-- A write of RING_LAYOUT writes no byte of the bulk area as it stood. -/
theorem bulkKept_layoutApply (s : State) (d : Nat) : BulkKept s (writeApply s Regs.RING_LAYOUT.base d) := by
  obtain ⟨fs, htarget⟩ := target_ringLayout
  rw [writeApply, htarget]
  simp only
  split
  · exact .rfl' s
  · generalize reservedBits ⟨Regs.RING_LAYOUT, fs⟩ d = b
    have hbump : BulkKept s (if b then bump s 0x750 1 else s) := (ReportsAbove.ite (bump_above s 0x750 1) (.rfl' s)).bulk
    exact fun a ha => (congrArg (winByte · a) (fieldWrites_window fs 0 0 d _)).trans (hbump a ha)

/-- Everything but the bulk area and its layout. -/
def offLayout : Scope where
  parts _ := True
  keys k := k ∉ layoutKeys
  bulk := False
  layout := fun _ hk hn => hn hk

theorem offLayout_wide : offLayout.Wide := fun _ hk => hk

/-- What refuses a write and reports it keeps the bulk area. -/
theorem bulkKept_refused (s : State) (iface : Iface) (n cause a : Nat) (e : BusErrs) (b : Option Nat) :
    BulkKept s (signalWrite iface (busReport (busError s n cause a) n e) b) := by
  have hwithin := ((Within.rfl' offLayout s).busError (iface := n) (cause := cause) (a := a) (fun _ _ => trivial)
    offLayout_wide.openAt).busReport (iface := n) (e := e) fun _ _ => trivial
  exact fun x hx => (congrArg (winByte · x) (signalWrite_window ..)).trans (hwithin.bulk id x hx)

theorem bulkKept_ringLayoutWrite (iface : Iface) (d : Nat) (s : State) :
    BulkKept s (oneWrite iface Regs.RING_LAYOUT.base d s) := by
  unfold oneWrite ifaceWrite
  split
  · cases writeRefusal s Regs.RING_LAYOUT.base d with
    | some cause => exact bulkKept_refused s iface iface.num cause Regs.RING_LAYOUT.base (BusErrs.none.add cause _) _
    | none => exact fun x hx => (congrArg (winByte · x) (signalWrite_window ..)).trans (bulkKept_layoutApply s d x hx)
  · exact .rfl' s

end PortWrites

theorem frames_snapCopyDone {bank} : Frames (.snapCopyDone bank) :=
  .of_within (fun _ => rfl) fun s => (Within.rfl' _ s).snapCopyDone (scopeOf_allows rfl)

theorem frames_snapCtrlTake {flowImg ackReq ack1 ack0} : Frames (.snapCtrlTake flowImg ackReq ack1 ack0) :=
  .of_within (fun _ => rfl) fun s => (Within.rfl' _ s).snapCtrlWrite (scopeOf_allows rfl) (scopeOf_openAt rfl)

theorem frames_snapCtrlAck {flowImg ackReq ack1 ack0} : Frames (.snapCtrlAck flowImg ackReq ack1 ack0) :=
  .of_within (fun _ => rfl) fun s => (Within.rfl' _ s).snapCtrlWrite (scopeOf_allows rfl) (scopeOf_openAt rfl)

theorem frames_snapTake {c} : Frames (.snapTake c) :=
  .of_within (fun _ => rfl) fun s => (Within.rfl' _ s).hostCmd fun _ _ _ h => h.snapTake (scopeOf_allows rfl)

theorem frames_snapRead {c} : Frames (.snapRead c) :=
  .of_within (fun _ => rfl) fun s => (Within.rfl' _ s).hostCmd fun _ _ _ h => h.snapRead rfl

theorem frames_sampleSlotRaise {slot} : Frames (.sampleSlotRaise slot) :=
  .of_within (fun _ => rfl) fun s => (Within.rfl' _ s).sampleSlotRaise

theorem frames_berWindowClose {lane} : Frames (.berWindowClose lane) :=
  .of_within (fun _ => rfl) fun s => (Within.rfl' _ s).berWindowClose (scopeOf_allows rfl) (scopeOf_at lane.isLt rfl)

theorem frames_flowFrame {port d busy} : Frames (.flowFrame port d busy) :=
  .of_within (fun _ => rfl) fun s => (Within.rfl' _ s).flowNext (scopeOf_allows rfl)

theorem frames_flowReplayLookup {d} : Frames (.flowReplayLookup d) :=
  .of_within (fun _ => rfl) fun s => (Within.rfl' _ s).flowReplayLookup (scopeOf_allows rfl)

theorem frames_flowAgerVisit {bucket} : Frames (.flowAgerVisit bucket) :=
  .of_within (fun _ => rfl) fun s => (Within.rfl' _ s).flowAgerVisit (scopeOf_allows rfl)

theorem frames_flowDump {c} : Frames (.flowDump c) :=
  .of_within (fun _ => rfl) fun s => (Within.rfl' _ s).hostCmd fun _ _ _ h => h.flowDump (scopeOf_allows rfl) rfl

theorem frames_flowRelease {c} : Frames (.flowRelease c) :=
  .of_within (fun _ => rfl) fun s => (Within.rfl' _ s).hostCmd fun _ _ _ h => h.flowRelease (scopeOf_allows rfl)

theorem frames_flowFlush {c} : Frames (.flowFlush c) :=
  .of_within (fun _ => rfl) fun s => (Within.rfl' _ s).hostCmd fun _ _ _ h => h.flowFlushCmd (scopeOf_allows rfl)

theorem frames_acquireComplete {p} : Frames (.acquireComplete p) :=
  .of_within (fun _ => rfl) fun s => (Within.rfl' _ s).acquireComplete (scopeOf_allows rfl) (scopeOf_wide rfl).openAt
      (scopeOf_wide rfl).opens (scopeOf_wide rfl).any (scopeOf_wide rfl).opens

theorem frames_acqToExpiry {p} : Frames (.acqToExpiry p) :=
  .of_within (fun _ => rfl) fun s => (Within.rfl' _ s).acqToExpiry (scopeOf_allows rfl) (scopeOf_wide rfl).openAt
      (scopeOf_wide rfl).opens (scopeOf_wide rfl).any (scopeOf_wide rfl).opens

theorem frames_alignToExpiry {p} : Frames (.alignToExpiry p) :=
  .of_within (fun _ => rfl) fun s => (Within.rfl' _ s).alignToExpiry (scopeOf_allows rfl) (scopeOf_wide rfl).openAt
      (scopeOf_wide rfl).opens (scopeOf_wide rfl).any (scopeOf_wide rfl).opens

theorem frames_probeToExpiry {p} : Frames (.probeToExpiry p) :=
  .of_within (fun _ => rfl) fun s => (Within.rfl' _ s).probeToExpiry (scopeOf_allows rfl) (scopeOf_wide rfl).openAt
      (scopeOf_wide rfl).opens (scopeOf_wide rfl).any (scopeOf_wide rfl).opens

theorem frames_backoffExpiry {p} : Frames (.backoffExpiry p) :=
  .of_within (fun _ => rfl) fun s => (Within.rfl' _ s).backoffExpiry (scopeOf_allows rfl) (scopeOf_wide rfl).openAt
      (scopeOf_wide rfl).opens (scopeOf_wide rfl).any (scopeOf_wide rfl).opens

theorem frames_laneRejoin {x} : Frames (.laneRejoin x) :=
  .of_within (fun _ => rfl) fun s => (Within.rfl' _ s).laneRejoin (scopeOf_allows rfl) (scopeOf_wide rfl).any
      (scopeOf_wide rfl).opens (scopeOf_wide rfl).opens

theorem frames_rejoinToExpiry {p i} : Frames (.rejoinToExpiry p i) :=
  .of_within (fun _ => rfl) fun s => (Within.rfl' _ s).rejoinToExpiry (scopeOf_allows rfl) (scopeOf_wide rfl).openAt
      (scopeOf_wide rfl).opens (scopeOf_wide rfl).any (scopeOf_wide rfl).opens

theorem frames_linkRestart {c} : Frames (.linkRestart c) :=
  .of_within (fun _ => rfl) fun s => (Within.rfl' _ s).hostCmd fun _ _ _ h => h.linkRestart (scopeOf_allows rfl)
      (scopeOf_wide rfl).openAt (scopeOf_wide rfl).opens (scopeOf_wide rfl).any (scopeOf_wide rfl).opens

theorem frames_bdacFirstCode {c} : Frames (.bdacFirstCode c) :=
  .of_within (fun _ => rfl) fun s => (Within.rfl' _ s).bdacFirstCode (scopeOf_allows rfl) (scopeOf_at c.isLt rfl)

theorem frames_bdacHoldEnd {c} : Frames (.bdacHoldEnd c) :=
  .of_within (fun _ => rfl) fun s => (Within.rfl' _ s).bdacHoldEnd (scopeOf_allows rfl) (scopeOf_at c.isLt rfl)

theorem frames_ditherUpdate : Frames (.ditherUpdate) :=
  .of_within (fun _ => rfl) fun s => (Within.rfl' _ s).ditherUpdate (scopeOf_allows rfl) (scopeOf_opens rfl)

theorem frames_bdacRange {c} : Frames (.bdacRange c) :=
  .of_within (fun _ => rfl) fun s => (Within.rfl' _ s).hostCmd fun _ hmask _ h => h.bdacRange (scopeOf_allows rfl)
      (scopeOf_at (cmdWord_lt_of_masked hmask rfl) rfl) (scopeOf_opens rfl) (scopeOf_opens rfl)

theorem frames_snsSyncWrite {mask} : Frames (.snsSyncWrite mask) :=
  .of_within (fun _ => rfl) fun s => (Within.rfl' _ s).senseSyncMask (scopeOf_allows rfl) (scopeOf_opens rfl)

theorem frames_snsSample {chan bits offset} : Frames (.snsSample chan bits offset) :=
  .of_within (fun _ => rfl) fun s => (Within.rfl' _ s).snsSample (scopeOf_allows rfl) (scopeOf_at chan.isLt rfl)

theorem frames_snsCoefWrite {c} : Frames (.snsCoefWrite c) :=
  .of_within (fun _ => rfl) fun s => (Within.rfl' _ s).hostCmd fun _ _ _ h => h.snsCoefWrite (scopeOf_allows rfl) rfl

theorem frames_snsCoefRead {c} : Frames (.snsCoefRead c) :=
  .of_within (fun _ => rfl) fun s => (Within.rfl' _ s).hostCmd fun _ _ _ h => h.snsCoefRead (scopeOf_allows rfl) rfl

theorem frames_loopTick {mismatch parity} : Frames (.loopTick mismatch parity) :=
  .of_within (fun _ => rfl) fun s => (Within.rfl' _ s).loopTick (scopeOf_allows rfl) (scopeOf_frees rfl) (scopeOf_opens rfl)
      (scopeOf_opens rfl) (scopeOf_openAt rfl)

theorem frames_loopClearHistory {c} : Frames (.loopClearHistory c) :=
  .of_within (fun _ => rfl) fun s => (Within.rfl' _ s).hostCmd fun _ _ _ h => h.loopClearHistory (scopeOf_opens rfl)

theorem frames_loopResume {c} : Frames (.loopResume c) :=
  .of_within (fun _ => rfl) fun s => (Within.rfl' _ s).hostCmd fun _ hmask _ h => h.loopResume (scopeOf_allows rfl)
      (scopeOf_at (cmdWord_lt_of_masked hmask rfl) rfl) (scopeOf_opens rfl) (scopeOf_opens rfl)

theorem frames_loopTarget {c} : Frames (.loopTarget c) :=
  .of_within (fun _ => rfl) fun s => (Within.rfl' _ s).hostCmd fun _ hmask _ h => h.loopTarget (scopeOf_allows rfl)
      (scopeOf_at (cmdWord_lt_of_masked hmask rfl) rfl)

theorem frames_loopPreset {c} : Frames (.loopPreset c) :=
  .of_within (fun _ => rfl) fun s => (Within.rfl' _ s).hostCmd fun _ _ _ h => h.loopPreset (scopeOf_allows rfl)

theorem frames_loopRead {c} : Frames (.loopRead c) :=
  .of_within (fun _ => rfl) fun s => (Within.rfl' _ s).hostCmd fun _ _ _ h => h.loopRead

theorem frames_loopEngineRestart {c pass} : Frames (.loopEngineRestart c pass) :=
  .of_within (fun _ => rfl) fun s => (Within.rfl' _ s).hostCmd fun _ _ _ h => h.loopEngineRestart (scopeOf_allows rfl)
      (scopeOf_openAt rfl) (scopeOf_opens rfl)

theorem frames_calRun {c} : Frames (.calRun c) :=
  .of_within (fun _ => rfl) fun s => (Within.rfl' _ s).calRunRow (scopeOf_allows rfl) (scopeOf_openAt rfl) (scopeOf_opens rfl)
      (scopeOf_opens rfl) (scopeOf_frees rfl)

theorem frames_calAbort {c} : Frames (.calAbort c) :=
  .of_within (fun _ => rfl) fun s => (Within.rfl' _ s).hostCmd fun _ _ _ h => h.calAbort (scopeOf_allows rfl) (scopeOf_opens rfl)
      (scopeOf_opens rfl) (scopeOf_openAt rfl) (scopeOf_frees rfl)

theorem frames_calRelease {c} : Frames (.calRelease c) :=
  .of_within (fun _ => rfl) fun s => (Within.rfl' _ s).hostCmd fun _ _ _ h => h.calRelease (scopeOf_allows rfl)

theorem frames_calDeferredStart {handle} : Frames (.calDeferredStart handle) :=
  .of_within (fun _ => rfl) fun s => (Within.rfl' _ s).calDeferredStart (scopeOf_allows rfl) (scopeOf_openAt rfl)
      (scopeOf_opens rfl) (scopeOf_opens rfl) (scopeOf_frees rfl)

theorem frames_calMeasurementEnd {l num den trim pass inl} : Frames (.calMeasurementEnd l num den trim pass inl) :=
  .of_within (fun _ => rfl) fun s => (Within.rfl' _ s).calMeasurementEnd (scopeOf_allows rfl) (scopeOf_opens rfl)
      (scopeOf_opens rfl) (scopeOf_openAt rfl) (scopeOf_frees rfl)

theorem frames_calCorrectionUpdate : Frames (.calCorrectionUpdate) :=
  .of_within (fun _ => rfl) fun s => (Within.rfl' _ s).calCorrectionUpdate (scopeOf_allows rfl) (scopeOf_frees rfl)

theorem frames_calTempRecompute : Frames (.calTempRecompute) :=
  .of_within (fun _ => rfl) fun s => (Within.rfl' _ s).calTempRecompute (scopeOf_allows rfl) (scopeOf_frees rfl)

theorem frames_dacSkewMeasurementEnd {lane skew0 skew1 skew2 skew3} : Frames
    (.dacSkewMeasurementEnd lane skew0 skew1 skew2 skew3) :=
  .of_within (fun _ => rfl) fun s => (Within.rfl' _ s).dacSkewEnd (scopeOf_allows rfl) (scopeOf_openAt rfl) (scopeOf_frees rfl)

theorem frames_bdacCalMeasurementEnd {c offset1 gain1 offset2 gain2} : Frames
    (.bdacCalMeasurementEnd c offset1 gain1 offset2 gain2) :=
  .of_within (fun _ => rfl) fun s => (Within.rfl' _ s).bdacCalEnd (scopeOf_allows rfl) (scopeOf_openAt rfl) (scopeOf_frees rfl)

theorem frames_snsCalMeasurementEnd {n offset gain} : Frames (.snsCalMeasurementEnd n offset gain) :=
  .of_within (fun _ => rfl) fun s => (Within.rfl' _ s).snsCalEnd (scopeOf_allows rfl) (scopeOf_openAt rfl) (scopeOf_frees rfl)

theorem frames_ctleDwellEnd {l codes} : Frames (.ctleDwellEnd l codes) :=
  .of_within (fun _ => rfl) fun s => (Within.rfl' _ s).ctleDwellEnd (scopeOf_allows rfl) (scopeOf_opens rfl) (scopeOf_opens rfl)

theorem frames_vgaMeasurement {l codes} : Frames (.vgaMeasurement l codes) :=
  .of_within (fun _ => rfl) fun s => (Within.rfl' _ s).vgaMeasurement (scopeOf_allows rfl) (scopeOf_opens rfl)

theorem frames_vgaStep {l} : Frames (.vgaStep l) :=
  .of_within (fun _ => rfl) fun s => (Within.rfl' _ s).vgaStep (scopeOf_allows rfl) (scopeOf_opens rfl) (scopeOf_opens rfl)

theorem frames_calHandover {l} : Frames (.calHandover l) :=
  .of_within (fun _ => rfl) fun s => (Within.rfl' _ s).calHandover (scopeOf_allows rfl) (scopeOf_opens rfl) (scopeOf_opens rfl)

theorem frames_sliceMonitorWindow {l codes} : Frames (.sliceMonitorWindow l codes) :=
  .of_within (fun _ => rfl) fun s => (Within.rfl' _ s).sliceMonitorWindow (scopeOf_allows rfl) (scopeOf_opens rfl)
      (scopeOf_opens rfl) (scopeOf_openAt rfl) (scopeOf_frees rfl)

theorem frames_sliceFaultSwap {l} : Frames (.sliceFaultSwap l) :=
  .of_within (fun _ => rfl) fun s => (Within.rfl' _ s).landSwap (scopeOf_allows rfl) (scopeOf_opens rfl) (scopeOf_opens rfl)

theorem frames_lrxSliceRetire {c} : Frames (.lrxSliceRetire c) :=
  .of_within (fun _ => rfl) fun s => (Within.rfl' _ s).hostCmd fun _ _ _ h => h.sliceRetire (scopeOf_allows rfl)
      (scopeOf_opens rfl) (scopeOf_opens rfl) (scopeOf_openAt rfl) (scopeOf_frees rfl)

theorem frames_lrxSliceRestore {c} : Frames (.lrxSliceRestore c) :=
  .of_within (fun _ => rfl) fun s => (Within.rfl' _ s).hostCmd fun _ _ _ h => h.sliceRestore (scopeOf_allows rfl)
      (scopeOf_opens rfl) (scopeOf_opens rfl)

theorem frames_hslSliceRetire {c} : Frames (.hslSliceRetire c) :=
  .of_within (fun _ => rfl) fun s => (Within.rfl' _ s).hostCmd fun _ _ _ h => h.sliceRetire (scopeOf_allows rfl)
      (scopeOf_opens rfl) (scopeOf_opens rfl) (scopeOf_openAt rfl) (scopeOf_frees rfl)

theorem frames_hslSliceRestore {c} : Frames (.hslSliceRestore c) :=
  .of_within (fun _ => rfl) fun s => (Within.rfl' _ s).hostCmd fun _ _ _ h => h.sliceRestore (scopeOf_allows rfl)
      (scopeOf_opens rfl) (scopeOf_opens rfl)

theorem frames_sliceRestoreTestEnd {l pass} : Frames (.sliceRestoreTestEnd l pass) :=
  .of_within (fun _ => rfl) fun s => (Within.rfl' _ s).sliceRestoreTestEnd (scopeOf_allows rfl) (scopeOf_opens rfl)
      (scopeOf_opens rfl)

theorem frames_lockWindowEnd {l codes} : Frames (.lockWindowEnd l codes) :=
  .of_within (fun _ => rfl) fun s => (Within.rfl' _ s).lockWindowEnd (scopeOf_allows rfl) (scopeOf_wide rfl).opens
      (scopeOf_wide rfl).opens (scopeOf_wide rfl).any

theorem frames_losSet {l env} : Frames (.losSet l env) :=
  .of_within (fun _ => rfl) fun s => (Within.rfl' _ s).losDetector (scopeOf_allows rfl) (scopeOf_wide rfl).opens
      (scopeOf_wide rfl).opens (scopeOf_wide rfl).any

theorem frames_losClear {l env} : Frames (.losClear l env) :=
  .of_within (fun _ => rfl) fun s => (Within.rfl' _ s).losDetector (scopeOf_allows rfl) (scopeOf_wide rfl).opens
      (scopeOf_wide rfl).opens (scopeOf_wide rfl).any

theorem frames_spotCtrlStart {n slice source} : Frames (.spotCtrlStart n slice source) :=
  .of_within (fun _ => rfl) fun s => (Within.rfl' _ s).spotCtrlStart (scopeOf_allows rfl) (scopeOf_at n.isLt rfl)

theorem frames_lrxSpotStart {c} : Frames (.lrxSpotStart c) :=
  .of_within (fun _ => rfl) fun s => (Within.rfl' _ s).hostCmd fun _ hmask _ h => h.lrxSpotStart (scopeOf_allows rfl)
      (scopeOf_at (cmdWord_lt_of_masked hmask rfl) rfl)

theorem frames_spotCaptureEnd {n codes parity} : Frames (.spotCaptureEnd n codes parity) :=
  .of_within (fun _ => rfl) fun s => (Within.rfl' _ s).spotCaptureEnd (scopeOf_allows rfl) (scopeOf_opens rfl)
      (scopeOf_opens rfl) (scopeOf_at n.isLt rfl)

theorem frames_lrxSpotRead {c} : Frames (.lrxSpotRead c) :=
  .of_within (fun _ => rfl) fun s => (Within.rfl' _ s).hostCmd fun _ _ _ h => h.lrxSpotRead rfl

theorem frames_eqUpdate {l codes} : Frames (.eqUpdate l codes) :=
  .of_within (fun _ => rfl) fun s => (Within.rfl' _ s).eqUpdate (scopeOf_allows rfl) (scopeOf_opens rfl) (scopeOf_opens rfl)

theorem frames_outlierWindowEnd {l codes} : Frames (.outlierWindowEnd l codes) :=
  .of_within (fun _ => rfl) fun s => (Within.rfl' _ s).outlierWindowEnd (scopeOf_allows rfl) (scopeOf_wide rfl).opens
      (scopeOf_wide rfl).opens (scopeOf_wide rfl).any

theorem frames_eqWarmResume {l} : Frames (.eqWarmResume l) :=
  .of_within (fun _ => rfl) fun s => (Within.rfl' _ s).eqWarmResume (scopeOf_allows rfl) (scopeOf_opens rfl) (scopeOf_opens rfl)

theorem frames_metricWindowEnd {l codes} : Frames (.metricWindowEnd l codes) :=
  .of_within (fun _ => rfl) fun s => (Within.rfl' _ s).metricWindowEnd (scopeOf_allows rfl) (scopeOf_opens rfl)
      (scopeOf_opens rfl)

theorem frames_leqStateRead {c} : Frames (.leqStateRead c) :=
  .of_within (fun _ => rfl) fun s => (Within.rfl' _ s).hostCmd fun _ _ _ h => h.leqStateRead rfl

theorem frames_leqStateLoad {c} : Frames (.leqStateLoad c) :=
  .of_within (fun _ => rfl) fun s => (Within.rfl' _ s).hostCmd fun _ _ _ h => h.leqStateLoad (scopeOf_allows rfl)
      (scopeOf_opens rfl) (scopeOf_opens rfl) rfl

theorem frames_cueSet {c} : Frames (.cueSet c) :=
  .of_within (fun _ => rfl) fun s => (Within.rfl' _ s).hostCmd fun _ _ _ h => h.cueSet (scopeOf_allows rfl) (scopeOf_opens rfl)

theorem frames_cueCancel {c} : Frames (.cueCancel c) :=
  .of_within (fun _ => rfl) fun s => (Within.rfl' _ s).hostCmd fun _ _ _ h => h.cueCancel (scopeOf_allows rfl) (scopeOf_opens rfl)

theorem frames_cueRead {c} : Frames (.cueRead c) :=
  .of_within (fun _ => rfl) fun s => (Within.rfl' _ s).hostCmd fun _ _ _ h => h.cueRead

theorem frames_cueAgree {c} : Frames (.cueAgree c) :=
  .of_within (fun _ => rfl) fun s => (Within.rfl' _ s).hostCmd fun _ _ _ h => h.cueAgree (scopeOf_allows rfl) (scopeOf_opens rfl)

theorem frames_cueAgreeTimeout {entry} : Frames (.cueAgreeTimeout entry) :=
  .of_within (fun _ => rfl) fun s => (Within.rfl' _ s).agreeFailed (scopeOf_allows rfl) (scopeOf_opens rfl)

theorem frames_cueProposeResend {entry} : Frames (.cueProposeResend entry) :=
  .of_within (fun _ => rfl) fun s => (Within.rfl' _ s).cueProposeResend (scopeOf_allows rfl)

theorem frames_hcAdjust {c} : Frames (.hcAdjust c) :=
  .of_within (fun _ => rfl) fun s => (Within.rfl' _ s).hostCmd fun _ _ _ h => h.hcAdjust (scopeOf_allows rfl) (scopeOf_openAt rfl)

theorem frames_cueLatchWrite {port d} : Frames (.cueLatchWrite port d) :=
  .of_within (fun _ => rfl) fun s => (Within.rfl' _ s).cueLatchWrite (scopeOf_openAt rfl)

theorem frames_swingStep {lane} : Frames (.swingStep lane) :=
  .of_within (fun _ => rfl) fun s => (Within.rfl' _ s).swingStep (scopeOf_allows rfl) (scopeOf_at lane.isLt rfl)

theorem frames_ltxLutWrite {c} : Frames (.ltxLutWrite c) :=
  .of_within (fun _ => rfl) fun s => (Within.rfl' _ s).hostCmd fun _ _ _ h => h.ltxLutWrite (scopeOf_allows rfl)
      (scopeOf_openAt rfl) rfl

theorem frames_ltxLutRead {c} : Frames (.ltxLutRead c) :=
  .of_within (fun _ => rfl) fun s => (Within.rfl' _ s).hostCmd fun _ _ _ h => h.ltxLutRead (scopeOf_allows rfl)
      (scopeOf_openAt rfl) rfl

theorem frames_ltxLutClear {c} : Frames (.ltxLutClear c) :=
  .of_within (fun _ => rfl) fun s => (Within.rfl' _ s).hostCmd fun _ _ _ h => h.ltxLutClear (scopeOf_allows rfl)

theorem frames_xaStart {c} : Frames (.xaStart c) :=
  .of_within (fun _ => rfl) fun s => (Within.rfl' _ s).hostCmd fun _ _ _ h => h.xaStartCmd (scopeOf_allows rfl)
      (scopeOf_openAt rfl) (scopeOf_opens rfl)

theorem frames_xaStop {c} : Frames (.xaStop c) :=
  .of_within (fun _ => rfl) fun s => (Within.rfl' _ s).hostCmd fun _ _ _ h => h.xaStopCmd (scopeOf_allows rfl)
      (scopeOf_opens rfl) (scopeOf_openAt rfl)

theorem frames_xaStatsTimeout {lane} : Frames (.xaStatsTimeout lane) :=
  .of_within (fun _ => rfl) fun s => (Within.rfl' _ s).xaStatsTimeout (scopeOf_allows rfl) (scopeOf_opens rfl)
      (scopeOf_at lane.isLt rfl)

theorem frames_xaTrackTimer {lane} : Frames (.xaTrackTimer lane) :=
  .of_within (fun _ => rfl) fun s => (Within.rfl' _ s).xaTrackTimer (scopeOf_allows rfl) (scopeOf_at lane.isLt rfl)

theorem frames_xaGatherWindowEnd {lane} : Frames (.xaGatherWindowEnd lane) :=
  .of_within (fun _ => rfl) fun s => (Within.rfl' _ s).xaGatherWindowEnd (scopeOf_allows rfl) (scopeOf_at lane.isLt rfl)

theorem frames_remapInstall {bank} : Frames (.remapInstall bank) :=
  .of_within (fun _ => rfl) fun s => (Within.rfl' _ s).remapInstall (scopeOf_allows rfl) (scopeOf_openAt rfl) (scopeOf_frees rfl)
      rfl

theorem frames_scrubWord {bank upset raced} : Frames (.scrubWord bank upset raced) :=
  .of_within (fun _ => rfl) fun s => (Within.rfl' _ s).scrubWord (scopeOf_allows rfl) (scopeOf_at bank.isLt rfl)
      (scopeOf_openAt rfl) (scopeOf_frees rfl) rfl

theorem frames_memRemap {c} : Frames (.memRemap c) :=
  .of_within (fun _ => rfl) fun s => (Within.rfl' _ s).hostCmd fun _ _ _ h => h.memRemap (scopeOf_allows rfl)
      (scopeOf_openAt rfl) (scopeOf_frees rfl) rfl

theorem frames_memInject {c} : Frames (.memInject c) :=
  .of_within (fun _ => rfl) fun s => (Within.rfl' _ s).hostCmd fun _ _ _ h => h.memInject (scopeOf_allows rfl) rfl

theorem frames_voltageGlitch : Frames (.voltageGlitch) :=
  .of_within (fun _ => rfl) fun s => .ite ((Within.rfl' _ s).raiseAlarm (scopeOf_allows rfl) (scopeOf_openAt rfl))
      (Within.rfl' _ s)

theorem frames_clockGlitch : Frames (.clockGlitch) :=
  .of_within (fun _ => rfl) fun s => .ite ((Within.rfl' _ s).raiseAlarm (scopeOf_allows rfl) (scopeOf_openAt rfl))
      (Within.rfl' _ s)

theorem frames_alarmNPulseEnd : Frames (.alarmNPulseEnd) :=
  .of_within (fun _ => rfl) fun s => (Within.rfl' _ s).alarmPulseEnd (scopeOf_allows rfl)

theorem frames_trainingBurstEnd {lane} : Frames (.trainingBurstEnd lane) :=
  .of_within (fun _ => rfl) fun s => (Within.rfl' _ s).trainingBurstEnd (scopeOf_allows rfl) (scopeOf_openAt rfl)
      (scopeOf_opens rfl) (scopeOf_opens rfl)

theorem frames_poolIdleTest {d member form conduct} : Frames (.poolIdleTest d member form conduct) :=
  .of_within (fun _ => rfl) fun s => (Within.rfl' _ s).poolIdleTest (scopeOf_allows rfl) (scopeOf_openAt rfl)

theorem frames_fecFence {c} : Frames (.fecFence c) :=
  .of_within (fun _ => rfl) fun s => (Within.rfl' _ s).hostCmd fun _ _ _ h => h.fecFence (scopeOf_openAt rfl)

theorem frames_fecUnfence {c} : Frames (.fecUnfence c) :=
  .of_within (fun _ => rfl) fun s => (Within.rfl' _ s).hostCmd fun _ _ _ h => h.fecUnfence (scopeOf_allows rfl)

theorem frames_unfenceTestEnd {d pass} : Frames (.unfenceTestEnd d pass) :=
  .of_within (fun _ => rfl) fun s => (Within.rfl' _ s).unfenceTestEnd (scopeOf_allows rfl) (scopeOf_openAt rfl)

theorem frames_sdWindowEnd {port d} : Frames (.sdWindowEnd port d) :=
  .of_within (fun _ => rfl) fun s => (Within.rfl' _ s).sdWindowEnd (scopeOf_allows rfl) (scopeOf_at port.isLt rfl)

theorem frames_hostToLineCodeword {port codes k} : Frames (.hostToLineCodeword port codes k) :=
  .of_within (fun _ => rfl) fun s => (Within.rfl' _ s).hostToLine (scopeOf_allows rfl) (scopeOf_openAt rfl)
      (scopeOf_at port.isLt rfl) (scopeOf_opens rfl) (scopeOf_opens rfl)

theorem frames_lineToHostCodeword {port codes k} : Frames (.lineToHostCodeword port codes k) :=
  .of_within (fun _ => rfl) fun s => (Within.rfl' _ s).lineToHost (scopeOf_allows rfl) (scopeOf_openAt rfl)
      (scopeOf_at port.isLt rfl) (scopeOf_opens rfl) (scopeOf_opens rfl)

theorem frames_hostMarkerGroup {port marks} : Frames (.hostMarkerGroup port marks) :=
  .of_within (fun _ => rfl) fun s => (Within.rfl' _ s).hostMarkerGroup (scopeOf_allows rfl) (scopeOf_opens rfl)
      (scopeOf_at port.isLt rfl) (scopeOf_opens rfl)

theorem frames_lineMarkerGroup {lane pos arrival} : Frames (.lineMarkerGroup lane pos arrival) :=
  .of_within (fun _ => rfl) fun s => (Within.rfl' _ s).lineMarkerGroup (scopeOf_allows rfl) (scopeOf_wide rfl).any
      (scopeOf_wide rfl).opens (scopeOf_wide rfl).opens

theorem frames_tpcWindowEnd {l codes} : Frames (.tpcWindowEnd l codes) :=
  .of_within (fun _ => rfl) fun s => (Within.rfl' _ s).tpcWindowEnd (scopeOf_allows rfl) (scopeOf_opens rfl) (scopeOf_opens rfl)

theorem frames_tpcSlip {c} : Frames (.tpcSlip c) :=
  .of_within (fun _ => rfl) fun s => (Within.rfl' _ s).hostCmd fun _ _ _ h => h.tpcSlip (scopeOf_allows rfl)

theorem frames_helloTimer {lane} : Frames (.helloTimer lane) :=
  .of_within (fun _ => rfl) fun s => (Within.rfl' _ s).helloTimer (scopeOf_allows rfl)

theorem frames_healthTimer {lane} : Frames (.healthTimer lane) :=
  .of_within (fun _ => rfl) fun s => (Within.rfl' _ s).healthTimer (scopeOf_allows rfl)

theorem frames_asidePacketStart {lane} : Frames (.asidePacketStart lane) :=
  .of_within (fun _ => rfl) fun s => (Within.rfl' _ s).asidePacketStart (scopeOf_allows rfl) (scopeOf_at lane.isLt rfl)

theorem frames_asidePacketEnd {lane} : Frames (.asidePacketEnd lane) :=
  .of_within (fun _ => rfl) fun s => (Within.rfl' _ s).asidePacketEnd (scopeOf_allows rfl) (scopeOf_at lane.isLt rfl)
      (scopeOf_frees rfl)

theorem frames_preambleDetect {lane codes m} : Frames (.preambleDetect lane codes m) :=
  .of_within (fun _ => rfl) fun s => ((Within.rfl' _ s).rxStream (scopeOf_allows rfl) (scopeOf_opens rfl)
      (scopeOf_opens rfl)).preambleDetect (scopeOf_allows rfl) (scopeOf_at lane.isLt rfl)

theorem frames_payloadCrcFail {lane codes} : Frames (.payloadCrcFail lane codes) :=
  .of_within (fun _ => rfl) fun s => ((Within.rfl' _ s).rxStream (scopeOf_allows rfl) (scopeOf_opens rfl)
      (scopeOf_opens rfl)).payloadCrcFail (scopeOf_allows rfl) (scopeOf_at lane.isLt rfl)

theorem frames_helloReceived {lane codes} : Frames (.helloReceived lane codes) :=
  .of_within (fun _ => rfl) fun s =>
    have hw := scopeOf_wide rfl
    ((Within.rfl' _ s).rxStream (scopeOf_allows rfl) hw.opens hw.opens).heard (scopeOf_allows rfl) hw.openAt fun _ _ _ ht =>
      ht.helloAccepted (scopeOf_allows rfl) hw.openAt hw.opens hw.any hw.opens

theorem frames_healthReceived {lane codes} : Frames (.healthReceived lane codes) :=
  .of_within (fun _ => rfl) fun s => ((Within.rfl' _ s).rxStream (scopeOf_allows rfl) (scopeOf_opens rfl)
      (scopeOf_opens rfl)).heard (scopeOf_allows rfl) (scopeOf_at lane.isLt rfl) (fun _ _ _ ht => ht)

theorem frames_tagPacketReceived {lane codes} : Frames (.tagPacketReceived lane codes) :=
  .of_within (fun _ => rfl) fun s => ((Within.rfl' _ s).rxStream (scopeOf_allows rfl) (scopeOf_opens rfl)
      (scopeOf_opens rfl)).heard (scopeOf_allows rfl) (scopeOf_at lane.isLt rfl) (fun _ _ _ ht => ht.tagAccepted)

theorem keeps_xadaptRequestReceived {lane codes} (s t : State) (h : exec (.xadaptRequestReceived lane codes) s = .next t) :
    Keeps s t := by
  have hall := (partsScope_wide (.xadaptRequestReceived lane codes))
  cases h
  exact (((Within.rfl' _ s).rxStream (partsScope_allows rfl) hall.opens hall.opens).heard (partsScope_allows rfl) hall.openAt
    fun _ _ _ ht => ht.requestAccepted (partsScope_allows rfl) fun _ => hall.openAt).keeps

theorem frames_xadaptFragmentReceived {lane codes} : Frames (.xadaptFragmentReceived lane codes) :=
  .of_within (fun _ => rfl) fun s => ((Within.rfl' _ s).rxStream (scopeOf_allows rfl) (scopeOf_opens rfl)
      (scopeOf_opens rfl)).heard (scopeOf_allows rfl) (scopeOf_at lane.isLt rfl)
      (fun _ _ _ ht => ht.fragmentAccepted (scopeOf_allows rfl) (scopeOf_opens rfl) (scopeOf_openAt rfl))

theorem frames_cueProposeReceived {lane codes} : Frames (.cueProposeReceived lane codes) :=
  .of_within (fun _ => rfl) fun s => ((Within.rfl' _ s).rxStream (scopeOf_allows rfl) (scopeOf_opens rfl)
      (scopeOf_opens rfl)).heard (scopeOf_allows rfl) (scopeOf_at lane.isLt rfl)
      (fun _ _ _ ht => ht.proposalAccepted (scopeOf_allows rfl) (scopeOf_opens rfl))

theorem frames_cueAckReceived {lane codes} : Frames (.cueAckReceived lane codes) :=
  .of_within (fun _ => rfl) fun s => ((Within.rfl' _ s).rxStream (scopeOf_allows rfl) (scopeOf_opens rfl)
      (scopeOf_opens rfl)).heard (scopeOf_allows rfl) (scopeOf_at lane.isLt rfl)
      (fun _ _ _ ht => ht.ackAccepted (scopeOf_allows rfl) (scopeOf_opens rfl))

theorem frames_loadingProposeReceived {lane codes} : Frames (.loadingProposeReceived lane codes) :=
  .of_within (fun _ => rfl) fun s => ((Within.rfl' _ s).rxStream (scopeOf_allows rfl) (scopeOf_opens rfl)
      (scopeOf_opens rfl)).heard (scopeOf_allows rfl) (scopeOf_at lane.isLt rfl)
      (fun _ _ _ ht => ht.loadProposeAccepted (scopeOf_allows rfl))

theorem frames_loadingConfirmReceived {lane codes} : Frames (.loadingConfirmReceived lane codes) :=
  .of_within (fun _ => rfl) fun s => ((Within.rfl' _ s).rxStream (scopeOf_allows rfl) (scopeOf_opens rfl)
      (scopeOf_opens rfl)).heard (scopeOf_allows rfl) (scopeOf_at lane.isLt rfl)
      (fun _ _ _ ht => ht.loadConfirmAccepted (scopeOf_allows rfl) (scopeOf_at lane.isLt rfl))

theorem frames_loadingEvaluation {lane} : Frames (.loadingEvaluation lane) :=
  .of_within (fun _ => rfl) fun s => (Within.rfl' _ s).loadingEvaluation (scopeOf_allows rfl)

theorem frames_loadingGraceEnd {lane} : Frames (.loadingGraceEnd lane) :=
  .of_within (fun _ => rfl) fun s => (Within.rfl' _ s).setAside (scopeOf_allows rfl)

theorem frames_authChallengeReceived {lane codes} : Frames (.authChallengeReceived lane codes) :=
  .of_within (fun _ => rfl) fun s => ((Within.rfl' _ s).rxStream (scopeOf_allows rfl) (scopeOf_opens rfl)
      (scopeOf_opens rfl)).heard (scopeOf_allows rfl) (scopeOf_at lane.isLt rfl)
      (fun _ _ _ ht => ht.challengeAccepted (scopeOf_allows rfl))

theorem frames_authResponseReceived {lane codes} : Frames (.authResponseReceived lane codes) :=
  .of_within (fun _ => rfl) fun s => ((Within.rfl' _ s).rxStream (scopeOf_allows rfl) (scopeOf_opens rfl)
      (scopeOf_opens rfl)).heard (scopeOf_allows rfl) (scopeOf_at lane.isLt rfl)
      (fun _ _ _ ht => ht.responseAccepted (scopeOf_allows rfl) (scopeOf_at lane.isLt rfl))

theorem frames_partnerTimeout {lane} : Frames (.partnerTimeout lane) :=
  .of_within (fun _ => rfl) fun s => ((Within.rfl' _ s).partnerDown (scopeOf_allows rfl) (scopeOf_at lane.isLt rfl)
      (scopeOf_opens rfl)).refExpire (scopeOf_at lane.isLt rfl)

theorem frames_authChallengeTimer {lane} : Frames (.authChallengeTimer lane) :=
  .of_within (fun _ => rfl) fun s => .ite ((Within.rfl' _ s).challenge (scopeOf_allows rfl) (scopeOf_at lane.isLt rfl))
      (Within.rfl' _ s)

theorem frames_asdBufSet {c} : Frames (.asdBufSet c) :=
  .of_within (fun _ => rfl) fun s => (Within.rfl' _ s).hostCmd fun _ _ _ h => h.asdBufSet (scopeOf_allows rfl)

theorem frames_asdSend {c} : Frames (.asdSend c) :=
  .of_within (fun _ => rfl) fun s => (Within.rfl' _ s).hostCmd fun _ _ _ h => h.asdSend (scopeOf_allows rfl)

theorem frames_asdRxRead {c} : Frames (.asdRxRead c) :=
  .of_within (fun _ => rfl) fun s => (Within.rfl' _ s).hostCmd fun _ _ _ h => h.asdRxRead rfl

theorem frames_asdAuthStart {c} : Frames (.asdAuthStart c) :=
  .of_within (fun _ => rfl) fun s => (Within.rfl' _ s).hostCmd fun _ _ _ h => h.asdAuthStart (scopeOf_allows rfl)
      (scopeOf_opens rfl)

theorem frames_authStartTimeout : Frames (.authStartTimeout) :=
  .of_within (fun _ => rfl) fun s => (Within.rfl' _ s).authStartTimeout (scopeOf_allows rfl)

theorem frames_asdLoadReset {c} : Frames (.asdLoadReset c) :=
  .of_within (fun _ => rfl) fun s => (Within.rfl' _ s).hostCmd fun _ _ _ h => h.asdLoadReset (scopeOf_allows rfl)

theorem frames_sysPllLockLoss : Frames (.sysPllLockLoss) :=
  .of_within (fun _ => rfl) fun s => (Within.rfl' _ s).sysPllLockLoss (scopeOf_allows rfl) (scopeOf_openAt rfl)
      (scopeOf_opens rfl) (scopeOf_opens rfl) (scopeOf_opens rfl) (scopeOf_frees rfl)

theorem frames_sysPllRelock : Frames (.sysPllRelock) :=
  .of_within (fun _ => rfl) fun s => (Within.rfl' _ s).sysPllRelock (scopeOf_allows rfl) (scopeOf_openAt rfl)

theorem frames_refLost {ref} : Frames (.refLost ref) :=
  .of_within (fun _ => rfl) fun s => (Within.rfl' _ s).refLost (scopeOf_allows rfl) (scopeOf_wide rfl).openAt
      (scopeOf_wide rfl).opens (scopeOf_wide rfl).opens (scopeOf_wide rfl).any

theorem frames_refPresent {ref} : Frames (.refPresent ref) :=
  .of_within (fun _ => rfl) fun s => (Within.rfl' _ s).refPresent (scopeOf_openAt rfl)

theorem frames_refSlewDone {region} : Frames (.refSlewDone region) :=
  .of_within (fun _ => rfl) fun s => (Within.rfl' _ s).refSlewDone (scopeOf_allows rfl) (scopeOf_wide rfl).openAt
      (scopeOf_wide rfl).opens (scopeOf_wide rfl).opens (scopeOf_wide rfl).any

theorem frames_refRevertTimer {region} : Frames (.refRevertTimer region) :=
  .of_within (fun _ => rfl) fun s => (Within.rfl' _ s).refRevertTimer (scopeOf_allows rfl) (scopeOf_wide rfl).openAt
      (scopeOf_wide rfl).opens (scopeOf_wide rfl).opens (scopeOf_wide rfl).any

theorem frames_clkRefRevert {c} : Frames (.clkRefRevert c) :=
  .of_within (fun _ => rfl) fun s => (Within.rfl' _ s).hostCmd fun _ _ _ h => h.clkRefRevert (scopeOf_allows rfl)
      (scopeOf_wide rfl).openAt (scopeOf_wide rfl).opens (scopeOf_wide rfl).opens (scopeOf_wide rfl).any

theorem frames_hslTrainTimeout {lane} : Frames (.hslTrainTimeout lane) :=
  .of_within (fun _ => rfl) fun s => (Within.rfl' _ s).hslTrainTimeout (scopeOf_allows rfl)

theorem frames_hslTrackWindow {lane codes} : Frames (.hslTrackWindow lane codes) :=
  .of_within (fun _ => rfl) fun s => (Within.rfl' _ s).hslTrackWindow (scopeOf_allows rfl) (scopeOf_opens rfl) (scopeOf_opens rfl)

theorem frames_hslRetrain {c} : Frames (.hslRetrain c) :=
  .of_within (fun _ => rfl) fun s => (Within.rfl' _ s).hostCmd fun _ _ _ h => h.hslRetrain (scopeOf_allows rfl)
      (scopeOf_wide rfl).opens (scopeOf_wide rfl).opens (scopeOf_wide rfl).any

theorem frames_wanderLimit {lane transmit repeated} : Frames (.wanderLimit lane transmit repeated) :=
  .of_within (fun _ => rfl) fun s => (Within.rfl' _ s).wanderLimit (scopeOf_allows rfl) (scopeOf_wide rfl).any
      (scopeOf_wide rfl).opens (scopeOf_wide rfl).opens

theorem frames_failoverTimer {port rx} : Frames (.failoverTimer port rx) :=
  .of_within (fun _ => rfl) fun s => (Within.rfl' _ s).failoverTimer (scopeOf_allows rfl)

theorem frames_clkModePllLock : Frames (.clkModePllLock) :=
  .of_within (fun _ => rfl) fun s => (Within.rfl' _ s).clkModePllLock (scopeOf_allows rfl) (scopeOf_wide rfl).openAt
      (scopeOf_wide rfl).opens (scopeOf_wide rfl).opens (scopeOf_wide rfl).any

theorem frames_clkModeLockTimeout : Frames (.clkModeLockTimeout) :=
  .of_within (fun _ => rfl) fun s => (Within.rfl' _ s).clkModeLockTimeout

theorem frames_goDiscard {mask} : Frames (.goDiscard mask) :=
  .of_within (fun _ => rfl) fun s => (Within.rfl' _ s).goDiscard (scopeOf_wide rfl)

theorem frames_tstRehearse {c} : Frames (.tstRehearse c) :=
  .of_within (fun _ => rfl) fun s => (Within.rfl' _ s).hostCmd fun _ _ _ h => h.tstRehearse (scopeOf_allows rfl)
      (scopeOf_openAt rfl)

theorem frames_rehearsalEnd {v patterns unit} : Frames (.rehearsalEnd v patterns unit) :=
  .of_within (fun _ => rfl) fun s => (Within.rfl' _ s).rehearsalEnds (scopeOf_allows rfl) (scopeOf_wide rfl).opens
      (scopeOf_wide rfl).opens (scopeOf_wide rfl).openAt (scopeOf_wide rfl).any (scopeOf_wide rfl).cal (scopeOf_wide rfl).clusters

theorem frames_tstAbort {c} : Frames (.tstAbort c) :=
  .of_within (fun _ => rfl) fun s => (Within.rfl' _ s).hostCmd fun _ _ _ h => h.tstAbort (scopeOf_allows rfl)
      (scopeOf_wide rfl).opens (scopeOf_wide rfl).opens (scopeOf_wide rfl).openAt (scopeOf_wide rfl).any (scopeOf_wide rfl).cal
      (scopeOf_wide rfl).clusters

theorem frames_tstMemTest {c} : Frames (.tstMemTest c) :=
  .of_within (fun _ => rfl) fun s => (Within.rfl' _ s).hostCmd fun _ _ _ h => h.tstMemTest (scopeOf_allows rfl)
      (scopeOf_openAt rfl)

theorem frames_memTestEnd {fails counted patterns} : Frames (.memTestEnd fails counted patterns) :=
  .of_within (fun _ => rfl) fun s => (Within.rfl' _ s).memTestEnd (scopeOf_allows rfl) (scopeOf_openAt rfl)

theorem frames_tstDress {c} : Frames (.tstDress c) :=
  .of_within (fun _ => rfl) fun s => (Within.rfl' _ s).hostCmd fun _ _ _ h => h.tstDress (scopeOf_allows rfl) (scopeOf_openAt rfl)

theorem frames_dressRehearsalEnd {v patterns partitions ports line host} : Frames
    (.dressRehearsalEnd v patterns partitions ports line host) :=
  .of_within (fun _ => rfl) fun s => (Within.rfl' _ s).dressEnd (scopeOf_allows rfl) (scopeOf_wide rfl).opens
      (scopeOf_wide rfl).opens (scopeOf_wide rfl).openAt (scopeOf_wide rfl).any (scopeOf_wide rfl).cal

theorem frames_testLimitExceeded {clock patterns} : Frames (.testLimitExceeded clock patterns) :=
  .of_within (fun _ => rfl) fun s => .ite ((Within.rfl' _ s).testsAbort (scopeOf_allows rfl) (scopeOf_wide rfl).opens
      (scopeOf_wide rfl).opens (scopeOf_wide rfl).openAt (scopeOf_wide rfl).any (scopeOf_wide rfl).cal
      (scopeOf_wide rfl).clusters) (Within.rfl' _ s)

theorem frames_jtagInstructionUpdate {code} : Frames (.jtagInstructionUpdate code) :=
  .of_within (fun _ => rfl) fun s => (Within.rfl' _ s).jtagUpdate (scopeOf_allows rfl) (scopeOf_wide rfl).opens
      (scopeOf_wide rfl).opens (scopeOf_wide rfl).any (scopeOf_wide rfl).openAt

theorem frames_watchdogService : Frames (.watchdogService) :=
  .of_within (fun _ => rfl) fun s => (Within.rfl' _ s).watchdogService (scopeOf_allows rfl)

theorem frames_watchdogExpiry : Frames (.watchdogExpiry) :=
  .of_within (fun _ => rfl) fun s => (Within.rfl' _ s).watchdogExpiry (scopeOf_allows rfl)

theorem frames_lockstepMismatch : Frames (.lockstepMismatch) :=
  .of_within (fun _ => rfl) fun s => (Within.rfl' _ s).lockstepMismatch (scopeOf_allows rfl)

theorem frames_crystalEdgeLoss : Frames (.crystalEdgeLoss) :=
  .of_within (fun _ => rfl) fun s => (Within.rfl' _ s).crystalEdgeLoss (scopeOf_allows rfl) (scopeOf_wide rfl).openAt
      (scopeOf_wide rfl).opens (scopeOf_wide rfl).opens (scopeOf_wide rfl).any (scopeOf_wide rfl).cal (scopeOf_wide rfl).clusters

theorem frames_crystalReturn : Frames (.crystalReturn) :=
  .of_within (fun _ => rfl) fun s => (Within.rfl' _ s).crystalReturn (scopeOf_allows rfl)

theorem frames_supplyWarnAssert {rail} : Frames (.supplyWarnAssert rail) :=
  .of_within (fun _ => rfl) fun s => (Within.rfl' _ s).supplyWarnAssert (scopeOf_allows rfl) (scopeOf_wide rfl).opens
      (scopeOf_wide rfl).opens (scopeOf_wide rfl).openAt (scopeOf_wide rfl).any (scopeOf_wide rfl).cal (scopeOf_wide rfl).clusters

theorem frames_supplyWarnRelease {rail} : Frames (.supplyWarnRelease rail) :=
  .of_within (fun _ => rfl) fun s => (Within.rfl' _ s).supplyWarnRelease (scopeOf_allows rfl)

theorem frames_brownoutWindowClose : Frames (.brownoutWindowClose) :=
  .of_within (fun _ => rfl) fun s => (Within.rfl' _ s).brownoutClose (scopeOf_allows rfl) (scopeOf_opens rfl)

theorem frames_pbRead {c} : Frames (.pbRead c) :=
  .of_within (fun _ => rfl) fun s => (Within.rfl' _ s).hostCmd fun _ _ _ h => h.pbRead rfl

theorem frames_pbRelease {c} : Frames (.pbRelease c) :=
  .of_within (fun _ => rfl) fun s => (Within.rfl' _ s).hostCmd fun _ _ _ h => h.pbRelease

theorem frames_pbFlashRead {c} : Frames (.pbFlashRead c) :=
  .of_within (fun _ => rfl) fun s => (Within.rfl' _ s).hostCmd fun _ _ _ h => h.pbFlashRead rfl

theorem frames_pbMark {c} : Frames (.pbMark c) :=
  .of_within (fun _ => rfl) fun s => (Within.rfl' _ s).hostCmd fun _ _ _ h => h.pbMark

theorem frames_pbFlashCopyStart : Frames (.pbFlashCopyStart) :=
  .of_within (fun _ => rfl) fun s => (Within.rfl' _ s).pbCopyStart

theorem frames_pbFlashCopyDone : Frames (.pbFlashCopyDone) :=
  .of_within (fun _ => rfl) fun s => (Within.rfl' _ s).pbCopyDone (scopeOf_openAt rfl)

theorem frames_powerOnReset {rail} : Frames (.powerOnReset rail) :=
  .of_within (fun _ => rfl) fun s => (Within.rfl' _ s).powerOnReset (scopeOf_full rfl rfl rfl)

theorem frames_pinReset : Frames (.pinReset) :=
  .of_within (fun _ => rfl) fun s => (Within.rfl' _ s).deepReset (scopeOf_full rfl rfl rfl)

theorem frames_supplyReset {rail} : Frames (.supplyReset rail) :=
  .of_within (fun _ => rfl) fun s => .ite ((Within.rfl' _ s).deepReset (scopeOf_full rfl rfl rfl)) (Within.rfl' _ s)

theorem frames_resetNRelease {straps checker boot} : Frames (.resetNRelease straps checker boot) :=
  .of_within (fun _ => rfl) fun s => (Within.rfl' _ s).resetRelease (scopeOf_allows rfl) (scopeOf_openAt rfl) (scopeOf_frees rfl)

theorem frames_rstWarm {c} : Frames (.rstWarm c) :=
  .of_within (fun _ => rfl) fun s => (Within.rfl' _ s).hostCmd fun _ _ _ h => h.rstWarm (scopeOf_allows rfl)

theorem frames_warmReset {boot} : Frames (.warmReset boot) :=
  .of_within (fun _ => rfl) fun s => (Within.rfl' _ s).warmResetRow (scopeOf_full rfl rfl rfl)

theorem frames_rstMgmt {c} : Frames (.rstMgmt c) :=
  .of_within (fun _ => rfl) fun s => (Within.rfl' _ s).hostCmd fun _ _ _ h => h.rstMgmt (scopeOf_allows rfl)

theorem frames_mgmtRestart {boot} : Frames (.mgmtRestart boot) :=
  .of_within (fun _ => rfl) fun s => (Within.rfl' _ s).mgmtRestart (scopeOf_allows rfl) (scopeOf_openAt rfl) (scopeOf_opens rfl)

theorem frames_rstPort {c} : Frames (.rstPort c) :=
  .of_within (fun _ => rfl) fun s => (Within.rfl' _ s).hostCmd fun _ _ _ h => h.rstPort (scopeOf_allows rfl)
      (scopeOf_wide rfl).openAt (scopeOf_wide rfl).any (scopeOf_wide rfl).opens (scopeOf_wide rfl).opens

theorem frames_asdKeySet {c} : Frames (.asdKeySet c) :=
  .of_within (fun _ => rfl) fun s => (Within.rfl' _ s).hostCmd fun _ _ _ h => h.asdKeySet (scopeOf_allows rfl)

theorem frames_asdKeyClear {c} : Frames (.asdKeyClear c) :=
  .of_within (fun _ => rfl) fun s => (Within.rfl' _ s).hostCmd fun _ _ _ h => h.asdKeyClear (scopeOf_allows rfl)

theorem frames_authOpen {c} : Frames (.authOpen c) :=
  .of_within (fun _ => rfl) fun s => (Within.rfl' _ s).hostCmd fun _ _ _ h => h.authOpen (scopeOf_allows rfl) rfl

theorem frames_authChallengeExpiry : Frames (.authChallengeExpiry) :=
  .of_within (fun _ => rfl) fun s => (Within.rfl' _ s).challengeExpiry (scopeOf_allows rfl)

theorem frames_authRespond {c} : Frames (.authRespond c) :=
  .of_within (fun _ => rfl) fun s => (Within.rfl' _ s).hostCmd fun _ _ _ h => h.authRespond (scopeOf_allows rfl)
      (scopeOf_openAt rfl) rfl

theorem frames_authClose {c} : Frames (.authClose c) :=
  .of_within (fun _ => rfl) fun s => (Within.rfl' _ s).hostCmd fun _ _ _ h => h.authClose (scopeOf_allows rfl)

theorem frames_lcAdvance {c} : Frames (.lcAdvance c) :=
  .of_within (fun _ => rfl) fun s => (Within.rfl' _ s).hostCmd fun _ _ _ h => h.lcAdvance (scopeOf_allows rfl)

theorem frames_lcDiagOpen {c} : Frames (.lcDiagOpen c) :=
  .of_within (fun _ => rfl) fun s => (Within.rfl' _ s).hostCmd fun _ _ _ h => h.lcDiagOpen (scopeOf_allows rfl)

theorem frames_secOtpProgram {c burned} : Frames (.secOtpProgram c burned) :=
  .of_within (fun _ => rfl) fun s => (Within.rfl' _ s).hostCmd fun _ _ _ h => h.otpProgram (scopeOf_allows rfl) rfl

theorem frames_secKeyRevoke {c} : Frames (.secKeyRevoke c) :=
  .of_within (fun _ => rfl) fun s => (Within.rfl' _ s).hostCmd fun _ _ _ h => h.keyRevoke (scopeOf_allows rfl)

theorem frames_fwBegin {c} : Frames (.fwBegin c) :=
  .of_within (fun _ => rfl) fun s => (Within.rfl' _ s).hostCmd fun _ _ _ h => h.fwCmd (scopeOf_allows rfl)
      (h.fwBegin (scopeOf_allows rfl) rfl)

theorem frames_fwChunk {c} : Frames (.fwChunk c) :=
  .of_within (fun _ => rfl) fun s => (Within.rfl' _ s).hostCmd fun _ _ _ h => h.fwCmd (scopeOf_allows rfl)
      (h.fwChunk (scopeOf_allows rfl) rfl)

theorem frames_fwCommit {c misread} : Frames (.fwCommit c misread) :=
  .of_within (fun _ => rfl) fun s => (Within.rfl' _ s).hostCmd fun _ _ _ h => h.fwCmd (scopeOf_allows rfl)
      (h.fwCommit (scopeOf_allows rfl))

theorem frames_fwActivate {c} : Frames (.fwActivate c) :=
  .of_within (fun _ => rfl) fun s => (Within.rfl' _ s).hostCmd fun _ _ _ h => h.fwCmd (scopeOf_allows rfl)
      (h.fwActivate (scopeOf_allows rfl))

theorem frames_fwAbort {c} : Frames (.fwAbort c) :=
  .of_within (fun _ => rfl) fun s => (Within.rfl' _ s).hostCmd fun _ _ _ h => h.fwCmd (scopeOf_allows rfl)
      (h.fwAbort (scopeOf_allows rfl))

theorem frames_setSave {c verified} : Frames (.setSave c verified) :=
  .of_within (fun _ => rfl) fun s => (Within.rfl' _ s).hostCmd fun _ _ _ h => h.setSave (scopeOf_allows rfl)

theorem frames_flashProgramDone : Frames (.flashProgramDone) :=
  .of_within (fun _ => rfl) fun s => (Within.rfl' _ s).flashDone (scopeOf_allows rfl)

theorem frames_imageHealthy : Frames (.imageHealthy) :=
  .of_within (fun _ => rfl) fun s => (Within.rfl' _ s).imageHealthy (scopeOf_allows rfl)

theorem frames_trialTimeout : Frames (.trialTimeout) :=
  .of_within (fun _ => rfl) fun s => (Within.rfl' _ s).trialTimeout (scopeOf_allows rfl)

theorem frames_pwrEnter {c rcHz} : Frames (.pwrEnter c rcHz) :=
  .of_within (fun _ => rfl) fun s => (Within.rfl' _ s).hostCmd fun _ _ _ h => h.pwrEnter (scopeOf_allows rfl)
      (scopeOf_wide rfl).openAt (scopeOf_wide rfl).opens (scopeOf_wide rfl).opens (scopeOf_wide rfl).opens
      (scopeOf_wide rfl).opens (scopeOf_wide rfl).any (scopeOf_wide rfl).cal

theorem frames_intermissionEntryDone : Frames (.intermissionEntryDone) :=
  .of_within (fun _ => rfl) fun s => (Within.rfl' _ s).intermissionEntered (scopeOf_allows rfl) (scopeOf_openAt rfl)

theorem frames_pwrExit {c} : Frames (.pwrExit c) :=
  .of_within (fun _ => rfl) fun s => (Within.rfl' _ s).hostCmd fun _ _ _ h => h.pwrExit (scopeOf_allows rfl) (scopeOf_openAt rfl)

theorem frames_intermissionExitDone : Frames (.intermissionExitDone) :=
  .of_within (fun _ => rfl) fun s => (Within.rfl' _ s).intermissionLeft (scopeOf_allows rfl) (scopeOf_wide rfl).openAt
      (scopeOf_wide rfl).opens (scopeOf_wide rfl).opens (scopeOf_wide rfl).any (scopeOf_wide rfl).opens (scopeOf_wide rfl).opens
      (scopeOf_wide rfl).cal

theorem frames_darkSequencerStep {rcHz} : Frames (.darkSequencerStep rcHz) :=
  .of_within (fun _ => rfl) fun s => (Within.rfl' _ s).darkStep (scopeOf_full rfl rfl rfl)

theorem frames_wakeAssert {level} : Frames (.wakeAssert level) :=
  .of_within (fun _ => rfl) fun s => (Within.rfl' _ s).wakeLevel (scopeOf_full rfl rfl rfl)

theorem frames_rcTimerExpiry : Frames (.rcTimerExpiry) :=
  .of_within (fun _ => rfl) fun s => (Within.rfl' _ s).rcTimerExpiry (scopeOf_full rfl rfl rfl)

theorem frames_stageDoorWrite {addr data} : Frames (.stageDoorWrite addr data) :=
  .of_within (fun _ => rfl) fun s => (Within.rfl' _ s).stageDoorWrite (scopeOf_full rfl rfl rfl)

theorem frames_stageDoorRead {addr count} : Frames (.stageDoorRead addr count) :=
  .of_within (fun _ => rfl) fun s => (Within.rfl' _ s).stageDoorRead (scopeOf_allows rfl)

theorem frames_wakeFromDark {count rcHz checker boot} : Frames (.wakeFromDark count rcHz checker boot) :=
  .of_within (fun _ => rfl) fun s => (Within.rfl' _ s).wakeFromDark (scopeOf_allows rfl) (scopeOf_openAt rfl) (scopeOf_frees rfl)

theorem frames_thermalReading {readings} : Frames (.thermalReading readings) :=
  .of_within (fun _ => rfl) fun s => (Within.rfl' _ s).thermalReading (scopeOf_full rfl rfl rfl)

theorem frames_avsSlewStep : Frames (.avsSlewStep) :=
  .of_within (fun _ => rfl) fun s => (Within.rfl' _ s).avsSlewStep (scopeOf_allows rfl) (scopeOf_openAt rfl)

theorem frames_avsReadback {answer} : Frames (.avsReadback answer) :=
  .of_within (fun _ => rfl) fun s => (Within.rfl' _ s).avsReadback (scopeOf_allows rfl) (scopeOf_openAt rfl)

theorem frames_ringLayoutWrite {iface data} : Frames (.ringLayoutWrite iface data) :=
  .of_parts (fun _ => rfl) rfl (fun s => (Within.rfl' _ s).oneWrite (partsScope_allows rfl) (partsScope_wide _) trivial)
    fun s => bulkKept_ringLayoutWrite iface data.toNat s

theorem frames_dbCmdWrite {iface data} : Frames (.dbCmdWrite iface data) :=
  .of_within (fun _ => rfl) fun s =>
    (Within.rfl' _ s).oneWriteTo (scopeOf_allows rfl) (scopeOf_wide rfl)
      ((Within.rfl' _ s).writeRegister (scopeOf_allows rfl) (scopeOf_wide rfl) target_dbCmd (by decide))

theorem frames_dbCplAckWrite {iface data} : Frames (.dbCplAckWrite iface data) :=
  .of_within (fun _ => rfl) fun s =>
    (Within.rfl' _ s).oneWriteTo (scopeOf_allows rfl) (scopeOf_wide rfl)
      ((Within.rfl' _ s).writeRegister (scopeOf_allows rfl) (scopeOf_wide rfl) target_dbCplAck (by decide))

theorem frames_dbEvtAckWrite {iface data} : Frames (.dbEvtAckWrite iface data) :=
  .of_within (fun _ => rfl) fun s =>
    (Within.rfl' _ s).oneWriteTo (scopeOf_allows rfl) (scopeOf_wide rfl)
      ((Within.rfl' _ s).writeRegister (scopeOf_allows rfl) (scopeOf_wide rfl) target_dbEvtAck (by decide))

theorem frames_votedFieldUpset {b} : Frames (.votedFieldUpset b) :=
  .of_within (fun _ => rfl) fun s => (Within.rfl' _ s).votedUpset (scopeOf_allows rfl)

theorem frames_i2cAWrite {addr data} : Frames (.i2cAWrite addr data) :=
  .of_within (fun _ => rfl) fun s => (Within.rfl' _ s).i2cWrite (scopeOf_full rfl rfl rfl)

theorem frames_i2cARead {addr reg count} : Frames (.i2cARead addr reg count) :=
  .of_within (fun _ => rfl) fun s => (Within.rfl' _ s).i2cRead (scopeOf_allows rfl) (scopeOf_openAt rfl) rfl

theorem frames_spiWrite {data} : Frames (.spiWrite data) :=
  .of_within (fun _ => rfl) fun s => (Within.rfl' _ s).spiWrite (scopeOf_allows rfl) (scopeOf_wide rfl) rfl

theorem frames_spiRead {addr count} : Frames (.spiRead addr count) :=
  .of_within (fun _ => rfl) fun s => (Within.rfl' _ s).spiRead (scopeOf_allows rfl) (scopeOf_openAt rfl) rfl

theorem frames_spiStatus {cmd} : Frames (.spiStatus cmd) :=
  .of_within (fun _ => rfl) fun s => (Within.rfl' _ s).spiStatusRow (scopeOf_allows rfl)

theorem frames_cueFire {port d beside} : Frames (.cueFire port d beside) :=
  .of_within (fun _ => rfl) fun s => (Within.rfl' _ s).cycleWith (scopeOf_allows rfl) (scopeOf_wide rfl) rfl

theorem frames_goFire {mask beside} : Frames (.goFire mask beside) :=
  .of_within (fun _ => rfl) fun s => (Within.rfl' _ s).cycleWith (scopeOf_allows rfl) (scopeOf_wide rfl) rfl

theorem frames_registerWrite {iface addr data beside} : Frames (.registerWrite iface addr data beside) :=
  .of_within (fun _ => rfl) fun s => (Within.rfl' _ s).writeBeside (scopeOf_allows rfl) (scopeOf_wide rfl) rfl

theorem frames_regifErrInfoRearm {iface beside} : Frames (.regifErrInfoRearm iface beside) :=
  .of_within (fun _ => rfl) fun s => (Within.rfl' _ s).cycleWith (scopeOf_allows rfl) (scopeOf_wide rfl) rfl

theorem frames_memErrInfoRearm {iface beside} : Frames (.memErrInfoRearm iface beside) :=
  .of_within (fun _ => rfl) fun s => (Within.rfl' _ s).cycleWith (scopeOf_allows rfl) (scopeOf_wide rfl) rfl

theorem frames_undefinedOpcode {c opcode} : Frames (.undefinedOpcode c opcode) :=
  .of_within (fun _ => rfl) fun s => (Within.rfl' _ s).undefinedOpcode

theorem frames_devNop {c} : Frames (.devNop c) :=
  .of_within (fun _ => rfl) fun s => (Within.rfl' _ s).hostCmd fun _ _ _ h => h.devNop

theorem frames_eventsLost : Frames (.eventsLost) :=
  .of_within (fun _ => rfl) fun s => (Within.rfl' _ s).drainLost

theorem frames_cmisLoad {c} : Frames (.cmisLoad c) :=
  .of_within (fun _ => rfl) fun s => (Within.rfl' _ s).hostCmd fun _ _ _ h => h.cmisLoad rfl

theorem frames_cmisPortBRead {addr reg count} : Frames (.cmisPortBRead addr reg count) :=
  .of_within (fun _ => rfl) fun s => (Within.rfl' _ s).cmisRead (scopeOf_allows rfl) rfl

theorem frames_cmisPortBWrite {addr reg data} : Frames (.cmisPortBWrite addr reg data) :=
  .of_within (fun _ => rfl) fun s => (Within.rfl' _ s).cmisWrite (scopeOf_allows rfl) rfl

theorem frames_cmisLogApply : Frames (.cmisLogApply) :=
  .of_within (fun _ => rfl) fun s => (Within.rfl' _ s).cmisApply (scopeOf_allows rfl) (scopeOf_wide rfl).any
      (scopeOf_wide rfl).opens (scopeOf_wide rfl).opens (scopeOf_wide rfl).openAt (scopeOf_wide rfl).opens
      (scopeOf_wide rfl).opens (scopeOf_wide rfl).cal

theorem frames_cmisShadowRefresh {bytes writable} : Frames (.cmisShadowRefresh bytes writable) :=
  .of_within (fun _ => rfl) fun s => (Within.rfl' _ s).shadowRefresh (scopeOf_allows rfl) rfl

theorem frames_mgmtReady {m} : Frames (.mgmtReady m) :=
  .of_within (fun _ => rfl) fun s => (Within.rfl' _ s).mgmtReady (scopeOf_allows rfl) (scopeOf_wide rfl) rfl

theorem frames_counterLoRead {iface i} : Frames (.counterLoRead iface i) :=
  .of_within (fun _ => rfl) fun s =>
    ((Within.rfl' _ s).counterLoRead (iface := iface) (i := i) (scopeOf_allows rfl)).withMgmt (scopeOf_allows rfl)

theorem frames_flowImageCopyDone : Frames .flowImageCopyDone :=
  .of_within (fun _ => rfl) fun s => (Within.rfl' _ s).withObs (scopeOf_allows rfl)

theorem frames_pllLockLoss {line region} : Frames (.pllLockLoss line region) :=
  .of_within (fun _ => rfl) fun s =>
    have hw := scopeOf_wide rfl
    have h := (Within.rfl' _ s).pllLockLoss (line := line) (b := region) (scopeOf_allows rfl) hw.openAt hw.opens hw.opens hw.any
    .ite (h.testsStop (scopeOf_allows rfl) hw.opens hw.opens hw.openAt hw.any hw.cal hw.clusters) h

theorem frames_jtagTapReset : Frames .jtagTapReset :=
  .of_within (fun _ => rfl) fun s => ((Within.rfl' _ s).withTest (scopeOf_allows rfl)).jtagPins (scopeOf_allows rfl)
    (scopeOf_wide rfl).opens (scopeOf_wide rfl).opens (scopeOf_wide rfl).any

/-! All commands. -/

/-- Every command stays within its frame, a request for an adaptation aside. -/
theorem frames_or_request : ∀ i : Instr, (∃ lane codes, i = .xadaptRequestReceived lane codes) ∨ Frames i
  | .xadaptRequestReceived lane codes => .inl ⟨lane, codes, rfl⟩
  | .snapCopyDone .. => .inr frames_snapCopyDone
  | .snapCtrlTake .. => .inr frames_snapCtrlTake
  | .snapCtrlAck .. => .inr frames_snapCtrlAck
  | .snapTake .. => .inr frames_snapTake
  | .snapRead .. => .inr frames_snapRead
  | .sampleSlotRaise .. => .inr frames_sampleSlotRaise
  | .berWindowClose .. => .inr frames_berWindowClose
  | .flowFrame .. => .inr frames_flowFrame
  | .flowReplayLookup .. => .inr frames_flowReplayLookup
  | .flowAgerVisit .. => .inr frames_flowAgerVisit
  | .flowDump .. => .inr frames_flowDump
  | .flowRelease .. => .inr frames_flowRelease
  | .flowFlush .. => .inr frames_flowFlush
  | .acquireComplete .. => .inr frames_acquireComplete
  | .acqToExpiry .. => .inr frames_acqToExpiry
  | .alignToExpiry .. => .inr frames_alignToExpiry
  | .probeToExpiry .. => .inr frames_probeToExpiry
  | .backoffExpiry .. => .inr frames_backoffExpiry
  | .laneRejoin .. => .inr frames_laneRejoin
  | .rejoinToExpiry .. => .inr frames_rejoinToExpiry
  | .linkRestart .. => .inr frames_linkRestart
  | .bdacFirstCode .. => .inr frames_bdacFirstCode
  | .bdacHoldEnd .. => .inr frames_bdacHoldEnd
  | .ditherUpdate => .inr frames_ditherUpdate
  | .bdacRange .. => .inr frames_bdacRange
  | .snsSyncWrite .. => .inr frames_snsSyncWrite
  | .snsSample .. => .inr frames_snsSample
  | .snsCoefWrite .. => .inr frames_snsCoefWrite
  | .snsCoefRead .. => .inr frames_snsCoefRead
  | .loopTick .. => .inr frames_loopTick
  | .loopClearHistory .. => .inr frames_loopClearHistory
  | .loopResume .. => .inr frames_loopResume
  | .loopTarget .. => .inr frames_loopTarget
  | .loopPreset .. => .inr frames_loopPreset
  | .loopRead .. => .inr frames_loopRead
  | .loopEngineRestart .. => .inr frames_loopEngineRestart
  | .calRun .. => .inr frames_calRun
  | .calAbort .. => .inr frames_calAbort
  | .calRelease .. => .inr frames_calRelease
  | .calDeferredStart .. => .inr frames_calDeferredStart
  | .calMeasurementEnd .. => .inr frames_calMeasurementEnd
  | .calCorrectionUpdate => .inr frames_calCorrectionUpdate
  | .calTempRecompute => .inr frames_calTempRecompute
  | .dacSkewMeasurementEnd .. => .inr frames_dacSkewMeasurementEnd
  | .bdacCalMeasurementEnd .. => .inr frames_bdacCalMeasurementEnd
  | .snsCalMeasurementEnd .. => .inr frames_snsCalMeasurementEnd
  | .ctleDwellEnd .. => .inr frames_ctleDwellEnd
  | .vgaMeasurement .. => .inr frames_vgaMeasurement
  | .vgaStep .. => .inr frames_vgaStep
  | .calHandover .. => .inr frames_calHandover
  | .sliceMonitorWindow .. => .inr frames_sliceMonitorWindow
  | .sliceFaultSwap .. => .inr frames_sliceFaultSwap
  | .lrxSliceRetire .. => .inr frames_lrxSliceRetire
  | .lrxSliceRestore .. => .inr frames_lrxSliceRestore
  | .hslSliceRetire .. => .inr frames_hslSliceRetire
  | .hslSliceRestore .. => .inr frames_hslSliceRestore
  | .sliceRestoreTestEnd .. => .inr frames_sliceRestoreTestEnd
  | .lockWindowEnd .. => .inr frames_lockWindowEnd
  | .losSet .. => .inr frames_losSet
  | .losClear .. => .inr frames_losClear
  | .spotCtrlStart .. => .inr frames_spotCtrlStart
  | .lrxSpotStart .. => .inr frames_lrxSpotStart
  | .spotCaptureEnd .. => .inr frames_spotCaptureEnd
  | .lrxSpotRead .. => .inr frames_lrxSpotRead
  | .eqUpdate .. => .inr frames_eqUpdate
  | .outlierWindowEnd .. => .inr frames_outlierWindowEnd
  | .eqWarmResume .. => .inr frames_eqWarmResume
  | .metricWindowEnd .. => .inr frames_metricWindowEnd
  | .leqStateRead .. => .inr frames_leqStateRead
  | .leqStateLoad .. => .inr frames_leqStateLoad
  | .cueSet .. => .inr frames_cueSet
  | .cueCancel .. => .inr frames_cueCancel
  | .cueRead .. => .inr frames_cueRead
  | .cueAgree .. => .inr frames_cueAgree
  | .cueAgreeTimeout .. => .inr frames_cueAgreeTimeout
  | .cueProposeResend .. => .inr frames_cueProposeResend
  | .hcAdjust .. => .inr frames_hcAdjust
  | .cueLatchWrite .. => .inr frames_cueLatchWrite
  | .swingStep .. => .inr frames_swingStep
  | .ltxLutWrite .. => .inr frames_ltxLutWrite
  | .ltxLutRead .. => .inr frames_ltxLutRead
  | .ltxLutClear .. => .inr frames_ltxLutClear
  | .xaStart .. => .inr frames_xaStart
  | .xaStop .. => .inr frames_xaStop
  | .xaStatsTimeout .. => .inr frames_xaStatsTimeout
  | .xaTrackTimer .. => .inr frames_xaTrackTimer
  | .xaGatherWindowEnd .. => .inr frames_xaGatherWindowEnd
  | .remapInstall .. => .inr frames_remapInstall
  | .scrubWord .. => .inr frames_scrubWord
  | .memRemap .. => .inr frames_memRemap
  | .memInject .. => .inr frames_memInject
  | .voltageGlitch => .inr frames_voltageGlitch
  | .clockGlitch => .inr frames_clockGlitch
  | .alarmNPulseEnd => .inr frames_alarmNPulseEnd
  | .trainingBurstEnd .. => .inr frames_trainingBurstEnd
  | .poolIdleTest .. => .inr frames_poolIdleTest
  | .fecFence .. => .inr frames_fecFence
  | .fecUnfence .. => .inr frames_fecUnfence
  | .unfenceTestEnd .. => .inr frames_unfenceTestEnd
  | .sdWindowEnd .. => .inr frames_sdWindowEnd
  | .hostToLineCodeword .. => .inr frames_hostToLineCodeword
  | .lineToHostCodeword .. => .inr frames_lineToHostCodeword
  | .hostMarkerGroup .. => .inr frames_hostMarkerGroup
  | .lineMarkerGroup .. => .inr frames_lineMarkerGroup
  | .tpcWindowEnd .. => .inr frames_tpcWindowEnd
  | .tpcSlip .. => .inr frames_tpcSlip
  | .helloTimer .. => .inr frames_helloTimer
  | .healthTimer .. => .inr frames_healthTimer
  | .asidePacketStart .. => .inr frames_asidePacketStart
  | .asidePacketEnd .. => .inr frames_asidePacketEnd
  | .preambleDetect .. => .inr frames_preambleDetect
  | .payloadCrcFail .. => .inr frames_payloadCrcFail
  | .helloReceived .. => .inr frames_helloReceived
  | .healthReceived .. => .inr frames_healthReceived
  | .tagPacketReceived .. => .inr frames_tagPacketReceived
  | .xadaptFragmentReceived .. => .inr frames_xadaptFragmentReceived
  | .cueProposeReceived .. => .inr frames_cueProposeReceived
  | .cueAckReceived .. => .inr frames_cueAckReceived
  | .loadingProposeReceived .. => .inr frames_loadingProposeReceived
  | .loadingConfirmReceived .. => .inr frames_loadingConfirmReceived
  | .loadingEvaluation .. => .inr frames_loadingEvaluation
  | .loadingGraceEnd .. => .inr frames_loadingGraceEnd
  | .authChallengeReceived .. => .inr frames_authChallengeReceived
  | .authResponseReceived .. => .inr frames_authResponseReceived
  | .partnerTimeout .. => .inr frames_partnerTimeout
  | .authChallengeTimer .. => .inr frames_authChallengeTimer
  | .asdBufSet .. => .inr frames_asdBufSet
  | .asdSend .. => .inr frames_asdSend
  | .asdRxRead .. => .inr frames_asdRxRead
  | .asdAuthStart .. => .inr frames_asdAuthStart
  | .authStartTimeout => .inr frames_authStartTimeout
  | .asdLoadReset .. => .inr frames_asdLoadReset
  | .sysPllLockLoss => .inr frames_sysPllLockLoss
  | .sysPllRelock => .inr frames_sysPllRelock
  | .refLost .. => .inr frames_refLost
  | .refPresent .. => .inr frames_refPresent
  | .refSlewDone .. => .inr frames_refSlewDone
  | .refRevertTimer .. => .inr frames_refRevertTimer
  | .clkRefRevert .. => .inr frames_clkRefRevert
  | .hslTrainTimeout .. => .inr frames_hslTrainTimeout
  | .hslTrackWindow .. => .inr frames_hslTrackWindow
  | .hslRetrain .. => .inr frames_hslRetrain
  | .wanderLimit .. => .inr frames_wanderLimit
  | .failoverTimer .. => .inr frames_failoverTimer
  | .clkModePllLock => .inr frames_clkModePllLock
  | .clkModeLockTimeout => .inr frames_clkModeLockTimeout
  | .goDiscard .. => .inr frames_goDiscard
  | .tstRehearse .. => .inr frames_tstRehearse
  | .rehearsalEnd .. => .inr frames_rehearsalEnd
  | .tstAbort .. => .inr frames_tstAbort
  | .tstMemTest .. => .inr frames_tstMemTest
  | .memTestEnd .. => .inr frames_memTestEnd
  | .tstDress .. => .inr frames_tstDress
  | .dressRehearsalEnd .. => .inr frames_dressRehearsalEnd
  | .testLimitExceeded .. => .inr frames_testLimitExceeded
  | .jtagInstructionUpdate .. => .inr frames_jtagInstructionUpdate
  | .watchdogService => .inr frames_watchdogService
  | .watchdogExpiry => .inr frames_watchdogExpiry
  | .lockstepMismatch => .inr frames_lockstepMismatch
  | .crystalEdgeLoss => .inr frames_crystalEdgeLoss
  | .crystalReturn => .inr frames_crystalReturn
  | .supplyWarnAssert .. => .inr frames_supplyWarnAssert
  | .supplyWarnRelease .. => .inr frames_supplyWarnRelease
  | .brownoutWindowClose => .inr frames_brownoutWindowClose
  | .pbRead .. => .inr frames_pbRead
  | .pbRelease .. => .inr frames_pbRelease
  | .pbFlashRead .. => .inr frames_pbFlashRead
  | .pbMark .. => .inr frames_pbMark
  | .pbFlashCopyStart => .inr frames_pbFlashCopyStart
  | .pbFlashCopyDone => .inr frames_pbFlashCopyDone
  | .powerOnReset .. => .inr frames_powerOnReset
  | .pinReset => .inr frames_pinReset
  | .supplyReset .. => .inr frames_supplyReset
  | .resetNRelease .. => .inr frames_resetNRelease
  | .rstWarm .. => .inr frames_rstWarm
  | .warmReset .. => .inr frames_warmReset
  | .rstMgmt .. => .inr frames_rstMgmt
  | .mgmtRestart .. => .inr frames_mgmtRestart
  | .rstPort .. => .inr frames_rstPort
  | .asdKeySet .. => .inr frames_asdKeySet
  | .asdKeyClear .. => .inr frames_asdKeyClear
  | .authOpen .. => .inr frames_authOpen
  | .authChallengeExpiry => .inr frames_authChallengeExpiry
  | .authRespond .. => .inr frames_authRespond
  | .authClose .. => .inr frames_authClose
  | .lcAdvance .. => .inr frames_lcAdvance
  | .lcDiagOpen .. => .inr frames_lcDiagOpen
  | .secOtpProgram .. => .inr frames_secOtpProgram
  | .secKeyRevoke .. => .inr frames_secKeyRevoke
  | .fwBegin .. => .inr frames_fwBegin
  | .fwChunk .. => .inr frames_fwChunk
  | .fwCommit .. => .inr frames_fwCommit
  | .fwActivate .. => .inr frames_fwActivate
  | .fwAbort .. => .inr frames_fwAbort
  | .setSave .. => .inr frames_setSave
  | .flashProgramDone => .inr frames_flashProgramDone
  | .imageHealthy => .inr frames_imageHealthy
  | .trialTimeout => .inr frames_trialTimeout
  | .pwrEnter .. => .inr frames_pwrEnter
  | .intermissionEntryDone => .inr frames_intermissionEntryDone
  | .pwrExit .. => .inr frames_pwrExit
  | .intermissionExitDone => .inr frames_intermissionExitDone
  | .darkSequencerStep .. => .inr frames_darkSequencerStep
  | .wakeAssert .. => .inr frames_wakeAssert
  | .rcTimerExpiry => .inr frames_rcTimerExpiry
  | .stageDoorWrite .. => .inr frames_stageDoorWrite
  | .stageDoorRead .. => .inr frames_stageDoorRead
  | .wakeFromDark .. => .inr frames_wakeFromDark
  | .thermalReading .. => .inr frames_thermalReading
  | .avsSlewStep => .inr frames_avsSlewStep
  | .avsReadback .. => .inr frames_avsReadback
  | .ringLayoutWrite .. => .inr frames_ringLayoutWrite
  | .dbCmdWrite .. => .inr frames_dbCmdWrite
  | .dbCplAckWrite .. => .inr frames_dbCplAckWrite
  | .dbEvtAckWrite .. => .inr frames_dbEvtAckWrite
  | .votedFieldUpset .. => .inr frames_votedFieldUpset
  | .i2cAWrite .. => .inr frames_i2cAWrite
  | .i2cARead .. => .inr frames_i2cARead
  | .spiWrite .. => .inr frames_spiWrite
  | .spiRead .. => .inr frames_spiRead
  | .spiStatus .. => .inr frames_spiStatus
  | .cueFire .. => .inr frames_cueFire
  | .goFire .. => .inr frames_goFire
  | .registerWrite .. => .inr frames_registerWrite
  | .regifErrInfoRearm .. => .inr frames_regifErrInfoRearm
  | .memErrInfoRearm .. => .inr frames_memErrInfoRearm
  | .undefinedOpcode .. => .inr frames_undefinedOpcode
  | .devNop .. => .inr frames_devNop
  | .eventsLost => .inr frames_eventsLost
  | .cmisLoad .. => .inr frames_cmisLoad
  | .cmisPortBRead .. => .inr frames_cmisPortBRead
  | .cmisPortBWrite .. => .inr frames_cmisPortBWrite
  | .cmisLogApply => .inr frames_cmisLogApply
  | .cmisShadowRefresh .. => .inr frames_cmisShadowRefresh
  | .mgmtReady .. => .inr frames_mgmtReady
  | .counterLoRead .. => .inr frames_counterLoRead
  | .flowImageCopyDone => .inr frames_flowImageCopyDone
  | .pllLockLoss .. => .inr frames_pllLockLoss
  | .jtagTapReset => .inr frames_jtagTapReset

theorem exec_keeps (i : Instr) (s t : State) (h : exec i s = .next t) : Keeps s t := by
  obtain ⟨lane, codes, rfl⟩ | hframes := frames_or_request i
  · exact keeps_xadaptRequestReceived s t h
  · exact hframes.keeps s t h

/-- A command of another family than the aside channel's stays within its frame. -/
theorem framed_of_family {i : Instr} (h : family i ≠ .aside) : Framed i := by
  obtain ⟨lane, codes, rfl⟩ | hframes := frames_or_request i
  · exact absurd rfl h
  · exact hframes.framed

/-- Settles O5: every command of these families stays within its footprint's scope. -/
theorem correctionClockingAndLinkFrames : Obligations.CorrectionClockingAndLinkFrames := by
  rintro i (h | h | h) <;> exact framed_of_family (by simp [h])

/-- Settles O6: every command of these families stays within its footprint's scope. -/
theorem receiverAndTransmitterFrames : Obligations.ReceiverAndTransmitterFrames := by
  rintro i (h | h) <;> exact framed_of_family (by simp [h])

/-- Settles O8: every command of these families stays within its footprint's scope. -/
theorem calibrationAndControlFrames : Obligations.CalibrationAndControlFrames := by
  rintro i (h | h) <;> exact framed_of_family (by simp [h])

/-- Settles O9: every command of these families stays within its footprint's scope. -/
theorem cueAndObservabilityFrames : Obligations.CueAndObservabilityFrames := by
  rintro i (h | h) <;> exact framed_of_family (by simp [h])

/-- Settles O10: every command of these families stays within its footprint's scope. -/
theorem managementAndStorageFrames : Obligations.ManagementAndStorageFrames := by
  rintro i (h | h) <;> exact framed_of_family (by simp [h])

/-- Settles O11: every command of these families stays within its footprint's scope. -/
theorem powerSecurityAndTestFrames : Obligations.PowerSecurityAndTestFrames := by
  rintro i (h | h | h) <;> exact framed_of_family (by simp [h])

/-! The crystal's cycle, and a whole step. -/

/-- The scope that has everything. -/
def everything : Scope := ⟨fun _ => True, fun _ => True, True, fun _ _ _ => trivial⟩

theorem everything_full : everything.Full := ⟨fun _ => trivial, fun _ => trivial, trivial⟩

theorem tick_keeps (s : State) : Keeps s (tick s) := by
  have h := (Within.rfl' everything s).timeCycle everything_full.allows
  have htick : Within everything s (tick s) :=
    .ite (.ite ((h.deviceCycle everything_full.allows everything_full.wide.opens everything_full.wide.openAt).cuesReach everything_full.allows) h)
      (.ite ((Within.rfl' _ s).withTime everything_full.allows) (.rfl' _ s))
  exact htick.keeps

/-- A step keeps the window's form and the fuses. -/
theorem step_keeps {s t : State} (h : step s = .next t) : Keeps { s with pending := t.pending } t := by
  unfold step at h
  split at h
  · next hnone =>
    have hkeeps : Keeps s t := by
      unfold idle at h
      split at h
      · exact exec_keeps _ s t h
      · cases h
        exact tick_keeps s
    exact ⟨hkeeps.window, hkeeps.fuses, rfl⟩
  · have hkeeps := exec_keeps _ _ t h
    exact ⟨hkeeps.window, hkeeps.fuses, rfl⟩

/-- Settles O13: every command and every cycle of the crystal keeps the window's form. -/
theorem windowWfKeptByStep : Obligations.WindowWfKeptByStep := fun _ _ hwf h => (step_keeps h).window hwf

/-- Settles O14: every command and every cycle of the crystal only burns fuses. -/
theorem fusesOnlyBurn : Obligations.FusesOnlyBurn := fun _ _ h => (step_keeps h).fuses

/-! Scopes that leave certain pieces and fields alone. -/

/-- Everything but these pieces of the state and the fields at these keys. -/
def keeping (ps : List Piece) (ks : List Nat) : Scope := ⟨(· ∉ ps), (· ∉ ks), True, fun _ _ _ => trivial⟩

section Keeping

variable {ps qs : List Piece} {ks : List Nat} {s t : State}

theorem keeping_allows (h : (qs.all fun q => !ps.contains q) = true := by decide +kernel) : (keeping ps ks).Allows qs :=
  fun p hp hmem => by
    have hno := List.all_eq_true.1 h p hp
    simp [hmem] at hno

theorem keeping_openAt {fs : List Field} {i : Nat} (h : ∀ f ∈ fs, ∀ j, j = 0 ∨ j < f.place.count2 → f.key i j ∉ ks) :
    (keeping ps ks).OpenAt fs i := h

theorem keeping_wide : (keeping ps []).Wide := fun _ _ => List.not_mem_nil

theorem Within.kept (h : Within (keeping ps ks) s t) (q : Piece) (hq : q ∈ ps := by decide +kernel) : q.same s t :=
  h.piece q (not_not.2 hq)

theorem Within.keptPart {p : Part} (h : Within (keeping p.pieces ks) s t) : p.same s t :=
  h.part fun q hq => not_not.2 (hq ▸ q.mem_pieces)

theorem Within.rd_kept (h : Within (keeping ps ks) s t) {f : Field} {i j : Nat} (hk : f.key i j ∈ ks) (hr : f.key i j ∉ reportKeys) :
    rd t f i j = rd s f i j := rd_eq_of_aGet (h.fld _ hr (not_not.2 hk))

end Keeping

/-- From s to t the house clock, the cycles and the show clocks stand. -/
structure ClocksKept (s t : State) : Prop where
  hc : t.time.hc = s.time.hc
  tick : t.time.tick = s.time.tick
  tx : t.time.tx = s.time.tx
  rx : t.time.rx = s.time.rx

namespace ClocksKept

theorem rfl' (s : State) : ClocksKept s s := ⟨rfl, rfl, rfl, rfl⟩

theorem trans {s t u : State} (h : ClocksKept s t) (g : ClocksKept t u) : ClocksKept s u :=
  ⟨g.hc.trans h.hc, g.tick.trans h.tick, g.tx.trans h.tx, g.rx.trans h.rx⟩

theorem of_within {s t : State} (h : Within (keeping [.time .hc, .time .tick, .time .tx, .time .rx] []) s t) : ClocksKept s t :=
  ⟨h.kept (.time .hc), h.kept (.time .tick), h.kept (.time .tx), h.kept (.time .rx)⟩

end ClocksKept

theorem deviceCycle_clocks (s : State) : ClocksKept s (deviceCycle s) :=
  .of_within ((Within.rfl' _ s).deviceCycle keeping_allows keeping_wide.opens keeping_wide.openAt)

theorem cuesReach_clocks (s : State) : ClocksKept s (cuesReach s) := ⟨rfl, rfl, rfl, rfl⟩

/-- What a cycle of the running crystal leaves of the clocks is what the time's own cycle leaves. -/
theorem tick_clocks {s : State} (h : s.time.crystalRuns = true) : ClocksKept (timeCycle s) (tick s) := by
  unfold tick
  rw [if_pos h]
  split
  · exact (deviceCycle_clocks _).trans (cuesReach_clocks _)
  · exact .rfl' _

theorem clockCycle_aligned {s : State} {p : Nat} {c : ShowClock} (h : c.freewheel = false) : clockCycle s p c = c := by
  simp [clockCycle, h]

/-- Settles O3: with nothing queued the step is the slot's command or one cycle of the crystal. -/
theorem emptyQueueTicks : Obligations.EmptyQueueTicks := by
  intro s hqueue
  have hstep : step s = idle s := by simp [step, hqueue]
  refine ⟨fun i hi => by rw [hstep, idle, hi], fun hslot => ⟨tick s, by rw [hstep, idle, hslot], ?_, fun hstill hmode => ?_,
    fun hruns => ?_⟩⟩
  · exact (tick_keeps s).pending.trans hqueue
  · simp [tick, hstill, hmode]
  · obtain ⟨hhc, htick, htx, hrx⟩ := tick_clocks hruns
    refine ⟨hhc, htick, fun p => ⟨fun haligned => ?_, fun haligned => ?_⟩⟩
    · rw [htx]
      simpa [timeCycle] using clockCycle_aligned haligned
    · rw [hrx]
      simpa [timeCycle] using clockCycle_aligned haligned

end Sys2Proof.Machine
end


section
/-! PROOFS. How a command completes: what the claims of completion share. -/

namespace Sys2Proof.Machine

open Sys2Proof

set_option Elab.async false

theorem runs_of_eq {i : Instr} {s u t : State} {P : State → Prop} (hexec : exec i s = .next u) (heq : u = t) (h : P t) :
    Runs i s P := ⟨t, heq ▸ hexec, h⟩

/-! Ring commands that Mexis takes. -/

section Taking

variable {i : Instr} {opcode : Nat} {masks : List (Nat × Nat)} {c : Cmd} {s u : State} {gate : State → Option (Nat × Nat)}
  {body : State → State × Reply} {r0 r1 key aux : Nat} {P : State → Prop}

/-- A command completes with OK where its own part ends so. -/
theorem completesOk_of_body (htaken : Taken opcode masks c s) (hexec : exec i s = .next (hostCmd opcode masks gate c body s))
    (hgate : gate (takenState opcode c s) = none) (hbody : body (takenState opcode c s) = (u, .done stOK 0 r0 r1)) (hP : P u) :
    CompletesOk i opcode c s r0 r1 P :=
  ⟨u, by rw [hexec, hostCmd_taken gate body htaken hgate, hbody, finish_done], hP⟩

/-- A command is in progress where its own part goes on. -/
theorem goesOn_of_body (htaken : Taken opcode masks c s) (hexec : exec i s = .next (hostCmd opcode masks gate c body s))
    (hgate : gate (takenState opcode c s) = none) (hbody : body (takenState opcode c s) = (u, .later key aux)) (hP : P u) :
    GoesOn i opcode c s key aux P :=
  ⟨u, by rw [hexec, hostCmd_taken gate body htaken hgate, hbody], hP⟩

/-- A command completes with OK where its own part ends so in every state that only reporting separates from this one. -/
theorem completesOk_of_reports {w : State → State} (htaken : Taken opcode masks c s)
    (hexec : exec i s = .next (hostCmd opcode masks gate c body s)) (hgate : ∀ v, OnlyReports s v → gate v = none)
    (hbody : ∀ v, OnlyReports s v → body v = (w v, .done stOK 0 r0 r1)) (hP : ∀ v, OnlyReports s v → P (w v)) :
    CompletesOk i opcode c s r0 r1 P :=
  completesOk_of_body htaken hexec (hgate _ (taken_reports ..)) (hbody _ (taken_reports ..)) (hP _ (taken_reports ..))

/-- A command is in progress where its own part goes on in every state that only reporting separates from this one. -/
theorem goesOn_of_reports {w : State → State} (htaken : Taken opcode masks c s)
    (hexec : exec i s = .next (hostCmd opcode masks gate c body s)) (hgate : ∀ v, OnlyReports s v → gate v = none)
    (hbody : ∀ v, OnlyReports s v → body v = (w v, .later key aux)) (hP : ∀ v, OnlyReports s v → P (w v)) :
    GoesOn i opcode c s key aux P :=
  goesOn_of_body htaken hexec (hgate _ (taken_reports ..)) (hbody _ (taken_reports ..)) (hP _ (taken_reports ..))

theorem OnlyReports.bulkBad {v : State} (h : OnlyReports s v) (off len : Nat) : bulkBad v off len = Machine.bulkBad s off len := by
  simp only [Machine.bulkBad, h.bulkEnd]

@[simp] theorem takenState_bulkEnd : bulkEnd (takenState opcode c s) = bulkEnd s := (taken_reports opcode c s).bulkEnd

/-- What Mexis reads of a command in the state in which it is taken is what it reads before. -/
theorem takenState_bulkBad (off len : Nat) : bulkBad (takenState opcode c s) off len = bulkBad s off len := by
  simp only [bulkBad, takenState_bulkEnd]

end Taking

theorem bulkBad_eq_false {s : State} {off len : Nat} (h : off + len ≤ bulkEnd s) : bulkBad s off len = false :=
  decide_eq_false (Nat.not_lt.2 h)

/-- A word that the window was given reads back. -/
theorem winWord_putWords (s : State) (a : Nat) (ws : List Nat) {k : Nat} (h : k < ws.length) :
    winWord (putWords s a ws).mgmt.window (a + 4 * k) = ws[k] % 2 ^ 32 := winWord_winPutWords ws _ a h

/-! Fields of the same register array, or of arrays with one stride. -/

theorem rd_wr_apart {f g : Field} (s : State) (v i : Nat) {j j' : Nat}
    (h : f.place.stride1 = g.place.stride1 ∧ g.key 0 j' ≠ f.key 0 j := by decide) : rd (wr s f v i j) g i j' = rd s g i j' := by
  obtain ⟨hstride, hkey⟩ := h
  refine rd_wr_other _ _ _ _ _ _ _ _ ?_
  rw [key_eq_add f, key_eq_add g, hstride]
  omega

/-- Fields whose keys do not meet, at any two first indices that they have. -/
theorem rd_wr_far {f g : Field} (s : State) (v : Nat) {i j i' j' : Nat} (hi : i < f.place.count1) (hi' : i' < g.place.count1)
    (h : keysApart (f, j) (g, j') = true ∧ (f, j) ≠ (g, j') := by decide) : rd (wr s f v i j) g i' j' = rd s g i' j' :=
  rd_wr_other _ _ _ _ _ _ _ _ fun e => h.2 (sameKeySameSlot_of_apart h.1 i i' hi hi' e.symm)

/-- A field at another first index. -/
theorem rd_wr_index {f : Field} (s : State) (v j : Nat) {i i' : Nat} (hne : i' ≠ i) (h : f.place.stride1 ≠ 0 := by decide) :
    rd (wr s f v i j) f i' j = rd s f i' j := by
  refine rd_wr_other _ _ _ _ _ _ _ _ fun e => hne ?_
  rw [key_eq_add f i, key_eq_add f i'] at e
  exact Nat.eq_of_mul_eq_mul_right (by omega) (Nat.add_left_cancel e)

theorem rd_wrB_far {f g : Field} (s : State) (b : Bool) {i j i' j' : Nat} (hi : i < f.place.count1) (hi' : i' < g.place.count1)
    (h : keysApart (f, j) (g, j') = true ∧ (f, j) ≠ (g, j') := by decide) : rd (wrB s f b i j) g i' j' = rd s g i' j' :=
  rd_wr_far s _ hi hi' h

theorem rd_wrB_apart {f g : Field} (s : State) (b : Bool) (i : Nat) {j j' : Nat}
    (h : f.place.stride1 = g.place.stride1 ∧ g.key 0 j' ≠ f.key 0 j := by decide) : rd (wrB s f b i j) g i j' = rd s g i j' :=
  rd_wr_apart s _ i h

theorem rd_inc_apart {f g : Field} (s : State) (n i : Nat) {j j' : Nat}
    (h : f.place.stride1 = g.place.stride1 ∧ g.key 0 j' ≠ f.key 0 j := by decide) : rd (inc s f n i j) g i j' = rd s g i j' :=
  rd_wr_apart s _ i h

theorem rd_inc_same (s : State) (f : Field) (n i j : Nat) : rd (inc s f n i j) f i j = (rd s f i j + n) % 2 ^ f.width := rd_wr_same ..

theorem rd_wrB_same (s : State) (f : Field) (b : Bool) (i j : Nat) (hw : f.width ≠ 0 := by decide) :
    rd (wrB s f b i j) f i j = b2n b := by
  refine (rd_wr_same ..).trans (Nat.mod_eq_of_lt ?_)
  have htwo : 2 ≤ 2 ^ f.width := Nat.le_self_pow hw 2
  cases b <;> simp [b2n] <;> omega

/-! Fields that reporting writes at no first index. -/

/-- No key of the field at this second index is one that reporting writes: those lie below its register, or at another bit, or off its
stride. -/
abbrev Field.Quiet (f : Field) (j : Nat) : Prop := ∀ k ∈ reportKeys, k / 32 < f.place.base ∨ k % 32 ≠ f.lo % 32 ∨
  (k / 32) % f.place.stride1 ≠ (f.place.base + j * f.place.stride2) % f.place.stride1

theorem Field.Quiet.key {f : Field} {j : Nat} (h : f.Quiet j) (hlo : f.lo < 32) (i : Nat) : f.key i j ∉ reportKeys := by
  intro hk
  have hdiv : f.key i j / 32 = f.place.base + j * f.place.stride2 + f.place.stride1 * i := by
    simp only [Field.key, Nat.mul_comm f.place.stride1]
    omega
  rcases h _ hk with hlow | hbit | hstride
  · omega
  · simp only [Field.key] at hbit
    omega
  · rw [hdiv, Nat.add_mul_mod_self_left] at hstride
    exact hstride rfl

theorem OnlyReports.rd_quiet {s t : State} (h : OnlyReports s t) {f : Field} {i j : Nat}
    (hq : f.Quiet j ∧ f.lo < 32 := by decide) : Machine.rd t f i j = Machine.rd s f i j := h.rd f i j (hq.1.key hq.2 i)

/-- No key of the field at this second index is one that reporting writes: those lie below or above its keys. -/
abbrev Field.Clear (f : Field) (j : Nat) : Prop := ∀ k ∈ reportKeys, k < f.key 0 j ∨ f.key (f.place.count1 - 1) j < k

theorem Field.Clear.key {f : Field} {j : Nat} (h : f.Clear j) {i : Nat} (hi : i < f.place.count1) : f.key i j ∉ reportKeys := by
  intro hk
  have hlast := key_le_last f j hi
  have hfirst := key_eq_add f i j
  rcases h _ hk with hlow | hhigh <;> omega

theorem OnlyReports.rd_clear {s t : State} (h : OnlyReports s t) {f : Field} {i j : Nat} (hi : i < f.place.count1)
    (hq : f.Clear j := by decide) : Machine.rd t f i j = Machine.rd s f i j := h.rd f i j (hq.key hi)

theorem raiseEvent_rd_quiet {f : Field} (s : State) (e : Ev) (i : Nat) {j : Nat} (hq : f.Quiet j ∧ f.lo < 32 := by decide) :
    rd (raiseEvent s e) f i j = rd s f i j := (raiseEvent_reports s e).rd_quiet hq

theorem bump_rd_quiet {f : Field} (s : State) (k n i : Nat) {j : Nat} (hq : f.Quiet j ∧ f.lo < 32 := by decide) :
    rd (bump s k n) f i j = rd s f i j := (bump_reports s k n).rd_quiet hq

end Sys2Proof.Machine
end

section
/-! PROOFS. Snapshots, counters and windows (R289, R292-R297, R309). -/

namespace Sys2Proof.Machine

open Sys2Proof

set_option Elab.async false

/-! Snapshots. -/

theorem nextBank_lt (s : State) : nextBank s < 2 := by
  unfold nextBank
  split <;> decide

theorem ObsState.of_still {a b : ObsState} (h : a.still = b.still) :
    a.banks = b.banks ∧ a.lastBank = b.lastBank ∧ a.seq = b.seq ∧ a.full = b.full := by
  cases a
  cases b
  simp only [ObsState.still, ObsState.mk.injEq] at h
  simp [h]

theorem snapBank_of_still {s t : State} (h : t.obs.still = s.obs.still) (b : Nat) : snapBank t b = snapBank s b := by
  simp only [snapBank, (ObsState.of_still h).1]

theorem snapBank_setSnapBank {s : State} {b : Nat} (x : SnapBank) (hb : b < 2) : snapBank (setSnapBank s b x) b = x :=
  vGet_vSet_same _ _ _ _ hb

/-- The end of a copy leaves the observer's state but for the bank's completion mark (R294). -/
theorem snapCopyDone_of_copying {s : State} {b : Nat} (hb : b < 2) (h : bankCopying s b = true) :
    (snapBank (snapCopyDone b s) b).complete = true ∧ (snapBank (snapCopyDone b s) b).values = (snapBank s b).values ∧
      (snapCopyDone b s).obs.seq = s.obs.seq := by
  have hframe : ∀ (u : State) (e : Ev) (es : List Ev) code sub r0 r1,
      Within (keeping Part.obs.pieces []) u (completeProg (es.foldl raiseEvent (raiseEvent u e)) 0x0601 b code sub r0 r1) :=
    fun u e es code sub r0 r1 =>
      ((Within.rfl' _ u).raiseEvent.foldl fun _ _ _ ht => ht.raiseEvent).completeProg keeping_allows
  set x : SnapBank := { snapBank s b with
    complete := true, header := headerPut (snapBank s b).header 0 ((aGet (snapBank s b).header 0).getD 0 + 1) } with hx
  have hkept : (snapCopyDone b s).obs.still = (setSnapBank s b x).obs.still := by
    simp only [snapCopyDone, h, if_true]
    rw [← List.foldl_map (f := fun i => ev 0x8604 (locCoreFn 1 i) i) (g := raiseEvent)]
    exact (hframe ..).keptPart
  have hbank : snapBank (snapCopyDone b s) b = x := (snapBank_of_still hkept b).trans (snapBank_setSnapBank x hb)
  obtain ⟨-, -, hseq, -⟩ := ObsState.of_still hkept
  exact ⟨by rw [hbank], by rw [hbank], hseq⟩

/-- What a snapshot that is taken captures, and where (R292-R295). -/
theorem takeSnapshot_taken {s : State} (src : SnapSource) (hfull : vGet s.obs.full (nextBank s) false = false)
    (hcopy : bankCopying s (nextBank s) = false) :
    (takeSnapshot s src).2 = .taken (nextBank s) ∧
    (takeSnapshot s src).1.obs.lastBank = nextBank s ∧ (takeSnapshot s src).1.obs.seq = s.obs.seq + 1 ∧
    (takeSnapshot s src).1.obs.full = vSet s.obs.full (nextBank s) (rd s F.SNAP_CTRL_ACK_REQ == 1) ∧
    (snapBank (takeSnapshot s src).1 (nextBank s)).values = countersCaptured s (src.moment.getD (momentNow s)).counters ∧
    bankCopying (takeSnapshot s src).1 (nextBank s) = true := by
  have hframe : ∀ (u : State) (k : Nat) (as : List Nat) (found : List (Nat × CounterRead)), Within (keeping Part.obs.pieces []) u
      (bump (found.foldl counterReport (bankWrittenAll u k as)) 0x740 1) := fun u k as found =>
    ((Within.rfl' _ u).bankWrittenAll.foldl fun _ _ _ ht => ht.counterReport).bump
  have hlt : nextBank s < 2 := nextBank_lt s
  simp only [takeSnapshot, hfull, hcopy, Bool.or_self, Bool.false_eq_true, if_false]
  generalize hu : ({ List.foldl _ s _ with obs := _ } : State) = u
  have hstill := (hframe u (61 + nextBank s) (List.range 2112) (countersFound s)).keptPart
  have hbank := snapBank_of_still hstill (nextBank s)
  obtain ⟨-, hlast, hseq, hfulls⟩ := ObsState.of_still hstill
  have hvalues : (snapBank u (nextBank s)).values = countersCaptured s (src.moment.getD (momentNow s)).counters := by
    rw [← hu]
    simp only [snapBank, vGet_vSet_same _ _ _ _ hlt]
  have hcopying : bankCopying u (nextBank s) = true := by
    rw [← hu]
    simp [bankCopying, snapBank, vGet_vSet_same _ _ _ _ hlt]
  refine ⟨trivial, ?_, ?_, ?_, ?_, ?_⟩
  · rw [hlast, ← hu]
  · rw [hseq, ← hu]
  · rw [hfulls, ← hu]
  · rw [hbank, hvalues]
  · rwa [bankCopying, hbank]

/-- SNAP_CTRL's write before a snapshot (R292): its fields and the locks. -/
def snapCtrlAcked (s : State) (flowImg ackReq ack1 ack0 : Bool) : State :=
  snapAck (wrB (wrB s F.SNAP_CTRL_FLOW_IMG flowImg) F.SNAP_CTRL_ACK_REQ ackReq) ackReq ack1 ack0

theorem snapAck_full (s : State) (ackReq ack1 ack0 : Bool) (b : Nat) :
    vGet (snapAck s ackReq ack1 ack0).obs.full b false =
      (ackReq && vGet s.obs.full b false && !(if b = 0 then ack0 else ack1)) := by
  match b with
  | 0 => simp [snapAck, vGet]
  | 1 => simp [snapAck, vGet]
  | b + 2 => simp [snapAck, vGet]

theorem snapCtrlAcked_ackReq (s : State) (flowImg ackReq ack1 ack0 : Bool) :
    rd (snapCtrlAcked s flowImg ackReq ack1 ack0) F.SNAP_CTRL_ACK_REQ = b2n ackReq :=
  (rd_wr_same (wrB s F.SNAP_CTRL_FLOW_IMG flowImg) F.SNAP_CTRL_ACK_REQ (b2n ackReq) 0 0).trans (by cases ackReq <;> rfl)

theorem snapCtrlAcked_flowImg (s : State) (flowImg ackReq ack1 ack0 : Bool) :
    rd (snapCtrlAcked s flowImg ackReq ack1 ack0) F.SNAP_CTRL_FLOW_IMG = b2n flowImg :=
  ((rd_wr_other _ _ _ _ _ _ _ _ (by decide)).trans (rd_wr_same s F.SNAP_CTRL_FLOW_IMG (b2n flowImg) 0 0)).trans
    (by cases flowImg <;> rfl)

/-- A snapshot's words as SNAP_READ stores them: header, then each counter's two words. -/
theorem getElem?_flatMap_pair {α β : Type} (f g : α → β) (l : List α) (k : Nat) :
    (l.flatMap fun x => [f x, g x])[2 * k]? = l[k]?.map f ∧ (l.flatMap fun x => [f x, g x])[2 * k + 1]? = l[k]?.map g := by
  induction l generalizing k with
  | nil => simp
  | cons x l ih =>
    cases k with
    | zero => simp
    | succ k => simpa [Nat.mul_succ] using ih k

theorem isPoisoned_putWords (s : State) {k : Nat} (a : Nat) (ws : List Nat) (x : Nat) (h : k ≠ 8) :
    isPoisoned (putWords s a ws) k x = isPoisoned s k x := by
  have hbank : bankOf (putWords s a ws) k = bankOf s k := vGet_vSet_other _ _ _ h
  simp only [isPoisoned, wordValid, hbank, putWords_sec]

theorem bankHeader_of_putWords (s : State) (a : Nat) (ws : List Nat) {b : Nat} (k : Nat) :
    bankHeader (putWords s a ws) b k = bankHeader s b k := by
  have hpoison : ∀ x, isPoisoned (putWords s a ws) (61 + b) x = isPoisoned s (61 + b) x := fun x =>
    isPoisoned_putWords s a ws x (by omega)
  simp only [bankHeader, hpoison, snapBank, putWords_obs]

theorem bankCounter_of_putWords (s : State) (a : Nat) (ws : List Nat) {b : Nat} (k : Nat) :
    bankCounter (putWords s a ws) b k = bankCounter s b k := by
  have hpoison : ∀ x, isPoisoned (putWords s a ws) (61 + b) x = isPoisoned s (61 + b) x := fun x =>
    isPoisoned_putWords s a ws x (by omega)
  simp only [bankCounter, hpoison, snapBank, putWords_obs]

/-- The words that SNAP_READ stores. -/
def snapWords (s : State) (b : Nat) (is : List Nat) : List Nat :=
  (List.range 128).map (bankHeader s b) ++ is.flatMap fun i => [bankCounter s b i % 2 ^ 32, bankCounter s b i / 2 ^ 32]

theorem snapWords_getElem? (s : State) (b from' n : Nat) :
    (∀ k, k < 128 → (snapWords s b ((List.range n).map (from' + ·)))[k]? = some (bankHeader s b k)) ∧
    ∀ k, k < n → (snapWords s b ((List.range n).map (from' + ·)))[128 + 2 * k]? = some (bankCounter s b (from' + k) % 2 ^ 32) ∧
      (snapWords s b ((List.range n).map (from' + ·)))[128 + (2 * k + 1)]? = some (bankCounter s b (from' + k) / 2 ^ 32) := by
  have hhead : ((List.range 128).map (bankHeader s b)).length = 128 := by simp
  refine ⟨fun k hk => ?_, fun k hk => ?_⟩
  · rw [snapWords, List.getElem?_append_left (by omega)]
    simp [hk]
  · obtain ⟨hlow, hhigh⟩ := getElem?_flatMap_pair (fun i => bankCounter s b i % 2 ^ 32) (fun i => bankCounter s b i / 2 ^ 32)
      ((List.range n).map (from' + ·)) k
    have hentry : ((List.range n).map (from' + ·))[k]? = some (from' + k) := by simp [hk]
    rw [hentry] at hlow hhigh
    constructor
    · rw [snapWords, List.getElem?_append_right (by omega), hhead, Nat.add_sub_cancel_left]
      exact hlow
    · rw [snapWords, List.getElem?_append_right (by omega), hhead, Nat.add_sub_cancel_left]
      exact hhigh

theorem winWord_putWords_of_getElem? (s : State) (a : Nat) (ws : List Nat) {k v : Nat} (h : ws[k]? = some v) :
    winWord (putWords s a ws).mgmt.window (a + 4 * k) = v % 2 ^ 32 := by
  obtain ⟨hk, rfl⟩ := List.getElem?_eq_some_iff.1 h
  exact winWord_putWords s a ws hk

/-- The state in which SNAP_READ has read the bank's words. -/
def snapBankRead (s : State) (b from' n : Nat) : State :=
  bankRead s b ((List.range n).map (from' + ·) ++ (List.range 64).map (2048 + ·))

theorem snapBankRead_banks (s : State) (b from' n : Nat) : (snapBankRead s b from' n).obs.banks = s.obs.banks := by
  unfold snapBankRead bankRead
  split
  · exact eccReadAll_obs_banks ..
  · rfl

theorem snapRead_body {s : State} {c : Cmd} (hword : c.w 5 % 4 = 0) (hcount : c.w 3 + c.w 4 ≤ 2048)
    (hrange : c.w 5 + (512 + 8 * c.w 4) ≤ bulkEnd s) (hwritten : (snapBank s (c.w 2)).written = true)
    (hcomplete : (snapBank s (c.w 2)).complete = true) :
    snapRead c s = (putWords (snapBankRead s (c.w 2) (c.w 3) (c.w 4)) (windowBase + c.w 5)
      (snapWords (snapBankRead s (c.w 2) (c.w 3) (c.w 4)) (c.w 2) ((List.range (c.w 4)).map (c.w 3 + ·))),
      .done stOK 0 (512 + 8 * c.w 4) 0) := by
  unfold snapRead
  rw [withChecks_pass]
  · rfl
  · simp [firstFail, hword, Nat.not_lt.2 hcount, bulkBad_eq_false hrange, hwritten, hcomplete]

/-! Counters, sampling slots and windows. -/

theorem eccRead_of_clean {s : State} {k a : Nat} (hpoison : isPoisoned s k a = false) (herrs : wordErrs s k a = 0) :
    eccRead s k a = (s, false) := by
  unfold eccRead
  rw [hpoison, herrs]
  simp only [Bool.false_eq_true, if_false]
  split
  · rfl
  · rfl

theorem counterLoRead_of_clean {s : State} {i : Nat} (iface : Iface) (hpoison : isPoisoned s 60 i = false)
    (herrs : wordErrs s 60 i = 0) :
    counterLoRead iface i s =
      ({ s with obs := { s.obs with hiLatch := vSet s.obs.hiLatch iface.num (counter s i / 2 ^ 32) } }, counter s i % 2 ^ 32) := by
  simp [counterLoRead, eccRead_of_clean hpoison herrs]

/-- No count changes when a sampling slot last raised its event. -/
theorem slotDebts_lastRaise (s : State) (i old n : Nat) (k : Fin 32) :
    (vGet (slotDebts s i old n) k .reset).lastRaise = (vGet s.obs.slots k .reset).lastRaise := by
  simp only [slotDebts, vGet]
  simp only [Option.getD_some, Fin.is_lt, Vector.getElem?_eq_getElem, Vector.getElem_ofFn]
  split <;> rfl

/-! Events and the prompt book leave the observer's state as it is. -/

theorem curtain_obs (s : State) (trigger code l : Nat) (d1 : Option Nat) : (curtain s trigger code l d1).obs = s.obs := by
  unfold curtain
  simp only
  split
  · refine (raiseEvent_obs ..).trans ?_
    split <;> rfl
  · exact raiseEvent_obs ..

theorem announceUncorr_obs (count : State → State) (s : State) (k a : Nat) (scrub : Bool) :
    (announceUncorr count s k a scrub).obs = (count s).obs := by
  refine (curtain_obs ..).trans ((raiseEvent_obs ..).trans ?_)
  split <;> rfl

/-- Between the states the sampling slot's last event stands (R296). -/
def LastRaiseKept (k : Fin 32) (s t : State) : Prop :=
  (vGet t.obs.slots k .reset).lastRaise = (vGet s.obs.slots k .reset).lastRaise

theorem LastRaiseKept.of_obs {k : Fin 32} {s t : State} (h : t.obs = s.obs) : LastRaiseKept k s t := by
  rw [LastRaiseKept, h]

theorem bumpRaw_lastRaise (k : Fin 32) (s : State) (i n : Nat) : LastRaiseKept k s (bumpRaw s i n) := by
  unfold bumpRaw
  split
  · rfl
  · exact slotDebts_lastRaise ..

theorem bumpBy_lastRaise (k : Fin 32) (m : Nat) (s : State) (i n : Nat) : LastRaiseKept k s (bumpBy m s i n) := by
  induction m generalizing s i n with
  | zero => exact bumpRaw_lastRaise ..
  | succ m ih =>
    unfold bumpBy
    split
    · exact bumpRaw_lastRaise ..
    · exact (ih ..).trans (bumpRaw_lastRaise ..)
    · exact (ih ..).trans (bumpRaw_lastRaise k (counterRestart s i false) i n)
    · exact (LastRaiseKept.of_obs (announceUncorr_obs ..)).trans ((ih ..).trans (bumpRaw_lastRaise k (counterRestart s i true) i n))

theorem bump_lastRaise (k : Fin 32) (s : State) (i n : Nat) : LastRaiseKept k s (bump s i n) := by
  unfold bump
  split
  · rfl
  · exact bumpBy_lastRaise ..

theorem sampleSlotRaise_lastRaise {s : State} {k : Fin 32} (howed : (vGet s.obs.slots k .reset).owed ≠ 0)
    (hsince : sinceNs s (vGet s.obs.slots k .reset).lastRaise 10000 = true) :
    (vGet (sampleSlotRaise k s).obs.slots k .reset).lastRaise = some s.time.tick := by
  unfold sampleSlotRaise
  rw [if_pos ⟨howed, hsince⟩]
  refine (bump_lastRaise k _ _ _).trans ((LastRaiseKept.of_obs (raiseEvent_obs ..)).trans ?_)
  simp [vGet_vSet_same _ _ _ _ k.isLt]

/-- The state that a window's close leaves, with the estimate that it shows (R297). -/
def berClosed (s : State) (n v : Nat) (na : Bool) : State :=
  let shown := wr (wrB (wrB (inc (takeFree s) F.CNT_BER_SEQ 1 n) F.CNT_BER_UNDECODED (vGet s.obs.ber n .reset).undecoded n)
    F.CNT_BER_NA na n) F.CNT_BER_LOG v n
  let next : BerWindow := ⟨counter s (cntLine n 15), counter s (cntLine n 13), counter s (cntLine n 14), s.time.tick, false⟩
  { shown with obs := { shown.obs with ber := vSet shown.obs.ber n next } }

theorem berWindowClose_of_due {s : State} {n : Nat}
    (h : 2 ^ 30 ≤ (counter s (cntLine n 15) + 2 ^ 48 - (vGet s.obs.ber n .reset).bits) % 2 ^ 48 ∨
      sinceNs s (some (vGet s.obs.ber n .reset).opened) 100000000 = true) :
    ∃ v na, berWindowClose n s = berClosed s n v na := ⟨_, _, if_pos h⟩

theorem berClosed_shows (s : State) (n : Fin 8) (v : Nat) (na : Bool) :
    rd (berClosed s n v na) F.CNT_BER_SEQ n = (rd s F.CNT_BER_SEQ n + 1) % 2 ^ F.CNT_BER_SEQ.width ∧
      rd (berClosed s n v na) F.CNT_BER_UNDECODED n = b2n (vGet s.obs.ber n .reset).undecoded ∧
      (vGet (berClosed s n v na).obs.ber n .reset).opened = s.time.tick ∧
      (vGet (berClosed s n v na).obs.ber n .reset).bits = counter s (cntLine n 15) := by
  refine ⟨?_, ?_, congrArg BerWindow.opened (vGet_vSet_same _ _ _ _ n.isLt), congrArg BerWindow.bits (vGet_vSet_same _ _ _ _ n.isLt)⟩
  · change rd (wr (wrB (wrB (inc (takeFree s) _ _ _) _ _ _) _ _ _) _ _ _) _ _ = _
    simp (disch := decide) only [rd_wr_apart, rd_wrB_apart, rd_inc_same]
    rfl
  · change rd (wr (wrB (wrB (inc (takeFree s) _ _ _) _ _ _) _ _ _) _ _ _) _ _ = _
    simp (disch := decide) only [rd_wr_apart, rd_wrB_apart, rd_wrB_same]

theorem snapCtrlTake_runs {s : State} {flowImg ackReq ack1 ack0 : Bool}
    (hfull : vGet (snapAck s ackReq ack1 ack0).obs.full (nextBank s) false = false) (hcopy : bankCopying s (nextBank s) = false) :
    Runs (.snapCtrlTake flowImg ackReq ack1 ack0) s fun t =>
      t.obs.lastBank = nextBank s ∧ t.obs.seq = s.obs.seq + 1 ∧ (snapBank t (nextBank s)).values = countersCaptured s s.obs.counters ∧
        bankCopying t (nextBank s) = true ∧ vGet t.obs.full (nextBank s) false = ackReq := by
  obtain ⟨-, hlast, hseq, hlock, hvalues, hcopying⟩ := takeSnapshot_taken (s := snapCtrlAcked s flowImg ackReq ack1 ack0) .plain
    hfull hcopy
  refine ⟨_, rfl, hlast, hseq, hvalues, hcopying, ?_⟩
  refine (congrArg (vGet · _ false) hlock).trans ((vGet_vSet_same _ _ _ _ (nextBank_lt s)).trans ?_)
  rw [snapCtrlAcked_ackReq]
  cases ackReq <;> rfl

/-- A snapshot that no cue timed captures the counters of now. -/
theorem plain_counters (s : State) : (SnapSource.plain.moment.getD (momentNow s)).counters = s.obs.counters := rfl

theorem snapTake_of_taken {s : State} {b : Nat} (h : (takeSnapshot s .plain).2 = .taken b) :
    snapTake s = ((takeSnapshot s .plain).1, .later b 0) := by
  unfold snapTake
  generalize takeSnapshot s .plain = r at h
  obtain ⟨t, q⟩ := r
  cases h
  rfl

theorem snapTake_goesOn {s : State} {c : Cmd} (htaken : Taken 0x0601 [] c s) (hfull : vGet s.obs.full (nextBank s) false = false)
    (hcopy : bankCopying s (nextBank s) = false) :
    GoesOn (.snapTake c) 0x0601 c s (nextBank s) 0 fun u =>
      u.obs.lastBank = nextBank s ∧ u.obs.seq = s.obs.seq + 1 ∧ (snapBank u (nextBank s)).values =
        countersCaptured (takenState 0x0601 c s) (takenState 0x0601 c s).obs.counters := by
  have hbank : nextBank (takenState 0x0601 c s) = nextBank s := by simp [nextBank]
  obtain ⟨htook, hlast, hseq, -, hvalues, -⟩ := takeSnapshot_taken (s := takenState 0x0601 c s) .plain
    (by rwa [hbank, takenState_obs_full]) (by rw [hbank]; simpa [bankCopying, snapBank] using hcopy)
  rw [hbank] at htook hlast hvalues
  rw [plain_counters] at hvalues
  rw [takenState_obs_seq] at hseq
  refine goesOn_of_body htaken rfl rfl (snapTake_of_taken htook) ⟨hlast, hseq, hvalues⟩

theorem snapRead_completes {s : State} {c : Cmd} (htaken : Taken 0x0602 [(2, 1), (3, 0x7FF), (4, 0xFFFFFFFF), (5, 0xFFFFFFFF)] c s)
    (hword : c.w 5 % 4 = 0) (hcount : c.w 3 + c.w 4 ≤ 2048) (hrange : c.w 5 + (512 + 8 * c.w 4) ≤ bulkEnd s)
    (hwritten : (snapBank s (c.w 2)).written = true) (hcomplete : (snapBank s (c.w 2)).complete = true) :
    CompletesOk (.snapRead c) 0x0602 c s (512 + 8 * c.w 4) 0 fun u =>
      (∀ k, k < 128 → winWord u.mgmt.window (windowBase + c.w 5 + 4 * k) = bankHeader u (c.w 2) k % 2 ^ 32) ∧
      (∀ k, k < c.w 4 →
        winWord u.mgmt.window (windowBase + c.w 5 + 512 + 8 * k) = bankCounter u (c.w 2) (c.w 3 + k) % 2 ^ 32 ∧
        winWord u.mgmt.window (windowBase + c.w 5 + 516 + 8 * k) = bankCounter u (c.w 2) (c.w 3 + k) / 2 ^ 32 % 2 ^ 32) ∧
      u.obs.banks = s.obs.banks := by
  refine completesOk_of_body htaken rfl rfl (snapRead_body hword hcount (by simpa using hrange)
    (by simpa [snapBank] using hwritten) (by simpa [snapBank] using hcomplete)) ?_
  set v := snapBankRead (takenState 0x0602 c s) (c.w 2) (c.w 3) (c.w 4) with hv
  have hbanks : v.obs.banks = s.obs.banks := (snapBankRead_banks ..).trans (takenState_obs_banks ..)
  clear_value v
  obtain ⟨hhead, hcounts⟩ := snapWords_getElem? v (c.w 2) (c.w 3) (c.w 4)
  refine ⟨fun k hk => ?_, fun k hk => ⟨?_, ?_⟩, hbanks⟩
  · rw [winWord_putWords_of_getElem? _ _ _ (hhead k hk), bankHeader_of_putWords]
  · rw [show windowBase + c.w 5 + 512 + 8 * k = windowBase + c.w 5 + 4 * (128 + 2 * k) by omega,
      winWord_putWords_of_getElem? _ _ _ (hcounts k hk).1, bankCounter_of_putWords, Nat.mod_mod]
  · rw [show windowBase + c.w 5 + 516 + 8 * k = windowBase + c.w 5 + 4 * (128 + (2 * k + 1)) by omega,
      winWord_putWords_of_getElem? _ _ _ (hcounts k hk).2, bankCounter_of_putWords]

/-- Settles O19: each command by the lemma about its own part. -/
theorem snapshotsAndCountersComplete : Obligations.SnapshotsAndCountersComplete := by
  refine ⟨fun s bank hcopying => ⟨_, rfl, snapCopyDone_of_copying bank.isLt hcopying⟩,
    fun s flowImg ackReq ack1 ack0 hfull hcopy => snapCtrlTake_runs hfull hcopy, fun s flowImg ackReq ack1 ack0 => ?_,
    fun s c htaken hfull hcopy => snapTake_goesOn htaken hfull hcopy,
    fun s c htaken hword hcount hrange hwritten hcomplete => snapRead_completes htaken hword hcount hrange hwritten hcomplete,
    fun s iface i hpoison herrs => ⟨_, rfl, ?_⟩, fun s slot howed hsince => ⟨_, rfl, sampleSlotRaise_lastRaise howed hsince⟩,
    fun s lane hdue => ⟨_, rfl, ?_⟩⟩
  · exact ⟨_, rfl, fun b => snapAck_full (wrB (wrB s F.SNAP_CTRL_FLOW_IMG flowImg) F.SNAP_CTRL_ACK_REQ ackReq) ..,
      snapCtrlAcked_ackReq .., snapCtrlAcked_flowImg .., rfl⟩
  · rw [counterLoRead_of_clean iface hpoison herrs]
    exact ⟨BitVec.eq_of_toNat_eq (by simp), vGet_vSet_same _ _ _ _ (by cases iface <;> decide), rfl⟩
  · obtain ⟨v, na, hclosed⟩ := berWindowClose_of_due hdue
    rw [hclosed]
    exact berClosed_shows s lane v na

end Sys2Proof.Machine
end

section
/-! PROOFS. The flow observer (R299-R307, R309). -/

namespace Sys2Proof.Machine

open Sys2Proof

set_option Elab.async false

/-! A frame's fields. -/

theorem foldl_bytes_lt (bs : List Byte) (a : Nat) : bs.foldl (fun a b => a * 256 + b.toNat) a < (a + 1) * 256 ^ bs.length := by
  induction bs generalizing a with
  | nil => simp
  | cons b bs ih =>
    have hb : b.toNat < 256 := b.isLt
    calc bs.foldl (fun a b => a * 256 + b.toNat) (a * 256 + b.toNat) < (a * 256 + b.toNat + 1) * 256 ^ bs.length := ih _
      _ ≤ ((a + 1) * 256) * 256 ^ bs.length := Nat.mul_le_mul_right _ (by omega)
      _ = (a + 1) * 256 ^ (b :: bs).length := by rw [List.length_cons, pow_succ]; ring

theorem frameField_lt (bs : List Byte) (o n : Nat) : frameField bs o n < 256 ^ n := by
  refine (foldl_bytes_lt _ 0).trans_le ?_
  rw [Nat.zero_add, Nat.one_mul]
  exact Nat.pow_le_pow_right (by decide) (List.length_take_le ..)

theorem typePlace_of_untagged {bs : List Byte} {n o : Nat} (h : isTag (frameField bs o 2) = false) : typePlace bs n o = o := by
  cases n <;> simp [typePlace, h]

theorem toNat_frameField {bs : List Byte} {w : Nat} (o n : Nat) (h : 256 ^ n = 2 ^ w) :
    (BitVec.ofNat w (frameField bs o n)).toNat = frameField bs o n := by
  rw [BitVec.toNat_ofNat, Nat.mod_eq_of_lt (h ▸ frameField_lt bs o n)]

theorem parseFrame_untagged (s : State) (p : Fin 8) (d : Dir) {bs : List Byte} (hlen : 18 ≤ bs.length)
    (htag : isTag (frameField bs 12 2) = false) :
    parseFrame s p d bs = ⟨p, d, BitVec.ofNat 48 (frameField bs 0 6), BitVec.ofNat 48 (frameField bs 6 6), none,
      BitVec.ofNat 16 (frameField bs 12 2), bs.length, fcsGood bs⟩ := by
  simp [parseFrame, typePlace_of_untagged htag, hlen]

theorem parseFrame_tagged (s : State) (p : Fin 8) (d : Dir) {bs : List Byte} (hlen : 22 ≤ bs.length)
    (htag : isTag (frameField bs 12 2) = true) (hlast : isTag (frameField bs 16 2) = false) :
    parseFrame s p d bs = ⟨p, d, BitVec.ofNat 48 (frameField bs 0 6), BitVec.ofNat 48 (frameField bs 6 6),
      some (BitVec.ofNat 12 (frameField bs 14 2)), BitVec.ofNat 16 (frameField bs 16 2), bs.length, fcsGood bs⟩ := by
  have hplace : typePlace bs bs.length 12 = 16 := by
    obtain ⟨n, hn⟩ : ∃ n, bs.length = n + 1 := ⟨bs.length - 1, by omega⟩
    rw [hn, typePlace, if_pos htag, typePlace_of_untagged hlast]
  simp [parseFrame, hplace, hlen]

/-! The frames that the observer has tapped. -/

section Tapped

variable (s : State) (p : Fin 8) (d : Dir) (xs : List TappedFrame)

theorem tapped_setTapped : tapped (setTapped s p d xs) p d = xs := by
  cases d <;> simp [tapped, setTapped, vMod]

theorem setTapped_obs : (setTapped s p d xs).obs = s.obs := by cases d <;> rfl

theorem setTapped_eff : (setTapped s p d xs).eff = s.eff := by cases d <;> rfl

end Tapped

theorem tapped_of_path {s t : State} (h : t.path = s.path) (p : Fin 8) (d : Dir) : tapped t p d = tapped s p d := by
  simp only [tapped, h]

theorem rdE_of_eff {s t : State} (h : t.eff = s.eff) (f : Field) (i j : Nat) : rdE t f i j = rdE s f i j := by
  simp only [rdE, h]

theorem flowKeySel_of_eff {s t : State} (h : t.eff = s.eff) (p : Nat) (d : Dir) : flowKeySel t p d = flowKeySel s p d := by
  cases d <;> exact rdE_of_eff h ..

/-- The state in which the observer has taken a frame from its tap. -/
def frameTaken (s : State) (p : Fin 8) (d : Dir) (rest : List TappedFrame) : State :=
  bump (takeFree (setTapped s p d rest)) (cntPort p d 14) 1

/-- What a frame's lookup works on. -/
def frameWork (s : State) (p : Fin 8) (d : Dir) (y : TappedFrame) : FlowWork :=
  let f := parseFrame s p d y.bytes
  ⟨p, d, flowKey (flowKeySel s p d) f, f.size, f.fcsGood, y.stamp, rdE s F.PCS_PORT_CTRL_MODE p == 1⟩

theorem parseFrame_port (s : State) (p : Fin 8) (d : Dir) (bs : List Byte) :
    (parseFrame s p d bs).port = p ∧ (parseFrame s p d bs).dir = d := by
  unfold parseFrame
  simp only
  split <;> exact ⟨rfl, rfl⟩

theorem frameTaken_eff (s : State) (p : Fin 8) (d : Dir) (rest : List TappedFrame) : (frameTaken s p d rest).eff = s.eff :=
  (bump_eff ..).trans (setTapped_eff ..)

theorem frameTaken_replay (s : State) (p : Fin 8) (d : Dir) (rest : List TappedFrame) :
    (frameTaken s p d rest).obs.replay = s.obs.replay :=
  (bump_obs_replay ..).trans (congrArg ObsState.replay (setTapped_obs ..))

/-- The next tapped frame is marked, or waits, or is looked up (R299, R302). -/
theorem flowNext_eq {s : State} {p : Fin 8} {d : Dir} {y : TappedFrame} {rest : List TappedFrame} (busy : Bool)
    (h : tapped s p d = y :: rest) :
    flowNext p d busy s =
      let s1 := frameTaken s p d rest
      let w := frameWork s p d y
      let q := vGet s.obs.replay d.bit []
      if y.marked then flowUntracked s1 p d 0x749
      else if busy || q.any (·.key == w.key) then
        if q.length < 64 then { s1 with obs := { s1.obs with replay := vSet s1.obs.replay d.bit (q ++ [w]) } }
        else flowUntracked s1 p d 0x748
      else flowApply s1 w := by
  obtain ⟨hport, hdir⟩ := parseFrame_port s p d y.bytes
  have heff : (takeFree (setTapped s p d rest)).eff = s.eff := setTapped_eff ..
  have hobs : (takeFree (setTapped s p d rest)).obs = s.obs := setTapped_obs ..
  simp only [flowNext, h, flowFrame, hport, hdir, flowKeySel_of_eff heff, rdE_of_eff heff, hobs, frameTaken, frameWork]
  rfl

/-! Buckets. -/

theorem flowFullCheck_obs (s : State) : (flowFullCheck s).obs.buckets = s.obs.buckets ∧
    (flowFullCheck s).obs.contexts = s.obs.contexts ∧ (flowFullCheck s).obs.replay = s.obs.replay := by
  unfold flowFullCheck
  simp only
  split
  · exact ⟨rfl, rfl, rfl⟩
  · exact ⟨raiseEvent_obs_buckets .., raiseEvent_obs_contexts .., raiseEvent_obs_replay ..⟩

theorem freeBucket_replay (s : State) (b : Nat) : (freeBucket s b).obs.replay = s.obs.replay := by
  unfold freeBucket
  split
  · rfl
  · simp only [bankWrittenAll_obs]
    split <;> rfl

theorem freeBucket_buckets {s : State} {b : Nat} {x : FlowBucket} (h : aGet s.obs.buckets b = some x) :
    (freeBucket s b).obs.buckets = aSet s.obs.buckets b { x with valid := false } := by
  simp only [freeBucket, h, bankWrittenAll_obs]
  split <;> rfl

theorem freeBucket_buckets_of_none {s : State} {b : Nat} (h : aGet s.obs.buckets b = none) : freeBucket s b = s := by
  simp only [freeBucket, h]

/-- A freed bucket is not valid, and the others stand. -/
theorem aGet_freeBucket (s : State) (b c : Nat) : aGet (freeBucket s b).obs.buckets c =
    if c = b then (aGet s.obs.buckets b).map fun x => { x with valid := false } else aGet s.obs.buckets c := by
  cases h : aGet s.obs.buckets b with
  | none =>
    rw [freeBucket_buckets_of_none h]
    split
    · next hc => rw [hc, h, Option.map_none]
    · rfl
  | some x =>
    rw [freeBucket_buckets h]
    split
    · next hc => rw [hc, aGet_aSet_same, Option.map_some]
    · next hc => exact aGet_aSet_other _ _ hc

/-- No bucket that was freed is valid, and no other changed. -/
theorem aGet_freeBuckets {s : State} {bs : List Nat} {c : Nat} {x : FlowBucket}
    (h : aGet (bs.foldl freeBucket s).obs.buckets c = some x) (hvalid : x.valid = true) :
    c ∉ bs ∧ aGet s.obs.buckets c = some x := by
  induction bs generalizing s with
  | nil => exact ⟨List.not_mem_nil, h⟩
  | cons b bs ih =>
    obtain ⟨hno, hc⟩ := ih h
    rw [aGet_freeBucket] at hc
    split at hc
    · cases hb : aGet s.obs.buckets b with
      | none => simp [hb] at hc
      | some y =>
        simp only [hb, Option.map_some, Option.some.injEq] at hc
        rw [← hc] at hvalid
        cases hvalid
    · next hne => exact ⟨by simp [hne, hno], hc⟩

theorem aGet_mem {α : Type} {m : List (Nat × α)} {k : Nat} {v : α} (h : aGet m k = some v) : (k, v) ∈ m := by
  induction m with
  | nil => cases h
  | cons e m ih =>
    unfold aGet at h
    split at h
    · next hk =>
      cases h
      simp [← hk]
    · exact List.mem_cons_of_mem _ (ih h)

theorem readBucket_eff (s : State) (b : Nat) : (readBucket s b).eff = s.eff :=
  ((Within.rfl' (keeping [.eff] []) s).readBucket keeping_allows).kept .eff

theorem readBucket_replay (s : State) (b : Nat) : (readBucket s b).obs.replay = s.obs.replay := by
  have hlost : ∀ t : State, (flowLost t b).obs.replay = t.obs.replay := fun t =>
    (flowFullCheck_obs _).2.2.trans ((bump_obs_replay ..).trans (freeBucket_replay ..))
  have hread : ∀ (t : State) k as, (eccReadAll t k as).1.obs.replay = t.obs.replay := fun _ _ _ => eccReadAll_obs_replay ..
  unfold readBucket
  split
  · rfl
  · split
    · simp only
      split
      · exact (hlost _).trans (hread ..)
      · split
        · exact (hlost _).trans ((hread ..).trans (hread ..))
        · exact (hread ..).trans (hread ..)
    · rfl

/-- The state in which a group's buckets have been read. -/
def groupRead (s : State) (g : List Nat) : State := g.foldl readBucket s

theorem groupRead_eff (s : State) (g : List Nat) : (groupRead s g).eff = s.eff := by
  induction g generalizing s with
  | nil => rfl
  | cons b g ih => exact (ih _).trans (readBucket_eff ..)

theorem groupRead_replay (s : State) (g : List Nat) : (groupRead s g).obs.replay = s.obs.replay := by
  induction g generalizing s with
  | nil => rfl
  | cons b g ih => exact (ih _).trans (readBucket_replay ..)

theorem flowUpdate_buckets {s : State} {b : Nat} {w : FlowWork} {x : FlowBucket} (h : aGet s.obs.buckets b = some x) :
    aGet (flowUpdate s b w).obs.buckets b = some (bucketCount (rdE s F.FLOW_GLOBAL_GIANT_MAX) (shifted s b x) w) := by
  simp only [flowUpdate, h, bankWrittenAll_obs]
  exact aGet_aSet_same ..

theorem flowUpdate_replay (s : State) (b : Nat) (w : FlowWork) : (flowUpdate s b w).obs.replay = s.obs.replay := by
  unfold flowUpdate
  split <;> rfl

/-- The group of four buckets that a key hashes to. -/
def keyGroup (s : State) (key : BitVec 136) : List Nat := bucketGroup (flowHash (rdE s F.FLOW_SEED_SEED) key % 2 ^ 15)

theorem flowApply_hit {s : State} {w : FlowWork} {b : Nat}
    (h : bucketHit (groupRead s (keyGroup s w.key)) (keyGroup s w.key) w.key = some b) :
    flowApply s w = flowUpdate (groupRead s (keyGroup s w.key)) b w := by
  simp only [groupRead, keyGroup] at h ⊢
  simp only [flowApply, h]

/-- The bucket that a new flow starts with (R302). -/
def newBucket (w : FlowWork) (ctx : Nat) : FlowBucket := ⟨true, ctx, false, w.key, w.stamp, w.stamp, 0, 0, 0⟩

/-- The state in which a new flow has its bucket and context. -/
def flowStarted (s : State) (b : Nat) (w : FlowWork) : State :=
  let c := firstFreeCtx s.obs.contexts 0
  bump (setCtx (setBucket s b (newBucket w c)) c emptyCtx) 0x742 1

theorem flowApply_new {s : State} {w : FlowWork} {b : Nat}
    (hmiss : bucketHit (groupRead s (keyGroup s w.key)) (keyGroup s w.key) w.key = none)
    (hfree : (keyGroup s w.key).find? (bucketFree (groupRead s (keyGroup s w.key))) = some b)
    (hctx : firstFreeCtx (groupRead s (keyGroup s w.key)).obs.contexts 0 < 16384) :
    flowApply s w = flowFullCheck (flowUpdate (flowStarted (groupRead s (keyGroup s w.key)) b w) b w) := by
  simp only [groupRead, keyGroup] at hmiss hfree hctx ⊢
  simp only [flowApply, hmiss, hfree, Nat.not_le.2 hctx, if_false]
  rfl

theorem flowStarted_buckets (s : State) (b : Nat) (w : FlowWork) :
    aGet (flowStarted s b w).obs.buckets b = some (newBucket w (firstFreeCtx s.obs.contexts 0)) := by
  rw [flowStarted, bump_obs_buckets]
  exact aGet_aSet_same ..

theorem flowUntracked_obs (s : State) (p : Nat) (d : Dir) (cause : Nat) :
    (flowUntracked s p d cause).obs.buckets = s.obs.buckets ∧ (flowUntracked s p d cause).obs.contexts = s.obs.contexts ∧
      (flowUntracked s p d cause).obs.replay = s.obs.replay := by
  simp [flowUntracked]

/-- A lookup leaves the queue of waiting frames. -/
theorem flowApply_replay (s : State) (w : FlowWork) : (flowApply s w).obs.replay = s.obs.replay := by
  have hread := groupRead_replay s (keyGroup s w.key)
  cases hhit : bucketHit (groupRead s (keyGroup s w.key)) (keyGroup s w.key) w.key with
  | some b => rw [flowApply_hit hhit, flowUpdate_replay, hread]
  | none =>
    simp only [groupRead, keyGroup] at hhit hread
    simp only [flowApply, hhit]
    split
    · exact (flowUntracked_obs ..).2.2.trans hread
    · split
      · exact (flowUntracked_obs ..).2.2.trans hread
      · exact (flowFullCheck_obs _).2.2.trans ((flowUpdate_replay ..).trans ((bump_obs_replay ..).trans hread))

/-! The flow commands. -/

theorem replay_any_of_absent {q : List FlowWork} {key : BitVec 136} (h : ∀ w ∈ q, w.key ≠ key) :
    (q.any fun w => w.key == key) = false := by
  simpa [List.any_eq_false] using h

section NextFrame

variable {s : State} {p : Fin 8} {d : Dir} {y : TappedFrame} {rest : List TappedFrame} {b : Nat}

theorem flowNext_marked (busy : Bool) (h : tapped s p d = y :: rest) (hmarked : y.marked = true) :
    flowNext p d busy s = flowUntracked (frameTaken s p d rest) p d 0x749 := by
  simp only [flowNext_eq busy h, hmarked, if_true]

theorem flowNext_waits (h : tapped s p d = y :: rest) (hmarked : y.marked = false)
    (hroom : (vGet s.obs.replay d.bit []).length < 64) :
    flowNext p d true s = { frameTaken s p d rest with obs := { (frameTaken s p d rest).obs with
      replay := vSet (frameTaken s p d rest).obs.replay d.bit (vGet s.obs.replay d.bit [] ++ [frameWork s p d y]) } } := by
  simp only [flowNext_eq true h, hmarked, Bool.true_or, hroom, if_true, Bool.false_eq_true, if_false]

theorem flowNext_applies (h : tapped s p d = y :: rest) (hmarked : y.marked = false)
    (habsent : ∀ w ∈ vGet s.obs.replay d.bit [], w.key ≠ (frameWork s p d y).key) :
    flowNext p d false s = flowApply (frameTaken s p d rest) (frameWork s p d y) := by
  simp only [flowNext_eq false h, hmarked, Bool.false_or, replay_any_of_absent habsent, Bool.false_eq_true, if_false]

theorem keyGroup_frameTaken (key : BitVec 136) : keyGroup (frameTaken s p d rest) key = keyGroup s key := by
  simp only [keyGroup, rdE_of_eff (frameTaken_eff ..)]

theorem tapped_frameTaken : tapped (frameTaken s p d rest) p d = rest :=
  (tapped_of_path (bump_path ..) p d).trans (tapped_setTapped s p d rest)

theorem frameTaken_obs : (frameTaken s p d rest).obs.buckets = s.obs.buckets ∧
    (frameTaken s p d rest).obs.contexts = s.obs.contexts := by
  simp [frameTaken, takeFree, setTapped_obs]

end NextFrame

theorem dirBit_lt (d : Dir) : d.bit < 2 := by cases d <;> decide

/-- An aged bucket is freed (R306). -/
theorem flowAgerVisit_aged {s : State} {b : Nat} {x : FlowBucket} (hread : readBucket s b = s) (hx : aGet s.obs.buckets b = some x)
    (hvalid : x.valid = true) (hlimit : rdE s F.FLOW_AGE_AGE_LIMIT ≠ 0)
    (haged : rdE s F.FLOW_AGE_AGE_LIMIT * 2 ^ 16 ≤
      (cueTick s (keyPort x.key) (if keyDir x.key = 0 then .tx else .rx) - (x.lastSeen + shiftOf s b)).toNat) :
    aGet (flowAgerVisit b s).obs.buckets b = some { shifted s b x with valid := false } := by
  have hfreed : ∀ t : State, aGet t.obs.buckets b = some (shifted s b x) →
      aGet (flowFullCheck (bump (freeBucket t b) 0x743 1)).obs.buckets b = some { shifted s b x with valid := false } :=
    fun t ht => by rw [(flowFullCheck_obs _).1, bump_obs_buckets, aGet_freeBucket, if_pos rfl, ht, Option.map_some]
  simp only [flowAgerVisit, hread, hx, hvalid, if_true]
  cases hshift : aGet s.obs.shifts b with
  | none =>
    have hsame : shifted s b x = x := by simp [shifted, shiftOf, hshift]
    have hlast : x.lastSeen + shiftOf s b = x.lastSeen := by simp [shiftOf, hshift]
    rw [hlast] at haged
    simp only [hsame, Option.isSome_none, Bool.false_eq_true, if_false]
    rw [if_pos ⟨hlimit, haged⟩]
    rw [hsame] at hfreed
    exact hfreed s hx
  | some n =>
    simp only [Option.isSome_some, if_true]
    rw [if_pos ⟨hlimit, haged⟩]
    exact hfreed _ (aGet_aSet_same ..)

theorem flowDump_body {s : State} {c : Cmd} {im : FlowImage} (hword : c.w 3 % 4 = 0) (hsome : 0 < c.w 4) (hcount : c.w 4 ≤ 3072)
    (hrange : c.w 3 + 64 * c.w 4 ≤ bulkEnd s) (himage : s.obs.image = some im) (hcopied : s.obs.imageCopying = false)
    (hlocked : c.w 2 = 0 ∨ s.obs.imageLocked = true) :
    flowDump c s =
      ({ bulkWords s (c.w 3) (((im.records.drop (c.w 2)).take (c.w 4)).flatMap fun r =>
          words256 (bucketBits r.2.1) ++ words256 (ctxBits r.2.2)) with
        obs := { s.obs with imageLocked := !decide (im.records.length ≤ c.w 2 + c.w 4) } },
        .done stOK 0 ((im.records.drop (c.w 2)).take (c.w 4)).length
          (im.seq.toNat * 2 ^ 16 + (if im.records.length ≤ c.w 2 + c.w 4 then 0xFFFF else c.w 2 + c.w 4))) := by
  have hstate : (!imageValid s || (c.w 2 != 0 && !s.obs.imageLocked)) = false := by
    rcases hlocked with h | h <;> simp [imageValid, himage, hcopied, h]
  unfold flowDump
  rw [withChecks_pass]
  · simp [himage, bulkWords]
  · simp [firstFail, hword, Nat.ne_of_gt hsome, Nat.not_lt.2 hcount, bulkBad_eq_false hrange, hstate]

theorem flowFlushPort_valid {s : State} {p mask b : Nat} {x : FlowBucket}
    (h : aGet (flowFlushPort s p mask).1.obs.buckets b = some x) (hvalid : x.valid = true) :
    ¬(keyPort x.key = p ∧ mask.testBit (keyDir x.key) = true) := by
  rintro ⟨hport, hdir⟩
  simp only [flowFlushPort, flowFlush, (flowFullCheck_obs _).1, bump_obs_buckets] at h
  obtain ⟨hno, hx⟩ := aGet_freeBuckets h hvalid
  refine hno (List.mem_map.2 ⟨(b, x), List.mem_filter.2 ⟨aGet_mem hx, ?_⟩, rfl⟩)
  simp [hvalid, hport, hdir]

theorem flowFlushCmd_body {s : State} {c : Cmd} (hmask : c.w 3 ≠ 0) (hretained : retained s 28 = false) :
    flowFlushCmd c s = ((flowFlushPort s (c.w 2) (c.w 3)).1, .done stOK 0 (flowFlushPort s (c.w 2) (c.w 3)).2 0) := by
  unfold flowFlushCmd
  rw [withChecks_pass]
  simp [firstFail, hmask, hretained]

section Lookup

variable {s : State} {p : Fin 8} {d : Dir} {y : TappedFrame} {rest : List TappedFrame} {b : Nat}

/-- A frame whose key a bucket holds is counted in it (R302, R303). -/
theorem flowNext_hit {x : FlowBucket} {f : Frame} {g : List Nat} {r : State} (h : tapped s p d = y :: rest)
    (hmarked : y.marked = false) (hf : f = parseFrame s p d y.bytes)
    (habsent : ∀ w ∈ vGet s.obs.replay d.bit [], w.key ≠ flowKey (flowKeySel s p d) f)
    (hg : g = keyGroup s (flowKey (flowKeySel s p d) f)) (hr : r = groupRead (frameTaken s p d rest) g)
    (hhit : bucketHit r g (flowKey (flowKeySel s p d) f) = some b) (hx : aGet r.obs.buckets b = some x) :
    aGet (flowNext p d false s).obs.buckets b = some { shifted r b x with
      lastSeen := y.stamp
      fcsErr := if f.fcsGood then x.fcsErr else x.fcsErr + 1
      runts := if f.size < 64 then min 255 (x.runts + 1) else x.runts
      giants := if rdE s F.FLOW_GLOBAL_GIANT_MAX < f.size then min 255 (x.giants + 1) else x.giants
      uncorr := x.uncorr || rdE s F.PCS_PORT_CTRL_MODE p == 1 } := by
  subst hf
  have hkey : (frameWork s p d y).key = flowKey (flowKeySel s p d) (parseFrame s p d y.bytes) := rfl
  have heff : r.eff = s.eff := by rw [hr, groupRead_eff, frameTaken_eff]
  rw [← hkey] at habsent hg hhit
  rw [← keyGroup_frameTaken (p := p) (d := d) (rest := rest)] at hg
  rw [hr, hg] at hhit
  rw [hg] at hr
  rw [flowNext_applies h hmarked habsent, flowApply_hit hhit, ← hr, flowUpdate_buckets hx, rdE_of_eff heff]
  rfl

/-- A frame of a new flow takes a free bucket and the lowest free context (R302). -/
theorem flowNext_new {f : Frame} {g : List Nat} {r : State} (h : tapped s p d = y :: rest) (hmarked : y.marked = false)
    (hf : f = parseFrame s p d y.bytes) (habsent : ∀ w ∈ vGet s.obs.replay d.bit [], w.key ≠ flowKey (flowKeySel s p d) f)
    (hg : g = keyGroup s (flowKey (flowKeySel s p d) f)) (hr : r = groupRead (frameTaken s p d rest) g)
    (hmiss : bucketHit r g (flowKey (flowKeySel s p d) f) = none) (hfree : g.find? (bucketFree r) = some b)
    (hctx : firstFreeCtx r.obs.contexts 0 < 16384) :
    ∃ x, aGet (flowNext p d false s).obs.buckets b = some x ∧ x.valid = true ∧ x.key = flowKey (flowKeySel s p d) f ∧
      x.ctx = firstFreeCtx r.obs.contexts 0 ∧ x.lastSeen = y.stamp := by
  subst hf
  have hkey : (frameWork s p d y).key = flowKey (flowKeySel s p d) (parseFrame s p d y.bytes) := rfl
  rw [← hkey] at habsent hg hmiss
  rw [← keyGroup_frameTaken (p := p) (d := d) (rest := rest)] at hg
  subst hg
  subst hr
  rw [flowNext_applies h hmarked habsent, flowApply_new hmiss hfree hctx, (flowFullCheck_obs _).1,
    flowUpdate_buckets (flowStarted_buckets ..)]
  exact ⟨_, rfl, rfl, rfl, rfl, rfl⟩

theorem flowNext_marked_shows (busy : Bool) (h : tapped s p d = y :: rest) (hmarked : y.marked = true) :
    flowNext p d busy s = flowUntracked (bump (takeFree (setTapped s p d rest)) (cntPort p d 14) 1) p d 0x749 ∧
    tapped (flowNext p d busy s) p d = rest ∧ (flowNext p d busy s).obs.buckets = s.obs.buckets ∧
      (flowNext p d busy s).obs.contexts = s.obs.contexts ∧ (flowNext p d busy s).obs.replay = s.obs.replay := by
  rw [flowNext_marked busy h hmarked]
  obtain ⟨hbuckets, hcontexts, hreplay⟩ := flowUntracked_obs (frameTaken s p d rest) p d 0x749
  have hpath : (flowUntracked (frameTaken s p d rest) p d 0x749).path = (frameTaken s p d rest).path := by simp [flowUntracked]
  exact ⟨rfl, (tapped_of_path hpath p d).trans tapped_frameTaken, hbuckets.trans frameTaken_obs.1,
    hcontexts.trans frameTaken_obs.2, hreplay.trans (frameTaken_replay ..)⟩

end Lookup

theorem flowDump_completes {s : State} {c : Cmd} {im : FlowImage}
    (htaken : Taken 0x0603 [(2, 0xFFFF), (3, 0xFFFFFFFF), (4, 0xFFFFFFFF)] c s) (hword : c.w 3 % 4 = 0) (hsome : 0 < c.w 4)
    (hcount : c.w 4 ≤ 3072) (hrange : c.w 3 + 64 * c.w 4 ≤ bulkEnd s) (himage : s.obs.image = some im)
    (hcopied : s.obs.imageCopying = false) (hlocked : c.w 2 = 0 ∨ s.obs.imageLocked = true) :
    CompletesOk (.flowDump c) 0x0603 c s ((im.records.drop (c.w 2)).take (c.w 4)).length
      (im.seq.toNat * 2 ^ 16 + (if im.records.length ≤ c.w 2 + c.w 4 then 0xFFFF else c.w 2 + c.w 4)) fun u =>
        u.obs.imageLocked = !decide (im.records.length ≤ c.w 2 + c.w 4) ∧
        u.mgmt.window = winPutWords (takenState 0x0603 c s).mgmt.window (windowBase + c.w 3)
          (((im.records.drop (c.w 2)).take (c.w 4)).flatMap fun r => words256 (bucketBits r.2.1) ++ words256 (ctxBits r.2.2)) := by
  refine completesOk_of_body htaken rfl rfl (flowDump_body hword hsome hcount (by simpa using hrange) (by simpa using himage)
    (by simpa using hcopied) (by simpa using hlocked)) ?_
  generalize takenState 0x0603 c s = v
  exact ⟨rfl, rfl⟩

theorem flowRelease_body {s : State} (h : s.obs.imageLocked = true) :
    flowRelease s = ({ s with obs := { s.obs with imageLocked := false } }, .done stOK 0 0 0) :=
  withChecks_pass (by simp [firstFail, h])

theorem flowRelease_completes {s : State} {c : Cmd} (htaken : Taken 0x0604 [] c s) (hlocked : s.obs.imageLocked = true) :
    CompletesOk (.flowRelease c) 0x0604 c s 0 0 fun u => u.obs.imageLocked = false ∧ u.obs.image = s.obs.image := by
  exact completesOk_of_reports htaken rfl (fun _ _ => rfl) (fun v hv => flowRelease_body (hv.obs_imageLocked.trans hlocked))
    fun v hv => ⟨rfl, hv.obs_image⟩

theorem flowFlush_completes {s : State} {c : Cmd} (htaken : Taken 0x0605 [(2, 7), (3, 3)] c s) (hmask : c.w 3 ≠ 0)
    (hretained : retained s 28 = false) :
    CompletesOk (.flowFlush c) 0x0605 c s
      (s.obs.buckets.filter fun e => e.2.valid && (keyPort e.2.key == c.w 2 && (c.w 3).testBit (keyDir e.2.key))).length 0
      fun u => ∀ b x, aGet u.obs.buckets b = some x → x.valid = true →
        ¬ (keyPort x.key = c.w 2 ∧ (c.w 3).testBit (keyDir x.key) = true) := by
  have hret : retained (takenState 0x0605 c s) 28 = false := by simpa [retained] using hretained
  have hcount : (flowFlushPort (takenState 0x0605 c s) (c.w 2) (c.w 3)).2 = (s.obs.buckets.filter fun e =>
      e.2.valid && (keyPort e.2.key == c.w 2 && (c.w 3).testBit (keyDir e.2.key))).length := by
    simp [flowFlushPort, flowFlush]
  have hbody := flowFlushCmd_body hmask hret
  rw [hcount] at hbody
  exact completesOk_of_body htaken rfl rfl hbody fun b x hx hvalid => flowFlushPort_valid hx hvalid

/-- Settles O20: a frame is parsed, waits or is looked up; the commands by their own parts. -/
theorem flowCommandsComplete : Obligations.FlowCommandsComplete := by
  refine ⟨fun s p d bs hlen htag => ?_, fun s p d bs hlen htag hlast => ?_, fun s p d busy hnone => ⟨_, rfl, by simp [flowNext, hnone]⟩,
    fun s p d y rest busy h hmarked => ⟨_, rfl, flowNext_marked_shows busy h hmarked⟩,
    fun s p d y rest h hmarked hroom => ⟨_, rfl, ?_⟩,
    fun s p d y rest b x h hmarked => ?_, fun s p d y rest b h hmarked => ?_,
    fun s d w q h => ⟨_, rfl, ?_⟩,
    fun s b x hread hx hvalid hlimit haged => ⟨_, rfl, flowAgerVisit_aged hread hx hvalid hlimit haged⟩,
    fun s => ⟨_, rfl, rfl⟩,
    fun s c im htaken hword hsome hcount hrange himage hcopied hlocked =>
      flowDump_completes htaken hword hsome hcount hrange himage hcopied hlocked,
    fun s c htaken hlocked => flowRelease_completes htaken hlocked,
    fun s c htaken hmask hretained => flowFlush_completes htaken hmask hretained⟩
  · rw [parseFrame_untagged s p d hlen htag]
    exact ⟨toNat_frameField 0 6 (by decide), toNat_frameField 6 6 (by decide), rfl, toNat_frameField 12 2 (by decide), rfl⟩
  · rw [parseFrame_tagged s p d hlen htag hlast]
    exact ⟨rfl, toNat_frameField 16 2 (by decide), rfl⟩
  · rw [flowNext_waits h hmarked hroom]
    exact ⟨vGet_vSet_same _ _ _ _ (dirBit_lt d), tapped_frameTaken, frameTaken_obs.1, frameTaken_obs.2⟩
  · intro f habsent g r hhit hx
    exact ⟨_, rfl, flowNext_hit h hmarked rfl habsent rfl rfl hhit hx⟩
  · intro f habsent g r hmiss hfree hctx
    exact ⟨_, rfl, flowNext_new h hmarked rfl habsent rfl rfl hmiss hfree hctx⟩
  · simp only [flowReplayLookup, h]
    rw [flowApply_replay]
    exact vGet_vSet_same _ _ _ _ (dirBit_lt d)

end Sys2Proof.Machine
end

section
/-! PROOFS. The bias DACs (R266, R272-R276, R286). -/

namespace Sys2Proof.Machine

open Sys2Proof

set_option Elab.async false

section Channel

variable (s : State) (c : Nat)

@[simp] theorem rd_setBdac (x : BdacChan) (f : Field) (i j : Nat) : rd (setBdac s c x) f i j = rd s f i j := rfl

@[simp] theorem rangeGain_setBdac (x : BdacChan) (d : Nat) : rangeGain (setBdac s c x) d = rangeGain s d := rfl

theorem bdacChan_setBdac {c : Nat} (x : BdacChan) (hc : c < 32) : bdacChan (setBdac s c x) c = x := vGet_vSet_same _ _ _ _ hc

theorem bdacChan_setBdac_other {c d : Nat} (x : BdacChan) (h : d ≠ c) : bdacChan (setBdac s c x) d = bdacChan s d :=
  vGet_vSet_other _ _ _ h

@[simp] theorem bdacChan_wr (f : Field) (v i j d : Nat) : bdacChan (wr s f v i j) d = bdacChan s d := rfl

@[simp] theorem bdacChan_wrB (f : Field) (b : Bool) (i j d : Nat) : bdacChan (wrB s f b i j) d = bdacChan s d := rfl

theorem setCeilHit_ctl (hit : Bool) : (setCeilHit s c hit).ctl = s.ctl := by
  unfold setCeilHit
  split
  · rfl
  · exact raiseEvent_ctl ..

theorem setCeilHit_eff (hit : Bool) : (setCeilHit s c hit).eff = s.eff := by
  unfold setCeilHit
  split
  · rfl
  · exact raiseEvent_eff ..

theorem setCeilHit_rd (hit : Bool) {c i : Nat} (hc : c < 32) {f : Field} {j : Nat} (hi : i < f.place.count1)
    (hf : (keysApart (F.BDAC_CEIL_c_CEIL_HIT, 0) (f, j) = true ∧ (F.BDAC_CEIL_c_CEIL_HIT, 0) ≠ (f, j)) ∧
      f.Quiet j ∧ f.lo < 32 := by decide) : rd (setCeilHit s c hit) f i j = rd s f i j := by
  unfold setCeilHit
  split
  · rfl
  · rw [raiseEvent_rd_quiet _ _ _ hf.2, rd_wrB_far _ _ hc hi hf.1]

end Channel

/-! A code arrives at a converter that is not held (R272, R273). -/

section Arriving

variable {s : State} {c n : Nat}

theorem bdacArrive_eff (s : State) (c n : Nat) : (bdacArrive s c n).eff = s.eff := by
  unfold bdacArrive
  split
  · rfl
  · simp only
    split <;> rfl

theorem bdacArrive_rd (s : State) (c n : Nat) {f : Field}
    (ha : F.BDAC_STATUS_c_APPLIED.place.stride1 = f.place.stride1 ∧ f.key 0 0 ≠ F.BDAC_STATUS_c_APPLIED.key 0 0 := by decide)
    (hh : F.BDAC_STATUS_c_HOLDING.place.stride1 = f.place.stride1 ∧ f.key 0 0 ≠ F.BDAC_STATUS_c_HOLDING.key 0 0 := by decide) :
    rd (bdacArrive s c n) f c = rd s f c := by
  unfold bdacArrive
  split
  · rfl
  · simp only
    split
    · rw [rd_wr_apart _ _ _ hh, rd_wr_apart _ _ _ ha]
    · rw [rd_setBdac, rd_wr_apart _ _ _ ha]

variable (hfree : rd s F.BDAC_STATUS_c_HOLDING c = 0) (hn : n < 65536)

include hfree hn

theorem bdacArrive_applied : rd (bdacArrive s c n) F.BDAC_STATUS_c_APPLIED c = n := by
  have hshown : n % 2 ^ F.BDAC_STATUS_c_APPLIED.width = n := Nat.mod_eq_of_lt hn
  simp only [bdacArrive, hfree, Nat.zero_ne_one, if_false]
  split
  · rw [rd_wr_apart, rd_wr_same, hshown]
  · rw [rd_setBdac, rd_wr_same, hshown]

omit hn in
theorem bdacArrive_holding : rd (bdacArrive s c n) F.BDAC_STATUS_c_HOLDING c =
    if n / 1024 = rd s F.BDAC_STATUS_c_APPLIED c / 1024 then 0 else 1 := by
  simp only [bdacArrive, hfree, Nat.zero_ne_one, if_false]
  split
  · rw [rd_wr_same]
    rfl
  · next hsame => rw [rd_setBdac, rd_wr_apart, hfree, if_pos (not_not.1 hsame)]

omit hn in
theorem bdacArrive_chan (hc : c < 32) : bdacChan (bdacArrive s c n) c =
    if n / 1024 = rd s F.BDAC_STATUS_c_APPLIED c / 1024 then { bdacChan s c with out := n * rangeGain s c } else bdacChan s c := by
  simp only [bdacArrive, hfree, Nat.zero_ne_one, if_false]
  split
  · rfl
  · next hsame =>
    have hgain : rangeGain (wr s F.BDAC_STATUS_c_APPLIED n c) c = rangeGain s c := by rw [rangeGain, rd_wr_apart, rangeGain]
    rw [if_pos (not_not.1 hsame), bdacChan_setBdac _ _ hc, hgain, bdacChan_wr]

end Arriving

theorem ceilingCode_lt (code : Nat) (dither : Int) (codeMax : Nat) : ceilingCode code dither codeMax < 65536 := by
  simp only [ceilingCode, clampI]
  omega

theorem bdacTake_rd (s : State) {c : Nat} (code : Nat) (hc : c < 32) {f : Field} (hi : c < f.place.count1)
    (hf : (keysApart (F.BDAC_CEIL_c_CEIL_HIT, 0) (f, 0) = true ∧ (F.BDAC_CEIL_c_CEIL_HIT, 0) ≠ (f, 0)) ∧
      f.Quiet 0 ∧ f.lo < 32 := by decide) :
    rd (bdacTake s c code) f c = rd (bdacArrive (setBdac s c { bdacChan s c with code := code }) c
      (ceilingCode code (bdacChan s c).dither (rd s F.BDAC_CEIL_c_CODE_MAX c))) f c :=
  setCeilHit_rd _ _ hc hi hf

/-- A code that a channel takes goes through dither and ceiling to its converter (R266, R273, R275). -/
theorem bdacTake_shows {s : State} {c : Nat} (code : Nat) (hc : c < 32) (hfree : rd s F.BDAC_STATUS_c_HOLDING c = 0) :
    rd (bdacTake s c code) F.BDAC_STATUS_c_STATE c = rd s F.BDAC_STATUS_c_STATE c ∧
      rd (bdacTake s c code) F.BDAC_STATUS_c_APPLIED c =
        ceilingCode code (bdacChan s c).dither (rd s F.BDAC_CEIL_c_CODE_MAX c) ∧
      rd (bdacTake s c code) F.BDAC_STATUS_c_HOLDING c =
        if ceilingCode code (bdacChan s c).dither (rd s F.BDAC_CEIL_c_CODE_MAX c) / 1024 = rd s F.BDAC_STATUS_c_APPLIED c / 1024
        then 0 else 1 := by
  rw [bdacTake_rd _ _ hc hc, bdacTake_rd _ _ hc hc, bdacTake_rd _ _ hc hc, bdacArrive_rd,
    bdacArrive_applied (by exact hfree) (ceilingCode_lt ..), bdacArrive_holding (by exact hfree)]
  exact ⟨rfl, rfl, rfl⟩

/-- The state in which a channel that its register drives turns on. -/
def bdacStarted (s : State) (c : Nat) : State :=
  setBdac (wr s F.BDAC_STATUS_c_STATE 2 c) c { bdacChan s c with fromLoop := false }

theorem bdacFirstCode_eq {s : State} {c : Fin 32} (hstate : bdacState s c = 1) (hen : rdE s F.BDAC_CTRL_c_EN c = 1)
    (hsource : rdE s F.BDAC_CTRL_c_SOURCE c = 0) (hwindow : s.faults.window = none) :
    bdacFirstCode c s = bdacTake (bdacStarted s c) c (rdE s F.BDAC_CODE_c_CODE c) := by
  have hchan : bdacChan (bdacStarted s c) c = { bdacChan s c with fromLoop := false } := bdacChan_setBdac _ _ c.isLt
  have hcode : sourceCode (bdacStarted s c) c = rdE s F.BDAC_CODE_c_CODE c := by
    simp only [sourceCode, hchan]
    rfl
  rw [bdacFirstCode, if_pos ⟨hstate, hen, hsource⟩, ← hcode]
  simp [hwindow, bdacStarted]

/-- The first code of a channel that its register drives (R272). -/
theorem bdacFirstCode_shows {s : State} {c : Fin 32} (hstate : bdacState s c = 1) (hen : rdE s F.BDAC_CTRL_c_EN c = 1)
    (hsource : rdE s F.BDAC_CTRL_c_SOURCE c = 0) (hwindow : s.faults.window = none) (hfree : rd s F.BDAC_STATUS_c_HOLDING c = 0) :
    rd (bdacFirstCode c s) F.BDAC_STATUS_c_STATE c = 2 ∧
      rd (bdacFirstCode c s) F.BDAC_STATUS_c_APPLIED c =
        ceilingCode (rdE s F.BDAC_CODE_c_CODE c) (bdacChan s c).dither (rd s F.BDAC_CEIL_c_CODE_MAX c) ∧
      rd (bdacFirstCode c s) F.BDAC_STATUS_c_HOLDING c =
        if rd (bdacFirstCode c s) F.BDAC_STATUS_c_APPLIED c / 1024 = rd s F.BDAC_STATUS_c_APPLIED c / 1024 then 0 else 1 := by
  have hmax : rd (bdacStarted s c) F.BDAC_CEIL_c_CODE_MAX c = rd s F.BDAC_CEIL_c_CODE_MAX c := by
    rw [bdacStarted, rd_setBdac, rd_wr_far (f := F.BDAC_STATUS_c_STATE) (g := F.BDAC_CEIL_c_CODE_MAX) (j := 0) (j' := 0) _ _
      c.isLt c.isLt]
  have hfree1 : rd (bdacStarted s c) F.BDAC_STATUS_c_HOLDING c = 0 := by rw [bdacStarted, rd_setBdac, rd_wr_apart, hfree]
  have hold : rd (bdacStarted s c) F.BDAC_STATUS_c_APPLIED c = rd s F.BDAC_STATUS_c_APPLIED c := by
    rw [bdacStarted, rd_setBdac, rd_wr_apart]
  have hstarted : rd (bdacStarted s c) F.BDAC_STATUS_c_STATE c = 2 := by
    rw [bdacStarted, rd_setBdac, rd_wr_same]
    rfl
  have hdither : (bdacChan (bdacStarted s c) c).dither = (bdacChan s c).dither := by
    rw [bdacStarted, bdacChan_setBdac _ _ c.isLt]
  obtain ⟨htook, happlied, hholding⟩ := bdacTake_shows (rdE s F.BDAC_CODE_c_CODE c) c.isLt hfree1
  rw [hdither, hmax] at happlied hholding
  rw [hold] at hholding
  rw [bdacFirstCode_eq hstate hen hsource hwindow]
  exact ⟨htook.trans hstarted, happlied, by rw [happlied, hholding]⟩

/-! The end of a hold (R273). -/

/-- The state in which a held code is out. -/
def bdacReleased (s : State) (c : Nat) : State :=
  setBdac (wr s F.BDAC_STATUS_c_HOLDING 0 c) c
    { bdacChan s c with out := rd s F.BDAC_STATUS_c_APPLIED c * rangeGain s c, arrived := none }

theorem bdacHoldEnd_eq {s : State} {c : Nat} (h : rd s F.BDAC_STATUS_c_HOLDING c = 1) :
    bdacHoldEnd c s = match (bdacChan s c).arrived with
      | some n => bdacArrive (bdacReleased s c) c n
      | none => bdacReleased s c := by
  simp only [bdacHoldEnd, h, if_true]
  rfl

theorem bdacReleased_shows (s : State) {c : Nat} (hc : c < 32) :
    rd (bdacReleased s c) F.BDAC_STATUS_c_HOLDING c = 0 ∧
      rd (bdacReleased s c) F.BDAC_STATUS_c_APPLIED c = rd s F.BDAC_STATUS_c_APPLIED c ∧
      rangeGain (bdacReleased s c) c = rangeGain s c ∧
      bdacChan (bdacReleased s c) c =
        { bdacChan s c with out := rd s F.BDAC_STATUS_c_APPLIED c * rangeGain s c, arrived := none } := by
  refine ⟨?_, ?_, ?_, bdacChan_setBdac _ _ hc⟩
  · rw [bdacReleased, rd_setBdac, rd_wr_same]
    rfl
  · rw [bdacReleased, rd_setBdac, rd_wr_apart]
  · rw [rangeGain, bdacReleased, rd_setBdac, rd_wr_apart, rangeGain]

theorem bdacHoldEnd_idle {s : State} {c : Fin 32} (h : rd s F.BDAC_STATUS_c_HOLDING c = 1) (hnone : (bdacChan s c).arrived = none) :
    rd (bdacHoldEnd c s) F.BDAC_STATUS_c_HOLDING c = 0 ∧
      (bdacChan (bdacHoldEnd c s) c).out = rd s F.BDAC_STATUS_c_APPLIED c * rangeGain s c ∧
      rd (bdacHoldEnd c s) F.BDAC_STATUS_c_APPLIED c = rd s F.BDAC_STATUS_c_APPLIED c := by
  obtain ⟨hfree, happlied, -, hchan⟩ := bdacReleased_shows s c.isLt
  rw [bdacHoldEnd_eq h, hnone]
  exact ⟨hfree, by rw [hchan], happlied⟩

theorem bdacHoldEnd_arrived {s : State} {c : Fin 32} {n : Nat} (h : rd s F.BDAC_STATUS_c_HOLDING c = 1)
    (hsome : (bdacChan s c).arrived = some n) (hn : n < 65536) :
    rd (bdacHoldEnd c s) F.BDAC_STATUS_c_APPLIED c = n ∧ (bdacChan (bdacHoldEnd c s) c).arrived = none ∧
      rd (bdacHoldEnd c s) F.BDAC_STATUS_c_HOLDING c = (if n / 1024 = rd s F.BDAC_STATUS_c_APPLIED c / 1024 then 0 else 1) ∧
      (bdacChan (bdacHoldEnd c s) c).out =
        (if n / 1024 = rd s F.BDAC_STATUS_c_APPLIED c / 1024 then n else rd s F.BDAC_STATUS_c_APPLIED c) * rangeGain s c := by
  obtain ⟨hfree, happlied, hgain, hchan⟩ := bdacReleased_shows s c.isLt
  have hrun : bdacHoldEnd c s = bdacArrive (bdacReleased s c) c n := by rw [bdacHoldEnd_eq h, hsome]
  rw [hrun, bdacArrive_applied hfree hn, bdacArrive_holding hfree, bdacArrive_chan hfree c.isLt, happlied, hgain, hchan]
  refine ⟨rfl, ?_, rfl, ?_⟩
  · split <;> rfl
  · split <;> rfl

/-! Dither (R274, R276). -/

/-- From s to t the generators, the effective values and every channel's dither stand. -/
structure DitherKept (s t : State) : Prop where
  eff : t.eff = s.eff
  gens : t.ctl.gens = s.ctl.gens
  dither : ∀ c, (bdacChan t c).dither = (bdacChan s c).dither

namespace DitherKept

theorem rfl' (s : State) : DitherKept s s := ⟨rfl, rfl, fun _ => rfl⟩

theorem trans {s t u : State} (h : DitherKept s t) (g : DitherKept t u) : DitherKept s u :=
  ⟨g.eff.trans h.eff, g.gens.trans h.gens, fun c => (g.dither c).trans (h.dither c)⟩

theorem of_ctl {s t : State} (heff : t.eff = s.eff) (hctl : t.ctl = s.ctl) : DitherKept s t :=
  ⟨heff, by rw [hctl], fun c => by simp only [bdacChan, hctl]⟩

theorem setBdac (s : State) (c : Nat) {x : BdacChan} (hx : x.dither = (bdacChan s c).dither) :
    DitherKept s (Machine.setBdac s c x) := by
  refine ⟨rfl, rfl, fun d => ?_⟩
  by_cases hd : d = c
  · subst hd
    by_cases hlt : d < 32
    · rw [bdacChan_setBdac _ _ hlt, hx]
    · simp [bdacChan, Machine.setBdac, vSet, vGet, not_lt.1 hlt]
  · rw [bdacChan_setBdac_other _ _ hd]

theorem arrive (s : State) (c n : Nat) : DitherKept s (bdacArrive s c n) := by
  unfold bdacArrive
  split
  · exact setBdac s c rfl
  · simp only
    split
    · exact of_ctl rfl rfl
    · exact (of_ctl (s := s) (t := wr s F.BDAC_STATUS_c_APPLIED n c) rfl rfl).trans (setBdac _ c rfl)

theorem take (s : State) (c code : Nat) : DitherKept s (bdacTake s c code) :=
  ((setBdac s c (x := { bdacChan s c with code := code }) rfl).trans (arrive ..)).trans
    (of_ctl (setCeilHit_eff ..) (setCeilHit_ctl ..))

theorem refresh (s : State) (c : Nat) : DitherKept s (bdacRefresh s c) := by
  unfold bdacRefresh
  split
  · exact take ..
  · exact rfl' s

end DitherKept

theorem ditherTerm_of_kept {s t : State} (heff : t.eff = s.eff) (hgens : t.ctl.gens = s.ctl.gens) (c : Nat) :
    ditherTerm t c = ditherTerm s c := by
  unfold ditherTerm genEnabled rdE
  rw [heff, hgens]

/-- A channel takes its generator's dither. -/
def ditherTake (s : State) (c : Nat) : State :=
  if (bdacChan s c).dither = ditherTerm s c then s
  else bdacRefresh (setBdac s c { bdacChan s c with dither := ditherTerm s c }) c

theorem ditherTake_gens (s : State) (c : Nat) : (ditherTake s c).eff = s.eff ∧ (ditherTake s c).ctl.gens = s.ctl.gens := by
  unfold ditherTake
  split
  · exact ⟨rfl, rfl⟩
  · exact ⟨(DitherKept.refresh ..).eff, (DitherKept.refresh ..).gens⟩

theorem ditherTake_same (s : State) {c : Nat} (hc : c < 32) :
    (bdacChan (ditherTake s c) c).dither = ditherTerm (ditherTake s c) c := by
  rw [ditherTerm_of_kept (ditherTake_gens s c).1 (ditherTake_gens s c).2]
  unfold ditherTake
  split
  · assumption
  · rw [(DitherKept.refresh ..).dither, bdacChan_setBdac _ _ hc]

theorem ditherTake_other (s : State) {c d : Nat} (h : d ≠ c) : (bdacChan (ditherTake s c) d).dither = (bdacChan s d).dither := by
  unfold ditherTake
  split
  · rfl
  · rw [(DitherKept.refresh ..).dither, bdacChan_setBdac_other _ _ h]

/-- The generators after n modulator cycles. -/
def gensAdvanced (s : State) (n : Nat) : State :=
  { s with ctl := { s.ctl with gens := Vector.ofFn fun g : Fin 4 => genAdvance s g n } }

theorem ditherUpdate_eq {s : State} (h : s.power.mode = .show) :
    ditherUpdate s = (List.range 32).foldl ditherTake (gensAdvanced s 20) := by
  rw [ditherUpdate, if_pos h]
  rfl

theorem ditherUpdate_shows {s : State} (h : s.power.mode = .show) :
    (∀ g : Fin 4, (ditherUpdate s).ctl.gens[g].phase = if rdE s F.BDAC_DGEN_g_EN g = 1 then
      (s.ctl.gens[g].phase + 20 * rdE s F.BDAC_DGEN_g_FREQ g) % 2 ^ 32 else 0) ∧
    ∀ c : Fin 32, (bdacChan (ditherUpdate s) c).dither = ditherTerm (ditherUpdate s) c := by
  rw [ditherUpdate_eq h]
  constructor
  · intro g
    have hgens : ((List.range 32).foldl ditherTake (gensAdvanced s 20)).ctl.gens = (gensAdvanced s 20).ctl.gens :=
      List.foldlRecOn (motive := fun t => t.ctl.gens = (gensAdvanced s 20).ctl.gens) _ _ rfl
        fun t ht c _ => (ditherTake_gens t c).2.trans ht
    have hphase : (genAdvance s g 20).phase = if rdE s F.BDAC_DGEN_g_EN g = 1 then
        (s.ctl.gens[g].phase + 20 * rdE s F.BDAC_DGEN_g_FREQ g) % 2 ^ 32 else 0 := by
      simp only [genAdvance, genEnabled, beq_iff_eq]
      split
      · simp [vGet]
      · rfl
    rw [← hphase]
    simp only [hgens]
    simp [gensAdvanced]
  · intro c
    refine foldl_of_mem (P := fun t => (bdacChan t c).dither = ditherTerm t c) (List.mem_range.2 c.isLt)
      (fun t => ditherTake_same t c.isLt) (fun t ht d _ => ?_) _
    by_cases hd : d = c
    · rw [hd]
      exact ditherTake_same t c.isLt
    · rw [ditherTake_other t (Ne.symm hd), ht, ditherTerm_of_kept (ditherTake_gens t d).1 (ditherTake_gens t d).2]

/-! A range change (R286). -/

theorem engineCodes_of_reports {s v : State} (h : OnlyReports s v) (c : Nat) : engineCodes v c = engineCodes s c ∧
    driversOf v c = driversOf s c := by
  have hstate : ∀ l, loopState v l = loopState s l := fun l => h.rd_quiet
  have hactuator : ∀ l, loopActuator v l = loopActuator s l := fun l => by
    unfold loopActuator loopGrouped loopGroup rdE
    rw [h.eff]
  have hgrouped : ∀ l, loopGrouped v l = loopGrouped s l := fun l => by
    unfold loopGrouped rdE
    rw [h.eff]
  have hdrivers : driversOf v c = driversOf s c := by simp only [driversOf, hstate, hactuator]
  exact ⟨by simp only [engineCodes, hgrouped, hactuator, hdrivers, rdE_of_eff h.eff], hdrivers⟩

theorem mem_engineCodes_clear {s : State} {c : Nat} {e : Field × Nat} (h : e ∈ engineCodes s c) :
    e.2 < e.1.place.count1 ∧ e.1.Clear 0 := by
  simp only [engineCodes, List.mem_append, List.mem_map] at h
  rcases h with ⟨l, hl, rfl⟩ | ⟨g, hg, rfl⟩
  · refine ⟨?_, show F.LOOP_STATUS_CODE.Clear 0 by decide⟩
    rcases hl with hl | hl
    · exact lt_of_mem_whichBelow hl
    · exact lt_of_mem_whichBelow (List.mem_of_mem_filter hl)
  · exact ⟨lt_of_mem_whichBelow hg, show F.LOOP_GRP_STATUS_g_CODE.Clear 0 by decide⟩

theorem rangeCodes_of_reports {s v : State} (h : OnlyReports s v) {c : Nat} (hc : c < 32) : rangeCodes v c = rangeCodes s c := by
  have hcodes : (engineCodes v c).map (fun e => rd v e.1 e.2) = (engineCodes s c).map fun e => rd s e.1 e.2 := by
    rw [(engineCodes_of_reports h c).1]
    refine List.map_congr_left fun e he => ?_
    obtain ⟨hi, hclear⟩ := mem_engineCodes_clear he
    exact h.rd_clear hi hclear
  have hcode : rd v F.BDAC_CODE_c_CODE c = rd s F.BDAC_CODE_c_CODE c := h.rd_clear hc
  simp only [rangeCodes, hcodes, hcode, rdE_of_eff h.eff, bdacChan, h.ctl]

/-- The state in which a range change has its new codes and its hold. -/
def rangeHeld (s : State) (c : Nat) (toX2 : Bool) : State :=
  let f := rescaleCode toX2
  let ch := bdacChan s c
  let s0 := (engineCodes s c).foldl (fun t e => wr t e.1 (f (rd s e.1 e.2)) e.2) s
  let s1 := wrE (wr s0 F.BDAC_CODE_c_CODE (f (rd s F.BDAC_CODE_c_CODE c)) c) F.BDAC_CODE_c_CODE (f (rdE s F.BDAC_CODE_c_CODE c)) c
  let s2 := { s1 with ctl := { s1.ctl with
    bdac := vSet s1.ctl.bdac c { ch with loopCode := ch.loopCode.map f, code := f ch.code, arrived := none }
    pendingCodes := s1.ctl.pendingCodes.map fun p => if p.1 = c then (p.1, f p.2) else p } }
  wr (wrB s2 F.BDAC_STATUS_c_RANGE toX2 c) F.BDAC_STATUS_c_HOLDING 1 c

theorem rangeHeld_shows (s : State) (c : Nat) (toX2 : Bool) :
    rd (rangeHeld s c toX2) F.BDAC_STATUS_c_RANGE c = b2n toX2 ∧ rd (rangeHeld s c toX2) F.BDAC_STATUS_c_HOLDING c = 1 ∧
      rdE (rangeHeld s c toX2) F.BDAC_CODE_c_CODE c = rescaleCode toX2 (rdE s F.BDAC_CODE_c_CODE c) % 2 ^ 16 := by
  refine ⟨?_, ?_, ?_⟩
  · rw [rangeHeld, rd_wr_apart, rd_wrB_same _ F.BDAC_STATUS_c_RANGE]
  · rw [rangeHeld, rd_wr_same]
    rfl
  · exact rdE_wrE_same _ F.BDAC_CODE_c_CODE _ _ _

theorem changeRange_shows (s : State) {c : Nat} (hc : c < 32) (toX2 : Bool) :
    rd (changeRange s c toX2) F.BDAC_STATUS_c_RANGE c = b2n toX2 ∧ rd (changeRange s c toX2) F.BDAC_STATUS_c_HOLDING c = 1 ∧
      rdE (changeRange s c toX2) F.BDAC_CODE_c_CODE c = rescaleCode toX2 (rdE s F.BDAC_CODE_c_CODE c) % 2 ^ 16 := by
  obtain ⟨hrange, hholding, hcode⟩ := rangeHeld_shows s c toX2
  have hrun : ∃ n hit, changeRange s c toX2 = if bdacState (rangeHeld s c toX2) c = 2 then
      setCeilHit (wr (rangeHeld s c toX2) F.BDAC_STATUS_c_APPLIED n c) c hit else rangeHeld s c toX2 := ⟨_, _, rfl⟩
  obtain ⟨n, hit, hrun⟩ := hrun
  rw [hrun]
  split
  · refine ⟨?_, ?_, ?_⟩
    · rw [setCeilHit_rd _ _ hc hc, rd_wr_apart, hrange]
    · rw [setCeilHit_rd _ _ hc hc, rd_wr_apart, hholding]
    · rw [rdE_of_eff (setCeilHit_eff ..), ← hcode]
      rfl
  · exact ⟨hrange, hholding, hcode⟩

/-- The state that a range change leaves before its event. -/
def rangeChanged (s : State) (c : Nat) (toX2 : Bool) : State :=
  { changeRange s c toX2 with cal := { (changeRange s c toX2).cal with
    repeatBdac := if (changeRange s c toX2).cal.bdacNow = some c then true else (changeRange s c toX2).cal.repeatBdac } }

theorem rangeChanged_rdE (s : State) (c : Nat) (toX2 : Bool) (f : Field) (i : Nat) :
    rdE (rangeChanged s c toX2) f i = rdE (changeRange s c toX2) f i := by
  unfold rangeChanged
  generalize changeRange s c toX2 = u
  rfl

/-- BDAC_RANGE's checks: on the codes, the drivers, a rehearsal and the lock. -/
def rangeChecks (s : State) (c : Nat) (x : Nat) : List (Bool × Nat × Nat) :=
  let change := rd s F.BDAC_STATUS_c_RANGE c != x
  [(change && x == 0 && (rangeCodes s c).any fun n => decide (0x7FFF < n), stRange, 0),
    (change && (driversOf s c).any fun l => loopState s l != 2, stState, 0), (rehearsing s 6 c, stBusy, 0),
    (change && rd s F.BDAC_CEIL_c_LOCK c == 1, stLocked, 0)]

section Range

variable {s v : State} {c : Cmd} (hc : c.w 2 < 32) (hchange : rd s F.BDAC_STATUS_c_RANGE (c.w 2) ≠ c.w 3)
  (hcodes : c.w 3 = 0 → ∀ n ∈ rangeCodes s (c.w 2), n ≤ 0x7FFF) (hdrivers : ∀ l ∈ driversOf s (c.w 2), loopState s l = 2)
  (hrehearsing : rehearsing s 6 (c.w 2) = false) (hv : OnlyReports s v)

include hc hv in
theorem rangeChecks_of_reports : rangeChecks v (c.w 2) (c.w 3) = rangeChecks s (c.w 2) (c.w 3) := by
  have hrange : rd v F.BDAC_STATUS_c_RANGE (c.w 2) = rd s F.BDAC_STATUS_c_RANGE (c.w 2) := hv.rd_quiet
  have hlock : rd v F.BDAC_CEIL_c_LOCK (c.w 2) = rd s F.BDAC_CEIL_c_LOCK (c.w 2) := hv.rd_clear hc
  have hstate : ∀ l, loopState v l = loopState s l := fun l => hv.rd_quiet
  simp only [rangeChecks, hrange, hlock, rangeCodes_of_reports hv hc, (engineCodes_of_reports hv _).2, hstate, rehearsing, hv.test]

include hchange hcodes hdrivers hrehearsing in
theorem firstFail_rangeChecks : firstFail (rangeChecks s (c.w 2) (c.w 3)) =
    if rd s F.BDAC_CEIL_c_LOCK (c.w 2) = 1 then some (stLocked, 0) else none := by
  have hrange : (c.w 3 == 0 && (rangeCodes s (c.w 2)).any fun n => decide (0x7FFF < n)) = false := by
    rw [Bool.and_eq_false_iff]
    by_cases hzero : c.w 3 = 0
    · exact .inr (by simpa using hcodes hzero)
    · exact .inl (by simpa using hzero)
  have hstate : ((driversOf s (c.w 2)).any fun l => loopState s l != 2) = false := by simpa using hdrivers
  have hchanged : (rd s F.BDAC_STATUS_c_RANGE (c.w 2) != c.w 3) = true := bne_iff_ne.2 hchange
  unfold rangeChecks
  simp only [hchanged, Bool.true_and, hrange, hstate, hrehearsing]
  by_cases hlock : rd s F.BDAC_CEIL_c_LOCK (c.w 2) = 1 <;> simp [firstFail, hlock]

/-- BDAC_RANGE's own part changes the range where nothing bars it. -/
theorem bdacRange_pass (h : firstFail (rangeChecks s (c.w 2) (c.w 3)) = none) (hne : rd s F.BDAC_STATUS_c_RANGE (c.w 2) ≠ c.w 3) :
    bdacRange c s = (raiseEvent (rangeChanged s (c.w 2) (c.w 3 == 1)) (ev 0x8510 (locBdac (c.w 2))
        (c.w 3 + rdE (changeRange s (c.w 2) (c.w 3 == 1)) F.BDAC_CODE_c_CODE (c.w 2) * 2 ^ 16)),
      .done stOK 0 (rdE (changeRange s (c.w 2) (c.w 3 == 1)) F.BDAC_CODE_c_CODE (c.w 2)) 0) := by
  refine (withChecks_pass h).trans ?_
  simp only [hne, if_false]
  rfl

include hchange hcodes hdrivers hrehearsing in
theorem bdacRange_completes (htaken : Taken 0x0510 [(2, 0x1F), (3, 1)] c s) (hlock : rd s F.BDAC_CEIL_c_LOCK (c.w 2) = 0) :
    CompletesOk (.bdacRange c) 0x0510 c s (rescaleCode (c.w 3 == 1) (rdE s F.BDAC_CODE_c_CODE (c.w 2)) % 2 ^ 16) 0 fun u =>
      rd u F.BDAC_STATUS_c_RANGE (c.w 2) = c.w 3 ∧ rd u F.BDAC_STATUS_c_HOLDING (c.w 2) = 1 ∧
      rdE u F.BDAC_CODE_c_CODE (c.w 2) = rescaleCode (c.w 3 == 1) (rdE s F.BDAC_CODE_c_CODE (c.w 2)) % 2 ^ 16 := by
  obtain ⟨-, -, -, hmask⟩ := id htaken
  have hchannel : c.w 2 < 32 := cmdWord_lt_of_masked hmask rfl
  have hflag : c.w 3 < 2 := cmdWord_lt_of_masked hmask rfl
  have hbit : b2n (c.w 3 == 1) = c.w 3 := by
    interval_cases c.w 3 <;> rfl
  have hcode : ∀ v, OnlyReports s v → rdE (changeRange v (c.w 2) (c.w 3 == 1)) F.BDAC_CODE_c_CODE (c.w 2) =
      rescaleCode (c.w 3 == 1) (rdE s F.BDAC_CODE_c_CODE (c.w 2)) % 2 ^ 16 := fun v hv => by
    rw [(changeRange_shows v hchannel _).2.2, rdE_of_eff hv.eff]
  refine completesOk_of_reports htaken rfl (fun _ _ => rfl) (w := fun v => raiseEvent (rangeChanged v (c.w 2) (c.w 3 == 1))
    (ev 0x8510 (locBdac (c.w 2)) (c.w 3 + rdE (changeRange v (c.w 2) (c.w 3 == 1)) F.BDAC_CODE_c_CODE (c.w 2) * 2 ^ 16)))
    (fun v hv => ?_) fun v hv => ?_
  · have hpass : firstFail (rangeChecks v (c.w 2) (c.w 3)) = none := by
      rw [rangeChecks_of_reports hchannel hv, firstFail_rangeChecks hchange hcodes hdrivers hrehearsing, hlock]
      rfl
    have hne : rd v F.BDAC_STATUS_c_RANGE (c.w 2) ≠ c.w 3 := by rwa [hv.rd_quiet]
    rw [bdacRange_pass hpass hne, hcode v hv]
  · obtain ⟨hrange, hholding, -⟩ := changeRange_shows v hchannel (c.w 3 == 1)
    refine ⟨?_, ?_, ?_⟩
    · rw [raiseEvent_rd_quiet]
      exact hrange.trans hbit
    · rw [raiseEvent_rd_quiet]
      exact hholding
    · rw [raiseEvent_rdE, rangeChanged_rdE]
      exact hcode v hv

include hchange hcodes hdrivers hrehearsing in
theorem bdacRange_locked (htaken : Taken 0x0510 [(2, 0x1F), (3, 1)] c s) (hlock : rd s F.BDAC_CEIL_c_LOCK (c.w 2) = 1) :
    Runs (.bdacRange c) s fun t => t = complete (takenState 0x0510 c s) c.tag 0x0510 c.notify stLocked 0 0 0 := by
  obtain ⟨-, -, -, hmask⟩ := id htaken
  have hfail : firstFail (rangeChecks (takenState 0x0510 c s) (c.w 2) (c.w 3)) = some (stLocked, 0) := by
    rw [rangeChecks_of_reports (cmdWord_lt_of_masked hmask rfl) (taken_reports ..),
      firstFail_rangeChecks hchange hcodes hdrivers hrehearsing, hlock]
    rfl
  have hbody : bdacRange c (takenState 0x0510 c s) = (takenState 0x0510 c s, .done stLocked 0 0 0) := withChecks_fail hfail
  have hrun : exec (.bdacRange c) s = .next (hostCmd 0x0510 [(2, 0x1F), (3, 1)] noGate c (bdacRange c) s) := rfl
  exact ⟨_, by rw [hrun, hostCmd_taken noGate _ htaken rfl, hbody, finish_done], rfl⟩

end Range

theorem rescaleCode_flag (x n : Nat) : rescaleCode (x == 1) n = if x = 1 then (roundConv (n : Int) 2).toNat else 2 * n := by
  by_cases h : x = 1 <;> simp [rescaleCode, h]

/-- Settles O21: a code's way to its converter, the end of a hold, the dither of every channel, and a change of range. -/
theorem biasCommandsComplete : Obligations.BiasCommandsComplete :=
  ⟨fun _ _ hstate hen hsource hwindow hfree => ⟨_, rfl, bdacFirstCode_shows hstate hen hsource hwindow hfree⟩,
    fun _ _ h hnone => ⟨_, rfl, bdacHoldEnd_idle h hnone⟩, fun _ _ _ h hsome hn => ⟨_, rfl, bdacHoldEnd_arrived h hsome hn⟩,
    fun _ h => ⟨_, rfl, ditherUpdate_shows h⟩,
    fun _ c htaken hchange hcodes hdrivers hrehearsing hlock => by
      have hcompletes := bdacRange_completes hchange hcodes hdrivers hrehearsing htaken hlock
      rw [rescaleCode_flag] at hcompletes
      exact hcompletes,
    fun _ _ htaken hchange hcodes hdrivers hrehearsing hlock => bdacRange_locked hchange hcodes hdrivers hrehearsing htaken hlock⟩

end Sys2Proof.Machine
end

section
/-! PROOFS. Symbols, shares and aside words read back (R78, R79, R120, R206, R209, R210). -/

namespace Sys2Proof.Machine

open Sys2Proof

set_option Elab.async false

/-- A precoder's run from any state is undone by the decoder from the same state (R79). -/
theorem decodeRun_precodeRun (on : Bool) (prev rel : Nat) {vs : List Nat} (h : ∀ v ∈ vs, v < 4) :
    (decodeRun on prev rel ((precodeRun on prev vs).map fun v => (v, 15, 15))).map (·.1) = vs := by
  induction vs generalizing prev rel with
  | nil => rfl
  | cons g gs ih =>
    obtain ⟨hg, hgs⟩ := List.forall_mem_cons.1 h
    simp only [precodeRun, decodeRun, List.map_cons, ih _ _ hgs]
    cases on
    · rfl
    · have hback : deprecode (precode g prev) prev = g := by
        unfold deprecode precode
        omega
      simp [hback]

/-- From index n the kept elements are those at d, d + w and so on, where n + d is the first kept index. -/
theorem everyNth_from {α : Type} {w i : Nat} (xs : List α) {n d : Nat} (k : Nat) (hd : d < w) (hi : (n + d) % w = i) :
    ((((xs.zipIdx n).filter fun e => e.2 % w == i).map (·.1))[k]?) = xs[w * k + d]? := by
  induction xs generalizing n d k with
  | nil => simp
  | cons x xs ih =>
    rw [List.zipIdx_cons]
    cases d with
    | zero =>
      have hkept : ((x, n).2 % w == i) = true := by simpa using hi
      rw [List.filter_cons_of_pos (p := fun e : α × Nat => e.2 % w == i) hkept, List.map_cons]
      cases k with
      | zero => simp
      | succ k =>
        have hnext : (n + 1 + (w - 1)) % w = i := by
          rw [show n + 1 + (w - 1) = n + 0 + w by omega, Nat.add_mod_right, hi]
        rw [List.getElem?_cons_succ, ih k (Nat.sub_lt hd Nat.one_pos) hnext,
          show w * (k + 1) + 0 = w * k + (w - 1) + 1 by rw [Nat.mul_succ]; omega, List.getElem?_cons_succ]
    | succ d =>
      have hskip : ¬((x, n).2 % w == i) = true := by
        intro hn
        have hsame : (n + (d + 1)) % w = (n + 0) % w := hi.trans (beq_iff_eq.1 hn).symm
        have hmod : d + 1 ≡ 0 [MOD w] := Nat.ModEq.add_left_cancel' n hsame
        rw [Nat.ModEq, Nat.mod_eq_of_lt hd, Nat.zero_mod] at hmod
        exact Nat.succ_ne_zero d hmod
      rw [List.filter_cons_of_neg (p := fun e : α × Nat => e.2 % w == i) hskip, ih k (Nat.lt_of_succ_lt hd) (by rwa [Nat.add_right_comm, Nat.add_assoc]),
        ← Nat.add_assoc, List.getElem?_cons_succ]

/-- A lane's share of a codeword (R120). -/
theorem everyNth_getElem? {α : Type} {w i : Nat} (k : Nat) (xs : List α) (h : i < w) : (everyNth w i xs)[k]? = xs[w * k + i]? := by
  unfold everyNth
  exact everyNth_from xs k h (by rw [Nat.zero_add, Nat.mod_eq_of_lt h])

theorem getElem?_rangeMap {α : Type} {n k : Nat} (f : Nat → α) (h : k < n) : ((List.range n).map f)[k]? = some (f k) := by
  simp [h]

/-- The deinterleaver undoes the interleaver where the block is whole bytes (R210). -/
theorem deinterleave_interleave {b : Nat} {bits : List Bool} (hbytes : b % 8 = 0) (hlen : bits.length = b) :
    deinterleave b false (interleave b bits) = bits := by
  refine List.ext_getElem (by simp [deinterleave, hlen]) fun j hj hj' => ?_
  have hlt : j < b := hlen ▸ hj'
  have hcol : j / 8 < b / 8 := by omega
  have hrow : j % 8 * (b / 8) ≤ 7 * (b / 8) := Nat.mul_le_mul_right _ (by omega)
  have hplace : j % 8 * (b / 8) + j / 8 < b := by omega
  have hmod : (j % 8 * (b / 8) + j / 8) % (b / 8) = j / 8 := by
    rw [Nat.mul_comm, Nat.mul_add_mod, Nat.mod_eq_of_lt hcol]
  have hdiv : (j % 8 * (b / 8) + j / 8) / (b / 8) = j % 8 := by
    rw [Nat.mul_comm, Nat.mul_add_div (Nat.zero_lt_of_lt hcol), Nat.div_eq_of_lt hcol, Nat.add_zero]
  simp only [deinterleave, List.getElem_map, List.getElem_range]
  rw [interleave, getElem?_rangeMap _ hplace, hmod, hdiv, Nat.div_add_mod, List.getElem?_eq_getElem hj']
  rfl

theorem pairBits_valueOfPair (a b : Bool) : pairBits (valueOfPair a b) = [a, b] := by cases a <;> cases b <;> rfl

theorem valuesOfBits_pairBits : ∀ bs : List Bool, bs.length % 2 = 0 → (valuesOfBits bs).flatMap pairBits = bs
  | [], _ => rfl
  | [_], h => absurd h Nat.one_ne_zero
  | a :: b :: bs, h => by
    have heven : bs.length % 2 = 0 := (Nat.add_mod_right _ 2).symm.trans h
    rw [valuesOfBits, List.flatMap_cons, pairBits_valueOfPair, valuesOfBits_pairBits bs heven]
    rfl

theorem signOf_mul_neg (b : Bool) {m : Int} (h : 0 < m) : decide (signOf b * m < 0) = b := by
  cases b <;> simp [signOf, b2n] <;> omega

/-- One axis of the 16 points: an outer level is past the threshold, an inner one is not. -/
theorem axisBits_level (a b : Bool) {m p : Int} (hm : 0 < m) (hinner : 10 * m ^ 2 ≤ 4 * p ^ 2) (houter : 4 * p ^ 2 < 90 * m ^ 2) :
    axisBits (levelOf (valueOfPair a b) * m) p = [a, b] := by
  have hpast : ∀ k : Int, k ^ 2 = 9 → 4 * p ^ 2 < 10 * (k * m) ^ 2 := fun k hk => by rw [mul_pow, hk]; linarith
  have hshort : ∀ k : Int, k ^ 2 = 1 → ¬4 * p ^ 2 < 10 * (k * m) ^ 2 := fun k hk => by rw [mul_pow, hk]; linarith
  cases a <;> cases b
  · have hneg : ¬(0 : Int) ≤ -3 * m := by omega
    show axisBits (-3 * m) p = _
    rw [axisBits, if_neg hneg, if_pos (hpast _ rfl)]
    rfl
  · have hneg : ¬(0 : Int) ≤ -1 * m := by omega
    show axisBits (-1 * m) p = _
    rw [axisBits, if_neg hneg, if_neg (hshort _ rfl)]
    rfl
  · have hpos : (0 : Int) ≤ 3 * m := by omega
    show axisBits (3 * m) p = _
    rw [axisBits, if_pos hpos, if_pos (hpast _ rfl)]
    rfl
  · have hpos : (0 : Int) ≤ 1 * m := by omega
    show axisBits (1 * m) p = _
    rw [axisBits, if_pos hpos, if_neg (hshort _ rfl)]
    rfl

/-- A constellation's point is decided as the bits that it carries, at any gain (R206). -/
theorem decideBits_pointOf {code : Nat} {bits : List Bool} {m p : Int} (hcode : code < 4) (hlen : bits.length = codeBits code)
    (hm : 0 < m) (hinner : 10 * m ^ 2 ≤ 4 * p ^ 2) (houter : 4 * p ^ 2 < 90 * m ^ 2) :
    decideBits code ((pointOf code bits).re * m, (pointOf code bits).im * m) p = bits := by
  interval_cases code
  · simpa [decideBits, codeBits, eq_comm] using hlen
  · obtain ⟨a, rfl⟩ := List.length_eq_one_iff.1 hlen
    simp [decideBits, pointOf, signOf_mul_neg _ hm]
  · obtain ⟨a, b, rfl⟩ := List.length_eq_two.1 hlen
    simp [decideBits, pointOf, signOf_mul_neg _ hm]
  · match bits, hlen with
    | [a, b, c, d], _ => simp [decideBits, pointOf, axisBits_level _ _ hm hinner houter]

/-- The first n bits of a word, read as a number. -/
theorem foldl_wordBits (h : Word) {n : Nat} (hn : n ≤ 32) :
    ((List.range n).map fun k => h.getLsbD (31 - k)).foldl (fun a b => 2 * a + b2n b) 0 = h.toNat / 2 ^ (32 - n) := by
  induction n with
  | zero => exact (Nat.div_eq_of_lt h.isLt).symm
  | succ n ih =>
    have hbit : b2n (h.getLsbD (31 - n)) = h.toNat / 2 ^ (31 - n) % 2 := by
      rw [← BitVec.testBit_toNat, Nat.testBit_eq_decide_div_mod_eq]
      rcases Nat.mod_two_eq_zero_or_one (h.toNat / 2 ^ (31 - n)) with h0 | h0 <;> simp [h0, b2n]
    have hhalf : h.toNat / 2 ^ (32 - n) = h.toNat / 2 ^ (31 - n) / 2 := by
      rw [Nat.div_div_eq_div_mul, ← Nat.pow_succ]
      congr 2
      omega
    rw [List.range_succ, List.map_append, List.foldl_append, ih (Nat.le_of_succ_le hn), List.map_singleton, List.foldl_cons,
      List.foldl_nil, hbit, hhalf, show 32 - (n + 1) = 31 - n by omega]
    exact Nat.div_add_mod _ 2

theorem bitsWord_wordBits (h : Word) : bitsWord (wordBits h) = h := by
  rw [bitsWord, wordBits, foldl_wordBits h le_rfl]
  simp

theorem headerPoints_wordBits (h : Word) : ((headerPoints h).map fun x => decide (x.re < 0)) = wordBits h := by
  rw [headerPoints, wordBits, List.map_map]
  refine List.map_congr_left fun k _ => ?_
  have hsign := signOf_mul_neg (h.getLsbD (31 - k)) Int.one_pos
  rwa [Int.mul_one] at hsign

/-- Settles O58: pairs, levels, precoding, shares, interleaving, constellations, headers and words. -/
theorem symbolsReadBack : Obligations.SymbolsReadBack := by
  refine ⟨fun a b => ⟨pairBits_valueOfPair a b, ?_, ?_⟩, ?_, valuesOfBits_pairBits, fun on prev rel _ => decodeRun_precodeRun on prev rel,
    fun _ _ k word => everyNth_getElem? k word, fun _ _ => deinterleave_interleave, fun _ _ _ _ => decideBits_pointOf,
    fun h => ⟨by rw [headerPoints_wordBits, bitsWord_wordBits], bitsWord_wordBits h⟩⟩
  · cases a <;> cases b <;> decide
  · cases a <;> cases b <;> rfl
  · decide

end Sys2Proof.Machine
end

section
/-! PROOFS. ADC codes join the receive stream and timing recovery follows the sign of each DSP clock (R60, R64, R68, R71). -/

namespace Sys2Proof.Machine

open Sys2Proof

set_option Elab.async false

/-! The receive records and the fronts, where lanes stay. -/

theorem rxRec_of_lanes {s t : State} (h : t.lanes = s.lanes) (l : LaneId) : rxRec t l = rxRec s l := by
  cases l <;> simp only [rxRec, h]

theorem front_of_lanes {s t : State} (h : t.lanes = s.lanes) (l : LaneId) : front t l = front s l := by
  cases l <;> simp only [front, h]

theorem wrL_lanes (s : State) (l : LaneId) (f h : Field) (v : Nat) : (wrL s l f h v).lanes = s.lanes := by cases l <;> rfl

theorem bumpL_lanes (s : State) (l : LaneId) (m n : Nat) : (bumpL s l m n).lanes = s.lanes := by
  cases l <;> exact (bump_reports ..).lanes

theorem showTiming_lanes (s : State) (l : LaneId) : (showTiming s l).lanes = s.lanes := by cases l <;> rfl

theorem setTpcLock_lanes (s : State) (l : LaneId) (b : Bool) : (setTpcLock s l b).lanes = s.lanes := by
  unfold setTpcLock
  split
  · rfl
  · refine (raiseEvent_reports ..).lanes.trans ?_
    split
    · exact wrL_lanes ..
    · exact (bumpL_lanes ..).trans (wrL_lanes ..)

theorem tpcPrbsLock_lanes (s : State) (l : LaneId) : (tpcPrbsLock s l).lanes = s.lanes := by
  unfold tpcPrbsLock
  split
  · exact setTpcLock_lanes ..
  · rfl

theorem rxRec_setSpot (s : State) (n : Nat) (x : Spot) (l : LaneId) : rxRec (setSpot s n x) l = rxRec s l := by cases l <;> rfl

theorem rxRec_spotFollow (s : State) (l k : LaneId) (a : Nat) (xs : List RxSym) : rxRec (spotFollow s l a xs) k = rxRec s k := by
  unfold spotFollow
  split
  · split
    · exact rxRec_setSpot ..
    · rfl
  · rfl

/-! What a DSP clock does to a lane's timing. -/

theorem rxRec_setPhase (s : State) (l : LaneId) (f raw : Int) :
    rxRec (setPhase s l f raw) l = { rxRec s l with len := ((blockSymbols l : Int) - raw / 2 ^ 24).toNat } := by
  refine (rxRec_of_lanes (showTiming_lanes ..) l).trans ?_
  rw [rxRec_setRxRec, rxRec_setFront]

theorem front_setPhase (s : State) (l : LaneId) (f raw : Int) :
    front (setPhase s l f raw) l = { front s l with freq := f, phase := (raw % 2 ^ 24).toNat, timed := true } := by
  refine (front_of_lanes (showTiming_lanes ..) l).trans ?_
  rw [front_setRxRec, front_setFront]

/-- PI_CODE shows the phase's upper six bits. -/
theorem rdL_showTiming {s : State} {l : LaneId} (h : (front s l).phase < 2 ^ 24) :
    rdL (showTiming s l) l F.LRX_TR_STATUS_PI_CODE F.HSL_STATUS_PI_CODE = (front s l).phase / 2 ^ 18 := by
  cases l <;> exact (rd_wr_same ..).trans (Nat.mod_eq_of_lt (Nat.div_lt_of_lt_mul h))

theorem rdL_setPhase (s : State) (l : LaneId) (f raw : Int) :
    rdL (setPhase s l f raw) l F.LRX_TR_STATUS_PI_CODE F.HSL_STATUS_PI_CODE = (raw % 2 ^ 24).toNat / 2 ^ 18 := by
  have hphase : ∀ x : RxRec, front (setRxRec (setFront s l { front s l with
      freq := f, phase := (raw % 2 ^ 24).toNat, timed := true }) l x) l =
      { front s l with freq := f, phase := (raw % 2 ^ 24).toNat, timed := true } := fun x => by
    rw [front_setRxRec, front_setFront]
  have hlt : (raw % 2 ^ 24).toNat < 2 ^ 24 := by omega
  rw [setPhase, rdL_showTiming (by rwa [hphase]), hphase]

theorem rdL_setRxRec (s : State) (l : LaneId) (x : RxRec) (f g : Field) : rdL (setRxRec s l x) l f g = rdL s l f g := by cases l <;> rfl

/-- A lane that is held keeps its timing. -/
theorem timingClock_held {s : State} {l : LaneId} (g : Int) (h : timingHeld s l = true) :
    timingClock s l g = setRxRec s l { rxRec s l with len := blockSymbols l } := if_pos h

/-- The lane's record with the clock's sign counted. -/
def signCounted (s : State) (l : LaneId) (g : Int) : State :=
  let r := rxRec s l
  setRxRec s l { r with plus := r.plus + b2n (g == 1), minus := r.minus + b2n (g == -1), len := blockSymbols l }

/-- R68's next F of a lane on its own clock. -/
def freqNext (s : State) (l : LaneId) (g : Int) : Int := clampI (-freqMax) freqMax ((front s l).freq + shl g (trKi s l))

/-- R68's next PHI, before it wraps. -/
def phaseNext (s : State) (l : LaneId) (g : Int) : Int := (front s l).phase + freqNext s l g + shl g (trKp s l)

/-- A lane on its own clock that is not held moves F and PHI by R68's step. -/
theorem timingClock_moves {s : State} {l : LaneId} (g : Int) (hheld : timingHeld s l = false) (hfwd : laneForwarded s l = false) :
    timingClock s l g =
      let u := setPhase (signCounted s l g) l (freqNext s l g) (phaseNext s l g)
      setRxRec u l { rxRec u l with clamped := (rxRec s l).clamped || freqNext s l g == freqMax || freqNext s l g == -freqMax } := by
  have hfront : front (signCounted s l g) l = front s l := front_setRxRec ..
  unfold timingClock freqNext phaseNext freqNext
  rw [if_neg (by simp [hheld])]
  simp only [hfwd, Bool.false_and, Bool.false_eq_true, if_false]
  rw [← hfront]
  rfl

theorem timingClock_shows {s : State} {l : LaneId} (g : Int) (hheld : timingHeld s l = false) (hfwd : laneForwarded s l = false) :
    (front (timingClock s l g) l).freq = freqNext s l g ∧ (front (timingClock s l g) l).phase = (phaseNext s l g % 2 ^ 24).toNat ∧
      rdL (timingClock s l g) l F.LRX_TR_STATUS_PI_CODE F.HSL_STATUS_PI_CODE = (phaseNext s l g % 2 ^ 24).toNat / 2 ^ 18 ∧
      (rxRec (timingClock s l g) l).len = ((blockSymbols l : Int) - phaseNext s l g / 2 ^ 24).toNat := by
  rw [timingClock_moves g hheld hfwd]
  refine ⟨?_, ?_, (rdL_setRxRec ..).trans (rdL_setPhase ..), ?_⟩
  · rw [front_setRxRec, front_setPhase]
  · rw [front_setRxRec, front_setPhase]
  · rw [rxRec_setRxRec, rxRec_setPhase]

/-- A lane that is not held counts the sign; while its clock is the forwarded one and it does not train it tracks, else it moves. -/
theorem timingClock_cases {s : State} {l : LaneId} (g : Int) (hheld : timingHeld s l ≠ true) :
    timingClock s l g = setRxRec (signCounted s l g) l { rxRec (signCounted s l g) l with track := (rxRec s l).track + g } ∨
      ∃ f raw c, timingClock s l g =
        setRxRec (setPhase (signCounted s l g) l f raw) l { rxRec (setPhase (signCounted s l g) l f raw) l with clamped := c } := by
  unfold timingClock
  rw [if_neg hheld]
  by_cases hfwd : (laneForwarded s l && !laneTraining s l) = true
  · exact .inl (if_pos hfwd)
  · exact .inr ⟨_, _, _, if_neg hfwd⟩

theorem timingClock_x (s : State) (l : LaneId) (g : Int) : (rxRec (timingClock s l g) l).x = (rxRec s l).x := by
  have hcounted : (rxRec (signCounted s l g) l).x = (rxRec s l).x := by rw [signCounted, rxRec_setRxRec]
  by_cases hheld : timingHeld s l = true
  · rw [timingClock_held g hheld, rxRec_setRxRec]
  · obtain heq | ⟨f, raw, c, heq⟩ := timingClock_cases g hheld
    · rw [heq, rxRec_setRxRec, hcounted]
    · rw [heq, rxRec_setRxRec, rxRec_setPhase, hcounted]

/-! A whole block leaves the lane's record with no codes waiting. -/

theorem metricTake_x (a h1 : Int) (o : List Int) (r : RxRec) (xs : List DetSym) : (metricTake a h1 o r xs).x = r.x :=
  List.foldlRecOn (motive := fun t : RxRec => t.x = r.x) xs _ rfl fun _ ht _ _ => ht

theorem blockRecord_x (s : State) (l : LaneId) (r : RxRec) (d b c a : RxBlock) : (blockRecord s l r d b c a).1.x = r.x := by
  unfold blockRecord
  extract_lets paths det bits skipped e h1 xs g r1 r2
  have hr1 : r1.x = r.x := by
    unfold r1
    split
    · rfl
    · exact metricTake_x ..
  exact hr1

theorem blockDone_x (s : State) (l : LaneId) : (rxRec (blockDone s l) l).x = [] := by
  unfold blockDone
  extract_lets r0 a r before
  split
  · rw [rxRec_setRxRec]
  · extract_lets b r1
    split
    · rw [rxRec_setRxRec]
    · extract_lets q
      have hq : q.1.x = [] := blockRecord_x ..
      rw [timingClock_x, rxRec_of_lanes (tpcPrbsLock_lanes ..), rxRec_spotFollow, rxRec_setRxRec, hq]

theorem rxPush_waits {s : State} {l : LaneId} (v : Int) (h : (rxRec s l).x.length + 1 < (rxRec s l).len) :
    rxRec (rxPush s l v) l =
      let z := ((slicesOf s l).place[(rxRec s l).count % positionCount l]?).elim false (slicesOf s l).zeroed.contains
      { rxRec s l with
        count := (rxRec s l).count + 1
        x := (rxRec s l).x ++ [if z then 0 else satI 7 v]
        zeroed := (rxRec s l).zeroed ++ [z] } := by
  unfold rxPush
  extract_lets r z s1
  rw [if_neg (Nat.not_le.2 h)]
  exact rxRec_setRxRec ..

/-- Settles O59: the receive stream's codes, and R68's step of a lane's timing. -/
theorem samplesAndTimingFollow : Obligations.SamplesAndTimingFollow := by
  refine ⟨fun s l v h => ?_, fun s l v h => ?_, fun s l g hheld hfwd => ?_, fun s l g h => ?_⟩
  · rw [rxPush_waits v h]
    exact ⟨rfl, rfl, rfl, rfl⟩
  · unfold rxPush
    extract_lets r z s1
    rw [if_pos h]
    exact blockDone_x ..
  · obtain ⟨hfreq, hphase, hcode, hlen⟩ := timingClock_shows g hheld hfwd
    have hbase : 1 ≤ blockSymbols l := by cases l <;> exact Nat.le_of_ble_eq_true rfl
    refine ⟨hfreq, hphase, hcode, fun h0 h1 => hlen.trans ?_, fun h0 h1 => hlen.trans ?_, fun h0 h1 => hlen.trans ?_⟩
    · have hwrap : phaseNext s l g / 2 ^ 24 = 0 := Int.ediv_eq_zero_of_lt h0 h1
      rw [hwrap]
      omega
    · have hwrap : phaseNext s l g / 2 ^ 24 = 1 := by
        change 2 ^ 24 ≤ phaseNext s l g at h0
        change phaseNext s l g < 2 ^ 25 at h1
        omega
      rw [hwrap]
      omega
    · have hwrap : phaseNext s l g / 2 ^ 24 = -1 := by
        change -2 ^ 24 ≤ phaseNext s l g at h0
        change phaseNext s l g < 0 at h1
        omega
      rw [hwrap]
      omega
  · rw [timingClock_held g h]
    exact ⟨front_setRxRec .., by rw [rxRec_setRxRec]⟩

end Sys2Proof.Machine
end

section
/-! PROOFS. Fields that a later step keeps, and bytes that the window was given. -/

namespace Sys2Proof.Machine

open Sys2Proof

set_option Elab.async false

/-- The keys of fields at one first index, each at a second index. -/
def keysAt (gs : List (Field × Nat)) (i : Nat) : List Nat := gs.map fun g => g.1.key i g.2

/-- No first n of these fields, at any second index, has a key of those. -/
abbrev FieldsApart (n : Nat) (fs : List Field) (gs : List (Field × Nat)) : Prop :=
  ∀ f ∈ fs, n ≤ f.place.count1 ∧ ∀ j < max 1 f.place.count2, ∀ g ∈ gs, keysApart (f, j) g = true ∧ (f, j) ≠ g

/-- These fields' keys at one first index are not those fields' at the same. -/
abbrev FieldsBeside (fs : List Field) (gs : List (Field × Nat)) : Prop :=
  ∀ f ∈ fs, ∀ j < max 1 f.place.count2, ∀ g ∈ gs, f.place.stride1 = g.1.place.stride1 ∧ f.key 0 j ≠ g.1.key 0 g.2

/-- At no first index, of any size, does the one field have a key of the other: the other's keys all lie below, or the two repeat
at distances that have a common divisor which tells them apart. -/
def keysNever (d e : Field × Nat) : Bool :=
  let n := Nat.gcd d.1.place.stride1 e.1.place.stride1 * 32
  decide (e.1.key (e.1.place.count1 - 1) e.2 < d.1.key 0 d.2) || d.1.key 0 d.2 % n != e.1.key 0 e.2 % n

theorem key_ne_of_never {d e : Field × Nat} (h : keysNever d e = true) (i : Nat) {k : Nat} (hk : k < e.1.place.count1) :
    d.1.key i d.2 ≠ e.1.key k e.2 := by
  intro heq
  have hlast := key_le_last e.1 e.2 hk
  rw [key_eq_add d.1] at heq
  simp only [keysNever, Bool.or_eq_true, decide_eq_true_eq, bne_iff_ne] at h
  rcases h with hbelow | hmod
  · omega
  · refine hmod ?_
    rw [key_eq_add e.1] at heq
    have hrest : ∀ a b c : Nat, a ∣ c → (b + c) % a = b % a := fun a b c hc => by
      obtain ⟨q, rfl⟩ := hc
      exact Nat.add_mul_mod_self_left ..
    have hd := hrest _ (d.1.key 0 d.2) _
      (Dvd.dvd.mul_left (Nat.mul_dvd_mul_right (Nat.gcd_dvd_left d.1.place.stride1 e.1.place.stride1) 32) i)
    have he := hrest _ (e.1.key 0 e.2) _
      (Dvd.dvd.mul_left (Nat.mul_dvd_mul_right (Nat.gcd_dvd_right d.1.place.stride1 e.1.place.stride1) 32) k)
    rw [← hd, heq, he]

/-- No one of these fields has a key of those, at whatever first index. -/
def fieldsNever (fs : List Field) (gs : List (Field × Nat)) : Bool :=
  fs.all fun f => (List.range (max 1 f.place.count2)).all fun j => gs.all fun g => keysNever (f, j) g

theorem le_of_within {a base size : Nat} (h : within a base size = true) : base ≤ a := by
  simp only [within, Bool.and_eq_true, decide_eq_true_eq] at h
  exact h.1

/-- The clusters' registers begin with the line lanes'. -/
theorem le_of_clusterAddr {s : State} {cls inst a : Nat} (h : clusterAddr s cls inst a = true) : 0x80000 ≤ a := by
  unfold clusterAddr at h
  obtain ⟨-, h⟩ := Bool.and_eq_true_iff.1 h
  split at h
  · rcases Bool.or_eq_true_iff.1 h with h | h <;> have := le_of_within h <;> omega
  · have := le_of_within h
    omega
  · rcases Bool.or_eq_true_iff.1 h with h | h
    · have := le_of_within h
      omega
    · have := beq_iff_eq.1 h
      omega
  · rcases Bool.or_eq_true_iff.1 h with h | h
    · rcases Bool.or_eq_true_iff.1 h with h | h <;> have := beq_iff_eq.1 h <;> omega
    · obtain ⟨l, -, hl⟩ := List.any_eq_true.1 h
      have := le_of_within hl
      omega
  · rcases Bool.or_eq_true_iff.1 h with h | h
    · have := le_of_within h
      omega
    · have := beq_iff_eq.1 (Bool.and_eq_true_iff.1 h).1
      omega
  · have := le_of_within h
    omega
  · cases h

section Keeping

variable {ps : List Piece} {fs : List Field} {gs : List (Field × Nat)} {i n : Nat} {s t : State}

theorem mem_keysAt {g : Field} {j : Nat} (h : (g, j) ∈ gs) : g.key i j ∈ keysAt gs i := List.mem_map.2 ⟨(g, j), h, rfl⟩

theorem keeping_opens (hi : ∀ g ∈ gs, i < g.1.place.count1) (h : FieldsApart n fs gs := by decide +kernel) :
    (keeping ps (keysAt gs i)).Opens fs n := by
  intro k hk
  refine keeping_openAt fun f hf j hj hmem => ?_
  obtain ⟨g, hg, heq⟩ := List.mem_map.1 hmem
  obtain ⟨hn, hapart⟩ := h f hf
  obtain ⟨hkeys, hne⟩ := hapart j (by omega) g hg
  exact hne (sameKeySameSlot_of_apart hkeys k i (hk.trans_le hn) (hi g hg) heq.symm)

theorem keeping_beside (h : FieldsBeside fs gs := by decide) : (keeping ps (keysAt gs i)).OpenAt fs i := by
  refine keeping_openAt fun f hf j hj hmem => ?_
  obtain ⟨g, hg, heq⟩ := List.mem_map.1 hmem
  obtain ⟨hstride, hne⟩ := h f hf j (by omega) g hg
  rw [key_eq_add f, key_eq_add g.1, hstride] at heq
  omega

theorem keeping_zero (hi : ∀ g ∈ gs, i < g.1.place.count1) (h : FieldsApart 1 fs gs := by decide +kernel) :
    (keeping ps (keysAt gs i)).OpenAt fs 0 := keeping_opens hi h 0 Nat.one_pos

theorem keeping_any (hi : ∀ g ∈ gs, i < g.1.place.count1) (h : fieldsNever fs gs = true := by decide +kernel) (a : Nat) :
    (keeping ps (keysAt gs i)).OpenAt fs a := by
  refine keeping_openAt fun f hf j hj hmem => ?_
  obtain ⟨g, hg, heq⟩ := List.mem_map.1 hmem
  have hall := List.all_eq_true.1 h f hf
  have hnever := List.all_eq_true.1 (List.all_eq_true.1 hall j (List.mem_range.2 (by omega))) g hg
  exact key_ne_of_never hnever a (hi g hg) heq.symm

theorem keeping_clusters (hi : ∀ g ∈ gs, i < g.1.place.count1)
    (h : (gs.all fun g => decide (g.1.key (g.1.place.count1 - 1) g.2 < 0x80000 * 32)) = true := by decide +kernel) :
    (keeping ps (keysAt gs i)).Clusters := by
  intro u cls inst k hin hmem
  obtain ⟨g, hg, rfl⟩ := List.mem_map.1 hmem
  have hlast := key_le_last g.1 g.2 (hi g hg)
  have hbound := of_decide_eq_true (List.all_eq_true.1 h g hg)
  have := le_of_clusterAddr hin
  omega

/-- A field that is kept reads as before. -/
theorem Within.rd_keysAt (h : Within (keeping ps (keysAt gs i)) s t) {g : Field} {j : Nat} (hi : i < g.place.count1)
    (hg : (g, j) ∈ gs ∧ g.Clear j := by decide) : rd t g i j = rd s g i j := h.rd_kept (mem_keysAt hg.1) (hg.2.key hi)

/-- So does one whose keys reporting never writes, at any index. -/
theorem Within.rd_keysAt_quiet (h : Within (keeping ps (keysAt gs i)) s t) {g : Field} {j : Nat}
    (hg : (g, j) ∈ gs ∧ g.Quiet j ∧ g.lo < 32 := by decide) : rd t g i j = rd s g i j :=
  h.rd_kept (mem_keysAt hg.1) (hg.2.1.key hg.2.2 i)

end Keeping

/-! Bytes that the window was given. -/

theorem winByte_winPutBytes_other (bs : List Byte) (m : List Host.Cell) {a c : Nat} (h : c < a ∨ a + bs.length ≤ c) :
    winByte (winPutBytes m a bs) c = winByte m c := by
  induction bs generalizing m a with
  | nil => rfl
  | cons b bs ih =>
    rw [List.length_cons] at h
    exact (ih _ (by omega)).trans (winByte_winPut_other m b (by omega))

theorem winByte_winPutBytes (bs : List Byte) (m : List Host.Cell) (a : Nat) {k : Nat} (h : k < bs.length) :
    winByte (winPutBytes m a bs) (a + k) = bs[k] := by
  induction bs generalizing m a k with
  | nil => cases h
  | cons b bs ih =>
    cases k with
    | zero => exact (winByte_winPutBytes_other bs _ (Nat.lt_succ_self a |> .inl)).trans (winByte_winPut_same m a b)
    | succ k =>
      rw [← Nat.add_assoc, Nat.add_right_comm]
      exact ih _ (a + 1) (Nat.lt_of_succ_lt_succ h)

/-! What the lanes' standing depends on. -/

section Standing

variable {s t : State}

theorem layoutEff_of_eff (h : t.eff = s.eff) : layoutEff t = layoutEff s := by
  unfold layoutEff rdE
  rw [h]

theorem portLines_of_eff (h : t.eff = s.eff) (p : Nat) : portLines t p = portLines s p := by rw [portLines, portLines, layoutEff_of_eff h]

theorem portHosts_of_eff (h : t.eff = s.eff) (p : Nat) : portHosts t p = portHosts s p := by rw [portHosts, portHosts, layoutEff_of_eff h]

theorem portOfLine_of_eff (h : t.eff = s.eff) (n : Nat) : portOfLine t n = portOfLine s n := by
  simp only [portOfLine, portLines_of_eff h]

theorem portOfHost_of_eff (h : t.eff = s.eff) (n : Nat) : portOfHost t n = portOfHost s n := by
  simp only [portOfHost, portHosts_of_eff h]

theorem lanePort_of_eff (h : t.eff = s.eff) (l : LaneId) : lanePort t l = lanePort s l := by
  cases l
  · exact portOfLine_of_eff h _
  · exact portOfHost_of_eff h _

theorem rehearsing_of_test (h : t.test = s.test) (cls i : Nat) : rehearsing t cls i = rehearsing s cls i := by rw [rehearsing, rehearsing, h]

theorem laneRehearsing_of_test (h : t.test = s.test) (l : LaneId) : laneRehearsing t l = laneRehearsing s l := by
  cases l <;> exact rehearsing_of_test h ..

theorem laneFenced_of_rd (hline : rd t F.TST_FENCED_LINE = rd s F.TST_FENCED_LINE) (hhost : rd t F.TST_FENCED_HOST = rd s F.TST_FENCED_HOST)
    (l : LaneId) : laneFenced t l = laneFenced s l := by
  cases l <;> simp only [laneFenced, hline, hhost]

theorem lanePowered_of (heff : t.eff = s.eff) (hmode : t.power.mode = s.power.mode) (hline : rd t F.TST_FENCED_LINE = rd s F.TST_FENCED_LINE)
    (hhost : rd t F.TST_FENCED_HOST = rd s F.TST_FENCED_HOST) (l : LaneId) : lanePowered t l = lanePowered s l := by
  rw [lanePowered, lanePowered, lanePort_of_eff heff, hmode, laneFenced_of_rd hline hhost]

theorem laneRuns_of (heff : t.eff = s.eff) (hmode : t.power.mode = s.power.mode) (hline : rd t F.TST_FENCED_LINE = rd s F.TST_FENCED_LINE)
    (hhost : rd t F.TST_FENCED_HOST = rd s F.TST_FENCED_HOST) (htest : t.test = s.test) (l : LaneId) : laneRuns t l = laneRuns s l := by
  rw [laneRuns, laneRuns, lanePowered_of heff hmode hline hhost, laneRehearsing_of_test htest]

theorem OnlyReports.lanePowered (h : OnlyReports s t) (l : LaneId) : Machine.lanePowered t l = Machine.lanePowered s l :=
  lanePowered_of h.eff (h.power ▸ rfl) h.rd_quiet h.rd_quiet l

theorem OnlyReports.laneRuns (h : OnlyReports s t) (l : LaneId) : Machine.laneRuns t l = Machine.laneRuns s l :=
  laneRuns_of h.eff (h.power ▸ rfl) h.rd_quiet h.rd_quiet h.test l

end Standing

end Sys2Proof.Machine
end

section
/-! PROOFS. The spotlight's commands complete (R72 to R76). -/

namespace Sys2Proof.Machine

open Sys2Proof

set_option Elab.async false

section Spotlight

variable {s : State} {n : Nat}

theorem spotOf_setSpot (s : State) (x : Spot) (h : n < 8) : spotOf (setSpot s n x) n = x := vGet_vSet_same _ _ _ _ h

theorem spotTake_kept (s : State) (n : Nat) (x : Spot) (a : Nat) (xs : List RxSym) :
    (spotTake s n x a xs).source = x.source ∧ (spotTake s n x a xs).slice = x.slice := ⟨rfl, rfl⟩

/-- A capture that begins is on its way, of its source and slice. -/
theorem spotBegin_shows (s : State) (source slice flags a : Nat) (h : n < 8) :
    rd (spotBegin s n source slice flags a) F.LRX_SPOT_STATUS_STATE n = 1 ∧
      (spotOf (spotBegin s n source slice flags a) n).source = source ∧
      (spotOf (spotBegin s n source slice flags a) n).slice = slice := by
  unfold spotBegin
  extract_lets k hd r x
  have hspot : ∀ y, spotOf (wr (setSpot s n y) F.LRX_SPOT_STATUS_STATE 1 n) n = y := fun y => spotOf_setSpot s y h
  refine ⟨rd_wr_same .., ?_, ?_⟩ <;> rw [hspot]
  · exact (spotTake_kept ..).1
  · exact (spotTake_kept ..).2

/-- The state with SPOT_CTRL's slice and source written. -/
def spotCtrlWritten (s : State) (n slice source : Nat) : State := wr (wr s F.LRX_SPOT_CTRL_SLICE slice n) F.LRX_SPOT_CTRL_SOURCE source n

/-- A start from SPOT_CTRL begins where nothing bars it. -/
theorem spotCtrlStart_begins {slice source : Nat} (hn : n < 8) (hpow : lanePowered s (lineOf n) = true)
    (hreh : laneRehearsing s (lineOf n) = false) (hfree : rd s F.LRX_SPOT_STATUS_STATE n ≠ 1)
    (hslice : source = 3 → inService s n slice = true) :
    spotCtrlStart n slice source s =
      spotBegin (spotCtrlWritten s n slice source) n source slice 0 (nextBlock (spotCtrlWritten s n slice source) n) := by
  have hkept : ∀ f i, (keysApart (F.LRX_SPOT_CTRL_SLICE, 0) (f, 0) && keysApart (F.LRX_SPOT_CTRL_SOURCE, 0) (f, 0)) = true ∧
      f ≠ F.LRX_SPOT_CTRL_SLICE ∧ f ≠ F.LRX_SPOT_CTRL_SOURCE ∧ i < f.place.count1 →
      rd (spotCtrlWritten s n slice source) f i = rd s f i := by
    rintro f i ⟨hkeys, hne1, hne2, hi⟩
    obtain ⟨h1, h2⟩ := Bool.and_eq_true_iff.1 hkeys
    exact (rd_wr_far _ _ hn hi ⟨h2, fun e => hne2 (congrArg Prod.fst e).symm⟩).trans
      (rd_wr_far _ _ hn hi ⟨h1, fun e => hne1 (congrArg Prod.fst e).symm⟩)
  have hpow' : lanePowered (spotCtrlWritten s n slice source) (lineOf n) = true :=
    (lanePowered_of (s := s) (t := spotCtrlWritten s n slice source) rfl rfl (hkept F.TST_FENCED_LINE 0 (by decide)) (hkept F.TST_FENCED_HOST 0 (by decide)) _).trans hpow
  have hreh' : laneRehearsing (spotCtrlWritten s n slice source) (lineOf n) = false := (laneRehearsing_of_test rfl _).trans hreh
  have hstate : rd (spotCtrlWritten s n slice source) F.LRX_SPOT_STATUS_STATE n = rd s F.LRX_SPOT_STATUS_STATE n :=
    hkept _ _ ⟨by decide, by decide, by decide, hn⟩
  have hopen : spotBlocked (spotCtrlWritten s n slice source) n source slice = none := by
    unfold spotBlocked
    rw [hstate, if_neg hfree, if_neg]
    rintro ⟨hthree, hno⟩
    exact absurd ((hslice hthree).symm.trans hno) (by decide)
  unfold spotCtrlStart
  rw [← spotCtrlWritten]
  simp only [hpow', hreh', hopen, Bool.true_eq_false, Bool.false_eq_true, if_false]

/-- A capture that ends is held, with its entries. -/
theorem spotEnd_shows (parity : Bool) (h : n < 8) :
    rd (spotEnd n parity s) F.LRX_SPOT_STATUS_STATE n = 2 ∧ (spotOf (spotEnd n parity s) n).held = true ∧
      (spotOf (spotEnd n parity s) n).entries = (spotOf s n).entries ∧
      (parity = true → rd (spotEnd n parity s) F.LRX_SPOT_STATUS_PARITY n = 1) := by
  unfold spotEnd
  extract_lets x flags s1 s2 s3 s4 s5 s6
  have hkept : Within (keeping Part.lanes.pieces (keysAt [(F.LRX_SPOT_STATUS_STATE, 0), (F.LRX_SPOT_STATUS_PARITY, 0)] n)) s4
      (completeProg s6 0x0301 n stOK 0 (x.header[2]?.getD 0) flags) := by
    have h5 : Within (keeping Part.lanes.pieces (keysAt [(F.LRX_SPOT_STATUS_STATE, 0), (F.LRX_SPOT_STATUS_PARITY, 0)] n)) s4 s5 :=
      Within.ite ((Within.rfl' _ _).raiseParity keeping_allows) (Within.rfl' _ _)
    exact (h5.bump.raiseEvent).completeProg keeping_allows
  have hspot : spotOf (completeProg s6 0x0301 n stOK 0 (x.header[2]?.getD 0) flags) n =
      { x with flags := flags, header := x.header.set 6 flags, held := true } := by
    have hlanes : (completeProg s6 0x0301 n stOK 0 (x.header[2]?.getD 0) flags).lanes = s1.lanes :=
      hkept.keptPart
    unfold spotOf
    rw [hlanes]
    exact spotOf_setSpot s _ h
  rw [hspot, hkept.rd_keysAt h, hkept.rd_keysAt h]
  refine ⟨?_, rfl, rfl, fun hp => ?_⟩
  · rw [rd_wrB_apart, rd_wrB_apart, rd_wrB_apart, rd_wrB_apart, rd_wr_apart]
    exact rd_wr_same ..
  · rw [rd_wrB_apart, rd_wrB_same _ _ _ _ _ (by decide)]
    have hbit : flags.testBit 2 = true := by
      simp only [flags, hp, if_true, Nat.testBit_or, Bool.or_eq_true]
      exact .inr rfl
    rw [hbit]
    rfl

end Spotlight

theorem inService_of_lanes {s t : State} (h : t.lanes = s.lanes) (n slice : Nat) : inService t n slice = inService s n slice := by
  rw [inService, inService, slicesOf, slicesOf, front_of_lanes h]

theorem spotOf_of_lanes {s t : State} (h : t.lanes = s.lanes) (n : Nat) : spotOf t n = spotOf s n := by
  rw [spotOf, spotOf, h]

theorem lrxSpotStart_goesOn {s : State} {c : Cmd} (htaken : Taken 0x0301 [(2, 7), (3, 0x7F03)] c s) (hslice : c.w 3 / 2 ^ 8 ≤ 64)
    (hport : (portOfLine s (c.w 2)).isSome = true) (hin : c.w 3 % 4 = 3 → inService s (c.w 2) (c.w 3 / 2 ^ 8) = true)
    (hfree : rd s F.LRX_SPOT_STATUS_STATE (c.w 2) ≠ 1) (hreh : rehearsing s 1 (c.w 2) = false) :
    GoesOn (.lrxSpotStart c) 0x0301 c s (c.w 2) 0 fun u => rd u F.LRX_SPOT_STATUS_STATE (c.w 2) = 1 := by
  obtain ⟨-, -, -, hmask⟩ := id htaken
  have hlane : c.w 2 < 8 := cmdWord_lt_of_masked hmask rfl
  refine goesOn_of_reports htaken rfl (fun _ _ => rfl) (w := fun v => spotBegin v (c.w 2) (c.w 3 % 4) (c.w 3 / 2 ^ 8) 0
    (nextBlock v (c.w 2))) (fun v hv => ?_) fun v _ => (spotBegin_shows v _ _ _ _ hlane).1
  unfold lrxSpotStart
  refine withChecks_pass (firstFail_none _ ?_)
  have hstate : rd v F.LRX_SPOT_STATUS_STATE (c.w 2) = rd s F.LRX_SPOT_STATUS_STATE (c.w 2) := hv.rd_quiet
  simp only [List.forall_mem_cons, hstate, portOfLine_of_eff hv.eff, inService_of_lanes hv.lanes, rehearsing_of_test hv.test, hreh,
    beq_false_of_ne hfree]
  refine ⟨decide_eq_false (Nat.not_lt.2 hslice), ?_, rfl, fun _ h => nomatch h⟩
  simpa [Option.isNone_eq_false_iff.2 hport] using hin

/-- The bytes of a capture's image. -/
def spotImage (x : Spot) (off len : Nat) : List Byte := (List.range len).map fun k => imageByte x (off + k)

theorem lrxSpotRead_completes {s : State} {c : Cmd}
    (htaken : Taken 0x0302 [(2, 7), (3, 0xFFFFFFFF), (4, 0xFFFFFFFF), (5, 0xFFFFFFFF)] c s) (h3 : c.w 3 % 4 = 0) (h4 : c.w 4 % 4 = 0)
    (h5 : c.w 5 % 4 = 0) (hsome : 4 ≤ c.w 4) (hmost : c.w 4 ≤ 196608) (himage : c.w 3 + c.w 4 ≤ 32 + spotBytes)
    (hrange : c.w 5 + c.w 4 ≤ bulkEnd s) (hheld : (spotOf s (c.w 2)).held = true) (hfree : rd s F.LRX_SPOT_STATUS_STATE (c.w 2) ≠ 1)
    (hreh : rehearsing s 1 (c.w 2) = false) :
    CompletesOk (.lrxSpotRead c) 0x0302 c s (c.w 4) 0 fun u =>
      ∀ k, k < c.w 4 → winByte u.mgmt.window (windowBase + c.w 5 + k) = imageByte (spotOf s (c.w 2)) (c.w 3 + k) := by
  refine completesOk_of_reports htaken rfl (fun _ _ => rfl)
    (w := fun v => putBytes v (windowBase + c.w 5) (spotImage (spotOf s (c.w 2)) (c.w 3) (c.w 4)))
    (fun v hv => ?_) fun v _ k hk => ?_
  · unfold lrxSpotRead
    refine (withChecks_pass (firstFail_none _ ?_)).trans (by rw [spotOf_of_lanes hv.lanes]; rfl)
    have hstate : rd v F.LRX_SPOT_STATUS_STATE (c.w 2) = rd s F.LRX_SPOT_STATUS_STATE (c.w 2) := hv.rd_quiet
    simp only [List.forall_mem_cons, hstate, spotOf_of_lanes hv.lanes, rehearsing_of_test hv.test, hreh, beq_false_of_ne hfree, hv.bulkBad,
      bulkBad_eq_false hrange, h3, h4, h5, hheld]
    exact ⟨rfl, rfl, rfl, by simp; omega, rfl, rfl, fun _ h => nomatch h⟩
  · have hlen : k < (spotImage (spotOf s (c.w 2)) (c.w 3) (c.w 4)).length := by simpa [spotImage] using hk
    exact (winByte_winPutBytes _ _ _ hlen).trans (by simp [spotImage])

/-- Settles O28: a capture starts, from a register or from the ring, ends, and is read. -/
theorem spotlightCommandsComplete : Obligations.SpotlightCommandsComplete := by
  refine ⟨fun s n slice source hpow hreh hfree hslice => ⟨_, rfl, ?_⟩,
    fun s c htaken hslice hport hin hfree hreh => lrxSpotStart_goesOn htaken hslice hport hin hfree hreh, fun s n codes parity => ?_,
    fun s c htaken h3 h4 h5 hsome hmost himage hrange hheld hfree hreh =>
      lrxSpotRead_completes htaken h3 h4 h5 hsome hmost himage hrange hheld hfree hreh⟩
  · have hline : lineOf n = .line n := by simp [lineOf]
    rw [spotCtrlStart_begins n.isLt (hline ▸ hpow) (hline ▸ hreh) hfree hslice]
    exact spotBegin_shows _ _ _ _ _ n.isLt
  · intro u hbusy
    refine ⟨_, rfl, ?_⟩
    have hends : spotCaptureEnd n codes parity s = spotEnd n parity u := if_pos hbusy
    rw [hends]
    exact spotEnd_shows parity n.isLt

end Sys2Proof.Machine
end

section
/-! PROOFS. Temperature and core voltage (R384-R387, R398-R400). -/

namespace Sys2Proof.Machine

open Sys2Proof

set_option Elab.async false

/-- A field that a walk writes at each of several indices reads what it wrote there. -/
theorem rd_foldl_wr {f : Field} (v : Nat → Nat) {l : List Nat} (hl : l.Nodup) (s : State) {k : Nat} (hk : k ∈ l)
    (hstride : f.place.stride1 ≠ 0 := by decide) :
    rd (l.foldl (fun t i => wr t f (v i) i) s) f k = v k % 2 ^ f.width := by
  have hapart : ∀ (l : List Nat) (t : State), k ∉ l → rd (l.foldl (fun t i => wr t f (v i) i) t) f k = rd t f k := by
    intro l
    induction l with
    | nil => exact fun _ _ => rfl
    | cons a l ih =>
      intro t hmem
      obtain ⟨hne, hrest⟩ := not_or.1 (mt List.mem_cons.2 hmem)
      exact (ih _ hrest).trans (rd_wr_index t _ _ hne hstride)
  induction l generalizing s with
  | nil => cases hk
  | cons a l ih =>
    obtain ⟨ha, hl⟩ := List.nodup_cons.1 hl
    rcases List.mem_cons.1 hk with rfl | hk
    · exact (hapart l _ ha).trans (rd_wr_same ..)
    · exact ih hl _ hk

section Sensors

variable {s : State} {readings : Vector (BitVec 16) 12}

/-- The sensors' readings are latched (R398). -/
def tempsLatched (readings : Vector (BitVec 16) 12) (s : State) : State :=
  (List.range 12).foldl (fun t k => wr t F.THERM_TEMP_s_TEMP (readings[k]?.getD 0).toNat k) s

theorem tempsLatched_temp (k : Fin 12) :
    rd (tempsLatched readings s) F.THERM_TEMP_s_TEMP k = readings[k].toNat % 2 ^ F.THERM_TEMP_s_TEMP.width :=
  (rd_foldl_wr _ List.nodup_range s (List.mem_range.2 k.isLt)).trans (by simp)

theorem tempsLatched_kept {ps : List Piece} {gs : List (Field × Nat)} {i : Nat} (hi : ∀ g ∈ gs, i < g.1.place.count1)
    (h : FieldsApart 12 [F.THERM_TEMP_s_TEMP] gs) : Within (keeping ps (keysAt gs i)) s (tempsLatched readings s) :=
  (Within.rfl' _ s).foldl fun _ _ hm ht => ht.wr (keeping_opens hi h _ (List.mem_range.1 hm))

/-- With them go the hottest sensor and the runs of trip readings. -/
def tempsCounted (readings : Vector (BitVec 16) 12) (s : State) : State :=
  let u := tempsLatched readings s
  let hot := hottestOf ((List.range 12).map fun k => (k, sensorTemp u k))
  let v := wr (wrI u F.THERM_STATUS_MAX hot.2) F.THERM_STATUS_HOTTEST hot.1
  { v with power := { v.power with coldComp := coldFollow v, tripRun := tripRuns v } }

/-- The readings are seen: the warning follows, and the security alarm where sensor 0 leaves its range. -/
def tempsSeen (readings : Vector (BitVec 16) 12) (s : State) : State :=
  let u := thermalWarn (tempsCounted readings s)
  if tempAlarm (sensorTemp u 0) && !tempAlarm (sensorTemp s 0) then raiseAlarm u 2 else u

/-- A sensor whose third trip reading this is trips the part (R400). -/
def tempsAct (s : State) : State :=
  match (List.range 12).find? fun k => decide (3 ≤ vGet s.power.tripRun k 0) with
  | some k => thermalTrip { s with power := { s.power with tripRun := Vector.replicate 12 0 } } k (sensorTemp s k)
  | none => s

theorem thermalUp_eq (readings : Vector (BitVec 16) 12) (s : State) : thermalUp readings s = tempsAct (tempsSeen readings s) := by
  unfold thermalUp tempsAct
  extract_lets +onlyGivenNames was s1 hot s2 _ s3 s4 s5
  have h5 : s5 = tempsSeen readings s := rfl
  rw [h5] <;> rfl

theorem tempsCounted_kept {ps : List Piece} {gs : List (Field × Nat)} {i : Nat}
    (hp : (keeping ps (keysAt gs i)).Allows [.power .coldComp, .power .tripRun]) (hi : ∀ g ∈ gs, i < g.1.place.count1)
    (h : FieldsApart 12 [F.THERM_TEMP_s_TEMP] gs) (h' : FieldsApart 1 [F.THERM_STATUS_MAX, F.THERM_STATUS_HOTTEST] gs) :
    Within (keeping ps (keysAt gs i)) s (tempsCounted readings s) :=
  (((tempsLatched_kept hi h).wrI (keeping_zero hi h')).wr (keeping_zero hi h')).withPowerColdCompTripRun hp

theorem tempsSeen_kept {ps : List Piece} {gs : List (Field × Nat)} {i : Nat}
    (hp : (keeping ps (keysAt gs i)).Allows [.aside .keys, .mgmt .inProgress, .test .jtagIr, .sec .otp, .sec .session, .sec .locked,
      .sec .zeroized, .sec .pulse, .sec .lockClosed, .sec .update, .sec .ops]) (hi : ∀ g ∈ gs, i < g.1.place.count1)
    (h : FieldsApart 1 [F.THERM_STATUS_WARN, F.SEC_ALARM_STATUS_SOURCES, F.SEC_ALARM_STATUS_IN_FORCE] gs) :
    Within (keeping ps (keysAt gs i)) (tempsCounted readings s) (tempsSeen readings s) :=
  have hk := keeping_zero hi h
  have hwarn := (Within.rfl' _ (tempsCounted readings s)).thermalWarn (hk.mono (by decide))
  .ite (hwarn.raiseAlarm hp (hk.mono (by decide))) hwarn

/-- Switching the regions off leaves the mode they are switched off for. -/
theorem regionsOff_mode (s : State) (m : PowerMode) : (regionsOff s m).power.mode = m := by
  have hwithin : Within (keeping [.power .mode] []) (setMode { s with path := { s.path with modeChange := false } } m)
      (regionsOff s m) :=
    ((Within.rfl' _ _).regionsPower keeping_allows keeping_wide.openAt).lanesPower keeping_allows keeping_wide.opens
      keeping_wide.opens keeping_wide.openAt keeping_wide.any keeping_wide.cal
  exact hwithin.kept (.power .mode)

theorem thermalTrip_shows (s : State) (k : Nat) (t : Int) :
    (thermalTrip s k t).power.mode = .enteringDark 0 (rd s F.PWR_STATE_STATE) true ∧
      rd (thermalTrip s k t) F.PWR_STATE_THERMAL_DARK = 1 ∧ (thermalTrip s k t).power.tripWait = true := by
  unfold thermalTrip
  extract_lets +onlyGivenNames s1 s2
  have hmode : s2.power.mode = _ := regionsOff_mode ..
  clear_value s2
  exact ⟨hmode, rd_wr_same .., rfl⟩

theorem thermalTrip_temp (s : State) (k : Nat) (t : Int) (i : Fin 12) :
    rd (thermalTrip s k t) F.THERM_TEMP_s_TEMP i = rd s F.THERM_TEMP_s_TEMP i := by
  have hi : ∀ g ∈ [(F.THERM_TEMP_s_TEMP, 0)], i < g.1.place.count1 := List.forall_mem_singleton.2 i.isLt
  have hwithin : Within (keeping [] (keysAt [(F.THERM_TEMP_s_TEMP, 0)] i)) s (thermalTrip s k t) :=
    (Within.rfl' _ s).thermalTrip keeping_allows (keeping_opens hi) (keeping_opens hi) (keeping_zero hi) (keeping_any hi)
      (keeping_any hi) (keeping_clusters hi)
  exact hwithin.rd_keysAt i.isLt

theorem tempsCounted_temp (k : Fin 12) :
    rd (tempsCounted readings s) F.THERM_TEMP_s_TEMP k = rd (tempsLatched readings s) F.THERM_TEMP_s_TEMP k :=
  (rd_wr_far _ _ Nat.one_pos k.isLt).trans (rd_wr_far _ _ Nat.one_pos k.isLt)

theorem tempsSeen_temp (k : Fin 12) :
    rd (tempsSeen readings s) F.THERM_TEMP_s_TEMP k = rd (tempsCounted readings s) F.THERM_TEMP_s_TEMP k := by
  have hi : ∀ g ∈ [(F.THERM_TEMP_s_TEMP, 0)], k < g.1.place.count1 := List.forall_mem_singleton.2 k.isLt
  exact (tempsSeen_kept (ps := []) keeping_allows hi (by decide +kernel)).rd_keysAt k.isLt

theorem tempsAct_temp (s : State) (k : Fin 12) : rd (tempsAct s) F.THERM_TEMP_s_TEMP k = rd s F.THERM_TEMP_s_TEMP k := by
  unfold tempsAct
  split
  · exact thermalTrip_temp ..
  · rfl

theorem tempsCounted_runs (k : Fin 12) : (tempsCounted readings s).power.tripRun[k] =
    if 1920 ≤ sensorTemp (tempsCounted readings s) k then s.power.tripRun[k] + 1 else 0 := by
  have hpower : (tempsLatched readings s).power = s.power :=
    (tempsLatched_kept (ps := Part.power.pieces) (gs := []) (i := 0) (fun _ h => nomatch h) (by decide)).keptPart
  have hruns : (tempsCounted readings s).power.tripRun[k] =
      if 1920 ≤ sensorTemp (tempsCounted readings s) k then (tempsLatched readings s).power.tripRun[k] + 1 else 0 :=
    Vector.getElem_ofFn ..
  rw [hruns, hpower]

theorem tempsSeen_runs : (tempsSeen readings s).power = (tempsCounted readings s).power :=
  (tempsSeen_kept (ps := Part.power.pieces) (gs := []) (i := 0) keeping_allows (fun _ h => nomatch h) (by decide)).keptPart

theorem tempsSeen_state : rd (tempsSeen readings s) F.PWR_STATE_STATE = rd s F.PWR_STATE_STATE := by
  have hi : ∀ g ∈ [(F.PWR_STATE_STATE, 0)], 0 < g.1.place.count1 := List.forall_mem_singleton.2 Nat.one_pos
  have hcounted := tempsCounted_kept (s := s) (readings := readings) (ps := []) keeping_allows hi (by decide) (by decide)
  exact (hcounted.trans (tempsSeen_kept (ps := []) keeping_allows hi (by decide))).rd_keysAt Nat.one_pos

/-- A third trip reading of a sensor trips the part. -/
theorem tempsAct_trips {u : State} {k : Fin 12} (h : 3 ≤ vGet u.power.tripRun k 0) :
    (tempsAct u).power.mode = .enteringDark 0 (rd u F.PWR_STATE_STATE) true ∧ rd (tempsAct u) F.PWR_STATE_THERMAL_DARK = 1 ∧
      (tempsAct u).power.tripWait = true := by
  unfold tempsAct
  split
  · exact thermalTrip_shows ..
  · next hnone => exact absurd h (by simpa using List.find?_eq_none.1 hnone k (List.mem_range.2 k.isLt))

theorem tempsSeen_third {k : Fin 12} (hhot : 1920 ≤ sensorTemp (tempsCounted readings s) k) (hrun : 2 ≤ s.power.tripRun[k]) :
    3 ≤ vGet (tempsSeen readings s).power.tripRun k 0 := by
  have hget : vGet (tempsSeen readings s).power.tripRun k 0 = (tempsCounted readings s).power.tripRun[k] := by
    rw [tempsSeen_runs]
    simp [vGet]
  rw [hget, tempsCounted_runs, if_pos hhot]
  omega

/-- Readings that are taken are latched, and a third trip reading of a sensor forces DARK (R400). -/
theorem thermalReading_trips (hruns : sensorsRun s = true) : Runs (.thermalReading readings) s fun t =>
    (∀ k : Fin 12, rd t F.THERM_TEMP_s_TEMP k = readings[k].toNat % 2 ^ F.THERM_TEMP_s_TEMP.width) ∧
    ((∃ k : Fin 12, 1920 ≤ sensorTemp t k ∧ 2 ≤ s.power.tripRun[k]) →
      t.power.mode = .enteringDark 0 (rd s F.PWR_STATE_STATE) true ∧ rd t F.PWR_STATE_THERMAL_DARK = 1 ∧ t.power.tripWait = true) := by
  have hup : thermalReading readings s = tempsAct (tempsSeen readings s) := (if_pos hruns).trans (thermalUp_eq ..)
  have htemp : ∀ k : Fin 12, rd (tempsAct (tempsSeen readings s)) F.THERM_TEMP_s_TEMP k =
      rd (tempsCounted readings s) F.THERM_TEMP_s_TEMP k := fun k => (tempsAct_temp _ k).trans (tempsSeen_temp k)
  refine runs_of_eq rfl hup ⟨fun k => ?_, fun ⟨k, hhot, hrun⟩ => ?_⟩
  · rw [htemp, tempsCounted_temp, tempsLatched_temp]
  · rw [sensorTemp, rdI, htemp] at hhot
    rw [← tempsSeen_state (readings := readings)]
    exact tempsAct_trips (tempsSeen_third hhot hrun)

end Sensors

/-! The device in DARK, and the core voltage. -/

section Dark

variable {s : State}

/-- A way out of DARK never leaves a trip waiting that did not wait. -/
theorem darkSources_tripWait (h : s.power.tripWait = false) : (darkSources s).power.tripWait = false := by
  have hwake : ∀ cause, (darkWake s cause).power.tripWait = false := fun cause => by
    unfold darkWake
    split
    · split <;> rfl
    · exact h
  unfold darkSources
  split
  · split
    · exact hwake 2
    · split
      · exact hwake 3
      · exact h
  · exact h

theorem thermalDark_cools {reading : BitVec 16} (hcool : reading.toInt < ((rd s F.THERM_CTRL_WARN : Nat) : Int) * 16 - 80) :
    (thermalDark reading s).power.tripWait = false := by
  unfold thermalDark
  extract_lets +onlyGivenNames was s1 s2
  split
  · exact darkSources_tripWait rfl
  · next hno => exact Bool.not_eq_true _ ▸ fun hwait => hno ⟨hwait, hcool⟩

theorem avsGoal_le (s : State) : avsGoal s ≤ 820 := by
  unfold avsGoal
  split
  · decide
  · decide
  · simp only [clampI]
    omega

theorem avsSlewStep_steps (hslew : avsSlewing s = true) (hsince : sinceNs s s.power.avsLastStep 50000 = true) :
    Runs .avsSlewStep s fun t =>
      rd t F.AVS_STATUS_TARGET = (if rd s F.AVS_STATUS_TARGET < avsGoal s then min (rd s F.AVS_STATUS_TARGET + 5) (avsGoal s)
        else max (rd s F.AVS_STATUS_TARGET - 5) (avsGoal s)) ∧ t.power.avsLastStep = some s.time.tick := by
  refine runs_of_eq rfl (if_pos (Bool.and_eq_true_iff.2 ⟨hslew, hsince⟩)) ⟨(rd_wr_same ..).trans (Nat.mod_eq_of_lt ?_), rfl⟩
  have hgoal := avsGoal_le s
  have hnow : rd s F.AVS_STATUS_TARGET < 2 ^ 10 := rd_lt ..
  change _ < 2 ^ 10
  split <;> omega

/-- No answer from the regulator is a fault (R387). -/
theorem avsFault_shows (s : State) (noResponse : Bool) : rd (avsFault s noResponse) F.AVS_STATUS_FAULT = 1 := by
  unfold avsFault
  split
  · assumption
  · exact (raiseEvent_rd_quiet ..).trans (rd_wr_same ..)

theorem avsFault_keeps (s : State) (noResponse : Bool) :
    rd (avsFault s noResponse) F.AVS_STATUS_READBACK = rd s F.AVS_STATUS_READBACK ∧
      rd (avsFault s noResponse) F.AVS_CURRENT_CURRENT = rd s F.AVS_CURRENT_CURRENT := by
  unfold avsFault
  split
  · exact ⟨rfl, rfl⟩
  · exact ⟨(raiseEvent_rd_quiet ..).trans (rd_wr_apart ..), (raiseEvent_rd_quiet ..).trans (rd_wr_apart ..)⟩

theorem avsReadback_answers (mv : BitVec 10) (ma : BitVec 16) (hup : deviceUp s = true) (hpwr : s.power.pwrEn = true) :
    Runs (.avsReadback (some (mv, ma))) s fun t =>
      rd t F.AVS_STATUS_READBACK = mv.toNat ∧ rd t F.AVS_CURRENT_CURRENT = ma.toNat ∧
      (s.power.avsMisses = 2 → rd s F.AVS_STATUS_TARGET + 20 < mv.toNat → rd t F.AVS_STATUS_FAULT = 1) := by
  refine runs_of_eq rfl (if_pos (Bool.and_eq_true_iff.2 ⟨hup, hpwr⟩)) ?_
  dsimp only
  generalize hs1 : wr (wr s F.AVS_STATUS_READBACK mv.toNat) F.AVS_CURRENT_CURRENT ma.toNat = s1
  have hread : rd s1 F.AVS_STATUS_READBACK = mv.toNat := by
    rw [← hs1, rd_wr_apart, rd_wr_same]
    exact Nat.mod_eq_of_lt mv.isLt
  have hcurrent : rd s1 F.AVS_CURRENT_CURRENT = ma.toNat := by
    rw [← hs1, rd_wr_same]
    exact Nat.mod_eq_of_lt ma.isLt
  have htarget : rd s1 F.AVS_STATUS_TARGET = rd s F.AVS_STATUS_TARGET := by rw [← hs1, rd_wr_apart, rd_wr_apart]
  have hmisses : s1.power.avsMisses = s.power.avsMisses := by rw [← hs1]; rfl
  generalize hn : (if (decide (rd s1 F.AVS_STATUS_TARGET + 20 < mv.toNat) || decide (mv.toNat + 20 < rd s1 F.AVS_STATUS_TARGET)) =
    true then s1.power.avsMisses + 1 else 0) = n
  split
  · exact ⟨(avsFault_keeps _ false).1.trans hread, (avsFault_keeps _ false).2.trans hcurrent, fun _ _ => avsFault_shows ..⟩
  · next hfew =>
    refine ⟨hread, hcurrent, fun htwo hhigh => absurd ?_ hfew⟩
    rw [← hn, htarget, hmisses, htwo, decide_eq_true hhigh, Bool.true_or, if_pos rfl]

end Dark

/-- Settles O56: the sensors and the core voltage do what their sections say. -/
theorem supplyAndThermalCommandsComplete : Obligations.SupplyAndThermalCommandsComplete :=
  ⟨fun _ _ hruns => thermalReading_trips hruns,
    fun s readings hdark hcool => runs_of_eq rfl
      ((if_neg (by simp [sensorsRun, deviceUp, hdark])).trans (if_pos hdark)) (thermalDark_cools hcool),
    fun _ hslew hsince => avsSlewStep_steps hslew hsince,
    fun s hup hpwr => runs_of_eq rfl (if_pos (Bool.and_eq_true_iff.2 ⟨hup, hpwr⟩)) (avsFault_shows s true),
    fun _ mv ma hup hpwr => avsReadback_answers mv ma hup hpwr⟩

end Sys2Proof.Machine
end


section
/-! PROOFS. References and clock sources (R191-R196). -/

namespace Sys2Proof.Machine

open Sys2Proof

set_option Elab.async false

/-- A walk does to each entry of a list without repeats what a step does to its own, where no step undoes or prevents another's. -/
theorem foldl_each {α β : Type} {f : α → β → α} {ready done : α → β → Prop} {l : List β} (hnodup : l.Nodup)
    (hdone : ∀ a, ∀ b ∈ l, ready a b → done (f a b) b) (hkeep : ∀ a, ∀ b ∈ l, ∀ b' ∈ l, b' ≠ b → done a b' → done (f a b) b')
    (hready : ∀ a, ∀ b ∈ l, ∀ b' ∈ l, b' ≠ b → ready a b' → ready (f a b) b') {a : α} (h : ∀ b ∈ l, ready a b) :
    ∀ b ∈ l, done (l.foldl f a) b := by
  have hstay : ∀ (m : List β) (a : α) (b : β), m ⊆ l → b ∈ l → b ∉ m → done a b → done (m.foldl f a) b := by
    intro m
    induction m with
    | nil => exact fun _ _ _ _ _ h => h
    | cons c m ih =>
      intro a b hsub hb hnot hd
      obtain ⟨hne, hrest⟩ := not_or.1 (mt List.mem_cons.2 hnot)
      obtain ⟨hc, hsub⟩ := List.cons_subset.1 hsub
      exact ih _ b hsub hb hrest (hkeep a c hc b hb hne hd)
  suffices hall : ∀ (m : List β) (a : α), m ⊆ l → m.Nodup → (∀ b ∈ m, ready a b) → ∀ b ∈ m, done (m.foldl f a) b from
    hall l a (List.Subset.refl l) hnodup h
  intro m
  induction m with
  | nil => exact fun _ _ _ _ b hb => nomatch hb
  | cons c m ih =>
    intro a hsub hnodup hr b hb
    obtain ⟨hc, hm⟩ := List.cons_subset.1 hsub
    obtain ⟨hnot, hnodup⟩ := List.nodup_cons.1 hnodup
    rcases List.mem_cons.1 hb with rfl | hb
    · exact hstay m _ b hm hc hnot (hdone a b hc (hr b List.mem_cons_self))
    · exact ih _ hm hnodup (fun b' hb' => hready a c hc b' (hm hb') (fun he => hnot (he ▸ hb'))
        (hr b' (List.mem_cons_of_mem _ hb'))) b hb

/-! What a step leaves of the references. -/

/-- The fields that show the references and what the host regions run from. -/
def refFields : List (Field × Nat) :=
  [(F.HSL_REF_STATUS_A_REF, 0), (F.HSL_REF_STATUS_B_REF, 0), (F.HSL_REF_STATUS_A_HOLDOVER, 0), (F.HSL_REF_STATUS_B_HOLDOVER, 0),
    (F.HSL_REF_STATUS_HFCK0_OK, 0), (F.HSL_REF_STATUS_HFCK1_OK, 0), (F.HSL_REF_STATUS_REFCLK_OK, 0)]

theorem refFields_single : ∀ g ∈ refFields, 0 < g.1.place.count1 := by decide

/-- The references, what the regions run from and the settings stay. -/
structure RefsKept (s t : State) : Prop where
  ok : ∀ r, refOk t r = refOk s r
  ref : ∀ b, hostRef t b = hostRef s b
  holdover : ∀ b, inHoldover t b = inHoldover s b
  eff : t.eff = s.eff

section Kept

variable {s t u : State} {b : Nat}

theorem refsKept_of_rd (h : ∀ g ∈ refFields, rd t g.1 0 = rd s g.1 0) (heff : t.eff = s.eff) : RefsKept s t := by
  simp only [refFields, List.forall_mem_cons, List.not_mem_nil, false_implies, implies_true, and_true] at h
  obtain ⟨ha, hb, hha, hhb, hok0, hok1, hok2⟩ := h
  refine ⟨fun r => ?_, fun b => ?_, fun b => ?_, heff⟩
  · simp only [refOk, hok0, hok1, hok2]
  · simp only [hostRef, ha, hb]
  · simp only [inHoldover, hha, hhb]

theorem refFields_clear : ∀ g ∈ refFields, g.2 = 0 ∧ g.1.Clear 0 := by decide

theorem refsKept_of_within {ps : List Piece} (h : Within (keeping (.eff :: ps) (keysAt refFields 0)) s t) : RefsKept s t := by
  refine refsKept_of_rd (fun g hg => ?_) (h.kept .eff List.mem_cons_self)
  obtain ⟨hzero, hclear⟩ := refFields_clear g hg
  exact h.rd_kept (mem_keysAt (hzero ▸ hg)) (hclear.key (refFields_single g hg))

theorem OnlyReports.refsKept (h : OnlyReports s t) : RefsKept s t :=
  refsKept_of_rd (fun g hg => h.rd_clear (refFields_single g hg) (refFields_clear g hg).2) h.eff

theorem RefsKept.forwarded (h : RefsKept s t) : Machine.forwarded t = Machine.forwarded s := by
  rw [Machine.forwarded, Machine.forwarded, rdE, rdE, h.eff]

theorem RefsKept.revertable (h : RefsKept s t) (b : Nat) : Machine.revertable t b = Machine.revertable s b := by
  rw [Machine.revertable, Machine.revertable, h.forwarded, h.ref, h.ok]

theorem regionLol_refs (s : State) (b : Nat) : RefsKept s (regionLol s b) :=
  refsKept_of_within (ps := []) ((Within.rfl' _ s).regionLol keeping_allows (keeping_opens refFields_single)
    (keeping_opens refFields_single) (keeping_any refFields_single))

/-- Training lanes leaves the references, the mode, the change of mode and the PLLs. -/
theorem trainLanes_kept (ls : List LaneId) (s : State) :
    Within (keeping [.eff, .power .mode, .path .modeChange, .time .linePll, .time .hostPll] (keysAt refFields 0)) s
      (ls.foldl trainLane s) :=
  have h8 := keeping_opens refFields_single
  have h16 := keeping_opens refFields_single
  have ha := keeping_any refFields_single
  (Within.rfl' _ s).foldl fun _ _ _ ht => ht.trainLane keeping_allows h8 h16 ha

/-! Setting one of them. -/

def refOkField (r : Nat) : Field :=
  if r = 0 then F.HSL_REF_STATUS_HFCK0_OK else if r = 1 then F.HSL_REF_STATUS_HFCK1_OK else F.HSL_REF_STATUS_REFCLK_OK

def hostRefField (b : Nat) : Field := if b = 0 then F.HSL_REF_STATUS_A_REF else F.HSL_REF_STATUS_B_REF

def holdoverField (b : Nat) : Field := if b = 0 then F.HSL_REF_STATUS_A_HOLDOVER else F.HSL_REF_STATUS_B_HOLDOVER

theorem refOk_eq (s : State) (r : Nat) : refOk s r = (rd s (refOkField r) == 1) := by
  unfold refOk refOkField
  split_ifs <;> rfl

theorem setRefOk_eq (s : State) (r : Nat) (v : Bool) : setRefOk s r v = wrB s (refOkField r) v := by
  unfold setRefOk refOkField
  split_ifs <;> rfl

theorem hostRef_eq (s : State) (b : Nat) : hostRef s b = rd s (hostRefField b) := by
  unfold hostRef hostRefField
  split_ifs <;> rfl

theorem setHostRef_eq (s : State) (b v : Nat) : setHostRef s b v = wr s (hostRefField b) v := by
  unfold setHostRef hostRefField
  split_ifs <;> rfl

theorem inHoldover_eq (s : State) (b : Nat) : inHoldover s b = (rd s (holdoverField b) == 1) := by
  unfold inHoldover holdoverField
  split_ifs <;> rfl

theorem setHoldover_eq (s : State) (b : Nat) (v : Bool) : setHoldover s b v = wrB s (holdoverField b) v := by
  unfold setHoldover holdoverField
  split_ifs <;> rfl

/-- Fields of the reference status that stand at different bits. -/
abbrev RefApart (f g : Field) : Prop := f.place.stride1 = g.place.stride1 ∧ g.key 0 0 ≠ f.key 0 0

theorem refOkField_apart : ∀ r r' : Fin 3, r' ≠ r → RefApart (refOkField r) (refOkField r') := by decide

theorem refOkField_apart_ref (r b : Nat) : RefApart (hostRefField b) (refOkField r) := by
  unfold hostRefField refOkField
  split_ifs <;> decide

theorem refOkField_apart_holdover (r b : Nat) : RefApart (holdoverField b) (refOkField r) := by
  unfold holdoverField refOkField
  split_ifs <;> decide

theorem hostRefField_apart : ∀ b b' : Fin 2, b' ≠ b → RefApart (hostRefField b) (hostRefField b') := by decide

theorem hostRefField_apart_ok (b r : Nat) : RefApart (refOkField r) (hostRefField b) := by
  unfold hostRefField refOkField
  split_ifs <;> decide

theorem hostRefField_apart_holdover (b b' : Nat) : RefApart (holdoverField b') (hostRefField b) := by
  unfold hostRefField holdoverField
  split_ifs <;> decide

theorem holdoverField_apart : ∀ b b' : Fin 2, b' ≠ b → RefApart (holdoverField b) (holdoverField b') := by decide

theorem holdoverField_apart_ok (b r : Nat) : RefApart (refOkField r) (holdoverField b) := by
  unfold holdoverField refOkField
  split_ifs <;> decide

theorem holdoverField_apart_ref (b b' : Nat) : RefApart (hostRefField b') (holdoverField b) := by
  unfold hostRefField holdoverField
  split_ifs <;> decide

theorem b2n_beq_one (v : Bool) : (b2n v == 1) = v := by cases v <;> rfl

@[simp] theorem refOk_setRefOk (s : State) (r : Nat) (v : Bool) : refOk (setRefOk s r v) r = v := by
  rw [setRefOk_eq, refOk_eq, rd_wrB_same _ _ _ _ _ (by unfold refOkField; split_ifs <;> decide), b2n_beq_one]

theorem refOk_setRefOk_other (s : State) (v : Bool) {r r' : Nat} (hr : r < 3) (hr' : r' < 3) (hne : r' ≠ r) :
    refOk (setRefOk s r v) r' = refOk s r' := by
  rw [setRefOk_eq, refOk_eq, refOk_eq,
    rd_wrB_apart _ _ _ (refOkField_apart ⟨r, hr⟩ ⟨r', hr'⟩ fun h => hne (congrArg Fin.val h))]

@[simp] theorem hostRef_setRefOk (s : State) (r b : Nat) (v : Bool) : hostRef (setRefOk s r v) b = hostRef s b := by
  rw [setRefOk_eq, hostRef_eq, hostRef_eq, rd_wrB_apart _ _ _ (hostRefField_apart_ok b r)]

@[simp] theorem inHoldover_setRefOk (s : State) (r b : Nat) (v : Bool) : inHoldover (setRefOk s r v) b = inHoldover s b := by
  rw [setRefOk_eq, inHoldover_eq, inHoldover_eq, rd_wrB_apart _ _ _ (holdoverField_apart_ok b r)]

@[simp] theorem refOk_setHoldover (s : State) (b r : Nat) (v : Bool) : refOk (setHoldover s b v) r = refOk s r := by
  rw [setHoldover_eq, refOk_eq, refOk_eq, rd_wrB_apart _ _ _ (refOkField_apart_holdover r b)]

@[simp] theorem hostRef_setHoldover (s : State) (b b' : Nat) (v : Bool) : hostRef (setHoldover s b v) b' = hostRef s b' := by
  rw [setHoldover_eq, hostRef_eq, hostRef_eq, rd_wrB_apart _ _ _ (hostRefField_apart_holdover b' b)]

@[simp] theorem inHoldover_setHoldover (s : State) (b : Nat) (v : Bool) : inHoldover (setHoldover s b v) b = v := by
  rw [setHoldover_eq, inHoldover_eq, rd_wrB_same _ _ _ _ _ (by unfold holdoverField; split_ifs <;> decide), b2n_beq_one]

theorem inHoldover_setHoldover_other (s : State) (v : Bool) {b b' : Nat} (hb : b < 2) (hb' : b' < 2) (hne : b' ≠ b) :
    inHoldover (setHoldover s b v) b' = inHoldover s b' := by
  rw [setHoldover_eq, inHoldover_eq, inHoldover_eq,
    rd_wrB_apart _ _ _ (holdoverField_apart ⟨b, hb⟩ ⟨b', hb'⟩ fun h => hne (congrArg Fin.val h))]

@[simp] theorem forwarded_setHoldover (s : State) (b : Nat) (v : Bool) : forwarded (setHoldover s b v) = forwarded s := by
  rw [setHoldover_eq]
  rfl

@[simp] theorem forwarded_setRefOk (s : State) (r : Nat) (v : Bool) : forwarded (setRefOk s r v) = forwarded s := by
  rw [setRefOk_eq]
  rfl

@[simp] theorem refOk_changeRef (s : State) (b v r : Nat) : refOk (changeRef s b v) r = refOk s r := by
  change refOk (setHostRef s b v) r = _
  rw [setHostRef_eq, refOk_eq, refOk_eq, rd_wr_apart _ _ _ (refOkField_apart_ref r b)]

theorem hostRef_changeRef (s : State) (b : Nat) {v : Nat} (hv : v < 4) : hostRef (changeRef s b v) b = v := by
  change hostRef (setHostRef s b v) b = _
  rw [setHostRef_eq, hostRef_eq, rd_wr_same]
  refine Nat.mod_eq_of_lt (hv.trans_le ?_)
  unfold hostRefField
  split_ifs <;> decide

theorem hostRef_changeRef_other (s : State) (v : Nat) {b b' : Nat} (hb : b < 2) (hb' : b' < 2) (hne : b' ≠ b) :
    hostRef (changeRef s b v) b' = hostRef s b' := by
  change hostRef (setHostRef s b v) b' = _
  rw [setHostRef_eq, hostRef_eq, hostRef_eq,
    rd_wr_apart _ _ _ (hostRefField_apart ⟨b, hb⟩ ⟨b', hb'⟩ fun h => hne (congrArg Fin.val h))]

@[simp] theorem inHoldover_changeRef (s : State) (b v b' : Nat) : inHoldover (changeRef s b v) b' = inHoldover s b' := by
  change inHoldover (setHostRef s b v) b' = _
  rw [setHostRef_eq, inHoldover_eq, inHoldover_eq, rd_wr_apart _ _ _ (holdoverField_apart_ref b' b)]

theorem eff_changeRef (s : State) (b v : Nat) : (changeRef s b v).eff = s.eff := by
  change (setHostRef s b v).eff = _
  rw [setHostRef_eq]
  rfl

end Kept

/-! References lost and present. -/

section Lost

variable {s t : State} {b r : Nat}

/-- The reference is lost, the region runs from it, and all else stands as it did. -/
structure Losing (s : State) (r : Nat) (t : State) (b : Nat) : Prop where
  lost : refOk t r = false
  others : ∀ r' < 3, r' ≠ r → refOk t r' = refOk s r'
  mode : forwarded t = forwarded s
  uses : hostRef t b = r

/-- The region is in holdover, from the other forwarded clock where the mode and that clock allow it. -/
def HeldOver (s : State) (r : Nat) (t : State) (b : Nat) : Prop :=
  inHoldover t b = true ∧ (forwarded s = true → r < 2 → refOk s (1 - r) = true → hostRef t b = 1 - r)

theorem RefsKept.losing (h : RefsKept t u) (hl : Losing s r t b) : Losing s r u b :=
  ⟨(h.ok r).trans hl.lost, fun r' hr' hne => (h.ok r').trans (hl.others r' hr' hne), h.forwarded.trans hl.mode, (h.ref b).trans hl.uses⟩

theorem RefsKept.heldOver (h : RefsKept t u) (hh : HeldOver s r t b) : HeldOver s r u b :=
  ⟨(h.holdover b).trans hh.1, fun hf hr ho => (h.ref b).trans (hh.2 hf hr ho)⟩

theorem holdOver_done (h : Losing s r t b) : HeldOver s r (holdOver t b) b := by
  unfold holdOver
  extract_lets +onlyGivenNames r' s1
  have hr' : r' = r := h.uses
  clear_value r'
  subst hr'
  rw [if_neg (by simp [h.lost])]
  simp only [s1, forwarded_setHoldover, refOk_setHoldover]
  split
  · next hother =>
    obtain ⟨⟨hfwd, hlow⟩, hok⟩ : (forwarded t = true ∧ r' < 2) ∧ refOk t (1 - r') = true := by simpa using hother
    exact ⟨by simp, fun _ _ _ => hostRef_changeRef _ _ (by omega)⟩
  · next hother =>
    refine ⟨by simp, fun hf hr ho => absurd ?_ hother⟩
    simp [h.mode, hf, hr, h.others (1 - r') (by omega) (by omega), ho]

theorem holdOver_other {b' : Nat} (hb : b < 2) (hb' : b' < 2) (hne : b' ≠ b) :
    (inHoldover (holdOver t b) b' = inHoldover t b' ∧ hostRef (holdOver t b) b' = hostRef t b') ∧
      (∀ r, refOk (holdOver t b) r = refOk t r) ∧ forwarded (holdOver t b) = forwarded t := by
  unfold holdOver
  extract_lets +onlyGivenNames r s1
  split
  · exact ⟨⟨rfl, rfl⟩, fun _ => rfl, rfl⟩
  · have hhold : inHoldover s1 b' = inHoldover t b' := inHoldover_setHoldover_other _ _ hb hb' hne
    have hmode : forwarded s1 = forwarded t := forwarded_setHoldover ..
    have href : hostRef s1 b' = hostRef t b' := hostRef_setHoldover ..
    split
    · refine ⟨⟨(inHoldover_changeRef ..).trans hhold, (hostRef_changeRef_other _ _ hb hb' hne).trans href⟩,
        fun _ => (refOk_changeRef ..).trans (refOk_setHoldover ..), ?_⟩
      rw [← hmode, forwarded, forwarded, rdE, rdE, eff_changeRef]
    · exact ⟨⟨hhold, href⟩, fun _ => refOk_setHoldover .., hmode⟩

theorem mem_refUsers {s : State} {r b : Nat} (h : b ∈ refUsers s r) : b < 2 ∧ hostRef s b = r := by
  obtain ⟨hrange, hboth⟩ := List.mem_filter.1 h
  exact ⟨List.mem_range.1 hrange, beq_iff_eq.1 (Bool.and_eq_true_iff.1 hboth).1⟩

theorem refUsers_nodup (s : State) (r : Nat) : (refUsers s r).Nodup := List.nodup_range.filter _

/-- The users of a lost reference hold over, each with its lanes. -/
theorem holdOvers_done {bs : List Nat} (hbs : bs.Nodup) (hlt : ∀ b ∈ bs, b < 2) (h : ∀ b ∈ bs, Losing s r t b) :
    ∀ b ∈ bs, HeldOver s r (bs.foldl (fun t b => regionLol (holdOver t b) b) t) b :=
  foldl_each (ready := Losing s r) (done := HeldOver s r) hbs
    (fun _ _ _ hl => (regionLol_refs ..).heldOver (holdOver_done hl))
    (fun u b hb b' hb' hne hh => by
      obtain ⟨⟨hhold, href⟩, -⟩ := holdOver_other (t := u) (hlt b hb) (hlt b' hb') hne
      exact (regionLol_refs ..).heldOver ⟨hhold.trans hh.1, fun hf hr ho => href.trans (hh.2 hf hr ho)⟩)
    (fun u b hb b' hb' hne hl => by
      obtain ⟨⟨-, href⟩, hok, hmode⟩ := holdOver_other (t := u) (hlt b hb) (hlt b' hb') hne
      exact (regionLol_refs ..).losing ⟨(hok r).trans hl.lost, fun r' hr' hne' => (hok r').trans (hl.others r' hr' hne'),
        hmode.trans hl.mode, href.trans hl.uses⟩) h

theorem holdOvers_lost {bs : List Nat} (hlt : ∀ b ∈ bs, b < 2) (h : refOk t r = false) :
    refOk (bs.foldl (fun t b => regionLol (holdOver t b) b) t) r = false := by
  induction bs generalizing t with
  | nil => exact h
  | cons b bs ih =>
    obtain ⟨hb, hrest⟩ := List.forall_mem_cons.1 hlt
    refine ih hrest (((regionLol_refs ..).ok r).trans ?_)
    obtain ⟨-, hok, -⟩ := holdOver_other (t := t) (b' := 1 - b) hb (by omega) (by omega)
    exact (hok r).trans h

/-- Setting holdover leaves what the references are. -/
theorem setHoldovers_losing {bs : List Nat} (h : Losing s r t b) : Losing s r (bs.foldl (fun t b => setHoldover t b true) t) b := by
  induction bs generalizing t with
  | nil => exact h
  | cons c bs ih =>
    exact ih ⟨(refOk_setHoldover ..).trans h.lost, fun r' hr' hne => (refOk_setHoldover ..).trans (h.others r' hr' hne),
      (forwarded_setHoldover ..).trans h.mode, (hostRef_setHoldover ..).trans h.uses⟩

theorem setHoldovers_lost {bs : List Nat} (h : refOk t r = false) : refOk (bs.foldl (fun t b => setHoldover t b true) t) r = false := by
  induction bs generalizing t with
  | nil => exact h
  | cons c bs ih => exact ih ((refOk_setHoldover ..).trans h)

theorem raiseRef_refs (s : State) (regions own : Nat) (holdover failed : Bool) : RefsKept s (raiseRef s regions own holdover failed) :=
  (raiseEvent_reports ..).refsKept

theorem refLost_runs (r : Fin 3) (hok : refOk s r = true) : Runs (.refLost r) s fun t =>
    refOk t r = false ∧ ∀ b ∈ refUsers s r, HeldOver s r t b := by
  refine runs_of_eq rfl (if_pos hok) ⟨?_, ?_⟩
  · exact holdOvers_lost (fun b hb => (mem_refUsers hb).1)
      (((raiseRef_refs ..).ok r).trans (setHoldovers_lost (refOk_setRefOk ..)))
  · refine holdOvers_done (refUsers_nodup s r) (fun b hb => (mem_refUsers hb).1) fun b hb => (raiseRef_refs ..).losing ?_
    exact setHoldovers_losing ⟨refOk_setRefOk .., fun r' hr' hne => refOk_setRefOk_other s _ r.isLt hr' hne,
      forwarded_setRefOk .., (hostRef_setRefOk ..).trans (mem_refUsers hb).2⟩

theorem refPresent_runs (r : Fin 3) (hlost : refOk s r = false) : Runs (.refPresent r) s fun t =>
    refOk t r = true ∧ ∀ b : Fin 2, inHoldover t b = inHoldover s b :=
  runs_of_eq rfl (if_neg (by simp [hlost])) ⟨((raiseRef_refs ..).ok r).trans (refOk_setRefOk ..),
    fun b => ((raiseRef_refs ..).holdover b).trans (inHoldover_setRefOk ..)⟩

end Lost

/-! A region's phase slews. -/

section Slewing

variable {s t : State}

theorem trainStart_trains (s : State) (n : Fin 16) : rd (trainStart s n) F.HSL_STATUS_TRAINING n = 1 :=
  (rd_wr_apart ..).trans (rd_wr_same ..)

theorem trainStart_training_other (s : State) {n m : Fin 16} (hne : m ≠ n) :
    rd (trainStart s n) F.HSL_STATUS_TRAINING m = rd s F.HSL_STATUS_TRAINING m := by
  have hm : ∀ g ∈ [(F.HSL_STATUS_TRAINING, 0)], m < g.1.place.count1 := List.forall_mem_singleton.2 m.isLt
  unfold trainStart
  extract_lets +onlyGivenNames s1 _ s2
  have hlol : Within (keeping [] (keysAt [(F.HSL_STATUS_TRAINING, 0)] m)) s s1 :=
    .ite (.rfl' _ s) ((Within.rfl' _ s).lolRises keeping_allows (keeping_opens hm) (keeping_opens hm) (keeping_any hm))
  have hfront (x : Front) : Within (keeping [] (keysAt [(F.HSL_STATUS_TRAINING, 0)] m)) s (setFront s1 (.host n) x) :=
    hlol.setFront keeping_allows
  have hkept : Within (keeping [] (keysAt [(F.HSL_STATUS_TRAINING, 0)] m)) s s2 := (hfront _).lockWindowClear keeping_allows
  have hrest : rd s2 F.HSL_STATUS_TRAINING m = rd s F.HSL_STATUS_TRAINING m := hkept.rd_keysAt_quiet
  exact (rd_wr_far _ _ n.isLt m.isLt).trans ((rd_wr_index _ _ _ fun he => hne (Fin.ext he)).trans hrest)

theorem trainLane_training {l : LaneId} {n : Fin 16} (h : rd s F.HSL_STATUS_TRAINING n = 1) :
    rd (trainLane s l) F.HSL_STATUS_TRAINING n = 1 := by
  cases l with
  | line _ => exact h
  | host m =>
    by_cases hne : n = m
    · exact hne ▸ trainStart_trains s n
    · exact (trainStart_training_other s hne).trans h

/-- Every host lane of a walk trains. -/
theorem trainLanes_training {ls : List LaneId} {n : Fin 16} (hn : LaneId.host n ∈ ls) :
    rd (ls.foldl trainLane s) F.HSL_STATUS_TRAINING n = 1 := by
  have hstay : ∀ (ls : List LaneId) (t : State), rd t F.HSL_STATUS_TRAINING n = 1 → rd (ls.foldl trainLane t) F.HSL_STATUS_TRAINING n = 1 := by
    intro ls
    induction ls with
    | nil => exact fun _ h => h
    | cons l ls ih => exact fun t h => ih _ (trainLane_training h)
  induction ls generalizing s with
  | nil => cases hn
  | cons l ls ih =>
    rcases List.mem_cons.1 hn with rfl | hn
    · exact hstay ls _ (trainStart_trains s n)
    · exact ih hn

theorem regionLanes_of (h : ∀ l, laneRuns t l = laneRuns s l) (line : Bool) (b : Nat) : regionLanes t line b = regionLanes s line b := by
  simp only [regionLanes, h]

/-- The region is out of holdover, and no longer one that took another reference. -/
def slewed (s : State) (b : Nat) : State :=
  let u := setHoldover s b false
  { u with path := { u.path with refChanged := vSet u.path.refChanged b false } }

theorem laneRuns_wrB {f : Field} (s : State) (v : Bool) (l : LaneId) (h : f.place.count1 ≠ 0 ∧ ∀ g ∈ [F.TST_FENCED_LINE, F.TST_FENCED_HOST],
    keysApart (f, 0) (g, 0) = true ∧ (f, 0) ≠ (g, 0) := by decide) : laneRuns (wrB s f v) l = laneRuns s l := by
  obtain ⟨hone, hapart⟩ := h
  obtain ⟨hline, hhost, -⟩ := List.forall_mem_cons.1 hapart |>.imp_right List.forall_mem_cons.1
  exact laneRuns_of (s := s) (t := wrB s f v) rfl rfl (rd_wrB_far s v (Nat.pos_of_ne_zero hone) Nat.one_pos hline)
    (rd_wrB_far s v (Nat.pos_of_ne_zero hone) Nat.one_pos hhost) rfl l

theorem setHoldover_runs (s : State) (b : Nat) (v : Bool) (l : LaneId) : laneRuns (setHoldover s b v) l = laneRuns s l := by
  unfold setHoldover
  split_ifs
  · exact laneRuns_wrB ..
  · exact laneRuns_wrB ..

theorem refSlewDone_runs (b : Fin 2) (hhold : inHoldover s b = true) (hok : refOk s (hostRef s b) = true) :
    Runs (.refSlewDone b) s fun t => inHoldover t b = false ∧
      (forwarded s = true → vGet s.path.refChanged b false = true →
        ∀ n : Fin 16, LaneId.host n ∈ regionLanes s false b → rd t F.HSL_STATUS_TRAINING n = 1) := by
  have hout : inHoldover (slewed s b) b = false := inHoldover_setHoldover ..
  have hmode : forwarded (slewed s b) = forwarded s := forwarded_setHoldover ..
  have hlanes : regionLanes (slewed s b) false b = regionLanes s false b := regionLanes_of (setHoldover_runs s b false) false b
  have hpath : (setHoldover s b false).path = s.path := by
    rw [setHoldover_eq]
    rfl
  have hstep : refSlewDone b s = if forwarded (slewed s b) && vGet (setHoldover s b false).path.refChanged b false then
      (regionLanes (slewed s b) false b).foldl trainLane (slewed s b) else slewed s b :=
    if_pos (Bool.and_eq_true_iff.2 ⟨hhold, hok⟩)
  rw [hpath, hmode, hlanes] at hstep
  refine runs_of_eq rfl hstep ⟨?_, fun hf hc n hn => ?_⟩
  · split
    · exact ((refsKept_of_within (trainLanes_kept _ _)).holdover b).trans hout
    · exact hout
  · rw [if_pos (Bool.and_eq_true_iff.2 ⟨hf, hc⟩)]
    exact trainLanes_training hn

theorem revertRegion_reverts (s : State) {b : Nat} (hb : b < 2) : hostRef (revertRegion s b) b = b ∧ inHoldover (revertRegion s b) b = true := by
  have hkept := regionLol_refs (setHoldover (changeRef s b b) b true) b
  exact ⟨(hkept.ref b).trans ((hostRef_setHoldover ..).trans (hostRef_changeRef _ _ (by omega))),
    (hkept.holdover b).trans (inHoldover_setHoldover ..)⟩

theorem clkRefRevert_completes {c : Cmd} (htaken : Taken 0x0260 [(2, 1)] c s) (hrev : revertable s (c.w 2) = true) :
    CompletesOk (.clkRefRevert c) 0x0260 c s 0 0 fun u => hostRef u (c.w 2) = c.w 2 ∧ inHoldover u (c.w 2) = true := by
  obtain ⟨-, -, -, hmask⟩ := id htaken
  have hb : c.w 2 < 2 := cmdWord_lt_of_masked hmask rfl
  refine completesOk_of_reports htaken rfl (fun _ _ => rfl) (fun v hv => ?_) fun v _ => revertRegion_reverts v hb
  refine withChecks_pass (firstFail_none _ ?_)
  simp only [List.forall_mem_cons, hv.refsKept.revertable, hrev]
  simp

end Slewing

/-! Failover (R195). -/

section Failover

variable {s : State}

theorem followed_setFollow (s : State) (p : Fin 8) (rx : Bool) (x : Option Nat) : followed (setFollow s p rx x) p rx = x := by
  cases rx <;> simp [followed, setFollow, vGet, vSet]

theorem failoverTimer_runs (p : Fin 8) (rx : Bool) (hmode : recovered s = true) (hon : portEnabled s p = true) :
    Runs (.failoverTimer p rx) s fun t =>
      (sourceLocked s (designated s p rx) = true → followed t p rx = none) ∧
      (sourceLocked s (designated s p rx) = false → followed s p rx = none → rdE s F.HSL_CLK_SEL_FAILOVER p ≠ 0 → ∀ n,
        ((if rx then portLines s p else portHosts s p).find? fun n =>
          sourceLocked s (if rx then lineOf n else hostOf n)) = some n → followed t p rx = some n) := by
  refine runs_of_eq rfl (if_pos (Bool.and_eq_true_iff.2 ⟨hmode, hon⟩)) ⟨fun hlocked => ?_, fun hlost hnone hfail n hfind => ?_⟩
  · rw [if_pos hlocked]
    exact followed_setFollow ..
  · simp only [hlost, hnone, hfail, hfind, Bool.false_eq_true, if_false, Bool.false_or, beq_iff_eq]
    have hreports := raiseEvent_reports (setFollow s p rx (some n)) (ev 0x8262 (locPort p) (b2n rx + n * 2))
    have hpath : (raiseEvent (setFollow s p rx (some n)) (ev 0x8262 (locPort p) (b2n rx + n * 2))).path = _ := hreports.path
    rw [followed, hpath, ← followed]
    exact followed_setFollow ..

end Failover

/-! A change of clocking mode (R196). -/

section ModeChange

variable {s t : State}

theorem regionPowered_of (heff : t.eff = s.eff) (hmode : t.power.mode = s.power.mode) (line : Bool) (b : Nat) :
    regionPowered t line b = regionPowered s line b := by
  simp only [regionPowered, hmode, portOfLine_of_eff heff, portOfHost_of_eff heff, forwarded, rdE, heff]

theorem setPllPair_powered (s : State) (l line : Bool) (b k : Nat) (x : PllPair) :
    regionPowered (setPllPair s l b x) line k = regionPowered s line k := by
  unfold setPllPair
  split
  · exact regionPowered_of rfl rfl ..
  · exact regionPowered_of rfl rfl ..

theorem pllPair_setPllPair_same (s : State) (line : Bool) (b : Fin 2) (x : PllPair) : pllPair (setPllPair s line b x) line b = x := by
  cases line <;> exact vGet_vSet_same _ _ _ _ b.isLt

theorem pllPair_setPllPair_other (s : State) {l line : Bool} {b k : Fin 2} (x : PllPair) (hne : (line, k) ≠ (l, b)) :
    pllPair (setPllPair s l b x) line k = pllPair s line k := by
  have hregion : l = line → k.val ≠ b.val := fun hl hk => hne (Prod.ext hl.symm (Fin.ext hk))
  cases l
  · cases line
    · exact vGet_vSet_other _ _ _ (hregion rfl)
    · rfl
  · cases line
    · rfl
    · exact vGet_vSet_other _ _ _ (hregion rfl)

/-- A region with power has both its PLLs locked and the main one in use; one without has none locked. -/
def pllLocked (s : State) (r : Bool × Fin 2) : State :=
  setPllPair s r.1 r.2 (if regionPowered s r.1 r.2 then ⟨true, true, false⟩ else .reset)

theorem every_region : ∀ r : Bool × Fin 2, r ∈ [(true, (0 : Fin 2)), (true, 1), (false, 0), (false, 1)] := by decide

/-- Both PLLs of every powered region are locked, with the main one in use. -/
theorem pllsLock_pairs (s : State) (line : Bool) (b : Fin 2) (hon : regionPowered s line b = true) :
    pllPair (pllsLock s) line b = ⟨true, true, false⟩ := by
  have heach := foldl_each (f := pllLocked) (l := [(true, 0), (true, 1), (false, 0), (false, 1)])
    (ready := fun t r => regionPowered t r.1 r.2 = regionPowered s r.1 r.2)
    (done := fun t r => regionPowered s r.1 r.2 = true → pllPair t r.1 r.2 = ⟨true, true, false⟩) (by decide)
    (fun t r _ hr hpow => by
      rw [pllLocked, pllPair_setPllPair_same, if_pos (hr.trans hpow)])
    (fun t r _ r' _ hne hd hpow => (pllPair_setPllPair_other _ _ hne).trans (hd hpow))
    (fun t r _ r' _ _ hr => (setPllPair_powered ..).trans hr) (a := s) fun _ _ => rfl
  exact heach (line, b) (every_region (line, b)) hon

theorem clkModePllLock_runs (hchange : s.path.modeChange = true) (hshow : s.power.mode = .show) : Runs .clkModePllLock s fun t =>
    t.path.modeChange = false ∧
    ∀ (line : Bool) (b : Fin 2), regionPowered s line b = true → pllPair t line b = ⟨true, true, false⟩ := by
  refine runs_of_eq rfl (if_pos ⟨hchange, hshow⟩) ?_
  dsimp only
  generalize hs1 : pllsLock { s with path := { s.path with modeChange := false } } = s1
  have hpath : s1.path.modeChange = false := by
    rw [← hs1]
    have hkept : Within (keeping [.path .modeChange] []) { s with path := { s.path with modeChange := false } }
      (pllsLock { s with path := { s.path with modeChange := false } }) := (Within.rfl' _ _).pllsLock keeping_allows keeping_wide.openAt
    exact hkept.kept (.path .modeChange)
  have hpairs : ∀ (line : Bool) (b : Fin 2), regionPowered s line b = true → pllPair s1 line b = ⟨true, true, false⟩ :=
    fun line b hon => hs1 ▸ pllsLock_pairs _ line b ((regionPowered_of rfl rfl line b).trans hon)
  split
  · have hkept := trainLanes_kept (allHost.filter (laneRuns s1)) s1
    refine ⟨(hkept.kept (.path .modeChange)).trans hpath, fun line b hon => Eq.trans ?_ (hpairs line b hon)⟩
    rw [pllPair, pllPair, hkept.kept (.time .linePll), hkept.kept (.time .hostPll)]
  · exact ⟨hpath, hpairs⟩

theorem maskOf_two_lt (f : Nat → Bool) : maskOf 2 f < 4 := by
  simp only [maskOf, List.range_succ, List.range_zero, List.nil_append, List.cons_append, List.foldl_cons, List.foldl_nil]
  split_ifs <;> decide

theorem b2n_le_one (v : Bool) : b2n v ≤ 1 := by cases v <;> decide

/-- A report of a lock not reached has the bit for it. -/
theorem raiseRef_failed (s : State) {regions : Nat} (hregions : regions < 4) (holdover : Bool) :
    ∃ b d, b < 2 ∧ raiseRef s regions 0 holdover true = raiseEvent s (ev 0x8260 (locPll (5 + b) 0) d) ∧ d.testBit 7 = true := by
  refine ⟨_, _, ?_, rfl, ?_⟩
  · split_ifs <;> decide
  · have h0 := b2n_le_one (refOk s 0)
    have h1 := b2n_le_one (refOk s 1)
    have h2 := b2n_le_one (refOk s 2)
    have hh := b2n_le_one holdover
    rw [Nat.testBit_eq_decide_div_mod_eq, decide_eq_true_eq, show b2n true = 1 from rfl]
    omega

theorem clkModeLockTimeout_runs (hchange : s.path.modeChange = true) : Runs .clkModeLockTimeout s fun t =>
    ∃ b d, b < 2 ∧ t = raiseEvent s (ev 0x8260 (locPll (5 + b) 0) d) ∧ d.testBit 7 = true := by
  exact runs_of_eq rfl (if_pos hchange) (raiseRef_failed s (maskOf_two_lt _) _)

end ModeChange

/-- Settles O44: references are lost, held over, slewed and taken back, and sources fail over. -/
theorem referenceCommandsComplete : Obligations.ReferenceCommandsComplete :=
  ⟨fun _ r hok => refLost_runs r hok, fun _ r hlost => refPresent_runs r hlost, fun _ b hhold hok => refSlewDone_runs b hhold hok,
    fun s b hrev hon => runs_of_eq rfl (if_pos (Bool.and_eq_true_iff.2 ⟨hrev, beq_iff_eq.2 hon⟩)) (revertRegion_reverts s b.isLt),
    fun _ _ htaken hrev => clkRefRevert_completes htaken hrev, fun _ p rx hmode hon => failoverTimer_runs p rx hmode hon,
    fun _ hchange hshow => clkModePllLock_runs hchange hshow, fun _ hchange => clkModeLockTimeout_runs hchange⟩

end Sys2Proof.Machine
end

section
/-! PROOFS. The aside channel's timers and packets (R214, R215, R222, R225-R227). -/

namespace Sys2Proof.Machine

open Sys2Proof

set_option Elab.async false

/-! A lane of the aside channel. -/

section Lane

variable {s t : State} {n m : Nat} {x : AsideLane} {o : AsideOut}

theorem asideLane_setAside_same (s : State) (x : AsideLane) (hn : n < 8) : asideLane (setAside s n x) n = x := vGet_vSet_same _ _ _ _ hn

theorem asideLane_setAside_other (s : State) (x : AsideLane) (hne : m ≠ n) : asideLane (setAside s n x) m = asideLane s m :=
  vGet_vSet_other _ _ _ hne

theorem asideLane_of_lanes (h : t.aside.lanes = s.aside.lanes) (n : Nat) : asideLane t n = asideLane s n := by rw [asideLane, asideLane, h]

theorem OnlyReports.asideLane (h : OnlyReports s t) (n : Nat) : Machine.asideLane t n = Machine.asideLane s n :=
  asideLane_of_lanes (congrArg (·.lanes) h.aside) n

theorem enqueue_queue (s : State) (o : AsideOut) (hn : n < 8) : (asideLane (enqueue s n o) n).queue = (asideLane s n).queue ++ [o] := by
  rw [enqueue, asideLane_setAside_same _ _ hn]

theorem asideLane_enqueue_other (s : State) (o : AsideOut) (hne : m ≠ n) : asideLane (enqueue s n o) m = asideLane s m :=
  asideLane_setAside_other _ _ hne

theorem mem_enqueue (s : State) (o : AsideOut) (hn : n < 8) : o ∈ (asideLane (enqueue s n o) n).queue := by simp [enqueue_queue s o hn]

theorem mem_enqueueOnce (s : State) (o : AsideOut) (hn : n < 8) : o ∈ (asideLane (enqueueOnce s n o) n).queue := by
  unfold enqueueOnce
  split
  · next h => exact List.contains_iff_mem.1 h
  · exact mem_enqueue s o hn

theorem asideLane_enqueueOnce_other (s : State) (o : AsideOut) (hne : m ≠ n) : asideLane (enqueueOnce s n o) m = asideLane s m := by
  unfold enqueueOnce
  split
  · rfl
  · exact asideLane_enqueue_other s o hne

@[simp] theorem enqueue_rd (s : State) (n : Nat) (o : AsideOut) (f : Field) (i j : Nat) : rd (enqueue s n o) f i j = rd s f i j := rfl

@[simp] theorem enqueueOnce_rd (s : State) (n : Nat) (o : AsideOut) (f : Field) (i j : Nat) :
    rd (enqueueOnce s n o) f i j = rd s f i j := by
  unfold enqueueOnce
  split <;> rfl

/-- The channel's standing on a lane. -/
theorem proposeLoading_lane (s : State) (x : Loading) (hn : n < 8) :
    (asideLane (proposeLoading s n x) n).proposed = some x ∧
      AsideOut.loadPropose x.id x.table ∈ (asideLane (proposeLoading s n x) n).queue := by
  refine ⟨?_, mem_enqueue _ _ hn⟩
  rw [proposeLoading, enqueue, asideLane_setAside_same _ _ hn, asideLane_setAside_same _ _ hn]

theorem asideLane_proposeLoading_other (s : State) (x : Loading) (hne : m ≠ n) : asideLane (proposeLoading s n x) m = asideLane s m :=
  (asideLane_enqueue_other _ _ hne).trans (asideLane_setAside_other _ _ hne)

theorem mem_challenge (s : State) (hn : n < 8) : AsideOut.challenge ∈ (asideLane (challenge s n) n).queue := mem_enqueueOnce _ _ hn

theorem asideLane_challenge_other (s : State) (hne : m ≠ n) : asideLane (challenge s n) m = asideLane s m := by
  unfold challenge
  extract_lets +onlyGivenNames s1
  refine (asideLane_enqueueOnce_other s1 _ hne).trans (asideLane_of_lanes ?_ m)
  simp only [s1]
  split <;> rfl

theorem challenge_state (s : State) (n : Nat) :
    rd (challenge s n) F.ASD_STATUS_AUTH_STATE n = if rd s F.ASD_STATUS_AUTH_STATE n = 2 then 2 else 1 := by
  unfold challenge
  extract_lets +onlyGivenNames s1
  rw [enqueueOnce_rd]
  simp only [s1]
  split
  · assumption
  · exact rd_wr_same ..

end Lane

/-! A packet ends. -/

section PacketEnd

variable {s t : State} {n : Fin 8}

theorem negotiates_of (heff : t.eff = s.eff) (hup : rd t F.ASD_STATUS_UP n = rd s F.ASD_STATUS_UP n)
    (hprofile : rd t F.ASD_STATUS_PARTNER_PROFILE n = rd s F.ASD_STATUS_PARTNER_PROFILE n) : negotiates t n = negotiates s n := by
  simp only [negotiates, bothCoop, asideProfile, partnerCoop, partnerUp, rdE, heff, hup, hprofile]

theorem halves_of_word (x : BitVec 64) : BitVec.ofNat 64 (x.toNat % 2 ^ 32 + x.toNat / 2 ^ 32 % 2 ^ 32 * 2 ^ 32) = x := by
  apply BitVec.eq_of_toNat_eq
  have := x.isLt
  rw [BitVec.toNat_ofNat]
  omega

theorem setTxLoading_table (s : State) (n : Fin 8) (x : Loading) : (txLoading (setTxLoading s n x) n).table = x.table := by
  unfold setTxLoading
  split
  · next h => exact congrArg (·.table) h
  · have hlow : rd (wr (wr s F.ASD_TABLE_TX_k_TABLE x.table.toNat n 0) F.ASD_TABLE_TX_k_TABLE (x.table.toNat / 2 ^ 32) n 1)
        F.ASD_TABLE_TX_k_TABLE n 0 = x.table.toNat % 2 ^ 32 := (rd_wr_apart ..).trans (rd_wr_same ..)
    have hhigh : rd (wr (wr s F.ASD_TABLE_TX_k_TABLE x.table.toNat n 0) F.ASD_TABLE_TX_k_TABLE (x.table.toNat / 2 ^ 32) n 1)
        F.ASD_TABLE_TX_k_TABLE n 1 = x.table.toNat / 2 ^ 32 % 2 ^ 32 := rd_wr_same ..
    dsimp only [txLoading, raiseLoading]
    rw [raiseEvent_rd_quiet, raiseEvent_rd_quiet, rd_wr_apart (g := F.ASD_TABLE_TX_k_TABLE) (j' := 0),
      rd_wr_apart (g := F.ASD_TABLE_TX_k_TABLE) (j' := 1), hlow, hhigh]
    exact halves_of_word x.table

theorem gatherOf_fragmentSent (s : State) (x : Fin 8) : gatherOf (fragmentSent s x) x = none := vGet_vSet_same _ _ _ _ x.isLt

/-- What the end of a packet leaves: the packet is off the lane. -/
def packetOff (s : State) (n : Nat) : State :=
  wr (setAside s n { asideLane s n with
    sending := none
    lastEnd := some s.time.tick }) F.ASD_STATUS_TX_BUSY 0 n

/-- What a packet's kind asks for once it is out. -/
def packetDone (s : State) (n : Nat) : AsideOut → State
  | .buffer _ (some tag) => sendDone s n tag
  | .fragment x 15 => if ((gatherOf s x).bind (·.set)).isSome then fragmentSent s x else s
  | .loadConfirm id table => if negotiates s n then setTxLoading s n ⟨id, table⟩ else s
  | _ => s

theorem asidePacketEnd_eq {o : AsideOut} {q : AsidePacket} (h : (asideLane s n).sending = some (o, q)) :
    asidePacketEnd n s = packetDone (bump (packetOff s n) (cntLine n (45 + hdrType q.header)) 1) n o := by
  unfold asidePacketEnd
  rw [h]
  rfl

theorem packetDone_kept (s : State) (n : Fin 8) (o : AsideOut) :
    Within (keeping [.aside .lanes] (keysAt [(F.ASD_STATUS_TX_BUSY, 0)] n)) s (packetDone s n o) := by
  have hn : ∀ g ∈ [(F.ASD_STATUS_TX_BUSY, 0)], n < g.1.place.count1 := List.forall_mem_singleton.2 n.isLt
  unfold packetDone
  split
  · exact (Within.rfl' _ s).sendDone keeping_allows
  · exact .ite ((Within.rfl' _ s).fragmentSent keeping_allows (keeping_any hn (a := _))) (.rfl' _ s)
  · exact .ite ((Within.rfl' _ s).setTxLoading keeping_beside) (.rfl' _ s)
  · exact .rfl' _ s

theorem packetEnd_negotiates (s : State) (n : Fin 8) (k : Nat) : negotiates (bump (packetOff s n) k 1) n = negotiates s n :=
  negotiates_of (bump_reports ..).eff (((bump_reports ..).rd_clear n.isLt).trans (rd_wr_apart ..)) ((bump_rd_quiet ..).trans (rd_wr_apart ..))

theorem packetEnd_gather (s : State) (n : Fin 8) (k x : Nat) : gatherOf (bump (packetOff s n) k 1) x = gatherOf s x := by
  rw [gatherOf, (bump_reports ..).lanes]
  rfl

theorem asidePacketEnd_ends {o : AsideOut} {q : AsidePacket} (h : (asideLane s n).sending = some (o, q)) :
    Runs (.asidePacketEnd n) s fun t =>
      rd t F.ASD_STATUS_TX_BUSY n = 0 ∧ (asideLane t n).sending = none ∧ (asideLane t n).lastEnd = some s.time.tick ∧
      (∀ id table, o = .loadConfirm id table → negotiates s n = true → (txLoading t n).table = table) ∧
      ∀ x : Fin 8, o = .fragment x 15 → ((gatherOf s x).bind (·.set)).isSome = true → gatherOf t x = none := by
  refine runs_of_eq rfl (asidePacketEnd_eq h) ?_
  generalize hk : cntLine n (45 + hdrType q.header) = k
  have hkept := packetDone_kept (bump (packetOff s n) k 1) n o
  have hlane : asideLane (packetDone (bump (packetOff s n) k 1) n o) n = { asideLane s n with
      sending := none
      lastEnd := some s.time.tick } := by
    refine (asideLane_of_lanes (hkept.kept (.aside .lanes)) n).trans (((bump_reports _ _ _).asideLane n).trans ?_)
    exact asideLane_setAside_same s _ n.isLt
  refine ⟨hkept.rd_keysAt_quiet.trans ((bump_rd_quiet ..).trans (rd_wr_same ..)), by rw [hlane], by rw [hlane],
    fun id table ho hneg => ?_, fun x ho hset => ?_⟩
  · subst ho
    have hdone : packetDone (bump (packetOff s n) k 1) n (.loadConfirm id table) =
        setTxLoading (bump (packetOff s n) k 1) n ⟨id, table⟩ := if_pos ((packetEnd_negotiates s n k).trans hneg)
    rw [hdone, setTxLoading_table]
  · subst ho
    rw [← packetEnd_gather s n k] at hset
    have hdone : packetDone (bump (packetOff s n) k 1) n (.fragment x 15) = fragmentSent (bump (packetOff s n) k 1) x := if_pos hset
    rw [hdone, gatherOf_fragmentSent]

end PacketEnd

/-! Packets start, partners fall silent, loadings are proposed. -/

section Timers

variable {s : State} {n : Fin 8}

theorem asidePacketStart_starts {p : Nat} {o : AsideOut} (hport : portOfLine s n = some p) (hruns : asideRuns s n = true)
    (hfree : rd s F.ASD_STATUS_TX_BUSY n = 0) (hgrid : atGrid s n = true) :
    let u := setAside s n { asideLane s n with queue := (asideLane s n).queue.filter (liveOut s) }
    pickOut u n p = some o →
    Runs (.asidePacketStart n) s fun t =>
      rd t F.ASD_STATUS_TX_BUSY n = 1 ∧ (asideLane t n).queue = (asideLane u n).queue.erase o ∧
      (asideLane t n).sent = (asideLane s n).sent + 1 ∧ (asideLane t n).sending = some (o, buildPacket u n p o) ∧
      (asideLane t n).waveAt = (txRec s (lineOf n)).count := by
  intro u hpick
  have hstep : asidePacketStart n s = startPacket u n p o := by
    unfold asidePacketStart
    rw [hport]
    dsimp only
    rw [if_neg (by simp [hruns, hfree, hgrid]), hpick]
  have hsent : (asideLane u n).sent = (asideLane s n).sent := by rw [asideLane_setAside_same _ _ n.isLt]
  refine runs_of_eq rfl hstep ⟨rd_wr_same .., ?_, ?_, ?_, ?_⟩
  · exact congrArg (·.queue) (asideLane_setAside_same u _ n.isLt)
  · exact (congrArg (·.sent) (asideLane_setAside_same u _ n.isLt)).trans (congrArg (· + 1) hsent)
  · exact congrArg (·.sending) (asideLane_setAside_same u _ n.isLt)
  · exact congrArg (·.waveAt) (asideLane_setAside_same u _ n.isLt)

theorem partnerDown_up (s : State) (n : Fin 8) : rd (partnerDown s n) F.ASD_STATUS_UP n = 0 := by
  unfold partnerDown
  split
  · exact ((raiseEvent_reports ..).rd_clear n.isLt).trans (rd_wr_same ..)
  · next hdown =>
    have hone : rd s F.ASD_STATUS_UP n ≠ 1 := fun h => hdown (beq_iff_eq.2 h)
    have hlt : rd s F.ASD_STATUS_UP n < 2 ^ 1 := rd_lt ..
    omega

theorem refExpire_up (s : State) (n : Nat) : rd (refExpire s n) F.ASD_STATUS_UP n = rd s F.ASD_STATUS_UP n := by
  unfold refExpire
  split
  · exact rd_wr_apart ..
  · rfl

theorem loadingEvaluation_proposes {table : Nat} (hruns : asideRuns s n = true) (hneg : negotiates s n = true)
    (hearned : earnedTable s n = some table) (hnew : table ≠ (rxLoading s n).table.toNat)
    (hfar : loadB (rxLoading s n).table.toNat + 16 ≤ loadB table ∨ loadB table + 16 ≤ loadB (rxLoading s n).table.toNat) :
    Runs (.loadingEvaluation n) s fun t =>
      (asideLane t n).proposed = some ⟨(asideLane s n).lastId % 15 + 1, BitVec.ofNat 64 table⟩ ∧
      AsideOut.loadPropose ((asideLane s n).lastId % 15 + 1) (BitVec.ofNat 64 table) ∈ (asideLane t n).queue := by
  have hstep : loadingEvaluation n s = proposeLoading s n ⟨(asideLane s n).lastId % 15 + 1, BitVec.ofNat 64 table⟩ := by
    unfold loadingEvaluation
    rw [if_neg (by simp [hruns, hneg]), hearned]
    dsimp only
    exact if_pos ⟨hnew, hfar.elim .inl fun h => .inr (.inl h)⟩
  exact runs_of_eq rfl hstep (proposeLoading_lane s _ n.isLt)

end Timers

/-- Settles O36: what falls due on the aside channel is queued, packets start and end, partners time out. -/
theorem asideTimersComplete : Obligations.AsideTimersComplete :=
  ⟨fun s n hruns => runs_of_eq rfl (if_pos hruns) (mem_enqueueOnce s _ n.isLt),
    fun s n hruns hperiod => runs_of_eq rfl (if_pos ⟨hruns, hperiod⟩) (mem_enqueueOnce s _ n.isLt),
    fun _ _ hperiod => runs_of_eq rfl (if_neg fun h => h.2 hperiod) rfl,
    fun _ _ _ _ hport hruns hfree hgrid hpick => asidePacketStart_starts hport hruns hfree hgrid hpick,
    fun _ _ _ _ h => asidePacketEnd_ends h,
    fun s n => runs_of_eq rfl rfl ((refExpire_up _ n).trans (partnerDown_up s n)),
    fun s n hruns hauth => runs_of_eq rfl (if_pos (by simp [hruns, hauth])) ⟨mem_challenge s n.isLt, challenge_state s n⟩,
    fun _ _ _ hruns hneg hearned hnew hfar => loadingEvaluation_proposes hruns hneg hearned hnew hfar,
    fun s n => runs_of_eq rfl rfl (by rw [asideLane_setAside_same _ _ n.isLt])⟩

end Sys2Proof.Machine
end

section
/-! PROOFS. The aside channel's commands (R218, R230), while Mexis restarts. -/

namespace Sys2Proof.Machine

open Sys2Proof

set_option Elab.async false

/-- Mexis restarts while an ASD_AUTH_START is in progress. -/
def authRestarting : State :=
  let s := wr State.reset F.RING_STATUS_RESTARTING 1
  { s with mgmt := { s.mgmt with inProgress := [⟨0, 0x0706, false, 1, 0⟩] } }

/-- The time-out's command ends, but holds its place until Mexis has restarted (completeProg). -/
theorem authRestarting_holds : (authStartTimeout authRestarting).mgmt.inProgress = [⟨0, 0x0706, false, endedKey, 0⟩] := by
  rfl

/-- Refutes O37: while Mexis restarts, an ASD_AUTH_START that times out stays among the commands in progress, under the key of
those that have ended, so their number does not fall. -/
theorem not_asideCommandsComplete : ¬ Obligations.AsideCommandsComplete := by
  unfold Obligations.AsideCommandsComplete
  intro ⟨_, _, _, _, htimeout, _⟩
  obtain ⟨t, hexec, hfewer⟩ := htimeout authRestarting (by decide)
  obtain rfl : authStartTimeout authRestarting = t := Host.Outcome.next.inj hexec
  rw [authRestarting_holds] at hfewer
  exact absurd hfewer (by decide)

end Sys2Proof.Machine
end

section
/-! PROOFS. The line transmitter's commands (R99, R101, R102, R107, R116). -/

namespace Sys2Proof.Machine

open Sys2Proof

set_option Elab.async false

theorem lineOf_val (n : Fin 8) : lineOf n = .line n := congrArg LaneId.line (Fin.ext (Nat.mod_eq_of_lt n.isLt))

theorem aGet_filter_none {α : Type} {m : List (Nat × α)} {p : Nat × α → Bool} {k : Nat} (h : ∀ v, p (k, v) = false) :
    aGet (m.filter p) k = none := by
  induction m with
  | nil => rfl
  | cons e m ih =>
    rw [List.filter_cons]
    split
    · next he =>
      have hne : e.1 ≠ k := fun hk => Bool.false_ne_true ((h e.2).symm.trans (hk ▸ he))
      rw [aGet, if_neg hne, ih]
    · exact ih

/-! The lookup table of a lane. -/

section Table

variable {s t : State} {n : Nat}

theorem lutGet_of_lanes (h : t.lanes.tx = s.lanes.tx) (n b e : Nat) : lutGet t n b e = lutGet s n b e := by rw [lutGet, lutGet, lineTx, lineTx, h]

theorem lineTx_setLineTx (s : State) (x : LineTx) (hn : n < 8) : lineTx (setLineTx s n x) n = x := vGet_vSet_same _ _ _ _ hn

/-- A table's content after entries are written from a first one on; a 0 stands for an entry that is not listed. -/
def lutWritten (m : List (Nat × Int)) (a : Nat) (vs : List Int) : List (Nat × Int) :=
  (vs.zipIdx).foldl (fun m e => if e.1 = 0 then aDel m (a + e.2) else aSet m (a + e.2) e.1) m

theorem lutEntry_same (m : List (Nat × Int)) (k : Nat) (v : Int) : (aGet (if v = 0 then aDel m k else aSet m k v) k).getD 0 = v := by
  split
  · next h => rw [aGet_aDel_same, h]; rfl
  · rw [aGet_aSet_same]; rfl

theorem lutEntry_other (m : List (Nat × Int)) {k j : Nat} (v : Int) (h : j ≠ k) :
    aGet (if v = 0 then aDel m k else aSet m k v) j = aGet m j := by
  split
  · exact aGet_aDel_other m h
  · exact aGet_aSet_other m v h

theorem lutWritten_get (m : List (Nat × Int)) (a : Nat) (vs : List Int) (j : Nat) :
    (aGet (lutWritten m a vs) j).getD 0 = if h : a ≤ j ∧ j < a + vs.length then vs[j - a] else (aGet m j).getD 0 := by
  induction vs using List.reverseRecOn with
  | nil => simp [lutWritten]
  | append_singleton vs v ih =>
    have hstep : lutWritten m a (vs ++ [v]) =
        if v = 0 then aDel (lutWritten m a vs) (a + vs.length) else aSet (lutWritten m a vs) (a + vs.length) v := by
      simp [lutWritten, List.zipIdx_append]
    rw [hstep]
    by_cases hj : j = a + vs.length
    · subst hj
      rw [lutEntry_same, dif_pos (by simp)]
      simp
    · rw [lutEntry_other _ _ hj, ih]
      by_cases hin : a ≤ j ∧ j < a + vs.length
      · rw [dif_pos hin, dif_pos (by simp; omega), List.getElem_append_left]
      · rw [dif_neg hin, dif_neg (by simp; omega)]

theorem lutPut_get (s : State) (b first e b' : Nat) (vs : List Int) (hn : n < 8) :
    lutGet (lutPut s n b first vs) n b' e =
      (aGet (lutWritten (lineTx s n).lut (65536 * b + first) vs) (65536 * b' + e)).getD 0 := by
  have hlanes : (lutPut s n b first vs).lanes = (setLineTx s n { lineTx s n with
      lut := lutWritten (lineTx s n).lut (65536 * b + first) vs }).lanes := rfl
  rw [lutGet, lineTx, hlanes, ← lineTx, lineTx_setLineTx _ _ hn]

theorem lutClear_get (s : State) (b e : Nat) (hn : n < 8) (he : e < 65536) (b' : Nat) :
    lutGet (lutClear s n b) n b' e = if b' = b then 0 else lutGet s n b' e := by
  have hlanes : (lutClear s n b).lanes = (setLineTx s n { lineTx s n with
      lut := (lineTx s n).lut.filter fun e => e.1 / 65536 != b }).lanes := rfl
  rw [lutGet, lineTx, hlanes, ← lineTx, lineTx_setLineTx _ _ hn]
  have hdiv : (65536 * b' + e) / 65536 = b' := by omega
  split
  · next h =>
    subst h
    rw [aGet_filter_none fun v => by simp [hdiv]]
    rfl
  · next h =>
    rw [aGet_filter_of fun v => by simp [hdiv, h]]
    rfl

end Table

section Swing

theorem swingStep_steps {s : State} {n : Fin 8} (hruns : laneRuns s (.line n) = true)
    (hne : rd s F.LTX_SWING_NOW n ≠ rdE s F.LTX_SWING_SWING n) (hsince : sinceNs s (lineTx s n).swingLast 1000 = true) :
    Runs (.swingStep n) s fun t =>
      rd t F.LTX_SWING_NOW n = (if rd s F.LTX_SWING_NOW n < rdE s F.LTX_SWING_SWING n then rd s F.LTX_SWING_NOW n + 1
        else rd s F.LTX_SWING_NOW n - 1) ∧ (lineTx t n).swingLast = some s.time.tick := by
  refine runs_of_eq rfl (if_pos ⟨(lineOf_val n).symm ▸ hruns, hne, hsince⟩) ⟨(rd_wr_same ..).trans (Nat.mod_eq_of_lt ?_), ?_⟩
  · have hnow : rd s F.LTX_SWING_NOW n < 2 ^ 6 := rd_lt ..
    have hgoal : rdE s F.LTX_SWING_SWING n < 2 ^ 6 := rdE_lt ..
    change _ < 2 ^ 6
    split <;> omega
  · exact congrArg (·.swingLast) (lineTx_setLineTx s _ n.isLt)

@[simp] theorem skewMark_rd (s : State) (l : LaneId) (f : Field) (i j : Nat) : rd (skewMark s l) f i j = rd s f i j := by
  cases l with
  | line n =>
    simp only [skewMark]
    split <;> rfl
  | host n => rfl

theorem setTx_shows (s : State) (l : LaneId) (idle burst : Bool) :
    txBurst (setTx s l idle burst) l = burst ∧ txIdle (setTx s l idle burst) l = idle := by
  have hbit : ∀ b : Bool, b2n b % 2 ^ 1 = b2n b := by decide
  cases l with
  | line n =>
    refine ⟨?_, ?_⟩
    · change (rd (skewMark _ _) F.LTX_STATUS_BURST n == 1) = burst
      rw [skewMark_rd]
      exact (congrArg (· == 1) ((rd_wr_same ..).trans (hbit burst))).trans (b2n_beq_one burst)
    · change (rd (skewMark _ _) F.LTX_STATUS_IDLE n == 1) = idle
      rw [skewMark_rd]
      exact (congrArg (· == 1) ((rd_wr_apart ..).trans ((rd_wr_same ..).trans (hbit idle)))).trans (b2n_beq_one idle)
  | host n =>
    refine ⟨?_, ?_⟩
    · change (rd (skewMark _ _) F.HSL_STATUS_TX_BURST n == 1) = burst
      rw [skewMark_rd]
      exact (congrArg (· == 1) ((rd_wr_same ..).trans (hbit burst))).trans (b2n_beq_one burst)
    · change (rd (skewMark _ _) F.HSL_STATUS_TX_IDLE n == 1) = idle
      rw [skewMark_rd]
      exact (congrArg (· == 1) ((rd_wr_apart ..).trans ((rd_wr_same ..).trans (hbit idle)))).trans (b2n_beq_one idle)

theorem OnlyReports.txIdle {s t : State} (h : OnlyReports s t) (l : LaneId) : Machine.txIdle t l = Machine.txIdle s l := by
  cases l with
  | line n => exact congrArg (· == 1) (h.rd_clear n.isLt)
  | host n => exact congrArg (· == 1) (h.rd_clear n.isLt)

theorem OnlyReports.txBurst {s t : State} (h : OnlyReports s t) (l : LaneId) : Machine.txBurst t l = Machine.txBurst s l := by
  cases l with
  | line n => exact congrArg (· == 1) (h.rd_clear n.isLt)
  | host n => exact congrArg (· == 1) (h.rd_clear n.isLt)

/-- At its end a burst leaves neither itself nor idle. -/
theorem trainingBurstEnd_shows {s : State} {l : LaneId} (h : txBurst s l = true) :
    txBurst (trainingBurstEnd l s) l = false ∧ txIdle (trainingBurstEnd l s) l = false := by
  unfold trainingBurstEnd
  rw [if_pos h]
  extract_lets +onlyGivenNames bank s1
  obtain ⟨hburst, hidle⟩ := setTx_shows s1 l false false
  exact ⟨((raiseEvent_reports ..).txBurst l).trans hburst, ((raiseEvent_reports ..).txIdle l).trans hidle⟩

end Swing

/-! The commands on the tables. -/

section Commands

variable {s v : State} {c : Cmd}

theorem OnlyReports.activeBank (h : OnlyReports s v) {n : Nat} (hn : n < 8) : Machine.activeBank v n = Machine.activeBank s n :=
  h.rd_clear hn

theorem OnlyReports.shadowBank (h : OnlyReports s v) {n : Nat} (hn : n < 8) : Machine.shadowBank v n = Machine.shadowBank s n :=
  congrArg (1 - ·) (h.rd_clear hn)

theorem banks_apart (s : State) (n : Nat) : activeBank s n ≠ shadowBank s n ∧ activeBank s n < 2 ∧ shadowBank s n < 2 := by
  have hbit : rd s F.LTX_STATUS_ACTIVE n < 2 ^ 1 := rd_lt ..
  unfold activeBank shadowBank
  omega

theorem laneSealed_of_time (h : v.time = s.time) (n : Nat) : laneSealed v n = laneSealed s n := by
  unfold laneSealed sealsLane armedCue cueSlot
  rw [h]

theorem OnlyReports.lutGet (h : OnlyReports s v) (n b e : Nat) : Machine.lutGet v n b e = Machine.lutGet s n b e :=
  lutGet_of_lanes (h.lanes ▸ rfl) n b e

/-- What turns a command on a lane's shadow table away stays the same. -/
theorem OnlyReports.lutFree (h : OnlyReports s v) (n : Nat) : (Machine.retained v 12 = Machine.retained s 12 ∧
    Machine.laneSealed v n = Machine.laneSealed s n) ∧ Machine.rehearsing v 1 n = Machine.rehearsing s 1 n ∧
      Machine.xaRun v n = Machine.xaRun s n := by
  refine ⟨⟨?_, laneSealed_of_time h.time n⟩, rehearsing_of_test h.test 1 n, ?_⟩
  · rw [retained, retained, h.power]
  · rw [xaRun, xaRun, h.lanes]

theorem ltxLutClear_completes (htaken : Taken 0x0322 [(2, 7)] c s) (hret : retained s 12 = false)
    (hseal : laneSealed s (c.w 2) = false) (hreh : rehearsing s 1 (c.w 2) = false) (hxa : xaRun s (c.w 2) = none) :
    CompletesOk (.ltxLutClear c) 0x0322 c s 0 0 fun u => ∀ e, e < 65536 →
      lutGet u (c.w 2) (shadowBank s (c.w 2)) e = 0 ∧
      lutGet u (c.w 2) (activeBank s (c.w 2)) e = lutGet s (c.w 2) (activeBank s (c.w 2)) e := by
  obtain ⟨-, -, -, hmask⟩ := id htaken
  have hn : c.w 2 < 8 := cmdWord_lt_of_masked hmask rfl
  refine completesOk_of_reports (w := fun v => lutClear v (c.w 2) (shadowBank v (c.w 2))) htaken rfl (fun _ _ => rfl)
    (fun v hv => ?_) fun v hv e he => ?_
  · obtain ⟨⟨hret', hseal'⟩, hreh', hxa'⟩ := hv.lutFree (c.w 2)
    unfold ltxLutClear
    refine withChecks_pass (firstFail_none _ ?_)
    simp [hret', hseal', hreh', hxa', hret, hseal, hreh, hxa]
  · rw [hv.shadowBank hn, lutClear_get _ _ _ hn he, lutClear_get _ _ _ hn he, if_pos rfl, if_neg (banks_apart s _).1, hv.lutGet]
    exact ⟨rfl, rfl⟩

/-- A table's entries stand in the window. -/
def lutShown (c : Cmd) (s : State) : State :=
  let b := if c.w 3 = 0 then activeBank s (c.w 2) else shadowBank s (c.w 2)
  let t := lutRead s (c.w 2) b (lutWords (c.w 4) (c.w 5))
  bulkWords t (c.w 6) (lutPack ((List.range (c.w 5)).map fun k => ofSigned 16 (lutGet t (c.w 2) b (c.w 4 + k))))

theorem ltxLutRead_completes (htaken : Taken 0x0321 [(2, 7), (3, 1), (4, 0xFFFF), (5, 0xFFFFFFFF), (6, 0xFFFFFFFF)] c s)
    (halign : c.w 6 % 4 = 0) (hsome : 0 < c.w 5) (hrange : c.w 4 + c.w 5 ≤ 65536) (hfits : c.w 6 + 2 * c.w 5 ≤ bulkEnd s)
    (hret : retained s 12 = false) :
    let b := if c.w 3 = 0 then activeBank s (c.w 2) else shadowBank s (c.w 2)
    CompletesOk (.ltxLutRead c) 0x0321 c s (2 * c.w 5) 0 fun u => ∃ m,
      u.mgmt.window = winPutWords m (windowBase + c.w 6)
        (lutPack ((List.range (c.w 5)).map fun k => ofSigned 16 (lutGet u (c.w 2) b (c.w 4 + k)))) := by
  intro b
  obtain ⟨-, -, -, hmask⟩ := id htaken
  have hn : c.w 2 < 8 := cmdWord_lt_of_masked hmask rfl
  refine completesOk_of_reports (w := lutShown c) htaken rfl (fun _ _ => rfl) (fun v hv => ?_) fun v hv => ?_
  · unfold ltxLutRead
    refine withChecks_pass (firstFail_none _ ?_)
    have hbulk : bulkBad v (c.w 6) (2 * c.w 5) = false := (hv.bulkBad ..).trans (bulkBad_eq_false hfits)
    simp [halign, hbulk, (hv.lutFree 0).1.1, hret]
    omega
  · have hb : b = if c.w 3 = 0 then activeBank v (c.w 2) else shadowBank v (c.w 2) := by
      rw [hv.activeBank hn, hv.shadowBank hn]
    rw [hb]
    exact ⟨_, rfl⟩

/-- What is written into a lane's shadow table stands there, and the active one is as before. -/
theorem lutPut_shadow (s : State) {n first : Nat} {vs : List Int} (hn : n < 8) (hfits : first + vs.length ≤ 65536) :
    (∀ k (hk : k < vs.length), lutGet (lutPut s n (shadowBank s n) first vs) n (shadowBank s n) (first + k) = vs[k]) ∧
      ∀ e, e < 65536 → lutGet (lutPut s n (shadowBank s n) first vs) n (activeBank s n) e = lutGet s n (activeBank s n) e := by
  obtain ⟨hne, hactive, hshadow⟩ := banks_apart s n
  refine ⟨fun k hk => ?_, fun e he => ?_⟩
  · rw [lutPut_get _ _ _ _ _ _ hn, lutWritten_get, dif_pos (by omega)]
    congr 1
    omega
  · rw [lutPut_get _ _ _ _ _ _ hn, lutWritten_get, dif_neg (by omega)]
    rfl

/-- The words from which LTX_LUT_WRITE takes its entries, with the state in which they have been read. -/
abbrev lutFetched (c : Cmd) (s : State) : State × List Nat := fetchWords s (windowBase + c.w 5) ((c.w 4 + 1) / 2)

theorem ltxLutWrite_puts (halign : c.w 5 % 4 = 0) (hsome : 0 < c.w 4) (hrange : c.w 3 + c.w 4 ≤ 65536)
    (hfits : bulkBad v (c.w 5) (2 * c.w 4) = false) (hret : retained v 12 = false) (hseal : laneSealed v (c.w 2) = false)
    (hreh : rehearsing v 1 (c.w 2) = false) (hxa : xaRun v (c.w 2) = none)
    (hes : ∀ x ∈ lutEntries (lutFetched c v).2 (c.w 4), entryOk x = true) :
    ltxLutWrite c v = (lutPut (lutFetched c v).1 (c.w 2) (shadowBank (lutFetched c v).1 (c.w 2)) (c.w 3)
      ((lutEntries (lutFetched c v).2 (c.w 4)).map (toSigned 10 ·)), .done stOK 0 0 0) := by
  have hgood : (c.w 4 == 0 || decide (65536 < c.w 4) || decide (65536 < c.w 3 + c.w 4) || bulkBad v (c.w 5) (2 * c.w 4)) = false := by
    simp [hfits]
    omega
  obtain ⟨⟨hret', hseal'⟩, hreh', hxa'⟩ :=
    (fetchWords_reports v (windowBase + c.w 5) ((c.w 4 + 1) / 2) : OnlyReports v (lutFetched c v).1).lutFree (c.w 2)
  unfold ltxLutWrite
  simp only [hgood, halign, Bool.false_or, bne_self_eq_false, Bool.false_eq_true, if_false]
  refine withChecks_pass (firstFail_none _ ?_)
  have hall : (lutEntries (lutFetched c v).2 (c.w 4)).all entryOk = true := List.all_eq_true.2 hes
  simp [hall, hret', hseal', hreh', hxa', hret, hseal, hreh, hxa]

theorem lutEntries_length (ws : List Nat) (count : Nat) (h : count ≤ 2 * ws.length) : (lutEntries ws count).length = count := by
  simp [lutEntries, List.length_flatMap]
  omega

theorem ltxLutWrite_completes (htaken : Taken 0x0320 [(2, 7), (3, 0xFFFF), (4, 0xFFFFFFFF), (5, 0xFFFFFFFF)] c s)
    (halign : c.w 5 % 4 = 0) (hsome : 0 < c.w 4) (hrange : c.w 3 + c.w 4 ≤ 65536) (hfits : c.w 5 + 2 * c.w 4 ≤ bulkEnd s)
    (hret : retained s 12 = false) (hseal : laneSealed s (c.w 2) = false) (hreh : rehearsing s 1 (c.w 2) = false)
    (hxa : xaRun s (c.w 2) = none) :
    let es := lutEntries (fetchWords (takenState 0x0320 c s) (windowBase + c.w 5) ((c.w 4 + 1) / 2)).2 (c.w 4)
    (∀ x ∈ es, entryOk x = true) →
    CompletesOk (.ltxLutWrite c) 0x0320 c s 0 0 fun u =>
      (∀ k, k < c.w 4 → lutGet u (c.w 2) (shadowBank s (c.w 2)) (c.w 3 + k) = toSigned 10 (es.getD k 0)) ∧
      ∀ e, e < 65536 → lutGet u (c.w 2) (activeBank s (c.w 2)) e = lutGet s (c.w 2) (activeBank s (c.w 2)) e := by
  intro es hes
  obtain ⟨-, -, -, hmask⟩ := id htaken
  have hn : c.w 2 < 8 := cmdWord_lt_of_masked hmask rfl
  have hv := taken_reports 0x0320 c s
  have hread : OnlyReports s (lutFetched c (takenState 0x0320 c s)).1 := hv.trans (fetchWords_reports ..)
  obtain ⟨⟨hret', hseal'⟩, hreh', hxa'⟩ := hv.lutFree (c.w 2)
  have hlen : es.length = c.w 4 := lutEntries_length _ _ (by simp [fetchWords]; omega)
  refine completesOk_of_body htaken rfl rfl (ltxLutWrite_puts halign hsome hrange
    ((hv.bulkBad ..).trans (bulkBad_eq_false hfits)) (hret'.trans hret) (hseal'.trans hseal) (hreh'.trans hreh) (hxa'.trans hxa) hes) ?_
  obtain ⟨hput, hkeep⟩ := lutPut_shadow (lutFetched c (takenState 0x0320 c s)).1 (first := c.w 3) (vs := es.map (toSigned 10 ·)) hn
    (by rw [List.length_map, hlen]; exact hrange)
  rw [hread.shadowBank hn] at hput hkeep
  rw [hread.activeBank hn] at hkeep
  rw [hread.shadowBank hn]
  refine ⟨fun k hk => ?_, fun e he => (hkeep e he).trans (hread.lutGet ..)⟩
  have hk' : k < es.length := hlen.symm ▸ hk
  rw [hput k (by rw [List.length_map]; exact hk'), List.getElem_map, List.getD_eq_getElem _ _ hk']

end Commands

/-- Settles O34: the swing steps, a burst ends, and the shadow table is written, read and cleared. -/
theorem transmitterCommandsComplete : Obligations.TransmitterCommandsComplete :=
  ⟨fun _ _ hruns hne hsince => swingStep_steps hruns hne hsince,
    fun _ _ h => runs_of_eq rfl rfl (trainingBurstEnd_shows h),
    fun _ _ htaken halign hsome hrange hfits hret hseal hreh hxa hes =>
      ltxLutWrite_completes htaken halign hsome hrange hfits hret hseal hreh hxa hes,
    fun _ _ htaken halign hsome hrange hfits hret => ltxLutRead_completes htaken halign hsome hrange hfits hret,
    fun _ _ htaken hret hseal hreh hxa => ltxLutClear_completes htaken hret hseal hreh hxa⟩

end Sys2Proof.Machine
end

section
/-! PROOFS. The memories and the security alarm (R359, R361, R362, R366, R418-R420). -/

namespace Sys2Proof.Machine

open Sys2Proof

set_option Elab.async false

/-! Reporting writes words of the memories, and no more. -/

theorem mem_natIns {bs : List Nat} {x : Nat} (a : Nat) (h : x ∈ bs) : x ∈ natIns bs a := by
  induction bs with
  | nil => cases h
  | cons b bs ih =>
    unfold natIns
    split_ifs
    · exact List.mem_cons_of_mem _ h
    · exact h
    · rcases List.mem_cons.1 h with rfl | h
      · exact List.mem_cons_self
      · exact List.mem_cons_of_mem _ (ih h)

theorem mem_natMerge (n : Nat) (as bs : List Nat) {x : Nat} (h : x ∈ as) : x ∈ natMerge n as bs := by
  induction n generalizing as bs with
  | zero =>
    cases as with
    | nil => cases h
    | cons a as =>
      cases bs
      · exact h
      · exact h
  | succ n ih =>
    cases as with
    | nil => cases h
    | cons a as =>
      cases bs with
      | nil => exact h
      | cons b bs =>
        have hrest : ∀ cs, x ∈ a :: natMerge n as cs := fun cs => by
          rcases List.mem_cons.1 h with rfl | h
          · exact List.mem_cons_self
          · exact List.mem_cons_of_mem _ (ih _ _ h)
        unfold natMerge
        split_ifs
        · exact hrest _
        · exact List.mem_cons_of_mem _ (ih _ _ h)
        · exact hrest _

/-- No remap of a bank has gone, and no word has lost its valid bit. -/
structure BankGrown (b b' : MemBank) : Prop where
  remaps : b'.remaps = b.remaps
  valid : ∀ a, a ∈ b.valid → a ∈ b'.valid

theorem BankGrown.trans {a b c : MemBank} (h : BankGrown a b) (g : BankGrown b c) : BankGrown a c :=
  ⟨g.remaps.trans h.remaps, fun k hk => g.valid k (h.valid k hk)⟩

/-- Words of a bank have been written since: their stored errors and poison bits are gone. -/
structure BankWritten (b b' : MemBank) : Prop extends BankGrown b b' where
  errs : ∀ a, aGet b.errs a = none → aGet b'.errs a = none
  poison : ∀ a, a ∈ b'.poison → a ∈ b.poison

theorem BankWritten.rfl' (b : MemBank) : BankWritten b b := ⟨⟨rfl, fun _ => id⟩, fun _ => id, fun _ => id⟩

theorem BankWritten.trans {a b c : MemBank} (h : BankWritten a b) (g : BankWritten b c) : BankWritten a c :=
  ⟨h.toBankGrown.trans g.toBankGrown, fun k hk => g.errs k (h.errs k hk), fun k hk => h.poison k (g.poison k hk)⟩

/-- Words of the memories have been written since. -/
structure MemWritten (s t : State) : Prop where
  bank : ∀ k, BankWritten (bankOf s k) (bankOf t k)

namespace MemWritten

variable {s t u : State}

theorem of_mem (h : t.mem = s.mem) : MemWritten s t := ⟨fun k => by rw [bankOf, bankOf, h]; exact .rfl' _⟩

theorem trans (h : MemWritten s t) (g : MemWritten t u) : MemWritten s u := ⟨fun k => (h.bank k).trans (g.bank k)⟩

/-- A step that leaves the memories goes before or after. -/
theorem of_start (h : MemWritten t u) (hm : t.mem = s.mem) : MemWritten s u := (of_mem hm).trans h

theorem to_end (h : MemWritten s t) (hm : u.mem = t.mem) : MemWritten s u := h.trans (of_mem hm)

theorem ite {c : Prop} [Decidable c] {a b : State} (ha : MemWritten s a) (hb : MemWritten s b) : MemWritten s (if c then a else b) := by
  split
  · exact ha
  · exact hb

end MemWritten

theorem bankOf_setBank_same (s : State) (b : MemBank) {k : Nat} (hk : k < 64) : bankOf (setBank s k b) k = b := vGet_vSet_same _ _ _ _ hk

theorem bankOf_setBank_other (s : State) (b : MemBank) {k j : Nat} (hne : j ≠ k) : bankOf (setBank s k b) j = bankOf s j :=
  vGet_vSet_other _ _ _ hne

theorem bankOf_setBank_beyond (s : State) (b : MemBank) {k : Nat} (hk : ¬ k < 64) : bankOf (setBank s k b) k = bankOf s k := by
  have hset : vSet s.mem.banks k b = s.mem.banks := Vector.ext fun i hi => by simp [vSet, Vector.getElem_setIfInBounds]; omega
  rw [bankOf, setBank, hset, ← bankOf]

theorem setBank_written {s : State} {k : Nat} {b : MemBank} (h : BankWritten (bankOf s k) b) : MemWritten s (setBank s k b) := by
  refine ⟨fun j => ?_⟩
  by_cases hj : j = k
  · subst hj
    by_cases hlt : j < 64
    · rw [bankOf_setBank_same _ _ hlt]
      exact h
    · rw [bankOf_setBank_beyond _ _ hlt]
      exact .rfl' _
  · rw [bankOf_setBank_other _ _ hj]
    exact .rfl' _

theorem aGet_filter_of_none {α : Type} {m : List (Nat × α)} {p : Nat × α → Bool} {k : Nat} (h : aGet m k = none) :
    aGet (m.filter p) k = none := by
  induction m with
  | nil => rfl
  | cons e m ih =>
    rw [aGet] at h
    split at h
    · cases h
    · next hne =>
      rw [List.filter_cons]
      split
      · rw [aGet, if_neg hne, ih h]
      · exact ih h

theorem aGet_aDel_of_none {α : Type} {m : List (Nat × α)} {k : Nat} (a : Nat) (h : aGet m k = none) : aGet (aDel m a) k = none := by
  by_cases hk : k = a
  · exact hk ▸ aGet_aDel_same m k
  · rw [aGet_aDel_other m hk, h]

theorem bankWritten_mem (s : State) (k a : Nat) : MemWritten s (bankWritten s k a) :=
  setBank_written ⟨⟨rfl, fun _ h => mem_natIns a h⟩, fun _ h => aGet_aDel_of_none a h, fun _ h => (List.mem_filter.1 h).1⟩

theorem bankWrittenAll_mem (s : State) (k : Nat) (as : List Nat) : MemWritten s (bankWrittenAll s k as) :=
  setBank_written ⟨⟨rfl, fun _ h => mem_natMerge _ _ _ h⟩, fun _ h => aGet_filter_of_none h, fun _ h => (List.mem_filter.1 h).1⟩

theorem putWords_mem (s : State) (a : Nat) (ws : List Nat) : MemWritten s (putWords s a ws) :=
  (bankWrittenAll_mem ..).of_start rfl

theorem pushEvent_mem (s : State) (ws : List Nat) : MemWritten s (pushEvent s ws) := (putWords_mem ..).to_end rfl

theorem bookWrite_mem (s : State) (kind w1 l d0 d1 count : Nat) : MemWritten s (bookWrite s kind w1 l d0 d1 count) :=
  (bankWrittenAll_mem ..).of_start rfl

theorem bookEvent_mem (s : State) (e : Ev) : MemWritten s (bookEvent s e) := by
  unfold bookEvent
  refine .ite ?_ (.of_mem rfl)
  split
  · exact bookWrite_mem ..
  · exact bookWrite_mem ..

theorem nextEvtSeq_mem (s : State) : MemWritten s (nextEvtSeq s) := .of_mem rfl

theorem wr_written (s : State) (f : Field) (v i j : Nat) : MemWritten s (wr s f v i j) := .of_mem rfl

theorem drainLost_mem (s : State) : MemWritten s (drainLost s) := by
  unfold drainLost
  split
  · exact (((pushEvent_mem ..).trans (nextEvtSeq_mem _)).trans (bookEvent_mem ..)).trans (wr_written ..)
  · exact .of_mem rfl

theorem raiseEvent_mem (s : State) (e : Ev) : MemWritten s (raiseEvent s e) := by
  unfold raiseEvent
  extract_lets +onlyGivenNames s0 s1
  have hs1 : MemWritten s0 s1 := .ite (pushEvent_mem ..) (.of_mem rfl)
  exact ((drainLost_mem s).trans hs1).trans ((bookEvent_mem ..).of_start rfl)

theorem curtain_mem (s : State) (trigger code l : Nat) (d1 : Option Nat) : MemWritten s (curtain s trigger code l d1) := by
  have hwrite := fun w => bookWrite_mem s 2 code l w (d1.getD ((s.book.nextSeq + 2 ^ 24 - sectionReach s.book) % 2 ^ 24)) 0
  unfold curtain
  extract_lets +onlyGivenNames reach seq first
  split
  · next k _ =>
    extract_lets +onlyGivenNames s1 _ s2 _ s3
    have hqueue : MemWritten s1 s3 := .ite (.of_mem rfl) (.of_mem rfl)
    exact ((hwrite _).trans hqueue).trans (raiseEvent_mem ..)
  · exact ((hwrite _).trans (wr_written ..)).trans (raiseEvent_mem ..)

theorem announceUncorr_mem {count : State → State} (h : ∀ s, MemWritten s (count s)) (s : State) (k a : Nat) (scrub : Bool) :
    MemWritten s (announceUncorr count s k a scrub) := by
  unfold announceUncorr
  extract_lets +onlyGivenNames s2 s3 s4
  have hinfo : MemWritten s2 s3 := .ite (.of_mem rfl) (.of_mem rfl)
  exact (((h s).trans hinfo).trans (raiseEvent_mem ..)).trans (curtain_mem ..)

theorem bumpRaw_mem (s : State) (i n : Nat) : MemWritten s (bumpRaw s i n) := by
  unfold bumpRaw
  split
  · exact .of_mem rfl
  · exact (bankWritten_mem ..).of_start rfl

theorem counterRestart_mem (s : State) (i : Nat) (found : Bool) : MemWritten s (counterRestart s i found) := .of_mem rfl

theorem bumpBy_mem (k : Nat) (s : State) (i n : Nat) : MemWritten s (bumpBy k s i n) := by
  induction k generalizing s i n with
  | zero => exact bumpRaw_mem ..
  | succ k ih =>
    unfold bumpBy
    split
    · exact bumpRaw_mem ..
    · exact (bumpRaw_mem ..).trans (ih ..)
    · exact ((counterRestart_mem ..).trans (bumpRaw_mem ..)).trans (ih ..)
    · exact ((counterRestart_mem ..).trans (bumpRaw_mem ..)).trans (announceUncorr_mem (fun t => ih t _ _) ..)

theorem bump_mem (s : State) (i n : Nat) : MemWritten s (bump s i n) := .ite (.of_mem rfl) (bumpBy_mem ..)

/-! Remaps (R362). -/

section Remap

variable {s t : State} {k a : Nat}

theorem MemWritten.wordErrs_zero (h : MemWritten s t) (hnone : aGet (bankOf s k).errs a = none) : wordErrs t k a = 0 := by
  rw [wordErrs, (h.bank k).errs a hnone]
  rfl

/-- A remap that is installed holds the word, without its stored errors. -/
theorem installRemap_done (s : State) (a : Nat) (command : Bool) (hk : k < 64) :
    remapped (installRemap s k a command) k a = true ∧ wordErrs (installRemap s k a command) k a = 0 := by
  unfold installRemap
  extract_lets +onlyGivenNames b s1 used s2
  have hbank : bankOf s1 k = { b with
      errs := aDel b.errs a
      remaps := b.remaps ++ [⟨a⟩]
      tracker := b.tracker.filter (·.addr != a) } := bankOf_setBank_same _ _ hk
  have hevents : MemWritten s1 (if used = 8 then raiseEvent s2 (ev 0x8A04 (locBank k) a) else s2) :=
    .ite ((raiseEvent_mem ..).trans (raiseEvent_mem ..)) (raiseEvent_mem ..)
  refine ⟨?_, hevents.wordErrs_zero (by rw [hbank]; exact aGet_aDel_same ..)⟩
  rw [remapped, (hevents.bank k).remaps, hbank]
  simp

/-- Reading a word that can be read writes at most words of counters. -/
theorem remapRead_mem (hpoison : a ∉ (bankOf s k).poison) (hread : eccDecode (wordErrs s k a) ≠ .uncorr) :
    MemWritten s (remapRead s k a) ∧ (remapRead s k a).mem.candidates = s.mem.candidates := by
  have hclear : isPoisoned s k a = false := by simp [isPoisoned, hpoison]
  unfold remapRead eccRead
  simp only [hclear, Bool.false_eq_true, if_false, Bool.not_false, Bool.and_true]
  split
  · exact ⟨.of_mem rfl, rfl⟩
  · split
    · exact ⟨.of_mem rfl, rfl⟩
    · rw [if_neg Bool.false_ne_true]
      exact ⟨bump_mem s 0x753 1, bump_mem_candidates ..⟩
    · rw [if_neg Bool.false_ne_true]
      exact ⟨bump_mem s 0x753 1, bump_mem_candidates ..⟩
    · next h => exact absurd h hread

theorem remapInstall_done {k : Fin 64} {c : Nat × Nat} (hc : s.mem.candidates.find? (·.1 == k.val) = some c)
    (hfull : remapFull s k = false) (hnot : remapped s k c.2 = false) (hpoison : c.2 ∉ (bankOf s k).poison)
    (hread : eccDecode (wordErrs s k c.2) ≠ .uncorr) :
    remapped (remapInstall k s) k c.2 = true ∧ wordErrs (remapInstall k s) k c.2 = 0 ∧ c ∉ (remapInstall k s).mem.candidates := by
  unfold remapInstall
  rw [hc]
  dsimp only
  generalize hu : ({ s with mem := { s.mem with candidates := s.mem.candidates.filter (· != c) } } : State) = u
  have hbanks : u.mem.banks = s.mem.banks := by rw [← hu]
  have hbank : bankOf u k = bankOf s k := by rw [bankOf, bankOf, hbanks]
  obtain ⟨hmem, hcand⟩ := remapRead_mem (s := u) (hbank.symm ▸ hpoison) (by rw [wordErrs, hbank, ← wordErrs]; exact hread)
  have hremaps : (bankOf (remapRead u k c.2) k).remaps = (bankOf s k).remaps := (hmem.bank k).remaps.trans (congrArg _ hbank)
  have hp : c.2 ∉ (bankOf (remapRead u k c.2) k).poison := fun h => hpoison (hbank ▸ (hmem.bank k).poison _ h)
  rw [if_neg ?free]
  case free =>
    rw [remapFull, remapped, hremaps, ← remapFull, ← remapped, hfull, hnot]
    simp [hp]
  obtain ⟨hdone, herrs⟩ := installRemap_done (remapRead u k c.2) c.2 false k.isLt
  refine ⟨hdone, herrs, ?_⟩
  have hkeep : (installRemap (remapRead u k c.2) k c.2 false).mem.candidates = (remapRead u k c.2).mem.candidates := by
    unfold installRemap
    extract_lets +onlyGivenNames b s1 used s2
    have hs2 : s2.mem.candidates = s1.mem.candidates := raiseEvent_mem_candidates ..
    split
    · exact (raiseEvent_mem_candidates ..).trans hs2
    · exact hs2
  rw [hkeep, hcand, ← hu]
  simp

end Remap

/-! Scrubbing (R359). -/

section Scrub

variable {s t : State} {k a : Nat}

theorem maskOf_succ (n : Nat) (f : Nat → Bool) : maskOf (n + 1) f = if f n then maskOf n f + 2 ^ n else maskOf n f := by
  rw [maskOf, List.range_succ, List.foldl_append]
  rfl

theorem maskOf_lt (n : Nat) (f : Nat → Bool) : maskOf n f < 2 ^ n := by
  induction n with
  | zero => exact Nat.one_pos
  | succ n ih =>
    rw [maskOf_succ, Nat.pow_succ]
    split <;> omega

theorem maskOf_testBit (n k : Nat) (f : Nat → Bool) : (maskOf n f).testBit k = (decide (k < n) && f k) := by
  induction n with
  | zero => simp [maskOf]
  | succ n ih =>
    have hlt := maskOf_lt n f
    rw [maskOf_succ]
    split
    · next hf =>
      rw [Nat.add_comm]
      rcases Nat.lt_trichotomy k n with hk | rfl | hk
      · rw [Nat.testBit_two_pow_add_gt hk, ih, decide_eq_true hk, decide_eq_true (by omega)]
      · rw [Nat.testBit_two_pow_add_eq, Nat.testBit_lt_two_pow hlt, decide_eq_true (by omega), hf]
        rfl
      · rw [decide_eq_false (by omega), Bool.false_and]
        refine Nat.testBit_lt_two_pow (Nat.lt_of_lt_of_le ?_ (Nat.pow_le_pow_right (by decide) hk))
        rw [Nat.pow_succ]
        omega
    · next hf =>
      rw [ih]
      by_cases hk : k < n
      · rw [decide_eq_true hk, decide_eq_true (by omega)]
      · by_cases he : k = n
        · subst he
          rw [Bool.not_eq_true] at hf
          rw [hf, Bool.and_false, Bool.and_false]
        · rw [decide_eq_false hk, decide_eq_false (by omega)]

/-- A pattern of two stored bits has those two. -/
theorem errBits_bitsMask {i j : Nat} (hij : i < j) (hj : j < 79) : errBits (bitsMask [i, j]) = [i, j] := by
  have hbit : ∀ q, (bitsMask [i, j]).getLsbD q = (decide (q < 79) && [i, j].contains q) := fun q => by
    rw [bitsMask, BitVec.getLsbD_ofNat, maskOf_testBit]
    cases decide (q < 79) <;> rfl
  have hsorted : (errBits (bitsMask [i, j])).Pairwise (· < ·) := List.pairwise_lt_range.filter _
  refine List.Perm.eq_of_pairwise (le := (· < ·)) (fun a b _ _ hab hba => absurd hab (Nat.lt_asymm hba)) hsorted (by simpa using hij) ?_
  refine (List.perm_ext_iff_of_nodup (List.nodup_range.filter _) (by simp; omega)).2 fun q => ?_
  simp only [errBits, whichBelow, List.mem_filter, List.mem_range, hbit]
  simp
  omega

theorem mem_pairsBelow {n : Nat} {p : Nat × Nat} (h : p ∈ pairsBelow n) : p.1 < p.2 ∧ p.2 < n := by
  simp only [pairsBelow, List.mem_flatMap, List.mem_map, List.mem_range] at h
  obtain ⟨b, hb, a, ha, rfl⟩ := h
  exact ⟨ha, hb⟩

/-- Two bits that the decoder names lie in the word, the lower one first. -/
theorem corr2_bits {m : BitVec 79} {i j : Nat} (h : eccDecode m = .corr2 i j) : i < j ∧ j < 79 := by
  unfold eccDecode at h
  split at h
  · cases h
  · cases h
  · next a b hbits =>
    cases h
    have hsorted : (errBits m).Pairwise (· < ·) := List.pairwise_lt_range.filter _
    have hmem : ∀ q ∈ errBits m, q < 79 := fun q hq => List.mem_range.1 (List.mem_filter.1 hq).1
    rw [hbits] at hsorted hmem
    exact ⟨by simpa using hsorted, hmem _ (by simp)⟩
  · cases h
  · extract_lets sy at h
    split at h
    · cases h
    · split at h
      · cases h
      · split at h
        · next p hp =>
          cases h
          exact mem_pairsBelow (List.mem_of_find?_eq_some hp)
        · cases h

theorem eccDecode_bitsMask {i j : Nat} (hij : i < j) (hj : j < 79) : eccDecode (bitsMask [i, j]) = .corr2 i j := by
  unfold eccDecode
  rw [errBits_bitsMask hij hj]

theorem bitsMask_ne_zero {i j : Nat} (hij : i < j) (hj : j < 79) : bitsMask [i, j] ≠ 0 := by
  intro h
  have hbits := errBits_bitsMask hij hj
  rw [h, show errBits 0 = [] by decide] at hbits
  cases hbits

theorem mem_ite {c : Prop} [Decidable c] {a b : State} {m : MemState} (ha : a.mem = m) (hb : b.mem = m) :
    (if c then a else b).mem = m := by
  split
  · exact ha
  · exact hb

theorem dataTurned_mem (s : State) (k a d : Nat) : (dataTurned s k a d).mem = s.mem := by
  unfold dataTurned
  refine mem_ite rfl (mem_ite ?_ (mem_ite rfl (mem_ite rfl (mem_ite rfl (mem_ite rfl (mem_ite rfl (mem_ite rfl (mem_ite rfl
    (mem_ite rfl rfl)))))))))
  split <;> rfl

/-- A word that is struck holds what the decoder sees of its errors; its poison bit stays. -/
theorem strike_word (s : State) (a : Nat) (upset : BitVec 79) (hk : k < 64) :
    wordErrs (strike s k a upset) k a = eccSeen (wordErrs s k a ^^^ upset) ∧
      (bankOf (strike s k a upset) k).poison = (bankOf s k).poison := by
  unfold strike
  extract_lets +onlyGivenNames e r _ s1
  have hbank : bankOf s1 k = { bankOf s k with
      errs := if r = 0 then aDel (bankOf s k).errs a else aSet (bankOf s k).errs a r } := bankOf_setBank_same _ _ hk
  have hword : wordErrs s1 k a = r := by
    rw [wordErrs, hbank]
    dsimp only
    split
    · next h => rw [aGet_aDel_same, h]; rfl
    · rw [aGet_aSet_same]; rfl
  have hpoison : (bankOf s1 k).poison = (bankOf s k).poison := by rw [hbank]
  split
  · exact ⟨hword, hpoison⟩
  · rw [wordErrs, bankOf, dataTurned_mem, ← bankOf, ← wordErrs]
    exact ⟨hword, hpoison⟩

theorem bankOf_untrack (s : State) (a : Nat) (hk : k < 64) :
    (bankOf (untrack s k a) k).errs = (bankOf s k).errs := by rw [untrack, setTracker, bankOf_setBank_same _ _ hk]

/-- Scrubbing a word with two errors writes it back, but for one whose write-back is abandoned. -/
theorem scrubRead_corr2 {i j : Nat} (a : Nat) (raced : Bool) (hk : k < 64) (hpoison : a ∉ (bankOf s k).poison)
    (h : wordErrs s k a = bitsMask [i, j]) (hij : i < j) (hj : j < 79) :
    wordErrs (scrubRead s k a raced) k a = if raced then bitsMask [i, j] else 0 := by
  have hclear : isPoisoned s k a = false := by simp [isPoisoned, hpoison]
  unfold scrubRead
  rw [if_neg (by simp [hclear]), h, eccDecode_bitsMask hij hj]
  dsimp only
  cases raced
  · simp only [Bool.false_eq_true, if_false]
    refine (bump_mem ..).wordErrs_zero ?_
    rw [bankOf_setBank_same _ _ hk]
    exact aGet_aDel_same ..
  · simp only [if_true]
    rw [wordErrs, bankOf_untrack _ _ hk, ← wordErrs, h]

/-- The scrubber's position and its record of what it saw aside, a bank is as it was. -/
structure ScrubKept (b b' : MemBank) : Prop where
  errs : b'.errs = b.errs
  poison : b'.poison = b.poison
  valid : b'.valid = b.valid

theorem passOver_kept (s : State) (a b : Nat) (hk : k < 64) : ScrubKept (bankOf s k) (bankOf (passOver s k a b) k) := by
  rw [passOver, setTracker, bankOf_setBank_same _ _ hk]
  exact ⟨rfl, rfl, rfl⟩

theorem scrubPassEnd_bank (s : State) (hk : k < 64) : bankOf (scrubPassEnd s k) k = { bankOf s k with
    scrubAt := 0
    passStart := s.time.tick } := bankOf_setBank_same _ _ hk

/-- The word that the scrubber comes to next. -/
def scrubbed (s : State) (k a : Nat) (upset : BitVec 79) (raced : Bool) : State :=
  let u := scrubRead (strike (passOver s k (bankOf s k).scrubAt a) k a upset) k a raced
  setBank u k { bankOf u k with scrubAt := a + 1 }

theorem scrubWord_some {k : Nat} {upset : BitVec 79} {raced : Bool} (hon : scrubs s = true)
    (ha : nextValid s k (bankOf s k).scrubAt = some a) : scrubWord k upset raced s =
      if (nextValid (scrubbed s k a upset raced) k (a + 1)).isNone then
        scrubPassEnd (passOver (scrubbed s k a upset raced) k (a + 1) (bankWords k)) k else scrubbed s k a upset raced := by
  unfold scrubWord
  rw [if_pos hon]
  dsimp only
  rw [ha]
  rfl

theorem wordValid_of_next (h : nextValid s k t0 = some a) : wordValid s k a = true := by
  unfold nextValid at h
  split at h
  · exact List.find?_some h
  · next hk =>
    obtain ⟨hlow, heleven⟩ := not_or.1 hk
    rw [wordValid, if_neg hlow, if_neg heleven]
    exact List.contains_iff_mem.2 (List.mem_of_find?_eq_some h)

theorem scrubbed_word {upset : BitVec 79} {raced : Bool} (hk : k < 64) (ha : nextValid s k (bankOf s k).scrubAt = some a)
    (hclear : isPoisoned s k a = false) {i j : Nat} (hcorr : eccDecode (wordErrs s k a ^^^ upset) = .corr2 i j) :
    wordErrs (scrubbed s k a upset raced) k a = if raced then bitsMask [i, j] else 0 := by
  have hover := passOver_kept s (bankOf s k).scrubAt a hk
  have hpoison : a ∉ (bankOf s k).poison := fun h => by
    rw [isPoisoned, wordValid_of_next ha, List.contains_iff_mem.2 h] at hclear
    cases hclear
  obtain ⟨hstruck, hstay⟩ := strike_word (passOver s k (bankOf s k).scrubAt a) a upset hk
  obtain ⟨hij, hj⟩ := corr2_bits hcorr
  have hbefore : wordErrs (passOver s k (bankOf s k).scrubAt a) k a = wordErrs s k a := by rw [wordErrs, hover.errs, ← wordErrs]
  rw [hbefore, eccSeen, hcorr] at hstruck
  rw [scrubbed, wordErrs, bankOf_setBank_same _ _ hk]
  exact scrubRead_corr2 a raced hk (by rw [hstay, hover.poison]; exact hpoison) hstruck hij hj

theorem scrubWord_reads {k : Fin 64} {upset : BitVec 79} {raced : Bool} (hon : scrubs s = true)
    (ha : nextValid s k (bankOf s k).scrubAt = some a) : Runs (.scrubWord k upset raced) s fun t =>
      ((bankOf t k).scrubAt = a + 1 ∨ (bankOf t k).scrubAt = 0) ∧
      (isPoisoned s k a = false → ∀ i j, eccDecode (wordErrs s k a ^^^ upset) = .corr2 i j →
        wordErrs t k a = if raced then bitsMask [i, j] else 0) := by
  refine runs_of_eq rfl (scrubWord_some hon ha) ?_
  split
  · refine ⟨.inr (by rw [scrubPassEnd_bank _ k.isLt]), fun hclear i j hcorr => ?_⟩
    rw [wordErrs, scrubPassEnd_bank _ k.isLt]
    dsimp only
    rw [(passOver_kept _ _ _ k.isLt).errs]
    exact scrubbed_word k.isLt ha hclear hcorr
  · exact ⟨.inl (by rw [scrubbed, bankOf_setBank_same _ _ k.isLt]), fun hclear i j hcorr => scrubbed_word k.isLt ha hclear hcorr⟩

theorem scrubWord_ends {k : Fin 64} {upset : BitVec 79} {raced : Bool} (hon : scrubs s = true)
    (hnone : nextValid s k (bankOf s k).scrubAt = none) : Runs (.scrubWord k upset raced) s fun t =>
      (bankOf t k).scrubAt = 0 ∧ (bankOf t k).passStart = s.time.tick := by
  have hstep : scrubWord k upset raced s = scrubPassEnd (passOver s k (bankOf s k).scrubAt (bankWords k)) k := by
    unfold scrubWord
    rw [if_pos hon]
    dsimp only
    rw [hnone]
  refine runs_of_eq rfl hstep ?_
  rw [scrubPassEnd_bank _ k.isLt]
  exact ⟨rfl, rfl⟩

end Scrub

/-! The commands on the memories. -/

section Commands

variable {s : State} {c : Cmd}

theorem OnlyReports.retained {v : State} (h : OnlyReports s v) (k : Nat) : Machine.retained v k = Machine.retained s k := by
  rw [Machine.retained, Machine.retained, h.power]

theorem offer_mem (s : State) (opcode : Nat) (c : Cmd) : MemWritten s (offer s opcode c) := by
  unfold offer
  split
  · exact .of_mem rfl
  · exact (putWords_mem ..).trans (wr_written ..)

theorem reportUncorr_grown (s : State) (k a : Nat) (scrub : Bool) (j : Nat) :
    BankGrown (bankOf s j) (bankOf (reportUncorr s k a scrub) j) := by
  unfold reportUncorr
  extract_lets +onlyGivenNames _ s0 _ s1
  have hpoisoned : BankGrown (bankOf s j) (bankOf s0 j) := by
    by_cases hj : j = k
    · subst hj
      by_cases hlt : j < 64
      · rw [bankOf_setBank_same _ _ hlt]
        exact ⟨rfl, fun _ => id⟩
      · rw [bankOf_setBank_beyond _ _ hlt]
        exact ⟨rfl, fun _ => id⟩
    · rw [bankOf_setBank_other _ _ hj]
      exact ⟨rfl, fun _ => id⟩
  have hwindow : MemWritten s0 s1 := .ite (.of_mem rfl) (.of_mem rfl)
  exact hpoisoned.trans ((hwindow.trans (announceUncorr_mem (fun t => bump_mem t _ _) ..)).bank j).toBankGrown

theorem eccRead_grown (s : State) (k a j : Nat) : BankGrown (bankOf s j) (bankOf (eccRead s k a).1 j) := by
  unfold eccRead
  split
  · exact ((bump_mem s 0x757 1).bank j).toBankGrown
  · split
    · exact ⟨rfl, fun _ => id⟩
    · split
      · exact ⟨rfl, fun _ => id⟩
      · exact ((bump_mem s 0x753 1).bank j).toBankGrown
      · exact ((bump_mem s 0x753 1).bank j).toBankGrown
      · exact reportUncorr_grown ..

theorem eccThrough_grown (k : Nat) (as : List Nat) (s : State) (j : Nat) : BankGrown (bankOf s j) (bankOf (eccThrough k as s) j) := by
  induction as generalizing s with
  | nil => exact ⟨rfl, fun _ => id⟩
  | cons a as ih => exact (eccRead_grown s k a j).trans (ih _)

theorem takenState_grown (s : State) (opcode : Nat) (c : Cmd) (j : Nat) : BankGrown (bankOf s j) (bankOf (takenState opcode c s) j) :=
  (((offer_mem s opcode c).bank j).toBankGrown.trans ((wr_written _ _ _ _ _).bank j).toBankGrown).trans (eccThrough_grown ..)

theorem memRemap_installs {v : State} (ha : c.w 3 < bankWords (c.w 2)) (hret : retained v (c.w 2) = false)
    (hfull : remapFull v (c.w 2) = false) (hnot : remapped v (c.w 2) (c.w 3) = false) :
    memRemap c v = (installRemap (remapRead v (c.w 2) (c.w 3)) (c.w 2) (c.w 3) true, .done stOK 0 0 0) := by
  unfold memRemap
  refine withChecks_pass (firstFail_none _ ?_)
  simp [ha, hret, hfull, hnot]

theorem memRemap_completes (htaken : Taken 0x0A01 [(2, 0x3F), (3, 0xFFFF)] c s) (ha : c.w 3 < bankWords (c.w 2))
    (hret : retained s (c.w 2) = false) (hfull : remapFull s (c.w 2) = false) (hnot : remapped s (c.w 2) (c.w 3) = false) :
    CompletesOk (.memRemap c) 0x0A01 c s 0 0 fun u =>
      remapped u (c.w 2) (c.w 3) = true ∧ wordErrs u (c.w 2) (c.w 3) = 0 := by
  obtain ⟨-, -, -, hmask⟩ := id htaken
  have hk : c.w 2 < 64 := cmdWord_lt_of_masked hmask rfl
  have hremaps := (takenState_grown s 0x0A01 c (c.w 2)).remaps
  refine completesOk_of_body htaken rfl rfl (memRemap_installs ha (((taken_reports ..).retained _).trans hret) ?_ ?_)
    (installRemap_done _ _ _ hk)
  · rw [remapFull, hremaps, ← remapFull, hfull]
  · rw [remapped, hremaps, ← remapped, hnot]

theorem memInject_strikes {v : State} (ha : c.w 3 < bankWords (c.w 2)) (hcount : c.w 4 ≠ 0) (hbit : c.w 5 ≤ 76) (hk : 12 ≤ c.w 2)
    (hvalid : wordValid v (c.w 2) (c.w 3) = true) (hret : retained v (c.w 2) = false) :
    memInject c v = (strike v (c.w 2) (c.w 3) (BitVec.ofNat 79 ((2 ^ c.w 4 - 1) * 2 ^ c.w 5)), .done stOK 0 0 0) := by
  unfold memInject
  refine withChecks_pass (firstFail_none _ ?_)
  simp [ha, hcount, hvalid, hret]
  omega

theorem wordValid_grown {v : State} {k a : Nat} (h : BankGrown (bankOf s k) (bankOf v k)) (hk : 12 ≤ k)
    (hvalid : wordValid s k a = true) : wordValid v k a = true := by
  unfold wordValid at hvalid ⊢
  rw [if_neg (by omega), if_neg (by omega)] at hvalid ⊢
  exact List.contains_iff_mem.2 (h.valid _ (List.contains_iff_mem.1 hvalid))

theorem memInject_completes (htaken : Taken 0x0A02 [(2, 0x3F), (3, 0xFFFF), (4, 3), (5, 0x7F)] c s) (hallowed : testAllowed s = true)
    (ha : c.w 3 < bankWords (c.w 2)) (hcount : c.w 4 ≠ 0) (hbit : c.w 5 ≤ 76) (hk : 12 ≤ c.w 2)
    (hvalid : wordValid s (c.w 2) (c.w 3) = true) (hret : retained s (c.w 2) = false) :
    let v := takenState 0x0A02 c s
    CompletesOk (.memInject c) 0x0A02 c s 0 0 fun u =>
      wordErrs u (c.w 2) (c.w 3) =
        eccSeen (wordErrs v (c.w 2) (c.w 3) ^^^ BitVec.ofNat 79 ((2 ^ c.w 4 - 1) * 2 ^ c.w 5)) := by
  intro v
  obtain ⟨-, -, -, hmask⟩ := id htaken
  have hlt : c.w 2 < 64 := cmdWord_lt_of_masked hmask rfl
  have hv : OnlyReports s v := taken_reports ..
  have hgate : testGate v = none := by
    rw [testGate, testAllowed, hv.sec, ← testAllowed, if_pos hallowed]
  exact completesOk_of_body htaken rfl hgate (memInject_strikes ha hcount hbit hk
    (wordValid_grown (takenState_grown ..) hk hvalid) ((hv.retained _).trans hret)) (strike_word _ _ _ hlt).1

end Commands

/-! The security alarm (R418-R420). -/

section Alarm

variable {s : State} {source : Nat}

/-- What an alarm asks for stands in its status; the pulse begins. -/
def alarmRaised (s : State) (source : Nat) : State :=
  let act := alarmAction s source
  let s1 := wr s F.SEC_ALARM_STATUS_SOURCES (rd s F.SEC_ALARM_STATUS_SOURCES ||| 2 ^ source)
  let s2 := wr s1 F.SEC_ALARM_STATUS_IN_FORCE (max act (rd s1 F.SEC_ALARM_STATUS_IN_FORCE))
  let s3 := curtain (raiseEvent s2 (ev 0x8C01 (locDie 3 0xFFF) (source + act * 2 ^ 4))) 5 0x8C01 (locDie 3 0xFFF)
  { s3 with sec := { s3.sec with pulse := some s3.time.tick } }

/-- What an alarm of an action does. -/
def alarmActs (act : Nat) (s : State) : State :=
  let s5 := if 1 ≤ act then alarmLock (lockOps s) else s
  let s6 := if 2 ≤ act then alarmZeroize s5 else s5
  if act = 3 then alarmScorch s6 else s6

theorem raiseAlarm_eq (s : State) (source : Nat) : raiseAlarm s source = alarmActs (alarmAction s source) (alarmRaised s source) := rfl

theorem alarmActs_kept (act : Nat) (s : State) : Within (keeping [.sec .pulse]
    (keysAt [(F.SEC_ALARM_STATUS_SOURCES, 0), (F.SEC_ALARM_STATUS_IN_FORCE, 0)] 0)) s (alarmActs act s) := by
  unfold alarmActs
  extract_lets +onlyGivenNames s5 s6
  have hlock : Within (keeping [.sec .pulse] (keysAt [(F.SEC_ALARM_STATUS_SOURCES, 0), (F.SEC_ALARM_STATUS_IN_FORCE, 0)] 0)) s s5 :=
    .ite (((Within.rfl' _ s).lockOps keeping_allows).alarmLock keeping_allows) (.rfl' _ s)
  have hzero : Within (keeping [.sec .pulse] (keysAt [(F.SEC_ALARM_STATUS_SOURCES, 0), (F.SEC_ALARM_STATUS_IN_FORCE, 0)] 0)) s s6 :=
    .ite (hlock.alarmZeroize keeping_allows) hlock
  exact .ite (hzero.alarmScorch keeping_allows) hzero

theorem alarmZeroize_shows (s : State) : (alarmZeroize s).sec.zeroized = true ∧ (alarmZeroize s).sec.session = false ∧
    (alarmZeroize s).aside.keys = Vector.replicate 4 none := by
  unfold alarmZeroize endSession
  split
  · rw [authChange, (raiseEvent_reports ..).sec, (raiseEvent_reports ..).aside]
    exact ⟨rfl, rfl, rfl⟩
  · next hno => exact ⟨rfl, Bool.not_eq_true _ ▸ hno, rfl⟩

/-- Each action does what the ones below it do, and more (R419). -/
theorem alarmActs_shows (act : Nat) (s : State) :
    (1 ≤ act → (alarmActs act s).sec.locked = true ∧ (alarmActs act s).sec.update = none) ∧
    (2 ≤ act → (alarmActs act s).sec.zeroized = true ∧ (alarmActs act s).sec.session = false ∧
      (alarmActs act s).aside.keys = Vector.replicate 4 none) ∧
    (act = 3 → (alarmActs act s).sec.otp.scorched = true) := by
  unfold alarmActs
  extract_lets +onlyGivenNames s5 s6
  have hscorch : Within (keeping [.aside .keys, .sec .locked, .sec .update, .sec .zeroized, .sec .session] []) s6
      (if act = 3 then alarmScorch s6 else s6) := .ite ((Within.rfl' _ s6).alarmScorch keeping_allows) (.rfl' _ s6)
  have hzero : Within (keeping [.sec .locked, .sec .update] []) s5 s6 :=
    .ite ((Within.rfl' _ s5).alarmZeroize keeping_allows) (.rfl' _ s5)
  refine ⟨fun hlock => ?_, fun hzeroize => ?_, fun hthree => by rw [if_pos hthree]; rfl⟩
  · have hs5 : s5 = alarmLock (lockOps s) := if_pos hlock
    rw [hscorch.kept (.sec .locked), hscorch.kept (.sec .update), hzero.kept (.sec .locked), hzero.kept (.sec .update), hs5]
    exact ⟨rfl, rfl⟩
  · have hs6 : s6 = alarmZeroize s5 := if_pos hzeroize
    rw [hscorch.kept (.sec .zeroized), hscorch.kept (.sec .session), hscorch.kept (.aside .keys), hs6]
    exact alarmZeroize_shows s5

theorem testBit_or_two_pow_mod {x k w : Nat} (hk : k < w) : ((x ||| 2 ^ k) % 2 ^ w).testBit k = true := by
  rw [Nat.testBit_mod_two_pow, Nat.testBit_or, Nat.testBit_two_pow_self]
  simp [hk]

theorem alarmAction_lt (s : State) (source : Nat) : alarmAction s source < 4 := by
  unfold alarmAction
  split <;> exact rd_lt ..

theorem raiseAlarm_shows (hsource : source < 5) : let act := alarmAction s source
    (rd (raiseAlarm s source) F.SEC_ALARM_STATUS_SOURCES).testBit source = true ∧
    rd (raiseAlarm s source) F.SEC_ALARM_STATUS_IN_FORCE = max act (rd s F.SEC_ALARM_STATUS_IN_FORCE) ∧
    (raiseAlarm s source).sec.pulse = some s.time.tick ∧
    (1 ≤ act → (raiseAlarm s source).sec.locked = true ∧ (raiseAlarm s source).sec.update = none) ∧
    (2 ≤ act → (raiseAlarm s source).sec.zeroized = true ∧ (raiseAlarm s source).sec.session = false ∧
      ∀ k : Fin 4, vGet (raiseAlarm s source).aside.keys k none = none) ∧
    (act = 3 → (raiseAlarm s source).sec.otp.scorched = true) := by
  intro act
  have hkept := alarmActs_kept act (alarmRaised s source)
  obtain ⟨hlock, hzero, hscorch⟩ := alarmActs_shows act (alarmRaised s source)
  have hforce : rd s F.SEC_ALARM_STATUS_IN_FORCE < 2 ^ 2 := rd_lt ..
  have hact : act < 4 := alarmAction_lt s source
  rw [raiseAlarm_eq]
  refine ⟨?_, ?_, (hkept.kept (.sec .pulse)).trans ?_, hlock, fun h => ?_, hscorch⟩
  · rw [hkept.rd_keysAt Nat.one_pos]
    refine Eq.trans (congrArg (Nat.testBit · source) ?_) (testBit_or_two_pow_mod (x := rd s F.SEC_ALARM_STATUS_SOURCES) hsource)
    exact ((curtain_reports ..).rd_clear Nat.one_pos).trans (((raiseEvent_reports ..).rd_clear Nat.one_pos).trans
      ((rd_wr_apart ..).trans (rd_wr_same ..)))
  · rw [hkept.rd_keysAt Nat.one_pos]
    refine ((curtain_reports ..).rd_clear Nat.one_pos).trans (((raiseEvent_reports ..).rd_clear Nat.one_pos).trans
      ((rd_wr_same ..).trans ?_))
    rw [rd_wr_apart]
    refine Nat.mod_eq_of_lt ?_
    change max act _ < 2 ^ 2
    omega
  · exact congrArg (fun x : TimeState => some x.tick) ((curtain_reports ..).time.trans (raiseEvent_reports ..).time)
  · obtain ⟨hz, hs, hkeys⟩ := hzero h
    exact ⟨hz, hs, fun k => by rw [hkeys, vGet]; simp⟩

end Alarm

/-- Settles O48: remaps are installed, words scrubbed and struck, and the security alarm acts. -/
theorem memoryAndAlarmCommandsComplete : Obligations.MemoryAndAlarmCommandsComplete :=
  ⟨fun _ _ _ hc hfull hnot hpoison hread => runs_of_eq rfl rfl (remapInstall_done hc hfull hnot hpoison hread),
    fun _ _ _ _ hoff => runs_of_eq rfl (if_neg (by simp [hoff])) rfl,
    fun _ _ _ _ hon hnone => scrubWord_ends hon hnone, fun _ _ _ _ _ hon ha => scrubWord_reads hon ha,
    fun _ _ htaken ha hret hfull hnot => memRemap_completes htaken ha hret hfull hnot,
    fun _ _ htaken hallowed ha hcount hbit hk hvalid hret => memInject_completes htaken hallowed ha hcount hbit hk hvalid hret,
    fun s _ _ hglitch hup => by
      rcases hglitch with ⟨rfl, rfl⟩ | ⟨rfl, rfl⟩
      · exact runs_of_eq rfl (if_pos hup) (raiseAlarm_shows (by decide))
      · exact runs_of_eq rfl (if_pos hup) (raiseAlarm_shows (by decide)),
    fun _ hpulse hsince => runs_of_eq rfl (if_pos ⟨hpulse, hsince⟩) rfl⟩

end Sys2Proof.Machine
end

section
/-! PROOFS. The transmit chain of a line lane (R97-R101, R106-R108). -/

namespace Sys2Proof.Machine

open Sys2Proof

set_option Elab.async false

/-! What a lane has sent. -/

section Record

variable {s : State} {l : LaneId} {n : Fin 8}

theorem satI_seven (c : Int) : satI 7 c = clampI (-64) 63 c := rfl

theorem clampI_bounds (c : Int) : -64 ≤ clampI (-64) 63 c ∧ clampI (-64) 63 c ≤ 63 := by
  simp only [clampI]
  omega

/-- The symbol in the middle of a window, and the lookup entry that the window reads. -/
def midOf (w : List TxSym) : TxSym := (w[8]?).getD ⟨none, 0, 0⟩

def tableRead (s : State) (n : Fin 8) (w : List TxSym) : State := (lutIndex w).elim s fun e => lutRead s n (midOf w).bank [lutWord e]

/-- The code of a window, before it saturates. -/
def lineCode (s : State) (n : Fin 8) (w : List TxSym) : Int :=
  roundConv (firOut s n w + (lutIndex w).elim 0 (lutGet (tableRead s n w) n (midOf w).bank) + (midOf w).aside) 16

theorem lineConvert_eq {w : List TxSym} (hw : (txRec s (.line n)).window = w) : lineConvert s n = setTxRec
    (if satHit 7 (lineCode s n w) then bump (tableRead s n w) (cntLine n 6) 1 else tableRead s n w) (.line n)
    { txRec s (.line n) with out := (txRec s (.line n)).out ++ [satI 7 (lineCode s n w)] } := by
  subst hw
  rfl

theorem lineConvert_rec {w : List TxSym} (hw : (txRec s (.line n)).window = w) : txRec (lineConvert s n) (.line n) =
    { txRec s (.line n) with out := (txRec s (.line n)).out ++ [clampI (-64) 63 (lineCode s n w)] } := by
  rw [lineConvert_eq hw, txRec_setTxRec, satI_seven]

end Record

/-! The middle symbol and its neighbours. -/

section Window

variable {s : State} {n : Fin 8} {v : Nat → Nat} {b : Nat} {a : Nat → Int}

/-- A window of values sent from one bank. -/
def valueWindow (v : Nat → Nat) (b : Nat) (a : Nat → Int) : List TxSym := (List.range 17).map fun k => ⟨some (v k), b, a k⟩

theorem valueWindow_get {k : Nat} (hk : k < 17) : (valueWindow v b a)[k]? = some ⟨some (v k), b, a k⟩ := by
  simp [valueWindow, hk]

/-- The entry's number is made of the eight values about the middle. -/
def lutEntry (v : Nat → Nat) : Nat := (List.range 8).foldl (fun x k => 4 * x + v (11 - k)) 0

theorem lutIndex_valueWindow : lutIndex (valueWindow v b a) = some (lutEntry v) := rfl

theorem levelIn_valueWindow {k : Nat} (hk : k < 17) : levelIn (valueWindow v b a) k = levelOf (v k) := by
  rw [levelIn, valueWindow_get hk]
  rfl

theorem firOut_valueWindow (hmain : rdE s F.LTX_CTRL_MAIN n ≤ 8) : firOut s n (valueWindow v b a) =
    ((List.range 9).map fun j => rdEI s F.LTX_FIR_j_TAP n j * levelOf (v (8 + j - rdE s F.LTX_CTRL_MAIN n))).sum := by
  unfold firOut
  rw [valueWindow_get (by decide), if_neg (by simp)]
  refine congrArg List.sum (List.map_congr_left fun j hj => ?_)
  have hj' := List.mem_range.1 hj
  rw [levelIn_valueWindow (by omega)]

theorem lineConvert_values (hmain : rdE s F.LTX_CTRL_MAIN n ≤ 8)
    (hw : (txRec s (.line n)).window = (List.range 17).map (fun k => ⟨some (v k), b, a k⟩)) :
    let u := ((List.range 9).map fun j => rdEI s F.LTX_FIR_j_TAP n j * levelOf (v (8 + j - rdE s F.LTX_CTRL_MAIN n))).sum
    let e := (List.range 8).foldl (fun x k => 4 * x + v (11 - k)) 0
    let p := lutGet (lutRead s n b [lutWord e]) n b e
    let c := roundConv (u + p + a 8) 16
    (txRec (lineConvert s n) (.line n)).out = (txRec s (.line n)).out ++ [clampI (-64) 63 c] ∧
      ((c < -64 ∨ 63 < c) → lineConvert s n = setTxRec (bump (lutRead s n b [lutWord e]) (cntLine n 6) 1) (.line n)
        { txRec s (.line n) with out := (txRec s (.line n)).out ++ [clampI (-64) 63 c] }) := by
  intro u e p c
  have hcode : lineCode s n (valueWindow v b a) = c := by
    rw [lineCode, firOut_valueWindow hmain]
    rfl
  refine ⟨by rw [lineConvert_rec hw, ← hcode]; rfl, fun hout => ?_⟩
  have hhit : satHit 7 (lineCode s n (valueWindow v b a)) = true := by
    rw [hcode, satHit, satI_seven, bne_iff_ne]
    simp only [clampI]
    omega
  rw [lineConvert_eq (w := valueWindow v b a) hw, if_pos hhit, hcode, satI_seven]
  rfl

theorem lutIndex_none {w : List TxSym} {x : TxSym} (h : w[8]? = some x) (hx : x.value = none) : lutIndex w = none := by
  have hmem : x ∈ ((w.drop 4).take 8).reverse := by
    rw [List.mem_reverse, List.mem_iff_getElem?]
    exact ⟨4, by rw [List.getElem?_take_of_lt (by decide), List.getElem?_drop]; exact h⟩
  have hfold : ∀ (ys : List TxSym) (o : Option Nat), (o = none ∨ x ∈ ys) →
      ys.foldl (fun a x => match a, x.value with
        | some i, some v => some (4 * i + v)
        | _, _ => none) o = none := by
    intro ys
    induction ys with
    | nil => exact fun o h => h.elim id fun h => nomatch h
    | cons y ys ih =>
      intro o h
      refine ih _ ?_
      rcases h with rfl | h
      · exact .inl rfl
      · rcases List.mem_cons.1 h with rfl | h
        · exact .inl (by cases o <;> simp only [hx])
        · exact .inr h
  exact hfold _ _ (.inr hmem)

theorem lineConvert_idle {b : Nat} {a : Int} (h : (txRec s (.line n)).window[8]? = some ⟨none, b, a⟩) :
    (txRec (lineConvert s n) (.line n)).out = (txRec s (.line n)).out ++ [clampI (-64) 63 (roundConv a 16)] := by
  have hcode : lineCode s n (txRec s (.line n)).window = roundConv a 16 := by
    rw [lineCode, midOf, firOut, h, lutIndex_none h rfl]
    simp
  rw [lineConvert_rec rfl, hcode]

end Window

/-! Symbols that a lane sends. -/

section Sending

variable {s : State} {l : LaneId}

/-- A push puts the symbol first and gives the converter at most a code of its own; the precoder stays. -/
structure Pushed (l : LaneId) (v : Option Nat) (x y : TxRec) : Prop where
  pre : y.pre = x.pre
  window : ∃ z : TxSym, z.value = v ∧ y.window = (z :: x.window).take 17
  out : ∃ cs, y.out = x.out ++ cs ∧ (l.isLine = true → ∀ c ∈ cs, -64 ≤ c ∧ c ≤ 63)

theorem txPush_pushes (s : State) (l : LaneId) (bank : Nat) (v : Option Nat) : Pushed l v (txRec s l) (txRec (txPush s l bank v) l) := by
  unfold txPush
  extract_lets +onlyGivenNames x y s1
  have hs1 : txRec s1 l = { x with
      window := (y :: x.window).take 17
      count := x.count + 1 } := txRec_setTxRec ..
  split
  · rw [hs1]
    exact ⟨rfl, ⟨y, rfl, rfl⟩, [], (List.append_nil _).symm, fun _ _ h => nomatch h⟩
  · cases l with
    | line n =>
      rw [lineConvert_rec rfl, hs1]
      exact ⟨rfl, ⟨y, rfl, rfl⟩, _, rfl, fun _ c hc => List.mem_singleton.1 hc ▸ clampI_bounds _⟩
    | host n =>
      dsimp only [hostConvert]
      rw [txRec_setTxRec, hs1]
      exact ⟨rfl, ⟨y, rfl, rfl⟩, _, rfl, fun h => nomatch h⟩

/-- All codes of a record fit the converter. -/
def OutFits (x : TxRec) : Prop := ∀ c ∈ x.out, -64 ≤ c ∧ c ≤ 63

theorem Pushed.fits {n : Fin 8} {v : Option Nat} {x y : TxRec} (h : Pushed (.line n) v x y) (hx : OutFits x) : OutFits y := by
  obtain ⟨cs, hout, hcs⟩ := h.out
  intro c hc
  rw [hout] at hc
  exact (List.mem_append.1 hc).elim (hx c) (hcs rfl c)

theorem txPushes_fits {n : Fin 8} {bank : Nat} (vs : List (Option Nat)) (h : OutFits (txRec s (.line n))) :
    OutFits (txRec (vs.foldl (fun t v => txPush t (.line n) bank v) s) (.line n)) := by
  induction vs generalizing s with
  | nil => exact h
  | cons v vs ih => exact ih ((txPush_pushes ..).fits h)

theorem txSend_pushes (s : State) (l : LaneId) (bank : Nat) (vs : List Nat) :
    txSend s l bank vs = setTxRec ((vs.map some).foldl (fun t v => txPush t l bank v) s) l
      { txRec ((vs.map some).foldl (fun t v => txPush t l bank v) s) l with
        pre := (vs.getLast?).getD (txRec ((vs.map some).foldl (fun t v => txPush t l bank v) s) l).pre } := by
  rw [List.foldl_map]
  rfl

theorem txSend_fits {n : Fin 8} {bank : Nat} (vs : List Nat) (h : OutFits (txRec s (.line n))) :
    OutFits (txRec (txSend s (.line n) bank vs) (.line n)) := by
  rw [txSend_pushes, txRec_setTxRec]
  exact txPushes_fits (vs.map some) h

theorem txSend_last {bank v : Nat} {vs : List Nat} (h : vs.getLast? = some v) :
    (txRec (txSend s l bank vs) l).pre = v ∧ ((txRec (txSend s l bank vs) l).window[0]?).bind (·.value) = some v := by
  obtain ⟨init, rfl⟩ : ∃ init, vs = init ++ [v] := List.getLast?_eq_some_iff.1 h
  rw [txSend_pushes, txRec_setTxRec, List.map_append, List.foldl_append]
  refine ⟨by simp, ?_⟩
  obtain ⟨z, hz, hwindow⟩ := (txPush_pushes ((init.map some).foldl (fun t v => txPush t l bank v) s) l bank (some v)).window
  rw [List.map_cons, List.map_nil, List.foldl_cons, List.foldl_nil]
  dsimp only
  rw [hwindow, List.take_succ_cons]
  simpa using hz

/-- A lane that sends starts its codes anew. -/
def sendStart (s : State) (l : LaneId) : State := setTxRec s l { txRec s l with out := [] }

theorem sendStart_rec (s : State) (l : LaneId) : txRec (sendStart s l) l = { txRec s l with out := [] } := txRec_setTxRec ..

theorem burstRun_out (l : LaneId) (x : TxRec) (n : Nat) : (burstRun l x n).2.out = x.out := rfl

theorem patternRun_out (s : State) (l : LaneId) (x : TxRec) (n : Nat) : (patternRun s l x n).2.out = x.out := by
  unfold patternRun
  extract_lets +onlyGivenNames k
  split
  · rfl
  · split
    · rfl
    · rfl

/-- A lane at electrical idle sends nothing, symbol by symbol. -/
def idleRun (l : LaneId) (bank : Nat) (s : State) (k : Nat) : State := (List.range k).foldl (fun t _ => txPush t l bank none) s

theorem idleRun_succ (l : LaneId) (bank : Nat) (s : State) (k : Nat) :
    idleRun l bank s (k + 1) = txPush (idleRun l bank s k) l bank none := by
  rw [idleRun, List.range_succ, List.foldl_append]
  rfl

theorem idleRun_fits {n : Fin 8} {bank : Nat} (k : Nat) (h : OutFits (txRec s (.line n))) :
    OutFits (txRec (idleRun (.line n) bank s k) (.line n)) := by
  induction k with
  | zero => exact h
  | succ k ih => exact idleRun_succ .. ▸ (txPush_pushes ..).fits ih

theorem idleRun_pre (l : LaneId) (bank : Nat) (s : State) (k : Nat) : (txRec (idleRun l bank s k) l).pre = (txRec s l).pre := by
  induction k with
  | zero => rfl
  | succ k ih => rw [idleRun_succ, (txPush_pushes ..).pre, ih]

theorem idleRun_window (l : LaneId) (bank : Nat) (s : State) {k q : Nat} (hq : q < k) (h17 : q < 17) :
    ((txRec (idleRun l bank s k) l).window[q]?).bind (·.value) = none := by
  induction k generalizing q with
  | zero => cases hq
  | succ k ih =>
    obtain ⟨z, hz, hwindow⟩ := (txPush_pushes (idleRun l bank s k) l bank none).window
    rw [idleRun_succ, hwindow, List.getElem?_take_of_lt h17]
    cases q with
    | zero => exact hz
    | succ q => exact ih (Nat.lt_of_succ_lt_succ hq) (Nat.lt_of_succ_lt h17)

theorem sendBurst_fits {n : Fin 8} (bank k : Nat) (h : OutFits (txRec s (.line n))) : OutFits (txRec (sendBurst s (.line n) bank k) (.line n)) := by
  refine txSend_fits _ ?_
  rw [txRec_setTxRec]
  exact h

theorem laneSend_fits {n : Fin 8} {b k : Nat} {d : Option (List Nat)} (hruns : laneRuns s (.line n) = true) :
    OutFits (txRec (laneSend s (.line n) b k d) (.line n)) := by
  have hstart : OutFits (txRec (sendStart s (.line n)) (.line n)) := by
    rw [sendStart_rec]
    exact fun _ h => nomatch h
  unfold laneSend
  rw [if_pos hruns]
  change OutFits (txRec (if txIdle s (.line n) then _ else _) _)
  split
  · exact idleRun_fits k hstart
  · split
    · exact sendBurst_fits b k hstart
    · split
      · refine txSend_fits _ ?_
        rw [txRec_setTxRec, OutFits, patternRun_out]
        exact hstart
      · split
        · refine txSend_fits _ ?_
          rw [txRec_setTxRec]
          exact hstart
        · exact hstart

theorem laneSend_idle {b k : Nat} {d : Option (List Nat)} (hruns : laneRuns s l = true) (hidle : txIdle s l = true) :
    laneSend s l b k d = idleRun l b (sendStart s l) k := by
  unfold laneSend
  rw [if_pos hruns]
  exact if_pos hidle

theorem laneSend_idles {b k : Nat} {d : Option (List Nat)} (hruns : laneRuns s l = true) (hidle : txIdle s l = true) :
    (txRec (laneSend s l b k d) l).pre = (txRec s l).pre ∧
      (∀ q, q < k → q < 17 → ((txRec (laneSend s l b k d) l).window[q]?).bind (·.value) = none) := by
  rw [laneSend_idle hruns hidle]
  exact ⟨by rw [idleRun_pre, sendStart_rec], fun q hq h17 => idleRun_window _ _ _ hq h17⟩

theorem laneSend_sends {b k v : Nat} {vs : List Nat} (hruns : laneRuns s l = true) (hidle : txIdle s l = false)
    (hburst : txBurst s l = false) (htpg : tpgEn s l = false)
    (hlast : (precodeRun (txPrecode s l) (txRec s l).pre (slipData (txRec s l).slip vs).1).getLast? = some v) :
    (txRec (laneSend s l b k (some vs)) l).pre = v ∧
      ((txRec (laneSend s l b k (some vs)) l).window[0]?).bind (·.value) = some v := by
  have hstep : laneSend s l b k (some vs) = txSend (setTxRec (sendStart s l) l { txRec (sendStart s l) l with
      slip := (slipData (txRec (sendStart s l) l).slip vs).2 }) l b
      (precodeRun (txPrecode s l) (txRec (sendStart s l) l).pre (slipData (txRec (sendStart s l) l).slip vs).1) := by
    unfold laneSend
    simp only [hruns, hidle, hburst, htpg, if_true, Bool.false_eq_true, if_false]
    rfl
  rw [sendStart_rec] at hstep
  rw [hstep]
  exact txSend_last hlast

theorem trainingBurstEnd_sends {v : Nat} (h : txBurst s l = true)
    (hlast : (burstRun l (txRec s l) (burstSymbols s l - (txRec s l).burst)).1.getLast? = some v) :
    (txRec (trainingBurstEnd l s) l).pre = v := by
  have hrec : ∀ bank, (txRec (sendBurst s l bank (burstSymbols s l)) l).pre = v := fun bank => by
    dsimp only [sendBurst]
    rw [Nat.min_eq_right (Nat.sub_le ..)]
    exact (txSend_last hlast).1
  unfold trainingBurstEnd
  rw [if_pos h]
  extract_lets +onlyGivenNames bank s1
  have hlanes : ∀ t : State, t.lanes = s1.lanes → (txRec t l).pre = v := fun t ht => by
    rw [← hrec bank]
    cases l with
    | line n => rw [txRec, ht]; rfl
    | host n => rw [txRec, ht]; rfl
  refine hlanes _ ((raiseEvent_reports ..).lanes.trans ?_)
  have hwithin : Within (keeping Part.lanes.pieces []) s1 (setTx s1 l false false) :=
    (Within.rfl' _ s1).setTx keeping_allows keeping_wide.opens keeping_wide.opens
  exact hwithin.keptPart

end Sending

theorem burstSymbols_line (s : State) (n : Fin 8) : burstSymbols s (.line n) =
    if halfRate s then (if innerCode s then 225792 else 212736) else if innerCode s then 451584 else 425216 := by
  unfold burstSymbols
  simp only [LaneId.isLine, blockSymbols, Bool.not_true, Bool.false_eq_true, if_false, if_true]
  split_ifs <;> rfl

/-- Settles O60: the transmit chain converts what its precoder sends, at the burst's lengths. -/
theorem transmitChainConverts : Obligations.TransmitChainConverts :=
  ⟨fun _ _ _ _ _ _ hmain hw => lineConvert_values hmain hw, fun _ _ _ _ h => lineConvert_idle h,
    fun _ _ _ _ _ hruns => laneSend_fits hruns, fun _ _ _ _ _ hruns hidle => laneSend_idles hruns hidle,
    fun _ _ _ _ _ _ hruns hidle hburst htpg hlast => laneSend_sends hruns hidle hburst htpg hlast,
    fun _ _ _ h hlast => runs_of_eq rfl rfl ⟨trainingBurstEnd_sends h hlast, trainingBurstEnd_shows h⟩,
    burstSymbols_line⟩

end Sys2Proof.Machine
end

section
/-! PROOFS. The error-correction pools' commands (R130-R133, R142, R144), while Mexis restarts. -/

namespace Sys2Proof.Machine

open Sys2Proof

set_option Elab.async false

/-- Mexis restarts while a FEC_UNFENCE of member 0 is in progress. -/
def unfenceRestarting : State :=
  let s := wr State.reset F.RING_STATUS_RESTARTING 1
  { s with mgmt := { s.mgmt with inProgress := [⟨0, 0x0241, false, 0, 0⟩] } }

/-- The test's command ends, but holds its place until Mexis has restarted (completeProg). -/
theorem unfenceRestarting_holds : (unfenceTestEnd .tx false unfenceRestarting).mgmt.inProgress = [⟨0, 0x0241, false, endedKey, 0⟩] := by
  rfl

/-- Refutes O40: while Mexis restarts, a FEC_UNFENCE whose test ends stays among the commands in progress, under the key of those
that have ended, so their number does not fall. -/
theorem not_poolCommandsComplete : ¬ Obligations.PoolCommandsComplete := by
  unfold Obligations.PoolCommandsComplete
  intro ⟨_, _, _, _, htest, _⟩
  obtain ⟨-, hfails⟩ := htest unfenceRestarting .tx ⟨0, 0x0241, false, 0, 0⟩ (by decide)
  obtain ⟨t, hexec, -, hfewer⟩ := hfails
  obtain rfl : unfenceTestEnd .tx false unfenceRestarting = t := Host.Outcome.next.inj hexec
  rw [unfenceRestarting_holds] at hfewer
  exact absurd hfewer (by decide)

end Sys2Proof.Machine
end

section
/-! PROOFS. Fields that a later step keeps at every index. -/

namespace Sys2Proof.Machine

open Sys2Proof

set_option Elab.async false

/-- The keys of fields at all their first indices, each at a second index. -/
def keysOf (gs : List (Field × Nat)) : List Nat := gs.flatMap fun g => (List.range g.1.place.count1).map fun i => g.1.key i g.2

section KeepingAll

variable {ps : List Piece} {fs : List Field} {gs : List (Field × Nat)} {k i j n : Nat} {s t : State}

theorem mem_keysOf_iff : k ∈ keysOf gs ↔ ∃ i, ∃ g ∈ gs, i < g.1.place.count1 ∧ g.1.key i g.2 = k := by
  simp only [keysOf, List.mem_flatMap, List.mem_map, List.mem_range]
  exact ⟨fun ⟨g, hg, i, hi, hk⟩ => ⟨i, g, hg, hi, hk⟩, fun ⟨i, g, hg, hi, hk⟩ => ⟨g, hg, i, hi, hk⟩⟩

theorem keysOf_opens (h : FieldsApart n fs gs := by decide +kernel) : (keeping ps (keysOf gs)).Opens fs n := by
  intro k hk
  refine keeping_openAt fun f hf j hj hmem => ?_
  obtain ⟨i, g, hg, hi, heq⟩ := mem_keysOf_iff.1 hmem
  obtain ⟨hn, hapart⟩ := h f hf
  obtain ⟨hkeys, hne⟩ := hapart j (by omega) g hg
  exact hne (sameKeySameSlot_of_apart hkeys k i (hk.trans_le hn) hi heq.symm)

theorem keysOf_zero (h : FieldsApart 1 fs gs := by decide +kernel) : (keeping ps (keysOf gs)).OpenAt fs 0 :=
  keysOf_opens h 0 Nat.one_pos

theorem keysOf_any (h : fieldsNever fs gs = true := by decide +kernel) (a : Nat) : (keeping ps (keysOf gs)).OpenAt fs a := by
  refine keeping_openAt fun f hf j hj hmem => ?_
  obtain ⟨i, g, hg, hi, heq⟩ := mem_keysOf_iff.1 hmem
  have hall := List.all_eq_true.1 h f hf
  have hnever := List.all_eq_true.1 (List.all_eq_true.1 hall j (List.mem_range.2 (by omega))) g hg
  exact key_ne_of_never hnever a hi heq.symm

/-- A field that is kept at every index reads as before at each. -/
theorem Within.rd_keysOf (h : Within (keeping ps (keysOf gs)) s t) {g : Field} (hi : i < g.place.count1)
    (hg : (g, j) ∈ gs ∧ g.Clear j := by decide) : rd t g i j = rd s g i j :=
  h.rd_kept (mem_keysOf_iff.2 ⟨i, (g, j), hg.1, hi, rfl⟩) (hg.2.key hi)

end KeepingAll

/-! A counter that another's count leaves (R289, R290). -/

section Counters

variable {s : State}

/-- A choice between two states that both have these counters. -/
theorem counters_ite {c : Prop} [Decidable c] {a b : State} {m : List (Nat × Nat)} (ha : a.obs.counters = m) (hb : b.obs.counters = m) :
    (if c then a else b).obs.counters = m := by
  split
  · exact ha
  · exact hb

theorem curtain_counters (s : State) (trigger code l : Nat) (d1 : Option Nat) :
    (curtain s trigger code l d1).obs.counters = s.obs.counters := by
  unfold curtain
  extract_lets +onlyGivenNames reach seq first
  split
  · extract_lets +onlyGivenNames s1 _ s2 _ s3
    have hs3 : s3.obs.counters = s2.obs.counters := counters_ite rfl rfl
    exact (congrArg (·.counters) (raiseEvent_obs ..)).trans hs3
  · exact congrArg (·.counters) (raiseEvent_obs ..)

theorem counter_set {i j v : Nat} (h : i ≠ j) (s t : State) (ht : t.obs.counters = aSet s.obs.counters j v) : counter t i = counter s i := by
  rw [counter, counter, ht, aGet_aSet_other _ _ h]

theorem counter_of_counters {t : State} (h : t.obs.counters = s.obs.counters) (i : Nat) : counter t i = counter s i := by
  rw [counter, counter, h]

theorem counter_bumpRaw_other {i j n : Nat} (h : i ≠ j) : counter (bumpRaw s j n) i = counter s i := by
  unfold bumpRaw
  split
  · rfl
  · exact counter_set h s _ rfl

theorem counter_restart_other {i j : Nat} {found : Bool} (h : i ≠ j) : counter (counterRestart s j found) i = counter s i :=
  counter_set h s _ rfl

theorem announceUncorr_counters (count : State → State) (s : State) (k a : Nat) (scrub : Bool) :
    (announceUncorr count s k a scrub).obs.counters = (count s).obs.counters := by
  unfold announceUncorr
  extract_lets +onlyGivenNames s2 s3 s4
  have hinfo : s3.obs.counters = s2.obs.counters := counters_ite rfl rfl
  exact ((curtain_counters ..).trans (congrArg (·.counters) (raiseEvent_obs ..))).trans hinfo

/-- The counters that count what a read of a counter's word finds (R294, R358). -/
def counterOfRead (i : Nat) : Prop := i = 0x753 ∨ i = 0x755 ∨ i = 0x757

theorem counter_bumpBy_other {i : Nat} (hi : ¬counterOfRead i) (k : Nat) (s : State) {j n : Nat} (h : i ≠ j) :
    counter (bumpBy k s j n) i = counter s i := by
  have h3 : i ≠ 0x753 := fun heq => hi (.inl heq)
  have h5 : i ≠ 0x755 := fun heq => hi (.inr (.inl heq))
  have h7 : i ≠ 0x757 := fun heq => hi (.inr (.inr heq))
  induction k generalizing s j n with
  | zero => exact counter_bumpRaw_other h
  | succ k ih =>
    unfold bumpBy
    split
    · exact counter_bumpRaw_other h
    · exact (ih _ h3).trans (counter_bumpRaw_other h)
    · exact ((ih _ h7).trans (counter_bumpRaw_other h)).trans (counter_restart_other h)
    · exact (((counter_of_counters (announceUncorr_counters ..) i).trans (ih _ h5)).trans (counter_bumpRaw_other h)).trans
        (counter_restart_other h)

theorem counter_bump_other {i j n : Nat} (hi : ¬counterOfRead i) (h : i ≠ j) : counter (bump s j n) i = counter s i := by
  unfold bump
  split
  · rfl
  · exact counter_bumpBy_other hi 6 s h

end Counters

end Sys2Proof.Machine
end

section
/-! PROOFS. The PLLs and host training (R14, R22, R187-R191, R194, R229, R268). -/

namespace Sys2Proof.Machine

open Sys2Proof

set_option Elab.async false

/-! The system PLL (R22, R229, R268). -/

section SysPll

variable {s t : State}

/-- Both busy bits of a lane that is cut read 0. -/
def AsideQuiet (s : State) (n : Nat) : Prop := rd s F.ASD_STATUS_RX_BUSY n = 0 ∧ rd s F.ASD_STATUS_TX_BUSY n = 0

theorem asideQuiet_of_kept {n : Nat} (h : Within (keeping [] (keysAt [(F.ASD_STATUS_RX_BUSY, 0), (F.ASD_STATUS_TX_BUSY, 0)] n)) s t)
    (hq : AsideQuiet s n) : AsideQuiet t n := ⟨h.rd_keysAt_quiet.trans hq.1, h.rd_keysAt_quiet.trans hq.2⟩

/-- What a cut leaves of the busy bits stands before the packets that it aborts. -/
theorem asideCut_quiet_of {n m : Nat} (h : AsideQuiet (wr (wr s F.ASD_STATUS_RX_BUSY 0 n) F.ASD_STATUS_TX_BUSY 0 n) m) :
    AsideQuiet (asideCut s n) m := by
  unfold asideCut
  extract_lets +onlyGivenNames _ s1
  have hs1 : AsideQuiet s1 m := h
  exact asideQuiet_of_kept ((Within.rfl' _ s1).sendsAbort keeping_allows) hs1

theorem asideCut_quiet (s : State) (n : Nat) : AsideQuiet (asideCut s n) n :=
  asideCut_quiet_of ⟨(rd_wr_apart ..).trans (rd_wr_same ..), rd_wr_same ..⟩

theorem asideCut_quiet_other {n m : Nat} (hn : n < 8) (hm : m < 8) (hne : m ≠ n) (hq : AsideQuiet s m) : AsideQuiet (asideCut s n) m :=
  asideCut_quiet_of ⟨((rd_wr_far (f := F.ASD_STATUS_TX_BUSY) _ _ hn hm).trans (rd_wr_index _ _ _ hne)).trans hq.1,
    ((rd_wr_index _ _ _ hne).trans (rd_wr_far (f := F.ASD_STATUS_RX_BUSY) _ _ hn hm)).trans hq.2⟩

theorem asideCuts_quiet (s : State) {n : Nat} (hn : n < 8) : AsideQuiet ((List.range 8).foldl asideCut s) n :=
  foldl_each (ready := fun _ _ => True) (done := AsideQuiet) List.nodup_range (fun _ _ _ _ => asideCut_quiet ..)
    (fun _ _ hb _ hb' hne hq => asideCut_quiet_other (List.mem_range.1 hb) (List.mem_range.1 hb') hne hq) (fun _ _ _ _ _ _ _ => trivial)
    (fun _ _ => trivial) n (List.mem_range.2 hn)

theorem fallback_single : ∀ g ∈ [(F.LOOP_ENGINE_STATUS_FALLBACK, 0)], 0 < g.1.place.count1 := by decide

theorem loopsFallBack_shows (s : State) : rd (loopsFallBack s) F.LOOP_ENGINE_STATUS_FALLBACK = 1 := by
  have h32 := keeping_opens (ps := []) (n := 32) (fs := [F.LOOP_HIST_FLAGS, F.LOOP_STATUS_STALE, F.LOOP_STATUS_STATE]) fallback_single
  have hkept : Within (keeping [] (keysAt [(F.LOOP_ENGINE_STATUS_FALLBACK, 0)] 0)) (wr s F.LOOP_ENGINE_STATUS_FALLBACK 1) (loopsFallBack s) := by
    refine (Within.rfl' _ _).foldl fun u l hl hu => .ite hu ?_
    have hl' := h32 l (List.mem_range.1 hl)
    have hstale := hu.wr (f := F.LOOP_STATUS_STALE) (v := 1) hl'
    exact (hstale.setHistory (hl'.mono (by decide))).loseFeedback keeping_allows (keeping_opens fallback_single)
      (h32.mono (by decide)) (hl'.mono (by decide))
  exact (hkept.rd_keysAt Nat.one_pos).trans (rd_wr_same ..)

/-- What is cut and aborted with the system PLL's lock leaves the time and the fall-back. -/
theorem sysPllLost_kept (s : State) : Within (keeping Part.time.pieces (keysAt [(F.LOOP_ENGINE_STATUS_FALLBACK, 0)] 0)) s
    ((List.range 8).foldl asideCut (calAbortAll s)) :=
  ((Within.rfl' _ s).calAbortAll keeping_allows (keeping_opens fallback_single) (keeping_opens fallback_single)
    (keeping_zero fallback_single) (keeping_any fallback_single)).foldl fun _ _ hn hu =>
      hu.asideCut keeping_allows (keeping_opens fallback_single (n := 8) (by decide +kernel) _ (List.mem_range.1 hn))

theorem loopsFallBack_time (s : State) : (loopsFallBack s).time = s.time := by
  have hkept : Within (keeping Part.time.pieces []) s (loopsFallBack s) :=
    (Within.rfl' _ s).loopsFallBack keeping_allows keeping_wide.openAt keeping_wide.opens keeping_wide.opens
  exact hkept.keptPart

theorem sysPllLockLoss_shows (hlocked : s.time.sysPllLocked = true) : Runs .sysPllLockLoss s fun t =>
    t.time.sysPllLocked = false ∧ rd t F.LOOP_ENGINE_STATUS_FALLBACK = 1 ∧
    ∀ n : Fin 8, rd t F.ASD_STATUS_RX_BUSY n = 0 ∧ rd t F.ASD_STATUS_TX_BUSY n = 0 := by
  refine runs_of_eq rfl (if_pos hlocked) ?_
  generalize hs1 : raiseEvent { s with time := { s.time with sysPllLocked := false } } (ev 0x8263 locSysPll 1) = s1
  have htime : s1.time.sysPllLocked = false := by rw [← hs1, raiseEvent_time]
  have hkept := sysPllLost_kept (loopsFallBack s1)
  refine ⟨?_, (hkept.rd_keysAt Nat.one_pos).trans (loopsFallBack_shows s1), fun n => asideCuts_quiet _ n.isLt⟩
  have hsame : ((List.range 8).foldl asideCut (calAbortAll (loopsFallBack s1))).time = (loopsFallBack s1).time :=
    hkept.keptPart
  rw [hsame, loopsFallBack_time, htime]

end SysPll

/-! A region's lanes re-lock (R14). -/

section Lol

variable {s t : State} {l k : LaneId} {r : Rehearsal}

/-- A step leaves every lane's loss of lock. -/
abbrev LolKept (s t : State) : Prop := Within (keeping [] (keysOf [(F.LRX_STATUS_LOL, 0), (F.HSL_STATUS_LOL, 0)])) s t

theorem laneLol_of_kept (h : LolKept s t) (l : LaneId) : laneLol t l = laneLol s l := by
  cases l with
  | line n => exact congrArg (· == 1) (h.rd_keysOf n.isLt)
  | host n => exact congrArg (· == 1) (h.rd_keysOf n.isLt)

theorem lolRises_lol (s : State) (l : LaneId) : LolKept (setLol s l true) (lolRises s l) := by
  cases l
  · exact (Within.rfl' _ _).laneLost keeping_allows keysOf_any keysOf_opens keysOf_opens
  · exact (Within.rfl' _ _).hostLaneDown keeping_allows (keysOf_any (a := _)) keysOf_any keysOf_opens keysOf_opens

/-- The report that follows a lane's loss of lock. -/
theorem setLol_kept (h : laneLol s l = false) : LolKept (wrL s l F.LRX_STATUS_LOL F.HSL_STATUS_LOL 1) (setLol s l true) := by
  rw [setLol, if_neg (by simp [h])]
  exact (((Within.rfl' _ _).raiseEvent.gatherMark keeping_allows).bumpL.eqRefresh keysOf_opens keysOf_opens)

/-- A lane that shows its loss of lock shows it where any lane's is set. -/
theorem laneLol_wrL (l : LaneId) (h : laneLol s k = true) : laneLol (wrL s l F.LRX_STATUS_LOL F.HSL_STATUS_LOL 1) k = true := by
  by_cases hkl : k = l
  · subst hkl
    cases k
    · exact beq_iff_eq.2 (rd_wr_same ..)
    · exact beq_iff_eq.2 (rd_wr_same ..)
  · rw [← h]
    refine congrArg (· == 1) ?_
    cases l with
    | line n =>
      cases k with
      | line m => exact rd_wr_index _ _ _ fun he => hkl (congrArg LaneId.line (Fin.ext he))
      | host m => exact rd_wr_far (g := F.HSL_STATUS_LOL) _ _ n.isLt m.isLt
    | host n =>
      cases k with
      | line m => exact rd_wr_far (g := F.LRX_STATUS_LOL) _ _ n.isLt m.isLt
      | host m => exact rd_wr_index _ _ _ fun he => hkl (congrArg LaneId.host (Fin.ext he))

theorem setLol_keeps (l : LaneId) (h : laneLol s k = true) : laneLol (setLol s l true) k = true := by
  by_cases hl : laneLol s l = true
  · rwa [setLol, if_pos hl]
  · exact (laneLol_of_kept (setLol_kept (eq_false_of_ne_true hl)) k).trans (laneLol_wrL l h)

theorem setLol_true (s : State) (l : LaneId) : laneLol (setLol s l true) l = true := by
  by_cases h : laneLol s l = true
  · rw [setLol, if_pos h, h]
  · rw [laneLol_of_kept (setLol_kept (eq_false_of_ne_true h))]
    cases l
    · exact beq_iff_eq.2 (rd_wr_same ..)
    · exact beq_iff_eq.2 (rd_wr_same ..)

theorem lolRises_true (s : State) (l : LaneId) : laneLol (lolRises s l) l = true :=
  (laneLol_of_kept (lolRises_lol s l) l).trans (setLol_true s l)

theorem lolRises_keeps (l : LaneId) (h : laneLol s k = true) : laneLol (lolRises s l) k = true :=
  (laneLol_of_kept (lolRises_lol s l) k).trans (setLol_keeps l h)

theorem lolsRise {ls : List LaneId} (hk : k ∈ ls) : laneLol (ls.foldl lolRises s) k = true := by
  have hstay : ∀ (ls : List LaneId) (t : State), laneLol t k = true → laneLol (ls.foldl lolRises t) k = true := by
    intro ls
    induction ls with
    | nil => exact fun _ h => h
    | cons l ls ih => exact fun t h => ih _ (lolRises_keeps l h)
  induction ls generalizing s with
  | nil => cases hk
  | cons l ls ih =>
    rcases List.mem_cons.1 hk with rfl | hk
    · exact hstay ls _ (lolRises_true s k)
    · exact ih hk

theorem pllPair_of (hline : t.time.linePll = s.time.linePll) (hhost : t.time.hostPll = s.time.hostPll) (line : Bool) (b : Nat) :
    pllPair t line b = pllPair s line b := by rw [pllPair, pllPair, hline, hhost]

/-- What raising LOL of lanes leaves: the settings, the mode, the tests and the PLLs. -/
theorem lolsRise_pll (ls : List LaneId) (s : State) (line : Bool) (b : Nat) : pllPair (ls.foldl lolRises s) line b = pllPair s line b := by
  have hkept : Within (keeping [.time .linePll, .time .hostPll] []) s (ls.foldl lolRises s) :=
    (Within.rfl' _ s).foldl fun _ _ _ h => h.lolRises keeping_allows keeping_wide.opens keeping_wide.opens keeping_wide.any
  exact pllPair_of (hkept.kept (.time .linePll)) (hkept.kept (.time .hostPll)) line b

/-- A region's PLLs change and show it: its lanes run as before. -/
theorem laneRuns_pllSet (s : State) (line : Bool) (b : Nat) (x : PllPair) (l : LaneId) :
    laneRuns (pllShow (setPllPair s line b x)) l = laneRuns s l := by
  have hset : laneRuns (setPllPair s line b x) l = laneRuns s l := by
    unfold setPllPair
    split
    · exact laneRuns_of rfl rfl rfl rfl rfl l
    · exact laneRuns_of rfl rfl rfl rfl rfl l
  exact ((laneRuns_wrB ..).trans (laneRuns_wrB ..)).trans hset

theorem pllSet_pair (s : State) (line : Bool) (b : Fin 2) (x : PllPair) : pllPair (pllShow (setPllPair s line b x)) line b = x :=
  pllPair_setPllPair_same s line b x

/-! What ends with a test leaves a loss of lock that shows, but in the cluster tested (R434, R440). -/

theorem setLos_keeps (l : LaneId) (b : Bool) (h : laneLol s k = true) : laneLol (setLos s l b) k = true := by
  unfold setLos
  split
  · exact h
  · extract_lets +onlyGivenNames s1 s2
    have hs2 : LolKept s s2 := by
      have hs1 : LolKept s s1 := (Within.rfl' _ s).wrL keysOf_opens keysOf_opens
      unfold s2
      split
      · exact hs1.raiseEvent
      · exact hs1.raiseEvent
    split
    · extract_lets +onlyGivenNames e s3 s4 _ s5
      have hs3 : LolKept s s3 := ((((hs2.bumpL.metricClear keeping_allows).gatherMark keeping_allows).setEqRec
        keeping_allows).spotFlag keeping_allows)
      have hs4 : laneLol s4 k = true := setLol_keeps l ((laneLol_of_kept hs3 k).trans h)
      have hs5 : LolKept s4 s5 := ((Within.rfl' _ s4).setFront keeping_allows).lockWindowClear keeping_allows
      refine (laneLol_of_kept ?_ k).trans hs4
      split
      · exact ((((hs5.wr (keysOf_any (fs := [F.ASD_LEVEL_REF]) (a := _))).lockSearch keeping_allows keysOf_any).laneLost
          keeping_allows keysOf_any keysOf_opens keysOf_opens).eqRefresh keysOf_opens keysOf_opens)
      · exact (hs5.hostLaneDown keeping_allows (keysOf_any (a := _)) keysOf_any keysOf_opens keysOf_opens).eqRefresh keysOf_opens
          keysOf_opens
    · extract_lets +onlyGivenNames x _ s3
      have hs3 : LolKept s s3 := (hs2.setFront keeping_allows).lockWindowClear keeping_allows
      exact (laneLol_of_kept (Within.ite (hs3.searchStart keeping_allows keysOf_opens keysOf_opens)
        (hs3.eqRefresh keysOf_opens keysOf_opens)) k).trans h

theorem losFollow_keeps (l : LaneId) (h : laneLol s k = true) : laneLol (losFollow s l) k = true := by
  unfold losFollow
  extract_lets +onlyGivenNames x env rms
  refine setLos_keeps l _ ((laneLol_of_kept ?_ k).trans h)
  exact ((Within.rfl' _ s).wrLine keysOf_opens).wrLine keysOf_opens

theorem lanePowerUp_keeps (l : LaneId) (h : laneLol s k = true) : laneLol (lanePowerUp s l) k = true := by
  unfold lanePowerUp
  extract_lets +onlyGivenNames s1 s2
  have hs1 : LolKept s s1 := (Within.rfl' _ s).loadCorrections keeping_allows keysOf_any
  have hs2 : laneLol s2 k = true := by
    refine losFollow_keeps l ((laneLol_of_kept ?_ k).trans h)
    split
    · exact hs1.loadCorrections keeping_allows keysOf_any
    · exact hs1
  refine (laneLol_of_kept ?_ k).trans hs2
  split
  · exact (Within.rfl' _ s2).txFollow keeping_allows keysOf_opens keysOf_opens
  · extract_lets +onlyGivenNames _ s3
    have hs3 : LolKept s2 s3 := Within.ite (((Within.rfl' _ s2).setFront keeping_allows).wr
      (keysOf_any (fs := [F.HSL_STATUS_TRAINING]) (a := _))) (Within.rfl' _ s2)
    exact hs3.txFollow keeping_allows keysOf_opens keysOf_opens

theorem lanePowerDown_keeps (l : LaneId) (h : laneLol s k = true) : laneLol (lanePowerDown s l) k = true := by
  unfold lanePowerDown
  extract_lets +onlyGivenNames s1 s2 slices _ s3 s3' s4 s5 s6 s7
  have hs1 : LolKept s s1 := ((Within.rfl' _ s).endWings keeping_allows keysOf_opens keysOf_opens keysOf_zero keysOf_any).landSwap
    keeping_allows keysOf_opens keysOf_opens
  have hs2 : LolKept s s2 := by
    unfold s2
    split
    · extract_lets +onlyGivenNames a b
      have ha : LolKept s a := hs1.lockSearch keeping_allows keysOf_any
      have hb : LolKept s b := Within.ite (((ha.setSpot keeping_allows).wr
        (keysOf_any (fs := [F.LRX_SPOT_STATUS_STATE]) (a := _))).completeProg keeping_allows) ha
      exact Within.ite (((hb.withCal keeping_allows).instanceEnd keeping_allows keysOf_any).runCheck keeping_allows keysOf_zero) hb
    · exact (((hs1.hostUnlock (keysOf_any (a := _))).wr (keysOf_any (fs := [F.HSL_STATUS_TRAINING]) (a := _))).wr
        (keysOf_any (fs := [F.HSL_STATUS_TRAINED]) (a := _))).retrainLaneDone keeping_allows
  have hs4 : LolKept s s4 := (((hs2.setFront keeping_allows).setRxRec keeping_allows).setTxRec keeping_allows).putEq keeping_allows
    keysOf_opens keysOf_opens
  have hs5 : laneLol s5 k = true := laneLol_wrL l ((laneLol_of_kept (hs4.wrL keysOf_opens keysOf_opens) k).trans h)
  have hs6 : LolKept s5 s6 := (((Within.rfl' _ s5).wrLine keysOf_opens).wrLine keysOf_opens).wrLine keysOf_opens
  have hs7 : LolKept s5 s7 := ((hs6.wrLine keysOf_opens).wrLine keysOf_opens).wrL keysOf_opens keysOf_opens
  exact (laneLol_of_kept (((hs7.ctleInit keysOf_opens keysOf_opens).setTx keeping_allows keysOf_opens keysOf_opens).showTiming
    keysOf_opens keysOf_opens) k).trans hs5

/-- A field outside the cluster reads as before its registers are reloaded. -/
theorem rd_clusterReload {f : Field} {i j : Nat} (h : clusterAddr s r.cls r.inst (f.key i j / 32) = false) :
    rd (clusterReload s r) f i j = rd s f i j := by
  have hget : aGet (clusterReload s r).fld (f.key i j) = aGet s.fld (f.key i j) := by
    refine (aGet_overlay_other fun e he hek => ?_).trans (aGet_filter_of fun v => by simp only [h, Bool.not_false, Bool.true_or])
    have hin := (List.mem_filter.1 he).2
    rw [hek, h] at hin
    exact Bool.false_ne_true hin
  rw [rd, rd, fGet, fGet, hget]

theorem bounds_of_within {a base size : Nat} (h : within a base size = true) : base ≤ a ∧ a < base + size := by
  simp only [within, Bool.and_eq_true, decide_eq_true_eq] at h
  exact h

/-- The lanes' registers lie below the ports' and after no other cluster's. -/
theorem lane_of_clusterAddr {cls inst a : Nat} (h : clusterAddr s cls inst a = true) (ha : a < 0x200000) :
    (cls = 1 ∧ inst < 8 ∧ 0x80000 + inst * 0x10000 ≤ a ∧ a < 0x90000 + inst * 0x10000) ∨
    (cls = 2 ∧ 0x100000 + inst * 0x10000 ≤ a ∧ a < 0x110000 + inst * 0x10000) := by
  unfold clusterAddr at h
  obtain ⟨hinst, h⟩ := Bool.and_eq_true_iff.1 h
  have hcount := of_decide_eq_true hinst
  split at h
  · rcases Bool.or_eq_true_iff.1 h with h | h <;> have := bounds_of_within h
    · exact .inl ⟨rfl, hcount, by omega, by omega⟩
    · omega
  · have := bounds_of_within h
    exact .inr ⟨rfl, by omega, by omega⟩
  · rcases Bool.or_eq_true_iff.1 h with h | h
    · have := bounds_of_within h
      omega
    · have := beq_iff_eq.1 h
      omega
  · rcases Bool.or_eq_true_iff.1 h with h | h
    · rcases Bool.or_eq_true_iff.1 h with h | h <;> have := beq_iff_eq.1 h <;> omega
    · obtain ⟨l, -, hl⟩ := List.any_eq_true.1 h
      have := bounds_of_within hl
      omega
  · rcases Bool.or_eq_true_iff.1 h with h | h
    · have := bounds_of_within h
      omega
    · have := beq_iff_eq.1 (Bool.and_eq_true_iff.1 h).1
      omega
  · have := bounds_of_within h
    omega
  · cases h

theorem line_outside {n : Fin 8} (hr : ¬(r.cls = 1 ∧ r.inst = n)) (u : State) :
    clusterAddr u r.cls r.inst (F.LRX_STATUS_LOL.key n 0 / 32) = false := by
  have haddr : F.LRX_STATUS_LOL.key n 0 / 32 = 0x80204 + n * 0x10000 := by
    rw [key_eq_add, show F.LRX_STATUS_LOL.key 0 0 = 0x80204 * 32 + 4 from rfl, show F.LRX_STATUS_LOL.place.stride1 = 0x10000 from rfl]
    omega
  refine Bool.eq_false_iff.2 fun hin => hr ?_
  rcases lane_of_clusterAddr hin (by omega) with ⟨hcls, hlt, hlo, hhi⟩ | ⟨hcls, hlo, hhi⟩
  · exact ⟨hcls, by omega⟩
  · omega

theorem host_outside {n : Fin 16} (hr : ¬(r.cls = 2 ∧ r.inst = n)) (u : State) :
    clusterAddr u r.cls r.inst (F.HSL_STATUS_LOL.key n 0 / 32) = false := by
  have haddr : F.HSL_STATUS_LOL.key n 0 / 32 = 0x100110 + n * 0x10000 := by
    rw [key_eq_add, show F.HSL_STATUS_LOL.key 0 0 = 0x100110 * 32 + 2 from rfl, show F.HSL_STATUS_LOL.place.stride1 = 0x10000 from rfl]
    omega
  refine Bool.eq_false_iff.2 fun hin => hr ?_
  rcases lane_of_clusterAddr hin (by omega) with ⟨hcls, hlt, hlo, hhi⟩ | ⟨hcls, hlo, hhi⟩
  · omega
  · exact ⟨hcls, by omega⟩

/-- The rehearsal is not of this lane. -/
def Outside (r : Rehearsal) : LaneId → Prop
  | .line n => ¬(r.cls = 1 ∧ r.inst = n)
  | .host n => ¬(r.cls = 2 ∧ r.inst = n)

theorem outside_of_runs (h : laneRuns s k = true) (hr : s.test.rehearsal = some r) : Outside r k := by
  simp only [laneRuns, Bool.and_eq_true, Bool.not_eq_true'] at h
  obtain ⟨-, h⟩ := h
  cases k with
  | line n => simpa [Outside, laneRehearsing, rehearsing, hr] using h
  | host n => simpa [Outside, laneRehearsing, rehearsing, hr] using h

theorem clusterReload_keeps (hr : Outside r k) (h : laneLol s k = true) : laneLol (clusterReload s r) k = true := by
  rw [← h]
  refine congrArg (· == 1) ?_
  cases k with
  | line n => exact rd_clusterReload (line_outside hr s)
  | host n => exact rd_clusterReload (host_outside hr s)

theorem blockReset_keeps (hr : Outside r k) (h : laneLol s k = true) : laneLol (blockReset s r) k = true := by
  unfold blockReset
  extract_lets +onlyGivenNames s'
  have hs' : laneLol s' k = true := (laneLol_of_kept (Within.rfl' _ s).bookWrite k).trans h
  split
  · unfold blockLine
    extract_lets +onlyGivenNames s1 s2 _ s3
    have hoff : LolKept (lanePowerDown s' (.line (Fin.ofNat 8 r.inst)))
        (asideOff (lanePowerDown s' (.line (Fin.ofNat 8 r.inst))) (Fin.ofNat 8 r.inst) true) :=
      (Within.rfl' _ _).asideOff keeping_allows (keysOf_any (a := _)) keysOf_opens
    have hs1 : laneLol s1 k = true := clusterReload_keeps hr ((laneLol_of_kept hoff k).trans (lanePowerDown_keeps _ hs'))
    have hs3 : LolKept s1 s3 := ((((Within.rfl' _ s1).lutClear keeping_allows).lutClear keeping_allows).withLanesXaStartRevertDueGather
      keeping_allows).sealRefresh keysOf_opens
    have hs3' := (laneLol_of_kept hs3 k).trans hs1
    split
    · exact lanePowerUp_keeps _ hs3'
    · exact hs3'
  · unfold blockHost
    extract_lets +onlyGivenNames s1
    have hs1 : laneLol s1 k = true := clusterReload_keeps hr (lanePowerDown_keeps _ hs')
    split
    · exact lanePowerUp_keeps _ hs1
    · exact hs1
  · unfold blockPort
    extract_lets +onlyGivenNames s1 s2 s3 _ s4
    have hs4 : LolKept s1 s4 := ((((Within.rfl' _ s1).setLink keeping_allows).setPortPath keeping_allows).setPortPath
      keeping_allows).withPathSuperRxSuperTxInnerTx keeping_allows
    exact (laneLol_of_kept (hs4.flowFlushPort keeping_allows) k).trans (clusterReload_keeps hr hs')
  · have hkept : LolKept (clusterReload s' r) (blockGroup s' r r.inst) := by
      unfold blockGroup
      exact (Within.rfl' _ _).foldl fun _ _ _ hu => .ite ((hu.setLoop keeping_allows).setLoopState (keysOf_any (a := _)))
        ((hu.setLoop keeping_allows).setLoopState (keysOf_any (a := _)))
    exact (laneLol_of_kept hkept k).trans (clusterReload_keeps hr hs')
  · exact (laneLol_of_kept ((Within.rfl' _ _).bdacOff keeping_allows (keysOf_any (a := _))) k).trans (clusterReload_keeps hr hs')
  · extract_lets +onlyGivenNames u
    have hu : laneLol u k = true := clusterReload_keeps hr hs'
    refine (laneLol_of_kept (.ite ((Within.rfl' _ u).senseSync keeping_allows (keysOf_any (a := _)))
      (((Within.rfl' _ u).setSense keeping_allows).senseBlank (keysOf_any (a := _)))) k).trans hu

theorem rehearsalEnds_keeps {e : TestEnd} {unit : Nat} (he : e.result = 2) (hr : ∀ r, s.test.rehearsal = some r → Outside r k)
    (h : laneLol s k = true) : laneLol (rehearsalEnds s e unit) k = true := by
  unfold rehearsalEnds
  split
  · exact h
  · next r heq =>
    extract_lets +onlyGivenNames _ s1 s2
    have hs1 : laneLol s1 k = true := blockReset_keeps (hr r heq) h
    have hs2 : s2 = s1 := by simp [s2, he]
    refine (laneLol_of_kept (((Within.rfl' _ s2).testReply keeping_allows).testEnds keeping_allows keysOf_zero) k).trans ?_
    rwa [hs2]

theorem testsStop_keeps (cause : Nat) (hr : ∀ r, s.test.rehearsal = some r → Outside r k) (h : laneLol s k = true) :
    laneLol (testsStop s cause) k = true := by
  unfold testsStop
  split
  · unfold testsAbort
    extract_lets +onlyGivenNames e
    have hends : LolKept (rehearsalEnds (takeFree s) e 0xFFF) (dressEnds (memTestEnds (rehearsalEnds (takeFree s) e 0xFFF) e 0) e 0) :=
      ((Within.rfl' _ _).memTestEnds keeping_allows keysOf_zero).dressEnds keeping_allows keysOf_zero
    exact (laneLol_of_kept hends k).trans (rehearsalEnds_keeps rfl hr h)
  · exact h

/-- A region's loss of lock leaves the rehearsal. -/
theorem pllLockLoss_rehearsal (s : State) (line : Bool) (b : Nat) : (pllLockLoss line b s).test.rehearsal = s.test.rehearsal := by
  have hkept : Within (keeping [.test .rehearsal] []) s (pllLockLoss line b s) :=
    (Within.rfl' _ s).pllLockLoss keeping_allows (keeping_wide.openAt) keeping_wide.opens keeping_wide.opens keeping_wide.any
  exact hkept.kept (.test .rehearsal)

theorem testsStop_pll (s : State) (cause : Nat) (line : Bool) (b : Nat) : pllPair (testsStop s cause) line b = pllPair s line b := by
  have hkept : Within (keeping [.time .linePll, .time .hostPll] []) s (testsStop s cause) :=
    (Within.rfl' _ s).testsStop keeping_allows keeping_wide.opens keeping_wide.opens keeping_wide.openAt keeping_wide.any
      keeping_wide.cal keeping_wide.clusters
  exact pllPair_of (hkept.kept (.time .linePll)) (hkept.kept (.time .hostPll)) line b

theorem noteSwitch_runs (s : State) (line : Bool) (b : Nat) (l : LaneId) : laneRuns (noteSwitch s line b) l = laneRuns s l := by
  unfold noteSwitch
  split
  · exact laneRuns_of rfl rfl rfl rfl rfl l
  · exact laneRuns_of rfl rfl rfl rfl rfl l

theorem noteSwitch_pll (s : State) (line line' : Bool) (b b' : Nat) : pllPair (noteSwitch s line b) line' b' = pllPair s line' b' := by
  unfold noteSwitch
  split
  · rfl
  · rfl

theorem calSwitchover_pll (s : State) (line line' : Bool) (lo hi b : Nat) :
    pllPair (calSwitchover s line lo hi) line' b = pllPair s line' b := by
  have hkept : Within (keeping [.time .linePll, .time .hostPll] []) s (calSwitchover s line lo hi) :=
    (Within.rfl' _ s).calSwitchover keeping_allows
  exact pllPair_of (hkept.kept (.time .linePll)) (hkept.kept (.time .hostPll)) line' b

/-- What the loss of a region's lock shows, before it ends a test (R14). -/
theorem pllLost_shows {line : Bool} {b : Fin 2} (hlocked : (pllPair s line b).inUseLocked = true) :
    pllPair (pllLockLoss line b s) line b = (if (pllPair s line b).onUnderstudy then ⟨(pllPair s line b).mainLocked, false, true⟩
      else ⟨false, (pllPair s line b).understudyLocked, (pllPair s line b).understudyLocked⟩) ∧
    ∀ l ∈ regionLanes s line b, laneLol (pllLockLoss line b s) l = true := by
  unfold pllLockLoss
  extract_lets +onlyGivenNames x s1 s1' half
  rw [if_neg (by simp [x, hlocked])]
  split
  · refine ⟨(lolsRise_pll ..).trans (pllSet_pair ..), fun l hl => lolsRise ?_⟩
    rwa [regionLanes_of (laneRuns_pllSet s line b _) line b]
  · refine ⟨(lolsRise_pll ..).trans ((calSwitchover_pll ..).trans ((noteSwitch_pll ..).trans (pllSet_pair ..))), fun l hl => lolsRise ?_⟩
    rwa [regionLanes_of (s := s) (fun l => (noteSwitch_runs ..).trans (laneRuns_pllSet s line b _ l)) line b]

theorem pllLockLoss_shows {line : Bool} {b : Fin 2} (hlocked : (pllPair s line b).inUseLocked = true) : Runs (.pllLockLoss line b) s fun t =>
    pllPair t line b = (if (pllPair s line b).onUnderstudy then ⟨(pllPair s line b).mainLocked, false, true⟩
      else ⟨false, (pllPair s line b).understudyLocked, (pllPair s line b).understudyLocked⟩) ∧
    ∀ l ∈ regionLanes s line b, laneLol t l = true := by
  obtain ⟨hpair, hlol⟩ := pllLost_shows hlocked
  refine ⟨_, rfl, ?_⟩
  split
  · refine ⟨(testsStop_pll ..).trans hpair, fun l hl => testsStop_keeps 1 (fun r hr => ?_) (hlol l hl)⟩
    rw [pllLockLoss_rehearsal] at hr
    exact outside_of_runs (Bool.and_eq_true_iff.1 (List.mem_filter.1 hl).2).1 hr
  · exact ⟨hpair, hlol⟩

end Lol

/-! The system PLL locks again, a lane's training starts again, and a track window ends (R22, R189, R190). -/

section Again

variable {s t : State} {l k : LaneId}

theorem sysPllRelock_shows (hlost : s.time.sysPllLocked = false) (hmode : s.power.mode = .show ∨ s.power.mode = .leavingIntermission) :
    Runs .sysPllRelock s fun t => t.time.sysPllLocked = true ∧ rd t F.LOOP_ENGINE_STATUS_FALLBACK = 0 := by
  refine runs_of_eq rfl (if_pos ⟨hlost, hmode⟩) ⟨?_, rd_wr_same ..⟩
  dsimp only
  generalize hs1 : raiseEvent { s with time := { s.time with sysPllLocked := true } } (ev 0x8263 locSysPll) = s1
  have htime : s1.time.sysPllLocked = true := by rw [← hs1, raiseEvent_time]
  have hkept : Within (keeping Part.time.pieces []) s1 ((List.range 8).foldl asideListen s1) :=
    (Within.rfl' _ s1).foldl fun _ _ _ h => h.asideListen keeping_allows
  have hsame : ((List.range 8).foldl asideListen s1).time = s1.time := hkept.keptPart
  rw [wr_time, hsame, htime]

theorem hslTrainTimeout_shows {n : Fin 16} (htrain : rd s F.HSL_STATUS_TRAINING n = 1) (hruns : laneRuns s (.host n) = true) :
    Runs (.hslTrainTimeout n) s fun t => (front t (.host n)).trainSince = some s.time.tick ∧ (front t (.host n)).pass = 0 ∧
      rd t F.HSL_STATUS_TRAINING n = 1 := by
  refine runs_of_eq rfl (if_pos ⟨htrain, hruns⟩) ?_
  dsimp only
  generalize hs1 : lockWindowClear (setFront s (.host n) { front s (.host n) with
      pass := 0, fail := 0, short := false, trainSince := some s.time.tick }) (.host n) = s1
  have hfront : front s1 (.host n) = { front s (.host n) with
      pass := 0, fail := 0, short := false, trainSince := some s.time.tick } := by
    rw [← hs1, lockWindowClear, front_setRxRec, front_setFront]
  have htrain1 : rd s1 F.HSL_STATUS_TRAINING n = 1 := by rw [← hs1]; exact htrain
  generalize ht : retrainLaneDone (raiseEvent (bump s1 (cntHost n 10) 1) _) n true = t
  have hkept : Within (keeping [.lanes .hostFront] (keysAt [(F.HSL_STATUS_TRAINING, 0)] n)) s1 t :=
    ht ▸ (((Within.rfl' _ s1).bump.raiseEvent).retrainLaneDone keeping_allows)
  have hsame : t.lanes.hostFront = s1.lanes.hostFront := hkept.kept (.lanes .hostFront)
  have hshown : front t (.host n) = front s1 (.host n) := by rw [front, front, hsame]
  rw [hshown, hfront]
  exact ⟨rfl, rfl, hkept.rd_keysAt_quiet.trans htrain1⟩

/-- What a track window does to a lane that it tracks. -/
def hslTrackStep (u : State) (n : Fin 16) (x : RxRec) (track : Int) : State :=
  let v := setRxRec u (.host n) x
  let thr : Int := 256 * (rdE u F.HSL_TR_CTRL_TRACK_THR n : Nat)
  if thr < track then setPhase v (.host n) (front v (.host n)).freq ((front v (.host n)).phase + 2 ^ 18)
  else if track < -thr then setPhase v (.host n) (front v (.host n)).freq ((front v (.host n)).phase - 2 ^ 18) else v

theorem phase_advances (p : Nat) : (((p : Int) + 2 ^ 18) % 2 ^ 24).toNat = (p + 2 ^ 18) % 2 ^ 24 := by omega

theorem phase_retreats (p : Nat) : (((p : Int) - 2 ^ 18) % 2 ^ 24).toNat = (p + (2 ^ 24 - 2 ^ 18)) % 2 ^ 24 := by omega

theorem hslTrackWindow_shows {n : Fin 16} {codes : List Int} :
    let u := rxStream s (.host n) codes
    forwarded u = true → rd u F.HSL_STATUS_TRAINED n = 1 → laneRuns u (.host n) = true → timingHeld u (.host n) = false →
    Runs (.hslTrackWindow n codes) s fun t =>
      let thr : Int := 256 * (rdE u F.HSL_TR_CTRL_TRACK_THR n : Nat)
      let sum := (rxRec u (.host n)).track
      (rxRec t (.host n)).track = 0 ∧ (front t (.host n)).phase =
        if thr < sum then ((front u (.host n)).phase + 2 ^ 18) % 2 ^ 24
        else if sum < -thr then ((front u (.host n)).phase + (2 ^ 24 - 2 ^ 18)) % 2 ^ 24 else (front u (.host n)).phase := by
  intro u hfwd htrained hruns hheld
  generalize hx : ({ rxRec u (.host n) with track := 0 } : RxRec) = x
  have hclear : (rxRec (setRxRec u (.host n) x) (.host n)).track = 0 := by rw [rxRec_setRxRec, ← hx]
  have hcond : (forwarded (setRxRec u (.host n) x) && rd (setRxRec u (.host n) x) F.HSL_STATUS_TRAINED n == 1 &&
      laneRuns (setRxRec u (.host n) x) (.host n) && !timingHeld (setRxRec u (.host n) x) (.host n)) = true := by
    show (forwarded u && rd u F.HSL_STATUS_TRAINED n == 1 && laneRuns u (.host n) && !timingHeld u (.host n)) = true
    simp [hfwd, htrained, hruns, hheld]
  have hrun : hslTrackWindow n codes s = hslTrackStep u n x (rxRec u (.host n)).track := by
    subst hx
    exact if_pos hcond
  refine runs_of_eq rfl hrun ?_
  unfold hslTrackStep
  intro thr sum
  by_cases hup : thr < sum
  · rw [if_pos hup, if_pos hup, rxRec_setPhase, front_setPhase, front_setRxRec]
    exact ⟨hclear, phase_advances _⟩
  · rw [if_neg hup, if_neg hup]
    by_cases hdown : sum < -thr
    · rw [if_pos hdown, if_pos hdown, rxRec_setPhase, front_setPhase, front_setRxRec]
      exact ⟨hclear, phase_retreats _⟩
    · rw [if_neg hdown, if_neg hdown, front_setRxRec]
      exact ⟨hclear, rfl⟩

end Again

/-! A lane's wander limit (R191). -/

section Wander

variable {s t : State} {l k : LaneId} {p : Nat}

theorem portOf_lt {l : LaneId} (h : lanePort s l = some p) : p < 8 := by
  cases l with
  | line n =>
    have hfind : portOfLine s n = some p := h
    exact List.mem_range.1 (List.mem_of_find?_eq_some hfind)
  | host n =>
    have hfind : portOfHost s n = some p := h
    exact List.mem_range.1 (List.mem_of_find?_eq_some hfind)

theorem counter_wander (d : Dir) (n : Fin 16) (hp : p < 8) : ¬counterOfRead (cntPort p d 13) ∧ cntPort p d 13 ≠ cntHost n 6 := by
  have hn := n.isLt
  unfold counterOfRead cntPort cntHost
  cases d <;> simp only <;> omega

theorem txRec_of_lanes (h : t.lanes = s.lanes) (l : LaneId) : txRec t l = txRec s l := by
  cases l <;> simp only [txRec, h]

/-- A wander limit reported, before what follows a receiver's (R191). -/
def wandered (s : State) (l : LaneId) (p : Nat) (transmit repeated : Bool) : State :=
  let s1 := bump (dropBlock s l transmit repeated) (cntPort p (match l with
    | .line _ => if transmit then .tx else .rx
    | .host _ => if transmit then .rx else .tx) 13) 1
  raiseEvent (match l with
    | .line _ => s1
    | .host n => bump s1 (cntHost n 6) 1) (ev 0x8261 (laneLoc l)
      (l.num + b2n (!l.isLine) * 2 ^ 5 + b2n transmit * 2 ^ 6 + b2n repeated * 2 ^ 7))

theorem wanderLimit_eq {transmit repeated : Bool} (hport : lanePort s l = some p) (hruns : laneRuns s l = true) :
    wanderLimit l transmit repeated s = if transmit then wandered s l p transmit repeated else match l with
      | .line n => if linkState (wandered s l p transmit repeated) p = 4 ∨ linkState (wandered s l p transmit repeated) p = 5 then
          lockLost (wandered s l p transmit repeated) n else wandered s l p transmit repeated
      | .host n => hostLaneDown (wandered s l p transmit repeated) n := by
  unfold wanderLimit
  rw [hport]
  dsimp only
  rw [if_pos hruns]
  cases l
  · rfl
  · rfl

theorem wandered_lanes (s : State) (l : LaneId) (p : Nat) (transmit repeated : Bool) :
    (wandered s l p transmit repeated).lanes = (dropBlock s l transmit repeated).lanes := by
  unfold wandered
  cases l with
  | line n => exact (raiseEvent_lanes ..).trans (bump_lanes ..)
  | host n => exact (raiseEvent_lanes ..).trans ((bump_lanes ..).trans (bump_lanes ..))

theorem wandered_counter {repeated : Bool} (hp : p < 8)
    (hpoison : isPoisoned s 60 (cntPort p (if l.isLine then .tx else .rx) 13) = false)
    (herrs : wordErrs s 60 (cntPort p (if l.isLine then .tx else .rx) 13) = 0) :
    counter (wandered s l p true repeated) (cntPort p (if l.isLine then .tx else .rx) 13) =
      (counter s (cntPort p (if l.isLine then .tx else .rx) 13) + 1) % 2 ^ 48 := by
  unfold wandered
  dsimp only
  rw [counter_of_counters (congrArg (·.counters) (raiseEvent_obs ..))]
  cases l with
  | line n =>
    have hfound : counterFound (dropBlock s (.line n) true repeated) (cntPort p .tx 13) = .clean := counterFound_clean hpoison herrs
    exact counter_bump_clean hfound (by decide)
  | host n =>
    have hfound : counterFound (dropBlock s (.host n) true repeated) (cntPort p .rx 13) = .clean := counterFound_clean hpoison herrs
    obtain ⟨hcounter, hother⟩ := counter_wander .rx n hp
    exact (counter_bump_other hcounter hother).trans (counter_bump_clean hfound (by decide))

theorem wanderLimit_transmits {repeated : Bool} (hport : lanePort s l = some p) (hruns : laneRuns s l = true)
    (hpoison : isPoisoned s 60 (cntPort p (if l.isLine then .tx else .rx) 13) = false)
    (herrs : wordErrs s 60 (cntPort p (if l.isLine then .tx else .rx) 13) = 0) :
    Runs (.wanderLimit l true repeated) s fun t =>
      counter t (cntPort p (if l.isLine then .tx else .rx) 13) = (counter s (cntPort p (if l.isLine then .tx else .rx) 13) + 1) % 2 ^ 48 ∧
      (txRec t l).slip = (txRec s l).slip + (if repeated then -(blockSymbols l : Int) else blockSymbols l) := by
  refine runs_of_eq rfl ((wanderLimit_eq hport hruns).trans (if_pos rfl)) ⟨wandered_counter (portOf_lt hport) hpoison herrs, ?_⟩
  rw [txRec_of_lanes (wandered_lanes ..)]
  show (txRec (setTxRec s l _) l).slip = _
  rw [txRec_setTxRec]

/-- A link that recovers or restarts from a lane lost leaves the lanes' locks. -/
theorem linkGo_lock {new reason : Nat} (hnew : new = 1 ∨ new = 5) (s : State) (p : Nat) :
    (linkGo s p new reason).lanes.lock = s.lanes.lock := by
  have hkept : Within (keeping [.lanes .lock] []) s (linkGo s p new reason) := by
    unfold linkGo
    extract_lets +onlyGivenNames old s1 s2 s3 s4
    have hs2 : Within (keeping [.lanes .lock] []) s s2 := (((Within.rfl' _ s).wr (keeping_wide.openAt (fs := [F.PCS_LINK_STATUS_STATE]))).wr
      (keeping_wide.openAt (fs := [F.PCS_LINK_STATUS_REASON]))).raiseEvent
    have hs3 : Within (keeping [.lanes .lock] []) s s3 := .ite ((hs2.clearLost keeping_allows keeping_wide.openAt).xaStopPort
      keeping_allows keeping_wide.opens) hs2
    have henter : Within (keeping [.lanes .lock] []) s (enterState s3 p new) := by
      unfold enterState
      rcases hnew with rfl | rfl
      · exact ((((((hs3.setRxAligned keeping_allows keeping_wide.openAt).setPaired keeping_allows).setLink keeping_allows).wr
          (keeping_wide.openAt (fs := [F.PCS_LINK_STATUS_PROBED]))).inc (keeping_wide.openAt (fs := [F.PCS_LINK_TIME_RESTARTS]))).foldl
            fun _ _ _ hu => hu.laneAcquire keeping_allows keeping_wide.opens keeping_wide.opens)
      · exact hs3
    have hs4 : Within (keeping [.lanes .lock] []) s s4 := henter.txFollowPort keeping_allows keeping_wide.opens keeping_wide.opens
    exact hs4.foldl fun _ _ _ hu => hu.eqRefresh keeping_wide.opens keeping_wide.opens
  exact hkept.kept (.lanes .lock)

theorem laneLost_lock (s : State) (x cause : Nat) : (laneLost s x cause).lanes.lock = s.lanes.lock := by
  unfold laneLost
  split
  · rfl
  · next p _ =>
    split
    · rfl
    · next i _ =>
      split
      · extract_lets +onlyGivenNames s1 _ s2 s3
        have hs3 : s3.lanes = s.lanes := (raiseEvent_lanes ..).trans (bump_lanes ..)
        split
        · rw [linkGo_lock (.inl rfl), hs3]
        · split
          · rw [linkGo_lock (.inr rfl), hs3]
          · rw [hs3]
      · rfl

theorem lockLost_searches (s : State) (n : Fin 8) : (lockOf (lockLost s n) n).state = 0 := by
  unfold lockLost
  rw [lockOf, laneLost_lock]
  unfold lockSearch
  extract_lets +onlyGivenNames m s1
  have hs1 : s1.lanes.lock = vSet s.lanes.lock n { m with state := 0, misses := 0, resume := 0 } := by
    have hkept : Within (keeping [.lanes .lock] []) (setLock s n { m with state := 0, misses := 0, resume := 0 }) s1 :=
      (Within.rfl' _ _).lockShowLane keeping_wide.any
    exact hkept.kept (.lanes .lock)
  have hshown : ∀ u : State, u.lanes.lock = s1.lanes.lock → (vGet u.lanes.lock n .reset).state = 0 := fun u hu => by
    rw [hu, hs1, vGet_vSet_same _ _ _ _ n.isLt]
  split
  · exact hshown _ (congrArg LaneState.lock ((raiseEvent_lanes ..).trans (bump_lanes ..)))
  · exact hshown _ rfl

theorem wandered_link (s : State) (n : Fin 8) (p q : Nat) (repeated : Bool) :
    linkState (wandered s (.line n) p false repeated) q = linkState s q := by
  have hkept : Within (keeping [] (keysAt [(F.PCS_LINK_STATUS_STATE, 0)] q)) (dropBlock s (.line n) false repeated)
      (wandered s (.line n) p false repeated) := (Within.rfl' _ _).bump.raiseEvent
  exact hkept.rd_keysAt_quiet

theorem wanderLimit_line {n : Fin 8} {repeated : Bool} (hport : lanePort s (.line n) = some p) (hruns : laneRuns s (.line n) = true)
    (hlink : linkState s p = 4 ∨ linkState s p = 5) :
    Runs (.wanderLimit (.line n) false repeated) s fun t => (lockOf t n).state = 0 := by
  have hlink' : linkState (wandered s (.line n) p false repeated) p = 4 ∨ linkState (wandered s (.line n) p false repeated) p = 5 := by
    rwa [wandered_link]
  exact runs_of_eq rfl ((wanderLimit_eq hport hruns).trans (if_pos hlink')) (lockLost_searches ..)

theorem hostUnlock_unlocked (s : State) (n : Fin 16) : rd (hostUnlock s n) F.HSL_ALIGN_STATUS_LOCKED n = 0 := by
  unfold hostUnlock
  split
  · have hkept : Within (keeping [] (keysAt [(F.HSL_ALIGN_STATUS_LOCKED, 0)] n)) (wr s F.HSL_ALIGN_STATUS_LOCKED 0 n)
        (bump (wr s F.HSL_ALIGN_STATUS_LOCKED 0 n) (cntHost n 5) 1) := (Within.rfl' _ _).bump
    exact hkept.rd_keysAt_quiet.trans (rd_wr_same ..)
  · next h =>
    have hlt : rd s F.HSL_ALIGN_STATUS_LOCKED n < 2 := rd_lt ..
    omega

theorem hostLaneDown_unlocked (s : State) (n : Fin 16) : rd (hostLaneDown s n) F.HSL_ALIGN_STATUS_LOCKED n = 0 := by
  have hn : ∀ g ∈ [(F.HSL_ALIGN_STATUS_LOCKED, 0)], n.val < g.1.place.count1 := List.forall_mem_singleton.2 n.isLt
  have hkept : Within (keeping [] (keysAt [(F.HSL_ALIGN_STATUS_LOCKED, 0)] n)) (hostUnlock s n) (hostLaneDown s n) := by
    unfold hostLaneDown
    extract_lets +onlyGivenNames s1
    split
    · exact .ite ((Within.rfl' _ s1).setTxAligned keeping_allows (keeping_any hn (a := _)) (keeping_opens hn) (keeping_opens hn))
        (Within.rfl' _ s1)
    · exact Within.rfl' _ s1
  exact hkept.rd_keysAt_quiet.trans (hostUnlock_unlocked s n)

theorem wanderLimit_host {n : Fin 16} {repeated : Bool} (hport : lanePort s (.host n) = some p) (hruns : laneRuns s (.host n) = true) :
    Runs (.wanderLimit (.host n) false repeated) s fun t => rd t F.HSL_ALIGN_STATUS_LOCKED n = 0 :=
  runs_of_eq rfl (wanderLimit_eq hport hruns) (hostLaneDown_unlocked ..)

end Wander

section Retrain

variable {s : State} {c : Cmd}

theorem OnlyReports.forwarded {v : State} (h : OnlyReports s v) : Machine.forwarded v = Machine.forwarded s := by
  simp only [Machine.forwarded, Machine.rdE, h.eff]

/-- HSL_RETRAIN trains every lane that it names (R189). -/
theorem hslRetrain_trains (htaken : Taken 0x0330 [(2, 0xFFFF)] c s) (hsome : c.w 2 ≠ 0) (hfwd : forwarded s = true)
    (hlanes : ∀ l ∈ allHost, (c.w 2).testBit l.num = true → lanePowered s l = true ∧ laneRehearsing s l = false) :
    GoesOn (.hslRetrain c) 0x0330 c s (c.w 2) 0 fun u => ∀ n : Fin 16, (c.w 2).testBit n = true → rd u F.HSL_STATUS_TRAINING n = 1 := by
  refine goesOn_of_reports (w := fun v => (allHost.filter fun l => (c.w 2).testBit l.num).foldl trainLane v) htaken rfl (fun _ _ => rfl)
    (fun v hv => ?_) fun v _ n hn => trainLanes_training (List.mem_filter.2 ⟨List.mem_map.2 ⟨n, List.mem_finRange n, rfl⟩, hn⟩)
  have hready : ∀ l ∈ allHost.filter fun l => (c.w 2).testBit l.num, lanePowered v l = true ∧ laneRehearsing v l = false := fun l hl => by
    obtain ⟨hmem, hbit⟩ := List.mem_filter.1 hl
    rw [hv.lanePowered, laneRehearsing_of_test hv.test]
    exact hlanes l hmem hbit
  unfold hslRetrain
  refine (withChecks_pass (firstFail_none _ ?_)).trans (if_neg hsome)
  simp only [List.forall_mem_cons, hv.forwarded, hfwd]
  simpa using ⟨fun l hl hbit => (hready l (List.mem_filter.2 ⟨hl, hbit⟩)).1, fun l hl hbit => (hready l (List.mem_filter.2 ⟨hl, hbit⟩)).2⟩

end Retrain

/-- Settles O43: the PLLs lose and regain their lock, host lanes train and track, wander limits act. -/
theorem lockAndTrainingCommandsComplete : Obligations.LockAndTrainingCommandsComplete :=
  ⟨fun _ hlocked => sysPllLockLoss_shows hlocked, fun _ hlost hmode => sysPllRelock_shows hlost hmode,
    fun _ _ _ hlocked => pllLockLoss_shows hlocked, fun _ _ htrain hruns => hslTrainTimeout_shows htrain hruns,
    fun _ _ _ => hslTrackWindow_shows, fun _ _ _ _ hport hruns => wanderLimit_transmits hport hruns,
    fun _ _ _ _ hport hruns hlink => wanderLimit_line hport hruns hlink, fun _ _ _ _ hport hruns => wanderLimit_host hport hruns,
    fun _ _ htaken hsome hfwd hlanes => hslRetrain_trains htaken hsome hfwd hlanes⟩

end Sys2Proof.Machine
end

section
/-! PROOFS. Register writes (R314, R336-R340, R344, R348, R351). -/

namespace Sys2Proof.Machine

open Sys2Proof

set_option Elab.async false

/-! What a word writes of a register's fields. -/

section Fields

variable {s : State} {a d i j : Nat} {r : RegInfo}

/-- A register's fields stand in its own word, at different bits. -/
abbrev FieldsSpread (r : RegInfo) : Prop := (∀ f ∈ r.fields, f.place = r.place ∧ f.lo < 32) ∧ (r.fields.map (·.lo)).Nodup

theorem regTable_spread : ∀ r ∈ regTable, FieldsSpread r := by decide +kernel

theorem findReg_of_target (h : target a = .mainReg r i j) : findReg a = some (r, i, j) := by
  unfold target at h
  split at h
  · cases h
  · split at h
    · cases h
    · split at h
      · next heq => cases h; exact heq
      · split at h
        · cases h
        · split at h
          · split at h <;> cases h
          · cases h

theorem found_of_target (h : target a = .mainReg r i j) : r ∈ regTable ∧ r.place.find a = some (i, j) := by
  obtain ⟨r', hr', hfind⟩ := List.exists_of_findSome?_eq_some (findReg_of_target h)
  obtain ⟨ij, hij, heq⟩ := Option.map_eq_some_iff.1 hfind
  cases heq
  exact ⟨hr', hij⟩

theorem addr_of_find {p : RegPlace} (h : p.find a = some (i, j)) : p.base + i * p.stride1 + j * p.stride2 = a := by
  unfold RegPlace.find at h
  split at h
  · cases h
  · extract_lets +onlyGivenNames d x y at h
    split at h
    · next hd =>
      obtain ⟨rfl, rfl⟩ := Prod.mk.inj (Option.some.inj h)
      obtain ⟨-, -, hd⟩ := hd
      omega
    · cases h

/-- A field of the register at an address has its bits in the word of the address. -/
theorem key_of_target {f : Field} (h : target a = .mainReg r i j) (hf : f ∈ r.fields) : f.key i j = a * 32 + f.lo ∧ f.lo < 32 := by
  obtain ⟨hr, hfind⟩ := found_of_target h
  obtain ⟨hplace, hlo⟩ := (regTable_spread r hr).1 f hf
  rw [Field.key, hplace, addr_of_find hfind]
  exact ⟨rfl, hlo⟩

theorem fieldWrite_rd_other {f g : Field} (h : g.key i j ≠ f.key i j) : rd (fieldWrite s f i j d) g i j = rd s g i j := by
  unfold fieldWrite
  dsimp only
  split
  · exact rd_wr_other _ _ _ _ _ _ _ _ h
  · exact rd_wr_other _ _ _ _ _ _ _ _ h
  · exact rd_wr_other _ _ _ _ _ _ _ _ h
  · split
    · exact rd_wr_other _ _ _ _ _ _ _ _ h
    · rfl
  · split
    · exact rd_wr_other _ _ _ _ _ _ _ _ h
    · rfl
  · rfl

theorem fieldWrite_rd_same {f : Field} (h : f.ty = .rw ∨ f.ty = .rs) :
    rd (fieldWrite s f i j d) f i j = d / 2 ^ f.lo % 2 ^ f.width := by
  unfold fieldWrite
  rcases h with h | h <;> simp only [h, rd_wr_same, Nat.mod_mod]

/-- Of fields at different bits of one word, each that a write sets takes its bits. -/
theorem fieldWrites_rd {fs : List Field} {f : Field} (hkeys : ∀ g ∈ fs, g.key i j = a * 32 + g.lo) (hspread : (fs.map (·.lo)).Nodup)
    (hf : f ∈ fs) (hty : f.ty = .rw ∨ f.ty = .rs) :
    rd (fs.foldl (fun t g => fieldWrite t g i j d) s) f i j = d / 2 ^ f.lo % 2 ^ f.width := by
  have hstay : ∀ (gs : List Field) (t : State), (∀ g ∈ gs, g.key i j = a * 32 + g.lo) → f.lo ∉ gs.map (·.lo) → f.key i j = a * 32 + f.lo →
      rd (gs.foldl (fun t g => fieldWrite t g i j d) t) f i j = rd t f i j := by
    intro gs
    induction gs with
    | nil => exact fun _ _ _ _ => rfl
    | cons g gs ih =>
      intro t hk hlo hfk
      rw [List.map_cons, List.mem_cons, not_or] at hlo
      obtain ⟨hkg, hkgs⟩ := List.forall_mem_cons.1 hk
      exact (ih _ hkgs hlo.2 hfk).trans (fieldWrite_rd_other (by omega))
  induction fs generalizing s with
  | nil => cases hf
  | cons g gs ih =>
    obtain ⟨hkg, hkgs⟩ := List.forall_mem_cons.1 hkeys
    rw [List.map_cons, List.nodup_cons] at hspread
    rcases List.mem_cons.1 hf with rfl | hf
    · exact (hstay gs _ hkgs hspread.1 hkg).trans (fieldWrite_rd_same hty)
    · exact ih hkgs hspread.2 hf

theorem fieldWrite_eff (s : State) (f : Field) (i j d : Nat) : (fieldWrite s f i j d).eff = s.eff := by
  unfold fieldWrite
  dsimp only
  split
  · rfl
  · rfl
  · rfl
  · split
    · rfl
    · rfl
  · split
    · rfl
    · rfl
  · rfl

theorem fieldWrites_eff (fs : List Field) (i j d : Nat) (s : State) :
    (fs.foldl (fun t f => fieldWrite t f i j d) s).eff = s.eff := by
  induction fs generalizing s with
  | nil => rfl
  | cons f fs ih => exact (ih _).trans (fieldWrite_eff ..)

/-- Registers whose writes do more than set fields. -/
abbrev actingRegs : List Nat :=
  [Regs.CUE_LATCH.base, Regs.LRX_SPOT_CTRL.base, Regs.SNS_SYNC.base, Regs.SNAP_CTRL.base, Regs.GO_FIRE.base,
    Regs.GO_DISCARD.base, Regs.BDAC_CEIL_c.base, Regs.CNT_SLOT_s.base, Regs.RING_LAYOUT.base, Regs.DB_CPL_ACK.base,
    Regs.DB_EVT_ACK.base, Regs.PWR_WAKE_CFG.base]

theorem writeAction_none {s0 : State} {base : Nat} (h : base ∉ actingRegs) : writeAction s0 s base i d = s := by
  simp only [actingRegs, List.mem_cons, List.not_mem_nil, or_false, not_or] at h
  obtain ⟨h1, h2, h3, h4, h5, h6, h7, h8, h9, h10, h11, h12⟩ := h
  simp only [writeAction, h1, h2, h3, h4, h5, h6, h7, h8, h9, h10, h11, h12, if_false]

/-- A write of a register that only holds fields, but for what its reserved bits count. -/
theorem writeApply_fields (ht : target a = .mainReg r i j) (hdress : dressTested s a = false) (hact : r.place.base ∉ actingRegs) :
    writeApply s a d = r.fields.foldl (fun t f => fieldWrite t f i j d) (if reservedBits r d then bump s 0x750 1 else s) := by
  unfold writeApply
  rw [ht]
  dsimp only
  rw [hdress, if_neg Bool.false_ne_true, writeAction_none hact]

theorem writeApply_window (ha : a % 4 = 0) (hw : inWindow a = true) : writeApply s a d = putWords s a [d] := by
  have ht : target a = .window := by rw [target, if_neg (by omega), if_pos hw]
  rw [writeApply, ht]

theorem writeRefusal_window (ha : a % 4 = 0) (hw : inWindow a = true) (hro : windowReadOnly s a = false) : writeRefusal s a d = none := by
  have ht : target a = .window := by rw [target, if_neg (by omega), if_pos hw]
  rw [writeRefusal, ht]
  exact if_neg (by simp [hro])

end Fields

/-! An accepted write (R314, R336, R337). -/

section Accepted

variable {s : State} {iface : Iface} {a : BitVec 24} {d : Word}

theorem oneWrite_accepted {a d : Nat} (hup : deviceUp s = true) (h : writeRefusal s a d = none) :
    oneWrite iface a d s = signalWrite iface (writeApply s a d) none := by
  unfold oneWrite ifaceWrite
  rw [if_pos hup, h]
  rfl

theorem exec_registerWrite_accepted (hup : deviceUp s = true) (h : writeRefusal s a.toNat d.toNat = none) :
    exec (.registerWrite iface a d []) s = .next (signalWrite iface (writeApply s a.toNat d.toNat) none) :=
  congrArg Host.Outcome.next (oneWrite_accepted hup h)

/-- A word that the window takes reads back, and its other bytes stay. -/
theorem window_takes {w : List Host.Cell} {m : List Host.Cell} {c : Nat} (hc : c < 2 ^ 32) (h : w = winPutWords m a.toNat [c]) :
    winWord w a.toNat = c ∧ ∀ k, k < a.toNat ∨ a.toNat + 4 ≤ k → winByte w k = winByte m k := by
  subst h
  exact ⟨(winWord_winPutWords [c] m a.toNat (k := 0) Nat.one_pos).trans (Nat.mod_eq_of_lt hc),
    fun k hk => winByte_winPutWords_other [c] m (by simpa using hk)⟩

theorem registerWrite_window (hup : deviceUp s = true) (ha : a.toNat % 4 = 0) (hw : inWindow a.toNat = true)
    (hro : windowReadOnly s a.toNat = false) : Runs (.registerWrite iface a d []) s fun t => winWord t.mgmt.window a.toNat = d.toNat ∧
      (∀ c, c < a.toNat ∨ a.toNat + 4 ≤ c → winByte t.mgmt.window c = winByte s.mgmt.window c) := by
  refine ⟨_, exec_registerWrite_accepted hup (writeRefusal_window ha hw hro), window_takes d.isLt ?_⟩
  rw [signalWrite_window, writeApply_window ha hw]
  rfl

theorem signalWrite_eff (iface : Iface) (s : State) (cause : Option Nat) : (signalWrite iface s cause).eff = s.eff := by cases iface <;> rfl

theorem registerWrite_fields {r : RegInfo} {i j : Nat} (hup : deviceUp s = true) (ht : target a.toNat = .mainReg r i j)
    (h : writeRefusal s a.toNat d.toNat = none) (hdress : dressTested s a.toNat = false) (hact : r.place.base ∉ actingRegs) :
    Runs (.registerWrite iface a d []) s fun t => t.eff = s.eff ∧
      ∀ f ∈ r.fields, (f.ty = .rw ∨ f.ty = .rs) → rd t f i j = d.toNat / 2 ^ f.lo % 2 ^ f.width := by
  refine ⟨_, exec_registerWrite_accepted hup h, ?_, fun f hf hty => ?_⟩
  · rw [signalWrite_eff, writeApply_fields ht hdress hact, fieldWrites_eff]
    split
    · exact (bump_reports ..).eff
    · rfl
  · rw [signalWrite_rd, writeApply_fields ht hdress hact]
    exact fieldWrites_rd (fun g hg => (key_of_target ht hg).1) (regTable_spread r (found_of_target ht).1).2 hf hty

end Accepted

/-! A cycle of writes only (R344, R351). -/

section Cycle

variable {s : State} {iface who : Iface} {a : BitVec 24} {d e : Word}

theorem cancelCues_none {p : Cue → Bool} (h : ∀ c, p c = false) (s : State) (reason : Nat) : cancelCues s p reason = s := by
  unfold cancelCues
  induction List.range 64 with
  | nil => rfl
  | cons k ks ih =>
    rw [List.foldl_cons]
    split
    · rw [h, if_neg Bool.false_ne_true, ih]
    · exact ih

/-- Where nothing fires, the joined firing leaves the state. -/
theorem joinedFire_idle (s : State) : joinedFire 0 [] s = s := by
  have hsort : (List.flatMap (dueNow s s) []).mergeSort (fun a b => decide (a.entry ≤ b.entry)) = [] := List.mergeSort_nil
  exact (congrArg (fireCodeword 0 s) hsort).trans (cancelCues_none (fun _ => rfl) s 3)

/-- What a cycle of these writes comes to, where none fires. -/
def writesEnd (xs : List BusAccess) (words : List (Nat × Nat × Bool)) (s : State) : State :=
  let r := xs.foldl cycleWrite (words.foldl lostFound (rearm s xs), [])
  r.2.foldl cycleEnd (collide s (rearm s xs) r.1 xs)

theorem cycle_writes {accs xs : List BusAccess} {words : List (Nat × Nat × Bool)} (hup : deviceUp s = true) (hxs : oneEach accs = xs)
    (hreads : xs.filter (·.data.isNone) = []) (hgo : cycleData s xs Regs.GO_FIRE.base = []) :
    cycle 0 accs [] words s = writesEnd xs words s := by
  unfold cycle
  dsimp only
  rw [if_pos hup, hxs, hreads, hgo]
  simp only [List.foldl_nil, joinedFire_idle]
  rfl

theorem oneEach_one (x : BusAccess) : oneEach [x] = [x] := by
  obtain ⟨i, a, d⟩ := x
  cases i <;> rfl

theorem oneEach_two {x y : BusAccess} (h : x.iface ≠ y.iface) :
    oneEach [x, y] = if x.iface.num < y.iface.num then [x, y] else [y, x] := by
  obtain ⟨i, a, d⟩ := x
  obtain ⟨k, b, e⟩ := y
  cases i with
  | i2cA => cases k with
    | i2cA => exact absurd rfl h
    | spi => rfl
    | core => rfl
  | spi => cases k with
    | i2cA => rfl
    | spi => exact absurd rfl h
    | core => rfl
  | core => cases k with
    | i2cA => rfl
    | spi => rfl
    | core => exact absurd rfl h

theorem cycleEnd_accepted (s : State) (iface : Iface) (a d w : Nat) :
    cycleEnd s ⟨⟨iface, a, some d⟩, w, none⟩ = signalWrite iface s none := rfl

theorem cycleWrite_accepted {as : List BusAnswer} {a d : Nat} (h : writeRefusal s a d = none) :
    cycleWrite (s, as) ⟨iface, a, some d⟩ = (writeApply s a (dataDone a d), as ++ [⟨⟨iface, a, some d⟩, 0, none⟩]) := by
  simp only [cycleWrite, h]

theorem cycleWrite_refused {as : List BusAnswer} {a d cause : Nat} (h : writeRefusal s a d = some cause) :
    cycleWrite (s, as) ⟨iface, a, some d⟩ = (busError s iface.num cause a, as ++ [⟨⟨iface, a, some d⟩, 0, some cause⟩]) := by
  simp only [cycleWrite, h]

/-- A cycle in which neither capture takes an error has no collision. -/
theorem collide_none {s0 s1 : State} {xs : List BusAccess} (hbus : rd s F.REGIF_ERR_INFO_VALID = rd s1 F.REGIF_ERR_INFO_VALID)
    (hmem : rd s F.MEM_ERR_INFO_VALID = rd s1 F.MEM_ERR_INFO_VALID) : collide s0 s1 s xs = s := by
  have hbus' : ¬(rd s1 F.REGIF_ERR_INFO_VALID = 0 ∧ rd s F.REGIF_ERR_INFO_VALID = 1) := by omega
  have hmem' : ¬(rd s1 F.MEM_ERR_INFO_VALID = 0 ∧ rd s F.MEM_ERR_INFO_VALID = 1) := by omega
  simp only [collide, if_neg hbus', if_neg hmem']

theorem collide_reports (s0 s1 s : State) (xs : List BusAccess) : OnlyReports s (collide s0 s1 s xs) := by
  have hone : ∀ (u : State) (c : Prop) [Decidable c] (n : Nat), OnlyReports u (if c then bump u 0x751 n else u) := fun u c _ n => by
    split
    · exact bump_reports ..
    · exact .rfl' u
  exact (hone s _ _).trans (hone _ _ _)

theorem cycleData_window {xs : List BusAccess} (h : ∀ x ∈ xs, target x.addr = .window) (base : Nat) : cycleData s xs base = [] := by
  refine List.filterMap_eq_nil_iff.2 fun x hx => ?_
  rw [h x hx]
  split
  · next heq => cases heq
  · rfl

theorem target_window {a : Nat} (ha : a % 4 = 0) (hw : inWindow a = true) : target a = .window := by
  rw [target, if_neg (by omega), if_pos hw]

theorem dataDone_window {a d : Nat} (hw : inWindow a = true) : dataDone a d = d := by
  have hbase : windowBase ≤ a := of_decide_eq_true (Bool.and_eq_true_iff.1 hw).1
  have hgo : a ≠ Regs.GO_FIRE.base := fun h => absurd (h ▸ hbase) (by decide)
  have hbus : a ≠ Regs.REGIF_ERR_INFO.base := fun h => absurd (h ▸ hbase) (by decide)
  have hmem : a ≠ Regs.MEM_ERR_INFO.base := fun h => absurd (h ▸ hbase) (by decide)
  rw [dataDone, if_neg hgo, isCapture, if_neg (by simp [hbus, hmem])]

theorem rearm_none {xs : List BusAccess} (hbus : cycleData s xs Regs.REGIF_ERR_INFO.base = [])
    (hmem : cycleData s xs Regs.MEM_ERR_INFO.base = []) : rearm s xs = s := by
  simp [rearm, hbus, hmem]

/-- Of two writes of one word of the window in a cycle, the later interface's stands (R344). -/
theorem registerWrite_later (hup : deviceUp s = true) (hlt : iface.num < who.num) (ha : a.toNat % 4 = 0) (hw : inWindow a.toNat = true)
    (hro : windowReadOnly s a.toNat = false) :
    Runs (.registerWrite iface a d [.write who a e]) s fun t => winWord t.mgmt.window a.toNat = e.toNat ∧
      (∀ c, c < a.toNat ∨ a.toNat + 4 ≤ c → winByte t.mgmt.window c = winByte s.mgmt.window c) := by
  have hne : iface ≠ who := fun h => absurd (h ▸ hlt) (lt_irrefl _)
  have ht := target_window ha hw
  have hdata : ∀ base, cycleData s [⟨iface, a.toNat, some d.toNat⟩, ⟨who, a.toNat, some e.toNat⟩] base = [] :=
    cycleData_window (by simp [ht])
  have hcycle := cycle_writes (accs := [⟨iface, a.toNat, some d.toNat⟩, ⟨who, a.toNat, some e.toNat⟩]) (words := []) hup
    ((oneEach_two hne).trans (if_pos hlt)) rfl (hdata _)
  refine runs_of_eq rfl hcycle ?_
  unfold writesEnd
  rw [rearm_none (hdata _) (hdata _), List.foldl_nil, List.foldl_cons, cycleWrite_accepted (writeRefusal_window ha hw hro),
    dataDone_window hw, writeApply_window ha hw, List.foldl_cons,
    cycleWrite_accepted (s := putWords s a.toNat [d.toNat]) (writeRefusal_window ha hw hro),
    dataDone_window hw, writeApply_window ha hw, List.foldl_nil]
  dsimp only
  rw [collide_none (s := putWords (putWords s a.toNat [d.toNat]) a.toNat [e.toNat]) (s1 := s) rfl rfl]
  have hwin : (signalWrite who (signalWrite iface (putWords (putWords s a.toNat [d.toNat]) a.toNat [e.toNat]) none) none).mgmt.window =
      winPutWords (winPutWords s.mgmt.window a.toNat [d.toNat]) a.toNat [e.toNat] := by
    rw [signalWrite_window, signalWrite_window]
    rfl
  obtain ⟨hword, hrest⟩ := window_takes e.isLt hwin
  refine ⟨hword, fun c hc => (hrest c hc).trans ?_⟩
  exact winByte_winPutWords_other [d.toNat] _ (by simpa using hc)

end Cycle

/-! The error captures rearm, and what falls in the same cycle (R340, R351). -/

section Rearm

variable {s : State} {iface who : Iface} {a : BitVec 24} {d : Word}

/-- The two captures, as the register file holds them. -/
def busInfo : RegInfo :=
  ⟨Regs.REGIF_ERR_INFO, [F.REGIF_ERR_INFO_VALID, F.REGIF_ERR_INFO_INTERFACE, F.REGIF_ERR_INFO_CAUSE, F.REGIF_ERR_INFO_ADDR]⟩

def memInfo : RegInfo :=
  ⟨Regs.MEM_ERR_INFO, [F.MEM_ERR_INFO_VALID, F.MEM_ERR_INFO_SCRUB, F.MEM_ERR_INFO_BANK, F.MEM_ERR_INFO_ADDR]⟩

theorem target_busInfo : target Regs.REGIF_ERR_INFO.base = .mainReg busInfo 0 0 := rfl

theorem target_memInfo : target Regs.MEM_ERR_INFO.base = .mainReg memInfo 0 0 := rfl

theorem regRefusal_busInfo (s : State) (d : Nat) : regRefusal s busInfo 0 0 d = none := by
  have hspent : (s.mgmt.layoutSpent && busInfo.fields.any (·.ty == .w1)) = false := Bool.and_false _
  unfold regRefusal
  rw [hspent]
  rfl

theorem regRefusal_memInfo (s : State) (d : Nat) : regRefusal s memInfo 0 0 d = none := by
  have hspent : (s.mgmt.layoutSpent && memInfo.fields.any (·.ty == .w1)) = false := Bool.and_false _
  unfold regRefusal
  rw [hspent]
  rfl

theorem dressTested_busInfo (s : State) : dressTested s Regs.REGIF_ERR_INFO.base = false := Bool.and_false _

theorem dressTested_memInfo (s : State) : dressTested s Regs.MEM_ERR_INFO.base = false := Bool.and_false _

theorem writeRefusal_busInfo (s : State) (d : Nat) : writeRefusal s Regs.REGIF_ERR_INFO.base d = none := by
  have hgate : gatedAddr s Regs.REGIF_ERR_INFO.base = false := Bool.false_and _
  rw [writeRefusal, target_busInfo]
  dsimp only
  rw [hgate, dressTested_busInfo, regRefusal_busInfo]
  rfl

theorem writeRefusal_memInfo (s : State) (d : Nat) : writeRefusal s Regs.MEM_ERR_INFO.base d = none := by
  have hgate : gatedAddr s Regs.MEM_ERR_INFO.base = false := Bool.false_and _
  rw [writeRefusal, target_memInfo]
  dsimp only
  rw [hgate, dressTested_memInfo, regRefusal_memInfo]
  rfl

/-- A write of 0 to a capture's VALID, which the cycle has rearmed already, does no more. -/
theorem writeApply_busInfo (s : State) : writeApply s Regs.REGIF_ERR_INFO.base (dataDone Regs.REGIF_ERR_INFO.base 0) = s := by
  rw [writeApply, target_busInfo]
  dsimp only
  rw [dressTested_busInfo]
  rfl

theorem writeApply_memInfo (s : State) : writeApply s Regs.MEM_ERR_INFO.base (dataDone Regs.MEM_ERR_INFO.base 0) = s := by
  rw [writeApply, target_memInfo]
  dsimp only
  rw [dressTested_memInfo]
  rfl

theorem cycleData_cons {s : State} {base : Nat} (x : BusAccess) (xs : List BusAccess) :
    cycleData s (x :: xs) base = cycleData s [x] base ++ cycleData s xs base := by
  unfold cycleData
  exact List.filterMap_append (l := [x])

/-- A refused write carries no data to a register. -/
theorem cycleData_refused {a d cause base : Nat} (h : writeRefusal s a d = some cause) : cycleData s [⟨iface, a, some d⟩] base = [] := by
  unfold cycleData
  refine List.filterMap_eq_nil_iff.2 fun x hx => ?_
  obtain rfl := List.mem_singleton.1 hx
  dsimp only
  split
  · next d' r i j heq _ =>
    cases heq
    exact if_neg (by simp [h])
  · rfl

theorem cycleData_own {r : RegInfo} {base d : Nat} (ht : target r.place.base = .mainReg r 0 0) (hn : writeRefusal s r.place.base d = none)
    (hdress : dressTested s r.place.base = false) :
    cycleData s [⟨iface, r.place.base, some d⟩] base = if r.place.base = base then [d] else [] := by
  by_cases hb : r.place.base = base
  · subst hb
    simp [cycleData, ht, hn, hdress]
  · simp [cycleData, ht, hn, hdress, hb]

theorem cycleData_busOwn (s : State) (iface : Iface) (base : Nat) :
    cycleData s [⟨iface, Regs.REGIF_ERR_INFO.base, some 0⟩] base = if Regs.REGIF_ERR_INFO.base = base then [0] else [] :=
  cycleData_own (r := busInfo) target_busInfo (writeRefusal_busInfo s 0) (dressTested_busInfo s)

theorem cycleData_memOwn (s : State) (iface : Iface) (base : Nat) :
    cycleData s [⟨iface, Regs.MEM_ERR_INFO.base, some 0⟩] base = if Regs.MEM_ERR_INFO.base = base then [0] else [] :=
  cycleData_own (r := memInfo) target_memInfo (writeRefusal_memInfo s 0) (dressTested_memInfo s)

theorem rearm_bus {xs : List BusAccess} (hbus : cycleData s xs Regs.REGIF_ERR_INFO.base = [0])
    (hmem : cycleData s xs Regs.MEM_ERR_INFO.base = []) : rearm s xs = wr s F.REGIF_ERR_INFO_VALID 0 := by
  simp [rearm, hbus, hmem]

theorem rearm_mem {xs : List BusAccess} (hbus : cycleData s xs Regs.REGIF_ERR_INFO.base = [])
    (hmem : cycleData s xs Regs.MEM_ERR_INFO.base = [0]) : rearm s xs = wr s F.MEM_ERR_INFO_VALID 0 := by
  simp [rearm, hbus, hmem]

theorem regifErrInfoRearm_clears (hup : deviceUp s = true) : Runs (.regifErrInfoRearm iface []) s fun t =>
    rd t F.REGIF_ERR_INFO_VALID = 0 := by
  have hcycle := cycle_writes (accs := [⟨iface, Regs.REGIF_ERR_INFO.base, some 0⟩]) (words := []) hup (oneEach_one _) rfl
    (cycleData_busOwn ..)
  refine runs_of_eq rfl hcycle ?_
  unfold writesEnd
  rw [rearm_bus (cycleData_busOwn ..) (cycleData_busOwn ..), List.foldl_nil, List.foldl_cons,
    cycleWrite_accepted (writeRefusal_busInfo ..), writeApply_busInfo, List.foldl_nil]
  dsimp only
  rw [collide_none rfl rfl]
  exact (signalWrite_rd ..).trans (rd_wr_same ..)

theorem memErrInfoRearm_clears (hup : deviceUp s = true) : Runs (.memErrInfoRearm iface []) s fun t =>
    rd t F.MEM_ERR_INFO_VALID = 0 := by
  have hcycle := cycle_writes (accs := [⟨iface, Regs.MEM_ERR_INFO.base, some 0⟩]) (words := []) hup (oneEach_one _) rfl
    (cycleData_memOwn ..)
  refine runs_of_eq rfl hcycle ?_
  unfold writesEnd
  rw [rearm_mem (cycleData_memOwn ..) (cycleData_memOwn ..), List.foldl_nil, List.foldl_cons,
    cycleWrite_accepted (writeRefusal_memInfo ..), writeApply_memInfo, List.foldl_nil]
  dsimp only
  rw [collide_none rfl rfl]
  exact (signalWrite_rd ..).trans (rd_wr_same ..)

/-! A refused write beside the rearming. -/

/-- The rules of a register's own about a value do not read the capture. -/
theorem valueRefused_rearmed (s : State) (base d : Nat) : valueRefused (wr s F.REGIF_ERR_INFO_VALID 0) base d = valueRefused s base d := by
  have hcmd : rd (wr s F.REGIF_ERR_INFO_VALID 0) F.DB_CMD_PROD = rd s F.DB_CMD_PROD := rd_wr_apart ..
  have hcons : rd (wr s F.REGIF_ERR_INFO_VALID 0) F.RING_CMD_CONS_CONS = rd s F.RING_CMD_CONS_CONS := rd_wr_apart ..
  have hsize : rd (wr s F.REGIF_ERR_INFO_VALID 0) F.RING_LAYOUT_CMD_SZ = rd s F.RING_LAYOUT_CMD_SZ := rd_wr_apart ..
  have hcpl : rd (wr s F.REGIF_ERR_INFO_VALID 0) F.RING_CPL_PROD_PROD = rd s F.RING_CPL_PROD_PROD := rd_wr_apart ..
  have hcplAck : rd (wr s F.REGIF_ERR_INFO_VALID 0) F.DB_CPL_ACK_ACK = rd s F.DB_CPL_ACK_ACK := rd_wr_apart ..
  have hevt : rd (wr s F.REGIF_ERR_INFO_VALID 0) F.RING_EVT_PROD_PROD = rd s F.RING_EVT_PROD_PROD := rd_wr_apart ..
  have hevtAck : rd (wr s F.REGIF_ERR_INFO_VALID 0) F.DB_EVT_ACK_ACK = rd s F.DB_EVT_ACK_ACK := rd_wr_apart ..
  simp only [valueRefused, layoutOk, cmdFill, cplFill, evtFill, cmdRingSize, hcmd, hcons, hsize, hcpl, hcplAck, hevt, hevtAck]
  rfl

theorem regRefusal_rearmed {r : RegInfo} {i j : Nat} (hkeys : ∀ f ∈ r.fields, f.key i j ≠ F.REGIF_ERR_INFO_VALID.key 0 0) (d : Nat) :
    regRefusal (wr s F.REGIF_ERR_INFO_VALID 0) r i j d = regRefusal s r i j d := by
  have hlock : (r.fields.any fun f => f.ty == .lk && rd (wr s F.REGIF_ERR_INFO_VALID 0) f i j == 1) =
      r.fields.any fun f => f.ty == .lk && rd s f i j == 1 := by
    refine Bool.eq_iff_iff.2 ?_
    simp only [List.any_eq_true]
    exact exists_congr fun f => and_congr_right fun hf => by rw [rd_wr_other _ _ _ _ _ _ _ _ (hkeys f hf)]
  simp only [regRefusal, hlock, valueRefused_rearmed]
  rfl

/-- The rearming refuses no other register's write, and none less. -/
theorem writeRefusal_rearmed {a d : Nat} (ha : a ≠ Regs.REGIF_ERR_INFO.base) :
    writeRefusal (wr s F.REGIF_ERR_INFO_VALID 0) a d = writeRefusal s a d := by
  have hcmis : rd (wr s F.REGIF_ERR_INFO_VALID 0) F.RING_LAYOUT_CMIS_EN = rd s F.RING_LAYOUT_CMIS_EN := rd_wr_apart ..
  unfold writeRefusal
  split
  · rfl
  · simp only [windowReadOnly, hcmis]
    rfl
  · rfl
  · next r i j ht =>
    have hkeys : ∀ f ∈ r.fields, f.key i j ≠ F.REGIF_ERR_INFO_VALID.key 0 0 := fun f hf heq => by
      obtain ⟨hkey, hlo⟩ := key_of_target ht hf
      rw [hkey] at heq
      have hvalid : F.REGIF_ERR_INFO_VALID.key 0 0 = Regs.REGIF_ERR_INFO.base * 32 + 31 := rfl
      omega
    rw [regRefusal_rearmed hkeys]
    rfl

theorem busError_signals (s : State) (iface cause a : Nat) :
    Signals (captureTaken (bump s 0x750 1) iface cause a) (busError s iface cause a) := by
  simp only [busError]
  split
  · exact Signals.lockedWrite ..
  · exact ⟨rfl, .rfl' _, fun _ _ => rfl, rfl⟩

theorem cycleEnd_signals (s : State) {x : BusAnswer} (h : x.acc.data.isSome = true) : Signals s (cycleEnd s x) := by
  unfold cycleEnd
  dsimp only
  rw [if_pos h]
  exact (Signals.busReport ..).trans (Signals.signalWrite ..)

theorem cycleEnds_rd {as : List BusAnswer} (h : ∀ x ∈ as, x.acc.data.isSome = true) (f : Field) (hf : f.key 0 0 ∉ reportKeys) (s : State) :
    rd (as.foldl cycleEnd s) f = rd s f := by
  induction as generalizing s with
  | nil => rfl
  | cons x as ih =>
    obtain ⟨hx, has⟩ := List.forall_mem_cons.1 h
    exact (ih has _).trans (rd_eq_of_aGet ((cycleEnd_signals s hx).fld _ hf))

/-- A cycle's answers to writes alone are of writes. -/
theorem cycleWrites_answers (xs : List BusAccess) (q : State × List BusAnswer) (h : ∀ x ∈ q.2, x.acc.data.isSome = true) :
    ∀ x ∈ (xs.foldl cycleWrite q).2, x.acc.data.isSome = true := by
  induction xs generalizing q with
  | nil => exact h
  | cons x xs ih =>
    refine ih _ ?_
    unfold cycleWrite
    split
    · exact h
    · next d hd =>
      intro y hy
      rcases List.mem_append.1 hy with hy | hy
      · exact h y hy
      · rw [List.mem_singleton.1 hy, hd]
        rfl

/-- Either write first, the rearmed capture takes the error. -/
theorem rearmWrites_state {xs : List BusAccess} {cause : Nat} (hcause : writeRefusal s a.toNat d.toNat = some cause)
    (ha : a.toNat ≠ Regs.REGIF_ERR_INFO.base)
    (hxs : xs = [⟨iface, Regs.REGIF_ERR_INFO.base, some 0⟩, ⟨who, a.toNat, some d.toNat⟩] ∨
      xs = [⟨who, a.toNat, some d.toNat⟩, ⟨iface, Regs.REGIF_ERR_INFO.base, some 0⟩]) :
    (xs.foldl cycleWrite (wr s F.REGIF_ERR_INFO_VALID 0, [])).1 = busError (wr s F.REGIF_ERR_INFO_VALID 0) who.num cause a.toNat := by
  have hrefused := (writeRefusal_rearmed (d := d.toNat) ha).trans hcause
  rcases hxs with rfl | rfl
  · rw [List.foldl_cons, cycleWrite_accepted (writeRefusal_busInfo ..), writeApply_busInfo, List.foldl_cons,
      cycleWrite_refused hrefused, List.foldl_nil]
  · rw [List.foldl_cons, cycleWrite_refused hrefused, List.foldl_cons, cycleWrite_accepted (writeRefusal_busInfo ..),
      writeApply_busInfo, List.foldl_nil]

/-- A refused write of another interface in the cycle is captured. -/
theorem regifErrInfoRearm_captures {cause : Nat} (hup : deviceUp s = true) (hne : who ≠ iface)
    (hrefused : writeRefusal s a.toNat d.toNat = some cause) :
    Runs (.regifErrInfoRearm iface [.write who a d]) s fun t => rd t F.REGIF_ERR_INFO_VALID = 1 ∧
      rd t F.REGIF_ERR_INFO_INTERFACE = who.num ∧ rd t F.REGIF_ERR_INFO_CAUSE = cause ∧
      rd t F.REGIF_ERR_INFO_ADDR = a.toNat := by
  have ha : a.toNat ≠ Regs.REGIF_ERR_INFO.base := fun heq => by
    rw [heq, writeRefusal_busInfo] at hrefused
    cases hrefused
  obtain ⟨xs, hxs, heach⟩ : ∃ xs : List BusAccess,
      (xs = [⟨iface, Regs.REGIF_ERR_INFO.base, some 0⟩, ⟨who, a.toNat, some d.toNat⟩] ∨
        xs = [⟨who, a.toNat, some d.toNat⟩, ⟨iface, Regs.REGIF_ERR_INFO.base, some 0⟩]) ∧
      oneEach [⟨iface, Regs.REGIF_ERR_INFO.base, some 0⟩, ⟨who, a.toNat, some d.toNat⟩] = xs := by
    have htwo := oneEach_two (x := ⟨iface, Regs.REGIF_ERR_INFO.base, some 0⟩) (y := ⟨who, a.toNat, some d.toNat⟩) hne.symm
    split at htwo
    · exact ⟨_, .inl rfl, htwo⟩
    · exact ⟨_, .inr rfl, htwo⟩
  have hdata : ∀ base, cycleData s xs base = if Regs.REGIF_ERR_INFO.base = base then [0] else [] := fun base => by
    rcases hxs with rfl | rfl
    · rw [cycleData_cons, cycleData_busOwn, cycleData_refused hrefused, List.append_nil]
    · rw [cycleData_cons, cycleData_busOwn, cycleData_refused hrefused, List.nil_append]
  have hreads : xs.filter (·.data.isNone) = [] := by
    rcases hxs with rfl | rfl
    · rfl
    · rfl
  have hwrites := rearmWrites_state hrefused ha hxs
  have has := cycleWrites_answers xs (wr s F.REGIF_ERR_INFO_VALID 0, []) (by simp)
  refine runs_of_eq rfl (cycle_writes (words := []) hup heach hreads (hdata _)) ?_
  unfold writesEnd
  rw [rearm_bus (hdata _) (hdata _), List.foldl_nil]
  dsimp only
  rw [hwrites]
  generalize (xs.foldl cycleWrite (wr s F.REGIF_ERR_INFO_VALID 0, [])).2 = as at has ⊢
  generalize hs1 : wr s F.REGIF_ERR_INFO_VALID 0 = s1
  have hzero : rd (bump s1 0x750 1) F.REGIF_ERR_INFO_VALID = 0 := by
    rw [(bump_reports ..).rd _ _ _ (by decide), ← hs1]
    exact rd_wr_same ..
  have hshown : ∀ f ∈ captureShown, rd (as.foldl cycleEnd (collide s s1 (busError s1 who.num cause a.toNat) xs)) f =
      rd (errCapture (bump s1 0x750 1) who.num cause a.toNat) f := fun f hf => by
    have hreport := captureShown_not_report f hf
    have hcapture : captureTaken (bump s1 0x750 1) who.num cause a.toNat = errCapture (bump s1 0x750 1) who.num cause a.toNat :=
      if_pos hzero
    rw [cycleEnds_rd has f hreport, (collide_reports ..).rd _ _ _ hreport, ← hcapture]
    exact rd_eq_of_aGet ((busError_signals ..).fld _ hreport)
  obtain ⟨hv, hc, haddr, hi⟩ := errCapture_shows (bump s1 0x750 1) who.num cause a.toNat
  refine ⟨(hshown _ (by decide)).trans hv, ?_, ?_, ?_⟩
  · rw [hshown _ (by decide), hi, Nat.mod_eq_of_lt (ifaceNum_lt who)]
  · rw [hshown _ (by decide), hc, Nat.mod_eq_of_lt (writeRefusal_lt hrefused)]
  · rw [hshown _ (by decide), haddr, Nat.mod_eq_of_lt a.isLt]

end Rearm

/-! A word found lost beside the rearming (R351, R363). -/

section Lost

variable {s t u : State} {iface : Iface} {k a i : Nat} {scrub : Bool}

/-- What a capture of a lost word shows. -/
abbrev lostShown : List Field := [F.MEM_ERR_INFO_VALID, F.MEM_ERR_INFO_SCRUB, F.MEM_ERR_INFO_BANK, F.MEM_ERR_INFO_ADDR]

/-- A capture that shows a lost word holds it. -/
structure LostHeld (s t : State) : Prop where
  held : rd s F.MEM_ERR_INFO_VALID = 1 → ∀ f ∈ lostShown, rd t f = rd s f

theorem LostHeld.of_rd (h : ∀ f ∈ lostShown, rd t f = rd s f) : LostHeld s t := ⟨fun _ => h⟩

theorem LostHeld.of_fld (h : t.fld = s.fld) : LostHeld s t := .of_rd fun f _ => rd_eq_of_aGet (by rw [h])

theorem LostHeld.trans (h : LostHeld s t) (g : LostHeld t u) : LostHeld s u := ⟨fun hs f hf =>
  (g.held ((h.held hs _ (by decide)).trans hs) f hf).trans (h.held hs f hf)⟩

theorem LostHeld.ite {c : Prop} [Decidable c] {v w : State} (hv : LostHeld s v) (hw : LostHeld s w) : LostHeld s (if c then v else w) := by
  split
  · exact hv
  · exact hw

theorem wr_lostShown {f : Field} {v : Nat} (hf : ∀ g ∈ lostShown, g.key 0 0 ≠ f.key 0 0) (s : State) :
    ∀ g ∈ lostShown, rd (wr s f v) g = rd s g := fun g hg => rd_wr_other _ _ _ _ _ _ _ _ (hf g hg)

theorem rd_of_fld (h : t.fld = s.fld) (f : Field) (i j : Nat) : rd t f i j = rd s f i j := by rw [rd, rd, h]

theorem pushEvent_lostShown (s : State) (ws : List Nat) : ∀ f ∈ lostShown, rd (pushEvent s ws) f = rd s f := fun f hf =>
  (wr_lostShown (by decide) _ f hf).trans (rd_of_fld (putWords_fld ..) ..)

theorem raiseEvent_lostShown (s : State) (e : Ev) : ∀ f ∈ lostShown, rd (raiseEvent s e) f = rd s f := fun f hf => by
  unfold raiseEvent
  extract_lets +onlyGivenNames s0 s1
  have hs0 : rd s0 f = rd s f := by
    unfold s0 drainLost
    split
    · exact (wr_lostShown (by decide) _ f hf).trans ((rd_of_fld (bookEvent_fld ..) ..).trans (pushEvent_lostShown _ _ f hf))
    · rfl
  have hs1 : rd s1 f = rd s0 f := by
    unfold s1
    split
    · exact pushEvent_lostShown _ _ f hf
    · exact wr_lostShown (by decide) _ f hf
  exact (rd_of_fld (bookEvent_fld (nextEvtSeq s1) e) ..).trans (hs1.trans hs0)

theorem curtain_lostShown (s : State) (trigger code l : Nat) (d1 : Option Nat) :
    ∀ f ∈ lostShown, rd (curtain s trigger code l d1) f = rd s f := fun f hf => by
  unfold curtain
  extract_lets +onlyGivenNames reach seq first
  split
  · extract_lets +onlyGivenNames s1 _ s2 _ s3
    have hs3 : s3.fld = s2.fld := by
      unfold s3
      split
      · rfl
      · rfl
    exact (raiseEvent_lostShown _ _ f hf).trans (rd_of_fld hs3 ..)
  · exact (raiseEvent_lostShown _ _ f hf).trans (wr_lostShown (by decide) _ f hf)

theorem announceUncorr_held {count : State → State} (h : ∀ s, LostHeld s (count s)) (s : State) (k a : Nat) (scrub : Bool) :
    LostHeld s (announceUncorr count s k a scrub) := by
  refine ⟨fun hs f hf => ?_⟩
  have hvalid : rd (count s) F.MEM_ERR_INFO_VALID = 1 := ((h s).held hs _ (by decide)).trans hs
  unfold announceUncorr
  extract_lets +onlyGivenNames s2 s3 s4
  have hs3 : s3 = s2 := if_neg (by rw [hvalid]; decide)
  exact (curtain_lostShown _ _ _ _ _ f hf).trans ((raiseEvent_lostShown _ _ f hf).trans (hs3 ▸ (h s).held hs f hf))

theorem bumpRaw_fld (s : State) (i n : Nat) : (bumpRaw s i n).fld = s.fld := by
  unfold bumpRaw
  split
  · rfl
  · rfl

theorem counterRestart_fld (s : State) (i : Nat) (found : Bool) : (counterRestart s i found).fld = s.fld := rfl

theorem bumpBy_held (n : Nat) (s : State) (i m : Nat) : LostHeld s (bumpBy n s i m) := by
  induction n generalizing s i m with
  | zero => exact .of_fld (bumpRaw_fld ..)
  | succ n ih =>
    unfold bumpBy
    split
    · exact .of_fld (bumpRaw_fld ..)
    · exact (LostHeld.of_fld (bumpRaw_fld ..)).trans (ih ..)
    · exact (LostHeld.of_fld ((bumpRaw_fld ..).trans (counterRestart_fld s i false))).trans (ih ..)
    · exact (LostHeld.of_fld ((bumpRaw_fld ..).trans (counterRestart_fld s i true))).trans (announceUncorr_held (fun t => ih t _ _) ..)

theorem bump_held (s : State) (i n : Nat) : LostHeld s (bump s i n) := .ite (.of_fld rfl) (bumpBy_held ..)

/-- None of the words that count what reads find is itself lost. -/
def ReadsCount (s : State) : Prop := ∀ i, counterOfRead i → isPoisoned s 60 i = true ∨ eccDecode (wordErrs s 60 i) ≠ .uncorr

theorem counterFound_not_lost (h : isPoisoned s 60 i = true ∨ eccDecode (wordErrs s 60 i) ≠ .uncorr) : counterFound s i ≠ .lost := by
  unfold counterFound
  rcases h with h | h
  · rw [if_pos h]
    exact CounterRead.noConfusion
  · split
    · exact CounterRead.noConfusion
    · split
      · exact CounterRead.noConfusion
      · exact CounterRead.noConfusion
      · exact CounterRead.noConfusion
      · next heq =>
        split at heq
        · exact absurd heq h
        · cases heq

theorem isPoisoned_bank (s : State) (i : Nat) : isPoisoned s 60 i = ((bankOf s 60).poison.contains i && (bankOf s 60).valid.contains i) := rfl

theorem ReadsCount.written (h : ReadsCount s) (j : Nat) : ReadsCount (bankWritten s 60 j) := fun i hi => by
  have hbank : bankOf (bankWritten s 60 j) 60 = { bankOf s 60 with
      valid := natIns (bankOf s 60).valid j
      errs := aDel (bankOf s 60).errs j
      poison := (bankOf s 60).poison.filter (· != j) } := bankOf_setBank_same _ _ (by decide)
  by_cases hij : i = j
  · subst hij
    refine .inr ?_
    rw [wordErrs, hbank]
    dsimp only
    rw [aGet_aDel_same]
    decide
  · refine (h i hi).imp (fun hp => ?_) fun hd => ?_
    · rw [isPoisoned_bank, Bool.and_eq_true, List.contains_iff_mem, List.contains_iff_mem] at hp ⊢
      rw [hbank]
      exact ⟨List.mem_filter.2 ⟨hp.1, by simpa using hij⟩, mem_natIns j hp.2⟩
    · rw [wordErrs, hbank]
      dsimp only
      rwa [aGet_aDel_other _ hij]

theorem ReadsCount.bumpRaw (h : ReadsCount s) (j n : Nat) : ReadsCount (bumpRaw s j n) := by
  unfold Machine.bumpRaw
  split
  · exact h
  · exact ReadsCount.written (s := { s with obs := _ }) h j

/-- A count of what a read found captures nothing, where no such count is itself lost. -/
theorem bumpBy_fld (n : Nat) (h : ReadsCount s) (hi : counterOfRead i) (m : Nat) : (bumpBy n s i m).fld = s.fld := by
  induction n generalizing s i m with
  | zero => exact bumpRaw_fld ..
  | succ n ih =>
    unfold bumpBy
    split
    · exact bumpRaw_fld ..
    · exact (ih (h.bumpRaw i m) (.inl rfl) 1).trans (bumpRaw_fld ..)
    · exact (ih (ReadsCount.bumpRaw (s := counterRestart s i false) h i m) (.inr (.inr rfl)) 1).trans (bumpRaw_fld ..)
    · next heq => exact absurd heq (counterFound_not_lost (h i hi))

theorem keyInst_lt (key : Nat) : keyInst key < 32 := Nat.mod_lt _ (by decide)

theorem calInfo_lostShown (c : CalTarget) {n : Nat} (hn : n < 32) : ∀ f ∈ lostShown, f.key 0 0 ≠ (F.CAL_INFO_SETS c).key n 0 := by
  have hall : ∀ m < 32, ∀ f ∈ lostShown, f.key 0 0 ≠ (F.CAL_INFO_SETS c).key m 0 := by
    cases c
    · decide +kernel
    · decide +kernel
    · decide +kernel
    · decide +kernel
    · decide +kernel
  exact hall n hn

theorem calSetLost_held (s : State) (a : Nat) : LostHeld s (calSetLost s a) := by
  unfold calSetLost
  generalize s.cal.sets.filter (fun e => storeWord e.1 == a) = es
  induction es generalizing s with
  | nil => exact .of_fld rfl
  | cons e es ih =>
    refine LostHeld.trans ?_ (ih _)
    exact .of_rd fun f hf => rd_wr_other _ _ _ _ _ _ _ _ (calInfo_lostShown _ (keyInst_lt _) f hf)

theorem freeBucket_fld (s : State) (b : Nat) : (freeBucket s b).fld = s.fld := by
  unfold freeBucket
  split
  · rfl
  · extract_lets +onlyGivenNames s1 s2
    have hs2 : s2.fld = s.fld := by
      unfold s2
      split
      · rfl
      · rfl
    exact hs2

theorem flowLost_held (s : State) (b : Nat) : LostHeld s (flowLost s b) := by
  have hfull : ∀ u, LostHeld u (flowFullCheck u) := fun u => by
    unfold flowFullCheck
    exact .ite (.of_fld rfl) (.of_rd (raiseEvent_lostShown _ _))
  exact ((LostHeld.of_fld (freeBucket_fld ..)).trans (bump_held ..)).trans (hfull _)

theorem lutLost_held (s : State) (n b w : Nat) : LostHeld s (lutLost s n b w) := .of_rd (wr_lostShown (by decide) _)

theorem requestMgmt_fld (s : State) (cause : Nat) : (requestMgmt s cause).fld = s.fld := by
  unfold requestMgmt
  split
  · rfl
  · rfl

theorem ownerAction_held (s : State) (k a : Nat) : LostHeld s (ownerAction s k a) := by
  unfold ownerAction
  refine .ite (.of_fld (requestMgmt_fld ..)) (.ite (calSetLost_held ..) (.ite (.of_fld rfl) (.ite (lutLost_held ..)
    (.ite (flowLost_held ..) (.ite ?_ (.ite (.of_fld rfl) (.ite (.of_fld rfl) (.of_fld rfl))))))))
  split
  · exact flowLost_held ..
  · exact .of_fld rfl

/-- What a capture shows of a word that an announcement finds. -/
structure LostShown (t : State) (k a : Nat) (scrub : Bool) : Prop where
  valid : rd t F.MEM_ERR_INFO_VALID = 1
  bank : rd t F.MEM_ERR_INFO_BANK = k
  addr : rd t F.MEM_ERR_INFO_ADDR = a
  scrub : rd t F.MEM_ERR_INFO_SCRUB = b2n scrub

theorem announceUncorr_captures {count : State → State} (hzero : rd (count s) F.MEM_ERR_INFO_VALID = 0) (hk : k < 64) (ha : a < 32768) :
    LostShown (announceUncorr count s k a scrub) k a scrub := by
  unfold announceUncorr
  extract_lets +onlyGivenNames s2 s3 s4
  have hs3 : s3 = wr (wr (wrB (wr s2 F.MEM_ERR_INFO_VALID 1) F.MEM_ERR_INFO_SCRUB scrub) F.MEM_ERR_INFO_BANK k) F.MEM_ERR_INFO_ADDR a :=
    if_pos hzero
  have hshown : ∀ f ∈ lostShown, rd (curtain s4 1 0x8A01 (locBank k)) f = rd s3 f := fun f hf =>
    (curtain_lostShown _ _ _ _ _ f hf).trans (raiseEvent_lostShown _ _ f hf)
  refine ⟨?_, ?_, ?_, ?_⟩
  · rw [hshown _ (by decide), hs3]
    exact (rd_wr_apart ..).trans ((rd_wr_apart ..).trans ((rd_wrB_apart ..).trans (rd_wr_same ..)))
  · rw [hshown _ (by decide), hs3]
    exact (rd_wr_apart ..).trans ((rd_wr_same ..).trans (Nat.mod_eq_of_lt hk))
  · rw [hshown _ (by decide), hs3]
    exact (rd_wr_same ..).trans (Nat.mod_eq_of_lt (ha.trans (by decide)))
  · rw [hshown _ (by decide), hs3]
    exact (rd_wr_apart ..).trans ((rd_wr_apart ..).trans (rd_wrB_same ..))

/-- The state with a word's mark of loss. -/
def marked (s : State) (k a : Nat) : State := setBank s k { bankOf s k with poison := (bankOf s k).poison ++ [a] }

theorem marked_readsCount (hk : k < 64) (hvalid : wordValid s k a = true)
    (hcounts : ∀ i, counterOfRead i → (k, a) ≠ (60, i) → eccDecode (wordErrs s 60 i) ≠ .uncorr) : ReadsCount (marked s k a) := by
  have hbank : bankOf (marked s k a) k = { bankOf s k with poison := (bankOf s k).poison ++ [a] } := bankOf_setBank_same _ _ hk
  intro i hi
  by_cases hk60 : k = 60
  · subst hk60
    by_cases ha : a = i
    · subst ha
      have hv : (bankOf s 60).valid.contains a = true := hvalid
      refine .inl ?_
      rw [isPoisoned_bank, hbank, hv]
      simp
    · refine .inr ?_
      rw [wordErrs, hbank]
      exact hcounts i hi fun h => ha (Prod.mk.inj h).2
  · refine .inr ?_
    rw [wordErrs, show bankOf (marked s k a) 60 = bankOf s 60 from bankOf_setBank_other _ _ (Ne.symm hk60)]
    exact hcounts i hi fun h => hk60 (Prod.mk.inj h).1

/-- A word that is found lost where no capture is held. -/
theorem reportUncorr_captures (hk : k < 64) (ha : a < 32768) (hzero : rd s F.MEM_ERR_INFO_VALID = 0) (hvalid : wordValid s k a = true)
    (hcounts : ∀ i, counterOfRead i → (k, a) ≠ (60, i) → eccDecode (wordErrs s 60 i) ≠ .uncorr) :
    LostShown (reportUncorr s k a scrub) k a scrub := by
  have hmarked := marked_readsCount hk hvalid hcounts
  obtain ⟨u, hu, hcount, hfld⟩ : ∃ u, reportUncorr s k a scrub = announceUncorr (fun t => bump t 0x755 1) u k a scrub ∧
      ReadsCount u ∧ u.fld = s.fld := by
    refine ⟨_, rfl, ?_⟩
    split
    · exact ⟨hmarked, rfl⟩
    · exact ⟨hmarked, rfl⟩
  rw [hu]
  exact announceUncorr_captures ((rd_of_fld ((bumpBy_fld 6 hcount (.inr (.inl rfl)) 1).trans hfld) ..).trans hzero) hk ha

/-- A word found lost in the cycle of the rearming is captured, and stands. -/
theorem memErrInfoRearm_captures {k : Fin 64} {a : Fin 32768} (hup : deviceUp s = true) (hvalid : wordValid s k a = true)
    (hpoison : isPoisoned s k a = false) (hlost : eccDecode (wordErrs s k a) = .uncorr)
    (hcounts : ∀ i ∈ [0x753, 0x755, 0x757], (k.val, a.val) ≠ (60, i) → eccDecode (wordErrs s 60 i) ≠ .uncorr) :
    Runs (.memErrInfoRearm iface [.lostWord k a scrub]) s fun t =>
      rd t F.MEM_ERR_INFO_VALID = 1 ∧ rd t F.MEM_ERR_INFO_BANK = k.val ∧ rd t F.MEM_ERR_INFO_ADDR = a.val ∧
      rd t F.MEM_ERR_INFO_SCRUB = b2n scrub := by
  have hcycle := cycle_writes (accs := [⟨iface, Regs.MEM_ERR_INFO.base, some 0⟩]) (words := [(k.val, a.val, scrub)]) hup (oneEach_one _)
    rfl (cycleData_memOwn ..)
  refine runs_of_eq rfl hcycle ?_
  unfold writesEnd
  rw [rearm_mem (cycleData_memOwn ..) (cycleData_memOwn ..)]
  generalize hs1 : wr s F.MEM_ERR_INFO_VALID 0 = s1
  have hfound : lostFound s1 (k.val, a.val, scrub) = ownerAction (reportUncorr s1 k a scrub) k a := by
    rw [← hs1]
    exact if_pos (by
      show (deviceUp s && wordValid s k a && !isPoisoned s k a && eccDecode (wordErrs s k a) == .uncorr) = true
      rw [hup, hvalid, hpoison, hlost]
      rfl)
  have hlist : ∀ i, counterOfRead i → i ∈ [0x753, 0x755, 0x757] := fun i hi => by
    rcases hi with rfl | rfl | rfl
    · exact List.mem_cons_self
    · exact List.mem_cons_of_mem _ List.mem_cons_self
    · exact List.mem_cons_of_mem _ (List.mem_cons_of_mem _ List.mem_cons_self)
  have hinfo : LostShown (reportUncorr s1 k a scrub) k a scrub := by
    rw [← hs1]
    exact reportUncorr_captures k.isLt a.isLt (rd_wr_same ..) hvalid fun i hi hne => hcounts i (hlist i hi) hne
  obtain ⟨hv, hb, ha, hsc⟩ := hinfo
  have hwords : [(k.val, a.val, scrub)].foldl lostFound s1 = ownerAction (reportUncorr s1 k a scrub) k a := hfound
  rw [hwords, List.foldl_cons, cycleWrite_accepted (writeRefusal_memInfo ..), writeApply_memInfo, List.foldl_nil]
  generalize reportUncorr s1 k a scrub = u at hv hb ha hsc ⊢
  have hheld : LostHeld u (collide s s1 (ownerAction u k a) [⟨iface, Regs.MEM_ERR_INFO.base, some 0⟩]) := by
    refine (ownerAction_held u k a).trans ?_
    unfold collide
    exact (LostHeld.ite (bump_held ..) (.of_fld rfl)).trans (.ite (bump_held ..) (.of_fld rfl))
  have hshown := hheld.held hv
  exact ⟨((signalWrite_rd ..).trans (hshown _ (by decide))).trans hv, ((signalWrite_rd ..).trans (hshown _ (by decide))).trans hb,
    ((signalWrite_rd ..).trans (hshown _ (by decide))).trans ha, ((signalWrite_rd ..).trans (hshown _ (by decide))).trans hsc⟩

end Lost

/-! A voted field is put right (R348). -/

theorem votedFieldUpset_counts {s : State} {b : VotedBit} (hup : deviceUp s = true) (hvoted : votedBit b = true) :
    Runs (.votedFieldUpset b) s fun t =>
      if sinceNs s s.mgmt.tmrLast 1000000 then t.mgmt.tmrLast = some s.time.tick ∧ t.mgmt.tmrSince = 0
      else t.mgmt.tmrLast = s.mgmt.tmrLast ∧ t.mgmt.tmrSince = min 65535 (s.mgmt.tmrSince + 1) := by
  refine runs_of_eq rfl (if_pos (by rw [hup, hvoted]; rfl)) ?_
  have htime : (bump s 0x752 1).time = s.time := bump_time ..
  have hlast : (bump s 0x752 1).mgmt.tmrLast = s.mgmt.tmrLast := bump_mgmt_tmrLast ..
  have hcount : (bump s 0x752 1).mgmt.tmrSince = s.mgmt.tmrSince := bump_mgmt_tmrSince ..
  have hsince : sinceNs (bump s 0x752 1) (bump s 0x752 1).mgmt.tmrLast 1000000 = sinceNs s s.mgmt.tmrLast 1000000 := by
    simp only [sinceNs, hlast, htime]
  dsimp only
  rw [hsince]
  split
  · rw [raiseEvent_mgmt_tmrLast, raiseEvent_mgmt_tmrSince, htime]
    exact ⟨rfl, rfl⟩
  · exact ⟨hlast, by rw [hcount]⟩

/-- Settles O50: an accepted write applies, of two the later interface's stands, and the captures rearm. -/
theorem registerWritesComplete : Obligations.RegisterWritesComplete :=
  ⟨fun _ _ _ _ hup h => ⟨_, exec_registerWrite_accepted hup h, rfl⟩, fun _ _ _ _ hup ha hw hro => registerWrite_window hup ha hw hro,
    fun _ _ _ _ _ _ _ hup ht h hdress hact => registerWrite_fields hup ht h hdress hact,
    fun _ _ _ _ _ _ hup hlt ha hw hro => registerWrite_later hup hlt ha hw hro, fun _ _ hup => regifErrInfoRearm_clears hup,
    fun _ _ _ _ _ _ hup hne hrefused => regifErrInfoRearm_captures hup hne hrefused, fun _ _ hup => memErrInfoRearm_clears hup,
    fun _ _ _ _ _ hup hvalid hpoison hlost hcounts => memErrInfoRearm_captures hup hvalid hpoison hlost hcounts,
    fun _ _ hup hvoted => votedFieldUpset_counts hup hvoted⟩

end Sys2Proof.Machine
end

section
/-! PROOFS. Port A's and the SPI slave's accesses, RING_LAYOUT and the doorbells (R315-R317, R322, R323, R349, R450). -/

namespace Sys2Proof.Machine

open Sys2Proof

set_option Elab.async false

/-! Bytes of an address. -/

theorem length_bytesOf (n v : Nat) : (bytesOf n v).length = n := by rw [bytesOf, List.length_map, List.length_range]

theorem be_bytesOf_three {v : Nat} (h : v < 2 ^ 24) : be (bytesOf 3 v) = v := by
  have hbytes : bytesOf 3 v = [BitVec.ofNat 8 (v / 2 ^ 16), BitVec.ofNat 8 (v / 2 ^ 8), BitVec.ofNat 8 (v / 2 ^ 0)] := rfl
  rw [hbytes]
  simp only [be, List.foldl_cons, List.foldl_nil, BitVec.toNat_ofNat]
  omega

section Ports

variable {s : State} {addr : BitVec 7} {data : List Byte} {a : Nat}

theorem not_reserved_of_accepted {d : Nat} (h : writeRefusal s a d = none) : reservedAddr a = false := by
  refine Bool.eq_false_iff.2 fun hr => ?_
  rw [writeRefusal, beq_iff_eq.1 hr] at h
  cases h

theorem not_reserved_of_read {iface : Iface} (h : (regRead iface s a).2.2 = none) : reservedAddr a = false := by
  refine Bool.eq_false_iff.2 fun hr => ?_
  rw [regRead, beq_iff_eq.1 hr] at h
  cases h

theorem i2cAWrite_other (hup : deviceUp s = true) (hne : addr.toNat ≠ portAddress s) :
    Runs (.i2cAWrite addr data) s fun t => t = i2cDrive s [] (List.replicate (data.length + 1) false) := by
  refine runs_of_eq rfl ?_ rfl
  unfold i2cWrite
  rw [if_neg (by rw [hup]; decide), if_pos hne]

/-- Four data bytes of an accepted write, without a check byte. -/
theorem i2cWriteData_four {four seen : List Byte} {acks : List Bool} {next : Nat} (hlen : four.length = 4)
    (hok : writeRefusal s a (be four) = none) :
    i2cWriteData false 4 four seen a ⟨s, acks, .none, next⟩ =
      ⟨writeApply s a (be four), acks ++ List.replicate 4 true, .none, addrNext a⟩ := by
  obtain ⟨b0, b1, b2, b3, rfl⟩ : ∃ b0 b1 b2 b3, four = [b0, b1, b2, b3] := List.length_eq_four.1 hlen
  have htake : [b0, b1, b2, b3].take 4 = [b0, b1, b2, b3] := rfl
  rw [i2cWriteData]
  dsimp only
  rw [if_neg (by rw [not_reserved_of_accepted hok]; decide), if_neg (by simp), htake, hok]
  rfl

theorem i2cAWrite_writes (hup : deviceUp s = true) (haddr : addr.toNat = portAddress s) (hlen : data.length = 7)
    (hpec : rd s F.REGIF_CTRL_PEC_A = 0) (hreserved : reservedAddr (be (data.take 3)) = false)
    (hok : writeRefusal s (be (data.take 3)) (be (data.drop 3)) = none) :
    Runs (.i2cAWrite addr data) s fun t =>
      let u := writeApply s (be (data.take 3)) (be (data.drop 3))
      t = i2cDrive { u with mgmt := { u.mgmt with i2cNext := addrNext (be (data.take 3)) } } [] (List.replicate 8 true) := by
  have hrest : (data.drop 3).length = 4 := by rw [List.length_drop, hlen]
  refine runs_of_eq rfl ?_ rfl
  unfold i2cWrite
  rw [if_neg (by rw [hup]; decide), if_neg (not_not.2 haddr), if_neg (by omega)]
  dsimp only
  rw [if_neg (by rw [hreserved]; decide), hpec, hrest, show ((0 : Nat) == 1) = false from rfl, i2cWriteData_four hrest hok]
  rfl

/-- A read of one register in a transaction. -/
theorem readRun_one {iface : Iface} {seen : List Byte} (h : (regRead iface s a).2.2 = none) :
    readRun iface false 1 a seen s .none = ((regRead iface s a).1, bytesOf 4 (regRead iface s a).2.1 ++ [], .none) := by
  have hread : ifaceRead iface s .none a = ((regRead iface s a).1, .none, (regRead iface s a).2.1) := by
    unfold ifaceRead
    split
    · next heq => rw [heq]
    · next heq => rw [heq] at h; cases h
  simp only [readRun, hread]
  rfl

theorem take_four (w : Nat) : (bytesOf 4 w ++ []).take 4 = bytesOf 4 w := by
  rw [List.append_nil]
  exact List.take_of_length_le (length_bytesOf 4 w).le

theorem i2cARead_set {a : BitVec 24} (hup : deviceUp s = true) (haddr : addr.toNat = portAddress s)
    (hpec : rd s F.REGIF_CTRL_PEC_A = 0) (hread : (regRead .i2cA s a.toNat).2.2 = none) :
    Runs (.i2cARead addr (some a) 4) s fun t =>
      t.mgmt.i2cOut = bytesOf 4 (regRead .i2cA s a.toNat).2.1 ∧ t.mgmt.i2cNext = (a.toNat + 4) % 2 ^ 24 ∧
      t.mgmt.i2cAcks = List.replicate 5 true := by
  have hbe : be (bytesOf 3 a.toNat) = a.toNat := be_bytesOf_three a.isLt
  refine ⟨_, rfl, ?_⟩
  unfold i2cRead
  rw [if_neg (by rw [hup]; decide), if_neg (not_not.2 haddr)]
  dsimp only [Option.map_some]
  rw [hbe, if_neg (by rw [not_reserved_of_read hread]; decide), hpec, show ((0 : Nat) == 1) = false from rfl,
    show registersIn 4 false = 1 from rfl, readRun_one hread, take_four]
  exact ⟨rfl, rfl, rfl⟩

theorem i2cARead_next (hup : deviceUp s = true) (haddr : addr.toNat = portAddress s)
    (hpec : rd s F.REGIF_CTRL_PEC_A = 0) (hread : (regRead .i2cA s s.mgmt.i2cNext).2.2 = none) :
    Runs (.i2cARead addr none 4) s fun t =>
      t.mgmt.i2cOut = bytesOf 4 (regRead .i2cA s s.mgmt.i2cNext).2.1 ∧ t.mgmt.i2cAcks = [true] := by
  refine ⟨_, rfl, ?_⟩
  unfold i2cRead
  rw [if_neg (by rw [hup]; decide), if_neg (not_not.2 haddr)]
  dsimp only [Option.map_none]
  rw [hpec, show ((0 : Nat) == 1) = false from rfl, show registersIn 4 false = 1 from rfl, readRun_one hread, take_four]
  exact ⟨rfl, rfl⟩

/-- Four data bytes of an accepted WRITE, without a check byte. -/
theorem spiWriteData_four {four seen : List Byte} {n : Nat} (hlen : four.length = 4) (hok : writeRefusal s a (be four) = none) :
    spiWriteData false (n + 1) four seen a ⟨s, .none, false⟩ = ⟨writeApply s a (be four), .none, false⟩ := by
  obtain ⟨b0, b1, b2, b3, rfl⟩ : ∃ b0 b1 b2 b3, four = [b0, b1, b2, b3] := List.length_eq_four.1 hlen
  have hwrite : ifaceWrite .spi s .none a (be [b0, b1, b2, b3]) = (writeApply s a (be [b0, b1, b2, b3]), .none) := by
    unfold ifaceWrite
    rw [hok]
  have hrun : spiWriteData false (n + 1) [b0, b1, b2, b3] seen a ⟨s, .none, false⟩ =
      spiWriteData false n [] (seen ++ [b0, b1, b2, b3]) (addrNext a) ⟨writeApply s a (be [b0, b1, b2, b3]), .none, false⟩ := by
    have hstep := congrArg (fun r : State × BusErrs => spiWriteData false n [] (seen ++ [b0, b1, b2, b3]) (addrNext a) ⟨r.1, r.2, false⟩) hwrite
    exact hstep
  rw [hrun]
  cases n with
  | zero => rfl
  | succ n => rw [spiWriteData, if_pos (by simp)]

theorem spiWrite_writes (hup : deviceUp s = true) (hlen : data.length = 7) (hcrc : rd s F.REGIF_CTRL_CRC_SPI = 0)
    (hok : writeRefusal s (be (data.take 3)) (be (data.drop 3)) = none) :
    Runs (.spiWrite data) s fun t => t = spiEnd (writeApply s (be (data.take 3)) (be (data.drop 3))) [spiStatus s] false false := by
  have hrest : (data.drop 3).length = 4 := by rw [List.length_drop, hlen]
  refine runs_of_eq rfl ?_ rfl
  unfold spiWrite
  rw [if_neg (by rw [hup]; decide), if_neg (by omega)]
  dsimp only
  rw [hcrc, hlen, show ((0 : Nat) == 1) = false from rfl, spiWriteData_four hrest hok]
  rfl

theorem spiRead_reads {a : BitVec 24} (hup : deviceUp s = true) (hcrc : rd s F.REGIF_CTRL_CRC_SPI = 0)
    (hread : (regRead .spi s a.toNat).2.2 = none) :
    Runs (.spiRead a 4) s fun t =>
      t = spiEnd (regRead .spi s a.toNat).1 (spiStatus s :: bytesOf 4 (regRead .spi s a.toNat).2.1) false false := by
  refine runs_of_eq rfl ?_ rfl
  unfold spiRead
  rw [if_neg (by rw [hup]; decide)]
  dsimp only
  rw [hcrc, show ((0 : Nat) == 1) = false from rfl, show registersIn 4 false = 1 from rfl, readRun_one hread, take_four]
  rfl

theorem spiStatus_shows {cmd : Byte} (hup : deviceUp s = true) : Runs (.spiStatus cmd) s fun t =>
    t.mgmt.spiOut = [spiStatus s] ∧ t.mgmt.spiCrcErr = false ∧
    (t.mgmt.spiBusErr = false ↔ cmd = 0x02 ∨ cmd = 0x03 ∨ cmd = 0x05) := by
  refine runs_of_eq rfl (if_neg (by rw [hup]; decide)) ⟨rfl, rfl, ?_⟩
  show (!(cmd.toNat == 0x02 || cmd.toNat == 0x03 || cmd.toNat == 0x05)) = false ↔ _
  simp only [Bool.not_eq_false', Bool.or_eq_true, beq_iff_eq, or_assoc, BitVec.toNat_eq]
  rfl

end Ports

/-! RING_LAYOUT and the doorbells. -/

section Rings

variable {s : State} {iface : Iface} {d : Word}

/-- RING_LAYOUT with its fields. -/
def layoutReg : RegInfo := ⟨Regs.RING_LAYOUT, [F.RING_LAYOUT_CMIS_EN, F.RING_LAYOUT_EVT_SZ, F.RING_LAYOUT_CPL_SZ, F.RING_LAYOUT_CMD_SZ,
  F.RING_LAYOUT_EVT_BASE, F.RING_LAYOUT_CPL_BASE, F.RING_LAYOUT_CMD_BASE]⟩

theorem target_layout : target Regs.RING_LAYOUT.base = .mainReg layoutReg 0 0 := rfl

/-- A register outside the test ports and the blocks under a dress rehearsal, with no field that locks or is written once, takes a
value that it does not refuse. -/
theorem writeRefusal_none {r : RegInfo} {a n : Nat} (ht : target a = .mainReg r 0 0) (hgate : gatedAddr s a = false)
    (hdress : dressTested s a = false) (hwritable : (r.fields.all fun f => !f.writable) = false)
    (hlocks : (r.fields.any fun f => f.ty == .lk && rd s f 0 0 == 1) = false)
    (honce : (s.mgmt.layoutSpent && r.fields.any (·.ty == .w1)) = false) (hvalue : valueRefused s r.place.base n = false) :
    writeRefusal s a n = none := by
  unfold writeRefusal regRefusal
  rw [ht]
  dsimp only
  rw [hgate, hdress, hwritable, hlocks, honce, hvalue]
  rfl

theorem writeApply_acts {r : RegInfo} {a n : Nat} (ht : target a = .mainReg r 0 0) (hdress : dressTested s a = false) :
    writeApply s a n = writeAction (if reservedBits r n then bump s 0x750 1 else s)
      (r.fields.foldl (fun t f => fieldWrite t f 0 0 n) (if reservedBits r n then bump s 0x750 1 else s)) r.place.base 0 n := by
  unfold writeApply
  rw [ht]
  exact if_neg (by rw [hdress]; decide)

/-- The fields of RING_LAYOUT take their bits. -/
theorem layoutFields_rd (s : State) (n : Nat) :
    let t := layoutReg.fields.foldl (fun t f => fieldWrite t f 0 0 n) s
    rd t F.RING_LAYOUT_CMD_BASE = bitsOf n 5 0 ∧ rd t F.RING_LAYOUT_CPL_BASE = bitsOf n 11 6 ∧
      rd t F.RING_LAYOUT_EVT_BASE = bitsOf n 17 12 := by
  refine ⟨?_, ?_, ?_⟩
  · exact (rd_wr_same ..).trans (Nat.mod_mod ..)
  · exact (rd_wr_apart ..).trans ((rd_wr_same ..).trans (Nat.mod_mod ..))
  · exact (rd_wr_apart ..).trans ((rd_wr_apart ..).trans ((rd_wr_same ..).trans (Nat.mod_mod ..)))

/-- The producers and consumers of all rings at 0. -/
abbrev ringsCleared (s : State) : State :=
  wr (wr (wr (wr (wr (wr s F.DB_CMD_PROD 0) F.DB_CPL_ACK_ACK 0) F.DB_EVT_ACK_ACK 0) F.RING_CMD_CONS_CONS 0) F.RING_CPL_PROD_PROD 0)
    F.RING_EVT_PROD_PROD 0

theorem layoutTaken_rd (s : State) (f : Field) : rd (layoutTaken s) f = rd (ringsCleared s) f := rfl

theorem layoutTaken_other {f : Field} (s : State) (h : f.key 0 0 ∉ [F.DB_CMD_PROD.key 0 0, F.DB_CPL_ACK_ACK.key 0 0, F.DB_EVT_ACK_ACK.key 0 0,
    F.RING_CMD_CONS_CONS.key 0 0, F.RING_CPL_PROD_PROD.key 0 0, F.RING_EVT_PROD_PROD.key 0 0] := by decide) :
    rd (layoutTaken s) f = rd s f := by
  simp only [List.mem_cons, List.not_mem_nil, or_false, not_or] at h
  obtain ⟨h1, h2, h3, h4, h5, h6⟩ := h
  rw [layoutTaken_rd]
  exact (rd_wr_other _ _ _ _ _ _ _ _ h6).trans ((rd_wr_other _ _ _ _ _ _ _ _ h5).trans ((rd_wr_other _ _ _ _ _ _ _ _ h4).trans
    ((rd_wr_other _ _ _ _ _ _ _ _ h3).trans ((rd_wr_other _ _ _ _ _ _ _ _ h2).trans (rd_wr_other _ _ _ _ _ _ _ _ h1)))))

/-- The rings start empty. -/
theorem layoutTaken_empty (s : State) :
    rd (layoutTaken s) F.DB_CMD_PROD = 0 ∧ rd (layoutTaken s) F.DB_CPL_ACK_ACK = 0 ∧ rd (layoutTaken s) F.DB_EVT_ACK_ACK = 0 ∧
      rd (layoutTaken s) F.RING_CMD_CONS_CONS = 0 ∧ rd (layoutTaken s) F.RING_CPL_PROD_PROD = 0 ∧
      rd (layoutTaken s) F.RING_EVT_PROD_PROD = 0 := by
  simp only [layoutTaken_rd]
  refine ⟨?_, ?_, ?_, ?_, ?_, ?_⟩
  · exact (rd_wr_apart ..).trans ((rd_wr_apart ..).trans ((rd_wr_apart ..).trans ((rd_wr_apart ..).trans ((rd_wr_apart ..).trans (rd_wr_same ..)))))
  · exact (rd_wr_apart ..).trans ((rd_wr_apart ..).trans ((rd_wr_apart ..).trans ((rd_wr_apart ..).trans (rd_wr_same ..))))
  · exact (rd_wr_apart ..).trans ((rd_wr_apart ..).trans ((rd_wr_apart ..).trans (rd_wr_same ..)))
  · exact (rd_wr_apart ..).trans ((rd_wr_apart ..).trans (rd_wr_same ..))
  · exact (rd_wr_apart ..).trans (rd_wr_same ..)
  · exact rd_wr_same ..

theorem signalWrite_ring (iface : Iface) (s : State) (cause : Option Nat) :
    (signalWrite iface s cause).mgmt.layoutSpent = s.mgmt.layoutSpent ∧ (signalWrite iface s cause).mgmt.waiting = s.mgmt.waiting := by
  cases iface <;> exact ⟨rfl, rfl⟩

theorem ringLayoutWrite_lays (hup : deviceUp s = true) (hspent : s.mgmt.layoutSpent = false) (hok : layoutOk s d.toNat = true) :
    Runs (.ringLayoutWrite iface d) s fun t => t.mgmt.layoutSpent = true ∧
      rd t F.RING_LAYOUT_CMD_BASE = bitsOf d.toNat 5 0 ∧ rd t F.RING_LAYOUT_CPL_BASE = bitsOf d.toNat 11 6 ∧
      rd t F.RING_LAYOUT_EVT_BASE = bitsOf d.toNat 17 12 ∧
      rd t F.DB_CMD_PROD = 0 ∧ rd t F.DB_CPL_ACK_ACK = 0 ∧ rd t F.DB_EVT_ACK_ACK = 0 ∧
      rd t F.RING_CMD_CONS_CONS = 0 ∧ rd t F.RING_CPL_PROD_PROD = 0 ∧ rd t F.RING_EVT_PROD_PROD = 0 := by
  have hdress : dressTested s Regs.RING_LAYOUT.base = false := Bool.and_false _
  have hvalue : valueRefused s Regs.RING_LAYOUT.base d.toNat = false := by
    show (!layoutOk s d.toNat) = false
    rw [hok]
    rfl
  have hnone := writeRefusal_none target_layout (Bool.false_and _) hdress rfl rfl (by rw [hspent]; rfl) hvalue
  refine runs_of_eq rfl (oneWrite_accepted hup hnone) ?_
  rw [writeApply_acts target_layout hdress]
  generalize (if reservedBits layoutReg d.toNat then bump s 0x750 1 else s) = v
  obtain ⟨hcmd, hcpl, hevt⟩ := layoutFields_rd v d.toNat
  generalize layoutReg.fields.foldl (fun t f => fieldWrite t f 0 0 d.toNat) v = u at hcmd hcpl hevt ⊢
  have hact : writeAction v u layoutReg.place.base 0 d.toNat = layoutTaken u := rfl
  rw [hact]
  simp only [signalWrite_rd]
  exact ⟨(signalWrite_ring ..).1, (layoutTaken_other u).trans hcmd, (layoutTaken_other u).trans hcpl, (layoutTaken_other u).trans hevt,
    layoutTaken_empty u⟩

theorem dbCmdWrite_posts (hup : deviceUp s = true)
    (hok : doorbellOk (rd s F.DB_CMD_PROD) (rd s F.RING_CMD_CONS_CONS) (d.toNat % 2 ^ 16) (cmdRingSize s) = true) :
    Runs (.dbCmdWrite iface d) s fun t => rd t F.DB_CMD_PROD = d.toNat % 2 ^ 16 := by
  have hdress : dressTested s Regs.DB_CMD.base = false := Bool.and_false _
  have hvalue : valueRefused s Regs.DB_CMD.base d.toNat = false := (congrArg (!·) hok).trans rfl
  have hnone := writeRefusal_none target_dbCmd (Bool.false_and _) hdress rfl rfl (Bool.and_false _) hvalue
  refine runs_of_eq rfl (oneWrite_accepted hup hnone) ?_
  rw [writeApply_acts target_dbCmd hdress]
  generalize (if reservedBits _ d.toNat then bump s 0x750 1 else s) = v
  have hact : ∀ u, writeAction v u Regs.DB_CMD.base 0 d.toNat = u := fun _ => rfl
  rw [signalWrite_rd, hact]
  refine (rd_wr_same ..).trans ?_
  show d.toNat / 2 ^ 0 % 2 ^ 16 % 2 ^ 16 = _
  rw [Nat.pow_zero, Nat.div_one, Nat.mod_mod]

/-- Waiting completions are written until none waits or the ring is full. -/
theorem drainWaiting_until (ws : List Waiting) (s : State) :
    (drainWaiting ws s).mgmt.waiting = [] ∨ cplRingSize (drainWaiting ws s) ≤ cplFill (drainWaiting ws s) := by
  induction ws generalizing s with
  | nil => exact .inl rfl
  | cons w ws ih =>
    unfold drainWaiting
    split
    · exact ih _
    · next hfull => exact .inr (Nat.le_of_not_lt hfull)

theorem ringFill_signalWrite (cause : Option Nat) :
    cplRingSize (signalWrite iface s cause) = cplRingSize s ∧ cplFill (signalWrite iface s cause) = cplFill s := by
  simp only [cplRingSize, cplFill, signalWrite_rd, and_self]

theorem dbCplAckWrite_acks (hup : deviceUp s = true)
    (hok : doorbellOk (rd s F.DB_CPL_ACK_ACK) (rd s F.DB_CPL_ACK_ACK) (d.toNat % 2 ^ 16) (cplFill s) = true) :
    Runs (.dbCplAckWrite iface d) s fun t => rd t F.DB_CPL_ACK_ACK = d.toNat % 2 ^ 16 ∧
      (t.mgmt.waiting = [] ∨ cplRingSize t ≤ cplFill t) := by
  have hdress : dressTested s Regs.DB_CPL_ACK.base = false := Bool.and_false _
  have hvalue : valueRefused s Regs.DB_CPL_ACK.base d.toNat = false := (congrArg (!·) hok).trans rfl
  have hnone := writeRefusal_none target_dbCplAck (Bool.false_and _) hdress rfl rfl (Bool.and_false _) hvalue
  refine runs_of_eq rfl (oneWrite_accepted hup hnone) ?_
  rw [writeApply_acts target_dbCplAck hdress]
  generalize (if reservedBits _ d.toNat then bump s 0x750 1 else s) = v
  have hact : ∀ u, writeAction v u Regs.DB_CPL_ACK.base 0 d.toNat = drainWaiting u.mgmt.waiting u := fun _ => rfl
  obtain ⟨hsize, hfill⟩ := ringFill_signalWrite (iface := iface) (s := drainWaiting (fieldWrite v F.DB_CPL_ACK_ACK 0 0 d.toNat).mgmt.waiting
    (fieldWrite v F.DB_CPL_ACK_ACK 0 0 d.toNat)) none
  rw [hact, List.foldl_cons, List.foldl_nil, signalWrite_rd, (signalWrite_ring ..).2, hsize, hfill]
  refine ⟨((drainWaiting_reports ..).rd _ _ _ (by decide)).trans ((rd_wr_same ..).trans ?_), drainWaiting_until ..⟩
  show d.toNat / 2 ^ 0 % 2 ^ 16 % 2 ^ 16 = _
  rw [Nat.pow_zero, Nat.div_one, Nat.mod_mod]

theorem dbEvtAckWrite_acks (hup : deviceUp s = true)
    (hok : doorbellOk (rd s F.DB_EVT_ACK_ACK) (rd s F.DB_EVT_ACK_ACK) (d.toNat % 2 ^ 16) (evtFill s) = true) :
    Runs (.dbEvtAckWrite iface d) s fun t => rd t F.DB_EVT_ACK_ACK = d.toNat % 2 ^ 16 := by
  have hdress : dressTested s Regs.DB_EVT_ACK.base = false := Bool.and_false _
  have hvalue : valueRefused s Regs.DB_EVT_ACK.base d.toNat = false := (congrArg (!·) hok).trans rfl
  have hnone := writeRefusal_none target_dbEvtAck (Bool.false_and _) hdress rfl rfl (Bool.and_false _) hvalue
  refine runs_of_eq rfl (oneWrite_accepted hup hnone) ?_
  rw [writeApply_acts target_dbEvtAck hdress]
  generalize (if reservedBits _ d.toNat then bump s 0x750 1 else s) = v
  have hact : ∀ u, writeAction v u Regs.DB_EVT_ACK.base 0 d.toNat = drainLost u := fun _ => rfl
  rw [signalWrite_rd, hact]
  refine ((drainLost_reports _).rd _ _ _ (by decide)).trans ((rd_wr_same ..).trans ?_)
  show d.toNat / 2 ^ 0 % 2 ^ 16 % 2 ^ 16 = _
  rw [Nat.pow_zero, Nat.div_one, Nat.mod_mod]

end Rings

/-- Settles O51: accesses of port A and the SPI slave carry their bytes, RING_LAYOUT lays the rings, and the doorbells take their counts. -/
theorem portAccessesComplete : Obligations.PortAccessesComplete :=
  ⟨fun _ _ _ hup hne => i2cAWrite_other hup hne, fun _ _ _ hup haddr hlen hpec hres hok => i2cAWrite_writes hup haddr hlen hpec hres hok,
    fun _ _ _ hup haddr hpec hread => i2cARead_set hup haddr hpec hread, fun _ _ hup haddr hpec hread => i2cARead_next hup haddr hpec hread,
    fun _ _ hup hlen hcrc hok => spiWrite_writes hup hlen hcrc hok, fun _ _ hup hcrc hread => spiRead_reads hup hcrc hread,
    fun _ _ hup => spiStatus_shows hup, fun _ _ _ hup hspent hok => ringLayoutWrite_lays hup hspent hok,
    fun _ _ _ hup hok => dbCmdWrite_posts hup hok, fun _ _ _ hup hok => dbCplAckWrite_acks hup hok,
    fun _ _ _ hup hok => dbEvtAckWrite_acks hup hok⟩

end Sys2Proof.Machine
end

section
/-! PROOFS. The calibration runs (R233, R243-R248). -/

namespace Sys2Proof.Machine

open Sys2Proof

set_option Elab.async false

/-! What the parts of a run leave of the laps and of the run's handle. -/

section Held

variable {s t u : State} {l m : LaneId} {inst result : Nat}

theorem raiseMexis_cal (s : State) (e : Ev) : (raiseMexis s e).cal = s.cal := by
  unfold raiseMexis
  split
  · rfl
  · exact raiseEvent_cal ..

/-- An instance that ends puts its result in the run in progress. -/
theorem instanceEnd_cal (s : State) (c : CalTarget) (inst result : Nat) : (instanceEnd s c inst result).cal =
    { s.cal with run := s.cal.run.map fun r => { r with results := r.results ++ [(targetBit c, inst, result)] } } := by
  unfold instanceEnd
  extract_lets +onlyGivenNames s1 s2 s3
  have hs3 : s3.cal = s2.cal := raiseMexis_cal ..
  have hs2 : s2.cal = s.cal := by
    unfold s2
    split
    · rfl
    · rfl
  dsimp only
  rw [hs3, hs2]

/-- The handle of the run in progress stands, and so do those of deferred runs whose cues have fired. -/
structure RunHeld (s t : State) : Prop where
  handle : t.cal.run.map (·.handle) = s.cal.run.map (·.handle)
  fired : t.cal.fired = s.cal.fired

/-- The laps stand as well. -/
structure CalHeld (s t : State) : Prop extends RunHeld s t where
  lines : t.cal.lineLaps = s.cal.lineLaps
  hosts : t.cal.hostLaps = s.cal.hostLaps

theorem RunHeld.trans (h : RunHeld s t) (g : RunHeld t u) : RunHeld s u := ⟨g.handle.trans h.handle, g.fired.trans h.fired⟩

theorem CalHeld.of_cal (h : t.cal = s.cal) : CalHeld s t := ⟨⟨by rw [h], by rw [h]⟩, by rw [h], by rw [h]⟩

theorem CalHeld.trans (h : CalHeld s t) (g : CalHeld t u) : CalHeld s u :=
  ⟨h.toRunHeld.trans g.toRunHeld, g.lines.trans h.lines, g.hosts.trans h.hosts⟩

theorem CalHeld.lap (h : CalHeld s t) (l : LaneId) : lapOf t l = lapOf s l := by
  cases l
  · rw [lapOf, lapOf, h.lines]
  · rw [lapOf, lapOf, h.hosts]

theorem CalHeld.foldl {α : Type} {f : State → α → State} (h : ∀ s a, CalHeld s (f s a)) (as : List α) (s : State) :
    CalHeld s (as.foldl f s) := by
  induction as generalizing s with
  | nil => exact .of_cal rfl
  | cons a as ih => exact (h s a).trans (ih _)

theorem instanceEnd_held (s : State) (c : CalTarget) (inst result : Nat) : CalHeld s (instanceEnd s c inst result) := by
  refine ⟨⟨?_, ?_⟩, ?_, ?_⟩
  · rw [instanceEnd_cal, Option.map_map]
    rfl
  · rw [instanceEnd_cal]
  · rw [instanceEnd_cal]
  · rw [instanceEnd_cal]

theorem skewStart_held (s : State) (n : Nat) : CalHeld s (skewStart s n) := by
  unfold skewStart
  dsimp only
  split
  · exact instanceEnd_held ..
  · unfold skewBegin skewMark
    dsimp only
    split
    · exact ⟨⟨rfl, rfl⟩, rfl, rfl⟩
    · exact ⟨⟨rfl, rfl⟩, rfl, rfl⟩

theorem calNext_held (n : Nat) (s : State) : CalHeld s (calNext n s) := by
  induction n generalizing s with
  | zero => exact .of_cal rfl
  | succ n ih =>
    unfold calNext
    split
    · exact .of_cal rfl
    · split
      · next c q _ =>
        dsimp only
        have hqueue : CalHeld s { s with cal := { s.cal with bdacQueue := q } } := ⟨⟨rfl, rfl⟩, rfl, rfl⟩
        split
        · exact (hqueue.trans (instanceEnd_held ..)).trans (ih _)
        · exact ⟨⟨rfl, rfl⟩, rfl, rfl⟩
      · split
        · next c q _ =>
          dsimp only
          have hqueue : CalHeld s { s with cal := { s.cal with senseQueue := q } } := ⟨⟨rfl, rfl⟩, rfl, rfl⟩
          split
          · exact (hqueue.trans (instanceEnd_held ..)).trans (ih _)
          · split
            · exact (hqueue.trans (instanceEnd_held ..)).trans (ih _)
            · exact ⟨⟨rfl, rfl⟩, rfl, rfl⟩
        · exact .of_cal rfl

theorem lapOf_setLap_same (s : State) (l : LaneId) (x : Option Lap) : lapOf (setLap s l x) l = x := by
  cases l
  · exact vGet_vSet_same _ _ _ _ (Fin.isLt _)
  · exact vGet_vSet_same _ _ _ _ (Fin.isLt _)

theorem lapOf_setLap_other (h : m ≠ l) (s : State) (x : Option Lap) : lapOf (setLap s l x) m = lapOf s m := by
  cases l with
  | line n =>
    cases m with
    | line k => exact vGet_vSet_other _ _ _ fun e => h (congrArg LaneId.line (Fin.ext e))
    | host k => rfl
  | host n =>
    cases m with
    | line k => rfl
    | host k => exact vGet_vSet_other _ _ _ fun e => h (congrArg LaneId.host (Fin.ext e))

theorem setWings_held (s : State) (l : LaneId) (b : Bool) : CalHeld s (setWings s l b) := by
  cases l
  · exact .of_cal rfl
  · exact .of_cal rfl

theorem setLap_runHeld (s : State) (l : LaneId) (x : Option Lap) : RunHeld s (setLap s l x) := by
  cases l
  · exact ⟨rfl, rfl⟩
  · exact ⟨rfl, rfl⟩

theorem lapStart_runHeld (s : State) (l : LaneId) : RunHeld s (lapStart s l) := by
  unfold lapStart
  split
  · exact (instanceEnd_held ..).toRunHeld
  · split
    · exact (instanceEnd_held ..).toRunHeld
    · exact (setLap_runHeld ..).trans (setWings_held ..).toRunHeld

theorem lapStart_other (h : m ≠ l) (s : State) : lapOf (lapStart s l) m = lapOf s m := by
  unfold lapStart
  split
  · exact (instanceEnd_held ..).lap m
  · split
    · exact (instanceEnd_held ..).lap m
    · exact ((setWings_held ..).lap m).trans (lapOf_setLap_other h s _)

theorem lapStarts_runHeld (ls : List LaneId) (s : State) : RunHeld s (ls.foldl lapStart s) := by
  induction ls generalizing s with
  | nil => exact ⟨rfl, rfl⟩
  | cons l ls ih => exact (lapStart_runHeld ..).trans (ih _)

theorem lapStarts_other {ls : List LaneId} (h : m ∉ ls) (s : State) : lapOf (ls.foldl lapStart s) m = lapOf s m := by
  induction ls generalizing s with
  | nil => rfl
  | cons l ls ih =>
    rw [List.mem_cons, not_or] at h
    exact (ih h.2 _).trans (lapStart_other h.1 s)

/-- A run with a lap under way is not over. -/
theorem runCheck_under_way {x : Lap} (h : lapOf s l = some x) : runCheck s = s := by
  have hidle : runIdle s = false := by
    refine Bool.eq_false_iff.2 fun hidle => ?_
    simp only [runIdle, Bool.and_eq_true, List.all_eq_true] at hidle
    obtain ⟨⟨⟨⟨⟨⟨hline, hhost⟩, -⟩, -⟩, -⟩, -⟩, -⟩ := hidle
    cases l with
    | line n =>
      have hmem := hline _ (Vector.mem_toList_iff.2 (Vector.getElem_mem n.isLt))
      rw [lapOf, vGet] at h
      simp_all
    | host n =>
      have hmem := hhost _ (Vector.mem_toList_iff.2 (Vector.getElem_mem n.isLt))
      rw [lapOf, vGet] at h
      simp_all
  unfold runCheck
  split
  · rfl
  · rw [hidle]
    rfl

end Held

/-! A run starts (R233). -/

section Starting

variable {s t : State} {c : Cmd} {n : Fin 8} {x : CalSet} {h : Nat}

/-- A lane's slices are ready for a lap. -/
structure LapReady (s : State) (l : LaneId) : Prop where
  powered : lanePowered s l = true
  idle : laneRehearsing s l = false
  sound : sliceFailed s l (understudy s l) = false
  free : (slicesOf s l).pending = none

theorem lapStart_fresh {l : LaneId} (h : LapReady s l) : lapOf (lapStart s l) l = some (lapFresh (understudy s l)) := by
  obtain ⟨hpow, hidle, hsound, hfree⟩ := h
  unfold lapStart
  rw [if_neg (by rw [hpow, hidle]; decide), if_neg (by rw [hsound, hfree]; decide)]
  exact ((setWings_held ..).lap l).trans (lapOf_setLap_same ..)

/-- The fields that show how an instance ended. -/
abbrev endShown (c : CalTarget) : List Field := [F.CAL_INFO_RESULT c, F.CAL_COUNT_COUNT c, F.CAL_LAST_LO_HC_LO c, F.CAL_LAST_HI_HC_HI c,
  F.CAL_INFO_SETS c, F.CAL_INFO_TEMP c, F.CAL_INFO_ESTIMATED c]

/-- An instance that ends writes its own fields alone. -/
theorem Within.instanceEndAt {R : Scope} {c : CalTarget} {i r : Nat} (h : Within R s t) (hp : R.Allows [.cal .run])
    (hcal : R.OpenAt (endShown c) i) : Within R s (Machine.instanceEnd t c i r) := by
  unfold Machine.instanceEnd
  extract_lets +onlyGivenNames s1 s2 s3
  have hs1 : Within R s s1 := h.wr hcal (hf := by simp)
  have hs2 : Within R s s2 := .ite ((((((hs1.incSat hcal (hf := by simp)).wr hcal (hf := by simp)).wr hcal (hf := by simp)).wr hcal
    (hf := by simp)).wrI hcal (hf := by simp)).wrB hcal (hf := by simp)) hs1
  have hs3 : Within R s s3 := hs2.raiseMexis
  exact hs3.withCalRun hp

/-- What a line lane's readiness reads of the registers. -/
abbrev readyFields : List (Field × Nat) := [(F.TST_FENCED_LINE, 0), (F.TST_FENCED_HOST, 0), (F.LRX_SLICE_STATUS_UNDERSTUDY, 0),
  (F.LRX_SLICE_FAILED_0_FAILED, 0), (F.LRX_SLICE_FAILED_1_FAILED, 0), (F.LRX_SLICE_STATUS_FAILED_64, 0)]

/-- All but what a line lane's readiness depends on. -/
abbrev readyScope : Scope := keeping [.eff, .power .mode, .test .rehearsal, .lanes .lineFront] (keysOf readyFields)

/-- What a line lane's readiness depends on stands. -/
abbrev ReadyKept (s t : State) : Prop := Within readyScope s t

theorem understudy_of_kept (h : ReadyKept s t) (n : Fin 8) : understudy t (.line n) = understudy s (.line n) := h.rd_keysOf n.isLt

theorem lapReady_of_kept (h : ReadyKept s t) (hready : LapReady s (.line n)) : LapReady t (.line n) := by
  obtain ⟨hpow, hidle, hsound, hfree⟩ := hready
  have hrehearsal : t.test.rehearsal = s.test.rehearsal := h.kept (.test .rehearsal)
  have hlanes : t.lanes.lineFront = s.lanes.lineFront := h.kept (.lanes .lineFront)
  refine ⟨?_, ?_, ?_, ?_⟩
  · rw [lanePowered_of (h.kept .eff) (h.kept (.power .mode)) (h.rd_keysOf Nat.one_pos) (h.rd_keysOf Nat.one_pos), hpow]
  · rwa [laneRehearsing, rehearsing, hrehearsal]
  · rw [sliceFailed, failedMask, understudy_of_kept h, h.rd_keysOf n.isLt, h.rd_keysOf n.isLt, h.rd_keysOf n.isLt]
    exact hsound
  · rwa [slicesOf, front, hlanes]

theorem lapStart_readyKept (s : State) (l : LaneId) : ReadyKept s (lapStart s l) := by
  have hend : ∀ r, ReadyKept s (instanceEnd s (laneTarget l) l.num r) := fun r => by
    cases l with
    | line m =>
      have hopens : readyScope.Opens (endShown .lineSlices) 8 := keysOf_opens
      exact (Within.rfl' _ s).instanceEndAt keeping_allows (hopens m m.isLt)
    | host m =>
      have hopens : readyScope.Opens (endShown .hostSlices) 16 := keysOf_opens
      exact (Within.rfl' _ s).instanceEndAt keeping_allows (hopens m m.isLt)
  unfold lapStart
  exact .ite (hend _) (.ite (hend _) (((Within.rfl' _ s).setLap keeping_allows).setWings keysOf_opens keysOf_opens))

/-- Of lanes that start their laps one after another, each that is ready starts its own. -/
theorem lapStarts_fresh {ls : List LaneId} (hready : LapReady s (.line n)) (hmem : .line n ∈ ls) (hnodup : ls.Nodup) :
    lapOf (ls.foldl lapStart s) (.line n) = some (lapFresh (understudy s (.line n))) := by
  induction ls generalizing s with
  | nil => cases hmem
  | cons l ls ih =>
    obtain ⟨hnot, hrest⟩ := List.nodup_cons.1 hnodup
    rcases List.mem_cons.1 hmem with rfl | hmem
    · exact (lapStarts_other hnot _).trans (lapStart_fresh hready)
    · have hkept := lapStart_readyKept s l
      rw [List.foldl_cons, ih (lapReady_of_kept hkept hready) hmem hrest, understudy_of_kept hkept]

theorem allLine_nodup : allLine.Nodup := by decide

theorem mem_allLine (n : Fin 8) : .line n ∈ allLine := List.mem_map.2 ⟨n, List.mem_finRange n, rfl⟩

/-- A run of a ready line lane's slices goes on, under its handle. -/
theorem calStart_laps (hready : LapReady s (.line n)) (htarget : x.targets.testBit 0 = true) (hlane : x.line.testBit n = true) :
    lapOf (calStart s h x) (.line n) = some (lapFresh (understudy s (.line n))) ∧
      (∃ r, (calStart s h x).cal.run = some r ∧ r.handle = h) ∧ (calStart s h x).cal.fired = s.cal.fired := by
  unfold calStart
  extract_lets +onlyGivenNames bit _ s1 s2 s3 s4 s5 _ s6
  have hs2 : ReadyKept s s2 := (((Within.rfl' _ s).withCalRun keeping_allows).wr (fs := [F.CAL_STATE_TARGETS]) keysOf_zero).wr
    (fs := [F.CAL_STATE_HANDLE]) keysOf_zero
  have hs3 : s3 = (allLine.filter fun l => x.line.testBit l.num).foldl lapStart s2 := if_pos htarget
  have hlaps : lapOf s3 (.line n) = some (lapFresh (understudy s (.line n))) := by
    rw [hs3, lapStarts_fresh (lapReady_of_kept hs2 hready) (List.mem_filter.2 ⟨mem_allLine n, hlane⟩) (allLine_nodup.filter _),
      understudy_of_kept hs2]
  have hthree : RunHeld s2 s3 := hs3 ▸ lapStarts_runHeld ..
  have hfour : lapOf s4 (.line n) = lapOf s3 (.line n) ∧ RunHeld s3 s4 := by
    unfold s4
    split
    · exact ⟨lapStarts_other (fun hm => by simp [allHost] at hm) s3, lapStarts_runHeld ..⟩
    · exact ⟨rfl, rfl, rfl⟩
  have hfive : CalHeld s4 s5 := by
    unfold s5
    split
    · exact CalHeld.foldl skewStart_held _ _
    · exact .of_cal rfl
  have hqueues : CalHeld s5 s6 := ⟨⟨rfl, rfl⟩, rfl, rfl⟩
  have hsix : CalHeld s4 (calNext 60 s6) := (hfive.trans hqueues).trans (calNext_held ..)
  have hlap := ((hsix.lap (.line n)).trans hfour.1).trans hlaps
  have hrun := (hthree.trans hfour.2).trans hsix.toRunHeld
  rw [runCheck_under_way hlap]
  exact ⟨hlap, Option.map_eq_some_iff.1 hrun.handle, hrun.fired⟩

theorem mem_bitsSet {k m i : Nat} (hi : i < k) (h : m.testBit i = true) : i ∈ bitsSet k m := by
  simp [bitsSet, whichBelow, hi, h]

/-- A command that Mexis takes runs its own part in a state that only reporting separates from this one. -/
theorem hostCmd_runs {opcode : Nat} {masks : List (Nat × Nat)} {body : State → State × Reply} (htaken : Taken opcode masks c s) :
    ∃ v, OnlyReports s v ∧ hostCmd opcode masks noGate c body s = finish opcode c (body v).1 (body v).2 :=
  ⟨_, taken_reports .., hostCmd_taken _ body htaken rfl⟩

theorem lapReady_of_reports {v : State} (hv : OnlyReports s v) (hready : LapReady s (.line n)) : LapReady v (.line n) := by
  obtain ⟨hpow, hidle, hsound, hfree⟩ := hready
  refine ⟨(hv.lanePowered _).trans hpow, (laneRehearsing_of_test hv.test _).trans hidle, ?_, ?_⟩
  · simp only [sliceFailed, failedMask, understudy, rdL] at hsound ⊢
    rw [hv.rd_quiet, hv.rd_quiet, hv.rd_quiet, hv.rd_quiet]
    exact hsound
  · rwa [slicesOf, front, hv.lanes]

/-- The reserved bits of the command's words. -/
abbrev calRunMasks : List (Nat × Nat) := [(2, 0x1F), (3, 0xFF), (4, 0xFFFF), (5, 0xFFFFFFFF), (6, 0xFFFFFF), (7, 1)]

theorem calUnpowered_of_reports {v : State} (hv : OnlyReports s v) (x : CalSet) : calUnpowered v x = calUnpowered s x := by
  simp only [calUnpowered, hv.power, hv.lanePowered]

theorem calRehearsed_of_reports {v : State} (hv : OnlyReports s v) (x : CalSet) : calRehearsed v x = calRehearsed s x := by
  have hsame : ∀ k, rehearsing v k = rehearsing s k := fun k => funext fun i => rehearsing_of_test hv.test k i
  simp only [calRehearsed, hsame]

/-- A run that nothing keeps from starting passes Mexis's checks: one at once with none under way, one deferred with a free handle. -/
theorem calRun_passes {v : State} (hv : OnlyReports s v) (htargets : c.w 2 ≠ 0) (hempty : (calEmpty (calSetOf c)).any (·.1) = false)
    (hpowered : calUnpowered s (calSetOf c) = false) (hrehearsed : calRehearsed s (calSetOf c) = false)
    (hrun : c.w 7 ≠ 1 → s.cal.run = none) (hfree : c.w 7 = 1 → (freeHandle s).isSome = true) :
    calRun c v = if c.w 7 == 1 then
        ({ v with cal := { v.cal with deferred := aSet v.cal.deferred ((freeHandle v).getD 0) (calSetOf c) } },
          .done stOK 0 ((freeHandle v).getD 0) 0)
      else (v, .later 0 0) := by
  unfold calRun
  refine withChecks_pass (firstFail_none _ fun e he => ?_)
  have hhandle : freeHandle v = freeHandle s := by rw [freeHandle, freeHandle, hv.cal]
  dsimp only at he
  rw [calUnpowered_of_reports hv, calRehearsed_of_reports hv, hpowered, hrehearsed, hv.cal, hhandle] at he
  rcases List.mem_append.1 he with he | he
  · rcases List.mem_append.1 he with he | he
    · rw [List.mem_singleton.1 he]
      exact beq_false_of_ne htargets
    · obtain ⟨d, hd, rfl⟩ := List.mem_map.1 he
      exact Bool.eq_false_iff.2 (List.any_eq_false.1 hempty d hd)
  · simp only [List.mem_cons, List.not_mem_nil, or_false] at he
    rcases he with rfl | rfl | rfl
    · rfl
    · by_cases h7 : c.w 7 = 1
      · simp [h7]
      · simp [hrun h7]
    · by_cases h7 : c.w 7 = 1
      · simp [Option.isNone_eq_false_iff.2 (hfree h7)]
      · simp [h7]

theorem calRun_starts (htaken : Taken 0x0401 calRunMasks c s)
    (hempty : (calEmpty (calSetOf c)).any (·.1) = false) (hpowered : calUnpowered s (calSetOf c) = false)
    (hrehearsed : calRehearsed s (calSetOf c) = false) (hrun : s.cal.run = none) (hdefer : c.w 7 = 0) (htarget : (c.w 2).testBit 0 = true)
    (hlane : (c.w 3).testBit n = true) (hpow : lanePowered s (.line n) = true)
    (hsound : sliceFailed s (.line n) (understudy s (.line n)) = false) (hfree : (slicesOf s (.line n)).pending = none) :
    Runs (.calRun c) s fun t =>
      lapOf t (.line n) = some (lapFresh (understudy s (.line n))) ∧ ∃ r, t.cal.run = some r ∧ r.handle = 0 := by
  have hne : c.w 2 ≠ 0 := fun h => by
    rw [h] at htarget
    exact absurd htarget (by decide)
  have hidle : laneRehearsing s (.line n) = false := by
    simp only [calRehearsed, Bool.or_eq_false_iff, Bool.and_eq_false_iff] at hrehearsed
    obtain ⟨⟨⟨⟨hline, -⟩ | hline, -⟩, -⟩, -⟩ := hrehearsed
    · exact absurd (htarget.symm.trans hline) (by decide)
    · have hbit : ((c.w 3) ||| (c.w 3)).testBit n = true := by simp [hlane]
      exact Bool.eq_false_iff.2 (List.any_eq_false.1 hline n (mem_bitsSet n.isLt hbit))
  obtain ⟨v, hv, hcmd⟩ := hostCmd_runs (body := calRun c) htaken
  have hbody := calRun_passes hv hne hempty hpowered hrehearsed (fun _ => hrun) fun h1 => absurd (hdefer.symm.trans h1) (by decide)
  rw [if_neg (by rw [hdefer]; decide)] at hbody
  rw [hbody] at hcmd
  have hready : LapReady v (.line n) := lapReady_of_reports hv ⟨hpow, hidle, hsound, hfree⟩
  have hstudy : understudy v (.line n) = understudy s (.line n) := hv.rd_quiet
  have hprog : progHas (finish 0x0401 c v (.later 0 0)) 0x0401 0 = true := by simp [progHas, finish]
  have hnone : (finish 0x0401 c v (.later 0 0)).cal.run.isNone = true := by
    rw [show (finish 0x0401 c v (.later 0 0)).cal = v.cal from rfl, hv.cal, hrun]
    rfl
  refine runs_of_eq rfl (t := calStart (finish 0x0401 c v (.later 0 0)) 0 (calSetOf c)) ?_ ?_
  · show (if _ then _ else _) = _
    rw [hcmd]
    exact if_pos ⟨hprog, hnone⟩
  · rw [← hstudy]
    obtain ⟨hlap, hgoes, -⟩ := calStart_laps (s := finish 0x0401 c v (.later 0 0)) (h := 0) (x := calSetOf c)
      ⟨hready.powered, hready.idle, hready.sound, hready.free⟩ htarget hlane
    exact ⟨hlap, hgoes⟩

/-- A deferred run is kept under its handle. -/
theorem calRun_defers (htaken : Taken 0x0401 calRunMasks c s) (htargets : c.w 2 ≠ 0)
    (hempty : (calEmpty (calSetOf c)).any (·.1) = false) (hpowered : calUnpowered s (calSetOf c) = false)
    (hrehearsed : calRehearsed s (calSetOf c) = false) (hdefer : c.w 7 = 1) (hfree : freeHandle s = some h)
    (hprog : s.cal.run = none → progHas s 0x0401 0 = false) :
    CompletesOk (.calRun c) 0x0401 c s h 0 fun u =>
      aGet u.cal.deferred h = some (calSetOf c) ∧ u.cal.run = s.cal.run := by
  obtain ⟨v, hv, hcmd⟩ := hostCmd_runs (body := calRun c) htaken
  have hbody := calRun_passes hv htargets hempty hpowered hrehearsed (fun h7 => absurd hdefer h7) fun _ => by rw [hfree]; rfl
  have hhandle : freeHandle v = some h := by rw [← hfree, freeHandle, freeHandle, hv.cal]
  rw [if_pos (by rw [hdefer]; rfl), hhandle, Option.getD_some] at hbody
  rw [hbody] at hcmd
  refine ⟨{ v with cal := { v.cal with deferred := aSet v.cal.deferred h (calSetOf c) } }, congrArg Host.Outcome.next ?_,
    aGet_aSet_same .., congrArg (·.run) hv.cal⟩
  show (if _ then _ else _) = _
  rw [hcmd]
  refine if_neg fun hrun => ?_
  obtain ⟨hhas, hnone⟩ := hrun
  have hsrun : s.cal.run = none := by
    rw [Option.isNone_iff_eq_none] at hnone
    rw [← hnone, finish_done, complete_cal, hv.cal]
  have hsame : progHas (finish 0x0401 c { v with cal := { v.cal with deferred := aSet v.cal.deferred h (calSetOf c) } }
      (.done stOK 0 h 0)) 0x0401 0 = progHas s 0x0401 0 := by
    rw [finish_done, progHas, complete_mgmt_inProgress, progHas, hv.mgmt_inProgress]
  rw [hsame, hprog hsrun] at hhas
  cases hhas

theorem calRelease_frees (htaken : Taken 0x0403 [(2, 0xFFFF)] c s) (hsome : (aGet s.cal.deferred (c.w 2)).isSome = true) :
    CompletesOk (.calRelease c) 0x0403 c s 0 0 fun u => aGet u.cal.deferred (c.w 2) = none := by
  refine completesOk_of_reports htaken rfl (fun _ _ => rfl)
    (w := fun v => { v with cal := { v.cal with deferred := aDel v.cal.deferred (c.w 2) } }) (fun v hv => ?_) fun _ _ => aGet_aDel_same ..
  refine withChecks_pass (firstFail_none _ ?_)
  simp [hv.cal, Option.isNone_eq_false_iff.2 hsome]

/-- The state with a fired handle taken off. -/
def firedTaken (s : State) (h : Nat) : State := { s with cal := { s.cal with fired := s.cal.fired.filter (· != h) } }

/-- A deferred run starts when its cue has fired. -/
theorem calDeferredStart_starts {h : BitVec 16} (hfired : s.cal.fired.contains h.toNat = true) (hrun : s.cal.run = none)
    (hset : aGet s.cal.deferred h.toNat = some x) (htarget : x.targets.testBit 0 = true) (hlane : x.line.testBit n = true)
    (hready : LapReady s (.line n)) :
    Runs (.calDeferredStart h) s fun t =>
      t.cal.fired = s.cal.fired.filter (· != h.toNat) ∧ ∃ r, t.cal.run = some r ∧ r.handle = h.toNat := by
  have hlaps := calStart_laps (s := firedTaken s h.toNat) (h := h.toNat) ⟨hready.powered, hready.idle, hready.sound, hready.free⟩
    htarget hlane
  obtain ⟨-, hgoes, hrest⟩ := hlaps
  refine runs_of_eq rfl (t := calStart (firedTaken s h.toNat) h.toNat x) ?_ ⟨hrest, hgoes⟩
  unfold calDeferredStart
  split
  · next hnil =>
    rw [hnil] at hfired
    cases hfired
  · rw [if_pos ⟨hfired, by rw [hrun]; rfl⟩, hset]
    rfl

end Starting

/-! A run is aborted (R247). -/

section Aborting

variable {s t : State} {c : Cmd} {l m : LaneId}

/-- A lane's lap ends with the run that is aborted. -/
def lapAbort (s : State) (l : LaneId) : State :=
  match lapOf s l with
  | some _ => instanceEnd (setWings (setLap s l none) l false) (laneTarget l) l.num 3
  | none => s

theorem lapAbort_runHeld (s : State) (l : LaneId) : RunHeld s (lapAbort s l) := by
  unfold lapAbort
  split
  · exact ((setLap_runHeld ..).trans (setWings_held ..).toRunHeld).trans (instanceEnd_held ..).toRunHeld
  · exact ⟨rfl, rfl⟩

theorem lapAbort_same (s : State) (l : LaneId) : lapOf (lapAbort s l) l = none := by
  unfold lapAbort
  split
  · exact (((setWings_held ..).trans (instanceEnd_held ..)).lap l).trans (lapOf_setLap_same ..)
  · next hnone => exact hnone

theorem lapAbort_none (h : lapOf s m = none) (l : LaneId) : lapOf (lapAbort s l) m = none := by
  by_cases hml : m = l
  · rw [hml]
    exact lapAbort_same s l
  · unfold lapAbort
    split
    · exact (((setWings_held ..).trans (instanceEnd_held ..)).lap m).trans ((lapOf_setLap_other hml ..).trans h)
    · exact h

theorem lapAborts_none (ls : List LaneId) (h : m ∈ ls ∨ lapOf s m = none) : lapOf (ls.foldl lapAbort s) m = none := by
  induction ls generalizing s with
  | nil => exact h.resolve_left List.not_mem_nil
  | cons l ls ih =>
    refine ih ?_
    rcases h with h | h
    · rcases List.mem_cons.1 h with rfl | h
      · exact .inr (lapAbort_same ..)
      · exact .inl h
    · exact .inr (lapAbort_none h l)

theorem lapAborts_runHeld (ls : List LaneId) (s : State) : RunHeld s (ls.foldl lapAbort s) := by
  induction ls generalizing s with
  | nil => exact ⟨rfl, rfl⟩
  | cons l ls ih => exact (lapAbort_runHeld ..).trans (ih _)

theorem mem_allLanes (l : LaneId) : l ∈ allLine ++ allHost := by
  cases l with
  | line n => exact List.mem_append_left _ (mem_allLine n)
  | host n => exact List.mem_append_right _ (List.mem_map.2 ⟨n, List.mem_finRange n, rfl⟩)

theorem completeProg_cal (s : State) (opcode key code sub r0 r1 : Nat) : (completeProg s opcode key code sub r0 r1).cal = s.cal := by
  unfold completeProg
  split
  · split
    · rfl
    · exact complete_cal ..
  · rfl

/-- A run with nothing left under way ends. -/
theorem runCheck_ends (hrun : s.cal.run.isSome = true) (hidle : runIdle s = true) : (runCheck s).cal = { s.cal with run := none } := by
  obtain ⟨r, hr⟩ := Option.isSome_iff_exists.1 hrun
  unfold runCheck
  rw [hr]
  dsimp only
  rw [if_pos hidle]
  split
  · exact (completeProg_cal ..).trans (raiseMexis_cal ..)
  · exact raiseMexis_cal ..

/-- With no lap under way and nothing else of a run left, it is idle. -/
theorem runIdle_of_laps (hlaps : ∀ l, lapOf s l = none) (hskew : s.cal.skewNow = 0) (hqueues : s.cal.bdacQueue = [] ∧ s.cal.senseQueue = [])
    (hnow : s.cal.bdacNow = none ∧ s.cal.senseNow = none) : runIdle s = true := by
  have hlines : s.cal.lineLaps.toList.all (·.isNone) = true := List.all_eq_true.2 fun x hx => by
    obtain ⟨n, hn, rfl⟩ := Vector.mem_iff_getElem.1 (Vector.mem_toList_iff.1 hx)
    have := hlaps (.line ⟨n, hn⟩)
    simpa [lapOf, vGet, hn] using this
  have hhosts : s.cal.hostLaps.toList.all (·.isNone) = true := List.all_eq_true.2 fun x hx => by
    obtain ⟨n, hn, rfl⟩ := Vector.mem_iff_getElem.1 (Vector.mem_toList_iff.1 hx)
    have := hlaps (.host ⟨n, hn⟩)
    simpa [lapOf, vGet, hn] using this
  rw [runIdle, hlines, hhosts, hskew, hqueues.1, hqueues.2, hnow.1, hnow.2]
  rfl

theorem calAbortAll_ends (hrun : s.cal.run.isSome = true) : (calAbortAll s).cal.run = none ∧ runIdle (calAbortAll s) = true := by
  obtain ⟨r, hr⟩ := Option.isSome_iff_exists.1 hrun
  unfold calAbortAll
  rw [hr]
  extract_lets +onlyGivenNames s1 s2 s3 s4 s5
  have hs1 : s1 = (allLine ++ allHost).foldl lapAbort s := rfl
  have hheld : CalHeld s1 s5 := by
    have hs2 : CalHeld s1 s2 := CalHeld.foldl (fun _ _ => instanceEnd_held ..) _ _
    have hs3 : CalHeld s2 s3 := CalHeld.foldl (fun _ _ => instanceEnd_held ..) _ _
    have hs4 : CalHeld s3 s4 := by
      refine CalHeld.foldl (fun t n => ?_) _ _
      exact .of_cal rfl
    exact ((hs2.trans hs3).trans hs4).trans (CalHeld.foldl (fun _ _ => instanceEnd_held ..) _ _)
  have hlaps : ∀ l, lapOf s5 l = none := fun l => (hheld.lap l).trans (hs1 ▸ lapAborts_none _ (.inl (mem_allLanes l)))
  have hsome : s5.cal.run.isSome = true := by
    have hhandle := ((lapAborts_runHeld (allLine ++ allHost) s).trans (hs1 ▸ hheld.toRunHeld)).handle
    rw [← Option.isSome_map (f := (·.handle)), hhandle, Option.isSome_map, hrun]
  generalize hu : { s5 with cal := _ } = u
  have hfive : CalHeld s5 u := by rw [← hu]; exact ⟨⟨rfl, rfl⟩, rfl, rfl⟩
  have hnone : ∀ l, lapOf u l = none := fun l => (hfive.lap l).trans (hlaps l)
  have hidle : runIdle u = true := by
    subst hu
    exact runIdle_of_laps hnone rfl ⟨rfl, rfl⟩ ⟨rfl, rfl⟩
  have hend : (runCheck u).cal = { u.cal with run := none } := runCheck_ends (by rw [← hu]; exact hsome) hidle
  refine ⟨by rw [hend], ?_⟩
  rw [← hidle]
  simp only [runIdle, hend]

theorem calAbort_ends (htaken : Taken 0x0402 [] c s) (hrun : s.cal.run.isSome = true) :
    CompletesOk (.calAbort c) 0x0402 c s 0 0 fun u => u.cal.run = none ∧ runIdle u = true := by
  refine completesOk_of_reports htaken rfl (fun _ _ => rfl) (w := calAbortAll) (fun v hv => ?_) fun v hv => calAbortAll_ends (by rw [hv.cal, hrun])
  refine withChecks_pass (firstFail_none _ ?_)
  simp [hv.cal, Option.isNone_eq_false_iff.2 hrun]

end Aborting

/-- Settles O29: a run starts its laps, waits under its handle where it is deferred, and ends when it is aborted. -/
theorem calibrationRunsComplete : Obligations.CalibrationRunsComplete :=
  ⟨fun _ _ _ htaken hempty hpowered hreh hrun hdefer htarget hlane hpow hsound hfree =>
      calRun_starts htaken hempty hpowered hreh hrun hdefer htarget hlane hpow hsound hfree,
    fun _ _ _ htaken hne hempty hpowered hreh hdefer hfree hprog => calRun_defers htaken hne hempty hpowered hreh hdefer hfree hprog,
    fun _ _ htaken hrun => calAbort_ends htaken hrun, fun _ _ htaken hsome => calRelease_frees htaken hsome,
    fun _ _ _ _ hfired hrun hset htarget hlane hpow hidle hsound hfree =>
      calDeferredStart_starts hfired hrun hset htarget hlane ⟨hpow, hidle, hsound, hfree⟩⟩

end Sys2Proof.Machine
end

section
/-! PROOFS. The calibration measurements (R233-R242). -/

namespace Sys2Proof.Machine

open Sys2Proof

set_option Elab.async false

/-! Values taken into the store and as targets. -/

section Values

variable {s t : State} {c : CalTarget} {inst unit : Nat}

theorem bankWrittens_cal (ks : List Nat) (f : Nat → Nat) (s : State) : (ks.foldl (fun u k => bankWritten u 10 (f k)) s).cal = s.cal := by
  induction ks generalizing s with
  | nil => rfl
  | cons k ks ih => exact ih _

/-- The target of each value that an instance takes, in its order. -/
def targetsTaken (c : CalTarget) (inst unit : Nat) (es : List (Int × Nat)) (m : List (Nat × Int)) : List (Nat × Int) :=
  es.foldl (fun m e => aSet m (corrKey c inst unit e.2) (limited c e.2 e.1).1) m

theorem writeSets_cal (s : State) (key : Nat) (t v : Int) : ∃ sets, (writeSets s key t v).cal = { s.cal with sets := sets } :=
  ⟨_, bankWrittens_cal _ storeWord _⟩

/-- One value taken. -/
def valueTaken (c : CalTarget) (inst unit : Nat) (s : State) (e : Int × Nat) : State :=
  setTarget (writeSets s (corrKey c inst unit e.2) (regionTemp s (calRegion c inst)) (limited c e.2 e.1).1) (corrKey c inst unit e.2)
    (limited c e.2 e.1).1

theorem takeValues_eq (s : State) (c : CalTarget) (inst unit : Nat) (vs : List Int) :
    takeValues s c inst unit vs = vs.zipIdx.foldl (valueTaken c inst unit) s := rfl

theorem valueTaken_cal (s : State) (c : CalTarget) (inst unit : Nat) (e : Int × Nat) : ∃ sets, (valueTaken c inst unit s e).cal =
    { s.cal with sets := sets, targets := aSet s.cal.targets (corrKey c inst unit e.2) (limited c e.2 e.1).1 } := by
  obtain ⟨sets, h⟩ := writeSets_cal s (corrKey c inst unit e.2) (regionTemp s (calRegion c inst)) (limited c e.2 e.1).1
  refine ⟨sets, ?_⟩
  unfold valueTaken setTarget
  dsimp only
  rw [h]

theorem valuesTaken_cal (c : CalTarget) (inst unit : Nat) (es : List (Int × Nat)) (s : State) :
    ∃ sets, (es.foldl (valueTaken c inst unit) s).cal =
      { s.cal with sets := sets, targets := targetsTaken c inst unit es s.cal.targets } := by
  induction es generalizing s with
  | nil => exact ⟨s.cal.sets, rfl⟩
  | cons e es ih =>
    obtain ⟨sets, h⟩ := valueTaken_cal s c inst unit e
    obtain ⟨sets', h'⟩ := ih (valueTaken c inst unit s e)
    rw [h] at h'
    refine ⟨sets', ?_⟩
    rw [List.foldl_cons, h', targetsTaken, targetsTaken, List.foldl_cons]

theorem takeValues_cal (s : State) (c : CalTarget) (inst unit : Nat) (vs : List Int) : ∃ sets, (takeValues s c inst unit vs).cal =
    { s.cal with sets := sets, targets := targetsTaken c inst unit vs.zipIdx s.cal.targets } := by
  rw [takeValues_eq]
  exact valuesTaken_cal ..

theorem takeValues_held (s : State) (c : CalTarget) (inst unit : Nat) (vs : List Int) : CalHeld s (takeValues s c inst unit vs) := by
  obtain ⟨sets, h⟩ := takeValues_cal s c inst unit vs
  exact ⟨⟨by rw [h], by rw [h]⟩, by rw [h], by rw [h]⟩

theorem corrKey_kind {i j : Nat} (h : i ≠ j) : corrKey c inst unit i ≠ corrKey c inst unit j := by
  unfold corrKey
  omega

theorem corrKey_unit {u v : Nat} {i : Nat} (h : u ≠ v) : corrKey c inst u i ≠ corrKey c inst v i := by
  unfold corrKey
  omega

/-- Two values of one unit. -/
theorem takeValues_two (s : State) (a b : Int) (t : State) (ht : t = takeValues s c inst unit [a, b]) :
    aGet t.cal.targets (corrKey c inst unit 0) = some (limited c 0 a).1 ∧
      aGet t.cal.targets (corrKey c inst unit 1) = some (limited c 1 b).1 := by
  obtain ⟨sets, h⟩ := takeValues_cal s c inst unit [a, b]
  have htargets : t.cal.targets = aSet (aSet s.cal.targets (corrKey c inst unit 0) (limited c 0 a).1) (corrKey c inst unit 1) (limited c 1 b).1 := by
    rw [ht, h]
    rfl
  rw [htargets]
  exact ⟨(aGet_aSet_other _ _ (corrKey_kind (by decide))).trans (aGet_aSet_same ..), aGet_aSet_same ..⟩

theorem limited_lane (l : LaneId) (a b : Int) :
    (limited (laneTarget l) 0 a).1 = clampI 0 255 a ∧ (limited (laneTarget l) 1 b).1 = clampI (-32) 31 b := by
  cases l
  · exact ⟨rfl, rfl⟩
  · exact ⟨rfl, rfl⟩

end Values

/-! A lap ends. -/

section Ending

variable {s t : State} {l : LaneId} {r : Nat}

theorem runCheck_cal (s : State) : (runCheck s).cal = s.cal ∨ (runCheck s).cal = { s.cal with run := none } := by
  by_cases hrun : s.cal.run.isSome = true
  · by_cases hidle : runIdle s = true
    · exact .inr (runCheck_ends hrun hidle)
    · refine .inl ?_
      unfold runCheck
      split
      · rfl
      · rw [if_neg hidle]
  · have hnone : s.cal.run = none := Option.not_isSome_iff_eq_none.1 hrun
    unfold runCheck
    rw [hnone]
    exact .inl rfl

theorem runCheck_lap (s : State) (l : LaneId) : lapOf (runCheck s) l = lapOf s l := by
  rcases runCheck_cal s with h | h
  · cases l <;> simp only [lapOf, h]
  · cases l <;> simp only [lapOf, h]

theorem instanceEnd_result (s : State) (c : CalTarget) (inst r : Nat) (hr : r < 16) :
    rd (instanceEnd s c inst r) (F.CAL_INFO_RESULT c) inst = r := by
  have hsame : rd (wr s (F.CAL_INFO_RESULT c) r inst) (F.CAL_INFO_RESULT c) inst = r := (rd_wr_same ..).trans (Nat.mod_eq_of_lt hr)
  unfold instanceEnd
  extract_lets +onlyGivenNames s1 s2 s3
  have hs2 : rd s2 (F.CAL_INFO_RESULT c) inst = r := by
    unfold s2
    split
    · cases c
      all_goals exact (rd_wrB_apart ..).trans ((rd_wr_apart ..).trans ((rd_wr_apart ..).trans ((rd_wr_apart ..).trans ((rd_wr_apart ..).trans
        ((rd_wr_apart ..).trans hsame)))))
    · exact hsame
  have hs3 : rd s3 (F.CAL_INFO_RESULT c) inst = r := by
    unfold s3 raiseMexis
    split
    · exact hs2
    · cases c
      all_goals exact (raiseEvent_rd_quiet ..).trans hs2
  exact hs3

/-- The run's own fields are not an instance's result. -/
theorem runCheck_result (s : State) (l : LaneId) : rd (runCheck s) (F.CAL_INFO_RESULT (laneTarget l)) l.num =
    rd s (F.CAL_INFO_RESULT (laneTarget l)) l.num := by
  cases l with
  | line n =>
    have hkept : Within (keeping [] (keysOf [(F.CAL_INFO_RESULT .lineSlices, 0)])) s (runCheck s) :=
      (Within.rfl' _ s).runCheck keeping_allows keysOf_zero
    exact hkept.rd_keysOf (g := F.CAL_INFO_RESULT .lineSlices) n.isLt
  | host n =>
    have hkept : Within (keeping [] (keysOf [(F.CAL_INFO_RESULT .hostSlices, 0)])) s (runCheck s) :=
      (Within.rfl' _ s).runCheck keeping_allows keysOf_zero
    exact hkept.rd_keysOf (g := F.CAL_INFO_RESULT .hostSlices) n.isLt

theorem lapStop_shows {x : Lap} (h : lapOf s l = some x) (hr : r < 16) : lapOf (lapStop s l r) l = none ∧
    rd (lapStop s l r) (F.CAL_INFO_RESULT (laneTarget l)) l.num = r := by
  unfold lapStop
  rw [h]
  exact ⟨(runCheck_lap ..).trans ((((setWings_held ..).trans (instanceEnd_held ..)).lap l).trans (lapOf_setLap_same ..)),
    (runCheck_result ..).trans (instanceEnd_result _ _ _ _ hr)⟩

end Ending

/-! A slice is marked as failed (R64). -/

section Failing

variable {s t : State} {l : LaneId} {k : Nat}

/-- Setting a bit that is not set stays in a power of two. -/
theorem add_two_pow_lt {x k n : Nat} (hx : x < 2 ^ n) (hk : k < n) (hbit : x.testBit k = false) : x + 2 ^ k < 2 ^ n := by
  obtain ⟨m, rfl⟩ : ∃ m, n = k + (m + 1) := ⟨n - k - 1, by omega⟩
  have heven : x / 2 ^ k % 2 = 0 := by
    rw [Nat.testBit_eq_decide_div_mod_eq, decide_eq_false_iff_not] at hbit
    omega
  have hq : x / 2 ^ k < 2 ^ m * 2 := by
    rw [Nat.div_lt_iff_lt_mul (Nat.two_pow_pos k), ← Nat.pow_succ, ← Nat.pow_add, Nat.add_comm]
    exact hx
  have hlow : x < 2 ^ k * (x / 2 ^ k + 1) := Nat.lt_mul_div_succ x (Nat.two_pow_pos k)
  calc x + 2 ^ k < 2 ^ k * (x / 2 ^ k + 1) + 2 ^ k := Nat.add_lt_add_right hlow _
    _ = 2 ^ k * (x / 2 ^ k + 2) := by ring
    _ ≤ 2 ^ k * (2 ^ m * 2) := Nat.mul_le_mul_left _ (by omega)
    _ = 2 ^ (k + (m + 1)) := by rw [Nat.pow_add, Nat.pow_succ]

theorem failedMask_lt (s : State) (l : LaneId) : failedMask s l < 2 ^ sliceCount l := by
  cases l with
  | line n =>
    have h0 := rd_lt s F.LRX_SLICE_FAILED_0_FAILED n 0
    have h1 := rd_lt s F.LRX_SLICE_FAILED_1_FAILED n 0
    have h2 := rd_lt s F.LRX_SLICE_STATUS_FAILED_64 n 0
    simp only [F.LRX_SLICE_FAILED_0_FAILED, F.LRX_SLICE_FAILED_1_FAILED, F.LRX_SLICE_STATUS_FAILED_64] at h0 h1 h2
    show rd s F.LRX_SLICE_FAILED_0_FAILED n + rd s F.LRX_SLICE_FAILED_1_FAILED n * 2 ^ 32 + rd s F.LRX_SLICE_STATUS_FAILED_64 n * 2 ^ 64 < 2 ^ 65
    simp only [F.LRX_SLICE_FAILED_0_FAILED, F.LRX_SLICE_FAILED_1_FAILED, F.LRX_SLICE_STATUS_FAILED_64]
    omega
  | host n =>
    have h0 := rd_lt s F.HSL_SLICE_FAILED_FAILED n 0
    have h1 := rd_lt s F.HSL_SLICE_STATUS_FAILED_32 n 0
    simp only [F.HSL_SLICE_FAILED_FAILED, F.HSL_SLICE_STATUS_FAILED_32] at h0 h1
    show rd s F.HSL_SLICE_FAILED_FAILED n + rd s F.HSL_SLICE_STATUS_FAILED_32 n * 2 ^ 32 < 2 ^ 33
    simp only [F.HSL_SLICE_FAILED_FAILED, F.HSL_SLICE_STATUS_FAILED_32]
    omega

theorem failedMask_setFailedMask (s : State) {m : Nat} (h : m < 2 ^ sliceCount l) : failedMask (setFailedMask s l m) l = m := by
  cases l with
  | line n =>
    have hm : m < 2 ^ 65 := h
    have h0 : rd (setFailedMask s (.line n) m) F.LRX_SLICE_FAILED_0_FAILED n = m % 2 ^ 32 :=
      (rd_wr_apart ..).trans ((rd_wr_apart ..).trans ((rd_wr_same ..).trans (Nat.mod_mod ..)))
    have h1 : rd (setFailedMask s (.line n) m) F.LRX_SLICE_FAILED_1_FAILED n = m / 2 ^ 32 % 2 ^ 32 :=
      (rd_wr_apart ..).trans ((rd_wr_same ..).trans (Nat.mod_mod ..))
    have h2 : rd (setFailedMask s (.line n) m) F.LRX_SLICE_STATUS_FAILED_64 n = m / 2 ^ 64 % 2 ^ 1 := rd_wr_same ..
    rw [failedMask, h0, h1, h2]
    omega
  | host n =>
    have hm : m < 2 ^ 33 := h
    have h0 : rd (setFailedMask s (.host n) m) F.HSL_SLICE_FAILED_FAILED n = m % 2 ^ 32 :=
      (rd_wr_apart ..).trans ((rd_wr_same ..).trans (Nat.mod_mod ..))
    have h1 : rd (setFailedMask s (.host n) m) F.HSL_SLICE_STATUS_FAILED_32 n = m / 2 ^ 32 % 2 ^ 1 := rd_wr_same ..
    rw [failedMask, h0, h1]
    omega

theorem markFailed_marks (s : State) (hk : k < sliceCount l) : sliceFailed (markFailed s l k) l k = true := by
  unfold markFailed
  split
  · next h => exact h
  · next h =>
    rw [Bool.not_eq_true] at h
    rw [sliceFailed, failedMask_setFailedMask s (add_two_pow_lt (failedMask_lt s l) hk h), Nat.add_comm, Nat.testBit_two_pow_add_eq,
      show (failedMask s l).testBit k = false from h]
    rfl

/-- The fields that show which of the lanes' slices failed. -/
abbrev failedShown : List (Field × Nat) := [(F.LRX_SLICE_FAILED_0_FAILED, 0), (F.LRX_SLICE_FAILED_1_FAILED, 0),
  (F.LRX_SLICE_STATUS_FAILED_64, 0), (F.HSL_SLICE_FAILED_FAILED, 0), (F.HSL_SLICE_STATUS_FAILED_32, 0)]

theorem failedMask_of_kept {ps : List Piece} (h : Within (keeping ps (keysOf failedShown)) s t) : failedMask t l = failedMask s l := by
  cases l with
  | line n =>
    rw [failedMask, failedMask, h.rd_keysOf (g := F.LRX_SLICE_FAILED_0_FAILED) n.isLt, h.rd_keysOf (g := F.LRX_SLICE_FAILED_1_FAILED) n.isLt,
      h.rd_keysOf (g := F.LRX_SLICE_STATUS_FAILED_64) n.isLt]
  | host n =>
    rw [failedMask, failedMask, h.rd_keysOf (g := F.HSL_SLICE_FAILED_FAILED) n.isLt, h.rd_keysOf (g := F.HSL_SLICE_STATUS_FAILED_32) n.isLt]

theorem lapStop_failed (s : State) (l : LaneId) (r : Nat) : failedMask (lapStop s l r) l = failedMask s l := by
  refine failedMask_of_kept (ps := []) ?_
  unfold lapStop
  split
  · exact .rfl' _ s
  · cases l with
    | line n =>
      have hopens : (keeping [] (keysOf failedShown)).Opens (endShown .lineSlices) 8 := keysOf_opens
      exact ((((Within.rfl' _ s).setLap keeping_allows).setWings keysOf_opens keysOf_opens).instanceEndAt keeping_allows
        (hopens n n.isLt)).runCheck keeping_allows keysOf_zero
    | host n =>
      have hopens : (keeping [] (keysOf failedShown)).Opens (endShown .hostSlices) 16 := keysOf_opens
      exact ((((Within.rfl' _ s).setLap keeping_allows).setWings keysOf_opens keysOf_opens).instanceEndAt keeping_allows
        (hopens n n.isLt)).runCheck keeping_allows keysOf_zero

end Failing

/-! A slice is measured (R234, R237, R239). -/

section Measuring

variable {s : State} {l : LaneId} {num trim : Int} {den : Nat} {inl : List Int} {x : Lap} {pass : Bool}

theorem setFailedMask_cal (s : State) (l : LaneId) (m : Nat) : (setFailedMask s l m).cal = s.cal := by
  cases l
  · rfl
  · rfl

theorem markFailed_cal (s : State) (l : LaneId) (k : Nat) : (markFailed s l k).cal = s.cal := by
  unfold markFailed
  split
  · rfl
  · exact setFailedMask_cal ..

theorem dtcTargets_held (s : State) (n : Fin 8) (sums : List Int) (k : Nat) : CalHeld s (dtcTargets s n sums k) := by
  unfold dtcTargets
  generalize List.range 12 = ks
  refine CalHeld.foldl (fun t i => ?_) _ _
  generalize dtcValue s (.line n) sums k (i / 3) (i % 3) = o
  cases o
  · exact ⟨⟨rfl, rfl⟩, rfl, rfl⟩
  · exact ⟨⟨rfl, rfl⟩, rfl, rfl⟩

/-- The lap of a slice that was measured and waits for its handover. -/
def lapMeasured (x : Lap) (tick : Nat) (lim : Bool) (inl : List Int) : Lap :=
  { x with done := x.done + 1, waiting := true, setAt := tick, deferred := false, again := 0, limit := lim, inl := inlAdd x.inl inl }

theorem calMeasurementEnd_next (hlap : lapOf s l = some x) (hwait : x.waiting = false) (hwindow : s.faults.window = none) (hagain : x.again ≠ 1)
    (hmore : x.done + 1 ≠ sliceCount l) :
    Runs (.calMeasurementEnd l num den trim true inl) s fun t =>
      (∃ y, lapOf t l = some y ∧ y.done = x.done + 1 ∧ y.waiting = true ∧ y.setAt = s.time.tick ∧ y.wings = x.wings) ∧
      aGet t.cal.targets (corrKey (laneTarget l) l.num x.wings 0) = some (clampI 0 255 (newDelay s l x.wings num den)) ∧
      aGet t.cal.targets (corrKey (laneTarget l) l.num x.wings 1) = some (clampI (-32) 31 trim) := by
  generalize hu : takeValues s (laneTarget l) l.num x.wings [newDelay s l x.wings num den, trim] = u
  obtain ⟨hdelay, htrim⟩ := takeValues_two s (newDelay s l x.wings num den) trim u hu.symm
  obtain ⟨hlow, hhigh⟩ := limited_lane l (newDelay s l x.wings num den) trim
  refine runs_of_eq rfl (t := setLap u l (some (lapMeasured x s.time.tick (x.limit || anyLimit (laneTarget l)
    [newDelay s l x.wings num den, trim]) inl))) ?_ ⟨⟨_, lapOf_setLap_same .., rfl, rfl, rfl, rfl⟩, ?_⟩
  · unfold calMeasurementEnd
    rw [hlap]
    dsimp only
    rw [hwait, hwindow, if_neg (by decide), if_neg hagain, if_neg (by decide), if_neg hmore, hu]
    rfl
  · rw [hlow] at hdelay
    rw [hhigh] at htrim
    cases l
    · exact ⟨hdelay, htrim⟩
    · exact ⟨hdelay, htrim⟩

theorem calMeasurementEnd_fails (hlap : lapOf s l = some x) (hwait : x.waiting = false) (hwindow : s.faults.window = none)
    (hagain : x.again ≠ 1) :
    Runs (.calMeasurementEnd l num den trim false inl) s fun t =>
      lapOf t l = none ∧ rd t (F.CAL_INFO_RESULT (laneTarget l)) l.num = 4 ∧
        (x.wings < sliceCount l → sliceFailed t l x.wings = true) := by
  refine runs_of_eq rfl (t := lapStop (markFailed s l x.wings) l 4) ?_ ?_
  · unfold calMeasurementEnd
    rw [hlap]
    dsimp only
    rw [hwait, hwindow, if_neg (by decide), if_neg hagain, if_pos rfl]
  · obtain ⟨hnone, hresult⟩ := lapStop_shows (((CalHeld.of_cal (markFailed_cal s l x.wings)).lap l).trans hlap) (r := 4) (by decide)
    exact ⟨hnone, hresult, fun hk => by rw [sliceFailed, lapStop_failed]; exact markFailed_marks s hk⟩

theorem calMeasurementEnd_last (hlap : lapOf s l = some x) (hwait : x.waiting = false) (hwindow : s.faults.window = none)
    (hagain : x.again ≠ 1) (hlast : x.done + 1 = sliceCount l) :
    Runs (.calMeasurementEnd l num den trim true inl) s fun t =>
      lapOf t l = none ∧ rd t (F.CAL_INFO_RESULT (laneTarget l)) l.num =
        if x.limit || anyLimit (laneTarget l) [newDelay s l x.wings num den, trim] then 2 else 1 := by
  refine ⟨_, rfl, ?_⟩
  unfold calMeasurementEnd
  rw [hlap]
  dsimp only
  rw [hwait, hwindow, if_neg (by decide), if_neg hagain, if_neg (by decide), if_pos hlast]
  have htaken := takeValues_held s (laneTarget l) l.num x.wings [newDelay s l x.wings num den, trim]
  refine lapStop_shows (x := x) ?_ (by split <;> decide)
  cases l with
  | line n => exact ((htaken.trans (dtcTargets_held ..)).lap _).trans hlap
  | host n => exact (htaken.lap _).trans hlap

end Measuring

/-! A measured slice takes over (R237, R238). -/

section Handing

variable {s : State} {l : LaneId} {x : Lap} {r : Nat}

theorem slicesOf_of_lanes {s t : State} (h : t.lanes = s.lanes) (l : LaneId) : slicesOf t l = slicesOf s l := by
  rw [slicesOf, slicesOf, front_of_lanes h]

theorem setUnderstudy_lanes (s : State) (l : LaneId) (k : Nat) : (setUnderstudy s l k).lanes = s.lanes := by
  cases l
  · rfl
  · rfl

theorem setUnderstudy_held (s : State) (l : LaneId) (k : Nat) : CalHeld s (setUnderstudy s l k) := by
  cases l
  · exact .of_cal rfl
  · exact .of_cal rfl

theorem understudy_setUnderstudy (s : State) {k : Nat} (hk : k < sliceCount l) : understudy (setUnderstudy s l k) l = k := by
  cases l with
  | line n =>
    have hk' : k < 65 := hk
    exact (rd_wr_same ..).trans (Nat.mod_eq_of_lt (hk'.trans (by decide)))
  | host n =>
    have hk' : k < 33 := hk
    exact (rd_wr_same ..).trans (Nat.mod_eq_of_lt (hk'.trans (by decide)))

theorem slicesOf_setSlices (s : State) (l : LaneId) (q : Slices) : slicesOf (setSlices s l q) l = q := by
  rw [slicesOf, setSlices, front_setFront]

theorem calHandover_hands (hlap : lapOf s l = some x) (hwait : x.waiting = true) (hsince : sinceNs s (some x.setAt) 500 = true)
    (hreceiving : receiving s l = false) (hcapturing : capturing s l = false) (htakes : vgaTakes s l = false)
    (hplace : (slicesOf s l).place[x.done - 1]? = some r) (hr : r < sliceCount l) :
    Runs (.calHandover l) s fun t =>
      (slicesOf t l).place = (slicesOf s l).place.set (x.done - 1) x.wings ∧ understudy t l = r ∧
        lapOf t l = some { x with wings := r, waiting := false, deferred := false } := by
  refine runs_of_eq rfl (t := handOver s l x) ?_ ?_
  · unfold calHandover
    rw [hlap]
    dsimp only
    rw [if_pos ⟨hwait, hsince⟩, hreceiving, hcapturing, htakes, if_neg (by decide)]
  · unfold handOver
    extract_lets +onlyGivenNames q pos relieved s1
    have hrelieved : relieved = r := by
      unfold relieved pos q
      rw [hplace]
      rfl
    rw [hrelieved]
    refine ⟨?_, understudy_setUnderstudy _ hr, ?_⟩
    · have hslices := (slicesOf_of_lanes (setUnderstudy_lanes (setLap s1 l (some { x with wings := r, waiting := false, deferred := false }))
        l r) l).trans (slicesOf_of_lanes (setLap_lanes ..) l)
      rw [hslices]
      unfold s1
      rw [slicesOf_setSlices]
    · exact ((setUnderstudy_held ..).lap l).trans (lapOf_setLap_same ..)

end Handing

/-! Corrections step toward their targets, and targets follow the temperature (R241, R242). -/

section Corrections

variable {s : State} {k : Nat} {v : Int}

/-- One correction in use steps toward its target, where what it corrects is powered. -/
def correctionStep (s : State) (m : List (Nat × Int)) (e : Nat × Int) : List (Nat × Int) :=
  if keyPowered s e.1 then aSet m e.1 (stepToward (corrInUse s e.1) e.2) else m

theorem correctionStep_other {e : Nat × Int} (h : k ≠ e.1) (m : List (Nat × Int)) : aGet (correctionStep s m e) k = aGet m k := by
  unfold correctionStep
  split
  · exact aGet_aSet_other _ _ h
  · rfl

theorem correctionSteps_other {es : List (Nat × Int)} (h : k ∉ es.map (·.1)) (m : List (Nat × Int)) :
    aGet (es.foldl (correctionStep s) m) k = aGet m k := by
  induction es generalizing m with
  | nil => rfl
  | cons e es ih =>
    rw [List.map_cons, List.mem_cons, not_or] at h
    exact (ih h.2 _).trans (correctionStep_other h.1 m)

theorem correctionSteps_get {es : List (Nat × Int)} (hnodup : (es.map (·.1)).Nodup) (hmem : (k, v) ∈ es) (hpow : keyPowered s k = true)
    (m : List (Nat × Int)) : aGet (es.foldl (correctionStep s) m) k = some (stepToward (corrInUse s k) v) := by
  induction es generalizing m with
  | nil => cases hmem
  | cons e es ih =>
    rw [List.map_cons, List.nodup_cons] at hnodup
    rcases List.mem_cons.1 hmem with rfl | hmem
    · rw [List.foldl_cons, correctionSteps_other hnodup.1, correctionStep, if_pos hpow]
      exact aGet_aSet_same ..
    · exact ih hnodup.2 hmem _

theorem foldl_cal {α : Type} {f : State → α → State} (h : ∀ s a, (f s a).cal = s.cal) (as : List α) (s : State) :
    (as.foldl f s).cal = s.cal := by
  induction as generalizing s with
  | nil => rfl
  | cons a as ih => exact (ih _).trans (h s a)

theorem calCorrectionUpdate_steps (hnodup : (s.cal.targets.map (·.1)).Nodup) : Runs .calCorrectionUpdate s fun t =>
    ∀ k v, (k, v) ∈ s.cal.targets → keyPowered s k = true → corrInUse t k = stepToward (corrInUse s k) v := by
  refine ⟨_, rfl, fun k v hmem hpow => ?_⟩
  have hinUse : (calCorrectionUpdate s).cal.inUse = s.cal.targets.foldl (correctionStep s) s.cal.inUse := by
    unfold calCorrectionUpdate
    extract_lets +onlyGivenNames _ s1
    refine congrArg CalState.inUse (foldl_cal (fun t e => ?_) _ s1)
    rfl
  rw [corrInUse, hinUse, correctionSteps_get hnodup hmem hpow]
  rfl

/-- The state with other targets. -/
def withTargets (s : State) (m : List (Nat × Int)) : State := { s with cal := { s.cal with targets := m } }

/-- A stored word without errors reads as it was stored. -/
theorem eccRead_clean {s : State} {b a : Nat} (herrs : (bankOf s b).errs = []) (hpoison : (bankOf s b).poison = []) :
    eccRead s b a = (s, false) := by
  have hp : isPoisoned s b a = false := by
    rw [isPoisoned, hpoison]
    rfl
  have he : wordErrs s b a = 0 := by
    rw [wordErrs, herrs]
    rfl
  unfold eccRead
  rw [if_neg (by rw [hp]; decide), he]
  split
  · rfl
  · rfl

theorem storeRead_clean {s : State} (herrs : (bankOf s 10).errs = []) (hpoison : (bankOf s 10).poison = []) (key : Nat) :
    storeRead s key = s := by
  unfold storeRead
  generalize (List.range 5).filter (setValid s key) = ks
  induction ks with
  | nil => rfl
  | cons k ks ih =>
    rw [List.foldl_cons, eccRead_clean herrs hpoison]
    exact ih

/-- The target that one key's set values give at the temperature of its region. -/
def tempTarget (s : State) (m : List (Nat × Int)) (key : Nat) : List (Nat × Int) :=
  match setsValue s key (regionTemp s (calRegion (keyTarget key) (keyInst key))) with
  | some v => aSet m key v
  | none => m

theorem calTempRecompute_eq (herrs : (bankOf s 10).errs = []) (hpoison : (bankOf s 10).poison = []) :
    calTempRecompute s = withTargets s ((setKeys s).foldl (tempTarget s) s.cal.targets) := by
  have hall : ∀ (ks : List Nat) (m : List (Nat × Int)), ks.foldl (fun u key =>
      let t := storeRead u key
      match setsValue t key (regionTemp t (calRegion (keyTarget key) (keyInst key))) with
      | some v => setTarget t key v
      | none => t) (withTargets s m) = withTargets s (ks.foldl (tempTarget s) m) := by
    intro ks
    induction ks with
    | nil => exact fun _ => rfl
    | cons key ks ih =>
      intro m
      rw [List.foldl_cons, List.foldl_cons, ← ih (tempTarget s m key)]
      refine congrArg (fun u => List.foldl _ u ks) ?_
      dsimp only
      rw [storeRead_clean (s := withTargets s m) herrs hpoison]
      have hvalue : setsValue (withTargets s m) key (regionTemp (withTargets s m) (calRegion (keyTarget key) (keyInst key))) =
          setsValue s key (regionTemp s (calRegion (keyTarget key) (keyInst key))) := rfl
      rw [hvalue, tempTarget]
      cases setsValue s key (regionTemp s (calRegion (keyTarget key) (keyInst key)))
      · rfl
      · rfl
  exact hall (setKeys s) s.cal.targets

theorem tempTargets_get {ks : List Nat} {key : Nat}
    (hv : setsValue s key (regionTemp s (calRegion (keyTarget key) (keyInst key))) = some v) (m : List (Nat × Int))
    (h : key ∈ ks ∨ aGet m key = some v) : aGet (ks.foldl (tempTarget s) m) key = some v := by
  induction ks generalizing m with
  | nil => exact h.resolve_left List.not_mem_nil
  | cons k ks ih =>
    refine ih _ ?_
    by_cases hk : key = k
    · subst hk
      refine .inr ?_
      rw [tempTarget, hv]
      exact aGet_aSet_same ..
    · refine h.imp (fun hmem => (List.mem_cons.1 hmem).resolve_left hk) fun hget => ?_
      unfold tempTarget
      split
      · exact (aGet_aSet_other _ _ hk).trans hget
      · exact hget

theorem calTempRecompute_targets (herrs : (bankOf s 10).errs = []) (hpoison : (bankOf s 10).poison = []) :
    Runs .calTempRecompute s fun t =>
      ∀ key v, key ∈ setKeys s → setsValue s key (regionTemp s (calRegion (keyTarget key) (keyInst key))) = some v →
        aGet t.cal.targets key = some v :=
  runs_of_eq rfl (calTempRecompute_eq herrs hpoison) fun _ _ hmem hv => tempTargets_get hv _ (.inl hmem)

end Corrections

/-! The DAC skews, the bias DACs and the sense channels (R235, R236, R240). -/

section Others

variable {s t : State} {c n : Nat}

/-- A scope that keeps the targets alone. -/
abbrev TargetsKept (s t : State) : Prop := Within (keeping [.cal .targets] []) s t

theorem targets_of_kept (h : TargetsKept s t) : t.cal.targets = s.cal.targets := h.kept (.cal .targets)

theorem targetsTaken_one (c : CalTarget) (inst unit : Nat) (v : Int) (m : List (Nat × Int)) :
    targetsTaken c inst unit [v].zipIdx m = aSet m (corrKey c inst unit 0) (limited c 0 v).1 := rfl

theorem skewNow_takeValues (s : State) (c : CalTarget) (inst unit : Nat) (vs : List Int) :
    (takeValues s c inst unit vs).cal.skewNow = s.cal.skewNow := by
  obtain ⟨sets, h⟩ := takeValues_cal s c inst unit vs
  rw [h]

theorem targets_takeValues_one (s : State) (c : CalTarget) (inst unit : Nat) (v : Int) :
    (takeValues s c inst unit [v]).cal.targets = aSet s.cal.targets (corrKey c inst unit 0) (limited c 0 v).1 := by
  obtain ⟨sets, h⟩ := takeValues_cal s c inst unit [v]
  rw [h]
  rfl

/-- A bit that is set and taken away is clear. -/
theorem testBit_sub_two_pow {m k : Nat} (h : m.testBit k = true) : (m - 2 ^ k).testBit k = false := by
  have hle : 2 ^ k ≤ m := Nat.ge_two_pow_of_testBit h
  have hsum : m = 2 ^ k + (m - 2 ^ k) := (Nat.add_sub_cancel' hle).symm
  rw [hsum, Nat.testBit_two_pow_add_eq] at h
  simpa using h

theorem dacSkewMeasurementEnd_takes {n : Fin 8} {k0 k1 k2 k3 : Int} (hnow : s.cal.skewNow.testBit n = true)
    (hagain : s.cal.skewAgain.testBit n = false) (hlive : s.cal.skewLive.testBit n = true) (hwindow : s.faults.window = none) :
    Runs (.dacSkewMeasurementEnd n k0 k1 k2 k3) s fun t =>
      t.cal.skewNow.testBit n = false ∧ aGet t.cal.targets (corrKey .dacSkew n 0 0) = some (clampI 0 63 k0) ∧
        aGet t.cal.targets (corrKey .dacSkew n 3 0) = some (clampI 0 63 k3) := by
  generalize hs1 : { s with cal := { skewFresh s.cal n with skewNow := s.cal.skewNow - 2 ^ n.val } } = s1
  generalize hu : takeValues (takeValues (takeValues (takeValues s1 .dacSkew n 0 [k0]) .dacSkew n 1 [k1]) .dacSkew n 2 [k2]) .dacSkew n 3 [k3] = u
  generalize hr : (if [k0, k1, k2, k3].any fun v => (limited .dacSkew 0 v).2 then 2 else 1) = r
  have hfour : ([k0, k1, k2, k3].zipIdx).foldl (fun t e => takeValues t .dacSkew n e.2 [e.1]) s1 = u := by
    rw [← hu]
    simp only [List.zipIdx_cons, List.zipIdx_nil, List.foldl_cons, List.foldl_nil, Nat.zero_add, Nat.reduceAdd]
  have hend : runCheck (instanceEnd u .dacSkew n r) = dacSkewEnd n [k0, k1, k2, k3] s := by
    unfold dacSkewEnd
    rw [if_pos (by rw [hnow, hwindow]; rfl), if_neg (by rw [hagain]; decide)]
    dsimp only
    rw [hs1, if_neg (by rw [hlive]; decide), hfour, hr]
  have hkept : TargetsKept u (runCheck (instanceEnd u .dacSkew n r)) :=
    ((Within.rfl' _ u).instanceEnd keeping_allows keeping_wide.cal).runCheck keeping_allows keeping_wide.openAt
  have hnowKept : Within (keeping [.cal .skewNow] []) u (runCheck (instanceEnd u .dacSkew n r)) :=
    ((Within.rfl' _ u).instanceEnd keeping_allows keeping_wide.cal).runCheck keeping_allows keeping_wide.openAt
  have hskew : u.cal.skewNow = s.cal.skewNow - 2 ^ n.val := by
    rw [← hu, skewNow_takeValues, skewNow_takeValues, skewNow_takeValues, skewNow_takeValues, ← hs1]
  refine runs_of_eq rfl hend.symm ⟨?_, ?_, ?_⟩
  · have hsame : (runCheck (instanceEnd u .dacSkew n r)).cal.skewNow = u.cal.skewNow := hnowKept.kept (.cal .skewNow)
    rw [hsame, hskew]
    exact testBit_sub_two_pow hnow
  · rw [targets_of_kept hkept, ← hu, targets_takeValues_one, targets_takeValues_one, targets_takeValues_one, targets_takeValues_one,
      aGet_aSet_other _ _ (corrKey_unit (by decide)), aGet_aSet_other _ _ (corrKey_unit (by decide)),
      aGet_aSet_other _ _ (corrKey_unit (by decide)), aGet_aSet_same]
    rfl
  · rw [targets_of_kept hkept, ← hu, targets_takeValues_one, aGet_aSet_same]
    rfl

theorem bdacCalMeasurementEnd_takes {c : Fin 32} {o1 g1 o2 g2 : Int} (hnow : s.cal.bdacNow = some c.val) (hrepeat : s.cal.repeatBdac = false)
    (hwindow : s.faults.window = none) :
    Runs (.bdacCalMeasurementEnd c o1 g1 o2 g2) s fun t =>
      aGet t.cal.targets (corrKey .biasDacs c 0 0) = some (clampI (-128) 127 o1) ∧
        aGet t.cal.targets (corrKey .biasDacs c 1 1) = some (clampI (-128) 127 g2) := by
  generalize hs1 : takeValues s .biasDacs c 0 [o1, g1] = s1
  generalize hs2 : takeValues s1 .biasDacs c 1 [o2, g2] = s2
  obtain ⟨hoff, -⟩ := takeValues_two s o1 g1 s1 hs1.symm
  obtain ⟨-, hgain⟩ := takeValues_two s1 o2 g2 s2 hs2.symm
  have hoff2 : aGet s2.cal.targets (corrKey .biasDacs c 0 0) = some (limited .biasDacs 0 o1).1 := by
    obtain ⟨sets, h⟩ := takeValues_cal s1 .biasDacs c 1 [o2, g2]
    rw [← hs2, h]
    refine (aGet_aSet_other _ _ ?_).trans ((aGet_aSet_other _ _ (corrKey_unit (by decide))).trans hoff)
    unfold corrKey
    omega
  refine ⟨_, rfl, ?_⟩
  unfold bdacCalEnd
  rw [if_pos ⟨hnow, by rw [hwindow]; rfl⟩, hrepeat, if_neg (by decide), hs1, hs2]
  generalize (anyLimit .biasDacs [o1, g1] || anyLimit .biasDacs [o2, g2]) = lim
  dsimp only
  have hnone : TargetsKept s2 { s2 with cal := { s2.cal with bdacNow := none } } := (Within.rfl' _ s2).withCalBdacNow keeping_allows
  have hkept : TargetsKept s2 (runCheck (calNext 60 (instanceEnd { s2 with cal := { s2.cal with bdacNow := none } } .biasDacs c
      (if lim then 2 else 1)))) :=
    ((hnone.instanceEnd keeping_allows keeping_wide.cal).calNext keeping_allows keeping_wide.cal).runCheck keeping_allows keeping_wide.openAt
  rw [targets_of_kept hkept]
  exact ⟨hoff2, hgain⟩

/-- Taking up the next channel leaves each that is not queued. -/
theorem calNext_sense (k : Nat) (h : n ∉ s.cal.senseQueue) : senseChan (calNext k s) n = senseChan s n := by
  have hend : ∀ (v : State) (d : CalTarget) (i r : Nat), senseChan (instanceEnd v d i r) n = senseChan v n := fun v d i r => by
    have hkept : Within (keeping [.ctl .sense] []) v (instanceEnd v d i r) :=
      (Within.rfl' _ v).instanceEnd keeping_allows keeping_wide.cal
    have hsense : (instanceEnd v d i r).ctl.sense = v.ctl.sense := hkept.kept (.ctl .sense)
    rw [senseChan, senseChan, hsense]
  induction k generalizing s with
  | zero => rfl
  | succ k ih =>
    unfold calNext
    split
    · rfl
    · split
      · next d q _ =>
        dsimp only
        split
        · refine (ih ?_).trans (hend ..)
          rw [instanceEnd_cal]
          exact h
        · rfl
      · split
        · next d q hq =>
          dsimp only
          rw [hq, List.mem_cons, not_or] at h
          obtain ⟨hne, hnot⟩ := h
          split
          · refine (ih ?_).trans (hend ..)
            rw [instanceEnd_cal]
            exact hnot
          · split
            · refine (ih ?_).trans (hend ..)
              rw [instanceEnd_cal]
              exact hnot
            · exact vGet_vSet_other _ _ _ hne
        · rfl

theorem snsCalMeasurementEnd_takes {n : Fin 24} {offset gain : Int} (hnow : s.cal.senseNow = some n.val) (hrepeat : s.cal.repeatSense = false)
    (hqueue : n.val ∉ s.cal.senseQueue) (hwindow : s.faults.window = none) :
    Runs (.snsCalMeasurementEnd n offset gain) s fun t =>
      aGet t.cal.targets (corrKey .senseChans n 0 0) = some (clampI (-128) 127 offset) ∧
        aGet t.cal.targets (corrKey .senseChans n 0 1) = some (clampI (-128) 127 gain) ∧
        (senseChan t n).calibrating = false := by
  generalize hs1 : takeValues s .senseChans n 0 [offset, gain] = s1
  obtain ⟨hoff, hgain⟩ := takeValues_two s offset gain s1 hs1.symm
  have hqueue1 : s1.cal.senseQueue = s.cal.senseQueue := by
    obtain ⟨sets, h⟩ := takeValues_cal s .senseChans n 0 [offset, gain]
    rw [← hs1, h]
  generalize hx : ({ senseChan s1 n with calibrating := false, unsettled := (senseFresh s1 n).unsettled } : SenseChan) = x
  generalize hs2 : setSense s1 n x = s2
  generalize hs3 : { s2 with cal := { s2.cal with senseNow := none } } = s3
  generalize hr : (if anyLimit .senseChans [offset, gain] then 2 else 1) = r
  have hend : snsCalEnd n offset gain s = runCheck (calNext 60 (instanceEnd s3 .senseChans n r)) := by
    unfold snsCalEnd
    rw [if_pos ⟨hnow, by rw [hwindow]; rfl⟩, hrepeat, if_neg (by decide), hs1]
    dsimp only
    rw [hx, hs2, hs3, hr]
  have hkept : TargetsKept s1 (runCheck (calNext 60 (instanceEnd s3 .senseChans n r))) := by
    have hs3' : TargetsKept s1 s3 := by
      rw [← hs3, ← hs2]
      exact ((Within.rfl' _ s1).setSense keeping_allows).withCalSenseNow keeping_allows
    exact ((hs3'.instanceEnd keeping_allows keeping_wide.cal).calNext keeping_allows keeping_wide.cal).runCheck keeping_allows keeping_wide.openAt
  refine runs_of_eq rfl hend ⟨?_, ?_, ?_⟩
  · rw [targets_of_kept hkept]
    exact hoff
  · rw [targets_of_kept hkept]
    exact hgain
  · have hcheck : Within (keeping [.ctl .sense] []) (calNext 60 (instanceEnd s3 .senseChans n r))
        (runCheck (calNext 60 (instanceEnd s3 .senseChans n r))) := (Within.rfl' _ _).runCheck keeping_allows keeping_wide.openAt
    have hsense : Within (keeping [.ctl .sense] []) s3 (instanceEnd s3 .senseChans n r) :=
      (Within.rfl' _ _).instanceEnd keeping_allows keeping_wide.cal
    have hcheckSense : (runCheck (calNext 60 (instanceEnd s3 .senseChans n r))).ctl.sense =
      (calNext 60 (instanceEnd s3 .senseChans n r)).ctl.sense := hcheck.kept (.ctl .sense)
    have hendSense : (instanceEnd s3 .senseChans n r).ctl.sense = s3.ctl.sense := hsense.kept (.ctl .sense)
    have hnot : n.val ∉ (instanceEnd s3 .senseChans n r).cal.senseQueue := by
      rw [instanceEnd_cal, ← hs3, ← hs2]
      show n.val ∉ s1.cal.senseQueue
      rwa [hqueue1]
    have hnext := calNext_sense 60 hnot
    have hchan : senseChan s3 n = x := by
      rw [← hs3, ← hs2]
      exact vGet_vSet_same _ _ _ _ n.isLt
    rw [senseChan, hcheckSense]
    rw [senseChan] at hnext
    rw [hnext, senseChan, hendSense]
    rw [senseChan] at hchan
    rw [hchan, ← hx]

end Others

/-- Settles O30: measured values become targets, a lap goes on slice by slice or ends with its result, and corrections step. -/
theorem calibrationMeasurementsComplete : Obligations.CalibrationMeasurementsComplete :=
  ⟨fun _ _ _ _ _ _ _ hlap hwait hwindow hagain hmore => calMeasurementEnd_next hlap hwait hwindow hagain hmore,
    fun _ _ _ _ _ _ _ hlap hwait hwindow hagain => calMeasurementEnd_fails hlap hwait hwindow hagain,
    fun _ _ _ _ _ _ _ hlap hwait hwindow hagain hlast => calMeasurementEnd_last hlap hwait hwindow hagain hlast,
    fun _ _ _ _ hlap hwait hsince hrec hcap htakes hplace hr => calHandover_hands hlap hwait hsince hrec hcap htakes hplace hr,
    fun _ hnodup => calCorrectionUpdate_steps hnodup, fun _ herrs hpoison => calTempRecompute_targets herrs hpoison,
    fun _ _ _ _ _ _ hnow hagain hlive hwindow => dacSkewMeasurementEnd_takes hnow hagain hlive hwindow,
    fun _ _ _ _ _ _ hnow hrepeat hwindow => bdacCalMeasurementEnd_takes hnow hrepeat hwindow,
    fun _ _ _ _ hnow hrepeat hqueue hwindow => snsCalMeasurementEnd_takes hnow hrepeat hqueue hwindow⟩

end Sys2Proof.Machine
end

section
/-! PROOFS. The test commands and the test access port (R434-R447). -/

namespace Sys2Proof.Machine

open Sys2Proof

set_option Elab.async false

/-! A test begins. -/

section Beginning

variable {s v : State} {c : Cmd} {cls inst : Nat}

theorem OnlyReports.loopState (h : OnlyReports s v) (l : Nat) : Machine.loopState v l = Machine.loopState s l := h.rd_quiet

theorem OnlyReports.loopCoupled (h : OnlyReports s v) (l n : Nat) : Machine.loopCoupled v l n = Machine.loopCoupled s l n := by
  have hgrouped : loopGrouped v l = loopGrouped s l := by rw [loopGrouped, loopGrouped, h.rdE]
  have hgroup : loopGroup v l = loopGroup s l := h.rdE ..
  rw [Machine.loopCoupled, Machine.loopCoupled, hgrouped, hgroup, h.rdE, h.rdE]

theorem OnlyReports.loopActuator (h : OnlyReports s v) (l : Nat) : Machine.loopActuator v l = Machine.loopActuator s l := by
  have hgrouped : loopGrouped v l = loopGrouped s l := by rw [loopGrouped, loopGrouped, h.rdE]
  have hgroup : loopGroup v l = loopGroup s l := h.rdE ..
  rw [Machine.loopActuator, Machine.loopActuator, hgrouped, hgroup, h.rdE, h.rdE, h.rdE]

theorem OnlyReports.rehearsalReady (h : OnlyReports s v) (cls inst : Nat) :
    Machine.rehearsalReady v cls inst = Machine.rehearsalReady s cls inst := by
  unfold Machine.rehearsalReady
  rw [h.power]
  congr 1
  split
  all_goals simp only [portQuiet, portOfLine_of_eff h.eff, portOfHost_of_eff h.eff, groupLoops, driversOf, loopMode,
    loopReadsLane, h.loopCoupled, loopReadsSense, loopGrouped, loopGroup, h.loopActuator, h.rdE, h.loopState]

theorem OnlyReports.clusterCalibrating (h : OnlyReports s v) (cls inst : Nat) :
    Machine.clusterCalibrating v cls inst = Machine.clusterCalibrating s cls inst := by
  simp only [Machine.clusterCalibrating, lapOf, h.cal]

theorem OnlyReports.testRuns (h : OnlyReports s v) : Machine.testRuns v = Machine.testRuns s := by
  rw [Machine.testRuns, Machine.testRuns, h.test]

theorem testBegins_shows (s : State) (test cls inst : Nat) (t : State) (ht : t = testBegins s test cls inst) : rd t F.TST_STATUS_RUNNING = 1 ∧
    rd t F.TST_STATUS_TEST = test % 16 ∧ rd t F.TST_STATUS_CLASS = cls % 16 ∧ rd t F.TST_STATUS_INSTANCE = inst % 256 := by
  subst ht
  unfold testBegins
  refine ⟨rd_wr_same .., ?_, ?_, ?_⟩
  · exact (rd_wr_apart ..).trans ((rd_wr_apart ..).trans ((rd_wr_apart ..).trans ((rd_wr_apart ..).trans ((rd_wr_apart ..).trans
      (rd_wr_same ..)))))
  · exact (rd_wr_apart ..).trans ((rd_wr_apart ..).trans ((rd_wr_apart ..).trans ((rd_wr_apart ..).trans (rd_wr_same ..))))
  · exact (rd_wr_apart ..).trans ((rd_wr_apart ..).trans ((rd_wr_apart ..).trans (rd_wr_same ..)))

theorem tstRehearse_begins (htaken : Taken 0x0D01 [(2, 15), (3, 0xFF)] c s) (hlife : s.sec.otp.life ≠ 4)
    (hinst : c.w 3 < clusterCount (c.w 2)) (hready : rehearsalReady s (c.w 2) (c.w 3) = true) (hruns : testRuns s = false)
    (hcal : clusterCalibrating s (c.w 2) (c.w 3) = false) :
    GoesOn (.tstRehearse c) 0x0D01 c s 0 0 fun u =>
      rehearsing u (c.w 2) (c.w 3) = true ∧ rd u F.TST_STATUS_RUNNING = 1 ∧ rd u F.TST_STATUS_TEST = 1 ∧
      rd u F.TST_STATUS_CLASS = c.w 2 ∧ rd u F.TST_STATUS_INSTANCE = c.w 3 := by
  obtain ⟨-, -, -, hmask⟩ := id htaken
  have hcls : c.w 2 < 16 := cmdWord_lt_of_masked hmask rfl
  have hunit : c.w 3 < 256 := cmdWord_lt_of_masked hmask rfl
  refine goesOn_of_reports htaken rfl (fun v hv => if_neg (by rw [hv.sec]; exact hlife))
    (w := fun v => testBegins { v with test := { v.test with rehearsal := some (clusterCopy v (c.w 2) (c.w 3)) } } 1 (c.w 2) (c.w 3))
    (fun v hv => ?_) fun v _ => ?_
  · unfold tstRehearse
    refine withChecks_pass (firstFail_none _ ?_)
    simp only [List.forall_mem_cons, hv.rehearsalReady, hv.clusterCalibrating, hv.testRuns, hready, hruns, hcal]
    exact ⟨decide_eq_false (Nat.not_le.2 hinst), rfl, rfl, fun _ h => nomatch h⟩
  · obtain ⟨hrunning, htest, hclass, hinstance⟩ := testBegins_shows _ 1 (c.w 2) (c.w 3) _ rfl
    refine ⟨?_, hrunning, htest, hclass.trans (Nat.mod_eq_of_lt hcls), hinstance.trans (Nat.mod_eq_of_lt hunit)⟩
    exact Bool.and_eq_true_iff.2 ⟨beq_self_eq_true _, beq_self_eq_true _⟩

theorem tstMemTest_begins (htaken : Taken 0x0D03 [(2, 0x3F)] c s) (hruns : testRuns s = false) :
    GoesOn (.tstMemTest c) 0x0D03 c s 0 0 fun u =>
      u.test.memTest = some (c.w 2) ∧ rd u F.TST_STATUS_RUNNING = 1 ∧ rd u F.TST_STATUS_TEST = 2 := by
  refine goesOn_of_reports htaken rfl (fun _ _ => rfl)
    (w := fun v => testBegins { v with test := { v.test with memTest := some (c.w 2) } } 2 0 (c.w 2)) (fun v hv => ?_) fun v _ => ?_
  · unfold tstMemTest
    refine withChecks_pass (firstFail_none _ ?_)
    simp only [List.forall_mem_cons, hv.testRuns, hruns]
    exact ⟨trivial, fun _ h => nomatch h⟩
  · obtain ⟨hrunning, htest, -, -⟩ := testBegins_shows _ 2 0 (c.w 2) _ rfl
    exact ⟨rfl, hrunning, htest⟩

theorem tstDress_begins (htaken : Taken 0x0D04 [] c s) (hallowed : testAllowed s = true) (hruns : testRuns s = false)
    (hrun : s.cal.run = none) (hupdate : s.sec.update = none) (hops : s.sec.ops = [])
    (hports : ∀ p : Fin 8, rdE s F.PCS_PORT_CTRL_ADMIN_UP p = 0)
    (hloops : ∀ k : Fin 32, loopMode s k = 0 ∧ rdE s F.BDAC_CTRL_c_EN k = 0) :
    GoesOn (.tstDress c) 0x0D04 c s 0 0 fun u =>
      u.test.dress = true ∧ rd u F.TST_STATUS_RUNNING = 1 ∧ rd u F.TST_STATUS_TEST = 3 := by
  refine goesOn_of_reports htaken rfl (fun v hv => if_pos ?_)
    (w := fun v => testBegins { v with test := { v.test with dress := true } } 3 0 0) (fun v hv => ?_) fun v _ => ?_
  · rw [testAllowed, hv.sec]
    exact hallowed
  · unfold tstDress
    refine withChecks_pass (firstFail_none _ ?_)
    have hport : ((List.range 8).any fun p => rdE s F.PCS_PORT_CTRL_ADMIN_UP p == 1) = false := List.any_eq_false.2 fun p hp => by
      rw [hports ⟨p, List.mem_range.1 hp⟩]
      decide
    have hloop : ((List.range 32).any fun l => loopMode s l != 0) = false := List.any_eq_false.2 fun l hl => by
      rw [(hloops ⟨l, List.mem_range.1 hl⟩).1]
      decide
    have hbdac : ((List.range 32).any fun c => rdE s F.BDAC_CTRL_c_EN c == 1) = false := List.any_eq_false.2 fun l hl => by
      rw [(hloops ⟨l, List.mem_range.1 hl⟩).2]
      decide
    simp only [loopMode] at hloop
    simp only [List.forall_mem_cons, hv.testRuns, hv.rdE, loopMode, hv.cal, hv.sec, hport, hloop, hbdac, hruns, hrun, hupdate, hops]
    exact ⟨rfl, rfl, fun _ h => nomatch h⟩
  · obtain ⟨hrunning, htest, -, -⟩ := testBegins_shows _ 3 0 0 _ rfl
    exact ⟨rfl, hrunning, htest⟩

end Beginning

/-! A test ends. -/

section Ending

variable {s t : State} {c : Cmd} {e : TestEnd} {r : Rehearsal}

/-- What is shown of a test that ended. -/
structure EndShown (t : State) (e : TestEnd) : Prop where
  running : rd t F.TST_STATUS_RUNNING = 0
  result : rd t F.TST_STATUS_RESULT = e.result % 4
  cause : rd t F.TST_STATUS_CAUSE = e.cause % 8

/-- The fields that show how a test ended. -/
abbrev endFields : List Field := [F.TST_STATUS_RUNNING, F.TST_STATUS_RESULT, F.TST_STATUS_CAUSE]

theorem EndShown.of_rd (h : EndShown s e) (hsame : ∀ f ∈ endFields, rd t f = rd s f) : EndShown t e :=
  ⟨(hsame _ (by decide)).trans h.running, (hsame _ (by decide)).trans h.result, (hsame _ (by decide)).trans h.cause⟩

theorem EndShown.of_reports (h : EndShown s e) (hrep : OnlyReports s t) : EndShown t e :=
  ⟨hrep.rd_quiet.trans h.running, hrep.rd_quiet.trans h.result, hrep.rd_quiet.trans h.cause⟩

/-- The state with a test's end in its fields. -/
def endWritten (s : State) (e : TestEnd) : State :=
  wr (wr (wr s F.TST_STATUS_RESULT e.result) F.TST_STATUS_CAUSE e.cause) F.TST_STATUS_RUNNING 0

theorem endWritten_shows (s : State) (e : TestEnd) : EndShown (endWritten s e) e :=
  ⟨rd_wr_same .., (rd_wr_apart ..).trans ((rd_wr_apart ..).trans (rd_wr_same ..)), (rd_wr_apart ..).trans (rd_wr_same ..)⟩

theorem testEnds_shows (s : State) (test : Nat) (e : TestEnd) (l partitions : Nat) : EndShown (testEnds s test e l partitions) e := by
  have hwritten := endWritten_shows s e
  unfold testEnds
  extract_lets +onlyGivenNames s1 d0
  split
  · exact hwritten.of_reports (raiseEvent_reports ..)
  · exact hwritten.of_rd fun _ _ => rfl

/-- What a test's end leaves of the tests that run. -/
theorem testEnds_tests (s : State) (test : Nat) (e : TestEnd) (l partitions : Nat) :
    (testEnds s test e l partitions).test.rehearsal = s.test.rehearsal ∧ (testEnds s test e l partitions).test.memTest = s.test.memTest ∧
      (testEnds s test e l partitions).test.dress = s.test.dress := by
  have hkept : Within (keeping [.test .rehearsal, .test .memTest, .test .dress] []) s (testEnds s test e l partitions) :=
    (Within.rfl' _ s).testEnds keeping_allows keeping_wide.openAt
  exact ⟨hkept.kept (.test .rehearsal), hkept.kept (.test .memTest), hkept.kept (.test .dress)⟩

/-- The block that is reset leaves the tests that run. -/
theorem blockReset_tests (s : State) (r : Rehearsal) : (blockReset s r).test.rehearsal = s.test.rehearsal ∧
    (blockReset s r).test.memTest = s.test.memTest ∧ (blockReset s r).test.dress = s.test.dress := by
  have hkept : Within (keeping [.test .rehearsal, .test .memTest, .test .dress] []) s (blockReset s r) :=
    (Within.rfl' _ s).blockReset keeping_allows keeping_wide.opens keeping_wide.opens keeping_wide.openAt keeping_wide.any
      keeping_wide.openAt keeping_wide.openAt keeping_wide.cal keeping_wide.clusters
  exact ⟨hkept.kept (.test .rehearsal), hkept.kept (.test .memTest), hkept.kept (.test .dress)⟩

theorem fenceCluster_tests (s : State) (cls inst : Nat) (b : Bool) : (fenceCluster s cls inst b).test.rehearsal = s.test.rehearsal ∧
    (fenceCluster s cls inst b).test.memTest = s.test.memTest ∧ (fenceCluster s cls inst b).test.dress = s.test.dress := by
  have hkept : Within (keeping [.test .rehearsal, .test .memTest, .test .dress] []) s (fenceCluster s cls inst b) :=
    (Within.rfl' _ s).fenceCluster keeping_allows keeping_wide.opens keeping_wide.opens keeping_wide.openAt keeping_wide.any
      keeping_wide.openAt keeping_wide.cal
  exact ⟨hkept.kept (.test .rehearsal), hkept.kept (.test .memTest), hkept.kept (.test .dress)⟩

theorem testReply_test (s : State) (opcode : Nat) (e : TestEnd) (r0 r1 : Nat) : (testReply s opcode e r0 r1).test = s.test := by
  have hkept : Within (keeping Part.test.pieces []) s (testReply s opcode e r0 r1) := (Within.rfl' _ s).testReply keeping_allows
  exact hkept.keptPart (p := .test)

theorem rehearsalEnds_ends (h : s.test.rehearsal = some r) (e : TestEnd) (unit : Nat) :
    (rehearsalEnds s e unit).test.rehearsal = none ∧ EndShown (rehearsalEnds s e unit) e := by
  unfold rehearsalEnds
  split
  · next hnone =>
    rw [h] at hnone
    cases hnone
  · extract_lets +onlyGivenNames _ s1 s2
    have hs1 : s1.test.rehearsal = none := (blockReset_tests ..).1
    have hs2 : s2.test.rehearsal = none := by
      unfold s2
      split
      · exact (fenceCluster_tests ..).1.trans hs1
      · split
        · exact (fenceCluster_tests ..).1.trans hs1
        · exact hs1
    exact ⟨(testEnds_tests ..).1.trans ((congrArg (·.rehearsal) (testReply_test ..)).trans hs2), testEnds_shows ..⟩

theorem memTestEnds_ends {k : Nat} (h : s.test.memTest = some k) (e : TestEnd) (failing : Nat) :
    (memTestEnds s e failing).test.memTest = none ∧ EndShown (memTestEnds s e failing) e := by
  unfold memTestEnds
  rw [h]
  exact ⟨(testEnds_tests ..).2.1.trans (congrArg (·.memTest) (testReply_test ..)), testEnds_shows ..⟩

theorem memTestEnds_rehearsal (s : State) (e : TestEnd) (failing : Nat) : (memTestEnds s e failing).test.rehearsal = s.test.rehearsal := by
  unfold memTestEnds
  split
  · rfl
  · exact (testEnds_tests ..).1.trans (congrArg (·.rehearsal) (testReply_test ..))

theorem dressEnds_ends (h : s.test.dress = true) (e : TestEnd) (partitions : Nat) :
    (dressEnds s e partitions).test.dress = false ∧ (dressEnds s e partitions).power.warmPending = true ∧
      EndShown (dressEnds s e partitions) e := by
  unfold dressEnds
  rw [if_pos h]
  extract_lets +onlyGivenNames s1 d0 s2
  have hs2 : EndShown s2 e := (endWritten_shows s e).of_reports (bookWrite_reports ..)
  exact ⟨rfl, rfl, hs2.of_rd fun _ _ => rfl⟩

/-- Where the dress rehearsal ends, the other tests stand. -/
theorem dressEnds_tests (s : State) (e : TestEnd) (partitions : Nat) :
    (dressEnds s e partitions).test.rehearsal = s.test.rehearsal ∧ (dressEnds s e partitions).test.memTest = s.test.memTest := by
  have hkept : Within (keeping [.test .rehearsal, .test .memTest] []) s (dressEnds s e partitions) :=
    (Within.rfl' _ s).dressEnds keeping_allows keeping_wide.openAt
  exact ⟨hkept.kept (.test .rehearsal), hkept.kept (.test .memTest)⟩

/-- What ends of the rehearsal and the memory test shows, where one of them runs. -/
theorem memTestEnds_rehearsalEnds (h : s.test.rehearsal.isSome = true ∨ s.test.memTest.isSome = true) (e : TestEnd) (unit failing : Nat) :
    EndShown (memTestEnds (rehearsalEnds s e unit) e failing) e := by
  rcases hr : s.test.rehearsal with _ | r
  · have hsame : rehearsalEnds s e unit = s := by rw [rehearsalEnds, hr]
    rw [hr] at h
    obtain ⟨k, hk⟩ := Option.isSome_iff_exists.1 (h.resolve_left Bool.false_ne_true)
    rw [hsame]
    exact (memTestEnds_ends hk ..).2
  · have hends := rehearsalEnds_ends hr e unit
    rcases hm : (rehearsalEnds s e unit).test.memTest with _ | k
    · rw [memTestEnds, hm]
      exact hends.2
    · exact (memTestEnds_ends hm ..).2

/-- Afterwards neither runs. -/
theorem memTestEnds_rehearsalEnds_tests (s : State) (e : TestEnd) (unit failing : Nat) :
    (memTestEnds (rehearsalEnds s e unit) e failing).test.rehearsal = none ∧
      (memTestEnds (rehearsalEnds s e unit) e failing).test.memTest = none := by
  refine ⟨?_, ?_⟩
  · rw [memTestEnds_rehearsal]
    rcases hr : s.test.rehearsal with _ | r
    · rw [rehearsalEnds, hr]
      exact hr
    · exact (rehearsalEnds_ends hr ..).1
  · rcases hm : (rehearsalEnds s e unit).test.memTest with _ | k
    · rw [memTestEnds, hm]
      exact hm
    · exact (memTestEnds_ends hm ..).1

theorem rehearsalEnd_ends {v : TestVerdict} {patterns : Word} {unit : BitVec 12} (h : s.test.rehearsal = some r) :
    Runs (.rehearsalEnd v patterns unit) s fun t =>
      t.test.rehearsal = none ∧ rd t F.TST_STATUS_RUNNING = 0 ∧ rd t F.TST_STATUS_RESULT = (verdictEnd v patterns.toNat).result := by
  refine ⟨_, rfl, ?_⟩
  obtain ⟨hnone, hshown⟩ := rehearsalEnds_ends h (verdictEnd v patterns.toNat) (match v with
    | .fail => unit.toNat
    | _ => 0xFFF)
  refine ⟨hnone, hshown.running, hshown.result.trans ?_⟩
  cases v
  · rfl
  · rfl
  · rfl

theorem tstAbort_ends (htaken : Taken 0x0D02 [] c s) (h : s.test.rehearsal.isSome = true ∨ s.test.memTest.isSome = true) :
    CompletesOk (.tstAbort c) 0x0D02 c s 0 0 fun u =>
      u.test.rehearsal = none ∧ u.test.memTest = none ∧ rd u F.TST_STATUS_RUNNING = 0 ∧ rd u F.TST_STATUS_RESULT = 2 := by
  refine completesOk_of_reports htaken rfl (fun _ _ => rfl) (w := fun v => memTestEnds (rehearsalEnds (takeFree v)
    ⟨2, 4, Config.freeNat v.freeCount⟩ 0xFFF) ⟨2, 4, Config.freeNat v.freeCount⟩ 0) (fun v hv => ?_) fun v hv => ?_
  · unfold tstAbort
    refine withChecks_pass (firstFail_none _ ?_)
    simp only [List.forall_mem_cons, hv.test]
    refine ⟨?_, fun _ h => nomatch h⟩
    rcases h with h | h
    · rw [Option.isNone_eq_false_iff.2 h]
      rfl
    · rw [Option.isNone_eq_false_iff.2 h, Bool.and_false]
  · obtain ⟨hreh, hmem⟩ := memTestEnds_rehearsalEnds_tests (takeFree v) ⟨2, 4, Config.freeNat v.freeCount⟩ 0xFFF 0
    have hshown := memTestEnds_rehearsalEnds (s := takeFree v) (by rw [show (takeFree v).test = v.test from rfl, hv.test]; exact h)
      ⟨2, 4, Config.freeNat v.freeCount⟩ 0xFFF 0
    exact ⟨hreh, hmem, hshown.running, hshown.result⟩

theorem memTestEnd_ends {k : Nat} {fails : List (Fin 32768 × Fin 79)} {counted : Bool} {patterns : Word} (h : s.test.memTest = some k) :
    Runs (.memTestEnd fails counted patterns) s fun t =>
      t.test.memTest = none ∧ rd t F.TST_STATUS_RUNNING = 0 ∧
      rd t F.TST_STATUS_RESULT = if counted then (if fails = [] then 0 else 1) else 2 := by
  refine ⟨_, rfl, ?_⟩
  unfold memTestEnd
  rw [h]
  dsimp only
  generalize hs1 : (fails.map fun f => (f.1.val, f.2.val)).foldl (fun t f => if wordValid t k f.1 then hardCandidate t k f.1 f.2 else t) s = s1
  have hkept : Within (keeping [.test .memTest] []) s s1 := by
    rw [← hs1]
    exact (Within.rfl' _ s).foldl fun t f _ ht => .ite (ht.hardCandidate keeping_allows) ht
  have hsome : s1.test.memTest = some k := (hkept.kept (.test .memTest)).trans h
  generalize he : (if (!counted) = true then (⟨2, 3, patterns.toNat⟩ : TestEnd) else if (fails.map fun f => (f.1.val, f.2.val)).isEmpty = true
    then ⟨0, 0, patterns.toNat⟩ else ⟨1, 0, patterns.toNat⟩) = e
  obtain ⟨hnone, hshown⟩ := memTestEnds_ends hsome e (fails.map fun f => (f.1.val, f.2.val)).length
  refine ⟨hnone, hshown.running, hshown.result.trans ?_⟩
  rw [← he]
  cases counted
  · rfl
  · cases fails
    · rfl
    · rfl

/-- The fences that a dress rehearsal sets leave the tests that run. -/
theorem fences_dress (cls : Nat) (is : List Nat) (s : State) : (is.foldl (fun t i => fenceCluster t cls i true) s).test.dress = s.test.dress := by
  induction is generalizing s with
  | nil => rfl
  | cons i is ih => exact (ih _).trans (fenceCluster_tests ..).2.2

theorem dressRehearsalEnd_ends {v : TestVerdict} {patterns : Word} {partitions : BitVec 4} {ports line : BitVec 8} {host : BitVec 16}
    (h : s.test.dress = true) : Runs (.dressRehearsalEnd v patterns partitions ports line host) s fun t =>
      t.test.dress = false ∧ t.power.warmPending = true ∧ rd t F.TST_STATUS_RUNNING = 0 ∧
      rd t F.TST_STATUS_RESULT = (verdictEnd v patterns.toNat).result := by
  obtain ⟨u, p, hu, hend⟩ : ∃ u p, u.test.dress = true ∧
      dressEnd v patterns.toNat partitions.toNat ports.toNat line.toNat host.toNat s = dressEnds u (verdictEnd v patterns.toNat) p := by
    unfold dressEnd
    rw [if_pos h]
    dsimp only
    split
    · refine ⟨_, _, ?_, rfl⟩
      rw [fences_dress, fences_dress, fences_dress, h]
    · exact ⟨s, 0, h, rfl⟩
  obtain ⟨hdress, hwarm, hshown⟩ := dressEnds_ends hu (verdictEnd v patterns.toNat) p
  refine runs_of_eq rfl hend ⟨hdress, hwarm, hshown.running, hshown.result.trans ?_⟩
  cases v
  · rfl
  · rfl
  · rfl

theorem testLimitExceeded_ends {clock : Bool} {patterns : Word} (h : testRuns s = true) :
    Runs (.testLimitExceeded clock patterns) s fun t => testRuns t = false ∧ rd t F.TST_STATUS_RUNNING = 0 ∧
      rd t F.TST_STATUS_RESULT = 2 ∧ rd t F.TST_STATUS_CAUSE = if clock then 1 else 2 := by
  generalize he : (⟨2, if clock then 1 else 2, patterns.toNat⟩ : TestEnd) = e
  generalize hu : memTestEnds (rehearsalEnds s e 0xFFF) e 0 = u
  refine runs_of_eq rfl (t := dressEnds u e 0) ?_ ?_
  · rw [if_pos h, ← hu, ← he]
    rfl
  · obtain ⟨hreh, hmem⟩ := memTestEnds_rehearsalEnds_tests s e 0xFFF 0
    rw [hu] at hreh hmem
    have hend : (dressEnds u e 0).test.dress = false ∧ EndShown (dressEnds u e 0) e := by
      by_cases hdress : u.test.dress = true
      · obtain ⟨hfalse, -, hshown⟩ := dressEnds_ends hdress e 0
        exact ⟨hfalse, hshown⟩
      · have hsame : dressEnds u e 0 = u := if_neg hdress
        rw [hsame]
        refine ⟨Bool.eq_false_iff.2 hdress, ?_⟩
        rw [← hu]
        refine memTestEnds_rehearsalEnds ?_ e 0xFFF 0
        have hkept : Within (keeping [.test .dress] []) s u := by
          rw [← hu]
          exact ((Within.rfl' _ s).rehearsalEnds keeping_allows keeping_wide.opens keeping_wide.opens keeping_wide.openAt keeping_wide.any
            keeping_wide.cal keeping_wide.clusters).memTestEnds keeping_allows keeping_wide.openAt
        have hsame : u.test.dress = s.test.dress := hkept.kept (.test .dress)
        rw [testRuns, ← hsame, Bool.eq_false_iff.2 hdress, Bool.or_false, Bool.or_eq_true] at h
        exact h
    obtain ⟨hdress, hshown⟩ := hend
    refine ⟨?_, hshown.running, hshown.result.trans (congrArg (fun e : TestEnd => e.result % 4) he.symm), hshown.cause.trans ?_⟩
    · rw [testRuns, (dressEnds_tests ..).1, (dressEnds_tests ..).2, hreh, hmem, hdress]
      rfl
    · rw [← he]
      cases clock
      · rfl
      · rfl

theorem testLimitExceeded_idle {clock : Bool} {patterns : Word} (h : testRuns s = false) :
    Runs (.testLimitExceeded clock patterns) s fun t => t = s := runs_of_eq rfl (if_neg (by rw [h]; decide)) rfl

end Ending

/-! The test access port (R445-R447). -/

section Jtag

variable {s : State} {code : BitVec 8} {take : Bool}

theorem jtagPins_kept (s : State) (take : Bool) : (jtagPins s take).test.jtagIr = s.test.jtagIr ∧ (jtagPins s take).test.jtagPins = take := by
  unfold jtagPins
  split
  · next h =>
    generalize hv : (allLine ++ allHost).foldl losPins { s with test := { s.test with jtagPins := true } } = v
    have hkept : Within (keeping [.test .jtagIr, .test .jtagPins] []) { s with test := { s.test with jtagPins := true } } v := by
      rw [← hv]
      exact (Within.rfl' _ _).foldl fun _ _ _ ht => ht.losPins keeping_allows keeping_wide.opens keeping_wide.opens keeping_wide.any
    have hpins : v.test.jtagPins = true := hkept.kept (.test .jtagPins)
    exact ⟨hkept.kept (.test .jtagIr), hpins.trans (Bool.and_eq_true_iff.1 h).1.symm⟩
  · exact ⟨rfl, rfl⟩

theorem lockOps_test (s : State) : (lockOps s).test = s.test := by
  have hkept : Within (keeping Part.test.pieces []) s (lockOps s) := (Within.rfl' _ s).lockOps keeping_allows
  exact hkept.keptPart (p := .test)

/-- An alarm takes no instruction from the test access port that is not a gated one. -/
theorem raiseAlarm_jtagIr (source : Nat) (h : jtagGated s.test.jtagIr = false) : (raiseAlarm s source).test.jtagIr = s.test.jtagIr := by
  have hraised : (alarmRaised s source).test.jtagIr = s.test.jtagIr := by
    unfold alarmRaised
    extract_lets +onlyGivenNames act s1 s2 s3
    exact congrArg TestState.jtagIr ((curtain_reports ..).test.trans (raiseEvent_reports ..).test)
  have hlock : ∀ u : State, u.test.jtagIr = s.test.jtagIr → (alarmLock (lockOps u)).test.jtagIr = s.test.jtagIr := fun u hu => by
    have hops : (lockOps u).test.jtagIr = s.test.jtagIr := by rw [lockOps_test, hu]
    show (if jtagGated (lockOps u).test.jtagIr = true then _ else (lockOps u).test.jtagIr) = _
    rw [hops, h]
    rfl
  rw [raiseAlarm_eq]
  unfold alarmActs
  extract_lets +onlyGivenNames s5 s6
  have hs5 : s5.test.jtagIr = s.test.jtagIr := by
    unfold s5
    split
    · exact hlock _ hraised
    · exact hraised
  have hs6 : s6.test.jtagIr = s.test.jtagIr := by
    have hkept : Within (keeping [.test .jtagIr] []) s5 s6 := .ite ((Within.rfl' _ s5).alarmZeroize keeping_allows) (.rfl' _ s5)
    exact (hkept.kept (.test .jtagIr)).trans hs5
  split
  · exact hs6
  · exact hs6

theorem jtagInstructionUpdate_takes : Runs (.jtagInstructionUpdate code) s fun t =>
    t.test.jtagIr = jtagEffective s code.toNat ∧ t.test.jtagPins = jtagTakesPins code.toNat ∧
    (jtagGated code.toNat = true → s.sec.otp.life = 2 → (rd t F.SEC_ALARM_STATUS_SOURCES).testBit 3 = true) := by
  generalize hu : jtagPins { s with test := { s.test with jtagIr := jtagEffective s code.toNat } } (jtagTakesPins code.toNat) = u
  obtain ⟨hir, hpins⟩ := jtagPins_kept { s with test := { s.test with jtagIr := jtagEffective s code.toNat } } (jtagTakesPins code.toNat)
  rw [hu] at hir hpins
  by_cases halarm : jtagGated code.toNat = true ∧ s.sec.otp.life = 2
  · obtain ⟨hgated, hlife⟩ := halarm
    have hall : jtagEffective s code.toNat = 0xFF := by
      have hlow : ¬(1 ≤ code.toNat ∧ code.toNat ≤ 7) := fun hlow => by
        simp only [jtagGated, Bool.and_eq_true, decide_eq_true_eq] at hgated
        omega
      have hnot : jtagAllowed s = false := by
        rw [jtagAllowed, hlife]
        rfl
      rw [jtagEffective, if_neg hlow, hnot, Bool.and_false]
      rfl
    have hplain : jtagGated u.test.jtagIr = false := by
      rw [hir]
      show jtagGated (jtagEffective s code.toNat) = false
      rw [hall]
      rfl
    refine runs_of_eq rfl (t := raiseAlarm u 3) ?_ ⟨(raiseAlarm_jtagIr 3 hplain).trans hir, ?_, fun _ _ => ?_⟩
    · unfold jtagUpdate
      dsimp only
      rw [hu, if_pos ⟨hgated, hlife⟩]
    · have hkept : Within (keeping [.test .jtagPins] []) u (raiseAlarm u 3) := (Within.rfl' _ u).raiseAlarm keeping_allows keeping_wide.openAt
      exact (hkept.kept (.test .jtagPins)).trans hpins
    · exact (raiseAlarm_shows (s := u) (source := 3) (by decide)).1
  · refine runs_of_eq rfl (t := u) ?_ ⟨hir, hpins, fun hgated hlife => absurd ⟨hgated, hlife⟩ halarm⟩
    unfold jtagUpdate
    dsimp only
    rw [hu, if_neg halarm]

end Jtag

/-- Settles O47: tests begin, end with what they found, and the test access port takes its instructions. -/
theorem testCommandsComplete : Obligations.TestCommandsComplete :=
  ⟨fun _ _ htaken hlife hinst hready hruns hcal => tstRehearse_begins htaken hlife hinst hready hruns hcal,
    fun _ _ _ _ _ h => rehearsalEnd_ends h, fun _ _ htaken h => tstAbort_ends htaken h,
    fun _ _ htaken hruns => tstMemTest_begins htaken hruns, fun _ _ _ _ _ h => memTestEnd_ends h,
    fun _ _ htaken hallowed hruns hrun hupdate hops hports hloops => tstDress_begins htaken hallowed hruns hrun hupdate hops hports hloops,
    fun _ _ _ _ _ _ _ h => dressRehearsalEnd_ends h, fun _ _ _ h => testLimitExceeded_ends h,
    fun _ _ _ h => testLimitExceeded_idle h, fun _ _ => jtagInstructionUpdate_takes, fun _ => runs_of_eq rfl rfl rfl⟩

end Sys2Proof.Machine
end

section
/-! PROOFS. What reporting leaves of the prompt book (R376-R378). -/

namespace Sys2Proof.Machine

open Sys2Proof

set_option Elab.async false

/-- The copies in the flash stand, and so does a copy in progress. -/
structure CopyKept (s t : State) : Prop where
  flash : t.book.flash = s.book.flash
  nextFlash : t.book.nextFlash = s.book.nextFlash
  copying : t.book.copying = s.book.copying

namespace CopyKept

variable {s t u v : State}

theorem of_book (h : t.book = s.book) : CopyKept s t := ⟨by rw [h], by rw [h], by rw [h]⟩

theorem rfl' (s : State) : CopyKept s s := .of_book rfl

theorem trans (h : CopyKept s t) (g : CopyKept t u) : CopyKept s u :=
  ⟨g.flash.trans h.flash, g.nextFlash.trans h.nextFlash, g.copying.trans h.copying⟩

theorem ite {c : Prop} [Decidable c] (hu : CopyKept s u) (hv : CopyKept s v) : CopyKept s (if c then u else v) := by
  split
  · exact hu
  · exact hv

end CopyKept

theorem bookWrite_copy (s : State) (kind w1 l d0 d1 count : Nat) : CopyKept s (bookWrite s kind w1 l d0 d1 count) := ⟨rfl, rfl, rfl⟩

theorem bookEvent_copy (s : State) (e : Ev) : CopyKept s (bookEvent s e) := by
  unfold bookEvent
  refine .ite ?_ (.rfl' s)
  split
  · exact bookWrite_copy ..
  · exact bookWrite_copy ..

theorem pushEvent_copy (s : State) (ws : List Nat) : CopyKept s (pushEvent s ws) := .of_book rfl

theorem nextEvtSeq_copy (s : State) : CopyKept s (nextEvtSeq s) := .of_book rfl

theorem wr_copy (s : State) (f : Field) (v i j : Nat) : CopyKept s (wr s f v i j) := .of_book rfl

theorem drainLost_copy (s : State) : CopyKept s (drainLost s) := by
  unfold drainLost
  exact .ite ((((pushEvent_copy ..).trans (nextEvtSeq_copy _)).trans (bookEvent_copy ..)).trans (wr_copy ..)) (.rfl' s)

theorem raiseEvent_copy (s : State) (e : Ev) : CopyKept s (raiseEvent s e) := by
  have hwrite : CopyKept (drainLost s) (if evtRoom (drainLost s) then pushEvent (drainLost s) (evWords (drainLost s) e)
      else incSat (drainLost s) F.RING_STATUS_EVT_LOST) := .ite (pushEvent_copy ..) (.of_book rfl)
  exact (((drainLost_copy s).trans hwrite).trans (nextEvtSeq_copy _)).trans (bookEvent_copy ..)

theorem curtain_copy (s : State) (trigger code l : Nat) (d1 : Option Nat) : CopyKept s (curtain s trigger code l d1) := by
  unfold curtain
  extract_lets +onlyGivenNames reach seq first
  split
  · extract_lets +onlyGivenNames s1 _ s2 _ s3
    have hs3 : CopyKept s s3 := .ite ⟨rfl, rfl, rfl⟩ ⟨rfl, rfl, rfl⟩
    exact hs3.trans (raiseEvent_copy ..)
  · extract_lets +onlyGivenNames s1 s2
    have hs2 : CopyKept s s2 := ⟨rfl, rfl, rfl⟩
    exact hs2.trans (raiseEvent_copy ..)

theorem announceUncorr_copy {count : State → State} (h : ∀ s, CopyKept s (count s)) (s : State) (k a : Nat) (scrub : Bool) :
    CopyKept s (announceUncorr count s k a scrub) := by
  unfold announceUncorr
  extract_lets +onlyGivenNames s2 s3 s4
  have hs3 : CopyKept s2 s3 := .ite (.of_book rfl) (.of_book rfl)
  exact (((h s).trans hs3).trans (raiseEvent_copy ..)).trans (curtain_copy ..)

theorem bumpRaw_copy (s : State) (i n : Nat) : CopyKept s (bumpRaw s i n) := by
  unfold bumpRaw
  exact .ite (.rfl' s) (.of_book rfl)

theorem bumpBy_copy (k : Nat) (s : State) (i n : Nat) : CopyKept s (bumpBy k s i n) := by
  induction k generalizing s i n with
  | zero => exact bumpRaw_copy ..
  | succ k ih =>
    have hrestart : ∀ found, CopyKept s (bumpRaw (counterRestart s i found) i n) := fun found => by
      have hcount : CopyKept s (counterRestart s i found) := .of_book rfl
      exact hcount.trans (bumpRaw_copy ..)
    unfold bumpBy
    split
    · exact bumpRaw_copy ..
    · exact (bumpRaw_copy ..).trans (ih ..)
    · exact (hrestart false).trans (ih ..)
    · exact (hrestart true).trans (announceUncorr_copy (fun t => ih t _ _) ..)

theorem bump_copy (s : State) (i n : Nat) : CopyKept s (bump s i n) := .ite (.rfl' s) (bumpBy_copy ..)

theorem reportUncorr_copy (s : State) (k a : Nat) (scrub : Bool) : CopyKept s (reportUncorr s k a scrub) := by
  unfold reportUncorr
  extract_lets +onlyGivenNames _ s0 _ s1
  have hs0 : CopyKept s s0 := .of_book rfl
  have hs1 : CopyKept s0 s1 := by
    unfold s1
    split
    · exact .of_book rfl
    · exact .rfl' s0
  exact (hs0.trans hs1).trans (announceUncorr_copy (fun t => bump_copy t 0x755 1) ..)

theorem eccRead_copy (s : State) (k a : Nat) : CopyKept s (eccRead s k a).1 := by
  unfold eccRead
  split
  · exact bump_copy s 0x757 1
  · split
    · exact .rfl' s
    · split
      · exact .rfl' s
      · exact bump_copy s 0x753 1
      · exact bump_copy s 0x753 1
      · exact reportUncorr_copy ..

theorem eccThrough_copy (k : Nat) (as : List Nat) (s : State) : CopyKept s (eccThrough k as s) := by
  induction as generalizing s with
  | nil => exact .rfl' s
  | cons a as ih => exact (eccRead_copy s k a).trans (ih _)

theorem offer_copy (s : State) (opcode : Nat) (c : Cmd) : CopyKept s (offer s opcode c) := .ite (.rfl' s) (.of_book rfl)

/-- Mexis takes a command and leaves the copies of the prompt book. -/
theorem takenState_copy (opcode : Nat) (c : Cmd) (s : State) : CopyKept s (takenState opcode c s) :=
  ((offer_copy s opcode c).trans (wr_copy ..)).trans (eccThrough_copy 8 (slotWords (offer s opcode c)) (slotFreed (offer s opcode c)))

/-- A command completes with OK where its own part ends so in every state that only reporting separates from this one, with the copies of
the prompt book as they are. -/
theorem completesOk_of_copy {i : Instr} {opcode : Nat} {masks : List (Nat × Nat)} {c : Cmd} {s : State} {gate : State → Option (Nat × Nat)}
    {body : State → State × Reply} {r0 r1 : Nat} {P : State → Prop} {w : State → State} (htaken : Taken opcode masks c s)
    (hexec : exec i s = .next (hostCmd opcode masks gate c body s)) (hgate : ∀ v, OnlyReports s v → gate v = none)
    (hbody : ∀ v, OnlyReports s v → CopyKept s v → body v = (w v, .done stOK 0 r0 r1)) (hP : ∀ v, OnlyReports s v → CopyKept s v → P (w v)) :
    CompletesOk i opcode c s r0 r1 P :=
  completesOk_of_body htaken hexec (hgate _ (taken_reports ..)) (hbody _ (taken_reports ..) (takenState_copy ..))
    (hP _ (taken_reports ..) (takenState_copy ..))

end Sys2Proof.Machine
end

section
/-! PROOFS. A port's machine goes to a state (R165). -/

namespace Sys2Proof.Machine

open Sys2Proof

set_option Elab.async false

section Linking

variable {s t : State} {p : Nat}

/-- What a port's machine shows of its state, and of why it left the one before. -/
abbrev linkShown : List (Field × Nat) := [(F.PCS_LINK_STATUS_STATE, 0), (F.PCS_LINK_STATUS_REASON, 0)]

/-- All but what the ports' machines show. -/
abbrev LinkKept (s t : State) : Prop := Within (keeping [] (keysOf linkShown)) s t

theorem LinkKept.state (h : LinkKept s t) (hp : p < 8) : linkState t p = linkState s p := h.rd_keysOf (g := F.PCS_LINK_STATUS_STATE) hp

theorem LinkKept.reason (h : LinkKept s t) (hp : p < 8) : rd t F.PCS_LINK_STATUS_REASON p = rd s F.PCS_LINK_STATUS_REASON p :=
  h.rd_keysOf (g := F.PCS_LINK_STATUS_REASON) hp

theorem Within.enterState_kept (h : LinkKept s t) (hp : p < 8) (new : Nat) : LinkKept s (Machine.enterState t p new) :=
  h.enterState keeping_allows (fun _ => keysOf_any (a := _)) keysOf_opens (keysOf_opens (n := 8) (h := by decide +kernel) _ hp) keysOf_opens

/-- Where a port's machine goes to a state, it shows the state and the reason. -/
theorem linkGo_shows (s : State) (hp : p < 8) (new reason : Nat) : linkState (linkGo s p new reason) p = new % 8 ∧
    rd (linkGo s p new reason) F.PCS_LINK_STATUS_REASON p = reason % 256 := by
  unfold linkGo
  extract_lets +onlyGivenNames old s1 s2 s3 s4
  have hs3 : LinkKept s1 s3 := by
    have hs2 : LinkKept s1 s2 := (Within.rfl' _ s1).raiseEvent
    exact .ite ((hs2.clearLost keeping_allows (keysOf_opens (n := 8) (h := by decide +kernel) _ hp)).xaStopPort keeping_allows keysOf_opens) hs2
  have hs4 : LinkKept s1 s4 := (Within.enterState_kept hs3 hp new).txFollowPort keeping_allows keysOf_opens keysOf_opens
  have hkept : LinkKept s1 ((portLaneIds s4 p).foldl eqRefresh s4) := hs4.foldl fun _ _ _ hu => hu.eqRefresh keysOf_opens keysOf_opens
  refine ⟨(hkept.state hp).trans ((rd_wr_apart ..).trans (rd_wr_same ..)), (hkept.reason hp).trans (rd_wr_same ..)⟩

end Linking

end Sys2Proof.Machine
end

section
/-! PROOFS. What each reset leaves and keeps (R401-R410). -/

namespace Sys2Proof.Machine

open Sys2Proof

set_option Elab.async false

/-! What comes before the reset itself. -/

section Before

variable {s : State} {c : Cmd}

/-- A write of the boot record or of a settings block that a reset cuts leaves all else. -/
theorem flashCut_eq (s : State) : ∃ boot settings, flashCut s = { s with sec := { s.sec with boot := boot, settings := settings } } := by
  unfold flashCut
  split
  · exact ⟨_, s.sec.settings, rfl⟩
  · exact ⟨s.sec.boot, _, rfl⟩
  · exact ⟨s.sec.boot, s.sec.settings, rfl⟩

theorem copyCut_records (b : BookState) : (copyCut b).records = b.records := by
  unfold copyCut
  split
  · rfl
  · rfl

/-- Swaps that land at a reset leave all but the slices. -/
theorem swapsLand_kept (s : State) : Within (keeping ([.eff, .time .hc, .free] ++ Part.sec.pieces ++ Part.cal.pieces ++ Part.aside.pieces ++
    Part.power.pieces) (keysOf [(F.BDAC_CEIL_c_LOCK, 0), (F.BDAC_CEIL_c_CODE_MAX, 0)])) s (swapsLand s) :=
  (Within.rfl' _ s).swapsLand keeping_allows keysOf_opens keysOf_opens

theorem swapsLand_pending (s : State) : (swapsLand s).pending = s.pending := (swapsLand_kept s).pending

end Before

/-! Resets of the whole part. -/

section Whole

variable {s : State}

theorem powerOnReset_resets {rail : Option (Fin 2)} (hrail : s.power.mode = .dark → rail = none) : Runs (.powerOnReset rail) s fun t =>
    t.power.mode = .resetHold ∧ t.eff = [] ∧ t.sec.otp = s.sec.otp ∧ t.sec.images = s.sec.images ∧
    t.sec.boot = (flashCut s).sec.boot ∧ t.sec.settings = (flashCut s).sec.settings ∧ t.sec.locked = false ∧ t.book.records = [] ∧ t.book.flash = s.book.flash ∧
    t.pending = s.pending ∧ rd t F.RST_CAUSE_KIND = 0 ∧ rd t F.RST_CAUSE_RAIL = (rail.map fun r => 4 + r.val).getD 0 := by
  refine runs_of_eq rfl (t := porReset s (rail.map fun r => 4 + r.val)) ?_ ?_
  · unfold powerOnReset
    split
    · next hdark => cases hrail hdark
    · rfl
  · obtain ⟨boot, settings, hcut⟩ := flashCut_eq s
    unfold porReset
    rw [hcut]
    refine ⟨rfl, rfl, rfl, rfl, rfl, rfl, rfl, rfl, rfl, rfl, (rd_wr_apart ..).trans rfl, (rd_wr_same ..).trans (Nat.mod_eq_of_lt ?_)⟩
    cases rail with
    | none => decide
    | some r =>
      have hr : r.val < 2 := r.isLt
      show 4 + r.val < 2 ^ 3
      omega

/-- A reset of the whole part that is not the first. -/
theorem deepReset_resets {kind rail : Nat} (hdark : s.power.mode ≠ .dark) (hhold : s.power.mode ≠ .resetHold) (hkind : kind < 16)
    (hrail : rail < 8) (t : State) (ht : t = deepReset kind rail s) :
      t.power.mode = .resetHold ∧ t.eff = [] ∧ t.time.hc = s.time.hc ∧ t.sec.otp = s.sec.otp ∧ t.sec.images = s.sec.images ∧
      t.sec.locked = s.sec.locked ∧ t.cal.sets = s.cal.sets ∧ t.book.records = (swapsLand s).book.records ∧ t.pending = s.pending ∧
      rd t F.RST_CAUSE_KIND = kind ∧ rd t F.RST_CAUSE_RAIL = rail := by
  have hreset : t = rstCause (retReset s (retFields ++ houseFields)) kind rail := by
    rw [ht]
    unfold deepReset
    split
    · next h => exact absurd h hdark
    · next h => exact absurd h hhold
    · rfl
  have hkept := swapsLand_kept s
  have hhc : (swapsLand s).time.hc = s.time.hc := hkept.kept (.time .hc)
  have hotp : (swapsLand s).sec.otp = s.sec.otp := hkept.kept (.sec .otp)
  have himages : (swapsLand s).sec.images = s.sec.images := hkept.kept (.sec .images)
  have hlocked : (swapsLand s).sec.locked = s.sec.locked := hkept.kept (.sec .locked)
  have hsets : (swapsLand s).cal.sets = s.cal.sets := hkept.kept (.cal .sets)
  have hpending := swapsLand_pending s
  rw [hreset]
  unfold rstCause retReset
  generalize swapsLand s = u at hhc hotp himages hlocked hsets hpending ⊢
  obtain ⟨boot, settings, hcut⟩ := flashCut_eq u
  rw [hcut]
  refine ⟨rfl, rfl, hhc, hotp, himages, hlocked, hsets, copyCut_records _, hpending, ?_, ?_⟩
  · exact (rd_wr_apart ..).trans ((rd_wr_same ..).trans (Nat.mod_eq_of_lt hkind))
  · exact (rd_wr_same ..).trans (Nat.mod_eq_of_lt hrail)

theorem supplyRail_lt (r : Fin 5) : supplyRail r < 8 := by
  unfold supplyRail
  split
  · omega
  · omega

theorem deepReset_runs {i : Instr} {kind rail : Nat}
    (hi : i = .pinReset ∧ kind = 1 ∧ rail = 0 ∨
      ∃ r : Fin 5, i = .supplyReset r ∧ (railMonitored s (supplyRail r) = true ∨ s.power.mode = .wakingDark) ∧ kind = 2 ∧ rail = supplyRail r)
    (hdark : s.power.mode ≠ .dark) (hhold : s.power.mode ≠ .resetHold) : Runs i s fun t =>
      t.power.mode = .resetHold ∧ t.eff = [] ∧ t.time.hc = s.time.hc ∧ t.sec.otp = s.sec.otp ∧ t.sec.images = s.sec.images ∧
      t.sec.locked = s.sec.locked ∧ t.cal.sets = s.cal.sets ∧ t.book.records = (swapsLand s).book.records ∧ t.pending = s.pending ∧
      rd t F.RST_CAUSE_KIND = kind ∧ rd t F.RST_CAUSE_RAIL = rail := by
  rcases hi with ⟨rfl, rfl, rfl⟩ | ⟨r, rfl, hrail, rfl, rfl⟩
  · exact ⟨_, rfl, deepReset_resets hdark hhold (by decide) (by decide) _ rfl⟩
  · refine runs_of_eq rfl (if_pos ?_) (deepReset_resets hdark hhold (by decide) (supplyRail_lt r) _ rfl)
    rw [Bool.or_eq_true]
    exact hrail.imp id fun h => by rw [h]; decide

theorem resetDue_dark {i : Instr} {kind rail : Nat}
    (hi : i = .pinReset ∧ kind = 1 ∧ rail = 0 ∨ (∃ r : Fin 2, i = .powerOnReset (some r) ∧ kind = 0 ∧ rail = 4 + r) ∨
      i = .supplyReset 4 ∧ kind = 2 ∧ rail = 6)
    (hdark : s.power.mode = .dark) (hdue : ∀ d, s.power.dueReset = some d → kind < d.kind) : Runs i s fun t =>
      t = { s with power := { s.power with dueReset := some ⟨kind, rail⟩ } } := by
  have hreset : resetDue kind rail s = { s with power := { s.power with dueReset := some ⟨kind, rail⟩ } } := by
    unfold resetDue
    split
    · next d hd => exact if_neg (Nat.not_le.2 (hdue d hd))
    · rfl
  have hdeep : ∀ k r, deepReset k r s = resetDue k r s := fun k r => by rw [deepReset, hdark]
  rcases hi with ⟨rfl, rfl, rfl⟩ | ⟨r, rfl, rfl, rfl⟩ | ⟨rfl, rfl, rfl⟩
  · exact runs_of_eq rfl ((hdeep ..).trans hreset) rfl
  · refine runs_of_eq rfl ?_ rfl
    unfold powerOnReset
    rw [hdark]
    exact hreset
  · refine runs_of_eq rfl ((if_pos ?_).trans ((hdeep ..).trans hreset)) rfl
    rw [railMonitored, hdark]
    rfl

theorem checkerFails_shows (s : State) (f : CheckerFail) : (checkerFails s f).power.mode = .checkerFailed ∧
    (checkerFails s f).mgmt = s.mgmt ∧ (checkerFails s f).sec = s.sec := by
  cases f
  · exact ⟨rfl, rfl, rfl⟩
  · exact ⟨rfl, rfl, rfl⟩
  · exact ⟨rfl, rfl, rfl⟩

theorem resetNRelease_fails {straps : BitVec 3} {f : CheckerFail} {boot : BootReads} (hhold : s.power.mode = .resetHold) :
    Runs (.resetNRelease straps (some f) boot) s fun t => t.power.mode = .checkerFailed ∧ t.mgmt.straps = straps ∧ t.sec = s.sec := by
  refine ⟨_, rfl, ?_⟩
  unfold resetRelease
  rw [hhold]
  obtain ⟨hmode, hmgmt, hsec⟩ := checkerFails_shows { s with
      mgmt := { s.mgmt with straps := straps }
      time := { s.time with crystalRuns := true }
      power := { s.power with pwrEn := true } } f
  exact ⟨hmode, congrArg MgmtState.straps hmgmt, hsec⟩

/-- The boot ROM starts an image, or recovery (R424, R428). -/
theorem bootRom_boots (s : State) (v : BootReads) : (bootRom s v).sec.running.isSome = true ∨ (bootRom s v).sec.recovery = true := by
  unfold bootRom
  extract_lets +onlyGivenNames _ s0 r k f1 s1
  split
  · exact .inl rfl
  · split
    · dsimp only
      split
      · exact .inl rfl
      · exact .inr rfl
    · exact .inr rfl

/-- A part that starts runs on its crystal, in SHOW. -/
def startedRunning (s : State) : State := { s with
  time := { s.time with crystalRuns := true, sysPllLocked := true }
  power := { s.power with mode := .show } }

/-- Its policy is in force and its memories are found good. -/
def startedUp (s : State) : State := wr (otpPolicy (startedRunning s)) F.MEM_BIST_STATUS_PASS 1

theorem resetNRelease_starts {straps : BitVec 3} {boot : BootReads} (hhold : s.power.mode = .resetHold) :
    Runs (.resetNRelease straps none boot) s fun t => t.power.mode = .show ∧ t.mgmt.straps = straps ∧
      t.time.crystalRuns = true ∧ t.time.sysPllLocked = true ∧ rd t F.MEM_BIST_STATUS_PASS = 1 ∧
      (t.sec.running.isSome = true ∨ t.sec.recovery = true) := by
  refine ⟨_, rfl, ?_⟩
  unfold resetRelease
  rw [hhold]
  dsimp only
  generalize hu : (if rd _ F.RST_CAUSE_KIND = 0 then _ else _ : State) = u
  have hstart : Within (keeping [.mgmt .straps] []) { s with
      mgmt := { s.mgmt with straps := straps }
      time := { s.time with crystalRuns := true }
      power := { s.power with pwrEn := true } } u := by
    rw [← hu]
    exact .ite (.rfl' _ _) (Within.rfl' _ _).resetRecord
  have hstraps : u.mgmt.straps = straps := hstart.kept (.mgmt .straps)
  have hloaded : Within (keeping [.power .mode, .time .crystalRuns, .time .sysPllLocked, .mgmt .straps] (keysOf [(F.MEM_BIST_STATUS_PASS, 0)]))
      (startedUp u) (bootRom (startUp u) boot) :=
    ((((((Within.rfl' _ (startedUp u)).pllsLock keeping_allows keysOf_zero).poolShow keysOf_zero).scrubsStart).channelsLoad keeping_allows
      fun _ => keysOf_any (a := _))).bootRom keeping_allows keysOf_zero
  have hpolicy : Within (keeping [.power .mode, .time .crystalRuns, .time .sysPllLocked, .mgmt .straps] []) (startedRunning u) (startedUp u) :=
    ((Within.rfl' _ (startedRunning u)).otpPolicy keeping_wide.openAt).wr (keeping_wide.openAt (fs := [F.MEM_BIST_STATUS_PASS]))
  have hmode : (startedUp u).power.mode = .show := hpolicy.kept (.power .mode)
  have hcrystal : (startedUp u).time.crystalRuns = true := hpolicy.kept (.time .crystalRuns)
  have hpll : (startedUp u).time.sysPllLocked = true := hpolicy.kept (.time .sysPllLocked)
  have hstraps' : (startedUp u).mgmt.straps = u.mgmt.straps := hpolicy.kept (.mgmt .straps)
  have hpass : rd (startedUp u) F.MEM_BIST_STATUS_PASS = 1 := rd_wr_same ..
  exact ⟨(hloaded.kept (.power .mode)).trans hmode, ((hloaded.kept (.mgmt .straps)).trans hstraps').trans hstraps,
    (hloaded.kept (.time .crystalRuns)).trans hcrystal, (hloaded.kept (.time .sysPllLocked)).trans hpll,
    (hloaded.rd_keysOf (g := F.MEM_BIST_STATUS_PASS) Nat.one_pos).trans hpass, bootRom_boots ..⟩

end Whole

/-! The warm reset (R404, R405). -/

section Warm

variable {s : State} {c : Cmd}

theorem aGet_keepFields_in (m : FieldMap) {fs : List Field} {k : Nat} (h : fs.any (fun f => f.hasKey k) = true) :
    aGet (keepFields m fs) k = aGet m k := aGet_filter_of fun _ => h

theorem aGet_keepFields_out (m : FieldMap) {fs : List Field} {k : Nat} (h : fs.any (fun f => f.hasKey k) = false) :
    aGet (keepFields m fs) k = none := aGet_filter_none fun _ => h

/-- The fields that a warm reset keeps. -/
abbrev warmKept : List Field := retFields ++ houseFields ++ powerFields ++ fenceFields ++ warmFields

/-- What a warm reset has before its reset proper. -/
def warmBefore (s : State) : State := testsVoid (flashCut (swapsLand s))

/-- What stands in a warm reset. -/
structure WarmKept (s t : State) : Prop where
  hc : t.time.hc = s.time.hc
  otp : t.sec.otp = s.sec.otp
  layout : t.mgmt.layoutSpent = s.mgmt.layoutSpent
  keys : t.aside.keys = s.aside.keys
  lock : ∀ x < 32, rd t F.BDAC_CEIL_c_LOCK x = rd s F.BDAC_CEIL_c_LOCK x
  codeMax : ∀ x < 32, rd t F.BDAC_CEIL_c_CODE_MAX x = rd s F.BDAC_CEIL_c_CODE_MAX x

theorem WarmKept.trans {t u : State} (h : WarmKept s t) (g : WarmKept t u) : WarmKept s u :=
  ⟨g.hc.trans h.hc, g.otp.trans h.otp, g.layout.trans h.layout, g.keys.trans h.keys, fun x hx => (g.lock x hx).trans (h.lock x hx),
    fun x hx => (g.codeMax x hx).trans (h.codeMax x hx)⟩

/-- The scope of what a warm reset keeps. -/
abbrev warmScope : Scope := keeping [.time .hc, .sec .otp, .mgmt .layoutSpent, .aside .keys]
  (keysOf [(F.BDAC_CEIL_c_LOCK, 0), (F.BDAC_CEIL_c_CODE_MAX, 0)])

theorem warmKept_of_within {t : State} (h : Within warmScope s t) : WarmKept s t :=
  ⟨h.kept (.time .hc), h.kept (.sec .otp), h.kept (.mgmt .layoutSpent), h.kept (.aside .keys), fun _ hx => h.rd_keysOf hx,
    fun _ hx => h.rd_keysOf hx⟩

theorem warmBefore_kept (s : State) : WarmKept s (warmBefore s) :=
  warmKept_of_within ((((Within.rfl' _ s).swapsLand keeping_allows keysOf_opens keysOf_opens).flashCut keeping_allows).testsVoid keeping_allows)

theorem ceil_kept {x : Nat} (hx : x < 32) : warmKept.any (fun f => f.hasKey (F.BDAC_CEIL_c_LOCK.key x 0)) = true ∧
    warmKept.any (fun f => f.hasKey (F.BDAC_CEIL_c_CODE_MAX.key x 0)) = true := by
  have hall : ∀ y < 32, F.BDAC_CEIL_c_LOCK.hasKey (F.BDAC_CEIL_c_LOCK.key y 0) = true ∧
      F.BDAC_CEIL_c_CODE_MAX.hasKey (F.BDAC_CEIL_c_CODE_MAX.key y 0) = true := by decide +kernel
  exact ⟨List.any_eq_true.2 ⟨F.BDAC_CEIL_c_LOCK, by simp [warmFields], (hall x hx).1⟩,
    List.any_eq_true.2 ⟨F.BDAC_CEIL_c_CODE_MAX, by simp [warmFields], (hall x hx).2⟩⟩

theorem ready_out : warmKept.any (fun f => f.hasKey (F.RING_STATUS_READY.key 0 0)) = false := by decide +kernel

/-- What a reset of the whole part has before the reset proper. -/
def retBefore (s : State) : State := testsAtReset (flashCut (swapsLand s))

theorem retBefore_within (s : State) : Within warmScope s (retBefore s) :=
  (((Within.rfl' _ _).swapsLand keeping_allows keysOf_opens keysOf_opens).flashCut keeping_allows).testsAtReset keeping_allows

theorem retReset_parts (s : State) (keep : List Field) : (retReset s keep).fld = keepFields (retBefore s).fld keep ∧
    (retReset s keep).time.hc = (retBefore s).time.hc ∧ (retReset s keep).sec.otp = (retBefore s).sec.otp ∧
    (retReset s keep).sec.session = false ∧ (retReset s keep).eff = [] := by
  unfold retReset
  rw [show testsAtReset (flashCut (swapsLand s)) = retBefore s from rfl]
  generalize retBefore s = u
  exact ⟨rfl, rfl, rfl, rfl, rfl⟩

theorem warmReset_parts (s : State) : (warmReset s).fld = (retReset (warmBefore s) warmKept).fld ∧
    (warmReset s).time.hc = (retReset (warmBefore s) warmKept).time.hc ∧ (warmReset s).sec.otp = (retReset (warmBefore s) warmKept).sec.otp ∧
    (warmReset s).mgmt.layoutSpent = (warmBefore s).mgmt.layoutSpent ∧ (warmReset s).aside.keys = (warmBefore s).aside.keys ∧
    (warmReset s).eff = (retReset (warmBefore s) warmKept).eff ∧ (warmReset s).power.warmPending = false ∧
    (warmReset s).sec.session = (retReset (warmBefore s) warmKept).sec.session := by
  unfold warmReset
  rw [show testsVoid (flashCut (swapsLand s)) = warmBefore s from rfl]
  generalize warmBefore s = v
  dsimp only
  generalize retReset v warmKept = t
  exact ⟨rfl, rfl, rfl, rfl, rfl, rfl, rfl, rfl⟩

theorem warmReset_kept (s : State) : WarmKept s (warmReset s) := by
  obtain ⟨hfld, hhc, hotp, hlayout, hkeys, -, -, -⟩ := warmReset_parts s
  obtain ⟨rfld, rhc, rotp, -, -⟩ := retReset_parts (warmBefore s) warmKept
  have hbefore := warmBefore_kept s
  have hret := warmKept_of_within (retBefore_within (warmBefore s))
  refine ⟨?_, ?_, hlayout.trans hbefore.layout, hkeys.trans hbefore.keys, fun x hx => ?_, fun x hx => ?_⟩
  · exact ((hhc.trans rhc).trans hret.hc).trans hbefore.hc
  · exact ((hotp.trans rotp).trans hret.otp).trans hbefore.otp
  · rw [← hbefore.lock x hx, ← hret.lock x hx]
    refine rd_eq_of_aGet ?_
    rw [hfld, rfld]
    exact aGet_keepFields_in _ (ceil_kept hx).1
  · rw [← hbefore.codeMax x hx, ← hret.codeMax x hx]
    refine rd_eq_of_aGet ?_
    rw [hfld, rfld]
    exact aGet_keepFields_in _ (ceil_kept hx).2

theorem warmReset_ready (s : State) : rd (warmReset s) F.RING_STATUS_READY = 0 := by
  rw [rd, (warmReset_parts s).1, (retReset_parts (warmBefore s) warmKept).1, fGet, aGet_keepFields_out _ ready_out]
  rfl

/-- Words found lost as the stored corrections are read show in the fields of their own instances. -/
theorem Within.channelsLoadAt {R : Scope} {t : State} (h : Within R s t) (hp : R.Allows [.cal .sets, .cal .inUse, .cal .targets])
    (hcal : ∀ c : CalTarget, ∀ i < 32, R.OpenAt [F.CAL_INFO_SETS c] i) : Within R s (Machine.channelsLoad t) := by
  have hlost : ∀ {u : State} (a : Nat), Within R s u → Within R s (Machine.calSetLost u a) := fun {u} a hu => by
    unfold Machine.calSetLost
    refine hu.foldl fun v e _ hv => ?_
    exact (hv.withCalSets hp.mono).wr (hcal (keyTarget (e.1 / 8)) _ (keyInst_lt _)) (hf := List.mem_singleton_self _)
  have hread : ∀ {u : State} (key : Nat), Within R s u → Within R s (Machine.storeRead u key) := fun {u} key hu => by
    unfold Machine.storeRead
    exact hu.foldl fun v k _ hv => .ite (hlost _ hv.eccRead) hv.eccRead
  have hload : ∀ {u : State} (c : CalTarget) (i : Nat), Within R s u → Within R s (Machine.loadCorrections u c i) := fun {u} c i hu => by
    unfold Machine.loadCorrections
    refine hu.foldl fun v key _ hv => ?_
    dsimp only
    split
    · exact ((hread key hv).setTarget hp.mono).withCalInUse hp.mono
    · exact hread key hv
  unfold Machine.channelsLoad Machine.senseLoad
  exact (h.foldl fun _ _ _ hu => hload _ _ hu).foldl fun _ _ _ hu => hload _ _ hu

/-- The fields that the tail of a warm reset keeps. -/
abbrev warmShown : List (Field × Nat) :=
  [(F.BDAC_CEIL_c_LOCK, 0), (F.BDAC_CEIL_c_CODE_MAX, 0), (F.RING_STATUS_READY, 0), (F.RST_CAUSE_KIND, 0)]

theorem warmShown_apart (c : CalTarget) {i : Nat} (hi : i < 32) : (F.CAL_INFO_SETS c).key i 0 ∉ keysOf warmShown := by
  have hall : ∀ k < 32, (F.CAL_INFO_SETS c).key k 0 ∉ keysOf warmShown := by
    cases c
    · decide +kernel
    · decide +kernel
    · decide +kernel
    · decide +kernel
    · decide +kernel
  exact hall i hi

theorem warmReset_done {boot : BootReads} (hpending : s.power.warmPending = true) (hup : deviceUp s = true) :
    Runs (.warmReset boot) s fun t =>
      t.power.warmPending = false ∧ t.eff = [] ∧ t.time.hc = s.time.hc ∧ t.sec.otp = s.sec.otp ∧
      t.mgmt.layoutSpent = s.mgmt.layoutSpent ∧ t.aside.keys = s.aside.keys ∧ t.sec.session = false ∧
      rd t F.RST_CAUSE_KIND = 3 ∧ rd t F.RING_STATUS_READY = 0 ∧
      ∀ x : Fin 32, rd t F.BDAC_CEIL_c_LOCK x = rd s F.BDAC_CEIL_c_LOCK x ∧
        rd t F.BDAC_CEIL_c_CODE_MAX x = rd s F.BDAC_CEIL_c_CODE_MAX x := by
  obtain ⟨-, -, -, -, -, heff, hwarm, hsession⟩ := warmReset_parts s
  obtain ⟨-, -, -, rsession, reff⟩ := retReset_parts (warmBefore s) warmKept
  have hkept := warmReset_kept s
  have hready := warmReset_ready s
  have heff' := heff.trans reff
  have hsession' := hsession.trans rsession
  generalize hw : warmReset s = w at hkept hready heff' hsession' hwarm
  generalize hu : wr (wr w F.RST_CAUSE_KIND 3) F.RST_CAUSE_RAIL 0 = u
  have hu' : Within (keeping [.time .hc, .sec .otp, .mgmt .layoutSpent, .aside .keys, .eff, .power .warmPending, .sec .session]
      (keysOf [(F.BDAC_CEIL_c_LOCK, 0), (F.BDAC_CEIL_c_CODE_MAX, 0), (F.RING_STATUS_READY, 0)])) w u := by
    rw [← hu]
    exact ((Within.rfl' _ w).wr (fs := [F.RST_CAUSE_KIND]) keysOf_zero).wr (fs := [F.RST_CAUSE_RAIL]) keysOf_zero
  have hkind : rd u F.RST_CAUSE_KIND = 3 := by
    rw [← hu]
    exact (rd_wr_apart ..).trans (rd_wr_same ..)
  generalize ht : bootRom (channelsLoad (scrubsStart (poolShow (pllsLock (resetRecord (incSat u F.RST_COUNTS_WARM) 3 locWholeDie))))) boot = t
  have ht' : Within (keeping [.time .hc, .sec .otp, .mgmt .layoutSpent, .aside .keys, .eff, .power .warmPending, .sec .session]
      (keysOf warmShown)) u t := by
    rw [← ht]
    refine Within.bootRom (Within.channelsLoadAt (((((Within.rfl' _ u).incSat (fs := [F.RST_COUNTS_WARM]) keysOf_zero).resetRecord).pllsLock
      keeping_allows keysOf_zero).poolShow keysOf_zero).scrubsStart keeping_allows fun c i hi => ?_) keeping_allows keysOf_zero
    refine keeping_openAt fun f hf j hj => ?_
    rw [List.mem_singleton.1 hf]
    rw [List.mem_singleton.1 hf] at hj
    obtain rfl : j = 0 := hj.elim id fun h1 => Nat.lt_one_iff.1 (by cases c <;> exact h1)
    exact warmShown_apart c hi
  have hut : WarmKept u t := ⟨ht'.kept (.time .hc), ht'.kept (.sec .otp), ht'.kept (.mgmt .layoutSpent), ht'.kept (.aside .keys),
    fun _ hx => ht'.rd_keysOf hx, fun _ hx => ht'.rd_keysOf hx⟩
  have hwu : WarmKept w u := ⟨hu'.kept (.time .hc), hu'.kept (.sec .otp), hu'.kept (.mgmt .layoutSpent), hu'.kept (.aside .keys),
    fun _ hx => hu'.rd_keysOf hx, fun _ hx => hu'.rd_keysOf hx⟩
  obtain ⟨hhc, hotp, hlayout, hkeys, hlock, hcode⟩ := (hkept.trans hwu).trans hut
  refine runs_of_eq rfl (t := t) ?_ ⟨?_, ?_, hhc, hotp, hlayout, hkeys, ?_, ?_, ?_, fun x => ⟨hlock x x.isLt, hcode x x.isLt⟩⟩
  · unfold warmResetRow
    rw [if_pos (by rw [hpending, hup]; rfl)]
    dsimp only
    rw [hw, hu, ht]
  · exact ((ht'.kept (.power .warmPending)).trans (hu'.kept (.power .warmPending))).trans hwarm
  · exact ((ht'.kept .eff).trans (hu'.kept .eff)).trans heff'
  · exact ((ht'.kept (.sec .session)).trans (hu'.kept (.sec .session))).trans hsession'
  · exact (ht'.rd_keysOf (g := F.RST_CAUSE_KIND) Nat.one_pos).trans hkind
  · exact ((ht'.rd_keysOf (g := F.RING_STATUS_READY) Nat.one_pos).trans (hu'.rd_keysOf (g := F.RING_STATUS_READY) Nat.one_pos)).trans hready

theorem rstWarm_pends (htaken : Taken 0x0910 [] c s) (hupdate : s.sec.update = none) (htrial : (bootRecord s).trial = false)
    (hcopying : s.book.copying = none) : CompletesOk (.rstWarm c) 0x0910 c s 0 0 fun u =>
      u.power.warmPending = true ∧ u.mgmt.restartCause = none := by
  refine completesOk_of_copy htaken rfl (fun _ _ => rfl) (w := fun v => { v with
      power := { v.power with warmPending := true }
      mgmt := { v.mgmt with restartCause := none } }) (fun v hv hcopy => ?_) fun _ _ _ => ⟨rfl, rfl⟩
  have hboot : bootRecord v = bootRecord s := by simp only [bootRecord, bootCopy, hv.sec]
  refine withChecks_pass (firstFail_none _ ?_)
  simp only [List.forall_mem_cons, hv.sec, hupdate, hboot, htrial, hcopy.copying, hcopying]
  exact ⟨rfl, fun _ h => nomatch h⟩

end Warm

/-! The restart of the management processor (R406, R407). -/

section Restart

variable {s : State} {c : Cmd}

theorem rstMgmt_requests (htaken : Taken 0x0911 [] c s) : CompletesOk (.rstMgmt c) 0x0911 c s 0 0 fun u =>
    u.mgmt.restartCause = if s.power.warmPending || s.mgmt.restartCause.isSome then s.mgmt.restartCause else some 1 := by
  refine completesOk_of_reports htaken rfl (fun _ _ => rfl) (w := fun v => requestMgmt v 1) (fun _ _ => rfl) fun v hv => ?_
  unfold requestMgmt
  rw [hv.power, hv.mgmt_restartCause]
  split
  · exact hv.mgmt_restartCause
  · rfl

/-- A restart of the management processor begins: its cause is counted, the ring engine waits. -/
def restartBegun (s : State) (cause : Nat) : State :=
  resetRecord (wr (wr (incSat (wr (flashCut s) F.RST_CAUSE_MGMT_CAUSE cause) F.RST_COUNTS_MGMT) F.RING_STATUS_READY 0)
    F.RING_STATUS_RESTARTING 1) 4 (locMgmt 0)

/-- What a restart of the management processor ends. -/
def restartCleared (s : State) : State :=
  { reloadMgmtBanks s with
    mgmt := { unwaited s.mgmt with
      restartCause := none
      afterRestart := true }
    book := copyCut s.book
    obs := { s.obs with
      image := none
      imageCopying := false
      imageLocked := false }
    sec := { s.sec with
      session := false
      fieldDiag := false
      challenge := none
      lockClosed := false
      update := none
      ops := []
      applyDue := false
      migration := none } }

theorem restartBegun_kept (s : State) (cause : Nat) : (restartBegun s cause).eff = s.eff ∧ (restartBegun s cause).time.hc = s.time.hc ∧
    rd (restartBegun s cause) F.RING_STATUS_READY = 0 := by
  generalize hu : incSat (wr (flashCut s) F.RST_CAUSE_MGMT_CAUSE cause) F.RST_COUNTS_MGMT = u
  have hkept : Within (keeping [.eff, .time .hc] []) s (restartBegun s cause) := by
    unfold restartBegun
    exact ((((((Within.rfl' _ s).flashCut keeping_allows).wr (keeping_wide.openAt (fs := [F.RST_CAUSE_MGMT_CAUSE]))).incSat
      (keeping_wide.openAt (fs := [F.RST_COUNTS_MGMT]))).wr (keeping_wide.openAt (fs := [F.RING_STATUS_READY]))).wr
      (keeping_wide.openAt (fs := [F.RING_STATUS_RESTARTING]))).resetRecord
  refine ⟨hkept.kept .eff, hkept.kept (.time .hc), ?_⟩
  unfold restartBegun resetRecord
  rw [hu]
  exact (bookWrite_reports ..).rd_quiet.trans ((rd_wr_apart ..).trans (rd_wr_same ..))

theorem restartCleared_parts (s : State) : (restartCleared s).mgmt.restartCause = none ∧ (restartCleared s).mgmt.afterRestart = true ∧
    (restartCleared s).sec.session = false ∧ (restartCleared s).sec.update = none ∧ (restartCleared s).eff = s.eff ∧
    (restartCleared s).time.hc = s.time.hc ∧ (restartCleared s).fld = s.fld := by
  simp only [restartCleared, reloadMgmtBanks, and_self]

/-- The adaptations of a device whose management restarts stop. -/
def restartStopped (s : State) : State :=
  let t := (List.range 8).foldl (fun t n => xaStop t n 8) s
  { t with lanes := { t.lanes with
      xaStart := Vector.replicate 8 none
      revertDue := Vector.replicate 8 false } }

theorem mgmtRestart_eq {boot : BootReads} {cause : Nat} (hcause : s.mgmt.restartCause = some cause) (hup : deviceUp s = true) :
    mgmtRestart boot s = bootRom (restartStopped (restartCleared (restartBegun s cause))) boot := by
  unfold mgmtRestart
  split
  · next h => rw [hcause] at h; nomatch h
  · next k h =>
    obtain rfl : cause = k := Option.some.inj (hcause.symm.trans h)
    rw [if_neg (by rw [hup]; decide)]
    extract_lets +onlyGivenNames s1 s2 _ _ _ _ s3 s4
    have hs3 : s3 = restartCleared s2 := rfl
    have hs4 : s4 = (List.range 8).foldl (fun t n => xaStop t n 8) s3 := rfl
    have hs2 : s2 = restartBegun s cause := rfl
    clear_value s4 s3 s2
    rw [hs4, hs3, hs2, restartStopped]

theorem mgmtRestart_restarts {boot : BootReads} {cause : Nat} (hcause : s.mgmt.restartCause = some cause) (hup : deviceUp s = true) :
    Runs (.mgmtRestart boot) s fun t => t.mgmt.restartCause = none ∧ rd t F.RING_STATUS_READY = 0 ∧
      t.mgmt.afterRestart = true ∧ t.sec.session = false ∧ t.sec.update = none ∧ t.eff = s.eff ∧
      t.time.hc = s.time.hc ∧ (t.sec.running.isSome = true ∨ t.sec.recovery = true) := by
  obtain ⟨heff, hhc, hready⟩ := restartBegun_kept s cause
  obtain ⟨hrestart, hafter, hsession, hupdate, heffv, hhcv, hfld⟩ := restartCleared_parts (restartBegun s cause)
  have hready' : rd (restartCleared (restartBegun s cause)) F.RING_STATUS_READY = 0 := (rd_of_fld hfld ..).trans hready
  refine runs_of_eq rfl (mgmtRestart_eq hcause hup) ?_
  generalize restartCleared (restartBegun s cause) = v at hrestart hafter hsession hupdate heffv hhcv hready' ⊢
  have hopens : (keeping [.mgmt .restartCause, .mgmt .afterRestart, .sec .session, .sec .update, .eff, .time .hc]
      (keysOf [(F.RING_STATUS_READY, 0)])).Opens [F.LTX_XA_STATUS_REASON, F.LTX_XA_STATUS_STATE] 8 := keysOf_opens
  have hstops := (Within.rfl' (keeping [.mgmt .restartCause, .mgmt .afterRestart, .sec .session, .sec .update, .eff, .time .hc]
      (keysOf [(F.RING_STATUS_READY, 0)])) v).foldl (l := List.range 8) (f := fun t n => xaStop t n 8) fun _ n hn ht =>
        ht.xaStop keeping_allows keysOf_opens (hopens n (List.mem_range.1 hn))
  have hkept : Within _ v (bootRom (restartStopped v) boot) :=
    (hstops.withLanesXaStartRevertDue keeping_allows).bootRom keeping_allows keysOf_zero
  exact ⟨(hkept.kept (.mgmt .restartCause)).trans hrestart,
    (hkept.rd_keysOf (g := F.RING_STATUS_READY) Nat.one_pos).trans hready',
    (hkept.kept (.mgmt .afterRestart)).trans hafter, (hkept.kept (.sec .session)).trans hsession, (hkept.kept (.sec .update)).trans hupdate,
    ((hkept.kept .eff).trans heffv).trans heff, ((hkept.kept (.time .hc)).trans hhcv).trans hhc, bootRom_boots ..⟩

end Restart

/-! The reset of a port (R408). -/

section Port

variable {s v : State} {c : Cmd} {p : Nat}

theorem OnlyReports.portRehearsing (h : OnlyReports s v) (p : Nat) : Machine.portRehearsing v p = Machine.portRehearsing s p := by
  have hsame : ∀ k, rehearsing v k = rehearsing s k := fun k => funext fun i => rehearsing_of_test h.test k i
  simp only [Machine.portRehearsing, hsame, portLines_of_eff h.eff, portHosts_of_eff h.eff]

/-- What a port's reset keeps of the device, and what its machine shows. -/
abbrev PortKept (s t : State) : Prop := Within (keeping [.eff, .power .mode, .path .superRx] (keysOf linkShown)) s t

theorem PortKept.state (h : PortKept s v) (hp : p < 8) : linkState v p = linkState s p := h.rd_keysOf (g := F.PCS_LINK_STATUS_STATE) hp

theorem PortKept.rdE (h : PortKept s v) (f : Field) (i j : Nat) : rdE v f i j = Machine.rdE s f i j := rdE_of_eff (h.kept .eff) ..

/-- A port's machine in state 1 follows its control by holding it, where HOLD is set, and by nothing else. -/
theorem linkFollow_acquiring (hstate : linkState s p = 1) (hup : rdE s F.PCS_PORT_CTRL_ADMIN_UP p = 1) :
    linkFollow s p = if rdE s F.PCS_LINK_CTRL_HOLD p = 1 then linkGo (setLink s p { linkPort s p with resume := 1 }) p 6 0 else s := by
  unfold linkFollow
  extract_lets +onlyGivenNames st
  rw [show st = 1 from hstate, if_neg (by rw [hup]; decide)]
  by_cases hhold : rdE s F.PCS_LINK_CTRL_HOLD p = 1
  · rw [if_pos ⟨Nat.le_refl 1, by decide, hhold⟩, if_pos hhold]
  · rw [if_neg fun h => hhold h.2.2, if_neg fun h => absurd h.1 (by decide), if_neg fun h => absurd h.1 (by decide), if_neg hhold]

theorem linkGo_kept (s : State) (p new reason : Nat) :
    Within (keeping [.eff, .power .mode, .path .superRx] []) s (linkGo s p new reason) :=
  (Within.rfl' _ s).linkGo keeping_allows keeping_wide.openAt keeping_wide.opens keeping_wide.any keeping_wide.opens

/-- Taken up again, a port that is not held acquires. -/
theorem portFollows_shows (s : State) (hp : p < 8) (hup : rdE s F.PCS_PORT_CTRL_ADMIN_UP p = 1) :
    (linkFollow (linkGo s p 1 10) p).path.superRx = s.path.superRx ∧
    (rdE s F.PCS_LINK_CTRL_HOLD p = 0 → linkState (linkFollow (linkGo s p 1 10) p) p = 1) := by
  have hgo := linkGo_kept s p 1 10
  have hstate := (linkGo_shows s hp 1 10).1
  generalize linkGo s p 1 10 = t at hgo hstate ⊢
  rw [linkFollow_acquiring hstate ((rdE_of_eff (hgo.kept .eff) ..).trans hup), rdE_of_eff (hgo.kept .eff)]
  refine ⟨?_, fun hhold => by rw [if_neg (by rw [hhold]; decide)]; exact hstate⟩
  split
  · exact (linkGo_kept ..).kept (.path .superRx) |>.trans (hgo.kept (.path .superRx))
  · exact hgo.kept (.path .superRx)

/-- The state of a port under reset: its machine goes to state 0. -/
theorem portDown_shows (s : State) (hp : p < 8) :
    linkState (if linkState s p = 0 then txFollowPort (enterState s p 0) p else linkGo s p 0 10) p = 0 := by
  split
  next h => exact (LinkKept.state ((Within.enterState_kept (Within.rfl' _ s) hp 0).txFollowPort keeping_allows keysOf_opens keysOf_opens) hp).trans h
  next => exact (linkGo_shows s hp 0 10).1

theorem portDown_kept (s : State) (p : Nat) : Within (keeping [.eff, .power .mode, .path .superRx] []) s
    (if linkState s p = 0 then txFollowPort (enterState s p 0) p else linkGo s p 0 10) :=
  .ite (((Within.rfl' _ s).enterState keeping_allows keeping_wide.any keeping_wide.opens keeping_wide.openAt keeping_wide.opens).txFollowPort
    keeping_allows keeping_wide.opens keeping_wide.opens) (linkGo_kept ..)

theorem rstPortAct_shows (s : State) (hp : p < 8) : vGet (rstPortAct p s).path.superRx p [] = [] ∧
    (rdE s F.PCS_PORT_CTRL_ADMIN_UP p = 0 → linkState (rstPortAct p s) p = 0) ∧
    (rdE s F.PCS_PORT_CTRL_ADMIN_UP p = 1 → s.power.mode = .show → rdE s F.PCS_LINK_CTRL_HOLD p = 0 →
      linkState (rstPortAct p s) p = 1) := by
  unfold rstPortAct
  extract_lets +onlyGivenNames s1 s2 s3 s4 s5 _ s6 s7 s8 s9
  have hs1 : PortKept s s1 := (Within.rfl' _ s).resetRecord.wr (fs := [F.PCS_LINK_STATUS_BACKOFF]) (keysOf_opens (n := 8) (h := by decide +kernel) _ hp)
  have hs2 : linkState s2 p = 0 := portDown_shows s1 hp
  have hs2' : Within (keeping [.eff, .power .mode, .path .superRx] []) s1 s2 := portDown_kept s1 p
  have hs5 : PortKept s2 s5 := by
    have hs3 : PortKept s2 s3 := (Within.rfl' _ s2).foldl fun _ _ _ h => h.laneReinit keeping_allows keysOf_opens keysOf_opens
    have hrm : (keeping [.eff, .power .mode, .path .superRx] (keysOf linkShown)).OpenAt rmFields p :=
      keysOf_opens (n := 8) (h := by decide +kernel) _ hp
    exact ((((hs3.setLink keeping_allows).setPortPath keeping_allows).setPortPath keeping_allows).rmShow hrm).rmShow hrm
  clear_value s5 s2
  obtain ⟨w, x, y, hs6, hsuperw, hfldw, heffw, hmodew⟩ : ∃ w x y, s6 = useMap w p x y ∧ vGet w.path.superRx p [] = [] ∧ w.fld = s5.fld ∧
      w.eff = s5.eff ∧ w.power.mode = s5.power.mode := ⟨_, _, _, rfl, vGet_vSet_same _ _ _ _ hp, rfl, rfl, rfl⟩
  have hmap : PortKept w s6 := hs6 ▸ (Within.rfl' _ w).useMap keeping_allows (keysOf_opens (n := 8) (h := by decide +kernel) _ hp)
    fun _ => keysOf_any (a := _)
  have hsuper := (congrArg (vGet · p []) (hmap.kept (.path .superRx))).trans hsuperw
  have hstate : linkState s6 p = linkState s5 p := (hmap.state hp).trans (rd_of_fld hfldw ..)
  have heff := (hmap.kept .eff).trans heffw
  have hmode := (hmap.kept (.power .mode)).trans hmodew
  have hs9 : PortKept s6 s9 := by
    have hs7 : PortKept s6 s7 := ((Within.rfl' _ s6).restartClocks keeping_allows).flowFlushPort keeping_allows
    have hs8 : PortKept s6 s8 := hs7.foldl fun _ _ _ h => h.challengeRestart keeping_allows (keysOf_any (a := _))
    exact hs8.cancelCues keeping_allows keysOf_opens
  have hsuper9 : vGet s9.path.superRx p [] = [] := (congrArg (vGet · p []) (hs9.kept (.path .superRx))).trans hsuper
  have hstate9 : linkState s9 p = 0 := (hs9.state hp).trans (hstate.trans ((hs5.state hp).trans hs2))
  have heff9 : s9.eff = s.eff :=
    (hs9.kept .eff).trans (heff.trans ((hs5.kept .eff).trans ((hs2'.kept .eff).trans (hs1.kept .eff))))
  have hmode9 : s9.power.mode = s.power.mode := (hs9.kept (.power .mode)).trans
    (hmode.trans ((hs5.kept (.power .mode)).trans ((hs2'.kept (.power .mode)).trans (hs1.kept (.power .mode)))))
  have hE (f : Field) (i j : Nat) : rdE s9 f i j = rdE s f i j := rdE_of_eff heff9 ..
  clear_value s9
  simp only [← hE, ← hmode9]
  split
  next hgo =>
    obtain ⟨hkept, hshows⟩ := portFollows_shows s9 hp hgo.1
    exact ⟨(congrArg (vGet · p []) hkept).trans hsuper9, fun h => absurd (hgo.1.symm.trans h) (by decide), fun _ _ => hshows⟩
  next hgo => exact ⟨hsuper9, fun _ => hstate9, fun hup hshow => absurd ⟨hup, hshow⟩ hgo⟩

theorem rstPortAct_eff (s : State) (p : Nat) : (rstPortAct p s).eff = s.eff :=
  ((Within.rfl' (keeping [.eff] []) s).rstPortAct keeping_allows keeping_wide.openAt keeping_wide.any keeping_wide.opens
    keeping_wide.opens).kept .eff

theorem rstPort_resets (htaken : Taken 0x0912 [(2, 7)] c s) (hport : portEnabled s (c.w 2) = true)
    (hreh : portRehearsing s (c.w 2) = false) (hwarm : s.power.warmPending = false) (hmgmt : s.mgmt.restartCause = none) :
    CompletesOk (.rstPort c) 0x0912 c s 0 0 fun u => vGet u.path.superRx (c.w 2) [] = [] ∧ u.eff = s.eff ∧
      (rdE s F.PCS_PORT_CTRL_ADMIN_UP (c.w 2) = 0 → linkState u (c.w 2) = 0) ∧
      (rdE s F.PCS_PORT_CTRL_ADMIN_UP (c.w 2) = 1 → s.power.mode = .show → rdE s F.PCS_LINK_CTRL_HOLD (c.w 2) = 0 →
        linkState u (c.w 2) = 1) := by
  obtain ⟨-, -, -, hmask⟩ := id htaken
  have hp : c.w 2 < 8 := cmdWord_lt_of_masked hmask rfl
  refine completesOk_of_reports htaken rfl (fun _ _ => rfl) (w := rstPortAct (c.w 2)) (fun v hv => ?_) fun v hv => ?_
  · unfold rstPort
    refine (withChecks_pass (firstFail_none _ ?_)).trans (if_neg ?_)
    · simp only [List.forall_mem_cons, hv.portRehearsing, hreh, portEnabled, hv.rdE]
      rw [portEnabled] at hport
      exact ⟨by rw [hport]; rfl, trivial, fun _ h => nomatch h⟩
    · rw [hv.power, hv.mgmt_restartCause, hwarm, hmgmt]
      decide
  · obtain ⟨hsuper, hdown, hup⟩ := rstPortAct_shows v hp
    simp only [hv.rdE, hv.power] at hdown hup
    exact ⟨hsuper, (rstPortAct_eff ..).trans hv.eff, hdown, hup⟩

theorem rstPort_waits (htaken : Taken 0x0912 [(2, 7)] c s) (hport : portEnabled s (c.w 2) = true)
    (hreh : portRehearsing s (c.w 2) = false) (hwait : s.power.warmPending = true ∨ s.mgmt.restartCause.isSome = true) :
    GoesOn (.rstPort c) 0x0912 c s 0 0 fun u => u = takenState 0x0912 c s := by
  have hv := taken_reports 0x0912 c s
  refine goesOn_of_body (u := takenState 0x0912 c s) htaken rfl rfl ?_ rfl
  generalize takenState 0x0912 c s = v at hv
  unfold rstPort
  refine (withChecks_pass (firstFail_none _ ?_)).trans (if_pos ?_)
  · simp only [List.forall_mem_cons, hv.portRehearsing, hreh, portEnabled, hv.rdE]
    rw [portEnabled] at hport
    exact ⟨by rw [hport]; rfl, trivial, fun _ h => nomatch h⟩
  · rw [hv.power, hv.mgmt_restartCause, Bool.or_eq_true]
    exact hwait

end Port

/-- Settles O57: each reset runs, and leaves and keeps what its section names. -/
theorem resetCommandsComplete : Obligations.ResetCommandsComplete := by
  unfold Obligations.ResetCommandsComplete
  exact ⟨fun _ _ => powerOnReset_resets, fun _ _ _ _ => deepReset_runs, fun _ _ _ _ => resetDue_dark, fun _ _ _ _ => resetNRelease_fails,
    fun _ _ _ => resetNRelease_starts, fun _ _ => rstWarm_pends, fun _ _ => warmReset_done, fun _ _ => rstMgmt_requests,
    fun _ _ _ => mgmtRestart_restarts, fun _ _ => rstPort_resets, fun _ _ => rstPort_waits⟩

end Sys2Proof.Machine
end

section
/-! PROOFS. The port machine's commands (R165 to R181). -/

namespace Sys2Proof.Machine

open Sys2Proof

set_option Elab.async false

section Going

variable {R : Scope} {s t : State} {p : Nat}

/-- What stands of a port's machine on its way to a state: the one it leaves is reported, and what is lost with it. -/
def linkLeft (s : State) (p new reason : Nat) : State :=
  let old := linkState s p
  let s1 := wr (wr s F.PCS_LINK_STATUS_STATE new p) F.PCS_LINK_STATUS_REASON reason p
  let s2 := raiseEvent s1 (ev 0x8201 (locPort p) (new + old * 2 ^ 4 + reason * 2 ^ 8))
  if (old = 4 ∨ old = 5) ∧ (new = 0 ∨ new = 1 ∨ new = 6) then xaStopPort (clearLost s2 p) p 7 else s2

/-- A port's lanes after its machine has entered a state. -/
def linkSettles (s : State) (p : Nat) : State :=
  (portLaneIds (txFollowPort s p) p).foldl eqRefresh (txFollowPort s p)

theorem linkGo_eq (s : State) (p new reason : Nat) :
    linkGo s p new reason = linkSettles (enterState (linkLeft s p new reason) p new) p := rfl

theorem Within.linkLeft_calm {new reason : Nat} (h : Within R s t) (hcalm : ¬((linkState t p = 4 ∨ linkState t p = 5) ∧ (new = 0 ∨ new = 1 ∨ new = 6)))
    (hk : R.OpenAt [F.PCS_LINK_STATUS_REASON, F.PCS_LINK_STATUS_STATE] p) : Within R s (linkLeft t p new reason) := by
  unfold linkLeft
  extract_lets +onlyGivenNames old s1 s2
  rw [if_neg hcalm]
  exact ((h.wr hk).wr hk).raiseEvent

theorem Within.linkLeft {new reason : Nat} (h : Within R s t) (hp : R.Allows [.time .cues, .lanes .xa, .link])
    (hk : R.OpenAt [F.PCS_LINK_STATUS_LOST, F.PCS_LINK_STATUS_REASON, F.PCS_LINK_STATUS_STATE] p)
    (hk8 : R.Opens [F.LTX_STATUS_SEALED, F.LTX_XA_STATUS_REASON, F.LTX_XA_STATUS_STATE] 8) :
    Within R s (Machine.linkLeft t p new reason) := by
  unfold Machine.linkLeft
  extract_lets +onlyGivenNames old s1 s2
  have hs2 : Within R s s2 := ((h.wr hk).wr hk).raiseEvent
  exact .ite ((hs2.clearLost (hp.mono (by decide)) (hk.mono (by decide))).xaStopPort (hp.mono (by decide)) hk8) hs2

theorem Within.linkSettles (h : Within R s t) (hp : R.Allows [.lanes .lineOut, .lanes .hostOut, .cal .skewLive])
    (hk8 : R.Opens (eqStateFields ++ lineTxFields) 8) (hk16 : R.Opens (hostEqFields ++ hostTxFields) 16) :
    Within R s (Machine.linkSettles t p) :=
  (h.txFollowPort hp (hk8.mono (by decide)) (hk16.mono (by decide))).foldl fun _ _ _ hu =>
    hu.eqRefresh (hk8.mono (by decide)) (hk16.mono (by decide))

theorem enterState_stays (s : State) (p : Nat) {new : Nat} (h : new = 2 ∨ new = 4) : enterState s p new = s := by
  obtain rfl | rfl := h <;> rfl

/-- A port's machine that goes on to state 2 or 4 leaves all but its transmitters' and equalisers' states. -/
theorem Within.linkGo_on {new reason : Nat} (h : Within R s t) (hnew : new = 2 ∨ new = 4)
    (hp : R.Allows [.lanes .lineOut, .lanes .hostOut, .cal .skewLive])
    (hk : R.OpenAt [F.PCS_LINK_STATUS_REASON, F.PCS_LINK_STATUS_STATE] p)
    (hk8 : R.Opens (eqStateFields ++ lineTxFields) 8) (hk16 : R.Opens (hostEqFields ++ hostTxFields) 16) :
    Within R s (Machine.linkGo t p new reason) := by
  rw [linkGo_eq, enterState_stays _ _ hnew]
  exact (h.linkLeft_calm (by omega) hk).linkSettles hp hk8 hk16

end Going

section Shown

variable {s t : State} {p : Nat}

theorem linkBackoff_shows (s : State) (hp : p < 8) (reason : Nat) : linkState (linkBackoff s p reason) p = 0 ∧
    rd (linkBackoff s p reason) F.PCS_LINK_STATUS_BACKOFF p = 1 ∧
    rd (linkBackoff s p reason) F.PCS_LINK_STATUS_REASON p = reason % 256 := by
  obtain ⟨hstate, hreason⟩ := linkGo_shows (wr s F.PCS_LINK_STATUS_BACKOFF 1 p) hp 0 reason
  have hkept : Within (keeping [] (keysOf [(F.PCS_LINK_STATUS_BACKOFF, 0)])) (wr s F.PCS_LINK_STATUS_BACKOFF 1 p) (linkBackoff s p reason) :=
    (Within.rfl' _ _).linkGo keeping_allows (keysOf_opens (n := 8) (h := by decide +kernel) _ hp) keysOf_opens
      (fun _ => keysOf_any (a := _)) keysOf_opens
  exact ⟨hstate, (hkept.rd_keysOf (g := F.PCS_LINK_STATUS_BACKOFF) hp).trans (rd_wr_same ..), hreason⟩

/-- The lanes' lock and what a port's map and control give. -/
abbrev LockKept (s t : State) : Prop := Within (keeping [.eff, .lanes .lock] (keysOf [(F.PCS_RX_MAP_USE_PHYS, 0)])) s t

theorem lockOf_of_lock (h : t.lanes.lock = s.lanes.lock) (x : Nat) : lockOf t x = lockOf s x := by rw [lockOf, lockOf, h]

theorem LockKept.laneRight (h : LockKept s t) (hp : p < 8) (i : Nat) : laneRight t p i = laneRight s p i := by
  have hphys : rd t F.PCS_RX_MAP_USE_PHYS p = rd s F.PCS_RX_MAP_USE_PHYS p := h.rd_keysOf (g := F.PCS_RX_MAP_USE_PHYS) hp
  simp only [Machine.laneRight, physOf, hphys, lockOf_of_lock (h.kept (.lanes .lock))]

theorem LockKept.portLines (h : LockKept s t) (p : Nat) : portLines t p = portLines s p := portLines_of_eff (h.kept .eff) p

theorem LockKept.portWidth (h : LockKept s t) (p : Nat) : portWidth t p = portWidth s p := by
  simp only [Machine.portWidth, rdE_of_eff (h.kept .eff)]

theorem markerSpan_of_eff (h : t.eff = s.eff) (p : Nat) : markerSpan t p = markerSpan s p := by
  unfold markerSpan lineSymbols portFormat innerCode halfRate
  rw [rdE_of_eff h, rdE_of_eff h, rdE_of_eff h]

theorem skewUnit_of_eff (h : t.eff = s.eff) : skewUnit t = skewUnit s := by
  unfold skewUnit innerCode halfRate
  rw [rdE_of_eff h, rdE_of_eff h]

theorem skewWithin_of_eff (h : t.eff = s.eff) (p k : Nat) : skewWithin t p k = skewWithin s p k := by
  rw [skewWithin, skewWithin, skewUnit_of_eff h, rdE_of_eff h]

theorem laneSkew_of_lock (h : t.eff = s.eff) (hlock : t.lanes.lock = s.lanes.lock) (p x : Nat) : laneSkew t p x = laneSkew s p x := by
  simp only [laneSkew, latestPaired, latestArrival, pairedArrival, groupShift, markerSpan_of_eff h, portLines_of_eff h,
    lockOf_of_lock hlock]

theorem LockKept.deskewGood (h : LockKept s t) (p : Nat) : deskewGood t p = deskewGood s p := by
  simp only [Machine.deskewGood, h.portLines, skewWithin_of_eff (h.kept .eff), laneSkew_of_lock (h.kept .eff) (h.kept (.lanes .lock))]

/-- A port's lines hold no verdict while one of its lanes has not locked. -/
theorem alignJudge_waits (hstate : linkState s p = 2) (hopen : ∃ x ∈ portLines s p, (lockOf s x).state ≠ 2) : alignJudge s p = s := by
  obtain ⟨x, hx, hne⟩ := hopen
  have htest : alignTest (fun t d => alignFail t p d) s p = s := if_neg fun h => hne (eq_of_beq (List.all_eq_true.1 h.2 x hx))
  unfold alignJudge
  rw [htest]
  exact if_neg fun h => absurd (hstate.symm.trans h.1) (by decide)

theorem length_filterMap_lt {α β : Type} {f : α → Option β} {x : α} : ∀ {l : List α}, x ∈ l → f x = none →
    (l.filterMap f).length < l.length
  | y :: l, hx, hnone => by
    cases hy : f y with
    | none => rw [List.filterMap_cons_none hy]; exact Nat.lt_succ_of_le (List.length_filterMap_le f l)
    | some z =>
      obtain rfl | hmem := List.mem_cons.1 hx
      · rw [hy] at hnone; nomatch hnone
      · rw [List.filterMap_cons_some hy]; exact Nat.succ_lt_succ (length_filterMap_lt hmem hnone)

theorem probeJudge_waits (hlines : (portLines s p).length = portWidth s p) (hopen : ∃ x ∈ portLines s p, probeId s p x = none) :
    probeJudge s p = s := by
  obtain ⟨x, hx, hnone⟩ := hopen
  refine if_neg fun h => ?_
  exact absurd (h.2.trans hlines.symm) (Nat.ne_of_lt (length_filterMap_lt hx (by rw [hnone]; rfl)))

end Shown

section Acquisition

variable {s : State} {p : Nat}

theorem linkGo_on_locks (s : State) (hp : p < 8) {new : Nat} (reason : Nat) (hnew : new = 2 ∨ new = 4) : LockKept s (linkGo s p new reason) :=
  (Within.rfl' _ s).linkGo_on hnew keeping_allows (keysOf_opens (n := 8) (h := by decide +kernel) _ hp) keysOf_opens keysOf_opens

theorem acquireComplete_eq (hstate : linkState s p = 1) (hmode : s.path.modeChange = false)
    (hlanes : ∀ n ∈ portLines s p, rd s F.LRX_STATUS_LOS n = 0 ∧ rd s F.LRX_STATUS_LOL n = 0 ∧ rd s F.LEQ_STATUS_STATE n = 2) :
    acquireComplete p s = alignJudge (linkGo s p 2 0) p := by
  refine if_pos ⟨hstate, hmode, List.all_eq_true.2 fun n hn => ?_⟩
  obtain ⟨hlos, hlol, heq⟩ := hlanes n hn
  rw [hlos, hlol, heq]
  rfl

theorem acquireComplete_waits {p : Fin 8} (hstate : linkState s p = 1) (hmode : s.path.modeChange = false)
    (hlanes : ∀ n ∈ portLines s p, rd s F.LRX_STATUS_LOS n = 0 ∧ rd s F.LRX_STATUS_LOL n = 0 ∧ rd s F.LEQ_STATUS_STATE n = 2)
    (hopen : ∃ x ∈ portLines s p, (lockOf s x).state ≠ 2) :
    Runs (.acquireComplete p) s fun t => linkState t p = 2 ∧ rd t F.PCS_LINK_STATUS_REASON p = 0 := by
  obtain ⟨hgone, hreason⟩ := linkGo_shows s p.isLt 2 0
  have hkept := linkGo_on_locks s p.isLt 0 (.inl rfl)
  refine runs_of_eq rfl ((acquireComplete_eq hstate hmode hlanes).trans (alignJudge_waits hgone ?_)) ⟨hgone, hreason⟩
  obtain ⟨x, hx, hne⟩ := hopen
  exact ⟨x, by rwa [hkept.portLines], by rwa [lockOf_of_lock (hkept.kept (.lanes .lock))]⟩

theorem setRxAligned_shows (s : State) (hp : p < 8) (b : Bool) : rd (setRxAligned s p b) F.PCS_ALIGN_STATUS_RX_DESKEWED p = b2n b := by
  unfold setRxAligned
  extract_lets +onlyGivenNames s1
  have hs1 : rd s1 F.PCS_ALIGN_STATUS_RX_DESKEWED p = b2n b := (rd_of_fld rfl ..).trans (rd_wrB_same ..)
  have hreset : Within (keeping [] (keysOf [(F.PCS_ALIGN_STATUS_RX_DESKEWED, 0)])) s1 (rmReset s1 p .rx) :=
    (Within.rfl' _ _).rmReset keeping_allows (keysOf_opens (n := 8) (h := by decide +kernel) _ hp)
  split
  · exact (hreset.rd_keysOf (g := F.PCS_ALIGN_STATUS_RX_DESKEWED) hp).trans hs1
  · exact hs1

/-- A port whose lanes have locked in their places and within the skew limit aligns. -/
theorem alignJudge_aligns (hp : p < 8) (hstate : linkState s p = 2) (hlocked : ∀ x ∈ portLines s p, (lockOf s x).state = 2)
    (hright : ∀ i, i < portWidth s p → laneRight s p i = true) (hskew : deskewGood s p = true) :
    linkState (alignJudge s p) p = 4 ∧ rd (alignJudge s p) F.PCS_ALIGN_STATUS_RX_DESKEWED p = 1 := by
  have htest : alignTest (fun t d => alignFail t p d) s p =
      recordUpTime (linkGo (setRxAligned (groupStart (deskewApply s p) p .rx) p true) p 4 0) p := by
    refine (if_pos ⟨hstate, List.all_eq_true.2 fun x hx => beq_iff_eq.2 (hlocked x hx)⟩).trans ?_
    rw [if_neg (by rw [hskew]; decide), if_pos (List.all_eq_true.2 fun i hi => hright i (List.mem_range.1 hi))]
  generalize hu : groupStart (deskewApply s p) p .rx = u at htest
  have haligned := setRxAligned_shows u hp true
  generalize setRxAligned u p true = v at haligned htest
  have hgone := (linkGo_shows v hp 4 0).1
  have hkept : Within (keeping [] (keysOf [(F.PCS_ALIGN_STATUS_RX_DESKEWED, 0)])) v (linkGo v p 4 0) :=
    (Within.rfl' _ v).linkGo_on (.inr rfl) keeping_allows (keysOf_opens (n := 8) (h := by decide +kernel) _ hp) keysOf_opens keysOf_opens
  have hstate4 : linkState (recordUpTime (linkGo v p 4 0) p) p = 4 := (rd_wr_apart ..).trans hgone
  have hjudge : alignJudge s p = recordUpTime (linkGo v p 4 0) p := by
    unfold alignJudge
    rw [htest]
    exact if_neg fun h => absurd (hstate4.symm.trans h.1) (by decide)
  rw [hjudge]
  exact ⟨hstate4, (rd_wr_far _ _ hp hp).trans ((hkept.rd_keysOf (g := F.PCS_ALIGN_STATUS_RX_DESKEWED) hp).trans haligned)⟩

theorem acquireComplete_aligns {p : Fin 8} (hstate : linkState s p = 1) (hmode : s.path.modeChange = false)
    (hlanes : ∀ n ∈ portLines s p, rd s F.LRX_STATUS_LOS n = 0 ∧ rd s F.LRX_STATUS_LOL n = 0 ∧ rd s F.LEQ_STATUS_STATE n = 2)
    (hlocked : ∀ x ∈ portLines s p, (lockOf s x).state = 2) (hright : ∀ i, i < portWidth s p → laneRight s p i = true)
    (hskew : deskewGood s p = true) :
    Runs (.acquireComplete p) s fun t => linkState t p = 4 ∧ rd t F.PCS_ALIGN_STATUS_RX_DESKEWED p = 1 := by
  have hkept := linkGo_on_locks s p.isLt 0 (.inl rfl)
  refine runs_of_eq rfl (acquireComplete_eq hstate hmode hlanes) (alignJudge_aligns p.isLt (linkGo_shows s p.isLt 2 0).1 ?_ ?_ ?_)
  · intro x hx
    rw [lockOf_of_lock (hkept.kept (.lanes .lock))]
    exact hlocked x (by rwa [hkept.portLines] at hx)
  · intro i hi
    rw [hkept.laneRight p.isLt]
    exact hright i (by rwa [hkept.portWidth] at hi)
  · rwa [hkept.deskewGood]

theorem acqToExpiry_backs {p : Fin 8} (hstate : linkState s p = 1) (hlit : ∃ n ∈ portLines s p, rd s F.LRX_STATUS_LOS n = 0) :
    Runs (.acqToExpiry p) s fun t =>
      linkState t p = 0 ∧ rd t F.PCS_LINK_STATUS_BACKOFF p = 1 ∧ rd t F.PCS_LINK_STATUS_REASON p = 2 := by
  obtain ⟨n, hn, hlos⟩ := hlit
  exact runs_of_eq rfl (if_pos ⟨hstate, List.any_eq_true.2 ⟨n, hn, beq_iff_eq.2 hlos⟩⟩) (linkBackoff_shows s p.isLt 2)

end Acquisition

/-! Alignment and the probe run out of time (R168, R169). -/

section Probing

variable {s : State} {p : Fin 8}

theorem alignToExpiry_backs (hstate : linkState s p = 2) (hwidth : widthMismatch s p = false) (hprobe : rdE s F.PCS_LINK_CTRL_PROBE_EN p = 0)
    (hmap : rdE s F.PCS_LINK_CTRL_MAP_MODE p = 0) :
    Runs (.alignToExpiry p) s fun t =>
      linkState t p = 0 ∧ rd t F.PCS_LINK_STATUS_BACKOFF p = 1 ∧ rd t F.PCS_LINK_STATUS_REASON p = 3 := by
  have hfail : alignFail s p false = alignEnd s p false := if_neg (by rw [hprobe]; simp)
  have hend : alignEnd s p false = linkBackoff s p 3 := by
    unfold alignEnd
    rw [hwidth, hmap]
    rfl
  exact runs_of_eq rfl ((if_pos hstate).trans (hfail.trans hend)) (linkBackoff_shows s p.isLt 3)

theorem vGet_replicate_none {α : Type} (n k : Nat) : vGet (Vector.replicate n (none : Option α)) k none = none := by
  by_cases h : k < n
  · simp [vGet, h]
  · simp [vGet, h]

/-- A port's machine that goes to the probe forgets what HELLOs it had, and says that it has probed. -/
theorem linkGo_probe (hstate : linkState s p = 2) (reason : Nat) : LockKept s (linkGo s p 3 reason) ∧
    (linkPort (linkGo s p 3 reason) p).hello = Vector.replicate 8 none ∧ rd (linkGo s p 3 reason) F.PCS_LINK_STATUS_PROBED p = 1 := by
  have hleft : LockKept s (linkLeft s p 3 reason) := (Within.rfl' _ s).linkLeft_calm (by omega) (keysOf_opens (n := 8) (h := by decide +kernel) _ p.isLt)
  rw [linkGo_eq]
  generalize linkLeft s p 3 reason = u at hleft ⊢
  have hentered : LockKept u (enterState u p 3) :=
    ((Within.rfl' _ u).wr (fs := [F.PCS_LINK_STATUS_PROBED]) (keysOf_opens (n := 8) (h := by decide +kernel) _ p.isLt)).setLink keeping_allows
  have hhello : (linkPort (enterState u p 3) p).hello = Vector.replicate 8 none :=
    congrArg LinkPort.hello (vGet_vSet_same _ _ _ _ p.isLt)
  have hprobed : rd (enterState u p 3) F.PCS_LINK_STATUS_PROBED p = 1 := (rd_of_fld (s := wr u F.PCS_LINK_STATUS_PROBED 1 p) rfl ..).trans (rd_wr_same ..)
  generalize enterState u p 3 = v at hentered hhello hprobed ⊢
  have hsettled : Within (keeping [.link, .eff, .lanes .lock] (keysOf [(F.PCS_RX_MAP_USE_PHYS, 0), (F.PCS_LINK_STATUS_PROBED, 0)])) v
    (linkSettles v p) := (Within.rfl' _ v).linkSettles keeping_allows keysOf_opens keysOf_opens
  refine ⟨(hleft.trans hentered).linkSettles keeping_allows keysOf_opens keysOf_opens, ?_,
    (hsettled.rd_keysOf (g := F.PCS_LINK_STATUS_PROBED) p.isLt).trans hprobed⟩
  rw [linkPort, hsettled.kept .link]
  exact hhello

theorem alignToExpiry_probes (hstate : linkState s p = 2) (hwidth : widthMismatch s p = false) (hprobe : rdE s F.PCS_LINK_CTRL_PROBE_EN p = 1)
    (hmap : rdE s F.PCS_LINK_CTRL_MAP_MODE p = 0) (hfailed : (linkPort s p).failed = false)
    (hlines : (portLines s p).length = portWidth s p) (hopen : ∃ x ∈ portLines s p, (lockOf s x).state ≠ 2) :
    Runs (.alignToExpiry p) s fun t => linkState t p = 3 ∧ rd t F.PCS_LINK_STATUS_PROBED p = 1 := by
  obtain ⟨hkept, hhello, hprobed⟩ := linkGo_probe hstate 0
  have hgone := (linkGo_shows s p.isLt 3 0).1
  have hfail : alignFail s p false = probeJudge (linkGo s p 3 0) p := if_pos (by rw [hwidth, hprobe, hmap, hfailed]; rfl)
  have hwaits : probeJudge (linkGo s p 3 0) p = linkGo s p 3 0 := by
    refine probeJudge_waits (by rw [hkept.portLines, hkept.portWidth, hlines]) ?_
    obtain ⟨x, hx, hne⟩ := hopen
    refine ⟨x, by rwa [hkept.portLines], ?_⟩
    rw [probeId]
    simp only [lockOf_of_lock (hkept.kept (.lanes .lock)), if_neg hne, hhello, vGet_replicate_none]
  exact runs_of_eq rfl ((if_pos hstate).trans (hfail.trans hwaits)) ⟨hgone, hprobed⟩

theorem probeToExpiry_backs (hstate : linkState s p = 3) (hlines : (portLines s p).length = portWidth s p)
    (hopen : ∃ x ∈ portLines s p, probeId s p x = none) :
    Runs (.probeToExpiry p) s fun t =>
      linkState t p = 0 ∧ rd t F.PCS_LINK_STATUS_BACKOFF p = 1 ∧ rd t F.PCS_LINK_STATUS_REASON p = 3 := by
  refine runs_of_eq rfl (t := linkBackoff s p 3) ?_ (linkBackoff_shows s p.isLt 3)
  unfold probeToExpiry
  rw [probeJudge_waits hlines hopen]
  exact if_pos hstate

end Probing

/-! Acquisition begins again (R166, R177). -/

section Again

variable {s : State} {c : Cmd} {p : Nat}

theorem enterState_restarts (s : State) (hp : p < 8) :
    rd (enterState s p 1) F.PCS_LINK_TIME_RESTARTS p = (rd s F.PCS_LINK_TIME_RESTARTS p + 1) % 2 ^ F.PCS_LINK_TIME_RESTARTS.width := by
  have hcounts (w : State) (ls : List LaneId) : rd (ls.foldl laneAcquire (inc (wr w F.PCS_LINK_STATUS_PROBED 0 p) F.PCS_LINK_TIME_RESTARTS 1 p))
      F.PCS_LINK_TIME_RESTARTS p = (rd w F.PCS_LINK_TIME_RESTARTS p + 1) % 2 ^ F.PCS_LINK_TIME_RESTARTS.width := by
    have hlanes : Within (keeping [] (keysOf [(F.PCS_LINK_TIME_RESTARTS, 0)])) (inc (wr w F.PCS_LINK_STATUS_PROBED 0 p) F.PCS_LINK_TIME_RESTARTS 1 p)
        (ls.foldl laneAcquire (inc (wr w F.PCS_LINK_STATUS_PROBED 0 p) F.PCS_LINK_TIME_RESTARTS 1 p)) :=
      (Within.rfl' _ _).foldl fun _ _ _ h => h.laneAcquire keeping_allows keysOf_opens keysOf_opens
    rw [(hlanes.rd_keysOf (g := F.PCS_LINK_TIME_RESTARTS) hp), rd_inc_same, rd_wr_far _ _ hp hp]
  unfold enterState
  extract_lets +onlyGivenNames lanes
  rw [if_neg (by decide), if_neg (by decide), if_pos rfl]
  extract_lets +onlyGivenNames s1 _ s2
  have hs2 : Within (keeping [] (keysOf [(F.PCS_LINK_TIME_RESTARTS, 0)])) s s2 :=
    (((Within.rfl' _ s).setRxAligned keeping_allows (keysOf_opens (n := 8) (h := by decide +kernel) _ hp)).setPaired keeping_allows).setLink
      keeping_allows
  rw [hcounts, hs2.rd_keysOf (g := F.PCS_LINK_TIME_RESTARTS) hp]

theorem backoffExpiry_acquires {p : Fin 8} (hback : rd s F.PCS_LINK_STATUS_BACKOFF p = 1) (hstate : linkState s p = 0)
    (hup : rdE s F.PCS_PORT_CTRL_ADMIN_UP p = 1) (hhold : rdE s F.PCS_LINK_CTRL_HOLD p = 0) (hshow : s.power.mode = .show) :
    Runs (.backoffExpiry p) s fun t => linkState t p = 1 ∧ rd t F.PCS_LINK_STATUS_BACKOFF p = 0 ∧
      rd t F.PCS_LINK_TIME_RESTARTS p = (rd s F.PCS_LINK_TIME_RESTARTS p + 1) % 2 ^ F.PCS_LINK_TIME_RESTARTS.width := by
  generalize hu : wr s F.PCS_LINK_STATUS_BACKOFF 0 p = u
  have hbacku : rd u F.PCS_LINK_STATUS_BACKOFF p = 0 := hu ▸ rd_wr_same ..
  have hstateu : linkState u p = 0 := hu ▸ (rd_wr_apart ..).trans hstate
  have hrestarts : rd u F.PCS_LINK_TIME_RESTARTS p = rd s F.PCS_LINK_TIME_RESTARTS p := hu ▸ rd_wr_far _ _ p.isLt p.isLt
  have hfollow : linkFollow u p = linkGo u p 1 0 := by
    have hupu : rdE u F.PCS_PORT_CTRL_ADMIN_UP p = 1 := hu ▸ hup
    have hholdu : rdE u F.PCS_LINK_CTRL_HOLD p = 0 := hu ▸ hhold
    have hshowu : u.power.mode = .show := hu ▸ hshow
    unfold linkFollow
    extract_lets +onlyGivenNames st
    rw [show st = 0 from hstateu, if_neg (by rw [hupu]; decide), if_neg fun h => absurd h.1 (by decide),
      if_neg fun h => absurd h.1 (by decide), if_pos ⟨rfl, hholdu, hbacku, hshowu⟩]
  refine runs_of_eq rfl (t := linkGo u p 1 0) ?_ ⟨(linkGo_shows u p.isLt 1 0).1, ?_, ?_⟩
  · unfold backoffExpiry
    rw [if_pos hback, hu, hfollow]
  · have hgone : Within (keeping [] (keysOf [(F.PCS_LINK_STATUS_BACKOFF, 0)])) u (linkGo u p 1 0) :=
      (Within.rfl' _ _).linkGo keeping_allows (keysOf_opens (n := 8) (h := by decide +kernel) _ p.isLt) keysOf_opens
        (fun _ => keysOf_any (a := _)) keysOf_opens
    exact (hgone.rd_keysOf (g := F.PCS_LINK_STATUS_BACKOFF) p.isLt).trans hbacku
  · have hleft : Within (keeping [] (keysOf [(F.PCS_LINK_TIME_RESTARTS, 0)])) u (linkLeft u p 1 0) :=
      (Within.rfl' _ u).linkLeft_calm (by rw [hstateu]; decide) (keysOf_opens (n := 8) (h := by decide +kernel) _ p.isLt)
    have hsettled : Within (keeping [] (keysOf [(F.PCS_LINK_TIME_RESTARTS, 0)])) (enterState (linkLeft u p 1 0) p 1) (linkGo u p 1 0) :=
      (Within.rfl' _ _).linkSettles keeping_allows keysOf_opens keysOf_opens
    rw [hsettled.rd_keysOf (g := F.PCS_LINK_TIME_RESTARTS) p.isLt, enterState_restarts _ p.isLt,
      hleft.rd_keysOf (g := F.PCS_LINK_TIME_RESTARTS) p.isLt, hrestarts]

theorem linkRestart_restarts (htaken : Taken 0x0201 [(2, 7)] c s) (hport : portEnabled s (c.w 2) = true)
    (hup : rdE s F.PCS_PORT_CTRL_ADMIN_UP (c.w 2) = 1) (hreh : portRehearsing s (c.w 2) = false) :
    CompletesOk (.linkRestart c) 0x0201 c s 0 0 fun u =>
      (rdE s F.PCS_LINK_CTRL_HOLD (c.w 2) = 0 → linkState u (c.w 2) = 1 ∧ rd u F.PCS_LINK_STATUS_REASON (c.w 2) = 10) ∧
      (rdE s F.PCS_LINK_CTRL_HOLD (c.w 2) = 1 → linkState u (c.w 2) = 6) := by
  obtain ⟨-, -, -, hmask⟩ := id htaken
  have hp : c.w 2 < 8 := cmdWord_lt_of_masked hmask rfl
  refine completesOk_of_reports htaken rfl (fun _ _ => rfl)
    (w := fun v => linkFollow (linkGo (wr v F.PCS_LINK_STATUS_BACKOFF 0 (c.w 2)) (c.w 2) 1 10) (c.w 2)) (fun v hv => ?_) fun v hv => ?_
  · unfold linkRestart
    refine withChecks_pass (firstFail_none _ ?_)
    rw [portEnabled] at hport
    simp only [List.forall_mem_cons, hv.portRehearsing, hreh, portEnabled, hv.rdE, hport, hup]
    exact ⟨rfl, trivial, fun _ h => nomatch h⟩
  · have heff : (wr v F.PCS_LINK_STATUS_BACKOFF 0 (c.w 2)).eff = s.eff := hv.eff
    generalize wr v F.PCS_LINK_STATUS_BACKOFF 0 (c.w 2) = u at heff ⊢
    obtain ⟨hstate, hreason⟩ := linkGo_shows u hp 1 10
    have hgone := (linkGo_kept u (c.w 2) 1 10).kept .eff
    generalize linkGo u (c.w 2) 1 10 = w at hstate hreason hgone ⊢
    have hE (f : Field) (i j : Nat) : rdE w f i j = rdE s f i j := rdE_of_eff (hgone.trans heff) ..
    rw [linkFollow_acquiring hstate ((hE ..).trans hup), hE]
    refine ⟨fun hhold => ?_, fun hhold => ?_⟩
    · rw [if_neg (by rw [hhold]; decide)]
      exact ⟨hstate, hreason⟩
    · rw [if_pos hhold]
      exact (linkGo_shows _ hp 6 0).1

end Again

/-! A lane that was lost rejoins, or does not in time (R174, R175). -/

section Rejoining

variable {s : State} {p i : Nat}

theorem rejoinToExpiry_restarts {p i : Fin 8} (hstate : linkState s p = 5) (hlost : (lostMask s p).testBit i = true) :
    Runs (.rejoinToExpiry p i) s fun t => linkState t p = 1 ∧ rd t F.PCS_LINK_STATUS_REASON p = 9 ∧ lostMask t p = 0 := by
  obtain ⟨hgone, hreason⟩ := linkGo_shows s p.isLt 1 9
  refine runs_of_eq rfl (if_pos ⟨hstate, hlost⟩) ⟨hgone, hreason, ?_⟩
  have hleft : rd (linkLeft s p 1 9) F.PCS_LINK_STATUS_LOST p = 0 := by
    unfold linkLeft
    extract_lets +onlyGivenNames old s1 s2
    rw [if_pos ⟨.inr hstate, .inr (.inl rfl)⟩]
    have hstops : Within (keeping [] (keysOf [(F.PCS_LINK_STATUS_LOST, 0)])) (clearLost s2 p) (xaStopPort (clearLost s2 p) p 7) :=
      (Within.rfl' _ _).xaStopPort keeping_allows keysOf_opens
    exact (hstops.rd_keysOf (g := F.PCS_LINK_STATUS_LOST) p.isLt).trans ((rd_of_fld (s := wr s2 F.PCS_LINK_STATUS_LOST 0 p) rfl ..).trans (rd_wr_same ..))
  have hafter : Within (keeping [] (keysOf [(F.PCS_LINK_STATUS_LOST, 0)])) (linkLeft s p 1 9) (linkGo s p 1 9) :=
    ((Within.rfl' _ _).enterState keeping_allows (fun _ => keysOf_any (a := _)) keysOf_opens
      (keysOf_opens (n := 8) (h := by decide +kernel) _ p.isLt) keysOf_opens).linkSettles keeping_allows keysOf_opens keysOf_opens
  exact (hafter.rd_keysOf (g := F.PCS_LINK_STATUS_LOST) p.isLt).trans hleft

/-- A line lane that rejoins its port: it has its skew again, and is no longer among the port's lost lanes. -/
def laneBack (s : State) (x p i d : Nat) : State :=
  let since := (vGet (linkPort s p).lostAt i none).getD s.time.tick
  let s1 := lockShow (setLineAt (setLock s x { lockOf s x with skew := d }) x (rejoinAt s p x)) p
  let s2 := wr s1 F.PCS_LINK_STATUS_LOST (lostMask s1 p - 2 ^ i) p
  let s3 := setLink s2 p { linkPort s2 p with lostAt := vSet (linkPort s2 p).lostAt i none }
  raiseEvent s3 (ev 0x8203 (locLine x) (i + min 0xFFFFFF ((s.time.tick - since) / 50) * 2 ^ 8))

theorem laneBack_shows (s : State) {x : Nat} (hx : x < 8) (hp : p < 8) (i d : Nat) : (lockOf (laneBack s x p i d) x).skew = d ∧
    lostMask (laneBack s x p i d) p = lostMask s p - 2 ^ i := by
  have hset : (lockOf (setLineAt (setLock s x { lockOf s x with skew := d }) x (rejoinAt s p x)) x).skew = d :=
    congrArg MarkerLock.skew (vGet_vSet_same _ _ _ _ hx)
  have hlost : lostMask (setLineAt (setLock s x { lockOf s x with skew := d }) x (rejoinAt s p x)) p = lostMask s p := rfl
  unfold laneBack
  generalize setLineAt (setLock s x { lockOf s x with skew := d }) x (rejoinAt s p x) = u at hset hlost ⊢
  extract_lets +onlyGivenNames since s1 s2 _ s3
  have hs1 : Within (keeping [] (keysOf [(F.PCS_LINK_STATUS_LOST, 0)])) u s1 :=
    (Within.rfl' _ u).lockShow (keysOf_opens (n := 8) (h := by decide +kernel) _ hp)
  have hlost1 : lostMask s1 p = lostMask s p := (hs1.rd_keysOf (g := F.PCS_LINK_STATUS_LOST) hp).trans hlost
  have hall : Within (keeping [.lanes .lock] []) u s3 :=
    (((Within.rfl' _ u).lockShow keeping_wide.openAt).wr (keeping_wide.openAt (fs := [F.PCS_LINK_STATUS_LOST]))).setLink keeping_allows
  have hevent := raiseEvent_reports s3 (ev 0x8203 (locLine x) (i + min 0xFFFFFF ((s.time.tick - since) / 50) * 2 ^ 8))
  refine ⟨?_, ?_⟩
  · rw [lockOf_of_lock (congrArg (·.lock) hevent.lanes), lockOf_of_lock (hall.kept (.lanes .lock)), hset]
  · refine hevent.rd_quiet.trans ((rd_of_fld (s := s2) rfl ..).trans ((rd_wr_same ..).trans ?_))
    rw [hlost1]
    exact Nat.mod_eq_of_lt (Nat.lt_of_le_of_lt (Nat.sub_le ..) (rd_lt ..))

theorem portOfLine_lt {x : Nat} (h : portOfLine s x = some p) : p < 8 := List.mem_range.1 (List.mem_of_find?_eq_some h)

theorem laneRejoin_rejoins {x : Fin 8} {d : Nat} (hport : portOfLine s x = some p) (hlogical : logicalOf s p x = some i)
    (hdelay : rejoinDelay s p x = some d) (hstate : linkState s p = 5) (hlost : (lostMask s p).testBit i = true)
    (hlos : rd s F.LRX_STATUS_LOS x = 0) (hright : laneRight s p i = true) (hdd : (eqRec s (.line x)).dd = true) :
    Runs (.laneRejoin x) s fun t =>
      (lostMask t p).testBit i = false ∧ (lockOf t x).skew = d ∧ (lostMask s p = 2 ^ i → linkState t p = 4) := by
  have hp := portOfLine_lt hport
  obtain ⟨hskew, hmask⟩ := laneBack_shows s x.isLt hp i d
  have hbit : (lostMask s p - 2 ^ i).testBit i = false := testBit_sub_two_pow hlost
  have heq : laneRejoin x s = if lostMask (laneBack s x p i d) p = 0 then linkGo (laneBack s x p i d) p 4 0 else laneBack s x p i d := by
    unfold laneRejoin
    rw [hport]
    dsimp only
    rw [hlogical]
    dsimp only
    rw [hdelay]
    exact if_pos ⟨hstate, hlost, hlos, hright, by rwa [Fin.ofNat_val_eq_self]⟩
  refine runs_of_eq rfl heq ?_
  rw [hmask]
  generalize laneBack s x p i d = u at hskew hmask ⊢
  split
  next hzero =>
    have hgone : Within (keeping [.lanes .lock] (keysOf [(F.PCS_LINK_STATUS_LOST, 0)])) u (linkGo u p 4 0) :=
      (Within.rfl' _ u).linkGo_on (.inr rfl) keeping_allows (keysOf_opens (n := 8) (h := by decide +kernel) _ hp) keysOf_opens keysOf_opens
    refine ⟨?_, ?_, fun _ => (linkGo_shows u hp 4 0).1⟩
    · rw [show lostMask (linkGo u p 4 0) p = lostMask u p from hgone.rd_keysOf (g := F.PCS_LINK_STATUS_LOST) hp, hmask, hbit]
    · rw [lockOf_of_lock (hgone.kept (.lanes .lock)), hskew]
  next hzero => exact ⟨by rw [hmask, hbit], hskew, fun h => absurd (by rw [h, Nat.sub_self]) hzero⟩

end Rejoining

/-- Settles O25: each command of the port's machine runs and shows where its machine has gone. -/
theorem linkCommandsComplete : Obligations.LinkCommandsComplete := by
  unfold Obligations.LinkCommandsComplete
  exact ⟨fun _ _ => acquireComplete_waits, fun _ _ => acquireComplete_aligns, fun _ _ => acqToExpiry_backs, fun _ _ => alignToExpiry_backs,
    fun _ _ => alignToExpiry_probes, fun _ _ => probeToExpiry_backs, fun _ _ => backoffExpiry_acquires, fun _ _ _ _ _ => laneRejoin_rejoins,
    fun _ _ _ => rejoinToExpiry_restarts, fun _ _ => linkRestart_restarts⟩

end Sys2Proof.Machine
end
